-- ==== Sys2Proof/Word.lean ====
section
/-! DEFINITION. Words and bytes: the plain types that the manual treats as bits. -/

namespace Sys2Proof

/-- One byte of a memory. -/
abbrev Byte := BitVec 8

/-- One 32-bit word on the bus. -/
abbrev Word := BitVec 32

end Sys2Proof
end

