-- ==== Sys2Proof/Syntax.lean ====
section
/-! DEFINITION. The commands of the block: one constructor per row of the spec's table of operations and events,
with the operands that the world outside supplies (instance numbers, written words, measured or physical outcomes). -/

namespace Sys2Proof

/-- Who reaches a register, a semaphore or an ownership flag (Table 01-10, requester codes of R544). -/
inductive Requester where
  | safety
  | hart (c : Fin 4)
  | fabric (p : Fin 32)
  | host
  | engine
  | ring
  | twin
deriving DecidableEq, Repr

/-- A unit with a unit reset bit of its own. -/
inductive UnitId where
  | pos (n : Fin 2)
  | cle (k : Fin 4)
  | pwm (n : Fin 16)
  | isl (n : Fin 12)
  | can (n : Fin 4)
  | ring
deriving DecidableEq, Repr

/-- The predecessor set of a FENCE instruction (Table 13-7); `tso` is FENCE.TSO. -/
structure FenceSet where
  i   : Bool
  o   : Bool
  r   : Bool
  w   : Bool
  tso : Bool
deriving DecidableEq, Repr

/-- The rails of Table 03-1. -/
inductive Rail where
  | core | io | vdda | aon | xfmr
deriving DecidableEq, Repr

/-- What a debug module reset request names. -/
inductive DebugTarget where
  | regionA | regionB | die
deriving DecidableEq, Repr

/-- Physical outcome of one region slot (Tables 04-3 and 04-4): a failing logic test, the failing rows of memories
(memory instance, row), the first fabric cell that differs, the first section whose CRC differs on copy. -/
structure SlotOutcome where
  logicFail  : Bool
  memRows    : List (Fin 16 × Nat)
  fabricBad  : Option (Fin 4096)
  sectionBad : Option (Fin 64)
deriving DecidableEq, Repr

/-- Physical outcome of the tests after the slots: the failing comparators with their crossing (R162), the failing
step of the difference-injection test per region (0 none, R461), the failing islands (R384), the islands' raw latencies
(R381; 0 where the list ends). -/
structure TestOutcome where
  cmpFail : List (Fin 16 × Fin 4)
  diffA   : Fin 5
  diffB   : Fin 5
  islFail : List (Fin 12)
  islRaw  : List (Fin 65536)
deriving DecidableEq, Repr

/-- How the trial count's write-back at step 3 goes (Table 04-12): done, refused, failed, or held by temperature. -/
inductive TrialWrite where
  | done | refused | failed | temperature
deriving DecidableEq, Repr

/-- Physical outcome of one start: the failing fuse word if the two reads differ or the identity check fails, the
trial count's write, the two slots, the tests. -/
structure BootOutcome where
  fuseBad : Option Nat
  trial   : TrialWrite
  slotA   : SlotOutcome
  slotB   : SlotOutcome
  tests   : TestOutcome
deriving DecidableEq, Repr

/-- The voltages that converters sampled, with that of their reference, in microvolts (R229). -/
structure Sampled (α : Type) where
  vin  : α
  vref : Fin 4194304
deriving DecidableEq, Repr

/-- The third phase current at the end of a catch probe, and the uncorrectable error that the probe's lookup in table 1 meets, as an
offset of a copy (R200, R222). -/
structure ProbeEnd where
  ic  : Word
  bad : Option (Fin 0x4A00)
deriving DecidableEq, Repr

/-- A frame of an island's channel; a bad one fails its CRC (R380). -/
structure ChanFrame where
  isl : Fin 12
  bad : Bool
deriving DecidableEq, Repr

/-- A word for mirror register number r of an island (R413); the island's acknowledgement of the oldest word on its way; the loss of
that word's frame by its CRC (R380). -/
inductive MirrorStep where
  | write (r : Fin 11) (d : Word)
  | ack
  | lost
deriving DecidableEq, Repr

/-- An edge of a comparator, the lower one where `low`: the input it watches (R258), the ticks for which its analogue output has
stood (R260), the input's voltage and that of the reference, in microvolts (R259). -/
structure CmpInput where
  low   : Bool
  ain   : Fin 48
  stood : Nat
  vin   : Fin 4194304
  vref  : Fin 4194304
deriving DecidableEq, Repr

/-- A hardware error that shows in the loop of one pass: none; the two engine sets were delivered input words with these
CRC-16 values; an uncorrectable error in the engine's memory at a word offset; a corrected one; an uncorrectable error in
a foreground Larder read at an offset of the active copy of table 0 or 1. -/
inductive Upset where
  | none
  | inputs (a b : Fin 65536)
  | engine (off : Fin 0x700)
  | engineCor (off : Fin 0x700)
  | larder (off : Fin 0x4A00)
deriving DecidableEq, Repr

/-- A coefficient or limit register of a control law engine. -/
inductive CoefReg where
  | coef (m : Fin 48) (c : Fin 5)
  | limHi (n : Fin 6)
  | limLo (n : Fin 6)
deriving DecidableEq, Repr

/-- What waits for a dead time: an output of the pattern, an output that an override turns on, or a gate of R361. -/
inductive DeadTime where
  | h | l | ovH | ovL | t1 | t4
deriving DecidableEq, Repr

/-- How HP_CS_N rising ends a command (Table 17-10): before its data, with its opcode; a command whose opcode is unknown or
whose complement does not match, ignored to the end of HP_CS_N; a WRITE after whole clocks, or within a clock, with its
address and the bytes of the whole clocks; during read data. -/
inductive CsRise where
  | beforeData (op : Byte)
  | bad (op : Byte) (mismatch : Bool)
  | whole (a : Word) (l : List Byte)
  | within (a : Word) (l : List Byte)
  | read
deriving DecidableEq, Repr

/-- A CAN frame (Table 15-1): a base identifier stands in bits 28:18. -/
structure CanFrame where
  id   : Fin 536870912
  ide  : Bool
  rtr  : Bool
  fdf  : Bool
  brs  : Bool
  esi  : Bool
  dlc  : Fin 16
  data : List Byte
deriving DecidableEq, Repr

/-- A bus error as a controller meets it: as transmitter or receiver; lec code 1 to 6; in the data field; eights that
ISO 11898-1 adds besides (dominant bits after the flag); not counted by its exceptions. -/
structure CanError where
  tx     : Bool
  kind   : Fin 7
  data   : Bool
  eights : Fin 32
  exempt : Bool
deriving DecidableEq, Repr

/-- How a frame in transmission ends. -/
inductive TxEnd where
  | acked (loop : Fin 256)
  | error (e : CanError)
  | lost
deriving DecidableEq, Repr

/-- A cyclic frame of the ring (Table 16-3) without its delimiters, type and CRC. -/
structure CyclicFrame where
  origin : Fin 32
  role   : Fin 4
  hop    : Byte
  flags  : Byte
  cycle  : Fin 65536
  epoch  : Fin 65536
  up     : Vector Byte 24
  down   : Vector Byte 24
deriving DecidableEq, Repr

/-- What an acyclic frame is. -/
inductive MsgKind where
  | data | ack | refuse
deriving DecidableEq, Repr

/-- An acyclic frame of the ring (R628, R629): kind, source node, destination (63: broadcast), transmit slot of the
message, its sequence number, data. -/
structure AcyclicFrame where
  kind : MsgKind
  src  : Fin 32
  dst  : Fin 64
  slot : Fin 4
  seq  : Fin 256
  data : List Byte
deriving DecidableEq, Repr

/-- The commands, one constructor per row of spec/opcode_table.json, in the order of the table. -/
inductive Instr where
  /-- REGISTER_WRITE (R6): A write to a register that has no row of its own acts on each field according to its access type. -/
  | registerWrite (r : Requester) (a d : Word)
  /-- UNIT_RESET (R13): A unit reset bit starts a 16-tick reset that returns the unit's registers to reset values and holds arriving accesses. -/
  | unitReset (u : UnitId)
  /-- UNIT_RESET_END (R13): At the end of the 16 ticks the held accesses complete in arrival order. -/
  | unitResetEnd (u : UnitId)
  /-- CONFIG_READBACK (R12): Every 1 ms each region's configuration checker reads back all configuration nodes of its cells. -/
  | configReadback (g : Fin 2) (bad : Option (Fin 4096))
  /-- FENCE_INSTRUCTION (R527): A core FENCE completes once the writes named by its predecessor set have taken effect. -/
  | fenceInstruction (c : Fin 4) (pred : FenceSet)
  /-- FENCE_I (R527): FENCE.I discards the fetch queue and code-flash line buffer so later fetches see earlier writes. -/
  | fenceI (c : Fin 4)
  /-- FLAG_RELEASE (R553): A write through the release alias sets a buffer's owner once every earlier write of the requester has taken effect. -/
  | flagRelease (r : Requester) (buf : Fin 1024) (d : Word)
  /-- LOG_ENTRY_FLASH_WRITE (R50): A queued fault-log entry is written to data flash, overwriting the oldest entry when full. -/
  | logEntryFlashWrite
  /-- BROWN_OUT (R84): A rail below its brown-out level for 1 µs or longer causes the action of Table 03-1. -/
  | brownOut (rail : Rail)
  /-- RAIL_WARN (R85): A rail crossing its warning level sets its status bit and warn_ev and is recorded. -/
  | railWarn (rail : Rail) (below : Bool)
  /-- POWER_ON_RELEASE (R83): The control die leaves power-on reset once all three rails have stayed above release for 1 ms and the reference has passed its monitor. -/
  | powerOnRelease
  /-- CELLAR_RESET (R90): The first application of VDD_AON resets every Cellar register, empties the retention log and enters RUN or DORMANT. -/
  | cellarReset (rails : Bool)
  /-- SLEEP_REQUEST (R93): A CEL_SLEEP write is refused on any cause of Table 03-3 or accepted and queued for transfer. -/
  | sleepRequest (d : Word)
  /-- CELLAR_TRANSFER (R103): At the third always-on edge the Cellar takes every register written before the transfer, each with its latest value. -/
  | cellarTransfer
  /-- SLEEP_RAIL_WAIT_END (R94): When VDD_CORE falls below 0.3 V or 100 ms pass, the Cellar enters WATCH or DORMANT. -/
  | sleepRailWaitEnd (fell : Bool)
  /-- WAKE_SLOT_FIRE (R96): An enabled watch slot fires, latching its cause bit and starting a wake from sleep or raising CEL_WAKE in RUN. -/
  | wakeSlotFire (slot : Fin 16)
  /-- PLL_LOCK (R107): The PLL declares lock after 256 reference cycles within 2 ns, which starts the configuration engine. -/
  | pllLock
  /-- REF_LOSS (R109): The reference monitor trips; the PLL moves to the backup, every cluster enters SAFE with LATCH, CAN and ring transmitters stop. -/
  | refLoss (edges : Word)
  /-- REF_RETURN (R110): After the reference has been back for 1 ms the PLL returns to it and CAN, ring and twin resume. -/
  | refReturn
  /-- PLL_UNLOCK (R108): Loss of lock holds both regions in reset until lock returns. -/
  | pllUnlock (ps : Word)
  /-- MAIN_FREQ (R108): CLK_MAIN out of window or stopped resets both regions and moves the safety logic to the monitor oscillator. -/
  | mainFreq (count : Word)
  /-- CORE_CLK_FAIL (R108): A core clock tick without exactly two edges resets that region. -/
  | coreClkFail (g : Fin 2)
  /-- MONOSC_FAIL (R108): The monitor oscillator out of window puts every cluster in SAFE with LATCH. -/
  | monoscFail (count : Word)
  /-- AON_XTAL_FAIL (R108): A failed always-on crystal switches the Cellar to the internal RC and clears aon_src. -/
  | aonXtalFail (outOfWindow : Bool)
  /-- REGION_GATE_CLOSE (R111): A region's CLK_MAIN gate closes after its stop condition has held for the hold time with stop_en set. -/
  | regionGateClose (g : Fin 2)
  /-- WFI (R112): A WFI instruction stops the core pair's clock until an interrupt is pending or a debug request arrives. -/
  | wfi (c : Fin 4)
  /-- RESET_PIN (R125): An accepted low on RST_N resets the control die while the pin is low and unmasked. -/
  | resetPin
  /-- RESET_PIN_RELEASE (R125): 1 µs after RST_N returns high the control die leaves reset. -/
  | resetPinRelease
  /-- RESET_STUCK (R127): When CEL_RSTLOW reaches 10 s the Cellar writes RESET_STUCK once per low period. -/
  | resetStuck
  /-- RST_UNMASKED (R129): After 100 ms of RST_N high the Cellar clears the mask and records it. -/
  | rstUnmasked
  /-- SW_MODULE_RESET (R123): CFG_RST_CTL.module with the key resets the control die. -/
  | swModuleReset (d : Word)
  /-- SW_REGION_RESET (R123): CFG_RST_CTL.rgn_a or rgn_b with the key resets that region. -/
  | swRegionReset (d : Word)
  /-- REGION_RESET_END (R16): When the region leaves reset, phases 3 and 4 of its slot run again and its clusters leave in IDLE. -/
  | regionResetEnd (g : Fin 2) (o : SlotOutcome)
  /-- DEBUG_RESET (R123): A debug module reset request, where debug is open, resets the requested region or the control die. -/
  | debugReset (t : DebugTarget)
  /-- BOOT_SEQUENCE (R132): From PLL lock the configuration engine reads fuses, chooses and checks a bank, runs the region slots and tests, and reaches torque-ready. -/
  | bootSequence (o : BootOutcome)
  /-- LATE_BRINGUP (R135): Setting up_a or up_b starts the slot, injection test and handshakes of a region not brought up at the start. -/
  | lateBringup (g : Fin 2)
  /-- LATE_BRINGUP_DONE (R135): The end of a late bring-up sets rgn_up_ev. -/
  | lateBringupDone (g : Fin 2) (o : SlotOutcome) (t : TestOutcome)
  /-- BANK_UPDATE (R153): A keyed CFG_BANK_CTL write starts a boot-record update of preference, trial and tries. -/
  | bankUpdate (d : Word)
  /-- BANK_CONFIRM (R153): CFG_BANK_CTL.confirm starts a boot-record update clearing the trial flag. -/
  | bankConfirm
  /-- BOOTREC_WRITE_END (R153): A boot-record update ends done or failed and CFG_BANK_CTL shows which. -/
  | bootrecWriteEnd (ok : Bool)
  /-- ARB_COMMIT (R150): 0xC0A1 to CFG_ARB.commit starts setting anti-rollback fuses up to the running sec_version. -/
  | arbCommit (d : Word)
  /-- ARB_COMMIT_END (R150): The last fuse set ends the commit, clears busy and sets arb_ev. -/
  | arbCommitEnd
  /-- TOKEN_SUBMIT (R157): A keyed CFG_LC_TOKEN write submits a token buffer for checking, or gets result 8 while busy. -/
  | tokenSubmit (d : Word)
  /-- TOKEN_CHECK_END (R156): A token check ends accepted, setting its fuse, or rejected with a result code. -/
  | tokenCheckEnd (fuseOk : Bool)
  /-- FULL_SELFTEST (R159): CFG_ST_CTL.full_a or full_b starts a full self-test of an idle region, or is refused. -/
  | fullSelftest (g : Fin 2)
  /-- FULL_SELFTEST_END (R159): After the test, phases 3 and 4, injection test and handshakes, st_done_ev is set. -/
  | fullSelftestEnd (g : Fin 2) (o : SlotOutcome) (t : TestOutcome)
  /-- FUSE_REPAIR (R161): CFG_ST_CTL.fuse_repair starts copying soft-repair entries into repair fuses with verify. -/
  | fuseRepair
  /-- FUSE_REPAIR_END (R161): The last entry moved ends the fuse repair and sets st_done_ev. -/
  | fuseRepairEnd (good : List Bool)
  /-- GPIO_SET (R170): A GPIO_SET write sets the GPIO_OUT bits written with 1 in one tick. -/
  | gpioSet (d : Word)
  /-- GPIO_CLR (R170): A GPIO_CLR write clears the GPIO_OUT bits written with 1 in one tick. -/
  | gpioClr (d : Word)
  /-- GPIO_EDGE (R168): An enabled edge on an input GPIO pin sets its GPIO_FLAGS bit. -/
  | gpioEdge (p : Fin 32) (rise : Bool)
  /-- RUN_REQUEST (R172): Request code 1 enters CATCH or RUN, returns DECEL to RUN, is held before torque-ready or stands in SAFE. -/
  | runRequest (k : Fin 4)
  /-- STOP_REQUEST (R172): Request code 2 sends RUN to DECEL, CATCH to IDLE or cancels a standing run command. -/
  | stopRequest (k : Fin 4)
  /-- HALT_REQUEST (R172): Request code 3 takes the cluster through DECEL or directly to HALTED. -/
  | haltRequest (k : Fin 4)
  /-- RESET_REQUEST (R15): Request code 4 resets the cluster to its image values and IDLE. -/
  | resetRequest (k : Fin 4)
  /-- CLEAR_REQUEST (R172): Request code 5 clears every LATCH fault of the cluster whose cause has gone and enters IDLE if none remains. -/
  | clearRequest (k : Fin 4)
  /-- DISCHARGE_REQUEST (R206): Request code 6 starts a winding discharge when its conditions hold, or is refused with WDIS_ABORT. -/
  | dischargeRequest (k : Fin 4)
  /-- DUPLEX_REQUEST (R212): Request code 7 lends the partner's engines when it is idle with equal CRCs, or is refused. -/
  | duplexRequest (k : Fin 4)
  /-- SPLIT_REQUEST (R172): Request code 8 while duplexed asks that the duplex end at the next period boundary. -/
  | splitRequest (k : Fin 4)
  /-- REQUEST_UNKNOWN (R173): A request code not in Table 05-2 changes nothing and is refused. -/
  | requestUnknown (k : Fin 4) (code : Fin 16)
  /-- TRIGGER_MATCH (R344): A slice's trigger compare matches in the selected half and delivers an event to its users. -/
  | triggerMatch (n : Fin 16) (j : Fin 4) (down : Bool)
  /-- SAR_RESULT_WRITE (R229): SAR results of the pass are written at t+42 and, with isrc 0, the loop computes from them. -/
  | sarResultWrite (k : Fin 4) (v : Sampled (List (Fin 28 × Fin 4194304))) (u : Upset)
  /-- SD_RESULT_WRITE (R241): The sigma-delta result is written 4 ticks after the evaluating clock edge and, with isrc 1, the loop runs from it. -/
  | sdResultWrite (m : Fin 12) (bits : List Bool) (level : Bool) (u : Upset)
  /-- RELOAD (R338): At a valley or peak reload point the slice copies its shadows into its active registers, unless held. -/
  | reload (n : Fin 16) (peak : Bool) (bad : Option (Fin 8192))
  /-- DECEL_TIMEOUT (R178): DECEL not ended within SEQk_DEC_TO puts the cluster in SAFE. -/
  | decelTimeout (k : Fin 4)
  /-- SAFE_RETRY (R179): After the retry wait with the cause gone the cluster leaves SAFE for IDLE, then CATCH on a standing run. -/
  | safeRetry (k : Fin 4) (code : Fin 65536)
  /-- CATCH_PROBE (R200): Every 250 µs in CATCH all lower switches turn on briefly and the currents are sampled. -/
  | catchProbe (k : Fin 4) (ia ib : Word) (ic : ProbeEnd)
  /-- CATCH_TIMEOUT (R202): No lock within 8 ms turns the gates off and enters IDLE as No lock. -/
  | catchTimeout (k : Fin 4)
  /-- KE_ABNORMAL (R199): The KE deviation timer reaching 2,000 ms records a LATCH fault. -/
  | keAbnormal (k : Fin 4)
  /-- LDR_SWAP_REQUEST (R219): Setting a table bit in SEQk_LDR_SWAP starts the CRC check of its shadow. -/
  | ldrSwapRequest (k : Fin 4) (tables : Fin 8)
  /-- LDR_CHECK_END (R219): The shadow check ends; a CRC mismatch ends the request. -/
  | ldrCheckEnd (k : Fin 4) (t : Fin 3)
  /-- LDR_SWAP (R220): At a period boundary without a foreground lookup the checked shadow becomes active. -/
  | ldrSwap (k : Fin 4) (t : Fin 3) (busy : Bool)
  /-- LARDER_WRITE (R218): A write to a Larder table is refused if active or owned by the Chimney, and cancels a pending swap on its shadow. -/
  | larderWrite (k : Fin 4) (copy : Fin 2) (w : Fin 8192) (d : Word)
  /-- BCM_STALL (R211): No Hall change for stall ms with non-zero duty records a SAFE fault. -/
  | bcmStall (k : Fin 4)
  /-- DUPLEX_COPY (R212): At the boundary after a duplex request k's engine state is copied to j's engines. -/
  | duplexCopy (k : Fin 4)
  /-- SPLIT_TAKE_EFFECT (R215): At the next boundary the duplex ends and the partner's engines are reset to image values. -/
  | splitTakeEffect (k : Fin 4)
  /-- SLOT_WRITE (R237): A write to a sample-set slot descriptor re-evaluates slot validity. -/
  | slotWrite (k : Fin 4) (e : Fin 28) (d : Word)
  /-- REF_SELECT (R230): An ADC_CTL write changes the reference and moves every threshold in that tick. -/
  | refSelect (d : Word)
  /-- REF_READY (R230): 200 µs after enabling or selecting a reference, ref_rdy sets. -/
  | refReady
  /-- REF_MONITOR_TRIP (R233): A reference outside ±2 % for 10 µs clears ref_rdy. -/
  | refMonitorTrip
  /-- SCAN_START (R244): A write of 1 to ADC_SCAN_CTL.start, or a trigger, starts the scan list. -/
  | scanStart
  /-- SCAN_ENTRY_START (R246): A scan entry starts once its converter is free and the pass guard allows it. -/
  | scanEntryStart (e : Fin 16)
  /-- SCAN_ENTRY_RESULT (R247): A scan entry's result, or interleaved mean, is written; the last sets scan_done. -/
  | scanEntryResult (e : Fin 16) (v : Sampled (List (Fin 4194304)))
  /-- SD_STUCK (R243): A bit stream at one level for 128 modulator clocks is recorded and its results lose validity. -/
  | sdStuck (m : Fin 12) (level : Bool)
  /-- SD_STREAM_RECOVER (R243): 128 clocks of toggling stream restore the input's valid flag. -/
  | sdStreamRecover (m : Fin 12)
  /-- CMP_TRIP (R260): A comparator trip passes its filter, sets its flag and acts in its role on the safety logic. -/
  | cmpTrip (c : Fin 16) (v : CmpInput)
  /-- CMP_RELEASE (R260): A tripped comparator releases after hysteresis and filter. -/
  | cmpRelease (c : Fin 16) (v : CmpInput)
  /-- SD_CLK_CFG_WRITE (R674): An SD_CLK_CFG write is applied clock by clock according to each clock's owners. -/
  | sdClkCfgWrite (d : Word)
  /-- QUAD_COUNT (R271): A sample with one of A and B changed counts forward or backward. -/
  | quadCount (n : Fin 2) (a b : Bool)
  /-- INDEX (R277): An accepted index latches cnt and the tick and acts by its index mode. -/
  | index (n : Fin 2) (rise : Bool)
  /-- POS_EVAL_SELF_TIMED (R270): Without an owning running cluster the channel evaluates its outputs every 2,000 ticks. -/
  | posEvalSelfTimed (n : Fin 2)
  /-- HALL_CHANGE (R278): A new Hall state stable for deb ticks is delivered and sets the angle and the block-commutation outputs. -/
  | hallChange (n : Fin 2) (h : Fin 8)
  /-- SENT_FRAME (R286): A received SENT frame is checked and, if accepted, writes the fast data and angle. -/
  | sentFrame (n : Fin 2) (sync : Fin 2097152) (pulses : List (Fin 2097152))
  /-- SENT_TIMEOUT (R290): No accepted frame for the timeout clears pos_valid and spd_valid. -/
  | sentTimeout (n : Fin 2)
  /-- FAB_STROBE (R291): A fabric strobe stamps and stores the sensor angle. -/
  | fabStrobe (n : Fin 2) (angle : Fin 65536)
  /-- FAB_STALE (R291): No strobe for the timeout clears validity and is recorded. -/
  | fabStale (n : Fin 2)
  /-- STANDSTILL (R296): No count for the standstill time sets speed to 0.0 and declares standstill. -/
  | standstill (n : Fin 2)
  /-- SNAP (R295): POSn_CTL.snap copies count, turns, event angle, tick, speed and current tick from one tick. -/
  | snap (n : Fin 2)
  /-- CLR_TOT (R675): POSn_CTL.clr_tot clears POSn_ERRTOT and POSn_SENT_ERR. -/
  | clrTot (n : Fin 2)
  /-- REARM (R293): POSn_CTL.rearm clears qerr_count and sets pos_valid in mode 1, or is refused in a running cluster. -/
  | rearm (n : Fin 2)
  /-- POS_CFG_WRITE (R292): A POSn_CFG write that changes mode clears pos_valid and restarts the source. -/
  | posCfgWrite (n : Fin 2) (d : Word)
  /-- CLE_CLEAR (R311): CLEk_CTL.clr sets all section states and list outputs to 0.0, or is refused. -/
  | cleClear (k : Fin 4)
  /-- COEF_WRITE (R319): A coefficient or limit write takes effect from the next evaluation and is mirrored to a duplex partner. -/
  | coefWrite (k : Fin 4) (r : CoefReg) (d : Word)
  /-- LIST_WRITE (R307): A CLEk_LISTn write re-evaluates the list's validity. -/
  | listWrite (k : Fin 4) (n : Fin 6) (d : Word)
  /-- FOLLOW_ERR (R317): The following-error timer reaching fe_ms puts the cluster in SAFE. -/
  | followErr (k : Fin 4)
  /-- CLE_CRC_UPDATE (R322): A background read-through of the coefficient memory completes and updates CLEk_CRC. -/
  | cleCrcUpdate (k : Fin 4) (e : Option (Fin 1792 × Bool))
  /-- SLICE_RUN (R333): PWM_Sn_CTL.run starts an unassigned slice's carrier with a valley tick. -/
  | sliceRun (n : Fin 16)
  /-- SLICE_STOP (R333): PWM_Sn_CTL.stop stops an unassigned carrier at its next valley. -/
  | sliceStop (n : Fin 16)
  /-- PWM_START (R333): A PWM_START write starts the named unassigned slices in the same tick. -/
  | pwmStart (d : Word)
  /-- DELAY_CAL (R342): Every 1 ms the calibrator measures the taps per tick and accepts or discards the code. -/
  | delayCal (taps : Fin 65536) (late : Bool)
  /-- RAW_EDGE (R335): A raw compare edge turns one output off and decides the next pulse under the minimum-pulse rules. -/
  | rawEdge (n : Fin 16) (low active : Bool)
  /-- DEAD_TIME_END (R347): When a dead time has elapsed the complementary output rises. -/
  | deadTimeEnd (n : Fin 16) (w : DeadTime)
  /-- MIN_PULSE_END (R348): An extended pulse ends after MINP and its complement follows after its dead time. -/
  | minPulseEnd (n : Fin 16) (low : Bool)
  /-- BS_REFRESH (R357): H on for max_on forces H off and a refresh pulse on L. -/
  | bsRefresh (n : Fin 16)
  /-- BOOT_LOW (R358): After a VCC2 warning a refresh is forced at the next valley tick. -/
  | bootLow (n : Fin 16)
  /-- FORCE_WRITE (R352): A PWM_Sn_FORCE write forces outputs off or on, or returns them to their raw levels. -/
  | forceWrite (n : Fin 16) (d : Word)
  /-- FLOOR_WRITE (R355): The first PWM_Sn_FLOOR write after a control-die reset is taken and locks the register. -/
  | floorWrite (n : Fin 16) (d : Word)
  /-- HOLD_SET (R340): A PWM_HOLD_SET write sets hold bits without read-modify-write. -/
  | holdSet (d : Word)
  /-- HOLD_CLR (R340): A PWM_HOLD_CLR write clears hold bits without read-modify-write. -/
  | holdClr (d : Word)
  /-- FLT_N_ASSERT (R368): FLT_N low puts every expansion output in high impedance and demands SAFE. -/
  | fltNAssert
  /-- XHIZ_RELEASE (R369): PWM_XHIZ.release after FLT_N has been high for 1 µs lets the expansion slices drive from the next valley. -/
  | xhizRelease
  /-- EDGE_COMMAND (R379): An edge command reaches the island after the matched latency and starts a turn-on or turn-off. -/
  | edgeCommand (n : Fin 12) (on discarded : Bool)
  /-- PHASE_END (R385): A transition phase ends at its gate-level crossing or its time limit and the next phase begins. -/
  | phaseEnd (n : Fin 12)
  /-- GATE_STATE_REPORT (R403): An island's gate-state report reaches the safety logic and updates the leg interlock. -/
  | gateStateReport (f : ChanFrame) (above : Bool)
  /-- INTERLOCK_RELEASE (R403): 20 ns after the partner reports its gate below v_il the held ON command is released. -/
  | interlockRelease (n : Fin 12)
  /-- LEG_CONFLICT (R404): An ON command held more than 1 µs is recorded on the held island. -/
  | legConflict (n : Fin 12)
  /-- PROFILE_FRAME (R390): A profile frame taken whole gives the island its turn-on and turn-off profiles for later transitions. -/
  | profileFrame (f : ChanFrame)
  /-- MIRROR_WRITE (R413): A mirror register write is held and delivered to the island, setting sync until acknowledged. -/
  | mirrorWrite (n : Fin 12) (w : MirrorStep)
  /-- ISLAND_CHANNEL_LOSS (R383): An island without a valid frame for 2 µs turns its gate off and enters ORPHAN. -/
  | islandChannelLoss (n : Fin 12)
  /-- CHAN_LOSS (R383): The control die without a valid frame for 4 µs clears chan_ok and records a SAFE fault. -/
  | chanLoss (n : Fin 12)
  /-- ORPHAN_RETURN (R377): Valid frames for 10 µs return an ORPHAN island to STARTING. -/
  | orphanReturn (n : Fin 12)
  /-- STATUS_FRAME (R411): A status frame every 10 µs reports supplies, die temperature, NTC and state. -/
  | statusFrame (f : ChanFrame) (vcc vee : Fin 65536) (temp ohms : Word)
  /-- MEASUREMENT_FRAME (R409): A measurement frame delivers the transition times to the registers and the Chimney, or counts as invalid. -/
  | measurementFrame (n : Fin 12) (on discarded : Bool) (t1 t2 : Fin 1048576)
  /-- ISLAND_HANDSHAKE_OPEN (R384): The handshake opens at the later of the island's STARTING entry and the control die's opening. -/
  | islandHandshakeOpen (n : Fin 12)
  /-- HANDSHAKE_STEP_END (R384): A handshake step ends or reaches its time; the last step makes the island READY. -/
  | handshakeStepEnd (n : Fin 12) (ok : Bool) (raw : Fin 65536)
  /-- LATENCY_REMEASURE (R382): Every 10 ms a READY or ON island's latency is remeasured and its trim moved by one step. -/
  | latencyRemeasure (n : Fin 12) (raw : Fin 65536)
  /-- UVLO (R394): VCC2 or VEE2 below its lockout for 1 µs turns the gate off, reports and resets the island. -/
  | uvlo (n : Fin 12) (vee : Bool) (v : Fin 65536)
  /-- ISLAND_SUPPLY_RELEASE (R394): Supplies above their release levels for 100 µs move the island to STARTING. -/
  | islandSupplyRelease (n : Fin 12)
  /-- DESAT_BLANKING_END (R396): The blanking time after phase 1 of a turn-on ends and desaturation watching begins. -/
  | desatBlankingEnd (n : Fin 12)
  /-- DESAT (R397): DESAT above threshold for the filter time starts the fault turn-off and enters FAULT. -/
  | desat (n : Fin 12) (ns : Fin 65536)
  /-- TLTO_HOLD_END (R397): The two-level intermediate hold ends and the gate is sunk to VEE2. -/
  | tltoHoldEnd (n : Fin 12)
  /-- GATE_TMO (R399): A gate not crossing its level within the timeout drives the gate off and enters FAULT. -/
  | gateTmo (n : Fin 12)
  /-- ISLAND_AUTO_CLEAR (R400): After its wait, within tries and window, an island fault clears and the island returns to READY. -/
  | islandAutoClear (n : Fin 12) (code : Fin 65536)
  /-- USED_COUNT_RESET (R401): 1 s after a turn-on without a fault of the group, desat_used or uv_used returns to 0. -/
  | usedCountReset (n : Fin 12) (uv : Bool)
  /-- ISLAND_CLEAR (R401): ISLn_CTL.clear clears a standing island fault whose cause has gone and resets the used counts. -/
  | islandClear (n : Fin 12)
  /-- ISLAND_UNIT_RESET (R384): ISLn_CTL.ureset resets the island's mirrors and runs a new handshake. -/
  | islandUnitReset (n : Fin 12)
  /-- LEAK_CHECK (R412): ISLn_CTL.leak starts an off-state gate-leakage check or is refused. -/
  | leakCheck (n : Fin 12)
  /-- LEAK_CHECK_END (R412): After settle and 1 ms of averaging the check ends pass, warn or fail. -/
  | leakCheckEnd (n : Fin 12) (cur : Word)
  /-- SUPPLY_MODE_WRITE (R405): A write selecting BOOT mode is accepted only for an even island with an ISO partner. -/
  | supplyModeWrite (n : Fin 12) (d : Word)
  /-- BS_CATCH_PULSE (R407): Every 50 µs in CATCH the odd islands of pending legs turn on to charge the bootstrap. -/
  | bsCatchPulse (k : Fin 4)
  /-- STO_DEMAND (R429): An STO input low for the filter time starts an STO demand and holds the speed-rule state. -/
  | stoDemand (b : Bool)
  /-- STO_RELEASE (R429): An STO input high for the filter time ends its demand. -/
  | stoRelease (b : Bool)
  /-- STO_DISCREPANCY (R431): In scope 0 inputs disagreeing longer than disc record a LATCH in every cluster. -/
  | stoDiscrepancy
  /-- ISO_EN_RELEASE (R432): After OFF has been held for iso_dly, the ISO_EN outputs concerned are released. -/
  | isoEnRelease (g : Fin 2)
  /-- ISLAND_FAULT_REPORT (R428): An island fault report reaches the safety logic, which puts the owning cluster in SAFE. -/
  | islandFaultReport (n : Fin 12)
  /-- CHOPPER_VERIFY_END (R439): At the end of the verify time the chopper's response is judged. -/
  | chopperVerifyEnd
  /-- CHOPPER_TEST (R440): SAFE_CHOP_CTL.test turns the chopper on for its verify time, or is refused. -/
  | chopperTest
  /-- CTR_OV3_OPEN (R442): A role-3 trip standing 10 ms with every cluster in OFF releases the contactors. -/
  | ctrOv3Open
  /-- CTR_COMMAND (R443): A SAFE_CTR_CTL write commands the contactors, subject to blocks and holds. -/
  | ctrCommand (d : Word)
  /-- CTR_FORCE (R444): A keyed force write makes a held open command act at once. -/
  | ctrForce (d : Word)
  /-- CLR_WELD (R445): SAFE_CTR_CTL.clr_weld clears the weld flag. -/
  | clrWeld
  /-- CTR_FEEDBACK_CHANGE (R445): A change of contactor feedback is compared with the output. -/
  | ctrFeedbackChange (neg high : Bool)
  /-- CTR_FEEDBACK_TIMEOUT (R445): Feedback not agreeing within t_close or t_open fails the close or marks a weld. -/
  | ctrFeedbackTimeout (neg : Bool)
  /-- DISCHARGE_START (R446): SAFE_DIS_CTL.start, or auto on contactor opening, starts an active discharge or is refused. -/
  | dischargeStart
  /-- DIS_HALF_TIME (R447): At T/2 without the target the winding path stops and the resistor joins. -/
  | disHalfTime
  /-- DIS_FAIL (R447): At T without the target the resistor is released and the failure recorded. -/
  | disFail
  /-- DISCHARGE_ABORT (R448): An abort write or contactor closing ends a running discharge at once. -/
  | dischargeAbort
  /-- SAFETY_TICK (R450): Every 1 ms the safety logic raises the ticks, advances seq and checks the runtime's acknowledgement. -/
  | safetyTick
  /-- TQ_IMPLAUSIBLE (R452): T_est implausible for tq_t ms sets pc_sto. -/
  | tqImplausible (k : Fin 4)
  /-- SPEED_LIMIT (R453): Speed above SAFE_Ck_SLS for 10 ticks is recorded and starts safe stop 1. -/
  | speedLimit (k : Fin 4)
  /-- SS1_START (R454): SAFE_Ck_PC.ss1 starts safe stop 1 and the channel writes STOP. -/
  | ss1Start (k : Fin 4)
  /-- SS1_TIMEOUT (R454): Not stopped within ss1_t sets pc_sto under the speed rule. -/
  | ss1Timeout (k : Fin 4)
  /-- PC_STO_SET (R456): SAFE_Ck_PC.sto sets pc_sto and records PC_STO. -/
  | pcStoSet (k : Fin 4)
  /-- PC_STO_RELEASE (R456): SAFE_Ck_PC.release clears pc_sto so CLEAR can be accepted. -/
  | pcStoRelease (k : Fin 4)
  /-- SAFE_MSG_LOST (R455): No valid checked message for msg_to starts safe stop 1. -/
  | safeMsgLost (k : Fin 4)
  /-- LOCKSTEP_MISMATCH (R458): Differing outputs of a locked pair block its requests and reset the region as HALT. -/
  | lockstepMismatch (g : Fin 2) (group : Fin 4)
  /-- ID_RECORD_LOAD (R481): After torque-ready the Chimney reads each used leg's identity record over its bus. -/
  | idRecordLoad (m : Fin 6) (mem : Option (List Byte))
  /-- LEDGER_LOAD (R499): The Chimney loads the valid ledger slot with the higher seq, or starts from zero. -/
  | ledgerLoad (m : Fin 6)
  /-- DIE_SENSOR_SAMPLE (R482): Every 1 ms the die sensors are sampled and checked against their neighbours. -/
  | dieSensorSample (temps : List Word)
  /-- WIND_SENS (R485): T_w older than 100 ms becomes not valid and is recorded once. -/
  | windSens (k : Fin 4)
  /-- PEAK_GRACE_END (R492): At the end of grace the cluster returns to Free or starts the torque ramp to t_rated. -/
  | peakGraceEnd (k : Fin 4)
  /-- PEAK_RAMP_END (R492): After 200 ms the limit holds at t_rated. -/
  | peakRampEnd (k : Fin 4)
  /-- RAINFLOW_SAMPLE (R496): Every 10 ms each switch's highest estimate feeds turning-point extraction and cycle counting. -/
  | rainflowSample
  /-- LEDGER_INTERVAL (R500): Every ledger_min minutes of RUN a ledger write starts. -/
  | ledgerInterval
  /-- LEDGER_WRITE_REQUEST (R500): CHM_LEDGER_CTL.write starts a write of every loaded ledger. -/
  | ledgerWriteRequest
  /-- LEDGER_WRITE_END (R500): A ledger write ends done or failed after read-back. -/
  | ledgerWriteEnd (m : Fin 6) (ok : Bool)
  /-- HELD_WRITE_START (R502): A held flash or identity write starts once its temperature is in range. -/
  | heldWriteStart (identity : Bool)
  /-- WRITE_TEMP_FAIL (R502): A write held for 600 s fails alone. -/
  | writeTempFail (identity : Bool)
  /-- AGE_REBUILD (R504): Every age_h hours of RUN the Chimney rebuilds table 2 entries and requests a swap. -/
  | ageRebuild (k : Fin 4)
  /-- AGE_APPLY (R505): Once the carrier runs, stored adjustments are applied to the shadow and a swap requested. -/
  | ageApply (k : Fin 4)
  /-- CORE_LOAD (R517): A core load is checked by alignment, map and PMP and returns data or faults. -/
  | coreLoad (c : Fin 4) (size : Fin 3) (uns fp : Bool) (rd : Fin 32) (a : Word) (e : Fin 3)
  /-- CORE_STORE (R517): A core store is checked and posted, or faults or is discarded. -/
  | coreStore (c : Fin 4) (size : Fin 3) (a d : Word)
  /-- INSTRUCTION_FETCH (R516): A fetch from ITCM, system SRAM or code flash delivers an instruction, or faults. -/
  | instructionFetch (c : Fin 4) (a : Word) (e : Fin 3)
  /-- SCRUB (R523): The scrubber reads TCM and system SRAM words in free cycles and corrects errors. -/
  | scrub (mem : Fin 5) (w : Fin 524288) (e : Fin 3)
  /-- ECC_INJECT (R525): MEM_ECC_INJ.arm flips check bits in the next word a core writes to the named memory. -/
  | eccInject (d : Word)
  /-- SEM_TAKE (R528): SEM_REQ op 0 grants a free semaphore to the requester. -/
  | semTake (r : Requester) (n : Fin 32)
  /-- SEM_GIVE (R528): SEM_REQ op 1 releases a held semaphore and grants it to the highest-ranked waiter. -/
  | semGive (r : Requester) (n : Fin 32)
  /-- SEM_TAKE_OR_WAIT (R528): SEM_REQ op 2 takes a free semaphore or queues the requester. -/
  | semTakeOrWait (r : Requester) (n : Fin 32)
  /-- SEM_CANCEL (R528): SEM_REQ op 3 removes the requester's wait. -/
  | semCancel (r : Requester) (n : Fin 32)
  /-- TIMER_COMPARE (R531): TIM_NOW's low word equal to a compare sets the hart's TIM source. -/
  | timerCompare (c : Fin 4) (j : Fin 2)
  /-- WATCHDOG_KICK (R532): A keyed WDT_Cc write starts or restarts the hart's watchdog. -/
  | watchdogKick (c : Fin 4) (d : Word)
  /-- WDT_WARN (R532): At half the watchdog time the private WDT_WARN source sets. -/
  | wdtWarn (c : Fin 4)
  /-- CORE_WDT (R532): At the full watchdog time the region is reset. -/
  | coreWdt (c : Fin 4)
  /-- IRQ_ROUTE_WRITE (R534): A route write moves a pending source to its new target in the next tick. -/
  | irqRouteWrite (w : Fin 32) (d : Word)
  /-- MODERATION_TIMER (R540): A moderation group's timer reaching its time releases the group. -/
  | moderationTimer (c : Fin 4) (g : Fin 3)
  /-- SWI (R533): An IRQ_SWI write sets a private software interrupt of a hart. -/
  | swi (d : Word)
  /-- IRQ_PEND_CLEAR (R536): A write to IRQ_PENDw clears edge and sticky pending bits unless the level is still high. -/
  | irqPendClear (w : Fin 4) (d : Word)
  /-- IRQ_SUM_READ (R537): The first IRQ_Cc_SUM read after a line rise disarms the spurious check and counts a spurious interrupt. -/
  | irqSumRead (c : Fin 4)
  /-- TIM_NOW_READ (R511): A TIM_NOW_LO read latches the high word for the reading requester. -/
  | timNowRead (r : Requester)
  /-- READ_ID (R545): READ_ID returns the eight identification bytes. -/
  | readId
  /-- ENTER_8D (R545): ENTER_8D moves the port to 8D-8D-8D with the given latency. -/
  | enter8d (lat : Byte)
  /-- READ (R548): READ delivers each word that has arrived by its clock, or 0 with late. -/
  | read (a : Word) (n : Fin 4097) (late : List (Fin 1024))
  /-- WRITE (R547): WRITE posts data to port addresses if there is room. -/
  | write (a : Word) (l : List Byte)
  /-- READ_STATUS (R545): READ_STATUS returns the status byte and clears its since-bits. -/
  | readStatus
  /-- FENCE (R38): The port FENCE command orders host writes as a write to HW_FENCE. -/
  | fence
  /-- SOFT_RESET (R545): SOFT_RESET returns the port to 1S-1S-1S without resetting the device. -/
  | softReset
  /-- HP_CS_N_RISE (R664): HP_CS_N rising within a command ends it by the case of Table 17-10. -/
  | hpCsNRise (r : CsRise)
  /-- HW_FENCE (R38): A host write to HW_FENCE takes effect after every earlier host write. -/
  | hwFence
  /-- HW_CAS (R554): A write to HW_CAS compares and sets a buffer owner indivisibly. -/
  | hwCas (r : Requester) (d : Word)
  /-- QUEUE_ENABLE (R555): Setting en of a submission or completion ring is refused on range or overlap. -/
  | queueEnable (cq : Bool) (n : Fin 8) (d : Word)
  /-- SQ_DOORBELL (R556): A tail write publishes entries and pulses HW_DOORBELL, or is refused. -/
  | sqDoorbell (r : Requester) (n : Fin 8) (d : Word)
  /-- DESCRIPTOR_FETCH (R557): The engine fetches the head entry of a queue when there is room in flight and in its completion ring. -/
  | descriptorFetch
  /-- UPLOAD (R561): UPLOAD writes buffer bytes to system SRAM or the Larder. -/
  | upload (q : Fin 8)
  /-- FETCH (R561): FETCH reads bytes from memory or result banks into buffers. -/
  | fetch (q : Fin 8) (w : Fin 64) (e : Fin 3)
  /-- ERASE (R561): ERASE erases flash sectors in ascending order. -/
  | erase (q : Fin 8) (ok : Bool)
  /-- PROGRAM (R561): PROGRAM programs flash pages in ascending order with read-back. -/
  | program (q : Fin 8) (ok : Bool)
  /-- TRACE (R563): TRACE starts copying a cluster's readable result banks into buffers for nbuf periods. -/
  | trace (q : Fin 8)
  /-- TRACE_COPY (R563): A newly readable bank is copied into the next trace buffer. -/
  | traceCopy (q : Fin 8)
  /-- LOG_READ (R561): LOG_READ copies fault-log entries from the given seq into buffers. -/
  | logRead (q : Fin 8)
  /-- ID_READ (R561): ID_READ reads a leg's identity record or ledger slot into buffers. -/
  | idRead (q : Fin 8) (stop : Option (Fin 1280))
  /-- MSG (R564): MSG hands the descriptor to software on the queue's hart, or fails NO_SW. -/
  | msg (q : Fin 8)
  /-- MSG_DONE (R564): A HW_MSG_DONE write lets the engine write the MSG completion. -/
  | msgDone (d : Word)
  /-- DESCRIPTOR_COMPLETE (R559): A descriptor ends and its completion record is written after its data and buffer returns. -/
  | descriptorComplete (q : Fin 8)
  /-- QUEUE_ABORT (R565): HW_SQn_CTL.abort or en cleared ends the queue's descriptors as ABORTED. -/
  | queueAbort (q : Fin 8)
  /-- CQ_HEAD_WRITE (R567): A completion head write consumes records and may end a release. -/
  | cqHeadWrite (c : Fin 8) (d : Word)
  /-- CQ_MOD_TIMER (R567): A host ring's timer reaching its time releases the ring. -/
  | cqModTimer (c : Fin 8)
  /-- HW_IDLE_WRITE (R567): Setting HW_IDLE.idle releases every host ring at once. -/
  | hwIdleWrite (d : Word)
  /-- HOST_SLEEP_ASSERT (R568): HOST_SLEEP asserted releases host rings, drops HOST_IRQ_N and holds announcements. -/
  | hostSleepAssert
  /-- HOST_SLEEP_RELEASE (R568): HOST_SLEEP released drops HOST_WAKE_N and asserts HOST_IRQ_N for unconsumed records. -/
  | hostSleepRelease
  /-- CAN_MODE (R573): A CANn_CTL.mode write changes the controller mode and ends pending buffers. -/
  | canMode (n : Fin 4) (m : Fin 4)
  /-- CAN_INTEGRATED (R573): After 11 recessive bits a controller leaving INIT joins the bus. -/
  | canIntegrated (n : Fin 4)
  /-- FRAME_RECEIVE (R576): A frame received without error is filtered to the FIFO, the high-priority buffer or rejected, and given to Porch. -/
  | frameReceive (n : Fin 4) (f : CanFrame) (ago : Fin 1048576)
  /-- RXF_POP (R577): CANn_RXF_CTL.pop removes the oldest FIFO frame. -/
  | rxfPop (n : Fin 4)
  /-- HP_TAKE (R578): CANn_HP_CTL.take copies the held frame to the window and clears new. -/
  | hpTake (n : Fin 4)
  /-- TX_REQUEST (R579): CANn_TXBb_CMD.req makes an idle buffer pending, or is refused. -/
  | txRequest (n : Fin 4) (b : Fin 3) (d : Word) (idle : Bool)
  /-- TX_ABORT (R582): CANn_TXBb_CMD.abort ends a pending buffer as Aborted. -/
  | txAbort (n : Fin 4) (b : Fin 3)
  /-- TX_END (R581): A transmitted frame ends acknowledged, in error or losing arbitration, and the buffer ends or retries. -/
  | txEnd (n : Fin 4) (e : TxEnd)
  /-- BUS_ERROR (R583): A detected bus error updates the error counters and confinement state. -/
  | busError (n : Fin 4) (e : CanError)
  /-- BO_REC (R583): CANn_CTL.bo_rec starts counting the recessive runs for bus-off recovery. -/
  | boRec (n : Fin 4)
  /-- BUS_OFF_END (R583): After 128 runs of 11 recessive bits bus-off ends and Porch claims again. -/
  | busOffEnd (n : Fin 4)
  /-- ADDRESS_CLAIM (R587): Port enable or PORCH_Pn_CTL.claim sends Address Claimed and enters CLAIMING. -/
  | addressClaim (n : Fin 4)
  /-- CLAIM_SETTLED (R587): 250 ms after the claim without contention the port enters CLAIMED. -/
  | claimSettled (n : Fin 4)
  /-- ADDRESS_CLAIMED_RX (R588): An Address Claimed for the port's address is resolved by NAME under Table 15-4. -/
  | addressClaimedRx (n : Fin 4) (sa : Byte) (name : BitVec 64)
  /-- CANNOT_CLAIM_SEND (R588): After the pseudo-random delay the cannot-claim message is sent and the port enters CANNOT_CLAIM. -/
  | cannotClaimSend (n : Fin 4)
  /-- COMMANDED_ADDRESS (R590): A Commanded Address for the port's NAME moves it to the address through CLAIMING. -/
  | commandedAddress (n : Fin 4) (name : BitVec 64) (addr : Byte)
  /-- REQUEST_RX (R592): A Request PGN is answered by claim, status, software or NACK. -/
  | requestRx (n : Fin 4) (sa dest : Byte) (pgn : Fin 262144)
  /-- REQ_TIMEOUT (R592): Software not answering within req_to makes Porch send NACK or nothing. -/
  | reqTimeout
  /-- REQ_ANSWER (R592): A PORCH_REQ_ANS write ends a held request, with NACK for value 2. -/
  | reqAnswer (d : Word)
  /-- TP_SEND_START (R595): PORCH_SESs_CTL.start begins a BAM or RTS/CTS send, or fails at once. -/
  | tpSendStart (n : Fin 8) (d : Word)
  /-- TP_CM_RX (R595): A TP or ETP connection-management frame opens, paces, acknowledges or aborts a session. -/
  | tpCmRx (n : Fin 4) (etp : Bool) (sa dest : Byte) (l : Vector Byte 8)
  /-- TP_DT_RX (R595): A TP or ETP data frame is written into its receive slot. -/
  | tpDtRx (n : Fin 4) (etp : Bool) (sa dest : Byte) (l : Vector Byte 8)
  /-- BAM_GAP (R595): The BAM packet gap elapses and the next packet is sent. -/
  | bamGap (n : Fin 8)
  /-- TP_TIMEOUT (R597): A transport timer of Table 15-5 expires and the session fails. -/
  | tpTimeout (n : Fin 16)
  /-- TP_CANCEL (R597): PORCH_SESs_CTL cancel sends Abort 255 and ends the send. -/
  | tpCancel (n : Fin 8)
  /-- TP_RELEASE (R595): PORCH_SESs_CTL release frees a done receive slot. -/
  | tpRelease (n : Fin 16)
  /-- PORCH_POOL_WRITE (R594): A PORCH_POOL write with en set is refused if the pool breaks its rules. -/
  | porchPoolWrite (d : Word)
  /-- STATUS_MESSAGE (R600): Each period, or on a peak change, the port sends its cluster and module status messages. -/
  | statusMessage (n : Fin 4) (peak : Bool)
  /-- ALONE_PROBE (R599): Once per second while alone Porch sends one status message as a single attempt. -/
  | aloneProbe (n : Fin 4)
  /-- CHECKED_MESSAGE_RX (R602): A checked command message is checked by CRC and counter and applied, synchronised or discarded. -/
  | checkedMessageRx (n : Fin 4) (sa : Byte) (l : Vector Byte 8)
  /-- CMD_LOST (R602): No applied command for CMD_TO returns the port's streams to Synchronise. -/
  | cmdLost (n : Fin 4)
  /-- RING_ENABLE (R611): Setting RING_CTL.en starts the ring, or is refused for too short a cycle. -/
  | ringEnable
  /-- RING_DISABLE (R627): Clearing RING_CTL.en stops forwarding and ends messages as Ring down. -/
  | ringDisable
  /-- RING_START_TIMEOUT (R611): No active manager heard in 4 or 8 cycles makes node 0 or 1 active with a new epoch. -/
  | ringStartTimeout
  /-- CYCLE_START (R613): At each cycle start the node sends its cyclic frame, the manager takes its snapshot and sends the copy, and heartbeats are judged. -/
  | cycleStart (e e2 : Fin 3)
  /-- CYCLIC_FRAME_RX (R614): A received cyclic frame is forwarded, filled with a downlink, or removed and its setpoints accepted. -/
  | cyclicFrameRx (ringB : Bool) (f : CyclicFrame) (crcOk : Bool)
  /-- RING_BREAK (R625): A receiver without valid symbols loses its link and the node wraps. -/
  | ringBreak (ringB : Bool) (sym : Fin 256)
  /-- LINK_READY (R626): A lost receiver carrying valid symbols for 10 ms sets link_ready. -/
  | linkReady (ringB : Bool)
  /-- MSG_SEND (R628): RING_TXm_CTL.start sends an acknowledged message from Hallway buffers, or fails as a bad request. -/
  | msgSend (m : Fin 4) (d : Word)
  /-- ACYCLIC_FRAME_RX (R629): A received acyclic frame is forwarded, stored and acknowledged, refused, or ends its message. -/
  | acyclicFrameRx (ringB : Bool) (f : AcyclicFrame) (crcOk : Bool)
  /-- MSG_ACK_TIMEOUT (R629): No answer within ack_to cycles retries or, after 3 tries, fails the message. -/
  | msgAckTimeout (m : Fin 4)
  /-- MSG_ABORT (R629): RING_TXm_CTL.abort ends a message at once or after the try in flight. -/
  | msgAbort (m : Fin 4)
  /-- RX_SLOT_FREE (R630): Writing 1 to RING_RXr_STAT.full frees the receive slot. -/
  | rxSlotFree (r : Fin 4)
  /-- RING_MSG_ENABLE (R630): Setting RING_MSG_CFG.en is refused if the receive area passes buffer 1,023. -/
  | ringMsgEnable (d : Word)
  /-- RING_CLR_ERR (R646): RING_CTL.clr_err clears RING_ERR. -/
  | ringClrErr
  /-- TWIN_HEARTBEAT_RX (R631): A valid heartbeat frame from the twin peer is noted for the cycle. -/
  | twinHeartbeatRx (role : Fin 4) (ok : Bool)
  /-- COPY_FRAME_RX (R638): A copy frame is written to the inactive bank and the last valid one switches the bank. -/
  | copyFrameRx (off : Fin 65536) (l : List Byte) (last ok : Bool)
  /-- VDDA_RELEASE (R233): VDDA returning above its brown-out release level restores valid results and comparator outputs and starts the 200 µs before ref_rdy sets again. -/
  | vddaRelease
  /-- FLT_N_RELEASE (R369): FLT_N returning high ends the FLT_N demand and flt_now and starts the 1 µs that must pass before PWM_XHIZ.release is accepted. -/
  | fltNRelease
  /-- TWIN_SIG_LOST (R646): The twin receiver loses its signal, clearing TWIN_STAT.sig and setting the sig_lost flag. -/
  | twinSigLost
  /-- TWIN_SIG_BACK (R646): The twin receiver regains its signal, setting TWIN_STAT.sig and the sig_back flag. -/
  | twinSigBack
deriving DecidableEq, Repr

end Sys2Proof
end

