-- ==== Sys2Proof/Decode.lean ====
section
/-! DEFINITION. The decoder of command words. The table of operations and events gives no row any bits. -/

namespace Sys2Proof

/-- The command that a word of `nbits` bits spells: none, since the table gives no row a word. -/
def decodeTableWord (nbits w : Nat) : Option Instr :=
  match nbits, w with
  | _, _ => none

end Sys2Proof
end

