-- ==== Sys2Proof/Machine/Bits.lean ====
section
/-! DEFINITION. Bit slices of naturals, two's complement readings, byte lists in little-endian order. -/

namespace Sys2Proof.Machine

/-- `w` bits of `v` from bit `l` up. -/
def part (v l w : Nat) : Nat := v / 2 ^ l % 2 ^ w

/-- Bit `i` of `v` as 0 or 1. -/
def bitOf (v i : Nat) : Nat := v / 2 ^ i % 2

/-- Bit `i` of `v` is set. -/
def hasBit (v i : Nat) : Bool := bitOf v i == 1

/-- `v` with bit `i` set. -/
def setBit (v i : Nat) : Nat := if hasBit v i then v else v + 2 ^ i

/-- `v` with bit `i` clear. -/
def clrBit (v i : Nat) : Nat := if hasBit v i then v - 2 ^ i else v

/-- `v` with bit `i` given the value `b`. -/
def putBit (v i : Nat) (b : Bool) : Nat := if b then setBit v i else clrBit v i

/-- A truth value as a one-bit field. -/
def b2n (b : Bool) : Nat := if b then 1 else 0

/-- The two's complement reading of a `w`-bit value. -/
def sgn (w v : Nat) : Int :=
  let u := v % 2 ^ w
  if u < 2 ^ (w - 1) then (u : Int) else (u : Int) - (2 : Int) ^ w

/-- The `w`-bit two's complement pattern of an integer. -/
def unsgn (w : Nat) (i : Int) : Nat := (i % ((2 : Int) ^ w)).toNat

/-- A count that stops at `m`. -/
def satInc (m v : Nat) : Nat := if v < m then v + 1 else m

/-- Little-endian value of a byte list. -/
def leNat : List Byte → Nat
  | [] => 0
  | b :: bs => b.toNat + 256 * leNat bs

/-- The `n` low bytes of `v`, lowest first. -/
def leBytes : Nat → Nat → List Byte
  | 0, _ => []
  | n + 1, v => BitVec.ofNat 8 v :: leBytes n (v / 256)

end Sys2Proof.Machine
end

