-- ==== Sys2Proof/Machine/Crc.lean ====
section
/-! DEFINITION. The check sums of the spec: CRC-32 (IEEE 802.3) over bytes. -/

namespace Sys2Proof.Machine

/-- One bit of the reflected division by 0x04C1_1DB7. -/
def crcBit (c : Nat) : Nat := if c % 2 = 1 then Nat.xor (c / 2) 0xEDB88320 else c / 2

def crcByte (c : Nat) (b : Byte) : Nat := (List.range 8).foldl (fun a _ => crcBit a) (Nat.xor c b.toNat)

/-- CRC-32 (IEEE 802.3): reflected, initial and final value all ones. -/
def crc32 (l : List Byte) : Nat := Nat.xor (l.foldl crcByte 0xFFFFFFFF) 0xFFFFFFFF

/-- One bit of the division by 0x1021 in 16 bits. -/
def crc16Bit (c : Nat) : Nat := if c ≥ 32768 then Nat.xor (2 * c % 65536) 0x1021 else 2 * c

def crc16Byte (c : Nat) (b : Byte) : Nat := (List.range 8).foldl (fun a _ => crc16Bit a) (Nat.xor c (256 * b.toNat))

/-- CRC-16 with polynomial 0x1021 and initial value 0xFFFF, neither reflected nor inverted at its end (R601, Table 16-3). -/
def crc16 (l : List Byte) : Nat := l.foldl crc16Byte 0xFFFF

end Sys2Proof.Machine
end

