-- ==== Sys2Proof/Machine/F32.lean ====
section
/-! DEFINITION. IEEE 754 binary32 arithmetic on 32-bit patterns (R5), rounded to nearest, ties to even (R304).
A finite value is read as an exact dyadic number m·2^e, computed on exactly, and rounded once. -/

namespace Sys2Proof.Machine

/-- An exact dyadic number `m * 2 ^ e`. -/
structure Dyadic32 where
  m : Int
  e : Int
deriving DecidableEq, Repr

namespace F32

def nan : Nat := 0x7FC00000
def inf (neg : Bool) : Nat := if neg then 0xFF800000 else 0x7F800000
def zero (neg : Bool) : Nat := if neg then 0x80000000 else 0
def one : Nat := 0x3F800000
def half : Nat := 0x3F000000
def maxPos : Nat := 0x7F7FFFFF

def sign (a : Nat) : Bool := hasBit a 31
def expo (a : Nat) : Nat := part a 23 8
def mant (a : Nat) : Nat := part a 0 23
def isNan (a : Nat) : Bool := expo a == 255 && mant a != 0
def isInf (a : Nat) : Bool := expo a == 255 && mant a == 0
def isFinite (a : Nat) : Bool := expo a != 255
def isZero (a : Nat) : Bool := expo a == 0 && mant a == 0

/-- The exact value of a finite pattern. -/
def toDy (a : Nat) : Dyadic32 :=
  let m : Nat := if expo a = 0 then mant a else mant a + 2 ^ 23
  let e : Int := (if expo a = 0 then 1 else (expo a : Int)) - 150
  ⟨if sign a then -(m : Int) else m, e⟩

/-- Round the positive number `m * 2 ^ e` (plus a lost remainder when `sticky`) to a magnitude pattern. -/
def roundMag (m : Nat) (e : Int) (sticky : Bool) : Nat :=
  if m = 0 then 0 else
  let bits : Int := (m.log2 : Int) + 1
  let top : Int := bits + e                       -- value lies in [2^(top-1), 2^top)
  let ulpE : Int := max (top - 24) (-149)         -- exponent of one unit in the last place
  let sh : Int := ulpE - e
  let q : Nat := if sh ≤ 0 then m * 2 ^ (-sh).toNat else m / 2 ^ sh.toNat
  let r : Nat := if sh ≤ 0 then 0 else m % 2 ^ sh.toNat
  let h : Nat := if sh ≤ 0 then 1 else 2 ^ (sh.toNat - 1)
  let exactHalf := sh > 0 && r == h && !sticky
  let above := if sh ≤ 0 then false else (r > h || (r == h && sticky))
  let q' := if above || (exactHalf && q % 2 == 1) then q + 1 else q
  -- q' is at most 2^24; ulpE = -149 covers the subnormals
  let pat : Int := if q' < 2 ^ 23 then (q' : Int)
    else (ulpE + 149) * 2 ^ 23 + q'
  if pat ≥ 0x7F800000 then 0x7F800000 else pat.toNat

/-- Round an exact number; an exact zero takes the sign given. -/
def ofDy (d : Dyadic32) (negZero : Bool := false) : Nat :=
  if d.m = 0 then zero negZero
  else if d.m < 0 then roundMag d.m.natAbs d.e false + 0x80000000
  else roundMag d.m.natAbs d.e false

/-- Subnormal results are replaced by zero of the same sign (R304, after rounding). -/
def ftz (a : Nat) : Nat := if expo a = 0 then zero (sign a) else a

def dyAdd (a b : Dyadic32) : Dyadic32 :=
  if a.e ≤ b.e then ⟨a.m + b.m * 2 ^ (b.e - a.e).toNat, a.e⟩
  else ⟨a.m * 2 ^ (a.e - b.e).toNat + b.m, b.e⟩

def neg (a : Nat) : Nat := if sign a then a - 0x80000000 else a + 0x80000000
def abs (a : Nat) : Nat := if sign a then a - 0x80000000 else a

def add (a b : Nat) : Nat :=
  if isNan a || isNan b then nan
  else if isInf a then (if isInf b && sign a != sign b then nan else a)
  else if isInf b then b
  else ofDy (dyAdd (toDy a) (toDy b)) (sign a && sign b)

def sub (a b : Nat) : Nat := add a (neg b)

def mul (a b : Nat) : Nat :=
  let sg := sign a != sign b
  if isNan a || isNan b then nan
  else if isInf a || isInf b then (if isZero a || isZero b then nan else inf sg)
  else
    let x := toDy a; let y := toDy b
    ofDy ⟨x.m * y.m, x.e + y.e⟩ sg

def div (a b : Nat) : Nat :=
  let sg := sign a != sign b
  if isNan a || isNan b then nan
  else if isInf a then (if isInf b then nan else inf sg)
  else if isInf b then zero sg
  else if isZero b then (if isZero a then nan else inf sg)
  else if isZero a then zero sg
  else
    let x := toDy a; let y := toDy b
    let n := x.m.natAbs * 2 ^ 64
    let q := n / y.m.natAbs
    let p := roundMag (2 * q + 1) (x.e - y.e - 65) false
    let p := if n % y.m.natAbs = 0 then roundMag q (x.e - y.e - 64) false else p
    if sg then p + 0x80000000 else p

/-- Integer square root with `fuel` bits, highest first. -/
def isqrt : Nat → Nat → Nat → Nat
  | 0, _, r => r
  | k + 1, n, r => isqrt k n (if (r + 2 ^ k) * (r + 2 ^ k) ≤ n then r + 2 ^ k else r)

def sqrt (a : Nat) : Nat :=
  if isNan a then nan
  else if isZero a then a
  else if sign a then nan
  else if isInf a then a
  else
    let x := toDy a
    let odd := x.e % 2 != 0
    let m := x.m.natAbs * 2 ^ (if odd then 61 else 60)
    let e := (if odd then x.e - 61 else x.e - 60) / 2
    let r := isqrt 44 m 0
    roundMag (2 * r + (if r * r = m then 0 else 1)) (e - 1) false

/-- `a < b`; false when either is not a number. -/
def lt (a b : Nat) : Bool :=
  if isNan a || isNan b then false
  else
    let v (x : Nat) : Int := if sign x then -((abs x : Nat) : Int) else x
    v a < v b

def le (a b : Nat) : Bool :=
  if isNan a || isNan b then false
  else
    let v (x : Nat) : Int := if sign x then -((abs x : Nat) : Int) else x
    v a ≤ v b

def ge (a b : Nat) : Bool := le b a
def gt (a b : Nat) : Bool := lt b a
def eq (a b : Nat) : Bool := le a b && le b a

def max (a b : Nat) : Nat := if lt a b then b else a
def min (a b : Nat) : Nat := if lt b a then b else a
def clamp (x lo hi : Nat) : Nat := if lt x lo then lo else if lt hi x then hi else x

def ofInt (i : Int) : Nat := ofDy ⟨i, 0⟩
def ofNat (n : Nat) : Nat := ofInt n

/-- n / 2^k as binary32. -/
def ofScaled (n : Int) (k : Nat) : Nat := ofDy ⟨n, -(k : Int)⟩

/-- The nearest integer, halves upward (R669); 0 for what is not finite. -/
def round (a : Nat) : Int :=
  if !isFinite a then 0
  else
    let x := toDy a
    if x.e ≥ 0 then x.m * 2 ^ x.e.toNat
    else (2 * x.m + 2 ^ (-x.e).toNat) / 2 ^ ((-x.e).toNat + 1)

/-- The largest integer not above the value; 0 for what is not finite. -/
def floor (a : Nat) : Int :=
  if !isFinite a then 0
  else
    let x := toDy a
    if x.e ≥ 0 then x.m * 2 ^ x.e.toNat else x.m / 2 ^ (-x.e).toNat

/-- Decimal constant n / d, rounded once. -/
def ratio (n d : Nat) : Nat := div (ofNat n) (ofNat d)

end F32
end Sys2Proof.Machine
end

