-- ==== Sys2Proof/Machine/Field.lean ====
section
/-! DEFINITION. A register field: where it lies, its width, its reset value and its access type (R6, R7). -/

namespace Sys2Proof.Machine

/-- Access types of Table 00-4. `rwi` is the manual's "RW, INIT only" (chapter 15) and `rwe` its "RW, en clear only"
(chapter 16). -/
inductive Access where
  | rw | ro | w1c | w1s | wo | rws | rwl | rwi | rwe
deriving DecidableEq, Repr

/-- One field of one register instance: register address, lowest bit, width, reset value, access type. -/
structure Field where
  addr  : Nat
  lsb   : Nat
  width : Nat
  reset : Nat
  acc   : Access
deriving DecidableEq, Repr

/-- The key under which a field's value is kept: no two fields share register address and lowest bit. -/
def Field.key (f : Field) : Nat := f.addr * 32 + f.lsb

/-- A family of equal registers: name, address of instance (0, 0), strides and counts of its one or two instance
numbers, and the fields of instance (i, j). -/
structure Family where
  name   : String
  base   : Nat
  dims   : List (Nat × Nat)
  fields : Nat → Nat → List Field

/-- The instance numbers of an address within a family. -/
def Family.locate (m : Family) (a : Nat) : Option (Nat × Nat) :=
  if a < m.base then none
  else
    let d := a - m.base
    match m.dims with
    | [] => if d = 0 then some (0, 0) else none
    | [(s, n)] => if d % s = 0 && d / s < n then some (d / s, 0) else none
    | (s, n) :: (s2, n2) :: _ =>
      let r := d % s
      if d / s < n && r % s2 = 0 && r / s2 < n2 then some (d / s, r / s2) else none

/-- The first family of a list that holds a register at the address, with that register's fields. -/
def Family.find (a : Nat) : List Family → Option (List Field)
  | [] => none
  | m :: ms =>
    match m.locate a with
    | some (i, j) => some (m.fields i j)
    | none => Family.find a ms

end Sys2Proof.Machine
end

