-- ==== Sys2Proof/Machine/RegsAdc.lean ====
section
/-! DEFINITION. The register fields of chapter 06, from the register tables of the spec: address, lowest bit, width,
reset value and access type of each named field, and the list of register families with their fields. -/

namespace Sys2Proof.Machine.Reg

def ADC_CTL_vrefp_mv : Field := ⟨0x41200000, 16, 16, 0, .rwl⟩
def ADC_CTL_ref : Field := ⟨0x41200000, 0, 2, 0, .rwl⟩
def ADC_STAT_scan_entry : Field := ⟨0x41200004, 8, 5, 0, .ro⟩
def ADC_STAT_scan_busy : Field := ⟨0x41200004, 1, 1, 0, .ro⟩
def ADC_STAT_ref_rdy : Field := ⟨0x41200004, 0, 1, 0, .ro⟩
def ADC_FLAGS_sd_stuck : Field := ⟨0x41200008, 16, 12, 0, .w1c⟩
def ADC_FLAGS_ref_fail : Field := ⟨0x41200008, 3, 1, 0, .w1c⟩
def ADC_FLAGS_ref_ev : Field := ⟨0x41200008, 2, 1, 0, .w1c⟩
def ADC_FLAGS_scan_ovr : Field := ⟨0x41200008, 1, 1, 0, .w1c⟩
def ADC_FLAGS_scan_done : Field := ⟨0x41200008, 0, 1, 0, .w1c⟩
def ADC_SCAN_CTL_start : Field := ⟨0x41200010, 31, 1, 0, .w1s⟩
def ADC_SCAN_CTL_trig_en : Field := ⟨0x41200010, 16, 1, 0, .rw⟩
def ADC_SCAN_CTL_trig_slice : Field := ⟨0x41200010, 12, 4, 0, .rw⟩
def ADC_SCAN_CTL_trig_cmp : Field := ⟨0x41200010, 8, 2, 0, .rw⟩
def ADC_SCAN_CTL_last : Field := ⟨0x41200010, 0, 4, 0, .rw⟩
def ADC_S_CFG_lp (n : Nat) : Field := ⟨0x41200100 + 0x8 * n, 1, 1, 0, .rwl⟩
def ADC_S_CFG_en (n : Nat) : Field := ⟨0x41200100 + 0x8 * n, 0, 1, 1, .rwl⟩
def ADC_S_RES_raw (n : Nat) : Field := ⟨0x41200104 + 0x8 * n, 16, 16, 0, .ro⟩
def ADC_S_RES_clip (n : Nat) : Field := ⟨0x41200104 + 0x8 * n, 3, 1, 0, .ro⟩
def ADC_S_RES_lp (n : Nat) : Field := ⟨0x41200104 + 0x8 * n, 2, 1, 0, .ro⟩
def ADC_S_RES_ref_nr (n : Nat) : Field := ⟨0x41200104 + 0x8 * n, 1, 1, 0, .ro⟩
def ADC_S_RES_fast (n : Nat) : Field := ⟨0x41200104 + 0x8 * n, 0, 1, 0, .ro⟩
def SD_CFG_dly (m : Nat) : Field := ⟨0x41200210 + 0x8 * m, 16, 5, 5, .rwl⟩
def SD_CFG_dec (m : Nat) : Field := ⟨0x41200210 + 0x8 * m, 0, 9, 32, .rwl⟩
def SD_RES_raw (m : Nat) : Field := ⟨0x41200214 + 0x8 * m, 16, 16, 0, .ro⟩
def SD_RES_valid (m : Nat) : Field := ⟨0x41200214 + 0x8 * m, 1, 1, 0, .ro⟩
def SD_RES_level (m : Nat) : Field := ⟨0x41200214 + 0x8 * m, 0, 1, 0, .ro⟩
def ADC_SCAN_count (e : Nat) : Field := ⟨0x41200300 + 0x4 * e, 20, 4, 0, .rw⟩
def ADC_SCAN_il (e : Nat) : Field := ⟨0x41200300 + 0x4 * e, 16, 1, 0, .rw⟩
def ADC_SCAN_ain (e : Nat) : Field := ⟨0x41200300 + 0x4 * e, 8, 6, 0, .rw⟩
def ADC_SCAN_conv (e : Nat) : Field := ⟨0x41200300 + 0x4 * e, 0, 4, 0, .rw⟩
def ADC_SCR_raw (e : Nat) : Field := ⟨0x41200340 + 0x4 * e, 16, 16, 0, .ro⟩
def ADC_SCR_valid (e : Nat) : Field := ⟨0x41200340 + 0x4 * e, 1, 1, 0, .ro⟩
def ADC_SCR_lp (e : Nat) : Field := ⟨0x41200340 + 0x4 * e, 0, 1, 0, .ro⟩
def CMP_STAT_lo_now : Field := ⟨0x41200400, 16, 16, 0, .ro⟩
def CMP_STAT_hi_now : Field := ⟨0x41200400, 0, 16, 0, .ro⟩
def CMP_FLAGS_lo_trip : Field := ⟨0x41200404, 16, 16, 0, .w1c⟩
def CMP_FLAGS_hi_trip : Field := ⟨0x41200404, 0, 16, 0, .w1c⟩
def CMP_CFG_filt (c : Nat) : Field := ⟨0x41200500 + 0x8 * c, 8, 4, 0, .rwl⟩
def CMP_CFG_hyst (c : Nat) : Field := ⟨0x41200500 + 0x8 * c, 6, 2, 0, .rwl⟩
def CMP_CFG_sel (c : Nat) : Field := ⟨0x41200500 + 0x8 * c, 4, 2, 0, .rwl⟩
def CMP_CFG_lo_en (c : Nat) : Field := ⟨0x41200500 + 0x8 * c, 2, 1, 0, .rwl⟩
def CMP_CFG_hi_en (c : Nat) : Field := ⟨0x41200500 + 0x8 * c, 1, 1, 0, .rwl⟩
def CMP_CFG_en (c : Nat) : Field := ⟨0x41200500 + 0x8 * c, 0, 1, 0, .rwl⟩
def CMP_THR_hi (c : Nat) : Field := ⟨0x41200504 + 0x8 * c, 16, 10, 1023, .rwl⟩
def CMP_THR_lo (c : Nat) : Field := ⟨0x41200504 + 0x8 * c, 0, 10, 0, .rwl⟩
def ADC_C_SLOT_off (k : Nat) (s : Nat) : Field := ⟨0x41201000 + 0x200 * k + 0x4 * s, 16, 16, 0, .rwl⟩
def ADC_C_SLOT_role (k : Nat) (s : Nat) : Field := ⟨0x41201000 + 0x200 * k + 0x4 * s, 12, 4, 0, .rwl⟩
def ADC_C_SLOT_path (k : Nat) (s : Nat) : Field := ⟨0x41201000 + 0x200 * k + 0x4 * s, 10, 1, 0, .rwl⟩
def ADC_C_SLOT_unit (k : Nat) (s : Nat) : Field := ⟨0x41201000 + 0x200 * k + 0x4 * s, 6, 4, 0, .rwl⟩
def ADC_C_SLOT_ain (k : Nat) (s : Nat) : Field := ⟨0x41201000 + 0x200 * k + 0x4 * s, 0, 6, 0, .rwl⟩
def ADC_C_CFG_sum_en (k : Nat) : Field := ⟨0x41201100 + 0x200 * k, 5, 1, 1, .rwl⟩
def ADC_C_CFG_cmp_en (k : Nat) : Field := ⟨0x41201100 + 0x200 * k, 4, 1, 1, .rwl⟩
def ADC_C_CFG_cmp_n (k : Nat) : Field := ⟨0x41201100 + 0x200 * k, 0, 4, 3, .rwl⟩
def ADC_C_STAT_vdc2 (k : Nat) : Field := ⟨0x4120110C + 0x200 * k, 31, 1, 0, .ro⟩
def ADC_C_STAT_cover (k : Nat) : Field := ⟨0x4120110C + 0x200 * k, 28, 3, 0, .ro⟩
def ADC_C_STAT_valid (k : Nat) : Field := ⟨0x4120110C + 0x200 * k, 0, 28, 0, .ro⟩
def ADC_C_FLAGS_slot_bad (k : Nat) : Field := ⟨0x41201110 + 0x200 * k, 6, 1, 0, .w1c⟩
def ADC_C_FLAGS_lost (k : Nat) : Field := ⟨0x41201110 + 0x200 * k, 5, 1, 0, .w1c⟩
def ADC_C_FLAGS_clip (k : Nat) : Field := ⟨0x41201110 + 0x200 * k, 4, 1, 0, .w1c⟩
def ADC_C_FLAGS_isum (k : Nat) : Field := ⟨0x41201110 + 0x200 * k, 3, 1, 0, .w1c⟩
def ADC_C_FLAGS_vdc_mis (k : Nat) : Field := ⟨0x41201110 + 0x200 * k, 2, 1, 0, .w1c⟩
def ADC_C_FLAGS_i_mis (k : Nat) : Field := ⟨0x41201110 + 0x200 * k, 1, 1, 0, .w1c⟩
def ADC_C_FLAGS_rdy (k : Nat) : Field := ⟨0x41201110 + 0x200 * k, 0, 1, 0, .w1c⟩
def ADC_C_RB_CTL_freeze (k : Nat) : Field := ⟨0x41201118 + 0x200 * k, 0, 1, 0, .rw⟩
def ADC_C_RB_STAT_seq (k : Nat) : Field := ⟨0x4120111C + 0x200 * k, 16, 16, 0, .ro⟩
def ADC_C_RB_STAT_lost (k : Nat) : Field := ⟨0x4120111C + 0x200 * k, 8, 8, 0, .ro⟩
def ADC_C_RB_STAT_bank (k : Nat) : Field := ⟨0x4120111C + 0x200 * k, 0, 1, 0, .ro⟩
def SD_CLK_CFG_en (c : Nat) : Field := ⟨0x41200200, 8*c+7, 1, 0, .rwl⟩
def SD_CLK_CFG_div (c : Nat) : Field := ⟨0x41200200, 8*c, 5, 10, .rwl⟩
def ADC_C_GAIN_v (k : Nat) (s : Nat) : Field := ⟨0x41201080 + 0x200 * k + 0x4 * s, 0, 32, 0x3F800000, .rwl⟩
def ADC_C_TOL_v (k : Nat) : Field := ⟨0x41201104 + 0x200 * k, 0, 32, 0x41A00000, .rwl⟩
def ADC_C_VTOL_v (k : Nat) : Field := ⟨0x41201108 + 0x200 * k, 0, 32, 0x41200000, .rwl⟩
def ADC_IRQ_EN_sd_stuck : Field := ⟨0x4120000C, 16, 12, 0, .rw⟩
def ADC_IRQ_EN_ref_fail : Field := ⟨0x4120000C, 3, 1, 0, .rw⟩
def ADC_IRQ_EN_ref_ev : Field := ⟨0x4120000C, 2, 1, 0, .rw⟩
def ADC_IRQ_EN_scan_ovr : Field := ⟨0x4120000C, 1, 1, 0, .rw⟩
def ADC_IRQ_EN_scan_done : Field := ⟨0x4120000C, 0, 1, 0, .rw⟩
def CMP_IRQ_EN_lo_trip : Field := ⟨0x41200408, 16, 16, 0, .rw⟩
def CMP_IRQ_EN_hi_trip : Field := ⟨0x41200408, 0, 16, 0, .rw⟩
def ADC_C_IRQ_EN_slot_bad (k : Nat) : Field := ⟨0x41201114 + 0x200 * k, 6, 1, 0, .rw⟩
def ADC_C_IRQ_EN_lost (k : Nat) : Field := ⟨0x41201114 + 0x200 * k, 5, 1, 0, .rw⟩
def ADC_C_IRQ_EN_clip (k : Nat) : Field := ⟨0x41201114 + 0x200 * k, 4, 1, 0, .rw⟩
def ADC_C_IRQ_EN_isum (k : Nat) : Field := ⟨0x41201114 + 0x200 * k, 3, 1, 0, .rw⟩
def ADC_C_IRQ_EN_vdc_mis (k : Nat) : Field := ⟨0x41201114 + 0x200 * k, 2, 1, 0, .rw⟩
def ADC_C_IRQ_EN_i_mis (k : Nat) : Field := ⟨0x41201114 + 0x200 * k, 1, 1, 0, .rw⟩
def ADC_C_IRQ_EN_rdy (k : Nat) : Field := ⟨0x41201114 + 0x200 * k, 0, 1, 0, .rw⟩

/-- The register families of chapter 06. -/
def famAdc0 : List Family := [
  ⟨"ADC_CTL", 0x41200000, [], fun _ _ => [ADC_CTL_vrefp_mv, ADC_CTL_ref]⟩,
  ⟨"ADC_STAT", 0x41200004, [], fun _ _ => [ADC_STAT_scan_entry, ADC_STAT_scan_busy, ADC_STAT_ref_rdy]⟩,
  ⟨"ADC_FLAGS", 0x41200008, [], fun _ _ => [ADC_FLAGS_sd_stuck, ADC_FLAGS_ref_fail, ADC_FLAGS_ref_ev, ADC_FLAGS_scan_ovr, ADC_FLAGS_scan_done]⟩,
  ⟨"ADC_SCAN_CTL", 0x41200010, [], fun _ _ => [ADC_SCAN_CTL_start, ADC_SCAN_CTL_trig_en, ADC_SCAN_CTL_trig_slice, ADC_SCAN_CTL_trig_cmp, ADC_SCAN_CTL_last]⟩,
  ⟨"ADC_S_CFG", 0x41200100, [(0x8, 16)], fun i _ => [ADC_S_CFG_lp i, ADC_S_CFG_en i]⟩,
  ⟨"ADC_S_RES", 0x41200104, [(0x8, 16)], fun i _ => [ADC_S_RES_raw i, ADC_S_RES_clip i, ADC_S_RES_lp i, ADC_S_RES_ref_nr i, ADC_S_RES_fast i]⟩,
  ⟨"SD_CFG", 0x41200210, [(0x8, 12)], fun i _ => [SD_CFG_dly i, SD_CFG_dec i]⟩,
  ⟨"SD_RES", 0x41200214, [(0x8, 12)], fun i _ => [SD_RES_raw i, SD_RES_valid i, SD_RES_level i]⟩,
  ⟨"ADC_SCAN", 0x41200300, [(0x4, 16)], fun i _ => [ADC_SCAN_count i, ADC_SCAN_il i, ADC_SCAN_ain i, ADC_SCAN_conv i]⟩,
  ⟨"ADC_SCR", 0x41200340, [(0x4, 16)], fun i _ => [ADC_SCR_raw i, ADC_SCR_valid i, ADC_SCR_lp i]⟩,
  ⟨"CMP_STAT", 0x41200400, [], fun _ _ => [CMP_STAT_lo_now, CMP_STAT_hi_now]⟩,
  ⟨"CMP_FLAGS", 0x41200404, [], fun _ _ => [CMP_FLAGS_lo_trip, CMP_FLAGS_hi_trip]⟩,
  ⟨"CMP_CFG", 0x41200500, [(0x8, 16)], fun i _ => [CMP_CFG_filt i, CMP_CFG_hyst i, CMP_CFG_sel i, CMP_CFG_lo_en i, CMP_CFG_hi_en i, CMP_CFG_en i]⟩,
  ⟨"CMP_THR", 0x41200504, [(0x8, 16)], fun i _ => [CMP_THR_hi i, CMP_THR_lo i]⟩,
  ⟨"ADC_C_SLOT", 0x41201000, [(0x200, 4), (0x4, 28)], fun i j => [ADC_C_SLOT_off i j, ADC_C_SLOT_role i j, ADC_C_SLOT_path i j, ADC_C_SLOT_unit i j, ADC_C_SLOT_ain i j]⟩,
  ⟨"ADC_C_CFG", 0x41201100, [(0x200, 4)], fun i _ => [ADC_C_CFG_sum_en i, ADC_C_CFG_cmp_en i, ADC_C_CFG_cmp_n i]⟩,
  ⟨"ADC_C_STAT", 0x4120110C, [(0x200, 4)], fun i _ => [ADC_C_STAT_vdc2 i, ADC_C_STAT_cover i, ADC_C_STAT_valid i]⟩,
  ⟨"ADC_C_FLAGS", 0x41201110, [(0x200, 4)], fun i _ => [ADC_C_FLAGS_slot_bad i, ADC_C_FLAGS_lost i, ADC_C_FLAGS_clip i, ADC_C_FLAGS_isum i, ADC_C_FLAGS_vdc_mis i, ADC_C_FLAGS_i_mis i, ADC_C_FLAGS_rdy i]⟩,
  ⟨"ADC_C_RB_CTL", 0x41201118, [(0x200, 4)], fun i _ => [ADC_C_RB_CTL_freeze i]⟩,
  ⟨"ADC_C_RB_STAT", 0x4120111C, [(0x200, 4)], fun i _ => [ADC_C_RB_STAT_seq i, ADC_C_RB_STAT_lost i, ADC_C_RB_STAT_bank i]⟩,
  ⟨"SD_CLK_CFG", 0x41200200, [], fun _ _ => [SD_CLK_CFG_en 0, SD_CLK_CFG_en 1, SD_CLK_CFG_en 2, SD_CLK_CFG_en 3, SD_CLK_CFG_div 0, SD_CLK_CFG_div 1, SD_CLK_CFG_div 2, SD_CLK_CFG_div 3]⟩,
  ⟨"ADC_C_GAIN", 0x41201080, [(0x200, 4), (0x4, 28)], fun i j => [ADC_C_GAIN_v i j]⟩,
  ⟨"ADC_C_TOL", 0x41201104, [(0x200, 4)], fun i _ => [ADC_C_TOL_v i]⟩,
  ⟨"ADC_C_VTOL", 0x41201108, [(0x200, 4)], fun i _ => [ADC_C_VTOL_v i]⟩,
  ⟨"ADC_IRQ_EN", 0x4120000C, [], fun _ _ => [ADC_IRQ_EN_sd_stuck, ADC_IRQ_EN_ref_fail, ADC_IRQ_EN_ref_ev, ADC_IRQ_EN_scan_ovr, ADC_IRQ_EN_scan_done]⟩,
  ⟨"CMP_IRQ_EN", 0x41200408, [], fun _ _ => [CMP_IRQ_EN_lo_trip, CMP_IRQ_EN_hi_trip]⟩,
  ⟨"ADC_C_IRQ_EN", 0x41201114, [(0x200, 4)], fun i _ => [ADC_C_IRQ_EN_slot_bad i, ADC_C_IRQ_EN_lost i, ADC_C_IRQ_EN_clip i, ADC_C_IRQ_EN_isum i, ADC_C_IRQ_EN_vdc_mis i, ADC_C_IRQ_EN_i_mis i, ADC_C_IRQ_EN_rdy i]⟩]

def famAdc : List Family := famAdc0

end Sys2Proof.Machine.Reg
end

