-- ==== Sys2Proof/Machine/RegsCan.lean ====
section
/-! DEFINITION. The register fields of chapter 15, from the register tables of the spec: address, lowest bit, width,
reset value and access type of each named field, and the list of register families with their fields. -/

namespace Sys2Proof.Machine.Reg

def CAN_CFG_ack_lim (n : Nat) : Field := ⟨0x41600000 + 0x1000 * n, 16, 8, 16, .rwi⟩
def CAN_CFG_hp_irq (n : Nat) : Field := ⟨0x41600000 + 0x1000 * n, 8, 1, 1, .rwi⟩
def CAN_CFG_alone_abort (n : Nat) : Field := ⟨0x41600000 + 0x1000 * n, 6, 1, 0, .rwi⟩
def CAN_CFG_bo_auto (n : Nat) : Field := ⟨0x41600000 + 0x1000 * n, 5, 1, 0, .rwi⟩
def CAN_CFG_nomatch (n : Nat) : Field := ⟨0x41600000 + 0x1000 * n, 4, 1, 0, .rwi⟩
def CAN_CFG_tx_order (n : Nat) : Field := ⟨0x41600000 + 0x1000 * n, 3, 1, 0, .rwi⟩
def CAN_CFG_brs_en (n : Nat) : Field := ⟨0x41600000 + 0x1000 * n, 1, 1, 0, .rwi⟩
def CAN_CFG_fd_en (n : Nat) : Field := ⟨0x41600000 + 0x1000 * n, 0, 1, 0, .rwi⟩
def CAN_CTL_ureset (n : Nat) : Field := ⟨0x41600004 + 0x1000 * n, 9, 1, 0, .w1s⟩
def CAN_CTL_bo_rec (n : Nat) : Field := ⟨0x41600004 + 0x1000 * n, 8, 1, 0, .w1s⟩
def CAN_CTL_mode (n : Nat) : Field := ⟨0x41600004 + 0x1000 * n, 0, 2, 0, .rw⟩
def CAN_NBT_sjw (n : Nat) : Field := ⟨0x41600014 + 0x1000 * n, 25, 7, 5, .rwi⟩
def CAN_NBT_tseg2 (n : Nat) : Field := ⟨0x41600014 + 0x1000 * n, 18, 7, 5, .rwi⟩
def CAN_NBT_tseg1 (n : Nat) : Field := ⟨0x41600014 + 0x1000 * n, 10, 8, 34, .rwi⟩
def CAN_NBT_brp (n : Nat) : Field := ⟨0x41600014 + 0x1000 * n, 0, 10, 19, .rwi⟩
def CAN_DBT_sjw (n : Nat) : Field := ⟨0x41600018 + 0x1000 * n, 24, 4, 5, .rwi⟩
def CAN_DBT_tseg2 (n : Nat) : Field := ⟨0x41600018 + 0x1000 * n, 16, 4, 5, .rwi⟩
def CAN_DBT_tseg1 (n : Nat) : Field := ⟨0x41600018 + 0x1000 * n, 8, 5, 19, .rwi⟩
def CAN_DBT_brp (n : Nat) : Field := ⟨0x41600018 + 0x1000 * n, 0, 5, 0, .rwi⟩
def CAN_TDC_measured (n : Nat) : Field := ⟨0x4160001C + 0x1000 * n, 16, 8, 0, .ro⟩
def CAN_TDC_en (n : Nat) : Field := ⟨0x4160001C + 0x1000 * n, 7, 1, 0, .rwi⟩
def CAN_TDC_offset (n : Nat) : Field := ⟨0x4160001C + 0x1000 * n, 0, 7, 20, .rwi⟩
def CAN_STAT_ack_run (n : Nat) : Field := ⟨0x41600008 + 0x1000 * n, 25, 7, 0, .ro⟩
def CAN_STAT_tec (n : Nat) : Field := ⟨0x41600008 + 0x1000 * n, 16, 9, 0, .ro⟩
def CAN_STAT_rec (n : Nat) : Field := ⟨0x41600008 + 0x1000 * n, 8, 8, 0, .ro⟩
def CAN_STAT_lec_data (n : Nat) : Field := ⟨0x41600008 + 0x1000 * n, 7, 1, 0, .ro⟩
def CAN_STAT_lec (n : Nat) : Field := ⟨0x41600008 + 0x1000 * n, 4, 3, 0, .ro⟩
def CAN_STAT_integrating (n : Nat) : Field := ⟨0x41600008 + 0x1000 * n, 3, 1, 0, .ro⟩
def CAN_STAT_alone (n : Nat) : Field := ⟨0x41600008 + 0x1000 * n, 2, 1, 0, .ro⟩
def CAN_STAT_conf (n : Nat) : Field := ⟨0x41600008 + 0x1000 * n, 0, 2, 0, .ro⟩
def CAN_FLAGS_cfg_ign (n : Nat) : Field := ⟨0x4160000C + 0x1000 * n, 13, 1, 0, .w1c⟩
def CAN_FLAGS_txw_ign (n : Nat) : Field := ⟨0x4160000C + 0x1000 * n, 12, 1, 0, .w1c⟩
def CAN_FLAGS_tx_fail (n : Nat) : Field := ⟨0x4160000C + 0x1000 * n, 9, 3, 0, .w1c⟩
def CAN_FLAGS_tx_done (n : Nat) : Field := ⟨0x4160000C + 0x1000 * n, 6, 3, 0, .w1c⟩
def CAN_FLAGS_alone_ev (n : Nat) : Field := ⟨0x4160000C + 0x1000 * n, 5, 1, 0, .w1c⟩
def CAN_FLAGS_busoff_ev (n : Nat) : Field := ⟨0x4160000C + 0x1000 * n, 4, 1, 0, .w1c⟩
def CAN_FLAGS_passive_ev (n : Nat) : Field := ⟨0x4160000C + 0x1000 * n, 3, 1, 0, .w1c⟩
def CAN_FLAGS_hp_ovr (n : Nat) : Field := ⟨0x4160000C + 0x1000 * n, 2, 1, 0, .w1c⟩
def CAN_FLAGS_rx_ovr (n : Nat) : Field := ⟨0x4160000C + 0x1000 * n, 1, 1, 0, .w1c⟩
def CAN_FLAGS_rx_ev (n : Nat) : Field := ⟨0x4160000C + 0x1000 * n, 0, 1, 0, .w1c⟩
def CAN_IRQ_EN_en (n : Nat) : Field := ⟨0x41600010 + 0x1000 * n, 0, 14, 0, .rw⟩
def CAN_FLT_ID_action (n : Nat) (f : Nat) : Field := ⟨0x41600100 + 0x1000 * n + 0x8 * f, 30, 2, 0, .rw⟩
def CAN_FLT_ID_ide (n : Nat) (f : Nat) : Field := ⟨0x41600100 + 0x1000 * n + 0x8 * f, 29, 1, 0, .rw⟩
def CAN_FLT_ID_id (n : Nat) (f : Nat) : Field := ⟨0x41600100 + 0x1000 * n + 0x8 * f, 0, 29, 0, .rw⟩
def CAN_FLT_MSK_mask (n : Nat) (f : Nat) : Field := ⟨0x41600104 + 0x1000 * n + 0x8 * f, 0, 29, 536870911, .rw⟩
def CAN_RXF_STAT_lost (n : Nat) : Field := ⟨0x41600040 + 0x1000 * n, 16, 16, 0, .ro⟩
def CAN_RXF_STAT_count (n : Nat) : Field := ⟨0x41600040 + 0x1000 * n, 0, 5, 0, .ro⟩
def CAN_RXF_CTL_pop (n : Nat) : Field := ⟨0x41600044 + 0x1000 * n, 0, 1, 0, .w1s⟩
def CAN_HP_STAT_ovr (n : Nat) : Field := ⟨0x41600048 + 0x1000 * n, 16, 16, 0, .ro⟩
def CAN_HP_STAT_new (n : Nat) : Field := ⟨0x41600048 + 0x1000 * n, 0, 1, 0, .ro⟩
def CAN_HP_CTL_take (n : Nat) : Field := ⟨0x4160004C + 0x1000 * n, 0, 1, 0, .w1s⟩
def PORCH_CFG_ge_base : Field := ⟨0x41640000, 24, 8, 32, .rw⟩
def PORCH_CFG_req_to : Field := ⟨0x41640000, 16, 8, 20, .rw⟩
def PORCH_CFG_safe_en : Field := ⟨0x41640000, 14, 1, 0, .rw⟩
def PORCH_CFG_safe_can : Field := ⟨0x41640000, 12, 2, 0, .rw⟩
def PORCH_CFG_skip : Field := ⟨0x41640000, 8, 4, 2, .rw⟩
def PORCH_CFG_bam_gap : Field := ⟨0x41640000, 0, 8, 50, .rw⟩
def PORCH_STAT_bam_lost : Field := ⟨0x41640004, 0, 16, 0, .ro⟩
def PORCH_FLAGS_pool_bad : Field := ⟨0x41640008, 5, 1, 0, .w1c⟩
def PORCH_FLAGS_cmd_lost : Field := ⟨0x41640008, 4, 1, 0, .w1c⟩
def PORCH_FLAGS_cmd : Field := ⟨0x41640008, 3, 1, 0, .w1c⟩
def PORCH_FLAGS_req : Field := ⟨0x41640008, 2, 1, 0, .w1c⟩
def PORCH_FLAGS_ses_end : Field := ⟨0x41640008, 1, 1, 0, .w1c⟩
def PORCH_FLAGS_addr_ev : Field := ⟨0x41640008, 0, 1, 0, .w1c⟩
def PORCH_IRQ_EN_en : Field := ⟨0x4164000C, 0, 6, 0, .rw⟩
def PORCH_POOL_en : Field := ⟨0x41640010, 31, 1, 0, .rw⟩
def PORCH_POOL_base : Field := ⟨0x41640010, 0, 10, 0, .rw⟩
def PORCH_ETP_CFG_en : Field := ⟨0x41640014, 31, 1, 0, .rw⟩
def PORCH_ETP_CFG_nbuf : Field := ⟨0x41640014, 16, 9, 0, .rw⟩
def PORCH_ETP_CFG_base : Field := ⟨0x41640014, 0, 10, 0, .rw⟩
def PORCH_REQ_sa : Field := ⟨0x41640080, 24, 8, 0, .ro⟩
def PORCH_REQ_valid : Field := ⟨0x41640080, 23, 1, 0, .ro⟩
def PORCH_REQ_port : Field := ⟨0x41640080, 20, 2, 0, .ro⟩
def PORCH_REQ_pgn : Field := ⟨0x41640080, 0, 18, 0, .ro⟩
def PORCH_REQ_ANS_ans : Field := ⟨0x41640084, 0, 2, 0, .wo⟩
def PORCH_P_CFG_per (n : Nat) : Field := ⟨0x41640100 + 0x40 * n, 16, 16, 100, .rw⟩
def PORCH_P_CFG_pref_addr (n : Nat) : Field := ⟨0x41640100 + 0x40 * n, 8, 8, 128, .rw⟩
def PORCH_P_CFG_cmd_req (n : Nat) : Field := ⟨0x41640100 + 0x40 * n, 5, 1, 0, .rw⟩
def PORCH_P_CFG_req_sw (n : Nat) : Field := ⟨0x41640100 + 0x40 * n, 4, 1, 0, .rw⟩
def PORCH_P_CFG_cmd_addr (n : Nat) : Field := ⟨0x41640100 + 0x40 * n, 3, 1, 0, .rw⟩
def PORCH_P_CFG_profile (n : Nat) : Field := ⟨0x41640100 + 0x40 * n, 1, 1, 0, .rw⟩
def PORCH_P_CFG_en (n : Nat) : Field := ⟨0x41640100 + 0x40 * n, 0, 1, 0, .rw⟩
def PORCH_P_CTL_claim (n : Nat) : Field := ⟨0x41640104 + 0x40 * n, 0, 1, 0, .w1s⟩
def PORCH_P_STAT_backoff (n : Nat) : Field := ⟨0x41640108 + 0x40 * n, 20, 1, 0, .ro⟩
def PORCH_P_STAT_biterr (n : Nat) : Field := ⟨0x41640108 + 0x40 * n, 16, 4, 0, .ro⟩
def PORCH_P_STAT_addr (n : Nat) : Field := ⟨0x41640108 + 0x40 * n, 8, 8, 254, .ro⟩
def PORCH_P_STAT_state (n : Nat) : Field := ⟨0x41640108 + 0x40 * n, 0, 3, 0, .ro⟩
def PORCH_P_CMD_TO_ms (n : Nat) : Field := ⟨0x41640114 + 0x40 * n, 0, 16, 100, .rw⟩
def PORCH_SES_PGN_dest (s : Nat) : Field := ⟨0x41640400 + 0x10 * s, 24, 8, 0, .rw⟩
def PORCH_SES_PGN_prio (s : Nat) : Field := ⟨0x41640400 + 0x10 * s, 21, 3, 0, .rw⟩
def PORCH_SES_PGN_pgn (s : Nat) : Field := ⟨0x41640400 + 0x10 * s, 0, 18, 0, .rw⟩
def PORCH_SES_CTL_len (s : Nat) : Field := ⟨0x41640404 + 0x10 * s, 12, 20, 0, .rw⟩
def PORCH_SES_CTL_port (s : Nat) : Field := ⟨0x41640404 + 0x10 * s, 4, 2, 0, .rw⟩
def PORCH_SES_CTL_etp (s : Nat) : Field := ⟨0x41640404 + 0x10 * s, 3, 1, 0, .rw⟩
def PORCH_SES_CTL_ret (s : Nat) : Field := ⟨0x41640404 + 0x10 * s, 2, 1, 0, .rw⟩
def PORCH_SES_CTL_cancel_release (s : Nat) : Field := ⟨0x41640404 + 0x10 * s, 1, 1, 0, .w1s⟩
def PORCH_SES_CTL_start (s : Nat) : Field := ⟨0x41640404 + 0x10 * s, 0, 1, 0, .w1s⟩
def PORCH_SES_STAT_reason (s : Nat) : Field := ⟨0x41640408 + 0x10 * s, 8, 8, 0, .ro⟩
def PORCH_SES_STAT_state (s : Nat) : Field := ⟨0x41640408 + 0x10 * s, 0, 2, 0, .ro⟩
def PORCH_SES_PEER_peer (s : Nat) : Field := ⟨0x4164040C + 0x10 * s, 0, 8, 0, .ro⟩
def PORCH_CMD_REQ_sa (k : Nat) : Field := ⟨0x41640808 + 0x10 * k, 16, 8, 0, .ro⟩
def PORCH_CMD_REQ_new (k : Nat) : Field := ⟨0x41640808 + 0x10 * k, 8, 3, 0, .w1c⟩
def PORCH_CMD_REQ_code (k : Nat) : Field := ⟨0x41640808 + 0x10 * k, 0, 4, 0, .ro⟩
def PORCH_CMD_STAT_age (k : Nat) : Field := ⟨0x4164080C + 0x10 * k, 16, 16, 65535, .ro⟩
def PORCH_CMD_STAT_rejects (k : Nat) : Field := ⟨0x4164080C + 0x10 * k, 0, 8, 0, .ro⟩
def PORCH_P_NAME_LO_name (n : Nat) : Field := ⟨0x4164010C + 0x40 * n, 0, 32, 0, .rw⟩
def PORCH_P_NAME_HI_name (n : Nat) : Field := ⟨0x41640110 + 0x40 * n, 0, 32, 0, .rw⟩
def PORCH_CMD_TQ_value (k : Nat) : Field := ⟨0x41640800 + 0x10 * k, 0, 32, 0, .ro⟩
def PORCH_CMD_SPD_value (k : Nat) : Field := ⟨0x41640804 + 0x10 * k, 0, 32, 0, .ro⟩
def CAN_TXB_CMD_sa_ins (n : Nat) (b : Nat) : Field := ⟨0x41600650 + 0x1000 * n + 0x80 * b, 3, 1, 0, .rw⟩
def CAN_TXB_CMD_once (n : Nat) (b : Nat) : Field := ⟨0x41600650 + 0x1000 * n + 0x80 * b, 2, 1, 0, .rw⟩
def CAN_TXB_CMD_abort (n : Nat) (b : Nat) : Field := ⟨0x41600650 + 0x1000 * n + 0x80 * b, 1, 1, 0, .w1s⟩
def CAN_TXB_CMD_req (n : Nat) (b : Nat) : Field := ⟨0x41600650 + 0x1000 * n + 0x80 * b, 0, 1, 0, .w1s⟩
def CAN_TXB_STAT_status (n : Nat) (b : Nat) : Field := ⟨0x41600654 + 0x1000 * n + 0x80 * b, 0, 4, 0, .ro⟩
def CAN_TXB_TS_tstamp (n : Nat) (b : Nat) : Field := ⟨0x41600658 + 0x1000 * n + 0x80 * b, 0, 32, 0, .ro⟩

/-- The register families of chapter 15. -/
def famCan0 : List Family := [
  ⟨"CAN_CFG", 0x41600000, [(0x1000, 4)], fun i _ => [CAN_CFG_ack_lim i, CAN_CFG_hp_irq i, CAN_CFG_alone_abort i, CAN_CFG_bo_auto i, CAN_CFG_nomatch i, CAN_CFG_tx_order i, CAN_CFG_brs_en i, CAN_CFG_fd_en i]⟩,
  ⟨"CAN_CTL", 0x41600004, [(0x1000, 4)], fun i _ => [CAN_CTL_ureset i, CAN_CTL_bo_rec i, CAN_CTL_mode i]⟩,
  ⟨"CAN_NBT", 0x41600014, [(0x1000, 4)], fun i _ => [CAN_NBT_sjw i, CAN_NBT_tseg2 i, CAN_NBT_tseg1 i, CAN_NBT_brp i]⟩,
  ⟨"CAN_DBT", 0x41600018, [(0x1000, 4)], fun i _ => [CAN_DBT_sjw i, CAN_DBT_tseg2 i, CAN_DBT_tseg1 i, CAN_DBT_brp i]⟩,
  ⟨"CAN_TDC", 0x4160001C, [(0x1000, 4)], fun i _ => [CAN_TDC_measured i, CAN_TDC_en i, CAN_TDC_offset i]⟩,
  ⟨"CAN_STAT", 0x41600008, [(0x1000, 4)], fun i _ => [CAN_STAT_ack_run i, CAN_STAT_tec i, CAN_STAT_rec i, CAN_STAT_lec_data i, CAN_STAT_lec i, CAN_STAT_integrating i, CAN_STAT_alone i, CAN_STAT_conf i]⟩,
  ⟨"CAN_FLAGS", 0x4160000C, [(0x1000, 4)], fun i _ => [CAN_FLAGS_cfg_ign i, CAN_FLAGS_txw_ign i, CAN_FLAGS_tx_fail i, CAN_FLAGS_tx_done i, CAN_FLAGS_alone_ev i, CAN_FLAGS_busoff_ev i, CAN_FLAGS_passive_ev i, CAN_FLAGS_hp_ovr i, CAN_FLAGS_rx_ovr i, CAN_FLAGS_rx_ev i]⟩,
  ⟨"CAN_IRQ_EN", 0x41600010, [(0x1000, 4)], fun i _ => [CAN_IRQ_EN_en i]⟩,
  ⟨"CAN_FLT_ID", 0x41600100, [(0x1000, 4), (0x8, 32)], fun i j => [CAN_FLT_ID_action i j, CAN_FLT_ID_ide i j, CAN_FLT_ID_id i j]⟩,
  ⟨"CAN_FLT_MSK", 0x41600104, [(0x1000, 4), (0x8, 32)], fun i j => [CAN_FLT_MSK_mask i j]⟩,
  ⟨"CAN_RXF_STAT", 0x41600040, [(0x1000, 4)], fun i _ => [CAN_RXF_STAT_lost i, CAN_RXF_STAT_count i]⟩,
  ⟨"CAN_RXF_CTL", 0x41600044, [(0x1000, 4)], fun i _ => [CAN_RXF_CTL_pop i]⟩,
  ⟨"CAN_HP_STAT", 0x41600048, [(0x1000, 4)], fun i _ => [CAN_HP_STAT_ovr i, CAN_HP_STAT_new i]⟩,
  ⟨"CAN_HP_CTL", 0x4160004C, [(0x1000, 4)], fun i _ => [CAN_HP_CTL_take i]⟩,
  ⟨"PORCH_CFG", 0x41640000, [], fun _ _ => [PORCH_CFG_ge_base, PORCH_CFG_req_to, PORCH_CFG_safe_en, PORCH_CFG_safe_can, PORCH_CFG_skip, PORCH_CFG_bam_gap]⟩,
  ⟨"PORCH_STAT", 0x41640004, [], fun _ _ => [PORCH_STAT_bam_lost]⟩,
  ⟨"PORCH_FLAGS", 0x41640008, [], fun _ _ => [PORCH_FLAGS_pool_bad, PORCH_FLAGS_cmd_lost, PORCH_FLAGS_cmd, PORCH_FLAGS_req, PORCH_FLAGS_ses_end, PORCH_FLAGS_addr_ev]⟩,
  ⟨"PORCH_IRQ_EN", 0x4164000C, [], fun _ _ => [PORCH_IRQ_EN_en]⟩,
  ⟨"PORCH_POOL", 0x41640010, [], fun _ _ => [PORCH_POOL_en, PORCH_POOL_base]⟩,
  ⟨"PORCH_ETP_CFG", 0x41640014, [], fun _ _ => [PORCH_ETP_CFG_en, PORCH_ETP_CFG_nbuf, PORCH_ETP_CFG_base]⟩,
  ⟨"PORCH_REQ", 0x41640080, [], fun _ _ => [PORCH_REQ_sa, PORCH_REQ_valid, PORCH_REQ_port, PORCH_REQ_pgn]⟩,
  ⟨"PORCH_REQ_ANS", 0x41640084, [], fun _ _ => [PORCH_REQ_ANS_ans]⟩,
  ⟨"PORCH_P_CFG", 0x41640100, [(0x40, 4)], fun i _ => [PORCH_P_CFG_per i, PORCH_P_CFG_pref_addr i, PORCH_P_CFG_cmd_req i, PORCH_P_CFG_req_sw i, PORCH_P_CFG_cmd_addr i, PORCH_P_CFG_profile i, PORCH_P_CFG_en i]⟩,
  ⟨"PORCH_P_CTL", 0x41640104, [(0x40, 4)], fun i _ => [PORCH_P_CTL_claim i]⟩,
  ⟨"PORCH_P_STAT", 0x41640108, [(0x40, 4)], fun i _ => [PORCH_P_STAT_backoff i, PORCH_P_STAT_biterr i, PORCH_P_STAT_addr i, PORCH_P_STAT_state i]⟩,
  ⟨"PORCH_P_CMD_TO", 0x41640114, [(0x40, 4)], fun i _ => [PORCH_P_CMD_TO_ms i]⟩,
  ⟨"PORCH_SES_PGN", 0x41640400, [(0x10, 16)], fun i _ => [PORCH_SES_PGN_dest i, PORCH_SES_PGN_prio i, PORCH_SES_PGN_pgn i]⟩,
  ⟨"PORCH_SES_CTL", 0x41640404, [(0x10, 16)], fun i _ => [PORCH_SES_CTL_len i, PORCH_SES_CTL_port i, PORCH_SES_CTL_etp i, PORCH_SES_CTL_ret i, PORCH_SES_CTL_cancel_release i, PORCH_SES_CTL_start i]⟩,
  ⟨"PORCH_SES_STAT", 0x41640408, [(0x10, 16)], fun i _ => [PORCH_SES_STAT_reason i, PORCH_SES_STAT_state i]⟩,
  ⟨"PORCH_SES_PEER", 0x4164040C, [(0x10, 16)], fun i _ => [PORCH_SES_PEER_peer i]⟩]

def famCan1 : List Family := [
  ⟨"PORCH_CMD_REQ", 0x41640808, [(0x10, 4)], fun i _ => [PORCH_CMD_REQ_sa i, PORCH_CMD_REQ_new i, PORCH_CMD_REQ_code i]⟩,
  ⟨"PORCH_CMD_STAT", 0x4164080C, [(0x10, 4)], fun i _ => [PORCH_CMD_STAT_age i, PORCH_CMD_STAT_rejects i]⟩,
  ⟨"PORCH_P_NAME_LO", 0x4164010C, [(0x40, 4)], fun i _ => [PORCH_P_NAME_LO_name i]⟩,
  ⟨"PORCH_P_NAME_HI", 0x41640110, [(0x40, 4)], fun i _ => [PORCH_P_NAME_HI_name i]⟩,
  ⟨"PORCH_CMD_TQ", 0x41640800, [(0x10, 4)], fun i _ => [PORCH_CMD_TQ_value i]⟩,
  ⟨"PORCH_CMD_SPD", 0x41640804, [(0x10, 4)], fun i _ => [PORCH_CMD_SPD_value i]⟩,
  ⟨"CAN_TXB_CMD", 0x41600650, [(0x1000, 4), (0x80, 3)], fun i j => [CAN_TXB_CMD_sa_ins i j, CAN_TXB_CMD_once i j, CAN_TXB_CMD_abort i j, CAN_TXB_CMD_req i j]⟩,
  ⟨"CAN_TXB_STAT", 0x41600654, [(0x1000, 4), (0x80, 3)], fun i j => [CAN_TXB_STAT_status i j]⟩,
  ⟨"CAN_TXB_TS", 0x41600658, [(0x1000, 4), (0x80, 3)], fun i j => [CAN_TXB_TS_tstamp i j]⟩]

def famCan : List Family := famCan0 ++ famCan1

end Sys2Proof.Machine.Reg
end

