-- ==== Sys2Proof/Machine/RegsCfg.lean ====
section
/-! DEFINITION. The register fields of chapters 03 and 04, from the register tables of the spec: address, lowest bit, width,
reset value and access type of each named field, and the list of register families with their fields. -/

namespace Sys2Proof.Machine.Reg

def GPIO_IN_v : Field := ⟨0x41C20000, 0, 32, 0, .ro⟩
def GPIO_OUT_v : Field := ⟨0x41C20004, 0, 32, 0, .rw⟩
def GPIO_SET_v : Field := ⟨0x41C20008, 0, 32, 0, .w1s⟩
def GPIO_CLR_v : Field := ⟨0x41C2000C, 0, 32, 0, .w1c⟩
def GPIO_DIR_v : Field := ⟨0x41C20010, 0, 32, 0, .rw⟩
def GPIO_RISE_EN_v : Field := ⟨0x41C20014, 0, 32, 0, .rw⟩
def GPIO_FALL_EN_v : Field := ⟨0x41C20018, 0, 32, 0, .rw⟩
def GPIO_FLAGS_v : Field := ⟨0x41C2001C, 0, 32, 0, .w1c⟩
def GPIO_IRQ_EN_v : Field := ⟨0x41C20020, 0, 32, 0, .rw⟩
def PWR_STAT_xfmr_low : Field := ⟨0x41A00000, 7, 1, 0, .ro⟩
def PWR_STAT_vdda_warn : Field := ⟨0x41A00000, 6, 1, 0, .ro⟩
def PWR_STAT_vio_warn : Field := ⟨0x41A00000, 5, 1, 0, .ro⟩
def PWR_STAT_vcore_warn : Field := ⟨0x41A00000, 4, 1, 0, .ro⟩
def PWR_STAT_vdda_good : Field := ⟨0x41A00000, 3, 1, 1, .ro⟩
def PWR_STAT_vio_good : Field := ⟨0x41A00000, 2, 1, 1, .ro⟩
def PWR_STAT_vcore_good : Field := ⟨0x41A00000, 1, 1, 1, .ro⟩
def PWR_STAT_aon_good : Field := ⟨0x41A00000, 0, 1, 1, .ro⟩
def PWR_FLAGS_aon_xtal_ev : Field := ⟨0x41A00004, 4, 1, 0, .w1c⟩
def PWR_FLAGS_mon_ev : Field := ⟨0x41A00004, 3, 1, 0, .w1c⟩
def PWR_FLAGS_xfmr_ev : Field := ⟨0x41A00004, 2, 1, 0, .w1c⟩
def PWR_FLAGS_vdda_bor : Field := ⟨0x41A00004, 1, 1, 0, .w1c⟩
def PWR_FLAGS_warn_ev : Field := ⟨0x41A00004, 0, 1, 0, .w1c⟩
def CLK_STAT_aon_xtal : Field := ⟨0x41A00010, 16, 1, 0, .ro⟩
def CLK_STAT_core_b_gated : Field := ⟨0x41A00010, 15, 1, 0, .ro⟩
def CLK_STAT_core_a_gated : Field := ⟨0x41A00010, 14, 1, 0, .ro⟩
def CLK_STAT_rgn_b_gated : Field := ⟨0x41A00010, 13, 1, 0, .ro⟩
def CLK_STAT_rgn_a_gated : Field := ⟨0x41A00010, 12, 1, 0, .ro⟩
def CLK_STAT_mon_last : Field := ⟨0x41A00010, 8, 3, 0, .ro⟩
def CLK_STAT_ref_ext : Field := ⟨0x41A00010, 3, 1, 0, .ro⟩
def CLK_STAT_on_backup : Field := ⟨0x41A00010, 2, 1, 0, .ro⟩
def CLK_STAT_pll_lock : Field := ⟨0x41A00010, 1, 1, 1, .ro⟩
def CLK_STAT_ref_ok : Field := ⟨0x41A00010, 0, 1, 1, .ro⟩
def CLK_RGN_CTL_up_b : Field := ⟨0x41A00020, 17, 1, 0, .w1s⟩
def CLK_RGN_CTL_up_a : Field := ⟨0x41A00020, 16, 1, 0, .w1s⟩
def CLK_RGN_CTL_hold : Field := ⟨0x41A00020, 8, 8, 99, .rw⟩
def CLK_RGN_CTL_stop_en_b : Field := ⟨0x41A00020, 1, 1, 0, .rw⟩
def CLK_RGN_CTL_stop_en_a : Field := ⟨0x41A00020, 0, 1, 0, .rw⟩
def CLK_XOVF_cellar : Field := ⟨0x41A00030, 2, 1, 0, .w1c⟩
def CLK_XOVF_rgn_b : Field := ⟨0x41A00030, 1, 1, 0, .w1c⟩
def CLK_XOVF_rgn_a : Field := ⟨0x41A00030, 0, 1, 0, .w1c⟩
def CEL_STAT_refuse : Field := ⟨0x41A00800, 16, 6, 0, .ro⟩
def CEL_STAT_lc : Field := ⟨0x41A00800, 13, 3, 7, .ro⟩
def CEL_STAT_log_wrapped : Field := ⟨0x41A00800, 12, 1, 0, .ro⟩
def CEL_STAT_log_head : Field := ⟨0x41A00800, 8, 4, 0, .ro⟩
def CEL_STAT_rst_masked : Field := ⟨0x41A00800, 7, 1, 0, .ro⟩
def CEL_STAT_rails_on : Field := ⟨0x41A00800, 6, 1, 0, .ro⟩
def CEL_STAT_refused : Field := ⟨0x41A00800, 5, 1, 0, .ro⟩
def CEL_STAT_abort : Field := ⟨0x41A00800, 4, 1, 0, .ro⟩
def CEL_STAT_xfer : Field := ⟨0x41A00800, 3, 1, 0, .ro⟩
def CEL_STAT_state_prev : Field := ⟨0x41A00800, 0, 3, 0, .ro⟩
def CEL_PWR_CFG_rst_stuck_mask : Field := ⟨0x41A00804, 2, 1, 0, .rw⟩
def CEL_PWR_CFG_aon_src : Field := ⟨0x41A00804, 1, 1, 0, .rw⟩
def CEL_PWR_CFG_pwr_req_en : Field := ⟨0x41A00804, 0, 1, 0, .rw⟩
def CEL_WAKE_EN_en : Field := ⟨0x41A00808, 0, 16, 1, .rw⟩
def CEL_WAKE_PIN_deb : Field := ⟨0x41A0080C, 8, 8, 0, .rw⟩
def CEL_WAKE_PIN_pol : Field := ⟨0x41A0080C, 0, 5, 31, .rw⟩
def CEL_WAKE_CAUSE_cause : Field := ⟨0x41A00814, 0, 16, 0, .w1c⟩
def CEL_SLEEP_key : Field := ⟨0x41A00818, 16, 16, 0, .wo⟩
def CEL_SLEEP_target : Field := ⟨0x41A00818, 0, 2, 0, .wo⟩
def CEL_TMR_count : Field := ⟨0x41A0081C, 0, 32, 0, .ro⟩
def CEL_TMR_PER_per : Field := ⟨0x41A00820, 0, 32, 0, .rw⟩
def CEL_TMR_ALARM_alarm : Field := ⟨0x41A00824, 0, 32, 0, .rw⟩
def CEL_RSTLOW_count : Field := ⟨0x41A00828, 0, 24, 0, .ro⟩
def CFG_RST_CAUSE_sw_rgn_b : Field := ⟨0x41B00000, 19, 1, 0, .w1c⟩
def CFG_RST_CAUSE_sw_rgn_a : Field := ⟨0x41B00000, 18, 1, 0, .w1c⟩
def CFG_RST_CAUSE_halt_b : Field := ⟨0x41B00000, 17, 1, 0, .w1c⟩
def CFG_RST_CAUSE_halt_a : Field := ⟨0x41B00000, 16, 1, 0, .w1c⟩
def CFG_RST_CAUSE_dbg : Field := ⟨0x41B00000, 9, 1, 0, .ro⟩
def CFG_RST_CAUSE_clk : Field := ⟨0x41B00000, 8, 1, 0, .ro⟩
def CFG_RST_CAUSE_sleep_wake : Field := ⟨0x41B00000, 7, 1, 0, .ro⟩
def CFG_RST_CAUSE_sw_module : Field := ⟨0x41B00000, 6, 1, 0, .ro⟩
def CFG_RST_CAUSE_rst_pin : Field := ⟨0x41B00000, 5, 1, 0, .ro⟩
def CFG_RST_CAUSE_bor_io : Field := ⟨0x41B00000, 4, 1, 0, .ro⟩
def CFG_RST_CAUSE_bor_core : Field := ⟨0x41B00000, 3, 1, 0, .ro⟩
def CFG_RST_CAUSE_rail_por : Field := ⟨0x41B00000, 2, 1, 0, .ro⟩
def CFG_RST_CAUSE_aon_por : Field := ⟨0x41B00000, 1, 1, 0, .ro⟩
def CFG_RST_CTL_key : Field := ⟨0x41B00004, 16, 16, 0, .wo⟩
def CFG_RST_CTL_module : Field := ⟨0x41B00004, 2, 1, 0, .wo⟩
def CFG_RST_CTL_rgn_b : Field := ⟨0x41B00004, 1, 1, 0, .wo⟩
def CFG_RST_CTL_rgn_a : Field := ⟨0x41B00004, 0, 1, 0, .wo⟩
def CFG_BOOT_STAT_split_b : Field := ⟨0x41B00008, 25, 1, 0, .ro⟩
def CFG_BOOT_STAT_split_a : Field := ⟨0x41B00008, 24, 1, 0, .ro⟩
def CFG_BOOT_STAT_reject : Field := ⟨0x41B00008, 16, 8, 0, .ro⟩
def CFG_BOOT_STAT_step : Field := ⟨0x41B00008, 8, 4, 0, .ro⟩
def CFG_BOOT_STAT_torque_ready : Field := ⟨0x41B00008, 6, 1, 0, .ro⟩
def CFG_BOOT_STAT_rgn_b_up : Field := ⟨0x41B00008, 5, 1, 0, .ro⟩
def CFG_BOOT_STAT_rgn_a_up : Field := ⟨0x41B00008, 4, 1, 0, .ro⟩
def CFG_BOOT_STAT_recovery : Field := ⟨0x41B00008, 3, 1, 0, .ro⟩
def CFG_BOOT_STAT_fallback : Field := ⟨0x41B00008, 2, 1, 0, .ro⟩
def CFG_BOOT_STAT_trial : Field := ⟨0x41B00008, 1, 1, 0, .ro⟩
def CFG_BOOT_STAT_bank : Field := ⟨0x41B00008, 0, 1, 0, .ro⟩
def CFG_EVENT_arb_ev : Field := ⟨0x41B0000C, 4, 1, 0, .w1c⟩
def CFG_EVENT_st_done_ev : Field := ⟨0x41B0000C, 3, 1, 0, .w1c⟩
def CFG_EVENT_token_ev : Field := ⟨0x41B0000C, 2, 1, 0, .w1c⟩
def CFG_EVENT_rgn_up_ev : Field := ⟨0x41B0000C, 1, 1, 0, .w1c⟩
def CFG_EVENT_torque_ready_ev : Field := ⟨0x41B0000C, 0, 1, 0, .w1c⟩
def CFG_BANK_CTL_key : Field := ⟨0x41B00010, 16, 16, 0, .wo⟩
def CFG_BANK_CTL_wr_fail : Field := ⟨0x41B00010, 10, 1, 0, .ro⟩
def CFG_BANK_CTL_wr_busy : Field := ⟨0x41B00010, 9, 1, 0, .ro⟩
def CFG_BANK_CTL_confirm : Field := ⟨0x41B00010, 8, 1, 0, .w1s⟩
def CFG_BANK_CTL_tries : Field := ⟨0x41B00010, 4, 2, 0, .rw⟩
def CFG_BANK_CTL_trial : Field := ⟨0x41B00010, 1, 1, 0, .rw⟩
def CFG_BANK_CTL_pref : Field := ⟨0x41B00010, 0, 1, 0, .rw⟩
def CFG_ARB_commit : Field := ⟨0x41B00014, 16, 16, 0, .wo⟩
def CFG_ARB_busy : Field := ⟨0x41B00014, 15, 1, 0, .ro⟩
def CFG_ARB_image_sv : Field := ⟨0x41B00014, 8, 7, 0, .ro⟩
def CFG_ARB_fused : Field := ⟨0x41B00014, 0, 7, 0, .ro⟩
def CFG_LC_STAT_toggles : Field := ⟨0x41B00020, 16, 9, 0, .ro⟩
def CFG_LC_STAT_result : Field := ⟨0x41B00020, 12, 4, 0, .ro⟩
def CFG_LC_STAT_busy : Field := ⟨0x41B00020, 9, 1, 0, .ro⟩
def CFG_LC_STAT_debug_open : Field := ⟨0x41B00020, 8, 1, 0, .ro⟩
def CFG_LC_STAT_pending : Field := ⟨0x41B00020, 7, 1, 0, .ro⟩
def CFG_LC_STAT_next : Field := ⟨0x41B00020, 4, 3, 0, .ro⟩
def CFG_LC_STAT_state : Field := ⟨0x41B00020, 0, 3, 0, .ro⟩
def CFG_LC_NONCE0_value : Field := ⟨0x41B00024, 0, 32, 0, .ro⟩
def CFG_LC_NONCE1_value : Field := ⟨0x41B00028, 0, 32, 0, .ro⟩
def CFG_SERIAL0_value : Field := ⟨0x41B00030, 0, 32, 0, .ro⟩
def CFG_SERIAL1_value : Field := ⟨0x41B00034, 0, 32, 0, .ro⟩
def CFG_BUILD0_value : Field := ⟨0x41B00038, 0, 32, 0, .ro⟩
def CFG_BUILD1_value : Field := ⟨0x41B0003C, 0, 32, 0, .ro⟩
def CFG_LC_TOKEN_key : Field := ⟨0x41B0002C, 16, 16, 0, .wo⟩
def CFG_LC_TOKEN_buffer : Field := ⟨0x41B0002C, 0, 10, 0, .wo⟩
def CFG_ST_CTL_fuse_repair : Field := ⟨0x41B00040, 8, 1, 0, .w1s⟩
def CFG_ST_CTL_full_b : Field := ⟨0x41B00040, 1, 1, 0, .w1s⟩
def CFG_ST_CTL_full_a : Field := ⟨0x41B00040, 0, 1, 0, .w1s⟩
def CFG_ST_STAT_cmp_fail : Field := ⟨0x41B00044, 16, 16, 0, .ro⟩
def CFG_ST_STAT_spares : Field := ⟨0x41B00044, 8, 8, 0, .ro⟩
def CFG_ST_STAT_busy : Field := ⟨0x41B00044, 4, 1, 0, .ro⟩
def CFG_ST_STAT_res_b : Field := ⟨0x41B00044, 2, 2, 0, .ro⟩
def CFG_ST_STAT_res_a : Field := ⟨0x41B00044, 0, 2, 0, .ro⟩
def CEL_WAKE_RGN_rgn (s : Nat) : Field := ⟨0x41A00810, 2*s, 2, 3, .rw⟩

/-- The register families of chapters 03 and 04. -/
def famCfg0 : List Family := [
  ⟨"GPIO_IN", 0x41C20000, [], fun _ _ => [GPIO_IN_v]⟩,
  ⟨"GPIO_OUT", 0x41C20004, [], fun _ _ => [GPIO_OUT_v]⟩,
  ⟨"GPIO_SET", 0x41C20008, [], fun _ _ => [GPIO_SET_v]⟩,
  ⟨"GPIO_CLR", 0x41C2000C, [], fun _ _ => [GPIO_CLR_v]⟩,
  ⟨"GPIO_DIR", 0x41C20010, [], fun _ _ => [GPIO_DIR_v]⟩,
  ⟨"GPIO_RISE_EN", 0x41C20014, [], fun _ _ => [GPIO_RISE_EN_v]⟩,
  ⟨"GPIO_FALL_EN", 0x41C20018, [], fun _ _ => [GPIO_FALL_EN_v]⟩,
  ⟨"GPIO_FLAGS", 0x41C2001C, [], fun _ _ => [GPIO_FLAGS_v]⟩,
  ⟨"GPIO_IRQ_EN", 0x41C20020, [], fun _ _ => [GPIO_IRQ_EN_v]⟩,
  ⟨"PWR_STAT", 0x41A00000, [], fun _ _ => [PWR_STAT_xfmr_low, PWR_STAT_vdda_warn, PWR_STAT_vio_warn, PWR_STAT_vcore_warn, PWR_STAT_vdda_good, PWR_STAT_vio_good, PWR_STAT_vcore_good, PWR_STAT_aon_good]⟩,
  ⟨"PWR_FLAGS", 0x41A00004, [], fun _ _ => [PWR_FLAGS_aon_xtal_ev, PWR_FLAGS_mon_ev, PWR_FLAGS_xfmr_ev, PWR_FLAGS_vdda_bor, PWR_FLAGS_warn_ev]⟩,
  ⟨"CLK_STAT", 0x41A00010, [], fun _ _ => [CLK_STAT_aon_xtal, CLK_STAT_core_b_gated, CLK_STAT_core_a_gated, CLK_STAT_rgn_b_gated, CLK_STAT_rgn_a_gated, CLK_STAT_mon_last, CLK_STAT_ref_ext, CLK_STAT_on_backup, CLK_STAT_pll_lock, CLK_STAT_ref_ok]⟩,
  ⟨"CLK_RGN_CTL", 0x41A00020, [], fun _ _ => [CLK_RGN_CTL_up_b, CLK_RGN_CTL_up_a, CLK_RGN_CTL_hold, CLK_RGN_CTL_stop_en_b, CLK_RGN_CTL_stop_en_a]⟩,
  ⟨"CLK_XOVF", 0x41A00030, [], fun _ _ => [CLK_XOVF_cellar, CLK_XOVF_rgn_b, CLK_XOVF_rgn_a]⟩,
  ⟨"CEL_STAT", 0x41A00800, [], fun _ _ => [CEL_STAT_refuse, CEL_STAT_lc, CEL_STAT_log_wrapped, CEL_STAT_log_head, CEL_STAT_rst_masked, CEL_STAT_rails_on, CEL_STAT_refused, CEL_STAT_abort, CEL_STAT_xfer, CEL_STAT_state_prev]⟩,
  ⟨"CEL_PWR_CFG", 0x41A00804, [], fun _ _ => [CEL_PWR_CFG_rst_stuck_mask, CEL_PWR_CFG_aon_src, CEL_PWR_CFG_pwr_req_en]⟩,
  ⟨"CEL_WAKE_EN", 0x41A00808, [], fun _ _ => [CEL_WAKE_EN_en]⟩,
  ⟨"CEL_WAKE_PIN", 0x41A0080C, [], fun _ _ => [CEL_WAKE_PIN_deb, CEL_WAKE_PIN_pol]⟩,
  ⟨"CEL_WAKE_CAUSE", 0x41A00814, [], fun _ _ => [CEL_WAKE_CAUSE_cause]⟩,
  ⟨"CEL_SLEEP", 0x41A00818, [], fun _ _ => [CEL_SLEEP_key, CEL_SLEEP_target]⟩,
  ⟨"CEL_TMR", 0x41A0081C, [], fun _ _ => [CEL_TMR_count]⟩,
  ⟨"CEL_TMR_PER", 0x41A00820, [], fun _ _ => [CEL_TMR_PER_per]⟩,
  ⟨"CEL_TMR_ALARM", 0x41A00824, [], fun _ _ => [CEL_TMR_ALARM_alarm]⟩,
  ⟨"CEL_RSTLOW", 0x41A00828, [], fun _ _ => [CEL_RSTLOW_count]⟩,
  ⟨"CFG_RST_CAUSE", 0x41B00000, [], fun _ _ => [CFG_RST_CAUSE_sw_rgn_b, CFG_RST_CAUSE_sw_rgn_a, CFG_RST_CAUSE_halt_b, CFG_RST_CAUSE_halt_a, CFG_RST_CAUSE_dbg, CFG_RST_CAUSE_clk, CFG_RST_CAUSE_sleep_wake, CFG_RST_CAUSE_sw_module, CFG_RST_CAUSE_rst_pin, CFG_RST_CAUSE_bor_io, CFG_RST_CAUSE_bor_core, CFG_RST_CAUSE_rail_por, CFG_RST_CAUSE_aon_por]⟩,
  ⟨"CFG_RST_CTL", 0x41B00004, [], fun _ _ => [CFG_RST_CTL_key, CFG_RST_CTL_module, CFG_RST_CTL_rgn_b, CFG_RST_CTL_rgn_a]⟩,
  ⟨"CFG_BOOT_STAT", 0x41B00008, [], fun _ _ => [CFG_BOOT_STAT_split_b, CFG_BOOT_STAT_split_a, CFG_BOOT_STAT_reject, CFG_BOOT_STAT_step, CFG_BOOT_STAT_torque_ready, CFG_BOOT_STAT_rgn_b_up, CFG_BOOT_STAT_rgn_a_up, CFG_BOOT_STAT_recovery, CFG_BOOT_STAT_fallback, CFG_BOOT_STAT_trial, CFG_BOOT_STAT_bank]⟩,
  ⟨"CFG_EVENT", 0x41B0000C, [], fun _ _ => [CFG_EVENT_arb_ev, CFG_EVENT_st_done_ev, CFG_EVENT_token_ev, CFG_EVENT_rgn_up_ev, CFG_EVENT_torque_ready_ev]⟩,
  ⟨"CFG_BANK_CTL", 0x41B00010, [], fun _ _ => [CFG_BANK_CTL_key, CFG_BANK_CTL_wr_fail, CFG_BANK_CTL_wr_busy, CFG_BANK_CTL_confirm, CFG_BANK_CTL_tries, CFG_BANK_CTL_trial, CFG_BANK_CTL_pref]⟩,
  ⟨"CFG_ARB", 0x41B00014, [], fun _ _ => [CFG_ARB_commit, CFG_ARB_busy, CFG_ARB_image_sv, CFG_ARB_fused]⟩]

def famCfg1 : List Family := [
  ⟨"CFG_LC_STAT", 0x41B00020, [], fun _ _ => [CFG_LC_STAT_toggles, CFG_LC_STAT_result, CFG_LC_STAT_busy, CFG_LC_STAT_debug_open, CFG_LC_STAT_pending, CFG_LC_STAT_next, CFG_LC_STAT_state]⟩,
  ⟨"CFG_LC_NONCE0", 0x41B00024, [], fun _ _ => [CFG_LC_NONCE0_value]⟩,
  ⟨"CFG_LC_NONCE1", 0x41B00028, [], fun _ _ => [CFG_LC_NONCE1_value]⟩,
  ⟨"CFG_SERIAL0", 0x41B00030, [], fun _ _ => [CFG_SERIAL0_value]⟩,
  ⟨"CFG_SERIAL1", 0x41B00034, [], fun _ _ => [CFG_SERIAL1_value]⟩,
  ⟨"CFG_BUILD0", 0x41B00038, [], fun _ _ => [CFG_BUILD0_value]⟩,
  ⟨"CFG_BUILD1", 0x41B0003C, [], fun _ _ => [CFG_BUILD1_value]⟩,
  ⟨"CFG_LC_TOKEN", 0x41B0002C, [], fun _ _ => [CFG_LC_TOKEN_key, CFG_LC_TOKEN_buffer]⟩,
  ⟨"CFG_ST_CTL", 0x41B00040, [], fun _ _ => [CFG_ST_CTL_fuse_repair, CFG_ST_CTL_full_b, CFG_ST_CTL_full_a]⟩,
  ⟨"CFG_ST_STAT", 0x41B00044, [], fun _ _ => [CFG_ST_STAT_cmp_fail, CFG_ST_STAT_spares, CFG_ST_STAT_busy, CFG_ST_STAT_res_b, CFG_ST_STAT_res_a]⟩,
  ⟨"CEL_WAKE_RGN", 0x41A00810, [], fun _ _ => [CEL_WAKE_RGN_rgn 0, CEL_WAKE_RGN_rgn 1, CEL_WAKE_RGN_rgn 2, CEL_WAKE_RGN_rgn 3, CEL_WAKE_RGN_rgn 4, CEL_WAKE_RGN_rgn 5, CEL_WAKE_RGN_rgn 6, CEL_WAKE_RGN_rgn 7, CEL_WAKE_RGN_rgn 8, CEL_WAKE_RGN_rgn 9, CEL_WAKE_RGN_rgn 10, CEL_WAKE_RGN_rgn 11, CEL_WAKE_RGN_rgn 12, CEL_WAKE_RGN_rgn 13, CEL_WAKE_RGN_rgn 14, CEL_WAKE_RGN_rgn 15]⟩]

def famCfg : List Family := famCfg0 ++ famCfg1

end Sys2Proof.Machine.Reg
end

