-- ==== Sys2Proof/Machine/RegsChm.lean ====
section
/-! DEFINITION. The register fields of chapter 12, from the register tables of the spec: address, lowest bit, width,
reset value and access type of each named field, and the list of register families with their fields. -/

namespace Sys2Proof.Machine.Reg

def CHM_C_I2T_v (k : Nat) : Field := ⟨0x41500108 + 0x40 * k, 0, 32, 0, .ro⟩
def CHM_C_LIM_v (k : Nat) : Field := ⟨0x4150010C + 0x40 * k, 0, 32, 2139095039, .ro⟩
def CHM_C_TW_v (k : Nat) : Field := ⟨0x41500110 + 0x40 * k, 0, 32, 0, .ro⟩
def CHM_C_TW_C0_v (k : Nat) : Field := ⟨0x41500114 + 0x40 * k, 0, 32, 0, .rwl⟩
def CHM_C_TW_C1_v (k : Nat) : Field := ⟨0x41500118 + 0x40 * k, 0, 32, 0, .rwl⟩
def CHM_C_TW_C2_v (k : Nat) : Field := ⟨0x4150011C + 0x40 * k, 0, 32, 0, .rwl⟩
def CHM_CFG_age_h : Field := ⟨0x41500000, 24, 8, 24, .rwl⟩
def CHM_CFG_age_tol : Field := ⟨0x41500000, 20, 4, 5, .rwl⟩
def CHM_CFG_rf_min : Field := ⟨0x41500000, 16, 4, 2, .rwl⟩
def CHM_CFG_ledger_min : Field := ⟨0x41500000, 8, 8, 60, .rwl⟩
def CHM_CFG_fresh : Field := ⟨0x41500000, 4, 4, 5, .rwl⟩
def CHM_CFG_rain_en : Field := ⟨0x41500000, 3, 1, 1, .rwl⟩
def CHM_STAT_t_die_ok : Field := ⟨0x41500004, 17, 1, 0, .ro⟩
def CHM_STAT_led_busy : Field := ⟨0x41500004, 16, 1, 0, .ro⟩
def CHM_STAT_led_ok : Field := ⟨0x41500004, 8, 6, 0, .ro⟩
def CHM_STAT_rec_ok : Field := ⟨0x41500004, 0, 6, 0, .ro⟩
def CHM_FLAGS_life_warn : Field := ⟨0x41500008, 14, 1, 0, .w1c⟩
def CHM_FLAGS_age_limit : Field := ⟨0x41500008, 13, 1, 0, .w1c⟩
def CHM_FLAGS_age_swap : Field := ⟨0x41500008, 12, 1, 0, .w1c⟩
def CHM_FLAGS_write_fail : Field := ⟨0x41500008, 11, 1, 0, .w1c⟩
def CHM_FLAGS_write_held : Field := ⟨0x41500008, 10, 1, 0, .w1c⟩
def CHM_FLAGS_led_fail : Field := ⟨0x41500008, 9, 1, 0, .w1c⟩
def CHM_FLAGS_led_done : Field := ⟨0x41500008, 8, 1, 0, .w1c⟩
def CHM_FLAGS_rec_bad : Field := ⟨0x41500008, 7, 1, 0, .w1c⟩
def CHM_FLAGS_tj_reject : Field := ⟨0x41500008, 6, 1, 0, .w1c⟩
def CHM_FLAGS_die_sens : Field := ⟨0x41500008, 5, 1, 0, .w1c⟩
def CHM_FLAGS_wind_hot : Field := ⟨0x41500008, 4, 1, 0, .w1c⟩
def CHM_FLAGS_tj_over : Field := ⟨0x41500008, 3, 1, 0, .w1c⟩
def CHM_FLAGS_released : Field := ⟨0x41500008, 2, 1, 0, .w1c⟩
def CHM_FLAGS_enforce : Field := ⟨0x41500008, 1, 1, 0, .w1c⟩
def CHM_FLAGS_peak_req : Field := ⟨0x41500008, 0, 1, 0, .w1c⟩
def CHM_DIE_STAT_broken : Field := ⟨0x41500010, 8, 8, 0, .ro⟩
def CHM_DIE_STAT_valid : Field := ⟨0x41500010, 0, 8, 0, .ro⟩
def CHM_T_DIE_t_die : Field := ⟨0x41500014, 0, 32, 0, .ro⟩
def CHM_WQ_flash_held : Field := ⟨0x41500018, 24, 8, 0, .ro⟩
def CHM_WQ_id_held : Field := ⟨0x41500018, 16, 8, 0, .ro⟩
def CHM_WQ_failed : Field := ⟨0x41500018, 0, 16, 0, .ro⟩
def CHM_LEDGER_CTL_write : Field := ⟨0x4150001C, 0, 1, 0, .wo⟩
def CHM_DIE_T_temp (s : Nat) : Field := ⟨0x41500040 + 0x4 * s, 0, 32, 0, .ro⟩
def CHM_TJ_tj (n : Nat) : Field := ⟨0x41500080 + 0x4 * n, 0, 32, 0, .ro⟩
def CHM_C_CFG_tw_max (k : Nat) : Field := ⟨0x41500100 + 0x40 * k, 16, 8, 0, .rwl⟩
def CHM_C_CFG_grace (k : Nat) : Field := ⟨0x41500100 + 0x40 * k, 8, 8, 50, .rwl⟩
def CHM_C_CFG_age_en (k : Nat) : Field := ⟨0x41500100 + 0x40 * k, 0, 1, 0, .rwl⟩
def CHM_C_STAT_age_swaps (k : Nat) : Field := ⟨0x41500104 + 0x40 * k, 16, 16, 0, .ro⟩
def CHM_C_STAT_age_busy (k : Nat) : Field := ⟨0x41500104 + 0x40 * k, 10, 1, 0, .ro⟩
def CHM_C_STAT_age_learn (k : Nat) : Field := ⟨0x41500104 + 0x40 * k, 9, 1, 0, .ro⟩
def CHM_C_STAT_tw_valid (k : Nat) : Field := ⟨0x41500104 + 0x40 * k, 8, 1, 0, .ro⟩
def CHM_C_STAT_wind_lim (k : Nat) : Field := ⟨0x41500104 + 0x40 * k, 7, 1, 0, .ro⟩
def CHM_C_STAT_no_record (k : Nat) : Field := ⟨0x41500104 + 0x40 * k, 6, 1, 0, .ro⟩
def CHM_C_STAT_unknown (k : Nat) : Field := ⟨0x41500104 + 0x40 * k, 5, 1, 0, .ro⟩
def CHM_C_STAT_budget (k : Nat) : Field := ⟨0x41500104 + 0x40 * k, 4, 1, 0, .ro⟩
def CHM_C_STAT_hot (k : Nat) : Field := ⟨0x41500104 + 0x40 * k, 3, 1, 0, .ro⟩
def CHM_C_STAT_peak (k : Nat) : Field := ⟨0x41500104 + 0x40 * k, 0, 3, 0, .ro⟩
def CHM_M_STAT_held (m : Nat) : Field := ⟨0x41500200 + 0x10 * m, 5, 1, 0, .ro⟩
def CHM_M_STAT_ntc_ok (m : Nat) : Field := ⟨0x41500200 + 0x10 * m, 4, 1, 0, .ro⟩
def CHM_M_STAT_busy (m : Nat) : Field := ⟨0x41500200 + 0x10 * m, 3, 1, 0, .ro⟩
def CHM_M_STAT_slot (m : Nat) : Field := ⟨0x41500200 + 0x10 * m, 2, 1, 0, .ro⟩
def CHM_M_STAT_led_ok (m : Nat) : Field := ⟨0x41500200 + 0x10 * m, 1, 1, 0, .ro⟩
def CHM_M_STAT_rec_ok (m : Nat) : Field := ⟨0x41500200 + 0x10 * m, 0, 1, 0, .ro⟩
def CHM_M_NTC_t_ntc (m : Nat) : Field := ⟨0x41500204 + 0x10 * m, 0, 32, 0, .ro⟩
def CHM_M_LIFE_life (m : Nat) : Field := ⟨0x41500208 + 0x10 * m, 0, 32, 0, .ro⟩
def CHM_TJ_SRC_src (n : Nat) : Field := ⟨0x41500020, 2*n, 2, 0, .ro⟩
def CHM_IRQ_EN_life_warn : Field := ⟨0x4150000C, 14, 1, 0, .rw⟩
def CHM_IRQ_EN_age_limit : Field := ⟨0x4150000C, 13, 1, 0, .rw⟩
def CHM_IRQ_EN_age_swap : Field := ⟨0x4150000C, 12, 1, 0, .rw⟩
def CHM_IRQ_EN_write_fail : Field := ⟨0x4150000C, 11, 1, 0, .rw⟩
def CHM_IRQ_EN_write_held : Field := ⟨0x4150000C, 10, 1, 0, .rw⟩
def CHM_IRQ_EN_led_fail : Field := ⟨0x4150000C, 9, 1, 0, .rw⟩
def CHM_IRQ_EN_led_done : Field := ⟨0x4150000C, 8, 1, 0, .rw⟩
def CHM_IRQ_EN_rec_bad : Field := ⟨0x4150000C, 7, 1, 0, .rw⟩
def CHM_IRQ_EN_tj_reject : Field := ⟨0x4150000C, 6, 1, 0, .rw⟩
def CHM_IRQ_EN_die_sens : Field := ⟨0x4150000C, 5, 1, 0, .rw⟩
def CHM_IRQ_EN_wind_hot : Field := ⟨0x4150000C, 4, 1, 0, .rw⟩
def CHM_IRQ_EN_tj_over : Field := ⟨0x4150000C, 3, 1, 0, .rw⟩
def CHM_IRQ_EN_released : Field := ⟨0x4150000C, 2, 1, 0, .rw⟩
def CHM_IRQ_EN_enforce : Field := ⟨0x4150000C, 1, 1, 0, .rw⟩
def CHM_IRQ_EN_peak_req : Field := ⟨0x4150000C, 0, 1, 0, .rw⟩

/-- The register families of chapter 12. -/
def famChm0 : List Family := [
  ⟨"CHM_C_I2T", 0x41500108, [(0x40, 4)], fun i _ => [CHM_C_I2T_v i]⟩,
  ⟨"CHM_C_LIM", 0x4150010C, [(0x40, 4)], fun i _ => [CHM_C_LIM_v i]⟩,
  ⟨"CHM_C_TW", 0x41500110, [(0x40, 4)], fun i _ => [CHM_C_TW_v i]⟩,
  ⟨"CHM_C_TW_C0", 0x41500114, [(0x40, 4)], fun i _ => [CHM_C_TW_C0_v i]⟩,
  ⟨"CHM_C_TW_C1", 0x41500118, [(0x40, 4)], fun i _ => [CHM_C_TW_C1_v i]⟩,
  ⟨"CHM_C_TW_C2", 0x4150011C, [(0x40, 4)], fun i _ => [CHM_C_TW_C2_v i]⟩,
  ⟨"CHM_CFG", 0x41500000, [], fun _ _ => [CHM_CFG_age_h, CHM_CFG_age_tol, CHM_CFG_rf_min, CHM_CFG_ledger_min, CHM_CFG_fresh, CHM_CFG_rain_en]⟩,
  ⟨"CHM_STAT", 0x41500004, [], fun _ _ => [CHM_STAT_t_die_ok, CHM_STAT_led_busy, CHM_STAT_led_ok, CHM_STAT_rec_ok]⟩,
  ⟨"CHM_FLAGS", 0x41500008, [], fun _ _ => [CHM_FLAGS_life_warn, CHM_FLAGS_age_limit, CHM_FLAGS_age_swap, CHM_FLAGS_write_fail, CHM_FLAGS_write_held, CHM_FLAGS_led_fail, CHM_FLAGS_led_done, CHM_FLAGS_rec_bad, CHM_FLAGS_tj_reject, CHM_FLAGS_die_sens, CHM_FLAGS_wind_hot, CHM_FLAGS_tj_over, CHM_FLAGS_released, CHM_FLAGS_enforce, CHM_FLAGS_peak_req]⟩,
  ⟨"CHM_DIE_STAT", 0x41500010, [], fun _ _ => [CHM_DIE_STAT_broken, CHM_DIE_STAT_valid]⟩,
  ⟨"CHM_T_DIE", 0x41500014, [], fun _ _ => [CHM_T_DIE_t_die]⟩,
  ⟨"CHM_WQ", 0x41500018, [], fun _ _ => [CHM_WQ_flash_held, CHM_WQ_id_held, CHM_WQ_failed]⟩,
  ⟨"CHM_LEDGER_CTL", 0x4150001C, [], fun _ _ => [CHM_LEDGER_CTL_write]⟩,
  ⟨"CHM_DIE_T", 0x41500040, [(0x4, 8)], fun i _ => [CHM_DIE_T_temp i]⟩,
  ⟨"CHM_TJ", 0x41500080, [(0x4, 12)], fun i _ => [CHM_TJ_tj i]⟩,
  ⟨"CHM_C_CFG", 0x41500100, [(0x40, 4)], fun i _ => [CHM_C_CFG_tw_max i, CHM_C_CFG_grace i, CHM_C_CFG_age_en i]⟩,
  ⟨"CHM_C_STAT", 0x41500104, [(0x40, 4)], fun i _ => [CHM_C_STAT_age_swaps i, CHM_C_STAT_age_busy i, CHM_C_STAT_age_learn i, CHM_C_STAT_tw_valid i, CHM_C_STAT_wind_lim i, CHM_C_STAT_no_record i, CHM_C_STAT_unknown i, CHM_C_STAT_budget i, CHM_C_STAT_hot i, CHM_C_STAT_peak i]⟩,
  ⟨"CHM_M_STAT", 0x41500200, [(0x10, 6)], fun i _ => [CHM_M_STAT_held i, CHM_M_STAT_ntc_ok i, CHM_M_STAT_busy i, CHM_M_STAT_slot i, CHM_M_STAT_led_ok i, CHM_M_STAT_rec_ok i]⟩,
  ⟨"CHM_M_NTC", 0x41500204, [(0x10, 6)], fun i _ => [CHM_M_NTC_t_ntc i]⟩,
  ⟨"CHM_M_LIFE", 0x41500208, [(0x10, 6)], fun i _ => [CHM_M_LIFE_life i]⟩,
  ⟨"CHM_TJ_SRC", 0x41500020, [], fun _ _ => [CHM_TJ_SRC_src 0, CHM_TJ_SRC_src 1, CHM_TJ_SRC_src 2, CHM_TJ_SRC_src 3, CHM_TJ_SRC_src 4, CHM_TJ_SRC_src 5, CHM_TJ_SRC_src 6, CHM_TJ_SRC_src 7, CHM_TJ_SRC_src 8, CHM_TJ_SRC_src 9, CHM_TJ_SRC_src 10, CHM_TJ_SRC_src 11]⟩,
  ⟨"CHM_IRQ_EN", 0x4150000C, [], fun _ _ => [CHM_IRQ_EN_life_warn, CHM_IRQ_EN_age_limit, CHM_IRQ_EN_age_swap, CHM_IRQ_EN_write_fail, CHM_IRQ_EN_write_held, CHM_IRQ_EN_led_fail, CHM_IRQ_EN_led_done, CHM_IRQ_EN_rec_bad, CHM_IRQ_EN_tj_reject, CHM_IRQ_EN_die_sens, CHM_IRQ_EN_wind_hot, CHM_IRQ_EN_tj_over, CHM_IRQ_EN_released, CHM_IRQ_EN_enforce, CHM_IRQ_EN_peak_req]⟩]

def famChm : List Family := famChm0

end Sys2Proof.Machine.Reg
end

