-- ==== Sys2Proof/Machine/RegsCluster.lean ====
section
/-! DEFINITION. The register fields of chapters 05 and 08, from the register tables of the spec: address, lowest bit, width,
reset value and access type of each named field, and the list of register families with their fields. -/

namespace Sys2Proof.Machine.Reg

def SEQ_TQ_CMD_v (k : Nat) : Field := ⟨0x40000020 + 0x10000 * k, 0, 32, 0, .rw⟩
def SEQ_SPD_CMD_v (k : Nat) : Field := ⟨0x40000024 + 0x10000 * k, 0, 32, 0, .rw⟩
def SEQ_TQ_RATE_v (k : Nat) : Field := ⟨0x40000028 + 0x10000 * k, 0, 32, 1148846080, .rw⟩
def SEQ_DEC_RATE_v (k : Nat) : Field := ⟨0x4000002C + 0x10000 * k, 0, 32, 1148846080, .rw⟩
def SEQ_CATCH_IMIN_v (k : Nat) : Field := ⟨0x40000038 + 0x10000 * k, 0, 32, 1092616192, .rwl⟩
def SEQ_CATCH_W_v (k : Nat) : Field := ⟨0x4000003C + 0x10000 * k, 0, 32, 0, .ro⟩
def OBS_SPEED_v (k : Nat) : Field := ⟨0x40001010 + 0x10000 * k, 0, 32, 0, .ro⟩
def OBS_FLUX_v (k : Nat) : Field := ⟨0x40001014 + 0x10000 * k, 0, 32, 0, .ro⟩
def OBS_KE_v (k : Nat) : Field := ⟨0x40001018 + 0x10000 * k, 0, 32, 0, .ro⟩
def OBS_KE_DEV_v (k : Nat) : Field := ⟨0x4000101C + 0x10000 * k, 0, 32, 0, .ro⟩
def OBS_PLL_BW_v (k : Nat) : Field := ⟨0x40001020 + 0x10000 * k, 0, 32, 1133903872, .rwl⟩
def OBS_HFI_AMP_v (k : Nat) : Field := ⟨0x40001024 + 0x10000 * k, 0, 32, 0, .rwl⟩
def OBS_IF_CUR_v (k : Nat) : Field := ⟨0x40001028 + 0x10000 * k, 0, 32, 0, .rwl⟩
def FC_ID_v (k : Nat) : Field := ⟨0x40004008 + 0x10000 * k, 0, 32, 0, .ro⟩
def FC_IQ_v (k : Nat) : Field := ⟨0x4000400C + 0x10000 * k, 0, 32, 0, .ro⟩
def FC_ID_REF_v (k : Nat) : Field := ⟨0x40004010 + 0x10000 * k, 0, 32, 0, .ro⟩
def FC_IQ_REF_v (k : Nat) : Field := ⟨0x40004014 + 0x10000 * k, 0, 32, 0, .ro⟩
def FC_VD_v (k : Nat) : Field := ⟨0x40004018 + 0x10000 * k, 0, 32, 0, .ro⟩
def FC_VQ_v (k : Nat) : Field := ⟨0x4000401C + 0x10000 * k, 0, 32, 0, .ro⟩
def FC_FW_GAIN_v (k : Nat) : Field := ⟨0x40004024 + 0x10000 * k, 0, 32, 0, .rwl⟩
def FC_FW_LEVEL_v (k : Nat) : Field := ⟨0x40004028 + 0x10000 * k, 0, 32, 1064514355, .rwl⟩
def FC_FW_MIN_v (k : Nat) : Field := ⟨0x4000402C + 0x10000 * k, 0, 32, 0, .rwl⟩
def FC_FW_DID_v (k : Nat) : Field := ⟨0x40004030 + 0x10000 * k, 0, 32, 0, .ro⟩
def FC_TQ_REF_v (k : Nat) : Field := ⟨0x40004034 + 0x10000 * k, 0, 32, 0, .ro⟩
def FC_TQ_LIM_v (k : Nat) : Field := ⟨0x40004038 + 0x10000 * k, 0, 32, 0, .ro⟩
def FC_WDIS_v (k : Nat) : Field := ⟨0x4000403C + 0x10000 * k, 0, 32, 0, .rwl⟩
def CLE_FE_LIM_v (k : Nat) : Field := ⟨0x40002010 + 0x10000 * k, 0, 32, 0, .rw⟩
def CLE_CRC_v (k : Nat) : Field := ⟨0x40002014 + 0x10000 * k, 0, 32, 0, .ro⟩
def CLE_SNAP_S1_v (k : Nat) : Field := ⟨0x40002018 + 0x10000 * k, 0, 32, 0, .ro⟩
def CLE_SNAP_S2_v (k : Nat) : Field := ⟨0x4000201C + 0x10000 * k, 0, 32, 0, .ro⟩
def CLE_LIST_LIM_HI_v (k : Nat) (n : Nat) : Field := ⟨0x40002044 + 0x10000 * k + 0x10 * n, 0, 32, 2139095039, .rw⟩
def CLE_LIST_LIM_LO_v (k : Nat) (n : Nat) : Field := ⟨0x40002048 + 0x10000 * k + 0x10 * n, 0, 32, 4286578687, .rw⟩
def CLE_LIST_OUT_v (k : Nat) (n : Nat) : Field := ⟨0x4000204C + 0x10000 * k + 0x10 * n, 0, 32, 0, .ro⟩
def SEQ_CTL_req (k : Nat) : Field := ⟨0x40000000 + 0x10000 * k, 0, 4, 0, .wo⟩
def SEQ_STAT_retries (k : Nat) : Field := ⟨0x40000004 + 0x10000 * k, 16, 4, 0, .ro⟩
def SEQ_STAT_ang_now (k : Nat) : Field := ⟨0x40000004 + 0x10000 * k, 12, 2, 3, .ro⟩
def SEQ_STAT_bcm (k : Nat) : Field := ⟨0x40000004 + 0x10000 * k, 11, 1, 0, .ro⟩
def SEQ_STAT_lent (k : Nat) : Field := ⟨0x40000004 + 0x10000 * k, 10, 1, 0, .ro⟩
def SEQ_STAT_dup (k : Nat) : Field := ⟨0x40000004 + 0x10000 * k, 9, 1, 0, .ro⟩
def SEQ_STAT_wdis (k : Nat) : Field := ⟨0x40000004 + 0x10000 * k, 8, 1, 0, .ro⟩
def SEQ_STAT_overspeed (k : Nat) : Field := ⟨0x40000004 + 0x10000 * k, 7, 1, 0, .ro⟩
def SEQ_STAT_held_req (k : Nat) : Field := ⟨0x40000004 + 0x10000 * k, 6, 1, 0, .ro⟩
def SEQ_STAT_held (k : Nat) : Field := ⟨0x40000004 + 0x10000 * k, 4, 2, 0, .ro⟩
def SEQ_STAT_state (k : Nat) : Field := ⟨0x40000004 + 0x10000 * k, 0, 3, 0, .ro⟩
def SEQ_CFG_ang_src (k : Nat) : Field := ⟨0x40000008 + 0x10000 * k, 16, 2, 2, .rwl⟩
def SEQ_CFG_guard (k : Nat) : Field := ⟨0x40000008 + 0x10000 * k, 8, 8, 64, .rwl⟩
def SEQ_CFG_trig_p (k : Nat) : Field := ⟨0x40000008 + 0x10000 * k, 6, 2, 1, .rwl⟩
def SEQ_CFG_trig_v (k : Nat) : Field := ⟨0x40000008 + 0x10000 * k, 4, 2, 0, .rwl⟩
def SEQ_CFG_isrc (k : Nat) : Field := ⟨0x40000008 + 0x10000 * k, 2, 1, 0, .rwl⟩
def SEQ_CFG_cmd_src (k : Nat) : Field := ⟨0x40000008 + 0x10000 * k, 1, 1, 0, .rwl⟩
def SEQ_CFG_mode (k : Nat) : Field := ⟨0x40000008 + 0x10000 * k, 0, 1, 0, .rwl⟩
def SEQ_FLAGS_fault (k : Nat) : Field := ⟨0x4000000C + 0x10000 * k, 15, 1, 0, .w1c⟩
def SEQ_FLAGS_refused (k : Nat) : Field := ⟨0x4000000C + 0x10000 * k, 14, 1, 0, .w1c⟩
def SEQ_FLAGS_wdis_ev (k : Nat) : Field := ⟨0x4000000C + 0x10000 * k, 13, 1, 0, .w1c⟩
def SEQ_FLAGS_hall_ev (k : Nat) : Field := ⟨0x4000000C + 0x10000 * k, 12, 1, 0, .w1c⟩
def SEQ_FLAGS_dup_ev (k : Nat) : Field := ⟨0x4000000C + 0x10000 * k, 11, 1, 0, .w1c⟩
def SEQ_FLAGS_ldr_err (k : Nat) : Field := ⟨0x4000000C + 0x10000 * k, 10, 1, 0, .w1c⟩
def SEQ_FLAGS_ldr_swap (k : Nat) : Field := ⟨0x4000000C + 0x10000 * k, 9, 1, 0, .w1c⟩
def SEQ_FLAGS_ke_ev (k : Nat) : Field := ⟨0x4000000C + 0x10000 * k, 8, 1, 0, .w1c⟩
def SEQ_FLAGS_obs_lost (k : Nat) : Field := ⟨0x4000000C + 0x10000 * k, 7, 1, 0, .w1c⟩
def SEQ_FLAGS_obs_lock_ev (k : Nat) : Field := ⟨0x4000000C + 0x10000 * k, 6, 1, 0, .w1c⟩
def SEQ_FLAGS_tq_clamp (k : Nat) : Field := ⟨0x4000000C + 0x10000 * k, 5, 1, 0, .w1c⟩
def SEQ_FLAGS_i_lim (k : Nat) : Field := ⟨0x4000000C + 0x10000 * k, 4, 1, 0, .w1c⟩
def SEQ_FLAGS_mod_lim (k : Nat) : Field := ⟨0x4000000C + 0x10000 * k, 3, 1, 0, .w1c⟩
def SEQ_FLAGS_overrun (k : Nat) : Field := ⟨0x4000000C + 0x10000 * k, 2, 1, 0, .w1c⟩
def SEQ_FLAGS_catch_ev (k : Nat) : Field := ⟨0x4000000C + 0x10000 * k, 1, 1, 0, .w1c⟩
def SEQ_FLAGS_state_ev (k : Nat) : Field := ⟨0x4000000C + 0x10000 * k, 0, 1, 0, .w1c⟩
def SEQ_FAULT_code (k : Nat) : Field := ⟨0x40000014 + 0x10000 * k, 16, 16, 0, .ro⟩
def SEQ_FAULT_class (k : Nat) : Field := ⟨0x40000014 + 0x10000 * k, 13, 3, 0, .ro⟩
def SEQ_CATCH_CFG_probe_t (k : Nat) : Field := ⟨0x40000034 + 0x10000 * k, 0, 10, 400, .rwl⟩
def SEQ_CATCH_STAT_vll_ratio (k : Nat) : Field := ⟨0x40000040 + 0x10000 * k, 16, 16, 0, .ro⟩
def SEQ_CATCH_STAT_probes (k : Nat) : Field := ⟨0x40000040 + 0x10000 * k, 8, 8, 0, .ro⟩
def SEQ_CATCH_STAT_method (k : Nat) : Field := ⟨0x40000040 + 0x10000 * k, 3, 2, 0, .ro⟩
def SEQ_CATCH_STAT_result (k : Nat) : Field := ⟨0x40000040 + 0x10000 * k, 0, 3, 0, .ro⟩
def SEQ_TIME_worst (k : Nat) : Field := ⟨0x40000044 + 0x10000 * k, 16, 16, 0, .rw⟩
def SEQ_TIME_last (k : Nat) : Field := ⟨0x40000044 + 0x10000 * k, 0, 16, 0, .ro⟩
def SEQ_LDR_ACT_act (k : Nat) : Field := ⟨0x40000080 + 0x10000 * k, 0, 3, 0, .ro⟩
def SEQ_LDR_SWAP_swap (k : Nat) : Field := ⟨0x40000084 + 0x10000 * k, 0, 3, 0, .w1s⟩
def SEQ_LDR_STAT_swaps (k : Nat) : Field := ⟨0x40000088 + 0x10000 * k, 16, 16, 0, .ro⟩
def SEQ_LDR_STAT_defer (k : Nat) : Field := ⟨0x40000088 + 0x10000 * k, 12, 3, 0, .ro⟩
def SEQ_LDR_STAT_cancel (k : Nat) : Field := ⟨0x40000088 + 0x10000 * k, 8, 3, 0, .ro⟩
def SEQ_LDR_STAT_crc_fail (k : Nat) : Field := ⟨0x40000088 + 0x10000 * k, 4, 3, 0, .ro⟩
def SEQ_LDR_STAT_checking (k : Nat) : Field := ⟨0x40000088 + 0x10000 * k, 0, 3, 0, .ro⟩
def OBS_CFG_ke_chk_en (k : Nat) : Field := ⟨0x40001000 + 0x10000 * k, 2, 1, 1, .rwl⟩
def OBS_CFG_if_en (k : Nat) : Field := ⟨0x40001000 + 0x10000 * k, 1, 1, 0, .rwl⟩
def OBS_CFG_hfi_en (k : Nat) : Field := ⟨0x40001000 + 0x10000 * k, 0, 1, 1, .rwl⟩
def OBS_STAT_ke_timer (k : Nat) : Field := ⟨0x40001004 + 0x10000 * k, 16, 16, 0, .ro⟩
def OBS_STAT_lock_cnt (k : Nat) : Field := ⟨0x40001004 + 0x10000 * k, 8, 8, 0, .ro⟩
def OBS_STAT_dir (k : Nat) : Field := ⟨0x40001004 + 0x10000 * k, 5, 1, 0, .ro⟩
def OBS_STAT_ke_dev (k : Nat) : Field := ⟨0x40001004 + 0x10000 * k, 4, 1, 0, .ro⟩
def OBS_STAT_ke_valid (k : Nat) : Field := ⟨0x40001004 + 0x10000 * k, 3, 1, 0, .ro⟩
def OBS_STAT_region (k : Nat) : Field := ⟨0x40001004 + 0x10000 * k, 1, 2, 3, .ro⟩
def OBS_STAT_obs_lock (k : Nat) : Field := ⟨0x40001004 + 0x10000 * k, 0, 1, 0, .ro⟩
def OBS_ANGLE_angle (k : Nat) : Field := ⟨0x40001008 + 0x10000 * k, 0, 16, 0, .ro⟩
def OBS_ERR_pos_diff (k : Nat) : Field := ⟨0x4000100C + 0x10000 * k, 16, 16, 0, .ro⟩
def OBS_ERR_pll_err (k : Nat) : Field := ⟨0x4000100C + 0x10000 * k, 0, 16, 0, .ro⟩
def FC_CFG_quiet (k : Nat) : Field := ⟨0x40004000 + 0x10000 * k, 8, 12, 240, .rwl⟩
def FC_CFG_fw_en (k : Nat) : Field := ⟨0x40004000 + 0x10000 * k, 1, 1, 1, .rwl⟩
def FC_CFG_vlim_mode (k : Nat) : Field := ⟨0x40004000 + 0x10000 * k, 0, 1, 0, .rwl⟩
def FC_STAT_mode (k : Nat) : Field := ⟨0x40004004 + 0x10000 * k, 5, 2, 3, .ro⟩
def FC_STAT_i_limited (k : Nat) : Field := ⟨0x40004004 + 0x10000 * k, 4, 1, 0, .ro⟩
def FC_STAT_fw_active (k : Nat) : Field := ⟨0x40004004 + 0x10000 * k, 3, 1, 0, .ro⟩
def FC_STAT_tq_clamp (k : Nat) : Field := ⟨0x40004004 + 0x10000 * k, 2, 1, 0, .ro⟩
def FC_STAT_mod_limited (k : Nat) : Field := ⟨0x40004004 + 0x10000 * k, 0, 1, 0, .ro⟩
def FC_MOD_m_cap (k : Nat) : Field := ⟨0x40004020 + 0x10000 * k, 16, 16, 0, .ro⟩
def FC_MOD_m_req (k : Nat) : Field := ⟨0x40004020 + 0x10000 * k, 0, 16, 0, .ro⟩
def FC_BCM_CTL_stall (k : Nat) : Field := ⟨0x40004040 + 0x10000 * k, 20, 12, 500, .rw⟩
def FC_BCM_CTL_en (k : Nat) : Field := ⟨0x40004040 + 0x10000 * k, 17, 1, 0, .rw⟩
def FC_BCM_CTL_rev (k : Nat) : Field := ⟨0x40004040 + 0x10000 * k, 16, 1, 0, .rw⟩
def FC_BCM_CTL_duty (k : Nat) : Field := ⟨0x40004040 + 0x10000 * k, 0, 16, 0, .rw⟩
def CLE_CTL_clr (k : Nat) : Field := ⟨0x40002000 + 0x10000 * k, 31, 1, 0, .w1s⟩
def CLE_CTL_ureset (k : Nat) : Field := ⟨0x40002000 + 0x10000 * k, 30, 1, 0, .w1s⟩
def CLE_CTL_fe_ms (k : Nat) : Field := ⟨0x40002000 + 0x10000 * k, 16, 8, 0, .rw⟩
def CLE_CTL_fe_list (k : Nat) : Field := ⟨0x40002000 + 0x10000 * k, 12, 3, 0, .rw⟩
def CLE_CTL_snap_sec (k : Nat) : Field := ⟨0x40002000 + 0x10000 * k, 0, 6, 0, .rw⟩
def CLE_STAT_fe_timer (k : Nat) : Field := ⟨0x40002004 + 0x10000 * k, 24, 8, 0, .ro⟩
def CLE_STAT_valid (k : Nat) : Field := ⟨0x40002004 + 0x10000 * k, 16, 6, 0, .ro⟩
def CLE_STAT_due (k : Nat) : Field := ⟨0x40002004 + 0x10000 * k, 8, 6, 0, .ro⟩
def CLE_STAT_crc_cur (k : Nat) : Field := ⟨0x40002004 + 0x10000 * k, 7, 1, 0, .ro⟩
def CLE_STAT_frozen (k : Nat) : Field := ⟨0x40002004 + 0x10000 * k, 6, 1, 0, .ro⟩
def CLE_STAT_secs (k : Nat) : Field := ⟨0x40002004 + 0x10000 * k, 0, 6, 0, .ro⟩
def CLE_FLAGS_lim (k : Nat) : Field := ⟨0x40002008 + 0x10000 * k, 8, 6, 0, .w1c⟩
def CLE_FLAGS_lim_crossed (k : Nat) : Field := ⟨0x40002008 + 0x10000 * k, 7, 1, 0, .w1c⟩
def CLE_FLAGS_coef_ref (k : Nat) : Field := ⟨0x40002008 + 0x10000 * k, 6, 1, 0, .w1c⟩
def CLE_FLAGS_loop_missing (k : Nat) : Field := ⟨0x40002008 + 0x10000 * k, 5, 1, 0, .w1c⟩
def CLE_FLAGS_fe (k : Nat) : Field := ⟨0x40002008 + 0x10000 * k, 4, 1, 0, .w1c⟩
def CLE_FLAGS_ecc_unc (k : Nat) : Field := ⟨0x40002008 + 0x10000 * k, 3, 1, 0, .w1c⟩
def CLE_FLAGS_ecc_cor (k : Nat) : Field := ⟨0x40002008 + 0x10000 * k, 2, 1, 0, .w1c⟩
def CLE_FLAGS_nonfinite (k : Nat) : Field := ⟨0x40002008 + 0x10000 * k, 1, 1, 0, .w1c⟩
def CLE_FLAGS_list_bad (k : Nat) : Field := ⟨0x40002008 + 0x10000 * k, 0, 1, 0, .w1c⟩
def CLE_LIST_src (k : Nat) (n : Nat) : Field := ⟨0x40002040 + 0x10000 * k + 0x10 * n, 28, 4, 0, .rwl⟩
def CLE_LIST_dst (k : Nat) (n : Nat) : Field := ⟨0x40002040 + 0x10000 * k + 0x10 * n, 24, 3, 0, .rwl⟩
def CLE_LIST_div (k : Nat) (n : Nat) : Field := ⟨0x40002040 + 0x10000 * k + 0x10 * n, 19, 5, 0, .rwl⟩
def CLE_LIST_phase (k : Nat) (n : Nat) : Field := ⟨0x40002040 + 0x10000 * k + 0x10 * n, 14, 5, 0, .rwl⟩
def CLE_LIST_first (k : Nat) (n : Nat) : Field := ⟨0x40002040 + 0x10000 * k + 0x10 * n, 6, 6, 0, .rwl⟩
def CLE_LIST_count (k : Nat) (n : Nat) : Field := ⟨0x40002040 + 0x10000 * k + 0x10 * n, 0, 6, 0, .rwl⟩
def CLE_SEC_CFG_type (k : Nat) (m : Nat) : Field := ⟨0x40002114 + 0x10000 * k + 0x20 * m, 0, 2, 0, .rwl⟩
def FC_BCM_TBL0_state (k : Nat) (s : Nat) : Field := ⟨0x40004044 + 0x10000 * k, 8*s, 6, 0, .rwl⟩
def FC_BCM_TBL1_state (k : Nat) (s : Nat) : Field := ⟨0x40004048 + 0x10000 * k, 8*s, 6, 0, .rwl⟩
def CLE_SEC_B0_v (k : Nat) (m : Nat) : Field := ⟨0x40002100 + 0x10000 * k + 0x20 * m, 0, 32, 0x3F800000, .rw⟩
def CLE_SEC_B1_v (k : Nat) (m : Nat) : Field := ⟨0x40002104 + 0x10000 * k + 0x20 * m, 0, 32, 0, .rw⟩
def CLE_SEC_B2_v (k : Nat) (m : Nat) : Field := ⟨0x40002108 + 0x10000 * k + 0x20 * m, 0, 32, 0, .rw⟩
def CLE_SEC_A1_v (k : Nat) (m : Nat) : Field := ⟨0x4000210C + 0x10000 * k + 0x20 * m, 0, 32, 0, .rw⟩
def CLE_SEC_A2_v (k : Nat) (m : Nat) : Field := ⟨0x40002110 + 0x10000 * k + 0x20 * m, 0, 32, 0, .rw⟩
def SEQ_DEC_TO_ms (k : Nat) : Field := ⟨0x40000030 + 0x10000 * k, 0, 16, 0x1388, .rw⟩
def SEQ_IRQ_EN_fault (k : Nat) : Field := ⟨0x40000010 + 0x10000 * k, 15, 1, 0, .rw⟩
def SEQ_IRQ_EN_refused (k : Nat) : Field := ⟨0x40000010 + 0x10000 * k, 14, 1, 0, .rw⟩
def SEQ_IRQ_EN_wdis_ev (k : Nat) : Field := ⟨0x40000010 + 0x10000 * k, 13, 1, 0, .rw⟩
def SEQ_IRQ_EN_hall_ev (k : Nat) : Field := ⟨0x40000010 + 0x10000 * k, 12, 1, 0, .rw⟩
def SEQ_IRQ_EN_dup_ev (k : Nat) : Field := ⟨0x40000010 + 0x10000 * k, 11, 1, 0, .rw⟩
def SEQ_IRQ_EN_ldr_err (k : Nat) : Field := ⟨0x40000010 + 0x10000 * k, 10, 1, 0, .rw⟩
def SEQ_IRQ_EN_ldr_swap (k : Nat) : Field := ⟨0x40000010 + 0x10000 * k, 9, 1, 0, .rw⟩
def SEQ_IRQ_EN_ke_ev (k : Nat) : Field := ⟨0x40000010 + 0x10000 * k, 8, 1, 0, .rw⟩
def SEQ_IRQ_EN_obs_lost (k : Nat) : Field := ⟨0x40000010 + 0x10000 * k, 7, 1, 0, .rw⟩
def SEQ_IRQ_EN_obs_lock_ev (k : Nat) : Field := ⟨0x40000010 + 0x10000 * k, 6, 1, 0, .rw⟩
def SEQ_IRQ_EN_tq_clamp (k : Nat) : Field := ⟨0x40000010 + 0x10000 * k, 5, 1, 0, .rw⟩
def SEQ_IRQ_EN_i_lim (k : Nat) : Field := ⟨0x40000010 + 0x10000 * k, 4, 1, 0, .rw⟩
def SEQ_IRQ_EN_mod_lim (k : Nat) : Field := ⟨0x40000010 + 0x10000 * k, 3, 1, 0, .rw⟩
def SEQ_IRQ_EN_overrun (k : Nat) : Field := ⟨0x40000010 + 0x10000 * k, 2, 1, 0, .rw⟩
def SEQ_IRQ_EN_catch_ev (k : Nat) : Field := ⟨0x40000010 + 0x10000 * k, 1, 1, 0, .rw⟩
def SEQ_IRQ_EN_state_ev (k : Nat) : Field := ⟨0x40000010 + 0x10000 * k, 0, 1, 0, .rw⟩
def CLE_IRQ_EN_lim (k : Nat) : Field := ⟨0x4000200C + 0x10000 * k, 8, 6, 0, .rw⟩
def CLE_IRQ_EN_lim_crossed (k : Nat) : Field := ⟨0x4000200C + 0x10000 * k, 7, 1, 0, .rw⟩
def CLE_IRQ_EN_coef_ref (k : Nat) : Field := ⟨0x4000200C + 0x10000 * k, 6, 1, 0, .rw⟩
def CLE_IRQ_EN_loop_missing (k : Nat) : Field := ⟨0x4000200C + 0x10000 * k, 5, 1, 0, .rw⟩
def CLE_IRQ_EN_fe (k : Nat) : Field := ⟨0x4000200C + 0x10000 * k, 4, 1, 0, .rw⟩
def CLE_IRQ_EN_ecc_unc (k : Nat) : Field := ⟨0x4000200C + 0x10000 * k, 3, 1, 0, .rw⟩
def CLE_IRQ_EN_ecc_cor (k : Nat) : Field := ⟨0x4000200C + 0x10000 * k, 2, 1, 0, .rw⟩
def CLE_IRQ_EN_nonfinite (k : Nat) : Field := ⟨0x4000200C + 0x10000 * k, 1, 1, 0, .rw⟩
def CLE_IRQ_EN_list_bad (k : Nat) : Field := ⟨0x4000200C + 0x10000 * k, 0, 1, 0, .rw⟩

/-- The register families of chapters 05 and 08. -/
def famCluster0 : List Family := [
  ⟨"SEQ_TQ_CMD", 0x40000020, [(0x10000, 4)], fun i _ => [SEQ_TQ_CMD_v i]⟩,
  ⟨"SEQ_SPD_CMD", 0x40000024, [(0x10000, 4)], fun i _ => [SEQ_SPD_CMD_v i]⟩,
  ⟨"SEQ_TQ_RATE", 0x40000028, [(0x10000, 4)], fun i _ => [SEQ_TQ_RATE_v i]⟩,
  ⟨"SEQ_DEC_RATE", 0x4000002C, [(0x10000, 4)], fun i _ => [SEQ_DEC_RATE_v i]⟩,
  ⟨"SEQ_CATCH_IMIN", 0x40000038, [(0x10000, 4)], fun i _ => [SEQ_CATCH_IMIN_v i]⟩,
  ⟨"SEQ_CATCH_W", 0x4000003C, [(0x10000, 4)], fun i _ => [SEQ_CATCH_W_v i]⟩,
  ⟨"OBS_SPEED", 0x40001010, [(0x10000, 4)], fun i _ => [OBS_SPEED_v i]⟩,
  ⟨"OBS_FLUX", 0x40001014, [(0x10000, 4)], fun i _ => [OBS_FLUX_v i]⟩,
  ⟨"OBS_KE", 0x40001018, [(0x10000, 4)], fun i _ => [OBS_KE_v i]⟩,
  ⟨"OBS_KE_DEV", 0x4000101C, [(0x10000, 4)], fun i _ => [OBS_KE_DEV_v i]⟩,
  ⟨"OBS_PLL_BW", 0x40001020, [(0x10000, 4)], fun i _ => [OBS_PLL_BW_v i]⟩,
  ⟨"OBS_HFI_AMP", 0x40001024, [(0x10000, 4)], fun i _ => [OBS_HFI_AMP_v i]⟩,
  ⟨"OBS_IF_CUR", 0x40001028, [(0x10000, 4)], fun i _ => [OBS_IF_CUR_v i]⟩,
  ⟨"FC_ID", 0x40004008, [(0x10000, 4)], fun i _ => [FC_ID_v i]⟩,
  ⟨"FC_IQ", 0x4000400C, [(0x10000, 4)], fun i _ => [FC_IQ_v i]⟩,
  ⟨"FC_ID_REF", 0x40004010, [(0x10000, 4)], fun i _ => [FC_ID_REF_v i]⟩,
  ⟨"FC_IQ_REF", 0x40004014, [(0x10000, 4)], fun i _ => [FC_IQ_REF_v i]⟩,
  ⟨"FC_VD", 0x40004018, [(0x10000, 4)], fun i _ => [FC_VD_v i]⟩,
  ⟨"FC_VQ", 0x4000401C, [(0x10000, 4)], fun i _ => [FC_VQ_v i]⟩,
  ⟨"FC_FW_GAIN", 0x40004024, [(0x10000, 4)], fun i _ => [FC_FW_GAIN_v i]⟩,
  ⟨"FC_FW_LEVEL", 0x40004028, [(0x10000, 4)], fun i _ => [FC_FW_LEVEL_v i]⟩,
  ⟨"FC_FW_MIN", 0x4000402C, [(0x10000, 4)], fun i _ => [FC_FW_MIN_v i]⟩,
  ⟨"FC_FW_DID", 0x40004030, [(0x10000, 4)], fun i _ => [FC_FW_DID_v i]⟩,
  ⟨"FC_TQ_REF", 0x40004034, [(0x10000, 4)], fun i _ => [FC_TQ_REF_v i]⟩,
  ⟨"FC_TQ_LIM", 0x40004038, [(0x10000, 4)], fun i _ => [FC_TQ_LIM_v i]⟩,
  ⟨"FC_WDIS", 0x4000403C, [(0x10000, 4)], fun i _ => [FC_WDIS_v i]⟩,
  ⟨"CLE_FE_LIM", 0x40002010, [(0x10000, 4)], fun i _ => [CLE_FE_LIM_v i]⟩,
  ⟨"CLE_CRC", 0x40002014, [(0x10000, 4)], fun i _ => [CLE_CRC_v i]⟩,
  ⟨"CLE_SNAP_S1", 0x40002018, [(0x10000, 4)], fun i _ => [CLE_SNAP_S1_v i]⟩,
  ⟨"CLE_SNAP_S2", 0x4000201C, [(0x10000, 4)], fun i _ => [CLE_SNAP_S2_v i]⟩]

def famCluster1 : List Family := [
  ⟨"CLE_LIST_LIM_HI", 0x40002044, [(0x10000, 4), (0x10, 6)], fun i j => [CLE_LIST_LIM_HI_v i j]⟩,
  ⟨"CLE_LIST_LIM_LO", 0x40002048, [(0x10000, 4), (0x10, 6)], fun i j => [CLE_LIST_LIM_LO_v i j]⟩,
  ⟨"CLE_LIST_OUT", 0x4000204C, [(0x10000, 4), (0x10, 6)], fun i j => [CLE_LIST_OUT_v i j]⟩,
  ⟨"SEQ_CTL", 0x40000000, [(0x10000, 4)], fun i _ => [SEQ_CTL_req i]⟩,
  ⟨"SEQ_STAT", 0x40000004, [(0x10000, 4)], fun i _ => [SEQ_STAT_retries i, SEQ_STAT_ang_now i, SEQ_STAT_bcm i, SEQ_STAT_lent i, SEQ_STAT_dup i, SEQ_STAT_wdis i, SEQ_STAT_overspeed i, SEQ_STAT_held_req i, SEQ_STAT_held i, SEQ_STAT_state i]⟩,
  ⟨"SEQ_CFG", 0x40000008, [(0x10000, 4)], fun i _ => [SEQ_CFG_ang_src i, SEQ_CFG_guard i, SEQ_CFG_trig_p i, SEQ_CFG_trig_v i, SEQ_CFG_isrc i, SEQ_CFG_cmd_src i, SEQ_CFG_mode i]⟩,
  ⟨"SEQ_FLAGS", 0x4000000C, [(0x10000, 4)], fun i _ => [SEQ_FLAGS_fault i, SEQ_FLAGS_refused i, SEQ_FLAGS_wdis_ev i, SEQ_FLAGS_hall_ev i, SEQ_FLAGS_dup_ev i, SEQ_FLAGS_ldr_err i, SEQ_FLAGS_ldr_swap i, SEQ_FLAGS_ke_ev i, SEQ_FLAGS_obs_lost i, SEQ_FLAGS_obs_lock_ev i, SEQ_FLAGS_tq_clamp i, SEQ_FLAGS_i_lim i, SEQ_FLAGS_mod_lim i, SEQ_FLAGS_overrun i, SEQ_FLAGS_catch_ev i, SEQ_FLAGS_state_ev i]⟩,
  ⟨"SEQ_FAULT", 0x40000014, [(0x10000, 4)], fun i _ => [SEQ_FAULT_code i, SEQ_FAULT_class i]⟩,
  ⟨"SEQ_CATCH_CFG", 0x40000034, [(0x10000, 4)], fun i _ => [SEQ_CATCH_CFG_probe_t i]⟩,
  ⟨"SEQ_CATCH_STAT", 0x40000040, [(0x10000, 4)], fun i _ => [SEQ_CATCH_STAT_vll_ratio i, SEQ_CATCH_STAT_probes i, SEQ_CATCH_STAT_method i, SEQ_CATCH_STAT_result i]⟩,
  ⟨"SEQ_TIME", 0x40000044, [(0x10000, 4)], fun i _ => [SEQ_TIME_worst i, SEQ_TIME_last i]⟩,
  ⟨"SEQ_LDR_ACT", 0x40000080, [(0x10000, 4)], fun i _ => [SEQ_LDR_ACT_act i]⟩,
  ⟨"SEQ_LDR_SWAP", 0x40000084, [(0x10000, 4)], fun i _ => [SEQ_LDR_SWAP_swap i]⟩,
  ⟨"SEQ_LDR_STAT", 0x40000088, [(0x10000, 4)], fun i _ => [SEQ_LDR_STAT_swaps i, SEQ_LDR_STAT_defer i, SEQ_LDR_STAT_cancel i, SEQ_LDR_STAT_crc_fail i, SEQ_LDR_STAT_checking i]⟩,
  ⟨"OBS_CFG", 0x40001000, [(0x10000, 4)], fun i _ => [OBS_CFG_ke_chk_en i, OBS_CFG_if_en i, OBS_CFG_hfi_en i]⟩,
  ⟨"OBS_STAT", 0x40001004, [(0x10000, 4)], fun i _ => [OBS_STAT_ke_timer i, OBS_STAT_lock_cnt i, OBS_STAT_dir i, OBS_STAT_ke_dev i, OBS_STAT_ke_valid i, OBS_STAT_region i, OBS_STAT_obs_lock i]⟩,
  ⟨"OBS_ANGLE", 0x40001008, [(0x10000, 4)], fun i _ => [OBS_ANGLE_angle i]⟩,
  ⟨"OBS_ERR", 0x4000100C, [(0x10000, 4)], fun i _ => [OBS_ERR_pos_diff i, OBS_ERR_pll_err i]⟩,
  ⟨"FC_CFG", 0x40004000, [(0x10000, 4)], fun i _ => [FC_CFG_quiet i, FC_CFG_fw_en i, FC_CFG_vlim_mode i]⟩,
  ⟨"FC_STAT", 0x40004004, [(0x10000, 4)], fun i _ => [FC_STAT_mode i, FC_STAT_i_limited i, FC_STAT_fw_active i, FC_STAT_tq_clamp i, FC_STAT_mod_limited i]⟩,
  ⟨"FC_MOD", 0x40004020, [(0x10000, 4)], fun i _ => [FC_MOD_m_cap i, FC_MOD_m_req i]⟩,
  ⟨"FC_BCM_CTL", 0x40004040, [(0x10000, 4)], fun i _ => [FC_BCM_CTL_stall i, FC_BCM_CTL_en i, FC_BCM_CTL_rev i, FC_BCM_CTL_duty i]⟩,
  ⟨"CLE_CTL", 0x40002000, [(0x10000, 4)], fun i _ => [CLE_CTL_clr i, CLE_CTL_ureset i, CLE_CTL_fe_ms i, CLE_CTL_fe_list i, CLE_CTL_snap_sec i]⟩,
  ⟨"CLE_STAT", 0x40002004, [(0x10000, 4)], fun i _ => [CLE_STAT_fe_timer i, CLE_STAT_valid i, CLE_STAT_due i, CLE_STAT_crc_cur i, CLE_STAT_frozen i, CLE_STAT_secs i]⟩,
  ⟨"CLE_FLAGS", 0x40002008, [(0x10000, 4)], fun i _ => [CLE_FLAGS_lim i, CLE_FLAGS_lim_crossed i, CLE_FLAGS_coef_ref i, CLE_FLAGS_loop_missing i, CLE_FLAGS_fe i, CLE_FLAGS_ecc_unc i, CLE_FLAGS_ecc_cor i, CLE_FLAGS_nonfinite i, CLE_FLAGS_list_bad i]⟩,
  ⟨"CLE_LIST", 0x40002040, [(0x10000, 4), (0x10, 6)], fun i j => [CLE_LIST_src i j, CLE_LIST_dst i j, CLE_LIST_div i j, CLE_LIST_phase i j, CLE_LIST_first i j, CLE_LIST_count i j]⟩,
  ⟨"CLE_SEC_CFG", 0x40002114, [(0x10000, 4), (0x20, 48)], fun i j => [CLE_SEC_CFG_type i j]⟩,
  ⟨"FC_BCM_TBL0", 0x40004044, [(0x10000, 4)], fun i _ => [FC_BCM_TBL0_state i 0, FC_BCM_TBL0_state i 1, FC_BCM_TBL0_state i 2, FC_BCM_TBL0_state i 3]⟩,
  ⟨"FC_BCM_TBL1", 0x40004048, [(0x10000, 4)], fun i _ => [FC_BCM_TBL1_state i 0, FC_BCM_TBL1_state i 1, FC_BCM_TBL1_state i 2, FC_BCM_TBL1_state i 3]⟩,
  ⟨"CLE_SEC_B0", 0x40002100, [(0x10000, 4), (0x20, 48)], fun i j => [CLE_SEC_B0_v i j]⟩]

def famCluster2 : List Family := [
  ⟨"CLE_SEC_B1", 0x40002104, [(0x10000, 4), (0x20, 48)], fun i j => [CLE_SEC_B1_v i j]⟩,
  ⟨"CLE_SEC_B2", 0x40002108, [(0x10000, 4), (0x20, 48)], fun i j => [CLE_SEC_B2_v i j]⟩,
  ⟨"CLE_SEC_A1", 0x4000210C, [(0x10000, 4), (0x20, 48)], fun i j => [CLE_SEC_A1_v i j]⟩,
  ⟨"CLE_SEC_A2", 0x40002110, [(0x10000, 4), (0x20, 48)], fun i j => [CLE_SEC_A2_v i j]⟩,
  ⟨"SEQ_DEC_TO", 0x40000030, [(0x10000, 4)], fun i _ => [SEQ_DEC_TO_ms i]⟩,
  ⟨"SEQ_IRQ_EN", 0x40000010, [(0x10000, 4)], fun i _ => [SEQ_IRQ_EN_fault i, SEQ_IRQ_EN_refused i, SEQ_IRQ_EN_wdis_ev i, SEQ_IRQ_EN_hall_ev i, SEQ_IRQ_EN_dup_ev i, SEQ_IRQ_EN_ldr_err i, SEQ_IRQ_EN_ldr_swap i, SEQ_IRQ_EN_ke_ev i, SEQ_IRQ_EN_obs_lost i, SEQ_IRQ_EN_obs_lock_ev i, SEQ_IRQ_EN_tq_clamp i, SEQ_IRQ_EN_i_lim i, SEQ_IRQ_EN_mod_lim i, SEQ_IRQ_EN_overrun i, SEQ_IRQ_EN_catch_ev i, SEQ_IRQ_EN_state_ev i]⟩,
  ⟨"CLE_IRQ_EN", 0x4000200C, [(0x10000, 4)], fun i _ => [CLE_IRQ_EN_lim i, CLE_IRQ_EN_lim_crossed i, CLE_IRQ_EN_coef_ref i, CLE_IRQ_EN_loop_missing i, CLE_IRQ_EN_fe i, CLE_IRQ_EN_ecc_unc i, CLE_IRQ_EN_ecc_cor i, CLE_IRQ_EN_nonfinite i, CLE_IRQ_EN_list_bad i]⟩]

def famCluster : List Family := famCluster0 ++ famCluster1 ++ famCluster2

end Sys2Proof.Machine.Reg
end

