-- ==== Sys2Proof/Machine/RegsCore.lean ====
section
/-! DEFINITION. The register fields of chapter 13, from the register tables of the spec: address, lowest bit, width,
reset value and access type of each named field, and the list of register families with their fields. -/

namespace Sys2Proof.Machine.Reg

def IRQ_C_SUM_held (c : Nat) : Field := ⟨0x41900100 + 0x40 * c, 16, 3, 0, .ro⟩
def IRQ_C_SUM_idle (c : Nat) : Field := ⟨0x41900100 + 0x40 * c, 9, 1, 0, .ro⟩
def IRQ_C_SUM_line (c : Nat) : Field := ⟨0x41900100 + 0x40 * c, 8, 1, 0, .ro⟩
def IRQ_C_SUM_priv (c : Nat) : Field := ⟨0x41900100 + 0x40 * c, 4, 1, 0, .ro⟩
def IRQ_C_SUM_word (c : Nat) : Field := ⟨0x41900100 + 0x40 * c, 0, 4, 0, .ro⟩
def IRQ_C_PRIV_en (c : Nat) : Field := ⟨0x41900104 + 0x40 * c, 16, 16, 0, .rw⟩
def IRQ_C_PRIV_pend (c : Nat) : Field := ⟨0x41900104 + 0x40 * c, 0, 16, 0, .w1c⟩
def WDT_C_key (c : Nat) : Field := ⟨0x41900138 + 0x40 * c, 16, 16, 0, .wo⟩
def WDT_C_tmo (c : Nat) : Field := ⟨0x41900138 + 0x40 * c, 8, 8, 0, .rw⟩
def WDT_C_run (c : Nat) : Field := ⟨0x41900138 + 0x40 * c, 1, 1, 0, .ro⟩
def WDT_C_en (c : Nat) : Field := ⟨0x41900138 + 0x40 * c, 0, 1, 0, .rw⟩
def TIM_NOW_LO_lo : Field := ⟨0x41900200, 0, 32, 0, .ro⟩
def TIM_NOW_HI_hi : Field := ⟨0x41900204, 0, 32, 0, .ro⟩
def SEM_REQ_op : Field := ⟨0x41900300, 8, 2, 0, .wo⟩
def SEM_REQ_sem : Field := ⟨0x41900300, 0, 5, 0, .wo⟩
def SEM_GOT_held : Field := ⟨0x41900304, 0, 32, 0, .ro⟩
def MEM_FLAGS_sem_bad : Field := ⟨0x41900400, 3, 1, 0, .w1c⟩
def MEM_FLAGS_disc : Field := ⟨0x41900400, 2, 1, 0, .w1c⟩
def MEM_FLAGS_unc : Field := ⟨0x41900400, 1, 1, 0, .w1c⟩
def MEM_FLAGS_cor : Field := ⟨0x41900400, 0, 1, 0, .w1c⟩
def MEM_IRQ_EN_en : Field := ⟨0x41900404, 0, 4, 0, .rw⟩
def MEM_ECC_ADDR_addr : Field := ⟨0x41900408, 0, 32, 0, .ro⟩
def MEM_ECC_INFO_req : Field := ⟨0x4190040C, 8, 8, 0, .ro⟩
def MEM_ECC_INFO_fetch : Field := ⟨0x4190040C, 4, 1, 0, .ro⟩
def MEM_ECC_INFO_unc : Field := ⟨0x4190040C, 3, 1, 0, .ro⟩
def MEM_ECC_INFO_mem : Field := ⟨0x4190040C, 0, 3, 0, .ro⟩
def MEM_DISC_ADDR_addr : Field := ⟨0x41900418, 0, 32, 0, .ro⟩
def MEM_DISC_INFO_req : Field := ⟨0x4190041C, 8, 8, 0, .ro⟩
def MEM_DISC_INFO_write : Field := ⟨0x4190041C, 3, 1, 0, .ro⟩
def MEM_DISC_INFO_cause : Field := ⟨0x4190041C, 0, 2, 0, .ro⟩
def MEM_ECC_INJ_arm : Field := ⟨0x41900420, 8, 1, 0, .w1s⟩
def MEM_ECC_INJ_bits : Field := ⟨0x41900420, 4, 2, 1, .rw⟩
def MEM_ECC_INJ_mem : Field := ⟨0x41900420, 0, 3, 0, .rw⟩
def CORE_STAT_locked : Field := ⟨0x41900424, 16, 2, 0, .ro⟩
def CORE_STAT_wfi : Field := ⟨0x41900424, 8, 4, 0, .ro⟩
def CORE_STAT_run : Field := ⟨0x41900424, 0, 4, 0, .ro⟩
def IRQ_ROUTE_en (w : Nat) (b : Nat) : Field := ⟨0x41900000 + 0x4 * w, 8*b+7, 1, if w = 0 ∧ 1 ≤ b ∧ b ≤ 2 then 1 else 0, .rw⟩
def IRQ_ROUTE_sticky (w : Nat) (b : Nat) : Field := ⟨0x41900000 + 0x4 * w, 8*b+6, 1, 0, .rw⟩
def IRQ_ROUTE_group (w : Nat) (b : Nat) : Field := ⟨0x41900000 + 0x4 * w, 8*b+4, 2, 0, .rw⟩
def IRQ_ROUTE_target (w : Nat) (b : Nat) : Field := ⟨0x41900000 + 0x4 * w, 8*b, 2, if w = 0 ∧ b = 2 then 2 else 0, .rw⟩
def IRQ_SPURIOUS_cnt (c : Nat) : Field := ⟨0x41900090, 8*c, 8, 0, .rw⟩
def IRQ_SWI_swi (c : Nat) : Field := ⟨0x41900094, c, 1, 0, .w1s⟩
def IRQ_PEND_pend (w : Nat) : Field := ⟨0x41900080 + 0x4 * w, 0, 32, 0, .w1c⟩
def IRQ_C_PEND_pend (c : Nat) (w : Nat) : Field := ⟨0x41900110 + 0x40 * c + 0x4 * w, 0, 32, 0, .ro⟩
def IRQ_C_MOD_time (c : Nat) (g : Nat) : Field := ⟨0x41900120 + 0x40 * c + 0x4 * g, 16, 10, 0, .rw⟩
def IRQ_C_MOD_count (c : Nat) (g : Nat) : Field := ⟨0x41900120 + 0x40 * c + 0x4 * g, 0, 8, 1, .rw⟩
def TIM_C_CMP0_cmp (c : Nat) : Field := ⟨0x41900130 + 0x40 * c, 0, 32, 0, .rw⟩
def TIM_C_CMP1_cmp (c : Nat) : Field := ⟨0x41900134 + 0x40 * c, 0, 32, 0, .rw⟩
def SEM_OWN_owner (j : Nat) (i : Nat) : Field := ⟨0x41900310 + 0x4 * j, 8*i, 8, 0, .ro⟩
def MEM_ECC_CNT0_cnt (i : Nat) : Field := ⟨0x41900410, 8*i, 8, 0, .ro⟩
def MEM_ECC_CNT1_cnt (i : Nat) : Field := ⟨0x41900414, 8*i, 8, 0, .ro⟩

/-- The register families of chapter 13. -/
def famCore0 : List Family := [
  ⟨"IRQ_C_SUM", 0x41900100, [(0x40, 4)], fun i _ => [IRQ_C_SUM_held i, IRQ_C_SUM_idle i, IRQ_C_SUM_line i, IRQ_C_SUM_priv i, IRQ_C_SUM_word i]⟩,
  ⟨"IRQ_C_PRIV", 0x41900104, [(0x40, 4)], fun i _ => [IRQ_C_PRIV_en i, IRQ_C_PRIV_pend i]⟩,
  ⟨"WDT_C", 0x41900138, [(0x40, 4)], fun i _ => [WDT_C_key i, WDT_C_tmo i, WDT_C_run i, WDT_C_en i]⟩,
  ⟨"TIM_NOW_LO", 0x41900200, [], fun _ _ => [TIM_NOW_LO_lo]⟩,
  ⟨"TIM_NOW_HI", 0x41900204, [], fun _ _ => [TIM_NOW_HI_hi]⟩,
  ⟨"SEM_REQ", 0x41900300, [], fun _ _ => [SEM_REQ_op, SEM_REQ_sem]⟩,
  ⟨"SEM_GOT", 0x41900304, [], fun _ _ => [SEM_GOT_held]⟩,
  ⟨"MEM_FLAGS", 0x41900400, [], fun _ _ => [MEM_FLAGS_sem_bad, MEM_FLAGS_disc, MEM_FLAGS_unc, MEM_FLAGS_cor]⟩,
  ⟨"MEM_IRQ_EN", 0x41900404, [], fun _ _ => [MEM_IRQ_EN_en]⟩,
  ⟨"MEM_ECC_ADDR", 0x41900408, [], fun _ _ => [MEM_ECC_ADDR_addr]⟩,
  ⟨"MEM_ECC_INFO", 0x4190040C, [], fun _ _ => [MEM_ECC_INFO_req, MEM_ECC_INFO_fetch, MEM_ECC_INFO_unc, MEM_ECC_INFO_mem]⟩,
  ⟨"MEM_DISC_ADDR", 0x41900418, [], fun _ _ => [MEM_DISC_ADDR_addr]⟩,
  ⟨"MEM_DISC_INFO", 0x4190041C, [], fun _ _ => [MEM_DISC_INFO_req, MEM_DISC_INFO_write, MEM_DISC_INFO_cause]⟩,
  ⟨"MEM_ECC_INJ", 0x41900420, [], fun _ _ => [MEM_ECC_INJ_arm, MEM_ECC_INJ_bits, MEM_ECC_INJ_mem]⟩,
  ⟨"CORE_STAT", 0x41900424, [], fun _ _ => [CORE_STAT_locked, CORE_STAT_wfi, CORE_STAT_run]⟩,
  ⟨"IRQ_ROUTE", 0x41900000, [(0x4, 32)], fun i _ => [IRQ_ROUTE_en i 0, IRQ_ROUTE_en i 1, IRQ_ROUTE_en i 2, IRQ_ROUTE_en i 3, IRQ_ROUTE_sticky i 0, IRQ_ROUTE_sticky i 1, IRQ_ROUTE_sticky i 2, IRQ_ROUTE_sticky i 3, IRQ_ROUTE_group i 0, IRQ_ROUTE_group i 1, IRQ_ROUTE_group i 2, IRQ_ROUTE_group i 3, IRQ_ROUTE_target i 0, IRQ_ROUTE_target i 1, IRQ_ROUTE_target i 2, IRQ_ROUTE_target i 3]⟩,
  ⟨"IRQ_SPURIOUS", 0x41900090, [], fun _ _ => [IRQ_SPURIOUS_cnt 0, IRQ_SPURIOUS_cnt 1, IRQ_SPURIOUS_cnt 2, IRQ_SPURIOUS_cnt 3]⟩,
  ⟨"IRQ_SWI", 0x41900094, [], fun _ _ => [IRQ_SWI_swi 0, IRQ_SWI_swi 1, IRQ_SWI_swi 2, IRQ_SWI_swi 3, IRQ_SWI_swi 4, IRQ_SWI_swi 5, IRQ_SWI_swi 6, IRQ_SWI_swi 7, IRQ_SWI_swi 8, IRQ_SWI_swi 9, IRQ_SWI_swi 10, IRQ_SWI_swi 11, IRQ_SWI_swi 12, IRQ_SWI_swi 13, IRQ_SWI_swi 14, IRQ_SWI_swi 15]⟩,
  ⟨"IRQ_PEND", 0x41900080, [(0x4, 4)], fun i _ => [IRQ_PEND_pend i]⟩,
  ⟨"IRQ_C_PEND", 0x41900110, [(0x40, 4), (0x4, 4)], fun i j => [IRQ_C_PEND_pend i j]⟩,
  ⟨"IRQ_C_MOD", 0x41900120, [(0x40, 4), (0x4, 3)], fun i j => [IRQ_C_MOD_time i j, IRQ_C_MOD_count i j]⟩,
  ⟨"TIM_C_CMP0", 0x41900130, [(0x40, 4)], fun i _ => [TIM_C_CMP0_cmp i]⟩,
  ⟨"TIM_C_CMP1", 0x41900134, [(0x40, 4)], fun i _ => [TIM_C_CMP1_cmp i]⟩,
  ⟨"SEM_OWN", 0x41900310, [(0x4, 8)], fun i _ => [SEM_OWN_owner i 0, SEM_OWN_owner i 1, SEM_OWN_owner i 2, SEM_OWN_owner i 3]⟩,
  ⟨"MEM_ECC_CNT0", 0x41900410, [], fun _ _ => [MEM_ECC_CNT0_cnt 0, MEM_ECC_CNT0_cnt 1, MEM_ECC_CNT0_cnt 2, MEM_ECC_CNT0_cnt 3]⟩,
  ⟨"MEM_ECC_CNT1", 0x41900414, [], fun _ _ => [MEM_ECC_CNT1_cnt 0, MEM_ECC_CNT1_cnt 1, MEM_ECC_CNT1_cnt 2, MEM_ECC_CNT1_cnt 3]⟩]

def famCore : List Family := famCore0

end Sys2Proof.Machine.Reg
end

