-- ==== Sys2Proof/Machine/RegsHw.lean ====
section
/-! DEFINITION. The register fields of chapter 14, from the register tables of the spec: address, lowest bit, width,
reset value and access type of each named field, and the list of register families with their fields. -/

namespace Sys2Proof.Machine.Reg

def HW_STAT_mode8d : Field := ⟨0x41800000, 20, 1, 0, .ro⟩
def HW_STAT_irq : Field := ⟨0x41800000, 19, 1, 0, .ro⟩
def HW_STAT_wake : Field := ⟨0x41800000, 18, 1, 0, .ro⟩
def HW_STAT_idle : Field := ⟨0x41800000, 17, 1, 0, .ro⟩
def HW_STAT_sleep : Field := ⟨0x41800000, 16, 1, 0, .ro⟩
def HW_STAT_in_flight : Field := ⟨0x41800000, 0, 9, 0, .ro⟩
def HW_FLAGS_sleep_ev : Field := ⟨0x41800004, 8, 1, 0, .w1c⟩
def HW_FLAGS_late : Field := ⟨0x41800004, 7, 1, 0, .w1c⟩
def HW_FLAGS_msg : Field := ⟨0x41800004, 6, 1, 0, .w1c⟩
def HW_FLAGS_desc_fail : Field := ⟨0x41800004, 5, 1, 0, .w1c⟩
def HW_FLAGS_queue_bad : Field := ⟨0x41800004, 4, 1, 0, .w1c⟩
def HW_FLAGS_overrun : Field := ⟨0x41800004, 3, 1, 0, .w1c⟩
def HW_FLAGS_proto : Field := ⟨0x41800004, 2, 1, 0, .w1c⟩
def HW_FLAGS_own_viol : Field := ⟨0x41800004, 1, 1, 0, .w1c⟩
def HW_FLAGS_deny : Field := ⟨0x41800004, 0, 1, 0, .w1c⟩
def HW_IRQ_EN_en : Field := ⟨0x41800008, 0, 9, 0, .rw⟩
def HW_FENCE_fence : Field := ⟨0x4180000C, 0, 32, 0, .rw⟩
def HW_IDLE_idle : Field := ⟨0x41800010, 0, 1, 0, .rw⟩
def HW_HELD_held : Field := ⟨0x41800014, 0, 16, 0, .ro⟩
def HW_DENY_addr : Field := ⟨0x41800020, 0, 32, 0, .ro⟩
def HW_CAS_buf : Field := ⟨0x41800018, 16, 10, 0, .wo⟩
def HW_CAS_expect : Field := ⟨0x41800018, 1, 1, 0, .wo⟩
def HW_CAS_new : Field := ⟨0x41800018, 0, 1, 0, .wo⟩
def HW_CAS_RES_valid : Field := ⟨0x4180001C, 8, 1, 0, .ro⟩
def HW_CAS_RES_old : Field := ⟨0x4180001C, 1, 1, 0, .ro⟩
def HW_CAS_RES_ok : Field := ⟨0x4180001C, 0, 1, 0, .ro⟩
def HW_HOSTWR_wr : Field := ⟨0x41800024, 0, 14, 4608, .rw⟩
def HW_MSG_PEND_pend : Field := ⟨0x41800028, 0, 8, 0, .ro⟩
def HW_MSG_INFO_info : Field := ⟨0x4180002C, 0, 32, 0, .rw⟩
def HW_MSG_DONE_done : Field := ⟨0x41800030, 16, 16, 0, .wo⟩
def HW_MSG_DONE_queue : Field := ⟨0x41800030, 8, 3, 0, .wo⟩
def HW_MSG_DONE_status : Field := ⟨0x41800030, 0, 8, 0, .wo⟩
def HW_SQ_CFG_en (n : Nat) : Field := ⟨0x41800100 + 0x10 * n, 31, 1, 0, .rw⟩
def HW_SQ_CFG_cq (n : Nat) : Field := ⟨0x41800100 + 0x10 * n, 28, 3, 0, .rw⟩
def HW_SQ_CFG_owner (n : Nat) : Field := ⟨0x41800100 + 0x10 * n, 25, 3, 0, .rw⟩
def HW_SQ_CFG_sw_en (n : Nat) : Field := ⟨0x41800100 + 0x10 * n, 24, 1, 0, .rw⟩
def HW_SQ_CFG_hart (n : Nat) : Field := ⟨0x41800100 + 0x10 * n, 22, 2, 0, .rw⟩
def HW_SQ_CFG_size (n : Nat) : Field := ⟨0x41800100 + 0x10 * n, 16, 4, 3, .rw⟩
def HW_SQ_CFG_base (n : Nat) : Field := ⟨0x41800100 + 0x10 * n, 0, 10, 0, .rw⟩
def HW_SQ_TAIL_tail (n : Nat) : Field := ⟨0x41800104 + 0x10 * n, 0, 8, 0, .rw⟩
def HW_SQ_STAT_aborting (n : Nat) : Field := ⟨0x41800108 + 0x10 * n, 25, 1, 0, .ro⟩
def HW_SQ_STAT_busy (n : Nat) : Field := ⟨0x41800108 + 0x10 * n, 24, 1, 0, .ro⟩
def HW_SQ_STAT_fetched (n : Nat) : Field := ⟨0x41800108 + 0x10 * n, 16, 8, 0, .ro⟩
def HW_SQ_STAT_exec (n : Nat) : Field := ⟨0x41800108 + 0x10 * n, 8, 8, 0, .ro⟩
def HW_SQ_STAT_head (n : Nat) : Field := ⟨0x41800108 + 0x10 * n, 0, 8, 0, .ro⟩
def HW_SQ_CTL_abort (n : Nat) : Field := ⟨0x4180010C + 0x10 * n, 0, 1, 0, .w1s⟩
def HW_CQ_CFG_en (c : Nat) : Field := ⟨0x41800200 + 0x10 * c, 31, 1, 0, .rw⟩
def HW_CQ_CFG_host (c : Nat) : Field := ⟨0x41800200 + 0x10 * c, 30, 1, 0, .rw⟩
def HW_CQ_CFG_wake (c : Nat) : Field := ⟨0x41800200 + 0x10 * c, 29, 1, 0, .rw⟩
def HW_CQ_CFG_size (c : Nat) : Field := ⟨0x41800200 + 0x10 * c, 16, 4, 4, .rw⟩
def HW_CQ_CFG_base (c : Nat) : Field := ⟨0x41800200 + 0x10 * c, 0, 10, 0, .rw⟩
def HW_CQ_HEAD_head (c : Nat) : Field := ⟨0x41800204 + 0x10 * c, 0, 8, 0, .rw⟩
def HW_CQ_STAT_released (c : Nat) : Field := ⟨0x41800208 + 0x10 * c, 24, 1, 0, .ro⟩
def HW_CQ_STAT_unann (c : Nat) : Field := ⟨0x41800208 + 0x10 * c, 16, 8, 0, .ro⟩
def HW_CQ_STAT_phase (c : Nat) : Field := ⟨0x41800208 + 0x10 * c, 8, 1, 1, .ro⟩
def HW_CQ_STAT_tail (c : Nat) : Field := ⟨0x41800208 + 0x10 * c, 0, 8, 0, .ro⟩
def HW_CQ_MOD_time (c : Nat) : Field := ⟨0x4180020C + 0x10 * c, 16, 10, 0, .rw⟩
def HW_CQ_MOD_count (c : Nat) : Field := ⟨0x4180020C + 0x10 * c, 0, 8, 1, .rw⟩

/-- The register families of chapter 14. -/
def famHw0 : List Family := [
  ⟨"HW_STAT", 0x41800000, [], fun _ _ => [HW_STAT_mode8d, HW_STAT_irq, HW_STAT_wake, HW_STAT_idle, HW_STAT_sleep, HW_STAT_in_flight]⟩,
  ⟨"HW_FLAGS", 0x41800004, [], fun _ _ => [HW_FLAGS_sleep_ev, HW_FLAGS_late, HW_FLAGS_msg, HW_FLAGS_desc_fail, HW_FLAGS_queue_bad, HW_FLAGS_overrun, HW_FLAGS_proto, HW_FLAGS_own_viol, HW_FLAGS_deny]⟩,
  ⟨"HW_IRQ_EN", 0x41800008, [], fun _ _ => [HW_IRQ_EN_en]⟩,
  ⟨"HW_FENCE", 0x4180000C, [], fun _ _ => [HW_FENCE_fence]⟩,
  ⟨"HW_IDLE", 0x41800010, [], fun _ _ => [HW_IDLE_idle]⟩,
  ⟨"HW_HELD", 0x41800014, [], fun _ _ => [HW_HELD_held]⟩,
  ⟨"HW_DENY", 0x41800020, [], fun _ _ => [HW_DENY_addr]⟩,
  ⟨"HW_CAS", 0x41800018, [], fun _ _ => [HW_CAS_buf, HW_CAS_expect, HW_CAS_new]⟩,
  ⟨"HW_CAS_RES", 0x4180001C, [], fun _ _ => [HW_CAS_RES_valid, HW_CAS_RES_old, HW_CAS_RES_ok]⟩,
  ⟨"HW_HOSTWR", 0x41800024, [], fun _ _ => [HW_HOSTWR_wr]⟩,
  ⟨"HW_MSG_PEND", 0x41800028, [], fun _ _ => [HW_MSG_PEND_pend]⟩,
  ⟨"HW_MSG_INFO", 0x4180002C, [], fun _ _ => [HW_MSG_INFO_info]⟩,
  ⟨"HW_MSG_DONE", 0x41800030, [], fun _ _ => [HW_MSG_DONE_done, HW_MSG_DONE_queue, HW_MSG_DONE_status]⟩,
  ⟨"HW_SQ_CFG", 0x41800100, [(0x10, 8)], fun i _ => [HW_SQ_CFG_en i, HW_SQ_CFG_cq i, HW_SQ_CFG_owner i, HW_SQ_CFG_sw_en i, HW_SQ_CFG_hart i, HW_SQ_CFG_size i, HW_SQ_CFG_base i]⟩,
  ⟨"HW_SQ_TAIL", 0x41800104, [(0x10, 8)], fun i _ => [HW_SQ_TAIL_tail i]⟩,
  ⟨"HW_SQ_STAT", 0x41800108, [(0x10, 8)], fun i _ => [HW_SQ_STAT_aborting i, HW_SQ_STAT_busy i, HW_SQ_STAT_fetched i, HW_SQ_STAT_exec i, HW_SQ_STAT_head i]⟩,
  ⟨"HW_SQ_CTL", 0x4180010C, [(0x10, 8)], fun i _ => [HW_SQ_CTL_abort i]⟩,
  ⟨"HW_CQ_CFG", 0x41800200, [(0x10, 8)], fun i _ => [HW_CQ_CFG_en i, HW_CQ_CFG_host i, HW_CQ_CFG_wake i, HW_CQ_CFG_size i, HW_CQ_CFG_base i]⟩,
  ⟨"HW_CQ_HEAD", 0x41800204, [(0x10, 8)], fun i _ => [HW_CQ_HEAD_head i]⟩,
  ⟨"HW_CQ_STAT", 0x41800208, [(0x10, 8)], fun i _ => [HW_CQ_STAT_released i, HW_CQ_STAT_unann i, HW_CQ_STAT_phase i, HW_CQ_STAT_tail i]⟩,
  ⟨"HW_CQ_MOD", 0x4180020C, [(0x10, 8)], fun i _ => [HW_CQ_MOD_time i, HW_CQ_MOD_count i]⟩]

def famHw : List Family := famHw0

end Sys2Proof.Machine.Reg
end

