-- ==== Sys2Proof/Machine/RegsIsl.lean ====
section
/-! DEFINITION. The register fields of chapter 10, from the register tables of the spec: address, lowest bit, width,
reset value and access type of each named field, and the list of register families with their fields. -/

namespace Sys2Proof.Machine.Reg

def ISL_CFG_prof_src (n : Nat) : Field := ⟨0x41100000 + 0x200 * n, 6, 1, 0, .rwl⟩
def ISL_CFG_ntc_en (n : Nat) : Field := ⟨0x41100000 + 0x200 * n, 5, 1, 0, .rwl⟩
def ISL_CFG_vee_uv_en (n : Nat) : Field := ⟨0x41100000 + 0x200 * n, 4, 1, 1, .rwl⟩
def ISL_CFG_tlto_en (n : Nat) : Field := ⟨0x41100000 + 0x200 * n, 3, 1, 1, .rwl⟩
def ISL_CFG_desat_en (n : Nat) : Field := ⟨0x41100000 + 0x200 * n, 2, 1, 1, .rwl⟩
def ISL_CFG_clamp_en (n : Nat) : Field := ⟨0x41100000 + 0x200 * n, 1, 1, 1, .rwl⟩
def ISL_CFG_supply (n : Nat) : Field := ⟨0x41100000 + 0x200 * n, 0, 1, 0, .rwl⟩
def ISL_CTL_ureset (n : Nat) : Field := ⟨0x41100004 + 0x200 * n, 2, 1, 0, .wo⟩
def ISL_CTL_leak (n : Nat) : Field := ⟨0x41100004 + 0x200 * n, 1, 1, 0, .wo⟩
def ISL_CTL_clear (n : Nat) : Field := ⟨0x41100004 + 0x200 * n, 0, 1, 0, .wo⟩
def ISL_STAT_cause (n : Nat) : Field := ⟨0x41100008 + 0x200 * n, 16, 4, 0, .ro⟩
def ISL_STAT_unmatched (n : Nat) : Field := ⟨0x41100008 + 0x200 * n, 13, 1, 0, .ro⟩
def ISL_STAT_ntc_ok (n : Nat) : Field := ⟨0x41100008 + 0x200 * n, 12, 1, 0, .ro⟩
def ISL_STAT_ot_warn (n : Nat) : Field := ⟨0x41100008 + 0x200 * n, 11, 1, 0, .ro⟩
def ISL_STAT_vcc_warn (n : Nat) : Field := ⟨0x41100008 + 0x200 * n, 10, 1, 0, .ro⟩
def ISL_STAT_clamp_on (n : Nat) : Field := ⟨0x41100008 + 0x200 * n, 9, 1, 0, .ro⟩
def ISL_STAT_gate_hi (n : Nat) : Field := ⟨0x41100008 + 0x200 * n, 8, 1, 0, .ro⟩
def ISL_STAT_latched (n : Nat) : Field := ⟨0x41100008 + 0x200 * n, 7, 1, 0, .ro⟩
def ISL_STAT_prof_fixed (n : Nat) : Field := ⟨0x41100008 + 0x200 * n, 6, 1, 0, .ro⟩
def ISL_STAT_bs_pending (n : Nat) : Field := ⟨0x41100008 + 0x200 * n, 5, 1, 0, .ro⟩
def ISL_STAT_sync (n : Nat) : Field := ⟨0x41100008 + 0x200 * n, 4, 1, 0, .ro⟩
def ISL_STAT_chan_ok (n : Nat) : Field := ⟨0x41100008 + 0x200 * n, 3, 1, 0, .ro⟩
def ISL_STAT_state (n : Nat) : Field := ⟨0x41100008 + 0x200 * n, 0, 3, 0, .ro⟩
def ISL_FLAGS_prof_ev (n : Nat) : Field := ⟨0x4110000C + 0x200 * n, 10, 1, 0, .w1c⟩
def ISL_FLAGS_chan_ev (n : Nat) : Field := ⟨0x4110000C + 0x200 * n, 9, 1, 0, .w1c⟩
def ISL_FLAGS_meas_inv (n : Nat) : Field := ⟨0x4110000C + 0x200 * n, 8, 1, 0, .w1c⟩
def ISL_FLAGS_il_ev (n : Nat) : Field := ⟨0x4110000C + 0x200 * n, 7, 1, 0, .w1c⟩
def ISL_FLAGS_leak_ev (n : Nat) : Field := ⟨0x4110000C + 0x200 * n, 6, 1, 0, .w1c⟩
def ISL_FLAGS_ot_warn_ev (n : Nat) : Field := ⟨0x4110000C + 0x200 * n, 5, 1, 0, .w1c⟩
def ISL_FLAGS_warn_ev (n : Nat) : Field := ⟨0x4110000C + 0x200 * n, 4, 1, 0, .w1c⟩
def ISL_FLAGS_uv_ev (n : Nat) : Field := ⟨0x4110000C + 0x200 * n, 3, 1, 0, .w1c⟩
def ISL_FLAGS_cleared_ev (n : Nat) : Field := ⟨0x4110000C + 0x200 * n, 2, 1, 0, .w1c⟩
def ISL_FLAGS_fault_ev (n : Nat) : Field := ⟨0x4110000C + 0x200 * n, 1, 1, 0, .w1c⟩
def ISL_FLAGS_ready_ev (n : Nat) : Field := ⟨0x4110000C + 0x200 * n, 0, 1, 0, .w1c⟩
def ISL_UV_vee_uv (n : Nat) : Field := ⟨0x41100014 + 0x200 * n, 16, 8, 20, .rwl⟩
def ISL_UV_vcc_warn (n : Nat) : Field := ⟨0x41100014 + 0x200 * n, 8, 8, 155, .rwl⟩
def ISL_UV_vcc_uv (n : Nat) : Field := ⟨0x41100014 + 0x200 * n, 0, 8, 140, .rwl⟩
def ISL_DESAT_filt (n : Nat) : Field := ⟨0x41100018 + 0x200 * n, 28, 4, 10, .rwl⟩
def ISL_DESAT_thr (n : Nat) : Field := ⟨0x41100018 + 0x200 * n, 16, 8, 90, .rwl⟩
def ISL_DESAT_blank (n : Nat) : Field := ⟨0x41100018 + 0x200 * n, 0, 9, 50, .rwl⟩
def ISL_TLTO_i_soft (n : Nat) : Field := ⟨0x4110001C + 0x200 * n, 16, 8, 32, .rwl⟩
def ISL_TLTO_time (n : Nat) : Field := ⟨0x4110001C + 0x200 * n, 8, 8, 50, .rwl⟩
def ISL_TLTO_level (n : Nat) : Field := ⟨0x4110001C + 0x200 * n, 0, 8, 144, .rwl⟩
def ISL_GLVL_v_clamp (n : Nat) : Field := ⟨0x41100020 + 0x200 * n, 24, 8, 72, .rwl⟩
def ISL_GLVL_v_il (n : Nat) : Field := ⟨0x41100020 + 0x200 * n, 16, 8, 80, .rwl⟩
def ISL_GLVL_v_pl_hi (n : Nat) : Field := ⟨0x41100020 + 0x200 * n, 8, 8, 160, .rwl⟩
def ISL_GLVL_v_pl_lo (n : Nat) : Field := ⟨0x41100020 + 0x200 * n, 0, 8, 96, .rwl⟩
def ISL_PROF_ON_t2 (n : Nat) : Field := ⟨0x41100024 + 0x200 * n, 24, 8, 50, .rw⟩
def ISL_PROF_ON_i2 (n : Nat) : Field := ⟨0x41100024 + 0x200 * n, 16, 8, 64, .rw⟩
def ISL_PROF_ON_t1 (n : Nat) : Field := ⟨0x41100024 + 0x200 * n, 8, 8, 40, .rw⟩
def ISL_PROF_ON_i1 (n : Nat) : Field := ⟨0x41100024 + 0x200 * n, 0, 8, 80, .rw⟩
def ISL_PROF_OFF_t2 (n : Nat) : Field := ⟨0x41100028 + 0x200 * n, 24, 8, 50, .rw⟩
def ISL_PROF_OFF_i2 (n : Nat) : Field := ⟨0x41100028 + 0x200 * n, 16, 8, 64, .rw⟩
def ISL_PROF_OFF_t1 (n : Nat) : Field := ⟨0x41100028 + 0x200 * n, 8, 8, 40, .rw⟩
def ISL_PROF_OFF_i1 (n : Nat) : Field := ⟨0x41100028 + 0x200 * n, 0, 8, 80, .rw⟩
def ISL_GTMO_off (n : Nat) : Field := ⟨0x4110002C + 0x200 * n, 8, 8, 50, .rwl⟩
def ISL_GTMO_on (n : Nat) : Field := ⟨0x4110002C + 0x200 * n, 0, 8, 50, .rwl⟩
def ISL_RETRY_uv_wait (n : Nat) : Field := ⟨0x41100030 + 0x200 * n, 16, 8, 2, .rwl⟩
def ISL_RETRY_desat_wait (n : Nat) : Field := ⟨0x41100030 + 0x200 * n, 8, 8, 10, .rwl⟩
def ISL_RETRY_win_max (n : Nat) : Field := ⟨0x41100030 + 0x200 * n, 4, 4, 3, .rwl⟩
def ISL_RETRY_uv_tries (n : Nat) : Field := ⟨0x41100030 + 0x200 * n, 2, 2, 3, .rwl⟩
def ISL_RETRY_desat_tries (n : Nat) : Field := ⟨0x41100030 + 0x200 * n, 0, 2, 1, .rwl⟩
def ISL_OT_warn (n : Nat) : Field := ⟨0x41100034 + 0x200 * n, 0, 8, 130, .rwl⟩
def ISL_LEAK_CFG_fail (n : Nat) : Field := ⟨0x41100038 + 0x200 * n, 16, 8, 100, .rwl⟩
def ISL_LEAK_CFG_warn (n : Nat) : Field := ⟨0x41100038 + 0x200 * n, 8, 8, 20, .rwl⟩
def ISL_LEAK_CFG_settle (n : Nat) : Field := ⟨0x41100038 + 0x200 * n, 0, 8, 10, .rwl⟩
def ISL_LEAK_RES_current (n : Nat) : Field := ⟨0x4110003C + 0x200 * n, 0, 32, 0, .ro⟩
def ISL_LEAK_STAT_busy (n : Nat) : Field := ⟨0x41100040 + 0x200 * n, 7, 1, 0, .ro⟩
def ISL_LEAK_STAT_reason (n : Nat) : Field := ⟨0x41100040 + 0x200 * n, 4, 3, 0, .ro⟩
def ISL_LEAK_STAT_result (n : Nat) : Field := ⟨0x41100040 + 0x200 * n, 0, 3, 0, .ro⟩
def ISL_MEAS_ON_t_pl_on (n : Nat) : Field := ⟨0x41100044 + 0x200 * n, 16, 16, 0, .ro⟩
def ISL_MEAS_ON_t_don (n : Nat) : Field := ⟨0x41100044 + 0x200 * n, 0, 16, 0, .ro⟩
def ISL_MEAS_OFF_t_pl_off (n : Nat) : Field := ⟨0x41100048 + 0x200 * n, 16, 16, 0, .ro⟩
def ISL_MEAS_OFF_t_doff (n : Nat) : Field := ⟨0x41100048 + 0x200 * n, 0, 16, 0, .ro⟩
def ISL_MEAS_TS_tick (n : Nat) : Field := ⟨0x4110004C + 0x200 * n, 0, 32, 0, .ro⟩
def ISL_MEAS_CNT_valid (n : Nat) : Field := ⟨0x41100050 + 0x200 * n, 16, 16, 0, .ro⟩
def ISL_MEAS_CNT_invalid (n : Nat) : Field := ⟨0x41100050 + 0x200 * n, 0, 16, 0, .ro⟩
def ISL_SUP_vee2 (n : Nat) : Field := ⟨0x41100054 + 0x200 * n, 16, 16, 0, .ro⟩
def ISL_SUP_vcc2 (n : Nat) : Field := ⟨0x41100054 + 0x200 * n, 0, 16, 0, .ro⟩
def ISL_TEMP_temp (n : Nat) : Field := ⟨0x41100058 + 0x200 * n, 0, 32, 0, .ro⟩
def ISL_NTC_ohms (n : Nat) : Field := ⟨0x4110005C + 0x200 * n, 0, 32, 0, .ro⟩
def ISL_CHAN_crc_err (n : Nat) : Field := ⟨0x41100060 + 0x200 * n, 24, 8, 0, .ro⟩
def ISL_CHAN_raw (n : Nat) : Field := ⟨0x41100060 + 0x200 * n, 8, 16, 0, .ro⟩
def ISL_CHAN_trim (n : Nat) : Field := ⟨0x41100060 + 0x200 * n, 0, 8, 0, .ro⟩
def ISL_IL_holds (n : Nat) : Field := ⟨0x41100064 + 0x200 * n, 16, 16, 0, .ro⟩
def ISL_IL_hold_last (n : Nat) : Field := ⟨0x41100064 + 0x200 * n, 0, 16, 0, .ro⟩
def ISL_FAULT_code (n : Nat) : Field := ⟨0x41100068 + 0x200 * n, 16, 16, 0, .ro⟩
def ISL_FAULT_window (n : Nat) : Field := ⟨0x41100068 + 0x200 * n, 8, 4, 0, .ro⟩
def ISL_FAULT_uv_used (n : Nat) : Field := ⟨0x41100068 + 0x200 * n, 4, 2, 0, .ro⟩
def ISL_FAULT_desat_used (n : Nat) : Field := ⟨0x41100068 + 0x200 * n, 0, 2, 0, .ro⟩
def ISL_CAL_STAT_valid : Field := ⟨0x41101800, 16, 1, 0, .ro⟩
def ISL_CAL_STAT_target : Field := ⟨0x41101800, 0, 16, 0, .ro⟩
def ISL_XFMR_CFG_freq : Field := ⟨0x41101804, 16, 2, 0, .rwl⟩
def ISL_XFMR_CFG_en : Field := ⟨0x41101804, 0, 6, 63, .rwl⟩
def ISL_GFLAGS_hs_fail : Field := ⟨0x41101808, 2, 1, 0, .w1c⟩
def ISL_GFLAGS_il_conflict : Field := ⟨0x41101808, 1, 1, 0, .w1c⟩
def ISL_GFLAGS_cal_drift : Field := ⟨0x41101808, 0, 1, 0, .w1c⟩
def ISL_GIRQ_EN_en : Field := ⟨0x4110180C, 0, 3, 0, .rw⟩
def ISL_SUMMARY_fault : Field := ⟨0x41101810, 16, 12, 0, .ro⟩
def ISL_SUMMARY_ready : Field := ⟨0x41101810, 0, 12, 0, .ro⟩
def ISL_IRQ_EN_prof_ev (n : Nat) : Field := ⟨0x41100010 + 0x200 * n, 10, 1, 0, .rw⟩
def ISL_IRQ_EN_chan_ev (n : Nat) : Field := ⟨0x41100010 + 0x200 * n, 9, 1, 0, .rw⟩
def ISL_IRQ_EN_meas_inv (n : Nat) : Field := ⟨0x41100010 + 0x200 * n, 8, 1, 0, .rw⟩
def ISL_IRQ_EN_il_ev (n : Nat) : Field := ⟨0x41100010 + 0x200 * n, 7, 1, 0, .rw⟩
def ISL_IRQ_EN_leak_ev (n : Nat) : Field := ⟨0x41100010 + 0x200 * n, 6, 1, 0, .rw⟩
def ISL_IRQ_EN_ot_warn_ev (n : Nat) : Field := ⟨0x41100010 + 0x200 * n, 5, 1, 0, .rw⟩
def ISL_IRQ_EN_warn_ev (n : Nat) : Field := ⟨0x41100010 + 0x200 * n, 4, 1, 0, .rw⟩
def ISL_IRQ_EN_uv_ev (n : Nat) : Field := ⟨0x41100010 + 0x200 * n, 3, 1, 0, .rw⟩
def ISL_IRQ_EN_cleared_ev (n : Nat) : Field := ⟨0x41100010 + 0x200 * n, 2, 1, 0, .rw⟩
def ISL_IRQ_EN_fault_ev (n : Nat) : Field := ⟨0x41100010 + 0x200 * n, 1, 1, 0, .rw⟩
def ISL_IRQ_EN_ready_ev (n : Nat) : Field := ⟨0x41100010 + 0x200 * n, 0, 1, 0, .rw⟩

/-- The register families of chapter 10. -/
def famIsl0 : List Family := [
  ⟨"ISL_CFG", 0x41100000, [(0x200, 12)], fun i _ => [ISL_CFG_prof_src i, ISL_CFG_ntc_en i, ISL_CFG_vee_uv_en i, ISL_CFG_tlto_en i, ISL_CFG_desat_en i, ISL_CFG_clamp_en i, ISL_CFG_supply i]⟩,
  ⟨"ISL_CTL", 0x41100004, [(0x200, 12)], fun i _ => [ISL_CTL_ureset i, ISL_CTL_leak i, ISL_CTL_clear i]⟩,
  ⟨"ISL_STAT", 0x41100008, [(0x200, 12)], fun i _ => [ISL_STAT_cause i, ISL_STAT_unmatched i, ISL_STAT_ntc_ok i, ISL_STAT_ot_warn i, ISL_STAT_vcc_warn i, ISL_STAT_clamp_on i, ISL_STAT_gate_hi i, ISL_STAT_latched i, ISL_STAT_prof_fixed i, ISL_STAT_bs_pending i, ISL_STAT_sync i, ISL_STAT_chan_ok i, ISL_STAT_state i]⟩,
  ⟨"ISL_FLAGS", 0x4110000C, [(0x200, 12)], fun i _ => [ISL_FLAGS_prof_ev i, ISL_FLAGS_chan_ev i, ISL_FLAGS_meas_inv i, ISL_FLAGS_il_ev i, ISL_FLAGS_leak_ev i, ISL_FLAGS_ot_warn_ev i, ISL_FLAGS_warn_ev i, ISL_FLAGS_uv_ev i, ISL_FLAGS_cleared_ev i, ISL_FLAGS_fault_ev i, ISL_FLAGS_ready_ev i]⟩,
  ⟨"ISL_UV", 0x41100014, [(0x200, 12)], fun i _ => [ISL_UV_vee_uv i, ISL_UV_vcc_warn i, ISL_UV_vcc_uv i]⟩,
  ⟨"ISL_DESAT", 0x41100018, [(0x200, 12)], fun i _ => [ISL_DESAT_filt i, ISL_DESAT_thr i, ISL_DESAT_blank i]⟩,
  ⟨"ISL_TLTO", 0x4110001C, [(0x200, 12)], fun i _ => [ISL_TLTO_i_soft i, ISL_TLTO_time i, ISL_TLTO_level i]⟩,
  ⟨"ISL_GLVL", 0x41100020, [(0x200, 12)], fun i _ => [ISL_GLVL_v_clamp i, ISL_GLVL_v_il i, ISL_GLVL_v_pl_hi i, ISL_GLVL_v_pl_lo i]⟩,
  ⟨"ISL_PROF_ON", 0x41100024, [(0x200, 12)], fun i _ => [ISL_PROF_ON_t2 i, ISL_PROF_ON_i2 i, ISL_PROF_ON_t1 i, ISL_PROF_ON_i1 i]⟩,
  ⟨"ISL_PROF_OFF", 0x41100028, [(0x200, 12)], fun i _ => [ISL_PROF_OFF_t2 i, ISL_PROF_OFF_i2 i, ISL_PROF_OFF_t1 i, ISL_PROF_OFF_i1 i]⟩,
  ⟨"ISL_GTMO", 0x4110002C, [(0x200, 12)], fun i _ => [ISL_GTMO_off i, ISL_GTMO_on i]⟩,
  ⟨"ISL_RETRY", 0x41100030, [(0x200, 12)], fun i _ => [ISL_RETRY_uv_wait i, ISL_RETRY_desat_wait i, ISL_RETRY_win_max i, ISL_RETRY_uv_tries i, ISL_RETRY_desat_tries i]⟩,
  ⟨"ISL_OT", 0x41100034, [(0x200, 12)], fun i _ => [ISL_OT_warn i]⟩,
  ⟨"ISL_LEAK_CFG", 0x41100038, [(0x200, 12)], fun i _ => [ISL_LEAK_CFG_fail i, ISL_LEAK_CFG_warn i, ISL_LEAK_CFG_settle i]⟩,
  ⟨"ISL_LEAK_RES", 0x4110003C, [(0x200, 12)], fun i _ => [ISL_LEAK_RES_current i]⟩,
  ⟨"ISL_LEAK_STAT", 0x41100040, [(0x200, 12)], fun i _ => [ISL_LEAK_STAT_busy i, ISL_LEAK_STAT_reason i, ISL_LEAK_STAT_result i]⟩,
  ⟨"ISL_MEAS_ON", 0x41100044, [(0x200, 12)], fun i _ => [ISL_MEAS_ON_t_pl_on i, ISL_MEAS_ON_t_don i]⟩,
  ⟨"ISL_MEAS_OFF", 0x41100048, [(0x200, 12)], fun i _ => [ISL_MEAS_OFF_t_pl_off i, ISL_MEAS_OFF_t_doff i]⟩,
  ⟨"ISL_MEAS_TS", 0x4110004C, [(0x200, 12)], fun i _ => [ISL_MEAS_TS_tick i]⟩,
  ⟨"ISL_MEAS_CNT", 0x41100050, [(0x200, 12)], fun i _ => [ISL_MEAS_CNT_valid i, ISL_MEAS_CNT_invalid i]⟩,
  ⟨"ISL_SUP", 0x41100054, [(0x200, 12)], fun i _ => [ISL_SUP_vee2 i, ISL_SUP_vcc2 i]⟩,
  ⟨"ISL_TEMP", 0x41100058, [(0x200, 12)], fun i _ => [ISL_TEMP_temp i]⟩,
  ⟨"ISL_NTC", 0x4110005C, [(0x200, 12)], fun i _ => [ISL_NTC_ohms i]⟩,
  ⟨"ISL_CHAN", 0x41100060, [(0x200, 12)], fun i _ => [ISL_CHAN_crc_err i, ISL_CHAN_raw i, ISL_CHAN_trim i]⟩,
  ⟨"ISL_IL", 0x41100064, [(0x200, 12)], fun i _ => [ISL_IL_holds i, ISL_IL_hold_last i]⟩,
  ⟨"ISL_FAULT", 0x41100068, [(0x200, 12)], fun i _ => [ISL_FAULT_code i, ISL_FAULT_window i, ISL_FAULT_uv_used i, ISL_FAULT_desat_used i]⟩,
  ⟨"ISL_CAL_STAT", 0x41101800, [], fun _ _ => [ISL_CAL_STAT_valid, ISL_CAL_STAT_target]⟩,
  ⟨"ISL_XFMR_CFG", 0x41101804, [], fun _ _ => [ISL_XFMR_CFG_freq, ISL_XFMR_CFG_en]⟩,
  ⟨"ISL_GFLAGS", 0x41101808, [], fun _ _ => [ISL_GFLAGS_hs_fail, ISL_GFLAGS_il_conflict, ISL_GFLAGS_cal_drift]⟩,
  ⟨"ISL_GIRQ_EN", 0x4110180C, [], fun _ _ => [ISL_GIRQ_EN_en]⟩]

def famIsl1 : List Family := [
  ⟨"ISL_SUMMARY", 0x41101810, [], fun _ _ => [ISL_SUMMARY_fault, ISL_SUMMARY_ready]⟩,
  ⟨"ISL_IRQ_EN", 0x41100010, [(0x200, 12)], fun i _ => [ISL_IRQ_EN_prof_ev i, ISL_IRQ_EN_chan_ev i, ISL_IRQ_EN_meas_inv i, ISL_IRQ_EN_il_ev i, ISL_IRQ_EN_leak_ev i, ISL_IRQ_EN_ot_warn_ev i, ISL_IRQ_EN_warn_ev i, ISL_IRQ_EN_uv_ev i, ISL_IRQ_EN_cleared_ev i, ISL_IRQ_EN_fault_ev i, ISL_IRQ_EN_ready_ev i]⟩]

def famIsl : List Family := famIsl0 ++ famIsl1

end Sys2Proof.Machine.Reg
end

