-- ==== Sys2Proof/Machine/RegsPos.lean ====
section
/-! DEFINITION. The register fields of chapter 07, from the register tables of the spec: address, lowest bit, width,
reset value and access type of each named field, and the list of register families with their fields. -/

namespace Sys2Proof.Machine.Reg

def POS_CFG_hall_extrap (n : Nat) : Field := ⟨0x41300000 + 0x100 * n, 13, 1, 0, .rwl⟩
def POS_CFG_ratio (n : Nat) : Field := ⟨0x41300000 + 0x100 * n, 8, 5, 1, .rwl⟩
def POS_CFG_idx_pol (n : Nat) : Field := ⟨0x41300000 + 0x100 * n, 7, 1, 0, .rwl⟩
def POS_CFG_idx_qual (n : Nat) : Field := ⟨0x41300000 + 0x100 * n, 6, 1, 0, .rwl⟩
def POS_CFG_idx_mode (n : Nat) : Field := ⟨0x41300000 + 0x100 * n, 4, 2, 0, .rwl⟩
def POS_CFG_dir_inv (n : Nat) : Field := ⟨0x41300000 + 0x100 * n, 3, 1, 0, .rwl⟩
def POS_CFG_mode (n : Nat) : Field := ⟨0x41300000 + 0x100 * n, 0, 3, 0, .rwl⟩
def POS_CPR_cpr (n : Nat) : Field := ⟨0x41300004 + 0x100 * n, 0, 24, 8192, .rwl⟩
def POS_OFFSET_offset (n : Nat) : Field := ⟨0x41300008 + 0x100 * n, 0, 16, 0, .rwl⟩
def POS_LIM_glitch (n : Nat) : Field := ⟨0x4130000C + 0x100 * n, 24, 8, 20, .rwl⟩
def POS_LIM_standstill (n : Nat) : Field := ⟨0x4130000C + 0x100 * n, 8, 16, 50, .rwl⟩
def POS_LIM_qerr_limit (n : Nat) : Field := ⟨0x4130000C + 0x100 * n, 0, 8, 4, .rwl⟩
def POS_CTL_ureset (n : Nat) : Field := ⟨0x41300010 + 0x100 * n, 3, 1, 0, .wo⟩
def POS_CTL_clr_tot (n : Nat) : Field := ⟨0x41300010 + 0x100 * n, 2, 1, 0, .wo⟩
def POS_CTL_rearm (n : Nat) : Field := ⟨0x41300010 + 0x100 * n, 1, 1, 0, .wo⟩
def POS_CTL_snap (n : Nat) : Field := ⟨0x41300010 + 0x100 * n, 0, 1, 0, .wo⟩
def POS_STAT_qerr_count (n : Nat) : Field := ⟨0x41300014 + 0x100 * n, 16, 8, 0, .ro⟩
def POS_STAT_hall (n : Nat) : Field := ⟨0x41300014 + 0x100 * n, 8, 3, 0, .ro⟩
def POS_STAT_src_ok (n : Nat) : Field := ⟨0x41300014 + 0x100 * n, 6, 1, 0, .ro⟩
def POS_STAT_res_lock (n : Nat) : Field := ⟨0x41300014 + 0x100 * n, 5, 1, 0, .ro⟩
def POS_STAT_idx_seen (n : Nat) : Field := ⟨0x41300014 + 0x100 * n, 4, 1, 0, .ro⟩
def POS_STAT_dir (n : Nat) : Field := ⟨0x41300014 + 0x100 * n, 3, 1, 0, .ro⟩
def POS_STAT_standstill (n : Nat) : Field := ⟨0x41300014 + 0x100 * n, 2, 1, 0, .ro⟩
def POS_STAT_spd_valid (n : Nat) : Field := ⟨0x41300014 + 0x100 * n, 1, 1, 0, .ro⟩
def POS_STAT_pos_valid (n : Nat) : Field := ⟨0x41300014 + 0x100 * n, 0, 1, 0, .ro⟩
def POS_FLAGS_ser (n : Nat) : Field := ⟨0x41300018 + 0x100 * n, 12, 1, 0, .w1c⟩
def POS_FLAGS_src_err (n : Nat) : Field := ⟨0x41300018 + 0x100 * n, 11, 1, 0, .w1c⟩
def POS_FLAGS_frame (n : Nat) : Field := ⟨0x41300018 + 0x100 * n, 10, 1, 0, .w1c⟩
def POS_FLAGS_res_err (n : Nat) : Field := ⟨0x41300018 + 0x100 * n, 9, 1, 0, .w1c⟩
def POS_FLAGS_hall_err (n : Nat) : Field := ⟨0x41300018 + 0x100 * n, 8, 1, 0, .w1c⟩
def POS_FLAGS_idx_err (n : Nat) : Field := ⟨0x41300018 + 0x100 * n, 7, 1, 0, .w1c⟩
def POS_FLAGS_glitch (n : Nat) : Field := ⟨0x41300018 + 0x100 * n, 6, 1, 0, .w1c⟩
def POS_FLAGS_standstill_ev (n : Nat) : Field := ⟨0x41300018 + 0x100 * n, 5, 1, 0, .w1c⟩
def POS_FLAGS_pos_ok (n : Nat) : Field := ⟨0x41300018 + 0x100 * n, 4, 1, 0, .w1c⟩
def POS_FLAGS_pos_lost (n : Nat) : Field := ⟨0x41300018 + 0x100 * n, 3, 1, 0, .w1c⟩
def POS_FLAGS_idx_ev (n : Nat) : Field := ⟨0x41300018 + 0x100 * n, 2, 1, 0, .w1c⟩
def POS_FLAGS_dir_ev (n : Nat) : Field := ⟨0x41300018 + 0x100 * n, 1, 1, 0, .w1c⟩
def POS_FLAGS_qerr (n : Nat) : Field := ⟨0x41300018 + 0x100 * n, 0, 1, 0, .w1c⟩
def POS_CNT_cnt (n : Nat) : Field := ⟨0x41300020 + 0x100 * n, 0, 24, 0, .ro⟩
def POS_REV_rev (n : Nat) : Field := ⟨0x41300024 + 0x100 * n, 0, 32, 0, .ro⟩
def POS_SPEED_speed (n : Nat) : Field := ⟨0x41300028 + 0x100 * n, 0, 32, 0, .ro⟩
def POS_EDGE_TS_t_e (n : Nat) : Field := ⟨0x4130002C + 0x100 * n, 0, 32, 0, .ro⟩
def POS_ANGLE_lat_ang (n : Nat) : Field := ⟨0x41300030 + 0x100 * n, 16, 16, 0, .ro⟩
def POS_ANGLE_angle (n : Nat) : Field := ⟨0x41300030 + 0x100 * n, 0, 16, 0, .ro⟩
def POS_SNAP_ANG_angle (n : Nat) : Field := ⟨0x4130003C + 0x100 * n, 0, 16, 0, .ro⟩
def POS_SNAP_TS_t_e (n : Nat) : Field := ⟨0x41300040 + 0x100 * n, 0, 32, 0, .ro⟩
def POS_SNAP_SPD_speed (n : Nat) : Field := ⟨0x41300044 + 0x100 * n, 0, 32, 0, .ro⟩
def POS_SNAP_TNOW_tick (n : Nat) : Field := ⟨0x41300048 + 0x100 * n, 0, 32, 0, .ro⟩
def POS_IDX_CNT_cnt (n : Nat) : Field := ⟨0x4130004C + 0x100 * n, 0, 24, 0, .ro⟩
def POS_IDX_TS_tick (n : Nat) : Field := ⟨0x41300050 + 0x100 * n, 0, 32, 0, .ro⟩
def POS_ERRTOT_glitch_total (n : Nat) : Field := ⟨0x41300054 + 0x100 * n, 16, 16, 0, .ro⟩
def POS_ERRTOT_qerr_total (n : Nat) : Field := ⟨0x41300054 + 0x100 * n, 0, 16, 0, .ro⟩
def POS_HALL_CFG_deb (n : Nat) : Field := ⟨0x41300058 + 0x100 * n, 0, 8, 0, .rwl⟩
def POS_RES_CFG_phase (n : Nat) : Field := ⟨0x41300080 + 0x100 * n, 16, 14, 0, .rwl⟩
def POS_RES_CFG_amp (n : Nat) : Field := ⟨0x41300080 + 0x100 * n, 4, 12, 2048, .rwl⟩
def POS_RES_CFG_mult (n : Nat) : Field := ⟨0x41300080 + 0x100 * n, 0, 2, 0, .rwl⟩
def POS_RES_AMP_amp (n : Nat) : Field := ⟨0x41300088 + 0x100 * n, 0, 16, 0, .ro⟩
def POS_RES_WIN_hi (n : Nat) : Field := ⟨0x4130008C + 0x100 * n, 16, 16, 28672, .rwl⟩
def POS_RES_WIN_lo (n : Nat) : Field := ⟨0x4130008C + 0x100 * n, 0, 16, 8192, .rwl⟩
def POS_RES_ERR_err (n : Nat) : Field := ⟨0x41300090 + 0x100 * n, 0, 16, 0, .ro⟩
def POS_SENT_CFG_pos_nib (n : Nat) : Field := ⟨0x413000C0 + 0x100 * n, 20, 3, 3, .rwl⟩
def POS_SENT_CFG_ser (n : Nat) : Field := ⟨0x413000C0 + 0x100 * n, 15, 2, 2, .rwl⟩
def POS_SENT_CFG_crc_legacy (n : Nat) : Field := ⟨0x413000C0 + 0x100 * n, 14, 1, 0, .rwl⟩
def POS_SENT_CFG_pause (n : Nat) : Field := ⟨0x413000C0 + 0x100 * n, 13, 1, 0, .rwl⟩
def POS_SENT_CFG_nibbles (n : Nat) : Field := ⟨0x413000C0 + 0x100 * n, 10, 3, 6, .rwl⟩
def POS_SENT_CFG_tick (n : Nat) : Field := ⟨0x413000C0 + 0x100 * n, 0, 10, 30, .rwl⟩
def POS_SENT_FAST_status (n : Nat) : Field := ⟨0x413000C4 + 0x100 * n, 24, 4, 0, .ro⟩
def POS_SENT_FAST_data (n : Nat) : Field := ⟨0x413000C4 + 0x100 * n, 0, 24, 0, .ro⟩
def POS_SENT_TMO_age (n : Nat) : Field := ⟨0x413000CC + 0x100 * n, 16, 16, 0, .rwl⟩
def POS_SENT_TMO_timeout (n : Nat) : Field := ⟨0x413000CC + 0x100 * n, 0, 16, 10, .rwl⟩
def POS_SENT_SER_id (n : Nat) : Field := ⟨0x413000D0 + 0x100 * n, 24, 8, 0, .ro⟩
def POS_SENT_SER_type (n : Nat) : Field := ⟨0x413000D0 + 0x100 * n, 16, 2, 0, .ro⟩
def POS_SENT_SER_data (n : Nat) : Field := ⟨0x413000D0 + 0x100 * n, 0, 16, 0, .ro⟩
def POS_SENT_ERR_crc_err (n : Nat) : Field := ⟨0x413000D4 + 0x100 * n, 24, 8, 0, .ro⟩
def POS_SENT_ERR_sync_err (n : Nat) : Field := ⟨0x413000D4 + 0x100 * n, 16, 8, 0, .ro⟩
def POS_SENT_ERR_ser_err (n : Nat) : Field := ⟨0x413000D4 + 0x100 * n, 8, 8, 0, .ro⟩
def POS_FAB_CFG_age (n : Nat) : Field := ⟨0x413000E8 + 0x100 * n, 16, 16, 0, .rwl⟩
def POS_FAB_CFG_port (n : Nat) : Field := ⟨0x413000E8 + 0x100 * n, 11, 5, 0, .rwl⟩
def POS_FAB_CFG_timeout (n : Nat) : Field := ⟨0x413000E8 + 0x100 * n, 0, 11, 100, .rwl⟩
def POS_HALL_ANG_e_lo (n : Nat) (j : Nat) : Field := ⟨0x4130005C + 0x100 * n + 0x4 * j, 0, 16, if j = 0 then 0 else if j = 1 then 10923 else 54613, .rwl⟩
def POS_HALL_ANG_e_hi (n : Nat) (j : Nat) : Field := ⟨0x4130005C + 0x100 * n + 0x4 * j, 16, 16, if j = 0 then 21845 else if j = 1 then 43691 else 32768, .rwl⟩
def POS_SNAP_CNT_cnt (n : Nat) : Field := ⟨0x41300034 + 0x100 * n, 0, 24, 0, .ro⟩
def POS_SNAP_REV_rev (n : Nat) : Field := ⟨0x41300038 + 0x100 * n, 0, 32, 0, .ro⟩
def POS_RES_BW_v (n : Nat) : Field := ⟨0x41300084 + 0x100 * n, 0, 32, 0x44FA0000, .rwl⟩
def POS_SENT_TS_tick (n : Nat) : Field := ⟨0x413000C8 + 0x100 * n, 0, 32, 0, .ro⟩
def POS_FAB_ANG_angle (n : Nat) : Field := ⟨0x413000E0 + 0x100 * n, 0, 16, 0, .ro⟩
def POS_FAB_TS_tick (n : Nat) : Field := ⟨0x413000E4 + 0x100 * n, 0, 32, 0, .ro⟩
def POS_IRQ_EN_ser (n : Nat) : Field := ⟨0x4130001C + 0x100 * n, 12, 1, 0, .rw⟩
def POS_IRQ_EN_src_err (n : Nat) : Field := ⟨0x4130001C + 0x100 * n, 11, 1, 0, .rw⟩
def POS_IRQ_EN_frame (n : Nat) : Field := ⟨0x4130001C + 0x100 * n, 10, 1, 0, .rw⟩
def POS_IRQ_EN_res_err (n : Nat) : Field := ⟨0x4130001C + 0x100 * n, 9, 1, 0, .rw⟩
def POS_IRQ_EN_hall_err (n : Nat) : Field := ⟨0x4130001C + 0x100 * n, 8, 1, 0, .rw⟩
def POS_IRQ_EN_idx_err (n : Nat) : Field := ⟨0x4130001C + 0x100 * n, 7, 1, 0, .rw⟩
def POS_IRQ_EN_glitch (n : Nat) : Field := ⟨0x4130001C + 0x100 * n, 6, 1, 0, .rw⟩
def POS_IRQ_EN_standstill_ev (n : Nat) : Field := ⟨0x4130001C + 0x100 * n, 5, 1, 0, .rw⟩
def POS_IRQ_EN_pos_ok (n : Nat) : Field := ⟨0x4130001C + 0x100 * n, 4, 1, 0, .rw⟩
def POS_IRQ_EN_pos_lost (n : Nat) : Field := ⟨0x4130001C + 0x100 * n, 3, 1, 0, .rw⟩
def POS_IRQ_EN_idx_ev (n : Nat) : Field := ⟨0x4130001C + 0x100 * n, 2, 1, 0, .rw⟩
def POS_IRQ_EN_dir_ev (n : Nat) : Field := ⟨0x4130001C + 0x100 * n, 1, 1, 0, .rw⟩
def POS_IRQ_EN_qerr (n : Nat) : Field := ⟨0x4130001C + 0x100 * n, 0, 1, 0, .rw⟩

/-- The register families of chapter 07. -/
def famPos0 : List Family := [
  ⟨"POS_CFG", 0x41300000, [(0x100, 2)], fun i _ => [POS_CFG_hall_extrap i, POS_CFG_ratio i, POS_CFG_idx_pol i, POS_CFG_idx_qual i, POS_CFG_idx_mode i, POS_CFG_dir_inv i, POS_CFG_mode i]⟩,
  ⟨"POS_CPR", 0x41300004, [(0x100, 2)], fun i _ => [POS_CPR_cpr i]⟩,
  ⟨"POS_OFFSET", 0x41300008, [(0x100, 2)], fun i _ => [POS_OFFSET_offset i]⟩,
  ⟨"POS_LIM", 0x4130000C, [(0x100, 2)], fun i _ => [POS_LIM_glitch i, POS_LIM_standstill i, POS_LIM_qerr_limit i]⟩,
  ⟨"POS_CTL", 0x41300010, [(0x100, 2)], fun i _ => [POS_CTL_ureset i, POS_CTL_clr_tot i, POS_CTL_rearm i, POS_CTL_snap i]⟩,
  ⟨"POS_STAT", 0x41300014, [(0x100, 2)], fun i _ => [POS_STAT_qerr_count i, POS_STAT_hall i, POS_STAT_src_ok i, POS_STAT_res_lock i, POS_STAT_idx_seen i, POS_STAT_dir i, POS_STAT_standstill i, POS_STAT_spd_valid i, POS_STAT_pos_valid i]⟩,
  ⟨"POS_FLAGS", 0x41300018, [(0x100, 2)], fun i _ => [POS_FLAGS_ser i, POS_FLAGS_src_err i, POS_FLAGS_frame i, POS_FLAGS_res_err i, POS_FLAGS_hall_err i, POS_FLAGS_idx_err i, POS_FLAGS_glitch i, POS_FLAGS_standstill_ev i, POS_FLAGS_pos_ok i, POS_FLAGS_pos_lost i, POS_FLAGS_idx_ev i, POS_FLAGS_dir_ev i, POS_FLAGS_qerr i]⟩,
  ⟨"POS_CNT", 0x41300020, [(0x100, 2)], fun i _ => [POS_CNT_cnt i]⟩,
  ⟨"POS_REV", 0x41300024, [(0x100, 2)], fun i _ => [POS_REV_rev i]⟩,
  ⟨"POS_SPEED", 0x41300028, [(0x100, 2)], fun i _ => [POS_SPEED_speed i]⟩,
  ⟨"POS_EDGE_TS", 0x4130002C, [(0x100, 2)], fun i _ => [POS_EDGE_TS_t_e i]⟩,
  ⟨"POS_ANGLE", 0x41300030, [(0x100, 2)], fun i _ => [POS_ANGLE_lat_ang i, POS_ANGLE_angle i]⟩,
  ⟨"POS_SNAP_ANG", 0x4130003C, [(0x100, 2)], fun i _ => [POS_SNAP_ANG_angle i]⟩,
  ⟨"POS_SNAP_TS", 0x41300040, [(0x100, 2)], fun i _ => [POS_SNAP_TS_t_e i]⟩,
  ⟨"POS_SNAP_SPD", 0x41300044, [(0x100, 2)], fun i _ => [POS_SNAP_SPD_speed i]⟩,
  ⟨"POS_SNAP_TNOW", 0x41300048, [(0x100, 2)], fun i _ => [POS_SNAP_TNOW_tick i]⟩,
  ⟨"POS_IDX_CNT", 0x4130004C, [(0x100, 2)], fun i _ => [POS_IDX_CNT_cnt i]⟩,
  ⟨"POS_IDX_TS", 0x41300050, [(0x100, 2)], fun i _ => [POS_IDX_TS_tick i]⟩,
  ⟨"POS_ERRTOT", 0x41300054, [(0x100, 2)], fun i _ => [POS_ERRTOT_glitch_total i, POS_ERRTOT_qerr_total i]⟩,
  ⟨"POS_HALL_CFG", 0x41300058, [(0x100, 2)], fun i _ => [POS_HALL_CFG_deb i]⟩,
  ⟨"POS_RES_CFG", 0x41300080, [(0x100, 2)], fun i _ => [POS_RES_CFG_phase i, POS_RES_CFG_amp i, POS_RES_CFG_mult i]⟩,
  ⟨"POS_RES_AMP", 0x41300088, [(0x100, 2)], fun i _ => [POS_RES_AMP_amp i]⟩,
  ⟨"POS_RES_WIN", 0x4130008C, [(0x100, 2)], fun i _ => [POS_RES_WIN_hi i, POS_RES_WIN_lo i]⟩,
  ⟨"POS_RES_ERR", 0x41300090, [(0x100, 2)], fun i _ => [POS_RES_ERR_err i]⟩,
  ⟨"POS_SENT_CFG", 0x413000C0, [(0x100, 2)], fun i _ => [POS_SENT_CFG_pos_nib i, POS_SENT_CFG_ser i, POS_SENT_CFG_crc_legacy i, POS_SENT_CFG_pause i, POS_SENT_CFG_nibbles i, POS_SENT_CFG_tick i]⟩,
  ⟨"POS_SENT_FAST", 0x413000C4, [(0x100, 2)], fun i _ => [POS_SENT_FAST_status i, POS_SENT_FAST_data i]⟩,
  ⟨"POS_SENT_TMO", 0x413000CC, [(0x100, 2)], fun i _ => [POS_SENT_TMO_age i, POS_SENT_TMO_timeout i]⟩,
  ⟨"POS_SENT_SER", 0x413000D0, [(0x100, 2)], fun i _ => [POS_SENT_SER_id i, POS_SENT_SER_type i, POS_SENT_SER_data i]⟩,
  ⟨"POS_SENT_ERR", 0x413000D4, [(0x100, 2)], fun i _ => [POS_SENT_ERR_crc_err i, POS_SENT_ERR_sync_err i, POS_SENT_ERR_ser_err i]⟩,
  ⟨"POS_FAB_CFG", 0x413000E8, [(0x100, 2)], fun i _ => [POS_FAB_CFG_age i, POS_FAB_CFG_port i, POS_FAB_CFG_timeout i]⟩]

def famPos1 : List Family := [
  ⟨"POS_HALL_ANG", 0x4130005C, [(0x100, 2), (0x4, 3)], fun i j => [POS_HALL_ANG_e_lo i j, POS_HALL_ANG_e_hi i j]⟩,
  ⟨"POS_SNAP_CNT", 0x41300034, [(0x100, 2)], fun i _ => [POS_SNAP_CNT_cnt i]⟩,
  ⟨"POS_SNAP_REV", 0x41300038, [(0x100, 2)], fun i _ => [POS_SNAP_REV_rev i]⟩,
  ⟨"POS_RES_BW", 0x41300084, [(0x100, 2)], fun i _ => [POS_RES_BW_v i]⟩,
  ⟨"POS_SENT_TS", 0x413000C8, [(0x100, 2)], fun i _ => [POS_SENT_TS_tick i]⟩,
  ⟨"POS_FAB_ANG", 0x413000E0, [(0x100, 2)], fun i _ => [POS_FAB_ANG_angle i]⟩,
  ⟨"POS_FAB_TS", 0x413000E4, [(0x100, 2)], fun i _ => [POS_FAB_TS_tick i]⟩,
  ⟨"POS_IRQ_EN", 0x4130001C, [(0x100, 2)], fun i _ => [POS_IRQ_EN_ser i, POS_IRQ_EN_src_err i, POS_IRQ_EN_frame i, POS_IRQ_EN_res_err i, POS_IRQ_EN_hall_err i, POS_IRQ_EN_idx_err i, POS_IRQ_EN_glitch i, POS_IRQ_EN_standstill_ev i, POS_IRQ_EN_pos_ok i, POS_IRQ_EN_pos_lost i, POS_IRQ_EN_idx_ev i, POS_IRQ_EN_dir_ev i, POS_IRQ_EN_qerr i]⟩]

def famPos : List Family := famPos0 ++ famPos1

end Sys2Proof.Machine.Reg
end

