-- ==== Sys2Proof/Machine/RegsPwm.lean ====
section
/-! DEFINITION. The register fields of chapter 09, from the register tables of the spec: address, lowest bit, width,
reset value and access type of each named field, and the list of register families with their fields. -/

namespace Sys2Proof.Machine.Reg

def PWM_S_PER_v (n : Nat) : Field := ⟨0x41000004 + 0x100 * n, 0, 18, 6250, .rwl⟩
def PWM_S_CMPA_v (n : Nat) : Field := ⟨0x41000008 + 0x100 * n, 0, 24, 16777215, .rws⟩
def PWM_S_CMPB_v (n : Nat) : Field := ⟨0x4100000C + 0x100 * n, 0, 24, 16777215, .rws⟩
def PWM_S_DTH_v (n : Nat) : Field := ⟨0x41000010 + 0x100 * n, 0, 24, 3200, .rwl⟩
def PWM_S_DTL_v (n : Nat) : Field := ⟨0x41000014 + 0x100 * n, 0, 24, 3200, .rwl⟩
def PWM_S_MINP_v (n : Nat) : Field := ⟨0x41000018 + 0x100 * n, 0, 24, 2560, .rwl⟩
def PWM_S_FLOOR_v (n : Nat) : Field := ⟨0x4100001C + 0x100 * n, 0, 24, 1280, .rwl⟩
def PWM_RELOAD_HOLD_v : Field := ⟨0x41001000, 0, 16, 0, .rw⟩
def PWM_HOLD_SET_v : Field := ⟨0x41001004, 0, 16, 0, .w1s⟩
def PWM_HOLD_CLR_v : Field := ⟨0x41001008, 0, 16, 0, .w1c⟩
def PWM_START_v : Field := ⟨0x4100100C, 0, 16, 0, .wo⟩
def PWM_S_CFG_leg (n : Nat) : Field := ⟨0x41000000 + 0x100 * n, 3, 1, if n < 6 then 1 else 0, .rwl⟩
def PWM_S_CFG_indep (n : Nat) : Field := ⟨0x41000000 + 0x100 * n, 2, 1, 0, .rwl⟩
def PWM_S_CFG_policy (n : Nat) : Field := ⟨0x41000000 + 0x100 * n, 1, 1, 0, .rwl⟩
def PWM_S_CFG_dbl (n : Nat) : Field := ⟨0x41000000 + 0x100 * n, 0, 1, 0, .rwl⟩
def PWM_S_FORCE_fl (n : Nat) : Field := ⟨0x41000030 + 0x100 * n, 2, 2, 0, .rw⟩
def PWM_S_FORCE_fh (n : Nat) : Field := ⟨0x41000030 + 0x100 * n, 0, 2, 0, .rw⟩
def PWM_S_BOOT_refresh (n : Nat) : Field := ⟨0x41000034 + 0x100 * n, 16, 12, 200, .rwl⟩
def PWM_S_BOOT_max_on (n : Nat) : Field := ⟨0x41000034 + 0x100 * n, 0, 16, 2000, .rwl⟩
def PWM_S_SYNC_phase (n : Nat) : Field := ⟨0x41000038 + 0x100 * n, 8, 18, 0, .rwl⟩
def PWM_S_SYNC_en (n : Nat) : Field := ⟨0x41000038 + 0x100 * n, 4, 1, 0, .rwl⟩
def PWM_S_SYNC_src (n : Nat) : Field := ⟨0x41000038 + 0x100 * n, 0, 4, 0, .rwl⟩
def PWM_S_CTL_ureset (n : Nat) : Field := ⟨0x4100003C + 0x100 * n, 2, 1, 0, .wo⟩
def PWM_S_CTL_stop (n : Nat) : Field := ⟨0x4100003C + 0x100 * n, 1, 1, 0, .wo⟩
def PWM_S_CTL_run (n : Nat) : Field := ⟨0x4100003C + 0x100 * n, 0, 1, 0, .wo⟩
def PWM_S_STAT_fine (n : Nat) : Field := ⟨0x41000040 + 0x100 * n, 17, 1, 0, .ro⟩
def PWM_S_STAT_late_write (n : Nat) : Field := ⟨0x41000040 + 0x100 * n, 16, 1, 0, .w1c⟩
def PWM_S_STAT_hiz (n : Nat) : Field := ⟨0x41000040 + 0x100 * n, 15, 1, if n < 6 then 0 else 1, .ro⟩
def PWM_S_STAT_floor_lk (n : Nat) : Field := ⟨0x41000040 + 0x100 * n, 14, 1, 0, .ro⟩
def PWM_S_STAT_shoot_now (n : Nat) : Field := ⟨0x41000040 + 0x100 * n, 13, 1, 0, .ro⟩
def PWM_S_STAT_hold (n : Nat) : Field := ⟨0x41000040 + 0x100 * n, 12, 1, 0, .ro⟩
def PWM_S_STAT_boot (n : Nat) : Field := ⟨0x41000040 + 0x100 * n, 11, 1, 0, .ro⟩
def PWM_S_STAT_ovr (n : Nat) : Field := ⟨0x41000040 + 0x100 * n, 9, 2, 0, .ro⟩
def PWM_S_STAT_pattern (n : Nat) : Field := ⟨0x41000040 + 0x100 * n, 6, 3, 0, .ro⟩
def PWM_S_STAT_carrier (n : Nat) : Field := ⟨0x41000040 + 0x100 * n, 4, 2, 0, .ro⟩
def PWM_S_STAT_running (n : Nat) : Field := ⟨0x41000040 + 0x100 * n, 3, 1, 0, .ro⟩
def PWM_S_STAT_gate_en (n : Nat) : Field := ⟨0x41000040 + 0x100 * n, 2, 1, 0, .ro⟩
def PWM_S_STAT_l_now (n : Nat) : Field := ⟨0x41000040 + 0x100 * n, 1, 1, 0, .ro⟩
def PWM_S_STAT_h_now (n : Nat) : Field := ⟨0x41000040 + 0x100 * n, 0, 1, 0, .ro⟩
def PWM_S_FLAGS_sync_bad (n : Nat) : Field := ⟨0x41000044 + 0x100 * n, 13, 1, 0, .w1c⟩
def PWM_S_FLAGS_hold_long (n : Nat) : Field := ⟨0x41000044 + 0x100 * n, 12, 1, 0, .w1c⟩
def PWM_S_FLAGS_tl_state (n : Nat) : Field := ⟨0x41000044 + 0x100 * n, 11, 1, 0, .w1c⟩
def PWM_S_FLAGS_shoot (n : Nat) : Field := ⟨0x41000044 + 0x100 * n, 10, 1, 0, .w1c⟩
def PWM_S_FLAGS_boot_low (n : Nat) : Field := ⟨0x41000044 + 0x100 * n, 9, 1, 0, .w1c⟩
def PWM_S_FLAGS_bs_refresh (n : Nat) : Field := ⟨0x41000044 + 0x100 * n, 8, 1, 0, .w1c⟩
def PWM_S_FLAGS_extend (n : Nat) : Field := ⟨0x41000044 + 0x100 * n, 7, 1, 0, .w1c⟩
def PWM_S_FLAGS_drop (n : Nat) : Field := ⟨0x41000044 + 0x100 * n, 6, 1, 0, .w1c⟩
def PWM_S_FLAGS_trig (n : Nat) : Field := ⟨0x41000044 + 0x100 * n, 2, 4, 0, .w1c⟩
def PWM_S_FLAGS_peak_ev (n : Nat) : Field := ⟨0x41000044 + 0x100 * n, 1, 1, 0, .w1c⟩
def PWM_S_FLAGS_valley_ev (n : Nat) : Field := ⟨0x41000044 + 0x100 * n, 0, 1, 0, .w1c⟩
def PWM_S_VSERR_vserr (n : Nat) : Field := ⟨0x4100004C + 0x100 * n, 0, 32, 0, .ro⟩
def PWM_S_CNT_periods (n : Nat) : Field := ⟨0x41000050 + 0x100 * n, 24, 8, 0, .ro⟩
def PWM_S_CNT_half (n : Nat) : Field := ⟨0x41000050 + 0x100 * n, 18, 1, 0, .ro⟩
def PWM_S_CNT_cnt (n : Nat) : Field := ⟨0x41000050 + 0x100 * n, 0, 18, 0, .ro⟩
def PWM_S_ACTA_cmpa (n : Nat) : Field := ⟨0x41000054 + 0x100 * n, 0, 24, 0, .ro⟩
def PWM_S_ACTB_cmpb (n : Nat) : Field := ⟨0x41000058 + 0x100 * n, 0, 24, 0, .ro⟩
def PWM_CAL_count : Field := ⟨0x41001010, 16, 16, 0, .ro⟩
def PWM_CAL_discards : Field := ⟨0x41001010, 12, 4, 0, .ro⟩
def PWM_CAL_stale : Field := ⟨0x41001010, 8, 1, 0, .ro⟩
def PWM_CAL_valid : Field := ⟨0x41001010, 7, 1, 0, .ro⟩
def PWM_CAL_taps : Field := ⟨0x41001010, 0, 7, 0, .ro⟩
def PWM_XHIZ_release : Field := ⟨0x41001014, 8, 1, 0, .w1s⟩
def PWM_XHIZ_hiz : Field := ⟨0x41001014, 1, 1, 1, .ro⟩
def PWM_XHIZ_flt_now : Field := ⟨0x41001014, 0, 1, 0, .ro⟩
def PWM_GFLAGS_flt_ev : Field := ⟨0x41001018, 1, 1, 0, .w1c⟩
def PWM_GFLAGS_cal_fail : Field := ⟨0x41001018, 0, 1, 0, .w1c⟩
def PWM_TL_STAT_state (p : Nat) : Field := ⟨0x41001020, 4*p, 4, 0, .ro⟩
def PWM_TL_STAT_bad : Field := ⟨0x41001020, 12, 3, 0, .ro⟩
def PWM_S_TRIG_dir (n : Nat) (j : Nat) : Field := ⟨0x41000020 + 0x100 * n + 0x4 * j, 20, 2, if j = 0 ∨ j = 1 then 2 else 3, .rws⟩
def PWM_S_TRIG_val (n : Nat) (j : Nat) : Field := ⟨0x41000020 + 0x100 * n + 0x4 * j, 0, 18, if j = 1 then 262143 else 0, .rws⟩
def PWM_S_IRQ_EN_sync_bad (n : Nat) : Field := ⟨0x41000048 + 0x100 * n, 13, 1, 0, .rw⟩
def PWM_S_IRQ_EN_hold_long (n : Nat) : Field := ⟨0x41000048 + 0x100 * n, 12, 1, 0, .rw⟩
def PWM_S_IRQ_EN_tl_state (n : Nat) : Field := ⟨0x41000048 + 0x100 * n, 11, 1, 0, .rw⟩
def PWM_S_IRQ_EN_shoot (n : Nat) : Field := ⟨0x41000048 + 0x100 * n, 10, 1, 0, .rw⟩
def PWM_S_IRQ_EN_boot_low (n : Nat) : Field := ⟨0x41000048 + 0x100 * n, 9, 1, 0, .rw⟩
def PWM_S_IRQ_EN_bs_refresh (n : Nat) : Field := ⟨0x41000048 + 0x100 * n, 8, 1, 0, .rw⟩
def PWM_S_IRQ_EN_extend (n : Nat) : Field := ⟨0x41000048 + 0x100 * n, 7, 1, 0, .rw⟩
def PWM_S_IRQ_EN_drop (n : Nat) : Field := ⟨0x41000048 + 0x100 * n, 6, 1, 0, .rw⟩
def PWM_S_IRQ_EN_trig (n : Nat) : Field := ⟨0x41000048 + 0x100 * n, 2, 4, 0, .rw⟩
def PWM_S_IRQ_EN_peak_ev (n : Nat) : Field := ⟨0x41000048 + 0x100 * n, 1, 1, 0, .rw⟩
def PWM_S_IRQ_EN_valley_ev (n : Nat) : Field := ⟨0x41000048 + 0x100 * n, 0, 1, 0, .rw⟩
def PWM_GIRQ_EN_flt_ev : Field := ⟨0x4100101C, 1, 1, 0, .rw⟩
def PWM_GIRQ_EN_cal_fail : Field := ⟨0x4100101C, 0, 1, 0, .rw⟩

/-- The register families of chapter 09. -/
def famPwm0 : List Family := [
  ⟨"PWM_S_PER", 0x41000004, [(0x100, 16)], fun i _ => [PWM_S_PER_v i]⟩,
  ⟨"PWM_S_CMPA", 0x41000008, [(0x100, 16)], fun i _ => [PWM_S_CMPA_v i]⟩,
  ⟨"PWM_S_CMPB", 0x4100000C, [(0x100, 16)], fun i _ => [PWM_S_CMPB_v i]⟩,
  ⟨"PWM_S_DTH", 0x41000010, [(0x100, 16)], fun i _ => [PWM_S_DTH_v i]⟩,
  ⟨"PWM_S_DTL", 0x41000014, [(0x100, 16)], fun i _ => [PWM_S_DTL_v i]⟩,
  ⟨"PWM_S_MINP", 0x41000018, [(0x100, 16)], fun i _ => [PWM_S_MINP_v i]⟩,
  ⟨"PWM_S_FLOOR", 0x4100001C, [(0x100, 16)], fun i _ => [PWM_S_FLOOR_v i]⟩,
  ⟨"PWM_RELOAD_HOLD", 0x41001000, [], fun _ _ => [PWM_RELOAD_HOLD_v]⟩,
  ⟨"PWM_HOLD_SET", 0x41001004, [], fun _ _ => [PWM_HOLD_SET_v]⟩,
  ⟨"PWM_HOLD_CLR", 0x41001008, [], fun _ _ => [PWM_HOLD_CLR_v]⟩,
  ⟨"PWM_START", 0x4100100C, [], fun _ _ => [PWM_START_v]⟩,
  ⟨"PWM_S_CFG", 0x41000000, [(0x100, 16)], fun i _ => [PWM_S_CFG_leg i, PWM_S_CFG_indep i, PWM_S_CFG_policy i, PWM_S_CFG_dbl i]⟩,
  ⟨"PWM_S_FORCE", 0x41000030, [(0x100, 16)], fun i _ => [PWM_S_FORCE_fl i, PWM_S_FORCE_fh i]⟩,
  ⟨"PWM_S_BOOT", 0x41000034, [(0x100, 16)], fun i _ => [PWM_S_BOOT_refresh i, PWM_S_BOOT_max_on i]⟩,
  ⟨"PWM_S_SYNC", 0x41000038, [(0x100, 16)], fun i _ => [PWM_S_SYNC_phase i, PWM_S_SYNC_en i, PWM_S_SYNC_src i]⟩,
  ⟨"PWM_S_CTL", 0x4100003C, [(0x100, 16)], fun i _ => [PWM_S_CTL_ureset i, PWM_S_CTL_stop i, PWM_S_CTL_run i]⟩,
  ⟨"PWM_S_STAT", 0x41000040, [(0x100, 16)], fun i _ => [PWM_S_STAT_fine i, PWM_S_STAT_late_write i, PWM_S_STAT_hiz i, PWM_S_STAT_floor_lk i, PWM_S_STAT_shoot_now i, PWM_S_STAT_hold i, PWM_S_STAT_boot i, PWM_S_STAT_ovr i, PWM_S_STAT_pattern i, PWM_S_STAT_carrier i, PWM_S_STAT_running i, PWM_S_STAT_gate_en i, PWM_S_STAT_l_now i, PWM_S_STAT_h_now i]⟩,
  ⟨"PWM_S_FLAGS", 0x41000044, [(0x100, 16)], fun i _ => [PWM_S_FLAGS_sync_bad i, PWM_S_FLAGS_hold_long i, PWM_S_FLAGS_tl_state i, PWM_S_FLAGS_shoot i, PWM_S_FLAGS_boot_low i, PWM_S_FLAGS_bs_refresh i, PWM_S_FLAGS_extend i, PWM_S_FLAGS_drop i, PWM_S_FLAGS_trig i, PWM_S_FLAGS_peak_ev i, PWM_S_FLAGS_valley_ev i]⟩,
  ⟨"PWM_S_VSERR", 0x4100004C, [(0x100, 16)], fun i _ => [PWM_S_VSERR_vserr i]⟩,
  ⟨"PWM_S_CNT", 0x41000050, [(0x100, 16)], fun i _ => [PWM_S_CNT_periods i, PWM_S_CNT_half i, PWM_S_CNT_cnt i]⟩,
  ⟨"PWM_S_ACTA", 0x41000054, [(0x100, 16)], fun i _ => [PWM_S_ACTA_cmpa i]⟩,
  ⟨"PWM_S_ACTB", 0x41000058, [(0x100, 16)], fun i _ => [PWM_S_ACTB_cmpb i]⟩,
  ⟨"PWM_CAL", 0x41001010, [], fun _ _ => [PWM_CAL_count, PWM_CAL_discards, PWM_CAL_stale, PWM_CAL_valid, PWM_CAL_taps]⟩,
  ⟨"PWM_XHIZ", 0x41001014, [], fun _ _ => [PWM_XHIZ_release, PWM_XHIZ_hiz, PWM_XHIZ_flt_now]⟩,
  ⟨"PWM_GFLAGS", 0x41001018, [], fun _ _ => [PWM_GFLAGS_flt_ev, PWM_GFLAGS_cal_fail]⟩,
  ⟨"PWM_TL_STAT", 0x41001020, [], fun _ _ => [PWM_TL_STAT_state 0, PWM_TL_STAT_state 1, PWM_TL_STAT_state 2, PWM_TL_STAT_bad]⟩,
  ⟨"PWM_S_TRIG", 0x41000020, [(0x100, 16), (0x4, 4)], fun i j => [PWM_S_TRIG_dir i j, PWM_S_TRIG_val i j]⟩,
  ⟨"PWM_S_IRQ_EN", 0x41000048, [(0x100, 16)], fun i _ => [PWM_S_IRQ_EN_sync_bad i, PWM_S_IRQ_EN_hold_long i, PWM_S_IRQ_EN_tl_state i, PWM_S_IRQ_EN_shoot i, PWM_S_IRQ_EN_boot_low i, PWM_S_IRQ_EN_bs_refresh i, PWM_S_IRQ_EN_extend i, PWM_S_IRQ_EN_drop i, PWM_S_IRQ_EN_trig i, PWM_S_IRQ_EN_peak_ev i, PWM_S_IRQ_EN_valley_ev i]⟩,
  ⟨"PWM_GIRQ_EN", 0x4100101C, [], fun _ _ => [PWM_GIRQ_EN_flt_ev, PWM_GIRQ_EN_cal_fail]⟩]

def famPwm : List Family := famPwm0

end Sys2Proof.Machine.Reg
end

