-- ==== Sys2Proof/Machine/RegsRing.lean ====
section
/-! DEFINITION. The register fields of chapter 16, from the register tables of the spec: address, lowest bit, width,
reset value and access type of each named field, and the list of register families with their fields. -/

namespace Sys2Proof.Machine.Reg

def RING_CFG_cycle : Field := ⟨0x41700000, 16, 10, 100, .rwe⟩
def RING_CFG_nmax : Field := ⟨0x41700000, 8, 5, 31, .rwe⟩
def RING_CFG_sp_to : Field := ⟨0x41700000, 4, 4, 3, .rwe⟩
def RING_CFG_fo_en : Field := ⟨0x41700000, 3, 1, 1, .rwe⟩
def RING_CFG_stt_en : Field := ⟨0x41700000, 2, 1, 0, .rwe⟩
def RING_CTL_ureset : Field := ⟨0x41700004, 2, 1, 0, .w1s⟩
def RING_CTL_clr_err : Field := ⟨0x41700004, 1, 1, 0, .w1s⟩
def RING_CTL_en : Field := ⟨0x41700004, 0, 1, 0, .rw⟩
def RING_STAT_loop : Field := ⟨0x41700008, 24, 8, 0, .ro⟩
def RING_STAT_hops_mgr : Field := ⟨0x41700008, 16, 8, 0, .ro⟩
def RING_STAT_node : Field := ⟨0x41700008, 11, 5, 0, .ro⟩
def RING_STAT_role : Field := ⟨0x41700008, 9, 2, 0, .ro⟩
def RING_STAT_wrapped : Field := ⟨0x41700008, 8, 1, 0, .ro⟩
def RING_STAT_rx_b_ok : Field := ⟨0x41700008, 7, 1, 0, .ro⟩
def RING_STAT_rx_a_ok : Field := ⟨0x41700008, 6, 1, 0, .ro⟩
def RING_STAT_mgr_seen : Field := ⟨0x41700008, 5, 1, 0, .ro⟩
def RING_STAT_dup : Field := ⟨0x41700008, 4, 1, 0, .ro⟩
def RING_STAT_state : Field := ⟨0x41700008, 0, 3, 0, .ro⟩
def RING_EPOCH_own : Field := ⟨0x41700014, 16, 16, 0, .ro⟩
def RING_EPOCH_seen : Field := ⟨0x41700014, 0, 16, 0, .ro⟩
def RING_COUNT_count : Field := ⟨0x41700018, 0, 32, 0, .ro⟩
def RING_PRESENT_present : Field := ⟨0x4170001C, 0, 32, 0, .ro⟩
def RING_LOST_lost : Field := ⟨0x41700020, 0, 32, 0, .w1c⟩
def RING_ERR_crc_a : Field := ⟨0x41700024, 24, 8, 0, .ro⟩
def RING_ERR_crc_b : Field := ⟨0x41700024, 16, 8, 0, .ro⟩
def RING_ERR_sym : Field := ⟨0x41700024, 8, 8, 0, .ro⟩
def RING_ERR_drop : Field := ⟨0x41700024, 0, 8, 0, .ro⟩
def RING_FLAGS_overlen : Field := ⟨0x4170000C, 13, 1, 0, .w1c⟩
def RING_FLAGS_cycle_bad : Field := ⟨0x4170000C, 12, 1, 0, .w1c⟩
def RING_FLAGS_node_dup : Field := ⟨0x4170000C, 11, 1, 0, .w1c⟩
def RING_FLAGS_epoch_rej : Field := ⟨0x4170000C, 10, 1, 0, .w1c⟩
def RING_FLAGS_msg_rx : Field := ⟨0x4170000C, 9, 1, 0, .w1c⟩
def RING_FLAGS_msg_fail : Field := ⟨0x4170000C, 8, 1, 0, .w1c⟩
def RING_FLAGS_msg_done : Field := ⟨0x4170000C, 7, 1, 0, .w1c⟩
def RING_FLAGS_sp_stale : Field := ⟨0x4170000C, 6, 1, 0, .w1c⟩
def RING_FLAGS_demoted : Field := ⟨0x4170000C, 5, 1, 0, .w1c⟩
def RING_FLAGS_failover : Field := ⟨0x4170000C, 4, 1, 0, .w1c⟩
def RING_FLAGS_path_fault : Field := ⟨0x4170000C, 3, 1, 0, .w1c⟩
def RING_FLAGS_node_ev : Field := ⟨0x4170000C, 2, 1, 0, .w1c⟩
def RING_FLAGS_heal_ev : Field := ⟨0x4170000C, 1, 1, 0, .w1c⟩
def RING_FLAGS_break_ev : Field := ⟨0x4170000C, 0, 1, 0, .w1c⟩
def RING_MGR_CFG_bank : Field := ⟨0x41700030, 8, 1, 0, .rw⟩
def RING_MGR_CFG_fresh_to : Field := ⟨0x41700030, 4, 4, 4, .rw⟩
def RING_MGR_CFG_porch_act : Field := ⟨0x41700030, 0, 4, 0, .rw⟩
def RING_SPT_BASE_addr : Field := ⟨0x41700034, 11, 21, 0, .rw⟩
def RING_STT_BASE_addr : Field := ⟨0x41700038, 11, 21, 0, .rw⟩
def RING_MSG_CFG_en : Field := ⟨0x41700040, 31, 1, 0, .rw⟩
def RING_MSG_CFG_ack_to : Field := ⟨0x41700040, 16, 8, 100, .rw⟩
def RING_MSG_CFG_rx_base : Field := ⟨0x41700040, 0, 10, 0, .rw⟩
def RING_C_CMD_cmd (k : Nat) : Field := ⟨0x41700100 + 0x10 * k, 0, 32, 0, .ro⟩
def RING_C_LIM_lim (k : Nat) : Field := ⟨0x41700104 + 0x10 * k, 0, 32, 2139095039, .ro⟩
def RING_C_SLIM_slim (k : Nat) : Field := ⟨0x41700108 + 0x10 * k, 0, 32, 2139095039, .rw⟩
def RING_C_STAT_epoch (k : Nat) : Field := ⟨0x4170010C + 0x10 * k, 16, 16, 0, .ro⟩
def RING_C_STAT_age (k : Nat) : Field := ⟨0x4170010C + 0x10 * k, 8, 8, 0, .ro⟩
def RING_C_STAT_stale (k : Nat) : Field := ⟨0x4170010C + 0x10 * k, 1, 1, 0, .ro⟩
def RING_C_STAT_valid (k : Nat) : Field := ⟨0x4170010C + 0x10 * k, 0, 1, 0, .ro⟩
def RING_TX_CTL_start (m : Nat) : Field := ⟨0x41700200 + 0x10 * m, 31, 1, 0, .w1s⟩
def RING_TX_CTL_abort (m : Nat) : Field := ⟨0x41700200 + 0x10 * m, 30, 1, 0, .w1s⟩
def RING_TX_CTL_dst (m : Nat) : Field := ⟨0x41700200 + 0x10 * m, 24, 6, 0, .rw⟩
def RING_TX_CTL_len (m : Nat) : Field := ⟨0x41700200 + 0x10 * m, 10, 11, 0, .rw⟩
def RING_TX_CTL_buf (m : Nat) : Field := ⟨0x41700200 + 0x10 * m, 0, 10, 0, .rw⟩
def RING_TX_STAT_tries (m : Nat) : Field := ⟨0x41700204 + 0x10 * m, 8, 2, 0, .ro⟩
def RING_TX_STAT_status (m : Nat) : Field := ⟨0x41700204 + 0x10 * m, 0, 4, 0, .ro⟩
def RING_RX_STAT_full (r : Nat) : Field := ⟨0x41700240 + 0x4 * r, 31, 1, 0, .w1c⟩
def RING_RX_STAT_src (r : Nat) : Field := ⟨0x41700240 + 0x4 * r, 24, 5, 0, .ro⟩
def RING_RX_STAT_len (r : Nat) : Field := ⟨0x41700240 + 0x4 * r, 0, 11, 0, .ro⟩
def TWIN_CFG_en : Field := ⟨0x41710000, 31, 1, 0, .rw⟩
def TWIN_CFG_len : Field := ⟨0x41710000, 0, 16, 0, .rw⟩
def TWIN_STAT_seq : Field := ⟨0x41710010, 16, 16, 0, .ro⟩
def TWIN_STAT_bank : Field := ⟨0x41710010, 8, 1, 0, .ro⟩
def TWIN_STAT_sig : Field := ⟨0x41710010, 7, 1, 0, .ro⟩
def TWIN_STAT_hb : Field := ⟨0x41710010, 6, 1, 0, .ro⟩
def TWIN_STAT_busy : Field := ⟨0x41710010, 5, 1, 0, .ro⟩
def TWIN_STAT_peer : Field := ⟨0x41710010, 0, 2, 0, .ro⟩
def TWIN_FLAGS_ev : Field := ⟨0x41710014, 0, 5, 0, .w1c⟩
def TWIN_IRQ_EN_en : Field := ⟨0x41710018, 0, 5, 0, .rw⟩
def TWIN_ERR_crc : Field := ⟨0x4171001C, 16, 16, 0, .ro⟩
def TWIN_ERR_hb_miss : Field := ⟨0x4171001C, 0, 16, 0, .ro⟩
def TWIN_SRC_addr : Field := ⟨0x41710004, 2, 30, 0, .rw⟩
def TWIN_DST0_addr : Field := ⟨0x41710008, 2, 30, 0, .rw⟩
def TWIN_DST1_addr : Field := ⟨0x4171000C, 2, 30, 0, .rw⟩
def RING_IRQ_EN_overlen : Field := ⟨0x41700010, 13, 1, 0, .rw⟩
def RING_IRQ_EN_cycle_bad : Field := ⟨0x41700010, 12, 1, 0, .rw⟩
def RING_IRQ_EN_node_dup : Field := ⟨0x41700010, 11, 1, 0, .rw⟩
def RING_IRQ_EN_epoch_rej : Field := ⟨0x41700010, 10, 1, 0, .rw⟩
def RING_IRQ_EN_msg_rx : Field := ⟨0x41700010, 9, 1, 0, .rw⟩
def RING_IRQ_EN_msg_fail : Field := ⟨0x41700010, 8, 1, 0, .rw⟩
def RING_IRQ_EN_msg_done : Field := ⟨0x41700010, 7, 1, 0, .rw⟩
def RING_IRQ_EN_sp_stale : Field := ⟨0x41700010, 6, 1, 0, .rw⟩
def RING_IRQ_EN_demoted : Field := ⟨0x41700010, 5, 1, 0, .rw⟩
def RING_IRQ_EN_failover : Field := ⟨0x41700010, 4, 1, 0, .rw⟩
def RING_IRQ_EN_path_fault : Field := ⟨0x41700010, 3, 1, 0, .rw⟩
def RING_IRQ_EN_node_ev : Field := ⟨0x41700010, 2, 1, 0, .rw⟩
def RING_IRQ_EN_heal_ev : Field := ⟨0x41700010, 1, 1, 0, .rw⟩
def RING_IRQ_EN_break_ev : Field := ⟨0x41700010, 0, 1, 0, .rw⟩

/-- The register families of chapter 16. -/
def famRing0 : List Family := [
  ⟨"RING_CFG", 0x41700000, [], fun _ _ => [RING_CFG_cycle, RING_CFG_nmax, RING_CFG_sp_to, RING_CFG_fo_en, RING_CFG_stt_en]⟩,
  ⟨"RING_CTL", 0x41700004, [], fun _ _ => [RING_CTL_ureset, RING_CTL_clr_err, RING_CTL_en]⟩,
  ⟨"RING_STAT", 0x41700008, [], fun _ _ => [RING_STAT_loop, RING_STAT_hops_mgr, RING_STAT_node, RING_STAT_role, RING_STAT_wrapped, RING_STAT_rx_b_ok, RING_STAT_rx_a_ok, RING_STAT_mgr_seen, RING_STAT_dup, RING_STAT_state]⟩,
  ⟨"RING_EPOCH", 0x41700014, [], fun _ _ => [RING_EPOCH_own, RING_EPOCH_seen]⟩,
  ⟨"RING_COUNT", 0x41700018, [], fun _ _ => [RING_COUNT_count]⟩,
  ⟨"RING_PRESENT", 0x4170001C, [], fun _ _ => [RING_PRESENT_present]⟩,
  ⟨"RING_LOST", 0x41700020, [], fun _ _ => [RING_LOST_lost]⟩,
  ⟨"RING_ERR", 0x41700024, [], fun _ _ => [RING_ERR_crc_a, RING_ERR_crc_b, RING_ERR_sym, RING_ERR_drop]⟩,
  ⟨"RING_FLAGS", 0x4170000C, [], fun _ _ => [RING_FLAGS_overlen, RING_FLAGS_cycle_bad, RING_FLAGS_node_dup, RING_FLAGS_epoch_rej, RING_FLAGS_msg_rx, RING_FLAGS_msg_fail, RING_FLAGS_msg_done, RING_FLAGS_sp_stale, RING_FLAGS_demoted, RING_FLAGS_failover, RING_FLAGS_path_fault, RING_FLAGS_node_ev, RING_FLAGS_heal_ev, RING_FLAGS_break_ev]⟩,
  ⟨"RING_MGR_CFG", 0x41700030, [], fun _ _ => [RING_MGR_CFG_bank, RING_MGR_CFG_fresh_to, RING_MGR_CFG_porch_act]⟩,
  ⟨"RING_SPT_BASE", 0x41700034, [], fun _ _ => [RING_SPT_BASE_addr]⟩,
  ⟨"RING_STT_BASE", 0x41700038, [], fun _ _ => [RING_STT_BASE_addr]⟩,
  ⟨"RING_MSG_CFG", 0x41700040, [], fun _ _ => [RING_MSG_CFG_en, RING_MSG_CFG_ack_to, RING_MSG_CFG_rx_base]⟩,
  ⟨"RING_C_CMD", 0x41700100, [(0x10, 4)], fun i _ => [RING_C_CMD_cmd i]⟩,
  ⟨"RING_C_LIM", 0x41700104, [(0x10, 4)], fun i _ => [RING_C_LIM_lim i]⟩,
  ⟨"RING_C_SLIM", 0x41700108, [(0x10, 4)], fun i _ => [RING_C_SLIM_slim i]⟩,
  ⟨"RING_C_STAT", 0x4170010C, [(0x10, 4)], fun i _ => [RING_C_STAT_epoch i, RING_C_STAT_age i, RING_C_STAT_stale i, RING_C_STAT_valid i]⟩,
  ⟨"RING_TX_CTL", 0x41700200, [(0x10, 4)], fun i _ => [RING_TX_CTL_start i, RING_TX_CTL_abort i, RING_TX_CTL_dst i, RING_TX_CTL_len i, RING_TX_CTL_buf i]⟩,
  ⟨"RING_TX_STAT", 0x41700204, [(0x10, 4)], fun i _ => [RING_TX_STAT_tries i, RING_TX_STAT_status i]⟩,
  ⟨"RING_RX_STAT", 0x41700240, [(0x4, 4)], fun i _ => [RING_RX_STAT_full i, RING_RX_STAT_src i, RING_RX_STAT_len i]⟩,
  ⟨"TWIN_CFG", 0x41710000, [], fun _ _ => [TWIN_CFG_en, TWIN_CFG_len]⟩,
  ⟨"TWIN_STAT", 0x41710010, [], fun _ _ => [TWIN_STAT_seq, TWIN_STAT_bank, TWIN_STAT_sig, TWIN_STAT_hb, TWIN_STAT_busy, TWIN_STAT_peer]⟩,
  ⟨"TWIN_FLAGS", 0x41710014, [], fun _ _ => [TWIN_FLAGS_ev]⟩,
  ⟨"TWIN_IRQ_EN", 0x41710018, [], fun _ _ => [TWIN_IRQ_EN_en]⟩,
  ⟨"TWIN_ERR", 0x4171001C, [], fun _ _ => [TWIN_ERR_crc, TWIN_ERR_hb_miss]⟩,
  ⟨"TWIN_SRC", 0x41710004, [], fun _ _ => [TWIN_SRC_addr]⟩,
  ⟨"TWIN_DST0", 0x41710008, [], fun _ _ => [TWIN_DST0_addr]⟩,
  ⟨"TWIN_DST1", 0x4171000C, [], fun _ _ => [TWIN_DST1_addr]⟩,
  ⟨"RING_IRQ_EN", 0x41700010, [], fun _ _ => [RING_IRQ_EN_overlen, RING_IRQ_EN_cycle_bad, RING_IRQ_EN_node_dup, RING_IRQ_EN_epoch_rej, RING_IRQ_EN_msg_rx, RING_IRQ_EN_msg_fail, RING_IRQ_EN_msg_done, RING_IRQ_EN_sp_stale, RING_IRQ_EN_demoted, RING_IRQ_EN_failover, RING_IRQ_EN_path_fault, RING_IRQ_EN_node_ev, RING_IRQ_EN_heal_ev, RING_IRQ_EN_break_ev]⟩]

def famRing : List Family := famRing0

end Sys2Proof.Machine.Reg
end

