-- ==== Sys2Proof/Machine/RegsSafe.lean ====
section
/-! DEFINITION. The register fields of chapter 11, from the register tables of the spec: address, lowest bit, width,
reset value and access type of each named field, and the list of register families with their fields. -/

namespace Sys2Proof.Machine.Reg

def SAFE_DIS_TGT_v : Field := ⟨0x41400024, 0, 32, 1114636288, .rwl⟩
def SAFE_OV1_v : Field := ⟨0x41400028, 0, 32, 0, .rwl⟩
def SAFE_OV2_v : Field := ⟨0x4140002C, 0, 32, 0, .rwl⟩
def SAFE_VDC_HI_v : Field := ⟨0x41400044, 0, 32, 0, .ro⟩
def SAFE_C_SPD_v (k : Nat) : Field := ⟨0x4140010C + 0x40 * k, 0, 32, 0, .ro⟩
def SAFE_C_WTH_v (k : Nat) : Field := ⟨0x41400110 + 0x40 * k, 0, 32, 0, .ro⟩
def SAFE_C_KE_v (k : Nat) : Field := ⟨0x41400114 + 0x40 * k, 0, 32, 0, .rwl⟩
def SAFE_C_VDC_FB_v (k : Nat) : Field := ⟨0x41400118 + 0x40 * k, 0, 32, 0, .rwl⟩
def SAFE_C_TQ_TOL_v (k : Nat) : Field := ⟨0x4140011C + 0x40 * k, 0, 32, 0, .rwl⟩
def SAFE_C_TQ_EST_v (k : Nat) : Field := ⟨0x41400120 + 0x40 * k, 0, 32, 0, .ro⟩
def SAFE_C_SLS_v (k : Nat) : Field := ⟨0x41400124 + 0x40 * k, 0, 32, 0, .rwl⟩
def SAFE_STAT_split_b : Field := ⟨0x41400000, 14, 1, 0, .ro⟩
def SAFE_STAT_split_a : Field := ⟨0x41400000, 13, 1, 0, .ro⟩
def SAFE_STAT_vdc_none : Field := ⟨0x41400000, 12, 1, 0, .ro⟩
def SAFE_STAT_regen_zero : Field := ⟨0x41400000, 11, 1, 0, .ro⟩
def SAFE_STAT_chop_on : Field := ⟨0x41400000, 10, 1, 0, .ro⟩
def SAFE_STAT_ov : Field := ⟨0x41400000, 8, 2, 0, .ro⟩
def SAFE_STAT_safe_ok_b : Field := ⟨0x41400000, 7, 1, 0, .ro⟩
def SAFE_STAT_safe_ok_a : Field := ⟨0x41400000, 6, 1, 0, .ro⟩
def SAFE_STAT_iso_en_b : Field := ⟨0x41400000, 5, 1, 0, .ro⟩
def SAFE_STAT_iso_en_a : Field := ⟨0x41400000, 4, 1, 0, .ro⟩
def SAFE_STAT_sto_disc : Field := ⟨0x41400000, 3, 1, 0, .ro⟩
def SAFE_STAT_flt_low : Field := ⟨0x41400000, 2, 1, 0, .ro⟩
def SAFE_STAT_sto_b : Field := ⟨0x41400000, 1, 1, 0, .ro⟩
def SAFE_STAT_sto_a : Field := ⟨0x41400000, 0, 1, 0, .ro⟩
def SAFE_FLAGS_asc_blocked : Field := ⟨0x41400004, 15, 1, 0, .w1c⟩
def SAFE_FLAGS_inj_fail : Field := ⟨0x41400004, 14, 1, 0, .w1c⟩
def SAFE_FLAGS_lockstep : Field := ⟨0x41400004, 13, 1, 0, .w1c⟩
def SAFE_FLAGS_pc_ev : Field := ⟨0x41400004, 12, 1, 0, .w1c⟩
def SAFE_FLAGS_dis_fail : Field := ⟨0x41400004, 11, 1, 0, .w1c⟩
def SAFE_FLAGS_dis_done : Field := ⟨0x41400004, 10, 1, 0, .w1c⟩
def SAFE_FLAGS_ctr_done : Field := ⟨0x41400004, 9, 1, 0, .w1c⟩
def SAFE_FLAGS_ctr_ev : Field := ⟨0x41400004, 8, 1, 0, .w1c⟩
def SAFE_FLAGS_chop_fail : Field := ⟨0x41400004, 7, 1, 0, .w1c⟩
def SAFE_FLAGS_ov3_ev : Field := ⟨0x41400004, 6, 1, 0, .w1c⟩
def SAFE_FLAGS_ov2_ev : Field := ⟨0x41400004, 5, 1, 0, .w1c⟩
def SAFE_FLAGS_ov1_ev : Field := ⟨0x41400004, 4, 1, 0, .w1c⟩
def SAFE_FLAGS_flt_ev : Field := ⟨0x41400004, 3, 1, 0, .w1c⟩
def SAFE_FLAGS_disc_ev : Field := ⟨0x41400004, 2, 1, 0, .w1c⟩
def SAFE_FLAGS_sto_rel : Field := ⟨0x41400004, 1, 1, 0, .w1c⟩
def SAFE_FLAGS_sto_ev : Field := ⟨0x41400004, 0, 1, 0, .w1c⟩
def SAFE_STO_CFG_scope : Field := ⟨0x4140000C, 24, 1, 0, .rwl⟩
def SAFE_STO_CFG_iso_dly : Field := ⟨0x4140000C, 16, 8, 10, .rwl⟩
def SAFE_STO_CFG_disc : Field := ⟨0x4140000C, 8, 8, 10, .rwl⟩
def SAFE_STO_CFG_filt : Field := ⟨0x4140000C, 0, 8, 100, .rwl⟩
def SAFE_CTR_CTL_key : Field := ⟨0x41400010, 16, 16, 0, .wo⟩
def SAFE_CTR_CTL_clr_weld : Field := ⟨0x41400010, 9, 1, 0, .w1s⟩
def SAFE_CTR_CTL_force : Field := ⟨0x41400010, 8, 1, 0, .w1s⟩
def SAFE_CTR_CTL_neg : Field := ⟨0x41400010, 1, 1, 0, .rw⟩
def SAFE_CTR_CTL_pos : Field := ⟨0x41400010, 0, 1, 0, .rw⟩
def SAFE_CTR_CFG_fb_en : Field := ⟨0x41400014, 17, 1, 1, .rwl⟩
def SAFE_CTR_CFG_fb_pol : Field := ⟨0x41400014, 16, 1, 0, .rwl⟩
def SAFE_CTR_CFG_t_open : Field := ⟨0x41400014, 8, 8, 50, .rwl⟩
def SAFE_CTR_CFG_t_close : Field := ⟨0x41400014, 0, 8, 100, .rwl⟩
def SAFE_CTR_STAT_drop : Field := ⟨0x41400018, 9, 1, 0, .ro⟩
def SAFE_CTR_STAT_ov3_open : Field := ⟨0x41400018, 8, 1, 0, .ro⟩
def SAFE_CTR_STAT_weld : Field := ⟨0x41400018, 7, 1, 0, .ro⟩
def SAFE_CTR_STAT_open_held : Field := ⟨0x41400018, 6, 1, 0, .ro⟩
def SAFE_CTR_STAT_neg_busy : Field := ⟨0x41400018, 5, 1, 0, .ro⟩
def SAFE_CTR_STAT_pos_busy : Field := ⟨0x41400018, 4, 1, 0, .ro⟩
def SAFE_CTR_STAT_neg_fb : Field := ⟨0x41400018, 3, 1, 0, .ro⟩
def SAFE_CTR_STAT_pos_fb : Field := ⟨0x41400018, 2, 1, 0, .ro⟩
def SAFE_CTR_STAT_neg_out : Field := ⟨0x41400018, 1, 1, 0, .ro⟩
def SAFE_CTR_STAT_pos_out : Field := ⟨0x41400018, 0, 1, 0, .ro⟩
def SAFE_DIS_CTL_time : Field := ⟨0x4140001C, 16, 8, 20, .rw⟩
def SAFE_DIS_CTL_xen : Field := ⟨0x4140001C, 12, 1, 0, .rw⟩
def SAFE_DIS_CTL_xslice : Field := ⟨0x4140001C, 8, 4, 0, .rw⟩
def SAFE_DIS_CTL_cluster : Field := ⟨0x4140001C, 4, 2, 0, .rw⟩
def SAFE_DIS_CTL_auto : Field := ⟨0x4140001C, 3, 1, 0, .rw⟩
def SAFE_DIS_CTL_path : Field := ⟨0x4140001C, 2, 1, 0, .rw⟩
def SAFE_DIS_CTL_abort : Field := ⟨0x4140001C, 1, 1, 0, .w1s⟩
def SAFE_DIS_CTL_start : Field := ⟨0x4140001C, 0, 1, 0, .w1s⟩
def SAFE_DIS_STAT_elapsed : Field := ⟨0x41400020, 16, 16, 0, .ro⟩
def SAFE_DIS_STAT_reason : Field := ⟨0x41400020, 8, 8, 0, .ro⟩
def SAFE_DIS_STAT_state : Field := ⟨0x41400020, 0, 3, 0, .ro⟩
def SAFE_CHOP_CFG_hyst : Field := ⟨0x41400030, 24, 8, 20, .rwl⟩
def SAFE_CHOP_CFG_verify : Field := ⟨0x41400030, 16, 8, 20, .rwl⟩
def SAFE_CHOP_CFG_cmp : Field := ⟨0x41400030, 8, 5, 31, .rwl⟩
def SAFE_CHOP_CFG_slice : Field := ⟨0x41400030, 4, 4, 0, .rwl⟩
def SAFE_CHOP_CFG_en : Field := ⟨0x41400030, 0, 1, 0, .rwl⟩
def SAFE_CHOP_CTL_test : Field := ⟨0x41400034, 0, 1, 0, .wo⟩
def SAFE_CHOP_STAT_count : Field := ⟨0x41400038, 16, 16, 0, .ro⟩
def SAFE_CHOP_STAT_test : Field := ⟨0x41400038, 3, 2, 0, .ro⟩
def SAFE_CHOP_STAT_test_busy : Field := ⟨0x41400038, 2, 1, 0, .ro⟩
def SAFE_CHOP_STAT_fail : Field := ⟨0x41400038, 1, 1, 0, .ro⟩
def SAFE_CHOP_STAT_on : Field := ⟨0x41400038, 0, 1, 0, .ro⟩
def SAFE_TEST_STAT_step_b : Field := ⟨0x41400048, 8, 4, 0, .ro⟩
def SAFE_TEST_STAT_step_a : Field := ⟨0x41400048, 4, 4, 0, .ro⟩
def SAFE_TEST_STAT_res_b : Field := ⟨0x41400048, 2, 2, 0, .ro⟩
def SAFE_TEST_STAT_res_a : Field := ⟨0x41400048, 0, 2, 0, .ro⟩
def SAFE_LS_STAT_mis_b : Field := ⟨0x4140004C, 24, 8, 0, .ro⟩
def SAFE_LS_STAT_mis_a : Field := ⟨0x4140004C, 16, 8, 0, .ro⟩
def SAFE_LS_STAT_locked_b : Field := ⟨0x4140004C, 1, 1, 0, .ro⟩
def SAFE_LS_STAT_locked_a : Field := ⟨0x4140004C, 0, 1, 0, .ro⟩
def SAFE_C_CFG_msg_to (k : Nat) : Field := ⟨0x41400100 + 0x40 * k, 24, 8, 10, .rwl⟩
def SAFE_C_CFG_ss1_t (k : Nat) : Field := ⟨0x41400100 + 0x40 * k, 16, 8, 20, .rwl⟩
def SAFE_C_CFG_tq_t (k : Nat) : Field := ⟨0x41400100 + 0x40 * k, 8, 8, 20, .rwl⟩
def SAFE_C_CFG_msg_req (k : Nat) : Field := ⟨0x41400100 + 0x40 * k, 1, 1, 0, .rwl⟩
def SAFE_C_CFG_safety (k : Nat) : Field := ⟨0x41400100 + 0x40 * k, 0, 1, 0, .ro⟩
def SAFE_C_STAT_seq (k : Nat) : Field := ⟨0x41400104 + 0x40 * k, 20, 4, 0, .ro⟩
def SAFE_C_STAT_tq_bad (k : Nat) : Field := ⟨0x41400104 + 0x40 * k, 19, 1, 0, .ro⟩
def SAFE_C_STAT_pc_off (k : Nat) : Field := ⟨0x41400104 + 0x40 * k, 18, 1, 0, .ro⟩
def SAFE_C_STAT_pc_sto (k : Nat) : Field := ⟨0x41400104 + 0x40 * k, 17, 1, 0, .ro⟩
def SAFE_C_STAT_ss1 (k : Nat) : Field := ⟨0x41400104 + 0x40 * k, 16, 1, 0, .ro⟩
def SAFE_C_STAT_demand (k : Nat) : Field := ⟨0x41400104 + 0x40 * k, 8, 8, 0, .ro⟩
def SAFE_C_STAT_excl_hi (k : Nat) : Field := ⟨0x41400104 + 0x40 * k, 7, 1, 0, .ro⟩
def SAFE_C_STAT_excl_lo (k : Nat) : Field := ⟨0x41400104 + 0x40 * k, 6, 1, 0, .ro⟩
def SAFE_C_STAT_spd_src (k : Nat) : Field := ⟨0x41400104 + 0x40 * k, 4, 2, 2, .ro⟩
def SAFE_C_STAT_band (k : Nat) : Field := ⟨0x41400104 + 0x40 * k, 2, 1, 0, .ro⟩
def SAFE_C_STAT_sel (k : Nat) : Field := ⟨0x41400104 + 0x40 * k, 0, 2, 0, .ro⟩
def SAFE_C_PC_inj_ok (k : Nat) : Field := ⟨0x41400108 + 0x40 * k, 16, 1, 0, .w1s⟩
def SAFE_C_PC_release (k : Nat) : Field := ⟨0x41400108 + 0x40 * k, 10, 1, 0, .w1s⟩
def SAFE_C_PC_sto (k : Nat) : Field := ⟨0x41400108 + 0x40 * k, 9, 1, 0, .w1s⟩
def SAFE_C_PC_ss1 (k : Nat) : Field := ⟨0x41400108 + 0x40 * k, 8, 1, 0, .w1s⟩
def SAFE_C_PC_ack (k : Nat) : Field := ⟨0x41400108 + 0x40 * k, 0, 4, 0, .rw⟩
def SAFE_CMP_ROLE0_role (c : Nat) : Field := ⟨0x4140003C, 4*c, 4, 0, .rwl⟩
def SAFE_CMP_ROLE1_role (c : Nat) : Field := ⟨0x41400040, 4*c, 4, 0, .rwl⟩
def SAFE_IRQ_EN_asc_blocked : Field := ⟨0x41400008, 15, 1, 0, .rw⟩
def SAFE_IRQ_EN_inj_fail : Field := ⟨0x41400008, 14, 1, 0, .rw⟩
def SAFE_IRQ_EN_lockstep : Field := ⟨0x41400008, 13, 1, 0, .rw⟩
def SAFE_IRQ_EN_pc_ev : Field := ⟨0x41400008, 12, 1, 0, .rw⟩
def SAFE_IRQ_EN_dis_fail : Field := ⟨0x41400008, 11, 1, 0, .rw⟩
def SAFE_IRQ_EN_dis_done : Field := ⟨0x41400008, 10, 1, 0, .rw⟩
def SAFE_IRQ_EN_ctr_done : Field := ⟨0x41400008, 9, 1, 0, .rw⟩
def SAFE_IRQ_EN_ctr_ev : Field := ⟨0x41400008, 8, 1, 0, .rw⟩
def SAFE_IRQ_EN_chop_fail : Field := ⟨0x41400008, 7, 1, 0, .rw⟩
def SAFE_IRQ_EN_ov3_ev : Field := ⟨0x41400008, 6, 1, 0, .rw⟩
def SAFE_IRQ_EN_ov2_ev : Field := ⟨0x41400008, 5, 1, 0, .rw⟩
def SAFE_IRQ_EN_ov1_ev : Field := ⟨0x41400008, 4, 1, 0, .rw⟩
def SAFE_IRQ_EN_flt_ev : Field := ⟨0x41400008, 3, 1, 0, .rw⟩
def SAFE_IRQ_EN_disc_ev : Field := ⟨0x41400008, 2, 1, 0, .rw⟩
def SAFE_IRQ_EN_sto_rel : Field := ⟨0x41400008, 1, 1, 0, .rw⟩
def SAFE_IRQ_EN_sto_ev : Field := ⟨0x41400008, 0, 1, 0, .rw⟩

/-- The register families of chapter 11. -/
def famSafe0 : List Family := [
  ⟨"SAFE_DIS_TGT", 0x41400024, [], fun _ _ => [SAFE_DIS_TGT_v]⟩,
  ⟨"SAFE_OV1", 0x41400028, [], fun _ _ => [SAFE_OV1_v]⟩,
  ⟨"SAFE_OV2", 0x4140002C, [], fun _ _ => [SAFE_OV2_v]⟩,
  ⟨"SAFE_VDC_HI", 0x41400044, [], fun _ _ => [SAFE_VDC_HI_v]⟩,
  ⟨"SAFE_C_SPD", 0x4140010C, [(0x40, 4)], fun i _ => [SAFE_C_SPD_v i]⟩,
  ⟨"SAFE_C_WTH", 0x41400110, [(0x40, 4)], fun i _ => [SAFE_C_WTH_v i]⟩,
  ⟨"SAFE_C_KE", 0x41400114, [(0x40, 4)], fun i _ => [SAFE_C_KE_v i]⟩,
  ⟨"SAFE_C_VDC_FB", 0x41400118, [(0x40, 4)], fun i _ => [SAFE_C_VDC_FB_v i]⟩,
  ⟨"SAFE_C_TQ_TOL", 0x4140011C, [(0x40, 4)], fun i _ => [SAFE_C_TQ_TOL_v i]⟩,
  ⟨"SAFE_C_TQ_EST", 0x41400120, [(0x40, 4)], fun i _ => [SAFE_C_TQ_EST_v i]⟩,
  ⟨"SAFE_C_SLS", 0x41400124, [(0x40, 4)], fun i _ => [SAFE_C_SLS_v i]⟩,
  ⟨"SAFE_STAT", 0x41400000, [], fun _ _ => [SAFE_STAT_split_b, SAFE_STAT_split_a, SAFE_STAT_vdc_none, SAFE_STAT_regen_zero, SAFE_STAT_chop_on, SAFE_STAT_ov, SAFE_STAT_safe_ok_b, SAFE_STAT_safe_ok_a, SAFE_STAT_iso_en_b, SAFE_STAT_iso_en_a, SAFE_STAT_sto_disc, SAFE_STAT_flt_low, SAFE_STAT_sto_b, SAFE_STAT_sto_a]⟩,
  ⟨"SAFE_FLAGS", 0x41400004, [], fun _ _ => [SAFE_FLAGS_asc_blocked, SAFE_FLAGS_inj_fail, SAFE_FLAGS_lockstep, SAFE_FLAGS_pc_ev, SAFE_FLAGS_dis_fail, SAFE_FLAGS_dis_done, SAFE_FLAGS_ctr_done, SAFE_FLAGS_ctr_ev, SAFE_FLAGS_chop_fail, SAFE_FLAGS_ov3_ev, SAFE_FLAGS_ov2_ev, SAFE_FLAGS_ov1_ev, SAFE_FLAGS_flt_ev, SAFE_FLAGS_disc_ev, SAFE_FLAGS_sto_rel, SAFE_FLAGS_sto_ev]⟩,
  ⟨"SAFE_STO_CFG", 0x4140000C, [], fun _ _ => [SAFE_STO_CFG_scope, SAFE_STO_CFG_iso_dly, SAFE_STO_CFG_disc, SAFE_STO_CFG_filt]⟩,
  ⟨"SAFE_CTR_CTL", 0x41400010, [], fun _ _ => [SAFE_CTR_CTL_key, SAFE_CTR_CTL_clr_weld, SAFE_CTR_CTL_force, SAFE_CTR_CTL_neg, SAFE_CTR_CTL_pos]⟩,
  ⟨"SAFE_CTR_CFG", 0x41400014, [], fun _ _ => [SAFE_CTR_CFG_fb_en, SAFE_CTR_CFG_fb_pol, SAFE_CTR_CFG_t_open, SAFE_CTR_CFG_t_close]⟩,
  ⟨"SAFE_CTR_STAT", 0x41400018, [], fun _ _ => [SAFE_CTR_STAT_drop, SAFE_CTR_STAT_ov3_open, SAFE_CTR_STAT_weld, SAFE_CTR_STAT_open_held, SAFE_CTR_STAT_neg_busy, SAFE_CTR_STAT_pos_busy, SAFE_CTR_STAT_neg_fb, SAFE_CTR_STAT_pos_fb, SAFE_CTR_STAT_neg_out, SAFE_CTR_STAT_pos_out]⟩,
  ⟨"SAFE_DIS_CTL", 0x4140001C, [], fun _ _ => [SAFE_DIS_CTL_time, SAFE_DIS_CTL_xen, SAFE_DIS_CTL_xslice, SAFE_DIS_CTL_cluster, SAFE_DIS_CTL_auto, SAFE_DIS_CTL_path, SAFE_DIS_CTL_abort, SAFE_DIS_CTL_start]⟩,
  ⟨"SAFE_DIS_STAT", 0x41400020, [], fun _ _ => [SAFE_DIS_STAT_elapsed, SAFE_DIS_STAT_reason, SAFE_DIS_STAT_state]⟩,
  ⟨"SAFE_CHOP_CFG", 0x41400030, [], fun _ _ => [SAFE_CHOP_CFG_hyst, SAFE_CHOP_CFG_verify, SAFE_CHOP_CFG_cmp, SAFE_CHOP_CFG_slice, SAFE_CHOP_CFG_en]⟩,
  ⟨"SAFE_CHOP_CTL", 0x41400034, [], fun _ _ => [SAFE_CHOP_CTL_test]⟩,
  ⟨"SAFE_CHOP_STAT", 0x41400038, [], fun _ _ => [SAFE_CHOP_STAT_count, SAFE_CHOP_STAT_test, SAFE_CHOP_STAT_test_busy, SAFE_CHOP_STAT_fail, SAFE_CHOP_STAT_on]⟩,
  ⟨"SAFE_TEST_STAT", 0x41400048, [], fun _ _ => [SAFE_TEST_STAT_step_b, SAFE_TEST_STAT_step_a, SAFE_TEST_STAT_res_b, SAFE_TEST_STAT_res_a]⟩,
  ⟨"SAFE_LS_STAT", 0x4140004C, [], fun _ _ => [SAFE_LS_STAT_mis_b, SAFE_LS_STAT_mis_a, SAFE_LS_STAT_locked_b, SAFE_LS_STAT_locked_a]⟩,
  ⟨"SAFE_C_CFG", 0x41400100, [(0x40, 4)], fun i _ => [SAFE_C_CFG_msg_to i, SAFE_C_CFG_ss1_t i, SAFE_C_CFG_tq_t i, SAFE_C_CFG_msg_req i, SAFE_C_CFG_safety i]⟩,
  ⟨"SAFE_C_STAT", 0x41400104, [(0x40, 4)], fun i _ => [SAFE_C_STAT_seq i, SAFE_C_STAT_tq_bad i, SAFE_C_STAT_pc_off i, SAFE_C_STAT_pc_sto i, SAFE_C_STAT_ss1 i, SAFE_C_STAT_demand i, SAFE_C_STAT_excl_hi i, SAFE_C_STAT_excl_lo i, SAFE_C_STAT_spd_src i, SAFE_C_STAT_band i, SAFE_C_STAT_sel i]⟩,
  ⟨"SAFE_C_PC", 0x41400108, [(0x40, 4)], fun i _ => [SAFE_C_PC_inj_ok i, SAFE_C_PC_release i, SAFE_C_PC_sto i, SAFE_C_PC_ss1 i, SAFE_C_PC_ack i]⟩,
  ⟨"SAFE_CMP_ROLE0", 0x4140003C, [], fun _ _ => [SAFE_CMP_ROLE0_role 0, SAFE_CMP_ROLE0_role 1, SAFE_CMP_ROLE0_role 2, SAFE_CMP_ROLE0_role 3, SAFE_CMP_ROLE0_role 4, SAFE_CMP_ROLE0_role 5, SAFE_CMP_ROLE0_role 6, SAFE_CMP_ROLE0_role 7]⟩,
  ⟨"SAFE_CMP_ROLE1", 0x41400040, [], fun _ _ => [SAFE_CMP_ROLE1_role 0, SAFE_CMP_ROLE1_role 1, SAFE_CMP_ROLE1_role 2, SAFE_CMP_ROLE1_role 3, SAFE_CMP_ROLE1_role 4, SAFE_CMP_ROLE1_role 5, SAFE_CMP_ROLE1_role 6, SAFE_CMP_ROLE1_role 7]⟩,
  ⟨"SAFE_IRQ_EN", 0x41400008, [], fun _ _ => [SAFE_IRQ_EN_asc_blocked, SAFE_IRQ_EN_inj_fail, SAFE_IRQ_EN_lockstep, SAFE_IRQ_EN_pc_ev, SAFE_IRQ_EN_dis_fail, SAFE_IRQ_EN_dis_done, SAFE_IRQ_EN_ctr_done, SAFE_IRQ_EN_ctr_ev, SAFE_IRQ_EN_chop_fail, SAFE_IRQ_EN_ov3_ev, SAFE_IRQ_EN_ov2_ev, SAFE_IRQ_EN_ov1_ev, SAFE_IRQ_EN_flt_ev, SAFE_IRQ_EN_disc_ev, SAFE_IRQ_EN_sto_rel, SAFE_IRQ_EN_sto_ev]⟩]

def famSafe : List Family := famSafe0

end Sys2Proof.Machine.Reg
end

