-- ==== Sys2Proof/Machine/RegMap.lean ====
section
/-! DEFINITION. All register families, found by the block window of the address. -/

namespace Sys2Proof.Machine

/-- The families of the block whose window holds the address. -/
def famsAt (a : Nat) : List Family :=
  let w := a / 0x100000
  if w = 0x400 then Reg.famCluster
  else if w = 0x410 then Reg.famPwm
  else if w = 0x411 then Reg.famIsl
  else if w = 0x412 then Reg.famAdc
  else if w = 0x413 then Reg.famPos
  else if w = 0x414 then Reg.famSafe
  else if w = 0x415 then Reg.famChm
  else if w = 0x416 then Reg.famCan
  else if w = 0x417 then Reg.famRing
  else if w = 0x418 then Reg.famHw
  else if w = 0x419 then Reg.famCore
  else if w = 0x41A || w = 0x41B || w = 0x41C then Reg.famCfg
  else []

/-- The fields of the register at a word address; none where the offset is unpopulated. -/
def fieldsAt (a : Nat) : Option (List Field) := Family.find a (famsAt a)

end Sys2Proof.Machine
end

