-- ==== Sys2Proof/Config.lean ====
section
/-! DEFINITION. What the spec leaves open: opaque constants and functions with no body. No proof can see a value of
any of them; each is named in the assumption log. -/

namespace Sys2Proof

/-- A value that the spec leaves open (log entry 6): number `n` of the run's free values, as a natural number; the place
that uses it reads it modulo the width of the field it fills. -/
opaque Config.freeValue : Nat → Nat

/-- The sine and cosine of an angle of 65,536 counts per turn, as binary32 (entry 8). -/
opaque Config.sin : Nat → Nat
opaque Config.cos : Nat → Nat

/-- The four-quadrant arc tangent of two binary32 values, in counts of 65,536 per turn (entry 8). -/
opaque Config.atan2 : Nat → Nat → Nat

/-- The sensor angle, in counts of 65,536 per turn, and the sensor speed, a binary32 in rad/s, of a resolver's type-2 tracking loop
after an update: of its bandwidth, its error, its angle and speed before, and the ticks since its last update (entry 11). -/
opaque Config.resAngle : Nat → Nat → Nat → Nat → Nat → Nat
opaque Config.resSpeed : Nat → Nat → Nat → Nat → Nat → Nat

/-- Natural logarithm, exponential and power of binary32 values (entry 8). -/
opaque Config.ln : Nat → Nat
opaque Config.exp : Nat → Nat
opaque Config.pow : Nat → Nat → Nat

/-- The silicon step that READ_ID returns (Table 14-1, entry 19). -/
opaque Config.siliconStep : Byte

end Sys2Proof
end

