-- ==== Sys2Proof/Machine/Image.lean ====
section
/-! DEFINITION. The running configuration that the configuration engine takes from a Flainum image (chapter 04):
header fields, topology records, motor records, pin functions, register records, fabric ports. -/

namespace Sys2Proof.Machine

/-- A topology record (Table 04-10); masks hold bit n for instance n. -/
structure Topo where
  type     : Nat := 0
  policy   : Nat := 0
  position : Nat := 0xFF
  slices   : Nat := 0
  sar      : Nat := 0
  cmp      : Nat := 0
  sd       : Nat := 0
  ain      : Nat := 0
deriving DecidableEq, Repr, Inhabited

/-- A motor identity record (Table 05-13); physical values are binary32 patterns. -/
structure Motor where
  type     : Nat := 0
  poles    : Nat := 0
  flags    : Nat := 0
  wtempAin : Nat := 0xFF
  keNom    : Nat := 0
  keTc     : Nat := 0
  tRef     : Nat := 0
  rs       : Nat := 0
  ld       : Nat := 0
  lq       : Nat := 0
  wRated   : Nat := 0
  wMax     : Nat := 0
  tRated   : Nat := 0
  iMax     : Nat := 0
  hfiAmp   : Nat := 0
  idDis    : Nat := 0
  tauR     : Nat := 0
  iMag     : Nat := 0
deriving DecidableEq, Repr, Inhabited

/-- One UNITCFG record: first register address and the words for consecutive registers (R146). -/
structure UnitRec where
  addr  : Nat
  words : List Nat
deriving DecidableEq, Repr, Inhabited

/-- One PINFUNC entry (R143). -/
structure PinFunc where
  pin  : Nat
  func : Nat
  attr : Nat
deriving DecidableEq, Repr, Inhabited

/-- One fabric port descriptor (Table 04-9). -/
structure FabPort where
  port     : Nat
  block    : Nat
  inst     : Nat
  cluster  : Nat
  words    : Nat
  irq      : Nat
deriving DecidableEq, Repr, Inhabited

/-- One section-table entry (Table 04-7). -/
structure Section where
  type   : Nat
  flags  : Nat
  offset : Nat
  size   : Nat
  load   : Nat
  crc    : Nat
deriving DecidableEq, Repr, Inhabited

/-- The image in force; `present` is false before any bank has been accepted. -/
structure Image where
  present  : Bool := false
  base     : Nat := 0
  length   : Nat := 0
  secVer   : Nat := 0
  flags    : Nat := 0
  nodeId   : Nat := 0
  entryA   : Nat := 0
  entryB   : Nat := 0
  build    : Nat := 0
  sections : List Section := []
  topo     : List Topo := []
  motors   : List Motor := []
  pins     : List PinFunc := []
  ports    : List FabPort := []
  unitcfg  : List UnitRec := []
deriving DecidableEq, Repr, Inhabited

end Sys2Proof.Machine
end

