-- ==== Sys2Proof/Machine/Sparse.lean ====
section
/-! DEFINITION. Sparse tables in one canonical form: a list of keys and values with strictly rising keys; a value
equal to what an unlisted key reads as is not listed. The register file and the byte memory are such tables. -/

namespace Sys2Proof.Machine

/-- The value listed at a key, or `d` where the key is not listed. -/
def lookupD {α : Type} (d : α) (k : Nat) : List (Nat × α) → α
  | [] => d
  | (k', v) :: l => if k = k' then v else lookupD d k l

/-- List a value at a key, keys rising. -/
def insertAt {α : Type} (k : Nat) (v : α) : List (Nat × α) → List (Nat × α)
  | [] => [(k, v)]
  | (k', v') :: l =>
    if k < k' then (k, v) :: (k', v') :: l
    else if k = k' then (k, v) :: l
    else (k', v') :: insertAt k v l

/-- Take every entry of a key out of the list. -/
def eraseAt {α : Type} (k : Nat) : List (Nat × α) → List (Nat × α)
  | [] => []
  | (k', v') :: l => if k = k' then eraseAt k l else (k', v') :: eraseAt k l

/-- Write a value: listed unless it is what the unlisted key reads as. -/
def putAt {α : Type} [DecidableEq α] (d : α) (k : Nat) (v : α) (l : List (Nat × α)) : List (Nat × α) :=
  if v = d then eraseAt k l else insertAt k v l

/-- The keys of a list rise strictly. -/
def rising {α : Type} : List (Nat × α) → Bool
  | [] => true
  | [_] => true
  | (k, _) :: (k', v') :: l => k < k' && rising ((k', v') :: l)

end Sys2Proof.Machine
end

