-- ==== Sys2Proof/Machine/State.lean ====
section
/-! DEFINITION. The state of the module as plain data: the register file, the byte memory, and for each block the
state that its registers do not show; the queue of waiting commands; the stops; the state after reset. -/

namespace Sys2Proof.Machine

/-- What can stop the machine. -/
inductive Fault where
  /-- Raised by the meanings of commands that carry a list of raw words or bytes: the command is not well formed
  (WellFormed.lean), so it stands for no event of the hardware. Safe. -/
  | illFormed
deriving DecidableEq, Repr

/-- Why a command has no meaning. -/
inductive Refusal where
  /-- Raised by an arm of `exec` whose meaning is not written. Safe. -/
  | notModelled (mnemonic : String)
deriving DecidableEq, Repr

/-! ### Chapter 01: logs and posted writes -/

/-- A fault log entry (Table 01-13). -/
structure LogEntry where
  code    : Nat
  cls     : Nat
  inst    : Nat
  cluster : Nat
  region  : Nat
  ts      : Nat
  ring    : Nat
  seq     : Nat
  data    : Nat
deriving DecidableEq, Repr, Inhabited

/-- The fault log's queue (R671), the slot that the next data-flash write takes (R50), the number of entries in the
flash ring, the next sequence number, and the Cellar's retention log (R51), oldest entry overwritten first. -/
structure LogS where
  queue     : List LogEntry := []
  seq       : Nat := 0
  flashNext : Nat := 0
  flashUsed : Nat := 0
  retention : List LogEntry := []
deriving DecidableEq, Repr, Inhabited

/-- A posted write that has not yet taken effect (R33): it has reached its resource and lost there to other requesters
this many times in a row (R25, R26). -/
structure Posted where
  req  : Requester
  addr : Nat
  size : Nat
  data : Nat
  lost : Nat := 0
deriving DecidableEq, Repr

/-- Posted writes in flight in issue order, the units inside the 16 ticks of a unit reset, and the writes held for
them in order of arrival (R13); the writes that have taken effect at registers in this tick (R28). -/
structure BusS where
  posted : List Posted := []
  resets : List UnitId := []
  held   : List Posted := []
  landed : List Posted := []
deriving DecidableEq, Repr, Inhabited

/-! ### Chapter 03: power, clocks, Cellar -/

/-- Power states of Table 03-2. -/
inductive PowerState where
  | off | dormant | watch | run
deriving DecidableEq, Repr, Inhabited

/-- Where a sleep entry stands (Table 03-4): none, request queued for the transfer, control die in reset and waiting
for VDD_CORE to fall; the target is DORMANT when `dormant`. -/
inductive SleepStep where
  | none
  | queued (dormant : Bool)
  | waiting (dormant : Bool)
deriving DecidableEq, Repr, Inhabited

/-- Power and Cellar state beside the registers: power state, sleep step, a wake in progress, Cellar writes of the running
transfer and those held for the next one (R103) as (register, value), the values that the always-on logic acts on, slots
latched since the wake, the PWR_REQ output, control-die reset, R83 met since the switched rails
last went away, VDDA up, safety logic on the monitor
oscillator, PLL locked, crossing counts by group (0 region A, 1 region B, 2 Cellar; R115), ticks of CLK_MAIN counted into
the present always-on cycle, each as 4,096 of the 25,000,000 parts of a cycle; always-on cycles counted towards the next
firing of slot 12 (R96), and that it falls in the present cycle; RSTOUT_N asserted (R124). -/
structure PowerS where
  state      : PowerState := .run
  sleep      : SleepStep := .none
  waking     : Bool := false
  xferRun    : List (Nat × Nat) := []
  xferHeld   : List (Nat × Nat) := []
  acting     : List (Nat × Nat) := []
  latched    : Nat := 0
  pwrReq     : Bool := false
  dieReset   : Bool := false
  railsUp    : Bool := true
  vddaOk     : Bool := true
  safetyOnMon: Bool := false
  locked     : Bool := true
  crossings  : List (Nat × Nat) := []
  aonPhase   : Nat := 0
  perCount   : Nat := 0
  perDue     : Bool := false
  rstOut     : Bool := false
deriving DecidableEq, Repr, Inhabited

/-! ### Chapter 04: configuration engine, fuses, pins -/

/-- The fuses: one-way life-cycle fuses, toggle fuses set, anti-rollback fuses set, revoke fuses of image slots 0 to 3,
key hashes of slots 0 to 7, module serial, repair-fuse entries (memory, row). -/
structure Fuses where
  integrate : Bool := false
  field     : Bool := false
  retired   : Bool := false
  toggles   : Nat := 0
  arb       : Nat := 0
  revoke    : Nat := 0
  keyHash   : List Nat := []
  serial    : Nat := 0
  repairs   : List (Nat × Nat) := []
deriving DecidableEq, Repr, Inhabited

/-- A boot-record update in progress: preference, trial flag, tries, and whether it is a confirm. -/
structure BootUpdate where
  pref  : Nat
  trial : Nat
  tries : Nat
deriving DecidableEq, Repr

/-- The configuration engine beside its registers: fuses; the soft-repair record as (memory instance, row); a boot-record
update under way; start-up stopped by the fuses or finished (0 not run, 1 running regions, 2 package fault, 3 recovery);
buffer of the token under check; RST_N low, its stuck period recorded; the bits 9:0 of CFG_RST_CAUSE that the next start
loads, those of earlier control-die resets that no start has recorded yet, and the brown-out codes that it records; regions in a late bring-up; regions under full self-test;
rows mapped to spares at this start, from the record and from its tests; the pins' levels; the NODE_ID straps; the first region brought up at this start (R449). -/
structure CfgS where
  fuses      : Fuses := {}
  softRepair : List (Nat × Nat) := []
  bootUpdate : Option BootUpdate := none
  boot       : Nat := 0
  token      : Option Nat := none
  rstLow     : Bool := false
  rstStuck   : Bool := false
  causeNext  : Nat := 6
  causePrev  : List Nat := []
  borNext    : List Nat := []
  bringUp    : Nat := 0
  selfTest   : Nat := 0
  mapped     : List (Nat × Nat) := []
  gpioIn     : Nat := 0
  nodeStrap  : Nat := 0
  first      : Option Nat := none
deriving DecidableEq, Repr, Inhabited

/-- A region (R16): in reset, held in reset until the next control-die reset (Table 04-4), brought up at a start,
its pair split, its difference-injection result good. -/
structure RegionS where
  inReset : Bool := true
  dead    : Bool := false
  up      : Bool := false
  split   : Bool := false
  diffOk  : Bool := false
deriving DecidableEq, Repr, Inhabited

/-! ### Chapter 05: clusters -/

/-- An outstanding LIMIT, SAFE or LATCH fault of a cluster (R45): code, instance, handled as LATCH,
tick of detection. -/
structure Standing where
  code  : Nat
  inst  : Nat
  latch : Bool
  since : Nat
deriving DecidableEq, Repr

/-- Duplex phases (Tables 05-9 and 05-10). -/
inductive Duplex where
  | none | requested | copied | active | takeover
deriving DecidableEq, Repr, Inhabited

/-- A Larder swap request (Table 05-12): none, check running, check good. -/
inductive SwapStep where
  | none | checking | ready
deriving DecidableEq, Repr, Inhabited

/-- A cluster beside its registers: the request held (0 none) and the run command standing; outstanding faults; ticks of
the automatic retries used, by code; DECEL to end in HALTED; tick of the state's entry and of leaving IDLE or HALTED;
consecutive overruns; the pass under way, at a peak, its trigger tick and the ticks from it to the next reload of the lead
slice; catch: start of the run of probes (R200), angles of the latest probes newest first, low-current probes counted,
tick of the latest probe, the lock that waits (speed, induced phase peak, standstill), angle and tick of the tracked
current vector; gates to be enabled at the next reload; speed reference; angle at a winding discharge's start; observer
loop: consecutive passes below and above the lock limits, estimated speed and angle, ticks of R199; observer fallback;
open-loop angle; voltage magnitude before limiting and torque at its limit in the previous pass; swap requests and
consecutive waits by table, the lookup in progress, the pending swap of table 2 is the Chimney's; duplex step, split
asked; first-record marks of a holding, passes with diode current and whether this pass has shown it; valid VDC results
(slot, value) of the latest pass; phase currents that field control measured in the latest pass (none where it had none);
volt-second corrections by slice that the compares of this pass take, and those of the latest valley pass (R351); compares that are still to be written, by tick, slice and value (R183); the phase currents of the pass
that wrote compares last, and of the one whose compares the latest reload took (R391); a catch pulse of the sequencer under way (R200); the tick of the latest
selection of the safety logic; processor channel: currents, torque sum and passes of the tick, implausible ticks, ticks above the
speed limit, missed acknowledgements, start of safe stop 1, tick of the latest valid message; an STO release awaits the
islands; PROF_TBL
recorded since the start or the latest swap of table 2; the request of this tick (0 none), the refused flag before it was refused, and a request that a fault of the same
tick follows (R175); the cluster left a reset while a fault or a demand may stand (R45); a sample tick that is still to come or to be taken, and what it found: converters in low power; a resolver evaluation that awaits the results of the pass; the start was made in the present pass (Table 05-8); the
passes left in which an induction machine's flux is built (Table 05-8); ψ after its filter (R198). -/
structure ClusterS where
  held       : Nat := 0
  standing   : Bool := false
  faults     : List Standing := []
  retries    : List (Nat × Nat) := []
  decelHalt  : Bool := false
  enteredAt  : Nat := 0
  leftQuiet  : Nat := 0
  overruns   : Nat := 0
  inPass     : Bool := false
  peakPass   : Bool := false
  trigTick   : Nat := 0
  toReload   : Nat := 0
  catchAt    : Nat := 0
  probes     : List Nat := []
  lowProbes  : Nat := 0
  lastProbe  : Option Nat := none
  lock       : Option (Nat × Nat × Bool) := none
  track      : Option (Nat × Nat) := none
  startGates : Bool := false
  spdRef     : Nat := 0
  wdisAngle  : Nat := 0
  lockRun    : Nat := 0
  unlockRun  : Nat := 0
  obsSpd     : Nat := 0
  obsAng     : Nat := 0
  keTicks    : Nat := 0
  fallback   : Bool := false
  ifAngle    : Nat := 0
  vPrev      : Nat := 0
  tqAtLim    : Bool := false
  swap       : List SwapStep := [.none, .none, .none]
  waits      : List Nat := [0, 0, 0]
  ageSwap    : Bool := false
  duplex     : Duplex := .none
  splitAsked : Bool := false
  blockedRec : Bool := false
  unknownRec : Bool := false
  diodeRun   : Nat := 0
  diodeSeen  : Bool := false
  vdc        : List (Nat × Nat) := []
  phaseI     : List Nat := []
  corr       : List (Nat × Int) := []
  corrNew    : List (Nat × Int) := []
  cmps       : List (Nat × Nat × Nat) := []
  cmpNew     : List Nat := []
  cmpI       : List Nat := []
  pulse      : Bool := false
  selAt      : Nat := 0
  tqSum      : Nat := 0
  tqN        : Nat := 0
  tqBad      : Nat := 0
  slsRun     : Nat := 0
  ackMiss    : Nat := 0
  ss1At      : Nat := 0
  msgAt      : Nat := 0
  msgLost    : Bool := false
  stoRel     : Bool := false
  profRec    : Bool := false
  reqNow     : Nat := 0
  refNow     : Option Bool := none
  again      : Nat := 0
  fallDue    : Bool := false
  sampleDue  : Bool := false
  sampleLp   : Nat := 0
  resDue     : Bool := false
  starting   : Bool := false
  flux       : Option Nat := none
  psi        : Nat := 0
deriving DecidableEq, Repr, Inhabited

/-! ### Chapters 06 to 08: measurement, position, control law engine -/

/-- The result of one slot in one pass: the pass's first word in the result banks, slot, valid flag, clipped, low power,
reference not ready, raw code, physical value (binary32, R238). -/
structure SlotRes where
  base    : Nat
  slot    : Nat
  valid   : Bool
  clip    : Bool
  lp      : Bool
  refNr   : Bool
  raw     : Nat
  value   : Nat
deriving DecidableEq, Repr, Inhabited

/-- A scan entry that converts (R244, R247): the entry, the tick of its first sample, its converters, the samples it takes, the
tick from which its result can be written, and of each sample taken so far the low-power class of its converter and the
reference ready (R232, R235). -/
structure ScanRun where
  entry : Nat
  start : Nat
  convs : List Nat
  want  : Nat
  due   : Nat
  got   : List (Bool × Bool)
deriving DecidableEq, Repr, Inhabited

/-- Converter block beside its registers: a reference settling; the run of the scan list (tick of its start, next entry,
entries whose results are outstanding); sigma-delta inputs with SD_STUCK standing; a tick in which each modulator clock rises
(R239); the tick of each converter's latest return to full rate by a cleared lp; the latest voltage of the reference that a
command has shown since the selection changed, in microvolts, with its tick (R233); the ticks at which comparators last ceased to
act as tripped. -/
structure AdcS where
  refWait   : Bool := true
  scanAt    : Option Nat := none
  scanNext  : Nat := 0
  scanOut   : List ScanRun := []
  sdStuck   : Nat := 0
  sdEdge    : List (Nat × Nat) := []
  lpReturn  : List (Nat × Nat) := []
  refSeen   : Option (Nat × Nat) := none
  cmpFree   : List (Nat × Nat) := []
deriving DecidableEq, Repr, Inhabited

/-- Measurement state of one cluster: runs of passes with and without a mismatch by check (16·kind + phase or path; kinds
0 IPATH, 1 VDC, 2 ISUM), checks whose fault's cause stands (R255), the latest passes' results, slots whose result is
outstanding with their pass's first word, the words of the two result banks (64·bank + word), the bank being filled (the one
that ADC_Ck_RB_STAT.bank does not show), the present pass's first word, the period count; checks whose fault is recorded for the
present run of mismatches; passes, by first word, that sampled while ref_rdy was clear (R232). -/
structure MeasS where
  mis      : List (Nat × Nat) := []
  agree    : List (Nat × Nat) := []
  bad      : List Nat := []
  results  : List SlotRes := []
  waiting  : List (Nat × Nat) := []
  bankMem  : List (Nat × Nat) := []
  fill     : Nat := 1
  base     : Nat := 0
  period   : Nat := 0
  fired    : List Nat := []
  nr       : List Nat := []
deriving DecidableEq, Repr, Inhabited

/-- A position channel beside its registers: line levels of the latest sample; the next index acts as Set; counts until
pos_valid sets; counts left of the window of R273 and its limit reached; counts net since the last index and IDX_MISSING
recorded; the latest count of each line that can start a glitch (tick, forward); counts in the present direction; a count made since enable; tick of
the latest event and of the last count before the previous evaluation; the sum of the count sizes since that evaluation
(counts of 65,536 per turn in mode 2, counts in mode 1); the last measured speed; the speed at the latest evaluation; an adjacent
Hall change made and its size; resolver: started, loop angle and speed, runs of evaluations below, above and outside the window;
SENT: previous accepted sync, consecutive accepted frames, previous sensor angle and tick, status bits of the serial message
(newest first), SENT_CRC recorded since src_err was last cleared; the tick of the latest accepted frame or strobe, its timeout
declared since, or expiring in this tick; the tick in which the condition of self-timed evaluation began (R270); of this tick's
events (Table 07-5): ticks of the latest sample of A and B, of the latest snapshot and self-timed evaluation, what that evaluation
found (measured speed, count sizes, reference tick, speed register), an edge of Z that waits for its count step. -/
structure PosS where
  a        : Bool := false
  b        : Bool := false
  want     : Bool := true
  arm      : Nat := 0
  qLeft    : Nat := 0
  qStuck   : Bool := false
  net      : Int := 0
  missing  : Bool := false
  glitchA  : Option (Nat × Bool) := none
  glitchB  : Option (Nat × Bool) := none
  run      : Nat := 0
  counted  : Bool := false
  tE       : Int := 0
  tRef     : Int := 0
  since    : Nat := 0
  meas     : Nat := 0
  evalSpd  : Nat := 0
  hallAdj  : Bool := false
  hallBack : Bool := false
  lastSize : Nat := 0
  resOn    : Bool := false
  phi      : Nat := 0
  resSpd   : Nat := 0
  lowRun   : Nat := 0
  highRun  : Nat := 0
  winRun   : Nat := 0
  syncPrev : Option Nat := none
  okRun    : Nat := 0
  angPrev  : Nat := 0
  angTick  : Int := 0
  serial   : List (Bool × Bool) := []
  crcRec   : Bool := false
  okAt     : Option Nat := none
  tmo      : Bool := false
  tmoDue   : Bool := false
  selfAt   : Option Nat := none
  sampleAt : Option Nat := none
  snapAt   : Option Nat := none
  evalAt   : Option Nat := none
  preMeas  : Nat := 0
  preSince : Nat := 0
  preRef   : Int := 0
  preSpd   : Nat := 0
  idxDue   : Option Bool := none
deriving DecidableEq, Repr, Inhabited

/-- A control law engine beside its registers: the two states of each section, and those of each section's latest
evaluation; the pass count; the following-error timer in ticks, the later of the watched list's latest evaluation and the
latest instant the timer was set to 0, the error at that evaluation; lists whose output was clamped at
their latest evaluation. -/
structure CleS where
  s1      : List (Nat × Nat) := []
  s2      : List (Nat × Nat) := []
  snap1   : List (Nat × Nat) := []
  snap2   : List (Nat × Nat) := []
  pass    : Nat := 0
  feTicks : Nat := 0
  feAt    : Nat := 0
  feErr   : Nat := 0
  clamped : Nat := 0
deriving DecidableEq, Repr, Inhabited

/-! ### Chapter 09: slices -/

/-- A slice beside its registers: the trigger compares in force (dir, val), PER in force, raw levels (stage 1), levels
after the force (stage 2), timed levels (stage 3), outputs whose dead time runs, pulses decided away, minimum pulses
running and pulses to end with them, the stage-4 intervals passed, a combination or phase held off, carrier to stop at
its next valley, reload points skipped, stage-7 levels and an override ended but not yet reloaded, a bootstrap refresh
running, the volt-second error so far, taps in force, the level of the block-commutation pulse, following
another slice under R334, the tick of the latest reload and of the latest valley tick of the running carrier, the carrier to
start in the next tick, the forces in force. Times in fine steps from reset (R5): since when each output's dead time counts, its
latest rise, the length that it then lasts at least, the time up to which the volt-second error and the bootstrap count are
brought, the latest change of each output after stage 7, the time for which H has stood on (R357), the start of the H pulse of
the volt-second reference; where the delay line placed the latest edge of each output, as tick and taps (R337); C_up and the
CMPB value in force; the fine time at which an override or a held combination ended (R366); the dead times that stage 7 keeps
through a reset of the region (R372); the block-commutation code in force (R363); a VCC2 warning that awaits a valley tick (R358);
and the shadow words, by address, as they stood at the start of a tick in which they are written (R338). -/
structure SliceS where
  trig     : List (Nat × Nat) := [(2, 0), (2, 262143), (3, 0), (3, 0)]
  per      : Nat := 6250
  cdn      : Nat := 16777215
  rawH     : Bool := false
  rawL     : Bool := false
  effH     : Bool := false
  effL     : Bool := false
  onH      : Bool := false
  onL      : Bool := false
  waitH    : Bool := false
  waitL    : Bool := false
  skipH    : Bool := false
  skipL    : Bool := false
  minH     : Bool := false
  minL     : Bool := false
  endH     : Bool := false
  endL     : Bool := false
  gateH    : Bool := false
  gateL    : Bool := false
  held     : Bool := false
  stopping : Bool := false
  skipped  : Nat := 0
  holdRec  : Bool := false
  ovH      : Bool := false
  ovL      : Bool := false
  ovEnd    : Bool := false
  refresh  : Bool := false
  verr     : Int := 0
  taps     : Nat := 0
  pulse    : Bool := false
  synced   : Bool := false
  reloadAt : Option Nat := none
  valleyAt : Option Nat := none
  starting : Bool := false
  forceH   : Nat := 0
  forceL   : Nat := 0
  fromH    : Nat := 0
  fromL    : Nat := 0
  riseH    : Nat := 0
  riseL    : Nat := 0
  lenH     : Nat := 0
  lenL     : Nat := 0
  accAt    : Nat := 0
  chgH     : Nat := 0
  chgL     : Nat := 0
  bsOn     : Nat := 0
  refOn    : Option Nat := none
  edgeH    : Nat × Nat := (0, 0)
  edgeL    : Nat × Nat := (0, 0)
  cup      : Nat := 16777215
  clow     : Nat := 16777215
  freeAt   : Option Nat := none
  ovDt     : Option (Nat × Nat) := none
  code     : Nat := 0
  vccLow   : Bool := false
  oldAt    : Option Nat := none
  old      : List (Nat × Nat) := []
deriving DecidableEq, Repr, Inhabited

/-- The FLT_N pin, which no reset of the module moves: low now, and the tick at which it last went high; the tick of the latest write
to PWM_RELOAD_HOLD and what it held before that tick (R340). -/
structure PwmGS where
  fltLow  : Bool := false
  fltHigh : Nat := 0
  holdAt  : Option Nat := none
  holdOld : Nat := 0
deriving DecidableEq, Repr, Inhabited

/-! ### Chapter 10: islands -/

/-- A transition phase of an island's gate (Table 10-4). -/
inductive Gate where
  | off | phase1 | phase2 | phase3 | on | offPhase1 | offPhase2 | offPhase3 | fault1 | fault2
deriving DecidableEq, Repr, Inhabited

/-- An island beside its mirror registers: the island die's own state (Table 10-1; the register shows it as last
reported), commanded level at the interlock, gate phase, profile of the transition under way, turn-on and turn-off
interrupted, tick of the turn-on's phase-1 start, ON command held by the interlock since a tick and its LEG_CONFLICT
recorded, the settings that the island die holds (R19) as (mirror offset, word), a word at its reset value unlisted, the CLAMP
land joined to VEE2 (R388), table profiles as its latest frame gave them, a frame on its way, with the table entries behind them
and behind the latest transitions, mirror
words not yet acknowledged (register offset), handshake opened by the control die, step under way (0 none) and failed, step 3 ended
since the island entered STARTING, trim not yet set since no target stands (R381),
standing faults oldest first, fault reports on the way (code, handled as class), ticks of automatic clears, last report was
a lockout, tick of the latest handshake's completion, groups with a turn-on since their last fault (bit 0 desaturation, bit 1
lockout and channel), desaturation watched; ticks of the latest edge command, of the latest report that the gate fell below v_il,
of the latest turn-off's phase-1 start, and of the first turn-on since the latest fault of each group (R401). -/
structure IslandS where
  real      : Nat := 0
  cmd       : Bool := false
  gate      : Gate := .off
  prof      : Nat := 0x32402850
  brokenOn  : Bool := false
  brokenOff : Bool := false
  startTick : Nat := 0
  held      : Bool := false
  heldAt    : Nat := 0
  conflict  : Bool := false
  own       : List (Nat × Nat) := []
  clampOn   : Bool := false
  tblOn     : Option Nat := none
  tblOff    : Option Nat := none
  frame     : Option (Nat × Nat) := none
  frameE    : Option (Nat × Nat) := none
  entOn     : Option Nat := none
  entOff    : Option Nat := none
  useOn     : Option Nat := none
  useOff    : Option Nat := none
  dirty     : List Nat := []
  opened    : Bool := false
  hsStep    : Nat := 0
  hsFailed  : Bool := false
  hs3       : Bool := false
  calDue    : Bool := false
  faults    : List Standing := []
  reports   : List (Nat × Nat) := []
  clears    : List Nat := []
  lockout   : Bool := false
  doneAt    : Nat := 0
  turnedOn  : Nat := 0
  watching  : Bool := false
  cmdAt     : Option Nat := none
  lowAt     : Option Nat := none
  offTick   : Nat := 0
  turnD     : Nat := 0
  turnU     : Nat := 0
deriving DecidableEq, Repr, Inhabited

/-! ### Chapter 11: safety block -/

/-- The drivers of one transformer (R75, R408): switching, since this tick, with a ramp of the duty from 0; the tick of the
latest stop (`none`: more than 10 µs ago). -/
structure XfmrS where
  on    : Bool := false
  onAt  : Nat := 0
  ramp  : Bool := true
  offAt : Option Nat := none
deriving DecidableEq, Repr, Inhabited

/-- The safety block beside its registers: the transformers' drivers; DSCH asserted; V_hi at the start of a chopper
verification, whether one runs, whether it is a test, a role-4 comparator seen, the tick of its start; the tick since which
the STO inputs have disagreed, and the disagreement recorded; CHOPPER_FAIL's ramp from this factor at this tick; the latest discharge's start; the tick
since which a role-3 comparator has stood tripped; contactors (bit 0 POS, 1 NEG) whose close command needs a new write
(R443); the ticks of the latest changes of CTR_POS and CTR_NEG; the feedback pins that are high, which no reset of the
module moves; contactors that reached Opened after a commanded open; the latest safety tick (R450). -/
structure SafeS where
  xfmr       : List XfmrS := [{}, {}, {}, {}, {}, {}]
  dsch       : Bool := false
  chopV      : Nat := 0
  chopVerify : Bool := false
  chopTest   : Bool := false
  chopSeen   : Bool := false
  chopAt     : Nat := 0
  discAt     : Nat := 0
  discRec    : Bool := false
  tickAt     : Option Nat := none
  rampFrom   : Option Nat := none
  rampAt     : Nat := 0
  disStart   : Option Nat := none
  ov3At      : Option Nat := none
  needNew    : Nat := 0
  posAt      : Nat := 0
  negAt      : Nat := 0
  fbHigh     : Nat := 0
  opened     : Nat := 0
deriving DecidableEq, Repr, Inhabited


/-! ### Chapters 12 to 16: filled in by their families -/

/-- One hart (R510): program counter, integer and float registers by number, privilege (machine when true), the CSRs
with state, PMP entries (configuration, address), waiting in WFI, fetch queue, the tick of the watchdog's last kick and
whether WDT_WARN has followed it. -/
structure HartS where
  pc       : Nat := 0
  xregs    : List (Nat × Nat) := []
  fregs    : List (Nat × Nat) := []
  machine  : Bool := true
  mie      : Bool := false
  mpie     : Bool := false
  mpp      : Bool := false
  meie     : Bool := false
  mtvec    : Nat := 0
  mepc     : Nat := 0
  mcause   : Nat := 0
  mtval    : Nat := 0
  mscratch : Nat := 0
  mcounteren : Nat := 0
  fcsr     : Nat := 0
  cycle    : Nat := 0
  instret  : Nat := 0
  pmpCfg   : List (Nat × Nat) := []
  pmpAddr  : List (Nat × Nat) := []
  wfi      : Bool := false
  fetchQ   : List (Nat × Nat) := []
  wdtAt    : Nat := 0
  wdtWarned: Bool := false
deriving DecidableEq, Repr, Inhabited

/-- A moderation group of a hart (R540): events counted, timer running, since this tick, released. -/
structure GroupS where
  count    : Nat := 0
  timer    : Bool := false
  since    : Nat := 0
  released : Bool := false
deriving DecidableEq, Repr, Inhabited

/-- The interrupt controller beside its registers: latched pending bits of edge and sticky sources, the live levels as
last seen, the twelve groups (hart 3c + g − 1), lines standing, spurious checks armed, the fabric's lines, the high
word of TIM_NOW that each requester has latched; what hardware has set in this tick, which a write of 1 in the same tick does
not clear (R29): bits of register fields by key, and latched pending bits; the routes, by source, that stand until the next
tick although another has been written (R534). -/
structure IrqS where
  latch   : Nat := 0
  prev    : Nat := 0
  groups  : List GroupS := [{}, {}, {}, {}, {}, {}, {}, {}, {}, {}, {}, {}]
  lines   : Nat := 0
  armed   : Nat := 0
  fabric  : Nat := 0
  hiLatch : List (Nat × Nat) := []
  fresh   : List (Nat × Nat) := []
  pulsed  : Nat := 0
  routes  : List (Nat × Nat) := []
deriving DecidableEq, Repr, Inhabited

/-- Semaphore waits (Table 13-8) as (semaphore, requester), in order of arrival; the semaphores that were free and went to a
requester in this tick, and whether that requester asked to wait (R32). -/
structure SemS where
  waits : List (Nat × Requester) := []
  now   : List (Nat × Requester × Bool) := []
deriving DecidableEq, Repr, Inhabited

/-- The code-flash line buffers of the two pairs: the address of the line held (Table 13-7). -/
structure MemS where
  lines : List (Option Nat) := [none, none]
deriving DecidableEq, Repr, Inhabited

/-! ### Chapter 12: the Chimney -/

/-- What owns a data-flash or identity-memory write (R502). -/
inductive WriteOwner where
  | log | boot | softRepair | descriptor (queue : Nat) | ageStore (cluster : Nat) | ledger (leg : Nat)
deriving DecidableEq, Repr, Inhabited

/-- A write that waits or runs: its owner, held under R502, started, the tick of its submission. -/
structure WriteItem where
  owner   : WriteOwner
  held    : Bool
  started : Bool
  since   : Nat := 0
deriving DecidableEq, Repr, Inhabited

/-- One switch: latest three accepted values (newest first), consecutive rejections and acceptances, measured estimates
suspended (R488), tick of the latest accepted value, model ΔT, current of the latest profile lookup, highest estimate of
the rainflow interval, the extremum and direction of the turning-point search (R496, `none` before a direction is known),
residue stack oldest first (tenths of a degree), half-cycle counts by bin. -/
structure SwitchS where
  vals    : List Nat := []
  rej     : Nat := 0
  acc     : Nat := 0
  susp    : Bool := false
  accAt   : Option Nat := none
  dT      : Nat := 0
  isw     : Nat := 0
  high    : Option Int := none
  ext     : Option Int := none
  rising  : Option Bool := none
  residue : List Int := []
  counts  : List (Nat × Nat) := []
deriving DecidableEq, Repr, Inhabited

/-- The ledger of a leg as counted: sequence number of the slot in force, seconds of switching, writes, LIFE_WARN made,
the second counted last, the image of a write under way. -/
structure LedgerS where
  seq    : Nat := 0
  runS   : Nat := 0
  writes : Nat := 0
  warned : Bool := false
  lastS  : Option Nat := none
  image  : List Byte := []
deriving DecidableEq, Repr, Inhabited

/-- Ageing of a cluster's table 2 (R503, R504), lists keyed by entry: references; number and sum of the measurements
taken before the reference stands, or since the last rebuild; signed adjustments; entries recorded at their bound, entries used in
RUN; a rebuild awaiting its swap, entries it changed, a store write due; the stored adjustments applied in this start; ticks of RUN
since the last rebuild. -/
structure AgeS where
  refs     : List (Nat × Nat) := []
  num      : List (Nat × Nat) := []
  sum      : List (Nat × Nat) := []
  adj      : List (Nat × Int) := []
  limited  : List Nat := []
  used     : List Nat := []
  swapDue  : Bool := false
  changed  : Nat := 0
  storeDue : Bool := false
  applied  : Bool := false
  runTicks : Nat := 0
deriving DecidableEq, Repr, Inhabited

/-- The Chimney beside its registers: mismatch runs of the die sensors, regions with DIE_SENS_FEW recorded, legs whose
record has been read in this start; by cluster: tick of the result behind T_w, tick of the previous pass, the peak ramp's
start value, the tick at which the grace or the ramp started; switches, ledgers, ageing, writes that wait or run; ticks of the latest
die-sensor and rainflow samples; ticks in which any cluster was in RUN since the last interval of the ledgers. -/
structure ChmS where
  dieRun   : List Nat := [0, 0, 0, 0, 0, 0, 0, 0]
  few      : Nat := 0
  read     : Nat := 0
  twTick   : List Nat := [0, 0, 0, 0]
  passTick : List Nat := [0, 0, 0, 0]
  rampFrom : List Nat := [0, 0, 0, 0]
  rampAt   : List Nat := [0, 0, 0, 0]
  sw       : List SwitchS := [{}, {}, {}, {}, {}, {}, {}, {}, {}, {}, {}, {}]
  ledger   : List LedgerS := [{}, {}, {}, {}, {}, {}]
  age      : List AgeS := [{}, {}, {}, {}]
  writes   : List WriteItem := []
  dieAt    : Option Nat := none
  rainAt   : Option Nat := none
  runTicks : Nat := 0
deriving DecidableEq, Repr, Inhabited

/-! ### Chapter 14: host port and Hallway -/

/-- A fetched descriptor: ring entry, its eight words, started, items done as its record counts them, info word, final
status; `mark` is the next seq of a LOG_READ, the readable bank's seq at the latest copy of a TRACE. -/
structure DescS where
  entry   : Nat
  words   : List Nat
  started : Bool := false
  done    : Nat := 0
  info    : Nat := 0
  status  : Option Nat := none
  mark    : Nat := 0
deriving DecidableEq, Repr, Inhabited

/-- A submission queue beside its registers: descriptors in flight, oldest first; an abort in progress, with the info word
of its ABORTED records where the owner's region was reset. -/
structure HwQ where
  flight : List DescS := []
  abort  : Option Bool := none
deriving DecidableEq, Repr, Inhabited

/-- Compare-and-swaps on one flag in one tick (R31): the buffer, its owner and change count before the first of them and
after the last, and each request (requester, word) in order of precedence. -/
structure CasTick where
  buf   : Nat
  owner : Nat
  gen   : Byte
  endO  : Nat
  endG  : Byte
  reqs  : List (Requester × Nat)
deriving DecidableEq, Repr, Inhabited

/-- The host port and the Hallway beside their registers and buffers: read latency; READ_STATUS bits late, err and rst;
bytes that the port last put out; results of HW_CAS by requester (old, ok) and the swaps of this tick; queues whose failure has been logged since
HW_FLAGS.desc_fail was last clear; the queue that fetching looks at next; the ticks at which the completion rings' timers
started (R567); the HOST_SLEEP pin, which no reset of the module moves; the eight queues. -/
structure HwS where
  lat   : Nat := 24
  late  : Bool := false
  err   : Bool := false
  rst   : Bool := true
  out   : List Byte := []
  cas   : List (Nat × (Bool × Bool)) := []
  swaps : List CasTick := []
  fails : Nat := 0
  turn  : Nat := 0
  annAt : List Nat := [0, 0, 0, 0, 0, 0, 0, 0]
  sleepPin : Bool := false
  q     : List HwQ := [{}, {}, {}, {}, {}, {}, {}, {}]
deriving DecidableEq, Repr, Inhabited

/-! ### Chapter 15: CAN controllers and Porch -/

/-- A received frame: matching filter (31 for none), through the high-priority buffer, CLK_MAIN count at SOF. -/
structure RxFrame where
  frame  : CanFrame
  filter : Nat
  hp     : Bool
  ts     : Nat
deriving DecidableEq, Repr

/-- A CAN controller beside its registers: receive FIFO (oldest first), high-priority buffer and its window, words of the
three frame records by (buffer, word), the frame in transmission (buffer, tick of SOF) and the status it ends with if it
does not succeed (0: none asked), the bus free for a frame, bus-off recovery counting; the
tick of the latest abort requests and the buffers that they name. -/
structure CanS where
  fifo    : List RxFrame := []
  held    : Option RxFrame := none
  window  : Option RxFrame := none
  recs    : List (Nat × Nat) := []
  cur     : Option (Nat × Nat) := none
  endAs   : Nat := 0
  busFree : Bool := false
  recov   : Bool := false
  aborts  : Nat × List Nat := (0, [])
deriving DecidableEq, Repr, Inhabited

/-- What a frame of Porch is: a claim, a cannot-claim message, a frame of session `s` (0 RTS, 1 BAM, 2 data, 3 CTS, 4 DPO),
anything else. -/
inductive OutKind where
  | claim
  | cannot
  | ses (s what : Nat)
  | other
deriving DecidableEq, Repr, Inhabited

/-- A frame that Porch has to send: its kind, priority, PGN, destination, bytes, sent as a single attempt. -/
structure OutFrame where
  kind : OutKind
  prio : Nat
  pgn  : Nat
  dest : Nat
  data : List Byte
  once : Bool := false
deriving DecidableEq, Repr, Inhabited

/-- A Porch port beside its registers: claims waiting for buffer 0, frames waiting for buffer 1, the frames in the two
buffers; its claim frame sent, the tick of its end; a cannot-claim message due, its tick; addresses claimed by other NAMEs
since enable; ticks of the bit errors counted, newest first; byte 4 of the latest module status; the next status message due;
message counters; streams of checked messages (4·type + cluster, last counter); the ticks from which the periods of the
status messages, of the probes and of CMD_LOST run. -/
structure PortS where
  claims    : List OutFrame := []
  out       : List OutFrame := []
  buf0      : Option OutKind := none
  buf1      : Option OutKind := none
  claimSent : Bool := false
  claimTick : Nat := 0
  losing    : Bool := false
  loseAt    : Nat := 0
  taken     : List Nat := []
  berrs     : List Nat := []
  lastPeak  : Nat := 0
  due       : Nat := 0
  counts    : List Nat := [0, 0, 0, 0, 0]
  streams   : List (Nat × Nat) := []
  statAt    : Nat := 0
  probeAt   : Nat := 0
  applied   : Nat := 0
deriving DecidableEq, Repr, Inhabited

/-- A transport session beside its registers: next packet, last packet of the window, packets per CTS, retransmissions by
packet, timer running (0 none, 1 to 4 T1 to T4, 5 BAM gap) and its start, BAM, packet offset of ETP data. -/
structure SesS where
  next   : Nat := 1
  winEnd : Nat := 0
  max    : Nat := 16
  tries  : List (Nat × Nat) := []
  timer  : Nat := 0
  timAt  : Nat := 0
  bam    : Bool := false
  dpo    : Nat := 0
deriving DecidableEq, Repr, Inhabited

/-- Porch beside its registers: ports, sessions, the held request was global, its tick, ticks of the latest applied command by
cluster, streams of the processor safety channel's messages (4·type + cluster, last counter). -/
structure PorchS where
  port      : List PortS := [{}, {}, {}, {}]
  ses       : List SesS := [{}, {}, {}, {}, {}, {}, {}, {}, {}, {}, {}, {}, {}, {}, {}, {}]
  reqGlobal : Bool := false
  reqAt     : Nat := 0
  cmdAt     : List (Option Nat) := [none, none, none, none]
  safe      : List (Nat × Nat) := []
deriving DecidableEq, Repr, Inhabited

/-! ### Chapter 16: ring and twin link -/

/-- A message of a transmit slot beside its registers: sequence number, a try in flight, waiting for the window, to be
aborted; destination, length and first buffer taken at its start; the latest try's tick and the transmitter that it left
(true: B). -/
structure MsgS where
  seq      : Nat := 0
  inFlight : Bool := false
  waits    : Bool := false
  stop     : Bool := false
  dst      : Nat := 0
  len      : Nat := 0
  buf      : Nat := 0
  tryAt    : Nat := 0
  firstB   : Bool := false
deriving DecidableEq, Repr, Inhabited

/-- The ring beside its registers: stopped with the clock; tick of the cycle's start; own cyclic frame under way and the
transmitter that it first left on (true: B); nodes heard in this cycle, consecutive cycles without each; consecutive cycles
in which the peer's ring, twin or both heartbeats alone were missed, twin heartbeat of this cycle; snapshot (empty: none),
bank bit at the latest cycle start, cycle starts since it toggled; clusters with a setpoint in this cycle, consecutive
cycles without; wrapping for a lost receiver A and B, each ready again; a wrapped frame heard, one not ready; heal at the
next cycle start, heal set in the frame of this cycle; tick of the enable; the timer follows a manager, moved in this cycle;
ticks of the losses of A and B; latest loop length reported by RING_OVERLEN; messages; frames in transit and own answers (transmitter B,
frame), last on each; stored sequence numbers by 4·source + slot; tick until which the transmitters are busy; latest cyclic
frame put out on each transmitter. -/
structure RingS where
  stopped  : Bool := false
  cycleAt  : Nat := 0
  sent     : Bool := false
  firstB   : Bool := false
  heard    : Nat := 0
  missing  : List (Nat × Nat) := []
  runRing  : Nat := 0
  runTwin  : Nat := 0
  runBoth  : Nat := 0
  twinHb   : Bool := false
  snap     : List Byte := []
  bankWas  : Nat := 0
  bankAge  : Nat := 0
  taken    : Nat := 0
  spMiss   : List Nat := [0, 0, 0, 0]
  wrapA    : Bool := false
  wrapB    : Bool := false
  readyA   : Bool := false
  readyB   : Bool := false
  sawWrap  : Bool := false
  unready  : Bool := false
  healNext : Bool := false
  healSent : Bool := false
  startAt  : Nat := 0
  locked   : Bool := false
  moved    : Bool := false
  lostA    : Nat := 0
  lostB    : Nat := 0
  mgrHeard : Bool := false
  overLen  : Nat := 0
  msgs     : List MsgS := [{}, {}, {}, {}]
  transit  : List (Bool × AcyclicFrame) := []
  answers  : List (Bool × AcyclicFrame) := []
  stored   : List (Nat × Nat) := []
  busyTo   : Nat := 0
  outA     : List Byte := []
  outB     : List Byte := []
  outMsg   : List (Bool × AcyclicFrame) := []
deriving DecidableEq, Repr, Inhabited

/-- The twin link beside its registers: heartbeats sent, bytes of the copy sent in this cycle; the copy being received: next
offset, under way, failed; the tick at which the copy being sent ends (0: none). -/
structure TwinS where
  beats  : Nat := 0
  sent   : List Byte := []
  next   : Nat := 0
  run    : Bool := false
  failed : Bool := false
  busyTo : Nat := 0
deriving DecidableEq, Repr, Inhabited

/-! ### The module -/

/-- Everything of the module but the queue. `now` counts CLK_MAIN ticks since the last control-die reset; `regs` is the
register file, keyed by field; `mem` the byte memory; `ecc` the words whose check bits are wrong (1 or 2 bits);
`free` the number of free values used; `fab` the words last written to the registers of fabric units (R13, R142). -/
structure Chip where
  now     : Nat := 0
  regs    : List (Nat × Nat) := []
  mem     : List Host.Cell := []
  ecc     : List (Nat × Nat) := []
  free    : Nat := 0
  fab     : List (Nat × Nat) := []
  log     : LogS := {}
  bus     : BusS := {}
  pwr     : PowerS := {}
  cfg     : CfgS := {}
  img     : Image := {}
  rgn     : List RegionS := [{}, {}]
  cl      : List ClusterS := [{}, {}, {}, {}]
  adc     : AdcS := {}
  meas    : List MeasS := [{}, {}, {}, {}]
  pos     : List PosS := [{}, {}]
  cle     : List CleS := [{}, {}, {}, {}]
  slice   : List SliceS := [{}, {}, {}, {}, {}, {}, {}, {}, {}, {}, {}, {}, {}, {}, {}, {}]
  pwmG    : PwmGS := {}
  isl     : List IslandS := [{}, {}, {}, {}, {}, {}, {}, {}, {}, {}, {}, {}]
  safe    : SafeS := {}
  chm     : ChmS := {}
  hart    : List HartS := [{}, {}, {}, {}]
  irq     : IrqS := {}
  sem     : SemS := {}
  memS    : MemS := {}
  hw      : HwS := {}
  can     : List CanS := [{}, {}, {}, {}]
  porch   : PorchS := {}
  ring    : RingS := {}
  twin    : TwinS := {}
deriving DecidableEq, Repr, Inhabited

/-- The state of the machine: the module, and the commands waiting, first in, first out. -/
structure State where
  chip    : Chip := {}
  pending : List Instr := []
deriving DecidableEq, Repr

/-- The state right after the control die's first release: PLL locked, both regions held in reset, every register at
its reset value, memory with nothing listed, no command waiting. -/
def State.reset : State := {}

end Sys2Proof.Machine
end

