-- ==== Sys2Proof/Machine/Ops.lean ====
section
/-! DEFINITION. The named operations over registers, memory, instance lists, free values, time, and the fault log. -/

namespace Sys2Proof.Machine

/-! ### Instance lists -/

/-- Entry `i` of a list of instances. -/
def nth {α : Type} [Inhabited α] (l : List α) (i : Nat) : α := l.getD i default

/-- A list of instances with entry `i` changed. -/
def updNth {α : Type} (f : α → α) : Nat → List α → List α
  | _, [] => []
  | 0, a :: l => f a :: l
  | n + 1, a :: l => a :: updNth f n l

/-- Apply a state change for each element of a list, in order. -/
def forEach {α σ : Type} (l : List α) (f : α → σ → σ) (s : σ) : σ := l.foldl (fun t a => f a t) s

/-- The instance numbers below `n` whose bit stands in a mask, ascending. -/
def bitsOf (mask n : Nat) : List Nat := (List.range n).filter fun i => hasBit mask i

namespace Chip

/-! ### Registers -/

/-- The value of a register field: as many bits as it has. -/
def get (s : Chip) (f : Field) : Nat := lookupD f.reset f.key s.regs % 2 ^ f.width

/-- A register field takes a value, cut to its width. -/
def assign (s : Chip) (f : Field) (v : Nat) : Chip :=
  { s with regs := putAt f.reset f.key (v % 2 ^ f.width) s.regs }

/-- Bits of a W1C field that hardware sets in this tick: a write of 1 in the same tick does not clear them (R29). -/
def freshen (q : IrqS) (f : Field) (b : Nat) : IrqS :=
  if f.acc = .w1c && b != 0 then { q with fresh := putAt 0 f.key (lookupD 0 f.key q.fresh ||| b) q.fresh } else q

/-- A register field written by the hardware: a one-bit W1C field that it sets is marked as set in this tick. -/
def set (s : Chip) (f : Field) (v : Nat) : Chip :=
  { s with
    regs := putAt f.reset f.key (v % 2 ^ f.width) s.regs,
    irq := freshen s.irq f (if f.width = 1 then v % 2 else 0) }

/-- A one-bit field as a truth value. -/
def on (s : Chip) (f : Field) : Bool := s.get f == 1

/-- A one-bit field written with a truth value. -/
def put (s : Chip) (f : Field) (b : Bool) : Chip := s.set f (b2n b)

/-- A field that counts up to `m` and stays there. -/
def bump (s : Chip) (f : Field) (m : Nat) : Chip := s.set f (satInc m (s.get f))

/-- A field that counts and wraps at its width. -/
def count (s : Chip) (f : Field) : Chip := s.set f (s.get f + 1)

/-- Bit `i` of a field set by the hardware. -/
def setBitOf (s : Chip) (f : Field) (i : Nat) : Chip :=
  { s with
    regs := putAt f.reset f.key (setBit (s.get f) i % 2 ^ f.width) s.regs,
    irq := freshen s.irq f (2 ^ i) }

/-- Bit `i` of a field cleared. -/
def clrBitOf (s : Chip) (f : Field) (i : Nat) : Chip := s.assign f (clrBit (s.get f) i)

/-- Several fields written in order. -/
def sets (s : Chip) (l : List (Field × Nat)) : Chip := l.foldl (fun t p => t.set p.1 p.2) s

/-- Fields returned to their reset values. -/
def resetFields (s : Chip) (l : List Field) : Chip := l.foldl (fun t f => t.set f f.reset) s

/-- The fields as one register word. -/
def wordOf (s : Chip) (l : List Field) : Nat := l.foldl (fun a f => a + s.get f * 2 ^ f.lsb) 0

/-- The register word at an address as its fields hold it (0 where no register is populated). -/
def regWord (s : Chip) (a : Nat) : Nat := s.wordOf ((fieldsAt a).getD [])

/-- The word of a register whose fields all hold their reset values. -/
def resetWord (a : Nat) : Nat := ((fieldsAt a).getD []).foldl (fun w f => w + f.reset * 2 ^ f.lsb) 0

/-- All register fields whose address lies from `lo` to `hi` returned to their reset values. -/
def resetRange (s : Chip) (lo hi : Nat) : Chip :=
  { s with regs := s.regs.filter fun p => p.1 / 32 < lo || hi < p.1 / 32 }

/-! ### Byte memory -/

/-- What a byte that nothing has written reads as: erased flash reads 0xFF, every other memory 0x00 (log entry 4). -/
def unlisted (a : Nat) : Byte := if 0x10000000 ≤ a ∧ a < 0x10810000 then 0xFF else 0x00

/-- The key of a tightly coupled memory byte of region `g`: the bus address is the region's own (Table 13-3). -/
def tcmKey (g a : Nat) : Nat := 0x100000000 + g * 0x100000 + a

/-- The key of a byte of the identity memory of leg `m` (chapter 12). -/
def idKey (m a : Nat) : Nat := 0x200000000 + m * 0x10000 + a

/-- The key of byte i of the fabric half of region g as written at its latest start: 4,096 cell records of 18 bytes, then the
flip-flops' initial values (R12, R141). -/
def nodeKey (g i : Nat) : Nat := 0x300000000 + g * 0x20000 + i

def byte (s : Chip) (a : Nat) : Byte := lookupD (unlisted a) a s.mem

def setByte (s : Chip) (a : Nat) (b : Byte) : Chip := { s with mem := putAt (unlisted a) a b s.mem }

/-- `n` bytes from an address up. -/
def bytes (s : Chip) (a n : Nat) : List Byte := (List.range n).map fun i => s.byte (a + i)

/-- Store bytes from an address up. -/
def setBytes (s : Chip) (a : Nat) : List Byte → Chip
  | [] => s
  | b :: bs => (s.setByte a b).setBytes (a + 1) bs

/-- The little-endian value of `n` bytes. -/
def load (s : Chip) (a n : Nat) : Nat := leNat (s.bytes a n)

/-- Store the `n` low bytes of a value, little-endian. -/
def store (s : Chip) (a n v : Nat) : Chip := s.setBytes a (leBytes n v)

/-- `n` equal bytes. -/
def fill (s : Chip) (a n : Nat) (b : Byte) : Chip := s.setBytes a (List.replicate n b)

/-! ### Time and free values -/

/-- The 32-bit timestamp of R5. -/
def stamp (s : Chip) : Nat := s.now % 2 ^ 32

/-- Ticks in one millisecond. -/
def ms (n : Nat) : Nat := n * 200000

/-- The next free value (log entry 6). -/
def freeVal (s : Chip) : Nat := Config.freeValue s.free

/-- The free value used up. -/
def useFree (s : Chip) : Chip := { s with free := s.free + 1 }

/-! ### Instances -/

def cluster (s : Chip) (k : Nat) : ClusterS := nth s.cl k
def modCl (s : Chip) (k : Nat) (f : ClusterS → ClusterS) : Chip := { s with cl := updNth f k s.cl }
def region (s : Chip) (g : Nat) : RegionS := nth s.rgn g
def modRgn (s : Chip) (g : Nat) (f : RegionS → RegionS) : Chip := { s with rgn := updNth f g s.rgn }
def modSlice (s : Chip) (n : Nat) (f : SliceS → SliceS) : Chip := { s with slice := updNth f n s.slice }
def modIsl (s : Chip) (n : Nat) (f : IslandS → IslandS) : Chip := { s with isl := updNth f n s.isl }
def modPos (s : Chip) (n : Nat) (f : PosS → PosS) : Chip := { s with pos := updNth f n s.pos }
def modCle (s : Chip) (n : Nat) (f : CleS → CleS) : Chip := { s with cle := updNth f n s.cle }
def modMeas (s : Chip) (n : Nat) (f : MeasS → MeasS) : Chip := { s with meas := updNth f n s.meas }
def modHart (s : Chip) (n : Nat) (f : HartS → HartS) : Chip := { s with hart := updNth f n s.hart }

/-- Topology record of cluster `k` (Table 04-10); absent before an image is in force. -/
def topo (s : Chip) (k : Nat) : Topo := nth s.img.topo k

/-- Motor record of cluster `k` (Table 05-13). -/
def motor (s : Chip) (k : Nat) : Motor := nth s.img.motors k

/-- The region of cluster `k`. -/
def rgnOf (k : Nat) : Nat := k / 2

/-- The region of slice `n` (Table 01-5). -/
def sliceRgn (n : Nat) : Nat := if n < 3 then 0 else if n < 6 then 1 else if n < 11 then 0 else 1

/-- The clusters to which a topology mask assigns an instance. -/
def owners (s : Chip) (mask : Topo → Nat) (n : Nat) : List Nat :=
  (List.range 4).filter fun k => hasBit (mask (s.topo k)) n

/-- The cluster that a slice belongs to. -/
def sliceOwner (s : Chip) (n : Nat) : Option Nat := (s.owners (·.slices) n).head?

/-- The lead slice of a cluster: the lowest assigned (R15). -/
def leadSlice (s : Chip) (k : Nat) : Option Nat := (bitsOf (s.topo k).slices 16).head?

/-- The slices of a cluster, ascending. -/
def slicesOf (s : Chip) (k : Nat) : List Nat := bitsOf (s.topo k).slices 16

/-- The islands of a cluster: 2n and 2n+1 for its slices 0 to 5. -/
def islandsOf (s : Chip) (k : Nat) : List Nat :=
  (bitsOf (s.topo k).slices 6).flatMap fun n => [2 * n, 2 * n + 1]

/-- The cluster that owns an island. -/
def islOwner (s : Chip) (n : Nat) : Option Nat := s.sliceOwner (n / 2)

/-- The position channel of a cluster. -/
def posOf (s : Chip) (k : Nat) : Option Nat := if (s.topo k).position < 2 then some (s.topo k).position else none

/-- The partner cluster. -/
def partner (k : Nat) : Nat := if k % 2 = 0 then k + 1 else k - 1

/-- The engine set whose results serve cluster k: the partner's after a takeover (Table 05-10). -/
def engineOf (s : Chip) (k : Nat) : Nat := if (s.cluster k).duplex == .takeover then partner k else k

/-- The observer that serves cluster k has locked; one that is lent serves the partner (Table 05-9). -/
def obsLocked (s : Chip) (k : Nat) : Bool := s.on (Reg.OBS_STAT_obs_lock (s.engineOf k)) && !s.on (Reg.SEQ_STAT_lent k)

/-- The cluster state (Table 05-1): 0 IDLE, 1 CATCH, 2 RUN, 3 DECEL, 4 SAFE, 5 HALTED. -/
def clState (s : Chip) (k : Nat) : Nat := s.get (Reg.SEQ_STAT_state k)

/-- The cluster is IDLE or HALTED. -/
def quiet (s : Chip) (k : Nat) : Bool := s.clState k == 0 || s.clState k == 5

/-- Every cluster is IDLE or HALTED. -/
def allQuiet (s : Chip) : Bool := s.quiet 0 && s.quiet 1 && s.quiet 2 && s.quiet 3

/-- The clusters of topology type 1 to 3. -/
def motorClusters (s : Chip) : List Nat :=
  (List.range 4).filter fun k => 1 ≤ (s.topo k).type && (s.topo k).type ≤ 3

/-- The life-cycle state that the fuses hold. -/
def lcState (f : Fuses) : Nat :=
  if f.retired then 4 else if f.field then (if f.toggles % 2 = 1 then 3 else 2) else if f.integrate then 1 else 0

/-- The life-cycle state in effect: the fuses' until the start has shown it, and then that (R156). -/
def lcNow (s : Chip) : Nat := if s.cfg.boot = 0 then lcState s.cfg.fuses else s.get Reg.CFG_LC_STAT_state

/-- The life-cycle state RETIRED (Table 04-13). -/
def retired (s : Chip) : Bool := s.lcNow == 4

/-! ### Lands (R53, R56, R143) -/

/-- The function of a low-voltage land or island; one without a PINFUNC entry has function 1. -/
def pinFunc (s : Chip) (pin : Nat) : Nat := ((s.img.pins.find? fun p => p.pin = pin).map (·.func)).getD 1

/-- The pin id of the land in row index r and column c. -/
def land (r c : Nat) : Nat := r * 24 + c - 1

/-- None of the lands is marked unused. -/
def landsUsed (s : Chip) (l : List Nat) : Bool := l.all fun p => s.pinFunc p != 0

/-- The lands of transformer k: AE(3+2k) and AE(4+2k), or A(2k−3) and A(2k−2). -/
def xfmrLands (k : Nat) : List Nat :=
  if k < 3 then [land 23 (3 + 2 * k), land 23 (4 + 2 * k)] else [land 0 (2 * k - 3), land 0 (2 * k - 2)]

/-- The lands of CAN controller n: rows D to K, columns 2. -/
def canLands (n : Nat) : List Nat := [[land 3 2, land 4 2], [land 5 2, land 6 2], [land 7 2, land 8 2], [land 9 2, land 10 2]].getD n []

/-- The lands of identity bus b: M2, N2; P2, T2. -/
def idLands (b : Nat) : List Nat := if b = 0 then [land 11 2, land 12 2] else [land 13 2, land 14 2]

/-- The resolver excitation lands of channel n: AD10, AD11; B10, B11. -/
def excLands (n : Nat) : List Nat := if n = 0 then [land 22 10, land 22 11] else [land 1 10, land 1 11]

/-- WAKE3, at AA23. -/
def wake3Land : Nat := land 19 23

/-! ### Transformer drivers (R75, R408) -/

/-- Transformer k is to switch: enabled, its lands in use, its ISO_EN output asserted. -/
def xfmrWant (s : Chip) (k : Nat) : Bool :=
  hasBit (s.get Reg.ISL_XFMR_CFG_en) k && s.landsUsed (xfmrLands k)
    && s.on (if k < 3 then Reg.SAFE_STAT_iso_en_a else Reg.SAFE_STAT_iso_en_b)

/-- The drivers start and stop; after a stop of more than 10 µs the duty ramps from 0. -/
def xfmrUpdate (s : Chip) : Chip :=
  forEach (List.range 6) (fun k t =>
    let x := nth t.safe.xfmr k
    let y : XfmrS :=
      if t.xfmrWant k && !x.on then
        { x with on := true, onAt := t.now, ramp := match x.offAt with
          | some o => 2000 < t.now - o
          | none => true }
      else if !t.xfmrWant k && x.on then { x with on := false, offAt := some t.now }
      else x
    { t with safe := { t.safe with xfmr := updNth (fun _ => y) k t.safe.xfmr } }) s

/-- The switching frequency of transformer k's primary in Hz, 0 with its drivers off; code 3 acts as 0 (R408). -/
def xfmrHz (s : Chip) (k : Nat) : Nat :=
  if (nth s.safe.xfmr k).on then [500000, 250000, 1000000, 500000].getD (s.get Reg.ISL_XFMR_CFG_freq) 500000 else 0

/-- The duty of transformer k's drivers, in 1/200,000 of full. -/
def xfmrDuty (s : Chip) (k : Nat) : Nat :=
  let x := nth s.safe.xfmr k
  if !x.on then 0 else if x.ramp then min 200000 (s.now - x.onAt) else 200000

/-- An ISO_EN output takes a level, and the drivers on its side follow. -/
def putIso (s : Chip) (g : Nat) (b : Bool) : Chip :=
  (s.put (if g = 0 then Reg.SAFE_STAT_iso_en_a else Reg.SAFE_STAT_iso_en_b) b).xfmrUpdate

/-! ### The fault log -/

/-- The ring_cycle of a log entry (Table 01-13). -/
def ringCycle (s : Chip) : Nat :=
  let st := s.get Reg.RING_STAT_state
  if 1 ≤ st ∧ st ≤ 3 then s.get Reg.RING_COUNT_count % 65536 else 0

/-- The least severe class among entries. -/
def leastClass : List LogEntry → Nat
  | [] => 0
  | [e] => e.cls
  | e :: l => min e.cls (leastClass l)

/-- Take out the first entry of a class. -/
def dropClass (c : Nat) : List LogEntry → List LogEntry
  | [] => []
  | e :: l => if e.cls = c then l else e :: dropClass c l

/-- The latest entries of a log that were detected in the tick of a new one and have a greater code: they come after it
(R48). -/
def laterCodes (e : LogEntry) (q : List LogEntry) : List LogEntry :=
  (q.reverse.takeWhile fun x => x.ts == e.ts && decide (e.code < x.code)).reverse

/-- A log with a new entry at the place that R48 gives it. -/
def insertLog (q : List LogEntry) (e : LogEntry) : List LogEntry :=
  q.take (q.length - (laterCodes e q).length) ++ e :: laterCodes e q

/-- The sequence numbers of a new entry and of those that come after it: the numbers that they have, in rising order. -/
def seqsFrom (q : List LogEntry) (e : LogEntry) : List Nat := (laterCodes e q).map (·.seq) ++ [e.seq]

/-- An entry as a new one leaves it: one that comes after the new entry takes the next number. -/
def renumber (q : List LogEntry) (e x : LogEntry) : LogEntry :=
  match ((laterCodes e q).zip ((seqsFrom q e).drop 1)).find? fun p => p.1 = x with
  | some p => { x with seq := p.2 }
  | none => x

/-- The queue with a new entry; above 64 the oldest entry of the least severe class gives way (R671). -/
def enqueue (q : List LogEntry) (e : LogEntry) : List LogEntry :=
  let all := insertLog (q.map (renumber q e)) { e with seq := (seqsFrom q e).headD e.seq }
  if all.length ≤ 64 then all else dropClass (leastClass all) all

/-- An entry written to the Cellar's retention log of 16 entries, the oldest overwritten (R51): place log_head of the full log
holds the oldest. -/
def retain (s : Chip) (e : LogEntry) : Chip :=
  let h := s.get Reg.CEL_STAT_log_head
  let full := s.log.retention.length ≥ 16
  let r := if full then
      let l := (insertLog (s.log.retention.drop h ++ s.log.retention.take h) e).drop 1
      let h := (h + 1) % 16
      l.drop (16 - h) ++ l.take (16 - h)
    else insertLog s.log.retention e
  let s := { s with log := { s.log with retention := r } }
  let s := s.set Reg.CEL_STAT_log_head ((h + 1) % 16)
  if full then s.put Reg.CEL_STAT_log_wrapped true else s

/-- Record a fault: it enters the log's queue with its seq, timestamp and ring_cycle; HALT and LATCH entries also go to
the retention log (R49 to R51, R671), as do the records of resets and of RESET_STUCK. Entries of one tick stand in rising order
of code, and so do their sequence numbers (R48). Classes: 0 NOTE, 1 LIMIT, 2 SAFE, 3 LATCH, 4 HALT. `cluster` is 7 for none. -/
def record (s : Chip) (code cls inst cluster region data : Nat) : Chip :=
  let e : LogEntry := ⟨code, cls, inst, cluster, region, s.stamp, s.ringCycle, s.log.seq, data % 2 ^ 32⟩
  let q := s.log.queue
  let s := { s with log := { s.log with
    queue := enqueue q e, seq := (s.log.seq + 1) % 65536, retention := s.log.retention.map (renumber q e) } }
  let s := if cls ≥ 3 || code == 0x0E13 || code == 0x0E10 then s.retain { e with seq := (seqsFrom q e).headD e.seq } else s
  if cluster < 4 then
    (((s.set (Reg.SEQ_FAULT_code cluster) code).set (Reg.SEQ_FAULT_class cluster) cls).set
      (Reg.SEQ_FLAGS_fault cluster) 1)
  else s

/-- Record a NOTE that belongs to no cluster. -/
def note (s : Chip) (code inst data : Nat) : Chip := s.record code 0 inst 7 0 data

/-- Record a NOTE of a cluster. -/
def noteCl (s : Chip) (code k data : Nat) : Chip := s.record code 0 k k (rgnOf k) data

/-- The first entry that a test selects is taken out of the log, and the numbers after it close up. -/
def unrecord (s : Chip) (p : LogEntry → Bool) : Chip :=
  match s.log.queue.find? p with
  | none => s
  | some e =>
    let down (x : LogEntry) : LogEntry :=
      let d := (x.seq + 65536 - e.seq) % 65536
      if 0 < d ∧ d < 32768 then { x with seq := (x.seq + 65535) % 65536 } else x
    { s with log := { s.log with
      queue := (s.log.queue.erase e).map down, retention := s.log.retention.map down, seq := (s.log.seq + 65535) % 65536 } }

/-- Set a flag; where it stood clear, record the fault as well (R670). -/
def firstNote (s : Chip) (flag : Field) (code inst data : Nat) : Chip :=
  if s.on flag then s.put flag true else (s.put flag true).note code inst data

end Chip

end Sys2Proof.Machine
end

