-- ==== Sys2Proof/Machine/Flags.lean ====
section
/-! DEFINITION. Flags and interrupts (chapter 13): the live levels of the shared sources, pending bits, moderation
groups, the harts' lines, the waking of a waiting hart; and how a command's outcome is settled. -/

namespace Sys2Proof.Machine

namespace Chip

/-- The word at an address whose fields all reset to 0, read from the listed fields alone. -/
def rawWord (s : Chip) (a : Nat) : Nat :=
  s.regs.foldl (fun w p => if p.1 / 32 = a then w + p.2 * 2 ^ (p.1 % 32) else w) 0

/-- A flag register AND its enable register is non-zero. -/
def both (s : Chip) (flags en : Nat) : Bool := (s.rawWord flags &&& s.rawWord en) != 0

/-- The live level of each level source of Table 13-9. -/
def levelList (s : Chip) : List (Nat × Bool) :=
  [(0, s.both 0x41400004 0x41400008),
   (3, s.rawWord 0x41A00004 % 8 != 0), (4, s.rawWord 0x41A00004 / 8 != 0), (5, s.rawWord 0x41A00814 != 0),
   (6, s.rawWord 0x41B0000C != 0), (7, s.both 0x41900400 0x41900404)]
  ++ (List.range 4).flatMap (fun k =>
    [(8 + k, s.both (0x4000000C + 0x10000 * k) (0x40000010 + 0x10000 * k)),
     (12 + k, s.both (0x40002008 + 0x10000 * k) (0x4000200C + 0x10000 * k)),
     (16 + k, s.both (0x41201110 + 0x200 * k) (0x41201114 + 0x200 * k)),
     (65 + k, s.both (0x4160000C + 0x1000 * k) (0x41600010 + 0x1000 * k)),
     (69 + k, s.on (Reg.CAN_HP_STAT_new k) && s.on (Reg.CAN_CFG_hp_irq k))])
  ++ [(20, s.both 0x41200008 0x4120000C), (21, s.both 0x41200404 0x41200408),
      (22, s.both 0x41300018 0x4130001C), (23, s.both 0x41300118 0x4130011C)]
  ++ (List.range 16).map (fun n => (24 + n, s.both (0x41000044 + 0x100 * n) (0x41000048 + 0x100 * n)))
  ++ [(40, s.both 0x41001018 0x4100101C)]
  ++ (List.range 12).map (fun n => (41 + n, s.both (0x4110000C + 0x200 * n) (0x41100010 + 0x200 * n)))
  ++ [(53, s.both 0x41101808 0x4110180C), (54, s.both 0x41500008 0x4150000C), (55, s.both 0x41800004 0x41800008),
      (73, s.both 0x41640008 0x4164000C), (74, s.both 0x4170000C 0x41700010), (76, s.both 0x41710014 0x41710018),
      (77, s.both 0x41C2001C 0x41C20020)]

/-- The live levels as a mask over the 128 shared sources; the fabric's lines are sources 96 to 127. -/
def levels (s : Chip) : Nat :=
  (s.levelList.foldl (fun w p => if p.2 then w + 2 ^ p.1 else w) 0) + s.irq.fabric % 2 ^ 32 * 2 ^ 96

/-- The edge sources of Table 13-9. -/
def edgeSource (n : Nat) : Bool := n == 1 || n == 2 || (56 ≤ n && n ≤ 64) || n == 75

/-- The safety ticks have fixed routes (R535). -/
def fixedRoute (n : Nat) : Bool := n == 1 || n == 2

/-- The route byte of source n as it is written. -/
def routeByte (s : Chip) (n : Nat) : Nat :=
  let w := n / 4
  let b := n % 4
  s.get (Reg.IRQ_ROUTE_target w b) + 16 * s.get (Reg.IRQ_ROUTE_group w b) + 64 * s.get (Reg.IRQ_ROUTE_sticky w b)
    + 128 * s.get (Reg.IRQ_ROUTE_en w b)

/-- The route byte of source n in effect: one written while the source is pending takes effect in the next tick (R534). -/
def route (s : Chip) (n : Nat) : Nat :=
  match s.irq.routes.find? fun p => p.1 = n with
  | some p => p.2
  | none => s.routeByte n

def routeEn (s : Chip) (n : Nat) : Bool := fixedRoute n || hasBit (s.route n) 7
def routeSticky (s : Chip) (n : Nat) : Bool := !fixedRoute n && hasBit (s.route n) 6
def routeGroup (s : Chip) (n : Nat) : Nat := if fixedRoute n then 0 else part (s.route n) 4 2

/-- The pair of region `g` runs in lockstep (R514). -/
def locked (s : Chip) (g : Nat) : Bool := !(s.region g).split

/-- Every hart of region g waits, so that the pair's clock is stopped (R112). Of a split pair of which one core waits, the one
status bit for its two clocks reads 0 (log entry 54). -/
def pairWaits (s : Chip) (g : Nat) : Bool :=
  !(s.region g).inReset && (nth s.hart (2 * g)).wfi && (s.locked g || (nth s.hart (2 * g + 1)).wfi)

/-- The hart that core `c` belongs to: a locked pair is the first core's hart (R514). -/
def hartOf (s : Chip) (c : Nat) : Nat := if s.locked (c / 2) then c / 2 * 2 else c

/-- The hart a route names (R534). -/
def routeHart (s : Chip) (n : Nat) : Nat := if fixedRoute n then 2 * (n - 1) else s.hartOf (part (s.route n) 0 2)

/-- The pending bit of shared source `n` (R536). -/
def pend (s : Chip) (n : Nat) : Bool :=
  if edgeSource n || s.routeSticky n then hasBit s.irq.latch n else hasBit s.irq.prev n

/-- The mask of pending shared sources. -/
def pendMask (s : Chip) : Nat := (List.range 128).foldl (fun w n => if s.pend n then w + 2 ^ n else w) 0

/-- The sources pending, enabled and routed to a hart (IRQ_Cc_PEND). -/
def pendFor (s : Chip) (c : Nat) : List Nat :=
  (List.range 128).filter fun n => s.pend n && s.routeEn n && s.routeHart n == c

def group (s : Chip) (c g : Nat) : GroupS := nth s.irq.groups (3 * c + g - 1)

def modGroup (s : Chip) (c g : Nat) (f : GroupS → GroupS) : Chip :=
  { s with irq := { s.irq with groups := updNth f (3 * c + g - 1) s.irq.groups } }

/-- One moderation event of source `n`: it counts in its group and starts the group's timer (R540). -/
def moderate (s : Chip) (n : Nat) : Chip :=
  if s.routeEn n && s.routeGroup n != 0 then
    s.modGroup (s.routeHart n) (s.routeGroup n) fun m =>
      { m with count := m.count + 1, timer := true, since := if m.timer then m.since else s.now }
  else s

/-- One pulse of an edge source. -/
def pulse (s : Chip) (n : Nat) : Chip :=
  ({ s with irq := { s.irq with latch := setBit s.irq.latch n, pulsed := setBit s.irq.pulsed n } }).moderate n

/-- A private source of core `c` (Table 13-10). -/
def privateSrc (s : Chip) (c j : Nat) : Chip := s.setBitOf (Reg.IRQ_C_PRIV_pend (s.hartOf c)) j

/-- A group releases at its count or with its hart idle, and ends when none of its sources is pending (R540). -/
def settleGroup (s : Chip) (c g : Nat) : Chip :=
  let m := s.group c g
  let limit := max 1 (s.get (Reg.IRQ_C_MOD_count c (g - 1)))
  let any := (s.pendFor c).any fun n => s.routeGroup n == g
  if m.released || (m.count > 0 && (m.count ≥ limit || (nth s.hart c).wfi)) then
    s.modGroup c g fun m => if any then { m with released := true } else {}
  else s

/-- MEIP of hart `c` (R538). -/
def line (s : Chip) (c : Nat) : Bool :=
  (s.get (Reg.IRQ_C_PRIV_pend c) &&& s.get (Reg.IRQ_C_PRIV_en c)) != 0
    || (s.pendFor c).any fun n => s.routeGroup n == 0 || (s.group c (s.routeGroup n)).released

/-- The lines as a mask; a rise arms the spurious check (R537) and ends the hart's wait (R112). -/
def settleLine (s : Chip) (c : Nat) : Chip :=
  let now := s.line c
  let was := hasBit s.irq.lines c
  let s := { s with irq := { s.irq with
    lines := putBit s.irq.lines c now,
    armed := if now && !was then setBit s.irq.armed c else s.irq.armed } }
  if now && (nth s.hart c).wfi then s.modHart c fun h => { h with wfi := false } else s

/-- After a command: levels, sticky latches, moderation, lines. Nothing but the controller and the waits changes. -/
def settle (s : Chip) : Chip :=
  let lv := s.levels
  let rises := (List.range 128).filter fun n => hasBit lv n && !hasBit s.irq.prev n
  let keep := (List.range 128).foldl (fun w n =>
    if (edgeSource n && hasBit s.irq.latch n)
      || (!edgeSource n && s.routeSticky n && (hasBit s.irq.latch n || hasBit lv n)) then w + 2 ^ n else w) 0
  let s := { s with irq := { s.irq with prev := lv, latch := keep } }
  let s := forEach rises (fun n t => t.moderate n) s
  let s := forEach (List.range 4) (fun c t =>
    forEach [1, 2, 3] (fun g u => u.settleGroup c g) t) s
  forEach (List.range 4) (fun c t => t.settleLine c) s

/-- A new tick: what hardware set in the tick before is cleared by a write of 1 (R29), and requests of the new tick are
ranked among themselves (R28, R31, R32). -/
def newTick (s : Chip) : Chip :=
  { s with
    bus := { s.bus with landed := [] },
    irq := { s.irq with fresh := [], pulsed := 0, routes := [] },
    sem := { s.sem with now := [] },
    hw := { s.hw with swaps := [] } }

end Chip

/-! ### Commands -/

/-- The outcome of a command. -/
abbrev Out := Host.Outcome State Fault Refusal

/-- A command that changes the module and leaves the queue, whatever the control die's reset. -/
def State.actRaw (s : State) (f : Chip → Chip) : Out :=
  .next { s with chip := (f s.chip).settle }

/-- A command of the control die: while the die is in reset nothing of it acts (R124, log entry 20). -/
def State.act (s : State) (f : Chip → Chip) : Out := if s.chip.pwr.dieReset then .next s else s.actRaw f

/-- A command whose operands must be well formed. -/
def State.actIf (s : State) (ok : Bool) (f : Chip → Chip) : Out :=
  if ok then s.act f else .fault .illFormed

end Sys2Proof.Machine
end

