-- ==== Sys2Proof/Machine/PwmOps.lean ====
section
/-! DEFINITION. Shared operations of the slices (chapter 09): roles, the output stages of Table 09-2, edges of the
levels after the force, dead times and minimum pulses, gate enable, override codes, the copy at a reload point. -/

namespace Sys2Proof.Machine.Chip

def sl (s : Chip) (n : Nat) : SliceS := nth s.slice n

/-! ### Roles -/

/-- The cluster of slice `n` is of topology type 3 and holds it (Three-level patterns). -/
def threeLevel (s : Chip) (n : Nat) : Bool := n < 6 && (s.topo 0).type == 3 && hasBit (s.topo 0).slices n

/-- The outer slice of the phase that slice `n` belongs to. -/
def outerOf (n : Nat) : Nat := if n < 3 then n else n - 3

/-- The slice serves a block-commutated cluster. -/
def bcmSlice (s : Chip) (n : Nat) : Bool :=
  match s.sliceOwner n with
  | some k => (s.topo k).type == 5
  | none => false

/-- The slice that gives the carrier: the lead slice of the cluster (R331), the followed slice's (R334), or the slice
itself. -/
def carrierOf (s : Chip) (n : Nat) : Nat :=
  let own (m : Nat) : Nat := match s.sliceOwner m with
    | some k => (s.leadSlice k).getD m
    | none => m
  if (s.sliceOwner n).isNone && (s.sl n).synced then own (s.get (Reg.PWM_S_SYNC_src n)) else own n

/-- PER in force: values below 100 act as 100 (R330). -/
def perOf (s : Chip) (n : Nat) : Nat := max 100 (s.sl n).per

/-- A field of slice n as it stood at the start of the present tick (R338, R330). -/
def atStart (s : Chip) (n : Nat) (f : Field) : Nat :=
  if (s.sl n).oldAt == some s.now then
    match (s.sl n).old.find? fun p => p.1 = f.addr with
    | some p => part p.2 f.lsb f.width
    | none => s.get f
  else s.get f

/-- A word of slice n is to be written: what it held at the start of the tick is kept. -/
def keepOld (s : Chip) (n a : Nat) : Chip :=
  s.modSlice n fun c =>
    let l := if c.oldAt == some s.now then c.old else []
    { c with oldAt := some s.now, old := if l.any fun p => p.1 = a then l else (a, s.regWord a) :: l }

/-- The PER that a valley tick of slice n takes: the register of its lead slice or its own, or the followed slice's in force
(R330, R331, R334). -/
def nextPer (s : Chip) (n : Nat) : Nat :=
  if (s.sliceOwner n).isNone && (s.sl n).synced then (s.sl (s.carrierOf n)).per else s.atStart (s.carrierOf n) (Reg.PWM_S_PER_v (s.carrierOf n))

/-- The slice whose valley ticks time the carrier of slice n: its lead slice, else itself. -/
def timerOf (s : Chip) (n : Nat) : Nat :=
  match s.sliceOwner n with
  | some k => (s.leadSlice k).getD n
  | none => n

/-- Ticks since the latest valley tick of the carrier, within a period (R329). -/
def carrierTick (s : Chip) (n : Nat) : Nat :=
  match (s.sl (s.timerOf n)).valleyAt with
  | some v => (s.now - v) % (2 * s.perOf n)
  | none => 0

/-- The carrier's value and half in the present tick (R329). -/
def carrierVal (s : Chip) (n : Nat) : Nat :=
  if s.carrierTick n ≤ s.perOf n then s.carrierTick n else 2 * s.perOf n - s.carrierTick n

def carrierDown (s : Chip) (n : Nat) : Bool := s.perOf n ≤ s.carrierTick n

/-- The start of the present tick in fine steps from reset, and the last fine step of the tick. -/
def fineNow (s : Chip) : Nat := 64 * s.now
def fineEnd (s : Chip) : Nat := 64 * s.now + 63

/-- The fine time at which the present period of slice n began. -/
def fineValley (s : Chip) (n : Nat) : Nat := 64 * (s.sl n).valleyAt.getD s.now

/-- Where the delay line places an edge at a fine time: the tick, and taps of the code in force, none before the first valid
measurement (R337, R343). -/
def placed (s : Chip) (n t : Nat) : Nat × Nat := (t / 64, (2 * (t % 64 * (s.sl n).taps) + 64) / 128)

/-- The fine steps of half a period. -/
def halfFine (s : Chip) (n : Nat) : Nat := s.perOf n * 64

/-- A compare whose tick part is at or above PER acts as PER. -/
def cutCmp (s : Chip) (n c : Nat) : Nat := if c / 64 ≥ s.perOf n then s.halfFine n else c

/-- The upper island of the slice runs in BOOT mode (R405). -/
def bootSlice (s : Chip) (n : Nat) : Bool := n < 6 && s.on (Reg.ISL_CFG_supply (2 * n))

/-- The least compare in force with a bootstrap island: ⌈0.02 · PER · 64⌉ (R356). -/
def floorCmp (s : Chip) (n c : Nat) : Nat := if s.bootSlice n then max c ((s.halfFine n * 2 + 99) / 100) else c

/-- C_up, C_dn of the high output and of the low output in independent mode. -/
def cUp (s : Chip) (n : Nat) : Nat := s.floorCmp n (s.cutCmp n (s.sl n).cup)
def cDn (s : Chip) (n : Nat) : Nat := s.floorCmp n (s.cutCmp n (s.sl n).cdn)
def cLow (s : Chip) (n : Nat) : Nat := s.cutCmp n (s.sl n).clow

def indep (s : Chip) (n : Nat) : Bool := s.on (Reg.PWM_S_CFG_indep n)
def dth (s : Chip) (n : Nat) : Nat := s.get (Reg.PWM_S_DTH_v n)
def dtl (s : Chip) (n : Nat) : Nat := s.get (Reg.PWM_S_DTL_v n)
def minp (s : Chip) (n : Nat) : Nat := s.get (Reg.PWM_S_MINP_v n)
/-- The forces in force; 3 acts as 0 (R352). -/
def fh (s : Chip) (n : Nat) : Nat := (s.sl n).forceH % 3
def fl (s : Chip) (n : Nat) : Nat := (s.sl n).forceL % 3
def gateEn (s : Chip) (n : Nat) : Bool := s.on (Reg.PWM_S_STAT_gate_en n)
def ovr (s : Chip) (n : Nat) : Nat := s.get (Reg.PWM_S_STAT_ovr n)

/-- The refresh length in fine steps: the larger of refresh ticks and MINP (R357). -/
def refreshLen (s : Chip) (n : Nat) : Nat := max (s.get (Reg.PWM_S_BOOT_refresh n) * 64) (s.minp n)

/-! ### Stages 4 to 8 -/

/-- H after stage 4: T1 of an outer slice passes only while T2 has stood on (R361). -/
def gated4H (s : Chip) (n : Nat) : Bool :=
  (s.sl n).onH && (!(s.threeLevel n && n < 3) || ((s.sl (n + 3)).onH && (s.sl n).gateH))

/-- L after stage 4: T4 of an inner slice passes only while T3 has stood on. -/
def gated4L (s : Chip) (n : Nat) : Bool :=
  (s.sl n).onL && (!(s.threeLevel n && 3 ≤ n) || ((s.sl (n - 3)).onL && (s.sl n).gateL))

/-- H and L after stage 5. -/
def after5H (s : Chip) (n : Nat) : Bool := s.gated4H n && s.gateEn n
def after5L (s : Chip) (n : Nat) : Bool := s.gated4L n && s.gateEn n

/-- H and L after stage 7: a held combination is off; an override code governs; after its end both stay off until the
next reload point (R353, R364 to R366). -/
def after7H (s : Chip) (n : Nat) : Bool :=
  if s.ovr n != 0 then s.ovr n == 3 && (s.sl n).ovH
  else s.after5H n && !(s.sl n).held && !(s.sl n).ovEnd

def after7L (s : Chip) (n : Nat) : Bool :=
  if s.ovr n != 0 then s.ovr n == 2 && (s.sl n).ovL
  else s.after5L n && !(s.sl n).held && !(s.sl n).ovEnd

/-- The volt-second error and the bootstrap count of slice n brought up to a fine time: the H on-time that stage 4 gave less
that of the reference pattern (R350), T4's losses counted as H on-time gained (DEDUCED, log entry 37); H on since L last stood
on for the refresh length (R357). -/
def accrueOne (s : Chip) (n t : Nat) : Chip :=
  let c := s.sl n
  let d := t - c.accAt
  let got := if s.gated4H n then d else 0
  let lost := if s.threeLevel n && 3 ≤ n && c.onL && !s.gated4L n then d else 0
  let ref := match c.refOn with | some r => t - max c.accAt r | none => 0
  let charged := s.on (Reg.PWM_S_STAT_l_now n) && s.refreshLen n ≤ t - c.chgL
  let on := if charged then 0 else if s.on (Reg.PWM_S_STAT_h_now n) then c.bsOn + d else c.bsOn
  if t ≤ c.accAt then s
  else s.modSlice n fun c => { c with verr := c.verr + got + lost - ref, accAt := t, bsOn := on }

/-- As above for both slices of a three-level phase. -/
def accrue (s : Chip) (n t : Nat) : Chip :=
  if s.threeLevel n then (s.accrueOne (outerOf n) t).accrueOne (outerOf n + 3) t else s.accrueOne n t

/-- The outputs of one slice after stage 7, with the time and the place of an edge (R337). -/
def showOutputs (s : Chip) (n : Nat) : Chip :=
  let h := s.after7H n
  let l := s.after7L n
  let t := (s.sl n).accAt
  let s := if s.on (Reg.PWM_S_STAT_h_now n) == h then s
    else s.modSlice n fun c => { c with chgH := t, edgeH := s.placed n t }
  let s := if s.on (Reg.PWM_S_STAT_l_now n) == l then s
    else s.modSlice n fun c => { c with chgL := t, edgeL := s.placed n t }
  (s.put (Reg.PWM_S_STAT_h_now n) h).put (Reg.PWM_S_STAT_l_now n) l

/-- The levels of a slice brought up to date; a three-level phase also shows its state (PWM_TL_STAT). -/
def outputs (s : Chip) (n : Nat) : Chip :=
  if s.threeLevel n then
    let p := outerOf n
    let s := (s.showOutputs p).showOutputs (p + 3)
    s.set (Reg.PWM_TL_STAT_state p)
      (b2n (s.after5H p) + 2 * b2n (s.after5H (p + 3)) + 4 * b2n (s.after5L p) + 8 * b2n (s.after5L (p + 3)))
  else s.showOutputs n

/-- The stage-4 intervals end at once where their condition has gone (R361). -/
def dropGates (s : Chip) (n : Nat) : Chip :=
  if s.threeLevel n then
    let p := outerOf n
    let s := if (s.sl (p + 3)).onH then s else s.modSlice p fun c => { c with gateH := false }
    if (s.sl p).onL then s else s.modSlice (p + 3) fun c => { c with gateL := false }
  else s

/-- The land of an expansion output (Table 02-4): PWMXnH at AE(2n−2) or A(2n−12), PWMXnL beside it. -/
def expLand (n : Nat) (low : Bool) : Nat := (if n ≤ 10 then land 23 (2 * n - 2) else land 0 (2 * n - 12)) + b2n low

/-- The level that an expansion output drives: that of stage 7 with the inversion of its PINFUNC entry; `none` in high impedance
(R367). -/
def expLevel (s : Chip) (n : Nat) (low : Bool) : Option Bool :=
  if n < 6 || s.on (Reg.PWM_S_STAT_hiz n) then none
  else
    let inv := s.img.pins.any fun p => p.pin = expLand n low && hasBit p.attr 2
    some (s.on (if low then Reg.PWM_S_STAT_l_now n else Reg.PWM_S_STAT_h_now n) != inv)

/-! ### Stages 1 to 3 -/

/-- The level of one output after the force: its own force, else the complement of the forced other output, else raw. -/
def forced (compl : Bool) (f other : Nat) (raw : Bool) : Bool :=
  if f = 1 then false
  else if f = 2 then true
  else if compl && other = 1 then true
  else if compl && other = 2 then false
  else raw

/-- What the minimum-pulse rules make of the pulse that an edge would begin (Table 09-3): `none` no pulse,
`some false` normal, `some true` extended. `width` is the raw width, `dead` the dead time. -/
def decidePulse (s : Chip) (n width dead : Nat) : Option Bool :=
  let min := s.minp n
  if width ≤ dead then none
  else if width - dead ≥ min then some false
  else if s.on (Reg.PWM_S_CFG_policy n) then some true
  else none

/-- Flags of a short pulse. -/
def shortFlag (s : Chip) (n width dead : Nat) (d : Option Bool) : Chip :=
  match d with
  | some true => s.put (Reg.PWM_S_FLAGS_extend n) true
  | some false => s
  | none => if width ≤ dead then s else s.put (Reg.PWM_S_FLAGS_drop n) true

/-- An output that stood on falls, or stays for the rest of its minimum pulse; a forced-off output falls at once, and a refresh
runs to its end. -/
def fallH (s : Chip) (n : Nat) (cut : Bool) : Chip :=
  let c := s.sl n
  if c.onH && c.minH && !cut then
    (s.modSlice n fun c => { c with endH := true }).put (Reg.PWM_S_FLAGS_extend n) true
  else s.modSlice n fun c => { c with onH := false, waitH := false, skipH := false, minH := false, endH := false }

def fallL (s : Chip) (n : Nat) (cut : Bool) : Chip :=
  let c := s.sl n
  if c.refresh && !cut then s
  else if c.onL && c.minL && !cut then
    (s.modSlice n fun c => { c with endL := true }).put (Reg.PWM_S_FLAGS_extend n) true
  else s.modSlice n fun c => { c with onL := false, waitL := false, skipL := false, minL := false, endL := false, refresh := false }

/-- From a fine time an output waits for its dead time; in independent mode it rises at once. -/
def riseH (s : Chip) (n t : Nat) : Chip :=
  if s.indep n then s.modSlice n fun c => { c with onH := true, riseH := t, lenH := s.minp n, minH := s.minp n > 0 }
  else s.modSlice n fun c => { c with waitH := true, fromH := t }

def riseL (s : Chip) (n t : Nat) : Chip :=
  if s.indep n then s.modSlice n fun c => { c with onL := true, riseL := t, lenL := s.minp n, minL := s.minp n > 0 }
  else s.modSlice n fun c => { c with waitL := true, fromL := t }

/-- The levels after the force take new values at a fine time; the edges act under R347 to R352. `rawEdge` says that a raw edge,
not a force, is the cause, so that the minimum-pulse rules decide: from twice the distance to the pulse's centre (R348). The
reference of R350 starts and ends its H pulses by the same edges, the No pulse case included. -/
def effEdge (s : Chip) (n t : Nat) (rawEdge : Bool) : Chip :=
  let s := s.accrue n t
  let c := s.sl n
  let compl := !s.indep n
  let eh := forced compl (s.fh n) (s.fl n) c.rawH
  let el := forced compl (s.fl n) (s.fh n) c.rawL
  let upH := eh && !c.effH
  let upL := el && !c.effL
  let dnH := !eh && c.effH
  let dnL := !el && c.effL
  let at_ := t - s.fineValley n
  let toPeak := 2 * (s.halfFine n - at_)
  let toValley := if s.on (Reg.PWM_S_CNT_half n) then 2 * (2 * s.halfFine n - at_) else 0
  let wL := if compl then toValley else toPeak
  let dH := if compl then s.dth n else 0
  let dL := if compl then s.dtl n else 0
  let ruleH := rawEdge && s.fh n == 0
  let ruleL := rawEdge && s.fl n == 0
  let pH := if ruleH then s.decidePulse n toPeak dH else some false
  let pL := if ruleL then s.decidePulse n wL dL else some false
  let ref :=
    if upH && !(ruleH && toPeak ≤ dH) then some (c.refOn.getD (t + dH))
    else if dnH && !(compl && upL && ruleL && wL ≤ dL) then none
    else c.refOn
  let s := s.modSlice n fun c => { c with refOn := ref }
  -- an output that still stands on carries on; a pulse decided away leaves its complement on
  let newH := upH && !c.onH
  let newL := upL && !c.onL
  let s := if newH && ruleH then s.shortFlag n toPeak dH pH else s
  let s := if newL && ruleL then s.shortFlag n wL dL pL else s
  let stayL := compl && newH && pH.isNone
  let stayH := compl && newL && pL.isNone
  let s := if dnL && !stayL then s.fallL n (s.fl n == 1) else s
  let s := if dnH && !stayH then s.fallH n (s.fh n == 1) else s
  let s := if newH then (if pH.isNone then s.modSlice n fun c => { c with skipH := true }
    else if (s.sl n).endL || (s.sl n).refresh then s else s.riseH n t) else s
  let s := if newL then (if pL.isNone then s.modSlice n fun c => { c with skipL := true }
    else if (s.sl n).endH || (s.sl n).refresh then s else s.riseL n t) else s
  let s := s.modSlice n fun c => { c with effH := eh, effL := el }
  (s.dropGates n).outputs n

/-- The raw levels (stage 1) take new values at a fine time. -/
def rawLevels (s : Chip) (n t : Nat) (h l : Bool) : Chip :=
  (s.modSlice n fun c => { c with rawH := h, rawL := l }).effEdge n t true

/-- Each output starts again from off, taking its first on-state after its dead time, counted from a fine time (R346, R366); the
volt-second reference starts again with it. -/
def restartOutputs (s : Chip) (n t : Nat) : Chip :=
  let now := s.fineNow
  let s := s.accrue n now
  let c := s.sl n
  let i := s.indep n
  let h := c.effH && (i || t + s.dth n ≤ now)
  let l := c.effL && (i || t + s.dtl n ≤ now)
  let s := s.modSlice n fun _ => { c with
    onH := h, onL := l, waitH := c.effH && !h, waitL := c.effL && !l,
    fromH := t, fromL := t, riseH := now, riseL := now, lenH := s.minp n, lenL := s.minp n,
    refOn := if c.effH then some (if i then now else max now (t + s.dth n)) else none,
    skipH := false, skipL := false, minH := h && s.minp n > 0 && s.fh n != 2, minL := l && s.minp n > 0 && s.fl n != 2,
    endH := false, endL := false, gateH := false, gateL := false, refresh := false, ovEnd := false, freeAt := none }
  s.outputs n

/-- The raw levels at a fine time of the present period (R335, R336, R363). -/
def rawOf (s : Chip) (n t : Nat) : Bool × Bool :=
  let x := t - s.fineValley n
  let half := s.halfFine n
  let on (up dn : Nat) : Bool := if x < half then up ≤ x else x + dn < 2 * half
  let h := on (s.cUp n) (s.cDn n)
  if s.bcmSlice n then ((s.sl n).code == 1 && h, (s.sl n).code == 2)
  else (h, if s.indep n then on (s.cLow n) (s.cLow n) else !h)

/-- A carrier that starts or joins gives the slice its raw levels; the outputs start from off. -/
def rawStart (s : Chip) (n : Nat) : Chip :=
  let (h, l) := s.rawOf n s.fineNow
  let compl := !s.indep n
  let s := s.modSlice n fun c => { c with
    rawH := h, rawL := l, pulse := h, effH := forced compl (s.fh n) (s.fl n) h, effL := forced compl (s.fl n) (s.fh n) l }
  s.restartOutputs n s.fineNow

/-! ### Gate enable, override -/

/-- The slice's gates are enabled or disabled (R346); a disable ends a pulse that only its minimum length kept on (Table 09-11). -/
def setGate (s : Chip) (n : Nat) (b : Bool) : Chip :=
  if s.gateEn n == b then s
  else
    let s := (s.accrue n s.fineNow).put (Reg.PWM_S_STAT_gate_en n) b
    if b then s.restartOutputs n s.fineNow
    else
      let h := (s.sl n).endH
      let l := (s.sl n).endL
      let s := if h then s.fallH n true else s
      let s := if l then s.fallL n true else s
      let compl := !s.indep n
      let s := if h && compl && (s.sl n).effL && !(s.sl n).onL then s.riseL n s.fineNow else s
      let s := if l && compl && (s.sl n).effH && !(s.sl n).onH then s.riseH n s.fineNow else s
      ((s.modSlice n fun c => { c with minH := false, minL := false }).dropGates n).outputs n

/-- The dead times of stage 7: those that stood before a reset of the slice's region while it lasts, else the registers' (R372). -/
def ovDth (s : Chip) (n : Nat) : Nat := match (s.sl n).ovDt with | some p => p.1 | none => s.dth n
def ovDtl (s : Chip) (n : Nat) : Nat := match (s.sl n).ovDt with | some p => p.2 | none => s.dtl n

/-- The fine time at which an output that an override code turns on may rise: its dead time after its complement fell, and in a
three-level pair as long after the switch that comes before it in Table 09-9 rose (R365). -/
def ovRiseH (s : Chip) (n : Nat) : Nat :=
  max (s.sl n).chgL (if s.threeLevel n && n < 3 then (s.sl (n + 3)).chgH else 0) + s.ovDth n

def ovRiseL (s : Chip) (n : Nat) : Nat :=
  max (s.sl n).chgH (if s.threeLevel n && 3 ≤ n then (s.sl (n - 3)).chgL else 0) + s.ovDtl n

/-- An output that an override code turns on may rise by a fine time: its complement has stood off for its dead time, and in a
three-level pair the inner switch of T1 or the outer switch of T4 has stood on as long (R365, Table 09-9). -/
def mayRiseH (s : Chip) (n t : Nat) : Bool :=
  !s.on (Reg.PWM_S_STAT_l_now n) && s.ovRiseH n ≤ t && (!(s.threeLevel n && n < 3) || s.on (Reg.PWM_S_STAT_h_now (n + 3)))

def mayRiseL (s : Chip) (n t : Nat) : Bool :=
  !s.on (Reg.PWM_S_STAT_h_now n) && s.ovRiseL n ≤ t && (!(s.threeLevel n && 3 ≤ n) || s.on (Reg.PWM_S_STAT_l_now (n - 3)))

/-- An override code reaches a slice: 0 none, 1 OFF, 2 LOW_ON, 3 HIGH_ON. An output that the code turns off falls at
once; one that it turns on stays on or rises at once where its complement has stood off for its dead time, else after that
(R365). At its end the slice waits for its next reload point (R366). -/
def setOvr (s : Chip) (n code : Nat) : Chip :=
  if s.ovr n = code then s
  else
    let s := s.accrue n s.fineNow
    let h := s.after7H n || s.mayRiseH n s.fineNow
    let l := s.after7L n || s.mayRiseL n s.fineNow
    let s := s.modSlice n fun c => { c with
      ovH := code == 3 && h, ovL := code == 2 && l, ovEnd := code == 0 || c.ovEnd,
      freeAt := if code = 0 then some s.fineNow else none }
    (s.set (Reg.PWM_S_STAT_ovr n) code).outputs n

/-- A set of slices under one code. -/
def setOvrs (s : Chip) (l : List Nat) (code : Nat) : Chip := forEach l (fun n t => t.setOvr n code) s

/-! ### Combination check (R353) -/

/-- The reason of Table 09-6 that stands, 0 for none (reason 5 apart). -/
def combination (s : Chip) (n : Nat) : Nat :=
  let leg := s.on (Reg.PWM_S_CFG_leg n)
  let compl := !s.indep n
  let floor := s.get (Reg.PWM_S_FLOOR_v n)
  if (compl || leg) && s.fh n == 2 && s.fl n == 2 then 1
  else if compl && (s.dth n < floor || s.dtl n < floor) then 2
  else if leg && !compl then 3
  else if (compl || leg) && s.after5H n && s.after5L n then 4
  else 0

/-- The states of Table 09-9 as bits T1 to T4 from bit 0. -/
def allowedStates : List Nat := [0, 3, 2, 6, 4, 12]

/-- The phase of a three-level slice stands outside Table 09-9. -/
def badPhase (s : Chip) (n : Nat) : Bool :=
  s.threeLevel n && !(allowedStates.contains (s.get (Reg.PWM_TL_STAT_state (outerOf n))))

/-! ### Reload -/

/-- The copy of every RWS field from its shadow (R338). At the valley C_up takes CMPA, and C_dn too in single update; at
the peak C_dn takes it. -/
def copyShadows (s : Chip) (n : Nat) (peak dbl : Bool) : Chip :=
  let a := s.atStart n (Reg.PWM_S_CMPA_v n)
  let b := s.atStart n (Reg.PWM_S_CMPB_v n)
  let trig := (List.range 4).map fun j => (s.atStart n (Reg.PWM_S_TRIG_dir n j), s.atStart n (Reg.PWM_S_TRIG_val n j))
  let s := (s.set (Reg.PWM_S_ACTA_cmpa n) a).set (Reg.PWM_S_ACTB_cmpb n) b
  s.modSlice n fun c => { c with
    trig := trig, clow := b, cup := if peak then c.cup else a, cdn := if peak || !dbl then a else c.cdn }

/-- A slice's carrier joins the running carrier of its lead slice, with no offset (R331). -/
def joinCarrier (s : Chip) (n : Nat) : Chip :=
  let l := s.timerOf n
  let s := (s.accrue n s.fineNow).sets
    [(Reg.PWM_S_STAT_running n, 1), (Reg.PWM_S_CNT_half n, s.get (Reg.PWM_S_CNT_half l))]
  s.modSlice n fun c => { c with per := (s.sl l).per, stopping := false, valleyAt := (s.sl l).valleyAt, verr := 0, refOn := none }

/-- A slice's carrier starts with a valley tick. -/
def startCarrier (s : Chip) (n : Nat) : Chip :=
  let s := (s.accrue n s.fineNow).put (Reg.PWM_S_STAT_running n) true
  let s := (s.set (Reg.PWM_S_CNT_cnt n) 0).set (Reg.PWM_S_CNT_half n) 0
  s.modSlice n fun c => { c with
    per := s.nextPer n, stopping := false, valleyAt := some s.now, verr := 0,
    refOn := if s.gated4H n then some s.fineNow else none }

/-- A slice's carrier stops and holds the value 0; an unassigned slice's gates follow it (R346). -/
def stopCarrier (s : Chip) (n : Nat) : Chip :=
  let s := ((s.put (Reg.PWM_S_STAT_running n) false).set (Reg.PWM_S_CNT_cnt n) 0).set (Reg.PWM_S_CNT_half n) 0
  let s := s.modSlice n fun c => { c with stopping := false, synced := false, valleyAt := none }
  if (s.sliceOwner n).isNone then s.setGate n false else s

end Sys2Proof.Machine.Chip
end

