-- ==== Sys2Proof/Machine/SafeOps.lean ====
section
/-! DEFINITION. The hard-wired safety logic's shared operations (chapter 11): demands, exclusion of islands, the speed
rule and its override codes, the safe state held, SAFE_OK. -/

namespace Sys2Proof.Machine.Chip

/-- The module is in the coupled topology (R18, R145). -/
def coupled (s : Chip) : Bool := ((s.topo 0).type == 2 || (s.topo 0).type == 3) && (s.topo 2).type == 4

/-- Topology type 1 to 3. -/
def motorType (s : Chip) (k : Nat) : Bool := 1 ≤ (s.topo k).type && (s.topo k).type ≤ 3

/-! ### Comparators -/

/-- The role of CMPc; codes 5 to 15 act as 0 (R426). -/
def cmpRole (s : Chip) (c : Nat) : Nat :=
  let r := if c < 8 then s.get (Reg.SAFE_CMP_ROLE0_role c) else s.get (Reg.SAFE_CMP_ROLE1_role c)
  if r ≤ 4 then r else 0

/-- An enabled edge of an enabled comparator stands tripped after its filter. -/
def cmpTripped (s : Chip) (c : Nat) : Bool :=
  s.on (Reg.CMP_CFG_en c)
    && ((s.on (Reg.CMP_CFG_hi_en c) && hasBit (s.get Reg.CMP_STAT_hi_now) c)
      || (s.on (Reg.CMP_CFG_lo_en c) && hasBit (s.get Reg.CMP_STAT_lo_now) c))

/-- The comparator presents its output as not valid (R263). -/
def cmpInvalid (s : Chip) (c : Nat) : Bool :=
  !s.pwr.vddaOk && s.on (Reg.CMP_CFG_en c) && (s.on (Reg.CMP_CFG_hi_en c) || s.on (Reg.CMP_CFG_lo_en c))

/-- The comparator acts as tripped for its demand (R427). -/
def cmpActs (s : Chip) (c : Nat) : Bool := s.cmpTripped c || s.cmpInvalid c

/-- A role-3 comparator acts as tripped; stands tripped in fact, with a valid output (R427). -/
def ov3Acts (s : Chip) : Bool := (List.range 16).any fun c => s.cmpRole c == 3 && s.cmpActs c
def ov3Tripped (s : Chip) : Bool := (List.range 16).any fun c => s.cmpRole c == 3 && s.cmpTripped c && !s.cmpInvalid c

/-! ### Islands seen by the rule -/

/-- An island in use: PINFUNC does not mark it unused. -/
def islUsed (s : Chip) (n : Nat) : Bool := s.get (Reg.ISL_STAT_state n) != 7

/-- An island is excluded while in UNSUPPLIED, STARTING, FAULT, ORPHAN or LEAK_TEST, or without a valid channel; UNUSED
islands are not counted (R423). -/
def excluded (s : Chip) (n : Nat) : Bool :=
  let st := s.get (Reg.ISL_STAT_state n)
  st != 7 && (st == 0 || st == 1 || st == 4 || st == 5 || st == 6 || !s.on (Reg.ISL_STAT_chan_ok n))

def excludedLow (s : Chip) (k : Nat) : Bool := (s.islandsOf k).any fun n => n % 2 == 1 && s.excluded n
def excludedHigh (s : Chip) (k : Nat) : Bool := (s.islandsOf k).any fun n => n % 2 == 0 && s.excluded n

/-! ### Demands -/

/-- An STO demand stands for the cluster (R430). -/
def stoFor (s : Chip) (k : Nat) : Bool :=
  let a := s.on Reg.SAFE_STAT_sto_a
  let b := s.on Reg.SAFE_STAT_sto_b
  if s.on Reg.SAFE_STO_CFG_scope && !(s.coupled && k == 0) then (if rgnOf k = 0 then a else b) else a || b

/-- An STO demand concerns the region's ISO_EN output (R430). -/
def stoIso (s : Chip) (g : Nat) : Bool :=
  let a := s.on Reg.SAFE_STAT_sto_a
  let b := s.on Reg.SAFE_STAT_sto_b
  if s.on Reg.SAFE_STO_CFG_scope && !s.coupled then (if g = 0 then a else b) else a || b

/-- SAFE_Ck_STAT.demand: STO, FLT_N, comparator, island, OV3, processor channel, region reset, other fault. -/
def demand (s : Chip) (k : Nat) : Nat :=
  let f := (s.cluster k).faults
  b2n (s.stoFor k)
  + 2 * b2n (s.on Reg.SAFE_STAT_flt_low && s.motorType k)
  + 4 * b2n ((bitsOf (s.topo k).cmp 16).any fun c => (s.cmpRole c == 1 || s.cmpRole c == 2) && s.cmpActs c)
  + 8 * b2n (f.any fun x => x.code / 256 == 2)
  + 16 * b2n (s.ov3Acts && s.motorType k)
  + 32 * b2n (s.on (Reg.SAFE_C_STAT_pc_sto k))
  + 64 * b2n ((s.topo k).type != 0 && (s.region (rgnOf k)).inReset)
  + 128 * b2n (f.any fun x => x.code / 256 != 2
      && !([0x0710, 0x0712, 0x0713, 0x0714, 0x0715, 0x071D, 0x071E, 0x071F, 0x0720].contains x.code))

/-- A safe state is held (R419). -/
def holds (s : Chip) (k : Nat) : Bool := s.clState k == 4 || s.demand k % 128 != 0

/-! ### The speed rule -/

/-- V_lo of the cluster: the smaller of two valid results, the one valid result, or SAFE_Ck_VDC_FB (R420). -/
def vLo (s : Chip) (k : Nat) : Nat :=
  match (s.cluster k).vdc with
  | [] => s.get (Reg.SAFE_C_VDC_FB_v k)
  | v :: l => l.foldl (fun a p => F32.min a p.2) v.2

/-- √3 as binary32. -/
def sqrt3 : Nat := F32.sqrt (F32.ofNat 3)

/-- ω_th = 0.9 · V_lo / (√3 · K) (R420). -/
def wTh (s : Chip) (k : Nat) : Nat :=
  F32.div (F32.mul (F32.ratio 9 10) (s.vLo k)) (F32.mul sqrt3 (s.get (Reg.SAFE_C_KE_v k)))

/-- The machine induces a voltage with its gates off. -/
def induces (s : Chip) (k : Nat) : Bool :=
  ((s.motor k).type == 1 || (s.motor k).type == 2) && (s.topo k).type != 5

/-- The position channel's and the observer's speed magnitudes, where valid. -/
def posSpeed (s : Chip) (k : Nat) : Option Nat :=
  match s.posOf k with
  | some n => if s.on (Reg.POS_STAT_spd_valid n) then some (F32.abs (s.get (Reg.POS_SPEED_speed n))) else none
  | none => none

def obsSpeed (s : Chip) (k : Nat) : Option Nat :=
  if s.obsLocked k && !(s.region (rgnOf k)).inReset then some (F32.abs (s.get (Reg.OBS_SPEED_v (s.engineOf k))))
  else none

/-- Table 11-2: the speed source and |ω|. -/
def ruleSpeed (s : Chip) (k : Nat) : Nat × Nat :=
  match s.posSpeed k, s.obsSpeed k with
  | some p, some o => if F32.lt p o then (1, o) else (0, p)
  | some p, none => (0, p)
  | none, some o => (1, o)
  | none, none =>
    if s.get (Reg.SAFE_C_STAT_sel k) = 1 ∧ 2 ≤ (s.cluster k).diodeRun then (3, F32.max (s.get (Reg.SAFE_C_SPD_v k)) (s.wTh k))
    else (2, s.get (Reg.SAFE_C_SPD_v k))

/-- The ASC side of R423: 2 ASC_LOW, 3 ASC_HIGH, 0 none. -/
def ascSide (s : Chip) (k : Nat) : Nat :=
  if hasBit (s.topo k).policy 1 && !s.excludedLow k then 2
  else if hasBit (s.topo k).policy 2 && !s.excludedHigh k then 3
  else 0

/-- The islands of a cluster that are excluded, as a mask. -/
def excludedMask (s : Chip) (k : Nat) : Nat :=
  (s.islandsOf k).foldl (fun w n => if s.excluded n then setBit w n else w) 0

/-- The held state goes out: sel, SEQ_STAT.held and the override codes of the cluster's slices. -/
def putSelOne (s : Chip) (k sel : Nat) : Chip :=
  let s := if s.get (Reg.SAFE_C_STAT_sel k) = sel then s else s.modCl k fun c => { c with selAt := s.now }
  let s := (s.set (Reg.SAFE_C_STAT_sel k) sel).set (Reg.SEQ_STAT_held k) sel
  s.setOvrs (s.slicesOf k) sel

/-- In the coupled topology cluster 2 carries the selection of cluster 0 (R422); one that holds a safe state of its own while cluster
0 holds none carries OFF. -/
def followSel (s : Chip) : Chip :=
  let sel := s.get (Reg.SAFE_C_STAT_sel 0)
  let want := if s.holds 2 then max 1 sel else sel
  if !s.coupled || s.get (Reg.SAFE_C_STAT_sel 2) == want then s else s.putSelOne 2 want

def putSel (s : Chip) (k sel : Nat) : Chip := (s.putSelOne k sel).followSel

/-- The selection of Table 11-3 for a cluster that holds a safe state, by the speed source, with the threshold reached or not, and with
the lower bound of the band not reached. -/
def selectBy (s : Chip) (k src : Nat) (high low : Bool) : Chip :=
  let prev := max 1 (s.get (Reg.SAFE_C_STAT_sel k))
  let s := if src == 2 && !(s.cluster k).unknownRec then
      (s.modCl k fun c => { c with unknownRec := true }).noteCl 0x0727 k 0 else s
  if src == 2 then s.putSel k prev
  else if high then
    let side := s.ascSide k
    if side != 0 then s.putSel k side
    else
      let s := if (s.cluster k).blockedRec then s
        else ((s.modCl k fun c => { c with blockedRec := true }).put Reg.SAFE_FLAGS_asc_blocked true).noteCl
          0x0726 k (s.excludedMask k)
      s.putSel k 1
  else if low then s.putSel k 1
  else s.putSel k prev

/-- A region under full self-test holds the gates of its islands off (R159): one that cluster k belongs to or has slices in. -/
def underTest (s : Chip) (k : Nat) : Bool :=
  hasBit s.cfg.selfTest (rgnOf k) || (s.slicesOf k).any fun n => hasBit s.cfg.selfTest (sliceRgn n)

/-- An evaluation of the speed rule of one cluster (R424, Tables 11-2 and 11-3): the speed and the threshold are shown whatever the
machine. A region under full self-test holds its gates off (R159); after a CLK_MAIN trip the last selection is kept (R464). -/
def evalRule (s : Chip) (k : Nat) : Chip :=
  let (src, w) := s.ruleSpeed k
  let th := s.wTh k
  let s := (s.set (Reg.SAFE_C_SPD_v k) w).set (Reg.SAFE_C_STAT_spd_src k) src
  let s := if (s.motor k).type = 1 ∨ (s.motor k).type = 2 then s.set (Reg.SAFE_C_WTH_v k) th else s
  if (s.topo k).type = 4 && s.coupled then s.followSel
  else if !s.induces k then (if s.holds k then s.putSel k 1 else s)
  else
    let high := src == 3 || (src != 2 && F32.ge w th)
    let low := src != 2 && !high && F32.lt w (F32.mul (F32.ratio 19 20) th)
    let s := if high || low then s.put (Reg.SAFE_C_STAT_band k) high else s
    if !s.holds k then s
    else if s.underTest k then s.putSel k 1
    else if s.pwr.safetyOnMon then s.putSel k (max 1 (s.get (Reg.SAFE_C_STAT_sel k)))
    else s.selectBy k src high low

/-- The override code of the sequencer in the catch overspeed case (Table 05-8). -/
def overspeedCode (s : Chip) (k : Nat) : Nat :=
  if hasBit (s.topo k).policy 1 then 2 else if hasBit (s.topo k).policy 2 then 3 else 1

/-- A holding begins or ends. -/
def refreshHold (s : Chip) (k : Nat) : Chip :=
  if (s.topo k).type = 4 && s.coupled then s.followSel
  else if s.holds k then (if s.get (Reg.SAFE_C_STAT_sel k) = 0 then s.evalRule k else s)
  else if s.get (Reg.SAFE_C_STAT_sel k) = 0 then s
  else
    let s := s.modCl k fun c => { c with blockedRec := false, unknownRec := false, diodeRun := 0 }
    let osp := s.on (Reg.SEQ_STAT_overspeed k)
    let s := (s.set (Reg.SAFE_C_STAT_sel k) 0).set (Reg.SEQ_STAT_held k) (if osp then s.overspeedCode k else 0)
    (s.setOvrs (s.slicesOf k) (if osp then s.overspeedCode k else 0)).followSel

/-- A demand begins: the rule is evaluated in that tick (R424). -/
def demandBegins (s : Chip) (k : Nat) : Chip := if s.holds k then s.evalRule k else s

def refreshHolds (s : Chip) : Chip := forEach (List.range 4) (fun k t => t.refreshHold k) s

/-- The cluster holds OFF. -/
def holdsOff (s : Chip) (k : Nat) : Bool := s.get (Reg.SAFE_C_STAT_sel k) == 1

/-- The level of a region's SAFE_OK output (R435). -/
def safeOk (s : Chip) (g : Nat) : Bool :=
  let r := s.region g
  !r.inReset && !r.split && r.diffOk && !s.holds (2 * g) && !s.holds (2 * g + 1) && !s.stoIso g

/-- The processor channel serves the cluster (R449). -/
def served (s : Chip) (k : Nat) : Bool :=
  hasBit (s.topo k).policy 0 && (s.topo k).type != 4 && !(s.region (rgnOf k)).split

/-- The processor channel's checks of the cluster run: its pair runs (R449, R460). -/
def pcRuns (s : Chip) (k : Nat) : Bool := s.served k && !(s.region (rgnOf k)).inReset

/-- The module-wide duties of the processor channel run, on the pair of the first region brought up at the start (R449). -/
def moduleChan (s : Chip) : Bool :=
  match s.cfg.first with
  | some g => !(s.region g).split && !(s.region g).inReset
  | none => false

/-! ### Chopper and discharge slices -/

/-- The chopper slice of SAFE_CHOP_CFG, where the rules are enabled and it names an expansion slice. -/
def chopSlice (s : Chip) : Option Nat :=
  let n := s.get Reg.SAFE_CHOP_CFG_slice
  if s.on Reg.SAFE_CHOP_CFG_en && 6 ≤ n then some n else none

/-- The chopper goes to HIGH_ON or is released. -/
def chopper (s : Chip) (on : Bool) : Chip :=
  let s := (s.put Reg.SAFE_STAT_chop_on on).put Reg.SAFE_CHOP_STAT_on on
  match s.chopSlice with
  | some n => s.setOvr n (if on then 3 else 0)
  | none => s

/-- The resistor path of the discharge: slice xslice or DSCH (Table 11-7). -/
def resistor (s : Chip) (on : Bool) : Chip :=
  if s.on Reg.SAFE_DIS_CTL_xen then
    let n := s.get Reg.SAFE_DIS_CTL_xslice
    if 6 ≤ n then s.setOvr n (if on then 3 else 0) else s
  else { s with safe := { s.safe with dsch := on && s.on Reg.CFG_BOOT_STAT_torque_ready } }

end Sys2Proof.Machine.Chip
end

