-- ==== Sys2Proof/Machine/ClusterOps.lean ====
section
/-! DEFINITION. The state machine of a cluster and its faults (chapters 01 and 05): entering a state, recording a fault
of a class, what makes its cause gone, retries, the end of SAFE. -/

namespace Sys2Proof.Machine

/-- The first or the second of a pair, by region. -/
def pick {α : Type} (g : Nat) (a b : α) : α := if g = 0 then a else b

namespace Chip

def island (s : Chip) (n : Nat) : IslandS := nth s.isl n

/-! ### The settings that an island die holds (R19) -/

/-- The mirror registers' offsets. -/
def mirrorOffs : List Nat := [0, 0x14, 0x18, 0x1C, 0x20, 0x24, 0x28, 0x2C, 0x30, 0x34, 0x38]

/-- The island's own word of a mirror register. -/
def ownWord (s : Chip) (n o : Nat) : Nat := lookupD (resetWord (0x41100000 + 0x200 * n + o)) o (s.island n).own

/-- A mirror register reaches the island. -/
def ownTake (s : Chip) (n o : Nat) : Chip :=
  let a := 0x41100000 + 0x200 * n + o
  s.modIsl n fun i => { i with own := putAt (resetWord a) o (s.regWord a) i.own }

/-- A setting as the island holds it. -/
def ownGet (s : Chip) (n : Nat) (f : Field) : Nat := part (s.ownWord n (f.addr % 0x200)) f.lsb f.width

def ownOn (s : Chip) (n : Nat) (f : Field) : Bool := s.ownGet n f == 1

/-- The CLAMP land is joined to VEE2 or not, and the island reports it. -/
def clampTo (s : Chip) (n : Nat) (b : Bool) : Chip :=
  (s.modIsl n fun i => { i with clampOn := b }).put (Reg.ISL_STAT_clamp_on n) b

/-- The clamp is to be engaged: enabled, the gate off, from step 3 of STARTING to ORPHAN and not in LEAK_TEST (R388). -/
def clampWant (s : Chip) (n : Nat) : Bool :=
  let i := s.island n
  s.ownOn n (Reg.ISL_CFG_clamp_en n) && i.gate == .off && ((2 ≤ i.real && i.real ≤ 5) || (i.real == 1 && i.hs3))

/-- The clamp follows the island's state, gate and settings. -/
def clamp (s : Chip) (n : Nat) : Chip := s.clampTo n (s.clampWant n)

/-- The state of an island that is at rest: FAULT while a fault of its own stands (R677). -/
def restState (s : Chip) (n : Nat) : Nat := if (s.island n).faults.isEmpty then 2 else 4

/-! ### Contactors held open (R444) -/

/-- A cluster of type 1 to 3 is in CATCH, RUN or DECEL. -/
def driving (s : Chip) : Bool :=
  (List.range 4).any fun k => s.motorType k && 1 ≤ s.clState k && s.clState k ≤ 3

/-- The contactors (bit 0 POS, 1 NEG) that have dropped: open while the output has stood asserted longer than t_close (Table
11-6). -/
def ctrDropped (s : Chip) : Nat :=
  let t := ms (max 1 (s.get Reg.SAFE_CTR_CFG_t_close))
  if s.on Reg.SAFE_CTR_CFG_fb_en then
    b2n (s.on Reg.SAFE_CTR_STAT_pos_out && !s.on Reg.SAFE_CTR_STAT_pos_fb && s.safe.posAt + t < s.now)
      + 2 * b2n (s.on Reg.SAFE_CTR_STAT_neg_out && !s.on Reg.SAFE_CTR_STAT_neg_fb && s.safe.negAt + t < s.now)
  else 0

/-- A contactor output takes a level: its feedback is awaited from this tick, and a drop ends with the output (Table 11-6). -/
def ctrMove (s : Chip) (neg on : Bool) : Chip :=
  let s := s.sets [(if neg then Reg.SAFE_CTR_STAT_neg_out else Reg.SAFE_CTR_STAT_pos_out, b2n on),
    (if neg then Reg.SAFE_CTR_STAT_neg_busy else Reg.SAFE_CTR_STAT_pos_busy, s.get Reg.SAFE_CTR_CFG_fb_en)]
  let s := if neg then { s with safe := { s.safe with negAt := s.now, opened := clrBit s.safe.opened 1 } }
    else { s with safe := { s.safe with posAt := s.now, opened := clrBit s.safe.opened 0 } }
  s.put Reg.SAFE_CTR_STAT_drop (s.ctrDropped != 0)

/-- The contactor outputs after their commands (R136, R443, R444): an open command acts unless held, a close command acts
from torque-ready on unless a condition of R443 holds. A change of an output starts its feedback time. -/
def applyContactors (s : Chip) (force : Bool) : Chip :=
  let held := s.driving && !force
  let block := s.on Reg.SAFE_CTR_STAT_weld || s.ov3Tripped || s.retired || !s.on Reg.CFG_BOOT_STAT_torque_ready
    || s.get Reg.SAFE_DIS_STAT_state == 1 || s.get Reg.SAFE_DIS_STAT_state == 2
  let one (cmd out : Field) (neg : Bool) (t : Chip) : Chip :=
    if t.on out && !t.on cmd && !held then t.ctrMove neg false
    else if !t.on out && t.on cmd && !block && !hasBit t.safe.needNew (b2n neg) then t.ctrMove neg true
    else t
  let s := one Reg.SAFE_CTR_CTL_pos Reg.SAFE_CTR_STAT_pos_out false s
  let s := one Reg.SAFE_CTR_CTL_neg Reg.SAFE_CTR_STAT_neg_out true s
  s.put Reg.SAFE_CTR_STAT_open_held
    ((s.on Reg.SAFE_CTR_STAT_pos_out && !s.on Reg.SAFE_CTR_CTL_pos)
      || (s.on Reg.SAFE_CTR_STAT_neg_out && !s.on Reg.SAFE_CTR_CTL_neg))

/-! ### Leakage checks ended from outside -/

/-- A running leakage check ends aborted with a reason (Table 10-9). -/
def abortLeak (s : Chip) (n reason : Nat) : Chip :=
  if s.on (Reg.ISL_LEAK_STAT_busy n) then
    let s := s.sets [(Reg.ISL_LEAK_STAT_busy n, 0), (Reg.ISL_LEAK_STAT_result n, 4),
      (Reg.ISL_LEAK_STAT_reason n, reason), (Reg.ISL_FLAGS_leak_ev n, 1), (Reg.ISL_STAT_state n, s.restState n)]
    (s.modIsl n fun i => { i with real := s.restState n }).clamp n
  else s

/-! ### Entering a state -/

/-- The held request, with its mirror bit. -/
def setHeld (s : Chip) (k code : Nat) : Chip :=
  let s := s.modCl k fun c => { c with held := code }
  s.put (Reg.SEQ_STAT_held_req k) (code != 0 || (s.cluster k).standing)

def setStanding (s : Chip) (k : Nat) (b : Bool) : Chip :=
  let s := s.modCl k fun c => { c with standing := b }
  s.put (Reg.SEQ_STAT_held_req k) (b || (s.cluster k).held != 0)

/-- Restart the carriers of a cluster that leaves HALTED with a valley tick in the next tick (R332; the tick is DEDUCED from R333,
log entry 37), or cancel a stop not yet made. -/
def resumeCarrier (s : Chip) (n : Nat) : Chip :=
  if s.on (Reg.PWM_S_STAT_running n) then s.modSlice n fun c => { c with stopping := false }
  else s.modSlice n fun c => { c with starting := true, stopping := false }

/-- The clock of region g is stopped. -/
def gated (s : Chip) (g : Nat) : Bool := s.on (if g = 0 then Reg.CLK_STAT_rgn_a_gated else Reg.CLK_STAT_rgn_b_gated)

/-- The clock gate of region g opens (R16); what its crossings held is delivered (R117). -/
def openGate (s : Chip) (g : Nat) : Chip :=
  if (s.region g).inReset && !(s.region g).up && !hasBit s.cfg.bringUp g then s
  else
  let s := s.put (if g = 0 then Reg.CLK_STAT_rgn_a_gated else Reg.CLK_STAT_rgn_b_gated) false
  { s with pwr := { s.pwr with crossings := eraseAt g s.pwr.crossings } }

/-- The gates of cluster k's region and of the regions of its slices open. -/
def openGates (s : Chip) (k : Nat) : Chip :=
  forEach (s.slicesOf k) (fun n t => t.openGate (sliceRgn n)) (s.openGate (rgnOf k))

/-- The point of R136 has been reached for cluster k. -/
def startDone (s : Chip) (k : Nat) : Bool :=
  !(s.cluster k).fallDue && s.on Reg.CFG_BOOT_STAT_torque_ready && (s.region (rgnOf k)).up && !hasBit s.cfg.bringUp (rgnOf k)

/-- The cluster's outputs follow its loop: RUN, DECEL, and CATCH while an induction machine's flux is built. -/
def switching (s : Chip) (k : Nat) : Bool :=
  s.clState k == 2 || s.clState k == 3 || (s.clState k == 1 && (s.cluster k).flux.isSome)

/-- Cluster `k` enters a state (Table 05-1): gates follow R346, the carrier R332, a leakage check Table 10-9, the safe
state R419, contactor commands held R444. -/
def enter (s : Chip) (k st : Nat) : Chip :=
  let old := s.clState k
  if old = st then s
  else
    let s := s.sets [(Reg.SEQ_STAT_state k, st), (Reg.SEQ_FLAGS_state_ev k, 1)]
    let s := s.modCl k fun c => { c with
      enteredAt := s.now
      leftQuiet := if (old = 0 || old = 5) && !(st = 0 || st = 5) then s.now else c.leftQuiet
      decelHalt := c.decelHalt && st == 3,
      startGates := c.startGates && (st == 2 || st == 3), flux := none, starting := false,
      held := if c.held = 6 then 0 else c.held }
    let s := s.put (Reg.SEQ_STAT_held_req k) ((s.cluster k).standing || (s.cluster k).held != 0)
    let s := if old = 5 then (forEach (s.slicesOf k) (fun n t => t.resumeCarrier n) s).openGates k else s
    let s := if st = 5 then
        forEach (s.slicesOf k) (fun n t => t.modSlice n fun c => { c with stopping := true })
          (s.modCl k fun c => { c with inPass := false })
      else s
    let s := if st = 2 || st = 3 then s
      else forEach (s.slicesOf k) (fun n t => t.setGate n false)
        (s.sets [(Reg.FC_STAT_mode k, 3), (Reg.SEQ_STAT_wdis k, 0)])
    let s := if old = 4 && (s.topo k).type == 3 then s.set Reg.PWM_TL_STAT_bad 0 else s
    let s := if old = 1 then
        let s := s.put (Reg.SEQ_STAT_overspeed k) false
        let s := s.modCl k fun c => { c with probes := [], lowProbes := 0, lock := none, track := none, held := if c.held = 1 then 1 else 0 }
        let s := s.put (Reg.SEQ_STAT_held_req k) ((s.cluster k).standing || (s.cluster k).held != 0)
        if st != 4 && s.get (Reg.SAFE_C_STAT_sel k) = 0 then (s.set (Reg.SEQ_STAT_held k) 0).setOvrs (s.slicesOf k) 0 else s
      else s
    let s := if (old = 0 || old = 5) && !(st = 0 || st = 5) then
        forEach (s.islandsOf k) (fun n t => t.abortLeak n 2) s else s
    let s := s.refreshHold k
    s.applyContactors false

/-! ### Retry rules and causes -/

/-- The automatic retry of a SAFE fault of a cluster (tables of fault codes): wait, retries permitted, window, all in
ticks. Island faults clear by Table 10-7 instead. -/
def retryRule (code : Nat) : Option (Nat × Nat × Nat) :=
  if code = 0x0514 ∨ code = 0x0515 ∨ code = 0x051B ∨ code = 0x0615 then some (ms 100, 3, ms 10000)
  else if code = 0x0517 ∨ code = 0x0712 then some (ms 10, 3, ms 10000)
  else if code = 0x051A ∨ code = 0x0713 then some (ms 10, 3, ms 1000)
  else if code = 0x0815 then some (0, 3, ms 60000)
  else none

/-- SAFE faults of an island that Table 10-7 may clear automatically. -/
def islandRetry (code : Nat) : Bool :=
  code == 0x0210 || code == 0x0211 || code == 0x0212 || code == 0x0213 || code == 0x0216

/-- Retries of a code used within its window. -/
def retriesUsed (s : Chip) (k code window : Nat) : Nat :=
  ((s.cluster k).retries.filter fun p => p.1 = code && s.now < p.2 + window).length

/-- The cause of a standing island fault has gone (R394 to R404, R401). -/
def islandCauseGone (s : Chip) (code n : Nat) : Bool :=
  let i := s.island n
  if code = 0x0211 ∨ code = 0x0212 then !(i.real == 0 || i.real == 1 || i.real == 5)
  else if code = 0x0216 then !(i.real == 0 || i.real == 1 || i.real == 5) && s.on (Reg.ISL_STAT_chan_ok n)
  else if code = 0x0213 then F32.le (s.get (Reg.ISL_TEMP_temp n)) (F32.ofNat 135)
  else if code = 0x0215 then !i.held
  else true

/-- The legs of a cluster: leg m is the power module of slice m (chapter 12). -/
def legsOf (s : Chip) (k : Nat) : List Nat := bitsOf (s.topo k).slices 6

/-- The identity record of leg `m` is valid (R481). -/
def recOk (s : Chip) (m : Nat) : Bool := s.on (Reg.CHM_M_STAT_rec_ok m)

/-- A binary32 word of the identity record of leg `m` (Table 12-1). -/
def recWord (s : Chip) (m off : Nat) : Nat := s.load (idKey m off) 4

/-- The smallest value of a record word among the cluster's legs with valid records (Peak budget). -/
def tightest (s : Chip) (k off : Nat) : Nat :=
  ((s.legsOf k).filter fun m => s.recOk m).foldl (fun a m => F32.min a (s.recWord m off)) F32.maxPos

/-- Every estimate of the cluster's switches lies at or below tj_peak − `d` °C. -/
def tjBelow (s : Chip) (k d : Nat) : Bool :=
  (s.islandsOf k).all fun n =>
    F32.le (s.get (Reg.CHM_TJ_tj n)) (F32.sub (s.tightest k 0x2C) (F32.ofNat d))

/-- A code of class HALT, as a coupled partner holds it (R18); the instance is the region that it resets. -/
def haltCode (c : Nat) : Bool :=
  [0x0723, 0x0724, 0x0911, 0x0912, 0x0914, 0x0D11, 0x0D12, 0x0D13, 0x0D14, 0x0E30, 0x0E32, 0x0E33].contains c

/-- The cause of an outstanding fault of cluster `k` has gone. A cause that the spec gives as an event has gone once the
fault is recorded; the others are judged by the state that the rule names. -/
def causeGone (s : Chip) (k : Nat) (x : Standing) : Bool :=
  let c := x.code
  if haltCode c then !(s.region x.inst).inReset
  else if c / 256 = 2 then !((s.island x.inst).faults.any fun y => y.code = c)
  else if c = 0x0110 then s.combination x.inst == 0
  else if c = 0x0111 then !s.badPhase x.inst
  else if c = 0x0310 ∨ c = 0x0311 ∨ c = 0x0312 then
    (nth s.meas k).bad.all fun p => p / 16 != c - 0x0310
  else if c = 0x0314 then !hasBit s.adc.sdStuck x.inst
  else if c = 0x0315 then s.on Reg.ADC_STAT_ref_rdy
  else if c = 0x0513 then s.get (Reg.OBS_STAT_ke_timer k) < 2000
  else if c = 0x0515 then
    match s.posOf k with
    | some n => s.on (Reg.POS_STAT_pos_valid n)
    | none => false
  else if c = 0x051A then
    match s.posOf k with
    | some n => s.get (Reg.POS_STAT_hall n) != 0 && s.get (Reg.POS_STAT_hall n) != 7
    | none => true
  else if c = 0x0710 then !s.stoFor k
  else if c = 0x0711 then !s.on Reg.SAFE_STAT_sto_disc
  else if c = 0x0712 then !s.on Reg.SAFE_STAT_flt_low
  else if c = 0x0713 ∨ c = 0x0714 then !s.cmpActs x.inst
  else if c = 0x0715 then !s.ov3Acts
  else if c = 0x071D ∨ c = 0x071E ∨ c = 0x071F ∨ c = 0x0720 then !s.on (Reg.SAFE_C_STAT_pc_sto k)
  else if c = 0x0725 then (s.region (rgnOf k)).diffOk
  else if c = 0x0815 then s.tjBelow k 30
  else if c = 0x0D10 then !s.on Reg.CLK_STAT_on_backup
  else if c = 0x0D15 then false
  else if c = 0x0D21 then s.pwr.vddaOk
  else if c = 0x0E21 ∨ c = 0x0E25 ∨ c = 0x0E34 then false
  else if c = 0x0E35 then s.get (Reg.ISL_STAT_state x.inst) == 2 || s.get (Reg.ISL_STAT_state x.inst) == 3
  else true

/-! ### Faults of a cluster -/

/-- What a refusal of this tick's request left is taken back: the request is handled again in another state (R175). -/
def unrefuse (s : Chip) (k : Nat) : Chip :=
  match (s.cluster k).refNow with
  | none => s
  | some b =>
    let s := (s.modCl k fun c => { c with refNow := none }).put (Reg.SEQ_FLAGS_refused k) b
    s.unrecord fun e => (e.code == 0x0510 || e.code == 0x051C || e.code == 0x0519) && e.cluster == k && e.ts == s.stamp

/-- A SAFE or LATCH fault stands for cluster `k` and the cluster enters SAFE (R45, R46); safe stop 1 ends (Table 11-8). Handled as LATCH, it cancels a
standing run command. A fault of the same code and instance stands once. A request of the same tick is handled again in the
state that results (R175). -/
def stand (s : Chip) (k code inst : Nat) (latch : Bool) : Chip :=
  let s := (if (s.cluster k).reqNow = 0 then s else s.unrefuse k).modCl k fun c => { c with again := if c.reqNow = 0 then c.again else c.reqNow }
  let latch := latch || ((s.cluster k).faults.any fun x => x.code = code && x.inst = inst && x.latch)
  let s := s.modCl k fun c => { c with
    faults := (c.faults.filter fun x => !(x.code = code && x.inst = inst)) ++ [⟨code, inst, latch, s.now⟩] }
  let s := (if latch then s.setStanding k false else s).put (Reg.SAFE_C_STAT_ss1 k) false
  let s := if (s.region (rgnOf k)).inReset then s else s.enter k 4
  if s.get (Reg.SAFE_C_STAT_sel k) = 0 then s.refreshHold k else s.demandBegins k

/-- Whether a fault of a class is handled as LATCH from the tick it is recorded. -/
def asLatch (s : Chip) (k code cls : Nat) : Bool :=
  cls == 3 || (!islandRetry code && match retryRule code with
    | some (_, n, w) => n ≤ s.retriesUsed k code w
    | none => true)

/-- A SAFE or LATCH fault without its log entry, for a fault that is recorded once for several clusters. -/
def fall (s : Chip) (k code cls inst : Nat) : Chip :=
  let s := if cls = 2 then
      match retryRule code with
      | some (_, _, w) => s.set (Reg.SEQ_STAT_retries k) (min 15 (s.retriesUsed k code w))
      | none => s
    else s
  s.stand k code inst (s.asLatch k code cls)

/-- A SAFE (2) or LATCH (3) fault of one cluster: recorded, and the cluster falls to SAFE. -/
def faultCl (s : Chip) (code cls inst k data : Nat) : Chip :=
  (s.record code cls inst k (rgnOf k) data).fall k code cls inst

/-- A LIMIT fault of one cluster is recorded; the limit is its block's. -/
def limitCl (s : Chip) (code inst k data : Nat) : Chip := s.record code 1 inst k (rgnOf k) data

/-- A fault of several clusters is one log entry with no cluster in it; each of them shows it and falls to SAFE. -/
def faultAll (s : Chip) (code cls inst : Nat) (ks : List Nat) (data : Nat) : Chip :=
  let s := s.record code cls inst 7 0 data
  forEach ks (fun k t =>
    (t.sets [(Reg.SEQ_FAULT_code k, code), (Reg.SEQ_FAULT_class k, cls), (Reg.SEQ_FLAGS_fault k, 1)]).fall
      k code cls inst) s

/-- Every cluster that the topology makes present. -/
def present (s : Chip) : List Nat := (List.range 4).filter fun k => (s.topo k).type != 0

/-- A fault of class LATCH "in every cluster". -/
def faultEvery (s : Chip) (code inst data : Nat) : Chip := s.faultAll code 3 inst (List.range 4) data

/-! ### Engines and partners (R212 to R215) -/

/-- Cluster k is duplexed, from the acceptance of its request on. -/
def duplexed (s : Chip) (k : Nat) : Bool := (s.cluster k).duplex != .none

/-- The engine sets that compute in a pass of cluster k: none of its own while they are lent (Table 05-9). -/
def engineSets (s : Chip) (k : Nat) : List Nat :=
  if s.on (Reg.SEQ_STAT_lent k) then []
  else if (s.cluster k).duplex == .active then [k, partner k] else [s.engineOf k]

def cleS (s : Chip) (e : Nat) : CleS := nth s.cle e

/-- The following-error timer is set to 0. -/
def feZero (s : Chip) (e : Nat) : Chip :=
  (s.modCle e fun c => { c with feTicks := 0, feAt := s.now }).set (Reg.CLE_STAT_fe_timer e) 0

/-- States and outputs set to 0.0 (R311). -/
def clearLists (s : Chip) (e : Nat) : Chip :=
  let s := s.modCle e fun c => { c with s1 := [], s2 := [], clamped := 0 }
  forEach (List.range 6) (fun n t => t.set (Reg.CLE_LIST_OUT_v e n) 0) s

/-- A legal Hall state (R209). -/
def legalHall (h : Nat) : Bool := 1 ≤ h && h ≤ 6

/-! ### Leaving SAFE -/

/-- Every island in use of the cluster is READY or ON (R434). -/
def islandsReady (s : Chip) (k : Nat) : Bool :=
  (s.islandsOf k).all fun n =>
    !s.islUsed n || s.get (Reg.ISL_STAT_state n) == 2 || s.get (Reg.ISL_STAT_state n) == 3

/-- Entry to CATCH (R200): field weakening, engine states and following-error timer restart; the method of Table 05-7. -/
def enterCatch (s : Chip) (k : Nat) : Chip :=
  let s := s.enter k 1
  let s := s.sets [(Reg.FC_FW_DID_v k, 0), (Reg.CLE_STAT_fe_timer k, 0), (Reg.SEQ_CATCH_STAT_result k, 1),
    (Reg.SEQ_CATCH_STAT_probes k, 0), (Reg.FC_STAT_fw_active k, 0)]
  let s := s.modCl k fun c => { c with
    probes := [], lowProbes := 0, lastProbe := none, lock := none, track := none, catchAt := s.now, vPrev := 0, tqAtLim := false }
  forEach (s.engineSets k) (fun e t => (t.clearLists e).feZero e) s

/-- Type 5 enters RUN once its Hall state is legal; until then the request is held (R172, R209). -/
def bcmStart (s : Chip) (k : Nat) : Chip :=
  match s.posOf k with
  | some n =>
    if legalHall (s.get (Reg.POS_STAT_hall n)) then
      let s := s.setHeld k 0
      ((s.enter k 2).set (Reg.FC_STAT_mode k) 1).modCl k fun c => { c with startGates := true }
    else s.setHeld k 1
  | none => s.setHeld k 1

/-- SAFE ends once no SAFE or LATCH fault is outstanding, the islands of an STO release are READY and nothing else holds
the cluster; a standing run command then acts as RUN in IDLE (R45, R172, R179, R434). -/
def tryLeaveSafe (s : Chip) (k : Nat) : Chip :=
  let c := s.cluster k
  if s.clState k = 4 ∧ c.faults.isEmpty ∧ !(c.stoRel && !s.islandsReady k) ∧ s.demand k % 128 = 0 then
    let s := (s.modCl k fun c => { c with stoRel := false }).enter k 0
    if (s.cluster k).standing && s.startDone k then
      let s := s.setStanding k false
      if (s.topo k).type = 5 then s.bcmStart k else s.enterCatch k
    else s
  else s

/-- Take one outstanding fault away. -/
def dropFault (s : Chip) (k code inst : Nat) : Chip :=
  s.modCl k fun c => { c with faults := c.faults.filter fun x => !(x.code = code && x.inst = inst) }

/-- A multi-cluster demand ended: holds are refreshed, clusters leave SAFE where nothing remains. -/
def settleHolds (s : Chip) : Chip :=
  forEach (List.range 4) (fun k t => (t.refreshHold k).tryLeaveSafe k) s

/-! ### Islands: clearing faults -/

/-- The cause number of ISLn_STAT for a code (Table 10-14). -/
def islandCause (code : Nat) : Nat :=
  if code = 0x0210 then 1 else if code = 0x0211 then 2 else if code = 0x0212 then 3 else if code = 0x0213 then 4
  else if code = 0x0214 then 5 else if code = 0x0216 then 6 else if code = 0x0217 then 7
  else if code = 0x0215 then 8 else 0

/-- The latest of the most severe standing faults, LATCH before SAFE (R677). -/
def islandTop (l : List Standing) : Nat :=
  let latched := l.filter (·.latch)
  match (if latched.isEmpty then l else latched).getLast? with
  | some x => islandCause x.code
  | none => 0

/-- ISLn_STAT.cause and latched brought up to date. -/
def showFaults (s : Chip) (n : Nat) : Chip :=
  let l := (s.island n).faults
  (s.set (Reg.ISL_STAT_cause n) (islandTop l)).put (Reg.ISL_STAT_latched n)
    (l.any fun x => x.latch && islandRetry x.code)

/-- A standing fault of an island clears; with none left an island in FAULT returns to READY (R677), and its cluster's
fault ends. -/
def clearIslandFault (s : Chip) (n code : Nat) : Chip :=
  let s := s.modIsl n fun i => { i with faults := i.faults.filter fun x => x.code != code }
  let s := s.showFaults n
  let s := if (s.island n).faults.isEmpty && (s.island n).real == 4 then
      ((s.modIsl n fun i => { i with real := 2, gate := .off }).set (Reg.ISL_STAT_state n) 2).clamp n
    else s
  match s.islOwner n with
  | some k => (s.dropFault k code n).refreshHold k
  | none => s

/-- ISLn_CTL.clear, or CLEAR of the owning cluster, on an island (R401). -/
def clearIsland (s : Chip) (n : Nat) : Chip :=
  let s := s.sets [(Reg.ISL_FAULT_uv_used n, 0), (Reg.ISL_FAULT_desat_used n, 0)]
  forEach ((s.island n).faults.map (·.code)) (fun c t => if t.islandCauseGone c n then t.clearIslandFault n c else t) s

end Chip

end Sys2Proof.Machine
end

