-- ==== Sys2Proof/Machine/Operands.lean ====
section
/-! DEFINITION. Operand forms: whose a register is, what a word written to a register does to each of its fields by
access type (R6, R42), unpopulated offsets (R13), an image word written to a register (R146). -/

namespace Sys2Proof.Machine

/-- Block byte, instance and cluster (7 for none) under which an address reports common causes (Table 01-12). -/
structure UnitRef where
  block   : Nat
  inst    : Nat
  cluster : Nat
deriving DecidableEq, Repr

namespace Chip

/-- The first owner, or 7. -/
def ownerOr7 (l : List Nat) : Nat := l.headD 7

/-- The fabric port whose window holds the address. -/
def fabricPort (a : Nat) : Option Nat :=
  if 0x41C00000 ≤ a ∧ a < 0x41C20000 then some ((a - 0x41C00000) / 0x1000) else none

/-- The descriptor of an enabled fabric port (R142). -/
def portDesc (s : Chip) (p : Nat) : Option FabPort := s.img.ports.find? fun d => d.port = p

/-- The unit that holds an address. -/
def unitAt (s : Chip) (a : Nat) : UnitRef :=
  let w := a / 0x100000
  let o := a % 0x100000
  if w = 0x400 then
    let k := o / 0x10000 % 4
    if 0x2000 ≤ o % 0x10000 ∧ o % 0x10000 < 0x4000 then ⟨6, k, k⟩ else ⟨5, k, k⟩
  else if w = 0x410 then
    if o < 0x1000 then ⟨1, o / 0x100, ownerOr7 (s.owners (·.slices) (o / 0x100))⟩ else ⟨1, 0, 7⟩
  else if w = 0x411 then
    if o < 0x1800 then ⟨2, o / 0x200, (s.islOwner (o / 0x200)).getD 7⟩ else ⟨2, 0, 7⟩
  else if w = 0x412 then
    if 0x100 ≤ o ∧ o < 0x180 then ⟨3, (o - 0x100) / 8, ownerOr7 (s.owners (·.sar) ((o - 0x100) / 8))⟩
    else if 0x210 ≤ o ∧ o < 0x270 then ⟨3, (o - 0x210) / 8, ownerOr7 (s.owners (·.sd) ((o - 0x210) / 8))⟩
    else if 0x500 ≤ o ∧ o < 0x580 then ⟨3, (o - 0x500) / 8, ownerOr7 (s.owners (·.cmp) ((o - 0x500) / 8))⟩
    else if 0x1000 ≤ o ∧ o < 0x1800 then ⟨3, (o - 0x1000) / 0x200, (o - 0x1000) / 0x200⟩
    else ⟨3, 0, 7⟩
  else if w = 0x413 then
    let n := o / 0x100
    ⟨4, n % 32, ownerOr7 ((List.range 4).filter fun k => (s.topo k).position = n)⟩
  else if w = 0x414 then
    if 0x100 ≤ o ∧ o < 0x200 then ⟨7, (o - 0x100) / 0x40, (o - 0x100) / 0x40⟩ else ⟨7, 0, 7⟩
  else if w = 0x415 then
    if 0x100 ≤ o ∧ o < 0x200 then ⟨8, (o - 0x100) / 0x40, (o - 0x100) / 0x40⟩
    else if 0x200 ≤ o ∧ o < 0x260 then ⟨8, (o - 0x200) / 0x10, 7⟩ else ⟨8, 0, 7⟩
  else if w = 0x416 then ⟨0xB, o / 0x1000 % 32, 7⟩
  else if w = 0x417 then ⟨0xC, if o < 0x10000 then 0 else 1, 7⟩
  else if w = 0x418 then ⟨0xA, 0, 7⟩
  else if w = 0x419 then ⟨9, 0, 7⟩
  else if w = 0x41A then ⟨0xD, 0, 7⟩
  else
    match fabricPort a with
    | some p =>
      match s.portDesc p with
      | some d => ⟨d.block, d.inst, d.cluster⟩
      | none => ⟨0xE, 0, 7⟩
    | none => ⟨0xE, 0, 7⟩

/-- The clusters that must be IDLE or HALTED for an RWL register at the address to be written (R42 and the register
tables: the owning cluster, or every cluster for a block-wide register). -/
def rwlOwners (s : Chip) (a : Nat) : List Nat :=
  let all := [0, 1, 2, 3]
  let w := a / 0x100000
  let o := a % 0x100000
  let u := s.unitAt a
  let own := if u.cluster < 4 then [u.cluster] else []
  if w = 0x411 ∧ 0x1800 ≤ o then all
  else if w = 0x412 ∧ o = 0 then all
  else if w = 0x414 ∧ (o < 0x100 ∨ 0x200 ≤ o) then all
  else if w = 0x415 ∧ (o < 0x100 ∨ 0x200 ≤ o) then all
  else own

/-- The engine registers of a cluster lent to its partner are refused (Table 05-9). -/
def lentEngine (s : Chip) (a : Nat) : Bool :=
  a / 0x100000 == 0x400 && s.on (Reg.SEQ_STAT_lent (a / 0x10000 % 4))
    && 0x1000 ≤ a % 0x10000 && a % 0x10000 < 0x4000

/-- RWL registers at the address take writes now. -/
def rwlOpen (s : Chip) (a : Nat) : Bool := (s.rwlOwners a).all (fun k => s.quiet k) && !s.lentEngine a

/-- Record a common cause (Table 01-12). No chapter gives these codes a data word: it is a free value (log entry 6). -/
def common (s : Chip) (a cause : Nat) : Chip :=
  let u := s.unitAt a
  s.useFree.record (u.block * 256 + cause) 0 u.inst u.cluster (if u.cluster < 4 then rgnOf u.cluster else 0) s.freeVal

/-- An access to an unpopulated offset (R13). -/
def hole (s : Chip) (a : Nat) : Chip := s.common a 2

/-- A refused write or unit reset (R14, R42). -/
def refuse (s : Chip) (a : Nat) : Chip := s.common a 1

/-- The effect of a written word on one field by its access type (Table 00-4); `open_` says whether RWL fields take it. A W1C
bit that hardware has set in this tick stays set (R29). -/
def writeField (s : Chip) (d : Nat) (open_ : Bool) (f : Field) : Chip :=
  let v := part d f.lsb f.width
  match f.acc with
  | .rw | .rws => s.set f v
  | .rwl => if open_ then s.set f v else s
  | .w1c => s.assign f (s.get f - (s.get f &&& (v - (v &&& lookupD 0 f.key s.irq.fresh))))
  | .w1s => s.set f (s.get f ||| v)
  | .ro | .wo | .rwi | .rwe => s

/-- A word written to the fields of a register. -/
def writeFields (s : Chip) (l : List Field) (d : Nat) (open_ : Bool) : Chip :=
  l.foldl (fun t f => t.writeField d open_ f) s

/-- A write to a register by access type: a hole is recorded, a refused RWL write is recorded and changes no RWL field. -/
def genericWrite (s : Chip) (a d : Nat) : Chip :=
  match fieldsAt a with
  | none => s.hole a
  | some l =>
    let open_ := s.rwlOpen a
    let s := s.writeFields l d open_
    if !open_ && l.any (fun f => f.acc = .rwl) then s.refuse a else s

/-- An image word in a register: every configuration field takes it, whatever the state of the cluster (R13, R146). -/
def configField (s : Chip) (d : Nat) (f : Field) : Chip :=
  match f.acc with
  | .rw | .rws | .rwl | .rwi | .rwe => s.set f (part d f.lsb f.width)
  | _ => s

def configWord (s : Chip) (a d : Nat) : Chip := ((fieldsAt a).getD []).foldl (fun t f => t.configField d f) s

/-- A register populated at the address. -/
def populated (a : Nat) : Bool := (fieldsAt a).isSome

end Chip

end Sys2Proof.Machine
end

