-- ==== Sys2Proof/Machine/AdcOps.lean ====
section
/-! DEFINITION. Shared operations of the converter block (chapter 06): slot validity, the modulator clocks, the reference
selection, low power, scan entries. -/

namespace Sys2Proof.Machine.Chip

/-! ### Sample-set slots -/

/-- AINa is reachable by SARn (R228). -/
def reaches (n a : Nat) : Bool := a < 48 && (a % 16) / 2 == n / 2

/-- Roles 11 to 15 act as 0 (Table 06-2). -/
def slotRole (s : Chip) (k i : Nat) : Nat :=
  let r := s.get (Reg.ADC_C_SLOT_role k i)
  if r ≤ 10 then r else 0

def slotPath (s : Chip) (k i : Nat) : Nat := s.get (Reg.ADC_C_SLOT_path k i)
def slotUnit (s : Chip) (k i : Nat) : Nat := s.get (Reg.ADC_C_SLOT_unit k i)

/-- Why slot `i` fails R237, 0 if it is valid: 1 unit not assigned, 2 input not assigned or not reached, 3 unit already
used, 4 role limit, 5 role 0. `prev` holds the lower-numbered valid slots. -/
def slotReason (s : Chip) (k i : Nat) (prev : List Nat) : Nat :=
  let t := s.topo k
  let role := s.slotRole k i
  let path := s.slotPath k i
  let u := s.slotUnit k i
  let ain := s.get (Reg.ADC_C_SLOT_ain k i)
  let same := prev.filter fun j => s.slotRole k j = role
  let onPath := same.filter fun j => s.slotPath k j = path
  if role = 0 then 5
  else if !(if path = 0 then hasBit t.sar u else u < 12 && hasBit t.sd u) then 1
  else if path = 0 && !(hasBit t.ain ain && reaches u ain) then 2
  else if prev.any fun j => s.slotPath k j = path && s.slotUnit k j = u then 3
  else if role ≤ 3 then (if onPath.isEmpty then 0 else 4)
  else if role = 4 then (if same.length < 2 then 0 else 4)
  else if role ≤ 9 then (if same.isEmpty then 0 else 4)
  else 0

/-- The valid slots of a cluster, ascending. -/
def validSlots (s : Chip) (k : Nat) : List Nat :=
  (List.range 28).foldl (fun l i => if s.slotReason k i l = 0 then l ++ [i] else l) []

/-- ADC_Ck_STAT after a write to a slot descriptor (R237, R256). -/
def showSlots (s : Chip) (k : Nat) : Chip :=
  let l := s.validSlots k
  let has (role path : Nat) : Bool := l.any fun i => s.slotRole k i == role && s.slotPath k i == path
  let cov (r : Nat) : Nat := b2n (has r 0 && has r 1)
  s.sets [(Reg.ADC_C_STAT_valid k, l.foldl (fun w i => w + 2 ^ i) 0),
    (Reg.ADC_C_STAT_cover k, cov 1 + 2 * cov 2 + 4 * cov 3),
    (Reg.ADC_C_STAT_vdc2 k, b2n ((l.filter fun i => s.slotRole k i = 4).length ≥ 2))]

/-- Slot `i` of cluster `k` was written (R237): a non-zero role that fails is recorded. -/
def slotWritten (s : Chip) (k i : Nat) : Chip :=
  let s := s.showSlots k
  let r := s.slotReason k i ((s.validSlots k).filter fun j => j < i)
  if s.slotRole k i != 0 && r != 0 then
    (s.put (Reg.ADC_C_FLAGS_slot_bad k) true).noteCl 0x0316 k (i + 256 * r)
  else s

/-! ### Modulator clocks -/

/-- The clusters to which the image assigns an input of SDCLKc. -/
def sdClkOwners (s : Chip) (c : Nat) : List Nat :=
  (List.range 4).filter fun k => (s.topo k).sd / 2 ^ (3 * c) % 8 != 0

/-- The divider of SDCLKc: 8 to 20, other values act as 20 (Table 06-10). -/
def sdDiv (s : Chip) (c : Nat) : Nat :=
  let d := s.get (Reg.SD_CLK_CFG_div c)
  if 8 ≤ d ∧ d ≤ 20 then d else 20

/-- The level of SDCLKc: high for the first half of a cycle, rounded down, low while it does not run (R239). -/
def sdClkLevel (s : Chip) (c : Nat) : Bool :=
  let e := lookupD 0 c s.adc.sdEdge
  s.on (Reg.SD_CLK_CFG_en c) && e ≤ s.now && (s.now - e) % s.sdDiv c < s.sdDiv c / 2

/-- The fields of clock c take values; a clock that starts, or changes its rate, runs from then on with an open phase (R239,
R241). -/
def sdClkSet (s : Chip) (c d : Nat) : Chip :=
  let on := s.on (Reg.SD_CLK_CFG_en c)
  let div := s.sdDiv c
  let s := s.sets [(Reg.SD_CLK_CFG_en c, bitOf d (8 * c + 7)), (Reg.SD_CLK_CFG_div c, part d (8 * c) 5)]
  if s.on (Reg.SD_CLK_CFG_en c) && !(on && s.sdDiv c == div) then
    { s.useFree with adc := { s.adc with sdEdge := insertAt c (s.now + s.freeVal % s.sdDiv c) s.adc.sdEdge } }
  else s

/-- A write to SD_CLK_CFG, clock by clock (R674). Which cluster a WRITE_REFUSED entry names where several owners run the rule does
not say: the model names the lowest-numbered one, and instance 0 (DESIGN CHOICE, log entry 55). -/
def sdClkWrite (s : Chip) (d : Nat) : Chip :=
  forEach (List.range 4) (fun c t =>
    match (t.sdClkOwners c).filter fun k => !t.quiet k with
    | [] => t.sdClkSet c d
    | k :: _ => t.useFree.record 0x0301 0 0 k (rgnOf k) t.freeVal) s

/-- SDCLK of input m runs. -/
def sdRuns (s : Chip) (m : Nat) : Bool := s.on (Reg.SD_CLK_CFG_en (m / 3))

/-- The tick after an edge of its clock in which the data of input m is sampled: dly, at most the divider less 1 (R240). -/
def sdDly (s : Chip) (m : Nat) : Nat := min (s.get (Reg.SD_CFG_dly m)) (s.sdDiv (m / 3) - 1)

/-- Input m's data is sampled in this tick. -/
def sdSampled (s : Chip) (m : Nat) : Bool :=
  let e := lookupD 0 (m / 3) s.adc.sdEdge + s.sdDly m
  s.sdRuns m && e ≤ s.now && (s.now - e) % s.sdDiv (m / 3) == 0

/-- SDm_RES.level follows every sample (R240). The bit is the modulator's: open. -/
def sdTick (s : Chip) : Chip :=
  let l := (List.range 12).filter fun m => s.sdSampled m
  if l.isEmpty then s
  else (forEach l (fun m t => t.set (Reg.SD_RES_level m) (bitOf s.freeVal m)) s).useFree

/-- Decimation of input m: 16 to 256. -/
def sdDec (s : Chip) (m : Nat) : Nat := min 256 (max 16 (s.get (Reg.SD_CFG_dec m)))

/-! ### Reference -/

/-- The reference selected; code 3 acts as 0. -/
def refSel (s : Chip) : Nat := if s.get Reg.ADC_CTL_ref = 3 then 0 else s.get Reg.ADC_CTL_ref

/-- A write to ADC_CTL (R230, R231): a change of selection clears ref_rdy until it settles. -/
def refWrite (s : Chip) (d : Nat) (open_ : Bool) : Chip :=
  if open_ then
    let old := s.refSel
    let s := s.sets [(Reg.ADC_CTL_vrefp_mv, part d 16 16), (Reg.ADC_CTL_ref, part d 0 2)]
    if s.refSel = old then s
    else { s.put Reg.ADC_STAT_ref_rdy false with adc := { s.adc with refWait := true, refSeen := none } }
  else s.refuse 0x41200000

/-- The nominal voltage of the selected reference, in microvolts (R230, R233). -/
def refNominal (s : Chip) : Nat :=
  match s.refSel with
  | 0 => 2500000
  | 1 => 1000 * s.get Reg.ADC_CTL_vrefp_mv
  | _ => 3300000

/-- A voltage lies outside ±2 % of the selected reference's nominal value (R233). -/
def refOutside (s : Chip) (v : Nat) : Bool := 100 * v < 98 * s.refNominal || 102 * s.refNominal < 100 * v

/-- A command shows the reference's actual voltage in a tick. -/
def refShown (s : Chip) (t v : Nat) : Chip := { s with adc := { s.adc with refSeen := some (t, v) } }

/-- The reference was seen within ±2 % of its nominal value in the 10 µs before this tick, so that the monitor of R233 cannot trip. -/
def refSeenGood (s : Chip) : Bool :=
  match s.adc.refSeen with
  | some (t, v) => s.now < t + 2000 && !s.refOutside v
  | none => false

/-- ref_rdy is cleared and settles again (R233). -/
def refLost (s : Chip) : Chip :=
  { s.put Reg.ADC_STAT_ref_rdy false with adc := { s.adc with refWait := true } }

/-! ### Low power -/

/-- The cluster that the image assigns converter n to. -/
def sarOwner (s : Chip) (n : Nat) : Option Nat := (s.owners (·.sar) n).head?

/-- Converter n converts at 625 kS/s (R234). -/
def lowRate (s : Chip) (n : Nat) : Bool :=
  s.on (Reg.ADC_S_CFG_lp n) && (match s.sarOwner n with | some k => s.quiet k | none => true)

/-- A conversion that starts now carries the lp flag (R235). -/
def lpFlag (s : Chip) (n : Nat) : Bool :=
  s.lowRate n
    || (s.now < lookupD 0 n s.adc.lpReturn + 200 && s.adc.lpReturn.any fun p => p.1 = n)
    || (s.on (Reg.ADC_S_CFG_lp n) && match s.sarOwner n with
        | some k => s.now < (s.cluster k).leftQuiet + 200
        | none => false)

/-- A write to ADC_Sn_CFG: a cleared lp of a converter at low rate starts its return (R235). -/
def sarCfgWrite (s : Chip) (n d : Nat) : Chip :=
  let ret := s.lowRate n && !hasBit d 1
  let s := s.sets [(Reg.ADC_S_CFG_lp n, bitOf d 1), (Reg.ADC_S_CFG_en n, bitOf d 0)]
  if ret then { s with adc := { s.adc with lpReturn := insertAt n s.now s.adc.lpReturn } } else s

/-- The sums of every `d` neighbours of a list. -/
def boxSums (d : Nat) (l : List Nat) : List Nat :=
  let p := l.scanl (· + ·) 0
  List.zipWith (· - ·) (p.drop d) p

/-- The sinc3 filter with decimation d, evaluated at the last bit of its window (R241). -/
def sinc3 (d : Nat) (bits : List Bool) : Nat := (boxSums d (boxSums d (boxSums d (bits.map b2n)))).getLastD 0

/-- The SAR conversion of a voltage with the actual voltage of the reference, both in microvolts (R229), as a 14-bit
pattern. -/
def sarCode (vin vref : Nat) : Nat :=
  let r : Int := (max 1 vref : Nat)
  let x := (2 * (8192 * (2 * (vin : Int) - r)) + r) / (2 * r)
  unsgn 14 (max (-8192) (min 8191 x))

/-- A SAR raw code clips (R229). -/
def clipRaw (raw : Nat) : Bool := raw == 0x8000 || raw == 0x7FFC

/-! ### Result banks -/

/-- The word of ADC_Ck_RB_CTL has taken its value: a cleared freeze clears the count of lost periods (Table 06-19). -/
def freezeDone (s : Chip) (k : Nat) : Chip :=
  if s.on (Reg.ADC_C_RB_CTL_freeze k) then s else s.set (Reg.ADC_C_RB_STAT_lost k) 0

/-! ### Comparators -/

/-- The input that comparator n watches (R258); sel 3 acts as 0. -/
def cmpAin (s : Chip) (n : Nat) : Nat :=
  let q := s.get (Reg.CMP_CFG_sel n)
  if q = 3 then n else n + 16 * q

/-- An edge of comparator n is in use (R258, R259). -/
def cmpEdgeOn (s : Chip) (n : Nat) (low : Bool) : Bool :=
  s.on (Reg.CMP_CFG_en n) && s.on (if low then Reg.CMP_CFG_lo_en n else Reg.CMP_CFG_hi_en n)

/-- The word of CMPn_CFG has taken its value: an edge that is not in use is not tripped (Table 06-13). -/
def cmpCfgDone (s : Chip) (n : Nat) : Chip :=
  let s := if s.cmpEdgeOn n false then s else s.clrBitOf Reg.CMP_STAT_hi_now n
  if s.cmpEdgeOn n true then s else s.clrBitOf Reg.CMP_STAT_lo_now n

/-! ### Scan list -/

/-- The samples of the scan entries that fall in this tick, 20 ticks apart, alternately on both converters of a pair (R247). -/
def scanSamples (s : Chip) : Chip :=
  { s with adc := { s.adc with scanOut := s.adc.scanOut.map fun r =>
      if r.got.length < r.want && r.start + 20 * r.got.length == s.now then
        { r with got := r.got ++ [(s.lpFlag (nth r.convs (r.got.length % r.convs.length)), s.on Reg.ADC_STAT_ref_rdy)] }
      else r } }

/-- A scan entry that cannot convert: input out of reach, or an odd converter with il (Table 06-12). -/
def scanDead (s : Chip) (e : Nat) : Bool :=
  let c := s.get (Reg.ADC_SCAN_conv e)
  !reaches c (s.get (Reg.ADC_SCAN_ain e)) || (s.on (Reg.ADC_SCAN_il e) && c % 2 == 1)

/-- The scan ends once every entry has started and has its result (R244). -/
def scanEnd (s : Chip) : Chip :=
  if s.on Reg.ADC_STAT_scan_busy && s.adc.scanNext > s.get Reg.ADC_SCAN_CTL_last && s.adc.scanOut.isEmpty then
    (s.put Reg.ADC_STAT_scan_busy false).put Reg.ADC_FLAGS_scan_done true
  else s

/-- Entries that cannot convert complete at once without the valid flag, up to the next that can. -/
def scanSkip : Nat → Chip → Chip
  | 0, s => s
  | n + 1, s =>
    let e := s.adc.scanNext
    if s.on Reg.ADC_STAT_scan_busy && e ≤ s.get Reg.ADC_SCAN_CTL_last && s.scanDead e then
      let s := s.sets [(Reg.ADC_STAT_scan_entry, e), (Reg.ADC_SCR_raw e, 0), (Reg.ADC_SCR_valid e, 0), (Reg.ADC_SCR_lp e, 0)]
      scanSkip n ({ s with adc := { s.adc with scanNext := e + 1 } }.scanEnd)
    else s

/-- A start of the scan (R244); a second one in the tick of the first is the same start (R245). -/
def scanStart (s : Chip) : Chip :=
  if s.adc.scanAt == some s.now then s
  else if s.on Reg.ADC_STAT_scan_busy then
    (s.put Reg.ADC_FLAGS_scan_ovr true).note 0x0317 0 (s.get Reg.ADC_STAT_scan_entry)
  else
    let s := s.put Reg.ADC_STAT_scan_busy true
    scanSkip 16 { s with adc := { s.adc with scanAt := some s.now, scanNext := 0, scanOut := [] } }

/-- A converter serves a valid slot of cluster k (R246). -/
def servesSlot (s : Chip) (k n : Nat) : Bool :=
  (s.validSlots k).any fun i => s.slotPath k i == 0 && s.slotUnit k i == n

end Sys2Proof.Machine.Chip
end

