-- ==== Sys2Proof/Machine/PosOps.lean ====
section
/-! DEFINITION. Shared operations of the position channels (chapter 07): validity, counting, index, Hall changes, speed,
evaluation, the resolver, SENT frames, a change of the source mode. -/

namespace Sys2Proof.Machine.Chip

def posS (s : Chip) (n : Nat) : PosS := nth s.pos n

/-- The source mode; 6 and 7 act as 0 (Table 07-1). -/
def posMode (s : Chip) (n : Nat) : Nat :=
  let m := s.get (Reg.POS_CFG_mode n)
  if m ≤ 5 then m else 0

def posCpr (s : Chip) (n : Nat) : Nat := max 4 (s.get (Reg.POS_CPR_cpr n))
def posRatio (s : Chip) (n : Nat) : Nat := max 1 (s.get (Reg.POS_CFG_ratio n))
def idxMode (s : Chip) (n : Nat) : Nat := s.get (Reg.POS_CFG_idx_mode n)

/-- ⌈CPR / ratio⌉. -/
def turnCounts (s : Chip) (n : Nat) : Nat := (s.posCpr n + s.posRatio n - 1) / s.posRatio n

/-- The cluster whose topology record names the channel. -/
def posOwner (s : Chip) (n : Nat) : Option Nat := (List.range 4).find? fun k => (s.topo k).position = n

/-- A NOTE of channel n (Table 07-6). -/
def posNote (s : Chip) (code n data : Nat) : Chip :=
  match s.posOwner n with
  | some k => s.record code 0 n k (rgnOf k) data
  | none => s.note code n data

/-! ### Validity (R292, Table 07-3) -/

def posOk (s : Chip) (n : Nat) : Chip :=
  let s := (s.modPos n fun p => { p with qStuck := false, qLeft := 0, arm := 0 }).set (Reg.POS_STAT_qerr_count n) 0
  if s.on (Reg.POS_STAT_pos_valid n) then s
  else (s.put (Reg.POS_STAT_pos_valid n) true).put (Reg.POS_FLAGS_pos_ok n) true

def posLose (s : Chip) (n : Nat) : Chip :=
  let s := (s.modPos n fun p => { p with arm := 0, want := true }).put (Reg.POS_STAT_idx_seen n) false
  if s.on (Reg.POS_STAT_pos_valid n) then
    (s.put (Reg.POS_STAT_pos_valid n) false).put (Reg.POS_FLAGS_pos_lost n) true
  else s

/-! ### Angle and speed -/

/-- θ of the present count (R276). -/
def cntAngle (s : Chip) (n : Nat) : Nat :=
  (s.get (Reg.POS_CNT_cnt n) * s.posRatio n * 65536 / s.posCpr n + s.get (Reg.POS_OFFSET_offset n)) % 65536

/-- 2π as binary32. -/
def twoPi : Nat := 0x40C90FDB

/-- Speed of `num` angle counts of 65,536 per turn, times `den`, in `dt` ticks: 2π · num / (65,536 · den) per dt · 5 ns. -/
def angSpeed (num den dt : Nat) : Nat :=
  F32.mul twoPi (F32.ratio (num * 200000000) (65536 * den * max 1 dt))

/-- Speed of a sum of count sizes `x` over `dt` ticks (R296): Δθ = 2π · ratio / CPR in mode 1. -/
def cntSpeed (s : Chip) (n x dt : Nat) : Nat :=
  if s.posMode n = 2 then angSpeed x 1 dt else angSpeed (x * s.posRatio n * 65536) (s.posCpr n) dt

/-- Ticks since an instant. -/
def since (s : Chip) (t : Int) : Nat := ((s.now : Int) - t).toNat

/-- A speed with the sign of the present direction. -/
def signed (s : Chip) (n v : Nat) : Nat := if s.on (Reg.POS_STAT_dir n) then F32.neg v else v

/-- Standstill declared (Table 07-4). -/
def declareStandstill (s : Chip) (n : Nat) : Chip :=
  let s := s.sets [(Reg.POS_SPEED_speed n, 0), (Reg.POS_STAT_spd_valid n, 0), (Reg.POS_STAT_standstill n, 1),
    (Reg.POS_FLAGS_standstill_ev n, 1)]
  s.modPos n fun p => { p with run := 0 }

/-- POSn_LIM.standstill has passed since the latest count, or the enable, and standstill is not declared yet: in modes 1 and 2
(R296, R297). -/
def standstillDue (s : Chip) (n : Nat) : Bool :=
  (s.posMode n = 1 || s.posMode n = 2) && !s.on (Reg.POS_STAT_standstill n)
    && ms (max 1 (s.get (Reg.POS_LIM_standstill n))) ≤ s.since (s.posS n).tE

/-- One count of size `x` for the speed rules of Table 07-4; a standstill time that expires with it is declared first. The counts
of an evaluation are all those since the previous one, whatever their direction, as Table 07-4 words it; before the first count since
enable there is no earlier count to measure from, and the measurement starts at that one (log entry 55). -/
def speedEdge (s : Chip) (n : Nat) (back : Bool) (x : Nat) : Chip :=
  let s := if s.standstillDue n then s.declareStandstill n else s
  let p := s.posS n
  let first := p.run == 0 || s.on (Reg.POS_STAT_standstill n)
  let rev := !first && back != s.on (Reg.POS_STAT_dir n)
  let s := if rev then s.put (Reg.POS_FLAGS_dir_ev n) true else s
  let s := (s.put (Reg.POS_STAT_standstill n) false).put (Reg.POS_STAT_dir n) back
  let s :=
    if first || rev then
      let s := (s.set (Reg.POS_SPEED_speed n) 0).put (Reg.POS_STAT_spd_valid n) false
      s.modPos n fun p => { p with run := 1 }
    else if p.run = 1 then
      let v := s.signed n (s.cntSpeed n x (s.since p.tE))
      let s := (s.set (Reg.POS_SPEED_speed n) v).put (Reg.POS_STAT_spd_valid n) true
      s.modPos n fun p => { p with run := 2, meas := v }
    else s
  (s.modPos n fun p => { p with
    tE := s.now, lastSize := x, counted := true, since := if p.counted then p.since + x else 0,
    tRef := if p.counted then p.tRef else s.now }).set (Reg.POS_EDGE_TS_t_e n) s.stamp

/-! ### Quadrature (R271 to R276) -/

/-- A glitch of two opposite counts on one line (R275). -/
def glitchCheck (s : Chip) (n : Nat) (lineB back : Bool) : Chip :=
  let p := s.posS n
  let last := if lineB then p.glitchB else p.glitchA
  let upd (v : Option (Nat × Bool)) (t : Chip) : Chip :=
    t.modPos n fun p => if lineB then { p with glitchB := v } else { p with glitchA := v }
  match last with
  | some (t, d) =>
    if d != back && s.now - t ≤ s.get (Reg.POS_LIM_glitch n) then
      let s := if s.on (Reg.POS_FLAGS_glitch n) then s else s.posNote 0x041B n (b2n lineB)
      (upd none s).put (Reg.POS_FLAGS_glitch n) true |>.bump (Reg.POS_ERRTOT_glitch_total n) 65535
    else upd (some (s.now, back)) s
  | none => upd (some (s.now, back)) s

/-- One count on a line (R271 to R277, Table 07-4). -/
def posCount (s : Chip) (n : Nat) (lineB back : Bool) : Chip :=
  let cpr := s.posCpr n
  let c := s.get (Reg.POS_CNT_cnt n)
  let r := s.get (Reg.POS_REV_rev n)
  let s :=
    if back then (if c = 0 then (s.set (Reg.POS_CNT_cnt n) (cpr - 1)).set (Reg.POS_REV_rev n) (r + 0xFFFFFFFF)
      else s.set (Reg.POS_CNT_cnt n) (c - 1))
    else (if c + 1 ≥ cpr then (s.set (Reg.POS_CNT_cnt n) 0).set (Reg.POS_REV_rev n) (r + 1)
      else s.set (Reg.POS_CNT_cnt n) (c + 1))
  -- the window of R273
  let p := s.posS n
  let s := if s.get (Reg.POS_STAT_qerr_count n) != 0 && !p.qStuck then
      let s := s.modPos n fun p => { p with qLeft := p.qLeft - 1 }
      if p.qLeft ≤ 1 then s.set (Reg.POS_STAT_qerr_count n) 0 else s
    else s
  -- the counts of Table 07-3 that restore the position
  let s := if p.arm = 0 then s
    else if p.arm = 1 then s.posOk n
    else s.modPos n fun p => { p with arm := p.arm - 1 }
  let s := s.modPos n fun p => { p with net := p.net + (if back then -1 else 1) }
  let p := s.posS n
  let s := if s.idxMode n ≥ 2 && s.on (Reg.POS_STAT_pos_valid n) && p.net.natAbs ≥ 2 * cpr && !p.missing then
      (s.modPos n fun p => { p with missing := true }).posNote 0x0412 n (s.get (Reg.POS_CNT_cnt n))
    else s
  let s := s.glitchCheck n lineB back
  let s := s.speedEdge n back 1
  s.set (Reg.POS_ANGLE_angle n) (s.cntAngle n)

/-- An illegal transition (R272, R273). -/
def posIllegal (s : Chip) (n : Nat) : Chip :=
  let s := (s.put (Reg.POS_FLAGS_qerr n) true).bump (Reg.POS_ERRTOT_qerr_total n) 65535
  let p := s.posS n
  let s := if p.arm != 0 then
      (s.modPos n fun p => { p with arm := 0, want := true }).put (Reg.POS_STAT_idx_seen n) false
    else s
  if p.qStuck then s
  else
    let s := if s.get (Reg.POS_STAT_qerr_count n) = 0 then s.modPos n fun p => { p with qLeft := s.turnCounts n } else s
    let s := s.bump (Reg.POS_STAT_qerr_count n) 255
    if s.get (Reg.POS_STAT_qerr_count n) ≥ max 1 (s.get (Reg.POS_LIM_qerr_limit n)) then
      let s := (s.posLose n).modPos n fun p => { p with qStuck := true }
      s.posNote 0x0410 n (s.get (Reg.POS_ERRTOT_qerr_total n))
    else s

/-- A sample of A and B (R271, R272). Forward is 00, 10, 11, 01, 00 in (A, B). -/
def quadStep (s : Chip) (n : Nat) (a b : Bool) : Chip :=
  let p := s.posS n
  let s' := s.modPos n fun p => { p with a := a, b := b }
  if s.posMode n != 1 then s'
  else if a != p.a && b != p.b then s'.posIllegal n
  else if a != p.a then s'.posCount n false ((a == p.b) != s.on (Reg.POS_CFG_dir_inv n))
  else if b != p.b then s'.posCount n true ((b != p.a) != s.on (Reg.POS_CFG_dir_inv n))
  else s'

/-! ### Index (R277, Table 07-2) -/

/-- cnt set to 0; the angle of the latest event moves with it. -/
def zeroCnt (s : Chip) (n : Nat) : Chip :=
  let s := s.set (Reg.POS_CNT_cnt n) 0
  s.set (Reg.POS_ANGLE_angle n) (s.cntAngle n)

/-- The signed distance of cnt from 0 modulo CPR. -/
def idxDev (s : Chip) (n : Nat) : Int :=
  let c := s.get (Reg.POS_CNT_cnt n)
  if 2 * c ≤ s.posCpr n then (c : Int) else (c : Int) - s.posCpr n

def idxErr (s : Chip) (n : Nat) (d : Int) : Chip :=
  (s.put (Reg.POS_FLAGS_idx_err n) true).posNote 0x0411 n (unsgn 32 d)

/-- An edge of Z in the tick after its count step. -/
def posIndex (s : Chip) (n : Nat) (rise : Bool) : Chip :=
  let p := s.posS n
  let m := s.idxMode n
  if s.posMode n != 1 || m = 0 || rise == s.on (Reg.POS_CFG_idx_pol n)
      || (s.on (Reg.POS_CFG_idx_qual n) && !(p.a && p.b)) then s
  else
    let d := s.idxDev n
    let s := s.sets [(Reg.POS_IDX_CNT_cnt n, s.get (Reg.POS_CNT_cnt n)), (Reg.POS_IDX_TS_tick n, s.stamp),
      (Reg.POS_FLAGS_idx_ev n, 1)]
    let s := s.modPos n fun p => { p with net := 0, missing := false }
    let arm (t : Chip) : Chip :=
      if t.on (Reg.POS_STAT_pos_valid n) || (t.posS n).arm != 0 then t else t.modPos n fun p => { p with arm := t.turnCounts n }
    if m = 1 then s
    else if m = 3 then
      let s := if d.natAbs > 2 && s.on (Reg.POS_STAT_idx_seen n) then s.idxErr n d else s
      arm ((s.zeroCnt n).put (Reg.POS_STAT_idx_seen n) true)
    else if p.want then
      arm (((s.zeroCnt n).put (Reg.POS_STAT_idx_seen n) true).modPos n fun p => { p with want := false })
    else if d.natAbs > 2 then (s.idxErr n d).posLose n
    else s

/-! ### Hall (R278 to R281) -/

/-- The entry angle E(h), h from 1 to 6. -/
def hallEntry (s : Chip) (n h : Nat) : Nat :=
  if h % 2 = 1 then s.get (Reg.POS_HALL_ANG_e_lo n (h / 2)) else s.get (Reg.POS_HALL_ANG_e_hi n (h / 2 - 1))

/-- In a legal state with no adjacent change yet made the angle is the sector centre (R281). -/
def hallCentre (s : Chip) (n : Nat) : Chip :=
  let h := s.get (Reg.POS_STAT_hall n)
  if legalHall h then s.set (Reg.POS_ANGLE_angle n) (s.hallEntry n h + 5461) else s

/-- A delivered change of the Hall state (R279, R280). -/
def hallDeliver (s : Chip) (n h : Nat) : Chip :=
  let a := s.get (Reg.POS_STAT_hall n)
  let s := s.set (Reg.POS_STAT_hall n) h
  if s.posMode n != 2 then s
  else
    let bcm := match s.posOwner n with | some k => (s.topo k).type == 5 | none => false
    if !legalHall h then
      let s := ((s.posLose n).put (Reg.POS_FLAGS_hall_err n) true).modPos n fun p => { p with hallAdj := false }
      if bcm then s else s.posNote 0x0414 n h
    else if !legalHall a then
      -- the first legal state, or one after an illegal one: no change between legal states
      ((s.posOk n).modPos n fun p => { p with hallAdj := false }).hallCentre n
    else
      let f := (s.hallEntry n h + 65536 - s.hallEntry n a) % 65536
      let b := (s.hallEntry n a + 65536 - s.hallEntry n h) % 65536
      if 5461 ≤ f ∧ f ≤ 16384 then
        let s := (s.posOk n).speedEdge n false f
        (s.set (Reg.POS_ANGLE_angle n) (s.hallEntry n h)).modPos n fun p => { p with hallAdj := true, hallBack := false }
      else if 5461 ≤ b ∧ b ≤ 16384 then
        let s := (s.posOk n).speedEdge n true b
        (s.set (Reg.POS_ANGLE_angle n) (s.hallEntry n a)).modPos n fun p => { p with hallAdj := true, hallBack := true }
      else
        let s := ((s.posLose n).put (Reg.POS_FLAGS_hall_err n) true).posNote 0x0413 n (a + 16 * h)
        (s.modPos n fun p => { p with hallAdj := false }).hallCentre n

/-! ### Resolver (R282 to R285) -/

/-- The raw code less offset of the cluster's slot of a role in the present pass, where the result is valid. -/
def slotDiff (s : Chip) (k role : Nat) : Option Int :=
  match (nth s.meas k).results.find? fun r => r.valid && r.base = (nth s.meas k).base && s.slotRole k r.slot = role with
  | some r => some (sgn 16 r.raw - sgn 16 (s.get (Reg.ADC_C_SLOT_off k r.slot)))
  | none => none

/-- Start of mode 3 (R283): the excitation runs only within 4 to 20 kHz and with both slots. -/
def resStart (s : Chip) (n : Nat) : Chip :=
  match s.posOwner n with
  | none => (s.modPos n fun p => { p with resOn := false }).posNote 0x0417 n 2
  | some k =>
    let mult := if s.get (Reg.POS_RES_CFG_mult n) = 1 then 2 else 1
    -- f_exc = mult · 100 MHz / PER
    let per := match s.leadSlice k with | some l => s.perOf l | none => 0
    let ok := per != 0 && per * 4000 ≤ mult * 100000000 && mult * 100000000 ≤ per * 20000
    let slots := s.validSlots k
    let has (r : Nat) : Bool := slots.any fun i => s.slotRole k i == r
    if !ok then (s.modPos n fun p => { p with resOn := false }).posNote 0x0417 n 1
    else if !(has 8 && has 9) then (s.modPos n fun p => { p with resOn := false }).posNote 0x0417 n 2
    else s.modPos n fun p => { p with resOn := true }

/-- The excitation output: the sine runs with this multiple of the carrier frequency, peak code and lead; `none` stands for
mid-supply with the DAC off (R79, R282, R283, R299). -/
def excitation (s : Chip) (n : Nat) : Option (Nat × Nat × Nat) :=
  if s.posMode n = 3 && (s.posS n).resOn && s.landsUsed (excLands n) && s.pwr.vddaOk then
    some (if s.get (Reg.POS_RES_CFG_mult n) = 1 then 2 else 1, s.get (Reg.POS_RES_CFG_amp n), s.get (Reg.POS_RES_CFG_phase n))
  else none

def resUnlock (s : Chip) (n code data : Nat) : Chip :=
  let s := if s.on (Reg.POS_STAT_res_lock n) then ((s.put (Reg.POS_STAT_res_lock n) false).posLose n) else s
  ((s.put (Reg.POS_STAT_spd_valid n) false).put (Reg.POS_FLAGS_res_err n) true).posNote code n data

/-- One evaluation in mode 3 with the demodulated signals (s, c); none where a slot gave no valid result, which counts as
outside the window (R284, R285). The loop is driven by sin(θ_s − φ); its angle and sensor speed after an update are open functions
of its bandwidth, that error and what they were: the spec gives no equations (log entry 11). -/
def resEval (s : Chip) (n : Nat) (sig : Option (Int × Int)) : Chip :=
    match sig with
    | some (sx, cy) =>
      let m := (sx * sx + cy * cy).toNat
      let amp := min 65535 ((F32.isqrt 24 (4 * m) 0 + 1) / 2)
      let th := Config.atan2 (F32.ofInt sx) (F32.ofInt cy) % 65536
      let err := sgn 16 (th + 65536 - (s.posS n).phi)
      let s := (s.set (Reg.POS_RES_AMP_amp n) amp).set (Reg.POS_RES_ERR_err n) (unsgn 16 err)
      let outside := amp < s.get (Reg.POS_RES_WIN_lo n) || s.get (Reg.POS_RES_WIN_hi n) < amp
      let e := Config.sin (unsgn 16 err) % 2 ^ 32
      let dt := s.since (s.posS n).tE
      let bw := s.get (Reg.POS_RES_BW_v n)
      let s := s.modPos n fun p => { p with
        phi := Config.resAngle bw e p.phi p.resSpd dt % 65536,
        resSpd := Config.resSpeed bw e p.phi p.resSpd dt % 2 ^ 32, lowRun := if err.natAbs < 364 then p.lowRun + 1 else 0,
        highRun := if err.natAbs > 1820 then p.highRun + 1 else 0, winRun := if outside then p.winRun + 1 else 0 }
      let p := s.posS n
      let s := if p.winRun = 4 then s.resUnlock n 0x0415 amp else s
      let s := if p.highRun = 4 then s.resUnlock n 0x0416 (unsgn 32 err) else s
      let s := if p.lowRun ≥ 16 && p.winRun < 4 && !s.on (Reg.POS_STAT_res_lock n) then
          ((s.put (Reg.POS_STAT_res_lock n) true).put (Reg.POS_STAT_spd_valid n) true).posOk n
        else s
      let spd := F32.mul p.resSpd (F32.ofNat (s.posRatio n))
      let back := F32.sign spd
      let s := if back != s.on (Reg.POS_STAT_dir n) then
          (s.put (Reg.POS_STAT_dir n) back).put (Reg.POS_FLAGS_dir_ev n) true else s
      s.sets [(Reg.POS_SPEED_speed n, spd), (Reg.POS_EDGE_TS_t_e n, s.stamp),
        (Reg.POS_ANGLE_angle n, s.posRatio n * p.phi + s.get (Reg.POS_OFFSET_offset n))]
    | none =>
      let s := s.modPos n fun p => { p with winRun := p.winRun + 1, lowRun := 0 }
      if (s.posS n).winRun = 4 then s.resUnlock n 0x0415 (s.get (Reg.POS_RES_AMP_amp n)) else s

/-! ### Evaluation (R270, R294, R296) -/

/-- The speed of a counted channel at an evaluation (Table 07-4). -/
def evalSpeed (s : Chip) (n : Nat) : Chip :=
  let p := s.posS n
  if s.on (Reg.POS_STAT_spd_valid n) then
    if p.since > 0 then
      let v := s.signed n (s.cntSpeed n p.since (p.tE - p.tRef).toNat)
      (s.set (Reg.POS_SPEED_speed n) v).modPos n fun p => { p with meas := v, since := 0, tRef := p.tE }
    else
      let lim := s.cntSpeed n (if s.posMode n = 2 then p.lastSize else 1) (s.since p.tE)
      s.set (Reg.POS_SPEED_speed n) (if F32.lt lim (F32.abs p.meas) then s.signed n lim else p.meas)
  else s.modPos n fun p => { p with since := 0, tRef := p.tE }

/-- ω × elapsed time in angle counts, rounded (R294); the time is `num`/`den` ticks. -/
def advanceBy (w num den : Nat) : Int :=
  F32.round (F32.mul (F32.div w twoPi) (F32.ratio (65536 * num) (200000000 * den)))

def advance (w dt : Nat) : Int := advanceBy w dt 1

/-- The delivered angle of the evaluation, and its speed. -/
def latchAngle (s : Chip) (n : Nat) : Chip :=
  let p := s.posS n
  let m := s.posMode n
  let base := s.get (Reg.POS_ANGLE_angle n)
  let raw := advance (s.get (Reg.POS_SPEED_speed n)) (s.since p.tE)
  let lim (l : Int) : Int := min l (max (-l) raw)
  let adv : Int :=
    if m = 1 then lim (s.posRatio n * 65536 / s.posCpr n - 1 : Nat)
    else if m = 2 then (if s.on (Reg.POS_CFG_hall_extrap n) && p.hallAdj then
      (if p.hallBack then min 0 (max (-10922) raw) else max 0 (min 10922 raw)) else 0)
    else if m = 3 || m = 0 then 0
    else raw
  (s.modPos n fun p => { p with evalSpd := s.get (Reg.POS_SPEED_speed n) }).set (Reg.POS_ANGLE_lat_ang n)
    (unsgn 16 ((base : Int) + adv))

/-- An evaluation of channel n without a pass of its cluster, or in modes other than 3; no sample set is taken for a
self-timed one, so that mode 3 finds no result (R270, log entry 55). -/
def posEval (s : Chip) (n : Nat) : Chip :=
  let m := s.posMode n
  let s := if m = 1 || m = 2 then s.evalSpeed n
    else if m = 3 && (s.posS n).resOn then (s.resEval n none).modPos n fun p => { p with tE := s.now }
    else s
  s.latchAngle n

/-- The channel evaluates by itself (R270): no owner, an owner in HALTED, or one whose lead slice is in reset. -/
def selfTimed (s : Chip) (n : Nat) : Bool :=
  match s.posOwner n with
  | none => true
  | some k => s.clState k == 5 || match s.leadSlice k with
    | some l => (s.region (sliceRgn l)).inReset
    | none => true

/-- This tick is one of the self-timed series: a multiple of 2,000 ticks after the condition began (R270). -/
def selfDue (s : Chip) (n : Nat) : Bool :=
  match (s.posS n).selfAt with
  | some t => s.selfTimed n && t < s.now && (s.now - t) % 2000 == 0
  | none => false

/-- A self-timed evaluation, with what it found kept for a count of the same tick. -/
def selfEval (s : Chip) (n : Nat) : Chip :=
  (s.modPos n fun p => { p with
    evalAt := some s.now, preMeas := p.meas, preSince := p.since, preRef := p.tRef,
    preSpd := s.get (Reg.POS_SPEED_speed n) }).posEval n

/-- POSn_CTL.snap (R295). Its speed is that of the latest evaluation, though an edge may have changed POSn_SPEED since (DEDUCED, log
entry 55). -/
def posSnap (s : Chip) (n : Nat) : Chip :=
  (s.modPos n fun p => { p with snapAt := some s.now }).sets
    [(Reg.POS_SNAP_CNT_cnt n, s.get (Reg.POS_CNT_cnt n)), (Reg.POS_SNAP_REV_rev n, s.get (Reg.POS_REV_rev n)),
    (Reg.POS_SNAP_ANG_angle n, s.get (Reg.POS_ANGLE_angle n)), (Reg.POS_SNAP_TS_t_e n, s.get (Reg.POS_EDGE_TS_t_e n)),
    (Reg.POS_SNAP_SPD_speed n, (s.posS n).evalSpd), (Reg.POS_SNAP_TNOW_tick n, s.stamp)]

/-- An event of this tick that comes before its evaluation and its snapshot (Table 07-5): where they are made already, they are made
again with it. -/
def posEvent (s : Chip) (n : Nat) (f : Chip → Chip) : Chip :=
  let p := s.posS n
  let redo := p.evalAt == some s.now && (s.posMode n = 1 || s.posMode n = 2)
  let s := if redo then
      (s.modPos n fun p => { p with meas := p.preMeas, since := p.preSince, tRef := p.preRef }).set (Reg.POS_SPEED_speed n) p.preSpd
    else s
  let s := f s
  let s := if redo then s.posEval n else s
  if p.snapAt == some s.now then s.posSnap n else s

/-- A sample of A and B, then the edge of Z that waits for its count step (R277, Table 07-5). -/
def quadSample (s : Chip) (n : Nat) (a b : Bool) : Chip :=
  s.posEvent n fun s =>
    let s := (s.quadStep n a b).modPos n fun p => { p with sampleAt := some s.now }
    match (s.posS n).idxDue with
    | some rise => (s.modPos n fun p => { p with idxDue := none }).posIndex n rise
    | none => s

/-- The end of a tick: an edge of Z without a count in its tick acts; the series of R270 begins or ends. -/
def posTickEnd (s : Chip) (n : Nat) : Chip :=
  let s := match (s.posS n).idxDue with
    | some rise => (s.modPos n fun p => { p with idxDue := none }).posEvent n fun s => s.posIndex n rise
    | none => s
  let go := s.selfTimed n
  s.modPos n fun p => { p with selfAt := if go then (match p.selfAt with | some t => some t | none => some s.now) else none }

/-- The work of a tick of cluster k done later in it or in a later one: the count stands at that tick. -/
def atTick (s : Chip) (t : Nat) (f : Chip → Chip) : Chip := { f { s with now := t } with now := s.now }

/-- The reference at the sample tick of the present pass. -/
def sampleRef (s : Chip) (k : Nat) : Chip :=
  if s.on Reg.ADC_STAT_ref_rdy then s else s.modMeas k fun m => { m with nr := m.nr ++ [m.base] }

/-- The sample tick of cluster k's pass (Table 05-3): the reference and the low-power class of its converters (R232, R235),
and the evaluation of its position channel (R270); in mode 3 that waits for the samples of the pass (R284). -/
def sampleNow (s : Chip) (k : Nat) : Chip :=
  if !(s.cluster k).sampleDue then s
  else
    s.atTick ((s.cluster k).trigTick + 1) fun s =>
      let lp := (List.range 16).foldl (fun w n => if s.lpFlag n then setBit w n else w) 0
      let res := match s.posOf k with
        | some n => s.posMode n = 3 && (s.posS n).resOn
        | none => false
      let s := (s.sampleRef k).modCl k fun c => { c with sampleDue := false, sampleLp := lp, resDue := res }
      match s.posOf k with
      | some n => if res then s else s.posEval n
      | none => s

/-- The resolver evaluation of the pass once its SIN and COS results are there, with the sign of R284; `neg` marks a peak pass
in double update. -/
def resPass (s : Chip) (k : Nat) (neg : Bool) : Chip :=
  let m := nth s.meas k
  let awaited := m.waiting.any fun p => p.2 = m.base && (s.slotRole k p.1 == 8 || s.slotRole k p.1 == 9)
  if !(s.cluster k).resDue || awaited then s
  else
    let s := s.modCl k fun c => { c with resDue := false }
    match s.posOf k with
    | none => s
    | some n =>
      let d : Int := if neg && s.get (Reg.POS_RES_CFG_mult n) != 1 then -1 else 1
      let sig := match s.slotDiff k 8, s.slotDiff k 9 with
        | some x, some y => some (d * x, d * y)
        | _, _ => none
      s.atTick ((s.cluster k).trigTick + 1) fun s =>
        ((s.resEval n sig).modPos n fun p => { p with tE := s.now }).latchAngle n

/-! ### Frames and strobes (R286 to R291, R297) -/

/-- An accepted sensor angle of an instant: angle, speed, validity (R297, Table 07-3). For modes 4 and 5 the rules give the sensor
angle only: the model takes ratio × sensor angle + offset as the electrical one, as R284 does in mode 3 (DESIGN CHOICE, log entry
55). -/
def sensorAngle (s : Chip) (n ang : Nat) (tick : Int) : Chip :=
  let p := s.posS n
  let th := (s.posRatio n * ang + s.get (Reg.POS_OFFSET_offset n)) % 65536
  let d := sgn 16 (th + 65536 - p.angPrev)
  let run := p.okRun + 1
  let s := s.modPos n fun p => { p with
    okRun := run, angPrev := th, angTick := tick, tE := tick, okAt := some s.now, tmo := false, tmoDue := false }
  let s := s.sets [(Reg.POS_ANGLE_angle n, th), (Reg.POS_EDGE_TS_t_e n, unsgn 32 tick), (Reg.POS_STAT_src_ok n, 1)]
  if run < 2 then s
  else
    let v := angSpeed d.natAbs 1 (tick - p.angTick).toNat
    let back := decide (d < 0)
    let s := if back != s.on (Reg.POS_STAT_dir n) then
        (s.put (Reg.POS_STAT_dir n) back).put (Reg.POS_FLAGS_dir_ev n) true else s
    ((s.set (Reg.POS_SPEED_speed n) (if back then F32.neg v else v)).put (Reg.POS_STAT_spd_valid n) true).posOk n

/-- The timeout of the source, in ticks: POSn_SENT_TMO.timeout milliseconds in mode 4, POSn_FAB_CFG.timeout microseconds in mode 5;
0 acts as 1 (Tables 07-15, 07-16). -/
def sourceTmo (s : Chip) (n : Nat) : Nat :=
  if s.posMode n = 4 then ms (max 1 (s.get (Reg.POS_SENT_TMO_timeout n))) else 200 * max 1 (s.get (Reg.POS_FAB_CFG_timeout n))

/-- Ticks since the latest accepted frame or strobe, or since the source was selected. -/
def sourceAge (s : Chip) (n : Nat) : Nat :=
  match (s.posS n).okAt with
  | some t => s.now - t
  | none => s.since (s.posS n).tE

/-- No frame or strobe within the timeout (R290, R291). -/
def sourceLost (s : Chip) (n : Nat) : Chip :=
  let s := (s.posLose n).sets [(Reg.POS_STAT_spd_valid n, 0), (Reg.POS_STAT_src_ok n, 0), (Reg.POS_FLAGS_src_err n, 1)]
  let s := s.modPos n fun p => { p with okRun := 0, tmo := true, tmoDue := false }
  if s.posMode n = 4 then s.posNote 0x0418 n 0 else s.posNote 0x041A n (s.get (Reg.POS_FAB_CFG_port n))

/-- A timeout of the source in mode `m`: once per interval without a frame or strobe. In the very tick in which it expires it waits for
the tick's end, since a frame accepted in that tick prevents it (Table 07-5); the model treats a strobe in the same way (DESIGN
CHOICE, log entry 55). -/
def sourceTimeout (s : Chip) (n m : Nat) : Chip :=
  if s.posMode n != m || (s.posS n).tmo || s.sourceAge n < s.sourceTmo n then s
  else if s.sourceAge n = s.sourceTmo n then s.modPos n fun p => { p with tmoDue := true }
  else s.sourceLost n

/-- A timeout that expired in this tick acts at its end. -/
def sourceTickEnd (s : Chip) (n : Nat) : Chip := if (s.posS n).tmoDue then s.sourceLost n else s

/-- c · x⁴ modulo x⁴ + x³ + x² + 1. -/
def crc4Step (c : Nat) : Nat :=
  [0, 13, 7, 10, 14, 3, 9, 4, 1, 12, 6, 11, 15, 2, 8, 5].getD (c % 16) 0

/-- The SENT CRC over nibbles with seed 5 (R287); the recommended method appends a zero nibble. -/
def sentCrc (legacy : Bool) (l : List Nat) : Nat :=
  let c := l.foldl (fun c d => Nat.xor (crc4Step c) d) 5
  if legacy then c else crc4Step c

/-- One bit of the division by x⁶ + x⁴ + x³ + 1. -/
def crc6Bit (c : Nat) (b : Bool) : Nat :=
  let c' := 2 * c + b2n b
  if c' ≥ 64 then Nat.xor (c' - 64) 0x19 else c'

/-- The enhanced serial CRC (PRESUMED from SAE J2716, log entry 12): seed 21, data then six zero bits. -/
def crc6 (l : List Bool) : Nat := (l ++ List.replicate 6 false).foldl crc6Bit 21

def bitsNat (l : List Bool) : Nat := l.foldl (fun a b => 2 * a + b2n b) 0

/-- A serial message placed in POSn_SENT_SER, or failed (R288). -/
def serialDone (s : Chip) (n : Nat) (ok : Bool) (id ty data : Nat) : Chip :=
  let s := s.modPos n fun p => { p with serial := [] }
  if ok then s.sets [(Reg.POS_SENT_SER_id n, id), (Reg.POS_SENT_SER_type n, ty), (Reg.POS_SENT_SER_data n, data),
    (Reg.POS_FLAGS_ser n, 1)]
  else s.bump (Reg.POS_SENT_ERR_ser_err n) 255

/-- Status bits 3 and 2 of an accepted frame join the serial message (R288; formats of SAE J2716, log entry 12). -/
def serialBits (s : Chip) (n : Nat) (b3 b2 : Bool) : Chip :=
  let mode := s.get (Reg.POS_SENT_CFG_ser n)
  if mode = 1 then
    -- short: 16 frames, bit 3 set in the first; id, data and CRC nibbles in bit 2
    let l := if b3 then [(b3, b2)] else if (s.posS n).serial.isEmpty then [] else (b3, b2) :: (s.posS n).serial
    let s := s.modPos n fun p => { p with serial := l }
    if l.length = 16 then
      let v := bitsNat (l.reverse.map (·.2))
      let ok := sentCrc false [v / 4096, v / 256 % 16, v / 16 % 16] == v % 16
      s.serialDone n ok (v / 4096) 1 (v / 16 % 256)
    else s
  else if mode = 2 then
    -- enhanced: 18 frames, bit 3 being 1111110 in the first seven
    let l := ((b3, b2) :: (s.posS n).serial).take 18
    let s := s.modPos n fun p => { p with serial := l }
    let m := l.reverse
    if l.length = 18 && bitsNat ((m.take 7).map (·.1)) == 126 && !(nth m 12).1 && !(nth m 17).1 then
      let body := m.drop 6
      let crc := bitsNat ((m.take 6).map (·.2))
      let ok := crc6 (body.flatMap fun p => [p.2, p.1]) == crc
      let data := bitsNat (body.map (·.2))
      let hi := bitsNat (((m.drop 8).take 4).map (·.1))
      let lo := bitsNat (((m.drop 13).take 4).map (·.1))
      if (nth m 7).1 then s.serialDone n ok hi 3 (lo * 4096 + data) else s.serialDone n ok (16 * hi + lo) 2 data
    else s
  else s

/-- A frame discarded by R286 or R287: the run of accepted frames is broken while the position is not valid, src_err is set. -/
def sentDrop (s : Chip) (n : Nat) : Chip :=
  (s.modPos n fun p => { p with okRun := if s.on (Reg.POS_STAT_pos_valid n) then p.okRun else 0 }).put
    (Reg.POS_FLAGS_src_err n) true

/-- A received frame (R286 to R289): `sync` and the intervals from it to the next sync pulse in CLK_MAIN ticks, the pause pulse
last where there is one. Which edge is the frame's last falling one where a pause pulse follows, and what a pos_nib above nibbles
selects, the rules do not say: the model stamps the edge that ends the last interval, the pause pulse included, and takes the
smaller of the two (DESIGN CHOICE, log entry 55). -/
def sentRx (s : Chip) (n sync : Nat) (pulses : List Nat) : Chip :=
  let nom := 1120 * s.get (Reg.POS_SENT_CFG_tick n)
  let dn := s.get (Reg.POS_SENT_CFG_nibbles n)
  let nn := if dn = 0 ∨ dn = 7 then 6 else dn
  if s.posMode n != 4 then s
  else if 5 * sync < 4 * nom ∨ 6 * nom < 5 * sync then s
  else
    let p := s.posS n
    let far := match p.syncPrev with
      | some q => 64 * (if q < sync then sync - q else q - sync) > q
      | none => false
    let nibs := (pulses.take (nn + 2)).map fun x => (2 * 56 * x + sync) / (2 * max 1 sync)
    let s := s.modPos n fun p => { p with syncPrev := some sync }
    if far || nibs.any (fun v => v < 12 || 27 < v) || pulses.length != nn + 2 + s.get (Reg.POS_SENT_CFG_pause n) then
      (s.sentDrop n).bump (Reg.POS_SENT_ERR_sync_err n) 255
    else
      let v := nibs.map (· - 12)
      let data := (v.drop 1).take nn
      if sentCrc (s.on (Reg.POS_SENT_CFG_crc_legacy n)) data != nth v (nn + 1) then
        let s := (s.sentDrop n).bump (Reg.POS_SENT_ERR_crc_err n) 255
        if (s.posS n).crcRec then s
        else (s.modPos n fun p => { p with crcRec := true }).posNote 0x0419 n (s.get (Reg.POS_SENT_ERR_crc_err n))
      else
        let word := data.foldl (fun a d => 16 * a + d) 0 * 16 ^ (6 - nn)
        let pn := s.get (Reg.POS_SENT_CFG_pos_nib n)
        let np := min nn (if pn = 0 ∨ pn = 7 then 3 else pn)
        let x := (data.take np).foldl (fun a d => 16 * a + d) 0
        let ang := if np ≤ 4 then x * 16 ^ (4 - np) else x / 16 ^ (np - 4)
        let tick : Int := (s.now : Int) - (200 * s.get (Reg.POS_SENT_TMO_age n) : Nat)
        let s := s.sets [(Reg.POS_SENT_FAST_status n, nth v 0), (Reg.POS_SENT_FAST_data n, word),
          (Reg.POS_FLAGS_frame n, 1), (Reg.POS_SENT_TS_tick n, unsgn 32 tick)]
        (s.serialBits n (hasBit (nth v 0) 3) (hasBit (nth v 0) 2)).sensorAngle n ang tick

/-! ### Changing the source, unit reset -/

/-- The channel's hidden state after a restart of its source; the sampled line levels, the series of R270 and the record of a SENT_CRC
since src_err was last cleared stay. -/
def posFresh (s : Chip) (n : Nat) : Chip :=
  s.modPos n fun p => { a := p.a, b := p.b, tE := s.now, tRef := s.now, selfAt := p.selfAt, crcRec := p.crcRec }

/-- The source restarts after a change of mode (R292): pos_valid clears, mode 3 starts under R283. -/
def posRestart (s : Chip) (n : Nat) : Chip :=
  let s := (s.posLose n).posFresh n
  let s := s.sets [(Reg.POS_STAT_spd_valid n, 0), (Reg.POS_STAT_standstill n, 0), (Reg.POS_STAT_res_lock n, 0),
    (Reg.POS_STAT_src_ok n, 0), (Reg.POS_STAT_qerr_count n, 0), (Reg.POS_SPEED_speed n, 0)]
  if s.posMode n = 3 then s.resStart n else if s.posMode n = 2 then s.hallCentre n else s

/-- POSn_CFG takes a word (R292). In idx_mode 0 and 1 only rearm sets pos_valid (Table 07-3), so that a run which an index has started
is abandoned, as by an illegal transition. -/
def posCfgSet (s : Chip) (n d : Nat) : Chip :=
  let old := s.posMode n
  let s := s.configWord (0x41300000 + 0x100 * n) d
  if s.posMode n != old then s.posRestart n
  else if s.idxMode n ≤ 1 && (s.posS n).arm != 0 then
    (s.modPos n fun p => { p with arm := 0, want := true }).put (Reg.POS_STAT_idx_seen n) false
  else s

/-- A unit reset of a channel (R13, R292): every register, its flags included, returns to its reset value. -/
def posUnitReset (s : Chip) (n : Nat) : Chip :=
  ((s.resetRange (0x41300000 + 0x100 * n) (0x413000FF + 0x100 * n)).posFresh n).modPos n fun p => { p with crcRec := false }

end Sys2Proof.Machine.Chip
end

