-- ==== Sys2Proof/Machine/CleOps.lean ====
section
/-! DEFINITION. Shared operations of the control law engine (chapter 08) and of the engine duplex (chapter 05): lists,
sections, clamps, the following-error timer, preload, mirrored writes, takeover. -/

namespace Sys2Proof.Machine

/-- The loop quantities of a pass (Table 08-1); `tqAtLimit` says that the torque reference stood at its limit in the
previous pass. -/
structure LoopIn where
  idErr     : Nat
  iqErr     : Nat
  spdRef    : Nat
  speed     : Nat
  torque    : Nat
  vdc       : Nat
  tqAtLimit : Bool
deriving DecidableEq, Repr

/-- A list evaluation under way: the module, the value carried to the next section, whether every value was finite,
sections evaluated, an integrator held. -/
structure LoopRun where
  chip    : Chip
  x       : Nat
  ok      : Bool := true
  secs    : Nat := 0
  frozen  : Bool := false
deriving DecidableEq, Repr

namespace Chip

/-! ### Engines and partners (R212 to R215) -/

/-- The engine sets to which a write addressed to cluster k's engine goes (R323). -/
def writeSets (s : Chip) (k : Nat) : List Nat := if s.duplexed k then [k, partner k] else [k]

/-- The engine sets that take what is addressed to cluster k's engine otherwise: both after a takeover (R323). -/
def takeSets (s : Chip) (k : Nat) : List Nat := if (s.cluster k).duplex == .takeover then [k, partner k] else [k]

/-- The engine state outside the registers is copied from one set to another, with the observer's registers and the list
outputs that hold the rest of it (Table 05-9, step 2). -/
def copyEngine (s : Chip) (a b : Nat) : Chip :=
  let s := s.modCle b fun _ => s.cleS a
  let s := forEach (List.range 6) (fun n t => t.set (Reg.CLE_LIST_OUT_v b n) (t.get (Reg.CLE_LIST_OUT_v a n))) s
  let s := s.sets [(Reg.CLE_STAT_fe_timer b, s.get (Reg.CLE_STAT_fe_timer a)),
    (Reg.OBS_STAT_ke_timer b, s.get (Reg.OBS_STAT_ke_timer a)), (Reg.OBS_STAT_lock_cnt b, s.get (Reg.OBS_STAT_lock_cnt a)),
    (Reg.OBS_STAT_dir b, s.get (Reg.OBS_STAT_dir a)), (Reg.OBS_STAT_ke_dev b, s.get (Reg.OBS_STAT_ke_dev a)),
    (Reg.OBS_STAT_ke_valid b, s.get (Reg.OBS_STAT_ke_valid a)), (Reg.OBS_STAT_region b, s.get (Reg.OBS_STAT_region a)),
    (Reg.OBS_STAT_obs_lock b, s.get (Reg.OBS_STAT_obs_lock a)), (Reg.OBS_ANGLE_angle b, s.get (Reg.OBS_ANGLE_angle a)),
    (Reg.OBS_ERR_pos_diff b, s.get (Reg.OBS_ERR_pos_diff a)), (Reg.OBS_ERR_pll_err b, s.get (Reg.OBS_ERR_pll_err a)),
    (Reg.OBS_SPEED_v b, s.get (Reg.OBS_SPEED_v a)), (Reg.OBS_FLUX_v b, s.get (Reg.OBS_FLUX_v a)),
    (Reg.OBS_KE_v b, s.get (Reg.OBS_KE_v a)), (Reg.OBS_KE_DEV_v b, s.get (Reg.OBS_KE_DEV_v a))]
  s.modCl b fun c => { c with
    lockRun := (s.cluster a).lockRun, unlockRun := (s.cluster a).unlockRun, obsSpd := (s.cluster a).obsSpd,
    obsAng := (s.cluster a).obsAng, keTicks := (s.cluster a).keTicks, psi := (s.cluster a).psi }

/-- Observer and engine of set `e` return to their reset values (R13). -/
def resetEngine (s : Chip) (e : Nat) : Chip :=
  let b := 0x40000000 + 0x10000 * e
  let s := (s.resetRange (b + 0x1000) (b + 0x1FFF)).resetRange (b + 0x2000) (b + 0x2FFF)
  let s := s.modCle e fun _ => {}
  let s := s.modCl e fun c => { c with lockRun := 0, unlockRun := 0, obsSpd := 0, obsAng := 0, keTicks := 0, psi := 0 }
  s.set (Reg.OBS_HFI_AMP_v e) (s.motor e).hfiAmp

/-- The Takeover case of Table 05-10. -/
def takeover (s : Chip) (k code : Nat) : Chip :=
  let s := (s.modCl k fun c => { c with duplex := .takeover }).sets
    [(Reg.SEQ_STAT_dup k, 0), (Reg.SEQ_FLAGS_dup_ev k, 1)]
  (s.resetEngine k).noteCl 0x051F k code

/-- An internal fault of engine k: takeover while its cluster is duplexed, the safe state otherwise (R214, R325); the cluster of a
lent engine is the one that it serves, which has no fault-free set left to take over (DEDUCED, log entry 36). -/
def engineFault (s : Chip) (k off : Nat) : Chip :=
  let s := s.put (Reg.CLE_FLAGS_ecc_unc k) true
  if s.on (Reg.SEQ_STAT_lent k) then s.faultCl 0x0613 3 k (partner k) off
  else if (s.cluster k).duplex == .active then
    (s.record 0x0613 3 k k (rgnOf k) off).takeover k 0x0613
  else s.faultCl 0x0613 3 k k off

/-! ### Lists (R307) -/

/-- Sources 7, 14 and 15 act as 0 (Table 08-1); destinations 5 to 7 act as 0 (Table 08-2). -/
def listSrc (s : Chip) (e n : Nat) : Nat :=
  let c := s.get (Reg.CLE_LIST_src e n)
  if c = 7 ∨ 14 ≤ c then 0 else c

def listDst (s : Chip) (e n : Nat) : Nat :=
  let d := s.get (Reg.CLE_LIST_dst e n)
  if d ≤ 4 then d else 0

def listFirst (s : Chip) (e n : Nat) : Nat := s.get (Reg.CLE_LIST_first e n)
def listCount (s : Chip) (e n : Nat) : Nat := s.get (Reg.CLE_LIST_count e n)

/-- Why list n is not valid, 0 if it is: 1 count or range, 2 section shared, 3 own output, 4 off. -/
def listReason (s : Chip) (e n : Nat) (prev : List Nat) : Nat :=
  let f := s.listFirst e n
  let c := s.listCount e n
  if s.listSrc e n = 0 then 4
  else if c = 0 || 48 < c || 48 < f + c then 1
  else if prev.any (fun j => f < s.listFirst e j + s.listCount e j && s.listFirst e j < f + c) then 2
  else if s.listSrc e n = 8 + n then 3
  else 0

/-- The valid lists, ascending. -/
def validLists (s : Chip) (e : Nat) : List Nat :=
  (List.range 6).foldl (fun l n => if s.listReason e n l = 0 then l ++ [n] else l) []

/-- CLEk_STAT.valid brought up to date. -/
def showLists (s : Chip) (e : Nat) : Chip :=
  s.set (Reg.CLE_STAT_valid e) ((s.validLists e).foldl (fun w n => w + 2 ^ n) 0)

/-- List n of set `e` was written: LIST_BAD where its source is not 0 and it fails (R307). -/
def listWritten (s : Chip) (e n : Nat) : Chip :=
  let s := s.showLists e
  let r := s.listReason e n ((s.validLists e).filter fun j => j < n)
  if r = 0 ∨ r = 4 then s else (s.put (Reg.CLE_FLAGS_list_bad e) true).noteCl 0x0610 e (n + 256 * r)

/-- The lowest-numbered valid list with a destination. -/
def listTo (s : Chip) (e d : Nat) : Option Nat := (s.validLists e).find? fun n => s.listDst e n = d

/-! ### Arithmetic (R304) -/

/-- Products, sums and differences of R304. -/
def fmul (a b : Nat) : Nat := F32.ftz (F32.mul (F32.ftz a) (F32.ftz b))
def fadd (a b : Nat) : Nat := F32.ftz (F32.add (F32.ftz a) (F32.ftz b))
def fsub (a b : Nat) : Nat := F32.ftz (F32.sub (F32.ftz a) (F32.ftz b))

/-- Table 08-2: the added outputs of the valid lists with a destination; `none` without such a list. -/
def destSum (s : Chip) (e d : Nat) : Option Nat :=
  match (s.validLists e).filter fun n => s.listDst e n = d with
  | [] => none
  | n :: l => some (l.foldl (fun a j => fadd a (s.get (Reg.CLE_LIST_OUT_v e j))) (s.get (Reg.CLE_LIST_OUT_v e n)))

/-! ### Evaluation (R303 to R306, R314 to R316, R324) -/

/-- Sign of a value for R316: 0 for a zero. -/
def fsign (a : Nat) : Int := if F32.isZero (F32.ftz a) then 0 else if F32.sign a then -1 else 1

/-- The clamp of R314 with its flags, an infinite value included; the value, and whether it was clamped. -/
def cleClamp (s : Chip) (k e n y : Nat) : Chip × Nat × Bool :=
  let hi := F32.ftz (s.get (Reg.CLE_LIST_LIM_HI_v e n))
  let lo := F32.ftz (s.get (Reg.CLE_LIST_LIM_LO_v e n))
  let crossed := F32.lt hi lo
  let s := if crossed then
      let s := if s.on (Reg.CLE_FLAGS_lim_crossed e) then s else s.noteCl 0x0617 k n
      s.put (Reg.CLE_FLAGS_lim_crossed e) true
    else s
  let out := F32.lt y lo || F32.lt hi y
  let s := if out then s.setBitOf (Reg.CLE_FLAGS_lim e) n else s
  (s, if crossed || F32.lt y lo then lo else if F32.lt hi y then hi else y, out)

/-- One evaluation of section m within list n of set `e` (R303, R305). -/
def evalSection (k e n : Nat) (freeze : Bool) (r : LoopRun) (m : Nat) : LoopRun :=
  if !r.ok then r
  else
    let s := r.chip
    let x := r.x
    let b0 := s.get (Reg.CLE_SEC_B0_v e m)
    let b1 := s.get (Reg.CLE_SEC_B1_v e m)
    let b2 := s.get (Reg.CLE_SEC_B2_v e m)
    let a1 := s.get (Reg.CLE_SEC_A1_v e m)
    let a2 := s.get (Reg.CLE_SEC_A2_v e m)
    let ty := s.get (Reg.CLE_SEC_CFG_type e m)
    let c := s.cleS e
    let s1 := lookupD 0 m c.s1
    let s2 := lookupD 0 m c.s2
    let y0 := fadd (fmul b0 x) s1
    let (s, y, _) := if (F32.isFinite y0 || F32.isInf y0) && (ty == 1 || ty == 2) then s.cleClamp k e n y0 else (s, y0, false)
    let keep := ty == 2 && freeze && fsign y != 0 && fsign x * fsign (fadd (fadd b0 b1) b2) == fsign y
    let n1 := if keep then s1 else fadd (fsub (fmul b1 x) (fmul a1 y)) s2
    let n2 := if keep then s2 else fsub (fmul b2 x) (fmul a2 y)
    let s := s.modCle e fun c => { c with
      s1 := putAt 0 m n1 c.s1, s2 := putAt 0 m n2 c.s2, snap1 := putAt 0 m n1 c.snap1, snap2 := putAt 0 m n2 c.snap2 }
    let r := { r with secs := r.secs + 1, frozen := r.frozen || keep, x := y }
    if F32.isFinite y && F32.isFinite n1 && F32.isFinite n2 then { r with chip := s }
    else
      let s := s.put (Reg.CLE_FLAGS_nonfinite e) true
      { r with chip := if (s.cluster k).faults.any (·.code == 0x0612) then s else s.faultCl 0x0612 3 k k m, ok := false }

/-- Table 08-1. -/
def listSource (s : Chip) (e n : Nat) (i : LoopIn) : Nat :=
  match s.listSrc e n with
  | 1 => i.idErr
  | 2 => i.iqErr
  | 3 => fsub i.spdRef ((s.destSum e 4).getD i.speed)
  | 4 => i.speed
  | 5 => i.torque
  | 6 => i.vdc
  | c => if 8 ≤ c ∧ c ≤ 13 then s.get (Reg.CLE_LIST_OUT_v e (c - 8)) else 0

/-- The following-error check is on and watches list n (R317). -/
def feWatches (s : Chip) (e n : Nat) : Bool :=
  s.get (Reg.CLE_CTL_fe_list e) == n && s.get (Reg.CLE_CTL_fe_ms e) != 0 && !F32.isZero (s.get (Reg.CLE_FE_LIM_v e))

/-- Within, Beyond and Limited of Table 08-3 at an evaluation of list n; `err` is the source value. -/
def feStep (s : Chip) (k e n err : Nat) (i : LoopIn) : Chip :=
  if !s.feWatches e n then s
  else
    let c := s.cleS e
    let d := s.listDst e n
    let limited := hasBit c.clamped n
      || ((d == 1 || d == 2) && s.on (Reg.FC_STAT_mod_limited k)) || (d == 3 && i.tqAtLimit)
    if F32.le (F32.abs err) (s.get (Reg.CLE_FE_LIM_v e)) then s.feZero e
    else
      let t := if limited then c.feTicks else c.feTicks + (s.now - c.feAt)
      (s.modCle e fun c => { c with feTicks := t, feAt := s.now, feErr := F32.abs err }).set
        (Reg.CLE_STAT_fe_timer e) (min 255 (t / 200000))

/-- List n is due in the pass (R310). -/
def listDue (s : Chip) (e n : Nat) : Bool :=
  let d := s.get (Reg.CLE_LIST_div e n) + 1
  (s.cleS e).pass % d == s.get (Reg.CLE_LIST_phase e n) % d

/-- One list of a pass (R306, R314). -/
def evalList (k e : Nat) (i : LoopIn) (r : LoopRun) (n : Nat) : LoopRun :=
  if !r.ok || !r.chip.listDue e n then r
  else
    let s := r.chip.setBitOf (Reg.CLE_STAT_due e) n
    let x := s.listSource e n i
    let d := s.listDst e n
    let freeze := (d == 1 || d == 2) && s.on (Reg.FC_STAT_mod_limited k)
    let secs := (List.range (s.listCount e n)).map (· + s.listFirst e n)
    let r := secs.foldl (evalSection k e n freeze) { r with chip := s, x := x }
    if !r.ok then r
    else
      let (s, y, cl) := r.chip.cleClamp k e n r.x
      let s := s.feStep k e n x i
      let s := s.set (Reg.CLE_LIST_OUT_v e n) y
      { r with chip := s.modCle e fun c => { c with clamped := putBit c.clamped n cl } }

/-- The current-loop stage of a pass on set `e` (R310): the module, the sections evaluated, all values finite. -/
def runLists (s : Chip) (k e : Nat) (i : LoopIn) : Chip × Nat × Bool :=
  let s := s.set (Reg.CLE_STAT_due e) 0
  let r := (s.validLists e).foldl (evalList k e i) { chip := s, x := 0 }
  let s := r.chip.sets [(Reg.CLE_STAT_secs e, r.secs), (Reg.CLE_STAT_frozen e, b2n r.frozen)]
  (s.modCle e fun c => { c with pass := c.pass + 1 }, r.secs, r.ok)

/-- A pass in which no list is evaluated; one in RUN or DECEL still counts (R310). -/
def skipLists (s : Chip) (k e : Nat) : Chip :=
  let s := s.sets [(Reg.CLE_STAT_due e, 0), (Reg.CLE_STAT_secs e, 0), (Reg.CLE_STAT_frozen e, 0)]
  if (s.clState k = 2 ∨ s.clState k = 3) ∧ s.motorType k then s.modCle e fun c => { c with pass := c.pass + 1 } else s

/-! ### CATCH to RUN (R312, R313) -/

/-- The preload of one voltage component. -/
def preloadOne (s : Chip) (e d v : Nat) : Chip :=
  match s.listTo e d with
  | some n =>
    let f := s.listFirst e n
    let c := s.listCount e n
    s.modCle e fun t => { t with
      s1 := putAt 0 (f + c - 1) v (t.s1.filter fun p => !(f ≤ p.1 && p.1 < f + c)),
      s2 := t.s2.filter fun p => !(f ≤ p.1 && p.1 < f + c) }
  | none => s

/-- The lists that R313 misses: bit 0 v_d, bit 1 v_q, bit 2 torque command. -/
def missingLists (s : Chip) (k : Nat) : Nat :=
  let e := s.engineOf k
  b2n (s.listTo e 1).isNone + 2 * b2n (s.listTo e 2).isNone
    + 4 * b2n (s.on (Reg.SEQ_CFG_mode k) && (s.listTo e 3).isNone)

/-- The engine's part of CATCH to RUN; false where LOOP_MISSING takes the cluster to SAFE. -/
def preload (s : Chip) (k vd vq : Nat) : Chip × Bool :=
  let s := forEach (s.engineSets k) (fun e t =>
    ((t.preloadOne e 1 vd).preloadOne e 2 vq).modCle e fun c => { c with pass := 0 }) s
  let m := s.missingLists k
  if m = 0 then (s, true)
  else ((s.put (Reg.CLE_FLAGS_loop_missing k) true).faultCl 0x0611 3 k k m, false)

/-! ### Writes (R318 to R323) -/

/-- A coefficient word was written: the CRC is no longer current (R322). -/
def staleCrc (s : Chip) (e : Nat) : Chip := s.put (Reg.CLE_STAT_crc_cur e) false

/-- A non-finite coefficient or limit word is not taken (R321). -/
def coefRefused (s : Chip) (k off : Nat) : Chip := (s.put (Reg.CLE_FLAGS_coef_ref k) true).noteCl 0x0616 k off

/-- The offset from an engine base holds a coefficient or a limit (Tables 08-10 and 08-12). -/
def coefWord (off : Nat) : Bool :=
  off == 0x10 || (0x40 ≤ off && off < 0xA0 && (off % 0x10 == 4 || off % 0x10 == 8))
    || (0x100 ≤ off && off < 0x700 && off % 0x20 < 0x14)

/-- A coefficient or limit word at an offset from the engine base of cluster k. -/
def coefSet (s : Chip) (k off d : Nat) : Chip :=
  if s.on (Reg.SEQ_STAT_lent k) then s.refuse (0x40002000 + 0x10000 * k + off)
  else if !F32.isFinite d then s.coefRefused k off
  else
    forEach (s.writeSets k) (fun e t =>
      let t := t.configWord (0x40002000 + 0x10000 * e + off) d
      if 0x100 ≤ off then t.staleCrc e else t) s

/-- A list register of cluster k (RWL). -/
def listSet (s : Chip) (k n d : Nat) : Chip :=
  let a := 0x40002040 + 0x10 * n
  if !s.rwlOpen (a + 0x10000 * k) then s.refuse (a + 0x10000 * k)
  else forEach (s.writeSets k) (fun e t => (t.configWord (a + 0x10000 * e) d).listWritten e n) s

/-- A section's CFG register (RWL, R323 applies as to its coefficients). -/
def secCfgSet (s : Chip) (k m d : Nat) : Chip :=
  let a := 0x40002114 + 0x20 * m
  if !s.rwlOpen (a + 0x10000 * k) then s.refuse (a + 0x10000 * k)
  else forEach (s.writeSets k) (fun e t => (t.configWord (a + 0x10000 * e) d).staleCrc e) s

/-- CLEk_CTL.clr (R311, R323). -/
def cleClr (s : Chip) (k : Nat) : Chip :=
  if (s.clState k = 0 ∨ s.clState k = 4 ∨ s.clState k = 5) ∧ !s.on (Reg.SEQ_STAT_lent k) then
    forEach (s.takeSets k) (fun e t => t.clearLists e) s
  else s.refuse (0x40002000 + 0x10000 * k)

/-- A unit reset of engine k: a pass-through in every section, every list off. -/
def cleUnitReset (s : Chip) (k : Nat) : Chip :=
  let b := 0x40002000 + 0x10000 * k
  (s.resetRange b (b + 0xFFF)).modCle k fun _ => { feAt := s.now }

/-- The 288 words of R322 as bytes in address order. -/
def cleBytes (s : Chip) (e : Nat) : List Byte :=
  (List.range 48).flatMap fun m =>
    leBytes 4 (s.get (Reg.CLE_SEC_B0_v e m)) ++ leBytes 4 (s.get (Reg.CLE_SEC_B1_v e m))
    ++ leBytes 4 (s.get (Reg.CLE_SEC_B2_v e m)) ++ leBytes 4 (s.get (Reg.CLE_SEC_A1_v e m))
    ++ leBytes 4 (s.get (Reg.CLE_SEC_A2_v e m)) ++ leBytes 4 (s.get (Reg.CLE_SEC_CFG_type e m))

end Chip
end Sys2Proof.Machine
end

