-- ==== Sys2Proof/Machine/DcOps.lean ====
section
/-! DEFINITION. Shared operations on the DC bus (chapter 11): V_hi, the regenerative factor, the chopper, the end of a
discharge, what the write of a VDC result does, the processor-channel demand. -/

namespace Sys2Proof.Machine.Chip

/-- The valid VDC results of every cluster's latest pass. -/
def vdcAll (s : Chip) : List Nat := s.cl.flatMap fun c => c.vdc.map (·.2)

/-- V_hi (R436): the largest valid VDC result among all clusters' latest passes. -/
def vHi (s : Chip) : Nat := match s.vdcAll with | [] => 0 | v :: l => l.foldl F32.max v

/-- SAFE_STAT.ov (Table 11-13). -/
def ovLevel (s : Chip) : Nat :=
  let v := s.vHi
  let reach (r : Nat) : Bool := !F32.isZero r && !s.vdcAll.isEmpty && F32.ge v r
  if s.ov3Tripped then 3
  else if reach (s.get Reg.SAFE_OV2_v) then 2
  else if reach (s.get Reg.SAFE_OV1_v) then 1
  else 0

/-- The factor f of R437, and its ramp after CHOPPER_FAIL (R439); no limit without a valid VDC result (R436) or with an OV1 of 0. -/
def regenFactor (s : Chip) : Nat :=
  let v1 := s.get Reg.SAFE_OV1_v
  let v2 := s.get Reg.SAFE_OV2_v
  if F32.isZero v1 || s.vdcAll.isEmpty then F32.one
  else match s.safe.rampFrom with
  | some f =>
    let dt := s.now - s.safe.rampAt
    if dt ≥ 1000000 then 0 else F32.mul f (F32.sub F32.one (F32.ratio dt 1000000))
  | none =>
    if F32.lt s.vHi v1 then F32.one
    else F32.clamp (F32.sub F32.one (F32.div (F32.mul F32.half (F32.sub s.vHi v1)) (F32.sub v2 v1))) F32.half F32.one

/-- The limit factor in the braking direction: none at all while a contactor has dropped (Table 11-6). -/
def brakeFactor (s : Chip) : Nat := if s.on Reg.SAFE_CTR_STAT_drop then 0 else s.regenFactor

/-! ### Chopper (R438 to R440) -/

/-- A verification starts with the chopper turned on. -/
def chopStart (s : Chip) (test : Bool) : Chip :=
  let s := s.chopper true
  { s with safe := { s.safe with chopV := s.vHi, chopVerify := true, chopTest := test, chopSeen := false, chopAt := s.now } }

/-- The time of R439 in ticks: verify × 10 µs; 0 acts as 1. -/
def chopTicks (s : Chip) : Nat := 2000 * max 1 (s.get Reg.SAFE_CHOP_CFG_verify)

/-- SAFE_CHOP_CFG has changed: a chopper that is on moves to the slice that it names now (R438). -/
def chopMoved (old s : Chip) : Chip :=
  if old.chopSlice = s.chopSlice || !s.on Reg.SAFE_STAT_chop_on then s
  else
    let s := match old.chopSlice with | some n => s.setOvr n 0 | none => s
    s.chopper s.chopSlice.isSome

/-- The level below which the chopper is released. -/
def chopLow (s : Chip) : Nat := F32.sub (s.get Reg.SAFE_OV2_v) (F32.ofNat (s.get Reg.SAFE_CHOP_CFG_hyst))

/-- R438 at a VDC result write. -/
def chopRule (s : Chip) : Chip :=
  let v2 := s.get Reg.SAFE_OV2_v
  if F32.isZero v2 || s.vdcAll.isEmpty || s.chopSlice.isNone then s
  else if F32.ge s.vHi v2 then
    if s.on Reg.SAFE_STAT_chop_on then s
    else (s.count Reg.SAFE_CHOP_STAT_count).chopStart false
  else if s.on Reg.SAFE_STAT_chop_on && !s.safe.chopTest && F32.lt s.vHi s.chopLow then
    let s := s.chopper false
    { s with safe := { s.safe with chopVerify := false } }
  else s

/-- A valid role-4 comparator: the one that SAFE_CHOP_CFG names, in use with an enabled edge and a valid output. -/
def chopCmp (s : Chip) : Option Nat :=
  let c := s.get Reg.SAFE_CHOP_CFG_cmp
  if c < 16 && s.cmpRole c == 4 && s.on (Reg.CMP_CFG_en c) && s.on (Reg.CMP_CFG_hi_en c) && !s.cmpInvalid c then some c
  else none

/-! ### Discharge (R446 to R448) -/

/-- A discharge runs. -/
def disRuns (s : Chip) : Bool := s.get Reg.SAFE_DIS_STAT_state == 1 || s.get Reg.SAFE_DIS_STAT_state == 2

/-- A winding discharge of cluster k ends in IDLE (R208). -/
def endWdis (s : Chip) (k : Nat) : Chip :=
  if s.on (Reg.SEQ_STAT_wdis k) then (s.enter k 0).put (Reg.SEQ_FLAGS_wdis_ev k) true else s

/-- A running discharge ends with a state and a reason; DSCH and the slice are released. -/
def disEnd (s : Chip) (state reason : Nat) : Chip :=
  let s := if s.get Reg.SAFE_DIS_STAT_state = 2 then s.resistor false else s
  let s := (s.set Reg.SAFE_DIS_STAT_state state).set Reg.SAFE_DIS_STAT_reason reason
  s.applyContactors false

/-- Step 3 of Table 11-7, judged whenever V_hi is known, by the processor channel. -/
def disCheck (s : Chip) : Chip :=
  if s.disRuns && s.moduleChan && !s.vdcAll.isEmpty && F32.lt s.vHi (s.get Reg.SAFE_DIS_TGT_v) then
    let s := forEach (List.range 4) (fun k t => t.endWdis k) s
    (s.disEnd 3 0).put Reg.SAFE_FLAGS_dis_done true
  else s

/-- Step 2 of Table 11-7; `why` is the data of DIS_FALLBACK, 0 with path 1. -/
def disResistor (s : Chip) (why : Nat) : Chip :=
  let s := (s.set Reg.SAFE_DIS_STAT_state 2).resistor true
  let s := if why = 0 then s else s.note 0x071B 0 why
  s.disCheck

/-! ### The write of a VDC result (R420, R424, R436 to R438, R447) -/

/-- The tick since which a role-3 comparator has stood tripped (R442). -/
def showOv3 (s : Chip) : Chip :=
  { s with safe := { s.safe with ov3At := if s.ov3Tripped then some (s.safe.ov3At.getD s.now) else none } }

/-- V_hi, the levels shown and their flags brought up to date. -/
def showVdc (s : Chip) : Chip :=
  let old := s.get Reg.SAFE_STAT_ov
  let s := s.set Reg.SAFE_VDC_HI_v s.vHi
  let new := s.ovLevel
  let s := s.set Reg.SAFE_STAT_ov new
  let s := if old = 0 ∧ 1 ≤ new then s.put Reg.SAFE_FLAGS_ov1_ev true else s
  if old < 2 ∧ 2 = new then s.put Reg.SAFE_FLAGS_ov2_ev true else s

/-- The valid VDC results of cluster k's latest pass take new values. -/
def vdcWritten (s : Chip) (k : Nat) (l : List (Nat × Nat)) : Chip :=
  let s := (s.modCl k fun c => { c with vdc := l }).showVdc
  let s := (s.chopRule).disCheck
  s.evalRule k

/-- The diode-current watch of a pass (Table 11-2): one valid phase current above 0.05 · i_max while OFF is held. -/
def diodeWatch (s : Chip) (k : Nat) (currents : List Nat) : Chip :=
  let lim := F32.mul (F32.ratio 1 20) (s.motor k).iMax
  if s.holdsOff k && !(s.cluster k).diodeSeen && currents.any fun i => F32.gt (F32.abs i) lim then
    s.modCl k fun c => { c with diodeSeen := true, diodeRun := c.diodeRun + 1 }
  else s

/-- A new pass: a pass without diode current breaks the run. -/
def diodePass (s : Chip) (k : Nat) : Chip :=
  s.modCl k fun c => { c with diodeRun := if c.diodeSeen then c.diodeRun else 0, diodeSeen := false }

/-! ### What comparators and STO inputs demand (R425 to R427, R430) -/

/-- A fault of the clusters that a unit is assigned to: one cluster's own, or one entry for several. -/
def faultOn (c : Chip) (code cls inst : Nat) (ks : List Nat) (data : Nat) : Chip :=
  match ks with
  | [k] => c.faultCl code cls inst k data
  | _ => c.faultAll code cls inst ks data

/-- The clusters that a comparator demands SAFE of in its role (Table 11-4). -/
def cmpTargets (s : Chip) (n : Nat) : List Nat :=
  if s.cmpRole n = 1 ∨ s.cmpRole n = 2 then s.owners (·.cmp) n else if s.cmpRole n = 3 then s.motorClusters else []

/-- The fault code of a comparator's role. -/
def cmpCode (s : Chip) (n : Nat) : Nat := if s.cmpRole n = 1 then 0x0713 else if s.cmpRole n = 2 then 0x0714 else 0x0715

/-- The demand of a comparator on clusters (R425, R441). -/
def cmpDemand (s : Chip) (n : Nat) (ks : List Nat) (data : Nat) : Chip :=
  match s.cmpRole n with
  | 1 => s.faultOn 0x0713 2 n ks data
  | 2 => s.faultOn 0x0714 3 n ks data
  | 3 => ((s.put Reg.SAFE_FLAGS_ov3_ev true).showVdc.showOv3).faultAll 0x0715 3 n ks data
  | _ => s

/-- What a tripped comparator does in its role (R425, R426, R439). -/
def cmpRoleActs (c : Chip) (n : Nat) (low : Bool) (data : Nat) : Chip :=
  if c.cmpRole n = 4 then
    (if c.chopCmp = some n && !low && c.now ≤ c.safe.chopAt + c.chopTicks then { c with safe := { c.safe with chopSeen := true } } else c)
  else c.cmpDemand n (c.cmpTargets n) data

/-- Comparators that act as tripped and whose demand some of their clusters do not hold yet, since a setting has changed or their
outputs became not valid (R427): the demand begins, and is recorded. -/
def cmpDemands (s : Chip) : Chip :=
  forEach (List.range 16) (fun c t =>
    let ks := (t.cmpTargets c).filter fun k => !((t.cluster k).faults.any fun x => x.code = t.cmpCode c && x.inst = c)
    if !t.cmpActs c || ks.isEmpty then t
    else
      let low := !(t.on (Reg.CMP_CFG_hi_en c) && (t.cmpInvalid c || hasBit (t.get Reg.CMP_STAT_hi_now) c))
      t.cmpDemand c ks (c + 256 * b2n low + 512 * b2n (t.cmpInvalid c))) s

/-- The STO inputs in demand. -/
def stoBits (c : Chip) : Nat := c.get Reg.SAFE_STAT_sto_a + 2 * c.get Reg.SAFE_STAT_sto_b

/-- The demands of every cluster, where a setting of the safety block has changed. -/
def standAll (s : Chip) : Chip :=
  let ks := s.present.filter fun k => s.stoFor k && !((s.cluster k).faults.any fun x => x.code = 0x0710)
  ((if ks.isEmpty then s else s.faultAll 0x0710 3 0 ks s.stoBits).cmpDemands).refreshHolds

/-- The ticks since which the comparators that no longer act as tripped have been released (Table 11-12); `old` is the state
before. -/
def cmpFreed (old s : Chip) : Chip :=
  forEach (List.range 16) (fun c t =>
    if old.cmpActs c && !t.cmpActs c then { t with adc := { t.adc with cmpFree := insertAt c t.now t.adc.cmpFree } } else t) s

/-! ### The processor channel's demand (R456) -/

/-- pc_sto is set by a fault of cluster k. -/
def pcSto (s : Chip) (k code data : Nat) : Chip :=
  let s := (s.put (Reg.SAFE_C_STAT_pc_sto k) true).put Reg.SAFE_FLAGS_pc_ev true
  (s.put (Reg.SAFE_C_STAT_ss1 k) false).faultCl code 3 k k data

end Sys2Proof.Machine.Chip
end

