-- ==== Sys2Proof/Machine/ChmOps.lean ====
section
/-! DEFINITION. Shared operations of the Chimney (chapter 12): thermistor and junction estimates, peak handling, the
winding limit, rainflow counting, life, and the writes held for their temperature. -/

namespace Sys2Proof.Machine.Chip

def modChm (s : Chip) (f : ChmS → ChmS) : Chip := { s with chm := f s.chm }
def sw (s : Chip) (n : Nat) : SwitchS := nth s.chm.sw n
def modSw (s : Chip) (n : Nat) (f : SwitchS → SwitchS) : Chip := s.modChm fun c => { c with sw := updNth f n c.sw }
def modLedger (s : Chip) (m : Nat) (f : LedgerS → LedgerS) : Chip :=
  s.modChm fun c => { c with ledger := updNth f m c.ledger }
def modAge (s : Chip) (k : Nat) (f : AgeS → AgeS) : Chip := s.modChm fun c => { c with age := updNth f k c.age }

/-- A binary32 field of the record of island n's leg. -/
def islRec (s : Chip) (n off : Nat) : Nat := s.recWord (n / 2) off

/-- Degrees, rounded, as a signed pattern of `w` bits. -/
def degrees (w v : Nat) : Nat := unsgn w (F32.round v)

/-! ### Thermistor (R484) -/

/-- T_ntc of leg m from the reading of its odd island. -/
def showNtc (s : Chip) (m : Nat) : Chip :=
  let i := 2 * m + 1
  if s.recOk m && s.on (Reg.ISL_STAT_ntc_ok i) then
    let r := F32.div (s.get (Reg.ISL_NTC_ohms i)) (s.recWord m 0x34)
    let inv := F32.add (F32.div F32.one (F32.ratio 29815 100)) (F32.div (Config.ln r % 2 ^ 32) (s.recWord m 0x38))
    s.sets [(Reg.CHM_M_NTC_t_ntc m, F32.sub (F32.div F32.one inv) (F32.ratio 27315 100)), (Reg.CHM_M_STAT_ntc_ok m, 1)]
  else s.sets [(Reg.CHM_M_NTC_t_ntc m, 0), (Reg.CHM_M_STAT_ntc_ok m, 0)]

def ntcOk (s : Chip) (m : Nat) : Bool := s.on (Reg.CHM_M_STAT_ntc_ok m)

/-! ### Junction estimate (R487 to R490) -/

/-- The median of three values. -/
def median : List Nat → Nat
  | [a, b, c] => F32.max (F32.min a b) (F32.min (F32.max a b) c)
  | a :: _ => a
  | [] => 0

/-- Table 12-2: the estimate in use and its source. -/
def estimate (s : Chip) (n : Nat) : Nat × Nat :=
  let w := s.sw n
  let fresh := max 1 (s.get Reg.CHM_CFG_fresh)
  if !s.islUsed n then (0, 3)
  else if w.vals.length = 3 && !w.susp && (match w.accAt with | some t => s.now ≤ t + ms fresh | none => false) then
    (median w.vals, 1)
  else if s.recOk (n / 2) && s.ntcOk (n / 2) then (F32.add (s.get (Reg.CHM_M_NTC_t_ntc (n / 2))) w.dT, 2)
  else (0, 0)

/-- CHM_TJn and its source brought up to date; the interval's highest estimate follows (R496). -/
def showTj (s : Chip) (n : Nat) : Chip :=
  let (t, src) := s.estimate n
  let s := (s.set (Reg.CHM_TJ_tj n) t).set (Reg.CHM_TJ_SRC_src n) src
  if (src = 1 ∨ src = 2) ∧ s.on Reg.CHM_CFG_rain_en then
    let x := F32.round (F32.mul (F32.ofNat 10) t)
    s.modSw n fun w => { w with high := some (match w.high with | some h => max h x | none => x) }
  else s

/-- A valid turn-on measurement of island n: `tdon` in ns, `isw` the magnitude of its lookup's current (R487, R488). -/
def tjMeasure (s : Chip) (n tdon isw : Nat) : Chip :=
  let o := if n % 2 = 0 then 0x48 else 0x54
  let kt := s.islRec n (o + 8)
  let ns := F32.sub (F32.sub (F32.ofNat tdon) (s.islRec n o)) (F32.mul (s.islRec n (o + 4)) isw)
  let t := F32.add (s.islRec n 0x60) (F32.div ns kt)
  let ntc := s.get (Reg.CHM_M_NTC_t_ntc (n / 2))
  let ok := s.recOk (n / 2) && s.ntcOk (n / 2) && !F32.isZero kt && F32.le (F32.sub ntc (F32.ofNat 5)) t
    && F32.le t (F32.add (s.islRec n 0x2C) (F32.ofNat 25))
  let s := if ok then
      s.modSw n fun w => { w with
        vals := (t :: w.vals).take 3, accAt := some s.now, rej := 0,
        acc := if w.susp then w.acc + 1 else 0, susp := w.susp && w.acc + 1 < 16 }
    else
      let w := s.sw n
      let s := s.modSw n fun w => { w with acc := 0, rej := min 16 (w.rej + 1), susp := w.susp || w.rej + 1 ≥ 16 }
      if w.rej = 15 && !w.susp then
        let k := (s.islOwner n).getD 7
        (s.put Reg.CHM_FLAGS_tj_reject true).record 0x0812 0 n k (if k < 4 then rgnOf k else 0) n
      else s
  s.showTj n

/-- The model of one switch over `dt` ticks with the square of its phase current (R489). -/
def modelStep (s : Chip) (n i2 dt : Nat) : Chip :=
  if s.recOk (n / 2) then
    let d := (s.sw n).dT
    let p := F32.sub (F32.mul (F32.mul i2 (s.islRec n 0x44)) (s.islRec n 0x3C)) d
    let d' := F32.add d (F32.div (F32.mul p (F32.ratio dt 200000000)) (s.islRec n 0x40))
    s.modSw n fun w => { w with dT := d' }
  else s

/-! ### Peak budget (R491 to R495) -/

/-- Leg m's module is read at a start: its odd island is in use (R481), and so are the lands of its bus (R79). -/
def legRead (s : Chip) (m : Nat) : Bool :=
  s.on Reg.CFG_BOOT_STAT_torque_ready && s.islUsed (2 * m + 1) && s.landsUsed (idLands (m / 3))

/-- A leg of cluster k has no valid record, and none will be read in this start (R494). -/
def wantsRecord (s : Chip) (k : Nat) : Bool :=
  (s.legsOf k).any fun m => !s.recOk m && (hasBit s.chm.read m || !s.legRead m)

/-- Temperature, budget and known conditions that fail: bits 0, 1, 2. -/
def peakFails (s : Chip) (k : Nat) : Nat :=
  let lim := F32.sub (s.tightest k 0x2C) (F32.ofNat 10)
  b2n ((s.islandsOf k).any fun n => !F32.lt (s.get (Reg.CHM_TJ_tj n)) lim)
  + 2 * b2n (!F32.lt (s.get (Reg.CHM_C_I2T_v k)) (s.tightest k 0x30))
  + 4 * b2n (((s.islandsOf k).any fun n => s.get (Reg.CHM_TJ_SRC_src n) == 0) || (s.legsOf k).any fun m => !s.recOk m)

/-- The release condition (R493). -/
def peakReleases (s : Chip) (k : Nat) : Bool :=
  s.tjBelow k 20 && F32.le (s.get (Reg.CHM_C_I2T_v k)) (F32.mul F32.half (s.tightest k 0x30))
    && s.peakFails k / 4 == 0

/-- The peak limit in force: the ramp of Table 12-3, then t_rated. -/
def peakLimit (s : Chip) (k : Nat) : Nat :=
  let tr := (s.motor k).tRated
  let st := s.get (Reg.CHM_C_STAT_peak k)
  if st = 2 then
    let f := nth s.chm.rampFrom k
    let dt := min (ms 200) (s.now - nth s.chm.rampAt k)
    F32.add f (F32.mul (F32.sub tr f) (F32.ratio dt (ms 200)))
  else if st = 3 then tr
  else F32.maxPos

/-- The winding limit (R486). -/
def windLimit (s : Chip) (k : Nat) : Nat :=
  if s.on (Reg.CHM_C_STAT_wind_lim k) then
    let d := F32.div (F32.sub (s.get (Reg.CHM_C_TW_v k)) (F32.ofNat (s.get (Reg.CHM_C_CFG_tw_max k)))) (F32.ofNat 20)
    F32.mul (s.motor k).tRated (F32.clamp (F32.sub F32.one d) 0 F32.one)
  else F32.maxPos

/-- CHM_Ck_LIM (R494, R495). -/
def showLim (s : Chip) (k : Nat) : Chip :=
  let r := if s.on (Reg.CHM_C_STAT_no_record k) then (s.motor k).tRated else F32.maxPos
  s.set (Reg.CHM_C_LIM_v k) (F32.min (F32.min (s.peakLimit k) (s.windLimit k)) r)

/-- The Enforce case. -/
def peakEnforce (s : Chip) (k : Nat) : Chip :=
  let s := s.modChm fun c => { c with
    rampFrom := updNth (fun _ => F32.abs (s.get (Reg.FC_TQ_REF_v k))) k c.rampFrom, rampAt := updNth (fun _ => s.now) k c.rampAt }
  ((s.set (Reg.CHM_C_STAT_peak k) 2).put Reg.CHM_FLAGS_enforce true).limitCl 0x0814 k k (s.get (Reg.CHM_C_I2T_v k))

/-- Back to Free. -/
def peakFree (s : Chip) (k : Nat) : Chip := (s.set (Reg.CHM_C_STAT_peak k) 0).put Reg.CHM_FLAGS_released true

/-- Peak handling of a pass (Table 12-3, TJ_OVER apart). -/
def peakStep (s : Chip) (k : Nat) : Chip :=
  let f := s.peakFails k
  let s := s.sets [(Reg.CHM_C_STAT_hot k, bitOf f 0), (Reg.CHM_C_STAT_budget k, bitOf f 1), (Reg.CHM_C_STAT_unknown k, bitOf f 2)]
  let s := if s.wantsRecord k then s.put (Reg.CHM_C_STAT_no_record k) true else s
  let st := s.get (Reg.CHM_C_STAT_peak k)
  let s := if st = 0 && f != 0 && !s.on (Reg.CHM_C_STAT_no_record k) then
      let s := s.modChm fun c => { c with rampAt := updNth (fun _ => s.now) k c.rampAt }
      let s := ((s.set (Reg.CHM_C_STAT_peak k) 1).put Reg.CHM_FLAGS_peak_req true).noteCl 0x0813 k f
      if s.get (Reg.CHM_C_CFG_grace k) = 0 then s.peakEnforce k else s
    else if (st = 2 ∨ st = 3) ∧ s.peakReleases k then s.peakFree k
    else s
  s.showLim k

/-- The Junction over case: the first switch at or above tj_peak, while the fault does not stand already. -/
def tjOver (s : Chip) (k : Nat) : Chip :=
  let top := s.tightest k 0x2C
  match (s.islandsOf k).find? fun n =>
      (s.get (Reg.CHM_TJ_SRC_src n) = 1 || s.get (Reg.CHM_TJ_SRC_src n) = 2) && F32.ge (s.get (Reg.CHM_TJ_tj n)) top with
  | some n =>
    if (s.cluster k).faults.any fun x => x.code = 0x0815 then s
    else (s.put Reg.CHM_FLAGS_tj_over true).faultCl 0x0815 2 n k (n + 65536 * degrees 16 (s.get (Reg.CHM_TJ_tj n)))
  | none => s

/-- The estimates of every switch, and the case Junction over of every cluster (Table 12-2, Table 12-3). -/
def showEstimates (s : Chip) : Chip :=
  forEach [0, 1, 2, 3] (fun k t => t.tjOver k) (forEach (List.range 12) (fun n t => t.showTj n) s)

/-- The Chimney's part of a pass of cluster k (R489, R491, R492): the squares of the three phase currents and of the
current magnitude, all 0 in a pass without current; the first pass of a start has no time since another. -/
def chmPass (s : Chip) (k : Nat) (phases : List Nat) (mag2 : Nat) : Chip :=
  let dt := if nth s.chm.passTick k = 0 then 0 else s.now - nth s.chm.passTick k
  let s := s.modChm fun c => { c with passTick := updNth (fun _ => s.now) k c.passTick }
  let legs := s.legsOf k
  let s := forEach (s.islandsOf k) (fun n t =>
    let p := legs.findIdx (· = n / 2) % 3
    (t.modelStep n (nth phases p) dt).showTj n) s
  let ic := s.tightest k 0x24
  let a := F32.add (s.get (Reg.CHM_C_I2T_v k)) (F32.mul (F32.sub mag2 (F32.mul ic ic)) (F32.ratio dt 200000000))
  let s := s.set (Reg.CHM_C_I2T_v k) (F32.max 0 a)
  (s.peakStep k).tjOver k

/-! ### Windings (R485, R486) -/

/-- The winding limit begins or ends with T_w or tw_max (R486). -/
def windJudge (s : Chip) (k : Nat) : Chip :=
  let t := s.get (Reg.CHM_C_TW_v k)
  let m := s.get (Reg.CHM_C_CFG_tw_max k)
  let s := if s.on (Reg.CHM_C_STAT_wind_lim k) then
      s.put (Reg.CHM_C_STAT_wind_lim k) (m != 0 && !F32.lt t (F32.sub (F32.ofNat m) (F32.ofNat 10)))
    else if m != 0 && s.on (Reg.CHM_C_STAT_tw_valid k) && F32.ge t (F32.ofNat m) then
      ((s.put (Reg.CHM_C_STAT_wind_lim k) true).put Reg.CHM_FLAGS_wind_hot true).limitCl 0x0816 k k t
    else s
  s.showLim k

/-- A valid scan result of cluster k's winding input. -/
def windResult (s : Chip) (k raw : Nat) : Chip :=
  let x := F32.ofScaled (sgn 16 raw) 15
  let t := F32.add (F32.add (s.get (Reg.CHM_C_TW_C0_v k)) (F32.mul (s.get (Reg.CHM_C_TW_C1_v k)) x))
    (F32.mul (F32.mul (s.get (Reg.CHM_C_TW_C2_v k)) x) x)
  let s := s.sets [(Reg.CHM_C_TW_v k, t), (Reg.CHM_C_STAT_tw_valid k, 1)]
  (s.modChm fun c => { c with twTick := updNth (fun _ => s.now) k c.twTick }).windJudge k

/-! ### Rainflow and life (R496 to R498) -/

/-- The bin of a swing between two turning points in tenths of a degree. -/
def rainBin (a b : Int) : Nat :=
  let sBin := min 15 ((a - b).natAbs / 100)
  let c := min 7 (max 0 ((a + b + 800) / 500))
  8 * sBin + c.toNat

/-- `h` half-cycles counted in the bin of a swing, saturating at 32 bits. -/
def rainCount (w : SwitchS) (a b : Int) (h : Nat) : SwitchS :=
  let i := rainBin a b
  { w with counts := putAt 0 i (min 0xFFFFFFFF (lookupD 0 i w.counts + h)) w.counts }

/-- Closed cycles at the stack's end are counted (R497). -/
def rainClose : Nat → SwitchS → SwitchS
  | 0, w => w
  | f + 1, w =>
    match w.residue.reverse with
    | s4 :: s3 :: s2 :: s1 :: l =>
      if (s2 - s3).natAbs ≤ (s1 - s2).natAbs && (s2 - s3).natAbs ≤ (s3 - s4).natAbs then
        rainClose f { rainCount w s2 s3 2 with residue := (s4 :: s1 :: l).reverse }
      else w
    | _ => w

/-- A turning point enters the stack; a full stack gives up its two oldest points as one half-cycle. -/
def rainPush (w : SwitchS) (x : Int) : SwitchS :=
  let w := rainClose 8 { w with residue := w.residue ++ [x] }
  match w.residue with
  | a :: b :: l => if l.length ≥ 14 then { rainCount w a b 1 with residue := l } else w
  | _ => w

/-- One sample of the turning-point search with hysteresis `h` (tenths). The first direction is the one that first leaves
the first sample by the hysteresis (log entry 13). -/
def rainSample (h : Int) (w : SwitchS) : SwitchS :=
  match w.high with
  | none => w
  | some v =>
    let w := { w with high := none }
    match w.ext, w.rising with
    | none, _ => { w with ext := some v }
    | some e, none =>
      if v - e ≥ h then { rainPush w e with ext := some v, rising := some true }
      else if e - v ≥ h then { rainPush w e with ext := some v, rising := some false }
      else w
    | some e, some true =>
      if v > e then { w with ext := some v }
      else if e - v ≥ h then { rainPush w e with ext := some v, rising := some false }
      else w
    | some e, some false =>
      if v < e then { w with ext := some v }
      else if v - e ≥ h then { rainPush w e with ext := some v, rising := some true }
      else w

/-- N_f of bin i for the record of leg m (R498). -/
def cyclesTo (s : Chip) (m i : Nat) : Nat :=
  let dT := F32.ofNat (10 * (i / 8) + 5)
  let tc := F32.sub (F32.ofNat (25 * (i % 8))) (F32.ratio 275 10)
  let k0 := F32.ratio 27315 100
  let arr := F32.sub (F32.div F32.one (F32.add tc k0)) (F32.div F32.one (F32.add (s.recWord m 0x74) k0))
  F32.mul (F32.mul (s.recWord m 0x64) (Config.pow (F32.div (s.recWord m 0x68) dT) (s.recWord m 0x6C) % 2 ^ 32))
    (Config.exp (F32.mul (s.recWord m 0x70) arr) % 2 ^ 32)

/-- L of a switch: the bins in ascending order. -/
def lifeOf (s : Chip) (n : Nat) : Nat :=
  (s.sw n).counts.foldl (fun a p => F32.add a (F32.div (F32.ratio p.2 2) (s.cyclesTo (n / 2) p.1))) 0

/-- CHM_Mm_LIFE and LIFE_WARN. -/
def showLife (s : Chip) (m : Nat) : Chip :=
  let l := F32.max (s.lifeOf (2 * m)) (s.lifeOf (2 * m + 1))
  let s := s.set (Reg.CHM_M_LIFE_life m) l
  if F32.ge l (F32.ratio 8 10) && !(nth s.chm.ledger m).warned then
    ((s.modLedger m fun x => { x with warned := true }).put Reg.CHM_FLAGS_life_warn true).note 0x0820 m l
  else s

/-- A second in which an island of leg m switched (Table 12-5). -/
def runSecond (s : Chip) (m : Nat) : Chip :=
  let l := nth s.chm.ledger m
  if s.on (Reg.CHM_M_STAT_led_ok m) && l.lastS != some (s.now / 200000000) then
    s.modLedger m fun x => { x with runS := x.runS + 1, lastS := some (s.now / 200000000) }
  else s

/-! ### Writing within the temperature ranges (R501, R502) -/

/-- An identity-memory write, and its leg. -/
def ownerLeg : WriteOwner → Option Nat
  | .ledger m => some m
  | _ => none

/-- The temperature of a write stands within its range (Table 12-6). -/
def writeTempOk (s : Chip) (o : WriteOwner) : Bool :=
  match ownerLeg o with
  | some m =>
    let t := s.get (Reg.CHM_M_NTC_t_ntc m)
    s.ntcOk m && F32.le (F32.neg (F32.ofNat 20)) t && F32.le t (F32.ofNat 85)
  | none =>
    let t := s.get Reg.CHM_T_DIE_t_die
    s.on Reg.CHM_STAT_t_die_ok && F32.le (F32.neg (F32.ofNat 40)) t && F32.le t (F32.ofNat 115)

/-- CHM_WQ and the held and busy bits of the ledgers. -/
def showWrites (s : Chip) : Chip :=
  let l := s.chm.writes
  let isLed (w : WriteItem) : Bool := (ownerLeg w.owner).isSome
  let s := s.sets [(Reg.CHM_WQ_flash_held, min 255 (l.filter fun w => w.held && !isLed w).length),
    (Reg.CHM_WQ_id_held, min 255 (l.filter fun w => w.held && isLed w).length),
    (Reg.CHM_STAT_led_busy, b2n (l.any isLed))]
  forEach (List.range 6) (fun m t =>
    t.sets [(Reg.CHM_M_STAT_held m, b2n (l.any fun w => w.held && ownerLeg w.owner = some m)),
      (Reg.CHM_M_STAT_busy m, b2n (l.any fun w => w.started && ownerLeg w.owner = some m))]) s

/-- A write of this owner has started and not ended. -/
def writing (s : Chip) (o : WriteOwner) : Bool := s.chm.writes.any fun w => w.owner = o && w.started

/-- A write of this owner waits or runs. -/
def writeWaits (s : Chip) (o : WriteOwner) : Bool := s.chm.writes.any fun w => w.owner = o

/-- A write is submitted: it starts where its temperature is in range and none of its kind is held, and is held
otherwise. -/
def submitWrite (s : Chip) (o : WriteOwner) : Chip :=
  let kind (w : WriteItem) : Bool := (ownerLeg w.owner).isSome == (ownerLeg o).isSome
  let ok := s.writeTempOk o && !(s.chm.writes.any fun w => w.held && kind w)
  let s := s.modChm fun c => { c with writes := c.writes ++ [⟨o, !ok, ok, s.now⟩] }
  let s := if ok then s
    else (s.put Reg.CHM_FLAGS_write_held true).note 0x081C ((ownerLeg o).getD 0) (b2n (ownerLeg o).isSome)
  s.showWrites

/-- The first write of an owner leaves the list. -/
def dropWrite (s : Chip) (o : WriteOwner) : Chip :=
  (s.modChm fun c => { c with writes := c.writes.eraseP fun w => w.owner = o }).showWrites

/-! ### Ageing (R503 to R505) -/

/-- CHM_Ck_STAT.age_learn: an entry used in RUN has no reference. -/
def showLearn (s : Chip) (k : Nat) : Chip :=
  let a := nth s.chm.age k
  s.put (Reg.CHM_C_STAT_age_learn k)
    (s.on (Reg.CHM_C_CFG_age_en k) && a.used.any fun e => (a.refs.find? fun p => p.1 = e).isNone)

/-- A valid plateau measurement made with entry e: the first 64 set its reference. -/
def ageMeasure (s : Chip) (k e ns : Nat) : Chip :=
  if !s.on (Reg.CHM_C_CFG_age_en k) then s
  else
    let a := nth s.chm.age k
    let n := lookupD 0 e a.num + 1
    let sum := lookupD 0 e a.sum + ns
    let s :=
      if (a.refs.find? fun p => p.1 = e).isNone && n ≥ 64 then
        s.modAge k fun a => { a with
          refs := insertAt e ((2 * sum + n) / (2 * n)) a.refs, num := eraseAt e a.num, sum := eraseAt e a.sum }
      else s.modAge k fun a => { a with num := insertAt e n a.num, sum := insertAt e sum a.sum }
    s.showLearn k

/-- Bit 7 of a byte as a sign. -/
def sgnByte (b : Nat) : Int := sgn 8 b

/-- The ageing store of cluster k: magic, the serials of its legs in ascending order, reference and adjustment of each
entry, the CRC-32 in the last word (R503; the offsets within it are the model's, log entry 18). -/
def ageBase (k : Nat) : Nat := 0x1080A000 + 0x1000 * k

def ageEntry (s : Chip) (k e : Nat) : Nat := ageBase k + 4 + 8 * (s.legsOf k).length + 3 * e

def ageBytes (s : Chip) (k : Nat) : List Byte :=
  let a := nth s.chm.age k
  let body := leBytes 4 0x45474141 ++ (s.legsOf k).flatMap (fun m => s.bytes (idKey m 8) 8)
    ++ (List.range 1024).flatMap fun e => leBytes 2 (lookupD 0 e a.refs) ++ leBytes 1 (unsgn 8 (lookupD 0 e a.adj))
  let body := body ++ List.replicate (4092 - body.length) 0
  body ++ leBytes 4 (crc32 body)

/-- The store's write is made, and the rebuild ends. -/
def ageStored (s : Chip) (k : Nat) : Chip :=
  ((s.setBytes (ageBase k) (s.ageBytes k)).dropWrite (.ageStore k)).put (Reg.CHM_C_STAT_age_busy k) false

/-- The changed adjustments go to the store at once, or wait for their temperature. -/
def ageStoreSubmit (s : Chip) (k : Nat) : Chip :=
  let s := (s.modAge k fun a => { a with storeDue := false }).submitWrite (.ageStore k)
  if s.writing (.ageStore k) then s.ageStored k else s

/-- Table 2 has swapped for the Chimney: AGE_UPDATE, and the adjustments go to the ageing store. -/
def ageSwapped (s : Chip) (k : Nat) : Chip :=
  let a := nth s.chm.age k
  let s := (s.put Reg.CHM_FLAGS_age_swap true).noteCl 0x081E k a.changed
  let s := s.count (Reg.CHM_C_STAT_age_swaps k)
  let s := s.modAge k fun a => { a with swapDue := false, changed := 0, applied := true }
  if a.storeDue then s.ageStoreSubmit k
  else s.put (Reg.CHM_C_STAT_age_busy k) false

end Sys2Proof.Machine.Chip
end

