-- ==== Sys2Proof/Machine/HwBase.lean ====
section
/-! DEFINITION. The Hallway's queues as faults and resets meet them (chapter 14): what the queue registers show, the end
of descriptors under R564 and R565. -/

namespace Sys2Proof.Machine

/-- Fields of a descriptor (Table 14-5). -/
def DescS.word (d : DescS) (i : Nat) : Nat := d.words.getD i 0
def DescS.opcode (d : DescS) : Nat := part (d.word 0) 0 8
def DescS.flags (d : DescS) : Nat := part (d.word 0) 8 8
def DescS.tag (d : DescS) : Nat := part (d.word 0) 16 16
def DescS.buf (d : DescS) : Nat := part (d.word 1) 0 16
def DescS.nbuf (d : DescS) : Nat := part (d.word 1) 16 16
def DescS.addr (d : DescS) : Nat := d.word 2
def DescS.len (d : DescS) : Nat := d.word 3
def DescS.arg0 (d : DescS) : Nat := d.word 4
def DescS.arg1 (d : DescS) : Nat := d.word 5

/-- The descriptor runs: it has started and has no final status. -/
def DescS.running (d : DescS) : Bool := d.started && d.status.isNone

namespace Chip

def modHw (s : Chip) (f : HwS → HwS) : Chip := { s with hw := f s.hw }
def hwQ (s : Chip) (n : Nat) : HwQ := nth s.hw.q n
def modHwQ (s : Chip) (n : Nat) (f : HwQ → HwQ) : Chip := s.modHw fun h => { h with q := updNth f n h.q }

/-- The oldest descriptor of queue n in flight. -/
def hwHead (s : Chip) (n : Nat) : Option DescS := (s.hwQ n).flight.head?

/-- The oldest descriptor of queue n changed. -/
def modDesc (s : Chip) (n : Nat) (f : DescS → DescS) : Chip :=
  s.modHwQ n fun q => { q with flight := updNth f 0 q.flight }

/-- Descriptors in flight on the whole module. -/
def hwInFlight (s : Chip) : Nat := s.hw.q.foldl (fun a q => a + q.flight.length) 0

/-- HW_SQn_STAT and HW_STAT.in_flight follow the queues. -/
def hwShow (s : Chip) (n : Nat) : Chip :=
  let q := s.hwQ n
  let s := match q.flight.head? with
    | some d => if d.started then s.sets [(Reg.HW_SQ_STAT_busy n, 1), (Reg.HW_SQ_STAT_exec n, d.entry)]
      else s.set (Reg.HW_SQ_STAT_busy n) 0
    | none => s.set (Reg.HW_SQ_STAT_busy n) 0
  s.sets [(Reg.HW_SQ_STAT_aborting n, b2n q.abort.isSome), (Reg.HW_SQ_STAT_fetched n, q.flight.length),
    (Reg.HW_STAT_in_flight, s.hwInFlight)]

/-- An abort with no descriptor left ends: en clears (R565). -/
def hwAbortEnd (s : Chip) (n : Nat) : Chip :=
  let q := s.hwQ n
  if q.abort.isSome && q.flight.isEmpty then
    let s := s.modHwQ n fun q => { q with abort := none }
    (s.sets [(Reg.HW_SQ_CFG_en n, 0), (Reg.HW_SQ_CTL_abort n, 0)]).hwShow n
  else s.hwShow n

/-- A flash write of queue n has started and not ended: its sector or page completes. -/
def hwWriting (s : Chip) (n : Nat) : Bool := s.chm.writes.any fun w => w.owner = WriteOwner.descriptor n && w.started

/-- The running descriptor of an aborted queue ends after its current item; a held write of it is given up. -/
def hwAbortRun (s : Chip) (n : Nat) : Chip :=
  match s.hwHead n, (s.hwQ n).abort with
  | some d, some rgn =>
    if d.running && !s.hwWriting n then
      let s := s.dropWrite (.descriptor n)
      let s := (s.clrBitOf Reg.HW_MSG_PEND_pend n).modDesc n fun d => { d with status := some 0x0A, info := if rgn then 2 else 1 }
      s.hwShow n
    else s
  | _, _ => s

/-- Queue n is aborted (R565); `rgn`: its owner's region is reset. -/
def hwAbort (s : Chip) (n : Nat) (rgn : Bool) : Chip :=
  let s := (s.set (Reg.HW_SQ_CTL_abort n) 1).modHwQ n fun q => { q with abort := some (rgn || q.abort == some true) }
  (s.hwAbortRun n).hwAbortEnd n

/-- The MSG at the head of queue n stands with software (R564). -/
def msgStands (s : Chip) (n : Nat) : Bool := hasBit (s.get Reg.HW_MSG_PEND_pend) n

/-- A region reset meets the queues: those that its cores own are aborted, and a standing MSG that its harts serve fails
with NO_SW (Table 14-9, R564). -/
def hwRegion (s : Chip) (g : Nat) : Chip :=
  forEach (List.range 8) (fun n t =>
    let h := t.get (Reg.HW_SQ_CFG_hart n)
    let t := if t.msgStands n && h / 2 == g then
        ((t.clrBitOf Reg.HW_MSG_PEND_pend n).modDesc n fun d => { d with status := some 0x0B, info := h }).hwShow n
      else t
    let o := t.get (Reg.HW_SQ_CFG_owner n)
    if (o = 2 * g + 1 ∨ o = 2 * g + 2) && t.on (Reg.HW_SQ_CFG_en n) then t.hwAbort n true else t) s

/-- A control-die reset cuts the sectors and pages under way, which it leaves undefined (Table 14-9, log entry 6). -/
def hwCut (s : Chip) : Chip :=
  forEach (List.range 8) (fun n t =>
    match t.hwHead n with
    | some d =>
      if d.running && t.hwWriting n then
        let a := d.addr + d.done
        (t.setBytes a (leBytes (if d.opcode = 3 then 4096 else 256) t.freeVal)).useFree
      else t
    | none => t) s

end Chip

end Sys2Proof.Machine
end

