-- ==== Sys2Proof/Machine/MeasOps.lean ====
section
/-! DEFINITION. Shared operations of sample sets (chapter 06): the passes in the result banks, results delivered, the
redundant-path checks, the period boundary. -/

namespace Sys2Proof.Machine.Chip

def measS (s : Chip) (k : Nat) : MeasS := nth s.meas k

/-! ### Result banks (R248 to R250) -/

/-- Word `w` (64·bank + word) of cluster k's result banks. -/
def rbGet (s : Chip) (k w : Nat) : Nat := lookupD 0 w (s.measS k).bankMem

def rbSet (s : Chip) (k w v : Nat) : Chip := s.modMeas k fun m => { m with bankMem := putAt 0 w v m.bankMem }

/-- Bits of a result word set. -/
def rbOr (s : Chip) (k w v : Nat) : Chip := s.rbSet k w (s.rbGet k w ||| v)

/-- A pass opens its half of the bank being filled: the sample tick, taken, seq; every valid slot is awaited. -/
def passOpen (s : Chip) (k : Nat) (peak : Bool) : Chip :=
  let m := s.measS k
  let b := 64 * m.fill + 32 * b2n peak
  let slots := s.validSlots k
  let s := s.modMeas k fun m => { m with
    base := b, results := m.results.filter (fun r => r.base != b), nr := m.nr.filter (· != b),
    waiting := (m.waiting.filter fun p => p.2 != b) ++ slots.map fun i => (i, b),
    bankMem := m.bankMem.filter fun p => !(b ≤ p.1 && p.1 < b + 32) }
  (s.rbSet k b ((s.now + 1) % 2 ^ 32)).rbSet k (b + 29) (2 ^ 30 + m.period % 65536)

/-- The physical value of a raw code in slot i (R238). -/
def physical (s : Chip) (k i raw : Nat) : Nat :=
  F32.mul (s.get (Reg.ADC_C_GAIN_v k i)) (F32.ofInt (sgn 16 raw - sgn 16 (s.get (Reg.ADC_C_SLOT_off k i))))

/-- The word of a slot result (Table 06-3). -/
def resWord (r : SlotRes) : Nat :=
  65536 * r.raw + 128 * b2n r.valid + 64 * b2n r.clip + 32 * b2n r.lp + 16 * b2n r.refNr

/-- The pass at `b` sampled while ref_rdy was clear (R232). -/
def passNr (s : Chip) (k b : Nat) : Bool := (s.measS k).nr.contains b

/-- A slot's result of the pass at `b` is written; a clip of roles 1 to 4 is flagged (R257). -/
def deliver (s : Chip) (k i b raw : Nat) (valid clip lp refNr : Bool) : Chip :=
  let r : SlotRes := ⟨b, i, valid, clip, lp, refNr, raw, s.physical k i raw⟩
  let s := s.modMeas k fun m => { m with
    results := (m.results.filter fun x => !(x.base = b && x.slot = i)) ++ [r],
    waiting := m.waiting.filter fun p => !(p.1 = i && p.2 = b) }
  let s := s.rbSet k (b + 1 + i) (resWord r)
  let role := s.slotRole k i
  if clip && 1 ≤ role && role ≤ 4 then
    let s := if s.on (Reg.ADC_C_FLAGS_clip k) then s else s.noteCl 0x0313 k i
    s.put (Reg.ADC_C_FLAGS_clip k) true
  else s

/-! ### Results of a pass -/

/-- The results of the pass at `b`. -/
def passResults (s : Chip) (k b : Nat) : List SlotRes := (s.measS k).results.filter fun r => r.base = b

/-- The valid result of a role on a path. -/
def resVal (s : Chip) (k b path role : Nat) : Option Nat :=
  ((s.passResults k b).find? fun r => r.valid && s.slotRole k r.slot = role && s.slotPath k r.slot = path).map (·.value)

/-- The valid VDC results, by slot. -/
def vdcVals (s : Chip) (k b : Nat) : List (Nat × Nat) :=
  (s.validSlots k).filterMap fun i =>
    if s.slotRole k i = 4 then
      ((s.passResults k b).find? fun r => r.valid && r.slot = i).map fun r => (i, r.value)
    else none

/-- The DC-bus voltage of a pass: the lowest-numbered valid VDC slot (Table 06-2). -/
def vdcOf (s : Chip) (k b : Nat) : Option Nat := ((s.vdcVals k b).head?).map (·.2)

/-- The three phase currents of a path; a missing one is the negative sum of the other two, `none` where two are missing
(R238). Phases b and c are exchanged under MOTOR_ID flag 3. R238 speaks of a phase with no slot: of one whose result lacks the
valid flag it says nothing, and the model computes that one in the same way (DESIGN CHOICE, log entry 55). -/
def phaseCurrents (s : Chip) (k b path : Nat) : Option (Nat × Nat × Nat) :=
  let swap (x y z : Nat) : Nat × Nat × Nat := if hasBit (s.motor k).flags 3 then (x, z, y) else (x, y, z)
  let two (x y : Nat) : Nat := F32.sub (F32.neg x) y
  match s.resVal k b path 1, s.resVal k b path 2, s.resVal k b path 3 with
  | some x, some y, some z => some (swap x y z)
  | some x, some y, none => some (swap x y (two x y))
  | some x, none, some z => some (swap x (two x z) z)
  | none, some y, some z => some (swap (two y z) y z)
  | _, _, _ => none

/-- Every valid phase current of a pass, on either path. -/
def allCurrents (s : Chip) (k b : Nat) : List Nat :=
  ((s.passResults k b).filter fun r => r.valid && 1 ≤ s.slotRole k r.slot && s.slotRole k r.slot ≤ 3).map (·.value)

/-- The cluster's VDC results held for the safety logic after a write of this pass: written slots take their new result,
slots still awaited keep the previous pass's. -/
def vdcHeld (s : Chip) (k b : Nat) : List (Nat × Nat) :=
  let awaited (i : Nat) : Bool := (s.measS k).waiting.any fun p => p.1 = i && p.2 = b
  s.vdcVals k b ++ (s.cluster k).vdc.filter fun p => awaited p.1 && s.slotRole k p.1 == 4

/-! ### Redundant paths (R252 to R255, R673) -/

/-- cmp_n: 0 acts as 1. -/
def cmpN (s : Chip) (k : Nat) : Nat := max 1 (s.get (Reg.ADC_C_CFG_cmp_n k))

/-- One check made in a pass: its runs, and whether its run of mismatches has reached cmp_n and is not yet recorded. -/
def tally (s : Chip) (k key : Nat) (bad : Bool) : Chip × Bool :=
  let m := s.measS k
  let n := s.cmpN k
  let r := if bad then lookupD 0 key m.mis + 1 else 0
  let g := if bad then 0 else lookupD 0 key m.agree + 1
  let fire := n ≤ r && !m.fired.contains key
  let others := m.bad.filter (· != key)
  (s.modMeas k fun m => { m with
    mis := putAt 0 key (min r 16) m.mis, agree := putAt 0 key (min g 16) m.agree,
    fired := if fire then m.fired ++ [key] else if bad then m.fired else m.fired.filter (· != key),
    bad := if fire then others ++ [key] else if g ≥ n then others else m.bad }, fire)

/-- A difference in units of 0.25, saturating at 16 bits (an infinite one too), in bits 31:16. -/
def quarters (d : Nat) : Nat :=
  let q := F32.mul (F32.ofNat 4) d
  65536 * if F32.isFinite q then min 65535 (F32.round q).toNat else 65535

/-- R252 for phase x. -/
def checkPath (s : Chip) (k b x : Nat) : Chip :=
  match s.resVal k b 0 x, s.resVal k b 1 x with
  | some p, some q =>
    let d := F32.abs (F32.sub p q)
    let bad := F32.gt d (s.get (Reg.ADC_C_TOL_v k))
    let (s, fire) := s.tally k x bad
    let s := if bad then s.rbOr k (b + 29) (2 ^ (17 + x)) else s
    if fire then (s.put (Reg.ADC_C_FLAGS_i_mis k) true).faultCl 0x0310 3 k k (quarters d + x) else s
  | _, _ => s

/-- R253. -/
def checkVdc (s : Chip) (k b : Nat) : Chip :=
  match s.vdcVals k b with
  | [p, q] =>
    let d := F32.abs (F32.sub p.2 q.2)
    let bad := F32.gt d (s.get (Reg.ADC_C_VTOL_v k))
    let (s, fire) := s.tally k 16 bad
    let s := if bad then s.rbOr k (b + 29) (2 ^ 24) else s
    if fire then (s.put (Reg.ADC_C_FLAGS_vdc_mis k) true).faultCl 0x0311 3 k k (quarters d) else s
  | _ => s

/-- R254 for one path. -/
def checkSum (s : Chip) (k b path : Nat) : Chip :=
  match s.resVal k b path 1, s.resVal k b path 2, s.resVal k b path 3 with
  | some x, some y, some z =>
    let d := F32.abs (F32.add (F32.add x y) z)
    let bad := F32.gt d (F32.mul (F32.ofNat 2) (s.get (Reg.ADC_C_TOL_v k)))
    let (s, fire) := s.tally k (32 + path) bad
    let s := if bad then s.rbOr k (b + 29) (2 ^ (21 + path)) else s
    if fire then (s.put (Reg.ADC_C_FLAGS_isum k) true).faultCl 0x0312 3 k k (quarters d + path) else s
  | _, _, _ => s

/-- Once every slot result of a pass is written: complete, and the checks, unless a result carries ref_nr (R232). -/
def passDone (s : Chip) (k b : Nat) : Chip :=
  if (s.measS k).waiting.any fun p => p.2 = b then s
  else
    let s := s.rbOr k (b + 29) (2 ^ 31)
    if (s.passResults k b).any (·.refNr) then s
    else
      let s := if s.on (Reg.ADC_C_CFG_cmp_en k) then
          (forEach [1, 2, 3] (fun x t => t.checkPath k b x) s).checkVdc k b
        else s
      if s.on (Reg.ADC_C_CFG_sum_en k) then (s.checkSum k b 0).checkSum k b 1 else s

/-- The banks at a period boundary (R249, R250). The rule does not say what becomes of a result still awaited at a boundary under
freeze, whose pass's words are refilled: the model drops it, unwritten and unchecked (DESIGN CHOICE, log entry 55). -/
def bankBoundary (s : Chip) (k : Nat) : Chip :=
  let m := s.measS k
  let clear (f : Nat) (t : Chip) : Chip := t.modMeas k fun m => { m with
    period := m.period + 1, fill := f, bankMem := m.bankMem.filter fun p => p.1 / 64 != f,
    waiting := m.waiting.filter fun p => p.2 / 64 != f }
  if s.on (Reg.ADC_C_RB_CTL_freeze k) then
    ((clear m.fill s).bump (Reg.ADC_C_RB_STAT_lost k) 255).put (Reg.ADC_C_FLAGS_lost k) true
  else
    (clear (1 - m.fill) s).sets [(Reg.ADC_C_RB_STAT_bank k, m.fill), (Reg.ADC_C_RB_STAT_seq k, m.period % 65536),
      (Reg.ADC_C_FLAGS_rdy k, 1)]

end Sys2Proof.Machine.Chip
end

