-- ==== Sys2Proof/Machine/LoopOps.lean ====
section
/-! DEFINITION. The stages of a pass (chapter 05): Larder lookups, observer, angle source, transforms, catch, torque
reference, limits, output, guard. The formulas are evaluated in binary32, operation by operation (log entry 10). -/

namespace Sys2Proof.Machine.Chip

/-! ### The Larder -/

/-- The active copy of table t of cluster k. -/
def ldrAct (s : Chip) (k t : Nat) : Nat := bitOf (s.get (Reg.SEQ_LDR_ACT_act k)) t

/-- Offset and length of a table in a copy (Table 05-11). -/
def ldrOff (t : Nat) : Nat := if t = 0 then 0 else if t = 1 then 0x4100 else 0x4A00
def ldrLen (t : Nat) : Nat := if t = 0 then 16452 else if t = 1 then 2116 else 8192

/-- The address of byte 0 of table t in copy c. -/
def ldrAddr (k t c : Nat) : Nat := 0x42000000 + 0x10000 * k + 0x8000 * c + ldrOff t

/-- A word of the active copy of a table. -/
def ldrWord (s : Chip) (k t off : Nat) : Nat := s.load (ldrAddr k t (s.ldrAct k t) + off) 4

/-- The torque map at (T, r), bilinear: i_d, i_q, and whether the point was clamped (R184, R185). -/
def mapLookup (s : Chip) (k tq r : Nat) : Nat × Nat × Bool :=
  let w (o : Nat) : Nat := s.ldrWord k 0 o
  let x := F32.mul (F32.div (F32.sub tq (w 4)) (F32.sub (w 8) (w 4))) (F32.ofNat 63)
  let y := F32.mul (F32.div r (w 12)) (F32.ofNat 31)
  let x' := F32.clamp x 0 (F32.ofNat 63)
  let y' := F32.clamp y 0 (F32.ofNat 31)
  let i := min 62 (F32.floor x').toNat
  let j := min 30 (F32.floor y').toNat
  let fx := F32.sub x' (F32.ofNat i)
  let fy := F32.sub y' (F32.ofNat j)
  let mix (f a b : Nat) : Nat := F32.add (F32.mul (F32.sub F32.one f) a) (F32.mul f b)
  let at_ (o : Nat) : Nat :=
    let e (a b : Nat) : Nat := w (0x40 + 8 * (32 * a + b) + o)
    mix fy (mix fx (e i j) (e (i + 1) j)) (mix fx (e i (j + 1)) (e (i + 1) (j + 1)))
  (at_ 0, at_ 4, !(F32.eq x x' && F32.eq y y'))

/-! ### Transforms -/

/-- The amplitude-invariant Clarke transform of the three phase values. -/
def clarke (x : Nat × Nat × Nat) : Nat × Nat :=
  let (a, b, c) := x
  (F32.div (F32.sub (F32.sub (F32.mul (F32.ofNat 2) a) b) c) (F32.ofNat 3), F32.div (F32.sub b c) sqrt3)

/-- Clarke and Park, amplitude-invariant, with the angle in counts. -/
def park (x : Nat × Nat × Nat) (ang : Nat) : Nat × Nat :=
  let (al, be) := clarke x
  let co := Config.cos (ang % 65536) % 2 ^ 32
  let si := Config.sin (ang % 65536) % 2 ^ 32
  (F32.add (F32.mul al co) (F32.mul be si), F32.sub (F32.mul be co) (F32.mul al si))

/-- The three phase voltages of a dq vector at an angle. -/
def unpark (vd vq ang : Nat) : Nat × Nat × Nat :=
  let co := Config.cos (ang % 65536) % 2 ^ 32
  let si := Config.sin (ang % 65536) % 2 ^ 32
  let va := F32.sub (F32.mul vd co) (F32.mul vq si)
  let vb := F32.add (F32.mul vd si) (F32.mul vq co)
  let h := F32.neg (F32.mul F32.half va)
  let r := F32.mul (F32.mul sqrt3 F32.half) vb
  (va, F32.add h r, F32.sub h r)

/-- The magnitude of a vector. -/
def hypot (x y : Nat) : Nat := F32.sqrt (F32.add (F32.mul x x) (F32.mul y y))

/-- `x` moved toward `y` by at most `d`. -/
def toward (x y d : Nat) : Nat :=
  if F32.lt x y then F32.min y (F32.add x d) else F32.max y (F32.sub x d)

/-- Seconds of a number of ticks. -/
def seconds (t : Nat) : Nat := F32.ratio t 200000000

/-- The sign of one value on the magnitude of another. -/
def withSign (like mag : Nat) : Nat := if F32.sign like then F32.neg (F32.abs mag) else F32.abs mag

/-! ### The observer (R194 to R199) -/

/-- Injection is permitted and enabled. -/
def hfiOk (s : Chip) (k e : Nat) : Bool := hasBit (s.motor k).flags 0 && s.on (Reg.OBS_CFG_hfi_en e)

/-- Table 05-5. -/
def obsRegion (s : Chip) (k e : Nat) : Nat :=
  let w := F32.abs (s.cluster e).obsSpd
  let wr := (s.motor k).wRated
  let at_ (p : Nat) : Nat := F32.mul (F32.ratio p 100) wr
  if (s.motor k).type = 3 then 3
  else if F32.ge w (at_ 8) then 0
  else if s.hfiOk k e then (if F32.ge w (at_ 5) then 1 else 2)
  else 3

/-- Lock follows the angle error (R195). -/
def obsLock (s : Chip) (k e err : Nat) : Chip :=
  let a := (sgn 16 err).natAbs
  let s := s.modCl e fun c => { c with
    lockRun := if a < 364 then c.lockRun + 1 else 0, unlockRun := if a > 1820 then c.unlockRun + 1 else 0 }
  let s := s.set (Reg.OBS_STAT_lock_cnt e) (min 255 (s.cluster e).lockRun)
  if s.on (Reg.OBS_STAT_obs_lock e) then
    if (s.cluster e).unlockRun ≥ 4 then
      s.sets [(Reg.OBS_STAT_obs_lock e, 0), (Reg.SEQ_FLAGS_obs_lost k, 1)]
    else s
  else if (s.cluster e).lockRun ≥ 16 then s.sets [(Reg.OBS_STAT_obs_lock e, 1), (Reg.SEQ_FLAGS_obs_lock_ev k, 1)]
  else s

/-- L_d and L_q at (i_d, i_q): table 1 by bilinear interpolation, from 0 in row 0 to i_q of row 15 by |i_q| and from i_d of column 0
to 0 in column 15 (DEDUCED, log entry 55), or MOTOR_ID's with a wrong magic (Table 05-11). -/
def inductance (s : Chip) (k d q : Nat) : Nat × Nat :=
  let w (o : Nat) : Nat := s.ldrWord k 1 o
  if w 0 != 0x4D444E49 then ((s.motor k).ld, (s.motor k).lq)
  else
    let x := F32.clamp (F32.mul (F32.div (F32.abs q) (w 8)) (F32.ofNat 15)) 0 (F32.ofNat 15)
    let y := F32.clamp (F32.mul (F32.sub F32.one (F32.div d (w 4))) (F32.ofNat 15)) 0 (F32.ofNat 15)
    let i := min 14 (F32.floor x).toNat
    let j := min 14 (F32.floor y).toNat
    let fx := F32.sub x (F32.ofNat i)
    let fy := F32.sub y (F32.ofNat j)
    let mix (f a b : Nat) : Nat := F32.add (F32.mul (F32.sub F32.one f) a) (F32.mul f b)
    let at_ (o : Nat) : Nat :=
      let e (a b : Nat) : Nat := w (0x40 + 8 * (16 * a + b) + o)
      mix fy (mix fx (e i j) (e (i + 1) j)) (mix fx (e i (j + 1)) (e (i + 1) (j + 1)))
    (at_ 0, at_ 4)

/-- ψ of R198 from the applied v_q and the currents of the pass in the observer's frame. -/
def psiOf (s : Chip) (k e : Nat) : Nat :=
  let m := s.motor k
  let w := (s.cluster e).obsSpd
  let (d, q) := match (s.cluster k).phaseI with
    | [x, y, z] => park (x, y, z) (s.cluster e).obsAng
    | _ => (0, 0)
  F32.div (F32.sub (F32.sub (s.get (Reg.FC_VQ_v k)) (F32.mul m.rs q)) (F32.mul (F32.mul w (s.inductance k d q).1) d)) w

/-- K: ψ filtered with the time constant of 1 s, from the value 0 that OBSk_KE has at reset on, by one Euler step a pass
(DESIGN CHOICE, log entry 55), and corrected for the winding temperature where MOTOR_ID names a sensor, while T_w is valid (R198,
R485). -/
def keStep (s : Chip) (k e dt : Nat) : Chip × Nat :=
  let m := s.motor k
  let p := (s.cluster e).psi
  let p := F32.add p (F32.mul (F32.sub (s.psiOf k e) p) (seconds dt))
  let s := s.modCl e fun c => { c with psi := p }
  let ke := if m.wtempAin < 48 && s.on (Reg.CHM_C_STAT_tw_valid k) then
      F32.div p (F32.add F32.one (F32.mul m.keTc (F32.sub (s.get (Reg.CHM_C_TW_v k)) m.tRef)))
    else p
  (s, ke)

/-- The induced-voltage constant and its check (R198, R199); `dt` is the time between passes in ticks. -/
def obsKe (s : Chip) (k e dt : Nat) : Chip :=
  let m := s.motor k
  let w := F32.abs (s.cluster e).obsSpd
  let ok := (m.type == 1 || m.type == 2) && s.on (Reg.OBS_STAT_obs_lock e) && s.get (Reg.OBS_STAT_region e) == 0
    && F32.ge w (F32.mul (F32.ratio 15 100) m.wRated)
  if ok then
    let (s, ke) := s.keStep k e dt
    let dev := F32.sub (F32.div ke m.keNom) F32.one
    let far := F32.gt (F32.abs dev) (F32.ratio 15 100)
    let s := s.sets [(Reg.OBS_KE_v e, ke), (Reg.OBS_KE_DEV_v e, dev), (Reg.OBS_STAT_ke_valid e, 1),
      (Reg.OBS_STAT_ke_dev e, b2n far)]
    if s.on (Reg.OBS_CFG_ke_chk_en e) then
      let s := s.modCl e fun c => { c with keTicks := if far then min (ms 2000) (c.keTicks + dt) else 0 }
      s.set (Reg.OBS_STAT_ke_timer e) ((s.cluster e).keTicks / 200000)
    else s
  else s.put (Reg.OBS_STAT_ke_valid e) false

/-- The condition of the voltage method of Table 05-7: in CATCH the measured terminal voltages drive the observer (R200). -/
def catchVolts (s : Chip) (k : Nat) : Bool :=
  let volts := [5, 6, 7].all fun r => (s.validSlots k).any fun i => s.slotRole k i == r
  (s.motor k).type != 3 && hasBit (s.motor k).flags 1 && volts

/-- One observer update of set `e` for cluster k. The tracking loop's angle, speed, error and the flux are free values:
the spec gives the loop's bandwidth, not its equations (log entry 11). In CATCH with the voltage method the loop tracks, and keeps
its lock, also while its speed selects region None: the spec does not say whether Table 05-5 or Table 05-7 decides there (DESIGN
CHOICE, log entry 55). -/
def obsStep (s : Chip) (k e dt : Nat) : Chip :=
  let r := s.obsRegion k e
  let s := s.set (Reg.OBS_STAT_region e) r
  let s :=
    if r = 3 && !(s.clState k == 1 && s.catchVolts k) then
      let s := s.modCl e fun c => { c with lockRun := 0, unlockRun := 0 }
      let s := s.set (Reg.OBS_STAT_lock_cnt e) 0
      if s.on (Reg.OBS_STAT_obs_lock e) then s.sets [(Reg.OBS_STAT_obs_lock e, 0), (Reg.SEQ_FLAGS_obs_lost k, 1)] else s
    else
      let err := s.freeVal % 65536
      let s := s.useFree
      let spd := s.freeVal % 2 ^ 32
      let s := s.useFree
      let ang := s.freeVal % 65536
      let s := s.useFree
      let s := s.modCl e fun c => { c with obsSpd := spd, obsAng := ang }
      (s.set (Reg.OBS_ERR_pll_err e) err).obsLock k e err
  let c := s.cluster e
  let s := if s.on (Reg.OBS_STAT_obs_lock e) then
      (s.set (Reg.OBS_SPEED_v e) c.obsSpd).set (Reg.OBS_ANGLE_angle e) c.obsAng
    else s.set (Reg.OBS_SPEED_v e) 0
  let s := s.put (Reg.OBS_STAT_dir e) (F32.sign c.obsSpd)
  let s := (s.set (Reg.OBS_FLUX_v e) (s.freeVal % 2 ^ 32)).useFree
  let diff := match s.posOf k with
    | some n => s.get (Reg.OBS_ANGLE_angle e) + 65536 - s.get (Reg.POS_ANGLE_lat_ang n)
    | none => 0
  (s.set (Reg.OBS_ERR_pos_diff e) diff).obsKe k e dt

/-- The observer of cluster k: one update; while duplexed the partner's set computes the same from the same inputs. -/
def observe (s : Chip) (k dt : Nat) : Chip :=
  match s.engineSets k with
  | [] => s
  | e :: l => forEach l (fun j t =>
      (t.sets [(Reg.OBS_STAT_region j, t.get (Reg.OBS_STAT_region e)), (Reg.OBS_STAT_obs_lock j, t.get (Reg.OBS_STAT_obs_lock e)),
        (Reg.OBS_STAT_lock_cnt j, t.get (Reg.OBS_STAT_lock_cnt e)), (Reg.OBS_STAT_dir j, t.get (Reg.OBS_STAT_dir e)),
        (Reg.OBS_STAT_ke_valid j, t.get (Reg.OBS_STAT_ke_valid e)), (Reg.OBS_STAT_ke_dev j, t.get (Reg.OBS_STAT_ke_dev e)),
        (Reg.OBS_STAT_ke_timer j, t.get (Reg.OBS_STAT_ke_timer e)), (Reg.OBS_ANGLE_angle j, t.get (Reg.OBS_ANGLE_angle e)),
        (Reg.OBS_ERR_pll_err j, t.get (Reg.OBS_ERR_pll_err e)), (Reg.OBS_ERR_pos_diff j, t.get (Reg.OBS_ERR_pos_diff e)),
        (Reg.OBS_SPEED_v j, t.get (Reg.OBS_SPEED_v e)), (Reg.OBS_FLUX_v j, t.get (Reg.OBS_FLUX_v e)),
        (Reg.OBS_KE_v j, t.get (Reg.OBS_KE_v e)), (Reg.OBS_KE_DEV_v j, t.get (Reg.OBS_KE_DEV_v e))]).modCl j fun c =>
          { c with
            lockRun := (t.cluster e).lockRun, unlockRun := (t.cluster e).unlockRun, obsSpd := (t.cluster e).obsSpd,
            obsAng := (t.cluster e).obsAng, keTicks := (t.cluster e).keTicks, psi := (t.cluster e).psi }) (s.obsStep k e dt)

/-! ### Angle source (R197) -/

/-- SEQk_CFG.ang_src; 3 acts as 2. -/
def angSrc (s : Chip) (k : Nat) : Nat := min 2 (s.get (Reg.SEQ_CFG_ang_src k))

/-- The cluster's position channel has pos_valid. -/
def posValid (s : Chip) (k : Nat) : Bool :=
  match s.posOf k with | some n => s.on (Reg.POS_STAT_pos_valid n) | none => false

/-- The speed reference: SEQk_SPD_CMD, which takes the ring setpoint at period boundaries (R622), or the DECEL ramp of speed mode
(R205). -/
def speedRef (s : Chip) (k : Nat) : Nat := if s.clState k = 3 && s.on (Reg.SEQ_CFG_mode k) then (s.cluster k).spdRef else s.get (Reg.SEQ_SPD_CMD_v k)

/-- Table 05-6: the case, 0 position, 1 observer, 2 open loop, 3 nothing. -/
def angleCase (s : Chip) (k : Nat) : Nat :=
  let a := s.angSrc k
  let ol := s.obsLocked k
  if a != 1 && s.posValid k then 0
  else if a != 0 && ol then 1
  else if a = 1 && s.on (Reg.OBS_CFG_if_en (s.engineOf k)) && s.on (Reg.SEQ_CFG_mode k)
    && F32.lt (F32.abs (s.speedRef k)) (F32.mul (F32.ratio 8 100) (s.motor k).wRated) then 2
  else 3

/-- The angle and speed of the case; `none` where nothing is usable. -/
def angleOf (s : Chip) (k : Nat) : Option (Nat × Nat) :=
  let e := s.engineOf k
  match s.angleCase k with
  | 0 => (s.posOf k).map fun n => (s.get (Reg.POS_ANGLE_lat_ang n), s.get (Reg.POS_SPEED_speed n))
  | 1 => some (s.get (Reg.OBS_ANGLE_angle e), s.get (Reg.OBS_SPEED_v e))
  | 2 => some ((s.cluster k).ifAngle, s.speedRef k)
  | _ => none

/-- What the case of a pass reports: ang_now, POS_FALLBACK once per change, the faults of RUN and DECEL. -/
def reportAngle (s : Chip) (k : Nat) : Chip :=
  let c := s.angleCase k
  let e := s.engineOf k
  let s := s.set (Reg.SEQ_STAT_ang_now k) c
  let back := c == 1 && s.angSrc k == 2
  let s := if back && !(s.cluster k).fallback then
      s.noteCl 0x0516 k (s.get (Reg.OBS_ERR_pll_err e) + 65536 * s.get (Reg.OBS_ERR_pos_diff e)) else s
  let s := s.modCl k fun x => { x with fallback := back }
  if c = 3 ∧ (s.clState k = 2 ∨ s.clState k = 3) then
    if s.angSrc k = 1 then s.faultCl 0x0514 2 k k (s.get (Reg.OBS_ERR_pll_err e))
    else s.faultCl 0x0515 2 k k ((s.topo k).position)
  else s

/-! ### Carrier of a cluster -/

def leadOf (s : Chip) (k : Nat) : Nat := (s.leadSlice k).getD 0
def dblOf (s : Chip) (k : Nat) : Bool := s.on (Reg.PWM_S_CFG_dbl (s.leadOf k))

/-- Ticks between reloads (T_p). -/
def reloadTime (s : Chip) (k : Nat) : Nat := if s.dblOf k then s.perOf (s.leadOf k) else 2 * s.perOf (s.leadOf k)

/-- m = q + d of R190. -/
def quietTicks (s : Chip) (k : Nat) : Nat :=
  s.get (Reg.FC_CFG_quiet k) + ((s.slicesOf k).foldl (fun a n => max a (max (s.dth n) (s.dtl n))) 0 + 63) / 64

/-- M_cap (R190); a window wider than the carrier leaves no modulation. -/
def modCap (s : Chip) (k : Nat) : Nat :=
  let per := s.perOf (s.leadOf k)
  let m := s.quietTicks k
  F32.ratio (per - (if s.dblOf k then 2 * m else m)) per

/-! ### Torque reference (R187) -/

/-- The setpoint limit of R622, R623: the received limit while valid, none of it while stale, and the SLIM at all times. -/
def ringLimit (s : Chip) (k : Nat) : Nat :=
  let recv := if s.on (Reg.RING_C_STAT_stale k) then (if s.on (Reg.SEQ_CFG_cmd_src k) then 0 else F32.maxPos)
    else if s.on (Reg.RING_C_STAT_valid k) then s.get (Reg.RING_C_LIM_lim k) else F32.maxPos
  F32.min recv (s.get (Reg.RING_C_SLIM_slim k))

/-- The torque limit in force for a reference `tq` at speed `w`. -/
def torqueLimit (s : Chip) (k tq w : Nat) : Nat :=
  let mapLim := if F32.sign tq then F32.abs (s.ldrWord k 0 4) else s.ldrWord k 0 8
  let braking := !F32.isZero tq && !F32.isZero w && F32.sign tq != F32.sign w
  let regen := if braking then F32.mul s.brakeFactor mapLim else F32.maxPos
  F32.max 0 (F32.min (F32.min mapLim (s.get (Reg.CHM_C_LIM_v k))) (F32.min regen (s.ringLimit k)))

/-- The torque command of a pass: SEQk_TQ_CMD, zero in the DECEL of torque mode, or the speed loop's output. -/
def torqueCmd (s : Chip) (k : Nat) : Nat :=
  if s.on (Reg.SEQ_CFG_mode k) then (s.destSum (s.engineOf k) 3).getD 0
  else if s.clState k = 3 then 0 else s.get (Reg.SEQ_TQ_CMD_v k)

/-- T_ref of the pass, and the limit in force: the command within the limit is what T_ref moves toward at its rate, so that T_ref
ramps where a limit falls (R187, R623). A negative rate acts by its magnitude (DESIGN CHOICE, log entry 55). -/
def torqueRef (s : Chip) (k w : Nat) : Nat × Nat :=
  let cmd := s.torqueCmd k
  let dec := s.clState k = 3 && !s.on (Reg.SEQ_CFG_mode k)
  let rate := F32.abs (if dec then s.get (Reg.SEQ_DEC_RATE_v k) else s.get (Reg.SEQ_TQ_RATE_v k))
  let lim := s.torqueLimit k cmd w
  let goal := F32.clamp cmd (F32.neg lim) lim
  let t := if F32.isZero rate && !dec then goal
    else toward (s.get (Reg.FC_TQ_REF_v k)) goal (F32.mul rate (seconds (s.reloadTime k)))
  (t, lim)

/-! ### DECEL (R177, R205) -/

/-- The first condition of R177. -/
def decelZero (s : Chip) (k w : Nat) : Bool :=
  if s.on (Reg.SEQ_CFG_mode k) then
    F32.isZero (s.cluster k).spdRef && F32.le (F32.abs w) (F32.mul (F32.ratio 1 100) (s.motor k).wRated)
  else F32.isZero (s.get (Reg.FC_TQ_REF_v k))

/-- The second condition of R177. -/
def decelSlow (s : Chip) (k w : Nat) : Bool :=
  let t := (s.motor k).type
  if t = 1 || t = 2 then F32.lt (F32.abs w) (s.wTh k) else true

/-- The cluster leaves DECEL where both hold. -/
def decelStep (s : Chip) (k w : Nat) : Chip :=
  if s.clState k = 3 && s.decelZero k w && s.decelSlow k w then
    s.enter k (if (s.cluster k).decelHalt then 5 else 0)
  else s

/-- The speed reference ramps to zero in DECEL (R205). -/
def rampSpeed (s : Chip) (k : Nat) : Chip :=
  if s.clState k = 3 && s.on (Reg.SEQ_CFG_mode k) then
    s.modCl k fun c => { c with
      spdRef := toward c.spdRef 0 (F32.mul (F32.abs (s.get (Reg.SEQ_DEC_RATE_v k))) (seconds (s.reloadTime k))) }
  else s

/-! ### Passes without compares -/

/-- R181. -/
def overrun (s : Chip) (k : Nat) : Chip :=
  let s := s.put (Reg.SEQ_FLAGS_overrun k) true
  let n := (s.cluster k).overruns + 1
  if n ≥ 3 then
    (s.modCl k fun c => { c with overruns := 0 }).faultCl 0x0517 2 k k (s.get (Reg.SEQ_TIME_last k))
  else s.modCl k fun c => { c with overruns := n }

/-- The limit bits of a pass that has no reference and output stage. -/
def unlimited (s : Chip) (k : Nat) : Chip :=
  (s.modCl k fun c => { c with tqAtLim := false }).sets
    [(Reg.FC_STAT_mod_limited k, 0), (Reg.FC_STAT_tq_clamp k, 0), (Reg.FC_STAT_i_limited k, 0)]

/-- The Chimney's part of a pass. -/
def chmCurrents (s : Chip) (k : Nat) (x : Option (Nat × Nat × Nat)) : Chip :=
  match x with
  | some (a, b, c) =>
    let d := s.get (Reg.FC_ID_v k)
    let q := s.get (Reg.FC_IQ_v k)
    s.chmPass k [F32.mul a a, F32.mul b b, F32.mul c c] (F32.add (F32.mul d d) (F32.mul q q))
  | none => s.chmPass k [0, 0, 0] 0

/-! ### The reference stage -/

/-- The field-weakening correction (R189). -/
def fieldWeaken (s : Chip) (k vmax : Nat) : Chip :=
  if s.on (Reg.FC_CFG_fw_en k) then
    let x := F32.sub (s.get (Reg.FC_FW_DID_v k)) (F32.mul (s.get (Reg.FC_FW_GAIN_v k))
      (F32.sub (s.cluster k).vPrev (F32.mul (s.get (Reg.FC_FW_LEVEL_v k)) vmax)))
    let d := F32.min 0 (F32.max (s.get (Reg.FC_FW_MIN_v k)) x)
    (s.set (Reg.FC_FW_DID_v k) d).put (Reg.FC_STAT_fw_active k) (F32.lt d 0)
  else s.put (Reg.FC_STAT_fw_active k) false

/-- R188: i_d is kept, |i_q| reduced. -/
def limitCurrent (s : Chip) (k d q : Nat) : Nat × Nat × Bool :=
  let m := (s.motor k).iMax
  if F32.gt (hypot d q) m then
    let r := F32.sub (F32.mul m m) (F32.mul d d)
    (d, if F32.le r 0 then 0 else withSign q (F32.sqrt r), true)
  else (d, q, false)

/-- FCk_STAT.i_limited of a pass, and its flag. -/
def showLimit (s : Chip) (k : Nat) (lim : Bool) : Chip :=
  let s := s.put (Reg.FC_STAT_i_limited k) lim
  if lim then s.put (Reg.SEQ_FLAGS_i_lim k) true else s

/-- The current references of a pass: map, field weakening, limits, the regulation to zero of R177, the vector of the open
loop, the discharge current of R207, the magnetising current of a flux being built, the zero reference of the pass of a start
(Table 05-8). The module, i_d and i_q. -/
def references (s : Chip) (k w vdc vmax : Nat) : Chip × Nat × Nat :=
  if s.on (Reg.SEQ_STAT_wdis k) then
    let (d, q, ilim) := s.limitCurrent k (F32.neg (s.get (Reg.FC_WDIS_v k))) 0
    (((s.set (Reg.FC_STAT_mode k) 2).put (Reg.FC_STAT_tq_clamp k) false).showLimit k ilim, d, q)
  else if s.clState k = 1 then
    let (d, q, ilim) := s.limitCurrent k (s.motor k).iMag 0
    ((s.put (Reg.FC_STAT_tq_clamp k) false).showLimit k ilim, d, q)
  else if (s.cluster k).starting then
    (((s.modCl k fun c => { c with starting := false }).put (Reg.FC_STAT_tq_clamp k) false).showLimit k false, 0, 0)
  else
    let (t, lim) := s.torqueRef k w
    let s := s.sets [(Reg.FC_TQ_REF_v k, t), (Reg.FC_TQ_LIM_v k, lim)]
    let neg := F32.lt w 0
    let (d0, q0, clamped) := s.mapLookup k (if neg then F32.neg t else t) (F32.div (F32.abs w) vdc)
    let q0 := if neg then F32.neg q0 else q0
    let s := s.put (Reg.FC_STAT_tq_clamp k) clamped
    let s := if clamped then s.put (Reg.SEQ_FLAGS_tq_clamp k) true else s
    let s := s.fieldWeaken k vmax
    let d0 := if s.on (Reg.FC_CFG_fw_en k) then F32.add d0 (s.get (Reg.FC_FW_DID_v k)) else d0
    let (d, q) :=
      if s.clState k = 3 && s.decelZero k w && !s.decelSlow k w then (0, 0)
      else if s.angleCase k = 2 then (s.get (Reg.OBS_IF_CUR_v (s.engineOf k)), 0)
      else (d0, q0)
    let (d, q, ilim) := s.limitCurrent k d q
    (s.showLimit k ilim, d, q)

/-! ### The output stage -/

/-- The voltage limit of R191. -/
def limitVoltage (s : Chip) (k d q vmax : Nat) : Nat × Nat :=
  let v := hypot d q
  if s.on (Reg.FC_CFG_vlim_mode k) then
    if F32.gt v vmax then (F32.div (F32.mul d vmax) v, F32.div (F32.mul q vmax) v) else (d, q)
  else if F32.gt (F32.abs d) vmax then (withSign d vmax, 0)
  else if F32.gt v vmax then (d, withSign q (F32.sqrt (F32.sub (F32.mul vmax vmax) (F32.mul d d))))
  else (d, q)

/-- A compare in fine steps from its value in ticks, less half the volt-second correction, within [lo, hi] ticks (R351). -/
def compareOf (s : Chip) (k n ticks lo hi : Nat) : Nat :=
  let e := lookupD 0 n (s.cluster k).corr
  let c := F32.round (F32.add (F32.mul ticks (F32.ofNat 64)) (F32.mul F32.half (F32.ofInt e)))
  (min (64 * hi : Int) (max (64 * lo : Int) c)).toNat

/-- The compares of the cluster's slices for three phase voltages (R191, R360), as (slice, compare). Slices beyond the
first three of a six-phase cluster take free values within the allowed range: the spec does not place the second set of
phases (log entry 14). -/
def compares (s : Chip) (k vdc : Nat) (v : Nat × Nat × Nat) : List (Nat × Nat) :=
  let (a, b, c) := if hasBit (s.motor k).flags 3 then (v.1, v.2.2, v.2.1) else v
  let per := s.perOf (s.leadOf k)
  let m := s.quietTicks k
  let hi := if s.dblOf k then per - m else per
  let v0 := F32.neg (F32.mul F32.half (F32.add (F32.max a (F32.max b c)) (F32.min a (F32.min b c))))
  let ph := [a, b, c].map fun x => F32.div (F32.add x v0) vdc
  let slices := s.slicesOf k
  if (s.topo k).type = 3 then
    slices.map fun n =>
      let r := F32.clamp (F32.mul (F32.ofNat 2) (nth ph (outerOf n))) (F32.neg F32.one) F32.one
      let low := F32.lt r 0
      let t := F32.mul (F32.ofNat per) (F32.sub F32.one r)
      let t' := F32.mul (F32.ofNat per) (F32.neg r)
      -- a corrected compare stays within the range of R191
      let (a, b) := if lookupD 0 n (s.cluster k).corr = 0 then (0, per) else (m, hi)
      if n < 3 then (n, if low then 64 * per else s.compareOf k n t a b)
      else (n, if low then s.compareOf k n t' a b else 0)
  else
    (slices.zipIdx).map fun p =>
      if p.2 < 3 then
        let t := F32.sub (F32.ratio (m + hi) 2) (F32.mul (nth ph p.2) (F32.ofNat per))
        (p.1, s.compareOf k p.1 t m hi)
      else (p.1, min (64 * hi) (max (64 * m) (Config.freeValue (s.free + p.2) % 2 ^ 24)))

/-- The first slice whose compares differ. -/
def firstDiff : List (Nat × Nat) → List (Nat × Nat) → Option Nat
  | (n, c) :: l, (_, d) :: l' => if c = d then firstDiff l l' else some n
  | _, _ => none

/-- The voltages of one engine set after the limit, its compares, and the requested magnitude. -/
def outputOf (s : Chip) (k e vdc vmax ang : Nat) : List (Nat × Nat) × Nat × Nat × Nat :=
  let d := (s.destSum e 1).getD 0
  let q := (s.destSum e 2).getD 0
  let (vd, vq) := s.limitVoltage k d q vmax
  (s.compares k vdc (unpark vd vq ang), vd, vq, hypot d q)

/-- The output stage's registers (R192). -/
def showOutput (s : Chip) (k vd vq mag vdc : Nat) : Chip :=
  let cap := s.modCap k
  let req := F32.div (F32.mul sqrt3 mag) vdc
  let q14 (x : Nat) : Nat := min 65535 (F32.round (F32.mul (F32.ofNat 16384) x)).toNat
  let lim := F32.gt req cap
  let s := s.sets [(Reg.FC_VD_v k, vd), (Reg.FC_VQ_v k, vq), (Reg.FC_MOD_m_cap k, q14 cap), (Reg.FC_MOD_m_req k, q14 req),
    (Reg.FC_STAT_mod_limited k, b2n lim)]
  let s := s.modCl k fun c => { c with vPrev := mag }
  if lim then s.put (Reg.SEQ_FLAGS_mod_lim k) true else s

/-- Ticks from the trigger to the next reload of the lead slice after a tick counted from the trigger: a write in a reload tick
serves the reload after it (R339). -/
def nextReload (s : Chip) (k at_ : Nat) : Nat :=
  let r := (s.cluster k).toReload
  let t := s.reloadTime k
  if at_ < r then r else r + ((at_ - r) / t + 1) * t

/-- The compares that are due are written to the shadows; a write in a reload tick lands after the copy (R339). -/
def cmpTick (s : Chip) (k : Nat) : Chip :=
  let l := (s.cluster k).cmps.filter fun p => p.1 ≤ s.now
  if l.isEmpty then s
  else
    let s := forEach l (fun p t =>
      let t := t.set (Reg.PWM_S_CMPA_v p.2.1) p.2.2
      if (t.sl p.2.1).reloadAt == some t.now then t.put (Reg.PWM_S_STAT_late_write p.2.1) true else t) s
    s.modCl k fun c => { c with cmps := c.cmps.filter fun p => s.now < p.1, cmpI := c.cmpNew }

/-- The compares are to be written to the shadows, one slice a tick, if the guard leaves time (R181, R183); `at_` is the tick of the
first write counted from the trigger. -/
def writeCompares (s : Chip) (k at_ : Nat) (l : List (Nat × Nat)) : Chip :=
  let guard := max 4 (s.get (Reg.SEQ_CFG_guard k))
  if s.nextReload k at_ < at_ + guard then s.overrun k
  else
    let s := s.modCl k fun c => { c with cmps := c.cmps ++ l.zipIdx.map fun p => (c.trigTick + at_ + p.2, p.1), cmpNew := c.phaseI }
    let last := min 65535 (at_ + l.length - 1)
    let s := s.set (Reg.SEQ_TIME_last k) last
    let s := s.set (Reg.SEQ_TIME_worst k) (max last (s.get (Reg.SEQ_TIME_worst k)))
    s.modCl k fun c => { c with overruns := 0 }

/-- The volt-second errors that a valley pass takes (R351). They correct both halves of the next period: in double update the compares
that the peak pass writes, for its up half, and those of the next valley pass, for its down half. -/
def takeErrors (s : Chip) (k : Nat) : Chip :=
  let l := (s.slicesOf k).map fun n => (n, sgn 32 (s.get (Reg.PWM_S_VSERR_vserr n)))
  if (s.cluster k).peakPass then s.modCl k fun c => { c with corr := c.corrNew }
  else s.modCl k fun c => { c with corr := if s.dblOf k then c.corrNew else l, corrNew := l }

/-! ### Winding discharge (R208) -/

/-- The discharge ends where the machine moves. -/
def wdisWatch (s : Chip) (k ang w : Nat) : Chip :=
  if !s.on (Reg.SEQ_STAT_wdis k) then s
  else
    let moved := (sgn 16 (ang + 65536 - (s.cluster k).wdisAngle)).natAbs > 910
    let why := if F32.gt (F32.abs w) (F32.mul (F32.ratio 1 100) (s.motor k).wRated) then 1 else if moved then 2 else 0
    if why = 0 then s
    else
      let s := (s.endWdis k).noteCl 0x0519 k why
      if s.get Reg.SAFE_DIS_STAT_state = 1 && s.get Reg.SAFE_DIS_CTL_cluster = k then s.disResistor 2 else s

/-! ### The stages after the angle is known -/

/-- The CRC-16s of the input words delivered to the two engine sets of a duplexed pass differ (R213, Table 05-10). The first stands
in bits 15:0 of the data word and the second in bits 31:16: Table 05-14 gives no layout (DESIGN CHOICE, log entry 55). -/
def dupInputs (s : Chip) (k : Nat) (u : Upset) : Chip :=
  match u, (s.cluster k).duplex == .active with
  | .inputs x y, true => if x = y then s else s.faultCl 0x051E 3 k k (x.val + 65536 * y.val)
  | _, _ => s

/-- An uncorrectable error in a foreground read of table 0 or 1 of the active copy, at an offset of a copy (R222). -/
def larderBad (s : Chip) (k off : Nat) : Chip :=
  let t := if off < ldrOff 1 then 0 else 1
  s.faultCl 0x0524 3 k k (0x42000000 + 0x10000 * k + 0x8000 * s.ldrAct k t + off)

/-- The error of a pass, where it lies in the named table: the observer reads table 1, the reference stage table 0. -/
def larderRead (s : Chip) (k t : Nat) (u : Upset) : Chip :=
  match u with
  | .larder off => if decide (off.val < ldrOff 1) == (t == 0) then s.larderBad k off else s
  | _ => s

/-- A pass in which an induction machine's flux is built: the current reference is MOTOR_ID's i_mag, no list is evaluated in CATCH
(R311), and the compares are free within the allowed range: the rules do not say what voltage builds the flux (DESIGN CHOICE, log
entry 55). -/
def fluxStage (s : Chip) (k inp vdc w : Nat) : Chip :=
  let vmax := F32.div (F32.mul (s.modCap k) vdc) sqrt3
  let (s, d, q) := (s.unlimited k).references k w vdc vmax
  let s := forEach (s.engineSets k) (fun e t => t.skipLists k e) (s.sets [(Reg.FC_ID_REF_v k, d), (Reg.FC_IQ_REF_v k, q)])
  let per := s.perOf (s.leadOf k)
  let m := s.quietTicks k
  let hi := if s.dblOf k then per - m else per
  let out := (s.slicesOf k).zipIdx.map fun p =>
    (p.1, min (64 * hi) (max (64 * m) (Config.freeValue (s.free + p.2) % 2 ^ 24)))
  { s with free := s.free + 16 }.writeCompares k (inp + 60 + 20 + 30) out

/-- Current loops and output of a pass in RUN or DECEL; `inp` is the tick of the inputs counted from the trigger. -/
def runStages (s : Chip) (k : Nat) (u : Upset) (inp vdc ang w idm iqm : Nat) : Chip :=
  let vmax := F32.div (F32.mul (s.modCap k) vdc) sqrt3
  let s := s.rampSpeed k
  let (s, dRef, qRef) := s.references k w vdc vmax
  let s := s.sets [(Reg.FC_ID_REF_v k, dRef), (Reg.FC_IQ_REF_v k, qRef)]
  let inputs : LoopIn := ⟨F32.sub dRef idm, F32.sub qRef iqm, s.speedRef k, w, s.get (Reg.FC_TQ_REF_v k), vdc,
    (s.cluster k).tqAtLim⟩
  let s := s.modCl k fun c => { c with
    tqAtLim := F32.ge (F32.abs (s.get (Reg.FC_TQ_REF_v k))) (s.get (Reg.FC_TQ_LIM_v k)),
    ifAngle := (unsgn 16 ((c.ifAngle : Int) + advance (s.speedRef k) (s.reloadTime k))) }
  let sets := s.engineSets k
  let dup := sets.length = 2
  let (s, secs, ok) := sets.foldl (fun (r : Chip × Nat × Bool) e =>
    let (t, n, good) := r.1.runLists k e inputs
    (t, max r.2.1 n, r.2.2 && good)) (s, 0, true)
  if !ok then s.put (Reg.FC_STAT_mod_limited k) false
  else
    let s := match u with
      | .engine off => s.engineFault (s.engineOf k) off.val
      | .engineCor off => (s.put (Reg.CLE_FLAGS_ecc_cor (s.engineOf k)) true).noteCl 0x0614 k off.val
      | _ => s
    let s := s.larderRead k 0 u
    if !s.switching k then s
    else
      let start := inp + 60 + 20 + 2 * secs + 30 + (if dup then 2 else 0)
      let adv := advanceBy w (2 * (s.nextReload k start - 1) + s.reloadTime k) 2
      let th := unsgn 16 ((ang : Int) + adv)
      let s := s.takeErrors k
      let (out, vd, vq, mag) := s.outputOf k (s.engineOf k) vdc vmax th
      let s := s.showOutput k vd vq mag vdc
      let other := if dup && (s.cluster k).duplex == .active then (s.outputOf k (partner k) vdc vmax th).1 else out
      let s := { s with free := s.free + 16 }
      match dup && (s.cluster k).duplex == .active, firstDiff out other with
      | true, some n => s.faultCl 0x051D 3 k k n
      | _, _ => s.writeCompares k start out

end Sys2Proof.Machine.Chip
end

