-- ==== Sys2Proof/Machine/CatchOps.lean ====
section
/-! DEFINITION. Catch start, requests to a cluster, the loop of a pass as a whole (chapter 05). -/

namespace Sys2Proof.Machine.Chip

/-! ### Catch (R200 to R204) -/

/-- The islands of the cluster whose bootstrap supply is pending, as a mask (R406, R407). -/
def bootPending (s : Chip) (k : Nat) : Nat :=
  (s.islandsOf k).foldl (fun w n => if s.islUsed n && s.on (Reg.ISL_STAT_bs_pending n) then setBit w n else w) 0

/-- A bootstrap island of the cluster has not completed its handshake: a lock waits for it (R407). -/
def bootWaits (s : Chip) (k : Nat) : Bool :=
  (s.islandsOf k).any fun n => n % 2 == 0 && s.islUsed n && s.on (Reg.ISL_CFG_supply n)
    && !(s.get (Reg.ISL_STAT_state n) == 2 || s.get (Reg.ISL_STAT_state n) == 3)

/-- The position method's condition (Table 05-7). -/
def catchPos (s : Chip) (k : Nat) : Bool :=
  match s.posOf k with
  | some n => s.angSrc k != 1 && s.on (Reg.POS_STAT_pos_valid n)
      && (s.on (Reg.POS_STAT_spd_valid n) || s.on (Reg.POS_STAT_standstill n))
  | none => false

/-- The catch method: 0 voltages, 1 probes, 2 position; an induction machine has position only (Table 05-8). -/
def catchMethod (s : Chip) (k : Nat) : Nat :=
  if s.catchPos k || (s.motor k).type == 3 then 2 else if s.catchVolts k then 0 else 1

/-- The length of a catch probe in ticks; 0 and values above 400 act as 400 (Table 05-20). -/
def probeLen (s : Chip) (k : Nat) : Nat :=
  let t := s.get (Reg.SEQ_CATCH_CFG_probe_t k)
  if t = 0 ∨ 400 < t then 400 else t

/-- Cluster k takes catch probes: in CATCH by the method of probes, and for a discharge that seeks standstill (R200, R206). -/
def probing (s : Chip) (k : Nat) : Bool :=
  let c := s.cluster k
  if c.held = 6 && s.quiet k then true
  else s.clState k == 1 && !s.on (Reg.SEQ_STAT_overspeed k) && s.catchMethod k == 1 && c.lock.isNone && c.flux.isNone

/-- The slices whose lower switches are to turn on in this tick: all of them at a probe, those of the legs with a pending bootstrap
island at the pulses of R407; the first of each series falls in the tick of the entry (DEDUCED, log entry 55). -/
def pulseSlices (s : Chip) (k : Nat) : List Nat :=
  let d := s.now - (s.cluster k).catchAt
  if s.probing k && d % 50000 == 0 then s.slicesOf k
  else if s.clState k == 1 && !s.on (Reg.SEQ_STAT_overspeed k) && d % 10000 == 0 then (bitsOf (s.bootPending k) 12).map (· / 2)
  else []

/-- A pulse of the sequencer begins: the lower switches of the slices that are due. -/
def pulseOn (s : Chip) (k : Nat) : Chip := (s.modCl k fun c => { c with pulse := true }).setOvrs (s.pulseSlices k) 2

/-- The end of a tick: a pulse of the sequencer begins, or ends after its length; the hard-wired code governs (R364, R407). -/
def catchPulse (s : Chip) (k : Nat) : Chip :=
  let c := s.cluster k
  let live := s.clState k == 1 || (c.held = 6 && s.quiet k)
  let none_ := s.get (Reg.SAFE_C_STAT_sel k) == 0
  if c.pulse && (!live || (s.now - c.catchAt) % 10000 == s.probeLen k) then
    let s := s.modCl k fun c => { c with pulse := false }
    if none_ && !s.on (Reg.SEQ_STAT_overspeed k) then s.setOvrs (s.slicesOf k) 0 else s
  else if live && none_ && !(s.pulseSlices k).isEmpty then
    s.pulseOn k
  else s

/-- The tick is the end of a probe of the series that counts from the entry (R200). -/
def probeEnds (s : Chip) (k : Nat) : Bool :=
  (s.cluster k).catchAt ≤ s.now && (s.now - (s.cluster k).catchAt) % 50000 == s.probeLen k

/-- CATCH from its entry again (R202). -/
def catchRestart (s : Chip) (k : Nat) : Chip :=
  let s := s.sets [(Reg.FC_FW_DID_v k, 0), (Reg.FC_STAT_fw_active k, 0), (Reg.SEQ_CATCH_STAT_result k, 1),
    (Reg.SEQ_CATCH_STAT_probes k, 0)]
  let s := s.modCl k fun c => { c with
    catchAt := s.now, enteredAt := s.now, probes := [], lowProbes := 0, lastProbe := none, lock := none, track := none,
    flux := none }
  forEach (s.engineSets k) (fun e t => (t.clearLists e).feZero e) s

/-- The start fails: gates off, IDLE (No lock of Table 05-8). -/
def noLock (s : Chip) (k : Nat) : Chip :=
  let s := s.sets [(Reg.SEQ_CATCH_STAT_result k, 4), (Reg.SEQ_FLAGS_catch_ev k, 1)]
  let s := s.noteCl 0x0512 k (s.get (Reg.SEQ_CATCH_STAT_probes k) + 256 * s.get (Reg.SEQ_CATCH_STAT_method k))
  s.enter k 0

/-- The induced peak line-to-line voltage over V_dc. -/
def vllRatio (e vdc : Nat) : Nat := F32.div (F32.mul sqrt3 e) vdc

/-- Start and Standstill start of Table 05-8: preload, RUN, gates at the next reload. The vector matched to the induced
voltage is v_d = 0 and v_q = the induced peak with the sign of the speed (log entry 15). -/
def catchStart (s : Chip) (k w e : Nat) (still : Bool) : Chip :=
  let s := s.sets [(Reg.SEQ_CATCH_STAT_result k, if still then 5 else 2), (Reg.SEQ_FLAGS_catch_ev k, 1)]
  let (s, ok) := s.preload k 0 (if still then 0 else withSign w e)
  if ok then
    let s := s.sets [(Reg.FC_TQ_REF_v k, 0), (Reg.FC_STAT_mode k, 0)]
    (s.enter k 2).modCl k fun c => { c with startGates := true, starting := true }
  else s

/-- An induction machine has locked: its flux is built from zero voltage, with the gates enabled at the next reload point. The
rule gives the building no duration, and the number of passes is free (DESIGN CHOICE, log entry 55). -/
def fluxStart (s : Chip) (k : Nat) : Chip :=
  (s.useFree.modCl k fun c => { c with flux := some s.freeVal, startGates := true, lock := none }).set (Reg.FC_STAT_mode k) 0

/-- The flux is built: the cluster starts as in the Start case. The voltage that the machine then induces is open, and with it the vector
that the loops are preloaded with (R312, DESIGN CHOICE, log entry 55). -/
def fluxDone (s : Chip) (k : Nat) : Chip :=
  let s := s.sets [(Reg.SEQ_CATCH_STAT_result k, 2), (Reg.SEQ_FLAGS_catch_ev k, 1)]
  let (s, ok) := s.useFree.useFree.preload k (s.freeVal % 2 ^ 32) (s.useFree.freeVal % 2 ^ 32)
  if ok then
    let s := s.sets [(Reg.FC_TQ_REF_v k, 0), (Reg.FC_STAT_mode k, 0)]
    (s.enter k 2).modCl k fun c => { c with startGates := true, starting := true }
  else s

/-- One pass of the flux building. -/
def fluxPass (s : Chip) (k n : Nat) : Chip :=
  if n = 0 then s.fluxDone k else s.modCl k fun c => { c with flux := some (n - 1) }

/-- A lock with speed, induced phase peak and standstill, judged with the bus voltage of the pass; it waits where no valid
VDC result is at hand, and for bootstrap islands (R202, R407). A ratio that vll_ratio cannot hold saturates (DESIGN CHOICE, log
entry 55: R204 is silent). -/
def catchLock (s : Chip) (k w e : Nat) (still : Bool) : Chip :=
  let s := s.modCl k fun c => { c with lock := some (w, e, still) }
  match (s.cluster k).vdc.head? with
  | none => s
  | some (_, vdc) =>
    let r := vllRatio e vdc
    let r14 := min 65535 (F32.round (F32.mul (F32.ofNat 16384) r)).toNat
    let s := (s.set (Reg.SEQ_CATCH_W_v k) w).set (Reg.SEQ_CATCH_STAT_vll_ratio k) r14
    if F32.ge r (F32.ratio 9 10) then
      let s := s.sets [(Reg.SEQ_CATCH_STAT_result k, 3), (Reg.SEQ_STAT_overspeed k, 1)]
      let s := s.modCl k fun c => { c with lock := none, track := none }
      let s := s.noteCl 0x0511 k r14
      if s.get (Reg.SAFE_C_STAT_sel k) = 0 then
        (s.set (Reg.SEQ_STAT_held k) (s.overspeedCode k)).setOvrs (s.slicesOf k) (s.overspeedCode k)
      else s
    else if s.bootWaits k then s
    else if (s.motor k).type = 3 then s.fluxStart k
    else s.catchStart k w e still

/-- The angle and speed that a catch found without a channel are the observer's, which locks on them (R200, DEDUCED, log entry
55). -/
def obsCaught (s : Chip) (k ang w : Nat) : Chip :=
  let e := s.engineOf k
  let s := s.modCl e fun c => { c with obsAng := ang % 65536, obsSpd := w, unlockRun := 0 }
  s.sets [(Reg.OBS_STAT_obs_lock e, 1), (Reg.OBS_SPEED_v e, w), (Reg.OBS_ANGLE_angle e, ang), (Reg.OBS_STAT_dir e, b2n (F32.sign w)),
    (Reg.SEQ_FLAGS_obs_lock_ev k, if s.on (Reg.OBS_STAT_obs_lock e) then s.get (Reg.SEQ_FLAGS_obs_lock_ev k) else 1)]

/-- Standstill by four low probes: the angle comes from injection, or the start fails (R201). The angle found is a free
value (log entry 11). -/
def catchStandstill (s : Chip) (k : Nat) : Chip :=
  if s.hfiOk k (s.engineOf k) then (s.useFree.obsCaught k s.freeVal 0).catchLock k 0 0 true
  else s.noLock k

/-- The overspeed case while it stands: speed tracked from the phase currents; its end (R202, R203). -/
def catchTrack (s : Chip) (k : Nat) (cur : Option (Nat × Nat × Nat)) : Chip :=
  match cur, (s.cluster k).vdc.head? with
  | some x, some (_, vdc) =>
    let (al, be) := clarke x
    let th := Config.atan2 be al % 65536
    let now := (s.cluster k).trigTick
    let old := (s.cluster k).track
    let s := s.modCl k fun c => { c with track := some (th, now) }
    match old with
    | none => s
    | some (th0, t0) =>
      let w := angSpeed (sgn 16 (th + 65536 - th0)).natAbs 1 (now - t0)
      let lim := F32.div (F32.mul (F32.mul (F32.ratio 95 100) (F32.ratio 9 10)) vdc) (F32.mul sqrt3 (s.motor k).keNom)
      if F32.lt w lim then
        let s := s.put (Reg.SEQ_STAT_overspeed k) false
        let s := if s.get (Reg.SAFE_C_STAT_sel k) = 0 then
            (s.set (Reg.SEQ_STAT_held k) 0).setOvrs (s.slicesOf k) 0 else s
        let h := (s.cluster k).held
        if h = 2 ∨ h = 3 then
          (s.setHeld k 0).enter k (if h = 2 then 0 else 5)
        else s.catchRestart k
      else s
  | _, _ => s

/-- CATCH in a pass: the overspeed case, a lock that waits, the position and voltage methods. -/
def catchPass (s : Chip) (k : Nat) (cur : Option (Nat × Nat × Nat)) : Chip :=
  if s.on (Reg.SEQ_STAT_overspeed k) then s.catchTrack k cur
  else
    match (s.cluster k).lock, (s.cluster k).flux with
    | some (w, e, still), _ => s.catchLock k w e still
    | none, some n => s.fluxPass k n
    | none, none =>
      let m := s.catchMethod k
      let s := s.set (Reg.SEQ_CATCH_STAT_method k) m
      if m = 2 then
        match s.posOf k with
        | some n =>
          if s.catchPos k then
            let still := !s.on (Reg.POS_STAT_spd_valid n)
            let w := if still then 0 else s.get (Reg.POS_SPEED_speed n)
            s.catchLock k w (F32.mul (s.motor k).keNom (F32.abs w)) still
          else s
        | none => s
      else if m = 0 then
        let e := s.engineOf k
        let b := (s.measS k).base
        match s.resVal k b 0 5, s.resVal k b 0 6, s.resVal k b 0 7, s.on (Reg.OBS_STAT_obs_lock e) with
        | some x, some y, some z, true =>
          let (al, be) := clarke (x, y, z)
          s.catchLock k (s.get (Reg.OBS_SPEED_v e)) (hypot al be) false
        | _, _, _, _ => s
      else s

/-! ### Requests (R172 to R176) -/

/-- A request is refused with a record. -/
def refusal (s : Chip) (k fault data : Nat) : Chip :=
  let s := s.modCl k fun c => { c with refNow := some (s.on (Reg.SEQ_FLAGS_refused k)) }
  (s.put (Reg.SEQ_FLAGS_refused k) true).noteCl fault k data

/-- REQ_REFUSED. -/
def refuseReq (s : Chip) (k code reason : Nat) : Chip := s.refusal k 0x0510 (256 * code + reason)

/-- Why R176 refuses RUN; 0 if it does not. Where several hold the first of reasons 1, 2, 3, 4, 5, 8 is recorded: the rule gives
no order (DESIGN CHOICE, log entry 55). -/
def runRefusal (s : Chip) (k : Nat) : Nat :=
  let t := s.topo k
  let m := (s.motor k).type
  if 1 ≤ t.type && t.type ≤ 3 && !(1 ≤ m && m ≤ 4) then 1
  else if (s.cluster k).faults.any (·.latch) then 2
  else if s.on (Reg.SEQ_STAT_lent k) then 3
  else if s.retired then 4
  else if t.type = 0 || t.type = 4 then 5
  else if hasBit t.policy 0 && !s.on (Reg.ADC_C_CFG_cmp_en k) then 8
  else 0

/-- RUN takes effect in IDLE or HALTED after torque-ready: CATCH, or for type 5 RUN once the Hall state is legal. -/
def startRun (s : Chip) (k : Nat) : Chip :=
  if (s.topo k).type = 5 then s.bcmStart k else (s.setHeld k 0).enterCatch k

/-- RUN (R172, R136). Reason 6 (the state) comes before those of R176 (DESIGN CHOICE, log entry 55). -/
def reqRun (s : Chip) (k : Nat) : Chip :=
  let st := s.clState k
  let why := s.runRefusal k
  if st = 1 ∨ st = 2 then s.refuseReq k 1 6
  else if why != 0 then s.refuseReq k 1 why
  else if st = 4 then (s.setHeld k 0).setStanding k true
  else if st = 3 then
    (s.setHeld k 0).enter k 2
  else if s.startDone k then s.startRun k
  else s.setHeld k 1

/-- DECEL begins: the speed reference starts from the command in force. -/
def startDecel (s : Chip) (k : Nat) (halt : Bool) : Chip :=
  let ref := s.get (Reg.SEQ_SPD_CMD_v k)
  let s := s.enter k 3
  s.modCl k fun c => { c with decelHalt := halt, spdRef := ref }

/-- HALT of a discharging cluster: it is in RUN no longer, so that the discharge ends, and HALTED follows DECEL with the torque
reference at zero (R172, R207, DEDUCED, log entry 55). -/
def haltWdis (s : Chip) (k : Nat) : Chip :=
  (s.sets [(Reg.SEQ_STAT_wdis k, 0), (Reg.SEQ_FLAGS_wdis_ev k, 1), (Reg.FC_STAT_mode k, 0), (Reg.FC_TQ_REF_v k, 0)]).startDecel k true

/-- STOP (code 2) and HALT (code 3). -/
def reqStop (s : Chip) (k : Nat) (halt : Bool) : Chip :=
  let st := s.clState k
  let code := if halt then 3 else 2
  if st = 0 then (if halt then (s.setHeld k 0).enter k 5 else s.setHeld k 0)
  else if st = 5 then (if halt then s.refuseReq k 3 6 else s.setHeld k 0)
  else if st = 4 then (if halt then s.refuseReq k 3 6 else (s.setHeld k 0).setStanding k false)
  else if st = 1 then
    if s.on (Reg.SEQ_STAT_overspeed k) then s.setHeld k code
    else (s.setHeld k 0).enter k (if halt then 5 else 0)
  else if s.on (Reg.SEQ_STAT_wdis k) then (if halt then s.haltWdis k else s.endWdis k)
  else if st = 2 then s.startDecel k halt
  else s.modCl k fun c => { c with decelHalt := halt }

/-- The discharge begins at an angle (R207). -/
def wdisStart (s : Chip) (k ang : Nat) : Chip :=
  let s := (s.setHeld k 0).enter k 2
  let s := s.sets [(Reg.SEQ_STAT_wdis k, 1), (Reg.FC_STAT_mode k, 2)]
  s.modCl k fun c => { c with startGates := true, wdisAngle := ang % 65536 }

/-- WDIS_ABORT with data 3: the request is refused (R206). -/
def wdisRefuse (s : Chip) (k : Nat) : Chip := s.refusal k 0x0519 3

/-- A held DISCHARGE fails; a discharge of the safety channel goes on with the resistor (Table 11-7). -/
def wdisFail (s : Chip) (k : Nat) : Chip :=
  let s := (s.setHeld k 0).wdisRefuse k
  if s.get Reg.SAFE_DIS_STAT_state = 1 && s.get Reg.SAFE_DIS_CTL_cluster = k then s.disResistor 1 else s

/-- The angle of a discharge that four probes have admitted: the channel's, or by injection and then free (R206). -/
def wdisProbed (s : Chip) (k : Nat) : Chip :=
  match s.posOf k, s.posValid k with
  | some n, true => s.wdisStart k (s.get (Reg.POS_ANGLE_angle n))
  | _, _ =>
    if s.hfiOk k (s.engineOf k) then
      let a := s.freeVal % 65536
      (s.useFree.obsCaught k a 0).wdisStart k a
    else s.wdisFail k

/-- DISCHARGE (R206, R207); true where it is accepted. Where the channel does not establish standstill and the angle can be
known, the request is held while four probes seek it (DEDUCED, log entry 55). -/
def reqDischarge (s : Chip) (k : Nat) : Chip × Bool :=
  if !s.quiet k then (s.refuseReq k 6 6, false)
  else
    let still := match s.posOf k with
      | some n => s.on (Reg.POS_STAT_standstill n)
      | none => false
    if !hasBit (s.motor k).flags 2 then (s.wdisRefuse k, false)
    else if s.posValid k && still then
      let ang := match s.posOf k with | some n => s.get (Reg.POS_ANGLE_angle n) | none => 0
      (s.wdisStart k ang, true)
    else if still && s.hfiOk k (s.engineOf k) then
      let a := s.freeVal % 65536
      ((s.useFree.obsCaught k a 0).wdisStart k a, true)
    else if s.posValid k || s.hfiOk k (s.engineOf k) then
      ((s.setHeld k 6).modCl k fun c => { c with lowProbes := 0, catchAt := s.now }, true)
    else (s.wdisRefuse k, false)

/-! ### The loop of one pass -/

/-- The processor channel's share of a pass (R451, R452): one term of T_est, from the path and the angle source that field
control does not use. -/
def pcPass (s : Chip) (k b : Nat) : Chip :=
  if !s.served k then s
  else
    let path := 1 - s.get (Reg.SEQ_CFG_isrc k)
    let e := s.engineOf k
    let obs := s.obsLocked k
    let ang : Option Nat :=
      if s.get (Reg.SEQ_STAT_ang_now k) = 0 && obs then some (s.get (Reg.OBS_ANGLE_angle e))
      else if s.posValid k then (s.posOf k).map fun n => s.get (Reg.POS_ANGLE_lat_ang n)
      else if obs then some (s.get (Reg.OBS_ANGLE_angle e))
      else none
    match s.phaseCurrents k b path, ang with
    | some x, some a =>
      let m := s.motor k
      let (d, q) := park x a
      let psi := if m.type = 3 then s.get (Reg.OBS_FLUX_v e) else m.keNom
      let t := F32.mul (F32.mul (F32.ratio 3 2) (F32.ofNat m.poles))
        (F32.add (F32.mul psi q) (F32.mul (F32.mul (F32.sub m.ld m.lq) d) q))
      s.modCl k fun c => { c with tqSum := F32.add c.tqSum t, tqN := c.tqN + 1 }
    | _, _ => s

/-- A block-commutated cluster in DECEL: the conditions of R177 are judged in each of its passes. -/
def bcmDecel (s : Chip) (k : Nat) : Chip :=
  let w := match s.posOf k with | some n => s.get (Reg.POS_SPEED_speed n) | none => 0
  if s.clState k = 3 then (s.rampSpeed k).decelStep k w else s

/-- The loop of a pass once its inputs are there (R180); `inp` is their tick counted from the trigger. The input words of duplexed
engines are compared in every pass (R213). -/
def loopRun (s : Chip) (k : Nat) (u : Upset) (inp : Nat) : Chip :=
  if s.clState k = 5 || !(s.cluster k).inPass then s
  else if !s.motorType k then (s.modCl k fun c => { c with inPass := false }).bcmDecel k
  else
    let s := s.modCl k fun c => { c with inPass := false }
    let s := s.dupInputs k u
    let b := (s.measS k).base
    let cur := s.phaseCurrents k b (s.get (Reg.SEQ_CFG_isrc k))
    let s := s.modCl k fun c => { c with phaseI := match cur with | some (x, y, z) => [x, y, z] | none => [] }
    let s := ((s.observe k (s.reloadTime k)).larderRead k 1 u).reportAngle k
    let ang := s.angleOf k
    let (s, d, q) := match cur, ang with
      | some x, some (a, _) =>
        let (d, q) := park x a
        (s.sets [(Reg.FC_ID_v k, d), (Reg.FC_IQ_v k, q)], d, q)
      | _, _ => (s, 0, 0)
    let s := if s.clState k = 1 then s.catchPass k cur else s
    let s :=
      if !s.switching k then
        forEach (s.engineSets k) (fun e t => t.skipLists k e) ((s.unlimited k).modCl k fun c => { c with overruns := 0 })
      else
        match ang, cur, s.vdcOf k b with
        | some (a, w), some _, some vdc =>
          let s := s.wdisWatch k a w
          if !s.switching k then s
          else
            let s := if s.clState k = 1 then s.fluxStage k inp vdc w else s.runStages k u inp vdc a w d q
            if s.clState k = 3 then s.decelStep k w else s
        | _, _, _ => (forEach (s.engineSets k) (fun e t => t.skipLists k e) (s.unlimited k)).overrun k
    s.chmCurrents k (if ang.isSome then cur else none)

/-- The results of a pass that came in one tick have been written: VDC, diode current, checks; `loop` says that the
loop's inputs are complete. -/
def resultsIn (s : Chip) (k b : Nat) (u : Upset) (inp : Nat) (loop : Bool) : Chip :=
  let now := b == (s.measS k).base
  let s := if now then (s.diodeWatch k (s.allCurrents k b)).vdcWritten k (s.vdcHeld k b) else s
  let open_ := (s.measS k).waiting.any fun p => p.2 = b
  let s := s.passDone k b
  let s := if now then s.resPass k ((s.cluster k).peakPass && s.dblOf k) else s
  let s := if now && loop then s.loopRun k u inp else s
  if now && !open_ then s.pcPass k b else s

end Sys2Proof.Machine.Chip
end

