-- ==== Sys2Proof/Machine/IslOps.lean ====
section
/-! DEFINITION. Shared operations of the islands (chapter 10): faults, states, transitions, the leg interlock, the table
lookup of profiles, latency calibration, mirror writes. -/

namespace Sys2Proof.Machine.Chip

/-! ### Supply outputs and faults -/

/-- The ISO_EN output that serves island n is asserted (R75). -/
def isoOn (s : Chip) (n : Nat) : Bool := if n < 6 then s.on Reg.SAFE_STAT_iso_en_a else s.on Reg.SAFE_STAT_iso_en_b

/-- The other island of the leg. -/
def mate (n : Nat) : Nat := if n % 2 = 0 then n + 1 else n - 1

/-- A record of island n, with its latest code (Table 10-11). -/
def islRecord (s : Chip) (n code cls data : Nat) : Chip :=
  let k := (s.islOwner n).getD 7
  (s.record code cls n k (if k < 4 then rgnOf k else n / 6) data).set (Reg.ISL_FAULT_code n) code

/-- A SAFE or LATCH fault is recorded and stands at the island (R677); LEG_CONFLICT has no retry and stands as LATCH. A
fault of the group breaks the wait of R401. -/
def islDetect (s : Chip) (n code cls data : Nat) : Chip :=
  let s := s.islRecord n code cls data
  let s := s.modIsl n fun i => { i with
    faults := if i.faults.any fun x => x.code = code then i.faults
      else i.faults ++ [⟨code, n, cls == 3 || code == 0x0215, s.now⟩],
    turnedOn := if code = 0x0210 then clrBit i.turnedOn 0
      else if code = 0x0211 ∨ code = 0x0212 ∨ code = 0x0216 then clrBit i.turnedOn 1 else i.turnedOn }
  s.showFaults n

/-- The owning cluster falls to SAFE; an unassigned island only holds its own gate off (R415). -/
def islFall (s : Chip) (n code cls : Nat) : Chip :=
  let s := s.put (Reg.ISL_FLAGS_fault_ev n) true
  match s.islOwner n with
  | some k => s.fall k code cls n
  | none => s

/-! ### States -/

/-- The island's state; a running check of the leg ends where the rules of Table 10-9 say. -/
def islTo (s : Chip) (n st : Nat) : Chip :=
  let s := if (s.island n).real = 6 ∧ st != 6 ∧ s.on (Reg.ISL_LEAK_STAT_busy n) then
      s.sets [(Reg.ISL_LEAK_STAT_busy n, 0), (Reg.ISL_LEAK_STAT_result n, 4), (Reg.ISL_LEAK_STAT_reason n, 0),
        (Reg.ISL_FLAGS_leak_ev n, 1)]
    else s
  let s := (s.modIsl n fun i => { i with real := st, watching := i.watching && st == 3 }).clamp n
  if st = 2 ∨ st = 7 ∨ st = 0 then s
  else if (s.island (mate n)).real = 6 then s.abortLeak (mate n) 3 else s

/-- A state that the island also reports at once. -/
def islShow (s : Chip) (n st : Nat) : Chip := (s.islTo n st).set (Reg.ISL_STAT_state n) st

/-! ### Transitions (R385 to R387) -/

/-- The island takes its profiles from frames (R389). -/
def usesTable (s : Chip) (n : Nat) : Bool := s.on (Reg.ISL_CFG_prof_src n) && (s.islOwner n).isSome

/-- The profile that a transition beginning now uses. -/
def profFor (s : Chip) (n : Nat) (on : Bool) : Nat :=
  let i := s.island n
  if on then (if s.usesTable n then i.tblOn.getD (s.ownWord n 0x24) else s.ownWord n 0x24)
  else if s.usesTable n then i.tblOff.getD (s.ownWord n 0x28) else s.ownWord n 0x28

/-- Phase 1 is skipped with i1 or t1 of 0, phase 2 with t2 of 0 (R386). -/
def skip1 (p : Nat) : Bool := part p 0 8 == 0 || part p 8 8 == 0
def skip2 (p : Nat) : Bool := part p 24 8 == 0

/-- A gate that has not finished its turn-on, or its turn-off. -/
def turningOn (g : Gate) : Bool := g == .phase1 || g == .phase2 || g == .phase3
def turningOff (g : Gate) : Bool := g == .offPhase1 || g == .offPhase2 || g == .offPhase3

/-- The tick in which a command of the present tick begins phase 1 at an island: the target latency later (R379, R409). -/
def phaseTick (s : Chip) : Nat := s.now + s.get Reg.ISL_CAL_STAT_target / 64

/-- Phase 1 of a turn-on begins. -/
def turnOn (s : Chip) (n : Nat) : Chip :=
  let p := s.profFor n true
  let s := s.modIsl n fun i => { i with
    gate := if skip1 p then (if skip2 p then .phase3 else .phase2) else .phase1, prof := p,
    brokenOff := i.brokenOff || turningOff i.gate, brokenOn := false, startTick := s.phaseTick,
    turnD := if hasBit i.turnedOn 0 then i.turnD else s.now, turnU := if hasBit i.turnedOn 1 then i.turnU else s.now,
    turnedOn := 3, watching := false, useOn := if s.usesTable n then i.entOn else none }
  (s.islTo n 3).runSecond (n / 2)

/-- Phase 1 of a turn-off begins. -/
def turnOff (s : Chip) (n : Nat) : Chip :=
  let p := s.profFor n false
  s.modIsl n fun i => { i with
    gate := if skip1 p then (if skip2 p then .offPhase3 else .offPhase2) else .offPhase1, prof := p,
    offTick := s.phaseTick, brokenOn := i.brokenOn || turningOn i.gate, brokenOff := false,
    useOff := if s.usesTable n then i.entOff else none }

/-- The gate goes off by the off profile where it is not off already. -/
def gateAway (s : Chip) (n : Nat) : Chip :=
  let g := (s.island n).gate
  if g == .on || turningOn g then s.turnOff n else s

/-- An island that a fault finds in READY or ON turns its gate off and goes to FAULT: while a fault of its own stands it is not READY
(R677), and an unassigned one holds its gate off (R415). -/
def islHold (s : Chip) (n : Nat) : Chip :=
  if (s.island n).real = 2 ∨ (s.island n).real = 3 then (s.gateAway n).islTo n 4 else s

/-- The fault turn-off starts (R397). -/
def faultOff (s : Chip) (n : Nat) : Chip :=
  let two := s.ownOn n (Reg.ISL_CFG_tlto_en n)
  s.modIsl n fun i => { i with
    gate := if two then .fault1 else .fault2, watching := false, brokenOn := i.brokenOn || turningOn i.gate,
    brokenOff := i.brokenOff || turningOff i.gate }

/-! ### The leg interlock (R403, R404) -/

/-- The interlock holds an ON command: the partner counts as above its v_il, or its report of less is younger than 20 ns. -/
def mateAbove (s : Chip) (n : Nat) : Bool :=
  let m := mate n
  let st := s.get (Reg.ISL_STAT_state m)
  if st = 7 ∨ (st = 0 ∧ s.on (Reg.ISL_STAT_bs_pending m)) then false
  else !s.on (Reg.ISL_STAT_chan_ok m) || s.on (Reg.ISL_STAT_gate_hi m)
    || (match (s.island m).lowAt with | some t => s.now < t + 4 | none => false)

/-- A hold ends; ISLn_IL shows its length in ns. -/
def unhold (s : Chip) (n : Nat) : Chip :=
  let i := s.island n
  if i.held then
    (s.modIsl n fun i => { i with held := false, conflict := false }).set (Reg.ISL_IL_hold_last n)
      (min 65535 ((s.now - i.heldAt) * 5))
  else s

/-- A released ON command reaches the island (R378): it starts from READY, interrupts a turn-off, ends a leakage check. -/
def onArrives (s : Chip) (n : Nat) : Chip :=
  let s := if (s.island n).real = 6 then s.abortLeak n 1 else s
  let i := s.island n
  if i.real = 2 then s.turnOn n
  else if i.real = 3 ∧ turningOff i.gate then s.turnOn n
  else s

/-- An ON command at the interlock. -/
def commandOn (s : Chip) (n : Nat) : Chip :=
  let s := s.modIsl n fun i => { i with cmd := true, cmdAt := some s.now }
  if (s.island n).real = 7 then s
  else if s.mateAbove n then
    (s.modIsl n fun i => { i with held := true, heldAt := s.now }).count (Reg.ISL_IL_holds n)
  else s.onArrives n

/-- An OFF command; the interlock never holds one. -/
def commandOff (s : Chip) (n : Nat) : Chip :=
  let s := (s.modIsl n fun i => { i with cmd := false, cmdAt := some s.now }).unhold n
  if (s.island n).real = 3 then s.gateAway n else s

/-! ### Profile lookup (R390 to R393) -/

/-- The place of a slice among the phases of its cluster. -/
def phaseIdx (s : Chip) (k n : Nat) : Nat :=
  if s.threeLevel n then outerOf n else ((s.slicesOf k).idxOf? n).getD 3

/-- Table 2 of cluster k is usable (R393). -/
def profOk (s : Chip) (k : Nat) : Bool :=
  s.ldrWord k 2 0 == 0x50465047 && F32.gt (s.ldrWord k 2 8) (s.ldrWord k 2 4)
    && F32.gt (s.ldrWord k 2 16) (s.ldrWord k 2 12)

/-- The switch current of R391 for island n: that of the pass whose compares stand in the shadows. -/
def swCurrent (s : Chip) (k n : Nat) : Nat :=
  match (s.cluster k).cmpI[s.phaseIdx k (n / 2)]? with
  | some i => if n % 2 = 0 then i else F32.neg i
  | none => s.ldrWord k 2 8

/-- The junction temperature of R391. -/
def swTemp (s : Chip) (k n : Nat) : Nat :=
  let src := s.get (Reg.CHM_TJ_SRC_src n)
  if src = 1 ∨ src = 2 then s.get (Reg.CHM_TJ_tj n)
  else if s.ntcOk (n / 2) then s.get (Reg.CHM_M_NTC_t_ntc (n / 2))
  else s.ldrWord k 2 0x14

/-- The nearest of 16 points. -/
def point (x lo hi : Nat) : Nat :=
  let p := F32.round (F32.mul (F32.div (F32.sub x lo) (F32.sub hi lo)) (F32.ofNat 15))
  (max 0 (min 15 p)).toNat

/-- Offset in table 2 of an entry. -/
def entryOff (pos dir i j : Nat) : Nat := 0x40 + 4 * (512 * pos + 256 * dir + 16 * i + j)

/-- ISLn_PROF_ON and ISLn_PROF_OFF of the mirrors. -/
def fixedProf (s : Chip) (n : Nat) : Nat × Nat :=
  (s.regWord (0x41100024 + 0x200 * n), s.regWord (0x41100028 + 0x200 * n))

/-- The entries in use are marked for the ageing rebuild in RUN (chapter 12). -/
def markUsed (s : Chip) (k e : Nat) : Chip :=
  if s.clState k = 2 then
    (s.modAge k fun a => { a with used := if a.used.contains e then a.used else a.used ++ [e] }).showLearn k
  else s

/-- One island's lookup at a reload point; `bad` says that it meets an uncorrectable Larder error. -/
def profIsland (s : Chip) (k n : Nat) (bad : Bool) : Chip :=
  if !s.islUsed n then s
  else
    let i := s.swCurrent k n
    let s := s.modSw n fun w => { w with isw := F32.abs i }
    if !s.usesTable n then s
    else
      let ok := s.profOk k
      let s := s.put (Reg.ISL_STAT_prof_fixed n) (!ok)
      if ok && !bad then
        let c := point i (s.ldrWord k 2 4) (s.ldrWord k 2 8)
        let t := point (s.swTemp k n) (s.ldrWord k 2 12) (s.ldrWord k 2 16)
        let a := entryOff (n % 2) 0 c t
        let b := entryOff (n % 2) 1 c t
        let f := (s.ldrWord k 2 a, s.ldrWord k 2 b)
        let s := (s.markUsed k ((a - 0x40) / 4)).markUsed k ((b - 0x40) / 4)
        s.modIsl n fun x => { x with frame := some f, frameE := some ((a - 0x40) / 4, (b - 0x40) / 4) }
      else
        let f := s.fixedProf n
        let s := s.modIsl n fun x => { x with frame := some f, frameE := none }
        if ok || (s.cluster k).profRec then s
        else
          ((s.modCl k fun c => { c with profRec := true }).put (Reg.ISL_FLAGS_prof_ev n) true).islRecord n 0x021B 0 k

/-- PROFILE_LOOKUP of slice n of cluster k; `bad` is the offset of an uncorrectable error met in table 2. -/
def profLookup (s : Chip) (k n : Nat) (bad : Option Nat) : Chip :=
  if n < 6 then
    let s := match bad with
      | some o => if (s.usesTable (2 * n) || s.usesTable (2 * n + 1)) && s.profOk k then
          s.faultCl 0x0524 3 k k (ldrAddr k 2 (s.ldrAct k 2) + o) else s
      | none => s
    (s.profIsland k (2 * n) bad.isSome).profIsland k (2 * n + 1) bad.isSome
  else s

/-! ### Latency (R381, R382) -/

/-- Fine steps in 4 ns, rounded down: 4 ns is 51.2 steps of 5/64 ns. -/
def match4 : Int := 51

/-- CAL_DRIFT with the signed deviation from the target. -/
def calDrift (s : Chip) (n : Nat) (dev : Int) : Chip :=
  let s := s.sets [(Reg.ISL_STAT_unmatched n, 1), (Reg.ISL_GFLAGS_cal_drift, 1)]
  s.islRecord n 0x021C 0 (unsgn 32 dev)

/-- Raw latency of an island against the target: the trim, or unmatched. -/
def calibrate (s : Chip) (n raw : Nat) : Chip :=
  let target := s.get Reg.ISL_CAL_STAT_target
  let trim := min 255 (target - raw)
  let dev : Int := (raw + trim : Nat) - (target : Int)
  let s := s.sets [(Reg.ISL_CHAN_raw n, raw), (Reg.ISL_CHAN_trim n, trim)]
  if dev.natAbs ≤ match4.natAbs then s.put (Reg.ISL_STAT_unmatched n) false
  else s.calDrift n dev

/-- The first bring-up in which islands reach step 4 sets the target to their largest raw latency. -/
def setTarget (s : Chip) (l : List (Nat × Nat)) : Chip :=
  if l.isEmpty then s
  else if s.on Reg.ISL_CAL_STAT_valid then s
  else s.sets [(Reg.ISL_CAL_STAT_target, (l.map (·.2)).foldl max 0), (Reg.ISL_CAL_STAT_valid, 1)]

/-- Step 4 of several islands of one bring-up. -/
def calibrateAll (s : Chip) (l : List (Nat × Nat)) : Chip :=
  forEach l (fun p t => t.calibrate p.1 p.2) (s.setTarget l)

/-- Islands whose handshake is under way before the end of step 4. -/
def beforeCal (s : Chip) : List Nat :=
  (List.range 12).filter fun n => (s.island n).real == 1 && 1 ≤ (s.island n).hsStep && (s.island n).hsStep ≤ 4

/-- Without a target, the trims of the islands that have ended step 4 wait for the last island of the bring-up. -/
def calibrateDue (s : Chip) : Chip :=
  if s.on Reg.ISL_CAL_STAT_valid || !s.beforeCal.isEmpty then s
  else
    let l := (List.range 12).filter fun m => (s.island m).calDue
    forEach l (fun m t => t.modIsl m fun i => { i with calDue := false })
      (s.calibrateAll (l.map fun m => (m, s.get (Reg.ISL_CHAN_raw m))))

/-- Step 4 of one island has ended. -/
def stepFour (s : Chip) (n raw : Nat) : Chip :=
  let s := s.set (Reg.ISL_CHAN_raw n) raw
  if s.on Reg.ISL_CAL_STAT_valid then s.calibrate n raw
  else (s.modIsl n fun i => { i with calDue := true }).calibrateDue

/-- A handshake under way ends without the island having become READY. -/
def handshakeStop (s : Chip) (n : Nat) : Chip :=
  (s.modIsl n fun i => { i with hsStep := 0, calDue := false }).calibrateDue

/-! ### Handshake (R384) -/

/-- The island holds every mirror register. -/
def mirrorsIn (s : Chip) (n : Nat) : Chip :=
  let s := forEach mirrorOffs (fun o t => t.ownTake n o) s
  let s := s.modIsl n fun i => { i with dirty := [], hs3 := true }
  (s.put (Reg.ISL_STAT_sync n) false).clamp n

/-- ISL_HANDSHAKE_FAIL: every cluster that drives the island enters SAFE; the island stays in STARTING. -/
def handshakeFail (s : Chip) (n : Nat) : Chip :=
  let s := ((s.modIsl n fun i => { i with hsFailed := true, gate := .off }).handshakeStop n).islShow n 1
  let s := s.put Reg.ISL_GFLAGS_hs_fail true
  match s.islOwner n with
  | some k => s.faultCl 0x0E35 3 n k n
  | none => s.record 0x0E35 3 n 7 (n / 6) n

/-- READY: an island with standing faults stays in FAULT (R677). -/
def handshakeDone (s : Chip) (n : Nat) : Chip :=
  let s := s.modIsl n fun i => { i with hsStep := 0, hsFailed := false, doneAt := s.now, lockout := false, gate := .off }
  let s := s.islShow n (s.restState n)
  let s := s.sets [(Reg.ISL_FLAGS_ready_ev n, 1), (Reg.ISL_STAT_chan_ok n, 1), (Reg.ISL_STAT_gate_hi n, 0),
    (Reg.ISL_STAT_bs_pending n, 0)]
  match s.islOwner n with
  | some k => s.tryLeaveSafe k
  | none => s

/-- A whole handshake that succeeds within a start, a late bring-up or a self-test; its latency is calibrated apart. -/
def handshakeWhole (s : Chip) (n : Nat) : Chip := (s.mirrorsIn n).handshakeDone n

/-- The island resets and its mirrors' contents must reach it again (R19). -/
def islandReset (s : Chip) (n : Nat) : Chip :=
  s.modIsl n fun i => { i with
    own := [], tblOn := none, tblOff := none, frame := none, frameE := none, entOn := none, entOff := none, hsStep := 0,
    hs3 := false, calDue := false, watching := false }

/-! ### Mirror registers (R413) -/

/-- Mirror register at an offset of island n's block. -/
def mirrorReg (o : Nat) : Bool :=
  mirrorOffs.contains o

/-- A mirror register was written: it is not acknowledged until the island says so. -/
def mirrorDirty (s : Chip) (n o : Nat) : Chip :=
  let s := s.modIsl n fun i => { i with dirty := (i.dirty.filter fun x => x != o) ++ [o] }
  s.put (Reg.ISL_STAT_sync n) true

/-- The supply mode takes a value (R405, R406). -/
def showSupply (s : Chip) (n : Nat) : Chip :=
  s.put (Reg.ISL_STAT_bs_pending n) (s.on (Reg.ISL_CFG_supply n) && (s.island n).real == 0)

/-- BOOT is accepted only for an even island whose odd partner is in ISO mode (R405). -/
def bootOk (s : Chip) (n : Nat) : Bool := n % 2 == 0 && !s.on (Reg.ISL_CFG_supply (n + 1))

/-- An accepted write of ISLn_CFG. -/
def islCfgDone (s : Chip) (n : Nat) : Chip :=
  let s := if n % 2 = 1 && !s.on (Reg.ISL_CFG_ntc_en n) then
      (s.sets [(Reg.ISL_STAT_ntc_ok n, 0), (Reg.ISL_NTC_ohms n, 0)]).showNtc (n / 2) else s
  let s := if s.on (Reg.ISL_CFG_prof_src n) then s else s.put (Reg.ISL_STAT_prof_fixed n) false
  (s.showSupply n).mirrorDirty n 0

/-- A word written to a mirror register of island n. -/
def mirrorSet (s : Chip) (n o d : Nat) : Chip :=
  let a := 0x41100000 + 0x200 * n + o
  if o = 0 then
    if !s.rwlOpen a then s.refuse a
    else if d % 2 = 1 && !s.bootOk n then s.refuse a
    else (s.genericWrite a d).islCfgDone n
  else if o = 0x24 ∨ o = 0x28 then (s.genericWrite a d).mirrorDirty n o
  else if s.rwlOpen a then (s.genericWrite a d).mirrorDirty n o
  else s.refuse a

/-- The oldest unacknowledged word reaches the island and is acknowledged. -/
def mirrorAck (s : Chip) (n : Nat) : Chip :=
  let i := s.island n
  if i.real = 0 ∨ i.real = 1 ∨ i.real = 5 ∨ i.real = 7 then s
  else
    match i.dirty with
    | [] => s
    | o :: l =>
      let s := ((s.ownTake n o).modIsl n fun i => { i with dirty := l }).clamp n
      s.put (Reg.ISL_STAT_sync n) !l.isEmpty

/-- ISLn_CTL.ureset once accepted: the mirrors return to their reset values and a new handshake runs. Standing faults and
the latest code stay. -/
def islUnitReset (s : Chip) (n : Nat) : Chip :=
  let b := 0x41100000 + 0x200 * n
  let code := s.get (Reg.ISL_FAULT_code n)
  let st := s.get (Reg.ISL_STAT_state n)
  let s := ((s.resetRange b (b + 0x1FF)).set (Reg.ISL_FAULT_code n) code).set (Reg.ISL_STAT_state n) st
  if st = 7 then s.modIsl n fun i => { i with dirty := [] }
  else
    let s := (s.gateAway n).islandReset n
    let s := s.modIsl n fun i => { i with dirty := [], opened := !s.retired, hsFailed := false, clears := [], turnedOn := 0 }
    let s := if (s.island n).real = 0 then s else s.islShow n 1
    (s.calibrateDue.showNtc (n / 2)).showFaults n

/-- Automatic clears of island n within the preceding second (R400). -/
def clearsUsed (s : Chip) (n : Nat) : Nat := ((s.island n).clears.filter fun t => s.now < t + ms 1000).length

/-- The wait of Table 10-7 for a standing fault is over: from the fault, or from the handshake's completion. -/
def clearDue (s : Chip) (n : Nat) (x : Standing) : Bool :=
  if x.code = 0x0210 then x.since + ms (s.get (Reg.ISL_RETRY_desat_wait n)) ≤ s.now
  else if x.code = 0x0213 then true
  else x.since ≤ (s.island n).doneAt && (s.island n).doneAt + ms (s.get (Reg.ISL_RETRY_uv_wait n)) ≤ s.now

end Sys2Proof.Machine.Chip
end

