-- ==== Sys2Proof/Machine/SliceOps.lean ====
section
/-! DEFINITION. Slices at work (chapter 09): refused combinations, synchronisation, valley and peak ticks. -/

namespace Sys2Proof.Machine.Chip

/-! ### Refused combinations (R353, R354, R362) -/

/-- A SAFE fault of a slice: its cluster falls, an unassigned slice only holds its outputs off. -/
def sliceFault (s : Chip) (n code data : Nat) : Chip :=
  match s.sliceOwner n with
  | some k => s.faultCl code 2 n k data
  | none => s.record code 2 n 7 (sliceRgn n) data

/-- A combination that stands while the gates are enabled holds both outputs off and is recorded. -/
def shootCheck (s : Chip) (n : Nat) : Chip :=
  let r := s.combination n
  if r = 0 || !s.gateEn n || (s.sl n).held then s
  else
    let s := ((s.modSlice n fun c => { c with held := true }).put (Reg.PWM_S_FLAGS_shoot n) true).outputs n
    s.sliceFault n 0x0110 (r + 256 * (s.sl n).forceH + 1024 * (s.sl n).forceL)

/-- A three-level phase outside Table 09-9 turns all four outputs off. -/
def phaseCheck (s : Chip) (n : Nat) : Chip :=
  if s.badPhase n && !(s.sl n).held then
    let p := outerOf n
    let st := s.get (Reg.PWM_TL_STAT_state p)
    let s := forEach [p, p + 3] (fun m t => (t.modSlice m fun c => { c with held := true }).put (Reg.PWM_S_FLAGS_tl_state m) true) s
    let s := (s.setBitOf Reg.PWM_TL_STAT_bad p).outputs p
    s.sliceFault p 0x0111 (p + 16 * st)
  else s

/-- Both checks after an event at a slice. -/
def checkSlice (s : Chip) (n : Nat) : Chip := (s.shootCheck n).phaseCheck n

/-- A held combination has gone: for an unassigned slice with the flag cleared too, for an assigned one with its cluster no longer
holding the fault (R354). -/
def holdGone (s : Chip) (n : Nat) : Bool :=
  let done := match s.sliceOwner n with
    | some k => !(s.cluster k).faults.any fun x => x.code = 0x0110 || x.code = 0x0111
    | none => !s.on (Reg.PWM_S_FLAGS_shoot n)
  done && s.combination n == 0 && !s.badPhase n

/-- The first tick in which a held combination has gone ends the hold; the outputs wait for their reload point. -/
def holdWatch (s : Chip) (n : Nat) : Chip :=
  let c := s.sl n
  if !c.held || c.freeAt.isSome == s.holdGone n then s
  else s.modSlice n fun c => { c with freeAt := if s.holdGone n then some s.fineNow else none }

/-- A held combination that has gone is let go at a reload point; dead times count from the end of the hold (R354, R366). -/
def releaseHeld (s : Chip) (n : Nat) : Chip :=
  if (s.sl n).held && s.holdGone n then
    (s.modSlice n fun c => { c with held := false }).restartOutputs n ((s.sl n).freeAt.getD s.fineNow)
  else s

/-! ### High impedance (R367 to R369, R676) -/

/-- PWM_Sn_STAT.hiz of an expansion slice at a tick in which it may begin to drive. -/
def showHiz (s : Chip) (n : Nat) : Chip :=
  if n < 6 then s
  else
    let off := s.on Reg.PWM_XHIZ_hiz || (s.region (sliceRgn n)).inReset
      || ((s.sliceOwner n).isNone && !s.on (Reg.PWM_S_STAT_running n))
    s.put (Reg.PWM_S_STAT_hiz n) off

/-- Every expansion output goes to high impedance. -/
def allHiz (s : Chip) : Chip := forEach (List.range 16) (fun n t => if n < 6 then t else t.put (Reg.PWM_S_STAT_hiz n) true) s

/-- FLT_N reads low (R368, R425): every expansion output high impedance, and SAFE for every cluster of type 1 to 3. -/
def fltDemand (s : Chip) : Chip :=
  let s := (s.sets [(Reg.PWM_XHIZ_hiz, 1), (Reg.PWM_XHIZ_flt_now, 1)]).allHiz
  let s := s.firstNote Reg.PWM_GFLAGS_flt_ev 0x0116 0 0
  let s := s.sets [(Reg.SAFE_STAT_flt_low, 1), (Reg.SAFE_FLAGS_flt_ev, 1)]
  s.faultAll 0x0712 2 0 s.motorClusters 0

/-! ### Synchronised slices (R334) -/

/-- Slice n asks to follow another slice. -/
def wantsSync (s : Chip) (n : Nat) : Bool := (s.sliceOwner n).isNone && s.on (Reg.PWM_S_SYNC_en n)

/-- The synchronisation of slice n is refused. -/
def syncRefused (s : Chip) (n : Nat) : Bool :=
  let src := s.get (Reg.PWM_S_SYNC_src n)
  src == n || s.wantsSync src || !s.on (Reg.PWM_S_STAT_running src)

/-- Slice n follows its source, or is refused: it stops at its next valley tick and SYNC_BAD is recorded. -/
def syncCheck (s : Chip) (n : Nat) : Chip :=
  if !s.wantsSync n then s.modSlice n fun c => { c with synced := false }
  else if s.syncRefused n then
    if s.on (Reg.PWM_S_STAT_running n) && !(s.sl n).stopping then
      let s := s.modSlice n fun c => { c with synced := false, stopping := true }
      (s.put (Reg.PWM_S_FLAGS_sync_bad n) true).record 0x0117 0 n 7 (sliceRgn n) (s.get (Reg.PWM_S_SYNC_src n))
    else s.modSlice n fun c => { c with synced := false }
  else s.modSlice n fun c => { c with synced := true }

/-- The followers of a slice whose carrier has stopped. -/
def syncFollowers (s : Chip) (n : Nat) : Chip :=
  forEach (List.range 16) (fun m t => if t.wantsSync m && t.get (Reg.PWM_S_SYNC_src m) = n then t.syncCheck m else t) s

/-! ### Reload points -/

/-- The slice reloads at its peak as well: its carrier's dbl. -/
def dblSlice (s : Chip) (n : Nat) : Bool := s.on (Reg.PWM_S_CFG_dbl (s.carrierOf n))

/-- The code of R209 for slice n of a block-commutated cluster: the delivered Hall state's entry for its phase; all off
without FCk_BCM_CTL.en. -/
def bcmCode (s : Chip) (n : Nat) : Nat :=
  match s.sliceOwner n with
  | some k =>
    match s.posOf k with
    | some p =>
      let h := s.get (Reg.POS_STAT_hall p)
      let e := if h < 4 then s.get (Reg.FC_BCM_TBL0_state k h) else s.get (Reg.FC_BCM_TBL1_state k (h - 4))
      let c := e / 4 ^ ((s.slicesOf k).findIdx (· = n)) % 4
      if h = 0 ∨ h = 7 ∨ !s.on (Reg.FC_BCM_CTL_en k) then 0
      else if s.on (Reg.FC_BCM_CTL_rev k) then (if c = 1 then 2 else if c = 2 then 1 else 0)
      else if c = 3 then 0 else c
    | none => 0
  | none => 0

/-- A new code acts from the first tick after the Hall state arrives, without the minimum-pulse rules, whose widths belong to the
carrier (R210, R363). -/
def bcmTick (s : Chip) (n : Nat) : Chip :=
  let c := s.bcmCode n
  if (s.sl n).code = c then s
  else ((s.modSlice n fun x => { x with code := c, rawH := c == 1 && x.pulse, rawL := c == 2 }).effEdge n s.fineNow false).checkSlice n

/-- The compare of a block-commutation duty (R363). -/
def bcmCompare (s : Chip) (n : Nat) : Nat :=
  match s.sliceOwner n with
  | some k => s.halfFine n - s.get (Reg.FC_BCM_CTL_duty k) * s.halfFine n / 65536
  | none => s.halfFine n

/-- The copy at a reload point, block commutation included. -/
def takeShadows (s : Chip) (n : Nat) (peak : Bool) : Chip :=
  let s := s.copyShadows n peak (s.dblSlice n)
  let s := if s.bcmSlice n then
      let c := s.bcmCompare n
      (s.set (Reg.PWM_S_ACTA_cmpa n) c).modSlice n fun x => { x with
        cup := if peak then x.cup else c, cdn := if peak || !s.dblSlice n then c else x.cdn }
    else s
  s.modSlice n fun c => { c with skipped := 0, holdRec := false, reloadAt := some s.now }

/-- A reload point skipped under PWM_RELOAD_HOLD (R340, R341). -/
def skipReload (s : Chip) (n : Nat) : Chip :=
  let k := (s.sl n).skipped + 1
  let s := s.modSlice n fun c => { c with skipped := k }
  if k ≥ 16 && !(s.sl n).holdRec then
    let s := (s.modSlice n fun c => { c with holdRec := true }).put (Reg.PWM_S_FLAGS_hold_long n) true
    s.record 0x0115 0 n ((s.sliceOwner n).getD 7) (sliceRgn n) (s.get Reg.PWM_RELOAD_HOLD_v)
  else s

/-- The gates of a cluster that has started are enabled at the first reload point taken (R346). -/
def startGate (s : Chip) (n : Nat) : Chip :=
  match s.sliceOwner n with
  | some k => if (s.cluster k).startGates && s.switching k then s.setGate n true else s
  | none => s

/-- The present tick is a period boundary of cluster k: its lead slice's running carrier stands at its valley. -/
def atBoundary (s : Chip) (k : Nat) : Bool :=
  match s.leadSlice k with
  | some l => s.on (Reg.PWM_S_STAT_running l) && (s.sl l).valleyAt == some s.now
  | none => false

/-- A reload point of slice n: the copy unless its hold bit stood at the tick's start, gates, the end of an override (R338 to R340,
R366). -/
def reloadPoint (s : Chip) (n : Nat) (peak : Bool) : Chip :=
  let hold := if s.pwmG.holdAt == some s.now then s.pwmG.holdOld else s.get Reg.PWM_RELOAD_HOLD_v
  let s := if hasBit hold n then s.skipReload n
    else (s.takeShadows n peak).startGate n
  let late := (s.sl n).oldAt == some s.now && (s.sl n).old.any fun p => p.1 % 0x100 != 4
  let s := if late then s.put (Reg.PWM_S_STAT_late_write n) true else s
  let s := s.releaseHeld n
  if (s.sl n).ovEnd && s.ovr n == 0 then s.restartOutputs n ((s.sl n).freeAt.getD s.fineNow) else s

/-- The raw levels at the start of the up half and of the down half (R335, R336, R363). -/
def rawAt (s : Chip) (n : Nat) (peak : Bool) : Chip :=
  let t := s.fineValley n + (if peak then s.halfFine n else 0)
  let (h, l) := s.rawOf n t
  (s.modSlice n fun x => { x with pulse := if peak then s.cDn n < s.halfFine n else s.cUp n == 0 }).rawLevels n t h l

/-- The fine time of the raw edge of slice n in its present half (R335, R336): a rise at C_up, a fall at 2·PER·64 - C_dn. -/
def edgeTime (s : Chip) (n : Nat) (low active : Bool) : Nat :=
  let up := if low then s.cLow n else s.cUp n
  let dn := if low then s.cLow n else s.cDn n
  s.fineValley n + (if active then up else 2 * s.halfFine n - dn)

/-- A raw edge of slice n by the end of the present tick: a rise belongs to the up half, a fall to the down half. The low raw level
has edges of its own in independent mode only. -/
def rawEdge (s : Chip) (n : Nat) (low active : Bool) : Chip :=
  let x := s.sl n
  let up := s.get (Reg.PWM_S_CNT_half n) == 0
  let bcm := s.bcmSlice n
  let t := s.edgeTime n low active
  if !s.on (Reg.PWM_S_STAT_running n) || up != active || (low && (bcm || !s.indep n)) || s.fineEnd < t then s
  else if bcm then
    ((s.modSlice n fun x => { x with pulse := active }).rawLevels n t (x.code == 1 && active) (x.code == 2)).checkSlice n
  else
    let h := if low then x.rawH else active
    let l := if low then active else if s.indep n then x.rawL else !active
    (s.rawLevels n t h l).checkSlice n

/-- The valley or the peak tick of the running carrier of slice n has come: a period or half of one after its latest valley tick
(R329), or the offset of R334 after the followed slice's. -/
def reloadDue (s : Chip) (n : Nat) (peak : Bool) : Bool :=
  match (s.sl n).valleyAt with
  | none => true
  | some v =>
    if peak then s.get (Reg.PWM_S_CNT_half n) == 0 && v + s.perOf n ≤ s.now
    else if (s.sliceOwner n).isNone && (s.sl n).synced then
      let w := (s.sl (s.carrierOf n)).valleyAt.getD 0
      v != s.now && (s.now - w) % (2 * s.perOf n) == s.get (Reg.PWM_S_SYNC_phase n) % (2 * s.perOf n)
    else v + 2 * s.perOf n ≤ s.now

/-- The carrier's own part of a valley tick: flags, counts, PER and taps in force, the latched error (R350). -/
def valleyCarrier (s : Chip) (n : Nat) : Chip :=
  let s := s.accrue n s.fineNow
  let s := if s.get (Reg.PWM_S_CNT_half n) = 1 then s.count (Reg.PWM_S_CNT_periods n) else s
  let e := (s.sl n).verr
  let s := s.sets [(Reg.PWM_S_FLAGS_valley_ev n, 1), (Reg.PWM_S_CNT_half n, 0), (Reg.PWM_S_CNT_cnt n, 0),
    (Reg.PWM_S_VSERR_vserr n, unsgn 32 e)]
  s.modSlice n fun c => { c with
    verr := 0, valleyAt := some s.now, per := s.nextPer n, taps := if s.on Reg.PWM_CAL_valid then s.get Reg.PWM_CAL_taps else c.taps }

/-- The valley tick of slice n: it ends the last period of a carrier that stops. -/
def valleyTick (s : Chip) (n : Nat) : Chip :=
  let s := s.valleyCarrier n
  if (s.sl n).stopping then ((s.stopCarrier n).syncFollowers n).showHiz n
  else
    let s := (s.syncCheck n).reloadPoint n false
    ((s.rawAt n false).showHiz n).checkSlice n

/-- The peak tick of slice n; it is a reload point in double update. -/
def peakTick (s : Chip) (n : Nat) : Chip :=
  let s := s.sets [(Reg.PWM_S_FLAGS_peak_ev n, 1), (Reg.PWM_S_CNT_half n, 1), (Reg.PWM_S_CNT_cnt n, s.perOf n)]
  let s := if s.dblSlice n then s.reloadPoint n true else s
  (s.rawAt n true).checkSlice n

/-- A carrier starts with a valley tick, a reload point (R332, R333); a new calibration code is in force from it (R342). One whose lead
runs already, in the other region of the coupled topology, joins it (R331). -/
def startSlice (s : Chip) (n : Nat) : Chip :=
  let s := s.modSlice n fun c => { c with starting := false, taps := if s.on Reg.PWM_CAL_valid then s.get Reg.PWM_CAL_taps else c.taps }
  let lead := s.sl (s.timerOf n)
  if s.timerOf n != n && lead.valleyAt.isSome && lead.valleyAt != some s.now then
    (((s.joinCarrier n).rawStart n).showHiz n).checkSlice n
  else
    let s := (s.startCarrier n).syncCheck n
    let s := if (s.sliceOwner n).isNone then s.setGate n true else s
    let s := (s.put (Reg.PWM_S_FLAGS_valley_ev n) true).reloadPoint n false
    ((s.rawStart n).showHiz n).checkSlice n

/-- PWM_Sn_CTL.run of an unassigned slice: its carrier starts in the next tick (R333). A slice whose region is in reset stays in reset
(R372). -/
def sliceRun (s : Chip) (n : Nat) : Chip :=
  if (s.sliceOwner n).isNone && !(s.region (sliceRgn n)).inReset && !s.on (Reg.PWM_S_STAT_running n) then
    s.modSlice n fun c => { c with starting := true }
  else s

/-- PWM_Sn_CTL.stop of an unassigned slice; one whose carrier is to start runs exactly one period. -/
def sliceStop (s : Chip) (n : Nat) : Chip :=
  if (s.sliceOwner n).isNone && (s.on (Reg.PWM_S_STAT_running n) || (s.sl n).starting) then
    s.modSlice n fun c => { c with stopping := true }
  else s

/-- A carrier that is to start does; a stop asked with the start stands. -/
def startDue (s : Chip) (n : Nat) : Chip :=
  let c := s.sl n
  if c.starting then (s.startSlice n).modSlice n fun x => { x with stopping := x.stopping || c.stopping } else s

/-- A force written in an earlier tick comes into force (R352). An output forced off, and one that the end of a force leaves with an
inactive level, falls at once, whatever kept it on; one forced on, or left active and off, rises after its dead time, whatever
kept it off. -/
def forceDue (s : Chip) (n : Nat) : Chip :=
  let h := s.get (Reg.PWM_S_FORCE_fh n)
  let l := s.get (Reg.PWM_S_FORCE_fl n)
  if (s.sl n).forceH = h ∧ (s.sl n).forceL = l then s
  else
    let t := s.fineNow
    let oh := s.fh n
    let ol := s.fl n
    let s := (s.accrue n t).modSlice n fun c => { c with forceH := h, forceL := l }
    let compl := !s.indep n
    let ended := (oh != 0 && s.fh n == 0) || (ol != 0 && s.fl n == 0)
    let eh := forced compl (s.fh n) (s.fl n) (s.sl n).rawH
    let el := forced compl (s.fl n) (s.fh n) (s.sl n).rawL
    let s := if el then s else s.fallL n (s.fl n == 1 || ended)
    let s := if eh then s else s.fallH n (s.fh n == 1 || ended)
    let s := s.modSlice n fun c => { c with
      effH := eh, effL := el, skipH := c.skipH && !eh, skipL := c.skipL && !el, endH := c.endH && !eh, endL := c.endL && !el,
      refOn := if eh then some (c.refOn.getD (if compl then t + s.dth n else t)) else none }
    let free := !(s.sl n).endH && !(s.sl n).endL && !(s.sl n).refresh
    let s := if eh && !(s.sl n).onH && !(s.sl n).waitH && free then s.riseH n t else s
    let s := if el && !(s.sl n).onL && !(s.sl n).waitL && free then s.riseL n t else s
    ((s.dropGates n).outputs n).checkSlice n

/-- What a new tick brings to the slices: carriers that start together, those that follow another slice after it, block-commutation
codes, forces, and the ends of held combinations. -/
def sliceTick (s : Chip) : Chip :=
  let l := List.range 16
  let s := forEach l (fun n t => if t.wantsSync n then t else t.startDue n) s
  let s := forEach l (fun n t => t.startDue n) s
  forEach l (fun n t => (((if t.bcmSlice n then t.bcmTick n else t).forceDue n).holdWatch n)) s

/-- Gates and outputs of a slice whose registers have just changed. -/
def recheck (s : Chip) (n : Nat) : Chip := (s.effEdge n s.fineNow false).checkSlice n

/-! ### Writes to slice registers -/

/-- PWM_RELOAD_HOLD is to be written: what it held at the start of the tick is kept (Table 09-11). -/
def keepHold (s : Chip) : Chip :=
  if s.pwmG.holdAt == some s.now then s
  else { s with pwmG := { s.pwmG with holdAt := some s.now, holdOld := s.get Reg.PWM_RELOAD_HOLD_v } }

/-- A word written to PWM_Sn_FLOOR (R355). -/
def floorSet (s : Chip) (n d : Nat) : Chip :=
  let a := 0x4100001C + 0x100 * n
  if s.on (Reg.PWM_S_STAT_floor_lk n) || !s.rwlOpen a then s.refuse a
  else ((s.set (Reg.PWM_S_FLOOR_v n) d).put (Reg.PWM_S_STAT_floor_lk n) true).checkSlice n

/-- A word written to another slice register: slices 0 to 5 keep leg set; an RWS write in a reload tick sets late_write
(R339); a change of synchronisation is judged (R334). -/
def sliceSet (s : Chip) (n o d : Nat) : Chip :=
  let rws := o == 8 || o == 12 || (0x20 ≤ o && o < 0x30)
  let s := if rws || o == 4 then s.keepOld n (0x41000000 + 0x100 * n + o) else s
  let s := s.genericWrite (0x41000000 + 0x100 * n + o) d
  let s := if o = 0 && n < 6 then s.put (Reg.PWM_S_CFG_leg n) true else s
  let s := if rws && (s.sl n).reloadAt == some s.now then s.put (Reg.PWM_S_STAT_late_write n) true else s
  let s := if o = 0x38 then s.syncCheck n else s
  if o < 0x20 then s.recheck n else s

/-- A unit reset of slice n (Table 01-3); PWM_Sn_FLOOR, floor_lk and the override of stage 7 stay. The compares in
force take their reset values with the shadows, and in a reload tick the active registers show them (R338); else those read 0
(Table 09-20). -/
def sliceUnitReset (s : Chip) (n : Nat) : Chip :=
  let b := 0x41000000 + 0x100 * n
  let fl := s.get (Reg.PWM_S_FLOOR_v n)
  let lk := s.get (Reg.PWM_S_STAT_floor_lk n)
  let hz := s.get (Reg.PWM_S_STAT_hiz n)
  let ov := s.get (Reg.PWM_S_STAT_ovr n)
  let run := s.on (Reg.PWM_S_STAT_running n) && (s.sliceOwner n).isSome
  let c := s.sl n
  let s := (s.resetRange b (b + 0xFF)).sets [(Reg.PWM_S_FLOOR_v n, fl), (Reg.PWM_S_STAT_floor_lk n, lk),
    (Reg.PWM_S_STAT_hiz n, if run || n < 6 then hz else 1), (Reg.PWM_S_STAT_ovr n, ov), (Reg.PWM_S_STAT_running n, b2n run)]
  let s := s.modSlice n fun _ => {
    accAt := c.accAt, chgH := c.chgH, chgL := c.chgL, edgeH := c.edgeH, edgeL := c.edgeL, per := c.per, ovH := c.ovH, ovL := c.ovL,
    ovEnd := c.ovEnd, freeAt := c.freeAt, ovDt := c.ovDt, stopping := c.stopping && run, reloadAt := if run then c.reloadAt else none,
    valleyAt := if run then c.valleyAt else none }
  let s := if run && c.reloadAt == some s.now then s.copyShadows n false false else s
  (s.outputs n).syncFollowers n

end Sys2Proof.Machine.Chip
end

