-- ==== Sys2Proof/Machine/ResetOps.lean ====
section
/-! DEFINITION. Requester codes and semaphores (R528, R530, R544); image words in registers (R13, R146); the resets of a
cluster, a region and the control die (R15 to R19, R123, R124, R542). -/

namespace Sys2Proof.Machine

/-- Requester codes (R544). -/
def reqCode : Requester → Nat
  | .safety => 0
  | .hart c => c + 1
  | .fabric p => 8 + p
  | .host => 40
  | .engine => 41
  | .ring => 42
  | .twin => 43

/-- Ranks of Table 01-10; the Hallway engine, which the table does not name, comes last (log entry 16). -/
def reqRank : Requester → Nat
  | .safety => 1
  | .hart c => c + 2
  | .fabric p => 6 + p
  | .host => 40
  | .ring => 41
  | .twin => 42
  | .engine => 43

/-- A requester that is a core of region g. -/
def coreOf (g : Nat) : Requester → Bool
  | .hart c => c.val / 2 == g
  | _ => false

namespace Chip

/-! ### Semaphores (Table 13-8) -/

def semOwner (s : Chip) (n : Nat) : Nat := s.get (Reg.SEM_OWN_owner (n / 4) (n % 4))
def semSet (s : Chip) (n code : Nat) : Chip := s.set (Reg.SEM_OWN_owner (n / 4) (n % 4)) code

/-- The highest-ranked waiter of a semaphore. -/
def semBest (s : Chip) (n : Nat) : Option Requester :=
  (s.sem.waits.filter fun w => w.1 = n).foldl (fun b w =>
    match b with
    | none => some w.2
    | some r => if reqRank w.2 < reqRank r then some w.2 else b) none

/-- A semaphore is released and passes to the highest-ranked waiter; a core granted from the queue gets SEM_GRANT. -/
def semRelease (s : Chip) (n : Nat) : Chip :=
  match s.semBest n with
  | none => s.semSet n 0
  | some r =>
    let s := s.semSet n (reqCode r)
    let s := { s with sem := { s.sem with waits := s.sem.waits.filter fun w => !(w.1 = n && w.2 = r) } }
    match r with
    | .hart c => s.privateSrc c 7
    | _ => s

/-- A region's cores give up their semaphores and waits (R530). -/
def semRegion (s : Chip) (g : Nat) : Chip :=
  let s := { s with sem := { s.sem with waits := s.sem.waits.filter fun w => !coreOf g w.2 } }
  forEach (List.range 32) (fun n t =>
    let o := t.semOwner n
    if o = 2 * g + 1 ∨ o = 2 * g + 2 then t.semRelease n else t) s

/-! ### Image words in registers -/

/-- A configuration word from the image in the register at an address, with what the register's block makes of it. -/
def configWrite (s : Chip) (a d : Nat) : Chip :=
  let o := a % 0x100000
  if a / 0x100000 = 0x410 && o < 0x1000 then
    let n := o / 0x100
    if o % 0x100 = 0x1C then
      if s.on (Reg.PWM_S_STAT_floor_lk n) then s
      else (s.configWord a d).put (Reg.PWM_S_STAT_floor_lk n) true
    else
      let s := s.configWord a d
      let s := if o % 0x100 = 0 && n < 6 then s.put (Reg.PWM_S_CFG_leg n) true else s
      if o % 0x100 = 0x38 then s.syncCheck n else s
  else if a / 0x100000 = 0x411 && o < 0x1800 then
    let n := o / 0x200
    let r := o % 0x200
    if r = 0 then (if d % 2 = 1 && !s.bootOk n then s.refuse a else (s.configWord a d).islCfgDone n)
    else if mirrorReg r then (s.configWord a d).mirrorDirty n r
    else s.configWord a d
  else if a = 0x41101804 then (s.configWord a d).xfmrUpdate
  else if a = 0x41200000 then s.refWrite d true
  else if a = 0x41200200 then forEach (List.range 4) (fun c t => t.sdClkSet c d) s
  else if a / 0x100000 = 0x412 && 0x100 ≤ o && o < 0x180 && o % 8 = 0 then s.sarCfgWrite ((o - 0x100) / 8) d
  else if a / 0x100000 = 0x412 && 0x1000 ≤ o && o < 0x1800 && o % 0x200 < 0x70 then
    (s.configWord a d).slotWritten ((o - 0x1000) / 0x200) (o % 0x200 / 4)
  else if a / 0x100000 = 0x412 && 0x1000 ≤ o && o < 0x1800 && o % 0x200 = 0x118 then
    (s.configWord a d).freezeDone ((o - 0x1000) / 0x200)
  else if a / 0x100000 = 0x412 && 0x500 ≤ o && o < 0x580 && o % 8 = 0 then (s.configWord a d).cmpCfgDone ((o - 0x500) / 8)
  else if a / 0x100000 = 0x413 && o % 0x100 = 0 then s.posCfgSet (o / 0x100) d
  else if a / 0x100000 = 0x400 && 0x2040 ≤ o % 0x10000 && o % 0x10000 < 0x20A0 && o % 0x10 = 0 then
    (s.configWord a d).listWritten (o / 0x10000) ((o % 0x10000 - 0x2040) / 0x10)
  else if a / 0x100000 = 0x400 && 0x2000 ≤ o % 0x10000 && coefWord (o % 0x10000 - 0x2000) && !F32.isFinite d then
    s.coefRefused (o / 0x10000) (o % 0x10000 - 0x2000)
  else if a / 0x100000 = 0x400 && 0x2100 ≤ o % 0x10000 && o % 0x10000 < 0x2800 then
    (s.configWord a d).staleCrc (o / 0x10000)
  else s.configWord a d

/-- The words of a UNITCFG record whose address a test selects. -/
def applyRec (p : Nat → Bool) : Nat → List Nat → Chip → Chip
  | _, [], s => s
  | a, d :: l, s => applyRec p (a + 4) l (if p a then s.configWrite a d else s)

/-- The UNITCFG words whose address a test selects. -/
def applyUnitcfg (s : Chip) (p : Nat → Bool) : Chip := forEach s.img.unitcfg (fun u t => applyRec p u.addr u.words t) s

/-! ### Which addresses a cluster and a region own -/

/-- The register window of cluster k. -/
def inCluster (k a : Nat) : Bool := 0x40000000 + 0x10000 * k ≤ a && a < 0x40010000 + 0x10000 * k

/-- The registers of slice n. -/
def inSlice (n a : Nat) : Bool := 0x41000000 + 0x100 * n ≤ a && a < 0x41000100 + 0x100 * n

/-- Registers that a cluster owns in the island, converter and position blocks (R15, R413, R267, R269). -/
def inOwned (s : Chip) (k a : Nat) : Bool :=
  let u := s.unitAt a
  (a / 0x100000 == 0x411 || a / 0x100000 == 0x412 || a / 0x100000 == 0x413) && u.cluster == k

/-- Registers reloaded by a reset of cluster k. -/
def inReload (s : Chip) (k a : Nat) : Bool :=
  inCluster k a || (s.slicesOf k).any (fun n => inSlice n a)

/-- The addresses of the words that cluster k owns in the island, converter and position blocks. R15 does not say whether the fields
of a modulator clock that belong to the cluster are reloaded with them: the model keeps SD_CLK_CFG, a register of the whole block
(DESIGN CHOICE, log entry 55). -/
def ownedAddrs (s : Chip) (k : Nat) : List Nat :=
  ((s.islandsOf k).flatMap fun n => (List.range 128).map fun i => 0x41100000 + 0x200 * n + 4 * i)
    ++ ((List.range 1024).map fun i => 0x41200000 + 4 * i).filter (fun a => s.inOwned k a)
    ++ ((List.range 128).map fun i => 0x41201000 + 0x200 * k + 4 * i)
    ++ match s.posOf k with
      | some n => (List.range 64).map fun i => 0x41300000 + 0x100 * n + 4 * i
      | none => []

/-- A register with a field that the image can set. -/
def imageField (a : Nat) : Bool :=
  ((fieldsAt a).getD []).any fun f => f.acc = .rw || f.acc = .rws || f.acc = .rwl || f.acc = .rwi || f.acc = .rwe

/-- The image's word for a register: that of the last record that names it, else its reset value (R13). -/
def imageWord (s : Chip) (a : Nat) : Nat :=
  s.img.unitcfg.foldl (fun w u => if u.addr ≤ a then u.words.getD ((a - u.addr) / 4) w else w) (resetWord a)

/-- The registers that cluster k owns in the island, converter and position blocks are reloaded from the image (R15). -/
def reloadOwned (s : Chip) (k : Nat) : Chip :=
  forEach ((s.ownedAddrs k).filter imageField) (fun a t => t.configWrite a (t.imageWord a)) s

/-- Registers of region g (R16): its clusters, its slices. -/
def inRegion (g a : Nat) : Bool :=
  inCluster (2 * g) a || inCluster (2 * g + 1) a || (List.range 16).any fun n => sliceRgn n == g && inSlice n a

/-! ### Values that the image gives registers outside UNITCFG -/

/-- Values taken from the motor record of cluster k in its own units (Table 05-13). -/
def motorWords (s : Chip) (k : Nat) : Chip :=
  (s.set (Reg.OBS_HFI_AMP_v k) (s.motor k).hfiAmp).set (Reg.FC_WDIS_v k) (s.motor k).idDis

/-- Values taken from the image in the safety block (chapter 11). -/
def safetyWords (s : Chip) (k : Nat) : Chip :=
  s.sets [(Reg.SAFE_C_KE_v k, (s.motor k).keNom),
    (Reg.SAFE_C_TQ_TOL_v k, F32.mul (F32.ratio 15 100) (s.motor k).tRated),
    (Reg.SAFE_C_CFG_safety k, bitOf (s.topo k).policy 0)]

/-! ### Cluster reset (R15) -/

/-- The sequencer, observer, engine and field-control registers at their reset values; the latest fault code, the state and
what the safety logic shows stay. -/
def clusterRegs (s : Chip) (k : Nat) : Chip :=
  let b := 0x40000000 + 0x10000 * k
  let keep := [Reg.SEQ_FAULT_code k, Reg.SEQ_FAULT_class k, Reg.SEQ_STAT_state k, Reg.SEQ_STAT_held k].map
    fun f => (f, s.get f)
  let bcm := (s.topo k).type == 5
  ((s.resetRange b (b + 0xFFFF)).sets keep).put (Reg.SEQ_STAT_bcm k) bcm

/-- The hidden state of a cluster that outlives its reset: outstanding faults, the latest VDC results and the channel of
the safety logic. -/
def clusterHidden (s : Chip) (k : Nat) : Chip :=
  let s := s.modCl k fun c => {
    faults := c.faults, blockedRec := c.blockedRec, unknownRec := c.unknownRec, diodeRun := c.diodeRun,
    diodeSeen := c.diodeSeen, vdc := c.vdc, selAt := c.selAt, tqSum := c.tqSum, tqN := c.tqN, tqBad := c.tqBad, slsRun := c.slsRun,
    ackMiss := c.ackMiss, ss1At := c.ss1At, msgAt := c.msgAt, msgLost := c.msgLost, stoRel := c.stoRel,
    enteredAt := s.now, leftQuiet := c.leftQuiet, profRec := c.profRec, ageSwap := c.ageSwap }
  s.modCle k fun _ => { feAt := s.now }

/-- A duplex that cluster k's reset ends: the partner's engines are free and fresh again. -/
def endDuplex (s : Chip) (k : Nat) : Chip :=
  if s.duplexed k then
    let j := partner k
    let s := (s.modCl k fun c => { c with duplex := .none, splitAsked := false }).sets
      [(Reg.SEQ_STAT_lent j, 0), (Reg.SEQ_STAT_dup k, 0)]
    let s := s.resetEngine j
    let b := 0x40000000 + 0x10000 * j
    s.applyUnitcfg fun a => b + 0x1000 ≤ a && a < b + 0x4000
  else s

/-- The units of cluster k return to their image values, and the registers it owns elsewhere are reloaded. -/
def clusterReload (s : Chip) (k : Nat) : Chip :=
  let s := s.endDuplex k
  let lent := s.get (Reg.SEQ_STAT_lent k)
  let s := ((s.clusterRegs k).clusterHidden k).set (Reg.SEQ_STAT_lent k) lent
  let s := forEach (s.slicesOf k) (fun n t => t.sliceUnitReset n) s
  let s := ((s.motorWords k).applyUnitcfg (s.inReload k)).reloadOwned k
  let s := (s.showLists k).showSlots k
  forEach (s.slicesOf k) (fun n t => (t.copyShadows n false false).recheck n) s

/-- RESET of Table 05-2: the cluster ends in IDLE, and faults whose cause has gone end with it. One whose cause stands, or a demand
of the safety logic, puts it in SAFE again with its next request or at the end of the tick (R45, R425, log entry 31). -/
def clusterReset (s : Chip) (k : Nat) : Chip :=
  let s := s.clusterReload k
  let s := s.modCl k fun c => { c with faults := c.faults.filter fun x => !s.causeGone k x, fallDue := true }
  ((s.refreshHold k).enter k 0).refreshHold k

/-! ### Region reset (R16 to R18, R372, R542) -/

/-- The faults of cluster k that come from blocks outside its region. -/
def outsideFault (x : Standing) : Bool :=
  let b := x.code / 256
  haltCode x.code || !(b == 1 || b == 5 || b == 6 || b == 9)

/-- Region g enters reset: its cores, TCMs, clusters, slices and fabric half. -/
def regionDown (s : Chip) (g : Nat) : Chip :=
  let s := (s.modRgn g fun r => { r with inReset := true }).openGate g
  let s := forEach [2 * g, 2 * g + 1] (fun k t =>
    let t := (t.endDuplex k).endDuplex (partner k)
    let t := if t.clState k = 4 && (t.topo k).type == 3 then t.set Reg.PWM_TL_STAT_bad 0 else t
    let t := (t.clusterRegs k).clusterHidden k
    let t := t.sets [(Reg.SEQ_STAT_state k, 0)]
    t.modCl k fun c => { c with faults := c.faults.filter outsideFault }) s
  let s := forEach ((List.range 16).filter fun n => sliceRgn n == g) (fun n t =>
    let t := t.put (Reg.PWM_S_STAT_running n) false
    let t := if t.gateEn n then t.setGate n false else t
    let t := t.modSlice n fun c => { c with ovDt := some (c.ovDt.getD (t.dth n, t.dtl n)) }
    (t.sliceUnitReset n).showHiz n) s
  let s := forEach [2 * g, 2 * g + 1] (fun c t =>
    let b := 0x41900100 + 0x40 * c
    let t := (t.resetRange b (b + 0x3F)).modHart c fun _ => {}
    { t with irq := { t.irq with
      lines := clrBit t.irq.lines c, armed := clrBit t.irq.armed c, hiLatch := eraseAt (c + 1) t.irq.hiLatch,
      groups := updNth (fun _ => {}) (3 * c) (updNth (fun _ => {}) (3 * c + 1) (updNth (fun _ => {}) (3 * c + 2) t.irq.groups)) } }) s
  let lo := tcmKey g 0
  let nlo := nodeKey g 0
  let s := { s with
    mem := s.mem.filter fun p => (p.1 < lo || lo + 0x100000 ≤ p.1) && (p.1 < nlo || nlo + 0x20000 ≤ p.1),
    fab := s.fab.filter fun p => p.1 / 0x10000 % 2 != g,
    ecc := s.ecc.filter fun p => p.1 < lo || lo + 0x100000 ≤ p.1,
    memS := { s.memS with lines := updNth (fun _ => none) g s.memS.lines },
    bus := { s.bus with posted := s.bus.posted.filter fun p => !coreOf g p.req } }
  (forEach [2 * g, 2 * g + 1] (fun k t => t.demandBegins k) ((s.semRegion g).hwRegion g)).refreshHolds

/-- The coupled partner of region g's cluster falls to SAFE with a HALT of the region (R18). -/
def haltPartner (s : Chip) (g code : Nat) : Chip :=
  if s.coupled then
    let k := if g = 0 then 2 else 0
    s.stand k code g false
  else s

/-- Region g is reset: the record of the reset and its cause bit, then the reset itself. -/
def regionReset (s : Chip) (g : Nat) (cause : Field) : Chip :=
  let s := s.put cause true
  let s := s.record 0x0E13 0 0 7 g (s.regWord 0x41B00000)
  s.regionDown g

/-- A HALT of region g. -/
def haltRegion (s : Chip) (g code : Nat) : Chip :=
  (s.regionReset g (if g = 0 then Reg.CFG_RST_CAUSE_halt_a else Reg.CFG_RST_CAUSE_halt_b)).haltPartner g code

/-- A fault of class HALT of region g is recorded and the region reset. -/
def halt (s : Chip) (g code inst data : Nat) : Chip := (s.record code 4 inst 7 g data).haltRegion g code

/-- The carriers of a region's clusters start together (R332). -/
def startCarriers (s : Chip) (g : Nat) : Chip :=
  forEach (((List.range 16).filter fun n => sliceRgn n == g).filter fun n => (s.sliceOwner n).isSome)
    (fun n t => t.startSlice n) s

/-- CLK_RGN_CTL.up_a or up_b. -/
def upField (g : Nat) : Field := if g = 0 then Reg.CLK_RGN_CTL_up_a else Reg.CLK_RGN_CTL_up_b

/-- Region g leaves reset: its units take words, and its up bit ends (Table 03-15). -/
def regionOpen (s : Chip) (g : Nat) : Chip :=
  let s := (s.modRgn g fun r => { r with inReset := false, up := true }).put (upField g) false
  forEach [2 * g, 2 * g + 1] (fun k t => t.motorWords k) s

/-- The demands of Table 11-4 that stand for cluster k put it into SAFE when its region leaves reset (R425). -/
def standDemands (s : Chip) (k : Nat) : Chip :=
  let once (code inst : Nat) (latch : Bool) (t : Chip) : Chip :=
    if (t.cluster k).faults.any fun x => x.code = code && x.inst = inst then t else t.stand k code inst latch
  if (s.topo k).type = 0 then s
  else
    let s := if s.stoFor k then once 0x0710 0 true s else s
    let s := if s.on Reg.SAFE_STAT_flt_low && s.motorType k then once 0x0712 0 false s else s
    forEach (List.range 16) (fun c t =>
      if !t.cmpActs c then t
      else if t.cmpRole c == 3 && t.motorType k then once 0x0715 c true t
      else if hasBit (t.topo k).cmp c && t.cmpRole c == 1 then once 0x0713 c false t
      else if hasBit (t.topo k).cmp c && t.cmpRole c == 2 then once 0x0714 c true t
      else t) s

/-- Region g runs with its image values and its clusters in IDLE (R16); a demand or a fault of another block that stands puts a cluster
in SAFE with its next request or at the end of the tick (R45, R425, log entry 31). -/
def regionUp (s : Chip) (g : Nat) : Chip :=
  let s := forEach [2 * g, 2 * g + 1] (fun k t =>
    let t := (t.showLists k).put (Reg.SEQ_STAT_bcm k) ((t.topo k).type == 5)
    t.modCl k fun c => { c with faults := c.faults.filter fun x => !(x.code / 256 == 7 && t.causeGone k x && !x.latch) }) s
  let s := forEach ((List.range 16).filter fun n => sliceRgn n == g) (fun n t => t.modSlice n fun c => { c with ovDt := none }) s
  let s := s.startCarriers g
  (forEach [2 * g, 2 * g + 1] (fun k t => t.modCl k fun c => { c with fallDue := true }) s).refreshHolds

/-! ### Control-die reset (R124, R676) -/

/-- Register addresses that a control-die reset keeps: the Cellar's, the supply levels, SAFE_LS_STAT. -/
def keptReg (a : Nat) : Bool :=
  (0x41A00800 ≤ a && a < 0x41A00C00) || a == 0x41A00000 || a == (Reg.SAFE_LS_STAT_mis_a).addr

/-- Memory that a control-die reset clears: the Hallway's buffers and flags (R551), the TCMs, the fabric's nodes. -/
def clearedMem (a : Nat) : Bool :=
  (0x30000000 ≤ a && a < 0x30050000) || (0x100000000 ≤ a && a < 0x100200000) || nodeKey 0 0 ≤ a

/-- An island of a control die in reset: no frames reach it, and it turns off with the Miller clamp active and enters ORPHAN
within 2 µs (R124, R414); its settings and profiles stay (R19). An unsupplied island is held only by the passive path
(Table 10-1, log entry 20). -/
def orphaned (i : IslandS) : IslandS :=
  let supplied := 1 ≤ i.real && i.real ≤ 6
  { real := if supplied then 5 else i.real, own := i.own, tblOn := i.tblOn, tblOff := i.tblOff, clampOn := supplied }

/-- A boot record copy (R151): sequence number, preference, trial, tries; `none` where it is not valid. -/
def bootCopy (s : Chip) (a : Nat) : Option (Nat × BootUpdate) :=
  let pref := s.load (a + 8) 1
  let trial := s.load (a + 9) 1
  let tries := s.load (a + 10) 1
  if s.load a 4 == 0x44425442 && crc32 (s.bytes a 0x1C) == s.load (a + 0x1C) 4 && pref ≤ 1 && trial ≤ 1 && tries ≤ 3 then
    some (s.load (a + 4) 4, ⟨pref, trial, tries⟩)
  else none

/-- The copy in force and the one that the next update overwrites (R151); with neither valid the first is overwritten. -/
def bootPick (s : Chip) : Option (Nat × BootUpdate) × Nat :=
  let a := 0x1080F000
  let b := 0x1080F100
  match s.bootCopy a, s.bootCopy b with
  | none, none => (none, a)
  | some x, none => (some x, b)
  | none, some y => (some y, a)
  | some x, some y =>
    let d := (y.1 + 2 ^ 32 - x.1) % 2 ^ 32
    if 1 ≤ d && d < 2 ^ 31 then (some y, a) else (some x, b)

def bootOlder (s : Chip) : Nat := s.bootPick.2

/-- A boot-record update cut by a reset leaves the copy being written invalid (R151): its first byte is no part of the magic,
the rest is open (log entry 6). An anti-rollback commit cut by a reset leaves a count between the old and the new (R150). -/
def cfgCut (s : Chip) : Chip :=
  let s := if s.chm.writes.any fun w => w.owner = .boot && w.started then
      (s.setBytes s.bootOlder (0 :: leBytes 31 s.freeVal)).useFree else s
  if s.on Reg.CFG_ARB_busy then
    let n := s.cfg.fuses.arb + s.freeVal % (min 64 s.img.secVer - s.cfg.fuses.arb + 1)
    { s.useFree with cfg := { s.cfg with fuses := { s.cfg.fuses with arb := n } } }
  else s

/-- A ledger write cut by a reset leaves the slot being written open and not whole: the other slot stays in force. -/
def ledCut (s : Chip) : Chip :=
  forEach (List.range 6) (fun m t =>
    if t.chm.writes.any fun w => w.owner = .ledger m && w.started then
      (t.setBytes (idKey m (if t.get (Reg.CHM_M_STAT_slot m) = 0 then 0x600 else 0x100)) (0 :: leBytes 31 t.freeVal)).useFree
    else t) s

/-- The control die is reset; `causes` are the bits of CFG_RST_CAUSE that the next start loads. A cause that meets a die in
reset joins that reset's; a reset before the start has recorded the one before it is recorded beside that one (R163). -/
def dieReset (s : Chip) (causes : Nat) : Chip :=
  let log := s.log
  let same := s.pwr.dieReset || s.cfg.causeNext == 0
  let s := s.hwCut.cfgCut.ledCut
  let s := s.set Reg.CEL_STAT_state_prev 3
  { regs := s.regs.filter fun p => keptReg (p.1 / 32),
    mem := s.mem.filter fun p => !clearedMem p.1,
    ecc := s.ecc.filter fun p => !clearedMem p.1,
    free := s.free,
    log := { queue := [], seq := log.seq, flashNext := log.flashNext, flashUsed := log.flashUsed, retention := log.retention },
    pwr := { s.pwr with
      latched := if s.pwr.waking then s.pwr.latched else 0, safetyOnMon := false, crossings := [], dieReset := true,
      rstOut := true },
    cfg := {
      fuses := s.cfg.fuses, softRepair := s.cfg.softRepair, rstLow := s.cfg.rstLow, rstStuck := s.cfg.rstStuck,
      causeNext := if same then s.cfg.causeNext ||| causes else causes,
      causePrev := if same then s.cfg.causePrev else s.cfg.causePrev ++ [s.cfg.causeNext], borNext := s.cfg.borNext,
      mapped := s.cfg.softRepair.filter fun p => !s.cfg.fuses.repairs.contains p, gpioIn := s.cfg.gpioIn, nodeStrap := s.cfg.nodeStrap },
    pos := s.pos.map fun p => { a := p.a, b := p.b },
    pwmG := { fltLow := s.pwmG.fltLow },
    safe := { fbHigh := s.safe.fbHigh },
    hw := { sleepPin := s.hw.sleepPin },
    isl := s.isl.map orphaned }

/-- The control die leaves reset. -/
def dieRelease (s : Chip) : Chip := { s with pwr := { s.pwr with dieReset := false, rstOut := false } }

end Chip

end Sys2Proof.Machine
end

