-- ==== Sys2Proof/Machine/LarderOps.lean ====
section
/-! DEFINITION. Shared operations of the clusters beside the loop: requests as a register write makes them, the Larder's
swaps and writes (R216 to R222), the engine duplex (R212 to R215), the start of a pass (R180). -/

namespace Sys2Proof.Machine.Chip

/-! ### Requests (Table 05-2) -/

/-- CLEAR: every LATCH fault whose cause has gone, island faults included (R401); an STO demand that has ended is released
and asserts its ISO_EN outputs (R434). -/
def reqClear (s : Chip) (k : Nat) : Chip :=
  if s.clState k != 4 then s.refuseReq k 5 6
  else
    let s := forEach (s.islandsOf k) (fun n t => t.clearIsland n) (s.setHeld k 0)
    let sto := (s.cluster k).faults.any fun x => x.code = 0x0710 && s.causeGone k x
    let s := s.modCl k fun c => { c with faults := c.faults.filter fun x => !(x.latch && s.causeGone k x) }
    let s := if sto then
        let s := s.modCl k fun c => { c with stoRel := true }
        let both := !s.on Reg.SAFE_STO_CFG_scope || s.coupled
        let s := if both || rgnOf k = 0 then s.putIso 0 true else s
        if both || rgnOf k = 1 then s.putIso 1 true else s
      else s
    (s.refreshHold k).tryLeaveSafe k

/-- RESET (R15). -/
def reqReset (s : Chip) (k : Nat) : Chip :=
  let st := s.clState k
  if st = 0 ∨ st = 4 ∨ st = 5 then s.clusterReset k else s.refuseReq k 4 6

/-- The CRC-32 of an observer's RWL registers (R212). -/
def obsCrc (s : Chip) (e : Nat) : Nat :=
  crc32 ((List.range 64).flatMap fun i =>
    let a := 0x40001000 + 0x10000 * e + 4 * i
    match fieldsAt a with
    | some l => if l.any (fun f => f.acc = .rwl) then leBytes 4 (s.wordOf (l.filter fun f => f.acc = .rwl)) else []
    | none => [])

/-- DUPLEX (R212). Where both conditions fail the partner's state is recorded: the rule gives no order (DESIGN CHOICE, log
entry 55). -/
def reqDuplex (s : Chip) (k : Nat) : Chip :=
  let st := s.clState k
  let j := partner k
  let refuse (why : Nat) : Chip := s.refusal k 0x051C why
  if !(st == 0 || st == 2 || st == 5) then s.refuseReq k 7 6
  else if !s.quiet j || s.on (Reg.SEQ_STAT_lent j) then refuse 1
  else if s.get (Reg.CLE_CRC_v k) != s.get (Reg.CLE_CRC_v j) || s.obsCrc k != s.obsCrc j then refuse 2
  else ((s.setHeld k 0).modCl k fun c => { c with duplex := .requested, splitAsked := false }).put (Reg.SEQ_STAT_lent j) true

/-- SPLIT. -/
def reqSplit (s : Chip) (k : Nat) : Chip :=
  if s.duplexed k then (s.setHeld k 0).modCl k fun c => { c with splitAsked := true } else s.refuseReq k 8 6

/-- A request in the present state. Requests to a cluster whose engines are lent are refused (Table 05-9). -/
def handleReq (s : Chip) (k code : Nat) : Chip :=
  if s.on (Reg.SEQ_STAT_lent k) then s.refuseReq k code 3
  else if code = 1 then s.reqRun k
  else if code = 2 then s.reqStop k false
  else if code = 3 then s.reqStop k true
  else if code = 4 then s.reqReset k
  else if code = 5 then s.reqClear k
  else if code = 6 then (s.reqDischarge k).1
  else if code = 7 then s.reqDuplex k
  else if code = 8 then s.reqSplit k
  else s.refuseReq k code 7

/-- A cluster that left a reset in IDLE falls to SAFE where a SAFE or LATCH fault or a demand of the safety logic stands (R45,
R425). -/
def refall (s : Chip) (k : Nat) : Chip :=
  if !(s.cluster k).fallDue then s
  else
    let s := (s.modCl k fun c => { c with fallDue := false }).standDemands k
    if (s.cluster k).faults.isEmpty || (s.region (rgnOf k)).inReset then s.refreshHold k else (s.enter k 4).refreshHold k

/-- A request code written to SEQk_CTL.req. -/
def request (s : Chip) (k code : Nat) : Chip :=
  if code = 0 then s else ((s.refall k).handleReq k code).modCl k fun c => { c with reqNow := code }

/-- At the end of a tick, a request that a fault of the same tick followed is handled as if written in the state that resulted;
a duplex that it was granted before the fault is undone (R175). -/
def reqAgain (s : Chip) (k : Nat) : Chip :=
  let c := s.cluster k
  let s := s.modCl k fun c => { c with reqNow := 0, again := 0, refNow := none }
  if c.again = 0 then s
  else
    let s := if c.again = 7 && c.duplex == .requested then
        (s.modCl k fun c => { c with duplex := .none }).put (Reg.SEQ_STAT_lent (partner k)) false
      else s
    s.handleReq k c.again

/-! ### The Larder -/

def swapOf (s : Chip) (k t : Nat) : SwapStep := (s.cluster k).swap.getD t .none
def putSwap (s : Chip) (k t : Nat) (x : SwapStep) : Chip :=
  let s := s.modCl k fun c => { c with swap := updNth (fun _ => x) t c.swap }
  let s := if x = .none then s.clrBitOf (Reg.SEQ_LDR_SWAP_swap k) t else s.setBitOf (Reg.SEQ_LDR_SWAP_swap k) t
  if x = .checking then s.setBitOf (Reg.SEQ_LDR_STAT_checking k) t else s.clrBitOf (Reg.SEQ_LDR_STAT_checking k) t

/-- A swap request of table t (R219); its outcome bits of an earlier request clear. -/
def swapRequest (s : Chip) (k t : Nat) : Chip :=
  if s.swapOf k t != .none then s
  else
    let s := ((s.clrBitOf (Reg.SEQ_LDR_STAT_defer k) t).clrBitOf (Reg.SEQ_LDR_STAT_cancel k) t).clrBitOf
      (Reg.SEQ_LDR_STAT_crc_fail k) t
    (s.modCl k fun c => { c with waits := updNth (fun _ => 0) t c.waits }).putSwap k t .checking

/-- LDR_WRITE_REFUSED (R218, R506). -/
def ldrRefuse (s : Chip) (k t who : Nat) : Chip :=
  (s.put (Reg.SEQ_FLAGS_ldr_err k) true).noteCl 0x0522 k (t + 256 * who)

/-- Software asks for a swap; table 2 belongs to the Chimney while its ageing update is enabled (R506). -/
def swapBySoftware (s : Chip) (k t : Nat) : Chip :=
  if t = 2 && s.on (Reg.CHM_C_CFG_age_en k) then s.ldrRefuse k 2 1 else s.swapRequest k t

/-- The shadow of table t matches its crc word. -/
def shadowOk (s : Chip) (k t : Nat) : Bool :=
  let a := ldrAddr k t (1 - s.ldrAct k t)
  crc32 (s.bytes a (ldrLen t - 4)) == s.load (a + ldrLen t - 4) 4

/-- The table that holds an offset of a copy. -/
def ldrTable (off : Nat) : Option Nat := [0, 1, 2].find? fun t => ldrOff t ≤ off && off < ldrOff t + ldrLen t

/-- A write to a shadow with a request pending cancels it (Table 05-12). -/
def swapCancel (s : Chip) (k t : Nat) : Chip :=
  if s.swapOf k t = .none then s
  else
    let s := ((s.putSwap k t .none).setBitOf (Reg.SEQ_LDR_STAT_cancel k) t).put (Reg.SEQ_FLAGS_ldr_err k) true
    let s := if t = 2 then s.modCl k fun c => { c with ageSwap := false } else s
    s.noteCl 0x0521 k t

/-- Bytes that a requester stores into the Larder (R218, R219). -/
def ldrStore (s : Chip) (a : Nat) (l : List Byte) : Chip :=
  let k := (a - 0x42000000) / 0x10000 % 4
  let c := a % 0x10000 / 0x8000
  match ldrTable (a % 0x8000) with
  | none => s.setBytes a l
  | some t =>
    if c = s.ldrAct k t then s.ldrRefuse k t 0
    else if t = 2 && s.on (Reg.CHM_C_CFG_age_en k) then s.ldrRefuse k t 1
    else (s.swapCancel k t).setBytes a l

/-- The checked shadow of table t becomes active at a period boundary and at no other tick, or waits (Table 05-12, R220). -/
def swapNow (s : Chip) (k t : Nat) (busy : Bool) : Chip :=
  if s.swapOf k t != .ready || !s.atBoundary k then s
  else if busy then
    let n := (s.cluster k).waits.getD t 0 + 1
    let s := s.modCl k fun c => { c with waits := updNth (fun _ => n) t c.waits }
    if n ≥ 16 && !hasBit (s.get (Reg.SEQ_LDR_STAT_defer k)) t then
      (s.setBitOf (Reg.SEQ_LDR_STAT_defer k) t).noteCl 0x0523 k t
    else s
  else
    let s := s.set (Reg.SEQ_LDR_ACT_act k) (putBit (s.get (Reg.SEQ_LDR_ACT_act k)) t (s.ldrAct k t == 0))
    let s := ((s.putSwap k t .none).count (Reg.SEQ_LDR_STAT_swaps k)).put (Reg.SEQ_FLAGS_ldr_swap k) true
    let s := s.modCl k fun c => { c with waits := updNth (fun _ => 0) t c.waits }
    if t = 2 then
      let age := (s.cluster k).ageSwap
      let s := s.modCl k fun c => { c with profRec := false, ageSwap := false }
      if age then s.ageSwapped k else s
    else s

/-! ### Duplex -/

/-- Observer and engine registers of cluster e at their image values. -/
def imageEngine (s : Chip) (e : Nat) : Chip :=
  let b := 0x40000000 + 0x10000 * e
  ((s.resetEngine e).applyUnitcfg fun a => b + 0x1000 ≤ a && a < b + 0x4000).showLists e

/-- A SPLIT takes effect (R215). -/
def splitNow (s : Chip) (k : Nat) : Chip :=
  let j := partner k
  let s := if (s.cluster k).duplex == .takeover then (s.imageEngine k).copyEngine j k else s
  let s := s.modCl k fun c => { c with duplex := .none, splitAsked := false }
  (s.imageEngine j).sets [(Reg.SEQ_STAT_lent j, 0), (Reg.SEQ_STAT_dup k, 0), (Reg.SEQ_FLAGS_dup_ev k, 1)]

/-! ### The start of a pass (R180) -/

/-- Ticks from a trigger compare to the next reload of its slice. -/
def ticksToReload (s : Chip) (k val : Nat) (down : Bool) : Nat :=
  let p := s.perOf (s.leadOf k)
  let v := min val p
  let t := if down then 2 * p - v else v
  if s.dblOf k && t < p then p - t else 2 * p - t

/-- The pass of cluster k starts at the trigger tick. A pass still waiting for its results ends without compares. -/
def passStart (s : Chip) (k val : Nat) (down peak : Bool) : Chip :=
  let s := s.sampleNow k
  let s := if (s.cluster k).inPass && (s.clState k == 2 || s.clState k == 3) then
      (forEach (s.engineSets k) (fun e t => t.skipLists k e) (s.unlimited k)).overrun k
    else s
  let s := if (s.cluster k).duplex == .copied then
      (s.modCl k fun c => { c with duplex := .active }).sets [(Reg.SEQ_STAT_dup k, 1), (Reg.SEQ_FLAGS_dup_ev k, 1)]
    else s
  let s := s.diodePass k
  let n := s.ticksToReload k val down
  (s.passOpen k peak).modCl k fun c => { c with
    inPass := true, peakPass := peak, trigTick := s.now, toReload := n, sampleDue := true, resDue := false }

/-- A match of trigger j of the lead slice of cluster k: a valley pass, in double update a peak pass, or no pass. Where one
compare serves both, its match in the down half is the peak's (R180). -/
def triggerPass (s : Chip) (k j val : Nat) (down : Bool) : Chip :=
  let v := s.get (Reg.SEQ_CFG_trig_v k)
  let p := s.get (Reg.SEQ_CFG_trig_p k)
  let dbl := s.dblOf k
  if s.clState k = 5 || (s.topo k).type == 0 || (s.region (rgnOf k)).inReset then s
  else if dbl && j == p && (p != v || down) then s.passStart k val down true
  else if j == v then s.passStart k val down false
  else s

/-! ### Results of a pass -/

/-- The raw code of a sigma-delta filter output (R242). -/
def sdRaw (y d : Nat) : Nat :=
  let c : Int := (d : Int) ^ 3
  let x := (2 * ((2 * (y : Int) - c) * 32768) + c) / (2 * c)
  let v := max (-32768) (min 32764 x)
  unsgn 16 (v - v % 4)

/-- A SAR slot's result: converter enabled, VDDA good, or raw 0 without the valid flag. -/
def sarDeliver (s : Chip) (k i b code : Nat) : Chip :=
  let u := s.slotUnit k i
  let ok := s.pwr.vddaOk && s.on (Reg.ADC_S_CFG_en u)
  let raw := if ok then 4 * code else 0
  let lp := hasBit (s.cluster k).sampleLp u
  let nr := s.passNr k b
  let s := s.sets [(Reg.ADC_S_RES_raw u, raw), (Reg.ADC_S_RES_clip u, b2n (ok && clipRaw raw)),
    (Reg.ADC_S_RES_lp u, b2n lp), (Reg.ADC_S_RES_ref_nr u, b2n nr)]
  s.deliver k i b raw ok (ok && clipRaw raw) lp nr

/-- A sigma-delta slot whose clock is held low delivers raw 0 (R672). -/
def sdDead (s : Chip) (k i b : Nat) : Chip :=
  let m := s.slotUnit k i
  (s.sets [(Reg.SD_RES_raw m, 0), (Reg.SD_RES_valid m, 0)]).deliver k i b 0 false false false (s.passNr k b)

/-- A sigma-delta slot of the pass at b is still awaited. -/
def sdAwaited (s : Chip) (k b : Nat) : Bool := (s.measS k).waiting.any fun p => p.2 = b && s.slotPath k p.1 = 1

end Sys2Proof.Machine.Chip
end

