-- ==== Sys2Proof/Machine/StatusOps.lean ====
section
/-! DEFINITION. The status that Porch and the ring send: bytes of a cluster and of the module (Tables 15-7, 16-3, 16-4). -/

namespace Sys2Proof.Machine.Chip

/-- A binary32 value at two counts per unit, as a saturating int16 pattern. -/
def halfCounts (v : Nat) : Nat := unsgn 16 (min 32767 (max (-32768) (F32.round (F32.mul (F32.ofNat 2) v))))

/-- A binary32 value at `n` counts per unit, as a saturating unsigned value up to `m`. -/
def satCounts (m n v : Nat) : Nat := (min (m : Int) (max 0 (F32.round (F32.mul (F32.ofNat n) v)))).toNat

/-- f is held at 0 after CHOPPER_FAIL (SAFE_STAT.regen_zero). -/
def regenZero (s : Chip) : Bool := s.safe.rampFrom.isSome && s.now ≥ s.safe.rampAt + 1000000

/-- The speed that field control takes (Table 05-6), 0 with none. -/
def takenSpeed (s : Chip) (k : Nat) : Nat := match s.angleOf k with | some (_, w) => w | none => 0

/-- Byte 0 of a cluster's status. -/
def statusByte0 (s : Chip) (k : Nat) : Nat :=
  s.clState k % 8 + 8 * s.get (Reg.SAFE_C_STAT_sel k) + 32 * s.get (Reg.CHM_C_STAT_peak k)

/-- The four limit bits. -/
def statusBits (s : Chip) (k : Nat) : Nat :=
  s.get (Reg.FC_STAT_mod_limited k) + 2 * s.get (Reg.FC_STAT_i_limited k) + 4 * s.get (Reg.SAFE_C_STAT_pc_sto k)
    + 8 * s.get (Reg.SEQ_STAT_overspeed k)

/-- Torque and speed of a cluster as four bytes. -/
def statusMotion (s : Chip) (k : Nat) : List Byte :=
  leBytes 2 (halfCounts (s.get (Reg.FC_TQ_REF_v k))) ++ leBytes 2 (halfCounts (s.takenSpeed k))

/-- Byte 4 of the module status: the peak requests of the clusters. -/
def peakByte (s : Chip) : Nat :=
  (List.range 4).foldl (fun w k =>
    let p := s.get (Reg.CHM_C_STAT_peak k)
    w + (if p = 1 then 2 ^ k else 0) + (if 2 ≤ p then 2 ^ (4 + k) else 0)) 0

/-- The cluster status of Porch, its counter given. -/
def clusterStatus (s : Chip) (k n : Nat) : List Byte :=
  leBytes 1 (s.statusByte0 k) ++ s.statusMotion k ++ leBytes 2 (s.get (Reg.SEQ_FAULT_code k))
    ++ leBytes 1 (s.statusBits k + 16 * (n % 16))

/-- The module status of Porch, its counter given. Bit 7 of byte 5 and bits 3:0 of byte 7 have no content: free. -/
def moduleStatus (s : Chip) (n : Nat) : List Byte :=
  let t := if s.on Reg.CHM_STAT_t_die_ok then satCounts 255 1 (F32.add (s.get Reg.CHM_T_DIE_t_die) (F32.ofNat 40)) else 255
  let b3 := s.get Reg.SAFE_STAT_sto_a + 2 * s.get Reg.SAFE_STAT_sto_b + 4 * b2n (s.safeOk 0) + 8 * b2n (s.safeOk 1)
    + 16 * s.get Reg.SAFE_CHOP_STAT_fail + 32 * b2n s.regenZero + 64 * s.get Reg.SAFE_CTR_STAT_weld
    + 128 * b2n s.vdcAll.isEmpty
  let b5 := s.get Reg.SAFE_CTR_STAT_pos_out + 2 * s.get Reg.SAFE_CTR_STAT_neg_out + 4 * s.get Reg.SAFE_CTR_STAT_pos_fb
    + 8 * s.get Reg.SAFE_CTR_STAT_neg_fb + 16 * s.get Reg.SAFE_DIS_STAT_state
  leBytes 2 (satCounts 65535 10 (s.get Reg.SAFE_VDC_HI_v)) ++ leBytes 1 t ++ leBytes 1 b3 ++ leBytes 1 s.peakByte
    ++ leBytes 1 (b5 + 128 * (s.freeVal % 2)) ++ [0xFF] ++ leBytes 1 (16 * (n % 16) + s.freeVal / 2 % 16)

end Sys2Proof.Machine.Chip
end

