-- ==== Sys2Proof/Machine/Crypto.lean ====
section
/-! DEFINITION. SHA-256 and the ECDSA P-256 check that R139, R148 and R157 name. The spec names the standards and gives no
text of them: they are PRESUMED from FIPS 180-4 and FIPS 186-4 (log entry 7). -/

namespace Sys2Proof.Machine

/-- The value of bytes, highest first. -/
def beNat (l : List Byte) : Nat := l.foldl (fun a b => 256 * a + b.toNat) 0

/-- Addition of 32-bit words, rotation and shift to the right. -/
def add32 (a b : Nat) : Nat := (a + b) % 2 ^ 32
def rotr (n a : Nat) : Nat := a / 2 ^ n + a % 2 ^ n * 2 ^ (32 - n)
def xor3 (a b c : Nat) : Nat := Nat.xor (Nat.xor a b) c

/-- The initial hash value and the round constants of SHA-256. -/
def shaInit : List Nat :=
  [0x6A09E667, 0xBB67AE85, 0x3C6EF372, 0xA54FF53A, 0x510E527F, 0x9B05688C, 0x1F83D9AB, 0x5BE0CD19]

def shaK : List Nat :=
  [0x428A2F98, 0x71374491, 0xB5C0FBCF, 0xE9B5DBA5, 0x3956C25B, 0x59F111F1, 0x923F82A4, 0xAB1C5ED5,
   0xD807AA98, 0x12835B01, 0x243185BE, 0x550C7DC3, 0x72BE5D74, 0x80DEB1FE, 0x9BDC06A7, 0xC19BF174,
   0xE49B69C1, 0xEFBE4786, 0x0FC19DC6, 0x240CA1CC, 0x2DE92C6F, 0x4A7484AA, 0x5CB0A9DC, 0x76F988DA,
   0x983E5152, 0xA831C66D, 0xB00327C8, 0xBF597FC7, 0xC6E00BF3, 0xD5A79147, 0x06CA6351, 0x14292967]
  ++ [0x27B70A85, 0x2E1B2138, 0x4D2C6DFC, 0x53380D13, 0x650A7354, 0x766A0ABB, 0x81C2C92E, 0x92722C85,
   0xA2BFE8A1, 0xA81A664B, 0xC24B8B70, 0xC76C51A3, 0xD192E819, 0xD6990624, 0xF40E3585, 0x106AA070,
   0x19A4C116, 0x1E376C08, 0x2748774C, 0x34B0BCB5, 0x391C0CB3, 0x4ED8AA4A, 0x5B9CCA4F, 0x682E6FF3,
   0x748F82EE, 0x78A5636F, 0x84C87814, 0x8CC70208, 0x90BEFFFA, 0xA4506CEB, 0xBEF9A3F7, 0xC67178F2]

/-- The next word of the message schedule; the newest word stands first. -/
def shaNext (l : List Nat) : Nat :=
  let a := l.getD 14 0
  let b := l.getD 1 0
  let s0 := xor3 (rotr 7 a) (rotr 18 a) (a / 8)
  let s1 := xor3 (rotr 17 b) (rotr 19 b) (b / 1024)
  add32 (add32 (l.getD 15 0) s0) (add32 (l.getD 6 0) s1)

/-- The 64 words of the schedule of a block of 16. -/
def shaSchedule (w : List Nat) : List Nat := ((List.range 48).foldl (fun l _ => shaNext l :: l) w.reverse).reverse

/-- One round on the eight working words. -/
def shaRound (v : List Nat) (kw : Nat × Nat) : List Nat :=
  match v with
  | [a, b, c, d, e, f, g, h] =>
    let s1 := xor3 (rotr 6 e) (rotr 11 e) (rotr 25 e)
    let ch := Nat.xor (Nat.land e f) (Nat.land (2 ^ 32 - 1 - e) g)
    let t1 := add32 (add32 (add32 h s1) ch) (add32 kw.1 kw.2)
    let s0 := xor3 (rotr 2 a) (rotr 13 a) (rotr 22 a)
    let mj := xor3 (Nat.land a b) (Nat.land a c) (Nat.land b c)
    [add32 t1 (add32 s0 mj), a, b, c, add32 d t1, e, f, g]
  | _ => v

/-- One block of 16 words. -/
def shaBlock (h w : List Nat) : List Nat :=
  List.zipWith add32 h (List.foldl shaRound h (List.zip shaK (shaSchedule w)))

/-- The padded message as words. -/
def shaPad (l : List Byte) : List Byte :=
  let z := (119 - l.length % 64) % 64
  l ++ [0x80] ++ List.replicate z 0 ++ (leBytes 8 (8 * l.length)).reverse

/-- Words of four bytes, highest byte first, and groups of 16 words. -/
def groups (n : Nat) {α : Type} : Nat → List α → List (List α)
  | 0, _ => []
  | f + 1, l => if l.isEmpty then [] else l.take n :: groups n f (l.drop n)

/-- SHA-256 of a byte string, as a 256-bit number. -/
def sha256 (l : List Byte) : Nat :=
  let m := shaPad l
  let w := (groups 4 (m.length / 4) m).map beNat
  ((groups 16 (w.length / 16) w).foldl shaBlock shaInit).foldl (fun a x => 2 ^ 32 * a + x) 0

/-! ### ECDSA over P-256 -/

def p256 : Nat := 0xFFFFFFFF00000001000000000000000000000000FFFFFFFFFFFFFFFFFFFFFFFF
def n256 : Nat := 0xFFFFFFFF00000000FFFFFFFFFFFFFFFFBCE6FAADA7179E84F3B9CAC2FC632551
def b256 : Nat := 0x5AC635D8AA3A93E7B3EBBD55769886BC651D06B0CC53B0F63BCE3C3E27D2604B
def g256 : Nat × Nat :=
  (0x6B17D1F2E12C4247F8BCE6E563A440F277037D812DEB33A0F4A13945D898C296,
   0x4FE342E2FE1A7F9B8EE7EB4A7C0F9E162BCE33576B315ECECBB6406837BF51F5)

/-- A power in the integers modulo m, by the 256 bits of the exponent from the highest down. -/
def powMod (m a e : Nat) : Nat :=
  (List.range 256).foldl (fun r i => let q := r * r % m; if hasBit e (255 - i) then q * a % m else q) 1

/-- The inverse modulo a prime. -/
def invMod (m a : Nat) : Nat := powMod m a (m - 2)

/-- The sum of two points; `none` is the point at infinity. -/
def ptAdd : Option (Nat × Nat) → Option (Nat × Nat) → Option (Nat × Nat)
  | none, q => q
  | p, none => p
  | some (x1, y1), some (x2, y2) =>
    if x1 = x2 && (y1 + y2) % p256 = 0 then none
    else
      let l := if x1 = x2 then 3 * (x1 * x1 + p256 - 1) * invMod p256 (2 * y1 % p256) % p256
        else (y2 + p256 - y1) * invMod p256 ((x2 + p256 - x1) % p256) % p256
      let x := (l * l + 2 * p256 - x1 - x2) % p256
      some (x, (l * (x1 + p256 - x) + p256 - y1) % p256)

/-- A multiple of a point. -/
def ptMul (k : Nat) (q : Nat × Nat) : Option (Nat × Nat) :=
  (List.range 256).foldl (fun r i => let d := ptAdd r r; if hasBit k (255 - i) then ptAdd d (some q) else d) none

/-- The ECDSA P-256 check of a signature (r then s) over SHA-256 of a message, by a public key (X then Y). -/
def ecdsaOk (key sig msg : List Byte) : Bool :=
  let x := beNat (key.take 32)
  let y := beNat (key.drop 32)
  let r := beNat (sig.take 32)
  let s := beNat (sig.drop 32)
  let onCurve := x < p256 && y < p256 && y * y % p256 == (x * x * x + 3 * (p256 - x) + b256) % p256
  if !onCurve || r = 0 || n256 ≤ r || s = 0 || n256 ≤ s then false
  else
    let w := invMod n256 s
    match ptAdd (ptMul (sha256 msg * w % n256) g256) (ptMul (r * w % n256) (x, y)) with
    | some (px, _) => px % n256 == r
    | none => false

end Sys2Proof.Machine
end

