-- ==== Sys2Proof/Machine/CoreOps.lean ====
section
/-! DEFINITION. Shared operations of the cores' block (chapter 13): memory errors, discarded accesses, semaphores,
watchdogs, the interrupt controller's registers. -/

namespace Sys2Proof.Machine.Chip

/-! ### Memories and their errors (R521 to R525) -/

/-- The memory of a byte key, encoded as MEM_ECC_INFO.mem: ITCM A, DTCM A, ITCM B, DTCM B, system SRAM, code flash, data
flash. -/
def memOf (key : Nat) : Option Nat :=
  if 0x100000000 ≤ key ∧ key < 0x100200000 then
    let g := (key - 0x100000000) / 0x100000
    let a := key % 0x100000
    if a < 0x40000 then some (2 * g) else if a < 0x80000 then some (2 * g + 1) else none
  else if 0x20000000 ≤ key ∧ key < 0x20200000 then some 4
  else if 0x10000000 ≤ key ∧ key < 0x10800000 then some 5
  else if 0x10800000 ≤ key ∧ key < 0x10810000 then some 6
  else none

/-- The protected unit that holds a byte (Table 13-5). -/
def eccUnit (key : Nat) : Nat := if memOf key = some 5 then key / 8 * 8 else key / 4 * 4

/-- Bits that are wrong in a unit: what stands there and what the reading meets besides. -/
def eccBits (s : Chip) (key : Nat) (e : Nat) : Nat := max (min e 2) (lookupD 0 (eccUnit key) s.ecc)

def setEcc (s : Chip) (key bits : Nat) : Chip := { s with ecc := putAt 0 (eccUnit key) bits s.ecc }

/-- MEM_ECC_ADDR and MEM_ECC_INFO. -/
def eccInfo (s : Chip) (mem addr req : Nat) (fetch unc : Bool) : Chip :=
  s.sets [(Reg.MEM_ECC_ADDR_addr, addr), (Reg.MEM_ECC_INFO_req, req), (Reg.MEM_ECC_INFO_fetch, b2n fetch),
    (Reg.MEM_ECC_INFO_unc, b2n unc), (Reg.MEM_ECC_INFO_mem, mem)]

/-- A correctable error is corrected, counted and recorded once (R521). -/
def eccCor (s : Chip) (key mem addr req : Nat) (fetch : Bool) : Chip :=
  let s := (s.setEcc key 0).eccInfo mem addr req fetch false
  let s := s.bump (if mem < 4 then Reg.MEM_ECC_CNT0_cnt mem else Reg.MEM_ECC_CNT1_cnt (mem - 4)) 255
  s.firstNote Reg.MEM_FLAGS_cor 0x0910 0 addr

/-- An uncorrectable error is counted; the record is the case's (R522). -/
def eccUnc (s : Chip) (key mem addr req : Nat) (fetch : Bool) : Chip :=
  let s := (s.setEcc key 2).eccInfo mem addr req fetch true
  (s.bump (Reg.MEM_ECC_CNT1_cnt 3) 255).put Reg.MEM_FLAGS_unc true

/-- A read of the unit that holds a byte: the module, and whether the data is bad. -/
def eccRead (s : Chip) (key addr req : Nat) (fetch : Bool) (e : Nat) : Chip × Bool :=
  match memOf key with
  | none => (s, false)
  | some m =>
    match s.eccBits key e with
    | 0 => (s, false)
    | 1 => (s.eccCor key m addr req fetch, false)
    | _ =>
      let s := s.eccUnc key m addr req fetch
      if m < 4 then (s.halt (m / 2) 0x0911 0 addr, true)
      else if m = 5 && fetch then (s, true)
      else (s.note 0x0913 0 addr, true)

/-- Check bits of a word written by a core: good, or as MEM_ECC_INJ arms them (R525). -/
def eccWritten (s : Chip) (key : Nat) : Chip :=
  let m := s.get Reg.MEM_ECC_INJ_mem
  let want := if 5 ≤ m then 4 else m
  if s.on Reg.MEM_ECC_INJ_arm && memOf key == some want then
    (s.setEcc key (if s.get Reg.MEM_ECC_INJ_bits = 2 then 2 else 1)).put Reg.MEM_ECC_INJ_arm false
  else s.setEcc key 0

/-- An access is discarded (R524): cause 1 region in reset, 2 partial write onto a bad word. -/
def discard (s : Chip) (r : Requester) (addr : Nat) (write : Bool) (cause : Nat) : Chip :=
  let s := s.sets [(Reg.MEM_DISC_ADDR_addr, addr), (Reg.MEM_DISC_INFO_req, reqCode r),
    (Reg.MEM_DISC_INFO_write, b2n write), (Reg.MEM_DISC_INFO_cause, cause)]
  let s := s.firstNote Reg.MEM_FLAGS_disc 0x0915 0 addr
  match r with
  | .hart c => s.privateSrc c 8
  | _ => s

/-! ### Semaphores (Table 13-8) -/

/-- A semaphore that was free goes to a requester, which asked to wait or not. -/
def semGrant (s : Chip) (r : Requester) (n : Nat) (wait : Bool) : Chip :=
  let s := s.semSet n (reqCode r)
  { s with sem := { s.sem with now := (n, r, wait) :: s.sem.now.filter fun g => g.1 != n } }

/-- The grant of this tick that a request of a higher rank takes over (R32). -/
def semBeaten (s : Chip) (r : Requester) (n : Nat) : Option (Requester × Bool) :=
  match s.sem.now.find? fun g => g.1 = n with
  | some g => if reqCode g.2.1 = s.semOwner n && reqRank r < reqRank g.2.1 then some g.2 else none
  | none => none

/-- A requester joins the queue of a semaphore. -/
def semQueue (s : Chip) (r : Requester) (n : Nat) : Chip :=
  if s.sem.waits.any fun w => w.1 = n && w.2 = r then s
  else { s with sem := { s.sem with waits := s.sem.waits ++ [(n, r)] } }

/-- A request for a semaphore (Table 13-8). Of the requests of one tick for a free semaphore the highest-ranked has it, in
whatever order they arrive (R32). -/
def semAsk (s : Chip) (r : Requester) (n : Nat) (wait : Bool) : Chip :=
  if s.semOwner n = 0 then s.semGrant r n wait
  else if s.semOwner n = reqCode r then s
  else
    match s.semBeaten r n with
    | some (q, again) =>
      let s := s.semGrant r n wait
      if again then s.semQueue q n else s
    | none => if wait then s.semQueue r n else s

def semTake (s : Chip) (r : Requester) (n : Nat) : Chip := s.semAsk r n false

def semTakeOrWait (s : Chip) (r : Requester) (n : Nat) : Chip := s.semAsk r n true

def semGive (s : Chip) (r : Requester) (n : Nat) : Chip :=
  if reqCode r != 0 && s.semOwner n = reqCode r then s.semRelease n
  else (s.put Reg.MEM_FLAGS_sem_bad true).note 0x0916 0 (n + 256 * reqCode r)

def semCancel (s : Chip) (r : Requester) (n : Nat) : Chip :=
  { s with sem := { s.sem with waits := s.sem.waits.filter fun w => !(w.1 = n && w.2 = r) } }

/-- A write to SEM_REQ. -/
def semReq (s : Chip) (r : Requester) (d : Nat) : Chip :=
  let n := part d 0 5
  match part d 8 2 with
  | 0 => s.semTake r n
  | 1 => s.semGive r n
  | 2 => s.semTakeOrWait r n
  | _ => s.semCancel r n

/-- SEM_GOT as a requester reads it. -/
def semGot (s : Chip) (r : Requester) : Nat :=
  (List.range 32).foldl (fun w n => if reqCode r != 0 && s.semOwner n = reqCode r then w + 2 ^ n else w) 0

/-! ### Watchdogs (R532) -/

/-- The per-core registers of a core answer: it is a hart of its own. -/
def isHart (s : Chip) (c : Nat) : Bool := s.hartOf c == c

/-- `n` halves of the watchdog's time have passed since its latest kick. -/
def wdtPast (s : Chip) (c n : Nat) : Bool :=
  2 * (nth s.hart c).wdtAt + n * ms (max 2 (s.get (Reg.WDT_C_tmo c))) ≤ 2 * s.now

/-- A write to WDT_Cc: one with the key starts the watchdog or restarts its count. -/
def wdtWrite (s : Chip) (c d : Nat) : Chip :=
  if !s.isHart c || part d 16 16 != 0x3C5A then s
  else
    let s := s.modHart c fun h => { h with wdtWarned := false, wdtAt := s.now }
    if s.on (Reg.WDT_C_run c) then s
    else s.sets [(Reg.WDT_C_tmo c, part d 8 8), (Reg.WDT_C_en c, bitOf d 0), (Reg.WDT_C_run c, bitOf d 0)]

/-! ### Control and status registers -/

/-- The hart's mode may read CSR n: user mode the user CSRs alone, and of the counters those that mcounteren opens (R511). -/
def csrOpen (h : HartS) (n : Nat) : Bool :=
  h.machine || (n / 0x100 % 4 == 0 && (n / 0x100 != 0xC || hasBit h.mcounteren (n % 0x20)))

/-- A CSR of the hart of core c as it reads in the hart's mode: the fixed values of Table 13-1, the registers with state, the
counters (R510, R511); none where the core has no such CSR for that mode. The numbers and the places of the bits are those of the
specifications that R510 names. -/
def csr (s : Chip) (c n : Nat) : Option Nat :=
  let h := nth s.hart (s.hartOf c)
  let word (v i : Nat) : Nat := part v (32 * i) 32
  let pmp (i : Nat) : Nat := (List.range 4).foldl (fun w j => w + lookupD 0 (4 * i + j) h.pmpCfg * 2 ^ (8 * j)) 0
  if !csrOpen h n then none
  else if n = 0x301 then some 0x40101124
  else if n = 0xF11 ∨ n = 0xF12 then some 0
  else if n = 0xF13 then some 0x2612
  else if n = 0xF14 then some (s.hartOf c)
  else if n = 0x300 then some (8 * b2n h.mie + 128 * b2n h.mpie + 0x1800 * b2n h.mpp)
  else if n = 0x304 then some (2048 * b2n h.meie)
  else if n = 0x344 then some (2048 * b2n (s.line (s.hartOf c)))
  else if n = 0x305 then some (h.mtvec / 4 * 4)
  else if n = 0x306 then some h.mcounteren
  else if n = 0x340 then some h.mscratch
  else if n = 0x341 then some h.mepc
  else if n = 0x342 then some h.mcause
  else if n = 0x343 then some h.mtval
  else if n = 1 then some (part h.fcsr 0 5)
  else if n = 2 then some (part h.fcsr 5 3)
  else if n = 3 then some (part h.fcsr 0 8)
  else if n = 0xC00 ∨ n = 0xB00 then some (word h.cycle 0)
  else if n = 0xC80 ∨ n = 0xB80 then some (word h.cycle 1)
  else if n = 0xC01 then some (word s.now 0)
  else if n = 0xC81 then some (word s.now 1)
  else if n = 0xC02 ∨ n = 0xB02 then some (word h.instret 0)
  else if n = 0xC82 ∨ n = 0xB82 then some (word h.instret 1)
  else if (0xB03 ≤ n ∧ n < 0xB20) ∨ (0xB83 ≤ n ∧ n < 0xBA0) ∨ (0x323 ≤ n ∧ n < 0x340) ∨ (0xC03 ≤ n ∧ n < 0xC20)
      ∨ (0xC83 ≤ n ∧ n < 0xCA0) then some 0
  else if 0x3A0 ≤ n ∧ n < 0x3A4 then some (pmp (n - 0x3A0))
  else if 0x3B0 ≤ n ∧ n < 0x3C0 then some (lookupD 0 (n - 0x3B0) h.pmpAddr)
  else none

/-! ### Interrupt registers -/

/-- IRQ_ROUTEw takes a word: the fixed routes and the reserved sources keep their bytes (R535, Table 13-9); the route of a
pending source stays in effect until the next tick (R534). -/
def routeWrite (s : Chip) (w d : Nat) : Chip :=
  forEach (List.range 4) (fun b t =>
    let n := 4 * w + b
    if fixedRoute n || (78 ≤ n && n ≤ 95) then t
    else
      let t := if t.pend n then { t with irq := { t.irq with routes := insertAt n (t.route n) t.irq.routes } } else t
      t.sets [(Reg.IRQ_ROUTE_en w b, bitOf d (8 * b + 7)), (Reg.IRQ_ROUTE_sticky w b, bitOf d (8 * b + 6)),
      (Reg.IRQ_ROUTE_group w b, part d (8 * b + 4) 2), (Reg.IRQ_ROUTE_target w b, part d (8 * b) 2)]) s

/-- IRQ_PENDw written: the latches of edge and sticky sources clear (R536), but for those that a pulse of this tick set
(R29). -/
def pendClear (s : Chip) (w d : Nat) : Chip :=
  let m := d % 2 ^ 32 * 2 ^ (32 * w)
  { s with irq := { s.irq with latch := s.irq.latch - (s.irq.latch &&& (m - (m &&& s.irq.pulsed))) } }

/-- IRQ_SWI written (R533). -/
def swiWrite (s : Chip) (d : Nat) : Chip :=
  forEach (List.range 16) (fun i t =>
    if hasBit d i && t.isHart (i / 4) then t.privateSrc (i / 4) (i % 4) else t) s

/-- A pending source reaches its hart's line: group 0, or its group has released (R538). -/
def delivered (s : Chip) (c n : Nat) : Bool := s.routeGroup n == 0 || (s.group c (s.routeGroup n)).released

def privPending (s : Chip) (c : Nat) : Bool :=
  (s.get (Reg.IRQ_C_PRIV_pend c) &&& s.get (Reg.IRQ_C_PRIV_en c)) != 0

/-- Bits 4:0 of IRQ_Cc_SUM. -/
def sumLow (s : Chip) (c : Nat) : Nat :=
  let l := (s.pendFor c).filter fun n => s.delivered c n
  (List.range 4).foldl (fun w i => if l.any fun n => n / 32 == i then w + 2 ^ i else w) 0 + 16 * b2n (s.privPending c)

/-- IRQ_Cc_SUM. -/
def sumWord (s : Chip) (c : Nat) : Nat :=
  let held (g : Nat) : Nat := b2n ((s.group c g).count > 0 && !(s.group c g).released)
  s.sumLow c + 256 * b2n (s.line c) + 512 * b2n (nth s.hart c).wfi
    + 65536 * (held 1 + 2 * held 2 + 4 * held 3)

/-- A read of IRQ_Cc_SUM by its own hart (R537). -/
def sumRead (s : Chip) (c : Nat) : Chip :=
  if hasBit s.irq.armed c then
    let zero := s.sumLow c == 0
    let s := { s with irq := { s.irq with armed := clrBit s.irq.armed c } }
    if zero then s.bump (Reg.IRQ_SPURIOUS_cnt c) 255 else s
  else s

/-- A read of TIM_NOW_LO latches the high word for its requester (Table 13-17). -/
def timLatch (s : Chip) (r : Requester) : Chip :=
  { s with irq := { s.irq with hiLatch := putAt 0 (reqCode r) (s.now / 2 ^ 32 % 2 ^ 32) s.irq.hiLatch } }

/-- MEM_ECC_INJ takes a word (R525). -/
def injWrite (s : Chip) (d : Nat) : Chip :=
  let s := s.sets [(Reg.MEM_ECC_INJ_bits, part d 4 2), (Reg.MEM_ECC_INJ_mem, part d 0 3)]
  if hasBit d 8 then s.put Reg.MEM_ECC_INJ_arm true else s

end Sys2Proof.Machine.Chip
end

