-- ==== Sys2Proof/Machine/Forms.lean ====
section
/-! DEFINITION. The forms of operands that carry lists of bytes or words: which of them an event of the hardware can
spell. -/

namespace Sys2Proof.Machine

/-- Bytes of a data length code. -/
def dlcBytes (d : Nat) : Nat :=
  match d with
  | 9 => 12 | 10 => 16 | 11 => 20 | 12 => 24 | 13 => 32 | 14 => 48 | 15 => 64
  | n => min n 8

/-- Bytes of data that a frame carries: classical frames carry at most 8. -/
def frameLen (f : CanFrame) : Nat :=
  if f.rtr then 0 else if f.fdf then dlcBytes f.dlc.val else min 8 f.dlc.val

/-- A frame that can stand on a bus: its data has the length that its code gives, a remote frame is classical, a bit-rate
switch is FD, a base identifier stands in bits 28:18. -/
def frameWf (f : CanFrame) : Bool :=
  f.data.length == frameLen f && !(f.rtr && f.fdf) && (f.fdf || !f.brs) && (f.ide || f.id.val % 2 ^ 18 == 0)

/-- What an identity memory answers: at least the record, at most a whole memory (R481). -/
def idBytesWf (mem : Option (List Byte)) : Bool :=
  match mem with
  | some l => 256 ≤ l.length && l.length ≤ 4096
  | none => true

/-- One reading for each of the eight die sensors (R482). -/
def sensorsWf (temps : List Word) : Bool := temps.length == 8

/-- The length of a host-port READ (R549): an even number of bytes, at least 2. -/
def readWf (n : Fin 4097) : Bool := n.val % 2 == 0 && 2 ≤ n.val

/-- The data of a host-port WRITE (R549): an even number of bytes, 2 to 4,096. -/
def writeWf (l : List Byte) : Bool := l.length % 2 == 0 && 2 ≤ l.length && l.length ≤ 4096

/-- How HP_CS_N ends a command: the whole clocks of a WRITE carry two bytes each. -/
def csWf (r : CsRise) : Bool :=
  match r with
  | .whole _ l => writeWf l
  | .within _ l => l.length % 2 == 0 && l.length ≤ 4094
  | _ => true

/-- An acyclic frame carries at most 1,008 bytes (R629). -/
def acyclicWf (f : AcyclicFrame) : Bool := f.data.length ≤ 1008

/-- A frame of the twin copy carries at most 1,024 bytes (R638). -/
def copyWf (l : List Byte) : Bool := l.length ≤ 1024

end Sys2Proof.Machine
end

