-- ==== Sys2Proof/Machine/ReachOps.lean ====
section
/-! DEFINITION. How an access reaches a unit: the unit and the region at an address, accesses that a region's reset discards
(R524), the clock gate that an access opens (R16, R113), and commands that are writes to a unit's register (R13). -/

namespace Sys2Proof.Machine.Chip

/-- The unit with a reset bit of its own whose register block holds an address. -/
def unitOf (a : Nat) : Option UnitId :=
  let o := a % 0x100000
  if a / 0x100000 = 0x413 ∧ o < 0x200 then some (.pos (Fin.ofNat 2 (o / 0x100)))
  else if a / 0x100000 = 0x400 ∧ o < 0x40000 ∧ o % 0x10000 / 0x1000 = 2 then some (.cle (Fin.ofNat 4 (o / 0x10000)))
  else if a / 0x100000 = 0x410 ∧ o < 0x1000 then some (.pwm (Fin.ofNat 16 (o / 0x100)))
  else if a / 0x100000 = 0x411 ∧ o < 0x1800 then some (.isl (Fin.ofNat 12 (o / 0x200)))
  else if a / 0x100000 = 0x416 ∧ o < 0x4000 then some (.can (Fin.ofNat 4 (o / 0x1000)))
  else if 0x41700000 ≤ a ∧ a < 0x41701000 then some .ring
  else none

/-- The region whose unit holds a register: clusters, slices, fabric ports (R524). -/
def unitRgn (a : Nat) : Option Nat :=
  if 0x40000000 ≤ a ∧ a < 0x40040000 then some (rgnOf (a / 0x10000 % 4))
  else if 0x41000000 ≤ a ∧ a < 0x41001000 then some (sliceRgn (a % 0x1000 / 0x100))
  else (fabricPort a).map fun p => p / 16

/-- A requester inside region g. -/
def insideRgn (g : Nat) : Requester → Bool
  | .hart c => c.val / 2 == g
  | .fabric p => p.val / 16 == g
  | _ => false

/-- An access of a requester is discarded for the region's reset (R524). -/
def rgnShut (s : Chip) (r : Requester) (a : Nat) : Bool :=
  match unitRgn a with
  | some g => (s.region g).inReset && !insideRgn g r
  | none => false

/-- The region whose clock an access to a unit or a Larder share needs. -/
def clockRgn (a : Nat) : Option Nat :=
  if 0x42000000 ≤ a ∧ a < 0x42040000 then some (rgnOf (a / 0x10000 % 4)) else unitRgn a

/-- An access reaches a unit or a Larder share: the gate of its region opens (R16, R113). -/
def reachGate (s : Chip) (a : Nat) : Chip :=
  match clockRgn a with
  | some g => if s.gated g then s.openGate g else s
  | none => s

/-- Core c is a hart of a region that is out of reset. -/
def coreUp (s : Chip) (c : Nat) : Bool := s.isHart c && !(s.region (c / 2)).inReset

/-- Core c executes: it is up and does not wait in WFI. -/
def coreRuns (s : Chip) (c : Nat) : Bool := s.coreUp c && !(nth s.hart c).wfi

/-- An instruction of hart c retires (R511). -/
def retire (s : Chip) (c : Nat) : Chip := s.modHart c fun h => { h with instret := (h.instret + 1) % 2 ^ 64 }

/-- A requester presents requests: a core only where it executes, so never the second core of a locked pair (R27). -/
def reqRuns (s : Chip) : Requester → Bool
  | .hart c => s.coreRuns c
  | _ => true

/-- A write to the register at a is taken as it comes: the region is out of reset and its clock runs (R524, R16), the unit stands in no
reset (R13), the engine is not lent (Table 05-9). -/
def takes (s : Chip) (a : Nat) : Bool :=
  !s.rgnShut .host a && ((clockRgn a).all fun g => !s.gated g) && ((unitOf a).all fun u => !s.bus.resets.contains u)
    && !s.lentEngine a

/-- A command that is a write of word d to the register at a: discarded where the register's region is in reset (R524), held
where its unit is in its reset (R13), refused in an engine that is lent (Table 05-9), else its effect. The row names no requester; where one matters, the host is taken
(log entry 56). -/
def rowWrite (s : Chip) (a d : Nat) (f : Chip → Chip) : Chip :=
  if s.rgnShut .host a then s.discard .host a true 1
  else
    let s := s.reachGate a
    match unitOf a with
    | some u =>
      if s.bus.resets.contains u then { s with bus := { s.bus with held := s.bus.held ++ [⟨.host, a, 4, d, 0⟩] } }
      else if s.lentEngine a then s.refuse a
      else f s
    | none => if s.lentEngine a then s.refuse a else f s

end Sys2Proof.Machine.Chip
end

