-- ==== Sys2Proof/Machine/HwOps.lean ====
section
/-! DEFINITION. Shared operations of the host port and the Hallway (chapter 14): port addresses, ownership flags, rings,
descriptors, completion records, announcements; bytes stored into memory by a requester. -/

namespace Sys2Proof.Machine

/-- A core address lies in a register block of Table 13-3. -/
def listedBlock (a : Nat) : Bool :=
  (0x40000000 ≤ a && a < 0x40040000) || (0x41000000 ≤ a && a < 0x41002000) || (0x41100000 ≤ a && a < 0x41102000)
  || (0x41200000 ≤ a && a < 0x41209000) || (0x41300000 ≤ a && a < 0x41300200) || (0x41400000 ≤ a && a < 0x41400200)
  || (0x41500000 ≤ a && a < 0x41500300) || (0x41600000 ≤ a && a < 0x41604000) || (0x41640000 ≤ a && a < 0x41641000)
  || (0x41700000 ≤ a && a < 0x41701000) || (0x41710000 ≤ a && a < 0x41711000) || (0x41800000 ≤ a && a < 0x41801000)
  || (0x41900000 ≤ a && a < 0x41901000) || (0x41A00000 ≤ a && a < 0x41A01000) || (0x41B00000 ≤ a && a < 0x41B01000)
  || (0x41C00000 ≤ a && a < 0x41C21000)

/-- What a port address reaches (Table 14-2): a buffer byte or a flag word by core address, a register, or nothing. -/
inductive PortTarget where
  | buffer (a : Nat)
  | flag (a : Nat)
  | register (a : Nat)
  | outside
deriving DecidableEq, Repr

/-- The target of a port address. -/
def portTarget (p : Nat) : PortTarget :=
  if p < 0x40000 then .buffer (0x30000000 + p)
  else if p < 0x41000 then .flag (0x30000000 + p)
  else if 0x01000000 ≤ p ∧ p < 0x03000000 then
    if listedBlock (p + 0x3F000000) then .register (p + 0x3F000000) else .outside
  else .outside

/-- The bit of HW_HOSTWR for a register address (Table 14-10). -/
def hostBit (a : Nat) : Nat :=
  if a / 0x1000000 = 0x40 then 0 else a / 0x100000 % 16 + 1

/-- A run of bytes cut at word boundaries: (address, bytes). -/
def chunksFrom : Nat → Nat → List Byte → List (Nat × List Byte)
  | 0, _, _ => []
  | _, _, [] => []
  | f + 1, a, l =>
    let n := 4 - a % 4
    (a, l.take n) :: chunksFrom f (a + (l.take n).length) (l.drop n)

def chunks (a : Nat) (l : List Byte) : List (Nat × List Byte) := chunksFrom l.length a l

namespace Chip

/-! ### Bytes stored by a requester -/

/-- Bytes within one protected word at a memory key: a partial write onto a bad word is discarded (R524), a core's write
takes its check bits from MEM_ECC_INJ (R525). -/
def storeWord (s : Chip) (r : Requester) (key addr : Nat) (l : List Byte) : Chip :=
  if (memOf key).isNone then s.setBytes key l
  else if l.length < 4 && lookupD 0 (eccUnit key) s.ecc ≥ 2 then s.discard r addr true 2
  else
    let s := s.setBytes key l
    match r with
    | .hart _ => s.eccWritten key
    | _ => s.setEcc key 0

/-- Bytes stored by a requester at consecutive keys. -/
def storeRun (s : Chip) (r : Requester) (a : Nat) (l : List Byte) : Chip :=
  forEach (chunks a l) (fun p t => t.storeWord r p.1 p.1 p.2) s

/-- Check bits of a range are good. -/
def eccFresh (s : Chip) (a n : Nat) : Chip := { s with ecc := s.ecc.filter fun p => p.1 < a || a + n ≤ p.1 }

/-- A Larder byte whose write is refused (R218, R506). -/
def ldrRefused (s : Chip) (a : Nat) : Bool :=
  let k := (a - 0x42000000) / 0x10000 % 4
  match ldrTable (a % 0x8000) with
  | none => false
  | some t => a % 0x10000 / 0x8000 == s.ldrAct k t || (t == 2 && s.on (Reg.CHM_C_CFG_age_en k))

/-! ### The port -/

/-- HOST_DENIED (R549). -/
def hostDenied (s : Chip) (p : Nat) : Chip :=
  let s := (s.modHw fun h => { h with err := true }).sets [(Reg.HW_FLAGS_deny, 1), (Reg.HW_DENY_addr, p)]
  s.note 0x0A10 0 p

/-- PORT_PROTO (R546). -/
def portProto (s : Chip) (op : Nat) (mismatch : Bool) : Chip :=
  let s := (s.modHw fun h => { h with err := true }).put Reg.HW_FLAGS_proto true
  s.note 0x0A12 0 (op % 256 + 256 * b2n mismatch)

/-- Bytes of host writes accepted and not yet in effect. -/
def portHeld (s : Chip) : Nat :=
  ((s.bus.posted ++ s.bus.held).filter fun p => p.req = .host).foldl (fun n p => n + p.size) 0

/-- A host may write the register range (R550). -/
def hostMay (s : Chip) (a : Nat) : Bool := hasBit (s.get Reg.HW_HOSTWR_wr) (hostBit a)

/-- READ_STATUS, first byte (Table 14-3). -/
def portStatus (s : Chip) : Nat :=
  b2n (s.portHeld + 512 ≤ 4096) + 2 * b2n s.hw.late + 4 * b2n s.hw.err + 8 * b2n s.hw.rst
    + 16 * b2n (s.on Reg.CFG_BOOT_STAT_recovery) + 32 * b2n (s.on Reg.HW_STAT_mode8d)

/-- Bytes that the port puts out. -/
def portOut (s : Chip) (l : List Byte) : Chip := s.modHw fun h => { h with out := l }

/-! ### Ownership flags (R551 to R554) -/

/-- The address of buffer i's flag word, and of the buffer. -/
def flagAddr (i : Nat) : Nat := 0x30040000 + 4 * i
def bufAddr (i : Nat) : Nat := 0x30000000 + 256 * i

/-- The owner of buffer i: 0 HOST, 1 DEVICE. -/
def bufOwner (s : Chip) (i : Nat) : Nat := (s.byte (flagAddr i)).toNat % 2

/-- The owner set; a change counts in gen. -/
def flagPut (s : Chip) (i o : Nat) : Chip :=
  if s.bufOwner i = o then s
  else
    let s := s.setByte (flagAddr i) (BitVec.ofNat 8 o)
    s.setByte (flagAddr i + 1) (s.byte (flagAddr i + 1) + 1)

/-- OWN_VIOLATION (R552). -/
def ownViolation (s : Chip) (i : Nat) : Chip :=
  (s.put Reg.HW_FLAGS_own_viol true).note 0x0A11 0 i

/-- A value written to a flag word (R553). -/
def flagWrite (s : Chip) (r : Requester) (i v : Nat) : Chip :=
  if r = .host ∧ v % 2 = 0 ∧ s.bufOwner i = 1 then s.ownViolation i else s.flagPut i (v % 2)

/-- One compare-and-swap (R554): the flag and the requester's result; a host's forbidden swap is recorded where it is `new`. -/
def casOne (s : Chip) (r : Requester) (d : Nat) (new : Bool) : Chip :=
  let i := part d 16 10
  let old := s.bufOwner i
  let hit := old == bitOf d 1
  let bad := hit && (r == .host) && bitOf d 0 == 0 && old == 1
  let s := if bad then (if new then s.ownViolation i else s) else if hit then s.flagPut i (bitOf d 0) else s
  let changed := hit && !bad && old != bitOf d 0
  s.modHw fun h => { h with cas := (reqCode r, (old == 1, changed)) :: h.cas.filter fun p => p.1 != reqCode r }

/-- A request takes its place among those of its tick: after every one of its rank or a higher one. -/
def casInsert (r : Requester) (d : Nat) : List (Requester × Nat) → List (Requester × Nat)
  | [] => [(r, d)]
  | p :: l => if reqRank r < reqRank p.1 then (r, d) :: p :: l else p :: casInsert r d l

/-- The flag of buffer i as it stood before the swaps of this tick. -/
def casUndo (s : Chip) (x : CasTick) : Chip :=
  (s.setByte (flagAddr x.buf) (BitVec.ofNat 8 x.owner)).setByte (flagAddr x.buf + 1) x.gen

/-- A write to HW_CAS (R554). The swaps of one tick on one flag are evaluated in the order of Table 01-10, in whatever order
they arrive (R31). -/
def casWrite (s : Chip) (r : Requester) (d : Nat) : Chip :=
  let i := part d 16 10
  let own := s.bufOwner i
  let gen := s.byte (flagAddr i + 1)
  let x := match s.hw.swaps.find? fun x => x.buf = i && x.endO = own && x.endG = gen with
    | some x => x
    | none => ⟨i, own, gen, own, gen, []⟩
  let reqs := casInsert r d x.reqs
  let s := if x.reqs.isEmpty then s else s.casUndo x
  let s := forEach reqs (fun p t => t.casOne p.1 p.2 (p = (r, d))) s
  let y := { x with reqs := reqs, endO := s.bufOwner i, endG := s.byte (flagAddr i + 1) }
  s.modHw fun h => { h with swaps := y :: h.swaps.filter fun z => z.buf != i }

/-- HW_CAS_RES as a requester reads it. -/
def casRes (s : Chip) (r : Requester) : Nat :=
  match s.hw.cas.find? fun p => p.1 = reqCode r with
  | some p => 256 + 2 * b2n p.2.1 + b2n p.2.2
  | none => 0

/-! ### Rings (R555 to R560) -/

/-- Entries of a submission ring and of a completion ring. -/
def sqSize (s : Chip) (n : Nat) : Nat := 2 ^ min 8 (max 3 (s.get (Reg.HW_SQ_CFG_size n)))
def cqSize (s : Chip) (c : Nat) : Nat := 2 ^ min 8 (max 4 (s.get (Reg.HW_CQ_CFG_size c)))

/-- The buffers of a ring: first, count. -/
def sqBufs (s : Chip) (n : Nat) : Nat × Nat := (s.get (Reg.HW_SQ_CFG_base n), s.sqSize n / 8)
def cqBufs (s : Chip) (c : Nat) : Nat × Nat := (s.get (Reg.HW_CQ_CFG_base c), s.cqSize c / 16)

/-- The buffers of the enabled rings. -/
def ringsOn (s : Chip) : List (Nat × Nat) :=
  ((List.range 8).filter fun n => s.on (Reg.HW_SQ_CFG_en n)).map s.sqBufs
    ++ ((List.range 8).filter fun c => s.on (Reg.HW_CQ_CFG_en c)).map s.cqBufs

/-- The ring passes buffer 1,023 or overlaps an enabled ring. -/
def ringBad (s : Chip) (r : Nat × Nat) : Bool :=
  1024 < r.1 + r.2 || s.ringsOn.any fun o => r.1 < o.1 + o.2 && o.1 < r.1 + r.2

/-- QUEUE_BAD. -/
def queueBad (s : Chip) (n cq cause : Nat) : Chip :=
  (s.put Reg.HW_FLAGS_queue_bad true).note 0x0A14 0 (n + 16 * cq + 256 * cause)

/-- HW_SQn_CFG written (R555, R565). -/
def sqCfgWrite (s : Chip) (n d : Nat) : Chip :=
  if s.on (Reg.HW_SQ_CFG_en n) then
    if hasBit d 31 then s else s.hwAbort n false
  else
    let s := s.sets [(Reg.HW_SQ_CFG_cq n, part d 28 3), (Reg.HW_SQ_CFG_owner n, part d 25 3), (Reg.HW_SQ_CFG_sw_en n, bitOf d 24),
      (Reg.HW_SQ_CFG_hart n, part d 22 2), (Reg.HW_SQ_CFG_size n, part d 16 4), (Reg.HW_SQ_CFG_base n, part d 0 10)]
    if !hasBit d 31 then s
    else if s.ringBad (s.sqBufs n) then s.queueBad n 0 1
    else s.put (Reg.HW_SQ_CFG_en n) true

/-- HW_CQc_CFG written (R555); a ring starts at place 0 with phase 1 (R559). -/
def cqCfgWrite (s : Chip) (c d : Nat) : Chip :=
  if s.on (Reg.HW_CQ_CFG_en c) then
    if hasBit d 31 then s else s.put (Reg.HW_CQ_CFG_en c) false
  else
    let s := s.sets [(Reg.HW_CQ_CFG_host c, bitOf d 30), (Reg.HW_CQ_CFG_wake c, bitOf d 29), (Reg.HW_CQ_CFG_size c, part d 16 4),
      (Reg.HW_CQ_CFG_base c, part d 0 10)]
    if !hasBit d 31 then s
    else if s.ringBad (s.cqBufs c) then s.queueBad c 1 1
    else s.sets [(Reg.HW_CQ_CFG_en c, 1), (Reg.HW_CQ_STAT_phase c, 1), (Reg.HW_CQ_STAT_tail c, 0), (Reg.HW_CQ_HEAD_head c, 0),
      (Reg.HW_CQ_STAT_released c, 0), (Reg.HW_CQ_STAT_unann c, 0)]

/-- The requester that owns a queue. -/
def sqOwner (s : Chip) (n : Nat) : Option Requester :=
  match s.get (Reg.HW_SQ_CFG_owner n) with
  | 0 => some .host
  | 1 => some (.hart 0)
  | 2 => some (.hart 1)
  | 3 => some (.hart 2)
  | 4 => some (.hart 3)
  | _ => none

/-- HW_SQn_TAIL written, its earlier writes in effect (R556). -/
def sqTailWrite (s : Chip) (r : Requester) (n d : Nat) : Chip :=
  let v := part d 0 8
  if s.sqOwner n != some r then s.queueBad n 0 2
  else if !s.on (Reg.HW_SQ_CFG_en n) then s.queueBad n 0 3
  else if s.sqSize n ≤ v then s.queueBad n 0 4
  else (s.set (Reg.HW_SQ_TAIL_tail n) v).pulse 56

/-- Records of ring c not yet consumed. -/
def cqPending (s : Chip) (c : Nat) : Nat :=
  (s.get (Reg.HW_CQ_STAT_tail c) + s.cqSize c - s.get (Reg.HW_CQ_HEAD_head c) % s.cqSize c) % s.cqSize c

/-- Descriptors in flight bound to ring c. -/
def cqBound (s : Chip) (c : Nat) : Nat :=
  ((List.range 8).filter fun n => s.get (Reg.HW_SQ_CFG_cq n) = c).foldl (fun a n => a + (s.hwQ n).flight.length) 0

/-- The engine may fetch queue n's head entry (R557). -/
def fetchable (s : Chip) (n : Nat) : Bool :=
  let c := s.get (Reg.HW_SQ_CFG_cq n)
  s.on (Reg.HW_SQ_CFG_en n) && (s.hwQ n).abort.isNone && s.get (Reg.HW_SQ_STAT_head n) != s.get (Reg.HW_SQ_TAIL_tail n)
    && s.hwInFlight < 256 && s.on (Reg.HW_CQ_CFG_en c) && s.cqPending c + s.cqBound c + 1 ≤ s.cqSize c - 1

/-- One entry is fetched from the next queue in turn that may be served. -/
def fetchEntry (s : Chip) : Chip :=
  match ((List.range 8).map fun i => (s.hw.turn + i) % 8).find? s.fetchable with
  | none => s
  | some n =>
    let e := s.get (Reg.HW_SQ_STAT_head n)
    let a := bufAddr (s.get (Reg.HW_SQ_CFG_base n)) + 32 * e
    let w := (List.range 8).map fun i => s.load (a + 4 * i) 4
    let s := s.modHwQ n fun q => { q with flight := q.flight ++ [{ entry := e, words := w }] }
    let s := s.modHw fun h => { h with turn := (n + 1) % 8 }
    (s.set (Reg.HW_SQ_STAT_head n) ((e + 1) % s.sqSize n)).hwShow n

/-! ### Announcements (R567, R568) -/

/-- HOST_IRQ_N. -/
def hwIrq (s : Chip) : Chip :=
  let due := (List.range 8).any fun c =>
    s.on (Reg.HW_CQ_CFG_host c) && s.on (Reg.HW_CQ_STAT_released c) && s.cqPending c != 0
  s.put Reg.HW_STAT_irq (due && !s.on Reg.HW_STAT_sleep)

/-- A host ring is released where its condition stands, and its release ends where nothing is left to consume. -/
def cqSettle (s : Chip) (c : Nat) : Chip :=
  if s.on (Reg.HW_CQ_STAT_released c) then
    if s.cqPending c = 0 then (s.set (Reg.HW_CQ_STAT_released c) 0).hwIrq else s.hwIrq
  else
    let n := s.get (Reg.HW_CQ_STAT_unann c)
    let due := max 1 (s.get (Reg.HW_CQ_MOD_count c)) ≤ n || s.on Reg.HW_IDLE_idle || s.on Reg.HW_STAT_sleep
    if s.on (Reg.HW_CQ_CFG_host c) && n > 0 && due then
      (s.sets [(Reg.HW_CQ_STAT_released c, 1), (Reg.HW_CQ_STAT_unann c, 0)]).hwIrq
    else s.hwIrq

/-- A record on ring c is to be announced. -/
def cqAnnounce (s : Chip) (c : Nat) : Chip :=
  if !s.on (Reg.HW_CQ_CFG_host c) then s
  else
    let s := if s.on Reg.HW_STAT_sleep then
        if s.on (Reg.HW_CQ_CFG_wake c) then s.put Reg.HW_STAT_wake true else s.bump Reg.HW_HELD_held 65535
      else s
    let s := if s.on (Reg.HW_CQ_STAT_released c) then s
      else
        let s := if s.get (Reg.HW_CQ_STAT_unann c) = 0 then
            s.modHw fun h => { h with annAt := updNth (fun _ => s.now) c h.annAt }
          else s
        s.bump (Reg.HW_CQ_STAT_unann c) 255
    s.cqSettle c

/-! ### Descriptors (R561 to R566) -/

/-- The range of nbuf of an opcode. -/
def nbufOk (op n : Nat) : Bool :=
  match op with
  | 3 => n == 0
  | 7 => 1 ≤ n && n ≤ 5
  | 8 => n ≤ 1024
  | _ => 1 ≤ n && n ≤ 1024

/-- An address range lies within [lo, hi). -/
def inside (a n lo hi : Nat) : Bool := lo ≤ a && a + n ≤ hi

def inSram (a n : Nat) : Bool := inside a n 0x20000000 0x20200000
def inLarder (a n : Nat) : Bool := inside a n 0x42000000 0x42040000
def inFlash (a n : Nat) : Bool := inside a n 0x10000000 0x10800000 || inside a n 0x10800000 0x10810000
def inBanks (a n : Nat) : Bool := inside a n 0x41208000 0x41208800

/-- A flash range meets a device-owned area (Table 13-4). -/
def deviceOwned (a n : Nat) : Bool :=
  let meets (lo hi : Nat) : Bool := a < hi && lo < a + n
  meets 0x10800000 0x10802000 || meets 0x1080A000 0x1080E000 || meets 0x1080F000 0x10810000

/-- A flash range meets the bank that runs, while a region runs. -/
def runningBank (s : Chip) (a n : Nat) : Bool :=
  let lo := 0x10000000 + 0x400000 * s.get Reg.CFG_BOOT_STAT_bank
  a < lo + 0x400000 && lo < a + n && (!(s.region 0).inReset || !(s.region 1).inReset)

/-- The RANGE check of an opcode: the info value, or none where the range is good. -/
def rangeBad (s : Chip) (d : DescS) : Option Nat :=
  let a := d.addr
  let n := d.len
  match d.opcode with
  | 1 => if inSram a n || inLarder a n then none else some 1
  | 2 => if inSram a n || inFlash a n || inLarder a n || inBanks a n then none else some 1
  | 3 =>
    if !inFlash a n then some 1 else if a % 4096 != 0 || n % 4096 != 0 then some 3
    else if deviceOwned a n then some 4 else if s.runningBank a n then some 2 else none
  | 4 =>
    if !inFlash a n then some 1 else if a % 256 != 0 || n % 256 != 0 then some 3
    else if deviceOwned a n then some 4 else if s.runningBank a n then some 2 else none
  | 5 => if d.arg0 < 4 then none else some 1
  | 7 => if d.arg0 < 6 && d.arg1 < 3 then none else some 1
  | _ => none

/-- The start check of a descriptor in the order of Table 14-7: status and info of the first failure. REFUSED of a trace on
a frozen bank names no code of the spec: it is a free value. -/
def startCheck (s : Chip) (n : Nat) (d : DescS) : Option (Nat × Nat) :=
  let op := d.opcode
  let bufs := if op = 3 then [] else (List.range d.nbuf).map fun i => d.buf + i
  if op = 0 ∨ 8 < op then some (1, 0)
  else if d.flags / 2 != 0 then some (1, 1)
  else if d.word 6 != 0 || d.word 7 != 0 then some (1, 0x18)
  else if !nbufOk op d.nbuf || 1024 < d.buf + d.nbuf
      || ((op = 1 || op = 2) && (d.len = 0 || 256 * d.nbuf < d.len)) || (op = 4 && 256 * d.nbuf < d.len) then some (2, 0)
  else
    match bufs.find? fun b => s.bufOwner b = 0 with
    | some b => some (3, b)
    | none =>
      match s.rangeBad d with
      | some i => some (4, i)
      | none =>
        if op = 5 && s.on (Reg.ADC_C_RB_CTL_freeze d.arg0) then some (5, s.freeVal)
        else if op = 8 then
          let h := s.get (Reg.HW_SQ_CFG_hart n)
          if !s.on (Reg.HW_SQ_CFG_sw_en n) || s.on Reg.CFG_BOOT_STAT_recovery || (s.region (h / 2)).inReset then some (11, h)
          else none
        else none

/-- The oldest descriptor of queue n ends with a status. -/
def descEnd (s : Chip) (n st info : Nat) : Chip := (s.modDesc n fun d => { d with status := some st, info := info }).hwShow n

/-- The oldest descriptor of queue n starts where it has not: checked, and ended where a check fails (R562). -/
def descStart (s : Chip) (n : Nat) : Chip :=
  match s.hwHead n with
  | none => s
  | some d =>
    if d.started || d.status.isSome || (s.hwQ n).abort.isSome then s
    else
      match s.startCheck n d with
      | some (st, info) =>
        let s := if st = 5 then s.useFree else s
        (s.modDesc n fun d => { d with started := true }).descEnd n st info
      | none =>
        let m := if d.opcode = 5 then s.get (Reg.ADC_C_RB_STAT_seq d.arg0) else d.arg0 % 65536
        let s := s.modDesc n fun d => { d with started := true, mark := m }
        let s := if d.opcode = 8 then (s.setBitOf Reg.HW_MSG_PEND_pend n).put Reg.HW_FLAGS_msg true else s
        s.hwShow n

/-- Run an item of opcode `op` on queue n: the descriptor starts if it has not, and `f` does the item where it runs. -/
def descItem (s : Chip) (n op : Nat) (f : DescS → Chip → Chip) : Chip :=
  match s.hwHead n with
  | some d =>
    if d.opcode != op then s
    else
      let s := s.descStart n
      match s.hwHead n with
      | some d => if d.running then f d s else s
      | none => s
  | none => s

/-- `k` more counted; the descriptor is done at `total`. -/
def descMore (s : Chip) (n k total : Nat) : Chip :=
  let s := s.modDesc n fun d => { d with done := d.done + k }
  match s.hwHead n with
  | some d => if total ≤ d.done then s.descEnd n 0 d.info else s
  | none => s

/-- UPLOAD: the next buffer. -/
def uploadItem (s : Chip) (n : Nat) : Chip :=
  s.descItem n 1 fun d t =>
    let k := min 256 (d.len - d.done)
    let a := d.addr + d.done
    let l := t.bytes (bufAddr d.buf + d.done) k
    if inLarder a k then
      let t := t.reachGate a
      match (List.range k).find? fun i => t.ldrRefused (a + i) with
      | some i => (t.ldrStore (a + i) []).descEnd n 5 0x0522
      | none => (forEach (chunks a l) (fun p u => u.ldrStore p.1 p.2) t).descMore n k d.len
    else (t.storeRun .engine a l).descMore n k d.len

/-- Bytes that the engine reads from an address: the module, the bytes, and the first uncorrectable word. `e` bit errors are
met at word `w` of the run beside those the state holds. -/
def engineRead (s : Chip) (a k w e : Nat) : Chip × List Byte × Option Nat :=
  if inBanks a k then
    let l := (List.range k).map fun i =>
      let o := a + i - 0x41208000
      BitVec.ofNat 8 (s.rbGet (o / 0x200) (o % 0x200 / 4) / 256 ^ (o % 4))
    (s, l, none)
  else
    let s := if inLarder a k then s.reachGate a else s
    let (s, bad) := ((chunks a (s.bytes a k)).zipIdx).foldl (fun (acc : Chip × Option Nat) p =>
      if acc.2.isSome then acc
      else
        let (t, b) := acc.1.eccRead p.1.1 p.1.1 (reqCode .engine) false (if p.2 = w then e else 0)
        (t, if b then some p.1.1 else none)) (s, none)
    (s, s.bytes a k, bad)

/-- FETCH: the next buffer. -/
def fetchItem (s : Chip) (n w e : Nat) : Chip :=
  s.descItem n 2 fun d t =>
    let k := min 256 (d.len - d.done)
    match t.engineRead (d.addr + d.done) k w e with
    | (t, _, some a) => t.descEnd n 6 a
    | (t, l, none) => (t.setBytes (bufAddr d.buf + d.done) l).descMore n k d.len

/-- A flash item of queue n may be made now: its write has been submitted and started (R501, R502). -/
def flashReady (s : Chip) (n : Nat) : Chip × Bool :=
  let s := if s.writeWaits (.descriptor n) then s else s.submitWrite (.descriptor n)
  (s, s.writing (.descriptor n))

/-- ERASE or PROGRAM: the next sector or page of `size` bytes with its new content; `ok`: its read-back is good. A failed one
holds undefined bytes (log entry 6). -/
def flashItem (s : Chip) (n op size : Nat) (ok : Bool) (content : DescS → Chip → List Byte) : Chip :=
  s.descItem n op fun d t =>
    if d.len = 0 then t.descEnd n 0 0
    else
      let (t, go) := t.flashReady n
      if !go then t.hwShow n
      else
        let a := d.addr + d.done
        let t := (t.dropWrite (.descriptor n)).eccFresh a size
        if ok then ((t.setBytes a (content d t)).descMore n size d.len).hwAbortRun n
        else ((t.setBytes a (leBytes size t.freeVal)).useFree).descEnd n 7 a

def eraseItem (s : Chip) (n : Nat) (ok : Bool) : Chip := s.flashItem n 3 4096 ok fun _ _ => List.replicate 4096 0xFF

def programItem (s : Chip) (n : Nat) (ok : Bool) : Chip :=
  s.flashItem n 4 256 ok fun d t => t.bytes (bufAddr d.buf + d.done) 256

/-- A period boundary of cluster k is at most 256 ticks away. -/
def boundaryNear (s : Chip) (k : Nat) : Bool :=
  match s.leadSlice k with
  | some n => 2 * s.perOf n - s.carrierTick n ≤ 256
  | none => true

/-- TRACE_COPY (R563): the bank that has become readable since the latest copy goes into the next buffer, once its taken passes are
complete or 256 ticks before the next boundary. -/
def traceCopy (s : Chip) (n : Nat) : Chip :=
  s.descItem n 5 fun d t =>
    let k := d.arg0
    let q := t.get (Reg.ADC_C_RB_STAT_seq k)
    if t.on (Reg.ADC_C_RB_CTL_freeze k) || t.clState k = 5 || q = d.mark then t
    else
      let b := t.get (Reg.ADC_C_RB_STAT_bank k)
      let late := [0, 1].any fun p =>
        let w := t.rbGet k (64 * b + 32 * p + 29)
        hasBit w 30 && !hasBit w 31
      if late && !t.boundaryNear k then t else
      let lost := (q + 65536 - d.mark - 1) % 65536
      let l := (List.range 64).flatMap fun w => leBytes 4 (t.rbGet k (64 * b + w))
      let t := t.setBytes (bufAddr (d.buf + d.done)) l
      (t.modDesc n fun d => { d with mark := q, info := d.info + b2n late + lost }).descMore n 1 d.nbuf

/-- A log entry as its sixteen bytes (Table 01-13). -/
def entryBytes (e : LogEntry) : List Byte :=
  leBytes 4 (e.code * 65536 + e.cls * 8192 + e.inst % 32 * 256 + e.cluster * 32 + e.region * 16)
    ++ leBytes 4 e.ts ++ leBytes 4 (e.ring * 65536 + e.seq) ++ leBytes 4 e.data

/-- The entries of the fault log, oldest first: those in data flash, then those that wait (R671). -/
def logEntries (s : Chip) : List (Nat × List Byte) :=
  let u := s.log.flashUsed
  let first := if u < 512 then 0 else s.log.flashNext
  ((List.range u).map fun i =>
    let a := 0x10800000 + 16 * ((first + i) % 512)
    (s.load (a + 8) 2, s.bytes a 16)) ++ s.log.queue.map fun e => (e.seq, entryBytes e)

/-- Sequence number a is older than b. -/
def seqOlder (a b : Nat) : Bool := let d := (b + 65536 - a) % 65536; 0 < d && d < 32768

/-- LOG_READ: the next sixteen entries. -/
def logItem (s : Chip) (n : Nat) : Chip :=
  s.descItem n 6 fun d t =>
    let l := (t.logEntries.filter fun p => !seqOlder p.1 d.mark).take 16
    let t := t.setBytes (bufAddr (d.buf + d.done / 16)) (l.flatMap (·.2))
    let t := if d.done = 0 then
        match l with
        | p :: _ => t.modDesc n fun d => { d with info := p.1 }
        | [] => let v := t.freeVal % 65536; (t.useFree).modDesc n fun d => { d with info := v }
      else t
    let t := t.modDesc n fun d => { d with mark := match l.getLast? with | some p => (p.1 + 1) % 65536 | none => d.mark }
    if l.length < 16 then
      let t := t.modDesc n fun d => { d with done := d.done + l.length }
      match t.hwHead n with
      | some d => t.descEnd n 0 d.info
      | none => t
    else t.descMore n 16 (16 * d.nbuf)

/-- ID_READ: the next buffer of the record or of a ledger slot; `stop`: the byte at which the memory did not answer. A bus whose
lands are unused makes no transaction (R79), so no byte of it answers. -/
def idItem (s : Chip) (n : Nat) (stop : Option Nat) : Chip :=
  s.descItem n 7 fun d t =>
    let stop := if t.landsUsed (idLands (d.arg0 / 3)) then stop else some d.done
    let base := if d.arg1 = 0 then 0 else if d.arg1 = 1 then 0x100 else 0x600
    let total := min (256 * d.nbuf) (if d.arg1 = 0 then 256 else 1280)
    let k := min 256 (total - d.done)
    match stop with
    | some o => if o < d.done + k then t.descEnd n 9 o
      else (t.setBytes (bufAddr d.buf + d.done) (t.bytes (idKey d.arg0 (base + d.done)) k)).descMore n k total
    | none => (t.setBytes (bufAddr d.buf + d.done) (t.bytes (idKey d.arg0 (base + d.done)) k)).descMore n k total

/-- HW_MSG_DONE written (R564). -/
def msgDone (s : Chip) (d : Nat) : Chip :=
  let n := part d 8 3
  let st := part d 0 8
  if s.msgStands n then
    let s := (s.clrBitOf Reg.HW_MSG_PEND_pend n).modDesc n fun x => { x with done := part d 16 16 }
    s.descEnd n (if st = 0 ∨ 0x80 ≤ st then st else 0x80) (s.get Reg.HW_MSG_INFO_info)
  else s

/-- DESC_FAIL (R569): the flag for every failure, the record for the first of the queue since the flag was last clear.
Software's statuses are its own. -/
def descFail (s : Chip) (n tag st : Nat) : Chip :=
  if st = 0 ∨ 0x80 ≤ st then s
  else
    let seen := if s.on Reg.HW_FLAGS_desc_fail then s.hw.fails else 0
    let s := (s.put Reg.HW_FLAGS_desc_fail true).modHw fun h => { h with fails := setBit seen n }
    if hasBit seen n then s else s.note 0x0A15 0 (st + 256 * n + 65536 * tag)

/-- The record of a descriptor of queue n in its completion ring (Table 14-8). -/
def recordWrite (s : Chip) (n : Nat) (d : DescS) (st info : Nat) : Chip :=
  let c := s.get (Reg.HW_SQ_CFG_cq n)
  let t := s.get (Reg.HW_CQ_STAT_tail c)
  let ph := s.get (Reg.HW_CQ_STAT_phase c)
  let a := bufAddr (s.get (Reg.HW_CQ_CFG_base c)) + 16 * t
  let l := leBytes 2 d.tag ++ leBytes 1 st ++ leBytes 1 (128 * ph + n) ++ leBytes 4 d.done ++ leBytes 4 info ++ leBytes 4 s.stamp
  let s := s.setBytes a l
  let wrap := t + 1 = s.cqSize c
  let s := s.sets [(Reg.HW_CQ_STAT_tail c, if wrap then 0 else t + 1), (Reg.HW_CQ_STAT_phase c, if wrap then 1 - ph else ph)]
  (s.pulse (57 + c)).cqAnnounce c

/-- DESCRIPTOR_COMPLETE: the oldest descriptor of queue n ends: buffers returned, then its record, then the failure. One
whose start check fails starts here. -/
def descComplete (s : Chip) (n : Nat) : Chip :=
  let s := match s.hwHead n with
    | some d => if d.started || (s.startCheck n d).isNone then s else s.descStart n
    | none => s
  match s.hwHead n with
  | none => s.hwAbortEnd n
  | some d =>
    let fin : Option (Nat × Nat) :=
      match d.status, (s.hwQ n).abort with
      | some st, _ => some (st, d.info)
      | none, some rgn => if d.started then none else some (0x0A, if rgn then 2 else 0)
      | none, none => none
    match fin with
    | none => s
    | some (st, info) =>
      let s := if d.flags % 2 = 1 then
          forEach (((List.range d.nbuf).map fun i => d.buf + i).filter fun b => b < 1024) (fun b t => t.flagPut b 0) s
        else s
      let s := s.modHwQ n fun q => { q with flight := q.flight.drop 1 }
      let s := (s.recordWrite n d st info).descFail n d.tag st
      s.hwAbortEnd n

/-! ### Other registers -/

/-- HW_IDLE written. -/
def idleWrite (s : Chip) (d : Nat) : Chip :=
  let s := s.sets [(Reg.HW_IDLE_idle, bitOf d 0), (Reg.HW_STAT_idle, bitOf d 0)]
  forEach (List.range 8) (fun c t => t.cqSettle c) s

/-- HW_CQc_HEAD written. -/
def cqHeadWrite (s : Chip) (c d : Nat) : Chip := (s.set (Reg.HW_CQ_HEAD_head c) (part d 0 8)).cqSettle c

/-- HW_CQc_MOD written. -/
def cqModWrite (s : Chip) (c d : Nat) : Chip :=
  (s.sets [(Reg.HW_CQ_MOD_time c, part d 16 10), (Reg.HW_CQ_MOD_count c, part d 0 8)]).cqSettle c

/-- HW_HOSTWR written by a core: bits 5 and 10 read 0 and bit 9 reads 1 (Table 14-10). -/
def hostwrWrite (s : Chip) (r : Requester) (d : Nat) : Chip :=
  match r with
  | .hart _ => s.set Reg.HW_HOSTWR_wr (setBit (clrBit (clrBit (d % 2 ^ 14) 5) 10) 9)
  | _ => s

/-- A write to the Hallway control block at offset o (chapter 14). -/
def hwWrite (s : Chip) (r : Requester) (a d : Nat) : Chip :=
  let o := a % 0x1000
  if o = 0x0C then s
  else if o = 0x10 then s.idleWrite d
  else if o = 0x18 then s.casWrite r d
  else if o = 0x24 then s.hostwrWrite r d
  else if o = 0x30 then s.msgDone d
  else if 0x100 ≤ o ∧ o < 0x180 then
    let n := (o - 0x100) / 0x10
    if o % 0x10 = 0 then s.sqCfgWrite n d
    else if o % 0x10 = 4 then s.sqTailWrite r n d
    else if o % 0x10 = 0xC then (if hasBit d 0 then s.hwAbort n false else s)
    else s
  else if 0x200 ≤ o ∧ o < 0x280 then
    let c := (o - 0x200) / 0x10
    if o % 0x10 = 0 then s.cqCfgWrite c d
    else if o % 0x10 = 4 then s.cqHeadWrite c d
    else if o % 0x10 = 0xC then s.cqModWrite c d
    else s
  else s.genericWrite a d

end Chip

end Sys2Proof.Machine
end

