-- ==== Sys2Proof/Machine/SafetyBlock.lean ====
section
/-! DEFINITION. The commands of the safety block and of its processor channel (chapter 11). -/

namespace Sys2Proof.Machine

open Chip

/-! ### Safe torque off -/

/-- The clusters that an STO input demands (R430): `b` names STO_B_N. -/
def Chip.stoClusters (c : Chip) (b : Bool) : List Nat :=
  let g := b2n b
  c.present.filter fun k => !c.on Reg.SAFE_STO_CFG_scope || rgnOf k = g || (c.coupled && k = 0)

/-- In scope 0 the inputs disagree, since the tick in which they first did (R431). -/
def Chip.showDisc (c : Chip) : Chip :=
  let differ := !c.on Reg.SAFE_STO_CFG_scope && (c.on Reg.SAFE_STAT_sto_a != c.on Reg.SAFE_STAT_sto_b)
  let c := if differ && !c.on Reg.SAFE_STAT_sto_disc then
      { c with safe := { c.safe with discAt := c.now, discRec := false } } else c
  c.put Reg.SAFE_STAT_sto_disc differ

/-- STO_DEMAND (R429, R430, R434). -/
def execStoDemand (b : Bool) (s : State) : Out :=
  s.act fun c =>
    let f := if b then Reg.SAFE_STAT_sto_b else Reg.SAFE_STAT_sto_a
    if c.on f then c
    else
      let c := ((c.put f true).put Reg.SAFE_FLAGS_sto_ev true).showDisc
      c.faultAll 0x0710 3 0 (c.stoClusters b) c.stoBits

/-- STO_RELEASE (R429). -/
def execStoRelease (b : Bool) (s : State) : Out :=
  s.act fun c =>
    let f := if b then Reg.SAFE_STAT_sto_b else Reg.SAFE_STAT_sto_a
    if c.on f then (((c.put f false).put Reg.SAFE_FLAGS_sto_rel true).showDisc).settleHolds else c

/-- STO_DISCREPANCY (R431): the inputs have disagreed for longer than disc × 10 ms; once for each disagreement. -/
def execStoDiscrepancy (s : State) : Out :=
  s.act fun c =>
    if !c.on Reg.SAFE_STAT_sto_disc || c.safe.discRec || c.now ≤ c.safe.discAt + ms (10 * max 1 (c.get Reg.SAFE_STO_CFG_disc)) then c
    else ({ c with safe := { c.safe with discRec := true } }.put Reg.SAFE_FLAGS_disc_ev true).faultEvery 0x0711 0 c.stoBits

/-- ISO_EN_RELEASE (R432): every cluster whose islands the output serves has held OFF for iso_dly. -/
def execIsoEnRelease (g : Fin 2) (s : State) : Out :=
  s.act fun c =>
    let f := if g.val = 0 then Reg.SAFE_STAT_iso_en_a else Reg.SAFE_STAT_iso_en_b
    let served := (List.range 4).filter fun k => (c.islandsOf k).any fun n => n / 6 == g.val
    if c.stoIso g && c.on f && served.all (fun k => c.holdsOff k && (c.cluster k).selAt + ms (c.get Reg.SAFE_STO_CFG_iso_dly) ≤ c.now) then c.putIso g false else c

/-- ISLAND_FAULT_REPORT (R379, R428): the oldest report of the island arrives. -/
def execIslandFaultReport (n : Fin 12) (s : State) : Out :=
  s.act fun c =>
    match (c.island n).reports with
    | [] => c
    | (code, cls) :: l =>
      let c := c.modIsl n fun i => { i with reports := l }
      (c.set (Reg.ISL_STAT_state n) (c.island n).real).islFall n code cls

/-! ### The DC bus -/

/-- CHOPPER_FAIL (R439): the ramp starts from the present factor. -/
def Chip.chopFail (c : Chip) : Chip :=
  let c := if c.safe.rampFrom.isSome then c
    else { c with safe := { c.safe with rampFrom := some c.regenFactor, rampAt := c.now } }
  ((c.put Reg.SAFE_CHOP_STAT_fail true).put Reg.SAFE_FLAGS_chop_fail true).record 0x0716 1 0 7 0 c.vHi

/-- CHOPPER_VERIFY_END (R439, R440): verify × 10 µs after the chopper was turned on. -/
def execChopperVerifyEnd (s : State) : Out :=
  s.act fun c =>
    if !c.safe.chopVerify || c.now < c.safe.chopAt + c.chopTicks then c
    else
      let good := match c.chopCmp with
        | some n => c.safe.chopSeen || hasBit (c.get Reg.CMP_STAT_hi_now) n
        | none => !c.vdcAll.isEmpty && F32.lt c.vHi c.safe.chopV
      let test := c.safe.chopTest
      let c := { c with safe := { c.safe with chopVerify := false, chopTest := false } }
      let c := if good then c else c.chopFail
      if !test then c
      else
        let c := c.sets [(Reg.SAFE_CHOP_STAT_test_busy, 0), (Reg.SAFE_CHOP_STAT_test, if good then 1 else 2)]
        let c := if good then
            let c := c.put Reg.SAFE_CHOP_STAT_fail false
            { c with safe := { c.safe with rampFrom := none } }
          else c
        let stay := !F32.isZero (c.get Reg.SAFE_OV2_v) && !c.vdcAll.isEmpty && F32.ge c.vHi (c.get Reg.SAFE_OV2_v)
        if stay then c else c.chopper false

/-- SAFE_CHOP_CTL.test (R440): without the chopper rules or a chopper slice there is nothing to test. -/
def Chip.chopTest (c : Chip) : Chip :=
  if c.chopSlice.isNone || c.on Reg.SAFE_CHOP_STAT_test_busy then c
  else if c.vdcAll.isEmpty || F32.lt c.vHi (F32.ofNat 50) then c.set Reg.SAFE_CHOP_STAT_test 3
  else
    let c := if c.on Reg.SAFE_STAT_chop_on then c else c.count Reg.SAFE_CHOP_STAT_count
    (c.chopStart true).put Reg.SAFE_CHOP_STAT_test_busy true

/-- CHOPPER_TEST (R440). -/
def execChopperTest (s : State) : Out := s.act fun c => c.chopTest

/-! ### Contactors -/

/-- A contactor output released outside its command. -/
def Chip.ctrDropOut (c : Chip) (neg : Bool) : Chip :=
  if c.on (if neg then Reg.SAFE_CTR_STAT_neg_out else Reg.SAFE_CTR_STAT_pos_out) then c.ctrMove neg false else c

/-- CTR_OV3_OPEN (R442): a role-3 comparator has stood tripped, and every cluster of type 1 to 3 has held OFF, for more than
10 ms (that OFF must last as long is DEDUCED, log entry 39). -/
def execCtrOv3Open (s : State) : Out :=
  s.act fun c =>
    if c.ov3Tripped && !c.on Reg.SAFE_CTR_STAT_ov3_open && (c.safe.ov3At.getD c.now) + ms 10 < c.now
      && c.motorClusters.all (fun k => c.holdsOff k && (c.cluster k).selAt + ms 10 < c.now) then
      let c := (c.ctrDropOut false).ctrDropOut true
      let c := { c with safe := { c.safe with needNew := 3 } }
      ((c.put Reg.SAFE_CTR_STAT_ov3_open true).put Reg.SAFE_FLAGS_ctr_ev true).note 0x071A 0 0
    else c

/-- A write to SAFE_CTR_CTL (R443, R444, Table 11-16). -/
def Chip.ctrWrite (c : Chip) (d : Nat) : Chip :=
  let c := if hasBit d 9 then c.put Reg.SAFE_CTR_STAT_weld false else c
  let c := c.sets [(Reg.SAFE_CTR_CTL_pos, bitOf d 0), (Reg.SAFE_CTR_CTL_neg, bitOf d 1)]
  let c := if d % 4 = 0 then c else c.put Reg.SAFE_CTR_STAT_ov3_open false
  let c := { c with safe := { c.safe with needNew := c.safe.needNew - (c.safe.needNew &&& d % 4) } }
  c.applyContactors (hasBit d 8 && part d 16 16 == 0xC7F0)

/-- CTR_COMMAND (R443, R444). -/
def execCtrCommand (d : Word) (s : State) : Out := s.act fun c => c.ctrWrite d.toNat

/-- CTR_FORCE (R444): a write whose force bit carries the key. -/
def execCtrForce (d : Word) (s : State) : Out := s.act fun c => c.ctrWrite d.toNat

/-- CLR_WELD (R445). -/
def execClrWeld (s : State) : Out := s.act fun c => (c.put Reg.SAFE_CTR_STAT_weld false).applyContactors false

/-- A NOTE of a contactor. -/
def Chip.ctrNote (c : Chip) (code : Nat) (neg : Bool) : Chip :=
  (c.put Reg.SAFE_FLAGS_ctr_ev true).note code 0 (if neg then 2 else 1)

/-- The tick by which a contactor's change awaits its feedback: t_close or t_open after it (Table 11-6). -/
def Chip.ctrDue (c : Chip) (neg : Bool) : Nat :=
  let out := c.on (if neg then Reg.SAFE_CTR_STAT_neg_out else Reg.SAFE_CTR_STAT_pos_out)
  (if neg then c.safe.negAt else c.safe.posAt)
    + ms (max 1 (c.get (if out then Reg.SAFE_CTR_CFG_t_close else Reg.SAFE_CTR_CFG_t_open)))

/-- The Dropped case of Table 11-6 is judged. -/
def Chip.ctrJudge (c : Chip) : Chip :=
  let d := c.ctrDropped
  let c := if d != 0 && !c.on Reg.SAFE_CTR_STAT_drop then
      (c.put Reg.SAFE_FLAGS_ctr_ev true).record 0x0719 1 0 7 0 d else c
  c.put Reg.SAFE_CTR_STAT_drop (d != 0)

/-- The discharge's start is asked (R446, Table 11-7) of the processor channel, which does nothing where its pair does not run (R418,
R449). -/
def Chip.disStartNow (c : Chip) : Chip :=
  let closed := c.on Reg.SAFE_CTR_STAT_pos_out || c.on Reg.SAFE_CTR_STAT_neg_out
    || (c.on Reg.SAFE_CTR_CFG_fb_en && (c.on Reg.SAFE_CTR_STAT_pos_fb || c.on Reg.SAFE_CTR_STAT_neg_fb))
  let refuse (r : Nat) : Chip := c.sets [(Reg.SAFE_DIS_STAT_state, 5), (Reg.SAFE_DIS_STAT_reason, r)]
  if c.disRuns || !c.moduleChan then c
  else if closed then refuse 1
  else if c.vdcAll.isEmpty then refuse 2
  else
    let c := { c with safe := { c.safe with disStart := some c.now } }
    let c := c.sets [(Reg.SAFE_DIS_STAT_state, 1), (Reg.SAFE_DIS_STAT_reason, 0)]
    if c.on Reg.SAFE_DIS_CTL_path then c.disResistor 0
    else
      let k := c.get Reg.SAFE_DIS_CTL_cluster
      let c := c.request k 6
      if c.on (Reg.SEQ_STAT_wdis k) || (c.cluster k).held = 6 then c.disCheck else c.disResistor 1

/-- A running discharge is ended from outside (R448, Table 11-12). -/
def Chip.disAbort (c : Chip) : Chip :=
  if c.disRuns && c.moduleChan then ((c.disEnd 4 4).put Reg.SAFE_FLAGS_dis_fail true).faultEvery 0x071C 0 4 else c

/-- A contactor's feedback is compared with its output (R445): within its time, agreement confirms a change; a contactor that shows
closed while it is released and nothing is awaited is welded. -/
def Chip.ctrCompare (c : Chip) (neg : Bool) : Chip :=
  let closed := c.on (if neg then Reg.SAFE_CTR_STAT_neg_fb else Reg.SAFE_CTR_STAT_pos_fb)
  let out := c.on (if neg then Reg.SAFE_CTR_STAT_neg_out else Reg.SAFE_CTR_STAT_pos_out)
  let busy := if neg then Reg.SAFE_CTR_STAT_neg_busy else Reg.SAFE_CTR_STAT_pos_busy
  let cmd := if neg then Reg.SAFE_CTR_CTL_neg else Reg.SAFE_CTR_CTL_pos
  if !c.on Reg.SAFE_CTR_CFG_fb_en then c
  else if c.on busy then
    if out == closed && c.now ≤ c.ctrDue neg then
      let c := (c.put busy false).put Reg.SAFE_FLAGS_ctr_done true
      if closed || c.on cmd then c else { c with safe := { c.safe with opened := setBit c.safe.opened (b2n neg) } }
    else c
  else if !out && closed && !c.on Reg.SAFE_CTR_STAT_weld then (c.put Reg.SAFE_CTR_STAT_weld true).ctrNote 0x0718 neg
  else c

/-- The processor channel looks at both contactors: a discharge ends where a contactor closes (R448), the cases of Table 11-6 are
judged, and a discharge starts by itself where both have opened as commanded (R446). -/
def Chip.ctrWatch (c : Chip) (closes : Bool) : Chip :=
  if !c.moduleChan then c
  else
    let c := if closes then c.disAbort else c
    let c := ((c.ctrCompare false).ctrCompare true).ctrJudge
    if c.safe.opened = 3 then
      let c := { c with safe := { c.safe with opened := 0 } }
      if c.on Reg.SAFE_DIS_CTL_auto then c.disStartNow else c
    else c

/-- The feedback of a contactor takes a value (Table 11-6). -/
def Chip.ctrFeedback (c : Chip) (neg closed : Bool) : Chip :=
  let fb := if neg then Reg.SAFE_CTR_STAT_neg_fb else Reg.SAFE_CTR_STAT_pos_fb
  if c.on fb == closed then c else (c.put fb closed).ctrWatch closed

/-- What the feedback pin of a contactor shows after fb_pol (R445). -/
def Chip.ctrPin (c : Chip) (neg : Bool) : Chip :=
  c.ctrFeedback neg (hasBit c.safe.fbHigh (b2n neg) != c.on Reg.SAFE_CTR_CFG_fb_pol)

/-- Both feedback pins, as the runtime looks at them. -/
def Chip.ctrLook (c : Chip) : Chip := ((c.ctrPin false).ctrPin true).ctrWatch false

/-- CTR_FEEDBACK_CHANGE (R445): the feedback pin takes a level; fb_pol says which level means closed. -/
def execCtrFeedbackChange (neg high : Bool) (s : State) : Out :=
  s.actRaw fun c =>
    let c := { c with safe := { c.safe with fbHigh := putBit c.safe.fbHigh (b2n neg) high } }
    if c.pwr.dieReset then c else c.ctrPin neg

/-- CTR_FEEDBACK_TIMEOUT (R445): t_close or t_open has passed after a change of the output that still awaits its feedback. -/
def execCtrFeedbackTimeout (neg : Bool) (s : State) : Out :=
  s.act fun c =>
    let fb := if neg then Reg.SAFE_CTR_STAT_neg_fb else Reg.SAFE_CTR_STAT_pos_fb
    let out := if neg then Reg.SAFE_CTR_STAT_neg_out else Reg.SAFE_CTR_STAT_pos_out
    let busy := if neg then Reg.SAFE_CTR_STAT_neg_busy else Reg.SAFE_CTR_STAT_pos_busy
    let cmd := if neg then Reg.SAFE_CTR_CTL_neg else Reg.SAFE_CTR_CTL_pos
    if !c.moduleChan || !c.on Reg.SAFE_CTR_CFG_fb_en || !c.on busy || c.now ≤ c.ctrDue neg then c
    else
      let c := c.put busy false
      if c.on out && !c.on fb then (((c.ctrMove neg false).put busy false).put cmd false).ctrNote 0x0717 neg
      else if !c.on out && c.on fb then (c.put Reg.SAFE_CTR_STAT_weld true).ctrNote 0x0718 neg
      else c

/-! ### Discharge -/

/-- DISCHARGE_START (R446, R447). -/
def execDischargeStart (s : State) : Out := s.act fun c => c.disStartNow

/-- `n` halves of the time T have passed since the start of the discharge (R447). -/
def Chip.disPast (c : Chip) (n : Nat) : Bool :=
  (c.safe.disStart.getD 0) + n * ms (50 * max 1 (c.get Reg.SAFE_DIS_CTL_time)) ≤ c.now

/-- DIS_HALF_TIME (Table 11-7, step 2): at T / 2. -/
def execDisHalfTime (s : State) : Out :=
  s.act fun c =>
    if c.moduleChan && c.get Reg.SAFE_DIS_STAT_state = 1 && c.disPast 1 then (c.request (c.get Reg.SAFE_DIS_CTL_cluster) 2).disResistor 3 else c

/-- DIS_FAIL (Table 11-7, step 4): at T. -/
def execDisFail (s : State) : Out :=
  s.act fun c =>
    if c.moduleChan && c.disRuns && c.disPast 2 then ((c.disEnd 4 3).put Reg.SAFE_FLAGS_dis_fail true).faultEvery 0x071C 0 3 else c

/-- DISCHARGE_ABORT (R448). -/
def execDischargeAbort (s : State) : Out := s.act fun c => c.disAbort

/-! ### The processor channel -/

/-- The speed of R451, where a source is valid. -/
def Chip.pcSpeed (c : Chip) (k : Nat) : Option Nat :=
  if c.get (Reg.SEQ_STAT_ang_now k) = 0 then (match c.obsSpeed k with | some w => some w | none => c.posSpeed k)
  else match c.posSpeed k with | some w => some w | none => c.obsSpeed k

/-- Safe stop 1 starts on a served cluster that holds no safe state (R454). -/
def Chip.ss1Begin (c : Chip) (k : Nat) : Chip :=
  if !c.pcRuns k || c.on (Reg.SAFE_C_STAT_ss1 k) || c.clState k = 4 then c
  else
    let c := (c.put (Reg.SAFE_C_STAT_ss1 k) true).modCl k fun x => { x with ss1At := c.now }
    c.request k 2

/-- T_est of the tick and its judgement (R452). -/
def Chip.tqJudge (c : Chip) (k : Nat) : Chip :=
  let x := c.cluster k
  if x.tqN = 0 then (if c.clState k = 2 || c.clState k = 3 then c else c.modCl k fun x => { x with tqBad := 0 })
  else
    let t := F32.div x.tqSum (F32.ofNat x.tqN)
    let r := c.get (Reg.FC_TQ_REF_v k)
    let tol := c.get (Reg.SAFE_C_TQ_TOL_v k)
    let opp := !F32.isZero r && F32.sign t != F32.sign r
    let bad := F32.gt (F32.abs t) (F32.add (F32.abs r) tol) || (opp && F32.gt (F32.abs t) tol)
    let run := bad && (c.clState k == 2 || c.clState k == 3)
    let c := (c.set (Reg.SAFE_C_TQ_EST_v k) t).put (Reg.SAFE_C_STAT_tq_bad k) bad
    c.modCl k fun x => { x with tqSum := 0, tqN := 0, tqBad := if run then x.tqBad + 1 else 0 }

/-- The run of ticks above the safe speed limit (R453). -/
def Chip.slsJudge (c : Chip) (k : Nat) : Chip :=
  let lim := c.get (Reg.SAFE_C_SLS_v k)
  let fast := !F32.isZero lim && match c.pcSpeed k with | some w => F32.gt w lim | none => false
  c.modCl k fun x => { x with slsRun := if fast then x.slsRun + 1 else 0 }

/-- The Stopped case of Table 11-8. -/
def Chip.ss1Judge (c : Chip) (k : Nat) : Chip :=
  let slow := match c.pcSpeed k with
    | some w => F32.le w (F32.mul (F32.ratio 1 100) (c.motor k).wRated)
    | none => false
  if c.on (Reg.SAFE_C_STAT_ss1 k) && (c.quiet k || slow) then c.pcSto k 0x071D 2 else c

/-- The acknowledgement of the previous tick, and the next count (R450). -/
def Chip.ackJudge (c : Chip) (k : Nat) : Chip :=
  let seq := c.get (Reg.SAFE_C_STAT_seq k)
  let right := c.get (Reg.SAFE_C_PC_ack k) == seq
  let c := c.modCl k fun x => { x with ackMiss := if right then 0 else min 3 (x.ackMiss + 1) }
  let c := if (c.cluster k).ackMiss = 2 then c.pcSto k 0x0720 seq else c
  c.count (Reg.SAFE_C_STAT_seq k)

/-- SAFETY_TICK (R445, R450 to R454), every 200,000 ticks: both ticks, the contactors' feedback, and for each served cluster whose region runs the
checks of the channel. -/
def execSafetyTick (s : State) : Out :=
  s.act fun c =>
    if c.now < (match c.safe.tickAt with | some t => t + ms 1 | none => 0) then c
    else
      let c := ({ c with safe := { c.safe with tickAt := some c.now } }.pulse 1).pulse 2
      forEach (List.range 4) (fun k t =>
        if t.pcRuns k then (((t.tqJudge k).slsJudge k).ss1Judge k).ackJudge k else t) c.ctrLook

/-- TQ_IMPLAUSIBLE (R452): implausible for tq_t milliseconds. -/
def execTqImplausible (k : Fin 4) (s : State) : Out :=
  s.act fun c =>
    if c.pcRuns k && max 1 (c.get (Reg.SAFE_C_CFG_tq_t k)) ≤ (c.cluster k).tqBad then
      (c.modCl k fun x => { x with tqBad := 0 }).pcSto k 0x071E (c.get (Reg.SAFE_C_TQ_EST_v k))
    else c

/-- SPEED_LIMIT (R453): above the limit for 10 consecutive ticks. -/
def execSpeedLimit (k : Fin 4) (s : State) : Out :=
  s.act fun c =>
    if c.pcRuns k && 10 ≤ (c.cluster k).slsRun then
      let w := (c.pcSpeed k).getD 0
      ((c.modCl k fun x => { x with slsRun := 0 }).noteCl 0x0721 k w).ss1Begin k
    else c

/-- SS1_START (R454). -/
def execSs1Start (k : Fin 4) (s : State) : Out := s.act fun c => c.ss1Begin k

/-- SS1_TIMEOUT (Table 11-8): ss1_t × 100 ms after the start. -/
def execSs1Timeout (k : Fin 4) (s : State) : Out :=
  s.act fun c =>
    if c.pcRuns k && c.on (Reg.SAFE_C_STAT_ss1 k) && (c.cluster k).ss1At + ms (100 * max 1 (c.get (Reg.SAFE_C_CFG_ss1_t k))) ≤ c.now then
      c.pcSto k 0x071F ((c.pcSpeed k).getD (c.get (Reg.SAFE_C_SPD_v k)))
    else c

/-- PC_STO_SET (R456). -/
def execPcStoSet (k : Fin 4) (s : State) : Out := s.act fun c => c.pcSto k 0x071D 1

/-- pc_sto is cleared (R456). -/
def Chip.pcRelease (c : Chip) (k : Nat) : Chip := (c.put (Reg.SAFE_C_STAT_pc_sto k) false).refreshHold k

/-- PC_STO_RELEASE (R456). -/
def execPcStoRelease (k : Fin 4) (s : State) : Out := s.act fun c => c.pcRelease k

/-- SAFE_MSG_LOST (R455): no valid message for msg_to; once until the next valid one. -/
def execSafeMsgLost (k : Fin 4) (s : State) : Out :=
  s.act fun c =>
    if c.pcRuns k && c.on (Reg.SAFE_C_CFG_msg_req k) && !(c.cluster k).msgLost
      && (c.cluster k).msgAt + ms (10 * max 1 (c.get (Reg.SAFE_C_CFG_msg_to k))) ≤ c.now then
      ((c.modCl k fun x => { x with msgLost := true }).noteCl 0x0722 k 0).ss1Begin k
    else c

/-- LOCKSTEP_MISMATCH (R458): a locked pair that runs. -/
def execLockstepMismatch (g : Fin 2) (group : Fin 4) (s : State) : Out :=
  s.act fun c =>
    if !c.locked g || (c.region g).inReset then c
    else
      let c := (c.bump (if g.val = 0 then Reg.SAFE_LS_STAT_mis_a else Reg.SAFE_LS_STAT_mis_b) 255).put
        Reg.SAFE_FLAGS_lockstep true
      c.halt g (if g.val = 0 then 0x0723 else 0x0724) 0 group

end Sys2Proof.Machine
end

