-- ==== Sys2Proof/Machine/CanOps.lean ====
section
/-! DEFINITION. Shared operations of the CAN controllers and Porch (chapter 15): frames, transmit buffers, error
confinement, addresses, transport sessions, checked messages, reception. -/

namespace Sys2Proof.Machine

/-- A classical extended frame of a PGN. -/
def pgnFrame (prio pgn dest sa : Nat) (l : List Byte) : CanFrame :=
  { id := Fin.ofNat _ (prio * 2 ^ 26 + (if pgn / 256 % 256 < 240 then pgn / 256 * 256 + dest else pgn) * 256 + sa),
    ide := true, rtr := false, fdf := false, brs := false, esi := false, dlc := Fin.ofNat _ l.length, data := l }

/-- The frame belongs to session slot x. -/
def OutKind.ofSes (k : OutKind) (x : Nat) : Bool := match k with | .ses y _ => y == x | _ => false

namespace Chip

def canS (s : Chip) (n : Nat) : CanS := nth s.can n
def modCan (s : Chip) (n : Nat) (f : CanS → CanS) : Chip := { s with can := updNth f n s.can }
def modPorch (s : Chip) (f : PorchS → PorchS) : Chip := { s with porch := f s.porch }
def portS (s : Chip) (n : Nat) : PortS := nth s.porch.port n
def modPort (s : Chip) (n : Nat) (f : PortS → PortS) : Chip := s.modPorch fun p => { p with port := updNth f n p.port }
def sesS (s : Chip) (x : Nat) : SesS := nth s.porch.ses x
def modSes (s : Chip) (x : Nat) (f : SesS → SesS) : Chip := s.modPorch fun p => { p with ses := updNth f x p.ses }

/-! ### Controllers -/

/-- Transmitters stand recessive on the backup reference (R109). -/
def canStopped (s : Chip) : Bool := s.on Reg.CLK_STAT_on_backup

def canMode (s : Chip) (n : Nat) : Nat := s.get (Reg.CAN_CTL_mode n)

/-- The controller takes part on the bus. -/
def canJoined (s : Chip) (n : Nat) : Bool :=
  s.canMode n != 0 && !s.on (Reg.CAN_STAT_integrating n) && s.get (Reg.CAN_STAT_conf n) != 2 && !s.canStopped

/-- The controller may put frames on the bus, or loops them back. -/
def canSends (s : Chip) (n : Nat) : Bool := s.canJoined n && s.canMode n != 2 && s.landsUsed (canLands n)

/-- Porch serves the controller (R585). -/
def porchOn (s : Chip) (n : Nat) : Bool := s.on (Reg.PORCH_P_CFG_en n)

def portAddr (s : Chip) (n : Nat) : Nat := s.get (Reg.PORCH_P_STAT_addr n)
def portState (s : Chip) (n : Nat) : Nat := s.get (Reg.PORCH_P_STAT_state n)

/-- A word of a frame record. -/
def recWordOf (s : Chip) (n b w : Nat) : Nat := lookupD 0 (32 * b + w) (s.canS n).recs

def recPut (s : Chip) (n b w v : Nat) : Chip := s.modCan n fun c => { c with recs := putAt 0 (32 * b + w) v c.recs }

/-- The bits of a frame record that a write takes (Table 15-1). -/
def recMask (w : Nat) : Nat := if w = 0 then 0x7FFFFFFF else if w = 1 then 0x3F else if w = 2 then 0xFFFFFFFF else 0xFFFFFFFF

/-- The kind of Porch's frame in a transmit buffer. -/
def bufKind (s : Chip) (n b : Nat) : Option OutKind :=
  if b = 0 then (s.portS n).buf0 else if b = 1 then (s.portS n).buf1 else none

/-- The record's identifier as it leaves the buffer: a base identifier stands in bits 28:18; with sa_ins (R593), and in Porch's
frames, the source is the port's address of that moment, or 254 in the cannot-claim message. -/
def recId (s : Chip) (n b : Nat) : Nat :=
  let w := s.recWordOf n b 0
  let i := if hasBit w 29 then w % 2 ^ 29 else w % 2 ^ 29 / 2 ^ 18 * 2 ^ 18
  let own := s.porchOn n && hasBit w 29 && (if b = 2 then s.on (Reg.CAN_TXB_CMD_sa_ins n b) else (s.bufKind n b).isSome)
  if own then i / 256 * 256 + (if s.bufKind n b = some .cannot then 254 else s.portAddr n) else i

/-- The frame of a transmit buffer. -/
def recFrame (s : Chip) (n b : Nat) : CanFrame :=
  let w0 := s.recWordOf n b 0
  let w1 := s.recWordOf n b 1
  let rtr := hasBit w0 30
  let len := if rtr then 0 else dlcBytes (w1 % 16)
  { id := Fin.ofNat _ (s.recId n b), ide := hasBit w0 29, rtr := rtr, fdf := hasBit w1 4, brs := hasBit w1 5,
    esi := s.get (Reg.CAN_STAT_conf n) == 1, dlc := Fin.ofNat _ w1,
    data := ((List.range 16).flatMap fun w => leBytes 4 (s.recWordOf n b (3 + w))).take len }

def txPending (s : Chip) (n b : Nat) : Bool := s.get (Reg.CAN_TXB_STAT_status n b) == 1

/-- The buffer that the controller offers (R579). Of Porch's frames those of network management alone pass before CLAIMED (R587). -/
def txChoice (s : Chip) (n : Nat) : Option Nat :=
  let l := (List.range 3).filter fun b => s.txPending n b && !(b == 1 && s.porchOn n && s.portState n != 2)
  if s.on (Reg.CAN_CFG_tx_order n) then l.head?
  else l.foldl (fun best b =>
    match best with
    | none => some b
    | some a => if s.recId n b < s.recId n a then some b else best) none

/-! ### Porch: frames to send -/

/-- Frames of Porch go into its idle buffers: claims into buffer 0; every other frame into buffer 1, once CLAIMED. -/
def porchLoad (s : Chip) (n : Nat) : Chip :=
  let put (t : Chip) (b : Nat) (f : OutFrame) : Chip :=
    let sa := match f.kind with | .cannot => 254 | _ => t.portAddr n
    let id := f.prio * 2 ^ 26 + (if f.pgn / 256 % 256 < 240 then f.pgn / 256 * 256 + f.dest else f.pgn) * 256 + sa
    let t := (t.recPut n b 0 (id + 2 ^ 29)).recPut n b 1 f.data.length
    let t := (t.recPut n b 3 (leNat (f.data.take 4))).recPut n b 4 (leNat (f.data.drop 4))
    t.sets [(Reg.CAN_TXB_CMD_once n b, b2n f.once), (Reg.CAN_TXB_CMD_req n b, 1), (Reg.CAN_TXB_STAT_status n b, 1)]
  if !s.porchOn n || !s.canSends n then s
  else
    let s := match (s.portS n).claims with
      | f :: l => if s.txPending n 0 then s
        else (put s 0 f).modPort n fun p => { p with claims := l, buf0 := some f.kind }
      | [] => s
    match (s.portS n).out with
    | f :: l => if s.txPending n 1 || s.portState n != 2 then s
      else (put s 1 f).modPort n fun p => { p with out := l, buf1 := some f.kind }
    | [] => s

/-- A frame that Porch is to send. -/
def porchSend (s : Chip) (n : Nat) (f : OutFrame) : Chip :=
  let s := match f.kind with
    | .claim | .cannot => s.modPort n fun p => { p with claims := p.claims ++ [f] }
    | _ => s.modPort n fun p => { p with out := p.out ++ [f] }
  s.porchLoad n

/-! ### Porch: how a session ends (R597) -/

/-- The data of a slot: its buffers in the pool, or the ETP area. -/
def sesBuf (s : Chip) (x : Nat) : Nat :=
  if s.on (Reg.PORCH_SES_CTL_etp x) then s.get Reg.PORCH_ETP_CFG_base else s.get Reg.PORCH_POOL_base + 7 * x

def sesLen (s : Chip) (x : Nat) : Nat := s.get (Reg.PORCH_SES_CTL_len x)
def sesPackets (s : Chip) (x : Nat) : Nat := (s.sesLen x + 6) / 7
def sesPort (s : Chip) (x : Nat) : Nat := s.get (Reg.PORCH_SES_CTL_port x)
def sesPeer (s : Chip) (x : Nat) : Nat := s.get (Reg.PORCH_SES_PEER_peer x)
def sesPgn (s : Chip) (x : Nat) : Nat := s.get (Reg.PORCH_SES_PGN_pgn x)
def sesRuns (s : Chip) (x : Nat) : Bool := s.get (Reg.PORCH_SES_STAT_state x) == 1

/-- The buffers that hold a slot's message. -/
def sesBufs (s : Chip) (x : Nat) : List Nat := (List.range ((s.sesLen x + 255) / 256)).map fun i => s.sesBuf x + i

/-- A session ends: done (state 2) or failed (state 3) with a reason; none of its frames goes out any more. -/
def sesEnd (s : Chip) (x st reason : Nat) : Chip :=
  let s := if x < 8 && s.on (Reg.PORCH_SES_CTL_ret x) then
      forEach ((s.sesBufs x).filter fun b => b < 1024) (fun b t => t.flagPut b 0) s
    else s
  let s := (s.modSes x fun _ => {}).modPort (s.sesPort x) fun p => { p with
    out := p.out.filter fun f => !f.kind.ofSes x, buf1 := p.buf1.map fun k => if k.ofSes x then .other else k }
  let s := s.sets [(Reg.PORCH_SES_STAT_state x, st), (Reg.PORCH_SES_STAT_reason x, reason), (Reg.PORCH_SES_CTL_start x, 0),
    (Reg.PORCH_FLAGS_ses_end, 1)]
  if st = 3 then s.note 0x0B24 (s.sesPort x) (x + 256 * reason) else s

/-! ### Porch: addresses (R586 to R590) -/

/-- NAME of a port. -/
def portName (s : Chip) (n : Nat) : Nat :=
  s.get (Reg.PORCH_P_NAME_LO_name n) + 2 ^ 32 * s.get (Reg.PORCH_P_NAME_HI_name n)

/-- State and address of a port; a change sets addr_ev. -/
def portSet (s : Chip) (n st addr : Nat) : Chip :=
  if s.portState n = st && s.portAddr n = addr then s
  else
    let s := if st = 2 then s.modPort n fun p => { p with statAt := s.now } else s
    s.sets [(Reg.PORCH_P_STAT_state n, st), (Reg.PORCH_P_STAT_addr n, addr), (Reg.PORCH_FLAGS_addr_ev, 1)]

/-- Address Claimed is sent from the port's address. -/
def claimSend (s : Chip) (n : Nat) : Chip :=
  (s.modPort n fun p => { p with claimSent := false }).porchSend n
    { kind := .claim, prio := 6, pgn := 0xEE00, dest := 255, data := leBytes 8 (s.portName n) }

/-- The cannot-claim message is sent. -/
def cannotSend (s : Chip) (n : Nat) : Chip :=
  s.porchSend n { kind := .cannot, prio := 6, pgn := 0xEE00, dest := 255, data := leBytes 8 (s.portName n) }

/-- The port claims an address (R587). -/
def claimAt (s : Chip) (n addr : Nat) : Chip := (s.portSet n 1 addr).claimSend n

/-- The port claims its preferred address. -/
def claimPref (s : Chip) (n : Nat) : Chip :=
  if s.porchOn n then
    (s.modPort n fun p => { p with losing := false }).claimAt n (s.get (Reg.PORCH_P_CFG_pref_addr n))
  else s

def addrConflict (s : Chip) (n cause : Nat) : Chip := s.note 0x0B20 n (s.portAddr n + 256 * cause)

/-- The running sessions of a port end as failed. -/
def sesFailAll (s : Chip) (n reason : Nat) : Chip :=
  forEach ((List.range 16).filter fun x => s.sesRuns x && s.sesPort x == n) (fun x t => t.sesEnd x 3 reason) s

/-- The port has lost its address (Table 15-4). The pseudo-random delay of its cannot-claim message is a free value. -/
def claimLost (s : Chip) (n : Nat) : Chip :=
  let a := s.portAddr n
  let bad := a :: (s.portS n).taken
  match if hasBit (s.portName n) 63 then ((List.range 120).map (· + 128)).find? fun x => !bad.contains x else none with
  | some x => (s.note 0x0B21 n (a + 256 * x)).claimAt n x
  | none =>
    let s := (s.note 0x0B22 n a).sesFailAll n 0xF4
    let s := s.useFree.modPort n fun p => { p with
      losing := true, loseAt := s.now + 120000 * (s.freeVal % 256), claims := [], out := [] }
    s.portSet n 3 0xFE

/-- An Address Claimed frame of another node (R588). -/
def claimRx (s : Chip) (n sa name : Nat) : Chip :=
  let own := s.portName n
  let st := s.portState n
  let s := if name = own then s
    else s.modPort n fun p => { p with taken := if p.taken.contains sa then p.taken else sa :: p.taken }
  if sa != s.portAddr n || !(st == 1 || st == 2) then s
  else if own < name then (s.addrConflict n 3).claimSend n
  else if name = own then (s.note 0x0B23 n sa).claimLost n
  else s.claimLost n

/-- A Commanded Address that carries a NAME (R590). -/
def commanded (s : Chip) (n name addr : Nat) : Chip :=
  if s.porchOn n && s.on (Reg.PORCH_P_CFG_cmd_addr n) && name = s.portName n then
    let old := s.portAddr n
    ((s.note 0x0B21 n (old + 256 * addr)).modPort n fun p => { p with losing := false }).claimAt n addr
  else s

/-! ### Porch: sessions (R594 to R597) -/

/-- Three bytes of a PGN. -/
def pgnBytes (p : Nat) : List Byte := leBytes 3 p

/-- The priority of a session's frame: a sender's is software's (Table 15-17), else 7 (ISO 11783-3). -/
def tpPrio (s : Chip) : OutKind → Nat
  | .ses x _ => if x < 8 then s.get (Reg.PORCH_SES_PGN_prio x) else 7
  | _ => 7

/-- A connection-management frame of port n (ISO 11783-3). -/
def tpCm (s : Chip) (n : Nat) (etp : Bool) (kind : OutKind) (dest : Nat) (body : List Byte) (pgn : Nat) : Chip :=
  s.porchSend n { kind := kind, prio := s.tpPrio kind, pgn := if etp then 0xC800 else 0xEC00, dest := dest, data := body ++ pgnBytes pgn }

/-- Abort with a reason. -/
def tpAbort (s : Chip) (n : Nat) (etp : Bool) (dest reason pgn : Nat) : Chip :=
  s.tpCm n etp .other dest ([0xFF] ++ leBytes 1 reason ++ [0xFF, 0xFF, 0xFF]) pgn

/-- The session fails and its peer is told. -/
def sesAbort (s : Chip) (x sent reason : Nat) : Chip :=
  let s := if (s.sesS x).bam then s
    else s.tpAbort (s.sesPort x) (s.on (Reg.PORCH_SES_CTL_etp x)) (s.sesPeer x) sent (s.sesPgn x)
  s.sesEnd x 3 reason

/-- The next data packet of a sending slot. -/
def sesData (s : Chip) (x : Nat) : Chip :=
  let q := s.sesS x
  let k := q.next
  let a := bufAddr (s.sesBuf x) + 7 * (k - 1)
  let n := min 7 (s.sesLen x - 7 * (k - 1))
  let body := s.bytes a n ++ List.replicate (7 - n) 0xFF
  let etp := s.on (Reg.PORCH_SES_CTL_etp x)
  let s := s.modSes x fun q => { q with next := k + 1, timer := 0, timAt := s.now }
  s.porchSend (s.sesPort x) {
    kind := .ses x 2, prio := s.tpPrio (.ses x 2), pgn := if etp then 0xC700 else 0xEB00, dest := if q.bam then 255 else s.sesPeer x,
    data := leBytes 1 (if etp then k - q.dpo else k) ++ body }

/-- CTS of a receiving slot: at most its packets per CTS from the next packet on. -/
def sesCts (s : Chip) (x : Nat) : Chip :=
  let q := s.sesS x
  let k := min q.max (s.sesPackets x + 1 - q.next)
  let etp := s.on (Reg.PORCH_SES_CTL_etp x)
  let s := s.modSes x fun q => { q with winEnd := q.next + k - 1, timer := 2, timAt := s.now }
  let body : List Byte := if etp then leBytes 1 21 ++ leBytes 1 k ++ leBytes 3 q.next
    else leBytes 1 17 ++ leBytes 1 k ++ leBytes 1 q.next ++ [0xFF, 0xFF]
  s.tpCm (s.sesPort x) etp (.ses x 3) (s.sesPeer x) body (s.sesPgn x)

/-- A frame of a session has been sent. -/
def sesSent (s : Chip) (x what : Nat) : Chip :=
  if !s.sesRuns x then s
  else
    let q := s.sesS x
    match what with
    | 0 => s.modSes x fun q => { q with timer := 3, timAt := s.now }
    | 1 => s.modSes x fun q => { q with timer := 5, timAt := s.now }
    | 2 =>
      if q.bam then (if s.sesPackets x < q.next then s.sesEnd x 2 0 else s.modSes x fun q => { q with timer := 5, timAt := s.now })
      else if q.next ≤ q.winEnd then s.sesData x
      else s.modSes x fun q => { q with timer := 3, timAt := s.now }
    | 3 => s.modSes x fun q => { q with timer := 2, timAt := s.now }
    | _ => s.sesData x

/-- The ETP area serves a session already. -/
def etpBusy (s : Chip) : Bool :=
  (List.range 16).any fun x => s.on (Reg.PORCH_SES_CTL_etp x) && (s.sesRuns x || (8 ≤ x && s.get (Reg.PORCH_SES_STAT_state x) == 2))

/-- The ETP area can hold a message. -/
def etpFits (s : Chip) (len : Nat) : Bool :=
  s.on Reg.PORCH_ETP_CFG_en && len ≤ 256 * s.get Reg.PORCH_ETP_CFG_nbuf

/-- A send slot is started (R595, R596). -/
def sesStart (s : Chip) (x : Nat) : Chip :=
  if s.sesRuns x then s
  else
    let n := s.sesPort x
    let len := s.sesLen x
    let dest := s.get (Reg.PORCH_SES_PGN_dest x)
    let etp := s.on (Reg.PORCH_SES_CTL_etp x)
    let busy := (List.range 16).any fun y => y != x && s.on (Reg.PORCH_SES_CTL_etp y)
      && (s.sesRuns y || (8 ≤ y && s.get (Reg.PORCH_SES_STAT_state y) == 2))
    let lenOk := if etp then 1786 ≤ len && len ≤ 65536 && s.etpFits len && !busy && dest != 255
      else 9 ≤ len && len ≤ 1785 && s.on Reg.PORCH_POOL_en
    let s := s.sets [(Reg.PORCH_SES_CTL_start x, 1), (Reg.PORCH_SES_STAT_state x, 1), (Reg.PORCH_SES_STAT_reason x, 0),
      (Reg.PORCH_SES_PEER_peer x, dest)]
    if !lenOk || (s.sesBufs x).any fun b => s.bufOwner b = 0 then s.sesEnd x 3 0xF0
    else if !s.porchOn n || s.portState n = 0 || s.portState n = 3 then s.sesEnd x 3 0xF4
    else
      let pk := s.sesPackets x
      let pgn := s.sesPgn x
      let s := s.modSes x fun _ => { bam := dest = 255 }
      if etp then s.tpCm n true (.ses x 0) dest (leBytes 1 20 ++ leBytes 4 len) pgn
      else if dest = 255 then s.tpCm n false (.ses x 1) 255 (leBytes 1 32 ++ leBytes 2 len ++ leBytes 1 pk ++ [0xFF]) pgn
      else s.tpCm n false (.ses x 0) dest (leBytes 1 16 ++ leBytes 2 len ++ leBytes 1 pk ++ [0xFF]) pgn

/-- A receive slot that is free. -/
def rxFree (s : Chip) : Option Nat :=
  if s.on Reg.PORCH_POOL_en then
    [8, 9, 10, 11, 12, 13, 14, 15].find? fun x =>
      s.get (Reg.PORCH_SES_STAT_state x) = 0 || s.get (Reg.PORCH_SES_STAT_state x) = 3
  else none

/-- A receive slot opens. -/
def rxOpen (s : Chip) (x n sa pgn len lim : Nat) (etp bam : Bool) : Chip :=
  let s := s.sets [(Reg.PORCH_SES_PGN_pgn x, pgn), (Reg.PORCH_SES_CTL_len x, len), (Reg.PORCH_SES_CTL_port x, n),
    (Reg.PORCH_SES_CTL_etp x, b2n etp), (Reg.PORCH_SES_STAT_state x, 1), (Reg.PORCH_SES_STAT_reason x, 0),
    (Reg.PORCH_SES_PEER_peer x, sa)]
  let s := s.modSes x fun _ => { max := min 16 (max 1 lim), bam := bam, timer := if bam then 1 else 2, timAt := s.now }
  if bam then s else s.sesCts x

/-- A session of a port with a peer: sending or receiving, transport or extended transport. -/
def sesFind (s : Chip) (l : List Nat) (n sa : Nat) (etp bam : Bool) : Option Nat :=
  l.find? fun x => s.sesRuns x && s.sesPort x == n && (s.sesPeer x == sa)
    && s.on (Reg.PORCH_SES_CTL_etp x) == etp && (s.sesS x).bam == bam

def sendSlots : List Nat := [0, 1, 2, 3, 4, 5, 6, 7]
def recvSlots : List Nat := [8, 9, 10, 11, 12, 13, 14, 15]

/-- A connection-management frame received (R595, R596; ISO 11783-3). -/
def tpCmRx (s : Chip) (n : Nat) (etp : Bool) (sa dest : Nat) (l : List Byte) : Chip :=
  let ctl := (l.getD 0 0).toNat
  let pgn := leNat ((l.drop 5).take 3) % 2 ^ 18
  let b (i k : Nat) : Nat := leNat ((l.drop i).take k)
  if dest = 255 && (etp || ctl != 32) then s
  else if ctl = 255 then
    match s.sesFind (sendSlots ++ recvSlots) n sa etp false with
    | some x => if s.sesPgn x = pgn then s.sesEnd x 3 (b 1 1) else s
    | none => s
  else if !etp && ctl = 16 then
    let len := b 1 2
    if (s.sesFind recvSlots n sa false false).isSome || (s.sesFind recvSlots n sa true false).isSome then s.tpAbort n false sa 1 pgn
    else if 1785 < len then s.tpAbort n false sa 9 pgn
    else if len < 9 then s.tpAbort n false sa 250 pgn
    else
      match s.rxFree with
      | some x => s.rxOpen x n sa pgn len (b 4 1) false false
      | none => s.tpAbort n false sa 2 pgn
  else if !etp && ctl = 32 then
    if dest != 255 then s
    else
      match s.rxFree with
      | some x => if 9 ≤ b 1 2 && b 1 2 ≤ 1785 then s.rxOpen x n sa pgn (b 1 2) 16 false true else s
      | none => s.bump Reg.PORCH_STAT_bam_lost 65535
  else if etp && ctl = 20 then
    let len := b 1 4
    if (s.sesFind recvSlots n sa false false).isSome || (s.sesFind recvSlots n sa true false).isSome then s.tpAbort n true sa 1 pgn
    else
      match if s.etpBusy || !s.etpFits len then none else s.rxFree with
      | some x => s.rxOpen x n sa pgn len 16 true false
      | none => s.tpAbort n true sa 2 pgn
  else if (!etp && ctl = 17) || (etp && ctl = 21) then
    match s.sesFind sendSlots n sa etp false with
    | none => s
    | some x =>
      let k := b 1 1
      let first := if etp then b 2 3 else b 2 1
      if s.sesPgn x != pgn then s
      else if k = 0 then s.modSes x fun q => { q with timer := 4, timAt := s.now }
      else if first = 0 || s.sesPackets x < first then s
      else
        let q := s.sesS x
        let again := lookupD 0 first q.tries + 1
        if first < q.next && 2 < again then s.sesAbort x 5 5
        else
          let tries := if first < q.next then insertAt first again q.tries else q.tries
          let s := s.modSes x fun q => { q with
            next := first, winEnd := min (s.sesPackets x) (first + k - 1), tries := tries, timer := 0, timAt := s.now, dpo := first - 1 }
          if etp then s.tpCm n true (.ses x 4) sa (leBytes 1 22 ++ leBytes 1 k ++ leBytes 3 (first - 1)) pgn
          else s.sesData x
  else if (!etp && ctl = 19) || (etp && ctl = 23) then
    match s.sesFind sendSlots n sa etp false with
    | some x => if s.sesPgn x = pgn && s.sesPackets x < (s.sesS x).next then s.sesEnd x 2 0 else s
    | none => s
  else if etp && ctl = 22 then
    match s.sesFind recvSlots n sa true false with
    | some x => if s.sesPgn x = pgn then s.modSes x fun q => { q with dpo := b 2 3 } else s
    | none => s
  else s

/-- A data frame received (R595). -/
def tpDtRx (s : Chip) (n : Nat) (etp : Bool) (sa dest : Nat) (l : List Byte) : Chip :=
  match s.sesFind recvSlots n sa etp (!etp && dest = 255) with
  | none => s
  | some x =>
    let q := s.sesS x
    let k := (l.getD 0 0).toNat + (if etp then q.dpo else 0)
    let total := s.sesPackets x
    if k < q.next then s
    else if q.next < k then
      if q.bam then s.sesEnd x 3 7
      else
        let again := lookupD 0 q.next q.tries + 1
        if 2 < again then s.sesAbort x 5 5
        else (s.modSes x fun q => { q with tries := insertAt q.next again q.tries }).sesCts x
    else
      let m := min 7 (s.sesLen x - 7 * (k - 1))
      let s := s.setBytes (bufAddr (s.sesBuf x) + 7 * (k - 1)) ((l.drop 1).take m)
      let s := s.modSes x fun q => { q with next := k + 1, timer := 1, timAt := s.now }
      if k = total then
        let pgn := s.sesPgn x
        let s := if q.bam then s
          else if etp then s.tpCm n true .other sa (leBytes 1 23 ++ leBytes 4 (s.sesLen x)) pgn
          else s.tpCm n false .other sa (leBytes 1 19 ++ leBytes 2 (s.sesLen x) ++ leBytes 1 total ++ [0xFF]) pgn
        let s := s.sesEnd x 2 0
        if pgn = 0xFED8 && s.sesLen x = 9 then
          s.commanded n (s.load (bufAddr (s.sesBuf x)) 8) (s.load (bufAddr (s.sesBuf x) + 8) 1)
        else s
      else if !q.bam && k = q.winEnd then s.sesCts x
      else s

/-! ### Porch: requests and messages -/

/-- Acknowledgment to a requester (PGN 0xE800) with a control byte. -/
def ackSend (s : Chip) (n ctl sa pgn : Nat) : Chip :=
  s.porchSend n { kind := .other, prio := 6, pgn := 0xE800, dest := 255,
                  data := leBytes 1 ctl ++ [0xFF, 0xFF, 0xFF] ++ leBytes 1 sa ++ pgnBytes pgn }

/-- Status message i of port n: 0 to 3 the clusters, 4 the module (R600). -/
def statusSend (s : Chip) (n i : Nat) (once : Bool) : Chip :=
  let k := nth (s.portS n).counts i
  let f : OutFrame := {
    kind := .other, prio := 6, pgn := 0xFF00 + (s.get Reg.PORCH_CFG_ge_base + i) % 256, dest := 255,
    data := if i < 4 then s.clusterStatus i k else s.moduleStatus k, once := once }
  let s := if i = 4 then s.useFree else s
  (s.modPort n fun p => { p with
    counts := updNth (fun c => (c + 1) % 16) i p.counts, lastPeak := if i = 4 then s.peakByte else p.lastPeak }).porchSend n f

/-- The status messages that a port sends. -/
def statusList (s : Chip) : List Nat :=
  ((List.range 4).filter fun k =>
    let t := (s.topo k).type
    t == 1 || t == 2 || t == 3 || t == 5) ++ [4]

/-- A Request received by port n (R588, R592). -/
def requestRx (s : Chip) (n sa dest pgn : Nat) : Chip :=
  let own := dest != 255
  let st := s.portState n
  if pgn = 0xEE00 then
    if st = 1 ∨ st = 2 then s.claimSend n
    else if st = 3 then s.cannotSend n else s
  else if st = 0 ∨ st = 3 then s
  else
    let base := s.get Reg.PORCH_CFG_ge_base
    match s.statusList.find? fun i => pgn = 0xFF00 + (base + i) % 256 with
    | some i => s.statusSend n i false
    | none =>
      if s.on (Reg.PORCH_P_CFG_req_sw n) then
        if s.on Reg.PORCH_REQ_valid then (if own then s.ackSend n 3 sa pgn else s)
        else
          let s := s.sets [(Reg.PORCH_REQ_sa, sa), (Reg.PORCH_REQ_valid, 1), (Reg.PORCH_REQ_port, n), (Reg.PORCH_REQ_pgn, pgn),
            (Reg.PORCH_FLAGS_req, 1)]
          s.modPorch fun p => { p with reqGlobal := !own, reqAt := s.now }
      else if own then s.ackSend n 1 sa pgn
      else s

/-- A PORCH_REQ_ANS write. -/
def reqAnswer (s : Chip) (d : Nat) : Chip :=
  let a := d % 4
  if !s.on Reg.PORCH_REQ_valid || !(a == 1 || a == 2) then s
  else
    let s := if a = 2 then s.ackSend (s.get Reg.PORCH_REQ_port) 1 (s.get Reg.PORCH_REQ_sa) (s.get Reg.PORCH_REQ_pgn) else s
    s.put Reg.PORCH_REQ_valid false

/-- CMD_CHECK. -/
def cmdCheck (s : Chip) (n cause type : Nat) : Chip := s.note 0x0B25 n (cause + 256 * type)

def cmdReject (s : Chip) (n k cause type : Nat) : Chip := (s.bump (Reg.PORCH_CMD_STAT_rejects k) 255).cmdCheck n cause type

/-- A checked command message of port n (Table 15-9). -/
def checkedRx (s : Chip) (n sa : Nat) (l : List Byte) : Chip :=
  let type := (l.getD 0 0).toNat
  let b1 := (l.getD 1 0).toNat
  let k := b1 % 4
  let t := (s.topo k).type
  if !(0x10 ≤ type && type ≤ 0x12) || !(1 ≤ t && t ≤ 3) then (s.ackSend n 1 sa 0xEF00).cmdCheck n 4 type
  else if crc16 (leBytes 1 sa ++ leBytes 1 (s.portAddr n) ++ l.take 6) != 256 * (l.getD 6 0).toNat + (l.getD 7 0).toNat then
    s.cmdReject n k 1 type
  else
    let key := 4 * type + k
    let ctr := b1 / 16
    match (s.portS n).streams.find? fun p => p.1 = key with
    | none => s.modPort n fun p => { p with streams := insertAt key ctr p.streams }
    | some (_, last) =>
      let d := (ctr + 16 - last) % 16
      if d = 0 then s.cmdReject n k 2 type
      else
        let s := s.modPort n fun p => { p with streams := insertAt key ctr p.streams }
        if max 1 (s.get Reg.PORCH_CFG_skip) < d then s.cmdReject n k 3 type
        else
          let v := leNat ((l.drop 2).take 4)
          let s := if type = 0x10 then s.set (Reg.PORCH_CMD_TQ_value k) v
            else if type = 0x11 then s.set (Reg.PORCH_CMD_SPD_value k) v
            else s.set (Reg.PORCH_CMD_REQ_code k) v
          let s := (s.set (Reg.PORCH_CMD_REQ_sa k) sa).setBitOf (Reg.PORCH_CMD_REQ_new k) (type - 0x10)
          let s := s.modPorch fun p => { p with cmdAt := updNth (fun _ => some s.now) k p.cmdAt }
          let s := s.modPort n fun p => { p with applied := s.now }
          s.put Reg.PORCH_FLAGS_cmd true

/-- A safety message as the processor safety channel checks and takes it (R455, R601, R603). -/
def safeMsg (s : Chip) (n sa : Nat) (l : List Byte) : Chip :=
  let type := (l.getD 0 0).toNat
  let b1 := (l.getD 1 0).toNat
  let k := b1 % 4
  let key := 4 * type + k
  let ctr := b1 / 16
  if !s.pcRuns k
    || crc16 (leBytes 1 sa ++ leBytes 1 (s.portAddr n) ++ l.take 6) != 256 * (l.getD 6 0).toNat + (l.getD 7 0).toNat then s
  else
    match s.porch.safe.find? fun p => p.1 = key with
    | none => s.modPorch fun p => { p with safe := insertAt key ctr p.safe }
    | some (_, last) =>
      let d := (ctr + 16 - last) % 16
      let s := if d = 0 then s else s.modPorch fun p => { p with safe := insertAt key ctr p.safe }
      if d = 0 || max 1 (s.get Reg.PORCH_CFG_skip) < d then s
      else
        let s := s.modCl k fun c => { c with msgLost := false, msgAt := s.now }
        if type = 0x20 then s.ss1Begin k
        else if type = 0x21 then s.pcSto k 0x071D 3
        else s.set (Reg.RING_C_SLIM_slim k) (leNat ((l.drop 2).take 4))

/-! ### Transmit buffers (R579 to R582) -/

/-- A frame of Porch has left its buffer with a status (R587, R597). A claim or cannot-claim message that a lost clock or a mode
change cut is sent anew once the controller sends again (Table 15-10); a session whose frame was cut by a mode change waits for its
timeout, so that it ends (log entry 55). -/
def porchTxEnd (s : Chip) (n : Nat) (k : OutKind) (st : Nat) : Chip :=
  let cut := st = 7 ∨ st = 8
  match k with
  | .claim =>
    if st = 2 then s.modPort n fun p => { p with claimSent := p.claims.isEmpty, claimTick := s.now }
    else if cut ∧ (s.portState n = 1 ∨ s.portState n = 2) then s.claimSend n else s
  | .cannot => if cut ∧ s.portState n = 3 then s.cannotSend n else s
  | .ses x w =>
    if !s.sesRuns x then s
    else if st = 2 then s.sesSent x w
    else if st = 4 ∨ st = 5 then s.sesEnd x 3 0xF2
    else s.modSes x fun q => { q with timer := if x < 8 then 3 else 2, timAt := s.now }
  | .other => s

/-- A buffer ends in a state of Table 15-2. -/
def bufEnd (s : Chip) (n b st : Nat) : Chip :=
  let s := s.sets [(Reg.CAN_TXB_STAT_status n b, st), (Reg.CAN_TXB_CMD_req n b, 0)]
  let s := if st = 2 then s.setBitOf (Reg.CAN_FLAGS_tx_done n) b
    else
      let first := s.get (Reg.CAN_FLAGS_tx_fail n) == 0
      let s := s.setBitOf (Reg.CAN_FLAGS_tx_fail n) b
      if first then s.note 0x0B14 n (b + 256 * st) else s
  if s.porchOn n && b < 2 then
    let k := s.bufKind n b
    let s := s.modPort n fun p => if b = 0 then { p with buf0 := none } else { p with buf1 := none }
    match k with
    | some k => (s.porchTxEnd n k st).porchLoad n
    | none => s.porchLoad n
  else s

/-- Every pending buffer ends; the frame in transmission is cut. -/
def bufsEnd (s : Chip) (n st : Nat) : Chip :=
  let l := (List.range 3).filter fun b => s.txPending n b
  let s := s.modCan n fun c => { c with cur := none, endAs := 0 }
  forEach l (fun b t => t.bufEnd n b st) s

/-- The bus is free and a buffer is offered: its frame starts (R579). -/
def txStart (s : Chip) (n : Nat) : Chip :=
  let c := s.canS n
  if c.cur.isNone && (c.busFree || s.canMode n = 3) && s.canSends n then
    match s.txChoice n with
    | some b => s.modCan n fun c => { c with cur := some (b, s.now), endAs := 0, busFree := false }
    | none => s
  else s

/-- Ticks of a transport timer (Table 15-5): 1 to 4 T1 to T4, 5 the BAM gap of the slot's port. -/
def timerTicks (s : Chip) (x i : Nat) : Nat :=
  match i with
  | 1 => ms 750
  | 4 => ms 1050
  | 5 => ms (min 200 (max (if s.on (Reg.PORCH_P_CFG_profile (s.sesPort x)) then 50 else 10) (s.get Reg.PORCH_CFG_bam_gap)))
  | _ => ms 1250

/-- The timer of a slot has run out. -/
def timerPast (s : Chip) (x : Nat) : Bool := (s.sesS x).timAt + s.timerTicks x (s.sesS x).timer ≤ s.now

/-- The idle buffers of controller n aborted in this tick, buffer b among them (R582). -/
def abortsNow (s : Chip) (n b : Nat) : Nat × List Nat :=
  let a := (s.canS n).aborts
  (s.now, if a.1 = s.now then b :: a.2 else [b])

/-- CANn_TXBb_CMD written (R579, R580, R582, R585, R593). -/
def txCmd (s : Chip) (n b d : Nat) : Chip :=
  let ign (t : Chip) : Chip := t.put (Reg.CAN_FLAGS_txw_ign n) true
  if s.porchOn n && b < 2 then ign s
  else
    let s := s.sets [(Reg.CAN_TXB_CMD_sa_ins n b, if b = 2 then bitOf d 3 else 0), (Reg.CAN_TXB_CMD_once n b, bitOf d 2)]
    let pending := s.txPending n b
    let s := if hasBit d 0 && pending then ign s else s
    if hasBit d 1 then
      if pending then
        match (s.canS n).cur with
        | some (c, _) => if c = b then s.modCan n fun x => { x with endAs := 3 } else s.bufEnd n b 3
        | none => s.bufEnd n b 3
      else if hasBit d 0 then s.bufEnd n b 3
      else s.modCan n fun x => { x with aborts := s.abortsNow n b }
    else if hasBit d 0 && !pending && (s.canS n).aborts.1 = s.now && (s.canS n).aborts.2.contains b then
      s.bufEnd n b 3
    else if hasBit d 0 && !pending then
      let w0 := s.recWordOf n b 0
      let w1 := s.recWordOf n b 1
      let bad := (!s.on (Reg.CAN_CFG_fd_en n) && (hasBit w1 4 || 8 < w1 % 16))
        || (hasBit w1 5 && !s.on (Reg.CAN_CFG_brs_en n))
        || s.canMode n == 0 || s.canMode n == 2
        || (s.porchOn n && b == 2 && hasBit w0 29 && s.portState n != 2)
      if bad then s.bufEnd n b 9
      else s.sets [(Reg.CAN_TXB_STAT_status n b, 1), (Reg.CAN_TXB_CMD_req n b, 1)]
    else s

/-- A word written to a frame record. -/
def recWrite (s : Chip) (n b w d : Nat) : Chip :=
  if (s.porchOn n && b < 2) || s.txPending n b then s.put (Reg.CAN_FLAGS_txw_ign n) true
  else s.recPut n b w (Nat.land d (recMask w))

/-! ### Error confinement (R583, R584, R598) -/

/-- conf follows the counters; error-passive entered is recorded. -/
def canConf (s : Chip) (n : Nat) : Chip :=
  let t := s.get (Reg.CAN_STAT_tec n)
  let r := s.get (Reg.CAN_STAT_rec n)
  let was := s.get (Reg.CAN_STAT_conf n)
  if was = 2 then s
  else if 128 ≤ t ∨ 128 ≤ r then
    if was = 1 then s
    else (s.sets [(Reg.CAN_STAT_conf n, 1), (Reg.CAN_FLAGS_passive_ev n, 1)]).note 0x0B11 n (r + 65536 * t)
  else s.set (Reg.CAN_STAT_conf n) 0

/-- Bus-off entered: buffers and sessions end. -/
def busOff (s : Chip) (n tec : Nat) : Chip :=
  let s := s.sets [(Reg.CAN_STAT_tec n, tec), (Reg.CAN_STAT_conf n, 2), (Reg.CAN_FLAGS_busoff_ev n, 1)]
  let s := s.note 0x0B10 n (s.get (Reg.CAN_STAT_rec n))
  let s := s.modCan n fun c => { c with recov := s.on (Reg.CAN_CFG_bo_auto n), busFree := false }
  let s := s.bufsEnd n 4
  if s.porchOn n then (s.sesFailAll n 0xF2).modPort n fun p => { p with claims := [], out := [] } else s

/-- Porch shows its back-off while the controller is alone (R599). -/
def showBackoff (s : Chip) (n : Nat) : Chip :=
  s.put (Reg.PORCH_P_STAT_backoff n) (s.porchOn n && s.on (Reg.CAN_STAT_alone n))

/-- The counted bit errors of a port within the latest 1 s (R598). -/
def recentErrors (s : Chip) (n : Nat) : List Nat := (s.portS n).berrs.filter fun t => s.now ≤ t + ms 1000

/-- A bit error in the data field of a frame with the port's address as source (R598): the third within 1 s of the first of
the three is a conflict. -/
def bitErrorSeen (s : Chip) (n : Nat) : Chip :=
  let l := s.now :: s.recentErrors n
  let put (t : Chip) (l : List Nat) : Chip :=
    (t.modPort n fun p => { p with berrs := l }).set (Reg.PORCH_P_STAT_biterr n) l.length
  if l.length < 3 then put s l
  else if s.portState n = 1 ∨ s.portState n = 2 then ((put s []).addrConflict n 1).claimAt n (s.portAddr n)
  else put s []

/-- The buffer in transmission ends after an unsuccessful attempt, or stays pending. -/
def txRetry (s : Chip) (n : Nat) : Chip :=
  match (s.canS n).cur with
  | none => s
  | some (b, _) =>
    let st := (s.canS n).endAs
    let s := s.modCan n fun c => { c with cur := none, endAs := 0 }
    if st != 0 then s.bufEnd n b st
    else if s.on (Reg.CAN_TXB_CMD_once n b) then s.bufEnd n b 6
    else s

/-- An ACK error of the frame in transmission (R584). -/
def ackError (s : Chip) (n : Nat) : Chip :=
  let s := s.bump (Reg.CAN_STAT_ack_run n) 127
  let b := match (s.canS n).cur with | some (b, _) => b | none => 0
  let lim := s.get (Reg.CAN_CFG_ack_lim n)
  if lim != 0 && s.get (Reg.CAN_STAT_ack_run n) = lim then
    let s := (s.sets [(Reg.CAN_STAT_alone n, 1), (Reg.CAN_FLAGS_alone_ev n, 1)]).note 0x0B12 n b
    let s := (s.showBackoff n).modPort n fun p => { p with probeAt := s.now }
    if s.on (Reg.CAN_CFG_alone_abort n) && (s.canS n).cur.isSome then
      (s.modCan n fun c => { c with cur := none, endAs := 0 }).bufEnd n b 5
    else s
  else s

/-- A bus error (R583). -/
def canError (s : Chip) (n : Nat) (e : CanError) : Chip :=
  if !s.canJoined n then s
  else
    let cur := (s.canS n).cur
    let s := s.sets [(Reg.CAN_STAT_lec n, e.kind.val), (Reg.CAN_STAT_lec_data n, b2n e.data)]
    let s := s.modCan n fun c => { c with busFree := true }
    if s.canMode n = 2 then (if e.tx then s.txRetry n else s)
    else
      let passive := s.get (Reg.CAN_STAT_conf n) == 1
      let tec := s.get (Reg.CAN_STAT_tec n)
      if e.tx && cur.isSome then
        let quiet := e.exempt || (e.kind.val == 3 && passive && e.eights.val == 0)
        let tec' := tec + 8 * e.eights.val + (if quiet then 0 else 8)
        let own := match cur with
          | some (b, _) => s.porchOn n && (s.recFrame n b).ide && (b < 2 || (s.recId n b) % 256 == s.portAddr n)
          | none => false
        let s := if e.kind.val = 3 then s.ackError n else s
        let s := if 255 < tec' then s.busOff n (min 511 tec')
          else ((s.set (Reg.CAN_STAT_tec n) tec').canConf n).txRetry n
        if own && e.data && (e.kind.val = 4 || e.kind.val = 5) then s.bitErrorSeen n else s
      else
        let r := s.get (Reg.CAN_STAT_rec n) + 8 * e.eights.val + (if e.exempt then 0 else 1)
        (s.set (Reg.CAN_STAT_rec n) (min 255 r)).canConf n

/-- A frame received or sent lowers its counter; above 127 the receive counter takes a value from 119 to 127 that
ISO 11898-1 leaves open (log entry 6). -/
def recLower (s : Chip) (n : Nat) : Chip :=
  let r := s.get (Reg.CAN_STAT_rec n)
  if r = 0 then s
  else if r < 128 then (s.set (Reg.CAN_STAT_rec n) (r - 1)).canConf n
  else ((s.set (Reg.CAN_STAT_rec n) (119 + s.freeVal % 9)).useFree).canConf n

/-! ### Reception (R576 to R578, R591) -/

/-- The filter that a frame matches first. -/
def filterOf (s : Chip) (n : Nat) (f : CanFrame) : Option Nat :=
  (List.range 32).find? fun i =>
    let m := s.get (Reg.CAN_FLT_MSK_mask n i)
    let m := if f.ide then m else m / 2 ^ 18 * 2 ^ 18
    s.get (Reg.CAN_FLT_ID_action n i) != 0 && s.on (Reg.CAN_FLT_ID_ide n i) == f.ide
      && Nat.land (Nat.xor f.id.val (s.get (Reg.CAN_FLT_ID_id n i))) m == 0

/-- A frame into the receive FIFO. -/
def fifoPut (s : Chip) (n : Nat) (x : RxFrame) : Chip :=
  if 16 ≤ (s.canS n).fifo.length then
    let s := s.bump (Reg.CAN_RXF_STAT_lost n) 65535
    s.firstNote (Reg.CAN_FLAGS_rx_ovr n) 0x0B13 n (s.get (Reg.CAN_RXF_STAT_lost n))
  else
    let s := s.modCan n fun c => { c with fifo := c.fifo ++ [x] }
    s.sets [(Reg.CAN_RXF_STAT_count n, (s.canS n).fifo.length), (Reg.CAN_FLAGS_rx_ev n, 1)]

/-- A frame into the high-priority buffer. -/
def hpPut (s : Chip) (n : Nat) (x : RxFrame) : Chip :=
  let s := if s.on (Reg.CAN_HP_STAT_new n) then
      (s.bump (Reg.CAN_HP_STAT_ovr n) 65535).put (Reg.CAN_FLAGS_hp_ovr n) true else s
  (s.modCan n fun c => { c with held := some { x with hp := true } }).put (Reg.CAN_HP_STAT_new n) true

def rxPop (s : Chip) (n : Nat) : Chip :=
  let s := s.modCan n fun c => { c with fifo := c.fifo.drop 1 }
  s.set (Reg.CAN_RXF_STAT_count n) (s.canS n).fifo.length

def hpTake (s : Chip) (n : Nat) : Chip :=
  let s := s.modCan n fun c => { c with window := match c.held with | some x => some x | none => c.window }
  s.put (Reg.CAN_HP_STAT_new n) false

/-- PGN and destination of an extended frame. -/
def framePgn (id : Nat) : Nat × Nat :=
  let pf := id / 65536 % 256
  let dp := id / 2 ^ 24 % 4
  if pf < 240 then (dp * 65536 + pf * 256, id / 256 % 256) else (dp * 65536 + id / 256 % 65536, 255)

/-- The frame is a safety message of port n that R603 sends to the high-priority buffer. -/
def safetyFrame (s : Chip) (n : Nat) (f : CanFrame) : Bool :=
  let (pgn, dest) := framePgn f.id.val
  s.porchOn n && s.on Reg.PORCH_CFG_safe_en && f.ide && !f.fdf && !f.rtr && f.data.length == 8 && pgn == 0xEF00
    && (s.portState n == 1 || s.portState n == 2) && dest == s.portAddr n
    && (0x20 ≤ (f.data.getD 0 0).toNat && (f.data.getD 0 0).toNat ≤ 0x22)

/-- Porch takes a frame of another node (R589, R591). -/
def porchRx (s : Chip) (n : Nat) (f : CanFrame) : Chip :=
  if !s.porchOn n || !f.ide || f.fdf || f.rtr then s
  else
    let id := f.id.val
    let sa := id % 256
    let (pgn, dest) := framePgn id
    let st := s.portState n
    let s := if sa = s.portAddr n && pgn != 0xEE00 && (st = 1 || st = 2) then (s.addrConflict n 2).claimSend n else s
    let live := st = 1 || st = 2
    if pgn = 0xEE00 then (if f.data.length = 8 then s.claimRx n sa (leNat f.data) else s)
    else if dest != 255 && !(live && dest = s.portAddr n) then s
    else if pgn = 0xEA00 then (if 3 ≤ f.data.length then s.requestRx n sa dest (leNat (f.data.take 3) % 2 ^ 18) else s)
    else if pgn = 0xEC00 || pgn = 0xC800 then
      (if (live || dest = 255 && st = 3) && f.data.length = 8 then s.tpCmRx n (pgn == 0xC800) sa dest f.data else s)
    else if pgn = 0xEB00 || pgn = 0xC700 then
      (if (live || dest = 255 && st = 3) && f.data.length = 8 then s.tpDtRx n (pgn == 0xC700) sa dest f.data else s)
    else if pgn = 0xEF00 && dest != 255 && f.data.length = 8 then s.checkedRx n sa f.data
    else s

/-- A frame received without error, `ts` its SOF; `own`: the controller's own in LOOPBACK. -/
def frameRx (s : Chip) (n : Nat) (f : CanFrame) (ts : Nat) (own : Bool) : Chip :=
  let flt := s.filterOf n f
  let x : RxFrame := ⟨f, flt.getD 31, false, ts⟩
  let act := match flt with
    | some i => s.get (Reg.CAN_FLT_ID_action n i)
    | none => if s.on (Reg.CAN_CFG_nomatch n) then 1 else 3
  let safe := s.safetyFrame n f
  let sc := s.get Reg.PORCH_CFG_safe_can
  let s := if safe && sc = n then s
    else match act with
      | 1 => s.fifoPut n x
      | 2 => s.hpPut n x
      | _ => s
  if safe then (s.hpPut sc x).safeMsg n (f.id.val % 256) f.data
  else if own then s
  else s.porchRx n f

/-- A frame on controller n's bus, received by the controller (R572, R583). -/
def canRx (s : Chip) (n : Nat) (f : CanFrame) (ago : Nat) : Chip :=
  if !s.canJoined n || s.canMode n = 3 then s
  else if f.fdf && !s.on (Reg.CAN_CFG_fd_en n) then
    s.canError n { tx := false, kind := 2, data := false, eights := 0, exempt := false }
  else
    let s := s.modCan n fun c => { c with busFree := true }
    let s := if s.canMode n = 2 then s else s.recLower n
    s.frameRx n f ((s.now + 2 ^ 32 - ago) % 2 ^ 32) false

/-- The frame in transmission ends (R581). -/
def txEnd (s : Chip) (n : Nat) (e : TxEnd) : Chip :=
  match (s.canS n).cur with
  | none => s
  | some (b, t) =>
    match e with
    | .error x => s.canError n { x with tx := true }
    | .lost => (s.modCan n fun c => { c with busFree := false }).txRetry n
    | .acked loop =>
      let f := s.recFrame n b
      let s := s.modCan n fun c => { c with cur := none, endAs := 0, busFree := true }
      let s := if s.canMode n = 3 then s else (s.set (Reg.CAN_STAT_tec n) (s.get (Reg.CAN_STAT_tec n) - 1)).canConf n
      let s := if s.on (Reg.CAN_STAT_alone n) then s.modPort n fun p => { p with statAt := s.now } else s
      let s := s.sets [(Reg.CAN_STAT_ack_run n, 0), (Reg.CAN_STAT_alone n, 0), (Reg.CAN_TXB_TS_tstamp n b, t)]
      let s := if f.fdf && s.on (Reg.CAN_TDC_en n) then s.set (Reg.CAN_TDC_measured n) loop.val else s
      let s := (s.showBackoff n).bufEnd n b 2
      if s.canMode n = 3 then s.frameRx n f (t % 2 ^ 32) true else s

/-! ### Mode, unit reset, other registers -/

/-- CANn_CTL.mode written (R573, Table 15-2). -/
def canModeSet (s : Chip) (n m : Nat) : Chip :=
  let was := s.canMode n
  if was = m then s
  else
    let s := s.set (Reg.CAN_CTL_mode n) m
    let s := if m = 0 then s.bufsEnd n 8
      else
        let cur := (s.canS n).cur.map (·.1)
        let s := forEach ((List.range 3).filter fun b => s.txPending n b && cur != some b) (fun b t => t.bufEnd n b 8) s
        if cur.isSome then s.modCan n fun c => { c with endAs := if c.endAs = 0 then 8 else c.endAs } else s
    if was = 0 then (s.put (Reg.CAN_STAT_integrating n) true).modCan n fun c => { c with busFree := false }
    else if m = 0 then s.put (Reg.CAN_STAT_integrating n) false
    else s.porchLoad n

/-- The unit reset of a controller (R13, Table 15-2). -/
def canReset (s : Chip) (n : Nat) : Chip :=
  let st (b : Nat) : Nat := s.get (Reg.CAN_TXB_STAT_status n b)
  let s := (s.set (Reg.CAN_CTL_mode n) 0).bufsEnd n 8
  let keep := (List.range 3).filter fun b => st b = 1
  let s := s.modPort n fun p => { p with buf0 := none, buf1 := none }
  let s := (s.resetRange (0x41600000 + 0x1000 * n) (0x41600FFF + 0x1000 * n)).modCan n fun _ => {}
  (forEach keep (fun b t => t.set (Reg.CAN_TXB_STAT_status n b) 8) s).showBackoff n

/-- A register whose fields are taken in INIT only (R574). -/
def initOnly (o : Nat) : Bool := o == 0 || o == 0x14 || o == 0x18 || o == 0x1C

/-- A write to a controller's registers. -/
def canWrite (s : Chip) (a d : Nat) : Chip :=
  let n := a / 0x1000 % 4
  let o := a % 0x1000
  if initOnly o then
    if s.canMode n = 0 then s.configWord a d else s.put (Reg.CAN_FLAGS_cfg_ign n) true
  else if o = 4 then
    let s := s.canModeSet n (d % 4)
    let s := if hasBit d 8 && s.get (Reg.CAN_STAT_conf n) = 2 then s.modCan n fun c => { c with recov := true } else s
    if hasBit d 9 then s.canReset n else s
  else if o = 0x44 then (if hasBit d 0 then s.rxPop n else s)
  else if o = 0x4C then (if hasBit d 0 then s.hpTake n else s)
  else if 0x600 ≤ o ∧ o < 0x780 then
    let b := (o - 0x600) / 0x80
    let r := o % 0x80
    if r < 0x4C then s.recWrite n b (r / 4) d
    else if r = 0x50 then s.txCmd n b d
    else if populated a then s
    else s.hole a
  else if (0x400 ≤ o ∧ o < 0x44C) ∨ (0x500 ≤ o ∧ o < 0x54C) then s
  else s.genericWrite a d

/-- Words of a received frame in a window. -/
def windowWord (x : Option RxFrame) (w : Nat) : Nat :=
  match x with
  | none => 0
  | some x =>
    let f := x.frame
    if w = 0 then f.id.val + 2 ^ 29 * b2n f.ide + 2 ^ 30 * b2n f.rtr
    else if w = 1 then f.dlc.val + 16 * b2n f.fdf + 32 * b2n f.brs + 64 * b2n f.esi + 256 * x.filter + 8192 * b2n x.hp
    else if w = 2 then x.ts
    else leNat ((f.data.drop (4 * (w - 3))).take 4)

/-- A window or a frame record of a controller, if the address is one: its word. -/
def canWindow (s : Chip) (a : Nat) : Option Nat :=
  let n := a / 0x1000 % 4
  let o := a % 0x1000
  if 0x400 ≤ o ∧ o < 0x44C then some (windowWord (s.canS n).fifo.head? ((o - 0x400) / 4))
  else if 0x500 ≤ o ∧ o < 0x54C then some (windowWord (s.canS n).window ((o - 0x500) / 4))
  else if 0x600 ≤ o ∧ o < 0x780 ∧ o % 0x80 < 0x4C then
    let b := (o - 0x600) / 0x80
    let w := o % 0x80 / 4
    some (s.recWordOf n b w + if w = 1 then 64 * b2n (s.get (Reg.CAN_STAT_conf n) == 1) else 0)
  else none

/-- Porch gives up its frames in the transmit buffers: one in transmission ends with its frame. -/
def porchWithdraw (s : Chip) (n : Nat) : Chip :=
  forEach ([0, 1].filter fun b => s.txPending n b && (s.bufKind n b).isSome) (fun b t =>
    match (t.canS n).cur with
    | some (c, _) => if c = b then t.modCan n fun x => { x with endAs := 3 } else t.bufEnd n b 3
    | none => t.bufEnd n b 3) (s.modPort n fun p => { p with claims := [], out := [] })

/-- Porch stops serving a port, which sends nothing more (Table 15-3, R597). -/
def portOff (s : Chip) (n : Nat) : Chip :=
  let s := (s.sesFailAll n 0xF4).porchWithdraw n
  let s := s.put (Reg.PORCH_P_CFG_en n) false
  let s := s.portSet n 0 (s.portAddr n)
  let s := s.modPort n fun p => { counts := p.counts, lastPeak := p.lastPeak }
  (s.set (Reg.PORCH_P_STAT_biterr n) 0).showBackoff n

/-- Porch starts to serve a port (R585, R587). -/
def portOn (s : Chip) (n : Nat) : Chip :=
  let s := (s.put (Reg.PORCH_P_CFG_en n) true).modPort n fun p => { counts := p.counts, lastPeak := p.lastPeak, applied := s.now }
  (s.showBackoff n).claimPref n

/-- PORCH_Pn_CFG written: other fields ignore writes while en is set. -/
def portCfgWrite (s : Chip) (n d : Nat) : Chip :=
  if s.porchOn n then (if hasBit d 0 then s else s.portOff n)
  else
    let s := s.sets [(Reg.PORCH_P_CFG_per n, part d 16 16), (Reg.PORCH_P_CFG_pref_addr n, part d 8 8),
      (Reg.PORCH_P_CFG_cmd_req n, bitOf d 5), (Reg.PORCH_P_CFG_req_sw n, bitOf d 4), (Reg.PORCH_P_CFG_cmd_addr n, bitOf d 3),
      (Reg.PORCH_P_CFG_profile n, bitOf d 1)]
    if hasBit d 0 then s.portOn n else s

/-- PORCH_POOL written (R594). -/
def poolWrite (s : Chip) (d : Nat) : Chip :=
  let base := d % 1024
  let bad := 1024 < base + 112 || s.ringsOn.any fun o => base < o.1 + o.2 && o.1 < base + 112
  if hasBit d 31 && bad then s.put Reg.PORCH_FLAGS_pool_bad true
  else s.sets [(Reg.PORCH_POOL_en, bitOf d 31), (Reg.PORCH_POOL_base, base)]

/-- cancel of a send slot. -/
def sesCancel (s : Chip) (x : Nat) : Chip := if s.sesRuns x then s.sesAbort x 255 0xF5 else s

/-- release of a receive slot. -/
def sesRelease (s : Chip) (x : Nat) : Chip :=
  if s.get (Reg.PORCH_SES_STAT_state x) = 2 ∨ s.get (Reg.PORCH_SES_STAT_state x) = 3 then
    s.set (Reg.PORCH_SES_STAT_state x) 0 else s

/-- PORCH_SESs_CTL written. -/
def sesCtlWrite (s : Chip) (x d : Nat) : Chip :=
  let s := s.sets [(Reg.PORCH_SES_CTL_port x, part d 4 2), (Reg.PORCH_SES_CTL_etp x, bitOf d 3), (Reg.PORCH_SES_CTL_ret x, bitOf d 2)]
  if x < 8 then
    let s := s.set (Reg.PORCH_SES_CTL_len x) (part d 12 20)
    let s := if hasBit d 1 then s.sesCancel x else s
    if hasBit d 0 then s.sesStart x else s
  else if hasBit d 1 then s.sesRelease x else s

/-- A write to Porch's registers. -/
def porchWrite (s : Chip) (a d : Nat) : Chip :=
  let o := a % 0x1000
  if o = 0x10 then s.poolWrite d
  else if o = 0x84 then s.reqAnswer d
  else if 0x100 ≤ o ∧ o < 0x200 ∧ o % 0x40 = 0 then s.portCfgWrite ((o - 0x100) / 0x40) d
  else if 0x100 ≤ o ∧ o < 0x200 ∧ o % 0x40 = 4 then (if hasBit d 0 then s.claimPref ((o - 0x100) / 0x40) else s)
  else if 0x400 ≤ o ∧ o < 0x500 ∧ o % 0x10 = 0 then
    s.genericWrite a d
  else if 0x400 ≤ o ∧ o < 0x500 ∧ o % 0x10 = 4 then s.sesCtlWrite ((o - 0x400) / 0x10) d
  else s.genericWrite a d

/-- PORCH_CMDk_STAT.age. -/
def cmdAge (s : Chip) (k : Nat) : Nat :=
  match nth s.porch.cmdAt k with
  | some t => min 65535 ((s.now - t) / 200000)
  | none => 65535

/-- REF_LOSS (R109, Table 15-10). -/
def canStop (s : Chip) : Chip :=
  forEach (List.range 4) (fun n t =>
    let t := t.bufsEnd n 7
    if t.porchOn n then t.sesFailAll n 0xF3 else t) s

end Chip

end Sys2Proof.Machine
end

