-- ==== Sys2Proof/Machine/RingOps.lean ====
section
/-! DEFINITION. Shared operations of the ring and the twin link (chapter 16): roles, cycles, cyclic frames, setpoints,
wrapping, messages, the state copy. -/

namespace Sys2Proof.Machine

/-- Epoch a is higher than epoch b (R633). -/
def epochHigher (a b : Nat) : Bool := let d := (a + 65536 - b) % 65536; 1 ≤ d && d ≤ 32767

/-- The epoch after one, 0 skipped (R634). -/
def epochNext (e : Nat) : Nat := if (e + 1) % 65536 = 0 then 1 else (e + 1) % 65536

/-- Byte-times 1 to 58 of a cyclic frame: type to uplink and downlink, with its CRC (Table 16-3). -/
def cyclicBytes (origin role hop flags cycle epoch : Nat) (up down : List Byte) : List Byte :=
  let l := leBytes 1 1 ++ leBytes 1 (origin + 32 * role) ++ leBytes 1 hop ++ leBytes 1 flags ++ leBytes 2 cycle ++ leBytes 2 epoch
    ++ up ++ down
  l ++ leBytes 2 (crc16 l)

namespace Chip

def modRing (s : Chip) (f : RingS → RingS) : Chip := { s with ring := f s.ring }
def modTwin (s : Chip) (f : TwinS → TwinS) : Chip := { s with twin := f s.twin }
def msgS (s : Chip) (m : Nat) : MsgS := nth s.ring.msgs m
def modMsg (s : Chip) (m : Nat) (f : MsgS → MsgS) : Chip := s.modRing fun r => { r with msgs := updNth f m r.msgs }

/-- The module's node number (R608, R140). -/
def nodeNumber (s : Chip) : Nat := if s.img.present && hasBit s.img.flags 1 then s.img.nodeId % 32 else s.cfg.nodeStrap % 32

def ringRole (s : Chip) : Nat := s.get Reg.RING_STAT_role

/-- The node sends, receives and forwards. While its transmitters are stopped it still receives, and its timer runs on (Table 16-9). -/
def ringOn (s : Chip) : Bool := s.on Reg.RING_CTL_en && !s.ring.stopped

def nMax (s : Chip) : Nat := max 1 (s.get Reg.RING_CFG_nmax) + 1

/-- RING_CFG.cycle in µs. -/
def cycleUs (s : Chip) : Nat := min 1000 (max 50 (s.get Reg.RING_CFG_cycle))

/-! ### Roles (R611, R634, R635) -/

/-- The Porch ports that follow the active role. -/
def porchFollow (s : Chip) (active : Bool) : Chip :=
  forEach (bitsOf (s.get Reg.RING_MGR_CFG_porch_act) 4) (fun n t =>
    if active then (if t.porchOn n then t else t.portOn n)
    else if t.porchOn n then t.portOff n else t) s

/-- The role changes; leaving or taking the active role moves the ports that follow it. -/
def roleSet (s : Chip) (r : Nat) : Chip :=
  let was := s.ringRole
  let s := s.set Reg.RING_STAT_role r
  if was = 2 && r != 2 then (s.set Reg.RING_EPOCH_own 0).porchFollow false
  else if was != 2 && r = 2 then s.porchFollow true
  else s

/-- The module becomes active with a new epoch (R634). -/
def becomeActive (s : Chip) : Chip :=
  let e := epochNext (s.get Reg.RING_EPOCH_seen)
  let s := s.sets [(Reg.RING_EPOCH_own, e), (Reg.RING_EPOCH_seen, e), (Reg.RING_STAT_state, 2), (Reg.RING_FLAGS_failover, 1)]
  (s.roleSet 2).note 0x0C15 0 e

/-- The node starts on the ring (R611). -/
def ringStart (s : Chip) : Chip :=
  let s := s.sets [(Reg.RING_CTL_en, 1), (Reg.RING_STAT_node, s.nodeNumber), (Reg.RING_STAT_dup, 0), (Reg.RING_STAT_wrapped, 0)]
  let s := s.modRing fun r => {
    stopped := false, msgs := r.msgs.map fun m => { seq := m.seq }, stored := r.stored, spMiss := r.spMiss,
    cycleAt := s.now, startAt := s.now, bankWas := s.get Reg.RING_MGR_CFG_bank }
  if s.nodeNumber < 2 then (s.roleSet 3).set Reg.RING_STAT_state 1
  else (s.roleSet 0).set Reg.RING_STAT_state 3

/-- A message ends (Table 16-6). -/
def msgEnd (s : Chip) (m st : Nat) : Chip :=
  let s := (s.modMsg m fun x => { seq := x.seq, firstB := x.firstB }).sets [(Reg.RING_TX_STAT_status m, st), (Reg.RING_TX_CTL_start m, 0)]
  if st = 2 then s.put Reg.RING_FLAGS_msg_done true
  else (s.put Reg.RING_FLAGS_msg_fail true).note 0x0C19 0 (m + 256 * st)

def msgRuns (s : Chip) (m : Nat) : Bool := s.get (Reg.RING_TX_STAT_status m) == 1

/-- Every running message ends as Ring down. -/
def msgsDown (s : Chip) : Chip :=
  forEach ((List.range 4).filter fun m => s.msgRuns m) (fun m t => t.msgEnd m 6) s

/-- RING_CTL.en cleared (R627). -/
def ringOff (s : Chip) : Chip :=
  if !s.on Reg.RING_CTL_en then s
  else
    let s := s.msgsDown
    let s := (s.roleSet 0).sets [(Reg.RING_CTL_en, 0), (Reg.RING_STAT_state, 0), (Reg.RING_STAT_wrapped, 0),
      (Reg.RING_STAT_rx_a_ok, 0), (Reg.RING_STAT_rx_b_ok, 0), (Reg.RING_STAT_mgr_seen, 0)]
    s.modRing fun r => { msgs := r.msgs, stored := r.stored, stopped := r.stopped }

/-- RING_CTL.en set: refused for too short a cycle (R616); on the backup reference the node starts at R110 only (Table 16-9). -/
def ringEnable (s : Chip) : Chip :=
  if s.on Reg.RING_CTL_en then s
  else
    let need := 32 * (s.nMax - 1) + 8
    if 10 * s.cycleUs < need then
      (s.put Reg.RING_FLAGS_cycle_bad true).note 0x0C1C 0 ((need + 9) / 10)
    else if s.on Reg.CLK_STAT_on_backup then (s.put Reg.RING_CTL_en true).modRing fun r => { r with stopped := true }
    else s.ringStart

/-- The ring stops with its clock (Table 16-9). -/
def ringStop (s : Chip) : Chip :=
  if s.on Reg.RING_CTL_en then s.msgsDown.modRing fun r => { r with stopped := true } else s.modRing fun r => { r with stopped := true }

/-- The ring resumes, and the node rejoins under R611; a duplicate node stays silent (R641). -/
def ringResume (s : Chip) : Chip :=
  if !s.ring.stopped then s
  else if s.on Reg.RING_CTL_en then s.ringStart.set Reg.RING_STAT_dup (s.get Reg.RING_STAT_dup)
  else s.modRing fun r => { r with stopped := false }

/-! ### Setpoints (R621 to R623) -/

/-- The SP_STALE of a cluster and its stale mark end at an accepted setpoint. -/
def setpoint (s : Chip) (k cmd lim epoch : Nat) : Chip :=
  let v := F32.mul F32.half (F32.ofInt (sgn 16 cmd))
  let l := if lim = 0xFFFF then F32.maxPos else F32.mul F32.half (F32.ofNat lim)
  let s := s.modRing fun r => { r with taken := setBit r.taken k, spMiss := updNth (fun _ => 0) k r.spMiss }
  s.sets [(Reg.RING_C_CMD_cmd k, v), (Reg.RING_C_LIM_lim k, F32.min l (s.get (Reg.RING_C_SLIM_slim k))),
    (Reg.RING_C_STAT_valid k, 1), (Reg.RING_C_STAT_stale k, 0), (Reg.RING_C_STAT_age k, 0), (Reg.RING_C_STAT_epoch k, epoch)]

/-- The setpoints of a downlink or a snapshot entry for the clusters of its valid mask. -/
def setpoints (s : Chip) (l : List Byte) (mask epoch : Nat) : Chip :=
  forEach (bitsOf mask 4) (fun k t => t.setpoint k (leNat ((l.drop (4 * k)).take 2)) (leNat ((l.drop (4 * k + 2)).take 2)) epoch) s

/-- A cycle ends for cluster k without or with a setpoint (R623). -/
def spCycle (s : Chip) (k : Nat) : Chip :=
  let s := s.bump (Reg.RING_C_STAT_age k) 255
  if hasBit s.ring.taken k then s
  else
    let n := nth s.ring.spMiss k + 1
    let s := s.modRing fun r => { r with spMiss := updNth (fun _ => n) k r.spMiss }
    if s.on (Reg.RING_C_STAT_stale k) then
      if s.on (Reg.SEQ_CFG_cmd_src k) then s else s.put (Reg.RING_C_STAT_valid k) false
    else if max 1 (s.get Reg.RING_CFG_sp_to) ≤ n then
      let s := s.sets [(Reg.RING_C_STAT_stale k, 1), (Reg.RING_FLAGS_sp_stale, 1)]
      if s.on (Reg.SEQ_CFG_cmd_src k) then s.limitCl 0x0C17 k k n
      else s.put (Reg.RING_C_STAT_valid k) false
    else s

/-! ### Epochs (R633, R635) -/

/-- An epoch found in a frame. -/
def epochFound (s : Chip) (e : Nat) : Chip :=
  let s := if e != 0 && epochHigher e (s.get Reg.RING_EPOCH_seen) then s.set Reg.RING_EPOCH_seen e else s
  if s.ringRole = 2 && e != 0 && epochHigher e (s.get Reg.RING_EPOCH_own) then
    let s := s.roleSet (if s.get Reg.RING_STAT_node < 2 then 1 else 0)
    (s.put Reg.RING_FLAGS_demoted true).note 0x0C16 0 e
  else s

/-! ### Cyclic frames -/

/-- The uplink (Table 16-4). -/
def uplink (s : Chip) : List Byte :=
  (List.range 4).flatMap fun k =>
    if (s.topo k).type = 0 ∨ (s.topo k).type = 4 then List.replicate 6 0xFF
    else leBytes 1 (s.statusByte0 k)
      ++ leBytes 1 (s.statusBits k + 16 * s.get (Reg.SEQ_CFG_cmd_src k) + 32 * s.get (Reg.RING_C_STAT_stale k))
      ++ s.statusMotion k

def wrapped (s : Chip) : Bool := s.ring.wrapA || s.ring.wrapB

/-- Every lost receiver carries valid symbols again. -/
def linkIsReady (s : Chip) : Bool :=
  s.wrapped && (!s.ring.wrapA || s.ring.readyA) && (!s.ring.wrapB || s.ring.readyB)

/-- Flags of the node's own frame (Table 16-3). -/
def frameFlags (s : Chip) (heal : Bool) : Nat :=
  s.get Reg.SAFE_CHOP_STAT_fail + 2 * b2n s.regenZero + 4 * b2n s.wrapped + 8 * b2n s.linkIsReady + 16 * b2n heal
    + 32 * b2n ((List.range 4).any fun k => s.on (Reg.RING_C_STAT_stale k)) + 64 * b2n (s.safeOk 0 && s.safeOk 1)

/-- The transmitter on which a frame bound for one leaves (R625): true is B. -/
def leaveOn (s : Chip) (b : Bool) : Bool := if b then !s.ring.wrapA else s.ring.wrapB

/-- Bytes put out on a transmitter, which a stopped node does not do (R627). -/
def ringOut (s : Chip) (b : Bool) (l : List Byte) : Chip :=
  if s.ring.stopped then s else s.modRing fun r => if b then { r with outB := l } else { r with outA := l }

/-- The setpoints of software are fresh (R620). -/
def spFresh (s : Chip) : Bool :=
  let f := s.get Reg.RING_MGR_CFG_fresh_to
  f = 0 || s.ring.bankAge < f

/-- The node's own cyclic frame is sent (R613); a duplicate node (R641) and a stopped one (R627) send none. -/
def sendCyclic (s : Chip) (heal : Bool) : Chip :=
  if s.on Reg.RING_STAT_dup || s.ring.stopped then s
  else
    let b := s.leaveOn false
    let role := if s.ringRole = 2 then 2 else if s.ringRole = 1 then 1 else 0
    let l := cyclicBytes (s.get Reg.RING_STAT_node) role 0 (s.frameFlags heal) (s.get Reg.RING_COUNT_count % 65536)
      (s.get Reg.RING_EPOCH_seen) s.uplink (List.replicate 24 0)
    (s.ringOut b l).modRing fun r => { r with sent := true, firstB := b }

/-- System SRAM holds a range. -/
def sramHas (a n : Nat) : Bool := 0x20000000 ≤ a && a + n ≤ 0x20200000

/-- A table in system SRAM read by the ring or the twin: its bytes, or none where a word of it is bad; `e` wrong bits are
met at its first word. -/
def sramRead (s : Chip) (r : Requester) (a n e : Nat) : Chip × Option (List Byte) :=
  if !sramHas a n then (s, none)
  else
    let (s, bad) := ((List.range (n / 4)).filter fun i => i = 0 || lookupD 0 (a + 4 * i) s.ecc != 0).foldl
      (fun (acc : Chip × Bool) i =>
        let (t, b) := acc.1.eccRead (a + 4 * i) (a + 4 * i) (reqCode r) false (if i = 0 then e else 0)
        (t, acc.2 || b)) (s, false)
    (s, if bad then none else some (s.bytes a n))

/-- The bank bit at a cycle start: cycle starts since it toggled (R620), whatever the role. -/
def bankCycle (s : Chip) : Chip :=
  let b := s.get Reg.RING_MGR_CFG_bank
  s.modRing fun r => { r with bankWas := b, bankAge := if b = r.bankWas then r.bankAge + 1 else 0 }

/-- The snapshot of the setpoint table (R619). -/
def takeSnapshot (s : Chip) (e : Nat) : Chip :=
  let b := s.get Reg.RING_MGR_CFG_bank
  let (s, l) := s.sramRead .ring (s.get Reg.RING_SPT_BASE_addr * 2048 + 1024 * b) 1024 e
  let s := s.modRing fun r => { r with snap := l.getD [] }
  let own := (s.ring.snap.drop (32 * s.get Reg.RING_STAT_node)).take 32
  if own.length = 32 && s.spFresh then s.setpoints own ((own.getD 16 0).toNat % 16) (s.get Reg.RING_EPOCH_own) else s

/-- The downlink that the active manager writes for a node (R620, Table 16-5). -/
def downlinkFor (s : Chip) (j : Nat) (down : List Byte) : List Byte :=
  let entry := (s.ring.snap.drop (32 * j)).take 32
  if s.ringRole != 2 || entry.length != 32 || !s.spFresh || hasBit (down.getD 16 0).toNat 7 then down
  else
    let l := entry.take 16 ++ leBytes 1 ((entry.getD 16 0).toNat % 16 + 128) ++ [0] ++ leBytes 2 (s.get Reg.RING_EPOCH_own) ++ [0, 0]
    l ++ leBytes 2 (crc16 (leBytes 1 j ++ l))

/-- A passing frame goes into the status table (R624). -/
def statusTable (s : Chip) (f : CyclicFrame) : Chip :=
  let a := s.get Reg.RING_STT_BASE_addr * 2048 + 1024 * (f.cycle.val % 2) + 32 * f.origin.val
  if s.on Reg.RING_CFG_stt_en && sramHas a 32 then
    let l := (cyclicBytes f.origin f.role f.hop.toNat f.flags.toNat f.cycle f.epoch f.up.toList f.down.toList).take 8
    s.storeRun .ring a (l ++ f.up.toList)
  else s

/-- RING_OVERLEN (R642): once per change of L. -/
def loopLength (s : Chip) (l : Nat) : Chip :=
  let s := s.set Reg.RING_STAT_loop l
  let limit := if s.wrapped then 2 * (s.nMax - 1) else s.nMax
  if l ≤ limit then s.modRing fun r => { r with overLen := 0 }
  else if s.ring.overLen = l then s
  else ((s.modRing fun r => { r with overLen := l }).put Reg.RING_FLAGS_overlen true).note 0x0C1D 0 l

/-- The node's own frame is removed and its downlink taken (R614, R621). -/
def ownFrame (s : Chip) (f : CyclicFrame) (hops : Nat) : Chip :=
  let s := (s.modRing fun r => { r with sent := false }).loopLength (min 255 hops)
  let d := f.down.toList
  let b16 := (d.getD 16 0).toNat
  let e := leNat ((d.drop 18).take 2)
  if !hasBit b16 7 || crc16 (leBytes 1 f.origin.val ++ d.take 22) != leNat (d.drop 22) then s
  else if epochHigher (s.get Reg.RING_EPOCH_seen) e then s.firstNote Reg.RING_FLAGS_epoch_rej 0x0C18 0 e
  else s.setpoints d (b16 % 16) e

/-- A node's frame has arrived in this cycle (R640). -/
def nodeHeard (s : Chip) (j : Nat) : Chip :=
  let s := s.modRing fun r => { r with heard := setBit r.heard j, missing := eraseAt j r.missing }
  if hasBit (s.get Reg.RING_PRESENT_present) j then s
  else ((s.setBitOf Reg.RING_PRESENT_present j).put Reg.RING_FLAGS_node_ev true).note 0x0C13 0 j

/-- A node without a frame in the cycle that ends. -/
def nodeCycle (s : Chip) (j : Nat) : Chip :=
  if hasBit s.ring.heard j || !hasBit (s.get Reg.RING_PRESENT_present) j then s
  else
    let n := lookupD 0 j s.ring.missing + 1
    let s := s.modRing fun r => { r with missing := putAt 0 j n r.missing }
    if n < 3 then s
    else
      let s := (s.modRing fun r => { r with missing := eraseAt j r.missing }).clrBitOf Reg.RING_PRESENT_present j
      ((s.setBitOf Reg.RING_LOST_lost j).put Reg.RING_FLAGS_node_ev true).note 0x0C12 0 j

/-- The node's timer follows the manager's cycle start, the arrival of the frame's EOF less 1.6 µs a hop: at the first such frame
it moves there, afterwards by at most 50 ns in a cycle (R617). -/
def timerFollow (s : Chip) (hops : Nat) : Chip :=
  let at' := s.now - 320 * hops
  if !s.ring.locked then s.modRing fun r => { r with cycleAt := at', locked := true, moved := true }
  else if s.ring.moved then s
  else
    let p : Int := 200 * s.cycleUs
    let d : Int := (at' : Int) - s.ring.cycleAt
    let d := if p / 2 < d then d - p else d
    s.modRing fun r => { r with cycleAt := (r.cycleAt + max (-10) (min 10 d)).toNat, moved := true }

/-- The active manager's frame (R617): count, hops, state; a listening node becomes standby (Table 16-2). -/
def managerFrame (s : Chip) (f : CyclicFrame) (hops : Nat) : Chip :=
  if s.ringRole = 2 then s
  else
    let c := s.get Reg.RING_COUNT_count
    let s := (s.timerFollow hops).sets [(Reg.RING_STAT_hops_mgr, min 255 hops), (Reg.RING_STAT_state, 2),
      (Reg.RING_COUNT_count, c / 65536 * 65536 + f.cycle.val)]
    let s := if s.ringRole = 3 then s.roleSet 1 else s
    let s := s.modRing fun r => { r with mgrHeard := true }
    if hasBit f.flags.toNat 4 && s.wrapped then s.modRing fun r => { r with healNext := true } else s

/-- A cyclic frame received on a ring (R614): `b` is ring B. A frame of the node's own origin that it did not send is no frame
of its own (R641), so it goes on like any other. -/
def cyclicRx (s : Chip) (b : Bool) (f : CyclicFrame) (crcOk : Bool) : Chip :=
  if !s.on Reg.RING_CTL_en then s
  else if !crcOk then s.bump (if b then Reg.RING_ERR_crc_b else Reg.RING_ERR_crc_a) 255
  else
    let s := if (if b then s.ring.wrapB else s.ring.wrapA) then s
      else s.put (if b then Reg.RING_STAT_rx_b_ok else Reg.RING_STAT_rx_a_ok) true
    let hops := f.hop.toNat + 1
    let j := f.origin.val
    let d := f.down.toList
    let s := s.epochFound f.epoch.val
    let s := if hasBit (d.getD 16 0).toNat 7 then s.epochFound (leNat ((d.drop 18).take 2)) else s
    let tx := s.leaveOn b
    if j = s.get Reg.RING_STAT_node then
      if !s.ring.sent then
        let s := if s.on Reg.RING_STAT_dup then s
          else ((s.sets [(Reg.RING_STAT_dup, 1), (Reg.RING_FLAGS_node_dup, 1)]).note 0x0C1B 0 j).msgsDown
        (s.statusTable f).ringOut tx (cyclicBytes j f.role hops f.flags.toNat f.cycle f.epoch f.up.toList d)
      else if tx = s.ring.firstB then (s.nodeHeard j).ownFrame f hops
      else (s.statusTable f).ringOut tx (cyclicBytes j f.role hops f.flags.toNat f.cycle f.epoch f.up.toList d)
    else
      let s := s.nodeHeard j
      let wr := hasBit f.flags.toNat 2
      let s := s.modRing fun r => { r with
        sawWrap := r.sawWrap || wr, unready := r.unready || (wr && !hasBit f.flags.toNat 3) }
      let s := if f.role.val = 2 then s.managerFrame f hops else s
      (s.statusTable f).ringOut tx
        (cyclicBytes j f.role hops f.flags.toNat f.cycle f.epoch f.up.toList (s.downlinkFor j d))

/-! ### The cycle -/

/-- The twin heartbeat of the cycle that ends, in TWIN_STAT.hb, and a miss while TWIN_CFG.en is set (Table 16-15). -/
def twinCycle (s : Chip) : Chip :=
  let twin := s.ring.twinHb
  let s := s.put Reg.TWIN_STAT_hb twin
  if twin || !s.on Reg.TWIN_CFG_en then s else (s.bump Reg.TWIN_ERR_hb_miss 65535).setBitOf Reg.TWIN_FLAGS_ev 4

/-- Heartbeats of the cycle that ends (R631, R632): the other of nodes 0 and 1. -/
def heartbeats (s : Chip) : Chip :=
  let role := s.ringRole
  if role != 1 && role != 2 then s
  else
    let peer := 1 - s.get Reg.RING_STAT_node
    let ring := hasBit s.ring.heard peer
    let twin := s.ring.twinHb
    let s := s.modRing fun r => { r with
      runRing := if !ring && twin then r.runRing + 1 else 0,
      runTwin := if ring && !twin then r.runTwin + 1 else 0,
      runBoth := if !ring && !twin then r.runBoth + 1 else 0 }
    let fault (t : Chip) (d : Nat) : Chip := (t.put Reg.RING_FLAGS_path_fault true).note 0x0C14 0 d
    let s := if s.ring.runRing = 2 then fault s 1 else s
    let s := if s.ring.runTwin = 2 then fault s 2 else s
    if role = 1 && 2 ≤ s.ring.runBoth && s.on Reg.RING_CFG_fo_en then s.becomeActive else s

/-- The copy of the active manager's state, and the heartbeat (R631, R637). -/
def twinSend (s : Chip) (e : Nat) : Chip :=
  if !s.on Reg.TWIN_CFG_en || s.ring.stopped || !(s.ringRole == 1 || s.ringRole == 2) then s
  else
    let s := s.modTwin fun t => { t with beats := t.beats + 1, sent := [], busyTo := 0 }
    let len := s.get Reg.TWIN_CFG_len / 4 * 4
    let fail (t : Chip) (d : Nat) : Chip := (t.setBitOf Reg.TWIN_FLAGS_ev 1).note 0x0C1A 1 d
    if s.ringRole != 2 || len = 0 then s
    else if 3072 * s.cycleUs / 100 / 4 * 4 < len then fail s 3
    else
      match s.sramRead .twin (s.get Reg.TWIN_SRC_addr * 4) len e with
      | (s, some l) =>
        (s.modTwin fun t => { t with sent := l, busyTo := s.now + 5 * (16 + len + 12 * ((len + 1023) / 1024)) }).put
          Reg.TWIN_STAT_busy true
      | (s, none) => fail s 2

/-- A copy that is incomplete at a cycle start (R638). -/
def copyCycle (s : Chip) : Chip :=
  if s.twin.run && s.ringRole = 1 then
    let s := ((s.modTwin fun t => { t with run := false, failed := false, next := 0 }).set Reg.TWIN_STAT_busy 0)
    (s.setBitOf Reg.TWIN_FLAGS_ev 1).note 0x0C1A 1 2
  else s.modTwin fun t => { t with run := false, failed := false, next := 0 }

/-- A cycle start of the node's own timer. `e`, `e2`: wrong bits met at the first word of the setpoint table and of the
copy's source. -/
def cycleStart (s : Chip) (e e2 : Nat) : Chip :=
  if !s.on Reg.RING_CTL_en then s
  else
    -- the cycle that ends
    let s := forEach (List.range 32) (fun j t => t.nodeCycle j) s
    let mgr := s.ring.mgrHeard
    let s := s.put Reg.RING_STAT_mgr_seen mgr
    let s := if s.ringRole != 2 && s.get Reg.RING_STAT_state = 2 && !mgr then s.set Reg.RING_STAT_state 3 else s
    let s := forEach (List.range 4) (fun k t => t.spCycle k) s
    let s := s.twinCycle.heartbeats.copyCycle.bankCycle
    let allReady := s.ring.sawWrap || s.wrapped
    let heal := s.ringRole = 2 && allReady && !s.ring.unready && (!s.wrapped || s.linkIsReady)
      && !s.on Reg.RING_STAT_dup && !s.ring.stopped
    let s := if s.ring.healNext && s.wrapped then
        let s := s.modRing fun r => { r with wrapA := false, wrapB := false, readyA := false, readyB := false }
        (s.sets [(Reg.RING_STAT_wrapped, 0), (Reg.RING_FLAGS_heal_ev, 1)]).note 0x0C11 0 0
      else s
    let heal := heal && !s.ring.healSent
    -- the cycle that begins
    let s := s.modRing fun r => { r with
      cycleAt := s.now, heard := 0, mgrHeard := false, twinHb := false, taken := 0, sawWrap := false, unready := false,
      healNext := heal && s.wrapped, healSent := heal, moved := false, sent := false }
    let s := (s.count Reg.RING_COUNT_count).pulse 75
    let s := if s.ringRole = 2 then s.takeSnapshot e else s
    (s.sendCyclic heal).twinSend e2

/-! ### Links (R625, R626) -/

/-- A receiver loses its link. One that is lost and not ready again has none to lose: its 10 ms of valid symbols begin anew (R626). -/
def linkLost (s : Chip) (b : Bool) (sym : Nat) : Chip :=
  let again := if b then s.ring.wrapB && !s.ring.readyB else s.ring.wrapA && !s.ring.readyA
  let s := if s.on Reg.RING_CTL_en then s.set Reg.RING_ERR_sym (min 255 (s.get Reg.RING_ERR_sym + sym)) else s
  if !s.on Reg.RING_CTL_en then s
  else if again then s.modRing fun r => if b then { r with lostB := s.now } else { r with lostA := s.now }
  else
    let s := s.put (if b then Reg.RING_STAT_rx_b_ok else Reg.RING_STAT_rx_a_ok) false
    let s := s.modRing fun r => if b then { r with wrapB := true, readyB := false, lostB := s.now }
      else { r with wrapA := true, readyA := false, lostA := s.now }
    (s.sets [(Reg.RING_STAT_wrapped, 1), (Reg.RING_FLAGS_break_ev, 1)]).note 0x0C10 0 (if b then 2 else 1)

/-- A receiver carries valid symbols; a lost one has done so for 10 ms, which its loss lies back at least (R626). -/
def linkBack (s : Chip) (b : Bool) : Chip :=
  if !s.on Reg.RING_CTL_en
      || (if b then s.ring.wrapB && s.now < s.ring.lostB + ms 10 else s.ring.wrapA && s.now < s.ring.lostA + ms 10) then s
  else
    let s := s.put (if b then Reg.RING_STAT_rx_b_ok else Reg.RING_STAT_rx_a_ok) true
    s.modRing fun r => if b then { r with readyB := r.wrapB } else { r with readyA := r.wrapA }

/-! ### Messages (R628 to R630) -/

/-- RING_TXm_CTL written. A running message keeps the destination, length and buffers that it started with. -/
def msgCtl (s : Chip) (m d : Nat) : Chip :=
  let s := s.sets [(Reg.RING_TX_CTL_dst m, part d 24 6), (Reg.RING_TX_CTL_len m, part d 10 11), (Reg.RING_TX_CTL_buf m, part d 0 10)]
  if hasBit d 31 && !s.msgRuns m then
    let s := s.sets [(Reg.RING_TX_CTL_start m, 1), (Reg.RING_TX_STAT_status m, 1), (Reg.RING_TX_STAT_tries m, 0)]
    let len := s.get (Reg.RING_TX_CTL_len m)
    let buf := s.get (Reg.RING_TX_CTL_buf m)
    let dst := s.get (Reg.RING_TX_CTL_dst m)
    let n := (len + 255) / 256
    if len = 0 || 1008 < len || 1024 < buf + n || (List.range n).any (fun i => s.bufOwner (buf + i) = 0)
        || dst = s.get Reg.RING_STAT_node || !s.on Reg.RING_MSG_CFG_en then s.msgEnd m 7
    else if !s.ringOn || s.on Reg.RING_STAT_dup then s.msgEnd m 6
    else if hasBit d 30 then s.msgEnd m 5
    else s.modMsg m fun x => { seq := (x.seq + 1) % 256, waits := true, dst := dst, len := len, buf := buf }
  else if hasBit d 30 && s.msgRuns m then
    if (s.msgS m).inFlight then s.modMsg m fun x => { x with stop := true } else s.msgEnd m 5
  else s

/-- A try of message m has ended without an acknowledgement: again, or the end with a status. -/
def msgTry (s : Chip) (m st : Nat) : Chip :=
  if (s.msgS m).stop then s.msgEnd m 5
  else if 3 ≤ s.get (Reg.RING_TX_STAT_tries m) then s.msgEnd m st
  else s.modMsg m fun x => { x with inFlight := false, waits := true }

/-- The data frame of message m. -/
def msgFrame (s : Chip) (m : Nat) : AcyclicFrame :=
  { kind := .data, src := Fin.ofNat _ (s.get Reg.RING_STAT_node), dst := Fin.ofNat _ (s.msgS m).dst,
    slot := Fin.ofNat _ m, seq := Fin.ofNat _ (s.msgS m).seq, data := s.bytes (bufAddr (s.msgS m).buf) (s.msgS m).len }

/-- Ticks of an acyclic frame: delimiters, header, data and CRC at 25 ns each. -/
def acyclicTicks (f : AcyclicFrame) : Nat := 5 * (16 + f.data.length)

/-- Now lies in the acyclic window, and a frame of these ticks ends before it closes (R615, R628). -/
def windowFits (s : Chip) (n : Nat) : Bool :=
  let t := s.now - s.ring.cycleAt
  320 * s.get Reg.RING_STAT_loop ≤ t && t + n + 160 ≤ 200 * s.cycleUs && s.ring.busyTo ≤ s.now

/-- The copy being sent has ended. -/
def copyTick (s : Chip) : Chip :=
  if s.twin.busyTo != 0 && s.twin.busyTo ≤ s.now then
    (s.modTwin fun t => { t with busyTo := 0 }).put Reg.TWIN_STAT_busy false
  else s

/-- One tick of the ring: a waiting acyclic frame that fits the window leaves: those in transit first, then answers, then
the slots' messages. -/
def ringTick (s : Chip) : Chip :=
  if !s.ringOn then s
  else
    let go (t : Chip) (b : Bool) (f : AcyclicFrame) : Chip :=
      t.modRing fun r => { r with busyTo := t.now + acyclicTicks f, outMsg := [(b, f)] }
    match s.ring.transit, s.ring.answers with
    | (b, f) :: l, _ => if s.windowFits (acyclicTicks f) then go (s.modRing fun r => { r with transit := l }) b f else s
    | [], (b, f) :: l => if s.windowFits (acyclicTicks f) then go (s.modRing fun r => { r with answers := l }) b f else s
    | [], [] =>
      match (List.range 4).find? fun m => (s.msgS m).waits with
      | some m =>
        let f := s.msgFrame m
        if s.windowFits (acyclicTicks f) then
          let s := s.modMsg m fun x => { x with waits := false, inFlight := true, tryAt := s.now, firstB := s.leaveOn false }
          let s := s.bump (Reg.RING_TX_STAT_tries m) 3
          go s (s.leaveOn false) f
        else s
      | none => s

/-- The node answers a data frame. -/
def msgAnswer (s : Chip) (f : AcyclicFrame) (k : MsgKind) : Chip :=
  let a : AcyclicFrame := { kind := k, src := Fin.ofNat _ (s.get Reg.RING_STAT_node), dst := Fin.ofNat _ f.src.val, slot := f.slot, seq := f.seq, data := [] }
  s.modRing fun r => { r with answers := r.answers ++ [(s.leaveOn false, a)] }

/-- A data frame is stored in the lowest free receive slot; the answer that it gets (R629, R630). -/
def msgStore (s : Chip) (f : AcyclicFrame) : Chip × MsgKind :=
  let key := 4 * f.src.val + f.slot.val
  if !s.on Reg.RING_MSG_CFG_en then (s, .refuse)
  else if (s.ring.stored.find? fun p => p.1 = key && p.2 = f.seq.val).isSome then (s, .ack)
  else
    match (List.range 4).find? fun r => !s.on (Reg.RING_RX_STAT_full r) with
    | none => (s, .refuse)
    | some r =>
      let s := s.setBytes (bufAddr (s.get Reg.RING_MSG_CFG_rx_base + 4 * r)) f.data
      let s := s.modRing fun x => { x with stored := insertAt key f.seq.val x.stored }
      (s.sets [(Reg.RING_RX_STAT_full r, 1), (Reg.RING_RX_STAT_src r, f.src.val), (Reg.RING_RX_STAT_len r, f.data.length),
        (Reg.RING_FLAGS_msg_rx, 1)], .ack)

/-- An acyclic frame received on a ring. The node removes a frame of its own where it would next leave on the transmitter that
it first left from (R614); the acknowledgements leave on the present one. -/
def acyclicRx (s : Chip) (b : Bool) (f : AcyclicFrame) (crcOk : Bool) : Chip :=
  if !s.on Reg.RING_CTL_en then s
  else if !crcOk then s.bump (if b then Reg.RING_ERR_crc_b else Reg.RING_ERR_crc_a) 255
  else
    let own := s.get Reg.RING_STAT_node
    let m := f.slot.val
    let onward (s : Chip) : Chip :=
      if s.ring.stopped then s
      else if 8 ≤ s.ring.transit.length then s.bump Reg.RING_ERR_drop 255
      else s.modRing fun r => { r with transit := r.transit ++ [(s.leaveOn b, f)] }
    if f.src.val = own then
      if s.leaveOn b != (if f.kind = .data then (s.msgS m).firstB else s.leaveOn false) then onward s
      else if f.kind = .data && f.dst.val = 63 && s.msgRuns m && (s.msgS m).seq = f.seq.val then s.msgEnd m 2
      else s
    else
      let s :=
        if f.kind = .data && f.dst.val = 63 then (s.msgStore f).1
        else if f.dst.val != own then s
        else
          match f.kind with
          | .data => let (t, k) := s.msgStore f; t.msgAnswer f k
          | .ack => if s.msgRuns m && (s.msgS m).seq = f.seq.val && f.src.val = (s.msgS m).dst then s.msgEnd m 2 else s
          | .refuse =>
            if s.msgRuns m && (s.msgS m).seq = f.seq.val && f.src.val = (s.msgS m).dst then s.msgTry m 4 else s
      onward s

/-- RING_MSG_CFG written (R630). -/
def msgCfg (s : Chip) (d : Nat) : Chip :=
  let s := s.sets [(Reg.RING_MSG_CFG_ack_to, part d 16 8), (Reg.RING_MSG_CFG_rx_base, part d 0 10)]
  s.put Reg.RING_MSG_CFG_en (hasBit d 31 && part d 0 10 + 15 ≤ 1023)

/-! ### Twin link -/

/-- A copy frame at the standby (R638). -/
def copyRx (s : Chip) (off : Nat) (l : List Byte) (last ok : Bool) : Chip :=
  let fail (t : Chip) (d : Nat) : Chip :=
    let t := (t.modTwin fun x => { x with run := false, failed := true }).set Reg.TWIN_STAT_busy 0
    (t.setBitOf Reg.TWIN_FLAGS_ev 1).note 0x0C1A 1 d
  if !s.on Reg.TWIN_CFG_en || s.ringRole != 1 then s
  else if !ok then
    let s := s.bump Reg.TWIN_ERR_crc 65535
    if s.twin.failed then s else fail s 1
  else if s.twin.failed then s
  else if off != s.twin.next then fail s 2
  else
    let bank := 1 - s.get Reg.TWIN_STAT_bank
    let base := 4 * (if bank = 0 then s.get Reg.TWIN_DST0_addr else s.get Reg.TWIN_DST1_addr)
    let s := if sramHas (base + off) l.length then s.storeRun .twin (base + off) l else s
    let s := (s.modTwin fun x => { x with run := true, next := off + l.length }).set Reg.TWIN_STAT_busy 1
    if last then
      let s := (s.modTwin fun x => { x with run := false, next := 0 }).sets [(Reg.TWIN_STAT_busy, 0), (Reg.TWIN_STAT_bank, bank)]
      (s.count Reg.TWIN_STAT_seq).setBitOf Reg.TWIN_FLAGS_ev 0
    else s

/-! ### Registers -/

/-- The unit reset of the ring block (R13). -/
def ringReset (s : Chip) : Chip :=
  let st := s.ring.stopped
  let s := (s.msgsDown.roleSet 0)
  ((s.resetRange 0x41700000 0x41700FFF).set Reg.RING_STAT_node s.nodeNumber).modRing fun _ => { stopped := st }

/-- A write to the ring block. -/
def ringWrite (s : Chip) (a d : Nat) : Chip :=
  let o := a % 0x1000
  if o = 0 then (if s.on Reg.RING_CTL_en then s else s.configWord a d)
  else if o = 4 then
    let s := if hasBit d 1 then s.sets [(Reg.RING_ERR_crc_a, 0), (Reg.RING_ERR_crc_b, 0), (Reg.RING_ERR_sym, 0), (Reg.RING_ERR_drop, 0)] else s
    let s := if hasBit d 0 then s.ringEnable else s.ringOff
    if hasBit d 2 then s.ringReset else s
  else if o = 0x40 then s.msgCfg d
  else if 0x200 ≤ o ∧ o < 0x240 ∧ o % 16 = 0 then s.msgCtl ((o - 0x200) / 16) d
  else s.genericWrite a d

end Chip

end Sys2Proof.Machine
end

