-- ==== Sys2Proof/Machine/PowerOps.lean ====
section
/-! DEFINITION. Shared operations of power, clocks and the Cellar (chapter 03): transfers into the always-on domain, sleep
refusals, waking, register writes. -/

namespace Sys2Proof.Machine.Chip

def modPwr (s : Chip) (f : PowerS → PowerS) : Chip := { s with pwr := f s.pwr }

/-! ### Transfers (R103) -/

/-- What the always-on logic acts on before any transfer: the reset values of Tables 03-18 to 03-26. -/
def actReset (a : Nat) : Nat :=
  if a = 0x41A00808 then 1 else if a = 0x41A0080C then 0x1F else if a = 0x41A00810 then 0xFFFFFFFF else 0

/-- The value of a Cellar register that the always-on logic acts on. -/
def acting (s : Chip) (a : Nat) : Nat := lookupD (actReset a) a s.pwr.acting

/-- A written word waits for its transfer: in a transfer of its own where none runs, else for the next one. -/
def transfer (s : Chip) (a d : Nat) : Chip :=
  let s := s.modPwr fun p => if p.xferRun.isEmpty then { p with xferRun := [(a, d)] }
    else { p with xferHeld := insertAt a d p.xferHeld }
  s.put Reg.CEL_STAT_xfer true

/-- PWR_REQ is high while it is used and the Cellar wants the switched rails (Table 03-4, Table 03-7). -/
def showReq (s : Chip) : Chip :=
  s.modPwr fun p => { p with pwrReq := hasBit (s.acting 0x41A00804) 0 && p.state == .run
    && (match p.sleep with | .waiting _ => false | _ => true) }

/-- The registers of a transfer act. -/
def transferred (s : Chip) : Chip :=
  let l := s.pwr.xferRun.filter fun p => p.1 != 0x41A00818
  let s := s.modPwr fun p => { p with
    acting := l.foldl (fun t q => insertAt q.1 q.2 t) p.acting, xferRun := p.xferHeld, xferHeld := [],
    perCount := if l.any fun q => q.1 = 0x41A00820 then 0 else p.perCount }
  let s := s.put Reg.CEL_STAT_xfer (!s.pwr.xferRun.isEmpty)
  (s.put Reg.CLK_STAT_aon_xtal (hasBit (s.acting 0x41A00804) 1)).showReq

/-! ### Sleep (Table 03-3) -/

/-- The conditions of Table 03-3 that hold for a CEL_SLEEP write, as the field CEL_STAT.refuse. -/
def sleepBits (s : Chip) (d : Nat) : Nat :=
  let desc := (List.range 8).any fun n =>
    !(s.hwQ n).flight.isEmpty || (s.on (Reg.HW_SQ_CFG_en n) && s.get (Reg.HW_SQ_STAT_head n) != s.get (Reg.HW_SQ_TAIL_tail n))
  let can := (List.range 4).any fun n => (List.range 32).any fun b => s.txPending n b
  let out := s.on Reg.SAFE_CTR_STAT_pos_out || s.on Reg.SAFE_CTR_STAT_neg_out || s.safe.dsch
  let flash := (List.range 8).any fun n => (s.hwQ n).flight.any fun d => d.started && (d.opcode == 3 || d.opcode == 4)
  b2n (!s.allQuiet) + 2 * b2n (!s.chm.writes.isEmpty || !s.log.queue.isEmpty || flash) + 4 * b2n desc + 8 * b2n can + 16 * b2n out
    + 32 * b2n (part d 16 16 != 0xD0E5 || d % 4 == 0 || d % 4 == 3)

/-- A write to CEL_SLEEP (R93). -/
def sleepWrite (s : Chip) (d : Nat) : Chip :=
  let bits := s.sleepBits d
  if bits != 0 then
    (s.sets [(Reg.CEL_STAT_refused, 1), (Reg.CEL_STAT_abort, 0), (Reg.CEL_STAT_refuse, bits)]).note 0x0D30 0 bits
  else
    let s := s.sets [(Reg.CEL_STAT_refused, 0), (Reg.CEL_STAT_abort, 0)]
    (s.transfer 0x41A00818 d).modPwr fun p => { p with sleep := SleepStep.queued (d % 4 == 1) }

/-- A sleep request is abandoned (Table 03-5, first case). -/
def sleepAbandon (s : Chip) : Chip :=
  let keep (l : List (Nat × Nat)) : List (Nat × Nat) := l.filter fun p => p.1 != 0x41A00818
  let s := s.modPwr fun p =>
    let run := keep p.xferRun
    let held := keep p.xferHeld
    if run.isEmpty then { p with xferRun := held, xferHeld := [], sleep := .none }
    else { p with xferRun := run, xferHeld := held, sleep := .none }
  (s.sets [(Reg.CEL_STAT_xfer, b2n (!s.pwr.xferRun.isEmpty)), (Reg.CEL_STAT_abort, 1)]).showReq

/-! ### Release of the control die -/

/-- RST_N holds the control die in reset (R125, R129). -/
def pinHolds (s : Chip) : Bool := s.cfg.rstLow && !s.on Reg.CEL_STAT_rst_masked

/-- The control die leaves reset where nothing holds it there. -/
def tryRelease (s : Chip) : Chip :=
  if s.pwr.dieReset && s.pwr.railsUp && !s.pinHolds && s.pwr.state == .run && s.pwr.sleep == .none then
    let s := s.dieRelease
    let s := if s.hw.sleepPin then s.put Reg.HW_STAT_sleep true else s
    if s.pwmG.fltLow then s.fltDemand else s
  else s

/-- A wake begins: reason, PWR_REQ (Table 03-7). -/
def wake (s : Chip) (reason : Nat) : Chip :=
  let s := (s.set Reg.CEL_STAT_state_prev reason).modPwr fun p => { p with state := .run, sleep := .none, waking := true }
  s.showReq

/-- The Cellar is reset and enters a power state (R89, R90). -/
def cellarReset (s : Chip) (st : PowerState) : Chip :=
  let s := s.dieReset 2
  let s := s.resetRange 0x41A00800 0x41A00BFF
  { s with
    log := { s.log with retention := [] },
    pwr := { state := st, dieReset := true, rstOut := true, railsUp := false, locked := false, vddaOk := s.pwr.vddaOk } }

/-! ### Clock gates (R16, R111, R115) -/

/-- The stop condition of region g, held for (CLK_RGN_CTL.hold + 1) · 10 µs by each cluster of it. -/
def stopCond (s : Chip) (g : Nat) : Bool :=
  s.on (if g = 0 then Reg.CLK_RGN_CTL_stop_en_a else Reg.CLK_RGN_CTL_stop_en_b)
    && ((List.range 4).filter fun k => rgnOf k == g || (s.slicesOf k).any fun n => sliceRgn n == g).all fun k =>
      (s.topo k).type == 0
        || (s.clState k == 5 && decide ((s.cluster k).enteredAt + 2000 * (s.get Reg.CLK_RGN_CTL_hold + 1) ≤ s.now))

/-- An event crosses into region g while its clock is stopped (R115): it is held, or dropped beyond 65,535. -/
def crossing (s : Chip) (g : Nat) : Chip :=
  if s.gated g then
    let n := lookupD 0 g s.pwr.crossings
    if n < 65535 then s.modPwr fun p => { p with crossings := insertAt g (n + 1) p.crossings }
    else
      let f := if g = 0 then Reg.CLK_XOVF_rgn_a else Reg.CLK_XOVF_rgn_b
      s.firstNote f 0x0D32 0 g
  else s

/-- ISO_EN of region g is asserted outside an STO demand (R433). -/
def isoAssert (s : Chip) (g : Nat) : Chip :=
  if s.stoIso g then s else s.putIso g true

/-- A late bring-up starts (R135): a region that this start has not brought up and that no failure holds. -/
def lateStart (s : Chip) (g : Nat) : Chip :=
  let r := s.region g
  if s.cfg.boot = 1 && !r.up && !r.dead && !hasBit s.cfg.bringUp g then
    let s := { s with cfg := { s.cfg with bringUp := setBit s.cfg.bringUp g } }
    (s.openGate g).isoAssert g
  else s

/-- A 1 written to CLK_RGN_CTL.up_a or up_b: it reads 1 until the region leaves reset. -/
def upWrite (s : Chip) (g : Nat) : Chip :=
  if (s.region g).inReset then (s.put (upField g) true).lateStart g else s

/-- A write to CLK_RGN_CTL. -/
def rgnCtlWrite (s : Chip) (d : Nat) : Chip :=
  let s := s.sets [(Reg.CLK_RGN_CTL_hold, part d 8 8), (Reg.CLK_RGN_CTL_stop_en_a, bitOf d 0 * bitOf s.img.flags 4),
    (Reg.CLK_RGN_CTL_stop_en_b, bitOf d 1 * bitOf s.img.flags 5)]
  let s := if s.on Reg.CLK_RGN_CTL_stop_en_a then s else s.openGate 0
  let s := if s.on Reg.CLK_RGN_CTL_stop_en_b then s else s.openGate 1
  let s := if hasBit d 16 then s.upWrite 0 else s
  if hasBit d 17 then s.upWrite 1 else s

/-! ### Register writes -/

/-- Registers of the Cellar that take a transfer. -/
def cellarReg (a : Nat) : Bool :=
  [0x41A00804, 0x41A00808, 0x41A0080C, 0x41A00810, 0x41A00814, 0x41A00820, 0x41A00824].contains a

/-- A word written to a register of the clocks, power and Cellar block. The retention window is read-only (R122). -/
def powerWrite (s : Chip) (a d : Nat) : Chip :=
  if a = 0x41A00818 then s.sleepWrite d
  else if a = 0x41A00020 then s.rgnCtlWrite d
  else if cellarReg a then
    let s := s.genericWrite a d
    s.transfer a (s.regWord a)
  else if 0x41A00C00 ≤ a ∧ a < 0x41A00D00 then s
  else s.genericWrite a d

/-! ### The always-on clock -/

/-- A slot is watched now, and the timer slots only in the cycles that Table 03-6 gives them (R96). -/
def slotOn (c : Chip) (n : Nat) : Bool :=
  hasBit (c.acting 0x41A00808) n && (c.pwr.state != .dormant || n ≤ 4) && c.pwr.state != .off
    && !(n == 4 && hasBit (c.acting 0x41A00804) 0) && !(n == 12 && !c.pwr.perDue)
    && !(n == 15 && c.get Reg.CEL_TMR_count != c.acting 0x41A00824)

/-- The regions that a slot brings up (R101). -/
def slotRgn (c : Chip) (n : Nat) : Nat := part (c.acting 0x41A00810) (2 * n) 2

/-- A slot latched in RUN: before PLL lock it counts for R101; a gated region that it is marked for restarts, one that it is
not marked for holds the crossing (R16, R115). -/
def slotRun (c : Chip) (n : Nat) : Chip :=
  let c := if c.pwr.locked then c else c.modPwr fun p => { p with latched := setBit p.latched n }
  forEach [0, 1] (fun g t => if hasBit (t.slotRgn n) g then t.openGate g else t.crossing g) c

/-- A watch slot fires (R95, R96, R98, R100). -/
def slotFire (c : Chip) (n : Nat) : Chip :=
  if !c.slotOn n then c
  else
    let c := c.setBitOf Reg.CEL_WAKE_CAUSE_cause n
    let latch (t : Chip) : Chip := t.modPwr fun p => { p with latched := setBit p.latched n }
    match c.pwr.state, c.pwr.sleep with
    | .dormant, _ => latch (c.wake 1)
    | .watch, _ => latch (c.wake 2)
    | .off, _ => c
    | .run, .waiting _ => latch (c.wake 2)
    | .run, .queued _ => ((c.sleepAbandon).note 0x0D31 0 n).slotRun n
    | .run, .none => c.slotRun n

/-- A cycle of the always-on clock: the timer, the time of a low RST_N, and the slots 12 and 15. -/
def aonCycle (s : Chip) : Chip :=
  let s := s.count Reg.CEL_TMR_count
  let s := if s.cfg.rstLow then s.bump Reg.CEL_RSTLOW_count 0xFFFFFF else s
  let per := s.acting 0x41A00820
  let n := s.pwr.perCount + 1
  let due := per != 0 && per ≤ n
  let s := s.modPwr fun p => { p with perCount := if due then 0 else n, perDue := due }
  (if due then s.slotFire 12 else s).slotFire 15

/-- One tick of CLK_MAIN as the always-on clock sees it: a cycle of 32,768 Hz is 25,000,000 / 4,096 ticks. -/
def aonTick (s : Chip) : Chip :=
  let p := s.pwr.aonPhase + 4096
  if p < 25000000 then s.modPwr fun x => { x with aonPhase := p }
  else
    let s := s.modPwr fun x => { x with aonPhase := p - 25000000 }
    if s.pwr.state == .dormant || s.pwr.state == .off then s else s.aonCycle

end Sys2Proof.Machine.Chip
end

