-- ==== Sys2Proof/Machine/CfgOps.lean ====
section
/-! DEFINITION. Shared operations of the configuration block beside the start-up sequence (chapter 04): resets by register,
boot-record updates, anti-rollback, tokens, self-test and fuse-repair requests, GPIO. -/

namespace Sys2Proof.Machine.Chip

def modCfg (s : Chip) (f : CfgS → CfgS) : Chip := { s with cfg := f s.cfg }
def modFuses (s : Chip) (f : Fuses → Fuses) : Chip := s.modCfg fun c => { c with fuses := f c.fuses }

/-! ### Resets (Table 04-1) -/

/-- Region g is reset on request, where it runs. -/
def rgnAsked (s : Chip) (g : Nat) (cause : Field) : Chip := if (s.region g).inReset then s else s.regionReset g cause

/-- A write to CFG_RST_CTL. A control-die reset by software ends at once: nothing holds the die. -/
def rstCtlWrite (s : Chip) (d : Nat) : Chip :=
  if part d 16 16 != 0x5E7A then s
  else if hasBit d 2 then (s.dieReset (2 ^ 6)).tryRelease
  else
    let s := if hasBit d 0 then s.rgnAsked 0 Reg.CFG_RST_CAUSE_sw_rgn_a else s
    if hasBit d 1 then s.rgnAsked 1 Reg.CFG_RST_CAUSE_sw_rgn_b else s

/-! ### Boot record (R151, R153) -/

/-- The boot record in force; with no valid copy bank A is preferred with no trial (Table 04-12). -/
def bootRec (s : Chip) : BootUpdate := match s.bootPick.1 with | some x => x.2 | none => ⟨0, 0, 0⟩

/-- CFG_BANK_CTL shows the record in force. -/
def showBoot (s : Chip) : Chip :=
  let r := s.bootRec
  s.sets [(Reg.CFG_BANK_CTL_pref, r.pref), (Reg.CFG_BANK_CTL_trial, r.trial), (Reg.CFG_BANK_CTL_tries, r.tries)]

/-- The record written over the older copy. The first record of a module with no valid copy takes the sequence number 0 (log
entry 54). -/
def bootStore (s : Chip) (u : BootUpdate) : Chip :=
  let seq := match s.bootPick.1 with | some x => (x.1 + 1) % 2 ^ 32 | none => 0
  let body := leBytes 4 0x44425442 ++ leBytes 4 seq ++ leBytes 1 u.pref ++ leBytes 1 u.trial ++ leBytes 1 u.tries
    ++ List.replicate 17 0
  (s.setBytes s.bootOlder (body ++ leBytes 4 (crc32 body))).showBoot

/-- An update is submitted; one already held or in progress is not disturbed (log entry 21). -/
def bootSubmit (s : Chip) (u : BootUpdate) : Chip :=
  if s.on Reg.CFG_BANK_CTL_wr_busy then s
  else ((s.modCfg fun c => { c with bootUpdate := some u }).put Reg.CFG_BANK_CTL_wr_busy true).submitWrite .boot

/-- An update ends. -/
def bootEnd (s : Chip) (ok : Bool) (why : Nat) : Chip :=
  match s.cfg.bootUpdate with
  | none => s
  | some u =>
    let s := ((s.modCfg fun c => { c with bootUpdate := none }).dropWrite .boot).put Reg.CFG_BANK_CTL_wr_busy false
    if ok then (s.bootStore u).put Reg.CFG_BANK_CTL_wr_fail false
    else (s.put Reg.CFG_BANK_CTL_wr_fail true).note 0x0E23 0 why

/-- A write to CFG_BANK_CTL (R153). -/
def bankWrite (s : Chip) (d : Nat) : Chip :=
  let confirm := hasBit d 8
  if part d 16 16 = 0xB0A7 then
    let t := part d 4 2
    s.bootSubmit ⟨bitOf d 0, if confirm then 0 else bitOf d 1, if t = 0 then 3 else t⟩
  else if confirm then s.bootSubmit { s.bootRec with trial := 0 }
  else s

/-! ### Anti-rollback (R150) -/

/-- A word written to CFG_ARB. A commit written while one runs changes nothing (log entry 54). -/
def arbWrite (s : Chip) (d : Nat) : Chip :=
  if part d 16 16 != 0xC0A1 || s.on Reg.CFG_ARB_busy then s
  else if s.get Reg.CFG_ARB_image_sv < s.cfg.fuses.arb || s.on Reg.CFG_BANK_CTL_trial then
    s.note 0x0E24 0 s.cfg.fuses.arb
  else s.put Reg.CFG_ARB_busy true

/-! ### Life cycle (R155 to R158) -/

/-- A new nonce: two random words (log entry 6). -/
def newNonce (s : Chip) : Chip :=
  let s := (s.set Reg.CFG_LC_NONCE0_value s.freeVal).useFree
  (s.set Reg.CFG_LC_NONCE1_value s.freeVal).useFree

def nonce (s : Chip) : Nat := s.get Reg.CFG_LC_NONCE0_value + 2 ^ 32 * s.get Reg.CFG_LC_NONCE1_value

/-- A token is rejected with a result code. -/
def tokenReject (s : Chip) (r : Nat) : Chip :=
  ((s.set Reg.CFG_LC_STAT_result r).put Reg.CFG_EVENT_token_ev true).note 0x0E40 0 r

/-- A write to CFG_LC_TOKEN (R157). A token outside a buffer owned by DEVICE is no token: result 2. -/
def tokenWrite (s : Chip) (d : Nat) : Chip :=
  let i := part d 0 10
  if part d 16 16 != 0x70CE then s
  else if s.on Reg.CFG_LC_STAT_busy then (s.set Reg.CFG_LC_STAT_result 8).note 0x0E40 0 8
  else if s.bufOwner i != 1 then s.tokenReject 2
  else (s.modCfg fun c => { c with token := some i }).put Reg.CFG_LC_STAT_busy true

/-- Table 04-14: what the token of these fields does in the present state; 6 or 7 where it is not allowed. A passage that the
toggle fuses already make sets no further fuse. -/
def tokenPlan (f : Fuses) (st kind arg slot : Nat) : Nat ⊕ Fuses :=
  if kind = 1 then
    if arg = 1 ∧ st = 0 ∧ slot = 4 then .inr { f with integrate := true }
    else if arg = 2 ∧ st = 1 ∧ slot = 5 then .inr { f with field := true }
    else if arg = 3 ∧ st = 2 ∧ slot = 6 then
      (if f.toggles < 256 then .inr { f with toggles := if f.toggles % 2 = 0 then f.toggles + 1 else f.toggles } else .inl 7)
    else if arg = 2 ∧ st = 3 ∧ slot = 6 then
      .inr { f with toggles := if f.toggles % 2 = 1 then f.toggles + 1 else f.toggles }
    else if arg = 4 ∧ (st = 1 ∨ st = 2 ∨ st = 3) ∧ (slot = 5 ∨ slot = 6) then .inr { f with retired := true }
    else .inl 6
  else if kind = 2 then (if st = 1 ∧ slot = 5 then .inr f else .inl 6)
  else if (st = 0 ∧ slot = 4) ∨ (st != 0 ∧ st != 4 ∧ slot = 5) then .inr { f with revoke := setBit f.revoke arg }
  else .inl 6

/-- The first check of R157 that the token of buffer i fails (result 2 to 7), or the fuses it asks for. A wrong magic, a kind,
slot or arg outside its range is result 2; reserved bytes are not looked at (log entry 54). -/
def tokenCheck (s : Chip) (i : Nat) : Nat ⊕ Fuses :=
  let a := bufAddr i
  let kind := s.load (a + 4) 1
  let arg := s.load (a + 5) 1
  let slot := s.load (a + 6) 1
  let key := s.bytes (a + 0x20) 64
  if s.load a 4 != 0x314E4B54 || kind = 0 || 3 < kind || slot < 4 || 6 < slot || (kind = 1 && 4 < arg) || (kind = 3 && 3 < arg) then
    .inl 2
  else if sha256 key != s.cfg.fuses.keyHash.getD slot 0 || !ecdsaOk key (s.bytes (a + 0x60) 64) (s.bytes a 0x20) then .inl 3
  else if s.load (a + 8) 8 != s.cfg.fuses.serial then .inl 4
  else if s.load (a + 16) 8 != s.nonce then .inl 5
  else tokenPlan s.cfg.fuses s.lcNow kind arg slot

/-- A token is accepted (R156). -/
def tokenAccept (s : Chip) (kind : Nat) (f : Fuses) : Chip :=
  let s := (s.modFuses fun _ => f).sets [(Reg.CFG_LC_STAT_result, 1), (Reg.CFG_EVENT_token_ev, 1),
    (Reg.CFG_LC_STAT_toggles, f.toggles)]
  let s := s.newNonce
  if kind = 1 then
    (s.sets [(Reg.CFG_LC_STAT_pending, 1), (Reg.CFG_LC_STAT_next, lcState f)]).note 0x0E41 0 (lcState f)
  else if kind = 2 then (s.put Reg.CFG_LC_STAT_debug_open true).note 0x0E42 0 0
  else s

/-- Debug is open (Table 04-13). -/
def debugOpen (s : Chip) : Bool := s.lcNow == 0 || s.on Reg.CFG_LC_STAT_debug_open

/-! ### Self-test and repair (R159, R161) -/

def stAddr : Nat := 0x41B00040

/-- CFG_ST_STAT.busy follows the tests. -/
def showSt (s : Chip) : Chip :=
  s.put Reg.CFG_ST_STAT_busy (s.cfg.selfTest != 0 || s.on Reg.CFG_ST_CTL_fuse_repair)

def fullField (g : Nat) : Field := if g = 0 then Reg.CFG_ST_CTL_full_a else Reg.CFG_ST_CTL_full_b

/-- The clusters with slices in region g select anew as its full self-test begins or ends (R159). -/
def testHolds (s : Chip) (g : Nat) : Chip :=
  forEach ((List.range 4).filter fun k => (s.slicesOf k).any fun n => sliceRgn n == g) (fun k t => t.demandBegins k) s

/-- A full self-test of region g is asked. The reset that it makes is recorded with no cause bit of its own. -/
def fullStart (s : Chip) (g : Nat) : Chip :=
  let st := s.lcNow
  if s.on (fullField g) then s
  else if !(st == 0 || st == 1 || st == 3) || !s.quiet (2 * g) || !s.quiet (2 * g + 1) then
    s.refuse stAddr
  else
    let s := (s.put (fullField g) true).modCfg fun c => { c with selfTest := setBit c.selfTest g }
    ((s.showSt.record 0x0E13 0 0 7 g (s.regWord 0x41B00000)).regionDown g).testHolds g

/-- A fuse repair is asked. -/
def repairStart (s : Chip) : Chip :=
  let st := s.lcNow
  if s.on Reg.CFG_ST_CTL_fuse_repair then s
  else if !(st == 0 || st == 3) then s.refuse stAddr
  else (s.put Reg.CFG_ST_CTL_fuse_repair true).showSt

def stWrite (s : Chip) (d : Nat) : Chip :=
  let s := if hasBit d 0 then s.fullStart 0 else s
  let s := if hasBit d 1 then s.fullStart 1 else s
  if hasBit d 8 then s.repairStart else s

/-- Entries that verify move from the soft-repair record into the 128 repair-fuse entries. -/
def moveRepairs : List (Nat × Nat) → List Bool → List (Nat × Nat) → List (Nat × Nat) × List (Nat × Nat)
  | [], _, fused => ([], fused)
  | e :: l, good, fused =>
    let ok := good.headD false && fused.length < 128
    let (soft, f) := moveRepairs l good.tail (if ok then fused ++ [e] else fused)
    (if ok then soft else e :: soft, f)

/-! ### GPIO (R166 to R170) -/

/-- The pin id of GPIOp (R53, R143): GPIO0 to 15 in column 3 and GPIO16 to 31 in column 22, rows D to Y. -/
def gpioId (p : Nat) : Nat := if p < 16 then (3 + p) * 24 + 2 else (3 + (p - 16)) * 24 + 21

/-- The pins of function 2. -/
def gpioPins (s : Chip) : Nat :=
  (List.range 32).foldl (fun w p => if s.img.pins.any fun x => x.pin = gpioId p && x.func = 2 then w + 2 ^ p else w) 0

/-- The GPIO pins with the inversion attribute. -/
def gpioInv (s : Chip) : Nat :=
  (List.range 32).foldl (fun w p => if s.img.pins.any fun x => x.pin = gpioId p && hasBit x.attr 2 then w + 2 ^ p else w) 0

/-- GPIO_IN (R167): the level driven on an output, the pin's own level after the inversion attribute elsewhere. -/
def gpioIn (s : Chip) : Nat :=
  let out := s.gpioPins &&& s.get Reg.GPIO_DIR_v
  let pin := Nat.xor s.cfg.gpioIn s.gpioInv
  (s.get Reg.GPIO_OUT_v &&& out) + (pin - (pin &&& out))

/-- The pins that are outputs stand at the levels that they are driven to (R166). -/
def gpioDrive (s : Chip) : Chip :=
  let out := s.gpioPins &&& s.get Reg.GPIO_DIR_v
  let lv := Nat.xor (s.get Reg.GPIO_OUT_v) s.gpioInv
  s.modCfg fun c => { c with gpioIn := (c.gpioIn - (c.gpioIn &&& out)) + (lv &&& out) }

def gpioOut (s : Chip) (v : Nat) : Chip := (s.set Reg.GPIO_OUT_v (v &&& s.gpioPins)).gpioDrive

/-- A word written to a GPIO register. -/
def gpioWrite (s : Chip) (a d : Nat) : Chip :=
  let v := s.get Reg.GPIO_OUT_v
  if a = 0x41C20004 then s.gpioOut d
  else if a = 0x41C20008 then s.gpioOut (v ||| d)
  else if a = 0x41C2000C then s.gpioOut (v - (v &&& d))
  else if a = 0x41C20010 then (s.set Reg.GPIO_DIR_v (d &&& s.gpioPins)).gpioDrive
  else s.genericWrite a d

/-! ### Register writes -/

/-- A word written to a register of the configuration block. -/
def cfgWrite (s : Chip) (a d : Nat) : Chip :=
  if a = 0x41B00004 then s.rstCtlWrite d
  else if a = 0x41B00010 then s.bankWrite d
  else if a = 0x41B00014 then s.arbWrite d
  else if a = 0x41B0002C then s.tokenWrite d
  else if a = stAddr then s.stWrite d
  else s.genericWrite a d

end Sys2Proof.Machine.Chip
end

