-- ==== Sys2Proof/Machine/Chimney.lean ====
section
/-! DEFINITION. The commands of the Chimney (chapter 12): records, ledgers, die sensors, peak handling, rainflow, ageing. -/

namespace Sys2Proof.Machine

open Chip

/-! ### Identity records -/

/-- The legs whose modules are read and whose records have not been read. -/
def Chip.legsUnread (c : Chip) : List Nat := (List.range 6).filter fun m => c.legRead m && !hasBit c.chm.read m

/-- Why the record that stands in leg m's memory is not valid: 0 valid, 2 crc, 3 field (R481). -/
def Chip.recFault (c : Chip) (m : Nat) : Nat :=
  let pos (o : Nat) : Bool := F32.gt (c.recWord m o) 0
  if crc32 (c.bytes (idKey m 0) 0xFC) != c.recWord m 0xFC then 2
  else if c.recWord m 0 = 0x44494D50 && c.load (idKey m 4) 2 = 1 && c.load (idKey m 6) 2 = 0x100
      && pos 0x24 && pos 0x2C && pos 0x30 then 0
  else 3

/-- ID_RECORD: a LIMIT of the leg's cluster, which stands for the whole start (R494). -/
def Chip.recBad (c : Chip) (m why : Nat) : Chip :=
  let c := (c.put (Reg.CHM_M_STAT_rec_ok m) false).clrBitOf Reg.CHM_STAT_rec_ok m
  let c := c.put Reg.CHM_FLAGS_rec_bad true
  match c.sliceOwner m with
  | some k => ((c.limitCl 0x0818 m k why).put (Reg.CHM_C_STAT_no_record k) true).showLim k
  | none => c.record 0x0818 1 m 7 (sliceRgn m) why

/-- ID_RECORD_LOAD (R481): the memory answers with its bytes from address 0 on, or not at all; once per start, in leg order on
each bus. -/
def execIdRecordLoad (m : Fin 6) (mem : Option (List Byte)) (s : State) : Out :=
  s.actIf (idBytesWf mem) fun c =>
    if (c.legsUnread.find? fun i => i / 3 == m.val / 3) != some m.val then c
    else
      let c := c.modChm fun x => { x with read := setBit x.read m }
      match mem with
      | none => c.recBad m 1
      | some l =>
        let c := c.setBytes (idKey m 0) l
        let why := c.recFault m
        if why = 0 then ((c.put (Reg.CHM_M_STAT_rec_ok m) true).setBitOf Reg.CHM_STAT_rec_ok m).showNtc m
        else c.recBad m why

/-! ### Ledgers -/

/-- The memory address of a ledger slot. -/
def ledAddr (m slot : Nat) : Nat := idKey m (if slot = 0 then 0x100 else 0x600)

/-- A slot that is whole: magic and crc. -/
def Chip.slotWhole (c : Chip) (m slot : Nat) : Bool :=
  let a := ledAddr m slot
  c.load a 4 == 0x47444C50 && crc32 (c.bytes a 0x4FC) == c.load (a + 0x4FC) 4

/-- A whole slot of the leg's own power module (R499). -/
def Chip.slotValid (c : Chip) (m slot : Nat) : Bool :=
  c.slotWhole m slot && c.recOk m && c.load (ledAddr m slot + 8) 8 == c.load (idKey m 8) 8

/-- The slot in force. -/
def Chip.ledSlot (c : Chip) (m : Nat) : Option Nat :=
  match c.slotValid m 0, c.slotValid m 1 with
  | true, true => some (if c.load (ledAddr m 0 + 4) 4 < c.load (ledAddr m 1 + 4) 4 then 1 else 0)
  | true, false => some 0
  | false, true => some 1
  | false, false => none

/-- Residue and counts of a switch as a slot holds them. -/
def Chip.loadSwitch (c : Chip) (n a : Nat) : Chip :=
  let lower := n % 2
  let res := (List.range 16).filterMap fun i =>
    let v := c.load (a + 0x20 + 32 * lower + 2 * i) 2
    if v = 0x7FFF then none else some (sgn 16 v)
  let cnt := (List.range 128).filterMap fun i =>
    let v := c.load (a + 0x60 + 512 * lower + 4 * i) 4
    if v = 0 then none else some (i, v)
  c.modSw n fun w => { w with residue := res, counts := cnt }

/-- The image of the slot that a write makes (Table 12-5). -/
def Chip.ledImage (c : Chip) (m : Nat) : List Byte :=
  let l := nth c.chm.ledger m
  let res (n : Nat) : List Byte := (List.range 16).flatMap fun i =>
    match (c.sw n).residue[i]? with
    | some v => leBytes 2 (unsgn 16 v)
    | none => leBytes 2 0x7FFF
  let cnt (n : Nat) : List Byte := (List.range 128).flatMap fun i => leBytes 4 (lookupD 0 i (c.sw n).counts)
  let body := leBytes 4 0x47444C50 ++ leBytes 4 (l.seq + 1) ++ c.bytes (idKey m 8) 8 ++ leBytes 4 l.runS
    ++ leBytes 4 (l.writes + 1) ++ leBytes 4 (c.lifeOf (2 * m)) ++ leBytes 4 (c.lifeOf (2 * m + 1))
    ++ res (2 * m) ++ res (2 * m + 1) ++ cnt (2 * m) ++ cnt (2 * m + 1) ++ List.replicate 156 0
  body ++ leBytes 4 (crc32 body)

/-- A ledger write that starts takes its image. -/
def Chip.ledStart (c : Chip) (m : Nat) : Chip :=
  if c.writing (.ledger m) then c.modLedger m fun l => { l with image := c.ledImage m } else c

/-- A ledger write is submitted; one that already waits or runs serves. -/
def Chip.ledSubmit (c : Chip) (m : Nat) : Chip :=
  if c.on (Reg.CHM_M_STAT_led_ok m) && !c.writeWaits (.ledger m) then (c.submitWrite (.ledger m)).ledStart m else c

/-- LEDGER_LOAD (R499), after all records (R481); a slot left whole by another record calls for a write (R500). -/
def execLedgerLoad (m : Fin 6) (s : State) : Out :=
  s.act fun c =>
    if !c.legRead m || !c.legsUnread.isEmpty || c.on (Reg.CHM_M_STAT_led_ok m) then c
    else
      let ok (t : Chip) : Chip := (t.put (Reg.CHM_M_STAT_led_ok m) true).setBitOf Reg.CHM_STAT_led_ok m
      match c.ledSlot m with
      | some i =>
        let a := ledAddr m i
        let c := (c.loadSwitch (2 * m) a).loadSwitch (2 * m + 1) a
        let life := F32.max (c.load (a + 0x18) 4) (c.load (a + 0x1C) 4)
        let l : LedgerS := ⟨c.load (a + 4) 4, c.load (a + 0x10) 4, c.load (a + 0x14) 4, F32.ge life (F32.ratio 8 10), none, []⟩
        let c := c.modLedger m fun _ => l
        ((ok c).set (Reg.CHM_M_STAT_slot m) i).showLife m
      | none =>
        let other := c.recOk m && (c.slotWhole m 0 || c.slotWhole m 1)
        let c := ok (c.modLedger m fun _ => {})
        let c := c.note 0x081A m 0
        if other then c.ledSubmit m else c

/-- LEDGER_INTERVAL (R500): ledger_min minutes in which a cluster was in RUN have passed. -/
def execLedgerInterval (s : State) : Out :=
  s.act fun c =>
    if c.chm.runTicks < ms (60000 * max 1 (c.get Reg.CHM_CFG_ledger_min)) then c
    else forEach (List.range 6) (fun m t => t.ledSubmit m) (c.modChm fun x => { x with runTicks := 0 })

/-- LEDGER_WRITE_REQUEST (R500). -/
def execLedgerWriteRequest (s : State) : Out := s.act fun c => forEach (List.range 6) (fun m t => t.ledSubmit m) c

/-- A ledger write fails: the other slot stays in force. -/
def Chip.ledFail (c : Chip) (m : Nat) : Chip :=
  let c := (c.dropWrite (.ledger m)).put Reg.CHM_FLAGS_led_fail true
  c.note 0x0819 m (1 - c.get (Reg.CHM_M_STAT_slot m))

/-- LEDGER_WRITE_END (R500): after the read-back. -/
def execLedgerWriteEnd (m : Fin 6) (ok : Bool) (s : State) : Out :=
  s.act fun c =>
    if !c.writing (.ledger m) then c
    else if ok then
      let slot := 1 - c.get (Reg.CHM_M_STAT_slot m)
      let c := c.setBytes (ledAddr m slot) (nth c.chm.ledger m).image
      let c := c.modLedger m fun l => { l with seq := l.seq + 1, writes := l.writes + 1, image := [] }
      ((c.dropWrite (.ledger m)).set (Reg.CHM_M_STAT_slot m) slot).put Reg.CHM_FLAGS_led_done true
    else c.ledFail m

/-! ### Die sensors -/

/-- A sensor's reading is off the mean of its valid neighbours by more than 8 °C; `false` with fewer than two. -/
def Chip.sensorOff (c : Chip) (temps : List Nat) (i : Nat) : Bool :=
  let nb := (List.range 8).filter fun j => j / 4 == i / 4 && j != i && !hasBit (c.get Reg.CHM_DIE_STAT_broken) j
  let mean := F32.div (nb.foldl (fun a j => F32.add a (nth temps j)) 0) (F32.ofNat nb.length)
  nb.length ≥ 2 && !hasBit (c.get Reg.CHM_DIE_STAT_broken) i && F32.gt (F32.abs (F32.sub (nth temps i) mean)) (F32.ofNat 8)

/-- A period of `d` ticks has passed since an instant, or there is no such instant. -/
def Chip.periodDone (c : Chip) (since : Option Nat) (d : Nat) : Bool :=
  match since with
  | some t => t + d ≤ c.now
  | none => true

/-- DIE_SENSOR_SAMPLE (R482, R483): the readings of the eight sensors, every millisecond; the estimates of Table 12-2 age
with it. -/
def execDieSensorSample (temps : List Word) (s : State) : Out :=
  s.actIf (sensorsWf temps) fun c =>
    if !c.periodDone c.chm.dieAt (ms 1) then c else
    let c := c.modChm fun x => { x with dieAt := some c.now }
    let t := temps.map fun x => x.toNat
    let run := (List.range 8).map fun i => if c.sensorOff t i then nth c.chm.dieRun i + 1 else 0
    let c := forEach (List.range 8) (fun i x => x.set (Reg.CHM_DIE_T_temp i) (nth t i)) (c.modChm fun x => { x with dieRun := run })
    let c := forEach (List.range 8) (fun i x =>
      if nth run i ≥ 10 then
        ((x.setBitOf Reg.CHM_DIE_STAT_broken i).put Reg.CHM_FLAGS_die_sens true).record 0x0810 0 i 7 (i / 4) i
      else x) c
    let valid := (List.range 8).filter fun i => !hasBit (c.get Reg.CHM_DIE_STAT_broken) i
    let c := c.set Reg.CHM_DIE_STAT_valid (valid.foldl (fun w i => w + 2 ^ i) 0)
    let c := forEach [0, 1] (fun g x =>
      if (valid.filter fun i => i / 4 == g).length < 3 && !hasBit x.chm.few g then
        ((x.modChm fun y => { y with few := setBit y.few g }).put Reg.CHM_FLAGS_die_sens true).record 0x0811 0 0 7 g g
      else x) c
    let c := c.showEstimates
    match valid.map fun i => nth t i with
    | [] => c.sets [(Reg.CHM_STAT_t_die_ok, 0), (Reg.CHM_T_DIE_t_die, 0)]
    | v :: l => c.sets [(Reg.CHM_STAT_t_die_ok, 1), (Reg.CHM_T_DIE_t_die, l.foldl F32.max v)]

/-! ### Windings, peak handling, rainflow -/

/-- WIND_SENS (R485, R486): the latest valid result is more than 100 ms old; the winding limit needs a valid T_w. -/
def execWindSens (k : Fin 4) (s : State) : Out :=
  s.act fun c =>
    if c.on (Reg.CHM_C_STAT_tw_valid k) && nth c.chm.twTick k + ms 100 < c.now then
      let c := c.sets [(Reg.CHM_C_STAT_tw_valid k, 0), (Reg.CHM_C_STAT_wind_lim k, 0)]
      (c.noteCl 0x0817 k (c.motor k).wtempAin).showLim k
    else c

/-- PEAK_GRACE_END (R492): grace × 10 ms after the request. -/
def execPeakGraceEnd (k : Fin 4) (s : State) : Out :=
  s.act fun c =>
    if c.get (Reg.CHM_C_STAT_peak k) = 1 && nth c.chm.rampAt k + ms (10 * c.get (Reg.CHM_C_CFG_grace k)) ≤ c.now then
      (if c.peakReleases k then c.peakFree k else c.peakEnforce k).showLim k
    else c

/-- PEAK_RAMP_END (R492): 200 ms after the start of the ramp. -/
def execPeakRampEnd (k : Fin 4) (s : State) : Out :=
  s.act fun c =>
    if c.get (Reg.CHM_C_STAT_peak k) = 2 && nth c.chm.rampAt k + ms 200 ≤ c.now then
      (c.set (Reg.CHM_C_STAT_peak k) 3).showLim k
    else c

/-- RAINFLOW_SAMPLE (R496 to R499), every 10 ms. -/
def execRainflowSample (s : State) : Out :=
  s.act fun c =>
    if !c.on Reg.CHM_CFG_rain_en then c.modChm fun x => { x with sw := x.sw.map fun w => { w with high := none } }
    else if !c.periodDone c.chm.rainAt (ms 10) then c
    else
      let c := c.modChm fun x => { x with rainAt := some c.now }
      let h : Int := 10 * (max 1 (c.get Reg.CHM_CFG_rf_min) : Nat)
      forEach (List.range 6) (fun m t =>
        if t.on (Reg.CHM_M_STAT_led_ok m) then
          ((t.modSw (2 * m) (rainSample h)).modSw (2 * m + 1) (rainSample h)).showLife m
        else t) c

/-! ### Ageing -/

/-- The byte address of i2 of an entry of table 2 in copy c. -/
def i2Addr (k c e : Nat) : Nat := ldrAddr k 2 c + 0x40 + 4 * e + 2

/-- The i2 of an entry after a rebuild, and whether it is held at its bound (R504). -/
def rebuiltI2 (i2 img num sum ref : Nat) : Nat × Bool :=
  let w := (2 * i2 * sum + num * ref) / (2 * num * ref)
  let w := min (i2 + 4) (max (i2 - 4) w)
  let lo := (3 * img + 3) / 4
  let hi := min 255 (5 * img / 4)
  (min hi (max lo w), w < lo || hi < w)

/-- One entry of a rebuild. -/
def Chip.rebuildEntry (k : Nat) (c : Chip) (e : Nat) : Chip :=
  let a := nth c.chm.age k
  let num := lookupD 0 e a.num
  let sum := lookupD 0 e a.sum
  match a.refs.find? fun p => p.1 = e with
  | none => c
  | some (_, ref) =>
    let far := 100 * (if sum < num * ref then num * ref - sum else sum - num * ref)
      > max 1 (c.get Reg.CHM_CFG_age_tol) * num * ref
    if num < 64 || !far || ref = 0 then c
    else
      let act := c.ldrAct k 2
      let i2 := c.load (i2Addr k act e) 1
      let adj := lookupD 0 e a.adj
      let img := ((i2 : Int) - adj).toNat
      let (v, held) := rebuiltI2 i2 img num sum ref
      let c := c.store (i2Addr k (1 - act) e) 1 v
      let c := c.modAge k fun a => { a with
        adj := putAt 0 e ((v : Int) - img) a.adj, changed := a.changed + (if v = i2 then 0 else 1) }
      if held && !(nth c.chm.age k).limited.contains e then
        ((c.modAge k fun a => { a with limited := a.limited ++ [e] }).put Reg.CHM_FLAGS_age_limit true).noteCl 0x081F k e
      else c

/-- The shadow of table 2 takes the bytes of the active copy. -/
def Chip.copyTable2 (c : Chip) (k : Nat) : Chip :=
  let act := c.ldrAct k 2
  c.setBytes (ldrAddr k 2 (1 - act)) (c.bytes (ldrAddr k 2 act) 8192)

/-- The shadow's crc is written and its swap requested for the Chimney (R505). -/
def Chip.ageSwapOut (c : Chip) (k : Nat) (due : Bool) : Chip :=
  let a := ldrAddr k 2 (1 - c.ldrAct k 2)
  let c := c.store (a + 8188) 4 (crc32 (c.bytes a 8188))
  let c := c.modAge k fun x => { x with swapDue := true, storeDue := due }
  let c := (c.modCl k fun x => { x with ageSwap := true }).put (Reg.CHM_C_STAT_age_busy k) true
  c.swapRequest k 2

/-- AGE_REBUILD (R504, R505): age_h hours of RUN have passed. -/
def execAgeRebuild (k : Fin 4) (s : State) : Out :=
  s.act fun c =>
    let a := nth c.chm.age k
    if !c.on (Reg.CHM_C_CFG_age_en k) || a.swapDue || c.swapOf k 2 != .none
        || decide (a.runTicks < ms (3600000 * max 1 (c.get Reg.CHM_CFG_age_h))) then c
    else
      let c := (c.copyTable2 k).modAge k fun x => { x with runTicks := 0 }
      let c := (List.range 1024).foldl (Chip.rebuildEntry k) c
      let known (e : Nat) : Bool := a.refs.any fun p => p.1 = e
      let c := c.modAge k fun a => { a with
        num := a.num.filter fun p => !known p.1, sum := a.sum.filter fun p => !known p.1 }
      c.ageSwapOut k true

/-- The first leg of cluster k whose serial differs from the store's. -/
def Chip.ageOther (c : Chip) (k : Nat) : Option Nat :=
  let l := c.legsOf k
  ((List.range l.length).find? fun i => c.load (ageBase k + 4 + 8 * i) 8 != c.load (idKey (nth l i) 8) 8).map fun i => nth l i

/-- The stored reference and adjustment of an entry. -/
def Chip.ageTake (k : Nat) (c : Chip) (e : Nat) : Chip :=
  let a := c.ageEntry k e
  let ref := c.load a 2
  let adj := sgn 8 (c.load (a + 2) 1)
  let act := c.ldrAct k 2
  let c := c.modAge k fun x => { x with
    refs := putAt 0 e ref x.refs, adj := putAt 0 e adj x.adj, changed := x.changed + (if adj = 0 then 0 else 1) }
  if adj = 0 then c
  else c.store (i2Addr k (1 - act) e) 1 (unsgn 8 (max 0 (min 255 ((c.load (i2Addr k act e) 1 : Int) + adj))))

/-- AGE_APPLY (R503, R505): at the first chance of a start once the carrier runs and, since the serials of the store are held against
them, the records of the cluster's legs have been read. -/
def execAgeApply (k : Fin 4) (s : State) : Out :=
  s.act fun c =>
    let a := nth c.chm.age k
    let running := match c.leadSlice k with | some n => c.on (Reg.PWM_S_STAT_running n) | none => false
    if !c.on (Reg.CHM_C_CFG_age_en k) || a.applied || a.swapDue || !running || c.swapOf k 2 != .none
        || !c.on Reg.CFG_BOOT_STAT_torque_ready || (c.legsOf k).any (fun m => c.legsUnread.contains m) then c
    else
      let fresh (t : Chip) : Chip :=
        (t.modAge k fun _ => { used := a.used, applied := true, runTicks := a.runTicks }).showLearn k
      let b := ageBase k
      if c.load b 4 != 0x45474141 || crc32 (c.bytes b 4092) != c.load (b + 4092) 4 then fresh c
      else
        match c.ageOther k with
        | some m => fresh (c.record 0x081B 0 m k (rgnOf k) m)
        | none =>
          let c := c.copyTable2 k
          let c := ((List.range 1024).foldl (Chip.ageTake k) c).modAge k fun x => { x with applied := true }
          (c.ageSwapOut k false).showLearn k

end Sys2Proof.Machine
end

