-- ==== Sys2Proof/Machine/Island.lean ====
section
/-! DEFINITION. The commands of the gate-drive islands (chapter 10). -/

namespace Sys2Proof.Machine

open Chip

/-- The level that stage 7 commands at island n. -/
def Chip.levelOf (s : Chip) (n : Nat) : Bool := if n % 2 = 0 then s.after7H (n / 2) else s.after7L (n / 2)

/-- A frame of island n's channel that fails its CRC is discarded, and counts (R380, Table 10-20). -/
def Chip.crcError (s : Chip) (n : Nat) : Chip := s.bump (Reg.ISL_CHAN_crc_err n) 255

/-- EDGE_COMMAND (R378, R379, R387, R403): the level of stage 7 reaches the interlock and the island; a repeated symbol of
an island that carries it out already changes nothing. A discarded symbol counts in ISLn_CHAN.crc_err; one of a change delays
that edge and spoils the transition's measurement (R380). -/
def execEdgeCommand (n : Fin 12) (on discarded : Bool) (s : State) : Out :=
  s.act fun c =>
    let i := c.island n
    if on != c.levelOf n then c
    else
      let c := if discarded then c.crcError n else c
      let fresh := if on then !(i.held || (i.real == 3 && !turningOff i.gate)) else i.gate == .on || turningOn i.gate
      let c :=
        if on then (if fresh then c.commandOn n else c) else c.commandOff n
      if discarded && fresh then c.modIsl n fun j => { j with
        brokenOn := j.brokenOn || (on && turningOn j.gate), brokenOff := j.brokenOff || (!on && turningOff j.gate) }
      else c

/-- PHASE_END (R385, R397): the next phase of the transition begins; a finished turn-off returns the island to READY. -/
def execPhaseEnd (n : Fin 12) (s : State) : Out :=
  s.act fun c =>
    let i := c.island n
    let goTo (g : Gate) : Chip := c.modIsl n fun j => { j with gate := g }
    match i.gate with
    | .off => c
    | .on => c
    | .phase1 => goTo (if skip2 i.prof then .phase3 else .phase2)
    | .phase2 => goTo .phase3
    | .phase3 => goTo .on
    | .offPhase1 => goTo (if skip2 i.prof then .offPhase3 else .offPhase2)
    | .offPhase2 => goTo .offPhase3
    | .fault1 => c
    | .offPhase3 =>
      let t := (goTo .off).clamp n
      if i.real = 3 then t.islTo n (t.restState n) else t
    | .fault2 => (goTo .off).clamp n

/-- GATE_STATE_REPORT (R403, R412). -/
def execGateStateReport (f : ChanFrame) (above : Bool) (s : State) : Out :=
  s.act fun c =>
    let n := f.isl
    if (c.island n).real = 7 then c
    else if f.bad then c.crcError n
    else
      let c := if !above && c.on (Reg.ISL_STAT_gate_hi n) then c.modIsl n fun i => { i with lowAt := some c.now } else c
      let c := c.put (Reg.ISL_STAT_gate_hi n) above
      if above && (c.island n).real == 6 then c.abortLeak n 4 else c

/-- INTERLOCK_RELEASE (R403). -/
def execInterlockRelease (n : Fin 12) (s : State) : Out :=
  s.act fun c => if (c.island n).held && !c.mateAbove n then (c.unhold n).onArrives n else c

/-- LEG_CONFLICT (R404): a hold of more than 1 µs is recorded on the held island with the partner's last reported state. -/
def execLegConflict (n : Fin 12) (s : State) : Out :=
  s.act fun c =>
    if (c.island n).held && !(c.island n).conflict && (c.island n).heldAt + 200 < c.now then
      let c := c.modIsl n fun i => { i with conflict := true }
      let c := c.sets [(Reg.ISL_FLAGS_il_ev n, 1), (Reg.ISL_GFLAGS_il_conflict, 1)]
      ((c.islDetect n 0x0215 2 (c.get (Reg.ISL_STAT_state (mate n)))).islHold n).islFall n 0x0215 2
    else c

/-- PROFILE_FRAME (R390): both profiles are taken whole; a transition under way keeps its own. After a CLK_MAIN trip no frame
comes (R414); the island discards one that fails its CRC and keeps its profiles (R380). -/
def execProfileFrame (f : ChanFrame) (s : State) : Out :=
  s.act fun c =>
    let n := f.isl
    if c.pwr.safetyOnMon || (c.island n).frame.isNone then c
    else if f.bad then (c.crcError n).modIsl n fun i => { i with frame := none, frameE := none }
    else match (c.island n).frame with
    | some (a, b) =>
      if (c.island n).real = 0 ∨ (c.island n).real = 7 then c.modIsl n fun i => { i with frame := none }
      else c.modIsl n fun i => { i with
        frame := none, tblOn := some a, tblOff := some b, frameE := none, entOn := i.frameE.map (·.1),
        entOff := i.frameE.map (·.2) }
    | none => c

/-- The mirror registers by number. -/
def mirrorOff (i : Fin 11) : Nat := [0, 0x14, 0x18, 0x1C, 0x20, 0x24, 0x28, 0x2C, 0x30, 0x34, 0x38].getD i 0

/-- MIRROR_WRITE (R413): a word written to a mirror register, held there and on its way; the oldest word on its way acknowledged
by the island; or its frame discarded, and the word stays unacknowledged (R380). -/
def execMirrorWrite (n : Fin 12) (w : MirrorStep) (s : State) : Out :=
  s.act fun c =>
    match w with
    | .write r d => c.rowWrite (0x41100000 + 0x200 * n.val + mirrorOff r) d.toNat fun c => c.mirrorSet n (mirrorOff r) d.toNat
    | .ack => c.mirrorAck n
    | .lost => if (c.island n).dirty.isEmpty then c else c.crcError n

/-- ISLAND_CHANNEL_LOSS (R383): the island turns its gate off by its off profile and enters ORPHAN. -/
def execIslandChannelLoss (n : Fin 12) (s : State) : Out :=
  s.act fun c =>
    let r := (c.island n).real
    if 1 ≤ r ∧ r ≤ 4 then
      ((c.gateAway n).islTo n 5).handshakeStop n
    else c

/-- CHAN_LOSS (R383, R402): chan_ok clears; the loss is recorded where the last report was READY, ON, FAULT or ORPHAN, no
lockout preceded it and the supply output is asserted. -/
def execChanLoss (n : Fin 12) (s : State) : Out :=
  s.act fun c =>
    if !c.on (Reg.ISL_STAT_chan_ok n) then c
    else
      let st := c.get (Reg.ISL_STAT_state n)
      let c := c.sets [(Reg.ISL_STAT_chan_ok n, 0), (Reg.ISL_FLAGS_chan_ev n, 1)]
      if 2 ≤ st && st ≤ 5 && !(c.island n).lockout && c.isoOn n then
        ((c.islDetect n 0x0216 2 st).islHold n).islFall n 0x0216 2
      else c

/-- ORPHAN_RETURN (Table 10-1). -/
def execOrphanReturn (n : Fin 12) (s : State) : Out :=
  s.act fun c =>
    if (c.island n).real = 5 then
      ((c.modIsl n fun i => { i with hsStep := 0, hs3 := false }).islShow n 1).showSupply n
    else c

/-- The supply and temperature words of a status frame. -/
def Chip.statusWords (c : Chip) (n vcc vee temp ohms : Nat) : Chip :=
  let c := c.sets [(Reg.ISL_SUP_vcc2 n, vcc), (Reg.ISL_SUP_vee2 n, vee), (Reg.ISL_TEMP_temp n, temp)]
  let ok := n % 2 = 1 && c.on (Reg.ISL_CFG_ntc_en n) && F32.le (F32.ofNat 100) ohms && F32.le ohms (F32.ofNat 100000)
  (c.sets [(Reg.ISL_STAT_ntc_ok n, b2n ok), (Reg.ISL_NTC_ohms n, if ok then ohms else 0)]).showNtc (n / 2)

/-- VCC_WARN (R395) and OT_WARN (R398): the first after the flag was cleared is recorded. -/
def Chip.statusWarn (c : Chip) (n vcc temp : Nat) : Chip :=
  let low := vcc < 10 * c.get (Reg.ISL_UV_vcc_warn n)
  let c := c.put (Reg.ISL_STAT_vcc_warn n) low
  let c := if low && n % 2 = 0 then c.modSlice (n / 2) fun x => { x with vccLow := true } else c
  let c := if low && !c.on (Reg.ISL_FLAGS_warn_ev n) then
      (c.put (Reg.ISL_FLAGS_warn_ev n) true).islRecord n 0x0219 0 vcc else c
  let hot := F32.ge temp (F32.ofNat (c.get (Reg.ISL_OT_warn n)))
  let c := c.put (Reg.ISL_STAT_ot_warn n) hot
  if hot && !c.on (Reg.ISL_FLAGS_ot_warn_ev n) then
    (c.put (Reg.ISL_FLAGS_ot_warn_ev n) true).islRecord n 0x021A 0 temp else c

/-- STATUS_FRAME (R395, R398, R411): supplies, temperature, NTC and state; an island at 150 °C or above enters FAULT, but for one
that its lockout or channel loss keeps in STARTING or ORPHAN (R677, DEDUCED, log entry 55). -/
def execStatusFrame (f : ChanFrame) (vcc vee : Fin 65536) (temp ohms : Word) (s : State) : Out :=
  s.act fun c =>
    let n := f.isl
    let r := (c.island n).real
    if r = 0 ∨ r = 7 then c
    else if f.bad then c.crcError n
    else
      let c := (c.statusWords n vcc vee temp.toNat ohms.toNat).statusWarn n vcc temp.toNat
      let c := if 2 ≤ r then c.put (Reg.ISL_STAT_chan_ok n) true else c
      let c := c.showSupply n
      let tooHot := F32.ge temp.toNat (F32.ofNat 150) && !((c.island n).faults.any fun x => x.code = 0x0213)
      if tooHot then
        let kept := r == 5 || (r == 1 && !(c.island n).faults.isEmpty)
        let c := if kept then (c.gateAway n).set (Reg.ISL_STAT_state n) r
          else ((c.gateAway n).islShow n 4).handshakeStop n
        (c.islDetect n 0x0213 2 temp.toNat).islFall n 0x0213 2
      else c.set (Reg.ISL_STAT_state n) r

/-- A plateau time reaches the Chimney with the table entry behind the transition (R504). -/
def Chip.plateau (c : Chip) (n : Nat) (e : Option Nat) (ns : Nat) : Chip :=
  match c.islOwner n, e with
  | some k, some e => c.ageMeasure k e ns
  | _, _ => c

/-- MEASUREMENT_FRAME (R409, R410); one that fails its CRC is discarded (R380), and none is delivered after a CLK_MAIN trip
(R414). -/
def execMeasurementFrame (n : Fin 12) (on discarded : Bool) (t1 t2 : Fin 1048576) (s : State) : Out :=
  s.act fun c =>
    let i := c.island n
    if i.real = 0 ∨ i.real = 7 ∨ c.pwr.safetyOnMon then c
    else if discarded then c.crcError n
    else if (if on then i.brokenOn else i.brokenOff) || 65535 < t1.val || 65535 < t2.val then
      (c.bump (Reg.ISL_MEAS_CNT_invalid n) 65535).put (Reg.ISL_FLAGS_meas_inv n) true
    else
      let c := c.count (Reg.ISL_MEAS_CNT_valid n)
      if on then
        let c := c.sets [(Reg.ISL_MEAS_ON_t_don n, t1), (Reg.ISL_MEAS_ON_t_pl_on n, t2),
          (Reg.ISL_MEAS_TS_tick n, i.startTick)]
        let c := c.tjMeasure n t1 (c.sw n).isw
        (match c.islOwner n with | some k => c.tjOver k | none => c).plateau n i.useOn t2
      else (c.sets [(Reg.ISL_MEAS_OFF_t_doff n, t1), (Reg.ISL_MEAS_OFF_t_pl_off n, t2)]).plateau n i.useOff t2

/-- ISLAND_HANDSHAKE_OPEN (R384): an island in STARTING whose handshake the control die has opened. -/
def execIslandHandshakeOpen (n : Fin 12) (s : State) : Out :=
  s.act fun c =>
    let i := c.island n
    if i.real = 1 && i.opened && !c.retired && !i.hsFailed && i.hsStep == 0 then c.modIsl n fun i => { i with hsStep := 2 } else c

/-- HANDSHAKE_STEP_END (R381, R384): the step under way ends well, or fails; `raw` is the latency of step 4. -/
def execHandshakeStepEnd (n : Fin 12) (ok : Bool) (raw : Fin 65536) (s : State) : Out :=
  s.act fun c =>
    let i := c.island n
    if i.real != 1 || i.hsStep == 0 then c
    else if !ok then c.handshakeFail n
    else
      let st := i.hsStep
      let c := c.modIsl n fun i => { i with hsStep := st + 1 }
      if st = 2 then c.put (Reg.ISL_STAT_chan_ok n) true
      else if st = 3 then c.mirrorsIn n
      else if st = 4 then c.stepFour n raw
      else if st = 5 then c
      else c.handshakeDone n

/-- LATENCY_REMEASURE (R382): the trim moves by at most one fine step, and not while an edge command is in flight. What the trim range
cannot bring within 4 ns is drift; unmatched clears once the trim applied has brought it there. -/
def execLatencyRemeasure (n : Fin 12) (raw : Fin 65536) (s : State) : Out :=
  s.act fun c =>
    let r := (c.island n).real
    if !(r == 2 || r == 3) || !c.on Reg.ISL_CAL_STAT_valid then c
    else
      let target := c.get Reg.ISL_CAL_STAT_target
      let best := min 255 (target - raw.val)
      let old := c.get (Reg.ISL_CHAN_trim n)
      let flying : Bool := match (c.island n).cmdAt with | some t => c.now ≤ t + target / 64 | none => false
      let trim := if flying then old else if old < best then old + 1 else if best < old then old - 1 else old
      let dev (x : Nat) : Int := (raw.val + x : Nat) - (target : Int)
      let c := c.sets [(Reg.ISL_CHAN_raw n, raw), (Reg.ISL_CHAN_trim n, trim)]
      if match4.natAbs < (dev best).natAbs then c.calDrift n (dev best)
      else if (dev trim).natAbs ≤ match4.natAbs then c.put (Reg.ISL_STAT_unmatched n) false
      else c

/-- UVLO (R394, R402): gate off by the off profile, lockout report, island reset. With the control die in reset the island
acts alone. -/
def execUvlo (n : Fin 12) (vee : Bool) (v : Fin 65536) (s : State) : Out :=
  s.actRaw fun c =>
    let r := (c.island n).real
    let boot := c.ownOn n (Reg.ISL_CFG_supply n)
    let low := if vee then -(sgn 16 v) < 10 * (c.ownGet n (Reg.ISL_UV_vee_uv n) : Int)
      else v.val < 10 * c.ownGet n (Reg.ISL_UV_vcc_uv n)
    if r = 0 ∨ r = 7 ∨ !low ∨ (vee && (boot || !c.ownOn n (Reg.ISL_CFG_vee_uv_en n))) then c
    else if c.pwr.dieReset then (c.islandReset n).modIsl n fun i => { i with real := 0, gate := .off, clampOn := false }
    else
      let c := ((c.gateAway n).islandReset n).islShow n 0
      let c := c.modIsl n fun i => { i with lockout := true }
      let c := (c.showSupply n).calibrateDue
      if c.isoOn n then
        let code := if vee then 0x0212 else 0x0211
        let c := (c.put (Reg.ISL_FLAGS_uv_ev n) true).islDetect n code 2 (if vee then unsgn 32 (sgn 16 v) else v)
        c.modIsl n fun i => { i with reports := i.reports ++ [(code, 2)] }
      else c.put (Reg.ISL_FLAGS_uv_ev n) true

/-- ISLAND_SUPPLY_RELEASE (R394, R406): STARTING, and start frames. -/
def execIslandSupplyRelease (n : Fin 12) (s : State) : Out :=
  s.actRaw fun c =>
    if (c.island n).real = 0 ∧ c.pwr.dieReset then
      c.modIsl n fun i => { i with real := 5, gate := .off, clampOn := c.ownOn n (Reg.ISL_CFG_clamp_en n) }
    else if (c.island n).real = 0 then
      ((c.modIsl n fun i => { i with hsStep := 0, hs3 := false, gate := .off }).islShow n 1).showSupply n
    else c

/-- The blanking of R396 in ticks; values outside 10 to 300 act as the nearer end. -/
def Chip.blankTicks (c : Chip) (n : Nat) : Nat := 2 * max 10 (min 300 (c.ownGet n (Reg.ISL_DESAT_blank n)))

/-- DESAT_BLANKING_END (R396). -/
def execDesatBlankingEnd (n : Fin 12) (s : State) : Out :=
  s.act fun c =>
    let i := c.island n
    if i.real = 3 && c.ownOn n (Reg.ISL_CFG_desat_en n) && (turningOn i.gate || i.gate == .on)
        && i.startTick + c.blankTicks n ≤ c.now then
      c.modIsl n fun i => { i with watching := true }
    else c

/-- DESAT (R397): recorded at detection; the report goes to the safety logic. -/
def execDesat (n : Fin 12) (ns : Fin 65536) (s : State) : Out :=
  s.act fun c =>
    let i := c.island n
    if i.real = 3 && i.watching && c.ownOn n (Reg.ISL_CFG_desat_en n) then
      let c := ((c.faultOff n).islTo n 4).islDetect n 0x0210 2 ns
      c.modIsl n fun i => { i with reports := i.reports ++ [(0x0210, 2)] }
    else c

/-- TLTO_HOLD_END (R397). -/
def execTltoHoldEnd (n : Fin 12) (s : State) : Out :=
  s.act fun c =>
    if (c.island n).gate == .fault1 then c.modIsl n fun i => { i with gate := .fault2 } else c

/-- The timeout of R399 of the transition under way has passed; 0 acts as 1. -/
def Chip.gateLate (c : Chip) (n : Nat) : Bool :=
  let i := c.island n
  if turningOn i.gate then i.startTick + 20 * max 1 (c.ownGet n (Reg.ISL_GTMO_on n)) ≤ c.now
  else turningOff i.gate && i.offTick + 20 * max 1 (c.ownGet n (Reg.ISL_GTMO_off n)) ≤ c.now

/-- GATE_TMO (R399): a turn-on or turn-off that is late ends in the fault path; an island in ORPHAN stays there (R677). -/
def execGateTmo (n : Fin 12) (s : State) : Out :=
  s.act fun c =>
    let i := c.island n
    if 3 ≤ i.real && i.real ≤ 5 && c.gateLate n then
      let off := turningOff i.gate
      let c := ((c.faultOff n).islTo n (if i.real = 5 then 5 else 4)).islDetect n 0x0214 3 (b2n off)
      c.modIsl n fun i => { i with reports := i.reports ++ [(0x0214, 3)] }
    else c

/-- ISLAND_AUTO_CLEAR (R400, Table 10-7): the clear of a standing fault is due. -/
def execIslandAutoClear (n : Fin 12) (code : Fin 65536) (s : State) : Out :=
  s.act fun c =>
    match (c.island n).faults.find? fun x => x.code = code.val with
    | none => c
    | some x =>
      if x.latch || !islandRetry code || !c.islandCauseGone code n || !c.clearDue n x then c
      else
        let isDesat := code.val == 0x0210
        let isOt := code.val == 0x0213
        let used := if isDesat then c.get (Reg.ISL_FAULT_desat_used n) else c.get (Reg.ISL_FAULT_uv_used n)
        let tries := if isDesat then c.get (Reg.ISL_RETRY_desat_tries n) else c.get (Reg.ISL_RETRY_uv_tries n)
        if (isOt || used < tries) && c.clearsUsed n < c.get (Reg.ISL_RETRY_win_max n) then
          let c := if isDesat then c.set (Reg.ISL_FAULT_desat_used n) (used + 1)
            else if isOt then c else c.set (Reg.ISL_FAULT_uv_used n) (used + 1)
          let c := c.modIsl n fun i => { i with clears := (i.clears.filter fun t => c.now < t + ms 1000) ++ [c.now] }
          let c := c.sets [(Reg.ISL_FAULT_window n, min 15 (c.clearsUsed n)), (Reg.ISL_FLAGS_cleared_ev n, 1)]
          let c := c.clearIslandFault n code
          match c.islOwner n with
          | some k => c.tryLeaveSafe k
          | none => c
        else
          let c := c.modIsl n fun i => { i with
            faults := i.faults.map fun y => if y.code = code.val then { y with latch := true } else y }
          let c := c.showFaults n
          match c.islOwner n with
          | some k => c.stand k code n true
          | none => c

/-- USED_COUNT_RESET (R401): a second after a turn-on without a fault of the group. -/
def execUsedCountReset (n : Fin 12) (uv : Bool) (s : State) : Out :=
  s.act fun c =>
    let i := c.island n
    if hasBit i.turnedOn (b2n uv) && (if uv then i.turnU else i.turnD) + ms 1000 ≤ c.now then
      if uv then c.set (Reg.ISL_FAULT_uv_used n) 0 else c.set (Reg.ISL_FAULT_desat_used n) 0
    else c

/-- ISLAND_CLEAR (R401). -/
def execIslandClear (n : Fin 12) (s : State) : Out :=
  s.act fun c => c.rowWrite (0x41100004 + 0x200 * n.val) 1 fun c =>
    let c := c.clearIsland n
    match c.islOwner n with
    | some k => c.tryLeaveSafe k
    | none => c

/-- ISLn_CTL.leak (R412). -/
def Chip.leakStart (c : Chip) (n : Nat) : Chip :=
  let p := c.get (Reg.ISL_STAT_state (mate n))
  let quiet := match c.islOwner n with
    | some k => c.quiet k
    | none => !c.gateEn (n / 2)
  if c.get (Reg.ISL_STAT_state n) = 2 && (c.island n).real == 2 && (p == 2 || p == 7 || p == 0) && quiet then
    (c.islShow n 6).sets [(Reg.ISL_LEAK_STAT_busy n, 1), (Reg.ISL_LEAK_STAT_result n, 0),
      (Reg.ISL_LEAK_STAT_reason n, 0)]
  else c.refuse (0x41100004 + 0x200 * n)

/-- LEAK_CHECK (R412). -/
def execLeakCheck (n : Fin 12) (s : State) : Out := s.act fun c => c.rowWrite (0x41100004 + 0x200 * n.val) 2 fun c => c.leakStart n

/-- µA as a binary32 current in A. -/
def microAmp (v : Nat) : Nat := F32.ratio v 1000000

/-- LEAK_CHECK_END (R412, Table 10-9): the averaged holding current. -/
def execLeakCheckEnd (n : Fin 12) (cur : Word) (s : State) : Out :=
  s.act fun c =>
    if (c.island n).real = 6 && c.on (Reg.ISL_LEAK_STAT_busy n) then
      let i := cur.toNat
      let fail := c.get (Reg.ISL_LEAK_CFG_fail n)
      let warn := c.get (Reg.ISL_LEAK_CFG_warn n)
      let c := c.sets [(Reg.ISL_LEAK_RES_current n, i), (Reg.ISL_LEAK_STAT_busy n, 0), (Reg.ISL_FLAGS_leak_ev n, 1)]
      if fail != 0 && F32.ge i (microAmp fail) then
        let c := (c.set (Reg.ISL_LEAK_STAT_result n) 3).islShow n 4
        (c.islDetect n 0x0217 3 i).islFall n 0x0217 3
      else
        let c := c.islShow n (c.restState n)
        if warn != 0 && F32.ge i (microAmp warn) then
          (c.set (Reg.ISL_LEAK_STAT_result n) 2).islRecord n 0x0218 0 i
        else c.set (Reg.ISL_LEAK_STAT_result n) 1
    else c

/-- SUPPLY_MODE_WRITE (R405): a word written to ISLn_CFG. -/
def execSupplyModeWrite (n : Fin 12) (d : Word) (s : State) : Out :=
  s.act fun c => c.rowWrite (0x41100000 + 0x200 * n.val) d.toNat fun c => c.mirrorSet n 0 d.toNat

/-- BS_CATCH_PULSE (R407): every 10,000 ticks from the entry to CATCH the lower outputs of the pending legs go on for probe_t ticks, and
their islands are commanded on through the interlock (R403). -/
def execBsCatchPulse (k : Fin 4) (s : State) : Out :=
  s.act fun c =>
    if c.clState k = 1 && !c.on (Reg.SEQ_STAT_overspeed k) && (c.now - (c.cluster k).catchAt) % 10000 == 0
        && c.get (Reg.SAFE_C_STAT_sel k) == 0 then
      forEach (bitsOf (c.bootPending k) 12) (fun n t =>
        if t.after7L (n / 2) && !(t.island (n + 1)).held && (t.island (n + 1)).real == 2 then t.commandOn (n + 1) else t)
        (if c.bootPending k = 0 then c else c.pulseOn k)
    else c

end Sys2Proof.Machine
end

