-- ==== Sys2Proof/Machine/Measurement.lean ====
section
/-! DEFINITION. The commands of the converter block (chapter 06): slots, the reference, the scan list, stuck bit streams,
comparators, modulator clocks. -/

namespace Sys2Proof.Machine

open Chip

/-- SLOT_WRITE (R237, R42). -/
def execSlotWrite (k : Fin 4) (i : Fin 28) (d : Word) (s : State) : Out :=
  s.act fun c =>
    let a := 0x41201000 + 0x200 * k.val + 4 * i.val
    if c.rwlOpen a then (c.configWord a d.toNat).slotWritten k i else c.refuse a

/-- REF_SELECT (R230, R231). -/
def execRefSelect (d : Word) (s : State) : Out := s.act fun c => c.refWrite d.toNat (c.rwlOpen 0x41200000)

/-- REF_READY (R230). -/
def execRefReady (s : State) : Out :=
  s.act fun c =>
    if c.adc.refWait && c.pwr.vddaOk then
      let c := (c.put Reg.ADC_STAT_ref_rdy true).put Reg.ADC_FLAGS_ref_ev true
      { c with adc := { c.adc with refWait := false } }
    else c

/-- REF_MONITOR_TRIP (R233): while VDDA stands above its brown-out level and ref_rdy has set, unless a voltage within ±2 % of the
nominal value was seen in the last 10 µs. -/
def execRefMonitorTrip (s : State) : Out :=
  s.act fun c =>
    if c.on Reg.ADC_STAT_ref_rdy && c.pwr.vddaOk && !c.refSeenGood then
      ((c.put Reg.ADC_STAT_ref_rdy false).put Reg.ADC_FLAGS_ref_fail true).faultEvery 0x0315 0 (c.get Reg.ADC_CTL_ref)
    else c

/-- SCAN_START (R244, R245). -/
def execScanStart (s : State) : Out := s.act fun c => c.scanStart

/-- The converters of scan entry e. -/
def Chip.scanConvs (c : Chip) (e : Nat) : List Nat :=
  let n := c.get (Reg.ADC_SCAN_conv e)
  if c.on (Reg.ADC_SCAN_il e) then [n, n + 1] else [n]

/-- Ticks to the next trigger match of cluster k's lead slice that starts a pass, where its carrier runs: none to a match of this
tick whose pass has not started yet. -/
def Chip.nextTrigger (c : Chip) (k : Nat) : Option Nat :=
  match c.leadSlice k with
  | none => none
  | some l =>
    match (c.sl l).valleyAt with
    | none => none
    | some v =>
      let p := c.perOf l
      let x := (c.now - v) % (2 * p)
      let js := c.get (Reg.SEQ_CFG_trig_v k) :: (if c.dblOf k then [c.get (Reg.SEQ_CFG_trig_p k)] else [])
      let at_ := js.flatMap fun j =>
        let (dir, val) := (c.sl l).trig.getD j (3, 0)
        (if (dir == 0 || dir == 2) && val < p then [val] else [])
          ++ (if (dir == 1 || dir == 2) && val != 0 then [2 * p - min val p] else [])
      let gone := (c.cluster k).trigTick == c.now
      (at_.map fun t => if x < t || (x == t && !gone) then t - x else t + 2 * p - x).min?

/-- Ticks that entry e converts: 40, or 320 at the low rate, after the last of its samples 20 ticks apart (R234, R247). -/
def Chip.scanTicks (c : Chip) (e : Nat) : Nat :=
  (if c.on (Reg.ADC_SCAN_il e) then 20 * c.get (Reg.ADC_SCAN_count e) else 0)
    + (if (c.scanConvs e).any fun n => c.lowRate n then 320 else 40)

/-- A converter is free for a scan entry of some ticks: no entry runs on it, no sample set awaits its conversion, and with 20
ticks more it ends before the next pass of a cluster that it serves (R244, R246). -/
def Chip.convFree (c : Chip) (n ticks : Nat) : Bool :=
  !(c.adc.scanOut.any fun r => r.convs.contains n)
    && !((List.range 4).any fun k => (c.measS k).waiting.any fun p => c.slotPath k p.1 = 0 && c.slotUnit k p.1 = n)
    && (List.range 4).all fun k =>
      !c.servesSlot k n || match c.nextTrigger k with
        | some d => ticks + 20 < d
        | none => true

/-- SCAN_ENTRY_START (R244, R246). -/
def execScanEntryStart (e : Fin 16) (s : State) : Out :=
  s.act fun c =>
    if !c.on Reg.ADC_STAT_scan_busy || c.adc.scanNext != e.val || c.get Reg.ADC_SCAN_CTL_last < e.val || c.scanDead e
        || (c.scanConvs e).any (fun n => !c.convFree n (c.scanTicks e)) then c
    else
      let want := if c.on (Reg.ADC_SCAN_il e) then c.get (Reg.ADC_SCAN_count e) + 1 else 1
      let r : ScanRun := ⟨e, c.now, c.scanConvs e, want, c.now + c.scanTicks e, []⟩
      let c := c.set Reg.ADC_STAT_scan_entry e
      let c := { c with adc := { c.adc with scanNext := e + 1, scanOut := c.adc.scanOut ++ [r] } }
      c.scanSamples.scanSkip 16

/-- The mean of samples in the 14-bit format, rounded (R247, R669). -/
def scanMean (l : List Nat) : Nat :=
  let sum : Int := l.foldl (fun a x => a + sgn 14 x) 0
  unsgn 14 ((2 * sum + l.length) / (2 * (max 1 l.length : Nat)))

/-- The clusters whose winding temperature comes from entry e (R485). -/
def Chip.windUsers (c : Chip) (e : Nat) : List Nat :=
  let a := c.get (Reg.ADC_SCAN_ain e)
  let before := (List.range e).any fun j => c.get (Reg.ADC_SCAN_ain j) == a && c.on (Reg.ADC_SCR_valid j)
  (List.range 4).filter fun k => (c.motor k).wtempAin == a && !before

/-- SCAN_ENTRY_RESULT (R229, R232, R235, R246, R247, R263): the voltages of the entry's samples in the order of sampling, and that
of the reference, in microvolts, once its conversions have ended. Of several samples the rules do not say which decides the
entry's flags: any one of the low-power class sets lp, any one taken while ref_rdy was clear keeps valid clear (DESIGN CHOICE, log
entry 55). -/
def execScanEntryResult (e : Fin 16) (v : Sampled (List (Fin 4194304))) (s : State) : Out :=
  s.act fun c =>
    match c.adc.scanOut.find? fun r => r.entry = e.val with
    | none => c
    | some run =>
      if v.vin.length != run.want || c.now < run.due then c
      else
        let convs := run.convs
        let lp := run.got.any (·.1)
        let rdy := run.got.all (·.2)
        let c := c.refShown (run.start + 20 * (run.want - 1)) v.vref
        let ok := c.pwr.vddaOk && convs.all fun n => c.on (Reg.ADC_S_CFG_en n)
        let l := v.vin.map fun x => sarCode x v.vref
        let raw := if ok then 4 * scanMean l else 0
        -- each converter shows the last sample of its own
        let c := forEach (List.range l.length) (fun i t =>
          let n := nth convs (i % convs.length)
          let r := if ok then 4 * nth l i else 0
          let (low, ready) := run.got.getD i (false, true)
          t.sets [(Reg.ADC_S_RES_raw n, r), (Reg.ADC_S_RES_clip n, b2n (ok && clipRaw r)), (Reg.ADC_S_RES_lp n, b2n low),
            (Reg.ADC_S_RES_ref_nr n, b2n (!ready))]) c
        let c := c.sets [(Reg.ADC_SCR_raw e, raw), (Reg.ADC_SCR_valid e, b2n (ok && rdy)), (Reg.ADC_SCR_lp e, b2n lp)]
        let c := { c with adc := { c.adc with scanOut := c.adc.scanOut.filter fun r => r.entry != e.val } }
        let c := if ok && rdy then forEach (c.windUsers e) (fun k t => t.windResult k raw) c else c
        c.scanEnd

/-- SD_STUCK (R243): one level for 128 modulator clocks. -/
def execSdStuck (m : Fin 12) (level : Bool) (s : State) : Out :=
  s.act fun c =>
    if !c.sdRuns m || hasBit c.adc.sdStuck m then c
    else
      let c := { c with adc := { c.adc with sdStuck := setBit c.adc.sdStuck m } }
      let c := (c.put (Reg.SD_RES_level m) level).setBitOf Reg.ADC_FLAGS_sd_stuck m
      c.faultOn 0x0314 3 m (c.owners (·.sd) m) (m.val + 256 * b2n level)

/-- SD_STREAM_RECOVER (R243). -/
def execSdStreamRecover (m : Fin 12) (s : State) : Out :=
  s.act fun c =>
    if c.sdRuns m then { c with adc := { c.adc with sdStuck := clrBit c.adc.sdStuck m } } else c

/-- The input, in microvolts, stands beyond the threshold of an edge (R259). -/
def Chip.cmpBeyond (c : Chip) (n : Nat) (low : Bool) (vin vref : Nat) : Bool :=
  if low then 1024 * vin < c.get (Reg.CMP_THR_lo n) * vref else c.get (Reg.CMP_THR_hi n) * vref < 1024 * vin

/-- The input has returned from the threshold of an edge by the hysteresis: 0, 2, 4 or 8 codes (R259). -/
def Chip.cmpBack (c : Chip) (n : Nat) (low : Bool) (vin vref : Nat) : Bool :=
  let h := nth [0, 2, 4, 8] (c.get (Reg.CMP_CFG_hyst n))
  if low then (c.get (Reg.CMP_THR_lo n) + h) * vref ≤ 1024 * vin
  else 1024 * vin + h * vref ≤ c.get (Reg.CMP_THR_hi n) * vref

/-- A comparator's input is the one it watches, and its analogue output has stood for the ticks of its filter (R258, R260). -/
def Chip.cmpStood (c : Chip) (n : Nat) (v : CmpInput) : Bool :=
  v.ain.val == c.cmpAin n && c.get (Reg.CMP_CFG_filt n) ≤ v.stood

/-- CMP_TRIP (R258 to R261, R425): a trip of an enabled edge after its filter, with the input's voltage and that of the
reference, in microvolts, and the ticks for which the output has stayed tripped. -/
def execCmpTrip (n : Fin 16) (v : CmpInput) (s : State) : Out :=
  s.act fun c =>
    let now := if v.low then Reg.CMP_STAT_lo_now else Reg.CMP_STAT_hi_now
    let flag := if v.low then Reg.CMP_FLAGS_lo_trip else Reg.CMP_FLAGS_hi_trip
    if !c.cmpEdgeOn n v.low || hasBit (c.get now) n || !c.pwr.vddaOk || !c.cmpStood n v || !c.cmpBeyond n v.low v.vin v.vref then c
    else
      let c := c.refShown c.now v.vref
      let data := n.val + 256 * b2n v.low
      let c := c.setBitOf now n
      let c := if hasBit (c.get flag) n then c
        else (c.setBitOf flag n).record 0x0318 0 n (c.unitAt (0x41200500 + 8 * n)).cluster
          (match (c.owners (·.cmp) n).head? with | some k => rgnOf k | none => 0) data
      c.cmpRoleActs n v.low data

/-- CMP_RELEASE (R259, R260): the end of a trip; the demands and the contactors follow. -/
def execCmpRelease (n : Fin 16) (v : CmpInput) (s : State) : Out :=
  s.act fun c =>
    let now := if v.low then Reg.CMP_STAT_lo_now else Reg.CMP_STAT_hi_now
    if !hasBit (c.get now) n || !c.cmpStood n v || !c.cmpBack n v.low v.vin v.vref then c
    else
      let c := cmpFreed c ((c.refShown c.now v.vref).clrBitOf now n)
      (c.showOv3.showVdc.applyContactors false).settleHolds

/-- SD_CLK_CFG_WRITE (R674). -/
def execSdClkCfgWrite (d : Word) (s : State) : Out := s.act fun c => c.sdClkWrite d.toNat

end Sys2Proof.Machine
end

