-- ==== Sys2Proof/Machine/Position.lean ====
section
/-! DEFINITION. The commands of the position channels (chapter 07). -/

namespace Sys2Proof.Machine

open Chip

/-- QUAD_COUNT (R271, R272): a sample of A and B. -/
def execQuadCount (n : Fin 2) (a b : Bool) (s : State) : Out := s.act fun c => c.quadSample n a b

/-- INDEX (R277): an edge of Z. It acts after the count step of its sample: at once where that is made, else with the sample of A
and B that follows in the tick, or at the tick's end (Table 07-5). -/
def execIndex (n : Fin 2) (rise : Bool) (s : State) : Out :=
  s.act fun c =>
    if (c.posS n).sampleAt == some c.now then c.posEvent n fun c => c.posIndex n rise
    else c.modPos n fun p => { p with idxDue := some rise }

/-- POS_EVAL_SELF_TIMED (R270): at the ticks of its series. -/
def execPosEvalSelfTimed (n : Fin 2) (s : State) : Out :=
  s.act fun c => if c.selfDue n then c.selfEval n else c

/-- HALL_CHANGE (R278 to R281, R210, R211): a stable new Hall state is delivered; a RUN that waits for a legal one is taken
(R172). -/
def execHallChange (n : Fin 2) (h : Fin 8) (s : State) : Out :=
  s.act fun c =>
    if c.get (Reg.POS_STAT_hall n) = h.val then c
    else
      let c := c.posEvent n fun c => c.hallDeliver n h
      match c.posOwner n with
      | none => c
      | some k =>
        if (c.topo k).type != 5 then c
        else
          if legalHall h then (if (c.cluster k).held = 1 && c.quiet k && c.startDone k then c.bcmStart k else c)
          else (c.put (Reg.SEQ_FLAGS_hall_ev k) true).faultCl 0x051A 2 k k h

/-- SENT_FRAME (R286 to R289). -/
def execSentFrame (n : Fin 2) (sync : Fin 2097152) (pulses : List (Fin 2097152)) (s : State) : Out :=
  s.act fun c => c.sentRx n sync (pulses.map fun x => x.val)

/-- SENT_TIMEOUT (R290). -/
def execSentTimeout (n : Fin 2) (s : State) : Out := s.act fun c => c.sourceTimeout n 4

/-- The fabric port that POSn_FAB_CFG names has a unit, and its region runs: without either it never strobes (R291, R299). -/
def Chip.strobes (c : Chip) (n : Nat) : Bool :=
  let p := c.get (Reg.POS_FAB_CFG_port n)
  (c.portDesc p).isSome && (c.region (p / 16)).up && !(c.region (p / 16)).inReset

/-- FAB_STROBE (R291). -/
def execFabStrobe (n : Fin 2) (angle : Fin 65536) (s : State) : Out :=
  s.act fun c =>
    if c.posMode n != 5 || !c.strobes n then c
    else
      let tick : Int := (c.now : Int) - (c.get (Reg.POS_FAB_CFG_age n) : Nat)
      (c.sets [(Reg.POS_FAB_TS_tick n, unsgn 32 tick), (Reg.POS_FAB_ANG_angle n, angle), (Reg.POS_FLAGS_frame n, 1)]).sensorAngle
        n angle tick

/-- FAB_STALE (R291). -/
def execFabStale (n : Fin 2) (s : State) : Out :=
  s.act fun c => c.sourceTimeout n 5

/-- STANDSTILL (R296): no count for POSn_LIM.standstill milliseconds; not declared in modes 3 to 5 (R297). -/
def execStandstill (n : Fin 2) (s : State) : Out :=
  s.act fun c => if c.standstillDue n then c.declareStandstill n else c

/-- POSn_CTL.clr_tot (R675). -/
def Chip.posClrTot (c : Chip) (n : Nat) : Chip :=
  c.sets [(Reg.POS_ERRTOT_glitch_total n, 0), (Reg.POS_ERRTOT_qerr_total n, 0), (Reg.POS_SENT_ERR_crc_err n, 0),
    (Reg.POS_SENT_ERR_sync_err n, 0), (Reg.POS_SENT_ERR_ser_err n, 0)]

/-- POSn_CTL.rearm (R293, Table 07-3). -/
def Chip.posRearm (c : Chip) (n : Nat) : Chip :=
  let free := match c.posOwner n with
    | some k => c.quiet k
    | none => true
  if !free then c.refuse (0x41300010 + 0x100 * n)
  else
    let c := (c.set (Reg.POS_STAT_qerr_count n) 0).modPos n fun p => { p with qStuck := false, qLeft := 0 }
    if c.posMode n = 1 && c.idxMode n ≤ 1 then c.posOk n else c

/-- SNAP (R295). -/
def execSnap (n : Fin 2) (s : State) : Out := s.act fun c => c.rowWrite (0x41300010 + 0x100 * n.val) 1 fun c => c.posSnap n

/-- CLR_TOT (R675). -/
def execClrTot (n : Fin 2) (s : State) : Out := s.act fun c => c.rowWrite (0x41300010 + 0x100 * n.val) 4 fun c => c.posClrTot n

/-- REARM (R293). -/
def execRearm (n : Fin 2) (s : State) : Out := s.act fun c => c.rowWrite (0x41300010 + 0x100 * n.val) 2 fun c => c.posRearm n

/-- POS_CFG_WRITE (R292, R42). -/
def execPosCfgWrite (n : Fin 2) (d : Word) (s : State) : Out :=
  s.act fun c =>
    let a := 0x41300000 + 0x100 * n.val
    c.rowWrite a d.toNat fun c => if c.rwlOpen a then c.posCfgSet n d.toNat else c.refuse a

end Sys2Proof.Machine
end

