-- ==== Sys2Proof/Machine/Pwm.lean ====
section
/-! DEFINITION. The commands of the slices (chapter 09), and FLT_N. -/

namespace Sys2Proof.Machine

open Chip

/-- What a period boundary of cluster k does beside the reload: the result banks (R249) and the ring's setpoint (R622). -/
def Chip.periodBoundary (c : Chip) (k : Nat) : Chip :=
  let c := c.bankBoundary k
  if c.on (Reg.SEQ_CFG_cmd_src k) && c.on (Reg.RING_C_STAT_valid k) then
    let v := c.get (Reg.RING_C_CMD_cmd k)
    if c.on (Reg.SEQ_CFG_mode k) then c.set (Reg.SEQ_SPD_CMD_v k) v else c.set (Reg.SEQ_TQ_CMD_v k) v
  else c

/-- RELOAD (R329, R338): the valley or the peak tick of a running slice, no earlier than its carrier reaches
it; `bad` is the offset in table 2 at which the profile lookup meets an uncorrectable error (R393). -/
def execReload (n : Fin 16) (peak : Bool) (bad : Option (Fin 8192)) (s : State) : Out :=
  s.act fun c =>
    if !c.on (Reg.PWM_S_STAT_running n) || !c.reloadDue n peak then c
    else
      let o := c.sliceOwner n
      let lead := match o with | some k => c.leadSlice k == some n.val | none => false
      let c := if peak then c.peakTick n else c.valleyTick n
      let c := match o with
        | some k =>
          let c := if lead && !peak then c.periodBoundary k else c
          if peak && !c.dblSlice n then c else c.profLookup k n (bad.map (·.val))
        | none => c
      c

/-- SLICE_RUN (R333): the carrier starts in the next tick. -/
def execSliceRun (n : Fin 16) (s : State) : Out := s.act fun c => c.rowWrite (0x4100003C + 0x100 * n.val) 1 fun c => c.sliceRun n

/-- SLICE_STOP (R333). -/
def execSliceStop (n : Fin 16) (s : State) : Out := s.act fun c => c.rowWrite (0x4100003C + 0x100 * n.val) 2 fun c => c.sliceStop n

/-- PWM_START (R333): the named slices start together in the next tick. -/
def execPwmStart (d : Word) (s : State) : Out :=
  s.act fun c => forEach (bitsOf d.toNat 16) (fun n t => t.sliceRun n) c

/-- DELAY_CAL (R342, R343); a code that comes in a valley tick governs that tick (Table 09-11). -/
def execDelayCal (taps : Fin 65536) (late : Bool) (s : State) : Out :=
  s.act fun c =>
    if !c.pwr.locked then c
    else if 40 ≤ taps.val && taps.val ≤ 127 && !late then
      let c := (c.count Reg.PWM_CAL_count).sets [(Reg.PWM_CAL_taps, taps), (Reg.PWM_CAL_valid, 1), (Reg.PWM_CAL_discards, 0),
        (Reg.PWM_CAL_stale, 0)]
      forEach (List.range 16) (fun n t =>
        if (t.sl n).valleyAt == some t.now then t.modSlice n fun x => { x with taps := taps } else t) c
    else
      let c := c.bump Reg.PWM_CAL_discards 15
      if c.get Reg.PWM_CAL_discards = 3 then
        (c.sets [(Reg.PWM_CAL_stale, 1), (Reg.PWM_GFLAGS_cal_fail, 1)]).note 0x0114 0 (if late then 0 else taps)
      else c

/-- RAW_EDGE (R335, R347, R348): a raw level changes within a half, no earlier than the tick that holds the edge. -/
def execRawEdge (n : Fin 16) (low active : Bool) (s : State) : Out := s.act fun c => c.rawEdge n low active

/-- An output of the pattern rises at a fine time; a pulse that has begun lasts MINP, or the refresh length. -/
def Chip.risesH (c : Chip) (n t : Nat) : Chip :=
  (c.accrue n t).modSlice n fun x => { x with
    onH := true, waitH := false, minH := c.minp n > 0 && c.fh n != 2, endH := false, riseH := t, lenH := c.minp n }

def Chip.risesL (c : Chip) (n t : Nat) : Chip :=
  (c.accrue n t).modSlice n fun x => { x with
    onL := true, waitL := false, minL := (c.minp n > 0 && c.fl n != 2) || x.refresh, endL := x.refresh, riseL := t,
    lenL := if x.refresh then c.refreshLen n else c.minp n }

/-- DEAD_TIME_END (R347, R361, R365): no earlier than the dead time ends. -/
def execDeadTimeEnd (n : Fin 16) (w : DeadTime) (s : State) : Out :=
  s.act fun c =>
    let x := c.sl n
    let c := match w with
      | .h => if x.waitH && x.effH && x.fromH + c.dth n ≤ c.fineEnd then c.risesH n (x.fromH + c.dth n) else c
      | .l => if x.waitL && (x.effL || x.refresh) && x.fromL + c.dtl n ≤ c.fineEnd then c.risesL n (x.fromL + c.dtl n) else c
      | .ovH => if c.ovr n = 3 && c.mayRiseH n c.fineEnd then (c.accrue n (c.ovRiseH n)).modSlice n fun x => { x with ovH := true } else c
      | .ovL => if c.ovr n = 2 && c.mayRiseL n c.fineEnd then (c.accrue n (c.ovRiseL n)).modSlice n fun x => { x with ovL := true } else c
      | .t1 =>
        let y := c.sl (n + 3)
        let t := y.riseH + c.dth (n + 3)
        if c.threeLevel n && n.val < 3 && y.onH && t ≤ c.fineEnd then (c.accrue n t).modSlice n fun x => { x with gateH := true } else c
      | .t4 =>
        let y := c.sl (n - 3)
        let t := y.riseL + c.dtl (n - 3)
        if c.threeLevel n && 3 ≤ n.val && y.onL && t ≤ c.fineEnd then (c.accrue n t).modSlice n fun x => { x with gateL := true } else c
    (c.outputs n).checkSlice n

/-- The end of a refresh pulse (R357): L falls and H follows its raw level. -/
def Chip.refreshEnd (c : Chip) (n t : Nat) : Chip :=
  let c := (c.accrue n t).modSlice n fun x => { x with refresh := false, minL := false, endL := false }
  if (c.sl n).effH then (c.modSlice n fun x => { x with onL := false }).riseH n t else c

/-- MIN_PULSE_END (R348, R357): no earlier than the pulse has lasted its length. -/
def execMinPulseEnd (n : Fin 16) (low : Bool) (s : State) : Out :=
  s.act fun c =>
    let x := c.sl n
    let t := if low then x.riseL + x.lenL else x.riseH + x.lenH
    if c.fineEnd < t then c
    else
      let c := if low then
          if x.refresh && x.onL then c.refreshEnd n t
          else if x.minL && x.endL then
            let c := (c.accrue n t).fallL n true
            if x.effH && !c.indep n then c.riseH n t else c
          else c.modSlice n fun x => { x with minL := false }
        else if x.minH && x.endH then
          let c := (c.accrue n t).fallH n true
          if x.effL && !c.indep n then c.riseL n t else c
        else c.modSlice n fun x => { x with minH := false }
      ((c.dropGates n).outputs n).checkSlice n

/-- A refresh begins in the present tick: H falls, L rises DTL later for the refresh length. -/
def Chip.refreshStart (c : Chip) (n : Nat) : Chip :=
  (((c.accrue n c.fineNow).modSlice n fun x => { x with
    onH := false, waitH := false, minH := false, endH := false, waitL := true, fromL := c.fineNow, refresh := true }).dropGates n).outputs n

/-- The time for which H has stood on (R357) by the end of the present tick. -/
def Chip.bsTime (c : Chip) (n : Nat) : Nat :=
  (c.sl n).bsOn + (if c.on (Reg.PWM_S_STAT_h_now n) then c.fineEnd - (c.sl n).accAt else 0)

/-- The limit of R357 in fine steps. -/
def Chip.bsLimit (c : Chip) (n : Nat) : Nat := 128000 * max 1 (c.get (Reg.PWM_S_BOOT_max_on n))

/-- The first refresh after the flag was cleared is recorded with the H time counted. -/
def Chip.bsNote (c : Chip) (n count : Nat) : Chip :=
  if c.on (Reg.PWM_S_FLAGS_bs_refresh n) then c
  else (c.put (Reg.PWM_S_FLAGS_bs_refresh n) true).record 0x0113 0 n ((c.sliceOwner n).getD 7) (sliceRgn n) (count / 128000)

/-- BS_REFRESH (R357): the count has reached its limit. Where raw high falls in that tick, that edge comes first, and a
refresh is added only if the L pulse that follows would be shorter than it (Table 09-11). -/
def execBsRefresh (n : Fin 16) (s : State) : Out :=
  s.act fun c =>
    let count := c.bsTime n
    let c := if c.bootSlice n && !(count + 63 < c.bsLimit n) then c.rawEdge n false false else c
    let x := c.sl n
    if !c.bootSlice n || x.refresh || count + 63 < c.bsLimit n then c
    else if x.onH then (c.refreshStart n).bsNote n count
    else if x.waitL && x.fromL / 64 = c.now && 2 * c.cDn n < c.dtl n + c.refreshLen n then
      (c.modSlice n fun x => { x with refresh := true }).bsNote n count
    else c

/-- BOOT_LOW (R358): a VCC2 warning of the upper island forces a refresh at the next valley tick, though it may have gone since; an L
that has stood on for the refresh length needs no more. -/
def execBootLow (n : Fin 16) (s : State) : Out :=
  s.act fun c =>
    if c.bootSlice n && (c.sl n).valleyAt == some c.now && ((c.sl n).vccLow || c.on (Reg.ISL_STAT_vcc_warn (2 * n))) then
      let c := c.modSlice n fun x => { x with vccLow := false }
      let c := (c.put (Reg.PWM_S_FLAGS_boot_low n) true).record 0x0112 0 n ((c.sliceOwner n).getD 7) (sliceRgn n) (2 * n)
      if (c.sl n).onL && (c.sl n).riseL + c.refreshLen n ≤ c.fineNow then c
      else if (c.sl n).onL then
        c.modSlice n fun x => { x with minL := true, lenL := max (if x.minL then x.lenL else 0) (c.refreshLen n) }
      else c.refreshStart n
    else c

/-- FORCE_WRITE (R352): the force acts from the next tick. -/
def execForceWrite (n : Fin 16) (d : Word) (s : State) : Out :=
  s.act fun c => c.rowWrite (0x41000030 + 0x100 * n.val) d.toNat fun c => c.genericWrite (0x41000030 + 0x100 * n) d.toNat

/-- FLOOR_WRITE (R355). -/
def execFloorWrite (n : Fin 16) (d : Word) (s : State) : Out :=
  s.act fun c => c.rowWrite (0x4100001C + 0x100 * n.val) d.toNat fun c => c.floorSet n d.toNat

/-- HOLD_SET (R340). -/
def execHoldSet (d : Word) (s : State) : Out :=
  s.act fun c => c.keepHold.set Reg.PWM_RELOAD_HOLD_v (c.get Reg.PWM_RELOAD_HOLD_v ||| d.toNat % 65536)

/-- HOLD_CLR (R340). -/
def execHoldClr (d : Word) (s : State) : Out :=
  s.act fun c =>
    let h := c.get Reg.PWM_RELOAD_HOLD_v
    c.keepHold.set Reg.PWM_RELOAD_HOLD_v (h - (h &&& d.toNat % 65536))

/-- FLT_N_ASSERT (R368, R425); a level taken during a reset of the die acts at its release. -/
def execFltNAssert (s : State) : Out :=
  s.actRaw fun c =>
    let c := { c with pwmG := { c.pwmG with fltLow := true } }
    if c.pwr.dieReset || c.on Reg.PWM_XHIZ_flt_now then c else c.fltDemand

/-- FLT_N_RELEASE: FLT_N reads high again (R368, R425). -/
def execFltNRelease (s : State) : Out :=
  s.actRaw fun c =>
    let c := { c with pwmG := { c.pwmG with fltLow := false } }
    if !c.pwr.dieReset && c.on Reg.PWM_XHIZ_flt_now then
      let c := c.sets [(Reg.PWM_XHIZ_flt_now, 0), (Reg.SAFE_STAT_flt_low, 0)]
      { c with pwmG := { c.pwmG with fltHigh := c.now } }.refreshHolds
    else c

/-- PWM_XHIZ.release (R369, R676): no effect while FLT_N is low or before it has been high for 1 µs; each slice then drives
from its next valley tick. -/
def Chip.xhizRelease (c : Chip) : Chip :=
  if c.on Reg.PWM_XHIZ_flt_now || c.now < c.pwmG.fltHigh + 200 then c else c.put Reg.PWM_XHIZ_hiz false

/-- XHIZ_RELEASE (R369). -/
def execXhizRelease (s : State) : Out := s.act Chip.xhizRelease

end Sys2Proof.Machine
end

