-- ==== Sys2Proof/Machine/WriteOps.lean ====
section
/-! DEFINITION. What a word written to a register does in its block (R6, Tables of the block chapters), and unit resets
(R13, R14). -/

namespace Sys2Proof.Machine

namespace Chip

/-! ### Unit resets -/

/-- The register that holds a unit's reset bit. -/
def unitCtl : UnitId → Nat
  | .pos n => 0x41300010 + 0x100 * n
  | .cle k => 0x40002000 + 0x10000 * k
  | .pwm n => 0x4100003C + 0x100 * n
  | .isl n => 0x41100004 + 0x200 * n
  | .can n => 0x41600004 + 0x1000 * n
  | .ring => 0x41700004

/-- The unit's registers and machinery at their reset values. -/
def unitClear (s : Chip) : UnitId → Chip
  | .pos n => s.posUnitReset n
  | .cle k => forEach (s.takeSets k) (fun e t => t.cleUnitReset e) s
  | .pwm n => s.sliceUnitReset n
  | .isl n => s.islUnitReset n
  | .can n => s.canReset n
  | .ring => s.ringReset

/-- A unit reset is asked: refused in a running cluster (R14), else it starts and holds the accesses that arrive. -/
def unitStart (s : Chip) (u : UnitId) : Chip :=
  if !s.rwlOpen (unitCtl u) then s.refuse (unitCtl u)
  else
    let s := s.unitClear u
    { s with bus := { s.bus with resets := if s.bus.resets.contains u then s.bus.resets else s.bus.resets ++ [u] } }

/-- The bit that asks for a unit's reset in the register that holds it. -/
def unitBit : UnitId → Nat
  | .pos _ => 3
  | .cle _ => 30
  | .pwm _ => 2
  | .isl _ => 2
  | .can _ => 9
  | .ring => 2

/-- The bits of a word that lie in fields which keep the value written to them. -/
def keptBits (a d : Nat) : Nat :=
  ((fieldsAt a).getD []).foldl (fun w f =>
    if f.acc = .rw || f.acc = .rws || f.acc = .rwl || f.acc = .rwi || f.acc = .rwe then w + part d f.lsb f.width * 2 ^ f.lsb else w) 0

/-- The write that asks for a unit's reset and leaves the register's other fields as they are. -/
def unitAsk (s : Chip) (u : UnitId) : Chip :=
  s.rowWrite (unitCtl u) (keptBits (unitCtl u) (s.regWord (unitCtl u)) + 2 ^ unitBit u) fun c => c.unitStart u

/-! ### Writes by block -/

/-- CLEk_CTL (Table 08-7): the fields of both engine sets while duplexed (R323), the timer of R318, clr. -/
def cleCtlWrite (s : Chip) (k d : Nat) : Chip :=
  let s := forEach (s.writeSets k) (fun e t =>
    (t.sets [(Reg.CLE_CTL_fe_ms e, part d 16 8), (Reg.CLE_CTL_fe_list e, part d 12 3), (Reg.CLE_CTL_snap_sec e, part d 0 6)]).feZero e) s
  let s := if hasBit d 31 then s.cleClr k else s
  if hasBit d 30 then s.unitStart (.cle (Fin.ofNat 4 k)) else s

/-- A word written to the registers of cluster k (chapters 05 and 08): software does not command a cluster that takes its commands
from the ring (Table 05-17). -/
def clusterWrite (s : Chip) (a d : Nat) : Chip :=
  let k := a / 0x10000 % 4
  let o := a % 0x10000
  if s.lentEngine a then s.refuse a
  else if o = 0 then s.request k (d % 16)
  else if o = 0x44 then (if part d 16 16 = 0 then s.set (Reg.SEQ_TIME_worst k) 0 else s)
  else if o = 0x84 then forEach (bitsOf d 3) (fun t u => u.swapBySoftware k t) s
  else if (o = 0x20 ∨ o = 0x24) ∧ s.on (Reg.SEQ_CFG_cmd_src k) then s
  else if o = 0x2000 then s.cleCtlWrite k d
  else if o = 0x2008 ∨ o = 0x200C then forEach (s.takeSets k) (fun e t => t.genericWrite (0x40000000 + 0x10000 * e + o) d) s
  else if o = 0x2010 then
    let s' := s.coefSet k 0x10 d
    if F32.isFinite d then forEach (s.writeSets k) (fun e t => t.feZero e) s' else s'
  else if 0x2040 ≤ o ∧ o < 0x20A0 ∧ o % 0x10 = 0 then s.listSet k ((o - 0x2040) / 0x10) d
  else if 0x2040 ≤ o ∧ o < 0x20A0 ∧ (o % 0x10 = 4 ∨ o % 0x10 = 8) then s.coefSet k (o - 0x2000) d
  else if 0x2100 ≤ o ∧ o < 0x2700 ∧ o % 0x20 = 0x14 then s.secCfgSet k ((o - 0x2100) / 0x20) d
  else if 0x2100 ≤ o ∧ o < 0x2700 ∧ o % 0x20 < 0x14 then s.coefSet k (o - 0x2000) d
  else s.genericWrite a d

/-- PWM_RELOAD_HOLD through its set and clear registers (R340). -/
def holdWrite (s : Chip) (d : Nat) (set : Bool) : Chip :=
  let s := s.keepHold
  let h := s.get Reg.PWM_RELOAD_HOLD_v
  let v := d % 65536
  s.set Reg.PWM_RELOAD_HOLD_v (if set then h ||| v else h - (h &&& v))

/-- A word written to the slices' registers (chapter 09). -/
def pwmWrite (s : Chip) (a d : Nat) : Chip :=
  let n := a % 0x100000 / 0x100
  let o := a % 0x100
  if n < 16 then
    if o = 0x1C then s.floorSet n d
    else if o = 0x3C then
      let s := if hasBit d 0 then s.sliceRun n else s
      let s := if hasBit d 1 then s.sliceStop n else s
      if hasBit d 2 then s.unitStart (.pwm (Fin.ofNat 16 n)) else s
    else s.sliceSet n o d
  else if a = 0x41001000 then s.keepHold.genericWrite a d
  else if a = 0x41001004 then s.holdWrite d true
  else if a = 0x41001008 then s.holdWrite d false
  else if a = 0x4100100C then forEach (bitsOf d 16) (fun n t => t.sliceRun n) s
  else if a = 0x41001014 then (if hasBit d 8 then s.xhizRelease else s)
  else s.genericWrite a d

/-- ISLn_CTL (Table 10-10). -/
def islCtlWrite (s : Chip) (n d : Nat) : Chip :=
  let s := if hasBit d 0 then
      let s := s.clearIsland n
      match s.islOwner n with
      | some k => s.tryLeaveSafe k
      | none => s
    else s
  let s := if hasBit d 1 then s.leakStart n else s
  if hasBit d 2 then s.unitStart (.isl (Fin.ofNat 12 n)) else s

/-- A word written to the islands' registers (chapter 10). -/
def islWrite (s : Chip) (a d : Nat) : Chip :=
  let n := a % 0x100000 / 0x200
  let o := a % 0x200
  if n < 12 then
    if o = 4 then s.islCtlWrite n d
    else if mirrorReg o then s.mirrorSet n o d
    else s.genericWrite a d
  else (s.genericWrite a d).xfmrUpdate

/-- A word written to the converter block (chapter 06). -/
def adcWrite (s : Chip) (a d : Nat) : Chip :=
  let o := a % 0x100000
  if o = 0 then s.refWrite d (s.rwlOpen a)
  else if o = 0x10 then
    let s := s.genericWrite a (d % 2 ^ 31)
    if hasBit d 31 then s.scanStart else s
  else if 0x100 ≤ o ∧ o < 0x180 ∧ o % 8 = 0 then
    if s.rwlOpen a then s.sarCfgWrite ((o - 0x100) / 8) d else s.refuse a
  else if o = 0x200 then s.sdClkWrite d
  else if 0x1000 ≤ o ∧ o < 0x1800 ∧ o % 0x200 < 0x70 then
    if s.rwlOpen a then (s.configWord a d).slotWritten ((o - 0x1000) / 0x200) (o % 0x200 / 4) else s.refuse a
  else if 0x8000 ≤ o ∧ o < 0x8800 then s
  else if 0x1000 ≤ o ∧ o < 0x1800 ∧ o % 0x200 = 0x118 then
    (s.genericWrite a d).freezeDone ((o - 0x1000) / 0x200)
  else if 0x500 ≤ o ∧ o < 0x580 ∧ o % 8 = 0 then
    let old := s.regs
    let s := cmpFreed s ((s.genericWrite a d).cmpCfgDone ((o - 0x500) / 8))
    if s.regs = old then s else (s.showOv3.showVdc.applyContactors false).cmpDemands.settleHolds
  else s.genericWrite a d

/-- POSn_CTL: its bits act in the order of R675. -/
def posCtlWrite (s : Chip) (n d : Nat) : Chip :=
  let s := if hasBit d 0 then s.posSnap n else s
  let s := if hasBit d 2 then s.posClrTot n else s
  let s := if hasBit d 1 then s.posRearm n else s
  if hasBit d 3 then s.unitStart (.pos (Fin.ofNat 2 n)) else s

/-- A word written to the position channels (chapter 07). -/
def posWrite (s : Chip) (a d : Nat) : Chip :=
  let n := a % 0x100000 / 0x100
  let o := a % 0x100
  if n < 2 ∧ o = 0 then (if s.rwlOpen a then s.posCfgSet n d else s.refuse a)
  else if n < 2 ∧ o = 0x10 then s.posCtlWrite n d
  else if n < 2 ∧ o = 0x18 then
    let s := s.genericWrite a d
    if s.on (Reg.POS_FLAGS_src_err n) then s else s.modPos n fun p => { p with crcRec := false }
  else s.genericWrite a d

/-- SAFE_Ck_PC (Table 11-24). -/
def pcWrite (s : Chip) (k d : Nat) : Chip :=
  let s := s.set (Reg.SAFE_C_PC_ack k) (part d 0 4)
  let s := if hasBit d 8 then s.ss1Begin k else s
  let s := if hasBit d 9 then s.pcSto k 0x071D 1 else s
  if hasBit d 10 then s.pcRelease k else s

/-- SAFE_DIS_CTL (Table 11-18). -/
def disWrite (s : Chip) (d : Nat) : Chip :=
  let s := s.genericWrite 0x4140001C (d - d % 4)
  let s := if hasBit d 0 then s.disStartNow else s
  if hasBit d 1 then s.disAbort else s

/-- A word written to the safety block (chapter 11). -/
def safeWrite (s : Chip) (a d : Nat) : Chip :=
  let o := a % 0x100000
  if o = 0x10 then s.ctrWrite d
  else if o = 0x1C then s.disWrite d
  else if o = 0x34 then (if hasBit d 0 then s.chopTest else s)
  else if 0x100 ≤ o ∧ o < 0x200 ∧ o % 0x40 = 8 then s.pcWrite ((o - 0x100) / 0x40) d
  else if o = 0x0C then (s.genericWrite a d).showDisc.standAll
  else if o = 0x14 then (s.genericWrite a d).ctrLook
  else if o = 0x30 then chopMoved s (s.genericWrite a d)
  else if o = 0x28 ∨ o = 0x2C then (s.genericWrite a d).showVdc
  else if o = 0x3C ∨ o = 0x40 then (s.genericWrite a d).showOv3.showVdc.standAll
  else (s.genericWrite a d).refreshHolds

/-- A word written to the Chimney (chapter 12). -/
def chmWrite (s : Chip) (a d : Nat) : Chip :=
  if a = 0x4150001C then (if hasBit d 0 then forEach (List.range 6) (fun m t => t.ledSubmit m) s else s)
  else if 0x41500100 ≤ a ∧ a < 0x41500200 ∧ a % 0x40 = 0 then
    let k := (a - 0x41500100) / 0x40
    ((s.genericWrite a d).windJudge k).showLearn k
  else s.genericWrite a d

/-- A word written to a CAN controller (chapter 15). -/
def canBlockWrite (s : Chip) (a d : Nat) : Chip :=
  if a % 0x1000 = 4 then
    let s := s.canWrite a (clrBit d 9)
    if hasBit d 9 then s.unitStart (.can (Fin.ofNat 4 (a / 0x1000))) else s
  else s.canWrite a d

/-- A word written to the ring block (chapter 16). -/
def ringBlockWrite (s : Chip) (a d : Nat) : Chip :=
  if a = 0x41700004 then
    let s := s.ringWrite a (clrBit d 2)
    if hasBit d 2 then s.unitStart .ring else s
  else s.ringWrite a d

/-- A counter register that only a write of 0 to a field restarts (IRQ_SPURIOUS). -/
def spuriousWrite (s : Chip) (d : Nat) : Chip :=
  forEach (List.range 4) (fun c t => if part d (8 * c) 8 = 0 then t.set (Reg.IRQ_SPURIOUS_cnt c) 0 else t) s

/-- The per-core register of an odd core whose pair is locked (R514). -/
def lockedOdd (s : Chip) (a : Nat) : Bool :=
  0x41900100 ≤ a && a < 0x41900200 && !s.isHart ((a - 0x41900100) / 0x40)

/-- A word written to the cores' block (chapter 13). -/
def coreWrite (s : Chip) (r : Requester) (a d : Nat) : Chip :=
  let o := a % 0x100000
  if o < 0x80 then s.routeWrite (o / 4) d
  else if o < 0x90 then s.pendClear ((o - 0x80) / 4) d
  else if o = 0x90 then s.spuriousWrite d
  else if o = 0x94 then s.swiWrite d
  else if s.lockedOdd a then s
  else if 0x100 ≤ o ∧ o < 0x200 ∧ o % 0x40 = 0x38 then s.wdtWrite ((o - 0x100) / 0x40) d
  else if o = 0x300 then s.semReq r d
  else if o = 0x420 then s.injWrite d
  else s.genericWrite a d

/-- The unit on an enabled fabric port has a register at the address (R142). It takes the word; what else it does the image's
cells decide (log entry 9). -/
def fabricReg (s : Chip) (a : Nat) : Bool :=
  match fabricPort a with
  | some p =>
    match s.portDesc p with
    | some d => a % 0x1000 / 4 < d.words
    | none => false
  | none => false

/-- A word of a requester takes effect at a register. -/
def blockWrite (s : Chip) (r : Requester) (a d : Nat) : Chip :=
  let w := a / 0x100000
  if w = 0x400 then s.clusterWrite a d
  else if w = 0x410 then s.pwmWrite a d
  else if w = 0x411 then s.islWrite a d
  else if w = 0x412 then s.adcWrite a d
  else if w = 0x413 then s.posWrite a d
  else if w = 0x414 then s.safeWrite a d
  else if w = 0x415 then s.chmWrite a d
  else if w = 0x416 then (if a < 0x41640000 then s.canBlockWrite a d else s.porchWrite a d)
  else if w = 0x417 then (if a < 0x41710000 then s.ringBlockWrite a d else s.genericWrite a d)
  else if w = 0x418 then s.hwWrite r a d
  else if w = 0x419 then s.coreWrite r a d
  else if w = 0x41A then s.powerWrite a d
  else if w = 0x41B then s.cfgWrite a d
  else if s.fabricReg a then { s with fab := insertAt a d s.fab }
  else if (fabricPort a).isSome then s.hole a
  else s.gpioWrite a d

/-! ### Reaching a unit -/

/-- A word of a requester takes effect at a register. Where a lower-ranked requester's word has taken effect there earlier in this
tick, that one's value stands in the end, as if it had come after (R25, R28). -/
def landWrite (s : Chip) (r : Requester) (a d : Nat) : Chip :=
  let below := List.insertionSort (fun p q => reqRank p.req ≤ reqRank q.req)
    (s.bus.landed.filter fun p => p.addr = a && reqRank r < reqRank p.req)
  let t : Chip := { s with bus := { s.bus with landed := s.bus.landed ++ [⟨r, a, 4, d, 0⟩] } }
  let s := t.blockWrite r a d
  forEach (if keptBits a (2 ^ 32 - 1) = 0 then [] else below) (fun p t => t.blockWrite p.req a (keptBits a p.data)) s

/-- A requester's word arrives at a register: discarded, held for a unit reset, or taken. -/
def regWrite (s : Chip) (r : Requester) (a d : Nat) : Chip :=
  if s.rgnShut r a then s.discard r a true 1
  else
    let s := s.reachGate a
    match unitOf a with
    | some u =>
      if s.bus.resets.contains u then { s with bus := { s.bus with held := s.bus.held ++ [⟨r, a, 4, d, 0⟩] } }
      else s.landWrite r a d
    | none => s.landWrite r a d

/-- A unit reset ends: the held writes complete in order of arrival (R13). -/
def unitEnd (s : Chip) (u : UnitId) : Chip :=
  if !s.bus.resets.contains u then s
  else
    let mine := s.bus.held.filter fun p => unitOf p.addr = some u
    let rest := s.bus.held.filter fun p => !(unitOf p.addr = some u)
    let s := { s with bus := { s.bus with resets := s.bus.resets.filter fun x => x != u, held := rest } }
    forEach mine (fun p t => t.regWrite p.req p.addr p.data) s

end Chip

end Sys2Proof.Machine
end

