-- ==== Sys2Proof/Machine/ReadOps.lean ====
section
/-! DEFINITION. What a register reads as: fields that the block computes, windows, reads with an effect (R13, R524). -/

namespace Sys2Proof.Machine

namespace Chip

/-- PWM_Sn_STAT.pattern (Table 09-18). -/
def patternOf (s : Chip) (n : Nat) : Nat :=
  if s.bcmSlice n then 2
  else if s.threeLevel n then (if n < 3 then 3 else 4)
  else b2n (s.indep n)

/-- PWM_Sn_STAT.carrier. -/
def carrierKind (s : Chip) (n : Nat) : Nat :=
  match s.sliceOwner n with
  | some k => if s.leadSlice k == some n then 1 else 2
  | none => if (s.sl n).synced then 3 else 0

/-- The pair of region g runs in lockstep. -/
def pairLocked (s : Chip) (g : Nat) : Bool := s.locked g && !(s.region g).inReset

/-- A mask over the numbers below n that meet a test. -/
def maskOf (n : Nat) (p : Nat → Bool) : Nat := (List.range n).foldl (fun w i => if p i then w + 2 ^ i else w) 0

/-- The fields of a register that its block computes, with their present values. -/
def liveFields (s : Chip) (a : Nat) : List (Field × Nat) :=
  let w := a / 0x100000
  let o := a % 0x100000
  if w = 0x400 then
    let k := o / 0x10000 % 4
    let m := min 47 (s.get (Reg.CLE_CTL_snap_sec k))
    let e := s.engineOf k
    [(Reg.SEQ_STAT_bcm k, b2n ((s.topo k).type == 5)), (Reg.CLE_SNAP_S1_v k, lookupD 0 m (s.cleS e).snap1),
      (Reg.CLE_SNAP_S2_v k, lookupD 0 m (s.cleS e).snap2)]
  else if w = 0x410 then
    let n := o / 0x100
    let h := s.get Reg.PWM_RELOAD_HOLD_v
    if n < 16 then
      [(Reg.PWM_S_STAT_fine n, b2n ((s.sl n).taps != 0)), (Reg.PWM_S_STAT_shoot_now n, b2n (s.combination n != 0 || s.badPhase n)),
        (Reg.PWM_S_STAT_hold n, bitOf h n), (Reg.PWM_S_STAT_boot n, b2n (s.bootSlice n)),
        (Reg.PWM_S_STAT_pattern n, s.patternOf n), (Reg.PWM_S_STAT_carrier n, s.carrierKind n),
        (Reg.PWM_S_CNT_cnt n, s.carrierVal n), (Reg.PWM_S_CNT_half n, b2n (s.carrierDown n))]
    else [(Reg.PWM_HOLD_SET_v, h), (Reg.PWM_HOLD_CLR_v, h)]
  else if w = 0x411 then
    [(Reg.ISL_FAULT_window (o / 0x200), min 15 (s.clearsUsed (o / 0x200))),
     (Reg.ISL_SUMMARY_fault, maskOf 12 fun n => s.get (Reg.ISL_STAT_state n) == 4),
      (Reg.ISL_SUMMARY_ready, maskOf 12 fun n => s.get (Reg.ISL_STAT_state n) == 2 || s.get (Reg.ISL_STAT_state n) == 3)]
  else if w = 0x412 then
    if 0x100 ≤ o ∧ o < 0x180 then
      let n := (o - 0x100) / 8
      [(Reg.ADC_S_RES_fast n, b2n (s.now != 0 && s.on (Reg.ADC_S_CFG_en n) && !s.lowRate n))]
    else []
  else if w = 0x414 then
    if o < 0x100 then
      [(Reg.SAFE_STAT_split_b, b2n (s.region 1).split), (Reg.SAFE_STAT_split_a, b2n (s.region 0).split),
        (Reg.SAFE_STAT_regen_zero, b2n s.regenZero), (Reg.SAFE_STAT_vdc_none, b2n s.vdcAll.isEmpty), (Reg.SAFE_STAT_safe_ok_b, b2n (s.safeOk 1)),
        (Reg.SAFE_STAT_safe_ok_a, b2n (s.safeOk 0)), (Reg.SAFE_DIS_CTL_start, b2n s.disRuns),
        (Reg.SAFE_DIS_STAT_elapsed, match s.safe.disStart with | some t => min 65535 ((s.now - t) / 200000) | none => 0),
        (Reg.SAFE_LS_STAT_locked_b, b2n (s.pairLocked 1)), (Reg.SAFE_LS_STAT_locked_a, b2n (s.pairLocked 0))]
    else if o < 0x200 then
      let k := (o - 0x100) / 0x40
      [(Reg.SAFE_C_STAT_demand k, s.demand k), (Reg.SAFE_C_STAT_excl_hi k, b2n (s.excludedHigh k)),
        (Reg.SAFE_C_STAT_excl_lo k, b2n (s.excludedLow k)), (Reg.SAFE_C_STAT_pc_off k, b2n (!s.served k)),
        (Reg.SAFE_C_PC_sto k, s.get (Reg.SAFE_C_STAT_pc_sto k)), (Reg.SAFE_C_PC_ss1 k, s.get (Reg.SAFE_C_STAT_ss1 k))]
    else []
  else if w = 0x416 then
    (List.range 4).flatMap fun k =>
      [(Reg.PORCH_CMD_STAT_age k, s.cmdAge k), (Reg.PORCH_P_STAT_biterr k, (s.recentErrors k).length)]
  else if w = 0x419 then
    [(Reg.TIM_NOW_LO_lo, s.stamp), (Reg.CORE_STAT_locked, maskOf 2 fun g => s.pairLocked g),
      (Reg.CORE_STAT_wfi, maskOf 4 fun c => s.isHart c && (nth s.hart c).wfi),
      (Reg.CORE_STAT_run, maskOf 4 fun c => !(s.region (c / 2)).inReset)]
    ++ (List.range 4).map fun i => (Reg.IRQ_PEND_pend i, s.pendMask / 2 ^ (32 * i) % 2 ^ 32)
  else if w = 0x41A then
    [(Reg.CLK_STAT_core_b_gated, b2n (s.pairWaits 1)), (Reg.CLK_STAT_core_a_gated, b2n (s.pairWaits 0)),
      (Reg.CLK_STAT_aon_xtal, bitOf (lookupD 0 0x41A00804 s.pwr.acting) 1), (Reg.CLK_STAT_pll_lock, b2n s.pwr.locked)]
  else if w = 0x41C then
    [(Reg.GPIO_IN_v, s.gpioIn), (Reg.GPIO_SET_v, s.get Reg.GPIO_OUT_v), (Reg.GPIO_CLR_v, s.get Reg.GPIO_OUT_v)]
  else []

/-- The register word at an address with its computed fields. -/
def liveWord (s : Chip) (a : Nat) : Nat :=
  let live := s.liveFields a
  ((fieldsAt a).getD []).foldl (fun w f =>
    w + (match live.find? fun p => p.1.key = f.key with
      | some p => p.2 % 2 ^ f.width
      | none => s.get f) * 2 ^ f.lsb) 0

/-- A word of the retention log's window (R122). An entry that nothing has written since the Cellar reset reads 0 (log
entry 54). -/
def retentionWord (s : Chip) (a : Nat) : Nat :=
  match s.log.retention[(a - 0x41A00C00) / 16]? with
  | some e => leNat (((entryBytes e).drop (a % 16)).take 4)
  | none => 0

/-- IRQ_Cc_PENDw: the pending sources routed to hart c. -/
def pendWord (s : Chip) (c w : Nat) : Nat :=
  (s.pendFor c).foldl (fun m n => if n / 32 = w then m + 2 ^ (n % 32) else m) 0

/-- A register of the cores' block as a requester reads it. -/
def coreRead (s : Chip) (r : Requester) (a : Nat) : Chip × Nat :=
  let o := a % 0x100000
  if s.lockedOdd a then (s, 0)
  else if 0x100 ≤ o ∧ o < 0x200 ∧ o % 0x40 = 0 then
    let c := (o - 0x100) / 0x40
    let v := s.sumWord c
    (match r with | .hart h => if s.hartOf h = c then s.sumRead c else s | _ => s, v)
  else if 0x100 ≤ o ∧ o < 0x200 ∧ 0x10 ≤ o % 0x40 ∧ o % 0x40 < 0x20 then (s, s.pendWord ((o - 0x100) / 0x40) ((o % 0x40 - 0x10) / 4))
  else if o = 0x200 then (s.timLatch r, s.stamp)
  else if o = 0x204 then (s, lookupD 0 (reqCode r) s.irq.hiLatch)
  else if o = 0x304 then (s, s.semGot r)
  else if populated a then (s, s.liveWord a) else (s.hole a, 0)

/-- A word as a requester reads it from a register block. The answer of a fabric unit is a free value (log entry 9). -/
def blockRead (s : Chip) (r : Requester) (a : Nat) : Chip × Nat :=
  let w := a / 0x100000
  let o := a % 0x100000
  if w = 0x419 then s.coreRead r a
  else if w = 0x412 ∧ 0x8000 ≤ o ∧ o < 0x8800 then (s, s.rbGet ((o - 0x8000) / 0x200) (o % 0x200 / 4))
  else if w = 0x418 ∧ o = 0x1C then (s, s.casRes r)
  else if w = 0x418 ∧ o = 0x0C then (s, 0)
  else if w = 0x41A ∧ 0xC00 ≤ o ∧ o < 0xD00 then (s, s.retentionWord a)
  else if w = 0x41C ∧ s.fabricReg a then (s.useFree, s.freeVal % 2 ^ 32)
  else
    match (if w = 0x416 ∧ a < 0x41640000 then s.canWindow a else none) with
    | some v => (s, v)
    | none => if populated a then (s, s.liveWord a) else (s.hole a, 0)

/-- A requester's read arrives at a register: discarded, after the unit reset that it meets, or answered. -/
def regRead (s : Chip) (r : Requester) (a : Nat) : Chip × Nat :=
  if s.rgnShut r a then (s.discard r a false 1, 0)
  else
    let s := s.reachGate a
    let s := match unitOf a with
      | some u => s.unitEnd u
      | none => s
    s.blockRead r a

end Chip

end Sys2Proof.Machine
end

