-- ==== Sys2Proof/Machine/BusOps.lean ====
section
/-! DEFINITION. The bus between requesters and units (chapters 01, 13, 14): posted writes and their order (R33 to R39), what
fences, reads and releases wait for; a core's accesses (R512 to R524); the host port's words. -/

namespace Sys2Proof.Machine

/-- Bytes of the register block of the instance that holds an address; none for a block's own registers (log entry 53). -/
def instSize (a : Nat) : Option Nat :=
  let w := a / 0x100000
  let o := a % 0x100000
  if w = 0x400 then some (if o % 0x10000 / 0x2000 = 1 then 0x2000 else 0x1000)
  else if w = 0x410 ∧ o < 0x1000 then some 0x100
  else if w = 0x411 ∧ o < 0x1800 then some 0x200
  else if w = 0x412 then
    if (0x100 ≤ o ∧ o < 0x180) ∨ (0x210 ≤ o ∧ o < 0x270) ∨ (0x500 ≤ o ∧ o < 0x580) then some 8
    else if 0x1000 ≤ o ∧ o < 0x1800 then some 0x200
    else none
  else if w = 0x413 then some 0x100
  else if (w = 0x414 ∨ w = 0x415) ∧ 0x100 ≤ o ∧ o < 0x200 then some 0x40
  else if w = 0x415 ∧ 0x200 ≤ o ∧ o < 0x260 then some 0x10
  else if w = 0x416 ∨ w = 0x300 ∨ w = 0x41C then some 0x1000
  else if w = 0x417 ∨ w = 0x420 then some 0x10000
  else if w = 0x200 ∨ w = 0x201 then some 0x200000
  else none

/-- The unit that holds an address, as the first address of it, for the order of writes (R34, R35): a sequencer, an observer, an
engine, a field-control unit; a slice, an island, a converter, a sigma-delta input, a comparator, a cluster's part of the
converter block with its result banks, a position channel, a cluster's part of the safety block or of the Chimney, a leg's part
of it; a CAN controller, Porch, the ring, the twin, a fabric port, a page of the Hallway, a cluster's Larder; else a block's own
registers or a memory (log entry 53). -/
def unitBase (a : Nat) : Nat :=
  if 0x41208000 ≤ a ∧ a < 0x41208800 then 0x41201000 + (a - 0x41208000) / 0x200 * 0x200
  else
    match instSize a with
    | some n => a - a % n
    | none => a - a % 0x100000

/-- The core address that a posted write goes to. The host's writes keep their port address. -/
def Posted.target (p : Posted) : Nat :=
  if p.req = .host then
    match portTarget p.addr with
    | .buffer a | .flag a | .register a => a
    | .outside => 0
  else p.addr

/-- A submission queue's tail register. -/
def isTail (a : Nat) : Bool := 0x41800100 ≤ a && a < 0x41800180 && a % 0x10 == 4

/-- A write to the address takes effect only after every earlier write of its requester (R38, R39, R556). -/
def waitsAll (r : Requester) (a : Nat) : Bool :=
  (0x30040000 ≤ a && a < 0x30041000) || isTail a || (a == 0x4180000C && r = .host)

/-- A later write of the same requester that must follow an earlier one. -/
def mustFollow (later earlier : Posted) : Bool :=
  decide (later.req = earlier.req)
    && (unitBase later.target == unitBase earlier.target || waitsAll later.req later.target
      || (earlier.target == 0x4180000C && later.req = .host))

/-- The places of the posted writes that may take effect next, `held` being the writes that unit resets hold. -/
def eligible (held q : List Posted) : List Nat :=
  (List.range q.length).filter fun i =>
    match q[i]? with
    | some p =>
      ((q.take i).all fun e => !mustFollow p e) && !(waitsAll p.req p.target && held.any fun e => decide (e.req = p.req))
    | none => false

/-- The resource that a write to an address is arbitrated for (R25): a Larder's port, a bank of the system SRAM (each
mebibyte is one, log entry 53), else the word: a register, a Hallway word, an ownership flag. -/
def resource (a : Nat) : Nat :=
  if 0x42000000 ≤ a then a / 0x10000 * 0x10000
  else if 0x20000000 ≤ a ∧ a < 0x20200000 then a / 0x100000 * 0x100000
  else a / 4 * 4

/-- One write goes before another at their resource: having lost 8 times in a row before not having, after the safety logic
alone (R26); else by rank (R25), and of one rank the earlier. The number is the write's place in the queue. -/
def before (p q : Posted × Nat) : Bool :=
  let key (x : Posted × Nat) : Nat :=
    (if x.1.req = .safety then 0 else if 8 ≤ x.1.lost then 100 else 200) + reqRank x.1.req
  decide (key p < key q) || (key p == key q && decide (p.2 < q.2))

/-- An address of memory for the FENCE sets (R526). -/
def isMemory (a : Nat) : Bool := a < 0x40000000 || 0x42000000 ≤ a

/-- Bytes of a port range up to the end of its piece: a buffer, else a word. -/
def pieceRoom (a : Nat) : Nat := if a < 0x40000 then 256 - a % 256 else 4 - a % 4

/-- A port range cut into pieces: (port address, bytes). -/
def piecesFrom : Nat → Nat → List Byte → List (Nat × List Byte)
  | 0, _, _ => []
  | _, _, [] => []
  | f + 1, a, l =>
    let p := l.take (pieceRoom a)
    (a, p) :: piecesFrom f (a + p.length) (l.drop p.length)

def pieces (a : Nat) (l : List Byte) : List (Nat × List Byte) := piecesFrom l.length a l

/-- The memory key of a byte address of a core of region g. -/
def coreKey (g a : Nat) : Nat := if a < 0x80000 then Chip.tcmKey g a else a

namespace Chip

/-! ### Posted writes -/

/-- A flag word is written by a core: the owner is bit 0 of its first byte, so a store that leaves that byte alone changes
nothing. -/
def flagStore (s : Chip) (r : Requester) (a n d : Nat) : Chip :=
  if a % 4 = 0 ∧ 0 < n then s.flagWrite r ((a - 0x30040000) / 4) d else s

/-- A write of a requester on the cores' side takes effect. -/
def coreEffect (s : Chip) (r : Requester) (a n d : Nat) : Chip :=
  if a < 0x80000 then
    match r with
    | .hart c => s.storeWord r (tcmKey (c.val / 2) a) a (leBytes n d)
    | _ => s
  else if 0x30000000 ≤ a ∧ a < 0x30040000 then s.setBytes a (leBytes n d)
  else if 0x30040000 ≤ a ∧ a < 0x30041000 then s.flagStore r a n d
  else if 0x42000000 ≤ a then (s.reachGate a).ldrStore a (leBytes n d)
  else if 0x40000000 ≤ a then s.regWrite r a d
  else s.storeRun r a (leBytes n d)

/-- A write of the host takes effect (R549 to R553). -/
def hostEffect (s : Chip) (p n d : Nat) : Chip :=
  match portTarget p with
  | .outside => s.hostDenied p
  | .buffer a =>
    let i := (a - 0x30000000) / 256
    if s.bufOwner i = 1 then s.ownViolation i else s.setBytes a (leBytes n d)
  | .flag a => if a % 4 = 0 ∧ n = 4 then s.flagWrite .host ((a - 0x30040000) / 4) d else s.hostDenied p
  | .register a => if a % 4 = 0 && n = 4 && s.hostMay a then s.regWrite .host a d else s.hostDenied p

/-- A posted write takes effect. -/
def effect (s : Chip) (p : Posted) : Chip :=
  if p.req = .host then s.hostEffect p.addr p.size p.data else s.coreEffect p.req p.addr p.size p.data

/-- Take the posted write at place i out and let it take effect. -/
def effectAt (s : Chip) (i : Nat) : Chip :=
  match s.bus.posted[i]? with
  | some p => { s with bus := { s.bus with posted := s.bus.posted.eraseIdx i } }.effect p
  | none => s

/-- One of several writes takes effect; which of them is open where there is more than one (R35, log entry 6). -/
def effectOf (s : Chip) : List Nat → Chip
  | [] => s
  | [i] => s.effectAt i
  | l => s.useFree.effectAt (l.getD (s.freeVal % l.length) 0)

/-- The last place of a write that a test selects. -/
def lastPlace (q : List Posted) (need : Posted → Bool) : Option Nat :=
  ((List.range q.length).filter fun i => match q[i]? with | some p => need p | none => false).getLast?

/-- Writes take effect until none that a test selects is left: each time one that may, among those up to the last selected
and, with a requester given, of that requester. -/
def drainN (r : Option Requester) (need : Posted → Bool) : Nat → Chip → Chip
  | 0, s => s
  | n + 1, s =>
    match lastPlace s.bus.posted need with
    | none => s
    | some j =>
      let may := (eligible s.bus.held s.bus.posted).filter fun i => i ≤ j && match r, s.bus.posted[i]? with
        | some x, some p => decide (p.req = x)
        | _, _ => true
      drainN r need n (s.effectOf may)

/-- The unit resets end that hold a selected write of a requester, and what they hold completes (R13). -/
def endHolds (r : Requester) (need : Nat → Bool) : Nat → Chip → Chip
  | 0, s => s
  | n + 1, s =>
    match s.bus.held.find? fun p => decide (p.req = r) && need p.addr with
    | none => s
    | some p =>
      match unitOf p.addr with
      | some u => endHolds r need n (s.unitEnd u)
      | none => s

/-- Every selected write of a requester has taken effect: those on their way, those that a unit reset holds, and those that
waited for the held ones. -/
def drain (s : Chip) (r : Requester) (need : Nat → Bool) : Chip :=
  let sel (p : Posted) : Bool := decide (p.req = r) && need p.target
  let s := drainN (some r) sel s.bus.posted.length s
  let s := endHolds r (fun a => need a || (s.bus.posted.any sel)) s.bus.held.length s
  let s := drainN (some r) sel s.bus.posted.length s
  endHolds r need s.bus.held.length s

/-- Every write of a requester has taken effect. -/
def drainAll (s : Chip) (r : Requester) : Chip := s.drain r fun _ => true

/-- Every write of a requester to the unit of an address has taken effect (R36). -/
def drainUnit (s : Chip) (r : Requester) (a : Nat) : Chip :=
  s.drain r fun x => unitBase x == unitBase a || (x == 0x4180000C && r = .host)

/-- The earlier posted writes of a requester that its word for the register at a must follow take effect; what a unit reset holds
stays ahead of it in the unit's own order (R34, R13). -/
def drainFor (s : Chip) (r : Requester) (a : Nat) : Chip :=
  if waitsAll r a || (r = .host && s.bus.posted.any fun p => decide (p.req = .host) && p.target == 0x4180000C) then s.drainAll r
  else drainN (some r) (fun p => decide (p.req = r) && unitBase p.target == unitBase a) s.bus.posted.length s

/-- A word of a requester taken at a register at once, after the earlier writes that it must follow; no register stands at an
address off the map. -/
def writeNow (s : Chip) (r : Requester) (a d : Nat) : Chip :=
  if !s.reqRuns r || !listedBlock a || a % 4 != 0 then s
  else
    let s := s.drainFor r a
    if r = .host && !s.hostMay a then s.hostDenied (a - 0x3F000000) else s.regWrite r a d

/-- The writes that reach their resources in a tick: those that lost there before, and of the others that may take effect
the ones that a free value names, but at least one (log entry 6). -/
def reaching (s : Chip) : List Nat :=
  let may := eligible s.bus.held s.bus.posted
  let go := may.filter fun i => hasBit s.freeVal i || (s.bus.posted[i]?.map (·.lost)).getD 0 != 0
  if go.isEmpty then may.take 1 else go

/-- Those of the writes that reach their resources that win the arbitration there (R25, R26). -/
def winners (s : Chip) (go : List Nat) : List Nat :=
  go.filter fun i => go.all fun j =>
    match s.bus.posted[i]?, s.bus.posted[j]? with
    | some p, some q => i = j || resource p.target != resource q.target || before (p, i) (q, j)
    | _, _ => true

/-- A tick of the bus: which waiting writes reach their resources is open (log entry 6); at each resource the first in the
order of R25 and R26 takes effect, and the others wait on, having lost once more. Effects on different resources come about in
the order of Table 01-10. -/
def busTick (s : Chip) : Chip :=
  if (eligible s.bus.held s.bus.posted).isEmpty then s
  else if s.bus.posted.length = 1 then s.effectAt 0
  else
    let go := s.reaching
    let win := s.winners go
    let done := List.insertionSort (fun p q => reqRank p.req ≤ reqRank q.req) (win.filterMap fun i => s.bus.posted[i]?)
    let rest := (List.range s.bus.posted.length).filterMap fun i =>
      if win.contains i then none
      else if go.contains i then s.bus.posted[i]?.map fun p => { p with lost := p.lost + 1 }
      else s.bus.posted[i]?
    forEach done (fun p t => t.effect p) { s.useFree with bus := { s.bus with posted := rest } }

/-- A write is posted. -/
def post (s : Chip) (r : Requester) (a n d : Nat) : Chip :=
  { s with bus := { s.bus with posted := s.bus.posted ++ [⟨r, a, n, d % 2 ^ (8 * n), 0⟩] } }

/-! ### Cores -/

/-- A trap of hart c: cause and value (the privileged specification that R510 names). -/
def trap (s : Chip) (c cause tval : Nat) : Chip :=
  s.modHart c fun h => { h with
    mepc := h.pc, mcause := cause, mtval := tval, mpie := h.mie, mie := false, mpp := h.machine, machine := true,
    pc := h.mtvec / 4 * 4, wfi := false }

/-- Ones at the low end of a PMP address. -/
def lowOnes : Nat → Nat → Nat
  | 0, _ => 0
  | f + 1, v => if v % 2 = 1 then 1 + lowOnes f (v / 2) else 0

/-- PMP entry i of a hart matches the word at an address (R519). -/
def pmpHit (h : HartS) (i a : Nat) : Bool :=
  let v (j : Nat) : Nat := lookupD 0 j h.pmpAddr
  let w := a / 4
  match part (lookupD 0 i h.pmpCfg) 3 2 with
  | 0 => false
  | 1 => (if i = 0 then 0 else v (i - 1)) ≤ w && w < v i
  | 2 => w == v i
  | _ =>
    let k := lowOnes 32 (v i) + 1
    w / 2 ^ k == v i / 2 ^ k

/-- The PMP allows an access: permission bit 0 read, 1 write, 2 execute (R519, R520). -/
def pmpOk (h : HartS) (a perm : Nat) : Bool :=
  match (List.range 16).find? fun i => pmpHit h i a with
  | none => h.machine
  | some i =>
    let c := lookupD 0 i h.pmpCfg
    hasBit c perm || (h.machine && !hasBit c 7)

/-- Loads of Table 13-3. -/
def loadable (a : Nat) : Bool :=
  a < 0x80000 || (0x10000000 ≤ a && a < 0x10810000) || (0x20000000 ≤ a && a < 0x20200000)
    || (0x30000000 ≤ a && a < 0x30041000) || listedBlock a || (0x42000000 ≤ a && a < 0x42040000)

/-- Stores of Table 13-3. -/
def storable (a : Nat) : Bool := loadable a && !(0x10000000 ≤ a && a < 0x10810000)

/-- Fetches of Table 13-3. -/
def fetchable13 (a : Nat) : Bool :=
  a < 0x40000 || (0x10000000 ≤ a && a < 0x10800000) || (0x20000000 ≤ a && a < 0x20200000)

/-- A register block takes whole words only (R513). -/
def sizeOk (a n : Nat) : Bool := !(0x40000000 ≤ a && a < 0x42000000) || n == 4

/-- A loaded value as it stands in the register. -/
def extend (n : Nat) (uns : Bool) (v : Nat) : Nat := if uns then v else unsgn 32 (sgn (8 * n) v)

/-- An integer or float register of hart c takes a value; x0 takes none. -/
def putReg (s : Chip) (c : Nat) (fp : Bool) (rd v : Nat) : Chip :=
  if fp then s.modHart c fun h => { h with fregs := putAt 0 rd v h.fregs }
  else if rd = 0 then s
  else s.modHart c fun h => { h with xregs := putAt 0 rd v h.xregs }

/-- The data of a core's load of n bytes; none where the read failed (Table 13-6). `e` bits of the word are wrong beside
those the state holds. -/
def loadData (s : Chip) (c a n e : Nat) : Chip × Option Nat :=
  if 0x40000000 ≤ a ∧ a < 0x42000000 then
    let (s, v) := s.regRead (.hart (Fin.ofNat 4 c)) a
    (s, some v)
  else
    let key := coreKey (c / 2) a
    let (s, bad) := (s.reachGate a).eccRead key a (c + 1) false e
    (s, if bad then none else some (s.load key n))

/-- A core load (R512, R513, R517 to R522). -/
def coreLoad (s : Chip) (c n : Nat) (uns fp : Bool) (rd a e : Nat) : Chip :=
  if !s.coreRuns c then s
  else if a % n != 0 then s.trap c 4 a
  else if !loadable a || !sizeOk a n || !pmpOk (nth s.hart c) a 0 then s.trap c 5 a
  else
    match (s.drainUnit (.hart (Fin.ofNat 4 c)) a).loadData c a n e with
    | (t, some v) => (t.putReg c fp rd (extend n uns v)).retire c
    | (t, none) => if a < 0x80000 then t else t.trap c 5 a

/-- A core store (R512, R513, R517 to R520): posted. -/
def coreStore (s : Chip) (c n a d : Nat) : Chip :=
  if !s.coreRuns c then s
  else if a % n != 0 then s.trap c 6 a
  else if !storable a || !sizeOk a n || !pmpOk (nth s.hart c) a 1 then s.trap c 7 a
  else (s.post (.hart (Fin.ofNat 4 c)) a n d).retire c

/-- The line of the pair's code-flash buffer holds an address. -/
def lineHit (s : Chip) (g a : Nat) : Bool := nth s.memS.lines g == some (a / 32)

/-- A parcel is read for a fetch: in the line buffer without its check bits, else from its memory (Table 13-6). -/
def fetchParcel (s : Chip) (c a e : Nat) : Chip × Bool :=
  let g := c / 2
  let flash := 0x10000000 ≤ a && a < 0x10800000
  if flash && s.lineHit g a then (s, false)
  else
    let (s, bad) := s.eccRead (coreKey g a) a (c + 1) true e
    (if flash && !bad then { s with memS := { s.memS with lines := updNth (fun _ => some (a / 32)) g s.memS.lines } } else s, bad)

/-- A fetch that met an uncorrectable word. In code flash it faults and resets the region; a TCM has reset it already. -/
def fetchFail (s : Chip) (c a : Nat) : Chip :=
  if 0x10000000 ≤ a ∧ a < 0x10800000 then (s.trap c 1 a).halt (c / 2) 0x0912 c a
  else if a < 0x80000 then s
  else s.trap c 1 a

/-- The instruction at an address: two bytes, or four where its low bits are 11. -/
def instrAt (s : Chip) (g a : Nat) : Nat :=
  let lo := s.load (coreKey g a) 2
  if lo % 4 = 3 then lo + 65536 * s.load (coreKey g (a + 2)) 2 else lo

/-- An instruction fetch (R516, R519 to R522); a hart that waited in WFI waits no longer. Its second parcel,
where it has one in another protected unit, is checked
with what the state holds. -/
def fetchInstr (s : Chip) (c a e : Nat) : Chip :=
  let bad (x : Nat) : Bool := !fetchable13 x || !pmpOk (nth s.hart c) x 2
  if !s.coreUp c then s
  else
    let s := s.modHart c fun h => { h with pc := a, wfi := false }
    if bad a then s.trap c 1 a
    else
      match s.fetchParcel c a e with
      | (t, true) => t.fetchFail c a
      | (t, false) =>
        let v := t.instrAt (c / 2) a
        let deliver (u : Chip) : Chip := u.modHart c fun h => { h with fetchQ := [(a, v)] }
        if v % 4 != 3 || (a + 2) / 4 = a / 4 then deliver t
        else if bad (a + 2) then t.trap c 1 (a + 2)
        else
          match t.fetchParcel c (a + 2) 0 with
          | (u, true) => u.fetchFail c (a + 2)
          | (u, false) => deliver u

/-- A FENCE with a predecessor set (R37, Table 13-7): with I or O among the predecessors every earlier write of the core has
taken effect when it completes. -/
def coreFence (s : Chip) (c : Nat) (p : FenceSet) : Chip :=
  let r : Requester := .hart (Fin.ofNat 4 c)
  if !s.coreRuns c then s
  else
    (if p.tso then s.drain r isMemory
    else if p.o || p.i then s.drainAll r
    else if p.w then s.drain r isMemory
    else s).retire c

/-- FENCE.I (Table 13-7): the hart's writes to ITCM and system SRAM are in effect for later fetches. -/
def fenceInstr (s : Chip) (c : Nat) : Chip :=
  if !s.coreRuns c then s
  else
    let s := s.drain (.hart (Fin.ofNat 4 c)) fun a => a < 0x40000000
    let s := (s.modHart c fun h => { h with fetchQ := [] }).retire c
    { s with memS := { s.memS with lines := updNth (fun _ => none) (c / 2) s.memS.lines } }

/-! ### The host port -/

/-- The port is in 8D-8D-8D. -/
def port8d (s : Chip) : Bool := s.on Reg.HW_STAT_mode8d

/-- The bytes of a WRITE are accepted, or discarded whole without room (R547); parts outside the map are discarded (R549). -/
def hostWrite (s : Chip) (a : Nat) (l : List Byte) : Chip :=
  if !s.port8d then s.portProto 0x12 false
  else if 4096 < s.portHeld + l.length then
    ((s.modHw fun h => { h with err := true }).put Reg.HW_FLAGS_overrun true).note 0x0A13 0 l.length
  else
    let ps := pieces a l
    let s := match ps.find? fun p => portTarget p.1 = .outside with
      | some p => s.hostDenied p.1
      | none => s
    forEach (ps.filter fun p => portTarget p.1 != .outside) (fun p t => t.post .host p.1 p.2.length (leNat p.2)) s

/-- PORT_LATE (R548). -/
def portLate (s : Chip) (p : Nat) : Chip :=
  (s.modHw fun h => { h with late := true }).firstNote Reg.HW_FLAGS_late 0x0A16 0 p

/-- One piece of a READ: the module and its bytes; `late`: a register word that has not arrived. The second result says
that the piece lies outside the map. -/
def hostPiece (s : Chip) (p n : Nat) (late : Bool) : Chip × List Byte × Bool :=
  match portTarget p with
  | .outside => (s, List.replicate n 0, true)
  | .buffer a => let s := s.drainUnit .host a; (s, s.bytes a n, false)
  | .flag a => let s := s.drainUnit .host a; (s, s.bytes a n, false)
  | .register a =>
    if a % 4 != 0 || n != 4 then (s, List.replicate n 0, true)
    else
      let s := if a = 0x4180000C then s.drainAll .host else s.drainUnit .host a
      let (s, v) := s.regRead .host a
      if late then (s.portLate p, List.replicate 4 0, false) else (s, leBytes 4 v, false)

/-- A READ of n bytes (R548, R549); `late`: the words, counted from the first, that have not arrived. -/
def hostRead (s : Chip) (a n : Nat) (late : List Nat) : Chip :=
  if !s.port8d then s.portProto 0xEE false
  else
    let ps := pieces a (List.replicate n 0)
    let (s, l, out) := ps.foldl (fun (acc : Chip × List Byte × Option Nat) p =>
      let (t, b, o) := acc.1.hostPiece p.1 p.2.length (late.contains ((p.1 - a) / 4))
      (t, acc.2.1 ++ b, if o && acc.2.2.isNone then some p.1 else acc.2.2)) (s, [], none)
    let s := match out with
      | some p => s.hostDenied p
      | none => s
    s.portOut l

/-- A write to HW_FENCE by the host: every earlier host write has taken effect (R38). -/
def hostFence (s : Chip) : Chip := s.drainAll .host

end Chip

end Sys2Proof.Machine
end

