-- ==== Sys2Proof/Machine/Bus.lean ====
section
/-! DEFINITION. The commands of registers, units, fences and cores' accesses (chapters 01, 13), and the fault log's writes. -/

namespace Sys2Proof.Machine

open Chip

/-- REGISTER_WRITE (R6, R42, R13): a word of a requester takes effect at the register at an address. -/
def execRegisterWrite (r : Requester) (a d : Word) (s : State) : Out :=
  s.act fun c => c.writeNow r a.toNat d.toNat

/-- UNIT_RESET (R13, R14). -/
def execUnitReset (u : UnitId) (s : State) : Out := s.act fun c => c.unitAsk u

/-- UNIT_RESET_END (R13). -/
def execUnitResetEnd (u : UnitId) (s : State) : Out := s.act fun c => c.unitEnd u

/-- ISLAND_UNIT_RESET (R13, R14, R384). -/
def execIslandUnitReset (n : Fin 12) (s : State) : Out := s.act fun c => c.unitAsk (.isl n)

/-- CONFIG_READBACK (R12): the checker of a region has read back its cells; `bad` is the first that differs. -/
def execConfigReadback (g : Fin 2) (bad : Option (Fin 4096)) (s : State) : Out :=
  s.act fun c =>
    match bad with
    | some x => if (c.region g).inReset then c else c.halt g 0x0E33 0 x
    | none => c

/-- FENCE_INSTRUCTION (R37, R527). -/
def execFenceInstruction (k : Fin 4) (pred : FenceSet) (s : State) : Out := s.act fun c => c.coreFence k pred

/-- FENCE_I (R527). -/
def execFenceI (k : Fin 4) (s : State) : Out := s.act fun c => c.fenceInstr k

/-- FLAG_RELEASE (R39, R552, R553). -/
def execFlagRelease (r : Requester) (buf : Fin 1024) (d : Word) (s : State) : Out :=
  s.act fun c => if c.reqRuns r then (c.drainAll r).flagWrite r buf d.toNat else c

/-- LOG_ENTRY_FLASH_WRITE (R50, R671, R502): the oldest entry that waits is written, or its write is held. -/
def execLogEntryFlashWrite (s : State) : Out :=
  s.act fun c =>
    match c.log.queue with
    | [] => c
    | _ =>
      let c := if c.writeWaits .log then c else c.submitWrite .log
      if !c.writing .log then c
      else
        match c.log.queue with
        | [] => c.dropWrite .log
        | e :: q =>
          let a := 0x10800000 + 16 * c.log.flashNext
          let c := (c.setBytes a (entryBytes e)).eccFresh a 16
          { c.dropWrite .log with log := { c.log with
            queue := q, flashNext := (c.log.flashNext + 1) % 512, flashUsed := min 512 (c.log.flashUsed + 1) } }

/-- CORE_LOAD (R512, R513, R517 to R524): hart k loads 1, 2 or 4 bytes into an integer or a float register; `e` bits of the
word are wrong beside those the state holds. -/
def execCoreLoad (k : Fin 4) (size : Fin 3) (uns fp : Bool) (rd : Fin 32) (a : Word) (e : Fin 3) (s : State) : Out :=
  s.act fun c => c.coreLoad k (2 ^ size.val) uns fp rd a.toNat e

/-- CORE_STORE (R33, R512, R513, R517 to R520). -/
def execCoreStore (k : Fin 4) (size : Fin 3) (a d : Word) (s : State) : Out :=
  s.act fun c => c.coreStore k (2 ^ size.val) a.toNat d.toNat

/-- INSTRUCTION_FETCH (R516 to R522): at an address whose bit 0 is 0. -/
def execInstructionFetch (k : Fin 4) (a : Word) (e : Fin 3) (s : State) : Out :=
  s.act fun c => c.fetchInstr k (a.toNat / 2 * 2) e

end Sys2Proof.Machine
end

