-- ==== Sys2Proof/Machine/Can.lean ====
section
/-! DEFINITION. The commands of the CAN controllers (chapter 15). -/

namespace Sys2Proof.Machine

open Chip

/-- CAN_MODE (R573). -/
def execCanMode (n : Fin 4) (m : Fin 4) (s : State) : Out := s.act fun c => c.rowWrite (0x41600004 + 0x1000 * n.val) m fun c => c.canModeSet n m

/-- CAN_INTEGRATED (R573): eleven recessive bits after leaving INIT. -/
def execCanIntegrated (n : Fin 4) (s : State) : Out :=
  s.act fun c =>
    if c.on (Reg.CAN_STAT_integrating n) && !c.canStopped then
      ((c.put (Reg.CAN_STAT_integrating n) false).modCan n fun x => { x with busFree := true }).porchLoad n
    else c

/-- FRAME_RECEIVE (R576): frame f, its SOF `ago` ticks before. -/
def execFrameReceive (n : Fin 4) (f : CanFrame) (ago : Fin 1048576) (s : State) : Out :=
  s.actIf (frameWf f) fun c => c.canRx n f ago

/-- RXF_POP (R577). -/
def execRxfPop (n : Fin 4) (s : State) : Out := s.act fun c => c.rowWrite (0x41600044 + 0x1000 * n.val) 1 fun c => c.rxPop n

/-- HP_TAKE (R578). -/
def execHpTake (n : Fin 4) (s : State) : Out := s.act fun c => c.rowWrite (0x4160004C + 0x1000 * n.val) 1 fun c => c.hpTake n

/-- TX_REQUEST (R579, R580): a word with req written to CANn_TXBb_CMD; `idle`: the bus is free. -/
def execTxRequest (n : Fin 4) (b : Fin 3) (d : Word) (idle : Bool) (s : State) : Out :=
  s.act fun c =>
    let c := if idle && c.canJoined n then c.modCan n fun x => { x with busFree := true } else c
    c.rowWrite (0x41600650 + 0x1000 * n.val + 0x80 * b.val) (Nat.lor d.toNat 1) fun c => c.txCmd n b (Nat.lor d.toNat 1)

/-- TX_ABORT (R582). -/
def execTxAbort (n : Fin 4) (b : Fin 3) (s : State) : Out :=
  s.act fun c =>
    let d := 2 + 4 * c.get (Reg.CAN_TXB_CMD_once n b) + 8 * c.get (Reg.CAN_TXB_CMD_sa_ins n b)
    c.rowWrite (0x41600650 + 0x1000 * n.val + 0x80 * b.val) d fun c => c.txCmd n b d

/-- TX_END (R581): the frame in transmission ends. -/
def execTxEnd (n : Fin 4) (e : TxEnd) (s : State) : Out := s.act fun c => c.txEnd n e

/-- BUS_ERROR (R583). -/
def execBusError (n : Fin 4) (e : CanError) (s : State) : Out := s.act fun c => c.canError n e

/-- BO_REC (R583). -/
def execBoRec (n : Fin 4) (s : State) : Out :=
  s.act fun c => c.rowWrite (0x41600004 + 0x1000 * n.val) (256 + c.canMode n) fun c =>
    if c.get (Reg.CAN_STAT_conf n) = 2 then c.modCan n fun x => { x with recov := true } else c

/-- BUS_OFF_END (R583, Table 15-10): 128 occurrences of eleven recessive bits counted. -/
def execBusOffEnd (n : Fin 4) (s : State) : Out :=
  s.act fun c =>
    if c.get (Reg.CAN_STAT_conf n) = 2 && (c.canS n).recov then
      let c := c.sets [(Reg.CAN_STAT_conf n, 0), (Reg.CAN_STAT_tec n, 0), (Reg.CAN_STAT_rec n, 0)]
      (c.modCan n fun x => { x with recov := false, busFree := true }).claimPref n
    else c

end Sys2Proof.Machine
end

