-- ==== Sys2Proof/Machine/Cle.lean ====
section
/-! DEFINITION. The commands of the control law engine (chapter 08). -/

namespace Sys2Proof.Machine

open Chip

/-- CLE_CLEAR (R311). -/
def execCleClear (k : Fin 4) (s : State) : Out := s.act fun c => c.rowWrite (0x40002000 + 0x10000 * k.val) (2 ^ 31) fun c => c.cleClr k

/-- The offset of a coefficient or limit register from the engine base (Tables 08-10 and 08-12). -/
def coefOff : CoefReg → Nat
  | .coef m c => 0x100 + 0x20 * m.val + 4 * c.val
  | .limHi n => 0x44 + 0x10 * n.val
  | .limLo n => 0x48 + 0x10 * n.val

/-- COEF_WRITE (R319 to R323). -/
def execCoefWrite (k : Fin 4) (r : CoefReg) (d : Word) (s : State) : Out :=
  s.act fun c => c.rowWrite (0x40002000 + 0x10000 * k.val + coefOff r) d.toNat fun c => c.coefSet k (coefOff r) d.toNat

/-- LIST_WRITE (R307, R323). -/
def execListWrite (k : Fin 4) (n : Fin 6) (d : Word) (s : State) : Out :=
  s.act fun c => c.rowWrite (0x40002040 + 0x10000 * k.val + 0x10 * n.val) d.toNat fun c => c.listSet k n d.toNat

/-- FOLLOW_ERR (R317): the timer has reached fe_ms. -/
def execFollowErr (k : Fin 4) (s : State) : Out :=
  s.act fun c =>
    let e := c.engineOf k
    let lim := c.get (Reg.CLE_CTL_fe_ms e)
    if (c.clState k = 2 || c.clState k = 3) && lim != 0 && !F32.isZero (c.get (Reg.CLE_FE_LIM_v e))
        && ms lim ≤ (c.cleS e).feTicks then
      ((c.feZero e).put (Reg.CLE_FLAGS_fe e) true).faultCl 0x0615 2 k k (c.cleS e).feErr
    else c

/-- CLE_CRC_UPDATE (R322, R325): a background read-through begun after the latest write ends; `e` is an error that it
found, at a word offset, uncorrectable where true. -/
def execCleCrcUpdate (k : Fin 4) (e : Option (Fin 1792 × Bool)) (s : State) : Out :=
  s.act fun c =>
    let c := match e with
      | some (off, true) => c.engineFault k off
      | some (off, false) => (c.put (Reg.CLE_FLAGS_ecc_cor k) true).noteCl 0x0614 k off
      | none => c
    (c.set (Reg.CLE_CRC_v k) (crc32 (c.cleBytes k))).put (Reg.CLE_STAT_crc_cur k) true

end Sys2Proof.Machine
end

