-- ==== Sys2Proof/Machine/Cluster.lean ====
section
/-! DEFINITION. The commands of the clusters: requests, passes, catch, Larder, duplex (chapter 05). -/

namespace Sys2Proof.Machine

open Chip

/-- RUN_REQUEST (R172). -/
def execRunRequest (k : Fin 4) (s : State) : Out := s.act fun c => c.rowWrite (0x40000000 + 0x10000 * k.val) 1 fun c => c.request k 1

/-- STOP_REQUEST (R172). -/
def execStopRequest (k : Fin 4) (s : State) : Out := s.act fun c => c.rowWrite (0x40000000 + 0x10000 * k.val) 2 fun c => c.request k 2

/-- HALT_REQUEST (R172). -/
def execHaltRequest (k : Fin 4) (s : State) : Out := s.act fun c => c.rowWrite (0x40000000 + 0x10000 * k.val) 3 fun c => c.request k 3

/-- RESET_REQUEST (R15). -/
def execResetRequest (k : Fin 4) (s : State) : Out := s.act fun c => c.rowWrite (0x40000000 + 0x10000 * k.val) 4 fun c => c.request k 4

/-- CLEAR_REQUEST (R172). -/
def execClearRequest (k : Fin 4) (s : State) : Out := s.act fun c => c.rowWrite (0x40000000 + 0x10000 * k.val) 5 fun c => c.request k 5

/-- DISCHARGE_REQUEST (R206). -/
def execDischargeRequest (k : Fin 4) (s : State) : Out := s.act fun c => c.rowWrite (0x40000000 + 0x10000 * k.val) 6 fun c => c.request k 6

/-- DUPLEX_REQUEST (R212). -/
def execDuplexRequest (k : Fin 4) (s : State) : Out := s.act fun c => c.rowWrite (0x40000000 + 0x10000 * k.val) 7 fun c => c.request k 7

/-- SPLIT_REQUEST (R172). -/
def execSplitRequest (k : Fin 4) (s : State) : Out := s.act fun c => c.rowWrite (0x40000000 + 0x10000 * k.val) 8 fun c => c.request k 8

/-- REQUEST_UNKNOWN (R173): a code that Table 05-2 does not list; code 0 is no request. -/
def execRequestUnknown (k : Fin 4) (code : Fin 16) (s : State) : Out :=
  s.act fun c =>
    if 1 ≤ code.val && code.val ≤ 8 then c else c.rowWrite (0x40000000 + 0x10000 * k.val) code.val fun c => c.request k code

/-- TRIGGER_MATCH (R344): the carrier value meets trigger j in a half that its dir selects; the event reaches the
cluster's sequencer and the scan list. -/
def execTriggerMatch (n : Fin 16) (j : Fin 4) (down : Bool) (s : State) : Out :=
  s.act fun c =>
    let (dir, val) := (c.sl n).trig.getD j (3, 0)
    let half := (if down then dir == 1 || dir == 2 else dir == 0 || dir == 2)
      && c.carrierDown n == down && c.carrierVal n == min val (c.perOf n)
    if !c.on (Reg.PWM_S_STAT_running n) || !half then c
    else
      let c := c.setBitOf (Reg.PWM_S_FLAGS_trig n) j
      let c := match c.sliceOwner n with
        | some k => if c.leadSlice k == some n.val then c.triggerPass k j val down else c
        | none => c
      if c.on Reg.ADC_SCAN_CTL_trig_en && c.get Reg.ADC_SCAN_CTL_trig_slice = n.val && c.get Reg.ADC_SCAN_CTL_trig_cmp = j.val
      then c.scanStart else c

/-- SAR_RESULT_WRITE (R229, R672): the voltages that the slots of the pass sampled and that of the reference, in microvolts, are
converted and written, and with isrc 0 the loop runs. -/
def execSarResultWrite (k : Fin 4) (v : Sampled (List (Fin 28 × Fin 4194304))) (u : Upset) (s : State) : Out :=
  s.act fun c =>
    let c := c.sampleNow k
    let b := (c.measS k).base
    let mine := ((c.measS k).waiting.filter fun p => p.2 = b).map (·.1)
    let sar := mine.filter fun i => c.slotPath k i = 0
    if !(c.cluster k).inPass && sar.isEmpty then c
    else
      let code (i : Nat) : Nat := match v.vin.find? fun p => p.1.val = i with
        | some p => sarCode p.2 v.vref
        | none => 0
      let c := if sar.isEmpty then c else c.refShown ((c.cluster k).trigTick + 1) v.vref
      let c := forEach sar (fun i t => t.sarDeliver k i b (code i)) c
      let dead := mine.filter fun i => c.slotPath k i = 1 && !c.sdRuns (c.slotUnit k i)
      let c := forEach dead (fun i t => t.sdDead k i b) c
      c.resultsIn k b u 42 (c.get (Reg.SEQ_CFG_isrc k) == 0 || !c.sdAwaited k b)

/-- The tick at which input m's result of the pass at b is due: 4 after the ⌈3D/2⌉th rising edge of its clock after the sample
tick (R241). -/
def Chip.sdDueTick (c : Chip) (k m b : Nat) : Nat :=
  let div := c.sdDiv (m / 3)
  let t := c.now - (c.now + 2 ^ 32 - c.rbGet k b % 2 ^ 32) % 2 ^ 32
  let e := lookupD 0 (m / 3) c.adc.sdEdge
  let first := if t < e then e else e + ((t - e) / div + 1) * div
  first + ((3 * c.sdDec m + 1) / 2 - 1) * div + 4

/-- SD_RESULT_WRITE (R240 to R242, R263): the 3D bits of the window, the latest apart, that the filter of a sigma-delta input
sees for the oldest pass that awaits it, and with isrc 1 the loop once its inputs are complete. R232 does not say whether a
result that the converters' reference does not enter carries ref_nr: it does (DESIGN CHOICE, log entry 55). -/
def execSdResultWrite (m : Fin 12) (bits : List Bool) (level : Bool) (u : Upset) (s : State) : Out :=
  s.act fun c =>
    match (List.range 4).find? fun k => hasBit (c.topo k).sd m with
    | none => c
    | some k =>
      match (c.measS k).waiting.find? fun p => c.slotPath k p.1 = 1 && c.slotUnit k p.1 = m with
      | none => c
      | some (i, b) =>
        let d := c.sdDec m
        if !c.sdRuns m || bits.length + 1 != 3 * d || c.now != c.sdDueTick k m b then c
        else
          let c := c.sampleNow k
          let raw := if c.pwr.vddaOk then sdRaw (sinc3 d (bits ++ [level])) d else 0
          let ok := !hasBit c.adc.sdStuck m && c.pwr.vddaOk
          let c := c.sets [(Reg.SD_RES_raw m, raw), (Reg.SD_RES_valid m, b2n ok)]
          let c := c.deliver k i b raw ok (clipRaw raw) false (c.passNr k b)
          let loop := c.get (Reg.SEQ_CFG_isrc k) == 1 && !c.sdAwaited k b
          c.resultsIn k b u (max 42 (c.now - (c.cluster k).trigTick)) loop

/-- DECEL_TIMEOUT (R178): the limit's time after the entry to DECEL. -/
def execDecelTimeout (k : Fin 4) (s : State) : Out :=
  s.act fun c =>
    if c.clState k = 3 && c.get (Reg.SEQ_DEC_TO_ms k) != 0
      && (c.cluster k).enteredAt + ms (c.get (Reg.SEQ_DEC_TO_ms k)) ≤ c.now then
      c.faultCl 0x0518 3 k k (c.get (Reg.OBS_SPEED_v (c.engineOf k)))
    else c

/-- The tick from which the wait of a fault's retry counts: the fault's, or that of FLT_N high or the comparator released (Table
11-12). -/
def Chip.waitFrom (c : Chip) (x : Standing) : Nat :=
  if x.code = 0x0712 then max x.since c.pwmG.fltHigh
  else if x.code = 0x0713 then max x.since (lookupD 0 x.inst c.adc.cmpFree)
  else x.since

/-- SAFE_RETRY (R45, R179): the retry of an outstanding SAFE fault whose cause has gone and whose wait has elapsed. -/
def execSafeRetry (k : Fin 4) (code : Fin 65536) (s : State) : Out :=
  s.act fun c =>
    match retryRule code with
    | some (wait, _, w) =>
      match (c.cluster k).faults.find? fun x => x.code = code.val && !x.latch && c.causeGone k x && wait + c.waitFrom x ≤ c.now with
      | none => c
      | some x =>
        let c := c.modCl k fun t => { t with retries := (t.retries.filter fun p => c.now < p.2 + w || p.1 != code.val) ++ [(code.val, c.now)] }
        let c := c.set (Reg.SEQ_STAT_retries k) (min 15 (c.retriesUsed k code w))
        ((c.dropFault k x.code x.inst).refreshHold k).tryLeaveSafe k
    | none => c

/-- The speed of four probes whose angle advances lie within 5 % of their mean: the summed advance of the three. -/
def Chip.probeSum (l : List Nat) : Option Int :=
  match l with
  | [d, x, b, a] =>
    let adv (p q : Nat) : Int := sgn 16 (q + 65536 - p)
    let x1 := adv a b
    let x2 := adv b x
    let x3 := adv x d
    let sum := x1 + x2 + x3
    if [x1, x2, x3].all fun v => 20 * (3 * v - sum).natAbs ≤ sum.natAbs then some sum else none
  | _ => none

/-- CATCH_PROBE (R200, R201): the end of a probe, every 50,000 ticks from the entry, with the phase currents sampled
there. The rotor angle follows the current vector by a quarter turn with the sign of the speed, and L is L_d at the current of the probe (log entry 17). A probe
of a discharge that seeks standstill only counts low currents (R206). -/
def execCatchProbe (k : Fin 4) (ia ib : Word) (ic : ProbeEnd) (s : State) : Out :=
  s.act fun c =>
    if !c.probing k || !c.probeEnds k || (c.cluster k).lastProbe == some c.now then c
    else if (c.cluster k).held = 6 && c.quiet k then
      let c := c.modCl k fun x => { x with lastProbe := some c.now }
      let (al, be) := clarke (ia.toNat, ib.toNat, ic.ic.toNat)
      if F32.lt (hypot al be) (c.get (Reg.SEQ_CATCH_IMIN_v k)) then
        let c := c.modCl k fun x => { x with lowProbes := x.lowProbes + 1 }
        if (c.cluster k).lowProbes ≥ 4 then c.wdisProbed k else c
      else c.wdisFail k
    else
      let c := (c.set (Reg.SEQ_CATCH_STAT_method k) 1).bump (Reg.SEQ_CATCH_STAT_probes k) 255
      let c := c.modCl k fun x => { x with lastProbe := some c.now }
      let (al, be) := clarke (ia.toNat, ib.toNat, ic.ic.toNat)
      let mag := hypot al be
      if F32.lt mag (c.get (Reg.SEQ_CATCH_IMIN_v k)) then
        let c := c.modCl k fun x => { x with probes := [], lowProbes := x.lowProbes + 1 }
        if (c.cluster k).lowProbes ≥ 4 then c.catchStandstill k else c
      else
        let th := Config.atan2 be al % 65536
        let c := c.modCl k fun x => { x with lowProbes := 0, probes := (th :: x.probes).take 4 }
        match probeSum (c.cluster k).probes with
        | none => c
        | some sum =>
          match ic.bad with
          | some off => c.larderBad k off
          | none =>
          let w := angSpeed sum.natAbs 3 50000
          let e := F32.div (F32.mul (c.inductance k 0 mag).1 mag) (seconds (c.probeLen k))
          let w := if sum < 0 then F32.neg w else w
          (c.obsCaught k ((if sum < 0 then th + 49152 else th + 16384) % 65536) w).catchLock k w e false

/-- CATCH_TIMEOUT (R202, R407): the 8 ms from the entry to CATCH have passed without a start; a machine whose flux is being built has
locked and started. -/
def execCatchTimeout (k : Fin 4) (s : State) : Out :=
  s.act fun c =>
    if c.clState k != 1 || c.on (Reg.SEQ_STAT_overspeed k) || (c.cluster k).flux.isSome || c.now < (c.cluster k).catchAt + ms 8 then c
    else
      let p := c.bootPending k
      let c := match (bitsOf p 12).head?, (c.cluster k).lock with
        | some n, some _ => c.islRecord n 0x021D 0 p
        | _, _ => c
      c.noLock k

/-- KE_ABNORMAL (R199): the deviation timer has reached 2,000 ms. -/
def execKeAbnormal (k : Fin 4) (s : State) : Out :=
  s.act fun c =>
    let e := c.engineOf k
    if c.on (Reg.OBS_CFG_ke_chk_en e) && !c.on (Reg.SEQ_STAT_lent k) && ms 2000 ≤ (c.cluster e).keTicks
        && !((c.cluster k).faults.any fun x => x.code = 0x0513) then
      (c.put (Reg.SEQ_FLAGS_ke_ev k) true).faultCl 0x0513 3 k k (c.get (Reg.OBS_KE_DEV_v e))
    else c

/-- LDR_SWAP_REQUEST (R219). -/
def execLdrSwapRequest (k : Fin 4) (tables : Fin 8) (s : State) : Out :=
  s.act fun c => c.rowWrite (0x40000084 + 0x10000 * k.val) tables.val fun c => forEach (bitsOf tables 3) (fun t x => x.swapBySoftware k t) c

/-- LDR_CHECK_END (R219): the shadow's CRC is compared. -/
def execLdrCheckEnd (k : Fin 4) (t : Fin 3) (s : State) : Out :=
  s.act fun c =>
    if c.swapOf k t != .checking then c
    else if c.shadowOk k t then c.putSwap k t .ready
    else
      let c := ((c.putSwap k t .none).setBitOf (Reg.SEQ_LDR_STAT_crc_fail k) t).put (Reg.SEQ_FLAGS_ldr_err k) true
      let c := if t.val = 2 then c.modCl k fun x => { x with ageSwap := false } else c
      c.noteCl 0x0520 k t

/-- LDR_SWAP (R219, R220): a period boundary, with a foreground lookup of the table in progress or not. -/
def execLdrSwap (k : Fin 4) (t : Fin 3) (busy : Bool) (s : State) : Out := s.act fun c => c.swapNow k t busy

/-- LARDER_WRITE (R218, R219): a word stored at word w of a copy of cluster k's share. -/
def execLarderWrite (k : Fin 4) (copy : Fin 2) (w : Fin 8192) (d : Word) (s : State) : Out :=
  s.act fun c =>
    let a := 0x42000000 + 0x10000 * k.val + 0x8000 * copy.val + 4 * w.val
    (c.reachGate a).ldrStore a (leBytes 4 d.toNat)

/-- BCM_STALL (R211): with the duty non-zero the Hall state has not changed for the time of FCk_BCM_CTL.stall. -/
def execBcmStall (k : Fin 4) (s : State) : Out :=
  s.act fun c =>
    let lim := c.get (Reg.FC_BCM_CTL_stall k)
    let (at_, hall) : Int × Nat := match c.posOf k with
      | some n => ((c.posS n).tE, c.get (Reg.POS_STAT_hall n))
      | none => (0, 0)
    if (c.topo k).type = 5 && c.get (Reg.FC_BCM_CTL_duty k) != 0 && lim != 0 && at_ + ms lim ≤ (c.now : Int)
        && !((c.cluster k).faults.any fun x => x.code = 0x051B) then
      c.faultCl 0x051B 2 k k hall
    else c

/-- DUPLEX_COPY (R212): at the boundary after the request, k's engine state goes to j's engines. -/
def execDuplexCopy (k : Fin 4) (s : State) : Out :=
  s.act fun c =>
    if (c.cluster k).duplex == .requested && c.atBoundary k then
      (c.copyEngine k (partner k)).modCl k fun x => { x with duplex := .copied }
    else c

/-- SPLIT_TAKE_EFFECT (R215). -/
def execSplitTakeEffect (k : Fin 4) (s : State) : Out :=
  s.act fun c => if (c.cluster k).splitAsked && c.duplexed k && c.atBoundary k then c.splitNow k else c

end Sys2Proof.Machine
end

