-- ==== Sys2Proof/Machine/Cores.lean ====
section
/-! DEFINITION. The commands of the cores' block that reach no bus address (chapters 03 and 13): scrubbing, semaphores,
timers, watchdogs, the interrupt controller, WFI. -/

namespace Sys2Proof.Machine

open Chip

/-- SCRUB (R523): word w of a TCM or of system SRAM is read; `e` are bit errors met there beside those the state holds. -/
def execScrub (mem : Fin 5) (w : Fin 524288) (e : Fin 3) (s : State) : Out :=
  s.act fun c =>
    let g := mem.val / 2
    let a := if mem.val = 4 then 0x20000000 + 4 * w.val else 0x40000 * (mem.val % 2) + 4 * w.val
    let key := if mem.val = 4 then a else tcmKey g a
    if memOf key != some mem.val || (mem.val != 4 && (c.region g).inReset) then c
    else (c.eccRead key a 0 false e).1

/-- ECC_INJECT (R525). -/
def execEccInject (d : Word) (s : State) : Out := s.act fun c => c.injWrite d.toNat

/-- An address of the cores' block: a requester's earlier writes to the block take effect before its semaphore request and its read
of the timer (R34, R36). -/
def semBase : Nat := 0x41900000

/-- SEM_TAKE (R528). -/
def execSemTake (r : Requester) (n : Fin 32) (s : State) : Out := s.act fun c => if c.reqRuns r then (c.drainUnit r semBase).semTake r n else c

/-- SEM_GIVE (R528). -/
def execSemGive (r : Requester) (n : Fin 32) (s : State) : Out := s.act fun c => if c.reqRuns r then (c.drainUnit r semBase).semGive r n else c

/-- SEM_TAKE_OR_WAIT (R528). -/
def execSemTakeOrWait (r : Requester) (n : Fin 32) (s : State) : Out :=
  s.act fun c => if c.reqRuns r then (c.drainUnit r semBase).semTakeOrWait r n else c

/-- SEM_CANCEL (R528). -/
def execSemCancel (r : Requester) (n : Fin 32) (s : State) : Out := s.act fun c => if c.reqRuns r then (c.drainUnit r semBase).semCancel r n else c

/-- TIMER_COMPARE (R531): the low word of TIM_NOW equals the compare of the hart. -/
def execTimerCompare (k : Fin 4) (j : Fin 2) (s : State) : Out :=
  s.act fun c =>
    let cmp := c.get (if j.val = 0 then Reg.TIM_C_CMP0_cmp k else Reg.TIM_C_CMP1_cmp k)
    if c.isHart k && !(c.region (k / 2)).inReset && c.stamp == cmp then c.privateSrc k (4 + j) else c

/-- WATCHDOG_KICK (R532). -/
def execWatchdogKick (k : Fin 4) (d : Word) (s : State) : Out := s.act fun c => c.wdtWrite k d.toNat

/-- WDT_WARN (R532): at half the time. -/
def execWdtWarn (k : Fin 4) (s : State) : Out :=
  s.act fun c =>
    if c.on (Reg.WDT_C_run k) && !(nth c.hart k).wdtWarned && c.wdtPast k 1 then
      (c.modHart k fun h => { h with wdtWarned := true }).privateSrc k 6
    else c

/-- CORE_WDT (R532): at the full time. -/
def execCoreWdt (k : Fin 4) (s : State) : Out :=
  s.act fun c => if c.on (Reg.WDT_C_run k) && c.wdtPast k 2 then c.halt (k / 2) 0x0914 k k else c

/-- IRQ_ROUTE_WRITE (R534, R535). -/
def execIrqRouteWrite (w : Fin 32) (d : Word) (s : State) : Out := s.act fun c => c.routeWrite w d.toNat

/-- MODERATION_TIMER (R540): a group's time has passed since its first event. -/
def execModerationTimer (k : Fin 4) (g : Fin 3) (s : State) : Out :=
  s.act fun c =>
    let m := c.group k (g + 1)
    let t := c.get (Reg.IRQ_C_MOD_time k g)
    if m.timer && !m.released && t != 0 && m.since + 200 * t ≤ c.now then
      c.modGroup k (g + 1) fun m => { m with released := true }
    else c

/-- SWI (R533). -/
def execSwi (d : Word) (s : State) : Out := s.act fun c => c.swiWrite d.toNat

/-- IRQ_PEND_CLEAR (R536). -/
def execIrqPendClear (w : Fin 4) (d : Word) (s : State) : Out := s.act fun c => c.pendClear w d.toNat

/-- IRQ_SUM_READ (R537): hart k reads its own IRQ_Cc_SUM. -/
def execIrqSumRead (k : Fin 4) (s : State) : Out := s.act fun c => if c.coreRuns k then c.sumRead k else c

/-- TIM_NOW_READ (R511). -/
def execTimNowRead (r : Requester) (s : State) : Out := s.act fun c => if c.reqRuns r then (c.drainUnit r semBase).timLatch r else c

/-- WFI (R112): hart k waits unless its line stands asserted; the next instruction follows. -/
def execWfi (k : Fin 4) (s : State) : Out :=
  s.act fun c =>
    if !c.coreRuns k then c
    else (c.retire k).modHart k fun x => { x with wfi := !c.line k, pc := (x.pc + 4) % 2 ^ 32 }

end Sys2Proof.Machine
end

