-- ==== Sys2Proof/Machine/Hallway.lean ====
section
/-! DEFINITION. The commands of the Hallway (chapter 14): rings, descriptors, completions, announcements. -/

namespace Sys2Proof.Machine

open Chip

/-- HW_CAS (R554). -/
def execHwCas (r : Requester) (d : Word) (s : State) : Out := s.act fun c => if c.reqRuns r then (c.drainUnit r 0x41800018).casWrite r d.toNat else c

/-- QUEUE_ENABLE (R555): a word written to HW_SQn_CFG or HW_CQn_CFG. -/
def execQueueEnable (cq : Bool) (n : Fin 8) (d : Word) (s : State) : Out :=
  s.act fun c => if cq then c.cqCfgWrite n d.toNat else c.sqCfgWrite n d.toNat

/-- DESCRIPTOR_FETCH (R557): the engine serves the next queue in turn. -/
def execDescriptorFetch (s : State) : Out := s.act fun c => c.fetchEntry

/-- UPLOAD (R561): the next buffer of queue q's descriptor. -/
def execUpload (q : Fin 8) (s : State) : Out := s.act fun c => c.uploadItem q

/-- FETCH (R561): the next buffer; e wrong bits are met at word w of it beside those the state holds. -/
def execFetch (q : Fin 8) (w : Fin 64) (e : Fin 3) (s : State) : Out := s.act fun c => c.fetchItem q w e

/-- ERASE (R561, R562): the next sector; `ok`: it reads back erased. -/
def execErase (q : Fin 8) (ok : Bool) (s : State) : Out := s.act fun c => c.eraseItem q ok

/-- PROGRAM (R561, R562): the next page; `ok`: it reads back as programmed. -/
def execProgram (q : Fin 8) (ok : Bool) (s : State) : Out := s.act fun c => c.programItem q ok

/-- TRACE (R563): the descriptor starts. -/
def execTrace (q : Fin 8) (s : State) : Out := s.act fun c => c.descItem q 5 fun _ t => t

/-- TRACE_COPY (R563). -/
def execTraceCopy (q : Fin 8) (s : State) : Out := s.act fun c => c.traceCopy q

/-- LOG_READ (R561): the next sixteen entries. -/
def execLogRead (q : Fin 8) (s : State) : Out := s.act fun c => c.logItem q

/-- ID_READ (R561): the next buffer; `stop`: the byte at which the memory did not answer. -/
def execIdRead (q : Fin 8) (stop : Option (Fin 1280)) (s : State) : Out :=
  s.act fun c => c.idItem q (stop.map fun o => o.val)

/-- MSG (R564): the descriptor is handed to software. -/
def execMsg (q : Fin 8) (s : State) : Out := s.act fun c => c.descItem q 8 fun _ t => t

/-- MSG_DONE (R564). -/
def execMsgDone (d : Word) (s : State) : Out := s.act fun c => c.msgDone d.toNat

/-- DESCRIPTOR_COMPLETE (R559). -/
def execDescriptorComplete (q : Fin 8) (s : State) : Out := s.act fun c => c.descComplete q

/-- QUEUE_ABORT (R565). -/
def execQueueAbort (q : Fin 8) (s : State) : Out := s.act fun c => c.hwAbort q false

/-- CQ_HEAD_WRITE (R567). -/
def execCqHeadWrite (c : Fin 8) (d : Word) (s : State) : Out := s.act fun t => t.cqHeadWrite c d.toNat

/-- CQ_MOD_TIMER (R567): the timer of ring c, which its first unannounced record started, reaches its time. -/
def execCqModTimer (c : Fin 8) (s : State) : Out :=
  s.act fun t =>
    let runs := t.on (Reg.HW_CQ_CFG_host c) && t.get (Reg.HW_CQ_STAT_unann c) > 0 && !t.on (Reg.HW_CQ_STAT_released c)
    let time := t.get (Reg.HW_CQ_MOD_time c)
    if runs && time != 0 && nth t.hw.annAt c + 200 * time ≤ t.now then
      (t.sets [(Reg.HW_CQ_STAT_released c, 1), (Reg.HW_CQ_STAT_unann c, 0)]).hwIrq
    else t

/-- HW_IDLE_WRITE (R567). -/
def execHwIdleWrite (d : Word) (s : State) : Out := s.act fun c => c.idleWrite d.toNat

/-- HOST_SLEEP_ASSERT (Table 14-11); a level taken during a reset of the die acts at its release. -/
def execHostSleepAssert (s : State) : Out :=
  s.actRaw fun c =>
    let c := c.modHw fun h => { h with sleepPin := true }
    if c.pwr.dieReset || c.on Reg.HW_STAT_sleep then c
    else
      let rings := (List.range 8).filter fun n => c.on (Reg.HW_CQ_CFG_host n)
      let held := rings.foldl (fun a n => a + c.get (Reg.HW_CQ_STAT_unann n)) 0
      let wake := rings.any fun n => c.on (Reg.HW_CQ_CFG_wake n) && c.get (Reg.HW_CQ_STAT_unann n) > 0
      let c := c.sets [(Reg.HW_HELD_held, min 65535 held), (Reg.HW_STAT_sleep, 1), (Reg.HW_STAT_wake, b2n wake)]
      forEach (List.range 8) (fun n t => t.cqSettle n) c

/-- HOST_SLEEP_RELEASE (Table 14-11). -/
def execHostSleepRelease (s : State) : Out :=
  s.actRaw fun c =>
    let c := c.modHw fun h => { h with sleepPin := false }
    if c.pwr.dieReset || !c.on Reg.HW_STAT_sleep then c
    else (c.sets [(Reg.HW_STAT_sleep, 0), (Reg.HW_STAT_wake, 0), (Reg.HW_HELD_held, 0), (Reg.HW_FLAGS_sleep_ev, 1)]).hwIrq

end Sys2Proof.Machine
end

