-- ==== Sys2Proof/Machine/Porch.lean ====
section
/-! DEFINITION. The commands of Porch (chapter 15): addresses, requests, transport, messages. A received message is a
frame received by the port's controller. -/

namespace Sys2Proof.Machine

open Chip

/-- ADDRESS_CLAIM (R587). -/
def execAddressClaim (n : Fin 4) (s : State) : Out := s.act fun c => c.claimPref n

/-- CLAIM_SETTLED (R587): 250 ms after the claim frame without contention. -/
def execClaimSettled (n : Fin 4) (s : State) : Out :=
  s.act fun c =>
    if c.portState n = 1 && (c.portS n).claimSent && (c.portS n).claimTick + ms 250 ≤ c.now then
      (c.portSet n 2 (c.portAddr n)).porchLoad n
    else c

/-- ADDRESS_CLAIMED_RX (R588). -/
def execAddressClaimedRx (n : Fin 4) (sa : Byte) (name : BitVec 64) (s : State) : Out :=
  s.act fun c => c.canRx n (pgnFrame 6 0xEE00 255 sa.toNat (leBytes 8 name.toNat)) 0

/-- CANNOT_CLAIM_SEND (Table 15-4): the delay of a port that lost its address ends. -/
def execCannotClaimSend (n : Fin 4) (s : State) : Out :=
  s.act fun c =>
    if (c.portS n).losing && c.porchOn n && (c.portS n).loseAt ≤ c.now then
      (c.modPort n fun p => { p with losing := false }).cannotSend n
    else c

/-- COMMANDED_ADDRESS (R590). -/
def execCommandedAddress (n : Fin 4) (name : BitVec 64) (addr : Byte) (s : State) : Out :=
  s.act fun c => c.commanded n name.toNat addr.toNat

/-- REQUEST_RX (R592): a Request for a PGN. -/
def execRequestRx (n : Fin 4) (sa dest : Byte) (pgn : Fin 262144) (s : State) : Out :=
  s.act fun c => c.canRx n (pgnFrame 6 0xEA00 dest.toNat sa.toNat (pgnBytes pgn)) 0

/-- REQ_TIMEOUT (R592). -/
def execReqTimeout (s : State) : Out :=
  s.act fun c =>
    if !c.on Reg.PORCH_REQ_valid || c.now < c.porch.reqAt + ms (10 * max 1 (c.get Reg.PORCH_CFG_req_to)) then c
    else
      let n := c.get Reg.PORCH_REQ_port
      let pgn := c.get Reg.PORCH_REQ_pgn
      let c := if c.porch.reqGlobal then c else c.ackSend n 1 (c.get Reg.PORCH_REQ_sa) pgn
      (c.put Reg.PORCH_REQ_valid false).note 0x0B27 n pgn

/-- REQ_ANSWER (R592). -/
def execReqAnswer (d : Word) (s : State) : Out := s.act fun c => c.reqAnswer d.toNat

/-- TP_SEND_START (R595): a word with start written to PORCH_SESn_CTL. -/
def execTpSendStart (n : Fin 8) (d : Word) (s : State) : Out := s.act fun c => c.sesCtlWrite n (Nat.lor d.toNat 1)

/-- TP_CM_RX (R595, R596). -/
def execTpCmRx (n : Fin 4) (etp : Bool) (sa dest : Byte) (l : Vector Byte 8) (s : State) : Out :=
  s.act fun c => c.canRx n (pgnFrame 7 (if etp then 0xC800 else 0xEC00) dest.toNat sa.toNat l.toList) 0

/-- TP_DT_RX (R595, R596). -/
def execTpDtRx (n : Fin 4) (etp : Bool) (sa dest : Byte) (l : Vector Byte 8) (s : State) : Out :=
  s.act fun c => c.canRx n (pgnFrame 7 (if etp then 0xC700 else 0xEB00) dest.toNat sa.toNat l.toList) 0

/-- BAM_GAP (R595): the gap of sending slot n has passed. -/
def execBamGap (n : Fin 8) (s : State) : Out :=
  s.act fun c => if c.sesRuns n && (c.sesS n).bam && (c.sesS n).timer = 5 && c.timerPast n then c.sesData n else c

/-- TP_TIMEOUT (R597): the timer of slot n expires; the peer is told with abort reason 3 (ISO 11783-3). -/
def execTpTimeout (n : Fin 16) (s : State) : Out :=
  s.act fun c =>
    let t := (c.sesS n).timer
    if c.sesRuns n && 1 ≤ t && t ≤ 4 && c.timerPast n then c.sesAbort n 3 0xF1 else c

/-- TP_CANCEL (R597). -/
def execTpCancel (n : Fin 8) (s : State) : Out := s.act fun c => c.sesCancel n

/-- TP_RELEASE (R595). -/
def execTpRelease (n : Fin 16) (s : State) : Out := s.act fun c => if 8 ≤ n.val then c.sesRelease n else c

/-- PORCH_POOL_WRITE (R594). -/
def execPorchPoolWrite (d : Word) (s : State) : Out := s.act fun c => c.poolWrite d.toNat

/-- STATUS_MESSAGE (R600): the period of port n ends, or byte 4 of the module status has changed. -/
def execStatusMessage (n : Fin 4) (peak : Bool) (s : State) : Out :=
  s.act fun c =>
    if !c.porchOn n || c.portState n != 2 || c.on (Reg.CAN_STAT_alone n) then c
    else if peak then (if c.peakByte = (c.portS n).lastPeak then c else c.statusSend n 4 false)
    else
      let per := c.get (Reg.PORCH_P_CFG_per n)
      if per = 0 || c.now < (c.portS n).statAt + ms per then c
      else forEach c.statusList (fun i t => t.statusSend n i false) (c.modPort n fun p => { p with statAt := c.now })

/-- ALONE_PROBE (R599). -/
def execAloneProbe (n : Fin 4) (s : State) : Out :=
  s.act fun c =>
    if !c.porchOn n || c.portState n != 2 || !c.on (Reg.CAN_STAT_alone n) || c.now < (c.portS n).probeAt + ms 1000 then c
    else
      let l := c.statusList
      let i := l.getD ((c.portS n).due % l.length) 4
      (c.modPort n fun p => { p with due := (p.due + 1) % l.length, probeAt := c.now }).statusSend n i true

/-- CHECKED_MESSAGE_RX (R602, R603): a Proprietary A frame to the port's address. -/
def execCheckedMessageRx (n : Fin 4) (sa : Byte) (l : Vector Byte 8) (s : State) : Out :=
  s.act fun c => c.canRx n (pgnFrame 6 0xEF00 (c.portAddr n) sa.toNat l.toList) 0

/-- CMD_LOST (Table 15-9). -/
def execCmdLost (n : Fin 4) (s : State) : Out :=
  s.act fun c =>
    if c.porchOn n && c.on (Reg.PORCH_P_CFG_cmd_req n)
        && (c.portS n).applied + ms (max 1 (c.get (Reg.PORCH_P_CMD_TO_ms n))) ≤ c.now then
      ((c.modPort n fun p => { p with streams := [], applied := c.now }).put Reg.PORCH_FLAGS_cmd_lost true).note 0x0B26 n n
    else c

end Sys2Proof.Machine
end

