-- ==== Sys2Proof/Machine/Port.lean ====
section
/-! DEFINITION. The commands of the host port (chapter 14, R545 to R550; chapter 17, R664), and the doorbells. -/

namespace Sys2Proof.Machine

open Chip

/-- READ_ID (Table 14-1). -/
def execReadId (s : State) : Out :=
  s.act fun c => c.portOut [0x4D, 0x48, 0x26, 0x12, Config.siliconStep, 0, 0, 0]

/-- ENTER_8D (R545). -/
def execEnter8d (lat : Byte) (s : State) : Out :=
  s.act fun c =>
    if c.port8d then c.portProto 0xE8 false
    else
      let l := if 16 ≤ lat.toNat ∧ lat.toNat ≤ 63 then lat.toNat else 24
      (c.modHw fun h => { h with lat := l }).put Reg.HW_STAT_mode8d true

/-- READ (R548, R549): an even number of bytes, at least 2; `late`: the register words, by place, that have not arrived. -/
def execRead (a : Word) (n : Fin 4097) (late : List (Fin 1024)) (s : State) : Out :=
  s.actIf (readWf n) fun c => c.hostRead a.toNat n (late.map fun x => x.val)

/-- WRITE (R547, R549): an even number of bytes, 2 to 4,096. -/
def execWrite (a : Word) (l : List Byte) (s : State) : Out :=
  s.actIf (writeWf l) fun c => c.hostWrite a.toNat l

/-- READ_STATUS (Table 14-3). -/
def execReadStatus (s : State) : Out :=
  s.act fun c =>
    if !c.port8d then c.portProto 0x05 false
    else (c.portOut [BitVec.ofNat 8 c.portStatus, 0]).modHw fun h => { h with late := false, err := false, rst := false }

/-- FENCE (R38). -/
def execFence (s : State) : Out := s.act fun c => if c.port8d then c.hostFence else c.portProto 0xF5 false

/-- SOFT_RESET (R545). -/
def execSoftReset (s : State) : Out := s.act fun c => c.put Reg.HW_STAT_mode8d false

/-- HP_CS_N_RISE (Table 17-10; R546). A WRITE cut within its first clock has no data left. -/
def execHpCsNRise (r : CsRise) (s : State) : Out :=
  s.actIf (csWf r) fun c =>
    match r with
    | .beforeData op => c.portProto op.toNat false
    | .bad op mismatch => c.portProto op.toNat mismatch
    | .whole a l => c.hostWrite a.toNat l
    | .within a l =>
      if c.port8d then (if l.isEmpty then c else c.hostWrite a.toNat l).portProto 0x12 false else c.portProto 0x12 false
    | .read => c

/-- HW_FENCE (R38): a host write to the register. -/
def execHwFence (s : State) : Out := s.act fun c => c.hostFence

/-- SQ_DOORBELL (R556): a tail value written by a requester. -/
def execSqDoorbell (r : Requester) (n : Fin 8) (d : Word) (s : State) : Out :=
  s.act fun c => if c.reqRuns r then (c.drainAll r).sqTailWrite r n d.toNat else c

end Sys2Proof.Machine
end

