-- ==== Sys2Proof/Machine/Power.lean ====
section
/-! DEFINITION. The commands of power rails, clocks and the Cellar (chapter 03), and the end of a VDDA brown-out. -/

namespace Sys2Proof.Machine

open Chip

/-! ### Rails -/

/-- BROWN_OUT (R84, Table 03-1). -/
def execBrownOut (r : Rail) (s : State) : Out :=
  s.actRaw fun c =>
    let wanted := c.pwr.state == .run && (match c.pwr.sleep with | .waiting _ => false | _ => true)
    let die (good : Field) (bit code : Nat) : Chip :=
      if wanted && c.on good then
        let c := (c.put good false).dieReset (2 ^ bit)
        let c := c.modPwr fun p => { p with railsUp := false, locked := false }
        { c with cfg := { c.cfg with borNext := c.cfg.borNext ++ [code] } }
      else c.put good false
    match r with
    | .core => die Reg.PWR_STAT_vcore_good 3 0x0D23
    | .io => die Reg.PWR_STAT_vio_good 4 0x0D24
    | .aon => c.cellarReset .off
    | .xfmr => c
    | .vdda =>
      let c := (c.put Reg.PWR_STAT_vdda_good false).modPwr fun p => { p with vddaOk := false }
      if c.pwr.dieReset then c
      else
        let c := c.sets [(Reg.PWR_FLAGS_vdda_bor, 1), (Reg.ADC_STAT_ref_rdy, 0)]
        let c := { c with adc := { c.adc with refWait := false }, cl := c.cl.map (fun x : ClusterS => { x with vdc := [] }) }
        (c.faultEvery 0x0D21 0 0).cmpDemands.showVdc.showOv3.refreshHolds

/-- VDDA_RELEASE (R81, R263): VDDA is above its release level; the reference settles anew. -/
def execVddaRelease (s : State) : Out :=
  s.actRaw fun c =>
    if c.pwr.vddaOk then c
    else
      let c := (c.put Reg.PWR_STAT_vdda_good true).modPwr fun p => { p with vddaOk := true }
      if c.pwr.dieReset then c
      else
        let c := { c with adc := { c.adc with refWait := true } }
        (cmpFreed { c with pwr := { c.pwr with vddaOk := false } } c).showVdc.showOv3.settleHolds

/-- RAIL_WARN (R85), and XFMR_LOW; a rail that returns clears its bit of PWR_STAT. -/
def execRailWarn (r : Rail) (below : Bool) (s : State) : Out :=
  s.actRaw fun c =>
    let one (f ev : Field) (code data : Nat) : Chip :=
      if below && !c.on f && !c.pwr.dieReset then ((c.put f true).put ev true).note code 0 data
      else c.put f below
    match r with
    | .core => one Reg.PWR_STAT_vcore_warn Reg.PWR_FLAGS_warn_ev 0x0D20 1
    | .io => one Reg.PWR_STAT_vio_warn Reg.PWR_FLAGS_warn_ev 0x0D20 2
    | .vdda => one Reg.PWR_STAT_vdda_warn Reg.PWR_FLAGS_warn_ev 0x0D20 4
    | .xfmr => one Reg.PWR_STAT_xfmr_low Reg.PWR_FLAGS_xfmr_ev 0x0D22 0
    | .aon => c

/-- POWER_ON_RELEASE (R83): all three rails have stood above release for 1 ms and the reference has passed its monitor. -/
def execPowerOnRelease (s : State) : Out :=
  s.actRaw fun c =>
    if c.pwr.dieReset && c.pwr.state == .run && c.pwr.sleep == .none && !c.pwr.railsUp then
      let c := c.sets [(Reg.PWR_STAT_vcore_good, 1), (Reg.PWR_STAT_vio_good, 1), (Reg.PWR_STAT_vdda_good, 1),
        (Reg.PWR_STAT_aon_good, 1), (Reg.CLK_STAT_pll_lock, 0)]
      let c := { c with cfg := { c.cfg with causeNext := setBit c.cfg.causeNext 2 } }
      (c.modPwr fun p => { p with railsUp := true, vddaOk := true, locked := false }).tryRelease
    else c

/-- CELLAR_RESET (R90): `rails` says that the other rails stand above their release levels. -/
def execCellarReset (rails : Bool) (s : State) : Out :=
  s.actRaw fun c => c.cellarReset (if rails then .run else .dormant)

/-! ### Sleep and wake -/

/-- SLEEP_REQUEST (R93): a write to CEL_SLEEP. -/
def execSleepRequest (d : Word) (s : State) : Out := s.act fun c => c.sleepWrite d.toNat

/-- CELLAR_TRANSFER (R103): the third always-on edge, which DORMANT and an unpowered Cellar do not have (R117). A CEL_SLEEP write
taken asserts the control-die reset and releases PWR_REQ (R94). -/
def execCellarTransfer (s : State) : Out :=
  s.actRaw fun c =>
    if c.pwr.xferRun.isEmpty || c.pwr.state == .dormant || c.pwr.state == .off then c
    else
      let asked := c.pwr.xferRun.find? fun p => p.1 = 0x41A00818
      let c := c.transferred
      match c.pwr.sleep, asked with
      | .queued _, some p =>
        ((c.dieReset (2 ^ 7)).modPwr fun x => { x with
          sleep := .waiting (p.2 % 4 == 1), railsUp := false, locked := false }).showReq
      | _, _ => c

/-- SLEEP_RAIL_WAIT_END (R94): VDD_CORE has fallen below 0.3 V, or 100 ms have passed. -/
def execSleepRailWaitEnd (fell : Bool) (s : State) : Out :=
  s.actRaw fun c =>
    match c.pwr.sleep with
    | .waiting d =>
      let c := (c.put Reg.CEL_STAT_rails_on (!fell)).modPwr fun p => { p with
        sleep := .none, state := if d then .dormant else .watch }
      if fell then c.sets [(Reg.PWR_STAT_vcore_good, 0), (Reg.PWR_STAT_vio_good, 0), (Reg.PWR_STAT_vdda_good, 0)] else c
    | _ => c

/-- WAKE_SLOT_FIRE (R95, R96, R98, R100). -/
def execWakeSlotFire (slot : Fin 16) (s : State) : Out := s.actRaw fun c => c.slotFire slot.val

/-! ### Clocks -/

/-- PLL_LOCK (R107): the configuration engine may start. -/
def execPllLock (s : State) : Out :=
  s.act fun c => (c.put Reg.CLK_STAT_pll_lock true).modPwr fun p => { p with locked := true }

/-- A monitor of Table 03-9 has tripped. -/
def Chip.monitor (c : Chip) (n : Nat) : Chip := c.sets [(Reg.CLK_STAT_mon_last, n), (Reg.PWR_FLAGS_mon_ev, 1)]

/-- REF_LOSS (R109). -/
def execRefLoss (edges : Word) (s : State) : Out :=
  s.act fun c =>
    if c.on Reg.CLK_STAT_on_backup then c
    else
      let c := (c.monitor 1).sets [(Reg.CLK_STAT_ref_ok, 0), (Reg.CLK_STAT_on_backup, 1)]
      ((c.faultEvery 0x0D10 0 edges.toNat).canStop).ringStop

/-- REF_RETURN (R110): the reference has been back for 1 ms; a ring stopped by PLL_UNLOCK or MAIN_FREQ rejoins too (Table 16-9). -/
def execRefReturn (s : State) : Out :=
  s.act fun c =>
    if c.on Reg.CLK_STAT_on_backup then
      let c := (c.sets [(Reg.CLK_STAT_ref_ok, 1), (Reg.CLK_STAT_on_backup, 0)]).ringResume
      forEach [0, 1, 2, 3] (fun n t => t.porchLoad n) c
    else if c.pwr.locked then c.ringResume
    else c

/-- Both regions are reset by a clock monitor: one record of the fault, the cause bit clk. -/
def Chip.clockHalt (c : Chip) (code data : Nat) : Chip :=
  let c := (c.put Reg.CFG_RST_CAUSE_clk true).record code 4 0 7 0 data
  ((c.haltRegion 0 code).haltRegion 1 code).ringStop

/-- PLL_UNLOCK (R107, R108): both regions are held in reset until lock returns. -/
def execPllUnlock (ps : Word) (s : State) : Out :=
  s.act fun c =>
    if c.pwr.locked then
      let c := ((c.monitor 7).put Reg.CLK_STAT_pll_lock false).modPwr fun p => { p with locked := false }
      c.clockHalt 0x0D11 ps.toNat
    else c

/-- MAIN_FREQ (R108): the hard-wired safety logic runs on the monitor oscillator. -/
def execMainFreq (count : Word) (s : State) : Out :=
  s.act fun c => ((c.monitor 2).modPwr fun p => { p with safetyOnMon := true }).clockHalt 0x0D12 count.toNat

/-- CORE_CLK_FAIL (R108): the monitor watches the core clock while it is ungated. -/
def execCoreClkFail (g : Fin 2) (s : State) : Out :=
  s.act fun c =>
    if (c.region g).inReset || c.pairWaits g then c else (c.monitor (3 + g)).halt g (0x0D13 + g) 0 0

/-- MONOSC_FAIL (R108). -/
def execMonoscFail (count : Word) (s : State) : Out := s.act fun c => (c.monitor 5).faultEvery 0x0D15 0 count.toNat

/-- AON_XTAL_FAIL (R108): the Cellar runs on the internal RC, whatever the control die's reset; the control die records it. -/
def execAonXtalFail (outOfWindow : Bool) (s : State) : Out :=
  s.actRaw fun c =>
    let c := c.put Reg.CEL_PWR_CFG_aon_src false
    let c := c.modPwr fun p => { p with acting := insertAt 0x41A00804 (clrBit (lookupD 0 0x41A00804 p.acting) 1) p.acting }
    if c.pwr.dieReset then c
    else
      ((c.monitor 6).sets [(Reg.PWR_FLAGS_aon_xtal_ev, 1), (Reg.CLK_STAT_aon_xtal, 0)]).note 0x0D16 0 (b2n outOfWindow)

/-- REGION_GATE_CLOSE (R16, R111): the stop condition has held for the time of CLK_RGN_CTL.hold. -/
def execRegionGateClose (g : Fin 2) (s : State) : Out :=
  s.act fun c =>
    if c.stopCond g && !(c.region g).inReset then
      c.put (if g.val = 0 then Reg.CLK_STAT_rgn_a_gated else Reg.CLK_STAT_rgn_b_gated) true
    else c

end Sys2Proof.Machine
end

