-- ==== Sys2Proof/Machine/Ring.lean ====
section
/-! DEFINITION. The commands of the ring and the twin link (chapter 16). -/

namespace Sys2Proof.Machine

open Chip

/-- RING_ENABLE (R611, R616). -/
def execRingEnable (s : State) : Out := s.act fun c => c.rowWrite 0x41700004 1 fun c => c.ringEnable

/-- RING_DISABLE (R627). -/
def execRingDisable (s : State) : Out := s.act fun c => c.rowWrite 0x41700004 0 fun c => c.ringOff

/-- RING_START_TIMEOUT (Table 16-2): no active manager heard in the cycles of listening, 4 at node 0 and 8 at node 1. -/
def execRingStartTimeout (s : State) : Out :=
  s.act fun c =>
    let n := if c.get Reg.RING_STAT_node = 0 then 4 else 8
    if c.ringOn && c.ringRole = 3 && c.ring.startAt + n * (200 * c.cycleUs) ≤ c.now then c.becomeActive else c

/-- CYCLE_START (R613, R619, R632, R637), a cycle after the latest of the node's timer: `e`, `e2` are bit errors met at the first word of the setpoint table and of the
source of the copy. -/
def execCycleStart (e e2 : Fin 3) (s : State) : Out :=
  s.act fun c => if c.ring.cycleAt + 200 * c.cycleUs ≤ c.now then c.cycleStart e e2 else c

/-- CYCLIC_FRAME_RX (R614). -/
def execCyclicFrameRx (ringB : Bool) (f : CyclicFrame) (crcOk : Bool) (s : State) : Out :=
  s.act fun c => c.cyclicRx ringB f crcOk

/-- RING_BREAK (R625): `sym` code errors were counted. -/
def execRingBreak (ringB : Bool) (sym : Fin 256) (s : State) : Out := s.act fun c => c.linkLost ringB sym

/-- LINK_READY (R626). -/
def execLinkReady (ringB : Bool) (s : State) : Out := s.act fun c => c.linkBack ringB

/-- MSG_SEND (R628): a word with start written to RING_TXm_CTL. -/
def execMsgSend (m : Fin 4) (d : Word) (s : State) : Out :=
  s.act fun c => c.rowWrite (0x41700200 + 16 * m.val) (Nat.lor d.toNat (2 ^ 31)) fun c => c.msgCtl m (Nat.lor d.toNat (2 ^ 31))

/-- ACYCLIC_FRAME_RX (R629): at most 1,008 bytes of data. -/
def execAcyclicFrameRx (ringB : Bool) (f : AcyclicFrame) (crcOk : Bool) (s : State) : Out :=
  s.actIf (acyclicWf f) fun c => c.acyclicRx ringB f crcOk

/-- MSG_ACK_TIMEOUT (Table 16-6): no answer, or no returned broadcast, within RING_MSG_CFG.ack_to cycles of the try. -/
def execMsgAckTimeout (m : Fin 4) (s : State) : Out :=
  s.act fun c =>
    if c.msgRuns m && (c.msgS m).inFlight
        && (c.msgS m).tryAt + max 1 (c.get Reg.RING_MSG_CFG_ack_to) * (200 * c.cycleUs) ≤ c.now then c.msgTry m 3
    else c

/-- MSG_ABORT (Table 16-6). -/
def execMsgAbort (m : Fin 4) (s : State) : Out :=
  s.act fun c =>
    let d := 2 ^ 30 + c.get (Reg.RING_TX_CTL_dst m) * 2 ^ 24 + c.get (Reg.RING_TX_CTL_len m) * 2 ^ 10 + c.get (Reg.RING_TX_CTL_buf m)
    c.rowWrite (0x41700200 + 16 * m.val) d fun c => c.msgCtl m d

/-- RX_SLOT_FREE (R630). -/
def execRxSlotFree (r : Fin 4) (s : State) : Out :=
  s.act fun c => c.rowWrite (Reg.RING_RX_STAT_full r).addr (2 ^ (Reg.RING_RX_STAT_full r).lsb) fun c => c.put (Reg.RING_RX_STAT_full r) false

/-- RING_MSG_ENABLE (R630). -/
def execRingMsgEnable (d : Word) (s : State) : Out := s.act fun c => c.rowWrite 0x41700040 d.toNat fun c => c.msgCfg d.toNat

/-- RING_CLR_ERR (R646). -/
def execRingClrErr (s : State) : Out :=
  s.act fun c => c.rowWrite 0x41700004 (2 + c.get Reg.RING_CTL_en) fun c => c.sets [(Reg.RING_ERR_crc_a, 0), (Reg.RING_ERR_crc_b, 0), (Reg.RING_ERR_sym, 0), (Reg.RING_ERR_drop, 0)]

/-- TWIN_HEARTBEAT_RX (R631): the peer's role; a failed frame is counted. -/
def execTwinHeartbeatRx (role : Fin 4) (ok : Bool) (s : State) : Out :=
  s.act fun c =>
    if ok then (c.set Reg.TWIN_STAT_peer role.val).modRing fun r => { r with twinHb := true }
    else c.bump Reg.TWIN_ERR_crc 65535

/-- COPY_FRAME_RX (R638): at most 1,024 bytes. -/
def execCopyFrameRx (off : Fin 65536) (l : List Byte) (last ok : Bool) (s : State) : Out :=
  s.actIf (copyWf l) fun c => c.copyRx off l last ok

/-- TWIN_SIG_LOST (R646). -/
def execTwinSigLost (s : State) : Out :=
  s.act fun c =>
    if c.on Reg.TWIN_STAT_sig then (c.put Reg.TWIN_STAT_sig false).setBitOf Reg.TWIN_FLAGS_ev 2 else c

/-- TWIN_SIG_BACK (R646). -/
def execTwinSigBack (s : State) : Out :=
  s.act fun c =>
    if c.on Reg.TWIN_STAT_sig then c else (c.put Reg.TWIN_STAT_sig true).setBitOf Reg.TWIN_FLAGS_ev 3

end Sys2Proof.Machine
end

