-- ==== Sys2Proof/Machine/Writes.lean ====
section
/-! DEFINITION. Held flash and identity-memory writes (R501, R502). -/

namespace Sys2Proof.Machine

open Chip

/-- The oldest held write of a kind. -/
def Chip.heldFirst (c : Chip) (identity : Bool) : Option WriteOwner :=
  (c.chm.writes.find? fun w => w.held && (ownerLeg w.owner).isSome == identity).map fun w => w.owner

/-- The two copies of the soft-repair record are written (R160). The spec gives the record no layout: their bytes are open (log
entry 6). -/
def Chip.storeRepairs (c : Chip) : Chip :=
  let l := leBytes 1024 c.freeVal
  ((c.setBytes 0x1080F200 l).setBytes 0x1080F600 l).useFree

/-- The soft-repair record takes the rows that are mapped. -/
def Chip.repairsWritten (c : Chip) : Chip :=
  ((c.dropWrite .softRepair).modCfg fun x => { x with softRepair := x.mapped }).storeRepairs

/-- A changed soft-repair record is written under the data-flash write rules (R160): now, or held. -/
def Chip.repairsSubmit (c : Chip) : Chip :=
  if c.cfg.mapped = c.cfg.softRepair || c.writeWaits .softRepair then c
  else
    let c := c.submitWrite .softRepair
    if c.writing .softRepair then c.repairsWritten else c

/-- A held write has started: a ledger takes its image; the ageing store and the soft-repair record are made at once. -/
def Chip.writeStarted (c : Chip) (o : WriteOwner) : Chip :=
  match o with
  | .ledger m => c.ledStart m
  | .ageStore k => c.ageStored k
  | .softRepair => c.repairsWritten
  | _ => c

/-- HELD_WRITE_START (R502): the oldest held write of the kind, where its temperature has come into range. -/
def execHeldWriteStart (identity : Bool) (s : State) : Out :=
  s.act fun c =>
    match c.heldFirst identity with
    | none => c
    | some o =>
      if !c.writeTempOk o then c
      else
        let mark (l : List WriteItem) : List WriteItem :=
          let i := l.findIdx fun w => w.held && decide (w.owner = o)
          updNth (fun w => { w with held := false, started := true }) i l
        ((c.modChm fun x => { x with writes := mark x.writes }).showWrites).writeStarted o

/-- What a failed write leaves with its owner: the fault log's entry goes on waiting, the ledger and the boot record fail,
the descriptor ends with TEMP; the rows that the soft-repair record lacks stay mapped for this start. -/
def Chip.writeFailed (c : Chip) (o : WriteOwner) : Chip :=
  match o with
  | .ledger m => c.ledFail m
  | .boot => c.bootEnd false 2
  | .descriptor q => ((c.dropWrite o).descEnd q 0x08 0).hwAbortEnd q
  | .ageStore k => (c.dropWrite o).put (Reg.CHM_C_STAT_age_busy k) false
  | .softRepair | .log => c.dropWrite o

/-- WRITE_TEMP_FAIL (R502): the oldest held write of the kind has been held for 600 s. -/
def execWriteTempFail (identity : Bool) (s : State) : Out :=
  s.act fun c =>
    match c.heldFirst identity with
    | none => c
    | some o =>
      if c.chm.writes.any fun w => w.held && w.owner = o && c.now < w.since + ms 600000 then c
      else
        let c := ((c.writeFailed o).bump Reg.CHM_WQ_failed 65535).put Reg.CHM_FLAGS_write_fail true
        c.note 0x081D ((ownerLeg o).getD 0) (b2n identity)

end Sys2Proof.Machine
end

