-- ==== Sys2Proof/Machine/BootOps.lean ====
section
/-! DEFINITION. The configuration engine's start-up (chapter 04): reading and checking an image, the bank's choice, region
slots, injection tests, handshakes of a start. -/

namespace Sys2Proof.Machine

namespace Chip

/-! ### Reading an image (R138, R141 to R144, R146, R223) -/

/-- The base of a code-flash bank. -/
def bankBase (b : Nat) : Nat := 0x10000000 + 0x400000 * b

/-- Section-table entry i of the image at a base (Table 04-7). -/
def readSection (s : Chip) (base i : Nat) : Section :=
  let a := base + 0x40 + 20 * i
  ⟨s.load a 1, s.load (a + 1) 1, s.load (a + 4) 4, s.load (a + 8) 4, s.load (a + 12) 4, s.load (a + 16) 4⟩

def readSections (s : Chip) (base : Nat) : List Section :=
  (List.range (s.load (base + 0x0C) 2)).map fun i => s.readSection base i

/-- The sections of a type. -/
def ofType (l : List Section) (t : Nat) : List Section := l.filter fun x => x.type = t

/-- A topology record (Table 04-10). -/
def readTopo (s : Chip) (a : Nat) : Topo :=
  ⟨s.load a 1, s.load (a + 1) 1, s.load (a + 2) 1, s.load (a + 4) 2, s.load (a + 6) 2, s.load (a + 8) 2,
    s.load (a + 10) 2 % 4096, s.load (a + 12) 6⟩

/-- A motor record (Table 05-13). -/
def readMotor (s : Chip) (a : Nat) : Motor :=
  let w (o : Nat) : Nat := s.load (a + o) 4
  ⟨s.load a 1, s.load (a + 1) 1, s.load (a + 2) 1, s.load (a + 3) 1, w 0x04, w 0x08, w 0x0C, w 0x10, w 0x14, w 0x18,
    w 0x1C, w 0x20, w 0x24, w 0x28, w 0x2C, w 0x30, w 0x34, w 0x38⟩

def readPin (s : Chip) (a : Nat) : PinFunc := ⟨s.load a 2, s.load (a + 2) 1, s.load (a + 3) 1⟩

def readPort (s : Chip) (a : Nat) : FabPort :=
  ⟨s.load a 1, s.load (a + 1) 1, s.load (a + 2) 1, s.load (a + 3) 1, s.load (a + 4) 2, s.load (a + 6) 1⟩

/-- The records of a UNITCFG section as words, and whether they fill it; each record takes at least three words. -/
def unitRecs : Nat → List Nat → List UnitRec × Bool
  | 0, l => ([], l.isEmpty)
  | _ + 1, [] => ([], true)
  | _ + 1, [_] => ([], false)
  | m + 1, a :: n :: l =>
    if n = 0 ∨ 256 < n ∨ l.length < n then ([], false)
    else
      let (r, ok) := unitRecs m (l.drop n)
      (⟨a, l.take n⟩ :: r, ok)

/-- The words of a section. -/
def sectionWords (s : Chip) (base : Nat) (x : Section) : List Nat :=
  (List.range (x.size / 4)).map fun i => s.load (base + x.offset + 4 * i) 4

def readUnits (s : Chip) (base : Nat) (x : Section) : List UnitRec × Bool :=
  let r := unitRecs (x.size / 4) (s.sectionWords base x)
  (r.1, r.2 && x.size % 4 == 0)

/-- Records of a fixed size in the sections of a type. -/
def records {α : Type} (s : Chip) (base : Nat) (l : List Section) (t size : Nat) (f : Chip → Nat → α) : List α :=
  (ofType l t).flatMap fun x => (List.range (x.size / size)).map fun i => f s (base + x.offset + size * i)

/-- The image of a bank as the configuration engine reads it. -/
def readImage (s : Chip) (b : Nat) : Image :=
  let base := bankBase b
  let l := s.readSections base
  { present := true, base := base, length := s.load (base + 8) 4, secVer := s.load (base + 0x10) 1,
    flags := s.load (base + 0x13) 1, nodeId := s.load (base + 0x14) 1, entryA := s.load (base + 0x18) 4,
    entryB := s.load (base + 0x1C) 4, build := s.load (base + 0x20) 8, sections := l,
    topo := (s.records base l 4 32 readTopo).take 4, motors := (s.records base l 8 64 readMotor).take 4,
    pins := s.records base l 3 4 readPin, ports := s.records base l 9 8 readPort,
    unitcfg := (ofType l 5).flatMap fun x => (s.readUnits base x).1 }

/-! ### Image checks (Table 04-5) -/

/-- Two sections share a byte. -/
def overlap (x y : Section) : Bool := x.offset < y.offset + y.size && y.offset < x.offset + x.size && 0 < x.size && 0 < y.size

/-- Every two members of a list in the order of the list. -/
def allPairs {α : Type} (p : α → α → Bool) : List α → Bool
  | [] => true
  | a :: l => l.all (p a) && allPairs p l

/-- Check 4. -/
def checkSections (len : Nat) (l : List Section) : Bool :=
  2 ≤ l.length && l.length ≤ 64 && l.all (fun x => 1 ≤ x.type && x.type ≤ 9 && x.offset + x.size ≤ len - 256)
    && allPairs (fun x y => !overlap x y) l && (ofType l 3).length == 1 && (ofType l 4).length == 1
    && [1, 2, 8, 9].all fun t => (ofType l t).length ≤ 1

/-- Check 12 (R145). -/
def checkTopo (flags : Nat) (l : List Topo) : Bool :=
  let r (k : Nat) : Topo := nth l k
  let apart (f : Topo → Nat) : Bool := allPairs (fun x y => Nat.land (f x) (f y) == 0) l
  let six := (r 0).type == 2 || (r 0).type == 3
  apart (·.slices) && apart (·.sar) && apart (·.cmp) && apart (·.sd)
    && allPairs (fun x y => x.position == 0xFF || x.position != y.position) l
    && (List.range 4).all fun k =>
      let t := r k
      ((bitsOf t.slices 16).all (fun n => sliceRgn n == rgnOf k) || (k == 0 && six))
        && (!(t.type == 2 || t.type == 3) || (k == 0 && (r 2).type == 4 && Nat.land t.slices 63 == 63))
        && (t.type != 4 || (k == 2 && six && t.slices == 0 && t.sar == 0 && t.cmp == 0 && t.sd == 0 && t.ain == 0))
        && (t.type != 5 || (Nat.land t.slices 63 == 0 && !hasBit t.policy 1 && !hasBit t.policy 2))
        && (!hasBit t.policy 0 || !hasBit flags (2 + rgnOf k))

/-- A target of R146. -/
def unitTarget (ports : List FabPort) (a : Nat) : Bool :=
  let inPort := match fabricPort a with
    | some p => ports.any fun d => d.port = p && a % 4 = 0 && a % 0x1000 / 4 < d.words
    | none => false
  0x40000000 ≤ a && a < 0x42000000 && a / 0x100000 != 0x41B
    && (inPort || ((fieldsAt a).getD []).any fun f => f.acc != .ro)

/-- Check 13. -/
def checkUnits (s : Chip) (im : Image) : Bool :=
  (ofType im.sections 5).all (fun x => (s.readUnits im.base x).2)
    && im.unitcfg.all fun u => (List.range u.words.length).all fun i => unitTarget im.ports (u.addr + 4 * i)

/-- The region of a FIRMWARE or LARDER section. -/
def sectionRgn (x : Section) : Nat := if x.type = 6 then bitOf x.flags 0 else (x.load - 0x42000000) / 0x10000 % 4 / 2

/-- A FIRMWARE section copied in phase 4. -/
def copied (x : Section) : Bool := x.type == 6 && !hasBit x.flags 1

/-- A range of bytes lies within another. -/
def within (a n lo hi : Nat) : Bool := lo ≤ a && a + n ≤ hi

/-- A section may be loaded where it asks (R134, R147). -/
def loadsWell (base : Nat) (x : Section) : Bool :=
  let half := 0x20000000 + 0x100000 * sectionRgn x
  if x.type != 6 then true
  else if hasBit x.flags 1 then x.load == base + x.offset
  else within x.load x.size 0 0x40000 || within x.load x.size 0x40000 0x80000 || within x.load x.size half (half + 0x100000)

/-- Check 14. -/
def checkCopies (im : Image) : Bool :=
  let total (l : List Section) : Nat := l.foldl (fun n x => n + x.size) 0
  let fits (g : Nat) : Bool :=
    let l := im.sections.filter fun x => (copied x || x.type == 7) && sectionRgn x == g
    total l ≤ 786432 && total (l.filter fun x => x.type = 6 && 0x20000000 ≤ x.load) ≤ 131072
  let entry (g a : Nat) : Bool := im.sections.any fun x =>
    x.type = 6 && within a 1 x.load (x.load + x.size) && (hasBit x.flags 1 || sectionRgn x == g)
  im.sections.all (loadsWell im.base) && fits 0 && fits 1 && entry 0 im.entryA && entry 1 im.entryB

/-- The number of the first check that a bank's image fails, 0 where it passes them all (R139). -/
def imageCheck (s : Chip) (b : Nat) : Nat :=
  let base := bankBase b
  let im := s.readImage b
  let n := im.length
  let sig := base + n - 256
  let slot := s.load (base + 0x12) 1
  let key := s.bytes (sig + 0x10) 64
  let ser := s.load (base + 0x28) 8
  if s.load base 4 != 0x4D4E4C46 || s.load (base + 4) 2 != 1 || s.load (base + 6) 2 != 0x40 then 1
  else if n % 256 != 0 || n < 4096 || 4194304 < n then 2
  else if s.load (base + 0x0E) 2 != 0x2612 then 3
  else if !checkSections n im.sections then 4
  else if 3 < slot || hasBit s.cfg.fuses.revoke slot || sha256 key != s.cfg.fuses.keyHash.getD slot 0 then 5
  else if !ecdsaOk key (s.bytes (sig + 0x50) 64) (s.bytes base (n - 256)) then 6
  else if im.secVer < s.cfg.fuses.arb then 7
  else if !hasBit (s.load (base + 0x11) 1) (lcState s.cfg.fuses) then 8
  else if ser != 0 && ser != s.cfg.fuses.serial then 9
  else if !im.sections.all (fun x => crc32 (s.bytes (base + x.offset) x.size) == x.crc) then 10
  else if !im.sections.all (fun x => (x.type != 1 && x.type != 2) || x.size == 74752) then 11
  else if !checkTopo im.flags im.topo then 12
  else if !s.checkUnits im then 13
  else if !checkCopies im then 14
  else 0

/-! ### Steps 1 to 4 -/

/-- The regions of this start (R101): after a wake the marks of the slots latched, else both. -/
def bootRgns (s : Chip) : Nat :=
  if s.pwr.waking then
    max 1 ((bitsOf s.pwr.latched 16).foldl (fun m n => Nat.lor m (if s.slotRgn n = 0 then 1 else s.slotRgn n)) 0)
  else 3

/-- Step 2: causes of the reset, life-cycle state, identity, nonce (R158, R163). -/
def bootStepTwo (s : Chip) : Chip :=
  let causes := s.cfg.causeNext
  let f := s.cfg.fuses
  let bit (n : Nat) : Nat := bitOf causes n
  let s := s.sets [(Reg.CFG_RST_CAUSE_aon_por, bit 1), (Reg.CFG_RST_CAUSE_rail_por, bit 2), (Reg.CFG_RST_CAUSE_bor_core, bit 3),
    (Reg.CFG_RST_CAUSE_bor_io, bit 4), (Reg.CFG_RST_CAUSE_rst_pin, bit 5), (Reg.CFG_RST_CAUSE_sw_module, bit 6),
    (Reg.CFG_RST_CAUSE_sleep_wake, bit 7), (Reg.CFG_RST_CAUSE_clk, bit 8), (Reg.CFG_RST_CAUSE_dbg, bit 9)]
  let s := forEach s.cfg.borNext (fun code t => t.record code 4 0 7 0 0) s
  let s := if (s.cfg.causePrev ++ [causes]).any fun w => hasBit w 1 then s.note 0x0D25 0 0 else s
  let s := forEach (s.cfg.causePrev ++ [causes]) (fun w t => t.note 0x0E13 0 w) s
  let s := s.modCfg fun c => { c with causeNext := 0, causePrev := [], borNext := [] }
  let st := lcState f
  (s.sets [(Reg.CEL_STAT_lc, st), (Reg.CFG_LC_STAT_state, st), (Reg.CFG_LC_STAT_next, st), (Reg.CFG_LC_STAT_toggles, f.toggles),
    (Reg.CFG_LC_STAT_debug_open, b2n (st == 0)),
    (Reg.CFG_ARB_fused, f.arb), (Reg.CFG_SERIAL0_value, f.serial), (Reg.CFG_SERIAL1_value, f.serial / 2 ^ 32)]).newNonce

/-- The data word of BOOTREC_WRITE_FAIL (Table 04-16). -/
def trialCode : TrialWrite → Nat
  | .done | .refused => 0
  | .failed => 1
  | .temperature => 2

/-- Step 3: the bank to start from and whether it runs as a trial (Table 04-12). DESIGN CHOICE (log entry 55): a trial-count write that
fails here is recorded as BOOTREC_WRITE_FAIL and leaves CFG_BANK_CTL.wr_fail at 0. -/
def bankChoice (s : Chip) (w : TrialWrite) : Chip × Nat × Bool :=
  let r := s.bootRec
  if r.trial = 0 then (s.showBoot, r.pref, false)
  else if r.tries = 0 then
    let s := s.note 0x0E22 0 r.pref
    if w = .done then (s.bootStore ⟨1 - r.pref, 0, 0⟩, 1 - r.pref, false)
    else (s.showBoot.note 0x0E23 0 (trialCode w), 1 - r.pref, false)
  else if w = .done then (s.bootStore { r with tries := r.tries - 1 }, r.pref, true)
  else (s.showBoot.note 0x0E23 0 (trialCode w), 1 - r.pref, false)

/-- An island that PINFUNC marks unused is UNUSED; one that it no longer marks is UNSUPPLIED again. -/
def markIslands (s : Chip) : Chip :=
  forEach (List.range 12) (fun n t =>
    if t.img.pins.any fun p => p.pin = 0x400 + n && p.func = 0 then
      (t.modIsl n fun i => { i with real := 7 }).set (Reg.ISL_STAT_state n) 7
    else if (nth t.isl n).real = 7 then t.modIsl n fun i => { i with real := 0 }
    else t) s

/-- The end of step 4 for an accepted bank: the header's flags and the image's values outside UNITCFG act (R131, R140). DESIGN CHOICE
(log entry 55): CFG_BOOT_STAT.fallback and trial are set here only, and follow no later update or confirm. -/
def bootAccept (s : Chip) (b : Nat) (trial : Bool) : Chip :=
  let im := s.readImage b
  let s := { s with img := im }
  let s := s.set Reg.RING_STAT_node s.nodeNumber
  let s := s.sets [(Reg.CFG_BUILD0_value, im.build), (Reg.CFG_BUILD1_value, im.build / 2 ^ 32), (Reg.CFG_ARB_image_sv, im.secVer),
    (Reg.CFG_BOOT_STAT_bank, b), (Reg.CFG_BOOT_STAT_trial, b2n trial), (Reg.CFG_BOOT_STAT_fallback, b2n (b != s.bootRec.pref)),
    (Reg.CFG_BOOT_STAT_split_a, bitOf im.flags 2), (Reg.CFG_BOOT_STAT_split_b, bitOf im.flags 3),
    (Reg.CLK_STAT_ref_ext, bitOf im.flags 6), (Reg.CEL_PWR_CFG_rst_stuck_mask, bitOf im.flags 0)]
  let w := s.acting 0x41A00804
  let w := if hasBit im.flags 0 then setBit w 2 else clrBit w 2
  let req := s.pinFunc wake3Land == 4
  let s := if req then s.put Reg.CEL_PWR_CFG_pwr_req_en true else s
  let s := (s.modPwr fun p => { p with acting := insertAt 0x41A00804 (if req then setBit w 0 else w) p.acting }).showReq
  let s := forEach [0, 1] (fun g t => t.modRgn g fun r => { r with split := hasBit im.flags (2 + g) }) s
  forEach (List.range 4) (fun k t => t.safetyWords k) s.markIslands

/-! ### UNITCFG (R146) -/

/-- A register with a field that a write commands. -/
def commands (a : Nat) : Bool := ((fieldsAt a).getD []).any fun f => f.acc = .w1s || f.acc = .wo || f.acc = .w1c

/-- A UNITCFG word reaches its register. -/
def unitWord (s : Chip) (a d : Nat) : Chip :=
  let w := a / 0x100000
  if a = 0x41800024 then s.hostwrWrite (.hart 0) d
  else if commands a then s.blockWrite .engine a d
  else if w = 0x400 ∨ w = 0x410 ∨ w = 0x411 ∨ w = 0x412 ∨ w = 0x413 then s.configWrite a d
  else if w = 0x414 then (s.configWord a d).refreshHolds
  else if w = 0x415 then s.configWord a d
  else s.blockWrite .engine a d

def unitWords (p : Nat → Bool) : Nat → List Nat → Chip → Chip
  | _, [], s => s
  | a, d :: l, s => unitWords p (a + 4) l (if p a then s.unitWord a d else s)

/-- The slot that a UNITCFG word is applied in (R146): 0 and 1 that of the region that owns the register, 2 that of the first
region brought up at the start (R169, R267, R544, and the twin block by R646), 3 region A's, for the Cellar, clock, CAN, ring and Hallway blocks. -/
def recOwner (s : Chip) (a : Nat) : Nat :=
  let w := a / 0x100000
  let o := a % 0x100000
  let byCluster : Nat := if (s.unitAt a).cluster < 4 then rgnOf (s.unitAt a).cluster else 0
  if inRegion 0 a then 0
  else if inRegion 1 a then 1
  else if w = 0x411 ∧ o < 0x1800 then o / 0x200 / 6
  else if w = 0x412 then
    if (0x100 ≤ o ∧ o < 0x180) ∨ (0x210 ≤ o ∧ o < 0x270) ∨ (0x500 ≤ o ∧ o < 0x580) ∨ (0x1000 ≤ o ∧ o < 0x1800) then byCluster
    else 2
  else if w = 0x413 then byCluster
  else if (w = 0x414 ∨ w = 0x415 ∨ w = 0x419) ∧ 0x100 ≤ o ∧ o < 0x200 then (o - 0x100) / 0x80
  else if w = 0x415 ∧ 0x200 ≤ o ∧ o < 0x260 then (o - 0x200) / 0x30
  else if w = 0x41C ∧ o < 0x20000 then o / 0x10000
  else if w = 0x416 ∨ (w = 0x417 ∧ o < 0x10000) ∨ w = 0x418 ∨ w = 0x41A then 3
  else 2

/-! ### Region slots (Table 04-3) -/

/-- Spare rows of a memory instance in use: by fuses, and by the rows mapped at this start. -/
def sparesUsed (s : Chip) (m : Nat) : Nat :=
  ((s.cfg.fuses.repairs ++ s.cfg.mapped).filter fun p => p.1 = m).length

/-- CFG_ST_STAT.spares: the fewest free spare rows of any instance. -/
def showSpares (s : Chip) : Chip :=
  s.set Reg.CFG_ST_STAT_spares (4 - (List.range 16).foldl (fun x m => max x (min 4 (s.sparesUsed m))) 0)

/-- Result of region g's last test. -/
def resField (g : Nat) : Field := if g = 0 then Reg.CFG_ST_STAT_res_a else Reg.CFG_ST_STAT_res_b

/-- A failure of a slot: a HALT (R163), and the region is held in reset until the next control-die reset (Table 04-4). -/
def slotFail (s : Chip) (g code data : Nat) : Chip :=
  let s := s.record code 4 0 7 g data
  let s := s.put (if g = 0 then Reg.CFG_RST_CAUSE_halt_a else Reg.CFG_RST_CAUSE_halt_b) true
  let s := s.record 0x0E13 0 0 7 g (s.regWord 0x41B00000)
  ((s.modRgn g fun r => { r with inReset := true, dead := true }).haltPartner g code).refreshHolds

/-- Failing rows are mapped to spares in turn; the first instance with no spare left is answered. -/
def repairRows : List (Fin 16 × Nat) → Chip → Chip × Option Nat
  | [], s => (s, none)
  | (m, row) :: l, s =>
    if 4 ≤ s.sparesUsed m then (s, some m)
    else repairRows l ((s.modCfg fun c => { c with mapped := c.mapped ++ [(m.val, row)] }).note 0x0E31 0 (m.val + 256 * row))

/-- Phases 1 and 2; true where the region may go on. DESIGN CHOICE (log entry 55): CFG_ST_STAT.spares is loaded here, at the first
memory test of a slot, so it reads 0 where no slot runs. -/
def slotTests (s : Chip) (g : Nat) (o : SlotOutcome) : Chip × Bool :=
  if o.logicFail then ((s.slotFail g 0x0E30 1).set (resField g) 3, false)
  else
    let before := s.cfg.mapped.length
    let r := repairRows o.memRows s
    let s := r.1
    let found := before < s.cfg.mapped.length
    let s := (if found then s.repairsSubmit else s).showSpares
    match r.2 with
    | some m => ((s.slotFail g 0x0E30 (2 + 256 * m)).set (resField g) 3, false)
    | none => (s.set (resField g) (if found then 2 else 1), true)

/-- The sections that phase 4 of region g copies. -/
def slotSections (s : Chip) (g : Nat) : List Section :=
  s.img.sections.filter fun x => (copied x || x.type == 7) && sectionRgn x == g

/-- A section is copied: FIRMWARE to its memory, LARDER to both copies of its cluster's block (R221). -/
def copySection (s : Chip) (g : Nat) (x : Section) : Chip :=
  let l := s.bytes (s.img.base + x.offset) x.size
  if x.type = 6 then
    let a := if x.load < 0x80000 then tcmKey g x.load else x.load
    (s.setBytes a l).eccFresh a x.size
  else if within (x.load % 0x10000) x.size 0 0x8000 && within x.load x.size 0x42000000 0x42040000 then
    ((s.setBytes x.load l).eccFresh x.load x.size |>.setBytes (x.load + 0x8000) l).eccFresh (x.load + 0x8000) x.size
  else s

/-- Phase 3: the fabric half is written from its FABRIC section, where the image has one (R12, R141). -/
def fabricLoad (s : Chip) (g : Nat) : Chip :=
  match (ofType s.img.sections (1 + g)).head? with
  | some x => s.setBytes (nodeKey g 0) (s.bytes (s.img.base + x.offset) (min x.size 74752))
  | none => s

/-- Phases 3 and 4: the fabric, the copies, UNITCFG in record order, the cores' release; `also` selects the words applied
besides those of the region itself. True where the region runs. -/
def slotRest (s : Chip) (g : Nat) (o : SlotOutcome) (also : Nat → Bool) : Chip × Bool :=
  let bad := o.sectionBad.filter fun i => (s.slotSections g).contains (nth s.img.sections i)
  match o.fabricBad, bad with
  | some n, _ => (s.slotFail g 0x0E32 n, false)
  | none, some i => (s.slotFail g 0x0E30 (4 + 256 * i), false)
  | none, none =>
    let s := forEach (s.slotSections g) (fun x t => t.copySection g x) (s.fabricLoad g)
    let s := forEach [2 * g, 2 * g + 1] (fun k t => (t.set (Reg.SEQ_LDR_ACT_act k) 0).modAge k fun a =>
      { a with swapDue := false, applied := false }) s
    let s := forEach s.img.unitcfg (fun u t => unitWords (fun a => inRegion g a || also a) u.addr u.words t) (s.regionOpen g)
    let s := s.regionUp g
    let pc := if g = 0 then s.img.entryA else s.img.entryB
    let s := forEach [2 * g, 2 * g + 1] (fun c t => t.modHart c fun h => { h with pc := pc }) s
    (s.put (if g = 0 then Reg.CFG_BOOT_STAT_rgn_a_up else Reg.CFG_BOOT_STAT_rgn_b_up) true, true)

/-- The UNITCFG words of region g's slot; `first` says that no region has been brought up at this start before it. -/
def slotWords (s : Chip) (g : Nat) (first : Bool) (a : Nat) : Bool :=
  let w := s.recOwner a
  w == g || (w == 2 && first) || (w == 3 && g == 0)

/-- A whole slot of a start or a late bring-up. -/
def regionSlot (s : Chip) (g : Nat) (o : SlotOutcome) (late : Bool) : Chip :=
  let r := (s.isoAssert g).slotTests g o
  if r.2 then
    let s := r.1
    (s.slotRest g o (s.slotWords g (!late && !(s.region 0).up && !(s.region 1).up))).1
  else r.1

/-! ### Injection tests (R162, R461) -/

/-- The comparators that the clusters of region g own, and with `free` those that no cluster owns. -/
def cmpsOf (s : Chip) (g : Nat) (free : Bool) : List Nat :=
  (List.range 16).filter fun c =>
    match (s.owners (·.cmp) c).head? with
    | some k => rgnOf k == g
    | none => free

/-- The injection test of comparators: the first failing crossing of each is recorded. -/
def cmpTest (s : Chip) (l : List Nat) (fails : List (Fin 16 × Fin 4)) : Chip :=
  let s := forEach l (fun c t => t.clrBitOf Reg.CFG_ST_STAT_cmp_fail c) s
  forEach fails (fun p t =>
    let c := p.1.val
    if !l.contains c || hasBit (t.get Reg.CFG_ST_STAT_cmp_fail) c then t
    else
      let t := t.setBitOf Reg.CFG_ST_STAT_cmp_fail c
      let d := c + 256 * p.2.val
      match (t.owners (·.cmp) c).head? with
      | some k => t.faultCl 0x0E34 3 c k d
      | none => t.record 0x0E34 3 c 7 0 d) s

/-- The difference-injection test of region g; `step` is its first failing step, 0 none (R460 to R462). -/
def diffTest (s : Chip) (g step : Nat) : Chip :=
  let res := if g = 0 then Reg.SAFE_TEST_STAT_res_a else Reg.SAFE_TEST_STAT_res_b
  let sf := if g = 0 then Reg.SAFE_TEST_STAT_step_a else Reg.SAFE_TEST_STAT_step_b
  if (s.region g).split then s.set res 3
  else if step = 0 then (s.sets [(res, 1), (sf, 0)]).modRgn g fun r => { r with diffOk := true }
  else
    let s := (s.sets [(res, 2), (sf, step), (Reg.SAFE_FLAGS_inj_fail, 1)]).modRgn g fun r => { r with diffOk := false }
    s.faultAll 0x0725 3 g [2 * g, 2 * g + 1] step

/-! ### Handshakes (step 8, R384, R406) -/

/-- The islands of the regions handshake, in parallel. One whose ISO_EN output is released, or that waits in BOOT mode for its
supply, handshakes later and fails nothing; one whose handshake has failed waits for its unit reset. -/
def slotHandshake (s : Chip) (gs : List Nat) (o : TestOutcome) : Chip :=
  if s.retired then s
  else
    let used := (List.range 12).filter fun n => gs.contains (n / 6) && s.islUsed n
    let s := forEach used (fun n t => t.modIsl n fun i => { i with opened := true }) s
    let live := used.filter fun n =>
      s.isoOn n && !(s.island n).hsFailed && !(s.on (Reg.ISL_CFG_supply n) && (s.island n).real == 0)
    let fails (n : Nat) : Bool := o.islFail.any fun m => m.val = n
    let good := live.filter fun n => !fails n
    let s := forEach (live.filter fails) (fun n t => t.handshakeFail n) s
    let s := s.calibrateAll (good.map fun n => (n, (o.islRaw.map (·.val)).getD n 0))
    forEach good (fun n t => t.handshakeWhole n) s

/-- A RUN request held until the start was done acts (R136). -/
def heldRun (s : Chip) (k : Nat) : Chip :=
  let s := s.refall k
  if (s.cluster k).held = 1 && s.quiet k && s.startDone k then s.startRun k else s

def diffOf (o : TestOutcome) (g : Nat) : Nat := if g = 0 then o.diffA.val else o.diffB.val

/-! ### The whole start (Table 04-2) -/

/-- Steps 5 to 9. -/
def bootRegions (s : Chip) (o : BootOutcome) : Chip :=
  let m := s.bootRgns
  let l := bitsOf m 2
  let s := s.modPwr fun p => { p with waking := false, latched := 0 }
  let s := forEach ([0, 1].filter fun g => !hasBit m g) (fun g t =>
    t.put (if g = 0 then Reg.CLK_STAT_rgn_a_gated else Reg.CLK_STAT_rgn_b_gated) true) s
  let s := forEach l (fun g t => t.regionSlot g (if g = 0 then o.slotA else o.slotB) false) s
  let up := [0, 1].filter fun g => (s.region g).up
  let s := s.modCfg fun c => { c with first := up.head? }
  let s := s.cmpTest ((List.range 16).filter fun c => up.any fun g => (s.cmpsOf g true).contains c) o.tests.cmpFail
  let s := forEach up (fun g t => t.diffTest g (diffOf o.tests g)) s
  let s := s.slotHandshake up o.tests
  let s := s.sets [(Reg.CFG_BOOT_STAT_step, 9), (Reg.CFG_BOOT_STAT_torque_ready, 1), (Reg.CFG_EVENT_torque_ready_ev, 1)]
  let s := (s.modCfg fun c => { c with boot := 1 }).applyContactors false
  let s := (forEach [0, 1, 2, 3] (fun k t => t.heldRun k) s).refreshHolds
  forEach [0, 1] (fun g t => if t.on (upField g) then t.lateStart g else t) s

/-- Steps 3 and 4, for the second bank where the first is rejected (R139, R154). A trial bank that runs after all, since its
count could not be written and the other bank was rejected, does not run as a trial (log entry 54). -/
def bootImage (s : Chip) (o : BootOutcome) : Chip :=
  let (s, b, trial) := s.bankChoice o.trial
  let c1 := s.imageCheck b
  if c1 = 0 then (s.bootAccept b trial).bootRegions o
  else
    let s := (s.set Reg.CFG_BOOT_STAT_reject c1).note 0x0E20 0 (c1 + 256 * b)
    let c2 := s.imageCheck (1 - b)
    if c2 = 0 then (s.bootAccept (1 - b) false).bootRegions o
    else
      let s := s.sets [(Reg.CFG_BOOT_STAT_reject, c2), (Reg.CFG_BOOT_STAT_recovery, 1),
        (Reg.CFG_BOOT_STAT_step, if c2 ≤ 5 then 3 else 4)]
      let s := (s.modCfg fun c => { c with boot := 3 }).set Reg.RING_STAT_node s.nodeNumber
      let s := s.modPwr fun p => { p with waking := false, latched := 0 }
      s.faultEvery 0x0E21 0 (if b = 0 then c1 + 256 * c2 else c2 + 256 * c1)

/-- The start-up sequence from PLL lock. -/
def bootRun (s : Chip) (o : BootOutcome) : Chip :=
  let s := s.bootStepTwo
  match o.fuseBad with
  | some w =>
    let s := (s.set Reg.CFG_BOOT_STAT_step 2).modCfg fun c => { c with boot := 2 }
    (s.modPwr fun p => { p with waking := false, latched := 0 }).faultEvery 0x0E25 0 w
  | none => s.bootImage o

/-! ### Later slots -/

/-- Region g may run its slot now. -/
def slotReady (s : Chip) (g : Nat) : Bool :=
  s.pwr.locked && s.cfg.boot == 1 && (s.region g).inReset && !(s.region g).dead

/-- Phases 3 and 4 after a region reset. -/
def restart (s : Chip) (g : Nat) (o : SlotOutcome) : Chip × Bool := s.slotRest g o fun _ => false

/-- The end of a late bring-up (R135): slot, tests, handshakes, event. -/
def lateEnd (s : Chip) (g : Nat) (o : SlotOutcome) (t : TestOutcome) : Chip :=
  let s := s.regionSlot g o true
  let s := if (s.region g).up then
      ((s.cmpTest (s.cmpsOf g false) t.cmpFail).diffTest g (diffOf t g)).slotHandshake [g] t
    else s
  let s := s.put Reg.CFG_EVENT_rgn_up_ev true
  let s := s.modCfg fun c => { c with bringUp := clrBit c.bringUp g }
  (forEach [2 * g, 2 * g + 1] (fun k t => t.heldRun k) s).refreshHolds

/-- The end of a full self-test (R159). A region that failed at this start stays in reset (Table 04-4), and one whose late
bring-up waits is brought up by it; a region not brought up yet comes up with the words of its slot. -/
def fullEnd (s : Chip) (g : Nat) (o : SlotOutcome) (t : TestOutcome) : Chip :=
  let dead := (s.region g).dead || hasBit s.cfg.bringUp g
  let up := (s.region g).up
  let r := s.slotTests g o
  let r := if r.2 && !dead then r.1.slotRest g o (fun a => !up && r.1.slotWords g false a) else (r.1, false)
  let s := if r.2 then
      let s := r.1.cmpTest (r.1.cmpsOf g false) t.cmpFail
      let s := forEach ((List.range 12).filter fun n => n / 6 == g) (fun n u => u.islandReset n) s
      s.slotHandshake [g] t
    else r.1
  let s := (s.put (fullField g) false).modCfg fun c => { c with selfTest := clrBit c.selfTest g }
  ((s.put Reg.CFG_EVENT_st_done_ev true).showSt).testHolds g

end Chip

end Sys2Proof.Machine
end

