-- ==== Sys2Proof/Machine/Startup.lean ====
section
/-! DEFINITION. The commands of reset, start-up, life cycle, self-test and GPIO (chapter 04). -/

namespace Sys2Proof.Machine

open Chip

/-! ### The reset pin (R125 to R130) -/

/-- RESET_PIN (R125): RST_N is accepted low; a masked pin has no effect. -/
def execResetPin (s : State) : Out :=
  s.actRaw fun c =>
    let c := c.modCfg fun x => { x with rstLow := true }
    if c.on Reg.CEL_STAT_rst_masked then c
    else if c.pwr.dieReset then c.modCfg fun x => { x with causeNext := setBit x.causeNext 5 }
    else c.dieReset (2 ^ 5)

/-- RESET_PIN_RELEASE (R125): RST_N has been high again for 1 µs. -/
def execResetPinRelease (s : State) : Out :=
  s.actRaw fun c =>
    if !c.cfg.rstLow then c
    else
      let masked := c.on Reg.CEL_STAT_rst_masked
      let c := (c.modCfg fun x => { x with rstLow := false, rstStuck := x.rstStuck && masked }).set Reg.CEL_RSTLOW_count 0
      if masked then c else c.tryRelease

/-- RESET_STUCK (R127, R128): RST_N has been low for 10 s. The entry goes to the retention log. -/
def execResetStuck (s : State) : Out :=
  s.actRaw fun c =>
    if !c.cfg.rstLow || c.cfg.rstStuck || c.on Reg.CEL_STAT_rst_masked || c.pwr.state == .dormant || c.pwr.state == .off then c
    else
      let c := c.set Reg.CEL_RSTLOW_count (max 327680 (c.get Reg.CEL_RSTLOW_count))
      let e : LogEntry := ⟨0x0E10, 0, 0, 7, 0, c.stamp, 0, c.log.seq, c.get Reg.CEL_RSTLOW_count⟩
      let c := { c with log := { c.log with seq := (c.log.seq + 1) % 65536 } }
      let c := (c.retain e).modCfg fun x => { x with rstStuck := true }
      if hasBit (c.acting 0x41A00804) 2 then ((c.put Reg.CEL_STAT_rst_masked true).tryRelease).note 0x0E11 0 0 else c

/-- RST_UNMASKED (R129): a masked RST_N has read high for 100 ms. -/
def execRstUnmasked (s : State) : Out :=
  s.actRaw fun c =>
    if !c.on Reg.CEL_STAT_rst_masked || c.cfg.rstLow || c.pwr.state == .dormant || c.pwr.state == .off then c
    else ((c.put Reg.CEL_STAT_rst_masked false).modCfg fun x => { x with rstStuck := false }).note 0x0E12 0 0

/-! ### Resets by register and by debug -/

/-- SW_MODULE_RESET (R123): a write to CFG_RST_CTL. -/
def execSwModuleReset (d : Word) (s : State) : Out := s.act fun c => c.rstCtlWrite d.toNat

/-- SW_REGION_RESET (R123): a write to CFG_RST_CTL. -/
def execSwRegionReset (d : Word) (s : State) : Out := s.act fun c => c.rstCtlWrite d.toNat

/-- REGION_RESET_END (R16, Table 04-3): the region leaves reset, where nothing holds it there, with phases 3 and 4 again. A
pass of the CLK_MAIN monitor returns the safety logic to CLK_MAIN (Table 03-9). -/
def execRegionResetEnd (g : Fin 2) (o : SlotOutcome) (s : State) : Out :=
  s.act fun c =>
    if c.slotReady g && (c.region g).up && !hasBit c.cfg.selfTest g && !hasBit c.cfg.bringUp g then
      let c := (c.restart g o).1
      let c := c.modPwr fun p => { p with safetyOnMon := false }
      forEach [0, 2] (fun k t => t.modCl k fun x =>
        { x with faults := x.faults.filter fun y => !(haltCode y.code && t.causeGone k y) }) c |>.settleHolds
    else c

/-- DEBUG_RESET (R123, Table 04-13): where debug is open. -/
def execDebugReset (t : DebugTarget) (s : State) : Out :=
  s.act fun c =>
    if !c.debugOpen then c
    else
      match t with
      | .regionA => c.rgnAsked 0 Reg.CFG_RST_CAUSE_dbg
      | .regionB => c.rgnAsked 1 Reg.CFG_RST_CAUSE_dbg
      | .die => (c.dieReset (2 ^ 9)).tryRelease

/-! ### Start-up -/

/-- BOOT_SEQUENCE (R132): steps 1 to 9 from PLL lock, once after each release of the control die. -/
def execBootSequence (o : BootOutcome) (s : State) : Out :=
  s.act fun c => if c.pwr.locked && c.cfg.boot == 0 then c.bootRun o else c

/-- LATE_BRINGUP (R135): a write of 1 to CLK_RGN_CTL.up_a or up_b. -/
def execLateBringup (g : Fin 2) (s : State) : Out := s.act fun c => c.upWrite g

/-- LATE_BRINGUP_DONE (R135). -/
def execLateBringupDone (g : Fin 2) (o : SlotOutcome) (t : TestOutcome) (s : State) : Out :=
  s.act fun c =>
    if c.slotReady g && hasBit c.cfg.bringUp g && !hasBit c.cfg.selfTest g then c.lateEnd g o t else c

/-! ### Boot record, anti-rollback, life cycle -/

/-- BANK_UPDATE (R153): a write to CFG_BANK_CTL. -/
def execBankUpdate (d : Word) (s : State) : Out := s.act fun c => c.bankWrite d.toNat

/-- BANK_CONFIRM (R153): a write of 1 to CFG_BANK_CTL.confirm. -/
def execBankConfirm (s : State) : Out := s.act fun c => c.bankWrite (2 ^ 8)

/-- BOOTREC_WRITE_END (R153): an update that has started ends. -/
def execBootrecWriteEnd (ok : Bool) (s : State) : Out :=
  s.act fun c => if c.chm.writes.any fun w => w.owner = WriteOwner.boot && w.started then c.bootEnd ok 1 else c

/-- ARB_COMMIT (R150): a write to CFG_ARB. -/
def execArbCommit (d : Word) (s : State) : Out := s.act fun c => c.arbWrite d.toNat

/-- ARB_COMMIT_END (R149, R150): the count stands at the image's sec_version, or at sixty-four, the number of fuses. -/
def execArbCommitEnd (s : State) : Out :=
  s.act fun c =>
    if c.on Reg.CFG_ARB_busy then
      let n := min 64 (c.get Reg.CFG_ARB_image_sv)
      (c.modFuses fun f => { f with arb := n }).sets [(Reg.CFG_ARB_fused, n), (Reg.CFG_ARB_busy, 0), (Reg.CFG_EVENT_arb_ev, 1)]
    else c

/-- TOKEN_SUBMIT (R157): a write to CFG_LC_TOKEN. -/
def execTokenSubmit (d : Word) (s : State) : Out := s.act fun c => c.tokenWrite d.toNat

/-- TOKEN_CHECK_END (R156 to R158); `fuseOk`: the fuse that the token sets has verified. -/
def execTokenCheckEnd (fuseOk : Bool) (s : State) : Out :=
  s.act fun c =>
    match c.cfg.token with
    | none => c
    | some i =>
      let kind := c.load (bufAddr i + 4) 1
      let t := (c.modCfg fun x => { x with token := none }).put Reg.CFG_LC_STAT_busy false
      match c.tokenCheck i with
      | .inl r => t.tokenReject r
      | .inr f => if fuseOk || kind == 2 then t.tokenAccept kind f else t.tokenReject 9

/-! ### Self-test and repair -/

/-- FULL_SELFTEST (R159): a write of 1 to CFG_ST_CTL.full_a or full_b. -/
def execFullSelftest (g : Fin 2) (s : State) : Out := s.act fun c => c.fullStart g

/-- FULL_SELFTEST_END (R159). -/
def execFullSelftestEnd (g : Fin 2) (o : SlotOutcome) (t : TestOutcome) (s : State) : Out :=
  s.act fun c =>
    if c.pwr.locked && c.cfg.boot == 1 && hasBit c.cfg.selfTest g then c.fullEnd g o t else c

/-- FUSE_REPAIR (R161): a write of 1 to CFG_ST_CTL.fuse_repair. -/
def execFuseRepair (s : State) : Out := s.act fun c => c.repairStart

/-- FUSE_REPAIR_END (R161); `good` says of each entry in turn whether it verified. The record without the moved entries is a data-flash
write like any other (R160). -/
def execFuseRepairEnd (good : List Bool) (s : State) : Out :=
  s.act fun c =>
    if !c.on Reg.CFG_ST_CTL_fuse_repair then c
    else
      let old := c.cfg.softRepair.filter fun p => !c.cfg.fuses.repairs.contains p
      let r := moveRepairs old good c.cfg.fuses.repairs
      let c := c.modCfg fun x => { x with mapped := r.1 ++ x.mapped.filter fun p => !old.contains p }
      let c := (c.modFuses fun f => { f with repairs := r.2 }).repairsSubmit
      (c.sets [(Reg.CFG_ST_CTL_fuse_repair, 0), (Reg.CFG_EVENT_st_done_ev, 1)]).showSt

/-! ### GPIO (R166 to R170) -/

/-- GPIO_SET (R170). -/
def execGpioSet (d : Word) (s : State) : Out := s.act fun c => c.gpioWrite 0x41C20008 d.toNat

/-- GPIO_CLR (R170). -/
def execGpioClr (d : Word) (s : State) : Out := s.act fun c => c.gpioWrite 0x41C2000C d.toNat

/-- GPIO_EDGE (R167, R168): the level of a pin after the inversion attribute rises or falls, whatever the control die's reset;
a pin that the module drives takes no other level. -/
def execGpioEdge (p : Fin 32) (rise : Bool) (s : State) : Out :=
  s.actRaw fun c =>
    let old := hasBit (Nat.xor c.cfg.gpioIn c.gpioInv) p
    if old == rise || (hasBit c.gpioPins p && hasBit (c.get Reg.GPIO_DIR_v) p) then c
    else
      let c := c.modCfg fun x => { x with gpioIn := Nat.xor x.gpioIn (2 ^ p.val) }
      let en := c.get (if rise then Reg.GPIO_RISE_EN_v else Reg.GPIO_FALL_EN_v)
      if hasBit c.gpioPins p && hasBit en p then c.setBitOf Reg.GPIO_FLAGS_v p else c

end Sys2Proof.Machine
end

