-- ==== Sys2Proof/Machine/Dispatch.lean ====
section
/-! DEFINITION. The meaning of every command: one arm per row of the spec's table. -/

namespace Sys2Proof.Machine

/-- The effect of a command on everything but the queue. -/
def exec (i : Instr) (s : State) : Host.Outcome State Fault Refusal :=
  match i with
  | .registerWrite r a d => Sys2Proof.Machine.execRegisterWrite r a d s
  | .unitReset u => Sys2Proof.Machine.execUnitReset u s
  | .unitResetEnd u => Sys2Proof.Machine.execUnitResetEnd u s
  | .configReadback g bad => Sys2Proof.Machine.execConfigReadback g bad s
  | .fenceInstruction c pred => Sys2Proof.Machine.execFenceInstruction c pred s
  | .fenceI c => Sys2Proof.Machine.execFenceI c s
  | .flagRelease r buf d => Sys2Proof.Machine.execFlagRelease r buf d s
  | .logEntryFlashWrite => Sys2Proof.Machine.execLogEntryFlashWrite s
  | .brownOut rail => Sys2Proof.Machine.execBrownOut rail s
  | .railWarn rail below => Sys2Proof.Machine.execRailWarn rail below s
  | .powerOnRelease => Sys2Proof.Machine.execPowerOnRelease s
  | .cellarReset rails => Sys2Proof.Machine.execCellarReset rails s
  | .sleepRequest d => Sys2Proof.Machine.execSleepRequest d s
  | .cellarTransfer => Sys2Proof.Machine.execCellarTransfer s
  | .sleepRailWaitEnd fell => Sys2Proof.Machine.execSleepRailWaitEnd fell s
  | .wakeSlotFire slot => Sys2Proof.Machine.execWakeSlotFire slot s
  | .pllLock => Sys2Proof.Machine.execPllLock s
  | .refLoss edges => Sys2Proof.Machine.execRefLoss edges s
  | .refReturn => Sys2Proof.Machine.execRefReturn s
  | .pllUnlock ps => Sys2Proof.Machine.execPllUnlock ps s
  | .mainFreq count => Sys2Proof.Machine.execMainFreq count s
  | .coreClkFail g => Sys2Proof.Machine.execCoreClkFail g s
  | .monoscFail count => Sys2Proof.Machine.execMonoscFail count s
  | .aonXtalFail outOfWindow => Sys2Proof.Machine.execAonXtalFail outOfWindow s
  | .regionGateClose g => Sys2Proof.Machine.execRegionGateClose g s
  | .wfi c => Sys2Proof.Machine.execWfi c s
  | .resetPin => Sys2Proof.Machine.execResetPin s
  | .resetPinRelease => Sys2Proof.Machine.execResetPinRelease s
  | .resetStuck => Sys2Proof.Machine.execResetStuck s
  | .rstUnmasked => Sys2Proof.Machine.execRstUnmasked s
  | .swModuleReset d => Sys2Proof.Machine.execSwModuleReset d s
  | .swRegionReset d => Sys2Proof.Machine.execSwRegionReset d s
  | .regionResetEnd g o => Sys2Proof.Machine.execRegionResetEnd g o s
  | .debugReset t => Sys2Proof.Machine.execDebugReset t s
  | .bootSequence o => Sys2Proof.Machine.execBootSequence o s
  | .lateBringup g => Sys2Proof.Machine.execLateBringup g s
  | .lateBringupDone g o t => Sys2Proof.Machine.execLateBringupDone g o t s
  | .bankUpdate d => Sys2Proof.Machine.execBankUpdate d s
  | .bankConfirm => Sys2Proof.Machine.execBankConfirm s
  | .bootrecWriteEnd ok => Sys2Proof.Machine.execBootrecWriteEnd ok s
  | .arbCommit d => Sys2Proof.Machine.execArbCommit d s
  | .arbCommitEnd => Sys2Proof.Machine.execArbCommitEnd s
  | .tokenSubmit d => Sys2Proof.Machine.execTokenSubmit d s
  | .tokenCheckEnd fuseOk => Sys2Proof.Machine.execTokenCheckEnd fuseOk s
  | .fullSelftest g => Sys2Proof.Machine.execFullSelftest g s
  | .fullSelftestEnd g o t => Sys2Proof.Machine.execFullSelftestEnd g o t s
  | .fuseRepair => Sys2Proof.Machine.execFuseRepair s
  | .fuseRepairEnd good => Sys2Proof.Machine.execFuseRepairEnd good s
  | .gpioSet d => Sys2Proof.Machine.execGpioSet d s
  | .gpioClr d => Sys2Proof.Machine.execGpioClr d s
  | .gpioEdge p rise => Sys2Proof.Machine.execGpioEdge p rise s
  | .runRequest k => Sys2Proof.Machine.execRunRequest k s
  | .stopRequest k => Sys2Proof.Machine.execStopRequest k s
  | .haltRequest k => Sys2Proof.Machine.execHaltRequest k s
  | .resetRequest k => Sys2Proof.Machine.execResetRequest k s
  | .clearRequest k => Sys2Proof.Machine.execClearRequest k s
  | .dischargeRequest k => Sys2Proof.Machine.execDischargeRequest k s
  | .duplexRequest k => Sys2Proof.Machine.execDuplexRequest k s
  | .splitRequest k => Sys2Proof.Machine.execSplitRequest k s
  | .requestUnknown k code => Sys2Proof.Machine.execRequestUnknown k code s
  | .triggerMatch n j down => Sys2Proof.Machine.execTriggerMatch n j down s
  | .sarResultWrite k v u => Sys2Proof.Machine.execSarResultWrite k v u s
  | .sdResultWrite m bits level u => Sys2Proof.Machine.execSdResultWrite m bits level u s
  | .reload n peak bad => Sys2Proof.Machine.execReload n peak bad s
  | .decelTimeout k => Sys2Proof.Machine.execDecelTimeout k s
  | .safeRetry k code => Sys2Proof.Machine.execSafeRetry k code s
  | .catchProbe k ia ib ic => Sys2Proof.Machine.execCatchProbe k ia ib ic s
  | .catchTimeout k => Sys2Proof.Machine.execCatchTimeout k s
  | .keAbnormal k => Sys2Proof.Machine.execKeAbnormal k s
  | .ldrSwapRequest k tables => Sys2Proof.Machine.execLdrSwapRequest k tables s
  | .ldrCheckEnd k t => Sys2Proof.Machine.execLdrCheckEnd k t s
  | .ldrSwap k t busy => Sys2Proof.Machine.execLdrSwap k t busy s
  | .larderWrite k copy w d => Sys2Proof.Machine.execLarderWrite k copy w d s
  | .bcmStall k => Sys2Proof.Machine.execBcmStall k s
  | .duplexCopy k => Sys2Proof.Machine.execDuplexCopy k s
  | .splitTakeEffect k => Sys2Proof.Machine.execSplitTakeEffect k s
  | .slotWrite k e d => Sys2Proof.Machine.execSlotWrite k e d s
  | .refSelect d => Sys2Proof.Machine.execRefSelect d s
  | .refReady => Sys2Proof.Machine.execRefReady s
  | .refMonitorTrip => Sys2Proof.Machine.execRefMonitorTrip s
  | .scanStart => Sys2Proof.Machine.execScanStart s
  | .scanEntryStart e => Sys2Proof.Machine.execScanEntryStart e s
  | .scanEntryResult e v => Sys2Proof.Machine.execScanEntryResult e v s
  | .sdStuck m level => Sys2Proof.Machine.execSdStuck m level s
  | .sdStreamRecover m => Sys2Proof.Machine.execSdStreamRecover m s
  | .cmpTrip c v => Sys2Proof.Machine.execCmpTrip c v s
  | .cmpRelease c v => Sys2Proof.Machine.execCmpRelease c v s
  | .sdClkCfgWrite d => Sys2Proof.Machine.execSdClkCfgWrite d s
  | .quadCount n a b => Sys2Proof.Machine.execQuadCount n a b s
  | .index n rise => Sys2Proof.Machine.execIndex n rise s
  | .posEvalSelfTimed n => Sys2Proof.Machine.execPosEvalSelfTimed n s
  | .hallChange n h => Sys2Proof.Machine.execHallChange n h s
  | .sentFrame n sync pulses => Sys2Proof.Machine.execSentFrame n sync pulses s
  | .sentTimeout n => Sys2Proof.Machine.execSentTimeout n s
  | .fabStrobe n angle => Sys2Proof.Machine.execFabStrobe n angle s
  | .fabStale n => Sys2Proof.Machine.execFabStale n s
  | .standstill n => Sys2Proof.Machine.execStandstill n s
  | .snap n => Sys2Proof.Machine.execSnap n s
  | .clrTot n => Sys2Proof.Machine.execClrTot n s
  | .rearm n => Sys2Proof.Machine.execRearm n s
  | .posCfgWrite n d => Sys2Proof.Machine.execPosCfgWrite n d s
  | .cleClear k => Sys2Proof.Machine.execCleClear k s
  | .coefWrite k r d => Sys2Proof.Machine.execCoefWrite k r d s
  | .listWrite k n d => Sys2Proof.Machine.execListWrite k n d s
  | .followErr k => Sys2Proof.Machine.execFollowErr k s
  | .cleCrcUpdate k e => Sys2Proof.Machine.execCleCrcUpdate k e s
  | .sliceRun n => Sys2Proof.Machine.execSliceRun n s
  | .sliceStop n => Sys2Proof.Machine.execSliceStop n s
  | .pwmStart d => Sys2Proof.Machine.execPwmStart d s
  | .delayCal taps late => Sys2Proof.Machine.execDelayCal taps late s
  | .rawEdge n low active => Sys2Proof.Machine.execRawEdge n low active s
  | .deadTimeEnd n w => Sys2Proof.Machine.execDeadTimeEnd n w s
  | .minPulseEnd n low => Sys2Proof.Machine.execMinPulseEnd n low s
  | .bsRefresh n => Sys2Proof.Machine.execBsRefresh n s
  | .bootLow n => Sys2Proof.Machine.execBootLow n s
  | .forceWrite n d => Sys2Proof.Machine.execForceWrite n d s
  | .floorWrite n d => Sys2Proof.Machine.execFloorWrite n d s
  | .holdSet d => Sys2Proof.Machine.execHoldSet d s
  | .holdClr d => Sys2Proof.Machine.execHoldClr d s
  | .fltNAssert => Sys2Proof.Machine.execFltNAssert s
  | .xhizRelease => Sys2Proof.Machine.execXhizRelease s
  | .edgeCommand n on discarded => Sys2Proof.Machine.execEdgeCommand n on discarded s
  | .phaseEnd n => Sys2Proof.Machine.execPhaseEnd n s
  | .gateStateReport n above => Sys2Proof.Machine.execGateStateReport n above s
  | .interlockRelease n => Sys2Proof.Machine.execInterlockRelease n s
  | .legConflict n => Sys2Proof.Machine.execLegConflict n s
  | .profileFrame n => Sys2Proof.Machine.execProfileFrame n s
  | .mirrorWrite n w => Sys2Proof.Machine.execMirrorWrite n w s
  | .islandChannelLoss n => Sys2Proof.Machine.execIslandChannelLoss n s
  | .chanLoss n => Sys2Proof.Machine.execChanLoss n s
  | .orphanReturn n => Sys2Proof.Machine.execOrphanReturn n s
  | .statusFrame n vcc vee temp ohms => Sys2Proof.Machine.execStatusFrame n vcc vee temp ohms s
  | .measurementFrame n on discarded t1 t2 => Sys2Proof.Machine.execMeasurementFrame n on discarded t1 t2 s
  | .islandHandshakeOpen n => Sys2Proof.Machine.execIslandHandshakeOpen n s
  | .handshakeStepEnd n ok raw => Sys2Proof.Machine.execHandshakeStepEnd n ok raw s
  | .latencyRemeasure n raw => Sys2Proof.Machine.execLatencyRemeasure n raw s
  | .uvlo n vee v => Sys2Proof.Machine.execUvlo n vee v s
  | .islandSupplyRelease n => Sys2Proof.Machine.execIslandSupplyRelease n s
  | .desatBlankingEnd n => Sys2Proof.Machine.execDesatBlankingEnd n s
  | .desat n ns => Sys2Proof.Machine.execDesat n ns s
  | .tltoHoldEnd n => Sys2Proof.Machine.execTltoHoldEnd n s
  | .gateTmo n => Sys2Proof.Machine.execGateTmo n s
  | .islandAutoClear n code => Sys2Proof.Machine.execIslandAutoClear n code s
  | .usedCountReset n uv => Sys2Proof.Machine.execUsedCountReset n uv s
  | .islandClear n => Sys2Proof.Machine.execIslandClear n s
  | .islandUnitReset n => Sys2Proof.Machine.execIslandUnitReset n s
  | .leakCheck n => Sys2Proof.Machine.execLeakCheck n s
  | .leakCheckEnd n cur => Sys2Proof.Machine.execLeakCheckEnd n cur s
  | .supplyModeWrite n d => Sys2Proof.Machine.execSupplyModeWrite n d s
  | .bsCatchPulse k => Sys2Proof.Machine.execBsCatchPulse k s
  | .stoDemand b => Sys2Proof.Machine.execStoDemand b s
  | .stoRelease b => Sys2Proof.Machine.execStoRelease b s
  | .stoDiscrepancy => Sys2Proof.Machine.execStoDiscrepancy s
  | .isoEnRelease g => Sys2Proof.Machine.execIsoEnRelease g s
  | .islandFaultReport n => Sys2Proof.Machine.execIslandFaultReport n s
  | .chopperVerifyEnd => Sys2Proof.Machine.execChopperVerifyEnd s
  | .chopperTest => Sys2Proof.Machine.execChopperTest s
  | .ctrOv3Open => Sys2Proof.Machine.execCtrOv3Open s
  | .ctrCommand d => Sys2Proof.Machine.execCtrCommand d s
  | .ctrForce d => Sys2Proof.Machine.execCtrForce d s
  | .clrWeld => Sys2Proof.Machine.execClrWeld s
  | .ctrFeedbackChange neg high => Sys2Proof.Machine.execCtrFeedbackChange neg high s
  | .ctrFeedbackTimeout neg => Sys2Proof.Machine.execCtrFeedbackTimeout neg s
  | .dischargeStart => Sys2Proof.Machine.execDischargeStart s
  | .disHalfTime => Sys2Proof.Machine.execDisHalfTime s
  | .disFail => Sys2Proof.Machine.execDisFail s
  | .dischargeAbort => Sys2Proof.Machine.execDischargeAbort s
  | .safetyTick => Sys2Proof.Machine.execSafetyTick s
  | .tqImplausible k => Sys2Proof.Machine.execTqImplausible k s
  | .speedLimit k => Sys2Proof.Machine.execSpeedLimit k s
  | .ss1Start k => Sys2Proof.Machine.execSs1Start k s
  | .ss1Timeout k => Sys2Proof.Machine.execSs1Timeout k s
  | .pcStoSet k => Sys2Proof.Machine.execPcStoSet k s
  | .pcStoRelease k => Sys2Proof.Machine.execPcStoRelease k s
  | .safeMsgLost k => Sys2Proof.Machine.execSafeMsgLost k s
  | .lockstepMismatch g group => Sys2Proof.Machine.execLockstepMismatch g group s
  | .idRecordLoad m mem => Sys2Proof.Machine.execIdRecordLoad m mem s
  | .ledgerLoad m => Sys2Proof.Machine.execLedgerLoad m s
  | .dieSensorSample temps => Sys2Proof.Machine.execDieSensorSample temps s
  | .windSens k => Sys2Proof.Machine.execWindSens k s
  | .peakGraceEnd k => Sys2Proof.Machine.execPeakGraceEnd k s
  | .peakRampEnd k => Sys2Proof.Machine.execPeakRampEnd k s
  | .rainflowSample => Sys2Proof.Machine.execRainflowSample s
  | .ledgerInterval => Sys2Proof.Machine.execLedgerInterval s
  | .ledgerWriteRequest => Sys2Proof.Machine.execLedgerWriteRequest s
  | .ledgerWriteEnd m ok => Sys2Proof.Machine.execLedgerWriteEnd m ok s
  | .heldWriteStart identity => Sys2Proof.Machine.execHeldWriteStart identity s
  | .writeTempFail identity => Sys2Proof.Machine.execWriteTempFail identity s
  | .ageRebuild k => Sys2Proof.Machine.execAgeRebuild k s
  | .ageApply k => Sys2Proof.Machine.execAgeApply k s
  | .coreLoad c size uns fp rd a e => Sys2Proof.Machine.execCoreLoad c size uns fp rd a e s
  | .coreStore c size a d => Sys2Proof.Machine.execCoreStore c size a d s
  | .instructionFetch c a e => Sys2Proof.Machine.execInstructionFetch c a e s
  | .scrub mem w e => Sys2Proof.Machine.execScrub mem w e s
  | .eccInject d => Sys2Proof.Machine.execEccInject d s
  | .semTake r n => Sys2Proof.Machine.execSemTake r n s
  | .semGive r n => Sys2Proof.Machine.execSemGive r n s
  | .semTakeOrWait r n => Sys2Proof.Machine.execSemTakeOrWait r n s
  | .semCancel r n => Sys2Proof.Machine.execSemCancel r n s
  | .timerCompare c j => Sys2Proof.Machine.execTimerCompare c j s
  | .watchdogKick c d => Sys2Proof.Machine.execWatchdogKick c d s
  | .wdtWarn c => Sys2Proof.Machine.execWdtWarn c s
  | .coreWdt c => Sys2Proof.Machine.execCoreWdt c s
  | .irqRouteWrite w d => Sys2Proof.Machine.execIrqRouteWrite w d s
  | .moderationTimer c g => Sys2Proof.Machine.execModerationTimer c g s
  | .swi d => Sys2Proof.Machine.execSwi d s
  | .irqPendClear w d => Sys2Proof.Machine.execIrqPendClear w d s
  | .irqSumRead c => Sys2Proof.Machine.execIrqSumRead c s
  | .timNowRead r => Sys2Proof.Machine.execTimNowRead r s
  | .readId => Sys2Proof.Machine.execReadId s
  | .enter8d lat => Sys2Proof.Machine.execEnter8d lat s
  | .read a n late => Sys2Proof.Machine.execRead a n late s
  | .write a l => Sys2Proof.Machine.execWrite a l s
  | .readStatus => Sys2Proof.Machine.execReadStatus s
  | .fence => Sys2Proof.Machine.execFence s
  | .softReset => Sys2Proof.Machine.execSoftReset s
  | .hpCsNRise r => Sys2Proof.Machine.execHpCsNRise r s
  | .hwFence => Sys2Proof.Machine.execHwFence s
  | .hwCas r d => Sys2Proof.Machine.execHwCas r d s
  | .queueEnable cq n d => Sys2Proof.Machine.execQueueEnable cq n d s
  | .sqDoorbell r n d => Sys2Proof.Machine.execSqDoorbell r n d s
  | .descriptorFetch => Sys2Proof.Machine.execDescriptorFetch s
  | .upload q => Sys2Proof.Machine.execUpload q s
  | .fetch q w e => Sys2Proof.Machine.execFetch q w e s
  | .erase q ok => Sys2Proof.Machine.execErase q ok s
  | .program q ok => Sys2Proof.Machine.execProgram q ok s
  | .trace q => Sys2Proof.Machine.execTrace q s
  | .traceCopy q => Sys2Proof.Machine.execTraceCopy q s
  | .logRead q => Sys2Proof.Machine.execLogRead q s
  | .idRead q stop => Sys2Proof.Machine.execIdRead q stop s
  | .msg q => Sys2Proof.Machine.execMsg q s
  | .msgDone d => Sys2Proof.Machine.execMsgDone d s
  | .descriptorComplete q => Sys2Proof.Machine.execDescriptorComplete q s
  | .queueAbort q => Sys2Proof.Machine.execQueueAbort q s
  | .cqHeadWrite c d => Sys2Proof.Machine.execCqHeadWrite c d s
  | .cqModTimer c => Sys2Proof.Machine.execCqModTimer c s
  | .hwIdleWrite d => Sys2Proof.Machine.execHwIdleWrite d s
  | .hostSleepAssert => Sys2Proof.Machine.execHostSleepAssert s
  | .hostSleepRelease => Sys2Proof.Machine.execHostSleepRelease s
  | .canMode n m => Sys2Proof.Machine.execCanMode n m s
  | .canIntegrated n => Sys2Proof.Machine.execCanIntegrated n s
  | .frameReceive n f ago => Sys2Proof.Machine.execFrameReceive n f ago s
  | .rxfPop n => Sys2Proof.Machine.execRxfPop n s
  | .hpTake n => Sys2Proof.Machine.execHpTake n s
  | .txRequest n b d idle => Sys2Proof.Machine.execTxRequest n b d idle s
  | .txAbort n b => Sys2Proof.Machine.execTxAbort n b s
  | .txEnd n e => Sys2Proof.Machine.execTxEnd n e s
  | .busError n e => Sys2Proof.Machine.execBusError n e s
  | .boRec n => Sys2Proof.Machine.execBoRec n s
  | .busOffEnd n => Sys2Proof.Machine.execBusOffEnd n s
  | .addressClaim n => Sys2Proof.Machine.execAddressClaim n s
  | .claimSettled n => Sys2Proof.Machine.execClaimSettled n s
  | .addressClaimedRx n sa name => Sys2Proof.Machine.execAddressClaimedRx n sa name s
  | .cannotClaimSend n => Sys2Proof.Machine.execCannotClaimSend n s
  | .commandedAddress n name addr => Sys2Proof.Machine.execCommandedAddress n name addr s
  | .requestRx n sa dest pgn => Sys2Proof.Machine.execRequestRx n sa dest pgn s
  | .reqTimeout => Sys2Proof.Machine.execReqTimeout s
  | .reqAnswer d => Sys2Proof.Machine.execReqAnswer d s
  | .tpSendStart n d => Sys2Proof.Machine.execTpSendStart n d s
  | .tpCmRx n etp sa dest l => Sys2Proof.Machine.execTpCmRx n etp sa dest l s
  | .tpDtRx n etp sa dest l => Sys2Proof.Machine.execTpDtRx n etp sa dest l s
  | .bamGap n => Sys2Proof.Machine.execBamGap n s
  | .tpTimeout n => Sys2Proof.Machine.execTpTimeout n s
  | .tpCancel n => Sys2Proof.Machine.execTpCancel n s
  | .tpRelease n => Sys2Proof.Machine.execTpRelease n s
  | .porchPoolWrite d => Sys2Proof.Machine.execPorchPoolWrite d s
  | .statusMessage n peak => Sys2Proof.Machine.execStatusMessage n peak s
  | .aloneProbe n => Sys2Proof.Machine.execAloneProbe n s
  | .checkedMessageRx n sa l => Sys2Proof.Machine.execCheckedMessageRx n sa l s
  | .cmdLost n => Sys2Proof.Machine.execCmdLost n s
  | .ringEnable => Sys2Proof.Machine.execRingEnable s
  | .ringDisable => Sys2Proof.Machine.execRingDisable s
  | .ringStartTimeout => Sys2Proof.Machine.execRingStartTimeout s
  | .cycleStart e e2 => Sys2Proof.Machine.execCycleStart e e2 s
  | .cyclicFrameRx ringB f crcOk => Sys2Proof.Machine.execCyclicFrameRx ringB f crcOk s
  | .ringBreak ringB sym => Sys2Proof.Machine.execRingBreak ringB sym s
  | .linkReady ringB => Sys2Proof.Machine.execLinkReady ringB s
  | .msgSend m d => Sys2Proof.Machine.execMsgSend m d s
  | .acyclicFrameRx ringB f crcOk => Sys2Proof.Machine.execAcyclicFrameRx ringB f crcOk s
  | .msgAckTimeout m => Sys2Proof.Machine.execMsgAckTimeout m s
  | .msgAbort m => Sys2Proof.Machine.execMsgAbort m s
  | .rxSlotFree r => Sys2Proof.Machine.execRxSlotFree r s
  | .ringMsgEnable d => Sys2Proof.Machine.execRingMsgEnable d s
  | .ringClrErr => Sys2Proof.Machine.execRingClrErr s
  | .twinHeartbeatRx role ok => Sys2Proof.Machine.execTwinHeartbeatRx role ok s
  | .copyFrameRx off l last ok => Sys2Proof.Machine.execCopyFrameRx off l last ok s
  | .vddaRelease => Sys2Proof.Machine.execVddaRelease s
  | .fltNRelease => Sys2Proof.Machine.execFltNRelease s
  | .twinSigLost => Sys2Proof.Machine.execTwinSigLost s
  | .twinSigBack => Sys2Proof.Machine.execTwinSigBack s

end Sys2Proof.Machine
end

