-- ==== Sys2Proof/Machine/Tick.lean ====
section
/-! DEFINITION. What one tick of CLK_MAIN does where no command waits. -/

namespace Sys2Proof.Machine

namespace Chip

/-- The interrupt lines of the fabric ports of running regions: lines are allotted upward from FAB0 in ascending port number, as
many to each enabled port as its descriptor asks for (R541). -/
def fabMask (s : Chip) : Nat :=
  ((List.range 32).foldl (fun (x : Nat × Nat) p =>
    match s.portDesc p with
    | none => x
    | some d =>
      let r := s.region (p / 16)
      (x.1 + d.irq, if r.up && !r.inReset then x.2 + (2 ^ d.irq - 1) * 2 ^ x.1 else x.2)) (0, 0)).2 % 2 ^ 32

/-- The levels of the allotted fabric lines: the image's cells decide them, so that they are open (log entry 9). -/
def fabTick (s : Chip) : Chip :=
  let m := s.fabMask
  if m = 0 then { s with irq := { s.irq with fabric := 0 } }
  else { s.useFree with irq := { s.irq with fabric := s.freeVal &&& m } }

/-- The end of a tick: what waits for it in the position channels (Table 07-5), the sample tick of a pass is taken (Table 05-3), requests that a fault of the tick followed are handled
again (R175), compares that are due are written (R183), the sequencer's catch pulses begin and end (R200), and a cluster that left a reset in the tick falls to SAFE where a fault or a demand stands (R45). -/
def tickEnd (s : Chip) : Chip :=
  let s := forEach [0, 1] (fun n t => (t.posTickEnd n).sourceTickEnd n) s
  forEach [0, 1, 2, 3] (fun k t =>
    let t := if (t.cluster k).trigTick + 1 ≤ t.now then t.sampleNow k else t
    (((t.cmpTick k).reqAgain k).refall k).catchPulse k) s

/-- The cycle counters of the cores whose clocks run: a tick is two core clock cycles (R511, R112). -/
def cycleTick (s : Chip) : Chip :=
  forEach [0, 1, 2, 3] (fun c t =>
    if (t.region (c / 2)).inReset || t.pairWaits (c / 2) || (nth t.hart c).wfi then t
    else t.modHart c fun h => { h with cycle := (h.cycle + 2) % 2 ^ 64 }) s

/-- The Chimney counts the time of RUN: of any cluster for the ledgers (R500), of each for its ageing (R504). -/
def chmTick (s : Chip) : Chip :=
  let l := (List.range 4).filter fun k => s.clState k == 2
  if l.isEmpty then s
  else
    forEach l (fun k t => t.modAge k fun a => { a with runTicks := a.runTicks + 1 })
      (s.modChm fun c => { c with runTicks := c.runTicks + 1 })

/-- The control die's own part of a tick: it ends, time goes on, posted writes take effect, free CAN buses take frames, the ring's
waiting frames are sent, the fabric's lines take levels, bit streams and scan entries are sampled. -/
def dieTick (s : Chip) : Chip :=
  let s := s.tickEnd
  let s := { s with now := s.now + 1 }.sliceTick.busTick
  let s := forEach [0, 1, 2, 3] (fun n t => t.txStart n) s
  s.copyTick.ringTick.fabTick.sdTick.scanSamples.cycleTick.chmTick

/-- One tick: the control die's part while it is out of reset, and the always-on clock's. The commands that wait before the
next one act in this tick. -/
def tick (s : Chip) : Chip :=
  let s := s.newTick
  (if s.pwr.dieReset then s else s.dieTick).aonTick

end Chip

/-- The tick that an empty queue takes. -/
def idle (s : State) : Out := s.actRaw fun c => c.tick

end Sys2Proof.Machine
end

