-- ==== Sys2Proof/WellFormed.lean ====
section
/-! DEFINITION. Well-formed commands: those whose lists have a form that an event of the hardware can spell. Every other
operand is bounded by its type. -/

namespace Sys2Proof

open Machine

/-- The command is well formed. -/
def Instr.wf (i : Instr) : Bool :=
  match i with
  | .registerWrite _ _ _ => true
  | .unitReset _ => true
  | .unitResetEnd _ => true
  | .configReadback _ _ => true
  | .fenceInstruction _ _ => true
  | .fenceI _ => true
  | .flagRelease _ _ _ => true
  | .logEntryFlashWrite => true
  | .brownOut _ => true
  | .railWarn _ _ => true
  | .powerOnRelease => true
  | .cellarReset _ => true
  | .sleepRequest _ => true
  | .cellarTransfer => true
  | .sleepRailWaitEnd _ => true
  | .wakeSlotFire _ => true
  | .pllLock => true
  | .refLoss _ => true
  | .refReturn => true
  | .pllUnlock _ => true
  | .mainFreq _ => true
  | .coreClkFail _ => true
  | .monoscFail _ => true
  | .aonXtalFail _ => true
  | .regionGateClose _ => true
  | .wfi _ => true
  | .resetPin => true
  | .resetPinRelease => true
  | .resetStuck => true
  | .rstUnmasked => true
  | .swModuleReset _ => true
  | .swRegionReset _ => true
  | .regionResetEnd _ _ => true
  | .debugReset _ => true
  | .bootSequence _ => true
  | .lateBringup _ => true
  | .lateBringupDone _ _ _ => true
  | .bankUpdate _ => true
  | .bankConfirm => true
  | .bootrecWriteEnd _ => true
  | .arbCommit _ => true
  | .arbCommitEnd => true
  | .tokenSubmit _ => true
  | .tokenCheckEnd _ => true
  | .fullSelftest _ => true
  | .fullSelftestEnd _ _ _ => true
  | .fuseRepair => true
  | .fuseRepairEnd _ => true
  | .gpioSet _ => true
  | .gpioClr _ => true
  | .gpioEdge _ _ => true
  | .runRequest _ => true
  | .stopRequest _ => true
  | .haltRequest _ => true
  | .resetRequest _ => true
  | .clearRequest _ => true
  | .dischargeRequest _ => true
  | .duplexRequest _ => true
  | .splitRequest _ => true
  | .requestUnknown _ _ => true
  | .triggerMatch _ _ _ => true
  | .sarResultWrite _ _ _ => true
  | .sdResultWrite _ _ _ _ => true
  | .reload _ _ _ => true
  | .decelTimeout _ => true
  | .safeRetry _ _ => true
  | .catchProbe _ _ _ _ => true
  | .catchTimeout _ => true
  | .keAbnormal _ => true
  | .ldrSwapRequest _ _ => true
  | .ldrCheckEnd _ _ => true
  | .ldrSwap _ _ _ => true
  | .larderWrite _ _ _ _ => true
  | .bcmStall _ => true
  | .duplexCopy _ => true
  | .splitTakeEffect _ => true
  | .slotWrite _ _ _ => true
  | .refSelect _ => true
  | .refReady => true
  | .refMonitorTrip => true
  | .scanStart => true
  | .scanEntryStart _ => true
  | .scanEntryResult _ _ => true
  | .sdStuck _ _ => true
  | .sdStreamRecover _ => true
  | .cmpTrip _ _ => true
  | .cmpRelease _ _ => true
  | .sdClkCfgWrite _ => true
  | .quadCount _ _ _ => true
  | .index _ _ => true
  | .posEvalSelfTimed _ => true
  | .hallChange _ _ => true
  | .sentFrame _ _ _ => true
  | .sentTimeout _ => true
  | .fabStrobe _ _ => true
  | .fabStale _ => true
  | .standstill _ => true
  | .snap _ => true
  | .clrTot _ => true
  | .rearm _ => true
  | .posCfgWrite _ _ => true
  | .cleClear _ => true
  | .coefWrite _ _ _ => true
  | .listWrite _ _ _ => true
  | .followErr _ => true
  | .cleCrcUpdate _ _ => true
  | .sliceRun _ => true
  | .sliceStop _ => true
  | .pwmStart _ => true
  | .delayCal _ _ => true
  | .rawEdge _ _ _ => true
  | .deadTimeEnd _ _ => true
  | .minPulseEnd _ _ => true
  | .bsRefresh _ => true
  | .bootLow _ => true
  | .forceWrite _ _ => true
  | .floorWrite _ _ => true
  | .holdSet _ => true
  | .holdClr _ => true
  | .fltNAssert => true
  | .xhizRelease => true
  | .edgeCommand _ _ _ => true
  | .phaseEnd _ => true
  | .gateStateReport _ _ => true
  | .interlockRelease _ => true
  | .legConflict _ => true
  | .profileFrame _ => true
  | .mirrorWrite _ _ => true
  | .islandChannelLoss _ => true
  | .chanLoss _ => true
  | .orphanReturn _ => true
  | .statusFrame _ _ _ _ _ => true
  | .measurementFrame _ _ _ _ _ => true
  | .islandHandshakeOpen _ => true
  | .handshakeStepEnd _ _ _ => true
  | .latencyRemeasure _ _ => true
  | .uvlo _ _ _ => true
  | .islandSupplyRelease _ => true
  | .desatBlankingEnd _ => true
  | .desat _ _ => true
  | .tltoHoldEnd _ => true
  | .gateTmo _ => true
  | .islandAutoClear _ _ => true
  | .usedCountReset _ _ => true
  | .islandClear _ => true
  | .islandUnitReset _ => true
  | .leakCheck _ => true
  | .leakCheckEnd _ _ => true
  | .supplyModeWrite _ _ => true
  | .bsCatchPulse _ => true
  | .stoDemand _ => true
  | .stoRelease _ => true
  | .stoDiscrepancy => true
  | .isoEnRelease _ => true
  | .islandFaultReport _ => true
  | .chopperVerifyEnd => true
  | .chopperTest => true
  | .ctrOv3Open => true
  | .ctrCommand _ => true
  | .ctrForce _ => true
  | .clrWeld => true
  | .ctrFeedbackChange _ _ => true
  | .ctrFeedbackTimeout _ => true
  | .dischargeStart => true
  | .disHalfTime => true
  | .disFail => true
  | .dischargeAbort => true
  | .safetyTick => true
  | .tqImplausible _ => true
  | .speedLimit _ => true
  | .ss1Start _ => true
  | .ss1Timeout _ => true
  | .pcStoSet _ => true
  | .pcStoRelease _ => true
  | .safeMsgLost _ => true
  | .lockstepMismatch _ _ => true
  | .idRecordLoad _ mem => idBytesWf mem
  | .ledgerLoad _ => true
  | .dieSensorSample temps => sensorsWf temps
  | .windSens _ => true
  | .peakGraceEnd _ => true
  | .peakRampEnd _ => true
  | .rainflowSample => true
  | .ledgerInterval => true
  | .ledgerWriteRequest => true
  | .ledgerWriteEnd _ _ => true
  | .heldWriteStart _ => true
  | .writeTempFail _ => true
  | .ageRebuild _ => true
  | .ageApply _ => true
  | .coreLoad _ _ _ _ _ _ _ => true
  | .coreStore _ _ _ _ => true
  | .instructionFetch _ _ _ => true
  | .scrub _ _ _ => true
  | .eccInject _ => true
  | .semTake _ _ => true
  | .semGive _ _ => true
  | .semTakeOrWait _ _ => true
  | .semCancel _ _ => true
  | .timerCompare _ _ => true
  | .watchdogKick _ _ => true
  | .wdtWarn _ => true
  | .coreWdt _ => true
  | .irqRouteWrite _ _ => true
  | .moderationTimer _ _ => true
  | .swi _ => true
  | .irqPendClear _ _ => true
  | .irqSumRead _ => true
  | .timNowRead _ => true
  | .readId => true
  | .enter8d _ => true
  | .read _ n _ => readWf n
  | .write _ l => writeWf l
  | .readStatus => true
  | .fence => true
  | .softReset => true
  | .hpCsNRise r => csWf r
  | .hwFence => true
  | .hwCas _ _ => true
  | .queueEnable _ _ _ => true
  | .sqDoorbell _ _ _ => true
  | .descriptorFetch => true
  | .upload _ => true
  | .fetch _ _ _ => true
  | .erase _ _ => true
  | .program _ _ => true
  | .trace _ => true
  | .traceCopy _ => true
  | .logRead _ => true
  | .idRead _ _ => true
  | .msg _ => true
  | .msgDone _ => true
  | .descriptorComplete _ => true
  | .queueAbort _ => true
  | .cqHeadWrite _ _ => true
  | .cqModTimer _ => true
  | .hwIdleWrite _ => true
  | .hostSleepAssert => true
  | .hostSleepRelease => true
  | .canMode _ _ => true
  | .canIntegrated _ => true
  | .frameReceive _ f _ => frameWf f
  | .rxfPop _ => true
  | .hpTake _ => true
  | .txRequest _ _ _ _ => true
  | .txAbort _ _ => true
  | .txEnd _ _ => true
  | .busError _ _ => true
  | .boRec _ => true
  | .busOffEnd _ => true
  | .addressClaim _ => true
  | .claimSettled _ => true
  | .addressClaimedRx _ _ _ => true
  | .cannotClaimSend _ => true
  | .commandedAddress _ _ _ => true
  | .requestRx _ _ _ _ => true
  | .reqTimeout => true
  | .reqAnswer _ => true
  | .tpSendStart _ _ => true
  | .tpCmRx _ _ _ _ _ => true
  | .tpDtRx _ _ _ _ _ => true
  | .bamGap _ => true
  | .tpTimeout _ => true
  | .tpCancel _ => true
  | .tpRelease _ => true
  | .porchPoolWrite _ => true
  | .statusMessage _ _ => true
  | .aloneProbe _ => true
  | .checkedMessageRx _ _ _ => true
  | .cmdLost _ => true
  | .ringEnable => true
  | .ringDisable => true
  | .ringStartTimeout => true
  | .cycleStart _ _ => true
  | .cyclicFrameRx _ _ _ => true
  | .ringBreak _ _ => true
  | .linkReady _ => true
  | .msgSend _ _ => true
  | .acyclicFrameRx _ f _ => acyclicWf f
  | .msgAckTimeout _ => true
  | .msgAbort _ => true
  | .rxSlotFree _ => true
  | .ringMsgEnable _ => true
  | .ringClrErr => true
  | .twinHeartbeatRx _ _ => true
  | .copyFrameRx _ l _ _ => copyWf l
  | .vddaRelease => true
  | .fltNRelease => true
  | .twinSigLost => true
  | .twinSigBack => true

end Sys2Proof
end

