-- ==== Sys2Proof/Safety.lean ====
section
/-! DEFINITION. What counts as a sound state, in the terms that claims use: the canonical form of the byte memory and of
the register file, the interrupt lines and the waiting harts, a queue of well-formed commands. -/

namespace Sys2Proof.Machine

/-- The canonical form of the byte memory: addresses rise strictly and no entry equals what an unlisted address reads
as. -/
def Memory.wf (m : List Host.Cell) : Bool := rising m && m.all fun p => p.2 != Chip.unlisted p.1

/-- The register file lists its fields in rising order of key. -/
def Registers.wf (r : List (Nat × Nat)) : Bool := rising r

/-- A hart whose interrupt line stands does not wait in WFI (R112, R538). -/
def Chip.noSleeperCalled (c : Chip) : Prop := ∀ h, h < 4 → hasBit c.irq.lines h = true → (nth c.hart h).wfi = false

/-- The live levels that pending bits of level sources show are those of the flag registers as they stand (R536). -/
def Chip.levelsSeen (c : Chip) : Prop := c.irq.prev = c.levels

/-- The module's stores have their form: byte memory and register file canonical, at most 64 entries wait in the fault log's
queue and at most 16 stand in the retention log (R671, R51), sequence numbers and the places of the flash log in range
(R50). -/
def Chip.wf (c : Chip) : Bool :=
  Memory.wf c.mem && Registers.wf c.regs && decide (c.log.queue.length ≤ 64) && decide (c.log.retention.length ≤ 16)
    && decide (c.log.seq < 65536) && decide (c.log.flashNext < 512) && decide (c.log.flashUsed ≤ 512)

/-- The module has its instances: two regions, four clusters, two position channels, four engines, sixteen slices, twelve
islands, four harts, four CAN controllers. -/
structure Chip.Shaped (c : Chip) : Prop where
  rgn : c.rgn.length = 2
  cl : c.cl.length = 4
  meas : c.meas.length = 4
  pos : c.pos.length = 2
  cle : c.cle.length = 4
  slice : c.slice.length = 16
  isl : c.isl.length = 12
  hart : c.hart.length = 4
  can : c.can.length = 4

/-- Every command that waits is well formed: it stands for an event of the hardware. -/
def State.queueWf (s : State) : Bool := s.pending.all Instr.wf

/-! ### What a command leaves alone -/

/-- The parts of the module beside its interrupt controller; `regs` is the register file. -/
inductive Part where
  | now | mem | ecc | free | fab | log | bus | pwr | cfg | img | rgn | cl | adc | meas | pos | cle | slice | pwmG | isl | safe | chm | sem | memS | hw | can | porch | ring | twin | hart | regs
deriving DecidableEq, Repr

/-- Two modules have the same part; of the harts, everything but their waits in WFI. -/
def Chip.agree (c d : Chip) : Part → Prop
  | .now => c.now = d.now
  | .mem => c.mem = d.mem
  | .ecc => c.ecc = d.ecc
  | .free => c.free = d.free
  | .fab => c.fab = d.fab
  | .log => c.log = d.log
  | .bus => c.bus = d.bus
  | .pwr => c.pwr = d.pwr
  | .cfg => c.cfg = d.cfg
  | .img => c.img = d.img
  | .rgn => c.rgn = d.rgn
  | .cl => c.cl = d.cl
  | .adc => c.adc = d.adc
  | .meas => c.meas = d.meas
  | .pos => c.pos = d.pos
  | .cle => c.cle = d.cle
  | .slice => c.slice = d.slice
  | .pwmG => c.pwmG = d.pwmG
  | .isl => c.isl = d.isl
  | .safe => c.safe = d.safe
  | .chm => c.chm = d.chm
  | .sem => c.sem = d.sem
  | .memS => c.memS = d.memS
  | .hw => c.hw = d.hw
  | .can => c.can = d.can
  | .porch => c.porch = d.porch
  | .ring => c.ring = d.ring
  | .twin => c.twin = d.twin
  | .hart => c.hart.map (fun h => { h with wfi := false }) = d.hart.map (fun h => { h with wfi := false })
  | .regs => c.regs = d.regs

/-- The module `d` differs from `c` at most in the named parts, the interrupt controller and the waits in WFI. -/
def Chip.Within (c d : Chip) (parts : List Part) : Prop := ∀ p, p ∉ parts → c.agree d p

/-- The module `d` differs from `c` at most in the named register fields, the named parts, the interrupt controller and the
waits in WFI. -/
def Chip.Frame (c d : Chip) (fields : List Field) (parts : List Part) : Prop :=
  (∀ f : Field, (∀ g ∈ fields, f.key ≠ g.key) → d.get f = c.get f) ∧ c.Within d (.regs :: parts)

/-- What a control-die reset leaves of the module (R124): no write on its way, the log's queue gone and the retention log
kept, both regions in reset, every register but the Cellar's and the supply levels at its reset value. -/
abbrev Chip.DieFresh (c d : Chip) : Prop :=
  d.bus.posted = [] ∧ d.log.queue = [] ∧ d.log.retention = c.log.retention ∧ d.log.seq = c.log.seq ∧
    (∀ r ∈ d.rgn, r.inReset = true) ∧ ∀ f : Field, f.lsb < 32 → Chip.keptReg f.addr = false → d.get f = f.reset % 2 ^ f.width

/-- The control die is held in reset after such a reset. -/
abbrev Chip.DieDown (c d : Chip) : Prop := d.pwr.dieReset = true ∧ c.DieFresh d

/-- Cluster k holds an outstanding fault of a code that is handled as LATCH. -/
abbrev Chip.Latched (d : Chip) (k code : Nat) : Prop := ∃ x ∈ (d.cluster k).faults, x.code = code ∧ x.latch = true

/-- Cluster k holds an outstanding fault of a code. -/
abbrev Chip.Faulted (d : Chip) (k code : Nat) : Prop := ∃ x ∈ (d.cluster k).faults, x.code = code

/-- The command answers a next state with the queue as it was, the module changed at most where it is named, and what is
said of the new module true. -/
def Completes (i : Instr) (s : State) (fields : List Field) (parts : List Part) (p : Chip → Prop) : Prop :=
  ∃ t : State, exec i s = .next t ∧ t.pending = s.pending ∧ s.chip.Frame t.chip fields parts ∧ p t.chip

/-- The command answers a next state with the queue as it was, the module changed at most in the named parts, and what is
said of the new module true. -/
def Touches (i : Instr) (s : State) (parts : List Part) (p : Chip → Prop) : Prop :=
  ∃ t : State, exec i s = .next t ∧ t.pending = s.pending ∧ s.chip.Within t.chip parts ∧ p t.chip

/-- The command answers a next state with the queue as it was and what is said of the new module true. -/
def Ends (i : Instr) (s : State) (p : Chip → Prop) : Prop :=
  ∃ t : State, exec i s = .next t ∧ t.pending = s.pending ∧ p t.chip

end Sys2Proof.Machine
end

