-- ==== Sys2Proof/Certificates/Slice0/Obligations.lean ====
section
/-! DEFINITION. The statements about the model that are to be proved: one per rule or family of commands. -/

set_option linter.unusedVariables false

open Sys2Proof Sys2Proof.Machine

/-- A step runs the command at the front of the queue on the module with the queue's rest (the model's queue, log entry
1). -/
def Obligations.StepRunsFrontCommand : Prop :=
  ∀ (c : Instr) (s : State) (rest : List Instr),
    s.pending = c :: rest → step s = exec c { s with pending := rest }

/-- A step on an empty queue is one tick (the model's tick, log entry 1). -/
def Obligations.EmptyQueueTicks : Prop :=
  ∀ s : State, s.pending = [] →
    ∃ t, step s = .next t ∧ t.pending = [] ∧
      (s.chip.pwr.dieReset = true → t.chip.now = s.chip.now) ∧
      (s.chip.pwr.dieReset = false → s.chip.bus.posted = [] → t.chip.now = s.chip.now + 1)

/-- Any number of steps from a queue of well-formed commands answers a next state, never a fault or a refusal, and each
step has taken exactly the front of the queue (the model's queue, log entries 1 and 3). -/
def Obligations.WellFormedRunNeverStops : Prop :=
  ∀ (n : Nat) (s : State), s.queueWf = true →
    ∃ t, Host.Core.run Sys2Proof.core n s = .next t ∧ t.pending = s.pending.drop n ∧ t.queueWf = true

/-- A well-formed command answers a next state in every state, never a fault or a refusal, and leaves the queue's rest; one whose
list has no form that an event of the hardware has stops with illFormed, whatever the state (the model's choice, log entry
3). -/
def Obligations.CommandCompletesIffWellFormed : Prop :=
  ∀ (i : Instr) (s : State),
    (i.wf = true → ∃ t, exec i s = .next t ∧ t.pending = s.pending) ∧ (i.wf = false → exec i s = .fault .illFormed)

/-- Every step keeps, of every state that has it: a hart whose interrupt line stands does not wait in WFI, and the levels
that pending bits of level sources show are the levels of the flag registers. -/
def Obligations.StepKeepsCalledHartsAwake : Prop :=
  ∀ s t : State, s.chip.noSleeperCalled → s.chip.levelsSeen → step s = .next t →
    t.chip.noSleeperCalled ∧ t.chip.levelsSeen

/-- Every step keeps the form of the memory, the register file and the two logs. -/
def Obligations.StepKeepsStores : Prop :=
  ∀ s t : State, s.chip.wf = true → step s = .next t → t.chip.wf = true

/-- Every step keeps the numbers of the module's instances. -/
def Obligations.StepKeepsInstances : Prop :=
  ∀ s t : State, s.chip.Shaped → step s = .next t → t.chip.Shaped

/-- The state after reset: the invariants hold, the queue and the logs are empty, every field reads its reset value, both
regions are in reset. -/
def Obligations.ResetMeetsInvariants : Prop :=
  State.reset.chip.noSleeperCalled ∧ State.reset.chip.levelsSeen ∧ State.reset.chip.wf = true ∧ State.reset.chip.Shaped ∧
    State.reset.pending = [] ∧ State.reset.chip.pwr.dieReset = false ∧ (∀ r ∈ State.reset.chip.rgn, r.inReset = true) ∧
    State.reset.chip.log.queue = [] ∧ State.reset.chip.log.retention = [] ∧ State.reset.chip.bus.posted = [] ∧
    ∀ f : Field, State.reset.chip.get f = f.reset % 2 ^ f.width

/-- What a word does to one field, by its access type (Table 00-4), and that it changes no other field. The types `rwi` and
`rwe` of chapters 15 and 16 are the blocks' own and keep their value here. -/
def Obligations.WriteFieldByAccess : Prop :=
  ∀ (s : Chip) (d : Nat) (isOpen : Bool) (f : Field),
    let t := s.writeField d isOpen f
    let v := part d f.lsb f.width
    (f.acc = .rw ∨ f.acc = .rws → t.get f = v) ∧
    (f.acc = .rwl → t.get f = if isOpen then v else s.get f) ∧
    (f.acc = .w1c → s.get f < 2 ^ f.width → ∀ i < f.width,
      hasBit (t.get f) i = (hasBit (s.get f) i && (!hasBit v i || hasBit (lookupD 0 f.key s.irq.fresh) i))) ∧
    (f.acc = .w1s → s.get f < 2 ^ f.width → t.get f = s.get f ||| v) ∧
    (f.acc = .ro ∨ f.acc = .wo ∨ f.acc = .rwi ∨ f.acc = .rwe → t.get f = s.get f) ∧
    ∀ g : Field, g.key ≠ f.key → t.get g = s.get g

/-- REGISTER_WRITE by a core that runs, with no posted write waiting and none landed in the tick: an RW register, a W1C
register, an RWL register of a cluster that is quiet and of one that is not, and a register of a unit inside its reset. -/
def Obligations.RegisterWriteTakesEffect : Prop :=
  ∀ (s : State) (c k : Fin 4) (d : Word), s.chip.pwr.dieReset = false → s.chip.coreRuns c = true →
    s.chip.bus.posted = [] → s.chip.bus.landed = [] →
    Completes (.registerWrite (.hart c) 0x4150000C d) s ((fieldsAt 0x4150000C).getD []) [.bus]
      (fun t => t.bus.posted = [] ∧ t.bus.held = s.chip.bus.held ∧ t.bus.resets = s.chip.bus.resets ∧
        ∀ f ∈ (fieldsAt 0x4150000C).getD [], t.get f = part d.toNat f.lsb f.width) ∧
    Completes (.registerWrite (.hart c) 0x41500008 d) s ((fieldsAt 0x41500008).getD []) [.bus]
      (fun t => t.bus.held = s.chip.bus.held ∧ ∀ f ∈ (fieldsAt 0x41500008).getD [], s.chip.get f < 2 →
        t.get f = if hasBit d.toNat f.lsb && !hasBit (lookupD 0 f.key s.chip.irq.fresh) 0 then 0 else s.chip.get f) ∧
    (s.chip.quiet k = true →
      Completes (.registerWrite (.hart c) (BitVec.ofNat 32 (0x41500114 + 0x40 * k.val)) d) s [Reg.CHM_C_TW_C0_v k] [.bus]
        (fun t => t.bus.held = s.chip.bus.held ∧ t.get (Reg.CHM_C_TW_C0_v k) = d.toNat)) ∧
    (s.chip.quiet k = false →
      Touches (.registerWrite (.hart c) (BitVec.ofNat 32 (0x41500114 + 0x40 * k.val)) d) s [.regs, .log, .free, .bus]
        (fun t => t.bus.held = s.chip.bus.held ∧ t.get (Reg.CHM_C_TW_C0_v k) = s.chip.get (Reg.CHM_C_TW_C0_v k))) ∧
    ∀ (n : Fin 2) (i : Fin 64), UnitId.pos n ∈ s.chip.bus.resets →
      Completes (.registerWrite (.hart c) (BitVec.ofNat 32 (0x41300000 + 0x100 * n.val + 4 * i.val)) d) s [] [.bus]
        (fun t => t.bus.posted = [] ∧ t.bus.resets = s.chip.bus.resets ∧
          t.bus.held = s.chip.bus.held ++ [⟨.hart c, 0x41300000 + 0x100 * n.val + 4 * i.val, 4, d.toNat, 0⟩])

/-- UNIT_RESET and ISLAND_UNIT_RESET start, are refused or are held; UNIT_RESET_END ends the reset and lets the held write
through. -/
def Obligations.UnitResetHoldsAccesses : Prop :=
  ∀ s : State, s.chip.pwr.dieReset = false →
    (∀ u : UnitId, s.chip.takes (Chip.unitCtl u) = true → s.chip.rwlOpen (Chip.unitCtl u) = true →
      Touches (.unitReset u) s [.regs, .mem, .free, .log, .bus, .pos, .cle, .slice, .isl, .can, .porch, .ring] (fun t =>
        u ∈ t.bus.resets ∧ t.bus.posted = s.chip.bus.posted ∧ t.bus.held = s.chip.bus.held ∧
        ∀ f : Field, f.lsb < 32 → f.addr / 0x1000 = Chip.unitCtl u / 0x1000 → f.key ≠ Reg.RING_STAT_node.key →
          (u = .ring ∨ ∃ k : Fin 4, u = .cle k) → t.get f = f.reset % 2 ^ f.width)) ∧
    (∀ u : UnitId, s.chip.takes (Chip.unitCtl u) = true → s.chip.rwlOpen (Chip.unitCtl u) = false →
      Touches (.unitReset u) s [.regs, .log, .free] (fun t => t.log.seq = (s.chip.log.seq + 1) % 65536)) ∧
    (∀ n : Fin 2, UnitId.pos n ∈ s.chip.bus.resets →
      Completes (.unitReset (.pos n)) s [] [.bus] (fun t => t.bus.resets = s.chip.bus.resets ∧
        t.bus.posted = s.chip.bus.posted ∧
        t.bus.held.dropLast = s.chip.bus.held ∧
        t.bus.held.getLast?.map (fun p => (p.addr, hasBit p.data 3)) = some (Chip.unitCtl (.pos n), true))) ∧
    (∀ n : Fin 12, s.chip.takes (Chip.unitCtl (.isl n)) = true → s.chip.rwlOpen (Chip.unitCtl (.isl n)) = true →
      Touches (.islandUnitReset n) s [.regs, .bus, .isl] (fun t =>
        UnitId.isl n ∈ t.bus.resets ∧ t.bus.posted = s.chip.bus.posted)) ∧
    (s.chip.bus.held = [] → ∀ u ∈ s.chip.bus.resets,
      Completes (.unitResetEnd u) s [] [.bus] (fun t => u ∉ t.bus.resets ∧ t.bus.held = [])) ∧
    ∀ n : Fin 2, s.chip.bus.resets = [.pos n] → s.chip.bus.landed = [] → s.chip.bus.held.length = 1 →
      (∀ p ∈ s.chip.bus.held, p.addr = 0x4130001C + 0x100 * n.val) →
      Completes (.unitResetEnd (.pos n)) s ((fieldsAt (0x4130001C + 0x100 * n.val)).getD []) [.bus]
        (fun t => t.bus.resets = [] ∧ t.bus.held = [] ∧ ∀ p ∈ s.chip.bus.held,
          ∀ f ∈ (fieldsAt (0x4130001C + 0x100 * n.val)).getD [], t.get f = part p.data f.lsb f.width)

/-- CONFIG_READBACK: nothing where every node agrees; else the region, and it alone, enters its reset. -/
def Obligations.ConfigReadbackHalts : Prop :=
  ∀ (s : State) (g : Fin 2), s.chip.pwr.dieReset = false →
    Completes (.configReadback g none) s [] [] (fun _ => True) ∧
    ∀ x : Fin 4096, (s.chip.region g).inReset = false →
      Touches (.configReadback g (some x)) s
        [.regs, .mem, .ecc, .free, .fab, .log, .bus, .pwr, .rgn, .cl, .adc, .pos, .cle, .slice, .isl, .safe, .chm, .hart, .sem, .memS, .hw]
        (fun t => t.rgn = updNth (fun r => { r with inReset := true }) g s.chip.rgn)

/-- What FENCE and FENCE.I wait for and discard. -/
def Obligations.FenceWaitsForWrites : Prop :=
  ∀ (s : State) (c : Fin 4) (p : FenceSet), s.chip.pwr.dieReset = false → s.chip.coreRuns c = true →
    (p.tso = false → p.i = true ∨ p.o = true → Ends (.fenceInstruction c p) s (fun t =>
      t.bus.posted.Sublist s.chip.bus.posted ∧ ∀ q ∈ t.bus.posted, q.req ≠ .hart c)) ∧
    (p.tso = true ∨ (p.o = false ∧ p.i = false ∧ p.w = true) → Ends (.fenceInstruction c p) s (fun t =>
      t.bus.posted.Sublist s.chip.bus.posted ∧ ∀ q ∈ t.bus.posted, q.req = .hart c → isMemory q.target = false)) ∧
    (p = ⟨false, false, false, false, false⟩ → Completes (.fenceInstruction c p) s [] [.hart] (fun t =>
      c.val < s.chip.hart.length → (nth t.hart c).instret = ((nth s.chip.hart c).instret + 1) % 2 ^ 64)) ∧
    Ends (.fenceI c) s (fun t => t.bus.posted.Sublist s.chip.bus.posted ∧
      (∀ q ∈ t.bus.posted, q.req = .hart c → ¬ q.target < 0x40000000) ∧ (nth t.hart c).fetchQ = [] ∧
      nth t.memS.lines (c.val / 2) = none)

/-- FLAG_RELEASE: after the requester's earlier writes, the flag; a host's take of a DEVICE buffer is a violation; a core that
does not execute presents no request. -/
def Obligations.FlagReleaseSetsOwner : Prop :=
  ∀ (s : State) (r : Requester) (b : Fin 1024) (d : Word), s.chip.pwr.dieReset = false →
    (s.chip.reqRuns r = false → Completes (.flagRelease r b d) s [] [] (fun _ => True)) ∧
    (s.chip.reqRuns r = true →
      Ends (.flagRelease r b d) s (fun t => t.bus.posted.Sublist s.chip.bus.posted ∧ ∀ q ∈ t.bus.posted, q.req ≠ r) ∧
      ((∀ q ∈ s.chip.bus.posted ++ s.chip.bus.held, q.req ≠ r) → ¬ (r = .host ∧ d.toNat % 2 = 0 ∧ s.chip.bufOwner b = 1) →
        Completes (.flagRelease r b d) s [] [.mem] (fun t => t.bufOwner b = d.toNat % 2 ∧
          (s.chip.bufOwner b ≠ d.toNat % 2 → t.byte (Chip.flagAddr b + 1) = s.chip.byte (Chip.flagAddr b + 1) + 1) ∧
          (s.chip.bufOwner b = d.toNat % 2 → t.mem = s.chip.mem) ∧
          ∀ a, a ≠ Chip.flagAddr b → a ≠ Chip.flagAddr b + 1 → t.byte a = s.chip.byte a)) ∧
      ((∀ q ∈ s.chip.bus.posted ++ s.chip.bus.held, q.req ≠ r) → r = .host → d.toNat % 2 = 0 → s.chip.bufOwner b = 1 →
        Completes (.flagRelease r b d) s [Reg.HW_FLAGS_own_viol] [.log] (fun t => t.get Reg.HW_FLAGS_own_viol = 1)))

/-- LOG_ENTRY_FLASH_WRITE: the oldest waiting entry, its sixteen bytes and its place. -/
def Obligations.LogEntryWritten : Prop :=
  ∀ s : State, s.chip.pwr.dieReset = false → s.chip.log.queue ≠ [] → s.chip.chm.writes = [] →
    (s.chip.writeTempOk .log = true → Touches .logEntryFlashWrite s [.regs, .mem, .ecc, .log, .chm] (fun t =>
      t.log.queue = s.chip.log.queue.tail ∧ t.bytes (0x10800000 + 16 * s.chip.log.flashNext) 16 = Chip.entryBytes (nth s.chip.log.queue 0) ∧
      t.log.flashNext = (s.chip.log.flashNext + 1) % 512 ∧ t.log.retention = s.chip.log.retention ∧
      ∀ a, (a < 0x10800000 + 16 * s.chip.log.flashNext ∨ 0x10800010 + 16 * s.chip.log.flashNext ≤ a) →
        t.byte a = s.chip.byte a)) ∧
    (s.chip.writeTempOk .log = false → Touches .logEntryFlashWrite s [.regs, .log, .chm] (fun t =>
      t.chm.writes = [⟨.log, true, false, s.chip.now⟩] ∧ t.log.flashNext = s.chip.log.flashNext))

/-- BROWN_OUT of each rail. -/
def Obligations.BrownOutActs : Prop :=
  ∀ s : State,
    (s.chip.pwr.state = .run → (∀ b : Bool, s.chip.pwr.sleep ≠ .waiting b) →
      (s.chip.on Reg.PWR_STAT_vcore_good = true → Ends (.brownOut .core) s (fun t => s.chip.DieDown t ∧ t.pwr.railsUp = false ∧ t.pwr.locked = false ∧
        t.cfg.borNext = s.chip.cfg.borNext ++ [0x0D23] ∧ t.get Reg.PWR_STAT_vcore_good = 0)) ∧
      (s.chip.on Reg.PWR_STAT_vio_good = true → Ends (.brownOut .io) s (fun t => s.chip.DieDown t ∧ t.pwr.railsUp = false ∧ t.pwr.locked = false ∧
        t.cfg.borNext = s.chip.cfg.borNext ++ [0x0D24] ∧ t.get Reg.PWR_STAT_vio_good = 0))) ∧
    (s.chip.pwr.state ≠ .run →
      Completes (.brownOut .core) s [Reg.PWR_STAT_vcore_good] [] (fun t => t.get Reg.PWR_STAT_vcore_good = 0) ∧
      Completes (.brownOut .io) s [Reg.PWR_STAT_vio_good] [] (fun t => t.get Reg.PWR_STAT_vio_good = 0)) ∧
    Ends (.brownOut .aon) s (fun t => t.pwr.dieReset = true ∧ t.pwr.state = .off ∧ t.log.retention = [] ∧
      ∀ f : Field, f.lsb < 32 → 0x41A00800 ≤ f.addr → f.addr ≤ 0x41A00BFF → t.get f = f.reset % 2 ^ f.width) ∧
    (s.chip.pwr.dieReset = false → s.chip.Shaped →
      Ends (.brownOut .vdda) s (fun t => t.pwr.dieReset = false ∧ t.pwr.vddaOk = false ∧ t.adc.refWait = false ∧
        ∀ k : Fin 4, t.Latched k 0x0D21)) ∧
    Completes (.brownOut .xfmr) s [] [] (fun _ => True)

/-- RAIL_WARN: falling below and returning. -/
def Obligations.RailWarnRecorded : Prop :=
  ∀ s : State, s.chip.pwr.dieReset = false →
    (s.chip.on Reg.PWR_STAT_vcore_warn = false →
      Completes (.railWarn .core true) s [Reg.PWR_STAT_vcore_warn, Reg.PWR_FLAGS_warn_ev] [.log] (fun t =>
        t.get Reg.PWR_STAT_vcore_warn = 1 ∧ t.get Reg.PWR_FLAGS_warn_ev = 1 ∧ t.log.seq = (s.chip.log.seq + 1) % 65536)) ∧
    (s.chip.on Reg.PWR_STAT_vio_warn = false →
      Completes (.railWarn .io true) s [Reg.PWR_STAT_vio_warn, Reg.PWR_FLAGS_warn_ev] [.log] (fun t =>
        t.get Reg.PWR_STAT_vio_warn = 1 ∧ t.get Reg.PWR_FLAGS_warn_ev = 1 ∧ t.log.seq = (s.chip.log.seq + 1) % 65536)) ∧
    (s.chip.on Reg.PWR_STAT_vdda_warn = false →
      Completes (.railWarn .vdda true) s [Reg.PWR_STAT_vdda_warn, Reg.PWR_FLAGS_warn_ev] [.log] (fun t =>
        t.get Reg.PWR_STAT_vdda_warn = 1 ∧ t.get Reg.PWR_FLAGS_warn_ev = 1 ∧ t.log.seq = (s.chip.log.seq + 1) % 65536)) ∧
    (s.chip.on Reg.PWR_STAT_xfmr_low = false →
      Completes (.railWarn .xfmr true) s [Reg.PWR_STAT_xfmr_low, Reg.PWR_FLAGS_xfmr_ev] [.log] (fun t =>
        t.get Reg.PWR_STAT_xfmr_low = 1 ∧ t.get Reg.PWR_FLAGS_xfmr_ev = 1 ∧ t.log.seq = (s.chip.log.seq + 1) % 65536)) ∧
    Completes (.railWarn .core false) s [Reg.PWR_STAT_vcore_warn] [] (fun t => t.get Reg.PWR_STAT_vcore_warn = 0) ∧
    Completes (.railWarn .io false) s [Reg.PWR_STAT_vio_warn] [] (fun t => t.get Reg.PWR_STAT_vio_warn = 0) ∧
    Completes (.railWarn .vdda false) s [Reg.PWR_STAT_vdda_warn] [] (fun t => t.get Reg.PWR_STAT_vdda_warn = 0)

/-- POWER_ON_RELEASE with and without RST_N low; CELLAR_RESET. -/
def Obligations.PowerOnAndCellarReset : Prop :=
  ∀ s : State,
    (s.chip.pwr.dieReset = true → s.chip.pwr.state = .run → s.chip.pwr.sleep = .none → s.chip.pwr.railsUp = false →
      (s.chip.pwmG.fltLow = false → s.chip.hw.sleepPin = false → Completes .powerOnRelease s [Reg.PWR_STAT_vcore_good, Reg.PWR_STAT_vio_good, Reg.PWR_STAT_vdda_good,
          Reg.PWR_STAT_aon_good, Reg.CLK_STAT_pll_lock] [.pwr, .cfg] (fun t =>
        t.pwr.dieReset = s.chip.pinHolds ∧ t.pwr.railsUp = true ∧ t.pwr.vddaOk = true ∧ t.pwr.locked = false ∧
        t.get Reg.PWR_STAT_vcore_good = 1 ∧ t.get Reg.PWR_STAT_vio_good = 1 ∧ t.get Reg.PWR_STAT_vdda_good = 1 ∧
        t.get Reg.PWR_STAT_aon_good = 1)) ∧
      Touches .powerOnRelease s [.regs, .log, .pwr, .cfg, .cl, .slice, .isl, .safe] (fun t =>
        t.pwr.dieReset = s.chip.pinHolds ∧ t.pwr.railsUp = true ∧ t.pwr.vddaOk = true)) ∧
    ∀ rails : Bool, Ends (.cellarReset rails) s (fun t =>
      t.pwr.state = (if rails then .run else .dormant) ∧ t.pwr.dieReset = true ∧ t.log.retention = [] ∧
      t.pwr.acting = [] ∧ ∀ f : Field, f.lsb < 32 → 0x41A00800 ≤ f.addr → f.addr ≤ 0x41A00BFF → t.get f = f.reset % 2 ^ f.width)

/-- The steps of a sleep entry. -/
def Obligations.SleepEntry : Prop :=
  ∀ (s : State) (d : Word) (dormant fell : Bool),
    (s.chip.pwr.dieReset = false → s.chip.sleepBits d.toNat ≠ 0 →
      Completes (.sleepRequest d) s [Reg.CEL_STAT_refused, Reg.CEL_STAT_abort, Reg.CEL_STAT_refuse] [.log] (fun t =>
        t.get Reg.CEL_STAT_refused = 1 ∧ t.get Reg.CEL_STAT_refuse = s.chip.sleepBits d.toNat)) ∧
    (s.chip.pwr.dieReset = false → s.chip.sleepBits d.toNat = 0 →
      Completes (.sleepRequest d) s [Reg.CEL_STAT_refused, Reg.CEL_STAT_abort, Reg.CEL_STAT_refuse, Reg.CEL_STAT_xfer] [.pwr]
        (fun t => t.get Reg.CEL_STAT_refused = 0 ∧ t.get Reg.CEL_STAT_abort = 0 ∧ t.get Reg.CEL_STAT_xfer = 1 ∧
          t.get Reg.CEL_STAT_refuse = s.chip.get Reg.CEL_STAT_refuse ∧
          t.pwr.sleep = .queued (d.toNat % 4 == 1))) ∧
    (s.chip.pwr.state ≠ .dormant → s.chip.pwr.state ≠ .off → ∀ p ∈ s.chip.pwr.xferRun, p.1 ≠ 0x41A00818 → s.chip.pwr.xferRun.length = 1 → s.chip.pwr.sleep = .none →
      Completes .cellarTransfer s [Reg.CEL_STAT_xfer, Reg.CLK_STAT_aon_xtal] [.pwr] (fun t =>
        t.acting p.1 = p.2 ∧ t.pwr.xferRun = s.chip.pwr.xferHeld ∧ t.pwr.xferHeld = [])) ∧
    (s.chip.pwr.sleep = .queued dormant → s.chip.pwr.state ≠ .dormant → s.chip.pwr.state ≠ .off →
      ∀ p ∈ (s.chip.pwr.xferRun.find? fun p => p.1 = 0x41A00818).toList, Ends .cellarTransfer s (fun t =>
        s.chip.DieDown t ∧ t.pwr.sleep = .waiting (p.2 % 4 == 1) ∧ t.pwr.pwrReq = false ∧ t.pwr.railsUp = false)) ∧
    (s.chip.pwr.state = .dormant ∨ s.chip.pwr.state = .off → Completes .cellarTransfer s [] [] (fun _ => True)) ∧
    (s.chip.pwr.sleep = .waiting dormant →
      Completes (.sleepRailWaitEnd fell) s [Reg.CEL_STAT_rails_on, Reg.PWR_STAT_vcore_good, Reg.PWR_STAT_vio_good,
          Reg.PWR_STAT_vdda_good] [.pwr] (fun t => t.pwr.state = (if dormant then .dormant else .watch) ∧
        t.pwr.sleep = .none ∧ t.get Reg.CEL_STAT_rails_on = b2n (!fell)))

/-- WAKE_SLOT_FIRE in each power state. -/
def Obligations.WakeSlotFires : Prop :=
  ∀ (s : State) (n : Fin 16),
    (s.chip.slotOn n = false → Completes (.wakeSlotFire n) s [] [] (fun _ => True)) ∧
    (s.chip.slotOn n = true → Touches (.wakeSlotFire n) s [.regs, .pwr, .log] (fun t =>
      hasBit (t.get Reg.CEL_WAKE_CAUSE_cause) n = true)) ∧
    (s.chip.slotOn n = true → s.chip.pwr.state = .dormant ∨ s.chip.pwr.state = .watch →
      Completes (.wakeSlotFire n) s [Reg.CEL_WAKE_CAUSE_cause, Reg.CEL_STAT_state_prev] [.pwr] (fun t =>
        t.pwr.state = .run ∧ t.pwr.waking = true ∧ hasBit t.pwr.latched n = true ∧
        t.pwr.pwrReq = hasBit (s.chip.acting 0x41A00804) 0)) ∧
    ∀ b : Bool, s.chip.slotOn n = true → s.chip.pwr.state = .run → s.chip.pwr.sleep = .queued b →
      Touches (.wakeSlotFire n) s [.regs, .pwr, .log] (fun t =>
        t.pwr.sleep = .none ∧ t.pwr.state = .run ∧ t.get Reg.CEL_STAT_abort = 1)

/-- The clock monitors of Table 03-9. -/
def Obligations.ClockMonitorsAct : Prop :=
  ∀ (s : State) (w : Word) (g : Fin 2) (b : Bool), s.chip.pwr.dieReset = false → s.chip.Shaped →
    Completes .pllLock s [Reg.CLK_STAT_pll_lock] [.pwr] (fun t => t.get Reg.CLK_STAT_pll_lock = 1 ∧ t.pwr.locked = true) ∧
    (s.chip.pwr.locked = true → Touches (.pllUnlock w) s
      [.regs, .mem, .ecc, .free, .fab, .log, .bus, .pwr, .rgn, .cl, .adc, .pos, .cle, .slice, .isl, .safe, .chm, .hart, .sem, .memS, .hw, .ring]
      (fun t => t.pwr.locked = false ∧ (∀ r ∈ t.rgn, r.inReset = true) ∧ t.ring.stopped = true)) ∧
    Touches (.mainFreq w) s
      [.regs, .mem, .ecc, .free, .fab, .log, .bus, .pwr, .rgn, .cl, .adc, .pos, .cle, .slice, .isl, .safe, .chm, .hart, .sem, .memS, .hw, .ring]
      (fun t => t.pwr.safetyOnMon = true ∧ (∀ r ∈ t.rgn, r.inReset = true) ∧ t.ring.stopped = true) ∧
    ((s.chip.region g).inReset = false → s.chip.pairWaits g = false → Touches (.coreClkFail g) s
      [.regs, .mem, .ecc, .free, .fab, .log, .bus, .pwr, .rgn, .cl, .adc, .pos, .cle, .slice, .isl, .safe, .chm, .hart, .sem, .memS, .hw]
      (fun t => t.rgn = updNth (fun r => { r with inReset := true }) g s.chip.rgn)) ∧
    ((s.chip.region g).inReset = true ∨ s.chip.pairWaits g = true → Completes (.coreClkFail g) s [] [] (fun _ => True)) ∧
    Touches (.monoscFail w) s [.regs, .log, .pwr, .cl, .slice, .isl, .safe] (fun t => ∀ k : Fin 4, t.Latched k 0x0D15) ∧
    Completes (.aonXtalFail b) s [Reg.CLK_STAT_mon_last, Reg.PWR_FLAGS_mon_ev, Reg.PWR_FLAGS_aon_xtal_ev,
        Reg.CLK_STAT_aon_xtal, Reg.CEL_PWR_CFG_aon_src] [.pwr, .log] (fun t =>
      t.get Reg.CLK_STAT_mon_last = 6 ∧ t.get Reg.PWR_FLAGS_mon_ev = 1 ∧ t.get Reg.PWR_FLAGS_aon_xtal_ev = 1 ∧
      t.get Reg.CLK_STAT_aon_xtal = 0 ∧ t.get Reg.CEL_PWR_CFG_aon_src = 0)

/-- REF_LOSS and REF_RETURN. -/
def Obligations.ReferenceLossAndReturn : Prop :=
  ∀ (s : State) (w : Word), s.chip.pwr.dieReset = false → s.chip.Shaped →
    (s.chip.on Reg.CLK_STAT_on_backup = false →
      Touches (.refLoss w) s [.regs, .mem, .log, .pwr, .cl, .slice, .isl, .safe, .can, .porch, .ring] (fun t =>
        t.ring.stopped = true ∧ ∀ k : Fin 4, t.Latched k 0x0D10)) ∧
    (s.chip.on Reg.CLK_STAT_on_backup = true →
      Completes (.refLoss w) s [] [] (fun _ => True) ∧
      Touches .refReturn s [.regs, .mem, .log, .can, .porch, .ring] (fun t => t.ring.stopped = false ∧ t.cl = s.chip.cl))

/-- REGION_GATE_CLOSE and WFI. -/
def Obligations.GateAndWfi : Prop :=
  ∀ (s : State) (g : Fin 2) (c : Fin 4), s.chip.pwr.dieReset = false →
    (s.chip.stopCond g = true → (s.chip.region g).inReset = false →
      Completes (.regionGateClose g) s [if g = 0 then Reg.CLK_STAT_rgn_a_gated else Reg.CLK_STAT_rgn_b_gated] []
        (fun t => t.gated g = true)) ∧
    (s.chip.stopCond g = false → Completes (.regionGateClose g) s [] [] (fun _ => True)) ∧
    (s.chip.coreRuns c = false → Completes (.wfi c) s [] [] (fun _ => True)) ∧
    (s.chip.Shaped → s.chip.levelsSeen → s.chip.coreRuns c = true →
      Completes (.wfi c) s [] [.hart] (fun t =>
        (nth t.hart c).pc = ((nth s.chip.hart c).pc + 4) % 2 ^ 32 ∧
        (nth t.hart c).instret = ((nth s.chip.hart c).instret + 1) % 2 ^ 64 ∧
        (t.line c = true → (nth t.hart c).wfi = false) ∧
        (s.chip.line c = false → t.line c = false → (nth t.hart c).wfi = true)))

/-- The reset pin: low, high again, stuck, unmasked. -/
def Obligations.ResetPinHoldsDie : Prop :=
  ∀ s : State,
    (s.chip.on Reg.CEL_STAT_rst_masked = false → s.chip.pwr.dieReset = false →
      Ends .resetPin s (fun t => s.chip.DieDown t ∧ t.cfg.rstLow = true)) ∧
    (s.chip.on Reg.CEL_STAT_rst_masked = true ∨ s.chip.pwr.dieReset = true →
      Completes .resetPin s [] [.cfg] (fun t => t.cfg.rstLow = true)) ∧
    (s.chip.cfg.rstLow = true → (s.chip.pwmG.fltLow = false → s.chip.hw.sleepPin = false →
        Completes .resetPinRelease s [Reg.CEL_RSTLOW_count] [.cfg, .pwr] (fun t => t.cfg.rstLow = false)) ∧
      Touches .resetPinRelease s [.regs, .log, .pwr, .cfg, .cl, .slice, .isl, .safe] (fun t =>
      t.cfg.rstLow = false ∧ t.get Reg.CEL_RSTLOW_count = 0 ∧
      (s.chip.on Reg.CEL_STAT_rst_masked = false → s.chip.pwr.railsUp = true → s.chip.pwr.state = .run →
        s.chip.pwr.sleep = .none → t.pwr.dieReset = false))) ∧
    (s.chip.cfg.rstLow = true → s.chip.cfg.rstStuck = false → s.chip.on Reg.CEL_STAT_rst_masked = false →
      s.chip.pwr.state ≠ .dormant → s.chip.pwr.state ≠ .off → s.chip.log.retention.length < 16 →
      (hasBit (s.chip.acting 0x41A00804) 2 = false →
        Completes .resetStuck s [Reg.CEL_RSTLOW_count, Reg.CEL_STAT_log_head] [.log, .cfg] (fun t =>
          t.cfg.rstStuck = true ∧ t.log.retention.length = s.chip.log.retention.length + 1 ∧
          ∃ e ∈ t.log.retention, e.code = 0x0E10)) ∧
      (hasBit (s.chip.acting 0x41A00804) 2 = true →
        Touches .resetStuck s [.regs, .log, .pwr, .cfg, .cl, .slice, .isl, .safe]
          (fun t => t.cfg.rstStuck = true ∧ t.get Reg.CEL_STAT_rst_masked = 1 ∧ ∃ e ∈ t.log.retention, e.code = 0x0E10))) ∧
    (s.chip.on Reg.CEL_STAT_rst_masked = true → s.chip.cfg.rstLow = false →
      s.chip.pwr.state ≠ .dormant → s.chip.pwr.state ≠ .off →
      Completes .rstUnmasked s [Reg.CEL_STAT_rst_masked] [.cfg, .log] (fun t =>
        t.get Reg.CEL_STAT_rst_masked = 0 ∧ t.cfg.rstStuck = false))

/-- Resets by CFG_RST_CTL and by the debug module. -/
def Obligations.ResetsByRequest : Prop :=
  ∀ (s : State) (d : Word) (g : Fin 2) (x : DebugTarget), s.chip.pwr.dieReset = false →
    (part d.toNat 16 16 = 0x5E7A → hasBit d.toNat 2 = true →
      Ends (.swModuleReset d) s (fun t => hasBit t.cfg.causeNext 6 = true ∧
        (s.chip.pwmG.fltLow = false → s.chip.hw.sleepPin = false → s.chip.DieFresh t))) ∧
    (part d.toNat 16 16 ≠ 0x5E7A → Completes (.swModuleReset d) s [] [] (fun _ => True) ∧
      Completes (.swRegionReset d) s [] [] (fun _ => True)) ∧
    ((s.chip.region g).inReset = false → part d.toNat 16 16 = 0x5E7A → d.toNat % 8 = 2 ^ g.val →
      Ends (.swRegionReset d) s (fun t => t.rgn = updNth (fun r => { r with inReset := true }) g s.chip.rgn ∧
        t.pwr.dieReset = false)) ∧
    (s.chip.debugOpen = true →
      Ends (.debugReset .die) s (fun t => hasBit t.cfg.causeNext 9 = true ∧
        (s.chip.pwmG.fltLow = false → s.chip.hw.sleepPin = false → s.chip.DieFresh t)) ∧
      ((s.chip.region g).inReset = false → Ends (.debugReset (if g = 0 then .regionA else .regionB)) s (fun t =>
        t.rgn = updNth (fun r => { r with inReset := true }) g s.chip.rgn))) ∧
    (s.chip.debugOpen = false → Completes (.debugReset x) s [] [] (fun _ => True))

/-- BOOT_SEQUENCE: the ways a start ends. -/
def Obligations.StartUpRuns : Prop :=
  ∀ (s : State) (o : BootOutcome), s.chip.pwr.dieReset = false → s.chip.Shaped →
    (s.chip.pwr.locked = false ∨ s.chip.cfg.boot ≠ 0 → Completes (.bootSequence o) s [] [] (fun _ => True)) ∧
    (s.chip.pwr.locked = true → s.chip.cfg.boot = 0 → o.fuseBad ≠ none →
      Ends (.bootSequence o) s (fun t => t.cfg.boot = 2 ∧ t.rgn = s.chip.rgn ∧ t.mem = s.chip.mem ∧
        ∀ k : Fin 4, t.Latched k 0x0E25)) ∧
    (s.chip.pwr.locked = true → s.chip.cfg.boot = 0 → o.fuseBad = none →
      Ends (.bootSequence o) s (fun t => (t.cfg.boot = 1 ∧ t.img.present = true) ∨
        (t.cfg.boot = 3 ∧ t.rgn = s.chip.rgn ∧ ∀ k : Fin 4, t.Latched k 0x0E21))) ∧
    (s.chip.pwr.locked = true → s.chip.cfg.boot = 0 → o.fuseBad = none → s.chip.bootRec.trial = 0 →
      s.chip.imageCheck s.chip.bootRec.pref = 0 →
      Ends (.bootSequence o) s (fun t => t.cfg.boot = 1 ∧ t.img = s.chip.readImage s.chip.bootRec.pref))

/-- The slots of a region that follow the start. -/
def Obligations.RegionsComeUp : Prop :=
  ∀ (s : State) (g : Fin 2) (o : SlotOutcome) (x : TestOutcome), s.chip.pwr.dieReset = false → s.chip.Shaped →
    (s.chip.slotReady g = false → Completes (.regionResetEnd g o) s [] [] (fun _ => True)) ∧
    (s.chip.slotReady g = true → (s.chip.region g).up = true → hasBit s.chip.cfg.selfTest g = false →
      hasBit s.chip.cfg.bringUp g = false → o.sectionBad = none →
      (o.fabricBad = none → Ends (.regionResetEnd g o) s (fun t => (t.region g).inReset = false ∧
        (nth t.hart (2 * g)).pc = (if g = 0 then s.chip.img.entryA else s.chip.img.entryB) ∧
        (nth t.hart (2 * g + 1)).pc = (if g = 0 then s.chip.img.entryA else s.chip.img.entryB))) ∧
      (o.fabricBad ≠ none → Ends (.regionResetEnd g o) s (fun t =>
        (t.region g).inReset = true ∧ (t.region g).dead = true))) ∧
    (s.chip.cfg.boot = 1 → (s.chip.region g).inReset = true → (s.chip.region g).up = false → (s.chip.region g).dead = false →
      hasBit s.chip.cfg.bringUp g = false → Touches (.lateBringup g) s [.regs, .pwr, .cfg, .safe] (fun t =>
        hasBit t.cfg.bringUp g = true ∧ t.get (Chip.upField g) = 1)) ∧
    ((s.chip.region g).inReset = false → Completes (.lateBringup g) s [] [] (fun _ => True)) ∧
    (s.chip.slotReady g = true → hasBit s.chip.cfg.bringUp g = true → hasBit s.chip.cfg.selfTest g = false → o.logicFail = false → o.memRows = [] →
      o.fabricBad = none → o.sectionBad = none →
      Ends (.lateBringupDone g o x) s (fun t => (t.region g).inReset = false ∧ (t.region g).up = true ∧
        hasBit t.cfg.bringUp g = false)) ∧
    (s.chip.get (Chip.fullField g) = 0 → s.chip.get Reg.CFG_LC_STAT_state = 0 → s.chip.quiet (2 * g) = true →
      s.chip.quiet (2 * g + 1) = true → (s.chip.region g).inReset = false →
      Touches (.fullSelftest g) s
        [.regs, .mem, .ecc, .free, .fab, .log, .bus, .pwr, .cfg, .rgn, .cl, .adc, .pos, .cle, .slice, .isl, .safe, .chm, .hart, .sem, .memS, .hw]
        (fun t => t.rgn = updNth (fun r => { r with inReset := true }) g s.chip.rgn ∧ hasBit t.cfg.selfTest g = true)) ∧
    (s.chip.get (Chip.fullField g) = 0 → s.chip.get Reg.CFG_LC_STAT_state = 2 →
      Touches (.fullSelftest g) s [.regs, .log, .free] (fun t => t.log.seq = (s.chip.log.seq + 1) % 65536)) ∧
    (s.chip.slotReady g = true → hasBit s.chip.cfg.selfTest g = true → (s.chip.region g).dead = false →
      hasBit s.chip.cfg.bringUp g = false → o.logicFail = false → o.memRows = [] →
      o.fabricBad = none → o.sectionBad = none →
      Ends (.fullSelftestEnd g o x) s (fun t => (t.region g).inReset = false ∧ hasBit t.cfg.selfTest g = false))

/-- The boot record and the anti-rollback count. -/
def Obligations.BootRecordAndRollback : Prop :=
  ∀ (s : State) (d : Word), s.chip.pwr.dieReset = false →
    (s.chip.on Reg.CFG_BANK_CTL_wr_busy = false → part d.toNat 16 16 = 0xB0A7 → hasBit d.toNat 8 = false →
      Touches (.bankUpdate d) s [.regs, .log, .cfg, .chm] (fun t => t.get Reg.CFG_BANK_CTL_wr_busy = 1 ∧
        t.cfg.bootUpdate = some ⟨bitOf d.toNat 0, bitOf d.toNat 1, if part d.toNat 4 2 = 0 then 3 else part d.toNat 4 2⟩)) ∧
    (part d.toNat 16 16 ≠ 0xB0A7 → hasBit d.toNat 8 = false → Completes (.bankUpdate d) s [] [] (fun _ => True)) ∧
    (s.chip.on Reg.CFG_BANK_CTL_wr_busy = false → Touches .bankConfirm s [.regs, .log, .cfg, .chm] (fun t =>
      t.get Reg.CFG_BANK_CTL_wr_busy = 1 ∧ t.cfg.bootUpdate = some { s.chip.bootRec with trial := 0 })) ∧
    ((s.chip.chm.writes.any fun w => decide (w.owner = .boot) && w.started) = true →
      ∀ u ∈ s.chip.cfg.bootUpdate.toList, u.pref ≤ 1 → u.trial ≤ 1 → u.tries ≤ 3 →
      Touches (.bootrecWriteEnd true) s [.regs, .mem, .cfg, .chm] (fun t => t.bootRec = u ∧ t.cfg.bootUpdate = none ∧
        t.get Reg.CFG_BANK_CTL_wr_busy = 0 ∧ t.get Reg.CFG_BANK_CTL_wr_fail = 0 ∧
        ∀ a, a < s.chip.bootOlder ∨ s.chip.bootOlder + 32 ≤ a → t.byte a = s.chip.byte a) ∧
      Touches (.bootrecWriteEnd false) s [.regs, .log, .cfg, .chm] (fun t => t.cfg.bootUpdate = none ∧
        t.get Reg.CFG_BANK_CTL_wr_busy = 0 ∧ t.get Reg.CFG_BANK_CTL_wr_fail = 1)) ∧
    (part d.toNat 16 16 = 0xC0A1 → s.chip.on Reg.CFG_ARB_busy = false →
      (s.chip.cfg.fuses.arb ≤ s.chip.get Reg.CFG_ARB_image_sv → s.chip.on Reg.CFG_BANK_CTL_trial = false →
        Completes (.arbCommit d) s [Reg.CFG_ARB_busy] [] (fun t => t.get Reg.CFG_ARB_busy = 1)) ∧
      (s.chip.get Reg.CFG_ARB_image_sv < s.chip.cfg.fuses.arb ∨ s.chip.on Reg.CFG_BANK_CTL_trial = true →
        Completes (.arbCommit d) s [] [.log] (fun t => t.log.seq = (s.chip.log.seq + 1) % 65536))) ∧
    (s.chip.on Reg.CFG_ARB_busy = true →
      Completes .arbCommitEnd s [Reg.CFG_ARB_fused, Reg.CFG_ARB_busy, Reg.CFG_EVENT_arb_ev] [.cfg] (fun t =>
        t.cfg.fuses = { s.chip.cfg.fuses with arb := min 64 (s.chip.get Reg.CFG_ARB_image_sv) } ∧
        t.get Reg.CFG_ARB_busy = 0 ∧ t.get Reg.CFG_EVENT_arb_ev = 1))

/-- Tokens and fuse repair. -/
def Obligations.TokensAndRepair : Prop :=
  ∀ (s : State) (d : Word) (good : List Bool) (b : Bool), s.chip.pwr.dieReset = false →
    (part d.toNat 16 16 = 0x70CE → s.chip.on Reg.CFG_LC_STAT_busy = false → s.chip.bufOwner (part d.toNat 0 10) = 1 →
      Completes (.tokenSubmit d) s [Reg.CFG_LC_STAT_busy] [.cfg] (fun t =>
        t.get Reg.CFG_LC_STAT_busy = 1 ∧ t.cfg.token = some (part d.toNat 0 10))) ∧
    (part d.toNat 16 16 = 0x70CE → s.chip.on Reg.CFG_LC_STAT_busy = true →
      Completes (.tokenSubmit d) s [Reg.CFG_LC_STAT_result] [.log] (fun t => t.get Reg.CFG_LC_STAT_result = 8)) ∧
    (part d.toNat 16 16 = 0x70CE → s.chip.on Reg.CFG_LC_STAT_busy = false → s.chip.bufOwner (part d.toNat 0 10) = 0 →
      Completes (.tokenSubmit d) s [Reg.CFG_LC_STAT_result, Reg.CFG_EVENT_token_ev] [.log] (fun t =>
        t.get Reg.CFG_LC_STAT_result = 2 ∧ t.get Reg.CFG_EVENT_token_ev = 1)) ∧
    (∀ i ∈ s.chip.cfg.token.toList,
      (∀ r : Nat, r < 16 → s.chip.tokenCheck i = .inl r →
        Completes (.tokenCheckEnd b) s [Reg.CFG_LC_STAT_busy, Reg.CFG_LC_STAT_result, Reg.CFG_EVENT_token_ev] [.log, .cfg]
          (fun t => t.get Reg.CFG_LC_STAT_busy = 0 ∧ t.get Reg.CFG_LC_STAT_result = r ∧ t.cfg.token = none ∧
            t.cfg.fuses = s.chip.cfg.fuses)) ∧
      (∀ f : Fuses, s.chip.tokenCheck i = .inr f →
        Touches (.tokenCheckEnd true) s [.regs, .log, .cfg, .free] (fun t =>
          t.cfg.fuses = f ∧ t.cfg.token = none ∧ t.get Reg.CFG_LC_STAT_result = 1))) ∧
    (s.chip.on Reg.CFG_ST_CTL_fuse_repair = false → s.chip.get Reg.CFG_LC_STAT_state = 0 →
      Completes .fuseRepair s [Reg.CFG_ST_CTL_fuse_repair, Reg.CFG_ST_STAT_busy] [] (fun t =>
        t.get Reg.CFG_ST_CTL_fuse_repair = 1 ∧ t.get Reg.CFG_ST_STAT_busy = 1)) ∧
    (s.chip.on Reg.CFG_ST_CTL_fuse_repair = true →
      Touches (.fuseRepairEnd good) s [.regs, .mem, .free, .log, .cfg, .chm] (fun t =>
        t.get Reg.CFG_ST_CTL_fuse_repair = 0 ∧ t.get Reg.CFG_EVENT_st_done_ev = 1 ∧
        t.cfg.fuses.repairs = (Chip.moveRepairs (s.chip.cfg.softRepair.filter fun p => !s.chip.cfg.fuses.repairs.contains p)
          good s.chip.cfg.fuses.repairs).2 ∧
        (s.chip.chm.writes = [] → s.chip.writeTempOk .softRepair = true → t.cfg.softRepair = t.cfg.mapped ∧ t.chm.writes = [])))

/-- The GPIO commands. -/
def Obligations.GpioPins : Prop :=
  ∀ (s : State) (d : Word) (p : Fin 32) (rise : Bool), s.chip.pwr.dieReset = false →
    Completes (.gpioSet d) s [Reg.GPIO_OUT_v] [.cfg] (fun t =>
      t.get Reg.GPIO_OUT_v % 2 ^ 32 = ((s.chip.get Reg.GPIO_OUT_v ||| d.toNat) &&& s.chip.gpioPins) % 2 ^ 32) ∧
    Completes (.gpioClr d) s [Reg.GPIO_OUT_v] [.cfg] (fun t =>
      ∀ i : Fin 32, hasBit d.toNat i = true → hasBit (t.get Reg.GPIO_OUT_v) i = false) ∧
    (hasBit (Nat.xor s.chip.cfg.gpioIn s.chip.gpioInv) p = !rise →
      (hasBit s.chip.gpioPins p = true → hasBit (s.chip.get Reg.GPIO_DIR_v) p = false →
        hasBit (s.chip.get (if rise then Reg.GPIO_RISE_EN_v else Reg.GPIO_FALL_EN_v)) p = true →
        Completes (.gpioEdge p rise) s [Reg.GPIO_FLAGS_v] [.cfg] (fun t => hasBit (t.get Reg.GPIO_FLAGS_v) p = true)) ∧
      (hasBit s.chip.gpioPins p = false →
        Completes (.gpioEdge p rise) s [] [.cfg] (fun t => t.cfg.gpioIn = Nat.xor s.chip.cfg.gpioIn (2 ^ p.val))))

/-- RUN_REQUEST and REQUEST_UNKNOWN. -/
def Obligations.RunRequests : Prop :=
  ∀ (s : State) (k : Fin 4) (code : Fin 16), s.chip.pwr.dieReset = false → s.chip.Shaped → s.chip.on (Reg.SEQ_STAT_lent k) = false →
    s.chip.takes (0x40000000 + 0x10000 * k.val) = true → (s.chip.cluster k).fallDue = false →
    (8 < code.val → Completes (.requestUnknown k code) s
      [Reg.SEQ_FLAGS_refused k, Reg.SEQ_FAULT_code k, Reg.SEQ_FAULT_class k, Reg.SEQ_FLAGS_fault k] [.log, .cl]
      (fun t => t.get (Reg.SEQ_FLAGS_refused k) = 1 ∧ t.get (Reg.SEQ_FAULT_code k) = 0x0510 ∧
        t.cl = updNth (fun x => { x with reqNow := code, refNow := some (s.chip.on (Reg.SEQ_FLAGS_refused k)) }) k s.chip.cl)) ∧
    (s.chip.runRefusal k ≠ 0 ∨ s.chip.clState k = 1 ∨ s.chip.clState k = 2 → Completes (.runRequest k) s
      [Reg.SEQ_FLAGS_refused k, Reg.SEQ_FAULT_code k, Reg.SEQ_FAULT_class k, Reg.SEQ_FLAGS_fault k] [.log, .cl]
      (fun t => t.get (Reg.SEQ_FLAGS_refused k) = 1 ∧ t.get (Reg.SEQ_FAULT_code k) = 0x0510 ∧
        t.cl = updNth (fun x => { x with reqNow := 1, refNow := some (s.chip.on (Reg.SEQ_FLAGS_refused k)) }) k s.chip.cl)) ∧
    (s.chip.runRefusal k = 0 →
      (s.chip.clState k = 4 → Completes (.runRequest k) s [Reg.SEQ_STAT_held_req k] [.cl] (fun t =>
        (t.cluster k).standing = true ∧ t.get (Reg.SEQ_STAT_held_req k) = 1)) ∧
      (s.chip.quiet k = true → s.chip.startDone k = false →
        Completes (.runRequest k) s [Reg.SEQ_STAT_held_req k] [.cl] (fun t =>
          (t.cluster k).held = 1 ∧ t.get (Reg.SEQ_STAT_held_req k) = 1)) ∧
      (s.chip.quiet k = true → s.chip.startDone k = true → s.chip.motorType k = true →
        Touches (.runRequest k) s [.regs, .free, .log, .pwr, .cl, .adc, .pos, .cle, .slice, .isl, .safe] (fun t =>
          t.clState k = 1 ∧ (t.cluster k).catchAt = s.chip.now ∧ (t.cluster k).held = 0 ∧
            t.get (Reg.SEQ_CATCH_STAT_result k) = 1)) ∧
      (s.chip.quiet k = true → s.chip.startDone k = true → (s.chip.topo k).type = 5 →
        Touches (.runRequest k) s [.regs, .free, .log, .pwr, .cl, .adc, .pos, .cle, .slice, .isl, .safe] (fun t =>
          (s.chip.posOf k = none → (t.cluster k).held = 1 ∧ t.clState k = s.chip.clState k) ∧
          ∀ n ∈ (s.chip.posOf k).toList, if Chip.legalHall (s.chip.get (Reg.POS_STAT_hall n)) = true
            then t.clState k = 2 ∧ t.get (Reg.FC_STAT_mode k) = 1
            else (t.cluster k).held = 1 ∧ t.clState k = s.chip.clState k)) ∧
      (s.chip.clState k = 3 → Touches (.runRequest k) s [.regs, .free, .log, .pwr, .cl, .adc, .pos, .cle, .slice, .isl, .safe]
        (fun t => t.clState k = 2 ∧ t.get (Reg.FC_TQ_REF_v k) = s.chip.get (Reg.FC_TQ_REF_v k))))

/-- STOP_REQUEST and HALT_REQUEST. -/
def Obligations.StopAndHaltRequests : Prop :=
  ∀ (s : State) (k : Fin 4), s.chip.pwr.dieReset = false → s.chip.Shaped → s.chip.on (Reg.SEQ_STAT_lent k) = false →
    s.chip.takes (0x40000000 + 0x10000 * k.val) = true → (s.chip.cluster k).fallDue = false →
    (s.chip.clState k = 0 ∨ s.chip.clState k = 5 → Completes (.stopRequest k) s [Reg.SEQ_STAT_held_req k] [.cl] (fun t =>
      (t.cluster k).held = 0)) ∧
    (s.chip.clState k = 4 → Completes (.stopRequest k) s [Reg.SEQ_STAT_held_req k] [.cl] (fun t =>
      (t.cluster k).held = 0 ∧ (t.cluster k).standing = false ∧ t.get (Reg.SEQ_STAT_held_req k) = 0)) ∧
    (s.chip.clState k = 4 ∨ s.chip.clState k = 5 → Completes (.haltRequest k) s
      [Reg.SEQ_FLAGS_refused k, Reg.SEQ_FAULT_code k, Reg.SEQ_FAULT_class k, Reg.SEQ_FLAGS_fault k] [.log, .cl]
      (fun t => t.get (Reg.SEQ_FLAGS_refused k) = 1 ∧ t.get (Reg.SEQ_FAULT_code k) = 0x0510 ∧
        t.cl = updNth (fun x => { x with reqNow := 3, refNow := some (s.chip.on (Reg.SEQ_FLAGS_refused k)) }) k s.chip.cl)) ∧
    (s.chip.clState k = 0 → Touches (.haltRequest k) s [.regs, .log, .cl, .slice] (fun t => t.clState k = 5)) ∧
    (s.chip.clState k = 1 → s.chip.on (Reg.SEQ_STAT_overspeed k) = true →
      Completes (.stopRequest k) s [Reg.SEQ_STAT_held_req k] [.cl] (fun t =>
        (t.cluster k).held = 2 ∧ t.get (Reg.SEQ_STAT_held_req k) = 1) ∧
      Completes (.haltRequest k) s [Reg.SEQ_STAT_held_req k] [.cl] (fun t =>
        (t.cluster k).held = 3 ∧ t.get (Reg.SEQ_STAT_held_req k) = 1)) ∧
    (s.chip.clState k = 1 → s.chip.on (Reg.SEQ_STAT_overspeed k) = false →
      Touches (.stopRequest k) s [.regs, .log, .cl, .slice, .isl] (fun t => t.clState k = 0) ∧
      Touches (.haltRequest k) s [.regs, .log, .cl, .slice, .isl] (fun t => t.clState k = 5)) ∧
    (s.chip.clState k = 2 → (s.chip.topo k).type ≠ 5 → s.chip.on (Reg.SEQ_STAT_wdis k) = false →
      Touches (.stopRequest k) s [.regs, .log, .cl, .slice, .isl, .safe] (fun t => t.clState k = 3 ∧
        (t.cluster k).decelHalt = false ∧ (t.cluster k).spdRef = s.chip.get (Reg.SEQ_SPD_CMD_v k)) ∧
      Touches (.haltRequest k) s [.regs, .log, .cl, .slice, .isl, .safe] (fun t => t.clState k = 3 ∧
        (t.cluster k).decelHalt = true))

/-- The other requests, and what a duplex request leads to; that a RESET ends in IDLE while a cause stands is the model's reading (log entry 31). -/
def Obligations.ResetClearDischargeDuplexSplit : Prop :=
  ∀ (s : State) (k : Fin 4), s.chip.pwr.dieReset = false → s.chip.Shaped →
    (s.chip.on (Reg.SEQ_STAT_lent k) = false → s.chip.takes (0x40000000 + 0x10000 * k.val) = true →
      (s.chip.cluster k).fallDue = false →
      (s.chip.clState k = 1 ∨ s.chip.clState k = 2 ∨ s.chip.clState k = 3 → Completes (.resetRequest k) s
        [Reg.SEQ_FLAGS_refused k, Reg.SEQ_FAULT_code k, Reg.SEQ_FAULT_class k, Reg.SEQ_FLAGS_fault k] [.log, .cl]
        (fun t => t.get (Reg.SEQ_FLAGS_refused k) = 1 ∧ t.get (Reg.SEQ_FAULT_code k) = 0x0510 ∧
          t.cl = updNth (fun x => { x with reqNow := 4, refNow := some (s.chip.on (Reg.SEQ_FLAGS_refused k)) }) k s.chip.cl)) ∧
      (s.chip.clState k = 0 ∨ s.chip.clState k = 4 ∨ s.chip.clState k = 5 → Touches (.resetRequest k) s
        [.regs, .free, .log, .pwr, .cl, .adc, .pos, .cle, .slice, .isl, .safe] (fun t =>
        t.clState k = 0 ∧ (t.cluster k).fallDue = true ∧ (t.cluster k).held = 0 ∧ (t.cluster k).standing = false ∧
        ∀ x ∈ (t.cluster k).faults, x ∈ (s.chip.cluster k).faults)) ∧
      (s.chip.clState k ≠ 4 → Completes (.clearRequest k) s
        [Reg.SEQ_FLAGS_refused k, Reg.SEQ_FAULT_code k, Reg.SEQ_FAULT_class k, Reg.SEQ_FLAGS_fault k] [.log, .cl]
        (fun t => t.get (Reg.SEQ_FLAGS_refused k) = 1 ∧ t.get (Reg.SEQ_FAULT_code k) = 0x0510 ∧
          t.cl = updNth (fun x => { x with reqNow := 5, refNow := some (s.chip.on (Reg.SEQ_FLAGS_refused k)) }) k s.chip.cl)) ∧
      (s.chip.clState k = 4 → s.chip.demand k % 128 = 0 → (s.chip.cluster k).stoRel = false →
        (s.chip.cluster k).standing = false → (∀ n ∈ s.chip.islandsOf k, (s.chip.island n).faults = []) →
        (∀ x ∈ (s.chip.cluster k).faults, x.latch = true ∧ x.code ≠ 0x0710 ∧ s.chip.causeGone k x = true) →
        Touches (.clearRequest k) s [.regs, .free, .log, .pwr, .cl, .adc, .pos, .cle, .slice, .isl, .safe] (fun t =>
          t.clState k = 0 ∧ (t.cluster k).faults = [])) ∧
      (s.chip.quiet k = true → hasBit (s.chip.motor k).flags 2 = true →
        ∀ n ∈ (s.chip.posOf k).toList, s.chip.on (Reg.POS_STAT_pos_valid n) = true →
        s.chip.on (Reg.POS_STAT_standstill n) = true →
        Touches (.dischargeRequest k) s [.regs, .free, .log, .pwr, .cl, .adc, .pos, .cle, .slice, .isl, .safe] (fun t =>
          t.clState k = 2 ∧ t.get (Reg.SEQ_STAT_wdis k) = 1 ∧ t.get (Reg.FC_STAT_mode k) = 2)) ∧
      (s.chip.quiet k = true → hasBit (s.chip.motor k).flags 2 = true → s.chip.hfiOk k (s.chip.engineOf k) = true →
        ∀ n ∈ (s.chip.posOf k).toList, s.chip.on (Reg.POS_STAT_standstill n) = true →
        Touches (.dischargeRequest k) s [.regs, .free, .log, .pwr, .cl, .adc, .pos, .cle, .slice, .isl, .safe] (fun t =>
          t.clState k = 2 ∧ t.get (Reg.SEQ_STAT_wdis k) = 1)) ∧
      (s.chip.quiet k = true → hasBit (s.chip.motor k).flags 2 = false ∨
          (s.chip.posOf k = none ∧ s.chip.hfiOk k (s.chip.engineOf k) = false) →
        Completes (.dischargeRequest k) s
          [Reg.SEQ_FLAGS_refused k, Reg.SEQ_FAULT_code k, Reg.SEQ_FAULT_class k, Reg.SEQ_FLAGS_fault k] [.log, .cl]
          (fun t => t.get (Reg.SEQ_FAULT_code k) = 0x0519 ∧ t.get (Reg.SEQ_FLAGS_refused k) = 1 ∧
            t.cl = updNth (fun x => { x with reqNow := 6, refNow := some (s.chip.on (Reg.SEQ_FLAGS_refused k)) }) k s.chip.cl)) ∧
      (s.chip.quiet k = true → hasBit (s.chip.motor k).flags 2 = true → s.chip.posOf k = none →
        s.chip.hfiOk k (s.chip.engineOf k) = true →
        Completes (.dischargeRequest k) s [Reg.SEQ_STAT_held_req k] [.cl] (fun t =>
          (t.cluster k).held = 6 ∧ (t.cluster k).lowProbes = 0 ∧ (t.cluster k).catchAt = s.chip.now)) ∧
      (s.chip.duplexed k = true → Completes (.splitRequest k) s [Reg.SEQ_STAT_held_req k] [.cl] (fun t =>
        (t.cluster k).splitAsked = true)) ∧
      (s.chip.clState k = 0 ∨ s.chip.clState k = 2 ∨ s.chip.clState k = 5 → s.chip.quiet (Chip.partner k) = true →
        s.chip.on (Reg.SEQ_STAT_lent (Chip.partner k)) = false →
        s.chip.get (Reg.CLE_CRC_v k) = s.chip.get (Reg.CLE_CRC_v (Chip.partner k)) →
        s.chip.obsCrc k = s.chip.obsCrc (Chip.partner k) →
        Completes (.duplexRequest k) s [Reg.SEQ_STAT_lent (Chip.partner k), Reg.SEQ_STAT_held_req k] [.cl] (fun t =>
          (t.cluster k).duplex = .requested ∧ t.get (Reg.SEQ_STAT_lent (Chip.partner k)) = 1)) ∧
      (s.chip.clState k = 1 ∨ s.chip.clState k = 3 ∨ s.chip.clState k = 4 →
        Completes (.duplexRequest k) s
          [Reg.SEQ_FLAGS_refused k, Reg.SEQ_FAULT_code k, Reg.SEQ_FAULT_class k, Reg.SEQ_FLAGS_fault k] [.log, .cl]
          (fun t => t.get (Reg.SEQ_FLAGS_refused k) = 1))) ∧
    ((s.chip.cluster k).duplex = .requested → s.chip.atBoundary k = true → Touches (.duplexCopy k) s [.regs, .cl, .cle] (fun t =>
      (t.cluster k).duplex = .copied ∧ nth t.cle (Chip.partner k) = nth s.chip.cle k)) ∧
    ((s.chip.cluster k).splitAsked = true → s.chip.duplexed k = true → s.chip.atBoundary k = true →
      Touches (.splitTakeEffect k) s [.regs, .free, .log, .cl, .adc, .pos, .cle, .slice, .isl, .safe] (fun t =>
        (t.cluster k).duplex = .none ∧ (t.cluster k).splitAsked = false ∧ t.get (Reg.SEQ_STAT_lent (Chip.partner k)) = 0))

/-- Faults of the cluster block, and the automatic retry. -/
def Obligations.ClusterFaultsAndRetry : Prop :=
  ∀ (s : State) (k : Fin 4), s.chip.pwr.dieReset = false → s.chip.Shaped →
    (s.chip.clState k = 3 → s.chip.get (Reg.SEQ_DEC_TO_ms k) ≠ 0 →
      (s.chip.cluster k).enteredAt + Chip.ms (s.chip.get (Reg.SEQ_DEC_TO_ms k)) ≤ s.chip.now →
      Touches (.decelTimeout k) s [.regs, .log, .pwr, .cl, .slice, .isl, .safe] (fun t => t.Latched k 0x0518)) ∧
    (s.chip.get (Reg.SEQ_DEC_TO_ms k) = 0 → Completes (.decelTimeout k) s [] [] (fun _ => True)) ∧
    (s.chip.on (Reg.OBS_CFG_ke_chk_en (s.chip.engineOf k)) = true → s.chip.on (Reg.SEQ_STAT_lent k) = false →
      Chip.ms 2000 ≤ (s.chip.cluster (s.chip.engineOf k)).keTicks → ¬ s.chip.Faulted k 0x0513 →
      Touches (.keAbnormal k) s [.regs, .log, .pwr, .cl, .slice, .isl, .safe] (fun t => t.Latched k 0x0513 ∧
        t.get (Reg.SEQ_FLAGS_ke_ev k) = 1)) ∧
    ((s.chip.topo k).type = 5 → s.chip.get (Reg.FC_BCM_CTL_duty k) ≠ 0 →
      s.chip.get (Reg.FC_BCM_CTL_stall k) ≠ 0 → ∀ n ∈ (s.chip.posOf k).toList,
      ((s.chip.posS n).tE + Chip.ms (s.chip.get (Reg.FC_BCM_CTL_stall k)) ≤ (s.chip.now : Int) →
        Touches (.bcmStall k) s [.regs, .log, .pwr, .cl, .slice, .isl, .safe] (fun t => t.Faulted k 0x051B)) ∧
      ((s.chip.now : Int) < (s.chip.posS n).tE + Chip.ms (s.chip.get (Reg.FC_BCM_CTL_stall k)) →
        Completes (.bcmStall k) s [] [] (fun _ => True))) ∧
    (∀ x ∈ (s.chip.cluster k).faults, x.code < 65536 → x.latch = false → s.chip.causeGone k x = true →
      (s.chip.cluster k).faults.length = 1 → ∀ r ∈ (Chip.retryRule x.code).toList,
      r.1 + s.chip.waitFrom x ≤ s.chip.now →
      Touches (.safeRetry k (Fin.ofNat 65536 x.code)) s [.regs, .log, .pwr, .cl, .cle, .slice, .isl, .safe] (fun t =>
        (t.cluster k).faults = [] ∧ (s.chip.clState k = 4 → s.chip.demand k % 128 = 0 → (s.chip.cluster k).stoRel = false →
          (s.chip.cluster k).standing = false → t.clState k = 0)))

/-- CATCH_PROBE before a lock, CATCH_TIMEOUT. -/
def Obligations.CatchProbesAndTimeout : Prop :=
  ∀ (s : State) (k : Fin 4) (a b : Word) (c : ProbeEnd), s.chip.pwr.dieReset = false → s.chip.Shaped → s.chip.clState k = 1 →
    s.chip.on (Reg.SEQ_STAT_overspeed k) = false →
    (s.chip.probeEnds k = false → Completes (.catchProbe k a b c) s [] [] (fun _ => True)) ∧
    (s.chip.catchMethod k = 1 → (s.chip.cluster k).lock = none → (s.chip.cluster k).flux = none →
      s.chip.probeEnds k = true → (s.chip.cluster k).lastProbe ≠ some s.chip.now →
      (F32.lt (Chip.hypot (Chip.clarke (a.toNat, b.toNat, c.ic.toNat)).1 (Chip.clarke (a.toNat, b.toNat, c.ic.toNat)).2)
          (s.chip.get (Reg.SEQ_CATCH_IMIN_v k)) = true → (s.chip.cluster k).lowProbes < 3 →
        Completes (.catchProbe k a b c) s [Reg.SEQ_CATCH_STAT_method k, Reg.SEQ_CATCH_STAT_probes k] [.cl] (fun t =>
          (t.cluster k).probes = [] ∧ (t.cluster k).lowProbes = (s.chip.cluster k).lowProbes + 1 ∧
          (t.cluster k).lastProbe = some s.chip.now ∧ t.get (Reg.SEQ_CATCH_STAT_method k) = 1)) ∧
      (F32.lt (Chip.hypot (Chip.clarke (a.toNat, b.toNat, c.ic.toNat)).1 (Chip.clarke (a.toNat, b.toNat, c.ic.toNat)).2)
          (s.chip.get (Reg.SEQ_CATCH_IMIN_v k)) = false → (s.chip.cluster k).probes.length < 3 →
        Completes (.catchProbe k a b c) s [Reg.SEQ_CATCH_STAT_method k, Reg.SEQ_CATCH_STAT_probes k] [.cl] (fun t =>
          (t.cluster k).probes.tail = (s.chip.cluster k).probes ∧ (t.cluster k).lowProbes = 0 ∧
          t.get (Reg.SEQ_CATCH_STAT_probes k) = min 255 (s.chip.get (Reg.SEQ_CATCH_STAT_probes k) + 1))) ∧
      (F32.lt (Chip.hypot (Chip.clarke (a.toNat, b.toNat, c.ic.toNat)).1 (Chip.clarke (a.toNat, b.toNat, c.ic.toNat)).2)
          (s.chip.get (Reg.SEQ_CATCH_IMIN_v k)) = true → (s.chip.cluster k).lowProbes = 3 →
        s.chip.hfiOk k (s.chip.engineOf k) = false →
        Touches (.catchProbe k a b c) s [.regs, .log, .cl, .slice, .isl, .safe] (fun t => t.clState k = 0 ∧
          t.get (Reg.SEQ_CATCH_STAT_result k) = 4 ∧
          (s.chip.log.queue.length < 32 → ∃ e ∈ t.log.queue, e.code = 0x0512 ∧ e.cluster = k)))) ∧
    ((s.chip.cluster k).flux = none →
      ((s.chip.cluster k).catchAt + Chip.ms 8 ≤ s.chip.now →
        Touches (.catchTimeout k) s [.regs, .log, .pwr, .cl, .slice, .isl, .safe] (fun t => t.clState k = 0 ∧
          t.get (Reg.SEQ_CATCH_STAT_result k) = 4 ∧ t.get (Reg.SEQ_FLAGS_catch_ev k) = 1)) ∧
      (s.chip.now < (s.chip.cluster k).catchAt + Chip.ms 8 → Completes (.catchTimeout k) s [] [] (fun _ => True)))

/-- The three steps of a swap, for a table that the Chimney does not own. -/
def Obligations.LarderSwaps : Prop :=
  ∀ (s : State) (k : Fin 4) (t : Fin 3), s.chip.pwr.dieReset = false → s.chip.Shaped → (s.chip.cluster k).swap.length = 3 →
    (∀ m : Fin 8, s.chip.on (Reg.CHM_C_CFG_age_en k) = false → s.chip.takes (0x40000084 + 0x10000 * k.val) = true →
      Completes (.ldrSwapRequest k m) s [Reg.SEQ_LDR_STAT_defer k, Reg.SEQ_LDR_STAT_cancel k, Reg.SEQ_LDR_STAT_crc_fail k,
          Reg.SEQ_LDR_SWAP_swap k, Reg.SEQ_LDR_STAT_checking k] [.cl] (fun u =>
        (hasBit m t = true → s.chip.swapOf k t = .none → u.swapOf k t = .checking ∧
          hasBit (u.get (Reg.SEQ_LDR_SWAP_swap k)) t = true) ∧
        (hasBit m t = false → u.swapOf k t = s.chip.swapOf k t))) ∧
    (s.chip.swapOf k t = .checking →
      (s.chip.shadowOk k t = true → Completes (.ldrCheckEnd k t) s
        [Reg.SEQ_LDR_SWAP_swap k, Reg.SEQ_LDR_STAT_checking k] [.cl] (fun u => u.swapOf k t = .ready)) ∧
      (s.chip.shadowOk k t = false → Completes (.ldrCheckEnd k t) s
        [Reg.SEQ_LDR_SWAP_swap k, Reg.SEQ_LDR_STAT_checking k, Reg.SEQ_LDR_STAT_crc_fail k, Reg.SEQ_FLAGS_ldr_err k,
          Reg.SEQ_FAULT_code k, Reg.SEQ_FAULT_class k, Reg.SEQ_FLAGS_fault k] [.log, .cl] (fun u => u.swapOf k t = .none ∧
          hasBit (u.get (Reg.SEQ_LDR_STAT_crc_fail k)) t = true ∧ u.get (Reg.SEQ_FLAGS_ldr_err k) = 1))) ∧
    (s.chip.swapOf k t = .ready → s.chip.atBoundary k = true →
      (t.val ≠ 2 → Completes (.ldrSwap k t false) s [Reg.SEQ_LDR_ACT_act k, Reg.SEQ_LDR_SWAP_swap k,
          Reg.SEQ_LDR_STAT_checking k, Reg.SEQ_LDR_STAT_swaps k, Reg.SEQ_FLAGS_ldr_swap k] [.cl] (fun u =>
        u.ldrAct k t = 1 - s.chip.ldrAct k t ∧ (∀ j : Fin 3, j ≠ t → u.ldrAct k j = s.chip.ldrAct k j) ∧
        u.swapOf k t = .none ∧ u.get (Reg.SEQ_FLAGS_ldr_swap k) = 1)) ∧
      ((s.chip.cluster k).waits.getD t 0 < 15 → Completes (.ldrSwap k t true) s [] [.cl] (fun u =>
        u.swapOf k t = .ready)) ∧
      ((s.chip.cluster k).waits.getD t 0 = 15 → hasBit (s.chip.get (Reg.SEQ_LDR_STAT_defer k)) t = false →
        Completes (.ldrSwap k t true) s [Reg.SEQ_LDR_STAT_defer k, Reg.SEQ_FAULT_code k, Reg.SEQ_FAULT_class k,
          Reg.SEQ_FLAGS_fault k] [.log, .cl] (fun u => hasBit (u.get (Reg.SEQ_LDR_STAT_defer k)) t = true ∧
          u.get (Reg.SEQ_FAULT_code k) = 0x0523))) ∧
    (∀ b : Bool, s.chip.swapOf k t ≠ .ready ∨ s.chip.atBoundary k = false → Completes (.ldrSwap k t b) s [] [] (fun _ => True))

/-- LARDER_WRITE where R218 refuses it. -/
def Obligations.LarderWriteRefused : Prop :=
  ∀ (s : State) (k : Fin 4) (c : Fin 2) (w : Fin 8192) (d : Word) (t : Fin 3), s.chip.pwr.dieReset = false →
    Chip.ldrTable (4 * w.val) = some t.val →
    c.val = s.chip.ldrAct k t ∨ (t.val = 2 ∧ s.chip.on (Reg.CHM_C_CFG_age_en k) = true) →
    Completes (.larderWrite k c w d) s
      [Reg.SEQ_FLAGS_ldr_err k, Reg.SEQ_FAULT_code k, Reg.SEQ_FAULT_class k, Reg.SEQ_FLAGS_fault k,
        Reg.CLK_STAT_rgn_a_gated, Reg.CLK_STAT_rgn_b_gated] [.log, .pwr] (fun u =>
      u.mem = s.chip.mem ∧ u.get (Reg.SEQ_FAULT_code k) = 0x0522 ∧ u.log.seq = (s.chip.log.seq + 1) % 65536)

/-- LARDER_WRITE where it is accepted. -/
def Obligations.LarderWriteStores : Prop :=
  ∀ (s : State) (k : Fin 4) (c : Fin 2) (w : Fin 8192) (d : Word), s.chip.pwr.dieReset = false → s.chip.Shaped →
    (s.chip.cluster k).swap.length = 3 →
    (∀ t ∈ (Chip.ldrTable (4 * w.val)).toList, c.val ≠ s.chip.ldrAct k t →
      (t ≠ 2 ∨ s.chip.on (Reg.CHM_C_CFG_age_en k) = false) →
      Touches (.larderWrite k c w d) s [.regs, .mem, .log, .cl, .pwr] (fun u =>
        u.load (0x42000000 + 0x10000 * k.val + 0x8000 * c.val + 4 * w.val) 4 = d.toNat ∧
        (∀ a, a < 0x42000000 + 0x10000 * k.val + 0x8000 * c.val + 4 * w.val ∨
          0x42000004 + 0x10000 * k.val + 0x8000 * c.val + 4 * w.val ≤ a → u.byte a = s.chip.byte a) ∧
        u.swapOf k t = .none ∧ (s.chip.swapOf k t ≠ .none → hasBit (u.get (Reg.SEQ_LDR_STAT_cancel k)) t = true))) ∧
    (Chip.ldrTable (4 * w.val) = none → Completes (.larderWrite k c w d) s [Reg.CLK_STAT_rgn_a_gated, Reg.CLK_STAT_rgn_b_gated] [.mem, .pwr] (fun u =>
      u.load (0x42000000 + 0x10000 * k.val + 0x8000 * c.val + 4 * w.val) 4 = d.toNat ∧
      ∀ a, a < 0x42000000 + 0x10000 * k.val + 0x8000 * c.val + 4 * w.val ∨
        0x42000004 + 0x10000 * k.val + 0x8000 * c.val + 4 * w.val ≤ a → u.byte a = s.chip.byte a))

/-- The reference: selection, settling, the monitor. -/
def Obligations.ReferenceSelected : Prop :=
  ∀ (s : State) (d : Word), s.chip.pwr.dieReset = false → s.chip.Shaped →
    (s.chip.allQuiet = true →
      Completes (.refSelect d) s [Reg.ADC_CTL_vrefp_mv, Reg.ADC_CTL_ref, Reg.ADC_STAT_ref_rdy] [.adc] (fun t =>
        t.get Reg.ADC_CTL_ref = d.toNat % 4 ∧ t.get Reg.ADC_CTL_vrefp_mv = part d.toNat 16 16 ∧
        (t.refSel ≠ s.chip.refSel → t.get Reg.ADC_STAT_ref_rdy = 0 ∧ t.adc.refWait = true) ∧
        (t.refSel = s.chip.refSel → t.get Reg.ADC_STAT_ref_rdy = s.chip.get Reg.ADC_STAT_ref_rdy))) ∧
    (s.chip.allQuiet = false → Touches (.refSelect d) s [.regs, .free, .log] (fun t =>
      t.get Reg.ADC_CTL_ref = s.chip.get Reg.ADC_CTL_ref ∧ t.log.seq = (s.chip.log.seq + 1) % 65536)) ∧
    (s.chip.adc.refWait = true → s.chip.pwr.vddaOk = true →
      Completes .refReady s [Reg.ADC_STAT_ref_rdy, Reg.ADC_FLAGS_ref_ev] [.adc] (fun t =>
        t.get Reg.ADC_STAT_ref_rdy = 1 ∧ t.get Reg.ADC_FLAGS_ref_ev = 1 ∧ t.adc.refWait = false)) ∧
    (s.chip.on Reg.ADC_STAT_ref_rdy = true → s.chip.pwr.vddaOk = true → s.chip.refSeenGood = false →
      Touches .refMonitorTrip s [.regs, .log, .pwr, .cl, .slice, .isl, .safe] (fun t =>
        t.get Reg.ADC_STAT_ref_rdy = 0 ∧ t.get Reg.ADC_FLAGS_ref_fail = 1 ∧ ∀ k : Fin 4, t.Latched k 0x0315)) ∧
    (s.chip.refSeenGood = true → Completes .refMonitorTrip s [] [] (fun _ => True)) ∧
    (s.chip.pwr.vddaOk = false → Completes .refMonitorTrip s [] [] (fun _ => True) ∧ Completes .refReady s [] [] (fun _ => True))

/-- The scan list, step by step. -/
def Obligations.ScanRuns : Prop :=
  ∀ (s : State) (e : Fin 16) (x r : Fin 4194304), s.chip.pwr.dieReset = false →
    (s.chip.adc.scanAt = some s.chip.now → Completes .scanStart s [] [] (fun _ => True)) ∧
    (s.chip.adc.scanAt ≠ some s.chip.now → s.chip.on Reg.ADC_STAT_scan_busy = true → Completes .scanStart s [Reg.ADC_FLAGS_scan_ovr] [.log] (fun t =>
      t.get Reg.ADC_FLAGS_scan_ovr = 1 ∧ t.log.seq = (s.chip.log.seq + 1) % 65536)) ∧
    (s.chip.adc.scanAt ≠ some s.chip.now → s.chip.on Reg.ADC_STAT_scan_busy = false → s.chip.scanDead 0 = false → Completes .scanStart s [Reg.ADC_STAT_scan_busy] [.adc]
      (fun t => t.get Reg.ADC_STAT_scan_busy = 1 ∧ t.adc.scanNext = 0 ∧ t.adc.scanOut = [] ∧ t.adc.scanAt = some s.chip.now)) ∧
    (s.chip.on Reg.ADC_STAT_scan_busy = true → s.chip.adc.scanNext = e.val → e.val ≤ s.chip.get Reg.ADC_SCAN_CTL_last →
      s.chip.scanDead e = false → ((s.chip.scanConvs e).all fun n => s.chip.convFree n (s.chip.scanTicks e)) = true →
      Touches (.scanEntryStart e) s [.regs, .log, .adc] (fun t => e.val < t.adc.scanNext ∧
        ∃ q ∈ t.adc.scanOut, q.entry = e.val ∧ q.start = s.chip.now ∧ q.convs = s.chip.scanConvs e ∧
          q.due = s.chip.now + s.chip.scanTicks e ∧
          q.got = [(s.chip.lpFlag (nth (s.chip.scanConvs e) 0), s.chip.on Reg.ADC_STAT_ref_rdy)])) ∧
    (s.chip.on Reg.ADC_STAT_scan_busy = false ∨ s.chip.adc.scanNext ≠ e.val ∨ s.chip.get Reg.ADC_SCAN_CTL_last < e.val ∨
        s.chip.scanDead e = true ∨ ((s.chip.scanConvs e).any fun n => !s.chip.convFree n (s.chip.scanTicks e)) = true →
      Completes (.scanEntryStart e) s [] [] (fun _ => True)) ∧
    ∀ p ∈ (s.chip.adc.scanOut.find? fun p => p.entry = e.val).toList,
      (s.chip.now < p.due → Completes (.scanEntryResult e ⟨[x], r⟩) s [] [] (fun _ => True)) ∧
      (p.due ≤ s.chip.now → p.want = 1 →
        Touches (.scanEntryResult e ⟨[x], r⟩) s [.regs, .log, .adc, .chm] (fun t =>
          (∀ q ∈ t.adc.scanOut, q.entry ≠ e.val) ∧
          (s.chip.pwr.vddaOk = true → (p.convs.all fun n => s.chip.on (Reg.ADC_S_CFG_en n)) = true →
            t.get (Reg.ADC_SCR_raw e) = 4 * Chip.sarCode x r ∧
            t.get (Reg.ADC_SCR_valid e) = b2n (p.got.all fun g => g.2)) ∧
          (s.chip.pwr.vddaOk = false → t.get (Reg.ADC_SCR_raw e) = 0 ∧ t.get (Reg.ADC_SCR_valid e) = 0)))

/-- SD_CLK_CFG_WRITE for each clock. -/
def Obligations.ModulatorClocksByOwner : Prop :=
  ∀ (s : State) (d : Word), s.chip.pwr.dieReset = false →
    Completes (.sdClkCfgWrite d) s
      ([0, 1, 2, 3].flatMap fun c => [Reg.SD_CLK_CFG_en c, Reg.SD_CLK_CFG_div c, Reg.SEQ_FAULT_code c, Reg.SEQ_FAULT_class c,
        Reg.SEQ_FLAGS_fault c]) [.log, .free, .adc] (fun t =>
      { t.adc with sdEdge := s.chip.adc.sdEdge } = s.chip.adc ∧
      (∀ c : Fin 4, (∀ k ∈ s.chip.sdClkOwners c, s.chip.quiet k = true) →
        t.get (Reg.SD_CLK_CFG_en c) = bitOf d.toNat (8 * c.val + 7) ∧ t.get (Reg.SD_CLK_CFG_div c) = part d.toNat (8 * c.val) 5) ∧
      (∀ c : Fin 4, ∀ k ∈ ((s.chip.sdClkOwners c).find? fun k => !s.chip.quiet k).toList,
        t.get (Reg.SD_CLK_CFG_en c) = s.chip.get (Reg.SD_CLK_CFG_en c) ∧
        t.get (Reg.SD_CLK_CFG_div c) = s.chip.get (Reg.SD_CLK_CFG_div c) ∧ t.get (Reg.SEQ_FAULT_code k) = 0x0301) ∧
      t.log.seq % 65536 = (s.chip.log.seq +
        ([0, 1, 2, 3].filter fun c => (s.chip.sdClkOwners c).any fun k => !s.chip.quiet k).length) % 65536)

/-- SLOT_WRITE, and a stuck bit stream. -/
def Obligations.SlotsAndBitStreams : Prop :=
  ∀ (s : State) (k : Fin 4) (i : Fin 28) (d : Word) (m : Fin 12) (b : Bool), s.chip.pwr.dieReset = false → s.chip.Shaped →
    (s.chip.quiet k = true → Touches (.slotWrite k i d) s [.regs, .free, .log] (fun t =>
      t.get (Reg.ADC_C_SLOT_role k i) = part d.toNat 12 4 ∧ t.get (Reg.ADC_C_SLOT_path k i) = bitOf d.toNat 10 ∧
      t.get (Reg.ADC_C_SLOT_unit k i) = part d.toNat 6 4 ∧ t.get (Reg.ADC_C_SLOT_ain k i) = part d.toNat 0 6 ∧
      t.get (Reg.ADC_C_SLOT_off k i) = part d.toNat 16 16 ∧
      (∀ j : Fin 28, hasBit (t.get (Reg.ADC_C_STAT_valid k)) j = decide (j.val ∈ t.validSlots k)) ∧
      (t.slotRole k i ≠ 0 → i.val ∉ t.validSlots k → t.get (Reg.ADC_C_FLAGS_slot_bad k) = 1 ∧
        t.log.seq = (s.chip.log.seq + 1) % 65536))) ∧
    (s.chip.quiet k = false → Touches (.slotWrite k i d) s [.regs, .free, .log] (fun t =>
      t.get (Reg.ADC_C_SLOT_role k i) = s.chip.get (Reg.ADC_C_SLOT_role k i) ∧
      t.get (Reg.ADC_C_STAT_valid k) = s.chip.get (Reg.ADC_C_STAT_valid k) ∧ t.log.seq = (s.chip.log.seq + 1) % 65536)) ∧
    (s.chip.sdRuns m = true →
      (hasBit s.chip.adc.sdStuck m = false → Touches (.sdStuck m b) s [.regs, .log, .pwr, .cl, .adc, .slice, .isl, .safe]
        (fun t => hasBit t.adc.sdStuck m = true ∧ hasBit (t.get Reg.ADC_FLAGS_sd_stuck) m = true ∧
          t.get (Reg.SD_RES_level m) = b2n b ∧ ∀ j : Fin 4, hasBit (s.chip.topo j).sd m = true → t.Latched j 0x0314)) ∧
      Completes (.sdStreamRecover m) s [] [.adc] (fun t => hasBit t.adc.sdStuck m = false)) ∧
    (s.chip.sdRuns m = false → Completes (.sdStuck m b) s [] [] (fun _ => True))

/-- CMP_TRIP by role, and CMP_RELEASE. -/
def Obligations.ComparatorsTrip : Prop :=
  ∀ (s : State) (n : Fin 16) (v : CmpInput), s.chip.pwr.dieReset = false → s.chip.Shaped →
    (s.chip.on (Reg.CMP_CFG_en n) = false ∨ s.chip.on (if v.low then Reg.CMP_CFG_lo_en n else Reg.CMP_CFG_hi_en n) = false ∨
        s.chip.pwr.vddaOk = false ∨ v.ain.val ≠ s.chip.cmpAin n ∨ v.stood < s.chip.get (Reg.CMP_CFG_filt n) ∨
        s.chip.cmpBeyond n v.low v.vin v.vref = false →
      Completes (.cmpTrip n v) s [] [] (fun _ => True)) ∧
    (s.chip.on (Reg.CMP_CFG_en n) = true → s.chip.on (if v.low then Reg.CMP_CFG_lo_en n else Reg.CMP_CFG_hi_en n) = true →
      hasBit (s.chip.get (if v.low then Reg.CMP_STAT_lo_now else Reg.CMP_STAT_hi_now)) n = false → s.chip.pwr.vddaOk = true →
      v.ain.val = s.chip.cmpAin n → s.chip.get (Reg.CMP_CFG_filt n) ≤ v.stood → s.chip.cmpBeyond n v.low v.vin v.vref = true →
      (s.chip.cmpRole n = 0 → hasBit (s.chip.get (if v.low then Reg.CMP_FLAGS_lo_trip else Reg.CMP_FLAGS_hi_trip)) n = true →
        Completes (.cmpTrip n v) s [if v.low then Reg.CMP_STAT_lo_now else Reg.CMP_STAT_hi_now] [.adc] (fun t =>
          hasBit (t.get (if v.low then Reg.CMP_STAT_lo_now else Reg.CMP_STAT_hi_now)) n = true)) ∧
      Touches (.cmpTrip n v) s [.regs, .log, .pwr, .cl, .slice, .isl, .safe, .adc] (fun t =>
        hasBit (t.get (if v.low then Reg.CMP_STAT_lo_now else Reg.CMP_STAT_hi_now)) n = true ∧
        hasBit (t.get (if v.low then Reg.CMP_FLAGS_lo_trip else Reg.CMP_FLAGS_hi_trip)) n = true ∧
        (s.chip.cmpRole n = 1 → ∀ k : Fin 4, hasBit (s.chip.topo k).cmp n = true → t.Faulted k 0x0713) ∧
        (s.chip.cmpRole n = 2 → ∀ k : Fin 4, hasBit (s.chip.topo k).cmp n = true → t.Latched k 0x0714) ∧
        (s.chip.cmpRole n = 3 → t.get Reg.SAFE_FLAGS_ov3_ev = 1 ∧
          ∀ k : Fin 4, s.chip.motorType k = true → t.Latched k 0x0715))) ∧
    (hasBit (s.chip.get (if v.low then Reg.CMP_STAT_lo_now else Reg.CMP_STAT_hi_now)) n = true →
      v.ain.val = s.chip.cmpAin n → s.chip.get (Reg.CMP_CFG_filt n) ≤ v.stood → s.chip.cmpBack n v.low v.vin v.vref = true →
      Touches (.cmpRelease n v) s [.regs, .log, .pwr, .cl, .cle, .slice, .isl, .safe, .adc] (fun t =>
        hasBit (t.get (if v.low then Reg.CMP_STAT_lo_now else Reg.CMP_STAT_hi_now)) n = false)) ∧
    (hasBit (s.chip.get (if v.low then Reg.CMP_STAT_lo_now else Reg.CMP_STAT_hi_now)) n = false ∨
        v.ain.val ≠ s.chip.cmpAin n ∨ v.stood < s.chip.get (Reg.CMP_CFG_filt n) ∨
        s.chip.cmpBack n v.low v.vin v.vref = false →
      Completes (.cmpRelease n v) s [] [] (fun _ => True))

/-- The start of a pass, and its results. -/
def Obligations.PassesTakeTheirResults : Prop :=
  ∀ (s : State) (n : Fin 16) (j k : Fin 4) (vin : List (Fin 28 × Fin 4194304)) (r : Fin 4194304) (m : Fin 12) (b : Bool)
    (bits : List Bool) (u : Upset), s.chip.pwr.dieReset = false → s.chip.Shaped →
    (s.chip.on (Reg.PWM_S_STAT_running n) = false → Completes (.triggerMatch n j b) s [] [] (fun _ => True)) ∧
    (s.chip.on (Reg.PWM_S_STAT_running n) = true →
      ((s.chip.sl n).trig.getD j (3, 0)).1 = 2 ∨ ((s.chip.sl n).trig.getD j (3, 0)).1 = b2n b → s.chip.carrierDown n = b →
      s.chip.carrierVal n = min ((s.chip.sl n).trig.getD j (3, 0)).2 (s.chip.perOf n) →
      Touches (.triggerMatch n j b) s [.regs, .free, .log, .pwr, .cl, .cle, .adc, .meas, .pos, .slice, .isl, .safe] (fun t =>
        hasBit (t.get (Reg.PWM_S_FLAGS_trig n)) j = true ∧
        (s.chip.sliceOwner n = some k.val → s.chip.leadSlice k = some n.val → j.val = s.chip.get (Reg.SEQ_CFG_trig_v k) →
          s.chip.dblOf k = false → s.chip.clState k ≠ 5 → (s.chip.topo k).type ≠ 0 →
          (s.chip.region (Chip.rgnOf k)).inReset = false →
          (t.cluster k).inPass = true ∧ (t.cluster k).trigTick = s.chip.now ∧ (t.cluster k).peakPass = false))) ∧
    (∀ p ∈ (s.chip.measS k).waiting, p.2 = (s.chip.measS k).base → p.1 < 28 → s.chip.slotPath k p.1 = 0 →
      ∀ x ∈ (vin.find? fun q => q.1.val = p.1).toList,
      Touches (.sarResultWrite k ⟨vin, r⟩ u) s [.regs, .free, .log, .pwr, .cl, .adc, .meas, .pos, .cle, .slice, .isl, .safe, .chm] (fun t =>
        (t.measS k).waiting.all (fun q => q.2 != p.2 || s.chip.slotPath k q.1 != 0) = true ∧
        (s.chip.pwr.vddaOk = true → s.chip.on (Reg.ADC_S_CFG_en (s.chip.slotUnit k p.1)) = true →
          t.rbGet k (p.2 + 1 + p.1) / 65536 = 4 * Chip.sarCode x.2 r ∧ hasBit (t.rbGet k (p.2 + 1 + p.1)) 7 = true) ∧
        (s.chip.pwr.vddaOk = false → t.rbGet k (p.2 + 1 + p.1) / 65536 = 0 ∧ hasBit (t.rbGet k (p.2 + 1 + p.1)) 7 = false))) ∧
    (s.chip.sdRuns m = false → Completes (.sdResultWrite m bits b u) s [] [] (fun _ => True)) ∧
    (s.chip.sdRuns m = true → ((List.range 4).find? fun c => hasBit (s.chip.topo c).sd m) = some k.val →
      bits.length + 1 = 3 * s.chip.sdDec m →
      ∀ p ∈ ((s.chip.measS k).waiting.find? fun p => s.chip.slotPath k p.1 = 1 && s.chip.slotUnit k p.1 = m).toList,
      s.chip.now = s.chip.sdDueTick k m p.2 →
      Touches (.sdResultWrite m bits b u) s [.regs, .free, .log, .pwr, .cl, .meas, .pos, .cle, .slice, .isl, .safe, .chm] (fun t =>
        t.get (Reg.SD_RES_raw m) =
          (if s.chip.pwr.vddaOk = true then Chip.sdRaw (Chip.sinc3 (s.chip.sdDec m) (bits ++ [b])) (s.chip.sdDec m) else 0) ∧
        t.get (Reg.SD_RES_valid m) = b2n (!hasBit s.chip.adc.sdStuck m && s.chip.pwr.vddaOk) ∧ p ∉ (t.measS k).waiting))

/-- Counting, the index, and the bits of POSn_CTL. -/
def Obligations.PositionCounting : Prop :=
  ∀ (s : State) (n : Fin 2) (a b : Bool), s.chip.pwr.dieReset = false → s.chip.Shaped →
    (s.chip.posMode n = 1 → (s.chip.posS n).idxDue = none → s.chip.get (Reg.POS_CNT_cnt n) < s.chip.posCpr n → s.chip.posCpr n < 2 ^ 24 →
      (a ≠ (s.chip.posS n).a → b ≠ (s.chip.posS n).b →
        Touches (.quadCount n a b) s [.regs, .log, .pos] (fun t =>
          t.get (Reg.POS_CNT_cnt n) = s.chip.get (Reg.POS_CNT_cnt n) ∧ t.get (Reg.POS_FLAGS_qerr n) = 1 ∧
          (t.posS n).a = a ∧ (t.posS n).b = b)) ∧
      (xor (a != (s.chip.posS n).a) (b != (s.chip.posS n).b) = true →
        Touches (.quadCount n a b) s [.regs, .log, .pos] (fun t =>
          t.get (Reg.POS_CNT_cnt n) =
            (if (((s.chip.posS n).a, (s.chip.posS n).b), (a, b)) ∈ [((false, false), (true, false)),
                ((true, false), (true, true)), ((true, true), (false, true)), ((false, true), (false, false))] ↔
                s.chip.on (Reg.POS_CFG_dir_inv n) = false
              then (s.chip.get (Reg.POS_CNT_cnt n) + 1) % s.chip.posCpr n
              else (s.chip.get (Reg.POS_CNT_cnt n) + s.chip.posCpr n - 1) % s.chip.posCpr n) ∧
          (t.posS n).a = a ∧ (t.posS n).b = b))) ∧
    ((s.chip.posS n).sampleAt ≠ some s.chip.now →
      Completes (.index n a) s [] [.pos] (fun t => (t.posS n).idxDue = some a)) ∧
    ((s.chip.posS n).sampleAt = some s.chip.now → (s.chip.posS n).evalAt ≠ some s.chip.now → (s.chip.posS n).snapAt ≠ some s.chip.now →
      s.chip.posMode n = 1 → (a == s.chip.on (Reg.POS_CFG_idx_pol n)) = false →
      s.chip.on (Reg.POS_CFG_idx_qual n) = false ∨ ((s.chip.posS n).a = true ∧ (s.chip.posS n).b = true) →
      (s.chip.idxMode n = 0 → Completes (.index n a) s [] [] (fun _ => True)) ∧
      (s.chip.idxMode n = 1 → Completes (.index n a) s [Reg.POS_IDX_CNT_cnt n, Reg.POS_IDX_TS_tick n, Reg.POS_FLAGS_idx_ev n] [.pos]
        (fun t => t.get (Reg.POS_IDX_CNT_cnt n) = s.chip.get (Reg.POS_CNT_cnt n) % 2 ^ 24 ∧
          t.get (Reg.POS_IDX_TS_tick n) = s.chip.now % 2 ^ 32 ∧ t.get (Reg.POS_FLAGS_idx_ev n) = 1)) ∧
      (s.chip.idxMode n = 3 ∨ (s.chip.idxMode n = 2 ∧ (s.chip.posS n).want = true) →
        Touches (.index n a) s [.regs, .log, .pos] (fun t => t.get (Reg.POS_CNT_cnt n) = 0 ∧
          t.get (Reg.POS_STAT_idx_seen n) = 1 ∧ t.get (Reg.POS_IDX_CNT_cnt n) = s.chip.get (Reg.POS_CNT_cnt n) % 2 ^ 24 ∧
          t.get (Reg.POS_ANGLE_angle n) = s.chip.get (Reg.POS_OFFSET_offset n) % 65536)) ∧
      (s.chip.idxMode n = 2 → (s.chip.posS n).want = false → 2 < (s.chip.idxDev n).natAbs →
        Touches (.index n a) s [.regs, .log, .pos] (fun t =>
          t.get (Reg.POS_CNT_cnt n) = s.chip.get (Reg.POS_CNT_cnt n) ∧ t.get (Reg.POS_STAT_pos_valid n) = 0 ∧
          t.get (Reg.POS_FLAGS_idx_err n) = 1 ∧ (t.posS n).want = true))) ∧
    (s.chip.standstillDue n = false → Completes (.standstill n) s [] [] (fun _ => True)) ∧
    (s.chip.standstillDue n = true →
      Completes (.standstill n) s [Reg.POS_SPEED_speed n, Reg.POS_STAT_spd_valid n, Reg.POS_STAT_standstill n,
          Reg.POS_FLAGS_standstill_ev n] [.pos] (fun t => t.get (Reg.POS_SPEED_speed n) = 0 ∧
        t.get (Reg.POS_STAT_spd_valid n) = 0 ∧ t.get (Reg.POS_STAT_standstill n) = 1 ∧
        t.get (Reg.POS_FLAGS_standstill_ev n) = 1)) ∧
    (s.chip.takes (0x41300010 + 0x100 * n.val) = true →
    Completes (.snap n) s [Reg.POS_SNAP_CNT_cnt n, Reg.POS_SNAP_REV_rev n, Reg.POS_SNAP_ANG_angle n, Reg.POS_SNAP_TS_t_e n,
        Reg.POS_SNAP_SPD_speed n, Reg.POS_SNAP_TNOW_tick n] [.pos] (fun t =>
      t.get (Reg.POS_SNAP_CNT_cnt n) = s.chip.get (Reg.POS_CNT_cnt n) % 2 ^ 24 ∧
      t.get (Reg.POS_SNAP_REV_rev n) = s.chip.get (Reg.POS_REV_rev n) % 2 ^ 32 ∧
      t.get (Reg.POS_SNAP_ANG_angle n) = s.chip.get (Reg.POS_ANGLE_angle n) % 2 ^ 16 ∧
      t.get (Reg.POS_SNAP_TS_t_e n) = s.chip.get (Reg.POS_EDGE_TS_t_e n) % 2 ^ 32 ∧
      t.get (Reg.POS_SNAP_SPD_speed n) = (s.chip.posS n).evalSpd % 2 ^ 32 ∧
      t.get (Reg.POS_SNAP_TNOW_tick n) = s.chip.now % 2 ^ 32) ∧
    Completes (.clrTot n) s [Reg.POS_ERRTOT_glitch_total n, Reg.POS_ERRTOT_qerr_total n, Reg.POS_SENT_ERR_crc_err n,
        Reg.POS_SENT_ERR_sync_err n, Reg.POS_SENT_ERR_ser_err n] [] (fun t =>
      t.get (Reg.POS_ERRTOT_glitch_total n) = 0 ∧ t.get (Reg.POS_ERRTOT_qerr_total n) = 0 ∧
      t.get (Reg.POS_SENT_ERR_crc_err n) = 0 ∧ t.get (Reg.POS_SENT_ERR_sync_err n) = 0 ∧
      t.get (Reg.POS_SENT_ERR_ser_err n) = 0) ∧
    ((∀ k ∈ (s.chip.posOwner n).toList, s.chip.quiet k = true) →
      Completes (.rearm n) s [Reg.POS_STAT_qerr_count n, Reg.POS_STAT_pos_valid n, Reg.POS_FLAGS_pos_ok n] [.pos] (fun t =>
        t.get (Reg.POS_STAT_qerr_count n) = 0 ∧
        (s.chip.posMode n = 1 → s.chip.idxMode n ≤ 1 → t.get (Reg.POS_STAT_pos_valid n) = 1) ∧
        (s.chip.posMode n ≠ 1 → t.get (Reg.POS_STAT_pos_valid n) = s.chip.get (Reg.POS_STAT_pos_valid n)))) ∧
    (∀ k ∈ (s.chip.posOwner n).toList, s.chip.quiet k = false →
      Touches (.rearm n) s [.regs, .log, .free] (fun t =>
        t.get (Reg.POS_STAT_qerr_count n) = s.chip.get (Reg.POS_STAT_qerr_count n) ∧
        t.log.seq = (s.chip.log.seq + 1) % 65536)))

/-- The sources of a channel other than A and B. -/
def Obligations.PositionSources : Prop :=
  ∀ (s : State) (n : Fin 2) (h : Fin 8) (x : Fin 65536) (v : Vector (Fin 16) 8) (z : Fin 2097152) (d : Word), s.chip.pwr.dieReset = false →
    s.chip.Shaped →
    (s.chip.selfDue n = false → Completes (.posEvalSelfTimed n) s [] [] (fun _ => True)) ∧
    (s.chip.selfDue n = true → s.chip.posMode n = 0 → Completes (.posEvalSelfTimed n) s [Reg.POS_ANGLE_lat_ang n] [.pos]
      (fun t => t.get (Reg.POS_ANGLE_lat_ang n) = s.chip.get (Reg.POS_ANGLE_angle n) % 65536)) ∧
    (s.chip.get (Reg.POS_STAT_hall n) = h.val → Completes (.hallChange n h) s [] [] (fun _ => True)) ∧
    (s.chip.posMode n = 2 → s.chip.get (Reg.POS_STAT_hall n) ≠ h.val → (s.chip.posS n).evalAt ≠ some s.chip.now →
      (1 ≤ h.val → h.val ≤ 6 → 1 ≤ s.chip.get (Reg.POS_STAT_hall n) → s.chip.get (Reg.POS_STAT_hall n) ≤ 6 →
        5461 ≤ (s.chip.hallEntry n h + 65536 - s.chip.hallEntry n (s.chip.get (Reg.POS_STAT_hall n))) % 65536 →
        (s.chip.hallEntry n h + 65536 - s.chip.hallEntry n (s.chip.get (Reg.POS_STAT_hall n))) % 65536 ≤ 16384 →
        Touches (.hallChange n h) s [.regs, .log, .pwr, .cl, .pos, .slice, .isl, .safe] (fun t =>
          t.get (Reg.POS_STAT_hall n) = h.val ∧ t.get (Reg.POS_STAT_pos_valid n) = 1 ∧ t.get (Reg.POS_STAT_dir n) = 0 ∧
          t.get (Reg.POS_ANGLE_angle n) = s.chip.hallEntry n h)) ∧
      (h.val = 0 ∨ h.val = 7 → Touches (.hallChange n h) s [.regs, .log, .pwr, .cl, .pos, .slice, .isl, .safe] (fun t =>
        t.get (Reg.POS_STAT_hall n) = h.val ∧ t.get (Reg.POS_STAT_pos_valid n) = 0 ∧ t.get (Reg.POS_FLAGS_hall_err n) = 1 ∧
        ∀ k ∈ (s.chip.posOwner n).toList, (s.chip.topo k).type = 5 → t.Faulted k 0x051A))) ∧
    (s.chip.posMode n = 4 →
      ((s.chip.posS n).tmo = false → s.chip.sourceTmo n < s.chip.sourceAge n →
        Touches (.sentTimeout n) s [.regs, .log, .pos] (fun t => t.get (Reg.POS_STAT_pos_valid n) = 0 ∧
          t.get (Reg.POS_STAT_spd_valid n) = 0 ∧ t.get (Reg.POS_FLAGS_src_err n) = 1 ∧ (t.posS n).okRun = 0)) ∧
      ((s.chip.posS n).tmo = false → s.chip.sourceAge n = s.chip.sourceTmo n →
        Completes (.sentTimeout n) s [] [.pos] (fun t => (t.posS n).tmoDue = true)) ∧
      ((s.chip.posS n).tmo = true ∨ s.chip.sourceAge n < s.chip.sourceTmo n →
        Completes (.sentTimeout n) s [] [] (fun _ => True)) ∧
      (1 ≤ s.chip.get (Reg.POS_SENT_CFG_tick n) → s.chip.get (Reg.POS_SENT_CFG_tick n) ≤ 900 →
        s.chip.get (Reg.POS_SENT_CFG_nibbles n) = 6 → (s.chip.posS n).syncPrev = none →
        Touches (.sentFrame n (Fin.ofNat 2097152 (1120 * s.chip.get (Reg.POS_SENT_CFG_tick n)))
            ((v.toList.map fun q => Fin.ofNat 2097152 (20 * s.chip.get (Reg.POS_SENT_CFG_tick n) * (12 + q.val))) ++
              List.replicate (s.chip.get (Reg.POS_SENT_CFG_pause n)) z)) s
          [.regs, .log, .pos] (fun t =>
          (Chip.sentCrc (s.chip.on (Reg.POS_SENT_CFG_crc_legacy n)) [v[1].val, v[2].val, v[3].val, v[4].val, v[5].val, v[6].val] =
              v[7].val →
            t.get (Reg.POS_SENT_FAST_status n) = v[0].val ∧ t.get (Reg.POS_FLAGS_frame n) = 1 ∧
            t.get (Reg.POS_SENT_FAST_data n) = v[1].val * 2 ^ 20 + v[2].val * 2 ^ 16 + v[3].val * 2 ^ 12 + v[4].val * 2 ^ 8 +
              v[5].val * 16 + v[6].val ∧
            (t.posS n).okRun = (s.chip.posS n).okRun + 1) ∧
          (Chip.sentCrc (s.chip.on (Reg.POS_SENT_CFG_crc_legacy n)) [v[1].val, v[2].val, v[3].val, v[4].val, v[5].val, v[6].val] ≠
              v[7].val →
            t.get (Reg.POS_FLAGS_src_err n) = 1 ∧
            t.get (Reg.POS_SENT_FAST_data n) = s.chip.get (Reg.POS_SENT_FAST_data n) ∧
            t.get (Reg.POS_SENT_ERR_crc_err n) = min 255 (s.chip.get (Reg.POS_SENT_ERR_crc_err n) + 1))))) ∧
    (s.chip.posMode n = 5 →
      (s.chip.strobes n = false → Completes (.fabStrobe n x) s [] [] (fun _ => True)) ∧
      (s.chip.strobes n = true → Touches (.fabStrobe n x) s [.regs, .pos] (fun t => t.get (Reg.POS_FAB_ANG_angle n) = x.val ∧
        t.get (Reg.POS_FLAGS_frame n) = 1 ∧
        t.get (Reg.POS_ANGLE_angle n) = (s.chip.posRatio n * x.val + s.chip.get (Reg.POS_OFFSET_offset n)) % 65536 ∧
        (1 ≤ (s.chip.posS n).okRun → t.get (Reg.POS_STAT_pos_valid n) = 1 ∧ t.get (Reg.POS_STAT_spd_valid n) = 1))) ∧
      ((s.chip.posS n).tmo = false → s.chip.sourceTmo n < s.chip.sourceAge n →
        Touches (.fabStale n) s [.regs, .log, .pos] (fun t => t.get (Reg.POS_STAT_pos_valid n) = 0 ∧
          t.get (Reg.POS_STAT_spd_valid n) = 0 ∧ t.get (Reg.POS_FLAGS_src_err n) = 1)) ∧
      ((s.chip.posS n).tmo = false → s.chip.sourceAge n = s.chip.sourceTmo n →
        Completes (.fabStale n) s [] [.pos] (fun t => (t.posS n).tmoDue = true)) ∧
      ((s.chip.posS n).tmo = true ∨ s.chip.sourceAge n < s.chip.sourceTmo n →
        Completes (.fabStale n) s [] [] (fun _ => True))) ∧
    (s.chip.takes (0x41300000 + 0x100 * n.val) = true → s.chip.rwlOpen (0x41300000 + 0x100 * n.val) = true →
      (min 6 (d.toNat % 8) = min 6 (s.chip.get (Reg.POS_CFG_mode n)) → (s.chip.posS n).arm = 0 ∨ 2 ≤ d.toNat / 16 % 4 →
        Completes (.posCfgWrite n d) s ((fieldsAt (0x41300000 + 0x100 * n.val)).getD []) [] (fun t =>
          ∀ f ∈ (fieldsAt (0x41300000 + 0x100 * n.val)).getD [], t.get f = part d.toNat f.lsb f.width)) ∧
      (min 6 (d.toNat % 8) = min 6 (s.chip.get (Reg.POS_CFG_mode n)) → (s.chip.posS n).arm ≠ 0 → d.toNat / 16 % 4 ≤ 1 →
        Completes (.posCfgWrite n d) s (Reg.POS_STAT_idx_seen n :: (fieldsAt (0x41300000 + 0x100 * n.val)).getD []) [.pos]
          (fun t => (t.posS n).arm = 0 ∧ t.get (Reg.POS_STAT_idx_seen n) = 0)) ∧
      (d.toNat % 8 < 6 → d.toNat % 8 ≠ s.chip.posMode n →
        Touches (.posCfgWrite n d) s [.regs, .log, .free, .pos] (fun t =>
          t.posMode n = d.toNat % 8 ∧ t.get (Reg.POS_STAT_pos_valid n) = 0))) ∧
    (s.chip.takes (0x41300000 + 0x100 * n.val) = true → s.chip.rwlOpen (0x41300000 + 0x100 * n.val) = false →
      Touches (.posCfgWrite n d) s [.regs, .log, .free] (fun t =>
        t.get (Reg.POS_CFG_mode n) = s.chip.get (Reg.POS_CFG_mode n) ∧ t.log.seq = (s.chip.log.seq + 1) % 65536))

/-- The control law engine. -/
def Obligations.EngineWritesAndChecks : Prop :=
  ∀ (s : State) (k : Fin 4) (r : CoefReg) (n : Fin 6) (d : Word) (off : Fin 1792), s.chip.pwr.dieReset = false → s.chip.Shaped →
    (s.chip.takes (0x40002000 + 0x10000 * k.val) = true → s.chip.clState k = 0 ∨ s.chip.clState k = 4 ∨ s.chip.clState k = 5 →
      Completes (.cleClear k) s ((s.chip.takeSets k).flatMap fun e => [0, 1, 2, 3, 4, 5].map fun j => Reg.CLE_LIST_OUT_v e j) [.cle]
        (fun t => ∀ e ∈ s.chip.takeSets k,
          (t.cleS e).s1 = [] ∧ (t.cleS e).s2 = [] ∧ ∀ j : Fin 6, t.get (Reg.CLE_LIST_OUT_v e j) = 0)) ∧
    (s.chip.takes (0x40002000 + 0x10000 * k.val) = true → s.chip.clState k = 1 ∨ s.chip.clState k = 2 ∨ s.chip.clState k = 3 →
      Touches (.cleClear k) s [.regs, .log, .free] (fun t => t.log.seq = (s.chip.log.seq + 1) % 65536)) ∧
    (s.chip.takes (0x40002000 + 0x10000 * k.val + coefOff r) = true →
      (F32.isFinite d.toNat = true → Completes (.coefWrite k r d) s
        (((s.chip.writeSets k).flatMap fun e => (fieldsAt (0x40002000 + 0x10000 * e + coefOff r)).getD []) ++
          (s.chip.writeSets k).map fun e => Reg.CLE_STAT_crc_cur e) [] (fun t =>
        ∀ e ∈ s.chip.writeSets k, (∀ f ∈ (fieldsAt (0x40002000 + 0x10000 * e + coefOff r)).getD [], t.get f = d.toNat) ∧
          (0x100 ≤ coefOff r → t.get (Reg.CLE_STAT_crc_cur e) = 0))) ∧
      (F32.isFinite d.toNat = false → Completes (.coefWrite k r d) s
        [Reg.CLE_FLAGS_coef_ref k, Reg.SEQ_FAULT_code k, Reg.SEQ_FAULT_class k, Reg.SEQ_FLAGS_fault k] [.log] (fun t =>
        t.get (Reg.CLE_FLAGS_coef_ref k) = 1 ∧ t.get (Reg.SEQ_FAULT_code k) = 0x0616))) ∧
    (s.chip.takes (0x40002040 + 0x10000 * k.val + 0x10 * n.val) = true → s.chip.rwlOpen (0x40002040 + 0x10 * n.val + 0x10000 * k.val) = true →
      Touches (.listWrite k n d) s [.regs, .free, .log] (fun t => ∀ e ∈ s.chip.writeSets k,
        (∀ f ∈ (fieldsAt (0x40002040 + 0x10 * n.val + 0x10000 * e)).getD [], t.get f = part d.toNat f.lsb f.width) ∧
        ∀ j : Fin 6, hasBit (t.get (Reg.CLE_STAT_valid e)) j = decide (j.val ∈ t.validLists e))) ∧
    (s.chip.takes (0x40002040 + 0x10000 * k.val + 0x10 * n.val) = true → s.chip.rwlOpen (0x40002040 + 0x10 * n.val + 0x10000 * k.val) = false →
      Touches (.listWrite k n d) s [.regs, .free, .log] (fun t =>
        ∀ f ∈ (fieldsAt (0x40002040 + 0x10 * n.val + 0x10000 * k.val)).getD [], t.get f = s.chip.get f)) ∧
    (s.chip.clState k = 2 ∨ s.chip.clState k = 3 → s.chip.get (Reg.CLE_CTL_fe_ms (s.chip.engineOf k)) ≠ 0 →
      F32.isZero (s.chip.get (Reg.CLE_FE_LIM_v (s.chip.engineOf k))) = false →
      Chip.ms (s.chip.get (Reg.CLE_CTL_fe_ms (s.chip.engineOf k))) ≤ (s.chip.cleS (s.chip.engineOf k)).feTicks →
      Touches (.followErr k) s [.regs, .log, .pwr, .cl, .cle, .slice, .isl, .safe] (fun t =>
        t.Faulted k 0x0615 ∧ t.get (Reg.CLE_FLAGS_fe (s.chip.engineOf k)) = 1 ∧
        (t.cleS (s.chip.engineOf k)).feTicks = 0)) ∧
    Completes (.cleCrcUpdate k none) s [Reg.CLE_CRC_v k, Reg.CLE_STAT_crc_cur k] [] (fun t =>
      t.get (Reg.CLE_CRC_v k) = crc32 (s.chip.cleBytes k) ∧ t.get (Reg.CLE_STAT_crc_cur k) = 1) ∧
    (s.chip.on (Reg.SEQ_STAT_lent k) = true →
      Touches (.cleCrcUpdate k (some (off, true))) s [.regs, .log, .pwr, .cl, .cle, .slice, .isl, .safe] (fun t =>
        t.Latched (Chip.partner k) 0x0613 ∧ t.get (Reg.CLE_FLAGS_ecc_unc k) = 1)) ∧
    (s.chip.on (Reg.SEQ_STAT_lent k) = false → (s.chip.cluster k).duplex ≠ .active →
      Touches (.cleCrcUpdate k (some (off, true))) s [.regs, .log, .pwr, .cl, .cle, .slice, .isl, .safe] (fun t =>
        t.Latched k 0x0613 ∧ t.get (Reg.CLE_FLAGS_ecc_unc k) = 1))

/-- The carrier of a slice and the registers written to it. -/
def Obligations.CarriersAndReloads : Prop :=
  ∀ (s : State) (n m : Fin 16) (d : Word) (x : Fin 65536), s.chip.pwr.dieReset = false → s.chip.Shaped →
    (∀ p : Bool, s.chip.on (Reg.PWM_S_STAT_running n) = false ∨ s.chip.reloadDue n p = false →
      Completes (.reload n p none) s [] [] (fun _ => True)) ∧
    (s.chip.on (Reg.PWM_S_STAT_running n) = true → (s.chip.sl n).stopping = false → s.chip.bcmSlice n = false →
      s.chip.reloadDue n false = true → s.chip.pwmG.holdAt ≠ some s.chip.now → (s.chip.sl n).oldAt ≠ some s.chip.now →
      Touches (.reload n false none) s [.regs, .log, .pwr, .cl, .meas, .slice, .isl, .safe, .chm] (fun t =>
        t.get (Reg.PWM_S_FLAGS_valley_ev n) = 1 ∧ t.get (Reg.PWM_S_CNT_half n) = 0 ∧
        (hasBit (s.chip.get Reg.PWM_RELOAD_HOLD_v) n = false →
          t.get (Reg.PWM_S_ACTA_cmpa n) = s.chip.get (Reg.PWM_S_CMPA_v n) % 2 ^ 24 ∧ (t.sl n).skipped = 0) ∧
        (hasBit (s.chip.get Reg.PWM_RELOAD_HOLD_v) n = true →
          t.get (Reg.PWM_S_ACTA_cmpa n) = s.chip.get (Reg.PWM_S_ACTA_cmpa n) ∧
          (t.sl n).skipped = (s.chip.sl n).skipped + 1))) ∧
    (s.chip.takes (0x4100003C + 0x100 * n.val) = true → s.chip.sliceOwner n = none →
      (s.chip.on (Reg.PWM_S_STAT_running n) = false →
        Completes (.sliceRun n) s [] [.slice] (fun t =>
          t.slice = updNth (fun x => { x with starting := true }) n s.chip.slice)) ∧
      (s.chip.on (Reg.PWM_S_STAT_running n) = true → Completes (.sliceRun n) s [] [] (fun _ => True)) ∧
      (s.chip.on (Reg.PWM_S_STAT_running n) = true ∨ (s.chip.sl n).starting = true →
        Completes (.sliceStop n) s [] [.slice] (fun t =>
          (t.sl n).stopping = true ∧ ∀ j : Fin 16, j ≠ n → t.sl j = s.chip.sl j))) ∧
    Completes (.pwmStart d) s [] [.slice] (fun t =>
      (hasBit d.toNat n = true → s.chip.sliceOwner n = none → (s.chip.region (Chip.sliceRgn n)).inReset = false →
        s.chip.on (Reg.PWM_S_STAT_running n) = false → t.sl n = { s.chip.sl n with starting := true }) ∧
      (hasBit d.toNat n = false ∨ s.chip.sliceOwner n ≠ none ∨ (s.chip.region (Chip.sliceRgn n)).inReset = true ∨
        s.chip.on (Reg.PWM_S_STAT_running n) = true → t.sl n = s.chip.sl n)) ∧
    (s.chip.takes (0x4100003C + 0x100 * n.val) = true → s.chip.sliceOwner n ≠ none →
      Completes (.sliceRun n) s [] [] (fun _ => True) ∧ Completes (.sliceStop n) s [] [] (fun _ => True)) ∧
    (s.chip.pwr.locked = true →
      (40 ≤ x.val → x.val ≤ 127 → Completes (.delayCal x false) s [Reg.PWM_CAL_count, Reg.PWM_CAL_taps, Reg.PWM_CAL_valid,
          Reg.PWM_CAL_discards, Reg.PWM_CAL_stale] [.slice] (fun t => t.get Reg.PWM_CAL_taps = x.val ∧
        t.sl m = (if (s.chip.sl m).valleyAt = some s.chip.now then { s.chip.sl m with taps := x.val } else s.chip.sl m) ∧
        t.get Reg.PWM_CAL_valid = 1 ∧ t.get Reg.PWM_CAL_discards = 0 ∧ t.get Reg.PWM_CAL_stale = 0)) ∧
      (s.chip.get Reg.PWM_CAL_discards < 2 → Completes (.delayCal x true) s [Reg.PWM_CAL_discards] [] (fun t =>
        t.get Reg.PWM_CAL_discards = s.chip.get Reg.PWM_CAL_discards + 1)) ∧
      (s.chip.get Reg.PWM_CAL_discards = 2 → Completes (.delayCal x true) s [Reg.PWM_CAL_discards, Reg.PWM_CAL_stale,
          Reg.PWM_GFLAGS_cal_fail] [.log] (fun t => t.get Reg.PWM_CAL_stale = 1 ∧ t.get Reg.PWM_GFLAGS_cal_fail = 1))) ∧
    Completes (.holdSet d) s [Reg.PWM_RELOAD_HOLD_v] [.pwmG] (fun t =>
      hasBit (t.get Reg.PWM_RELOAD_HOLD_v) m = (hasBit (s.chip.get Reg.PWM_RELOAD_HOLD_v) m || hasBit d.toNat m)) ∧
    Completes (.holdClr d) s [Reg.PWM_RELOAD_HOLD_v] [.pwmG] (fun t =>
      hasBit (t.get Reg.PWM_RELOAD_HOLD_v) m = (hasBit (s.chip.get Reg.PWM_RELOAD_HOLD_v) m && !hasBit d.toNat m)) ∧
    (s.chip.takes (0x4100001C + 0x100 * n.val) = true → s.chip.on (Reg.PWM_S_STAT_floor_lk n) = false → s.chip.rwlOpen (0x4100001C + 0x100 * n.val) = true →
      Touches (.floorWrite n d) s [.regs, .free, .log, .pwr, .cl, .slice, .isl, .safe] (fun t =>
        t.get (Reg.PWM_S_FLOOR_v n) = d.toNat % 2 ^ (Reg.PWM_S_FLOOR_v n).width ∧ t.get (Reg.PWM_S_STAT_floor_lk n) = 1)) ∧
    (s.chip.takes (0x4100001C + 0x100 * n.val) = true →
      s.chip.on (Reg.PWM_S_STAT_floor_lk n) = true ∨ s.chip.rwlOpen (0x4100001C + 0x100 * n.val) = false → Touches (.floorWrite n d) s [.regs, .free, .log] (fun t =>
      t.get (Reg.PWM_S_FLOOR_v n) = s.chip.get (Reg.PWM_S_FLOOR_v n) ∧ t.log.seq = (s.chip.log.seq + 1) % 65536)) ∧
    (s.chip.takes (0x41000030 + 0x100 * n.val) = true → Touches (.forceWrite n d) s [.regs, .free, .log] (fun t =>
      t.get (Reg.PWM_S_FORCE_fh n) = part d.toNat (Reg.PWM_S_FORCE_fh n).lsb 2 ∧
      t.get (Reg.PWM_S_FORCE_fl n) = part d.toNat (Reg.PWM_S_FORCE_fl n).lsb 2))

/-- The edges of a slice's outputs, and FLT_N. -/
def Obligations.OutputEdges : Prop :=
  ∀ (s : State) (n : Fin 16) (b : Bool), s.chip.pwr.dieReset = false → s.chip.Shaped →
    (s.chip.on (Reg.PWM_S_STAT_running n) = false ∨ s.chip.fineEnd < s.chip.edgeTime n false b → Completes (.rawEdge n false b) s [] [] (fun _ => True)) ∧
    (s.chip.on (Reg.PWM_S_STAT_running n) = true → s.chip.bcmSlice n = false → s.chip.indep n = false →
      s.chip.get (Reg.PWM_S_CNT_half n) = b2n (!b) → s.chip.edgeTime n false b ≤ s.chip.fineEnd →
      Touches (.rawEdge n false b) s [.regs, .log, .pwr, .cl, .slice, .isl, .safe] (fun t =>
        (t.sl n).rawH = b ∧ (t.sl n).rawL = !b)) ∧
    ((s.chip.sl n).waitH = true → (s.chip.sl n).effH = true → (s.chip.sl n).fromH + s.chip.dth n ≤ s.chip.fineEnd →
      Touches (.deadTimeEnd n .h) s [.regs, .log, .pwr, .cl, .slice, .isl, .safe] (fun t =>
        (t.sl n).onH = true ∧ (t.sl n).waitH = false)) ∧
    ((s.chip.sl n).waitL = true → (s.chip.sl n).effL = true ∨ (s.chip.sl n).refresh = true → (s.chip.sl n).fromL + s.chip.dtl n ≤ s.chip.fineEnd →
      Touches (.deadTimeEnd n .l) s [.regs, .log, .pwr, .cl, .slice, .isl, .safe] (fun t =>
        ((t.sl n).onL = true ∧ (t.sl n).waitL = false) ∨ t.gateEn n = false)) ∧
    (s.chip.ovr n = 3 → s.chip.mayRiseH n s.chip.fineEnd = true →
      Touches (.deadTimeEnd n .ovH) s [.regs, .log, .pwr, .cl, .slice, .isl, .safe] (fun t => (t.sl n).ovH = true ∨ t.ovr n ≠ 3)) ∧
    (s.chip.ovr n = 2 → s.chip.mayRiseL n s.chip.fineEnd = true →
      Touches (.deadTimeEnd n .ovL) s [.regs, .log, .pwr, .cl, .slice, .isl, .safe] (fun t => (t.sl n).ovL = true ∨ t.ovr n ≠ 2)) ∧
    (n.val < 3 → s.chip.threeLevel n = true → (s.chip.sl (n.val + 3)).onH = true →
      (s.chip.sl (n.val + 3)).riseH + s.chip.dth (n.val + 3) ≤ s.chip.fineEnd →
      Touches (.deadTimeEnd n .t1) s [.regs, .log, .pwr, .cl, .slice, .isl, .safe] (fun t =>
        (t.sl n).gateH = true ∨ (t.sl (n.val + 3)).onH = false)) ∧
    (3 ≤ n.val → s.chip.threeLevel n = true → (s.chip.sl (n.val - 3)).onL = true →
      (s.chip.sl (n.val - 3)).riseL + s.chip.dtl (n.val - 3) ≤ s.chip.fineEnd →
      Touches (.deadTimeEnd n .t4) s [.regs, .log, .pwr, .cl, .slice, .isl, .safe] (fun t =>
        (t.sl n).gateL = true ∨ (t.sl (n.val - 3)).onL = false)) ∧
    ((s.chip.sl n).minH = true → (s.chip.sl n).endH = true →
      (s.chip.sl n).riseH + (s.chip.sl n).lenH ≤ s.chip.fineEnd →
      Touches (.minPulseEnd n false) s [.regs, .log, .pwr, .cl, .slice, .isl, .safe] (fun t => (t.sl n).onH = false)) ∧
    ((s.chip.sl n).endH = false → (s.chip.sl n).riseH + (s.chip.sl n).lenH ≤ s.chip.fineEnd →
      Touches (.minPulseEnd n false) s [.regs, .log, .pwr, .cl, .slice, .isl, .safe] (fun t =>
        (t.sl n).minH = false ∧ (t.sl n).onH = (s.chip.sl n).onH)) ∧
    (s.chip.fineEnd < (s.chip.sl n).riseH + (s.chip.sl n).lenH →
      Completes (.minPulseEnd n false) s [] [] (fun _ => True)) ∧
    (s.chip.fineEnd < (s.chip.sl n).riseL + (s.chip.sl n).lenL →
      Completes (.minPulseEnd n true) s [] [] (fun _ => True)) ∧
    ((s.chip.sl n).minL = true → (s.chip.sl n).endL = true → (s.chip.sl n).refresh = false →
      (s.chip.sl n).riseL + (s.chip.sl n).lenL ≤ s.chip.fineEnd →
      Touches (.minPulseEnd n true) s [.regs, .log, .pwr, .cl, .slice, .isl, .safe] (fun t => (t.sl n).onL = false)) ∧
    (s.chip.bootSlice n = true → (s.chip.sl n).onH = true → (s.chip.sl n).refresh = false →
      s.chip.bsLimit n ≤ s.chip.bsTime n + 63 → s.chip.on (Reg.PWM_S_STAT_running n) = false ∨ s.chip.get (Reg.PWM_S_CNT_half n) = 0 ∨
        s.chip.fineEnd < s.chip.edgeTime n false false →
      Touches (.bsRefresh n) s [.regs, .log, .slice] (fun t => (t.sl n).onH = false ∧ (t.sl n).waitL = true ∧
        (t.sl n).refresh = true ∧ t.get (Reg.PWM_S_FLAGS_bs_refresh n) = 1)) ∧
    (s.chip.bootSlice n = true → (s.chip.sl n).valleyAt = some s.chip.now →
      (s.chip.sl n).vccLow = true ∨ s.chip.on (Reg.ISL_STAT_vcc_warn (2 * n.val)) = true →
      Touches (.bootLow n) s [.regs, .log, .slice] (fun t => t.get (Reg.PWM_S_FLAGS_boot_low n) = 1 ∧
        ((s.chip.sl n).onL = false → (t.sl n).onH = false ∧ (t.sl n).refresh = true) ∧
        ((s.chip.sl n).onL = true → s.chip.fineNow < (s.chip.sl n).riseL + s.chip.refreshLen n → (t.sl n).minL = true) ∧
        ((s.chip.sl n).onL = true → (s.chip.sl n).riseL + s.chip.refreshLen n ≤ s.chip.fineNow →
          (t.sl n).minL = (s.chip.sl n).minL))) ∧
    (s.chip.bootSlice n = false ∨ s.chip.bsTime n + 63 < s.chip.bsLimit n → Completes (.bsRefresh n) s [] [] (fun _ => True)) ∧
    (s.chip.bootSlice n = false ∨ (s.chip.sl n).valleyAt ≠ some s.chip.now → Completes (.bootLow n) s [] [] (fun _ => True)) ∧
    (s.chip.on Reg.PWM_XHIZ_flt_now = false →
      Touches .fltNAssert s [.regs, .log, .pwr, .cl, .slice, .pwmG, .isl, .safe] (fun t =>
        t.get Reg.PWM_XHIZ_hiz = 1 ∧ t.get Reg.PWM_XHIZ_flt_now = 1 ∧ t.get Reg.SAFE_STAT_flt_low = 1 ∧
        (6 ≤ n.val → t.get (Reg.PWM_S_STAT_hiz n) = 1) ∧
        ∀ k : Fin 4, s.chip.motorType k = true → t.Faulted k 0x0712) ∧
      Completes .xhizRelease s (if s.chip.now < s.chip.pwmG.fltHigh + 200 then [] else [Reg.PWM_XHIZ_hiz]) [] (fun t =>
        s.chip.pwmG.fltHigh + 200 ≤ s.chip.now → t.get Reg.PWM_XHIZ_hiz = 0)) ∧
    (s.chip.on Reg.PWM_XHIZ_flt_now = true →
      Completes .fltNAssert s [] [.pwmG] (fun t => t.pwmG = { s.chip.pwmG with fltLow := true }) ∧ Completes .xhizRelease s [] [] (fun _ => True) ∧
      Touches .fltNRelease s [.regs, .log, .cl, .slice, .pwmG] (fun t =>
        t.get Reg.PWM_XHIZ_flt_now = 0 ∧ t.get Reg.SAFE_STAT_flt_low = 0 ∧ t.pwmG = { s.chip.pwmG with fltLow := false, fltHigh := s.chip.now }))

/-- The gate of an island, its interlock and its channel. -/
def Obligations.IslandTransitions : Prop :=
  ∀ (s : State) (n m : Fin 12) (k : Fin 4) (b : Bool) (d : Word) (x y : Fin 65536) (u v : Fin 1048576),
    s.chip.pwr.dieReset = false → s.chip.Shaped →
    (b ≠ s.chip.levelOf n → Completes (.edgeCommand n b false) s [] [] (fun _ => True)) ∧
    (s.chip.levelOf n = true → (s.chip.island n).held = false → (s.chip.island n).real = 2 →
      (s.chip.mateAbove n = false → Touches (.edgeCommand n true false) s [.regs, .isl, .chm] (fun t =>
        (t.island n).real = 3 ∧ (t.island n).cmd = true ∧ (t.island n).turnedOn = 3 ∧
        (t.island n).prof = s.chip.profFor n true ∧ t.get (Reg.ISL_STAT_clamp_on n) = 0 ∧
        (t.island n).gate = (if Chip.skip1 (s.chip.profFor n true) then
          (if Chip.skip2 (s.chip.profFor n true) then .phase3 else .phase2) else .phase1) ∧
        ∀ j : Fin 12, j ≠ n → j.val ≠ Chip.mate n → t.island j = s.chip.island j)) ∧
      (s.chip.mateAbove n = true → Completes (.edgeCommand n true false) s [Reg.ISL_IL_holds n] [.isl] (fun t =>
        (t.island n).held = true ∧ (t.island n).heldAt = s.chip.now ∧ (t.island n).real = 2 ∧
        ∀ j : Fin 12, j ≠ n → t.island j = s.chip.island j))) ∧
    (s.chip.levelOf n = false → (s.chip.island n).real = 3 → (s.chip.island n).gate = .on →
      Completes (.edgeCommand n false false) s [Reg.ISL_IL_hold_last n] [.isl] (fun t =>
        (t.island n).held = false ∧ (t.island n).cmd = false ∧ (t.island n).real = 3 ∧
        (t.island n).prof = s.chip.profFor n false ∧ Chip.turningOff (t.island n).gate = true ∧
        ((s.chip.island n).held = true →
          t.get (Reg.ISL_IL_hold_last n) = min 65535 ((s.chip.now - (s.chip.island n).heldAt) * 5)))) ∧
    ((s.chip.island n).gate = .off ∨ (s.chip.island n).gate = .on ∨ (s.chip.island n).gate = .fault1 →
      Completes (.phaseEnd n) s [] [] (fun _ => True)) ∧
    (∀ p ∈ [(Gate.phase1, if Chip.skip2 (s.chip.island n).prof then Gate.phase3 else .phase2), (.phase2, .phase3),
        (.phase3, .on), (.offPhase1, if Chip.skip2 (s.chip.island n).prof then .offPhase3 else .offPhase2),
        (.offPhase2, .offPhase3)], (s.chip.island n).gate = p.1 →
      Completes (.phaseEnd n) s [] [.isl] (fun t => (t.island n).gate = p.2 ∧ (t.island n).real = (s.chip.island n).real)) ∧
    ((s.chip.island n).gate = .offPhase3 → (s.chip.island n).real = 3 →
      ((s.chip.island n).faults = [] → Completes (.phaseEnd n) s [Reg.ISL_STAT_clamp_on n] [.isl] (fun t =>
        (t.island n).gate = .off ∧ (t.island n).real = 2 ∧
        t.get (Reg.ISL_STAT_clamp_on n) = b2n (s.chip.ownOn n (Reg.ISL_CFG_clamp_en n)))) ∧
      ((s.chip.island n).faults ≠ [] → Touches (.phaseEnd n) s [.regs, .isl] (fun t =>
        (t.island n).gate = .off ∧ (t.island n).real = 4))) ∧
    ((s.chip.island n).gate = .fault2 → Completes (.phaseEnd n) s [Reg.ISL_STAT_clamp_on n] [.isl] (fun t =>
      (t.island n).gate = .off ∧ (t.island n).real = (s.chip.island n).real)) ∧
    ((s.chip.island n).real = 7 → ∀ f : Bool, Completes (.gateStateReport ⟨n, f⟩ b) s [] [] (fun _ => True)) ∧
    ((s.chip.island n).real ≠ 7 →
      Completes (.gateStateReport ⟨n, true⟩ b) s [Reg.ISL_CHAN_crc_err n] [] (fun t =>
        t.get (Reg.ISL_CHAN_crc_err n) = min 255 (s.chip.get (Reg.ISL_CHAN_crc_err n) + 1)) ∧
      ((s.chip.island n).real ≠ 6 ∨ b = false ∨ s.chip.on (Reg.ISL_LEAK_STAT_busy n) = false →
        Completes (.gateStateReport ⟨n, false⟩ b) s [Reg.ISL_STAT_gate_hi n] [.isl] (fun t =>
          t.get (Reg.ISL_STAT_gate_hi n) = b2n b ∧
          (b = false → s.chip.on (Reg.ISL_STAT_gate_hi n) = true →
            t.isl = updNth (fun i => { i with lowAt := some s.chip.now }) n s.chip.isl) ∧
          (b = true ∨ s.chip.on (Reg.ISL_STAT_gate_hi n) = false → t.isl = s.chip.isl))) ∧
      ((s.chip.island n).real = 6 → s.chip.on (Reg.ISL_LEAK_STAT_busy n) = true →
        Touches (.gateStateReport ⟨n, false⟩ true) s [.regs, .isl] (fun t => (t.island n).real = s.chip.restState n ∧
          t.get (Reg.ISL_LEAK_STAT_result n) = 4 ∧ t.get (Reg.ISL_LEAK_STAT_reason n) = 4))) ∧
    ((s.chip.island n).held = true → s.chip.mateAbove n = false →
      Touches (.interlockRelease n) s [.regs, .isl, .chm] (fun t => (t.island n).held = false ∧
        t.get (Reg.ISL_IL_hold_last n) = min 65535 ((s.chip.now - (s.chip.island n).heldAt) * 5) ∧
        ((s.chip.island n).real = 2 → (t.island n).real = 3))) ∧
    ((s.chip.island n).held = false ∨ s.chip.mateAbove n = true →
      Completes (.interlockRelease n) s [] [] (fun _ => True)) ∧
    ((s.chip.island n).held = true → (s.chip.island n).conflict = false → (s.chip.island n).heldAt + 200 < s.chip.now →
      Touches (.legConflict n) s [.regs, .log, .pwr, .cl, .slice, .isl, .safe] (fun t =>
        (t.island n).conflict = true ∧ t.get Reg.ISL_GFLAGS_il_conflict = 1 ∧ t.get (Reg.ISL_FLAGS_il_ev n) = 1 ∧
        (∃ z ∈ (t.island n).faults, z.code = 0x0215) ∧
        ((s.chip.island n).real = 2 ∨ (s.chip.island n).real = 3 → (t.island n).real = 4) ∧ ∀ q ∈ (s.chip.islOwner n).toList, t.Faulted q 0x0215)) ∧
    ((s.chip.island n).held = false ∨ (s.chip.island n).conflict = true ∨ s.chip.now ≤ (s.chip.island n).heldAt + 200 →
      Completes (.legConflict n) s [] [] (fun _ => True)) ∧
    (s.chip.pwr.safetyOnMon = true ∨ (s.chip.island n).frame = none → ∀ f : Bool,
      Completes (.profileFrame ⟨n, f⟩) s [] [] (fun _ => True)) ∧
    (s.chip.pwr.safetyOnMon = true → Completes (.measurementFrame n b false u v) s [] [] (fun _ => True)) ∧
    (s.chip.pwr.safetyOnMon = false → ∀ p ∈ (s.chip.island n).frame.toList,
      Completes (.profileFrame ⟨n, true⟩) s [Reg.ISL_CHAN_crc_err n] [.isl] (fun t =>
        (t.island n).frame = none ∧ (t.island n).tblOn = (s.chip.island n).tblOn ∧
        t.get (Reg.ISL_CHAN_crc_err n) = min 255 (s.chip.get (Reg.ISL_CHAN_crc_err n) + 1)) ∧
      Completes (.profileFrame ⟨n, false⟩) s [] [.isl] (fun t =>
        (t.island n).frame = none ∧ (t.island n).prof = (s.chip.island n).prof ∧
        ((s.chip.island n).real ≠ 0 → (s.chip.island n).real ≠ 7 →
          (t.island n).tblOn = some p.1 ∧ (t.island n).tblOff = some p.2))) ∧
    ((s.chip.island n).dirty = [] → Completes (.mirrorWrite n .lost) s [] [] (fun _ => True) ∧
      Completes (.mirrorWrite n .ack) s [] [] (fun _ => True)) ∧
    ((s.chip.island n).dirty ≠ [] → Completes (.mirrorWrite n .lost) s [Reg.ISL_CHAN_crc_err n] [] (fun t =>
      t.get (Reg.ISL_CHAN_crc_err n) = min 255 (s.chip.get (Reg.ISL_CHAN_crc_err n) + 1))) ∧
    (∀ o ∈ (s.chip.island n).dirty.head?.toList, (s.chip.island n).real ∈ [2, 3, 4, 6] →
      Completes (.mirrorWrite n .ack) s [Reg.ISL_STAT_sync n, Reg.ISL_STAT_clamp_on n] [.isl] (fun t =>
        (t.island n).dirty = (s.chip.island n).dirty.tail ∧
        t.get (Reg.ISL_STAT_sync n) = b2n (decide ((s.chip.island n).dirty.tail ≠ [])) ∧
        t.ownWord n o = s.chip.regWord (0x41100000 + 0x200 * n.val + o) ∧
        ∀ q ∈ Chip.mirrorOffs, q ≠ o → t.ownWord n q = s.chip.ownWord n q)) ∧
    (s.chip.takes (0x41100024 + 0x200 * n.val) = true →
      Touches (.mirrorWrite n (.write 5 d)) s [.regs, .free, .log, .isl] (fun t => 0x24 ∈ (t.island n).dirty ∧
      t.get (Reg.ISL_STAT_sync n) = 1 ∧ (t.island n).own = (s.chip.island n).own ∧
      t.get (Reg.ISL_PROF_ON_i1 n) = part d.toNat (Reg.ISL_PROF_ON_i1 n).lsb (Reg.ISL_PROF_ON_i1 n).width ∧
      t.get (Reg.ISL_PROF_ON_t2 n) = part d.toNat (Reg.ISL_PROF_ON_t2 n).lsb (Reg.ISL_PROF_ON_t2 n).width)) ∧
    (s.chip.takes (0x41100000 + 0x200 * n.val) = true → s.chip.rwlOpen (0x41100000 + 0x200 * n.val) = true →
      ((d.toNat % 2 = 1 → s.chip.bootOk n = true) → Touches (.supplyModeWrite n d) s [.regs, .free, .log, .isl] (fun t =>
        t.get (Reg.ISL_CFG_supply n) = d.toNat % 2 ∧ 0 ∈ (t.island n).dirty)) ∧
      (d.toNat % 2 = 1 → s.chip.bootOk n = false → Touches (.supplyModeWrite n d) s [.regs, .free, .log, .isl] (fun t =>
        t.get (Reg.ISL_CFG_supply n) = s.chip.get (Reg.ISL_CFG_supply n) ∧ t.log.seq = (s.chip.log.seq + 1) % 65536 ∧
        t.island n = s.chip.island n))) ∧
    ((s.chip.island n).real ∈ [1, 2, 3, 4] → Touches (.islandChannelLoss n) s [.regs, .log, .isl] (fun t =>
      (t.island n).real = 5 ∧ (t.island n).hsStep = 0 ∧
      ((s.chip.island n).gate = .on → Chip.turningOff (t.island n).gate = true))) ∧
    ((s.chip.island n).real ∉ [1, 2, 3, 4] → Completes (.islandChannelLoss n) s [] [] (fun _ => True)) ∧
    (s.chip.on (Reg.ISL_STAT_chan_ok n) = false → Completes (.chanLoss n) s [] [] (fun _ => True)) ∧
    (s.chip.on (Reg.ISL_STAT_chan_ok n) = true →
      Touches (.chanLoss n) s [.regs, .log, .pwr, .cl, .slice, .isl, .safe] (fun t =>
        t.get (Reg.ISL_FLAGS_chan_ev n) = 1 ∧ t.get (Reg.ISL_STAT_chan_ok n) = 0 ∧
        (s.chip.get (Reg.ISL_STAT_state n) ∈ [2, 3, 4, 5] → (s.chip.island n).lockout = false → s.chip.isoOn n = true →
          (∃ z ∈ (t.island n).faults, z.code = 0x0216) ∧ ∀ q ∈ (s.chip.islOwner n).toList, t.Faulted q 0x0216))) ∧
    ((s.chip.island n).real = 5 → Touches (.orphanReturn n) s [.regs, .isl] (fun t => (t.island n).real = 1 ∧
      t.get (Reg.ISL_STAT_state n) = 1 ∧ (t.island n).hsStep = 0)) ∧
    ((s.chip.island n).real ≠ 5 → Completes (.orphanReturn n) s [] [] (fun _ => True)) ∧
    ((s.chip.island n).real = 0 ∨ (s.chip.island n).real = 7 →
      (∀ f : Bool, Completes (.statusFrame ⟨n, f⟩ x y d d) s [] [] (fun _ => True)) ∧
      Completes (.measurementFrame n b false u v) s [] [] (fun _ => True)) ∧
    ((s.chip.island n).real ∈ [1, 2, 3, 4, 5, 6] →
      Completes (.statusFrame ⟨n, true⟩ x y d d) s [Reg.ISL_CHAN_crc_err n] [] (fun t =>
        t.get (Reg.ISL_CHAN_crc_err n) = min 255 (s.chip.get (Reg.ISL_CHAN_crc_err n) + 1)) ∧
      Touches (.statusFrame ⟨n, false⟩ x y d d) s [.regs, .log, .pwr, .cl, .slice, .isl, .safe] (fun t =>
        t.get (Reg.ISL_SUP_vcc2 n) = x.val ∧ t.get (Reg.ISL_SUP_vee2 n) = y.val ∧ t.get (Reg.ISL_TEMP_temp n) = d.toNat ∧
        t.get (Reg.ISL_STAT_vcc_warn n) = b2n (decide (x.val < 10 * s.chip.get (Reg.ISL_UV_vcc_warn n))) ∧
        t.get (Reg.ISL_STAT_ot_warn n) = b2n (F32.ge d.toNat (F32.ofNat (s.chip.get (Reg.ISL_OT_warn n)))) ∧
        ((s.chip.island n).real = 3 → F32.ge d.toNat (F32.ofNat 150) = true → (s.chip.island n).faults = [] →
          (t.island n).real = 4 ∧ ∀ q ∈ (s.chip.islOwner n).toList, t.Faulted q 0x0213) ∧
        (F32.ge d.toNat (F32.ofNat 150) = false →
          t.get (Reg.ISL_STAT_state n) = (s.chip.island n).real ∧ t.island n = s.chip.island n)) ∧
      (s.chip.pwr.safetyOnMon = false → Completes (.measurementFrame n b true u v) s [Reg.ISL_CHAN_crc_err n] [] (fun t =>
        t.get (Reg.ISL_CHAN_crc_err n) = min 255 (s.chip.get (Reg.ISL_CHAN_crc_err n) + 1)) ∧
        ((if b then (s.chip.island n).brokenOn else (s.chip.island n).brokenOff) = true ∨ 65535 < u.val ∨ 65535 < v.val →
          Completes (.measurementFrame n b false u v) s [Reg.ISL_MEAS_CNT_invalid n, Reg.ISL_FLAGS_meas_inv n] [] (fun t =>
            t.get (Reg.ISL_MEAS_CNT_invalid n) = min 65535 (s.chip.get (Reg.ISL_MEAS_CNT_invalid n) + 1) ∧
            t.get (Reg.ISL_FLAGS_meas_inv n) = 1))) ∧
      (s.chip.pwr.safetyOnMon = false → u.val ≤ 65535 → v.val ≤ 65535 →
        ((s.chip.island n).brokenOn = false →
          Touches (.measurementFrame n true false u v) s [.regs, .log, .pwr, .cl, .slice, .isl, .safe, .chm] (fun t =>
            t.get (Reg.ISL_MEAS_ON_t_don n) = u.val ∧ t.get (Reg.ISL_MEAS_ON_t_pl_on n) = v.val ∧
            t.get (Reg.ISL_MEAS_TS_tick n) = (s.chip.island n).startTick % 2 ^ 32)) ∧
        ((s.chip.island n).brokenOff = false →
          Touches (.measurementFrame n false false u v) s [.regs, .log, .chm] (fun t =>
            t.get (Reg.ISL_MEAS_OFF_t_doff n) = u.val ∧ t.get (Reg.ISL_MEAS_OFF_t_pl_off n) = v.val)))) ∧
    (s.chip.clState k ≠ 1 ∨ s.chip.on (Reg.SEQ_STAT_overspeed k) = true ∨ s.chip.get (Reg.SAFE_C_STAT_sel k) ≠ 0 ∨
        (s.chip.now - (s.chip.cluster k).catchAt) % 10000 ≠ 0 ∨ s.chip.bootPending k = 0 →
      Completes (.bsCatchPulse k) s [] [] (fun _ => True)) ∧
    (s.chip.clState k = 1 → s.chip.on (Reg.SEQ_STAT_overspeed k) = false → s.chip.get (Reg.SAFE_C_STAT_sel k) = 0 →
      (s.chip.now - (s.chip.cluster k).catchAt) % 10000 = 0 → s.chip.bootPending k ≠ 0 →
      Touches (.bsCatchPulse k) s [.regs, .cl, .slice, .isl, .chm] (fun t => (t.cluster k).pulse = true ∧
        (hasBit (s.chip.bootPending k) m = true → (s.chip.island (m.val + 1)).real = 2 → (s.chip.island (m.val + 1)).held = false →
          (s.chip.pulseOn k).after7L (m.val / 2) = true → (t.island (m.val + 1)).cmd = true) ∧
        ((∀ q : Fin 12, hasBit (s.chip.bootPending k) q = true → q.val + 1 ≠ m.val ∧ Chip.mate (q.val + 1) ≠ m.val) →
          t.island m = s.chip.island m)))

/-- An island's start, its faults and their clearing, and the leakage check. -/
def Obligations.IslandFaultsAndStarts : Prop :=
  ∀ (s : State) (n : Fin 12) (b : Bool) (d : Word) (x : Fin 65536), s.chip.Shaped →
    (s.chip.pwr.dieReset = true →
      ((s.chip.island n).real ∈ [1, 2, 3, 4, 5, 6] → x.val < 10 * s.chip.ownGet n (Reg.ISL_UV_vcc_uv n) →
        Completes (.uvlo n false x) s [] [.isl] (fun t => (t.island n).real = 0 ∧ (t.island n).gate = .off)) ∧
      ((s.chip.island n).real = 0 →
        Completes (.islandSupplyRelease n) s [] [.isl] (fun t => (t.island n).real = 5 ∧
          (t.island n).clampOn = s.chip.ownOn n (Reg.ISL_CFG_clamp_en n)))) ∧
    (s.chip.pwr.dieReset = false →
      ((s.chip.island n).real = 1 → (s.chip.island n).opened = true → (s.chip.island n).hsFailed = false →
        (s.chip.island n).hsStep = 0 → s.chip.retired = false →
        Completes (.islandHandshakeOpen n) s [] [.isl] (fun t => (t.island n).hsStep = 2 ∧
          ∀ j : Fin 12, j ≠ n → t.island j = s.chip.island j)) ∧
      ((s.chip.island n).real ≠ 1 ∨ (s.chip.island n).opened = false ∨ s.chip.retired = true ∨ (s.chip.island n).hsFailed = true ∨
          (s.chip.island n).hsStep ≠ 0 → Completes (.islandHandshakeOpen n) s [] [] (fun _ => True)) ∧
      ((s.chip.island n).real ≠ 1 ∨ (s.chip.island n).hsStep = 0 →
        Completes (.handshakeStepEnd n b x) s [] [] (fun _ => True)) ∧
      ((s.chip.island n).real = 1 → (s.chip.island n).hsStep ≠ 0 →
        Touches (.handshakeStepEnd n false x) s [.regs, .log, .pwr, .cl, .cle, .slice, .isl, .safe] (fun t =>
          (t.island n).hsFailed = true ∧ (t.island n).real = 1 ∧ t.get Reg.ISL_GFLAGS_hs_fail = 1 ∧
          ∀ q ∈ (s.chip.islOwner n).toList, t.Faulted q 0x0E35)) ∧
      ((s.chip.island n).real = 1 →
        ((s.chip.island n).hsStep = 2 → Completes (.handshakeStepEnd n true x) s [Reg.ISL_STAT_chan_ok n] [.isl] (fun t =>
          (t.island n).hsStep = 3 ∧ t.get (Reg.ISL_STAT_chan_ok n) = 1)) ∧
        ((s.chip.island n).hsStep = 3 →
          Completes (.handshakeStepEnd n true x) s [Reg.ISL_STAT_sync n, Reg.ISL_STAT_clamp_on n] [.isl] (fun t =>
            (t.island n).hsStep = 4 ∧
            (∀ o ∈ Chip.mirrorOffs, t.ownWord n o = s.chip.regWord (0x41100000 + 0x200 * n.val + o)) ∧ (t.island n).dirty = [] ∧ t.get (Reg.ISL_STAT_sync n) = 0)) ∧
        ((s.chip.island n).hsStep = 4 → s.chip.on Reg.ISL_CAL_STAT_valid = true →
          Touches (.handshakeStepEnd n true x) s [.regs, .log, .isl] (fun t => (t.island n).hsStep = 5 ∧
            t.get (Reg.ISL_CHAN_trim n) = min 255 (s.chip.get Reg.ISL_CAL_STAT_target - x.val) ∧
            t.get Reg.ISL_CAL_STAT_target = s.chip.get Reg.ISL_CAL_STAT_target)) ∧
        ((s.chip.island n).hsStep = 5 → Completes (.handshakeStepEnd n true x) s [] [.isl] (fun t =>
          (t.island n).hsStep = 6 ∧ (t.island n).real = 1)) ∧
        ((s.chip.island n).hsStep = 6 →
          Touches (.handshakeStepEnd n true x) s [.regs, .log, .pwr, .cl, .cle, .slice, .isl, .safe] (fun t =>
            (t.island n).real = (if (s.chip.island n).faults = [] then 2 else 4) ∧
            t.get (Reg.ISL_FLAGS_ready_ev n) = 1 ∧ t.get (Reg.ISL_STAT_chan_ok n) = 1 ∧ (t.island n).hsStep = 0))) ∧
      ((s.chip.island n).real = 2 ∨ (s.chip.island n).real = 3 → s.chip.on Reg.ISL_CAL_STAT_valid = true →
        Touches (.latencyRemeasure n x) s [.regs, .log] (fun t => t.get (Reg.ISL_CHAN_raw n) = x.val ∧
          (∀ a ∈ (s.chip.island n).cmdAt.toList, s.chip.now ≤ a + s.chip.get Reg.ISL_CAL_STAT_target / 64 →
            t.get (Reg.ISL_CHAN_trim n) = s.chip.get (Reg.ISL_CHAN_trim n) % 256) ∧
          ((∀ a ∈ (s.chip.island n).cmdAt.toList, a + s.chip.get Reg.ISL_CAL_STAT_target / 64 < s.chip.now) →
          (s.chip.get (Reg.ISL_CHAN_trim n) < min 255 (s.chip.get Reg.ISL_CAL_STAT_target - x.val) →
            t.get (Reg.ISL_CHAN_trim n) = s.chip.get (Reg.ISL_CHAN_trim n) + 1) ∧
          (min 255 (s.chip.get Reg.ISL_CAL_STAT_target - x.val) < s.chip.get (Reg.ISL_CHAN_trim n) →
            s.chip.get (Reg.ISL_CHAN_trim n) ≤ 255 →
            t.get (Reg.ISL_CHAN_trim n) = s.chip.get (Reg.ISL_CHAN_trim n) - 1)))) ∧
      ((s.chip.island n).real ≠ 2 → (s.chip.island n).real ≠ 3 → Completes (.latencyRemeasure n x) s [] [] (fun _ => True)) ∧
      (10 * s.chip.ownGet n (Reg.ISL_UV_vcc_uv n) ≤ x.val → Completes (.uvlo n false x) s [] [] (fun _ => True)) ∧
      ((s.chip.island n).real ∈ [1, 2, 3, 4, 5, 6] → x.val < 10 * s.chip.ownGet n (Reg.ISL_UV_vcc_uv n) →
        Touches (.uvlo n false x) s [.regs, .log, .isl] (fun t => (t.island n).real = 0 ∧ (t.island n).lockout = true ∧
          t.get (Reg.ISL_FLAGS_uv_ev n) = 1 ∧ t.get (Reg.ISL_STAT_state n) = 0 ∧ (t.island n).tblOn = none ∧
          (s.chip.isoOn n = true → (∃ z ∈ (t.island n).faults, z.code = 0x0211) ∧
            (t.island n).reports = (s.chip.island n).reports ++ [(0x0211, 2)]) ∧
          (s.chip.isoOn n = false → (t.island n).faults = (s.chip.island n).faults))) ∧
      ((s.chip.island n).real = 0 → Touches (.islandSupplyRelease n) s [.regs, .isl] (fun t =>
        (t.island n).real = 1 ∧ t.get (Reg.ISL_STAT_state n) = 1 ∧ t.get (Reg.ISL_STAT_bs_pending n) = 0 ∧
        (t.island n).hsStep = 0)) ∧
      ((s.chip.island n).real = 3 →
        (s.chip.ownOn n (Reg.ISL_CFG_desat_en n) = true → (s.chip.island n).gate = .on →
          (s.chip.island n).startTick + s.chip.blankTicks n ≤ s.chip.now →
          Completes (.desatBlankingEnd n) s [] [.isl] (fun t => (t.island n).watching = true)) ∧
        (s.chip.ownOn n (Reg.ISL_CFG_desat_en n) = true → (s.chip.island n).watching = true →
          Touches (.desat n x) s [.regs, .log, .isl] (fun t => (t.island n).real = 4 ∧
            (t.island n).gate = (if s.chip.ownOn n (Reg.ISL_CFG_tlto_en n) then .fault1 else .fault2) ∧
            (∃ z ∈ (t.island n).faults, z.code = 0x0210) ∧ t.log.seq = (s.chip.log.seq + 1) % 65536 ∧
            t.get (Reg.ISL_FAULT_code n) = 0x0210 ∧
            (t.island n).reports = (s.chip.island n).reports ++ [(0x0210, 2)])) ∧
        (s.chip.ownOn n (Reg.ISL_CFG_desat_en n) = false → Completes (.desat n x) s [] [] (fun _ => True) ∧
          Completes (.desatBlankingEnd n) s [] [] (fun _ => True)) ∧
        (Chip.turningOn (s.chip.island n).gate = true → s.chip.gateLate n = true → (s.chip.island n).faults = [] →
          Touches (.gateTmo n) s [.regs, .log, .isl] (fun t => (t.island n).real = 4 ∧
            (t.island n).faults = [⟨0x0214, n, true, s.chip.now⟩] ∧ (t.island n).brokenOn = true ∧
            (t.island n).reports = (s.chip.island n).reports ++ [(0x0214, 3)])) ∧
        (s.chip.gateLate n = false → Completes (.gateTmo n) s [] [] (fun _ => True))) ∧
      ((s.chip.island n).real = 4 ∨ (s.chip.island n).real = 5 → s.chip.gateLate n = true →
        Touches (.gateTmo n) s [.regs, .log, .isl] (fun t => (t.island n).real = (s.chip.island n).real ∧
          (∃ z ∈ (t.island n).faults, z.code = 0x0214) ∧ (t.island n).reports = (s.chip.island n).reports ++ [(0x0214, 3)])) ∧
      ((s.chip.island n).gate = .fault1 → Completes (.tltoHoldEnd n) s [] [.isl] (fun t =>
        (t.island n).gate = .fault2)) ∧
      ((∀ z ∈ (s.chip.island n).faults, z.code ≠ x.val) → Completes (.islandAutoClear n x) s [] [] (fun _ => True)) ∧
      (∀ z ∈ (s.chip.island n).faults, z.code = 0x0210 → z.latch = false →
        (∀ w ∈ (s.chip.island n).faults, w.code = 0x0210 → w = z) → s.chip.clearDue n z = true →
        (s.chip.get (Reg.ISL_FAULT_desat_used n) < s.chip.get (Reg.ISL_RETRY_desat_tries n) →
          s.chip.clearsUsed n < s.chip.get (Reg.ISL_RETRY_win_max n) →
          Touches (.islandAutoClear n 0x0210) s [.regs, .log, .pwr, .cl, .cle, .slice, .isl, .safe] (fun t =>
            (∀ w ∈ (t.island n).faults, w.code ≠ 0x0210) ∧ t.get (Reg.ISL_FLAGS_cleared_ev n) = 1 ∧
            t.get (Reg.ISL_FAULT_desat_used n) = (s.chip.get (Reg.ISL_FAULT_desat_used n) + 1) %
              2 ^ (Reg.ISL_FAULT_desat_used n).width)) ∧
        (s.chip.get (Reg.ISL_RETRY_desat_tries n) ≤ s.chip.get (Reg.ISL_FAULT_desat_used n) →
          Touches (.islandAutoClear n 0x0210) s [.regs, .log, .pwr, .cl, .cle, .slice, .isl, .safe] (fun t =>
            (∃ w ∈ (t.island n).faults, w.code = 0x0210 ∧ w.latch = true) ∧
            t.get (Reg.ISL_FAULT_desat_used n) = s.chip.get (Reg.ISL_FAULT_desat_used n)))) ∧
      Completes (.usedCountReset n b) s [Reg.ISL_FAULT_uv_used n, Reg.ISL_FAULT_desat_used n] [] (fun t =>
        (b = true → hasBit (s.chip.island n).turnedOn 1 = true → (s.chip.island n).turnU + Chip.ms 1000 ≤ s.chip.now → t.get (Reg.ISL_FAULT_uv_used n) = 0) ∧
        (b = false → hasBit (s.chip.island n).turnedOn 0 = true → (s.chip.island n).turnD + Chip.ms 1000 ≤ s.chip.now → t.get (Reg.ISL_FAULT_desat_used n) = 0) ∧
        (b = true → t.get (Reg.ISL_FAULT_desat_used n) = s.chip.get (Reg.ISL_FAULT_desat_used n)) ∧
        (b = false → t.get (Reg.ISL_FAULT_uv_used n) = s.chip.get (Reg.ISL_FAULT_uv_used n))) ∧
      (s.chip.takes (0x41100004 + 0x200 * n.val) = true → Touches (.islandClear n) s [.regs, .log, .pwr, .cl, .cle, .slice, .isl, .safe] (fun t =>
        t.get (Reg.ISL_FAULT_uv_used n) = 0 ∧ t.get (Reg.ISL_FAULT_desat_used n) = 0 ∧
        ((s.chip.island n).faults = [⟨0x0214, n, b, x⟩] → (t.island n).faults = [] ∧
          ((s.chip.island n).real = 4 → (t.island n).real = 2)))) ∧
      (s.chip.takes (0x41100004 + 0x200 * n.val) = true → s.chip.get (Reg.ISL_STAT_state n) = 2 → (s.chip.island n).real = 2 →
        ((∀ q ∈ (s.chip.islOwner n).toList, s.chip.quiet q = true) → s.chip.gateEn (n / 2) = false →
          s.chip.get (Reg.ISL_STAT_state (Chip.mate n)) = 2 →
          Touches (.leakCheck n) s [.regs, .isl] (fun t => (t.island n).real = 6 ∧
            t.get (Reg.ISL_STAT_clamp_on n) = 0 ∧ t.get (Reg.ISL_LEAK_STAT_result n) = 0 ∧
            t.get (Reg.ISL_LEAK_STAT_busy n) = 1)) ∧
        ((∃ q ∈ (s.chip.islOwner n).toList, s.chip.quiet q = false) →
          Touches (.leakCheck n) s [.regs, .free, .log] (fun t => (t.island n).real = 2 ∧
            t.log.seq = (s.chip.log.seq + 1) % 65536))) ∧
      ((s.chip.island n).real = 6 → s.chip.on (Reg.ISL_LEAK_STAT_busy n) = true →
        Touches (.leakCheckEnd n d) s [.regs, .log, .pwr, .cl, .slice, .isl, .safe] (fun t =>
          t.get (Reg.ISL_LEAK_RES_current n) = d.toNat ∧ t.get (Reg.ISL_LEAK_STAT_busy n) = 0 ∧
          (s.chip.get (Reg.ISL_LEAK_CFG_fail n) ≠ 0 →
            F32.ge d.toNat (microAmp (s.chip.get (Reg.ISL_LEAK_CFG_fail n))) = true →
            t.get (Reg.ISL_LEAK_STAT_result n) = 3 ∧ (t.island n).real = 4 ∧
            ∀ q ∈ (s.chip.islOwner n).toList, t.Faulted q 0x0217) ∧
          (s.chip.get (Reg.ISL_LEAK_CFG_fail n) = 0 → s.chip.get (Reg.ISL_LEAK_CFG_warn n) = 0 →
            t.get (Reg.ISL_LEAK_STAT_result n) = 1 ∧ (t.island n).real = s.chip.restState n))))

/-- The safety block's own actuators. -/
def Obligations.ContactorsChopperAndDischarge : Prop :=
  ∀ (s : State) (q : Fin 4) (neg hi : Bool), s.chip.Shaped →
    (s.chip.pwr.vddaOk = true → Completes .vddaRelease s [] [] (fun _ => True)) ∧
    (s.chip.pwr.vddaOk = false →
      (s.chip.pwr.dieReset = true → Completes .vddaRelease s [Reg.PWR_STAT_vdda_good] [.pwr] (fun t =>
        t.pwr.vddaOk = true ∧ t.get Reg.PWR_STAT_vdda_good = 1)) ∧
      (s.chip.pwr.dieReset = false → Touches .vddaRelease s [.regs, .log, .pwr, .cl, .adc, .cle, .slice, .isl, .safe]
        (fun t => t.pwr.vddaOk = true ∧ t.adc.refWait = true ∧ t.get Reg.PWR_STAT_vdda_good = 1))) ∧
    (s.chip.pwr.dieReset = false →
      (s.chip.safe.chopVerify = false ∨
          s.chip.now < s.chip.safe.chopAt + 2000 * max 1 (s.chip.get Reg.SAFE_CHOP_CFG_verify) →
        Completes .chopperVerifyEnd s [] [] (fun _ => True)) ∧
      (s.chip.safe.chopVerify = true →
        s.chip.safe.chopAt + 2000 * max 1 (s.chip.get Reg.SAFE_CHOP_CFG_verify) ≤ s.chip.now →
        (s.chip.chopCmp.isSome = true → s.chip.safe.chopSeen = true →
          (s.chip.safe.chopTest = false → Completes .chopperVerifyEnd s [] [.safe] (fun t => t.safe.chopVerify = false)) ∧
          (s.chip.safe.chopTest = true → Touches .chopperVerifyEnd s [.regs, .log, .slice, .safe] (fun t =>
            t.get Reg.SAFE_CHOP_STAT_test = 1 ∧ t.get Reg.SAFE_CHOP_STAT_test_busy = 0 ∧
            t.get Reg.SAFE_CHOP_STAT_fail = 0 ∧ t.safe.rampFrom = none))) ∧
        (s.chip.chopCmp.isSome = false → s.chip.vdcAll = [] →
          Touches .chopperVerifyEnd s [.regs, .log, .slice, .safe] (fun t => t.get Reg.SAFE_CHOP_STAT_fail = 1 ∧
            t.get Reg.SAFE_FLAGS_chop_fail = 1 ∧ t.safe.rampFrom.isSome = true ∧
            t.log.seq = (s.chip.log.seq + 1) % 65536 ∧
            (s.chip.safe.chopTest = true → t.get Reg.SAFE_CHOP_STAT_test = 2)))) ∧
      (s.chip.chopSlice.isSome = true → s.chip.on Reg.SAFE_CHOP_STAT_test_busy = false →
        (s.chip.vdcAll = [] ∨ F32.lt s.chip.vHi (F32.ofNat 50) = true →
          Completes .chopperTest s [Reg.SAFE_CHOP_STAT_test] [] (fun t => t.get Reg.SAFE_CHOP_STAT_test = 3)) ∧
        (s.chip.vdcAll ≠ [] → F32.lt s.chip.vHi (F32.ofNat 50) = false →
          Touches .chopperTest s [.regs, .slice, .safe] (fun t => t.get Reg.SAFE_CHOP_STAT_on = 1 ∧
            t.get Reg.SAFE_STAT_chop_on = 1 ∧ t.get Reg.SAFE_CHOP_STAT_test_busy = 1 ∧ t.safe.chopVerify = true ∧
            t.safe.chopTest = true ∧ t.safe.chopV = s.chip.vHi))) ∧
      (s.chip.chopSlice = none → Completes .chopperTest s [] [] (fun _ => True)) ∧
      (s.chip.ov3Tripped = false → Completes .ctrOv3Open s [] [] (fun _ => True)) ∧
      (s.chip.ov3Tripped = true → s.chip.on Reg.SAFE_CTR_STAT_ov3_open = false →
        s.chip.safe.ov3At.getD s.chip.now + Chip.ms 10 < s.chip.now →
        (∀ k ∈ s.chip.motorClusters, s.chip.holdsOff k = true ∧ (s.chip.cluster k).selAt + Chip.ms 10 < s.chip.now) →
        Touches .ctrOv3Open s [.regs, .log, .safe] (fun t => t.get Reg.SAFE_CTR_STAT_pos_out = 0 ∧
          t.get Reg.SAFE_CTR_STAT_neg_out = 0 ∧ t.get Reg.SAFE_CTR_STAT_ov3_open = 1 ∧ t.safe.needNew = 3 ∧
          t.log.seq = (s.chip.log.seq + 1) % 65536)) ∧
      Completes (.ctrCommand (BitVec.ofNat 32 q)) s [Reg.SAFE_CTR_CTL_pos, Reg.SAFE_CTR_CTL_neg, Reg.SAFE_CTR_STAT_ov3_open,
          Reg.SAFE_CTR_STAT_pos_out, Reg.SAFE_CTR_STAT_neg_out, Reg.SAFE_CTR_STAT_pos_busy, Reg.SAFE_CTR_STAT_neg_busy,
          Reg.SAFE_CTR_STAT_open_held, Reg.SAFE_CTR_STAT_drop] [.safe] (fun t =>
        t.get Reg.SAFE_CTR_CTL_pos = q.val % 2 ∧ t.get Reg.SAFE_CTR_CTL_neg = q.val / 2 ∧
        (q.val = 3 → s.chip.on Reg.SAFE_CTR_STAT_weld = false → s.chip.ov3Tripped = false → s.chip.disRuns = false →
          s.chip.retired = false → s.chip.on Reg.CFG_BOOT_STAT_torque_ready = true →
          t.get Reg.SAFE_CTR_STAT_pos_out = 1 ∧ t.get Reg.SAFE_CTR_STAT_neg_out = 1) ∧
        (q.val = 0 → s.chip.driving = false →
          t.get Reg.SAFE_CTR_STAT_pos_out = 0 ∧ t.get Reg.SAFE_CTR_STAT_neg_out = 0 ∧
          t.get Reg.SAFE_CTR_STAT_open_held = 0) ∧
        (q.val = 0 → s.chip.driving = true →
          t.get Reg.SAFE_CTR_STAT_pos_out = s.chip.get Reg.SAFE_CTR_STAT_pos_out ∧
          t.get Reg.SAFE_CTR_STAT_open_held =
            b2n (s.chip.on Reg.SAFE_CTR_STAT_pos_out || s.chip.on Reg.SAFE_CTR_STAT_neg_out)) ∧
        (s.chip.on Reg.SAFE_CTR_STAT_weld = true → s.chip.on Reg.SAFE_CTR_STAT_neg_out = false →
          t.get Reg.SAFE_CTR_STAT_neg_out = 0)) ∧
      Completes (.ctrForce 0xC7F00100) s [Reg.SAFE_CTR_CTL_pos, Reg.SAFE_CTR_CTL_neg, Reg.SAFE_CTR_STAT_pos_out,
          Reg.SAFE_CTR_STAT_neg_out, Reg.SAFE_CTR_STAT_pos_busy, Reg.SAFE_CTR_STAT_neg_busy,
          Reg.SAFE_CTR_STAT_open_held, Reg.SAFE_CTR_STAT_drop] [.safe] (fun t =>
        t.get Reg.SAFE_CTR_STAT_pos_out = 0 ∧ t.get Reg.SAFE_CTR_STAT_neg_out = 0 ∧
        t.get Reg.SAFE_CTR_STAT_open_held = 0) ∧
      Touches .clrWeld s [.regs, .safe] (fun t => t.get Reg.SAFE_CTR_STAT_weld = 0 ∧
        t.get Reg.SAFE_CTR_CTL_pos = s.chip.get Reg.SAFE_CTR_CTL_pos) ∧
      (s.chip.on Reg.SAFE_CTR_STAT_pos_fb = (hi != s.chip.on Reg.SAFE_CTR_CFG_fb_pol) →
        Completes (.ctrFeedbackChange false hi) s [] [.safe] (fun t =>
          t.safe = { s.chip.safe with fbHigh := putBit s.chip.safe.fbHigh 0 hi })) ∧
      (s.chip.on Reg.SAFE_CTR_STAT_pos_fb = false → s.chip.moduleChan = false →
        Completes (.ctrFeedbackChange false !(s.chip.on Reg.SAFE_CTR_CFG_fb_pol)) s [Reg.SAFE_CTR_STAT_pos_fb] [.safe] (fun t =>
          t.get Reg.SAFE_CTR_STAT_pos_fb = 1)) ∧
      (s.chip.on Reg.SAFE_CTR_STAT_pos_fb = false → s.chip.moduleChan = true → s.chip.on Reg.SAFE_CTR_CFG_fb_en = true → s.chip.disRuns = false →
        s.chip.safe.opened = 0 →
        Touches (.ctrFeedbackChange false !(s.chip.on Reg.SAFE_CTR_CFG_fb_pol)) s
          [.regs, .free, .log, .pwr, .cl, .adc, .pos, .cle, .slice, .isl, .safe] (fun t =>
          t.get Reg.SAFE_CTR_STAT_pos_fb = 1 ∧
          (s.chip.on Reg.SAFE_CTR_STAT_pos_busy = true → s.chip.on Reg.SAFE_CTR_STAT_pos_out = true → s.chip.now ≤ s.chip.ctrDue false →
            t.get Reg.SAFE_CTR_STAT_pos_busy = 0 ∧ t.get Reg.SAFE_FLAGS_ctr_done = 1) ∧
          (s.chip.on Reg.SAFE_CTR_STAT_pos_busy = false → s.chip.on Reg.SAFE_CTR_STAT_pos_out = false →
            t.get Reg.SAFE_CTR_STAT_weld = 1 ∧
            (s.chip.on Reg.SAFE_CTR_STAT_weld = false → t.get Reg.SAFE_FLAGS_ctr_ev = 1)))) ∧
      (s.chip.moduleChan = false ∨ s.chip.on Reg.SAFE_CTR_CFG_fb_en = false ∨ s.chip.now ≤ s.chip.ctrDue neg ∨
          s.chip.on (if neg then Reg.SAFE_CTR_STAT_neg_busy else Reg.SAFE_CTR_STAT_pos_busy) = false →
        Completes (.ctrFeedbackTimeout neg) s [] [] (fun _ => True)) ∧
      (s.chip.moduleChan = true → s.chip.on Reg.SAFE_CTR_CFG_fb_en = true → s.chip.on Reg.SAFE_CTR_STAT_neg_busy = true →
        s.chip.ctrDue true < s.chip.now →
        Touches (.ctrFeedbackTimeout true) s [.regs, .log, .safe] (fun t => t.get Reg.SAFE_CTR_STAT_neg_busy = 0 ∧
          (s.chip.on Reg.SAFE_CTR_STAT_neg_out = true → s.chip.on Reg.SAFE_CTR_STAT_neg_fb = false →
            t.get Reg.SAFE_CTR_STAT_neg_out = 0 ∧ t.get Reg.SAFE_CTR_CTL_neg = 0 ∧
            t.log.seq = (s.chip.log.seq + 1) % 65536) ∧
          (s.chip.on Reg.SAFE_CTR_STAT_neg_out = false → s.chip.on Reg.SAFE_CTR_STAT_neg_fb = true →
            t.get Reg.SAFE_CTR_STAT_weld = 1))) ∧
      (s.chip.disRuns = true ∨ s.chip.moduleChan = false → Completes .dischargeStart s [] [] (fun _ => True)) ∧
      (s.chip.disRuns = false → s.chip.moduleChan = true →
        (s.chip.on Reg.SAFE_CTR_STAT_pos_out = true →
          Completes .dischargeStart s [Reg.SAFE_DIS_STAT_state, Reg.SAFE_DIS_STAT_reason] [] (fun t =>
            t.get Reg.SAFE_DIS_STAT_state = 5 ∧ t.get Reg.SAFE_DIS_STAT_reason = 1)) ∧
        (s.chip.on Reg.SAFE_CTR_STAT_pos_out = false → s.chip.on Reg.SAFE_CTR_STAT_neg_out = false →
          s.chip.on Reg.SAFE_CTR_CFG_fb_en = false ∨
            (s.chip.on Reg.SAFE_CTR_STAT_pos_fb = false ∧ s.chip.on Reg.SAFE_CTR_STAT_neg_fb = false) →
          (s.chip.vdcAll = [] →
            Completes .dischargeStart s [Reg.SAFE_DIS_STAT_state, Reg.SAFE_DIS_STAT_reason] [] (fun t =>
              t.get Reg.SAFE_DIS_STAT_state = 5 ∧ t.get Reg.SAFE_DIS_STAT_reason = 2)) ∧
          (s.chip.vdcAll ≠ [] → s.chip.on Reg.SAFE_DIS_CTL_path = true →
            Touches .dischargeStart s [.regs, .free, .log, .pwr, .cl, .adc, .pos, .cle, .slice, .isl, .safe] (fun t =>
              t.safe.disStart = some s.chip.now ∧ t.get Reg.SAFE_DIS_STAT_reason = 0 ∧
              t.get Reg.SAFE_DIS_STAT_state =
                (if F32.lt s.chip.vHi (s.chip.get Reg.SAFE_DIS_TGT_v) then 3 else 2))))) ∧
      (s.chip.moduleChan = false ∨ s.chip.get Reg.SAFE_DIS_STAT_state ≠ 1 ∨ s.chip.disPast 1 = false → Completes .disHalfTime s [] [] (fun _ => True)) ∧
      (s.chip.moduleChan = true → s.chip.get Reg.SAFE_DIS_STAT_state = 1 → s.chip.disPast 1 = true → s.chip.vdcAll = [] →
        Touches .disHalfTime s [.regs, .free, .log, .pwr, .cl, .adc, .pos, .cle, .slice, .isl, .safe] (fun t =>
          t.get Reg.SAFE_DIS_STAT_state = 2)) ∧
      (s.chip.disRuns = false ∨ s.chip.moduleChan = false → Completes .disFail s [] [] (fun _ => True) ∧
        Completes .dischargeAbort s [] [] (fun _ => True)) ∧
      (s.chip.disRuns = true → s.chip.moduleChan = true →
        (s.chip.disPast 2 = false → Completes .disFail s [] [] (fun _ => True)) ∧
        (s.chip.disPast 2 = true → Touches .disFail s [.regs, .log, .pwr, .cl, .slice, .isl, .safe] (fun t => t.get Reg.SAFE_DIS_STAT_reason = 3 ∧
          t.get Reg.SAFE_DIS_STAT_state = 4 ∧ t.get Reg.SAFE_FLAGS_dis_fail = 1 ∧ t.Latched q 0x071C)) ∧
        Touches .dischargeAbort s [.regs, .log, .pwr, .cl, .slice, .isl, .safe] (fun t =>
          t.get Reg.SAFE_DIS_STAT_reason = 4 ∧ t.get Reg.SAFE_DIS_STAT_state = 4 ∧
          t.get Reg.SAFE_FLAGS_dis_fail = 1 ∧ t.Latched q 0x071C ∧
          (s.chip.get Reg.SAFE_DIS_STAT_state = 2 → s.chip.on Reg.SAFE_DIS_CTL_xen = false → t.safe.dsch = false))))

/-- The demands on the hard-wired logic. -/
def Obligations.DemandsAndProcessorChannel : Prop :=
  ∀ (s : State) (k : Fin 4) (g : Fin 2) (n : Fin 12) (b : Bool) (u : Fin 4), s.chip.pwr.dieReset = false → s.chip.Shaped →
    (s.chip.on (if b then Reg.SAFE_STAT_sto_b else Reg.SAFE_STAT_sto_a) = true →
      Completes (.stoDemand b) s [] [] (fun _ => True) ∧
      Touches (.stoRelease b) s [.regs, .log, .pwr, .cl, .cle, .slice, .isl, .safe] (fun t =>
        t.get (if b then Reg.SAFE_STAT_sto_b else Reg.SAFE_STAT_sto_a) = 0 ∧ t.get Reg.SAFE_FLAGS_sto_rel = 1 ∧
        (t.cluster k).faults = (s.chip.cluster k).faults)) ∧
    (s.chip.on (if b then Reg.SAFE_STAT_sto_b else Reg.SAFE_STAT_sto_a) = false →
      Completes (.stoRelease b) s [] [] (fun _ => True) ∧
      Touches (.stoDemand b) s [.regs, .log, .pwr, .cl, .slice, .isl, .safe] (fun t =>
        t.get (if b then Reg.SAFE_STAT_sto_b else Reg.SAFE_STAT_sto_a) = 1 ∧ t.get Reg.SAFE_FLAGS_sto_ev = 1 ∧
        ((s.chip.topo k).type ≠ 0 → s.chip.on Reg.SAFE_STO_CFG_scope = false ∨ k.val / 2 = b2n b → t.Latched k 0x0710))) ∧
    (s.chip.on Reg.SAFE_STAT_sto_disc = false ∨ s.chip.safe.discRec = true ∨
        s.chip.now ≤ s.chip.safe.discAt + Chip.ms (10 * max 1 (s.chip.get Reg.SAFE_STO_CFG_disc)) →
      Completes .stoDiscrepancy s [] [] (fun _ => True)) ∧
    (s.chip.on Reg.SAFE_STAT_sto_disc = true → s.chip.safe.discRec = false →
      s.chip.safe.discAt + Chip.ms (10 * max 1 (s.chip.get Reg.SAFE_STO_CFG_disc)) < s.chip.now →
      Touches .stoDiscrepancy s [.regs, .log, .pwr, .cl, .slice, .isl, .safe] (fun t =>
        t.get Reg.SAFE_FLAGS_disc_ev = 1 ∧ t.safe.discRec = true ∧ t.Latched k 0x0711)) ∧
    (s.chip.stoIso g = true →
      (s.chip.on (if g.val = 0 then Reg.SAFE_STAT_iso_en_a else Reg.SAFE_STAT_iso_en_b) = true →
        (∀ q : Fin 4, s.chip.holdsOff q = true ∧
          (s.chip.cluster q).selAt + Chip.ms (s.chip.get Reg.SAFE_STO_CFG_iso_dly) ≤ s.chip.now) →
        Touches (.isoEnRelease g) s [.regs, .safe] (fun t =>
          t.get (if g.val = 0 then Reg.SAFE_STAT_iso_en_a else Reg.SAFE_STAT_iso_en_b) = 0)) ∧
      (n.val / 6 = g.val → (∀ q ∈ (s.chip.islOwner n).toList, q < 4 ∧ s.chip.holdsOff q = false) →
        (s.chip.islOwner n).isSome = true → Completes (.isoEnRelease g) s [] [] (fun _ => True))) ∧
    (s.chip.stoIso g = false → Completes (.isoEnRelease g) s [] [] (fun _ => True)) ∧
    ((s.chip.island n).reports = [] → Completes (.islandFaultReport n) s [] [] (fun _ => True)) ∧
    (∀ p ∈ (s.chip.island n).reports.head?.toList,
      Touches (.islandFaultReport n) s [.regs, .log, .pwr, .cl, .slice, .isl, .safe] (fun t =>
        (t.island n).reports = (s.chip.island n).reports.tail ∧ t.get (Reg.ISL_FLAGS_fault_ev n) = 1 ∧
        (s.chip.on (Reg.ISL_LEAK_STAT_busy n) = false → t.get (Reg.ISL_STAT_state n) = (s.chip.island n).real % 8) ∧
        ∀ q ∈ (s.chip.islOwner n).toList, q < 4 → t.Faulted q p.1)) ∧
    ((∃ a ∈ s.chip.safe.tickAt.toList, s.chip.now < a + Chip.ms 1) → Completes .safetyTick s [] [] (fun _ => True)) ∧
    ((∀ a ∈ s.chip.safe.tickAt.toList, a + Chip.ms 1 ≤ s.chip.now) → Touches .safetyTick s [.regs, .free, .log, .pwr, .cl, .adc, .pos, .cle, .slice, .isl, .safe] (fun t =>
      (s.chip.pcRuns k = true →
        t.get (Reg.SAFE_C_STAT_seq k) = (s.chip.get (Reg.SAFE_C_STAT_seq k) + 1) % 16 ∧
        (s.chip.get (Reg.SAFE_C_PC_ack k) = s.chip.get (Reg.SAFE_C_STAT_seq k) → (t.cluster k).ackMiss = 0) ∧
        (s.chip.get (Reg.SAFE_C_PC_ack k) ≠ s.chip.get (Reg.SAFE_C_STAT_seq k) →
          ((s.chip.cluster k).ackMiss = 0 → (t.cluster k).ackMiss = 1) ∧
          ((s.chip.cluster k).ackMiss = 1 → t.Latched k 0x0720 ∧ t.get (Reg.SAFE_C_STAT_pc_sto k) = 1))) ∧
      (s.chip.pcRuns k = false → t.get (Reg.SAFE_C_STAT_seq k) = s.chip.get (Reg.SAFE_C_STAT_seq k)))) ∧
    (s.chip.pcRuns k = false ∨ (s.chip.cluster k).tqBad < max 1 (s.chip.get (Reg.SAFE_C_CFG_tq_t k)) →
      Completes (.tqImplausible k) s [] [] (fun _ => True)) ∧
    (s.chip.pcRuns k = true → max 1 (s.chip.get (Reg.SAFE_C_CFG_tq_t k)) ≤ (s.chip.cluster k).tqBad →
      Touches (.tqImplausible k) s [.regs, .log, .pwr, .cl, .slice, .isl, .safe] (fun t => t.Latched k 0x071E ∧
        t.get (Reg.SAFE_C_STAT_pc_sto k) = 1 ∧ (t.cluster k).tqBad = 0)) ∧
    (s.chip.pcRuns k = false ∨ (s.chip.cluster k).slsRun < 10 → Completes (.speedLimit k) s [] [] (fun _ => True)) ∧
    (s.chip.pcRuns k = true → 10 ≤ (s.chip.cluster k).slsRun →
      Touches (.speedLimit k) s [.regs, .free, .log, .pwr, .cl, .adc, .pos, .cle, .slice, .isl, .safe] (fun t =>
        (t.cluster k).slsRun = 0 ∧ (s.chip.clState k ≠ 4 → s.chip.on (Reg.SAFE_C_STAT_ss1 k) = false →
          (t.cluster k).ss1At = s.chip.now))) ∧
    (s.chip.pcRuns k = false ∨ s.chip.clState k = 4 ∨ s.chip.on (Reg.SAFE_C_STAT_ss1 k) = true →
      Completes (.ss1Start k) s [] [] (fun _ => True)) ∧
    (s.chip.pcRuns k = true → s.chip.clState k ≠ 4 → s.chip.on (Reg.SAFE_C_STAT_ss1 k) = false →
      Touches (.ss1Start k) s [.regs, .free, .log, .pwr, .cl, .adc, .pos, .cle, .slice, .isl, .safe] (fun t =>
        t.get (Reg.SAFE_C_STAT_ss1 k) = 1 ∧ (t.cluster k).ss1At = s.chip.now ∧
        (s.chip.clState k = 2 → s.chip.on (Reg.SEQ_STAT_wdis k) = false → s.chip.on (Reg.SEQ_STAT_lent k) = false →
          (s.chip.topo k).type ≠ 5 → t.clState k = 3))) ∧
    (s.chip.pcRuns k = false ∨ s.chip.on (Reg.SAFE_C_STAT_ss1 k) = false ∨
        s.chip.now < (s.chip.cluster k).ss1At + Chip.ms (100 * max 1 (s.chip.get (Reg.SAFE_C_CFG_ss1_t k))) → Completes (.ss1Timeout k) s [] [] (fun _ => True)) ∧
    (s.chip.pcRuns k = true → s.chip.on (Reg.SAFE_C_STAT_ss1 k) = true →
      (s.chip.cluster k).ss1At + Chip.ms (100 * max 1 (s.chip.get (Reg.SAFE_C_CFG_ss1_t k))) ≤ s.chip.now →
      Touches (.ss1Timeout k) s [.regs, .log, .pwr, .cl, .slice, .isl, .safe] (fun t => t.Latched k 0x071F ∧
        t.get (Reg.SAFE_C_STAT_pc_sto k) = 1 ∧ t.get (Reg.SAFE_C_STAT_ss1 k) = 0)) ∧
    (s.chip.pcRuns k = true → s.chip.on (Reg.SAFE_C_CFG_msg_req k) = true → (s.chip.cluster k).msgLost = false →
      (s.chip.cluster k).msgAt + Chip.ms (10 * max 1 (s.chip.get (Reg.SAFE_C_CFG_msg_to k))) ≤ s.chip.now →
      Touches (.safeMsgLost k) s [.regs, .free, .log, .pwr, .cl, .adc, .pos, .cle, .slice, .isl, .safe] (fun t =>
        (t.cluster k).msgLost = true ∧ (s.chip.clState k ≠ 4 → s.chip.on (Reg.SAFE_C_STAT_ss1 k) = false →
          t.get (Reg.SAFE_C_STAT_ss1 k) = 1))) ∧
    (s.chip.pcRuns k = false ∨ s.chip.on (Reg.SAFE_C_CFG_msg_req k) = false ∨ (s.chip.cluster k).msgLost = true →
      Completes (.safeMsgLost k) s [] [] (fun _ => True)) ∧
    Touches (.pcStoSet k) s [.regs, .log, .pwr, .cl, .slice, .isl, .safe] (fun t => t.Latched k 0x071D ∧
      t.get (Reg.SAFE_C_STAT_pc_sto k) = 1 ∧ t.get Reg.SAFE_FLAGS_pc_ev = 1 ∧ t.get (Reg.SAFE_C_STAT_ss1 k) = 0) ∧
    Touches (.pcStoRelease k) s [.regs, .log, .cl, .slice] (fun t => t.get (Reg.SAFE_C_STAT_pc_sto k) = 0 ∧
      (t.cluster k).faults = (s.chip.cluster k).faults ∧ t.clState k = s.chip.clState k) ∧
    (s.chip.locked g = false ∨ (s.chip.region g).inReset = true →
      Completes (.lockstepMismatch g u) s [] [] (fun _ => True)) ∧
    (s.chip.locked g = true → (s.chip.region g).inReset = false →
      Touches (.lockstepMismatch g u) s [.regs, .mem, .ecc, .free, .fab, .log, .bus, .pwr, .rgn, .cl, .adc, .pos, .cle, .slice,
          .isl, .safe, .chm, .hart, .sem, .memS, .hw] (fun t => (t.region g).inReset = true ∧
        t.get Reg.SAFE_FLAGS_lockstep = 1 ∧
        t.get (if g.val = 0 then Reg.SAFE_LS_STAT_mis_a else Reg.SAFE_LS_STAT_mis_b) =
          min 255 (s.chip.get (if g.val = 0 then Reg.SAFE_LS_STAT_mis_a else Reg.SAFE_LS_STAT_mis_b) + 1)))

/-- The commands of the Chimney. -/
def Obligations.ThermalAndLife : Prop :=
  ∀ (s : State) (m : Fin 6) (k : Fin 4) (i : Fin 8) (b : Bool) (l : List Byte) (v : Vector Word 8) (a : Nat),
    s.chip.pwr.dieReset = false → s.chip.Shaped → s.chip.chm.ledger.length = 6 → s.chip.chm.sw.length = 12 →
    s.chip.chm.age.length = 4 → s.chip.chm.rampAt.length = 4 →
    (s.chip.legRead m = false → Completes (.idRecordLoad m none) s [] [] (fun _ => True) ∧
      Completes (.ledgerLoad m) s [] [] (fun _ => True)) ∧
    (s.chip.legsUnread.find? (fun i => i / 3 == m.val / 3) ≠ some m.val →
      Completes (.idRecordLoad m none) s [] [] (fun _ => True) ∧
      (256 ≤ l.length → l.length ≤ 4096 → Completes (.idRecordLoad m (some l)) s [] [] (fun _ => True))) ∧
    (s.chip.legsUnread.find? (fun i => i / 3 == m.val / 3) = some m.val →
      Touches (.idRecordLoad m none) s [.regs, .log, .chm] (fun t => t.chm = { s.chip.chm with read := setBit s.chip.chm.read m } ∧ t.get (Reg.CHM_M_STAT_rec_ok m) = 0 ∧
        t.get Reg.CHM_FLAGS_rec_bad = 1 ∧ t.log.seq = (s.chip.log.seq + 1) % 65536 ∧
        ∀ q ∈ (s.chip.sliceOwner m).toList, q < 4 → t.get (Reg.CHM_C_STAT_no_record q) = 1) ∧
      (256 ≤ l.length → l.length ≤ 4096 → Touches (.idRecordLoad m (some l)) s [.regs, .mem, .log, .chm] (fun t => hasBit t.chm.read m = true ∧
        t.bytes (Chip.idKey m 0) l.length = l ∧ (t.get (Reg.CHM_M_STAT_rec_ok m) = 1 ↔ t.recFault m = 0) ∧
        (a < Chip.idKey m 0 ∨ Chip.idKey m 0 + l.length ≤ a → t.byte a = s.chip.byte a)))) ∧
    (s.chip.legsUnread ≠ [] → Completes (.ledgerLoad m) s [] [] (fun _ => True)) ∧
    (s.chip.legRead m = true → s.chip.legsUnread = [] →
      (s.chip.on (Reg.CHM_M_STAT_led_ok m) = true → Completes (.ledgerLoad m) s [] [] (fun _ => True)) ∧
      (s.chip.on (Reg.CHM_M_STAT_led_ok m) = false →
        (s.chip.ledSlot m = none → Touches (.ledgerLoad m) s [.regs, .log, .chm] (fun t =>
          (nth t.chm.ledger m).seq = 0 ∧ (nth t.chm.ledger m).writes = 0 ∧ t.get (Reg.CHM_M_STAT_led_ok m) = 1)) ∧
        (∀ p ∈ (s.chip.ledSlot m).toList, Touches (.ledgerLoad m) s [.regs, .log, .chm] (fun t =>
          t.get (Reg.CHM_M_STAT_slot m) = p ∧ t.get (Reg.CHM_M_STAT_led_ok m) = 1 ∧
          (nth t.chm.ledger m).seq = s.chip.load (ledAddr m p + 4) 4 ∧
          (nth t.chm.ledger m).runS = s.chip.load (ledAddr m p + 0x10) 4)))) ∧
    (s.chip.writing (.ledger m) = false → Completes (.ledgerWriteEnd m b) s [] [] (fun _ => True)) ∧
    (s.chip.writing (.ledger m) = true →
      Touches (.ledgerWriteEnd m true) s [.regs, .mem, .log, .chm] (fun t =>
        t.get (Reg.CHM_M_STAT_slot m) = 1 - s.chip.get (Reg.CHM_M_STAT_slot m) ∧ t.get Reg.CHM_FLAGS_led_done = 1 ∧
        t.bytes (ledAddr m (1 - s.chip.get (Reg.CHM_M_STAT_slot m))) (nth s.chip.chm.ledger m).image.length =
          (nth s.chip.chm.ledger m).image ∧ (nth t.chm.ledger m).writes = (nth s.chip.chm.ledger m).writes + 1) ∧
      Touches (.ledgerWriteEnd m false) s [.regs, .log, .chm] (fun t => t.get Reg.CHM_FLAGS_led_fail = 1 ∧
        t.get (Reg.CHM_M_STAT_slot m) = s.chip.get (Reg.CHM_M_STAT_slot m) ∧
        t.log.seq = (s.chip.log.seq + 1) % 65536)) ∧
    (s.chip.chm.runTicks < Chip.ms (60000 * max 1 (s.chip.get Reg.CHM_CFG_ledger_min)) →
      Completes .ledgerInterval s [] [] (fun _ => True)) ∧
    (Chip.ms (60000 * max 1 (s.chip.get Reg.CHM_CFG_ledger_min)) ≤ s.chip.chm.runTicks → Touches .ledgerInterval s [.regs, .log, .chm] (fun t =>
      t.chm.runTicks = 0 ∧ t.writeWaits (.ledger m) = (s.chip.on (Reg.CHM_M_STAT_led_ok m) || s.chip.writeWaits (.ledger m)))) ∧
    Touches .ledgerWriteRequest s [.regs, .log, .chm] (fun t =>
      t.writeWaits (.ledger m) = (s.chip.on (Reg.CHM_M_STAT_led_ok m) || s.chip.writeWaits (.ledger m))) ∧
    ((∃ y ∈ s.chip.chm.dieAt.toList, s.chip.now < y + Chip.ms 1) → Completes (.dieSensorSample v.toList) s [] [] (fun _ => True)) ∧
    ((∀ y ∈ s.chip.chm.dieAt.toList, y + Chip.ms 1 ≤ s.chip.now) →
    Touches (.dieSensorSample v.toList) s [.regs, .log, .pwr, .cl, .slice, .isl, .safe, .chm] (fun t =>
      t.get (Reg.CHM_DIE_T_temp i) = (v.toList.getD i 0).toNat ∧
      (s.chip.sensorOff (v.toList.map BitVec.toNat) i = true → 9 ≤ nth s.chip.chm.dieRun i →
        hasBit (t.get Reg.CHM_DIE_STAT_broken) i = true) ∧
      (s.chip.get Reg.CHM_DIE_STAT_broken = 0 → (∀ j : Fin 8, s.chip.sensorOff (v.toList.map BitVec.toNat) j = false) →
        t.get Reg.CHM_DIE_STAT_valid = 255 ∧ t.get Reg.CHM_STAT_t_die_ok = 1 ∧
        t.get Reg.CHM_T_DIE_t_die = (v.toList.tail.map BitVec.toNat).foldl F32.max (v.toList.getD 0 0).toNat) ∧
      (s.chip.get Reg.CHM_DIE_STAT_broken = 255 →
        t.get Reg.CHM_STAT_t_die_ok = 0 ∧ t.get Reg.CHM_T_DIE_t_die = 0))) ∧
    (s.chip.on (Reg.CHM_C_STAT_tw_valid k) = false ∨ s.chip.now ≤ nth s.chip.chm.twTick k + Chip.ms 100 → Completes (.windSens k) s [] [] (fun _ => True)) ∧
    (s.chip.on (Reg.CHM_C_STAT_tw_valid k) = true → nth s.chip.chm.twTick k + Chip.ms 100 < s.chip.now → Touches (.windSens k) s [.regs, .log] (fun t =>
      t.get (Reg.CHM_C_STAT_tw_valid k) = 0 ∧ t.get (Reg.CHM_C_STAT_wind_lim k) = 0 ∧
      t.log.seq = (s.chip.log.seq + 1) % 65536)) ∧
    (s.chip.get (Reg.CHM_C_STAT_peak k) ≠ 1 → Completes (.peakGraceEnd k) s [] [] (fun _ => True)) ∧
    (s.chip.get (Reg.CHM_C_STAT_peak k) = 1 →
      nth s.chip.chm.rampAt k + Chip.ms (10 * s.chip.get (Reg.CHM_C_CFG_grace k)) ≤ s.chip.now →
      (s.chip.peakReleases k = true → Touches (.peakGraceEnd k) s [.regs] (fun t =>
        t.get (Reg.CHM_C_STAT_peak k) = 0 ∧ t.get Reg.CHM_FLAGS_released = 1)) ∧
      (s.chip.peakReleases k = false → Touches (.peakGraceEnd k) s [.regs, .log, .chm] (fun t =>
        t.get (Reg.CHM_C_STAT_peak k) = 2 ∧ t.get Reg.CHM_FLAGS_enforce = 1 ∧ nth t.chm.rampAt k = s.chip.now ∧
        t.log.seq = (s.chip.log.seq + 1) % 65536))) ∧
    (s.chip.get (Reg.CHM_C_STAT_peak k) = 2 → nth s.chip.chm.rampAt k + Chip.ms 200 ≤ s.chip.now →
      Completes (.peakRampEnd k) s [Reg.CHM_C_STAT_peak k, Reg.CHM_C_LIM_v k] [] (fun t =>
        t.get (Reg.CHM_C_STAT_peak k) = 3)) ∧
    (s.chip.get (Reg.CHM_C_STAT_peak k) ≠ 2 ∨ s.chip.now < nth s.chip.chm.rampAt k + Chip.ms 200 →
      Completes (.peakRampEnd k) s [] [] (fun _ => True)) ∧
    (s.chip.on Reg.CHM_CFG_rain_en = false → Completes .rainflowSample s [] [.chm] (fun t =>
      t.chm = { s.chip.chm with sw := s.chip.chm.sw.map fun w => { w with high := none } })) ∧
    (s.chip.on Reg.CHM_CFG_rain_en = true → (∃ y ∈ s.chip.chm.rainAt.toList, s.chip.now < y + Chip.ms 10) →
      Completes .rainflowSample s [] [] (fun _ => True)) ∧
    (s.chip.on Reg.CHM_CFG_rain_en = true → (∀ y ∈ s.chip.chm.rainAt.toList, y + Chip.ms 10 ≤ s.chip.now) → Touches .rainflowSample s [.regs, .log, .chm] (fun t =>
      t.sw (2 * m + b2n b) = (if s.chip.on (Reg.CHM_M_STAT_led_ok m) then
        Chip.rainSample (10 * (max 1 (s.chip.get Reg.CHM_CFG_rf_min) : Nat)) (s.chip.sw (2 * m + b2n b))
        else s.chip.sw (2 * m + b2n b)))) ∧
    (s.chip.heldFirst b = none → Completes (.heldWriteStart b) s [] [] (fun _ => True) ∧
      Completes (.writeTempFail b) s [] [] (fun _ => True)) ∧
    (∀ o ∈ (s.chip.heldFirst b).toList,
      s.chip.writeTempOk o = false → Completes (.heldWriteStart b) s [] [] (fun _ => True)) ∧
    (∀ o ∈ (s.chip.heldFirst b).toList, s.chip.writeTempOk o = true → b = true ∨ o = .log ∨ o = .boot →
      Touches (.heldWriteStart b) s [.regs, .chm] (fun t => t.writing o = true)) ∧
    (s.chip.heldFirst b = some .softRepair → s.chip.writeTempOk .softRepair = true →
      Touches (.heldWriteStart b) s [.regs, .mem, .free, .cfg, .chm] (fun t => t.cfg.softRepair = s.chip.cfg.mapped)) ∧
    ((s.chip.heldFirst b).isSome = true →
      (∀ w ∈ s.chip.chm.writes, w.held = true → w.since + Chip.ms 600000 ≤ s.chip.now) →
      Touches (.writeTempFail b) s [.regs, .mem, .log, .cfg, .chm, .hw] (fun t =>
        t.get Reg.CHM_WQ_failed = min 255 (s.chip.get Reg.CHM_WQ_failed + 1) ∧ t.get Reg.CHM_FLAGS_write_fail = 1 ∧
        t.get Reg.CHM_FLAGS_write_held = s.chip.get Reg.CHM_FLAGS_write_held)) ∧
    (s.chip.on (Reg.CHM_C_CFG_age_en k) = false → Completes (.ageRebuild k) s [] [] (fun _ => True) ∧
      Completes (.ageApply k) s [] [] (fun _ => True)) ∧
    (s.chip.on (Reg.CHM_C_CFG_age_en k) = true → (nth s.chip.chm.age k).swapDue = false → s.chip.swapOf k 2 = .none →
      ((nth s.chip.chm.age k).runTicks < Chip.ms (3600000 * max 1 (s.chip.get Reg.CHM_CFG_age_h)) →
        Completes (.ageRebuild k) s [] [] (fun _ => True)) ∧
      (Chip.ms (3600000 * max 1 (s.chip.get Reg.CHM_CFG_age_h)) ≤ (nth s.chip.chm.age k).runTicks → Touches (.ageRebuild k) s [.regs, .mem, .log, .cl, .chm] (fun t => (nth t.chm.age k).swapDue = true ∧
        (nth t.chm.age k).storeDue = true ∧ t.get (Reg.CHM_C_STAT_age_busy k) = 1 ∧
        t.bytes (Chip.ldrAddr k 2 (s.chip.ldrAct k 2)) 8192 = s.chip.bytes (Chip.ldrAddr k 2 (s.chip.ldrAct k 2)) 8192)) ∧
      ((nth s.chip.chm.age k).applied = false →
        (s.chip.leadSlice k).any (fun n => s.chip.on (Reg.PWM_S_STAT_running n)) = true →
        s.chip.on Reg.CFG_BOOT_STAT_torque_ready = true → (∀ q ∈ s.chip.legsOf k, q ∉ s.chip.legsUnread) →
        s.chip.load (Chip.ageBase k) 4 ≠ 0x45474141 →
        Touches (.ageApply k) s [.regs, .chm] (fun t => (nth t.chm.age k).applied = true ∧
          (nth t.chm.age k).refs = [] ∧ (nth t.chm.age k).used = (nth s.chip.chm.age k).used)))

/-- The cores' block: memories, semaphores, timers and interrupts. -/
def Obligations.CoresMemoryAndInterrupts : Prop :=
  ∀ (s : State) (k j : Fin 4) (rd n : Fin 32) (w : Fin 524288) (a d : Word) (r : Requester) (g : Fin 3) (i : Fin 16),
    s.chip.pwr.dieReset = false → s.chip.Shaped →
    (s.chip.coreRuns k = true →
      (a.toNat % 4 ≠ 0 →
        Completes (.coreLoad k 2 true false rd a 0) s [] [.hart] (fun t => (nth t.hart k).mcause = 4 ∧
          (nth t.hart k).mtval = a.toNat ∧ (nth t.hart k).mepc = (nth s.chip.hart k).pc ∧
          (nth t.hart k).xregs = (nth s.chip.hart k).xregs) ∧
        Completes (.coreStore k 2 a d) s [] [.hart] (fun t => (nth t.hart k).mcause = 6 ∧
          (nth t.hart k).mtval = a.toNat ∧ (nth t.hart k).pc = (nth s.chip.hart k).mtvec / 4 * 4)) ∧
      (a.toNat % 4 = 0 → 0x42040000 ≤ a.toNat →
        Completes (.coreLoad k 2 true false rd a 0) s [] [.hart] (fun t => (nth t.hart k).mcause = 5 ∧
          (nth t.hart k).machine = true) ∧
        Completes (.coreStore k 2 a d) s [] [.hart] (fun t => (nth t.hart k).mcause = 7) ∧
        Completes (.instructionFetch k a 0) s [] [.hart] (fun t => (nth t.hart k).mcause = 1 ∧
          (nth t.hart k).mtval = a.toNat)) ∧
      (s.chip.bus.posted = [] → s.chip.bus.held = [] → s.chip.eccBits (0x20000000 + 4 * w.val) 0 = 0 →
        (Chip.pmpOk (nth s.chip.hart k) (0x20000000 + 4 * w.val) 0 = true →
          Completes (.coreLoad k 2 true false rd (BitVec.ofNat 32 (0x20000000 + 4 * w.val)) 0) s [] [.hart] (fun t =>
            (rd.val ≠ 0 → lookupD 0 rd.val (nth t.hart k).xregs = s.chip.load (0x20000000 + 4 * w.val) 4) ∧
            (rd.val = 0 → (nth t.hart k).xregs = (nth s.chip.hart k).xregs) ∧
            (nth t.hart k).mcause = (nth s.chip.hart k).mcause)) ∧
        (Chip.pmpOk (nth s.chip.hart k) (0x20000000 + 4 * w.val) 1 = true →
          Completes (.coreStore k 2 (BitVec.ofNat 32 (0x20000000 + 4 * w.val)) d) s [] [.bus, .hart] (fun t =>
            (nth t.hart k).xregs = (nth s.chip.hart k).xregs ∧ t.bus.posted = [⟨.hart k, 0x20000000 + 4 * w.val, 4, d.toNat, 0⟩] ∧ t.bus.resets = s.chip.bus.resets)) ∧
        (Chip.pmpOk (nth s.chip.hart k) (0x20000000 + 4 * w.val) 2 = true →
          Completes (.instructionFetch k (BitVec.ofNat 32 (0x20000000 + 4 * w.val)) 0) s [] [.hart] (fun t =>
            (nth t.hart k).fetchQ = [(0x20000000 + 4 * w.val, s.chip.instrAt (k.val / 2) (0x20000000 + 4 * w.val))] ∧
            (nth t.hart k).pc = 0x20000000 + 4 * w.val)))) ∧
    (s.chip.eccBits (0x20000000 + 4 * w.val) 0 = 0 → Completes (.scrub 4 w 0) s [] [] (fun _ => True)) ∧
    (s.chip.eccBits (0x20000000 + 4 * w.val) 0 = 1 →
      Touches (.scrub 4 w 0) s [.regs, .ecc, .log] (fun t =>
        t.get (Reg.MEM_ECC_CNT1_cnt 0) = min 255 (s.chip.get (Reg.MEM_ECC_CNT1_cnt 0) + 1) ∧
        t.get Reg.MEM_FLAGS_cor = 1 ∧ t.get Reg.MEM_ECC_ADDR_addr = 0x20000000 + 4 * w.val)) ∧
    Completes (.eccInject d) s [Reg.MEM_ECC_INJ_bits, Reg.MEM_ECC_INJ_mem, Reg.MEM_ECC_INJ_arm] [] (fun t =>
      t.get Reg.MEM_ECC_INJ_bits = part d.toNat 4 2 ∧ t.get Reg.MEM_ECC_INJ_mem = part d.toNat 0 3 ∧
      t.on Reg.MEM_ECC_INJ_arm = (s.chip.on Reg.MEM_ECC_INJ_arm || hasBit d.toNat 8)) ∧
    (s.chip.coreRuns k = false →
      Completes (.coreLoad k 2 true false rd a 0) s [] [] (fun _ => True) ∧ Completes (.coreStore k 2 a d) s [] [] (fun _ => True) ∧
      Completes (.irqSumRead k) s [] [] (fun _ => True)) ∧
    (s.chip.reqRuns r = false →
      Completes (.semTake r n) s [] [] (fun _ => True) ∧ Completes (.semGive r n) s [] [] (fun _ => True) ∧
      Completes (.semTakeOrWait r n) s [] [] (fun _ => True) ∧ Completes (.semCancel r n) s [] [] (fun _ => True) ∧
      Completes (.timNowRead r) s [] [] (fun _ => True)) ∧
    (s.chip.reqRuns r = true → s.chip.bus.posted = [] → s.chip.bus.held = [] → s.chip.semOwner n = 0 →
      Completes (.semTake r n) s [Reg.SEM_OWN_owner (n / 4) (n % 4)] [.sem] (fun t => t.semOwner n = reqCode r ∧
        t.sem.waits = s.chip.sem.waits) ∧
      Completes (.semTakeOrWait r n) s [Reg.SEM_OWN_owner (n / 4) (n % 4)] [.sem] (fun t => t.semOwner n = reqCode r ∧
        t.sem.waits = s.chip.sem.waits)) ∧
    (s.chip.reqRuns r = true → s.chip.bus.posted = [] → s.chip.bus.held = [] → s.chip.semOwner n ≠ 0 →
      (s.chip.semBeaten r n = none → Completes (.semTake r n) s [] [] (fun _ => True)) ∧
      (∀ p ∈ (s.chip.semBeaten r n).toList, s.chip.semOwner n ≠ reqCode r →
        Completes (.semTake r n) s [Reg.SEM_OWN_owner (n / 4) (n % 4)] [.sem] (fun t => t.semOwner n = reqCode r ∧
          (p.2 = true → (n.val, p.1) ∈ t.sem.waits))) ∧
      (s.chip.semBeaten r n = none → s.chip.semOwner n ≠ reqCode r → (n.val, r) ∉ s.chip.sem.waits →
        Completes (.semTakeOrWait r n) s [] [.sem] (fun t => t.sem.waits = s.chip.sem.waits ++ [(n.val, r)])) ∧
      (s.chip.semOwner n = reqCode r → (∀ x ∈ s.chip.sem.waits, x.1 ≠ n.val) →
        Completes (.semGive r n) s [Reg.SEM_OWN_owner (n / 4) (n % 4)] [] (fun t => t.semOwner n = 0)) ∧
      (s.chip.semOwner n = reqCode r → s.chip.sem.waits = [(n.val, .host)] →
        Completes (.semGive r n) s [Reg.SEM_OWN_owner (n / 4) (n % 4)] [.sem] (fun t => t.semOwner n = 40 ∧
          t.sem.waits = [])) ∧
      (s.chip.semOwner n ≠ reqCode r → Completes (.semGive r n) s [Reg.MEM_FLAGS_sem_bad] [.log] (fun t =>
        t.get Reg.MEM_FLAGS_sem_bad = 1 ∧ t.log.seq = (s.chip.log.seq + 1) % 65536))) ∧
    (s.chip.reqRuns r = true → s.chip.bus.posted = [] → s.chip.bus.held = [] → Completes (.semCancel r n) s [] [.sem] (fun t => (n.val, r) ∉ t.sem.waits ∧
      ∀ x ∈ s.chip.sem.waits, x ≠ (n.val, r) → x ∈ t.sem.waits)) ∧
    (s.chip.isHart k = true → (s.chip.region (k.val / 2)).inReset = false →
      s.chip.stamp = s.chip.get (Reg.TIM_C_CMP1_cmp k) →
      Completes (.timerCompare k 1) s [Reg.IRQ_C_PRIV_pend k] [] (fun t =>
        hasBit (t.get (Reg.IRQ_C_PRIV_pend k)) 5 = true)) ∧
    (s.chip.stamp ≠ s.chip.get (Reg.TIM_C_CMP0_cmp k) → Completes (.timerCompare k 0) s [] [] (fun _ => True)) ∧
    (s.chip.isHart k = false → Completes (.timerCompare k 0) s [] [] (fun _ => True) ∧
      Completes (.watchdogKick k d) s [] [] (fun _ => True)) ∧
    (part d.toNat 16 16 ≠ 0x3C5A → Completes (.watchdogKick k d) s [] [] (fun _ => True)) ∧
    (s.chip.isHart k = true → s.chip.on (Reg.WDT_C_run k) = false →
      Completes (.watchdogKick k (BitVec.ofNat 32 (0x3C5A0001 + 256 * rd.val))) s
        [Reg.WDT_C_tmo k, Reg.WDT_C_en k, Reg.WDT_C_run k] [.hart] (fun t => t.get (Reg.WDT_C_run k) = 1 ∧
        t.get (Reg.WDT_C_tmo k) = rd.val ∧ t.get (Reg.WDT_C_en k) = 1)) ∧
    (s.chip.isHart k = true → s.chip.on (Reg.WDT_C_run k) = true →
      Completes (.watchdogKick k (BitVec.ofNat 32 (0x3C5A0000 + 256 * rd.val))) s [] [.hart] (fun t =>
        (nth t.hart k).wdtWarned = false)) ∧
    (s.chip.on (Reg.WDT_C_run k) = true →
      ((nth s.chip.hart k).wdtWarned = false → s.chip.wdtPast k 1 = true → Touches (.wdtWarn k) s [.regs, .hart] (fun t =>
        (nth t.hart k).wdtWarned = true ∧ hasBit (t.get (Reg.IRQ_C_PRIV_pend (s.chip.hartOf k))) 6 = true)) ∧
      (s.chip.wdtPast k 2 = true →
      Touches (.coreWdt k) s [.regs, .mem, .ecc, .free, .fab, .log, .bus, .pwr, .rgn, .cl, .adc, .pos, .cle, .slice, .isl, .safe,
        .chm, .hart, .sem, .memS, .hw] (fun t => (t.region (k.val / 2)).inReset = true))) ∧
    (s.chip.on (Reg.WDT_C_run k) = false ∨ s.chip.wdtPast k 1 = false ∧ s.chip.wdtPast k 2 = false → Completes (.wdtWarn k) s [] [] (fun _ => True) ∧
      Completes (.coreWdt k) s [] [] (fun _ => True)) ∧
    Completes (.irqRouteWrite n d) s ((List.range 4).flatMap fun b => [Reg.IRQ_ROUTE_en n b, Reg.IRQ_ROUTE_sticky n b,
        Reg.IRQ_ROUTE_group n b, Reg.IRQ_ROUTE_target n b]) [] (fun t =>
      t.get (Reg.IRQ_ROUTE_target n j) =
        (if 4 * n.val + j.val = 1 ∨ 4 * n.val + j.val = 2 ∨ (78 ≤ 4 * n.val + j.val ∧ 4 * n.val + j.val ≤ 95)
          then s.chip.get (Reg.IRQ_ROUTE_target n j) else part d.toNat (8 * j.val) 2) ∧
      (4 * n.val + j.val = 0 ∨ 96 ≤ 4 * n.val + j.val →
        t.get (Reg.IRQ_ROUTE_en n j) = bitOf d.toNat (8 * j.val + 7))) ∧
    (s.chip.irq.groups.length = 12 → s.chip.levelsSeen → (s.chip.group k (g.val + 1)).timer = true →
      s.chip.get (Reg.IRQ_C_MOD_time k g) ≠ 0 →
      (s.chip.group k (g.val + 1)).since + 200 * s.chip.get (Reg.IRQ_C_MOD_time k g) ≤ s.chip.now → ((s.chip.pendFor k).any fun x => s.chip.routeGroup x == g.val + 1) = true →
      Completes (.moderationTimer k g) s [] [] (fun t => (t.group k (g.val + 1)).released = true)) ∧
    ((s.chip.group k (g.val + 1)).timer = false → Completes (.moderationTimer k g) s [] [] (fun _ => True)) ∧
    Touches (.swi d) s [.regs] (fun t => hasBit d.toNat i = true → s.chip.isHart (i.val / 4) = true →
      hasBit (t.get (Reg.IRQ_C_PRIV_pend (i.val / 4))) (i.val % 4) = true) ∧
    Completes (.irqPendClear j d) s [] [] (fun t => s.chip.levelsSeen →
      hasBit s.chip.levels (32 * j.val + n.val) = false → hasBit s.chip.irq.pulsed (32 * j.val + n.val) = false →
      hasBit d.toNat n = true →
      hasBit t.irq.latch (32 * j.val + n.val) = false) ∧
    (s.chip.coreRuns k = true → hasBit s.chip.irq.armed k = true → Completes (.irqSumRead k) s [Reg.IRQ_SPURIOUS_cnt k] [] (fun t =>
      t.get (Reg.IRQ_SPURIOUS_cnt k) = (if s.chip.sumLow k = 0 then min 255 (s.chip.get (Reg.IRQ_SPURIOUS_cnt k) + 1)
        else s.chip.get (Reg.IRQ_SPURIOUS_cnt k)))) ∧
    (hasBit s.chip.irq.armed k = false → Completes (.irqSumRead k) s [] [] (fun _ => True)) ∧
    (s.chip.reqRuns r = true → s.chip.bus.posted = [] → s.chip.bus.held = [] → Completes (.timNowRead r) s [] [] (fun t =>
      lookupD 0 (reqCode r) t.irq.hiLatch = s.chip.now / 2 ^ 32 % 2 ^ 32))

/-- The commands of the port, and the registers by which a requester drives the rings. -/
def Obligations.HostPort : Prop :=
  ∀ (s : State) (n : Fin 8) (a d : Word) (lat : Byte) (l : List Byte) (x : Fin 1025), s.chip.pwr.dieReset = false →
    s.chip.Shaped →
    Completes .readId s [] [.hw] (fun t => t.hw.out = [0x4D, 0x48, 0x26, 0x12, Config.siliconStep, 0, 0, 0] ∧
      t.hw.err = s.chip.hw.err ∧ t.hw.q = s.chip.hw.q) ∧
    Completes .softReset s [Reg.HW_STAT_mode8d] [] (fun t => t.get Reg.HW_STAT_mode8d = 0) ∧
    (s.chip.port8d = false →
      Completes (.enter8d lat) s [Reg.HW_STAT_mode8d] [.hw] (fun t => t.get Reg.HW_STAT_mode8d = 1 ∧
        t.hw.lat = (if 16 ≤ lat.toNat ∧ lat.toNat ≤ 63 then lat.toNat else 24) ∧ t.hw.q = s.chip.hw.q) ∧
      Completes .readStatus s [Reg.HW_FLAGS_proto] [.log, .hw] (fun t => t.get Reg.HW_FLAGS_proto = 1 ∧ t.hw.err = true ∧
        t.hw.out = s.chip.hw.out) ∧
      Completes .fence s [Reg.HW_FLAGS_proto] [.log, .hw] (fun t => t.get Reg.HW_FLAGS_proto = 1 ∧
        t.log.seq = (s.chip.log.seq + 1) % 65536) ∧
      Completes (.read a 2 []) s [Reg.HW_FLAGS_proto] [.log, .hw] (fun t => t.get Reg.HW_FLAGS_proto = 1)) ∧
    (writeWf l = true → s.chip.port8d = false →
      Completes (.write a l) s [Reg.HW_FLAGS_proto] [.log, .hw] (fun t => t.get Reg.HW_FLAGS_proto = 1)) ∧
    Completes (.hpCsNRise .read) s [] [] (fun _ => True) ∧
    Completes (.hpCsNRise (.beforeData lat)) s [Reg.HW_FLAGS_proto] [.log, .hw] (fun t =>
      t.get Reg.HW_FLAGS_proto = 1 ∧ t.hw.err = true ∧ t.log.seq = (s.chip.log.seq + 1) % 65536) ∧
    (s.chip.port8d = true →
      Completes (.enter8d lat) s [Reg.HW_FLAGS_proto] [.log, .hw] (fun t => t.hw.lat = s.chip.hw.lat ∧ t.hw.err = true) ∧
      Completes .readStatus s [] [.hw] (fun t => t.hw.out = [BitVec.ofNat 8 s.chip.portStatus, 0] ∧ t.hw.late = false ∧
        t.hw.err = false ∧ t.hw.rst = false) ∧
      (s.chip.bus.posted = [] → s.chip.bus.held = [] →
        Completes (.read (BitVec.ofNat 32 (256 * x.val)) 256 []) s [Reg.HW_FLAGS_deny, Reg.HW_DENY_addr] [.log, .hw] (fun t =>
          (x.val < 1024 → t.hw.out = s.chip.bytes (0x30000000 + 256 * x.val) 256)) ∧
        Completes (.read 0x00100000 4 []) s [Reg.HW_FLAGS_deny, Reg.HW_DENY_addr] [.log, .hw] (fun t =>
          t.hw.out = [0, 0, 0, 0] ∧ t.get Reg.HW_FLAGS_deny = 1 ∧ t.get Reg.HW_DENY_addr = 0x00100000) ∧
        Completes .fence s [] [] (fun _ => True)) ∧
      Ends .fence s (fun t => ∀ p ∈ t.bus.posted, p.req ≠ .host) ∧
      (writeWf l = true → s.chip.portHeld + l.length ≤ 4096 → x.val * 256 + l.length ≤ 0x40000 →
        Completes (.write (BitVec.ofNat 32 (256 * x.val)) l) s [] [.bus] (fun t =>
          t.portHeld = s.chip.portHeld + l.length ∧ s.chip.bus.posted.IsPrefix t.bus.posted ∧
          (∀ p ∈ t.bus.posted.drop s.chip.bus.posted.length, p.req = .host)) ∧
        Completes (.hpCsNRise (.whole (BitVec.ofNat 32 (256 * x.val)) l)) s [] [.bus] (fun t =>
          t.portHeld = s.chip.portHeld + l.length)) ∧
      (writeWf l = true → 4096 < s.chip.portHeld + l.length →
        Completes (.write a l) s [Reg.HW_FLAGS_overrun] [.log, .hw] (fun t => t.get Reg.HW_FLAGS_overrun = 1 ∧
          t.hw.err = true ∧ t.log.seq = (s.chip.log.seq + 1) % 65536))) ∧
    Ends .hwFence s (fun t => ∀ p ∈ t.bus.posted, p.req ≠ .host) ∧
    (∀ r : Requester,
      (s.chip.reqRuns r = false → Completes (.hwCas r d) s [] [] (fun _ => True) ∧
        Completes (.sqDoorbell r n d) s [] [] (fun _ => True)) ∧
      (s.chip.reqRuns r = true → s.chip.bus.posted = [] → s.chip.bus.held = [] →
      (s.chip.bufOwner (part d.toNat 16 10) ≠ bitOf d.toNat 1 → Completes (.hwCas r d) s [] [.hw] (fun t =>
        t.casRes r = (if s.chip.bufOwner (part d.toNat 16 10) = 1 then 258 else 256))) ∧
      (s.chip.bufOwner (part d.toNat 16 10) = bitOf d.toNat 1 → r ≠ .host ∨ bitOf d.toNat 1 = 0 ∨ bitOf d.toNat 0 = 1 →
        Completes (.hwCas r d) s [] [.mem, .hw] (fun t => t.bufOwner (part d.toNat 16 10) = bitOf d.toNat 0 ∧
          t.casRes r = 256 + 2 * bitOf d.toNat 1 + b2n (bitOf d.toNat 1 != bitOf d.toNat 0))) ∧
      (
        (s.chip.sqOwner n ≠ some r → Completes (.sqDoorbell r n d) s [Reg.HW_FLAGS_queue_bad] [.log] (fun t =>
          t.get Reg.HW_FLAGS_queue_bad = 1 ∧ t.log.seq = (s.chip.log.seq + 1) % 65536)) ∧
        (s.chip.sqOwner n = some r → s.chip.on (Reg.HW_SQ_CFG_en n) = true → part d.toNat 0 8 < s.chip.sqSize n →
          Completes (.sqDoorbell r n d) s [Reg.HW_SQ_TAIL_tail n] [] (fun t =>
            t.get (Reg.HW_SQ_TAIL_tail n) = part d.toNat 0 8))))) ∧
    (s.chip.bus.posted = [] → s.chip.bus.held = [] → s.chip.bufOwner (part d.toNat 16 10) = 1 → part d.toNat 0 2 = 2 →
      Completes (.hwCas .host d) s [Reg.HW_FLAGS_own_viol] [.log, .hw] (fun t => t.get Reg.HW_FLAGS_own_viol = 1 ∧
        t.casRes .host = 258)) ∧
    (s.chip.ringsOn = [] → x.val < 1024 →
      Completes (.queueEnable false n (BitVec.ofNat 32 (0x80030000 + x.val))) s [Reg.HW_SQ_CFG_cq n, Reg.HW_SQ_CFG_owner n,
          Reg.HW_SQ_CFG_sw_en n, Reg.HW_SQ_CFG_hart n, Reg.HW_SQ_CFG_size n, Reg.HW_SQ_CFG_base n, Reg.HW_SQ_CFG_en n] []
        (fun t => t.get (Reg.HW_SQ_CFG_en n) = 1 ∧ t.get (Reg.HW_SQ_CFG_base n) = x.val ∧ t.sqSize n = 8) ∧
      Touches (.queueEnable true n (BitVec.ofNat 32 (0x80040000 + x.val))) s [.regs] (fun t =>
        t.get (Reg.HW_CQ_CFG_en n) = 1 ∧ t.get (Reg.HW_CQ_CFG_base n) = x.val ∧ t.get (Reg.HW_CQ_STAT_phase n) = 1 ∧
        t.get (Reg.HW_CQ_STAT_tail n) = 0) ∧
      Touches (.queueEnable false n 0x800403FF) s [.regs, .log] (fun t => t.get (Reg.HW_SQ_CFG_en n) = 0 ∧
        t.get Reg.HW_FLAGS_queue_bad = 1)) ∧
    (s.chip.on (Reg.HW_SQ_CFG_en n) = true → hasBit d.toNat 31 = true →
      Completes (.queueEnable false n d) s [] [] (fun _ => True))

/-- The Hallway engine. -/
def Obligations.DescriptorsAndAnnouncements : Prop :=
  ∀ (s : State) (q : Fin 8) (x : Fin 64) (d : Word), s.chip.pwr.dieReset = false → s.chip.Shaped →
    s.chip.hw.q.length = 8 →
    ((∀ n : Fin 8, s.chip.fetchable n = false) → Completes .descriptorFetch s [] [] (fun _ => True)) ∧
    (s.chip.hw.turn = q.val → s.chip.fetchable q = true → Touches .descriptorFetch s [.regs, .hw] (fun t =>
      (t.hwQ q).flight = (s.chip.hwQ q).flight ++ [{ entry := s.chip.get (Reg.HW_SQ_STAT_head q), words :=
        ((List.range 8).map (fun i => s.chip.load (0x30000000 + 256 * s.chip.get (Reg.HW_SQ_CFG_base q) +
          32 * s.chip.get (Reg.HW_SQ_STAT_head q) + 4 * i) 4)) }] ∧
      t.hw.turn = (q.val + 1) % 8 ∧
      t.get (Reg.HW_SQ_STAT_head q) = (s.chip.get (Reg.HW_SQ_STAT_head q) + 1) % s.chip.sqSize q)) ∧
    (s.chip.hwHead q = none →
      Completes (.upload q) s [] [] (fun _ => True) ∧ Completes (.fetch q x 0) s [] [] (fun _ => True) ∧
      Completes (.erase q true) s [] [] (fun _ => True) ∧ Completes (.msg q) s [] [] (fun _ => True) ∧
      Touches (.queueAbort q) s [.regs, .hw, .chm] (fun t => (t.hwQ q).abort = none ∧ t.get (Reg.HW_SQ_CFG_en q) = 0 ∧
        t.get (Reg.HW_SQ_CTL_abort q) = 0)) ∧
    (∀ e ∈ (s.chip.hwHead q).toList,
      (e.running = true → e.done = 0 → s.chip.ecc = [] → 0 < e.len → e.len ≤ 256 → Chip.inSram e.addr e.len = true →
        (e.opcode = 1 → Touches (.upload q) s [.regs, .mem, .hw] (fun t =>
          t.bytes e.addr e.len = s.chip.bytes (Chip.bufAddr e.buf) e.len ∧
          (nth (t.hwQ q).flight 0).status = some 0 ∧ (nth (t.hwQ q).flight 0).done = e.len)) ∧
        (e.opcode = 2 → Touches (.fetch q x 0) s [.regs, .mem, .hw] (fun t =>
          t.bytes (Chip.bufAddr e.buf) e.len = s.chip.bytes e.addr e.len ∧
          (nth (t.hwQ q).flight 0).status = some 0 ∧ (nth (t.hwQ q).flight 0).done = e.len))) ∧
      (e.running = true → 0 < e.len → s.chip.chm.writes = [] → (s.chip.hwQ q).abort = none →
        (s.chip.writeTempOk (.descriptor q) = true → e.opcode = 4 →
          Touches (.program q true) s [.regs, .mem, .ecc, .log, .chm, .hw] (fun t =>
            t.bytes (e.addr + e.done) 256 = s.chip.bytes (Chip.bufAddr e.buf + e.done) 256 ∧
            (nth (t.hwQ q).flight 0).done = e.done + 256) ∧
          Touches (.program q false) s [.regs, .mem, .ecc, .free, .log, .chm, .hw] (fun t =>
            (nth (t.hwQ q).flight 0).status = some 7 ∧ (nth (t.hwQ q).flight 0).info = e.addr + e.done)) ∧
        (s.chip.writeTempOk (.descriptor q) = true → e.opcode = 3 →
          Touches (.erase q true) s [.regs, .mem, .ecc, .log, .chm, .hw] (fun t =>
            t.byte (e.addr + e.done + 64 * x.val) = 0xFF ∧ (nth (t.hwQ q).flight 0).done = e.done + 4096)) ∧
        (s.chip.writeTempOk (.descriptor q) = false → e.opcode = 3 →
          Touches (.erase q true) s [.regs, .log, .chm, .hw] (fun t => t.writeWaits (.descriptor q) = true ∧
            (nth (t.hwQ q).flight 0).done = e.done ∧ t.get Reg.CHM_FLAGS_write_held = 1))) ∧
      (e.started = false → e.status = none → (s.chip.hwQ q).abort = none → s.chip.startCheck q e = none →
        (e.opcode = 5 → Touches (.trace q) s [.regs, .hw] (fun t => (nth (t.hwQ q).flight 0).started = true ∧
          (nth (t.hwQ q).flight 0).mark = s.chip.get (Reg.ADC_C_RB_STAT_seq e.arg0) ∧
          t.get (Reg.HW_SQ_STAT_busy q) = 1)) ∧
        (e.opcode = 8 → Touches (.msg q) s [.regs, .hw] (fun t => t.msgStands q = true ∧ t.get Reg.HW_FLAGS_msg = 1 ∧
          (nth (t.hwQ q).flight 0).started = true))) ∧
      (e.running = true → e.opcode = 5 →
        (s.chip.on (Reg.ADC_C_RB_CTL_freeze e.arg0) = true → Completes (.traceCopy q) s [] [] (fun _ => True)) ∧
        (s.chip.on (Reg.ADC_C_RB_CTL_freeze e.arg0) = false → s.chip.clState e.arg0 ≠ 5 →
          s.chip.get (Reg.ADC_C_RB_STAT_seq e.arg0) ≠ e.mark → Touches (.traceCopy q) s [.regs, .mem, .hw] (fun t =>
            t.load (Chip.bufAddr (e.buf + e.done) + 4 * x.val) 4 =
              s.chip.rbGet e.arg0 (64 * s.chip.get (Reg.ADC_C_RB_STAT_bank e.arg0) + x.val) % 2 ^ 32 ∧
            (nth (t.hwQ q).flight 0).done = e.done + 1))) ∧
      (e.running = true → e.opcode = 6 → Touches (.logRead q) s [.regs, .mem, .free, .hw] (fun t =>
        t.bytes (Chip.bufAddr (e.buf + e.done / 16)) (16 * ((s.chip.logEntries.filter fun p => !Chip.seqOlder p.1 e.mark).take 16).length) =
          ((s.chip.logEntries.filter fun p => !Chip.seqOlder p.1 e.mark).take 16).flatMap (·.2) ∧
        (nth (t.hwQ q).flight 0).done = e.done + ((s.chip.logEntries.filter fun p => !Chip.seqOlder p.1 e.mark).take 16).length)) ∧
      (e.running = true → e.opcode = 7 → e.done = 0 → 0 < e.nbuf →
        s.chip.landsUsed (Chip.idLands (e.arg0 / 3)) = false →
        Touches (.idRead q none) s [.regs, .hw] (fun t => (nth (t.hwQ q).flight 0).status = some 9 ∧
          (nth (t.hwQ q).flight 0).info = 0)) ∧
      (e.running = true → e.opcode = 7 → e.arg1 = 0 → e.done = 0 → 0 < e.nbuf →
        s.chip.landsUsed (Chip.idLands (e.arg0 / 3)) = true →
        Touches (.idRead q none) s [.regs, .mem, .hw] (fun t =>
          t.bytes (Chip.bufAddr e.buf) 256 = s.chip.bytes (Chip.idKey e.arg0 0) 256 ∧
          (nth (t.hwQ q).flight 0).status = some 0) ∧
        Touches (.idRead q (some 5)) s [.regs, .hw] (fun t => (nth (t.hwQ q).flight 0).status = some 9 ∧
          (nth (t.hwQ q).flight 0).info = 5)) ∧
      (s.chip.msgStands q = true → Touches (.msgDone (BitVec.ofNat 32 (0x00050000 + 256 * q.val + 0x80 + x.val))) s [.regs, .hw]
        (fun t => t.msgStands q = false ∧ (nth (t.hwQ q).flight 0).status = some (0x80 + x.val) ∧
          (nth (t.hwQ q).flight 0).done = 5)) ∧
      (∀ st ∈ e.status.toList, Touches (.descriptorComplete q) s [.regs, .mem, .log, .hw] (fun t =>
        (t.hwQ q).flight = (s.chip.hwQ q).flight.tail ∧
        t.load (Chip.bufAddr (s.chip.get (Reg.HW_CQ_CFG_base (s.chip.get (Reg.HW_SQ_CFG_cq q)))) +
          16 * s.chip.get (Reg.HW_CQ_STAT_tail (s.chip.get (Reg.HW_SQ_CFG_cq q)))) 2 = e.tag ∧
        t.load (Chip.bufAddr (s.chip.get (Reg.HW_CQ_CFG_base (s.chip.get (Reg.HW_SQ_CFG_cq q)))) +
          16 * s.chip.get (Reg.HW_CQ_STAT_tail (s.chip.get (Reg.HW_SQ_CFG_cq q))) + 2) 1 = st % 256 ∧
        (e.flags % 2 = 1 → 0 < e.nbuf → e.buf < 1024 → t.bufOwner e.buf = 0))) ∧
      (e.started = false → e.status = none → Touches (.queueAbort q) s [.regs, .hw, .chm] (fun t =>
        t.get (Reg.HW_SQ_CTL_abort q) = 1 ∧ t.get (Reg.HW_SQ_STAT_aborting q) = 1 ∧
        (t.hwQ q).flight = (s.chip.hwQ q).flight))) ∧
    (s.chip.msgStands q = false → Completes (.msgDone (BitVec.ofNat 32 (256 * q.val + x.val))) s [] [] (fun _ => True)) ∧
    Touches (.cqHeadWrite q d) s [.regs] (fun t => t.get (Reg.HW_CQ_HEAD_head q) = d.toNat % 256 ∧
      (d.toNat % 256 = s.chip.get (Reg.HW_CQ_STAT_tail q) → s.chip.get (Reg.HW_CQ_STAT_tail q) < s.chip.cqSize q →
        s.chip.on (Reg.HW_CQ_STAT_released q) = true → t.get (Reg.HW_CQ_STAT_released q) = 0)) ∧
    (s.chip.on (Reg.HW_CQ_CFG_host q) = true → 0 < s.chip.get (Reg.HW_CQ_STAT_unann q) →
      s.chip.on (Reg.HW_CQ_STAT_released q) = false →
      (s.chip.get (Reg.HW_CQ_MOD_time q) = 0 ∨ s.chip.now < nth s.chip.hw.annAt q + 200 * s.chip.get (Reg.HW_CQ_MOD_time q) →
        Completes (.cqModTimer q) s [] [] (fun _ => True)) ∧
      (s.chip.get (Reg.HW_CQ_MOD_time q) ≠ 0 → nth s.chip.hw.annAt q + 200 * s.chip.get (Reg.HW_CQ_MOD_time q) ≤ s.chip.now →
        Completes (.cqModTimer q) s [Reg.HW_CQ_STAT_released q,
          Reg.HW_CQ_STAT_unann q, Reg.HW_STAT_irq] [] (fun t => t.get (Reg.HW_CQ_STAT_released q) = 1 ∧
        t.get (Reg.HW_CQ_STAT_unann q) = 0 ∧
        (s.chip.cqPending q ≠ 0 → s.chip.on Reg.HW_STAT_sleep = false → t.get Reg.HW_STAT_irq = 1)))) ∧
    Touches (.hwIdleWrite d) s [.regs] (fun t => t.get Reg.HW_IDLE_idle = d.toNat % 2 ∧
      t.get Reg.HW_STAT_idle = d.toNat % 2 ∧
      (d.toNat % 2 = 1 → s.chip.on (Reg.HW_CQ_CFG_host q) = true → 0 < s.chip.get (Reg.HW_CQ_STAT_unann q) →
        s.chip.on (Reg.HW_CQ_STAT_released q) = false → t.get (Reg.HW_CQ_STAT_released q) = 1)) ∧
    (s.chip.on Reg.HW_STAT_sleep = false →
      Touches .hostSleepAssert s [.regs, .hw] (fun t => t.hw.sleepPin = true ∧ t.get Reg.HW_STAT_sleep = 1 ∧
        (s.chip.on (Reg.HW_CQ_CFG_host q) = true → s.chip.on (Reg.HW_CQ_CFG_wake q) = true →
          0 < s.chip.get (Reg.HW_CQ_STAT_unann q) → t.get Reg.HW_STAT_wake = 1) ∧ t.get Reg.HW_STAT_irq = 0) ∧
      Completes .hostSleepRelease s [] [.hw] (fun t => t.hw = { s.chip.hw with sleepPin := false })) ∧
    (s.chip.on Reg.HW_STAT_sleep = true →
      Completes .hostSleepAssert s [] [.hw] (fun t => t.hw = { s.chip.hw with sleepPin := true }) ∧
      Completes .hostSleepRelease s [Reg.HW_STAT_sleep, Reg.HW_STAT_wake, Reg.HW_HELD_held, Reg.HW_FLAGS_sleep_ev,
          Reg.HW_STAT_irq] [.hw] (fun t => t.get Reg.HW_STAT_sleep = 0 ∧ t.hw.sleepPin = false ∧ t.get Reg.HW_STAT_wake = 0 ∧
        t.get Reg.HW_HELD_held = 0 ∧ t.get Reg.HW_FLAGS_sleep_ev = 1))

/-- The controllers, in every state in which the control die runs. -/
def Obligations.CanControllers : Prop :=
  ∀ (s : State) (n m : Fin 4) (b : Fin 3) (d : Word) (idle : Bool), s.chip.pwr.dieReset = false → s.chip.Shaped →
    (s.chip.bus.resets.contains (.can n) = true →
      Completes (.canMode n m) s [] [.bus] (fun t =>
        t.bus.held = s.chip.bus.held ++ [⟨.host, 0x41600004 + 0x1000 * n.val, 4, m, 0⟩]) ∧
      Completes (.rxfPop n) s [] [.bus] (fun t => t.bus.posted = s.chip.bus.posted) ∧
      Completes (.hpTake n) s [] [.bus] (fun t => t.bus.posted = s.chip.bus.posted) ∧
      Completes (.txAbort n b) s [] [.bus] (fun t => t.bus.posted = s.chip.bus.posted) ∧
      Completes (.txRequest n b d false) s [] [.bus] (fun t => t.bus.posted = s.chip.bus.posted) ∧
      Completes (.boRec n) s [] [.bus] (fun t => t.bus.posted = s.chip.bus.posted)) ∧
    (s.chip.bus.resets.contains (.can n) = false → s.chip.canMode n = m → Completes (.canMode n m) s [] [] (fun _ => True)) ∧
    (s.chip.bus.resets.contains (.can n) = false → s.chip.canMode n ≠ m →
      (m = 0 → Touches (.canMode n m) s [.regs, .mem, .log, .can, .porch] (fun t => t.canMode n = 0 ∧
        t.get (Reg.CAN_STAT_integrating n) = 0 ∧ (t.canS n).cur = none ∧
        (s.chip.txPending n b = true → t.get (Reg.CAN_TXB_STAT_status n b) = 8 ∧
          hasBit (t.get (Reg.CAN_FLAGS_tx_fail n)) b = true))) ∧
      (s.chip.canMode n = 0 → Touches (.canMode n m) s [.regs, .mem, .log, .can, .porch] (fun t => t.canMode n = m ∧
        t.get (Reg.CAN_STAT_integrating n) = 1 ∧ (t.canS n).busFree = false)) ∧
      (s.chip.canMode n ≠ 0 → m ≠ 0 → Touches (.canMode n m) s [.regs, .mem, .log, .can, .porch] (fun t =>
        t.canMode n = m ∧ (s.chip.porchOn n = false → s.chip.txPending n b = true →
          ((s.chip.canS n).cur.map (·.1) ≠ some b.val → t.get (Reg.CAN_TXB_STAT_status n b) = 8) ∧
          ((s.chip.canS n).cur.map (·.1) = some b.val → (s.chip.canS n).endAs = 0 →
            t.get (Reg.CAN_TXB_STAT_status n b) = 1 ∧ (t.canS n).endAs = 8))))) ∧
    (s.chip.on (Reg.CAN_STAT_integrating n) = true → s.chip.canStopped = false → Touches (.canIntegrated n) s
      [.regs, .can, .porch] (fun t => t.get (Reg.CAN_STAT_integrating n) = 0 ∧ (t.canS n).busFree = true)) ∧
    (s.chip.on (Reg.CAN_STAT_integrating n) = false ∨ s.chip.canStopped = true →
      Completes (.canIntegrated n) s [] [] (fun _ => True)) ∧
    (∀ (f : CanFrame) (ago : Fin 1048576), frameWf f = true → s.chip.canJoined n = false ∨ s.chip.canMode n = 3 →
      Completes (.frameReceive n f ago) s [] [] (fun _ => True)) ∧
    (∀ (f : CanFrame) (ago : Fin 1048576), frameWf f = true → s.chip.canJoined n = true → s.chip.canMode n ≠ 3 →
      s.chip.porchOn n = false →
      (f.fdf = true → s.chip.on (Reg.CAN_CFG_fd_en n) = false → Completes (.frameReceive n f ago) s [Reg.CAN_STAT_lec n,
          Reg.CAN_STAT_lec_data n, Reg.CAN_STAT_rec n, Reg.CAN_STAT_conf n, Reg.CAN_FLAGS_passive_ev n] [.log, .can]
        (fun t => t.get (Reg.CAN_STAT_lec n) = 2 ∧ (t.canS n).fifo = (s.chip.canS n).fifo)) ∧
      (f.fdf = false ∨ s.chip.on (Reg.CAN_CFG_fd_en n) = true → Touches (.frameReceive n f ago) s [.regs, .free, .log, .can]
        (fun t => (s.chip.canMode n = 2 → t.get (Reg.CAN_STAT_rec n) = s.chip.get (Reg.CAN_STAT_rec n)) ∧
          (s.chip.canMode n ≠ 2 → s.chip.get (Reg.CAN_STAT_rec n) < 128 →
            t.get (Reg.CAN_STAT_rec n) = s.chip.get (Reg.CAN_STAT_rec n) - 1) ∧
          (s.chip.canMode n ≠ 2 → 128 ≤ s.chip.get (Reg.CAN_STAT_rec n) →
            119 ≤ t.get (Reg.CAN_STAT_rec n) ∧ t.get (Reg.CAN_STAT_rec n) ≤ 127)))) ∧
    (∀ (f : CanFrame) (ago : Fin 1048576), frameWf f = true → s.chip.canJoined n = true → s.chip.canMode n ≠ 3 →
      s.chip.porchOn n = false →
      (f.fdf = false ∨ s.chip.on (Reg.CAN_CFG_fd_en n) = true →
        ∀ act ∈ [((s.chip.filterOf n f).map fun i => s.chip.get (Reg.CAN_FLT_ID_action n i)).getD
          (if s.chip.on (Reg.CAN_CFG_nomatch n) then 1 else 3)],
        (act = 1 → (s.chip.canS n).fifo.length < 16 → Completes (.frameReceive n f ago) s [Reg.CAN_STAT_rec n,
            Reg.CAN_STAT_conf n, Reg.CAN_FLAGS_passive_ev n, Reg.CAN_RXF_STAT_count n, Reg.CAN_FLAGS_rx_ev n]
          [.free, .log, .can] (fun t => (t.canS n).fifo = (s.chip.canS n).fifo ++
              [⟨f, (s.chip.filterOf n f).getD 31, false, (s.chip.now + 2 ^ 32 - ago) % 2 ^ 32⟩] ∧
            t.get (Reg.CAN_RXF_STAT_count n) = (s.chip.canS n).fifo.length + 1 ∧ t.get (Reg.CAN_FLAGS_rx_ev n) = 1)) ∧
        (act = 1 → 16 ≤ (s.chip.canS n).fifo.length → Completes (.frameReceive n f ago) s [Reg.CAN_STAT_rec n,
            Reg.CAN_STAT_conf n, Reg.CAN_FLAGS_passive_ev n, Reg.CAN_RXF_STAT_lost n, Reg.CAN_FLAGS_rx_ovr n]
          [.free, .log, .can] (fun t => (t.canS n).fifo = (s.chip.canS n).fifo ∧
            t.get (Reg.CAN_RXF_STAT_lost n) = min 65535 (s.chip.get (Reg.CAN_RXF_STAT_lost n) + 1) ∧
            t.get (Reg.CAN_FLAGS_rx_ovr n) = 1)))) ∧
    (∀ (f : CanFrame) (ago : Fin 1048576), frameWf f = true → s.chip.canJoined n = true → s.chip.canMode n ≠ 3 →
      s.chip.porchOn n = false →
      (f.fdf = false ∨ s.chip.on (Reg.CAN_CFG_fd_en n) = true →
        ∀ act ∈ [((s.chip.filterOf n f).map fun i => s.chip.get (Reg.CAN_FLT_ID_action n i)).getD
          (if s.chip.on (Reg.CAN_CFG_nomatch n) then 1 else 3)],
        (act = 2 → Completes (.frameReceive n f ago) s [Reg.CAN_STAT_rec n, Reg.CAN_STAT_conf n, Reg.CAN_FLAGS_passive_ev n,
            Reg.CAN_HP_STAT_new n, Reg.CAN_HP_STAT_ovr n, Reg.CAN_FLAGS_hp_ovr n] [.free, .log, .can] (fun t =>
          (t.canS n).held = some ⟨f, (s.chip.filterOf n f).getD 31, true, (s.chip.now + 2 ^ 32 - ago) % 2 ^ 32⟩ ∧
          t.get (Reg.CAN_HP_STAT_new n) = 1 ∧ (t.canS n).window = (s.chip.canS n).window ∧
          (s.chip.on (Reg.CAN_HP_STAT_new n) = true →
            t.get (Reg.CAN_HP_STAT_ovr n) = min 65535 (s.chip.get (Reg.CAN_HP_STAT_ovr n) + 1) ∧
            t.get (Reg.CAN_FLAGS_hp_ovr n) = 1))) ∧
        (act = 3 → Completes (.frameReceive n f ago) s [Reg.CAN_STAT_rec n, Reg.CAN_STAT_conf n, Reg.CAN_FLAGS_passive_ev n]
          [.free, .log, .can] (fun t => (t.canS n).fifo = (s.chip.canS n).fifo ∧ (t.canS n).held = (s.chip.canS n).held)))) ∧
    (s.chip.bus.resets.contains (.can n) = false → (s.chip.canS n).fifo.length ≤ 16 → Completes (.rxfPop n) s [Reg.CAN_RXF_STAT_count n] [.can] (fun t =>
      (t.canS n).fifo = (s.chip.canS n).fifo.tail ∧ t.get (Reg.CAN_RXF_STAT_count n) = (s.chip.canS n).fifo.length - 1)) ∧
    (s.chip.bus.resets.contains (.can n) = false → Completes (.hpTake n) s [Reg.CAN_HP_STAT_new n] [.can] (fun t =>
      t.get (Reg.CAN_HP_STAT_new n) = 0 ∧
      (∀ x ∈ (s.chip.canS n).held.toList, (t.canS n).window = some x) ∧ (t.canS n).fifo = (s.chip.canS n).fifo)) ∧
    (s.chip.bus.resets.contains (.can n) = false → s.chip.porchOn n = true → b ≠ 2 →
      Completes (.txRequest n b d idle) s [Reg.CAN_FLAGS_txw_ign n] [.can] (fun t => t.get (Reg.CAN_FLAGS_txw_ign n) = 1) ∧
      Completes (.txAbort n b) s [Reg.CAN_FLAGS_txw_ign n] [] (fun t => t.get (Reg.CAN_FLAGS_txw_ign n) = 1)) ∧
    (s.chip.bus.resets.contains (.can n) = false → s.chip.porchOn n = false ∨ b = 2 →
      (s.chip.txPending n b = false → Completes (.txRequest n b d idle) s [Reg.CAN_TXB_CMD_sa_ins n b,
          Reg.CAN_TXB_CMD_once n b, Reg.CAN_TXB_CMD_req n b, Reg.CAN_TXB_STAT_status n b, Reg.CAN_FLAGS_tx_fail n]
          [.log, .can] (fun t => t.get (Reg.CAN_TXB_CMD_once n b) = bitOf d.toNat 2 ∧
        (hasBit d.toNat 1 = true ∨ (s.chip.canS n).aborts.1 = s.chip.now ∧ b.val ∈ (s.chip.canS n).aborts.2 →
          t.get (Reg.CAN_TXB_STAT_status n b) = 3 ∧ t.get (Reg.CAN_TXB_CMD_req n b) = 0) ∧
        (hasBit d.toNat 1 = false → (s.chip.canS n).aborts.1 ≠ s.chip.now ∨ b.val ∉ (s.chip.canS n).aborts.2 →
          ∀ bad ∈ [(!s.chip.on (Reg.CAN_CFG_fd_en n) && (hasBit (s.chip.recWordOf n b 1) 4 || decide (8 < s.chip.recWordOf n b 1 % 16)))
              || (hasBit (s.chip.recWordOf n b 1) 5 && !s.chip.on (Reg.CAN_CFG_brs_en n))
              || s.chip.canMode n == 0 || s.chip.canMode n == 2
              || (s.chip.porchOn n && hasBit (s.chip.recWordOf n b 0) 29 && s.chip.portState n != 2)],
            (bad = true → t.get (Reg.CAN_TXB_STAT_status n b) = 9 ∧ hasBit (t.get (Reg.CAN_FLAGS_tx_fail n)) b = true ∧
              (s.chip.get (Reg.CAN_FLAGS_tx_fail n) = 0 → t.log.seq = (s.chip.log.seq + 1) % 65536)) ∧
            (bad = false → t.get (Reg.CAN_TXB_STAT_status n b) = 1 ∧ t.get (Reg.CAN_TXB_CMD_req n b) = 1 ∧
              t.log = s.chip.log)))) ∧
      (s.chip.txPending n b = true → hasBit d.toNat 1 = false → Completes (.txRequest n b d idle) s
          [Reg.CAN_TXB_CMD_sa_ins n b, Reg.CAN_TXB_CMD_once n b, Reg.CAN_FLAGS_txw_ign n] [.can] (fun t =>
        t.get (Reg.CAN_FLAGS_txw_ign n) = 1)) ∧
      (s.chip.txPending n b = true → (s.chip.canS n).cur.map (·.1) ≠ some b.val → Completes (.txAbort n b) s
          [Reg.CAN_TXB_CMD_req n b, Reg.CAN_TXB_STAT_status n b, Reg.CAN_FLAGS_tx_fail n, Reg.CAN_TXB_CMD_sa_ins n b] [.log, .can]
        (fun t => t.get (Reg.CAN_TXB_STAT_status n b) = 3 ∧ t.canS n = s.chip.canS n)) ∧
      (s.chip.txPending n b = true → (s.chip.canS n).cur.map (·.1) = some b.val → Completes (.txAbort n b) s
          [Reg.CAN_TXB_CMD_sa_ins n b] [.can] (fun t => (t.canS n).endAs = 3 ∧ (t.canS n).cur = (s.chip.canS n).cur)) ∧
      (s.chip.txPending n b = false → Completes (.txAbort n b) s [Reg.CAN_TXB_CMD_sa_ins n b] [.can] (fun t =>
        (t.canS n).aborts.1 = s.chip.now ∧ b.val ∈ (t.canS n).aborts.2 ∧ (t.canS n).cur = (s.chip.canS n).cur))) ∧
    (∀ (e : CanError) (lp : Fin 256), (s.chip.canS n).cur = none → Completes (.txEnd n (.acked lp)) s [] [] (fun _ => True) ∧
      Completes (.txEnd n .lost) s [] [] (fun _ => True) ∧ Completes (.txEnd n (.error e)) s [] [] (fun _ => True)) ∧
    (∀ lp : Fin 256, ∀ c ∈ (s.chip.canS n).cur.toList, c.1 < 3 → s.chip.porchOn n = false →
      ((s.chip.canS n).endAs = 0 → s.chip.on (Reg.CAN_TXB_CMD_once n c.1) = false → Completes (.txEnd n .lost) s [] [.can]
        (fun t => (t.canS n).cur = none)) ∧
      ((s.chip.canS n).endAs = 0 → s.chip.on (Reg.CAN_TXB_CMD_once n c.1) = true → Completes (.txEnd n .lost) s
        [Reg.CAN_TXB_STAT_status n c.1, Reg.CAN_TXB_CMD_req n c.1, Reg.CAN_FLAGS_tx_fail n] [.log, .can] (fun t =>
          t.get (Reg.CAN_TXB_STAT_status n c.1) = 6)) ∧
      (s.chip.canMode n ≠ 3 → Completes (.txEnd n (.acked lp)) s [Reg.CAN_TXB_STAT_status n c.1, Reg.CAN_TXB_CMD_req n c.1,
          Reg.CAN_TXB_TS_tstamp n c.1, Reg.CAN_FLAGS_tx_done n, Reg.CAN_STAT_tec n, Reg.CAN_STAT_conf n,
          Reg.CAN_FLAGS_passive_ev n, Reg.CAN_STAT_ack_run n, Reg.CAN_STAT_alone n, Reg.CAN_TDC_measured n,
          Reg.PORCH_P_STAT_backoff n] [.log, .can, .porch] (fun t => (t.canS n).cur = none ∧
        t.get (Reg.CAN_TXB_STAT_status n c.1) = 2 ∧ hasBit (t.get (Reg.CAN_FLAGS_tx_done n)) c.1 = true ∧
        t.get (Reg.CAN_TXB_TS_tstamp n c.1) = c.2 % 2 ^ 32 ∧ t.get (Reg.CAN_STAT_ack_run n) = 0 ∧
        t.get (Reg.CAN_STAT_alone n) = 0 ∧ t.get (Reg.CAN_STAT_tec n) = s.chip.get (Reg.CAN_STAT_tec n) - 1))) ∧
    (∀ e : CanError, s.chip.canJoined n = false → Completes (.busError n e) s [] [] (fun _ => True)) ∧
    (∀ e : CanError, s.chip.canJoined n = true →
      (s.chip.canMode n = 2 → e.tx = false → Completes (.busError n e) s [Reg.CAN_STAT_lec n, Reg.CAN_STAT_lec_data n] [.can] (fun t =>
        t.get (Reg.CAN_STAT_lec n) = e.kind ∧ t.get (Reg.CAN_STAT_lec_data n) = b2n e.data)) ∧
      (s.chip.canMode n ≠ 2 → e.tx = false ∨ (s.chip.canS n).cur = none → Completes (.busError n e) s [Reg.CAN_STAT_lec n,
          Reg.CAN_STAT_lec_data n, Reg.CAN_STAT_rec n, Reg.CAN_STAT_conf n, Reg.CAN_FLAGS_passive_ev n] [.log, .can] (fun t =>
        t.get (Reg.CAN_STAT_lec n) = e.kind ∧ (e.eights = 0 → e.exempt = false →
          t.get (Reg.CAN_STAT_rec n) = min 255 (s.chip.get (Reg.CAN_STAT_rec n) + 1) ∧
          (127 ≤ s.chip.get (Reg.CAN_STAT_rec n) → t.get (Reg.CAN_STAT_conf n) = 1)))) ∧
      (s.chip.canMode n ≠ 2 → e.tx = true → e.eights = 0 → e.exempt = false → e.kind ≠ 3 → (s.chip.canS n).cur.isSome = true →
        Touches (.busError n e) s [.regs, .mem, .log, .can, .porch] (fun t => t.get (Reg.CAN_STAT_lec n) = e.kind ∧
          (s.chip.get (Reg.CAN_STAT_tec n) < 248 →
            t.get (Reg.CAN_STAT_tec n) = s.chip.get (Reg.CAN_STAT_tec n) + 8 ∧ (t.canS n).cur = none ∧
            (120 ≤ s.chip.get (Reg.CAN_STAT_tec n) → t.get (Reg.CAN_STAT_conf n) = 1)) ∧
          (248 ≤ s.chip.get (Reg.CAN_STAT_tec n) → t.get (Reg.CAN_STAT_conf n) = 2 ∧
            t.get (Reg.CAN_FLAGS_busoff_ev n) = 1 ∧
            (s.chip.txPending n b = true → t.get (Reg.CAN_TXB_STAT_status n b) = 4) ∧
            (t.canS n).recov = s.chip.on (Reg.CAN_CFG_bo_auto n)))) ∧
      (s.chip.canMode n = 1 → e.tx = true → e.eights = 0 → e.kind = 3 → (s.chip.canS n).cur.isSome = true →
        s.chip.get (Reg.CAN_STAT_conf n) = 1 → 128 ≤ s.chip.get (Reg.CAN_STAT_tec n) → s.chip.get (Reg.CAN_STAT_tec n) < 256 →
        Touches (.busError n e) s [.regs, .mem, .log, .can, .porch] (fun t =>
          t.get (Reg.CAN_STAT_tec n) = s.chip.get (Reg.CAN_STAT_tec n) ∧
          t.get (Reg.CAN_STAT_ack_run n) = min 127 (s.chip.get (Reg.CAN_STAT_ack_run n) + 1) ∧
          (s.chip.get (Reg.CAN_CFG_ack_lim n) = min 127 (s.chip.get (Reg.CAN_STAT_ack_run n) + 1) →
            t.get (Reg.CAN_STAT_alone n) = 1 ∧ t.get (Reg.CAN_FLAGS_alone_ev n) = 1)))) ∧
    (s.chip.bus.resets.contains (.can n) = false → s.chip.get (Reg.CAN_STAT_conf n) = 2 → Completes (.boRec n) s [] [.can] (fun t => (t.canS n).recov = true ∧
      (t.canS n).cur = (s.chip.canS n).cur)) ∧
    (s.chip.bus.resets.contains (.can n) = false → s.chip.get (Reg.CAN_STAT_conf n) ≠ 2 → Completes (.boRec n) s [] [] (fun _ => True)) ∧
    (s.chip.get (Reg.CAN_STAT_conf n) = 2 → (s.chip.canS n).recov = true → Touches (.busOffEnd n) s [.regs, .can, .porch]
      (fun t => t.get (Reg.CAN_STAT_conf n) = 0 ∧ t.get (Reg.CAN_STAT_tec n) = 0 ∧ t.get (Reg.CAN_STAT_rec n) = 0 ∧
        (s.chip.porchOn n = true → t.portState n = 1 ∧ t.portAddr n = s.chip.get (Reg.PORCH_P_CFG_pref_addr n)))) ∧
    (s.chip.get (Reg.CAN_STAT_conf n) ≠ 2 ∨ (s.chip.canS n).recov = false →
      Completes (.busOffEnd n) s [] [] (fun _ => True))

/-- Porch's ports, sessions and messages, in every state in which the control die runs. -/
def Obligations.PorchServices : Prop :=
  ∀ (s : State) (n : Fin 4) (sa : Byte) (l : Vector Byte 8) (d : Word), s.chip.pwr.dieReset = false → s.chip.Shaped →
    s.chip.porch.ses.length = 16 → s.chip.porch.port.length = 4 →
    (s.chip.porchOn n = false →
      Completes (.addressClaim n) s [] [] (fun _ => True) ∧ Completes (.cannotClaimSend n) s [] [] (fun _ => True) ∧
      Completes (.statusMessage n (hasBit d.toNat 0)) s [] [] (fun _ => True) ∧
      Completes (.aloneProbe n) s [] [] (fun _ => True) ∧ Completes (.cmdLost n) s [] [] (fun _ => True)) ∧
    (s.chip.porchOn n = true → Touches (.addressClaim n) s [.regs, .can, .porch] (fun t => t.portState n = 1 ∧
      t.portAddr n = s.chip.get (Reg.PORCH_P_CFG_pref_addr n) ∧ (t.portS n).losing = false ∧
      (s.chip.canSends n = true → (s.chip.portS n).claims = [] → s.chip.txPending n 0 = false →
        t.recWordOf n 0 0 = 0x38EEFF00 + s.chip.get (Reg.PORCH_P_CFG_pref_addr n) ∧ t.recWordOf n 0 1 = 8 ∧
        t.recWordOf n 0 3 = s.chip.get (Reg.PORCH_P_NAME_LO_name n) ∧
        t.recWordOf n 0 4 = s.chip.get (Reg.PORCH_P_NAME_HI_name n) ∧ t.txPending n 0 = true))) ∧
    (s.chip.portState n = 1 → (s.chip.portS n).claimSent = true →
      (s.chip.portS n).claimTick + 50000000 ≤ s.chip.now → Touches (.claimSettled n) s [.regs, .can, .porch] (fun t =>
        t.portState n = 2 ∧ t.portAddr n = s.chip.portAddr n ∧ t.get Reg.PORCH_FLAGS_addr_ev = 1)) ∧
    (s.chip.portState n ≠ 1 ∨ (s.chip.portS n).claimSent = false ∨ s.chip.now < (s.chip.portS n).claimTick + 50000000 →
      Completes (.claimSettled n) s [] [] (fun _ => True)) ∧
    (s.chip.canJoined n = false → ∀ (name : BitVec 64) (etp : Bool) (pgn : Fin 262144),
      Completes (.addressClaimedRx n sa name) s [] [] (fun _ => True) ∧
      Completes (.requestRx n sa sa pgn) s [] [] (fun _ => True) ∧ Completes (.tpCmRx n etp sa sa l) s [] [] (fun _ => True) ∧
      Completes (.tpDtRx n etp sa sa l) s [] [] (fun _ => True) ∧
      Completes (.checkedMessageRx n sa l) s [] [] (fun _ => True)) ∧
    (s.chip.canJoined n = true → s.chip.canMode n ≠ 3 → s.chip.porchOn n = true → ∀ name : BitVec 64,
      (sa.toNat ≠ s.chip.portAddr n → name.toNat ≠ s.chip.portName n → Touches (.addressClaimedRx n sa name) s
        [.regs, .mem, .free, .log, .can, .porch] (fun t => t.portState n = s.chip.portState n ∧
          t.portAddr n = s.chip.portAddr n ∧ sa.toNat ∈ (t.portS n).taken)) ∧
      (sa.toNat = s.chip.portAddr n → s.chip.portState n = 1 ∨ s.chip.portState n = 2 →
        (s.chip.portName n < name.toNat → Touches (.addressClaimedRx n sa name) s [.regs, .mem, .free, .log, .can, .porch]
          (fun t => t.portState n = s.chip.portState n ∧ t.portAddr n = s.chip.portAddr n ∧ (t.portS n).claimSent = false ∧
            t.log.seq ≠ s.chip.log.seq)) ∧
        (name.toNat ≤ s.chip.portName n → hasBit (s.chip.portName n) 63 = false → Touches (.addressClaimedRx n sa name) s
          [.regs, .mem, .free, .log, .can, .porch] (fun t => (t.portS n).losing = true ∧ t.portState n = 3 ∧ t.portAddr n = 0xFE ∧
            s.chip.now ≤ (t.portS n).loseAt ∧ (t.portS n).loseAt ≤ s.chip.now + 120000 * 255 ∧
            ∀ x : Fin 16, s.chip.sesRuns x = true → s.chip.sesPort x = n →
              t.get (Reg.PORCH_SES_STAT_state x) = 3 ∧ t.get (Reg.PORCH_SES_STAT_reason x) = 0xF4)) ∧
        (name.toNat ≤ s.chip.portName n → hasBit (s.chip.portName n) 63 = true →
          ∀ x ∈ (((List.range 120).map (· + 128)).find? fun x => !(sa.toNat :: (s.chip.portS n).taken).contains x).toList,
          Touches (.addressClaimedRx n sa name) s [.regs, .mem, .free, .log, .can, .porch] (fun t => t.portState n = 1 ∧
            t.portAddr n = x)))) ∧
    (s.chip.porchOn n = true → (s.chip.portS n).losing = true → (s.chip.portS n).loseAt ≤ s.chip.now →
      (s.chip.canSends n = false → Completes (.cannotClaimSend n) s [] [.porch] (fun t => (t.portS n).losing = false ∧
        (t.portS n).claims = (s.chip.portS n).claims ++
          [{ kind := .cannot, prio := 6, pgn := 0xEE00, dest := 255, data := leBytes 8 (s.chip.portName n) }])) ∧
      (s.chip.canSends n = true → s.chip.txPending n 0 = false → (s.chip.portS n).claims = [] →
        Touches (.cannotClaimSend n) s [.regs, .can, .porch] (fun t => (t.portS n).losing = false ∧
          t.recWordOf n 0 0 = 0x38EEFFFE ∧ t.recWordOf n 0 1 = 8 ∧ t.txPending n 0 = true ∧
          t.recWordOf n 0 3 = s.chip.get (Reg.PORCH_P_NAME_LO_name n) ∧
          t.recWordOf n 0 4 = s.chip.get (Reg.PORCH_P_NAME_HI_name n)))) ∧
    ((s.chip.portS n).losing = false ∨ s.chip.now < (s.chip.portS n).loseAt →
      Completes (.cannotClaimSend n) s [] [] (fun _ => True)) ∧
    (∀ name : BitVec 64, (s.chip.porchOn n = true → s.chip.on (Reg.PORCH_P_CFG_cmd_addr n) = true →
        name.toNat = s.chip.portName n → Touches (.commandedAddress n name sa) s [.regs, .log, .can, .porch] (fun t =>
          t.portState n = 1 ∧ t.portAddr n = sa.toNat ∧ t.log.seq = (s.chip.log.seq + 1) % 65536)) ∧
      (s.chip.porchOn n = false ∨ s.chip.on (Reg.PORCH_P_CFG_cmd_addr n) = false ∨ name.toNat ≠ s.chip.portName n →
        Completes (.commandedAddress n name sa) s [] [] (fun _ => True))) ∧
    (s.chip.canJoined n = true → s.chip.canMode n ≠ 3 → s.chip.porchOn n = true → s.chip.portState n = 2 →
      s.chip.portAddr n < 254 → ∀ dest ∈ [BitVec.ofNat 8 (s.chip.portAddr n)], ∀ pgn : Fin 262144,
      (Touches (.requestRx n sa dest 0xEE00) s [.regs, .mem, .free, .log, .can, .porch]
        (fun t => (t.portS n).claimSent = false ∧ t.portState n = 2)) ∧
      (s.chip.get Reg.PORCH_CFG_ge_base ≤ 251 → (s.chip.portS n).counts.length = 5 →
        Touches (.requestRx n sa dest (Fin.ofNat _ (0xFF04 + s.chip.get Reg.PORCH_CFG_ge_base))) s
        [.regs, .mem, .free, .log, .can, .porch] (fun t =>
          (t.portS n).counts.getD 4 0 = ((s.chip.portS n).counts.getD 4 0 + 1) % 16)) ∧
      (pgn.val < 0xEE00 → s.chip.on (Reg.PORCH_P_CFG_req_sw n) = true → s.chip.on Reg.PORCH_REQ_valid = false →
        Touches (.requestRx n sa dest pgn) s [.regs, .mem, .free, .log, .can, .porch] (fun t =>
          t.get Reg.PORCH_REQ_valid = 1 ∧ t.get Reg.PORCH_REQ_sa = sa.toNat ∧ t.get Reg.PORCH_REQ_port = n ∧
          t.get Reg.PORCH_REQ_pgn = pgn ∧ t.get Reg.PORCH_FLAGS_req = 1 ∧ t.porch.reqGlobal = false)) ∧
      (pgn.val < 0xEE00 → s.chip.on (Reg.PORCH_P_CFG_req_sw n) = false ∨ s.chip.on Reg.PORCH_REQ_valid = true →
        s.chip.txPending n 1 = true → Touches (.requestRx n sa dest pgn) s [.regs, .mem, .free, .log, .can, .porch] (fun t =>
          (t.portS n).out = (s.chip.portS n).out ++ [{ kind := .other, prio := 6, pgn := 0xE800, dest := 255, data :=
            [(if s.chip.on (Reg.PORCH_P_CFG_req_sw n) = true then 3 else 1), 0xFF, 0xFF, 0xFF, sa] ++ leBytes 3 pgn }]))) ∧
    (s.chip.on Reg.PORCH_REQ_valid = true →
        s.chip.porch.reqAt + 2000000 * max 1 (s.chip.get Reg.PORCH_CFG_req_to) ≤ s.chip.now →
      Touches .reqTimeout s [.regs, .log, .can, .porch] (fun t => t.get Reg.PORCH_REQ_valid = 0 ∧
        t.log.seq = (s.chip.log.seq + 1) % 65536)) ∧
    (s.chip.on Reg.PORCH_REQ_valid = false ∨
        s.chip.now < s.chip.porch.reqAt + 2000000 * max 1 (s.chip.get Reg.PORCH_CFG_req_to) →
      Completes .reqTimeout s [] [] (fun _ => True)) ∧
    (s.chip.on Reg.PORCH_REQ_valid = true →
      (d.toNat % 4 = 1 → Completes (.reqAnswer d) s [Reg.PORCH_REQ_valid] [] (fun t => t.get Reg.PORCH_REQ_valid = 0)) ∧
      (d.toNat % 4 = 2 → s.chip.txPending (s.chip.get Reg.PORCH_REQ_port) 1 = true → Touches (.reqAnswer d) s
        [.regs, .can, .porch] (fun t => t.get Reg.PORCH_REQ_valid = 0 ∧ (t.portS (s.chip.get Reg.PORCH_REQ_port)).out.length =
          (s.chip.portS (s.chip.get Reg.PORCH_REQ_port)).out.length + 1))) ∧
    (s.chip.on Reg.PORCH_REQ_valid = false ∨ d.toNat % 4 = 0 ∨ d.toNat % 4 = 3 →
      Completes (.reqAnswer d) s [] [] (fun _ => True)) ∧
    (∀ x : Fin 8, hasBit d.toNat 1 = false → hasBit d.toNat 3 = false → s.chip.sesRuns x = false →
      (part d.toNat 12 20 < 9 ∨ 1785 < part d.toNat 12 20 ∨ s.chip.bufOwner (s.chip.get Reg.PORCH_POOL_base + 7 * x) = 0 →
        Touches (.tpSendStart x d) s [.regs, .mem, .log, .can, .porch] (fun t => t.get (Reg.PORCH_SES_STAT_state x) = 3 ∧
          t.get (Reg.PORCH_SES_STAT_reason x) = 0xF0 ∧ t.get (Reg.PORCH_SES_CTL_start x) = 0 ∧
          t.get Reg.PORCH_FLAGS_ses_end = 1 ∧ t.log.seq = (s.chip.log.seq + 1) % 65536)) ∧
      (9 ≤ part d.toNat 12 20 → part d.toNat 12 20 ≤ 1785 → s.chip.on Reg.PORCH_POOL_en = true →
        (∀ i : Fin 7, s.chip.bufOwner (s.chip.get Reg.PORCH_POOL_base + 7 * x + i) = 1) →
        (s.chip.porchOn (part d.toNat 4 2) = false → Touches (.tpSendStart x d) s [.regs, .mem, .log, .can, .porch] (fun t =>
          t.get (Reg.PORCH_SES_STAT_state x) = 3 ∧ t.get (Reg.PORCH_SES_STAT_reason x) = 0xF4)) ∧
        (s.chip.porchOn (part d.toNat 4 2) = true → s.chip.portState (part d.toNat 4 2) = 2 →
          Touches (.tpSendStart x d) s [.regs, .mem, .log, .can, .porch] (fun t => t.sesRuns x = true ∧
            t.get (Reg.PORCH_SES_CTL_start x) = 1 ∧ t.sesLen x = part d.toNat 12 20 ∧
            t.sesPeer x = s.chip.get (Reg.PORCH_SES_PGN_dest x) ∧
            (t.sesS x).bam = (s.chip.get (Reg.PORCH_SES_PGN_dest x) == 255) ∧ (t.sesS x).next = 1)))) ∧
    (∀ x : Fin 8, hasBit d.toNat 1 = false → s.chip.sesRuns x = true → Completes (.tpSendStart x d) s
      [Reg.PORCH_SES_CTL_len x, Reg.PORCH_SES_CTL_port x, Reg.PORCH_SES_CTL_etp x, Reg.PORCH_SES_CTL_ret x] []
      (fun t => t.sesLen x = part d.toNat 12 20)) ∧
    (s.chip.canJoined n = true → s.chip.canMode n ≠ 3 → s.chip.porchOn n = true → s.chip.portState n = 2 →
      s.chip.portAddr n < 254 → ∀ dest ∈ [BitVec.ofNat 8 (s.chip.portAddr n)], ∀ pk : Byte, ∀ len : Fin 1786, 9 ≤ len.val →
      (s.chip.sesFind Chip.recvSlots n sa.toNat false false = none → s.chip.sesFind Chip.recvSlots n sa.toNat true false = none →
        ∀ x ∈ s.chip.rxFree.toList,
        Touches (.tpCmRx n false sa dest #v[16, BitVec.ofNat 8 len.val, BitVec.ofNat 8 (len.val / 256), 0, pk, 1, 2, 0]) s
          [.regs, .mem, .free, .log, .can, .porch] (fun t => t.sesRuns x = true ∧ t.sesLen x = len ∧ t.sesPgn x = 0x201 ∧
            t.sesPeer x = sa.toNat ∧ t.sesPort x = n ∧ (t.sesS x).max = min 16 (max 1 pk.toNat))) ∧
      (s.chip.rxFree = none → Touches (.tpCmRx n false sa 255
        #v[32, BitVec.ofNat 8 len.val, BitVec.ofNat 8 (len.val / 256), 0, 0xFF, 1, 2, 0]) s
        [.regs, .mem, .free, .log, .can, .porch] (fun t =>
          t.get Reg.PORCH_STAT_bam_lost = min 65535 (s.chip.get Reg.PORCH_STAT_bam_lost + 1)))) ∧
    (s.chip.canJoined n = true → s.chip.canMode n ≠ 3 → s.chip.porchOn n = true → s.chip.portState n = 2 →
      s.chip.portAddr n < 254 → ∀ dest ∈ [BitVec.ofNat 8 (s.chip.portAddr n)],
      (∀ x ∈ (s.chip.sesFind Chip.sendSlots n sa.toNat false false).toList, ∀ pgn ∈ [s.chip.sesPgn x],
        Touches (.tpCmRx n false sa dest #v[255, l.toList.getD 1 0, 0xFF, 0xFF, 0xFF, BitVec.ofNat 8 pgn, BitVec.ofNat 8 (pgn / 256),
            BitVec.ofNat 8 (pgn / 65536)]) s [.regs, .mem, .free, .log, .can, .porch] (fun t =>
          t.get (Reg.PORCH_SES_STAT_state x) = 3 ∧ t.get (Reg.PORCH_SES_STAT_reason x) = (l.toList.getD 1 0).toNat) ∧
        (s.chip.sesPackets x < (s.chip.sesS x).next →
          Touches (.tpCmRx n false sa dest #v[19, l.toList.getD 1 0, l.toList.getD 2 0, l.toList.getD 3 0, 0xFF, BitVec.ofNat 8 pgn,
            BitVec.ofNat 8 (pgn / 256),
            BitVec.ofNat 8 (pgn / 65536)]) s [.regs, .mem, .free, .log, .can, .porch] (fun t =>
          t.get (Reg.PORCH_SES_STAT_state x) = 2 ∧ t.get (Reg.PORCH_SES_STAT_reason x) = 0))) ∧
      (∀ x ∈ (s.chip.sesFind Chip.recvSlots n sa.toNat false false).toList, (s.chip.sesS x).next < s.chip.sesPackets x →
        (s.chip.sesS x).next = (l.toList.getD 0 0).toNat →
        (s.chip.sesS x).winEnd ≠ (l.toList.getD 0 0).toNat → 1 ≤ (l.toList.getD 0 0).toNat → s.chip.sesBuf x ≤ 1000 →
        Touches (.tpDtRx n false sa dest l) s [.regs, .mem, .free, .log, .can, .porch] (fun t =>
          (t.sesS x).next = (l.toList.getD 0 0).toNat + 1 ∧ t.sesRuns x = true ∧
          t.bytes (Chip.bufAddr (s.chip.sesBuf x) + 7 * ((l.toList.getD 0 0).toNat - 1)) 7 = l.toList.tail)) ∧
      (∀ x ∈ (s.chip.sesFind Chip.recvSlots n sa.toNat false false).toList, s.chip.sesPackets x = (l.toList.getD 0 0).toNat →
        (s.chip.sesS x).next = (l.toList.getD 0 0).toNat → s.chip.sesPgn x ≠ 0xFED8 →
        Touches (.tpDtRx n false sa dest l) s [.regs, .mem, .free, .log, .can, .porch] (fun t =>
          t.get (Reg.PORCH_SES_STAT_state x) = 2 ∧ t.get (Reg.PORCH_SES_STAT_reason x) = 0 ∧
          t.get Reg.PORCH_FLAGS_ses_end = 1))) ∧
    (∀ x : Fin 8, (s.chip.sesRuns x = true → (s.chip.sesS x).bam = true → (s.chip.sesS x).timer = 5 →
        s.chip.timerPast x = true → Touches (.bamGap x) s [.regs, .can, .porch] (fun t =>
          (t.sesS x).next = (s.chip.sesS x).next + 1)) ∧
      (s.chip.sesRuns x = false ∨ (s.chip.sesS x).bam = false ∨ (s.chip.sesS x).timer ≠ 5 ∨ s.chip.timerPast x = false → Completes (.bamGap x) s [] [] (fun _ => True)) ∧
      (s.chip.sesRuns x = true → Touches (.tpCancel x) s [.regs, .mem, .log, .can, .porch] (fun t =>
        t.get (Reg.PORCH_SES_STAT_state x) = 3 ∧ t.get (Reg.PORCH_SES_STAT_reason x) = 0xF5)) ∧
      (s.chip.sesRuns x = false → Completes (.tpCancel x) s [] [] (fun _ => True))) ∧
    (∀ x : Fin 16, (s.chip.sesRuns x = true → 1 ≤ (s.chip.sesS x).timer → (s.chip.sesS x).timer ≤ 4 →
        s.chip.timerPast x = true → Touches (.tpTimeout x) s [.regs, .mem, .log, .can, .porch] (fun t =>
          t.get (Reg.PORCH_SES_STAT_state x) = 3 ∧ t.get (Reg.PORCH_SES_STAT_reason x) = 0xF1 ∧
          t.log.seq = (s.chip.log.seq + 1) % 65536)) ∧
      (s.chip.sesRuns x = false ∨ (s.chip.sesS x).timer = 0 ∨ 5 ≤ (s.chip.sesS x).timer ∨ s.chip.timerPast x = false →
        Completes (.tpTimeout x) s [] [] (fun _ => True)) ∧
      (8 ≤ x.val → 2 ≤ s.chip.get (Reg.PORCH_SES_STAT_state x) → Completes (.tpRelease x) s [Reg.PORCH_SES_STAT_state x] []
        (fun t => t.get (Reg.PORCH_SES_STAT_state x) = 0)) ∧
      (x.val < 8 ∨ s.chip.get (Reg.PORCH_SES_STAT_state x) < 2 → Completes (.tpRelease x) s [] [] (fun _ => True))) ∧
    (hasBit d.toNat 31 = true → 1024 < d.toNat % 1024 + 112 ∨
        (∃ o ∈ s.chip.ringsOn, d.toNat % 1024 < o.1 + o.2 ∧ o.1 < d.toNat % 1024 + 112) →
      Completes (.porchPoolWrite d) s [Reg.PORCH_FLAGS_pool_bad] [] (fun t => t.get Reg.PORCH_FLAGS_pool_bad = 1)) ∧
    (hasBit d.toNat 31 = false ∨ s.chip.ringsOn = [] ∧ d.toNat % 1024 + 112 ≤ 1024 →
      Completes (.porchPoolWrite d) s [Reg.PORCH_POOL_en, Reg.PORCH_POOL_base] [] (fun t =>
        t.get Reg.PORCH_POOL_en = bitOf d.toNat 31 ∧ t.get Reg.PORCH_POOL_base = d.toNat % 1024)) ∧
    (s.chip.porchOn n = true → s.chip.portState n = 2 → (s.chip.portS n).counts.length = 5 →
      (s.chip.on (Reg.CAN_STAT_alone n) = false →
        (s.chip.peakByte ≠ (s.chip.portS n).lastPeak → Touches (.statusMessage n true) s [.regs, .free, .can, .porch] (fun t =>
          (t.portS n).counts.getD 4 0 = ((s.chip.portS n).counts.getD 4 0 + 1) % 16 ∧
          (t.portS n).lastPeak = s.chip.peakByte)) ∧
        (s.chip.get (Reg.PORCH_P_CFG_per n) ≠ 0 →
          (s.chip.portS n).statAt + 200000 * s.chip.get (Reg.PORCH_P_CFG_per n) ≤ s.chip.now →
          Touches (.statusMessage n false) s [.regs, .free, .can, .porch] (fun t => (t.portS n).statAt = s.chip.now ∧
            ∀ i ∈ s.chip.statusList, (t.portS n).counts.getD i 0 = ((s.chip.portS n).counts.getD i 0 + 1) % 16)) ∧
        (s.chip.get (Reg.PORCH_P_CFG_per n) = 0 ∨
            s.chip.now < (s.chip.portS n).statAt + 200000 * s.chip.get (Reg.PORCH_P_CFG_per n) →
          Completes (.statusMessage n false) s [] [] (fun _ => True)) ∧
        (s.chip.peakByte = (s.chip.portS n).lastPeak → Completes (.statusMessage n true) s [] [] (fun _ => True)) ∧
        Completes (.aloneProbe n) s [] [] (fun _ => True)) ∧
      (s.chip.on (Reg.CAN_STAT_alone n) = true → Completes (.statusMessage n (hasBit d.toNat 0)) s [] [] (fun _ => True) ∧
        ((s.chip.portS n).probeAt + 200000000 ≤ s.chip.now → Touches (.aloneProbe n) s [.regs, .free, .can, .porch] (fun t =>
          (t.portS n).probeAt = s.chip.now ∧ ∀ i ∈ [s.chip.statusList.getD ((s.chip.portS n).due % s.chip.statusList.length) 4],
            (t.portS n).counts.getD i 0 = ((s.chip.portS n).counts.getD i 0 + 1) % 16)))) ∧
    (s.chip.canJoined n = true → s.chip.canMode n ≠ 3 → s.chip.porchOn n = true → s.chip.portState n = 2 →
      s.chip.portAddr n < 254 → ∀ k ∈ [(l.toList.getD 1 0).toNat % 4], 1 ≤ (s.chip.topo k).type → (s.chip.topo k).type ≤ 3 →
      0x10 ≤ (l.toList.getD 0 0).toNat → (l.toList.getD 0 0).toNat ≤ 0x12 →
      (crc16 ([sa, BitVec.ofNat 8 (s.chip.portAddr n)] ++ l.toList.take 6) ≠
          256 * (l.toList.getD 6 0).toNat + (l.toList.getD 7 0).toNat →
        Touches (.checkedMessageRx n sa l) s [.regs, .mem, .free, .log, .can, .porch] (fun t =>
          t.get (Reg.PORCH_CMD_STAT_rejects k) = min 255 (s.chip.get (Reg.PORCH_CMD_STAT_rejects k) + 1) ∧
          (t.portS n).streams = (s.chip.portS n).streams)) ∧
      (crc16 ([sa, BitVec.ofNat 8 (s.chip.portAddr n)] ++ l.toList.take 6) =
          256 * (l.toList.getD 6 0).toNat + (l.toList.getD 7 0).toNat →
        ((∀ p ∈ (s.chip.portS n).streams, p.1 ≠ 4 * (l.toList.getD 0 0).toNat + k) → Touches (.checkedMessageRx n sa l) s
          [.regs, .mem, .free, .log, .can, .porch] (fun t => t.get (Reg.PORCH_CMD_REQ_new k) = s.chip.get (Reg.PORCH_CMD_REQ_new k) ∧
            (4 * (l.toList.getD 0 0).toNat + k, (l.toList.getD 1 0).toNat / 16) ∈ (t.portS n).streams)) ∧
        (∀ p ∈ ((s.chip.portS n).streams.find? fun p => p.1 = 4 * (l.toList.getD 0 0).toNat + k).toList,
          ∀ gap ∈ [((l.toList.getD 1 0).toNat / 16 + 16 - p.2) % 16],
          (gap = 0 ∨ max 1 (s.chip.get Reg.PORCH_CFG_skip) < gap → Touches (.checkedMessageRx n sa l) s
            [.regs, .mem, .free, .log, .can, .porch] (fun t =>
              t.get (Reg.PORCH_CMD_STAT_rejects k) = min 255 (s.chip.get (Reg.PORCH_CMD_STAT_rejects k) + 1))) ∧
          (1 ≤ gap → gap ≤ max 1 (s.chip.get Reg.PORCH_CFG_skip) → Touches (.checkedMessageRx n sa l) s
            [.regs, .mem, .free, .log, .can, .porch] (fun t => t.get Reg.PORCH_FLAGS_cmd = 1 ∧
              t.get (Reg.PORCH_CMD_REQ_sa k) = sa.toNat ∧
              hasBit (t.get (Reg.PORCH_CMD_REQ_new k)) ((l.toList.getD 0 0).toNat - 0x10) = true ∧
              ((l.toList.getD 0 0) = 0x10 → t.get (Reg.PORCH_CMD_TQ_value k) = leNat ((l.toList.drop 2).take 4)) ∧
              ((l.toList.getD 0 0) = 0x11 → t.get (Reg.PORCH_CMD_SPD_value k) = leNat ((l.toList.drop 2).take 4))))))) ∧
    (s.chip.porchOn n = true → s.chip.on (Reg.PORCH_P_CFG_cmd_req n) = true →
      (s.chip.portS n).applied + 200000 * max 1 (s.chip.get (Reg.PORCH_P_CMD_TO_ms n)) ≤ s.chip.now →
      Completes (.cmdLost n) s [Reg.PORCH_FLAGS_cmd_lost] [.log, .porch] (fun t => t.get Reg.PORCH_FLAGS_cmd_lost = 1 ∧
        (t.portS n).streams = [] ∧ t.log.seq = (s.chip.log.seq + 1) % 65536)) ∧
    (s.chip.on (Reg.PORCH_P_CFG_cmd_req n) = false ∨
        s.chip.now < (s.chip.portS n).applied + 200000 * max 1 (s.chip.get (Reg.PORCH_P_CMD_TO_ms n)) →
      Completes (.cmdLost n) s [] [] (fun _ => True))

/-- The commands of the ring and the twin link, in every state in which the control die runs. -/
def Obligations.RingAndTwin : Prop :=
  ∀ (s : State) (b ok last : Bool) (m k : Fin 4) (d : Word), s.chip.pwr.dieReset = false → s.chip.Shaped →
    s.chip.ring.msgs.length = 4 → s.chip.ring.spMiss.length = 4 →
    (s.chip.bus.resets.contains .ring = true →
      Completes .ringEnable s [] [.bus] (fun t => t.bus.held = s.chip.bus.held ++ [⟨.host, 0x41700004, 4, 1, 0⟩]) ∧
      Completes .ringDisable s [] [.bus] (fun t => t.bus.held = s.chip.bus.held ++ [⟨.host, 0x41700004, 4, 0, 0⟩]) ∧
      Completes (.ringMsgEnable d) s [] [.bus] (fun t =>
        t.bus.held = s.chip.bus.held ++ [⟨.host, 0x41700040, 4, d.toNat, 0⟩]) ∧
      Completes (.msgSend m d) s [] [.bus] (fun t => t.bus.posted = s.chip.bus.posted) ∧
      Completes (.msgAbort m) s [] [.bus] (fun t => t.bus.posted = s.chip.bus.posted) ∧
      Completes (.rxSlotFree m) s [] [.bus] (fun t => t.bus.posted = s.chip.bus.posted) ∧
      Completes .ringClrErr s [] [.bus] (fun t => t.bus.posted = s.chip.bus.posted)) ∧
    (s.chip.bus.resets.contains .ring = false → s.chip.on Reg.RING_CTL_en = true → Completes .ringEnable s [] [] (fun _ => True)) ∧
    (s.chip.bus.resets.contains .ring = false → s.chip.on Reg.RING_CTL_en = false →
      (10 * s.chip.cycleUs < 32 * (s.chip.nMax - 1) + 8 → Completes .ringEnable s [Reg.RING_FLAGS_cycle_bad] [.log] (fun t =>
        t.get Reg.RING_FLAGS_cycle_bad = 1 ∧ t.log.seq = (s.chip.log.seq + 1) % 65536)) ∧
      (32 * (s.chip.nMax - 1) + 8 ≤ 10 * s.chip.cycleUs → s.chip.on Reg.CLK_STAT_on_backup = true →
        Completes .ringEnable s [Reg.RING_CTL_en] [.ring] (fun t => t.get Reg.RING_CTL_en = 1 ∧ t.ring.stopped = true ∧
          t.ringRole = s.chip.ringRole)) ∧
      (32 * (s.chip.nMax - 1) + 8 ≤ 10 * s.chip.cycleUs → s.chip.on Reg.CLK_STAT_on_backup = false → Touches .ringEnable s [.regs, .mem, .log, .can, .porch, .ring]
        (fun t => t.ringOn = true ∧ t.get Reg.RING_STAT_node = s.chip.nodeNumber ∧ t.get Reg.RING_STAT_dup = 0 ∧
          (s.chip.nodeNumber < 2 → t.ringRole = 3 ∧ t.get Reg.RING_STAT_state = 1) ∧
          (2 ≤ s.chip.nodeNumber → t.ringRole = 0 ∧ t.get Reg.RING_STAT_state = 3))) ∧
      Completes .ringDisable s [] [] (fun _ => True)) ∧
    (s.chip.bus.resets.contains .ring = false → s.chip.on Reg.RING_CTL_en = true → Touches .ringDisable s [.regs, .mem, .log, .can, .porch, .ring] (fun t =>
      t.get Reg.RING_CTL_en = 0 ∧ t.ringRole = 0 ∧ t.get Reg.RING_STAT_state = 0 ∧
      (s.chip.msgRuns m = true → t.get (Reg.RING_TX_STAT_status m) = 6 ∧ t.get Reg.RING_FLAGS_msg_fail = 1))) ∧
    (∀ lim ∈ [if s.chip.get Reg.RING_STAT_node = 0 then 4 else 8],
      (s.chip.ringOn = true → s.chip.ringRole = 3 → s.chip.ring.startAt + lim * (200 * s.chip.cycleUs) ≤ s.chip.now →
        Touches .ringStartTimeout s [.regs, .mem, .log, .can, .porch, .ring] (fun t => t.ringRole = 2 ∧
          t.get Reg.RING_EPOCH_own = epochNext (s.chip.get Reg.RING_EPOCH_seen) ∧
          t.get Reg.RING_EPOCH_seen = epochNext (s.chip.get Reg.RING_EPOCH_seen) ∧ t.get Reg.RING_FLAGS_failover = 1)) ∧
      (s.chip.ringOn = false ∨ s.chip.ringRole ≠ 3 ∨ s.chip.now < s.chip.ring.startAt + lim * (200 * s.chip.cycleUs) →
        Completes .ringStartTimeout s [] [] (fun _ => True))) ∧
    (∀ e e2 : Fin 3, (s.chip.on Reg.RING_CTL_en = false ∨ s.chip.now < s.chip.ring.cycleAt + 200 * s.chip.cycleUs →
        Completes (.cycleStart e e2) s [] [] (fun _ => True)) ∧
      (s.chip.on Reg.RING_CTL_en = true → s.chip.ring.cycleAt + 200 * s.chip.cycleUs ≤ s.chip.now → Touches (.cycleStart e e2) s
        [.regs, .mem, .ecc, .free, .fab, .log, .bus, .pwr, .rgn, .cl, .adc, .pos, .cle, .slice, .isl, .safe, .chm, .hart, .sem,
          .memS, .hw, .can, .porch, .ring, .twin] (fun t => t.ring.cycleAt = s.chip.now ∧ t.ring.heard = 0 ∧
        t.get Reg.RING_COUNT_count = (s.chip.get Reg.RING_COUNT_count + 1) % 2 ^ 32 ∧
        t.ring.sent = (!s.chip.on Reg.RING_STAT_dup && !s.chip.ring.stopped) ∧ t.get Reg.TWIN_STAT_hb = b2n s.chip.ring.twinHb ∧
        (hasBit s.chip.ring.heard 5 = false → hasBit (s.chip.get Reg.RING_PRESENT_present) 5 = true →
          lookupD 0 5 s.chip.ring.missing = 2 → hasBit (t.get Reg.RING_PRESENT_present) 5 = false ∧
            hasBit (t.get Reg.RING_LOST_lost) 5 = true) ∧
        (s.chip.ringRole = 1 → hasBit s.chip.ring.heard (1 - s.chip.get Reg.RING_STAT_node) = false →
          s.chip.ring.twinHb = false → 1 ≤ s.chip.ring.runBoth → s.chip.on Reg.RING_CFG_fo_en = true →
          t.ringRole = 2 ∧ t.get Reg.RING_EPOCH_own = epochNext (s.chip.get Reg.RING_EPOCH_seen))))) ∧
    (∀ e e2 : Fin 3, s.chip.on Reg.RING_CTL_en = true → s.chip.ring.cycleAt + 200 * s.chip.cycleUs ≤ s.chip.now →
      s.chip.ringRole = 0 →
      hasBit s.chip.ring.taken k = false → nth s.chip.ring.spMiss k + 1 = max 1 (s.chip.get Reg.RING_CFG_sp_to) →
      s.chip.on (Reg.RING_C_STAT_stale k) = false → Ends (.cycleStart e e2) s (fun t =>
        t.get (Reg.RING_C_STAT_stale k) = 1 ∧ t.get Reg.RING_FLAGS_sp_stale = 1 ∧
        (s.chip.on (Reg.SEQ_CFG_cmd_src k) = false → t.get (Reg.RING_C_STAT_valid k) = 0))) ∧
    (∀ f : CyclicFrame, (s.chip.on Reg.RING_CTL_en = false → Completes (.cyclicFrameRx b f ok) s [] [] (fun _ => True)) ∧
      (s.chip.on Reg.RING_CTL_en = true → Completes (.cyclicFrameRx b f false) s
        [if b then Reg.RING_ERR_crc_b else Reg.RING_ERR_crc_a] [] (fun t =>
          t.get (if b then Reg.RING_ERR_crc_b else Reg.RING_ERR_crc_a) =
            min 255 (s.chip.get (if b then Reg.RING_ERR_crc_b else Reg.RING_ERR_crc_a) + 1))) ∧
      (s.chip.on Reg.RING_CTL_en = true → f.origin.val ≠ s.chip.get Reg.RING_STAT_node → s.chip.ringRole ≠ 2 →
        Touches (.cyclicFrameRx b f true) s [.regs, .mem, .ecc, .log, .can, .porch, .ring] (fun t =>
          hasBit (t.get Reg.RING_PRESENT_present) f.origin = true ∧ hasBit t.ring.heard f.origin = true ∧
          (s.chip.ring.stopped = false → (if s.chip.leaveOn b then t.ring.outB else t.ring.outA) = cyclicBytes f.origin f.role
            (f.hop.toNat + 1) f.flags.toNat f.cycle f.epoch f.up.toList f.down.toList) ∧
          (s.chip.ring.stopped = true → t.ring.outA = s.chip.ring.outA ∧ t.ring.outB = s.chip.ring.outB) ∧
          (hasBit (f.down.toList.getD 16 0).toNat 7 = false → t.get Reg.RING_EPOCH_seen =
            (if f.epoch.val ≠ 0 ∧ epochHigher f.epoch (s.chip.get Reg.RING_EPOCH_seen) = true then f.epoch.val
              else s.chip.get Reg.RING_EPOCH_seen)) ∧
          (f.role.val = 2 → t.get Reg.RING_STAT_state = 2 ∧ t.ring.mgrHeard = true ∧
            (s.chip.ringRole = 3 → t.ringRole = 1) ∧ t.get Reg.RING_COUNT_count % 65536 = f.cycle.val)))) ∧
    (∀ f : CyclicFrame, s.chip.on Reg.RING_CTL_en = true → f.origin.val = s.chip.get Reg.RING_STAT_node → s.chip.ringRole ≠ 2 →
      (s.chip.ring.sent = false → Touches (.cyclicFrameRx b f true) s [.regs, .mem, .ecc, .log, .can, .porch, .ring] (fun t =>
        t.get Reg.RING_STAT_dup = 1)) ∧
      (s.chip.ring.sent = true → s.chip.leaveOn b = s.chip.ring.firstB →
        hasBit (f.down.toList.getD 16 0).toNat 7 = true → hasBit (f.down.toList.getD 16 0).toNat k = true →
        crc16 (leBytes 1 f.origin.val ++ f.down.toList.take 22) = leNat (f.down.toList.drop 22) → f.epoch = 0 →
        leNat ((f.down.toList.drop 18).take 2) = s.chip.get Reg.RING_EPOCH_seen →
        Touches (.cyclicFrameRx b f true) s [.regs, .mem, .ecc, .log, .can, .porch, .ring] (fun t =>
          t.get Reg.RING_STAT_loop = min 255 (f.hop.toNat + 1) ∧
          t.get (Reg.RING_C_CMD_cmd k) =
            F32.mul F32.half (F32.ofInt (sgn 16 (leNat ((f.down.toList.drop (4 * k)).take 2)))) ∧
          t.get (Reg.RING_C_STAT_valid k) = 1 ∧ t.get (Reg.RING_C_STAT_stale k) = 0 ∧ t.get (Reg.RING_C_STAT_age k) = 0 ∧
          hasBit t.ring.taken k = true ∧ t.ring.sent = false))) ∧
    (∀ sym : Fin 256, (s.chip.on Reg.RING_CTL_en = false → Completes (.ringBreak b sym) s [] [] (fun _ => True)) ∧
      (s.chip.on Reg.RING_CTL_en = true →
        (if b then s.chip.ring.wrapB && !s.chip.ring.readyB else s.chip.ring.wrapA && !s.chip.ring.readyA) = true →
        Completes (.ringBreak b sym) s [Reg.RING_ERR_sym] [.ring] (fun t =>
          t.get Reg.RING_ERR_sym = min 255 (s.chip.get Reg.RING_ERR_sym + sym) ∧
          (if b then t.ring.lostB else t.ring.lostA) = s.chip.now ∧ t.ring.wrapA = s.chip.ring.wrapA ∧
          t.ring.wrapB = s.chip.ring.wrapB)) ∧
      (s.chip.on Reg.RING_CTL_en = true →
        (if b then s.chip.ring.wrapB && !s.chip.ring.readyB else s.chip.ring.wrapA && !s.chip.ring.readyA) = false →
        Completes (.ringBreak b sym) s [Reg.RING_ERR_sym, if b then Reg.RING_STAT_rx_b_ok else Reg.RING_STAT_rx_a_ok,
          Reg.RING_STAT_wrapped, Reg.RING_FLAGS_break_ev] [.log, .ring] (fun t => t.wrapped = true ∧ t.linkIsReady = false ∧
          t.get (if b then Reg.RING_STAT_rx_b_ok else Reg.RING_STAT_rx_a_ok) = 0 ∧ t.get Reg.RING_STAT_wrapped = 1 ∧
          t.get Reg.RING_FLAGS_break_ev = 1 ∧ t.get Reg.RING_ERR_sym = min 255 (s.chip.get Reg.RING_ERR_sym + sym)))) ∧
    (s.chip.on Reg.RING_CTL_en = true → (if b then s.chip.ring.wrapB else s.chip.ring.wrapA) = false ∨
        (if b then s.chip.ring.lostB else s.chip.ring.lostA) + 2000000 ≤ s.chip.now →
      Completes (.linkReady b) s [if b then Reg.RING_STAT_rx_b_ok else Reg.RING_STAT_rx_a_ok] [.ring] (fun t =>
        t.get (if b then Reg.RING_STAT_rx_b_ok else Reg.RING_STAT_rx_a_ok) = 1 ∧
        (if b then t.ring.readyB else t.ring.readyA) = (if b then s.chip.ring.wrapB else s.chip.ring.wrapA))) ∧
    (s.chip.on Reg.RING_CTL_en = false ∨ (if b then s.chip.ring.wrapB else s.chip.ring.wrapA) = true ∧
        s.chip.now < (if b then s.chip.ring.lostB else s.chip.ring.lostA) + 2000000 →
      Completes (.linkReady b) s [] [] (fun _ => True)) ∧
    (s.chip.bus.resets.contains .ring = false → s.chip.msgRuns m = false →
      (part d.toNat 10 11 = 0 ∨ 1008 < part d.toNat 10 11 ∨ s.chip.on Reg.RING_MSG_CFG_en = false ∨
          s.chip.bufOwner (part d.toNat 0 10) = 0 ∨ part d.toNat 24 6 = s.chip.get Reg.RING_STAT_node →
        Touches (.msgSend m d) s [.regs, .log, .ring] (fun t => t.get (Reg.RING_TX_STAT_status m) = 7 ∧
          t.get Reg.RING_FLAGS_msg_fail = 1 ∧ t.get (Reg.RING_TX_CTL_start m) = 0 ∧
          t.log.seq = (s.chip.log.seq + 1) % 65536)) ∧
      (0 < part d.toNat 10 11 → part d.toNat 10 11 ≤ 256 → s.chip.on Reg.RING_MSG_CFG_en = true →
        s.chip.bufOwner (part d.toNat 0 10) = 1 → part d.toNat 24 6 ≠ s.chip.get Reg.RING_STAT_node →
        (s.chip.ringOn = true → s.chip.on Reg.RING_STAT_dup = false → hasBit d.toNat 30 = false →
          Touches (.msgSend m d) s [.regs, .ring] (fun t => t.msgRuns m = true ∧ (t.msgS m).waits = true ∧
            (t.msgS m).dst = part d.toNat 24 6 ∧ (t.msgS m).len = part d.toNat 10 11 ∧ (t.msgS m).buf = part d.toNat 0 10 ∧
            (t.msgS m).seq = ((s.chip.msgS m).seq + 1) % 256 ∧ t.get (Reg.RING_TX_CTL_start m) = 1)) ∧
        (s.chip.ringOn = false → Touches (.msgSend m d) s [.regs, .log, .ring] (fun t =>
          t.get (Reg.RING_TX_STAT_status m) = 6))) ∧
      Completes (.msgAbort m) s [] [] (fun _ => True)) ∧
    (s.chip.msgRuns m = false ∨ (s.chip.msgS m).inFlight = false → Completes (.msgAckTimeout m) s [] [] (fun _ => True)) ∧
    (s.chip.msgRuns m = true →
      (s.chip.bus.resets.contains .ring = false → (s.chip.msgS m).inFlight = false → Completes (.msgAbort m) s [Reg.RING_TX_STAT_status m, Reg.RING_TX_CTL_start m,
          Reg.RING_FLAGS_msg_fail] [.log, .ring] (fun t => t.get (Reg.RING_TX_STAT_status m) = 5)) ∧
      (s.chip.bus.resets.contains .ring = false → (s.chip.msgS m).inFlight = true → Completes (.msgAbort m) s [] [.ring] (fun t => (t.msgS m).stop = true ∧
        (t.msgS m).inFlight = true)) ∧
      ((s.chip.msgS m).inFlight = true →
        (s.chip.msgS m).tryAt + max 1 (s.chip.get Reg.RING_MSG_CFG_ack_to) * (200 * s.chip.cycleUs) ≤ s.chip.now →
        (s.chip.msgS m).stop = false →
        (s.chip.get (Reg.RING_TX_STAT_tries m) = 3 → Completes (.msgAckTimeout m) s [Reg.RING_TX_STAT_status m,
          Reg.RING_TX_CTL_start m, Reg.RING_FLAGS_msg_fail] [.log, .ring] (fun t =>
            t.get (Reg.RING_TX_STAT_status m) = 3)) ∧
        (s.chip.get (Reg.RING_TX_STAT_tries m) < 3 → Completes (.msgAckTimeout m) s [] [.ring] (fun t =>
          (t.msgS m).waits = true ∧ (t.msgS m).inFlight = false ∧ t.msgRuns m = true)))) ∧
    (∀ f : AcyclicFrame, acyclicWf f = true →
      (s.chip.on Reg.RING_CTL_en = false → Completes (.acyclicFrameRx b f ok) s [] [] (fun _ => True)) ∧
      (s.chip.ringOn = true → f.src.val ≠ s.chip.get Reg.RING_STAT_node → s.chip.ring.transit.length < 8 →
        (f.dst.val = s.chip.get Reg.RING_STAT_node → f.kind = .data → s.chip.on Reg.RING_MSG_CFG_en = true →
          (∀ p ∈ s.chip.ring.stored, p.1 ≠ 4 * f.src.val + f.slot.val) →
          ∀ r ∈ ((List.range 4).find? fun r => !s.chip.on (Reg.RING_RX_STAT_full r)).toList,
          Touches (.acyclicFrameRx b f true) s [.regs, .mem, .ring] (fun t => t.get (Reg.RING_RX_STAT_full r) = 1 ∧
            t.get (Reg.RING_RX_STAT_src r) = f.src ∧ t.get (Reg.RING_RX_STAT_len r) = f.data.length ∧
            t.bytes (Chip.bufAddr (s.chip.get Reg.RING_MSG_CFG_rx_base + 4 * r)) f.data.length = f.data ∧
            t.get Reg.RING_FLAGS_msg_rx = 1 ∧ (t.ring.answers.map fun p => p.2.kind) =
              (s.chip.ring.answers.map fun p => p.2.kind) ++ [.ack])) ∧
        (f.dst.val = s.chip.get Reg.RING_STAT_node → f.kind = .data → s.chip.on Reg.RING_MSG_CFG_en = false →
          Completes (.acyclicFrameRx b f true) s [] [.ring] (fun t => (t.ring.answers.map fun p => p.2.kind) =
            (s.chip.ring.answers.map fun p => p.2.kind) ++ [.refuse])) ∧
        (f.dst.val = s.chip.get Reg.RING_STAT_node → f.kind = .ack → s.chip.msgRuns f.slot = true →
          (s.chip.msgS f.slot).seq = f.seq.val → (s.chip.msgS f.slot).dst = f.src.val →
          Completes (.acyclicFrameRx b f true) s [Reg.RING_TX_STAT_status f.slot, Reg.RING_TX_CTL_start f.slot,
            Reg.RING_FLAGS_msg_done] [.ring] (fun t => t.get (Reg.RING_TX_STAT_status f.slot) = 2 ∧
              t.get Reg.RING_FLAGS_msg_done = 1)) ∧
        (f.dst.val ≠ s.chip.get Reg.RING_STAT_node → f.dst.val ≠ 63 → Completes (.acyclicFrameRx b f true) s [] [.ring]
          (fun t => t.ring.transit = s.chip.ring.transit ++ [(s.chip.leaveOn b, f)])))) ∧
    (s.chip.bus.resets.contains .ring = false →
      Completes (.rxSlotFree m) s [Reg.RING_RX_STAT_full m] [] (fun t => t.get (Reg.RING_RX_STAT_full m) = 0) ∧
    Completes (.ringMsgEnable d) s [Reg.RING_MSG_CFG_en, Reg.RING_MSG_CFG_ack_to, Reg.RING_MSG_CFG_rx_base] [] (fun t =>
      t.get Reg.RING_MSG_CFG_rx_base = part d.toNat 0 10 ∧
      t.get Reg.RING_MSG_CFG_en = (if hasBit d.toNat 31 = true ∧ part d.toNat 0 10 + 15 ≤ 1023 then 1 else 0)) ∧
    Completes .ringClrErr s [Reg.RING_ERR_crc_a, Reg.RING_ERR_crc_b, Reg.RING_ERR_sym, Reg.RING_ERR_drop] [] (fun t =>
      t.get Reg.RING_ERR_crc_a = 0 ∧ t.get Reg.RING_ERR_crc_b = 0 ∧ t.get Reg.RING_ERR_sym = 0 ∧
      t.get Reg.RING_ERR_drop = 0)) ∧
    (s.chip.on Reg.TWIN_STAT_sig = true → Completes .twinSigBack s [] [] (fun _ => True) ∧
      Completes .twinSigLost s [Reg.TWIN_STAT_sig, Reg.TWIN_FLAGS_ev] [] (fun t => t.get Reg.TWIN_STAT_sig = 0 ∧
        hasBit (t.get Reg.TWIN_FLAGS_ev) 2 = true)) ∧
    (s.chip.on Reg.TWIN_STAT_sig = false → Completes .twinSigLost s [] [] (fun _ => True) ∧
      Completes .twinSigBack s [Reg.TWIN_STAT_sig, Reg.TWIN_FLAGS_ev] [] (fun t => t.get Reg.TWIN_STAT_sig = 1 ∧
        hasBit (t.get Reg.TWIN_FLAGS_ev) 3 = true)) ∧
    (
      Completes (.twinHeartbeatRx k true) s [Reg.TWIN_STAT_peer] [.ring] (fun t => t.get Reg.TWIN_STAT_peer = k ∧
        t.ring.twinHb = true) ∧
      Completes (.twinHeartbeatRx k false) s [Reg.TWIN_ERR_crc] [] (fun t =>
        t.get Reg.TWIN_ERR_crc = min 65535 (s.chip.get Reg.TWIN_ERR_crc + 1))) ∧
    (∀ (l : List Byte) (off : Fin 65536), copyWf l = true →
      (s.chip.on Reg.TWIN_CFG_en = false ∨ s.chip.ringRole ≠ 1 →
        Completes (.copyFrameRx off l last ok) s [] [] (fun _ => True)) ∧
      (s.chip.on Reg.TWIN_CFG_en = true → s.chip.ringRole = 1 → s.chip.twin.failed = false →
        Completes (.copyFrameRx off l last false) s [Reg.TWIN_ERR_crc, Reg.TWIN_STAT_busy, Reg.TWIN_FLAGS_ev] [.log, .twin]
          (fun t => t.twin.failed = true ∧ t.get Reg.TWIN_STAT_busy = 0 ∧ hasBit (t.get Reg.TWIN_FLAGS_ev) 1 = true ∧
            t.get Reg.TWIN_STAT_bank = s.chip.get Reg.TWIN_STAT_bank) ∧
        (off.val ≠ s.chip.twin.next → Completes (.copyFrameRx off l last true) s [Reg.TWIN_STAT_busy, Reg.TWIN_FLAGS_ev]
          [.log, .twin] (fun t => t.twin.failed = true ∧ t.get Reg.TWIN_STAT_busy = 0 ∧
            hasBit (t.get Reg.TWIN_FLAGS_ev) 1 = true)) ∧
        (off.val = s.chip.twin.next → Touches (.copyFrameRx off l true true) s [.regs, .mem, .ecc, .log, .twin] (fun t =>
          t.get Reg.TWIN_STAT_bank = 1 - s.chip.get Reg.TWIN_STAT_bank ∧ t.get Reg.TWIN_STAT_busy = 0 ∧
          hasBit (t.get Reg.TWIN_FLAGS_ev) 0 = true ∧
          t.get Reg.TWIN_STAT_seq = (s.chip.get Reg.TWIN_STAT_seq + 1) % 2 ^ Reg.TWIN_STAT_seq.width)) ∧
        (off.val = s.chip.twin.next → Touches (.copyFrameRx off l false true) s [.regs, .mem, .ecc, .log, .twin] (fun t =>
          t.get Reg.TWIN_STAT_bank = s.chip.get Reg.TWIN_STAT_bank ∧ t.get Reg.TWIN_STAT_busy = 1 ∧ t.twin.run = true ∧
          t.twin.next = off.val + l.length))))
end

