-- ==== Sys2Proof/Laws/Sparse.lean ====
section
/-! SUPPORT. Sparse tables: a read after a write, other keys unchanged, the canonical form kept. -/

namespace Sys2Proof.Machine

section
variable {α : Type}

theorem lookupD_eraseAt_self (d : α) (k : Nat) (l : List (Nat × α)) : lookupD d k (eraseAt k l) = d := by
  induction l with
  | nil => rfl
  | cons p l ih => simp only [eraseAt]; split <;> simp_all [lookupD]

theorem lookupD_eraseAt_other (d : α) {k j : Nat} (h : j ≠ k) (l : List (Nat × α)) :
    lookupD d j (eraseAt k l) = lookupD d j l := by
  induction l with
  | nil => rfl
  | cons p l ih =>
    simp only [eraseAt]
    split <;> simp_all [lookupD]

theorem lookupD_insertAt_self (d : α) (k : Nat) (v : α) (l : List (Nat × α)) : lookupD d k (insertAt k v l) = v := by
  induction l with
  | nil => simp [insertAt, lookupD]
  | cons p l ih =>
    simp only [insertAt]
    split
    · simp [lookupD]
    · split <;> simp_all [lookupD]

theorem lookupD_insertAt_other (d : α) {k j : Nat} (h : j ≠ k) (v : α) (l : List (Nat × α)) :
    lookupD d j (insertAt k v l) = lookupD d j l := by
  induction l with
  | nil => simp [insertAt, lookupD, h]
  | cons p l ih =>
    simp only [insertAt]
    split
    · simp [lookupD, h]
    · split <;> simp_all [lookupD]

variable [DecidableEq α]

/-- A read after a write to the same key gives the value written. -/
@[simp] theorem lookupD_putAt_self (d : α) (k : Nat) (v : α) (l : List (Nat × α)) : lookupD d k (putAt d k v l) = v := by
  unfold putAt
  split
  · simp_all [lookupD_eraseAt_self]
  · exact lookupD_insertAt_self ..

/-- A write leaves every other key alone. -/
theorem lookupD_putAt_other (d d' : α) {k j : Nat} (h : j ≠ k) (v : α) (l : List (Nat × α)) :
    lookupD d' j (putAt d k v l) = lookupD d' j l := by
  unfold putAt
  split
  · exact lookupD_eraseAt_other d' h l
  · exact lookupD_insertAt_other d' h v l

end

section
variable {α : Type}

theorem rising_iff (l : List (Nat × α)) : rising l = true ↔ l.Pairwise (fun p q => p.1 < q.1) := by
  induction l with
  | nil => simp [rising]
  | cons p l ih =>
    cases l with
    | nil => simp [rising]
    | cons q l =>
      simp only [rising, Bool.and_eq_true, decide_eq_true_eq, ih, List.pairwise_cons, List.mem_cons]
      constructor
      · rintro ⟨h, h', h''⟩
        refine ⟨?_, h', h''⟩
        rintro a (rfl | ha)
        · exact h
        · exact lt_trans h (h' a ha)
      · rintro ⟨h, h', h''⟩
        exact ⟨h q (Or.inl rfl), h', h''⟩

theorem eraseAt_eq_filter (k : Nat) (l : List (Nat × α)) : eraseAt k l = l.filter fun p => !(k == p.1) := by
  induction l with
  | nil => rfl
  | cons p l ih =>
    by_cases h : k = p.1
    · subst h; simp [eraseAt, ih]
    · simp [eraseAt, h, ih]

theorem mem_insertAt {k : Nat} {v : α} {l : List (Nat × α)} {p : Nat × α} (h : p ∈ insertAt k v l) :
    p = (k, v) ∨ p ∈ l := by
  induction l with
  | nil => simpa [insertAt] using h
  | cons q l ih =>
    simp only [insertAt] at h
    split at h
    · simpa using h
    · split at h
      · simp only [List.mem_cons] at h ⊢; tauto
      · simp only [List.mem_cons] at h ⊢
        rcases h with h | h
        · exact Or.inr (Or.inl h)
        · rcases ih h with h | h
          · exact Or.inl h
          · exact Or.inr (Or.inr h)

theorem rising_insertAt {k : Nat} {v : α} {l : List (Nat × α)} (h : rising l = true) : rising (insertAt k v l) = true := by
  rw [rising_iff] at *
  induction l with
  | nil => simp [insertAt]
  | cons q l ih =>
    rw [List.pairwise_cons] at h
    simp only [insertAt]
    split
    · rename_i hk
      refine List.pairwise_cons.2 ⟨?_, List.pairwise_cons.2 h⟩
      intro a ha
      rcases List.mem_cons.1 ha with rfl | ha
      · exact hk
      · exact lt_trans hk (h.1 a ha)
    · split
      · rename_i hk
        refine List.pairwise_cons.2 ⟨fun a ha => ?_, h.2⟩
        subst hk; exact h.1 a ha
      · rename_i h1 h2
        refine List.pairwise_cons.2 ⟨fun a ha => ?_, ih h.2⟩
        rcases mem_insertAt ha with rfl | ha
        · exact lt_of_le_of_ne (not_lt.1 h1) (Ne.symm h2)
        · exact h.1 a ha

theorem rising_filter {l : List (Nat × α)} (f : Nat × α → Bool) (h : rising l = true) : rising (l.filter f) = true := by
  rw [rising_iff] at *
  exact h.filter f

/-- A write keeps keys rising. -/
theorem rising_putAt [DecidableEq α] {d : α} {k : Nat} {v : α} {l : List (Nat × α)} (h : rising l = true) :
    rising (putAt d k v l) = true := by
  unfold putAt
  split
  · rw [eraseAt_eq_filter]; exact rising_filter _ h
  · exact rising_insertAt h

end

end Sys2Proof.Machine
end

