-- ==== Sys2Proof/Laws/Memory.lean ====
section
/-! SUPPORT. Registers and bytes: a read after a write, other fields and bytes unchanged, and the canonical form of the
byte memory kept by every operation over it. -/

namespace Sys2Proof.Machine

/-! ### Registers -/

theorem Chip.get_set_self (s : Chip) (f : Field) (v : Nat) : (s.set f v).get f = v % 2 ^ f.width := by
  simp [Chip.get, Chip.set]

theorem Chip.get_set_other (s : Chip) {f g : Field} (h : g.key ≠ f.key) (v : Nat) : (s.set f v).get g = s.get g := by
  simp only [Chip.get, Chip.set]
  rw [lookupD_putAt_other _ _ h]

theorem Chip.get_assign_self (s : Chip) (f : Field) (v : Nat) : (s.assign f v).get f = v % 2 ^ f.width := by
  simp [Chip.get, Chip.assign]

theorem Chip.get_assign_other (s : Chip) {f g : Field} (h : g.key ≠ f.key) (v : Nat) : (s.assign f v).get g = s.get g := by
  simp only [Chip.get, Chip.assign]
  rw [lookupD_putAt_other _ _ h]

theorem Chip.get_setBitOf_self (s : Chip) (f : Field) (i : Nat) :
    (s.setBitOf f i).get f = setBit (s.get f) i % 2 ^ f.width := by
  simp [Chip.get, Chip.setBitOf]

theorem Chip.get_setBitOf_other (s : Chip) {f g : Field} (h : g.key ≠ f.key) (i : Nat) :
    (s.setBitOf f i).get g = s.get g := by
  simp only [Chip.get, Chip.setBitOf]
  rw [lookupD_putAt_other _ _ h]

theorem Chip.get_put_self (s : Chip) (f : Field) (b : Bool) (h : 0 < f.width) : (s.put f b).get f = b2n b := by
  rw [Chip.put, Chip.get_set_self]
  apply Nat.mod_eq_of_lt
  have : 2 ^ 1 ≤ 2 ^ f.width := Nat.pow_le_pow_right (by decide) h
  have hb : b2n b ≤ 1 := by cases b <;> decide
  omega

theorem Chip.get_put_other (s : Chip) {f g : Field} (h : g.key ≠ f.key) (b : Bool) : (s.put f b).get g = s.get g :=
  s.get_set_other h _

theorem Registers.wf_set (s : Chip) (f : Field) (v : Nat) (h : Registers.wf s.regs = true) :
    Registers.wf (s.set f v).regs = true := rising_putAt h

theorem Registers.wf_assign (s : Chip) (f : Field) (v : Nat) (h : Registers.wf s.regs = true) :
    Registers.wf (s.assign f v).regs = true := rising_putAt h

theorem Registers.wf_setBitOf (s : Chip) (f : Field) (i : Nat) (h : Registers.wf s.regs = true) :
    Registers.wf (s.setBitOf f i).regs = true := rising_putAt h

theorem Registers.wf_resetRange (s : Chip) (lo hi : Nat) (h : Registers.wf s.regs = true) :
    Registers.wf (s.resetRange lo hi).regs = true := rising_filter _ h

/-! ### Bytes -/

theorem Chip.byte_setByte_self (s : Chip) (a : Nat) (b : Byte) : (s.setByte a b).byte a = b := by
  simp [Chip.byte, Chip.setByte]

theorem Chip.byte_setByte_other (s : Chip) {a x : Nat} (h : x ≠ a) (b : Byte) : (s.setByte a b).byte x = s.byte x := by
  simp only [Chip.byte, Chip.setByte]
  exact lookupD_putAt_other _ _ h _ _

/-- A store of bytes leaves every byte outside them alone. -/
theorem Chip.byte_setBytes_other (l : List Byte) :
    ∀ (s : Chip) (a x : Nat), (x < a ∨ a + l.length ≤ x) → (s.setBytes a l).byte x = s.byte x := by
  induction l with
  | nil => intro s a x _; rfl
  | cons b l ih =>
    intro s a x h
    simp only [List.length_cons] at h
    rw [Chip.setBytes, ih _ _ _ (by omega), Chip.byte_setByte_other _ (by omega)]

/-- A store of bytes is read back byte by byte. -/
theorem Chip.byte_setBytes (l : List Byte) :
    ∀ (s : Chip) (a i : Nat) (h : i < l.length), (s.setBytes a l).byte (a + i) = l[i] := by
  induction l with
  | nil => intro s a i h; simp at h
  | cons b l ih =>
    intro s a i h
    cases i with
    | zero => rw [Chip.setBytes, Chip.byte_setBytes_other _ _ _ _ (by omega)]; exact Chip.byte_setByte_self ..
    | succ i =>
      have := ih (s.setByte a b) (a + 1) i (by simpa using h)
      simpa [Chip.setBytes, Nat.add_assoc, Nat.add_comm 1 i] using this

/-! ### The canonical form -/

theorem Memory.wf_iff (m : List Host.Cell) :
    Memory.wf m = true ↔ rising m = true ∧ ∀ p ∈ m, p.2 ≠ Chip.unlisted p.1 := by
  simp [Memory.wf]

theorem Memory.wf_putAt {m : List Host.Cell} {a : Nat} {b : Byte} (h : Memory.wf m = true) :
    Memory.wf (putAt (Chip.unlisted a) a b m) = true := by
  rw [Memory.wf_iff] at *
  refine ⟨rising_putAt h.1, ?_⟩
  intro p hp
  unfold putAt at hp
  split at hp
  · rw [eraseAt_eq_filter] at hp
    exact h.2 p (List.mem_filter.1 hp).1
  · rename_i hb
    rcases mem_insertAt hp with rfl | hp
    · exact hb
    · exact h.2 p hp

theorem Memory.wf_filter {m : List Host.Cell} (f : Host.Cell → Bool) (h : Memory.wf m = true) :
    Memory.wf (m.filter f) = true := by
  rw [Memory.wf_iff] at *
  exact ⟨rising_filter f h.1, fun p hp => h.2 p (List.mem_filter.1 hp).1⟩

theorem Memory.wf_setByte (s : Chip) (a : Nat) (b : Byte) (h : Memory.wf s.mem = true) :
    Memory.wf (s.setByte a b).mem = true := Memory.wf_putAt h

theorem Memory.wf_setBytes (l : List Byte) :
    ∀ (s : Chip) (a : Nat), Memory.wf s.mem = true → Memory.wf (s.setBytes a l).mem = true := by
  induction l with
  | nil => intro s a h; exact h
  | cons b l ih => intro s a h; exact ih _ _ (Memory.wf_setByte s a b h)

theorem Memory.wf_store (s : Chip) (a n v : Nat) (h : Memory.wf s.mem = true) : Memory.wf (s.store a n v).mem = true :=
  Memory.wf_setBytes _ _ _ h

theorem Memory.wf_fill (s : Chip) (a n : Nat) (b : Byte) (h : Memory.wf s.mem = true) :
    Memory.wf (s.fill a n b).mem = true := Memory.wf_setBytes _ _ _ h

/-- Reset memory has the canonical form. -/
theorem Memory.wf_reset : Memory.wf State.reset.chip.mem = true := rfl

end Sys2Proof.Machine
end

