-- ==== Sys2Proof/Laws/Settle.lean ====
section
/-! SUPPORT. What settling a command's outcome leaves alone, and what it establishes: levels seen, no waiting hart whose line stands. -/

namespace Sys2Proof.Machine

/-- Two modules that differ at most in the interrupt controller and in which harts wait. -/
structure Chip.SameBut (c d : Chip) : Prop where
  now : c.now = d.now
  regs : c.regs = d.regs
  mem : c.mem = d.mem
  ecc : c.ecc = d.ecc
  free : c.free = d.free
  fab : c.fab = d.fab
  log : c.log = d.log
  bus : c.bus = d.bus
  pwr : c.pwr = d.pwr
  cfg : c.cfg = d.cfg
  img : c.img = d.img
  rgn : c.rgn = d.rgn
  cl : c.cl = d.cl
  adc : c.adc = d.adc
  meas : c.meas = d.meas
  pos : c.pos = d.pos
  cle : c.cle = d.cle
  slice : c.slice = d.slice
  pwmG : c.pwmG = d.pwmG
  isl : c.isl = d.isl
  safe : c.safe = d.safe
  chm : c.chm = d.chm
  sem : c.sem = d.sem
  memS : c.memS = d.memS
  hw : c.hw = d.hw
  can : c.can = d.can
  porch : c.porch = d.porch
  ring : c.ring = d.ring
  twin : c.twin = d.twin

theorem Chip.SameBut.refl (c : Chip) : c.SameBut c := by constructor <;> rfl

theorem Chip.SameBut.trans {a b c : Chip} (h : a.SameBut b) (k : b.SameBut c) : a.SameBut c where
  now := h.now.trans k.now
  regs := h.regs.trans k.regs
  mem := h.mem.trans k.mem
  ecc := h.ecc.trans k.ecc
  free := h.free.trans k.free
  fab := h.fab.trans k.fab
  log := h.log.trans k.log
  bus := h.bus.trans k.bus
  pwr := h.pwr.trans k.pwr
  cfg := h.cfg.trans k.cfg
  img := h.img.trans k.img
  rgn := h.rgn.trans k.rgn
  cl := h.cl.trans k.cl
  adc := h.adc.trans k.adc
  meas := h.meas.trans k.meas
  pos := h.pos.trans k.pos
  cle := h.cle.trans k.cle
  slice := h.slice.trans k.slice
  pwmG := h.pwmG.trans k.pwmG
  isl := h.isl.trans k.isl
  safe := h.safe.trans k.safe
  chm := h.chm.trans k.chm
  sem := h.sem.trans k.sem
  memS := h.memS.trans k.memS
  hw := h.hw.trans k.hw
  can := h.can.trans k.can
  porch := h.porch.trans k.porch
  ring := h.ring.trans k.ring
  twin := h.twin.trans k.twin

theorem forEach_induct {α σ : Type} {P : σ → σ → Prop} (refl : ∀ s, P s s) (trans : ∀ a b c, P a b → P b c → P a c)
    (f : α → σ → σ) (step : ∀ a s, P (f a s) s) : ∀ (l : List α) (s : σ), P (forEach l f s) s := by
  intro l
  induction l with
  | nil => intro s; exact refl s
  | cons a l ih => intro s; exact trans _ _ _ (ih (f a s)) (step a s)

theorem Chip.SameBut.forEach {α : Type} (f : α → Chip → Chip) (step : ∀ a s, (f a s).SameBut s) (l : List α) (s : Chip) :
    (forEach l f s).SameBut s :=
  forEach_induct Chip.SameBut.refl (fun _ _ _ => Chip.SameBut.trans) f step l s

theorem Chip.SameBut.modGroup (s : Chip) (c g : Nat) (f : GroupS → GroupS) : (s.modGroup c g f).SameBut s := by
  constructor <;> rfl

theorem Chip.SameBut.irq (s : Chip) (q : IrqS) : Chip.SameBut { s with irq := q } s := by constructor <;> rfl

theorem Chip.SameBut.modHart (s : Chip) (n : Nat) (f : HartS → HartS) : (s.modHart n f).SameBut s := by
  constructor <;> rfl

theorem Chip.SameBut.moderate (s : Chip) (n : Nat) : (s.moderate n).SameBut s := by
  unfold Chip.moderate; split
  · exact .modGroup ..
  · exact .refl _

theorem Chip.SameBut.settleGroup (s : Chip) (c g : Nat) : (s.settleGroup c g).SameBut s := by
  unfold Chip.settleGroup
  simp only
  split
  · exact .modGroup ..
  · exact .refl _

theorem Chip.SameBut.settleLine (s : Chip) (c : Nat) : (s.settleLine c).SameBut s := by
  unfold Chip.settleLine
  simp only
  split
  · exact (Chip.SameBut.modHart ..).trans (.irq ..)
  · exact .irq ..

/-- Settling changes nothing but the interrupt controller and the waits. -/
theorem Chip.settle_same (s : Chip) : s.settle.SameBut s := by
  unfold Chip.settle
  refine (Chip.SameBut.forEach _ (fun c t => .settleLine t c) _ _).trans ?_
  refine (Chip.SameBut.forEach _ (fun c t => .forEach _ (fun g u => .settleGroup u c g) _ _) _ _).trans ?_
  refine (Chip.SameBut.forEach _ (fun n t => .moderate t n) _ _).trans ?_
  exact .irq ..

@[simp] theorem Chip.settle_now (s : Chip) : s.settle.now = s.now := s.settle_same.now
@[simp] theorem Chip.settle_regs (s : Chip) : s.settle.regs = s.regs := s.settle_same.regs
@[simp] theorem Chip.settle_mem (s : Chip) : s.settle.mem = s.mem := s.settle_same.mem
@[simp] theorem Chip.settle_ecc (s : Chip) : s.settle.ecc = s.ecc := s.settle_same.ecc
@[simp] theorem Chip.settle_free (s : Chip) : s.settle.free = s.free := s.settle_same.free
@[simp] theorem Chip.settle_fab (s : Chip) : s.settle.fab = s.fab := s.settle_same.fab
@[simp] theorem Chip.settle_log (s : Chip) : s.settle.log = s.log := s.settle_same.log
@[simp] theorem Chip.settle_bus (s : Chip) : s.settle.bus = s.bus := s.settle_same.bus
@[simp] theorem Chip.settle_pwr (s : Chip) : s.settle.pwr = s.pwr := s.settle_same.pwr
@[simp] theorem Chip.settle_cfg (s : Chip) : s.settle.cfg = s.cfg := s.settle_same.cfg
@[simp] theorem Chip.settle_img (s : Chip) : s.settle.img = s.img := s.settle_same.img
@[simp] theorem Chip.settle_rgn (s : Chip) : s.settle.rgn = s.rgn := s.settle_same.rgn
@[simp] theorem Chip.settle_cl (s : Chip) : s.settle.cl = s.cl := s.settle_same.cl
@[simp] theorem Chip.settle_adc (s : Chip) : s.settle.adc = s.adc := s.settle_same.adc
@[simp] theorem Chip.settle_meas (s : Chip) : s.settle.meas = s.meas := s.settle_same.meas
@[simp] theorem Chip.settle_pos (s : Chip) : s.settle.pos = s.pos := s.settle_same.pos
@[simp] theorem Chip.settle_cle (s : Chip) : s.settle.cle = s.cle := s.settle_same.cle
@[simp] theorem Chip.settle_slice (s : Chip) : s.settle.slice = s.slice := s.settle_same.slice
@[simp] theorem Chip.settle_pwmG (s : Chip) : s.settle.pwmG = s.pwmG := s.settle_same.pwmG
@[simp] theorem Chip.settle_isl (s : Chip) : s.settle.isl = s.isl := s.settle_same.isl
@[simp] theorem Chip.settle_safe (s : Chip) : s.settle.safe = s.safe := s.settle_same.safe
@[simp] theorem Chip.settle_chm (s : Chip) : s.settle.chm = s.chm := s.settle_same.chm
@[simp] theorem Chip.settle_sem (s : Chip) : s.settle.sem = s.sem := s.settle_same.sem
@[simp] theorem Chip.settle_memS (s : Chip) : s.settle.memS = s.memS := s.settle_same.memS
@[simp] theorem Chip.settle_hw (s : Chip) : s.settle.hw = s.hw := s.settle_same.hw
@[simp] theorem Chip.settle_can (s : Chip) : s.settle.can = s.can := s.settle_same.can
@[simp] theorem Chip.settle_porch (s : Chip) : s.settle.porch = s.porch := s.settle_same.porch
@[simp] theorem Chip.settle_ring (s : Chip) : s.settle.ring = s.ring := s.settle_same.ring
@[simp] theorem Chip.settle_twin (s : Chip) : s.settle.twin = s.twin := s.settle_same.twin

@[simp] theorem Chip.settle_get (s : Chip) (f : Field) : s.settle.get f = s.get f := by simp [Chip.get]
@[simp] theorem Chip.settle_byte (s : Chip) (a : Nat) : s.settle.byte a = s.byte a := by simp [Chip.byte]

/-! ### The harts -/

theorem updNth_map {α β : Type} (g : α → β) (f : α → α) (h : ∀ a, g (f a) = g a) :
    ∀ (n : Nat) (l : List α), (updNth f n l).map g = l.map g := by
  intro n l
  induction l generalizing n with
  | nil => cases n <;> rfl
  | cons a l ih => cases n <;> simp [updNth, h, ih]

/-- Settling changes nothing of a hart but its wait. -/
theorem Chip.settle_hart (s : Chip) : s.settle.agree s .hart := by
  have key : ∀ (α : Type) (l : List α) (f : α → Chip → Chip) (s : Chip), (∀ a t, (f a t).agree t .hart) →
      (forEach l f s).agree s .hart := fun α l f s h =>
    forEach_induct (P := fun a b => a.agree b .hart) (fun _ => rfl) (fun _ _ _ h k => h.trans k) f h l s
  have hl : ∀ (c : Nat) (t : Chip), (t.settleLine c).agree t .hart := by
    intro c t
    unfold Chip.settleLine
    simp only
    split
    · exact updNth_map (fun h : HartS => { h with wfi := false }) (fun h => { h with wfi := false }) (fun _ => rfl) c t.hart
    · rfl
  have hg : ∀ (c g : Nat) (t : Chip), (t.settleGroup c g).agree t .hart := by
    intro c g t
    unfold Chip.settleGroup
    simp only
    split <;> rfl
  have hm : ∀ (n : Nat) (t : Chip), (t.moderate n).agree t .hart := by
    intro n t
    unfold Chip.moderate
    split <;> rfl
  unfold Chip.settle
  refine (key _ _ _ _ hl).trans ?_
  refine (key _ _ _ _ fun c t => key _ _ _ _ fun g u => hg c g u).trans ?_
  refine (key _ _ _ _ hm).trans ?_
  rfl

/-! ### Commands -/

/-- A command of the always-on logic leaves the queue alone and answers a next state. -/
theorem State.actRaw_next (s : State) (f : Chip → Chip) :
    s.actRaw f = .next { s with chip := (f s.chip).settle } := rfl

/-- A command of the control die answers a next state: its effect where the die is out of reset. -/
theorem State.act_next (s : State) (f : Chip → Chip) (h : s.chip.pwr.dieReset = false) :
    s.act f = .next { s with chip := (f s.chip).settle } := by
  simp [State.act, h, State.actRaw]

/-- In die reset a command of the control die has no effect. -/
theorem State.act_reset (s : State) (f : Chip → Chip) (h : s.chip.pwr.dieReset = true) : s.act f = .next s := by
  simp [State.act, h]

theorem State.actIf_next (s : State) (ok : Bool) (f : Chip → Chip) (hk : ok = true) (h : s.chip.pwr.dieReset = false) :
    s.actIf ok f = .next { s with chip := (f s.chip).settle } := by
  simp [State.actIf, hk, State.act, h, State.actRaw]

theorem State.actIf_fault (s : State) (ok : Bool) (f : Chip → Chip) (hk : ok = false) :
    s.actIf ok f = .fault .illFormed := by
  simp [State.actIf, hk]

end Sys2Proof.Machine
end

