-- ==== Sys2Proof/Laws/State.lean ====
section
/-! SUPPORT. The parts of the module that each named update leaves alone, one lemma per part, by definition. -/

namespace Sys2Proof.Machine

section
variable (s : Chip)

@[simp] theorem Chip.assign_now (f : Field) (v : Nat) : (s.assign f v).now = s.now := rfl
@[simp] theorem Chip.assign_mem (f : Field) (v : Nat) : (s.assign f v).mem = s.mem := rfl
@[simp] theorem Chip.assign_ecc (f : Field) (v : Nat) : (s.assign f v).ecc = s.ecc := rfl
@[simp] theorem Chip.assign_free (f : Field) (v : Nat) : (s.assign f v).free = s.free := rfl
@[simp] theorem Chip.assign_fab (f : Field) (v : Nat) : (s.assign f v).fab = s.fab := rfl
@[simp] theorem Chip.assign_log (f : Field) (v : Nat) : (s.assign f v).log = s.log := rfl
@[simp] theorem Chip.assign_bus (f : Field) (v : Nat) : (s.assign f v).bus = s.bus := rfl
@[simp] theorem Chip.assign_pwr (f : Field) (v : Nat) : (s.assign f v).pwr = s.pwr := rfl
@[simp] theorem Chip.assign_cfg (f : Field) (v : Nat) : (s.assign f v).cfg = s.cfg := rfl
@[simp] theorem Chip.assign_img (f : Field) (v : Nat) : (s.assign f v).img = s.img := rfl
@[simp] theorem Chip.assign_rgn (f : Field) (v : Nat) : (s.assign f v).rgn = s.rgn := rfl
@[simp] theorem Chip.assign_cl (f : Field) (v : Nat) : (s.assign f v).cl = s.cl := rfl
@[simp] theorem Chip.assign_adc (f : Field) (v : Nat) : (s.assign f v).adc = s.adc := rfl
@[simp] theorem Chip.assign_meas (f : Field) (v : Nat) : (s.assign f v).meas = s.meas := rfl
@[simp] theorem Chip.assign_pos (f : Field) (v : Nat) : (s.assign f v).pos = s.pos := rfl
@[simp] theorem Chip.assign_cle (f : Field) (v : Nat) : (s.assign f v).cle = s.cle := rfl
@[simp] theorem Chip.assign_slice (f : Field) (v : Nat) : (s.assign f v).slice = s.slice := rfl
@[simp] theorem Chip.assign_pwmG (f : Field) (v : Nat) : (s.assign f v).pwmG = s.pwmG := rfl
@[simp] theorem Chip.assign_isl (f : Field) (v : Nat) : (s.assign f v).isl = s.isl := rfl
@[simp] theorem Chip.assign_safe (f : Field) (v : Nat) : (s.assign f v).safe = s.safe := rfl
@[simp] theorem Chip.assign_chm (f : Field) (v : Nat) : (s.assign f v).chm = s.chm := rfl
@[simp] theorem Chip.assign_hart (f : Field) (v : Nat) : (s.assign f v).hart = s.hart := rfl
@[simp] theorem Chip.assign_irq (f : Field) (v : Nat) : (s.assign f v).irq = s.irq := rfl
@[simp] theorem Chip.assign_sem (f : Field) (v : Nat) : (s.assign f v).sem = s.sem := rfl
@[simp] theorem Chip.assign_memS (f : Field) (v : Nat) : (s.assign f v).memS = s.memS := rfl
@[simp] theorem Chip.assign_hw (f : Field) (v : Nat) : (s.assign f v).hw = s.hw := rfl
@[simp] theorem Chip.assign_can (f : Field) (v : Nat) : (s.assign f v).can = s.can := rfl
@[simp] theorem Chip.assign_porch (f : Field) (v : Nat) : (s.assign f v).porch = s.porch := rfl
@[simp] theorem Chip.assign_ring (f : Field) (v : Nat) : (s.assign f v).ring = s.ring := rfl
@[simp] theorem Chip.assign_twin (f : Field) (v : Nat) : (s.assign f v).twin = s.twin := rfl

@[simp] theorem Chip.set_now (f : Field) (v : Nat) : (s.set f v).now = s.now := rfl
@[simp] theorem Chip.set_mem (f : Field) (v : Nat) : (s.set f v).mem = s.mem := rfl
@[simp] theorem Chip.set_ecc (f : Field) (v : Nat) : (s.set f v).ecc = s.ecc := rfl
@[simp] theorem Chip.set_free (f : Field) (v : Nat) : (s.set f v).free = s.free := rfl
@[simp] theorem Chip.set_fab (f : Field) (v : Nat) : (s.set f v).fab = s.fab := rfl
@[simp] theorem Chip.set_log (f : Field) (v : Nat) : (s.set f v).log = s.log := rfl
@[simp] theorem Chip.set_bus (f : Field) (v : Nat) : (s.set f v).bus = s.bus := rfl
@[simp] theorem Chip.set_pwr (f : Field) (v : Nat) : (s.set f v).pwr = s.pwr := rfl
@[simp] theorem Chip.set_cfg (f : Field) (v : Nat) : (s.set f v).cfg = s.cfg := rfl
@[simp] theorem Chip.set_img (f : Field) (v : Nat) : (s.set f v).img = s.img := rfl
@[simp] theorem Chip.set_rgn (f : Field) (v : Nat) : (s.set f v).rgn = s.rgn := rfl
@[simp] theorem Chip.set_cl (f : Field) (v : Nat) : (s.set f v).cl = s.cl := rfl
@[simp] theorem Chip.set_adc (f : Field) (v : Nat) : (s.set f v).adc = s.adc := rfl
@[simp] theorem Chip.set_meas (f : Field) (v : Nat) : (s.set f v).meas = s.meas := rfl
@[simp] theorem Chip.set_pos (f : Field) (v : Nat) : (s.set f v).pos = s.pos := rfl
@[simp] theorem Chip.set_cle (f : Field) (v : Nat) : (s.set f v).cle = s.cle := rfl
@[simp] theorem Chip.set_slice (f : Field) (v : Nat) : (s.set f v).slice = s.slice := rfl
@[simp] theorem Chip.set_pwmG (f : Field) (v : Nat) : (s.set f v).pwmG = s.pwmG := rfl
@[simp] theorem Chip.set_isl (f : Field) (v : Nat) : (s.set f v).isl = s.isl := rfl
@[simp] theorem Chip.set_safe (f : Field) (v : Nat) : (s.set f v).safe = s.safe := rfl
@[simp] theorem Chip.set_chm (f : Field) (v : Nat) : (s.set f v).chm = s.chm := rfl
@[simp] theorem Chip.set_hart (f : Field) (v : Nat) : (s.set f v).hart = s.hart := rfl
@[simp] theorem Chip.set_sem (f : Field) (v : Nat) : (s.set f v).sem = s.sem := rfl
@[simp] theorem Chip.set_memS (f : Field) (v : Nat) : (s.set f v).memS = s.memS := rfl
@[simp] theorem Chip.set_hw (f : Field) (v : Nat) : (s.set f v).hw = s.hw := rfl
@[simp] theorem Chip.set_can (f : Field) (v : Nat) : (s.set f v).can = s.can := rfl
@[simp] theorem Chip.set_porch (f : Field) (v : Nat) : (s.set f v).porch = s.porch := rfl
@[simp] theorem Chip.set_ring (f : Field) (v : Nat) : (s.set f v).ring = s.ring := rfl
@[simp] theorem Chip.set_twin (f : Field) (v : Nat) : (s.set f v).twin = s.twin := rfl

@[simp] theorem Chip.setBitOf_now (f : Field) (i : Nat) : (s.setBitOf f i).now = s.now := rfl
@[simp] theorem Chip.setBitOf_mem (f : Field) (i : Nat) : (s.setBitOf f i).mem = s.mem := rfl
@[simp] theorem Chip.setBitOf_ecc (f : Field) (i : Nat) : (s.setBitOf f i).ecc = s.ecc := rfl
@[simp] theorem Chip.setBitOf_free (f : Field) (i : Nat) : (s.setBitOf f i).free = s.free := rfl
@[simp] theorem Chip.setBitOf_fab (f : Field) (i : Nat) : (s.setBitOf f i).fab = s.fab := rfl
@[simp] theorem Chip.setBitOf_log (f : Field) (i : Nat) : (s.setBitOf f i).log = s.log := rfl
@[simp] theorem Chip.setBitOf_bus (f : Field) (i : Nat) : (s.setBitOf f i).bus = s.bus := rfl
@[simp] theorem Chip.setBitOf_pwr (f : Field) (i : Nat) : (s.setBitOf f i).pwr = s.pwr := rfl
@[simp] theorem Chip.setBitOf_cfg (f : Field) (i : Nat) : (s.setBitOf f i).cfg = s.cfg := rfl
@[simp] theorem Chip.setBitOf_img (f : Field) (i : Nat) : (s.setBitOf f i).img = s.img := rfl
@[simp] theorem Chip.setBitOf_rgn (f : Field) (i : Nat) : (s.setBitOf f i).rgn = s.rgn := rfl
@[simp] theorem Chip.setBitOf_cl (f : Field) (i : Nat) : (s.setBitOf f i).cl = s.cl := rfl
@[simp] theorem Chip.setBitOf_adc (f : Field) (i : Nat) : (s.setBitOf f i).adc = s.adc := rfl
@[simp] theorem Chip.setBitOf_meas (f : Field) (i : Nat) : (s.setBitOf f i).meas = s.meas := rfl
@[simp] theorem Chip.setBitOf_pos (f : Field) (i : Nat) : (s.setBitOf f i).pos = s.pos := rfl
@[simp] theorem Chip.setBitOf_cle (f : Field) (i : Nat) : (s.setBitOf f i).cle = s.cle := rfl
@[simp] theorem Chip.setBitOf_slice (f : Field) (i : Nat) : (s.setBitOf f i).slice = s.slice := rfl
@[simp] theorem Chip.setBitOf_pwmG (f : Field) (i : Nat) : (s.setBitOf f i).pwmG = s.pwmG := rfl
@[simp] theorem Chip.setBitOf_isl (f : Field) (i : Nat) : (s.setBitOf f i).isl = s.isl := rfl
@[simp] theorem Chip.setBitOf_safe (f : Field) (i : Nat) : (s.setBitOf f i).safe = s.safe := rfl
@[simp] theorem Chip.setBitOf_chm (f : Field) (i : Nat) : (s.setBitOf f i).chm = s.chm := rfl
@[simp] theorem Chip.setBitOf_hart (f : Field) (i : Nat) : (s.setBitOf f i).hart = s.hart := rfl
@[simp] theorem Chip.setBitOf_sem (f : Field) (i : Nat) : (s.setBitOf f i).sem = s.sem := rfl
@[simp] theorem Chip.setBitOf_memS (f : Field) (i : Nat) : (s.setBitOf f i).memS = s.memS := rfl
@[simp] theorem Chip.setBitOf_hw (f : Field) (i : Nat) : (s.setBitOf f i).hw = s.hw := rfl
@[simp] theorem Chip.setBitOf_can (f : Field) (i : Nat) : (s.setBitOf f i).can = s.can := rfl
@[simp] theorem Chip.setBitOf_porch (f : Field) (i : Nat) : (s.setBitOf f i).porch = s.porch := rfl
@[simp] theorem Chip.setBitOf_ring (f : Field) (i : Nat) : (s.setBitOf f i).ring = s.ring := rfl
@[simp] theorem Chip.setBitOf_twin (f : Field) (i : Nat) : (s.setBitOf f i).twin = s.twin := rfl

@[simp] theorem Chip.put_now (f : Field) (b : Bool) : (s.put f b).now = s.now := rfl
@[simp] theorem Chip.put_mem (f : Field) (b : Bool) : (s.put f b).mem = s.mem := rfl
@[simp] theorem Chip.put_ecc (f : Field) (b : Bool) : (s.put f b).ecc = s.ecc := rfl
@[simp] theorem Chip.put_free (f : Field) (b : Bool) : (s.put f b).free = s.free := rfl
@[simp] theorem Chip.put_fab (f : Field) (b : Bool) : (s.put f b).fab = s.fab := rfl
@[simp] theorem Chip.put_log (f : Field) (b : Bool) : (s.put f b).log = s.log := rfl
@[simp] theorem Chip.put_bus (f : Field) (b : Bool) : (s.put f b).bus = s.bus := rfl
@[simp] theorem Chip.put_pwr (f : Field) (b : Bool) : (s.put f b).pwr = s.pwr := rfl
@[simp] theorem Chip.put_cfg (f : Field) (b : Bool) : (s.put f b).cfg = s.cfg := rfl
@[simp] theorem Chip.put_img (f : Field) (b : Bool) : (s.put f b).img = s.img := rfl
@[simp] theorem Chip.put_rgn (f : Field) (b : Bool) : (s.put f b).rgn = s.rgn := rfl
@[simp] theorem Chip.put_cl (f : Field) (b : Bool) : (s.put f b).cl = s.cl := rfl
@[simp] theorem Chip.put_adc (f : Field) (b : Bool) : (s.put f b).adc = s.adc := rfl
@[simp] theorem Chip.put_meas (f : Field) (b : Bool) : (s.put f b).meas = s.meas := rfl
@[simp] theorem Chip.put_pos (f : Field) (b : Bool) : (s.put f b).pos = s.pos := rfl
@[simp] theorem Chip.put_cle (f : Field) (b : Bool) : (s.put f b).cle = s.cle := rfl
@[simp] theorem Chip.put_slice (f : Field) (b : Bool) : (s.put f b).slice = s.slice := rfl
@[simp] theorem Chip.put_pwmG (f : Field) (b : Bool) : (s.put f b).pwmG = s.pwmG := rfl
@[simp] theorem Chip.put_isl (f : Field) (b : Bool) : (s.put f b).isl = s.isl := rfl
@[simp] theorem Chip.put_safe (f : Field) (b : Bool) : (s.put f b).safe = s.safe := rfl
@[simp] theorem Chip.put_chm (f : Field) (b : Bool) : (s.put f b).chm = s.chm := rfl
@[simp] theorem Chip.put_hart (f : Field) (b : Bool) : (s.put f b).hart = s.hart := rfl
@[simp] theorem Chip.put_sem (f : Field) (b : Bool) : (s.put f b).sem = s.sem := rfl
@[simp] theorem Chip.put_memS (f : Field) (b : Bool) : (s.put f b).memS = s.memS := rfl
@[simp] theorem Chip.put_hw (f : Field) (b : Bool) : (s.put f b).hw = s.hw := rfl
@[simp] theorem Chip.put_can (f : Field) (b : Bool) : (s.put f b).can = s.can := rfl
@[simp] theorem Chip.put_porch (f : Field) (b : Bool) : (s.put f b).porch = s.porch := rfl
@[simp] theorem Chip.put_ring (f : Field) (b : Bool) : (s.put f b).ring = s.ring := rfl
@[simp] theorem Chip.put_twin (f : Field) (b : Bool) : (s.put f b).twin = s.twin := rfl

@[simp] theorem Chip.bump_now (f : Field) (m : Nat) : (s.bump f m).now = s.now := rfl
@[simp] theorem Chip.bump_mem (f : Field) (m : Nat) : (s.bump f m).mem = s.mem := rfl
@[simp] theorem Chip.bump_ecc (f : Field) (m : Nat) : (s.bump f m).ecc = s.ecc := rfl
@[simp] theorem Chip.bump_free (f : Field) (m : Nat) : (s.bump f m).free = s.free := rfl
@[simp] theorem Chip.bump_fab (f : Field) (m : Nat) : (s.bump f m).fab = s.fab := rfl
@[simp] theorem Chip.bump_log (f : Field) (m : Nat) : (s.bump f m).log = s.log := rfl
@[simp] theorem Chip.bump_bus (f : Field) (m : Nat) : (s.bump f m).bus = s.bus := rfl
@[simp] theorem Chip.bump_pwr (f : Field) (m : Nat) : (s.bump f m).pwr = s.pwr := rfl
@[simp] theorem Chip.bump_cfg (f : Field) (m : Nat) : (s.bump f m).cfg = s.cfg := rfl
@[simp] theorem Chip.bump_img (f : Field) (m : Nat) : (s.bump f m).img = s.img := rfl
@[simp] theorem Chip.bump_rgn (f : Field) (m : Nat) : (s.bump f m).rgn = s.rgn := rfl
@[simp] theorem Chip.bump_cl (f : Field) (m : Nat) : (s.bump f m).cl = s.cl := rfl
@[simp] theorem Chip.bump_adc (f : Field) (m : Nat) : (s.bump f m).adc = s.adc := rfl
@[simp] theorem Chip.bump_meas (f : Field) (m : Nat) : (s.bump f m).meas = s.meas := rfl
@[simp] theorem Chip.bump_pos (f : Field) (m : Nat) : (s.bump f m).pos = s.pos := rfl
@[simp] theorem Chip.bump_cle (f : Field) (m : Nat) : (s.bump f m).cle = s.cle := rfl
@[simp] theorem Chip.bump_slice (f : Field) (m : Nat) : (s.bump f m).slice = s.slice := rfl
@[simp] theorem Chip.bump_pwmG (f : Field) (m : Nat) : (s.bump f m).pwmG = s.pwmG := rfl
@[simp] theorem Chip.bump_isl (f : Field) (m : Nat) : (s.bump f m).isl = s.isl := rfl
@[simp] theorem Chip.bump_safe (f : Field) (m : Nat) : (s.bump f m).safe = s.safe := rfl
@[simp] theorem Chip.bump_chm (f : Field) (m : Nat) : (s.bump f m).chm = s.chm := rfl
@[simp] theorem Chip.bump_hart (f : Field) (m : Nat) : (s.bump f m).hart = s.hart := rfl
@[simp] theorem Chip.bump_sem (f : Field) (m : Nat) : (s.bump f m).sem = s.sem := rfl
@[simp] theorem Chip.bump_memS (f : Field) (m : Nat) : (s.bump f m).memS = s.memS := rfl
@[simp] theorem Chip.bump_hw (f : Field) (m : Nat) : (s.bump f m).hw = s.hw := rfl
@[simp] theorem Chip.bump_can (f : Field) (m : Nat) : (s.bump f m).can = s.can := rfl
@[simp] theorem Chip.bump_porch (f : Field) (m : Nat) : (s.bump f m).porch = s.porch := rfl
@[simp] theorem Chip.bump_ring (f : Field) (m : Nat) : (s.bump f m).ring = s.ring := rfl
@[simp] theorem Chip.bump_twin (f : Field) (m : Nat) : (s.bump f m).twin = s.twin := rfl

@[simp] theorem Chip.setByte_now (a : Nat) (b : Byte) : (s.setByte a b).now = s.now := rfl
@[simp] theorem Chip.setByte_regs (a : Nat) (b : Byte) : (s.setByte a b).regs = s.regs := rfl
@[simp] theorem Chip.setByte_ecc (a : Nat) (b : Byte) : (s.setByte a b).ecc = s.ecc := rfl
@[simp] theorem Chip.setByte_free (a : Nat) (b : Byte) : (s.setByte a b).free = s.free := rfl
@[simp] theorem Chip.setByte_fab (a : Nat) (b : Byte) : (s.setByte a b).fab = s.fab := rfl
@[simp] theorem Chip.setByte_log (a : Nat) (b : Byte) : (s.setByte a b).log = s.log := rfl
@[simp] theorem Chip.setByte_bus (a : Nat) (b : Byte) : (s.setByte a b).bus = s.bus := rfl
@[simp] theorem Chip.setByte_pwr (a : Nat) (b : Byte) : (s.setByte a b).pwr = s.pwr := rfl
@[simp] theorem Chip.setByte_cfg (a : Nat) (b : Byte) : (s.setByte a b).cfg = s.cfg := rfl
@[simp] theorem Chip.setByte_img (a : Nat) (b : Byte) : (s.setByte a b).img = s.img := rfl
@[simp] theorem Chip.setByte_rgn (a : Nat) (b : Byte) : (s.setByte a b).rgn = s.rgn := rfl
@[simp] theorem Chip.setByte_cl (a : Nat) (b : Byte) : (s.setByte a b).cl = s.cl := rfl
@[simp] theorem Chip.setByte_adc (a : Nat) (b : Byte) : (s.setByte a b).adc = s.adc := rfl
@[simp] theorem Chip.setByte_meas (a : Nat) (b : Byte) : (s.setByte a b).meas = s.meas := rfl
@[simp] theorem Chip.setByte_pos (a : Nat) (b : Byte) : (s.setByte a b).pos = s.pos := rfl
@[simp] theorem Chip.setByte_cle (a : Nat) (b : Byte) : (s.setByte a b).cle = s.cle := rfl
@[simp] theorem Chip.setByte_slice (a : Nat) (b : Byte) : (s.setByte a b).slice = s.slice := rfl
@[simp] theorem Chip.setByte_pwmG (a : Nat) (b : Byte) : (s.setByte a b).pwmG = s.pwmG := rfl
@[simp] theorem Chip.setByte_isl (a : Nat) (b : Byte) : (s.setByte a b).isl = s.isl := rfl
@[simp] theorem Chip.setByte_safe (a : Nat) (b : Byte) : (s.setByte a b).safe = s.safe := rfl
@[simp] theorem Chip.setByte_chm (a : Nat) (b : Byte) : (s.setByte a b).chm = s.chm := rfl
@[simp] theorem Chip.setByte_hart (a : Nat) (b : Byte) : (s.setByte a b).hart = s.hart := rfl
@[simp] theorem Chip.setByte_irq (a : Nat) (b : Byte) : (s.setByte a b).irq = s.irq := rfl
@[simp] theorem Chip.setByte_sem (a : Nat) (b : Byte) : (s.setByte a b).sem = s.sem := rfl
@[simp] theorem Chip.setByte_memS (a : Nat) (b : Byte) : (s.setByte a b).memS = s.memS := rfl
@[simp] theorem Chip.setByte_hw (a : Nat) (b : Byte) : (s.setByte a b).hw = s.hw := rfl
@[simp] theorem Chip.setByte_can (a : Nat) (b : Byte) : (s.setByte a b).can = s.can := rfl
@[simp] theorem Chip.setByte_porch (a : Nat) (b : Byte) : (s.setByte a b).porch = s.porch := rfl
@[simp] theorem Chip.setByte_ring (a : Nat) (b : Byte) : (s.setByte a b).ring = s.ring := rfl
@[simp] theorem Chip.setByte_twin (a : Nat) (b : Byte) : (s.setByte a b).twin = s.twin := rfl

@[simp] theorem Chip.useFree_now : (s.useFree).now = s.now := rfl
@[simp] theorem Chip.useFree_regs : (s.useFree).regs = s.regs := rfl
@[simp] theorem Chip.useFree_mem : (s.useFree).mem = s.mem := rfl
@[simp] theorem Chip.useFree_ecc : (s.useFree).ecc = s.ecc := rfl
@[simp] theorem Chip.useFree_fab : (s.useFree).fab = s.fab := rfl
@[simp] theorem Chip.useFree_log : (s.useFree).log = s.log := rfl
@[simp] theorem Chip.useFree_bus : (s.useFree).bus = s.bus := rfl
@[simp] theorem Chip.useFree_pwr : (s.useFree).pwr = s.pwr := rfl
@[simp] theorem Chip.useFree_cfg : (s.useFree).cfg = s.cfg := rfl
@[simp] theorem Chip.useFree_img : (s.useFree).img = s.img := rfl
@[simp] theorem Chip.useFree_rgn : (s.useFree).rgn = s.rgn := rfl
@[simp] theorem Chip.useFree_cl : (s.useFree).cl = s.cl := rfl
@[simp] theorem Chip.useFree_adc : (s.useFree).adc = s.adc := rfl
@[simp] theorem Chip.useFree_meas : (s.useFree).meas = s.meas := rfl
@[simp] theorem Chip.useFree_pos : (s.useFree).pos = s.pos := rfl
@[simp] theorem Chip.useFree_cle : (s.useFree).cle = s.cle := rfl
@[simp] theorem Chip.useFree_slice : (s.useFree).slice = s.slice := rfl
@[simp] theorem Chip.useFree_pwmG : (s.useFree).pwmG = s.pwmG := rfl
@[simp] theorem Chip.useFree_isl : (s.useFree).isl = s.isl := rfl
@[simp] theorem Chip.useFree_safe : (s.useFree).safe = s.safe := rfl
@[simp] theorem Chip.useFree_chm : (s.useFree).chm = s.chm := rfl
@[simp] theorem Chip.useFree_hart : (s.useFree).hart = s.hart := rfl
@[simp] theorem Chip.useFree_irq : (s.useFree).irq = s.irq := rfl
@[simp] theorem Chip.useFree_sem : (s.useFree).sem = s.sem := rfl
@[simp] theorem Chip.useFree_memS : (s.useFree).memS = s.memS := rfl
@[simp] theorem Chip.useFree_hw : (s.useFree).hw = s.hw := rfl
@[simp] theorem Chip.useFree_can : (s.useFree).can = s.can := rfl
@[simp] theorem Chip.useFree_porch : (s.useFree).porch = s.porch := rfl
@[simp] theorem Chip.useFree_ring : (s.useFree).ring = s.ring := rfl
@[simp] theorem Chip.useFree_twin : (s.useFree).twin = s.twin := rfl

@[simp] theorem Chip.modCl_now (k : Nat) (f : ClusterS → ClusterS) : (s.modCl k f).now = s.now := rfl
@[simp] theorem Chip.modCl_regs (k : Nat) (f : ClusterS → ClusterS) : (s.modCl k f).regs = s.regs := rfl
@[simp] theorem Chip.modCl_mem (k : Nat) (f : ClusterS → ClusterS) : (s.modCl k f).mem = s.mem := rfl
@[simp] theorem Chip.modCl_ecc (k : Nat) (f : ClusterS → ClusterS) : (s.modCl k f).ecc = s.ecc := rfl
@[simp] theorem Chip.modCl_free (k : Nat) (f : ClusterS → ClusterS) : (s.modCl k f).free = s.free := rfl
@[simp] theorem Chip.modCl_fab (k : Nat) (f : ClusterS → ClusterS) : (s.modCl k f).fab = s.fab := rfl
@[simp] theorem Chip.modCl_log (k : Nat) (f : ClusterS → ClusterS) : (s.modCl k f).log = s.log := rfl
@[simp] theorem Chip.modCl_bus (k : Nat) (f : ClusterS → ClusterS) : (s.modCl k f).bus = s.bus := rfl
@[simp] theorem Chip.modCl_pwr (k : Nat) (f : ClusterS → ClusterS) : (s.modCl k f).pwr = s.pwr := rfl
@[simp] theorem Chip.modCl_cfg (k : Nat) (f : ClusterS → ClusterS) : (s.modCl k f).cfg = s.cfg := rfl
@[simp] theorem Chip.modCl_img (k : Nat) (f : ClusterS → ClusterS) : (s.modCl k f).img = s.img := rfl
@[simp] theorem Chip.modCl_rgn (k : Nat) (f : ClusterS → ClusterS) : (s.modCl k f).rgn = s.rgn := rfl
@[simp] theorem Chip.modCl_adc (k : Nat) (f : ClusterS → ClusterS) : (s.modCl k f).adc = s.adc := rfl
@[simp] theorem Chip.modCl_meas (k : Nat) (f : ClusterS → ClusterS) : (s.modCl k f).meas = s.meas := rfl
@[simp] theorem Chip.modCl_pos (k : Nat) (f : ClusterS → ClusterS) : (s.modCl k f).pos = s.pos := rfl
@[simp] theorem Chip.modCl_cle (k : Nat) (f : ClusterS → ClusterS) : (s.modCl k f).cle = s.cle := rfl
@[simp] theorem Chip.modCl_slice (k : Nat) (f : ClusterS → ClusterS) : (s.modCl k f).slice = s.slice := rfl
@[simp] theorem Chip.modCl_pwmG (k : Nat) (f : ClusterS → ClusterS) : (s.modCl k f).pwmG = s.pwmG := rfl
@[simp] theorem Chip.modCl_isl (k : Nat) (f : ClusterS → ClusterS) : (s.modCl k f).isl = s.isl := rfl
@[simp] theorem Chip.modCl_safe (k : Nat) (f : ClusterS → ClusterS) : (s.modCl k f).safe = s.safe := rfl
@[simp] theorem Chip.modCl_chm (k : Nat) (f : ClusterS → ClusterS) : (s.modCl k f).chm = s.chm := rfl
@[simp] theorem Chip.modCl_hart (k : Nat) (f : ClusterS → ClusterS) : (s.modCl k f).hart = s.hart := rfl
@[simp] theorem Chip.modCl_irq (k : Nat) (f : ClusterS → ClusterS) : (s.modCl k f).irq = s.irq := rfl
@[simp] theorem Chip.modCl_sem (k : Nat) (f : ClusterS → ClusterS) : (s.modCl k f).sem = s.sem := rfl
@[simp] theorem Chip.modCl_memS (k : Nat) (f : ClusterS → ClusterS) : (s.modCl k f).memS = s.memS := rfl
@[simp] theorem Chip.modCl_hw (k : Nat) (f : ClusterS → ClusterS) : (s.modCl k f).hw = s.hw := rfl
@[simp] theorem Chip.modCl_can (k : Nat) (f : ClusterS → ClusterS) : (s.modCl k f).can = s.can := rfl
@[simp] theorem Chip.modCl_porch (k : Nat) (f : ClusterS → ClusterS) : (s.modCl k f).porch = s.porch := rfl
@[simp] theorem Chip.modCl_ring (k : Nat) (f : ClusterS → ClusterS) : (s.modCl k f).ring = s.ring := rfl
@[simp] theorem Chip.modCl_twin (k : Nat) (f : ClusterS → ClusterS) : (s.modCl k f).twin = s.twin := rfl

@[simp] theorem Chip.modRgn_now (g : Nat) (f : RegionS → RegionS) : (s.modRgn g f).now = s.now := rfl
@[simp] theorem Chip.modRgn_regs (g : Nat) (f : RegionS → RegionS) : (s.modRgn g f).regs = s.regs := rfl
@[simp] theorem Chip.modRgn_mem (g : Nat) (f : RegionS → RegionS) : (s.modRgn g f).mem = s.mem := rfl
@[simp] theorem Chip.modRgn_ecc (g : Nat) (f : RegionS → RegionS) : (s.modRgn g f).ecc = s.ecc := rfl
@[simp] theorem Chip.modRgn_free (g : Nat) (f : RegionS → RegionS) : (s.modRgn g f).free = s.free := rfl
@[simp] theorem Chip.modRgn_fab (g : Nat) (f : RegionS → RegionS) : (s.modRgn g f).fab = s.fab := rfl
@[simp] theorem Chip.modRgn_log (g : Nat) (f : RegionS → RegionS) : (s.modRgn g f).log = s.log := rfl
@[simp] theorem Chip.modRgn_bus (g : Nat) (f : RegionS → RegionS) : (s.modRgn g f).bus = s.bus := rfl
@[simp] theorem Chip.modRgn_pwr (g : Nat) (f : RegionS → RegionS) : (s.modRgn g f).pwr = s.pwr := rfl
@[simp] theorem Chip.modRgn_cfg (g : Nat) (f : RegionS → RegionS) : (s.modRgn g f).cfg = s.cfg := rfl
@[simp] theorem Chip.modRgn_img (g : Nat) (f : RegionS → RegionS) : (s.modRgn g f).img = s.img := rfl
@[simp] theorem Chip.modRgn_cl (g : Nat) (f : RegionS → RegionS) : (s.modRgn g f).cl = s.cl := rfl
@[simp] theorem Chip.modRgn_adc (g : Nat) (f : RegionS → RegionS) : (s.modRgn g f).adc = s.adc := rfl
@[simp] theorem Chip.modRgn_meas (g : Nat) (f : RegionS → RegionS) : (s.modRgn g f).meas = s.meas := rfl
@[simp] theorem Chip.modRgn_pos (g : Nat) (f : RegionS → RegionS) : (s.modRgn g f).pos = s.pos := rfl
@[simp] theorem Chip.modRgn_cle (g : Nat) (f : RegionS → RegionS) : (s.modRgn g f).cle = s.cle := rfl
@[simp] theorem Chip.modRgn_slice (g : Nat) (f : RegionS → RegionS) : (s.modRgn g f).slice = s.slice := rfl
@[simp] theorem Chip.modRgn_pwmG (g : Nat) (f : RegionS → RegionS) : (s.modRgn g f).pwmG = s.pwmG := rfl
@[simp] theorem Chip.modRgn_isl (g : Nat) (f : RegionS → RegionS) : (s.modRgn g f).isl = s.isl := rfl
@[simp] theorem Chip.modRgn_safe (g : Nat) (f : RegionS → RegionS) : (s.modRgn g f).safe = s.safe := rfl
@[simp] theorem Chip.modRgn_chm (g : Nat) (f : RegionS → RegionS) : (s.modRgn g f).chm = s.chm := rfl
@[simp] theorem Chip.modRgn_hart (g : Nat) (f : RegionS → RegionS) : (s.modRgn g f).hart = s.hart := rfl
@[simp] theorem Chip.modRgn_irq (g : Nat) (f : RegionS → RegionS) : (s.modRgn g f).irq = s.irq := rfl
@[simp] theorem Chip.modRgn_sem (g : Nat) (f : RegionS → RegionS) : (s.modRgn g f).sem = s.sem := rfl
@[simp] theorem Chip.modRgn_memS (g : Nat) (f : RegionS → RegionS) : (s.modRgn g f).memS = s.memS := rfl
@[simp] theorem Chip.modRgn_hw (g : Nat) (f : RegionS → RegionS) : (s.modRgn g f).hw = s.hw := rfl
@[simp] theorem Chip.modRgn_can (g : Nat) (f : RegionS → RegionS) : (s.modRgn g f).can = s.can := rfl
@[simp] theorem Chip.modRgn_porch (g : Nat) (f : RegionS → RegionS) : (s.modRgn g f).porch = s.porch := rfl
@[simp] theorem Chip.modRgn_ring (g : Nat) (f : RegionS → RegionS) : (s.modRgn g f).ring = s.ring := rfl
@[simp] theorem Chip.modRgn_twin (g : Nat) (f : RegionS → RegionS) : (s.modRgn g f).twin = s.twin := rfl

@[simp] theorem Chip.modSlice_now (n : Nat) (f : SliceS → SliceS) : (s.modSlice n f).now = s.now := rfl
@[simp] theorem Chip.modSlice_regs (n : Nat) (f : SliceS → SliceS) : (s.modSlice n f).regs = s.regs := rfl
@[simp] theorem Chip.modSlice_mem (n : Nat) (f : SliceS → SliceS) : (s.modSlice n f).mem = s.mem := rfl
@[simp] theorem Chip.modSlice_ecc (n : Nat) (f : SliceS → SliceS) : (s.modSlice n f).ecc = s.ecc := rfl
@[simp] theorem Chip.modSlice_free (n : Nat) (f : SliceS → SliceS) : (s.modSlice n f).free = s.free := rfl
@[simp] theorem Chip.modSlice_fab (n : Nat) (f : SliceS → SliceS) : (s.modSlice n f).fab = s.fab := rfl
@[simp] theorem Chip.modSlice_log (n : Nat) (f : SliceS → SliceS) : (s.modSlice n f).log = s.log := rfl
@[simp] theorem Chip.modSlice_bus (n : Nat) (f : SliceS → SliceS) : (s.modSlice n f).bus = s.bus := rfl
@[simp] theorem Chip.modSlice_pwr (n : Nat) (f : SliceS → SliceS) : (s.modSlice n f).pwr = s.pwr := rfl
@[simp] theorem Chip.modSlice_cfg (n : Nat) (f : SliceS → SliceS) : (s.modSlice n f).cfg = s.cfg := rfl
@[simp] theorem Chip.modSlice_img (n : Nat) (f : SliceS → SliceS) : (s.modSlice n f).img = s.img := rfl
@[simp] theorem Chip.modSlice_rgn (n : Nat) (f : SliceS → SliceS) : (s.modSlice n f).rgn = s.rgn := rfl
@[simp] theorem Chip.modSlice_cl (n : Nat) (f : SliceS → SliceS) : (s.modSlice n f).cl = s.cl := rfl
@[simp] theorem Chip.modSlice_adc (n : Nat) (f : SliceS → SliceS) : (s.modSlice n f).adc = s.adc := rfl
@[simp] theorem Chip.modSlice_meas (n : Nat) (f : SliceS → SliceS) : (s.modSlice n f).meas = s.meas := rfl
@[simp] theorem Chip.modSlice_pos (n : Nat) (f : SliceS → SliceS) : (s.modSlice n f).pos = s.pos := rfl
@[simp] theorem Chip.modSlice_cle (n : Nat) (f : SliceS → SliceS) : (s.modSlice n f).cle = s.cle := rfl
@[simp] theorem Chip.modSlice_pwmG (n : Nat) (f : SliceS → SliceS) : (s.modSlice n f).pwmG = s.pwmG := rfl
@[simp] theorem Chip.modSlice_isl (n : Nat) (f : SliceS → SliceS) : (s.modSlice n f).isl = s.isl := rfl
@[simp] theorem Chip.modSlice_safe (n : Nat) (f : SliceS → SliceS) : (s.modSlice n f).safe = s.safe := rfl
@[simp] theorem Chip.modSlice_chm (n : Nat) (f : SliceS → SliceS) : (s.modSlice n f).chm = s.chm := rfl
@[simp] theorem Chip.modSlice_hart (n : Nat) (f : SliceS → SliceS) : (s.modSlice n f).hart = s.hart := rfl
@[simp] theorem Chip.modSlice_irq (n : Nat) (f : SliceS → SliceS) : (s.modSlice n f).irq = s.irq := rfl
@[simp] theorem Chip.modSlice_sem (n : Nat) (f : SliceS → SliceS) : (s.modSlice n f).sem = s.sem := rfl
@[simp] theorem Chip.modSlice_memS (n : Nat) (f : SliceS → SliceS) : (s.modSlice n f).memS = s.memS := rfl
@[simp] theorem Chip.modSlice_hw (n : Nat) (f : SliceS → SliceS) : (s.modSlice n f).hw = s.hw := rfl
@[simp] theorem Chip.modSlice_can (n : Nat) (f : SliceS → SliceS) : (s.modSlice n f).can = s.can := rfl
@[simp] theorem Chip.modSlice_porch (n : Nat) (f : SliceS → SliceS) : (s.modSlice n f).porch = s.porch := rfl
@[simp] theorem Chip.modSlice_ring (n : Nat) (f : SliceS → SliceS) : (s.modSlice n f).ring = s.ring := rfl
@[simp] theorem Chip.modSlice_twin (n : Nat) (f : SliceS → SliceS) : (s.modSlice n f).twin = s.twin := rfl

@[simp] theorem Chip.modIsl_now (n : Nat) (f : IslandS → IslandS) : (s.modIsl n f).now = s.now := rfl
@[simp] theorem Chip.modIsl_regs (n : Nat) (f : IslandS → IslandS) : (s.modIsl n f).regs = s.regs := rfl
@[simp] theorem Chip.modIsl_mem (n : Nat) (f : IslandS → IslandS) : (s.modIsl n f).mem = s.mem := rfl
@[simp] theorem Chip.modIsl_ecc (n : Nat) (f : IslandS → IslandS) : (s.modIsl n f).ecc = s.ecc := rfl
@[simp] theorem Chip.modIsl_free (n : Nat) (f : IslandS → IslandS) : (s.modIsl n f).free = s.free := rfl
@[simp] theorem Chip.modIsl_fab (n : Nat) (f : IslandS → IslandS) : (s.modIsl n f).fab = s.fab := rfl
@[simp] theorem Chip.modIsl_log (n : Nat) (f : IslandS → IslandS) : (s.modIsl n f).log = s.log := rfl
@[simp] theorem Chip.modIsl_bus (n : Nat) (f : IslandS → IslandS) : (s.modIsl n f).bus = s.bus := rfl
@[simp] theorem Chip.modIsl_pwr (n : Nat) (f : IslandS → IslandS) : (s.modIsl n f).pwr = s.pwr := rfl
@[simp] theorem Chip.modIsl_cfg (n : Nat) (f : IslandS → IslandS) : (s.modIsl n f).cfg = s.cfg := rfl
@[simp] theorem Chip.modIsl_img (n : Nat) (f : IslandS → IslandS) : (s.modIsl n f).img = s.img := rfl
@[simp] theorem Chip.modIsl_rgn (n : Nat) (f : IslandS → IslandS) : (s.modIsl n f).rgn = s.rgn := rfl
@[simp] theorem Chip.modIsl_cl (n : Nat) (f : IslandS → IslandS) : (s.modIsl n f).cl = s.cl := rfl
@[simp] theorem Chip.modIsl_adc (n : Nat) (f : IslandS → IslandS) : (s.modIsl n f).adc = s.adc := rfl
@[simp] theorem Chip.modIsl_meas (n : Nat) (f : IslandS → IslandS) : (s.modIsl n f).meas = s.meas := rfl
@[simp] theorem Chip.modIsl_pos (n : Nat) (f : IslandS → IslandS) : (s.modIsl n f).pos = s.pos := rfl
@[simp] theorem Chip.modIsl_cle (n : Nat) (f : IslandS → IslandS) : (s.modIsl n f).cle = s.cle := rfl
@[simp] theorem Chip.modIsl_slice (n : Nat) (f : IslandS → IslandS) : (s.modIsl n f).slice = s.slice := rfl
@[simp] theorem Chip.modIsl_pwmG (n : Nat) (f : IslandS → IslandS) : (s.modIsl n f).pwmG = s.pwmG := rfl
@[simp] theorem Chip.modIsl_safe (n : Nat) (f : IslandS → IslandS) : (s.modIsl n f).safe = s.safe := rfl
@[simp] theorem Chip.modIsl_chm (n : Nat) (f : IslandS → IslandS) : (s.modIsl n f).chm = s.chm := rfl
@[simp] theorem Chip.modIsl_hart (n : Nat) (f : IslandS → IslandS) : (s.modIsl n f).hart = s.hart := rfl
@[simp] theorem Chip.modIsl_irq (n : Nat) (f : IslandS → IslandS) : (s.modIsl n f).irq = s.irq := rfl
@[simp] theorem Chip.modIsl_sem (n : Nat) (f : IslandS → IslandS) : (s.modIsl n f).sem = s.sem := rfl
@[simp] theorem Chip.modIsl_memS (n : Nat) (f : IslandS → IslandS) : (s.modIsl n f).memS = s.memS := rfl
@[simp] theorem Chip.modIsl_hw (n : Nat) (f : IslandS → IslandS) : (s.modIsl n f).hw = s.hw := rfl
@[simp] theorem Chip.modIsl_can (n : Nat) (f : IslandS → IslandS) : (s.modIsl n f).can = s.can := rfl
@[simp] theorem Chip.modIsl_porch (n : Nat) (f : IslandS → IslandS) : (s.modIsl n f).porch = s.porch := rfl
@[simp] theorem Chip.modIsl_ring (n : Nat) (f : IslandS → IslandS) : (s.modIsl n f).ring = s.ring := rfl
@[simp] theorem Chip.modIsl_twin (n : Nat) (f : IslandS → IslandS) : (s.modIsl n f).twin = s.twin := rfl

@[simp] theorem Chip.modPos_now (n : Nat) (f : PosS → PosS) : (s.modPos n f).now = s.now := rfl
@[simp] theorem Chip.modPos_regs (n : Nat) (f : PosS → PosS) : (s.modPos n f).regs = s.regs := rfl
@[simp] theorem Chip.modPos_mem (n : Nat) (f : PosS → PosS) : (s.modPos n f).mem = s.mem := rfl
@[simp] theorem Chip.modPos_ecc (n : Nat) (f : PosS → PosS) : (s.modPos n f).ecc = s.ecc := rfl
@[simp] theorem Chip.modPos_free (n : Nat) (f : PosS → PosS) : (s.modPos n f).free = s.free := rfl
@[simp] theorem Chip.modPos_fab (n : Nat) (f : PosS → PosS) : (s.modPos n f).fab = s.fab := rfl
@[simp] theorem Chip.modPos_log (n : Nat) (f : PosS → PosS) : (s.modPos n f).log = s.log := rfl
@[simp] theorem Chip.modPos_bus (n : Nat) (f : PosS → PosS) : (s.modPos n f).bus = s.bus := rfl
@[simp] theorem Chip.modPos_pwr (n : Nat) (f : PosS → PosS) : (s.modPos n f).pwr = s.pwr := rfl
@[simp] theorem Chip.modPos_cfg (n : Nat) (f : PosS → PosS) : (s.modPos n f).cfg = s.cfg := rfl
@[simp] theorem Chip.modPos_img (n : Nat) (f : PosS → PosS) : (s.modPos n f).img = s.img := rfl
@[simp] theorem Chip.modPos_rgn (n : Nat) (f : PosS → PosS) : (s.modPos n f).rgn = s.rgn := rfl
@[simp] theorem Chip.modPos_cl (n : Nat) (f : PosS → PosS) : (s.modPos n f).cl = s.cl := rfl
@[simp] theorem Chip.modPos_adc (n : Nat) (f : PosS → PosS) : (s.modPos n f).adc = s.adc := rfl
@[simp] theorem Chip.modPos_meas (n : Nat) (f : PosS → PosS) : (s.modPos n f).meas = s.meas := rfl
@[simp] theorem Chip.modPos_cle (n : Nat) (f : PosS → PosS) : (s.modPos n f).cle = s.cle := rfl
@[simp] theorem Chip.modPos_slice (n : Nat) (f : PosS → PosS) : (s.modPos n f).slice = s.slice := rfl
@[simp] theorem Chip.modPos_pwmG (n : Nat) (f : PosS → PosS) : (s.modPos n f).pwmG = s.pwmG := rfl
@[simp] theorem Chip.modPos_isl (n : Nat) (f : PosS → PosS) : (s.modPos n f).isl = s.isl := rfl
@[simp] theorem Chip.modPos_safe (n : Nat) (f : PosS → PosS) : (s.modPos n f).safe = s.safe := rfl
@[simp] theorem Chip.modPos_chm (n : Nat) (f : PosS → PosS) : (s.modPos n f).chm = s.chm := rfl
@[simp] theorem Chip.modPos_hart (n : Nat) (f : PosS → PosS) : (s.modPos n f).hart = s.hart := rfl
@[simp] theorem Chip.modPos_irq (n : Nat) (f : PosS → PosS) : (s.modPos n f).irq = s.irq := rfl
@[simp] theorem Chip.modPos_sem (n : Nat) (f : PosS → PosS) : (s.modPos n f).sem = s.sem := rfl
@[simp] theorem Chip.modPos_memS (n : Nat) (f : PosS → PosS) : (s.modPos n f).memS = s.memS := rfl
@[simp] theorem Chip.modPos_hw (n : Nat) (f : PosS → PosS) : (s.modPos n f).hw = s.hw := rfl
@[simp] theorem Chip.modPos_can (n : Nat) (f : PosS → PosS) : (s.modPos n f).can = s.can := rfl
@[simp] theorem Chip.modPos_porch (n : Nat) (f : PosS → PosS) : (s.modPos n f).porch = s.porch := rfl
@[simp] theorem Chip.modPos_ring (n : Nat) (f : PosS → PosS) : (s.modPos n f).ring = s.ring := rfl
@[simp] theorem Chip.modPos_twin (n : Nat) (f : PosS → PosS) : (s.modPos n f).twin = s.twin := rfl

@[simp] theorem Chip.modCle_now (n : Nat) (f : CleS → CleS) : (s.modCle n f).now = s.now := rfl
@[simp] theorem Chip.modCle_regs (n : Nat) (f : CleS → CleS) : (s.modCle n f).regs = s.regs := rfl
@[simp] theorem Chip.modCle_mem (n : Nat) (f : CleS → CleS) : (s.modCle n f).mem = s.mem := rfl
@[simp] theorem Chip.modCle_ecc (n : Nat) (f : CleS → CleS) : (s.modCle n f).ecc = s.ecc := rfl
@[simp] theorem Chip.modCle_free (n : Nat) (f : CleS → CleS) : (s.modCle n f).free = s.free := rfl
@[simp] theorem Chip.modCle_fab (n : Nat) (f : CleS → CleS) : (s.modCle n f).fab = s.fab := rfl
@[simp] theorem Chip.modCle_log (n : Nat) (f : CleS → CleS) : (s.modCle n f).log = s.log := rfl
@[simp] theorem Chip.modCle_bus (n : Nat) (f : CleS → CleS) : (s.modCle n f).bus = s.bus := rfl
@[simp] theorem Chip.modCle_pwr (n : Nat) (f : CleS → CleS) : (s.modCle n f).pwr = s.pwr := rfl
@[simp] theorem Chip.modCle_cfg (n : Nat) (f : CleS → CleS) : (s.modCle n f).cfg = s.cfg := rfl
@[simp] theorem Chip.modCle_img (n : Nat) (f : CleS → CleS) : (s.modCle n f).img = s.img := rfl
@[simp] theorem Chip.modCle_rgn (n : Nat) (f : CleS → CleS) : (s.modCle n f).rgn = s.rgn := rfl
@[simp] theorem Chip.modCle_cl (n : Nat) (f : CleS → CleS) : (s.modCle n f).cl = s.cl := rfl
@[simp] theorem Chip.modCle_adc (n : Nat) (f : CleS → CleS) : (s.modCle n f).adc = s.adc := rfl
@[simp] theorem Chip.modCle_meas (n : Nat) (f : CleS → CleS) : (s.modCle n f).meas = s.meas := rfl
@[simp] theorem Chip.modCle_pos (n : Nat) (f : CleS → CleS) : (s.modCle n f).pos = s.pos := rfl
@[simp] theorem Chip.modCle_slice (n : Nat) (f : CleS → CleS) : (s.modCle n f).slice = s.slice := rfl
@[simp] theorem Chip.modCle_pwmG (n : Nat) (f : CleS → CleS) : (s.modCle n f).pwmG = s.pwmG := rfl
@[simp] theorem Chip.modCle_isl (n : Nat) (f : CleS → CleS) : (s.modCle n f).isl = s.isl := rfl
@[simp] theorem Chip.modCle_safe (n : Nat) (f : CleS → CleS) : (s.modCle n f).safe = s.safe := rfl
@[simp] theorem Chip.modCle_chm (n : Nat) (f : CleS → CleS) : (s.modCle n f).chm = s.chm := rfl
@[simp] theorem Chip.modCle_hart (n : Nat) (f : CleS → CleS) : (s.modCle n f).hart = s.hart := rfl
@[simp] theorem Chip.modCle_irq (n : Nat) (f : CleS → CleS) : (s.modCle n f).irq = s.irq := rfl
@[simp] theorem Chip.modCle_sem (n : Nat) (f : CleS → CleS) : (s.modCle n f).sem = s.sem := rfl
@[simp] theorem Chip.modCle_memS (n : Nat) (f : CleS → CleS) : (s.modCle n f).memS = s.memS := rfl
@[simp] theorem Chip.modCle_hw (n : Nat) (f : CleS → CleS) : (s.modCle n f).hw = s.hw := rfl
@[simp] theorem Chip.modCle_can (n : Nat) (f : CleS → CleS) : (s.modCle n f).can = s.can := rfl
@[simp] theorem Chip.modCle_porch (n : Nat) (f : CleS → CleS) : (s.modCle n f).porch = s.porch := rfl
@[simp] theorem Chip.modCle_ring (n : Nat) (f : CleS → CleS) : (s.modCle n f).ring = s.ring := rfl
@[simp] theorem Chip.modCle_twin (n : Nat) (f : CleS → CleS) : (s.modCle n f).twin = s.twin := rfl

@[simp] theorem Chip.modMeas_now (n : Nat) (f : MeasS → MeasS) : (s.modMeas n f).now = s.now := rfl
@[simp] theorem Chip.modMeas_regs (n : Nat) (f : MeasS → MeasS) : (s.modMeas n f).regs = s.regs := rfl
@[simp] theorem Chip.modMeas_mem (n : Nat) (f : MeasS → MeasS) : (s.modMeas n f).mem = s.mem := rfl
@[simp] theorem Chip.modMeas_ecc (n : Nat) (f : MeasS → MeasS) : (s.modMeas n f).ecc = s.ecc := rfl
@[simp] theorem Chip.modMeas_free (n : Nat) (f : MeasS → MeasS) : (s.modMeas n f).free = s.free := rfl
@[simp] theorem Chip.modMeas_fab (n : Nat) (f : MeasS → MeasS) : (s.modMeas n f).fab = s.fab := rfl
@[simp] theorem Chip.modMeas_log (n : Nat) (f : MeasS → MeasS) : (s.modMeas n f).log = s.log := rfl
@[simp] theorem Chip.modMeas_bus (n : Nat) (f : MeasS → MeasS) : (s.modMeas n f).bus = s.bus := rfl
@[simp] theorem Chip.modMeas_pwr (n : Nat) (f : MeasS → MeasS) : (s.modMeas n f).pwr = s.pwr := rfl
@[simp] theorem Chip.modMeas_cfg (n : Nat) (f : MeasS → MeasS) : (s.modMeas n f).cfg = s.cfg := rfl
@[simp] theorem Chip.modMeas_img (n : Nat) (f : MeasS → MeasS) : (s.modMeas n f).img = s.img := rfl
@[simp] theorem Chip.modMeas_rgn (n : Nat) (f : MeasS → MeasS) : (s.modMeas n f).rgn = s.rgn := rfl
@[simp] theorem Chip.modMeas_cl (n : Nat) (f : MeasS → MeasS) : (s.modMeas n f).cl = s.cl := rfl
@[simp] theorem Chip.modMeas_adc (n : Nat) (f : MeasS → MeasS) : (s.modMeas n f).adc = s.adc := rfl
@[simp] theorem Chip.modMeas_pos (n : Nat) (f : MeasS → MeasS) : (s.modMeas n f).pos = s.pos := rfl
@[simp] theorem Chip.modMeas_cle (n : Nat) (f : MeasS → MeasS) : (s.modMeas n f).cle = s.cle := rfl
@[simp] theorem Chip.modMeas_slice (n : Nat) (f : MeasS → MeasS) : (s.modMeas n f).slice = s.slice := rfl
@[simp] theorem Chip.modMeas_pwmG (n : Nat) (f : MeasS → MeasS) : (s.modMeas n f).pwmG = s.pwmG := rfl
@[simp] theorem Chip.modMeas_isl (n : Nat) (f : MeasS → MeasS) : (s.modMeas n f).isl = s.isl := rfl
@[simp] theorem Chip.modMeas_safe (n : Nat) (f : MeasS → MeasS) : (s.modMeas n f).safe = s.safe := rfl
@[simp] theorem Chip.modMeas_chm (n : Nat) (f : MeasS → MeasS) : (s.modMeas n f).chm = s.chm := rfl
@[simp] theorem Chip.modMeas_hart (n : Nat) (f : MeasS → MeasS) : (s.modMeas n f).hart = s.hart := rfl
@[simp] theorem Chip.modMeas_irq (n : Nat) (f : MeasS → MeasS) : (s.modMeas n f).irq = s.irq := rfl
@[simp] theorem Chip.modMeas_sem (n : Nat) (f : MeasS → MeasS) : (s.modMeas n f).sem = s.sem := rfl
@[simp] theorem Chip.modMeas_memS (n : Nat) (f : MeasS → MeasS) : (s.modMeas n f).memS = s.memS := rfl
@[simp] theorem Chip.modMeas_hw (n : Nat) (f : MeasS → MeasS) : (s.modMeas n f).hw = s.hw := rfl
@[simp] theorem Chip.modMeas_can (n : Nat) (f : MeasS → MeasS) : (s.modMeas n f).can = s.can := rfl
@[simp] theorem Chip.modMeas_porch (n : Nat) (f : MeasS → MeasS) : (s.modMeas n f).porch = s.porch := rfl
@[simp] theorem Chip.modMeas_ring (n : Nat) (f : MeasS → MeasS) : (s.modMeas n f).ring = s.ring := rfl
@[simp] theorem Chip.modMeas_twin (n : Nat) (f : MeasS → MeasS) : (s.modMeas n f).twin = s.twin := rfl

@[simp] theorem Chip.modHart_now (n : Nat) (f : HartS → HartS) : (s.modHart n f).now = s.now := rfl
@[simp] theorem Chip.modHart_regs (n : Nat) (f : HartS → HartS) : (s.modHart n f).regs = s.regs := rfl
@[simp] theorem Chip.modHart_mem (n : Nat) (f : HartS → HartS) : (s.modHart n f).mem = s.mem := rfl
@[simp] theorem Chip.modHart_ecc (n : Nat) (f : HartS → HartS) : (s.modHart n f).ecc = s.ecc := rfl
@[simp] theorem Chip.modHart_free (n : Nat) (f : HartS → HartS) : (s.modHart n f).free = s.free := rfl
@[simp] theorem Chip.modHart_fab (n : Nat) (f : HartS → HartS) : (s.modHart n f).fab = s.fab := rfl
@[simp] theorem Chip.modHart_log (n : Nat) (f : HartS → HartS) : (s.modHart n f).log = s.log := rfl
@[simp] theorem Chip.modHart_bus (n : Nat) (f : HartS → HartS) : (s.modHart n f).bus = s.bus := rfl
@[simp] theorem Chip.modHart_pwr (n : Nat) (f : HartS → HartS) : (s.modHart n f).pwr = s.pwr := rfl
@[simp] theorem Chip.modHart_cfg (n : Nat) (f : HartS → HartS) : (s.modHart n f).cfg = s.cfg := rfl
@[simp] theorem Chip.modHart_img (n : Nat) (f : HartS → HartS) : (s.modHart n f).img = s.img := rfl
@[simp] theorem Chip.modHart_rgn (n : Nat) (f : HartS → HartS) : (s.modHart n f).rgn = s.rgn := rfl
@[simp] theorem Chip.modHart_cl (n : Nat) (f : HartS → HartS) : (s.modHart n f).cl = s.cl := rfl
@[simp] theorem Chip.modHart_adc (n : Nat) (f : HartS → HartS) : (s.modHart n f).adc = s.adc := rfl
@[simp] theorem Chip.modHart_meas (n : Nat) (f : HartS → HartS) : (s.modHart n f).meas = s.meas := rfl
@[simp] theorem Chip.modHart_pos (n : Nat) (f : HartS → HartS) : (s.modHart n f).pos = s.pos := rfl
@[simp] theorem Chip.modHart_cle (n : Nat) (f : HartS → HartS) : (s.modHart n f).cle = s.cle := rfl
@[simp] theorem Chip.modHart_slice (n : Nat) (f : HartS → HartS) : (s.modHart n f).slice = s.slice := rfl
@[simp] theorem Chip.modHart_pwmG (n : Nat) (f : HartS → HartS) : (s.modHart n f).pwmG = s.pwmG := rfl
@[simp] theorem Chip.modHart_isl (n : Nat) (f : HartS → HartS) : (s.modHart n f).isl = s.isl := rfl
@[simp] theorem Chip.modHart_safe (n : Nat) (f : HartS → HartS) : (s.modHart n f).safe = s.safe := rfl
@[simp] theorem Chip.modHart_chm (n : Nat) (f : HartS → HartS) : (s.modHart n f).chm = s.chm := rfl
@[simp] theorem Chip.modHart_irq (n : Nat) (f : HartS → HartS) : (s.modHart n f).irq = s.irq := rfl
@[simp] theorem Chip.modHart_sem (n : Nat) (f : HartS → HartS) : (s.modHart n f).sem = s.sem := rfl
@[simp] theorem Chip.modHart_memS (n : Nat) (f : HartS → HartS) : (s.modHart n f).memS = s.memS := rfl
@[simp] theorem Chip.modHart_hw (n : Nat) (f : HartS → HartS) : (s.modHart n f).hw = s.hw := rfl
@[simp] theorem Chip.modHart_can (n : Nat) (f : HartS → HartS) : (s.modHart n f).can = s.can := rfl
@[simp] theorem Chip.modHart_porch (n : Nat) (f : HartS → HartS) : (s.modHart n f).porch = s.porch := rfl
@[simp] theorem Chip.modHart_ring (n : Nat) (f : HartS → HartS) : (s.modHart n f).ring = s.ring := rfl
@[simp] theorem Chip.modHart_twin (n : Nat) (f : HartS → HartS) : (s.modHart n f).twin = s.twin := rfl

@[simp] theorem Chip.modGroup_now (c g : Nat) (f : GroupS → GroupS) : (s.modGroup c g f).now = s.now := rfl
@[simp] theorem Chip.modGroup_regs (c g : Nat) (f : GroupS → GroupS) : (s.modGroup c g f).regs = s.regs := rfl
@[simp] theorem Chip.modGroup_mem (c g : Nat) (f : GroupS → GroupS) : (s.modGroup c g f).mem = s.mem := rfl
@[simp] theorem Chip.modGroup_ecc (c g : Nat) (f : GroupS → GroupS) : (s.modGroup c g f).ecc = s.ecc := rfl
@[simp] theorem Chip.modGroup_free (c g : Nat) (f : GroupS → GroupS) : (s.modGroup c g f).free = s.free := rfl
@[simp] theorem Chip.modGroup_fab (c g : Nat) (f : GroupS → GroupS) : (s.modGroup c g f).fab = s.fab := rfl
@[simp] theorem Chip.modGroup_log (c g : Nat) (f : GroupS → GroupS) : (s.modGroup c g f).log = s.log := rfl
@[simp] theorem Chip.modGroup_bus (c g : Nat) (f : GroupS → GroupS) : (s.modGroup c g f).bus = s.bus := rfl
@[simp] theorem Chip.modGroup_pwr (c g : Nat) (f : GroupS → GroupS) : (s.modGroup c g f).pwr = s.pwr := rfl
@[simp] theorem Chip.modGroup_cfg (c g : Nat) (f : GroupS → GroupS) : (s.modGroup c g f).cfg = s.cfg := rfl
@[simp] theorem Chip.modGroup_img (c g : Nat) (f : GroupS → GroupS) : (s.modGroup c g f).img = s.img := rfl
@[simp] theorem Chip.modGroup_rgn (c g : Nat) (f : GroupS → GroupS) : (s.modGroup c g f).rgn = s.rgn := rfl
@[simp] theorem Chip.modGroup_cl (c g : Nat) (f : GroupS → GroupS) : (s.modGroup c g f).cl = s.cl := rfl
@[simp] theorem Chip.modGroup_adc (c g : Nat) (f : GroupS → GroupS) : (s.modGroup c g f).adc = s.adc := rfl
@[simp] theorem Chip.modGroup_meas (c g : Nat) (f : GroupS → GroupS) : (s.modGroup c g f).meas = s.meas := rfl
@[simp] theorem Chip.modGroup_pos (c g : Nat) (f : GroupS → GroupS) : (s.modGroup c g f).pos = s.pos := rfl
@[simp] theorem Chip.modGroup_cle (c g : Nat) (f : GroupS → GroupS) : (s.modGroup c g f).cle = s.cle := rfl
@[simp] theorem Chip.modGroup_slice (c g : Nat) (f : GroupS → GroupS) : (s.modGroup c g f).slice = s.slice := rfl
@[simp] theorem Chip.modGroup_pwmG (c g : Nat) (f : GroupS → GroupS) : (s.modGroup c g f).pwmG = s.pwmG := rfl
@[simp] theorem Chip.modGroup_isl (c g : Nat) (f : GroupS → GroupS) : (s.modGroup c g f).isl = s.isl := rfl
@[simp] theorem Chip.modGroup_safe (c g : Nat) (f : GroupS → GroupS) : (s.modGroup c g f).safe = s.safe := rfl
@[simp] theorem Chip.modGroup_chm (c g : Nat) (f : GroupS → GroupS) : (s.modGroup c g f).chm = s.chm := rfl
@[simp] theorem Chip.modGroup_hart (c g : Nat) (f : GroupS → GroupS) : (s.modGroup c g f).hart = s.hart := rfl
@[simp] theorem Chip.modGroup_sem (c g : Nat) (f : GroupS → GroupS) : (s.modGroup c g f).sem = s.sem := rfl
@[simp] theorem Chip.modGroup_memS (c g : Nat) (f : GroupS → GroupS) : (s.modGroup c g f).memS = s.memS := rfl
@[simp] theorem Chip.modGroup_hw (c g : Nat) (f : GroupS → GroupS) : (s.modGroup c g f).hw = s.hw := rfl
@[simp] theorem Chip.modGroup_can (c g : Nat) (f : GroupS → GroupS) : (s.modGroup c g f).can = s.can := rfl
@[simp] theorem Chip.modGroup_porch (c g : Nat) (f : GroupS → GroupS) : (s.modGroup c g f).porch = s.porch := rfl
@[simp] theorem Chip.modGroup_ring (c g : Nat) (f : GroupS → GroupS) : (s.modGroup c g f).ring = s.ring := rfl
@[simp] theorem Chip.modGroup_twin (c g : Nat) (f : GroupS → GroupS) : (s.modGroup c g f).twin = s.twin := rfl

@[simp] theorem Chip.modCfg_now (f : CfgS → CfgS) : (s.modCfg f).now = s.now := rfl
@[simp] theorem Chip.modCfg_regs (f : CfgS → CfgS) : (s.modCfg f).regs = s.regs := rfl
@[simp] theorem Chip.modCfg_mem (f : CfgS → CfgS) : (s.modCfg f).mem = s.mem := rfl
@[simp] theorem Chip.modCfg_ecc (f : CfgS → CfgS) : (s.modCfg f).ecc = s.ecc := rfl
@[simp] theorem Chip.modCfg_free (f : CfgS → CfgS) : (s.modCfg f).free = s.free := rfl
@[simp] theorem Chip.modCfg_fab (f : CfgS → CfgS) : (s.modCfg f).fab = s.fab := rfl
@[simp] theorem Chip.modCfg_log (f : CfgS → CfgS) : (s.modCfg f).log = s.log := rfl
@[simp] theorem Chip.modCfg_bus (f : CfgS → CfgS) : (s.modCfg f).bus = s.bus := rfl
@[simp] theorem Chip.modCfg_pwr (f : CfgS → CfgS) : (s.modCfg f).pwr = s.pwr := rfl
@[simp] theorem Chip.modCfg_img (f : CfgS → CfgS) : (s.modCfg f).img = s.img := rfl
@[simp] theorem Chip.modCfg_rgn (f : CfgS → CfgS) : (s.modCfg f).rgn = s.rgn := rfl
@[simp] theorem Chip.modCfg_cl (f : CfgS → CfgS) : (s.modCfg f).cl = s.cl := rfl
@[simp] theorem Chip.modCfg_adc (f : CfgS → CfgS) : (s.modCfg f).adc = s.adc := rfl
@[simp] theorem Chip.modCfg_meas (f : CfgS → CfgS) : (s.modCfg f).meas = s.meas := rfl
@[simp] theorem Chip.modCfg_pos (f : CfgS → CfgS) : (s.modCfg f).pos = s.pos := rfl
@[simp] theorem Chip.modCfg_cle (f : CfgS → CfgS) : (s.modCfg f).cle = s.cle := rfl
@[simp] theorem Chip.modCfg_slice (f : CfgS → CfgS) : (s.modCfg f).slice = s.slice := rfl
@[simp] theorem Chip.modCfg_pwmG (f : CfgS → CfgS) : (s.modCfg f).pwmG = s.pwmG := rfl
@[simp] theorem Chip.modCfg_isl (f : CfgS → CfgS) : (s.modCfg f).isl = s.isl := rfl
@[simp] theorem Chip.modCfg_safe (f : CfgS → CfgS) : (s.modCfg f).safe = s.safe := rfl
@[simp] theorem Chip.modCfg_chm (f : CfgS → CfgS) : (s.modCfg f).chm = s.chm := rfl
@[simp] theorem Chip.modCfg_hart (f : CfgS → CfgS) : (s.modCfg f).hart = s.hart := rfl
@[simp] theorem Chip.modCfg_irq (f : CfgS → CfgS) : (s.modCfg f).irq = s.irq := rfl
@[simp] theorem Chip.modCfg_sem (f : CfgS → CfgS) : (s.modCfg f).sem = s.sem := rfl
@[simp] theorem Chip.modCfg_memS (f : CfgS → CfgS) : (s.modCfg f).memS = s.memS := rfl
@[simp] theorem Chip.modCfg_hw (f : CfgS → CfgS) : (s.modCfg f).hw = s.hw := rfl
@[simp] theorem Chip.modCfg_can (f : CfgS → CfgS) : (s.modCfg f).can = s.can := rfl
@[simp] theorem Chip.modCfg_porch (f : CfgS → CfgS) : (s.modCfg f).porch = s.porch := rfl
@[simp] theorem Chip.modCfg_ring (f : CfgS → CfgS) : (s.modCfg f).ring = s.ring := rfl
@[simp] theorem Chip.modCfg_twin (f : CfgS → CfgS) : (s.modCfg f).twin = s.twin := rfl

@[simp] theorem Chip.modPwr_now (f : PowerS → PowerS) : (s.modPwr f).now = s.now := rfl
@[simp] theorem Chip.modPwr_regs (f : PowerS → PowerS) : (s.modPwr f).regs = s.regs := rfl
@[simp] theorem Chip.modPwr_mem (f : PowerS → PowerS) : (s.modPwr f).mem = s.mem := rfl
@[simp] theorem Chip.modPwr_ecc (f : PowerS → PowerS) : (s.modPwr f).ecc = s.ecc := rfl
@[simp] theorem Chip.modPwr_free (f : PowerS → PowerS) : (s.modPwr f).free = s.free := rfl
@[simp] theorem Chip.modPwr_fab (f : PowerS → PowerS) : (s.modPwr f).fab = s.fab := rfl
@[simp] theorem Chip.modPwr_log (f : PowerS → PowerS) : (s.modPwr f).log = s.log := rfl
@[simp] theorem Chip.modPwr_bus (f : PowerS → PowerS) : (s.modPwr f).bus = s.bus := rfl
@[simp] theorem Chip.modPwr_cfg (f : PowerS → PowerS) : (s.modPwr f).cfg = s.cfg := rfl
@[simp] theorem Chip.modPwr_img (f : PowerS → PowerS) : (s.modPwr f).img = s.img := rfl
@[simp] theorem Chip.modPwr_rgn (f : PowerS → PowerS) : (s.modPwr f).rgn = s.rgn := rfl
@[simp] theorem Chip.modPwr_cl (f : PowerS → PowerS) : (s.modPwr f).cl = s.cl := rfl
@[simp] theorem Chip.modPwr_adc (f : PowerS → PowerS) : (s.modPwr f).adc = s.adc := rfl
@[simp] theorem Chip.modPwr_meas (f : PowerS → PowerS) : (s.modPwr f).meas = s.meas := rfl
@[simp] theorem Chip.modPwr_pos (f : PowerS → PowerS) : (s.modPwr f).pos = s.pos := rfl
@[simp] theorem Chip.modPwr_cle (f : PowerS → PowerS) : (s.modPwr f).cle = s.cle := rfl
@[simp] theorem Chip.modPwr_slice (f : PowerS → PowerS) : (s.modPwr f).slice = s.slice := rfl
@[simp] theorem Chip.modPwr_pwmG (f : PowerS → PowerS) : (s.modPwr f).pwmG = s.pwmG := rfl
@[simp] theorem Chip.modPwr_isl (f : PowerS → PowerS) : (s.modPwr f).isl = s.isl := rfl
@[simp] theorem Chip.modPwr_safe (f : PowerS → PowerS) : (s.modPwr f).safe = s.safe := rfl
@[simp] theorem Chip.modPwr_chm (f : PowerS → PowerS) : (s.modPwr f).chm = s.chm := rfl
@[simp] theorem Chip.modPwr_hart (f : PowerS → PowerS) : (s.modPwr f).hart = s.hart := rfl
@[simp] theorem Chip.modPwr_irq (f : PowerS → PowerS) : (s.modPwr f).irq = s.irq := rfl
@[simp] theorem Chip.modPwr_sem (f : PowerS → PowerS) : (s.modPwr f).sem = s.sem := rfl
@[simp] theorem Chip.modPwr_memS (f : PowerS → PowerS) : (s.modPwr f).memS = s.memS := rfl
@[simp] theorem Chip.modPwr_hw (f : PowerS → PowerS) : (s.modPwr f).hw = s.hw := rfl
@[simp] theorem Chip.modPwr_can (f : PowerS → PowerS) : (s.modPwr f).can = s.can := rfl
@[simp] theorem Chip.modPwr_porch (f : PowerS → PowerS) : (s.modPwr f).porch = s.porch := rfl
@[simp] theorem Chip.modPwr_ring (f : PowerS → PowerS) : (s.modPwr f).ring = s.ring := rfl
@[simp] theorem Chip.modPwr_twin (f : PowerS → PowerS) : (s.modPwr f).twin = s.twin := rfl

@[simp] theorem Chip.modChm_now (f : ChmS → ChmS) : (s.modChm f).now = s.now := rfl
@[simp] theorem Chip.modChm_regs (f : ChmS → ChmS) : (s.modChm f).regs = s.regs := rfl
@[simp] theorem Chip.modChm_mem (f : ChmS → ChmS) : (s.modChm f).mem = s.mem := rfl
@[simp] theorem Chip.modChm_ecc (f : ChmS → ChmS) : (s.modChm f).ecc = s.ecc := rfl
@[simp] theorem Chip.modChm_free (f : ChmS → ChmS) : (s.modChm f).free = s.free := rfl
@[simp] theorem Chip.modChm_fab (f : ChmS → ChmS) : (s.modChm f).fab = s.fab := rfl
@[simp] theorem Chip.modChm_log (f : ChmS → ChmS) : (s.modChm f).log = s.log := rfl
@[simp] theorem Chip.modChm_bus (f : ChmS → ChmS) : (s.modChm f).bus = s.bus := rfl
@[simp] theorem Chip.modChm_pwr (f : ChmS → ChmS) : (s.modChm f).pwr = s.pwr := rfl
@[simp] theorem Chip.modChm_cfg (f : ChmS → ChmS) : (s.modChm f).cfg = s.cfg := rfl
@[simp] theorem Chip.modChm_img (f : ChmS → ChmS) : (s.modChm f).img = s.img := rfl
@[simp] theorem Chip.modChm_rgn (f : ChmS → ChmS) : (s.modChm f).rgn = s.rgn := rfl
@[simp] theorem Chip.modChm_cl (f : ChmS → ChmS) : (s.modChm f).cl = s.cl := rfl
@[simp] theorem Chip.modChm_adc (f : ChmS → ChmS) : (s.modChm f).adc = s.adc := rfl
@[simp] theorem Chip.modChm_meas (f : ChmS → ChmS) : (s.modChm f).meas = s.meas := rfl
@[simp] theorem Chip.modChm_pos (f : ChmS → ChmS) : (s.modChm f).pos = s.pos := rfl
@[simp] theorem Chip.modChm_cle (f : ChmS → ChmS) : (s.modChm f).cle = s.cle := rfl
@[simp] theorem Chip.modChm_slice (f : ChmS → ChmS) : (s.modChm f).slice = s.slice := rfl
@[simp] theorem Chip.modChm_pwmG (f : ChmS → ChmS) : (s.modChm f).pwmG = s.pwmG := rfl
@[simp] theorem Chip.modChm_isl (f : ChmS → ChmS) : (s.modChm f).isl = s.isl := rfl
@[simp] theorem Chip.modChm_safe (f : ChmS → ChmS) : (s.modChm f).safe = s.safe := rfl
@[simp] theorem Chip.modChm_hart (f : ChmS → ChmS) : (s.modChm f).hart = s.hart := rfl
@[simp] theorem Chip.modChm_irq (f : ChmS → ChmS) : (s.modChm f).irq = s.irq := rfl
@[simp] theorem Chip.modChm_sem (f : ChmS → ChmS) : (s.modChm f).sem = s.sem := rfl
@[simp] theorem Chip.modChm_memS (f : ChmS → ChmS) : (s.modChm f).memS = s.memS := rfl
@[simp] theorem Chip.modChm_hw (f : ChmS → ChmS) : (s.modChm f).hw = s.hw := rfl
@[simp] theorem Chip.modChm_can (f : ChmS → ChmS) : (s.modChm f).can = s.can := rfl
@[simp] theorem Chip.modChm_porch (f : ChmS → ChmS) : (s.modChm f).porch = s.porch := rfl
@[simp] theorem Chip.modChm_ring (f : ChmS → ChmS) : (s.modChm f).ring = s.ring := rfl
@[simp] theorem Chip.modChm_twin (f : ChmS → ChmS) : (s.modChm f).twin = s.twin := rfl

@[simp] theorem Chip.modHw_now (f : HwS → HwS) : (s.modHw f).now = s.now := rfl
@[simp] theorem Chip.modHw_regs (f : HwS → HwS) : (s.modHw f).regs = s.regs := rfl
@[simp] theorem Chip.modHw_mem (f : HwS → HwS) : (s.modHw f).mem = s.mem := rfl
@[simp] theorem Chip.modHw_ecc (f : HwS → HwS) : (s.modHw f).ecc = s.ecc := rfl
@[simp] theorem Chip.modHw_free (f : HwS → HwS) : (s.modHw f).free = s.free := rfl
@[simp] theorem Chip.modHw_fab (f : HwS → HwS) : (s.modHw f).fab = s.fab := rfl
@[simp] theorem Chip.modHw_log (f : HwS → HwS) : (s.modHw f).log = s.log := rfl
@[simp] theorem Chip.modHw_bus (f : HwS → HwS) : (s.modHw f).bus = s.bus := rfl
@[simp] theorem Chip.modHw_pwr (f : HwS → HwS) : (s.modHw f).pwr = s.pwr := rfl
@[simp] theorem Chip.modHw_cfg (f : HwS → HwS) : (s.modHw f).cfg = s.cfg := rfl
@[simp] theorem Chip.modHw_img (f : HwS → HwS) : (s.modHw f).img = s.img := rfl
@[simp] theorem Chip.modHw_rgn (f : HwS → HwS) : (s.modHw f).rgn = s.rgn := rfl
@[simp] theorem Chip.modHw_cl (f : HwS → HwS) : (s.modHw f).cl = s.cl := rfl
@[simp] theorem Chip.modHw_adc (f : HwS → HwS) : (s.modHw f).adc = s.adc := rfl
@[simp] theorem Chip.modHw_meas (f : HwS → HwS) : (s.modHw f).meas = s.meas := rfl
@[simp] theorem Chip.modHw_pos (f : HwS → HwS) : (s.modHw f).pos = s.pos := rfl
@[simp] theorem Chip.modHw_cle (f : HwS → HwS) : (s.modHw f).cle = s.cle := rfl
@[simp] theorem Chip.modHw_slice (f : HwS → HwS) : (s.modHw f).slice = s.slice := rfl
@[simp] theorem Chip.modHw_pwmG (f : HwS → HwS) : (s.modHw f).pwmG = s.pwmG := rfl
@[simp] theorem Chip.modHw_isl (f : HwS → HwS) : (s.modHw f).isl = s.isl := rfl
@[simp] theorem Chip.modHw_safe (f : HwS → HwS) : (s.modHw f).safe = s.safe := rfl
@[simp] theorem Chip.modHw_chm (f : HwS → HwS) : (s.modHw f).chm = s.chm := rfl
@[simp] theorem Chip.modHw_hart (f : HwS → HwS) : (s.modHw f).hart = s.hart := rfl
@[simp] theorem Chip.modHw_irq (f : HwS → HwS) : (s.modHw f).irq = s.irq := rfl
@[simp] theorem Chip.modHw_sem (f : HwS → HwS) : (s.modHw f).sem = s.sem := rfl
@[simp] theorem Chip.modHw_memS (f : HwS → HwS) : (s.modHw f).memS = s.memS := rfl
@[simp] theorem Chip.modHw_can (f : HwS → HwS) : (s.modHw f).can = s.can := rfl
@[simp] theorem Chip.modHw_porch (f : HwS → HwS) : (s.modHw f).porch = s.porch := rfl
@[simp] theorem Chip.modHw_ring (f : HwS → HwS) : (s.modHw f).ring = s.ring := rfl
@[simp] theorem Chip.modHw_twin (f : HwS → HwS) : (s.modHw f).twin = s.twin := rfl

@[simp] theorem Chip.modCan_now (n : Nat) (f : CanS → CanS) : (s.modCan n f).now = s.now := rfl
@[simp] theorem Chip.modCan_regs (n : Nat) (f : CanS → CanS) : (s.modCan n f).regs = s.regs := rfl
@[simp] theorem Chip.modCan_mem (n : Nat) (f : CanS → CanS) : (s.modCan n f).mem = s.mem := rfl
@[simp] theorem Chip.modCan_ecc (n : Nat) (f : CanS → CanS) : (s.modCan n f).ecc = s.ecc := rfl
@[simp] theorem Chip.modCan_free (n : Nat) (f : CanS → CanS) : (s.modCan n f).free = s.free := rfl
@[simp] theorem Chip.modCan_fab (n : Nat) (f : CanS → CanS) : (s.modCan n f).fab = s.fab := rfl
@[simp] theorem Chip.modCan_log (n : Nat) (f : CanS → CanS) : (s.modCan n f).log = s.log := rfl
@[simp] theorem Chip.modCan_bus (n : Nat) (f : CanS → CanS) : (s.modCan n f).bus = s.bus := rfl
@[simp] theorem Chip.modCan_pwr (n : Nat) (f : CanS → CanS) : (s.modCan n f).pwr = s.pwr := rfl
@[simp] theorem Chip.modCan_cfg (n : Nat) (f : CanS → CanS) : (s.modCan n f).cfg = s.cfg := rfl
@[simp] theorem Chip.modCan_img (n : Nat) (f : CanS → CanS) : (s.modCan n f).img = s.img := rfl
@[simp] theorem Chip.modCan_rgn (n : Nat) (f : CanS → CanS) : (s.modCan n f).rgn = s.rgn := rfl
@[simp] theorem Chip.modCan_cl (n : Nat) (f : CanS → CanS) : (s.modCan n f).cl = s.cl := rfl
@[simp] theorem Chip.modCan_adc (n : Nat) (f : CanS → CanS) : (s.modCan n f).adc = s.adc := rfl
@[simp] theorem Chip.modCan_meas (n : Nat) (f : CanS → CanS) : (s.modCan n f).meas = s.meas := rfl
@[simp] theorem Chip.modCan_pos (n : Nat) (f : CanS → CanS) : (s.modCan n f).pos = s.pos := rfl
@[simp] theorem Chip.modCan_cle (n : Nat) (f : CanS → CanS) : (s.modCan n f).cle = s.cle := rfl
@[simp] theorem Chip.modCan_slice (n : Nat) (f : CanS → CanS) : (s.modCan n f).slice = s.slice := rfl
@[simp] theorem Chip.modCan_pwmG (n : Nat) (f : CanS → CanS) : (s.modCan n f).pwmG = s.pwmG := rfl
@[simp] theorem Chip.modCan_isl (n : Nat) (f : CanS → CanS) : (s.modCan n f).isl = s.isl := rfl
@[simp] theorem Chip.modCan_safe (n : Nat) (f : CanS → CanS) : (s.modCan n f).safe = s.safe := rfl
@[simp] theorem Chip.modCan_chm (n : Nat) (f : CanS → CanS) : (s.modCan n f).chm = s.chm := rfl
@[simp] theorem Chip.modCan_hart (n : Nat) (f : CanS → CanS) : (s.modCan n f).hart = s.hart := rfl
@[simp] theorem Chip.modCan_irq (n : Nat) (f : CanS → CanS) : (s.modCan n f).irq = s.irq := rfl
@[simp] theorem Chip.modCan_sem (n : Nat) (f : CanS → CanS) : (s.modCan n f).sem = s.sem := rfl
@[simp] theorem Chip.modCan_memS (n : Nat) (f : CanS → CanS) : (s.modCan n f).memS = s.memS := rfl
@[simp] theorem Chip.modCan_hw (n : Nat) (f : CanS → CanS) : (s.modCan n f).hw = s.hw := rfl
@[simp] theorem Chip.modCan_porch (n : Nat) (f : CanS → CanS) : (s.modCan n f).porch = s.porch := rfl
@[simp] theorem Chip.modCan_ring (n : Nat) (f : CanS → CanS) : (s.modCan n f).ring = s.ring := rfl
@[simp] theorem Chip.modCan_twin (n : Nat) (f : CanS → CanS) : (s.modCan n f).twin = s.twin := rfl

@[simp] theorem Chip.modPorch_now (f : PorchS → PorchS) : (s.modPorch f).now = s.now := rfl
@[simp] theorem Chip.modPorch_regs (f : PorchS → PorchS) : (s.modPorch f).regs = s.regs := rfl
@[simp] theorem Chip.modPorch_mem (f : PorchS → PorchS) : (s.modPorch f).mem = s.mem := rfl
@[simp] theorem Chip.modPorch_ecc (f : PorchS → PorchS) : (s.modPorch f).ecc = s.ecc := rfl
@[simp] theorem Chip.modPorch_free (f : PorchS → PorchS) : (s.modPorch f).free = s.free := rfl
@[simp] theorem Chip.modPorch_fab (f : PorchS → PorchS) : (s.modPorch f).fab = s.fab := rfl
@[simp] theorem Chip.modPorch_log (f : PorchS → PorchS) : (s.modPorch f).log = s.log := rfl
@[simp] theorem Chip.modPorch_bus (f : PorchS → PorchS) : (s.modPorch f).bus = s.bus := rfl
@[simp] theorem Chip.modPorch_pwr (f : PorchS → PorchS) : (s.modPorch f).pwr = s.pwr := rfl
@[simp] theorem Chip.modPorch_cfg (f : PorchS → PorchS) : (s.modPorch f).cfg = s.cfg := rfl
@[simp] theorem Chip.modPorch_img (f : PorchS → PorchS) : (s.modPorch f).img = s.img := rfl
@[simp] theorem Chip.modPorch_rgn (f : PorchS → PorchS) : (s.modPorch f).rgn = s.rgn := rfl
@[simp] theorem Chip.modPorch_cl (f : PorchS → PorchS) : (s.modPorch f).cl = s.cl := rfl
@[simp] theorem Chip.modPorch_adc (f : PorchS → PorchS) : (s.modPorch f).adc = s.adc := rfl
@[simp] theorem Chip.modPorch_meas (f : PorchS → PorchS) : (s.modPorch f).meas = s.meas := rfl
@[simp] theorem Chip.modPorch_pos (f : PorchS → PorchS) : (s.modPorch f).pos = s.pos := rfl
@[simp] theorem Chip.modPorch_cle (f : PorchS → PorchS) : (s.modPorch f).cle = s.cle := rfl
@[simp] theorem Chip.modPorch_slice (f : PorchS → PorchS) : (s.modPorch f).slice = s.slice := rfl
@[simp] theorem Chip.modPorch_pwmG (f : PorchS → PorchS) : (s.modPorch f).pwmG = s.pwmG := rfl
@[simp] theorem Chip.modPorch_isl (f : PorchS → PorchS) : (s.modPorch f).isl = s.isl := rfl
@[simp] theorem Chip.modPorch_safe (f : PorchS → PorchS) : (s.modPorch f).safe = s.safe := rfl
@[simp] theorem Chip.modPorch_chm (f : PorchS → PorchS) : (s.modPorch f).chm = s.chm := rfl
@[simp] theorem Chip.modPorch_hart (f : PorchS → PorchS) : (s.modPorch f).hart = s.hart := rfl
@[simp] theorem Chip.modPorch_irq (f : PorchS → PorchS) : (s.modPorch f).irq = s.irq := rfl
@[simp] theorem Chip.modPorch_sem (f : PorchS → PorchS) : (s.modPorch f).sem = s.sem := rfl
@[simp] theorem Chip.modPorch_memS (f : PorchS → PorchS) : (s.modPorch f).memS = s.memS := rfl
@[simp] theorem Chip.modPorch_hw (f : PorchS → PorchS) : (s.modPorch f).hw = s.hw := rfl
@[simp] theorem Chip.modPorch_can (f : PorchS → PorchS) : (s.modPorch f).can = s.can := rfl
@[simp] theorem Chip.modPorch_ring (f : PorchS → PorchS) : (s.modPorch f).ring = s.ring := rfl
@[simp] theorem Chip.modPorch_twin (f : PorchS → PorchS) : (s.modPorch f).twin = s.twin := rfl

@[simp] theorem Chip.modRing_now (f : RingS → RingS) : (s.modRing f).now = s.now := rfl
@[simp] theorem Chip.modRing_regs (f : RingS → RingS) : (s.modRing f).regs = s.regs := rfl
@[simp] theorem Chip.modRing_mem (f : RingS → RingS) : (s.modRing f).mem = s.mem := rfl
@[simp] theorem Chip.modRing_ecc (f : RingS → RingS) : (s.modRing f).ecc = s.ecc := rfl
@[simp] theorem Chip.modRing_free (f : RingS → RingS) : (s.modRing f).free = s.free := rfl
@[simp] theorem Chip.modRing_fab (f : RingS → RingS) : (s.modRing f).fab = s.fab := rfl
@[simp] theorem Chip.modRing_log (f : RingS → RingS) : (s.modRing f).log = s.log := rfl
@[simp] theorem Chip.modRing_bus (f : RingS → RingS) : (s.modRing f).bus = s.bus := rfl
@[simp] theorem Chip.modRing_pwr (f : RingS → RingS) : (s.modRing f).pwr = s.pwr := rfl
@[simp] theorem Chip.modRing_cfg (f : RingS → RingS) : (s.modRing f).cfg = s.cfg := rfl
@[simp] theorem Chip.modRing_img (f : RingS → RingS) : (s.modRing f).img = s.img := rfl
@[simp] theorem Chip.modRing_rgn (f : RingS → RingS) : (s.modRing f).rgn = s.rgn := rfl
@[simp] theorem Chip.modRing_cl (f : RingS → RingS) : (s.modRing f).cl = s.cl := rfl
@[simp] theorem Chip.modRing_adc (f : RingS → RingS) : (s.modRing f).adc = s.adc := rfl
@[simp] theorem Chip.modRing_meas (f : RingS → RingS) : (s.modRing f).meas = s.meas := rfl
@[simp] theorem Chip.modRing_pos (f : RingS → RingS) : (s.modRing f).pos = s.pos := rfl
@[simp] theorem Chip.modRing_cle (f : RingS → RingS) : (s.modRing f).cle = s.cle := rfl
@[simp] theorem Chip.modRing_slice (f : RingS → RingS) : (s.modRing f).slice = s.slice := rfl
@[simp] theorem Chip.modRing_pwmG (f : RingS → RingS) : (s.modRing f).pwmG = s.pwmG := rfl
@[simp] theorem Chip.modRing_isl (f : RingS → RingS) : (s.modRing f).isl = s.isl := rfl
@[simp] theorem Chip.modRing_safe (f : RingS → RingS) : (s.modRing f).safe = s.safe := rfl
@[simp] theorem Chip.modRing_chm (f : RingS → RingS) : (s.modRing f).chm = s.chm := rfl
@[simp] theorem Chip.modRing_hart (f : RingS → RingS) : (s.modRing f).hart = s.hart := rfl
@[simp] theorem Chip.modRing_irq (f : RingS → RingS) : (s.modRing f).irq = s.irq := rfl
@[simp] theorem Chip.modRing_sem (f : RingS → RingS) : (s.modRing f).sem = s.sem := rfl
@[simp] theorem Chip.modRing_memS (f : RingS → RingS) : (s.modRing f).memS = s.memS := rfl
@[simp] theorem Chip.modRing_hw (f : RingS → RingS) : (s.modRing f).hw = s.hw := rfl
@[simp] theorem Chip.modRing_can (f : RingS → RingS) : (s.modRing f).can = s.can := rfl
@[simp] theorem Chip.modRing_porch (f : RingS → RingS) : (s.modRing f).porch = s.porch := rfl
@[simp] theorem Chip.modRing_twin (f : RingS → RingS) : (s.modRing f).twin = s.twin := rfl

@[simp] theorem Chip.modTwin_now (f : TwinS → TwinS) : (s.modTwin f).now = s.now := rfl
@[simp] theorem Chip.modTwin_regs (f : TwinS → TwinS) : (s.modTwin f).regs = s.regs := rfl
@[simp] theorem Chip.modTwin_mem (f : TwinS → TwinS) : (s.modTwin f).mem = s.mem := rfl
@[simp] theorem Chip.modTwin_ecc (f : TwinS → TwinS) : (s.modTwin f).ecc = s.ecc := rfl
@[simp] theorem Chip.modTwin_free (f : TwinS → TwinS) : (s.modTwin f).free = s.free := rfl
@[simp] theorem Chip.modTwin_fab (f : TwinS → TwinS) : (s.modTwin f).fab = s.fab := rfl
@[simp] theorem Chip.modTwin_log (f : TwinS → TwinS) : (s.modTwin f).log = s.log := rfl
@[simp] theorem Chip.modTwin_bus (f : TwinS → TwinS) : (s.modTwin f).bus = s.bus := rfl
@[simp] theorem Chip.modTwin_pwr (f : TwinS → TwinS) : (s.modTwin f).pwr = s.pwr := rfl
@[simp] theorem Chip.modTwin_cfg (f : TwinS → TwinS) : (s.modTwin f).cfg = s.cfg := rfl
@[simp] theorem Chip.modTwin_img (f : TwinS → TwinS) : (s.modTwin f).img = s.img := rfl
@[simp] theorem Chip.modTwin_rgn (f : TwinS → TwinS) : (s.modTwin f).rgn = s.rgn := rfl
@[simp] theorem Chip.modTwin_cl (f : TwinS → TwinS) : (s.modTwin f).cl = s.cl := rfl
@[simp] theorem Chip.modTwin_adc (f : TwinS → TwinS) : (s.modTwin f).adc = s.adc := rfl
@[simp] theorem Chip.modTwin_meas (f : TwinS → TwinS) : (s.modTwin f).meas = s.meas := rfl
@[simp] theorem Chip.modTwin_pos (f : TwinS → TwinS) : (s.modTwin f).pos = s.pos := rfl
@[simp] theorem Chip.modTwin_cle (f : TwinS → TwinS) : (s.modTwin f).cle = s.cle := rfl
@[simp] theorem Chip.modTwin_slice (f : TwinS → TwinS) : (s.modTwin f).slice = s.slice := rfl
@[simp] theorem Chip.modTwin_pwmG (f : TwinS → TwinS) : (s.modTwin f).pwmG = s.pwmG := rfl
@[simp] theorem Chip.modTwin_isl (f : TwinS → TwinS) : (s.modTwin f).isl = s.isl := rfl
@[simp] theorem Chip.modTwin_safe (f : TwinS → TwinS) : (s.modTwin f).safe = s.safe := rfl
@[simp] theorem Chip.modTwin_chm (f : TwinS → TwinS) : (s.modTwin f).chm = s.chm := rfl
@[simp] theorem Chip.modTwin_hart (f : TwinS → TwinS) : (s.modTwin f).hart = s.hart := rfl
@[simp] theorem Chip.modTwin_irq (f : TwinS → TwinS) : (s.modTwin f).irq = s.irq := rfl
@[simp] theorem Chip.modTwin_sem (f : TwinS → TwinS) : (s.modTwin f).sem = s.sem := rfl
@[simp] theorem Chip.modTwin_memS (f : TwinS → TwinS) : (s.modTwin f).memS = s.memS := rfl
@[simp] theorem Chip.modTwin_hw (f : TwinS → TwinS) : (s.modTwin f).hw = s.hw := rfl
@[simp] theorem Chip.modTwin_can (f : TwinS → TwinS) : (s.modTwin f).can = s.can := rfl
@[simp] theorem Chip.modTwin_porch (f : TwinS → TwinS) : (s.modTwin f).porch = s.porch := rfl
@[simp] theorem Chip.modTwin_ring (f : TwinS → TwinS) : (s.modTwin f).ring = s.ring := rfl

end

end Sys2Proof.Machine
end

