-- ==== Sys2Proof/Laws/Frame.lean ====
section
/-! SUPPORT. Frames: they compose, and each named operation keeps everything but the field or part that it writes. -/

namespace Sys2Proof.Machine

theorem Chip.agree_refl (c : Chip) (p : Part) : c.agree c p := by cases p <;> rfl

theorem Chip.agree_trans {c d e : Chip} {p : Part} (h : c.agree d p) (k : d.agree e p) : c.agree e p := by
  cases p <;> exact h.trans k

theorem Chip.Frame.refl (c : Chip) (fs : List Field) (ps : List Part) : c.Frame c fs ps :=
  ⟨fun _ _ => rfl, fun p _ => c.agree_refl p⟩

theorem Chip.Frame.trans {c d e : Chip} {fs : List Field} {ps : List Part} (h : c.Frame d fs ps) (k : d.Frame e fs ps) :
    c.Frame e fs ps :=
  ⟨fun f hf => (k.1 f hf).trans (h.1 f hf), fun p hp => Chip.agree_trans (h.2 p hp) (k.2 p hp)⟩

theorem Chip.Frame.mono {c d : Chip} {fs fs' : List Field} {ps ps' : List Part} (h : c.Frame d fs ps)
    (hf : ∀ f ∈ fs, f ∈ fs') (hp : ∀ p ∈ ps, p ∈ ps') : c.Frame d fs' ps' :=
  ⟨fun f k => h.1 f fun g hg => k g (hf g hg), fun p k => h.2 p fun q => k (by
    rcases List.mem_cons.1 q with r | r
    · exact r ▸ List.mem_cons_self ..
    · exact List.mem_cons_of_mem _ (hp p r))⟩

theorem Chip.Frame.set (s : Chip) (f : Field) (v : Nat) {fs : List Field} (ps : List Part) (h : f ∈ fs) :
    s.Frame (s.set f v) fs ps :=
  ⟨fun g k => s.get_set_other (k f h) v, fun p hp => by cases p <;> first | rfl | exact absurd (List.mem_cons_self ..) hp⟩

theorem Chip.Frame.assign (s : Chip) (f : Field) (v : Nat) {fs : List Field} (ps : List Part) (h : f ∈ fs) :
    s.Frame (s.assign f v) fs ps :=
  ⟨fun g k => s.get_assign_other (k f h) v, fun p hp => by cases p <;> first | rfl | exact absurd (List.mem_cons_self ..) hp⟩

theorem Chip.Frame.setBitOf (s : Chip) (f : Field) (i : Nat) {fs : List Field} (ps : List Part) (h : f ∈ fs) :
    s.Frame (s.setBitOf f i) fs ps :=
  ⟨fun g k => s.get_setBitOf_other (k f h) i, fun p hp => by cases p <;> first | rfl | exact absurd (List.mem_cons_self ..) hp⟩

theorem Chip.Frame.put (s : Chip) (f : Field) (b : Bool) {fs : List Field} (ps : List Part) (h : f ∈ fs) :
    s.Frame (s.put f b) fs ps := Chip.Frame.set s f _ ps h

theorem Chip.Frame.sets (l : List (Field × Nat)) {fs : List Field} (ps : List Part) :
    ∀ s : Chip, (∀ p ∈ l, p.1 ∈ fs) → s.Frame (s.sets l) fs ps := by
  induction l with
  | nil => intro s _; exact Chip.Frame.refl ..
  | cons p l ih =>
    intro s h
    exact (Chip.Frame.set s p.1 p.2 ps (h p (by simp))).trans (ih _ fun q hq => h q (by simp [hq]))

theorem Chip.Frame.settle (s : Chip) (fs : List Field) (ps : List Part) : s.Frame s.settle fs ps := by
  refine ⟨fun f _ => s.settle_get f, fun p _ => ?_⟩
  cases p
  case hart => exact s.settle_hart.symm
  case regs => exact s.settle_same.regs.symm
  case now => exact s.settle_same.now.symm
  case mem => exact s.settle_same.mem.symm
  case ecc => exact s.settle_same.ecc.symm
  case free => exact s.settle_same.free.symm
  case fab => exact s.settle_same.fab.symm
  case log => exact s.settle_same.log.symm
  case bus => exact s.settle_same.bus.symm
  case pwr => exact s.settle_same.pwr.symm
  case cfg => exact s.settle_same.cfg.symm
  case img => exact s.settle_same.img.symm
  case rgn => exact s.settle_same.rgn.symm
  case cl => exact s.settle_same.cl.symm
  case adc => exact s.settle_same.adc.symm
  case meas => exact s.settle_same.meas.symm
  case pos => exact s.settle_same.pos.symm
  case cle => exact s.settle_same.cle.symm
  case slice => exact s.settle_same.slice.symm
  case pwmG => exact s.settle_same.pwmG.symm
  case isl => exact s.settle_same.isl.symm
  case safe => exact s.settle_same.safe.symm
  case chm => exact s.settle_same.chm.symm
  case sem => exact s.settle_same.sem.symm
  case memS => exact s.settle_same.memS.symm
  case hw => exact s.settle_same.hw.symm
  case can => exact s.settle_same.can.symm
  case porch => exact s.settle_same.porch.symm
  case ring => exact s.settle_same.ring.symm
  case twin => exact s.settle_same.twin.symm

theorem Chip.Frame.now (s : Chip) (x : Nat) (fs : List Field) {ps : List Part} (h : Part.now ∈ ps) :
    s.Frame { s with now := x } fs ps :=
  ⟨fun _ _ => rfl, fun q hq => by cases q <;> first | rfl | exact absurd (List.mem_cons_of_mem _ h) hq⟩

theorem Chip.Frame.mem (s : Chip) (x : List Host.Cell) (fs : List Field) {ps : List Part} (h : Part.mem ∈ ps) :
    s.Frame { s with mem := x } fs ps :=
  ⟨fun _ _ => rfl, fun q hq => by cases q <;> first | rfl | exact absurd (List.mem_cons_of_mem _ h) hq⟩

theorem Chip.Frame.ecc (s : Chip) (x : List (Nat × Nat)) (fs : List Field) {ps : List Part} (h : Part.ecc ∈ ps) :
    s.Frame { s with ecc := x } fs ps :=
  ⟨fun _ _ => rfl, fun q hq => by cases q <;> first | rfl | exact absurd (List.mem_cons_of_mem _ h) hq⟩

theorem Chip.Frame.free (s : Chip) (x : Nat) (fs : List Field) {ps : List Part} (h : Part.free ∈ ps) :
    s.Frame { s with free := x } fs ps :=
  ⟨fun _ _ => rfl, fun q hq => by cases q <;> first | rfl | exact absurd (List.mem_cons_of_mem _ h) hq⟩

theorem Chip.Frame.fab (s : Chip) (x : List (Nat × Nat)) (fs : List Field) {ps : List Part} (h : Part.fab ∈ ps) :
    s.Frame { s with fab := x } fs ps :=
  ⟨fun _ _ => rfl, fun q hq => by cases q <;> first | rfl | exact absurd (List.mem_cons_of_mem _ h) hq⟩

theorem Chip.Frame.log (s : Chip) (x : LogS) (fs : List Field) {ps : List Part} (h : Part.log ∈ ps) :
    s.Frame { s with log := x } fs ps :=
  ⟨fun _ _ => rfl, fun q hq => by cases q <;> first | rfl | exact absurd (List.mem_cons_of_mem _ h) hq⟩

theorem Chip.Frame.bus (s : Chip) (x : BusS) (fs : List Field) {ps : List Part} (h : Part.bus ∈ ps) :
    s.Frame { s with bus := x } fs ps :=
  ⟨fun _ _ => rfl, fun q hq => by cases q <;> first | rfl | exact absurd (List.mem_cons_of_mem _ h) hq⟩

theorem Chip.Frame.pwr (s : Chip) (x : PowerS) (fs : List Field) {ps : List Part} (h : Part.pwr ∈ ps) :
    s.Frame { s with pwr := x } fs ps :=
  ⟨fun _ _ => rfl, fun q hq => by cases q <;> first | rfl | exact absurd (List.mem_cons_of_mem _ h) hq⟩

theorem Chip.Frame.cfg (s : Chip) (x : CfgS) (fs : List Field) {ps : List Part} (h : Part.cfg ∈ ps) :
    s.Frame { s with cfg := x } fs ps :=
  ⟨fun _ _ => rfl, fun q hq => by cases q <;> first | rfl | exact absurd (List.mem_cons_of_mem _ h) hq⟩

theorem Chip.Frame.img (s : Chip) (x : Image) (fs : List Field) {ps : List Part} (h : Part.img ∈ ps) :
    s.Frame { s with img := x } fs ps :=
  ⟨fun _ _ => rfl, fun q hq => by cases q <;> first | rfl | exact absurd (List.mem_cons_of_mem _ h) hq⟩

theorem Chip.Frame.rgn (s : Chip) (x : List RegionS) (fs : List Field) {ps : List Part} (h : Part.rgn ∈ ps) :
    s.Frame { s with rgn := x } fs ps :=
  ⟨fun _ _ => rfl, fun q hq => by cases q <;> first | rfl | exact absurd (List.mem_cons_of_mem _ h) hq⟩

theorem Chip.Frame.cl (s : Chip) (x : List ClusterS) (fs : List Field) {ps : List Part} (h : Part.cl ∈ ps) :
    s.Frame { s with cl := x } fs ps :=
  ⟨fun _ _ => rfl, fun q hq => by cases q <;> first | rfl | exact absurd (List.mem_cons_of_mem _ h) hq⟩

theorem Chip.Frame.adc (s : Chip) (x : AdcS) (fs : List Field) {ps : List Part} (h : Part.adc ∈ ps) :
    s.Frame { s with adc := x } fs ps :=
  ⟨fun _ _ => rfl, fun q hq => by cases q <;> first | rfl | exact absurd (List.mem_cons_of_mem _ h) hq⟩

theorem Chip.Frame.meas (s : Chip) (x : List MeasS) (fs : List Field) {ps : List Part} (h : Part.meas ∈ ps) :
    s.Frame { s with meas := x } fs ps :=
  ⟨fun _ _ => rfl, fun q hq => by cases q <;> first | rfl | exact absurd (List.mem_cons_of_mem _ h) hq⟩

theorem Chip.Frame.pos (s : Chip) (x : List PosS) (fs : List Field) {ps : List Part} (h : Part.pos ∈ ps) :
    s.Frame { s with pos := x } fs ps :=
  ⟨fun _ _ => rfl, fun q hq => by cases q <;> first | rfl | exact absurd (List.mem_cons_of_mem _ h) hq⟩

theorem Chip.Frame.cle (s : Chip) (x : List CleS) (fs : List Field) {ps : List Part} (h : Part.cle ∈ ps) :
    s.Frame { s with cle := x } fs ps :=
  ⟨fun _ _ => rfl, fun q hq => by cases q <;> first | rfl | exact absurd (List.mem_cons_of_mem _ h) hq⟩

theorem Chip.Frame.slice (s : Chip) (x : List SliceS) (fs : List Field) {ps : List Part} (h : Part.slice ∈ ps) :
    s.Frame { s with slice := x } fs ps :=
  ⟨fun _ _ => rfl, fun q hq => by cases q <;> first | rfl | exact absurd (List.mem_cons_of_mem _ h) hq⟩

theorem Chip.Frame.pwmG (s : Chip) (x : PwmGS) (fs : List Field) {ps : List Part} (h : Part.pwmG ∈ ps) :
    s.Frame { s with pwmG := x } fs ps :=
  ⟨fun _ _ => rfl, fun q hq => by cases q <;> first | rfl | exact absurd (List.mem_cons_of_mem _ h) hq⟩

theorem Chip.Frame.isl (s : Chip) (x : List IslandS) (fs : List Field) {ps : List Part} (h : Part.isl ∈ ps) :
    s.Frame { s with isl := x } fs ps :=
  ⟨fun _ _ => rfl, fun q hq => by cases q <;> first | rfl | exact absurd (List.mem_cons_of_mem _ h) hq⟩

theorem Chip.Frame.safe (s : Chip) (x : SafeS) (fs : List Field) {ps : List Part} (h : Part.safe ∈ ps) :
    s.Frame { s with safe := x } fs ps :=
  ⟨fun _ _ => rfl, fun q hq => by cases q <;> first | rfl | exact absurd (List.mem_cons_of_mem _ h) hq⟩

theorem Chip.Frame.chm (s : Chip) (x : ChmS) (fs : List Field) {ps : List Part} (h : Part.chm ∈ ps) :
    s.Frame { s with chm := x } fs ps :=
  ⟨fun _ _ => rfl, fun q hq => by cases q <;> first | rfl | exact absurd (List.mem_cons_of_mem _ h) hq⟩

theorem Chip.Frame.sem (s : Chip) (x : SemS) (fs : List Field) {ps : List Part} (h : Part.sem ∈ ps) :
    s.Frame { s with sem := x } fs ps :=
  ⟨fun _ _ => rfl, fun q hq => by cases q <;> first | rfl | exact absurd (List.mem_cons_of_mem _ h) hq⟩

theorem Chip.Frame.memS (s : Chip) (x : MemS) (fs : List Field) {ps : List Part} (h : Part.memS ∈ ps) :
    s.Frame { s with memS := x } fs ps :=
  ⟨fun _ _ => rfl, fun q hq => by cases q <;> first | rfl | exact absurd (List.mem_cons_of_mem _ h) hq⟩

theorem Chip.Frame.hw (s : Chip) (x : HwS) (fs : List Field) {ps : List Part} (h : Part.hw ∈ ps) :
    s.Frame { s with hw := x } fs ps :=
  ⟨fun _ _ => rfl, fun q hq => by cases q <;> first | rfl | exact absurd (List.mem_cons_of_mem _ h) hq⟩

theorem Chip.Frame.can (s : Chip) (x : List CanS) (fs : List Field) {ps : List Part} (h : Part.can ∈ ps) :
    s.Frame { s with can := x } fs ps :=
  ⟨fun _ _ => rfl, fun q hq => by cases q <;> first | rfl | exact absurd (List.mem_cons_of_mem _ h) hq⟩

theorem Chip.Frame.porch (s : Chip) (x : PorchS) (fs : List Field) {ps : List Part} (h : Part.porch ∈ ps) :
    s.Frame { s with porch := x } fs ps :=
  ⟨fun _ _ => rfl, fun q hq => by cases q <;> first | rfl | exact absurd (List.mem_cons_of_mem _ h) hq⟩

theorem Chip.Frame.ring (s : Chip) (x : RingS) (fs : List Field) {ps : List Part} (h : Part.ring ∈ ps) :
    s.Frame { s with ring := x } fs ps :=
  ⟨fun _ _ => rfl, fun q hq => by cases q <;> first | rfl | exact absurd (List.mem_cons_of_mem _ h) hq⟩

theorem Chip.Frame.twin (s : Chip) (x : TwinS) (fs : List Field) {ps : List Part} (h : Part.twin ∈ ps) :
    s.Frame { s with twin := x } fs ps :=
  ⟨fun _ _ => rfl, fun q hq => by cases q <;> first | rfl | exact absurd (List.mem_cons_of_mem _ h) hq⟩

theorem Chip.Frame.hart (s : Chip) (x : List HartS) (fs : List Field) {ps : List Part} (h : Part.hart ∈ ps) :
    s.Frame { s with hart := x } fs ps :=
  ⟨fun _ _ => rfl, fun q hq => by cases q <;> first | rfl | exact absurd (List.mem_cons_of_mem _ h) hq⟩

theorem Chip.Frame.irq (s : Chip) (x : IrqS) (fs : List Field) (ps : List Part) : s.Frame { s with irq := x } fs ps :=
  ⟨fun _ _ => rfl, fun q _ => by cases q <;> rfl⟩

/-- A recorded fault changes the log, the retention log's registers and its cluster's fault fields only. -/
theorem Chip.Frame.record (s : Chip) (code cls inst cluster region data : Nat) {fs : List Field} {ps : List Part}
    (hl : Part.log ∈ ps) (hh : cls ≥ 3 ∨ code = 0x0E13 ∨ code = 0x0E10 → Reg.CEL_STAT_log_head ∈ fs ∧ Reg.CEL_STAT_log_wrapped ∈ fs)
    (hc : cluster < 4 → Reg.SEQ_FAULT_code cluster ∈ fs ∧ Reg.SEQ_FAULT_class cluster ∈ fs ∧ Reg.SEQ_FLAGS_fault cluster ∈ fs) :
    s.Frame (s.record code cls inst cluster region data) fs ps := by
  unfold Chip.record
  simp only
  have h1 : ∀ (t : Chip), (cls ≥ 3 ∨ code = 0x0E13 ∨ code = 0x0E10) → ∀ e, t.Frame (t.retain e) fs ps := by
    intro t ht e
    obtain ⟨ha, hb⟩ := hh ht
    unfold Chip.retain
    extract_lets _ full _ _ r _ s1 s2
    have h0 : t.Frame s1 fs ps := Chip.Frame.log t _ fs hl
    have h2 : t.Frame s2 fs ps := h0.trans (Chip.Frame.set _ _ _ ps ha)
    split
    · exact h2.trans (Chip.Frame.put _ _ _ ps hb)
    · exact h2
  have h2 : ∀ t : Chip, cluster < 4 → t.Frame (((t.set (Reg.SEQ_FAULT_code cluster) code).set (Reg.SEQ_FAULT_class cluster) cls).set
      (Reg.SEQ_FLAGS_fault cluster) 1) fs ps := by
    intro t ht
    obtain ⟨ha, hb, hc⟩ := hc ht
    exact ((Chip.Frame.set _ _ _ ps ha).trans (Chip.Frame.set _ _ _ ps hb)).trans (Chip.Frame.set _ _ _ ps hc)
  have h3 : ∀ (t : Chip) (e : LogEntry), t.Frame (if cls ≥ 3 || code == 0x0E13 || code == 0x0E10 then t.retain e else t) fs ps := by
    intro t e
    split
    · rename_i ht
      exact h1 t (by simpa [or_assoc] using ht) e
    · exact Chip.Frame.refl ..
  have h4 : ∀ t : Chip, t.Frame (if cluster < 4 then (((t.set (Reg.SEQ_FAULT_code cluster) code).set
      (Reg.SEQ_FAULT_class cluster) cls).set (Reg.SEQ_FLAGS_fault cluster) 1) else t) fs ps := by
    intro t
    split
    · exact h2 t (by assumption)
    · exact Chip.Frame.refl ..
  exact ((Chip.Frame.log s _ fs hl).trans (h3 _ _)).trans (h4 _)

theorem Chip.Frame.note (s : Chip) (code inst data : Nat) {fs : List Field} {ps : List Part} (hl : Part.log ∈ ps)
    (h1 : code ≠ 0x0E13) (h2 : code ≠ 0x0E10) : s.Frame (s.note code inst data) fs ps :=
  Chip.Frame.record s _ _ _ _ _ _ hl (by omega) (by omega)

end Sys2Proof.Machine
end

