-- ==== Sys2Proof/Laws/Inside.lean ====
section
/-! SUPPORT. Which parts of the module an operation may change, the parts written as the bits of a number: the rules of the
relation, and its lemmas for the operations that write a part. -/

namespace Sys2Proof.Machine

/-- The bit that stands for a part. -/
def Part.bit : Part → ℕ
  | .now => 0
  | .regs => 1
  | .mem => 2
  | .ecc => 3
  | .free => 4
  | .fab => 5
  | .log => 6
  | .bus => 7
  | .pwr => 8
  | .cfg => 9
  | .img => 10
  | .rgn => 11
  | .cl => 12
  | .adc => 13
  | .meas => 14
  | .pos => 15
  | .cle => 16
  | .slice => 17
  | .pwmG => 18
  | .isl => 19
  | .safe => 20
  | .chm => 21
  | .hart => 22
  | .sem => 24
  | .memS => 25
  | .hw => 26
  | .can => 27
  | .porch => 28
  | .ring => 29
  | .twin => 30

/-- Every bit of `a` is one of `b`. -/
def Sub (a b : ℕ) : Prop := a ||| b = b

theorem Sub.up {a b M : ℕ} (h : Sub a M) (k : b ||| a = a) : Sub b M := by
  unfold Sub at *
  rw [← h, ← Nat.lor_assoc, k]

theorem Sub.no {a M i : ℕ} {p : Prop} (h : Sub a M) (k : a.testBit i = true) (hp : M.testBit i = false) : p := by
  unfold Sub at h
  rw [← h, Nat.testBit_lor, k] at hp
  simp at hp

/-- The module `d` differs from `c` at most in the parts whose bits stand in `M`. -/
def Chip.Inside (c : Chip) (M : ℕ) (d : Chip) : Prop := ∀ p : Part, M.testBit p.bit = false → c.agree d p

/-- From bits to a list of parts. -/
theorem Chip.Inside.within {c d : Chip} {M : ℕ} {l : List Part} (h : c.Inside M d)
    (k : ∀ p, p ∉ l → M.testBit p.bit = false) : c.Within d l := fun p hp => h p (k p hp)

theorem Part.all_or_le {M : ℕ} (p : Part) (h : Sub 2139095039 M) (k : M.testBit p.bit = false) : False := by
  cases p <;> exact h.no rfl k

namespace Chip.Inside

variable {M : ℕ} {z s : Chip}

theorem refl (c : Chip) (M : ℕ) : c.Inside M c := fun p _ => c.agree_refl p

theorem trans {c d e : Chip} (h : c.Inside M d) (k : d.Inside M e) : c.Inside M e :=
  fun p hp => Chip.agree_trans (h p hp) (k p hp)

theorem all (h : Sub 2139095039 M) : z.Inside M s := fun p hp => (Part.all_or_le p h hp).elim

/-- A change of parts whose bits stand in `M`. -/
theorem step {t : Chip} (h : z.Inside M s) (k : ∀ p : Part, M.testBit p.bit = false → s.agree t p) : z.Inside M t :=
  h.trans k

theorem ite {c : Prop} [Decidable c] {a b : Chip} (ha : z.Inside M a) (hb : z.Inside M b) :
    z.Inside M (if c then a else b) := by
  split <;> assumption

theorem iteP {α : Type} {c : Prop} [Decidable c] {a b : Chip × α} (ha : z.Inside M a.1) (hb : z.Inside M b.1) :
    z.Inside M (if c then a else b).1 := by
  split <;> assumption

theorem iteL {c : Prop} [Decidable c] {a b : LoopRun} (ha : z.Inside M a.chip) (hb : z.Inside M b.chip) :
    z.Inside M (if c then a else b).chip := by
  split <;> assumption

theorem fst {α : Type} {a : Chip} {b : α} (h : z.Inside M a) : z.Inside M (a, b).1 := h

theorem cond {c : Bool} {a b : Chip} (ha : z.Inside M a) (hb : z.Inside M b) : z.Inside M (cond c a b) := by
  cases c <;> assumption

theorem each {α : Type} {l : List α} {f : α → Chip → Chip} (h : z.Inside M s)
    (hf : ∀ a t, z.Inside M t → z.Inside M (f a t)) : z.Inside M (forEach l f s) := by
  unfold forEach
  induction l generalizing s with
  | nil => exact h
  | cons a l ih => exact ih (hf a s h)

theorem foldl {α : Type} {l : List α} {f : Chip → α → Chip} (h : z.Inside M s)
    (hf : ∀ t a, z.Inside M t → z.Inside M (f t a)) : z.Inside M (l.foldl f s) := by
  induction l generalizing s with
  | nil => exact h
  | cons a l ih => exact ih (hf s a h)

theorem foldlP {α β : Type} {l : List α} {f : Chip × β → α → Chip × β} {p : Chip × β} (h : z.Inside M p.1)
    (hf : ∀ t a, z.Inside M t.1 → z.Inside M (f t a).1) : z.Inside M (l.foldl f p).1 := by
  induction l generalizing p with
  | nil => exact h
  | cons a l ih => exact ih (hf p a h)

end Chip.Inside

theorem Chip.Inside.mk_adc {M : ℕ} {z s : Chip} {x0 : AdcS} (hM : Sub 8192 M) (h : z.Inside M s) :
    z.Inside M { s with adc := x0 } :=
  h.step fun p hp => by cases p <;> first | rfl | exact hM.no rfl hp

theorem Chip.Inside.mk_bus {M : ℕ} {z s : Chip} {x0 : BusS} (hM : Sub 128 M) (h : z.Inside M s) :
    z.Inside M { s with bus := x0 } :=
  h.step fun p hp => by cases p <;> first | rfl | exact hM.no rfl hp

theorem Chip.Inside.mk_bus_irq_sem_hw {M : ℕ} {z s : Chip} {x0 : BusS} {x1 : IrqS} {x2 : SemS} {x3 : HwS} (hM : Sub 83886208 M) (h : z.Inside M s) :
    z.Inside M { s with bus := x0, irq := x1, sem := x2, hw := x3 } :=
  h.step fun p hp => by cases p <;> first | rfl | exact hM.no rfl hp

theorem Chip.Inside.mk_can {M : ℕ} {z s : Chip} {x0 : List CanS} (hM : Sub 134217728 M) (h : z.Inside M s) :
    z.Inside M { s with can := x0 } :=
  h.step fun p hp => by cases p <;> first | rfl | exact hM.no rfl hp

theorem Chip.Inside.mk_cfg {M : ℕ} {z s : Chip} {x0 : CfgS} (hM : Sub 512 M) (h : z.Inside M s) :
    z.Inside M { s with cfg := x0 } :=
  h.step fun p hp => by cases p <;> first | rfl | exact hM.no rfl hp

theorem Chip.Inside.mk_chm {M : ℕ} {z s : Chip} {x0 : ChmS} (hM : Sub 2097152 M) (h : z.Inside M s) :
    z.Inside M { s with chm := x0 } :=
  h.step fun p hp => by cases p <;> first | rfl | exact hM.no rfl hp

theorem Chip.Inside.mk_cl {M : ℕ} {z s : Chip} {x0 : List ClusterS} (hM : Sub 4096 M) (h : z.Inside M s) :
    z.Inside M { s with cl := x0 } :=
  h.step fun p hp => by cases p <;> first | rfl | exact hM.no rfl hp

theorem Chip.Inside.mk_cle {M : ℕ} {z s : Chip} {x0 : List CleS} (hM : Sub 65536 M) (h : z.Inside M s) :
    z.Inside M { s with cle := x0 } :=
  h.step fun p hp => by cases p <;> first | rfl | exact hM.no rfl hp

theorem Chip.Inside.mk_ecc {M : ℕ} {z s : Chip} {x0 : List (Nat × Nat)} (hM : Sub 8 M) (h : z.Inside M s) :
    z.Inside M { s with ecc := x0 } :=
  h.step fun p hp => by cases p <;> first | rfl | exact hM.no rfl hp

theorem Chip.Inside.mk_free {M : ℕ} {z s : Chip} {x0 : Nat} (hM : Sub 16 M) (h : z.Inside M s) :
    z.Inside M { s with free := x0 } :=
  h.step fun p hp => by cases p <;> first | rfl | exact hM.no rfl hp

theorem Chip.Inside.mk_hart {M : ℕ} {z s : Chip} {x0 : List HartS} (hM : Sub 4194304 M) (h : z.Inside M s) :
    z.Inside M { s with hart := x0 } :=
  h.step fun p hp => by cases p <;> first | rfl | exact hM.no rfl hp

theorem Chip.Inside.mk_hw {M : ℕ} {z s : Chip} {x0 : HwS} (hM : Sub 67108864 M) (h : z.Inside M s) :
    z.Inside M { s with hw := x0 } :=
  h.step fun p hp => by cases p <;> first | rfl | exact hM.no rfl hp

theorem Chip.Inside.mk_img {M : ℕ} {z s : Chip} {x0 : Image} (hM : Sub 1024 M) (h : z.Inside M s) :
    z.Inside M { s with img := x0 } :=
  h.step fun p hp => by cases p <;> first | rfl | exact hM.no rfl hp

theorem Chip.Inside.mk_irq {M : ℕ} {z s : Chip} {x0 : IrqS} (_hM : Sub 0 M) (h : z.Inside M s) :
    z.Inside M { s with irq := x0 } :=
  h.step fun p hp => by cases p <;> rfl

theorem Chip.Inside.mk_isl {M : ℕ} {z s : Chip} {x0 : List IslandS} (hM : Sub 524288 M) (h : z.Inside M s) :
    z.Inside M { s with isl := x0 } :=
  h.step fun p hp => by cases p <;> first | rfl | exact hM.no rfl hp

theorem Chip.Inside.mk_log {M : ℕ} {z s : Chip} {x0 : LogS} (hM : Sub 64 M) (h : z.Inside M s) :
    z.Inside M { s with log := x0 } :=
  h.step fun p hp => by cases p <;> first | rfl | exact hM.no rfl hp

theorem Chip.Inside.mk_meas {M : ℕ} {z s : Chip} {x0 : List MeasS} (hM : Sub 16384 M) (h : z.Inside M s) :
    z.Inside M { s with meas := x0 } :=
  h.step fun p hp => by cases p <;> first | rfl | exact hM.no rfl hp

theorem Chip.Inside.mk_memS {M : ℕ} {z s : Chip} {x0 : MemS} (hM : Sub 33554432 M) (h : z.Inside M s) :
    z.Inside M { s with memS := x0 } :=
  h.step fun p hp => by cases p <;> first | rfl | exact hM.no rfl hp

theorem Chip.Inside.mk_mem_ecc_fab_bus_memS {M : ℕ} {z s : Chip} {x0 : List Host.Cell} {x1 : List (Nat × Nat)} {x2 : List (Nat × Nat)} {x3 : BusS} {x4 : MemS} (hM : Sub 33554604 M) (h : z.Inside M s) :
    z.Inside M { s with mem := x0, ecc := x1, fab := x2, bus := x3, memS := x4 } :=
  h.step fun p hp => by cases p <;> first | rfl | exact hM.no rfl hp

theorem Chip.Inside.mk_porch {M : ℕ} {z s : Chip} {x0 : PorchS} (hM : Sub 268435456 M) (h : z.Inside M s) :
    z.Inside M { s with porch := x0 } :=
  h.step fun p hp => by cases p <;> first | rfl | exact hM.no rfl hp

theorem Chip.Inside.mk_pos {M : ℕ} {z s : Chip} {x0 : List PosS} (hM : Sub 32768 M) (h : z.Inside M s) :
    z.Inside M { s with pos := x0 } :=
  h.step fun p hp => by cases p <;> first | rfl | exact hM.no rfl hp

theorem Chip.Inside.mk_pwmG {M : ℕ} {z s : Chip} {x0 : PwmGS} (hM : Sub 262144 M) (h : z.Inside M s) :
    z.Inside M { s with pwmG := x0 } :=
  h.step fun p hp => by cases p <;> first | rfl | exact hM.no rfl hp

theorem Chip.Inside.mk_pwr {M : ℕ} {z s : Chip} {x0 : PowerS} (hM : Sub 256 M) (h : z.Inside M s) :
    z.Inside M { s with pwr := x0 } :=
  h.step fun p hp => by cases p <;> first | rfl | exact hM.no rfl hp

theorem Chip.Inside.mk_rgn {M : ℕ} {z s : Chip} {x0 : List RegionS} (hM : Sub 2048 M) (h : z.Inside M s) :
    z.Inside M { s with rgn := x0 } :=
  h.step fun p hp => by cases p <;> first | rfl | exact hM.no rfl hp

theorem Chip.Inside.mk_ring {M : ℕ} {z s : Chip} {x0 : RingS} (hM : Sub 536870912 M) (h : z.Inside M s) :
    z.Inside M { s with ring := x0 } :=
  h.step fun p hp => by cases p <;> first | rfl | exact hM.no rfl hp

theorem Chip.Inside.mk_safe {M : ℕ} {z s : Chip} {x0 : SafeS} (hM : Sub 1048576 M) (h : z.Inside M s) :
    z.Inside M { s with safe := x0 } :=
  h.step fun p hp => by cases p <;> first | rfl | exact hM.no rfl hp

theorem Chip.Inside.mk_sem {M : ℕ} {z s : Chip} {x0 : SemS} (hM : Sub 16777216 M) (h : z.Inside M s) :
    z.Inside M { s with sem := x0 } :=
  h.step fun p hp => by cases p <;> first | rfl | exact hM.no rfl hp

theorem Chip.Inside.mk_slice {M : ℕ} {z s : Chip} {x0 : List SliceS} (hM : Sub 131072 M) (h : z.Inside M s) :
    z.Inside M { s with slice := x0 } :=
  h.step fun p hp => by cases p <;> first | rfl | exact hM.no rfl hp

theorem Chip.Inside.mk_twin {M : ℕ} {z s : Chip} {x0 : TwinS} (hM : Sub 1073741824 M) (h : z.Inside M s) :
    z.Inside M { s with twin := x0 } :=
  h.step fun p hp => by cases p <;> first | rfl | exact hM.no rfl hp

theorem Chip.settle_inside {M : ℕ} {z s : Chip} (_hM : Sub 0 M) (h : z.Inside M s) : z.Inside M s.settle :=
  h.step fun p hp => by
    cases p
    case regs => exact s.settle_same.regs.symm
    all_goals exact (Chip.Frame.settle s [] []).2 _ (by simp)

theorem Chip.set_inside {M : ℕ} {z s : Chip} {f : Field} {v : ℕ} (hM : Sub 2 M) (h : z.Inside M s) :
    z.Inside M (s.set f v) :=
  h.step fun p hp => by cases p <;> first | rfl | exact hM.no rfl hp

theorem Chip.resetRange_inside {M : ℕ} {z s : Chip} {lo hi : ℕ} (hM : Sub 2 M) (h : z.Inside M s) :
    z.Inside M (s.resetRange lo hi) :=
  h.step fun p hp => by cases p <;> first | rfl | exact hM.no rfl hp

theorem Chip.setByte_inside {M : ℕ} {z s : Chip} {a : ℕ} {b : Byte} (hM : Sub 4 M) (h : z.Inside M s) :
    z.Inside M (s.setByte a b) :=
  h.step fun p hp => by cases p <;> first | rfl | exact hM.no rfl hp

theorem Chip.setBytes_inside {M : ℕ} {z s : Chip} {a : ℕ} {l : List Byte} (hM : Sub 4 M) (h : z.Inside M s) :
    z.Inside M (s.setBytes a l) := by
  induction l generalizing s a with
  | nil => exact h
  | cons b l ih => exact ih (Chip.setByte_inside hM h)

theorem Chip.assign_inside {M : ℕ} {z s : Chip} {f : Field} {v : ℕ} (hM : Sub 2 M) (h : z.Inside M s) :
    z.Inside M (s.assign f v) :=
  h.step fun p hp => by cases p <;> first | rfl | exact hM.no rfl hp

theorem Chip.setBitOf_inside {M : ℕ} {z s : Chip} {f : Field} {i : ℕ} (hM : Sub 2 M) (h : z.Inside M s) :
    z.Inside M (s.setBitOf f i) :=
  h.step fun p hp => by cases p <;> first | rfl | exact hM.no rfl hp

theorem Chip.retain_inside {M : ℕ} {z s : Chip} {e : LogEntry} (hM : Sub 66 M) (h : z.Inside M s) :
    z.Inside M (s.retain e) := by
  unfold Chip.retain
  extract_lets _ full _ _ r _ s1 s2
  have hx : z.Inside M s1 := Chip.Inside.mk_log (hM.up rfl) h
  have h2 : z.Inside M s2 := Chip.set_inside (hM.up rfl) hx
  exact .ite (Chip.set_inside (hM.up rfl) h2) h2

theorem Chip.record_inside {M : ℕ} {z s : Chip} {code cls inst cluster region data : ℕ} (hM : Sub 66 M)
    (h : z.Inside M s) : z.Inside M (s.record code cls inst cluster region data) := by
  unfold Chip.record
  extract_lets e q _ s1 s2
  have h1 : z.Inside M s1 := Chip.Inside.mk_log (hM.up rfl) h
  have h2 : z.Inside M s2 := .ite (Chip.retain_inside hM h1) h1
  exact .ite (Chip.set_inside (hM.up rfl) (Chip.set_inside (hM.up rfl) (Chip.set_inside (hM.up rfl) h2))) h2

end Sys2Proof.Machine
end

