-- ==== Sys2Proof/Laws/InsideOps.lean ====
section
/-! SUPPORT. Which parts of the module every operation may change: one lemma per operation. -/

set_option linter.unusedVariables false

namespace Sys2Proof.Machine

open Sys2Proof

theorem Chip.sets_inside {z : Chip} {M : ℕ} (hM : Sub 2 M) {p1 : Chip} {p2 : List (Field × ℕ)} (hp1 : z.Inside M p1) : z.Inside M (Chip.sets p1 p2) := by
  unfold Chip.sets
  exact .foldl hp1 (fun t2 a1 ht2 => Chip.set_inside (hM.up rfl) ht2)

theorem Chip.put_inside {z : Chip} {M : ℕ} (hM : Sub 2 M) {p1 : Chip} {p2 : Field} {p3 : Bool} (hp1 : z.Inside M p1) : z.Inside M (Chip.put p1 p2 p3) := by
  unfold Chip.put
  exact Chip.set_inside (hM.up rfl) hp1

theorem Chip.modIsl_inside {z : Chip} {M : ℕ} (hM : Sub 524288 M) {p1 : Chip} {p2 : ℕ} {p3 : IslandS → IslandS} (hp1 : z.Inside M p1) : z.Inside M (Chip.modIsl p1 p2 p3) := by
  unfold Chip.modIsl
  exact (Chip.Inside.mk_isl (hM.up rfl) hp1)

theorem Chip.clampTo_inside {z : Chip} {M : ℕ} (hM : Sub 524290 M) {p1 : Chip} {p2 : ℕ} {p3 : Bool} (hp1 : z.Inside M p1) : z.Inside M (Chip.clampTo p1 p2 p3) := by
  unfold Chip.clampTo
  exact Chip.put_inside (hM.up rfl) (Chip.modIsl_inside (hM.up rfl) hp1)

theorem Chip.clamp_inside {z : Chip} {M : ℕ} (hM : Sub 524290 M) {p1 : Chip} {p2 : ℕ} (hp1 : z.Inside M p1) : z.Inside M (Chip.clamp p1 p2) := by
  unfold Chip.clamp
  exact Chip.clampTo_inside (hM.up rfl) hp1

theorem Chip.abortLeak_inside {z : Chip} {M : ℕ} (hM : Sub 524290 M) {p1 : Chip} {p2 : ℕ} {p3 : ℕ} (hp1 : z.Inside M p1) : z.Inside M (Chip.abortLeak p1 p2 p3) := by
  unfold Chip.abortLeak
  refine .ite ?_ hp1
  extract_lets +onlyGivenNames x1
  have hx1 : z.Inside M x1 := Chip.sets_inside (hM.up rfl) hp1
  clear_value x1
  exact Chip.clamp_inside (hM.up rfl) (Chip.modIsl_inside (hM.up rfl) hx1)

theorem Chip.modSlice_inside {z : Chip} {M : ℕ} (hM : Sub 131072 M) {p1 : Chip} {p2 : ℕ} {p3 : SliceS → SliceS} (hp1 : z.Inside M p1) : z.Inside M (Chip.modSlice p1 p2 p3) := by
  unfold Chip.modSlice
  exact (Chip.Inside.mk_slice (hM.up rfl) hp1)

theorem Chip.accrueOne_inside {z : Chip} {M : ℕ} (hM : Sub 131072 M) {p1 : Chip} {p2 : ℕ} {p3 : ℕ} (hp1 : z.Inside M p1) : z.Inside M (Chip.accrueOne p1 p2 p3) := by
  unfold Chip.accrueOne
  extract_lets +onlyGivenNames x1
  extract_lets +onlyGivenNames x2
  clear_value x2
  extract_lets +onlyGivenNames x3
  clear_value x3
  extract_lets +onlyGivenNames x4
  clear_value x4
  extract_lets +onlyGivenNames x5
  extract_lets +onlyGivenNames x6
  clear_value x6
  extract_lets +onlyGivenNames x7
  clear_value x7
  exact .ite hp1 (Chip.modSlice_inside (hM.up rfl) hp1)

theorem Chip.accrue_inside {z : Chip} {M : ℕ} (hM : Sub 131072 M) {p1 : Chip} {p2 : ℕ} {p3 : ℕ} (hp1 : z.Inside M p1) : z.Inside M (Chip.accrue p1 p2 p3) := by
  unfold Chip.accrue
  exact .ite (Chip.accrueOne_inside (hM.up rfl) (Chip.accrueOne_inside (hM.up rfl) hp1)) (Chip.accrueOne_inside (hM.up rfl) hp1)

theorem Chip.bump_inside {z : Chip} {M : ℕ} (hM : Sub 2 M) {p1 : Chip} {p2 : Field} {p3 : ℕ} (hp1 : z.Inside M p1) : z.Inside M (Chip.bump p1 p2 p3) := by
  unfold Chip.bump
  exact Chip.set_inside (hM.up rfl) hp1

theorem Chip.note_inside {z : Chip} {M : ℕ} (hM : Sub 66 M) {p1 : Chip} {p2 : ℕ} {p3 : ℕ} {p4 : ℕ} (hp1 : z.Inside M p1) : z.Inside M (Chip.note p1 p2 p3 p4) := by
  unfold Chip.note
  exact Chip.record_inside (hM.up rfl) hp1

theorem Chip.modPorch_inside {z : Chip} {M : ℕ} (hM : Sub 268435456 M) {p1 : Chip} {p2 : PorchS → PorchS} (hp1 : z.Inside M p1) : z.Inside M (Chip.modPorch p1 p2) := by
  unfold Chip.modPorch
  exact (Chip.Inside.mk_porch (hM.up rfl) hp1)

theorem Chip.modPort_inside {z : Chip} {M : ℕ} (hM : Sub 268435456 M) {p1 : Chip} {p2 : ℕ} {p3 : PortS → PortS} (hp1 : z.Inside M p1) : z.Inside M (Chip.modPort p1 p2 p3) := by
  unfold Chip.modPort
  exact Chip.modPorch_inside (hM.up rfl) hp1

theorem Chip.showBackoff_inside {z : Chip} {M : ℕ} (hM : Sub 2 M) {p1 : Chip} {p2 : ℕ} (hp1 : z.Inside M p1) : z.Inside M (Chip.showBackoff p1 p2) := by
  unfold Chip.showBackoff
  exact Chip.put_inside (hM.up rfl) hp1

theorem Chip.modCan_inside {z : Chip} {M : ℕ} (hM : Sub 134217728 M) {p1 : Chip} {p2 : ℕ} {p3 : CanS → CanS} (hp1 : z.Inside M p1) : z.Inside M (Chip.modCan p1 p2 p3) := by
  unfold Chip.modCan
  exact (Chip.Inside.mk_can (hM.up rfl) hp1)

theorem Chip.recPut_inside {z : Chip} {M : ℕ} (hM : Sub 134217728 M) {p1 : Chip} {p2 : ℕ} {p3 : ℕ} {p4 : ℕ} {p5 : ℕ} (hp1 : z.Inside M p1) : z.Inside M (Chip.recPut p1 p2 p3 p4 p5) := by
  unfold Chip.recPut
  exact Chip.modCan_inside (hM.up rfl) hp1

theorem Chip.porchLoad_inside {z : Chip} {M : ℕ} (hM : Sub 402653186 M) {p1 : Chip} {p2 : ℕ} (hp1 : z.Inside M p1) : z.Inside M (Chip.porchLoad p1 p2) := by
  unfold Chip.porchLoad
  extract_lets +onlyGivenNames x1
  have hx1 : ∀ w2, z.Inside M w2 → ∀ w3, ∀ w4, z.Inside M (x1 w2 w3 w4) := by
    intro w2 hw2 w3 w4
    unfold x1
    extract_lets +onlyGivenNames x5
    clear_value x5
    extract_lets +onlyGivenNames x6
    clear_value x6
    extract_lets +onlyGivenNames x7
    have hx7 : z.Inside M x7 := Chip.recPut_inside (hM.up rfl) (Chip.recPut_inside (hM.up rfl) hw2)
    clear_value x7
    extract_lets +onlyGivenNames x8
    have hx8 : z.Inside M x8 := Chip.recPut_inside (hM.up rfl) (Chip.recPut_inside (hM.up rfl) hx7)
    clear_value x8
    exact Chip.sets_inside (hM.up rfl) hx8
  clear_value x1
  refine .ite hp1 ?_
  extract_lets +onlyGivenNames x9
  have hx9 : z.Inside M x9 := by
    unfold x9
    split
    · exact .ite hp1 (Chip.modPort_inside (hM.up rfl) (hx1 _ hp1 _ _))
    · exact hp1
  clear_value x9
  split
  · exact .ite hx9 (Chip.modPort_inside (hM.up rfl) (hx1 _ hx9 _ _))
  · exact hx9

theorem Chip.porchSend_inside {z : Chip} {M : ℕ} (hM : Sub 402653186 M) {p1 : Chip} {p2 : ℕ} {p3 : OutFrame} (hp1 : z.Inside M p1) : z.Inside M (Chip.porchSend p1 p2 p3) := by
  unfold Chip.porchSend
  extract_lets +onlyGivenNames x1
  have hx1 : z.Inside M x1 := by
    unfold x1
    split <;> exact Chip.modPort_inside (hM.up rfl) hp1
  clear_value x1
  exact Chip.porchLoad_inside (hM.up rfl) hx1

theorem Chip.claimSend_inside {z : Chip} {M : ℕ} (hM : Sub 402653186 M) {p1 : Chip} {p2 : ℕ} (hp1 : z.Inside M p1) : z.Inside M (Chip.claimSend p1 p2) := by
  unfold Chip.claimSend
  exact Chip.porchSend_inside (hM.up rfl) (Chip.modPort_inside (hM.up rfl) hp1)

theorem Chip.cannotSend_inside {z : Chip} {M : ℕ} (hM : Sub 402653186 M) {p1 : Chip} {p2 : ℕ} (hp1 : z.Inside M p1) : z.Inside M (Chip.cannotSend p1 p2) := by
  unfold Chip.cannotSend
  exact Chip.porchSend_inside (hM.up rfl) hp1

theorem Chip.modSes_inside {z : Chip} {M : ℕ} (hM : Sub 268435456 M) {p1 : Chip} {p2 : ℕ} {p3 : SesS → SesS} (hp1 : z.Inside M p1) : z.Inside M (Chip.modSes p1 p2 p3) := by
  unfold Chip.modSes
  exact Chip.modPorch_inside (hM.up rfl) hp1

theorem Chip.flagPut_inside {z : Chip} {M : ℕ} (hM : Sub 4 M) {p1 : Chip} {p2 : ℕ} {p3 : ℕ} (hp1 : z.Inside M p1) : z.Inside M (Chip.flagPut p1 p2 p3) := by
  unfold Chip.flagPut
  refine .ite hp1 ?_
  extract_lets +onlyGivenNames x1
  have hx1 : z.Inside M x1 := Chip.setByte_inside (hM.up rfl) hp1
  clear_value x1
  exact Chip.setByte_inside (hM.up rfl) hx1

theorem Chip.sesEnd_inside {z : Chip} {M : ℕ} (hM : Sub 268435526 M) {p1 : Chip} {p2 : ℕ} {p3 : ℕ} {p4 : ℕ} (hp1 : z.Inside M p1) : z.Inside M (Chip.sesEnd p1 p2 p3 p4) := by
  unfold Chip.sesEnd
  extract_lets +onlyGivenNames x1
  have hx1 : z.Inside M x1 := .ite (.each hp1 (fun a2 t3 ht3 => Chip.flagPut_inside (hM.up rfl) ht3)) hp1
  clear_value x1
  extract_lets +onlyGivenNames x4
  have hx4 : z.Inside M x4 := Chip.modPort_inside (hM.up rfl) (Chip.modSes_inside (hM.up rfl) hx1)
  clear_value x4
  extract_lets +onlyGivenNames x5
  have hx5 : z.Inside M x5 := Chip.sets_inside (hM.up rfl) hx4
  clear_value x5
  exact .ite (Chip.note_inside (hM.up rfl) hx5) hx5

theorem Chip.sesData_inside {z : Chip} {M : ℕ} (hM : Sub 402653186 M) {p1 : Chip} {p2 : ℕ} (hp1 : z.Inside M p1) : z.Inside M (Chip.sesData p1 p2) := by
  unfold Chip.sesData
  extract_lets +onlyGivenNames x1
  extract_lets +onlyGivenNames x2
  clear_value x2
  extract_lets +onlyGivenNames x3
  clear_value x3
  extract_lets +onlyGivenNames x4
  clear_value x4
  extract_lets +onlyGivenNames x5
  extract_lets +onlyGivenNames x6
  clear_value x6
  extract_lets +onlyGivenNames x7
  have hx7 : z.Inside M x7 := Chip.modSes_inside (hM.up rfl) hp1
  clear_value x7
  exact Chip.porchSend_inside (hM.up rfl) hx7

theorem Chip.sesSent_inside {z : Chip} {M : ℕ} (hM : Sub 402653254 M) {p1 : Chip} {p2 : ℕ} {p3 : ℕ} (hp1 : z.Inside M p1) : z.Inside M (Chip.sesSent p1 p2 p3) := by
  unfold Chip.sesSent
  refine .ite hp1 ?_
  extract_lets +onlyGivenNames x1
  split
  · exact Chip.modSes_inside (hM.up rfl) hp1
  · exact Chip.modSes_inside (hM.up rfl) hp1
  · exact .ite (.ite (Chip.sesEnd_inside (hM.up rfl) hp1) (Chip.modSes_inside (hM.up rfl) hp1)) (.ite (Chip.sesData_inside (hM.up rfl) hp1) (Chip.modSes_inside (hM.up rfl) hp1))
  · exact Chip.modSes_inside (hM.up rfl) hp1
  · exact Chip.sesData_inside (hM.up rfl) hp1

theorem Chip.porchTxEnd_inside {z : Chip} {M : ℕ} (hM : Sub 402653254 M) {p1 : Chip} {p2 : ℕ} {p3 : OutKind} {p4 : ℕ} (hp1 : z.Inside M p1) : z.Inside M (Chip.porchTxEnd p1 p2 p3 p4) := by
  unfold Chip.porchTxEnd
  extract_lets +onlyGivenNames x1
  split
  · exact .ite (Chip.modPort_inside (hM.up rfl) hp1) (.ite (Chip.claimSend_inside (hM.up rfl) hp1) hp1)
  · exact .ite (Chip.cannotSend_inside (hM.up rfl) hp1) hp1
  · exact .ite hp1 (.ite (Chip.sesSent_inside (hM.up rfl) hp1) (.ite (Chip.sesEnd_inside (hM.up rfl) hp1) (Chip.modSes_inside (hM.up rfl) hp1)))
  · exact hp1

theorem Chip.bufEnd_inside {z : Chip} {M : ℕ} (hM : Sub 402653254 M) {p1 : Chip} {p2 : ℕ} {p3 : ℕ} {p4 : ℕ} (hp1 : z.Inside M p1) : z.Inside M (Chip.bufEnd p1 p2 p3 p4) := by
  unfold Chip.bufEnd
  extract_lets +onlyGivenNames x1
  have hx1 : z.Inside M x1 := Chip.sets_inside (hM.up rfl) hp1
  clear_value x1
  extract_lets +onlyGivenNames x2
  clear_value x2
  extract_lets +onlyGivenNames x3
  have hx3 : z.Inside M x3 := Chip.setBitOf_inside (hM.up rfl) hx1
  clear_value x3
  extract_lets +onlyGivenNames x4
  have hx4 : z.Inside M x4 := .ite (Chip.setBitOf_inside (hM.up rfl) hx1) (.ite (Chip.note_inside (hM.up rfl) hx3) hx3)
  clear_value x4
  refine .ite ?_ hx4
  extract_lets +onlyGivenNames x5
  clear_value x5
  extract_lets +onlyGivenNames x6
  have hx6 : z.Inside M x6 := Chip.modPort_inside (hM.up rfl) hx4
  clear_value x6
  split
  · exact Chip.porchLoad_inside (hM.up rfl) (Chip.porchTxEnd_inside (hM.up rfl) hx6)
  · exact Chip.porchLoad_inside (hM.up rfl) hx6

theorem Chip.ackError_inside {z : Chip} {M : ℕ} (hM : Sub 402653254 M) {p1 : Chip} {p2 : ℕ} (hp1 : z.Inside M p1) : z.Inside M (Chip.ackError p1 p2) := by
  unfold Chip.ackError
  extract_lets +onlyGivenNames x1
  have hx1 : z.Inside M x1 := Chip.bump_inside (hM.up rfl) hp1
  clear_value x1
  extract_lets +onlyGivenNames x2
  clear_value x2
  extract_lets +onlyGivenNames x3
  clear_value x3
  refine .ite ?_ hx1
  extract_lets +onlyGivenNames x4
  have hx4 : z.Inside M x4 := Chip.note_inside (hM.up rfl) (Chip.sets_inside (hM.up rfl) hx1)
  clear_value x4
  extract_lets +onlyGivenNames x5
  have hx5 : z.Inside M x5 := Chip.modPort_inside (hM.up rfl) (Chip.showBackoff_inside (hM.up rfl) hx4)
  clear_value x5
  exact .ite (Chip.bufEnd_inside (hM.up rfl) (Chip.modCan_inside (hM.up rfl) hx5)) hx5

theorem Chip.modCl_inside {z : Chip} {M : ℕ} (hM : Sub 4096 M) {p1 : Chip} {p2 : ℕ} {p3 : ClusterS → ClusterS} (hp1 : z.Inside M p1) : z.Inside M (Chip.modCl p1 p2 p3) := by
  unfold Chip.modCl
  exact (Chip.Inside.mk_cl (hM.up rfl) hp1)

theorem Chip.unrecord_inside {z : Chip} {M : ℕ} (hM : Sub 64 M) {p1 : Chip} {p2 : LogEntry → Bool} (hp1 : z.Inside M p1) :
    z.Inside M (Chip.unrecord p1 p2) := by
  unfold Chip.unrecord
  split
  · exact hp1
  · exact Chip.Inside.mk_log (hM.up rfl) hp1

theorem Chip.unrefuse_inside {z : Chip} {M : ℕ} (hM : Sub 4162 M) {p1 : Chip} {p2 : ℕ} (hp1 : z.Inside M p1) : z.Inside M (Chip.unrefuse p1 p2) := by
  unfold Chip.unrefuse
  split
  · exact hp1
  · rename_i y3 q4
    extract_lets +onlyGivenNames x5
    have hx5 : z.Inside M x5 := Chip.put_inside (hM.up rfl) (Chip.modCl_inside (hM.up rfl) hp1)
    clear_value x5
    exact Chip.unrecord_inside (hM.up rfl) hx5

theorem Chip.setStanding_inside {z : Chip} {M : ℕ} (hM : Sub 4098 M) {p1 : Chip} {p2 : ℕ} {p3 : Bool} (hp1 : z.Inside M p1) : z.Inside M (Chip.setStanding p1 p2 p3) := by
  unfold Chip.setStanding
  extract_lets +onlyGivenNames x1
  have hx1 : z.Inside M x1 := Chip.modCl_inside (hM.up rfl) hp1
  clear_value x1
  exact Chip.put_inside (hM.up rfl) hx1

theorem Chip.openGate_inside {z : Chip} {M : ℕ} (hM : Sub 258 M) {p1 : Chip} {p2 : ℕ} (hp1 : z.Inside M p1) : z.Inside M (Chip.openGate p1 p2) := by
  unfold Chip.openGate
  refine .ite hp1 ?_
  extract_lets +onlyGivenNames x1
  have hx1 : z.Inside M x1 := Chip.put_inside (hM.up rfl) hp1
  clear_value x1
  exact (Chip.Inside.mk_pwr (hM.up rfl) hx1)

theorem Chip.openGates_inside {z : Chip} {M : ℕ} (hM : Sub 258 M) {p1 : Chip} {p2 : ℕ} (hp1 : z.Inside M p1) : z.Inside M (Chip.openGates p1 p2) := by
  unfold Chip.openGates
  exact .each (Chip.openGate_inside (hM.up rfl) hp1) (fun a1 t2 ht2 => Chip.openGate_inside (hM.up rfl) ht2)

theorem Chip.resumeCarrier_inside {z : Chip} {M : ℕ} (hM : Sub 131072 M) {p1 : Chip} {p2 : ℕ} (hp1 : z.Inside M p1) : z.Inside M (Chip.resumeCarrier p1 p2) := by
  unfold Chip.resumeCarrier
  exact .ite (Chip.modSlice_inside (hM.up rfl) hp1) (Chip.modSlice_inside (hM.up rfl) hp1)

theorem Chip.showOutputs_inside {z : Chip} {M : ℕ} (hM : Sub 131074 M) {p1 : Chip} {p2 : ℕ} (hp1 : z.Inside M p1) : z.Inside M (Chip.showOutputs p1 p2) := by
  unfold Chip.showOutputs
  extract_lets +onlyGivenNames x1
  clear_value x1
  extract_lets +onlyGivenNames x2
  clear_value x2
  extract_lets +onlyGivenNames x3
  clear_value x3
  extract_lets +onlyGivenNames x4
  have hx4 : z.Inside M x4 := .ite hp1 (Chip.modSlice_inside (hM.up rfl) hp1)
  clear_value x4
  extract_lets +onlyGivenNames x5
  have hx5 : z.Inside M x5 := .ite hx4 (Chip.modSlice_inside (hM.up rfl) hx4)
  clear_value x5
  exact Chip.put_inside (hM.up rfl) (Chip.put_inside (hM.up rfl) hx5)

theorem Chip.outputs_inside {z : Chip} {M : ℕ} (hM : Sub 131074 M) {p1 : Chip} {p2 : ℕ} (hp1 : z.Inside M p1) : z.Inside M (Chip.outputs p1 p2) := by
  unfold Chip.outputs
  refine .ite ?_ (Chip.showOutputs_inside (hM.up rfl) hp1)
  extract_lets +onlyGivenNames x1
  clear_value x1
  extract_lets +onlyGivenNames x2
  have hx2 : z.Inside M x2 := Chip.showOutputs_inside (hM.up rfl) (Chip.showOutputs_inside (hM.up rfl) hp1)
  clear_value x2
  exact Chip.set_inside (hM.up rfl) hx2

theorem Chip.restartOutputs_inside {z : Chip} {M : ℕ} (hM : Sub 131074 M) {p1 : Chip} {p2 : ℕ} {p3 : ℕ} (hp1 : z.Inside M p1) : z.Inside M (Chip.restartOutputs p1 p2 p3) := by
  unfold Chip.restartOutputs
  extract_lets +onlyGivenNames x1
  clear_value x1
  extract_lets +onlyGivenNames x2
  have hx2 : z.Inside M x2 := Chip.accrue_inside (hM.up rfl) hp1
  clear_value x2
  extract_lets +onlyGivenNames x3
  extract_lets +onlyGivenNames x4
  clear_value x4
  extract_lets +onlyGivenNames x5
  clear_value x5
  extract_lets +onlyGivenNames x6
  clear_value x6
  extract_lets +onlyGivenNames x7
  have hx7 : z.Inside M x7 := Chip.modSlice_inside (hM.up rfl) hx2
  clear_value x7
  exact Chip.outputs_inside (hM.up rfl) hx7

theorem Chip.fallH_inside {z : Chip} {M : ℕ} (hM : Sub 131074 M) {p1 : Chip} {p2 : ℕ} {p3 : Bool} (hp1 : z.Inside M p1) : z.Inside M (Chip.fallH p1 p2 p3) := by
  unfold Chip.fallH
  extract_lets +onlyGivenNames x1
  exact .ite (Chip.put_inside (hM.up rfl) (Chip.modSlice_inside (hM.up rfl) hp1)) (Chip.modSlice_inside (hM.up rfl) hp1)

theorem Chip.fallL_inside {z : Chip} {M : ℕ} (hM : Sub 131074 M) {p1 : Chip} {p2 : ℕ} {p3 : Bool} (hp1 : z.Inside M p1) : z.Inside M (Chip.fallL p1 p2 p3) := by
  unfold Chip.fallL
  extract_lets +onlyGivenNames x1
  exact .ite hp1 (.ite (Chip.put_inside (hM.up rfl) (Chip.modSlice_inside (hM.up rfl) hp1)) (Chip.modSlice_inside (hM.up rfl) hp1))

theorem Chip.riseL_inside {z : Chip} {M : ℕ} (hM : Sub 131072 M) {p1 : Chip} {p2 : ℕ} {p3 : ℕ} (hp1 : z.Inside M p1) : z.Inside M (Chip.riseL p1 p2 p3) := by
  unfold Chip.riseL
  exact .ite (Chip.modSlice_inside (hM.up rfl) hp1) (Chip.modSlice_inside (hM.up rfl) hp1)

theorem Chip.riseH_inside {z : Chip} {M : ℕ} (hM : Sub 131072 M) {p1 : Chip} {p2 : ℕ} {p3 : ℕ} (hp1 : z.Inside M p1) : z.Inside M (Chip.riseH p1 p2 p3) := by
  unfold Chip.riseH
  exact .ite (Chip.modSlice_inside (hM.up rfl) hp1) (Chip.modSlice_inside (hM.up rfl) hp1)

theorem Chip.dropGates_inside {z : Chip} {M : ℕ} (hM : Sub 131072 M) {p1 : Chip} {p2 : ℕ} (hp1 : z.Inside M p1) : z.Inside M (Chip.dropGates p1 p2) := by
  unfold Chip.dropGates
  refine .ite ?_ hp1
  extract_lets +onlyGivenNames x1
  clear_value x1
  extract_lets +onlyGivenNames x2
  have hx2 : z.Inside M x2 := .ite hp1 (Chip.modSlice_inside (hM.up rfl) hp1)
  clear_value x2
  exact .ite hx2 (Chip.modSlice_inside (hM.up rfl) hx2)

theorem Chip.setGate_inside {z : Chip} {M : ℕ} (hM : Sub 131074 M) {p1 : Chip} {p2 : ℕ} {p3 : Bool} (hp1 : z.Inside M p1) : z.Inside M (Chip.setGate p1 p2 p3) := by
  unfold Chip.setGate
  refine .ite hp1 ?_
  extract_lets +onlyGivenNames x1
  have hx1 : z.Inside M x1 := Chip.put_inside (hM.up rfl) (Chip.accrue_inside (hM.up rfl) hp1)
  clear_value x1
  refine .ite (Chip.restartOutputs_inside (hM.up rfl) hx1) ?_
  extract_lets +onlyGivenNames x2
  clear_value x2
  extract_lets +onlyGivenNames x3
  clear_value x3
  extract_lets +onlyGivenNames x4
  have hx4 : z.Inside M x4 := .ite (Chip.fallH_inside (hM.up rfl) hx1) hx1
  clear_value x4
  extract_lets +onlyGivenNames x5
  have hx5 : z.Inside M x5 := .ite (Chip.fallL_inside (hM.up rfl) hx4) hx4
  clear_value x5
  extract_lets +onlyGivenNames x6
  clear_value x6
  extract_lets +onlyGivenNames x7
  have hx7 : z.Inside M x7 := .ite (Chip.riseL_inside (hM.up rfl) hx5) hx5
  clear_value x7
  extract_lets +onlyGivenNames x8
  have hx8 : z.Inside M x8 := .ite (Chip.riseH_inside (hM.up rfl) hx7) hx7
  clear_value x8
  exact Chip.outputs_inside (hM.up rfl) (Chip.dropGates_inside (hM.up rfl) (Chip.modSlice_inside (hM.up rfl) hx8))

theorem Chip.setOvr_inside {z : Chip} {M : ℕ} (hM : Sub 131074 M) {p1 : Chip} {p2 : ℕ} {p3 : ℕ} (hp1 : z.Inside M p1) : z.Inside M (Chip.setOvr p1 p2 p3) := by
  unfold Chip.setOvr
  refine .ite hp1 ?_
  extract_lets +onlyGivenNames x1
  have hx1 : z.Inside M x1 := Chip.accrue_inside (hM.up rfl) hp1
  clear_value x1
  extract_lets +onlyGivenNames x2
  clear_value x2
  extract_lets +onlyGivenNames x3
  clear_value x3
  extract_lets +onlyGivenNames x4
  have hx4 : z.Inside M x4 := Chip.modSlice_inside (hM.up rfl) hx1
  clear_value x4
  exact Chip.outputs_inside (hM.up rfl) (Chip.set_inside (hM.up rfl) hx4)

theorem Chip.setOvrs_inside {z : Chip} {M : ℕ} (hM : Sub 131074 M) {p1 : Chip} {p2 : List ℕ} {p3 : ℕ} (hp1 : z.Inside M p1) : z.Inside M (Chip.setOvrs p1 p2 p3) := by
  unfold Chip.setOvrs
  exact .each hp1 (fun a1 t2 ht2 => Chip.setOvr_inside (hM.up rfl) ht2)

theorem Chip.putSelOne_inside {z : Chip} {M : ℕ} (hM : Sub 135170 M) {p1 : Chip} {p2 : ℕ} {p3 : ℕ} (hp1 : z.Inside M p1) : z.Inside M (Chip.putSelOne p1 p2 p3) := by
  unfold Chip.putSelOne
  extract_lets +onlyGivenNames x1
  have hx1 : z.Inside M x1 := .ite hp1 (Chip.modCl_inside (hM.up rfl) hp1)
  clear_value x1
  extract_lets +onlyGivenNames x2
  have hx2 : z.Inside M x2 := Chip.set_inside (hM.up rfl) (Chip.set_inside (hM.up rfl) hx1)
  clear_value x2
  exact Chip.setOvrs_inside (hM.up rfl) hx2

theorem Chip.followSel_inside {z : Chip} {M : ℕ} (hM : Sub 135170 M) {p1 : Chip} (hp1 : z.Inside M p1) : z.Inside M (Chip.followSel p1) := by
  unfold Chip.followSel
  extract_lets +onlyGivenNames x1
  clear_value x1
  extract_lets +onlyGivenNames x2
  clear_value x2
  exact .ite hp1 (Chip.putSelOne_inside (hM.up rfl) hp1)

theorem Chip.putSel_inside {z : Chip} {M : ℕ} (hM : Sub 135170 M) {p1 : Chip} {p2 : ℕ} {p3 : ℕ} (hp1 : z.Inside M p1) : z.Inside M (Chip.putSel p1 p2 p3) := by
  unfold Chip.putSel
  exact Chip.followSel_inside (hM.up rfl) (Chip.putSelOne_inside (hM.up rfl) hp1)

theorem Chip.noteCl_inside {z : Chip} {M : ℕ} (hM : Sub 66 M) {p1 : Chip} {p2 : ℕ} {p3 : ℕ} {p4 : ℕ} (hp1 : z.Inside M p1) : z.Inside M (Chip.noteCl p1 p2 p3 p4) := by
  unfold Chip.noteCl
  exact Chip.record_inside (hM.up rfl) hp1

theorem Chip.selectBy_inside {z : Chip} {M : ℕ} (hM : Sub 135234 M) {p1 : Chip} {p2 : ℕ} {p3 : ℕ} {p4 : Bool} {p5 : Bool} (hp1 : z.Inside M p1) : z.Inside M (Chip.selectBy p1 p2 p3 p4 p5) := by
  unfold Chip.selectBy
  extract_lets +onlyGivenNames x1
  clear_value x1
  extract_lets +onlyGivenNames x2
  have hx2 : z.Inside M x2 := .ite (Chip.noteCl_inside (hM.up rfl) (Chip.modCl_inside (hM.up rfl) hp1)) hp1
  clear_value x2
  refine .ite (Chip.putSel_inside (hM.up rfl) hx2) ?_
  refine .ite ?_ (.ite (Chip.putSel_inside (hM.up rfl) hx2) (Chip.putSel_inside (hM.up rfl) hx2))
  extract_lets +onlyGivenNames x3
  clear_value x3
  refine .ite (Chip.putSel_inside (hM.up rfl) hx2) ?_
  extract_lets +onlyGivenNames x4
  have hx4 : z.Inside M x4 := .ite hx2 (Chip.noteCl_inside (hM.up rfl) (Chip.put_inside (hM.up rfl) (Chip.modCl_inside (hM.up rfl) hx2)))
  clear_value x4
  exact Chip.putSel_inside (hM.up rfl) hx4

theorem Chip.evalRule_inside {z : Chip} {M : ℕ} (hM : Sub 135234 M) {p1 : Chip} {p2 : ℕ} (hp1 : z.Inside M p1) : z.Inside M (Chip.evalRule p1 p2) := by
  unfold Chip.evalRule
  split
  · rename_i y1 y2 q3
    extract_lets +onlyGivenNames x4
    clear_value x4
    extract_lets +onlyGivenNames x5
    have hx5 : z.Inside M x5 := Chip.set_inside (hM.up rfl) (Chip.set_inside (hM.up rfl) hp1)
    clear_value x5
    extract_lets +onlyGivenNames x6
    have hx6 : z.Inside M x6 := .ite (Chip.set_inside (hM.up rfl) hx5) hx5
    clear_value x6
    refine .ite (Chip.followSel_inside (hM.up rfl) hx6) ?_
    refine .ite (.ite (Chip.putSel_inside (hM.up rfl) hx6) hx6) ?_
    extract_lets +onlyGivenNames x7
    clear_value x7
    extract_lets +onlyGivenNames x8
    clear_value x8
    extract_lets +onlyGivenNames x9
    have hx9 : z.Inside M x9 := .ite (Chip.put_inside (hM.up rfl) hx6) hx6
    clear_value x9
    exact .ite hx9 (.ite (Chip.putSel_inside (hM.up rfl) hx9) (.ite (Chip.putSel_inside (hM.up rfl) hx9) (Chip.selectBy_inside (hM.up rfl) hx9)))

theorem Chip.refreshHold_inside {z : Chip} {M : ℕ} (hM : Sub 135234 M) {p1 : Chip} {p2 : ℕ} (hp1 : z.Inside M p1) : z.Inside M (Chip.refreshHold p1 p2) := by
  unfold Chip.refreshHold
  refine .ite (Chip.followSel_inside (hM.up rfl) hp1) ?_
  refine .ite (.ite (Chip.evalRule_inside (hM.up rfl) hp1) hp1) ?_
  refine .ite hp1 ?_
  extract_lets +onlyGivenNames x1
  have hx1 : z.Inside M x1 := Chip.modCl_inside (hM.up rfl) hp1
  clear_value x1
  extract_lets +onlyGivenNames x2
  clear_value x2
  extract_lets +onlyGivenNames x3
  have hx3 : z.Inside M x3 := Chip.set_inside (hM.up rfl) (Chip.set_inside (hM.up rfl) hx1)
  clear_value x3
  exact Chip.followSel_inside (hM.up rfl) (Chip.setOvrs_inside (hM.up rfl) hx3)

theorem Chip.ctrMove_inside {z : Chip} {M : ℕ} (hM : Sub 1048578 M) {p1 : Chip} {p2 : Bool} {p3 : Bool} (hp1 : z.Inside M p1) : z.Inside M (Chip.ctrMove p1 p2 p3) := by
  unfold Chip.ctrMove
  extract_lets x1 _ x2
  have hx1 : z.Inside M x1 := Chip.sets_inside (hM.up rfl) hp1
  have hx2 : z.Inside M x2 := .ite (Chip.Inside.mk_safe (hM.up rfl) hx1) (Chip.Inside.mk_safe (hM.up rfl) hx1)
  exact Chip.put_inside (hM.up rfl) hx2

theorem Chip.applyContactors_inside {z : Chip} {M : ℕ} (hM : Sub 1048578 M) {p1 : Chip} {p2 : Bool} (hp1 : z.Inside M p1) : z.Inside M (Chip.applyContactors p1 p2) := by
  unfold Chip.applyContactors
  extract_lets +onlyGivenNames x1
  clear_value x1
  extract_lets +onlyGivenNames x2
  clear_value x2
  extract_lets +onlyGivenNames x3
  have hx3 : ∀ w4, ∀ w5, ∀ w6, ∀ w7, z.Inside M w7 → z.Inside M (x3 w4 w5 w6 w7) := fun w4 w5 w6 w7 hw7 => .ite (Chip.ctrMove_inside (hM.up rfl) hw7) (.ite (Chip.ctrMove_inside (hM.up rfl) hw7) hw7)
  clear_value x3
  extract_lets +onlyGivenNames x8
  have hx8 : z.Inside M x8 := hx3 _ _ _ _ hp1
  clear_value x8
  extract_lets +onlyGivenNames x9
  have hx9 : z.Inside M x9 := hx3 _ _ _ _ hx8
  clear_value x9
  exact Chip.put_inside (hM.up rfl) hx9

theorem Chip.enter_inside {z : Chip} {M : ℕ} (hM : Sub 1708354 M) {p1 : Chip} {p2 : ℕ} {p3 : ℕ} (hp1 : z.Inside M p1) : z.Inside M (Chip.enter p1 p2 p3) := by
  unfold Chip.enter
  extract_lets +onlyGivenNames x1
  clear_value x1
  refine .ite hp1 ?_
  extract_lets +onlyGivenNames x2
  have hx2 : z.Inside M x2 := Chip.sets_inside (hM.up rfl) hp1
  clear_value x2
  extract_lets +onlyGivenNames x3
  have hx3 : z.Inside M x3 := Chip.modCl_inside (hM.up rfl) hx2
  clear_value x3
  extract_lets +onlyGivenNames x4
  have hx4 : z.Inside M x4 := Chip.put_inside (hM.up rfl) hx3
  clear_value x4
  extract_lets +onlyGivenNames x5
  have hx5 : z.Inside M x5 := .ite (Chip.openGates_inside (hM.up rfl) (.each hx4 (fun a6 t7 ht7 => Chip.resumeCarrier_inside (hM.up rfl) ht7))) hx4
  clear_value x5
  extract_lets +onlyGivenNames x8
  have hx8 : z.Inside M x8 := .ite (.each (Chip.modCl_inside (hM.up rfl) hx5) (fun a9 t10 ht10 => Chip.modSlice_inside (hM.up rfl) ht10)) hx5
  clear_value x8
  extract_lets +onlyGivenNames x11
  have hx11 : z.Inside M x11 := .ite hx8 (.each (Chip.sets_inside (hM.up rfl) hx8) (fun a12 t13 ht13 => Chip.setGate_inside (hM.up rfl) ht13))
  clear_value x11
  extract_lets +onlyGivenNames x14
  have hx14 : z.Inside M x14 := .ite (Chip.set_inside (hM.up rfl) hx11) hx11
  clear_value x14
  extract_lets +onlyGivenNames x15
  have hx15 : z.Inside M x15 := Chip.put_inside (hM.up rfl) hx14
  clear_value x15
  extract_lets +onlyGivenNames x16
  have hx16 : z.Inside M x16 := Chip.modCl_inside (hM.up rfl) hx15
  clear_value x16
  extract_lets +onlyGivenNames x17
  have hx17 : z.Inside M x17 := Chip.put_inside (hM.up rfl) hx16
  clear_value x17
  extract_lets +onlyGivenNames x18
  have hx18 : z.Inside M x18 := .ite (.ite (Chip.setOvrs_inside (hM.up rfl) (Chip.set_inside (hM.up rfl) hx17)) hx17) hx14
  clear_value x18
  extract_lets +onlyGivenNames x19
  have hx19 : z.Inside M x19 := .ite (.each hx18 (fun a20 t21 ht21 => Chip.abortLeak_inside (hM.up rfl) ht21)) hx18
  clear_value x19
  extract_lets +onlyGivenNames x22
  have hx22 : z.Inside M x22 := Chip.refreshHold_inside (hM.up rfl) hx19
  clear_value x22
  exact Chip.applyContactors_inside (hM.up rfl) hx22

theorem Chip.demandBegins_inside {z : Chip} {M : ℕ} (hM : Sub 135234 M) {p1 : Chip} {p2 : ℕ} (hp1 : z.Inside M p1) : z.Inside M (Chip.demandBegins p1 p2) := by
  unfold Chip.demandBegins
  exact .ite (Chip.evalRule_inside (hM.up rfl) hp1) hp1

theorem Chip.stand_inside {z : Chip} {M : ℕ} (hM : Sub 1708354 M) {p1 : Chip} {p2 : ℕ} {p3 : ℕ} {p4 : ℕ} {p5 : Bool} (hp1 : z.Inside M p1) : z.Inside M (Chip.stand p1 p2 p3 p4 p5) := by
  unfold Chip.stand
  extract_lets +onlyGivenNames x1
  have hx1 : z.Inside M x1 := Chip.modCl_inside (hM.up rfl) (.ite hp1 (Chip.unrefuse_inside (hM.up rfl) hp1))
  clear_value x1
  extract_lets +onlyGivenNames x2
  clear_value x2
  extract_lets +onlyGivenNames x3
  have hx3 : z.Inside M x3 := Chip.modCl_inside (hM.up rfl) hx1
  clear_value x3
  extract_lets +onlyGivenNames x4
  have hx4 : z.Inside M x4 := Chip.put_inside (hM.up rfl) (.ite (Chip.setStanding_inside (hM.up rfl) hx3) hx3)
  clear_value x4
  extract_lets +onlyGivenNames x5
  have hx5 : z.Inside M x5 := .ite hx4 (Chip.enter_inside (hM.up rfl) hx4)
  clear_value x5
  exact .ite (Chip.refreshHold_inside (hM.up rfl) hx5) (Chip.demandBegins_inside (hM.up rfl) hx5)

theorem Chip.fall_inside {z : Chip} {M : ℕ} (hM : Sub 1708354 M) {p1 : Chip} {p2 : ℕ} {p3 : ℕ} {p4 : ℕ} {p5 : ℕ} (hp1 : z.Inside M p1) : z.Inside M (Chip.fall p1 p2 p3 p4 p5) := by
  unfold Chip.fall
  extract_lets +onlyGivenNames x1
  have hx1 : z.Inside M x1 := by
    unfold x1
    refine .ite ?_ hp1
    split
    · exact Chip.set_inside (hM.up rfl) hp1
    · exact hp1
  clear_value x1
  exact Chip.stand_inside (hM.up rfl) hx1

theorem Chip.faultCl_inside {z : Chip} {M : ℕ} (hM : Sub 1708354 M) {p1 : Chip} {p2 : ℕ} {p3 : ℕ} {p4 : ℕ} {p5 : ℕ} {p6 : ℕ} (hp1 : z.Inside M p1) : z.Inside M (Chip.faultCl p1 p2 p3 p4 p5 p6) := by
  unfold Chip.faultCl
  exact Chip.fall_inside (hM.up rfl) (Chip.record_inside (hM.up rfl) hp1)

theorem Chip.pcSto_inside {z : Chip} {M : ℕ} (hM : Sub 1708354 M) {p1 : Chip} {p2 : ℕ} {p3 : ℕ} {p4 : ℕ} (hp1 : z.Inside M p1) : z.Inside M (Chip.pcSto p1 p2 p3 p4) := by
  unfold Chip.pcSto
  extract_lets +onlyGivenNames x1
  have hx1 : z.Inside M x1 := Chip.put_inside (hM.up rfl) (Chip.put_inside (hM.up rfl) hp1)
  clear_value x1
  exact Chip.faultCl_inside (hM.up rfl) (Chip.put_inside (hM.up rfl) hx1)

theorem Chip.count_inside {z : Chip} {M : ℕ} (hM : Sub 2 M) {p1 : Chip} {p2 : Field} (hp1 : z.Inside M p1) : z.Inside M (Chip.count p1 p2) := by
  unfold Chip.count
  exact Chip.set_inside (hM.up rfl) hp1

theorem Chip.ackJudge_inside {z : Chip} {M : ℕ} (hM : Sub 1708354 M) {p1 : Chip} {p2 : ℕ} (hp1 : z.Inside M p1) : z.Inside M (Chip.ackJudge p1 p2) := by
  unfold Chip.ackJudge
  extract_lets +onlyGivenNames x1
  clear_value x1
  extract_lets +onlyGivenNames x2
  clear_value x2
  extract_lets +onlyGivenNames x3
  have hx3 : z.Inside M x3 := Chip.modCl_inside (hM.up rfl) hp1
  clear_value x3
  extract_lets +onlyGivenNames x4
  have hx4 : z.Inside M x4 := .ite (Chip.pcSto_inside (hM.up rfl) hx3) hx3
  clear_value x4
  exact Chip.count_inside (hM.up rfl) hx4

theorem Chip.ackSend_inside {z : Chip} {M : ℕ} (hM : Sub 402653186 M) {p1 : Chip} {p2 : ℕ} {p3 : ℕ} {p4 : ℕ} {p5 : ℕ} (hp1 : z.Inside M p1) : z.Inside M (Chip.ackSend p1 p2 p3 p4 p5) := by
  unfold Chip.ackSend
  exact Chip.porchSend_inside (hM.up rfl) hp1

theorem Chip.modRing_inside {z : Chip} {M : ℕ} (hM : Sub 536870912 M) {p1 : Chip} {p2 : RingS → RingS} (hp1 : z.Inside M p1) : z.Inside M (Chip.modRing p1 p2) := by
  unfold Chip.modRing
  exact (Chip.Inside.mk_ring (hM.up rfl) hp1)

theorem Chip.modMsg_inside {z : Chip} {M : ℕ} (hM : Sub 536870912 M) {p1 : Chip} {p2 : ℕ} {p3 : MsgS → MsgS} (hp1 : z.Inside M p1) : z.Inside M (Chip.modMsg p1 p2 p3) := by
  unfold Chip.modMsg
  exact Chip.modRing_inside (hM.up rfl) hp1

theorem Chip.msgEnd_inside {z : Chip} {M : ℕ} (hM : Sub 536870978 M) {p1 : Chip} {p2 : ℕ} {p3 : ℕ} (hp1 : z.Inside M p1) : z.Inside M (Chip.msgEnd p1 p2 p3) := by
  unfold Chip.msgEnd
  extract_lets +onlyGivenNames x1
  have hx1 : z.Inside M x1 := Chip.sets_inside (hM.up rfl) (Chip.modMsg_inside (hM.up rfl) hp1)
  clear_value x1
  exact .ite (Chip.put_inside (hM.up rfl) hx1) (Chip.note_inside (hM.up rfl) (Chip.put_inside (hM.up rfl) hx1))

theorem Chip.msgStore_inside {z : Chip} {M : ℕ} (hM : Sub 536870918 M) {p1 : Chip} {p2 : AcyclicFrame} (hp1 : z.Inside M p1) : z.Inside M (Chip.msgStore p1 p2).1 := by
  unfold Chip.msgStore
  extract_lets +onlyGivenNames x1
  clear_value x1
  refine .iteP (.fst hp1) ?_
  refine .iteP (.fst hp1) ?_
  split
  · exact .fst hp1
  · rename_i y4 q5
    extract_lets +onlyGivenNames x6
    have hx6 : z.Inside M x6 := Chip.setBytes_inside (hM.up rfl) hp1
    clear_value x6
    extract_lets +onlyGivenNames x7
    have hx7 : z.Inside M x7 := Chip.modRing_inside (hM.up rfl) hx6
    clear_value x7
    exact .fst (Chip.sets_inside (hM.up rfl) hx7)

theorem Chip.msgAnswer_inside {z : Chip} {M : ℕ} (hM : Sub 536870912 M) {p1 : Chip} {p2 : AcyclicFrame} {p3 : MsgKind} (hp1 : z.Inside M p1) : z.Inside M (Chip.msgAnswer p1 p2 p3) := by
  unfold Chip.msgAnswer
  extract_lets +onlyGivenNames x1
  exact Chip.modRing_inside (hM.up rfl) hp1

theorem Chip.msgTry_inside {z : Chip} {M : ℕ} (hM : Sub 536870978 M) {p1 : Chip} {p2 : ℕ} {p3 : ℕ} (hp1 : z.Inside M p1) : z.Inside M (Chip.msgTry p1 p2 p3) := by
  unfold Chip.msgTry
  exact .ite (Chip.msgEnd_inside (hM.up rfl) hp1) (.ite (Chip.msgEnd_inside (hM.up rfl) hp1) (Chip.modMsg_inside (hM.up rfl) hp1))

theorem Chip.acyclicRx_inside {z : Chip} {M : ℕ} (hM : Sub 536870982 M) {p1 : Chip} {p2 : Bool} {p3 : AcyclicFrame} {p4 : Bool} (hp1 : z.Inside M p1) : z.Inside M (Chip.acyclicRx p1 p2 p3 p4) := by
  unfold Chip.acyclicRx
  refine .ite hp1 ?_
  refine .ite (Chip.bump_inside (hM.up rfl) hp1) ?_
  extract_lets +onlyGivenNames x1
  clear_value x1
  extract_lets +onlyGivenNames x2
  clear_value x2
  extract_lets +onlyGivenNames x3
  have hx3 : ∀ w4, z.Inside M w4 → z.Inside M (x3 w4) := fun w4 hw4 => .ite hw4 (.ite (Chip.bump_inside (hM.up rfl) hw4) (Chip.modRing_inside (hM.up rfl) hw4))
  clear_value x3
  refine .ite (.ite (hx3 _ hp1) (.ite (Chip.msgEnd_inside (hM.up rfl) hp1) hp1)) ?_
  extract_lets +onlyGivenNames x5
  have hx5 : z.Inside M x5 := by
    unfold x5
    refine .ite (Chip.msgStore_inside (hM.up rfl) hp1) ?_
    refine .ite hp1 ?_
    split
    · split
      · rename_i y8 y9 q10
        have hy8 : z.Inside M y8 := by
          have hh := congrArg Prod.fst q10
          dsimp only at hh
          rw [← hh]
          exact Chip.msgStore_inside (hM.up rfl) hp1
        exact Chip.msgAnswer_inside (hM.up rfl) hy8
    · exact .ite (Chip.msgEnd_inside (hM.up rfl) hp1) hp1
    · exact .ite (Chip.msgTry_inside (hM.up rfl) hp1) hp1
  clear_value x5
  exact hx3 _ hx5

theorem Chip.useFree_inside {z : Chip} {M : ℕ} (hM : Sub 16 M) {p1 : Chip} (hp1 : z.Inside M p1) : z.Inside M (Chip.useFree p1) := by
  unfold Chip.useFree
  exact (Chip.Inside.mk_free (hM.up rfl) hp1)

theorem Chip.common_inside {z : Chip} {M : ℕ} (hM : Sub 82 M) {p1 : Chip} {p2 : ℕ} {p3 : ℕ} (hp1 : z.Inside M p1) : z.Inside M (Chip.common p1 p2 p3) := by
  unfold Chip.common
  extract_lets +onlyGivenNames x1
  exact Chip.record_inside (hM.up rfl) (Chip.useFree_inside (hM.up rfl) hp1)

theorem Chip.refuse_inside {z : Chip} {M : ℕ} (hM : Sub 82 M) {p1 : Chip} {p2 : ℕ} (hp1 : z.Inside M p1) : z.Inside M (Chip.refuse p1 p2) := by
  unfold Chip.refuse
  exact Chip.common_inside (hM.up rfl) hp1

theorem Chip.refWrite_inside {z : Chip} {M : ℕ} (hM : Sub 8274 M) {p1 : Chip} {p2 : ℕ} {p3 : Bool} (hp1 : z.Inside M p1) : z.Inside M (Chip.refWrite p1 p2 p3) := by
  unfold Chip.refWrite
  refine .ite ?_ (Chip.refuse_inside (hM.up rfl) hp1)
  extract_lets +onlyGivenNames x1
  clear_value x1
  extract_lets +onlyGivenNames x2
  have hx2 : z.Inside M x2 := Chip.sets_inside (hM.up rfl) hp1
  clear_value x2
  refine .ite hx2 ?_
  extract_lets +onlyGivenNames x3
  have hx3 : z.Inside M x3 := Chip.put_inside (hM.up rfl) hx2
  clear_value x3
  exact (Chip.Inside.mk_adc (hM.up rfl) hx3)

theorem Chip.hole_inside {z : Chip} {M : ℕ} (hM : Sub 82 M) {p1 : Chip} {p2 : ℕ} (hp1 : z.Inside M p1) : z.Inside M (Chip.hole p1 p2) := by
  unfold Chip.hole
  exact Chip.common_inside (hM.up rfl) hp1

theorem Chip.writeField_inside {z : Chip} {M : ℕ} (hM : Sub 2 M) {p1 : Chip} {p2 : ℕ} {p3 : Bool} {p4 : Field} (hp1 : z.Inside M p1) : z.Inside M (Chip.writeField p1 p2 p3 p4) := by
  unfold Chip.writeField
  extract_lets +onlyGivenNames x1
  clear_value x1
  split
  · exact Chip.set_inside (hM.up rfl) hp1
  · exact Chip.set_inside (hM.up rfl) hp1
  · exact .ite (Chip.set_inside (hM.up rfl) hp1) hp1
  · exact Chip.assign_inside (hM.up rfl) hp1
  · exact Chip.set_inside (hM.up rfl) hp1
  · exact hp1
  · exact hp1
  · exact hp1
  · exact hp1

theorem Chip.writeFields_inside {z : Chip} {M : ℕ} (hM : Sub 2 M) {p1 : Chip} {p2 : List Field} {p3 : ℕ} {p4 : Bool} (hp1 : z.Inside M p1) : z.Inside M (Chip.writeFields p1 p2 p3 p4) := by
  unfold Chip.writeFields
  exact .foldl hp1 (fun t2 a1 ht2 => Chip.writeField_inside (hM.up rfl) ht2)

theorem Chip.genericWrite_inside {z : Chip} {M : ℕ} (hM : Sub 82 M) {p1 : Chip} {p2 : ℕ} {p3 : ℕ} (hp1 : z.Inside M p1) : z.Inside M (Chip.genericWrite p1 p2 p3) := by
  unfold Chip.genericWrite
  split
  · exact Chip.hole_inside (hM.up rfl) hp1
  · rename_i y3 q4
    extract_lets +onlyGivenNames x5
    clear_value x5
    extract_lets +onlyGivenNames x6
    have hx6 : z.Inside M x6 := Chip.writeFields_inside (hM.up rfl) hp1
    clear_value x6
    exact .ite (Chip.refuse_inside (hM.up rfl) hx6) hx6

theorem Chip.scanEnd_inside {z : Chip} {M : ℕ} (hM : Sub 2 M) {p1 : Chip} (hp1 : z.Inside M p1) : z.Inside M (Chip.scanEnd p1) := by
  unfold Chip.scanEnd
  exact .ite (Chip.put_inside (hM.up rfl) (Chip.put_inside (hM.up rfl) hp1)) hp1

theorem Chip.scanSkip_inside {z : Chip} {M : ℕ} (hM : Sub 8194 M) {p1 : ℕ} {p2 : Chip} (hp2 : z.Inside M p2) : z.Inside M (Chip.scanSkip p1 p2) := by
  induction p1 generalizing p2 with
  | zero => exact hp2
  | succ n ih =>
    unfold Chip.scanSkip
    extract_lets +onlyGivenNames x1
    refine .ite ?_ hp2
    extract_lets +onlyGivenNames x2
    have hx2 : z.Inside M x2 := Chip.sets_inside (hM.up rfl) hp2
    clear_value x2
    exact ih (Chip.scanEnd_inside (hM.up rfl) (Chip.Inside.mk_adc (hM.up rfl) hx2))

theorem Chip.scanStart_inside {z : Chip} {M : ℕ} (hM : Sub 8258 M) {p1 : Chip} (hp1 : z.Inside M p1) : z.Inside M (Chip.scanStart p1) := by
  unfold Chip.scanStart
  refine .ite hp1 ?_
  refine .ite (Chip.note_inside (hM.up rfl) (Chip.put_inside (hM.up rfl) hp1)) ?_
  extract_lets +onlyGivenNames x1
  have hx1 : z.Inside M x1 := Chip.put_inside (hM.up rfl) hp1
  clear_value x1
  exact Chip.scanSkip_inside (hM.up rfl) (Chip.Inside.mk_adc (hM.up rfl) hx1)

theorem Chip.sarCfgWrite_inside {z : Chip} {M : ℕ} (hM : Sub 8194 M) {p1 : Chip} {p2 : ℕ} {p3 : ℕ} (hp1 : z.Inside M p1) : z.Inside M (Chip.sarCfgWrite p1 p2 p3) := by
  unfold Chip.sarCfgWrite
  extract_lets +onlyGivenNames x1
  clear_value x1
  extract_lets +onlyGivenNames x2
  have hx2 : z.Inside M x2 := Chip.sets_inside (hM.up rfl) hp1
  clear_value x2
  exact .ite (Chip.Inside.mk_adc (hM.up rfl) hx2) hx2

theorem Chip.sdClkSet_inside {z : Chip} {M : ℕ} (hM : Sub 8210 M) {p1 : Chip} {p2 : ℕ} {p3 : ℕ} (hp1 : z.Inside M p1) : z.Inside M (Chip.sdClkSet p1 p2 p3) := by
  unfold Chip.sdClkSet
  extract_lets +onlyGivenNames x1
  clear_value x1
  extract_lets +onlyGivenNames x2
  clear_value x2
  extract_lets +onlyGivenNames x3
  have hx3 : z.Inside M x3 := Chip.sets_inside (hM.up rfl) hp1
  clear_value x3
  refine .ite ?_ hx3
  extract_lets +onlyGivenNames x4
  have hx4 : z.Inside M x4 := Chip.useFree_inside (hM.up rfl) hx3
  clear_value x4
  exact (Chip.Inside.mk_adc (hM.up rfl) hx4)

theorem Chip.sdClkWrite_inside {z : Chip} {M : ℕ} (hM : Sub 8274 M) {p1 : Chip} {p2 : ℕ} (hp1 : z.Inside M p1) : z.Inside M (Chip.sdClkWrite p1 p2) := by
  unfold Chip.sdClkWrite
  refine .each hp1 ?_
  intro a1 t2 ht2
  split
  · exact Chip.sdClkSet_inside (hM.up rfl) ht2
  · exact Chip.record_inside (hM.up rfl) (Chip.useFree_inside (hM.up rfl) ht2)

theorem Chip.showSlots_inside {z : Chip} {M : ℕ} (hM : Sub 2 M) {p1 : Chip} {p2 : ℕ} (hp1 : z.Inside M p1) : z.Inside M (Chip.showSlots p1 p2) := by
  unfold Chip.showSlots
  extract_lets +onlyGivenNames x1
  extract_lets +onlyGivenNames x2
  extract_lets +onlyGivenNames x3
  exact Chip.sets_inside (hM.up rfl) hp1

theorem Chip.slotWritten_inside {z : Chip} {M : ℕ} (hM : Sub 66 M) {p1 : Chip} {p2 : ℕ} {p3 : ℕ} (hp1 : z.Inside M p1) : z.Inside M (Chip.slotWritten p1 p2 p3) := by
  unfold Chip.slotWritten
  extract_lets +onlyGivenNames x1
  have hx1 : z.Inside M x1 := Chip.showSlots_inside (hM.up rfl) hp1
  clear_value x1
  extract_lets +onlyGivenNames x2
  clear_value x2
  exact .ite (Chip.noteCl_inside (hM.up rfl) (Chip.put_inside (hM.up rfl) hx1)) hx1

theorem Chip.configField_inside {z : Chip} {M : ℕ} (hM : Sub 2 M) {p1 : Chip} {p2 : ℕ} {p3 : Field} (hp1 : z.Inside M p1) : z.Inside M (Chip.configField p1 p2 p3) := by
  unfold Chip.configField
  split
  · exact Chip.set_inside (hM.up rfl) hp1
  · exact Chip.set_inside (hM.up rfl) hp1
  · exact Chip.set_inside (hM.up rfl) hp1
  · exact Chip.set_inside (hM.up rfl) hp1
  · exact Chip.set_inside (hM.up rfl) hp1
  · exact hp1

theorem Chip.configWord_inside {z : Chip} {M : ℕ} (hM : Sub 2 M) {p1 : Chip} {p2 : ℕ} {p3 : ℕ} (hp1 : z.Inside M p1) : z.Inside M (Chip.configWord p1 p2 p3) := by
  unfold Chip.configWord
  exact .foldl hp1 (fun t2 a1 ht2 => Chip.configField_inside (hM.up rfl) ht2)

theorem Chip.freezeDone_inside {z : Chip} {M : ℕ} (hM : Sub 2 M) {p1 : Chip} {p2 : ℕ} (hp1 : z.Inside M p1) : z.Inside M (Chip.freezeDone p1 p2) := by
  unfold Chip.freezeDone
  exact .ite hp1 (Chip.set_inside (hM.up rfl) hp1)

theorem Chip.cmpFreed_inside {z : Chip} {M : ℕ} (hM : Sub 8192 M) {p1 : Chip} {p2 : Chip} (hp1 : z.Inside M p1) (hp2 : z.Inside M p2) : z.Inside M (Chip.cmpFreed p1 p2) := by
  unfold Chip.cmpFreed
  exact .each hp2 (fun a1 t2 ht2 => .ite (Chip.Inside.mk_adc (hM.up rfl) ht2) ht2)

theorem Chip.clrBitOf_inside {z : Chip} {M : ℕ} (hM : Sub 2 M) {p1 : Chip} {p2 : Field} {p3 : ℕ} (hp1 : z.Inside M p1) : z.Inside M (Chip.clrBitOf p1 p2 p3) := by
  unfold Chip.clrBitOf
  exact Chip.assign_inside (hM.up rfl) hp1

theorem Chip.cmpCfgDone_inside {z : Chip} {M : ℕ} (hM : Sub 2 M) {p1 : Chip} {p2 : ℕ} (hp1 : z.Inside M p1) : z.Inside M (Chip.cmpCfgDone p1 p2) := by
  unfold Chip.cmpCfgDone
  extract_lets +onlyGivenNames x1
  have hx1 : z.Inside M x1 := .ite hp1 (Chip.clrBitOf_inside (hM.up rfl) hp1)
  clear_value x1
  exact .ite hx1 (Chip.clrBitOf_inside (hM.up rfl) hx1)

theorem Chip.setHeld_inside {z : Chip} {M : ℕ} (hM : Sub 4098 M) {p1 : Chip} {p2 : ℕ} {p3 : ℕ} (hp1 : z.Inside M p1) : z.Inside M (Chip.setHeld p1 p2 p3) := by
  unfold Chip.setHeld
  extract_lets +onlyGivenNames x1
  have hx1 : z.Inside M x1 := Chip.modCl_inside (hM.up rfl) hp1
  clear_value x1
  exact Chip.put_inside (hM.up rfl) hx1

theorem Chip.bcmStart_inside {z : Chip} {M : ℕ} (hM : Sub 1708354 M) {p1 : Chip} {p2 : ℕ} (hp1 : z.Inside M p1) : z.Inside M (Chip.bcmStart p1 p2) := by
  unfold Chip.bcmStart
  split
  · rename_i y1 q2
    refine .ite ?_ (Chip.setHeld_inside (hM.up rfl) hp1)
    extract_lets +onlyGivenNames x3
    have hx3 : z.Inside M x3 := Chip.setHeld_inside (hM.up rfl) hp1
    clear_value x3
    exact Chip.modCl_inside (hM.up rfl) (Chip.set_inside (hM.up rfl) (Chip.enter_inside (hM.up rfl) hx3))
  · exact Chip.setHeld_inside (hM.up rfl) hp1

theorem Chip.modCle_inside {z : Chip} {M : ℕ} (hM : Sub 65536 M) {p1 : Chip} {p2 : ℕ} {p3 : CleS → CleS} (hp1 : z.Inside M p1) : z.Inside M (Chip.modCle p1 p2 p3) := by
  unfold Chip.modCle
  exact (Chip.Inside.mk_cle (hM.up rfl) hp1)

theorem Chip.feZero_inside {z : Chip} {M : ℕ} (hM : Sub 65538 M) {p1 : Chip} {p2 : ℕ} (hp1 : z.Inside M p1) : z.Inside M (Chip.feZero p1 p2) := by
  unfold Chip.feZero
  exact Chip.set_inside (hM.up rfl) (Chip.modCle_inside (hM.up rfl) hp1)

theorem Chip.clearLists_inside {z : Chip} {M : ℕ} (hM : Sub 65538 M) {p1 : Chip} {p2 : ℕ} (hp1 : z.Inside M p1) : z.Inside M (Chip.clearLists p1 p2) := by
  unfold Chip.clearLists
  extract_lets +onlyGivenNames x1
  have hx1 : z.Inside M x1 := Chip.modCle_inside (hM.up rfl) hp1
  clear_value x1
  exact .each hx1 (fun a2 t3 ht3 => Chip.set_inside (hM.up rfl) ht3)

theorem Chip.enterCatch_inside {z : Chip} {M : ℕ} (hM : Sub 1773890 M) {p1 : Chip} {p2 : ℕ} (hp1 : z.Inside M p1) : z.Inside M (Chip.enterCatch p1 p2) := by
  unfold Chip.enterCatch
  extract_lets +onlyGivenNames x1
  have hx1 : z.Inside M x1 := Chip.enter_inside (hM.up rfl) hp1
  clear_value x1
  extract_lets +onlyGivenNames x2
  have hx2 : z.Inside M x2 := Chip.sets_inside (hM.up rfl) hx1
  clear_value x2
  extract_lets +onlyGivenNames x3
  have hx3 : z.Inside M x3 := Chip.modCl_inside (hM.up rfl) hx2
  clear_value x3
  exact .each hx3 (fun a4 t5 ht5 => Chip.feZero_inside (hM.up rfl) (Chip.clearLists_inside (hM.up rfl) ht5))

theorem Chip.tryLeaveSafe_inside {z : Chip} {M : ℕ} (hM : Sub 1773890 M) {p1 : Chip} {p2 : ℕ} (hp1 : z.Inside M p1) : z.Inside M (Chip.tryLeaveSafe p1 p2) := by
  unfold Chip.tryLeaveSafe
  extract_lets +onlyGivenNames x1
  refine .ite ?_ hp1
  extract_lets +onlyGivenNames x2
  have hx2 : z.Inside M x2 := Chip.enter_inside (hM.up rfl) (Chip.modCl_inside (hM.up rfl) hp1)
  clear_value x2
  refine .ite ?_ hx2
  extract_lets +onlyGivenNames x3
  have hx3 : z.Inside M x3 := Chip.setStanding_inside (hM.up rfl) hx2
  clear_value x3
  exact .ite (Chip.bcmStart_inside (hM.up rfl) hx3) (Chip.enterCatch_inside (hM.up rfl) hx3)

theorem Chip.settleHolds_inside {z : Chip} {M : ℕ} (hM : Sub 1773890 M) {p1 : Chip} (hp1 : z.Inside M p1) : z.Inside M (Chip.settleHolds p1) := by
  unfold Chip.settleHolds
  exact .each hp1 (fun a1 t2 ht2 => Chip.tryLeaveSafe_inside (hM.up rfl) (Chip.refreshHold_inside (hM.up rfl) ht2))

theorem Chip.faultAll_inside {z : Chip} {M : ℕ} (hM : Sub 1708354 M) {p1 : Chip} {p2 : ℕ} {p3 : ℕ} {p4 : ℕ} {p5 : List ℕ} {p6 : ℕ} (hp1 : z.Inside M p1) : z.Inside M (Chip.faultAll p1 p2 p3 p4 p5 p6) := by
  unfold Chip.faultAll
  extract_lets +onlyGivenNames x1
  have hx1 : z.Inside M x1 := Chip.record_inside (hM.up rfl) hp1
  clear_value x1
  exact .each hx1 (fun a2 t3 ht3 => Chip.fall_inside (hM.up rfl) (Chip.sets_inside (hM.up rfl) ht3))

theorem Chip.faultOn_inside {z : Chip} {M : ℕ} (hM : Sub 1708354 M) {p1 : Chip} {p2 : ℕ} {p3 : ℕ} {p4 : ℕ} {p5 : List ℕ} {p6 : ℕ} (hp1 : z.Inside M p1) : z.Inside M (Chip.faultOn p1 p2 p3 p4 p5 p6) := by
  unfold Chip.faultOn
  split
  · exact Chip.faultCl_inside (hM.up rfl) hp1
  · exact Chip.faultAll_inside (hM.up rfl) hp1

theorem Chip.showOv3_inside {z : Chip} {M : ℕ} (hM : Sub 1048576 M) {p1 : Chip} (hp1 : z.Inside M p1) : z.Inside M (Chip.showOv3 p1) := by
  unfold Chip.showOv3
  exact (Chip.Inside.mk_safe (hM.up rfl) hp1)

theorem Chip.showVdc_inside {z : Chip} {M : ℕ} (hM : Sub 2 M) {p1 : Chip} (hp1 : z.Inside M p1) : z.Inside M (Chip.showVdc p1) := by
  unfold Chip.showVdc
  extract_lets +onlyGivenNames x1
  clear_value x1
  extract_lets +onlyGivenNames x2
  have hx2 : z.Inside M x2 := Chip.set_inside (hM.up rfl) hp1
  clear_value x2
  extract_lets +onlyGivenNames x3
  clear_value x3
  extract_lets +onlyGivenNames x4
  have hx4 : z.Inside M x4 := Chip.set_inside (hM.up rfl) hx2
  clear_value x4
  extract_lets +onlyGivenNames x5
  have hx5 : z.Inside M x5 := .ite (Chip.put_inside (hM.up rfl) hx4) hx4
  clear_value x5
  exact .ite (Chip.put_inside (hM.up rfl) hx5) hx5

theorem Chip.cmpDemand_inside {z : Chip} {M : ℕ} (hM : Sub 1708354 M) {p1 : Chip} {p2 : ℕ} {p3 : List ℕ} {p4 : ℕ} (hp1 : z.Inside M p1) : z.Inside M (Chip.cmpDemand p1 p2 p3 p4) := by
  unfold Chip.cmpDemand
  split
  · exact Chip.faultOn_inside (hM.up rfl) hp1
  · exact Chip.faultOn_inside (hM.up rfl) hp1
  · exact Chip.faultAll_inside (hM.up rfl) (Chip.showOv3_inside (hM.up rfl) (Chip.showVdc_inside (hM.up rfl) (Chip.put_inside (hM.up rfl) hp1)))
  · exact hp1

theorem Chip.cmpDemands_inside {z : Chip} {M : ℕ} (hM : Sub 1708354 M) {p1 : Chip} (hp1 : z.Inside M p1) : z.Inside M (Chip.cmpDemands p1) := by
  unfold Chip.cmpDemands
  refine .each hp1 ?_
  intro a1 t2 ht2
  extract_lets +onlyGivenNames x3
  refine .ite ht2 ?_
  extract_lets +onlyGivenNames x4
  clear_value x4
  exact Chip.cmpDemand_inside (hM.up rfl) ht2

theorem Chip.adcWrite_inside {z : Chip} {M : ℕ} (hM : Sub 1782098 M) {p1 : Chip} {p2 : ℕ} {p3 : ℕ} (hp1 : z.Inside M p1) : z.Inside M (Chip.adcWrite p1 p2 p3) := by
  unfold Chip.adcWrite
  extract_lets +onlyGivenNames x1
  clear_value x1
  refine .ite (Chip.refWrite_inside (hM.up rfl) hp1) ?_
  refine .ite ?_ ?_
  · extract_lets +onlyGivenNames x2
    have hx2 : z.Inside M x2 := Chip.genericWrite_inside (hM.up rfl) hp1
    clear_value x2
    exact .ite (Chip.scanStart_inside (hM.up rfl) hx2) hx2
  · refine .ite (.ite (Chip.sarCfgWrite_inside (hM.up rfl) hp1) (Chip.refuse_inside (hM.up rfl) hp1)) ?_
    refine .ite (Chip.sdClkWrite_inside (hM.up rfl) hp1) ?_
    refine .ite (.ite (Chip.slotWritten_inside (hM.up rfl) (Chip.configWord_inside (hM.up rfl) hp1)) (Chip.refuse_inside (hM.up rfl) hp1)) ?_
    refine .ite hp1 ?_
    refine .ite (Chip.freezeDone_inside (hM.up rfl) (Chip.genericWrite_inside (hM.up rfl) hp1)) ?_
    refine .ite ?_ (Chip.genericWrite_inside (hM.up rfl) hp1)
    extract_lets +onlyGivenNames x3
    extract_lets +onlyGivenNames x4
    have hx4 : z.Inside M x4 := Chip.cmpFreed_inside (hM.up rfl) hp1 (Chip.cmpCfgDone_inside (hM.up rfl) (Chip.genericWrite_inside (hM.up rfl) hp1))
    clear_value x4
    exact .ite hx4 (Chip.settleHolds_inside (hM.up rfl) (Chip.cmpDemands_inside (hM.up rfl) (Chip.applyContactors_inside (hM.up rfl) (Chip.showVdc_inside (hM.up rfl) (Chip.showOv3_inside (hM.up rfl) hx4)))))

theorem Chip.addrConflict_inside {z : Chip} {M : ℕ} (hM : Sub 66 M) {p1 : Chip} {p2 : ℕ} {p3 : ℕ} (hp1 : z.Inside M p1) : z.Inside M (Chip.addrConflict p1 p2 p3) := by
  unfold Chip.addrConflict
  exact Chip.note_inside (hM.up rfl) hp1

theorem Chip.modChm_inside {z : Chip} {M : ℕ} (hM : Sub 2097152 M) {p1 : Chip} {p2 : ChmS → ChmS} (hp1 : z.Inside M p1) : z.Inside M (Chip.modChm p1 p2) := by
  unfold Chip.modChm
  exact (Chip.Inside.mk_chm (hM.up rfl) hp1)

theorem Chip.modAge_inside {z : Chip} {M : ℕ} (hM : Sub 2097152 M) {p1 : Chip} {p2 : ℕ} {p3 : AgeS → AgeS} (hp1 : z.Inside M p1) : z.Inside M (Chip.modAge p1 p2 p3) := by
  unfold Chip.modAge
  exact Chip.modChm_inside (hM.up rfl) hp1

theorem Chip.showLearn_inside {z : Chip} {M : ℕ} (hM : Sub 2 M) {p1 : Chip} {p2 : ℕ} (hp1 : z.Inside M p1) : z.Inside M (Chip.showLearn p1 p2) := by
  unfold Chip.showLearn
  extract_lets +onlyGivenNames x1
  exact Chip.put_inside (hM.up rfl) hp1

theorem Chip.ageMeasure_inside {z : Chip} {M : ℕ} (hM : Sub 2097154 M) {p1 : Chip} {p2 : ℕ} {p3 : ℕ} {p4 : ℕ} (hp1 : z.Inside M p1) : z.Inside M (Chip.ageMeasure p1 p2 p3 p4) := by
  unfold Chip.ageMeasure
  refine .ite hp1 ?_
  extract_lets +onlyGivenNames x1
  extract_lets +onlyGivenNames x2
  clear_value x2
  extract_lets +onlyGivenNames x3
  clear_value x3
  extract_lets +onlyGivenNames x4
  have hx4 : z.Inside M x4 := .ite (Chip.modAge_inside (hM.up rfl) hp1) (Chip.modAge_inside (hM.up rfl) hp1)
  clear_value x4
  exact Chip.showLearn_inside (hM.up rfl) hx4

theorem Chip.showWrites_inside {z : Chip} {M : ℕ} (hM : Sub 2 M) {p1 : Chip} (hp1 : z.Inside M p1) : z.Inside M (Chip.showWrites p1) := by
  unfold Chip.showWrites
  extract_lets +onlyGivenNames x1
  extract_lets +onlyGivenNames x2
  extract_lets +onlyGivenNames x3
  have hx3 : z.Inside M x3 := Chip.sets_inside (hM.up rfl) hp1
  clear_value x3
  exact .each hx3 (fun a4 t5 ht5 => Chip.sets_inside (hM.up rfl) ht5)

theorem Chip.submitWrite_inside {z : Chip} {M : ℕ} (hM : Sub 2097218 M) {p1 : Chip} {p2 : WriteOwner} (hp1 : z.Inside M p1) : z.Inside M (Chip.submitWrite p1 p2) := by
  unfold Chip.submitWrite
  extract_lets +onlyGivenNames x1
  extract_lets +onlyGivenNames x2
  clear_value x2
  extract_lets +onlyGivenNames x3
  have hx3 : z.Inside M x3 := Chip.modChm_inside (hM.up rfl) hp1
  clear_value x3
  extract_lets +onlyGivenNames x4
  have hx4 : z.Inside M x4 := .ite hx3 (Chip.note_inside (hM.up rfl) (Chip.put_inside (hM.up rfl) hx3))
  clear_value x4
  exact Chip.showWrites_inside (hM.up rfl) hx4

theorem Chip.dropWrite_inside {z : Chip} {M : ℕ} (hM : Sub 2097154 M) {p1 : Chip} {p2 : WriteOwner} (hp1 : z.Inside M p1) : z.Inside M (Chip.dropWrite p1 p2) := by
  unfold Chip.dropWrite
  exact Chip.showWrites_inside (hM.up rfl) (Chip.modChm_inside (hM.up rfl) hp1)

theorem Chip.ageStored_inside {z : Chip} {M : ℕ} (hM : Sub 2097158 M) {p1 : Chip} {p2 : ℕ} (hp1 : z.Inside M p1) : z.Inside M (Chip.ageStored p1 p2) := by
  unfold Chip.ageStored
  exact Chip.put_inside (hM.up rfl) (Chip.dropWrite_inside (hM.up rfl) (Chip.setBytes_inside (hM.up rfl) hp1))

theorem Chip.ageStoreSubmit_inside {z : Chip} {M : ℕ} (hM : Sub 2097222 M) {p1 : Chip} {p2 : ℕ} (hp1 : z.Inside M p1) : z.Inside M (Chip.ageStoreSubmit p1 p2) := by
  unfold Chip.ageStoreSubmit
  extract_lets +onlyGivenNames x1
  have hx1 : z.Inside M x1 := Chip.submitWrite_inside (hM.up rfl) (Chip.modAge_inside (hM.up rfl) hp1)
  clear_value x1
  exact .ite (Chip.ageStored_inside (hM.up rfl) hx1) hx1

theorem Chip.store_inside {z : Chip} {M : ℕ} (hM : Sub 4 M) {p1 : Chip} {p2 : ℕ} {p3 : ℕ} {p4 : ℕ} (hp1 : z.Inside M p1) : z.Inside M (Chip.store p1 p2 p3 p4) := by
  unfold Chip.store
  exact Chip.setBytes_inside (hM.up rfl) hp1

theorem Chip.putSwap_inside {z : Chip} {M : ℕ} (hM : Sub 4098 M) {p1 : Chip} {p2 : ℕ} {p3 : ℕ} {p4 : SwapStep} (hp1 : z.Inside M p1) : z.Inside M (Chip.putSwap p1 p2 p3 p4) := by
  unfold Chip.putSwap
  extract_lets +onlyGivenNames x1
  have hx1 : z.Inside M x1 := Chip.modCl_inside (hM.up rfl) hp1
  clear_value x1
  extract_lets +onlyGivenNames x2
  have hx2 : z.Inside M x2 := .ite (Chip.clrBitOf_inside (hM.up rfl) hx1) (Chip.setBitOf_inside (hM.up rfl) hx1)
  clear_value x2
  exact .ite (Chip.setBitOf_inside (hM.up rfl) hx2) (Chip.clrBitOf_inside (hM.up rfl) hx2)

theorem Chip.swapRequest_inside {z : Chip} {M : ℕ} (hM : Sub 4098 M) {p1 : Chip} {p2 : ℕ} {p3 : ℕ} (hp1 : z.Inside M p1) : z.Inside M (Chip.swapRequest p1 p2 p3) := by
  unfold Chip.swapRequest
  refine .ite hp1 ?_
  extract_lets +onlyGivenNames x1
  have hx1 : z.Inside M x1 := Chip.clrBitOf_inside (hM.up rfl) (Chip.clrBitOf_inside (hM.up rfl) (Chip.clrBitOf_inside (hM.up rfl) hp1))
  clear_value x1
  exact Chip.putSwap_inside (hM.up rfl) (Chip.modCl_inside (hM.up rfl) hx1)

theorem Chip.ageSwapOut_inside {z : Chip} {M : ℕ} (hM : Sub 2101254 M) {p1 : Chip} {p2 : ℕ} {p3 : Bool} (hp1 : z.Inside M p1) : z.Inside M (Chip.ageSwapOut p1 p2 p3) := by
  unfold Chip.ageSwapOut
  extract_lets +onlyGivenNames x1
  clear_value x1
  extract_lets +onlyGivenNames x2
  have hx2 : z.Inside M x2 := Chip.store_inside (hM.up rfl) hp1
  clear_value x2
  extract_lets +onlyGivenNames x3
  have hx3 : z.Inside M x3 := Chip.modAge_inside (hM.up rfl) hx2
  clear_value x3
  extract_lets +onlyGivenNames x4
  have hx4 : z.Inside M x4 := Chip.put_inside (hM.up rfl) (Chip.modCl_inside (hM.up rfl) hx3)
  clear_value x4
  exact Chip.swapRequest_inside (hM.up rfl) hx4

theorem Chip.ageSwapped_inside {z : Chip} {M : ℕ} (hM : Sub 2097222 M) {p1 : Chip} {p2 : ℕ} (hp1 : z.Inside M p1) : z.Inside M (Chip.ageSwapped p1 p2) := by
  unfold Chip.ageSwapped
  extract_lets +onlyGivenNames x1
  extract_lets +onlyGivenNames x2
  have hx2 : z.Inside M x2 := Chip.noteCl_inside (hM.up rfl) (Chip.put_inside (hM.up rfl) hp1)
  clear_value x2
  extract_lets +onlyGivenNames x3
  have hx3 : z.Inside M x3 := Chip.count_inside (hM.up rfl) hx2
  clear_value x3
  extract_lets +onlyGivenNames x4
  have hx4 : z.Inside M x4 := Chip.modAge_inside (hM.up rfl) hx3
  clear_value x4
  exact .ite (Chip.ageStoreSubmit_inside (hM.up rfl) hx4) (Chip.put_inside (hM.up rfl) hx4)

theorem Chip.ageTake_inside {z : Chip} {M : ℕ} (hM : Sub 2097156 M) {p1 : ℕ} {p2 : Chip} {p3 : ℕ} (hp2 : z.Inside M p2) : z.Inside M (Chip.ageTake p1 p2 p3) := by
  unfold Chip.ageTake
  extract_lets +onlyGivenNames x1
  clear_value x1
  extract_lets +onlyGivenNames x2
  clear_value x2
  extract_lets +onlyGivenNames x3
  extract_lets +onlyGivenNames x4
  clear_value x4
  extract_lets +onlyGivenNames x5
  have hx5 : z.Inside M x5 := Chip.modAge_inside (hM.up rfl) hp2
  clear_value x5
  exact .ite hx5 (Chip.store_inside (hM.up rfl) hx5)

theorem Chip.allHiz_inside {z : Chip} {M : ℕ} (hM : Sub 2 M) {p1 : Chip} (hp1 : z.Inside M p1) : z.Inside M (Chip.allHiz p1) := by
  unfold Chip.allHiz
  exact .each hp1 (fun a1 t2 ht2 => .ite ht2 (Chip.put_inside (hM.up rfl) ht2))

theorem Chip.modPwr_inside {z : Chip} {M : ℕ} (hM : Sub 256 M) {p1 : Chip} {p2 : PowerS → PowerS} (hp1 : z.Inside M p1) : z.Inside M (Chip.modPwr p1 p2) := by
  unfold Chip.modPwr
  exact (Chip.Inside.mk_pwr (hM.up rfl) hp1)

theorem Chip.showReq_inside {z : Chip} {M : ℕ} (hM : Sub 256 M) {p1 : Chip} (hp1 : z.Inside M p1) : z.Inside M (Chip.showReq p1) := by
  unfold Chip.showReq
  exact Chip.modPwr_inside (hM.up rfl) hp1

theorem Chip.wake_inside {z : Chip} {M : ℕ} (hM : Sub 258 M) {p1 : Chip} {p2 : ℕ} (hp1 : z.Inside M p1) : z.Inside M (Chip.wake p1 p2) := by
  unfold Chip.wake
  extract_lets +onlyGivenNames x1
  have hx1 : z.Inside M x1 := Chip.modPwr_inside (hM.up rfl) (Chip.set_inside (hM.up rfl) hp1)
  clear_value x1
  exact Chip.showReq_inside (hM.up rfl) hx1

theorem Chip.firstNote_inside {z : Chip} {M : ℕ} (hM : Sub 66 M) {p1 : Chip} {p2 : Field} {p3 : ℕ} {p4 : ℕ} {p5 : ℕ} (hp1 : z.Inside M p1) : z.Inside M (Chip.firstNote p1 p2 p3 p4 p5) := by
  unfold Chip.firstNote
  exact .ite (Chip.put_inside (hM.up rfl) hp1) (Chip.note_inside (hM.up rfl) (Chip.put_inside (hM.up rfl) hp1))

theorem Chip.crossing_inside {z : Chip} {M : ℕ} (hM : Sub 322 M) {p1 : Chip} {p2 : ℕ} (hp1 : z.Inside M p1) : z.Inside M (Chip.crossing p1 p2) := by
  unfold Chip.crossing
  refine .ite ?_ hp1
  extract_lets +onlyGivenNames x1
  clear_value x1
  refine .ite (Chip.modPwr_inside (hM.up rfl) hp1) ?_
  extract_lets +onlyGivenNames x2
  exact Chip.firstNote_inside (hM.up rfl) hp1

theorem Chip.slotRun_inside {z : Chip} {M : ℕ} (hM : Sub 322 M) {p1 : Chip} {p2 : ℕ} (hp1 : z.Inside M p1) : z.Inside M (Chip.slotRun p1 p2) := by
  unfold Chip.slotRun
  extract_lets +onlyGivenNames x1
  have hx1 : z.Inside M x1 := .ite hp1 (Chip.modPwr_inside (hM.up rfl) hp1)
  clear_value x1
  exact .each hx1 (fun a2 t3 ht3 => .ite (Chip.openGate_inside (hM.up rfl) ht3) (Chip.crossing_inside (hM.up rfl) ht3))

theorem Chip.sleepAbandon_inside {z : Chip} {M : ℕ} (hM : Sub 258 M) {p1 : Chip} (hp1 : z.Inside M p1) : z.Inside M (Chip.sleepAbandon p1) := by
  unfold Chip.sleepAbandon
  extract_lets +onlyGivenNames x1
  extract_lets +onlyGivenNames x2
  have hx2 : z.Inside M x2 := Chip.modPwr_inside (hM.up rfl) hp1
  clear_value x2
  exact Chip.showReq_inside (hM.up rfl) (Chip.sets_inside (hM.up rfl) hx2)

theorem Chip.slotFire_inside {z : Chip} {M : ℕ} (hM : Sub 322 M) {p1 : Chip} {p2 : ℕ} (hp1 : z.Inside M p1) : z.Inside M (Chip.slotFire p1 p2) := by
  unfold Chip.slotFire
  refine .ite hp1 ?_
  extract_lets +onlyGivenNames x1
  have hx1 : z.Inside M x1 := Chip.setBitOf_inside (hM.up rfl) hp1
  clear_value x1
  extract_lets +onlyGivenNames x2
  have hx2 : ∀ w3, z.Inside M w3 → z.Inside M (x2 w3) := fun w3 hw3 => Chip.modPwr_inside (hM.up rfl) hw3
  clear_value x2
  split
  · exact hx2 _ (Chip.wake_inside (hM.up rfl) hx1)
  · exact hx2 _ (Chip.wake_inside (hM.up rfl) hx1)
  · exact hx1
  · exact hx2 _ (Chip.wake_inside (hM.up rfl) hx1)
  · exact Chip.slotRun_inside (hM.up rfl) (Chip.note_inside (hM.up rfl) (Chip.sleepAbandon_inside (hM.up rfl) hx1))
  · exact Chip.slotRun_inside (hM.up rfl) hx1

theorem Chip.aonCycle_inside {z : Chip} {M : ℕ} (hM : Sub 322 M) {p1 : Chip} (hp1 : z.Inside M p1) : z.Inside M (Chip.aonCycle p1) := by
  unfold Chip.aonCycle
  extract_lets +onlyGivenNames x1
  have hx1 : z.Inside M x1 := Chip.count_inside (hM.up rfl) hp1
  clear_value x1
  extract_lets +onlyGivenNames x2
  have hx2 : z.Inside M x2 := .ite (Chip.bump_inside (hM.up rfl) hx1) hx1
  clear_value x2
  extract_lets +onlyGivenNames x3
  clear_value x3
  extract_lets +onlyGivenNames x4
  clear_value x4
  extract_lets +onlyGivenNames x5
  clear_value x5
  extract_lets +onlyGivenNames x6
  have hx6 : z.Inside M x6 := Chip.modPwr_inside (hM.up rfl) hx2
  clear_value x6
  exact Chip.slotFire_inside (hM.up rfl) (.ite (Chip.slotFire_inside (hM.up rfl) hx6) hx6)

theorem Chip.aonTick_inside {z : Chip} {M : ℕ} (hM : Sub 322 M) {p1 : Chip} (hp1 : z.Inside M p1) : z.Inside M (Chip.aonTick p1) := by
  unfold Chip.aonTick
  extract_lets +onlyGivenNames x1
  clear_value x1
  refine .ite (Chip.modPwr_inside (hM.up rfl) hp1) ?_
  extract_lets +onlyGivenNames x2
  have hx2 : z.Inside M x2 := Chip.modPwr_inside (hM.up rfl) hp1
  clear_value x2
  exact .ite hx2 (Chip.aonCycle_inside (hM.up rfl) hx2)

theorem Chip.syncCheck_inside {z : Chip} {M : ℕ} (hM : Sub 131138 M) {p1 : Chip} {p2 : ℕ} (hp1 : z.Inside M p1) : z.Inside M (Chip.syncCheck p1 p2) := by
  unfold Chip.syncCheck
  refine .ite (Chip.modSlice_inside (hM.up rfl) hp1) ?_
  refine .ite ?_ (Chip.modSlice_inside (hM.up rfl) hp1)
  refine .ite ?_ (Chip.modSlice_inside (hM.up rfl) hp1)
  extract_lets +onlyGivenNames x1
  have hx1 : z.Inside M x1 := Chip.modSlice_inside (hM.up rfl) hp1
  clear_value x1
  exact Chip.record_inside (hM.up rfl) (Chip.put_inside (hM.up rfl) hx1)

theorem Chip.showNtc_inside {z : Chip} {M : ℕ} (hM : Sub 2 M) {p1 : Chip} {p2 : ℕ} (hp1 : z.Inside M p1) : z.Inside M (Chip.showNtc p1 p2) := by
  unfold Chip.showNtc
  extract_lets +onlyGivenNames x1
  clear_value x1
  refine .ite ?_ (Chip.sets_inside (hM.up rfl) hp1)
  extract_lets +onlyGivenNames x2
  clear_value x2
  extract_lets +onlyGivenNames x3
  clear_value x3
  exact Chip.sets_inside (hM.up rfl) hp1

theorem Chip.mirrorDirty_inside {z : Chip} {M : ℕ} (hM : Sub 524290 M) {p1 : Chip} {p2 : ℕ} {p3 : ℕ} (hp1 : z.Inside M p1) : z.Inside M (Chip.mirrorDirty p1 p2 p3) := by
  unfold Chip.mirrorDirty
  extract_lets +onlyGivenNames x1
  have hx1 : z.Inside M x1 := Chip.modIsl_inside (hM.up rfl) hp1
  clear_value x1
  exact Chip.put_inside (hM.up rfl) hx1

theorem Chip.showSupply_inside {z : Chip} {M : ℕ} (hM : Sub 2 M) {p1 : Chip} {p2 : ℕ} (hp1 : z.Inside M p1) : z.Inside M (Chip.showSupply p1 p2) := by
  unfold Chip.showSupply
  exact Chip.put_inside (hM.up rfl) hp1

theorem Chip.islCfgDone_inside {z : Chip} {M : ℕ} (hM : Sub 524290 M) {p1 : Chip} {p2 : ℕ} (hp1 : z.Inside M p1) : z.Inside M (Chip.islCfgDone p1 p2) := by
  unfold Chip.islCfgDone
  extract_lets +onlyGivenNames x1
  have hx1 : z.Inside M x1 := .ite (Chip.showNtc_inside (hM.up rfl) (Chip.sets_inside (hM.up rfl) hp1)) hp1
  clear_value x1
  extract_lets +onlyGivenNames x2
  have hx2 : z.Inside M x2 := .ite hx1 (Chip.put_inside (hM.up rfl) hx1)
  clear_value x2
  exact Chip.mirrorDirty_inside (hM.up rfl) (Chip.showSupply_inside (hM.up rfl) hx2)

theorem Chip.xfmrUpdate_inside {z : Chip} {M : ℕ} (hM : Sub 1048576 M) {p1 : Chip} (hp1 : z.Inside M p1) : z.Inside M (Chip.xfmrUpdate p1) := by
  unfold Chip.xfmrUpdate
  refine .each hp1 ?_
  intro a1 t2 ht2
  extract_lets +onlyGivenNames x3
  extract_lets +onlyGivenNames x4
  exact (Chip.Inside.mk_safe (hM.up rfl) ht2)

theorem Chip.modPos_inside {z : Chip} {M : ℕ} (hM : Sub 32768 M) {p1 : Chip} {p2 : ℕ} {p3 : PosS → PosS} (hp1 : z.Inside M p1) : z.Inside M (Chip.modPos p1 p2 p3) := by
  unfold Chip.modPos
  exact (Chip.Inside.mk_pos (hM.up rfl) hp1)

theorem Chip.posFresh_inside {z : Chip} {M : ℕ} (hM : Sub 32768 M) {p1 : Chip} {p2 : ℕ} (hp1 : z.Inside M p1) : z.Inside M (Chip.posFresh p1 p2) := by
  unfold Chip.posFresh
  exact Chip.modPos_inside (hM.up rfl) hp1

theorem Chip.posLose_inside {z : Chip} {M : ℕ} (hM : Sub 32770 M) {p1 : Chip} {p2 : ℕ} (hp1 : z.Inside M p1) : z.Inside M (Chip.posLose p1 p2) := by
  unfold Chip.posLose
  extract_lets +onlyGivenNames x1
  have hx1 : z.Inside M x1 := Chip.put_inside (hM.up rfl) (Chip.modPos_inside (hM.up rfl) hp1)
  clear_value x1
  exact .ite (Chip.put_inside (hM.up rfl) (Chip.put_inside (hM.up rfl) hx1)) hx1

theorem Chip.posNote_inside {z : Chip} {M : ℕ} (hM : Sub 66 M) {p1 : Chip} {p2 : ℕ} {p3 : ℕ} {p4 : ℕ} (hp1 : z.Inside M p1) : z.Inside M (Chip.posNote p1 p2 p3 p4) := by
  unfold Chip.posNote
  split
  · exact Chip.record_inside (hM.up rfl) hp1
  · exact Chip.note_inside (hM.up rfl) hp1

theorem Chip.resStart_inside {z : Chip} {M : ℕ} (hM : Sub 32834 M) {p1 : Chip} {p2 : ℕ} (hp1 : z.Inside M p1) : z.Inside M (Chip.resStart p1 p2) := by
  unfold Chip.resStart
  split
  · exact Chip.posNote_inside (hM.up rfl) (Chip.modPos_inside (hM.up rfl) hp1)
  · rename_i y3 q4
    extract_lets +onlyGivenNames x5
    clear_value x5
    extract_lets +onlyGivenNames x6
    clear_value x6
    extract_lets +onlyGivenNames x7
    clear_value x7
    extract_lets +onlyGivenNames x8
    extract_lets +onlyGivenNames x9
    exact .ite (Chip.posNote_inside (hM.up rfl) (Chip.modPos_inside (hM.up rfl) hp1)) (.ite (Chip.posNote_inside (hM.up rfl) (Chip.modPos_inside (hM.up rfl) hp1)) (Chip.modPos_inside (hM.up rfl) hp1))

theorem Chip.hallCentre_inside {z : Chip} {M : ℕ} (hM : Sub 2 M) {p1 : Chip} {p2 : ℕ} (hp1 : z.Inside M p1) : z.Inside M (Chip.hallCentre p1 p2) := by
  unfold Chip.hallCentre
  extract_lets +onlyGivenNames x1
  clear_value x1
  exact .ite (Chip.set_inside (hM.up rfl) hp1) hp1

theorem Chip.posRestart_inside {z : Chip} {M : ℕ} (hM : Sub 32834 M) {p1 : Chip} {p2 : ℕ} (hp1 : z.Inside M p1) : z.Inside M (Chip.posRestart p1 p2) := by
  unfold Chip.posRestart
  extract_lets +onlyGivenNames x1
  have hx1 : z.Inside M x1 := Chip.posFresh_inside (hM.up rfl) (Chip.posLose_inside (hM.up rfl) hp1)
  clear_value x1
  extract_lets +onlyGivenNames x2
  have hx2 : z.Inside M x2 := Chip.sets_inside (hM.up rfl) hx1
  clear_value x2
  exact .ite (Chip.resStart_inside (hM.up rfl) hx2) (.ite (Chip.hallCentre_inside (hM.up rfl) hx2) hx2)

theorem Chip.posCfgSet_inside {z : Chip} {M : ℕ} (hM : Sub 32834 M) {p1 : Chip} {p2 : ℕ} {p3 : ℕ} (hp1 : z.Inside M p1) : z.Inside M (Chip.posCfgSet p1 p2 p3) := by
  unfold Chip.posCfgSet
  extract_lets +onlyGivenNames x1
  clear_value x1
  extract_lets +onlyGivenNames x2
  have hx2 : z.Inside M x2 := Chip.configWord_inside (hM.up rfl) hp1
  clear_value x2
  exact .ite (Chip.posRestart_inside (hM.up rfl) hx2) (.ite (Chip.put_inside (hM.up rfl) (Chip.modPos_inside (hM.up rfl) hx2)) hx2)

theorem Chip.showLists_inside {z : Chip} {M : ℕ} (hM : Sub 2 M) {p1 : Chip} {p2 : ℕ} (hp1 : z.Inside M p1) : z.Inside M (Chip.showLists p1 p2) := by
  unfold Chip.showLists
  exact Chip.set_inside (hM.up rfl) hp1

theorem Chip.listWritten_inside {z : Chip} {M : ℕ} (hM : Sub 66 M) {p1 : Chip} {p2 : ℕ} {p3 : ℕ} (hp1 : z.Inside M p1) : z.Inside M (Chip.listWritten p1 p2 p3) := by
  unfold Chip.listWritten
  extract_lets +onlyGivenNames x1
  have hx1 : z.Inside M x1 := Chip.showLists_inside (hM.up rfl) hp1
  clear_value x1
  extract_lets +onlyGivenNames x2
  clear_value x2
  exact .ite hx1 (Chip.noteCl_inside (hM.up rfl) (Chip.put_inside (hM.up rfl) hx1))

theorem Chip.coefRefused_inside {z : Chip} {M : ℕ} (hM : Sub 66 M) {p1 : Chip} {p2 : ℕ} {p3 : ℕ} (hp1 : z.Inside M p1) : z.Inside M (Chip.coefRefused p1 p2 p3) := by
  unfold Chip.coefRefused
  exact Chip.noteCl_inside (hM.up rfl) (Chip.put_inside (hM.up rfl) hp1)

theorem Chip.staleCrc_inside {z : Chip} {M : ℕ} (hM : Sub 2 M) {p1 : Chip} {p2 : ℕ} (hp1 : z.Inside M p1) : z.Inside M (Chip.staleCrc p1 p2) := by
  unfold Chip.staleCrc
  exact Chip.put_inside (hM.up rfl) hp1

theorem Chip.configWrite_inside {z : Chip} {M : ℕ} (hM : Sub 1744978 M) {p1 : Chip} {p2 : ℕ} {p3 : ℕ} (hp1 : z.Inside M p1) : z.Inside M (Chip.configWrite p1 p2 p3) := by
  unfold Chip.configWrite
  extract_lets +onlyGivenNames x1
  clear_value x1
  refine .ite ?_ ?_
  · extract_lets +onlyGivenNames x2
    clear_value x2
    refine .ite (.ite hp1 (Chip.put_inside (hM.up rfl) (Chip.configWord_inside (hM.up rfl) hp1))) ?_
    extract_lets +onlyGivenNames x3
    have hx3 : z.Inside M x3 := Chip.configWord_inside (hM.up rfl) hp1
    clear_value x3
    extract_lets +onlyGivenNames x4
    have hx4 : z.Inside M x4 := .ite (Chip.put_inside (hM.up rfl) hx3) hx3
    clear_value x4
    exact .ite (Chip.syncCheck_inside (hM.up rfl) hx4) hx4
  · refine .ite ?_ (.ite (Chip.xfmrUpdate_inside (hM.up rfl) (Chip.configWord_inside (hM.up rfl) hp1)) (.ite (Chip.refWrite_inside (hM.up rfl) hp1) (.ite (.each hp1 (fun a7 t8 ht8 => Chip.sdClkSet_inside (hM.up rfl) ht8)) (.ite (Chip.sarCfgWrite_inside (hM.up rfl) hp1) (.ite (Chip.slotWritten_inside (hM.up rfl) (Chip.configWord_inside (hM.up rfl) hp1)) (.ite (Chip.freezeDone_inside (hM.up rfl) (Chip.configWord_inside (hM.up rfl) hp1)) (.ite (Chip.cmpCfgDone_inside (hM.up rfl) (Chip.configWord_inside (hM.up rfl) hp1)) (.ite (Chip.posCfgSet_inside (hM.up rfl) hp1) (.ite (Chip.listWritten_inside (hM.up rfl) (Chip.configWord_inside (hM.up rfl) hp1)) (.ite (Chip.coefRefused_inside (hM.up rfl) hp1) (.ite (Chip.staleCrc_inside (hM.up rfl) (Chip.configWord_inside (hM.up rfl) hp1)) (Chip.configWord_inside (hM.up rfl) hp1))))))))))))
    extract_lets +onlyGivenNames x5
    clear_value x5
    extract_lets +onlyGivenNames x6
    clear_value x6
    exact .ite (.ite (Chip.refuse_inside (hM.up rfl) hp1) (Chip.islCfgDone_inside (hM.up rfl) (Chip.configWord_inside (hM.up rfl) hp1))) (.ite (Chip.mirrorDirty_inside (hM.up rfl) (Chip.configWord_inside (hM.up rfl) hp1)) (Chip.configWord_inside (hM.up rfl) hp1))

theorem Chip.applyRec_inside {z : Chip} {M : ℕ} (hM : Sub 1744978 M) {p1 : ℕ → Bool} {p2 : ℕ} {p3 : List ℕ} {p4 : Chip} (hp4 : z.Inside M p4) :
    z.Inside M (Chip.applyRec p1 p2 p3 p4) := by
  induction p3 generalizing p2 p4 with
  | nil => exact hp4
  | cons d l ih => exact ih (.ite (Chip.configWrite_inside (hM.up rfl) hp4) hp4)

theorem Chip.applyUnitcfg_inside {z : Chip} {M : ℕ} (hM : Sub 1744978 M) {p1 : Chip} {p2 : ℕ → Bool} (hp1 : z.Inside M p1) : z.Inside M (Chip.applyUnitcfg p1 p2) := by
  unfold Chip.applyUnitcfg
  exact .each hp1 (fun a1 t2 ht2 => Chip.applyRec_inside (hM.up rfl) ht2)

theorem Chip.arbWrite_inside {z : Chip} {M : ℕ} (hM : Sub 66 M) {p1 : Chip} {p2 : ℕ} (hp1 : z.Inside M p1) : z.Inside M (Chip.arbWrite p1 p2) := by
  unfold Chip.arbWrite
  exact .ite hp1 (.ite (Chip.note_inside (hM.up rfl) hp1) (Chip.put_inside (hM.up rfl) hp1))

theorem Chip.atTick_inside {z : Chip} {M : ℕ} (hM : Sub 0 M) {p1 : Chip} {p2 : ℕ} {p3 : Chip → Chip} (hp1 : z.Inside M p1)
    (hp3 : ∀ (z u1 : Chip), z.Inside M u1 → z.Inside M (p3 u1)) : z.Inside M (Chip.atTick p1 p2 p3) := by
  have h := hp3 _ { p1 with now := p2 } (.refl _ _)
  exact hp1.step fun p hp => by cases p <;> first | rfl | exact h _ hp

theorem Chip.modMeas_inside {z : Chip} {M : ℕ} (hM : Sub 16384 M) {p1 : Chip} {p2 : ℕ} {p3 : MeasS → MeasS} (hp1 : z.Inside M p1) : z.Inside M (Chip.modMeas p1 p2 p3) := by
  unfold Chip.modMeas
  exact (Chip.Inside.mk_meas (hM.up rfl) hp1)

theorem Chip.bankBoundary_inside {z : Chip} {M : ℕ} (hM : Sub 16386 M) {p1 : Chip} {p2 : ℕ} (hp1 : z.Inside M p1) : z.Inside M (Chip.bankBoundary p1 p2) := by
  unfold Chip.bankBoundary
  extract_lets +onlyGivenNames x1
  extract_lets +onlyGivenNames x2
  have hx2 : ∀ w3, ∀ w4, z.Inside M w4 → z.Inside M (x2 w3 w4) := fun w3 w4 hw4 => Chip.modMeas_inside (hM.up rfl) hw4
  clear_value x2
  exact .ite (Chip.put_inside (hM.up rfl) (Chip.bump_inside (hM.up rfl) (hx2 _ _ hp1))) (Chip.sets_inside (hM.up rfl) (hx2 _ _ hp1))

theorem Chip.showBoot_inside {z : Chip} {M : ℕ} (hM : Sub 2 M) {p1 : Chip} (hp1 : z.Inside M p1) : z.Inside M (Chip.showBoot p1) := by
  unfold Chip.showBoot
  extract_lets +onlyGivenNames x1
  exact Chip.sets_inside (hM.up rfl) hp1

theorem Chip.bootStore_inside {z : Chip} {M : ℕ} (hM : Sub 6 M) {p1 : Chip} {p2 : BootUpdate} (hp1 : z.Inside M p1) : z.Inside M (Chip.bootStore p1 p2) := by
  unfold Chip.bootStore
  extract_lets +onlyGivenNames x1
  clear_value x1
  extract_lets +onlyGivenNames x2
  exact Chip.showBoot_inside (hM.up rfl) (Chip.setBytes_inside (hM.up rfl) hp1)

theorem Chip.bankChoice_inside {z : Chip} {M : ℕ} (hM : Sub 70 M) {p1 : Chip} {p2 : TrialWrite} (hp1 : z.Inside M p1) : z.Inside M (Chip.bankChoice p1 p2).1 := by
  unfold Chip.bankChoice
  extract_lets +onlyGivenNames x1
  refine .iteP (.fst (Chip.showBoot_inside (hM.up rfl) hp1)) ?_
  refine .iteP ?_ (.iteP (.fst (Chip.bootStore_inside (hM.up rfl) hp1)) (.fst (Chip.note_inside (hM.up rfl) (Chip.showBoot_inside (hM.up rfl) hp1))))
  extract_lets +onlyGivenNames x2
  have hx2 : z.Inside M x2 := Chip.note_inside (hM.up rfl) hp1
  clear_value x2
  exact .iteP (.fst (Chip.bootStore_inside (hM.up rfl) hx2)) (.fst (Chip.note_inside (hM.up rfl) (Chip.showBoot_inside (hM.up rfl) hx2)))

theorem Chip.bankCycle_inside {z : Chip} {M : ℕ} (hM : Sub 536870912 M) {p1 : Chip} (hp1 : z.Inside M p1) : z.Inside M (Chip.bankCycle p1) := by
  unfold Chip.bankCycle
  extract_lets +onlyGivenNames x1
  clear_value x1
  exact Chip.modRing_inside (hM.up rfl) hp1

theorem Chip.modCfg_inside {z : Chip} {M : ℕ} (hM : Sub 512 M) {p1 : Chip} {p2 : CfgS → CfgS} (hp1 : z.Inside M p1) : z.Inside M (Chip.modCfg p1 p2) := by
  unfold Chip.modCfg
  exact (Chip.Inside.mk_cfg (hM.up rfl) hp1)

theorem Chip.bootSubmit_inside {z : Chip} {M : ℕ} (hM : Sub 2097730 M) {p1 : Chip} {p2 : BootUpdate} (hp1 : z.Inside M p1) : z.Inside M (Chip.bootSubmit p1 p2) := by
  unfold Chip.bootSubmit
  exact .ite hp1 (Chip.submitWrite_inside (hM.up rfl) (Chip.put_inside (hM.up rfl) (Chip.modCfg_inside (hM.up rfl) hp1)))

theorem Chip.bankWrite_inside {z : Chip} {M : ℕ} (hM : Sub 2097730 M) {p1 : Chip} {p2 : ℕ} (hp1 : z.Inside M p1) : z.Inside M (Chip.bankWrite p1 p2) := by
  unfold Chip.bankWrite
  extract_lets +onlyGivenNames x1
  clear_value x1
  refine .ite ?_ (.ite (Chip.bootSubmit_inside (hM.up rfl) hp1) hp1)
  extract_lets +onlyGivenNames x2
  clear_value x2
  exact Chip.bootSubmit_inside (hM.up rfl) hp1

theorem Chip.decelStep_inside {z : Chip} {M : ℕ} (hM : Sub 1708354 M) {p1 : Chip} {p2 : ℕ} {p3 : ℕ} (hp1 : z.Inside M p1) : z.Inside M (Chip.decelStep p1 p2 p3) := by
  unfold Chip.decelStep
  exact .ite (Chip.enter_inside (hM.up rfl) hp1) hp1

theorem Chip.rampSpeed_inside {z : Chip} {M : ℕ} (hM : Sub 4096 M) {p1 : Chip} {p2 : ℕ} (hp1 : z.Inside M p1) : z.Inside M (Chip.rampSpeed p1 p2) := by
  unfold Chip.rampSpeed
  exact .ite (Chip.modCl_inside (hM.up rfl) hp1) hp1

theorem Chip.bcmDecel_inside {z : Chip} {M : ℕ} (hM : Sub 1708354 M) {p1 : Chip} {p2 : ℕ} (hp1 : z.Inside M p1) : z.Inside M (Chip.bcmDecel p1 p2) := by
  unfold Chip.bcmDecel
  extract_lets +onlyGivenNames x1
  clear_value x1
  exact .ite (Chip.decelStep_inside (hM.up rfl) (Chip.rampSpeed_inside (hM.up rfl) hp1)) hp1

theorem Chip.sliceFault_inside {z : Chip} {M : ℕ} (hM : Sub 1708354 M) {p1 : Chip} {p2 : ℕ} {p3 : ℕ} {p4 : ℕ} (hp1 : z.Inside M p1) : z.Inside M (Chip.sliceFault p1 p2 p3 p4) := by
  unfold Chip.sliceFault
  split
  · exact Chip.faultCl_inside (hM.up rfl) hp1
  · exact Chip.record_inside (hM.up rfl) hp1

theorem Chip.phaseCheck_inside {z : Chip} {M : ℕ} (hM : Sub 1708354 M) {p1 : Chip} {p2 : ℕ} (hp1 : z.Inside M p1) : z.Inside M (Chip.phaseCheck p1 p2) := by
  unfold Chip.phaseCheck
  refine .ite ?_ hp1
  extract_lets +onlyGivenNames x1
  clear_value x1
  extract_lets +onlyGivenNames x2
  clear_value x2
  extract_lets +onlyGivenNames x3
  have hx3 : z.Inside M x3 := .each hp1 (fun a4 t5 ht5 => Chip.put_inside (hM.up rfl) (Chip.modSlice_inside (hM.up rfl) ht5))
  clear_value x3
  extract_lets +onlyGivenNames x6
  have hx6 : z.Inside M x6 := Chip.outputs_inside (hM.up rfl) (Chip.setBitOf_inside (hM.up rfl) hx3)
  clear_value x6
  exact Chip.sliceFault_inside (hM.up rfl) hx6

theorem Chip.shootCheck_inside {z : Chip} {M : ℕ} (hM : Sub 1708354 M) {p1 : Chip} {p2 : ℕ} (hp1 : z.Inside M p1) : z.Inside M (Chip.shootCheck p1 p2) := by
  unfold Chip.shootCheck
  extract_lets +onlyGivenNames x1
  clear_value x1
  refine .ite hp1 ?_
  extract_lets +onlyGivenNames x2
  have hx2 : z.Inside M x2 := Chip.outputs_inside (hM.up rfl) (Chip.put_inside (hM.up rfl) (Chip.modSlice_inside (hM.up rfl) hp1))
  clear_value x2
  exact Chip.sliceFault_inside (hM.up rfl) hx2

theorem Chip.checkSlice_inside {z : Chip} {M : ℕ} (hM : Sub 1708354 M) {p1 : Chip} {p2 : ℕ} (hp1 : z.Inside M p1) : z.Inside M (Chip.checkSlice p1 p2) := by
  unfold Chip.checkSlice
  exact Chip.phaseCheck_inside (hM.up rfl) (Chip.shootCheck_inside (hM.up rfl) hp1)

theorem Chip.shortFlag_inside {z : Chip} {M : ℕ} (hM : Sub 2 M) {p1 : Chip} {p2 : ℕ} {p3 : ℕ} {p4 : ℕ} {p5 : Option Bool} (hp1 : z.Inside M p1) : z.Inside M (Chip.shortFlag p1 p2 p3 p4 p5) := by
  unfold Chip.shortFlag
  split
  · exact Chip.put_inside (hM.up rfl) hp1
  · exact hp1
  · exact .ite hp1 (Chip.put_inside (hM.up rfl) hp1)

theorem Chip.effEdge_inside {z : Chip} {M : ℕ} (hM : Sub 131074 M) {p1 : Chip} {p2 : ℕ} {p3 : ℕ} {p4 : Bool} (hp1 : z.Inside M p1) : z.Inside M (Chip.effEdge p1 p2 p3 p4) := by
  unfold Chip.effEdge
  extract_lets +onlyGivenNames x1
  have hx1 : z.Inside M x1 := Chip.accrue_inside (hM.up rfl) hp1
  clear_value x1
  extract_lets +onlyGivenNames x2
  extract_lets +onlyGivenNames x3
  clear_value x3
  extract_lets +onlyGivenNames x4
  clear_value x4
  extract_lets +onlyGivenNames x5
  clear_value x5
  extract_lets +onlyGivenNames x6
  clear_value x6
  extract_lets +onlyGivenNames x7
  clear_value x7
  extract_lets +onlyGivenNames x8
  clear_value x8
  extract_lets +onlyGivenNames x9
  clear_value x9
  extract_lets +onlyGivenNames x10
  clear_value x10
  extract_lets +onlyGivenNames x11
  clear_value x11
  extract_lets +onlyGivenNames x12
  clear_value x12
  extract_lets +onlyGivenNames x13
  clear_value x13
  extract_lets +onlyGivenNames x14
  clear_value x14
  extract_lets +onlyGivenNames x15
  clear_value x15
  extract_lets +onlyGivenNames x16
  clear_value x16
  extract_lets +onlyGivenNames x17
  clear_value x17
  extract_lets +onlyGivenNames x18
  clear_value x18
  extract_lets +onlyGivenNames x19
  clear_value x19
  extract_lets +onlyGivenNames x20
  clear_value x20
  extract_lets +onlyGivenNames x21
  have hx21 : z.Inside M x21 := Chip.modSlice_inside (hM.up rfl) hx1
  clear_value x21
  extract_lets +onlyGivenNames x22
  clear_value x22
  extract_lets +onlyGivenNames x23
  clear_value x23
  extract_lets +onlyGivenNames x24
  have hx24 : z.Inside M x24 := .ite (Chip.shortFlag_inside (hM.up rfl) hx21) hx21
  clear_value x24
  extract_lets +onlyGivenNames x25
  have hx25 : z.Inside M x25 := .ite (Chip.shortFlag_inside (hM.up rfl) hx24) hx24
  clear_value x25
  extract_lets +onlyGivenNames x26
  clear_value x26
  extract_lets +onlyGivenNames x27
  clear_value x27
  extract_lets +onlyGivenNames x28
  have hx28 : z.Inside M x28 := .ite (Chip.fallL_inside (hM.up rfl) hx25) hx25
  clear_value x28
  extract_lets +onlyGivenNames x29
  have hx29 : z.Inside M x29 := .ite (Chip.fallH_inside (hM.up rfl) hx28) hx28
  clear_value x29
  extract_lets +onlyGivenNames x30
  have hx30 : z.Inside M x30 := .ite (.ite (Chip.modSlice_inside (hM.up rfl) hx29) (.ite hx29 (Chip.riseH_inside (hM.up rfl) hx29))) hx29
  clear_value x30
  extract_lets +onlyGivenNames x31
  have hx31 : z.Inside M x31 := .ite (.ite (Chip.modSlice_inside (hM.up rfl) hx30) (.ite hx30 (Chip.riseL_inside (hM.up rfl) hx30))) hx30
  clear_value x31
  extract_lets +onlyGivenNames x32
  have hx32 : z.Inside M x32 := Chip.modSlice_inside (hM.up rfl) hx31
  clear_value x32
  exact Chip.outputs_inside (hM.up rfl) (Chip.dropGates_inside (hM.up rfl) hx32)

theorem Chip.bcmTick_inside {z : Chip} {M : ℕ} (hM : Sub 1708354 M) {p1 : Chip} {p2 : ℕ} (hp1 : z.Inside M p1) : z.Inside M (Chip.bcmTick p1 p2) := by
  unfold Chip.bcmTick
  extract_lets +onlyGivenNames x1
  clear_value x1
  exact .ite hp1 (Chip.checkSlice_inside (hM.up rfl) (Chip.effEdge_inside (hM.up rfl) (Chip.modSlice_inside (hM.up rfl) hp1)))

theorem Chip.portSet_inside {z : Chip} {M : ℕ} (hM : Sub 268435458 M) {p1 : Chip} {p2 : ℕ} {p3 : ℕ} {p4 : ℕ} (hp1 : z.Inside M p1) : z.Inside M (Chip.portSet p1 p2 p3 p4) := by
  unfold Chip.portSet
  refine .ite hp1 ?_
  extract_lets +onlyGivenNames x1
  have hx1 : z.Inside M x1 := .ite (Chip.modPort_inside (hM.up rfl) hp1) hp1
  clear_value x1
  exact Chip.sets_inside (hM.up rfl) hx1

theorem Chip.claimAt_inside {z : Chip} {M : ℕ} (hM : Sub 402653186 M) {p1 : Chip} {p2 : ℕ} {p3 : ℕ} (hp1 : z.Inside M p1) : z.Inside M (Chip.claimAt p1 p2 p3) := by
  unfold Chip.claimAt
  exact Chip.claimSend_inside (hM.up rfl) (Chip.portSet_inside (hM.up rfl) hp1)

theorem Chip.claimPref_inside {z : Chip} {M : ℕ} (hM : Sub 402653186 M) {p1 : Chip} {p2 : ℕ} (hp1 : z.Inside M p1) : z.Inside M (Chip.claimPref p1 p2) := by
  unfold Chip.claimPref
  exact .ite (Chip.claimAt_inside (hM.up rfl) (Chip.modPort_inside (hM.up rfl) hp1)) hp1

theorem Chip.portOn_inside {z : Chip} {M : ℕ} (hM : Sub 402653186 M) {p1 : Chip} {p2 : ℕ} (hp1 : z.Inside M p1) : z.Inside M (Chip.portOn p1 p2) := by
  unfold Chip.portOn
  extract_lets +onlyGivenNames x1
  have hx1 : z.Inside M x1 := Chip.modPort_inside (hM.up rfl) (Chip.put_inside (hM.up rfl) hp1)
  clear_value x1
  exact Chip.claimPref_inside (hM.up rfl) (Chip.showBackoff_inside (hM.up rfl) hx1)

theorem Chip.porchWithdraw_inside {z : Chip} {M : ℕ} (hM : Sub 402653254 M) {p1 : Chip} {p2 : ℕ} (hp1 : z.Inside M p1) : z.Inside M (Chip.porchWithdraw p1 p2) := by
  unfold Chip.porchWithdraw
  refine .each (Chip.modPort_inside (hM.up rfl) hp1) ?_
  intro a1 t2 ht2
  split
  · exact .ite (Chip.modCan_inside (hM.up rfl) ht2) (Chip.bufEnd_inside (hM.up rfl) ht2)
  · exact Chip.bufEnd_inside (hM.up rfl) ht2

theorem Chip.sesFailAll_inside {z : Chip} {M : ℕ} (hM : Sub 268435526 M) {p1 : Chip} {p2 : ℕ} {p3 : ℕ} (hp1 : z.Inside M p1) : z.Inside M (Chip.sesFailAll p1 p2 p3) := by
  unfold Chip.sesFailAll
  exact .each hp1 (fun a1 t2 ht2 => Chip.sesEnd_inside (hM.up rfl) ht2)

theorem Chip.portOff_inside {z : Chip} {M : ℕ} (hM : Sub 402653254 M) {p1 : Chip} {p2 : ℕ} (hp1 : z.Inside M p1) : z.Inside M (Chip.portOff p1 p2) := by
  unfold Chip.portOff
  extract_lets +onlyGivenNames x1
  have hx1 : z.Inside M x1 := Chip.porchWithdraw_inside (hM.up rfl) (Chip.sesFailAll_inside (hM.up rfl) hp1)
  clear_value x1
  extract_lets +onlyGivenNames x2
  have hx2 : z.Inside M x2 := Chip.put_inside (hM.up rfl) hx1
  clear_value x2
  extract_lets +onlyGivenNames x3
  have hx3 : z.Inside M x3 := Chip.portSet_inside (hM.up rfl) hx2
  clear_value x3
  extract_lets +onlyGivenNames x4
  have hx4 : z.Inside M x4 := Chip.modPort_inside (hM.up rfl) hx3
  clear_value x4
  exact Chip.showBackoff_inside (hM.up rfl) (Chip.set_inside (hM.up rfl) hx4)

theorem Chip.porchFollow_inside {z : Chip} {M : ℕ} (hM : Sub 402653254 M) {p1 : Chip} {p2 : Bool} (hp1 : z.Inside M p1) : z.Inside M (Chip.porchFollow p1 p2) := by
  unfold Chip.porchFollow
  exact .each hp1 (fun a1 t2 ht2 => .ite (.ite ht2 (Chip.portOn_inside (hM.up rfl) ht2)) (.ite (Chip.portOff_inside (hM.up rfl) ht2) ht2))

theorem Chip.roleSet_inside {z : Chip} {M : ℕ} (hM : Sub 402653254 M) {p1 : Chip} {p2 : ℕ} (hp1 : z.Inside M p1) : z.Inside M (Chip.roleSet p1 p2) := by
  unfold Chip.roleSet
  extract_lets +onlyGivenNames x1
  clear_value x1
  extract_lets +onlyGivenNames x2
  have hx2 : z.Inside M x2 := Chip.set_inside (hM.up rfl) hp1
  clear_value x2
  exact .ite (Chip.porchFollow_inside (hM.up rfl) (Chip.set_inside (hM.up rfl) hx2)) (.ite (Chip.porchFollow_inside (hM.up rfl) hx2) hx2)

theorem Chip.becomeActive_inside {z : Chip} {M : ℕ} (hM : Sub 402653254 M) {p1 : Chip} (hp1 : z.Inside M p1) : z.Inside M (Chip.becomeActive p1) := by
  unfold Chip.becomeActive
  extract_lets +onlyGivenNames x1
  clear_value x1
  extract_lets +onlyGivenNames x2
  have hx2 : z.Inside M x2 := Chip.sets_inside (hM.up rfl) hp1
  clear_value x2
  exact Chip.note_inside (hM.up rfl) (Chip.roleSet_inside (hM.up rfl) hx2)

theorem Chip.bitErrorSeen_inside {z : Chip} {M : ℕ} (hM : Sub 402653250 M) {p1 : Chip} {p2 : ℕ} (hp1 : z.Inside M p1) : z.Inside M (Chip.bitErrorSeen p1 p2) := by
  unfold Chip.bitErrorSeen
  extract_lets +onlyGivenNames x1
  extract_lets +onlyGivenNames x2
  have hx2 : ∀ w3, z.Inside M w3 → ∀ w4, z.Inside M (x2 w3 w4) := fun w3 hw3 w4 => Chip.set_inside (hM.up rfl) (Chip.modPort_inside (hM.up rfl) hw3)
  clear_value x2
  exact .ite (hx2 _ hp1 _) (.ite (Chip.claimAt_inside (hM.up rfl) (Chip.addrConflict_inside (hM.up rfl) (hx2 _ hp1 _))) (hx2 _ hp1 _))

theorem Chip.sumRead_inside {z : Chip} {M : ℕ} (hM : Sub 2 M) {p1 : Chip} {p2 : ℕ} (hp1 : z.Inside M p1) : z.Inside M (Chip.sumRead p1 p2) := by
  unfold Chip.sumRead
  refine .ite ?_ hp1
  extract_lets +onlyGivenNames x1
  clear_value x1
  extract_lets +onlyGivenNames x2
  extract_lets +onlyGivenNames x3
  have hx3 : z.Inside M x3 := (Chip.Inside.mk_irq (hM.up rfl) hp1)
  clear_value x3
  exact .ite (Chip.bump_inside (hM.up rfl) hx3) hx3

theorem Chip.timLatch_inside {z : Chip} {M : ℕ} (hM : Sub 0 M) {p1 : Chip} {p2 : Requester} (hp1 : z.Inside M p1) : z.Inside M (Chip.timLatch p1 p2) := by
  unfold Chip.timLatch
  exact (Chip.Inside.mk_irq (hM.up rfl) hp1)

theorem Chip.coreRead_inside {z : Chip} {M : ℕ} (hM : Sub 82 M) {p1 : Chip} {p2 : Requester} {p3 : ℕ} (hp1 : z.Inside M p1) : z.Inside M (Chip.coreRead p1 p2 p3).1 := by
  unfold Chip.coreRead
  extract_lets +onlyGivenNames x1
  clear_value x1
  refine .iteP (.fst hp1) ?_
  refine .iteP ?_ (.iteP (.fst hp1) (.iteP (.fst (Chip.timLatch_inside (hM.up rfl) hp1)) (.iteP (.fst hp1) (.iteP (.fst hp1) (.iteP (.fst hp1) (.fst (Chip.hole_inside (hM.up rfl) hp1)))))))
  extract_lets +onlyGivenNames x2
  clear_value x2
  extract_lets +onlyGivenNames x3
  clear_value x3
  refine .fst ?_
  split
  · exact .ite (Chip.sumRead_inside (hM.up rfl) hp1) hp1
  · exact hp1

theorem Chip.blockRead_inside {z : Chip} {M : ℕ} (hM : Sub 82 M) {p1 : Chip} {p2 : Requester} {p3 : ℕ} (hp1 : z.Inside M p1) : z.Inside M (Chip.blockRead p1 p2 p3).1 := by
  unfold Chip.blockRead
  extract_lets +onlyGivenNames x1
  clear_value x1
  extract_lets +onlyGivenNames x2
  clear_value x2
  refine .iteP (Chip.coreRead_inside (hM.up rfl) hp1) ?_
  refine .iteP (.fst hp1) ?_
  refine .iteP (.fst hp1) ?_
  refine .iteP (.fst hp1) ?_
  refine .iteP (.fst hp1) ?_
  refine .iteP (.fst (Chip.useFree_inside (hM.up rfl) hp1)) ?_
  split
  · exact .fst hp1
  · exact .iteP (.fst hp1) (.fst (Chip.hole_inside (hM.up rfl) hp1))

theorem Chip.refusal_inside {z : Chip} {M : ℕ} (hM : Sub 4162 M) {p1 : Chip} {p2 : ℕ} {p3 : ℕ} {p4 : ℕ} (hp1 : z.Inside M p1) : z.Inside M (Chip.refusal p1 p2 p3 p4) := by
  unfold Chip.refusal
  extract_lets +onlyGivenNames x1
  have hx1 : z.Inside M x1 := Chip.modCl_inside (hM.up rfl) hp1
  clear_value x1
  exact Chip.noteCl_inside (hM.up rfl) (Chip.put_inside (hM.up rfl) hx1)

theorem Chip.refuseReq_inside {z : Chip} {M : ℕ} (hM : Sub 4162 M) {p1 : Chip} {p2 : ℕ} {p3 : ℕ} {p4 : ℕ} (hp1 : z.Inside M p1) : z.Inside M (Chip.refuseReq p1 p2 p3 p4) := by
  unfold Chip.refuseReq
  exact Chip.refusal_inside (hM.up rfl) hp1

theorem Chip.startRun_inside {z : Chip} {M : ℕ} (hM : Sub 1773890 M) {p1 : Chip} {p2 : ℕ} (hp1 : z.Inside M p1) : z.Inside M (Chip.startRun p1 p2) := by
  unfold Chip.startRun
  exact .ite (Chip.bcmStart_inside (hM.up rfl) hp1) (Chip.enterCatch_inside (hM.up rfl) (Chip.setHeld_inside (hM.up rfl) hp1))

theorem Chip.reqRun_inside {z : Chip} {M : ℕ} (hM : Sub 1773890 M) {p1 : Chip} {p2 : ℕ} (hp1 : z.Inside M p1) : z.Inside M (Chip.reqRun p1 p2) := by
  unfold Chip.reqRun
  extract_lets +onlyGivenNames x1
  clear_value x1
  extract_lets +onlyGivenNames x2
  clear_value x2
  exact .ite (Chip.refuseReq_inside (hM.up rfl) hp1) (.ite (Chip.refuseReq_inside (hM.up rfl) hp1) (.ite (Chip.setStanding_inside (hM.up rfl) (Chip.setHeld_inside (hM.up rfl) hp1)) (.ite (Chip.enter_inside (hM.up rfl) (Chip.setHeld_inside (hM.up rfl) hp1)) (.ite (Chip.startRun_inside (hM.up rfl) hp1) (Chip.setHeld_inside (hM.up rfl) hp1)))))

theorem Chip.startDecel_inside {z : Chip} {M : ℕ} (hM : Sub 1708354 M) {p1 : Chip} {p2 : ℕ} {p3 : Bool} (hp1 : z.Inside M p1) : z.Inside M (Chip.startDecel p1 p2 p3) := by
  unfold Chip.startDecel
  extract_lets +onlyGivenNames x1
  clear_value x1
  extract_lets +onlyGivenNames x2
  have hx2 : z.Inside M x2 := Chip.enter_inside (hM.up rfl) hp1
  clear_value x2
  exact Chip.modCl_inside (hM.up rfl) hx2

theorem Chip.haltWdis_inside {z : Chip} {M : ℕ} (hM : Sub 1708354 M) {p1 : Chip} {p2 : ℕ} (hp1 : z.Inside M p1) : z.Inside M (Chip.haltWdis p1 p2) := by
  unfold Chip.haltWdis
  exact Chip.startDecel_inside (hM.up rfl) (Chip.sets_inside (hM.up rfl) hp1)

theorem Chip.endWdis_inside {z : Chip} {M : ℕ} (hM : Sub 1708354 M) {p1 : Chip} {p2 : ℕ} (hp1 : z.Inside M p1) : z.Inside M (Chip.endWdis p1 p2) := by
  unfold Chip.endWdis
  exact .ite (Chip.put_inside (hM.up rfl) (Chip.enter_inside (hM.up rfl) hp1)) hp1

theorem Chip.reqStop_inside {z : Chip} {M : ℕ} (hM : Sub 1708354 M) {p1 : Chip} {p2 : ℕ} {p3 : Bool} (hp1 : z.Inside M p1) : z.Inside M (Chip.reqStop p1 p2 p3) := by
  unfold Chip.reqStop
  extract_lets +onlyGivenNames x1
  clear_value x1
  extract_lets +onlyGivenNames x2
  clear_value x2
  exact .ite (.ite (Chip.enter_inside (hM.up rfl) (Chip.setHeld_inside (hM.up rfl) hp1)) (Chip.setHeld_inside (hM.up rfl) hp1)) (.ite (.ite (Chip.refuseReq_inside (hM.up rfl) hp1) (Chip.setHeld_inside (hM.up rfl) hp1)) (.ite (.ite (Chip.refuseReq_inside (hM.up rfl) hp1) (Chip.setStanding_inside (hM.up rfl) (Chip.setHeld_inside (hM.up rfl) hp1))) (.ite (.ite (Chip.setHeld_inside (hM.up rfl) hp1) (Chip.enter_inside (hM.up rfl) (Chip.setHeld_inside (hM.up rfl) hp1))) (.ite (.ite (Chip.haltWdis_inside (hM.up rfl) hp1) (Chip.endWdis_inside (hM.up rfl) hp1)) (.ite (Chip.startDecel_inside (hM.up rfl) hp1) (Chip.modCl_inside (hM.up rfl) hp1))))))

theorem Chip.resetEngine_inside {z : Chip} {M : ℕ} (hM : Sub 69634 M) {p1 : Chip} {p2 : ℕ} (hp1 : z.Inside M p1) : z.Inside M (Chip.resetEngine p1 p2) := by
  unfold Chip.resetEngine
  extract_lets +onlyGivenNames x1
  clear_value x1
  extract_lets +onlyGivenNames x2
  have hx2 : z.Inside M x2 := Chip.resetRange_inside (hM.up rfl) (Chip.resetRange_inside (hM.up rfl) hp1)
  clear_value x2
  extract_lets +onlyGivenNames x3
  have hx3 : z.Inside M x3 := Chip.modCle_inside (hM.up rfl) hx2
  clear_value x3
  extract_lets +onlyGivenNames x4
  have hx4 : z.Inside M x4 := Chip.modCl_inside (hM.up rfl) hx3
  clear_value x4
  exact Chip.set_inside (hM.up rfl) hx4

theorem Chip.endDuplex_inside {z : Chip} {M : ℕ} (hM : Sub 1814610 M) {p1 : Chip} {p2 : ℕ} (hp1 : z.Inside M p1) : z.Inside M (Chip.endDuplex p1 p2) := by
  unfold Chip.endDuplex
  refine .ite ?_ hp1
  extract_lets +onlyGivenNames x1
  clear_value x1
  extract_lets +onlyGivenNames x2
  have hx2 : z.Inside M x2 := Chip.sets_inside (hM.up rfl) (Chip.modCl_inside (hM.up rfl) hp1)
  clear_value x2
  extract_lets +onlyGivenNames x3
  have hx3 : z.Inside M x3 := Chip.resetEngine_inside (hM.up rfl) hx2
  clear_value x3
  extract_lets +onlyGivenNames x4
  clear_value x4
  exact Chip.applyUnitcfg_inside (hM.up rfl) hx3

theorem Chip.clusterHidden_inside {z : Chip} {M : ℕ} (hM : Sub 69632 M) {p1 : Chip} {p2 : ℕ} (hp1 : z.Inside M p1) : z.Inside M (Chip.clusterHidden p1 p2) := by
  unfold Chip.clusterHidden
  extract_lets +onlyGivenNames x1
  have hx1 : z.Inside M x1 := Chip.modCl_inside (hM.up rfl) hp1
  clear_value x1
  exact Chip.modCle_inside (hM.up rfl) hx1

theorem Chip.clusterRegs_inside {z : Chip} {M : ℕ} (hM : Sub 2 M) {p1 : Chip} {p2 : ℕ} (hp1 : z.Inside M p1) : z.Inside M (Chip.clusterRegs p1 p2) := by
  unfold Chip.clusterRegs
  extract_lets +onlyGivenNames x1
  clear_value x1
  extract_lets +onlyGivenNames x2
  extract_lets +onlyGivenNames x3
  clear_value x3
  exact Chip.put_inside (hM.up rfl) (Chip.sets_inside (hM.up rfl) (Chip.resetRange_inside (hM.up rfl) hp1))

theorem Chip.copyShadows_inside {z : Chip} {M : ℕ} (hM : Sub 131074 M) {p1 : Chip} {p2 : ℕ} {p3 : Bool} {p4 : Bool} (hp1 : z.Inside M p1) : z.Inside M (Chip.copyShadows p1 p2 p3 p4) := by
  unfold Chip.copyShadows
  extract_lets +onlyGivenNames x1
  clear_value x1
  extract_lets +onlyGivenNames x2
  clear_value x2
  extract_lets +onlyGivenNames x3
  extract_lets +onlyGivenNames x4
  have hx4 : z.Inside M x4 := Chip.set_inside (hM.up rfl) (Chip.set_inside (hM.up rfl) hp1)
  clear_value x4
  exact Chip.modSlice_inside (hM.up rfl) hx4

theorem Chip.syncFollowers_inside {z : Chip} {M : ℕ} (hM : Sub 131138 M) {p1 : Chip} {p2 : ℕ} (hp1 : z.Inside M p1) : z.Inside M (Chip.syncFollowers p1 p2) := by
  unfold Chip.syncFollowers
  exact .each hp1 (fun a1 t2 ht2 => .ite (Chip.syncCheck_inside (hM.up rfl) ht2) ht2)

theorem Chip.sliceUnitReset_inside {z : Chip} {M : ℕ} (hM : Sub 131138 M) {p1 : Chip} {p2 : ℕ} (hp1 : z.Inside M p1) : z.Inside M (Chip.sliceUnitReset p1 p2) := by
  unfold Chip.sliceUnitReset
  extract_lets +onlyGivenNames x1
  clear_value x1
  extract_lets +onlyGivenNames x2
  clear_value x2
  extract_lets +onlyGivenNames x3
  clear_value x3
  extract_lets +onlyGivenNames x4
  clear_value x4
  extract_lets +onlyGivenNames x5
  clear_value x5
  extract_lets +onlyGivenNames x6
  clear_value x6
  extract_lets +onlyGivenNames x7
  extract_lets +onlyGivenNames x8
  have hx8 : z.Inside M x8 := Chip.sets_inside (hM.up rfl) (Chip.resetRange_inside (hM.up rfl) hp1)
  clear_value x8
  extract_lets +onlyGivenNames x9
  have hx9 : z.Inside M x9 := Chip.modSlice_inside (hM.up rfl) hx8
  clear_value x9
  extract_lets +onlyGivenNames x10
  have hx10 : z.Inside M x10 := .ite (Chip.copyShadows_inside (hM.up rfl) hx9) hx9
  clear_value x10
  exact Chip.syncFollowers_inside (hM.up rfl) (Chip.outputs_inside (hM.up rfl) hx10)

theorem Chip.reloadOwned_inside {z : Chip} {M : ℕ} (hM : Sub 1744978 M) {p1 : Chip} {p2 : ℕ} (hp1 : z.Inside M p1) : z.Inside M (Chip.reloadOwned p1 p2) := by
  unfold Chip.reloadOwned
  exact .each hp1 (fun a1 t2 ht2 => Chip.configWrite_inside (hM.up rfl) ht2)

theorem Chip.motorWords_inside {z : Chip} {M : ℕ} (hM : Sub 2 M) {p1 : Chip} {p2 : ℕ} (hp1 : z.Inside M p1) : z.Inside M (Chip.motorWords p1 p2) := by
  unfold Chip.motorWords
  exact Chip.set_inside (hM.up rfl) (Chip.set_inside (hM.up rfl) hp1)

theorem Chip.recheck_inside {z : Chip} {M : ℕ} (hM : Sub 1708354 M) {p1 : Chip} {p2 : ℕ} (hp1 : z.Inside M p1) : z.Inside M (Chip.recheck p1 p2) := by
  unfold Chip.recheck
  exact Chip.checkSlice_inside (hM.up rfl) (Chip.effEdge_inside (hM.up rfl) hp1)

theorem Chip.clusterReload_inside {z : Chip} {M : ℕ} (hM : Sub 1814866 M) {p1 : Chip} {p2 : ℕ} (hp1 : z.Inside M p1) : z.Inside M (Chip.clusterReload p1 p2) := by
  unfold Chip.clusterReload
  extract_lets +onlyGivenNames x1
  have hx1 : z.Inside M x1 := Chip.endDuplex_inside (hM.up rfl) hp1
  clear_value x1
  extract_lets +onlyGivenNames x2
  clear_value x2
  extract_lets +onlyGivenNames x3
  have hx3 : z.Inside M x3 := Chip.set_inside (hM.up rfl) (Chip.clusterHidden_inside (hM.up rfl) (Chip.clusterRegs_inside (hM.up rfl) hx1))
  clear_value x3
  extract_lets +onlyGivenNames x4
  have hx4 : z.Inside M x4 := .each hx3 (fun a5 t6 ht6 => Chip.sliceUnitReset_inside (hM.up rfl) ht6)
  clear_value x4
  extract_lets +onlyGivenNames x7
  have hx7 : z.Inside M x7 := Chip.reloadOwned_inside (hM.up rfl) (Chip.applyUnitcfg_inside (hM.up rfl) (Chip.motorWords_inside (hM.up rfl) hx4))
  clear_value x7
  extract_lets +onlyGivenNames x8
  have hx8 : z.Inside M x8 := Chip.showSlots_inside (hM.up rfl) (Chip.showLists_inside (hM.up rfl) hx7)
  clear_value x8
  exact .each hx8 (fun a9 t10 ht10 => Chip.recheck_inside (hM.up rfl) (Chip.copyShadows_inside (hM.up rfl) ht10))

theorem Chip.clusterReset_inside {z : Chip} {M : ℕ} (hM : Sub 1814866 M) {p1 : Chip} {p2 : ℕ} (hp1 : z.Inside M p1) : z.Inside M (Chip.clusterReset p1 p2) := by
  unfold Chip.clusterReset
  extract_lets +onlyGivenNames x1
  have hx1 : z.Inside M x1 := Chip.clusterReload_inside (hM.up rfl) hp1
  clear_value x1
  extract_lets +onlyGivenNames x2
  have hx2 : z.Inside M x2 := Chip.modCl_inside (hM.up rfl) hx1
  clear_value x2
  exact Chip.refreshHold_inside (hM.up rfl) (Chip.enter_inside (hM.up rfl) (Chip.refreshHold_inside (hM.up rfl) hx2))

theorem Chip.reqReset_inside {z : Chip} {M : ℕ} (hM : Sub 1814866 M) {p1 : Chip} {p2 : ℕ} (hp1 : z.Inside M p1) : z.Inside M (Chip.reqReset p1 p2) := by
  unfold Chip.reqReset
  extract_lets +onlyGivenNames x1
  clear_value x1
  exact .ite (Chip.clusterReset_inside (hM.up rfl) hp1) (Chip.refuseReq_inside (hM.up rfl) hp1)

theorem Chip.showFaults_inside {z : Chip} {M : ℕ} (hM : Sub 2 M) {p1 : Chip} {p2 : ℕ} (hp1 : z.Inside M p1) : z.Inside M (Chip.showFaults p1 p2) := by
  unfold Chip.showFaults
  extract_lets +onlyGivenNames x1
  exact Chip.put_inside (hM.up rfl) (Chip.set_inside (hM.up rfl) hp1)

theorem Chip.dropFault_inside {z : Chip} {M : ℕ} (hM : Sub 4096 M) {p1 : Chip} {p2 : ℕ} {p3 : ℕ} {p4 : ℕ} (hp1 : z.Inside M p1) : z.Inside M (Chip.dropFault p1 p2 p3 p4) := by
  unfold Chip.dropFault
  exact Chip.modCl_inside (hM.up rfl) hp1

theorem Chip.clearIslandFault_inside {z : Chip} {M : ℕ} (hM : Sub 659522 M) {p1 : Chip} {p2 : ℕ} {p3 : ℕ} (hp1 : z.Inside M p1) : z.Inside M (Chip.clearIslandFault p1 p2 p3) := by
  unfold Chip.clearIslandFault
  extract_lets +onlyGivenNames x1
  have hx1 : z.Inside M x1 := Chip.modIsl_inside (hM.up rfl) hp1
  clear_value x1
  extract_lets +onlyGivenNames x2
  have hx2 : z.Inside M x2 := Chip.showFaults_inside (hM.up rfl) hx1
  clear_value x2
  extract_lets +onlyGivenNames x3
  have hx3 : z.Inside M x3 := .ite (Chip.clamp_inside (hM.up rfl) (Chip.set_inside (hM.up rfl) (Chip.modIsl_inside (hM.up rfl) hx2))) hx2
  clear_value x3
  split
  · exact Chip.refreshHold_inside (hM.up rfl) (Chip.dropFault_inside (hM.up rfl) hx3)
  · exact hx3

theorem Chip.clearIsland_inside {z : Chip} {M : ℕ} (hM : Sub 659522 M) {p1 : Chip} {p2 : ℕ} (hp1 : z.Inside M p1) : z.Inside M (Chip.clearIsland p1 p2) := by
  unfold Chip.clearIsland
  extract_lets +onlyGivenNames x1
  have hx1 : z.Inside M x1 := Chip.sets_inside (hM.up rfl) hp1
  clear_value x1
  exact .each hx1 (fun a2 t3 ht3 => .ite (Chip.clearIslandFault_inside (hM.up rfl) ht3) ht3)

theorem Chip.putIso_inside {z : Chip} {M : ℕ} (hM : Sub 1048578 M) {p1 : Chip} {p2 : ℕ} {p3 : Bool} (hp1 : z.Inside M p1) : z.Inside M (Chip.putIso p1 p2 p3) := by
  unfold Chip.putIso
  exact Chip.xfmrUpdate_inside (hM.up rfl) (Chip.put_inside (hM.up rfl) hp1)

theorem Chip.reqClear_inside {z : Chip} {M : ℕ} (hM : Sub 1773890 M) {p1 : Chip} {p2 : ℕ} (hp1 : z.Inside M p1) : z.Inside M (Chip.reqClear p1 p2) := by
  unfold Chip.reqClear
  refine .ite (Chip.refuseReq_inside (hM.up rfl) hp1) ?_
  extract_lets +onlyGivenNames x1
  have hx1 : z.Inside M x1 := .each (Chip.setHeld_inside (hM.up rfl) hp1) (fun a2 t3 ht3 => Chip.clearIsland_inside (hM.up rfl) ht3)
  clear_value x1
  extract_lets +onlyGivenNames x4
  clear_value x4
  extract_lets +onlyGivenNames x5
  have hx5 : z.Inside M x5 := Chip.modCl_inside (hM.up rfl) hx1
  clear_value x5
  extract_lets +onlyGivenNames x6
  have hx6 : z.Inside M x6 := Chip.modCl_inside (hM.up rfl) hx5
  clear_value x6
  extract_lets +onlyGivenNames x7
  clear_value x7
  extract_lets +onlyGivenNames x8
  have hx8 : z.Inside M x8 := .ite (Chip.putIso_inside (hM.up rfl) hx6) hx6
  clear_value x8
  extract_lets +onlyGivenNames x9
  have hx9 : z.Inside M x9 := .ite (.ite (Chip.putIso_inside (hM.up rfl) hx8) hx8) hx5
  clear_value x9
  exact Chip.tryLeaveSafe_inside (hM.up rfl) (Chip.refreshHold_inside (hM.up rfl) hx9)

theorem Chip.wdisRefuse_inside {z : Chip} {M : ℕ} (hM : Sub 4162 M) {p1 : Chip} {p2 : ℕ} (hp1 : z.Inside M p1) : z.Inside M (Chip.wdisRefuse p1 p2) := by
  unfold Chip.wdisRefuse
  exact Chip.refusal_inside (hM.up rfl) hp1

theorem Chip.wdisStart_inside {z : Chip} {M : ℕ} (hM : Sub 1708354 M) {p1 : Chip} {p2 : ℕ} {p3 : ℕ} (hp1 : z.Inside M p1) : z.Inside M (Chip.wdisStart p1 p2 p3) := by
  unfold Chip.wdisStart
  extract_lets +onlyGivenNames x1
  have hx1 : z.Inside M x1 := Chip.enter_inside (hM.up rfl) (Chip.setHeld_inside (hM.up rfl) hp1)
  clear_value x1
  extract_lets +onlyGivenNames x2
  have hx2 : z.Inside M x2 := Chip.sets_inside (hM.up rfl) hx1
  clear_value x2
  exact Chip.modCl_inside (hM.up rfl) hx2

theorem Chip.obsCaught_inside {z : Chip} {M : ℕ} (hM : Sub 4098 M) {p1 : Chip} {p2 : ℕ} {p3 : ℕ} {p4 : ℕ} (hp1 : z.Inside M p1) : z.Inside M (Chip.obsCaught p1 p2 p3 p4) := by
  unfold Chip.obsCaught
  extract_lets +onlyGivenNames x1
  clear_value x1
  extract_lets +onlyGivenNames x2
  have hx2 : z.Inside M x2 := Chip.modCl_inside (hM.up rfl) hp1
  clear_value x2
  exact Chip.sets_inside (hM.up rfl) hx2

theorem Chip.reqDischarge_inside {z : Chip} {M : ℕ} (hM : Sub 1708370 M) {p1 : Chip} {p2 : ℕ} (hp1 : z.Inside M p1) : z.Inside M (Chip.reqDischarge p1 p2).1 := by
  unfold Chip.reqDischarge
  refine .iteP (.fst (Chip.refuseReq_inside (hM.up rfl) hp1)) ?_
  extract_lets +onlyGivenNames x1
  clear_value x1
  refine .iteP (.fst (Chip.wdisRefuse_inside (hM.up rfl) hp1)) ?_
  refine .iteP ?_ ?_
  · extract_lets +onlyGivenNames x2
    clear_value x2
    exact .fst (Chip.wdisStart_inside (hM.up rfl) hp1)
  · refine .iteP ?_ (.iteP (.fst (Chip.modCl_inside (hM.up rfl) (Chip.setHeld_inside (hM.up rfl) hp1))) (.fst (Chip.wdisRefuse_inside (hM.up rfl) hp1)))
    extract_lets +onlyGivenNames x3
    clear_value x3
    exact .fst (Chip.wdisStart_inside (hM.up rfl) (Chip.obsCaught_inside (hM.up rfl) (Chip.useFree_inside (hM.up rfl) hp1)))

theorem Chip.reqDuplex_inside {z : Chip} {M : ℕ} (hM : Sub 4162 M) {p1 : Chip} {p2 : ℕ} (hp1 : z.Inside M p1) : z.Inside M (Chip.reqDuplex p1 p2) := by
  unfold Chip.reqDuplex
  extract_lets +onlyGivenNames x1
  clear_value x1
  extract_lets +onlyGivenNames x2
  clear_value x2
  extract_lets +onlyGivenNames x3
  have hx3 : ∀ w4, z.Inside M (x3 w4) := fun w4 => Chip.refusal_inside (hM.up rfl) hp1
  clear_value x3
  exact .ite (Chip.refuseReq_inside (hM.up rfl) hp1) (.ite (hx3 _) (.ite (hx3 _) (Chip.put_inside (hM.up rfl) (Chip.modCl_inside (hM.up rfl) (Chip.setHeld_inside (hM.up rfl) hp1)))))

theorem Chip.reqSplit_inside {z : Chip} {M : ℕ} (hM : Sub 4162 M) {p1 : Chip} {p2 : ℕ} (hp1 : z.Inside M p1) : z.Inside M (Chip.reqSplit p1 p2) := by
  unfold Chip.reqSplit
  exact .ite (Chip.modCl_inside (hM.up rfl) (Chip.setHeld_inside (hM.up rfl) hp1)) (Chip.refuseReq_inside (hM.up rfl) hp1)

theorem Chip.handleReq_inside {z : Chip} {M : ℕ} (hM : Sub 1814866 M) {p1 : Chip} {p2 : ℕ} {p3 : ℕ} (hp1 : z.Inside M p1) : z.Inside M (Chip.handleReq p1 p2 p3) := by
  unfold Chip.handleReq
  exact .ite (Chip.refuseReq_inside (hM.up rfl) hp1) (.ite (Chip.reqRun_inside (hM.up rfl) hp1) (.ite (Chip.reqStop_inside (hM.up rfl) hp1) (.ite (Chip.reqStop_inside (hM.up rfl) hp1) (.ite (Chip.reqReset_inside (hM.up rfl) hp1) (.ite (Chip.reqClear_inside (hM.up rfl) hp1) (.ite (Chip.reqDischarge_inside (hM.up rfl) hp1) (.ite (Chip.reqDuplex_inside (hM.up rfl) hp1) (.ite (Chip.reqSplit_inside (hM.up rfl) hp1) (Chip.refuseReq_inside (hM.up rfl) hp1)))))))))

theorem Chip.standDemands_inside {z : Chip} {M : ℕ} (hM : Sub 1708354 M) {p1 : Chip} {p2 : ℕ} (hp1 : z.Inside M p1) : z.Inside M (Chip.standDemands p1 p2) := by
  unfold Chip.standDemands
  extract_lets +onlyGivenNames x1
  have hx1 : ∀ w2, ∀ w3, ∀ w4, ∀ w5, z.Inside M w5 → z.Inside M (x1 w2 w3 w4 w5) := fun w2 w3 w4 w5 hw5 => .ite hw5 (Chip.stand_inside (hM.up rfl) hw5)
  clear_value x1
  refine .ite hp1 ?_
  extract_lets +onlyGivenNames x6
  have hx6 : z.Inside M x6 := .ite (hx1 _ _ _ _ hp1) hp1
  clear_value x6
  extract_lets +onlyGivenNames x7
  have hx7 : z.Inside M x7 := .ite (hx1 _ _ _ _ hx6) hx6
  clear_value x7
  exact .each hx7 (fun a8 t9 ht9 => .ite ht9 (.ite (hx1 _ _ _ _ ht9) (.ite (hx1 _ _ _ _ ht9) (.ite (hx1 _ _ _ _ ht9) ht9))))

theorem Chip.refall_inside {z : Chip} {M : ℕ} (hM : Sub 1708354 M) {p1 : Chip} {p2 : ℕ} (hp1 : z.Inside M p1) : z.Inside M (Chip.refall p1 p2) := by
  unfold Chip.refall
  refine .ite hp1 ?_
  extract_lets +onlyGivenNames x1
  have hx1 : z.Inside M x1 := Chip.standDemands_inside (hM.up rfl) (Chip.modCl_inside (hM.up rfl) hp1)
  clear_value x1
  exact .ite (Chip.refreshHold_inside (hM.up rfl) hx1) (Chip.refreshHold_inside (hM.up rfl) (Chip.enter_inside (hM.up rfl) hx1))

theorem Chip.request_inside {z : Chip} {M : ℕ} (hM : Sub 1814866 M) {p1 : Chip} {p2 : ℕ} {p3 : ℕ} (hp1 : z.Inside M p1) : z.Inside M (Chip.request p1 p2 p3) := by
  unfold Chip.request
  exact .ite hp1 (Chip.modCl_inside (hM.up rfl) (Chip.handleReq_inside (hM.up rfl) (Chip.refall_inside (hM.up rfl) hp1)))

theorem Chip.ldrRefuse_inside {z : Chip} {M : ℕ} (hM : Sub 66 M) {p1 : Chip} {p2 : ℕ} {p3 : ℕ} {p4 : ℕ} (hp1 : z.Inside M p1) : z.Inside M (Chip.ldrRefuse p1 p2 p3 p4) := by
  unfold Chip.ldrRefuse
  exact Chip.noteCl_inside (hM.up rfl) (Chip.put_inside (hM.up rfl) hp1)

theorem Chip.swapBySoftware_inside {z : Chip} {M : ℕ} (hM : Sub 4162 M) {p1 : Chip} {p2 : ℕ} {p3 : ℕ} (hp1 : z.Inside M p1) : z.Inside M (Chip.swapBySoftware p1 p2 p3) := by
  unfold Chip.swapBySoftware
  exact .ite (Chip.ldrRefuse_inside (hM.up rfl) hp1) (Chip.swapRequest_inside (hM.up rfl) hp1)

theorem Chip.cleClr_inside {z : Chip} {M : ℕ} (hM : Sub 65618 M) {p1 : Chip} {p2 : ℕ} (hp1 : z.Inside M p1) : z.Inside M (Chip.cleClr p1 p2) := by
  unfold Chip.cleClr
  exact .ite (.each hp1 (fun a1 t2 ht2 => Chip.clearLists_inside (hM.up rfl) ht2)) (Chip.refuse_inside (hM.up rfl) hp1)

theorem Chip.posUnitReset_inside {z : Chip} {M : ℕ} (hM : Sub 32770 M) {p1 : Chip} {p2 : ℕ} (hp1 : z.Inside M p1) : z.Inside M (Chip.posUnitReset p1 p2) := by
  unfold Chip.posUnitReset
  exact Chip.modPos_inside (hM.up rfl) (Chip.posFresh_inside (hM.up rfl) (Chip.resetRange_inside (hM.up rfl) hp1))

theorem Chip.cleUnitReset_inside {z : Chip} {M : ℕ} (hM : Sub 65538 M) {p1 : Chip} {p2 : ℕ} (hp1 : z.Inside M p1) : z.Inside M (Chip.cleUnitReset p1 p2) := by
  unfold Chip.cleUnitReset
  extract_lets +onlyGivenNames x1
  clear_value x1
  exact Chip.modCle_inside (hM.up rfl) (Chip.resetRange_inside (hM.up rfl) hp1)

theorem Chip.islandReset_inside {z : Chip} {M : ℕ} (hM : Sub 524288 M) {p1 : Chip} {p2 : ℕ} (hp1 : z.Inside M p1) : z.Inside M (Chip.islandReset p1 p2) := by
  unfold Chip.islandReset
  exact Chip.modIsl_inside (hM.up rfl) hp1

theorem Chip.turnOff_inside {z : Chip} {M : ℕ} (hM : Sub 524288 M) {p1 : Chip} {p2 : ℕ} (hp1 : z.Inside M p1) : z.Inside M (Chip.turnOff p1 p2) := by
  unfold Chip.turnOff
  extract_lets +onlyGivenNames x1
  clear_value x1
  exact Chip.modIsl_inside (hM.up rfl) hp1

theorem Chip.gateAway_inside {z : Chip} {M : ℕ} (hM : Sub 524288 M) {p1 : Chip} {p2 : ℕ} (hp1 : z.Inside M p1) : z.Inside M (Chip.gateAway p1 p2) := by
  unfold Chip.gateAway
  extract_lets +onlyGivenNames x1
  exact .ite (Chip.turnOff_inside (hM.up rfl) hp1) hp1

theorem Chip.islTo_inside {z : Chip} {M : ℕ} (hM : Sub 524290 M) {p1 : Chip} {p2 : ℕ} {p3 : ℕ} (hp1 : z.Inside M p1) : z.Inside M (Chip.islTo p1 p2 p3) := by
  unfold Chip.islTo
  extract_lets +onlyGivenNames x1
  have hx1 : z.Inside M x1 := .ite (Chip.sets_inside (hM.up rfl) hp1) hp1
  clear_value x1
  extract_lets +onlyGivenNames x2
  have hx2 : z.Inside M x2 := Chip.clamp_inside (hM.up rfl) (Chip.modIsl_inside (hM.up rfl) hx1)
  clear_value x2
  exact .ite hx2 (.ite (Chip.abortLeak_inside (hM.up rfl) hx2) hx2)

theorem Chip.islShow_inside {z : Chip} {M : ℕ} (hM : Sub 524290 M) {p1 : Chip} {p2 : ℕ} {p3 : ℕ} (hp1 : z.Inside M p1) : z.Inside M (Chip.islShow p1 p2 p3) := by
  unfold Chip.islShow
  exact Chip.set_inside (hM.up rfl) (Chip.islTo_inside (hM.up rfl) hp1)

theorem Chip.setTarget_inside {z : Chip} {M : ℕ} (hM : Sub 2 M) {p1 : Chip} {p2 : List (ℕ × ℕ)} (hp1 : z.Inside M p1) : z.Inside M (Chip.setTarget p1 p2) := by
  unfold Chip.setTarget
  exact .ite hp1 (.ite hp1 (Chip.sets_inside (hM.up rfl) hp1))

theorem Chip.islRecord_inside {z : Chip} {M : ℕ} (hM : Sub 66 M) {p1 : Chip} {p2 : ℕ} {p3 : ℕ} {p4 : ℕ} {p5 : ℕ} (hp1 : z.Inside M p1) : z.Inside M (Chip.islRecord p1 p2 p3 p4 p5) := by
  unfold Chip.islRecord
  extract_lets +onlyGivenNames x1
  clear_value x1
  exact Chip.set_inside (hM.up rfl) (Chip.record_inside (hM.up rfl) hp1)

theorem Chip.calDrift_inside {z : Chip} {M : ℕ} (hM : Sub 66 M) {p1 : Chip} {p2 : ℕ} {p3 : ℤ} (hp1 : z.Inside M p1) : z.Inside M (Chip.calDrift p1 p2 p3) := by
  unfold Chip.calDrift
  extract_lets +onlyGivenNames x1
  have hx1 : z.Inside M x1 := Chip.sets_inside (hM.up rfl) hp1
  clear_value x1
  exact Chip.islRecord_inside (hM.up rfl) hx1

theorem Chip.calibrate_inside {z : Chip} {M : ℕ} (hM : Sub 66 M) {p1 : Chip} {p2 : ℕ} {p3 : ℕ} (hp1 : z.Inside M p1) : z.Inside M (Chip.calibrate p1 p2 p3) := by
  unfold Chip.calibrate
  extract_lets +onlyGivenNames x1
  clear_value x1
  extract_lets +onlyGivenNames x2
  clear_value x2
  extract_lets +onlyGivenNames x3
  extract_lets +onlyGivenNames x4
  have hx4 : z.Inside M x4 := Chip.sets_inside (hM.up rfl) hp1
  clear_value x4
  exact .ite (Chip.put_inside (hM.up rfl) hx4) (Chip.calDrift_inside (hM.up rfl) hx4)

theorem Chip.calibrateAll_inside {z : Chip} {M : ℕ} (hM : Sub 66 M) {p1 : Chip} {p2 : List (ℕ × ℕ)} (hp1 : z.Inside M p1) : z.Inside M (Chip.calibrateAll p1 p2) := by
  unfold Chip.calibrateAll
  exact .each (Chip.setTarget_inside (hM.up rfl) hp1) (fun a1 t2 ht2 => Chip.calibrate_inside (hM.up rfl) ht2)

theorem Chip.calibrateDue_inside {z : Chip} {M : ℕ} (hM : Sub 524354 M) {p1 : Chip} (hp1 : z.Inside M p1) : z.Inside M (Chip.calibrateDue p1) := by
  unfold Chip.calibrateDue
  refine .ite hp1 ?_
  extract_lets +onlyGivenNames x1
  exact .each (Chip.calibrateAll_inside (hM.up rfl) hp1) (fun a2 t3 ht3 => Chip.modIsl_inside (hM.up rfl) ht3)

theorem Chip.islUnitReset_inside {z : Chip} {M : ℕ} (hM : Sub 524354 M) {p1 : Chip} {p2 : ℕ} (hp1 : z.Inside M p1) : z.Inside M (Chip.islUnitReset p1 p2) := by
  unfold Chip.islUnitReset
  extract_lets +onlyGivenNames x1
  clear_value x1
  extract_lets +onlyGivenNames x2
  clear_value x2
  extract_lets +onlyGivenNames x3
  clear_value x3
  extract_lets +onlyGivenNames x4
  have hx4 : z.Inside M x4 := Chip.set_inside (hM.up rfl) (Chip.set_inside (hM.up rfl) (Chip.resetRange_inside (hM.up rfl) hp1))
  clear_value x4
  refine .ite (Chip.modIsl_inside (hM.up rfl) hx4) ?_
  extract_lets +onlyGivenNames x5
  have hx5 : z.Inside M x5 := Chip.islandReset_inside (hM.up rfl) (Chip.gateAway_inside (hM.up rfl) hx4)
  clear_value x5
  extract_lets +onlyGivenNames x6
  have hx6 : z.Inside M x6 := Chip.modIsl_inside (hM.up rfl) hx5
  clear_value x6
  extract_lets +onlyGivenNames x7
  have hx7 : z.Inside M x7 := .ite hx6 (Chip.islShow_inside (hM.up rfl) hx6)
  clear_value x7
  exact Chip.showFaults_inside (hM.up rfl) (Chip.showNtc_inside (hM.up rfl) (Chip.calibrateDue_inside (hM.up rfl) hx7))

theorem Chip.bufsEnd_inside {z : Chip} {M : ℕ} (hM : Sub 402653254 M) {p1 : Chip} {p2 : ℕ} {p3 : ℕ} (hp1 : z.Inside M p1) : z.Inside M (Chip.bufsEnd p1 p2 p3) := by
  unfold Chip.bufsEnd
  extract_lets +onlyGivenNames x1
  extract_lets +onlyGivenNames x2
  have hx2 : z.Inside M x2 := Chip.modCan_inside (hM.up rfl) hp1
  clear_value x2
  exact .each hx2 (fun a3 t4 ht4 => Chip.bufEnd_inside (hM.up rfl) ht4)

theorem Chip.canReset_inside {z : Chip} {M : ℕ} (hM : Sub 402653254 M) {p1 : Chip} {p2 : ℕ} (hp1 : z.Inside M p1) : z.Inside M (Chip.canReset p1 p2) := by
  unfold Chip.canReset
  extract_lets +onlyGivenNames x1
  extract_lets +onlyGivenNames x2
  have hx2 : z.Inside M x2 := Chip.bufsEnd_inside (hM.up rfl) (Chip.set_inside (hM.up rfl) hp1)
  clear_value x2
  extract_lets +onlyGivenNames x3
  extract_lets +onlyGivenNames x4
  have hx4 : z.Inside M x4 := Chip.modPort_inside (hM.up rfl) hx2
  clear_value x4
  extract_lets +onlyGivenNames x5
  have hx5 : z.Inside M x5 := Chip.modCan_inside (hM.up rfl) (Chip.resetRange_inside (hM.up rfl) hx4)
  clear_value x5
  exact Chip.showBackoff_inside (hM.up rfl) (.each hx5 (fun a6 t7 ht7 => Chip.set_inside (hM.up rfl) ht7))

theorem Chip.msgsDown_inside {z : Chip} {M : ℕ} (hM : Sub 536870978 M) {p1 : Chip} (hp1 : z.Inside M p1) : z.Inside M (Chip.msgsDown p1) := by
  unfold Chip.msgsDown
  exact .each hp1 (fun a1 t2 ht2 => Chip.msgEnd_inside (hM.up rfl) ht2)

theorem Chip.ringReset_inside {z : Chip} {M : ℕ} (hM : Sub 939524166 M) {p1 : Chip} (hp1 : z.Inside M p1) : z.Inside M (Chip.ringReset p1) := by
  unfold Chip.ringReset
  extract_lets +onlyGivenNames x1
  clear_value x1
  extract_lets +onlyGivenNames x2
  have hx2 : z.Inside M x2 := Chip.roleSet_inside (hM.up rfl) (Chip.msgsDown_inside (hM.up rfl) hp1)
  clear_value x2
  exact Chip.modRing_inside (hM.up rfl) (Chip.set_inside (hM.up rfl) (Chip.resetRange_inside (hM.up rfl) hx2))

theorem Chip.unitClear_inside {z : Chip} {M : ℕ} (hM : Sub 940277830 M) {p1 : Chip} {p2 : UnitId} (hp1 : z.Inside M p1) : z.Inside M (Chip.unitClear p1 p2) := by
  unfold Chip.unitClear
  split
  · exact Chip.posUnitReset_inside (hM.up rfl) hp1
  · exact .each hp1 (fun a5 t6 ht6 => Chip.cleUnitReset_inside (hM.up rfl) ht6)
  · exact Chip.sliceUnitReset_inside (hM.up rfl) hp1
  · exact Chip.islUnitReset_inside (hM.up rfl) hp1
  · exact Chip.canReset_inside (hM.up rfl) hp1
  · exact Chip.ringReset_inside (hM.up rfl) hp1

theorem Chip.unitStart_inside {z : Chip} {M : ℕ} (hM : Sub 940277974 M) {p1 : Chip} {p2 : UnitId} (hp1 : z.Inside M p1) : z.Inside M (Chip.unitStart p1 p2) := by
  unfold Chip.unitStart
  refine .ite (Chip.refuse_inside (hM.up rfl) hp1) ?_
  extract_lets +onlyGivenNames x1
  have hx1 : z.Inside M x1 := Chip.unitClear_inside (hM.up rfl) hp1
  clear_value x1
  exact (Chip.Inside.mk_bus (hM.up rfl) hx1)

theorem Chip.cleCtlWrite_inside {z : Chip} {M : ℕ} (hM : Sub 940277974 M) {p1 : Chip} {p2 : ℕ} {p3 : ℕ} (hp1 : z.Inside M p1) : z.Inside M (Chip.cleCtlWrite p1 p2 p3) := by
  unfold Chip.cleCtlWrite
  extract_lets +onlyGivenNames x1
  have hx1 : z.Inside M x1 := .each hp1 (fun a2 t3 ht3 => Chip.feZero_inside (hM.up rfl) (Chip.sets_inside (hM.up rfl) ht3))
  clear_value x1
  extract_lets +onlyGivenNames x4
  have hx4 : z.Inside M x4 := .ite (Chip.cleClr_inside (hM.up rfl) hx1) hx1
  clear_value x4
  exact .ite (Chip.unitStart_inside (hM.up rfl) hx4) hx4

theorem Chip.coefSet_inside {z : Chip} {M : ℕ} (hM : Sub 82 M) {p1 : Chip} {p2 : ℕ} {p3 : ℕ} {p4 : ℕ} (hp1 : z.Inside M p1) : z.Inside M (Chip.coefSet p1 p2 p3 p4) := by
  unfold Chip.coefSet
  refine .ite (Chip.refuse_inside (hM.up rfl) hp1) ?_
  refine .ite (Chip.coefRefused_inside (hM.up rfl) hp1) ?_
  refine .each hp1 ?_
  intro a1 t2 ht2
  extract_lets +onlyGivenNames x3
  have hx3 : z.Inside M x3 := Chip.configWord_inside (hM.up rfl) ht2
  clear_value x3
  exact .ite (Chip.staleCrc_inside (hM.up rfl) hx3) hx3

theorem Chip.listSet_inside {z : Chip} {M : ℕ} (hM : Sub 82 M) {p1 : Chip} {p2 : ℕ} {p3 : ℕ} {p4 : ℕ} (hp1 : z.Inside M p1) : z.Inside M (Chip.listSet p1 p2 p3 p4) := by
  unfold Chip.listSet
  extract_lets +onlyGivenNames x1
  clear_value x1
  exact .ite (Chip.refuse_inside (hM.up rfl) hp1) (.each hp1 (fun a2 t3 ht3 => Chip.listWritten_inside (hM.up rfl) (Chip.configWord_inside (hM.up rfl) ht3)))

theorem Chip.secCfgSet_inside {z : Chip} {M : ℕ} (hM : Sub 82 M) {p1 : Chip} {p2 : ℕ} {p3 : ℕ} {p4 : ℕ} (hp1 : z.Inside M p1) : z.Inside M (Chip.secCfgSet p1 p2 p3 p4) := by
  unfold Chip.secCfgSet
  extract_lets +onlyGivenNames x1
  clear_value x1
  exact .ite (Chip.refuse_inside (hM.up rfl) hp1) (.each hp1 (fun a2 t3 ht3 => Chip.staleCrc_inside (hM.up rfl) (Chip.configWord_inside (hM.up rfl) ht3)))

theorem Chip.clusterWrite_inside {z : Chip} {M : ℕ} (hM : Sub 941339094 M) {p1 : Chip} {p2 : ℕ} {p3 : ℕ} (hp1 : z.Inside M p1) : z.Inside M (Chip.clusterWrite p1 p2 p3) := by
  unfold Chip.clusterWrite
  extract_lets +onlyGivenNames x1
  clear_value x1
  extract_lets +onlyGivenNames x2
  clear_value x2
  refine .ite (Chip.refuse_inside (hM.up rfl) hp1) ?_
  refine .ite (Chip.request_inside (hM.up rfl) hp1) ?_
  refine .ite (.ite (Chip.set_inside (hM.up rfl) hp1) hp1) ?_
  refine .ite (.each hp1 (fun a3 t4 ht4 => Chip.swapBySoftware_inside (hM.up rfl) ht4)) ?_
  refine .ite hp1 ?_
  refine .ite (Chip.cleCtlWrite_inside (hM.up rfl) hp1) ?_
  refine .ite (.each hp1 (fun a5 t6 ht6 => Chip.genericWrite_inside (hM.up rfl) ht6)) ?_
  refine .ite ?_ (.ite (Chip.listSet_inside (hM.up rfl) hp1) (.ite (Chip.coefSet_inside (hM.up rfl) hp1) (.ite (Chip.secCfgSet_inside (hM.up rfl) hp1) (.ite (Chip.coefSet_inside (hM.up rfl) hp1) (Chip.genericWrite_inside (hM.up rfl) hp1)))))
  extract_lets +onlyGivenNames x7
  have hx7 : z.Inside M x7 := Chip.coefSet_inside (hM.up rfl) hp1
  clear_value x7
  exact .ite (.each hx7 (fun a8 t9 ht9 => Chip.feZero_inside (hM.up rfl) ht9)) hx7

theorem Chip.floorSet_inside {z : Chip} {M : ℕ} (hM : Sub 1708370 M) {p1 : Chip} {p2 : ℕ} {p3 : ℕ} (hp1 : z.Inside M p1) : z.Inside M (Chip.floorSet p1 p2 p3) := by
  unfold Chip.floorSet
  extract_lets +onlyGivenNames x1
  clear_value x1
  exact .ite (Chip.refuse_inside (hM.up rfl) hp1) (Chip.checkSlice_inside (hM.up rfl) (Chip.put_inside (hM.up rfl) (Chip.set_inside (hM.up rfl) hp1)))

theorem Chip.sliceRun_inside {z : Chip} {M : ℕ} (hM : Sub 131072 M) {p1 : Chip} {p2 : ℕ} (hp1 : z.Inside M p1) : z.Inside M (Chip.sliceRun p1 p2) := by
  unfold Chip.sliceRun
  exact .ite (Chip.modSlice_inside (hM.up rfl) hp1) hp1

theorem Chip.sliceStop_inside {z : Chip} {M : ℕ} (hM : Sub 131072 M) {p1 : Chip} {p2 : ℕ} (hp1 : z.Inside M p1) : z.Inside M (Chip.sliceStop p1 p2) := by
  unfold Chip.sliceStop
  exact .ite (Chip.modSlice_inside (hM.up rfl) hp1) hp1

theorem Chip.keepOld_inside {z : Chip} {M : ℕ} (hM : Sub 131072 M) {p1 : Chip} {p2 : ℕ} {p3 : ℕ} (hp1 : z.Inside M p1) : z.Inside M (Chip.keepOld p1 p2 p3) := by
  unfold Chip.keepOld
  exact Chip.modSlice_inside (hM.up rfl) hp1

theorem Chip.sliceSet_inside {z : Chip} {M : ℕ} (hM : Sub 1708370 M) {p1 : Chip} {p2 : ℕ} {p3 : ℕ} {p4 : ℕ} (hp1 : z.Inside M p1) : z.Inside M (Chip.sliceSet p1 p2 p3 p4) := by
  unfold Chip.sliceSet
  extract_lets +onlyGivenNames x1
  clear_value x1
  extract_lets +onlyGivenNames x2
  have hx2 : z.Inside M x2 := .ite (Chip.keepOld_inside (hM.up rfl) hp1) hp1
  clear_value x2
  extract_lets +onlyGivenNames x3
  have hx3 : z.Inside M x3 := Chip.genericWrite_inside (hM.up rfl) hx2
  clear_value x3
  extract_lets +onlyGivenNames x4
  have hx4 : z.Inside M x4 := .ite (Chip.put_inside (hM.up rfl) hx3) hx3
  clear_value x4
  extract_lets +onlyGivenNames x5
  have hx5 : z.Inside M x5 := .ite (Chip.put_inside (hM.up rfl) hx4) hx4
  clear_value x5
  extract_lets +onlyGivenNames x6
  have hx6 : z.Inside M x6 := .ite (Chip.syncCheck_inside (hM.up rfl) hx5) hx5
  clear_value x6
  exact .ite (Chip.recheck_inside (hM.up rfl) hx6) hx6

theorem Chip.keepHold_inside {z : Chip} {M : ℕ} (hM : Sub 262144 M) {p1 : Chip} (hp1 : z.Inside M p1) : z.Inside M (Chip.keepHold p1) := by
  unfold Chip.keepHold
  exact .ite hp1 (Chip.Inside.mk_pwmG (hM.up rfl) hp1)

theorem Chip.holdWrite_inside {z : Chip} {M : ℕ} (hM : Sub 262146 M) {p1 : Chip} {p2 : ℕ} {p3 : Bool} (hp1 : z.Inside M p1) : z.Inside M (Chip.holdWrite p1 p2 p3) := by
  unfold Chip.holdWrite
  extract_lets +onlyGivenNames x1
  have hx1 : z.Inside M x1 := Chip.keepHold_inside (hM.up rfl) hp1
  clear_value x1
  extract_lets +onlyGivenNames x2
  clear_value x2
  extract_lets +onlyGivenNames x3
  clear_value x3
  exact Chip.set_inside (hM.up rfl) hx1

theorem Chip.xhizRelease_inside {z : Chip} {M : ℕ} (hM : Sub 2 M) {p1 : Chip} (hp1 : z.Inside M p1) : z.Inside M (Chip.xhizRelease p1) := by
  unfold Chip.xhizRelease
  exact .ite hp1 (Chip.put_inside (hM.up rfl) hp1)

theorem Chip.pwmWrite_inside {z : Chip} {M : ℕ} (hM : Sub 941593046 M) {p1 : Chip} {p2 : ℕ} {p3 : ℕ} (hp1 : z.Inside M p1) : z.Inside M (Chip.pwmWrite p1 p2 p3) := by
  unfold Chip.pwmWrite
  extract_lets +onlyGivenNames x1
  clear_value x1
  extract_lets +onlyGivenNames x2
  clear_value x2
  refine .ite ?_ (.ite (Chip.genericWrite_inside (hM.up rfl) (Chip.keepHold_inside (hM.up rfl) hp1)) (.ite (Chip.holdWrite_inside (hM.up rfl) hp1) (.ite (Chip.holdWrite_inside (hM.up rfl) hp1) (.ite (.each hp1 (fun a5 t6 ht6 => Chip.sliceRun_inside (hM.up rfl) ht6)) (.ite (.ite (Chip.xhizRelease_inside (hM.up rfl) hp1) hp1) (Chip.genericWrite_inside (hM.up rfl) hp1))))))
  refine .ite (Chip.floorSet_inside (hM.up rfl) hp1) ?_
  refine .ite ?_ (Chip.sliceSet_inside (hM.up rfl) hp1)
  extract_lets +onlyGivenNames x3
  have hx3 : z.Inside M x3 := .ite (Chip.sliceRun_inside (hM.up rfl) hp1) hp1
  clear_value x3
  extract_lets +onlyGivenNames x4
  have hx4 : z.Inside M x4 := .ite (Chip.sliceStop_inside (hM.up rfl) hx3) hx3
  clear_value x4
  exact .ite (Chip.unitStart_inside (hM.up rfl) hx4) hx4

theorem Chip.leakStart_inside {z : Chip} {M : ℕ} (hM : Sub 524370 M) {p1 : Chip} {p2 : ℕ} (hp1 : z.Inside M p1) : z.Inside M (Chip.leakStart p1 p2) := by
  unfold Chip.leakStart
  extract_lets +onlyGivenNames x1
  clear_value x1
  extract_lets +onlyGivenNames x2
  clear_value x2
  exact .ite (Chip.sets_inside (hM.up rfl) (Chip.islShow_inside (hM.up rfl) hp1)) (Chip.refuse_inside (hM.up rfl) hp1)

theorem Chip.islCtlWrite_inside {z : Chip} {M : ℕ} (hM : Sub 941330902 M) {p1 : Chip} {p2 : ℕ} {p3 : ℕ} (hp1 : z.Inside M p1) : z.Inside M (Chip.islCtlWrite p1 p2 p3) := by
  unfold Chip.islCtlWrite
  extract_lets +onlyGivenNames x1
  have hx1 : z.Inside M x1 := Chip.clearIsland_inside (hM.up rfl) hp1
  clear_value x1
  extract_lets +onlyGivenNames x2
  have hx2 : z.Inside M x2 := by
    unfold x2
    refine .ite ?_ hp1
    split
    · exact Chip.tryLeaveSafe_inside (hM.up rfl) hx1
    · exact hx1
  clear_value x2
  extract_lets +onlyGivenNames x7
  have hx7 : z.Inside M x7 := .ite (Chip.leakStart_inside (hM.up rfl) hx2) hx2
  clear_value x7
  exact .ite (Chip.unitStart_inside (hM.up rfl) hx7) hx7

theorem Chip.mirrorSet_inside {z : Chip} {M : ℕ} (hM : Sub 524370 M) {p1 : Chip} {p2 : ℕ} {p3 : ℕ} {p4 : ℕ} (hp1 : z.Inside M p1) : z.Inside M (Chip.mirrorSet p1 p2 p3 p4) := by
  unfold Chip.mirrorSet
  extract_lets +onlyGivenNames x1
  clear_value x1
  exact .ite (.ite (Chip.refuse_inside (hM.up rfl) hp1) (.ite (Chip.refuse_inside (hM.up rfl) hp1) (Chip.islCfgDone_inside (hM.up rfl) (Chip.genericWrite_inside (hM.up rfl) hp1)))) (.ite (Chip.mirrorDirty_inside (hM.up rfl) (Chip.genericWrite_inside (hM.up rfl) hp1)) (.ite (Chip.mirrorDirty_inside (hM.up rfl) (Chip.genericWrite_inside (hM.up rfl) hp1)) (Chip.refuse_inside (hM.up rfl) hp1)))

theorem Chip.islWrite_inside {z : Chip} {M : ℕ} (hM : Sub 941330902 M) {p1 : Chip} {p2 : ℕ} {p3 : ℕ} (hp1 : z.Inside M p1) : z.Inside M (Chip.islWrite p1 p2 p3) := by
  unfold Chip.islWrite
  extract_lets +onlyGivenNames x1
  clear_value x1
  extract_lets +onlyGivenNames x2
  clear_value x2
  exact .ite (.ite (Chip.islCtlWrite_inside (hM.up rfl) hp1) (.ite (Chip.mirrorSet_inside (hM.up rfl) hp1) (Chip.genericWrite_inside (hM.up rfl) hp1))) (Chip.xfmrUpdate_inside (hM.up rfl) (Chip.genericWrite_inside (hM.up rfl) hp1))

theorem Chip.posSnap_inside {z : Chip} {M : ℕ} (hM : Sub 32770 M) {p1 : Chip} {p2 : ℕ} (hp1 : z.Inside M p1) : z.Inside M (Chip.posSnap p1 p2) := by
  unfold Chip.posSnap
  exact Chip.sets_inside (hM.up rfl) (Chip.modPos_inside (hM.up rfl) hp1)

theorem Chip.posClrTot_inside {z : Chip} {M : ℕ} (hM : Sub 2 M) {p1 : Chip} {p2 : ℕ} (hp1 : z.Inside M p1) : z.Inside M (Chip.posClrTot p1 p2) := by
  unfold Chip.posClrTot
  exact Chip.sets_inside (hM.up rfl) hp1

theorem Chip.posOk_inside {z : Chip} {M : ℕ} (hM : Sub 32770 M) {p1 : Chip} {p2 : ℕ} (hp1 : z.Inside M p1) : z.Inside M (Chip.posOk p1 p2) := by
  unfold Chip.posOk
  extract_lets +onlyGivenNames x1
  have hx1 : z.Inside M x1 := Chip.set_inside (hM.up rfl) (Chip.modPos_inside (hM.up rfl) hp1)
  clear_value x1
  exact .ite hx1 (Chip.put_inside (hM.up rfl) (Chip.put_inside (hM.up rfl) hx1))

theorem Chip.posRearm_inside {z : Chip} {M : ℕ} (hM : Sub 32850 M) {p1 : Chip} {p2 : ℕ} (hp1 : z.Inside M p1) : z.Inside M (Chip.posRearm p1 p2) := by
  unfold Chip.posRearm
  extract_lets +onlyGivenNames x1
  clear_value x1
  refine .ite (Chip.refuse_inside (hM.up rfl) hp1) ?_
  extract_lets +onlyGivenNames x2
  have hx2 : z.Inside M x2 := Chip.modPos_inside (hM.up rfl) (Chip.set_inside (hM.up rfl) hp1)
  clear_value x2
  exact .ite (Chip.posOk_inside (hM.up rfl) hx2) hx2

theorem Chip.posCtlWrite_inside {z : Chip} {M : ℕ} (hM : Sub 940277974 M) {p1 : Chip} {p2 : ℕ} {p3 : ℕ} (hp1 : z.Inside M p1) : z.Inside M (Chip.posCtlWrite p1 p2 p3) := by
  unfold Chip.posCtlWrite
  extract_lets +onlyGivenNames x1
  have hx1 : z.Inside M x1 := .ite (Chip.posSnap_inside (hM.up rfl) hp1) hp1
  clear_value x1
  extract_lets +onlyGivenNames x2
  have hx2 : z.Inside M x2 := .ite (Chip.posClrTot_inside (hM.up rfl) hx1) hx1
  clear_value x2
  extract_lets +onlyGivenNames x3
  have hx3 : z.Inside M x3 := .ite (Chip.posRearm_inside (hM.up rfl) hx2) hx2
  clear_value x3
  exact .ite (Chip.unitStart_inside (hM.up rfl) hx3) hx3

theorem Chip.posWrite_inside {z : Chip} {M : ℕ} (hM : Sub 940277974 M) {p1 : Chip} {p2 : ℕ} {p3 : ℕ} (hp1 : z.Inside M p1) : z.Inside M (Chip.posWrite p1 p2 p3) := by
  unfold Chip.posWrite
  extract_lets +onlyGivenNames x1
  clear_value x1
  extract_lets +onlyGivenNames x2
  clear_value x2
  refine .ite (.ite (Chip.posCfgSet_inside (hM.up rfl) hp1) (Chip.refuse_inside (hM.up rfl) hp1)) ?_
  refine .ite (Chip.posCtlWrite_inside (hM.up rfl) hp1) ?_
  refine .ite ?_ (Chip.genericWrite_inside (hM.up rfl) hp1)
  extract_lets +onlyGivenNames x3
  have hx3 : z.Inside M x3 := Chip.genericWrite_inside (hM.up rfl) hp1
  clear_value x3
  exact .ite hx3 (Chip.modPos_inside (hM.up rfl) hx3)

theorem Chip.ctrWrite_inside {z : Chip} {M : ℕ} (hM : Sub 1048578 M) {p1 : Chip} {p2 : ℕ} (hp1 : z.Inside M p1) : z.Inside M (Chip.ctrWrite p1 p2) := by
  unfold Chip.ctrWrite
  extract_lets +onlyGivenNames x1
  have hx1 : z.Inside M x1 := .ite (Chip.put_inside (hM.up rfl) hp1) hp1
  clear_value x1
  extract_lets +onlyGivenNames x2
  have hx2 : z.Inside M x2 := Chip.sets_inside (hM.up rfl) hx1
  clear_value x2
  extract_lets +onlyGivenNames x3
  have hx3 : z.Inside M x3 := .ite hx2 (Chip.put_inside (hM.up rfl) hx2)
  clear_value x3
  extract_lets +onlyGivenNames x4
  extract_lets +onlyGivenNames x5
  have hx5 : z.Inside M x5 := (Chip.Inside.mk_safe (hM.up rfl) hx3)
  clear_value x5
  exact Chip.applyContactors_inside (hM.up rfl) hx5

theorem Chip.resistor_inside {z : Chip} {M : ℕ} (hM : Sub 1179650 M) {p1 : Chip} {p2 : Bool} (hp1 : z.Inside M p1) : z.Inside M (Chip.resistor p1 p2) := by
  unfold Chip.resistor
  refine .ite ?_ (Chip.Inside.mk_safe (hM.up rfl) hp1)
  extract_lets +onlyGivenNames x1
  clear_value x1
  exact .ite (Chip.setOvr_inside (hM.up rfl) hp1) hp1

theorem Chip.disEnd_inside {z : Chip} {M : ℕ} (hM : Sub 1179650 M) {p1 : Chip} {p2 : ℕ} {p3 : ℕ} (hp1 : z.Inside M p1) : z.Inside M (Chip.disEnd p1 p2 p3) := by
  unfold Chip.disEnd
  extract_lets +onlyGivenNames x1
  have hx1 : z.Inside M x1 := .ite (Chip.resistor_inside (hM.up rfl) hp1) hp1
  clear_value x1
  extract_lets +onlyGivenNames x2
  have hx2 : z.Inside M x2 := Chip.set_inside (hM.up rfl) (Chip.set_inside (hM.up rfl) hx1)
  clear_value x2
  exact Chip.applyContactors_inside (hM.up rfl) hx2

theorem Chip.disCheck_inside {z : Chip} {M : ℕ} (hM : Sub 1708354 M) {p1 : Chip} (hp1 : z.Inside M p1) : z.Inside M (Chip.disCheck p1) := by
  unfold Chip.disCheck
  refine .ite ?_ hp1
  extract_lets +onlyGivenNames x1
  have hx1 : z.Inside M x1 := .each hp1 (fun a2 t3 ht3 => Chip.endWdis_inside (hM.up rfl) ht3)
  clear_value x1
  exact Chip.put_inside (hM.up rfl) (Chip.disEnd_inside (hM.up rfl) hx1)

theorem Chip.disResistor_inside {z : Chip} {M : ℕ} (hM : Sub 1708354 M) {p1 : Chip} {p2 : ℕ} (hp1 : z.Inside M p1) : z.Inside M (Chip.disResistor p1 p2) := by
  unfold Chip.disResistor
  extract_lets +onlyGivenNames x1
  have hx1 : z.Inside M x1 := Chip.resistor_inside (hM.up rfl) (Chip.set_inside (hM.up rfl) hp1)
  clear_value x1
  extract_lets +onlyGivenNames x2
  have hx2 : z.Inside M x2 := .ite hx1 (Chip.note_inside (hM.up rfl) hx1)
  clear_value x2
  exact Chip.disCheck_inside (hM.up rfl) hx2

theorem Chip.disStartNow_inside {z : Chip} {M : ℕ} (hM : Sub 1814866 M) {p1 : Chip} (hp1 : z.Inside M p1) : z.Inside M (Chip.disStartNow p1) := by
  unfold Chip.disStartNow
  extract_lets +onlyGivenNames x1
  clear_value x1
  extract_lets +onlyGivenNames x2
  have hx2 : ∀ w3, z.Inside M (x2 w3) := fun w3 => Chip.sets_inside (hM.up rfl) hp1
  clear_value x2
  refine .ite hp1 ?_
  refine .ite (hx2 _) ?_
  refine .ite (hx2 _) ?_
  extract_lets +onlyGivenNames x4
  extract_lets +onlyGivenNames x5
  have hx5 : z.Inside M x5 := (Chip.Inside.mk_safe (hM.up rfl) hp1)
  clear_value x5
  extract_lets +onlyGivenNames x6
  have hx6 : z.Inside M x6 := Chip.sets_inside (hM.up rfl) hx5
  clear_value x6
  refine .ite (Chip.disResistor_inside (hM.up rfl) hx6) ?_
  extract_lets +onlyGivenNames x7
  clear_value x7
  extract_lets +onlyGivenNames x8
  have hx8 : z.Inside M x8 := Chip.request_inside (hM.up rfl) hx6
  clear_value x8
  exact .ite (Chip.disCheck_inside (hM.up rfl) hx8) (Chip.disResistor_inside (hM.up rfl) hx8)

theorem Chip.faultEvery_inside {z : Chip} {M : ℕ} (hM : Sub 1708354 M) {p1 : Chip} {p2 : ℕ} {p3 : ℕ} {p4 : ℕ} (hp1 : z.Inside M p1) : z.Inside M (Chip.faultEvery p1 p2 p3 p4) := by
  unfold Chip.faultEvery
  exact Chip.faultAll_inside (hM.up rfl) hp1

theorem Chip.disAbort_inside {z : Chip} {M : ℕ} (hM : Sub 1708354 M) {p1 : Chip} (hp1 : z.Inside M p1) : z.Inside M (Chip.disAbort p1) := by
  unfold Chip.disAbort
  exact .ite (Chip.faultEvery_inside (hM.up rfl) (Chip.put_inside (hM.up rfl) (Chip.disEnd_inside (hM.up rfl) hp1))) hp1

theorem Chip.disWrite_inside {z : Chip} {M : ℕ} (hM : Sub 1814866 M) {p1 : Chip} {p2 : ℕ} (hp1 : z.Inside M p1) : z.Inside M (Chip.disWrite p1 p2) := by
  unfold Chip.disWrite
  extract_lets +onlyGivenNames x1
  have hx1 : z.Inside M x1 := Chip.genericWrite_inside (hM.up rfl) hp1
  clear_value x1
  extract_lets +onlyGivenNames x2
  have hx2 : z.Inside M x2 := .ite (Chip.disStartNow_inside (hM.up rfl) hx1) hx1
  clear_value x2
  exact .ite (Chip.disAbort_inside (hM.up rfl) hx2) hx2

theorem Chip.chopper_inside {z : Chip} {M : ℕ} (hM : Sub 131074 M) {p1 : Chip} {p2 : Bool} (hp1 : z.Inside M p1) : z.Inside M (Chip.chopper p1 p2) := by
  unfold Chip.chopper
  extract_lets +onlyGivenNames x1
  have hx1 : z.Inside M x1 := Chip.put_inside (hM.up rfl) (Chip.put_inside (hM.up rfl) hp1)
  clear_value x1
  split
  · exact Chip.setOvr_inside (hM.up rfl) hx1
  · exact hx1

theorem Chip.chopStart_inside {z : Chip} {M : ℕ} (hM : Sub 1179650 M) {p1 : Chip} {p2 : Bool} (hp1 : z.Inside M p1) : z.Inside M (Chip.chopStart p1 p2) := by
  unfold Chip.chopStart
  extract_lets +onlyGivenNames x1
  have hx1 : z.Inside M x1 := Chip.chopper_inside (hM.up rfl) hp1
  clear_value x1
  exact (Chip.Inside.mk_safe (hM.up rfl) hx1)

theorem Chip.chopTest_inside {z : Chip} {M : ℕ} (hM : Sub 1179650 M) {p1 : Chip} (hp1 : z.Inside M p1) : z.Inside M (Chip.chopTest p1) := by
  unfold Chip.chopTest
  refine .ite hp1 ?_
  refine .ite (Chip.set_inside (hM.up rfl) hp1) ?_
  extract_lets +onlyGivenNames x1
  have hx1 : z.Inside M x1 := .ite hp1 (Chip.count_inside (hM.up rfl) hp1)
  clear_value x1
  exact Chip.put_inside (hM.up rfl) (Chip.chopStart_inside (hM.up rfl) hx1)

theorem Chip.ss1Begin_inside {z : Chip} {M : ℕ} (hM : Sub 1814866 M) {p1 : Chip} {p2 : ℕ} (hp1 : z.Inside M p1) : z.Inside M (Chip.ss1Begin p1 p2) := by
  unfold Chip.ss1Begin
  refine .ite hp1 ?_
  extract_lets +onlyGivenNames x1
  have hx1 : z.Inside M x1 := Chip.modCl_inside (hM.up rfl) (Chip.put_inside (hM.up rfl) hp1)
  clear_value x1
  exact Chip.request_inside (hM.up rfl) hx1

theorem Chip.pcRelease_inside {z : Chip} {M : ℕ} (hM : Sub 135234 M) {p1 : Chip} {p2 : ℕ} (hp1 : z.Inside M p1) : z.Inside M (Chip.pcRelease p1 p2) := by
  unfold Chip.pcRelease
  exact Chip.refreshHold_inside (hM.up rfl) (Chip.put_inside (hM.up rfl) hp1)

theorem Chip.pcWrite_inside {z : Chip} {M : ℕ} (hM : Sub 1814866 M) {p1 : Chip} {p2 : ℕ} {p3 : ℕ} (hp1 : z.Inside M p1) : z.Inside M (Chip.pcWrite p1 p2 p3) := by
  unfold Chip.pcWrite
  extract_lets +onlyGivenNames x1
  have hx1 : z.Inside M x1 := Chip.set_inside (hM.up rfl) hp1
  clear_value x1
  extract_lets +onlyGivenNames x2
  have hx2 : z.Inside M x2 := .ite (Chip.ss1Begin_inside (hM.up rfl) hx1) hx1
  clear_value x2
  extract_lets +onlyGivenNames x3
  have hx3 : z.Inside M x3 := .ite (Chip.pcSto_inside (hM.up rfl) hx2) hx2
  clear_value x3
  exact .ite (Chip.pcRelease_inside (hM.up rfl) hx3) hx3

theorem Chip.refreshHolds_inside {z : Chip} {M : ℕ} (hM : Sub 135234 M) {p1 : Chip} (hp1 : z.Inside M p1) : z.Inside M (Chip.refreshHolds p1) := by
  unfold Chip.refreshHolds
  exact .each hp1 (fun a1 t2 ht2 => Chip.refreshHold_inside (hM.up rfl) ht2)

theorem Chip.standAll_inside {z : Chip} {M : ℕ} (hM : Sub 1708354 M) {p1 : Chip} (hp1 : z.Inside M p1) : z.Inside M (Chip.standAll p1) := by
  unfold Chip.standAll
  extract_lets +onlyGivenNames x1
  exact Chip.refreshHolds_inside (hM.up rfl) (Chip.cmpDemands_inside (hM.up rfl) (.ite hp1 (Chip.faultAll_inside (hM.up rfl) hp1)))

theorem Chip.showDisc_inside {z : Chip} {M : ℕ} (hM : Sub 1048578 M) {p1 : Chip} (hp1 : z.Inside M p1) : z.Inside M (Chip.showDisc p1) := by
  unfold Chip.showDisc
  extract_lets +onlyGivenNames x1
  clear_value x1
  extract_lets +onlyGivenNames x2
  extract_lets +onlyGivenNames x3
  have hx3 : z.Inside M x3 := .ite (Chip.Inside.mk_safe (hM.up rfl) hp1) hp1
  clear_value x3
  exact Chip.put_inside (hM.up rfl) hx3

theorem Chip.ctrJudge_inside {z : Chip} {M : ℕ} (hM : Sub 66 M) {p1 : Chip} (hp1 : z.Inside M p1) : z.Inside M (Chip.ctrJudge p1) := by
  unfold Chip.ctrJudge
  extract_lets +onlyGivenNames x1
  clear_value x1
  extract_lets +onlyGivenNames x2
  have hx2 : z.Inside M x2 := .ite (Chip.record_inside (hM.up rfl) (Chip.put_inside (hM.up rfl) hp1)) hp1
  clear_value x2
  exact Chip.put_inside (hM.up rfl) hx2

theorem Chip.ctrNote_inside {z : Chip} {M : ℕ} (hM : Sub 66 M) {p1 : Chip} {p2 : ℕ} {p3 : Bool} (hp1 : z.Inside M p1) : z.Inside M (Chip.ctrNote p1 p2 p3) := by
  unfold Chip.ctrNote
  exact Chip.note_inside (hM.up rfl) (Chip.put_inside (hM.up rfl) hp1)

theorem Chip.ctrCompare_inside {z : Chip} {M : ℕ} (hM : Sub 1048642 M) {p1 : Chip} {p2 : Bool} (hp1 : z.Inside M p1) : z.Inside M (Chip.ctrCompare p1 p2) := by
  unfold Chip.ctrCompare
  extract_lets +onlyGivenNames x1
  clear_value x1
  extract_lets +onlyGivenNames x2
  clear_value x2
  extract_lets +onlyGivenNames x3
  extract_lets +onlyGivenNames x4
  refine .ite hp1 ?_
  refine .ite ?_ (.ite (Chip.ctrNote_inside (hM.up rfl) (Chip.put_inside (hM.up rfl) hp1)) hp1)
  refine .ite ?_ hp1
  extract_lets +onlyGivenNames x5
  have hx5 : z.Inside M x5 := Chip.put_inside (hM.up rfl) (Chip.put_inside (hM.up rfl) hp1)
  clear_value x5
  exact .ite hx5 (Chip.Inside.mk_safe (hM.up rfl) hx5)

theorem Chip.ctrWatch_inside {z : Chip} {M : ℕ} (hM : Sub 1814866 M) {p1 : Chip} {p2 : Bool} (hp1 : z.Inside M p1) : z.Inside M (Chip.ctrWatch p1 p2) := by
  unfold Chip.ctrWatch
  refine .ite hp1 ?_
  extract_lets +onlyGivenNames x1
  have hx1 : z.Inside M x1 := .ite (Chip.disAbort_inside (hM.up rfl) hp1) hp1
  clear_value x1
  extract_lets +onlyGivenNames x2
  have hx2 : z.Inside M x2 := Chip.ctrJudge_inside (hM.up rfl) (Chip.ctrCompare_inside (hM.up rfl) (Chip.ctrCompare_inside (hM.up rfl) hx1))
  clear_value x2
  refine .ite ?_ hx2
  extract_lets +onlyGivenNames x3
  extract_lets +onlyGivenNames x4
  have hx4 : z.Inside M x4 := (Chip.Inside.mk_safe (hM.up rfl) hx2)
  clear_value x4
  exact .ite (Chip.disStartNow_inside (hM.up rfl) hx4) hx4

theorem Chip.ctrFeedback_inside {z : Chip} {M : ℕ} (hM : Sub 1814866 M) {p1 : Chip} {p2 : Bool} {p3 : Bool} (hp1 : z.Inside M p1) : z.Inside M (Chip.ctrFeedback p1 p2 p3) := by
  unfold Chip.ctrFeedback
  extract_lets +onlyGivenNames x1
  exact .ite hp1 (Chip.ctrWatch_inside (hM.up rfl) (Chip.put_inside (hM.up rfl) hp1))

theorem Chip.ctrPin_inside {z : Chip} {M : ℕ} (hM : Sub 1814866 M) {p1 : Chip} {p2 : Bool} (hp1 : z.Inside M p1) : z.Inside M (Chip.ctrPin p1 p2) := by
  unfold Chip.ctrPin
  exact Chip.ctrFeedback_inside (hM.up rfl) hp1

theorem Chip.ctrLook_inside {z : Chip} {M : ℕ} (hM : Sub 1814866 M) {p1 : Chip} (hp1 : z.Inside M p1) : z.Inside M (Chip.ctrLook p1) := by
  unfold Chip.ctrLook
  exact Chip.ctrWatch_inside (hM.up rfl) (Chip.ctrPin_inside (hM.up rfl) (Chip.ctrPin_inside (hM.up rfl) hp1))

theorem Chip.chopMoved_inside {z : Chip} {M : ℕ} (hM : Sub 131074 M) {p1 : Chip} {p2 : Chip} (hp1 : z.Inside M p1) (hp2 : z.Inside M p2) : z.Inside M (Chip.chopMoved p1 p2) := by
  unfold Chip.chopMoved
  refine .ite hp2 ?_
  extract_lets +onlyGivenNames x1
  have hx1 : z.Inside M x1 := by
    unfold x1
    split
    · exact Chip.setOvr_inside (hM.up rfl) hp2
    · exact hp2
  clear_value x1
  exact Chip.chopper_inside (hM.up rfl) hx1

theorem Chip.safeWrite_inside {z : Chip} {M : ℕ} (hM : Sub 1814866 M) {p1 : Chip} {p2 : ℕ} {p3 : ℕ} (hp1 : z.Inside M p1) : z.Inside M (Chip.safeWrite p1 p2 p3) := by
  unfold Chip.safeWrite
  extract_lets +onlyGivenNames x1
  clear_value x1
  exact .ite (Chip.ctrWrite_inside (hM.up rfl) hp1) (.ite (Chip.disWrite_inside (hM.up rfl) hp1) (.ite (.ite (Chip.chopTest_inside (hM.up rfl) hp1) hp1) (.ite (Chip.pcWrite_inside (hM.up rfl) hp1) (.ite (Chip.standAll_inside (hM.up rfl) (Chip.showDisc_inside (hM.up rfl) (Chip.genericWrite_inside (hM.up rfl) hp1))) (.ite (Chip.ctrLook_inside (hM.up rfl) (Chip.genericWrite_inside (hM.up rfl) hp1)) (.ite (Chip.chopMoved_inside (hM.up rfl) hp1 (Chip.genericWrite_inside (hM.up rfl) hp1)) (.ite (Chip.showVdc_inside (hM.up rfl) (Chip.genericWrite_inside (hM.up rfl) hp1)) (.ite (Chip.standAll_inside (hM.up rfl) (Chip.showVdc_inside (hM.up rfl) (Chip.showOv3_inside (hM.up rfl) (Chip.genericWrite_inside (hM.up rfl) hp1)))) (Chip.refreshHolds_inside (hM.up rfl) (Chip.genericWrite_inside (hM.up rfl) hp1))))))))))

theorem Chip.modLedger_inside {z : Chip} {M : ℕ} (hM : Sub 2097152 M) {p1 : Chip} {p2 : ℕ} {p3 : LedgerS → LedgerS} (hp1 : z.Inside M p1) : z.Inside M (Chip.modLedger p1 p2 p3) := by
  unfold Chip.modLedger
  exact Chip.modChm_inside (hM.up rfl) hp1

theorem Chip.ledStart_inside {z : Chip} {M : ℕ} (hM : Sub 2097152 M) {p1 : Chip} {p2 : ℕ} (hp1 : z.Inside M p1) : z.Inside M (Chip.ledStart p1 p2) := by
  unfold Chip.ledStart
  exact .ite (Chip.modLedger_inside (hM.up rfl) hp1) hp1

theorem Chip.ledSubmit_inside {z : Chip} {M : ℕ} (hM : Sub 2097218 M) {p1 : Chip} {p2 : ℕ} (hp1 : z.Inside M p1) : z.Inside M (Chip.ledSubmit p1 p2) := by
  unfold Chip.ledSubmit
  exact .ite (Chip.ledStart_inside (hM.up rfl) (Chip.submitWrite_inside (hM.up rfl) hp1)) hp1

theorem Chip.limitCl_inside {z : Chip} {M : ℕ} (hM : Sub 66 M) {p1 : Chip} {p2 : ℕ} {p3 : ℕ} {p4 : ℕ} {p5 : ℕ} (hp1 : z.Inside M p1) : z.Inside M (Chip.limitCl p1 p2 p3 p4 p5) := by
  unfold Chip.limitCl
  exact Chip.record_inside (hM.up rfl) hp1

theorem Chip.showLim_inside {z : Chip} {M : ℕ} (hM : Sub 2 M) {p1 : Chip} {p2 : ℕ} (hp1 : z.Inside M p1) : z.Inside M (Chip.showLim p1 p2) := by
  unfold Chip.showLim
  extract_lets +onlyGivenNames x1
  clear_value x1
  exact Chip.set_inside (hM.up rfl) hp1

theorem Chip.windJudge_inside {z : Chip} {M : ℕ} (hM : Sub 66 M) {p1 : Chip} {p2 : ℕ} (hp1 : z.Inside M p1) : z.Inside M (Chip.windJudge p1 p2) := by
  unfold Chip.windJudge
  extract_lets +onlyGivenNames x1
  clear_value x1
  extract_lets +onlyGivenNames x2
  clear_value x2
  extract_lets +onlyGivenNames x3
  have hx3 : z.Inside M x3 := .ite (Chip.put_inside (hM.up rfl) hp1) (.ite (Chip.limitCl_inside (hM.up rfl) (Chip.put_inside (hM.up rfl) (Chip.put_inside (hM.up rfl) hp1))) hp1)
  clear_value x3
  exact Chip.showLim_inside (hM.up rfl) hx3

theorem Chip.chmWrite_inside {z : Chip} {M : ℕ} (hM : Sub 2097234 M) {p1 : Chip} {p2 : ℕ} {p3 : ℕ} (hp1 : z.Inside M p1) : z.Inside M (Chip.chmWrite p1 p2 p3) := by
  unfold Chip.chmWrite
  refine .ite (.ite (.each hp1 (fun a1 t2 ht2 => Chip.ledSubmit_inside (hM.up rfl) ht2)) hp1) ?_
  refine .ite ?_ (Chip.genericWrite_inside (hM.up rfl) hp1)
  extract_lets +onlyGivenNames x3
  clear_value x3
  exact Chip.showLearn_inside (hM.up rfl) (Chip.windJudge_inside (hM.up rfl) (Chip.genericWrite_inside (hM.up rfl) hp1))

theorem Chip.canModeSet_inside {z : Chip} {M : ℕ} (hM : Sub 402653254 M) {p1 : Chip} {p2 : ℕ} {p3 : ℕ} (hp1 : z.Inside M p1) : z.Inside M (Chip.canModeSet p1 p2 p3) := by
  unfold Chip.canModeSet
  extract_lets +onlyGivenNames x1
  clear_value x1
  refine .ite hp1 ?_
  extract_lets +onlyGivenNames x2
  have hx2 : z.Inside M x2 := Chip.set_inside (hM.up rfl) hp1
  clear_value x2
  extract_lets +onlyGivenNames x3
  clear_value x3
  extract_lets +onlyGivenNames x4
  have hx4 : z.Inside M x4 := .each hx2 (fun a5 t6 ht6 => Chip.bufEnd_inside (hM.up rfl) ht6)
  clear_value x4
  extract_lets +onlyGivenNames x7
  have hx7 : z.Inside M x7 := .ite (Chip.bufsEnd_inside (hM.up rfl) hx2) (.ite (Chip.modCan_inside (hM.up rfl) hx4) hx4)
  clear_value x7
  exact .ite (Chip.modCan_inside (hM.up rfl) (Chip.put_inside (hM.up rfl) hx7)) (.ite (Chip.put_inside (hM.up rfl) hx7) (Chip.porchLoad_inside (hM.up rfl) hx7))

theorem Chip.rxPop_inside {z : Chip} {M : ℕ} (hM : Sub 134217730 M) {p1 : Chip} {p2 : ℕ} (hp1 : z.Inside M p1) : z.Inside M (Chip.rxPop p1 p2) := by
  unfold Chip.rxPop
  extract_lets +onlyGivenNames x1
  have hx1 : z.Inside M x1 := Chip.modCan_inside (hM.up rfl) hp1
  clear_value x1
  exact Chip.set_inside (hM.up rfl) hx1

theorem Chip.hpTake_inside {z : Chip} {M : ℕ} (hM : Sub 134217730 M) {p1 : Chip} {p2 : ℕ} (hp1 : z.Inside M p1) : z.Inside M (Chip.hpTake p1 p2) := by
  unfold Chip.hpTake
  extract_lets +onlyGivenNames x1
  have hx1 : z.Inside M x1 := Chip.modCan_inside (hM.up rfl) hp1
  clear_value x1
  exact Chip.put_inside (hM.up rfl) hx1

theorem Chip.recWrite_inside {z : Chip} {M : ℕ} (hM : Sub 134217730 M) {p1 : Chip} {p2 : ℕ} {p3 : ℕ} {p4 : ℕ} {p5 : ℕ} (hp1 : z.Inside M p1) : z.Inside M (Chip.recWrite p1 p2 p3 p4 p5) := by
  unfold Chip.recWrite
  exact .ite (Chip.put_inside (hM.up rfl) hp1) (Chip.recPut_inside (hM.up rfl) hp1)

theorem Chip.txCmd_inside {z : Chip} {M : ℕ} (hM : Sub 402653254 M) {p1 : Chip} {p2 : ℕ} {p3 : ℕ} {p4 : ℕ} (hp1 : z.Inside M p1) : z.Inside M (Chip.txCmd p1 p2 p3 p4) := by
  unfold Chip.txCmd
  extract_lets +onlyGivenNames x1
  have hx1 : ∀ w2, z.Inside M w2 → z.Inside M (x1 w2) := fun w2 hw2 => Chip.put_inside (hM.up rfl) hw2
  clear_value x1
  refine .ite (hx1 _ hp1) ?_
  extract_lets +onlyGivenNames x3
  have hx3 : z.Inside M x3 := Chip.sets_inside (hM.up rfl) hp1
  clear_value x3
  extract_lets +onlyGivenNames x4
  clear_value x4
  extract_lets +onlyGivenNames x5
  have hx5 : z.Inside M x5 := .ite (hx1 _ hx3) hx3
  clear_value x5
  refine .ite ?_ ?_
  · refine .ite ?_ (.ite (Chip.bufEnd_inside (hM.up rfl) hx5) (Chip.modCan_inside (hM.up rfl) hx5))
    split
    · exact .ite (Chip.modCan_inside (hM.up rfl) hx5) (Chip.bufEnd_inside (hM.up rfl) hx5)
    · exact Chip.bufEnd_inside (hM.up rfl) hx5
  · refine .ite (Chip.bufEnd_inside (hM.up rfl) hx5) ?_
    refine .ite ?_ hx5
    extract_lets +onlyGivenNames x11
    clear_value x11
    extract_lets +onlyGivenNames x12
    clear_value x12
    extract_lets +onlyGivenNames x13
    clear_value x13
    exact .ite (Chip.bufEnd_inside (hM.up rfl) hx5) (Chip.sets_inside (hM.up rfl) hx5)

theorem Chip.canWrite_inside {z : Chip} {M : ℕ} (hM : Sub 402653270 M) {p1 : Chip} {p2 : ℕ} {p3 : ℕ} (hp1 : z.Inside M p1) : z.Inside M (Chip.canWrite p1 p2 p3) := by
  unfold Chip.canWrite
  extract_lets +onlyGivenNames x1
  clear_value x1
  extract_lets +onlyGivenNames x2
  clear_value x2
  refine .ite (.ite (Chip.configWord_inside (hM.up rfl) hp1) (Chip.put_inside (hM.up rfl) hp1)) ?_
  refine .ite ?_ ?_
  · extract_lets +onlyGivenNames x3
    have hx3 : z.Inside M x3 := Chip.canModeSet_inside (hM.up rfl) hp1
    clear_value x3
    extract_lets +onlyGivenNames x4
    have hx4 : z.Inside M x4 := .ite (Chip.modCan_inside (hM.up rfl) hx3) hx3
    clear_value x4
    exact .ite (Chip.canReset_inside (hM.up rfl) hx4) hx4
  · refine .ite (.ite (Chip.rxPop_inside (hM.up rfl) hp1) hp1) ?_
    refine .ite (.ite (Chip.hpTake_inside (hM.up rfl) hp1) hp1) ?_
    refine .ite ?_ (.ite hp1 (Chip.genericWrite_inside (hM.up rfl) hp1))
    extract_lets +onlyGivenNames x5
    clear_value x5
    extract_lets +onlyGivenNames x6
    clear_value x6
    exact .ite (Chip.recWrite_inside (hM.up rfl) hp1) (.ite (Chip.txCmd_inside (hM.up rfl) hp1) (.ite hp1 (Chip.hole_inside (hM.up rfl) hp1)))

theorem Chip.canBlockWrite_inside {z : Chip} {M : ℕ} (hM : Sub 940277974 M) {p1 : Chip} {p2 : ℕ} {p3 : ℕ} (hp1 : z.Inside M p1) : z.Inside M (Chip.canBlockWrite p1 p2 p3) := by
  unfold Chip.canBlockWrite
  refine .ite ?_ (Chip.canWrite_inside (hM.up rfl) hp1)
  extract_lets +onlyGivenNames x1
  have hx1 : z.Inside M x1 := Chip.canWrite_inside (hM.up rfl) hp1
  clear_value x1
  exact .ite (Chip.unitStart_inside (hM.up rfl) hx1) hx1

theorem Chip.poolWrite_inside {z : Chip} {M : ℕ} (hM : Sub 2 M) {p1 : Chip} {p2 : ℕ} (hp1 : z.Inside M p1) : z.Inside M (Chip.poolWrite p1 p2) := by
  unfold Chip.poolWrite
  extract_lets +onlyGivenNames x1
  clear_value x1
  extract_lets +onlyGivenNames x2
  clear_value x2
  exact .ite (Chip.put_inside (hM.up rfl) hp1) (Chip.sets_inside (hM.up rfl) hp1)

theorem Chip.reqAnswer_inside {z : Chip} {M : ℕ} (hM : Sub 402653186 M) {p1 : Chip} {p2 : ℕ} (hp1 : z.Inside M p1) : z.Inside M (Chip.reqAnswer p1 p2) := by
  unfold Chip.reqAnswer
  extract_lets +onlyGivenNames x1
  clear_value x1
  refine .ite hp1 ?_
  extract_lets +onlyGivenNames x2
  have hx2 : z.Inside M x2 := .ite (Chip.ackSend_inside (hM.up rfl) hp1) hp1
  clear_value x2
  exact Chip.put_inside (hM.up rfl) hx2

theorem Chip.portCfgWrite_inside {z : Chip} {M : ℕ} (hM : Sub 402653254 M) {p1 : Chip} {p2 : ℕ} {p3 : ℕ} (hp1 : z.Inside M p1) : z.Inside M (Chip.portCfgWrite p1 p2 p3) := by
  unfold Chip.portCfgWrite
  refine .ite (.ite hp1 (Chip.portOff_inside (hM.up rfl) hp1)) ?_
  extract_lets +onlyGivenNames x1
  have hx1 : z.Inside M x1 := Chip.sets_inside (hM.up rfl) hp1
  clear_value x1
  exact .ite (Chip.portOn_inside (hM.up rfl) hx1) hx1

theorem Chip.tpCm_inside {z : Chip} {M : ℕ} (hM : Sub 402653186 M) {p1 : Chip} {p2 : ℕ} {p3 : Bool} {p4 : OutKind} {p5 : ℕ} {p6 : List Byte} {p7 : ℕ} (hp1 : z.Inside M p1) : z.Inside M (Chip.tpCm p1 p2 p3 p4 p5 p6 p7) := by
  unfold Chip.tpCm
  exact Chip.porchSend_inside (hM.up rfl) hp1

theorem Chip.tpAbort_inside {z : Chip} {M : ℕ} (hM : Sub 402653186 M) {p1 : Chip} {p2 : ℕ} {p3 : Bool} {p4 : ℕ} {p5 : ℕ} {p6 : ℕ} (hp1 : z.Inside M p1) : z.Inside M (Chip.tpAbort p1 p2 p3 p4 p5 p6) := by
  unfold Chip.tpAbort
  exact Chip.tpCm_inside (hM.up rfl) hp1

theorem Chip.sesAbort_inside {z : Chip} {M : ℕ} (hM : Sub 402653254 M) {p1 : Chip} {p2 : ℕ} {p3 : ℕ} {p4 : ℕ} (hp1 : z.Inside M p1) : z.Inside M (Chip.sesAbort p1 p2 p3 p4) := by
  unfold Chip.sesAbort
  extract_lets +onlyGivenNames x1
  have hx1 : z.Inside M x1 := .ite hp1 (Chip.tpAbort_inside (hM.up rfl) hp1)
  clear_value x1
  exact Chip.sesEnd_inside (hM.up rfl) hx1

theorem Chip.sesCancel_inside {z : Chip} {M : ℕ} (hM : Sub 402653254 M) {p1 : Chip} {p2 : ℕ} (hp1 : z.Inside M p1) : z.Inside M (Chip.sesCancel p1 p2) := by
  unfold Chip.sesCancel
  exact .ite (Chip.sesAbort_inside (hM.up rfl) hp1) hp1

theorem Chip.sesStart_inside {z : Chip} {M : ℕ} (hM : Sub 402653254 M) {p1 : Chip} {p2 : ℕ} (hp1 : z.Inside M p1) : z.Inside M (Chip.sesStart p1 p2) := by
  unfold Chip.sesStart
  refine .ite hp1 ?_
  extract_lets +onlyGivenNames x1
  clear_value x1
  extract_lets +onlyGivenNames x2
  clear_value x2
  extract_lets +onlyGivenNames x3
  clear_value x3
  extract_lets +onlyGivenNames x4
  clear_value x4
  extract_lets +onlyGivenNames x5
  clear_value x5
  extract_lets +onlyGivenNames x6
  clear_value x6
  extract_lets +onlyGivenNames x7
  have hx7 : z.Inside M x7 := Chip.sets_inside (hM.up rfl) hp1
  clear_value x7
  refine .ite (Chip.sesEnd_inside (hM.up rfl) hx7) ?_
  refine .ite (Chip.sesEnd_inside (hM.up rfl) hx7) ?_
  extract_lets +onlyGivenNames x8
  clear_value x8
  extract_lets +onlyGivenNames x9
  clear_value x9
  extract_lets +onlyGivenNames x10
  have hx10 : z.Inside M x10 := Chip.modSes_inside (hM.up rfl) hx7
  clear_value x10
  exact .ite (Chip.tpCm_inside (hM.up rfl) hx10) (.ite (Chip.tpCm_inside (hM.up rfl) hx10) (Chip.tpCm_inside (hM.up rfl) hx10))

theorem Chip.sesRelease_inside {z : Chip} {M : ℕ} (hM : Sub 2 M) {p1 : Chip} {p2 : ℕ} (hp1 : z.Inside M p1) : z.Inside M (Chip.sesRelease p1 p2) := by
  unfold Chip.sesRelease
  exact .ite (Chip.set_inside (hM.up rfl) hp1) hp1

theorem Chip.sesCtlWrite_inside {z : Chip} {M : ℕ} (hM : Sub 402653254 M) {p1 : Chip} {p2 : ℕ} {p3 : ℕ} (hp1 : z.Inside M p1) : z.Inside M (Chip.sesCtlWrite p1 p2 p3) := by
  unfold Chip.sesCtlWrite
  extract_lets +onlyGivenNames x1
  have hx1 : z.Inside M x1 := Chip.sets_inside (hM.up rfl) hp1
  clear_value x1
  refine .ite ?_ (.ite (Chip.sesRelease_inside (hM.up rfl) hx1) hx1)
  extract_lets +onlyGivenNames x2
  have hx2 : z.Inside M x2 := Chip.set_inside (hM.up rfl) hx1
  clear_value x2
  extract_lets +onlyGivenNames x3
  have hx3 : z.Inside M x3 := .ite (Chip.sesCancel_inside (hM.up rfl) hx2) hx2
  clear_value x3
  exact .ite (Chip.sesStart_inside (hM.up rfl) hx3) hx3

theorem Chip.porchWrite_inside {z : Chip} {M : ℕ} (hM : Sub 402653270 M) {p1 : Chip} {p2 : ℕ} {p3 : ℕ} (hp1 : z.Inside M p1) : z.Inside M (Chip.porchWrite p1 p2 p3) := by
  unfold Chip.porchWrite
  extract_lets +onlyGivenNames x1
  clear_value x1
  exact .ite (Chip.poolWrite_inside (hM.up rfl) hp1) (.ite (Chip.reqAnswer_inside (hM.up rfl) hp1) (.ite (Chip.portCfgWrite_inside (hM.up rfl) hp1) (.ite (.ite (Chip.claimPref_inside (hM.up rfl) hp1) hp1) (.ite (Chip.genericWrite_inside (hM.up rfl) hp1) (.ite (Chip.sesCtlWrite_inside (hM.up rfl) hp1) (Chip.genericWrite_inside (hM.up rfl) hp1))))))

theorem Chip.ringStart_inside {z : Chip} {M : ℕ} (hM : Sub 939524166 M) {p1 : Chip} (hp1 : z.Inside M p1) : z.Inside M (Chip.ringStart p1) := by
  unfold Chip.ringStart
  extract_lets +onlyGivenNames x1
  have hx1 : z.Inside M x1 := Chip.sets_inside (hM.up rfl) hp1
  clear_value x1
  extract_lets +onlyGivenNames x2
  have hx2 : z.Inside M x2 := Chip.modRing_inside (hM.up rfl) hx1
  clear_value x2
  exact .ite (Chip.set_inside (hM.up rfl) (Chip.roleSet_inside (hM.up rfl) hx2)) (Chip.set_inside (hM.up rfl) (Chip.roleSet_inside (hM.up rfl) hx2))

theorem Chip.ringEnable_inside {z : Chip} {M : ℕ} (hM : Sub 939524166 M) {p1 : Chip} (hp1 : z.Inside M p1) : z.Inside M (Chip.ringEnable p1) := by
  unfold Chip.ringEnable
  refine .ite hp1 ?_
  extract_lets +onlyGivenNames x1
  clear_value x1
  exact .ite (Chip.note_inside (hM.up rfl) (Chip.put_inside (hM.up rfl) hp1)) (.ite (Chip.modRing_inside (hM.up rfl) (Chip.put_inside (hM.up rfl) hp1)) (Chip.ringStart_inside (hM.up rfl) hp1))

theorem Chip.ringOff_inside {z : Chip} {M : ℕ} (hM : Sub 939524166 M) {p1 : Chip} (hp1 : z.Inside M p1) : z.Inside M (Chip.ringOff p1) := by
  unfold Chip.ringOff
  refine .ite hp1 ?_
  extract_lets +onlyGivenNames x1
  have hx1 : z.Inside M x1 := Chip.msgsDown_inside (hM.up rfl) hp1
  clear_value x1
  extract_lets +onlyGivenNames x2
  have hx2 : z.Inside M x2 := Chip.sets_inside (hM.up rfl) (Chip.roleSet_inside (hM.up rfl) hx1)
  clear_value x2
  exact Chip.modRing_inside (hM.up rfl) hx2

theorem Chip.msgCfg_inside {z : Chip} {M : ℕ} (hM : Sub 2 M) {p1 : Chip} {p2 : ℕ} (hp1 : z.Inside M p1) : z.Inside M (Chip.msgCfg p1 p2) := by
  unfold Chip.msgCfg
  extract_lets +onlyGivenNames x1
  have hx1 : z.Inside M x1 := Chip.sets_inside (hM.up rfl) hp1
  clear_value x1
  exact Chip.put_inside (hM.up rfl) hx1

theorem Chip.msgCtl_inside {z : Chip} {M : ℕ} (hM : Sub 536870978 M) {p1 : Chip} {p2 : ℕ} {p3 : ℕ} (hp1 : z.Inside M p1) : z.Inside M (Chip.msgCtl p1 p2 p3) := by
  unfold Chip.msgCtl
  extract_lets +onlyGivenNames x1
  have hx1 : z.Inside M x1 := Chip.sets_inside (hM.up rfl) hp1
  clear_value x1
  refine .ite ?_ (.ite (.ite (Chip.modMsg_inside (hM.up rfl) hx1) (Chip.msgEnd_inside (hM.up rfl) hx1)) hx1)
  extract_lets +onlyGivenNames x2
  have hx2 : z.Inside M x2 := Chip.sets_inside (hM.up rfl) hx1
  clear_value x2
  extract_lets +onlyGivenNames x3
  clear_value x3
  extract_lets +onlyGivenNames x4
  clear_value x4
  extract_lets +onlyGivenNames x5
  clear_value x5
  extract_lets +onlyGivenNames x6
  clear_value x6
  exact .ite (Chip.msgEnd_inside (hM.up rfl) hx2) (.ite (Chip.msgEnd_inside (hM.up rfl) hx2) (.ite (Chip.msgEnd_inside (hM.up rfl) hx2) (Chip.modMsg_inside (hM.up rfl) hx2)))

theorem Chip.ringWrite_inside {z : Chip} {M : ℕ} (hM : Sub 939524182 M) {p1 : Chip} {p2 : ℕ} {p3 : ℕ} (hp1 : z.Inside M p1) : z.Inside M (Chip.ringWrite p1 p2 p3) := by
  unfold Chip.ringWrite
  extract_lets +onlyGivenNames x1
  clear_value x1
  refine .ite (.ite hp1 (Chip.configWord_inside (hM.up rfl) hp1)) ?_
  refine .ite ?_ (.ite (Chip.msgCfg_inside (hM.up rfl) hp1) (.ite (Chip.msgCtl_inside (hM.up rfl) hp1) (Chip.genericWrite_inside (hM.up rfl) hp1)))
  extract_lets +onlyGivenNames x2
  have hx2 : z.Inside M x2 := .ite (Chip.sets_inside (hM.up rfl) hp1) hp1
  clear_value x2
  extract_lets +onlyGivenNames x3
  have hx3 : z.Inside M x3 := .ite (Chip.ringEnable_inside (hM.up rfl) hx2) (Chip.ringOff_inside (hM.up rfl) hx2)
  clear_value x3
  exact .ite (Chip.ringReset_inside (hM.up rfl) hx3) hx3

theorem Chip.ringBlockWrite_inside {z : Chip} {M : ℕ} (hM : Sub 940277974 M) {p1 : Chip} {p2 : ℕ} {p3 : ℕ} (hp1 : z.Inside M p1) : z.Inside M (Chip.ringBlockWrite p1 p2 p3) := by
  unfold Chip.ringBlockWrite
  refine .ite ?_ (Chip.ringWrite_inside (hM.up rfl) hp1)
  extract_lets +onlyGivenNames x1
  have hx1 : z.Inside M x1 := Chip.ringWrite_inside (hM.up rfl) hp1
  clear_value x1
  exact .ite (Chip.unitStart_inside (hM.up rfl) hx1) hx1

theorem Chip.hwIrq_inside {z : Chip} {M : ℕ} (hM : Sub 2 M) {p1 : Chip} (hp1 : z.Inside M p1) : z.Inside M (Chip.hwIrq p1) := by
  unfold Chip.hwIrq
  extract_lets +onlyGivenNames x1
  clear_value x1
  exact Chip.put_inside (hM.up rfl) hp1

theorem Chip.cqSettle_inside {z : Chip} {M : ℕ} (hM : Sub 2 M) {p1 : Chip} {p2 : ℕ} (hp1 : z.Inside M p1) : z.Inside M (Chip.cqSettle p1 p2) := by
  unfold Chip.cqSettle
  refine .ite (.ite (Chip.hwIrq_inside (hM.up rfl) (Chip.set_inside (hM.up rfl) hp1)) (Chip.hwIrq_inside (hM.up rfl) hp1)) ?_
  extract_lets +onlyGivenNames x1
  clear_value x1
  extract_lets +onlyGivenNames x2
  clear_value x2
  exact .ite (Chip.hwIrq_inside (hM.up rfl) (Chip.sets_inside (hM.up rfl) hp1)) (Chip.hwIrq_inside (hM.up rfl) hp1)

theorem Chip.idleWrite_inside {z : Chip} {M : ℕ} (hM : Sub 2 M) {p1 : Chip} {p2 : ℕ} (hp1 : z.Inside M p1) : z.Inside M (Chip.idleWrite p1 p2) := by
  unfold Chip.idleWrite
  extract_lets +onlyGivenNames x1
  have hx1 : z.Inside M x1 := Chip.sets_inside (hM.up rfl) hp1
  clear_value x1
  exact .each hx1 (fun a2 t3 ht3 => Chip.cqSettle_inside (hM.up rfl) ht3)

theorem Chip.casUndo_inside {z : Chip} {M : ℕ} (hM : Sub 4 M) {p1 : Chip} {p2 : CasTick} (hp1 : z.Inside M p1) : z.Inside M (Chip.casUndo p1 p2) := by
  unfold Chip.casUndo
  exact Chip.setByte_inside (hM.up rfl) (Chip.setByte_inside (hM.up rfl) hp1)

theorem Chip.ownViolation_inside {z : Chip} {M : ℕ} (hM : Sub 66 M) {p1 : Chip} {p2 : ℕ} (hp1 : z.Inside M p1) : z.Inside M (Chip.ownViolation p1 p2) := by
  unfold Chip.ownViolation
  exact Chip.note_inside (hM.up rfl) (Chip.put_inside (hM.up rfl) hp1)

theorem Chip.modHw_inside {z : Chip} {M : ℕ} (hM : Sub 67108864 M) {p1 : Chip} {p2 : HwS → HwS} (hp1 : z.Inside M p1) : z.Inside M (Chip.modHw p1 p2) := by
  unfold Chip.modHw
  exact (Chip.Inside.mk_hw (hM.up rfl) hp1)

theorem Chip.casOne_inside {z : Chip} {M : ℕ} (hM : Sub 67108934 M) {p1 : Chip} {p2 : Requester} {p3 : ℕ} {p4 : Bool} (hp1 : z.Inside M p1) : z.Inside M (Chip.casOne p1 p2 p3 p4) := by
  unfold Chip.casOne
  extract_lets +onlyGivenNames x1
  clear_value x1
  extract_lets +onlyGivenNames x2
  clear_value x2
  extract_lets +onlyGivenNames x3
  clear_value x3
  extract_lets +onlyGivenNames x4
  clear_value x4
  extract_lets +onlyGivenNames x5
  have hx5 : z.Inside M x5 := .ite (.ite (Chip.ownViolation_inside (hM.up rfl) hp1) hp1) (.ite (Chip.flagPut_inside (hM.up rfl) hp1) hp1)
  clear_value x5
  extract_lets +onlyGivenNames x6
  clear_value x6
  exact Chip.modHw_inside (hM.up rfl) hx5

theorem Chip.casWrite_inside {z : Chip} {M : ℕ} (hM : Sub 67108934 M) {p1 : Chip} {p2 : Requester} {p3 : ℕ} (hp1 : z.Inside M p1) : z.Inside M (Chip.casWrite p1 p2 p3) := by
  unfold Chip.casWrite
  extract_lets +onlyGivenNames x1
  clear_value x1
  extract_lets +onlyGivenNames x2
  clear_value x2
  extract_lets +onlyGivenNames x3
  extract_lets +onlyGivenNames x4
  extract_lets +onlyGivenNames x5
  extract_lets +onlyGivenNames x6
  have hx6 : z.Inside M x6 := .ite hp1 (Chip.casUndo_inside (hM.up rfl) hp1)
  clear_value x6
  extract_lets +onlyGivenNames x7
  have hx7 : z.Inside M x7 := .each hx6 (fun a8 t9 ht9 => Chip.casOne_inside (hM.up rfl) ht9)
  clear_value x7
  extract_lets +onlyGivenNames x10
  exact Chip.modHw_inside (hM.up rfl) hx7

theorem Chip.hostwrWrite_inside {z : Chip} {M : ℕ} (hM : Sub 2 M) {p1 : Chip} {p2 : Requester} {p3 : ℕ} (hp1 : z.Inside M p1) : z.Inside M (Chip.hostwrWrite p1 p2 p3) := by
  unfold Chip.hostwrWrite
  split
  · exact Chip.set_inside (hM.up rfl) hp1
  · exact hp1

theorem Chip.modHwQ_inside {z : Chip} {M : ℕ} (hM : Sub 67108864 M) {p1 : Chip} {p2 : ℕ} {p3 : HwQ → HwQ} (hp1 : z.Inside M p1) : z.Inside M (Chip.modHwQ p1 p2 p3) := by
  unfold Chip.modHwQ
  exact Chip.modHw_inside (hM.up rfl) hp1

theorem Chip.modDesc_inside {z : Chip} {M : ℕ} (hM : Sub 67108864 M) {p1 : Chip} {p2 : ℕ} {p3 : DescS → DescS} (hp1 : z.Inside M p1) : z.Inside M (Chip.modDesc p1 p2 p3) := by
  unfold Chip.modDesc
  exact Chip.modHwQ_inside (hM.up rfl) hp1

theorem Chip.hwShow_inside {z : Chip} {M : ℕ} (hM : Sub 2 M) {p1 : Chip} {p2 : ℕ} (hp1 : z.Inside M p1) : z.Inside M (Chip.hwShow p1 p2) := by
  unfold Chip.hwShow
  extract_lets +onlyGivenNames x1
  extract_lets +onlyGivenNames x2
  have hx2 : z.Inside M x2 := by
    unfold x2
    split
    · exact .ite (Chip.sets_inside (hM.up rfl) hp1) (Chip.set_inside (hM.up rfl) hp1)
    · exact Chip.set_inside (hM.up rfl) hp1
  clear_value x2
  exact Chip.sets_inside (hM.up rfl) hx2

theorem Chip.descEnd_inside {z : Chip} {M : ℕ} (hM : Sub 67108866 M) {p1 : Chip} {p2 : ℕ} {p3 : ℕ} {p4 : ℕ} (hp1 : z.Inside M p1) : z.Inside M (Chip.descEnd p1 p2 p3 p4) := by
  unfold Chip.descEnd
  exact Chip.hwShow_inside (hM.up rfl) (Chip.modDesc_inside (hM.up rfl) hp1)

theorem Chip.msgDone_inside {z : Chip} {M : ℕ} (hM : Sub 67108866 M) {p1 : Chip} {p2 : ℕ} (hp1 : z.Inside M p1) : z.Inside M (Chip.msgDone p1 p2) := by
  unfold Chip.msgDone
  extract_lets +onlyGivenNames x1
  clear_value x1
  extract_lets +onlyGivenNames x2
  clear_value x2
  refine .ite ?_ hp1
  extract_lets +onlyGivenNames x3
  have hx3 : z.Inside M x3 := Chip.modDesc_inside (hM.up rfl) (Chip.clrBitOf_inside (hM.up rfl) hp1)
  clear_value x3
  exact Chip.descEnd_inside (hM.up rfl) hx3

theorem Chip.hwAbortEnd_inside {z : Chip} {M : ℕ} (hM : Sub 67108866 M) {p1 : Chip} {p2 : ℕ} (hp1 : z.Inside M p1) : z.Inside M (Chip.hwAbortEnd p1 p2) := by
  unfold Chip.hwAbortEnd
  extract_lets +onlyGivenNames x1
  refine .ite ?_ (Chip.hwShow_inside (hM.up rfl) hp1)
  extract_lets +onlyGivenNames x2
  have hx2 : z.Inside M x2 := Chip.modHwQ_inside (hM.up rfl) hp1
  clear_value x2
  exact Chip.hwShow_inside (hM.up rfl) (Chip.sets_inside (hM.up rfl) hx2)

theorem Chip.hwAbortRun_inside {z : Chip} {M : ℕ} (hM : Sub 69206018 M) {p1 : Chip} {p2 : ℕ} (hp1 : z.Inside M p1) : z.Inside M (Chip.hwAbortRun p1 p2) := by
  unfold Chip.hwAbortRun
  split
  · rename_i y1 y2 q3 q4
    refine .ite ?_ hp1
    extract_lets +onlyGivenNames x5
    have hx5 : z.Inside M x5 := Chip.dropWrite_inside (hM.up rfl) hp1
    clear_value x5
    extract_lets +onlyGivenNames x6
    have hx6 : z.Inside M x6 := Chip.modDesc_inside (hM.up rfl) (Chip.clrBitOf_inside (hM.up rfl) hx5)
    clear_value x6
    exact Chip.hwShow_inside (hM.up rfl) hx6
  · exact hp1

theorem Chip.hwAbort_inside {z : Chip} {M : ℕ} (hM : Sub 69206018 M) {p1 : Chip} {p2 : ℕ} {p3 : Bool} (hp1 : z.Inside M p1) : z.Inside M (Chip.hwAbort p1 p2 p3) := by
  unfold Chip.hwAbort
  extract_lets +onlyGivenNames x1
  have hx1 : z.Inside M x1 := Chip.modHwQ_inside (hM.up rfl) (Chip.set_inside (hM.up rfl) hp1)
  clear_value x1
  exact Chip.hwAbortEnd_inside (hM.up rfl) (Chip.hwAbortRun_inside (hM.up rfl) hx1)

theorem Chip.queueBad_inside {z : Chip} {M : ℕ} (hM : Sub 66 M) {p1 : Chip} {p2 : ℕ} {p3 : ℕ} {p4 : ℕ} (hp1 : z.Inside M p1) : z.Inside M (Chip.queueBad p1 p2 p3 p4) := by
  unfold Chip.queueBad
  exact Chip.note_inside (hM.up rfl) (Chip.put_inside (hM.up rfl) hp1)

theorem Chip.sqCfgWrite_inside {z : Chip} {M : ℕ} (hM : Sub 69206082 M) {p1 : Chip} {p2 : ℕ} {p3 : ℕ} (hp1 : z.Inside M p1) : z.Inside M (Chip.sqCfgWrite p1 p2 p3) := by
  unfold Chip.sqCfgWrite
  refine .ite (.ite hp1 (Chip.hwAbort_inside (hM.up rfl) hp1)) ?_
  extract_lets +onlyGivenNames x1
  have hx1 : z.Inside M x1 := Chip.sets_inside (hM.up rfl) hp1
  clear_value x1
  exact .ite hx1 (.ite (Chip.queueBad_inside (hM.up rfl) hx1) (Chip.put_inside (hM.up rfl) hx1))

theorem Chip.modGroup_inside {z : Chip} {M : ℕ} (hM : Sub 0 M) {p1 : Chip} {p2 : ℕ} {p3 : ℕ} {p4 : GroupS → GroupS} (hp1 : z.Inside M p1) : z.Inside M (Chip.modGroup p1 p2 p3 p4) := by
  unfold Chip.modGroup
  exact (Chip.Inside.mk_irq (hM.up rfl) hp1)

theorem Chip.moderate_inside {z : Chip} {M : ℕ} (hM : Sub 0 M) {p1 : Chip} {p2 : ℕ} (hp1 : z.Inside M p1) : z.Inside M (Chip.moderate p1 p2) := by
  unfold Chip.moderate
  exact .ite (Chip.modGroup_inside (hM.up rfl) hp1) hp1

theorem Chip.pulse_inside {z : Chip} {M : ℕ} (hM : Sub 0 M) {p1 : Chip} {p2 : ℕ} (hp1 : z.Inside M p1) : z.Inside M (Chip.pulse p1 p2) := by
  unfold Chip.pulse
  exact Chip.moderate_inside (hM.up rfl) (Chip.Inside.mk_irq (hM.up rfl) hp1)

theorem Chip.sqTailWrite_inside {z : Chip} {M : ℕ} (hM : Sub 66 M) {p1 : Chip} {p2 : Requester} {p3 : ℕ} {p4 : ℕ} (hp1 : z.Inside M p1) : z.Inside M (Chip.sqTailWrite p1 p2 p3 p4) := by
  unfold Chip.sqTailWrite
  extract_lets +onlyGivenNames x1
  clear_value x1
  exact .ite (Chip.queueBad_inside (hM.up rfl) hp1) (.ite (Chip.queueBad_inside (hM.up rfl) hp1) (.ite (Chip.queueBad_inside (hM.up rfl) hp1) (Chip.pulse_inside (hM.up rfl) (Chip.set_inside (hM.up rfl) hp1))))

theorem Chip.cqCfgWrite_inside {z : Chip} {M : ℕ} (hM : Sub 66 M) {p1 : Chip} {p2 : ℕ} {p3 : ℕ} (hp1 : z.Inside M p1) : z.Inside M (Chip.cqCfgWrite p1 p2 p3) := by
  unfold Chip.cqCfgWrite
  refine .ite (.ite hp1 (Chip.put_inside (hM.up rfl) hp1)) ?_
  extract_lets +onlyGivenNames x1
  have hx1 : z.Inside M x1 := Chip.sets_inside (hM.up rfl) hp1
  clear_value x1
  exact .ite hx1 (.ite (Chip.queueBad_inside (hM.up rfl) hx1) (Chip.sets_inside (hM.up rfl) hx1))

theorem Chip.cqHeadWrite_inside {z : Chip} {M : ℕ} (hM : Sub 2 M) {p1 : Chip} {p2 : ℕ} {p3 : ℕ} (hp1 : z.Inside M p1) : z.Inside M (Chip.cqHeadWrite p1 p2 p3) := by
  unfold Chip.cqHeadWrite
  exact Chip.cqSettle_inside (hM.up rfl) (Chip.set_inside (hM.up rfl) hp1)

theorem Chip.cqModWrite_inside {z : Chip} {M : ℕ} (hM : Sub 2 M) {p1 : Chip} {p2 : ℕ} {p3 : ℕ} (hp1 : z.Inside M p1) : z.Inside M (Chip.cqModWrite p1 p2 p3) := by
  unfold Chip.cqModWrite
  exact Chip.cqSettle_inside (hM.up rfl) (Chip.sets_inside (hM.up rfl) hp1)

theorem Chip.hwWrite_inside {z : Chip} {M : ℕ} (hM : Sub 69206102 M) {p1 : Chip} {p2 : Requester} {p3 : ℕ} {p4 : ℕ} (hp1 : z.Inside M p1) : z.Inside M (Chip.hwWrite p1 p2 p3 p4) := by
  unfold Chip.hwWrite
  extract_lets +onlyGivenNames x1
  clear_value x1
  refine .ite hp1 ?_
  refine .ite (Chip.idleWrite_inside (hM.up rfl) hp1) ?_
  refine .ite (Chip.casWrite_inside (hM.up rfl) hp1) ?_
  refine .ite (Chip.hostwrWrite_inside (hM.up rfl) hp1) ?_
  refine .ite (Chip.msgDone_inside (hM.up rfl) hp1) ?_
  refine .ite ?_ ?_
  · extract_lets +onlyGivenNames x2
    clear_value x2
    exact .ite (Chip.sqCfgWrite_inside (hM.up rfl) hp1) (.ite (Chip.sqTailWrite_inside (hM.up rfl) hp1) (.ite (.ite (Chip.hwAbort_inside (hM.up rfl) hp1) hp1) hp1))
  · refine .ite ?_ (Chip.genericWrite_inside (hM.up rfl) hp1)
    extract_lets +onlyGivenNames x3
    clear_value x3
    exact .ite (Chip.cqCfgWrite_inside (hM.up rfl) hp1) (.ite (Chip.cqHeadWrite_inside (hM.up rfl) hp1) (.ite (Chip.cqModWrite_inside (hM.up rfl) hp1) hp1))

theorem Chip.routeWrite_inside {z : Chip} {M : ℕ} (hM : Sub 2 M) {p1 : Chip} {p2 : ℕ} {p3 : ℕ} (hp1 : z.Inside M p1) : z.Inside M (Chip.routeWrite p1 p2 p3) := by
  unfold Chip.routeWrite
  refine .each hp1 ?_
  intro a1 t2 ht2
  extract_lets +onlyGivenNames x3
  clear_value x3
  refine .ite ht2 ?_
  extract_lets +onlyGivenNames x4
  extract_lets +onlyGivenNames x5
  have hx5 : z.Inside M x5 := .ite (Chip.Inside.mk_irq (hM.up rfl) ht2) ht2
  clear_value x5
  exact Chip.sets_inside (hM.up rfl) hx5

theorem Chip.pendClear_inside {z : Chip} {M : ℕ} (hM : Sub 0 M) {p1 : Chip} {p2 : ℕ} {p3 : ℕ} (hp1 : z.Inside M p1) : z.Inside M (Chip.pendClear p1 p2 p3) := by
  unfold Chip.pendClear
  extract_lets +onlyGivenNames x1
  clear_value x1
  exact (Chip.Inside.mk_irq (hM.up rfl) hp1)

theorem Chip.spuriousWrite_inside {z : Chip} {M : ℕ} (hM : Sub 2 M) {p1 : Chip} {p2 : ℕ} (hp1 : z.Inside M p1) : z.Inside M (Chip.spuriousWrite p1 p2) := by
  unfold Chip.spuriousWrite
  exact .each hp1 (fun a1 t2 ht2 => .ite (Chip.set_inside (hM.up rfl) ht2) ht2)

theorem Chip.privateSrc_inside {z : Chip} {M : ℕ} (hM : Sub 2 M) {p1 : Chip} {p2 : ℕ} {p3 : ℕ} (hp1 : z.Inside M p1) : z.Inside M (Chip.privateSrc p1 p2 p3) := by
  unfold Chip.privateSrc
  exact Chip.setBitOf_inside (hM.up rfl) hp1

theorem Chip.swiWrite_inside {z : Chip} {M : ℕ} (hM : Sub 2 M) {p1 : Chip} {p2 : ℕ} (hp1 : z.Inside M p1) : z.Inside M (Chip.swiWrite p1 p2) := by
  unfold Chip.swiWrite
  exact .each hp1 (fun a1 t2 ht2 => .ite (Chip.privateSrc_inside (hM.up rfl) ht2) ht2)

theorem Chip.modHart_inside {z : Chip} {M : ℕ} (hM : Sub 4194304 M) {p1 : Chip} {p2 : ℕ} {p3 : HartS → HartS} (hp1 : z.Inside M p1) : z.Inside M (Chip.modHart p1 p2 p3) := by
  unfold Chip.modHart
  exact (Chip.Inside.mk_hart (hM.up rfl) hp1)

theorem Chip.wdtWrite_inside {z : Chip} {M : ℕ} (hM : Sub 4194306 M) {p1 : Chip} {p2 : ℕ} {p3 : ℕ} (hp1 : z.Inside M p1) : z.Inside M (Chip.wdtWrite p1 p2 p3) := by
  unfold Chip.wdtWrite
  refine .ite hp1 ?_
  extract_lets +onlyGivenNames x1
  have hx1 : z.Inside M x1 := Chip.modHart_inside (hM.up rfl) hp1
  clear_value x1
  exact .ite hx1 (Chip.sets_inside (hM.up rfl) hx1)

theorem Chip.semSet_inside {z : Chip} {M : ℕ} (hM : Sub 2 M) {p1 : Chip} {p2 : ℕ} {p3 : ℕ} (hp1 : z.Inside M p1) : z.Inside M (Chip.semSet p1 p2 p3) := by
  unfold Chip.semSet
  exact Chip.set_inside (hM.up rfl) hp1

theorem Chip.semGrant_inside {z : Chip} {M : ℕ} (hM : Sub 16777218 M) {p1 : Chip} {p2 : Requester} {p3 : ℕ} {p4 : Bool} (hp1 : z.Inside M p1) : z.Inside M (Chip.semGrant p1 p2 p3 p4) := by
  unfold Chip.semGrant
  extract_lets +onlyGivenNames x1
  have hx1 : z.Inside M x1 := Chip.semSet_inside (hM.up rfl) hp1
  clear_value x1
  exact (Chip.Inside.mk_sem (hM.up rfl) hx1)

theorem Chip.semQueue_inside {z : Chip} {M : ℕ} (hM : Sub 16777216 M) {p1 : Chip} {p2 : Requester} {p3 : ℕ} (hp1 : z.Inside M p1) : z.Inside M (Chip.semQueue p1 p2 p3) := by
  unfold Chip.semQueue
  exact .ite hp1 (Chip.Inside.mk_sem (hM.up rfl) hp1)

theorem Chip.semAsk_inside {z : Chip} {M : ℕ} (hM : Sub 16777218 M) {p1 : Chip} {p2 : Requester} {p3 : ℕ} {p4 : Bool} (hp1 : z.Inside M p1) : z.Inside M (Chip.semAsk p1 p2 p3 p4) := by
  unfold Chip.semAsk
  refine .ite (Chip.semGrant_inside (hM.up rfl) hp1) ?_
  refine .ite hp1 ?_
  split
  · rename_i y1 y2 q3
    extract_lets +onlyGivenNames x4
    have hx4 : z.Inside M x4 := Chip.semGrant_inside (hM.up rfl) hp1
    clear_value x4
    exact .ite (Chip.semQueue_inside (hM.up rfl) hx4) hx4
  · exact .ite (Chip.semQueue_inside (hM.up rfl) hp1) hp1

theorem Chip.semTake_inside {z : Chip} {M : ℕ} (hM : Sub 16777218 M) {p1 : Chip} {p2 : Requester} {p3 : ℕ} (hp1 : z.Inside M p1) : z.Inside M (Chip.semTake p1 p2 p3) := by
  unfold Chip.semTake
  exact Chip.semAsk_inside (hM.up rfl) hp1

theorem Chip.semRelease_inside {z : Chip} {M : ℕ} (hM : Sub 16777218 M) {p1 : Chip} {p2 : ℕ} (hp1 : z.Inside M p1) : z.Inside M (Chip.semRelease p1 p2) := by
  unfold Chip.semRelease
  split
  · exact Chip.semSet_inside (hM.up rfl) hp1
  · rename_i y3 q4
    extract_lets +onlyGivenNames x5
    have hx5 : z.Inside M x5 := Chip.semSet_inside (hM.up rfl) hp1
    clear_value x5
    extract_lets +onlyGivenNames x6
    extract_lets +onlyGivenNames x7
    have hx7 : z.Inside M x7 := (Chip.Inside.mk_sem (hM.up rfl) hx5)
    clear_value x7
    split
    · exact Chip.privateSrc_inside (hM.up rfl) hx7
    · exact hx7

theorem Chip.semGive_inside {z : Chip} {M : ℕ} (hM : Sub 16777282 M) {p1 : Chip} {p2 : Requester} {p3 : ℕ} (hp1 : z.Inside M p1) : z.Inside M (Chip.semGive p1 p2 p3) := by
  unfold Chip.semGive
  exact .ite (Chip.semRelease_inside (hM.up rfl) hp1) (Chip.note_inside (hM.up rfl) (Chip.put_inside (hM.up rfl) hp1))

theorem Chip.semTakeOrWait_inside {z : Chip} {M : ℕ} (hM : Sub 16777218 M) {p1 : Chip} {p2 : Requester} {p3 : ℕ} (hp1 : z.Inside M p1) : z.Inside M (Chip.semTakeOrWait p1 p2 p3) := by
  unfold Chip.semTakeOrWait
  exact Chip.semAsk_inside (hM.up rfl) hp1

theorem Chip.semCancel_inside {z : Chip} {M : ℕ} (hM : Sub 16777216 M) {p1 : Chip} {p2 : Requester} {p3 : ℕ} (hp1 : z.Inside M p1) : z.Inside M (Chip.semCancel p1 p2 p3) := by
  unfold Chip.semCancel
  exact (Chip.Inside.mk_sem (hM.up rfl) hp1)

theorem Chip.semReq_inside {z : Chip} {M : ℕ} (hM : Sub 16777282 M) {p1 : Chip} {p2 : Requester} {p3 : ℕ} (hp1 : z.Inside M p1) : z.Inside M (Chip.semReq p1 p2 p3) := by
  unfold Chip.semReq
  extract_lets +onlyGivenNames x1
  clear_value x1
  split
  · exact Chip.semTake_inside (hM.up rfl) hp1
  · exact Chip.semGive_inside (hM.up rfl) hp1
  · exact Chip.semTakeOrWait_inside (hM.up rfl) hp1
  · exact Chip.semCancel_inside (hM.up rfl) hp1

theorem Chip.injWrite_inside {z : Chip} {M : ℕ} (hM : Sub 2 M) {p1 : Chip} {p2 : ℕ} (hp1 : z.Inside M p1) : z.Inside M (Chip.injWrite p1 p2) := by
  unfold Chip.injWrite
  extract_lets +onlyGivenNames x1
  have hx1 : z.Inside M x1 := Chip.sets_inside (hM.up rfl) hp1
  clear_value x1
  exact .ite (Chip.put_inside (hM.up rfl) hx1) hx1

theorem Chip.coreWrite_inside {z : Chip} {M : ℕ} (hM : Sub 20971602 M) {p1 : Chip} {p2 : Requester} {p3 : ℕ} {p4 : ℕ} (hp1 : z.Inside M p1) : z.Inside M (Chip.coreWrite p1 p2 p3 p4) := by
  unfold Chip.coreWrite
  extract_lets +onlyGivenNames x1
  clear_value x1
  exact .ite (Chip.routeWrite_inside (hM.up rfl) hp1) (.ite (Chip.pendClear_inside (hM.up rfl) hp1) (.ite (Chip.spuriousWrite_inside (hM.up rfl) hp1) (.ite (Chip.swiWrite_inside (hM.up rfl) hp1) (.ite hp1 (.ite (Chip.wdtWrite_inside (hM.up rfl) hp1) (.ite (Chip.semReq_inside (hM.up rfl) hp1) (.ite (Chip.injWrite_inside (hM.up rfl) hp1) (Chip.genericWrite_inside (hM.up rfl) hp1))))))))

theorem Chip.transfer_inside {z : Chip} {M : ℕ} (hM : Sub 258 M) {p1 : Chip} {p2 : ℕ} {p3 : ℕ} (hp1 : z.Inside M p1) : z.Inside M (Chip.transfer p1 p2 p3) := by
  unfold Chip.transfer
  extract_lets +onlyGivenNames x1
  have hx1 : z.Inside M x1 := Chip.modPwr_inside (hM.up rfl) hp1
  clear_value x1
  exact Chip.put_inside (hM.up rfl) hx1

theorem Chip.sleepWrite_inside {z : Chip} {M : ℕ} (hM : Sub 322 M) {p1 : Chip} {p2 : ℕ} (hp1 : z.Inside M p1) : z.Inside M (Chip.sleepWrite p1 p2) := by
  unfold Chip.sleepWrite
  extract_lets +onlyGivenNames x1
  clear_value x1
  refine .ite (Chip.note_inside (hM.up rfl) (Chip.sets_inside (hM.up rfl) hp1)) ?_
  extract_lets +onlyGivenNames x2
  have hx2 : z.Inside M x2 := Chip.sets_inside (hM.up rfl) hp1
  clear_value x2
  exact Chip.modPwr_inside (hM.up rfl) (Chip.transfer_inside (hM.up rfl) hx2)

theorem Chip.isoAssert_inside {z : Chip} {M : ℕ} (hM : Sub 1048578 M) {p1 : Chip} {p2 : ℕ} (hp1 : z.Inside M p1) : z.Inside M (Chip.isoAssert p1 p2) := by
  unfold Chip.isoAssert
  exact .ite hp1 (Chip.putIso_inside (hM.up rfl) hp1)

theorem Chip.lateStart_inside {z : Chip} {M : ℕ} (hM : Sub 1049346 M) {p1 : Chip} {p2 : ℕ} (hp1 : z.Inside M p1) : z.Inside M (Chip.lateStart p1 p2) := by
  unfold Chip.lateStart
  extract_lets +onlyGivenNames x1
  refine .ite ?_ hp1
  extract_lets +onlyGivenNames x2
  extract_lets +onlyGivenNames x3
  have hx3 : z.Inside M x3 := (Chip.Inside.mk_cfg (hM.up rfl) hp1)
  clear_value x3
  exact Chip.isoAssert_inside (hM.up rfl) (Chip.openGate_inside (hM.up rfl) hx3)

theorem Chip.upWrite_inside {z : Chip} {M : ℕ} (hM : Sub 1049346 M) {p1 : Chip} {p2 : ℕ} (hp1 : z.Inside M p1) : z.Inside M (Chip.upWrite p1 p2) := by
  unfold Chip.upWrite
  exact .ite (Chip.lateStart_inside (hM.up rfl) (Chip.put_inside (hM.up rfl) hp1)) hp1

theorem Chip.rgnCtlWrite_inside {z : Chip} {M : ℕ} (hM : Sub 1049346 M) {p1 : Chip} {p2 : ℕ} (hp1 : z.Inside M p1) : z.Inside M (Chip.rgnCtlWrite p1 p2) := by
  unfold Chip.rgnCtlWrite
  extract_lets +onlyGivenNames x1
  have hx1 : z.Inside M x1 := Chip.sets_inside (hM.up rfl) hp1
  clear_value x1
  extract_lets +onlyGivenNames x2
  have hx2 : z.Inside M x2 := .ite hx1 (Chip.openGate_inside (hM.up rfl) hx1)
  clear_value x2
  extract_lets +onlyGivenNames x3
  have hx3 : z.Inside M x3 := .ite hx2 (Chip.openGate_inside (hM.up rfl) hx2)
  clear_value x3
  extract_lets +onlyGivenNames x4
  have hx4 : z.Inside M x4 := .ite (Chip.upWrite_inside (hM.up rfl) hx3) hx3
  clear_value x4
  exact .ite (Chip.upWrite_inside (hM.up rfl) hx4) hx4

theorem Chip.powerWrite_inside {z : Chip} {M : ℕ} (hM : Sub 1049426 M) {p1 : Chip} {p2 : ℕ} {p3 : ℕ} (hp1 : z.Inside M p1) : z.Inside M (Chip.powerWrite p1 p2 p3) := by
  unfold Chip.powerWrite
  refine .ite (Chip.sleepWrite_inside (hM.up rfl) hp1) ?_
  refine .ite (Chip.rgnCtlWrite_inside (hM.up rfl) hp1) ?_
  refine .ite ?_ (.ite hp1 (Chip.genericWrite_inside (hM.up rfl) hp1))
  extract_lets +onlyGivenNames x1
  have hx1 : z.Inside M x1 := Chip.genericWrite_inside (hM.up rfl) hp1
  clear_value x1
  exact Chip.transfer_inside (hM.up rfl) hx1

theorem Chip.dieRelease_inside {z : Chip} {M : ℕ} (hM : Sub 256 M) {p1 : Chip} (hp1 : z.Inside M p1) : z.Inside M (Chip.dieRelease p1) := by
  unfold Chip.dieRelease
  exact (Chip.Inside.mk_pwr (hM.up rfl) hp1)

theorem Chip.fltDemand_inside {z : Chip} {M : ℕ} (hM : Sub 1708354 M) {p1 : Chip} (hp1 : z.Inside M p1) : z.Inside M (Chip.fltDemand p1) := by
  unfold Chip.fltDemand
  extract_lets +onlyGivenNames x1
  have hx1 : z.Inside M x1 := Chip.allHiz_inside (hM.up rfl) (Chip.sets_inside (hM.up rfl) hp1)
  clear_value x1
  extract_lets +onlyGivenNames x2
  have hx2 : z.Inside M x2 := Chip.firstNote_inside (hM.up rfl) hx1
  clear_value x2
  extract_lets +onlyGivenNames x3
  have hx3 : z.Inside M x3 := Chip.sets_inside (hM.up rfl) hx2
  clear_value x3
  exact Chip.faultAll_inside (hM.up rfl) hx3

theorem Chip.tryRelease_inside {z : Chip} {M : ℕ} (hM : Sub 1708354 M) {p1 : Chip} (hp1 : z.Inside M p1) : z.Inside M (Chip.tryRelease p1) := by
  unfold Chip.tryRelease
  refine .ite ?_ hp1
  extract_lets +onlyGivenNames x1
  have hx1 : z.Inside M x1 := Chip.dieRelease_inside (hM.up rfl) hp1
  clear_value x1
  extract_lets +onlyGivenNames x2
  have hx2 : z.Inside M x2 := .ite (Chip.put_inside (hM.up rfl) hx1) hx1
  clear_value x2
  exact .ite (Chip.fltDemand_inside (hM.up rfl) hx2) hx2

theorem Chip.ledCut_inside {z : Chip} {M : ℕ} (hM : Sub 20 M) {p1 : Chip} (hp1 : z.Inside M p1) : z.Inside M (Chip.ledCut p1) := by
  unfold Chip.ledCut
  exact .each hp1 (fun a1 t2 ht2 => .ite (Chip.useFree_inside (hM.up rfl) (Chip.setBytes_inside (hM.up rfl) ht2)) ht2)

theorem Chip.cfgCut_inside {z : Chip} {M : ℕ} (hM : Sub 532 M) {p1 : Chip} (hp1 : z.Inside M p1) : z.Inside M (Chip.cfgCut p1) := by
  unfold Chip.cfgCut
  extract_lets +onlyGivenNames x1
  have hx1 : z.Inside M x1 := .ite (Chip.useFree_inside (hM.up rfl) (Chip.setBytes_inside (hM.up rfl) hp1)) hp1
  clear_value x1
  refine .ite ?_ hx1
  extract_lets +onlyGivenNames x2
  clear_value x2
  extract_lets +onlyGivenNames x3
  have hx3 : z.Inside M x3 := Chip.useFree_inside (hM.up rfl) hx1
  clear_value x3
  exact (Chip.Inside.mk_cfg (hM.up rfl) hx3)

theorem Chip.hwCut_inside {z : Chip} {M : ℕ} (hM : Sub 20 M) {p1 : Chip} (hp1 : z.Inside M p1) : z.Inside M (Chip.hwCut p1) := by
  unfold Chip.hwCut
  refine .each hp1 ?_
  intro a1 t2 ht2
  split
  · rename_i y3 q4
    refine .ite ?_ ht2
    extract_lets +onlyGivenNames x5
    clear_value x5
    exact Chip.useFree_inside (hM.up rfl) (Chip.setBytes_inside (hM.up rfl) ht2)
  · exact ht2

theorem Chip.dieReset_inside {z : Chip} {M : ℕ} (hM : Sub 2139095039 M) {p1 : Chip} {p2 : ℕ} (hp1 : z.Inside M p1) : z.Inside M (Chip.dieReset p1 p2) :=
  .all hM

theorem Chip.modRgn_inside {z : Chip} {M : ℕ} (hM : Sub 2048 M) {p1 : Chip} {p2 : ℕ} {p3 : RegionS → RegionS} (hp1 : z.Inside M p1) : z.Inside M (Chip.modRgn p1 p2 p3) := by
  unfold Chip.modRgn
  exact (Chip.Inside.mk_rgn (hM.up rfl) hp1)

theorem Chip.showHiz_inside {z : Chip} {M : ℕ} (hM : Sub 2 M) {p1 : Chip} {p2 : ℕ} (hp1 : z.Inside M p1) : z.Inside M (Chip.showHiz p1 p2) := by
  unfold Chip.showHiz
  refine .ite hp1 ?_
  extract_lets +onlyGivenNames x1
  clear_value x1
  exact Chip.put_inside (hM.up rfl) hp1

theorem Chip.hwRegion_inside {z : Chip} {M : ℕ} (hM : Sub 69206018 M) {p1 : Chip} {p2 : ℕ} (hp1 : z.Inside M p1) : z.Inside M (Chip.hwRegion p1 p2) := by
  unfold Chip.hwRegion
  refine .each hp1 ?_
  intro a1 t2 ht2
  extract_lets +onlyGivenNames x3
  clear_value x3
  extract_lets +onlyGivenNames x4
  have hx4 : z.Inside M x4 := .ite (Chip.hwShow_inside (hM.up rfl) (Chip.modDesc_inside (hM.up rfl) (Chip.clrBitOf_inside (hM.up rfl) ht2))) ht2
  clear_value x4
  extract_lets +onlyGivenNames x5
  clear_value x5
  exact .ite (Chip.hwAbort_inside (hM.up rfl) hx4) hx4

theorem Chip.semRegion_inside {z : Chip} {M : ℕ} (hM : Sub 16777218 M) {p1 : Chip} {p2 : ℕ} (hp1 : z.Inside M p1) : z.Inside M (Chip.semRegion p1 p2) := by
  unfold Chip.semRegion
  extract_lets +onlyGivenNames x1
  extract_lets +onlyGivenNames x2
  have hx2 : z.Inside M x2 := (Chip.Inside.mk_sem (hM.up rfl) hp1)
  clear_value x2
  refine .each hx2 ?_
  intro a3 t4 ht4
  extract_lets +onlyGivenNames x5
  clear_value x5
  exact .ite (Chip.semRelease_inside (hM.up rfl) ht4) ht4

theorem Chip.regionDown_inside {z : Chip} {M : ℕ} (hM : Sub 125549054 M) {p1 : Chip} {p2 : ℕ} (hp1 : z.Inside M p1) : z.Inside M (Chip.regionDown p1 p2) := by
  unfold Chip.regionDown
  extract_lets +onlyGivenNames x1
  have hx1 : z.Inside M x1 := Chip.openGate_inside (hM.up rfl) (Chip.modRgn_inside (hM.up rfl) hp1)
  clear_value x1
  extract_lets +onlyGivenNames x2
  have hx2 : z.Inside M x2 := by
    unfold x2
    refine .each hx1 ?_
    intro a3 t4 ht4
    extract_lets +onlyGivenNames x5
    have hx5 : z.Inside M x5 := Chip.endDuplex_inside (hM.up rfl) (Chip.endDuplex_inside (hM.up rfl) ht4)
    clear_value x5
    extract_lets +onlyGivenNames x6
    have hx6 : z.Inside M x6 := .ite (Chip.set_inside (hM.up rfl) hx5) hx5
    clear_value x6
    extract_lets +onlyGivenNames x7
    have hx7 : z.Inside M x7 := Chip.clusterHidden_inside (hM.up rfl) (Chip.clusterRegs_inside (hM.up rfl) hx6)
    clear_value x7
    extract_lets +onlyGivenNames x8
    have hx8 : z.Inside M x8 := Chip.sets_inside (hM.up rfl) hx7
    clear_value x8
    exact Chip.modCl_inside (hM.up rfl) hx8
  clear_value x2
  extract_lets +onlyGivenNames x9
  have hx9 : z.Inside M x9 := by
    unfold x9
    refine .each hx2 ?_
    intro a10 t11 ht11
    extract_lets +onlyGivenNames x12
    have hx12 : z.Inside M x12 := Chip.put_inside (hM.up rfl) ht11
    clear_value x12
    extract_lets +onlyGivenNames x13
    have hx13 : z.Inside M x13 := .ite (Chip.setGate_inside (hM.up rfl) hx12) hx12
    clear_value x13
    extract_lets +onlyGivenNames x14
    have hx14 : z.Inside M x14 := Chip.modSlice_inside (hM.up rfl) hx13
    clear_value x14
    exact Chip.showHiz_inside (hM.up rfl) (Chip.sliceUnitReset_inside (hM.up rfl) hx14)
  clear_value x9
  extract_lets +onlyGivenNames x15
  have hx15 : z.Inside M x15 := by
    unfold x15
    refine .each hx9 ?_
    intro a16 t17 ht17
    extract_lets +onlyGivenNames x18
    clear_value x18
    extract_lets +onlyGivenNames x19
    have hx19 : z.Inside M x19 := Chip.modHart_inside (hM.up rfl) (Chip.resetRange_inside (hM.up rfl) ht17)
    clear_value x19
    exact (Chip.Inside.mk_irq (hM.up rfl) hx19)
  clear_value x15
  extract_lets +onlyGivenNames x20
  clear_value x20
  extract_lets +onlyGivenNames x21
  clear_value x21
  extract_lets +onlyGivenNames x22
  extract_lets +onlyGivenNames x23
  extract_lets +onlyGivenNames x24
  have hx24 : z.Inside M x24 := (Chip.Inside.mk_mem_ecc_fab_bus_memS (hM.up rfl) hx15)
  clear_value x24
  exact Chip.refreshHolds_inside (hM.up rfl) (.each (Chip.hwRegion_inside (hM.up rfl) (Chip.semRegion_inside (hM.up rfl) hx24)) (fun a25 t26 ht26 => Chip.demandBegins_inside (hM.up rfl) ht26))

theorem Chip.regionReset_inside {z : Chip} {M : ℕ} (hM : Sub 125549054 M) {p1 : Chip} {p2 : ℕ} {p3 : Field} (hp1 : z.Inside M p1) : z.Inside M (Chip.regionReset p1 p2 p3) := by
  unfold Chip.regionReset
  extract_lets +onlyGivenNames x1
  have hx1 : z.Inside M x1 := Chip.put_inside (hM.up rfl) hp1
  clear_value x1
  extract_lets +onlyGivenNames x2
  have hx2 : z.Inside M x2 := Chip.record_inside (hM.up rfl) hx1
  clear_value x2
  exact Chip.regionDown_inside (hM.up rfl) hx2

theorem Chip.rgnAsked_inside {z : Chip} {M : ℕ} (hM : Sub 125549054 M) {p1 : Chip} {p2 : ℕ} {p3 : Field} (hp1 : z.Inside M p1) : z.Inside M (Chip.rgnAsked p1 p2 p3) := by
  unfold Chip.rgnAsked
  exact .ite hp1 (Chip.regionReset_inside (hM.up rfl) hp1)

theorem Chip.rstCtlWrite_inside {z : Chip} {M : ℕ} (hM : Sub 2139095039 M) {p1 : Chip} {p2 : ℕ} (hp1 : z.Inside M p1) : z.Inside M (Chip.rstCtlWrite p1 p2) :=
  .all hM

theorem Chip.tokenReject_inside {z : Chip} {M : ℕ} (hM : Sub 66 M) {p1 : Chip} {p2 : ℕ} (hp1 : z.Inside M p1) : z.Inside M (Chip.tokenReject p1 p2) := by
  unfold Chip.tokenReject
  exact Chip.note_inside (hM.up rfl) (Chip.put_inside (hM.up rfl) (Chip.set_inside (hM.up rfl) hp1))

theorem Chip.tokenWrite_inside {z : Chip} {M : ℕ} (hM : Sub 578 M) {p1 : Chip} {p2 : ℕ} (hp1 : z.Inside M p1) : z.Inside M (Chip.tokenWrite p1 p2) := by
  unfold Chip.tokenWrite
  extract_lets +onlyGivenNames x1
  clear_value x1
  exact .ite hp1 (.ite (Chip.note_inside (hM.up rfl) (Chip.set_inside (hM.up rfl) hp1)) (.ite (Chip.tokenReject_inside (hM.up rfl) hp1) (Chip.put_inside (hM.up rfl) (Chip.modCfg_inside (hM.up rfl) hp1))))

theorem Chip.testHolds_inside {z : Chip} {M : ℕ} (hM : Sub 135234 M) {p1 : Chip} {p2 : ℕ} (hp1 : z.Inside M p1) : z.Inside M (Chip.testHolds p1 p2) := by
  unfold Chip.testHolds
  exact .each hp1 (fun a1 t2 ht2 => Chip.demandBegins_inside (hM.up rfl) ht2)

theorem Chip.showSt_inside {z : Chip} {M : ℕ} (hM : Sub 2 M) {p1 : Chip} (hp1 : z.Inside M p1) : z.Inside M (Chip.showSt p1) := by
  unfold Chip.showSt
  exact Chip.put_inside (hM.up rfl) hp1

theorem Chip.fullStart_inside {z : Chip} {M : ℕ} (hM : Sub 125549566 M) {p1 : Chip} {p2 : ℕ} (hp1 : z.Inside M p1) : z.Inside M (Chip.fullStart p1 p2) := by
  unfold Chip.fullStart
  extract_lets +onlyGivenNames x1
  clear_value x1
  refine .ite hp1 ?_
  refine .ite (Chip.refuse_inside (hM.up rfl) hp1) ?_
  extract_lets +onlyGivenNames x2
  have hx2 : z.Inside M x2 := Chip.modCfg_inside (hM.up rfl) (Chip.put_inside (hM.up rfl) hp1)
  clear_value x2
  exact Chip.testHolds_inside (hM.up rfl) (Chip.regionDown_inside (hM.up rfl) (Chip.record_inside (hM.up rfl) (Chip.showSt_inside (hM.up rfl) hx2)))

theorem Chip.repairStart_inside {z : Chip} {M : ℕ} (hM : Sub 82 M) {p1 : Chip} (hp1 : z.Inside M p1) : z.Inside M (Chip.repairStart p1) := by
  unfold Chip.repairStart
  extract_lets +onlyGivenNames x1
  clear_value x1
  exact .ite hp1 (.ite (Chip.refuse_inside (hM.up rfl) hp1) (Chip.showSt_inside (hM.up rfl) (Chip.put_inside (hM.up rfl) hp1)))

theorem Chip.stWrite_inside {z : Chip} {M : ℕ} (hM : Sub 125549566 M) {p1 : Chip} {p2 : ℕ} (hp1 : z.Inside M p1) : z.Inside M (Chip.stWrite p1 p2) := by
  unfold Chip.stWrite
  extract_lets +onlyGivenNames x1
  have hx1 : z.Inside M x1 := .ite (Chip.fullStart_inside (hM.up rfl) hp1) hp1
  clear_value x1
  extract_lets +onlyGivenNames x2
  have hx2 : z.Inside M x2 := .ite (Chip.fullStart_inside (hM.up rfl) hx1) hx1
  clear_value x2
  exact .ite (Chip.repairStart_inside (hM.up rfl) hx2) hx2

theorem Chip.cfgWrite_inside {z : Chip} {M : ℕ} (hM : Sub 2139095039 M) {p1 : Chip} {p2 : ℕ} {p3 : ℕ} (hp1 : z.Inside M p1) : z.Inside M (Chip.cfgWrite p1 p2 p3) :=
  .all hM

theorem Chip.gpioDrive_inside {z : Chip} {M : ℕ} (hM : Sub 512 M) {p1 : Chip} (hp1 : z.Inside M p1) : z.Inside M (Chip.gpioDrive p1) := by
  unfold Chip.gpioDrive
  extract_lets +onlyGivenNames x1
  clear_value x1
  extract_lets +onlyGivenNames x2
  clear_value x2
  exact Chip.modCfg_inside (hM.up rfl) hp1

theorem Chip.gpioOut_inside {z : Chip} {M : ℕ} (hM : Sub 514 M) {p1 : Chip} {p2 : ℕ} (hp1 : z.Inside M p1) : z.Inside M (Chip.gpioOut p1 p2) := by
  unfold Chip.gpioOut
  exact Chip.gpioDrive_inside (hM.up rfl) (Chip.set_inside (hM.up rfl) hp1)

theorem Chip.gpioWrite_inside {z : Chip} {M : ℕ} (hM : Sub 594 M) {p1 : Chip} {p2 : ℕ} {p3 : ℕ} (hp1 : z.Inside M p1) : z.Inside M (Chip.gpioWrite p1 p2 p3) := by
  unfold Chip.gpioWrite
  extract_lets +onlyGivenNames x1
  clear_value x1
  exact .ite (Chip.gpioOut_inside (hM.up rfl) hp1) (.ite (Chip.gpioOut_inside (hM.up rfl) hp1) (.ite (Chip.gpioOut_inside (hM.up rfl) hp1) (.ite (Chip.gpioDrive_inside (hM.up rfl) (Chip.set_inside (hM.up rfl) hp1)) (Chip.genericWrite_inside (hM.up rfl) hp1))))

theorem Chip.blockWrite_inside {z : Chip} {M : ℕ} (hM : Sub 2139095039 M) {p1 : Chip} {p2 : Requester} {p3 : ℕ} {p4 : ℕ} (hp1 : z.Inside M p1) : z.Inside M (Chip.blockWrite p1 p2 p3 p4) :=
  .all hM

theorem Chip.markIslands_inside {z : Chip} {M : ℕ} (hM : Sub 524290 M) {p1 : Chip} (hp1 : z.Inside M p1) : z.Inside M (Chip.markIslands p1) := by
  unfold Chip.markIslands
  exact .each hp1 (fun a1 t2 ht2 => .ite (Chip.set_inside (hM.up rfl) (Chip.modIsl_inside (hM.up rfl) ht2)) (.ite (Chip.modIsl_inside (hM.up rfl) ht2) ht2))

theorem Chip.safetyWords_inside {z : Chip} {M : ℕ} (hM : Sub 2 M) {p1 : Chip} {p2 : ℕ} (hp1 : z.Inside M p1) : z.Inside M (Chip.safetyWords p1 p2) := by
  unfold Chip.safetyWords
  exact Chip.sets_inside (hM.up rfl) hp1

theorem Chip.bootAccept_inside {z : Chip} {M : ℕ} (hM : Sub 527618 M) {p1 : Chip} {p2 : ℕ} {p3 : Bool} (hp1 : z.Inside M p1) : z.Inside M (Chip.bootAccept p1 p2 p3) := by
  unfold Chip.bootAccept
  extract_lets +onlyGivenNames x1
  extract_lets +onlyGivenNames x2
  have hx2 : z.Inside M x2 := (Chip.Inside.mk_img (hM.up rfl) hp1)
  clear_value x2
  extract_lets +onlyGivenNames x3
  have hx3 : z.Inside M x3 := Chip.set_inside (hM.up rfl) hx2
  clear_value x3
  extract_lets +onlyGivenNames x4
  have hx4 : z.Inside M x4 := Chip.sets_inside (hM.up rfl) hx3
  clear_value x4
  extract_lets +onlyGivenNames x5
  clear_value x5
  extract_lets +onlyGivenNames x6
  clear_value x6
  extract_lets +onlyGivenNames x7
  clear_value x7
  extract_lets +onlyGivenNames x8
  have hx8 : z.Inside M x8 := .ite (Chip.put_inside (hM.up rfl) hx4) hx4
  clear_value x8
  extract_lets +onlyGivenNames x9
  have hx9 : z.Inside M x9 := Chip.showReq_inside (hM.up rfl) (Chip.modPwr_inside (hM.up rfl) hx8)
  clear_value x9
  extract_lets +onlyGivenNames x10
  have hx10 : z.Inside M x10 := .each hx9 (fun a11 t12 ht12 => Chip.modRgn_inside (hM.up rfl) ht12)
  clear_value x10
  exact .each (Chip.markIslands_inside (hM.up rfl) hx10) (fun a13 t14 ht14 => Chip.safetyWords_inside (hM.up rfl) ht14)

theorem Chip.bootEnd_inside {z : Chip} {M : ℕ} (hM : Sub 2097734 M) {p1 : Chip} {p2 : Bool} {p3 : ℕ} (hp1 : z.Inside M p1) : z.Inside M (Chip.bootEnd p1 p2 p3) := by
  unfold Chip.bootEnd
  split
  · exact hp1
  · rename_i y3 q4
    extract_lets +onlyGivenNames x5
    have hx5 : z.Inside M x5 := Chip.put_inside (hM.up rfl) (Chip.dropWrite_inside (hM.up rfl) (Chip.modCfg_inside (hM.up rfl) hp1))
    clear_value x5
    exact .ite (Chip.put_inside (hM.up rfl) (Chip.bootStore_inside (hM.up rfl) hx5)) (Chip.note_inside (hM.up rfl) (Chip.put_inside (hM.up rfl) hx5))

theorem Chip.haltPartner_inside {z : Chip} {M : ℕ} (hM : Sub 1708354 M) {p1 : Chip} {p2 : ℕ} {p3 : ℕ} (hp1 : z.Inside M p1) : z.Inside M (Chip.haltPartner p1 p2 p3) := by
  unfold Chip.haltPartner
  refine .ite ?_ hp1
  extract_lets +onlyGivenNames x1
  clear_value x1
  exact Chip.stand_inside (hM.up rfl) hp1

theorem Chip.slotFail_inside {z : Chip} {M : ℕ} (hM : Sub 1710402 M) {p1 : Chip} {p2 : ℕ} {p3 : ℕ} {p4 : ℕ} (hp1 : z.Inside M p1) : z.Inside M (Chip.slotFail p1 p2 p3 p4) := by
  unfold Chip.slotFail
  extract_lets +onlyGivenNames x1
  have hx1 : z.Inside M x1 := Chip.record_inside (hM.up rfl) hp1
  clear_value x1
  extract_lets +onlyGivenNames x2
  have hx2 : z.Inside M x2 := Chip.put_inside (hM.up rfl) hx1
  clear_value x2
  extract_lets +onlyGivenNames x3
  have hx3 : z.Inside M x3 := Chip.record_inside (hM.up rfl) hx2
  clear_value x3
  exact Chip.refreshHolds_inside (hM.up rfl) (Chip.haltPartner_inside (hM.up rfl) (Chip.modRgn_inside (hM.up rfl) hx3))

theorem Chip.repairRows_inside {z : Chip} {M : ℕ} (hM : Sub 578 M) {p1 : List (Fin 16 × ℕ)} {p2 : Chip} (hp2 : z.Inside M p2) :
    z.Inside M (Chip.repairRows p1 p2).1 := by
  induction p1 generalizing p2 with
  | nil => exact hp2
  | cons a l ih => exact .iteP hp2 (ih (Chip.note_inside (hM.up rfl) (Chip.modCfg_inside (hM.up rfl) hp2)))

theorem Chip.showSpares_inside {z : Chip} {M : ℕ} (hM : Sub 2 M) {p1 : Chip} (hp1 : z.Inside M p1) : z.Inside M (Chip.showSpares p1) := by
  unfold Chip.showSpares
  exact Chip.set_inside (hM.up rfl) hp1

theorem Chip.storeRepairs_inside {z : Chip} {M : ℕ} (hM : Sub 20 M) {p1 : Chip} (hp1 : z.Inside M p1) : z.Inside M (Chip.storeRepairs p1) := by
  unfold Chip.storeRepairs
  extract_lets +onlyGivenNames x1
  exact Chip.useFree_inside (hM.up rfl) (Chip.setBytes_inside (hM.up rfl) (Chip.setBytes_inside (hM.up rfl) hp1))

theorem Chip.repairsWritten_inside {z : Chip} {M : ℕ} (hM : Sub 2097686 M) {p1 : Chip} (hp1 : z.Inside M p1) : z.Inside M (Chip.repairsWritten p1) := by
  unfold Chip.repairsWritten
  exact Chip.storeRepairs_inside (hM.up rfl) (Chip.modCfg_inside (hM.up rfl) (Chip.dropWrite_inside (hM.up rfl) hp1))

theorem Chip.repairsSubmit_inside {z : Chip} {M : ℕ} (hM : Sub 2097750 M) {p1 : Chip} (hp1 : z.Inside M p1) : z.Inside M (Chip.repairsSubmit p1) := by
  unfold Chip.repairsSubmit
  refine .ite hp1 ?_
  extract_lets +onlyGivenNames x1
  have hx1 : z.Inside M x1 := Chip.submitWrite_inside (hM.up rfl) hp1
  clear_value x1
  exact .ite (Chip.repairsWritten_inside (hM.up rfl) hx1) hx1

theorem Chip.slotTests_inside {z : Chip} {M : ℕ} (hM : Sub 3808086 M) {p1 : Chip} {p2 : ℕ} {p3 : SlotOutcome} (hp1 : z.Inside M p1) : z.Inside M (Chip.slotTests p1 p2 p3).1 := by
  unfold Chip.slotTests
  refine .iteP (.fst (Chip.set_inside (hM.up rfl) (Chip.slotFail_inside (hM.up rfl) hp1))) ?_
  extract_lets +onlyGivenNames x1
  clear_value x1
  extract_lets +onlyGivenNames x2
  have hx2 : z.Inside M x2.1 := by
    unfold x2
    exact Chip.repairRows_inside (hM.up rfl) hp1
  clear_value x2
  extract_lets +onlyGivenNames x3
  have hx3 : z.Inside M x3 := hx2
  clear_value x3
  extract_lets +onlyGivenNames x4
  extract_lets +onlyGivenNames x5
  have hx5 : z.Inside M x5 := Chip.showSpares_inside (hM.up rfl) (.ite (Chip.repairsSubmit_inside (hM.up rfl) hx3) hx3)
  clear_value x5
  split
  · exact .fst (Chip.set_inside (hM.up rfl) (Chip.slotFail_inside (hM.up rfl) hx5))
  · exact .fst (Chip.set_inside (hM.up rfl) hx5)

theorem Chip.fabricLoad_inside {z : Chip} {M : ℕ} (hM : Sub 4 M) {p1 : Chip} {p2 : ℕ} (hp1 : z.Inside M p1) : z.Inside M (Chip.fabricLoad p1 p2) := by
  unfold Chip.fabricLoad
  split
  · exact Chip.setBytes_inside (hM.up rfl) hp1
  · exact hp1

theorem Chip.eccFresh_inside {z : Chip} {M : ℕ} (hM : Sub 8 M) {p1 : Chip} {p2 : ℕ} {p3 : ℕ} (hp1 : z.Inside M p1) : z.Inside M (Chip.eccFresh p1 p2 p3) := by
  unfold Chip.eccFresh
  exact (Chip.Inside.mk_ecc (hM.up rfl) hp1)

theorem Chip.copySection_inside {z : Chip} {M : ℕ} (hM : Sub 12 M) {p1 : Chip} {p2 : ℕ} {p3 : Section} (hp1 : z.Inside M p1) : z.Inside M (Chip.copySection p1 p2 p3) := by
  unfold Chip.copySection
  extract_lets +onlyGivenNames x1
  refine .ite ?_ (.ite (Chip.eccFresh_inside (hM.up rfl) (Chip.setBytes_inside (hM.up rfl) (Chip.eccFresh_inside (hM.up rfl) (Chip.setBytes_inside (hM.up rfl) hp1)))) hp1)
  extract_lets +onlyGivenNames x2
  clear_value x2
  exact Chip.eccFresh_inside (hM.up rfl) (Chip.setBytes_inside (hM.up rfl) hp1)

theorem Chip.regionOpen_inside {z : Chip} {M : ℕ} (hM : Sub 2050 M) {p1 : Chip} {p2 : ℕ} (hp1 : z.Inside M p1) : z.Inside M (Chip.regionOpen p1 p2) := by
  unfold Chip.regionOpen
  extract_lets +onlyGivenNames x1
  have hx1 : z.Inside M x1 := Chip.put_inside (hM.up rfl) (Chip.modRgn_inside (hM.up rfl) hp1)
  clear_value x1
  exact .each hx1 (fun a2 t3 ht3 => Chip.motorWords_inside (hM.up rfl) ht3)

theorem Chip.unitWord_inside {z : Chip} {M : ℕ} (hM : Sub 2139095039 M) {p1 : Chip} {p2 : ℕ} {p3 : ℕ} (hp1 : z.Inside M p1) : z.Inside M (Chip.unitWord p1 p2 p3) :=
  .all hM

theorem Chip.unitWords_inside {z : Chip} {M : ℕ} (hM : Sub 2139095039 M) {p1 : ℕ → Bool} {p2 : ℕ} {p3 : List ℕ} {p4 : Chip} (hp4 : z.Inside M p4) : z.Inside M (Chip.unitWords p1 p2 p3 p4) :=
  .all hM

theorem Chip.rawStart_inside {z : Chip} {M : ℕ} (hM : Sub 131074 M) {p1 : Chip} {p2 : ℕ} (hp1 : z.Inside M p1) : z.Inside M (Chip.rawStart p1 p2) := by
  unfold Chip.rawStart
  split
  · rename_i y1 y2 q3
    extract_lets +onlyGivenNames x4
    clear_value x4
    extract_lets +onlyGivenNames x5
    have hx5 : z.Inside M x5 := Chip.modSlice_inside (hM.up rfl) hp1
    clear_value x5
    exact Chip.restartOutputs_inside (hM.up rfl) hx5

theorem Chip.joinCarrier_inside {z : Chip} {M : ℕ} (hM : Sub 131074 M) {p1 : Chip} {p2 : ℕ} (hp1 : z.Inside M p1) : z.Inside M (Chip.joinCarrier p1 p2) := by
  unfold Chip.joinCarrier
  extract_lets +onlyGivenNames x1
  clear_value x1
  extract_lets +onlyGivenNames x2
  have hx2 : z.Inside M x2 := Chip.sets_inside (hM.up rfl) (Chip.accrue_inside (hM.up rfl) hp1)
  clear_value x2
  exact Chip.modSlice_inside (hM.up rfl) hx2

theorem Chip.startCarrier_inside {z : Chip} {M : ℕ} (hM : Sub 131074 M) {p1 : Chip} {p2 : ℕ} (hp1 : z.Inside M p1) : z.Inside M (Chip.startCarrier p1 p2) := by
  unfold Chip.startCarrier
  extract_lets +onlyGivenNames x1
  have hx1 : z.Inside M x1 := Chip.put_inside (hM.up rfl) (Chip.accrue_inside (hM.up rfl) hp1)
  clear_value x1
  extract_lets +onlyGivenNames x2
  have hx2 : z.Inside M x2 := Chip.set_inside (hM.up rfl) (Chip.set_inside (hM.up rfl) hx1)
  clear_value x2
  exact Chip.modSlice_inside (hM.up rfl) hx2

theorem Chip.skipReload_inside {z : Chip} {M : ℕ} (hM : Sub 131138 M) {p1 : Chip} {p2 : ℕ} (hp1 : z.Inside M p1) : z.Inside M (Chip.skipReload p1 p2) := by
  unfold Chip.skipReload
  extract_lets +onlyGivenNames x1
  clear_value x1
  extract_lets +onlyGivenNames x2
  have hx2 : z.Inside M x2 := Chip.modSlice_inside (hM.up rfl) hp1
  clear_value x2
  refine .ite ?_ hx2
  extract_lets +onlyGivenNames x3
  have hx3 : z.Inside M x3 := Chip.put_inside (hM.up rfl) (Chip.modSlice_inside (hM.up rfl) hx2)
  clear_value x3
  exact Chip.record_inside (hM.up rfl) hx3

theorem Chip.startGate_inside {z : Chip} {M : ℕ} (hM : Sub 131074 M) {p1 : Chip} {p2 : ℕ} (hp1 : z.Inside M p1) : z.Inside M (Chip.startGate p1 p2) := by
  unfold Chip.startGate
  split
  · exact .ite (Chip.setGate_inside (hM.up rfl) hp1) hp1
  · exact hp1

theorem Chip.takeShadows_inside {z : Chip} {M : ℕ} (hM : Sub 131074 M) {p1 : Chip} {p2 : ℕ} {p3 : Bool} (hp1 : z.Inside M p1) : z.Inside M (Chip.takeShadows p1 p2 p3) := by
  unfold Chip.takeShadows
  extract_lets +onlyGivenNames x1
  have hx1 : z.Inside M x1 := Chip.copyShadows_inside (hM.up rfl) hp1
  clear_value x1
  extract_lets +onlyGivenNames x2
  clear_value x2
  extract_lets +onlyGivenNames x3
  have hx3 : z.Inside M x3 := .ite (Chip.modSlice_inside (hM.up rfl) (Chip.set_inside (hM.up rfl) hx1)) hx1
  clear_value x3
  exact Chip.modSlice_inside (hM.up rfl) hx3

theorem Chip.releaseHeld_inside {z : Chip} {M : ℕ} (hM : Sub 131074 M) {p1 : Chip} {p2 : ℕ} (hp1 : z.Inside M p1) : z.Inside M (Chip.releaseHeld p1 p2) := by
  unfold Chip.releaseHeld
  exact .ite (Chip.restartOutputs_inside (hM.up rfl) (Chip.modSlice_inside (hM.up rfl) hp1)) hp1

theorem Chip.reloadPoint_inside {z : Chip} {M : ℕ} (hM : Sub 131138 M) {p1 : Chip} {p2 : ℕ} {p3 : Bool} (hp1 : z.Inside M p1) : z.Inside M (Chip.reloadPoint p1 p2 p3) := by
  unfold Chip.reloadPoint
  extract_lets +onlyGivenNames x1
  clear_value x1
  extract_lets +onlyGivenNames x2
  have hx2 : z.Inside M x2 := .ite (Chip.skipReload_inside (hM.up rfl) hp1) (Chip.startGate_inside (hM.up rfl) (Chip.takeShadows_inside (hM.up rfl) hp1))
  clear_value x2
  extract_lets +onlyGivenNames x3
  clear_value x3
  extract_lets +onlyGivenNames x4
  have hx4 : z.Inside M x4 := .ite (Chip.put_inside (hM.up rfl) hx2) hx2
  clear_value x4
  extract_lets +onlyGivenNames x5
  have hx5 : z.Inside M x5 := Chip.releaseHeld_inside (hM.up rfl) hx4
  clear_value x5
  exact .ite (Chip.restartOutputs_inside (hM.up rfl) hx5) hx5

theorem Chip.startSlice_inside {z : Chip} {M : ℕ} (hM : Sub 1708354 M) {p1 : Chip} {p2 : ℕ} (hp1 : z.Inside M p1) : z.Inside M (Chip.startSlice p1 p2) := by
  unfold Chip.startSlice
  extract_lets +onlyGivenNames x1
  have hx1 : z.Inside M x1 := Chip.modSlice_inside (hM.up rfl) hp1
  clear_value x1
  extract_lets +onlyGivenNames x2
  refine .ite (Chip.checkSlice_inside (hM.up rfl) (Chip.showHiz_inside (hM.up rfl) (Chip.rawStart_inside (hM.up rfl) (Chip.joinCarrier_inside (hM.up rfl) hx1)))) ?_
  extract_lets +onlyGivenNames x3
  have hx3 : z.Inside M x3 := Chip.syncCheck_inside (hM.up rfl) (Chip.startCarrier_inside (hM.up rfl) hx1)
  clear_value x3
  extract_lets +onlyGivenNames x4
  have hx4 : z.Inside M x4 := .ite (Chip.setGate_inside (hM.up rfl) hx3) hx3
  clear_value x4
  extract_lets +onlyGivenNames x5
  have hx5 : z.Inside M x5 := Chip.reloadPoint_inside (hM.up rfl) (Chip.put_inside (hM.up rfl) hx4)
  clear_value x5
  exact Chip.checkSlice_inside (hM.up rfl) (Chip.showHiz_inside (hM.up rfl) (Chip.rawStart_inside (hM.up rfl) hx5))

theorem Chip.startCarriers_inside {z : Chip} {M : ℕ} (hM : Sub 1708354 M) {p1 : Chip} {p2 : ℕ} (hp1 : z.Inside M p1) : z.Inside M (Chip.startCarriers p1 p2) := by
  unfold Chip.startCarriers
  exact .each hp1 (fun a1 t2 ht2 => Chip.startSlice_inside (hM.up rfl) ht2)

theorem Chip.regionUp_inside {z : Chip} {M : ℕ} (hM : Sub 1708354 M) {p1 : Chip} {p2 : ℕ} (hp1 : z.Inside M p1) : z.Inside M (Chip.regionUp p1 p2) := by
  unfold Chip.regionUp
  extract_lets +onlyGivenNames x1
  have hx1 : z.Inside M x1 := by
    unfold x1
    refine .each hp1 ?_
    intro a2 t3 ht3
    extract_lets +onlyGivenNames x4
    have hx4 : z.Inside M x4 := Chip.put_inside (hM.up rfl) (Chip.showLists_inside (hM.up rfl) ht3)
    clear_value x4
    exact Chip.modCl_inside (hM.up rfl) hx4
  clear_value x1
  extract_lets +onlyGivenNames x5
  have hx5 : z.Inside M x5 := .each hx1 (fun a6 t7 ht7 => Chip.modSlice_inside (hM.up rfl) ht7)
  clear_value x5
  extract_lets +onlyGivenNames x8
  have hx8 : z.Inside M x8 := Chip.startCarriers_inside (hM.up rfl) hx5
  clear_value x8
  exact Chip.refreshHolds_inside (hM.up rfl) (.each hx8 (fun a9 t10 ht10 => Chip.modCl_inside (hM.up rfl) ht10))

theorem Chip.slotRest_inside {z : Chip} {M : ℕ} (hM : Sub 2139095039 M) {p1 : Chip} {p2 : ℕ} {p3 : SlotOutcome} {p4 : ℕ → Bool} (hp1 : z.Inside M p1) : z.Inside M (Chip.slotRest p1 p2 p3 p4).1 :=
  .all hM

theorem Chip.regionSlot_inside {z : Chip} {M : ℕ} (hM : Sub 2139095039 M) {p1 : Chip} {p2 : ℕ} {p3 : SlotOutcome} {p4 : Bool} (hp1 : z.Inside M p1) : z.Inside M (Chip.regionSlot p1 p2 p3 p4) :=
  .all hM

theorem Chip.cmpTest_inside {z : Chip} {M : ℕ} (hM : Sub 1708354 M) {p1 : Chip} {p2 : List ℕ} {p3 : List (Fin 16 × Fin 4)} (hp1 : z.Inside M p1) : z.Inside M (Chip.cmpTest p1 p2 p3) := by
  unfold Chip.cmpTest
  extract_lets +onlyGivenNames x1
  have hx1 : z.Inside M x1 := .each hp1 (fun a2 t3 ht3 => Chip.clrBitOf_inside (hM.up rfl) ht3)
  clear_value x1
  refine .each hx1 ?_
  intro a4 t5 ht5
  extract_lets +onlyGivenNames x6
  clear_value x6
  refine .ite ht5 ?_
  extract_lets +onlyGivenNames x7
  have hx7 : z.Inside M x7 := Chip.setBitOf_inside (hM.up rfl) ht5
  clear_value x7
  extract_lets +onlyGivenNames x8
  clear_value x8
  split
  · exact Chip.faultCl_inside (hM.up rfl) hx7
  · exact Chip.record_inside (hM.up rfl) hx7

theorem Chip.diffTest_inside {z : Chip} {M : ℕ} (hM : Sub 1710402 M) {p1 : Chip} {p2 : ℕ} {p3 : ℕ} (hp1 : z.Inside M p1) : z.Inside M (Chip.diffTest p1 p2 p3) := by
  unfold Chip.diffTest
  extract_lets +onlyGivenNames x1
  extract_lets +onlyGivenNames x2
  refine .ite (Chip.set_inside (hM.up rfl) hp1) ?_
  refine .ite (Chip.modRgn_inside (hM.up rfl) (Chip.sets_inside (hM.up rfl) hp1)) ?_
  extract_lets +onlyGivenNames x3
  have hx3 : z.Inside M x3 := Chip.modRgn_inside (hM.up rfl) (Chip.sets_inside (hM.up rfl) hp1)
  clear_value x3
  exact Chip.faultAll_inside (hM.up rfl) hx3

theorem Chip.handshakeStop_inside {z : Chip} {M : ℕ} (hM : Sub 524354 M) {p1 : Chip} {p2 : ℕ} (hp1 : z.Inside M p1) : z.Inside M (Chip.handshakeStop p1 p2) := by
  unfold Chip.handshakeStop
  exact Chip.calibrateDue_inside (hM.up rfl) (Chip.modIsl_inside (hM.up rfl) hp1)

theorem Chip.handshakeFail_inside {z : Chip} {M : ℕ} (hM : Sub 1708354 M) {p1 : Chip} {p2 : ℕ} (hp1 : z.Inside M p1) : z.Inside M (Chip.handshakeFail p1 p2) := by
  unfold Chip.handshakeFail
  extract_lets +onlyGivenNames x1
  have hx1 : z.Inside M x1 := Chip.islShow_inside (hM.up rfl) (Chip.handshakeStop_inside (hM.up rfl) (Chip.modIsl_inside (hM.up rfl) hp1))
  clear_value x1
  extract_lets +onlyGivenNames x2
  have hx2 : z.Inside M x2 := Chip.put_inside (hM.up rfl) hx1
  clear_value x2
  split
  · exact Chip.faultCl_inside (hM.up rfl) hx2
  · exact Chip.record_inside (hM.up rfl) hx2

theorem Chip.handshakeDone_inside {z : Chip} {M : ℕ} (hM : Sub 1773890 M) {p1 : Chip} {p2 : ℕ} (hp1 : z.Inside M p1) : z.Inside M (Chip.handshakeDone p1 p2) := by
  unfold Chip.handshakeDone
  extract_lets +onlyGivenNames x1
  have hx1 : z.Inside M x1 := Chip.modIsl_inside (hM.up rfl) hp1
  clear_value x1
  extract_lets +onlyGivenNames x2
  have hx2 : z.Inside M x2 := Chip.islShow_inside (hM.up rfl) hx1
  clear_value x2
  extract_lets +onlyGivenNames x3
  have hx3 : z.Inside M x3 := Chip.sets_inside (hM.up rfl) hx2
  clear_value x3
  split
  · exact Chip.tryLeaveSafe_inside (hM.up rfl) hx3
  · exact hx3

theorem Chip.ownTake_inside {z : Chip} {M : ℕ} (hM : Sub 524288 M) {p1 : Chip} {p2 : ℕ} {p3 : ℕ} (hp1 : z.Inside M p1) : z.Inside M (Chip.ownTake p1 p2 p3) := by
  unfold Chip.ownTake
  extract_lets +onlyGivenNames x1
  clear_value x1
  exact Chip.modIsl_inside (hM.up rfl) hp1

theorem Chip.mirrorsIn_inside {z : Chip} {M : ℕ} (hM : Sub 524290 M) {p1 : Chip} {p2 : ℕ} (hp1 : z.Inside M p1) : z.Inside M (Chip.mirrorsIn p1 p2) := by
  unfold Chip.mirrorsIn
  extract_lets +onlyGivenNames x1
  have hx1 : z.Inside M x1 := .each hp1 (fun a2 t3 ht3 => Chip.ownTake_inside (hM.up rfl) ht3)
  clear_value x1
  extract_lets +onlyGivenNames x4
  have hx4 : z.Inside M x4 := Chip.modIsl_inside (hM.up rfl) hx1
  clear_value x4
  exact Chip.clamp_inside (hM.up rfl) (Chip.put_inside (hM.up rfl) hx4)

theorem Chip.handshakeWhole_inside {z : Chip} {M : ℕ} (hM : Sub 1773890 M) {p1 : Chip} {p2 : ℕ} (hp1 : z.Inside M p1) : z.Inside M (Chip.handshakeWhole p1 p2) := by
  unfold Chip.handshakeWhole
  exact Chip.handshakeDone_inside (hM.up rfl) (Chip.mirrorsIn_inside (hM.up rfl) hp1)

theorem Chip.slotHandshake_inside {z : Chip} {M : ℕ} (hM : Sub 1773890 M) {p1 : Chip} {p2 : List ℕ} {p3 : TestOutcome} (hp1 : z.Inside M p1) : z.Inside M (Chip.slotHandshake p1 p2 p3) := by
  unfold Chip.slotHandshake
  refine .ite hp1 ?_
  extract_lets +onlyGivenNames x1
  extract_lets +onlyGivenNames x2
  have hx2 : z.Inside M x2 := .each hp1 (fun a3 t4 ht4 => Chip.modIsl_inside (hM.up rfl) ht4)
  clear_value x2
  extract_lets +onlyGivenNames x5
  extract_lets +onlyGivenNames x6
  extract_lets +onlyGivenNames x7
  extract_lets +onlyGivenNames x8
  have hx8 : z.Inside M x8 := .each hx2 (fun a9 t10 ht10 => Chip.handshakeFail_inside (hM.up rfl) ht10)
  clear_value x8
  extract_lets +onlyGivenNames x11
  have hx11 : z.Inside M x11 := Chip.calibrateAll_inside (hM.up rfl) hx8
  clear_value x11
  exact .each hx11 (fun a12 t13 ht13 => Chip.handshakeWhole_inside (hM.up rfl) ht13)

theorem Chip.heldRun_inside {z : Chip} {M : ℕ} (hM : Sub 1773890 M) {p1 : Chip} {p2 : ℕ} (hp1 : z.Inside M p1) : z.Inside M (Chip.heldRun p1 p2) := by
  unfold Chip.heldRun
  extract_lets +onlyGivenNames x1
  have hx1 : z.Inside M x1 := Chip.refall_inside (hM.up rfl) hp1
  clear_value x1
  exact .ite (Chip.startRun_inside (hM.up rfl) hx1) hx1

theorem Chip.bootRegions_inside {z : Chip} {M : ℕ} (hM : Sub 2139095039 M) {p1 : Chip} {p2 : BootOutcome} (hp1 : z.Inside M p1) : z.Inside M (Chip.bootRegions p1 p2) :=
  .all hM

theorem Chip.bootImage_inside {z : Chip} {M : ℕ} (hM : Sub 2139095039 M) {p1 : Chip} {p2 : BootOutcome} (hp1 : z.Inside M p1) : z.Inside M (Chip.bootImage p1 p2) :=
  .all hM

theorem Chip.newNonce_inside {z : Chip} {M : ℕ} (hM : Sub 18 M) {p1 : Chip} (hp1 : z.Inside M p1) : z.Inside M (Chip.newNonce p1) := by
  unfold Chip.newNonce
  extract_lets +onlyGivenNames x1
  have hx1 : z.Inside M x1 := Chip.useFree_inside (hM.up rfl) (Chip.set_inside (hM.up rfl) hp1)
  clear_value x1
  exact Chip.useFree_inside (hM.up rfl) (Chip.set_inside (hM.up rfl) hx1)

theorem Chip.bootStepTwo_inside {z : Chip} {M : ℕ} (hM : Sub 594 M) {p1 : Chip} (hp1 : z.Inside M p1) : z.Inside M (Chip.bootStepTwo p1) := by
  unfold Chip.bootStepTwo
  extract_lets +onlyGivenNames x1
  clear_value x1
  extract_lets +onlyGivenNames x2
  extract_lets +onlyGivenNames x3
  extract_lets +onlyGivenNames x4
  have hx4 : z.Inside M x4 := Chip.sets_inside (hM.up rfl) hp1
  clear_value x4
  extract_lets +onlyGivenNames x5
  have hx5 : z.Inside M x5 := .each hx4 (fun a6 t7 ht7 => Chip.record_inside (hM.up rfl) ht7)
  clear_value x5
  extract_lets +onlyGivenNames x8
  have hx8 : z.Inside M x8 := .ite (Chip.note_inside (hM.up rfl) hx5) hx5
  clear_value x8
  extract_lets +onlyGivenNames x9
  have hx9 : z.Inside M x9 := .each hx8 (fun a10 t11 ht11 => Chip.note_inside (hM.up rfl) ht11)
  clear_value x9
  extract_lets +onlyGivenNames x12
  have hx12 : z.Inside M x12 := Chip.modCfg_inside (hM.up rfl) hx9
  clear_value x12
  extract_lets +onlyGivenNames x13
  clear_value x13
  exact Chip.newNonce_inside (hM.up rfl) (Chip.sets_inside (hM.up rfl) hx12)

theorem Chip.bootRun_inside {z : Chip} {M : ℕ} (hM : Sub 2139095039 M) {p1 : Chip} {p2 : BootOutcome} (hp1 : z.Inside M p1) : z.Inside M (Chip.bootRun p1 p2) :=
  .all hM

theorem Chip.bsNote_inside {z : Chip} {M : ℕ} (hM : Sub 66 M) {p1 : Chip} {p2 : ℕ} {p3 : ℕ} (hp1 : z.Inside M p1) : z.Inside M (Chip.bsNote p1 p2 p3) := by
  unfold Chip.bsNote
  exact .ite hp1 (Chip.record_inside (hM.up rfl) (Chip.put_inside (hM.up rfl) hp1))

theorem Chip.busOff_inside {z : Chip} {M : ℕ} (hM : Sub 402653254 M) {p1 : Chip} {p2 : ℕ} {p3 : ℕ} (hp1 : z.Inside M p1) : z.Inside M (Chip.busOff p1 p2 p3) := by
  unfold Chip.busOff
  extract_lets +onlyGivenNames x1
  have hx1 : z.Inside M x1 := Chip.sets_inside (hM.up rfl) hp1
  clear_value x1
  extract_lets +onlyGivenNames x2
  have hx2 : z.Inside M x2 := Chip.note_inside (hM.up rfl) hx1
  clear_value x2
  extract_lets +onlyGivenNames x3
  have hx3 : z.Inside M x3 := Chip.modCan_inside (hM.up rfl) hx2
  clear_value x3
  extract_lets +onlyGivenNames x4
  have hx4 : z.Inside M x4 := Chip.bufsEnd_inside (hM.up rfl) hx3
  clear_value x4
  exact .ite (Chip.modPort_inside (hM.up rfl) (Chip.sesFailAll_inside (hM.up rfl) hx4)) hx4

theorem Chip.hostDenied_inside {z : Chip} {M : ℕ} (hM : Sub 67108930 M) {p1 : Chip} {p2 : ℕ} (hp1 : z.Inside M p1) : z.Inside M (Chip.hostDenied p1 p2) := by
  unfold Chip.hostDenied
  extract_lets +onlyGivenNames x1
  have hx1 : z.Inside M x1 := Chip.sets_inside (hM.up rfl) (Chip.modHw_inside (hM.up rfl) hp1)
  clear_value x1
  exact Chip.note_inside (hM.up rfl) hx1

theorem Chip.flagWrite_inside {z : Chip} {M : ℕ} (hM : Sub 70 M) {p1 : Chip} {p2 : Requester} {p3 : ℕ} {p4 : ℕ} (hp1 : z.Inside M p1) : z.Inside M (Chip.flagWrite p1 p2 p3 p4) := by
  unfold Chip.flagWrite
  exact .ite (Chip.ownViolation_inside (hM.up rfl) hp1) (Chip.flagPut_inside (hM.up rfl) hp1)

theorem Chip.discard_inside {z : Chip} {M : ℕ} (hM : Sub 66 M) {p1 : Chip} {p2 : Requester} {p3 : ℕ} {p4 : Bool} {p5 : ℕ} (hp1 : z.Inside M p1) : z.Inside M (Chip.discard p1 p2 p3 p4 p5) := by
  unfold Chip.discard
  extract_lets +onlyGivenNames x1
  have hx1 : z.Inside M x1 := Chip.sets_inside (hM.up rfl) hp1
  clear_value x1
  extract_lets +onlyGivenNames x2
  have hx2 : z.Inside M x2 := Chip.firstNote_inside (hM.up rfl) hx1
  clear_value x2
  split
  · exact Chip.privateSrc_inside (hM.up rfl) hx2
  · exact hx2

theorem Chip.reachGate_inside {z : Chip} {M : ℕ} (hM : Sub 258 M) {p1 : Chip} {p2 : ℕ} (hp1 : z.Inside M p1) : z.Inside M (Chip.reachGate p1 p2) := by
  unfold Chip.reachGate
  split
  · exact .ite (Chip.openGate_inside (hM.up rfl) hp1) hp1
  · exact hp1

theorem Chip.landWrite_inside {z : Chip} {M : ℕ} (hM : Sub 2139095039 M) {p1 : Chip} {p2 : Requester} {p3 : ℕ} {p4 : ℕ} (hp1 : z.Inside M p1) : z.Inside M (Chip.landWrite p1 p2 p3 p4) :=
  .all hM

theorem Chip.regWrite_inside {z : Chip} {M : ℕ} (hM : Sub 2139095039 M) {p1 : Chip} {p2 : Requester} {p3 : ℕ} {p4 : ℕ} (hp1 : z.Inside M p1) : z.Inside M (Chip.regWrite p1 p2 p3 p4) :=
  .all hM

theorem Chip.hostEffect_inside {z : Chip} {M : ℕ} (hM : Sub 2139095039 M) {p1 : Chip} {p2 : ℕ} {p3 : ℕ} {p4 : ℕ} (hp1 : z.Inside M p1) : z.Inside M (Chip.hostEffect p1 p2 p3 p4) :=
  .all hM

theorem Chip.setEcc_inside {z : Chip} {M : ℕ} (hM : Sub 8 M) {p1 : Chip} {p2 : ℕ} {p3 : ℕ} (hp1 : z.Inside M p1) : z.Inside M (Chip.setEcc p1 p2 p3) := by
  unfold Chip.setEcc
  exact (Chip.Inside.mk_ecc (hM.up rfl) hp1)

theorem Chip.eccWritten_inside {z : Chip} {M : ℕ} (hM : Sub 10 M) {p1 : Chip} {p2 : ℕ} (hp1 : z.Inside M p1) : z.Inside M (Chip.eccWritten p1 p2) := by
  unfold Chip.eccWritten
  extract_lets +onlyGivenNames x1
  clear_value x1
  extract_lets +onlyGivenNames x2
  clear_value x2
  exact .ite (Chip.put_inside (hM.up rfl) (Chip.setEcc_inside (hM.up rfl) hp1)) (Chip.setEcc_inside (hM.up rfl) hp1)

theorem Chip.storeWord_inside {z : Chip} {M : ℕ} (hM : Sub 78 M) {p1 : Chip} {p2 : Requester} {p3 : ℕ} {p4 : ℕ} {p5 : List Byte} (hp1 : z.Inside M p1) : z.Inside M (Chip.storeWord p1 p2 p3 p4 p5) := by
  unfold Chip.storeWord
  refine .ite (Chip.setBytes_inside (hM.up rfl) hp1) ?_
  refine .ite (Chip.discard_inside (hM.up rfl) hp1) ?_
  extract_lets +onlyGivenNames x1
  have hx1 : z.Inside M x1 := Chip.setBytes_inside (hM.up rfl) hp1
  clear_value x1
  split
  · exact Chip.eccWritten_inside (hM.up rfl) hx1
  · exact Chip.setEcc_inside (hM.up rfl) hx1

theorem Chip.flagStore_inside {z : Chip} {M : ℕ} (hM : Sub 70 M) {p1 : Chip} {p2 : Requester} {p3 : ℕ} {p4 : ℕ} {p5 : ℕ} (hp1 : z.Inside M p1) : z.Inside M (Chip.flagStore p1 p2 p3 p4 p5) := by
  unfold Chip.flagStore
  exact .ite (Chip.flagWrite_inside (hM.up rfl) hp1) hp1

theorem Chip.swapCancel_inside {z : Chip} {M : ℕ} (hM : Sub 4162 M) {p1 : Chip} {p2 : ℕ} {p3 : ℕ} (hp1 : z.Inside M p1) : z.Inside M (Chip.swapCancel p1 p2 p3) := by
  unfold Chip.swapCancel
  refine .ite hp1 ?_
  extract_lets +onlyGivenNames x1
  have hx1 : z.Inside M x1 := Chip.put_inside (hM.up rfl) (Chip.setBitOf_inside (hM.up rfl) (Chip.putSwap_inside (hM.up rfl) hp1))
  clear_value x1
  extract_lets +onlyGivenNames x2
  have hx2 : z.Inside M x2 := .ite (Chip.modCl_inside (hM.up rfl) hx1) hx1
  clear_value x2
  exact Chip.noteCl_inside (hM.up rfl) hx2

theorem Chip.ldrStore_inside {z : Chip} {M : ℕ} (hM : Sub 4166 M) {p1 : Chip} {p2 : ℕ} {p3 : List Byte} (hp1 : z.Inside M p1) : z.Inside M (Chip.ldrStore p1 p2 p3) := by
  unfold Chip.ldrStore
  extract_lets +onlyGivenNames x1
  clear_value x1
  extract_lets +onlyGivenNames x2
  clear_value x2
  split
  · exact Chip.setBytes_inside (hM.up rfl) hp1
  · exact .ite (Chip.ldrRefuse_inside (hM.up rfl) hp1) (.ite (Chip.ldrRefuse_inside (hM.up rfl) hp1) (Chip.setBytes_inside (hM.up rfl) (Chip.swapCancel_inside (hM.up rfl) hp1)))

theorem Chip.storeRun_inside {z : Chip} {M : ℕ} (hM : Sub 78 M) {p1 : Chip} {p2 : Requester} {p3 : ℕ} {p4 : List Byte} (hp1 : z.Inside M p1) : z.Inside M (Chip.storeRun p1 p2 p3 p4) := by
  unfold Chip.storeRun
  exact .each hp1 (fun a1 t2 ht2 => Chip.storeWord_inside (hM.up rfl) ht2)

theorem Chip.coreEffect_inside {z : Chip} {M : ℕ} (hM : Sub 2139095039 M) {p1 : Chip} {p2 : Requester} {p3 : ℕ} {p4 : ℕ} {p5 : ℕ} (hp1 : z.Inside M p1) : z.Inside M (Chip.coreEffect p1 p2 p3 p4 p5) :=
  .all hM

theorem Chip.effect_inside {z : Chip} {M : ℕ} (hM : Sub 2139095039 M) {p1 : Chip} {p2 : Posted} (hp1 : z.Inside M p1) : z.Inside M (Chip.effect p1 p2) :=
  .all hM

theorem Chip.effectAt_inside {z : Chip} {M : ℕ} (hM : Sub 2139095039 M) {p1 : Chip} {p2 : ℕ} (hp1 : z.Inside M p1) : z.Inside M (Chip.effectAt p1 p2) :=
  .all hM

theorem Chip.busTick_inside {z : Chip} {M : ℕ} (hM : Sub 2139095039 M) {p1 : Chip} (hp1 : z.Inside M p1) : z.Inside M (Chip.busTick p1) :=
  .all hM

theorem Chip.canConf_inside {z : Chip} {M : ℕ} (hM : Sub 66 M) {p1 : Chip} {p2 : ℕ} (hp1 : z.Inside M p1) : z.Inside M (Chip.canConf p1 p2) := by
  unfold Chip.canConf
  extract_lets +onlyGivenNames x1
  clear_value x1
  extract_lets +onlyGivenNames x2
  clear_value x2
  extract_lets +onlyGivenNames x3
  clear_value x3
  exact .ite hp1 (.ite (.ite hp1 (Chip.note_inside (hM.up rfl) (Chip.sets_inside (hM.up rfl) hp1))) (Chip.set_inside (hM.up rfl) hp1))

theorem Chip.txRetry_inside {z : Chip} {M : ℕ} (hM : Sub 402653254 M) {p1 : Chip} {p2 : ℕ} (hp1 : z.Inside M p1) : z.Inside M (Chip.txRetry p1 p2) := by
  unfold Chip.txRetry
  split
  · exact hp1
  · rename_i y3 y4 q5
    extract_lets +onlyGivenNames x6
    clear_value x6
    extract_lets +onlyGivenNames x7
    have hx7 : z.Inside M x7 := Chip.modCan_inside (hM.up rfl) hp1
    clear_value x7
    exact .ite (Chip.bufEnd_inside (hM.up rfl) hx7) (.ite (Chip.bufEnd_inside (hM.up rfl) hx7) hx7)

theorem Chip.canError_inside {z : Chip} {M : ℕ} (hM : Sub 402653254 M) {p1 : Chip} {p2 : ℕ} {p3 : CanError} (hp1 : z.Inside M p1) : z.Inside M (Chip.canError p1 p2 p3) := by
  unfold Chip.canError
  refine .ite hp1 ?_
  extract_lets +onlyGivenNames x1
  clear_value x1
  extract_lets +onlyGivenNames x2
  have hx2 : z.Inside M x2 := Chip.sets_inside (hM.up rfl) hp1
  clear_value x2
  extract_lets +onlyGivenNames x3
  have hx3 : z.Inside M x3 := Chip.modCan_inside (hM.up rfl) hx2
  clear_value x3
  refine .ite (.ite (Chip.txRetry_inside (hM.up rfl) hx3) hx3) ?_
  extract_lets +onlyGivenNames x4
  clear_value x4
  extract_lets +onlyGivenNames x5
  clear_value x5
  refine .ite ?_ ?_
  · extract_lets +onlyGivenNames x6
    clear_value x6
    extract_lets +onlyGivenNames x7
    clear_value x7
    extract_lets +onlyGivenNames x8
    clear_value x8
    extract_lets +onlyGivenNames x9
    have hx9 : z.Inside M x9 := .ite (Chip.ackError_inside (hM.up rfl) hx3) hx3
    clear_value x9
    extract_lets +onlyGivenNames x10
    have hx10 : z.Inside M x10 := .ite (Chip.busOff_inside (hM.up rfl) hx9) (Chip.txRetry_inside (hM.up rfl) (Chip.canConf_inside (hM.up rfl) (Chip.set_inside (hM.up rfl) hx9)))
    clear_value x10
    exact .ite (Chip.bitErrorSeen_inside (hM.up rfl) hx10) hx10
  · extract_lets +onlyGivenNames x11
    clear_value x11
    exact Chip.canConf_inside (hM.up rfl) (Chip.set_inside (hM.up rfl) hx3)

theorem Chip.recLower_inside {z : Chip} {M : ℕ} (hM : Sub 82 M) {p1 : Chip} {p2 : ℕ} (hp1 : z.Inside M p1) : z.Inside M (Chip.recLower p1 p2) := by
  unfold Chip.recLower
  extract_lets +onlyGivenNames x1
  clear_value x1
  exact .ite hp1 (.ite (Chip.canConf_inside (hM.up rfl) (Chip.set_inside (hM.up rfl) hp1)) (Chip.canConf_inside (hM.up rfl) (Chip.useFree_inside (hM.up rfl) (Chip.set_inside (hM.up rfl) hp1))))

theorem Chip.fifoPut_inside {z : Chip} {M : ℕ} (hM : Sub 134217794 M) {p1 : Chip} {p2 : ℕ} {p3 : RxFrame} (hp1 : z.Inside M p1) : z.Inside M (Chip.fifoPut p1 p2 p3) := by
  unfold Chip.fifoPut
  refine .ite ?_ ?_
  · extract_lets +onlyGivenNames x1
    have hx1 : z.Inside M x1 := Chip.bump_inside (hM.up rfl) hp1
    clear_value x1
    exact Chip.firstNote_inside (hM.up rfl) hx1
  · extract_lets +onlyGivenNames x2
    have hx2 : z.Inside M x2 := Chip.modCan_inside (hM.up rfl) hp1
    clear_value x2
    exact Chip.sets_inside (hM.up rfl) hx2

theorem Chip.hpPut_inside {z : Chip} {M : ℕ} (hM : Sub 134217730 M) {p1 : Chip} {p2 : ℕ} {p3 : RxFrame} (hp1 : z.Inside M p1) : z.Inside M (Chip.hpPut p1 p2 p3) := by
  unfold Chip.hpPut
  extract_lets +onlyGivenNames x1
  have hx1 : z.Inside M x1 := .ite (Chip.put_inside (hM.up rfl) (Chip.bump_inside (hM.up rfl) hp1)) hp1
  clear_value x1
  exact Chip.put_inside (hM.up rfl) (Chip.modCan_inside (hM.up rfl) hx1)

theorem Chip.safeMsg_inside {z : Chip} {M : ℕ} (hM : Sub 270250322 M) {p1 : Chip} {p2 : ℕ} {p3 : ℕ} {p4 : List Byte} (hp1 : z.Inside M p1) : z.Inside M (Chip.safeMsg p1 p2 p3 p4) := by
  unfold Chip.safeMsg
  extract_lets +onlyGivenNames x1
  clear_value x1
  extract_lets +onlyGivenNames x2
  clear_value x2
  extract_lets +onlyGivenNames x3
  clear_value x3
  extract_lets +onlyGivenNames x4
  clear_value x4
  extract_lets +onlyGivenNames x5
  clear_value x5
  refine .ite hp1 ?_
  split
  · exact Chip.modPorch_inside (hM.up rfl) hp1
  · rename_i y8 y9 q10
    extract_lets +onlyGivenNames x11
    clear_value x11
    extract_lets +onlyGivenNames x12
    have hx12 : z.Inside M x12 := .ite hp1 (Chip.modPorch_inside (hM.up rfl) hp1)
    clear_value x12
    refine .ite hx12 ?_
    extract_lets +onlyGivenNames x13
    have hx13 : z.Inside M x13 := Chip.modCl_inside (hM.up rfl) hx12
    clear_value x13
    exact .ite (Chip.ss1Begin_inside (hM.up rfl) hx13) (.ite (Chip.pcSto_inside (hM.up rfl) hx13) (Chip.set_inside (hM.up rfl) hx13))

theorem Chip.claimLost_inside {z : Chip} {M : ℕ} (hM : Sub 402653270 M) {p1 : Chip} {p2 : ℕ} (hp1 : z.Inside M p1) : z.Inside M (Chip.claimLost p1 p2) := by
  unfold Chip.claimLost
  extract_lets +onlyGivenNames x1
  clear_value x1
  extract_lets +onlyGivenNames x2
  split
  · exact Chip.claimAt_inside (hM.up rfl) (Chip.note_inside (hM.up rfl) hp1)
  · extract_lets +onlyGivenNames x7
    have hx7 : z.Inside M x7 := Chip.sesFailAll_inside (hM.up rfl) (Chip.note_inside (hM.up rfl) hp1)
    clear_value x7
    extract_lets +onlyGivenNames x8
    have hx8 : z.Inside M x8 := Chip.modPort_inside (hM.up rfl) (Chip.useFree_inside (hM.up rfl) hx7)
    clear_value x8
    exact Chip.portSet_inside (hM.up rfl) hx8

theorem Chip.claimRx_inside {z : Chip} {M : ℕ} (hM : Sub 402653270 M) {p1 : Chip} {p2 : ℕ} {p3 : ℕ} {p4 : ℕ} (hp1 : z.Inside M p1) : z.Inside M (Chip.claimRx p1 p2 p3 p4) := by
  unfold Chip.claimRx
  extract_lets +onlyGivenNames x1
  clear_value x1
  extract_lets +onlyGivenNames x2
  clear_value x2
  extract_lets +onlyGivenNames x3
  have hx3 : z.Inside M x3 := .ite hp1 (Chip.modPort_inside (hM.up rfl) hp1)
  clear_value x3
  exact .ite hx3 (.ite (Chip.claimSend_inside (hM.up rfl) (Chip.addrConflict_inside (hM.up rfl) hx3)) (.ite (Chip.claimLost_inside (hM.up rfl) (Chip.note_inside (hM.up rfl) hx3)) (Chip.claimLost_inside (hM.up rfl) hx3)))

theorem Chip.statusSend_inside {z : Chip} {M : ℕ} (hM : Sub 402653202 M) {p1 : Chip} {p2 : ℕ} {p3 : ℕ} {p4 : Bool} (hp1 : z.Inside M p1) : z.Inside M (Chip.statusSend p1 p2 p3 p4) := by
  unfold Chip.statusSend
  extract_lets +onlyGivenNames x1
  clear_value x1
  extract_lets +onlyGivenNames x2
  extract_lets +onlyGivenNames x3
  have hx3 : z.Inside M x3 := .ite (Chip.useFree_inside (hM.up rfl) hp1) hp1
  clear_value x3
  exact Chip.porchSend_inside (hM.up rfl) (Chip.modPort_inside (hM.up rfl) hx3)

theorem Chip.requestRx_inside {z : Chip} {M : ℕ} (hM : Sub 402653202 M) {p1 : Chip} {p2 : ℕ} {p3 : ℕ} {p4 : ℕ} {p5 : ℕ} (hp1 : z.Inside M p1) : z.Inside M (Chip.requestRx p1 p2 p3 p4 p5) := by
  unfold Chip.requestRx
  extract_lets +onlyGivenNames x1
  clear_value x1
  extract_lets +onlyGivenNames x2
  clear_value x2
  refine .ite (.ite (Chip.claimSend_inside (hM.up rfl) hp1) (.ite (Chip.cannotSend_inside (hM.up rfl) hp1) hp1)) ?_
  refine .ite hp1 ?_
  extract_lets +onlyGivenNames x3
  clear_value x3
  split
  · exact Chip.statusSend_inside (hM.up rfl) hp1
  · refine .ite ?_ (.ite (Chip.ackSend_inside (hM.up rfl) hp1) hp1)
    refine .ite (.ite (Chip.ackSend_inside (hM.up rfl) hp1) hp1) ?_
    extract_lets +onlyGivenNames x8
    have hx8 : z.Inside M x8 := Chip.sets_inside (hM.up rfl) hp1
    clear_value x8
    exact Chip.modPorch_inside (hM.up rfl) hx8

theorem Chip.sesCts_inside {z : Chip} {M : ℕ} (hM : Sub 402653186 M) {p1 : Chip} {p2 : ℕ} (hp1 : z.Inside M p1) : z.Inside M (Chip.sesCts p1 p2) := by
  unfold Chip.sesCts
  extract_lets +onlyGivenNames x1
  extract_lets +onlyGivenNames x2
  clear_value x2
  extract_lets +onlyGivenNames x3
  clear_value x3
  extract_lets +onlyGivenNames x4
  have hx4 : z.Inside M x4 := Chip.modSes_inside (hM.up rfl) hp1
  clear_value x4
  extract_lets +onlyGivenNames x5
  exact Chip.tpCm_inside (hM.up rfl) hx4

theorem Chip.rxOpen_inside {z : Chip} {M : ℕ} (hM : Sub 402653186 M) {p1 : Chip} {p2 : ℕ} {p3 : ℕ} {p4 : ℕ} {p5 : ℕ} {p6 : ℕ} {p7 : ℕ} {p8 : Bool} {p9 : Bool} (hp1 : z.Inside M p1) : z.Inside M (Chip.rxOpen p1 p2 p3 p4 p5 p6 p7 p8 p9) := by
  unfold Chip.rxOpen
  extract_lets +onlyGivenNames x1
  have hx1 : z.Inside M x1 := Chip.sets_inside (hM.up rfl) hp1
  clear_value x1
  extract_lets +onlyGivenNames x2
  have hx2 : z.Inside M x2 := Chip.modSes_inside (hM.up rfl) hx1
  clear_value x2
  exact .ite hx2 (Chip.sesCts_inside (hM.up rfl) hx2)

theorem Chip.tpCmRx_inside {z : Chip} {M : ℕ} (hM : Sub 402653254 M) {p1 : Chip} {p2 : ℕ} {p3 : Bool} {p4 : ℕ} {p5 : ℕ} {p6 : List Byte} (hp1 : z.Inside M p1) : z.Inside M (Chip.tpCmRx p1 p2 p3 p4 p5 p6) := by
  unfold Chip.tpCmRx
  extract_lets +onlyGivenNames x1
  clear_value x1
  extract_lets +onlyGivenNames x2
  clear_value x2
  extract_lets +onlyGivenNames x3
  refine .ite hp1 ?_
  refine .ite ?_ ?_
  · split
    · exact .ite (Chip.sesEnd_inside (hM.up rfl) hp1) hp1
    · exact hp1
  · refine .ite ?_ ?_
    · extract_lets +onlyGivenNames x8
      clear_value x8
      refine .ite (Chip.tpAbort_inside (hM.up rfl) hp1) ?_
      refine .ite (Chip.tpAbort_inside (hM.up rfl) hp1) ?_
      refine .ite (Chip.tpAbort_inside (hM.up rfl) hp1) ?_
      split
      · exact Chip.rxOpen_inside (hM.up rfl) hp1
      · exact Chip.tpAbort_inside (hM.up rfl) hp1
    · refine .ite ?_ ?_
      · refine .ite hp1 ?_
        split
        · exact .ite (Chip.rxOpen_inside (hM.up rfl) hp1) hp1
        · exact Chip.bump_inside (hM.up rfl) hp1
      · refine .ite ?_ ?_
        · extract_lets +onlyGivenNames x17
          clear_value x17
          refine .ite (Chip.tpAbort_inside (hM.up rfl) hp1) ?_
          split
          · exact Chip.rxOpen_inside (hM.up rfl) hp1
          · exact Chip.tpAbort_inside (hM.up rfl) hp1
        · refine .ite ?_ ?_
          · split
            · exact hp1
            · rename_i y24 q25
              extract_lets +onlyGivenNames x26
              clear_value x26
              extract_lets +onlyGivenNames x27
              clear_value x27
              refine .ite hp1 ?_
              refine .ite (Chip.modSes_inside (hM.up rfl) hp1) ?_
              refine .ite hp1 ?_
              extract_lets +onlyGivenNames x28
              extract_lets +onlyGivenNames x29
              clear_value x29
              refine .ite (Chip.sesAbort_inside (hM.up rfl) hp1) ?_
              extract_lets +onlyGivenNames x30
              extract_lets +onlyGivenNames x31
              have hx31 : z.Inside M x31 := Chip.modSes_inside (hM.up rfl) hp1
              clear_value x31
              exact .ite (Chip.tpCm_inside (hM.up rfl) hx31) (Chip.sesData_inside (hM.up rfl) hx31)
          · refine .ite ?_ ?_
            · split
              · exact .ite (Chip.sesEnd_inside (hM.up rfl) hp1) hp1
              · exact hp1
            · refine .ite ?_ hp1
              split
              · exact .ite (Chip.modSes_inside (hM.up rfl) hp1) hp1
              · exact hp1

theorem Chip.commanded_inside {z : Chip} {M : ℕ} (hM : Sub 402653250 M) {p1 : Chip} {p2 : ℕ} {p3 : ℕ} {p4 : ℕ} (hp1 : z.Inside M p1) : z.Inside M (Chip.commanded p1 p2 p3 p4) := by
  unfold Chip.commanded
  refine .ite ?_ hp1
  extract_lets +onlyGivenNames x1
  clear_value x1
  exact Chip.claimAt_inside (hM.up rfl) (Chip.modPort_inside (hM.up rfl) (Chip.note_inside (hM.up rfl) hp1))

theorem Chip.tpDtRx_inside {z : Chip} {M : ℕ} (hM : Sub 402653254 M) {p1 : Chip} {p2 : ℕ} {p3 : Bool} {p4 : ℕ} {p5 : ℕ} {p6 : List Byte} (hp1 : z.Inside M p1) : z.Inside M (Chip.tpDtRx p1 p2 p3 p4 p5 p6) := by
  unfold Chip.tpDtRx
  split
  · exact hp1
  · rename_i y3 q4
    extract_lets +onlyGivenNames x5
    extract_lets +onlyGivenNames x6
    clear_value x6
    extract_lets +onlyGivenNames x7
    clear_value x7
    refine .ite hp1 ?_
    refine .ite ?_ ?_
    · refine .ite (Chip.sesEnd_inside (hM.up rfl) hp1) ?_
      extract_lets +onlyGivenNames x8
      clear_value x8
      exact .ite (Chip.sesAbort_inside (hM.up rfl) hp1) (Chip.sesCts_inside (hM.up rfl) (Chip.modSes_inside (hM.up rfl) hp1))
    · extract_lets +onlyGivenNames x9
      clear_value x9
      extract_lets +onlyGivenNames x10
      have hx10 : z.Inside M x10 := Chip.setBytes_inside (hM.up rfl) hp1
      clear_value x10
      extract_lets +onlyGivenNames x11
      have hx11 : z.Inside M x11 := Chip.modSes_inside (hM.up rfl) hx10
      clear_value x11
      refine .ite ?_ (.ite (Chip.sesCts_inside (hM.up rfl) hx11) hx11)
      extract_lets +onlyGivenNames x12
      clear_value x12
      extract_lets +onlyGivenNames x13
      have hx13 : z.Inside M x13 := .ite hx11 (.ite (Chip.tpCm_inside (hM.up rfl) hx11) (Chip.tpCm_inside (hM.up rfl) hx11))
      clear_value x13
      extract_lets +onlyGivenNames x14
      have hx14 : z.Inside M x14 := Chip.sesEnd_inside (hM.up rfl) hx13
      clear_value x14
      exact .ite (Chip.commanded_inside (hM.up rfl) hx14) hx14

theorem Chip.cmdCheck_inside {z : Chip} {M : ℕ} (hM : Sub 66 M) {p1 : Chip} {p2 : ℕ} {p3 : ℕ} {p4 : ℕ} (hp1 : z.Inside M p1) : z.Inside M (Chip.cmdCheck p1 p2 p3 p4) := by
  unfold Chip.cmdCheck
  exact Chip.note_inside (hM.up rfl) hp1

theorem Chip.cmdReject_inside {z : Chip} {M : ℕ} (hM : Sub 66 M) {p1 : Chip} {p2 : ℕ} {p3 : ℕ} {p4 : ℕ} {p5 : ℕ} (hp1 : z.Inside M p1) : z.Inside M (Chip.cmdReject p1 p2 p3 p4 p5) := by
  unfold Chip.cmdReject
  exact Chip.cmdCheck_inside (hM.up rfl) (Chip.bump_inside (hM.up rfl) hp1)

theorem Chip.checkedRx_inside {z : Chip} {M : ℕ} (hM : Sub 402653250 M) {p1 : Chip} {p2 : ℕ} {p3 : ℕ} {p4 : List Byte} (hp1 : z.Inside M p1) : z.Inside M (Chip.checkedRx p1 p2 p3 p4) := by
  unfold Chip.checkedRx
  extract_lets +onlyGivenNames x1
  clear_value x1
  extract_lets +onlyGivenNames x2
  clear_value x2
  extract_lets +onlyGivenNames x3
  clear_value x3
  extract_lets +onlyGivenNames x4
  clear_value x4
  refine .ite (Chip.cmdCheck_inside (hM.up rfl) (Chip.ackSend_inside (hM.up rfl) hp1)) ?_
  refine .ite (Chip.cmdReject_inside (hM.up rfl) hp1) ?_
  extract_lets +onlyGivenNames x5
  clear_value x5
  extract_lets +onlyGivenNames x6
  clear_value x6
  split
  · exact Chip.modPort_inside (hM.up rfl) hp1
  · rename_i y9 y10 q11
    extract_lets +onlyGivenNames x12
    clear_value x12
    refine .ite (Chip.cmdReject_inside (hM.up rfl) hp1) ?_
    extract_lets +onlyGivenNames x13
    have hx13 : z.Inside M x13 := Chip.modPort_inside (hM.up rfl) hp1
    clear_value x13
    refine .ite (Chip.cmdReject_inside (hM.up rfl) hx13) ?_
    extract_lets +onlyGivenNames x14
    clear_value x14
    extract_lets +onlyGivenNames x15
    have hx15 : z.Inside M x15 := .ite (Chip.set_inside (hM.up rfl) hx13) (.ite (Chip.set_inside (hM.up rfl) hx13) (Chip.set_inside (hM.up rfl) hx13))
    clear_value x15
    extract_lets +onlyGivenNames x16
    have hx16 : z.Inside M x16 := Chip.setBitOf_inside (hM.up rfl) (Chip.set_inside (hM.up rfl) hx15)
    clear_value x16
    extract_lets +onlyGivenNames x17
    have hx17 : z.Inside M x17 := Chip.modPorch_inside (hM.up rfl) hx16
    clear_value x17
    extract_lets +onlyGivenNames x18
    have hx18 : z.Inside M x18 := Chip.modPort_inside (hM.up rfl) hx17
    clear_value x18
    exact Chip.put_inside (hM.up rfl) hx18

theorem Chip.porchRx_inside {z : Chip} {M : ℕ} (hM : Sub 402653270 M) {p1 : Chip} {p2 : ℕ} {p3 : CanFrame} (hp1 : z.Inside M p1) : z.Inside M (Chip.porchRx p1 p2 p3) := by
  unfold Chip.porchRx
  refine .ite hp1 ?_
  extract_lets +onlyGivenNames x1
  clear_value x1
  extract_lets +onlyGivenNames x2
  clear_value x2
  split
  · rename_i y3 y4 q5
    extract_lets +onlyGivenNames x6
    clear_value x6
    extract_lets +onlyGivenNames x7
    have hx7 : z.Inside M x7 := .ite (Chip.claimSend_inside (hM.up rfl) (Chip.addrConflict_inside (hM.up rfl) hp1)) hp1
    clear_value x7
    extract_lets +onlyGivenNames x8
    clear_value x8
    exact .ite (.ite (Chip.claimRx_inside (hM.up rfl) hx7) hx7) (.ite hx7 (.ite (.ite (Chip.requestRx_inside (hM.up rfl) hx7) hx7) (.ite (.ite (Chip.tpCmRx_inside (hM.up rfl) hx7) hx7) (.ite (.ite (Chip.tpDtRx_inside (hM.up rfl) hx7) hx7) (.ite (Chip.checkedRx_inside (hM.up rfl) hx7) hx7)))))

theorem Chip.frameRx_inside {z : Chip} {M : ℕ} (hM : Sub 404468054 M) {p1 : Chip} {p2 : ℕ} {p3 : CanFrame} {p4 : ℕ} {p5 : Bool} (hp1 : z.Inside M p1) : z.Inside M (Chip.frameRx p1 p2 p3 p4 p5) := by
  unfold Chip.frameRx
  extract_lets +onlyGivenNames x1
  clear_value x1
  extract_lets +onlyGivenNames x2
  extract_lets +onlyGivenNames x3
  clear_value x3
  extract_lets +onlyGivenNames x4
  clear_value x4
  extract_lets +onlyGivenNames x5
  clear_value x5
  extract_lets +onlyGivenNames x6
  have hx6 : z.Inside M x6 := by
    unfold x6
    refine .ite hp1 ?_
    split
    · exact Chip.fifoPut_inside (hM.up rfl) hp1
    · exact Chip.hpPut_inside (hM.up rfl) hp1
    · exact hp1
  clear_value x6
  exact .ite (Chip.safeMsg_inside (hM.up rfl) (Chip.hpPut_inside (hM.up rfl) hx6)) (.ite hx6 (Chip.porchRx_inside (hM.up rfl) hx6))

theorem Chip.canRx_inside {z : Chip} {M : ℕ} (hM : Sub 404468054 M) {p1 : Chip} {p2 : ℕ} {p3 : CanFrame} {p4 : ℕ} (hp1 : z.Inside M p1) : z.Inside M (Chip.canRx p1 p2 p3 p4) := by
  unfold Chip.canRx
  refine .ite hp1 ?_
  refine .ite (Chip.canError_inside (hM.up rfl) hp1) ?_
  extract_lets +onlyGivenNames x1
  have hx1 : z.Inside M x1 := Chip.modCan_inside (hM.up rfl) hp1
  clear_value x1
  extract_lets +onlyGivenNames x2
  have hx2 : z.Inside M x2 := .ite hx1 (Chip.recLower_inside (hM.up rfl) hx1)
  clear_value x2
  exact Chip.frameRx_inside (hM.up rfl) hx2

theorem Chip.canStop_inside {z : Chip} {M : ℕ} (hM : Sub 402653254 M) {p1 : Chip} (hp1 : z.Inside M p1) : z.Inside M (Chip.canStop p1) := by
  unfold Chip.canStop
  refine .each hp1 ?_
  intro a1 t2 ht2
  extract_lets +onlyGivenNames x3
  have hx3 : z.Inside M x3 := Chip.bufsEnd_inside (hM.up rfl) ht2
  clear_value x3
  exact .ite (Chip.sesFailAll_inside (hM.up rfl) hx3) hx3

theorem Chip.fluxStart_inside {z : Chip} {M : ℕ} (hM : Sub 4114 M) {p1 : Chip} {p2 : ℕ} (hp1 : z.Inside M p1) : z.Inside M (Chip.fluxStart p1 p2) := by
  unfold Chip.fluxStart
  exact Chip.set_inside (hM.up rfl) (Chip.modCl_inside (hM.up rfl) (Chip.useFree_inside (hM.up rfl) hp1))

theorem Chip.preloadOne_inside {z : Chip} {M : ℕ} (hM : Sub 65536 M) {p1 : Chip} {p2 : ℕ} {p3 : ℕ} {p4 : ℕ} (hp1 : z.Inside M p1) : z.Inside M (Chip.preloadOne p1 p2 p3 p4) := by
  unfold Chip.preloadOne
  split
  · rename_i y1 q2
    extract_lets +onlyGivenNames x3
    clear_value x3
    extract_lets +onlyGivenNames x4
    clear_value x4
    exact Chip.modCle_inside (hM.up rfl) hp1
  · exact hp1

theorem Chip.preload_inside {z : Chip} {M : ℕ} (hM : Sub 1773890 M) {p1 : Chip} {p2 : ℕ} {p3 : ℕ} {p4 : ℕ} (hp1 : z.Inside M p1) : z.Inside M (Chip.preload p1 p2 p3 p4).1 := by
  unfold Chip.preload
  extract_lets +onlyGivenNames x1
  have hx1 : z.Inside M x1 := .each hp1 (fun a2 t3 ht3 => Chip.modCle_inside (hM.up rfl) (Chip.preloadOne_inside (hM.up rfl) (Chip.preloadOne_inside (hM.up rfl) ht3)))
  clear_value x1
  extract_lets +onlyGivenNames x4
  clear_value x4
  exact .iteP (.fst hx1) (.fst (Chip.faultCl_inside (hM.up rfl) (Chip.put_inside (hM.up rfl) hx1)))

theorem Chip.catchStart_inside {z : Chip} {M : ℕ} (hM : Sub 1773890 M) {p1 : Chip} {p2 : ℕ} {p3 : ℕ} {p4 : ℕ} {p5 : Bool} (hp1 : z.Inside M p1) : z.Inside M (Chip.catchStart p1 p2 p3 p4 p5) := by
  unfold Chip.catchStart
  extract_lets +onlyGivenNames x1
  have hx1 : z.Inside M x1 := Chip.sets_inside (hM.up rfl) hp1
  clear_value x1
  split
  · rename_i y2 y3 q4
    have hy2 : z.Inside M y2 := by
      have hh := congrArg Prod.fst q4
      dsimp only at hh
      rw [← hh]
      exact Chip.preload_inside (hM.up rfl) hx1
    refine .ite ?_ hy2
    extract_lets +onlyGivenNames x5
    have hx5 : z.Inside M x5 := Chip.sets_inside (hM.up rfl) hy2
    clear_value x5
    exact Chip.modCl_inside (hM.up rfl) (Chip.enter_inside (hM.up rfl) hx5)

theorem Chip.catchLock_inside {z : Chip} {M : ℕ} (hM : Sub 1773906 M) {p1 : Chip} {p2 : ℕ} {p3 : ℕ} {p4 : ℕ} {p5 : Bool} (hp1 : z.Inside M p1) : z.Inside M (Chip.catchLock p1 p2 p3 p4 p5) := by
  unfold Chip.catchLock
  extract_lets +onlyGivenNames x1
  have hx1 : z.Inside M x1 := Chip.modCl_inside (hM.up rfl) hp1
  clear_value x1
  split
  · exact hx1
  · rename_i y4 y5 q6
    extract_lets +onlyGivenNames x7
    clear_value x7
    extract_lets +onlyGivenNames x8
    clear_value x8
    extract_lets +onlyGivenNames x9
    have hx9 : z.Inside M x9 := Chip.set_inside (hM.up rfl) (Chip.set_inside (hM.up rfl) hx1)
    clear_value x9
    refine .ite ?_ (.ite hx9 (.ite (Chip.fluxStart_inside (hM.up rfl) hx9) (Chip.catchStart_inside (hM.up rfl) hx9)))
    extract_lets +onlyGivenNames x10
    have hx10 : z.Inside M x10 := Chip.sets_inside (hM.up rfl) hx9
    clear_value x10
    extract_lets +onlyGivenNames x11
    have hx11 : z.Inside M x11 := Chip.modCl_inside (hM.up rfl) hx10
    clear_value x11
    extract_lets +onlyGivenNames x12
    have hx12 : z.Inside M x12 := Chip.noteCl_inside (hM.up rfl) hx11
    clear_value x12
    exact .ite (Chip.setOvrs_inside (hM.up rfl) (Chip.set_inside (hM.up rfl) hx12)) hx12

theorem Chip.catchRestart_inside {z : Chip} {M : ℕ} (hM : Sub 69634 M) {p1 : Chip} {p2 : ℕ} (hp1 : z.Inside M p1) : z.Inside M (Chip.catchRestart p1 p2) := by
  unfold Chip.catchRestart
  extract_lets +onlyGivenNames x1
  have hx1 : z.Inside M x1 := Chip.sets_inside (hM.up rfl) hp1
  clear_value x1
  extract_lets +onlyGivenNames x2
  have hx2 : z.Inside M x2 := Chip.modCl_inside (hM.up rfl) hx1
  clear_value x2
  exact .each hx2 (fun a3 t4 ht4 => Chip.feZero_inside (hM.up rfl) (Chip.clearLists_inside (hM.up rfl) ht4))

theorem Chip.catchTrack_inside {z : Chip} {M : ℕ} (hM : Sub 1773890 M) {p1 : Chip} {p2 : ℕ} {p3 : Option (ℕ × ℕ × ℕ)} (hp1 : z.Inside M p1) : z.Inside M (Chip.catchTrack p1 p2 p3) := by
  unfold Chip.catchTrack
  split
  · rename_i y1 y2 y3 q4 q5
    split
    · rename_i y6 y7 q8
      extract_lets +onlyGivenNames x9
      clear_value x9
      extract_lets +onlyGivenNames x10
      clear_value x10
      extract_lets +onlyGivenNames x11
      clear_value x11
      extract_lets +onlyGivenNames x12
      have hx12 : z.Inside M x12 := Chip.modCl_inside (hM.up rfl) hp1
      clear_value x12
      split
      · exact hx12
      · rename_i y15 y16 q17
        extract_lets +onlyGivenNames x18
        clear_value x18
        extract_lets +onlyGivenNames x19
        clear_value x19
        refine .ite ?_ hx12
        extract_lets +onlyGivenNames x20
        have hx20 : z.Inside M x20 := Chip.put_inside (hM.up rfl) hx12
        clear_value x20
        extract_lets +onlyGivenNames x21
        have hx21 : z.Inside M x21 := .ite (Chip.setOvrs_inside (hM.up rfl) (Chip.set_inside (hM.up rfl) hx20)) hx20
        clear_value x21
        extract_lets +onlyGivenNames x22
        clear_value x22
        exact .ite (Chip.enter_inside (hM.up rfl) (Chip.setHeld_inside (hM.up rfl) hx21)) (Chip.catchRestart_inside (hM.up rfl) hx21)
  · exact hp1

theorem Chip.fluxDone_inside {z : Chip} {M : ℕ} (hM : Sub 1773906 M) {p1 : Chip} {p2 : ℕ} (hp1 : z.Inside M p1) : z.Inside M (Chip.fluxDone p1 p2) := by
  unfold Chip.fluxDone
  extract_lets +onlyGivenNames x1
  have hx1 : z.Inside M x1 := Chip.sets_inside (hM.up rfl) hp1
  clear_value x1
  split
  · rename_i y2 y3 q4
    have hy2 : z.Inside M y2 := by
      have hh := congrArg Prod.fst q4
      dsimp only at hh
      rw [← hh]
      exact Chip.preload_inside (hM.up rfl) (Chip.useFree_inside (hM.up rfl) (Chip.useFree_inside (hM.up rfl) hx1))
    refine .ite ?_ hy2
    extract_lets +onlyGivenNames x5
    have hx5 : z.Inside M x5 := Chip.sets_inside (hM.up rfl) hy2
    clear_value x5
    exact Chip.modCl_inside (hM.up rfl) (Chip.enter_inside (hM.up rfl) hx5)

theorem Chip.fluxPass_inside {z : Chip} {M : ℕ} (hM : Sub 1773906 M) {p1 : Chip} {p2 : ℕ} {p3 : ℕ} (hp1 : z.Inside M p1) : z.Inside M (Chip.fluxPass p1 p2 p3) := by
  unfold Chip.fluxPass
  exact .ite (Chip.fluxDone_inside (hM.up rfl) hp1) (Chip.modCl_inside (hM.up rfl) hp1)

theorem Chip.catchPass_inside {z : Chip} {M : ℕ} (hM : Sub 1773906 M) {p1 : Chip} {p2 : ℕ} {p3 : Option (ℕ × ℕ × ℕ)} (hp1 : z.Inside M p1) : z.Inside M (Chip.catchPass p1 p2 p3) := by
  unfold Chip.catchPass
  refine .ite (Chip.catchTrack_inside (hM.up rfl) hp1) ?_
  split
  · exact Chip.catchLock_inside (hM.up rfl) hp1
  · exact Chip.fluxPass_inside (hM.up rfl) hp1
  · extract_lets +onlyGivenNames x13
    clear_value x13
    extract_lets +onlyGivenNames x14
    have hx14 : z.Inside M x14 := Chip.set_inside (hM.up rfl) hp1
    clear_value x14
    refine .ite ?_ ?_
    · split
      · rename_i y15 q16
        refine .ite ?_ hx14
        extract_lets +onlyGivenNames x17
        clear_value x17
        extract_lets +onlyGivenNames x18
        clear_value x18
        exact Chip.catchLock_inside (hM.up rfl) hx14
      · exact hx14
    · refine .ite ?_ hx14
      extract_lets +onlyGivenNames x21
      clear_value x21
      extract_lets +onlyGivenNames x22
      clear_value x22
      split
      · rename_i y23 y24 y25 q26 q27 q28 q29
        split <;> exact Chip.catchLock_inside (hM.up rfl) hx14
      · exact hx14

theorem Chip.pulseOn_inside {z : Chip} {M : ℕ} (hM : Sub 135170 M) {p1 : Chip} {p2 : ℕ} (hp1 : z.Inside M p1) : z.Inside M (Chip.pulseOn p1 p2) := by
  unfold Chip.pulseOn
  exact Chip.setOvrs_inside (hM.up rfl) (Chip.modCl_inside (hM.up rfl) hp1)

theorem Chip.catchPulse_inside {z : Chip} {M : ℕ} (hM : Sub 135170 M) {p1 : Chip} {p2 : ℕ} (hp1 : z.Inside M p1) : z.Inside M (Chip.catchPulse p1 p2) := by
  unfold Chip.catchPulse
  extract_lets +onlyGivenNames x1
  extract_lets +onlyGivenNames x2
  clear_value x2
  extract_lets +onlyGivenNames x3
  clear_value x3
  refine .ite ?_ (.ite (Chip.pulseOn_inside (hM.up rfl) hp1) hp1)
  extract_lets +onlyGivenNames x4
  have hx4 : z.Inside M x4 := Chip.modCl_inside (hM.up rfl) hp1
  clear_value x4
  exact .ite (Chip.setOvrs_inside (hM.up rfl) hx4) hx4

theorem Chip.noLock_inside {z : Chip} {M : ℕ} (hM : Sub 1708354 M) {p1 : Chip} {p2 : ℕ} (hp1 : z.Inside M p1) : z.Inside M (Chip.noLock p1 p2) := by
  unfold Chip.noLock
  extract_lets +onlyGivenNames x1
  have hx1 : z.Inside M x1 := Chip.sets_inside (hM.up rfl) hp1
  clear_value x1
  extract_lets +onlyGivenNames x2
  have hx2 : z.Inside M x2 := Chip.noteCl_inside (hM.up rfl) hx1
  clear_value x2
  exact Chip.enter_inside (hM.up rfl) hx2

theorem Chip.catchStandstill_inside {z : Chip} {M : ℕ} (hM : Sub 1773906 M) {p1 : Chip} {p2 : ℕ} (hp1 : z.Inside M p1) : z.Inside M (Chip.catchStandstill p1 p2) := by
  unfold Chip.catchStandstill
  exact .ite (Chip.catchLock_inside (hM.up rfl) (Chip.obsCaught_inside (hM.up rfl) (Chip.useFree_inside (hM.up rfl) hp1))) (Chip.noLock_inside (hM.up rfl) hp1)

theorem Chip.cellarReset_inside {z : Chip} {M : ℕ} (hM : Sub 2139095039 M) {p1 : Chip} {p2 : PowerState} (hp1 : z.Inside M p1) : z.Inside M (Chip.cellarReset p1 p2) :=
  .all hM

theorem Chip.tally_inside {z : Chip} {M : ℕ} (hM : Sub 16384 M) {p1 : Chip} {p2 : ℕ} {p3 : ℕ} {p4 : Bool} (hp1 : z.Inside M p1) : z.Inside M (Chip.tally p1 p2 p3 p4).1 := by
  unfold Chip.tally
  extract_lets +onlyGivenNames x1
  extract_lets +onlyGivenNames x2
  clear_value x2
  extract_lets +onlyGivenNames x3
  clear_value x3
  extract_lets +onlyGivenNames x4
  clear_value x4
  extract_lets +onlyGivenNames x5
  clear_value x5
  extract_lets +onlyGivenNames x6
  exact .fst (Chip.modMeas_inside (hM.up rfl) hp1)

theorem Chip.rbSet_inside {z : Chip} {M : ℕ} (hM : Sub 16384 M) {p1 : Chip} {p2 : ℕ} {p3 : ℕ} {p4 : ℕ} (hp1 : z.Inside M p1) : z.Inside M (Chip.rbSet p1 p2 p3 p4) := by
  unfold Chip.rbSet
  exact Chip.modMeas_inside (hM.up rfl) hp1

theorem Chip.rbOr_inside {z : Chip} {M : ℕ} (hM : Sub 16384 M) {p1 : Chip} {p2 : ℕ} {p3 : ℕ} {p4 : ℕ} (hp1 : z.Inside M p1) : z.Inside M (Chip.rbOr p1 p2 p3 p4) := by
  unfold Chip.rbOr
  exact Chip.rbSet_inside (hM.up rfl) hp1

theorem Chip.checkPath_inside {z : Chip} {M : ℕ} (hM : Sub 1724738 M) {p1 : Chip} {p2 : ℕ} {p3 : ℕ} {p4 : ℕ} (hp1 : z.Inside M p1) : z.Inside M (Chip.checkPath p1 p2 p3 p4) := by
  unfold Chip.checkPath
  split
  · rename_i y1 y2 q3 q4
    extract_lets +onlyGivenNames x5
    clear_value x5
    extract_lets +onlyGivenNames x6
    clear_value x6
    split
    · rename_i y7 y8 q9
      have hy7 : z.Inside M y7 := by
        have hh := congrArg Prod.fst q9
        dsimp only at hh
        rw [← hh]
        exact Chip.tally_inside (hM.up rfl) hp1
      extract_lets +onlyGivenNames x10
      have hx10 : z.Inside M x10 := .ite (Chip.rbOr_inside (hM.up rfl) hy7) hy7
      clear_value x10
      exact .ite (Chip.faultCl_inside (hM.up rfl) (Chip.put_inside (hM.up rfl) hx10)) hx10
  · exact hp1

theorem Chip.checkSum_inside {z : Chip} {M : ℕ} (hM : Sub 1724738 M) {p1 : Chip} {p2 : ℕ} {p3 : ℕ} {p4 : ℕ} (hp1 : z.Inside M p1) : z.Inside M (Chip.checkSum p1 p2 p3 p4) := by
  unfold Chip.checkSum
  split
  · rename_i y1 y2 y3 q4 q5 q6
    extract_lets +onlyGivenNames x7
    clear_value x7
    extract_lets +onlyGivenNames x8
    clear_value x8
    split
    · rename_i y9 y10 q11
      have hy9 : z.Inside M y9 := by
        have hh := congrArg Prod.fst q11
        dsimp only at hh
        rw [← hh]
        exact Chip.tally_inside (hM.up rfl) hp1
      extract_lets +onlyGivenNames x12
      have hx12 : z.Inside M x12 := .ite (Chip.rbOr_inside (hM.up rfl) hy9) hy9
      clear_value x12
      exact .ite (Chip.faultCl_inside (hM.up rfl) (Chip.put_inside (hM.up rfl) hx12)) hx12
  · exact hp1

theorem Chip.checkVdc_inside {z : Chip} {M : ℕ} (hM : Sub 1724738 M) {p1 : Chip} {p2 : ℕ} {p3 : ℕ} (hp1 : z.Inside M p1) : z.Inside M (Chip.checkVdc p1 p2 p3) := by
  unfold Chip.checkVdc
  split
  · rename_i y1 y2 q3
    extract_lets +onlyGivenNames x4
    clear_value x4
    extract_lets +onlyGivenNames x5
    clear_value x5
    split
    · rename_i y6 y7 q8
      have hy6 : z.Inside M y6 := by
        have hh := congrArg Prod.fst q8
        dsimp only at hh
        rw [← hh]
        exact Chip.tally_inside (hM.up rfl) hp1
      extract_lets +onlyGivenNames x9
      have hx9 : z.Inside M x9 := .ite (Chip.rbOr_inside (hM.up rfl) hy6) hy6
      clear_value x9
      exact .ite (Chip.faultCl_inside (hM.up rfl) (Chip.put_inside (hM.up rfl) hx9)) hx9
  · exact hp1

theorem Chip.modSw_inside {z : Chip} {M : ℕ} (hM : Sub 2097152 M) {p1 : Chip} {p2 : ℕ} {p3 : SwitchS → SwitchS} (hp1 : z.Inside M p1) : z.Inside M (Chip.modSw p1 p2 p3) := by
  unfold Chip.modSw
  exact Chip.modChm_inside (hM.up rfl) hp1

theorem Chip.showTj_inside {z : Chip} {M : ℕ} (hM : Sub 2097154 M) {p1 : Chip} {p2 : ℕ} (hp1 : z.Inside M p1) : z.Inside M (Chip.showTj p1 p2) := by
  unfold Chip.showTj
  split
  · rename_i y1 y2 q3
    extract_lets +onlyGivenNames x4
    have hx4 : z.Inside M x4 := Chip.set_inside (hM.up rfl) (Chip.set_inside (hM.up rfl) hp1)
    clear_value x4
    refine .ite ?_ hx4
    extract_lets +onlyGivenNames x5
    exact Chip.modSw_inside (hM.up rfl) hx4

theorem Chip.modelStep_inside {z : Chip} {M : ℕ} (hM : Sub 2097152 M) {p1 : Chip} {p2 : ℕ} {p3 : ℕ} {p4 : ℕ} (hp1 : z.Inside M p1) : z.Inside M (Chip.modelStep p1 p2 p3 p4) := by
  unfold Chip.modelStep
  refine .ite ?_ hp1
  extract_lets +onlyGivenNames x1
  clear_value x1
  extract_lets +onlyGivenNames x2
  clear_value x2
  extract_lets +onlyGivenNames x3
  clear_value x3
  exact Chip.modSw_inside (hM.up rfl) hp1

theorem Chip.tjOver_inside {z : Chip} {M : ℕ} (hM : Sub 1708354 M) {p1 : Chip} {p2 : ℕ} (hp1 : z.Inside M p1) : z.Inside M (Chip.tjOver p1 p2) := by
  unfold Chip.tjOver
  extract_lets +onlyGivenNames x1
  clear_value x1
  split
  · exact .ite hp1 (Chip.faultCl_inside (hM.up rfl) (Chip.put_inside (hM.up rfl) hp1))
  · exact hp1

theorem Chip.peakEnforce_inside {z : Chip} {M : ℕ} (hM : Sub 2097218 M) {p1 : Chip} {p2 : ℕ} (hp1 : z.Inside M p1) : z.Inside M (Chip.peakEnforce p1 p2) := by
  unfold Chip.peakEnforce
  extract_lets +onlyGivenNames x1
  have hx1 : z.Inside M x1 := Chip.modChm_inside (hM.up rfl) hp1
  clear_value x1
  exact Chip.limitCl_inside (hM.up rfl) (Chip.put_inside (hM.up rfl) (Chip.set_inside (hM.up rfl) hx1))

theorem Chip.peakFree_inside {z : Chip} {M : ℕ} (hM : Sub 2 M) {p1 : Chip} {p2 : ℕ} (hp1 : z.Inside M p1) : z.Inside M (Chip.peakFree p1 p2) := by
  unfold Chip.peakFree
  exact Chip.put_inside (hM.up rfl) (Chip.set_inside (hM.up rfl) hp1)

theorem Chip.peakStep_inside {z : Chip} {M : ℕ} (hM : Sub 2097218 M) {p1 : Chip} {p2 : ℕ} (hp1 : z.Inside M p1) : z.Inside M (Chip.peakStep p1 p2) := by
  unfold Chip.peakStep
  extract_lets +onlyGivenNames x1
  clear_value x1
  extract_lets +onlyGivenNames x2
  have hx2 : z.Inside M x2 := Chip.sets_inside (hM.up rfl) hp1
  clear_value x2
  extract_lets +onlyGivenNames x3
  have hx3 : z.Inside M x3 := .ite (Chip.put_inside (hM.up rfl) hx2) hx2
  clear_value x3
  extract_lets +onlyGivenNames x4
  clear_value x4
  extract_lets +onlyGivenNames x5
  have hx5 : z.Inside M x5 := Chip.modChm_inside (hM.up rfl) hx3
  clear_value x5
  extract_lets +onlyGivenNames x6
  have hx6 : z.Inside M x6 := Chip.noteCl_inside (hM.up rfl) (Chip.put_inside (hM.up rfl) (Chip.set_inside (hM.up rfl) hx5))
  clear_value x6
  extract_lets +onlyGivenNames x7
  have hx7 : z.Inside M x7 := .ite (.ite (Chip.peakEnforce_inside (hM.up rfl) hx6) hx6) (.ite (Chip.peakFree_inside (hM.up rfl) hx3) hx3)
  clear_value x7
  exact Chip.showLim_inside (hM.up rfl) hx7

theorem Chip.chmPass_inside {z : Chip} {M : ℕ} (hM : Sub 3805506 M) {p1 : Chip} {p2 : ℕ} {p3 : List ℕ} {p4 : ℕ} (hp1 : z.Inside M p1) : z.Inside M (Chip.chmPass p1 p2 p3 p4) := by
  unfold Chip.chmPass
  extract_lets +onlyGivenNames x1
  clear_value x1
  extract_lets +onlyGivenNames x2
  have hx2 : z.Inside M x2 := Chip.modChm_inside (hM.up rfl) hp1
  clear_value x2
  extract_lets +onlyGivenNames x3
  extract_lets +onlyGivenNames x4
  have hx4 : z.Inside M x4 := by
    unfold x4
    refine .each hx2 ?_
    intro a5 t6 ht6
    extract_lets +onlyGivenNames x7
    clear_value x7
    exact Chip.showTj_inside (hM.up rfl) (Chip.modelStep_inside (hM.up rfl) ht6)
  clear_value x4
  extract_lets +onlyGivenNames x8
  clear_value x8
  extract_lets +onlyGivenNames x9
  clear_value x9
  extract_lets +onlyGivenNames x10
  have hx10 : z.Inside M x10 := Chip.set_inside (hM.up rfl) hx4
  clear_value x10
  exact Chip.tjOver_inside (hM.up rfl) (Chip.peakStep_inside (hM.up rfl) hx10)

theorem Chip.chmCurrents_inside {z : Chip} {M : ℕ} (hM : Sub 3805506 M) {p1 : Chip} {p2 : ℕ} {p3 : Option (ℕ × ℕ × ℕ)} (hp1 : z.Inside M p1) : z.Inside M (Chip.chmCurrents p1 p2 p3) := by
  unfold Chip.chmCurrents
  split
  · rename_i y1 y2 y3 q4
    extract_lets +onlyGivenNames x5
    clear_value x5
    extract_lets +onlyGivenNames x6
    clear_value x6
    exact Chip.chmPass_inside (hM.up rfl) hp1
  · exact Chip.chmPass_inside (hM.up rfl) hp1

theorem Chip.chmTick_inside {z : Chip} {M : ℕ} (hM : Sub 2097152 M) {p1 : Chip} (hp1 : z.Inside M p1) : z.Inside M (Chip.chmTick p1) := by
  unfold Chip.chmTick
  extract_lets +onlyGivenNames x1
  exact .ite hp1 (.each (Chip.modChm_inside (hM.up rfl) hp1) (fun a2 t3 ht3 => Chip.modAge_inside (hM.up rfl) ht3))

theorem Chip.chopFail_inside {z : Chip} {M : ℕ} (hM : Sub 1048642 M) {p1 : Chip} (hp1 : z.Inside M p1) : z.Inside M (Chip.chopFail p1) := by
  unfold Chip.chopFail
  extract_lets +onlyGivenNames x1
  extract_lets +onlyGivenNames x2
  have hx2 : z.Inside M x2 := .ite hp1 (Chip.Inside.mk_safe (hM.up rfl) hp1)
  clear_value x2
  exact Chip.record_inside (hM.up rfl) (Chip.put_inside (hM.up rfl) (Chip.put_inside (hM.up rfl) hx2))

theorem Chip.chopRule_inside {z : Chip} {M : ℕ} (hM : Sub 1179650 M) {p1 : Chip} (hp1 : z.Inside M p1) : z.Inside M (Chip.chopRule p1) := by
  unfold Chip.chopRule
  extract_lets +onlyGivenNames x1
  clear_value x1
  refine .ite hp1 ?_
  refine .ite (.ite hp1 (Chip.chopStart_inside (hM.up rfl) (Chip.count_inside (hM.up rfl) hp1))) ?_
  refine .ite ?_ hp1
  extract_lets +onlyGivenNames x2
  have hx2 : z.Inside M x2 := Chip.chopper_inside (hM.up rfl) hp1
  clear_value x2
  exact (Chip.Inside.mk_safe (hM.up rfl) hx2)

theorem Chip.cleClamp_inside {z : Chip} {M : ℕ} (hM : Sub 66 M) {p1 : Chip} {p2 : ℕ} {p3 : ℕ} {p4 : ℕ} {p5 : ℕ} (hp1 : z.Inside M p1) : z.Inside M (Chip.cleClamp p1 p2 p3 p4 p5).1 := by
  unfold Chip.cleClamp
  extract_lets +onlyGivenNames x1
  clear_value x1
  extract_lets +onlyGivenNames x2
  clear_value x2
  extract_lets +onlyGivenNames x3
  clear_value x3
  extract_lets +onlyGivenNames x4
  have hx4 : z.Inside M x4 := .ite hp1 (Chip.noteCl_inside (hM.up rfl) hp1)
  clear_value x4
  extract_lets +onlyGivenNames x5
  have hx5 : z.Inside M x5 := .ite (Chip.put_inside (hM.up rfl) hx4) hp1
  clear_value x5
  extract_lets +onlyGivenNames x6
  clear_value x6
  extract_lets +onlyGivenNames x7
  have hx7 : z.Inside M x7 := .ite (Chip.setBitOf_inside (hM.up rfl) hx5) hx5
  clear_value x7
  exact .fst hx7

theorem Chip.ringStop_inside {z : Chip} {M : ℕ} (hM : Sub 536870978 M) {p1 : Chip} (hp1 : z.Inside M p1) : z.Inside M (Chip.ringStop p1) := by
  unfold Chip.ringStop
  exact .ite (Chip.modRing_inside (hM.up rfl) (Chip.msgsDown_inside (hM.up rfl) hp1)) (Chip.modRing_inside (hM.up rfl) hp1)

theorem Chip.haltRegion_inside {z : Chip} {M : ℕ} (hM : Sub 125549054 M) {p1 : Chip} {p2 : ℕ} {p3 : ℕ} (hp1 : z.Inside M p1) : z.Inside M (Chip.haltRegion p1 p2 p3) := by
  unfold Chip.haltRegion
  exact Chip.haltPartner_inside (hM.up rfl) (Chip.regionReset_inside (hM.up rfl) hp1)

theorem Chip.clockHalt_inside {z : Chip} {M : ℕ} (hM : Sub 662419966 M) {p1 : Chip} {p2 : ℕ} {p3 : ℕ} (hp1 : z.Inside M p1) : z.Inside M (Chip.clockHalt p1 p2 p3) := by
  unfold Chip.clockHalt
  extract_lets +onlyGivenNames x1
  have hx1 : z.Inside M x1 := Chip.record_inside (hM.up rfl) (Chip.put_inside (hM.up rfl) hp1)
  clear_value x1
  exact Chip.ringStop_inside (hM.up rfl) (Chip.haltRegion_inside (hM.up rfl) (Chip.haltRegion_inside (hM.up rfl) hx1))

theorem Chip.cmpRoleActs_inside {z : Chip} {M : ℕ} (hM : Sub 1708354 M) {p1 : Chip} {p2 : ℕ} {p3 : Bool} {p4 : ℕ} (hp1 : z.Inside M p1) : z.Inside M (Chip.cmpRoleActs p1 p2 p3 p4) := by
  unfold Chip.cmpRoleActs
  exact .ite (.ite (Chip.Inside.mk_safe (hM.up rfl) hp1) hp1) (Chip.cmpDemand_inside (hM.up rfl) hp1)

theorem Chip.cmpTick_inside {z : Chip} {M : ℕ} (hM : Sub 4098 M) {p1 : Chip} {p2 : ℕ} (hp1 : z.Inside M p1) : z.Inside M (Chip.cmpTick p1 p2) := by
  unfold Chip.cmpTick
  extract_lets +onlyGivenNames x1
  refine .ite hp1 ?_
  extract_lets +onlyGivenNames x2
  have hx2 : z.Inside M x2 := by
    unfold x2
    refine .each hp1 ?_
    intro a3 t4 ht4
    extract_lets +onlyGivenNames x5
    have hx5 : z.Inside M x5 := Chip.set_inside (hM.up rfl) ht4
    clear_value x5
    exact .ite (Chip.put_inside (hM.up rfl) hx5) hx5
  clear_value x2
  exact Chip.modCl_inside (hM.up rfl) hx2

theorem Chip.unhold_inside {z : Chip} {M : ℕ} (hM : Sub 524290 M) {p1 : Chip} {p2 : ℕ} (hp1 : z.Inside M p1) : z.Inside M (Chip.unhold p1 p2) := by
  unfold Chip.unhold
  extract_lets +onlyGivenNames x1
  exact .ite (Chip.set_inside (hM.up rfl) (Chip.modIsl_inside (hM.up rfl) hp1)) hp1

theorem Chip.commandOff_inside {z : Chip} {M : ℕ} (hM : Sub 524290 M) {p1 : Chip} {p2 : ℕ} (hp1 : z.Inside M p1) : z.Inside M (Chip.commandOff p1 p2) := by
  unfold Chip.commandOff
  extract_lets +onlyGivenNames x1
  have hx1 : z.Inside M x1 := Chip.unhold_inside (hM.up rfl) (Chip.modIsl_inside (hM.up rfl) hp1)
  clear_value x1
  exact .ite (Chip.gateAway_inside (hM.up rfl) hx1) hx1

theorem Chip.runSecond_inside {z : Chip} {M : ℕ} (hM : Sub 2097152 M) {p1 : Chip} {p2 : ℕ} (hp1 : z.Inside M p1) : z.Inside M (Chip.runSecond p1 p2) := by
  unfold Chip.runSecond
  extract_lets +onlyGivenNames x1
  exact .ite (Chip.modLedger_inside (hM.up rfl) hp1) hp1

theorem Chip.turnOn_inside {z : Chip} {M : ℕ} (hM : Sub 2621442 M) {p1 : Chip} {p2 : ℕ} (hp1 : z.Inside M p1) : z.Inside M (Chip.turnOn p1 p2) := by
  unfold Chip.turnOn
  extract_lets +onlyGivenNames x1
  clear_value x1
  extract_lets +onlyGivenNames x2
  have hx2 : z.Inside M x2 := Chip.modIsl_inside (hM.up rfl) hp1
  clear_value x2
  exact Chip.runSecond_inside (hM.up rfl) (Chip.islTo_inside (hM.up rfl) hx2)

theorem Chip.onArrives_inside {z : Chip} {M : ℕ} (hM : Sub 2621442 M) {p1 : Chip} {p2 : ℕ} (hp1 : z.Inside M p1) : z.Inside M (Chip.onArrives p1 p2) := by
  unfold Chip.onArrives
  extract_lets +onlyGivenNames x1
  have hx1 : z.Inside M x1 := .ite (Chip.abortLeak_inside (hM.up rfl) hp1) hp1
  clear_value x1
  extract_lets +onlyGivenNames x2
  exact .ite (Chip.turnOn_inside (hM.up rfl) hx1) (.ite (Chip.turnOn_inside (hM.up rfl) hx1) hx1)

theorem Chip.commandOn_inside {z : Chip} {M : ℕ} (hM : Sub 2621442 M) {p1 : Chip} {p2 : ℕ} (hp1 : z.Inside M p1) : z.Inside M (Chip.commandOn p1 p2) := by
  unfold Chip.commandOn
  extract_lets +onlyGivenNames x1
  have hx1 : z.Inside M x1 := Chip.modIsl_inside (hM.up rfl) hp1
  clear_value x1
  exact .ite hx1 (.ite (Chip.count_inside (hM.up rfl) (Chip.modIsl_inside (hM.up rfl) hx1)) (Chip.onArrives_inside (hM.up rfl) hx1))

theorem Chip.modTwin_inside {z : Chip} {M : ℕ} (hM : Sub 1073741824 M) {p1 : Chip} {p2 : TwinS → TwinS} (hp1 : z.Inside M p1) : z.Inside M (Chip.modTwin p1 p2) := by
  unfold Chip.modTwin
  exact (Chip.Inside.mk_twin (hM.up rfl) hp1)

theorem Chip.copyCycle_inside {z : Chip} {M : ℕ} (hM : Sub 1073741890 M) {p1 : Chip} (hp1 : z.Inside M p1) : z.Inside M (Chip.copyCycle p1) := by
  unfold Chip.copyCycle
  refine .ite ?_ (Chip.modTwin_inside (hM.up rfl) hp1)
  extract_lets +onlyGivenNames x1
  have hx1 : z.Inside M x1 := Chip.set_inside (hM.up rfl) (Chip.modTwin_inside (hM.up rfl) hp1)
  clear_value x1
  exact Chip.note_inside (hM.up rfl) (Chip.setBitOf_inside (hM.up rfl) hx1)

theorem Chip.copyEngine_inside {z : Chip} {M : ℕ} (hM : Sub 69634 M) {p1 : Chip} {p2 : ℕ} {p3 : ℕ} (hp1 : z.Inside M p1) : z.Inside M (Chip.copyEngine p1 p2 p3) := by
  unfold Chip.copyEngine
  extract_lets +onlyGivenNames x1
  have hx1 : z.Inside M x1 := Chip.modCle_inside (hM.up rfl) hp1
  clear_value x1
  extract_lets +onlyGivenNames x2
  have hx2 : z.Inside M x2 := .each hx1 (fun a3 t4 ht4 => Chip.set_inside (hM.up rfl) ht4)
  clear_value x2
  extract_lets +onlyGivenNames x5
  have hx5 : z.Inside M x5 := Chip.sets_inside (hM.up rfl) hx2
  clear_value x5
  exact Chip.modCl_inside (hM.up rfl) hx5

theorem Chip.copyRx_inside {z : Chip} {M : ℕ} (hM : Sub 1073741902 M) {p1 : Chip} {p2 : ℕ} {p3 : List Byte} {p4 : Bool} {p5 : Bool} (hp1 : z.Inside M p1) : z.Inside M (Chip.copyRx p1 p2 p3 p4 p5) := by
  unfold Chip.copyRx
  extract_lets +onlyGivenNames x1
  have hx1 : ∀ w2, z.Inside M w2 → ∀ w3, z.Inside M (x1 w2 w3) := by
    intro w2 hw2 w3
    unfold x1
    extract_lets +onlyGivenNames x4
    have hx4 : z.Inside M x4 := Chip.set_inside (hM.up rfl) (Chip.modTwin_inside (hM.up rfl) hw2)
    clear_value x4
    exact Chip.note_inside (hM.up rfl) (Chip.setBitOf_inside (hM.up rfl) hx4)
  clear_value x1
  refine .ite hp1 ?_
  refine .ite ?_ ?_
  · extract_lets +onlyGivenNames x5
    have hx5 : z.Inside M x5 := Chip.bump_inside (hM.up rfl) hp1
    clear_value x5
    exact .ite hx5 (hx1 _ hx5 _)
  · refine .ite hp1 ?_
    refine .ite (hx1 _ hp1 _) ?_
    extract_lets +onlyGivenNames x6
    clear_value x6
    extract_lets +onlyGivenNames x7
    clear_value x7
    extract_lets +onlyGivenNames x8
    have hx8 : z.Inside M x8 := .ite (Chip.storeRun_inside (hM.up rfl) hp1) hp1
    clear_value x8
    extract_lets +onlyGivenNames x9
    have hx9 : z.Inside M x9 := Chip.set_inside (hM.up rfl) (Chip.modTwin_inside (hM.up rfl) hx8)
    clear_value x9
    refine .ite ?_ hx9
    extract_lets +onlyGivenNames x10
    have hx10 : z.Inside M x10 := Chip.sets_inside (hM.up rfl) (Chip.modTwin_inside (hM.up rfl) hx9)
    clear_value x10
    exact Chip.setBitOf_inside (hM.up rfl) (Chip.count_inside (hM.up rfl) hx10)

theorem Chip.copyTable2_inside {z : Chip} {M : ℕ} (hM : Sub 4 M) {p1 : Chip} {p2 : ℕ} (hp1 : z.Inside M p1) : z.Inside M (Chip.copyTable2 p1 p2) := by
  unfold Chip.copyTable2
  extract_lets +onlyGivenNames x1
  clear_value x1
  exact Chip.setBytes_inside (hM.up rfl) hp1

theorem Chip.copyTick_inside {z : Chip} {M : ℕ} (hM : Sub 1073741826 M) {p1 : Chip} (hp1 : z.Inside M p1) : z.Inside M (Chip.copyTick p1) := by
  unfold Chip.copyTick
  exact .ite (Chip.put_inside (hM.up rfl) (Chip.modTwin_inside (hM.up rfl) hp1)) hp1

theorem Chip.retire_inside {z : Chip} {M : ℕ} (hM : Sub 4194304 M) {p1 : Chip} {p2 : ℕ} (hp1 : z.Inside M p1) : z.Inside M (Chip.retire p1 p2) := by
  unfold Chip.retire
  exact Chip.modHart_inside (hM.up rfl) hp1

theorem Chip.effectOf_inside {z : Chip} {M : ℕ} (hM : Sub 2139095039 M) {p1 : Chip} {p2 : List ℕ} (hp1 : z.Inside M p1) : z.Inside M (Chip.effectOf p1 p2) :=
  .all hM

theorem Chip.drainN_inside {z : Chip} {M : ℕ} (hM : Sub 2139095039 M) {p1 : Option Requester} {p2 : Posted → Bool} {p3 : ℕ} {p4 : Chip} (hp4 : z.Inside M p4) : z.Inside M (Chip.drainN p1 p2 p3 p4) :=
  .all hM

theorem Chip.unitEnd_inside {z : Chip} {M : ℕ} (hM : Sub 2139095039 M) {p1 : Chip} {p2 : UnitId} (hp1 : z.Inside M p1) : z.Inside M (Chip.unitEnd p1 p2) :=
  .all hM

theorem Chip.endHolds_inside {z : Chip} {M : ℕ} (hM : Sub 2139095039 M) {p1 : Requester} {p2 : ℕ → Bool} {p3 : ℕ} {p4 : Chip} (hp4 : z.Inside M p4) : z.Inside M (Chip.endHolds p1 p2 p3 p4) :=
  .all hM

theorem Chip.drain_inside {z : Chip} {M : ℕ} (hM : Sub 2139095039 M) {p1 : Chip} {p2 : Requester} {p3 : ℕ → Bool} (hp1 : z.Inside M p1) : z.Inside M (Chip.drain p1 p2 p3) :=
  .all hM

theorem Chip.drainAll_inside {z : Chip} {M : ℕ} (hM : Sub 2139095039 M) {p1 : Chip} {p2 : Requester} (hp1 : z.Inside M p1) : z.Inside M (Chip.drainAll p1 p2) :=
  .all hM

theorem Chip.coreFence_inside {z : Chip} {M : ℕ} (hM : Sub 2139095039 M) {p1 : Chip} {p2 : ℕ} {p3 : FenceSet} (hp1 : z.Inside M p1) : z.Inside M (Chip.coreFence p1 p2 p3) :=
  .all hM

theorem Chip.trap_inside {z : Chip} {M : ℕ} (hM : Sub 4194304 M) {p1 : Chip} {p2 : ℕ} {p3 : ℕ} {p4 : ℕ} (hp1 : z.Inside M p1) : z.Inside M (Chip.trap p1 p2 p3 p4) := by
  unfold Chip.trap
  exact Chip.modHart_inside (hM.up rfl) hp1

theorem Chip.regRead_inside {z : Chip} {M : ℕ} (hM : Sub 2139095039 M) {p1 : Chip} {p2 : Requester} {p3 : ℕ} (hp1 : z.Inside M p1) : z.Inside M (Chip.regRead p1 p2 p3).1 :=
  .all hM

theorem Chip.eccInfo_inside {z : Chip} {M : ℕ} (hM : Sub 2 M) {p1 : Chip} {p2 : ℕ} {p3 : ℕ} {p4 : ℕ} {p5 : Bool} {p6 : Bool} (hp1 : z.Inside M p1) : z.Inside M (Chip.eccInfo p1 p2 p3 p4 p5 p6) := by
  unfold Chip.eccInfo
  exact Chip.sets_inside (hM.up rfl) hp1

theorem Chip.eccCor_inside {z : Chip} {M : ℕ} (hM : Sub 74 M) {p1 : Chip} {p2 : ℕ} {p3 : ℕ} {p4 : ℕ} {p5 : ℕ} {p6 : Bool} (hp1 : z.Inside M p1) : z.Inside M (Chip.eccCor p1 p2 p3 p4 p5 p6) := by
  unfold Chip.eccCor
  extract_lets +onlyGivenNames x1
  have hx1 : z.Inside M x1 := Chip.eccInfo_inside (hM.up rfl) (Chip.setEcc_inside (hM.up rfl) hp1)
  clear_value x1
  extract_lets +onlyGivenNames x2
  have hx2 : z.Inside M x2 := Chip.bump_inside (hM.up rfl) hx1
  clear_value x2
  exact Chip.firstNote_inside (hM.up rfl) hx2

theorem Chip.eccUnc_inside {z : Chip} {M : ℕ} (hM : Sub 10 M) {p1 : Chip} {p2 : ℕ} {p3 : ℕ} {p4 : ℕ} {p5 : ℕ} {p6 : Bool} (hp1 : z.Inside M p1) : z.Inside M (Chip.eccUnc p1 p2 p3 p4 p5 p6) := by
  unfold Chip.eccUnc
  extract_lets +onlyGivenNames x1
  have hx1 : z.Inside M x1 := Chip.eccInfo_inside (hM.up rfl) (Chip.setEcc_inside (hM.up rfl) hp1)
  clear_value x1
  exact Chip.put_inside (hM.up rfl) (Chip.bump_inside (hM.up rfl) hx1)

theorem Chip.halt_inside {z : Chip} {M : ℕ} (hM : Sub 125549054 M) {p1 : Chip} {p2 : ℕ} {p3 : ℕ} {p4 : ℕ} {p5 : ℕ} (hp1 : z.Inside M p1) : z.Inside M (Chip.halt p1 p2 p3 p4 p5) := by
  unfold Chip.halt
  exact Chip.haltRegion_inside (hM.up rfl) (Chip.record_inside (hM.up rfl) hp1)

theorem Chip.eccRead_inside {z : Chip} {M : ℕ} (hM : Sub 125549054 M) {p1 : Chip} {p2 : ℕ} {p3 : ℕ} {p4 : ℕ} {p5 : Bool} {p6 : ℕ} (hp1 : z.Inside M p1) : z.Inside M (Chip.eccRead p1 p2 p3 p4 p5 p6).1 := by
  unfold Chip.eccRead
  split
  · exact .fst hp1
  · rename_i y3 q4
    split
    · exact .fst hp1
    · exact .fst (Chip.eccCor_inside (hM.up rfl) hp1)
    · rename_i y9 q10
      extract_lets +onlyGivenNames x11
      have hx11 : z.Inside M x11 := Chip.eccUnc_inside (hM.up rfl) hp1
      clear_value x11
      exact .iteP (.fst (Chip.halt_inside (hM.up rfl) hx11)) (.iteP (.fst hx11) (.fst (Chip.note_inside (hM.up rfl) hx11)))

theorem Chip.loadData_inside {z : Chip} {M : ℕ} (hM : Sub 2139095039 M) {p1 : Chip} {p2 : ℕ} {p3 : ℕ} {p4 : ℕ} {p5 : ℕ} (hp1 : z.Inside M p1) : z.Inside M (Chip.loadData p1 p2 p3 p4 p5).1 :=
  .all hM

theorem Chip.drainUnit_inside {z : Chip} {M : ℕ} (hM : Sub 2139095039 M) {p1 : Chip} {p2 : Requester} {p3 : ℕ} (hp1 : z.Inside M p1) : z.Inside M (Chip.drainUnit p1 p2 p3) :=
  .all hM

theorem Chip.putReg_inside {z : Chip} {M : ℕ} (hM : Sub 4194304 M) {p1 : Chip} {p2 : ℕ} {p3 : Bool} {p4 : ℕ} {p5 : ℕ} (hp1 : z.Inside M p1) : z.Inside M (Chip.putReg p1 p2 p3 p4 p5) := by
  unfold Chip.putReg
  exact .ite (Chip.modHart_inside (hM.up rfl) hp1) (.ite hp1 (Chip.modHart_inside (hM.up rfl) hp1))

theorem Chip.coreLoad_inside {z : Chip} {M : ℕ} (hM : Sub 2139095039 M) {p1 : Chip} {p2 : ℕ} {p3 : ℕ} {p4 : Bool} {p5 : Bool} {p6 : ℕ} {p7 : ℕ} {p8 : ℕ} (hp1 : z.Inside M p1) : z.Inside M (Chip.coreLoad p1 p2 p3 p4 p5 p6 p7 p8) :=
  .all hM

theorem Chip.post_inside {z : Chip} {M : ℕ} (hM : Sub 128 M) {p1 : Chip} {p2 : Requester} {p3 : ℕ} {p4 : ℕ} {p5 : ℕ} (hp1 : z.Inside M p1) : z.Inside M (Chip.post p1 p2 p3 p4 p5) := by
  unfold Chip.post
  exact (Chip.Inside.mk_bus (hM.up rfl) hp1)

theorem Chip.coreStore_inside {z : Chip} {M : ℕ} (hM : Sub 4194432 M) {p1 : Chip} {p2 : ℕ} {p3 : ℕ} {p4 : ℕ} {p5 : ℕ} (hp1 : z.Inside M p1) : z.Inside M (Chip.coreStore p1 p2 p3 p4 p5) := by
  unfold Chip.coreStore
  exact .ite hp1 (.ite (Chip.trap_inside (hM.up rfl) hp1) (.ite (Chip.trap_inside (hM.up rfl) hp1) (Chip.retire_inside (hM.up rfl) (Chip.post_inside (hM.up rfl) hp1))))

theorem Chip.cqAnnounce_inside {z : Chip} {M : ℕ} (hM : Sub 67108866 M) {p1 : Chip} {p2 : ℕ} (hp1 : z.Inside M p1) : z.Inside M (Chip.cqAnnounce p1 p2) := by
  unfold Chip.cqAnnounce
  refine .ite hp1 ?_
  extract_lets +onlyGivenNames x1
  have hx1 : z.Inside M x1 := .ite (.ite (Chip.put_inside (hM.up rfl) hp1) (Chip.bump_inside (hM.up rfl) hp1)) hp1
  clear_value x1
  extract_lets +onlyGivenNames x2
  have hx2 : z.Inside M x2 := .ite (Chip.modHw_inside (hM.up rfl) hx1) hx1
  clear_value x2
  extract_lets +onlyGivenNames x3
  have hx3 : z.Inside M x3 := .ite hx1 (Chip.bump_inside (hM.up rfl) hx2)
  clear_value x3
  exact Chip.cqSettle_inside (hM.up rfl) hx3

theorem Chip.crcError_inside {z : Chip} {M : ℕ} (hM : Sub 2 M) {p1 : Chip} {p2 : ℕ} (hp1 : z.Inside M p1) : z.Inside M (Chip.crcError p1 p2) := by
  unfold Chip.crcError
  exact Chip.bump_inside (hM.up rfl) hp1

theorem Chip.ctrDropOut_inside {z : Chip} {M : ℕ} (hM : Sub 1048578 M) {p1 : Chip} {p2 : Bool} (hp1 : z.Inside M p1) : z.Inside M (Chip.ctrDropOut p1 p2) := by
  unfold Chip.ctrDropOut
  exact .ite (Chip.ctrMove_inside (hM.up rfl) hp1) hp1

theorem Chip.nodeCycle_inside {z : Chip} {M : ℕ} (hM : Sub 536870978 M) {p1 : Chip} {p2 : ℕ} (hp1 : z.Inside M p1) : z.Inside M (Chip.nodeCycle p1 p2) := by
  unfold Chip.nodeCycle
  refine .ite hp1 ?_
  extract_lets +onlyGivenNames x1
  clear_value x1
  extract_lets +onlyGivenNames x2
  have hx2 : z.Inside M x2 := Chip.modRing_inside (hM.up rfl) hp1
  clear_value x2
  refine .ite hx2 ?_
  extract_lets +onlyGivenNames x3
  have hx3 : z.Inside M x3 := Chip.clrBitOf_inside (hM.up rfl) (Chip.modRing_inside (hM.up rfl) hx2)
  clear_value x3
  exact Chip.note_inside (hM.up rfl) (Chip.put_inside (hM.up rfl) (Chip.setBitOf_inside (hM.up rfl) hx3))

theorem Chip.spCycle_inside {z : Chip} {M : ℕ} (hM : Sub 536870978 M) {p1 : Chip} {p2 : ℕ} (hp1 : z.Inside M p1) : z.Inside M (Chip.spCycle p1 p2) := by
  unfold Chip.spCycle
  extract_lets +onlyGivenNames x1
  have hx1 : z.Inside M x1 := Chip.bump_inside (hM.up rfl) hp1
  clear_value x1
  refine .ite hx1 ?_
  extract_lets +onlyGivenNames x2
  clear_value x2
  extract_lets +onlyGivenNames x3
  have hx3 : z.Inside M x3 := Chip.modRing_inside (hM.up rfl) hx1
  clear_value x3
  refine .ite (.ite hx3 (Chip.put_inside (hM.up rfl) hx3)) ?_
  refine .ite ?_ hx3
  extract_lets +onlyGivenNames x4
  have hx4 : z.Inside M x4 := Chip.sets_inside (hM.up rfl) hx3
  clear_value x4
  exact .ite (Chip.limitCl_inside (hM.up rfl) hx4) (Chip.put_inside (hM.up rfl) hx4)

theorem Chip.heartbeats_inside {z : Chip} {M : ℕ} (hM : Sub 939524166 M) {p1 : Chip} (hp1 : z.Inside M p1) : z.Inside M (Chip.heartbeats p1) := by
  unfold Chip.heartbeats
  extract_lets +onlyGivenNames x1
  clear_value x1
  refine .ite hp1 ?_
  extract_lets +onlyGivenNames x2
  clear_value x2
  extract_lets +onlyGivenNames x3
  clear_value x3
  extract_lets +onlyGivenNames x4
  clear_value x4
  extract_lets +onlyGivenNames x5
  have hx5 : z.Inside M x5 := Chip.modRing_inside (hM.up rfl) hp1
  clear_value x5
  extract_lets +onlyGivenNames x6
  have hx6 : ∀ w7, z.Inside M w7 → ∀ w8, z.Inside M (x6 w7 w8) := fun w7 hw7 w8 => Chip.note_inside (hM.up rfl) (Chip.put_inside (hM.up rfl) hw7)
  clear_value x6
  extract_lets +onlyGivenNames x9
  have hx9 : z.Inside M x9 := .ite (hx6 _ hx5 _) hx5
  clear_value x9
  extract_lets +onlyGivenNames x10
  have hx10 : z.Inside M x10 := .ite (hx6 _ hx9 _) hx9
  clear_value x10
  exact .ite (Chip.becomeActive_inside (hM.up rfl) hx10) hx10

theorem Chip.twinCycle_inside {z : Chip} {M : ℕ} (hM : Sub 2 M) {p1 : Chip} (hp1 : z.Inside M p1) : z.Inside M (Chip.twinCycle p1) := by
  unfold Chip.twinCycle
  extract_lets +onlyGivenNames x1
  clear_value x1
  extract_lets +onlyGivenNames x2
  have hx2 : z.Inside M x2 := Chip.put_inside (hM.up rfl) hp1
  clear_value x2
  exact .ite hx2 (Chip.setBitOf_inside (hM.up rfl) (Chip.bump_inside (hM.up rfl) hx2))

theorem Chip.sramRead_inside {z : Chip} {M : ℕ} (hM : Sub 125549054 M) {p1 : Chip} {p2 : Requester} {p3 : ℕ} {p4 : ℕ} {p5 : ℕ} (hp1 : z.Inside M p1) :
    z.Inside M (Chip.sramRead p1 p2 p3 p4 p5).1 :=
  .iteP hp1 (.foldlP (β := Bool) hp1 fun _ _ ht => Chip.eccRead_inside (hM.up rfl) ht)

theorem Chip.setpoint_inside {z : Chip} {M : ℕ} (hM : Sub 536870914 M) {p1 : Chip} {p2 : ℕ} {p3 : ℕ} {p4 : ℕ} {p5 : ℕ} (hp1 : z.Inside M p1) : z.Inside M (Chip.setpoint p1 p2 p3 p4 p5) := by
  unfold Chip.setpoint
  extract_lets +onlyGivenNames x1
  clear_value x1
  extract_lets +onlyGivenNames x2
  clear_value x2
  extract_lets +onlyGivenNames x3
  have hx3 : z.Inside M x3 := Chip.modRing_inside (hM.up rfl) hp1
  clear_value x3
  exact Chip.sets_inside (hM.up rfl) hx3

theorem Chip.setpoints_inside {z : Chip} {M : ℕ} (hM : Sub 536870914 M) {p1 : Chip} {p2 : List Byte} {p3 : ℕ} {p4 : ℕ} (hp1 : z.Inside M p1) : z.Inside M (Chip.setpoints p1 p2 p3 p4) := by
  unfold Chip.setpoints
  exact .each hp1 (fun a1 t2 ht2 => Chip.setpoint_inside (hM.up rfl) ht2)

theorem Chip.takeSnapshot_inside {z : Chip} {M : ℕ} (hM : Sub 662419966 M) {p1 : Chip} {p2 : ℕ} (hp1 : z.Inside M p1) : z.Inside M (Chip.takeSnapshot p1 p2) := by
  unfold Chip.takeSnapshot
  extract_lets +onlyGivenNames x1
  clear_value x1
  split
  · rename_i y2 y3 q4
    have hy2 : z.Inside M y2 := by
      have hh := congrArg Prod.fst q4
      dsimp only at hh
      rw [← hh]
      exact Chip.sramRead_inside (hM.up rfl) hp1
    extract_lets +onlyGivenNames x5
    have hx5 : z.Inside M x5 := Chip.modRing_inside (hM.up rfl) hy2
    clear_value x5
    extract_lets +onlyGivenNames x6
    exact .ite (Chip.setpoints_inside (hM.up rfl) hx5) hx5

theorem Chip.twinSend_inside {z : Chip} {M : ℕ} (hM : Sub 1199290878 M) {p1 : Chip} {p2 : ℕ} (hp1 : z.Inside M p1) : z.Inside M (Chip.twinSend p1 p2) := by
  unfold Chip.twinSend
  refine .ite hp1 ?_
  extract_lets +onlyGivenNames x1
  have hx1 : z.Inside M x1 := Chip.modTwin_inside (hM.up rfl) hp1
  clear_value x1
  extract_lets +onlyGivenNames x2
  clear_value x2
  extract_lets +onlyGivenNames x3
  have hx3 : ∀ w4, z.Inside M w4 → ∀ w5, z.Inside M (x3 w4 w5) := fun w4 hw4 w5 => Chip.note_inside (hM.up rfl) (Chip.setBitOf_inside (hM.up rfl) hw4)
  clear_value x3
  refine .ite hx1 ?_
  refine .ite (hx3 _ hx1 _) ?_
  split
  · rename_i y6 y7 q8
    have hy6 : z.Inside M y6 := by
      have hh := congrArg Prod.fst q8
      dsimp only at hh
      rw [← hh]
      exact Chip.sramRead_inside (hM.up rfl) hx1
    exact Chip.put_inside (hM.up rfl) (Chip.modTwin_inside (hM.up rfl) hy6)
  · rename_i y9 q10
    have hy9 : z.Inside M y9 := by
      have hh := congrArg Prod.fst q10
      dsimp only at hh
      rw [← hh]
      exact Chip.sramRead_inside (hM.up rfl) hx1
    exact hx3 _ hy9 _

theorem Chip.ringOut_inside {z : Chip} {M : ℕ} (hM : Sub 536870912 M) {p1 : Chip} {p2 : Bool} {p3 : List Byte} (hp1 : z.Inside M p1) : z.Inside M (Chip.ringOut p1 p2 p3) := by
  unfold Chip.ringOut
  exact .ite hp1 (Chip.modRing_inside (hM.up rfl) hp1)

theorem Chip.sendCyclic_inside {z : Chip} {M : ℕ} (hM : Sub 536870912 M) {p1 : Chip} {p2 : Bool} (hp1 : z.Inside M p1) : z.Inside M (Chip.sendCyclic p1 p2) := by
  unfold Chip.sendCyclic
  refine .ite hp1 ?_
  extract_lets +onlyGivenNames x1
  clear_value x1
  extract_lets +onlyGivenNames x2
  clear_value x2
  extract_lets +onlyGivenNames x3
  exact Chip.modRing_inside (hM.up rfl) (Chip.ringOut_inside (hM.up rfl) hp1)

theorem Chip.cycleStart_inside {z : Chip} {M : ℕ} (hM : Sub 2138814974 M) {p1 : Chip} {p2 : ℕ} {p3 : ℕ} (hp1 : z.Inside M p1) : z.Inside M (Chip.cycleStart p1 p2 p3) := by
  unfold Chip.cycleStart
  refine .ite hp1 ?_
  extract_lets +onlyGivenNames x1
  have hx1 : z.Inside M x1 := .each hp1 (fun a2 t3 ht3 => Chip.nodeCycle_inside (hM.up rfl) ht3)
  clear_value x1
  extract_lets +onlyGivenNames x4
  clear_value x4
  extract_lets +onlyGivenNames x5
  have hx5 : z.Inside M x5 := Chip.put_inside (hM.up rfl) hx1
  clear_value x5
  extract_lets +onlyGivenNames x6
  have hx6 : z.Inside M x6 := .ite (Chip.set_inside (hM.up rfl) hx5) hx5
  clear_value x6
  extract_lets +onlyGivenNames x7
  have hx7 : z.Inside M x7 := .each hx6 (fun a8 t9 ht9 => Chip.spCycle_inside (hM.up rfl) ht9)
  clear_value x7
  extract_lets +onlyGivenNames x10
  have hx10 : z.Inside M x10 := Chip.bankCycle_inside (hM.up rfl) (Chip.copyCycle_inside (hM.up rfl) (Chip.heartbeats_inside (hM.up rfl) (Chip.twinCycle_inside (hM.up rfl) hx7)))
  clear_value x10
  extract_lets +onlyGivenNames x11
  clear_value x11
  extract_lets +onlyGivenNames x12
  clear_value x12
  extract_lets +onlyGivenNames x13
  have hx13 : z.Inside M x13 := Chip.modRing_inside (hM.up rfl) hx10
  clear_value x13
  extract_lets +onlyGivenNames x14
  have hx14 : z.Inside M x14 := .ite (Chip.note_inside (hM.up rfl) (Chip.sets_inside (hM.up rfl) hx13)) hx10
  clear_value x14
  extract_lets +onlyGivenNames x15
  clear_value x15
  extract_lets +onlyGivenNames x16
  have hx16 : z.Inside M x16 := Chip.modRing_inside (hM.up rfl) hx14
  clear_value x16
  extract_lets +onlyGivenNames x17
  have hx17 : z.Inside M x17 := Chip.pulse_inside (hM.up rfl) (Chip.count_inside (hM.up rfl) hx16)
  clear_value x17
  extract_lets +onlyGivenNames x18
  have hx18 : z.Inside M x18 := .ite (Chip.takeSnapshot_inside (hM.up rfl) hx17) hx17
  clear_value x18
  exact Chip.twinSend_inside (hM.up rfl) (Chip.sendCyclic_inside (hM.up rfl) hx18)

theorem Chip.cycleTick_inside {z : Chip} {M : ℕ} (hM : Sub 4194304 M) {p1 : Chip} (hp1 : z.Inside M p1) : z.Inside M (Chip.cycleTick p1) := by
  unfold Chip.cycleTick
  exact .each hp1 (fun a1 t2 ht2 => .ite ht2 (Chip.modHart_inside (hM.up rfl) ht2))

theorem Chip.epochFound_inside {z : Chip} {M : ℕ} (hM : Sub 402653254 M) {p1 : Chip} {p2 : ℕ} (hp1 : z.Inside M p1) : z.Inside M (Chip.epochFound p1 p2) := by
  unfold Chip.epochFound
  extract_lets +onlyGivenNames x1
  have hx1 : z.Inside M x1 := .ite (Chip.set_inside (hM.up rfl) hp1) hp1
  clear_value x1
  refine .ite ?_ hx1
  extract_lets +onlyGivenNames x2
  have hx2 : z.Inside M x2 := Chip.roleSet_inside (hM.up rfl) hx1
  clear_value x2
  exact Chip.note_inside (hM.up rfl) (Chip.put_inside (hM.up rfl) hx2)

theorem Chip.statusTable_inside {z : Chip} {M : ℕ} (hM : Sub 78 M) {p1 : Chip} {p2 : CyclicFrame} (hp1 : z.Inside M p1) : z.Inside M (Chip.statusTable p1 p2) := by
  unfold Chip.statusTable
  extract_lets +onlyGivenNames x1
  clear_value x1
  refine .ite ?_ hp1
  extract_lets +onlyGivenNames x2
  exact Chip.storeRun_inside (hM.up rfl) hp1

theorem Chip.loopLength_inside {z : Chip} {M : ℕ} (hM : Sub 536870978 M) {p1 : Chip} {p2 : ℕ} (hp1 : z.Inside M p1) : z.Inside M (Chip.loopLength p1 p2) := by
  unfold Chip.loopLength
  extract_lets +onlyGivenNames x1
  have hx1 : z.Inside M x1 := Chip.set_inside (hM.up rfl) hp1
  clear_value x1
  extract_lets +onlyGivenNames x2
  clear_value x2
  exact .ite (Chip.modRing_inside (hM.up rfl) hx1) (.ite hx1 (Chip.note_inside (hM.up rfl) (Chip.put_inside (hM.up rfl) (Chip.modRing_inside (hM.up rfl) hx1))))

theorem Chip.ownFrame_inside {z : Chip} {M : ℕ} (hM : Sub 536870978 M) {p1 : Chip} {p2 : CyclicFrame} {p3 : ℕ} (hp1 : z.Inside M p1) : z.Inside M (Chip.ownFrame p1 p2 p3) := by
  unfold Chip.ownFrame
  extract_lets +onlyGivenNames x1
  have hx1 : z.Inside M x1 := Chip.loopLength_inside (hM.up rfl) (Chip.modRing_inside (hM.up rfl) hp1)
  clear_value x1
  extract_lets +onlyGivenNames x2
  extract_lets +onlyGivenNames x3
  clear_value x3
  extract_lets +onlyGivenNames x4
  clear_value x4
  exact .ite hx1 (.ite (Chip.firstNote_inside (hM.up rfl) hx1) (Chip.setpoints_inside (hM.up rfl) hx1))

theorem Chip.nodeHeard_inside {z : Chip} {M : ℕ} (hM : Sub 536870978 M) {p1 : Chip} {p2 : ℕ} (hp1 : z.Inside M p1) : z.Inside M (Chip.nodeHeard p1 p2) := by
  unfold Chip.nodeHeard
  extract_lets +onlyGivenNames x1
  have hx1 : z.Inside M x1 := Chip.modRing_inside (hM.up rfl) hp1
  clear_value x1
  exact .ite hx1 (Chip.note_inside (hM.up rfl) (Chip.put_inside (hM.up rfl) (Chip.setBitOf_inside (hM.up rfl) hx1)))

theorem Chip.timerFollow_inside {z : Chip} {M : ℕ} (hM : Sub 536870912 M) {p1 : Chip} {p2 : ℕ} (hp1 : z.Inside M p1) : z.Inside M (Chip.timerFollow p1 p2) := by
  unfold Chip.timerFollow
  extract_lets +onlyGivenNames x1
  clear_value x1
  refine .ite (Chip.modRing_inside (hM.up rfl) hp1) ?_
  refine .ite hp1 ?_
  extract_lets +onlyGivenNames x2
  extract_lets +onlyGivenNames x3
  extract_lets +onlyGivenNames x4
  exact Chip.modRing_inside (hM.up rfl) hp1

theorem Chip.managerFrame_inside {z : Chip} {M : ℕ} (hM : Sub 939524166 M) {p1 : Chip} {p2 : CyclicFrame} {p3 : ℕ} (hp1 : z.Inside M p1) : z.Inside M (Chip.managerFrame p1 p2 p3) := by
  unfold Chip.managerFrame
  refine .ite hp1 ?_
  extract_lets +onlyGivenNames x1
  clear_value x1
  extract_lets +onlyGivenNames x2
  have hx2 : z.Inside M x2 := Chip.sets_inside (hM.up rfl) (Chip.timerFollow_inside (hM.up rfl) hp1)
  clear_value x2
  extract_lets +onlyGivenNames x3
  have hx3 : z.Inside M x3 := .ite (Chip.roleSet_inside (hM.up rfl) hx2) hx2
  clear_value x3
  extract_lets +onlyGivenNames x4
  have hx4 : z.Inside M x4 := Chip.modRing_inside (hM.up rfl) hx3
  clear_value x4
  exact .ite (Chip.modRing_inside (hM.up rfl) hx4) hx4

theorem Chip.cyclicRx_inside {z : Chip} {M : ℕ} (hM : Sub 939524174 M) {p1 : Chip} {p2 : Bool} {p3 : CyclicFrame} {p4 : Bool} (hp1 : z.Inside M p1) : z.Inside M (Chip.cyclicRx p1 p2 p3 p4) := by
  unfold Chip.cyclicRx
  refine .ite hp1 ?_
  refine .ite (Chip.bump_inside (hM.up rfl) hp1) ?_
  extract_lets +onlyGivenNames x1
  have hx1 : z.Inside M x1 := .ite hp1 (Chip.put_inside (hM.up rfl) hp1)
  clear_value x1
  extract_lets +onlyGivenNames x2
  clear_value x2
  extract_lets +onlyGivenNames x3
  clear_value x3
  extract_lets +onlyGivenNames x4
  extract_lets +onlyGivenNames x5
  have hx5 : z.Inside M x5 := Chip.epochFound_inside (hM.up rfl) hx1
  clear_value x5
  extract_lets +onlyGivenNames x6
  have hx6 : z.Inside M x6 := .ite (Chip.epochFound_inside (hM.up rfl) hx5) hx5
  clear_value x6
  extract_lets +onlyGivenNames x7
  clear_value x7
  refine .ite ?_ ?_
  · refine .ite ?_ (.ite (Chip.ownFrame_inside (hM.up rfl) (Chip.nodeHeard_inside (hM.up rfl) hx6)) (Chip.ringOut_inside (hM.up rfl) (Chip.statusTable_inside (hM.up rfl) hx6)))
    extract_lets +onlyGivenNames x8
    have hx8 : z.Inside M x8 := .ite hx6 (Chip.msgsDown_inside (hM.up rfl) (Chip.note_inside (hM.up rfl) (Chip.sets_inside (hM.up rfl) hx6)))
    clear_value x8
    exact Chip.ringOut_inside (hM.up rfl) (Chip.statusTable_inside (hM.up rfl) hx8)
  · extract_lets +onlyGivenNames x9
    have hx9 : z.Inside M x9 := Chip.nodeHeard_inside (hM.up rfl) hx6
    clear_value x9
    extract_lets +onlyGivenNames x10
    clear_value x10
    extract_lets +onlyGivenNames x11
    have hx11 : z.Inside M x11 := Chip.modRing_inside (hM.up rfl) hx9
    clear_value x11
    extract_lets +onlyGivenNames x12
    have hx12 : z.Inside M x12 := .ite (Chip.managerFrame_inside (hM.up rfl) hx11) hx11
    clear_value x12
    exact Chip.ringOut_inside (hM.up rfl) (Chip.statusTable_inside (hM.up rfl) hx12)

theorem Chip.declareStandstill_inside {z : Chip} {M : ℕ} (hM : Sub 32770 M) {p1 : Chip} {p2 : ℕ} (hp1 : z.Inside M p1) : z.Inside M (Chip.declareStandstill p1 p2) := by
  unfold Chip.declareStandstill
  extract_lets +onlyGivenNames x1
  have hx1 : z.Inside M x1 := Chip.sets_inside (hM.up rfl) hp1
  clear_value x1
  exact Chip.modPos_inside (hM.up rfl) hx1

theorem Chip.deliver_inside {z : Chip} {M : ℕ} (hM : Sub 16450 M) {p1 : Chip} {p2 : ℕ} {p3 : ℕ} {p4 : ℕ} {p5 : ℕ} {p6 : Bool} {p7 : Bool} {p8 : Bool} {p9 : Bool} (hp1 : z.Inside M p1) : z.Inside M (Chip.deliver p1 p2 p3 p4 p5 p6 p7 p8 p9) := by
  unfold Chip.deliver
  extract_lets +onlyGivenNames x1
  extract_lets +onlyGivenNames x2
  have hx2 : z.Inside M x2 := Chip.modMeas_inside (hM.up rfl) hp1
  clear_value x2
  extract_lets +onlyGivenNames x3
  have hx3 : z.Inside M x3 := Chip.rbSet_inside (hM.up rfl) hx2
  clear_value x3
  extract_lets +onlyGivenNames x4
  clear_value x4
  refine .ite ?_ hx3
  extract_lets +onlyGivenNames x5
  have hx5 : z.Inside M x5 := .ite hx3 (Chip.noteCl_inside (hM.up rfl) hx3)
  clear_value x5
  exact Chip.put_inside (hM.up rfl) hx5

theorem Chip.descStart_inside {z : Chip} {M : ℕ} (hM : Sub 67108882 M) {p1 : Chip} {p2 : ℕ} (hp1 : z.Inside M p1) : z.Inside M (Chip.descStart p1 p2) := by
  unfold Chip.descStart
  split
  · exact hp1
  · rename_i y3 q4
    refine .ite hp1 ?_
    split
    · rename_i y5 y6 q7
      extract_lets +onlyGivenNames x8
      have hx8 : z.Inside M x8 := .ite (Chip.useFree_inside (hM.up rfl) hp1) hp1
      clear_value x8
      exact Chip.descEnd_inside (hM.up rfl) (Chip.modDesc_inside (hM.up rfl) hx8)
    · extract_lets +onlyGivenNames x11
      clear_value x11
      extract_lets +onlyGivenNames x12
      have hx12 : z.Inside M x12 := Chip.modDesc_inside (hM.up rfl) hp1
      clear_value x12
      extract_lets +onlyGivenNames x13
      have hx13 : z.Inside M x13 := .ite (Chip.put_inside (hM.up rfl) (Chip.setBitOf_inside (hM.up rfl) hx12)) hx12
      clear_value x13
      exact Chip.hwShow_inside (hM.up rfl) hx13

theorem Chip.descFail_inside {z : Chip} {M : ℕ} (hM : Sub 67108930 M) {p1 : Chip} {p2 : ℕ} {p3 : ℕ} {p4 : ℕ} (hp1 : z.Inside M p1) : z.Inside M (Chip.descFail p1 p2 p3 p4) := by
  unfold Chip.descFail
  refine .ite hp1 ?_
  extract_lets +onlyGivenNames x1
  clear_value x1
  extract_lets +onlyGivenNames x2
  have hx2 : z.Inside M x2 := Chip.modHw_inside (hM.up rfl) (Chip.put_inside (hM.up rfl) hp1)
  clear_value x2
  exact .ite hx2 (Chip.note_inside (hM.up rfl) hx2)

theorem Chip.recordWrite_inside {z : Chip} {M : ℕ} (hM : Sub 67108870 M) {p1 : Chip} {p2 : ℕ} {p3 : DescS} {p4 : ℕ} {p5 : ℕ} (hp1 : z.Inside M p1) : z.Inside M (Chip.recordWrite p1 p2 p3 p4 p5) := by
  unfold Chip.recordWrite
  extract_lets +onlyGivenNames x1
  clear_value x1
  extract_lets +onlyGivenNames x2
  clear_value x2
  extract_lets +onlyGivenNames x3
  clear_value x3
  extract_lets +onlyGivenNames x4
  clear_value x4
  extract_lets +onlyGivenNames x5
  extract_lets +onlyGivenNames x6
  have hx6 : z.Inside M x6 := Chip.setBytes_inside (hM.up rfl) hp1
  clear_value x6
  extract_lets +onlyGivenNames x7
  extract_lets +onlyGivenNames x8
  have hx8 : z.Inside M x8 := Chip.sets_inside (hM.up rfl) hx6
  clear_value x8
  exact Chip.cqAnnounce_inside (hM.up rfl) (Chip.pulse_inside (hM.up rfl) hx8)

theorem Chip.descComplete_inside {z : Chip} {M : ℕ} (hM : Sub 67108950 M) {p1 : Chip} {p2 : ℕ} (hp1 : z.Inside M p1) : z.Inside M (Chip.descComplete p1 p2) := by
  unfold Chip.descComplete
  extract_lets +onlyGivenNames x1
  have hx1 : z.Inside M x1 := by
    unfold x1
    split
    · exact .ite hp1 (Chip.descStart_inside (hM.up rfl) hp1)
    · exact hp1
  clear_value x1
  split
  · exact Chip.hwAbortEnd_inside (hM.up rfl) hx1
  · rename_i y8 q9
    extract_lets +onlyGivenNames x10
    clear_value x10
    split
    · exact hx1
    · rename_i y13 y14 q15
      extract_lets +onlyGivenNames x16
      have hx16 : z.Inside M x16 := .ite (.each hx1 (fun a17 t18 ht18 => Chip.flagPut_inside (hM.up rfl) ht18)) hx1
      clear_value x16
      extract_lets +onlyGivenNames x19
      have hx19 : z.Inside M x19 := Chip.modHwQ_inside (hM.up rfl) hx16
      clear_value x19
      extract_lets +onlyGivenNames x20
      have hx20 : z.Inside M x20 := Chip.descFail_inside (hM.up rfl) (Chip.recordWrite_inside (hM.up rfl) hx19)
      clear_value x20
      exact Chip.hwAbortEnd_inside (hM.up rfl) hx20

theorem Chip.descItem_inside {z : Chip} {M : ℕ} (hM : Sub 67108882 M) {p1 : Chip} {p2 : ℕ} {p3 : ℕ} {p4 : DescS → Chip → Chip} (hp1 : z.Inside M p1) (hp4 : ∀ u1, ∀ u2, z.Inside M u2 → z.Inside M (p4 u1 u2)) : z.Inside M (Chip.descItem p1 p2 p3 p4) := by
  unfold Chip.descItem
  split
  · rename_i y1 q2
    refine .ite hp1 ?_
    extract_lets +onlyGivenNames x3
    have hx3 : z.Inside M x3 := Chip.descStart_inside (hM.up rfl) hp1
    clear_value x3
    split
    · exact .ite (hp4 _ _ hx3) hx3
    · exact hx3
  · exact hp1

theorem Chip.descMore_inside {z : Chip} {M : ℕ} (hM : Sub 67108866 M) {p1 : Chip} {p2 : ℕ} {p3 : ℕ} {p4 : ℕ} (hp1 : z.Inside M p1) : z.Inside M (Chip.descMore p1 p2 p3 p4) := by
  unfold Chip.descMore
  extract_lets +onlyGivenNames x1
  have hx1 : z.Inside M x1 := Chip.modDesc_inside (hM.up rfl) hp1
  clear_value x1
  split
  · exact .ite (Chip.descEnd_inside (hM.up rfl) hx1) hx1
  · exact hx1

theorem Chip.sourceLost_inside {z : Chip} {M : ℕ} (hM : Sub 32834 M) {p1 : Chip} {p2 : ℕ} (hp1 : z.Inside M p1) : z.Inside M (Chip.sourceLost p1 p2) := by
  unfold Chip.sourceLost
  extract_lets +onlyGivenNames x1
  have hx1 : z.Inside M x1 := Chip.sets_inside (hM.up rfl) (Chip.posLose_inside (hM.up rfl) hp1)
  clear_value x1
  extract_lets +onlyGivenNames x2
  have hx2 : z.Inside M x2 := Chip.modPos_inside (hM.up rfl) hx1
  clear_value x2
  exact .ite (Chip.posNote_inside (hM.up rfl) hx2) (Chip.posNote_inside (hM.up rfl) hx2)

theorem Chip.sourceTickEnd_inside {z : Chip} {M : ℕ} (hM : Sub 32834 M) {p1 : Chip} {p2 : ℕ} (hp1 : z.Inside M p1) : z.Inside M (Chip.sourceTickEnd p1 p2) := by
  unfold Chip.sourceTickEnd
  exact .ite (Chip.sourceLost_inside (hM.up rfl) hp1) hp1

theorem Chip.evalSpeed_inside {z : Chip} {M : ℕ} (hM : Sub 32770 M) {p1 : Chip} {p2 : ℕ} (hp1 : z.Inside M p1) : z.Inside M (Chip.evalSpeed p1 p2) := by
  unfold Chip.evalSpeed
  extract_lets +onlyGivenNames x1
  refine .ite ?_ (Chip.modPos_inside (hM.up rfl) hp1)
  refine .ite ?_ ?_
  · extract_lets +onlyGivenNames x2
    clear_value x2
    exact Chip.modPos_inside (hM.up rfl) (Chip.set_inside (hM.up rfl) hp1)
  · extract_lets +onlyGivenNames x3
    clear_value x3
    exact Chip.set_inside (hM.up rfl) hp1

theorem Chip.resUnlock_inside {z : Chip} {M : ℕ} (hM : Sub 32834 M) {p1 : Chip} {p2 : ℕ} {p3 : ℕ} {p4 : ℕ} (hp1 : z.Inside M p1) : z.Inside M (Chip.resUnlock p1 p2 p3 p4) := by
  unfold Chip.resUnlock
  extract_lets +onlyGivenNames x1
  have hx1 : z.Inside M x1 := .ite (Chip.posLose_inside (hM.up rfl) (Chip.put_inside (hM.up rfl) hp1)) hp1
  clear_value x1
  exact Chip.posNote_inside (hM.up rfl) (Chip.put_inside (hM.up rfl) (Chip.put_inside (hM.up rfl) hx1))

theorem Chip.resEval_inside {z : Chip} {M : ℕ} (hM : Sub 32834 M) {p1 : Chip} {p2 : ℕ} {p3 : Option (ℤ × ℤ)} (hp1 : z.Inside M p1) : z.Inside M (Chip.resEval p1 p2 p3) := by
  unfold Chip.resEval
  split
  · rename_i y1 y2 q3
    extract_lets +onlyGivenNames x4
    clear_value x4
    extract_lets +onlyGivenNames x5
    clear_value x5
    extract_lets +onlyGivenNames x6
    clear_value x6
    extract_lets +onlyGivenNames x7
    extract_lets +onlyGivenNames x8
    have hx8 : z.Inside M x8 := Chip.set_inside (hM.up rfl) (Chip.set_inside (hM.up rfl) hp1)
    clear_value x8
    extract_lets +onlyGivenNames x9
    clear_value x9
    extract_lets +onlyGivenNames x10
    clear_value x10
    extract_lets +onlyGivenNames x11
    clear_value x11
    extract_lets +onlyGivenNames x12
    clear_value x12
    extract_lets +onlyGivenNames x13
    have hx13 : z.Inside M x13 := Chip.modPos_inside (hM.up rfl) hx8
    clear_value x13
    extract_lets +onlyGivenNames x14
    extract_lets +onlyGivenNames x15
    have hx15 : z.Inside M x15 := .ite (Chip.resUnlock_inside (hM.up rfl) hx13) hx13
    clear_value x15
    extract_lets +onlyGivenNames x16
    have hx16 : z.Inside M x16 := .ite (Chip.resUnlock_inside (hM.up rfl) hx15) hx15
    clear_value x16
    extract_lets +onlyGivenNames x17
    have hx17 : z.Inside M x17 := .ite (Chip.posOk_inside (hM.up rfl) (Chip.put_inside (hM.up rfl) (Chip.put_inside (hM.up rfl) hx16))) hx16
    clear_value x17
    extract_lets +onlyGivenNames x18
    clear_value x18
    extract_lets +onlyGivenNames x19
    clear_value x19
    extract_lets +onlyGivenNames x20
    have hx20 : z.Inside M x20 := .ite (Chip.put_inside (hM.up rfl) (Chip.put_inside (hM.up rfl) hx17)) hx17
    clear_value x20
    exact Chip.sets_inside (hM.up rfl) hx20
  · extract_lets +onlyGivenNames x23
    have hx23 : z.Inside M x23 := Chip.modPos_inside (hM.up rfl) hp1
    clear_value x23
    exact .ite (Chip.resUnlock_inside (hM.up rfl) hx23) hx23

theorem Chip.latchAngle_inside {z : Chip} {M : ℕ} (hM : Sub 32770 M) {p1 : Chip} {p2 : ℕ} (hp1 : z.Inside M p1) : z.Inside M (Chip.latchAngle p1 p2) := by
  unfold Chip.latchAngle
  extract_lets +onlyGivenNames x1
  extract_lets +onlyGivenNames x2
  clear_value x2
  extract_lets +onlyGivenNames x3
  clear_value x3
  extract_lets +onlyGivenNames x4
  extract_lets +onlyGivenNames x5
  extract_lets +onlyGivenNames x6
  exact Chip.set_inside (hM.up rfl) (Chip.modPos_inside (hM.up rfl) hp1)

theorem Chip.posEval_inside {z : Chip} {M : ℕ} (hM : Sub 32834 M) {p1 : Chip} {p2 : ℕ} (hp1 : z.Inside M p1) : z.Inside M (Chip.posEval p1 p2) := by
  unfold Chip.posEval
  extract_lets +onlyGivenNames x1
  clear_value x1
  extract_lets +onlyGivenNames x2
  have hx2 : z.Inside M x2 := .ite (Chip.evalSpeed_inside (hM.up rfl) hp1) (.ite (Chip.modPos_inside (hM.up rfl) (Chip.resEval_inside (hM.up rfl) hp1)) hp1)
  clear_value x2
  exact Chip.latchAngle_inside (hM.up rfl) hx2

theorem Chip.posEvent_inside {z : Chip} {M : ℕ} (hM : Sub 32834 M) {p1 : Chip} {p2 : ℕ} {p3 : Chip → Chip} (hp1 : z.Inside M p1) (hp3 : ∀ u1, z.Inside M u1 → z.Inside M (p3 u1)) : z.Inside M (Chip.posEvent p1 p2 p3) := by
  unfold Chip.posEvent
  extract_lets +onlyGivenNames x1
  extract_lets +onlyGivenNames x2
  clear_value x2
  extract_lets +onlyGivenNames x3
  have hx3 : z.Inside M x3 := .ite (Chip.set_inside (hM.up rfl) (Chip.modPos_inside (hM.up rfl) hp1)) hp1
  clear_value x3
  extract_lets +onlyGivenNames x4
  have hx4 : z.Inside M x4 := hp3 _ hx3
  clear_value x4
  extract_lets +onlyGivenNames x5
  have hx5 : z.Inside M x5 := .ite (Chip.posEval_inside (hM.up rfl) hx4) hx4
  clear_value x5
  exact .ite (Chip.posSnap_inside (hM.up rfl) hx5) hx5

theorem Chip.idxErr_inside {z : Chip} {M : ℕ} (hM : Sub 66 M) {p1 : Chip} {p2 : ℕ} {p3 : ℤ} (hp1 : z.Inside M p1) : z.Inside M (Chip.idxErr p1 p2 p3) := by
  unfold Chip.idxErr
  exact Chip.posNote_inside (hM.up rfl) (Chip.put_inside (hM.up rfl) hp1)

theorem Chip.zeroCnt_inside {z : Chip} {M : ℕ} (hM : Sub 2 M) {p1 : Chip} {p2 : ℕ} (hp1 : z.Inside M p1) : z.Inside M (Chip.zeroCnt p1 p2) := by
  unfold Chip.zeroCnt
  extract_lets +onlyGivenNames x1
  have hx1 : z.Inside M x1 := Chip.set_inside (hM.up rfl) hp1
  clear_value x1
  exact Chip.set_inside (hM.up rfl) hx1

theorem Chip.posIndex_inside {z : Chip} {M : ℕ} (hM : Sub 32834 M) {p1 : Chip} {p2 : ℕ} {p3 : Bool} (hp1 : z.Inside M p1) : z.Inside M (Chip.posIndex p1 p2 p3) := by
  unfold Chip.posIndex
  extract_lets +onlyGivenNames x1
  extract_lets +onlyGivenNames x2
  clear_value x2
  refine .ite hp1 ?_
  extract_lets +onlyGivenNames x3
  extract_lets +onlyGivenNames x4
  have hx4 : z.Inside M x4 := Chip.sets_inside (hM.up rfl) hp1
  clear_value x4
  extract_lets +onlyGivenNames x5
  have hx5 : z.Inside M x5 := Chip.modPos_inside (hM.up rfl) hx4
  clear_value x5
  extract_lets +onlyGivenNames x6
  have hx6 : ∀ w7, z.Inside M w7 → z.Inside M (x6 w7) := fun w7 hw7 => .ite hw7 (Chip.modPos_inside (hM.up rfl) hw7)
  clear_value x6
  refine .ite hx5 ?_
  refine .ite ?_ (.ite (hx6 _ (Chip.modPos_inside (hM.up rfl) (Chip.put_inside (hM.up rfl) (Chip.zeroCnt_inside (hM.up rfl) hx5)))) (.ite (Chip.posLose_inside (hM.up rfl) (Chip.idxErr_inside (hM.up rfl) hx5)) hx5))
  extract_lets +onlyGivenNames x8
  have hx8 : z.Inside M x8 := .ite (Chip.idxErr_inside (hM.up rfl) hx5) hx5
  clear_value x8
  exact hx6 _ (Chip.put_inside (hM.up rfl) (Chip.zeroCnt_inside (hM.up rfl) hx8))

theorem Chip.posTickEnd_inside {z : Chip} {M : ℕ} (hM : Sub 32834 M) {p1 : Chip} {p2 : ℕ} (hp1 : z.Inside M p1) : z.Inside M (Chip.posTickEnd p1 p2) := by
  unfold Chip.posTickEnd
  extract_lets +onlyGivenNames x1
  have hx1 : z.Inside M x1 := by
    unfold x1
    split
    · exact Chip.posEvent_inside (hM.up rfl) (Chip.modPos_inside (hM.up rfl) hp1) (fun v4 hv4 => Chip.posIndex_inside (hM.up rfl) hv4)
    · exact hp1
  clear_value x1
  extract_lets +onlyGivenNames x7
  clear_value x7
  exact Chip.modPos_inside (hM.up rfl) hx1

theorem Chip.sampleRef_inside {z : Chip} {M : ℕ} (hM : Sub 16384 M) {p1 : Chip} {p2 : ℕ} (hp1 : z.Inside M p1) : z.Inside M (Chip.sampleRef p1 p2) := by
  unfold Chip.sampleRef
  exact .ite hp1 (Chip.modMeas_inside (hM.up rfl) hp1)

theorem Chip.sampleNow_inside {z : Chip} {M : ℕ} (hM : Sub 53314 M) {p1 : Chip} {p2 : ℕ} (hp1 : z.Inside M p1) : z.Inside M (Chip.sampleNow p1 p2) := by
  unfold Chip.sampleNow
  refine .ite hp1 ?_
  refine Chip.atTick_inside (hM.up rfl) hp1 ?_
  intro z v1 hv1
  extract_lets +onlyGivenNames x2
  clear_value x2
  extract_lets +onlyGivenNames x3
  clear_value x3
  extract_lets +onlyGivenNames x4
  have hx4 : z.Inside M x4 := Chip.modCl_inside (hM.up rfl) (Chip.sampleRef_inside (hM.up rfl) hv1)
  clear_value x4
  split
  · exact .ite hx4 (Chip.posEval_inside (hM.up rfl) hx4)
  · exact hx4

theorem Chip.reqAgain_inside {z : Chip} {M : ℕ} (hM : Sub 1814866 M) {p1 : Chip} {p2 : ℕ} (hp1 : z.Inside M p1) : z.Inside M (Chip.reqAgain p1 p2) := by
  unfold Chip.reqAgain
  extract_lets +onlyGivenNames x1
  extract_lets +onlyGivenNames x2
  have hx2 : z.Inside M x2 := Chip.modCl_inside (hM.up rfl) hp1
  clear_value x2
  refine .ite hx2 ?_
  extract_lets +onlyGivenNames x3
  have hx3 : z.Inside M x3 := .ite (Chip.put_inside (hM.up rfl) (Chip.modCl_inside (hM.up rfl) hx2)) hx2
  clear_value x3
  exact Chip.handleReq_inside (hM.up rfl) hx3

theorem Chip.tickEnd_inside {z : Chip} {M : ℕ} (hM : Sub 1831250 M) {p1 : Chip} (hp1 : z.Inside M p1) : z.Inside M (Chip.tickEnd p1) := by
  unfold Chip.tickEnd
  extract_lets +onlyGivenNames x1
  have hx1 : z.Inside M x1 := .each hp1 (fun a2 t3 ht3 => Chip.sourceTickEnd_inside (hM.up rfl) (Chip.posTickEnd_inside (hM.up rfl) ht3))
  clear_value x1
  refine .each hx1 ?_
  intro a4 t5 ht5
  extract_lets +onlyGivenNames x6
  have hx6 : z.Inside M x6 := .ite (Chip.sampleNow_inside (hM.up rfl) ht5) ht5
  clear_value x6
  exact Chip.catchPulse_inside (hM.up rfl) (Chip.refall_inside (hM.up rfl) (Chip.reqAgain_inside (hM.up rfl) (Chip.cmpTick_inside (hM.up rfl) hx6)))

theorem Chip.startDue_inside {z : Chip} {M : ℕ} (hM : Sub 1708354 M) {p1 : Chip} {p2 : ℕ} (hp1 : z.Inside M p1) : z.Inside M (Chip.startDue p1 p2) := by
  unfold Chip.startDue
  extract_lets +onlyGivenNames x1
  exact .ite (Chip.modSlice_inside (hM.up rfl) (Chip.startSlice_inside (hM.up rfl) hp1)) hp1

theorem Chip.holdWatch_inside {z : Chip} {M : ℕ} (hM : Sub 131072 M) {p1 : Chip} {p2 : ℕ} (hp1 : z.Inside M p1) : z.Inside M (Chip.holdWatch p1 p2) := by
  unfold Chip.holdWatch
  extract_lets +onlyGivenNames x1
  exact .ite hp1 (Chip.modSlice_inside (hM.up rfl) hp1)

theorem Chip.forceDue_inside {z : Chip} {M : ℕ} (hM : Sub 1708354 M) {p1 : Chip} {p2 : ℕ} (hp1 : z.Inside M p1) : z.Inside M (Chip.forceDue p1 p2) := by
  unfold Chip.forceDue
  extract_lets +onlyGivenNames x1
  clear_value x1
  extract_lets +onlyGivenNames x2
  clear_value x2
  refine .ite hp1 ?_
  extract_lets +onlyGivenNames x3
  clear_value x3
  extract_lets +onlyGivenNames x4
  clear_value x4
  extract_lets +onlyGivenNames x5
  clear_value x5
  extract_lets +onlyGivenNames x6
  have hx6 : z.Inside M x6 := Chip.modSlice_inside (hM.up rfl) (Chip.accrue_inside (hM.up rfl) hp1)
  clear_value x6
  extract_lets +onlyGivenNames x7
  clear_value x7
  extract_lets +onlyGivenNames x8
  clear_value x8
  extract_lets +onlyGivenNames x9
  clear_value x9
  extract_lets +onlyGivenNames x10
  clear_value x10
  extract_lets +onlyGivenNames x11
  have hx11 : z.Inside M x11 := .ite hx6 (Chip.fallL_inside (hM.up rfl) hx6)
  clear_value x11
  extract_lets +onlyGivenNames x12
  have hx12 : z.Inside M x12 := .ite hx11 (Chip.fallH_inside (hM.up rfl) hx11)
  clear_value x12
  extract_lets +onlyGivenNames x13
  have hx13 : z.Inside M x13 := Chip.modSlice_inside (hM.up rfl) hx12
  clear_value x13
  extract_lets +onlyGivenNames x14
  clear_value x14
  extract_lets +onlyGivenNames x15
  have hx15 : z.Inside M x15 := .ite (Chip.riseH_inside (hM.up rfl) hx13) hx13
  clear_value x15
  extract_lets +onlyGivenNames x16
  have hx16 : z.Inside M x16 := .ite (Chip.riseL_inside (hM.up rfl) hx15) hx15
  clear_value x16
  exact Chip.checkSlice_inside (hM.up rfl) (Chip.outputs_inside (hM.up rfl) (Chip.dropGates_inside (hM.up rfl) hx16))

theorem Chip.sliceTick_inside {z : Chip} {M : ℕ} (hM : Sub 1708354 M) {p1 : Chip} (hp1 : z.Inside M p1) : z.Inside M (Chip.sliceTick p1) := by
  unfold Chip.sliceTick
  extract_lets +onlyGivenNames x1
  extract_lets +onlyGivenNames x2
  have hx2 : z.Inside M x2 := .each hp1 (fun a3 t4 ht4 => .ite ht4 (Chip.startDue_inside (hM.up rfl) ht4))
  clear_value x2
  extract_lets +onlyGivenNames x5
  have hx5 : z.Inside M x5 := .each hx2 (fun a6 t7 ht7 => Chip.startDue_inside (hM.up rfl) ht7)
  clear_value x5
  exact .each hx5 (fun a8 t9 ht9 => Chip.holdWatch_inside (hM.up rfl) (Chip.forceDue_inside (hM.up rfl) (.ite (Chip.bcmTick_inside (hM.up rfl) ht9) ht9)))

theorem Chip.txStart_inside {z : Chip} {M : ℕ} (hM : Sub 134217728 M) {p1 : Chip} {p2 : ℕ} (hp1 : z.Inside M p1) : z.Inside M (Chip.txStart p1 p2) := by
  unfold Chip.txStart
  extract_lets +onlyGivenNames x1
  refine .ite ?_ hp1
  split
  · exact Chip.modCan_inside (hM.up rfl) hp1
  · exact hp1

theorem Chip.scanSamples_inside {z : Chip} {M : ℕ} (hM : Sub 8192 M) {p1 : Chip} (hp1 : z.Inside M p1) : z.Inside M (Chip.scanSamples p1) := by
  unfold Chip.scanSamples
  exact (Chip.Inside.mk_adc (hM.up rfl) hp1)

theorem Chip.sdTick_inside {z : Chip} {M : ℕ} (hM : Sub 18 M) {p1 : Chip} (hp1 : z.Inside M p1) : z.Inside M (Chip.sdTick p1) := by
  unfold Chip.sdTick
  extract_lets +onlyGivenNames x1
  exact .ite hp1 (Chip.useFree_inside (hM.up rfl) (.each hp1 (fun a2 t3 ht3 => Chip.set_inside (hM.up rfl) ht3)))

theorem Chip.fabTick_inside {z : Chip} {M : ℕ} (hM : Sub 16 M) {p1 : Chip} (hp1 : z.Inside M p1) : z.Inside M (Chip.fabTick p1) := by
  unfold Chip.fabTick
  extract_lets +onlyGivenNames x1
  clear_value x1
  refine .ite (Chip.Inside.mk_irq (hM.up rfl) hp1) ?_
  extract_lets +onlyGivenNames x2
  have hx2 : z.Inside M x2 := Chip.useFree_inside (hM.up rfl) hp1
  clear_value x2
  exact (Chip.Inside.mk_irq (hM.up rfl) hx2)

theorem Chip.ringTick_inside {z : Chip} {M : ℕ} (hM : Sub 536870914 M) {p1 : Chip} (hp1 : z.Inside M p1) : z.Inside M (Chip.ringTick p1) := by
  unfold Chip.ringTick
  refine .ite hp1 ?_
  extract_lets +onlyGivenNames x1
  have hx1 : ∀ w2, z.Inside M w2 → ∀ w3, ∀ w4, z.Inside M (x1 w2 w3 w4) := fun w2 hw2 w3 w4 => Chip.modRing_inside (hM.up rfl) hw2
  clear_value x1
  split
  · exact .ite (hx1 _ (Chip.modRing_inside (hM.up rfl) hp1) _ _) hp1
  · exact .ite (hx1 _ (Chip.modRing_inside (hM.up rfl) hp1) _ _) hp1
  · split
    · rename_i y19 q20
      extract_lets +onlyGivenNames x21
      refine .ite ?_ hp1
      extract_lets +onlyGivenNames x22
      have hx22 : z.Inside M x22 := Chip.modMsg_inside (hM.up rfl) hp1
      clear_value x22
      extract_lets +onlyGivenNames x23
      have hx23 : z.Inside M x23 := Chip.bump_inside (hM.up rfl) hx22
      clear_value x23
      exact hx1 _ hx23 _ _
    · exact hp1

theorem Chip.dieTick_inside {z : Chip} {M : ℕ} (hM : Sub 2139095039 M) {p1 : Chip} (hp1 : z.Inside M p1) : z.Inside M (Chip.dieTick p1) :=
  .all hM

theorem Chip.diodePass_inside {z : Chip} {M : ℕ} (hM : Sub 4096 M) {p1 : Chip} {p2 : ℕ} (hp1 : z.Inside M p1) : z.Inside M (Chip.diodePass p1 p2) := by
  unfold Chip.diodePass
  exact Chip.modCl_inside (hM.up rfl) hp1

theorem Chip.diodeWatch_inside {z : Chip} {M : ℕ} (hM : Sub 4096 M) {p1 : Chip} {p2 : ℕ} {p3 : List ℕ} (hp1 : z.Inside M p1) : z.Inside M (Chip.diodeWatch p1 p2 p3) := by
  unfold Chip.diodeWatch
  extract_lets +onlyGivenNames x1
  clear_value x1
  exact .ite (Chip.modCl_inside (hM.up rfl) hp1) hp1

theorem Chip.drainFor_inside {z : Chip} {M : ℕ} (hM : Sub 2139095039 M) {p1 : Chip} {p2 : Requester} {p3 : ℕ} (hp1 : z.Inside M p1) : z.Inside M (Chip.drainFor p1 p2 p3) :=
  .all hM

theorem Chip.dupInputs_inside {z : Chip} {M : ℕ} (hM : Sub 1708354 M) {p1 : Chip} {p2 : ℕ} {p3 : Upset} (hp1 : z.Inside M p1) : z.Inside M (Chip.dupInputs p1 p2 p3) := by
  unfold Chip.dupInputs
  split
  · exact .ite hp1 (Chip.faultCl_inside (hM.up rfl) hp1)
  · exact hp1

theorem Chip.takeover_inside {z : Chip} {M : ℕ} (hM : Sub 69698 M) {p1 : Chip} {p2 : ℕ} {p3 : ℕ} (hp1 : z.Inside M p1) : z.Inside M (Chip.takeover p1 p2 p3) := by
  unfold Chip.takeover
  extract_lets +onlyGivenNames x1
  have hx1 : z.Inside M x1 := Chip.sets_inside (hM.up rfl) (Chip.modCl_inside (hM.up rfl) hp1)
  clear_value x1
  exact Chip.noteCl_inside (hM.up rfl) (Chip.resetEngine_inside (hM.up rfl) hx1)

theorem Chip.engineFault_inside {z : Chip} {M : ℕ} (hM : Sub 1773890 M) {p1 : Chip} {p2 : ℕ} {p3 : ℕ} (hp1 : z.Inside M p1) : z.Inside M (Chip.engineFault p1 p2 p3) := by
  unfold Chip.engineFault
  extract_lets +onlyGivenNames x1
  have hx1 : z.Inside M x1 := Chip.put_inside (hM.up rfl) hp1
  clear_value x1
  exact .ite (Chip.faultCl_inside (hM.up rfl) hx1) (.ite (Chip.takeover_inside (hM.up rfl) (Chip.record_inside (hM.up rfl) hx1)) (Chip.faultCl_inside (hM.up rfl) hx1))

theorem Chip.engineRead_inside {z : Chip} {M : ℕ} (hM : Sub 125549054 M) {p1 : Chip} {p2 : ℕ} {p3 : ℕ} {p4 : ℕ} {p5 : ℕ} (hp1 : z.Inside M p1) :
    z.Inside M (Chip.engineRead p1 p2 p3 p4 p5).1 :=
  .iteP hp1 (.foldlP (β := Option ℕ) (.fst (.ite (Chip.reachGate_inside (hM.up rfl) hp1) hp1)) fun _ _ ht => .iteP ht (Chip.eccRead_inside (hM.up rfl) ht))

theorem Chip.flashReady_inside {z : Chip} {M : ℕ} (hM : Sub 2097218 M) {p1 : Chip} {p2 : ℕ} (hp1 : z.Inside M p1) : z.Inside M (Chip.flashReady p1 p2).1 := by
  unfold Chip.flashReady
  extract_lets +onlyGivenNames x1
  have hx1 : z.Inside M x1 := .ite hp1 (Chip.submitWrite_inside (hM.up rfl) hp1)
  clear_value x1
  exact .fst hx1

theorem Chip.flashItem_inside {z : Chip} {M : ℕ} (hM : Sub 69206110 M) {p1 : Chip} {p2 : ℕ} {p3 : ℕ} {p4 : ℕ} {p5 : Bool} {p6 : DescS → Chip → List Byte} (hp1 : z.Inside M p1) : z.Inside M (Chip.flashItem p1 p2 p3 p4 p5 p6) := by
  unfold Chip.flashItem
  refine Chip.descItem_inside (hM.up rfl) hp1 ?_
  intro v1 v2 hv2
  refine .ite (Chip.descEnd_inside (hM.up rfl) hv2) ?_
  split
  · rename_i y3 y4 q5
    have hy3 : z.Inside M y3 := by
      have hh := congrArg Prod.fst q5
      dsimp only at hh
      rw [← hh]
      exact Chip.flashReady_inside (hM.up rfl) hv2
    refine .ite (Chip.hwShow_inside (hM.up rfl) hy3) ?_
    extract_lets +onlyGivenNames x6
    clear_value x6
    extract_lets +onlyGivenNames x7
    have hx7 : z.Inside M x7 := Chip.eccFresh_inside (hM.up rfl) (Chip.dropWrite_inside (hM.up rfl) hy3)
    clear_value x7
    exact .ite (Chip.hwAbortRun_inside (hM.up rfl) (Chip.descMore_inside (hM.up rfl) (Chip.setBytes_inside (hM.up rfl) hx7))) (Chip.descEnd_inside (hM.up rfl) (Chip.useFree_inside (hM.up rfl) (Chip.setBytes_inside (hM.up rfl) hx7)))

theorem Chip.eraseItem_inside {z : Chip} {M : ℕ} (hM : Sub 69206110 M) {p1 : Chip} {p2 : ℕ} {p3 : Bool} (hp1 : z.Inside M p1) : z.Inside M (Chip.eraseItem p1 p2 p3) := by
  unfold Chip.eraseItem
  exact Chip.flashItem_inside (hM.up rfl) hp1

theorem Chip.evalSection_inside {z : Chip} {M : ℕ} (hM : Sub 1773890 M) {p1 p2 p3 : ℕ} {p4 : Bool} {p5 : LoopRun} {p6 : ℕ} (hp5 : z.Inside M p5.chip) :
    z.Inside M (Chip.evalSection p1 p2 p3 p4 p5 p6).chip := by
  unfold Chip.evalSection
  split
  · exact hp5
  · extract_lets +onlyGivenNames s x b0 b1 b2 a1 a2 ty c s1 s2 y0
    have hp : z.Inside M (if ((F32.isFinite y0 || F32.isInf y0) && (ty == 1 || ty == 2)) = true then s.cleClamp p1 p2 p3 y0 else (s, y0, false)).1 :=
      .iteP (Chip.cleClamp_inside (hM.up rfl) hp5) hp5
    generalize (if ((F32.isFinite y0 || F32.isInf y0) && (ty == 1 || ty == 2)) = true then s.cleClamp p1 p2 p3 y0 else (s, y0, false)) = p at hp
    obtain ⟨t, y, cl⟩ := p
    refine .iteL (Chip.modCle_inside (hM.up rfl) hp) ?_
    dsimp only
    exact .ite (Chip.put_inside (hM.up rfl) (Chip.modCle_inside (hM.up rfl) hp)) (Chip.faultCl_inside (hM.up rfl) (Chip.put_inside (hM.up rfl) (Chip.modCle_inside (hM.up rfl) hp)))

theorem Chip.feStep_inside {z : Chip} {M : ℕ} (hM : Sub 65538 M) {p1 : Chip} {p2 : ℕ} {p3 : ℕ} {p4 : ℕ} {p5 : ℕ} {p6 : LoopIn} (hp1 : z.Inside M p1) : z.Inside M (Chip.feStep p1 p2 p3 p4 p5 p6) := by
  unfold Chip.feStep
  refine .ite hp1 ?_
  extract_lets +onlyGivenNames x1
  extract_lets +onlyGivenNames x2
  clear_value x2
  extract_lets +onlyGivenNames x3
  clear_value x3
  refine .ite (Chip.feZero_inside (hM.up rfl) hp1) ?_
  extract_lets +onlyGivenNames x4
  clear_value x4
  exact Chip.set_inside (hM.up rfl) (Chip.modCle_inside (hM.up rfl) hp1)

theorem Chip.evalList_inside {z : Chip} {M : ℕ} (hM : Sub 1773890 M) {p1 p2 : ℕ} {p3 : LoopIn} {p4 : LoopRun} {p5 : ℕ} (hp4 : z.Inside M p4.chip) :
    z.Inside M (Chip.evalList p1 p2 p3 p4 p5).chip := by
  unfold Chip.evalList
  split
  · exact hp4
  · extract_lets +onlyGivenNames s x d fr secs r
    have hr : z.Inside M r.chip := by
      have key : ∀ (l : List ℕ) (q : LoopRun), z.Inside M q.chip → z.Inside M (l.foldl (Chip.evalSection p1 p2 p5 fr) q).chip := by
        intro l
        induction l with
        | nil => intro q hq; exact hq
        | cons m l ih => intro q hq; exact ih _ (Chip.evalSection_inside (hM.up rfl) hq)
      exact key _ _ (Chip.setBitOf_inside (hM.up rfl) hp4)
    clear_value r
    split
    · exact hr
    · exact Chip.modCle_inside (hM.up rfl) (Chip.set_inside (hM.up rfl) (Chip.feStep_inside (hM.up rfl) (Chip.cleClamp_inside (hM.up rfl) hr)))

theorem Chip.faultOff_inside {z : Chip} {M : ℕ} (hM : Sub 524288 M) {p1 : Chip} {p2 : ℕ} (hp1 : z.Inside M p1) : z.Inside M (Chip.faultOff p1 p2) := by
  unfold Chip.faultOff
  extract_lets +onlyGivenNames x1
  clear_value x1
  exact Chip.modIsl_inside (hM.up rfl) hp1

theorem Chip.fenceInstr_inside {z : Chip} {M : ℕ} (hM : Sub 2139095039 M) {p1 : Chip} {p2 : ℕ} (hp1 : z.Inside M p1) : z.Inside M (Chip.fenceInstr p1 p2) :=
  .all hM

theorem Chip.fetchEntry_inside {z : Chip} {M : ℕ} (hM : Sub 67108866 M) {p1 : Chip} (hp1 : z.Inside M p1) : z.Inside M (Chip.fetchEntry p1) := by
  unfold Chip.fetchEntry
  split
  · exact hp1
  · rename_i y3 q4
    extract_lets +onlyGivenNames x5
    clear_value x5
    extract_lets +onlyGivenNames x6
    clear_value x6
    extract_lets +onlyGivenNames x7
    extract_lets +onlyGivenNames x8
    have hx8 : z.Inside M x8 := Chip.modHwQ_inside (hM.up rfl) hp1
    clear_value x8
    extract_lets +onlyGivenNames x9
    have hx9 : z.Inside M x9 := Chip.modHw_inside (hM.up rfl) hx8
    clear_value x9
    exact Chip.hwShow_inside (hM.up rfl) (Chip.set_inside (hM.up rfl) hx9)

theorem Chip.fetchFail_inside {z : Chip} {M : ℕ} (hM : Sub 125549054 M) {p1 : Chip} {p2 : ℕ} {p3 : ℕ} (hp1 : z.Inside M p1) : z.Inside M (Chip.fetchFail p1 p2 p3) := by
  unfold Chip.fetchFail
  exact .ite (Chip.halt_inside (hM.up rfl) (Chip.trap_inside (hM.up rfl) hp1)) (.ite hp1 (Chip.trap_inside (hM.up rfl) hp1))

theorem Chip.fetchParcel_inside {z : Chip} {M : ℕ} (hM : Sub 125549054 M) {p1 : Chip} {p2 : ℕ} {p3 : ℕ} {p4 : ℕ} (hp1 : z.Inside M p1) : z.Inside M (Chip.fetchParcel p1 p2 p3 p4).1 := by
  unfold Chip.fetchParcel
  extract_lets +onlyGivenNames x1
  clear_value x1
  extract_lets +onlyGivenNames x2
  clear_value x2
  refine .iteP (.fst hp1) ?_
  split
  · rename_i y3 y4 q5
    have hy3 : z.Inside M y3 := by
      have hh := congrArg Prod.fst q5
      dsimp only at hh
      rw [← hh]
      exact Chip.eccRead_inside (hM.up rfl) hp1
    exact .fst (.ite (Chip.Inside.mk_memS (hM.up rfl) hy3) hy3)

theorem Chip.fetchInstr_inside {z : Chip} {M : ℕ} (hM : Sub 125549054 M) {p1 : Chip} {p2 : ℕ} {p3 : ℕ} {p4 : ℕ} (hp1 : z.Inside M p1) : z.Inside M (Chip.fetchInstr p1 p2 p3 p4) := by
  unfold Chip.fetchInstr
  extract_lets +onlyGivenNames x1
  refine .ite hp1 ?_
  extract_lets +onlyGivenNames x2
  have hx2 : z.Inside M x2 := Chip.modHart_inside (hM.up rfl) hp1
  clear_value x2
  refine .ite (Chip.trap_inside (hM.up rfl) hx2) ?_
  split
  · rename_i y3 q4
    have hy3 : z.Inside M y3 := by
      have hh := congrArg Prod.fst q4
      dsimp only at hh
      rw [← hh]
      exact Chip.fetchParcel_inside (hM.up rfl) hx2
    exact Chip.fetchFail_inside (hM.up rfl) hy3
  · rename_i y5 q6
    have hy5 : z.Inside M y5 := by
      have hh := congrArg Prod.fst q6
      dsimp only at hh
      rw [← hh]
      exact Chip.fetchParcel_inside (hM.up rfl) hx2
    extract_lets +onlyGivenNames x7
    clear_value x7
    extract_lets +onlyGivenNames x8
    have hx8 : ∀ w9, z.Inside M w9 → z.Inside M (x8 w9) := fun w9 hw9 => Chip.modHart_inside (hM.up rfl) hw9
    clear_value x8
    refine .ite (hx8 _ hy5) ?_
    refine .ite (Chip.trap_inside (hM.up rfl) hy5) ?_
    split
    · rename_i y10 q11
      have hy10 : z.Inside M y10 := by
        have hh := congrArg Prod.fst q11
        dsimp only at hh
        rw [← hh]
        exact Chip.fetchParcel_inside (hM.up rfl) hy5
      exact Chip.fetchFail_inside (hM.up rfl) hy10
    · rename_i y12 q13
      have hy12 : z.Inside M y12 := by
        have hh := congrArg Prod.fst q13
        dsimp only at hh
        rw [← hh]
        exact Chip.fetchParcel_inside (hM.up rfl) hy5
      exact hx8 _ hy12

theorem Chip.fetchItem_inside {z : Chip} {M : ℕ} (hM : Sub 125549054 M) {p1 : Chip} {p2 : ℕ} {p3 : ℕ} {p4 : ℕ} (hp1 : z.Inside M p1) : z.Inside M (Chip.fetchItem p1 p2 p3 p4) := by
  unfold Chip.fetchItem
  refine Chip.descItem_inside (hM.up rfl) hp1 ?_
  intro v1 v2 hv2
  extract_lets +onlyGivenNames x3
  clear_value x3
  split
  · rename_i y4 y5 y6 q7
    have hy4 : z.Inside M y4 := by
      have hh := congrArg Prod.fst q7
      dsimp only at hh
      rw [← hh]
      exact Chip.engineRead_inside (hM.up rfl) hv2
    exact Chip.descEnd_inside (hM.up rfl) hy4
  · rename_i y8 y9 q10
    have hy8 : z.Inside M y8 := by
      have hh := congrArg Prod.fst q10
      dsimp only at hh
      rw [← hh]
      exact Chip.engineRead_inside (hM.up rfl) hv2
    exact Chip.descMore_inside (hM.up rfl) (Chip.setBytes_inside (hM.up rfl) hy8)

theorem Chip.fieldWeaken_inside {z : Chip} {M : ℕ} (hM : Sub 2 M) {p1 : Chip} {p2 : ℕ} {p3 : ℕ} (hp1 : z.Inside M p1) : z.Inside M (Chip.fieldWeaken p1 p2 p3) := by
  unfold Chip.fieldWeaken
  refine .ite ?_ (Chip.put_inside (hM.up rfl) hp1)
  extract_lets +onlyGivenNames x1
  clear_value x1
  extract_lets +onlyGivenNames x2
  clear_value x2
  exact Chip.put_inside (hM.up rfl) (Chip.set_inside (hM.up rfl) hp1)

theorem Chip.fill_inside {z : Chip} {M : ℕ} (hM : Sub 4 M) {p1 : Chip} {p2 : ℕ} {p3 : ℕ} {p4 : Byte} (hp1 : z.Inside M p1) : z.Inside M (Chip.fill p1 p2 p3 p4) := by
  unfold Chip.fill
  exact Chip.setBytes_inside (hM.up rfl) hp1

theorem Chip.showLimit_inside {z : Chip} {M : ℕ} (hM : Sub 2 M) {p1 : Chip} {p2 : ℕ} {p3 : Bool} (hp1 : z.Inside M p1) : z.Inside M (Chip.showLimit p1 p2 p3) := by
  unfold Chip.showLimit
  extract_lets +onlyGivenNames x1
  have hx1 : z.Inside M x1 := Chip.put_inside (hM.up rfl) hp1
  clear_value x1
  exact .ite (Chip.put_inside (hM.up rfl) hx1) hx1

theorem Chip.references_inside {z : Chip} {M : ℕ} (hM : Sub 4098 M) {p1 : Chip} {p2 : ℕ} {p3 : ℕ} {p4 : ℕ} {p5 : ℕ} (hp1 : z.Inside M p1) : z.Inside M (Chip.references p1 p2 p3 p4 p5).1 := by
  unfold Chip.references
  refine .iteP ?_ ?_
  · split <;> exact .fst (Chip.showLimit_inside (hM.up rfl) (Chip.put_inside (hM.up rfl) (Chip.set_inside (hM.up rfl) hp1)))
  · refine .iteP ?_ ?_
    · split <;> exact .fst (Chip.showLimit_inside (hM.up rfl) (Chip.put_inside (hM.up rfl) hp1))
    · refine .iteP (.fst (Chip.showLimit_inside (hM.up rfl) (Chip.put_inside (hM.up rfl) (Chip.modCl_inside (hM.up rfl) hp1)))) ?_
      split
      · rename_i y9 y10 q11
        extract_lets +onlyGivenNames x12
        have hx12 : z.Inside M x12 := Chip.sets_inside (hM.up rfl) hp1
        clear_value x12
        extract_lets +onlyGivenNames x13
        clear_value x13
        split
        · rename_i y14 y15 y16 q17
          extract_lets +onlyGivenNames x18
          clear_value x18
          extract_lets +onlyGivenNames x19
          have hx19 : z.Inside M x19 := Chip.put_inside (hM.up rfl) hx12
          clear_value x19
          extract_lets +onlyGivenNames x20
          have hx20 : z.Inside M x20 := .ite (Chip.put_inside (hM.up rfl) hx19) hx19
          clear_value x20
          extract_lets +onlyGivenNames x21
          have hx21 : z.Inside M x21 := Chip.fieldWeaken_inside (hM.up rfl) hx20
          clear_value x21
          extract_lets +onlyGivenNames x22
          clear_value x22
          split
          · rename_i y23 y24 q25
            split <;> exact .fst (Chip.showLimit_inside (hM.up rfl) hx21)

theorem Chip.unlimited_inside {z : Chip} {M : ℕ} (hM : Sub 4098 M) {p1 : Chip} {p2 : ℕ} (hp1 : z.Inside M p1) : z.Inside M (Chip.unlimited p1 p2) := by
  unfold Chip.unlimited
  exact Chip.sets_inside (hM.up rfl) (Chip.modCl_inside (hM.up rfl) hp1)

theorem Chip.skipLists_inside {z : Chip} {M : ℕ} (hM : Sub 65538 M) {p1 : Chip} {p2 : ℕ} {p3 : ℕ} (hp1 : z.Inside M p1) : z.Inside M (Chip.skipLists p1 p2 p3) := by
  unfold Chip.skipLists
  extract_lets +onlyGivenNames x1
  have hx1 : z.Inside M x1 := Chip.sets_inside (hM.up rfl) hp1
  clear_value x1
  exact .ite (Chip.modCle_inside (hM.up rfl) hx1) hx1

theorem Chip.overrun_inside {z : Chip} {M : ℕ} (hM : Sub 1708354 M) {p1 : Chip} {p2 : ℕ} (hp1 : z.Inside M p1) : z.Inside M (Chip.overrun p1 p2) := by
  unfold Chip.overrun
  extract_lets +onlyGivenNames x1
  have hx1 : z.Inside M x1 := Chip.put_inside (hM.up rfl) hp1
  clear_value x1
  extract_lets +onlyGivenNames x2
  clear_value x2
  exact .ite (Chip.faultCl_inside (hM.up rfl) (Chip.modCl_inside (hM.up rfl) hx1)) (Chip.modCl_inside (hM.up rfl) hx1)

theorem Chip.writeCompares_inside {z : Chip} {M : ℕ} (hM : Sub 1708354 M) {p1 : Chip} {p2 : ℕ} {p3 : ℕ} {p4 : List (ℕ × ℕ)} (hp1 : z.Inside M p1) : z.Inside M (Chip.writeCompares p1 p2 p3 p4) := by
  unfold Chip.writeCompares
  extract_lets +onlyGivenNames x1
  clear_value x1
  refine .ite (Chip.overrun_inside (hM.up rfl) hp1) ?_
  extract_lets +onlyGivenNames x2
  have hx2 : z.Inside M x2 := Chip.modCl_inside (hM.up rfl) hp1
  clear_value x2
  extract_lets +onlyGivenNames x3
  clear_value x3
  extract_lets +onlyGivenNames x4
  have hx4 : z.Inside M x4 := Chip.set_inside (hM.up rfl) hx2
  clear_value x4
  extract_lets +onlyGivenNames x5
  have hx5 : z.Inside M x5 := Chip.set_inside (hM.up rfl) hx4
  clear_value x5
  exact Chip.modCl_inside (hM.up rfl) hx5

theorem Chip.fluxStage_inside {z : Chip} {M : ℕ} (hM : Sub 1773906 M) {p1 : Chip} {p2 : ℕ} {p3 : ℕ} {p4 : ℕ} {p5 : ℕ} (hp1 : z.Inside M p1) : z.Inside M (Chip.fluxStage p1 p2 p3 p4 p5) := by
  unfold Chip.fluxStage
  extract_lets +onlyGivenNames x1
  clear_value x1
  split
  · rename_i y2 y3 y4 q5
    have hy2 : z.Inside M y2 := by
      have hh := congrArg Prod.fst q5
      dsimp only at hh
      rw [← hh]
      exact Chip.references_inside (hM.up rfl) (Chip.unlimited_inside (hM.up rfl) hp1)
    extract_lets +onlyGivenNames x6
    have hx6 : z.Inside M x6 := .each (Chip.sets_inside (hM.up rfl) hy2) (fun a7 t8 ht8 => Chip.skipLists_inside (hM.up rfl) ht8)
    clear_value x6
    extract_lets +onlyGivenNames x9
    clear_value x9
    extract_lets +onlyGivenNames x10
    clear_value x10
    extract_lets +onlyGivenNames x11
    clear_value x11
    extract_lets +onlyGivenNames x12
    exact Chip.writeCompares_inside (hM.up rfl) (Chip.Inside.mk_free (hM.up rfl) hx6)

theorem Chip.fullEnd_inside {z : Chip} {M : ℕ} (hM : Sub 2139095039 M) {p1 : Chip} {p2 : ℕ} {p3 : SlotOutcome} {p4 : TestOutcome} (hp1 : z.Inside M p1) : z.Inside M (Chip.fullEnd p1 p2 p3 p4) :=
  .all hM

theorem Chip.glitchCheck_inside {z : Chip} {M : ℕ} (hM : Sub 32834 M) {p1 : Chip} {p2 : ℕ} {p3 : Bool} {p4 : Bool} (hp1 : z.Inside M p1) : z.Inside M (Chip.glitchCheck p1 p2 p3 p4) := by
  unfold Chip.glitchCheck
  extract_lets +onlyGivenNames x1
  extract_lets +onlyGivenNames x2
  clear_value x2
  extract_lets +onlyGivenNames x3
  have hx3 : ∀ w4, ∀ w5, z.Inside M w5 → z.Inside M (x3 w4 w5) := fun w4 w5 hw5 => Chip.modPos_inside (hM.up rfl) hw5
  clear_value x3
  split
  · rename_i y6 y7 q8
    refine .ite ?_ (hx3 _ _ hp1)
    extract_lets +onlyGivenNames x9
    have hx9 : z.Inside M x9 := .ite hp1 (Chip.posNote_inside (hM.up rfl) hp1)
    clear_value x9
    exact Chip.bump_inside (hM.up rfl) (Chip.put_inside (hM.up rfl) (hx3 _ _ hx9))
  · exact hx3 _ _ hp1

theorem Chip.speedEdge_inside {z : Chip} {M : ℕ} (hM : Sub 32770 M) {p1 : Chip} {p2 : ℕ} {p3 : Bool} {p4 : ℕ} (hp1 : z.Inside M p1) : z.Inside M (Chip.speedEdge p1 p2 p3 p4) := by
  unfold Chip.speedEdge
  extract_lets +onlyGivenNames x1
  have hx1 : z.Inside M x1 := .ite (Chip.declareStandstill_inside (hM.up rfl) hp1) hp1
  clear_value x1
  extract_lets +onlyGivenNames x2
  extract_lets +onlyGivenNames x3
  clear_value x3
  extract_lets +onlyGivenNames x4
  clear_value x4
  extract_lets +onlyGivenNames x5
  have hx5 : z.Inside M x5 := .ite (Chip.put_inside (hM.up rfl) hx1) hx1
  clear_value x5
  extract_lets +onlyGivenNames x6
  have hx6 : z.Inside M x6 := Chip.put_inside (hM.up rfl) (Chip.put_inside (hM.up rfl) hx5)
  clear_value x6
  extract_lets +onlyGivenNames x7
  have hx7 : z.Inside M x7 := Chip.put_inside (hM.up rfl) (Chip.set_inside (hM.up rfl) hx6)
  clear_value x7
  extract_lets +onlyGivenNames x8
  clear_value x8
  extract_lets +onlyGivenNames x9
  have hx9 : z.Inside M x9 := Chip.put_inside (hM.up rfl) (Chip.set_inside (hM.up rfl) hx6)
  clear_value x9
  extract_lets +onlyGivenNames x10
  have hx10 : z.Inside M x10 := .ite (Chip.modPos_inside (hM.up rfl) hx7) (.ite (Chip.modPos_inside (hM.up rfl) hx9) hx6)
  clear_value x10
  exact Chip.set_inside (hM.up rfl) (Chip.modPos_inside (hM.up rfl) hx10)

theorem Chip.hallDeliver_inside {z : Chip} {M : ℕ} (hM : Sub 32834 M) {p1 : Chip} {p2 : ℕ} {p3 : ℕ} (hp1 : z.Inside M p1) : z.Inside M (Chip.hallDeliver p1 p2 p3) := by
  unfold Chip.hallDeliver
  extract_lets +onlyGivenNames x1
  clear_value x1
  extract_lets +onlyGivenNames x2
  have hx2 : z.Inside M x2 := Chip.set_inside (hM.up rfl) hp1
  clear_value x2
  refine .ite hx2 ?_
  extract_lets +onlyGivenNames x3
  clear_value x3
  refine .ite ?_ ?_
  · extract_lets +onlyGivenNames x4
    have hx4 : z.Inside M x4 := Chip.modPos_inside (hM.up rfl) (Chip.put_inside (hM.up rfl) (Chip.posLose_inside (hM.up rfl) hx2))
    clear_value x4
    exact .ite hx4 (Chip.posNote_inside (hM.up rfl) hx4)
  · refine .ite (Chip.hallCentre_inside (hM.up rfl) (Chip.modPos_inside (hM.up rfl) (Chip.posOk_inside (hM.up rfl) hx2))) ?_
    extract_lets +onlyGivenNames x5
    clear_value x5
    extract_lets +onlyGivenNames x6
    clear_value x6
    refine .ite ?_ ?_
    · extract_lets +onlyGivenNames x7
      have hx7 : z.Inside M x7 := Chip.speedEdge_inside (hM.up rfl) (Chip.posOk_inside (hM.up rfl) hx2)
      clear_value x7
      exact Chip.modPos_inside (hM.up rfl) (Chip.set_inside (hM.up rfl) hx7)
    · refine .ite ?_ ?_
      · extract_lets +onlyGivenNames x8
        have hx8 : z.Inside M x8 := Chip.speedEdge_inside (hM.up rfl) (Chip.posOk_inside (hM.up rfl) hx2)
        clear_value x8
        exact Chip.modPos_inside (hM.up rfl) (Chip.set_inside (hM.up rfl) hx8)
      · extract_lets +onlyGivenNames x9
        have hx9 : z.Inside M x9 := Chip.posNote_inside (hM.up rfl) (Chip.put_inside (hM.up rfl) (Chip.posLose_inside (hM.up rfl) hx2))
        clear_value x9
        exact Chip.hallCentre_inside (hM.up rfl) (Chip.modPos_inside (hM.up rfl) hx9)

theorem Chip.hostFence_inside {z : Chip} {M : ℕ} (hM : Sub 2139095039 M) {p1 : Chip} (hp1 : z.Inside M p1) : z.Inside M (Chip.hostFence p1) :=
  .all hM

theorem Chip.portLate_inside {z : Chip} {M : ℕ} (hM : Sub 67108930 M) {p1 : Chip} {p2 : ℕ} (hp1 : z.Inside M p1) : z.Inside M (Chip.portLate p1 p2) := by
  unfold Chip.portLate
  exact Chip.firstNote_inside (hM.up rfl) (Chip.modHw_inside (hM.up rfl) hp1)

theorem Chip.hostPiece_inside {z : Chip} {M : ℕ} (hM : Sub 2139095039 M) {p1 : Chip} {p2 : ℕ} {p3 : ℕ} {p4 : Bool} (hp1 : z.Inside M p1) : z.Inside M (Chip.hostPiece p1 p2 p3 p4).1 :=
  .all hM

theorem Chip.portProto_inside {z : Chip} {M : ℕ} (hM : Sub 67108930 M) {p1 : Chip} {p2 : ℕ} {p3 : Bool} (hp1 : z.Inside M p1) : z.Inside M (Chip.portProto p1 p2 p3) := by
  unfold Chip.portProto
  extract_lets +onlyGivenNames x1
  have hx1 : z.Inside M x1 := Chip.put_inside (hM.up rfl) (Chip.modHw_inside (hM.up rfl) hp1)
  clear_value x1
  exact Chip.note_inside (hM.up rfl) hx1

theorem Chip.portOut_inside {z : Chip} {M : ℕ} (hM : Sub 67108864 M) {p1 : Chip} {p2 : List Byte} (hp1 : z.Inside M p1) : z.Inside M (Chip.portOut p1 p2) := by
  unfold Chip.portOut
  exact Chip.modHw_inside (hM.up rfl) hp1

theorem Chip.hostRead_inside {z : Chip} {M : ℕ} (hM : Sub 2139095039 M) {p1 : Chip} {p2 : ℕ} {p3 : ℕ} {p4 : List ℕ} (hp1 : z.Inside M p1) : z.Inside M (Chip.hostRead p1 p2 p3 p4) :=
  .all hM

theorem Chip.hostWrite_inside {z : Chip} {M : ℕ} (hM : Sub 67109058 M) {p1 : Chip} {p2 : ℕ} {p3 : List Byte} (hp1 : z.Inside M p1) : z.Inside M (Chip.hostWrite p1 p2 p3) := by
  unfold Chip.hostWrite
  refine .ite (Chip.portProto_inside (hM.up rfl) hp1) ?_
  refine .ite (Chip.note_inside (hM.up rfl) (Chip.put_inside (hM.up rfl) (Chip.modHw_inside (hM.up rfl) hp1))) ?_
  extract_lets +onlyGivenNames x1
  extract_lets +onlyGivenNames x2
  have hx2 : z.Inside M x2 := by
    unfold x2
    split
    · exact Chip.hostDenied_inside (hM.up rfl) hp1
    · exact hp1
  clear_value x2
  exact .each hx2 (fun a7 t8 ht8 => Chip.post_inside (hM.up rfl) ht8)

theorem Chip.idItem_inside {z : Chip} {M : ℕ} (hM : Sub 67108886 M) {p1 : Chip} {p2 : ℕ} {p3 : Option ℕ} (hp1 : z.Inside M p1) : z.Inside M (Chip.idItem p1 p2 p3) := by
  unfold Chip.idItem
  refine Chip.descItem_inside (hM.up rfl) hp1 ?_
  intro v1 v2 hv2
  extract_lets +onlyGivenNames x3
  clear_value x3
  extract_lets +onlyGivenNames x4
  clear_value x4
  extract_lets +onlyGivenNames x5
  clear_value x5
  extract_lets +onlyGivenNames x6
  clear_value x6
  split
  · exact .ite (Chip.descEnd_inside (hM.up rfl) hv2) (Chip.descMore_inside (hM.up rfl) (Chip.setBytes_inside (hM.up rfl) hv2))
  · exact Chip.descMore_inside (hM.up rfl) (Chip.setBytes_inside (hM.up rfl) hv2)

theorem Chip.imageEngine_inside {z : Chip} {M : ℕ} (hM : Sub 1814610 M) {p1 : Chip} {p2 : ℕ} (hp1 : z.Inside M p1) : z.Inside M (Chip.imageEngine p1 p2) := by
  unfold Chip.imageEngine
  extract_lets +onlyGivenNames x1
  clear_value x1
  exact Chip.showLists_inside (hM.up rfl) (Chip.applyUnitcfg_inside (hM.up rfl) (Chip.resetEngine_inside (hM.up rfl) hp1))

theorem Chip.islDetect_inside {z : Chip} {M : ℕ} (hM : Sub 524354 M) {p1 : Chip} {p2 : ℕ} {p3 : ℕ} {p4 : ℕ} {p5 : ℕ} (hp1 : z.Inside M p1) : z.Inside M (Chip.islDetect p1 p2 p3 p4 p5) := by
  unfold Chip.islDetect
  extract_lets +onlyGivenNames x1
  have hx1 : z.Inside M x1 := Chip.islRecord_inside (hM.up rfl) hp1
  clear_value x1
  extract_lets +onlyGivenNames x2
  have hx2 : z.Inside M x2 := Chip.modIsl_inside (hM.up rfl) hx1
  clear_value x2
  exact Chip.showFaults_inside (hM.up rfl) hx2

theorem Chip.islFall_inside {z : Chip} {M : ℕ} (hM : Sub 1708354 M) {p1 : Chip} {p2 : ℕ} {p3 : ℕ} {p4 : ℕ} (hp1 : z.Inside M p1) : z.Inside M (Chip.islFall p1 p2 p3 p4) := by
  unfold Chip.islFall
  extract_lets +onlyGivenNames x1
  have hx1 : z.Inside M x1 := Chip.put_inside (hM.up rfl) hp1
  clear_value x1
  split
  · exact Chip.fall_inside (hM.up rfl) hx1
  · exact hx1

theorem Chip.islHold_inside {z : Chip} {M : ℕ} (hM : Sub 524290 M) {p1 : Chip} {p2 : ℕ} (hp1 : z.Inside M p1) : z.Inside M (Chip.islHold p1 p2) := by
  unfold Chip.islHold
  exact .ite (Chip.islTo_inside (hM.up rfl) (Chip.gateAway_inside (hM.up rfl) hp1)) hp1

theorem Chip.keStep_inside {z : Chip} {M : ℕ} (hM : Sub 4096 M) {p1 : Chip} {p2 : ℕ} {p3 : ℕ} {p4 : ℕ} (hp1 : z.Inside M p1) : z.Inside M (Chip.keStep p1 p2 p3 p4).1 := by
  unfold Chip.keStep
  extract_lets +onlyGivenNames x1
  extract_lets +onlyGivenNames x2
  clear_value x2
  extract_lets +onlyGivenNames x3
  clear_value x3
  extract_lets +onlyGivenNames x4
  have hx4 : z.Inside M x4 := Chip.modCl_inside (hM.up rfl) hp1
  clear_value x4
  extract_lets +onlyGivenNames x5
  clear_value x5
  exact .fst hx4

theorem Chip.larderBad_inside {z : Chip} {M : ℕ} (hM : Sub 1708354 M) {p1 : Chip} {p2 : ℕ} {p3 : ℕ} (hp1 : z.Inside M p1) : z.Inside M (Chip.larderBad p1 p2 p3) := by
  unfold Chip.larderBad
  extract_lets +onlyGivenNames x1
  clear_value x1
  exact Chip.faultCl_inside (hM.up rfl) hp1

theorem Chip.larderRead_inside {z : Chip} {M : ℕ} (hM : Sub 1708354 M) {p1 : Chip} {p2 : ℕ} {p3 : ℕ} {p4 : Upset} (hp1 : z.Inside M p1) : z.Inside M (Chip.larderRead p1 p2 p3 p4) := by
  unfold Chip.larderRead
  split
  · exact .ite (Chip.larderBad_inside (hM.up rfl) hp1) hp1
  · exact hp1

theorem Chip.lateEnd_inside {z : Chip} {M : ℕ} (hM : Sub 2139095039 M) {p1 : Chip} {p2 : ℕ} {p3 : SlotOutcome} {p4 : TestOutcome} (hp1 : z.Inside M p1) : z.Inside M (Chip.lateEnd p1 p2 p3 p4) :=
  .all hM

theorem Chip.ledFail_inside {z : Chip} {M : ℕ} (hM : Sub 2097218 M) {p1 : Chip} {p2 : ℕ} (hp1 : z.Inside M p1) : z.Inside M (Chip.ledFail p1 p2) := by
  unfold Chip.ledFail
  extract_lets +onlyGivenNames x1
  have hx1 : z.Inside M x1 := Chip.put_inside (hM.up rfl) (Chip.dropWrite_inside (hM.up rfl) hp1)
  clear_value x1
  exact Chip.note_inside (hM.up rfl) hx1

theorem Chip.linkBack_inside {z : Chip} {M : ℕ} (hM : Sub 536870914 M) {p1 : Chip} {p2 : Bool} (hp1 : z.Inside M p1) : z.Inside M (Chip.linkBack p1 p2) := by
  unfold Chip.linkBack
  refine .ite hp1 ?_
  extract_lets +onlyGivenNames x1
  have hx1 : z.Inside M x1 := Chip.put_inside (hM.up rfl) hp1
  clear_value x1
  exact Chip.modRing_inside (hM.up rfl) hx1

theorem Chip.linkLost_inside {z : Chip} {M : ℕ} (hM : Sub 536870978 M) {p1 : Chip} {p2 : Bool} {p3 : ℕ} (hp1 : z.Inside M p1) : z.Inside M (Chip.linkLost p1 p2 p3) := by
  unfold Chip.linkLost
  extract_lets +onlyGivenNames x1
  clear_value x1
  extract_lets +onlyGivenNames x2
  have hx2 : z.Inside M x2 := .ite (Chip.set_inside (hM.up rfl) hp1) hp1
  clear_value x2
  refine .ite hx2 ?_
  refine .ite (Chip.modRing_inside (hM.up rfl) hx2) ?_
  extract_lets +onlyGivenNames x3
  have hx3 : z.Inside M x3 := Chip.put_inside (hM.up rfl) hx2
  clear_value x3
  extract_lets +onlyGivenNames x4
  have hx4 : z.Inside M x4 := Chip.modRing_inside (hM.up rfl) hx3
  clear_value x4
  exact Chip.note_inside (hM.up rfl) (Chip.sets_inside (hM.up rfl) hx4)

theorem Chip.loadSwitch_inside {z : Chip} {M : ℕ} (hM : Sub 2097152 M) {p1 : Chip} {p2 : ℕ} {p3 : ℕ} (hp1 : z.Inside M p1) : z.Inside M (Chip.loadSwitch p1 p2 p3) := by
  unfold Chip.loadSwitch
  extract_lets +onlyGivenNames x1
  clear_value x1
  extract_lets +onlyGivenNames x2
  extract_lets +onlyGivenNames x3
  exact Chip.modSw_inside (hM.up rfl) hp1

theorem Chip.logItem_inside {z : Chip} {M : ℕ} (hM : Sub 67108886 M) {p1 : Chip} {p2 : ℕ} (hp1 : z.Inside M p1) : z.Inside M (Chip.logItem p1 p2) := by
  unfold Chip.logItem
  refine Chip.descItem_inside (hM.up rfl) hp1 ?_
  intro v1 v2 hv2
  extract_lets +onlyGivenNames x3
  extract_lets +onlyGivenNames x4
  have hx4 : z.Inside M x4 := Chip.setBytes_inside (hM.up rfl) hv2
  clear_value x4
  clear_value x3
  extract_lets +onlyGivenNames x11 x5
  have hx5 : z.Inside M x5 := by
    unfold x5
    refine .ite ?_ hx4
    split
    · exact Chip.modDesc_inside (hM.up rfl) hx4
    · exact Chip.modDesc_inside (hM.up rfl) (Chip.useFree_inside (hM.up rfl) hx4)
  clear_value x5
  extract_lets +onlyGivenNames x12
  have hx12 : z.Inside M x12 := Chip.modDesc_inside (hM.up rfl) hx5
  clear_value x12
  refine .ite ?_ (Chip.descMore_inside (hM.up rfl) hx12)
  extract_lets +onlyGivenNames x13
  have hx13 : z.Inside M x13 := Chip.modDesc_inside (hM.up rfl) hx12
  clear_value x13
  split
  · exact Chip.descEnd_inside (hM.up rfl) hx13
  · exact hx13

theorem Chip.reportAngle_inside {z : Chip} {M : ℕ} (hM : Sub 1708354 M) {p1 : Chip} {p2 : ℕ} (hp1 : z.Inside M p1) : z.Inside M (Chip.reportAngle p1 p2) := by
  unfold Chip.reportAngle
  extract_lets +onlyGivenNames x1
  clear_value x1
  extract_lets +onlyGivenNames x2
  clear_value x2
  extract_lets +onlyGivenNames x3
  have hx3 : z.Inside M x3 := Chip.set_inside (hM.up rfl) hp1
  clear_value x3
  extract_lets +onlyGivenNames x4
  clear_value x4
  extract_lets +onlyGivenNames x5
  have hx5 : z.Inside M x5 := .ite (Chip.noteCl_inside (hM.up rfl) hx3) hx3
  clear_value x5
  extract_lets +onlyGivenNames x6
  have hx6 : z.Inside M x6 := Chip.modCl_inside (hM.up rfl) hx5
  clear_value x6
  exact .ite (.ite (Chip.faultCl_inside (hM.up rfl) hx6) (Chip.faultCl_inside (hM.up rfl) hx6)) hx6

theorem Chip.obsLock_inside {z : Chip} {M : ℕ} (hM : Sub 4098 M) {p1 : Chip} {p2 : ℕ} {p3 : ℕ} {p4 : ℕ} (hp1 : z.Inside M p1) : z.Inside M (Chip.obsLock p1 p2 p3 p4) := by
  unfold Chip.obsLock
  extract_lets +onlyGivenNames x1
  clear_value x1
  extract_lets +onlyGivenNames x2
  have hx2 : z.Inside M x2 := Chip.modCl_inside (hM.up rfl) hp1
  clear_value x2
  extract_lets +onlyGivenNames x3
  have hx3 : z.Inside M x3 := Chip.set_inside (hM.up rfl) hx2
  clear_value x3
  exact .ite (.ite (Chip.sets_inside (hM.up rfl) hx3) hx3) (.ite (Chip.sets_inside (hM.up rfl) hx3) hx3)

theorem Chip.obsKe_inside {z : Chip} {M : ℕ} (hM : Sub 4098 M) {p1 : Chip} {p2 : ℕ} {p3 : ℕ} {p4 : ℕ} (hp1 : z.Inside M p1) : z.Inside M (Chip.obsKe p1 p2 p3 p4) := by
  unfold Chip.obsKe
  extract_lets +onlyGivenNames x1
  extract_lets +onlyGivenNames x2
  clear_value x2
  extract_lets +onlyGivenNames x3
  clear_value x3
  refine .ite ?_ (Chip.put_inside (hM.up rfl) hp1)
  split
  · rename_i y4 y5 q6
    have hy4 : z.Inside M y4 := by
      have hh := congrArg Prod.fst q6
      dsimp only at hh
      rw [← hh]
      exact Chip.keStep_inside (hM.up rfl) hp1
    extract_lets +onlyGivenNames x7
    clear_value x7
    extract_lets +onlyGivenNames x8
    clear_value x8
    extract_lets +onlyGivenNames x9
    have hx9 : z.Inside M x9 := Chip.sets_inside (hM.up rfl) hy4
    clear_value x9
    refine .ite ?_ hx9
    extract_lets +onlyGivenNames x10
    have hx10 : z.Inside M x10 := Chip.modCl_inside (hM.up rfl) hx9
    clear_value x10
    exact Chip.set_inside (hM.up rfl) hx10

theorem Chip.obsStep_inside {z : Chip} {M : ℕ} (hM : Sub 4114 M) {p1 : Chip} {p2 : ℕ} {p3 : ℕ} {p4 : ℕ} (hp1 : z.Inside M p1) : z.Inside M (Chip.obsStep p1 p2 p3 p4) := by
  unfold Chip.obsStep
  extract_lets +onlyGivenNames x1
  clear_value x1
  extract_lets +onlyGivenNames x2
  have hx2 : z.Inside M x2 := Chip.set_inside (hM.up rfl) hp1
  clear_value x2
  extract_lets +onlyGivenNames x3
  have hx3 : z.Inside M x3 := Chip.modCl_inside (hM.up rfl) hx2
  clear_value x3
  extract_lets +onlyGivenNames x4
  have hx4 : z.Inside M x4 := Chip.set_inside (hM.up rfl) hx3
  clear_value x4
  extract_lets +onlyGivenNames x5
  clear_value x5
  extract_lets +onlyGivenNames x6
  have hx6 : z.Inside M x6 := Chip.useFree_inside (hM.up rfl) hx2
  clear_value x6
  extract_lets +onlyGivenNames x7
  clear_value x7
  extract_lets +onlyGivenNames x8
  have hx8 : z.Inside M x8 := Chip.useFree_inside (hM.up rfl) hx6
  clear_value x8
  extract_lets +onlyGivenNames x9
  clear_value x9
  extract_lets +onlyGivenNames x10
  have hx10 : z.Inside M x10 := Chip.useFree_inside (hM.up rfl) hx8
  clear_value x10
  extract_lets +onlyGivenNames x11
  have hx11 : z.Inside M x11 := Chip.modCl_inside (hM.up rfl) hx10
  clear_value x11
  extract_lets +onlyGivenNames x12
  have hx12 : z.Inside M x12 := .ite (.ite (Chip.sets_inside (hM.up rfl) hx4) hx4) (Chip.obsLock_inside (hM.up rfl) (Chip.set_inside (hM.up rfl) hx11))
  clear_value x12
  extract_lets +onlyGivenNames x13
  extract_lets +onlyGivenNames x14
  have hx14 : z.Inside M x14 := .ite (Chip.set_inside (hM.up rfl) (Chip.set_inside (hM.up rfl) hx12)) (Chip.set_inside (hM.up rfl) hx12)
  clear_value x14
  extract_lets +onlyGivenNames x15
  have hx15 : z.Inside M x15 := Chip.put_inside (hM.up rfl) hx14
  clear_value x15
  extract_lets +onlyGivenNames x16
  have hx16 : z.Inside M x16 := Chip.useFree_inside (hM.up rfl) (Chip.set_inside (hM.up rfl) hx15)
  clear_value x16
  extract_lets +onlyGivenNames x17
  clear_value x17
  exact Chip.obsKe_inside (hM.up rfl) (Chip.set_inside (hM.up rfl) hx16)

theorem Chip.observe_inside {z : Chip} {M : ℕ} (hM : Sub 4114 M) {p1 : Chip} {p2 : ℕ} {p3 : ℕ} (hp1 : z.Inside M p1) : z.Inside M (Chip.observe p1 p2 p3) := by
  unfold Chip.observe
  split
  · exact hp1
  · exact .each (Chip.obsStep_inside (hM.up rfl) hp1) (fun a6 t7 ht7 => Chip.modCl_inside (hM.up rfl) (Chip.sets_inside (hM.up rfl) ht7))

theorem Chip.wdisWatch_inside {z : Chip} {M : ℕ} (hM : Sub 1708354 M) {p1 : Chip} {p2 : ℕ} {p3 : ℕ} {p4 : ℕ} (hp1 : z.Inside M p1) : z.Inside M (Chip.wdisWatch p1 p2 p3 p4) := by
  unfold Chip.wdisWatch
  refine .ite hp1 ?_
  extract_lets +onlyGivenNames x1
  extract_lets +onlyGivenNames x2
  clear_value x2
  refine .ite hp1 ?_
  extract_lets +onlyGivenNames x3
  have hx3 : z.Inside M x3 := Chip.noteCl_inside (hM.up rfl) (Chip.endWdis_inside (hM.up rfl) hp1)
  clear_value x3
  exact .ite (Chip.disResistor_inside (hM.up rfl) hx3) hx3

theorem Chip.runLists_inside {z : Chip} {M : ℕ} (hM : Sub 1773890 M) {p1 : Chip} {p2 p3 : ℕ} {p4 : LoopIn} (hp1 : z.Inside M p1) :
    z.Inside M (Chip.runLists p1 p2 p3 p4).1 := by
  unfold Chip.runLists
  extract_lets +onlyGivenNames s r
  have hr : z.Inside M r.chip := by
    have key : ∀ (l : List ℕ) (q : LoopRun), z.Inside M q.chip → z.Inside M (l.foldl (Chip.evalList p2 p3 p4) q).chip := by
      intro l
      induction l with
      | nil => intro q hq; exact hq
      | cons m l ih => intro q hq; exact ih _ (Chip.evalList_inside (hM.up rfl) hq)
    exact key _ _ (Chip.set_inside (hM.up rfl) hp1)
  clear_value r
  exact Chip.modCle_inside (hM.up rfl) (Chip.sets_inside (hM.up rfl) hr)

theorem Chip.takeErrors_inside {z : Chip} {M : ℕ} (hM : Sub 4096 M) {p1 : Chip} {p2 : ℕ} (hp1 : z.Inside M p1) : z.Inside M (Chip.takeErrors p1 p2) := by
  unfold Chip.takeErrors
  extract_lets +onlyGivenNames x1
  exact .ite (Chip.modCl_inside (hM.up rfl) hp1) (Chip.modCl_inside (hM.up rfl) hp1)

theorem Chip.showOutput_inside {z : Chip} {M : ℕ} (hM : Sub 4098 M) {p1 : Chip} {p2 : ℕ} {p3 : ℕ} {p4 : ℕ} {p5 : ℕ} {p6 : ℕ} (hp1 : z.Inside M p1) : z.Inside M (Chip.showOutput p1 p2 p3 p4 p5 p6) := by
  unfold Chip.showOutput
  extract_lets +onlyGivenNames x1
  clear_value x1
  extract_lets +onlyGivenNames x2
  clear_value x2
  extract_lets +onlyGivenNames x3
  extract_lets +onlyGivenNames x4
  clear_value x4
  extract_lets +onlyGivenNames x5
  have hx5 : z.Inside M x5 := Chip.sets_inside (hM.up rfl) hp1
  clear_value x5
  extract_lets +onlyGivenNames x6
  have hx6 : z.Inside M x6 := Chip.modCl_inside (hM.up rfl) hx5
  clear_value x6
  exact .ite (Chip.put_inside (hM.up rfl) hx6) hx6

theorem Chip.runStages_inside {z : Chip} {M : ℕ} (hM : Sub 1773906 M) {p1 : Chip} {p2 : ℕ} {p3 : Upset} {p4 : ℕ} {p5 : ℕ} {p6 : ℕ} {p7 : ℕ} {p8 : ℕ} {p9 : ℕ} (hp1 : z.Inside M p1) : z.Inside M (Chip.runStages p1 p2 p3 p4 p5 p6 p7 p8 p9) := by
  unfold Chip.runStages
  extract_lets +onlyGivenNames x1
  clear_value x1
  extract_lets +onlyGivenNames x2
  have hx2 : z.Inside M x2 := Chip.rampSpeed_inside (hM.up rfl) hp1
  clear_value x2
  split
  · rename_i y3 y4 y5 q6
    have hy3 : z.Inside M y3 := by
      have hh := congrArg Prod.fst q6
      dsimp only at hh
      rw [← hh]
      exact Chip.references_inside (hM.up rfl) hx2
    extract_lets +onlyGivenNames x7
    have hx7 : z.Inside M x7 := Chip.sets_inside (hM.up rfl) hy3
    clear_value x7
    extract_lets +onlyGivenNames x8
    extract_lets +onlyGivenNames x9
    have hx9 : z.Inside M x9 := Chip.modCl_inside (hM.up rfl) hx7
    clear_value x9
    extract_lets +onlyGivenNames x10
    extract_lets +onlyGivenNames x11
    split
    · rename_i y12 y13 y14 q15
      have hy12 : z.Inside M y12 := by
        have hh := congrArg Prod.fst q15
        dsimp only at hh
        rw [← hh]
        refine .foldlP (.fst hx9) ?_
        intro t17 a16 ht17
        exact Chip.runLists_inside (hM.up rfl) ht17
      refine .ite (Chip.put_inside (hM.up rfl) hy12) ?_
      extract_lets +onlyGivenNames x22
      have hx22 : z.Inside M x22 := by
        unfold x22
        split
        · exact Chip.engineFault_inside (hM.up rfl) hy12
        · exact Chip.noteCl_inside (hM.up rfl) (Chip.put_inside (hM.up rfl) hy12)
        · exact hy12
      clear_value x22
      extract_lets +onlyGivenNames x29
      have hx29 : z.Inside M x29 := Chip.larderRead_inside (hM.up rfl) hx22
      clear_value x29
      refine .ite hx29 ?_
      extract_lets +onlyGivenNames x30
      clear_value x30
      extract_lets +onlyGivenNames x31
      extract_lets +onlyGivenNames x32
      clear_value x32
      extract_lets +onlyGivenNames x33
      have hx33 : z.Inside M x33 := Chip.takeErrors_inside (hM.up rfl) hx29
      clear_value x33
      split
      · rename_i y34 y35 y36 y37 q38
        extract_lets +onlyGivenNames x39
        have hx39 : z.Inside M x39 := Chip.showOutput_inside (hM.up rfl) hx33
        clear_value x39
        extract_lets +onlyGivenNames x40
        extract_lets +onlyGivenNames x41
        have hx41 : z.Inside M x41 := (Chip.Inside.mk_free (hM.up rfl) hx39)
        clear_value x41
        split
        · exact Chip.faultCl_inside (hM.up rfl) hx41
        · exact Chip.writeCompares_inside (hM.up rfl) hx41

theorem Chip.loopRun_inside {z : Chip} {M : ℕ} (hM : Sub 3871058 M) {p1 : Chip} {p2 : ℕ} {p3 : Upset} {p4 : ℕ} (hp1 : z.Inside M p1) : z.Inside M (Chip.loopRun p1 p2 p3 p4) := by
  unfold Chip.loopRun
  refine .ite hp1 (.ite (Chip.bcmDecel_inside (hM.up rfl) (Chip.modCl_inside (hM.up rfl) hp1)) ?_)
  extract_lets +onlyGivenNames x0 x1
  have hx1 : z.Inside M x1 := Chip.dupInputs_inside (hM.up rfl) (Chip.modCl_inside (hM.up rfl) hp1)
  clear_value x1
  extract_lets +onlyGivenNames x2
  clear_value x2
  extract_lets +onlyGivenNames x3
  clear_value x3
  extract_lets +onlyGivenNames x4
  have hx4 : z.Inside M x4 := Chip.modCl_inside (hM.up rfl) hx1
  clear_value x4
  extract_lets +onlyGivenNames x5
  have hx5 : z.Inside M x5 := Chip.reportAngle_inside (hM.up rfl) (Chip.larderRead_inside (hM.up rfl) (Chip.observe_inside (hM.up rfl) hx4))
  clear_value x5
  extract_lets +onlyGivenNames x6
  clear_value x6
  split
  · rename_i y7 y8 y9 q10
    have hy7 : z.Inside M y7 := by
      have hh := congrArg Prod.fst q10
      dsimp only at hh
      rw [← hh]
      split
      · rename_i y11 y12 y13 q14 q15
        exact .fst (Chip.sets_inside (hM.up rfl) hx5)
      · exact .fst hx5
    extract_lets +onlyGivenNames x23
    have hx23 : z.Inside M x23 := .ite (Chip.catchPass_inside (hM.up rfl) hy7) hy7
    clear_value x23
    extract_lets +onlyGivenNames x24
    have hx24 : z.Inside M x24 := by
      unfold x24
      refine .ite (.each (Chip.modCl_inside (hM.up rfl) (Chip.unlimited_inside (hM.up rfl) hx23)) (fun a25 t26 ht26 => Chip.skipLists_inside (hM.up rfl) ht26)) ?_
      split
      · rename_i y27 y28 y29 y30 q31 q32 q33
        extract_lets +onlyGivenNames x34
        have hx34 : z.Inside M x34 := Chip.wdisWatch_inside (hM.up rfl) hx23
        clear_value x34
        refine .ite hx34 ?_
        extract_lets +onlyGivenNames x35
        have hx35 : z.Inside M x35 := .ite (Chip.fluxStage_inside (hM.up rfl) hx34) (Chip.runStages_inside (hM.up rfl) hx34)
        clear_value x35
        exact .ite (Chip.decelStep_inside (hM.up rfl) hx35) hx35
      · exact Chip.overrun_inside (hM.up rfl) (.each (Chip.unlimited_inside (hM.up rfl) hx23) (fun a42 t43 ht43 => Chip.skipLists_inside (hM.up rfl) ht43))
    clear_value x24
    exact Chip.chmCurrents_inside (hM.up rfl) hx24

theorem Chip.markUsed_inside {z : Chip} {M : ℕ} (hM : Sub 2097154 M) {p1 : Chip} {p2 : ℕ} {p3 : ℕ} (hp1 : z.Inside M p1) : z.Inside M (Chip.markUsed p1 p2 p3) := by
  unfold Chip.markUsed
  exact .ite (Chip.showLearn_inside (hM.up rfl) (Chip.modAge_inside (hM.up rfl) hp1)) hp1

theorem Chip.mirrorAck_inside {z : Chip} {M : ℕ} (hM : Sub 524290 M) {p1 : Chip} {p2 : ℕ} (hp1 : z.Inside M p1) : z.Inside M (Chip.mirrorAck p1 p2) := by
  unfold Chip.mirrorAck
  extract_lets +onlyGivenNames x1
  refine .ite hp1 ?_
  split
  · exact hp1
  · rename_i y4 y5 q6
    extract_lets +onlyGivenNames x7
    have hx7 : z.Inside M x7 := Chip.clamp_inside (hM.up rfl) (Chip.modIsl_inside (hM.up rfl) (Chip.ownTake_inside (hM.up rfl) hp1))
    clear_value x7
    exact Chip.put_inside (hM.up rfl) hx7

theorem Chip.modFuses_inside {z : Chip} {M : ℕ} (hM : Sub 512 M) {p1 : Chip} {p2 : Fuses → Fuses} (hp1 : z.Inside M p1) : z.Inside M (Chip.modFuses p1 p2) := by
  unfold Chip.modFuses
  exact Chip.modCfg_inside (hM.up rfl) hp1

theorem Chip.monitor_inside {z : Chip} {M : ℕ} (hM : Sub 2 M) {p1 : Chip} {p2 : ℕ} (hp1 : z.Inside M p1) : z.Inside M (Chip.monitor p1 p2) := by
  unfold Chip.monitor
  exact Chip.sets_inside (hM.up rfl) hp1

theorem Chip.newTick_inside {z : Chip} {M : ℕ} (hM : Sub 83886208 M) {p1 : Chip} (hp1 : z.Inside M p1) : z.Inside M (Chip.newTick p1) := by
  unfold Chip.newTick
  exact (Chip.Inside.mk_bus_irq_sem_hw (hM.up rfl) hp1)

theorem Chip.passDone_inside {z : Chip} {M : ℕ} (hM : Sub 1724738 M) {p1 : Chip} {p2 : ℕ} {p3 : ℕ} (hp1 : z.Inside M p1) : z.Inside M (Chip.passDone p1 p2 p3) := by
  unfold Chip.passDone
  refine .ite hp1 ?_
  extract_lets +onlyGivenNames x1
  have hx1 : z.Inside M x1 := Chip.rbOr_inside (hM.up rfl) hp1
  clear_value x1
  refine .ite hx1 ?_
  extract_lets +onlyGivenNames x2
  have hx2 : z.Inside M x2 := .ite (Chip.checkVdc_inside (hM.up rfl) (.each hx1 (fun a3 t4 ht4 => Chip.checkPath_inside (hM.up rfl) ht4))) hx1
  clear_value x2
  exact .ite (Chip.checkSum_inside (hM.up rfl) (Chip.checkSum_inside (hM.up rfl) hx2)) hx2

theorem Chip.passOpen_inside {z : Chip} {M : ℕ} (hM : Sub 16384 M) {p1 : Chip} {p2 : ℕ} {p3 : Bool} (hp1 : z.Inside M p1) : z.Inside M (Chip.passOpen p1 p2 p3) := by
  unfold Chip.passOpen
  extract_lets +onlyGivenNames x1
  extract_lets +onlyGivenNames x2
  clear_value x2
  extract_lets +onlyGivenNames x3
  extract_lets +onlyGivenNames x4
  have hx4 : z.Inside M x4 := Chip.modMeas_inside (hM.up rfl) hp1
  clear_value x4
  exact Chip.rbSet_inside (hM.up rfl) (Chip.rbSet_inside (hM.up rfl) hx4)

theorem Chip.passStart_inside {z : Chip} {M : ℕ} (hM : Sub 1823042 M) {p1 : Chip} {p2 : ℕ} {p3 : ℕ} {p4 : Bool} {p5 : Bool} (hp1 : z.Inside M p1) : z.Inside M (Chip.passStart p1 p2 p3 p4 p5) := by
  unfold Chip.passStart
  extract_lets +onlyGivenNames x1
  have hx1 : z.Inside M x1 := Chip.sampleNow_inside (hM.up rfl) hp1
  clear_value x1
  extract_lets +onlyGivenNames x2
  have hx2 : z.Inside M x2 := .ite (Chip.overrun_inside (hM.up rfl) (.each (Chip.unlimited_inside (hM.up rfl) hx1) (fun a3 t4 ht4 => Chip.skipLists_inside (hM.up rfl) ht4))) hx1
  clear_value x2
  extract_lets +onlyGivenNames x5
  have hx5 : z.Inside M x5 := .ite (Chip.sets_inside (hM.up rfl) (Chip.modCl_inside (hM.up rfl) hx2)) hx2
  clear_value x5
  extract_lets +onlyGivenNames x6
  have hx6 : z.Inside M x6 := Chip.diodePass_inside (hM.up rfl) hx5
  clear_value x6
  extract_lets +onlyGivenNames x7
  clear_value x7
  exact Chip.modCl_inside (hM.up rfl) (Chip.passOpen_inside (hM.up rfl) hx6)

theorem Chip.pcPass_inside {z : Chip} {M : ℕ} (hM : Sub 4096 M) {p1 : Chip} {p2 : ℕ} {p3 : ℕ} (hp1 : z.Inside M p1) : z.Inside M (Chip.pcPass p1 p2 p3) := by
  unfold Chip.pcPass
  refine .ite hp1 ?_
  extract_lets +onlyGivenNames x1
  clear_value x1
  extract_lets +onlyGivenNames x2
  clear_value x2
  extract_lets +onlyGivenNames x3
  clear_value x3
  extract_lets +onlyGivenNames x4
  clear_value x4
  split
  · rename_i y5 y6 q7 q8
    extract_lets +onlyGivenNames x9
    split
    · rename_i y10 y11 q12
      extract_lets +onlyGivenNames x13
      clear_value x13
      extract_lets +onlyGivenNames x14
      clear_value x14
      exact Chip.modCl_inside (hM.up rfl) hp1
  · exact hp1

theorem Chip.rawLevels_inside {z : Chip} {M : ℕ} (hM : Sub 131074 M) {p1 : Chip} {p2 : ℕ} {p3 : ℕ} {p4 : Bool} {p5 : Bool} (hp1 : z.Inside M p1) : z.Inside M (Chip.rawLevels p1 p2 p3 p4 p5) := by
  unfold Chip.rawLevels
  exact Chip.effEdge_inside (hM.up rfl) (Chip.modSlice_inside (hM.up rfl) hp1)

theorem Chip.rawAt_inside {z : Chip} {M : ℕ} (hM : Sub 131074 M) {p1 : Chip} {p2 : ℕ} {p3 : Bool} (hp1 : z.Inside M p1) : z.Inside M (Chip.rawAt p1 p2 p3) := by
  unfold Chip.rawAt
  extract_lets +onlyGivenNames x1
  clear_value x1
  split <;> exact Chip.rawLevels_inside (hM.up rfl) (Chip.modSlice_inside (hM.up rfl) hp1)

theorem Chip.peakTick_inside {z : Chip} {M : ℕ} (hM : Sub 1708354 M) {p1 : Chip} {p2 : ℕ} (hp1 : z.Inside M p1) : z.Inside M (Chip.peakTick p1 p2) := by
  unfold Chip.peakTick
  extract_lets +onlyGivenNames x1
  have hx1 : z.Inside M x1 := Chip.sets_inside (hM.up rfl) hp1
  clear_value x1
  extract_lets +onlyGivenNames x2
  have hx2 : z.Inside M x2 := .ite (Chip.reloadPoint_inside (hM.up rfl) hx1) hx1
  clear_value x2
  exact Chip.checkSlice_inside (hM.up rfl) (Chip.rawAt_inside (hM.up rfl) hx2)

theorem Chip.periodBoundary_inside {z : Chip} {M : ℕ} (hM : Sub 16386 M) {p1 : Chip} {p2 : ℕ} (hp1 : z.Inside M p1) : z.Inside M (Chip.periodBoundary p1 p2) := by
  unfold Chip.periodBoundary
  extract_lets +onlyGivenNames x1
  have hx1 : z.Inside M x1 := Chip.bankBoundary_inside (hM.up rfl) hp1
  clear_value x1
  refine .ite ?_ hx1
  extract_lets +onlyGivenNames x2
  clear_value x2
  exact .ite (Chip.set_inside (hM.up rfl) hx1) (Chip.set_inside (hM.up rfl) hx1)

theorem Chip.plateau_inside {z : Chip} {M : ℕ} (hM : Sub 2097154 M) {p1 : Chip} {p2 : ℕ} {p3 : Option ℕ} {p4 : ℕ} (hp1 : z.Inside M p1) : z.Inside M (Chip.plateau p1 p2 p3 p4) := by
  unfold Chip.plateau
  split
  · exact Chip.ageMeasure_inside (hM.up rfl) hp1
  · exact hp1

theorem Chip.posCount_inside {z : Chip} {M : ℕ} (hM : Sub 32834 M) {p1 : Chip} {p2 : ℕ} {p3 : Bool} {p4 : Bool} (hp1 : z.Inside M p1) : z.Inside M (Chip.posCount p1 p2 p3 p4) := by
  unfold Chip.posCount
  extract_lets +onlyGivenNames x1
  clear_value x1
  extract_lets +onlyGivenNames x2
  clear_value x2
  extract_lets +onlyGivenNames x3
  clear_value x3
  extract_lets +onlyGivenNames x4
  have hx4 : z.Inside M x4 := .ite (.ite (Chip.set_inside (hM.up rfl) (Chip.set_inside (hM.up rfl) hp1)) (Chip.set_inside (hM.up rfl) hp1)) (.ite (Chip.set_inside (hM.up rfl) (Chip.set_inside (hM.up rfl) hp1)) (Chip.set_inside (hM.up rfl) hp1))
  clear_value x4
  extract_lets +onlyGivenNames x5
  extract_lets +onlyGivenNames x6
  have hx6 : z.Inside M x6 := Chip.modPos_inside (hM.up rfl) hx4
  clear_value x6
  extract_lets +onlyGivenNames x7
  have hx7 : z.Inside M x7 := .ite (.ite (Chip.set_inside (hM.up rfl) hx6) hx6) hx4
  clear_value x7
  extract_lets +onlyGivenNames x8
  have hx8 : z.Inside M x8 := .ite hx7 (.ite (Chip.posOk_inside (hM.up rfl) hx7) (Chip.modPos_inside (hM.up rfl) hx7))
  clear_value x8
  extract_lets +onlyGivenNames x9
  have hx9 : z.Inside M x9 := Chip.modPos_inside (hM.up rfl) hx8
  clear_value x9
  extract_lets +onlyGivenNames x10
  extract_lets +onlyGivenNames x11
  have hx11 : z.Inside M x11 := .ite (Chip.posNote_inside (hM.up rfl) (Chip.modPos_inside (hM.up rfl) hx9)) hx9
  clear_value x11
  extract_lets +onlyGivenNames x12
  have hx12 : z.Inside M x12 := Chip.glitchCheck_inside (hM.up rfl) hx11
  clear_value x12
  extract_lets +onlyGivenNames x13
  have hx13 : z.Inside M x13 := Chip.speedEdge_inside (hM.up rfl) hx12
  clear_value x13
  exact Chip.set_inside (hM.up rfl) hx13

theorem Chip.posIllegal_inside {z : Chip} {M : ℕ} (hM : Sub 32834 M) {p1 : Chip} {p2 : ℕ} (hp1 : z.Inside M p1) : z.Inside M (Chip.posIllegal p1 p2) := by
  unfold Chip.posIllegal
  extract_lets +onlyGivenNames x1
  have hx1 : z.Inside M x1 := Chip.bump_inside (hM.up rfl) (Chip.put_inside (hM.up rfl) hp1)
  clear_value x1
  extract_lets +onlyGivenNames x2
  extract_lets +onlyGivenNames x3
  have hx3 : z.Inside M x3 := .ite (Chip.put_inside (hM.up rfl) (Chip.modPos_inside (hM.up rfl) hx1)) hx1
  clear_value x3
  refine .ite hx3 ?_
  extract_lets +onlyGivenNames x4
  have hx4 : z.Inside M x4 := .ite (Chip.modPos_inside (hM.up rfl) hx3) hx3
  clear_value x4
  extract_lets +onlyGivenNames x5
  have hx5 : z.Inside M x5 := Chip.bump_inside (hM.up rfl) hx4
  clear_value x5
  refine .ite ?_ hx5
  extract_lets +onlyGivenNames x6
  have hx6 : z.Inside M x6 := Chip.modPos_inside (hM.up rfl) (Chip.posLose_inside (hM.up rfl) hx5)
  clear_value x6
  exact Chip.posNote_inside (hM.up rfl) hx6

theorem Chip.profIsland_inside {z : Chip} {M : ℕ} (hM : Sub 2625602 M) {p1 : Chip} {p2 : ℕ} {p3 : ℕ} {p4 : Bool} (hp1 : z.Inside M p1) : z.Inside M (Chip.profIsland p1 p2 p3 p4) := by
  unfold Chip.profIsland
  refine .ite hp1 ?_
  extract_lets +onlyGivenNames x1
  clear_value x1
  extract_lets +onlyGivenNames x2
  have hx2 : z.Inside M x2 := Chip.modSw_inside (hM.up rfl) hp1
  clear_value x2
  refine .ite hx2 ?_
  extract_lets +onlyGivenNames x3
  clear_value x3
  extract_lets +onlyGivenNames x4
  have hx4 : z.Inside M x4 := Chip.put_inside (hM.up rfl) hx2
  clear_value x4
  refine .ite ?_ ?_
  · extract_lets +onlyGivenNames x5
    clear_value x5
    extract_lets +onlyGivenNames x6
    clear_value x6
    extract_lets +onlyGivenNames x7
    clear_value x7
    extract_lets +onlyGivenNames x8
    clear_value x8
    extract_lets +onlyGivenNames x9
    clear_value x9
    extract_lets +onlyGivenNames x10
    have hx10 : z.Inside M x10 := Chip.markUsed_inside (hM.up rfl) (Chip.markUsed_inside (hM.up rfl) hx4)
    clear_value x10
    exact Chip.modIsl_inside (hM.up rfl) hx10
  · extract_lets +onlyGivenNames x11
    clear_value x11
    extract_lets +onlyGivenNames x12
    have hx12 : z.Inside M x12 := Chip.modIsl_inside (hM.up rfl) hx4
    clear_value x12
    exact .ite hx12 (Chip.islRecord_inside (hM.up rfl) (Chip.put_inside (hM.up rfl) (Chip.modCl_inside (hM.up rfl) hx12)))

theorem Chip.profLookup_inside {z : Chip} {M : ℕ} (hM : Sub 3805506 M) {p1 : Chip} {p2 : ℕ} {p3 : ℕ} {p4 : Option ℕ} (hp1 : z.Inside M p1) : z.Inside M (Chip.profLookup p1 p2 p3 p4) := by
  unfold Chip.profLookup
  refine .ite ?_ hp1
  extract_lets +onlyGivenNames x1
  have hx1 : z.Inside M x1 := by
    unfold x1
    split
    · exact .ite (Chip.faultCl_inside (hM.up rfl) hp1) hp1
    · exact hp1
  clear_value x1
  exact Chip.profIsland_inside (hM.up rfl) (Chip.profIsland_inside (hM.up rfl) hx1)

theorem Chip.programItem_inside {z : Chip} {M : ℕ} (hM : Sub 69206110 M) {p1 : Chip} {p2 : ℕ} {p3 : Bool} (hp1 : z.Inside M p1) : z.Inside M (Chip.programItem p1 p2 p3) := by
  unfold Chip.programItem
  exact Chip.flashItem_inside (hM.up rfl) hp1

theorem Chip.quadStep_inside {z : Chip} {M : ℕ} (hM : Sub 32834 M) {p1 : Chip} {p2 : ℕ} {p3 : Bool} {p4 : Bool} (hp1 : z.Inside M p1) : z.Inside M (Chip.quadStep p1 p2 p3 p4) := by
  unfold Chip.quadStep
  extract_lets +onlyGivenNames x1
  extract_lets +onlyGivenNames x2
  have hx2 : z.Inside M x2 := Chip.modPos_inside (hM.up rfl) hp1
  clear_value x2
  exact .ite hx2 (.ite (Chip.posIllegal_inside (hM.up rfl) hx2) (.ite (Chip.posCount_inside (hM.up rfl) hx2) (.ite (Chip.posCount_inside (hM.up rfl) hx2) hx2)))

theorem Chip.quadSample_inside {z : Chip} {M : ℕ} (hM : Sub 32834 M) {p1 : Chip} {p2 : ℕ} {p3 : Bool} {p4 : Bool} (hp1 : z.Inside M p1) : z.Inside M (Chip.quadSample p1 p2 p3 p4) := by
  unfold Chip.quadSample
  refine Chip.posEvent_inside (hM.up rfl) hp1 ?_
  intro v1 hv1
  extract_lets +onlyGivenNames x2
  have hx2 : z.Inside M x2 := Chip.modPos_inside (hM.up rfl) (Chip.quadStep_inside (hM.up rfl) hv1)
  clear_value x2
  split
  · exact Chip.posIndex_inside (hM.up rfl) (Chip.modPos_inside (hM.up rfl) hx2)
  · exact hx2

theorem Chip.rawEdge_inside {z : Chip} {M : ℕ} (hM : Sub 1708354 M) {p1 : Chip} {p2 : ℕ} {p3 : Bool} {p4 : Bool} (hp1 : z.Inside M p1) : z.Inside M (Chip.rawEdge p1 p2 p3 p4) := by
  unfold Chip.rawEdge
  extract_lets +onlyGivenNames x1
  extract_lets +onlyGivenNames x2
  clear_value x2
  extract_lets +onlyGivenNames x3
  clear_value x3
  extract_lets +onlyGivenNames x4
  clear_value x4
  refine .ite hp1 ?_
  refine .ite (Chip.checkSlice_inside (hM.up rfl) (Chip.rawLevels_inside (hM.up rfl) (Chip.modSlice_inside (hM.up rfl) hp1))) ?_
  extract_lets +onlyGivenNames x5
  clear_value x5
  extract_lets +onlyGivenNames x6
  clear_value x6
  exact Chip.checkSlice_inside (hM.up rfl) (Chip.rawLevels_inside (hM.up rfl) hp1)

theorem Chip.rebuildEntry_inside {z : Chip} {M : ℕ} (hM : Sub 2097222 M) {p1 : ℕ} {p2 : Chip} {p3 : ℕ} (hp2 : z.Inside M p2) : z.Inside M (Chip.rebuildEntry p1 p2 p3) := by
  unfold Chip.rebuildEntry
  extract_lets +onlyGivenNames x1
  extract_lets +onlyGivenNames x2
  clear_value x2
  extract_lets +onlyGivenNames x3
  clear_value x3
  split
  · exact hp2
  · rename_i y6 y7 q8
    extract_lets +onlyGivenNames x9
    refine .ite hp2 ?_
    extract_lets +onlyGivenNames x10
    clear_value x10
    extract_lets +onlyGivenNames x11
    clear_value x11
    extract_lets +onlyGivenNames x12
    extract_lets +onlyGivenNames x13
    clear_value x13
    split
    · rename_i y14 y15 q16
      extract_lets +onlyGivenNames x17
      have hx17 : z.Inside M x17 := Chip.store_inside (hM.up rfl) hp2
      clear_value x17
      extract_lets +onlyGivenNames x18
      have hx18 : z.Inside M x18 := Chip.modAge_inside (hM.up rfl) hx17
      clear_value x18
      exact .ite (Chip.noteCl_inside (hM.up rfl) (Chip.put_inside (hM.up rfl) (Chip.modAge_inside (hM.up rfl) hx18))) hx18

theorem Chip.recBad_inside {z : Chip} {M : ℕ} (hM : Sub 66 M) {p1 : Chip} {p2 : ℕ} {p3 : ℕ} (hp1 : z.Inside M p1) : z.Inside M (Chip.recBad p1 p2 p3) := by
  unfold Chip.recBad
  extract_lets +onlyGivenNames x1
  have hx1 : z.Inside M x1 := Chip.clrBitOf_inside (hM.up rfl) (Chip.put_inside (hM.up rfl) hp1)
  clear_value x1
  extract_lets +onlyGivenNames x2
  have hx2 : z.Inside M x2 := Chip.put_inside (hM.up rfl) hx1
  clear_value x2
  split
  · exact Chip.showLim_inside (hM.up rfl) (Chip.put_inside (hM.up rfl) (Chip.limitCl_inside (hM.up rfl) hx2))
  · exact Chip.record_inside (hM.up rfl) hx2

theorem Chip.refLost_inside {z : Chip} {M : ℕ} (hM : Sub 8194 M) {p1 : Chip} (hp1 : z.Inside M p1) : z.Inside M (Chip.refLost p1) := by
  unfold Chip.refLost
  extract_lets +onlyGivenNames x1
  have hx1 : z.Inside M x1 := Chip.put_inside (hM.up rfl) hp1
  clear_value x1
  exact (Chip.Inside.mk_adc (hM.up rfl) hx1)

theorem Chip.refShown_inside {z : Chip} {M : ℕ} (hM : Sub 8192 M) {p1 : Chip} {p2 : ℕ} {p3 : ℕ} (hp1 : z.Inside M p1) : z.Inside M (Chip.refShown p1 p2 p3) := by
  unfold Chip.refShown
  exact (Chip.Inside.mk_adc (hM.up rfl) hp1)

theorem Chip.refreshEnd_inside {z : Chip} {M : ℕ} (hM : Sub 131072 M) {p1 : Chip} {p2 : ℕ} {p3 : ℕ} (hp1 : z.Inside M p1) : z.Inside M (Chip.refreshEnd p1 p2 p3) := by
  unfold Chip.refreshEnd
  extract_lets +onlyGivenNames x1
  have hx1 : z.Inside M x1 := Chip.modSlice_inside (hM.up rfl) (Chip.accrue_inside (hM.up rfl) hp1)
  clear_value x1
  exact .ite (Chip.riseH_inside (hM.up rfl) (Chip.modSlice_inside (hM.up rfl) hx1)) hx1

theorem Chip.refreshStart_inside {z : Chip} {M : ℕ} (hM : Sub 131074 M) {p1 : Chip} {p2 : ℕ} (hp1 : z.Inside M p1) : z.Inside M (Chip.refreshStart p1 p2) := by
  unfold Chip.refreshStart
  exact Chip.outputs_inside (hM.up rfl) (Chip.dropGates_inside (hM.up rfl) (Chip.modSlice_inside (hM.up rfl) (Chip.accrue_inside (hM.up rfl) hp1)))

theorem Chip.resPass_inside {z : Chip} {M : ℕ} (hM : Sub 36930 M) {p1 : Chip} {p2 : ℕ} {p3 : Bool} (hp1 : z.Inside M p1) : z.Inside M (Chip.resPass p1 p2 p3) := by
  unfold Chip.resPass
  extract_lets +onlyGivenNames x1
  extract_lets +onlyGivenNames x2
  clear_value x2
  refine .ite hp1 ?_
  extract_lets +onlyGivenNames x3
  have hx3 : z.Inside M x3 := Chip.modCl_inside (hM.up rfl) hp1
  clear_value x3
  split
  · exact hx3
  · rename_i y6 q7
    extract_lets +onlyGivenNames x8
    extract_lets +onlyGivenNames x9
    clear_value x9
    exact Chip.atTick_inside (hM.up rfl) hx3 (fun z v10 hv10 => Chip.latchAngle_inside (hM.up rfl) (Chip.modPos_inside (hM.up rfl) (Chip.resEval_inside (hM.up rfl) hv10)))

theorem Chip.resetFields_inside {z : Chip} {M : ℕ} (hM : Sub 2 M) {p1 : Chip} {p2 : List Field} (hp1 : z.Inside M p1) : z.Inside M (Chip.resetFields p1 p2) := by
  unfold Chip.resetFields
  exact .foldl hp1 (fun t2 a1 ht2 => Chip.set_inside (hM.up rfl) ht2)

theorem Chip.restart_inside {z : Chip} {M : ℕ} (hM : Sub 2139095039 M) {p1 : Chip} {p2 : ℕ} {p3 : SlotOutcome} (hp1 : z.Inside M p1) : z.Inside M (Chip.restart p1 p2 p3).1 :=
  .all hM

theorem Chip.vdcWritten_inside {z : Chip} {M : ℕ} (hM : Sub 1708354 M) {p1 : Chip} {p2 : ℕ} {p3 : List (ℕ × ℕ)} (hp1 : z.Inside M p1) : z.Inside M (Chip.vdcWritten p1 p2 p3) := by
  unfold Chip.vdcWritten
  extract_lets +onlyGivenNames x1
  have hx1 : z.Inside M x1 := Chip.showVdc_inside (hM.up rfl) (Chip.modCl_inside (hM.up rfl) hp1)
  clear_value x1
  extract_lets +onlyGivenNames x2
  have hx2 : z.Inside M x2 := Chip.disCheck_inside (hM.up rfl) (Chip.chopRule_inside (hM.up rfl) hx1)
  clear_value x2
  exact Chip.evalRule_inside (hM.up rfl) hx2

theorem Chip.resultsIn_inside {z : Chip} {M : ℕ} (hM : Sub 3920210 M) {p1 : Chip} {p2 : ℕ} {p3 : ℕ} {p4 : Upset} {p5 : ℕ} {p6 : Bool} (hp1 : z.Inside M p1) : z.Inside M (Chip.resultsIn p1 p2 p3 p4 p5 p6) := by
  unfold Chip.resultsIn
  extract_lets +onlyGivenNames x1
  clear_value x1
  extract_lets +onlyGivenNames x2
  have hx2 : z.Inside M x2 := .ite (Chip.vdcWritten_inside (hM.up rfl) (Chip.diodeWatch_inside (hM.up rfl) hp1)) hp1
  clear_value x2
  extract_lets +onlyGivenNames x3
  clear_value x3
  extract_lets +onlyGivenNames x4
  have hx4 : z.Inside M x4 := Chip.passDone_inside (hM.up rfl) hx2
  clear_value x4
  extract_lets +onlyGivenNames x5
  have hx5 : z.Inside M x5 := .ite (Chip.resPass_inside (hM.up rfl) hx4) hx4
  clear_value x5
  extract_lets +onlyGivenNames x6
  have hx6 : z.Inside M x6 := .ite (Chip.loopRun_inside (hM.up rfl) hx5) hx5
  clear_value x6
  exact .ite (Chip.pcPass_inside (hM.up rfl) hx6) hx6

theorem Chip.ringResume_inside {z : Chip} {M : ℕ} (hM : Sub 939524166 M) {p1 : Chip} (hp1 : z.Inside M p1) : z.Inside M (Chip.ringResume p1) := by
  unfold Chip.ringResume
  exact .ite hp1 (.ite (Chip.set_inside (hM.up rfl) (Chip.ringStart_inside (hM.up rfl) hp1)) (Chip.modRing_inside (hM.up rfl) hp1))

theorem Chip.risesH_inside {z : Chip} {M : ℕ} (hM : Sub 131072 M) {p1 : Chip} {p2 : ℕ} {p3 : ℕ} (hp1 : z.Inside M p1) : z.Inside M (Chip.risesH p1 p2 p3) := by
  unfold Chip.risesH
  exact Chip.modSlice_inside (hM.up rfl) (Chip.accrue_inside (hM.up rfl) hp1)

theorem Chip.risesL_inside {z : Chip} {M : ℕ} (hM : Sub 131072 M) {p1 : Chip} {p2 : ℕ} {p3 : ℕ} (hp1 : z.Inside M p1) : z.Inside M (Chip.risesL p1 p2 p3) := by
  unfold Chip.risesL
  exact Chip.modSlice_inside (hM.up rfl) (Chip.accrue_inside (hM.up rfl) hp1)

theorem Chip.rowWrite_inside {z : Chip} {M : ℕ} (hM : Sub 466 M) {p1 : Chip} {p2 : ℕ} {p3 : ℕ} {p4 : Chip → Chip} (hp1 : z.Inside M p1) (hp4 : ∀ u1, z.Inside M u1 → z.Inside M (p4 u1)) : z.Inside M (Chip.rowWrite p1 p2 p3 p4) := by
  unfold Chip.rowWrite
  refine .ite (Chip.discard_inside (hM.up rfl) hp1) ?_
  extract_lets +onlyGivenNames x1
  have hx1 : z.Inside M x1 := Chip.reachGate_inside (hM.up rfl) hp1
  clear_value x1
  split
  · exact .ite (Chip.Inside.mk_bus (hM.up rfl) hx1) (.ite (Chip.refuse_inside (hM.up rfl) hx1) (hp4 _ hx1))
  · exact .ite (Chip.refuse_inside (hM.up rfl) hx1) (hp4 _ hx1)

theorem Chip.sarDeliver_inside {z : Chip} {M : ℕ} (hM : Sub 16450 M) {p1 : Chip} {p2 : ℕ} {p3 : ℕ} {p4 : ℕ} {p5 : ℕ} (hp1 : z.Inside M p1) : z.Inside M (Chip.sarDeliver p1 p2 p3 p4 p5) := by
  unfold Chip.sarDeliver
  extract_lets +onlyGivenNames x1
  clear_value x1
  extract_lets +onlyGivenNames x2
  clear_value x2
  extract_lets +onlyGivenNames x3
  clear_value x3
  extract_lets +onlyGivenNames x4
  clear_value x4
  extract_lets +onlyGivenNames x5
  clear_value x5
  extract_lets +onlyGivenNames x6
  have hx6 : z.Inside M x6 := Chip.sets_inside (hM.up rfl) hp1
  clear_value x6
  exact Chip.deliver_inside (hM.up rfl) hx6

theorem Chip.sdDead_inside {z : Chip} {M : ℕ} (hM : Sub 16450 M) {p1 : Chip} {p2 : ℕ} {p3 : ℕ} {p4 : ℕ} (hp1 : z.Inside M p1) : z.Inside M (Chip.sdDead p1 p2 p3 p4) := by
  unfold Chip.sdDead
  extract_lets +onlyGivenNames x1
  clear_value x1
  exact Chip.deliver_inside (hM.up rfl) (Chip.sets_inside (hM.up rfl) hp1)

theorem Chip.selfEval_inside {z : Chip} {M : ℕ} (hM : Sub 32834 M) {p1 : Chip} {p2 : ℕ} (hp1 : z.Inside M p1) : z.Inside M (Chip.selfEval p1 p2) := by
  unfold Chip.selfEval
  exact Chip.posEval_inside (hM.up rfl) (Chip.modPos_inside (hM.up rfl) hp1)

theorem Chip.sensorAngle_inside {z : Chip} {M : ℕ} (hM : Sub 32770 M) {p1 : Chip} {p2 : ℕ} {p3 : ℕ} {p4 : ℤ} (hp1 : z.Inside M p1) : z.Inside M (Chip.sensorAngle p1 p2 p3 p4) := by
  unfold Chip.sensorAngle
  extract_lets +onlyGivenNames x1
  extract_lets +onlyGivenNames x2
  clear_value x2
  extract_lets +onlyGivenNames x3
  extract_lets +onlyGivenNames x4
  clear_value x4
  extract_lets +onlyGivenNames x5
  have hx5 : z.Inside M x5 := Chip.modPos_inside (hM.up rfl) hp1
  clear_value x5
  extract_lets +onlyGivenNames x6
  have hx6 : z.Inside M x6 := Chip.sets_inside (hM.up rfl) hx5
  clear_value x6
  refine .ite hx6 ?_
  extract_lets +onlyGivenNames x7
  clear_value x7
  extract_lets +onlyGivenNames x8
  clear_value x8
  extract_lets +onlyGivenNames x9
  have hx9 : z.Inside M x9 := .ite (Chip.put_inside (hM.up rfl) (Chip.put_inside (hM.up rfl) hx6)) hx6
  clear_value x9
  exact Chip.posOk_inside (hM.up rfl) (Chip.put_inside (hM.up rfl) (Chip.set_inside (hM.up rfl) hx9))

theorem Chip.sentDrop_inside {z : Chip} {M : ℕ} (hM : Sub 32770 M) {p1 : Chip} {p2 : ℕ} (hp1 : z.Inside M p1) : z.Inside M (Chip.sentDrop p1 p2) := by
  unfold Chip.sentDrop
  exact Chip.put_inside (hM.up rfl) (Chip.modPos_inside (hM.up rfl) hp1)

theorem Chip.serialDone_inside {z : Chip} {M : ℕ} (hM : Sub 32770 M) {p1 : Chip} {p2 : ℕ} {p3 : Bool} {p4 : ℕ} {p5 : ℕ} {p6 : ℕ} (hp1 : z.Inside M p1) : z.Inside M (Chip.serialDone p1 p2 p3 p4 p5 p6) := by
  unfold Chip.serialDone
  extract_lets +onlyGivenNames x1
  have hx1 : z.Inside M x1 := Chip.modPos_inside (hM.up rfl) hp1
  clear_value x1
  exact .ite (Chip.sets_inside (hM.up rfl) hx1) (Chip.bump_inside (hM.up rfl) hx1)

theorem Chip.serialBits_inside {z : Chip} {M : ℕ} (hM : Sub 32770 M) {p1 : Chip} {p2 : ℕ} {p3 : Bool} {p4 : Bool} (hp1 : z.Inside M p1) : z.Inside M (Chip.serialBits p1 p2 p3 p4) := by
  unfold Chip.serialBits
  extract_lets +onlyGivenNames x1
  clear_value x1
  refine .ite ?_ ?_
  · extract_lets +onlyGivenNames x2
    extract_lets +onlyGivenNames x3
    have hx3 : z.Inside M x3 := Chip.modPos_inside (hM.up rfl) hp1
    clear_value x3
    refine .ite ?_ hx3
    extract_lets +onlyGivenNames x4
    clear_value x4
    extract_lets +onlyGivenNames x5
    clear_value x5
    exact Chip.serialDone_inside (hM.up rfl) hx3
  · refine .ite ?_ hp1
    extract_lets +onlyGivenNames x6
    extract_lets +onlyGivenNames x7
    have hx7 : z.Inside M x7 := Chip.modPos_inside (hM.up rfl) hp1
    clear_value x7
    extract_lets +onlyGivenNames x8
    refine .ite ?_ hx7
    extract_lets +onlyGivenNames x9
    extract_lets +onlyGivenNames x10
    clear_value x10
    extract_lets +onlyGivenNames x11
    clear_value x11
    extract_lets +onlyGivenNames x12
    clear_value x12
    extract_lets +onlyGivenNames x13
    clear_value x13
    extract_lets +onlyGivenNames x14
    clear_value x14
    exact .ite (Chip.serialDone_inside (hM.up rfl) hx7) (Chip.serialDone_inside (hM.up rfl) hx7)

theorem Chip.sentRx_inside {z : Chip} {M : ℕ} (hM : Sub 32834 M) {p1 : Chip} {p2 : ℕ} {p3 : ℕ} {p4 : List ℕ} (hp1 : z.Inside M p1) : z.Inside M (Chip.sentRx p1 p2 p3 p4) := by
  unfold Chip.sentRx
  extract_lets +onlyGivenNames x1
  clear_value x1
  extract_lets +onlyGivenNames x2
  clear_value x2
  extract_lets +onlyGivenNames x3
  clear_value x3
  refine .ite hp1 ?_
  refine .ite hp1 ?_
  extract_lets +onlyGivenNames x4
  extract_lets +onlyGivenNames x5
  clear_value x5
  extract_lets +onlyGivenNames x6
  extract_lets +onlyGivenNames x7
  have hx7 : z.Inside M x7 := Chip.modPos_inside (hM.up rfl) hp1
  clear_value x7
  refine .ite (Chip.bump_inside (hM.up rfl) (Chip.sentDrop_inside (hM.up rfl) hx7)) ?_
  extract_lets +onlyGivenNames x8
  extract_lets +onlyGivenNames x9
  refine .ite ?_ ?_
  · extract_lets +onlyGivenNames x10
    have hx10 : z.Inside M x10 := Chip.bump_inside (hM.up rfl) (Chip.sentDrop_inside (hM.up rfl) hx7)
    clear_value x10
    exact .ite hx10 (Chip.posNote_inside (hM.up rfl) (Chip.modPos_inside (hM.up rfl) hx10))
  · extract_lets +onlyGivenNames x11
    clear_value x11
    extract_lets +onlyGivenNames x12
    clear_value x12
    extract_lets +onlyGivenNames x13
    clear_value x13
    extract_lets +onlyGivenNames x14
    clear_value x14
    extract_lets +onlyGivenNames x15
    clear_value x15
    extract_lets +onlyGivenNames x16
    extract_lets +onlyGivenNames x17
    have hx17 : z.Inside M x17 := Chip.sets_inside (hM.up rfl) hx7
    clear_value x17
    exact Chip.sensorAngle_inside (hM.up rfl) (Chip.serialBits_inside (hM.up rfl) hx17)

theorem Chip.settleGroup_inside {z : Chip} {M : ℕ} (hM : Sub 0 M) {p1 : Chip} {p2 : ℕ} {p3 : ℕ} (hp1 : z.Inside M p1) : z.Inside M (Chip.settleGroup p1 p2 p3) := by
  unfold Chip.settleGroup
  extract_lets +onlyGivenNames x1
  extract_lets +onlyGivenNames x2
  clear_value x2
  extract_lets +onlyGivenNames x3
  clear_value x3
  exact .ite (Chip.modGroup_inside (hM.up rfl) hp1) hp1

theorem Chip.settleLine_inside {z : Chip} {M : ℕ} (hM : Sub 4194304 M) {p1 : Chip} {p2 : ℕ} (hp1 : z.Inside M p1) : z.Inside M (Chip.settleLine p1 p2) := by
  unfold Chip.settleLine
  extract_lets +onlyGivenNames x1
  clear_value x1
  extract_lets +onlyGivenNames x2
  clear_value x2
  extract_lets +onlyGivenNames x3
  extract_lets +onlyGivenNames x4
  have hx4 : z.Inside M x4 := (Chip.Inside.mk_irq (hM.up rfl) hp1)
  clear_value x4
  exact .ite (Chip.modHart_inside (hM.up rfl) hx4) hx4

theorem Chip.showEstimates_inside {z : Chip} {M : ℕ} (hM : Sub 3805506 M) {p1 : Chip} (hp1 : z.Inside M p1) : z.Inside M (Chip.showEstimates p1) := by
  unfold Chip.showEstimates
  exact .each (.each hp1 (fun a1 t2 ht2 => Chip.showTj_inside (hM.up rfl) ht2)) (fun a3 t4 ht4 => Chip.tjOver_inside (hM.up rfl) ht4)

theorem Chip.showLife_inside {z : Chip} {M : ℕ} (hM : Sub 2097218 M) {p1 : Chip} {p2 : ℕ} (hp1 : z.Inside M p1) : z.Inside M (Chip.showLife p1 p2) := by
  unfold Chip.showLife
  extract_lets +onlyGivenNames x1
  clear_value x1
  extract_lets +onlyGivenNames x2
  have hx2 : z.Inside M x2 := Chip.set_inside (hM.up rfl) hp1
  clear_value x2
  exact .ite (Chip.note_inside (hM.up rfl) (Chip.put_inside (hM.up rfl) (Chip.modLedger_inside (hM.up rfl) hx2))) hx2

theorem Chip.slsJudge_inside {z : Chip} {M : ℕ} (hM : Sub 4096 M) {p1 : Chip} {p2 : ℕ} (hp1 : z.Inside M p1) : z.Inside M (Chip.slsJudge p1 p2) := by
  unfold Chip.slsJudge
  extract_lets +onlyGivenNames x1
  clear_value x1
  extract_lets +onlyGivenNames x2
  clear_value x2
  exact Chip.modCl_inside (hM.up rfl) hp1

theorem Chip.sourceTimeout_inside {z : Chip} {M : ℕ} (hM : Sub 32834 M) {p1 : Chip} {p2 : ℕ} {p3 : ℕ} (hp1 : z.Inside M p1) : z.Inside M (Chip.sourceTimeout p1 p2 p3) := by
  unfold Chip.sourceTimeout
  exact .ite hp1 (.ite (Chip.modPos_inside (hM.up rfl) hp1) (Chip.sourceLost_inside (hM.up rfl) hp1))

theorem Chip.splitNow_inside {z : Chip} {M : ℕ} (hM : Sub 1814610 M) {p1 : Chip} {p2 : ℕ} (hp1 : z.Inside M p1) : z.Inside M (Chip.splitNow p1 p2) := by
  unfold Chip.splitNow
  extract_lets +onlyGivenNames x1
  clear_value x1
  extract_lets +onlyGivenNames x2
  have hx2 : z.Inside M x2 := .ite (Chip.copyEngine_inside (hM.up rfl) (Chip.imageEngine_inside (hM.up rfl) hp1)) hp1
  clear_value x2
  extract_lets +onlyGivenNames x3
  have hx3 : z.Inside M x3 := Chip.modCl_inside (hM.up rfl) hx2
  clear_value x3
  exact Chip.sets_inside (hM.up rfl) (Chip.imageEngine_inside (hM.up rfl) hx3)

theorem Chip.ss1Judge_inside {z : Chip} {M : ℕ} (hM : Sub 1708354 M) {p1 : Chip} {p2 : ℕ} (hp1 : z.Inside M p1) : z.Inside M (Chip.ss1Judge p1 p2) := by
  unfold Chip.ss1Judge
  extract_lets +onlyGivenNames x1
  clear_value x1
  exact .ite (Chip.pcSto_inside (hM.up rfl) hp1) hp1

theorem Chip.statusWarn_inside {z : Chip} {M : ℕ} (hM : Sub 131138 M) {p1 : Chip} {p2 : ℕ} {p3 : ℕ} {p4 : ℕ} (hp1 : z.Inside M p1) : z.Inside M (Chip.statusWarn p1 p2 p3 p4) := by
  unfold Chip.statusWarn
  extract_lets +onlyGivenNames x1
  extract_lets +onlyGivenNames x2
  have hx2 : z.Inside M x2 := Chip.put_inside (hM.up rfl) hp1
  clear_value x2
  extract_lets +onlyGivenNames x3
  have hx3 : z.Inside M x3 := .ite (Chip.modSlice_inside (hM.up rfl) hx2) hx2
  clear_value x3
  extract_lets +onlyGivenNames x4
  have hx4 : z.Inside M x4 := .ite (Chip.islRecord_inside (hM.up rfl) (Chip.put_inside (hM.up rfl) hx3)) hx3
  clear_value x4
  extract_lets +onlyGivenNames x5
  clear_value x5
  extract_lets +onlyGivenNames x6
  have hx6 : z.Inside M x6 := Chip.put_inside (hM.up rfl) hx4
  clear_value x6
  exact .ite (Chip.islRecord_inside (hM.up rfl) (Chip.put_inside (hM.up rfl) hx6)) hx6

theorem Chip.statusWords_inside {z : Chip} {M : ℕ} (hM : Sub 2 M) {p1 : Chip} {p2 : ℕ} {p3 : ℕ} {p4 : ℕ} {p5 : ℕ} {p6 : ℕ} (hp1 : z.Inside M p1) : z.Inside M (Chip.statusWords p1 p2 p3 p4 p5 p6) := by
  unfold Chip.statusWords
  extract_lets +onlyGivenNames x1
  have hx1 : z.Inside M x1 := Chip.sets_inside (hM.up rfl) hp1
  clear_value x1
  extract_lets +onlyGivenNames x2
  clear_value x2
  exact Chip.showNtc_inside (hM.up rfl) (Chip.sets_inside (hM.up rfl) hx1)

theorem Chip.stepFour_inside {z : Chip} {M : ℕ} (hM : Sub 524354 M) {p1 : Chip} {p2 : ℕ} {p3 : ℕ} (hp1 : z.Inside M p1) : z.Inside M (Chip.stepFour p1 p2 p3) := by
  unfold Chip.stepFour
  extract_lets +onlyGivenNames x1
  have hx1 : z.Inside M x1 := Chip.set_inside (hM.up rfl) hp1
  clear_value x1
  exact .ite (Chip.calibrate_inside (hM.up rfl) hx1) (Chip.calibrateDue_inside (hM.up rfl) (Chip.modIsl_inside (hM.up rfl) hx1))

theorem Chip.stopCarrier_inside {z : Chip} {M : ℕ} (hM : Sub 131074 M) {p1 : Chip} {p2 : ℕ} (hp1 : z.Inside M p1) : z.Inside M (Chip.stopCarrier p1 p2) := by
  unfold Chip.stopCarrier
  extract_lets +onlyGivenNames x1
  have hx1 : z.Inside M x1 := Chip.set_inside (hM.up rfl) (Chip.set_inside (hM.up rfl) (Chip.put_inside (hM.up rfl) hp1))
  clear_value x1
  extract_lets +onlyGivenNames x2
  have hx2 : z.Inside M x2 := Chip.modSlice_inside (hM.up rfl) hx1
  clear_value x2
  exact .ite (Chip.setGate_inside (hM.up rfl) hx2) hx2

theorem Chip.swapNow_inside {z : Chip} {M : ℕ} (hM : Sub 2101318 M) {p1 : Chip} {p2 : ℕ} {p3 : ℕ} {p4 : Bool} (hp1 : z.Inside M p1) : z.Inside M (Chip.swapNow p1 p2 p3 p4) := by
  unfold Chip.swapNow
  refine .ite hp1 ?_
  refine .ite ?_ ?_
  · extract_lets +onlyGivenNames x1
    clear_value x1
    extract_lets +onlyGivenNames x2
    have hx2 : z.Inside M x2 := Chip.modCl_inside (hM.up rfl) hp1
    clear_value x2
    exact .ite (Chip.noteCl_inside (hM.up rfl) (Chip.setBitOf_inside (hM.up rfl) hx2)) hx2
  · extract_lets +onlyGivenNames x3
    have hx3 : z.Inside M x3 := Chip.set_inside (hM.up rfl) hp1
    clear_value x3
    extract_lets +onlyGivenNames x4
    have hx4 : z.Inside M x4 := Chip.put_inside (hM.up rfl) (Chip.count_inside (hM.up rfl) (Chip.putSwap_inside (hM.up rfl) hx3))
    clear_value x4
    extract_lets +onlyGivenNames x5
    have hx5 : z.Inside M x5 := Chip.modCl_inside (hM.up rfl) hx4
    clear_value x5
    refine .ite ?_ hx5
    extract_lets +onlyGivenNames x6
    clear_value x6
    extract_lets +onlyGivenNames x7
    have hx7 : z.Inside M x7 := Chip.modCl_inside (hM.up rfl) hx5
    clear_value x7
    exact .ite (Chip.ageSwapped_inside (hM.up rfl) hx7) hx7

theorem Chip.tick_inside {z : Chip} {M : ℕ} (hM : Sub 2139095039 M) {p1 : Chip} (hp1 : z.Inside M p1) : z.Inside M (Chip.tick p1) :=
  .all hM

theorem Chip.tjMeasure_inside {z : Chip} {M : ℕ} (hM : Sub 2097218 M) {p1 : Chip} {p2 : ℕ} {p3 : ℕ} {p4 : ℕ} (hp1 : z.Inside M p1) : z.Inside M (Chip.tjMeasure p1 p2 p3 p4) := by
  unfold Chip.tjMeasure
  extract_lets +onlyGivenNames x1
  clear_value x1
  extract_lets +onlyGivenNames x2
  clear_value x2
  extract_lets +onlyGivenNames x3
  clear_value x3
  extract_lets +onlyGivenNames x4
  clear_value x4
  extract_lets +onlyGivenNames x5
  clear_value x5
  extract_lets +onlyGivenNames x6
  clear_value x6
  extract_lets +onlyGivenNames x7
  extract_lets +onlyGivenNames x8
  have hx8 : z.Inside M x8 := Chip.modSw_inside (hM.up rfl) hp1
  clear_value x8
  extract_lets +onlyGivenNames x9
  clear_value x9
  extract_lets +onlyGivenNames x10
  have hx10 : z.Inside M x10 := .ite (Chip.modSw_inside (hM.up rfl) hp1) (.ite (Chip.record_inside (hM.up rfl) (Chip.put_inside (hM.up rfl) hx8)) hx8)
  clear_value x10
  exact Chip.showTj_inside (hM.up rfl) hx10

theorem Chip.tokenAccept_inside {z : Chip} {M : ℕ} (hM : Sub 594 M) {p1 : Chip} {p2 : ℕ} {p3 : Fuses} (hp1 : z.Inside M p1) : z.Inside M (Chip.tokenAccept p1 p2 p3) := by
  unfold Chip.tokenAccept
  extract_lets +onlyGivenNames x1
  have hx1 : z.Inside M x1 := Chip.sets_inside (hM.up rfl) (Chip.modFuses_inside (hM.up rfl) hp1)
  clear_value x1
  extract_lets +onlyGivenNames x2
  have hx2 : z.Inside M x2 := Chip.newNonce_inside (hM.up rfl) hx1
  clear_value x2
  exact .ite (Chip.note_inside (hM.up rfl) (Chip.sets_inside (hM.up rfl) hx2)) (.ite (Chip.note_inside (hM.up rfl) (Chip.put_inside (hM.up rfl) hx2)) hx2)

theorem Chip.tqJudge_inside {z : Chip} {M : ℕ} (hM : Sub 4098 M) {p1 : Chip} {p2 : ℕ} (hp1 : z.Inside M p1) : z.Inside M (Chip.tqJudge p1 p2) := by
  unfold Chip.tqJudge
  extract_lets +onlyGivenNames x1
  refine .ite (.ite hp1 (Chip.modCl_inside (hM.up rfl) hp1)) ?_
  extract_lets +onlyGivenNames x2
  clear_value x2
  extract_lets +onlyGivenNames x3
  clear_value x3
  extract_lets +onlyGivenNames x4
  clear_value x4
  extract_lets +onlyGivenNames x5
  clear_value x5
  extract_lets +onlyGivenNames x6
  clear_value x6
  extract_lets +onlyGivenNames x7
  clear_value x7
  extract_lets +onlyGivenNames x8
  have hx8 : z.Inside M x8 := Chip.put_inside (hM.up rfl) (Chip.set_inside (hM.up rfl) hp1)
  clear_value x8
  exact Chip.modCl_inside (hM.up rfl) hx8

theorem Chip.traceCopy_inside {z : Chip} {M : ℕ} (hM : Sub 67108886 M) {p1 : Chip} {p2 : ℕ} (hp1 : z.Inside M p1) : z.Inside M (Chip.traceCopy p1 p2) := by
  unfold Chip.traceCopy
  refine Chip.descItem_inside (hM.up rfl) hp1 ?_
  intro v1 v2 hv2
  extract_lets +onlyGivenNames x3
  clear_value x3
  extract_lets +onlyGivenNames x4
  clear_value x4
  refine .ite hv2 ?_
  extract_lets +onlyGivenNames x5
  clear_value x5
  extract_lets +onlyGivenNames x6
  clear_value x6
  refine .ite hv2 ?_
  extract_lets +onlyGivenNames x7
  clear_value x7
  extract_lets +onlyGivenNames x8
  extract_lets +onlyGivenNames x9
  have hx9 : z.Inside M x9 := Chip.setBytes_inside (hM.up rfl) hv2
  clear_value x9
  exact Chip.descMore_inside (hM.up rfl) (Chip.modDesc_inside (hM.up rfl) hx9)

theorem Chip.transferred_inside {z : Chip} {M : ℕ} (hM : Sub 258 M) {p1 : Chip} (hp1 : z.Inside M p1) : z.Inside M (Chip.transferred p1) := by
  unfold Chip.transferred
  extract_lets +onlyGivenNames x1
  extract_lets +onlyGivenNames x2
  have hx2 : z.Inside M x2 := Chip.modPwr_inside (hM.up rfl) hp1
  clear_value x2
  extract_lets +onlyGivenNames x3
  have hx3 : z.Inside M x3 := Chip.put_inside (hM.up rfl) hx2
  clear_value x3
  exact Chip.showReq_inside (hM.up rfl) (Chip.put_inside (hM.up rfl) hx3)

theorem Chip.triggerPass_inside {z : Chip} {M : ℕ} (hM : Sub 1823042 M) {p1 : Chip} {p2 : ℕ} {p3 : ℕ} {p4 : ℕ} {p5 : Bool} (hp1 : z.Inside M p1) : z.Inside M (Chip.triggerPass p1 p2 p3 p4 p5) := by
  unfold Chip.triggerPass
  extract_lets +onlyGivenNames x1
  clear_value x1
  extract_lets +onlyGivenNames x2
  clear_value x2
  extract_lets +onlyGivenNames x3
  clear_value x3
  exact .ite hp1 (.ite (Chip.passStart_inside (hM.up rfl) hp1) (.ite (Chip.passStart_inside (hM.up rfl) hp1) hp1))

theorem Chip.txEnd_inside {z : Chip} {M : ℕ} (hM : Sub 404468054 M) {p1 : Chip} {p2 : ℕ} {p3 : TxEnd} (hp1 : z.Inside M p1) : z.Inside M (Chip.txEnd p1 p2 p3) := by
  unfold Chip.txEnd
  split
  · exact hp1
  · rename_i y3 y4 q5
    split
    · exact Chip.canError_inside (hM.up rfl) hp1
    · exact Chip.txRetry_inside (hM.up rfl) (Chip.modCan_inside (hM.up rfl) hp1)
    · rename_i y10 q11
      extract_lets +onlyGivenNames x12
      extract_lets +onlyGivenNames x13
      have hx13 : z.Inside M x13 := Chip.modCan_inside (hM.up rfl) hp1
      clear_value x13
      extract_lets +onlyGivenNames x14
      have hx14 : z.Inside M x14 := .ite hx13 (Chip.canConf_inside (hM.up rfl) (Chip.set_inside (hM.up rfl) hx13))
      clear_value x14
      extract_lets +onlyGivenNames x15
      have hx15 : z.Inside M x15 := .ite (Chip.modPort_inside (hM.up rfl) hx14) hx14
      clear_value x15
      extract_lets +onlyGivenNames x16
      have hx16 : z.Inside M x16 := Chip.sets_inside (hM.up rfl) hx15
      clear_value x16
      extract_lets +onlyGivenNames x17
      have hx17 : z.Inside M x17 := .ite (Chip.set_inside (hM.up rfl) hx16) hx16
      clear_value x17
      extract_lets +onlyGivenNames x18
      have hx18 : z.Inside M x18 := Chip.bufEnd_inside (hM.up rfl) (Chip.showBackoff_inside (hM.up rfl) hx17)
      clear_value x18
      exact .ite (Chip.frameRx_inside (hM.up rfl) hx18) hx18

theorem Chip.unitAsk_inside {z : Chip} {M : ℕ} (hM : Sub 940278230 M) {p1 : Chip} {p2 : UnitId} (hp1 : z.Inside M p1) : z.Inside M (Chip.unitAsk p1 p2) := by
  unfold Chip.unitAsk
  exact Chip.rowWrite_inside (hM.up rfl) hp1 (fun v1 hv1 => Chip.unitStart_inside (hM.up rfl) hv1)

theorem Chip.uploadItem_inside {z : Chip} {M : ℕ} (hM : Sub 67113310 M) {p1 : Chip} {p2 : ℕ} (hp1 : z.Inside M p1) : z.Inside M (Chip.uploadItem p1 p2) := by
  unfold Chip.uploadItem
  refine Chip.descItem_inside (hM.up rfl) hp1 ?_
  intro v1 v2 hv2
  extract_lets +onlyGivenNames x3
  clear_value x3
  extract_lets +onlyGivenNames x4
  clear_value x4
  extract_lets +onlyGivenNames x5
  refine .ite ?_ (Chip.descMore_inside (hM.up rfl) (Chip.storeRun_inside (hM.up rfl) hv2))
  extract_lets +onlyGivenNames x6
  have hx6 : z.Inside M x6 := Chip.reachGate_inside (hM.up rfl) hv2
  clear_value x6
  split
  · exact Chip.descEnd_inside (hM.up rfl) (Chip.ldrStore_inside (hM.up rfl) hx6)
  · exact Chip.descMore_inside (hM.up rfl) (.each hx6 (fun a11 t12 ht12 => Chip.ldrStore_inside (hM.up rfl) ht12))

theorem Chip.valleyCarrier_inside {z : Chip} {M : ℕ} (hM : Sub 131074 M) {p1 : Chip} {p2 : ℕ} (hp1 : z.Inside M p1) : z.Inside M (Chip.valleyCarrier p1 p2) := by
  unfold Chip.valleyCarrier
  extract_lets +onlyGivenNames x1
  have hx1 : z.Inside M x1 := Chip.accrue_inside (hM.up rfl) hp1
  clear_value x1
  extract_lets +onlyGivenNames x2
  have hx2 : z.Inside M x2 := .ite (Chip.count_inside (hM.up rfl) hx1) hx1
  clear_value x2
  extract_lets +onlyGivenNames x3
  extract_lets +onlyGivenNames x4
  have hx4 : z.Inside M x4 := Chip.sets_inside (hM.up rfl) hx2
  clear_value x4
  exact Chip.modSlice_inside (hM.up rfl) hx4

theorem Chip.valleyTick_inside {z : Chip} {M : ℕ} (hM : Sub 1708354 M) {p1 : Chip} {p2 : ℕ} (hp1 : z.Inside M p1) : z.Inside M (Chip.valleyTick p1 p2) := by
  unfold Chip.valleyTick
  extract_lets +onlyGivenNames x1
  have hx1 : z.Inside M x1 := Chip.valleyCarrier_inside (hM.up rfl) hp1
  clear_value x1
  refine .ite (Chip.showHiz_inside (hM.up rfl) (Chip.syncFollowers_inside (hM.up rfl) (Chip.stopCarrier_inside (hM.up rfl) hx1))) ?_
  extract_lets +onlyGivenNames x2
  have hx2 : z.Inside M x2 := Chip.reloadPoint_inside (hM.up rfl) (Chip.syncCheck_inside (hM.up rfl) hx1)
  clear_value x2
  exact Chip.checkSlice_inside (hM.up rfl) (Chip.showHiz_inside (hM.up rfl) (Chip.rawAt_inside (hM.up rfl) hx2))

theorem Chip.wdisFail_inside {z : Chip} {M : ℕ} (hM : Sub 1708354 M) {p1 : Chip} {p2 : ℕ} (hp1 : z.Inside M p1) : z.Inside M (Chip.wdisFail p1 p2) := by
  unfold Chip.wdisFail
  extract_lets +onlyGivenNames x1
  have hx1 : z.Inside M x1 := Chip.wdisRefuse_inside (hM.up rfl) (Chip.setHeld_inside (hM.up rfl) hp1)
  clear_value x1
  exact .ite (Chip.disResistor_inside (hM.up rfl) hx1) hx1

theorem Chip.wdisProbed_inside {z : Chip} {M : ℕ} (hM : Sub 1708370 M) {p1 : Chip} {p2 : ℕ} (hp1 : z.Inside M p1) : z.Inside M (Chip.wdisProbed p1 p2) := by
  unfold Chip.wdisProbed
  split
  · exact Chip.wdisStart_inside (hM.up rfl) hp1
  · exact .ite (Chip.wdisStart_inside (hM.up rfl) (Chip.obsCaught_inside (hM.up rfl) (Chip.useFree_inside (hM.up rfl) hp1))) (Chip.wdisFail_inside (hM.up rfl) hp1)

theorem Chip.windResult_inside {z : Chip} {M : ℕ} (hM : Sub 2097218 M) {p1 : Chip} {p2 : ℕ} {p3 : ℕ} (hp1 : z.Inside M p1) : z.Inside M (Chip.windResult p1 p2 p3) := by
  unfold Chip.windResult
  extract_lets +onlyGivenNames x1
  clear_value x1
  extract_lets +onlyGivenNames x2
  clear_value x2
  extract_lets +onlyGivenNames x3
  have hx3 : z.Inside M x3 := Chip.sets_inside (hM.up rfl) hp1
  clear_value x3
  exact Chip.windJudge_inside (hM.up rfl) (Chip.modChm_inside (hM.up rfl) hx3)

theorem Chip.writeFailed_inside {z : Chip} {M : ℕ} (hM : Sub 69206598 M) {p1 : Chip} {p2 : WriteOwner} (hp1 : z.Inside M p1) : z.Inside M (Chip.writeFailed p1 p2) := by
  unfold Chip.writeFailed
  split
  · exact Chip.ledFail_inside (hM.up rfl) hp1
  · exact Chip.bootEnd_inside (hM.up rfl) hp1
  · exact Chip.hwAbortEnd_inside (hM.up rfl) (Chip.descEnd_inside (hM.up rfl) (Chip.dropWrite_inside (hM.up rfl) hp1))
  · exact Chip.put_inside (hM.up rfl) (Chip.dropWrite_inside (hM.up rfl) hp1)
  · exact Chip.dropWrite_inside (hM.up rfl) hp1
  · exact Chip.dropWrite_inside (hM.up rfl) hp1

theorem Chip.writeNow_inside {z : Chip} {M : ℕ} (hM : Sub 2139095039 M) {p1 : Chip} {p2 : Requester} {p3 : ℕ} {p4 : ℕ} (hp1 : z.Inside M p1) : z.Inside M (Chip.writeNow p1 p2 p3 p4) :=
  .all hM

theorem Chip.writeStarted_inside {z : Chip} {M : ℕ} (hM : Sub 2097686 M) {p1 : Chip} {p2 : WriteOwner} (hp1 : z.Inside M p1) : z.Inside M (Chip.writeStarted p1 p2) := by
  unfold Chip.writeStarted
  split
  · exact Chip.ledStart_inside (hM.up rfl) hp1
  · exact Chip.ageStored_inside (hM.up rfl) hp1
  · exact Chip.repairsWritten_inside (hM.up rfl) hp1
  · exact hp1

end Sys2Proof.Machine
end

