-- ==== Sys2Proof/Laws/InsideExec.lean ====
section
/-! SUPPORT. Which parts of the module every command may change. -/

set_option linter.unusedVariables false

namespace Sys2Proof.Machine

open Sys2Proof

theorem State.actRaw_inside {M : ℕ} {s t : State} {f : Chip → Chip} (h : s.actRaw f = .next t)
    (hf : ∀ z c : Chip, z.Inside M c → z.Inside M (f c)) : s.chip.Inside M t.chip := by
  cases h
  exact Chip.settle_inside (by simp [Sub]) (hf _ _ (.refl _ _))

theorem State.act_inside {M : ℕ} {s t : State} {f : Chip → Chip} (h : s.act f = .next t)
    (hf : ∀ z c : Chip, z.Inside M c → z.Inside M (f c)) : s.chip.Inside M t.chip := by
  unfold State.act at h
  split at h
  · cases h; exact .refl _ _
  · exact State.actRaw_inside h hf

theorem State.actIf_inside {M : ℕ} {s t : State} {ok : Bool} {f : Chip → Chip} (h : s.actIf ok f = .next t)
    (hf : ∀ z c : Chip, z.Inside M c → z.Inside M (f c)) : s.chip.Inside M t.chip := by
  unfold State.actIf at h
  split at h
  · exact State.act_inside h hf
  · cases h

theorem execAcyclicFrameRx_inside {M : ℕ} (hM : Sub 536870982 M) {p1 : Bool} {p2 : AcyclicFrame} {p3 : Bool} {p4 : State} {t : State} (h : execAcyclicFrameRx p1 p2 p3 p4 = .next t) : Chip.Inside p4.chip M t.chip :=
  State.actIf_inside h (fun _ c1 hc1 => Chip.acyclicRx_inside (hM.up rfl) hc1)

theorem execAddressClaimedRx_inside {M : ℕ} (hM : Sub 404468054 M) {p1 : Fin 4} {p2 : Byte} {p3 : BitVec 64} {p4 : State} {t : State} (h : execAddressClaimedRx p1 p2 p3 p4 = .next t) : Chip.Inside p4.chip M t.chip :=
  State.act_inside h (fun _ c1 hc1 => Chip.canRx_inside (hM.up rfl) hc1)

theorem execAddressClaim_inside {M : ℕ} (hM : Sub 402653186 M) {p1 : Fin 4} {p2 : State} {t : State} (h : execAddressClaim p1 p2 = .next t) : Chip.Inside p2.chip M t.chip :=
  State.act_inside h (fun _ c1 hc1 => Chip.claimPref_inside (hM.up rfl) hc1)

theorem execAgeApply_inside {M : ℕ} (hM : Sub 2101318 M) {p1 : Fin 4} {p2 : State} {t : State} (h : execAgeApply p1 p2 = .next t) : Chip.Inside p2.chip M t.chip := by
  refine State.act_inside h ?_
  intro z c1 hc1
  extract_lets +onlyGivenNames x2
  extract_lets +onlyGivenNames x3
  clear_value x3
  refine .ite hc1 ?_
  extract_lets +onlyGivenNames x4
  have hx4 : ∀ w5, z.Inside M w5 → z.Inside M (x4 w5) := fun w5 hw5 => Chip.showLearn_inside (hM.up rfl) (Chip.modAge_inside (hM.up rfl) hw5)
  clear_value x4
  extract_lets +onlyGivenNames x6
  clear_value x6
  refine .ite (hx4 _ hc1) ?_
  split
  · exact hx4 _ (Chip.record_inside (hM.up rfl) hc1)
  · extract_lets +onlyGivenNames x11
    have hx11 : z.Inside M x11 := Chip.copyTable2_inside (hM.up rfl) hc1
    clear_value x11
    extract_lets +onlyGivenNames x12
    have hx12 : z.Inside M x12 := Chip.modAge_inside (hM.up rfl) (.foldl hx11 (fun t14 a13 ht14 => Chip.ageTake_inside (hM.up rfl) ht14))
    clear_value x12
    exact Chip.showLearn_inside (hM.up rfl) (Chip.ageSwapOut_inside (hM.up rfl) hx12)

theorem execAgeRebuild_inside {M : ℕ} (hM : Sub 2101318 M) {p1 : Fin 4} {p2 : State} {t : State} (h : execAgeRebuild p1 p2 = .next t) : Chip.Inside p2.chip M t.chip := by
  refine State.act_inside h ?_
  intro z c1 hc1
  extract_lets +onlyGivenNames x2
  refine .ite hc1 ?_
  extract_lets +onlyGivenNames x3
  have hx3 : z.Inside M x3 := Chip.modAge_inside (hM.up rfl) (Chip.copyTable2_inside (hM.up rfl) hc1)
  clear_value x3
  extract_lets +onlyGivenNames x4
  have hx4 : z.Inside M x4 := .foldl hx3 (fun t6 a5 ht6 => Chip.rebuildEntry_inside (hM.up rfl) ht6)
  clear_value x4
  extract_lets +onlyGivenNames x7
  extract_lets +onlyGivenNames x8
  have hx8 : z.Inside M x8 := Chip.modAge_inside (hM.up rfl) hx4
  clear_value x8
  exact Chip.ageSwapOut_inside (hM.up rfl) hx8

theorem execAloneProbe_inside {M : ℕ} (hM : Sub 402653202 M) {p1 : Fin 4} {p2 : State} {t : State} (h : execAloneProbe p1 p2 = .next t) : Chip.Inside p2.chip M t.chip := by
  refine State.act_inside h ?_
  intro z c1 hc1
  refine .ite hc1 ?_
  extract_lets +onlyGivenNames x2
  extract_lets +onlyGivenNames x3
  clear_value x3
  exact Chip.statusSend_inside (hM.up rfl) (Chip.modPort_inside (hM.up rfl) hc1)

theorem execAonXtalFail_inside {M : ℕ} (hM : Sub 322 M) {p1 : Bool} {p2 : State} {t : State} (h : execAonXtalFail p1 p2 = .next t) : Chip.Inside p2.chip M t.chip := by
  refine State.actRaw_inside h ?_
  intro z c1 hc1
  extract_lets +onlyGivenNames x2
  have hx2 : z.Inside M x2 := Chip.put_inside (hM.up rfl) hc1
  clear_value x2
  extract_lets +onlyGivenNames x3
  have hx3 : z.Inside M x3 := Chip.modPwr_inside (hM.up rfl) hx2
  clear_value x3
  exact .ite hx3 (Chip.note_inside (hM.up rfl) (Chip.sets_inside (hM.up rfl) (Chip.monitor_inside (hM.up rfl) hx3)))

theorem execArbCommitEnd_inside {M : ℕ} (hM : Sub 514 M) {p1 : State} {t : State} (h : execArbCommitEnd p1 = .next t) : Chip.Inside p1.chip M t.chip := by
  refine State.act_inside h ?_
  intro z c1 hc1
  refine .ite ?_ hc1
  extract_lets +onlyGivenNames x2
  clear_value x2
  exact Chip.sets_inside (hM.up rfl) (Chip.modFuses_inside (hM.up rfl) hc1)

theorem execArbCommit_inside {M : ℕ} (hM : Sub 66 M) {p1 : Word} {p2 : State} {t : State} (h : execArbCommit p1 p2 = .next t) : Chip.Inside p2.chip M t.chip :=
  State.act_inside h (fun _ c1 hc1 => Chip.arbWrite_inside (hM.up rfl) hc1)

theorem execBamGap_inside {M : ℕ} (hM : Sub 402653186 M) {p1 : Fin 8} {p2 : State} {t : State} (h : execBamGap p1 p2 = .next t) : Chip.Inside p2.chip M t.chip :=
  State.act_inside h (fun _ c1 hc1 => .ite (Chip.sesData_inside (hM.up rfl) hc1) hc1)

theorem execBankConfirm_inside {M : ℕ} (hM : Sub 2097730 M) {p1 : State} {t : State} (h : execBankConfirm p1 = .next t) : Chip.Inside p1.chip M t.chip :=
  State.act_inside h (fun _ c1 hc1 => Chip.bankWrite_inside (hM.up rfl) hc1)

theorem execBankUpdate_inside {M : ℕ} (hM : Sub 2097730 M) {p1 : Word} {p2 : State} {t : State} (h : execBankUpdate p1 p2 = .next t) : Chip.Inside p2.chip M t.chip :=
  State.act_inside h (fun _ c1 hc1 => Chip.bankWrite_inside (hM.up rfl) hc1)

theorem execBcmStall_inside {M : ℕ} (hM : Sub 1708354 M) {p1 : Fin 4} {p2 : State} {t : State} (h : execBcmStall p1 p2 = .next t) : Chip.Inside p2.chip M t.chip := by
  refine State.act_inside h ?_
  intro z c1 hc1
  extract_lets +onlyGivenNames x2
  clear_value x2
  split <;> exact .ite (Chip.faultCl_inside (hM.up rfl) hc1) hc1

theorem execBoRec_inside {M : ℕ} (hM : Sub 134218194 M) {p1 : Fin 4} {p2 : State} {t : State} (h : execBoRec p1 p2 = .next t) : Chip.Inside p2.chip M t.chip :=
  State.act_inside h (fun _ c1 hc1 => Chip.rowWrite_inside (hM.up rfl) hc1 (fun v2 hv2 => .ite (Chip.modCan_inside (hM.up rfl) hv2) hv2))

theorem execBootLow_inside {M : ℕ} (hM : Sub 131138 M) {p1 : Fin 16} {p2 : State} {t : State} (h : execBootLow p1 p2 = .next t) : Chip.Inside p2.chip M t.chip := by
  refine State.act_inside h ?_
  intro z c1 hc1
  refine .ite ?_ hc1
  extract_lets +onlyGivenNames x2
  have hx2 : z.Inside M x2 := Chip.modSlice_inside (hM.up rfl) hc1
  clear_value x2
  extract_lets +onlyGivenNames x3
  have hx3 : z.Inside M x3 := Chip.record_inside (hM.up rfl) (Chip.put_inside (hM.up rfl) hx2)
  clear_value x3
  exact .ite hx3 (.ite (Chip.modSlice_inside (hM.up rfl) hx3) (Chip.refreshStart_inside (hM.up rfl) hx3))

theorem execBootSequence_inside {M : ℕ} (hM : Sub 2139095039 M) {p1 : BootOutcome} {p2 : State} {t : State} (h : execBootSequence p1 p2 = .next t) : Chip.Inside p2.chip M t.chip := .all hM

theorem execBootrecWriteEnd_inside {M : ℕ} (hM : Sub 2097734 M) {p1 : Bool} {p2 : State} {t : State} (h : execBootrecWriteEnd p1 p2 = .next t) : Chip.Inside p2.chip M t.chip :=
  State.act_inside h (fun _ c1 hc1 => .ite (Chip.bootEnd_inside (hM.up rfl) hc1) hc1)

theorem execBrownOut_inside {M : ℕ} (hM : Sub 2139095039 M) {p1 : Rail} {p2 : State} {t : State} (h : execBrownOut p1 p2 = .next t) : Chip.Inside p2.chip M t.chip := .all hM

theorem execBsCatchPulse_inside {M : ℕ} (hM : Sub 2756610 M) {p1 : Fin 4} {p2 : State} {t : State} (h : execBsCatchPulse p1 p2 = .next t) : Chip.Inside p2.chip M t.chip :=
  State.act_inside h (fun _ c1 hc1 => .ite (.each (.ite hc1 (Chip.pulseOn_inside (hM.up rfl) hc1)) (fun a2 t3 ht3 => .ite (Chip.commandOn_inside (hM.up rfl) ht3) ht3)) hc1)

theorem execBsRefresh_inside {M : ℕ} (hM : Sub 1708354 M) {p1 : Fin 16} {p2 : State} {t : State} (h : execBsRefresh p1 p2 = .next t) : Chip.Inside p2.chip M t.chip := by
  refine State.act_inside h ?_
  intro z c1 hc1
  extract_lets +onlyGivenNames x2
  clear_value x2
  extract_lets +onlyGivenNames x3
  have hx3 : z.Inside M x3 := .ite (Chip.rawEdge_inside (hM.up rfl) hc1) hc1
  clear_value x3
  extract_lets +onlyGivenNames x4
  exact .ite hx3 (.ite (Chip.bsNote_inside (hM.up rfl) (Chip.refreshStart_inside (hM.up rfl) hx3)) (.ite (Chip.bsNote_inside (hM.up rfl) (Chip.modSlice_inside (hM.up rfl) hx3)) hx3))

theorem execBusError_inside {M : ℕ} (hM : Sub 402653254 M) {p1 : Fin 4} {p2 : CanError} {p3 : State} {t : State} (h : execBusError p1 p2 p3 = .next t) : Chip.Inside p3.chip M t.chip :=
  State.act_inside h (fun _ c1 hc1 => Chip.canError_inside (hM.up rfl) hc1)

theorem execBusOffEnd_inside {M : ℕ} (hM : Sub 402653186 M) {p1 : Fin 4} {p2 : State} {t : State} (h : execBusOffEnd p1 p2 = .next t) : Chip.Inside p2.chip M t.chip := by
  refine State.act_inside h ?_
  intro z c1 hc1
  refine .ite ?_ hc1
  extract_lets +onlyGivenNames x2
  have hx2 : z.Inside M x2 := Chip.sets_inside (hM.up rfl) hc1
  clear_value x2
  exact Chip.claimPref_inside (hM.up rfl) (Chip.modCan_inside (hM.up rfl) hx2)

theorem execCanIntegrated_inside {M : ℕ} (hM : Sub 402653186 M) {p1 : Fin 4} {p2 : State} {t : State} (h : execCanIntegrated p1 p2 = .next t) : Chip.Inside p2.chip M t.chip :=
  State.act_inside h (fun _ c1 hc1 => .ite (Chip.porchLoad_inside (hM.up rfl) (Chip.modCan_inside (hM.up rfl) (Chip.put_inside (hM.up rfl) hc1))) hc1)

theorem execCanMode_inside {M : ℕ} (hM : Sub 402653654 M) {p1 : Fin 4} {p2 : Fin 4} {p3 : State} {t : State} (h : execCanMode p1 p2 p3 = .next t) : Chip.Inside p3.chip M t.chip :=
  State.act_inside h (fun _ c1 hc1 => Chip.rowWrite_inside (hM.up rfl) hc1 (fun v2 hv2 => Chip.canModeSet_inside (hM.up rfl) hv2))

theorem execCannotClaimSend_inside {M : ℕ} (hM : Sub 402653186 M) {p1 : Fin 4} {p2 : State} {t : State} (h : execCannotClaimSend p1 p2 = .next t) : Chip.Inside p2.chip M t.chip :=
  State.act_inside h (fun _ c1 hc1 => .ite (Chip.cannotSend_inside (hM.up rfl) (Chip.modPort_inside (hM.up rfl) hc1)) hc1)

theorem execCatchProbe_inside {M : ℕ} (hM : Sub 1773906 M) {p1 : Fin 4} {p2 : Word} {p3 : Word} {p4 : ProbeEnd} {p5 : State} {t : State} (h : execCatchProbe p1 p2 p3 p4 p5 = .next t) : Chip.Inside p5.chip M t.chip := by
  refine State.act_inside h ?_
  intro z c1 hc1
  refine .ite hc1 ?_
  refine .ite ?_ ?_
  · extract_lets +onlyGivenNames x2
    have hx2 : z.Inside M x2 := Chip.modCl_inside (hM.up rfl) hc1
    clear_value x2
    split
    · rename_i y3 y4 q5
      refine .ite ?_ (Chip.wdisFail_inside (hM.up rfl) hx2)
      extract_lets +onlyGivenNames x6
      have hx6 : z.Inside M x6 := Chip.modCl_inside (hM.up rfl) hx2
      clear_value x6
      exact .ite (Chip.wdisProbed_inside (hM.up rfl) hx6) hx6
  · extract_lets +onlyGivenNames x7
    have hx7 : z.Inside M x7 := Chip.bump_inside (hM.up rfl) (Chip.set_inside (hM.up rfl) hc1)
    clear_value x7
    extract_lets +onlyGivenNames x8
    have hx8 : z.Inside M x8 := Chip.modCl_inside (hM.up rfl) hx7
    clear_value x8
    split
    · rename_i y9 y10 q11
      extract_lets +onlyGivenNames x12
      clear_value x12
      refine .ite ?_ ?_
      · extract_lets +onlyGivenNames x13
        have hx13 : z.Inside M x13 := Chip.modCl_inside (hM.up rfl) hx8
        clear_value x13
        exact .ite (Chip.catchStandstill_inside (hM.up rfl) hx13) hx13
      · extract_lets +onlyGivenNames x14
        clear_value x14
        extract_lets +onlyGivenNames x15
        have hx15 : z.Inside M x15 := Chip.modCl_inside (hM.up rfl) hx8
        clear_value x15
        split
        · exact hx15
        · rename_i y18 q19
          split
          · exact Chip.larderBad_inside (hM.up rfl) hx15
          · extract_lets +onlyGivenNames x24
            clear_value x24
            extract_lets +onlyGivenNames x25
            clear_value x25
            extract_lets +onlyGivenNames x26
            clear_value x26
            exact Chip.catchLock_inside (hM.up rfl) (Chip.obsCaught_inside (hM.up rfl) hx15)

theorem execCatchTimeout_inside {M : ℕ} (hM : Sub 1708354 M) {p1 : Fin 4} {p2 : State} {t : State} (h : execCatchTimeout p1 p2 = .next t) : Chip.Inside p2.chip M t.chip := by
  refine State.act_inside h ?_
  intro z c1 hc1
  refine .ite hc1 ?_
  extract_lets +onlyGivenNames x2
  clear_value x2
  extract_lets +onlyGivenNames x3
  have hx3 : z.Inside M x3 := by
    unfold x3
    split
    · exact Chip.islRecord_inside (hM.up rfl) hc1
    · exact hc1
  clear_value x3
  exact Chip.noLock_inside (hM.up rfl) hx3

theorem execCellarReset_inside {M : ℕ} (hM : Sub 2139095039 M) {p1 : Bool} {p2 : State} {t : State} (h : execCellarReset p1 p2 = .next t) : Chip.Inside p2.chip M t.chip := .all hM

theorem execCellarTransfer_inside {M : ℕ} (hM : Sub 2139095039 M) {p1 : State} {t : State} (h : execCellarTransfer p1 = .next t) : Chip.Inside p1.chip M t.chip := .all hM

theorem execChanLoss_inside {M : ℕ} (hM : Sub 1708354 M) {p1 : Fin 12} {p2 : State} {t : State} (h : execChanLoss p1 p2 = .next t) : Chip.Inside p2.chip M t.chip := by
  refine State.act_inside h ?_
  intro z c1 hc1
  refine .ite hc1 ?_
  extract_lets +onlyGivenNames x2
  clear_value x2
  extract_lets +onlyGivenNames x3
  have hx3 : z.Inside M x3 := Chip.sets_inside (hM.up rfl) hc1
  clear_value x3
  exact .ite (Chip.islFall_inside (hM.up rfl) (Chip.islHold_inside (hM.up rfl) (Chip.islDetect_inside (hM.up rfl) hx3))) hx3

theorem execCheckedMessageRx_inside {M : ℕ} (hM : Sub 404468054 M) {p1 : Fin 4} {p2 : Byte} {p3 : Vector Byte 8} {p4 : State} {t : State} (h : execCheckedMessageRx p1 p2 p3 p4 = .next t) : Chip.Inside p4.chip M t.chip :=
  State.act_inside h (fun _ c1 hc1 => Chip.canRx_inside (hM.up rfl) hc1)

theorem execChopperTest_inside {M : ℕ} (hM : Sub 1179650 M) {p1 : State} {t : State} (h : execChopperTest p1 = .next t) : Chip.Inside p1.chip M t.chip :=
  State.act_inside h (fun _ c1 hc1 => Chip.chopTest_inside (hM.up rfl) hc1)

theorem execChopperVerifyEnd_inside {M : ℕ} (hM : Sub 1179714 M) {p1 : State} {t : State} (h : execChopperVerifyEnd p1 = .next t) : Chip.Inside p1.chip M t.chip := by
  refine State.act_inside h ?_
  intro z c1 hc1
  refine .ite hc1 ?_
  extract_lets +onlyGivenNames x2
  clear_value x2
  extract_lets +onlyGivenNames x3
  clear_value x3
  extract_lets +onlyGivenNames x4
  extract_lets +onlyGivenNames x5
  have hx5 : z.Inside M x5 := (Chip.Inside.mk_safe (hM.up rfl) hc1)
  clear_value x5
  extract_lets +onlyGivenNames x6
  have hx6 : z.Inside M x6 := .ite hx5 (Chip.chopFail_inside (hM.up rfl) hx5)
  clear_value x6
  refine .ite hx6 ?_
  extract_lets +onlyGivenNames x7
  have hx7 : z.Inside M x7 := Chip.sets_inside (hM.up rfl) hx6
  clear_value x7
  extract_lets +onlyGivenNames x8
  have hx8 : z.Inside M x8 := Chip.put_inside (hM.up rfl) hx7
  clear_value x8
  extract_lets +onlyGivenNames x9
  extract_lets +onlyGivenNames x10
  have hx10 : z.Inside M x10 := .ite (Chip.Inside.mk_safe (hM.up rfl) hx8) hx7
  clear_value x10
  extract_lets +onlyGivenNames x11
  clear_value x11
  exact .ite hx10 (Chip.chopper_inside (hM.up rfl) hx10)

theorem execClaimSettled_inside {M : ℕ} (hM : Sub 402653186 M) {p1 : Fin 4} {p2 : State} {t : State} (h : execClaimSettled p1 p2 = .next t) : Chip.Inside p2.chip M t.chip :=
  State.act_inside h (fun _ c1 hc1 => .ite (Chip.porchLoad_inside (hM.up rfl) (Chip.portSet_inside (hM.up rfl) hc1)) hc1)

theorem execCleClear_inside {M : ℕ} (hM : Sub 66002 M) {p1 : Fin 4} {p2 : State} {t : State} (h : execCleClear p1 p2 = .next t) : Chip.Inside p2.chip M t.chip :=
  State.act_inside h (fun _ c1 hc1 => Chip.rowWrite_inside (hM.up rfl) hc1 (fun v2 hv2 => Chip.cleClr_inside (hM.up rfl) hv2))

theorem execCleCrcUpdate_inside {M : ℕ} (hM : Sub 1773890 M) {p1 : Fin 4} {p2 : Option (Fin 1792 × Bool)} {p3 : State} {t : State} (h : execCleCrcUpdate p1 p2 p3 = .next t) : Chip.Inside p3.chip M t.chip := by
  refine State.act_inside h ?_
  intro z c1 hc1
  extract_lets +onlyGivenNames x2
  have hx2 : z.Inside M x2 := by
    unfold x2
    split
    · exact Chip.engineFault_inside (hM.up rfl) hc1
    · exact Chip.noteCl_inside (hM.up rfl) (Chip.put_inside (hM.up rfl) hc1)
    · exact hc1
  clear_value x2
  exact Chip.put_inside (hM.up rfl) (Chip.set_inside (hM.up rfl) hx2)

theorem execClearRequest_inside {M : ℕ} (hM : Sub 1814994 M) {p1 : Fin 4} {p2 : State} {t : State} (h : execClearRequest p1 p2 = .next t) : Chip.Inside p2.chip M t.chip :=
  State.act_inside h (fun _ c1 hc1 => Chip.rowWrite_inside (hM.up rfl) hc1 (fun v2 hv2 => Chip.request_inside (hM.up rfl) hv2))

theorem execClrTot_inside {M : ℕ} (hM : Sub 466 M) {p1 : Fin 2} {p2 : State} {t : State} (h : execClrTot p1 p2 = .next t) : Chip.Inside p2.chip M t.chip :=
  State.act_inside h (fun _ c1 hc1 => Chip.rowWrite_inside (hM.up rfl) hc1 (fun v2 hv2 => Chip.posClrTot_inside (hM.up rfl) hv2))

theorem execClrWeld_inside {M : ℕ} (hM : Sub 1048578 M) {p1 : State} {t : State} (h : execClrWeld p1 = .next t) : Chip.Inside p1.chip M t.chip :=
  State.act_inside h (fun _ c1 hc1 => Chip.applyContactors_inside (hM.up rfl) (Chip.put_inside (hM.up rfl) hc1))

theorem execCmdLost_inside {M : ℕ} (hM : Sub 268435522 M) {p1 : Fin 4} {p2 : State} {t : State} (h : execCmdLost p1 p2 = .next t) : Chip.Inside p2.chip M t.chip :=
  State.act_inside h (fun _ c1 hc1 => .ite (Chip.note_inside (hM.up rfl) (Chip.put_inside (hM.up rfl) (Chip.modPort_inside (hM.up rfl) hc1))) hc1)

theorem execCmpRelease_inside {M : ℕ} (hM : Sub 1782082 M) {p1 : Fin 16} {p2 : CmpInput} {p3 : State} {t : State} (h : execCmpRelease p1 p2 p3 = .next t) : Chip.Inside p3.chip M t.chip := by
  refine State.act_inside h ?_
  intro z c1 hc1
  extract_lets +onlyGivenNames x2
  refine .ite hc1 ?_
  extract_lets +onlyGivenNames x3
  have hx3 : z.Inside M x3 := Chip.cmpFreed_inside (hM.up rfl) hc1 (Chip.clrBitOf_inside (hM.up rfl) (Chip.refShown_inside (hM.up rfl) hc1))
  clear_value x3
  exact Chip.settleHolds_inside (hM.up rfl) (Chip.applyContactors_inside (hM.up rfl) (Chip.showVdc_inside (hM.up rfl) (Chip.showOv3_inside (hM.up rfl) hx3)))

theorem execCmpTrip_inside {M : ℕ} (hM : Sub 1716546 M) {p1 : Fin 16} {p2 : CmpInput} {p3 : State} {t : State} (h : execCmpTrip p1 p2 p3 = .next t) : Chip.Inside p3.chip M t.chip := by
  refine State.act_inside h ?_
  intro z c1 hc1
  extract_lets +onlyGivenNames x2
  extract_lets +onlyGivenNames x3
  refine .ite hc1 ?_
  extract_lets +onlyGivenNames x4
  have hx4 : z.Inside M x4 := Chip.refShown_inside (hM.up rfl) hc1
  clear_value x4
  extract_lets +onlyGivenNames x5
  clear_value x5
  extract_lets +onlyGivenNames x6
  have hx6 : z.Inside M x6 := Chip.setBitOf_inside (hM.up rfl) hx4
  clear_value x6
  extract_lets +onlyGivenNames x7
  have hx7 : z.Inside M x7 := .ite hx6 (Chip.record_inside (hM.up rfl) (Chip.setBitOf_inside (hM.up rfl) hx6))
  clear_value x7
  exact Chip.cmpRoleActs_inside (hM.up rfl) hx7

theorem execCoefWrite_inside {M : ℕ} (hM : Sub 466 M) {p1 : Fin 4} {p2 : CoefReg} {p3 : Word} {p4 : State} {t : State} (h : execCoefWrite p1 p2 p3 p4 = .next t) : Chip.Inside p4.chip M t.chip :=
  State.act_inside h (fun _ c1 hc1 => Chip.rowWrite_inside (hM.up rfl) hc1 (fun v2 hv2 => Chip.coefSet_inside (hM.up rfl) hv2))

theorem execCommandedAddress_inside {M : ℕ} (hM : Sub 402653250 M) {p1 : Fin 4} {p2 : BitVec 64} {p3 : Byte} {p4 : State} {t : State} (h : execCommandedAddress p1 p2 p3 p4 = .next t) : Chip.Inside p4.chip M t.chip :=
  State.act_inside h (fun _ c1 hc1 => Chip.commanded_inside (hM.up rfl) hc1)

theorem execConfigReadback_inside {M : ℕ} (hM : Sub 125549054 M) {p1 : Fin 2} {p2 : Option (Fin 4096)} {p3 : State} {t : State} (h : execConfigReadback p1 p2 p3 = .next t) : Chip.Inside p3.chip M t.chip := by
  refine State.act_inside h ?_
  intro z c1 hc1
  split
  · exact .ite hc1 (Chip.halt_inside (hM.up rfl) hc1)
  · exact hc1

theorem execCopyFrameRx_inside {M : ℕ} (hM : Sub 1073741902 M) {p1 : Fin 65536} {p2 : List Byte} {p3 : Bool} {p4 : Bool} {p5 : State} {t : State} (h : execCopyFrameRx p1 p2 p3 p4 p5 = .next t) : Chip.Inside p5.chip M t.chip :=
  State.actIf_inside h (fun _ c1 hc1 => Chip.copyRx_inside (hM.up rfl) hc1)

theorem execCoreClkFail_inside {M : ℕ} (hM : Sub 125549054 M) {p1 : Fin 2} {p2 : State} {t : State} (h : execCoreClkFail p1 p2 = .next t) : Chip.Inside p2.chip M t.chip :=
  State.act_inside h (fun _ c1 hc1 => .ite hc1 (Chip.halt_inside (hM.up rfl) (Chip.monitor_inside (hM.up rfl) hc1)))

theorem execCoreLoad_inside {M : ℕ} (hM : Sub 2139095039 M) {p1 : Fin 4} {p2 : Fin 3} {p3 : Bool} {p4 : Bool} {p5 : Fin 32} {p6 : Word} {p7 : Fin 3} {p8 : State} {t : State} (h : execCoreLoad p1 p2 p3 p4 p5 p6 p7 p8 = .next t) : Chip.Inside p8.chip M t.chip := .all hM

theorem execCoreStore_inside {M : ℕ} (hM : Sub 4194432 M) {p1 : Fin 4} {p2 : Fin 3} {p3 : Word} {p4 : Word} {p5 : State} {t : State} (h : execCoreStore p1 p2 p3 p4 p5 = .next t) : Chip.Inside p5.chip M t.chip :=
  State.act_inside h (fun _ c1 hc1 => Chip.coreStore_inside (hM.up rfl) hc1)

theorem execCoreWdt_inside {M : ℕ} (hM : Sub 125549054 M) {p1 : Fin 4} {p2 : State} {t : State} (h : execCoreWdt p1 p2 = .next t) : Chip.Inside p2.chip M t.chip :=
  State.act_inside h (fun _ c1 hc1 => .ite (Chip.halt_inside (hM.up rfl) hc1) hc1)

theorem execCqHeadWrite_inside {M : ℕ} (hM : Sub 2 M) {p1 : Fin 8} {p2 : Word} {p3 : State} {t : State} (h : execCqHeadWrite p1 p2 p3 = .next t) : Chip.Inside p3.chip M t.chip :=
  State.act_inside h (fun _ c1 hc1 => Chip.cqHeadWrite_inside (hM.up rfl) hc1)

theorem execCqModTimer_inside {M : ℕ} (hM : Sub 2 M) {p1 : Fin 8} {p2 : State} {t : State} (h : execCqModTimer p1 p2 = .next t) : Chip.Inside p2.chip M t.chip := by
  refine State.act_inside h ?_
  intro z c1 hc1
  extract_lets +onlyGivenNames x2
  clear_value x2
  extract_lets +onlyGivenNames x3
  clear_value x3
  exact .ite (Chip.hwIrq_inside (hM.up rfl) (Chip.sets_inside (hM.up rfl) hc1)) hc1

theorem execCtrCommand_inside {M : ℕ} (hM : Sub 1048578 M) {p1 : Word} {p2 : State} {t : State} (h : execCtrCommand p1 p2 = .next t) : Chip.Inside p2.chip M t.chip :=
  State.act_inside h (fun _ c1 hc1 => Chip.ctrWrite_inside (hM.up rfl) hc1)

theorem execCtrFeedbackChange_inside {M : ℕ} (hM : Sub 1814866 M) {p1 : Bool} {p2 : Bool} {p3 : State} {t : State} (h : execCtrFeedbackChange p1 p2 p3 = .next t) : Chip.Inside p3.chip M t.chip := by
  refine State.actRaw_inside h ?_
  intro z c1 hc1
  extract_lets +onlyGivenNames x2
  extract_lets +onlyGivenNames x3
  have hx3 : z.Inside M x3 := (Chip.Inside.mk_safe (hM.up rfl) hc1)
  clear_value x3
  exact .ite hx3 (Chip.ctrPin_inside (hM.up rfl) hx3)

theorem execCtrFeedbackTimeout_inside {M : ℕ} (hM : Sub 1048642 M) {p1 : Bool} {p2 : State} {t : State} (h : execCtrFeedbackTimeout p1 p2 = .next t) : Chip.Inside p2.chip M t.chip := by
  refine State.act_inside h ?_
  intro z c1 hc1
  extract_lets +onlyGivenNames x2
  extract_lets +onlyGivenNames x3
  extract_lets +onlyGivenNames x4
  extract_lets +onlyGivenNames x5
  refine .ite hc1 ?_
  extract_lets +onlyGivenNames x6
  have hx6 : z.Inside M x6 := Chip.put_inside (hM.up rfl) hc1
  clear_value x6
  exact .ite (Chip.ctrNote_inside (hM.up rfl) (Chip.put_inside (hM.up rfl) (Chip.put_inside (hM.up rfl) (Chip.ctrMove_inside (hM.up rfl) hx6)))) (.ite (Chip.ctrNote_inside (hM.up rfl) (Chip.put_inside (hM.up rfl) hx6)) hx6)

theorem execCtrForce_inside {M : ℕ} (hM : Sub 1048578 M) {p1 : Word} {p2 : State} {t : State} (h : execCtrForce p1 p2 = .next t) : Chip.Inside p2.chip M t.chip :=
  State.act_inside h (fun _ c1 hc1 => Chip.ctrWrite_inside (hM.up rfl) hc1)

theorem execCtrOv3Open_inside {M : ℕ} (hM : Sub 1048642 M) {p1 : State} {t : State} (h : execCtrOv3Open p1 = .next t) : Chip.Inside p1.chip M t.chip := by
  refine State.act_inside h ?_
  intro z c1 hc1
  refine .ite ?_ hc1
  extract_lets +onlyGivenNames x2
  have hx2 : z.Inside M x2 := Chip.ctrDropOut_inside (hM.up rfl) (Chip.ctrDropOut_inside (hM.up rfl) hc1)
  clear_value x2
  extract_lets +onlyGivenNames x3
  extract_lets +onlyGivenNames x4
  have hx4 : z.Inside M x4 := (Chip.Inside.mk_safe (hM.up rfl) hx2)
  clear_value x4
  exact Chip.note_inside (hM.up rfl) (Chip.put_inside (hM.up rfl) (Chip.put_inside (hM.up rfl) hx4))

theorem execCycleStart_inside {M : ℕ} (hM : Sub 2138814974 M) {p1 : Fin 3} {p2 : Fin 3} {p3 : State} {t : State} (h : execCycleStart p1 p2 p3 = .next t) : Chip.Inside p3.chip M t.chip :=
  State.act_inside h (fun _ c1 hc1 => .ite (Chip.cycleStart_inside (hM.up rfl) hc1) hc1)

theorem execCyclicFrameRx_inside {M : ℕ} (hM : Sub 939524174 M) {p1 : Bool} {p2 : CyclicFrame} {p3 : Bool} {p4 : State} {t : State} (h : execCyclicFrameRx p1 p2 p3 p4 = .next t) : Chip.Inside p4.chip M t.chip :=
  State.act_inside h (fun _ c1 hc1 => Chip.cyclicRx_inside (hM.up rfl) hc1)

theorem execDeadTimeEnd_inside {M : ℕ} (hM : Sub 1708354 M) {p1 : Fin 16} {p2 : DeadTime} {p3 : State} {t : State} (h : execDeadTimeEnd p1 p2 p3 = .next t) : Chip.Inside p3.chip M t.chip := by
  refine State.act_inside h ?_
  intro z c1 hc1
  refine Chip.checkSlice_inside (hM.up rfl) (Chip.outputs_inside (hM.up rfl) ?_)
  split
  · exact .ite (Chip.risesH_inside (hM.up rfl) hc1) hc1
  · exact .ite (Chip.risesL_inside (hM.up rfl) hc1) hc1
  all_goals exact .ite (Chip.modSlice_inside (hM.up rfl) (Chip.accrue_inside (hM.up rfl) hc1)) hc1

theorem execDebugReset_inside {M : ℕ} (hM : Sub 2139095039 M) {p1 : DebugTarget} {p2 : State} {t : State} (h : execDebugReset p1 p2 = .next t) : Chip.Inside p2.chip M t.chip := .all hM

theorem execDecelTimeout_inside {M : ℕ} (hM : Sub 1708354 M) {p1 : Fin 4} {p2 : State} {t : State} (h : execDecelTimeout p1 p2 = .next t) : Chip.Inside p2.chip M t.chip :=
  State.act_inside h (fun _ c1 hc1 => .ite (Chip.faultCl_inside (hM.up rfl) hc1) hc1)

theorem execDelayCal_inside {M : ℕ} (hM : Sub 131138 M) {p1 : Fin 65536} {p2 : Bool} {p3 : State} {t : State} (h : execDelayCal p1 p2 p3 = .next t) : Chip.Inside p3.chip M t.chip := by
  refine State.act_inside h ?_
  intro z c1 hc1
  refine .ite hc1 ?_
  refine .ite ?_ ?_
  · extract_lets +onlyGivenNames x2
    have hx2 : z.Inside M x2 := Chip.sets_inside (hM.up rfl) (Chip.count_inside (hM.up rfl) hc1)
    clear_value x2
    exact .each hx2 (fun a3 t4 ht4 => .ite (Chip.modSlice_inside (hM.up rfl) ht4) ht4)
  · extract_lets +onlyGivenNames x5
    have hx5 : z.Inside M x5 := Chip.bump_inside (hM.up rfl) hc1
    clear_value x5
    exact .ite (Chip.note_inside (hM.up rfl) (Chip.sets_inside (hM.up rfl) hx5)) hx5

theorem execDesatBlankingEnd_inside {M : ℕ} (hM : Sub 524288 M) {p1 : Fin 12} {p2 : State} {t : State} (h : execDesatBlankingEnd p1 p2 = .next t) : Chip.Inside p2.chip M t.chip := by
  refine State.act_inside h ?_
  intro z c1 hc1
  extract_lets +onlyGivenNames x2
  exact .ite (Chip.modIsl_inside (hM.up rfl) hc1) hc1

theorem execDesat_inside {M : ℕ} (hM : Sub 524354 M) {p1 : Fin 12} {p2 : Fin 65536} {p3 : State} {t : State} (h : execDesat p1 p2 p3 = .next t) : Chip.Inside p3.chip M t.chip := by
  refine State.act_inside h ?_
  intro z c1 hc1
  extract_lets +onlyGivenNames x2
  refine .ite ?_ hc1
  extract_lets +onlyGivenNames x3
  have hx3 : z.Inside M x3 := Chip.islDetect_inside (hM.up rfl) (Chip.islTo_inside (hM.up rfl) (Chip.faultOff_inside (hM.up rfl) hc1))
  clear_value x3
  exact Chip.modIsl_inside (hM.up rfl) hx3

theorem execDescriptorComplete_inside {M : ℕ} (hM : Sub 67108950 M) {p1 : Fin 8} {p2 : State} {t : State} (h : execDescriptorComplete p1 p2 = .next t) : Chip.Inside p2.chip M t.chip :=
  State.act_inside h (fun _ c1 hc1 => Chip.descComplete_inside (hM.up rfl) hc1)

theorem execDescriptorFetch_inside {M : ℕ} (hM : Sub 67108866 M) {p1 : State} {t : State} (h : execDescriptorFetch p1 = .next t) : Chip.Inside p1.chip M t.chip :=
  State.act_inside h (fun _ c1 hc1 => Chip.fetchEntry_inside (hM.up rfl) hc1)

theorem execDieSensorSample_inside {M : ℕ} (hM : Sub 3805506 M) {p1 : List Word} {p2 : State} {t : State} (h : execDieSensorSample p1 p2 = .next t) : Chip.Inside p2.chip M t.chip := by
  refine State.actIf_inside h ?_
  intro z c1 hc1
  refine .ite hc1 ?_
  extract_lets +onlyGivenNames x2
  have hx2 : z.Inside M x2 := Chip.modChm_inside (hM.up rfl) hc1
  clear_value x2
  extract_lets +onlyGivenNames x3
  extract_lets +onlyGivenNames x4
  extract_lets +onlyGivenNames x5
  have hx5 : z.Inside M x5 := .each (Chip.modChm_inside (hM.up rfl) hx2) (fun a6 t7 ht7 => Chip.set_inside (hM.up rfl) ht7)
  clear_value x5
  extract_lets +onlyGivenNames x8
  have hx8 : z.Inside M x8 := .each hx5 (fun a9 t10 ht10 => .ite (Chip.record_inside (hM.up rfl) (Chip.put_inside (hM.up rfl) (Chip.setBitOf_inside (hM.up rfl) ht10))) ht10)
  clear_value x8
  extract_lets +onlyGivenNames x11
  extract_lets +onlyGivenNames x12
  have hx12 : z.Inside M x12 := Chip.set_inside (hM.up rfl) hx8
  clear_value x12
  extract_lets +onlyGivenNames x13
  have hx13 : z.Inside M x13 := .each hx12 (fun a14 t15 ht15 => .ite (Chip.record_inside (hM.up rfl) (Chip.put_inside (hM.up rfl) (Chip.modChm_inside (hM.up rfl) ht15))) ht15)
  clear_value x13
  extract_lets +onlyGivenNames x16
  have hx16 : z.Inside M x16 := Chip.showEstimates_inside (hM.up rfl) hx13
  clear_value x16
  split <;> exact Chip.sets_inside (hM.up rfl) hx16

theorem execDisFail_inside {M : ℕ} (hM : Sub 1708354 M) {p1 : State} {t : State} (h : execDisFail p1 = .next t) : Chip.Inside p1.chip M t.chip :=
  State.act_inside h (fun _ c1 hc1 => .ite (Chip.faultEvery_inside (hM.up rfl) (Chip.put_inside (hM.up rfl) (Chip.disEnd_inside (hM.up rfl) hc1))) hc1)

theorem execDisHalfTime_inside {M : ℕ} (hM : Sub 1814866 M) {p1 : State} {t : State} (h : execDisHalfTime p1 = .next t) : Chip.Inside p1.chip M t.chip :=
  State.act_inside h (fun _ c1 hc1 => .ite (Chip.disResistor_inside (hM.up rfl) (Chip.request_inside (hM.up rfl) hc1)) hc1)

theorem execDischargeAbort_inside {M : ℕ} (hM : Sub 1708354 M) {p1 : State} {t : State} (h : execDischargeAbort p1 = .next t) : Chip.Inside p1.chip M t.chip :=
  State.act_inside h (fun _ c1 hc1 => Chip.disAbort_inside (hM.up rfl) hc1)

theorem execDischargeRequest_inside {M : ℕ} (hM : Sub 1814994 M) {p1 : Fin 4} {p2 : State} {t : State} (h : execDischargeRequest p1 p2 = .next t) : Chip.Inside p2.chip M t.chip :=
  State.act_inside h (fun _ c1 hc1 => Chip.rowWrite_inside (hM.up rfl) hc1 (fun v2 hv2 => Chip.request_inside (hM.up rfl) hv2))

theorem execDischargeStart_inside {M : ℕ} (hM : Sub 1814866 M) {p1 : State} {t : State} (h : execDischargeStart p1 = .next t) : Chip.Inside p1.chip M t.chip :=
  State.act_inside h (fun _ c1 hc1 => Chip.disStartNow_inside (hM.up rfl) hc1)

theorem execDuplexCopy_inside {M : ℕ} (hM : Sub 69634 M) {p1 : Fin 4} {p2 : State} {t : State} (h : execDuplexCopy p1 p2 = .next t) : Chip.Inside p2.chip M t.chip :=
  State.act_inside h (fun _ c1 hc1 => .ite (Chip.modCl_inside (hM.up rfl) (Chip.copyEngine_inside (hM.up rfl) hc1)) hc1)

theorem execDuplexRequest_inside {M : ℕ} (hM : Sub 1814994 M) {p1 : Fin 4} {p2 : State} {t : State} (h : execDuplexRequest p1 p2 = .next t) : Chip.Inside p2.chip M t.chip :=
  State.act_inside h (fun _ c1 hc1 => Chip.rowWrite_inside (hM.up rfl) hc1 (fun v2 hv2 => Chip.request_inside (hM.up rfl) hv2))

theorem execEccInject_inside {M : ℕ} (hM : Sub 2 M) {p1 : Word} {p2 : State} {t : State} (h : execEccInject p1 p2 = .next t) : Chip.Inside p2.chip M t.chip :=
  State.act_inside h (fun _ c1 hc1 => Chip.injWrite_inside (hM.up rfl) hc1)

theorem execEdgeCommand_inside {M : ℕ} (hM : Sub 2621442 M) {p1 : Fin 12} {p2 : Bool} {p3 : Bool} {p4 : State} {t : State} (h : execEdgeCommand p1 p2 p3 p4 = .next t) : Chip.Inside p4.chip M t.chip := by
  refine State.act_inside h ?_
  intro z c1 hc1
  extract_lets +onlyGivenNames x2
  refine .ite hc1 ?_
  extract_lets +onlyGivenNames x3
  have hx3 : z.Inside M x3 := .ite (Chip.crcError_inside (hM.up rfl) hc1) hc1
  clear_value x3
  extract_lets +onlyGivenNames x4
  clear_value x4
  extract_lets +onlyGivenNames x5
  have hx5 : z.Inside M x5 := .ite (.ite (Chip.commandOn_inside (hM.up rfl) hx3) hx3) (Chip.commandOff_inside (hM.up rfl) hx3)
  clear_value x5
  exact .ite (Chip.modIsl_inside (hM.up rfl) hx5) hx5

theorem execEnter8d_inside {M : ℕ} (hM : Sub 67108930 M) {p1 : Byte} {p2 : State} {t : State} (h : execEnter8d p1 p2 = .next t) : Chip.Inside p2.chip M t.chip := by
  refine State.act_inside h ?_
  intro z c1 hc1
  refine .ite (Chip.portProto_inside (hM.up rfl) hc1) ?_
  extract_lets +onlyGivenNames x2
  clear_value x2
  exact Chip.put_inside (hM.up rfl) (Chip.modHw_inside (hM.up rfl) hc1)

theorem execErase_inside {M : ℕ} (hM : Sub 69206110 M) {p1 : Fin 8} {p2 : Bool} {p3 : State} {t : State} (h : execErase p1 p2 p3 = .next t) : Chip.Inside p3.chip M t.chip :=
  State.act_inside h (fun _ c1 hc1 => Chip.eraseItem_inside (hM.up rfl) hc1)

theorem execFabStale_inside {M : ℕ} (hM : Sub 32834 M) {p1 : Fin 2} {p2 : State} {t : State} (h : execFabStale p1 p2 = .next t) : Chip.Inside p2.chip M t.chip :=
  State.act_inside h (fun _ c1 hc1 => Chip.sourceTimeout_inside (hM.up rfl) hc1)

theorem execFabStrobe_inside {M : ℕ} (hM : Sub 32770 M) {p1 : Fin 2} {p2 : Fin 65536} {p3 : State} {t : State} (h : execFabStrobe p1 p2 p3 = .next t) : Chip.Inside p3.chip M t.chip := by
  refine State.act_inside h ?_
  intro z c1 hc1
  refine .ite hc1 ?_
  extract_lets +onlyGivenNames x2
  exact Chip.sensorAngle_inside (hM.up rfl) (Chip.sets_inside (hM.up rfl) hc1)

theorem execFenceInstruction_inside {M : ℕ} (hM : Sub 2139095039 M) {p1 : Fin 4} {p2 : FenceSet} {p3 : State} {t : State} (h : execFenceInstruction p1 p2 p3 = .next t) : Chip.Inside p3.chip M t.chip := .all hM

theorem execFenceI_inside {M : ℕ} (hM : Sub 2139095039 M) {p1 : Fin 4} {p2 : State} {t : State} (h : execFenceI p1 p2 = .next t) : Chip.Inside p2.chip M t.chip := .all hM

theorem execFence_inside {M : ℕ} (hM : Sub 2139095039 M) {p1 : State} {t : State} (h : execFence p1 = .next t) : Chip.Inside p1.chip M t.chip := .all hM

theorem execFetch_inside {M : ℕ} (hM : Sub 125549054 M) {p1 : Fin 8} {p2 : Fin 64} {p3 : Fin 3} {p4 : State} {t : State} (h : execFetch p1 p2 p3 p4 = .next t) : Chip.Inside p4.chip M t.chip :=
  State.act_inside h (fun _ c1 hc1 => Chip.fetchItem_inside (hM.up rfl) hc1)

theorem execFlagRelease_inside {M : ℕ} (hM : Sub 2139095039 M) {p1 : Requester} {p2 : Fin 1024} {p3 : Word} {p4 : State} {t : State} (h : execFlagRelease p1 p2 p3 p4 = .next t) : Chip.Inside p4.chip M t.chip := .all hM

theorem execFloorWrite_inside {M : ℕ} (hM : Sub 1708498 M) {p1 : Fin 16} {p2 : Word} {p3 : State} {t : State} (h : execFloorWrite p1 p2 p3 = .next t) : Chip.Inside p3.chip M t.chip :=
  State.act_inside h (fun _ c1 hc1 => Chip.rowWrite_inside (hM.up rfl) hc1 (fun v2 hv2 => Chip.floorSet_inside (hM.up rfl) hv2))

theorem execFltNAssert_inside {M : ℕ} (hM : Sub 1970498 M) {p1 : State} {t : State} (h : execFltNAssert p1 = .next t) : Chip.Inside p1.chip M t.chip := by
  refine State.actRaw_inside h ?_
  intro z c1 hc1
  extract_lets +onlyGivenNames x2
  extract_lets +onlyGivenNames x3
  have hx3 : z.Inside M x3 := (Chip.Inside.mk_pwmG (hM.up rfl) hc1)
  clear_value x3
  exact .ite hx3 (Chip.fltDemand_inside (hM.up rfl) hx3)

theorem execFltNRelease_inside {M : ℕ} (hM : Sub 397378 M) {p1 : State} {t : State} (h : execFltNRelease p1 = .next t) : Chip.Inside p1.chip M t.chip := by
  refine State.actRaw_inside h ?_
  intro z c1 hc1
  extract_lets +onlyGivenNames x2
  extract_lets +onlyGivenNames x3
  have hx3 : z.Inside M x3 := (Chip.Inside.mk_pwmG (hM.up rfl) hc1)
  clear_value x3
  refine .ite ?_ hx3
  extract_lets +onlyGivenNames x4
  have hx4 : z.Inside M x4 := Chip.sets_inside (hM.up rfl) hx3
  clear_value x4
  exact Chip.refreshHolds_inside (hM.up rfl) (Chip.Inside.mk_pwmG (hM.up rfl) hx4)

theorem execFollowErr_inside {M : ℕ} (hM : Sub 1773890 M) {p1 : Fin 4} {p2 : State} {t : State} (h : execFollowErr p1 p2 = .next t) : Chip.Inside p2.chip M t.chip := by
  refine State.act_inside h ?_
  intro z c1 hc1
  extract_lets +onlyGivenNames x2
  clear_value x2
  extract_lets +onlyGivenNames x3
  clear_value x3
  exact .ite (Chip.faultCl_inside (hM.up rfl) (Chip.put_inside (hM.up rfl) (Chip.feZero_inside (hM.up rfl) hc1))) hc1

theorem execForceWrite_inside {M : ℕ} (hM : Sub 466 M) {p1 : Fin 16} {p2 : Word} {p3 : State} {t : State} (h : execForceWrite p1 p2 p3 = .next t) : Chip.Inside p3.chip M t.chip :=
  State.act_inside h (fun _ c1 hc1 => Chip.rowWrite_inside (hM.up rfl) hc1 (fun v2 hv2 => Chip.genericWrite_inside (hM.up rfl) hv2))

theorem execFrameReceive_inside {M : ℕ} (hM : Sub 404468054 M) {p1 : Fin 4} {p2 : CanFrame} {p3 : Fin 1048576} {p4 : State} {t : State} (h : execFrameReceive p1 p2 p3 p4 = .next t) : Chip.Inside p4.chip M t.chip :=
  State.actIf_inside h (fun _ c1 hc1 => Chip.canRx_inside (hM.up rfl) hc1)

theorem execFullSelftestEnd_inside {M : ℕ} (hM : Sub 2139095039 M) {p1 : Fin 2} {p2 : SlotOutcome} {p3 : TestOutcome} {p4 : State} {t : State} (h : execFullSelftestEnd p1 p2 p3 p4 = .next t) : Chip.Inside p4.chip M t.chip := .all hM

theorem execFullSelftest_inside {M : ℕ} (hM : Sub 125549566 M) {p1 : Fin 2} {p2 : State} {t : State} (h : execFullSelftest p1 p2 = .next t) : Chip.Inside p2.chip M t.chip :=
  State.act_inside h (fun _ c1 hc1 => Chip.fullStart_inside (hM.up rfl) hc1)

theorem execFuseRepairEnd_inside {M : ℕ} (hM : Sub 2097750 M) {p1 : List Bool} {p2 : State} {t : State} (h : execFuseRepairEnd p1 p2 = .next t) : Chip.Inside p2.chip M t.chip := by
  refine State.act_inside h ?_
  intro z c1 hc1
  refine .ite hc1 ?_
  extract_lets +onlyGivenNames x2
  extract_lets +onlyGivenNames x3
  clear_value x3
  extract_lets +onlyGivenNames x4
  have hx4 : z.Inside M x4 := Chip.modCfg_inside (hM.up rfl) hc1
  clear_value x4
  extract_lets +onlyGivenNames x5
  have hx5 : z.Inside M x5 := Chip.repairsSubmit_inside (hM.up rfl) (Chip.modFuses_inside (hM.up rfl) hx4)
  clear_value x5
  exact Chip.showSt_inside (hM.up rfl) (Chip.sets_inside (hM.up rfl) hx5)

theorem execFuseRepair_inside {M : ℕ} (hM : Sub 82 M) {p1 : State} {t : State} (h : execFuseRepair p1 = .next t) : Chip.Inside p1.chip M t.chip :=
  State.act_inside h (fun _ c1 hc1 => Chip.repairStart_inside (hM.up rfl) hc1)

theorem execGateStateReport_inside {M : ℕ} (hM : Sub 524290 M) {p1 : ChanFrame} {p2 : Bool} {p3 : State} {t : State} (h : execGateStateReport p1 p2 p3 = .next t) : Chip.Inside p3.chip M t.chip := by
  refine State.act_inside h ?_
  intro z c1 hc1
  extract_lets +onlyGivenNames x2
  refine .ite hc1 ?_
  refine .ite (Chip.crcError_inside (hM.up rfl) hc1) ?_
  extract_lets +onlyGivenNames x3
  have hx3 : z.Inside M x3 := .ite (Chip.modIsl_inside (hM.up rfl) hc1) hc1
  clear_value x3
  extract_lets +onlyGivenNames x4
  have hx4 : z.Inside M x4 := Chip.put_inside (hM.up rfl) hx3
  clear_value x4
  exact .ite (Chip.abortLeak_inside (hM.up rfl) hx4) hx4

theorem execGateTmo_inside {M : ℕ} (hM : Sub 524354 M) {p1 : Fin 12} {p2 : State} {t : State} (h : execGateTmo p1 p2 = .next t) : Chip.Inside p2.chip M t.chip := by
  refine State.act_inside h ?_
  intro z c1 hc1
  extract_lets +onlyGivenNames x2
  refine .ite ?_ hc1
  extract_lets +onlyGivenNames x3
  clear_value x3
  extract_lets +onlyGivenNames x4
  have hx4 : z.Inside M x4 := Chip.islDetect_inside (hM.up rfl) (Chip.islTo_inside (hM.up rfl) (Chip.faultOff_inside (hM.up rfl) hc1))
  clear_value x4
  exact Chip.modIsl_inside (hM.up rfl) hx4

theorem execGpioClr_inside {M : ℕ} (hM : Sub 594 M) {p1 : Word} {p2 : State} {t : State} (h : execGpioClr p1 p2 = .next t) : Chip.Inside p2.chip M t.chip :=
  State.act_inside h (fun _ c1 hc1 => Chip.gpioWrite_inside (hM.up rfl) hc1)

theorem execGpioEdge_inside {M : ℕ} (hM : Sub 514 M) {p1 : Fin 32} {p2 : Bool} {p3 : State} {t : State} (h : execGpioEdge p1 p2 p3 = .next t) : Chip.Inside p3.chip M t.chip := by
  refine State.actRaw_inside h ?_
  intro z c1 hc1
  extract_lets +onlyGivenNames x2
  clear_value x2
  refine .ite hc1 ?_
  extract_lets +onlyGivenNames x3
  have hx3 : z.Inside M x3 := Chip.modCfg_inside (hM.up rfl) hc1
  clear_value x3
  extract_lets +onlyGivenNames x4
  clear_value x4
  exact .ite (Chip.setBitOf_inside (hM.up rfl) hx3) hx3

theorem execGpioSet_inside {M : ℕ} (hM : Sub 594 M) {p1 : Word} {p2 : State} {t : State} (h : execGpioSet p1 p2 = .next t) : Chip.Inside p2.chip M t.chip :=
  State.act_inside h (fun _ c1 hc1 => Chip.gpioWrite_inside (hM.up rfl) hc1)

theorem execHallChange_inside {M : ℕ} (hM : Sub 1741122 M) {p1 : Fin 2} {p2 : Fin 8} {p3 : State} {t : State} (h : execHallChange p1 p2 p3 = .next t) : Chip.Inside p3.chip M t.chip := by
  refine State.act_inside h ?_
  intro z c1 hc1
  refine .ite hc1 ?_
  extract_lets +onlyGivenNames x2
  have hx2 : z.Inside M x2 := Chip.posEvent_inside (hM.up rfl) hc1 (fun v3 hv3 => Chip.hallDeliver_inside (hM.up rfl) hv3)
  clear_value x2
  split
  · exact hx2
  · exact .ite hx2 (.ite (.ite (Chip.bcmStart_inside (hM.up rfl) hx2) hx2) (Chip.faultCl_inside (hM.up rfl) (Chip.put_inside (hM.up rfl) hx2)))

theorem execHaltRequest_inside {M : ℕ} (hM : Sub 1814994 M) {p1 : Fin 4} {p2 : State} {t : State} (h : execHaltRequest p1 p2 = .next t) : Chip.Inside p2.chip M t.chip :=
  State.act_inside h (fun _ c1 hc1 => Chip.rowWrite_inside (hM.up rfl) hc1 (fun v2 hv2 => Chip.request_inside (hM.up rfl) hv2))

theorem execHandshakeStepEnd_inside {M : ℕ} (hM : Sub 1773890 M) {p1 : Fin 12} {p2 : Bool} {p3 : Fin 65536} {p4 : State} {t : State} (h : execHandshakeStepEnd p1 p2 p3 p4 = .next t) : Chip.Inside p4.chip M t.chip := by
  refine State.act_inside h ?_
  intro z c1 hc1
  extract_lets +onlyGivenNames x2
  refine .ite hc1 ?_
  refine .ite (Chip.handshakeFail_inside (hM.up rfl) hc1) ?_
  extract_lets +onlyGivenNames x3
  clear_value x3
  extract_lets +onlyGivenNames x4
  have hx4 : z.Inside M x4 := Chip.modIsl_inside (hM.up rfl) hc1
  clear_value x4
  exact .ite (Chip.put_inside (hM.up rfl) hx4) (.ite (Chip.mirrorsIn_inside (hM.up rfl) hx4) (.ite (Chip.stepFour_inside (hM.up rfl) hx4) (.ite hx4 (Chip.handshakeDone_inside (hM.up rfl) hx4))))

theorem execHeldWriteStart_inside {M : ℕ} (hM : Sub 2097686 M) {p1 : Bool} {p2 : State} {t : State} (h : execHeldWriteStart p1 p2 = .next t) : Chip.Inside p2.chip M t.chip := by
  refine State.act_inside h ?_
  intro z c1 hc1
  split
  · exact hc1
  · rename_i y4 q5
    refine .ite hc1 ?_
    extract_lets +onlyGivenNames x6
    exact Chip.writeStarted_inside (hM.up rfl) (Chip.showWrites_inside (hM.up rfl) (Chip.modChm_inside (hM.up rfl) hc1))

theorem execHoldClr_inside {M : ℕ} (hM : Sub 262146 M) {p1 : Word} {p2 : State} {t : State} (h : execHoldClr p1 p2 = .next t) : Chip.Inside p2.chip M t.chip := by
  refine State.act_inside h ?_
  intro z c1 hc1
  extract_lets +onlyGivenNames x2
  clear_value x2
  exact Chip.set_inside (hM.up rfl) (Chip.keepHold_inside (hM.up rfl) hc1)

theorem execHoldSet_inside {M : ℕ} (hM : Sub 262146 M) {p1 : Word} {p2 : State} {t : State} (h : execHoldSet p1 p2 = .next t) : Chip.Inside p2.chip M t.chip :=
  State.act_inside h (fun _ c1 hc1 => Chip.set_inside (hM.up rfl) (Chip.keepHold_inside (hM.up rfl) hc1))

theorem execHostSleepAssert_inside {M : ℕ} (hM : Sub 67108866 M) {p1 : State} {t : State} (h : execHostSleepAssert p1 = .next t) : Chip.Inside p1.chip M t.chip := by
  refine State.actRaw_inside h ?_
  intro z c1 hc1
  extract_lets +onlyGivenNames x2
  have hx2 : z.Inside M x2 := Chip.modHw_inside (hM.up rfl) hc1
  clear_value x2
  refine .ite hx2 ?_
  extract_lets +onlyGivenNames x3
  extract_lets +onlyGivenNames x4
  clear_value x4
  extract_lets +onlyGivenNames x5
  clear_value x5
  extract_lets +onlyGivenNames x6
  have hx6 : z.Inside M x6 := Chip.sets_inside (hM.up rfl) hx2
  clear_value x6
  exact .each hx6 (fun a7 t8 ht8 => Chip.cqSettle_inside (hM.up rfl) ht8)

theorem execHostSleepRelease_inside {M : ℕ} (hM : Sub 67108866 M) {p1 : State} {t : State} (h : execHostSleepRelease p1 = .next t) : Chip.Inside p1.chip M t.chip := by
  refine State.actRaw_inside h ?_
  intro z c1 hc1
  extract_lets +onlyGivenNames x2
  have hx2 : z.Inside M x2 := Chip.modHw_inside (hM.up rfl) hc1
  clear_value x2
  exact .ite hx2 (Chip.hwIrq_inside (hM.up rfl) (Chip.sets_inside (hM.up rfl) hx2))

theorem execHpCsNRise_inside {M : ℕ} (hM : Sub 67109058 M) {p1 : CsRise} {p2 : State} {t : State} (h : execHpCsNRise p1 p2 = .next t) : Chip.Inside p2.chip M t.chip := by
  refine State.actIf_inside h ?_
  intro z c1 hc1
  split
  · exact Chip.portProto_inside (hM.up rfl) hc1
  · exact Chip.portProto_inside (hM.up rfl) hc1
  · exact Chip.hostWrite_inside (hM.up rfl) hc1
  · exact .ite (Chip.portProto_inside (hM.up rfl) (.ite hc1 (Chip.hostWrite_inside (hM.up rfl) hc1))) (Chip.portProto_inside (hM.up rfl) hc1)
  · exact hc1

theorem execHpTake_inside {M : ℕ} (hM : Sub 134218194 M) {p1 : Fin 4} {p2 : State} {t : State} (h : execHpTake p1 p2 = .next t) : Chip.Inside p2.chip M t.chip :=
  State.act_inside h (fun _ c1 hc1 => Chip.rowWrite_inside (hM.up rfl) hc1 (fun v2 hv2 => Chip.hpTake_inside (hM.up rfl) hv2))

theorem execHwCas_inside {M : ℕ} (hM : Sub 2139095039 M) {p1 : Requester} {p2 : Word} {p3 : State} {t : State} (h : execHwCas p1 p2 p3 = .next t) : Chip.Inside p3.chip M t.chip := .all hM

theorem execHwFence_inside {M : ℕ} (hM : Sub 2139095039 M) {p1 : State} {t : State} (h : execHwFence p1 = .next t) : Chip.Inside p1.chip M t.chip := .all hM

theorem execHwIdleWrite_inside {M : ℕ} (hM : Sub 2 M) {p1 : Word} {p2 : State} {t : State} (h : execHwIdleWrite p1 p2 = .next t) : Chip.Inside p2.chip M t.chip :=
  State.act_inside h (fun _ c1 hc1 => Chip.idleWrite_inside (hM.up rfl) hc1)

theorem execIdRead_inside {M : ℕ} (hM : Sub 67108886 M) {p1 : Fin 8} {p2 : Option (Fin 1280)} {p3 : State} {t : State} (h : execIdRead p1 p2 p3 = .next t) : Chip.Inside p3.chip M t.chip :=
  State.act_inside h (fun _ c1 hc1 => Chip.idItem_inside (hM.up rfl) hc1)

theorem execIdRecordLoad_inside {M : ℕ} (hM : Sub 2097222 M) {p1 : Fin 6} {p2 : Option (List Byte)} {p3 : State} {t : State} (h : execIdRecordLoad p1 p2 p3 = .next t) : Chip.Inside p3.chip M t.chip := by
  refine State.actIf_inside h ?_
  intro z c1 hc1
  refine .ite hc1 ?_
  extract_lets +onlyGivenNames x2
  have hx2 : z.Inside M x2 := Chip.modChm_inside (hM.up rfl) hc1
  clear_value x2
  split
  · exact Chip.recBad_inside (hM.up rfl) hx2
  · rename_i y5 q6
    extract_lets +onlyGivenNames x7
    have hx7 : z.Inside M x7 := Chip.setBytes_inside (hM.up rfl) hx2
    clear_value x7
    extract_lets +onlyGivenNames x8
    clear_value x8
    exact .ite (Chip.showNtc_inside (hM.up rfl) (Chip.setBitOf_inside (hM.up rfl) (Chip.put_inside (hM.up rfl) hx7))) (Chip.recBad_inside (hM.up rfl) hx7)

theorem execIndex_inside {M : ℕ} (hM : Sub 32834 M) {p1 : Fin 2} {p2 : Bool} {p3 : State} {t : State} (h : execIndex p1 p2 p3 = .next t) : Chip.Inside p3.chip M t.chip :=
  State.act_inside h (fun _ c1 hc1 => .ite (Chip.posEvent_inside (hM.up rfl) hc1 (fun v2 hv2 => Chip.posIndex_inside (hM.up rfl) hv2)) (Chip.modPos_inside (hM.up rfl) hc1))

theorem execInstructionFetch_inside {M : ℕ} (hM : Sub 125549054 M) {p1 : Fin 4} {p2 : Word} {p3 : Fin 3} {p4 : State} {t : State} (h : execInstructionFetch p1 p2 p3 p4 = .next t) : Chip.Inside p4.chip M t.chip :=
  State.act_inside h (fun _ c1 hc1 => Chip.fetchInstr_inside (hM.up rfl) hc1)

theorem execInterlockRelease_inside {M : ℕ} (hM : Sub 2621442 M) {p1 : Fin 12} {p2 : State} {t : State} (h : execInterlockRelease p1 p2 = .next t) : Chip.Inside p2.chip M t.chip :=
  State.act_inside h (fun _ c1 hc1 => .ite (Chip.onArrives_inside (hM.up rfl) (Chip.unhold_inside (hM.up rfl) hc1)) hc1)

theorem execIrqPendClear_inside {M : ℕ} (hM : Sub 0 M) {p1 : Fin 4} {p2 : Word} {p3 : State} {t : State} (h : execIrqPendClear p1 p2 p3 = .next t) : Chip.Inside p3.chip M t.chip :=
  State.act_inside h (fun _ c1 hc1 => Chip.pendClear_inside (hM.up rfl) hc1)

theorem execIrqRouteWrite_inside {M : ℕ} (hM : Sub 2 M) {p1 : Fin 32} {p2 : Word} {p3 : State} {t : State} (h : execIrqRouteWrite p1 p2 p3 = .next t) : Chip.Inside p3.chip M t.chip :=
  State.act_inside h (fun _ c1 hc1 => Chip.routeWrite_inside (hM.up rfl) hc1)

theorem execIrqSumRead_inside {M : ℕ} (hM : Sub 2 M) {p1 : Fin 4} {p2 : State} {t : State} (h : execIrqSumRead p1 p2 = .next t) : Chip.Inside p2.chip M t.chip :=
  State.act_inside h (fun _ c1 hc1 => .ite (Chip.sumRead_inside (hM.up rfl) hc1) hc1)

theorem execIslandAutoClear_inside {M : ℕ} (hM : Sub 1773890 M) {p1 : Fin 12} {p2 : Fin 65536} {p3 : State} {t : State} (h : execIslandAutoClear p1 p2 p3 = .next t) : Chip.Inside p3.chip M t.chip := by
  refine State.act_inside h ?_
  intro z c1 hc1
  split
  · exact hc1
  · rename_i y4 q5
    refine .ite hc1 ?_
    extract_lets +onlyGivenNames x6
    clear_value x6
    extract_lets +onlyGivenNames x7
    clear_value x7
    extract_lets +onlyGivenNames x8
    clear_value x8
    extract_lets +onlyGivenNames x9
    clear_value x9
    refine .ite ?_ ?_
    · extract_lets +onlyGivenNames x10
      have hx10 : z.Inside M x10 := .ite (Chip.set_inside (hM.up rfl) hc1) (.ite hc1 (Chip.set_inside (hM.up rfl) hc1))
      clear_value x10
      extract_lets +onlyGivenNames x11
      have hx11 : z.Inside M x11 := Chip.modIsl_inside (hM.up rfl) hx10
      clear_value x11
      extract_lets +onlyGivenNames x12
      have hx12 : z.Inside M x12 := Chip.sets_inside (hM.up rfl) hx11
      clear_value x12
      extract_lets +onlyGivenNames x13
      have hx13 : z.Inside M x13 := Chip.clearIslandFault_inside (hM.up rfl) hx12
      clear_value x13
      split
      · exact Chip.tryLeaveSafe_inside (hM.up rfl) hx13
      · exact hx13
    · extract_lets +onlyGivenNames x18
      have hx18 : z.Inside M x18 := Chip.modIsl_inside (hM.up rfl) hc1
      clear_value x18
      extract_lets +onlyGivenNames x19
      have hx19 : z.Inside M x19 := Chip.showFaults_inside (hM.up rfl) hx18
      clear_value x19
      split
      · exact Chip.stand_inside (hM.up rfl) hx19
      · exact hx19

theorem execIslandChannelLoss_inside {M : ℕ} (hM : Sub 524354 M) {p1 : Fin 12} {p2 : State} {t : State} (h : execIslandChannelLoss p1 p2 = .next t) : Chip.Inside p2.chip M t.chip := by
  refine State.act_inside h ?_
  intro z c1 hc1
  extract_lets +onlyGivenNames x2
  clear_value x2
  exact .ite (Chip.handshakeStop_inside (hM.up rfl) (Chip.islTo_inside (hM.up rfl) (Chip.gateAway_inside (hM.up rfl) hc1))) hc1

theorem execIslandClear_inside {M : ℕ} (hM : Sub 1774034 M) {p1 : Fin 12} {p2 : State} {t : State} (h : execIslandClear p1 p2 = .next t) : Chip.Inside p2.chip M t.chip := by
  refine State.act_inside h ?_
  intro z c1 hc1
  refine Chip.rowWrite_inside (hM.up rfl) hc1 ?_
  intro v2 hv2
  extract_lets +onlyGivenNames x3
  have hx3 : z.Inside M x3 := Chip.clearIsland_inside (hM.up rfl) hv2
  clear_value x3
  split
  · exact Chip.tryLeaveSafe_inside (hM.up rfl) hx3
  · exact hx3

theorem execIslandFaultReport_inside {M : ℕ} (hM : Sub 1708354 M) {p1 : Fin 12} {p2 : State} {t : State} (h : execIslandFaultReport p1 p2 = .next t) : Chip.Inside p2.chip M t.chip := by
  refine State.act_inside h ?_
  intro z c1 hc1
  split
  · exact hc1
  · rename_i y4 y5 y6 q7
    extract_lets +onlyGivenNames x8
    have hx8 : z.Inside M x8 := Chip.modIsl_inside (hM.up rfl) hc1
    clear_value x8
    exact Chip.islFall_inside (hM.up rfl) (Chip.set_inside (hM.up rfl) hx8)

theorem execIslandHandshakeOpen_inside {M : ℕ} (hM : Sub 524288 M) {p1 : Fin 12} {p2 : State} {t : State} (h : execIslandHandshakeOpen p1 p2 = .next t) : Chip.Inside p2.chip M t.chip := by
  refine State.act_inside h ?_
  intro z c1 hc1
  extract_lets +onlyGivenNames x2
  exact .ite (Chip.modIsl_inside (hM.up rfl) hc1) hc1

theorem execIslandSupplyRelease_inside {M : ℕ} (hM : Sub 524290 M) {p1 : Fin 12} {p2 : State} {t : State} (h : execIslandSupplyRelease p1 p2 = .next t) : Chip.Inside p2.chip M t.chip :=
  State.actRaw_inside h (fun _ c1 hc1 => .ite (Chip.modIsl_inside (hM.up rfl) hc1) (.ite (Chip.showSupply_inside (hM.up rfl) (Chip.islShow_inside (hM.up rfl) (Chip.modIsl_inside (hM.up rfl) hc1))) hc1))

theorem execIslandUnitReset_inside {M : ℕ} (hM : Sub 940278230 M) {p1 : Fin 12} {p2 : State} {t : State} (h : execIslandUnitReset p1 p2 = .next t) : Chip.Inside p2.chip M t.chip :=
  State.act_inside h (fun _ c1 hc1 => Chip.unitAsk_inside (hM.up rfl) hc1)

theorem execIsoEnRelease_inside {M : ℕ} (hM : Sub 1048578 M) {p1 : Fin 2} {p2 : State} {t : State} (h : execIsoEnRelease p1 p2 = .next t) : Chip.Inside p2.chip M t.chip := by
  refine State.act_inside h ?_
  intro z c1 hc1
  extract_lets +onlyGivenNames x2
  extract_lets +onlyGivenNames x3
  exact .ite (Chip.putIso_inside (hM.up rfl) hc1) hc1

theorem execKeAbnormal_inside {M : ℕ} (hM : Sub 1708354 M) {p1 : Fin 4} {p2 : State} {t : State} (h : execKeAbnormal p1 p2 = .next t) : Chip.Inside p2.chip M t.chip := by
  refine State.act_inside h ?_
  intro z c1 hc1
  extract_lets +onlyGivenNames x2
  clear_value x2
  exact .ite (Chip.faultCl_inside (hM.up rfl) (Chip.put_inside (hM.up rfl) hc1)) hc1

theorem execLarderWrite_inside {M : ℕ} (hM : Sub 4422 M) {p1 : Fin 4} {p2 : Fin 2} {p3 : Fin 8192} {p4 : Word} {p5 : State} {t : State} (h : execLarderWrite p1 p2 p3 p4 p5 = .next t) : Chip.Inside p5.chip M t.chip := by
  refine State.act_inside h ?_
  intro z c1 hc1
  extract_lets +onlyGivenNames x2
  clear_value x2
  exact Chip.ldrStore_inside (hM.up rfl) (Chip.reachGate_inside (hM.up rfl) hc1)

theorem execLateBringupDone_inside {M : ℕ} (hM : Sub 2139095039 M) {p1 : Fin 2} {p2 : SlotOutcome} {p3 : TestOutcome} {p4 : State} {t : State} (h : execLateBringupDone p1 p2 p3 p4 = .next t) : Chip.Inside p4.chip M t.chip := .all hM

theorem execLateBringup_inside {M : ℕ} (hM : Sub 1049346 M) {p1 : Fin 2} {p2 : State} {t : State} (h : execLateBringup p1 p2 = .next t) : Chip.Inside p2.chip M t.chip :=
  State.act_inside h (fun _ c1 hc1 => Chip.upWrite_inside (hM.up rfl) hc1)

theorem execLatencyRemeasure_inside {M : ℕ} (hM : Sub 66 M) {p1 : Fin 12} {p2 : Fin 65536} {p3 : State} {t : State} (h : execLatencyRemeasure p1 p2 p3 = .next t) : Chip.Inside p3.chip M t.chip := by
  refine State.act_inside h ?_
  intro z c1 hc1
  extract_lets +onlyGivenNames x2
  clear_value x2
  refine .ite hc1 ?_
  extract_lets +onlyGivenNames x3
  clear_value x3
  extract_lets +onlyGivenNames x4
  clear_value x4
  extract_lets +onlyGivenNames x5
  clear_value x5
  extract_lets +onlyGivenNames x6
  clear_value x6
  extract_lets +onlyGivenNames x7
  clear_value x7
  extract_lets +onlyGivenNames x8
  extract_lets +onlyGivenNames x9
  have hx9 : z.Inside M x9 := Chip.sets_inside (hM.up rfl) hc1
  clear_value x9
  exact .ite (Chip.calDrift_inside (hM.up rfl) hx9) (.ite (Chip.put_inside (hM.up rfl) hx9) hx9)

theorem execLdrCheckEnd_inside {M : ℕ} (hM : Sub 4162 M) {p1 : Fin 4} {p2 : Fin 3} {p3 : State} {t : State} (h : execLdrCheckEnd p1 p2 p3 = .next t) : Chip.Inside p3.chip M t.chip := by
  refine State.act_inside h ?_
  intro z c1 hc1
  refine .ite hc1 ?_
  refine .ite (Chip.putSwap_inside (hM.up rfl) hc1) ?_
  extract_lets +onlyGivenNames x2
  have hx2 : z.Inside M x2 := Chip.put_inside (hM.up rfl) (Chip.setBitOf_inside (hM.up rfl) (Chip.putSwap_inside (hM.up rfl) hc1))
  clear_value x2
  extract_lets +onlyGivenNames x3
  have hx3 : z.Inside M x3 := .ite (Chip.modCl_inside (hM.up rfl) hx2) hx2
  clear_value x3
  exact Chip.noteCl_inside (hM.up rfl) hx3

theorem execLdrSwapRequest_inside {M : ℕ} (hM : Sub 4562 M) {p1 : Fin 4} {p2 : Fin 8} {p3 : State} {t : State} (h : execLdrSwapRequest p1 p2 p3 = .next t) : Chip.Inside p3.chip M t.chip :=
  State.act_inside h (fun _ c1 hc1 => Chip.rowWrite_inside (hM.up rfl) hc1 (fun v2 hv2 => .each hv2 (fun a3 t4 ht4 => Chip.swapBySoftware_inside (hM.up rfl) ht4)))

theorem execLdrSwap_inside {M : ℕ} (hM : Sub 2101318 M) {p1 : Fin 4} {p2 : Fin 3} {p3 : Bool} {p4 : State} {t : State} (h : execLdrSwap p1 p2 p3 p4 = .next t) : Chip.Inside p4.chip M t.chip :=
  State.act_inside h (fun _ c1 hc1 => Chip.swapNow_inside (hM.up rfl) hc1)

theorem execLeakCheckEnd_inside {M : ℕ} (hM : Sub 1708354 M) {p1 : Fin 12} {p2 : Word} {p3 : State} {t : State} (h : execLeakCheckEnd p1 p2 p3 = .next t) : Chip.Inside p3.chip M t.chip := by
  refine State.act_inside h ?_
  intro z c1 hc1
  refine .ite ?_ hc1
  extract_lets +onlyGivenNames x2
  clear_value x2
  extract_lets +onlyGivenNames x3
  clear_value x3
  extract_lets +onlyGivenNames x4
  clear_value x4
  extract_lets +onlyGivenNames x5
  have hx5 : z.Inside M x5 := Chip.sets_inside (hM.up rfl) hc1
  clear_value x5
  refine .ite ?_ ?_
  · extract_lets +onlyGivenNames x6
    have hx6 : z.Inside M x6 := Chip.islShow_inside (hM.up rfl) (Chip.set_inside (hM.up rfl) hx5)
    clear_value x6
    exact Chip.islFall_inside (hM.up rfl) (Chip.islDetect_inside (hM.up rfl) hx6)
  · extract_lets +onlyGivenNames x7
    have hx7 : z.Inside M x7 := Chip.islShow_inside (hM.up rfl) hx5
    clear_value x7
    exact .ite (Chip.islRecord_inside (hM.up rfl) (Chip.set_inside (hM.up rfl) hx7)) (Chip.set_inside (hM.up rfl) hx7)

theorem execLeakCheck_inside {M : ℕ} (hM : Sub 524754 M) {p1 : Fin 12} {p2 : State} {t : State} (h : execLeakCheck p1 p2 = .next t) : Chip.Inside p2.chip M t.chip :=
  State.act_inside h (fun _ c1 hc1 => Chip.rowWrite_inside (hM.up rfl) hc1 (fun v2 hv2 => Chip.leakStart_inside (hM.up rfl) hv2))

theorem execLedgerInterval_inside {M : ℕ} (hM : Sub 2097218 M) {p1 : State} {t : State} (h : execLedgerInterval p1 = .next t) : Chip.Inside p1.chip M t.chip :=
  State.act_inside h (fun _ c1 hc1 => .ite hc1 (.each (Chip.modChm_inside (hM.up rfl) hc1) (fun a2 t3 ht3 => Chip.ledSubmit_inside (hM.up rfl) ht3)))

theorem execLedgerLoad_inside {M : ℕ} (hM : Sub 2097218 M) {p1 : Fin 6} {p2 : State} {t : State} (h : execLedgerLoad p1 p2 = .next t) : Chip.Inside p2.chip M t.chip := by
  refine State.act_inside h ?_
  intro z c1 hc1
  refine .ite hc1 ?_
  extract_lets +onlyGivenNames x2
  have hx2 : ∀ w3, z.Inside M w3 → z.Inside M (x2 w3) := fun w3 hw3 => Chip.setBitOf_inside (hM.up rfl) (Chip.put_inside (hM.up rfl) hw3)
  clear_value x2
  split
  · rename_i y4 q5
    extract_lets +onlyGivenNames x6
    clear_value x6
    extract_lets +onlyGivenNames x7
    have hx7 : z.Inside M x7 := Chip.loadSwitch_inside (hM.up rfl) (Chip.loadSwitch_inside (hM.up rfl) hc1)
    clear_value x7
    extract_lets +onlyGivenNames x8
    clear_value x8
    extract_lets +onlyGivenNames x9
    extract_lets +onlyGivenNames x10
    have hx10 : z.Inside M x10 := Chip.modLedger_inside (hM.up rfl) hx7
    clear_value x10
    exact Chip.showLife_inside (hM.up rfl) (Chip.set_inside (hM.up rfl) (hx2 _ hx10))
  · extract_lets +onlyGivenNames x13
    clear_value x13
    extract_lets +onlyGivenNames x14
    have hx14 : z.Inside M x14 := hx2 _ (Chip.modLedger_inside (hM.up rfl) hc1)
    clear_value x14
    extract_lets +onlyGivenNames x15
    have hx15 : z.Inside M x15 := Chip.note_inside (hM.up rfl) hx14
    clear_value x15
    exact .ite (Chip.ledSubmit_inside (hM.up rfl) hx15) hx15

theorem execLedgerWriteEnd_inside {M : ℕ} (hM : Sub 2097222 M) {p1 : Fin 6} {p2 : Bool} {p3 : State} {t : State} (h : execLedgerWriteEnd p1 p2 p3 = .next t) : Chip.Inside p3.chip M t.chip := by
  refine State.act_inside h ?_
  intro z c1 hc1
  refine .ite hc1 ?_
  refine .ite ?_ (Chip.ledFail_inside (hM.up rfl) hc1)
  extract_lets +onlyGivenNames x2
  clear_value x2
  extract_lets +onlyGivenNames x3
  have hx3 : z.Inside M x3 := Chip.setBytes_inside (hM.up rfl) hc1
  clear_value x3
  extract_lets +onlyGivenNames x4
  have hx4 : z.Inside M x4 := Chip.modLedger_inside (hM.up rfl) hx3
  clear_value x4
  exact Chip.put_inside (hM.up rfl) (Chip.set_inside (hM.up rfl) (Chip.dropWrite_inside (hM.up rfl) hx4))

theorem execLedgerWriteRequest_inside {M : ℕ} (hM : Sub 2097218 M) {p1 : State} {t : State} (h : execLedgerWriteRequest p1 = .next t) : Chip.Inside p1.chip M t.chip :=
  State.act_inside h (fun _ c1 hc1 => .each hc1 (fun a2 t3 ht3 => Chip.ledSubmit_inside (hM.up rfl) ht3))

theorem execLegConflict_inside {M : ℕ} (hM : Sub 1708354 M) {p1 : Fin 12} {p2 : State} {t : State} (h : execLegConflict p1 p2 = .next t) : Chip.Inside p2.chip M t.chip := by
  refine State.act_inside h ?_
  intro z c1 hc1
  refine .ite ?_ hc1
  extract_lets +onlyGivenNames x2
  have hx2 : z.Inside M x2 := Chip.modIsl_inside (hM.up rfl) hc1
  clear_value x2
  extract_lets +onlyGivenNames x3
  have hx3 : z.Inside M x3 := Chip.sets_inside (hM.up rfl) hx2
  clear_value x3
  exact Chip.islFall_inside (hM.up rfl) (Chip.islHold_inside (hM.up rfl) (Chip.islDetect_inside (hM.up rfl) hx3))

theorem execLinkReady_inside {M : ℕ} (hM : Sub 536870914 M) {p1 : Bool} {p2 : State} {t : State} (h : execLinkReady p1 p2 = .next t) : Chip.Inside p2.chip M t.chip :=
  State.act_inside h (fun _ c1 hc1 => Chip.linkBack_inside (hM.up rfl) hc1)

theorem execListWrite_inside {M : ℕ} (hM : Sub 466 M) {p1 : Fin 4} {p2 : Fin 6} {p3 : Word} {p4 : State} {t : State} (h : execListWrite p1 p2 p3 p4 = .next t) : Chip.Inside p4.chip M t.chip :=
  State.act_inside h (fun _ c1 hc1 => Chip.rowWrite_inside (hM.up rfl) hc1 (fun v2 hv2 => Chip.listSet_inside (hM.up rfl) hv2))

theorem execLockstepMismatch_inside {M : ℕ} (hM : Sub 125549054 M) {p1 : Fin 2} {p2 : Fin 4} {p3 : State} {t : State} (h : execLockstepMismatch p1 p2 p3 = .next t) : Chip.Inside p3.chip M t.chip := by
  refine State.act_inside h ?_
  intro z c1 hc1
  refine .ite hc1 ?_
  extract_lets +onlyGivenNames x2
  have hx2 : z.Inside M x2 := Chip.put_inside (hM.up rfl) (Chip.bump_inside (hM.up rfl) hc1)
  clear_value x2
  exact Chip.halt_inside (hM.up rfl) hx2

theorem execLogEntryFlashWrite_inside {M : ℕ} (hM : Sub 2097230 M) {p1 : State} {t : State} (h : execLogEntryFlashWrite p1 = .next t) : Chip.Inside p1.chip M t.chip := by
  refine State.act_inside h ?_
  intro z c1 hc1
  split
  · exact hc1
  · extract_lets +onlyGivenNames x6
    have hx6 : z.Inside M x6 := .ite hc1 (Chip.submitWrite_inside (hM.up rfl) hc1)
    clear_value x6
    refine .ite hx6 ?_
    split
    · exact Chip.dropWrite_inside (hM.up rfl) hx6
    · rename_i y9 y10 q11
      extract_lets +onlyGivenNames x12
      clear_value x12
      extract_lets +onlyGivenNames x13
      have hx13 : z.Inside M x13 := Chip.eccFresh_inside (hM.up rfl) (Chip.setBytes_inside (hM.up rfl) hx6)
      clear_value x13
      extract_lets +onlyGivenNames x14
      have hx14 : z.Inside M x14 := Chip.dropWrite_inside (hM.up rfl) hx13
      clear_value x14
      exact Chip.Inside.mk_log (hM.up rfl) hx14

theorem execLogRead_inside {M : ℕ} (hM : Sub 67108886 M) {p1 : Fin 8} {p2 : State} {t : State} (h : execLogRead p1 p2 = .next t) : Chip.Inside p2.chip M t.chip :=
  State.act_inside h (fun _ c1 hc1 => Chip.logItem_inside (hM.up rfl) hc1)

theorem execMainFreq_inside {M : ℕ} (hM : Sub 662419966 M) {p1 : Word} {p2 : State} {t : State} (h : execMainFreq p1 p2 = .next t) : Chip.Inside p2.chip M t.chip :=
  State.act_inside h (fun _ c1 hc1 => Chip.clockHalt_inside (hM.up rfl) (Chip.modPwr_inside (hM.up rfl) (Chip.monitor_inside (hM.up rfl) hc1)))

theorem execMeasurementFrame_inside {M : ℕ} (hM : Sub 3805506 M) {p1 : Fin 12} {p2 : Bool} {p3 : Bool} {p4 : Fin 1048576} {p5 : Fin 1048576} {p6 : State} {t : State} (h : execMeasurementFrame p1 p2 p3 p4 p5 p6 = .next t) : Chip.Inside p6.chip M t.chip := by
  refine State.act_inside h ?_
  intro z c1 hc1
  extract_lets +onlyGivenNames x2
  refine .ite hc1 ?_
  refine .ite (Chip.crcError_inside (hM.up rfl) hc1) ?_
  refine .ite (Chip.put_inside (hM.up rfl) (Chip.bump_inside (hM.up rfl) hc1)) ?_
  extract_lets +onlyGivenNames x3
  have hx3 : z.Inside M x3 := Chip.count_inside (hM.up rfl) hc1
  clear_value x3
  refine .ite ?_ (Chip.plateau_inside (hM.up rfl) (Chip.sets_inside (hM.up rfl) hx3))
  extract_lets +onlyGivenNames x4
  have hx4 : z.Inside M x4 := Chip.sets_inside (hM.up rfl) hx3
  clear_value x4
  extract_lets +onlyGivenNames x5
  have hx5 : z.Inside M x5 := Chip.tjMeasure_inside (hM.up rfl) hx4
  clear_value x5
  refine Chip.plateau_inside (hM.up rfl) ?_
  split
  · exact Chip.tjOver_inside (hM.up rfl) hx5
  · exact hx5

theorem execMinPulseEnd_inside {M : ℕ} (hM : Sub 1708354 M) {p1 : Fin 16} {p2 : Bool} {p3 : State} {t : State} (h : execMinPulseEnd p1 p2 p3 = .next t) : Chip.Inside p3.chip M t.chip := by
  refine State.act_inside h ?_
  intro z c1 hc1
  extract_lets +onlyGivenNames x2
  extract_lets +onlyGivenNames x3
  clear_value x3
  refine .ite hc1 ?_
  extract_lets +onlyGivenNames x4
  have hx4 : z.Inside M x4 := Chip.fallL_inside (hM.up rfl) (Chip.accrue_inside (hM.up rfl) hc1)
  clear_value x4
  extract_lets +onlyGivenNames x5
  have hx5 : z.Inside M x5 := Chip.fallH_inside (hM.up rfl) (Chip.accrue_inside (hM.up rfl) hc1)
  clear_value x5
  extract_lets +onlyGivenNames x6
  have hx6 : z.Inside M x6 := .ite (.ite (Chip.refreshEnd_inside (hM.up rfl) hc1) (.ite (.ite (Chip.riseH_inside (hM.up rfl) hx4) hx4) (Chip.modSlice_inside (hM.up rfl) hc1))) (.ite (.ite (Chip.riseL_inside (hM.up rfl) hx5) hx5) (Chip.modSlice_inside (hM.up rfl) hc1))
  clear_value x6
  exact Chip.checkSlice_inside (hM.up rfl) (Chip.outputs_inside (hM.up rfl) (Chip.dropGates_inside (hM.up rfl) hx6))

theorem execMirrorWrite_inside {M : ℕ} (hM : Sub 524754 M) {p1 : Fin 12} {p2 : MirrorStep} {p3 : State} {t : State} (h : execMirrorWrite p1 p2 p3 = .next t) : Chip.Inside p3.chip M t.chip := by
  refine State.act_inside h ?_
  intro z c1 hc1
  split
  · exact Chip.rowWrite_inside (hM.up rfl) hc1 (fun v5 hv5 => Chip.mirrorSet_inside (hM.up rfl) hv5)
  · exact Chip.mirrorAck_inside (hM.up rfl) hc1
  · exact .ite hc1 (Chip.crcError_inside (hM.up rfl) hc1)

theorem execModerationTimer_inside {M : ℕ} (hM : Sub 0 M) {p1 : Fin 4} {p2 : Fin 3} {p3 : State} {t : State} (h : execModerationTimer p1 p2 p3 = .next t) : Chip.Inside p3.chip M t.chip := by
  refine State.act_inside h ?_
  intro z c1 hc1
  extract_lets +onlyGivenNames x2
  extract_lets +onlyGivenNames x3
  clear_value x3
  exact .ite (Chip.modGroup_inside (hM.up rfl) hc1) hc1

theorem execMonoscFail_inside {M : ℕ} (hM : Sub 1708354 M) {p1 : Word} {p2 : State} {t : State} (h : execMonoscFail p1 p2 = .next t) : Chip.Inside p2.chip M t.chip :=
  State.act_inside h (fun _ c1 hc1 => Chip.faultEvery_inside (hM.up rfl) (Chip.monitor_inside (hM.up rfl) hc1))

theorem execMsgAbort_inside {M : ℕ} (hM : Sub 536871378 M) {p1 : Fin 4} {p2 : State} {t : State} (h : execMsgAbort p1 p2 = .next t) : Chip.Inside p2.chip M t.chip := by
  refine State.act_inside h ?_
  intro z c1 hc1
  extract_lets +onlyGivenNames x2
  clear_value x2
  exact Chip.rowWrite_inside (hM.up rfl) hc1 (fun v3 hv3 => Chip.msgCtl_inside (hM.up rfl) hv3)

theorem execMsgAckTimeout_inside {M : ℕ} (hM : Sub 536870978 M) {p1 : Fin 4} {p2 : State} {t : State} (h : execMsgAckTimeout p1 p2 = .next t) : Chip.Inside p2.chip M t.chip :=
  State.act_inside h (fun _ c1 hc1 => .ite (Chip.msgTry_inside (hM.up rfl) hc1) hc1)

theorem execMsgDone_inside {M : ℕ} (hM : Sub 67108866 M) {p1 : Word} {p2 : State} {t : State} (h : execMsgDone p1 p2 = .next t) : Chip.Inside p2.chip M t.chip :=
  State.act_inside h (fun _ c1 hc1 => Chip.msgDone_inside (hM.up rfl) hc1)

theorem execMsgSend_inside {M : ℕ} (hM : Sub 536871378 M) {p1 : Fin 4} {p2 : Word} {p3 : State} {t : State} (h : execMsgSend p1 p2 p3 = .next t) : Chip.Inside p3.chip M t.chip :=
  State.act_inside h (fun _ c1 hc1 => Chip.rowWrite_inside (hM.up rfl) hc1 (fun v2 hv2 => Chip.msgCtl_inside (hM.up rfl) hv2))

theorem execMsg_inside {M : ℕ} (hM : Sub 67108882 M) {p1 : Fin 8} {p2 : State} {t : State} (h : execMsg p1 p2 = .next t) : Chip.Inside p2.chip M t.chip :=
  State.act_inside h (fun _ c1 hc1 => Chip.descItem_inside (hM.up rfl) hc1 (fun v2 v3 hv3 => hv3))

theorem execOrphanReturn_inside {M : ℕ} (hM : Sub 524290 M) {p1 : Fin 12} {p2 : State} {t : State} (h : execOrphanReturn p1 p2 = .next t) : Chip.Inside p2.chip M t.chip :=
  State.act_inside h (fun _ c1 hc1 => .ite (Chip.showSupply_inside (hM.up rfl) (Chip.islShow_inside (hM.up rfl) (Chip.modIsl_inside (hM.up rfl) hc1))) hc1)

theorem execPcStoRelease_inside {M : ℕ} (hM : Sub 135234 M) {p1 : Fin 4} {p2 : State} {t : State} (h : execPcStoRelease p1 p2 = .next t) : Chip.Inside p2.chip M t.chip :=
  State.act_inside h (fun _ c1 hc1 => Chip.pcRelease_inside (hM.up rfl) hc1)

theorem execPcStoSet_inside {M : ℕ} (hM : Sub 1708354 M) {p1 : Fin 4} {p2 : State} {t : State} (h : execPcStoSet p1 p2 = .next t) : Chip.Inside p2.chip M t.chip :=
  State.act_inside h (fun _ c1 hc1 => Chip.pcSto_inside (hM.up rfl) hc1)

theorem execPeakGraceEnd_inside {M : ℕ} (hM : Sub 2097218 M) {p1 : Fin 4} {p2 : State} {t : State} (h : execPeakGraceEnd p1 p2 = .next t) : Chip.Inside p2.chip M t.chip :=
  State.act_inside h (fun _ c1 hc1 => .ite (Chip.showLim_inside (hM.up rfl) (.ite (Chip.peakFree_inside (hM.up rfl) hc1) (Chip.peakEnforce_inside (hM.up rfl) hc1))) hc1)

theorem execPeakRampEnd_inside {M : ℕ} (hM : Sub 2 M) {p1 : Fin 4} {p2 : State} {t : State} (h : execPeakRampEnd p1 p2 = .next t) : Chip.Inside p2.chip M t.chip :=
  State.act_inside h (fun _ c1 hc1 => .ite (Chip.showLim_inside (hM.up rfl) (Chip.set_inside (hM.up rfl) hc1)) hc1)

theorem execPhaseEnd_inside {M : ℕ} (hM : Sub 524290 M) {p1 : Fin 12} {p2 : State} {t : State} (h : execPhaseEnd p1 p2 = .next t) : Chip.Inside p2.chip M t.chip := by
  refine State.act_inside h ?_
  intro z c1 hc1
  extract_lets +onlyGivenNames x2
  extract_lets +onlyGivenNames x3
  have hx3 : ∀ w4, z.Inside M (x3 w4) := fun w4 => Chip.modIsl_inside (hM.up rfl) hc1
  clear_value x3
  split
  · exact hc1
  · exact hc1
  · exact hx3 _
  · exact hx3 _
  · exact hx3 _
  · exact hx3 _
  · exact hx3 _
  · exact hc1
  · extract_lets +onlyGivenNames x23
    have hx23 : z.Inside M x23 := Chip.clamp_inside (hM.up rfl) (hx3 _)
    clear_value x23
    exact .ite (Chip.islTo_inside (hM.up rfl) hx23) hx23
  · exact Chip.clamp_inside (hM.up rfl) (hx3 _)

theorem execPllLock_inside {M : ℕ} (hM : Sub 258 M) {p1 : State} {t : State} (h : execPllLock p1 = .next t) : Chip.Inside p1.chip M t.chip :=
  State.act_inside h (fun _ c1 hc1 => Chip.modPwr_inside (hM.up rfl) (Chip.put_inside (hM.up rfl) hc1))

theorem execPllUnlock_inside {M : ℕ} (hM : Sub 662419966 M) {p1 : Word} {p2 : State} {t : State} (h : execPllUnlock p1 p2 = .next t) : Chip.Inside p2.chip M t.chip := by
  refine State.act_inside h ?_
  intro z c1 hc1
  refine .ite ?_ hc1
  extract_lets +onlyGivenNames x2
  have hx2 : z.Inside M x2 := Chip.modPwr_inside (hM.up rfl) (Chip.put_inside (hM.up rfl) (Chip.monitor_inside (hM.up rfl) hc1))
  clear_value x2
  exact Chip.clockHalt_inside (hM.up rfl) hx2

theorem execPorchPoolWrite_inside {M : ℕ} (hM : Sub 2 M) {p1 : Word} {p2 : State} {t : State} (h : execPorchPoolWrite p1 p2 = .next t) : Chip.Inside p2.chip M t.chip :=
  State.act_inside h (fun _ c1 hc1 => Chip.poolWrite_inside (hM.up rfl) hc1)

theorem execPosCfgWrite_inside {M : ℕ} (hM : Sub 33234 M) {p1 : Fin 2} {p2 : Word} {p3 : State} {t : State} (h : execPosCfgWrite p1 p2 p3 = .next t) : Chip.Inside p3.chip M t.chip := by
  refine State.act_inside h ?_
  intro z c1 hc1
  extract_lets +onlyGivenNames x2
  clear_value x2
  exact Chip.rowWrite_inside (hM.up rfl) hc1 (fun v3 hv3 => .ite (Chip.posCfgSet_inside (hM.up rfl) hv3) (Chip.refuse_inside (hM.up rfl) hv3))

theorem execPosEvalSelfTimed_inside {M : ℕ} (hM : Sub 32834 M) {p1 : Fin 2} {p2 : State} {t : State} (h : execPosEvalSelfTimed p1 p2 = .next t) : Chip.Inside p2.chip M t.chip :=
  State.act_inside h (fun _ c1 hc1 => .ite (Chip.selfEval_inside (hM.up rfl) hc1) hc1)

theorem execPowerOnRelease_inside {M : ℕ} (hM : Sub 1708866 M) {p1 : State} {t : State} (h : execPowerOnRelease p1 = .next t) : Chip.Inside p1.chip M t.chip := by
  refine State.actRaw_inside h ?_
  intro z c1 hc1
  refine .ite ?_ hc1
  extract_lets +onlyGivenNames x2
  have hx2 : z.Inside M x2 := Chip.sets_inside (hM.up rfl) hc1
  clear_value x2
  extract_lets +onlyGivenNames x3
  extract_lets +onlyGivenNames x4
  have hx4 : z.Inside M x4 := (Chip.Inside.mk_cfg (hM.up rfl) hx2)
  clear_value x4
  exact Chip.tryRelease_inside (hM.up rfl) (Chip.modPwr_inside (hM.up rfl) hx4)

theorem execProfileFrame_inside {M : ℕ} (hM : Sub 524290 M) {p1 : ChanFrame} {p2 : State} {t : State} (h : execProfileFrame p1 p2 = .next t) : Chip.Inside p2.chip M t.chip := by
  refine State.act_inside h ?_
  intro z c1 hc1
  extract_lets +onlyGivenNames x2
  refine .ite hc1 ?_
  refine .ite (Chip.modIsl_inside (hM.up rfl) (Chip.crcError_inside (hM.up rfl) hc1)) ?_
  split
  · exact .ite (Chip.modIsl_inside (hM.up rfl) hc1) (Chip.modIsl_inside (hM.up rfl) hc1)
  · exact hc1

theorem execProgram_inside {M : ℕ} (hM : Sub 69206110 M) {p1 : Fin 8} {p2 : Bool} {p3 : State} {t : State} (h : execProgram p1 p2 p3 = .next t) : Chip.Inside p3.chip M t.chip :=
  State.act_inside h (fun _ c1 hc1 => Chip.programItem_inside (hM.up rfl) hc1)

theorem execPwmStart_inside {M : ℕ} (hM : Sub 131072 M) {p1 : Word} {p2 : State} {t : State} (h : execPwmStart p1 p2 = .next t) : Chip.Inside p2.chip M t.chip :=
  State.act_inside h (fun _ c1 hc1 => .each hc1 (fun a2 t3 ht3 => Chip.sliceRun_inside (hM.up rfl) ht3))

theorem execQuadCount_inside {M : ℕ} (hM : Sub 32834 M) {p1 : Fin 2} {p2 : Bool} {p3 : Bool} {p4 : State} {t : State} (h : execQuadCount p1 p2 p3 p4 = .next t) : Chip.Inside p4.chip M t.chip :=
  State.act_inside h (fun _ c1 hc1 => Chip.quadSample_inside (hM.up rfl) hc1)

theorem execQueueAbort_inside {M : ℕ} (hM : Sub 69206018 M) {p1 : Fin 8} {p2 : State} {t : State} (h : execQueueAbort p1 p2 = .next t) : Chip.Inside p2.chip M t.chip :=
  State.act_inside h (fun _ c1 hc1 => Chip.hwAbort_inside (hM.up rfl) hc1)

theorem execQueueEnable_inside {M : ℕ} (hM : Sub 69206082 M) {p1 : Bool} {p2 : Fin 8} {p3 : Word} {p4 : State} {t : State} (h : execQueueEnable p1 p2 p3 p4 = .next t) : Chip.Inside p4.chip M t.chip :=
  State.act_inside h (fun _ c1 hc1 => .ite (Chip.cqCfgWrite_inside (hM.up rfl) hc1) (Chip.sqCfgWrite_inside (hM.up rfl) hc1))

theorem execRailWarn_inside {M : ℕ} (hM : Sub 66 M) {p1 : Rail} {p2 : Bool} {p3 : State} {t : State} (h : execRailWarn p1 p2 p3 = .next t) : Chip.Inside p3.chip M t.chip := by
  refine State.actRaw_inside h ?_
  intro z c1 hc1
  extract_lets +onlyGivenNames x2
  have hx2 : ∀ w3, ∀ w4, ∀ w5, ∀ w6, z.Inside M (x2 w3 w4 w5 w6) := fun w3 w4 w5 w6 => .ite (Chip.note_inside (hM.up rfl) (Chip.put_inside (hM.up rfl) (Chip.put_inside (hM.up rfl) hc1))) (Chip.put_inside (hM.up rfl) hc1)
  clear_value x2
  split
  · exact hx2 _ _ _ _
  · exact hx2 _ _ _ _
  · exact hx2 _ _ _ _
  · exact hx2 _ _ _ _
  · exact hc1

theorem execRainflowSample_inside {M : ℕ} (hM : Sub 2097218 M) {p1 : State} {t : State} (h : execRainflowSample p1 = .next t) : Chip.Inside p1.chip M t.chip := by
  refine State.act_inside h ?_
  intro z c1 hc1
  refine .ite (Chip.modChm_inside (hM.up rfl) hc1) ?_
  refine .ite hc1 ?_
  extract_lets +onlyGivenNames x2
  have hx2 : z.Inside M x2 := Chip.modChm_inside (hM.up rfl) hc1
  clear_value x2
  extract_lets +onlyGivenNames x3
  exact .each hx2 (fun a4 t5 ht5 => .ite (Chip.showLife_inside (hM.up rfl) (Chip.modSw_inside (hM.up rfl) (Chip.modSw_inside (hM.up rfl) ht5))) ht5)

theorem execRawEdge_inside {M : ℕ} (hM : Sub 1708354 M) {p1 : Fin 16} {p2 : Bool} {p3 : Bool} {p4 : State} {t : State} (h : execRawEdge p1 p2 p3 p4 = .next t) : Chip.Inside p4.chip M t.chip :=
  State.act_inside h (fun _ c1 hc1 => Chip.rawEdge_inside (hM.up rfl) hc1)

theorem execReadId_inside {M : ℕ} (hM : Sub 67108864 M) {p1 : State} {t : State} (h : execReadId p1 = .next t) : Chip.Inside p1.chip M t.chip :=
  State.act_inside h (fun _ c1 hc1 => Chip.portOut_inside (hM.up rfl) hc1)

theorem execReadStatus_inside {M : ℕ} (hM : Sub 67108930 M) {p1 : State} {t : State} (h : execReadStatus p1 = .next t) : Chip.Inside p1.chip M t.chip :=
  State.act_inside h (fun _ c1 hc1 => .ite (Chip.portProto_inside (hM.up rfl) hc1) (Chip.modHw_inside (hM.up rfl) (Chip.portOut_inside (hM.up rfl) hc1)))

theorem execRead_inside {M : ℕ} (hM : Sub 2139095039 M) {p1 : Word} {p2 : Fin 4097} {p3 : List (Fin 1024)} {p4 : State} {t : State} (h : execRead p1 p2 p3 p4 = .next t) : Chip.Inside p4.chip M t.chip := .all hM

theorem execRearm_inside {M : ℕ} (hM : Sub 33234 M) {p1 : Fin 2} {p2 : State} {t : State} (h : execRearm p1 p2 = .next t) : Chip.Inside p2.chip M t.chip :=
  State.act_inside h (fun _ c1 hc1 => Chip.rowWrite_inside (hM.up rfl) hc1 (fun v2 hv2 => Chip.posRearm_inside (hM.up rfl) hv2))

theorem execRefLoss_inside {M : ℕ} (hM : Sub 941232454 M) {p1 : Word} {p2 : State} {t : State} (h : execRefLoss p1 p2 = .next t) : Chip.Inside p2.chip M t.chip := by
  refine State.act_inside h ?_
  intro z c1 hc1
  refine .ite hc1 ?_
  extract_lets +onlyGivenNames x2
  have hx2 : z.Inside M x2 := Chip.sets_inside (hM.up rfl) (Chip.monitor_inside (hM.up rfl) hc1)
  clear_value x2
  exact Chip.ringStop_inside (hM.up rfl) (Chip.canStop_inside (hM.up rfl) (Chip.faultEvery_inside (hM.up rfl) hx2))

theorem execRefMonitorTrip_inside {M : ℕ} (hM : Sub 1708354 M) {p1 : State} {t : State} (h : execRefMonitorTrip p1 = .next t) : Chip.Inside p1.chip M t.chip :=
  State.act_inside h (fun _ c1 hc1 => .ite (Chip.faultEvery_inside (hM.up rfl) (Chip.put_inside (hM.up rfl) (Chip.put_inside (hM.up rfl) hc1))) hc1)

theorem execRefReady_inside {M : ℕ} (hM : Sub 8194 M) {p1 : State} {t : State} (h : execRefReady p1 = .next t) : Chip.Inside p1.chip M t.chip := by
  refine State.act_inside h ?_
  intro z c1 hc1
  refine .ite ?_ hc1
  extract_lets +onlyGivenNames x2
  have hx2 : z.Inside M x2 := Chip.put_inside (hM.up rfl) (Chip.put_inside (hM.up rfl) hc1)
  clear_value x2
  exact (Chip.Inside.mk_adc (hM.up rfl) hx2)

theorem execRefReturn_inside {M : ℕ} (hM : Sub 939524166 M) {p1 : State} {t : State} (h : execRefReturn p1 = .next t) : Chip.Inside p1.chip M t.chip := by
  refine State.act_inside h ?_
  intro z c1 hc1
  refine .ite ?_ (.ite (Chip.ringResume_inside (hM.up rfl) hc1) hc1)
  extract_lets +onlyGivenNames x2
  have hx2 : z.Inside M x2 := Chip.ringResume_inside (hM.up rfl) (Chip.sets_inside (hM.up rfl) hc1)
  clear_value x2
  exact .each hx2 (fun a3 t4 ht4 => Chip.porchLoad_inside (hM.up rfl) ht4)

theorem execRefSelect_inside {M : ℕ} (hM : Sub 8274 M) {p1 : Word} {p2 : State} {t : State} (h : execRefSelect p1 p2 = .next t) : Chip.Inside p2.chip M t.chip :=
  State.act_inside h (fun _ c1 hc1 => Chip.refWrite_inside (hM.up rfl) hc1)

theorem execRegionGateClose_inside {M : ℕ} (hM : Sub 2 M) {p1 : Fin 2} {p2 : State} {t : State} (h : execRegionGateClose p1 p2 = .next t) : Chip.Inside p2.chip M t.chip :=
  State.act_inside h (fun _ c1 hc1 => .ite (Chip.put_inside (hM.up rfl) hc1) hc1)

theorem execRegionResetEnd_inside {M : ℕ} (hM : Sub 2139095039 M) {p1 : Fin 2} {p2 : SlotOutcome} {p3 : State} {t : State} (h : execRegionResetEnd p1 p2 p3 = .next t) : Chip.Inside p3.chip M t.chip := .all hM

theorem execRegisterWrite_inside {M : ℕ} (hM : Sub 2139095039 M) {p1 : Requester} {p2 : Word} {p3 : Word} {p4 : State} {t : State} (h : execRegisterWrite p1 p2 p3 p4 = .next t) : Chip.Inside p4.chip M t.chip := .all hM

theorem execReload_inside {M : ℕ} (hM : Sub 3821890 M) {p1 : Fin 16} {p2 : Bool} {p3 : Option (Fin 8192)} {p4 : State} {t : State} (h : execReload p1 p2 p3 p4 = .next t) : Chip.Inside p4.chip M t.chip := by
  refine State.act_inside h ?_
  intro z c1 hc1
  refine .ite hc1 ?_
  extract_lets +onlyGivenNames x2
  clear_value x2
  extract_lets +onlyGivenNames x3
  clear_value x3
  extract_lets +onlyGivenNames x4
  have hx4 : z.Inside M x4 := .ite (Chip.peakTick_inside (hM.up rfl) hc1) (Chip.valleyTick_inside (hM.up rfl) hc1)
  clear_value x4
  extract_lets +onlyGivenNames x5
  have hx5 : z.Inside M x5 := by
    unfold x5
    split
    · rename_i y6 q7
      extract_lets +onlyGivenNames x8
      have hx8 : z.Inside M x8 := .ite (Chip.periodBoundary_inside (hM.up rfl) hx4) hx4
      clear_value x8
      exact .ite hx8 (Chip.profLookup_inside (hM.up rfl) hx8)
    · exact hx4
  clear_value x5
  exact hx5

theorem execReqAnswer_inside {M : ℕ} (hM : Sub 402653186 M) {p1 : Word} {p2 : State} {t : State} (h : execReqAnswer p1 p2 = .next t) : Chip.Inside p2.chip M t.chip :=
  State.act_inside h (fun _ c1 hc1 => Chip.reqAnswer_inside (hM.up rfl) hc1)

theorem execReqTimeout_inside {M : ℕ} (hM : Sub 402653250 M) {p1 : State} {t : State} (h : execReqTimeout p1 = .next t) : Chip.Inside p1.chip M t.chip := by
  refine State.act_inside h ?_
  intro z c1 hc1
  refine .ite hc1 ?_
  extract_lets +onlyGivenNames x2
  clear_value x2
  extract_lets +onlyGivenNames x3
  clear_value x3
  extract_lets +onlyGivenNames x4
  have hx4 : z.Inside M x4 := .ite hc1 (Chip.ackSend_inside (hM.up rfl) hc1)
  clear_value x4
  exact Chip.note_inside (hM.up rfl) (Chip.put_inside (hM.up rfl) hx4)

theorem execRequestRx_inside {M : ℕ} (hM : Sub 404468054 M) {p1 : Fin 4} {p2 : Byte} {p3 : Byte} {p4 : Fin 262144} {p5 : State} {t : State} (h : execRequestRx p1 p2 p3 p4 p5 = .next t) : Chip.Inside p5.chip M t.chip :=
  State.act_inside h (fun _ c1 hc1 => Chip.canRx_inside (hM.up rfl) hc1)

theorem execRequestUnknown_inside {M : ℕ} (hM : Sub 1814994 M) {p1 : Fin 4} {p2 : Fin 16} {p3 : State} {t : State} (h : execRequestUnknown p1 p2 p3 = .next t) : Chip.Inside p3.chip M t.chip :=
  State.act_inside h (fun _ c1 hc1 => .ite hc1 (Chip.rowWrite_inside (hM.up rfl) hc1 (fun v2 hv2 => Chip.request_inside (hM.up rfl) hv2)))

theorem execResetPinRelease_inside {M : ℕ} (hM : Sub 1708866 M) {p1 : State} {t : State} (h : execResetPinRelease p1 = .next t) : Chip.Inside p1.chip M t.chip := by
  refine State.actRaw_inside h ?_
  intro z c1 hc1
  refine .ite hc1 ?_
  extract_lets +onlyGivenNames x2
  clear_value x2
  extract_lets +onlyGivenNames x3
  have hx3 : z.Inside M x3 := Chip.set_inside (hM.up rfl) (Chip.modCfg_inside (hM.up rfl) hc1)
  clear_value x3
  exact .ite hx3 (Chip.tryRelease_inside (hM.up rfl) hx3)

theorem execResetPin_inside {M : ℕ} (hM : Sub 2139095039 M) {p1 : State} {t : State} (h : execResetPin p1 = .next t) : Chip.Inside p1.chip M t.chip := .all hM

theorem execResetRequest_inside {M : ℕ} (hM : Sub 1814994 M) {p1 : Fin 4} {p2 : State} {t : State} (h : execResetRequest p1 p2 = .next t) : Chip.Inside p2.chip M t.chip :=
  State.act_inside h (fun _ c1 hc1 => Chip.rowWrite_inside (hM.up rfl) hc1 (fun v2 hv2 => Chip.request_inside (hM.up rfl) hv2))

theorem execResetStuck_inside {M : ℕ} (hM : Sub 1708866 M) {p1 : State} {t : State} (h : execResetStuck p1 = .next t) : Chip.Inside p1.chip M t.chip := by
  refine State.actRaw_inside h ?_
  intro z c1 hc1
  refine .ite hc1 ?_
  extract_lets +onlyGivenNames x2
  have hx2 : z.Inside M x2 := Chip.set_inside (hM.up rfl) hc1
  clear_value x2
  extract_lets +onlyGivenNames x3
  extract_lets +onlyGivenNames x4
  extract_lets +onlyGivenNames x5
  have hx5 : z.Inside M x5 := by
    exact Chip.Inside.mk_log (hM.up rfl) hx2
  clear_value x5
  extract_lets +onlyGivenNames x6
  have hx6 : z.Inside M x6 := Chip.modCfg_inside (hM.up rfl) (Chip.retain_inside (hM.up rfl) hx5)
  clear_value x6
  exact .ite (Chip.note_inside (hM.up rfl) (Chip.tryRelease_inside (hM.up rfl) (Chip.put_inside (hM.up rfl) hx6))) hx6

theorem execRingBreak_inside {M : ℕ} (hM : Sub 536870978 M) {p1 : Bool} {p2 : Fin 256} {p3 : State} {t : State} (h : execRingBreak p1 p2 p3 = .next t) : Chip.Inside p3.chip M t.chip :=
  State.act_inside h (fun _ c1 hc1 => Chip.linkLost_inside (hM.up rfl) hc1)

theorem execRingClrErr_inside {M : ℕ} (hM : Sub 466 M) {p1 : State} {t : State} (h : execRingClrErr p1 = .next t) : Chip.Inside p1.chip M t.chip :=
  State.act_inside h (fun _ c1 hc1 => Chip.rowWrite_inside (hM.up rfl) hc1 (fun v2 hv2 => Chip.sets_inside (hM.up rfl) hv2))

theorem execRingDisable_inside {M : ℕ} (hM : Sub 939524566 M) {p1 : State} {t : State} (h : execRingDisable p1 = .next t) : Chip.Inside p1.chip M t.chip :=
  State.act_inside h (fun _ c1 hc1 => Chip.rowWrite_inside (hM.up rfl) hc1 (fun v2 hv2 => Chip.ringOff_inside (hM.up rfl) hv2))

theorem execRingEnable_inside {M : ℕ} (hM : Sub 939524566 M) {p1 : State} {t : State} (h : execRingEnable p1 = .next t) : Chip.Inside p1.chip M t.chip :=
  State.act_inside h (fun _ c1 hc1 => Chip.rowWrite_inside (hM.up rfl) hc1 (fun v2 hv2 => Chip.ringEnable_inside (hM.up rfl) hv2))

theorem execRingMsgEnable_inside {M : ℕ} (hM : Sub 466 M) {p1 : Word} {p2 : State} {t : State} (h : execRingMsgEnable p1 p2 = .next t) : Chip.Inside p2.chip M t.chip :=
  State.act_inside h (fun _ c1 hc1 => Chip.rowWrite_inside (hM.up rfl) hc1 (fun v2 hv2 => Chip.msgCfg_inside (hM.up rfl) hv2))

theorem execRingStartTimeout_inside {M : ℕ} (hM : Sub 402653254 M) {p1 : State} {t : State} (h : execRingStartTimeout p1 = .next t) : Chip.Inside p1.chip M t.chip := by
  refine State.act_inside h ?_
  intro z c1 hc1
  extract_lets +onlyGivenNames x2
  clear_value x2
  exact .ite (Chip.becomeActive_inside (hM.up rfl) hc1) hc1

theorem execRstUnmasked_inside {M : ℕ} (hM : Sub 578 M) {p1 : State} {t : State} (h : execRstUnmasked p1 = .next t) : Chip.Inside p1.chip M t.chip :=
  State.actRaw_inside h (fun _ c1 hc1 => .ite hc1 (Chip.note_inside (hM.up rfl) (Chip.modCfg_inside (hM.up rfl) (Chip.put_inside (hM.up rfl) hc1))))

theorem execRunRequest_inside {M : ℕ} (hM : Sub 1814994 M) {p1 : Fin 4} {p2 : State} {t : State} (h : execRunRequest p1 p2 = .next t) : Chip.Inside p2.chip M t.chip :=
  State.act_inside h (fun _ c1 hc1 => Chip.rowWrite_inside (hM.up rfl) hc1 (fun v2 hv2 => Chip.request_inside (hM.up rfl) hv2))

theorem execRxSlotFree_inside {M : ℕ} (hM : Sub 466 M) {p1 : Fin 4} {p2 : State} {t : State} (h : execRxSlotFree p1 p2 = .next t) : Chip.Inside p2.chip M t.chip :=
  State.act_inside h (fun _ c1 hc1 => Chip.rowWrite_inside (hM.up rfl) hc1 (fun v2 hv2 => Chip.put_inside (hM.up rfl) hv2))

theorem execRxfPop_inside {M : ℕ} (hM : Sub 134218194 M) {p1 : Fin 4} {p2 : State} {t : State} (h : execRxfPop p1 p2 = .next t) : Chip.Inside p2.chip M t.chip :=
  State.act_inside h (fun _ c1 hc1 => Chip.rowWrite_inside (hM.up rfl) hc1 (fun v2 hv2 => Chip.rxPop_inside (hM.up rfl) hv2))

theorem execSafeMsgLost_inside {M : ℕ} (hM : Sub 1814866 M) {p1 : Fin 4} {p2 : State} {t : State} (h : execSafeMsgLost p1 p2 = .next t) : Chip.Inside p2.chip M t.chip :=
  State.act_inside h (fun _ c1 hc1 => .ite (Chip.ss1Begin_inside (hM.up rfl) (Chip.noteCl_inside (hM.up rfl) (Chip.modCl_inside (hM.up rfl) hc1))) hc1)

theorem execSafeRetry_inside {M : ℕ} (hM : Sub 1773890 M) {p1 : Fin 4} {p2 : Fin 65536} {p3 : State} {t : State} (h : execSafeRetry p1 p2 p3 = .next t) : Chip.Inside p3.chip M t.chip := by
  refine State.act_inside h ?_
  intro z c1 hc1
  split
  · rename_i y2 y3 y4 q5
    split
    · exact hc1
    · rename_i y8 q9
      extract_lets +onlyGivenNames x10
      have hx10 : z.Inside M x10 := Chip.modCl_inside (hM.up rfl) hc1
      clear_value x10
      extract_lets +onlyGivenNames x11
      have hx11 : z.Inside M x11 := Chip.set_inside (hM.up rfl) hx10
      clear_value x11
      exact Chip.tryLeaveSafe_inside (hM.up rfl) (Chip.refreshHold_inside (hM.up rfl) (Chip.dropFault_inside (hM.up rfl) hx11))
  · exact hc1

theorem execSafetyTick_inside {M : ℕ} (hM : Sub 1814866 M) {p1 : State} {t : State} (h : execSafetyTick p1 = .next t) : Chip.Inside p1.chip M t.chip := by
  refine State.act_inside h ?_
  intro z c1 hc1
  refine .ite hc1 ?_
  extract_lets +onlyGivenNames x2
  extract_lets +onlyGivenNames x3
  have hx3 : z.Inside M x3 := Chip.pulse_inside (hM.up rfl) (Chip.pulse_inside (hM.up rfl) (Chip.Inside.mk_safe (hM.up rfl) hc1))
  clear_value x3
  exact .each (Chip.ctrLook_inside (hM.up rfl) hx3) (fun a4 t5 ht5 => .ite (Chip.ackJudge_inside (hM.up rfl) (Chip.ss1Judge_inside (hM.up rfl) (Chip.slsJudge_inside (hM.up rfl) (Chip.tqJudge_inside (hM.up rfl) ht5)))) ht5)

theorem execSarResultWrite_inside {M : ℕ} (hM : Sub 3928402 M) {p1 : Fin 4} {p2 : Sampled (List (Fin 28 × Fin 4194304))} {p3 : Upset} {p4 : State} {t : State} (h : execSarResultWrite p1 p2 p3 p4 = .next t) : Chip.Inside p4.chip M t.chip := by
  refine State.act_inside h ?_
  intro z c1 hc1
  extract_lets +onlyGivenNames x2
  have hx2 : z.Inside M x2 := Chip.sampleNow_inside (hM.up rfl) hc1
  clear_value x2
  extract_lets +onlyGivenNames x3
  clear_value x3
  extract_lets +onlyGivenNames x4
  extract_lets +onlyGivenNames x5
  refine .ite hx2 ?_
  extract_lets +onlyGivenNames x6
  extract_lets +onlyGivenNames x7
  have hx7 : z.Inside M x7 := .ite hx2 (Chip.refShown_inside (hM.up rfl) hx2)
  clear_value x7
  extract_lets +onlyGivenNames x8
  have hx8 : z.Inside M x8 := .each hx7 (fun a9 t10 ht10 => Chip.sarDeliver_inside (hM.up rfl) ht10)
  clear_value x8
  extract_lets +onlyGivenNames x11
  extract_lets +onlyGivenNames x12
  have hx12 : z.Inside M x12 := .each hx8 (fun a13 t14 ht14 => Chip.sdDead_inside (hM.up rfl) ht14)
  clear_value x12
  exact Chip.resultsIn_inside (hM.up rfl) hx12

theorem execScanEntryResult_inside {M : ℕ} (hM : Sub 2105410 M) {p1 : Fin 16} {p2 : Sampled (List (Fin 4194304))} {p3 : State} {t : State} (h : execScanEntryResult p1 p2 p3 = .next t) : Chip.Inside p3.chip M t.chip := by
  refine State.act_inside h ?_
  intro z c1 hc1
  split
  · exact hc1
  · rename_i y4 q5
    refine .ite hc1 ?_
    extract_lets +onlyGivenNames x6
    extract_lets +onlyGivenNames x7
    clear_value x7
    extract_lets +onlyGivenNames x8
    clear_value x8
    extract_lets +onlyGivenNames x9
    have hx9 : z.Inside M x9 := Chip.refShown_inside (hM.up rfl) hc1
    clear_value x9
    extract_lets +onlyGivenNames x10
    clear_value x10
    extract_lets +onlyGivenNames x11
    extract_lets +onlyGivenNames x12
    clear_value x12
    extract_lets +onlyGivenNames x13
    have hx13 : z.Inside M x13 := by
      unfold x13
      refine .each hx9 ?_
      intro a14 t15 ht15
      extract_lets +onlyGivenNames x16
      clear_value x16
      extract_lets +onlyGivenNames x17
      clear_value x17
      split <;> exact Chip.sets_inside (hM.up rfl) ht15
    clear_value x13
    extract_lets +onlyGivenNames x21
    have hx21 : z.Inside M x21 := Chip.sets_inside (hM.up rfl) hx13
    clear_value x21
    extract_lets +onlyGivenNames x22
    extract_lets +onlyGivenNames x23
    have hx23 : z.Inside M x23 := (Chip.Inside.mk_adc (hM.up rfl) hx21)
    clear_value x23
    extract_lets +onlyGivenNames x24
    have hx24 : z.Inside M x24 := .ite (.each hx23 (fun a25 t26 ht26 => Chip.windResult_inside (hM.up rfl) ht26)) hx23
    clear_value x24
    exact Chip.scanEnd_inside (hM.up rfl) hx24

theorem execScanEntryStart_inside {M : ℕ} (hM : Sub 8194 M) {p1 : Fin 16} {p2 : State} {t : State} (h : execScanEntryStart p1 p2 = .next t) : Chip.Inside p2.chip M t.chip := by
  refine State.act_inside h ?_
  intro z c1 hc1
  refine .ite hc1 ?_
  extract_lets +onlyGivenNames x2
  clear_value x2
  extract_lets +onlyGivenNames x3
  extract_lets +onlyGivenNames x4
  have hx4 : z.Inside M x4 := Chip.set_inside (hM.up rfl) hc1
  clear_value x4
  extract_lets +onlyGivenNames x5
  extract_lets +onlyGivenNames x6
  have hx6 : z.Inside M x6 := (Chip.Inside.mk_adc (hM.up rfl) hx4)
  clear_value x6
  exact Chip.scanSkip_inside (hM.up rfl) (Chip.scanSamples_inside (hM.up rfl) hx6)

theorem execScanStart_inside {M : ℕ} (hM : Sub 8258 M) {p1 : State} {t : State} (h : execScanStart p1 = .next t) : Chip.Inside p1.chip M t.chip :=
  State.act_inside h (fun _ c1 hc1 => Chip.scanStart_inside (hM.up rfl) hc1)

theorem execScrub_inside {M : ℕ} (hM : Sub 125549054 M) {p1 : Fin 5} {p2 : Fin 524288} {p3 : Fin 3} {p4 : State} {t : State} (h : execScrub p1 p2 p3 p4 = .next t) : Chip.Inside p4.chip M t.chip := by
  refine State.act_inside h ?_
  intro z c1 hc1
  extract_lets +onlyGivenNames x2
  clear_value x2
  extract_lets +onlyGivenNames x3
  clear_value x3
  extract_lets +onlyGivenNames x4
  clear_value x4
  exact .ite hc1 (Chip.eccRead_inside (hM.up rfl) hc1)

theorem execSdClkCfgWrite_inside {M : ℕ} (hM : Sub 8274 M) {p1 : Word} {p2 : State} {t : State} (h : execSdClkCfgWrite p1 p2 = .next t) : Chip.Inside p2.chip M t.chip :=
  State.act_inside h (fun _ c1 hc1 => Chip.sdClkWrite_inside (hM.up rfl) hc1)

theorem execSdResultWrite_inside {M : ℕ} (hM : Sub 3920210 M) {p1 : Fin 12} {p2 : List Bool} {p3 : Bool} {p4 : Upset} {p5 : State} {t : State} (h : execSdResultWrite p1 p2 p3 p4 p5 = .next t) : Chip.Inside p5.chip M t.chip := by
  refine State.act_inside h ?_
  intro z c1 hc1
  split
  · exact hc1
  · rename_i y4 q5
    split
    · exact hc1
    · rename_i y8 y9 q10
      extract_lets +onlyGivenNames x11
      clear_value x11
      refine .ite hc1 ?_
      extract_lets +onlyGivenNames x12
      have hx12 : z.Inside M x12 := Chip.sampleNow_inside (hM.up rfl) hc1
      clear_value x12
      extract_lets +onlyGivenNames x13
      clear_value x13
      extract_lets +onlyGivenNames x14
      clear_value x14
      extract_lets +onlyGivenNames x15
      have hx15 : z.Inside M x15 := Chip.sets_inside (hM.up rfl) hx12
      clear_value x15
      extract_lets +onlyGivenNames x16
      have hx16 : z.Inside M x16 := Chip.deliver_inside (hM.up rfl) hx15
      clear_value x16
      extract_lets +onlyGivenNames x17
      clear_value x17
      exact Chip.resultsIn_inside (hM.up rfl) hx16

theorem execSdStreamRecover_inside {M : ℕ} (hM : Sub 8192 M) {p1 : Fin 12} {p2 : State} {t : State} (h : execSdStreamRecover p1 p2 = .next t) : Chip.Inside p2.chip M t.chip :=
  State.act_inside h (fun _ c1 hc1 => .ite (Chip.Inside.mk_adc (hM.up rfl) hc1) hc1)

theorem execSdStuck_inside {M : ℕ} (hM : Sub 1716546 M) {p1 : Fin 12} {p2 : Bool} {p3 : State} {t : State} (h : execSdStuck p1 p2 p3 = .next t) : Chip.Inside p3.chip M t.chip := by
  refine State.act_inside h ?_
  intro z c1 hc1
  refine .ite hc1 ?_
  extract_lets +onlyGivenNames x2
  extract_lets +onlyGivenNames x3
  have hx3 : z.Inside M x3 := (Chip.Inside.mk_adc (hM.up rfl) hc1)
  clear_value x3
  extract_lets +onlyGivenNames x4
  have hx4 : z.Inside M x4 := Chip.setBitOf_inside (hM.up rfl) (Chip.put_inside (hM.up rfl) hx3)
  clear_value x4
  exact Chip.faultOn_inside (hM.up rfl) hx4

theorem execSemCancel_inside {M : ℕ} (hM : Sub 2139095039 M) {p1 : Requester} {p2 : Fin 32} {p3 : State} {t : State} (h : execSemCancel p1 p2 p3 = .next t) : Chip.Inside p3.chip M t.chip := .all hM

theorem execSemGive_inside {M : ℕ} (hM : Sub 2139095039 M) {p1 : Requester} {p2 : Fin 32} {p3 : State} {t : State} (h : execSemGive p1 p2 p3 = .next t) : Chip.Inside p3.chip M t.chip := .all hM

theorem execSemTakeOrWait_inside {M : ℕ} (hM : Sub 2139095039 M) {p1 : Requester} {p2 : Fin 32} {p3 : State} {t : State} (h : execSemTakeOrWait p1 p2 p3 = .next t) : Chip.Inside p3.chip M t.chip := .all hM

theorem execSemTake_inside {M : ℕ} (hM : Sub 2139095039 M) {p1 : Requester} {p2 : Fin 32} {p3 : State} {t : State} (h : execSemTake p1 p2 p3 = .next t) : Chip.Inside p3.chip M t.chip := .all hM

theorem execSentFrame_inside {M : ℕ} (hM : Sub 32834 M) {p1 : Fin 2} {p2 : Fin 2097152} {p3 : List (Fin 2097152)} {p4 : State} {t : State} (h : execSentFrame p1 p2 p3 p4 = .next t) : Chip.Inside p4.chip M t.chip :=
  State.act_inside h (fun _ c1 hc1 => Chip.sentRx_inside (hM.up rfl) hc1)

theorem execSentTimeout_inside {M : ℕ} (hM : Sub 32834 M) {p1 : Fin 2} {p2 : State} {t : State} (h : execSentTimeout p1 p2 = .next t) : Chip.Inside p2.chip M t.chip :=
  State.act_inside h (fun _ c1 hc1 => Chip.sourceTimeout_inside (hM.up rfl) hc1)

theorem execSleepRailWaitEnd_inside {M : ℕ} (hM : Sub 258 M) {p1 : Bool} {p2 : State} {t : State} (h : execSleepRailWaitEnd p1 p2 = .next t) : Chip.Inside p2.chip M t.chip := by
  refine State.actRaw_inside h ?_
  intro z c1 hc1
  split
  · rename_i y2 q3
    extract_lets +onlyGivenNames x4
    have hx4 : z.Inside M x4 := Chip.modPwr_inside (hM.up rfl) (Chip.put_inside (hM.up rfl) hc1)
    clear_value x4
    exact .ite (Chip.sets_inside (hM.up rfl) hx4) hx4
  · exact hc1

theorem execSleepRequest_inside {M : ℕ} (hM : Sub 322 M) {p1 : Word} {p2 : State} {t : State} (h : execSleepRequest p1 p2 = .next t) : Chip.Inside p2.chip M t.chip :=
  State.act_inside h (fun _ c1 hc1 => Chip.sleepWrite_inside (hM.up rfl) hc1)

theorem execSliceRun_inside {M : ℕ} (hM : Sub 131538 M) {p1 : Fin 16} {p2 : State} {t : State} (h : execSliceRun p1 p2 = .next t) : Chip.Inside p2.chip M t.chip :=
  State.act_inside h (fun _ c1 hc1 => Chip.rowWrite_inside (hM.up rfl) hc1 (fun v2 hv2 => Chip.sliceRun_inside (hM.up rfl) hv2))

theorem execSliceStop_inside {M : ℕ} (hM : Sub 131538 M) {p1 : Fin 16} {p2 : State} {t : State} (h : execSliceStop p1 p2 = .next t) : Chip.Inside p2.chip M t.chip :=
  State.act_inside h (fun _ c1 hc1 => Chip.rowWrite_inside (hM.up rfl) hc1 (fun v2 hv2 => Chip.sliceStop_inside (hM.up rfl) hv2))

theorem execSlotWrite_inside {M : ℕ} (hM : Sub 82 M) {p1 : Fin 4} {p2 : Fin 28} {p3 : Word} {p4 : State} {t : State} (h : execSlotWrite p1 p2 p3 p4 = .next t) : Chip.Inside p4.chip M t.chip := by
  refine State.act_inside h ?_
  intro z c1 hc1
  extract_lets +onlyGivenNames x2
  clear_value x2
  exact .ite (Chip.slotWritten_inside (hM.up rfl) (Chip.configWord_inside (hM.up rfl) hc1)) (Chip.refuse_inside (hM.up rfl) hc1)

theorem execSnap_inside {M : ℕ} (hM : Sub 33234 M) {p1 : Fin 2} {p2 : State} {t : State} (h : execSnap p1 p2 = .next t) : Chip.Inside p2.chip M t.chip :=
  State.act_inside h (fun _ c1 hc1 => Chip.rowWrite_inside (hM.up rfl) hc1 (fun v2 hv2 => Chip.posSnap_inside (hM.up rfl) hv2))

theorem execSoftReset_inside {M : ℕ} (hM : Sub 2 M) {p1 : State} {t : State} (h : execSoftReset p1 = .next t) : Chip.Inside p1.chip M t.chip :=
  State.act_inside h (fun _ c1 hc1 => Chip.put_inside (hM.up rfl) hc1)

theorem execSpeedLimit_inside {M : ℕ} (hM : Sub 1814866 M) {p1 : Fin 4} {p2 : State} {t : State} (h : execSpeedLimit p1 p2 = .next t) : Chip.Inside p2.chip M t.chip := by
  refine State.act_inside h ?_
  intro z c1 hc1
  refine .ite ?_ hc1
  extract_lets +onlyGivenNames x2
  clear_value x2
  exact Chip.ss1Begin_inside (hM.up rfl) (Chip.noteCl_inside (hM.up rfl) (Chip.modCl_inside (hM.up rfl) hc1))

theorem execSplitRequest_inside {M : ℕ} (hM : Sub 1814994 M) {p1 : Fin 4} {p2 : State} {t : State} (h : execSplitRequest p1 p2 = .next t) : Chip.Inside p2.chip M t.chip :=
  State.act_inside h (fun _ c1 hc1 => Chip.rowWrite_inside (hM.up rfl) hc1 (fun v2 hv2 => Chip.request_inside (hM.up rfl) hv2))

theorem execSplitTakeEffect_inside {M : ℕ} (hM : Sub 1814610 M) {p1 : Fin 4} {p2 : State} {t : State} (h : execSplitTakeEffect p1 p2 = .next t) : Chip.Inside p2.chip M t.chip :=
  State.act_inside h (fun _ c1 hc1 => .ite (Chip.splitNow_inside (hM.up rfl) hc1) hc1)

theorem execSqDoorbell_inside {M : ℕ} (hM : Sub 2139095039 M) {p1 : Requester} {p2 : Fin 8} {p3 : Word} {p4 : State} {t : State} (h : execSqDoorbell p1 p2 p3 p4 = .next t) : Chip.Inside p4.chip M t.chip := .all hM

theorem execSs1Start_inside {M : ℕ} (hM : Sub 1814866 M) {p1 : Fin 4} {p2 : State} {t : State} (h : execSs1Start p1 p2 = .next t) : Chip.Inside p2.chip M t.chip :=
  State.act_inside h (fun _ c1 hc1 => Chip.ss1Begin_inside (hM.up rfl) hc1)

theorem execSs1Timeout_inside {M : ℕ} (hM : Sub 1708354 M) {p1 : Fin 4} {p2 : State} {t : State} (h : execSs1Timeout p1 p2 = .next t) : Chip.Inside p2.chip M t.chip :=
  State.act_inside h (fun _ c1 hc1 => .ite (Chip.pcSto_inside (hM.up rfl) hc1) hc1)

theorem execStandstill_inside {M : ℕ} (hM : Sub 32770 M) {p1 : Fin 2} {p2 : State} {t : State} (h : execStandstill p1 p2 = .next t) : Chip.Inside p2.chip M t.chip :=
  State.act_inside h (fun _ c1 hc1 => .ite (Chip.declareStandstill_inside (hM.up rfl) hc1) hc1)

theorem execStatusFrame_inside {M : ℕ} (hM : Sub 1708354 M) {p1 : ChanFrame} {p2 : Fin 65536} {p3 : Fin 65536} {p4 : Word} {p5 : Word} {p6 : State} {t : State} (h : execStatusFrame p1 p2 p3 p4 p5 p6 = .next t) : Chip.Inside p6.chip M t.chip := by
  refine State.act_inside h ?_
  intro z c1 hc1
  extract_lets +onlyGivenNames x2
  extract_lets +onlyGivenNames x3
  clear_value x3
  refine .ite hc1 ?_
  refine .ite (Chip.crcError_inside (hM.up rfl) hc1) ?_
  extract_lets +onlyGivenNames x4
  have hx4 : z.Inside M x4 := Chip.statusWarn_inside (hM.up rfl) (Chip.statusWords_inside (hM.up rfl) hc1)
  clear_value x4
  extract_lets +onlyGivenNames x5
  have hx5 : z.Inside M x5 := .ite (Chip.put_inside (hM.up rfl) hx4) hx4
  clear_value x5
  extract_lets +onlyGivenNames x6
  have hx6 : z.Inside M x6 := Chip.showSupply_inside (hM.up rfl) hx5
  clear_value x6
  extract_lets +onlyGivenNames x7
  clear_value x7
  refine .ite ?_ (Chip.set_inside (hM.up rfl) hx6)
  extract_lets +onlyGivenNames x8
  clear_value x8
  extract_lets +onlyGivenNames x9
  have hx9 : z.Inside M x9 := .ite (Chip.set_inside (hM.up rfl) (Chip.gateAway_inside (hM.up rfl) hx6)) (Chip.handshakeStop_inside (hM.up rfl) (Chip.islShow_inside (hM.up rfl) (Chip.gateAway_inside (hM.up rfl) hx6)))
  clear_value x9
  exact Chip.islFall_inside (hM.up rfl) (Chip.islDetect_inside (hM.up rfl) hx9)

theorem execStatusMessage_inside {M : ℕ} (hM : Sub 402653202 M) {p1 : Fin 4} {p2 : Bool} {p3 : State} {t : State} (h : execStatusMessage p1 p2 p3 = .next t) : Chip.Inside p3.chip M t.chip := by
  refine State.act_inside h ?_
  intro z c1 hc1
  refine .ite hc1 ?_
  refine .ite (.ite hc1 (Chip.statusSend_inside (hM.up rfl) hc1)) ?_
  extract_lets +onlyGivenNames x2
  clear_value x2
  exact .ite hc1 (.each (Chip.modPort_inside (hM.up rfl) hc1) (fun a3 t4 ht4 => Chip.statusSend_inside (hM.up rfl) ht4))

theorem execStoDemand_inside {M : ℕ} (hM : Sub 1708354 M) {p1 : Bool} {p2 : State} {t : State} (h : execStoDemand p1 p2 = .next t) : Chip.Inside p2.chip M t.chip := by
  refine State.act_inside h ?_
  intro z c1 hc1
  extract_lets +onlyGivenNames x2
  refine .ite hc1 ?_
  extract_lets +onlyGivenNames x3
  have hx3 : z.Inside M x3 := Chip.showDisc_inside (hM.up rfl) (Chip.put_inside (hM.up rfl) (Chip.put_inside (hM.up rfl) hc1))
  clear_value x3
  exact Chip.faultAll_inside (hM.up rfl) hx3

theorem execStoDiscrepancy_inside {M : ℕ} (hM : Sub 1708354 M) {p1 : State} {t : State} (h : execStoDiscrepancy p1 = .next t) : Chip.Inside p1.chip M t.chip :=
  State.act_inside h (fun _ c1 hc1 => .ite hc1 (Chip.faultEvery_inside (hM.up rfl) (Chip.put_inside (hM.up rfl) (Chip.Inside.mk_safe (hM.up rfl) hc1))))

theorem execStoRelease_inside {M : ℕ} (hM : Sub 1773890 M) {p1 : Bool} {p2 : State} {t : State} (h : execStoRelease p1 p2 = .next t) : Chip.Inside p2.chip M t.chip := by
  refine State.act_inside h ?_
  intro z c1 hc1
  extract_lets +onlyGivenNames x2
  exact .ite (Chip.settleHolds_inside (hM.up rfl) (Chip.showDisc_inside (hM.up rfl) (Chip.put_inside (hM.up rfl) (Chip.put_inside (hM.up rfl) hc1)))) hc1

theorem execStopRequest_inside {M : ℕ} (hM : Sub 1814994 M) {p1 : Fin 4} {p2 : State} {t : State} (h : execStopRequest p1 p2 = .next t) : Chip.Inside p2.chip M t.chip :=
  State.act_inside h (fun _ c1 hc1 => Chip.rowWrite_inside (hM.up rfl) hc1 (fun v2 hv2 => Chip.request_inside (hM.up rfl) hv2))

theorem execSupplyModeWrite_inside {M : ℕ} (hM : Sub 524754 M) {p1 : Fin 12} {p2 : Word} {p3 : State} {t : State} (h : execSupplyModeWrite p1 p2 p3 = .next t) : Chip.Inside p3.chip M t.chip :=
  State.act_inside h (fun _ c1 hc1 => Chip.rowWrite_inside (hM.up rfl) hc1 (fun v2 hv2 => Chip.mirrorSet_inside (hM.up rfl) hv2))

theorem execSwModuleReset_inside {M : ℕ} (hM : Sub 2139095039 M) {p1 : Word} {p2 : State} {t : State} (h : execSwModuleReset p1 p2 = .next t) : Chip.Inside p2.chip M t.chip := .all hM

theorem execSwRegionReset_inside {M : ℕ} (hM : Sub 2139095039 M) {p1 : Word} {p2 : State} {t : State} (h : execSwRegionReset p1 p2 = .next t) : Chip.Inside p2.chip M t.chip := .all hM

theorem execSwi_inside {M : ℕ} (hM : Sub 2 M) {p1 : Word} {p2 : State} {t : State} (h : execSwi p1 p2 = .next t) : Chip.Inside p2.chip M t.chip :=
  State.act_inside h (fun _ c1 hc1 => Chip.swiWrite_inside (hM.up rfl) hc1)

theorem execTimNowRead_inside {M : ℕ} (hM : Sub 2139095039 M) {p1 : Requester} {p2 : State} {t : State} (h : execTimNowRead p1 p2 = .next t) : Chip.Inside p2.chip M t.chip := .all hM

theorem execTimerCompare_inside {M : ℕ} (hM : Sub 2 M) {p1 : Fin 4} {p2 : Fin 2} {p3 : State} {t : State} (h : execTimerCompare p1 p2 p3 = .next t) : Chip.Inside p3.chip M t.chip := by
  refine State.act_inside h ?_
  intro z c1 hc1
  extract_lets +onlyGivenNames x2
  clear_value x2
  exact .ite (Chip.privateSrc_inside (hM.up rfl) hc1) hc1

theorem execTltoHoldEnd_inside {M : ℕ} (hM : Sub 524288 M) {p1 : Fin 12} {p2 : State} {t : State} (h : execTltoHoldEnd p1 p2 = .next t) : Chip.Inside p2.chip M t.chip :=
  State.act_inside h (fun _ c1 hc1 => .ite (Chip.modIsl_inside (hM.up rfl) hc1) hc1)

theorem execTokenCheckEnd_inside {M : ℕ} (hM : Sub 594 M) {p1 : Bool} {p2 : State} {t : State} (h : execTokenCheckEnd p1 p2 = .next t) : Chip.Inside p2.chip M t.chip := by
  refine State.act_inside h ?_
  intro z c1 hc1
  split
  · exact hc1
  · rename_i y4 q5
    extract_lets +onlyGivenNames x6
    clear_value x6
    extract_lets +onlyGivenNames x7
    have hx7 : z.Inside M x7 := Chip.put_inside (hM.up rfl) (Chip.modCfg_inside (hM.up rfl) hc1)
    clear_value x7
    split
    · exact Chip.tokenReject_inside (hM.up rfl) hx7
    · exact .ite (Chip.tokenAccept_inside (hM.up rfl) hx7) (Chip.tokenReject_inside (hM.up rfl) hx7)

theorem execTokenSubmit_inside {M : ℕ} (hM : Sub 578 M) {p1 : Word} {p2 : State} {t : State} (h : execTokenSubmit p1 p2 = .next t) : Chip.Inside p2.chip M t.chip :=
  State.act_inside h (fun _ c1 hc1 => Chip.tokenWrite_inside (hM.up rfl) hc1)

theorem execTpCancel_inside {M : ℕ} (hM : Sub 402653254 M) {p1 : Fin 8} {p2 : State} {t : State} (h : execTpCancel p1 p2 = .next t) : Chip.Inside p2.chip M t.chip :=
  State.act_inside h (fun _ c1 hc1 => Chip.sesCancel_inside (hM.up rfl) hc1)

theorem execTpCmRx_inside {M : ℕ} (hM : Sub 404468054 M) {p1 : Fin 4} {p2 : Bool} {p3 : Byte} {p4 : Byte} {p5 : Vector Byte 8} {p6 : State} {t : State} (h : execTpCmRx p1 p2 p3 p4 p5 p6 = .next t) : Chip.Inside p6.chip M t.chip :=
  State.act_inside h (fun _ c1 hc1 => Chip.canRx_inside (hM.up rfl) hc1)

theorem execTpDtRx_inside {M : ℕ} (hM : Sub 404468054 M) {p1 : Fin 4} {p2 : Bool} {p3 : Byte} {p4 : Byte} {p5 : Vector Byte 8} {p6 : State} {t : State} (h : execTpDtRx p1 p2 p3 p4 p5 p6 = .next t) : Chip.Inside p6.chip M t.chip :=
  State.act_inside h (fun _ c1 hc1 => Chip.canRx_inside (hM.up rfl) hc1)

theorem execTpRelease_inside {M : ℕ} (hM : Sub 2 M) {p1 : Fin 16} {p2 : State} {t : State} (h : execTpRelease p1 p2 = .next t) : Chip.Inside p2.chip M t.chip :=
  State.act_inside h (fun _ c1 hc1 => .ite (Chip.sesRelease_inside (hM.up rfl) hc1) hc1)

theorem execTpSendStart_inside {M : ℕ} (hM : Sub 402653254 M) {p1 : Fin 8} {p2 : Word} {p3 : State} {t : State} (h : execTpSendStart p1 p2 p3 = .next t) : Chip.Inside p3.chip M t.chip :=
  State.act_inside h (fun _ c1 hc1 => Chip.sesCtlWrite_inside (hM.up rfl) hc1)

theorem execTpTimeout_inside {M : ℕ} (hM : Sub 402653254 M) {p1 : Fin 16} {p2 : State} {t : State} (h : execTpTimeout p1 p2 = .next t) : Chip.Inside p2.chip M t.chip := by
  refine State.act_inside h ?_
  intro z c1 hc1
  extract_lets +onlyGivenNames x2
  clear_value x2
  exact .ite (Chip.sesAbort_inside (hM.up rfl) hc1) hc1

theorem execTqImplausible_inside {M : ℕ} (hM : Sub 1708354 M) {p1 : Fin 4} {p2 : State} {t : State} (h : execTqImplausible p1 p2 = .next t) : Chip.Inside p2.chip M t.chip :=
  State.act_inside h (fun _ c1 hc1 => .ite (Chip.pcSto_inside (hM.up rfl) (Chip.modCl_inside (hM.up rfl) hc1)) hc1)

theorem execTraceCopy_inside {M : ℕ} (hM : Sub 67108886 M) {p1 : Fin 8} {p2 : State} {t : State} (h : execTraceCopy p1 p2 = .next t) : Chip.Inside p2.chip M t.chip :=
  State.act_inside h (fun _ c1 hc1 => Chip.traceCopy_inside (hM.up rfl) hc1)

theorem execTrace_inside {M : ℕ} (hM : Sub 67108882 M) {p1 : Fin 8} {p2 : State} {t : State} (h : execTrace p1 p2 = .next t) : Chip.Inside p2.chip M t.chip :=
  State.act_inside h (fun _ c1 hc1 => Chip.descItem_inside (hM.up rfl) hc1 (fun v2 v3 hv3 => hv3))

theorem execTriggerMatch_inside {M : ℕ} (hM : Sub 1831234 M) {p1 : Fin 16} {p2 : Fin 4} {p3 : Bool} {p4 : State} {t : State} (h : execTriggerMatch p1 p2 p3 p4 = .next t) : Chip.Inside p4.chip M t.chip := by
  refine State.act_inside h ?_
  intro z c1 hc1
  split
  · rename_i y2 y3 q4
    extract_lets +onlyGivenNames x5
    clear_value x5
    refine .ite hc1 ?_
    extract_lets +onlyGivenNames x6
    have hx6 : z.Inside M x6 := Chip.setBitOf_inside (hM.up rfl) hc1
    clear_value x6
    extract_lets +onlyGivenNames x7
    have hx7 : z.Inside M x7 := by
      unfold x7
      split
      · exact .ite (Chip.triggerPass_inside (hM.up rfl) hx6) hx6
      · exact hx6
    clear_value x7
    exact .ite (Chip.scanStart_inside (hM.up rfl) hx7) hx7

theorem execTwinHeartbeatRx_inside {M : ℕ} (hM : Sub 536870914 M) {p1 : Fin 4} {p2 : Bool} {p3 : State} {t : State} (h : execTwinHeartbeatRx p1 p2 p3 = .next t) : Chip.Inside p3.chip M t.chip :=
  State.act_inside h (fun _ c1 hc1 => .ite (Chip.modRing_inside (hM.up rfl) (Chip.set_inside (hM.up rfl) hc1)) (Chip.bump_inside (hM.up rfl) hc1))

theorem execTwinSigBack_inside {M : ℕ} (hM : Sub 2 M) {p1 : State} {t : State} (h : execTwinSigBack p1 = .next t) : Chip.Inside p1.chip M t.chip :=
  State.act_inside h (fun _ c1 hc1 => .ite hc1 (Chip.setBitOf_inside (hM.up rfl) (Chip.put_inside (hM.up rfl) hc1)))

theorem execTwinSigLost_inside {M : ℕ} (hM : Sub 2 M) {p1 : State} {t : State} (h : execTwinSigLost p1 = .next t) : Chip.Inside p1.chip M t.chip :=
  State.act_inside h (fun _ c1 hc1 => .ite (Chip.setBitOf_inside (hM.up rfl) (Chip.put_inside (hM.up rfl) hc1)) hc1)

theorem execTxAbort_inside {M : ℕ} (hM : Sub 402653654 M) {p1 : Fin 4} {p2 : Fin 3} {p3 : State} {t : State} (h : execTxAbort p1 p2 p3 = .next t) : Chip.Inside p3.chip M t.chip := by
  refine State.act_inside h ?_
  intro z c1 hc1
  extract_lets +onlyGivenNames x2
  clear_value x2
  exact Chip.rowWrite_inside (hM.up rfl) hc1 (fun v3 hv3 => Chip.txCmd_inside (hM.up rfl) hv3)

theorem execTxEnd_inside {M : ℕ} (hM : Sub 404468054 M) {p1 : Fin 4} {p2 : TxEnd} {p3 : State} {t : State} (h : execTxEnd p1 p2 p3 = .next t) : Chip.Inside p3.chip M t.chip :=
  State.act_inside h (fun _ c1 hc1 => Chip.txEnd_inside (hM.up rfl) hc1)

theorem execTxRequest_inside {M : ℕ} (hM : Sub 402653654 M) {p1 : Fin 4} {p2 : Fin 3} {p3 : Word} {p4 : Bool} {p5 : State} {t : State} (h : execTxRequest p1 p2 p3 p4 p5 = .next t) : Chip.Inside p5.chip M t.chip := by
  refine State.act_inside h ?_
  intro z c1 hc1
  extract_lets +onlyGivenNames x2
  have hx2 : z.Inside M x2 := .ite (Chip.modCan_inside (hM.up rfl) hc1) hc1
  clear_value x2
  exact Chip.rowWrite_inside (hM.up rfl) hx2 (fun v3 hv3 => Chip.txCmd_inside (hM.up rfl) hv3)

theorem execUnitResetEnd_inside {M : ℕ} (hM : Sub 2139095039 M) {p1 : UnitId} {p2 : State} {t : State} (h : execUnitResetEnd p1 p2 = .next t) : Chip.Inside p2.chip M t.chip := .all hM

theorem execUnitReset_inside {M : ℕ} (hM : Sub 940278230 M) {p1 : UnitId} {p2 : State} {t : State} (h : execUnitReset p1 p2 = .next t) : Chip.Inside p2.chip M t.chip :=
  State.act_inside h (fun _ c1 hc1 => Chip.unitAsk_inside (hM.up rfl) hc1)

theorem execUpload_inside {M : ℕ} (hM : Sub 67113310 M) {p1 : Fin 8} {p2 : State} {t : State} (h : execUpload p1 p2 = .next t) : Chip.Inside p2.chip M t.chip :=
  State.act_inside h (fun _ c1 hc1 => Chip.uploadItem_inside (hM.up rfl) hc1)

theorem execUsedCountReset_inside {M : ℕ} (hM : Sub 2 M) {p1 : Fin 12} {p2 : Bool} {p3 : State} {t : State} (h : execUsedCountReset p1 p2 p3 = .next t) : Chip.Inside p3.chip M t.chip := by
  refine State.act_inside h ?_
  intro z c1 hc1
  extract_lets +onlyGivenNames x2
  exact .ite (.ite (Chip.set_inside (hM.up rfl) hc1) (Chip.set_inside (hM.up rfl) hc1)) hc1

theorem execUvlo_inside {M : ℕ} (hM : Sub 524354 M) {p1 : Fin 12} {p2 : Bool} {p3 : Fin 65536} {p4 : State} {t : State} (h : execUvlo p1 p2 p3 p4 = .next t) : Chip.Inside p4.chip M t.chip := by
  refine State.actRaw_inside h ?_
  intro z c1 hc1
  extract_lets +onlyGivenNames x2
  clear_value x2
  extract_lets +onlyGivenNames x3
  clear_value x3
  extract_lets +onlyGivenNames x4
  refine .ite hc1 ?_
  refine .ite (Chip.modIsl_inside (hM.up rfl) (Chip.islandReset_inside (hM.up rfl) hc1)) ?_
  extract_lets +onlyGivenNames x5
  have hx5 : z.Inside M x5 := Chip.islShow_inside (hM.up rfl) (Chip.islandReset_inside (hM.up rfl) (Chip.gateAway_inside (hM.up rfl) hc1))
  clear_value x5
  extract_lets +onlyGivenNames x6
  have hx6 : z.Inside M x6 := Chip.modIsl_inside (hM.up rfl) hx5
  clear_value x6
  extract_lets +onlyGivenNames x7
  have hx7 : z.Inside M x7 := Chip.calibrateDue_inside (hM.up rfl) (Chip.showSupply_inside (hM.up rfl) hx6)
  clear_value x7
  refine .ite ?_ (Chip.put_inside (hM.up rfl) hx7)
  extract_lets +onlyGivenNames x8
  clear_value x8
  extract_lets +onlyGivenNames x9
  have hx9 : z.Inside M x9 := Chip.islDetect_inside (hM.up rfl) (Chip.put_inside (hM.up rfl) hx7)
  clear_value x9
  exact Chip.modIsl_inside (hM.up rfl) hx9

theorem execVddaRelease_inside {M : ℕ} (hM : Sub 1782082 M) {p1 : State} {t : State} (h : execVddaRelease p1 = .next t) : Chip.Inside p1.chip M t.chip := by
  refine State.actRaw_inside h ?_
  intro z c1 hc1
  refine .ite hc1 ?_
  extract_lets +onlyGivenNames x2
  have hx2 : z.Inside M x2 := Chip.modPwr_inside (hM.up rfl) (Chip.put_inside (hM.up rfl) hc1)
  clear_value x2
  refine .ite hx2 ?_
  extract_lets +onlyGivenNames x3
  extract_lets +onlyGivenNames x4
  have hx4 : z.Inside M x4 := (Chip.Inside.mk_adc (hM.up rfl) hx2)
  clear_value x4
  exact Chip.settleHolds_inside (hM.up rfl) (Chip.showOv3_inside (hM.up rfl) (Chip.showVdc_inside (hM.up rfl) (Chip.cmpFreed_inside (hM.up rfl) (Chip.Inside.mk_pwr (hM.up rfl) hx4) hx4)))

theorem execWakeSlotFire_inside {M : ℕ} (hM : Sub 322 M) {p1 : Fin 16} {p2 : State} {t : State} (h : execWakeSlotFire p1 p2 = .next t) : Chip.Inside p2.chip M t.chip :=
  State.actRaw_inside h (fun _ c1 hc1 => Chip.slotFire_inside (hM.up rfl) hc1)

theorem execWatchdogKick_inside {M : ℕ} (hM : Sub 4194306 M) {p1 : Fin 4} {p2 : Word} {p3 : State} {t : State} (h : execWatchdogKick p1 p2 p3 = .next t) : Chip.Inside p3.chip M t.chip :=
  State.act_inside h (fun _ c1 hc1 => Chip.wdtWrite_inside (hM.up rfl) hc1)

theorem execWdtWarn_inside {M : ℕ} (hM : Sub 4194306 M) {p1 : Fin 4} {p2 : State} {t : State} (h : execWdtWarn p1 p2 = .next t) : Chip.Inside p2.chip M t.chip :=
  State.act_inside h (fun _ c1 hc1 => .ite (Chip.privateSrc_inside (hM.up rfl) (Chip.modHart_inside (hM.up rfl) hc1)) hc1)

theorem execWfi_inside {M : ℕ} (hM : Sub 4194304 M) {p1 : Fin 4} {p2 : State} {t : State} (h : execWfi p1 p2 = .next t) : Chip.Inside p2.chip M t.chip :=
  State.act_inside h (fun _ c1 hc1 => .ite hc1 (Chip.modHart_inside (hM.up rfl) (Chip.retire_inside (hM.up rfl) hc1)))

theorem execWindSens_inside {M : ℕ} (hM : Sub 66 M) {p1 : Fin 4} {p2 : State} {t : State} (h : execWindSens p1 p2 = .next t) : Chip.Inside p2.chip M t.chip := by
  refine State.act_inside h ?_
  intro z c1 hc1
  refine .ite ?_ hc1
  extract_lets +onlyGivenNames x2
  have hx2 : z.Inside M x2 := Chip.sets_inside (hM.up rfl) hc1
  clear_value x2
  exact Chip.showLim_inside (hM.up rfl) (Chip.noteCl_inside (hM.up rfl) hx2)

theorem execWriteTempFail_inside {M : ℕ} (hM : Sub 69206598 M) {p1 : Bool} {p2 : State} {t : State} (h : execWriteTempFail p1 p2 = .next t) : Chip.Inside p2.chip M t.chip := by
  refine State.act_inside h ?_
  intro z c1 hc1
  split
  · exact hc1
  · rename_i y4 q5
    refine .ite hc1 ?_
    extract_lets +onlyGivenNames x6
    have hx6 : z.Inside M x6 := Chip.put_inside (hM.up rfl) (Chip.bump_inside (hM.up rfl) (Chip.writeFailed_inside (hM.up rfl) hc1))
    clear_value x6
    exact Chip.note_inside (hM.up rfl) hx6

theorem execWrite_inside {M : ℕ} (hM : Sub 67109058 M) {p1 : Word} {p2 : List Byte} {p3 : State} {t : State} (h : execWrite p1 p2 p3 = .next t) : Chip.Inside p3.chip M t.chip :=
  State.actIf_inside h (fun _ c1 hc1 => Chip.hostWrite_inside (hM.up rfl) hc1)

theorem execXhizRelease_inside {M : ℕ} (hM : Sub 2 M) {p1 : State} {t : State} (h : execXhizRelease p1 = .next t) : Chip.Inside p1.chip M t.chip :=
  State.act_inside h (fun _ c1 hc1 => Chip.xhizRelease_inside (hM.up rfl) hc1)

end Sys2Proof.Machine
end

