-- ==== Sys2Proof/Laws/Keeps.lean ====
section
/-! SUPPORT. What every operation of the module keeps: the form of its stores; and it posts no write of its own. The rules of
the relation, and its lemmas for the operations that write a store. -/

namespace Sys2Proof.Machine

/-- The stores keep their form and the posted writes of the new module are among those of the old one, in order. -/
structure Chip.Keeps (c d : Chip) : Prop where
  wf : c.wf = true → d.wf = true
  posted : d.bus.posted.Sublist c.bus.posted

/-- The form of the stores alone. -/
def Chip.KeepsWf (c d : Chip) : Prop := c.wf = true → d.wf = true

theorem Chip.wf_iff (c : Chip) : c.wf = true ↔ Memory.wf c.mem = true ∧ Registers.wf c.regs = true ∧
    c.log.queue.length ≤ 64 ∧ c.log.retention.length ≤ 16 ∧ c.log.seq < 65536 ∧ c.log.flashNext < 512 ∧
    c.log.flashUsed ≤ 512 := by
  simp [Chip.wf, and_assoc]

namespace Chip.Keeps

variable {z s : Chip}

theorem refl (c : Chip) : c.Keeps c := ⟨id, List.Sublist.refl _⟩

theorem trans {c d e : Chip} (h : c.Keeps d) (k : d.Keeps e) : c.Keeps e := ⟨fun x => k.wf (h.wf x), k.posted.trans h.posted⟩

theorem ite {c : Prop} [Decidable c] {a b : Chip} (ha : z.Keeps a) (hb : z.Keeps b) : z.Keeps (if c then a else b) := by
  split <;> assumption

theorem iteP {α : Type} {c : Prop} [Decidable c] {a b : Chip × α} (ha : z.Keeps a.1) (hb : z.Keeps b.1) :
    z.Keeps (if c then a else b).1 := by
  split <;> assumption

theorem fst {α : Type} {a : Chip} {b : α} (h : z.Keeps a) : z.Keeps (a, b).1 := h

theorem cond {c : Bool} {a b : Chip} (ha : z.Keeps a) (hb : z.Keeps b) : z.Keeps (cond c a b) := by
  cases c <;> assumption

theorem each {α : Type} {l : List α} {f : α → Chip → Chip} (h : z.Keeps s) (hf : ∀ a t, z.Keeps t → z.Keeps (f a t)) :
    z.Keeps (forEach l f s) := by
  unfold forEach
  induction l generalizing s with
  | nil => exact h
  | cons a l ih => exact ih (hf a s h)

theorem foldl {α : Type} {l : List α} {f : Chip → α → Chip} (h : z.Keeps s) (hf : ∀ t a, z.Keeps t → z.Keeps (f t a)) :
    z.Keeps (l.foldl f s) := by
  induction l generalizing s with
  | nil => exact h
  | cons a l ih => exact ih (hf s a h)

theorem foldlP {α β : Type} {l : List α} {f : Chip × β → α → Chip × β} {p : Chip × β} (h : z.Keeps p.1)
    (hf : ∀ t a, z.Keeps t.1 → z.Keeps (f t a).1) : z.Keeps (l.foldl f p).1 := by
  induction l generalizing p with
  | nil => exact h
  | cons a l ih => exact ih (hf p a h)

/-- A change of other parts. -/
theorem same {t : Chip} (h : z.Keeps s) (h1 : t.mem = s.mem) (h2 : t.regs = s.regs) (h3 : t.log = s.log)
    (h4 : t.bus.posted = s.bus.posted) : z.Keeps t := by
  refine ⟨fun x => ?_, h4 ▸ h.posted⟩
  have := h.wf x
  rw [Chip.wf_iff] at this ⊢
  rwa [h1, h2, h3]

end Chip.Keeps

variable {z s : Chip}

theorem Chip.settle_keeps (h : z.Keeps s) : z.Keeps s.settle := h.same (by simp) (by simp) (by simp) (by simp)

theorem Chip.set_keeps {f : Field} {v : Nat} (h : z.Keeps s) : z.Keeps (s.set f v) := by
  refine ⟨fun x => ?_, h.posted⟩
  have := h.wf x
  rw [Chip.wf_iff] at this ⊢
  exact ⟨this.1, Registers.wf_set s f v this.2.1, this.2.2⟩

theorem Chip.assign_keeps {f : Field} {v : Nat} (h : z.Keeps s) : z.Keeps (s.assign f v) := by
  refine ⟨fun x => ?_, h.posted⟩
  have := h.wf x
  rw [Chip.wf_iff] at this ⊢
  exact ⟨this.1, Registers.wf_assign s f v this.2.1, this.2.2⟩

theorem Chip.setBitOf_keeps {f : Field} {i : Nat} (h : z.Keeps s) : z.Keeps (s.setBitOf f i) := by
  refine ⟨fun x => ?_, h.posted⟩
  have := h.wf x
  rw [Chip.wf_iff] at this ⊢
  exact ⟨this.1, Registers.wf_setBitOf s f i this.2.1, this.2.2⟩

theorem Chip.resetRange_keeps {lo hi : Nat} (h : z.Keeps s) : z.Keeps (s.resetRange lo hi) := by
  refine ⟨fun x => ?_, h.posted⟩
  have := h.wf x
  rw [Chip.wf_iff] at this ⊢
  exact ⟨this.1, Registers.wf_resetRange s lo hi this.2.1, this.2.2⟩

theorem Chip.setByte_keeps {a : Nat} {b : Byte} (h : z.Keeps s) : z.Keeps (s.setByte a b) := by
  refine ⟨fun x => ?_, h.posted⟩
  have := h.wf x
  rw [Chip.wf_iff] at this ⊢
  exact ⟨Memory.wf_setByte s a b this.1, this.2⟩

theorem Chip.setBytes_keeps {a : Nat} {l : List Byte} (h : z.Keeps s) : z.Keeps (s.setBytes a l) := by
  induction l generalizing s a with
  | nil => exact h
  | cons b l ih => exact ih (Chip.setByte_keeps h)

theorem Chip.dropClass_length (c : Nat) (l : List LogEntry) :
    (Chip.dropClass c l).length = if l.any (fun e => e.cls = c) then l.length - 1 else l.length := by
  induction l with
  | nil => rfl
  | cons e l ih =>
    by_cases h : e.cls = c
    · simp [Chip.dropClass, h]
    · simp only [Chip.dropClass, h, if_false, List.length_cons, ih, List.any_cons, decide_false, Bool.false_or]
      split
      · rename_i k
        have : 0 < l.length := by
          rcases l with _ | ⟨_, _⟩
          · simp at k
          · simp
        omega
      · rfl

theorem Chip.leastClass_mem : ∀ l : List LogEntry, l ≠ [] → ∃ e ∈ l, e.cls = Chip.leastClass l := by
  intro l
  induction l with
  | nil => intro h; exact absurd rfl h
  | cons e l ih =>
    intro _
    cases l with
    | nil => simp [Chip.leastClass]
    | cons e' l =>
      obtain ⟨x, hx, k⟩ := ih (by simp)
      simp only [Chip.leastClass]
      rcases Nat.le_total e.cls (Chip.leastClass (e' :: l)) with h | h
      · exact ⟨e, by simp, by rw [Nat.min_eq_left h]⟩
      · exact ⟨x, List.mem_cons_of_mem _ hx, by rw [Nat.min_eq_right h, k]⟩

theorem Chip.Keeps.iteL {c : Prop} [Decidable c] {a b : LoopRun} (ha : z.Keeps a.chip) (hb : z.Keeps b.chip) :
    z.Keeps (if c then a else b).chip := by
  split <;> assumption

/-- Taking bytes out of the memory keeps the form. -/
theorem Chip.wf_filterMem {c d : Chip} {f : Host.Cell → Bool} (h : c.wf = true) (h1 : d.mem = c.mem.filter f := by rfl)
    (h2 : d.regs = c.regs := by rfl) (h3 : d.log = c.log := by rfl) : d.wf = true := by
  rw [Chip.wf_iff] at h ⊢
  rw [h1, h2, h3]
  exact ⟨Memory.wf_filter f h.1, h.2⟩

/-- A new entry makes a log one longer. -/
theorem Chip.insertLog_length (q : List LogEntry) (e : LogEntry) : (Chip.insertLog q e).length = q.length + 1 := by
  have h : (Chip.laterCodes e q).length ≤ q.length := by
    unfold Chip.laterCodes
    rw [List.length_reverse]
    exact (List.takeWhile_sublist _).length_le.trans (by simp)
  simp only [Chip.insertLog, List.length_append, List.length_take, List.length_cons]
  omega

/-- The queue never holds more than 64 entries (R671). -/
theorem Chip.enqueue_length (q : List LogEntry) (e : LogEntry) (h : q.length ≤ 64) : (Chip.enqueue q e).length ≤ 64 := by
  unfold Chip.enqueue
  extract_lets +onlyGivenNames all
  have hl : all.length = q.length + 1 := by simp [all, Chip.insertLog_length]
  clear_value all
  split
  · assumption
  · rw [Chip.dropClass_length, if_pos]
    · omega
    · simpa using Chip.leastClass_mem all (by intro k; simp [k] at hl)

theorem updNth_length {α : Type} (f : α → α) : ∀ (n : Nat) (l : List α), (updNth f n l).length = l.length := by
  intro n l
  induction l generalizing n with
  | nil => cases n <;> rfl
  | cons a l ih => cases n <;> simp [updNth, ih]

theorem Chip.retain_keeps {e : LogEntry} (h : z.Keeps s) : z.Keeps (s.retain e) := by
  unfold Chip.retain
  extract_lets h1 full l h2 r _ s1 s2
  have hx : z.Keeps s1 := by
    refine ⟨fun x => ?_, h.posted⟩
    have k := h.wf x
    rw [Chip.wf_iff] at k ⊢
    refine ⟨k.1, k.2.1, k.2.2.1, ?_, k.2.2.2.2⟩
    have hk := k.2.2.2.1
    show r.length ≤ 16
    unfold r
    split
    · have hl : l.length = s.log.retention.length := by simp [l, Chip.insertLog_length]; omega
      simp; omega
    · rename_i hf
      simp only [full, ge_iff_le, not_le] at hf
      rw [Chip.insertLog_length]; omega
  clear_value s1
  have h2 : z.Keeps s2 := Chip.set_keeps hx
  clear_value s2
  exact .ite (Chip.set_keeps h2) h2

theorem Chip.record_keeps {code cls inst cluster region data : Nat} (h : z.Keeps s) :
    z.Keeps (s.record code cls inst cluster region data) := by
  unfold Chip.record
  extract_lets e q _ s1 s2
  have h1 : z.Keeps s1 := by
    refine ⟨fun x => ?_, h.posted⟩
    have k := h.wf x
    rw [Chip.wf_iff] at k ⊢
    refine ⟨k.1, k.2.1, ?_, ?_, ?_, k.2.2.2.2.2⟩
    · exact Chip.enqueue_length _ _ k.2.2.1
    · show (List.map _ _).length ≤ 16
      rw [List.length_map]; exact k.2.2.2.1
    · show (s.log.seq + 1) % 65536 < 65536
      omega
  clear_value s1
  have h2 : z.Keeps s2 := .ite (Chip.retain_keeps h1) h1
  clear_value s2
  exact .ite (Chip.set_keeps (Chip.set_keeps (Chip.set_keeps h2))) h2

end Sys2Proof.Machine
end

