-- ==== Sys2Proof/Laws/KeepsOps.lean ====
section
/-! SUPPORT. Every operation of the module keeps the form of its stores and posts no write: one lemma per operation. -/

set_option linter.unusedVariables false

namespace Sys2Proof.Machine

open Sys2Proof

theorem Chip.sets_keeps {z : Chip} {p1 : Chip} {p2 : List (Field × ℕ)} (hp1 : z.Keeps p1) : z.Keeps (Chip.sets p1 p2) := by
  unfold Chip.sets
  exact .foldl hp1 (fun t2 a1 ht2 => Chip.set_keeps ht2)

theorem Chip.put_keeps {z : Chip} {p1 : Chip} {p2 : Field} {p3 : Bool} (hp1 : z.Keeps p1) : z.Keeps (Chip.put p1 p2 p3) := by
  unfold Chip.put
  exact Chip.set_keeps hp1

theorem Chip.modIsl_keeps {z : Chip} {p1 : Chip} {p2 : ℕ} {p3 : IslandS → IslandS} (hp1 : z.Keeps p1) : z.Keeps (Chip.modIsl p1 p2 p3) := by
  unfold Chip.modIsl
  exact (Chip.Keeps.same hp1 rfl rfl rfl rfl)

theorem Chip.clampTo_keeps {z : Chip} {p1 : Chip} {p2 : ℕ} {p3 : Bool} (hp1 : z.Keeps p1) : z.Keeps (Chip.clampTo p1 p2 p3) := by
  unfold Chip.clampTo
  exact Chip.put_keeps (Chip.modIsl_keeps hp1)

theorem Chip.clamp_keeps {z : Chip} {p1 : Chip} {p2 : ℕ} (hp1 : z.Keeps p1) : z.Keeps (Chip.clamp p1 p2) := by
  unfold Chip.clamp
  exact Chip.clampTo_keeps hp1

theorem Chip.abortLeak_keeps {z : Chip} {p1 : Chip} {p2 : ℕ} {p3 : ℕ} (hp1 : z.Keeps p1) : z.Keeps (Chip.abortLeak p1 p2 p3) := by
  unfold Chip.abortLeak
  refine .ite ?_ hp1
  extract_lets +onlyGivenNames x1
  have hx1 : z.Keeps x1 := Chip.sets_keeps hp1
  clear_value x1
  exact Chip.clamp_keeps (Chip.modIsl_keeps hx1)

theorem Chip.modSlice_keeps {z : Chip} {p1 : Chip} {p2 : ℕ} {p3 : SliceS → SliceS} (hp1 : z.Keeps p1) : z.Keeps (Chip.modSlice p1 p2 p3) := by
  unfold Chip.modSlice
  exact (Chip.Keeps.same hp1 rfl rfl rfl rfl)

theorem Chip.accrueOne_keeps {z : Chip} {p1 : Chip} {p2 : ℕ} {p3 : ℕ} (hp1 : z.Keeps p1) : z.Keeps (Chip.accrueOne p1 p2 p3) := by
  unfold Chip.accrueOne
  extract_lets +onlyGivenNames x1
  extract_lets +onlyGivenNames x2
  clear_value x2
  extract_lets +onlyGivenNames x3
  clear_value x3
  extract_lets +onlyGivenNames x4
  clear_value x4
  extract_lets +onlyGivenNames x5
  extract_lets +onlyGivenNames x6
  clear_value x6
  extract_lets +onlyGivenNames x7
  clear_value x7
  exact .ite hp1 (Chip.modSlice_keeps hp1)

theorem Chip.accrue_keeps {z : Chip} {p1 : Chip} {p2 : ℕ} {p3 : ℕ} (hp1 : z.Keeps p1) : z.Keeps (Chip.accrue p1 p2 p3) := by
  unfold Chip.accrue
  exact .ite (Chip.accrueOne_keeps (Chip.accrueOne_keeps hp1)) (Chip.accrueOne_keeps hp1)

theorem Chip.bump_keeps {z : Chip} {p1 : Chip} {p2 : Field} {p3 : ℕ} (hp1 : z.Keeps p1) : z.Keeps (Chip.bump p1 p2 p3) := by
  unfold Chip.bump
  exact Chip.set_keeps hp1

theorem Chip.note_keeps {z : Chip} {p1 : Chip} {p2 : ℕ} {p3 : ℕ} {p4 : ℕ} (hp1 : z.Keeps p1) : z.Keeps (Chip.note p1 p2 p3 p4) := by
  unfold Chip.note
  exact Chip.record_keeps hp1

theorem Chip.modPorch_keeps {z : Chip} {p1 : Chip} {p2 : PorchS → PorchS} (hp1 : z.Keeps p1) : z.Keeps (Chip.modPorch p1 p2) := by
  unfold Chip.modPorch
  exact (Chip.Keeps.same hp1 rfl rfl rfl rfl)

theorem Chip.modPort_keeps {z : Chip} {p1 : Chip} {p2 : ℕ} {p3 : PortS → PortS} (hp1 : z.Keeps p1) : z.Keeps (Chip.modPort p1 p2 p3) := by
  unfold Chip.modPort
  exact Chip.modPorch_keeps hp1

theorem Chip.showBackoff_keeps {z : Chip} {p1 : Chip} {p2 : ℕ} (hp1 : z.Keeps p1) : z.Keeps (Chip.showBackoff p1 p2) := by
  unfold Chip.showBackoff
  exact Chip.put_keeps hp1

theorem Chip.modCan_keeps {z : Chip} {p1 : Chip} {p2 : ℕ} {p3 : CanS → CanS} (hp1 : z.Keeps p1) : z.Keeps (Chip.modCan p1 p2 p3) := by
  unfold Chip.modCan
  exact (Chip.Keeps.same hp1 rfl rfl rfl rfl)

theorem Chip.recPut_keeps {z : Chip} {p1 : Chip} {p2 : ℕ} {p3 : ℕ} {p4 : ℕ} {p5 : ℕ} (hp1 : z.Keeps p1) : z.Keeps (Chip.recPut p1 p2 p3 p4 p5) := by
  unfold Chip.recPut
  exact Chip.modCan_keeps hp1

theorem Chip.porchLoad_keeps {z : Chip} {p1 : Chip} {p2 : ℕ} (hp1 : z.Keeps p1) : z.Keeps (Chip.porchLoad p1 p2) := by
  unfold Chip.porchLoad
  extract_lets +onlyGivenNames x1
  have hx1 : ∀ w2, z.Keeps w2 → ∀ w3, ∀ w4, z.Keeps (x1 w2 w3 w4) := by
    intro w2 hw2 w3 w4
    unfold x1
    extract_lets +onlyGivenNames x5
    clear_value x5
    extract_lets +onlyGivenNames x6
    clear_value x6
    extract_lets +onlyGivenNames x7
    have hx7 : z.Keeps x7 := Chip.recPut_keeps (Chip.recPut_keeps hw2)
    clear_value x7
    extract_lets +onlyGivenNames x8
    have hx8 : z.Keeps x8 := Chip.recPut_keeps (Chip.recPut_keeps hx7)
    clear_value x8
    exact Chip.sets_keeps hx8
  clear_value x1
  refine .ite hp1 ?_
  extract_lets +onlyGivenNames x9
  have hx9 : z.Keeps x9 := by
    unfold x9
    split
    · exact .ite hp1 (Chip.modPort_keeps (hx1 _ hp1 _ _))
    · exact hp1
  clear_value x9
  split
  · exact .ite hx9 (Chip.modPort_keeps (hx1 _ hx9 _ _))
  · exact hx9

theorem Chip.porchSend_keeps {z : Chip} {p1 : Chip} {p2 : ℕ} {p3 : OutFrame} (hp1 : z.Keeps p1) : z.Keeps (Chip.porchSend p1 p2 p3) := by
  unfold Chip.porchSend
  extract_lets +onlyGivenNames x1
  have hx1 : z.Keeps x1 := by
    unfold x1
    split <;> exact Chip.modPort_keeps hp1
  clear_value x1
  exact Chip.porchLoad_keeps hx1

theorem Chip.claimSend_keeps {z : Chip} {p1 : Chip} {p2 : ℕ} (hp1 : z.Keeps p1) : z.Keeps (Chip.claimSend p1 p2) := by
  unfold Chip.claimSend
  exact Chip.porchSend_keeps (Chip.modPort_keeps hp1)

theorem Chip.cannotSend_keeps {z : Chip} {p1 : Chip} {p2 : ℕ} (hp1 : z.Keeps p1) : z.Keeps (Chip.cannotSend p1 p2) := by
  unfold Chip.cannotSend
  exact Chip.porchSend_keeps hp1

theorem Chip.modSes_keeps {z : Chip} {p1 : Chip} {p2 : ℕ} {p3 : SesS → SesS} (hp1 : z.Keeps p1) : z.Keeps (Chip.modSes p1 p2 p3) := by
  unfold Chip.modSes
  exact Chip.modPorch_keeps hp1

theorem Chip.flagPut_keeps {z : Chip} {p1 : Chip} {p2 : ℕ} {p3 : ℕ} (hp1 : z.Keeps p1) : z.Keeps (Chip.flagPut p1 p2 p3) := by
  unfold Chip.flagPut
  refine .ite hp1 ?_
  extract_lets +onlyGivenNames x1
  have hx1 : z.Keeps x1 := Chip.setByte_keeps hp1
  clear_value x1
  exact Chip.setByte_keeps hx1

theorem Chip.sesEnd_keeps {z : Chip} {p1 : Chip} {p2 : ℕ} {p3 : ℕ} {p4 : ℕ} (hp1 : z.Keeps p1) : z.Keeps (Chip.sesEnd p1 p2 p3 p4) := by
  unfold Chip.sesEnd
  extract_lets +onlyGivenNames x1
  have hx1 : z.Keeps x1 := .ite (.each hp1 (fun a2 t3 ht3 => Chip.flagPut_keeps ht3)) hp1
  clear_value x1
  extract_lets +onlyGivenNames x4
  have hx4 : z.Keeps x4 := Chip.modPort_keeps (Chip.modSes_keeps hx1)
  clear_value x4
  extract_lets +onlyGivenNames x5
  have hx5 : z.Keeps x5 := Chip.sets_keeps hx4
  clear_value x5
  exact .ite (Chip.note_keeps hx5) hx5

theorem Chip.sesData_keeps {z : Chip} {p1 : Chip} {p2 : ℕ} (hp1 : z.Keeps p1) : z.Keeps (Chip.sesData p1 p2) := by
  unfold Chip.sesData
  extract_lets +onlyGivenNames x1
  extract_lets +onlyGivenNames x2
  clear_value x2
  extract_lets +onlyGivenNames x3
  clear_value x3
  extract_lets +onlyGivenNames x4
  clear_value x4
  extract_lets +onlyGivenNames x5
  extract_lets +onlyGivenNames x6
  clear_value x6
  extract_lets +onlyGivenNames x7
  have hx7 : z.Keeps x7 := Chip.modSes_keeps hp1
  clear_value x7
  exact Chip.porchSend_keeps hx7

theorem Chip.sesSent_keeps {z : Chip} {p1 : Chip} {p2 : ℕ} {p3 : ℕ} (hp1 : z.Keeps p1) : z.Keeps (Chip.sesSent p1 p2 p3) := by
  unfold Chip.sesSent
  refine .ite hp1 ?_
  extract_lets +onlyGivenNames x1
  split
  · exact Chip.modSes_keeps hp1
  · exact Chip.modSes_keeps hp1
  · exact .ite (.ite (Chip.sesEnd_keeps hp1) (Chip.modSes_keeps hp1)) (.ite (Chip.sesData_keeps hp1) (Chip.modSes_keeps hp1))
  · exact Chip.modSes_keeps hp1
  · exact Chip.sesData_keeps hp1

theorem Chip.porchTxEnd_keeps {z : Chip} {p1 : Chip} {p2 : ℕ} {p3 : OutKind} {p4 : ℕ} (hp1 : z.Keeps p1) : z.Keeps (Chip.porchTxEnd p1 p2 p3 p4) := by
  unfold Chip.porchTxEnd
  extract_lets +onlyGivenNames x1
  split
  · exact .ite (Chip.modPort_keeps hp1) (.ite (Chip.claimSend_keeps hp1) hp1)
  · exact .ite (Chip.cannotSend_keeps hp1) hp1
  · exact .ite hp1 (.ite (Chip.sesSent_keeps hp1) (.ite (Chip.sesEnd_keeps hp1) (Chip.modSes_keeps hp1)))
  · exact hp1

theorem Chip.bufEnd_keeps {z : Chip} {p1 : Chip} {p2 : ℕ} {p3 : ℕ} {p4 : ℕ} (hp1 : z.Keeps p1) : z.Keeps (Chip.bufEnd p1 p2 p3 p4) := by
  unfold Chip.bufEnd
  extract_lets +onlyGivenNames x1
  have hx1 : z.Keeps x1 := Chip.sets_keeps hp1
  clear_value x1
  extract_lets +onlyGivenNames x2
  clear_value x2
  extract_lets +onlyGivenNames x3
  have hx3 : z.Keeps x3 := Chip.setBitOf_keeps hx1
  clear_value x3
  extract_lets +onlyGivenNames x4
  have hx4 : z.Keeps x4 := .ite (Chip.setBitOf_keeps hx1) (.ite (Chip.note_keeps hx3) hx3)
  clear_value x4
  refine .ite ?_ hx4
  extract_lets +onlyGivenNames x5
  clear_value x5
  extract_lets +onlyGivenNames x6
  have hx6 : z.Keeps x6 := Chip.modPort_keeps hx4
  clear_value x6
  split
  · exact Chip.porchLoad_keeps (Chip.porchTxEnd_keeps hx6)
  · exact Chip.porchLoad_keeps hx6

theorem Chip.ackError_keeps {z : Chip} {p1 : Chip} {p2 : ℕ} (hp1 : z.Keeps p1) : z.Keeps (Chip.ackError p1 p2) := by
  unfold Chip.ackError
  extract_lets +onlyGivenNames x1
  have hx1 : z.Keeps x1 := Chip.bump_keeps hp1
  clear_value x1
  extract_lets +onlyGivenNames x2
  clear_value x2
  extract_lets +onlyGivenNames x3
  clear_value x3
  refine .ite ?_ hx1
  extract_lets +onlyGivenNames x4
  have hx4 : z.Keeps x4 := Chip.note_keeps (Chip.sets_keeps hx1)
  clear_value x4
  extract_lets +onlyGivenNames x5
  have hx5 : z.Keeps x5 := Chip.modPort_keeps (Chip.showBackoff_keeps hx4)
  clear_value x5
  exact .ite (Chip.bufEnd_keeps (Chip.modCan_keeps hx5)) hx5

theorem Chip.modCl_keeps {z : Chip} {p1 : Chip} {p2 : ℕ} {p3 : ClusterS → ClusterS} (hp1 : z.Keeps p1) : z.Keeps (Chip.modCl p1 p2 p3) := by
  unfold Chip.modCl
  exact (Chip.Keeps.same hp1 rfl rfl rfl rfl)

theorem Chip.unrecord_keeps {z : Chip} {p1 : Chip} {p2 : LogEntry → Bool} (hp1 : z.Keeps p1) : z.Keeps (Chip.unrecord p1 p2) := by
  unfold Chip.unrecord
  split
  · exact hp1
  · refine ⟨fun x => ?_, hp1.posted⟩
    have k := hp1.wf x
    rw [Chip.wf_iff] at k ⊢
    refine ⟨k.1, k.2.1, ?_, ?_, Nat.mod_lt _ (by decide), k.2.2.2.2.2⟩
    · simp only [List.length_map]
      exact (List.length_erase_le).trans k.2.2.1
    · simp only [List.length_map]
      exact k.2.2.2.1

theorem Chip.unrefuse_keeps {z : Chip} {p1 : Chip} {p2 : ℕ} (hp1 : z.Keeps p1) : z.Keeps (Chip.unrefuse p1 p2) := by
  unfold Chip.unrefuse
  split
  · exact hp1
  · rename_i y3 q4
    extract_lets +onlyGivenNames x5
    have hx5 : z.Keeps x5 := Chip.put_keeps (Chip.modCl_keeps hp1)
    clear_value x5
    exact Chip.unrecord_keeps hx5

theorem Chip.setStanding_keeps {z : Chip} {p1 : Chip} {p2 : ℕ} {p3 : Bool} (hp1 : z.Keeps p1) : z.Keeps (Chip.setStanding p1 p2 p3) := by
  unfold Chip.setStanding
  extract_lets +onlyGivenNames x1
  have hx1 : z.Keeps x1 := Chip.modCl_keeps hp1
  clear_value x1
  exact Chip.put_keeps hx1

theorem Chip.openGate_keeps {z : Chip} {p1 : Chip} {p2 : ℕ} (hp1 : z.Keeps p1) : z.Keeps (Chip.openGate p1 p2) := by
  unfold Chip.openGate
  refine .ite hp1 ?_
  extract_lets +onlyGivenNames x1
  have hx1 : z.Keeps x1 := Chip.put_keeps hp1
  clear_value x1
  exact (Chip.Keeps.same hx1 rfl rfl rfl rfl)

theorem Chip.openGates_keeps {z : Chip} {p1 : Chip} {p2 : ℕ} (hp1 : z.Keeps p1) : z.Keeps (Chip.openGates p1 p2) := by
  unfold Chip.openGates
  exact .each (Chip.openGate_keeps hp1) (fun a1 t2 ht2 => Chip.openGate_keeps ht2)

theorem Chip.resumeCarrier_keeps {z : Chip} {p1 : Chip} {p2 : ℕ} (hp1 : z.Keeps p1) : z.Keeps (Chip.resumeCarrier p1 p2) := by
  unfold Chip.resumeCarrier
  exact .ite (Chip.modSlice_keeps hp1) (Chip.modSlice_keeps hp1)

theorem Chip.showOutputs_keeps {z : Chip} {p1 : Chip} {p2 : ℕ} (hp1 : z.Keeps p1) : z.Keeps (Chip.showOutputs p1 p2) := by
  unfold Chip.showOutputs
  extract_lets +onlyGivenNames x1
  clear_value x1
  extract_lets +onlyGivenNames x2
  clear_value x2
  extract_lets +onlyGivenNames x3
  clear_value x3
  extract_lets +onlyGivenNames x4
  have hx4 : z.Keeps x4 := .ite hp1 (Chip.modSlice_keeps hp1)
  clear_value x4
  extract_lets +onlyGivenNames x5
  have hx5 : z.Keeps x5 := .ite hx4 (Chip.modSlice_keeps hx4)
  clear_value x5
  exact Chip.put_keeps (Chip.put_keeps hx5)

theorem Chip.outputs_keeps {z : Chip} {p1 : Chip} {p2 : ℕ} (hp1 : z.Keeps p1) : z.Keeps (Chip.outputs p1 p2) := by
  unfold Chip.outputs
  refine .ite ?_ (Chip.showOutputs_keeps hp1)
  extract_lets +onlyGivenNames x1
  clear_value x1
  extract_lets +onlyGivenNames x2
  have hx2 : z.Keeps x2 := Chip.showOutputs_keeps (Chip.showOutputs_keeps hp1)
  clear_value x2
  exact Chip.set_keeps hx2

theorem Chip.restartOutputs_keeps {z : Chip} {p1 : Chip} {p2 : ℕ} {p3 : ℕ} (hp1 : z.Keeps p1) : z.Keeps (Chip.restartOutputs p1 p2 p3) := by
  unfold Chip.restartOutputs
  extract_lets +onlyGivenNames x1
  clear_value x1
  extract_lets +onlyGivenNames x2
  have hx2 : z.Keeps x2 := Chip.accrue_keeps hp1
  clear_value x2
  extract_lets +onlyGivenNames x3
  extract_lets +onlyGivenNames x4
  clear_value x4
  extract_lets +onlyGivenNames x5
  clear_value x5
  extract_lets +onlyGivenNames x6
  clear_value x6
  extract_lets +onlyGivenNames x7
  have hx7 : z.Keeps x7 := Chip.modSlice_keeps hx2
  clear_value x7
  exact Chip.outputs_keeps hx7

theorem Chip.fallH_keeps {z : Chip} {p1 : Chip} {p2 : ℕ} {p3 : Bool} (hp1 : z.Keeps p1) : z.Keeps (Chip.fallH p1 p2 p3) := by
  unfold Chip.fallH
  extract_lets +onlyGivenNames x1
  exact .ite (Chip.put_keeps (Chip.modSlice_keeps hp1)) (Chip.modSlice_keeps hp1)

theorem Chip.fallL_keeps {z : Chip} {p1 : Chip} {p2 : ℕ} {p3 : Bool} (hp1 : z.Keeps p1) : z.Keeps (Chip.fallL p1 p2 p3) := by
  unfold Chip.fallL
  extract_lets +onlyGivenNames x1
  exact .ite hp1 (.ite (Chip.put_keeps (Chip.modSlice_keeps hp1)) (Chip.modSlice_keeps hp1))

theorem Chip.riseL_keeps {z : Chip} {p1 : Chip} {p2 : ℕ} {p3 : ℕ} (hp1 : z.Keeps p1) : z.Keeps (Chip.riseL p1 p2 p3) := by
  unfold Chip.riseL
  exact .ite (Chip.modSlice_keeps hp1) (Chip.modSlice_keeps hp1)

theorem Chip.riseH_keeps {z : Chip} {p1 : Chip} {p2 : ℕ} {p3 : ℕ} (hp1 : z.Keeps p1) : z.Keeps (Chip.riseH p1 p2 p3) := by
  unfold Chip.riseH
  exact .ite (Chip.modSlice_keeps hp1) (Chip.modSlice_keeps hp1)

theorem Chip.dropGates_keeps {z : Chip} {p1 : Chip} {p2 : ℕ} (hp1 : z.Keeps p1) : z.Keeps (Chip.dropGates p1 p2) := by
  unfold Chip.dropGates
  refine .ite ?_ hp1
  extract_lets +onlyGivenNames x1
  clear_value x1
  extract_lets +onlyGivenNames x2
  have hx2 : z.Keeps x2 := .ite hp1 (Chip.modSlice_keeps hp1)
  clear_value x2
  exact .ite hx2 (Chip.modSlice_keeps hx2)

theorem Chip.setGate_keeps {z : Chip} {p1 : Chip} {p2 : ℕ} {p3 : Bool} (hp1 : z.Keeps p1) : z.Keeps (Chip.setGate p1 p2 p3) := by
  unfold Chip.setGate
  refine .ite hp1 ?_
  extract_lets +onlyGivenNames x1
  have hx1 : z.Keeps x1 := Chip.put_keeps (Chip.accrue_keeps hp1)
  clear_value x1
  refine .ite (Chip.restartOutputs_keeps hx1) ?_
  extract_lets +onlyGivenNames x2
  clear_value x2
  extract_lets +onlyGivenNames x3
  clear_value x3
  extract_lets +onlyGivenNames x4
  have hx4 : z.Keeps x4 := .ite (Chip.fallH_keeps hx1) hx1
  clear_value x4
  extract_lets +onlyGivenNames x5
  have hx5 : z.Keeps x5 := .ite (Chip.fallL_keeps hx4) hx4
  clear_value x5
  extract_lets +onlyGivenNames x6
  clear_value x6
  extract_lets +onlyGivenNames x7
  have hx7 : z.Keeps x7 := .ite (Chip.riseL_keeps hx5) hx5
  clear_value x7
  extract_lets +onlyGivenNames x8
  have hx8 : z.Keeps x8 := .ite (Chip.riseH_keeps hx7) hx7
  clear_value x8
  exact Chip.outputs_keeps (Chip.dropGates_keeps (Chip.modSlice_keeps hx8))

theorem Chip.setOvr_keeps {z : Chip} {p1 : Chip} {p2 : ℕ} {p3 : ℕ} (hp1 : z.Keeps p1) : z.Keeps (Chip.setOvr p1 p2 p3) := by
  unfold Chip.setOvr
  refine .ite hp1 ?_
  extract_lets +onlyGivenNames x1
  have hx1 : z.Keeps x1 := Chip.accrue_keeps hp1
  clear_value x1
  extract_lets +onlyGivenNames x2
  clear_value x2
  extract_lets +onlyGivenNames x3
  clear_value x3
  extract_lets +onlyGivenNames x4
  have hx4 : z.Keeps x4 := Chip.modSlice_keeps hx1
  clear_value x4
  exact Chip.outputs_keeps (Chip.set_keeps hx4)

theorem Chip.setOvrs_keeps {z : Chip} {p1 : Chip} {p2 : List ℕ} {p3 : ℕ} (hp1 : z.Keeps p1) : z.Keeps (Chip.setOvrs p1 p2 p3) := by
  unfold Chip.setOvrs
  exact .each hp1 (fun a1 t2 ht2 => Chip.setOvr_keeps ht2)

theorem Chip.putSelOne_keeps {z : Chip} {p1 : Chip} {p2 : ℕ} {p3 : ℕ} (hp1 : z.Keeps p1) : z.Keeps (Chip.putSelOne p1 p2 p3) := by
  unfold Chip.putSelOne
  extract_lets +onlyGivenNames x1
  have hx1 : z.Keeps x1 := .ite hp1 (Chip.modCl_keeps hp1)
  clear_value x1
  extract_lets +onlyGivenNames x2
  have hx2 : z.Keeps x2 := Chip.set_keeps (Chip.set_keeps hx1)
  clear_value x2
  exact Chip.setOvrs_keeps hx2

theorem Chip.followSel_keeps {z : Chip} {p1 : Chip} (hp1 : z.Keeps p1) : z.Keeps (Chip.followSel p1) := by
  unfold Chip.followSel
  extract_lets +onlyGivenNames x1
  clear_value x1
  extract_lets +onlyGivenNames x2
  clear_value x2
  exact .ite hp1 (Chip.putSelOne_keeps hp1)

theorem Chip.putSel_keeps {z : Chip} {p1 : Chip} {p2 : ℕ} {p3 : ℕ} (hp1 : z.Keeps p1) : z.Keeps (Chip.putSel p1 p2 p3) := by
  unfold Chip.putSel
  exact Chip.followSel_keeps (Chip.putSelOne_keeps hp1)

theorem Chip.noteCl_keeps {z : Chip} {p1 : Chip} {p2 : ℕ} {p3 : ℕ} {p4 : ℕ} (hp1 : z.Keeps p1) : z.Keeps (Chip.noteCl p1 p2 p3 p4) := by
  unfold Chip.noteCl
  exact Chip.record_keeps hp1

theorem Chip.selectBy_keeps {z : Chip} {p1 : Chip} {p2 : ℕ} {p3 : ℕ} {p4 : Bool} {p5 : Bool} (hp1 : z.Keeps p1) : z.Keeps (Chip.selectBy p1 p2 p3 p4 p5) := by
  unfold Chip.selectBy
  extract_lets +onlyGivenNames x1
  clear_value x1
  extract_lets +onlyGivenNames x2
  have hx2 : z.Keeps x2 := .ite (Chip.noteCl_keeps (Chip.modCl_keeps hp1)) hp1
  clear_value x2
  refine .ite (Chip.putSel_keeps hx2) ?_
  refine .ite ?_ (.ite (Chip.putSel_keeps hx2) (Chip.putSel_keeps hx2))
  extract_lets +onlyGivenNames x3
  clear_value x3
  refine .ite (Chip.putSel_keeps hx2) ?_
  extract_lets +onlyGivenNames x4
  have hx4 : z.Keeps x4 := .ite hx2 (Chip.noteCl_keeps (Chip.put_keeps (Chip.modCl_keeps hx2)))
  clear_value x4
  exact Chip.putSel_keeps hx4

theorem Chip.evalRule_keeps {z : Chip} {p1 : Chip} {p2 : ℕ} (hp1 : z.Keeps p1) : z.Keeps (Chip.evalRule p1 p2) := by
  unfold Chip.evalRule
  split
  · rename_i y1 y2 q3
    extract_lets +onlyGivenNames x4
    clear_value x4
    extract_lets +onlyGivenNames x5
    have hx5 : z.Keeps x5 := Chip.set_keeps (Chip.set_keeps hp1)
    clear_value x5
    extract_lets +onlyGivenNames x6
    have hx6 : z.Keeps x6 := .ite (Chip.set_keeps hx5) hx5
    clear_value x6
    refine .ite (Chip.followSel_keeps hx6) ?_
    refine .ite (.ite (Chip.putSel_keeps hx6) hx6) ?_
    extract_lets +onlyGivenNames x7
    clear_value x7
    extract_lets +onlyGivenNames x8
    clear_value x8
    extract_lets +onlyGivenNames x9
    have hx9 : z.Keeps x9 := .ite (Chip.put_keeps hx6) hx6
    clear_value x9
    exact .ite hx9 (.ite (Chip.putSel_keeps hx9) (.ite (Chip.putSel_keeps hx9) (Chip.selectBy_keeps hx9)))

theorem Chip.refreshHold_keeps {z : Chip} {p1 : Chip} {p2 : ℕ} (hp1 : z.Keeps p1) : z.Keeps (Chip.refreshHold p1 p2) := by
  unfold Chip.refreshHold
  refine .ite (Chip.followSel_keeps hp1) ?_
  refine .ite (.ite (Chip.evalRule_keeps hp1) hp1) ?_
  refine .ite hp1 ?_
  extract_lets +onlyGivenNames x1
  have hx1 : z.Keeps x1 := Chip.modCl_keeps hp1
  clear_value x1
  extract_lets +onlyGivenNames x2
  clear_value x2
  extract_lets +onlyGivenNames x3
  have hx3 : z.Keeps x3 := Chip.set_keeps (Chip.set_keeps hx1)
  clear_value x3
  exact Chip.followSel_keeps (Chip.setOvrs_keeps hx3)

theorem Chip.ctrMove_keeps {z : Chip} {p1 : Chip} {p2 : Bool} {p3 : Bool} (hp1 : z.Keeps p1) : z.Keeps (Chip.ctrMove p1 p2 p3) := by
  unfold Chip.ctrMove
  extract_lets x1 _ x2
  have hx1 : z.Keeps x1 := Chip.sets_keeps hp1
  have hx2 : z.Keeps x2 := .ite (hx1.same rfl rfl rfl rfl) (hx1.same rfl rfl rfl rfl)
  exact Chip.put_keeps hx2

theorem Chip.applyContactors_keeps {z : Chip} {p1 : Chip} {p2 : Bool} (hp1 : z.Keeps p1) : z.Keeps (Chip.applyContactors p1 p2) := by
  unfold Chip.applyContactors
  extract_lets +onlyGivenNames x1
  clear_value x1
  extract_lets +onlyGivenNames x2
  clear_value x2
  extract_lets +onlyGivenNames x3
  have hx3 : ∀ w4, ∀ w5, ∀ w6, ∀ w7, z.Keeps w7 → z.Keeps (x3 w4 w5 w6 w7) := fun w4 w5 w6 w7 hw7 => .ite (Chip.ctrMove_keeps hw7) (.ite (Chip.ctrMove_keeps hw7) hw7)
  clear_value x3
  extract_lets +onlyGivenNames x8
  have hx8 : z.Keeps x8 := hx3 _ _ _ _ hp1
  clear_value x8
  extract_lets +onlyGivenNames x9
  have hx9 : z.Keeps x9 := hx3 _ _ _ _ hx8
  clear_value x9
  exact Chip.put_keeps hx9

theorem Chip.enter_keeps {z : Chip} {p1 : Chip} {p2 : ℕ} {p3 : ℕ} (hp1 : z.Keeps p1) : z.Keeps (Chip.enter p1 p2 p3) := by
  unfold Chip.enter
  extract_lets +onlyGivenNames x1
  clear_value x1
  refine .ite hp1 ?_
  extract_lets +onlyGivenNames x2
  have hx2 : z.Keeps x2 := Chip.sets_keeps hp1
  clear_value x2
  extract_lets +onlyGivenNames x3
  have hx3 : z.Keeps x3 := Chip.modCl_keeps hx2
  clear_value x3
  extract_lets +onlyGivenNames x4
  have hx4 : z.Keeps x4 := Chip.put_keeps hx3
  clear_value x4
  extract_lets +onlyGivenNames x5
  have hx5 : z.Keeps x5 := .ite (Chip.openGates_keeps (.each hx4 (fun a6 t7 ht7 => Chip.resumeCarrier_keeps ht7))) hx4
  clear_value x5
  extract_lets +onlyGivenNames x8
  have hx8 : z.Keeps x8 := .ite (.each (Chip.modCl_keeps hx5) (fun a9 t10 ht10 => Chip.modSlice_keeps ht10)) hx5
  clear_value x8
  extract_lets +onlyGivenNames x11
  have hx11 : z.Keeps x11 := .ite hx8 (.each (Chip.sets_keeps hx8) (fun a12 t13 ht13 => Chip.setGate_keeps ht13))
  clear_value x11
  extract_lets +onlyGivenNames x14
  have hx14 : z.Keeps x14 := .ite (Chip.set_keeps hx11) hx11
  clear_value x14
  extract_lets +onlyGivenNames x15
  have hx15 : z.Keeps x15 := Chip.put_keeps hx14
  clear_value x15
  extract_lets +onlyGivenNames x16
  have hx16 : z.Keeps x16 := Chip.modCl_keeps hx15
  clear_value x16
  extract_lets +onlyGivenNames x17
  have hx17 : z.Keeps x17 := Chip.put_keeps hx16
  clear_value x17
  extract_lets +onlyGivenNames x18
  have hx18 : z.Keeps x18 := .ite (.ite (Chip.setOvrs_keeps (Chip.set_keeps hx17)) hx17) hx14
  clear_value x18
  extract_lets +onlyGivenNames x19
  have hx19 : z.Keeps x19 := .ite (.each hx18 (fun a20 t21 ht21 => Chip.abortLeak_keeps ht21)) hx18
  clear_value x19
  extract_lets +onlyGivenNames x22
  have hx22 : z.Keeps x22 := Chip.refreshHold_keeps hx19
  clear_value x22
  exact Chip.applyContactors_keeps hx22

theorem Chip.demandBegins_keeps {z : Chip} {p1 : Chip} {p2 : ℕ} (hp1 : z.Keeps p1) : z.Keeps (Chip.demandBegins p1 p2) := by
  unfold Chip.demandBegins
  exact .ite (Chip.evalRule_keeps hp1) hp1

theorem Chip.stand_keeps {z : Chip} {p1 : Chip} {p2 : ℕ} {p3 : ℕ} {p4 : ℕ} {p5 : Bool} (hp1 : z.Keeps p1) : z.Keeps (Chip.stand p1 p2 p3 p4 p5) := by
  unfold Chip.stand
  extract_lets +onlyGivenNames x1
  have hx1 : z.Keeps x1 := Chip.modCl_keeps (.ite hp1 (Chip.unrefuse_keeps hp1))
  clear_value x1
  extract_lets +onlyGivenNames x2
  clear_value x2
  extract_lets +onlyGivenNames x3
  have hx3 : z.Keeps x3 := Chip.modCl_keeps hx1
  clear_value x3
  extract_lets +onlyGivenNames x4
  have hx4 : z.Keeps x4 := Chip.put_keeps (.ite (Chip.setStanding_keeps hx3) hx3)
  clear_value x4
  extract_lets +onlyGivenNames x5
  have hx5 : z.Keeps x5 := .ite hx4 (Chip.enter_keeps hx4)
  clear_value x5
  exact .ite (Chip.refreshHold_keeps hx5) (Chip.demandBegins_keeps hx5)

theorem Chip.fall_keeps {z : Chip} {p1 : Chip} {p2 : ℕ} {p3 : ℕ} {p4 : ℕ} {p5 : ℕ} (hp1 : z.Keeps p1) : z.Keeps (Chip.fall p1 p2 p3 p4 p5) := by
  unfold Chip.fall
  extract_lets +onlyGivenNames x1
  have hx1 : z.Keeps x1 := by
    unfold x1
    refine .ite ?_ hp1
    split
    · exact Chip.set_keeps hp1
    · exact hp1
  clear_value x1
  exact Chip.stand_keeps hx1

theorem Chip.faultCl_keeps {z : Chip} {p1 : Chip} {p2 : ℕ} {p3 : ℕ} {p4 : ℕ} {p5 : ℕ} {p6 : ℕ} (hp1 : z.Keeps p1) : z.Keeps (Chip.faultCl p1 p2 p3 p4 p5 p6) := by
  unfold Chip.faultCl
  exact Chip.fall_keeps (Chip.record_keeps hp1)

theorem Chip.pcSto_keeps {z : Chip} {p1 : Chip} {p2 : ℕ} {p3 : ℕ} {p4 : ℕ} (hp1 : z.Keeps p1) : z.Keeps (Chip.pcSto p1 p2 p3 p4) := by
  unfold Chip.pcSto
  extract_lets +onlyGivenNames x1
  have hx1 : z.Keeps x1 := Chip.put_keeps (Chip.put_keeps hp1)
  clear_value x1
  exact Chip.faultCl_keeps (Chip.put_keeps hx1)

theorem Chip.count_keeps {z : Chip} {p1 : Chip} {p2 : Field} (hp1 : z.Keeps p1) : z.Keeps (Chip.count p1 p2) := by
  unfold Chip.count
  exact Chip.set_keeps hp1

theorem Chip.ackJudge_keeps {z : Chip} {p1 : Chip} {p2 : ℕ} (hp1 : z.Keeps p1) : z.Keeps (Chip.ackJudge p1 p2) := by
  unfold Chip.ackJudge
  extract_lets +onlyGivenNames x1
  clear_value x1
  extract_lets +onlyGivenNames x2
  clear_value x2
  extract_lets +onlyGivenNames x3
  have hx3 : z.Keeps x3 := Chip.modCl_keeps hp1
  clear_value x3
  extract_lets +onlyGivenNames x4
  have hx4 : z.Keeps x4 := .ite (Chip.pcSto_keeps hx3) hx3
  clear_value x4
  exact Chip.count_keeps hx4

theorem Chip.ackSend_keeps {z : Chip} {p1 : Chip} {p2 : ℕ} {p3 : ℕ} {p4 : ℕ} {p5 : ℕ} (hp1 : z.Keeps p1) : z.Keeps (Chip.ackSend p1 p2 p3 p4 p5) := by
  unfold Chip.ackSend
  exact Chip.porchSend_keeps hp1

theorem Chip.modRing_keeps {z : Chip} {p1 : Chip} {p2 : RingS → RingS} (hp1 : z.Keeps p1) : z.Keeps (Chip.modRing p1 p2) := by
  unfold Chip.modRing
  exact (Chip.Keeps.same hp1 rfl rfl rfl rfl)

theorem Chip.modMsg_keeps {z : Chip} {p1 : Chip} {p2 : ℕ} {p3 : MsgS → MsgS} (hp1 : z.Keeps p1) : z.Keeps (Chip.modMsg p1 p2 p3) := by
  unfold Chip.modMsg
  exact Chip.modRing_keeps hp1

theorem Chip.msgEnd_keeps {z : Chip} {p1 : Chip} {p2 : ℕ} {p3 : ℕ} (hp1 : z.Keeps p1) : z.Keeps (Chip.msgEnd p1 p2 p3) := by
  unfold Chip.msgEnd
  extract_lets +onlyGivenNames x1
  have hx1 : z.Keeps x1 := Chip.sets_keeps (Chip.modMsg_keeps hp1)
  clear_value x1
  exact .ite (Chip.put_keeps hx1) (Chip.note_keeps (Chip.put_keeps hx1))

theorem Chip.msgStore_keeps {z : Chip} {p1 : Chip} {p2 : AcyclicFrame} (hp1 : z.Keeps p1) : z.Keeps (Chip.msgStore p1 p2).1 := by
  unfold Chip.msgStore
  extract_lets +onlyGivenNames x1
  clear_value x1
  refine .iteP (.fst hp1) ?_
  refine .iteP (.fst hp1) ?_
  split
  · exact .fst hp1
  · rename_i y4 q5
    extract_lets +onlyGivenNames x6
    have hx6 : z.Keeps x6 := Chip.setBytes_keeps hp1
    clear_value x6
    extract_lets +onlyGivenNames x7
    have hx7 : z.Keeps x7 := Chip.modRing_keeps hx6
    clear_value x7
    exact .fst (Chip.sets_keeps hx7)

theorem Chip.msgAnswer_keeps {z : Chip} {p1 : Chip} {p2 : AcyclicFrame} {p3 : MsgKind} (hp1 : z.Keeps p1) : z.Keeps (Chip.msgAnswer p1 p2 p3) := by
  unfold Chip.msgAnswer
  extract_lets +onlyGivenNames x1
  exact Chip.modRing_keeps hp1

theorem Chip.msgTry_keeps {z : Chip} {p1 : Chip} {p2 : ℕ} {p3 : ℕ} (hp1 : z.Keeps p1) : z.Keeps (Chip.msgTry p1 p2 p3) := by
  unfold Chip.msgTry
  exact .ite (Chip.msgEnd_keeps hp1) (.ite (Chip.msgEnd_keeps hp1) (Chip.modMsg_keeps hp1))

theorem Chip.acyclicRx_keeps {z : Chip} {p1 : Chip} {p2 : Bool} {p3 : AcyclicFrame} {p4 : Bool} (hp1 : z.Keeps p1) : z.Keeps (Chip.acyclicRx p1 p2 p3 p4) := by
  unfold Chip.acyclicRx
  refine .ite hp1 ?_
  refine .ite (Chip.bump_keeps hp1) ?_
  extract_lets +onlyGivenNames x1
  clear_value x1
  extract_lets +onlyGivenNames x2
  clear_value x2
  extract_lets +onlyGivenNames x3
  have hx3 : ∀ w4, z.Keeps w4 → z.Keeps (x3 w4) := fun w4 hw4 => .ite hw4 (.ite (Chip.bump_keeps hw4) (Chip.modRing_keeps hw4))
  clear_value x3
  refine .ite (.ite (hx3 _ hp1) (.ite (Chip.msgEnd_keeps hp1) hp1)) ?_
  extract_lets +onlyGivenNames x5
  have hx5 : z.Keeps x5 := by
    unfold x5
    refine .ite (Chip.msgStore_keeps hp1) ?_
    refine .ite hp1 ?_
    split
    · split
      · rename_i y8 y9 q10
        have hy8 : z.Keeps y8 := by
          have hh := congrArg Prod.fst q10
          dsimp only at hh
          rw [← hh]
          exact Chip.msgStore_keeps hp1
        exact Chip.msgAnswer_keeps hy8
    · exact .ite (Chip.msgEnd_keeps hp1) hp1
    · exact .ite (Chip.msgTry_keeps hp1) hp1
  clear_value x5
  exact hx3 _ hx5

theorem Chip.useFree_keeps {z : Chip} {p1 : Chip} (hp1 : z.Keeps p1) : z.Keeps (Chip.useFree p1) := by
  unfold Chip.useFree
  exact (Chip.Keeps.same hp1 rfl rfl rfl rfl)

theorem Chip.common_keeps {z : Chip} {p1 : Chip} {p2 : ℕ} {p3 : ℕ} (hp1 : z.Keeps p1) : z.Keeps (Chip.common p1 p2 p3) := by
  unfold Chip.common
  extract_lets +onlyGivenNames x1
  exact Chip.record_keeps (Chip.useFree_keeps hp1)

theorem Chip.refuse_keeps {z : Chip} {p1 : Chip} {p2 : ℕ} (hp1 : z.Keeps p1) : z.Keeps (Chip.refuse p1 p2) := by
  unfold Chip.refuse
  exact Chip.common_keeps hp1

theorem Chip.refWrite_keeps {z : Chip} {p1 : Chip} {p2 : ℕ} {p3 : Bool} (hp1 : z.Keeps p1) : z.Keeps (Chip.refWrite p1 p2 p3) := by
  unfold Chip.refWrite
  refine .ite ?_ (Chip.refuse_keeps hp1)
  extract_lets +onlyGivenNames x1
  clear_value x1
  extract_lets +onlyGivenNames x2
  have hx2 : z.Keeps x2 := Chip.sets_keeps hp1
  clear_value x2
  refine .ite hx2 ?_
  extract_lets +onlyGivenNames x3
  have hx3 : z.Keeps x3 := Chip.put_keeps hx2
  clear_value x3
  exact (Chip.Keeps.same hx3 rfl rfl rfl rfl)

theorem Chip.hole_keeps {z : Chip} {p1 : Chip} {p2 : ℕ} (hp1 : z.Keeps p1) : z.Keeps (Chip.hole p1 p2) := by
  unfold Chip.hole
  exact Chip.common_keeps hp1

theorem Chip.writeField_keeps {z : Chip} {p1 : Chip} {p2 : ℕ} {p3 : Bool} {p4 : Field} (hp1 : z.Keeps p1) : z.Keeps (Chip.writeField p1 p2 p3 p4) := by
  unfold Chip.writeField
  extract_lets +onlyGivenNames x1
  clear_value x1
  split
  · exact Chip.set_keeps hp1
  · exact Chip.set_keeps hp1
  · exact .ite (Chip.set_keeps hp1) hp1
  · exact Chip.assign_keeps hp1
  · exact Chip.set_keeps hp1
  · exact hp1
  · exact hp1
  · exact hp1
  · exact hp1

theorem Chip.writeFields_keeps {z : Chip} {p1 : Chip} {p2 : List Field} {p3 : ℕ} {p4 : Bool} (hp1 : z.Keeps p1) : z.Keeps (Chip.writeFields p1 p2 p3 p4) := by
  unfold Chip.writeFields
  exact .foldl hp1 (fun t2 a1 ht2 => Chip.writeField_keeps ht2)

theorem Chip.genericWrite_keeps {z : Chip} {p1 : Chip} {p2 : ℕ} {p3 : ℕ} (hp1 : z.Keeps p1) : z.Keeps (Chip.genericWrite p1 p2 p3) := by
  unfold Chip.genericWrite
  split
  · exact Chip.hole_keeps hp1
  · rename_i y3 q4
    extract_lets +onlyGivenNames x5
    clear_value x5
    extract_lets +onlyGivenNames x6
    have hx6 : z.Keeps x6 := Chip.writeFields_keeps hp1
    clear_value x6
    exact .ite (Chip.refuse_keeps hx6) hx6

theorem Chip.scanEnd_keeps {z : Chip} {p1 : Chip} (hp1 : z.Keeps p1) : z.Keeps (Chip.scanEnd p1) := by
  unfold Chip.scanEnd
  exact .ite (Chip.put_keeps (Chip.put_keeps hp1)) hp1

theorem Chip.scanSkip_keeps {z : Chip} {p1 : ℕ} {p2 : Chip} (hp2 : z.Keeps p2) : z.Keeps (Chip.scanSkip p1 p2) := by
  induction p1 generalizing p2 with
  | zero => exact hp2
  | succ n ih =>
    unfold Chip.scanSkip
    extract_lets +onlyGivenNames x1
    refine .ite ?_ hp2
    extract_lets +onlyGivenNames x2
    have hx2 : z.Keeps x2 := Chip.sets_keeps hp2
    clear_value x2
    exact ih (Chip.scanEnd_keeps (hx2.same rfl rfl rfl rfl))

theorem Chip.scanStart_keeps {z : Chip} {p1 : Chip} (hp1 : z.Keeps p1) : z.Keeps (Chip.scanStart p1) := by
  unfold Chip.scanStart
  refine .ite hp1 ?_
  refine .ite (Chip.note_keeps (Chip.put_keeps hp1)) ?_
  extract_lets +onlyGivenNames x1
  have hx1 : z.Keeps x1 := Chip.put_keeps hp1
  clear_value x1
  exact Chip.scanSkip_keeps (Chip.Keeps.same hx1 rfl rfl rfl rfl)

theorem Chip.sarCfgWrite_keeps {z : Chip} {p1 : Chip} {p2 : ℕ} {p3 : ℕ} (hp1 : z.Keeps p1) : z.Keeps (Chip.sarCfgWrite p1 p2 p3) := by
  unfold Chip.sarCfgWrite
  extract_lets +onlyGivenNames x1
  clear_value x1
  extract_lets +onlyGivenNames x2
  have hx2 : z.Keeps x2 := Chip.sets_keeps hp1
  clear_value x2
  exact .ite (Chip.Keeps.same hx2 rfl rfl rfl rfl) hx2

theorem Chip.sdClkSet_keeps {z : Chip} {p1 : Chip} {p2 : ℕ} {p3 : ℕ} (hp1 : z.Keeps p1) : z.Keeps (Chip.sdClkSet p1 p2 p3) := by
  unfold Chip.sdClkSet
  extract_lets +onlyGivenNames x1
  clear_value x1
  extract_lets +onlyGivenNames x2
  clear_value x2
  extract_lets +onlyGivenNames x3
  have hx3 : z.Keeps x3 := Chip.sets_keeps hp1
  clear_value x3
  refine .ite ?_ hx3
  extract_lets +onlyGivenNames x4
  have hx4 : z.Keeps x4 := Chip.useFree_keeps hx3
  clear_value x4
  exact (Chip.Keeps.same hx4 rfl rfl rfl rfl)

theorem Chip.sdClkWrite_keeps {z : Chip} {p1 : Chip} {p2 : ℕ} (hp1 : z.Keeps p1) : z.Keeps (Chip.sdClkWrite p1 p2) := by
  unfold Chip.sdClkWrite
  refine .each hp1 ?_
  intro a1 t2 ht2
  split
  · exact Chip.sdClkSet_keeps ht2
  · exact Chip.record_keeps (Chip.useFree_keeps ht2)

theorem Chip.showSlots_keeps {z : Chip} {p1 : Chip} {p2 : ℕ} (hp1 : z.Keeps p1) : z.Keeps (Chip.showSlots p1 p2) := by
  unfold Chip.showSlots
  extract_lets +onlyGivenNames x1
  extract_lets +onlyGivenNames x2
  extract_lets +onlyGivenNames x3
  exact Chip.sets_keeps hp1

theorem Chip.slotWritten_keeps {z : Chip} {p1 : Chip} {p2 : ℕ} {p3 : ℕ} (hp1 : z.Keeps p1) : z.Keeps (Chip.slotWritten p1 p2 p3) := by
  unfold Chip.slotWritten
  extract_lets +onlyGivenNames x1
  have hx1 : z.Keeps x1 := Chip.showSlots_keeps hp1
  clear_value x1
  extract_lets +onlyGivenNames x2
  clear_value x2
  exact .ite (Chip.noteCl_keeps (Chip.put_keeps hx1)) hx1

theorem Chip.configField_keeps {z : Chip} {p1 : Chip} {p2 : ℕ} {p3 : Field} (hp1 : z.Keeps p1) : z.Keeps (Chip.configField p1 p2 p3) := by
  unfold Chip.configField
  split
  · exact Chip.set_keeps hp1
  · exact Chip.set_keeps hp1
  · exact Chip.set_keeps hp1
  · exact Chip.set_keeps hp1
  · exact Chip.set_keeps hp1
  · exact hp1

theorem Chip.configWord_keeps {z : Chip} {p1 : Chip} {p2 : ℕ} {p3 : ℕ} (hp1 : z.Keeps p1) : z.Keeps (Chip.configWord p1 p2 p3) := by
  unfold Chip.configWord
  exact .foldl hp1 (fun t2 a1 ht2 => Chip.configField_keeps ht2)

theorem Chip.freezeDone_keeps {z : Chip} {p1 : Chip} {p2 : ℕ} (hp1 : z.Keeps p1) : z.Keeps (Chip.freezeDone p1 p2) := by
  unfold Chip.freezeDone
  exact .ite hp1 (Chip.set_keeps hp1)

theorem Chip.cmpFreed_keeps {z : Chip} {p1 : Chip} {p2 : Chip} (hp1 : z.Keeps p1) (hp2 : z.Keeps p2) : z.Keeps (Chip.cmpFreed p1 p2) := by
  unfold Chip.cmpFreed
  exact .each hp2 (fun a1 t2 ht2 => .ite (Chip.Keeps.same ht2 rfl rfl rfl rfl) ht2)

theorem Chip.clrBitOf_keeps {z : Chip} {p1 : Chip} {p2 : Field} {p3 : ℕ} (hp1 : z.Keeps p1) : z.Keeps (Chip.clrBitOf p1 p2 p3) := by
  unfold Chip.clrBitOf
  exact Chip.assign_keeps hp1

theorem Chip.cmpCfgDone_keeps {z : Chip} {p1 : Chip} {p2 : ℕ} (hp1 : z.Keeps p1) : z.Keeps (Chip.cmpCfgDone p1 p2) := by
  unfold Chip.cmpCfgDone
  extract_lets +onlyGivenNames x1
  have hx1 : z.Keeps x1 := .ite hp1 (Chip.clrBitOf_keeps hp1)
  clear_value x1
  exact .ite hx1 (Chip.clrBitOf_keeps hx1)

theorem Chip.setHeld_keeps {z : Chip} {p1 : Chip} {p2 : ℕ} {p3 : ℕ} (hp1 : z.Keeps p1) : z.Keeps (Chip.setHeld p1 p2 p3) := by
  unfold Chip.setHeld
  extract_lets +onlyGivenNames x1
  have hx1 : z.Keeps x1 := Chip.modCl_keeps hp1
  clear_value x1
  exact Chip.put_keeps hx1

theorem Chip.bcmStart_keeps {z : Chip} {p1 : Chip} {p2 : ℕ} (hp1 : z.Keeps p1) : z.Keeps (Chip.bcmStart p1 p2) := by
  unfold Chip.bcmStart
  split
  · rename_i y1 q2
    refine .ite ?_ (Chip.setHeld_keeps hp1)
    extract_lets +onlyGivenNames x3
    have hx3 : z.Keeps x3 := Chip.setHeld_keeps hp1
    clear_value x3
    exact Chip.modCl_keeps (Chip.set_keeps (Chip.enter_keeps hx3))
  · exact Chip.setHeld_keeps hp1

theorem Chip.modCle_keeps {z : Chip} {p1 : Chip} {p2 : ℕ} {p3 : CleS → CleS} (hp1 : z.Keeps p1) : z.Keeps (Chip.modCle p1 p2 p3) := by
  unfold Chip.modCle
  exact (Chip.Keeps.same hp1 rfl rfl rfl rfl)

theorem Chip.feZero_keeps {z : Chip} {p1 : Chip} {p2 : ℕ} (hp1 : z.Keeps p1) : z.Keeps (Chip.feZero p1 p2) := by
  unfold Chip.feZero
  exact Chip.set_keeps (Chip.modCle_keeps hp1)

theorem Chip.clearLists_keeps {z : Chip} {p1 : Chip} {p2 : ℕ} (hp1 : z.Keeps p1) : z.Keeps (Chip.clearLists p1 p2) := by
  unfold Chip.clearLists
  extract_lets +onlyGivenNames x1
  have hx1 : z.Keeps x1 := Chip.modCle_keeps hp1
  clear_value x1
  exact .each hx1 (fun a2 t3 ht3 => Chip.set_keeps ht3)

theorem Chip.enterCatch_keeps {z : Chip} {p1 : Chip} {p2 : ℕ} (hp1 : z.Keeps p1) : z.Keeps (Chip.enterCatch p1 p2) := by
  unfold Chip.enterCatch
  extract_lets +onlyGivenNames x1
  have hx1 : z.Keeps x1 := Chip.enter_keeps hp1
  clear_value x1
  extract_lets +onlyGivenNames x2
  have hx2 : z.Keeps x2 := Chip.sets_keeps hx1
  clear_value x2
  extract_lets +onlyGivenNames x3
  have hx3 : z.Keeps x3 := Chip.modCl_keeps hx2
  clear_value x3
  exact .each hx3 (fun a4 t5 ht5 => Chip.feZero_keeps (Chip.clearLists_keeps ht5))

theorem Chip.tryLeaveSafe_keeps {z : Chip} {p1 : Chip} {p2 : ℕ} (hp1 : z.Keeps p1) : z.Keeps (Chip.tryLeaveSafe p1 p2) := by
  unfold Chip.tryLeaveSafe
  extract_lets +onlyGivenNames x1
  refine .ite ?_ hp1
  extract_lets +onlyGivenNames x2
  have hx2 : z.Keeps x2 := Chip.enter_keeps (Chip.modCl_keeps hp1)
  clear_value x2
  refine .ite ?_ hx2
  extract_lets +onlyGivenNames x3
  have hx3 : z.Keeps x3 := Chip.setStanding_keeps hx2
  clear_value x3
  exact .ite (Chip.bcmStart_keeps hx3) (Chip.enterCatch_keeps hx3)

theorem Chip.settleHolds_keeps {z : Chip} {p1 : Chip} (hp1 : z.Keeps p1) : z.Keeps (Chip.settleHolds p1) := by
  unfold Chip.settleHolds
  exact .each hp1 (fun a1 t2 ht2 => Chip.tryLeaveSafe_keeps (Chip.refreshHold_keeps ht2))

theorem Chip.faultAll_keeps {z : Chip} {p1 : Chip} {p2 : ℕ} {p3 : ℕ} {p4 : ℕ} {p5 : List ℕ} {p6 : ℕ} (hp1 : z.Keeps p1) : z.Keeps (Chip.faultAll p1 p2 p3 p4 p5 p6) := by
  unfold Chip.faultAll
  extract_lets +onlyGivenNames x1
  have hx1 : z.Keeps x1 := Chip.record_keeps hp1
  clear_value x1
  exact .each hx1 (fun a2 t3 ht3 => Chip.fall_keeps (Chip.sets_keeps ht3))

theorem Chip.faultOn_keeps {z : Chip} {p1 : Chip} {p2 : ℕ} {p3 : ℕ} {p4 : ℕ} {p5 : List ℕ} {p6 : ℕ} (hp1 : z.Keeps p1) : z.Keeps (Chip.faultOn p1 p2 p3 p4 p5 p6) := by
  unfold Chip.faultOn
  split
  · exact Chip.faultCl_keeps hp1
  · exact Chip.faultAll_keeps hp1

theorem Chip.showOv3_keeps {z : Chip} {p1 : Chip} (hp1 : z.Keeps p1) : z.Keeps (Chip.showOv3 p1) := by
  unfold Chip.showOv3
  exact (Chip.Keeps.same hp1 rfl rfl rfl rfl)

theorem Chip.showVdc_keeps {z : Chip} {p1 : Chip} (hp1 : z.Keeps p1) : z.Keeps (Chip.showVdc p1) := by
  unfold Chip.showVdc
  extract_lets +onlyGivenNames x1
  clear_value x1
  extract_lets +onlyGivenNames x2
  have hx2 : z.Keeps x2 := Chip.set_keeps hp1
  clear_value x2
  extract_lets +onlyGivenNames x3
  clear_value x3
  extract_lets +onlyGivenNames x4
  have hx4 : z.Keeps x4 := Chip.set_keeps hx2
  clear_value x4
  extract_lets +onlyGivenNames x5
  have hx5 : z.Keeps x5 := .ite (Chip.put_keeps hx4) hx4
  clear_value x5
  exact .ite (Chip.put_keeps hx5) hx5

theorem Chip.cmpDemand_keeps {z : Chip} {p1 : Chip} {p2 : ℕ} {p3 : List ℕ} {p4 : ℕ} (hp1 : z.Keeps p1) : z.Keeps (Chip.cmpDemand p1 p2 p3 p4) := by
  unfold Chip.cmpDemand
  split
  · exact Chip.faultOn_keeps hp1
  · exact Chip.faultOn_keeps hp1
  · exact Chip.faultAll_keeps (Chip.showOv3_keeps (Chip.showVdc_keeps (Chip.put_keeps hp1)))
  · exact hp1

theorem Chip.cmpDemands_keeps {z : Chip} {p1 : Chip} (hp1 : z.Keeps p1) : z.Keeps (Chip.cmpDemands p1) := by
  unfold Chip.cmpDemands
  refine .each hp1 ?_
  intro a1 t2 ht2
  extract_lets +onlyGivenNames x3
  refine .ite ht2 ?_
  extract_lets +onlyGivenNames x4
  clear_value x4
  exact Chip.cmpDemand_keeps ht2

theorem Chip.adcWrite_keeps {z : Chip} {p1 : Chip} {p2 : ℕ} {p3 : ℕ} (hp1 : z.Keeps p1) : z.Keeps (Chip.adcWrite p1 p2 p3) := by
  unfold Chip.adcWrite
  extract_lets +onlyGivenNames x1
  clear_value x1
  refine .ite (Chip.refWrite_keeps hp1) ?_
  refine .ite ?_ ?_
  · extract_lets +onlyGivenNames x2
    have hx2 : z.Keeps x2 := Chip.genericWrite_keeps hp1
    clear_value x2
    exact .ite (Chip.scanStart_keeps hx2) hx2
  · refine .ite (.ite (Chip.sarCfgWrite_keeps hp1) (Chip.refuse_keeps hp1)) ?_
    refine .ite (Chip.sdClkWrite_keeps hp1) ?_
    refine .ite (.ite (Chip.slotWritten_keeps (Chip.configWord_keeps hp1)) (Chip.refuse_keeps hp1)) ?_
    refine .ite hp1 ?_
    refine .ite (Chip.freezeDone_keeps (Chip.genericWrite_keeps hp1)) ?_
    refine .ite ?_ (Chip.genericWrite_keeps hp1)
    extract_lets +onlyGivenNames x3
    extract_lets +onlyGivenNames x4
    have hx4 : z.Keeps x4 := Chip.cmpFreed_keeps hp1 (Chip.cmpCfgDone_keeps (Chip.genericWrite_keeps hp1))
    clear_value x4
    exact .ite hx4 (Chip.settleHolds_keeps (Chip.cmpDemands_keeps (Chip.applyContactors_keeps (Chip.showVdc_keeps (Chip.showOv3_keeps hx4)))))

theorem Chip.addrConflict_keeps {z : Chip} {p1 : Chip} {p2 : ℕ} {p3 : ℕ} (hp1 : z.Keeps p1) : z.Keeps (Chip.addrConflict p1 p2 p3) := by
  unfold Chip.addrConflict
  exact Chip.note_keeps hp1

theorem Chip.modChm_keeps {z : Chip} {p1 : Chip} {p2 : ChmS → ChmS} (hp1 : z.Keeps p1) : z.Keeps (Chip.modChm p1 p2) := by
  unfold Chip.modChm
  exact (Chip.Keeps.same hp1 rfl rfl rfl rfl)

theorem Chip.modAge_keeps {z : Chip} {p1 : Chip} {p2 : ℕ} {p3 : AgeS → AgeS} (hp1 : z.Keeps p1) : z.Keeps (Chip.modAge p1 p2 p3) := by
  unfold Chip.modAge
  exact Chip.modChm_keeps hp1

theorem Chip.showLearn_keeps {z : Chip} {p1 : Chip} {p2 : ℕ} (hp1 : z.Keeps p1) : z.Keeps (Chip.showLearn p1 p2) := by
  unfold Chip.showLearn
  extract_lets +onlyGivenNames x1
  exact Chip.put_keeps hp1

theorem Chip.ageMeasure_keeps {z : Chip} {p1 : Chip} {p2 : ℕ} {p3 : ℕ} {p4 : ℕ} (hp1 : z.Keeps p1) : z.Keeps (Chip.ageMeasure p1 p2 p3 p4) := by
  unfold Chip.ageMeasure
  refine .ite hp1 ?_
  extract_lets +onlyGivenNames x1
  extract_lets +onlyGivenNames x2
  clear_value x2
  extract_lets +onlyGivenNames x3
  clear_value x3
  extract_lets +onlyGivenNames x4
  have hx4 : z.Keeps x4 := .ite (Chip.modAge_keeps hp1) (Chip.modAge_keeps hp1)
  clear_value x4
  exact Chip.showLearn_keeps hx4

theorem Chip.showWrites_keeps {z : Chip} {p1 : Chip} (hp1 : z.Keeps p1) : z.Keeps (Chip.showWrites p1) := by
  unfold Chip.showWrites
  extract_lets +onlyGivenNames x1
  extract_lets +onlyGivenNames x2
  extract_lets +onlyGivenNames x3
  have hx3 : z.Keeps x3 := Chip.sets_keeps hp1
  clear_value x3
  exact .each hx3 (fun a4 t5 ht5 => Chip.sets_keeps ht5)

theorem Chip.submitWrite_keeps {z : Chip} {p1 : Chip} {p2 : WriteOwner} (hp1 : z.Keeps p1) : z.Keeps (Chip.submitWrite p1 p2) := by
  unfold Chip.submitWrite
  extract_lets +onlyGivenNames x1
  extract_lets +onlyGivenNames x2
  clear_value x2
  extract_lets +onlyGivenNames x3
  have hx3 : z.Keeps x3 := Chip.modChm_keeps hp1
  clear_value x3
  extract_lets +onlyGivenNames x4
  have hx4 : z.Keeps x4 := .ite hx3 (Chip.note_keeps (Chip.put_keeps hx3))
  clear_value x4
  exact Chip.showWrites_keeps hx4

theorem Chip.dropWrite_keeps {z : Chip} {p1 : Chip} {p2 : WriteOwner} (hp1 : z.Keeps p1) : z.Keeps (Chip.dropWrite p1 p2) := by
  unfold Chip.dropWrite
  exact Chip.showWrites_keeps (Chip.modChm_keeps hp1)

theorem Chip.ageStored_keeps {z : Chip} {p1 : Chip} {p2 : ℕ} (hp1 : z.Keeps p1) : z.Keeps (Chip.ageStored p1 p2) := by
  unfold Chip.ageStored
  exact Chip.put_keeps (Chip.dropWrite_keeps (Chip.setBytes_keeps hp1))

theorem Chip.ageStoreSubmit_keeps {z : Chip} {p1 : Chip} {p2 : ℕ} (hp1 : z.Keeps p1) : z.Keeps (Chip.ageStoreSubmit p1 p2) := by
  unfold Chip.ageStoreSubmit
  extract_lets +onlyGivenNames x1
  have hx1 : z.Keeps x1 := Chip.submitWrite_keeps (Chip.modAge_keeps hp1)
  clear_value x1
  exact .ite (Chip.ageStored_keeps hx1) hx1

theorem Chip.store_keeps {z : Chip} {p1 : Chip} {p2 : ℕ} {p3 : ℕ} {p4 : ℕ} (hp1 : z.Keeps p1) : z.Keeps (Chip.store p1 p2 p3 p4) := by
  unfold Chip.store
  exact Chip.setBytes_keeps hp1

theorem Chip.putSwap_keeps {z : Chip} {p1 : Chip} {p2 : ℕ} {p3 : ℕ} {p4 : SwapStep} (hp1 : z.Keeps p1) : z.Keeps (Chip.putSwap p1 p2 p3 p4) := by
  unfold Chip.putSwap
  extract_lets +onlyGivenNames x1
  have hx1 : z.Keeps x1 := Chip.modCl_keeps hp1
  clear_value x1
  extract_lets +onlyGivenNames x2
  have hx2 : z.Keeps x2 := .ite (Chip.clrBitOf_keeps hx1) (Chip.setBitOf_keeps hx1)
  clear_value x2
  exact .ite (Chip.setBitOf_keeps hx2) (Chip.clrBitOf_keeps hx2)

theorem Chip.swapRequest_keeps {z : Chip} {p1 : Chip} {p2 : ℕ} {p3 : ℕ} (hp1 : z.Keeps p1) : z.Keeps (Chip.swapRequest p1 p2 p3) := by
  unfold Chip.swapRequest
  refine .ite hp1 ?_
  extract_lets +onlyGivenNames x1
  have hx1 : z.Keeps x1 := Chip.clrBitOf_keeps (Chip.clrBitOf_keeps (Chip.clrBitOf_keeps hp1))
  clear_value x1
  exact Chip.putSwap_keeps (Chip.modCl_keeps hx1)

theorem Chip.ageSwapOut_keeps {z : Chip} {p1 : Chip} {p2 : ℕ} {p3 : Bool} (hp1 : z.Keeps p1) : z.Keeps (Chip.ageSwapOut p1 p2 p3) := by
  unfold Chip.ageSwapOut
  extract_lets +onlyGivenNames x1
  clear_value x1
  extract_lets +onlyGivenNames x2
  have hx2 : z.Keeps x2 := Chip.store_keeps hp1
  clear_value x2
  extract_lets +onlyGivenNames x3
  have hx3 : z.Keeps x3 := Chip.modAge_keeps hx2
  clear_value x3
  extract_lets +onlyGivenNames x4
  have hx4 : z.Keeps x4 := Chip.put_keeps (Chip.modCl_keeps hx3)
  clear_value x4
  exact Chip.swapRequest_keeps hx4

theorem Chip.ageSwapped_keeps {z : Chip} {p1 : Chip} {p2 : ℕ} (hp1 : z.Keeps p1) : z.Keeps (Chip.ageSwapped p1 p2) := by
  unfold Chip.ageSwapped
  extract_lets +onlyGivenNames x1
  extract_lets +onlyGivenNames x2
  have hx2 : z.Keeps x2 := Chip.noteCl_keeps (Chip.put_keeps hp1)
  clear_value x2
  extract_lets +onlyGivenNames x3
  have hx3 : z.Keeps x3 := Chip.count_keeps hx2
  clear_value x3
  extract_lets +onlyGivenNames x4
  have hx4 : z.Keeps x4 := Chip.modAge_keeps hx3
  clear_value x4
  exact .ite (Chip.ageStoreSubmit_keeps hx4) (Chip.put_keeps hx4)

theorem Chip.ageTake_keeps {z : Chip} {p1 : ℕ} {p2 : Chip} {p3 : ℕ} (hp2 : z.Keeps p2) : z.Keeps (Chip.ageTake p1 p2 p3) := by
  unfold Chip.ageTake
  extract_lets +onlyGivenNames x1
  clear_value x1
  extract_lets +onlyGivenNames x2
  clear_value x2
  extract_lets +onlyGivenNames x3
  extract_lets +onlyGivenNames x4
  clear_value x4
  extract_lets +onlyGivenNames x5
  have hx5 : z.Keeps x5 := Chip.modAge_keeps hp2
  clear_value x5
  exact .ite hx5 (Chip.store_keeps hx5)

theorem Chip.allHiz_keeps {z : Chip} {p1 : Chip} (hp1 : z.Keeps p1) : z.Keeps (Chip.allHiz p1) := by
  unfold Chip.allHiz
  exact .each hp1 (fun a1 t2 ht2 => .ite ht2 (Chip.put_keeps ht2))

theorem Chip.modPwr_keeps {z : Chip} {p1 : Chip} {p2 : PowerS → PowerS} (hp1 : z.Keeps p1) : z.Keeps (Chip.modPwr p1 p2) := by
  unfold Chip.modPwr
  exact (Chip.Keeps.same hp1 rfl rfl rfl rfl)

theorem Chip.showReq_keeps {z : Chip} {p1 : Chip} (hp1 : z.Keeps p1) : z.Keeps (Chip.showReq p1) := by
  unfold Chip.showReq
  exact Chip.modPwr_keeps hp1

theorem Chip.wake_keeps {z : Chip} {p1 : Chip} {p2 : ℕ} (hp1 : z.Keeps p1) : z.Keeps (Chip.wake p1 p2) := by
  unfold Chip.wake
  extract_lets +onlyGivenNames x1
  have hx1 : z.Keeps x1 := Chip.modPwr_keeps (Chip.set_keeps hp1)
  clear_value x1
  exact Chip.showReq_keeps hx1

theorem Chip.firstNote_keeps {z : Chip} {p1 : Chip} {p2 : Field} {p3 : ℕ} {p4 : ℕ} {p5 : ℕ} (hp1 : z.Keeps p1) : z.Keeps (Chip.firstNote p1 p2 p3 p4 p5) := by
  unfold Chip.firstNote
  exact .ite (Chip.put_keeps hp1) (Chip.note_keeps (Chip.put_keeps hp1))

theorem Chip.crossing_keeps {z : Chip} {p1 : Chip} {p2 : ℕ} (hp1 : z.Keeps p1) : z.Keeps (Chip.crossing p1 p2) := by
  unfold Chip.crossing
  refine .ite ?_ hp1
  extract_lets +onlyGivenNames x1
  clear_value x1
  refine .ite (Chip.modPwr_keeps hp1) ?_
  extract_lets +onlyGivenNames x2
  exact Chip.firstNote_keeps hp1

theorem Chip.slotRun_keeps {z : Chip} {p1 : Chip} {p2 : ℕ} (hp1 : z.Keeps p1) : z.Keeps (Chip.slotRun p1 p2) := by
  unfold Chip.slotRun
  extract_lets +onlyGivenNames x1
  have hx1 : z.Keeps x1 := .ite hp1 (Chip.modPwr_keeps hp1)
  clear_value x1
  exact .each hx1 (fun a2 t3 ht3 => .ite (Chip.openGate_keeps ht3) (Chip.crossing_keeps ht3))

theorem Chip.sleepAbandon_keeps {z : Chip} {p1 : Chip} (hp1 : z.Keeps p1) : z.Keeps (Chip.sleepAbandon p1) := by
  unfold Chip.sleepAbandon
  extract_lets +onlyGivenNames x1
  extract_lets +onlyGivenNames x2
  have hx2 : z.Keeps x2 := Chip.modPwr_keeps hp1
  clear_value x2
  exact Chip.showReq_keeps (Chip.sets_keeps hx2)

theorem Chip.slotFire_keeps {z : Chip} {p1 : Chip} {p2 : ℕ} (hp1 : z.Keeps p1) : z.Keeps (Chip.slotFire p1 p2) := by
  unfold Chip.slotFire
  refine .ite hp1 ?_
  extract_lets +onlyGivenNames x1
  have hx1 : z.Keeps x1 := Chip.setBitOf_keeps hp1
  clear_value x1
  extract_lets +onlyGivenNames x2
  have hx2 : ∀ w3, z.Keeps w3 → z.Keeps (x2 w3) := fun w3 hw3 => Chip.modPwr_keeps hw3
  clear_value x2
  split
  · exact hx2 _ (Chip.wake_keeps hx1)
  · exact hx2 _ (Chip.wake_keeps hx1)
  · exact hx1
  · exact hx2 _ (Chip.wake_keeps hx1)
  · exact Chip.slotRun_keeps (Chip.note_keeps (Chip.sleepAbandon_keeps hx1))
  · exact Chip.slotRun_keeps hx1

theorem Chip.aonCycle_keeps {z : Chip} {p1 : Chip} (hp1 : z.Keeps p1) : z.Keeps (Chip.aonCycle p1) := by
  unfold Chip.aonCycle
  extract_lets +onlyGivenNames x1
  have hx1 : z.Keeps x1 := Chip.count_keeps hp1
  clear_value x1
  extract_lets +onlyGivenNames x2
  have hx2 : z.Keeps x2 := .ite (Chip.bump_keeps hx1) hx1
  clear_value x2
  extract_lets +onlyGivenNames x3
  clear_value x3
  extract_lets +onlyGivenNames x4
  clear_value x4
  extract_lets +onlyGivenNames x5
  clear_value x5
  extract_lets +onlyGivenNames x6
  have hx6 : z.Keeps x6 := Chip.modPwr_keeps hx2
  clear_value x6
  exact Chip.slotFire_keeps (.ite (Chip.slotFire_keeps hx6) hx6)

theorem Chip.aonTick_keeps {z : Chip} {p1 : Chip} (hp1 : z.Keeps p1) : z.Keeps (Chip.aonTick p1) := by
  unfold Chip.aonTick
  extract_lets +onlyGivenNames x1
  clear_value x1
  refine .ite (Chip.modPwr_keeps hp1) ?_
  extract_lets +onlyGivenNames x2
  have hx2 : z.Keeps x2 := Chip.modPwr_keeps hp1
  clear_value x2
  exact .ite hx2 (Chip.aonCycle_keeps hx2)

theorem Chip.syncCheck_keeps {z : Chip} {p1 : Chip} {p2 : ℕ} (hp1 : z.Keeps p1) : z.Keeps (Chip.syncCheck p1 p2) := by
  unfold Chip.syncCheck
  refine .ite (Chip.modSlice_keeps hp1) ?_
  refine .ite ?_ (Chip.modSlice_keeps hp1)
  refine .ite ?_ (Chip.modSlice_keeps hp1)
  extract_lets +onlyGivenNames x1
  have hx1 : z.Keeps x1 := Chip.modSlice_keeps hp1
  clear_value x1
  exact Chip.record_keeps (Chip.put_keeps hx1)

theorem Chip.showNtc_keeps {z : Chip} {p1 : Chip} {p2 : ℕ} (hp1 : z.Keeps p1) : z.Keeps (Chip.showNtc p1 p2) := by
  unfold Chip.showNtc
  extract_lets +onlyGivenNames x1
  clear_value x1
  refine .ite ?_ (Chip.sets_keeps hp1)
  extract_lets +onlyGivenNames x2
  clear_value x2
  extract_lets +onlyGivenNames x3
  clear_value x3
  exact Chip.sets_keeps hp1

theorem Chip.mirrorDirty_keeps {z : Chip} {p1 : Chip} {p2 : ℕ} {p3 : ℕ} (hp1 : z.Keeps p1) : z.Keeps (Chip.mirrorDirty p1 p2 p3) := by
  unfold Chip.mirrorDirty
  extract_lets +onlyGivenNames x1
  have hx1 : z.Keeps x1 := Chip.modIsl_keeps hp1
  clear_value x1
  exact Chip.put_keeps hx1

theorem Chip.showSupply_keeps {z : Chip} {p1 : Chip} {p2 : ℕ} (hp1 : z.Keeps p1) : z.Keeps (Chip.showSupply p1 p2) := by
  unfold Chip.showSupply
  exact Chip.put_keeps hp1

theorem Chip.islCfgDone_keeps {z : Chip} {p1 : Chip} {p2 : ℕ} (hp1 : z.Keeps p1) : z.Keeps (Chip.islCfgDone p1 p2) := by
  unfold Chip.islCfgDone
  extract_lets +onlyGivenNames x1
  have hx1 : z.Keeps x1 := .ite (Chip.showNtc_keeps (Chip.sets_keeps hp1)) hp1
  clear_value x1
  extract_lets +onlyGivenNames x2
  have hx2 : z.Keeps x2 := .ite hx1 (Chip.put_keeps hx1)
  clear_value x2
  exact Chip.mirrorDirty_keeps (Chip.showSupply_keeps hx2)

theorem Chip.xfmrUpdate_keeps {z : Chip} {p1 : Chip} (hp1 : z.Keeps p1) : z.Keeps (Chip.xfmrUpdate p1) := by
  unfold Chip.xfmrUpdate
  refine .each hp1 ?_
  intro a1 t2 ht2
  extract_lets +onlyGivenNames x3
  extract_lets +onlyGivenNames x4
  exact (Chip.Keeps.same ht2 rfl rfl rfl rfl)

theorem Chip.modPos_keeps {z : Chip} {p1 : Chip} {p2 : ℕ} {p3 : PosS → PosS} (hp1 : z.Keeps p1) : z.Keeps (Chip.modPos p1 p2 p3) := by
  unfold Chip.modPos
  exact (Chip.Keeps.same hp1 rfl rfl rfl rfl)

theorem Chip.posFresh_keeps {z : Chip} {p1 : Chip} {p2 : ℕ} (hp1 : z.Keeps p1) : z.Keeps (Chip.posFresh p1 p2) := by
  unfold Chip.posFresh
  exact Chip.modPos_keeps hp1

theorem Chip.posLose_keeps {z : Chip} {p1 : Chip} {p2 : ℕ} (hp1 : z.Keeps p1) : z.Keeps (Chip.posLose p1 p2) := by
  unfold Chip.posLose
  extract_lets +onlyGivenNames x1
  have hx1 : z.Keeps x1 := Chip.put_keeps (Chip.modPos_keeps hp1)
  clear_value x1
  exact .ite (Chip.put_keeps (Chip.put_keeps hx1)) hx1

theorem Chip.posNote_keeps {z : Chip} {p1 : Chip} {p2 : ℕ} {p3 : ℕ} {p4 : ℕ} (hp1 : z.Keeps p1) : z.Keeps (Chip.posNote p1 p2 p3 p4) := by
  unfold Chip.posNote
  split
  · exact Chip.record_keeps hp1
  · exact Chip.note_keeps hp1

theorem Chip.resStart_keeps {z : Chip} {p1 : Chip} {p2 : ℕ} (hp1 : z.Keeps p1) : z.Keeps (Chip.resStart p1 p2) := by
  unfold Chip.resStart
  split
  · exact Chip.posNote_keeps (Chip.modPos_keeps hp1)
  · rename_i y3 q4
    extract_lets +onlyGivenNames x5
    clear_value x5
    extract_lets +onlyGivenNames x6
    clear_value x6
    extract_lets +onlyGivenNames x7
    clear_value x7
    extract_lets +onlyGivenNames x8
    extract_lets +onlyGivenNames x9
    exact .ite (Chip.posNote_keeps (Chip.modPos_keeps hp1)) (.ite (Chip.posNote_keeps (Chip.modPos_keeps hp1)) (Chip.modPos_keeps hp1))

theorem Chip.hallCentre_keeps {z : Chip} {p1 : Chip} {p2 : ℕ} (hp1 : z.Keeps p1) : z.Keeps (Chip.hallCentre p1 p2) := by
  unfold Chip.hallCentre
  extract_lets +onlyGivenNames x1
  clear_value x1
  exact .ite (Chip.set_keeps hp1) hp1

theorem Chip.posRestart_keeps {z : Chip} {p1 : Chip} {p2 : ℕ} (hp1 : z.Keeps p1) : z.Keeps (Chip.posRestart p1 p2) := by
  unfold Chip.posRestart
  extract_lets +onlyGivenNames x1
  have hx1 : z.Keeps x1 := Chip.posFresh_keeps (Chip.posLose_keeps hp1)
  clear_value x1
  extract_lets +onlyGivenNames x2
  have hx2 : z.Keeps x2 := Chip.sets_keeps hx1
  clear_value x2
  exact .ite (Chip.resStart_keeps hx2) (.ite (Chip.hallCentre_keeps hx2) hx2)

theorem Chip.posCfgSet_keeps {z : Chip} {p1 : Chip} {p2 : ℕ} {p3 : ℕ} (hp1 : z.Keeps p1) : z.Keeps (Chip.posCfgSet p1 p2 p3) := by
  unfold Chip.posCfgSet
  extract_lets +onlyGivenNames x1
  clear_value x1
  extract_lets +onlyGivenNames x2
  have hx2 : z.Keeps x2 := Chip.configWord_keeps hp1
  clear_value x2
  exact .ite (Chip.posRestart_keeps hx2) (.ite (Chip.put_keeps (Chip.modPos_keeps hx2)) hx2)

theorem Chip.showLists_keeps {z : Chip} {p1 : Chip} {p2 : ℕ} (hp1 : z.Keeps p1) : z.Keeps (Chip.showLists p1 p2) := by
  unfold Chip.showLists
  exact Chip.set_keeps hp1

theorem Chip.listWritten_keeps {z : Chip} {p1 : Chip} {p2 : ℕ} {p3 : ℕ} (hp1 : z.Keeps p1) : z.Keeps (Chip.listWritten p1 p2 p3) := by
  unfold Chip.listWritten
  extract_lets +onlyGivenNames x1
  have hx1 : z.Keeps x1 := Chip.showLists_keeps hp1
  clear_value x1
  extract_lets +onlyGivenNames x2
  clear_value x2
  exact .ite hx1 (Chip.noteCl_keeps (Chip.put_keeps hx1))

theorem Chip.coefRefused_keeps {z : Chip} {p1 : Chip} {p2 : ℕ} {p3 : ℕ} (hp1 : z.Keeps p1) : z.Keeps (Chip.coefRefused p1 p2 p3) := by
  unfold Chip.coefRefused
  exact Chip.noteCl_keeps (Chip.put_keeps hp1)

theorem Chip.staleCrc_keeps {z : Chip} {p1 : Chip} {p2 : ℕ} (hp1 : z.Keeps p1) : z.Keeps (Chip.staleCrc p1 p2) := by
  unfold Chip.staleCrc
  exact Chip.put_keeps hp1

theorem Chip.configWrite_keeps {z : Chip} {p1 : Chip} {p2 : ℕ} {p3 : ℕ} (hp1 : z.Keeps p1) : z.Keeps (Chip.configWrite p1 p2 p3) := by
  unfold Chip.configWrite
  extract_lets +onlyGivenNames x1
  clear_value x1
  refine .ite ?_ ?_
  · extract_lets +onlyGivenNames x2
    clear_value x2
    refine .ite (.ite hp1 (Chip.put_keeps (Chip.configWord_keeps hp1))) ?_
    extract_lets +onlyGivenNames x3
    have hx3 : z.Keeps x3 := Chip.configWord_keeps hp1
    clear_value x3
    extract_lets +onlyGivenNames x4
    have hx4 : z.Keeps x4 := .ite (Chip.put_keeps hx3) hx3
    clear_value x4
    exact .ite (Chip.syncCheck_keeps hx4) hx4
  · refine .ite ?_ (.ite (Chip.xfmrUpdate_keeps (Chip.configWord_keeps hp1)) (.ite (Chip.refWrite_keeps hp1) (.ite (.each hp1 (fun a7 t8 ht8 => Chip.sdClkSet_keeps ht8)) (.ite (Chip.sarCfgWrite_keeps hp1) (.ite (Chip.slotWritten_keeps (Chip.configWord_keeps hp1)) (.ite (Chip.freezeDone_keeps (Chip.configWord_keeps hp1)) (.ite (Chip.cmpCfgDone_keeps (Chip.configWord_keeps hp1)) (.ite (Chip.posCfgSet_keeps hp1) (.ite (Chip.listWritten_keeps (Chip.configWord_keeps hp1)) (.ite (Chip.coefRefused_keeps hp1) (.ite (Chip.staleCrc_keeps (Chip.configWord_keeps hp1)) (Chip.configWord_keeps hp1))))))))))))
    extract_lets +onlyGivenNames x5
    clear_value x5
    extract_lets +onlyGivenNames x6
    clear_value x6
    exact .ite (.ite (Chip.refuse_keeps hp1) (Chip.islCfgDone_keeps (Chip.configWord_keeps hp1))) (.ite (Chip.mirrorDirty_keeps (Chip.configWord_keeps hp1)) (Chip.configWord_keeps hp1))

theorem Chip.applyRec_keeps {z : Chip} {p1 : ℕ → Bool} {p2 : ℕ} {p3 : List ℕ} {p4 : Chip} (hp4 : z.Keeps p4) :
    z.Keeps (Chip.applyRec p1 p2 p3 p4) := by
  induction p3 generalizing p2 p4 with
  | nil => exact hp4
  | cons d l ih => exact ih (.ite (Chip.configWrite_keeps hp4) hp4)

theorem Chip.applyUnitcfg_keeps {z : Chip} {p1 : Chip} {p2 : ℕ → Bool} (hp1 : z.Keeps p1) : z.Keeps (Chip.applyUnitcfg p1 p2) := by
  unfold Chip.applyUnitcfg
  exact .each hp1 (fun a1 t2 ht2 => Chip.applyRec_keeps ht2)

theorem Chip.arbWrite_keeps {z : Chip} {p1 : Chip} {p2 : ℕ} (hp1 : z.Keeps p1) : z.Keeps (Chip.arbWrite p1 p2) := by
  unfold Chip.arbWrite
  exact .ite hp1 (.ite (Chip.note_keeps hp1) (Chip.put_keeps hp1))

theorem Chip.atTick_keeps {z : Chip} {p1 : Chip} {p2 : ℕ} {p3 : Chip → Chip} (hp1 : z.Keeps p1) (hp3 : ∀ u1, z.Keeps u1 → z.Keeps (p3 u1)) :
    z.Keeps (Chip.atTick p1 p2 p3) :=
  (hp3 { p1 with now := p2 } (hp1.same rfl rfl rfl rfl)).same rfl rfl rfl rfl

theorem Chip.modMeas_keeps {z : Chip} {p1 : Chip} {p2 : ℕ} {p3 : MeasS → MeasS} (hp1 : z.Keeps p1) : z.Keeps (Chip.modMeas p1 p2 p3) := by
  unfold Chip.modMeas
  exact (Chip.Keeps.same hp1 rfl rfl rfl rfl)

theorem Chip.bankBoundary_keeps {z : Chip} {p1 : Chip} {p2 : ℕ} (hp1 : z.Keeps p1) : z.Keeps (Chip.bankBoundary p1 p2) := by
  unfold Chip.bankBoundary
  extract_lets +onlyGivenNames x1
  extract_lets +onlyGivenNames x2
  have hx2 : ∀ w3, ∀ w4, z.Keeps w4 → z.Keeps (x2 w3 w4) := fun w3 w4 hw4 => Chip.modMeas_keeps hw4
  clear_value x2
  exact .ite (Chip.put_keeps (Chip.bump_keeps (hx2 _ _ hp1))) (Chip.sets_keeps (hx2 _ _ hp1))

theorem Chip.showBoot_keeps {z : Chip} {p1 : Chip} (hp1 : z.Keeps p1) : z.Keeps (Chip.showBoot p1) := by
  unfold Chip.showBoot
  extract_lets +onlyGivenNames x1
  exact Chip.sets_keeps hp1

theorem Chip.bootStore_keeps {z : Chip} {p1 : Chip} {p2 : BootUpdate} (hp1 : z.Keeps p1) : z.Keeps (Chip.bootStore p1 p2) := by
  unfold Chip.bootStore
  extract_lets +onlyGivenNames x1
  clear_value x1
  extract_lets +onlyGivenNames x2
  exact Chip.showBoot_keeps (Chip.setBytes_keeps hp1)

theorem Chip.bankChoice_keeps {z : Chip} {p1 : Chip} {p2 : TrialWrite} (hp1 : z.Keeps p1) : z.Keeps (Chip.bankChoice p1 p2).1 := by
  unfold Chip.bankChoice
  extract_lets +onlyGivenNames x1
  refine .iteP (.fst (Chip.showBoot_keeps hp1)) ?_
  refine .iteP ?_ (.iteP (.fst (Chip.bootStore_keeps hp1)) (.fst (Chip.note_keeps (Chip.showBoot_keeps hp1))))
  extract_lets +onlyGivenNames x2
  have hx2 : z.Keeps x2 := Chip.note_keeps hp1
  clear_value x2
  exact .iteP (.fst (Chip.bootStore_keeps hx2)) (.fst (Chip.note_keeps (Chip.showBoot_keeps hx2)))

theorem Chip.bankCycle_keeps {z : Chip} {p1 : Chip} (hp1 : z.Keeps p1) : z.Keeps (Chip.bankCycle p1) := by
  unfold Chip.bankCycle
  extract_lets +onlyGivenNames x1
  clear_value x1
  exact Chip.modRing_keeps hp1

theorem Chip.modCfg_keeps {z : Chip} {p1 : Chip} {p2 : CfgS → CfgS} (hp1 : z.Keeps p1) : z.Keeps (Chip.modCfg p1 p2) := by
  unfold Chip.modCfg
  exact (Chip.Keeps.same hp1 rfl rfl rfl rfl)

theorem Chip.bootSubmit_keeps {z : Chip} {p1 : Chip} {p2 : BootUpdate} (hp1 : z.Keeps p1) : z.Keeps (Chip.bootSubmit p1 p2) := by
  unfold Chip.bootSubmit
  exact .ite hp1 (Chip.submitWrite_keeps (Chip.put_keeps (Chip.modCfg_keeps hp1)))

theorem Chip.bankWrite_keeps {z : Chip} {p1 : Chip} {p2 : ℕ} (hp1 : z.Keeps p1) : z.Keeps (Chip.bankWrite p1 p2) := by
  unfold Chip.bankWrite
  extract_lets +onlyGivenNames x1
  clear_value x1
  refine .ite ?_ (.ite (Chip.bootSubmit_keeps hp1) hp1)
  extract_lets +onlyGivenNames x2
  clear_value x2
  exact Chip.bootSubmit_keeps hp1

theorem Chip.decelStep_keeps {z : Chip} {p1 : Chip} {p2 : ℕ} {p3 : ℕ} (hp1 : z.Keeps p1) : z.Keeps (Chip.decelStep p1 p2 p3) := by
  unfold Chip.decelStep
  exact .ite (Chip.enter_keeps hp1) hp1

theorem Chip.rampSpeed_keeps {z : Chip} {p1 : Chip} {p2 : ℕ} (hp1 : z.Keeps p1) : z.Keeps (Chip.rampSpeed p1 p2) := by
  unfold Chip.rampSpeed
  exact .ite (Chip.modCl_keeps hp1) hp1

theorem Chip.bcmDecel_keeps {z : Chip} {p1 : Chip} {p2 : ℕ} (hp1 : z.Keeps p1) : z.Keeps (Chip.bcmDecel p1 p2) := by
  unfold Chip.bcmDecel
  extract_lets +onlyGivenNames x1
  clear_value x1
  exact .ite (Chip.decelStep_keeps (Chip.rampSpeed_keeps hp1)) hp1

theorem Chip.sliceFault_keeps {z : Chip} {p1 : Chip} {p2 : ℕ} {p3 : ℕ} {p4 : ℕ} (hp1 : z.Keeps p1) : z.Keeps (Chip.sliceFault p1 p2 p3 p4) := by
  unfold Chip.sliceFault
  split
  · exact Chip.faultCl_keeps hp1
  · exact Chip.record_keeps hp1

theorem Chip.phaseCheck_keeps {z : Chip} {p1 : Chip} {p2 : ℕ} (hp1 : z.Keeps p1) : z.Keeps (Chip.phaseCheck p1 p2) := by
  unfold Chip.phaseCheck
  refine .ite ?_ hp1
  extract_lets +onlyGivenNames x1
  clear_value x1
  extract_lets +onlyGivenNames x2
  clear_value x2
  extract_lets +onlyGivenNames x3
  have hx3 : z.Keeps x3 := .each hp1 (fun a4 t5 ht5 => Chip.put_keeps (Chip.modSlice_keeps ht5))
  clear_value x3
  extract_lets +onlyGivenNames x6
  have hx6 : z.Keeps x6 := Chip.outputs_keeps (Chip.setBitOf_keeps hx3)
  clear_value x6
  exact Chip.sliceFault_keeps hx6

theorem Chip.shootCheck_keeps {z : Chip} {p1 : Chip} {p2 : ℕ} (hp1 : z.Keeps p1) : z.Keeps (Chip.shootCheck p1 p2) := by
  unfold Chip.shootCheck
  extract_lets +onlyGivenNames x1
  clear_value x1
  refine .ite hp1 ?_
  extract_lets +onlyGivenNames x2
  have hx2 : z.Keeps x2 := Chip.outputs_keeps (Chip.put_keeps (Chip.modSlice_keeps hp1))
  clear_value x2
  exact Chip.sliceFault_keeps hx2

theorem Chip.checkSlice_keeps {z : Chip} {p1 : Chip} {p2 : ℕ} (hp1 : z.Keeps p1) : z.Keeps (Chip.checkSlice p1 p2) := by
  unfold Chip.checkSlice
  exact Chip.phaseCheck_keeps (Chip.shootCheck_keeps hp1)

theorem Chip.shortFlag_keeps {z : Chip} {p1 : Chip} {p2 : ℕ} {p3 : ℕ} {p4 : ℕ} {p5 : Option Bool} (hp1 : z.Keeps p1) : z.Keeps (Chip.shortFlag p1 p2 p3 p4 p5) := by
  unfold Chip.shortFlag
  split
  · exact Chip.put_keeps hp1
  · exact hp1
  · exact .ite hp1 (Chip.put_keeps hp1)

theorem Chip.effEdge_keeps {z : Chip} {p1 : Chip} {p2 : ℕ} {p3 : ℕ} {p4 : Bool} (hp1 : z.Keeps p1) : z.Keeps (Chip.effEdge p1 p2 p3 p4) := by
  unfold Chip.effEdge
  extract_lets +onlyGivenNames x1
  have hx1 : z.Keeps x1 := Chip.accrue_keeps hp1
  clear_value x1
  extract_lets +onlyGivenNames x2
  extract_lets +onlyGivenNames x3
  clear_value x3
  extract_lets +onlyGivenNames x4
  clear_value x4
  extract_lets +onlyGivenNames x5
  clear_value x5
  extract_lets +onlyGivenNames x6
  clear_value x6
  extract_lets +onlyGivenNames x7
  clear_value x7
  extract_lets +onlyGivenNames x8
  clear_value x8
  extract_lets +onlyGivenNames x9
  clear_value x9
  extract_lets +onlyGivenNames x10
  clear_value x10
  extract_lets +onlyGivenNames x11
  clear_value x11
  extract_lets +onlyGivenNames x12
  clear_value x12
  extract_lets +onlyGivenNames x13
  clear_value x13
  extract_lets +onlyGivenNames x14
  clear_value x14
  extract_lets +onlyGivenNames x15
  clear_value x15
  extract_lets +onlyGivenNames x16
  clear_value x16
  extract_lets +onlyGivenNames x17
  clear_value x17
  extract_lets +onlyGivenNames x18
  clear_value x18
  extract_lets +onlyGivenNames x19
  clear_value x19
  extract_lets +onlyGivenNames x20
  clear_value x20
  extract_lets +onlyGivenNames x21
  have hx21 : z.Keeps x21 := Chip.modSlice_keeps hx1
  clear_value x21
  extract_lets +onlyGivenNames x22
  clear_value x22
  extract_lets +onlyGivenNames x23
  clear_value x23
  extract_lets +onlyGivenNames x24
  have hx24 : z.Keeps x24 := .ite (Chip.shortFlag_keeps hx21) hx21
  clear_value x24
  extract_lets +onlyGivenNames x25
  have hx25 : z.Keeps x25 := .ite (Chip.shortFlag_keeps hx24) hx24
  clear_value x25
  extract_lets +onlyGivenNames x26
  clear_value x26
  extract_lets +onlyGivenNames x27
  clear_value x27
  extract_lets +onlyGivenNames x28
  have hx28 : z.Keeps x28 := .ite (Chip.fallL_keeps hx25) hx25
  clear_value x28
  extract_lets +onlyGivenNames x29
  have hx29 : z.Keeps x29 := .ite (Chip.fallH_keeps hx28) hx28
  clear_value x29
  extract_lets +onlyGivenNames x30
  have hx30 : z.Keeps x30 := .ite (.ite (Chip.modSlice_keeps hx29) (.ite hx29 (Chip.riseH_keeps hx29))) hx29
  clear_value x30
  extract_lets +onlyGivenNames x31
  have hx31 : z.Keeps x31 := .ite (.ite (Chip.modSlice_keeps hx30) (.ite hx30 (Chip.riseL_keeps hx30))) hx30
  clear_value x31
  extract_lets +onlyGivenNames x32
  have hx32 : z.Keeps x32 := Chip.modSlice_keeps hx31
  clear_value x32
  exact Chip.outputs_keeps (Chip.dropGates_keeps hx32)

theorem Chip.bcmTick_keeps {z : Chip} {p1 : Chip} {p2 : ℕ} (hp1 : z.Keeps p1) : z.Keeps (Chip.bcmTick p1 p2) := by
  unfold Chip.bcmTick
  extract_lets +onlyGivenNames x1
  clear_value x1
  exact .ite hp1 (Chip.checkSlice_keeps (Chip.effEdge_keeps (Chip.modSlice_keeps hp1)))

theorem Chip.portSet_keeps {z : Chip} {p1 : Chip} {p2 : ℕ} {p3 : ℕ} {p4 : ℕ} (hp1 : z.Keeps p1) : z.Keeps (Chip.portSet p1 p2 p3 p4) := by
  unfold Chip.portSet
  refine .ite hp1 ?_
  extract_lets +onlyGivenNames x1
  have hx1 : z.Keeps x1 := .ite (Chip.modPort_keeps hp1) hp1
  clear_value x1
  exact Chip.sets_keeps hx1

theorem Chip.claimAt_keeps {z : Chip} {p1 : Chip} {p2 : ℕ} {p3 : ℕ} (hp1 : z.Keeps p1) : z.Keeps (Chip.claimAt p1 p2 p3) := by
  unfold Chip.claimAt
  exact Chip.claimSend_keeps (Chip.portSet_keeps hp1)

theorem Chip.claimPref_keeps {z : Chip} {p1 : Chip} {p2 : ℕ} (hp1 : z.Keeps p1) : z.Keeps (Chip.claimPref p1 p2) := by
  unfold Chip.claimPref
  exact .ite (Chip.claimAt_keeps (Chip.modPort_keeps hp1)) hp1

theorem Chip.portOn_keeps {z : Chip} {p1 : Chip} {p2 : ℕ} (hp1 : z.Keeps p1) : z.Keeps (Chip.portOn p1 p2) := by
  unfold Chip.portOn
  extract_lets +onlyGivenNames x1
  have hx1 : z.Keeps x1 := Chip.modPort_keeps (Chip.put_keeps hp1)
  clear_value x1
  exact Chip.claimPref_keeps (Chip.showBackoff_keeps hx1)

theorem Chip.porchWithdraw_keeps {z : Chip} {p1 : Chip} {p2 : ℕ} (hp1 : z.Keeps p1) : z.Keeps (Chip.porchWithdraw p1 p2) := by
  unfold Chip.porchWithdraw
  refine .each (Chip.modPort_keeps hp1) ?_
  intro a1 t2 ht2
  split
  · exact .ite (Chip.modCan_keeps ht2) (Chip.bufEnd_keeps ht2)
  · exact Chip.bufEnd_keeps ht2

theorem Chip.sesFailAll_keeps {z : Chip} {p1 : Chip} {p2 : ℕ} {p3 : ℕ} (hp1 : z.Keeps p1) : z.Keeps (Chip.sesFailAll p1 p2 p3) := by
  unfold Chip.sesFailAll
  exact .each hp1 (fun a1 t2 ht2 => Chip.sesEnd_keeps ht2)

theorem Chip.portOff_keeps {z : Chip} {p1 : Chip} {p2 : ℕ} (hp1 : z.Keeps p1) : z.Keeps (Chip.portOff p1 p2) := by
  unfold Chip.portOff
  extract_lets +onlyGivenNames x1
  have hx1 : z.Keeps x1 := Chip.porchWithdraw_keeps (Chip.sesFailAll_keeps hp1)
  clear_value x1
  extract_lets +onlyGivenNames x2
  have hx2 : z.Keeps x2 := Chip.put_keeps hx1
  clear_value x2
  extract_lets +onlyGivenNames x3
  have hx3 : z.Keeps x3 := Chip.portSet_keeps hx2
  clear_value x3
  extract_lets +onlyGivenNames x4
  have hx4 : z.Keeps x4 := Chip.modPort_keeps hx3
  clear_value x4
  exact Chip.showBackoff_keeps (Chip.set_keeps hx4)

theorem Chip.porchFollow_keeps {z : Chip} {p1 : Chip} {p2 : Bool} (hp1 : z.Keeps p1) : z.Keeps (Chip.porchFollow p1 p2) := by
  unfold Chip.porchFollow
  exact .each hp1 (fun a1 t2 ht2 => .ite (.ite ht2 (Chip.portOn_keeps ht2)) (.ite (Chip.portOff_keeps ht2) ht2))

theorem Chip.roleSet_keeps {z : Chip} {p1 : Chip} {p2 : ℕ} (hp1 : z.Keeps p1) : z.Keeps (Chip.roleSet p1 p2) := by
  unfold Chip.roleSet
  extract_lets +onlyGivenNames x1
  clear_value x1
  extract_lets +onlyGivenNames x2
  have hx2 : z.Keeps x2 := Chip.set_keeps hp1
  clear_value x2
  exact .ite (Chip.porchFollow_keeps (Chip.set_keeps hx2)) (.ite (Chip.porchFollow_keeps hx2) hx2)

theorem Chip.becomeActive_keeps {z : Chip} {p1 : Chip} (hp1 : z.Keeps p1) : z.Keeps (Chip.becomeActive p1) := by
  unfold Chip.becomeActive
  extract_lets +onlyGivenNames x1
  clear_value x1
  extract_lets +onlyGivenNames x2
  have hx2 : z.Keeps x2 := Chip.sets_keeps hp1
  clear_value x2
  exact Chip.note_keeps (Chip.roleSet_keeps hx2)

theorem Chip.bitErrorSeen_keeps {z : Chip} {p1 : Chip} {p2 : ℕ} (hp1 : z.Keeps p1) : z.Keeps (Chip.bitErrorSeen p1 p2) := by
  unfold Chip.bitErrorSeen
  extract_lets +onlyGivenNames x1
  extract_lets +onlyGivenNames x2
  have hx2 : ∀ w3, z.Keeps w3 → ∀ w4, z.Keeps (x2 w3 w4) := fun w3 hw3 w4 => Chip.set_keeps (Chip.modPort_keeps hw3)
  clear_value x2
  exact .ite (hx2 _ hp1 _) (.ite (Chip.claimAt_keeps (Chip.addrConflict_keeps (hx2 _ hp1 _))) (hx2 _ hp1 _))

theorem Chip.sumRead_keeps {z : Chip} {p1 : Chip} {p2 : ℕ} (hp1 : z.Keeps p1) : z.Keeps (Chip.sumRead p1 p2) := by
  unfold Chip.sumRead
  refine .ite ?_ hp1
  extract_lets +onlyGivenNames x1
  clear_value x1
  extract_lets +onlyGivenNames x2
  extract_lets +onlyGivenNames x3
  have hx3 : z.Keeps x3 := (Chip.Keeps.same hp1 rfl rfl rfl rfl)
  clear_value x3
  exact .ite (Chip.bump_keeps hx3) hx3

theorem Chip.timLatch_keeps {z : Chip} {p1 : Chip} {p2 : Requester} (hp1 : z.Keeps p1) : z.Keeps (Chip.timLatch p1 p2) := by
  unfold Chip.timLatch
  exact (Chip.Keeps.same hp1 rfl rfl rfl rfl)

theorem Chip.coreRead_keeps {z : Chip} {p1 : Chip} {p2 : Requester} {p3 : ℕ} (hp1 : z.Keeps p1) : z.Keeps (Chip.coreRead p1 p2 p3).1 := by
  unfold Chip.coreRead
  extract_lets +onlyGivenNames x1
  clear_value x1
  refine .iteP (.fst hp1) ?_
  refine .iteP ?_ (.iteP (.fst hp1) (.iteP (.fst (Chip.timLatch_keeps hp1)) (.iteP (.fst hp1) (.iteP (.fst hp1) (.iteP (.fst hp1) (.fst (Chip.hole_keeps hp1)))))))
  extract_lets +onlyGivenNames x2
  clear_value x2
  extract_lets +onlyGivenNames x3
  clear_value x3
  refine .fst ?_
  split
  · exact .ite (Chip.sumRead_keeps hp1) hp1
  · exact hp1

theorem Chip.blockRead_keeps {z : Chip} {p1 : Chip} {p2 : Requester} {p3 : ℕ} (hp1 : z.Keeps p1) : z.Keeps (Chip.blockRead p1 p2 p3).1 := by
  unfold Chip.blockRead
  extract_lets +onlyGivenNames x1
  clear_value x1
  extract_lets +onlyGivenNames x2
  clear_value x2
  refine .iteP (Chip.coreRead_keeps hp1) ?_
  refine .iteP (.fst hp1) ?_
  refine .iteP (.fst hp1) ?_
  refine .iteP (.fst hp1) ?_
  refine .iteP (.fst hp1) ?_
  refine .iteP (.fst (Chip.useFree_keeps hp1)) ?_
  split
  · exact .fst hp1
  · exact .iteP (.fst hp1) (.fst (Chip.hole_keeps hp1))

theorem Chip.refusal_keeps {z : Chip} {p1 : Chip} {p2 : ℕ} {p3 : ℕ} {p4 : ℕ} (hp1 : z.Keeps p1) : z.Keeps (Chip.refusal p1 p2 p3 p4) := by
  unfold Chip.refusal
  extract_lets +onlyGivenNames x1
  have hx1 : z.Keeps x1 := Chip.modCl_keeps hp1
  clear_value x1
  exact Chip.noteCl_keeps (Chip.put_keeps hx1)

theorem Chip.refuseReq_keeps {z : Chip} {p1 : Chip} {p2 : ℕ} {p3 : ℕ} {p4 : ℕ} (hp1 : z.Keeps p1) : z.Keeps (Chip.refuseReq p1 p2 p3 p4) := by
  unfold Chip.refuseReq
  exact Chip.refusal_keeps hp1

theorem Chip.startRun_keeps {z : Chip} {p1 : Chip} {p2 : ℕ} (hp1 : z.Keeps p1) : z.Keeps (Chip.startRun p1 p2) := by
  unfold Chip.startRun
  exact .ite (Chip.bcmStart_keeps hp1) (Chip.enterCatch_keeps (Chip.setHeld_keeps hp1))

theorem Chip.reqRun_keeps {z : Chip} {p1 : Chip} {p2 : ℕ} (hp1 : z.Keeps p1) : z.Keeps (Chip.reqRun p1 p2) := by
  unfold Chip.reqRun
  extract_lets +onlyGivenNames x1
  clear_value x1
  extract_lets +onlyGivenNames x2
  clear_value x2
  exact .ite (Chip.refuseReq_keeps hp1) (.ite (Chip.refuseReq_keeps hp1) (.ite (Chip.setStanding_keeps (Chip.setHeld_keeps hp1)) (.ite (Chip.enter_keeps (Chip.setHeld_keeps hp1)) (.ite (Chip.startRun_keeps hp1) (Chip.setHeld_keeps hp1)))))

theorem Chip.startDecel_keeps {z : Chip} {p1 : Chip} {p2 : ℕ} {p3 : Bool} (hp1 : z.Keeps p1) : z.Keeps (Chip.startDecel p1 p2 p3) := by
  unfold Chip.startDecel
  extract_lets +onlyGivenNames x1
  clear_value x1
  extract_lets +onlyGivenNames x2
  have hx2 : z.Keeps x2 := Chip.enter_keeps hp1
  clear_value x2
  exact Chip.modCl_keeps hx2

theorem Chip.haltWdis_keeps {z : Chip} {p1 : Chip} {p2 : ℕ} (hp1 : z.Keeps p1) : z.Keeps (Chip.haltWdis p1 p2) := by
  unfold Chip.haltWdis
  exact Chip.startDecel_keeps (Chip.sets_keeps hp1)

theorem Chip.endWdis_keeps {z : Chip} {p1 : Chip} {p2 : ℕ} (hp1 : z.Keeps p1) : z.Keeps (Chip.endWdis p1 p2) := by
  unfold Chip.endWdis
  exact .ite (Chip.put_keeps (Chip.enter_keeps hp1)) hp1

theorem Chip.reqStop_keeps {z : Chip} {p1 : Chip} {p2 : ℕ} {p3 : Bool} (hp1 : z.Keeps p1) : z.Keeps (Chip.reqStop p1 p2 p3) := by
  unfold Chip.reqStop
  extract_lets +onlyGivenNames x1
  clear_value x1
  extract_lets +onlyGivenNames x2
  clear_value x2
  exact .ite (.ite (Chip.enter_keeps (Chip.setHeld_keeps hp1)) (Chip.setHeld_keeps hp1)) (.ite (.ite (Chip.refuseReq_keeps hp1) (Chip.setHeld_keeps hp1)) (.ite (.ite (Chip.refuseReq_keeps hp1) (Chip.setStanding_keeps (Chip.setHeld_keeps hp1))) (.ite (.ite (Chip.setHeld_keeps hp1) (Chip.enter_keeps (Chip.setHeld_keeps hp1))) (.ite (.ite (Chip.haltWdis_keeps hp1) (Chip.endWdis_keeps hp1)) (.ite (Chip.startDecel_keeps hp1) (Chip.modCl_keeps hp1))))))

theorem Chip.resetEngine_keeps {z : Chip} {p1 : Chip} {p2 : ℕ} (hp1 : z.Keeps p1) : z.Keeps (Chip.resetEngine p1 p2) := by
  unfold Chip.resetEngine
  extract_lets +onlyGivenNames x1
  clear_value x1
  extract_lets +onlyGivenNames x2
  have hx2 : z.Keeps x2 := Chip.resetRange_keeps (Chip.resetRange_keeps hp1)
  clear_value x2
  extract_lets +onlyGivenNames x3
  have hx3 : z.Keeps x3 := Chip.modCle_keeps hx2
  clear_value x3
  extract_lets +onlyGivenNames x4
  have hx4 : z.Keeps x4 := Chip.modCl_keeps hx3
  clear_value x4
  exact Chip.set_keeps hx4

theorem Chip.endDuplex_keeps {z : Chip} {p1 : Chip} {p2 : ℕ} (hp1 : z.Keeps p1) : z.Keeps (Chip.endDuplex p1 p2) := by
  unfold Chip.endDuplex
  refine .ite ?_ hp1
  extract_lets +onlyGivenNames x1
  clear_value x1
  extract_lets +onlyGivenNames x2
  have hx2 : z.Keeps x2 := Chip.sets_keeps (Chip.modCl_keeps hp1)
  clear_value x2
  extract_lets +onlyGivenNames x3
  have hx3 : z.Keeps x3 := Chip.resetEngine_keeps hx2
  clear_value x3
  extract_lets +onlyGivenNames x4
  clear_value x4
  exact Chip.applyUnitcfg_keeps hx3

theorem Chip.clusterHidden_keeps {z : Chip} {p1 : Chip} {p2 : ℕ} (hp1 : z.Keeps p1) : z.Keeps (Chip.clusterHidden p1 p2) := by
  unfold Chip.clusterHidden
  extract_lets +onlyGivenNames x1
  have hx1 : z.Keeps x1 := Chip.modCl_keeps hp1
  clear_value x1
  exact Chip.modCle_keeps hx1

theorem Chip.clusterRegs_keeps {z : Chip} {p1 : Chip} {p2 : ℕ} (hp1 : z.Keeps p1) : z.Keeps (Chip.clusterRegs p1 p2) := by
  unfold Chip.clusterRegs
  extract_lets +onlyGivenNames x1
  clear_value x1
  extract_lets +onlyGivenNames x2
  extract_lets +onlyGivenNames x3
  clear_value x3
  exact Chip.put_keeps (Chip.sets_keeps (Chip.resetRange_keeps hp1))

theorem Chip.copyShadows_keeps {z : Chip} {p1 : Chip} {p2 : ℕ} {p3 : Bool} {p4 : Bool} (hp1 : z.Keeps p1) : z.Keeps (Chip.copyShadows p1 p2 p3 p4) := by
  unfold Chip.copyShadows
  extract_lets +onlyGivenNames x1
  clear_value x1
  extract_lets +onlyGivenNames x2
  clear_value x2
  extract_lets +onlyGivenNames x3
  extract_lets +onlyGivenNames x4
  have hx4 : z.Keeps x4 := Chip.set_keeps (Chip.set_keeps hp1)
  clear_value x4
  exact Chip.modSlice_keeps hx4

theorem Chip.syncFollowers_keeps {z : Chip} {p1 : Chip} {p2 : ℕ} (hp1 : z.Keeps p1) : z.Keeps (Chip.syncFollowers p1 p2) := by
  unfold Chip.syncFollowers
  exact .each hp1 (fun a1 t2 ht2 => .ite (Chip.syncCheck_keeps ht2) ht2)

theorem Chip.sliceUnitReset_keeps {z : Chip} {p1 : Chip} {p2 : ℕ} (hp1 : z.Keeps p1) : z.Keeps (Chip.sliceUnitReset p1 p2) := by
  unfold Chip.sliceUnitReset
  extract_lets +onlyGivenNames x1
  clear_value x1
  extract_lets +onlyGivenNames x2
  clear_value x2
  extract_lets +onlyGivenNames x3
  clear_value x3
  extract_lets +onlyGivenNames x4
  clear_value x4
  extract_lets +onlyGivenNames x5
  clear_value x5
  extract_lets +onlyGivenNames x6
  clear_value x6
  extract_lets +onlyGivenNames x7
  extract_lets +onlyGivenNames x8
  have hx8 : z.Keeps x8 := Chip.sets_keeps (Chip.resetRange_keeps hp1)
  clear_value x8
  extract_lets +onlyGivenNames x9
  have hx9 : z.Keeps x9 := Chip.modSlice_keeps hx8
  clear_value x9
  extract_lets +onlyGivenNames x10
  have hx10 : z.Keeps x10 := .ite (Chip.copyShadows_keeps hx9) hx9
  clear_value x10
  exact Chip.syncFollowers_keeps (Chip.outputs_keeps hx10)

theorem Chip.reloadOwned_keeps {z : Chip} {p1 : Chip} {p2 : ℕ} (hp1 : z.Keeps p1) : z.Keeps (Chip.reloadOwned p1 p2) := by
  unfold Chip.reloadOwned
  exact .each hp1 (fun a1 t2 ht2 => Chip.configWrite_keeps ht2)

theorem Chip.motorWords_keeps {z : Chip} {p1 : Chip} {p2 : ℕ} (hp1 : z.Keeps p1) : z.Keeps (Chip.motorWords p1 p2) := by
  unfold Chip.motorWords
  exact Chip.set_keeps (Chip.set_keeps hp1)

theorem Chip.recheck_keeps {z : Chip} {p1 : Chip} {p2 : ℕ} (hp1 : z.Keeps p1) : z.Keeps (Chip.recheck p1 p2) := by
  unfold Chip.recheck
  exact Chip.checkSlice_keeps (Chip.effEdge_keeps hp1)

theorem Chip.clusterReload_keeps {z : Chip} {p1 : Chip} {p2 : ℕ} (hp1 : z.Keeps p1) : z.Keeps (Chip.clusterReload p1 p2) := by
  unfold Chip.clusterReload
  extract_lets +onlyGivenNames x1
  have hx1 : z.Keeps x1 := Chip.endDuplex_keeps hp1
  clear_value x1
  extract_lets +onlyGivenNames x2
  clear_value x2
  extract_lets +onlyGivenNames x3
  have hx3 : z.Keeps x3 := Chip.set_keeps (Chip.clusterHidden_keeps (Chip.clusterRegs_keeps hx1))
  clear_value x3
  extract_lets +onlyGivenNames x4
  have hx4 : z.Keeps x4 := .each hx3 (fun a5 t6 ht6 => Chip.sliceUnitReset_keeps ht6)
  clear_value x4
  extract_lets +onlyGivenNames x7
  have hx7 : z.Keeps x7 := Chip.reloadOwned_keeps (Chip.applyUnitcfg_keeps (Chip.motorWords_keeps hx4))
  clear_value x7
  extract_lets +onlyGivenNames x8
  have hx8 : z.Keeps x8 := Chip.showSlots_keeps (Chip.showLists_keeps hx7)
  clear_value x8
  exact .each hx8 (fun a9 t10 ht10 => Chip.recheck_keeps (Chip.copyShadows_keeps ht10))

theorem Chip.clusterReset_keeps {z : Chip} {p1 : Chip} {p2 : ℕ} (hp1 : z.Keeps p1) : z.Keeps (Chip.clusterReset p1 p2) := by
  unfold Chip.clusterReset
  extract_lets +onlyGivenNames x1
  have hx1 : z.Keeps x1 := Chip.clusterReload_keeps hp1
  clear_value x1
  extract_lets +onlyGivenNames x2
  have hx2 : z.Keeps x2 := Chip.modCl_keeps hx1
  clear_value x2
  exact Chip.refreshHold_keeps (Chip.enter_keeps (Chip.refreshHold_keeps hx2))

theorem Chip.reqReset_keeps {z : Chip} {p1 : Chip} {p2 : ℕ} (hp1 : z.Keeps p1) : z.Keeps (Chip.reqReset p1 p2) := by
  unfold Chip.reqReset
  extract_lets +onlyGivenNames x1
  clear_value x1
  exact .ite (Chip.clusterReset_keeps hp1) (Chip.refuseReq_keeps hp1)

theorem Chip.showFaults_keeps {z : Chip} {p1 : Chip} {p2 : ℕ} (hp1 : z.Keeps p1) : z.Keeps (Chip.showFaults p1 p2) := by
  unfold Chip.showFaults
  extract_lets +onlyGivenNames x1
  exact Chip.put_keeps (Chip.set_keeps hp1)

theorem Chip.dropFault_keeps {z : Chip} {p1 : Chip} {p2 : ℕ} {p3 : ℕ} {p4 : ℕ} (hp1 : z.Keeps p1) : z.Keeps (Chip.dropFault p1 p2 p3 p4) := by
  unfold Chip.dropFault
  exact Chip.modCl_keeps hp1

theorem Chip.clearIslandFault_keeps {z : Chip} {p1 : Chip} {p2 : ℕ} {p3 : ℕ} (hp1 : z.Keeps p1) : z.Keeps (Chip.clearIslandFault p1 p2 p3) := by
  unfold Chip.clearIslandFault
  extract_lets +onlyGivenNames x1
  have hx1 : z.Keeps x1 := Chip.modIsl_keeps hp1
  clear_value x1
  extract_lets +onlyGivenNames x2
  have hx2 : z.Keeps x2 := Chip.showFaults_keeps hx1
  clear_value x2
  extract_lets +onlyGivenNames x3
  have hx3 : z.Keeps x3 := .ite (Chip.clamp_keeps (Chip.set_keeps (Chip.modIsl_keeps hx2))) hx2
  clear_value x3
  split
  · exact Chip.refreshHold_keeps (Chip.dropFault_keeps hx3)
  · exact hx3

theorem Chip.clearIsland_keeps {z : Chip} {p1 : Chip} {p2 : ℕ} (hp1 : z.Keeps p1) : z.Keeps (Chip.clearIsland p1 p2) := by
  unfold Chip.clearIsland
  extract_lets +onlyGivenNames x1
  have hx1 : z.Keeps x1 := Chip.sets_keeps hp1
  clear_value x1
  exact .each hx1 (fun a2 t3 ht3 => .ite (Chip.clearIslandFault_keeps ht3) ht3)

theorem Chip.putIso_keeps {z : Chip} {p1 : Chip} {p2 : ℕ} {p3 : Bool} (hp1 : z.Keeps p1) : z.Keeps (Chip.putIso p1 p2 p3) := by
  unfold Chip.putIso
  exact Chip.xfmrUpdate_keeps (Chip.put_keeps hp1)

theorem Chip.reqClear_keeps {z : Chip} {p1 : Chip} {p2 : ℕ} (hp1 : z.Keeps p1) : z.Keeps (Chip.reqClear p1 p2) := by
  unfold Chip.reqClear
  refine .ite (Chip.refuseReq_keeps hp1) ?_
  extract_lets +onlyGivenNames x1
  have hx1 : z.Keeps x1 := .each (Chip.setHeld_keeps hp1) (fun a2 t3 ht3 => Chip.clearIsland_keeps ht3)
  clear_value x1
  extract_lets +onlyGivenNames x4
  clear_value x4
  extract_lets +onlyGivenNames x5
  have hx5 : z.Keeps x5 := Chip.modCl_keeps hx1
  clear_value x5
  extract_lets +onlyGivenNames x6
  have hx6 : z.Keeps x6 := Chip.modCl_keeps hx5
  clear_value x6
  extract_lets +onlyGivenNames x7
  clear_value x7
  extract_lets +onlyGivenNames x8
  have hx8 : z.Keeps x8 := .ite (Chip.putIso_keeps hx6) hx6
  clear_value x8
  extract_lets +onlyGivenNames x9
  have hx9 : z.Keeps x9 := .ite (.ite (Chip.putIso_keeps hx8) hx8) hx5
  clear_value x9
  exact Chip.tryLeaveSafe_keeps (Chip.refreshHold_keeps hx9)

theorem Chip.wdisRefuse_keeps {z : Chip} {p1 : Chip} {p2 : ℕ} (hp1 : z.Keeps p1) : z.Keeps (Chip.wdisRefuse p1 p2) := by
  unfold Chip.wdisRefuse
  exact Chip.refusal_keeps hp1

theorem Chip.wdisStart_keeps {z : Chip} {p1 : Chip} {p2 : ℕ} {p3 : ℕ} (hp1 : z.Keeps p1) : z.Keeps (Chip.wdisStart p1 p2 p3) := by
  unfold Chip.wdisStart
  extract_lets +onlyGivenNames x1
  have hx1 : z.Keeps x1 := Chip.enter_keeps (Chip.setHeld_keeps hp1)
  clear_value x1
  extract_lets +onlyGivenNames x2
  have hx2 : z.Keeps x2 := Chip.sets_keeps hx1
  clear_value x2
  exact Chip.modCl_keeps hx2

theorem Chip.obsCaught_keeps {z : Chip} {p1 : Chip} {p2 : ℕ} {p3 : ℕ} {p4 : ℕ} (hp1 : z.Keeps p1) : z.Keeps (Chip.obsCaught p1 p2 p3 p4) := by
  unfold Chip.obsCaught
  extract_lets +onlyGivenNames x1
  clear_value x1
  extract_lets +onlyGivenNames x2
  have hx2 : z.Keeps x2 := Chip.modCl_keeps hp1
  clear_value x2
  exact Chip.sets_keeps hx2

theorem Chip.reqDischarge_keeps {z : Chip} {p1 : Chip} {p2 : ℕ} (hp1 : z.Keeps p1) : z.Keeps (Chip.reqDischarge p1 p2).1 := by
  unfold Chip.reqDischarge
  refine .iteP (.fst (Chip.refuseReq_keeps hp1)) ?_
  extract_lets +onlyGivenNames x1
  clear_value x1
  refine .iteP (.fst (Chip.wdisRefuse_keeps hp1)) ?_
  refine .iteP ?_ ?_
  · extract_lets +onlyGivenNames x2
    clear_value x2
    exact .fst (Chip.wdisStart_keeps hp1)
  · refine .iteP ?_ (.iteP (.fst (Chip.modCl_keeps (Chip.setHeld_keeps hp1))) (.fst (Chip.wdisRefuse_keeps hp1)))
    extract_lets +onlyGivenNames x3
    clear_value x3
    exact .fst (Chip.wdisStart_keeps (Chip.obsCaught_keeps (Chip.useFree_keeps hp1)))

theorem Chip.reqDuplex_keeps {z : Chip} {p1 : Chip} {p2 : ℕ} (hp1 : z.Keeps p1) : z.Keeps (Chip.reqDuplex p1 p2) := by
  unfold Chip.reqDuplex
  extract_lets +onlyGivenNames x1
  clear_value x1
  extract_lets +onlyGivenNames x2
  clear_value x2
  extract_lets +onlyGivenNames x3
  have hx3 : ∀ w4, z.Keeps (x3 w4) := fun w4 => Chip.refusal_keeps hp1
  clear_value x3
  exact .ite (Chip.refuseReq_keeps hp1) (.ite (hx3 _) (.ite (hx3 _) (Chip.put_keeps (Chip.modCl_keeps (Chip.setHeld_keeps hp1)))))

theorem Chip.reqSplit_keeps {z : Chip} {p1 : Chip} {p2 : ℕ} (hp1 : z.Keeps p1) : z.Keeps (Chip.reqSplit p1 p2) := by
  unfold Chip.reqSplit
  exact .ite (Chip.modCl_keeps (Chip.setHeld_keeps hp1)) (Chip.refuseReq_keeps hp1)

theorem Chip.handleReq_keeps {z : Chip} {p1 : Chip} {p2 : ℕ} {p3 : ℕ} (hp1 : z.Keeps p1) : z.Keeps (Chip.handleReq p1 p2 p3) := by
  unfold Chip.handleReq
  exact .ite (Chip.refuseReq_keeps hp1) (.ite (Chip.reqRun_keeps hp1) (.ite (Chip.reqStop_keeps hp1) (.ite (Chip.reqStop_keeps hp1) (.ite (Chip.reqReset_keeps hp1) (.ite (Chip.reqClear_keeps hp1) (.ite (Chip.reqDischarge_keeps hp1) (.ite (Chip.reqDuplex_keeps hp1) (.ite (Chip.reqSplit_keeps hp1) (Chip.refuseReq_keeps hp1)))))))))

theorem Chip.standDemands_keeps {z : Chip} {p1 : Chip} {p2 : ℕ} (hp1 : z.Keeps p1) : z.Keeps (Chip.standDemands p1 p2) := by
  unfold Chip.standDemands
  extract_lets +onlyGivenNames x1
  have hx1 : ∀ w2, ∀ w3, ∀ w4, ∀ w5, z.Keeps w5 → z.Keeps (x1 w2 w3 w4 w5) := fun w2 w3 w4 w5 hw5 => .ite hw5 (Chip.stand_keeps hw5)
  clear_value x1
  refine .ite hp1 ?_
  extract_lets +onlyGivenNames x6
  have hx6 : z.Keeps x6 := .ite (hx1 _ _ _ _ hp1) hp1
  clear_value x6
  extract_lets +onlyGivenNames x7
  have hx7 : z.Keeps x7 := .ite (hx1 _ _ _ _ hx6) hx6
  clear_value x7
  exact .each hx7 (fun a8 t9 ht9 => .ite ht9 (.ite (hx1 _ _ _ _ ht9) (.ite (hx1 _ _ _ _ ht9) (.ite (hx1 _ _ _ _ ht9) ht9))))

theorem Chip.refall_keeps {z : Chip} {p1 : Chip} {p2 : ℕ} (hp1 : z.Keeps p1) : z.Keeps (Chip.refall p1 p2) := by
  unfold Chip.refall
  refine .ite hp1 ?_
  extract_lets +onlyGivenNames x1
  have hx1 : z.Keeps x1 := Chip.standDemands_keeps (Chip.modCl_keeps hp1)
  clear_value x1
  exact .ite (Chip.refreshHold_keeps hx1) (Chip.refreshHold_keeps (Chip.enter_keeps hx1))

theorem Chip.request_keeps {z : Chip} {p1 : Chip} {p2 : ℕ} {p3 : ℕ} (hp1 : z.Keeps p1) : z.Keeps (Chip.request p1 p2 p3) := by
  unfold Chip.request
  exact .ite hp1 (Chip.modCl_keeps (Chip.handleReq_keeps (Chip.refall_keeps hp1)))

theorem Chip.ldrRefuse_keeps {z : Chip} {p1 : Chip} {p2 : ℕ} {p3 : ℕ} {p4 : ℕ} (hp1 : z.Keeps p1) : z.Keeps (Chip.ldrRefuse p1 p2 p3 p4) := by
  unfold Chip.ldrRefuse
  exact Chip.noteCl_keeps (Chip.put_keeps hp1)

theorem Chip.swapBySoftware_keeps {z : Chip} {p1 : Chip} {p2 : ℕ} {p3 : ℕ} (hp1 : z.Keeps p1) : z.Keeps (Chip.swapBySoftware p1 p2 p3) := by
  unfold Chip.swapBySoftware
  exact .ite (Chip.ldrRefuse_keeps hp1) (Chip.swapRequest_keeps hp1)

theorem Chip.cleClr_keeps {z : Chip} {p1 : Chip} {p2 : ℕ} (hp1 : z.Keeps p1) : z.Keeps (Chip.cleClr p1 p2) := by
  unfold Chip.cleClr
  exact .ite (.each hp1 (fun a1 t2 ht2 => Chip.clearLists_keeps ht2)) (Chip.refuse_keeps hp1)

theorem Chip.posUnitReset_keeps {z : Chip} {p1 : Chip} {p2 : ℕ} (hp1 : z.Keeps p1) : z.Keeps (Chip.posUnitReset p1 p2) := by
  unfold Chip.posUnitReset
  exact Chip.modPos_keeps (Chip.posFresh_keeps (Chip.resetRange_keeps hp1))

theorem Chip.cleUnitReset_keeps {z : Chip} {p1 : Chip} {p2 : ℕ} (hp1 : z.Keeps p1) : z.Keeps (Chip.cleUnitReset p1 p2) := by
  unfold Chip.cleUnitReset
  extract_lets +onlyGivenNames x1
  clear_value x1
  exact Chip.modCle_keeps (Chip.resetRange_keeps hp1)

theorem Chip.islandReset_keeps {z : Chip} {p1 : Chip} {p2 : ℕ} (hp1 : z.Keeps p1) : z.Keeps (Chip.islandReset p1 p2) := by
  unfold Chip.islandReset
  exact Chip.modIsl_keeps hp1

theorem Chip.turnOff_keeps {z : Chip} {p1 : Chip} {p2 : ℕ} (hp1 : z.Keeps p1) : z.Keeps (Chip.turnOff p1 p2) := by
  unfold Chip.turnOff
  extract_lets +onlyGivenNames x1
  clear_value x1
  exact Chip.modIsl_keeps hp1

theorem Chip.gateAway_keeps {z : Chip} {p1 : Chip} {p2 : ℕ} (hp1 : z.Keeps p1) : z.Keeps (Chip.gateAway p1 p2) := by
  unfold Chip.gateAway
  extract_lets +onlyGivenNames x1
  exact .ite (Chip.turnOff_keeps hp1) hp1

theorem Chip.islTo_keeps {z : Chip} {p1 : Chip} {p2 : ℕ} {p3 : ℕ} (hp1 : z.Keeps p1) : z.Keeps (Chip.islTo p1 p2 p3) := by
  unfold Chip.islTo
  extract_lets +onlyGivenNames x1
  have hx1 : z.Keeps x1 := .ite (Chip.sets_keeps hp1) hp1
  clear_value x1
  extract_lets +onlyGivenNames x2
  have hx2 : z.Keeps x2 := Chip.clamp_keeps (Chip.modIsl_keeps hx1)
  clear_value x2
  exact .ite hx2 (.ite (Chip.abortLeak_keeps hx2) hx2)

theorem Chip.islShow_keeps {z : Chip} {p1 : Chip} {p2 : ℕ} {p3 : ℕ} (hp1 : z.Keeps p1) : z.Keeps (Chip.islShow p1 p2 p3) := by
  unfold Chip.islShow
  exact Chip.set_keeps (Chip.islTo_keeps hp1)

theorem Chip.setTarget_keeps {z : Chip} {p1 : Chip} {p2 : List (ℕ × ℕ)} (hp1 : z.Keeps p1) : z.Keeps (Chip.setTarget p1 p2) := by
  unfold Chip.setTarget
  exact .ite hp1 (.ite hp1 (Chip.sets_keeps hp1))

theorem Chip.islRecord_keeps {z : Chip} {p1 : Chip} {p2 : ℕ} {p3 : ℕ} {p4 : ℕ} {p5 : ℕ} (hp1 : z.Keeps p1) : z.Keeps (Chip.islRecord p1 p2 p3 p4 p5) := by
  unfold Chip.islRecord
  extract_lets +onlyGivenNames x1
  clear_value x1
  exact Chip.set_keeps (Chip.record_keeps hp1)

theorem Chip.calDrift_keeps {z : Chip} {p1 : Chip} {p2 : ℕ} {p3 : ℤ} (hp1 : z.Keeps p1) : z.Keeps (Chip.calDrift p1 p2 p3) := by
  unfold Chip.calDrift
  extract_lets +onlyGivenNames x1
  have hx1 : z.Keeps x1 := Chip.sets_keeps hp1
  clear_value x1
  exact Chip.islRecord_keeps hx1

theorem Chip.calibrate_keeps {z : Chip} {p1 : Chip} {p2 : ℕ} {p3 : ℕ} (hp1 : z.Keeps p1) : z.Keeps (Chip.calibrate p1 p2 p3) := by
  unfold Chip.calibrate
  extract_lets +onlyGivenNames x1
  clear_value x1
  extract_lets +onlyGivenNames x2
  clear_value x2
  extract_lets +onlyGivenNames x3
  extract_lets +onlyGivenNames x4
  have hx4 : z.Keeps x4 := Chip.sets_keeps hp1
  clear_value x4
  exact .ite (Chip.put_keeps hx4) (Chip.calDrift_keeps hx4)

theorem Chip.calibrateAll_keeps {z : Chip} {p1 : Chip} {p2 : List (ℕ × ℕ)} (hp1 : z.Keeps p1) : z.Keeps (Chip.calibrateAll p1 p2) := by
  unfold Chip.calibrateAll
  exact .each (Chip.setTarget_keeps hp1) (fun a1 t2 ht2 => Chip.calibrate_keeps ht2)

theorem Chip.calibrateDue_keeps {z : Chip} {p1 : Chip} (hp1 : z.Keeps p1) : z.Keeps (Chip.calibrateDue p1) := by
  unfold Chip.calibrateDue
  refine .ite hp1 ?_
  extract_lets +onlyGivenNames x1
  exact .each (Chip.calibrateAll_keeps hp1) (fun a2 t3 ht3 => Chip.modIsl_keeps ht3)

theorem Chip.islUnitReset_keeps {z : Chip} {p1 : Chip} {p2 : ℕ} (hp1 : z.Keeps p1) : z.Keeps (Chip.islUnitReset p1 p2) := by
  unfold Chip.islUnitReset
  extract_lets +onlyGivenNames x1
  clear_value x1
  extract_lets +onlyGivenNames x2
  clear_value x2
  extract_lets +onlyGivenNames x3
  clear_value x3
  extract_lets +onlyGivenNames x4
  have hx4 : z.Keeps x4 := Chip.set_keeps (Chip.set_keeps (Chip.resetRange_keeps hp1))
  clear_value x4
  refine .ite (Chip.modIsl_keeps hx4) ?_
  extract_lets +onlyGivenNames x5
  have hx5 : z.Keeps x5 := Chip.islandReset_keeps (Chip.gateAway_keeps hx4)
  clear_value x5
  extract_lets +onlyGivenNames x6
  have hx6 : z.Keeps x6 := Chip.modIsl_keeps hx5
  clear_value x6
  extract_lets +onlyGivenNames x7
  have hx7 : z.Keeps x7 := .ite hx6 (Chip.islShow_keeps hx6)
  clear_value x7
  exact Chip.showFaults_keeps (Chip.showNtc_keeps (Chip.calibrateDue_keeps hx7))

theorem Chip.bufsEnd_keeps {z : Chip} {p1 : Chip} {p2 : ℕ} {p3 : ℕ} (hp1 : z.Keeps p1) : z.Keeps (Chip.bufsEnd p1 p2 p3) := by
  unfold Chip.bufsEnd
  extract_lets +onlyGivenNames x1
  extract_lets +onlyGivenNames x2
  have hx2 : z.Keeps x2 := Chip.modCan_keeps hp1
  clear_value x2
  exact .each hx2 (fun a3 t4 ht4 => Chip.bufEnd_keeps ht4)

theorem Chip.canReset_keeps {z : Chip} {p1 : Chip} {p2 : ℕ} (hp1 : z.Keeps p1) : z.Keeps (Chip.canReset p1 p2) := by
  unfold Chip.canReset
  extract_lets +onlyGivenNames x1
  extract_lets +onlyGivenNames x2
  have hx2 : z.Keeps x2 := Chip.bufsEnd_keeps (Chip.set_keeps hp1)
  clear_value x2
  extract_lets +onlyGivenNames x3
  extract_lets +onlyGivenNames x4
  have hx4 : z.Keeps x4 := Chip.modPort_keeps hx2
  clear_value x4
  extract_lets +onlyGivenNames x5
  have hx5 : z.Keeps x5 := Chip.modCan_keeps (Chip.resetRange_keeps hx4)
  clear_value x5
  exact Chip.showBackoff_keeps (.each hx5 (fun a6 t7 ht7 => Chip.set_keeps ht7))

theorem Chip.msgsDown_keeps {z : Chip} {p1 : Chip} (hp1 : z.Keeps p1) : z.Keeps (Chip.msgsDown p1) := by
  unfold Chip.msgsDown
  exact .each hp1 (fun a1 t2 ht2 => Chip.msgEnd_keeps ht2)

theorem Chip.ringReset_keeps {z : Chip} {p1 : Chip} (hp1 : z.Keeps p1) : z.Keeps (Chip.ringReset p1) := by
  unfold Chip.ringReset
  extract_lets +onlyGivenNames x1
  clear_value x1
  extract_lets +onlyGivenNames x2
  have hx2 : z.Keeps x2 := Chip.roleSet_keeps (Chip.msgsDown_keeps hp1)
  clear_value x2
  exact Chip.modRing_keeps (Chip.set_keeps (Chip.resetRange_keeps hx2))

theorem Chip.unitClear_keeps {z : Chip} {p1 : Chip} {p2 : UnitId} (hp1 : z.Keeps p1) : z.Keeps (Chip.unitClear p1 p2) := by
  unfold Chip.unitClear
  split
  · exact Chip.posUnitReset_keeps hp1
  · exact .each hp1 (fun a5 t6 ht6 => Chip.cleUnitReset_keeps ht6)
  · exact Chip.sliceUnitReset_keeps hp1
  · exact Chip.islUnitReset_keeps hp1
  · exact Chip.canReset_keeps hp1
  · exact Chip.ringReset_keeps hp1

theorem Chip.unitStart_keeps {z : Chip} {p1 : Chip} {p2 : UnitId} (hp1 : z.Keeps p1) : z.Keeps (Chip.unitStart p1 p2) := by
  unfold Chip.unitStart
  refine .ite (Chip.refuse_keeps hp1) ?_
  extract_lets +onlyGivenNames x1
  have hx1 : z.Keeps x1 := Chip.unitClear_keeps hp1
  clear_value x1
  exact (Chip.Keeps.same hx1 rfl rfl rfl rfl)

theorem Chip.cleCtlWrite_keeps {z : Chip} {p1 : Chip} {p2 : ℕ} {p3 : ℕ} (hp1 : z.Keeps p1) : z.Keeps (Chip.cleCtlWrite p1 p2 p3) := by
  unfold Chip.cleCtlWrite
  extract_lets +onlyGivenNames x1
  have hx1 : z.Keeps x1 := .each hp1 (fun a2 t3 ht3 => Chip.feZero_keeps (Chip.sets_keeps ht3))
  clear_value x1
  extract_lets +onlyGivenNames x4
  have hx4 : z.Keeps x4 := .ite (Chip.cleClr_keeps hx1) hx1
  clear_value x4
  exact .ite (Chip.unitStart_keeps hx4) hx4

theorem Chip.coefSet_keeps {z : Chip} {p1 : Chip} {p2 : ℕ} {p3 : ℕ} {p4 : ℕ} (hp1 : z.Keeps p1) : z.Keeps (Chip.coefSet p1 p2 p3 p4) := by
  unfold Chip.coefSet
  refine .ite (Chip.refuse_keeps hp1) ?_
  refine .ite (Chip.coefRefused_keeps hp1) ?_
  refine .each hp1 ?_
  intro a1 t2 ht2
  extract_lets +onlyGivenNames x3
  have hx3 : z.Keeps x3 := Chip.configWord_keeps ht2
  clear_value x3
  exact .ite (Chip.staleCrc_keeps hx3) hx3

theorem Chip.listSet_keeps {z : Chip} {p1 : Chip} {p2 : ℕ} {p3 : ℕ} {p4 : ℕ} (hp1 : z.Keeps p1) : z.Keeps (Chip.listSet p1 p2 p3 p4) := by
  unfold Chip.listSet
  extract_lets +onlyGivenNames x1
  clear_value x1
  exact .ite (Chip.refuse_keeps hp1) (.each hp1 (fun a2 t3 ht3 => Chip.listWritten_keeps (Chip.configWord_keeps ht3)))

theorem Chip.secCfgSet_keeps {z : Chip} {p1 : Chip} {p2 : ℕ} {p3 : ℕ} {p4 : ℕ} (hp1 : z.Keeps p1) : z.Keeps (Chip.secCfgSet p1 p2 p3 p4) := by
  unfold Chip.secCfgSet
  extract_lets +onlyGivenNames x1
  clear_value x1
  exact .ite (Chip.refuse_keeps hp1) (.each hp1 (fun a2 t3 ht3 => Chip.staleCrc_keeps (Chip.configWord_keeps ht3)))

theorem Chip.clusterWrite_keeps {z : Chip} {p1 : Chip} {p2 : ℕ} {p3 : ℕ} (hp1 : z.Keeps p1) : z.Keeps (Chip.clusterWrite p1 p2 p3) := by
  unfold Chip.clusterWrite
  extract_lets +onlyGivenNames x1
  clear_value x1
  extract_lets +onlyGivenNames x2
  clear_value x2
  refine .ite (Chip.refuse_keeps hp1) ?_
  refine .ite (Chip.request_keeps hp1) ?_
  refine .ite (.ite (Chip.set_keeps hp1) hp1) ?_
  refine .ite (.each hp1 (fun a3 t4 ht4 => Chip.swapBySoftware_keeps ht4)) ?_
  refine .ite hp1 ?_
  refine .ite (Chip.cleCtlWrite_keeps hp1) ?_
  refine .ite (.each hp1 (fun a5 t6 ht6 => Chip.genericWrite_keeps ht6)) ?_
  refine .ite ?_ (.ite (Chip.listSet_keeps hp1) (.ite (Chip.coefSet_keeps hp1) (.ite (Chip.secCfgSet_keeps hp1) (.ite (Chip.coefSet_keeps hp1) (Chip.genericWrite_keeps hp1)))))
  extract_lets +onlyGivenNames x7
  have hx7 : z.Keeps x7 := Chip.coefSet_keeps hp1
  clear_value x7
  exact .ite (.each hx7 (fun a8 t9 ht9 => Chip.feZero_keeps ht9)) hx7

theorem Chip.floorSet_keeps {z : Chip} {p1 : Chip} {p2 : ℕ} {p3 : ℕ} (hp1 : z.Keeps p1) : z.Keeps (Chip.floorSet p1 p2 p3) := by
  unfold Chip.floorSet
  extract_lets +onlyGivenNames x1
  clear_value x1
  exact .ite (Chip.refuse_keeps hp1) (Chip.checkSlice_keeps (Chip.put_keeps (Chip.set_keeps hp1)))

theorem Chip.sliceRun_keeps {z : Chip} {p1 : Chip} {p2 : ℕ} (hp1 : z.Keeps p1) : z.Keeps (Chip.sliceRun p1 p2) := by
  unfold Chip.sliceRun
  exact .ite (Chip.modSlice_keeps hp1) hp1

theorem Chip.sliceStop_keeps {z : Chip} {p1 : Chip} {p2 : ℕ} (hp1 : z.Keeps p1) : z.Keeps (Chip.sliceStop p1 p2) := by
  unfold Chip.sliceStop
  exact .ite (Chip.modSlice_keeps hp1) hp1

theorem Chip.keepOld_keeps {z : Chip} {p1 : Chip} {p2 : ℕ} {p3 : ℕ} (hp1 : z.Keeps p1) : z.Keeps (Chip.keepOld p1 p2 p3) := by
  unfold Chip.keepOld
  exact Chip.modSlice_keeps hp1

theorem Chip.sliceSet_keeps {z : Chip} {p1 : Chip} {p2 : ℕ} {p3 : ℕ} {p4 : ℕ} (hp1 : z.Keeps p1) : z.Keeps (Chip.sliceSet p1 p2 p3 p4) := by
  unfold Chip.sliceSet
  extract_lets +onlyGivenNames x1
  clear_value x1
  extract_lets +onlyGivenNames x2
  have hx2 : z.Keeps x2 := .ite (Chip.keepOld_keeps hp1) hp1
  clear_value x2
  extract_lets +onlyGivenNames x3
  have hx3 : z.Keeps x3 := Chip.genericWrite_keeps hx2
  clear_value x3
  extract_lets +onlyGivenNames x4
  have hx4 : z.Keeps x4 := .ite (Chip.put_keeps hx3) hx3
  clear_value x4
  extract_lets +onlyGivenNames x5
  have hx5 : z.Keeps x5 := .ite (Chip.put_keeps hx4) hx4
  clear_value x5
  extract_lets +onlyGivenNames x6
  have hx6 : z.Keeps x6 := .ite (Chip.syncCheck_keeps hx5) hx5
  clear_value x6
  exact .ite (Chip.recheck_keeps hx6) hx6

theorem Chip.keepHold_keeps {z : Chip} {p1 : Chip} (hp1 : z.Keeps p1) : z.Keeps (Chip.keepHold p1) := by
  unfold Chip.keepHold
  exact .ite hp1 (Chip.Keeps.same hp1 rfl rfl rfl rfl)

theorem Chip.holdWrite_keeps {z : Chip} {p1 : Chip} {p2 : ℕ} {p3 : Bool} (hp1 : z.Keeps p1) : z.Keeps (Chip.holdWrite p1 p2 p3) := by
  unfold Chip.holdWrite
  extract_lets +onlyGivenNames x1
  have hx1 : z.Keeps x1 := Chip.keepHold_keeps hp1
  clear_value x1
  extract_lets +onlyGivenNames x2
  clear_value x2
  extract_lets +onlyGivenNames x3
  clear_value x3
  exact Chip.set_keeps hx1

theorem Chip.xhizRelease_keeps {z : Chip} {p1 : Chip} (hp1 : z.Keeps p1) : z.Keeps (Chip.xhizRelease p1) := by
  unfold Chip.xhizRelease
  exact .ite hp1 (Chip.put_keeps hp1)

theorem Chip.pwmWrite_keeps {z : Chip} {p1 : Chip} {p2 : ℕ} {p3 : ℕ} (hp1 : z.Keeps p1) : z.Keeps (Chip.pwmWrite p1 p2 p3) := by
  unfold Chip.pwmWrite
  extract_lets +onlyGivenNames x1
  clear_value x1
  extract_lets +onlyGivenNames x2
  clear_value x2
  refine .ite ?_ (.ite (Chip.genericWrite_keeps (Chip.keepHold_keeps hp1)) (.ite (Chip.holdWrite_keeps hp1) (.ite (Chip.holdWrite_keeps hp1) (.ite (.each hp1 (fun a5 t6 ht6 => Chip.sliceRun_keeps ht6)) (.ite (.ite (Chip.xhizRelease_keeps hp1) hp1) (Chip.genericWrite_keeps hp1))))))
  refine .ite (Chip.floorSet_keeps hp1) ?_
  refine .ite ?_ (Chip.sliceSet_keeps hp1)
  extract_lets +onlyGivenNames x3
  have hx3 : z.Keeps x3 := .ite (Chip.sliceRun_keeps hp1) hp1
  clear_value x3
  extract_lets +onlyGivenNames x4
  have hx4 : z.Keeps x4 := .ite (Chip.sliceStop_keeps hx3) hx3
  clear_value x4
  exact .ite (Chip.unitStart_keeps hx4) hx4

theorem Chip.leakStart_keeps {z : Chip} {p1 : Chip} {p2 : ℕ} (hp1 : z.Keeps p1) : z.Keeps (Chip.leakStart p1 p2) := by
  unfold Chip.leakStart
  extract_lets +onlyGivenNames x1
  clear_value x1
  extract_lets +onlyGivenNames x2
  clear_value x2
  exact .ite (Chip.sets_keeps (Chip.islShow_keeps hp1)) (Chip.refuse_keeps hp1)

theorem Chip.islCtlWrite_keeps {z : Chip} {p1 : Chip} {p2 : ℕ} {p3 : ℕ} (hp1 : z.Keeps p1) : z.Keeps (Chip.islCtlWrite p1 p2 p3) := by
  unfold Chip.islCtlWrite
  extract_lets +onlyGivenNames x1
  have hx1 : z.Keeps x1 := Chip.clearIsland_keeps hp1
  clear_value x1
  extract_lets +onlyGivenNames x2
  have hx2 : z.Keeps x2 := by
    unfold x2
    refine .ite ?_ hp1
    split
    · exact Chip.tryLeaveSafe_keeps hx1
    · exact hx1
  clear_value x2
  extract_lets +onlyGivenNames x7
  have hx7 : z.Keeps x7 := .ite (Chip.leakStart_keeps hx2) hx2
  clear_value x7
  exact .ite (Chip.unitStart_keeps hx7) hx7

theorem Chip.mirrorSet_keeps {z : Chip} {p1 : Chip} {p2 : ℕ} {p3 : ℕ} {p4 : ℕ} (hp1 : z.Keeps p1) : z.Keeps (Chip.mirrorSet p1 p2 p3 p4) := by
  unfold Chip.mirrorSet
  extract_lets +onlyGivenNames x1
  clear_value x1
  exact .ite (.ite (Chip.refuse_keeps hp1) (.ite (Chip.refuse_keeps hp1) (Chip.islCfgDone_keeps (Chip.genericWrite_keeps hp1)))) (.ite (Chip.mirrorDirty_keeps (Chip.genericWrite_keeps hp1)) (.ite (Chip.mirrorDirty_keeps (Chip.genericWrite_keeps hp1)) (Chip.refuse_keeps hp1)))

theorem Chip.islWrite_keeps {z : Chip} {p1 : Chip} {p2 : ℕ} {p3 : ℕ} (hp1 : z.Keeps p1) : z.Keeps (Chip.islWrite p1 p2 p3) := by
  unfold Chip.islWrite
  extract_lets +onlyGivenNames x1
  clear_value x1
  extract_lets +onlyGivenNames x2
  clear_value x2
  exact .ite (.ite (Chip.islCtlWrite_keeps hp1) (.ite (Chip.mirrorSet_keeps hp1) (Chip.genericWrite_keeps hp1))) (Chip.xfmrUpdate_keeps (Chip.genericWrite_keeps hp1))

theorem Chip.posSnap_keeps {z : Chip} {p1 : Chip} {p2 : ℕ} (hp1 : z.Keeps p1) : z.Keeps (Chip.posSnap p1 p2) := by
  unfold Chip.posSnap
  exact Chip.sets_keeps (Chip.modPos_keeps hp1)

theorem Chip.posClrTot_keeps {z : Chip} {p1 : Chip} {p2 : ℕ} (hp1 : z.Keeps p1) : z.Keeps (Chip.posClrTot p1 p2) := by
  unfold Chip.posClrTot
  exact Chip.sets_keeps hp1

theorem Chip.posOk_keeps {z : Chip} {p1 : Chip} {p2 : ℕ} (hp1 : z.Keeps p1) : z.Keeps (Chip.posOk p1 p2) := by
  unfold Chip.posOk
  extract_lets +onlyGivenNames x1
  have hx1 : z.Keeps x1 := Chip.set_keeps (Chip.modPos_keeps hp1)
  clear_value x1
  exact .ite hx1 (Chip.put_keeps (Chip.put_keeps hx1))

theorem Chip.posRearm_keeps {z : Chip} {p1 : Chip} {p2 : ℕ} (hp1 : z.Keeps p1) : z.Keeps (Chip.posRearm p1 p2) := by
  unfold Chip.posRearm
  extract_lets +onlyGivenNames x1
  clear_value x1
  refine .ite (Chip.refuse_keeps hp1) ?_
  extract_lets +onlyGivenNames x2
  have hx2 : z.Keeps x2 := Chip.modPos_keeps (Chip.set_keeps hp1)
  clear_value x2
  exact .ite (Chip.posOk_keeps hx2) hx2

theorem Chip.posCtlWrite_keeps {z : Chip} {p1 : Chip} {p2 : ℕ} {p3 : ℕ} (hp1 : z.Keeps p1) : z.Keeps (Chip.posCtlWrite p1 p2 p3) := by
  unfold Chip.posCtlWrite
  extract_lets +onlyGivenNames x1
  have hx1 : z.Keeps x1 := .ite (Chip.posSnap_keeps hp1) hp1
  clear_value x1
  extract_lets +onlyGivenNames x2
  have hx2 : z.Keeps x2 := .ite (Chip.posClrTot_keeps hx1) hx1
  clear_value x2
  extract_lets +onlyGivenNames x3
  have hx3 : z.Keeps x3 := .ite (Chip.posRearm_keeps hx2) hx2
  clear_value x3
  exact .ite (Chip.unitStart_keeps hx3) hx3

theorem Chip.posWrite_keeps {z : Chip} {p1 : Chip} {p2 : ℕ} {p3 : ℕ} (hp1 : z.Keeps p1) : z.Keeps (Chip.posWrite p1 p2 p3) := by
  unfold Chip.posWrite
  extract_lets +onlyGivenNames x1
  clear_value x1
  extract_lets +onlyGivenNames x2
  clear_value x2
  refine .ite (.ite (Chip.posCfgSet_keeps hp1) (Chip.refuse_keeps hp1)) ?_
  refine .ite (Chip.posCtlWrite_keeps hp1) ?_
  refine .ite ?_ (Chip.genericWrite_keeps hp1)
  extract_lets +onlyGivenNames x3
  have hx3 : z.Keeps x3 := Chip.genericWrite_keeps hp1
  clear_value x3
  exact .ite hx3 (Chip.modPos_keeps hx3)

theorem Chip.ctrWrite_keeps {z : Chip} {p1 : Chip} {p2 : ℕ} (hp1 : z.Keeps p1) : z.Keeps (Chip.ctrWrite p1 p2) := by
  unfold Chip.ctrWrite
  extract_lets +onlyGivenNames x1
  have hx1 : z.Keeps x1 := .ite (Chip.put_keeps hp1) hp1
  clear_value x1
  extract_lets +onlyGivenNames x2
  have hx2 : z.Keeps x2 := Chip.sets_keeps hx1
  clear_value x2
  extract_lets +onlyGivenNames x3
  have hx3 : z.Keeps x3 := .ite hx2 (Chip.put_keeps hx2)
  clear_value x3
  extract_lets +onlyGivenNames x4
  extract_lets +onlyGivenNames x5
  have hx5 : z.Keeps x5 := (Chip.Keeps.same hx3 rfl rfl rfl rfl)
  clear_value x5
  exact Chip.applyContactors_keeps hx5

theorem Chip.resistor_keeps {z : Chip} {p1 : Chip} {p2 : Bool} (hp1 : z.Keeps p1) : z.Keeps (Chip.resistor p1 p2) := by
  unfold Chip.resistor
  refine .ite ?_ (Chip.Keeps.same hp1 rfl rfl rfl rfl)
  extract_lets +onlyGivenNames x1
  clear_value x1
  exact .ite (Chip.setOvr_keeps hp1) hp1

theorem Chip.disEnd_keeps {z : Chip} {p1 : Chip} {p2 : ℕ} {p3 : ℕ} (hp1 : z.Keeps p1) : z.Keeps (Chip.disEnd p1 p2 p3) := by
  unfold Chip.disEnd
  extract_lets +onlyGivenNames x1
  have hx1 : z.Keeps x1 := .ite (Chip.resistor_keeps hp1) hp1
  clear_value x1
  extract_lets +onlyGivenNames x2
  have hx2 : z.Keeps x2 := Chip.set_keeps (Chip.set_keeps hx1)
  clear_value x2
  exact Chip.applyContactors_keeps hx2

theorem Chip.disCheck_keeps {z : Chip} {p1 : Chip} (hp1 : z.Keeps p1) : z.Keeps (Chip.disCheck p1) := by
  unfold Chip.disCheck
  refine .ite ?_ hp1
  extract_lets +onlyGivenNames x1
  have hx1 : z.Keeps x1 := .each hp1 (fun a2 t3 ht3 => Chip.endWdis_keeps ht3)
  clear_value x1
  exact Chip.put_keeps (Chip.disEnd_keeps hx1)

theorem Chip.disResistor_keeps {z : Chip} {p1 : Chip} {p2 : ℕ} (hp1 : z.Keeps p1) : z.Keeps (Chip.disResistor p1 p2) := by
  unfold Chip.disResistor
  extract_lets +onlyGivenNames x1
  have hx1 : z.Keeps x1 := Chip.resistor_keeps (Chip.set_keeps hp1)
  clear_value x1
  extract_lets +onlyGivenNames x2
  have hx2 : z.Keeps x2 := .ite hx1 (Chip.note_keeps hx1)
  clear_value x2
  exact Chip.disCheck_keeps hx2

theorem Chip.disStartNow_keeps {z : Chip} {p1 : Chip} (hp1 : z.Keeps p1) : z.Keeps (Chip.disStartNow p1) := by
  unfold Chip.disStartNow
  extract_lets +onlyGivenNames x1
  clear_value x1
  extract_lets +onlyGivenNames x2
  have hx2 : ∀ w3, z.Keeps (x2 w3) := fun w3 => Chip.sets_keeps hp1
  clear_value x2
  refine .ite hp1 ?_
  refine .ite (hx2 _) ?_
  refine .ite (hx2 _) ?_
  extract_lets +onlyGivenNames x4
  extract_lets +onlyGivenNames x5
  have hx5 : z.Keeps x5 := (Chip.Keeps.same hp1 rfl rfl rfl rfl)
  clear_value x5
  extract_lets +onlyGivenNames x6
  have hx6 : z.Keeps x6 := Chip.sets_keeps hx5
  clear_value x6
  refine .ite (Chip.disResistor_keeps hx6) ?_
  extract_lets +onlyGivenNames x7
  clear_value x7
  extract_lets +onlyGivenNames x8
  have hx8 : z.Keeps x8 := Chip.request_keeps hx6
  clear_value x8
  exact .ite (Chip.disCheck_keeps hx8) (Chip.disResistor_keeps hx8)

theorem Chip.faultEvery_keeps {z : Chip} {p1 : Chip} {p2 : ℕ} {p3 : ℕ} {p4 : ℕ} (hp1 : z.Keeps p1) : z.Keeps (Chip.faultEvery p1 p2 p3 p4) := by
  unfold Chip.faultEvery
  exact Chip.faultAll_keeps hp1

theorem Chip.disAbort_keeps {z : Chip} {p1 : Chip} (hp1 : z.Keeps p1) : z.Keeps (Chip.disAbort p1) := by
  unfold Chip.disAbort
  exact .ite (Chip.faultEvery_keeps (Chip.put_keeps (Chip.disEnd_keeps hp1))) hp1

theorem Chip.disWrite_keeps {z : Chip} {p1 : Chip} {p2 : ℕ} (hp1 : z.Keeps p1) : z.Keeps (Chip.disWrite p1 p2) := by
  unfold Chip.disWrite
  extract_lets +onlyGivenNames x1
  have hx1 : z.Keeps x1 := Chip.genericWrite_keeps hp1
  clear_value x1
  extract_lets +onlyGivenNames x2
  have hx2 : z.Keeps x2 := .ite (Chip.disStartNow_keeps hx1) hx1
  clear_value x2
  exact .ite (Chip.disAbort_keeps hx2) hx2

theorem Chip.chopper_keeps {z : Chip} {p1 : Chip} {p2 : Bool} (hp1 : z.Keeps p1) : z.Keeps (Chip.chopper p1 p2) := by
  unfold Chip.chopper
  extract_lets +onlyGivenNames x1
  have hx1 : z.Keeps x1 := Chip.put_keeps (Chip.put_keeps hp1)
  clear_value x1
  split
  · exact Chip.setOvr_keeps hx1
  · exact hx1

theorem Chip.chopStart_keeps {z : Chip} {p1 : Chip} {p2 : Bool} (hp1 : z.Keeps p1) : z.Keeps (Chip.chopStart p1 p2) := by
  unfold Chip.chopStart
  extract_lets +onlyGivenNames x1
  have hx1 : z.Keeps x1 := Chip.chopper_keeps hp1
  clear_value x1
  exact (Chip.Keeps.same hx1 rfl rfl rfl rfl)

theorem Chip.chopTest_keeps {z : Chip} {p1 : Chip} (hp1 : z.Keeps p1) : z.Keeps (Chip.chopTest p1) := by
  unfold Chip.chopTest
  refine .ite hp1 ?_
  refine .ite (Chip.set_keeps hp1) ?_
  extract_lets +onlyGivenNames x1
  have hx1 : z.Keeps x1 := .ite hp1 (Chip.count_keeps hp1)
  clear_value x1
  exact Chip.put_keeps (Chip.chopStart_keeps hx1)

theorem Chip.ss1Begin_keeps {z : Chip} {p1 : Chip} {p2 : ℕ} (hp1 : z.Keeps p1) : z.Keeps (Chip.ss1Begin p1 p2) := by
  unfold Chip.ss1Begin
  refine .ite hp1 ?_
  extract_lets +onlyGivenNames x1
  have hx1 : z.Keeps x1 := Chip.modCl_keeps (Chip.put_keeps hp1)
  clear_value x1
  exact Chip.request_keeps hx1

theorem Chip.pcRelease_keeps {z : Chip} {p1 : Chip} {p2 : ℕ} (hp1 : z.Keeps p1) : z.Keeps (Chip.pcRelease p1 p2) := by
  unfold Chip.pcRelease
  exact Chip.refreshHold_keeps (Chip.put_keeps hp1)

theorem Chip.pcWrite_keeps {z : Chip} {p1 : Chip} {p2 : ℕ} {p3 : ℕ} (hp1 : z.Keeps p1) : z.Keeps (Chip.pcWrite p1 p2 p3) := by
  unfold Chip.pcWrite
  extract_lets +onlyGivenNames x1
  have hx1 : z.Keeps x1 := Chip.set_keeps hp1
  clear_value x1
  extract_lets +onlyGivenNames x2
  have hx2 : z.Keeps x2 := .ite (Chip.ss1Begin_keeps hx1) hx1
  clear_value x2
  extract_lets +onlyGivenNames x3
  have hx3 : z.Keeps x3 := .ite (Chip.pcSto_keeps hx2) hx2
  clear_value x3
  exact .ite (Chip.pcRelease_keeps hx3) hx3

theorem Chip.refreshHolds_keeps {z : Chip} {p1 : Chip} (hp1 : z.Keeps p1) : z.Keeps (Chip.refreshHolds p1) := by
  unfold Chip.refreshHolds
  exact .each hp1 (fun a1 t2 ht2 => Chip.refreshHold_keeps ht2)

theorem Chip.standAll_keeps {z : Chip} {p1 : Chip} (hp1 : z.Keeps p1) : z.Keeps (Chip.standAll p1) := by
  unfold Chip.standAll
  extract_lets +onlyGivenNames x1
  exact Chip.refreshHolds_keeps (Chip.cmpDemands_keeps (.ite hp1 (Chip.faultAll_keeps hp1)))

theorem Chip.showDisc_keeps {z : Chip} {p1 : Chip} (hp1 : z.Keeps p1) : z.Keeps (Chip.showDisc p1) := by
  unfold Chip.showDisc
  extract_lets +onlyGivenNames x1
  clear_value x1
  extract_lets +onlyGivenNames x2
  extract_lets +onlyGivenNames x3
  have hx3 : z.Keeps x3 := .ite (Chip.Keeps.same hp1 rfl rfl rfl rfl) hp1
  clear_value x3
  exact Chip.put_keeps hx3

theorem Chip.ctrJudge_keeps {z : Chip} {p1 : Chip} (hp1 : z.Keeps p1) : z.Keeps (Chip.ctrJudge p1) := by
  unfold Chip.ctrJudge
  extract_lets +onlyGivenNames x1
  clear_value x1
  extract_lets +onlyGivenNames x2
  have hx2 : z.Keeps x2 := .ite (Chip.record_keeps (Chip.put_keeps hp1)) hp1
  clear_value x2
  exact Chip.put_keeps hx2

theorem Chip.ctrNote_keeps {z : Chip} {p1 : Chip} {p2 : ℕ} {p3 : Bool} (hp1 : z.Keeps p1) : z.Keeps (Chip.ctrNote p1 p2 p3) := by
  unfold Chip.ctrNote
  exact Chip.note_keeps (Chip.put_keeps hp1)

theorem Chip.ctrCompare_keeps {z : Chip} {p1 : Chip} {p2 : Bool} (hp1 : z.Keeps p1) : z.Keeps (Chip.ctrCompare p1 p2) := by
  unfold Chip.ctrCompare
  extract_lets +onlyGivenNames x1
  clear_value x1
  extract_lets +onlyGivenNames x2
  clear_value x2
  extract_lets +onlyGivenNames x3
  extract_lets +onlyGivenNames x4
  refine .ite hp1 ?_
  refine .ite ?_ (.ite (Chip.ctrNote_keeps (Chip.put_keeps hp1)) hp1)
  refine .ite ?_ hp1
  extract_lets +onlyGivenNames x5
  have hx5 : z.Keeps x5 := Chip.put_keeps (Chip.put_keeps hp1)
  clear_value x5
  exact .ite hx5 (Chip.Keeps.same hx5 rfl rfl rfl rfl)

theorem Chip.ctrWatch_keeps {z : Chip} {p1 : Chip} {p2 : Bool} (hp1 : z.Keeps p1) : z.Keeps (Chip.ctrWatch p1 p2) := by
  unfold Chip.ctrWatch
  refine .ite hp1 ?_
  extract_lets +onlyGivenNames x1
  have hx1 : z.Keeps x1 := .ite (Chip.disAbort_keeps hp1) hp1
  clear_value x1
  extract_lets +onlyGivenNames x2
  have hx2 : z.Keeps x2 := Chip.ctrJudge_keeps (Chip.ctrCompare_keeps (Chip.ctrCompare_keeps hx1))
  clear_value x2
  refine .ite ?_ hx2
  extract_lets +onlyGivenNames x3
  extract_lets +onlyGivenNames x4
  have hx4 : z.Keeps x4 := (Chip.Keeps.same hx2 rfl rfl rfl rfl)
  clear_value x4
  exact .ite (Chip.disStartNow_keeps hx4) hx4

theorem Chip.ctrFeedback_keeps {z : Chip} {p1 : Chip} {p2 : Bool} {p3 : Bool} (hp1 : z.Keeps p1) : z.Keeps (Chip.ctrFeedback p1 p2 p3) := by
  unfold Chip.ctrFeedback
  extract_lets +onlyGivenNames x1
  exact .ite hp1 (Chip.ctrWatch_keeps (Chip.put_keeps hp1))

theorem Chip.ctrPin_keeps {z : Chip} {p1 : Chip} {p2 : Bool} (hp1 : z.Keeps p1) : z.Keeps (Chip.ctrPin p1 p2) := by
  unfold Chip.ctrPin
  exact Chip.ctrFeedback_keeps hp1

theorem Chip.ctrLook_keeps {z : Chip} {p1 : Chip} (hp1 : z.Keeps p1) : z.Keeps (Chip.ctrLook p1) := by
  unfold Chip.ctrLook
  exact Chip.ctrWatch_keeps (Chip.ctrPin_keeps (Chip.ctrPin_keeps hp1))

theorem Chip.chopMoved_keeps {z : Chip} {p1 : Chip} {p2 : Chip} (hp1 : z.Keeps p1) (hp2 : z.Keeps p2) : z.Keeps (Chip.chopMoved p1 p2) := by
  unfold Chip.chopMoved
  refine .ite hp2 ?_
  extract_lets +onlyGivenNames x1
  have hx1 : z.Keeps x1 := by
    unfold x1
    split
    · exact Chip.setOvr_keeps hp2
    · exact hp2
  clear_value x1
  exact Chip.chopper_keeps hx1

theorem Chip.safeWrite_keeps {z : Chip} {p1 : Chip} {p2 : ℕ} {p3 : ℕ} (hp1 : z.Keeps p1) : z.Keeps (Chip.safeWrite p1 p2 p3) := by
  unfold Chip.safeWrite
  extract_lets +onlyGivenNames x1
  clear_value x1
  exact .ite (Chip.ctrWrite_keeps hp1) (.ite (Chip.disWrite_keeps hp1) (.ite (.ite (Chip.chopTest_keeps hp1) hp1) (.ite (Chip.pcWrite_keeps hp1) (.ite (Chip.standAll_keeps (Chip.showDisc_keeps (Chip.genericWrite_keeps hp1))) (.ite (Chip.ctrLook_keeps (Chip.genericWrite_keeps hp1)) (.ite (Chip.chopMoved_keeps hp1 (Chip.genericWrite_keeps hp1)) (.ite (Chip.showVdc_keeps (Chip.genericWrite_keeps hp1)) (.ite (Chip.standAll_keeps (Chip.showVdc_keeps (Chip.showOv3_keeps (Chip.genericWrite_keeps hp1)))) (Chip.refreshHolds_keeps (Chip.genericWrite_keeps hp1))))))))))

theorem Chip.modLedger_keeps {z : Chip} {p1 : Chip} {p2 : ℕ} {p3 : LedgerS → LedgerS} (hp1 : z.Keeps p1) : z.Keeps (Chip.modLedger p1 p2 p3) := by
  unfold Chip.modLedger
  exact Chip.modChm_keeps hp1

theorem Chip.ledStart_keeps {z : Chip} {p1 : Chip} {p2 : ℕ} (hp1 : z.Keeps p1) : z.Keeps (Chip.ledStart p1 p2) := by
  unfold Chip.ledStart
  exact .ite (Chip.modLedger_keeps hp1) hp1

theorem Chip.ledSubmit_keeps {z : Chip} {p1 : Chip} {p2 : ℕ} (hp1 : z.Keeps p1) : z.Keeps (Chip.ledSubmit p1 p2) := by
  unfold Chip.ledSubmit
  exact .ite (Chip.ledStart_keeps (Chip.submitWrite_keeps hp1)) hp1

theorem Chip.limitCl_keeps {z : Chip} {p1 : Chip} {p2 : ℕ} {p3 : ℕ} {p4 : ℕ} {p5 : ℕ} (hp1 : z.Keeps p1) : z.Keeps (Chip.limitCl p1 p2 p3 p4 p5) := by
  unfold Chip.limitCl
  exact Chip.record_keeps hp1

theorem Chip.showLim_keeps {z : Chip} {p1 : Chip} {p2 : ℕ} (hp1 : z.Keeps p1) : z.Keeps (Chip.showLim p1 p2) := by
  unfold Chip.showLim
  extract_lets +onlyGivenNames x1
  clear_value x1
  exact Chip.set_keeps hp1

theorem Chip.windJudge_keeps {z : Chip} {p1 : Chip} {p2 : ℕ} (hp1 : z.Keeps p1) : z.Keeps (Chip.windJudge p1 p2) := by
  unfold Chip.windJudge
  extract_lets +onlyGivenNames x1
  clear_value x1
  extract_lets +onlyGivenNames x2
  clear_value x2
  extract_lets +onlyGivenNames x3
  have hx3 : z.Keeps x3 := .ite (Chip.put_keeps hp1) (.ite (Chip.limitCl_keeps (Chip.put_keeps (Chip.put_keeps hp1))) hp1)
  clear_value x3
  exact Chip.showLim_keeps hx3

theorem Chip.chmWrite_keeps {z : Chip} {p1 : Chip} {p2 : ℕ} {p3 : ℕ} (hp1 : z.Keeps p1) : z.Keeps (Chip.chmWrite p1 p2 p3) := by
  unfold Chip.chmWrite
  refine .ite (.ite (.each hp1 (fun a1 t2 ht2 => Chip.ledSubmit_keeps ht2)) hp1) ?_
  refine .ite ?_ (Chip.genericWrite_keeps hp1)
  extract_lets +onlyGivenNames x3
  clear_value x3
  exact Chip.showLearn_keeps (Chip.windJudge_keeps (Chip.genericWrite_keeps hp1))

theorem Chip.canModeSet_keeps {z : Chip} {p1 : Chip} {p2 : ℕ} {p3 : ℕ} (hp1 : z.Keeps p1) : z.Keeps (Chip.canModeSet p1 p2 p3) := by
  unfold Chip.canModeSet
  extract_lets +onlyGivenNames x1
  clear_value x1
  refine .ite hp1 ?_
  extract_lets +onlyGivenNames x2
  have hx2 : z.Keeps x2 := Chip.set_keeps hp1
  clear_value x2
  extract_lets +onlyGivenNames x3
  clear_value x3
  extract_lets +onlyGivenNames x4
  have hx4 : z.Keeps x4 := .each hx2 (fun a5 t6 ht6 => Chip.bufEnd_keeps ht6)
  clear_value x4
  extract_lets +onlyGivenNames x7
  have hx7 : z.Keeps x7 := .ite (Chip.bufsEnd_keeps hx2) (.ite (Chip.modCan_keeps hx4) hx4)
  clear_value x7
  exact .ite (Chip.modCan_keeps (Chip.put_keeps hx7)) (.ite (Chip.put_keeps hx7) (Chip.porchLoad_keeps hx7))

theorem Chip.rxPop_keeps {z : Chip} {p1 : Chip} {p2 : ℕ} (hp1 : z.Keeps p1) : z.Keeps (Chip.rxPop p1 p2) := by
  unfold Chip.rxPop
  extract_lets +onlyGivenNames x1
  have hx1 : z.Keeps x1 := Chip.modCan_keeps hp1
  clear_value x1
  exact Chip.set_keeps hx1

theorem Chip.hpTake_keeps {z : Chip} {p1 : Chip} {p2 : ℕ} (hp1 : z.Keeps p1) : z.Keeps (Chip.hpTake p1 p2) := by
  unfold Chip.hpTake
  extract_lets +onlyGivenNames x1
  have hx1 : z.Keeps x1 := Chip.modCan_keeps hp1
  clear_value x1
  exact Chip.put_keeps hx1

theorem Chip.recWrite_keeps {z : Chip} {p1 : Chip} {p2 : ℕ} {p3 : ℕ} {p4 : ℕ} {p5 : ℕ} (hp1 : z.Keeps p1) : z.Keeps (Chip.recWrite p1 p2 p3 p4 p5) := by
  unfold Chip.recWrite
  exact .ite (Chip.put_keeps hp1) (Chip.recPut_keeps hp1)

theorem Chip.txCmd_keeps {z : Chip} {p1 : Chip} {p2 : ℕ} {p3 : ℕ} {p4 : ℕ} (hp1 : z.Keeps p1) : z.Keeps (Chip.txCmd p1 p2 p3 p4) := by
  unfold Chip.txCmd
  extract_lets +onlyGivenNames x1
  have hx1 : ∀ w2, z.Keeps w2 → z.Keeps (x1 w2) := fun w2 hw2 => Chip.put_keeps hw2
  clear_value x1
  refine .ite (hx1 _ hp1) ?_
  extract_lets +onlyGivenNames x3
  have hx3 : z.Keeps x3 := Chip.sets_keeps hp1
  clear_value x3
  extract_lets +onlyGivenNames x4
  clear_value x4
  extract_lets +onlyGivenNames x5
  have hx5 : z.Keeps x5 := .ite (hx1 _ hx3) hx3
  clear_value x5
  refine .ite ?_ ?_
  · refine .ite ?_ (.ite (Chip.bufEnd_keeps hx5) (Chip.modCan_keeps hx5))
    split
    · exact .ite (Chip.modCan_keeps hx5) (Chip.bufEnd_keeps hx5)
    · exact Chip.bufEnd_keeps hx5
  · refine .ite (Chip.bufEnd_keeps hx5) ?_
    refine .ite ?_ hx5
    extract_lets +onlyGivenNames x11
    clear_value x11
    extract_lets +onlyGivenNames x12
    clear_value x12
    extract_lets +onlyGivenNames x13
    clear_value x13
    exact .ite (Chip.bufEnd_keeps hx5) (Chip.sets_keeps hx5)

theorem Chip.canWrite_keeps {z : Chip} {p1 : Chip} {p2 : ℕ} {p3 : ℕ} (hp1 : z.Keeps p1) : z.Keeps (Chip.canWrite p1 p2 p3) := by
  unfold Chip.canWrite
  extract_lets +onlyGivenNames x1
  clear_value x1
  extract_lets +onlyGivenNames x2
  clear_value x2
  refine .ite (.ite (Chip.configWord_keeps hp1) (Chip.put_keeps hp1)) ?_
  refine .ite ?_ ?_
  · extract_lets +onlyGivenNames x3
    have hx3 : z.Keeps x3 := Chip.canModeSet_keeps hp1
    clear_value x3
    extract_lets +onlyGivenNames x4
    have hx4 : z.Keeps x4 := .ite (Chip.modCan_keeps hx3) hx3
    clear_value x4
    exact .ite (Chip.canReset_keeps hx4) hx4
  · refine .ite (.ite (Chip.rxPop_keeps hp1) hp1) ?_
    refine .ite (.ite (Chip.hpTake_keeps hp1) hp1) ?_
    refine .ite ?_ (.ite hp1 (Chip.genericWrite_keeps hp1))
    extract_lets +onlyGivenNames x5
    clear_value x5
    extract_lets +onlyGivenNames x6
    clear_value x6
    exact .ite (Chip.recWrite_keeps hp1) (.ite (Chip.txCmd_keeps hp1) (.ite hp1 (Chip.hole_keeps hp1)))

theorem Chip.canBlockWrite_keeps {z : Chip} {p1 : Chip} {p2 : ℕ} {p3 : ℕ} (hp1 : z.Keeps p1) : z.Keeps (Chip.canBlockWrite p1 p2 p3) := by
  unfold Chip.canBlockWrite
  refine .ite ?_ (Chip.canWrite_keeps hp1)
  extract_lets +onlyGivenNames x1
  have hx1 : z.Keeps x1 := Chip.canWrite_keeps hp1
  clear_value x1
  exact .ite (Chip.unitStart_keeps hx1) hx1

theorem Chip.poolWrite_keeps {z : Chip} {p1 : Chip} {p2 : ℕ} (hp1 : z.Keeps p1) : z.Keeps (Chip.poolWrite p1 p2) := by
  unfold Chip.poolWrite
  extract_lets +onlyGivenNames x1
  clear_value x1
  extract_lets +onlyGivenNames x2
  clear_value x2
  exact .ite (Chip.put_keeps hp1) (Chip.sets_keeps hp1)

theorem Chip.reqAnswer_keeps {z : Chip} {p1 : Chip} {p2 : ℕ} (hp1 : z.Keeps p1) : z.Keeps (Chip.reqAnswer p1 p2) := by
  unfold Chip.reqAnswer
  extract_lets +onlyGivenNames x1
  clear_value x1
  refine .ite hp1 ?_
  extract_lets +onlyGivenNames x2
  have hx2 : z.Keeps x2 := .ite (Chip.ackSend_keeps hp1) hp1
  clear_value x2
  exact Chip.put_keeps hx2

theorem Chip.portCfgWrite_keeps {z : Chip} {p1 : Chip} {p2 : ℕ} {p3 : ℕ} (hp1 : z.Keeps p1) : z.Keeps (Chip.portCfgWrite p1 p2 p3) := by
  unfold Chip.portCfgWrite
  refine .ite (.ite hp1 (Chip.portOff_keeps hp1)) ?_
  extract_lets +onlyGivenNames x1
  have hx1 : z.Keeps x1 := Chip.sets_keeps hp1
  clear_value x1
  exact .ite (Chip.portOn_keeps hx1) hx1

theorem Chip.tpCm_keeps {z : Chip} {p1 : Chip} {p2 : ℕ} {p3 : Bool} {p4 : OutKind} {p5 : ℕ} {p6 : List Byte} {p7 : ℕ} (hp1 : z.Keeps p1) : z.Keeps (Chip.tpCm p1 p2 p3 p4 p5 p6 p7) := by
  unfold Chip.tpCm
  exact Chip.porchSend_keeps hp1

theorem Chip.tpAbort_keeps {z : Chip} {p1 : Chip} {p2 : ℕ} {p3 : Bool} {p4 : ℕ} {p5 : ℕ} {p6 : ℕ} (hp1 : z.Keeps p1) : z.Keeps (Chip.tpAbort p1 p2 p3 p4 p5 p6) := by
  unfold Chip.tpAbort
  exact Chip.tpCm_keeps hp1

theorem Chip.sesAbort_keeps {z : Chip} {p1 : Chip} {p2 : ℕ} {p3 : ℕ} {p4 : ℕ} (hp1 : z.Keeps p1) : z.Keeps (Chip.sesAbort p1 p2 p3 p4) := by
  unfold Chip.sesAbort
  extract_lets +onlyGivenNames x1
  have hx1 : z.Keeps x1 := .ite hp1 (Chip.tpAbort_keeps hp1)
  clear_value x1
  exact Chip.sesEnd_keeps hx1

theorem Chip.sesCancel_keeps {z : Chip} {p1 : Chip} {p2 : ℕ} (hp1 : z.Keeps p1) : z.Keeps (Chip.sesCancel p1 p2) := by
  unfold Chip.sesCancel
  exact .ite (Chip.sesAbort_keeps hp1) hp1

theorem Chip.sesStart_keeps {z : Chip} {p1 : Chip} {p2 : ℕ} (hp1 : z.Keeps p1) : z.Keeps (Chip.sesStart p1 p2) := by
  unfold Chip.sesStart
  refine .ite hp1 ?_
  extract_lets +onlyGivenNames x1
  clear_value x1
  extract_lets +onlyGivenNames x2
  clear_value x2
  extract_lets +onlyGivenNames x3
  clear_value x3
  extract_lets +onlyGivenNames x4
  clear_value x4
  extract_lets +onlyGivenNames x5
  clear_value x5
  extract_lets +onlyGivenNames x6
  clear_value x6
  extract_lets +onlyGivenNames x7
  have hx7 : z.Keeps x7 := Chip.sets_keeps hp1
  clear_value x7
  refine .ite (Chip.sesEnd_keeps hx7) ?_
  refine .ite (Chip.sesEnd_keeps hx7) ?_
  extract_lets +onlyGivenNames x8
  clear_value x8
  extract_lets +onlyGivenNames x9
  clear_value x9
  extract_lets +onlyGivenNames x10
  have hx10 : z.Keeps x10 := Chip.modSes_keeps hx7
  clear_value x10
  exact .ite (Chip.tpCm_keeps hx10) (.ite (Chip.tpCm_keeps hx10) (Chip.tpCm_keeps hx10))

theorem Chip.sesRelease_keeps {z : Chip} {p1 : Chip} {p2 : ℕ} (hp1 : z.Keeps p1) : z.Keeps (Chip.sesRelease p1 p2) := by
  unfold Chip.sesRelease
  exact .ite (Chip.set_keeps hp1) hp1

theorem Chip.sesCtlWrite_keeps {z : Chip} {p1 : Chip} {p2 : ℕ} {p3 : ℕ} (hp1 : z.Keeps p1) : z.Keeps (Chip.sesCtlWrite p1 p2 p3) := by
  unfold Chip.sesCtlWrite
  extract_lets +onlyGivenNames x1
  have hx1 : z.Keeps x1 := Chip.sets_keeps hp1
  clear_value x1
  refine .ite ?_ (.ite (Chip.sesRelease_keeps hx1) hx1)
  extract_lets +onlyGivenNames x2
  have hx2 : z.Keeps x2 := Chip.set_keeps hx1
  clear_value x2
  extract_lets +onlyGivenNames x3
  have hx3 : z.Keeps x3 := .ite (Chip.sesCancel_keeps hx2) hx2
  clear_value x3
  exact .ite (Chip.sesStart_keeps hx3) hx3

theorem Chip.porchWrite_keeps {z : Chip} {p1 : Chip} {p2 : ℕ} {p3 : ℕ} (hp1 : z.Keeps p1) : z.Keeps (Chip.porchWrite p1 p2 p3) := by
  unfold Chip.porchWrite
  extract_lets +onlyGivenNames x1
  clear_value x1
  exact .ite (Chip.poolWrite_keeps hp1) (.ite (Chip.reqAnswer_keeps hp1) (.ite (Chip.portCfgWrite_keeps hp1) (.ite (.ite (Chip.claimPref_keeps hp1) hp1) (.ite (Chip.genericWrite_keeps hp1) (.ite (Chip.sesCtlWrite_keeps hp1) (Chip.genericWrite_keeps hp1))))))

theorem Chip.ringStart_keeps {z : Chip} {p1 : Chip} (hp1 : z.Keeps p1) : z.Keeps (Chip.ringStart p1) := by
  unfold Chip.ringStart
  extract_lets +onlyGivenNames x1
  have hx1 : z.Keeps x1 := Chip.sets_keeps hp1
  clear_value x1
  extract_lets +onlyGivenNames x2
  have hx2 : z.Keeps x2 := Chip.modRing_keeps hx1
  clear_value x2
  exact .ite (Chip.set_keeps (Chip.roleSet_keeps hx2)) (Chip.set_keeps (Chip.roleSet_keeps hx2))

theorem Chip.ringEnable_keeps {z : Chip} {p1 : Chip} (hp1 : z.Keeps p1) : z.Keeps (Chip.ringEnable p1) := by
  unfold Chip.ringEnable
  refine .ite hp1 ?_
  extract_lets +onlyGivenNames x1
  clear_value x1
  exact .ite (Chip.note_keeps (Chip.put_keeps hp1)) (.ite (Chip.modRing_keeps (Chip.put_keeps hp1)) (Chip.ringStart_keeps hp1))

theorem Chip.ringOff_keeps {z : Chip} {p1 : Chip} (hp1 : z.Keeps p1) : z.Keeps (Chip.ringOff p1) := by
  unfold Chip.ringOff
  refine .ite hp1 ?_
  extract_lets +onlyGivenNames x1
  have hx1 : z.Keeps x1 := Chip.msgsDown_keeps hp1
  clear_value x1
  extract_lets +onlyGivenNames x2
  have hx2 : z.Keeps x2 := Chip.sets_keeps (Chip.roleSet_keeps hx1)
  clear_value x2
  exact Chip.modRing_keeps hx2

theorem Chip.msgCfg_keeps {z : Chip} {p1 : Chip} {p2 : ℕ} (hp1 : z.Keeps p1) : z.Keeps (Chip.msgCfg p1 p2) := by
  unfold Chip.msgCfg
  extract_lets +onlyGivenNames x1
  have hx1 : z.Keeps x1 := Chip.sets_keeps hp1
  clear_value x1
  exact Chip.put_keeps hx1

theorem Chip.msgCtl_keeps {z : Chip} {p1 : Chip} {p2 : ℕ} {p3 : ℕ} (hp1 : z.Keeps p1) : z.Keeps (Chip.msgCtl p1 p2 p3) := by
  unfold Chip.msgCtl
  extract_lets +onlyGivenNames x1
  have hx1 : z.Keeps x1 := Chip.sets_keeps hp1
  clear_value x1
  refine .ite ?_ (.ite (.ite (Chip.modMsg_keeps hx1) (Chip.msgEnd_keeps hx1)) hx1)
  extract_lets +onlyGivenNames x2
  have hx2 : z.Keeps x2 := Chip.sets_keeps hx1
  clear_value x2
  extract_lets +onlyGivenNames x3
  clear_value x3
  extract_lets +onlyGivenNames x4
  clear_value x4
  extract_lets +onlyGivenNames x5
  clear_value x5
  extract_lets +onlyGivenNames x6
  clear_value x6
  exact .ite (Chip.msgEnd_keeps hx2) (.ite (Chip.msgEnd_keeps hx2) (.ite (Chip.msgEnd_keeps hx2) (Chip.modMsg_keeps hx2)))

theorem Chip.ringWrite_keeps {z : Chip} {p1 : Chip} {p2 : ℕ} {p3 : ℕ} (hp1 : z.Keeps p1) : z.Keeps (Chip.ringWrite p1 p2 p3) := by
  unfold Chip.ringWrite
  extract_lets +onlyGivenNames x1
  clear_value x1
  refine .ite (.ite hp1 (Chip.configWord_keeps hp1)) ?_
  refine .ite ?_ (.ite (Chip.msgCfg_keeps hp1) (.ite (Chip.msgCtl_keeps hp1) (Chip.genericWrite_keeps hp1)))
  extract_lets +onlyGivenNames x2
  have hx2 : z.Keeps x2 := .ite (Chip.sets_keeps hp1) hp1
  clear_value x2
  extract_lets +onlyGivenNames x3
  have hx3 : z.Keeps x3 := .ite (Chip.ringEnable_keeps hx2) (Chip.ringOff_keeps hx2)
  clear_value x3
  exact .ite (Chip.ringReset_keeps hx3) hx3

theorem Chip.ringBlockWrite_keeps {z : Chip} {p1 : Chip} {p2 : ℕ} {p3 : ℕ} (hp1 : z.Keeps p1) : z.Keeps (Chip.ringBlockWrite p1 p2 p3) := by
  unfold Chip.ringBlockWrite
  refine .ite ?_ (Chip.ringWrite_keeps hp1)
  extract_lets +onlyGivenNames x1
  have hx1 : z.Keeps x1 := Chip.ringWrite_keeps hp1
  clear_value x1
  exact .ite (Chip.unitStart_keeps hx1) hx1

theorem Chip.hwIrq_keeps {z : Chip} {p1 : Chip} (hp1 : z.Keeps p1) : z.Keeps (Chip.hwIrq p1) := by
  unfold Chip.hwIrq
  extract_lets +onlyGivenNames x1
  clear_value x1
  exact Chip.put_keeps hp1

theorem Chip.cqSettle_keeps {z : Chip} {p1 : Chip} {p2 : ℕ} (hp1 : z.Keeps p1) : z.Keeps (Chip.cqSettle p1 p2) := by
  unfold Chip.cqSettle
  refine .ite (.ite (Chip.hwIrq_keeps (Chip.set_keeps hp1)) (Chip.hwIrq_keeps hp1)) ?_
  extract_lets +onlyGivenNames x1
  clear_value x1
  extract_lets +onlyGivenNames x2
  clear_value x2
  exact .ite (Chip.hwIrq_keeps (Chip.sets_keeps hp1)) (Chip.hwIrq_keeps hp1)

theorem Chip.idleWrite_keeps {z : Chip} {p1 : Chip} {p2 : ℕ} (hp1 : z.Keeps p1) : z.Keeps (Chip.idleWrite p1 p2) := by
  unfold Chip.idleWrite
  extract_lets +onlyGivenNames x1
  have hx1 : z.Keeps x1 := Chip.sets_keeps hp1
  clear_value x1
  exact .each hx1 (fun a2 t3 ht3 => Chip.cqSettle_keeps ht3)

theorem Chip.casUndo_keeps {z : Chip} {p1 : Chip} {p2 : CasTick} (hp1 : z.Keeps p1) : z.Keeps (Chip.casUndo p1 p2) := by
  unfold Chip.casUndo
  exact Chip.setByte_keeps (Chip.setByte_keeps hp1)

theorem Chip.ownViolation_keeps {z : Chip} {p1 : Chip} {p2 : ℕ} (hp1 : z.Keeps p1) : z.Keeps (Chip.ownViolation p1 p2) := by
  unfold Chip.ownViolation
  exact Chip.note_keeps (Chip.put_keeps hp1)

theorem Chip.modHw_keeps {z : Chip} {p1 : Chip} {p2 : HwS → HwS} (hp1 : z.Keeps p1) : z.Keeps (Chip.modHw p1 p2) := by
  unfold Chip.modHw
  exact (Chip.Keeps.same hp1 rfl rfl rfl rfl)

theorem Chip.casOne_keeps {z : Chip} {p1 : Chip} {p2 : Requester} {p3 : ℕ} {p4 : Bool} (hp1 : z.Keeps p1) : z.Keeps (Chip.casOne p1 p2 p3 p4) := by
  unfold Chip.casOne
  extract_lets +onlyGivenNames x1
  clear_value x1
  extract_lets +onlyGivenNames x2
  clear_value x2
  extract_lets +onlyGivenNames x3
  clear_value x3
  extract_lets +onlyGivenNames x4
  clear_value x4
  extract_lets +onlyGivenNames x5
  have hx5 : z.Keeps x5 := .ite (.ite (Chip.ownViolation_keeps hp1) hp1) (.ite (Chip.flagPut_keeps hp1) hp1)
  clear_value x5
  extract_lets +onlyGivenNames x6
  clear_value x6
  exact Chip.modHw_keeps hx5

theorem Chip.casWrite_keeps {z : Chip} {p1 : Chip} {p2 : Requester} {p3 : ℕ} (hp1 : z.Keeps p1) : z.Keeps (Chip.casWrite p1 p2 p3) := by
  unfold Chip.casWrite
  extract_lets +onlyGivenNames x1
  clear_value x1
  extract_lets +onlyGivenNames x2
  clear_value x2
  extract_lets +onlyGivenNames x3
  extract_lets +onlyGivenNames x4
  extract_lets +onlyGivenNames x5
  extract_lets +onlyGivenNames x6
  have hx6 : z.Keeps x6 := .ite hp1 (Chip.casUndo_keeps hp1)
  clear_value x6
  extract_lets +onlyGivenNames x7
  have hx7 : z.Keeps x7 := .each hx6 (fun a8 t9 ht9 => Chip.casOne_keeps ht9)
  clear_value x7
  extract_lets +onlyGivenNames x10
  exact Chip.modHw_keeps hx7

theorem Chip.hostwrWrite_keeps {z : Chip} {p1 : Chip} {p2 : Requester} {p3 : ℕ} (hp1 : z.Keeps p1) : z.Keeps (Chip.hostwrWrite p1 p2 p3) := by
  unfold Chip.hostwrWrite
  split
  · exact Chip.set_keeps hp1
  · exact hp1

theorem Chip.modHwQ_keeps {z : Chip} {p1 : Chip} {p2 : ℕ} {p3 : HwQ → HwQ} (hp1 : z.Keeps p1) : z.Keeps (Chip.modHwQ p1 p2 p3) := by
  unfold Chip.modHwQ
  exact Chip.modHw_keeps hp1

theorem Chip.modDesc_keeps {z : Chip} {p1 : Chip} {p2 : ℕ} {p3 : DescS → DescS} (hp1 : z.Keeps p1) : z.Keeps (Chip.modDesc p1 p2 p3) := by
  unfold Chip.modDesc
  exact Chip.modHwQ_keeps hp1

theorem Chip.hwShow_keeps {z : Chip} {p1 : Chip} {p2 : ℕ} (hp1 : z.Keeps p1) : z.Keeps (Chip.hwShow p1 p2) := by
  unfold Chip.hwShow
  extract_lets +onlyGivenNames x1
  extract_lets +onlyGivenNames x2
  have hx2 : z.Keeps x2 := by
    unfold x2
    split
    · exact .ite (Chip.sets_keeps hp1) (Chip.set_keeps hp1)
    · exact Chip.set_keeps hp1
  clear_value x2
  exact Chip.sets_keeps hx2

theorem Chip.descEnd_keeps {z : Chip} {p1 : Chip} {p2 : ℕ} {p3 : ℕ} {p4 : ℕ} (hp1 : z.Keeps p1) : z.Keeps (Chip.descEnd p1 p2 p3 p4) := by
  unfold Chip.descEnd
  exact Chip.hwShow_keeps (Chip.modDesc_keeps hp1)

theorem Chip.msgDone_keeps {z : Chip} {p1 : Chip} {p2 : ℕ} (hp1 : z.Keeps p1) : z.Keeps (Chip.msgDone p1 p2) := by
  unfold Chip.msgDone
  extract_lets +onlyGivenNames x1
  clear_value x1
  extract_lets +onlyGivenNames x2
  clear_value x2
  refine .ite ?_ hp1
  extract_lets +onlyGivenNames x3
  have hx3 : z.Keeps x3 := Chip.modDesc_keeps (Chip.clrBitOf_keeps hp1)
  clear_value x3
  exact Chip.descEnd_keeps hx3

theorem Chip.hwAbortEnd_keeps {z : Chip} {p1 : Chip} {p2 : ℕ} (hp1 : z.Keeps p1) : z.Keeps (Chip.hwAbortEnd p1 p2) := by
  unfold Chip.hwAbortEnd
  extract_lets +onlyGivenNames x1
  refine .ite ?_ (Chip.hwShow_keeps hp1)
  extract_lets +onlyGivenNames x2
  have hx2 : z.Keeps x2 := Chip.modHwQ_keeps hp1
  clear_value x2
  exact Chip.hwShow_keeps (Chip.sets_keeps hx2)

theorem Chip.hwAbortRun_keeps {z : Chip} {p1 : Chip} {p2 : ℕ} (hp1 : z.Keeps p1) : z.Keeps (Chip.hwAbortRun p1 p2) := by
  unfold Chip.hwAbortRun
  split
  · rename_i y1 y2 q3 q4
    refine .ite ?_ hp1
    extract_lets +onlyGivenNames x5
    have hx5 : z.Keeps x5 := Chip.dropWrite_keeps hp1
    clear_value x5
    extract_lets +onlyGivenNames x6
    have hx6 : z.Keeps x6 := Chip.modDesc_keeps (Chip.clrBitOf_keeps hx5)
    clear_value x6
    exact Chip.hwShow_keeps hx6
  · exact hp1

theorem Chip.hwAbort_keeps {z : Chip} {p1 : Chip} {p2 : ℕ} {p3 : Bool} (hp1 : z.Keeps p1) : z.Keeps (Chip.hwAbort p1 p2 p3) := by
  unfold Chip.hwAbort
  extract_lets +onlyGivenNames x1
  have hx1 : z.Keeps x1 := Chip.modHwQ_keeps (Chip.set_keeps hp1)
  clear_value x1
  exact Chip.hwAbortEnd_keeps (Chip.hwAbortRun_keeps hx1)

theorem Chip.queueBad_keeps {z : Chip} {p1 : Chip} {p2 : ℕ} {p3 : ℕ} {p4 : ℕ} (hp1 : z.Keeps p1) : z.Keeps (Chip.queueBad p1 p2 p3 p4) := by
  unfold Chip.queueBad
  exact Chip.note_keeps (Chip.put_keeps hp1)

theorem Chip.sqCfgWrite_keeps {z : Chip} {p1 : Chip} {p2 : ℕ} {p3 : ℕ} (hp1 : z.Keeps p1) : z.Keeps (Chip.sqCfgWrite p1 p2 p3) := by
  unfold Chip.sqCfgWrite
  refine .ite (.ite hp1 (Chip.hwAbort_keeps hp1)) ?_
  extract_lets +onlyGivenNames x1
  have hx1 : z.Keeps x1 := Chip.sets_keeps hp1
  clear_value x1
  exact .ite hx1 (.ite (Chip.queueBad_keeps hx1) (Chip.put_keeps hx1))

theorem Chip.modGroup_keeps {z : Chip} {p1 : Chip} {p2 : ℕ} {p3 : ℕ} {p4 : GroupS → GroupS} (hp1 : z.Keeps p1) : z.Keeps (Chip.modGroup p1 p2 p3 p4) := by
  unfold Chip.modGroup
  exact (Chip.Keeps.same hp1 rfl rfl rfl rfl)

theorem Chip.moderate_keeps {z : Chip} {p1 : Chip} {p2 : ℕ} (hp1 : z.Keeps p1) : z.Keeps (Chip.moderate p1 p2) := by
  unfold Chip.moderate
  exact .ite (Chip.modGroup_keeps hp1) hp1

theorem Chip.pulse_keeps {z : Chip} {p1 : Chip} {p2 : ℕ} (hp1 : z.Keeps p1) : z.Keeps (Chip.pulse p1 p2) := by
  unfold Chip.pulse
  exact Chip.moderate_keeps (Chip.Keeps.same hp1 rfl rfl rfl rfl)

theorem Chip.sqTailWrite_keeps {z : Chip} {p1 : Chip} {p2 : Requester} {p3 : ℕ} {p4 : ℕ} (hp1 : z.Keeps p1) : z.Keeps (Chip.sqTailWrite p1 p2 p3 p4) := by
  unfold Chip.sqTailWrite
  extract_lets +onlyGivenNames x1
  clear_value x1
  exact .ite (Chip.queueBad_keeps hp1) (.ite (Chip.queueBad_keeps hp1) (.ite (Chip.queueBad_keeps hp1) (Chip.pulse_keeps (Chip.set_keeps hp1))))

theorem Chip.cqCfgWrite_keeps {z : Chip} {p1 : Chip} {p2 : ℕ} {p3 : ℕ} (hp1 : z.Keeps p1) : z.Keeps (Chip.cqCfgWrite p1 p2 p3) := by
  unfold Chip.cqCfgWrite
  refine .ite (.ite hp1 (Chip.put_keeps hp1)) ?_
  extract_lets +onlyGivenNames x1
  have hx1 : z.Keeps x1 := Chip.sets_keeps hp1
  clear_value x1
  exact .ite hx1 (.ite (Chip.queueBad_keeps hx1) (Chip.sets_keeps hx1))

theorem Chip.cqHeadWrite_keeps {z : Chip} {p1 : Chip} {p2 : ℕ} {p3 : ℕ} (hp1 : z.Keeps p1) : z.Keeps (Chip.cqHeadWrite p1 p2 p3) := by
  unfold Chip.cqHeadWrite
  exact Chip.cqSettle_keeps (Chip.set_keeps hp1)

theorem Chip.cqModWrite_keeps {z : Chip} {p1 : Chip} {p2 : ℕ} {p3 : ℕ} (hp1 : z.Keeps p1) : z.Keeps (Chip.cqModWrite p1 p2 p3) := by
  unfold Chip.cqModWrite
  exact Chip.cqSettle_keeps (Chip.sets_keeps hp1)

theorem Chip.hwWrite_keeps {z : Chip} {p1 : Chip} {p2 : Requester} {p3 : ℕ} {p4 : ℕ} (hp1 : z.Keeps p1) : z.Keeps (Chip.hwWrite p1 p2 p3 p4) := by
  unfold Chip.hwWrite
  extract_lets +onlyGivenNames x1
  clear_value x1
  refine .ite hp1 ?_
  refine .ite (Chip.idleWrite_keeps hp1) ?_
  refine .ite (Chip.casWrite_keeps hp1) ?_
  refine .ite (Chip.hostwrWrite_keeps hp1) ?_
  refine .ite (Chip.msgDone_keeps hp1) ?_
  refine .ite ?_ ?_
  · extract_lets +onlyGivenNames x2
    clear_value x2
    exact .ite (Chip.sqCfgWrite_keeps hp1) (.ite (Chip.sqTailWrite_keeps hp1) (.ite (.ite (Chip.hwAbort_keeps hp1) hp1) hp1))
  · refine .ite ?_ (Chip.genericWrite_keeps hp1)
    extract_lets +onlyGivenNames x3
    clear_value x3
    exact .ite (Chip.cqCfgWrite_keeps hp1) (.ite (Chip.cqHeadWrite_keeps hp1) (.ite (Chip.cqModWrite_keeps hp1) hp1))

theorem Chip.routeWrite_keeps {z : Chip} {p1 : Chip} {p2 : ℕ} {p3 : ℕ} (hp1 : z.Keeps p1) : z.Keeps (Chip.routeWrite p1 p2 p3) := by
  unfold Chip.routeWrite
  refine .each hp1 ?_
  intro a1 t2 ht2
  extract_lets +onlyGivenNames x3
  clear_value x3
  refine .ite ht2 ?_
  extract_lets +onlyGivenNames x4
  extract_lets +onlyGivenNames x5
  have hx5 : z.Keeps x5 := .ite (Chip.Keeps.same ht2 rfl rfl rfl rfl) ht2
  clear_value x5
  exact Chip.sets_keeps hx5

theorem Chip.pendClear_keeps {z : Chip} {p1 : Chip} {p2 : ℕ} {p3 : ℕ} (hp1 : z.Keeps p1) : z.Keeps (Chip.pendClear p1 p2 p3) := by
  unfold Chip.pendClear
  extract_lets +onlyGivenNames x1
  clear_value x1
  exact (Chip.Keeps.same hp1 rfl rfl rfl rfl)

theorem Chip.spuriousWrite_keeps {z : Chip} {p1 : Chip} {p2 : ℕ} (hp1 : z.Keeps p1) : z.Keeps (Chip.spuriousWrite p1 p2) := by
  unfold Chip.spuriousWrite
  exact .each hp1 (fun a1 t2 ht2 => .ite (Chip.set_keeps ht2) ht2)

theorem Chip.privateSrc_keeps {z : Chip} {p1 : Chip} {p2 : ℕ} {p3 : ℕ} (hp1 : z.Keeps p1) : z.Keeps (Chip.privateSrc p1 p2 p3) := by
  unfold Chip.privateSrc
  exact Chip.setBitOf_keeps hp1

theorem Chip.swiWrite_keeps {z : Chip} {p1 : Chip} {p2 : ℕ} (hp1 : z.Keeps p1) : z.Keeps (Chip.swiWrite p1 p2) := by
  unfold Chip.swiWrite
  exact .each hp1 (fun a1 t2 ht2 => .ite (Chip.privateSrc_keeps ht2) ht2)

theorem Chip.modHart_keeps {z : Chip} {p1 : Chip} {p2 : ℕ} {p3 : HartS → HartS} (hp1 : z.Keeps p1) : z.Keeps (Chip.modHart p1 p2 p3) := by
  unfold Chip.modHart
  exact (Chip.Keeps.same hp1 rfl rfl rfl rfl)

theorem Chip.wdtWrite_keeps {z : Chip} {p1 : Chip} {p2 : ℕ} {p3 : ℕ} (hp1 : z.Keeps p1) : z.Keeps (Chip.wdtWrite p1 p2 p3) := by
  unfold Chip.wdtWrite
  refine .ite hp1 ?_
  extract_lets +onlyGivenNames x1
  have hx1 : z.Keeps x1 := Chip.modHart_keeps hp1
  clear_value x1
  exact .ite hx1 (Chip.sets_keeps hx1)

theorem Chip.semSet_keeps {z : Chip} {p1 : Chip} {p2 : ℕ} {p3 : ℕ} (hp1 : z.Keeps p1) : z.Keeps (Chip.semSet p1 p2 p3) := by
  unfold Chip.semSet
  exact Chip.set_keeps hp1

theorem Chip.semGrant_keeps {z : Chip} {p1 : Chip} {p2 : Requester} {p3 : ℕ} {p4 : Bool} (hp1 : z.Keeps p1) : z.Keeps (Chip.semGrant p1 p2 p3 p4) := by
  unfold Chip.semGrant
  extract_lets +onlyGivenNames x1
  have hx1 : z.Keeps x1 := Chip.semSet_keeps hp1
  clear_value x1
  exact (Chip.Keeps.same hx1 rfl rfl rfl rfl)

theorem Chip.semQueue_keeps {z : Chip} {p1 : Chip} {p2 : Requester} {p3 : ℕ} (hp1 : z.Keeps p1) : z.Keeps (Chip.semQueue p1 p2 p3) := by
  unfold Chip.semQueue
  exact .ite hp1 (Chip.Keeps.same hp1 rfl rfl rfl rfl)

theorem Chip.semAsk_keeps {z : Chip} {p1 : Chip} {p2 : Requester} {p3 : ℕ} {p4 : Bool} (hp1 : z.Keeps p1) : z.Keeps (Chip.semAsk p1 p2 p3 p4) := by
  unfold Chip.semAsk
  refine .ite (Chip.semGrant_keeps hp1) ?_
  refine .ite hp1 ?_
  split
  · rename_i y1 y2 q3
    extract_lets +onlyGivenNames x4
    have hx4 : z.Keeps x4 := Chip.semGrant_keeps hp1
    clear_value x4
    exact .ite (Chip.semQueue_keeps hx4) hx4
  · exact .ite (Chip.semQueue_keeps hp1) hp1

theorem Chip.semTake_keeps {z : Chip} {p1 : Chip} {p2 : Requester} {p3 : ℕ} (hp1 : z.Keeps p1) : z.Keeps (Chip.semTake p1 p2 p3) := by
  unfold Chip.semTake
  exact Chip.semAsk_keeps hp1

theorem Chip.semRelease_keeps {z : Chip} {p1 : Chip} {p2 : ℕ} (hp1 : z.Keeps p1) : z.Keeps (Chip.semRelease p1 p2) := by
  unfold Chip.semRelease
  split
  · exact Chip.semSet_keeps hp1
  · rename_i y3 q4
    extract_lets +onlyGivenNames x5
    have hx5 : z.Keeps x5 := Chip.semSet_keeps hp1
    clear_value x5
    extract_lets +onlyGivenNames x6
    extract_lets +onlyGivenNames x7
    have hx7 : z.Keeps x7 := (Chip.Keeps.same hx5 rfl rfl rfl rfl)
    clear_value x7
    split
    · exact Chip.privateSrc_keeps hx7
    · exact hx7

theorem Chip.semGive_keeps {z : Chip} {p1 : Chip} {p2 : Requester} {p3 : ℕ} (hp1 : z.Keeps p1) : z.Keeps (Chip.semGive p1 p2 p3) := by
  unfold Chip.semGive
  exact .ite (Chip.semRelease_keeps hp1) (Chip.note_keeps (Chip.put_keeps hp1))

theorem Chip.semTakeOrWait_keeps {z : Chip} {p1 : Chip} {p2 : Requester} {p3 : ℕ} (hp1 : z.Keeps p1) : z.Keeps (Chip.semTakeOrWait p1 p2 p3) := by
  unfold Chip.semTakeOrWait
  exact Chip.semAsk_keeps hp1

theorem Chip.semCancel_keeps {z : Chip} {p1 : Chip} {p2 : Requester} {p3 : ℕ} (hp1 : z.Keeps p1) : z.Keeps (Chip.semCancel p1 p2 p3) := by
  unfold Chip.semCancel
  exact (Chip.Keeps.same hp1 rfl rfl rfl rfl)

theorem Chip.semReq_keeps {z : Chip} {p1 : Chip} {p2 : Requester} {p3 : ℕ} (hp1 : z.Keeps p1) : z.Keeps (Chip.semReq p1 p2 p3) := by
  unfold Chip.semReq
  extract_lets +onlyGivenNames x1
  clear_value x1
  split
  · exact Chip.semTake_keeps hp1
  · exact Chip.semGive_keeps hp1
  · exact Chip.semTakeOrWait_keeps hp1
  · exact Chip.semCancel_keeps hp1

theorem Chip.injWrite_keeps {z : Chip} {p1 : Chip} {p2 : ℕ} (hp1 : z.Keeps p1) : z.Keeps (Chip.injWrite p1 p2) := by
  unfold Chip.injWrite
  extract_lets +onlyGivenNames x1
  have hx1 : z.Keeps x1 := Chip.sets_keeps hp1
  clear_value x1
  exact .ite (Chip.put_keeps hx1) hx1

theorem Chip.coreWrite_keeps {z : Chip} {p1 : Chip} {p2 : Requester} {p3 : ℕ} {p4 : ℕ} (hp1 : z.Keeps p1) : z.Keeps (Chip.coreWrite p1 p2 p3 p4) := by
  unfold Chip.coreWrite
  extract_lets +onlyGivenNames x1
  clear_value x1
  exact .ite (Chip.routeWrite_keeps hp1) (.ite (Chip.pendClear_keeps hp1) (.ite (Chip.spuriousWrite_keeps hp1) (.ite (Chip.swiWrite_keeps hp1) (.ite hp1 (.ite (Chip.wdtWrite_keeps hp1) (.ite (Chip.semReq_keeps hp1) (.ite (Chip.injWrite_keeps hp1) (Chip.genericWrite_keeps hp1))))))))

theorem Chip.transfer_keeps {z : Chip} {p1 : Chip} {p2 : ℕ} {p3 : ℕ} (hp1 : z.Keeps p1) : z.Keeps (Chip.transfer p1 p2 p3) := by
  unfold Chip.transfer
  extract_lets +onlyGivenNames x1
  have hx1 : z.Keeps x1 := Chip.modPwr_keeps hp1
  clear_value x1
  exact Chip.put_keeps hx1

theorem Chip.sleepWrite_keeps {z : Chip} {p1 : Chip} {p2 : ℕ} (hp1 : z.Keeps p1) : z.Keeps (Chip.sleepWrite p1 p2) := by
  unfold Chip.sleepWrite
  extract_lets +onlyGivenNames x1
  clear_value x1
  refine .ite (Chip.note_keeps (Chip.sets_keeps hp1)) ?_
  extract_lets +onlyGivenNames x2
  have hx2 : z.Keeps x2 := Chip.sets_keeps hp1
  clear_value x2
  exact Chip.modPwr_keeps (Chip.transfer_keeps hx2)

theorem Chip.isoAssert_keeps {z : Chip} {p1 : Chip} {p2 : ℕ} (hp1 : z.Keeps p1) : z.Keeps (Chip.isoAssert p1 p2) := by
  unfold Chip.isoAssert
  exact .ite hp1 (Chip.putIso_keeps hp1)

theorem Chip.lateStart_keeps {z : Chip} {p1 : Chip} {p2 : ℕ} (hp1 : z.Keeps p1) : z.Keeps (Chip.lateStart p1 p2) := by
  unfold Chip.lateStart
  extract_lets +onlyGivenNames x1
  refine .ite ?_ hp1
  extract_lets +onlyGivenNames x2
  extract_lets +onlyGivenNames x3
  have hx3 : z.Keeps x3 := (Chip.Keeps.same hp1 rfl rfl rfl rfl)
  clear_value x3
  exact Chip.isoAssert_keeps (Chip.openGate_keeps hx3)

theorem Chip.upWrite_keeps {z : Chip} {p1 : Chip} {p2 : ℕ} (hp1 : z.Keeps p1) : z.Keeps (Chip.upWrite p1 p2) := by
  unfold Chip.upWrite
  exact .ite (Chip.lateStart_keeps (Chip.put_keeps hp1)) hp1

theorem Chip.rgnCtlWrite_keeps {z : Chip} {p1 : Chip} {p2 : ℕ} (hp1 : z.Keeps p1) : z.Keeps (Chip.rgnCtlWrite p1 p2) := by
  unfold Chip.rgnCtlWrite
  extract_lets +onlyGivenNames x1
  have hx1 : z.Keeps x1 := Chip.sets_keeps hp1
  clear_value x1
  extract_lets +onlyGivenNames x2
  have hx2 : z.Keeps x2 := .ite hx1 (Chip.openGate_keeps hx1)
  clear_value x2
  extract_lets +onlyGivenNames x3
  have hx3 : z.Keeps x3 := .ite hx2 (Chip.openGate_keeps hx2)
  clear_value x3
  extract_lets +onlyGivenNames x4
  have hx4 : z.Keeps x4 := .ite (Chip.upWrite_keeps hx3) hx3
  clear_value x4
  exact .ite (Chip.upWrite_keeps hx4) hx4

theorem Chip.powerWrite_keeps {z : Chip} {p1 : Chip} {p2 : ℕ} {p3 : ℕ} (hp1 : z.Keeps p1) : z.Keeps (Chip.powerWrite p1 p2 p3) := by
  unfold Chip.powerWrite
  refine .ite (Chip.sleepWrite_keeps hp1) ?_
  refine .ite (Chip.rgnCtlWrite_keeps hp1) ?_
  refine .ite ?_ (.ite hp1 (Chip.genericWrite_keeps hp1))
  extract_lets +onlyGivenNames x1
  have hx1 : z.Keeps x1 := Chip.genericWrite_keeps hp1
  clear_value x1
  exact Chip.transfer_keeps hx1

theorem Chip.dieRelease_keeps {z : Chip} {p1 : Chip} (hp1 : z.Keeps p1) : z.Keeps (Chip.dieRelease p1) := by
  unfold Chip.dieRelease
  exact (Chip.Keeps.same hp1 rfl rfl rfl rfl)

theorem Chip.fltDemand_keeps {z : Chip} {p1 : Chip} (hp1 : z.Keeps p1) : z.Keeps (Chip.fltDemand p1) := by
  unfold Chip.fltDemand
  extract_lets +onlyGivenNames x1
  have hx1 : z.Keeps x1 := Chip.allHiz_keeps (Chip.sets_keeps hp1)
  clear_value x1
  extract_lets +onlyGivenNames x2
  have hx2 : z.Keeps x2 := Chip.firstNote_keeps hx1
  clear_value x2
  extract_lets +onlyGivenNames x3
  have hx3 : z.Keeps x3 := Chip.sets_keeps hx2
  clear_value x3
  exact Chip.faultAll_keeps hx3

theorem Chip.tryRelease_keeps {z : Chip} {p1 : Chip} (hp1 : z.Keeps p1) : z.Keeps (Chip.tryRelease p1) := by
  unfold Chip.tryRelease
  refine .ite ?_ hp1
  extract_lets +onlyGivenNames x1
  have hx1 : z.Keeps x1 := Chip.dieRelease_keeps hp1
  clear_value x1
  extract_lets +onlyGivenNames x2
  have hx2 : z.Keeps x2 := .ite (Chip.put_keeps hx1) hx1
  clear_value x2
  exact .ite (Chip.fltDemand_keeps hx2) hx2

theorem Chip.ledCut_keeps {z : Chip} {p1 : Chip} (hp1 : z.Keeps p1) : z.Keeps (Chip.ledCut p1) := by
  unfold Chip.ledCut
  exact .each hp1 (fun a1 t2 ht2 => .ite (Chip.useFree_keeps (Chip.setBytes_keeps ht2)) ht2)

theorem Chip.cfgCut_keeps {z : Chip} {p1 : Chip} (hp1 : z.Keeps p1) : z.Keeps (Chip.cfgCut p1) := by
  unfold Chip.cfgCut
  extract_lets +onlyGivenNames x1
  have hx1 : z.Keeps x1 := .ite (Chip.useFree_keeps (Chip.setBytes_keeps hp1)) hp1
  clear_value x1
  refine .ite ?_ hx1
  extract_lets +onlyGivenNames x2
  clear_value x2
  extract_lets +onlyGivenNames x3
  have hx3 : z.Keeps x3 := Chip.useFree_keeps hx1
  clear_value x3
  exact (Chip.Keeps.same hx3 rfl rfl rfl rfl)

theorem Chip.hwCut_keeps {z : Chip} {p1 : Chip} (hp1 : z.Keeps p1) : z.Keeps (Chip.hwCut p1) := by
  unfold Chip.hwCut
  refine .each hp1 ?_
  intro a1 t2 ht2
  split
  · rename_i y3 q4
    refine .ite ?_ ht2
    extract_lets +onlyGivenNames x5
    clear_value x5
    exact Chip.useFree_keeps (Chip.setBytes_keeps ht2)
  · exact ht2

theorem Chip.dieReset_keeps {z : Chip} {p1 : Chip} {p2 : ℕ} (hp1 : z.Keeps p1) : z.Keeps (Chip.dieReset p1 p2) := by
  unfold Chip.dieReset
  extract_lets x1 same x2 x3
  have hx1 : z.wf = true → x1.seq < 65536 ∧ x1.flashNext < 512 ∧ x1.flashUsed ≤ 512 ∧ x1.retention.length ≤ 16 := by
    intro x
    have k := hp1.wf x
    rw [Chip.wf_iff] at k
    exact ⟨k.2.2.2.2.1, k.2.2.2.2.2.1, k.2.2.2.2.2.2, k.2.2.2.1⟩
  have hx2 : z.Keeps x2 := Chip.ledCut_keeps (Chip.cfgCut_keeps (Chip.hwCut_keeps hp1))
  have hx3 : z.Keeps x3 := Chip.set_keeps hx2
  clear_value x1 x3
  refine ⟨fun x => ?_, List.nil_sublist _⟩
  have k := hx3.wf x
  obtain ⟨h1, h2, h3, h4⟩ := hx1 x
  rw [Chip.wf_iff] at k ⊢
  exact ⟨Memory.wf_filter _ k.1, rising_filter _ k.2.1, Nat.zero_le _, h4, h1, h2, h3⟩

theorem Chip.modRgn_keeps {z : Chip} {p1 : Chip} {p2 : ℕ} {p3 : RegionS → RegionS} (hp1 : z.Keeps p1) : z.Keeps (Chip.modRgn p1 p2 p3) := by
  unfold Chip.modRgn
  exact (Chip.Keeps.same hp1 rfl rfl rfl rfl)

theorem Chip.showHiz_keeps {z : Chip} {p1 : Chip} {p2 : ℕ} (hp1 : z.Keeps p1) : z.Keeps (Chip.showHiz p1 p2) := by
  unfold Chip.showHiz
  refine .ite hp1 ?_
  extract_lets +onlyGivenNames x1
  clear_value x1
  exact Chip.put_keeps hp1

theorem Chip.hwRegion_keeps {z : Chip} {p1 : Chip} {p2 : ℕ} (hp1 : z.Keeps p1) : z.Keeps (Chip.hwRegion p1 p2) := by
  unfold Chip.hwRegion
  refine .each hp1 ?_
  intro a1 t2 ht2
  extract_lets +onlyGivenNames x3
  clear_value x3
  extract_lets +onlyGivenNames x4
  have hx4 : z.Keeps x4 := .ite (Chip.hwShow_keeps (Chip.modDesc_keeps (Chip.clrBitOf_keeps ht2))) ht2
  clear_value x4
  extract_lets +onlyGivenNames x5
  clear_value x5
  exact .ite (Chip.hwAbort_keeps hx4) hx4

theorem Chip.semRegion_keeps {z : Chip} {p1 : Chip} {p2 : ℕ} (hp1 : z.Keeps p1) : z.Keeps (Chip.semRegion p1 p2) := by
  unfold Chip.semRegion
  extract_lets +onlyGivenNames x1
  extract_lets +onlyGivenNames x2
  have hx2 : z.Keeps x2 := (Chip.Keeps.same hp1 rfl rfl rfl rfl)
  clear_value x2
  refine .each hx2 ?_
  intro a3 t4 ht4
  extract_lets +onlyGivenNames x5
  clear_value x5
  exact .ite (Chip.semRelease_keeps ht4) ht4

theorem Chip.regionDown_keeps {z : Chip} {p1 : Chip} {p2 : ℕ} (hp1 : z.Keeps p1) : z.Keeps (Chip.regionDown p1 p2) := by
  unfold Chip.regionDown
  extract_lets +onlyGivenNames x1
  have hx1 : z.Keeps x1 := Chip.openGate_keeps (Chip.modRgn_keeps hp1)
  clear_value x1
  extract_lets +onlyGivenNames x2
  have hx2 : z.Keeps x2 := by
    unfold x2
    refine .each hx1 ?_
    intro a3 t4 ht4
    extract_lets +onlyGivenNames x5
    have hx5 : z.Keeps x5 := Chip.endDuplex_keeps (Chip.endDuplex_keeps ht4)
    clear_value x5
    extract_lets +onlyGivenNames x6
    have hx6 : z.Keeps x6 := .ite (Chip.set_keeps hx5) hx5
    clear_value x6
    extract_lets +onlyGivenNames x7
    have hx7 : z.Keeps x7 := Chip.clusterHidden_keeps (Chip.clusterRegs_keeps hx6)
    clear_value x7
    extract_lets +onlyGivenNames x8
    have hx8 : z.Keeps x8 := Chip.sets_keeps hx7
    clear_value x8
    exact Chip.modCl_keeps hx8
  clear_value x2
  extract_lets +onlyGivenNames x9
  have hx9 : z.Keeps x9 := by
    unfold x9
    refine .each hx2 ?_
    intro a10 t11 ht11
    extract_lets +onlyGivenNames x12
    have hx12 : z.Keeps x12 := Chip.put_keeps ht11
    clear_value x12
    extract_lets +onlyGivenNames x13
    have hx13 : z.Keeps x13 := .ite (Chip.setGate_keeps hx12) hx12
    clear_value x13
    extract_lets +onlyGivenNames x14
    have hx14 : z.Keeps x14 := Chip.modSlice_keeps hx13
    clear_value x14
    exact Chip.showHiz_keeps (Chip.sliceUnitReset_keeps hx14)
  clear_value x9
  extract_lets +onlyGivenNames x15
  have hx15 : z.Keeps x15 := by
    unfold x15
    refine .each hx9 ?_
    intro a16 t17 ht17
    extract_lets +onlyGivenNames x18
    clear_value x18
    extract_lets +onlyGivenNames x19
    have hx19 : z.Keeps x19 := Chip.modHart_keeps (Chip.resetRange_keeps ht17)
    clear_value x19
    exact (Chip.Keeps.same hx19 rfl rfl rfl rfl)
  clear_value x15
  extract_lets +onlyGivenNames x20
  clear_value x20
  extract_lets +onlyGivenNames x21
  clear_value x21
  extract_lets +onlyGivenNames x22
  extract_lets +onlyGivenNames x23
  extract_lets +onlyGivenNames x24
  have hx24 : z.Keeps x24 := ⟨fun w => Chip.wf_filterMem (hx15.wf w), List.filter_sublist.trans hx15.posted⟩
  clear_value x24
  exact Chip.refreshHolds_keeps (.each (Chip.hwRegion_keeps (Chip.semRegion_keeps hx24)) (fun a25 t26 ht26 => Chip.demandBegins_keeps ht26))

theorem Chip.regionReset_keeps {z : Chip} {p1 : Chip} {p2 : ℕ} {p3 : Field} (hp1 : z.Keeps p1) : z.Keeps (Chip.regionReset p1 p2 p3) := by
  unfold Chip.regionReset
  extract_lets +onlyGivenNames x1
  have hx1 : z.Keeps x1 := Chip.put_keeps hp1
  clear_value x1
  extract_lets +onlyGivenNames x2
  have hx2 : z.Keeps x2 := Chip.record_keeps hx1
  clear_value x2
  exact Chip.regionDown_keeps hx2

theorem Chip.rgnAsked_keeps {z : Chip} {p1 : Chip} {p2 : ℕ} {p3 : Field} (hp1 : z.Keeps p1) : z.Keeps (Chip.rgnAsked p1 p2 p3) := by
  unfold Chip.rgnAsked
  exact .ite hp1 (Chip.regionReset_keeps hp1)

theorem Chip.rstCtlWrite_keeps {z : Chip} {p1 : Chip} {p2 : ℕ} (hp1 : z.Keeps p1) : z.Keeps (Chip.rstCtlWrite p1 p2) := by
  unfold Chip.rstCtlWrite
  refine .ite hp1 ?_
  refine .ite (Chip.tryRelease_keeps (Chip.dieReset_keeps hp1)) ?_
  extract_lets +onlyGivenNames x1
  have hx1 : z.Keeps x1 := .ite (Chip.rgnAsked_keeps hp1) hp1
  clear_value x1
  exact .ite (Chip.rgnAsked_keeps hx1) hx1

theorem Chip.tokenReject_keeps {z : Chip} {p1 : Chip} {p2 : ℕ} (hp1 : z.Keeps p1) : z.Keeps (Chip.tokenReject p1 p2) := by
  unfold Chip.tokenReject
  exact Chip.note_keeps (Chip.put_keeps (Chip.set_keeps hp1))

theorem Chip.tokenWrite_keeps {z : Chip} {p1 : Chip} {p2 : ℕ} (hp1 : z.Keeps p1) : z.Keeps (Chip.tokenWrite p1 p2) := by
  unfold Chip.tokenWrite
  extract_lets +onlyGivenNames x1
  clear_value x1
  exact .ite hp1 (.ite (Chip.note_keeps (Chip.set_keeps hp1)) (.ite (Chip.tokenReject_keeps hp1) (Chip.put_keeps (Chip.modCfg_keeps hp1))))

theorem Chip.testHolds_keeps {z : Chip} {p1 : Chip} {p2 : ℕ} (hp1 : z.Keeps p1) : z.Keeps (Chip.testHolds p1 p2) := by
  unfold Chip.testHolds
  exact .each hp1 (fun a1 t2 ht2 => Chip.demandBegins_keeps ht2)

theorem Chip.showSt_keeps {z : Chip} {p1 : Chip} (hp1 : z.Keeps p1) : z.Keeps (Chip.showSt p1) := by
  unfold Chip.showSt
  exact Chip.put_keeps hp1

theorem Chip.fullStart_keeps {z : Chip} {p1 : Chip} {p2 : ℕ} (hp1 : z.Keeps p1) : z.Keeps (Chip.fullStart p1 p2) := by
  unfold Chip.fullStart
  extract_lets +onlyGivenNames x1
  clear_value x1
  refine .ite hp1 ?_
  refine .ite (Chip.refuse_keeps hp1) ?_
  extract_lets +onlyGivenNames x2
  have hx2 : z.Keeps x2 := Chip.modCfg_keeps (Chip.put_keeps hp1)
  clear_value x2
  exact Chip.testHolds_keeps (Chip.regionDown_keeps (Chip.record_keeps (Chip.showSt_keeps hx2)))

theorem Chip.repairStart_keeps {z : Chip} {p1 : Chip} (hp1 : z.Keeps p1) : z.Keeps (Chip.repairStart p1) := by
  unfold Chip.repairStart
  extract_lets +onlyGivenNames x1
  clear_value x1
  exact .ite hp1 (.ite (Chip.refuse_keeps hp1) (Chip.showSt_keeps (Chip.put_keeps hp1)))

theorem Chip.stWrite_keeps {z : Chip} {p1 : Chip} {p2 : ℕ} (hp1 : z.Keeps p1) : z.Keeps (Chip.stWrite p1 p2) := by
  unfold Chip.stWrite
  extract_lets +onlyGivenNames x1
  have hx1 : z.Keeps x1 := .ite (Chip.fullStart_keeps hp1) hp1
  clear_value x1
  extract_lets +onlyGivenNames x2
  have hx2 : z.Keeps x2 := .ite (Chip.fullStart_keeps hx1) hx1
  clear_value x2
  exact .ite (Chip.repairStart_keeps hx2) hx2

theorem Chip.cfgWrite_keeps {z : Chip} {p1 : Chip} {p2 : ℕ} {p3 : ℕ} (hp1 : z.Keeps p1) : z.Keeps (Chip.cfgWrite p1 p2 p3) := by
  unfold Chip.cfgWrite
  exact .ite (Chip.rstCtlWrite_keeps hp1) (.ite (Chip.bankWrite_keeps hp1) (.ite (Chip.arbWrite_keeps hp1) (.ite (Chip.tokenWrite_keeps hp1) (.ite (Chip.stWrite_keeps hp1) (Chip.genericWrite_keeps hp1)))))

theorem Chip.gpioDrive_keeps {z : Chip} {p1 : Chip} (hp1 : z.Keeps p1) : z.Keeps (Chip.gpioDrive p1) := by
  unfold Chip.gpioDrive
  extract_lets +onlyGivenNames x1
  clear_value x1
  extract_lets +onlyGivenNames x2
  clear_value x2
  exact Chip.modCfg_keeps hp1

theorem Chip.gpioOut_keeps {z : Chip} {p1 : Chip} {p2 : ℕ} (hp1 : z.Keeps p1) : z.Keeps (Chip.gpioOut p1 p2) := by
  unfold Chip.gpioOut
  exact Chip.gpioDrive_keeps (Chip.set_keeps hp1)

theorem Chip.gpioWrite_keeps {z : Chip} {p1 : Chip} {p2 : ℕ} {p3 : ℕ} (hp1 : z.Keeps p1) : z.Keeps (Chip.gpioWrite p1 p2 p3) := by
  unfold Chip.gpioWrite
  extract_lets +onlyGivenNames x1
  clear_value x1
  exact .ite (Chip.gpioOut_keeps hp1) (.ite (Chip.gpioOut_keeps hp1) (.ite (Chip.gpioOut_keeps hp1) (.ite (Chip.gpioDrive_keeps (Chip.set_keeps hp1)) (Chip.genericWrite_keeps hp1))))

theorem Chip.blockWrite_keeps {z : Chip} {p1 : Chip} {p2 : Requester} {p3 : ℕ} {p4 : ℕ} (hp1 : z.Keeps p1) : z.Keeps (Chip.blockWrite p1 p2 p3 p4) := by
  unfold Chip.blockWrite
  extract_lets +onlyGivenNames x1
  clear_value x1
  exact .ite (Chip.clusterWrite_keeps hp1) (.ite (Chip.pwmWrite_keeps hp1) (.ite (Chip.islWrite_keeps hp1) (.ite (Chip.adcWrite_keeps hp1) (.ite (Chip.posWrite_keeps hp1) (.ite (Chip.safeWrite_keeps hp1) (.ite (Chip.chmWrite_keeps hp1) (.ite (.ite (Chip.canBlockWrite_keeps hp1) (Chip.porchWrite_keeps hp1)) (.ite (.ite (Chip.ringBlockWrite_keeps hp1) (Chip.genericWrite_keeps hp1)) (.ite (Chip.hwWrite_keeps hp1) (.ite (Chip.coreWrite_keeps hp1) (.ite (Chip.powerWrite_keeps hp1) (.ite (Chip.cfgWrite_keeps hp1) (.ite (Chip.Keeps.same hp1 rfl rfl rfl rfl) (.ite (Chip.hole_keeps hp1) (Chip.gpioWrite_keeps hp1)))))))))))))))

theorem Chip.markIslands_keeps {z : Chip} {p1 : Chip} (hp1 : z.Keeps p1) : z.Keeps (Chip.markIslands p1) := by
  unfold Chip.markIslands
  exact .each hp1 (fun a1 t2 ht2 => .ite (Chip.set_keeps (Chip.modIsl_keeps ht2)) (.ite (Chip.modIsl_keeps ht2) ht2))

theorem Chip.safetyWords_keeps {z : Chip} {p1 : Chip} {p2 : ℕ} (hp1 : z.Keeps p1) : z.Keeps (Chip.safetyWords p1 p2) := by
  unfold Chip.safetyWords
  exact Chip.sets_keeps hp1

theorem Chip.bootAccept_keeps {z : Chip} {p1 : Chip} {p2 : ℕ} {p3 : Bool} (hp1 : z.Keeps p1) : z.Keeps (Chip.bootAccept p1 p2 p3) := by
  unfold Chip.bootAccept
  extract_lets +onlyGivenNames x1
  extract_lets +onlyGivenNames x2
  have hx2 : z.Keeps x2 := (Chip.Keeps.same hp1 rfl rfl rfl rfl)
  clear_value x2
  extract_lets +onlyGivenNames x3
  have hx3 : z.Keeps x3 := Chip.set_keeps hx2
  clear_value x3
  extract_lets +onlyGivenNames x4
  have hx4 : z.Keeps x4 := Chip.sets_keeps hx3
  clear_value x4
  extract_lets +onlyGivenNames x5
  clear_value x5
  extract_lets +onlyGivenNames x6
  clear_value x6
  extract_lets +onlyGivenNames x7
  clear_value x7
  extract_lets +onlyGivenNames x8
  have hx8 : z.Keeps x8 := .ite (Chip.put_keeps hx4) hx4
  clear_value x8
  extract_lets +onlyGivenNames x9
  have hx9 : z.Keeps x9 := Chip.showReq_keeps (Chip.modPwr_keeps hx8)
  clear_value x9
  extract_lets +onlyGivenNames x10
  have hx10 : z.Keeps x10 := .each hx9 (fun a11 t12 ht12 => Chip.modRgn_keeps ht12)
  clear_value x10
  exact .each (Chip.markIslands_keeps hx10) (fun a13 t14 ht14 => Chip.safetyWords_keeps ht14)

theorem Chip.bootEnd_keeps {z : Chip} {p1 : Chip} {p2 : Bool} {p3 : ℕ} (hp1 : z.Keeps p1) : z.Keeps (Chip.bootEnd p1 p2 p3) := by
  unfold Chip.bootEnd
  split
  · exact hp1
  · rename_i y3 q4
    extract_lets +onlyGivenNames x5
    have hx5 : z.Keeps x5 := Chip.put_keeps (Chip.dropWrite_keeps (Chip.modCfg_keeps hp1))
    clear_value x5
    exact .ite (Chip.put_keeps (Chip.bootStore_keeps hx5)) (Chip.note_keeps (Chip.put_keeps hx5))

theorem Chip.haltPartner_keeps {z : Chip} {p1 : Chip} {p2 : ℕ} {p3 : ℕ} (hp1 : z.Keeps p1) : z.Keeps (Chip.haltPartner p1 p2 p3) := by
  unfold Chip.haltPartner
  refine .ite ?_ hp1
  extract_lets +onlyGivenNames x1
  clear_value x1
  exact Chip.stand_keeps hp1

theorem Chip.slotFail_keeps {z : Chip} {p1 : Chip} {p2 : ℕ} {p3 : ℕ} {p4 : ℕ} (hp1 : z.Keeps p1) : z.Keeps (Chip.slotFail p1 p2 p3 p4) := by
  unfold Chip.slotFail
  extract_lets +onlyGivenNames x1
  have hx1 : z.Keeps x1 := Chip.record_keeps hp1
  clear_value x1
  extract_lets +onlyGivenNames x2
  have hx2 : z.Keeps x2 := Chip.put_keeps hx1
  clear_value x2
  extract_lets +onlyGivenNames x3
  have hx3 : z.Keeps x3 := Chip.record_keeps hx2
  clear_value x3
  exact Chip.refreshHolds_keeps (Chip.haltPartner_keeps (Chip.modRgn_keeps hx3))

theorem Chip.repairRows_keeps {z : Chip} {p1 : List (Fin 16 × ℕ)} {p2 : Chip} (hp2 : z.Keeps p2) :
    z.Keeps (Chip.repairRows p1 p2).1 := by
  induction p1 generalizing p2 with
  | nil => exact hp2
  | cons a l ih => exact .iteP hp2 (ih (Chip.note_keeps (Chip.modCfg_keeps hp2)))

theorem Chip.showSpares_keeps {z : Chip} {p1 : Chip} (hp1 : z.Keeps p1) : z.Keeps (Chip.showSpares p1) := by
  unfold Chip.showSpares
  exact Chip.set_keeps hp1

theorem Chip.storeRepairs_keeps {z : Chip} {p1 : Chip} (hp1 : z.Keeps p1) : z.Keeps (Chip.storeRepairs p1) := by
  unfold Chip.storeRepairs
  extract_lets +onlyGivenNames x1
  exact Chip.useFree_keeps (Chip.setBytes_keeps (Chip.setBytes_keeps hp1))

theorem Chip.repairsWritten_keeps {z : Chip} {p1 : Chip} (hp1 : z.Keeps p1) : z.Keeps (Chip.repairsWritten p1) := by
  unfold Chip.repairsWritten
  exact Chip.storeRepairs_keeps (Chip.modCfg_keeps (Chip.dropWrite_keeps hp1))

theorem Chip.repairsSubmit_keeps {z : Chip} {p1 : Chip} (hp1 : z.Keeps p1) : z.Keeps (Chip.repairsSubmit p1) := by
  unfold Chip.repairsSubmit
  refine .ite hp1 ?_
  extract_lets +onlyGivenNames x1
  have hx1 : z.Keeps x1 := Chip.submitWrite_keeps hp1
  clear_value x1
  exact .ite (Chip.repairsWritten_keeps hx1) hx1

theorem Chip.slotTests_keeps {z : Chip} {p1 : Chip} {p2 : ℕ} {p3 : SlotOutcome} (hp1 : z.Keeps p1) : z.Keeps (Chip.slotTests p1 p2 p3).1 := by
  unfold Chip.slotTests
  refine .iteP (.fst (Chip.set_keeps (Chip.slotFail_keeps hp1))) ?_
  extract_lets +onlyGivenNames x1
  clear_value x1
  extract_lets +onlyGivenNames x2
  have hx2 : z.Keeps x2.1 := by
    unfold x2
    exact Chip.repairRows_keeps hp1
  clear_value x2
  extract_lets +onlyGivenNames x3
  have hx3 : z.Keeps x3 := hx2
  clear_value x3
  extract_lets +onlyGivenNames x4
  extract_lets +onlyGivenNames x5
  have hx5 : z.Keeps x5 := Chip.showSpares_keeps (.ite (Chip.repairsSubmit_keeps hx3) hx3)
  clear_value x5
  split
  · exact .fst (Chip.set_keeps (Chip.slotFail_keeps hx5))
  · exact .fst (Chip.set_keeps hx5)

theorem Chip.fabricLoad_keeps {z : Chip} {p1 : Chip} {p2 : ℕ} (hp1 : z.Keeps p1) : z.Keeps (Chip.fabricLoad p1 p2) := by
  unfold Chip.fabricLoad
  split
  · exact Chip.setBytes_keeps hp1
  · exact hp1

theorem Chip.eccFresh_keeps {z : Chip} {p1 : Chip} {p2 : ℕ} {p3 : ℕ} (hp1 : z.Keeps p1) : z.Keeps (Chip.eccFresh p1 p2 p3) := by
  unfold Chip.eccFresh
  exact (Chip.Keeps.same hp1 rfl rfl rfl rfl)

theorem Chip.copySection_keeps {z : Chip} {p1 : Chip} {p2 : ℕ} {p3 : Section} (hp1 : z.Keeps p1) : z.Keeps (Chip.copySection p1 p2 p3) := by
  unfold Chip.copySection
  extract_lets +onlyGivenNames x1
  refine .ite ?_ (.ite (Chip.eccFresh_keeps (Chip.setBytes_keeps (Chip.eccFresh_keeps (Chip.setBytes_keeps hp1)))) hp1)
  extract_lets +onlyGivenNames x2
  clear_value x2
  exact Chip.eccFresh_keeps (Chip.setBytes_keeps hp1)

theorem Chip.regionOpen_keeps {z : Chip} {p1 : Chip} {p2 : ℕ} (hp1 : z.Keeps p1) : z.Keeps (Chip.regionOpen p1 p2) := by
  unfold Chip.regionOpen
  extract_lets +onlyGivenNames x1
  have hx1 : z.Keeps x1 := Chip.put_keeps (Chip.modRgn_keeps hp1)
  clear_value x1
  exact .each hx1 (fun a2 t3 ht3 => Chip.motorWords_keeps ht3)

theorem Chip.unitWord_keeps {z : Chip} {p1 : Chip} {p2 : ℕ} {p3 : ℕ} (hp1 : z.Keeps p1) : z.Keeps (Chip.unitWord p1 p2 p3) := by
  unfold Chip.unitWord
  extract_lets +onlyGivenNames x1
  clear_value x1
  exact .ite (Chip.hostwrWrite_keeps hp1) (.ite (Chip.blockWrite_keeps hp1) (.ite (Chip.configWrite_keeps hp1) (.ite (Chip.refreshHolds_keeps (Chip.configWord_keeps hp1)) (.ite (Chip.configWord_keeps hp1) (Chip.blockWrite_keeps hp1)))))

theorem Chip.unitWords_keeps {z : Chip} {p1 : ℕ → Bool} {p2 : ℕ} {p3 : List ℕ} {p4 : Chip} (hp4 : z.Keeps p4) :
    z.Keeps (Chip.unitWords p1 p2 p3 p4) := by
  induction p3 generalizing p2 p4 with
  | nil => exact hp4
  | cons d l ih => exact ih (.ite (Chip.unitWord_keeps hp4) hp4)

theorem Chip.rawStart_keeps {z : Chip} {p1 : Chip} {p2 : ℕ} (hp1 : z.Keeps p1) : z.Keeps (Chip.rawStart p1 p2) := by
  unfold Chip.rawStart
  split
  · rename_i y1 y2 q3
    extract_lets +onlyGivenNames x4
    clear_value x4
    extract_lets +onlyGivenNames x5
    have hx5 : z.Keeps x5 := Chip.modSlice_keeps hp1
    clear_value x5
    exact Chip.restartOutputs_keeps hx5

theorem Chip.joinCarrier_keeps {z : Chip} {p1 : Chip} {p2 : ℕ} (hp1 : z.Keeps p1) : z.Keeps (Chip.joinCarrier p1 p2) := by
  unfold Chip.joinCarrier
  extract_lets +onlyGivenNames x1
  clear_value x1
  extract_lets +onlyGivenNames x2
  have hx2 : z.Keeps x2 := Chip.sets_keeps (Chip.accrue_keeps hp1)
  clear_value x2
  exact Chip.modSlice_keeps hx2

theorem Chip.startCarrier_keeps {z : Chip} {p1 : Chip} {p2 : ℕ} (hp1 : z.Keeps p1) : z.Keeps (Chip.startCarrier p1 p2) := by
  unfold Chip.startCarrier
  extract_lets +onlyGivenNames x1
  have hx1 : z.Keeps x1 := Chip.put_keeps (Chip.accrue_keeps hp1)
  clear_value x1
  extract_lets +onlyGivenNames x2
  have hx2 : z.Keeps x2 := Chip.set_keeps (Chip.set_keeps hx1)
  clear_value x2
  exact Chip.modSlice_keeps hx2

theorem Chip.skipReload_keeps {z : Chip} {p1 : Chip} {p2 : ℕ} (hp1 : z.Keeps p1) : z.Keeps (Chip.skipReload p1 p2) := by
  unfold Chip.skipReload
  extract_lets +onlyGivenNames x1
  clear_value x1
  extract_lets +onlyGivenNames x2
  have hx2 : z.Keeps x2 := Chip.modSlice_keeps hp1
  clear_value x2
  refine .ite ?_ hx2
  extract_lets +onlyGivenNames x3
  have hx3 : z.Keeps x3 := Chip.put_keeps (Chip.modSlice_keeps hx2)
  clear_value x3
  exact Chip.record_keeps hx3

theorem Chip.startGate_keeps {z : Chip} {p1 : Chip} {p2 : ℕ} (hp1 : z.Keeps p1) : z.Keeps (Chip.startGate p1 p2) := by
  unfold Chip.startGate
  split
  · exact .ite (Chip.setGate_keeps hp1) hp1
  · exact hp1

theorem Chip.takeShadows_keeps {z : Chip} {p1 : Chip} {p2 : ℕ} {p3 : Bool} (hp1 : z.Keeps p1) : z.Keeps (Chip.takeShadows p1 p2 p3) := by
  unfold Chip.takeShadows
  extract_lets +onlyGivenNames x1
  have hx1 : z.Keeps x1 := Chip.copyShadows_keeps hp1
  clear_value x1
  extract_lets +onlyGivenNames x2
  clear_value x2
  extract_lets +onlyGivenNames x3
  have hx3 : z.Keeps x3 := .ite (Chip.modSlice_keeps (Chip.set_keeps hx1)) hx1
  clear_value x3
  exact Chip.modSlice_keeps hx3

theorem Chip.releaseHeld_keeps {z : Chip} {p1 : Chip} {p2 : ℕ} (hp1 : z.Keeps p1) : z.Keeps (Chip.releaseHeld p1 p2) := by
  unfold Chip.releaseHeld
  exact .ite (Chip.restartOutputs_keeps (Chip.modSlice_keeps hp1)) hp1

theorem Chip.reloadPoint_keeps {z : Chip} {p1 : Chip} {p2 : ℕ} {p3 : Bool} (hp1 : z.Keeps p1) : z.Keeps (Chip.reloadPoint p1 p2 p3) := by
  unfold Chip.reloadPoint
  extract_lets +onlyGivenNames x1
  clear_value x1
  extract_lets +onlyGivenNames x2
  have hx2 : z.Keeps x2 := .ite (Chip.skipReload_keeps hp1) (Chip.startGate_keeps (Chip.takeShadows_keeps hp1))
  clear_value x2
  extract_lets +onlyGivenNames x3
  clear_value x3
  extract_lets +onlyGivenNames x4
  have hx4 : z.Keeps x4 := .ite (Chip.put_keeps hx2) hx2
  clear_value x4
  extract_lets +onlyGivenNames x5
  have hx5 : z.Keeps x5 := Chip.releaseHeld_keeps hx4
  clear_value x5
  exact .ite (Chip.restartOutputs_keeps hx5) hx5

theorem Chip.startSlice_keeps {z : Chip} {p1 : Chip} {p2 : ℕ} (hp1 : z.Keeps p1) : z.Keeps (Chip.startSlice p1 p2) := by
  unfold Chip.startSlice
  extract_lets +onlyGivenNames x1
  have hx1 : z.Keeps x1 := Chip.modSlice_keeps hp1
  clear_value x1
  extract_lets +onlyGivenNames x2
  refine .ite (Chip.checkSlice_keeps (Chip.showHiz_keeps (Chip.rawStart_keeps (Chip.joinCarrier_keeps hx1)))) ?_
  extract_lets +onlyGivenNames x3
  have hx3 : z.Keeps x3 := Chip.syncCheck_keeps (Chip.startCarrier_keeps hx1)
  clear_value x3
  extract_lets +onlyGivenNames x4
  have hx4 : z.Keeps x4 := .ite (Chip.setGate_keeps hx3) hx3
  clear_value x4
  extract_lets +onlyGivenNames x5
  have hx5 : z.Keeps x5 := Chip.reloadPoint_keeps (Chip.put_keeps hx4)
  clear_value x5
  exact Chip.checkSlice_keeps (Chip.showHiz_keeps (Chip.rawStart_keeps hx5))

theorem Chip.startCarriers_keeps {z : Chip} {p1 : Chip} {p2 : ℕ} (hp1 : z.Keeps p1) : z.Keeps (Chip.startCarriers p1 p2) := by
  unfold Chip.startCarriers
  exact .each hp1 (fun a1 t2 ht2 => Chip.startSlice_keeps ht2)

theorem Chip.regionUp_keeps {z : Chip} {p1 : Chip} {p2 : ℕ} (hp1 : z.Keeps p1) : z.Keeps (Chip.regionUp p1 p2) := by
  unfold Chip.regionUp
  extract_lets +onlyGivenNames x1
  have hx1 : z.Keeps x1 := by
    unfold x1
    refine .each hp1 ?_
    intro a2 t3 ht3
    extract_lets +onlyGivenNames x4
    have hx4 : z.Keeps x4 := Chip.put_keeps (Chip.showLists_keeps ht3)
    clear_value x4
    exact Chip.modCl_keeps hx4
  clear_value x1
  extract_lets +onlyGivenNames x5
  have hx5 : z.Keeps x5 := .each hx1 (fun a6 t7 ht7 => Chip.modSlice_keeps ht7)
  clear_value x5
  extract_lets +onlyGivenNames x8
  have hx8 : z.Keeps x8 := Chip.startCarriers_keeps hx5
  clear_value x8
  exact Chip.refreshHolds_keeps (.each hx8 (fun a9 t10 ht10 => Chip.modCl_keeps ht10))

theorem Chip.slotRest_keeps {z : Chip} {p1 : Chip} {p2 : ℕ} {p3 : SlotOutcome} {p4 : ℕ → Bool} (hp1 : z.Keeps p1) : z.Keeps (Chip.slotRest p1 p2 p3 p4).1 := by
  unfold Chip.slotRest
  extract_lets +onlyGivenNames x1
  clear_value x1
  split
  · exact .fst (Chip.slotFail_keeps hp1)
  · exact .fst (Chip.slotFail_keeps hp1)
  · extract_lets +onlyGivenNames x12
    have hx12 : z.Keeps x12 := .each (Chip.fabricLoad_keeps hp1) (fun a13 t14 ht14 => Chip.copySection_keeps ht14)
    clear_value x12
    extract_lets +onlyGivenNames x15
    have hx15 : z.Keeps x15 := .each hx12 (fun a16 t17 ht17 => Chip.modAge_keeps (Chip.set_keeps ht17))
    clear_value x15
    extract_lets +onlyGivenNames x18
    have hx18 : z.Keeps x18 := .each (Chip.regionOpen_keeps hx15) (fun a19 t20 ht20 => Chip.unitWords_keeps ht20)
    clear_value x18
    extract_lets +onlyGivenNames x21
    have hx21 : z.Keeps x21 := Chip.regionUp_keeps hx18
    clear_value x21
    extract_lets +onlyGivenNames x22
    clear_value x22
    extract_lets +onlyGivenNames x23
    have hx23 : z.Keeps x23 := .each hx21 (fun a24 t25 ht25 => Chip.modHart_keeps ht25)
    clear_value x23
    exact .fst (Chip.put_keeps hx23)

theorem Chip.regionSlot_keeps {z : Chip} {p1 : Chip} {p2 : ℕ} {p3 : SlotOutcome} {p4 : Bool} (hp1 : z.Keeps p1) : z.Keeps (Chip.regionSlot p1 p2 p3 p4) := by
  unfold Chip.regionSlot
  extract_lets +onlyGivenNames x1
  have hx1 : z.Keeps x1.1 := by
    unfold x1
    exact Chip.slotTests_keeps (Chip.isoAssert_keeps hp1)
  clear_value x1
  refine .ite ?_ hx1
  extract_lets +onlyGivenNames x2
  have hx2 : z.Keeps x2 := hx1
  clear_value x2
  exact Chip.slotRest_keeps hx2

theorem Chip.cmpTest_keeps {z : Chip} {p1 : Chip} {p2 : List ℕ} {p3 : List (Fin 16 × Fin 4)} (hp1 : z.Keeps p1) : z.Keeps (Chip.cmpTest p1 p2 p3) := by
  unfold Chip.cmpTest
  extract_lets +onlyGivenNames x1
  have hx1 : z.Keeps x1 := .each hp1 (fun a2 t3 ht3 => Chip.clrBitOf_keeps ht3)
  clear_value x1
  refine .each hx1 ?_
  intro a4 t5 ht5
  extract_lets +onlyGivenNames x6
  clear_value x6
  refine .ite ht5 ?_
  extract_lets +onlyGivenNames x7
  have hx7 : z.Keeps x7 := Chip.setBitOf_keeps ht5
  clear_value x7
  extract_lets +onlyGivenNames x8
  clear_value x8
  split
  · exact Chip.faultCl_keeps hx7
  · exact Chip.record_keeps hx7

theorem Chip.diffTest_keeps {z : Chip} {p1 : Chip} {p2 : ℕ} {p3 : ℕ} (hp1 : z.Keeps p1) : z.Keeps (Chip.diffTest p1 p2 p3) := by
  unfold Chip.diffTest
  extract_lets +onlyGivenNames x1
  extract_lets +onlyGivenNames x2
  refine .ite (Chip.set_keeps hp1) ?_
  refine .ite (Chip.modRgn_keeps (Chip.sets_keeps hp1)) ?_
  extract_lets +onlyGivenNames x3
  have hx3 : z.Keeps x3 := Chip.modRgn_keeps (Chip.sets_keeps hp1)
  clear_value x3
  exact Chip.faultAll_keeps hx3

theorem Chip.handshakeStop_keeps {z : Chip} {p1 : Chip} {p2 : ℕ} (hp1 : z.Keeps p1) : z.Keeps (Chip.handshakeStop p1 p2) := by
  unfold Chip.handshakeStop
  exact Chip.calibrateDue_keeps (Chip.modIsl_keeps hp1)

theorem Chip.handshakeFail_keeps {z : Chip} {p1 : Chip} {p2 : ℕ} (hp1 : z.Keeps p1) : z.Keeps (Chip.handshakeFail p1 p2) := by
  unfold Chip.handshakeFail
  extract_lets +onlyGivenNames x1
  have hx1 : z.Keeps x1 := Chip.islShow_keeps (Chip.handshakeStop_keeps (Chip.modIsl_keeps hp1))
  clear_value x1
  extract_lets +onlyGivenNames x2
  have hx2 : z.Keeps x2 := Chip.put_keeps hx1
  clear_value x2
  split
  · exact Chip.faultCl_keeps hx2
  · exact Chip.record_keeps hx2

theorem Chip.handshakeDone_keeps {z : Chip} {p1 : Chip} {p2 : ℕ} (hp1 : z.Keeps p1) : z.Keeps (Chip.handshakeDone p1 p2) := by
  unfold Chip.handshakeDone
  extract_lets +onlyGivenNames x1
  have hx1 : z.Keeps x1 := Chip.modIsl_keeps hp1
  clear_value x1
  extract_lets +onlyGivenNames x2
  have hx2 : z.Keeps x2 := Chip.islShow_keeps hx1
  clear_value x2
  extract_lets +onlyGivenNames x3
  have hx3 : z.Keeps x3 := Chip.sets_keeps hx2
  clear_value x3
  split
  · exact Chip.tryLeaveSafe_keeps hx3
  · exact hx3

theorem Chip.ownTake_keeps {z : Chip} {p1 : Chip} {p2 : ℕ} {p3 : ℕ} (hp1 : z.Keeps p1) : z.Keeps (Chip.ownTake p1 p2 p3) := by
  unfold Chip.ownTake
  extract_lets +onlyGivenNames x1
  clear_value x1
  exact Chip.modIsl_keeps hp1

theorem Chip.mirrorsIn_keeps {z : Chip} {p1 : Chip} {p2 : ℕ} (hp1 : z.Keeps p1) : z.Keeps (Chip.mirrorsIn p1 p2) := by
  unfold Chip.mirrorsIn
  extract_lets +onlyGivenNames x1
  have hx1 : z.Keeps x1 := .each hp1 (fun a2 t3 ht3 => Chip.ownTake_keeps ht3)
  clear_value x1
  extract_lets +onlyGivenNames x4
  have hx4 : z.Keeps x4 := Chip.modIsl_keeps hx1
  clear_value x4
  exact Chip.clamp_keeps (Chip.put_keeps hx4)

theorem Chip.handshakeWhole_keeps {z : Chip} {p1 : Chip} {p2 : ℕ} (hp1 : z.Keeps p1) : z.Keeps (Chip.handshakeWhole p1 p2) := by
  unfold Chip.handshakeWhole
  exact Chip.handshakeDone_keeps (Chip.mirrorsIn_keeps hp1)

theorem Chip.slotHandshake_keeps {z : Chip} {p1 : Chip} {p2 : List ℕ} {p3 : TestOutcome} (hp1 : z.Keeps p1) : z.Keeps (Chip.slotHandshake p1 p2 p3) := by
  unfold Chip.slotHandshake
  refine .ite hp1 ?_
  extract_lets +onlyGivenNames x1
  extract_lets +onlyGivenNames x2
  have hx2 : z.Keeps x2 := .each hp1 (fun a3 t4 ht4 => Chip.modIsl_keeps ht4)
  clear_value x2
  extract_lets +onlyGivenNames x5
  extract_lets +onlyGivenNames x6
  extract_lets +onlyGivenNames x7
  extract_lets +onlyGivenNames x8
  have hx8 : z.Keeps x8 := .each hx2 (fun a9 t10 ht10 => Chip.handshakeFail_keeps ht10)
  clear_value x8
  extract_lets +onlyGivenNames x11
  have hx11 : z.Keeps x11 := Chip.calibrateAll_keeps hx8
  clear_value x11
  exact .each hx11 (fun a12 t13 ht13 => Chip.handshakeWhole_keeps ht13)

theorem Chip.heldRun_keeps {z : Chip} {p1 : Chip} {p2 : ℕ} (hp1 : z.Keeps p1) : z.Keeps (Chip.heldRun p1 p2) := by
  unfold Chip.heldRun
  extract_lets +onlyGivenNames x1
  have hx1 : z.Keeps x1 := Chip.refall_keeps hp1
  clear_value x1
  exact .ite (Chip.startRun_keeps hx1) hx1

theorem Chip.bootRegions_keeps {z : Chip} {p1 : Chip} {p2 : BootOutcome} (hp1 : z.Keeps p1) : z.Keeps (Chip.bootRegions p1 p2) := by
  unfold Chip.bootRegions
  extract_lets +onlyGivenNames x1
  clear_value x1
  extract_lets +onlyGivenNames x2
  extract_lets +onlyGivenNames x3
  have hx3 : z.Keeps x3 := Chip.modPwr_keeps hp1
  clear_value x3
  extract_lets +onlyGivenNames x4
  have hx4 : z.Keeps x4 := .each hx3 (fun a5 t6 ht6 => Chip.put_keeps ht6)
  clear_value x4
  extract_lets +onlyGivenNames x7
  have hx7 : z.Keeps x7 := .each hx4 (fun a8 t9 ht9 => Chip.regionSlot_keeps ht9)
  clear_value x7
  extract_lets +onlyGivenNames x10
  extract_lets +onlyGivenNames x11
  have hx11 : z.Keeps x11 := Chip.modCfg_keeps hx7
  clear_value x11
  extract_lets +onlyGivenNames x12
  have hx12 : z.Keeps x12 := Chip.cmpTest_keeps hx11
  clear_value x12
  extract_lets +onlyGivenNames x13
  have hx13 : z.Keeps x13 := .each hx12 (fun a14 t15 ht15 => Chip.diffTest_keeps ht15)
  clear_value x13
  extract_lets +onlyGivenNames x16
  have hx16 : z.Keeps x16 := Chip.slotHandshake_keeps hx13
  clear_value x16
  extract_lets +onlyGivenNames x17
  have hx17 : z.Keeps x17 := Chip.sets_keeps hx16
  clear_value x17
  extract_lets +onlyGivenNames x18
  have hx18 : z.Keeps x18 := Chip.applyContactors_keeps (Chip.modCfg_keeps hx17)
  clear_value x18
  extract_lets +onlyGivenNames x19
  have hx19 : z.Keeps x19 := Chip.refreshHolds_keeps (.each hx18 (fun a20 t21 ht21 => Chip.heldRun_keeps ht21))
  clear_value x19
  exact .each hx19 (fun a22 t23 ht23 => .ite (Chip.lateStart_keeps ht23) ht23)

theorem Chip.bootImage_keeps {z : Chip} {p1 : Chip} {p2 : BootOutcome} (hp1 : z.Keeps p1) : z.Keeps (Chip.bootImage p1 p2) := by
  unfold Chip.bootImage
  split
  · rename_i y1 y2 y3 q4
    have hy1 : z.Keeps y1 := by
      have hh := congrArg Prod.fst q4
      dsimp only at hh
      rw [← hh]
      exact Chip.bankChoice_keeps hp1
    extract_lets +onlyGivenNames x5
    clear_value x5
    refine .ite (Chip.bootRegions_keeps (Chip.bootAccept_keeps hy1)) ?_
    extract_lets +onlyGivenNames x6
    have hx6 : z.Keeps x6 := Chip.note_keeps (Chip.set_keeps hy1)
    clear_value x6
    extract_lets +onlyGivenNames x7
    clear_value x7
    refine .ite (Chip.bootRegions_keeps (Chip.bootAccept_keeps hx6)) ?_
    extract_lets +onlyGivenNames x8
    have hx8 : z.Keeps x8 := Chip.sets_keeps hx6
    clear_value x8
    extract_lets +onlyGivenNames x9
    have hx9 : z.Keeps x9 := Chip.set_keeps (Chip.modCfg_keeps hx8)
    clear_value x9
    extract_lets +onlyGivenNames x10
    have hx10 : z.Keeps x10 := Chip.modPwr_keeps hx9
    clear_value x10
    exact Chip.faultEvery_keeps hx10

theorem Chip.newNonce_keeps {z : Chip} {p1 : Chip} (hp1 : z.Keeps p1) : z.Keeps (Chip.newNonce p1) := by
  unfold Chip.newNonce
  extract_lets +onlyGivenNames x1
  have hx1 : z.Keeps x1 := Chip.useFree_keeps (Chip.set_keeps hp1)
  clear_value x1
  exact Chip.useFree_keeps (Chip.set_keeps hx1)

theorem Chip.bootStepTwo_keeps {z : Chip} {p1 : Chip} (hp1 : z.Keeps p1) : z.Keeps (Chip.bootStepTwo p1) := by
  unfold Chip.bootStepTwo
  extract_lets +onlyGivenNames x1
  clear_value x1
  extract_lets +onlyGivenNames x2
  extract_lets +onlyGivenNames x3
  extract_lets +onlyGivenNames x4
  have hx4 : z.Keeps x4 := Chip.sets_keeps hp1
  clear_value x4
  extract_lets +onlyGivenNames x5
  have hx5 : z.Keeps x5 := .each hx4 (fun a6 t7 ht7 => Chip.record_keeps ht7)
  clear_value x5
  extract_lets +onlyGivenNames x8
  have hx8 : z.Keeps x8 := .ite (Chip.note_keeps hx5) hx5
  clear_value x8
  extract_lets +onlyGivenNames x9
  have hx9 : z.Keeps x9 := .each hx8 (fun a10 t11 ht11 => Chip.note_keeps ht11)
  clear_value x9
  extract_lets +onlyGivenNames x12
  have hx12 : z.Keeps x12 := Chip.modCfg_keeps hx9
  clear_value x12
  extract_lets +onlyGivenNames x13
  clear_value x13
  exact Chip.newNonce_keeps (Chip.sets_keeps hx12)

theorem Chip.bootRun_keeps {z : Chip} {p1 : Chip} {p2 : BootOutcome} (hp1 : z.Keeps p1) : z.Keeps (Chip.bootRun p1 p2) := by
  unfold Chip.bootRun
  extract_lets +onlyGivenNames x1
  have hx1 : z.Keeps x1 := Chip.bootStepTwo_keeps hp1
  clear_value x1
  split
  · rename_i y2 q3
    extract_lets +onlyGivenNames x4
    have hx4 : z.Keeps x4 := Chip.modCfg_keeps (Chip.set_keeps hx1)
    clear_value x4
    exact Chip.faultEvery_keeps (Chip.modPwr_keeps hx4)
  · exact Chip.bootImage_keeps hx1

theorem Chip.bsNote_keeps {z : Chip} {p1 : Chip} {p2 : ℕ} {p3 : ℕ} (hp1 : z.Keeps p1) : z.Keeps (Chip.bsNote p1 p2 p3) := by
  unfold Chip.bsNote
  exact .ite hp1 (Chip.record_keeps (Chip.put_keeps hp1))

theorem Chip.busOff_keeps {z : Chip} {p1 : Chip} {p2 : ℕ} {p3 : ℕ} (hp1 : z.Keeps p1) : z.Keeps (Chip.busOff p1 p2 p3) := by
  unfold Chip.busOff
  extract_lets +onlyGivenNames x1
  have hx1 : z.Keeps x1 := Chip.sets_keeps hp1
  clear_value x1
  extract_lets +onlyGivenNames x2
  have hx2 : z.Keeps x2 := Chip.note_keeps hx1
  clear_value x2
  extract_lets +onlyGivenNames x3
  have hx3 : z.Keeps x3 := Chip.modCan_keeps hx2
  clear_value x3
  extract_lets +onlyGivenNames x4
  have hx4 : z.Keeps x4 := Chip.bufsEnd_keeps hx3
  clear_value x4
  exact .ite (Chip.modPort_keeps (Chip.sesFailAll_keeps hx4)) hx4

theorem Chip.hostDenied_keeps {z : Chip} {p1 : Chip} {p2 : ℕ} (hp1 : z.Keeps p1) : z.Keeps (Chip.hostDenied p1 p2) := by
  unfold Chip.hostDenied
  extract_lets +onlyGivenNames x1
  have hx1 : z.Keeps x1 := Chip.sets_keeps (Chip.modHw_keeps hp1)
  clear_value x1
  exact Chip.note_keeps hx1

theorem Chip.flagWrite_keeps {z : Chip} {p1 : Chip} {p2 : Requester} {p3 : ℕ} {p4 : ℕ} (hp1 : z.Keeps p1) : z.Keeps (Chip.flagWrite p1 p2 p3 p4) := by
  unfold Chip.flagWrite
  exact .ite (Chip.ownViolation_keeps hp1) (Chip.flagPut_keeps hp1)

theorem Chip.discard_keeps {z : Chip} {p1 : Chip} {p2 : Requester} {p3 : ℕ} {p4 : Bool} {p5 : ℕ} (hp1 : z.Keeps p1) : z.Keeps (Chip.discard p1 p2 p3 p4 p5) := by
  unfold Chip.discard
  extract_lets +onlyGivenNames x1
  have hx1 : z.Keeps x1 := Chip.sets_keeps hp1
  clear_value x1
  extract_lets +onlyGivenNames x2
  have hx2 : z.Keeps x2 := Chip.firstNote_keeps hx1
  clear_value x2
  split
  · exact Chip.privateSrc_keeps hx2
  · exact hx2

theorem Chip.reachGate_keeps {z : Chip} {p1 : Chip} {p2 : ℕ} (hp1 : z.Keeps p1) : z.Keeps (Chip.reachGate p1 p2) := by
  unfold Chip.reachGate
  split
  · exact .ite (Chip.openGate_keeps hp1) hp1
  · exact hp1

theorem Chip.landWrite_keeps {z : Chip} {p1 : Chip} {p2 : Requester} {p3 : ℕ} {p4 : ℕ} (hp1 : z.Keeps p1) : z.Keeps (Chip.landWrite p1 p2 p3 p4) := by
  unfold Chip.landWrite
  extract_lets +onlyGivenNames x1
  extract_lets +onlyGivenNames x2
  extract_lets +onlyGivenNames x3
  have hx3 : z.Keeps x3 := (Chip.Keeps.same hp1 rfl rfl rfl rfl)
  clear_value x3
  extract_lets +onlyGivenNames x4
  have hx4 : z.Keeps x4 := Chip.blockWrite_keeps hx3
  clear_value x4
  exact .each hx4 (fun a5 t6 ht6 => Chip.blockWrite_keeps ht6)

theorem Chip.regWrite_keeps {z : Chip} {p1 : Chip} {p2 : Requester} {p3 : ℕ} {p4 : ℕ} (hp1 : z.Keeps p1) : z.Keeps (Chip.regWrite p1 p2 p3 p4) := by
  unfold Chip.regWrite
  refine .ite (Chip.discard_keeps hp1) ?_
  extract_lets +onlyGivenNames x1
  have hx1 : z.Keeps x1 := Chip.reachGate_keeps hp1
  clear_value x1
  split
  · exact .ite (Chip.Keeps.same hx1 rfl rfl rfl rfl) (Chip.landWrite_keeps hx1)
  · exact Chip.landWrite_keeps hx1

theorem Chip.hostEffect_keeps {z : Chip} {p1 : Chip} {p2 : ℕ} {p3 : ℕ} {p4 : ℕ} (hp1 : z.Keeps p1) : z.Keeps (Chip.hostEffect p1 p2 p3 p4) := by
  unfold Chip.hostEffect
  split
  · exact Chip.hostDenied_keeps hp1
  · rename_i y3 q4
    extract_lets +onlyGivenNames x5
    clear_value x5
    exact .ite (Chip.ownViolation_keeps hp1) (Chip.setBytes_keeps hp1)
  · exact .ite (Chip.flagWrite_keeps hp1) (Chip.hostDenied_keeps hp1)
  · exact .ite (Chip.regWrite_keeps hp1) (Chip.hostDenied_keeps hp1)

theorem Chip.setEcc_keeps {z : Chip} {p1 : Chip} {p2 : ℕ} {p3 : ℕ} (hp1 : z.Keeps p1) : z.Keeps (Chip.setEcc p1 p2 p3) := by
  unfold Chip.setEcc
  exact (Chip.Keeps.same hp1 rfl rfl rfl rfl)

theorem Chip.eccWritten_keeps {z : Chip} {p1 : Chip} {p2 : ℕ} (hp1 : z.Keeps p1) : z.Keeps (Chip.eccWritten p1 p2) := by
  unfold Chip.eccWritten
  extract_lets +onlyGivenNames x1
  clear_value x1
  extract_lets +onlyGivenNames x2
  clear_value x2
  exact .ite (Chip.put_keeps (Chip.setEcc_keeps hp1)) (Chip.setEcc_keeps hp1)

theorem Chip.storeWord_keeps {z : Chip} {p1 : Chip} {p2 : Requester} {p3 : ℕ} {p4 : ℕ} {p5 : List Byte} (hp1 : z.Keeps p1) : z.Keeps (Chip.storeWord p1 p2 p3 p4 p5) := by
  unfold Chip.storeWord
  refine .ite (Chip.setBytes_keeps hp1) ?_
  refine .ite (Chip.discard_keeps hp1) ?_
  extract_lets +onlyGivenNames x1
  have hx1 : z.Keeps x1 := Chip.setBytes_keeps hp1
  clear_value x1
  split
  · exact Chip.eccWritten_keeps hx1
  · exact Chip.setEcc_keeps hx1

theorem Chip.flagStore_keeps {z : Chip} {p1 : Chip} {p2 : Requester} {p3 : ℕ} {p4 : ℕ} {p5 : ℕ} (hp1 : z.Keeps p1) : z.Keeps (Chip.flagStore p1 p2 p3 p4 p5) := by
  unfold Chip.flagStore
  exact .ite (Chip.flagWrite_keeps hp1) hp1

theorem Chip.swapCancel_keeps {z : Chip} {p1 : Chip} {p2 : ℕ} {p3 : ℕ} (hp1 : z.Keeps p1) : z.Keeps (Chip.swapCancel p1 p2 p3) := by
  unfold Chip.swapCancel
  refine .ite hp1 ?_
  extract_lets +onlyGivenNames x1
  have hx1 : z.Keeps x1 := Chip.put_keeps (Chip.setBitOf_keeps (Chip.putSwap_keeps hp1))
  clear_value x1
  extract_lets +onlyGivenNames x2
  have hx2 : z.Keeps x2 := .ite (Chip.modCl_keeps hx1) hx1
  clear_value x2
  exact Chip.noteCl_keeps hx2

theorem Chip.ldrStore_keeps {z : Chip} {p1 : Chip} {p2 : ℕ} {p3 : List Byte} (hp1 : z.Keeps p1) : z.Keeps (Chip.ldrStore p1 p2 p3) := by
  unfold Chip.ldrStore
  extract_lets +onlyGivenNames x1
  clear_value x1
  extract_lets +onlyGivenNames x2
  clear_value x2
  split
  · exact Chip.setBytes_keeps hp1
  · exact .ite (Chip.ldrRefuse_keeps hp1) (.ite (Chip.ldrRefuse_keeps hp1) (Chip.setBytes_keeps (Chip.swapCancel_keeps hp1)))

theorem Chip.storeRun_keeps {z : Chip} {p1 : Chip} {p2 : Requester} {p3 : ℕ} {p4 : List Byte} (hp1 : z.Keeps p1) : z.Keeps (Chip.storeRun p1 p2 p3 p4) := by
  unfold Chip.storeRun
  exact .each hp1 (fun a1 t2 ht2 => Chip.storeWord_keeps ht2)

theorem Chip.coreEffect_keeps {z : Chip} {p1 : Chip} {p2 : Requester} {p3 : ℕ} {p4 : ℕ} {p5 : ℕ} (hp1 : z.Keeps p1) : z.Keeps (Chip.coreEffect p1 p2 p3 p4 p5) := by
  unfold Chip.coreEffect
  refine .ite ?_ (.ite (Chip.setBytes_keeps hp1) (.ite (Chip.flagStore_keeps hp1) (.ite (Chip.ldrStore_keeps (Chip.reachGate_keeps hp1)) (.ite (Chip.regWrite_keeps hp1) (Chip.storeRun_keeps hp1)))))
  split
  · exact Chip.storeWord_keeps hp1
  · exact hp1

theorem Chip.effect_keeps {z : Chip} {p1 : Chip} {p2 : Posted} (hp1 : z.Keeps p1) : z.Keeps (Chip.effect p1 p2) := by
  unfold Chip.effect
  exact .ite (Chip.hostEffect_keeps hp1) (Chip.coreEffect_keeps hp1)

theorem Chip.effectAt_keeps {z : Chip} {p1 : Chip} {p2 : ℕ} (hp1 : z.Keeps p1) : z.Keeps (Chip.effectAt p1 p2) := by
  unfold Chip.effectAt
  split
  · refine Chip.effect_keeps ⟨fun x => ?_, (List.eraseIdx_sublist _ _).trans hp1.posted⟩
    exact hp1.wf x
  · exact hp1

theorem Chip.canConf_keeps {z : Chip} {p1 : Chip} {p2 : ℕ} (hp1 : z.Keeps p1) : z.Keeps (Chip.canConf p1 p2) := by
  unfold Chip.canConf
  extract_lets +onlyGivenNames x1
  clear_value x1
  extract_lets +onlyGivenNames x2
  clear_value x2
  extract_lets +onlyGivenNames x3
  clear_value x3
  exact .ite hp1 (.ite (.ite hp1 (Chip.note_keeps (Chip.sets_keeps hp1))) (Chip.set_keeps hp1))

theorem Chip.txRetry_keeps {z : Chip} {p1 : Chip} {p2 : ℕ} (hp1 : z.Keeps p1) : z.Keeps (Chip.txRetry p1 p2) := by
  unfold Chip.txRetry
  split
  · exact hp1
  · rename_i y3 y4 q5
    extract_lets +onlyGivenNames x6
    clear_value x6
    extract_lets +onlyGivenNames x7
    have hx7 : z.Keeps x7 := Chip.modCan_keeps hp1
    clear_value x7
    exact .ite (Chip.bufEnd_keeps hx7) (.ite (Chip.bufEnd_keeps hx7) hx7)

theorem Chip.canError_keeps {z : Chip} {p1 : Chip} {p2 : ℕ} {p3 : CanError} (hp1 : z.Keeps p1) : z.Keeps (Chip.canError p1 p2 p3) := by
  unfold Chip.canError
  refine .ite hp1 ?_
  extract_lets +onlyGivenNames x1
  clear_value x1
  extract_lets +onlyGivenNames x2
  have hx2 : z.Keeps x2 := Chip.sets_keeps hp1
  clear_value x2
  extract_lets +onlyGivenNames x3
  have hx3 : z.Keeps x3 := Chip.modCan_keeps hx2
  clear_value x3
  refine .ite (.ite (Chip.txRetry_keeps hx3) hx3) ?_
  extract_lets +onlyGivenNames x4
  clear_value x4
  extract_lets +onlyGivenNames x5
  clear_value x5
  refine .ite ?_ ?_
  · extract_lets +onlyGivenNames x6
    clear_value x6
    extract_lets +onlyGivenNames x7
    clear_value x7
    extract_lets +onlyGivenNames x8
    clear_value x8
    extract_lets +onlyGivenNames x9
    have hx9 : z.Keeps x9 := .ite (Chip.ackError_keeps hx3) hx3
    clear_value x9
    extract_lets +onlyGivenNames x10
    have hx10 : z.Keeps x10 := .ite (Chip.busOff_keeps hx9) (Chip.txRetry_keeps (Chip.canConf_keeps (Chip.set_keeps hx9)))
    clear_value x10
    exact .ite (Chip.bitErrorSeen_keeps hx10) hx10
  · extract_lets +onlyGivenNames x11
    clear_value x11
    exact Chip.canConf_keeps (Chip.set_keeps hx3)

theorem Chip.recLower_keeps {z : Chip} {p1 : Chip} {p2 : ℕ} (hp1 : z.Keeps p1) : z.Keeps (Chip.recLower p1 p2) := by
  unfold Chip.recLower
  extract_lets +onlyGivenNames x1
  clear_value x1
  exact .ite hp1 (.ite (Chip.canConf_keeps (Chip.set_keeps hp1)) (Chip.canConf_keeps (Chip.useFree_keeps (Chip.set_keeps hp1))))

theorem Chip.fifoPut_keeps {z : Chip} {p1 : Chip} {p2 : ℕ} {p3 : RxFrame} (hp1 : z.Keeps p1) : z.Keeps (Chip.fifoPut p1 p2 p3) := by
  unfold Chip.fifoPut
  refine .ite ?_ ?_
  · extract_lets +onlyGivenNames x1
    have hx1 : z.Keeps x1 := Chip.bump_keeps hp1
    clear_value x1
    exact Chip.firstNote_keeps hx1
  · extract_lets +onlyGivenNames x2
    have hx2 : z.Keeps x2 := Chip.modCan_keeps hp1
    clear_value x2
    exact Chip.sets_keeps hx2

theorem Chip.hpPut_keeps {z : Chip} {p1 : Chip} {p2 : ℕ} {p3 : RxFrame} (hp1 : z.Keeps p1) : z.Keeps (Chip.hpPut p1 p2 p3) := by
  unfold Chip.hpPut
  extract_lets +onlyGivenNames x1
  have hx1 : z.Keeps x1 := .ite (Chip.put_keeps (Chip.bump_keeps hp1)) hp1
  clear_value x1
  exact Chip.put_keeps (Chip.modCan_keeps hx1)

theorem Chip.safeMsg_keeps {z : Chip} {p1 : Chip} {p2 : ℕ} {p3 : ℕ} {p4 : List Byte} (hp1 : z.Keeps p1) : z.Keeps (Chip.safeMsg p1 p2 p3 p4) := by
  unfold Chip.safeMsg
  extract_lets +onlyGivenNames x1
  clear_value x1
  extract_lets +onlyGivenNames x2
  clear_value x2
  extract_lets +onlyGivenNames x3
  clear_value x3
  extract_lets +onlyGivenNames x4
  clear_value x4
  extract_lets +onlyGivenNames x5
  clear_value x5
  refine .ite hp1 ?_
  split
  · exact Chip.modPorch_keeps hp1
  · rename_i y8 y9 q10
    extract_lets +onlyGivenNames x11
    clear_value x11
    extract_lets +onlyGivenNames x12
    have hx12 : z.Keeps x12 := .ite hp1 (Chip.modPorch_keeps hp1)
    clear_value x12
    refine .ite hx12 ?_
    extract_lets +onlyGivenNames x13
    have hx13 : z.Keeps x13 := Chip.modCl_keeps hx12
    clear_value x13
    exact .ite (Chip.ss1Begin_keeps hx13) (.ite (Chip.pcSto_keeps hx13) (Chip.set_keeps hx13))

theorem Chip.claimLost_keeps {z : Chip} {p1 : Chip} {p2 : ℕ} (hp1 : z.Keeps p1) : z.Keeps (Chip.claimLost p1 p2) := by
  unfold Chip.claimLost
  extract_lets +onlyGivenNames x1
  clear_value x1
  extract_lets +onlyGivenNames x2
  split
  · exact Chip.claimAt_keeps (Chip.note_keeps hp1)
  · extract_lets +onlyGivenNames x7
    have hx7 : z.Keeps x7 := Chip.sesFailAll_keeps (Chip.note_keeps hp1)
    clear_value x7
    extract_lets +onlyGivenNames x8
    have hx8 : z.Keeps x8 := Chip.modPort_keeps (Chip.useFree_keeps hx7)
    clear_value x8
    exact Chip.portSet_keeps hx8

theorem Chip.claimRx_keeps {z : Chip} {p1 : Chip} {p2 : ℕ} {p3 : ℕ} {p4 : ℕ} (hp1 : z.Keeps p1) : z.Keeps (Chip.claimRx p1 p2 p3 p4) := by
  unfold Chip.claimRx
  extract_lets +onlyGivenNames x1
  clear_value x1
  extract_lets +onlyGivenNames x2
  clear_value x2
  extract_lets +onlyGivenNames x3
  have hx3 : z.Keeps x3 := .ite hp1 (Chip.modPort_keeps hp1)
  clear_value x3
  exact .ite hx3 (.ite (Chip.claimSend_keeps (Chip.addrConflict_keeps hx3)) (.ite (Chip.claimLost_keeps (Chip.note_keeps hx3)) (Chip.claimLost_keeps hx3)))

theorem Chip.statusSend_keeps {z : Chip} {p1 : Chip} {p2 : ℕ} {p3 : ℕ} {p4 : Bool} (hp1 : z.Keeps p1) : z.Keeps (Chip.statusSend p1 p2 p3 p4) := by
  unfold Chip.statusSend
  extract_lets +onlyGivenNames x1
  clear_value x1
  extract_lets +onlyGivenNames x2
  extract_lets +onlyGivenNames x3
  have hx3 : z.Keeps x3 := .ite (Chip.useFree_keeps hp1) hp1
  clear_value x3
  exact Chip.porchSend_keeps (Chip.modPort_keeps hx3)

theorem Chip.requestRx_keeps {z : Chip} {p1 : Chip} {p2 : ℕ} {p3 : ℕ} {p4 : ℕ} {p5 : ℕ} (hp1 : z.Keeps p1) : z.Keeps (Chip.requestRx p1 p2 p3 p4 p5) := by
  unfold Chip.requestRx
  extract_lets +onlyGivenNames x1
  clear_value x1
  extract_lets +onlyGivenNames x2
  clear_value x2
  refine .ite (.ite (Chip.claimSend_keeps hp1) (.ite (Chip.cannotSend_keeps hp1) hp1)) ?_
  refine .ite hp1 ?_
  extract_lets +onlyGivenNames x3
  clear_value x3
  split
  · exact Chip.statusSend_keeps hp1
  · refine .ite ?_ (.ite (Chip.ackSend_keeps hp1) hp1)
    refine .ite (.ite (Chip.ackSend_keeps hp1) hp1) ?_
    extract_lets +onlyGivenNames x8
    have hx8 : z.Keeps x8 := Chip.sets_keeps hp1
    clear_value x8
    exact Chip.modPorch_keeps hx8

theorem Chip.sesCts_keeps {z : Chip} {p1 : Chip} {p2 : ℕ} (hp1 : z.Keeps p1) : z.Keeps (Chip.sesCts p1 p2) := by
  unfold Chip.sesCts
  extract_lets +onlyGivenNames x1
  extract_lets +onlyGivenNames x2
  clear_value x2
  extract_lets +onlyGivenNames x3
  clear_value x3
  extract_lets +onlyGivenNames x4
  have hx4 : z.Keeps x4 := Chip.modSes_keeps hp1
  clear_value x4
  extract_lets +onlyGivenNames x5
  exact Chip.tpCm_keeps hx4

theorem Chip.rxOpen_keeps {z : Chip} {p1 : Chip} {p2 : ℕ} {p3 : ℕ} {p4 : ℕ} {p5 : ℕ} {p6 : ℕ} {p7 : ℕ} {p8 : Bool} {p9 : Bool} (hp1 : z.Keeps p1) : z.Keeps (Chip.rxOpen p1 p2 p3 p4 p5 p6 p7 p8 p9) := by
  unfold Chip.rxOpen
  extract_lets +onlyGivenNames x1
  have hx1 : z.Keeps x1 := Chip.sets_keeps hp1
  clear_value x1
  extract_lets +onlyGivenNames x2
  have hx2 : z.Keeps x2 := Chip.modSes_keeps hx1
  clear_value x2
  exact .ite hx2 (Chip.sesCts_keeps hx2)

theorem Chip.tpCmRx_keeps {z : Chip} {p1 : Chip} {p2 : ℕ} {p3 : Bool} {p4 : ℕ} {p5 : ℕ} {p6 : List Byte} (hp1 : z.Keeps p1) : z.Keeps (Chip.tpCmRx p1 p2 p3 p4 p5 p6) := by
  unfold Chip.tpCmRx
  extract_lets +onlyGivenNames x1
  clear_value x1
  extract_lets +onlyGivenNames x2
  clear_value x2
  extract_lets +onlyGivenNames x3
  refine .ite hp1 ?_
  refine .ite ?_ ?_
  · split
    · exact .ite (Chip.sesEnd_keeps hp1) hp1
    · exact hp1
  · refine .ite ?_ ?_
    · extract_lets +onlyGivenNames x8
      clear_value x8
      refine .ite (Chip.tpAbort_keeps hp1) ?_
      refine .ite (Chip.tpAbort_keeps hp1) ?_
      refine .ite (Chip.tpAbort_keeps hp1) ?_
      split
      · exact Chip.rxOpen_keeps hp1
      · exact Chip.tpAbort_keeps hp1
    · refine .ite ?_ ?_
      · refine .ite hp1 ?_
        split
        · exact .ite (Chip.rxOpen_keeps hp1) hp1
        · exact Chip.bump_keeps hp1
      · refine .ite ?_ ?_
        · extract_lets +onlyGivenNames x17
          clear_value x17
          refine .ite (Chip.tpAbort_keeps hp1) ?_
          split
          · exact Chip.rxOpen_keeps hp1
          · exact Chip.tpAbort_keeps hp1
        · refine .ite ?_ ?_
          · split
            · exact hp1
            · rename_i y24 q25
              extract_lets +onlyGivenNames x26
              clear_value x26
              extract_lets +onlyGivenNames x27
              clear_value x27
              refine .ite hp1 ?_
              refine .ite (Chip.modSes_keeps hp1) ?_
              refine .ite hp1 ?_
              extract_lets +onlyGivenNames x28
              extract_lets +onlyGivenNames x29
              clear_value x29
              refine .ite (Chip.sesAbort_keeps hp1) ?_
              extract_lets +onlyGivenNames x30
              extract_lets +onlyGivenNames x31
              have hx31 : z.Keeps x31 := Chip.modSes_keeps hp1
              clear_value x31
              exact .ite (Chip.tpCm_keeps hx31) (Chip.sesData_keeps hx31)
          · refine .ite ?_ ?_
            · split
              · exact .ite (Chip.sesEnd_keeps hp1) hp1
              · exact hp1
            · refine .ite ?_ hp1
              split
              · exact .ite (Chip.modSes_keeps hp1) hp1
              · exact hp1

theorem Chip.commanded_keeps {z : Chip} {p1 : Chip} {p2 : ℕ} {p3 : ℕ} {p4 : ℕ} (hp1 : z.Keeps p1) : z.Keeps (Chip.commanded p1 p2 p3 p4) := by
  unfold Chip.commanded
  refine .ite ?_ hp1
  extract_lets +onlyGivenNames x1
  clear_value x1
  exact Chip.claimAt_keeps (Chip.modPort_keeps (Chip.note_keeps hp1))

theorem Chip.tpDtRx_keeps {z : Chip} {p1 : Chip} {p2 : ℕ} {p3 : Bool} {p4 : ℕ} {p5 : ℕ} {p6 : List Byte} (hp1 : z.Keeps p1) : z.Keeps (Chip.tpDtRx p1 p2 p3 p4 p5 p6) := by
  unfold Chip.tpDtRx
  split
  · exact hp1
  · rename_i y3 q4
    extract_lets +onlyGivenNames x5
    extract_lets +onlyGivenNames x6
    clear_value x6
    extract_lets +onlyGivenNames x7
    clear_value x7
    refine .ite hp1 ?_
    refine .ite ?_ ?_
    · refine .ite (Chip.sesEnd_keeps hp1) ?_
      extract_lets +onlyGivenNames x8
      clear_value x8
      exact .ite (Chip.sesAbort_keeps hp1) (Chip.sesCts_keeps (Chip.modSes_keeps hp1))
    · extract_lets +onlyGivenNames x9
      clear_value x9
      extract_lets +onlyGivenNames x10
      have hx10 : z.Keeps x10 := Chip.setBytes_keeps hp1
      clear_value x10
      extract_lets +onlyGivenNames x11
      have hx11 : z.Keeps x11 := Chip.modSes_keeps hx10
      clear_value x11
      refine .ite ?_ (.ite (Chip.sesCts_keeps hx11) hx11)
      extract_lets +onlyGivenNames x12
      clear_value x12
      extract_lets +onlyGivenNames x13
      have hx13 : z.Keeps x13 := .ite hx11 (.ite (Chip.tpCm_keeps hx11) (Chip.tpCm_keeps hx11))
      clear_value x13
      extract_lets +onlyGivenNames x14
      have hx14 : z.Keeps x14 := Chip.sesEnd_keeps hx13
      clear_value x14
      exact .ite (Chip.commanded_keeps hx14) hx14

theorem Chip.cmdCheck_keeps {z : Chip} {p1 : Chip} {p2 : ℕ} {p3 : ℕ} {p4 : ℕ} (hp1 : z.Keeps p1) : z.Keeps (Chip.cmdCheck p1 p2 p3 p4) := by
  unfold Chip.cmdCheck
  exact Chip.note_keeps hp1

theorem Chip.cmdReject_keeps {z : Chip} {p1 : Chip} {p2 : ℕ} {p3 : ℕ} {p4 : ℕ} {p5 : ℕ} (hp1 : z.Keeps p1) : z.Keeps (Chip.cmdReject p1 p2 p3 p4 p5) := by
  unfold Chip.cmdReject
  exact Chip.cmdCheck_keeps (Chip.bump_keeps hp1)

theorem Chip.checkedRx_keeps {z : Chip} {p1 : Chip} {p2 : ℕ} {p3 : ℕ} {p4 : List Byte} (hp1 : z.Keeps p1) : z.Keeps (Chip.checkedRx p1 p2 p3 p4) := by
  unfold Chip.checkedRx
  extract_lets +onlyGivenNames x1
  clear_value x1
  extract_lets +onlyGivenNames x2
  clear_value x2
  extract_lets +onlyGivenNames x3
  clear_value x3
  extract_lets +onlyGivenNames x4
  clear_value x4
  refine .ite (Chip.cmdCheck_keeps (Chip.ackSend_keeps hp1)) ?_
  refine .ite (Chip.cmdReject_keeps hp1) ?_
  extract_lets +onlyGivenNames x5
  clear_value x5
  extract_lets +onlyGivenNames x6
  clear_value x6
  split
  · exact Chip.modPort_keeps hp1
  · rename_i y9 y10 q11
    extract_lets +onlyGivenNames x12
    clear_value x12
    refine .ite (Chip.cmdReject_keeps hp1) ?_
    extract_lets +onlyGivenNames x13
    have hx13 : z.Keeps x13 := Chip.modPort_keeps hp1
    clear_value x13
    refine .ite (Chip.cmdReject_keeps hx13) ?_
    extract_lets +onlyGivenNames x14
    clear_value x14
    extract_lets +onlyGivenNames x15
    have hx15 : z.Keeps x15 := .ite (Chip.set_keeps hx13) (.ite (Chip.set_keeps hx13) (Chip.set_keeps hx13))
    clear_value x15
    extract_lets +onlyGivenNames x16
    have hx16 : z.Keeps x16 := Chip.setBitOf_keeps (Chip.set_keeps hx15)
    clear_value x16
    extract_lets +onlyGivenNames x17
    have hx17 : z.Keeps x17 := Chip.modPorch_keeps hx16
    clear_value x17
    extract_lets +onlyGivenNames x18
    have hx18 : z.Keeps x18 := Chip.modPort_keeps hx17
    clear_value x18
    exact Chip.put_keeps hx18

theorem Chip.porchRx_keeps {z : Chip} {p1 : Chip} {p2 : ℕ} {p3 : CanFrame} (hp1 : z.Keeps p1) : z.Keeps (Chip.porchRx p1 p2 p3) := by
  unfold Chip.porchRx
  refine .ite hp1 ?_
  extract_lets +onlyGivenNames x1
  clear_value x1
  extract_lets +onlyGivenNames x2
  clear_value x2
  split
  · rename_i y3 y4 q5
    extract_lets +onlyGivenNames x6
    clear_value x6
    extract_lets +onlyGivenNames x7
    have hx7 : z.Keeps x7 := .ite (Chip.claimSend_keeps (Chip.addrConflict_keeps hp1)) hp1
    clear_value x7
    extract_lets +onlyGivenNames x8
    clear_value x8
    exact .ite (.ite (Chip.claimRx_keeps hx7) hx7) (.ite hx7 (.ite (.ite (Chip.requestRx_keeps hx7) hx7) (.ite (.ite (Chip.tpCmRx_keeps hx7) hx7) (.ite (.ite (Chip.tpDtRx_keeps hx7) hx7) (.ite (Chip.checkedRx_keeps hx7) hx7)))))

theorem Chip.frameRx_keeps {z : Chip} {p1 : Chip} {p2 : ℕ} {p3 : CanFrame} {p4 : ℕ} {p5 : Bool} (hp1 : z.Keeps p1) : z.Keeps (Chip.frameRx p1 p2 p3 p4 p5) := by
  unfold Chip.frameRx
  extract_lets +onlyGivenNames x1
  clear_value x1
  extract_lets +onlyGivenNames x2
  extract_lets +onlyGivenNames x3
  clear_value x3
  extract_lets +onlyGivenNames x4
  clear_value x4
  extract_lets +onlyGivenNames x5
  clear_value x5
  extract_lets +onlyGivenNames x6
  have hx6 : z.Keeps x6 := by
    unfold x6
    refine .ite hp1 ?_
    split
    · exact Chip.fifoPut_keeps hp1
    · exact Chip.hpPut_keeps hp1
    · exact hp1
  clear_value x6
  exact .ite (Chip.safeMsg_keeps (Chip.hpPut_keeps hx6)) (.ite hx6 (Chip.porchRx_keeps hx6))

theorem Chip.canRx_keeps {z : Chip} {p1 : Chip} {p2 : ℕ} {p3 : CanFrame} {p4 : ℕ} (hp1 : z.Keeps p1) : z.Keeps (Chip.canRx p1 p2 p3 p4) := by
  unfold Chip.canRx
  refine .ite hp1 ?_
  refine .ite (Chip.canError_keeps hp1) ?_
  extract_lets +onlyGivenNames x1
  have hx1 : z.Keeps x1 := Chip.modCan_keeps hp1
  clear_value x1
  extract_lets +onlyGivenNames x2
  have hx2 : z.Keeps x2 := .ite hx1 (Chip.recLower_keeps hx1)
  clear_value x2
  exact Chip.frameRx_keeps hx2

theorem Chip.canStop_keeps {z : Chip} {p1 : Chip} (hp1 : z.Keeps p1) : z.Keeps (Chip.canStop p1) := by
  unfold Chip.canStop
  refine .each hp1 ?_
  intro a1 t2 ht2
  extract_lets +onlyGivenNames x3
  have hx3 : z.Keeps x3 := Chip.bufsEnd_keeps ht2
  clear_value x3
  exact .ite (Chip.sesFailAll_keeps hx3) hx3

theorem Chip.fluxStart_keeps {z : Chip} {p1 : Chip} {p2 : ℕ} (hp1 : z.Keeps p1) : z.Keeps (Chip.fluxStart p1 p2) := by
  unfold Chip.fluxStart
  exact Chip.set_keeps (Chip.modCl_keeps (Chip.useFree_keeps hp1))

theorem Chip.preloadOne_keeps {z : Chip} {p1 : Chip} {p2 : ℕ} {p3 : ℕ} {p4 : ℕ} (hp1 : z.Keeps p1) : z.Keeps (Chip.preloadOne p1 p2 p3 p4) := by
  unfold Chip.preloadOne
  split
  · rename_i y1 q2
    extract_lets +onlyGivenNames x3
    clear_value x3
    extract_lets +onlyGivenNames x4
    clear_value x4
    exact Chip.modCle_keeps hp1
  · exact hp1

theorem Chip.preload_keeps {z : Chip} {p1 : Chip} {p2 : ℕ} {p3 : ℕ} {p4 : ℕ} (hp1 : z.Keeps p1) : z.Keeps (Chip.preload p1 p2 p3 p4).1 := by
  unfold Chip.preload
  extract_lets +onlyGivenNames x1
  have hx1 : z.Keeps x1 := .each hp1 (fun a2 t3 ht3 => Chip.modCle_keeps (Chip.preloadOne_keeps (Chip.preloadOne_keeps ht3)))
  clear_value x1
  extract_lets +onlyGivenNames x4
  clear_value x4
  exact .iteP (.fst hx1) (.fst (Chip.faultCl_keeps (Chip.put_keeps hx1)))

theorem Chip.catchStart_keeps {z : Chip} {p1 : Chip} {p2 : ℕ} {p3 : ℕ} {p4 : ℕ} {p5 : Bool} (hp1 : z.Keeps p1) : z.Keeps (Chip.catchStart p1 p2 p3 p4 p5) := by
  unfold Chip.catchStart
  extract_lets +onlyGivenNames x1
  have hx1 : z.Keeps x1 := Chip.sets_keeps hp1
  clear_value x1
  split
  · rename_i y2 y3 q4
    have hy2 : z.Keeps y2 := by
      have hh := congrArg Prod.fst q4
      dsimp only at hh
      rw [← hh]
      exact Chip.preload_keeps hx1
    refine .ite ?_ hy2
    extract_lets +onlyGivenNames x5
    have hx5 : z.Keeps x5 := Chip.sets_keeps hy2
    clear_value x5
    exact Chip.modCl_keeps (Chip.enter_keeps hx5)

theorem Chip.catchLock_keeps {z : Chip} {p1 : Chip} {p2 : ℕ} {p3 : ℕ} {p4 : ℕ} {p5 : Bool} (hp1 : z.Keeps p1) : z.Keeps (Chip.catchLock p1 p2 p3 p4 p5) := by
  unfold Chip.catchLock
  extract_lets +onlyGivenNames x1
  have hx1 : z.Keeps x1 := Chip.modCl_keeps hp1
  clear_value x1
  split
  · exact hx1
  · rename_i y4 y5 q6
    extract_lets +onlyGivenNames x7
    clear_value x7
    extract_lets +onlyGivenNames x8
    clear_value x8
    extract_lets +onlyGivenNames x9
    have hx9 : z.Keeps x9 := Chip.set_keeps (Chip.set_keeps hx1)
    clear_value x9
    refine .ite ?_ (.ite hx9 (.ite (Chip.fluxStart_keeps hx9) (Chip.catchStart_keeps hx9)))
    extract_lets +onlyGivenNames x10
    have hx10 : z.Keeps x10 := Chip.sets_keeps hx9
    clear_value x10
    extract_lets +onlyGivenNames x11
    have hx11 : z.Keeps x11 := Chip.modCl_keeps hx10
    clear_value x11
    extract_lets +onlyGivenNames x12
    have hx12 : z.Keeps x12 := Chip.noteCl_keeps hx11
    clear_value x12
    exact .ite (Chip.setOvrs_keeps (Chip.set_keeps hx12)) hx12

theorem Chip.catchRestart_keeps {z : Chip} {p1 : Chip} {p2 : ℕ} (hp1 : z.Keeps p1) : z.Keeps (Chip.catchRestart p1 p2) := by
  unfold Chip.catchRestart
  extract_lets +onlyGivenNames x1
  have hx1 : z.Keeps x1 := Chip.sets_keeps hp1
  clear_value x1
  extract_lets +onlyGivenNames x2
  have hx2 : z.Keeps x2 := Chip.modCl_keeps hx1
  clear_value x2
  exact .each hx2 (fun a3 t4 ht4 => Chip.feZero_keeps (Chip.clearLists_keeps ht4))

theorem Chip.catchTrack_keeps {z : Chip} {p1 : Chip} {p2 : ℕ} {p3 : Option (ℕ × ℕ × ℕ)} (hp1 : z.Keeps p1) : z.Keeps (Chip.catchTrack p1 p2 p3) := by
  unfold Chip.catchTrack
  split
  · rename_i y1 y2 y3 q4 q5
    split
    · rename_i y6 y7 q8
      extract_lets +onlyGivenNames x9
      clear_value x9
      extract_lets +onlyGivenNames x10
      clear_value x10
      extract_lets +onlyGivenNames x11
      clear_value x11
      extract_lets +onlyGivenNames x12
      have hx12 : z.Keeps x12 := Chip.modCl_keeps hp1
      clear_value x12
      split
      · exact hx12
      · rename_i y15 y16 q17
        extract_lets +onlyGivenNames x18
        clear_value x18
        extract_lets +onlyGivenNames x19
        clear_value x19
        refine .ite ?_ hx12
        extract_lets +onlyGivenNames x20
        have hx20 : z.Keeps x20 := Chip.put_keeps hx12
        clear_value x20
        extract_lets +onlyGivenNames x21
        have hx21 : z.Keeps x21 := .ite (Chip.setOvrs_keeps (Chip.set_keeps hx20)) hx20
        clear_value x21
        extract_lets +onlyGivenNames x22
        clear_value x22
        exact .ite (Chip.enter_keeps (Chip.setHeld_keeps hx21)) (Chip.catchRestart_keeps hx21)
  · exact hp1

theorem Chip.fluxDone_keeps {z : Chip} {p1 : Chip} {p2 : ℕ} (hp1 : z.Keeps p1) : z.Keeps (Chip.fluxDone p1 p2) := by
  unfold Chip.fluxDone
  extract_lets +onlyGivenNames x1
  have hx1 : z.Keeps x1 := Chip.sets_keeps hp1
  clear_value x1
  split
  · rename_i y2 y3 q4
    have hy2 : z.Keeps y2 := by
      have hh := congrArg Prod.fst q4
      dsimp only at hh
      rw [← hh]
      exact Chip.preload_keeps (Chip.useFree_keeps (Chip.useFree_keeps hx1))
    refine .ite ?_ hy2
    extract_lets +onlyGivenNames x5
    have hx5 : z.Keeps x5 := Chip.sets_keeps hy2
    clear_value x5
    exact Chip.modCl_keeps (Chip.enter_keeps hx5)

theorem Chip.fluxPass_keeps {z : Chip} {p1 : Chip} {p2 : ℕ} {p3 : ℕ} (hp1 : z.Keeps p1) : z.Keeps (Chip.fluxPass p1 p2 p3) := by
  unfold Chip.fluxPass
  exact .ite (Chip.fluxDone_keeps hp1) (Chip.modCl_keeps hp1)

theorem Chip.catchPass_keeps {z : Chip} {p1 : Chip} {p2 : ℕ} {p3 : Option (ℕ × ℕ × ℕ)} (hp1 : z.Keeps p1) : z.Keeps (Chip.catchPass p1 p2 p3) := by
  unfold Chip.catchPass
  refine .ite (Chip.catchTrack_keeps hp1) ?_
  split
  · exact Chip.catchLock_keeps hp1
  · exact Chip.fluxPass_keeps hp1
  · extract_lets +onlyGivenNames x13
    clear_value x13
    extract_lets +onlyGivenNames x14
    have hx14 : z.Keeps x14 := Chip.set_keeps hp1
    clear_value x14
    refine .ite ?_ ?_
    · split
      · rename_i y15 q16
        refine .ite ?_ hx14
        extract_lets +onlyGivenNames x17
        clear_value x17
        extract_lets +onlyGivenNames x18
        clear_value x18
        exact Chip.catchLock_keeps hx14
      · exact hx14
    · refine .ite ?_ hx14
      extract_lets +onlyGivenNames x21
      clear_value x21
      extract_lets +onlyGivenNames x22
      clear_value x22
      split
      · rename_i y23 y24 y25 q26 q27 q28 q29
        split <;> exact Chip.catchLock_keeps hx14
      · exact hx14

theorem Chip.pulseOn_keeps {z : Chip} {p1 : Chip} {p2 : ℕ} (hp1 : z.Keeps p1) : z.Keeps (Chip.pulseOn p1 p2) := by
  unfold Chip.pulseOn
  exact Chip.setOvrs_keeps (Chip.modCl_keeps hp1)

theorem Chip.catchPulse_keeps {z : Chip} {p1 : Chip} {p2 : ℕ} (hp1 : z.Keeps p1) : z.Keeps (Chip.catchPulse p1 p2) := by
  unfold Chip.catchPulse
  extract_lets +onlyGivenNames x1
  extract_lets +onlyGivenNames x2
  clear_value x2
  extract_lets +onlyGivenNames x3
  clear_value x3
  refine .ite ?_ (.ite (Chip.pulseOn_keeps hp1) hp1)
  extract_lets +onlyGivenNames x4
  have hx4 : z.Keeps x4 := Chip.modCl_keeps hp1
  clear_value x4
  exact .ite (Chip.setOvrs_keeps hx4) hx4

theorem Chip.noLock_keeps {z : Chip} {p1 : Chip} {p2 : ℕ} (hp1 : z.Keeps p1) : z.Keeps (Chip.noLock p1 p2) := by
  unfold Chip.noLock
  extract_lets +onlyGivenNames x1
  have hx1 : z.Keeps x1 := Chip.sets_keeps hp1
  clear_value x1
  extract_lets +onlyGivenNames x2
  have hx2 : z.Keeps x2 := Chip.noteCl_keeps hx1
  clear_value x2
  exact Chip.enter_keeps hx2

theorem Chip.catchStandstill_keeps {z : Chip} {p1 : Chip} {p2 : ℕ} (hp1 : z.Keeps p1) : z.Keeps (Chip.catchStandstill p1 p2) := by
  unfold Chip.catchStandstill
  exact .ite (Chip.catchLock_keeps (Chip.obsCaught_keeps (Chip.useFree_keeps hp1))) (Chip.noLock_keeps hp1)

theorem Chip.cellarReset_keeps {z : Chip} {p1 : Chip} {p2 : PowerState} (hp1 : z.Keeps p1) : z.Keeps (Chip.cellarReset p1 p2) := by
  unfold Chip.cellarReset
  extract_lets +onlyGivenNames x1
  have hx1 : z.Keeps x1 := Chip.dieReset_keeps hp1
  clear_value x1
  extract_lets +onlyGivenNames x2
  have hx2 : z.Keeps x2 := Chip.resetRange_keeps hx1
  clear_value x2
  extract_lets +onlyGivenNames x3
  refine ⟨fun x => ?_, hx2.posted⟩
  have k := hx2.wf x
  rw [Chip.wf_iff] at k ⊢
  exact ⟨k.1, k.2.1, k.2.2.1, Nat.zero_le _, k.2.2.2.2⟩

theorem Chip.tally_keeps {z : Chip} {p1 : Chip} {p2 : ℕ} {p3 : ℕ} {p4 : Bool} (hp1 : z.Keeps p1) : z.Keeps (Chip.tally p1 p2 p3 p4).1 := by
  unfold Chip.tally
  extract_lets +onlyGivenNames x1
  extract_lets +onlyGivenNames x2
  clear_value x2
  extract_lets +onlyGivenNames x3
  clear_value x3
  extract_lets +onlyGivenNames x4
  clear_value x4
  extract_lets +onlyGivenNames x5
  clear_value x5
  extract_lets +onlyGivenNames x6
  exact .fst (Chip.modMeas_keeps hp1)

theorem Chip.rbSet_keeps {z : Chip} {p1 : Chip} {p2 : ℕ} {p3 : ℕ} {p4 : ℕ} (hp1 : z.Keeps p1) : z.Keeps (Chip.rbSet p1 p2 p3 p4) := by
  unfold Chip.rbSet
  exact Chip.modMeas_keeps hp1

theorem Chip.rbOr_keeps {z : Chip} {p1 : Chip} {p2 : ℕ} {p3 : ℕ} {p4 : ℕ} (hp1 : z.Keeps p1) : z.Keeps (Chip.rbOr p1 p2 p3 p4) := by
  unfold Chip.rbOr
  exact Chip.rbSet_keeps hp1

theorem Chip.checkPath_keeps {z : Chip} {p1 : Chip} {p2 : ℕ} {p3 : ℕ} {p4 : ℕ} (hp1 : z.Keeps p1) : z.Keeps (Chip.checkPath p1 p2 p3 p4) := by
  unfold Chip.checkPath
  split
  · rename_i y1 y2 q3 q4
    extract_lets +onlyGivenNames x5
    clear_value x5
    extract_lets +onlyGivenNames x6
    clear_value x6
    split
    · rename_i y7 y8 q9
      have hy7 : z.Keeps y7 := by
        have hh := congrArg Prod.fst q9
        dsimp only at hh
        rw [← hh]
        exact Chip.tally_keeps hp1
      extract_lets +onlyGivenNames x10
      have hx10 : z.Keeps x10 := .ite (Chip.rbOr_keeps hy7) hy7
      clear_value x10
      exact .ite (Chip.faultCl_keeps (Chip.put_keeps hx10)) hx10
  · exact hp1

theorem Chip.checkSum_keeps {z : Chip} {p1 : Chip} {p2 : ℕ} {p3 : ℕ} {p4 : ℕ} (hp1 : z.Keeps p1) : z.Keeps (Chip.checkSum p1 p2 p3 p4) := by
  unfold Chip.checkSum
  split
  · rename_i y1 y2 y3 q4 q5 q6
    extract_lets +onlyGivenNames x7
    clear_value x7
    extract_lets +onlyGivenNames x8
    clear_value x8
    split
    · rename_i y9 y10 q11
      have hy9 : z.Keeps y9 := by
        have hh := congrArg Prod.fst q11
        dsimp only at hh
        rw [← hh]
        exact Chip.tally_keeps hp1
      extract_lets +onlyGivenNames x12
      have hx12 : z.Keeps x12 := .ite (Chip.rbOr_keeps hy9) hy9
      clear_value x12
      exact .ite (Chip.faultCl_keeps (Chip.put_keeps hx12)) hx12
  · exact hp1

theorem Chip.checkVdc_keeps {z : Chip} {p1 : Chip} {p2 : ℕ} {p3 : ℕ} (hp1 : z.Keeps p1) : z.Keeps (Chip.checkVdc p1 p2 p3) := by
  unfold Chip.checkVdc
  split
  · rename_i y1 y2 q3
    extract_lets +onlyGivenNames x4
    clear_value x4
    extract_lets +onlyGivenNames x5
    clear_value x5
    split
    · rename_i y6 y7 q8
      have hy6 : z.Keeps y6 := by
        have hh := congrArg Prod.fst q8
        dsimp only at hh
        rw [← hh]
        exact Chip.tally_keeps hp1
      extract_lets +onlyGivenNames x9
      have hx9 : z.Keeps x9 := .ite (Chip.rbOr_keeps hy6) hy6
      clear_value x9
      exact .ite (Chip.faultCl_keeps (Chip.put_keeps hx9)) hx9
  · exact hp1

theorem Chip.modSw_keeps {z : Chip} {p1 : Chip} {p2 : ℕ} {p3 : SwitchS → SwitchS} (hp1 : z.Keeps p1) : z.Keeps (Chip.modSw p1 p2 p3) := by
  unfold Chip.modSw
  exact Chip.modChm_keeps hp1

theorem Chip.showTj_keeps {z : Chip} {p1 : Chip} {p2 : ℕ} (hp1 : z.Keeps p1) : z.Keeps (Chip.showTj p1 p2) := by
  unfold Chip.showTj
  split
  · rename_i y1 y2 q3
    extract_lets +onlyGivenNames x4
    have hx4 : z.Keeps x4 := Chip.set_keeps (Chip.set_keeps hp1)
    clear_value x4
    refine .ite ?_ hx4
    extract_lets +onlyGivenNames x5
    exact Chip.modSw_keeps hx4

theorem Chip.modelStep_keeps {z : Chip} {p1 : Chip} {p2 : ℕ} {p3 : ℕ} {p4 : ℕ} (hp1 : z.Keeps p1) : z.Keeps (Chip.modelStep p1 p2 p3 p4) := by
  unfold Chip.modelStep
  refine .ite ?_ hp1
  extract_lets +onlyGivenNames x1
  clear_value x1
  extract_lets +onlyGivenNames x2
  clear_value x2
  extract_lets +onlyGivenNames x3
  clear_value x3
  exact Chip.modSw_keeps hp1

theorem Chip.tjOver_keeps {z : Chip} {p1 : Chip} {p2 : ℕ} (hp1 : z.Keeps p1) : z.Keeps (Chip.tjOver p1 p2) := by
  unfold Chip.tjOver
  extract_lets +onlyGivenNames x1
  clear_value x1
  split
  · exact .ite hp1 (Chip.faultCl_keeps (Chip.put_keeps hp1))
  · exact hp1

theorem Chip.peakEnforce_keeps {z : Chip} {p1 : Chip} {p2 : ℕ} (hp1 : z.Keeps p1) : z.Keeps (Chip.peakEnforce p1 p2) := by
  unfold Chip.peakEnforce
  extract_lets +onlyGivenNames x1
  have hx1 : z.Keeps x1 := Chip.modChm_keeps hp1
  clear_value x1
  exact Chip.limitCl_keeps (Chip.put_keeps (Chip.set_keeps hx1))

theorem Chip.peakFree_keeps {z : Chip} {p1 : Chip} {p2 : ℕ} (hp1 : z.Keeps p1) : z.Keeps (Chip.peakFree p1 p2) := by
  unfold Chip.peakFree
  exact Chip.put_keeps (Chip.set_keeps hp1)

theorem Chip.peakStep_keeps {z : Chip} {p1 : Chip} {p2 : ℕ} (hp1 : z.Keeps p1) : z.Keeps (Chip.peakStep p1 p2) := by
  unfold Chip.peakStep
  extract_lets +onlyGivenNames x1
  clear_value x1
  extract_lets +onlyGivenNames x2
  have hx2 : z.Keeps x2 := Chip.sets_keeps hp1
  clear_value x2
  extract_lets +onlyGivenNames x3
  have hx3 : z.Keeps x3 := .ite (Chip.put_keeps hx2) hx2
  clear_value x3
  extract_lets +onlyGivenNames x4
  clear_value x4
  extract_lets +onlyGivenNames x5
  have hx5 : z.Keeps x5 := Chip.modChm_keeps hx3
  clear_value x5
  extract_lets +onlyGivenNames x6
  have hx6 : z.Keeps x6 := Chip.noteCl_keeps (Chip.put_keeps (Chip.set_keeps hx5))
  clear_value x6
  extract_lets +onlyGivenNames x7
  have hx7 : z.Keeps x7 := .ite (.ite (Chip.peakEnforce_keeps hx6) hx6) (.ite (Chip.peakFree_keeps hx3) hx3)
  clear_value x7
  exact Chip.showLim_keeps hx7

theorem Chip.chmPass_keeps {z : Chip} {p1 : Chip} {p2 : ℕ} {p3 : List ℕ} {p4 : ℕ} (hp1 : z.Keeps p1) : z.Keeps (Chip.chmPass p1 p2 p3 p4) := by
  unfold Chip.chmPass
  extract_lets +onlyGivenNames x1
  clear_value x1
  extract_lets +onlyGivenNames x2
  have hx2 : z.Keeps x2 := Chip.modChm_keeps hp1
  clear_value x2
  extract_lets +onlyGivenNames x3
  extract_lets +onlyGivenNames x4
  have hx4 : z.Keeps x4 := by
    unfold x4
    refine .each hx2 ?_
    intro a5 t6 ht6
    extract_lets +onlyGivenNames x7
    clear_value x7
    exact Chip.showTj_keeps (Chip.modelStep_keeps ht6)
  clear_value x4
  extract_lets +onlyGivenNames x8
  clear_value x8
  extract_lets +onlyGivenNames x9
  clear_value x9
  extract_lets +onlyGivenNames x10
  have hx10 : z.Keeps x10 := Chip.set_keeps hx4
  clear_value x10
  exact Chip.tjOver_keeps (Chip.peakStep_keeps hx10)

theorem Chip.chmCurrents_keeps {z : Chip} {p1 : Chip} {p2 : ℕ} {p3 : Option (ℕ × ℕ × ℕ)} (hp1 : z.Keeps p1) : z.Keeps (Chip.chmCurrents p1 p2 p3) := by
  unfold Chip.chmCurrents
  split
  · rename_i y1 y2 y3 q4
    extract_lets +onlyGivenNames x5
    clear_value x5
    extract_lets +onlyGivenNames x6
    clear_value x6
    exact Chip.chmPass_keeps hp1
  · exact Chip.chmPass_keeps hp1

theorem Chip.chmTick_keeps {z : Chip} {p1 : Chip} (hp1 : z.Keeps p1) : z.Keeps (Chip.chmTick p1) := by
  unfold Chip.chmTick
  extract_lets +onlyGivenNames x1
  exact .ite hp1 (.each (Chip.modChm_keeps hp1) (fun a2 t3 ht3 => Chip.modAge_keeps ht3))

theorem Chip.chopFail_keeps {z : Chip} {p1 : Chip} (hp1 : z.Keeps p1) : z.Keeps (Chip.chopFail p1) := by
  unfold Chip.chopFail
  extract_lets +onlyGivenNames x1
  extract_lets +onlyGivenNames x2
  have hx2 : z.Keeps x2 := .ite hp1 (Chip.Keeps.same hp1 rfl rfl rfl rfl)
  clear_value x2
  exact Chip.record_keeps (Chip.put_keeps (Chip.put_keeps hx2))

theorem Chip.chopRule_keeps {z : Chip} {p1 : Chip} (hp1 : z.Keeps p1) : z.Keeps (Chip.chopRule p1) := by
  unfold Chip.chopRule
  extract_lets +onlyGivenNames x1
  clear_value x1
  refine .ite hp1 ?_
  refine .ite (.ite hp1 (Chip.chopStart_keeps (Chip.count_keeps hp1))) ?_
  refine .ite ?_ hp1
  extract_lets +onlyGivenNames x2
  have hx2 : z.Keeps x2 := Chip.chopper_keeps hp1
  clear_value x2
  exact (Chip.Keeps.same hx2 rfl rfl rfl rfl)

theorem Chip.cleClamp_keeps {z : Chip} {p1 : Chip} {p2 : ℕ} {p3 : ℕ} {p4 : ℕ} {p5 : ℕ} (hp1 : z.Keeps p1) : z.Keeps (Chip.cleClamp p1 p2 p3 p4 p5).1 := by
  unfold Chip.cleClamp
  extract_lets +onlyGivenNames x1
  clear_value x1
  extract_lets +onlyGivenNames x2
  clear_value x2
  extract_lets +onlyGivenNames x3
  clear_value x3
  extract_lets +onlyGivenNames x4
  have hx4 : z.Keeps x4 := .ite hp1 (Chip.noteCl_keeps hp1)
  clear_value x4
  extract_lets +onlyGivenNames x5
  have hx5 : z.Keeps x5 := .ite (Chip.put_keeps hx4) hp1
  clear_value x5
  extract_lets +onlyGivenNames x6
  clear_value x6
  extract_lets +onlyGivenNames x7
  have hx7 : z.Keeps x7 := .ite (Chip.setBitOf_keeps hx5) hx5
  clear_value x7
  exact .fst hx7

theorem Chip.ringStop_keeps {z : Chip} {p1 : Chip} (hp1 : z.Keeps p1) : z.Keeps (Chip.ringStop p1) := by
  unfold Chip.ringStop
  exact .ite (Chip.modRing_keeps (Chip.msgsDown_keeps hp1)) (Chip.modRing_keeps hp1)

theorem Chip.haltRegion_keeps {z : Chip} {p1 : Chip} {p2 : ℕ} {p3 : ℕ} (hp1 : z.Keeps p1) : z.Keeps (Chip.haltRegion p1 p2 p3) := by
  unfold Chip.haltRegion
  exact Chip.haltPartner_keeps (Chip.regionReset_keeps hp1)

theorem Chip.clockHalt_keeps {z : Chip} {p1 : Chip} {p2 : ℕ} {p3 : ℕ} (hp1 : z.Keeps p1) : z.Keeps (Chip.clockHalt p1 p2 p3) := by
  unfold Chip.clockHalt
  extract_lets +onlyGivenNames x1
  have hx1 : z.Keeps x1 := Chip.record_keeps (Chip.put_keeps hp1)
  clear_value x1
  exact Chip.ringStop_keeps (Chip.haltRegion_keeps (Chip.haltRegion_keeps hx1))

theorem Chip.cmpRoleActs_keeps {z : Chip} {p1 : Chip} {p2 : ℕ} {p3 : Bool} {p4 : ℕ} (hp1 : z.Keeps p1) : z.Keeps (Chip.cmpRoleActs p1 p2 p3 p4) := by
  unfold Chip.cmpRoleActs
  exact .ite (.ite (Chip.Keeps.same hp1 rfl rfl rfl rfl) hp1) (Chip.cmpDemand_keeps hp1)

theorem Chip.cmpTick_keeps {z : Chip} {p1 : Chip} {p2 : ℕ} (hp1 : z.Keeps p1) : z.Keeps (Chip.cmpTick p1 p2) := by
  unfold Chip.cmpTick
  extract_lets +onlyGivenNames x1
  refine .ite hp1 ?_
  extract_lets +onlyGivenNames x2
  have hx2 : z.Keeps x2 := by
    unfold x2
    refine .each hp1 ?_
    intro a3 t4 ht4
    extract_lets +onlyGivenNames x5
    have hx5 : z.Keeps x5 := Chip.set_keeps ht4
    clear_value x5
    exact .ite (Chip.put_keeps hx5) hx5
  clear_value x2
  exact Chip.modCl_keeps hx2

theorem Chip.unhold_keeps {z : Chip} {p1 : Chip} {p2 : ℕ} (hp1 : z.Keeps p1) : z.Keeps (Chip.unhold p1 p2) := by
  unfold Chip.unhold
  extract_lets +onlyGivenNames x1
  exact .ite (Chip.set_keeps (Chip.modIsl_keeps hp1)) hp1

theorem Chip.commandOff_keeps {z : Chip} {p1 : Chip} {p2 : ℕ} (hp1 : z.Keeps p1) : z.Keeps (Chip.commandOff p1 p2) := by
  unfold Chip.commandOff
  extract_lets +onlyGivenNames x1
  have hx1 : z.Keeps x1 := Chip.unhold_keeps (Chip.modIsl_keeps hp1)
  clear_value x1
  exact .ite (Chip.gateAway_keeps hx1) hx1

theorem Chip.runSecond_keeps {z : Chip} {p1 : Chip} {p2 : ℕ} (hp1 : z.Keeps p1) : z.Keeps (Chip.runSecond p1 p2) := by
  unfold Chip.runSecond
  extract_lets +onlyGivenNames x1
  exact .ite (Chip.modLedger_keeps hp1) hp1

theorem Chip.turnOn_keeps {z : Chip} {p1 : Chip} {p2 : ℕ} (hp1 : z.Keeps p1) : z.Keeps (Chip.turnOn p1 p2) := by
  unfold Chip.turnOn
  extract_lets +onlyGivenNames x1
  clear_value x1
  extract_lets +onlyGivenNames x2
  have hx2 : z.Keeps x2 := Chip.modIsl_keeps hp1
  clear_value x2
  exact Chip.runSecond_keeps (Chip.islTo_keeps hx2)

theorem Chip.onArrives_keeps {z : Chip} {p1 : Chip} {p2 : ℕ} (hp1 : z.Keeps p1) : z.Keeps (Chip.onArrives p1 p2) := by
  unfold Chip.onArrives
  extract_lets +onlyGivenNames x1
  have hx1 : z.Keeps x1 := .ite (Chip.abortLeak_keeps hp1) hp1
  clear_value x1
  extract_lets +onlyGivenNames x2
  exact .ite (Chip.turnOn_keeps hx1) (.ite (Chip.turnOn_keeps hx1) hx1)

theorem Chip.commandOn_keeps {z : Chip} {p1 : Chip} {p2 : ℕ} (hp1 : z.Keeps p1) : z.Keeps (Chip.commandOn p1 p2) := by
  unfold Chip.commandOn
  extract_lets +onlyGivenNames x1
  have hx1 : z.Keeps x1 := Chip.modIsl_keeps hp1
  clear_value x1
  exact .ite hx1 (.ite (Chip.count_keeps (Chip.modIsl_keeps hx1)) (Chip.onArrives_keeps hx1))

theorem Chip.modTwin_keeps {z : Chip} {p1 : Chip} {p2 : TwinS → TwinS} (hp1 : z.Keeps p1) : z.Keeps (Chip.modTwin p1 p2) := by
  unfold Chip.modTwin
  exact (Chip.Keeps.same hp1 rfl rfl rfl rfl)

theorem Chip.copyCycle_keeps {z : Chip} {p1 : Chip} (hp1 : z.Keeps p1) : z.Keeps (Chip.copyCycle p1) := by
  unfold Chip.copyCycle
  refine .ite ?_ (Chip.modTwin_keeps hp1)
  extract_lets +onlyGivenNames x1
  have hx1 : z.Keeps x1 := Chip.set_keeps (Chip.modTwin_keeps hp1)
  clear_value x1
  exact Chip.note_keeps (Chip.setBitOf_keeps hx1)

theorem Chip.copyEngine_keeps {z : Chip} {p1 : Chip} {p2 : ℕ} {p3 : ℕ} (hp1 : z.Keeps p1) : z.Keeps (Chip.copyEngine p1 p2 p3) := by
  unfold Chip.copyEngine
  extract_lets +onlyGivenNames x1
  have hx1 : z.Keeps x1 := Chip.modCle_keeps hp1
  clear_value x1
  extract_lets +onlyGivenNames x2
  have hx2 : z.Keeps x2 := .each hx1 (fun a3 t4 ht4 => Chip.set_keeps ht4)
  clear_value x2
  extract_lets +onlyGivenNames x5
  have hx5 : z.Keeps x5 := Chip.sets_keeps hx2
  clear_value x5
  exact Chip.modCl_keeps hx5

theorem Chip.copyRx_keeps {z : Chip} {p1 : Chip} {p2 : ℕ} {p3 : List Byte} {p4 : Bool} {p5 : Bool} (hp1 : z.Keeps p1) : z.Keeps (Chip.copyRx p1 p2 p3 p4 p5) := by
  unfold Chip.copyRx
  extract_lets +onlyGivenNames x1
  have hx1 : ∀ w2, z.Keeps w2 → ∀ w3, z.Keeps (x1 w2 w3) := by
    intro w2 hw2 w3
    unfold x1
    extract_lets +onlyGivenNames x4
    have hx4 : z.Keeps x4 := Chip.set_keeps (Chip.modTwin_keeps hw2)
    clear_value x4
    exact Chip.note_keeps (Chip.setBitOf_keeps hx4)
  clear_value x1
  refine .ite hp1 ?_
  refine .ite ?_ ?_
  · extract_lets +onlyGivenNames x5
    have hx5 : z.Keeps x5 := Chip.bump_keeps hp1
    clear_value x5
    exact .ite hx5 (hx1 _ hx5 _)
  · refine .ite hp1 ?_
    refine .ite (hx1 _ hp1 _) ?_
    extract_lets +onlyGivenNames x6
    clear_value x6
    extract_lets +onlyGivenNames x7
    clear_value x7
    extract_lets +onlyGivenNames x8
    have hx8 : z.Keeps x8 := .ite (Chip.storeRun_keeps hp1) hp1
    clear_value x8
    extract_lets +onlyGivenNames x9
    have hx9 : z.Keeps x9 := Chip.set_keeps (Chip.modTwin_keeps hx8)
    clear_value x9
    refine .ite ?_ hx9
    extract_lets +onlyGivenNames x10
    have hx10 : z.Keeps x10 := Chip.sets_keeps (Chip.modTwin_keeps hx9)
    clear_value x10
    exact Chip.setBitOf_keeps (Chip.count_keeps hx10)

theorem Chip.copyTable2_keeps {z : Chip} {p1 : Chip} {p2 : ℕ} (hp1 : z.Keeps p1) : z.Keeps (Chip.copyTable2 p1 p2) := by
  unfold Chip.copyTable2
  extract_lets +onlyGivenNames x1
  clear_value x1
  exact Chip.setBytes_keeps hp1

theorem Chip.copyTick_keeps {z : Chip} {p1 : Chip} (hp1 : z.Keeps p1) : z.Keeps (Chip.copyTick p1) := by
  unfold Chip.copyTick
  exact .ite (Chip.put_keeps (Chip.modTwin_keeps hp1)) hp1

theorem Chip.retire_keeps {z : Chip} {p1 : Chip} {p2 : ℕ} (hp1 : z.Keeps p1) : z.Keeps (Chip.retire p1 p2) := by
  unfold Chip.retire
  exact Chip.modHart_keeps hp1

theorem Chip.effectOf_keeps {z : Chip} {p1 : Chip} {p2 : List ℕ} (hp1 : z.Keeps p1) : z.Keeps (Chip.effectOf p1 p2) := by
  unfold Chip.effectOf
  split
  · exact hp1
  · exact Chip.effectAt_keeps hp1
  · exact Chip.effectAt_keeps (Chip.useFree_keeps hp1)

theorem Chip.drainN_keeps {z : Chip} {p1 : Option Requester} {p2 : Posted → Bool} {p3 : ℕ} {p4 : Chip} (hp4 : z.Keeps p4) :
    z.Keeps (Chip.drainN p1 p2 p3 p4) := by
  induction p3 generalizing p4 with
  | zero => exact hp4
  | succ n ih =>
    unfold Chip.drainN
    split
    · exact hp4
    · exact ih (Chip.effectOf_keeps hp4)

theorem Chip.unitEnd_keeps {z : Chip} {p1 : Chip} {p2 : UnitId} (hp1 : z.Keeps p1) : z.Keeps (Chip.unitEnd p1 p2) := by
  unfold Chip.unitEnd
  refine .ite hp1 ?_
  extract_lets +onlyGivenNames x1
  extract_lets +onlyGivenNames x2
  extract_lets +onlyGivenNames x3
  extract_lets +onlyGivenNames x4
  have hx4 : z.Keeps x4 := (Chip.Keeps.same hp1 rfl rfl rfl rfl)
  clear_value x4
  exact .each hx4 (fun a5 t6 ht6 => Chip.regWrite_keeps ht6)

theorem Chip.endHolds_keeps {z : Chip} {p1 : Requester} {p2 : ℕ → Bool} {p3 : ℕ} {p4 : Chip} (hp4 : z.Keeps p4) :
    z.Keeps (Chip.endHolds p1 p2 p3 p4) := by
  induction p3 generalizing p4 with
  | zero => exact hp4
  | succ n ih =>
    unfold Chip.endHolds
    split
    · exact hp4
    · split
      · exact ih (Chip.unitEnd_keeps hp4)
      · exact hp4

theorem Chip.drain_keeps {z : Chip} {p1 : Chip} {p2 : Requester} {p3 : ℕ → Bool} (hp1 : z.Keeps p1) : z.Keeps (Chip.drain p1 p2 p3) := by
  unfold Chip.drain
  extract_lets +onlyGivenNames x1
  extract_lets +onlyGivenNames x2
  have hx2 : z.Keeps x2 := Chip.drainN_keeps hp1
  clear_value x2
  extract_lets +onlyGivenNames x3
  have hx3 : z.Keeps x3 := Chip.endHolds_keeps hx2
  clear_value x3
  extract_lets +onlyGivenNames x4
  have hx4 : z.Keeps x4 := Chip.drainN_keeps hx3
  clear_value x4
  exact Chip.endHolds_keeps hx4

theorem Chip.drainAll_keeps {z : Chip} {p1 : Chip} {p2 : Requester} (hp1 : z.Keeps p1) : z.Keeps (Chip.drainAll p1 p2) := by
  unfold Chip.drainAll
  exact Chip.drain_keeps hp1

theorem Chip.coreFence_keeps {z : Chip} {p1 : Chip} {p2 : ℕ} {p3 : FenceSet} (hp1 : z.Keeps p1) : z.Keeps (Chip.coreFence p1 p2 p3) := by
  unfold Chip.coreFence
  extract_lets +onlyGivenNames x1
  exact .ite hp1 (Chip.retire_keeps (.ite (Chip.drain_keeps hp1) (.ite (Chip.drainAll_keeps hp1) (.ite (Chip.drain_keeps hp1) hp1))))

theorem Chip.trap_keeps {z : Chip} {p1 : Chip} {p2 : ℕ} {p3 : ℕ} {p4 : ℕ} (hp1 : z.Keeps p1) : z.Keeps (Chip.trap p1 p2 p3 p4) := by
  unfold Chip.trap
  exact Chip.modHart_keeps hp1

theorem Chip.regRead_keeps {z : Chip} {p1 : Chip} {p2 : Requester} {p3 : ℕ} (hp1 : z.Keeps p1) : z.Keeps (Chip.regRead p1 p2 p3).1 := by
  unfold Chip.regRead
  refine .iteP (.fst (Chip.discard_keeps hp1)) ?_
  extract_lets +onlyGivenNames x1
  have hx1 : z.Keeps x1 := Chip.reachGate_keeps hp1
  clear_value x1
  extract_lets +onlyGivenNames x2
  have hx2 : z.Keeps x2 := by
    unfold x2
    split
    · exact Chip.unitEnd_keeps hx1
    · exact hx1
  clear_value x2
  exact Chip.blockRead_keeps hx2

theorem Chip.eccInfo_keeps {z : Chip} {p1 : Chip} {p2 : ℕ} {p3 : ℕ} {p4 : ℕ} {p5 : Bool} {p6 : Bool} (hp1 : z.Keeps p1) : z.Keeps (Chip.eccInfo p1 p2 p3 p4 p5 p6) := by
  unfold Chip.eccInfo
  exact Chip.sets_keeps hp1

theorem Chip.eccCor_keeps {z : Chip} {p1 : Chip} {p2 : ℕ} {p3 : ℕ} {p4 : ℕ} {p5 : ℕ} {p6 : Bool} (hp1 : z.Keeps p1) : z.Keeps (Chip.eccCor p1 p2 p3 p4 p5 p6) := by
  unfold Chip.eccCor
  extract_lets +onlyGivenNames x1
  have hx1 : z.Keeps x1 := Chip.eccInfo_keeps (Chip.setEcc_keeps hp1)
  clear_value x1
  extract_lets +onlyGivenNames x2
  have hx2 : z.Keeps x2 := Chip.bump_keeps hx1
  clear_value x2
  exact Chip.firstNote_keeps hx2

theorem Chip.eccUnc_keeps {z : Chip} {p1 : Chip} {p2 : ℕ} {p3 : ℕ} {p4 : ℕ} {p5 : ℕ} {p6 : Bool} (hp1 : z.Keeps p1) : z.Keeps (Chip.eccUnc p1 p2 p3 p4 p5 p6) := by
  unfold Chip.eccUnc
  extract_lets +onlyGivenNames x1
  have hx1 : z.Keeps x1 := Chip.eccInfo_keeps (Chip.setEcc_keeps hp1)
  clear_value x1
  exact Chip.put_keeps (Chip.bump_keeps hx1)

theorem Chip.halt_keeps {z : Chip} {p1 : Chip} {p2 : ℕ} {p3 : ℕ} {p4 : ℕ} {p5 : ℕ} (hp1 : z.Keeps p1) : z.Keeps (Chip.halt p1 p2 p3 p4 p5) := by
  unfold Chip.halt
  exact Chip.haltRegion_keeps (Chip.record_keeps hp1)

theorem Chip.eccRead_keeps {z : Chip} {p1 : Chip} {p2 : ℕ} {p3 : ℕ} {p4 : ℕ} {p5 : Bool} {p6 : ℕ} (hp1 : z.Keeps p1) : z.Keeps (Chip.eccRead p1 p2 p3 p4 p5 p6).1 := by
  unfold Chip.eccRead
  split
  · exact .fst hp1
  · rename_i y3 q4
    split
    · exact .fst hp1
    · exact .fst (Chip.eccCor_keeps hp1)
    · rename_i y9 q10
      extract_lets +onlyGivenNames x11
      have hx11 : z.Keeps x11 := Chip.eccUnc_keeps hp1
      clear_value x11
      exact .iteP (.fst (Chip.halt_keeps hx11)) (.iteP (.fst hx11) (.fst (Chip.note_keeps hx11)))

theorem Chip.loadData_keeps {z : Chip} {p1 : Chip} {p2 : ℕ} {p3 : ℕ} {p4 : ℕ} {p5 : ℕ} (hp1 : z.Keeps p1) : z.Keeps (Chip.loadData p1 p2 p3 p4 p5).1 := by
  unfold Chip.loadData
  refine .iteP ?_ ?_
  · split
    · rename_i y1 y2 q3
      have hy1 : z.Keeps y1 := by
        have hh := congrArg Prod.fst q3
        dsimp only at hh
        rw [← hh]
        exact Chip.regRead_keeps hp1
      exact .fst hy1
  · extract_lets +onlyGivenNames x4
    clear_value x4
    split
    · rename_i y5 y6 q7
      have hy5 : z.Keeps y5 := by
        have hh := congrArg Prod.fst q7
        dsimp only at hh
        rw [← hh]
        exact Chip.eccRead_keeps (Chip.reachGate_keeps hp1)
      exact .fst hy5

theorem Chip.drainUnit_keeps {z : Chip} {p1 : Chip} {p2 : Requester} {p3 : ℕ} (hp1 : z.Keeps p1) : z.Keeps (Chip.drainUnit p1 p2 p3) := by
  unfold Chip.drainUnit
  exact Chip.drain_keeps hp1

theorem Chip.putReg_keeps {z : Chip} {p1 : Chip} {p2 : ℕ} {p3 : Bool} {p4 : ℕ} {p5 : ℕ} (hp1 : z.Keeps p1) : z.Keeps (Chip.putReg p1 p2 p3 p4 p5) := by
  unfold Chip.putReg
  exact .ite (Chip.modHart_keeps hp1) (.ite hp1 (Chip.modHart_keeps hp1))

theorem Chip.coreLoad_keeps {z : Chip} {p1 : Chip} {p2 : ℕ} {p3 : ℕ} {p4 : Bool} {p5 : Bool} {p6 : ℕ} {p7 : ℕ} {p8 : ℕ} (hp1 : z.Keeps p1) : z.Keeps (Chip.coreLoad p1 p2 p3 p4 p5 p6 p7 p8) := by
  unfold Chip.coreLoad
  refine .ite hp1 ?_
  refine .ite (Chip.trap_keeps hp1) ?_
  refine .ite (Chip.trap_keeps hp1) ?_
  split
  · rename_i y1 y2 q3
    have hy1 : z.Keeps y1 := by
      have hh := congrArg Prod.fst q3
      dsimp only at hh
      rw [← hh]
      exact Chip.loadData_keeps (Chip.drainUnit_keeps hp1)
    exact Chip.retire_keeps (Chip.putReg_keeps hy1)
  · rename_i y4 q5
    have hy4 : z.Keeps y4 := by
      have hh := congrArg Prod.fst q5
      dsimp only at hh
      rw [← hh]
      exact Chip.loadData_keeps (Chip.drainUnit_keeps hp1)
    exact .ite hy4 (Chip.trap_keeps hy4)

theorem Chip.cqAnnounce_keeps {z : Chip} {p1 : Chip} {p2 : ℕ} (hp1 : z.Keeps p1) : z.Keeps (Chip.cqAnnounce p1 p2) := by
  unfold Chip.cqAnnounce
  refine .ite hp1 ?_
  extract_lets +onlyGivenNames x1
  have hx1 : z.Keeps x1 := .ite (.ite (Chip.put_keeps hp1) (Chip.bump_keeps hp1)) hp1
  clear_value x1
  extract_lets +onlyGivenNames x2
  have hx2 : z.Keeps x2 := .ite (Chip.modHw_keeps hx1) hx1
  clear_value x2
  extract_lets +onlyGivenNames x3
  have hx3 : z.Keeps x3 := .ite hx1 (Chip.bump_keeps hx2)
  clear_value x3
  exact Chip.cqSettle_keeps hx3

theorem Chip.crcError_keeps {z : Chip} {p1 : Chip} {p2 : ℕ} (hp1 : z.Keeps p1) : z.Keeps (Chip.crcError p1 p2) := by
  unfold Chip.crcError
  exact Chip.bump_keeps hp1

theorem Chip.ctrDropOut_keeps {z : Chip} {p1 : Chip} {p2 : Bool} (hp1 : z.Keeps p1) : z.Keeps (Chip.ctrDropOut p1 p2) := by
  unfold Chip.ctrDropOut
  exact .ite (Chip.ctrMove_keeps hp1) hp1

theorem Chip.nodeCycle_keeps {z : Chip} {p1 : Chip} {p2 : ℕ} (hp1 : z.Keeps p1) : z.Keeps (Chip.nodeCycle p1 p2) := by
  unfold Chip.nodeCycle
  refine .ite hp1 ?_
  extract_lets +onlyGivenNames x1
  clear_value x1
  extract_lets +onlyGivenNames x2
  have hx2 : z.Keeps x2 := Chip.modRing_keeps hp1
  clear_value x2
  refine .ite hx2 ?_
  extract_lets +onlyGivenNames x3
  have hx3 : z.Keeps x3 := Chip.clrBitOf_keeps (Chip.modRing_keeps hx2)
  clear_value x3
  exact Chip.note_keeps (Chip.put_keeps (Chip.setBitOf_keeps hx3))

theorem Chip.spCycle_keeps {z : Chip} {p1 : Chip} {p2 : ℕ} (hp1 : z.Keeps p1) : z.Keeps (Chip.spCycle p1 p2) := by
  unfold Chip.spCycle
  extract_lets +onlyGivenNames x1
  have hx1 : z.Keeps x1 := Chip.bump_keeps hp1
  clear_value x1
  refine .ite hx1 ?_
  extract_lets +onlyGivenNames x2
  clear_value x2
  extract_lets +onlyGivenNames x3
  have hx3 : z.Keeps x3 := Chip.modRing_keeps hx1
  clear_value x3
  refine .ite (.ite hx3 (Chip.put_keeps hx3)) ?_
  refine .ite ?_ hx3
  extract_lets +onlyGivenNames x4
  have hx4 : z.Keeps x4 := Chip.sets_keeps hx3
  clear_value x4
  exact .ite (Chip.limitCl_keeps hx4) (Chip.put_keeps hx4)

theorem Chip.heartbeats_keeps {z : Chip} {p1 : Chip} (hp1 : z.Keeps p1) : z.Keeps (Chip.heartbeats p1) := by
  unfold Chip.heartbeats
  extract_lets +onlyGivenNames x1
  clear_value x1
  refine .ite hp1 ?_
  extract_lets +onlyGivenNames x2
  clear_value x2
  extract_lets +onlyGivenNames x3
  clear_value x3
  extract_lets +onlyGivenNames x4
  clear_value x4
  extract_lets +onlyGivenNames x5
  have hx5 : z.Keeps x5 := Chip.modRing_keeps hp1
  clear_value x5
  extract_lets +onlyGivenNames x6
  have hx6 : ∀ w7, z.Keeps w7 → ∀ w8, z.Keeps (x6 w7 w8) := fun w7 hw7 w8 => Chip.note_keeps (Chip.put_keeps hw7)
  clear_value x6
  extract_lets +onlyGivenNames x9
  have hx9 : z.Keeps x9 := .ite (hx6 _ hx5 _) hx5
  clear_value x9
  extract_lets +onlyGivenNames x10
  have hx10 : z.Keeps x10 := .ite (hx6 _ hx9 _) hx9
  clear_value x10
  exact .ite (Chip.becomeActive_keeps hx10) hx10

theorem Chip.twinCycle_keeps {z : Chip} {p1 : Chip} (hp1 : z.Keeps p1) : z.Keeps (Chip.twinCycle p1) := by
  unfold Chip.twinCycle
  extract_lets +onlyGivenNames x1
  clear_value x1
  extract_lets +onlyGivenNames x2
  have hx2 : z.Keeps x2 := Chip.put_keeps hp1
  clear_value x2
  exact .ite hx2 (Chip.setBitOf_keeps (Chip.bump_keeps hx2))

theorem Chip.sramRead_keeps {z : Chip} {p1 : Chip} {p2 : Requester} {p3 : ℕ} {p4 : ℕ} {p5 : ℕ} (hp1 : z.Keeps p1) :
    z.Keeps (Chip.sramRead p1 p2 p3 p4 p5).1 :=
  .iteP hp1 (.foldlP (β := Bool) hp1 fun _ _ ht => Chip.eccRead_keeps ht)

theorem Chip.setpoint_keeps {z : Chip} {p1 : Chip} {p2 : ℕ} {p3 : ℕ} {p4 : ℕ} {p5 : ℕ} (hp1 : z.Keeps p1) : z.Keeps (Chip.setpoint p1 p2 p3 p4 p5) := by
  unfold Chip.setpoint
  extract_lets +onlyGivenNames x1
  clear_value x1
  extract_lets +onlyGivenNames x2
  clear_value x2
  extract_lets +onlyGivenNames x3
  have hx3 : z.Keeps x3 := Chip.modRing_keeps hp1
  clear_value x3
  exact Chip.sets_keeps hx3

theorem Chip.setpoints_keeps {z : Chip} {p1 : Chip} {p2 : List Byte} {p3 : ℕ} {p4 : ℕ} (hp1 : z.Keeps p1) : z.Keeps (Chip.setpoints p1 p2 p3 p4) := by
  unfold Chip.setpoints
  exact .each hp1 (fun a1 t2 ht2 => Chip.setpoint_keeps ht2)

theorem Chip.takeSnapshot_keeps {z : Chip} {p1 : Chip} {p2 : ℕ} (hp1 : z.Keeps p1) : z.Keeps (Chip.takeSnapshot p1 p2) := by
  unfold Chip.takeSnapshot
  extract_lets +onlyGivenNames x1
  clear_value x1
  split
  · rename_i y2 y3 q4
    have hy2 : z.Keeps y2 := by
      have hh := congrArg Prod.fst q4
      dsimp only at hh
      rw [← hh]
      exact Chip.sramRead_keeps hp1
    extract_lets +onlyGivenNames x5
    have hx5 : z.Keeps x5 := Chip.modRing_keeps hy2
    clear_value x5
    extract_lets +onlyGivenNames x6
    exact .ite (Chip.setpoints_keeps hx5) hx5

theorem Chip.twinSend_keeps {z : Chip} {p1 : Chip} {p2 : ℕ} (hp1 : z.Keeps p1) : z.Keeps (Chip.twinSend p1 p2) := by
  unfold Chip.twinSend
  refine .ite hp1 ?_
  extract_lets +onlyGivenNames x1
  have hx1 : z.Keeps x1 := Chip.modTwin_keeps hp1
  clear_value x1
  extract_lets +onlyGivenNames x2
  clear_value x2
  extract_lets +onlyGivenNames x3
  have hx3 : ∀ w4, z.Keeps w4 → ∀ w5, z.Keeps (x3 w4 w5) := fun w4 hw4 w5 => Chip.note_keeps (Chip.setBitOf_keeps hw4)
  clear_value x3
  refine .ite hx1 ?_
  refine .ite (hx3 _ hx1 _) ?_
  split
  · rename_i y6 y7 q8
    have hy6 : z.Keeps y6 := by
      have hh := congrArg Prod.fst q8
      dsimp only at hh
      rw [← hh]
      exact Chip.sramRead_keeps hx1
    exact Chip.put_keeps (Chip.modTwin_keeps hy6)
  · rename_i y9 q10
    have hy9 : z.Keeps y9 := by
      have hh := congrArg Prod.fst q10
      dsimp only at hh
      rw [← hh]
      exact Chip.sramRead_keeps hx1
    exact hx3 _ hy9 _

theorem Chip.ringOut_keeps {z : Chip} {p1 : Chip} {p2 : Bool} {p3 : List Byte} (hp1 : z.Keeps p1) : z.Keeps (Chip.ringOut p1 p2 p3) := by
  unfold Chip.ringOut
  exact .ite hp1 (Chip.modRing_keeps hp1)

theorem Chip.sendCyclic_keeps {z : Chip} {p1 : Chip} {p2 : Bool} (hp1 : z.Keeps p1) : z.Keeps (Chip.sendCyclic p1 p2) := by
  unfold Chip.sendCyclic
  refine .ite hp1 ?_
  extract_lets +onlyGivenNames x1
  clear_value x1
  extract_lets +onlyGivenNames x2
  clear_value x2
  extract_lets +onlyGivenNames x3
  exact Chip.modRing_keeps (Chip.ringOut_keeps hp1)

theorem Chip.cycleStart_keeps {z : Chip} {p1 : Chip} {p2 : ℕ} {p3 : ℕ} (hp1 : z.Keeps p1) : z.Keeps (Chip.cycleStart p1 p2 p3) := by
  unfold Chip.cycleStart
  refine .ite hp1 ?_
  extract_lets +onlyGivenNames x1
  have hx1 : z.Keeps x1 := .each hp1 (fun a2 t3 ht3 => Chip.nodeCycle_keeps ht3)
  clear_value x1
  extract_lets +onlyGivenNames x4
  clear_value x4
  extract_lets +onlyGivenNames x5
  have hx5 : z.Keeps x5 := Chip.put_keeps hx1
  clear_value x5
  extract_lets +onlyGivenNames x6
  have hx6 : z.Keeps x6 := .ite (Chip.set_keeps hx5) hx5
  clear_value x6
  extract_lets +onlyGivenNames x7
  have hx7 : z.Keeps x7 := .each hx6 (fun a8 t9 ht9 => Chip.spCycle_keeps ht9)
  clear_value x7
  extract_lets +onlyGivenNames x10
  have hx10 : z.Keeps x10 := Chip.bankCycle_keeps (Chip.copyCycle_keeps (Chip.heartbeats_keeps (Chip.twinCycle_keeps hx7)))
  clear_value x10
  extract_lets +onlyGivenNames x11
  clear_value x11
  extract_lets +onlyGivenNames x12
  clear_value x12
  extract_lets +onlyGivenNames x13
  have hx13 : z.Keeps x13 := Chip.modRing_keeps hx10
  clear_value x13
  extract_lets +onlyGivenNames x14
  have hx14 : z.Keeps x14 := .ite (Chip.note_keeps (Chip.sets_keeps hx13)) hx10
  clear_value x14
  extract_lets +onlyGivenNames x15
  clear_value x15
  extract_lets +onlyGivenNames x16
  have hx16 : z.Keeps x16 := Chip.modRing_keeps hx14
  clear_value x16
  extract_lets +onlyGivenNames x17
  have hx17 : z.Keeps x17 := Chip.pulse_keeps (Chip.count_keeps hx16)
  clear_value x17
  extract_lets +onlyGivenNames x18
  have hx18 : z.Keeps x18 := .ite (Chip.takeSnapshot_keeps hx17) hx17
  clear_value x18
  exact Chip.twinSend_keeps (Chip.sendCyclic_keeps hx18)

theorem Chip.cycleTick_keeps {z : Chip} {p1 : Chip} (hp1 : z.Keeps p1) : z.Keeps (Chip.cycleTick p1) := by
  unfold Chip.cycleTick
  exact .each hp1 (fun a1 t2 ht2 => .ite ht2 (Chip.modHart_keeps ht2))

theorem Chip.epochFound_keeps {z : Chip} {p1 : Chip} {p2 : ℕ} (hp1 : z.Keeps p1) : z.Keeps (Chip.epochFound p1 p2) := by
  unfold Chip.epochFound
  extract_lets +onlyGivenNames x1
  have hx1 : z.Keeps x1 := .ite (Chip.set_keeps hp1) hp1
  clear_value x1
  refine .ite ?_ hx1
  extract_lets +onlyGivenNames x2
  have hx2 : z.Keeps x2 := Chip.roleSet_keeps hx1
  clear_value x2
  exact Chip.note_keeps (Chip.put_keeps hx2)

theorem Chip.statusTable_keeps {z : Chip} {p1 : Chip} {p2 : CyclicFrame} (hp1 : z.Keeps p1) : z.Keeps (Chip.statusTable p1 p2) := by
  unfold Chip.statusTable
  extract_lets +onlyGivenNames x1
  clear_value x1
  refine .ite ?_ hp1
  extract_lets +onlyGivenNames x2
  exact Chip.storeRun_keeps hp1

theorem Chip.loopLength_keeps {z : Chip} {p1 : Chip} {p2 : ℕ} (hp1 : z.Keeps p1) : z.Keeps (Chip.loopLength p1 p2) := by
  unfold Chip.loopLength
  extract_lets +onlyGivenNames x1
  have hx1 : z.Keeps x1 := Chip.set_keeps hp1
  clear_value x1
  extract_lets +onlyGivenNames x2
  clear_value x2
  exact .ite (Chip.modRing_keeps hx1) (.ite hx1 (Chip.note_keeps (Chip.put_keeps (Chip.modRing_keeps hx1))))

theorem Chip.ownFrame_keeps {z : Chip} {p1 : Chip} {p2 : CyclicFrame} {p3 : ℕ} (hp1 : z.Keeps p1) : z.Keeps (Chip.ownFrame p1 p2 p3) := by
  unfold Chip.ownFrame
  extract_lets +onlyGivenNames x1
  have hx1 : z.Keeps x1 := Chip.loopLength_keeps (Chip.modRing_keeps hp1)
  clear_value x1
  extract_lets +onlyGivenNames x2
  extract_lets +onlyGivenNames x3
  clear_value x3
  extract_lets +onlyGivenNames x4
  clear_value x4
  exact .ite hx1 (.ite (Chip.firstNote_keeps hx1) (Chip.setpoints_keeps hx1))

theorem Chip.nodeHeard_keeps {z : Chip} {p1 : Chip} {p2 : ℕ} (hp1 : z.Keeps p1) : z.Keeps (Chip.nodeHeard p1 p2) := by
  unfold Chip.nodeHeard
  extract_lets +onlyGivenNames x1
  have hx1 : z.Keeps x1 := Chip.modRing_keeps hp1
  clear_value x1
  exact .ite hx1 (Chip.note_keeps (Chip.put_keeps (Chip.setBitOf_keeps hx1)))

theorem Chip.timerFollow_keeps {z : Chip} {p1 : Chip} {p2 : ℕ} (hp1 : z.Keeps p1) : z.Keeps (Chip.timerFollow p1 p2) := by
  unfold Chip.timerFollow
  extract_lets +onlyGivenNames x1
  clear_value x1
  refine .ite (Chip.modRing_keeps hp1) ?_
  refine .ite hp1 ?_
  extract_lets +onlyGivenNames x2
  extract_lets +onlyGivenNames x3
  extract_lets +onlyGivenNames x4
  exact Chip.modRing_keeps hp1

theorem Chip.managerFrame_keeps {z : Chip} {p1 : Chip} {p2 : CyclicFrame} {p3 : ℕ} (hp1 : z.Keeps p1) : z.Keeps (Chip.managerFrame p1 p2 p3) := by
  unfold Chip.managerFrame
  refine .ite hp1 ?_
  extract_lets +onlyGivenNames x1
  clear_value x1
  extract_lets +onlyGivenNames x2
  have hx2 : z.Keeps x2 := Chip.sets_keeps (Chip.timerFollow_keeps hp1)
  clear_value x2
  extract_lets +onlyGivenNames x3
  have hx3 : z.Keeps x3 := .ite (Chip.roleSet_keeps hx2) hx2
  clear_value x3
  extract_lets +onlyGivenNames x4
  have hx4 : z.Keeps x4 := Chip.modRing_keeps hx3
  clear_value x4
  exact .ite (Chip.modRing_keeps hx4) hx4

theorem Chip.cyclicRx_keeps {z : Chip} {p1 : Chip} {p2 : Bool} {p3 : CyclicFrame} {p4 : Bool} (hp1 : z.Keeps p1) : z.Keeps (Chip.cyclicRx p1 p2 p3 p4) := by
  unfold Chip.cyclicRx
  refine .ite hp1 ?_
  refine .ite (Chip.bump_keeps hp1) ?_
  extract_lets +onlyGivenNames x1
  have hx1 : z.Keeps x1 := .ite hp1 (Chip.put_keeps hp1)
  clear_value x1
  extract_lets +onlyGivenNames x2
  clear_value x2
  extract_lets +onlyGivenNames x3
  clear_value x3
  extract_lets +onlyGivenNames x4
  extract_lets +onlyGivenNames x5
  have hx5 : z.Keeps x5 := Chip.epochFound_keeps hx1
  clear_value x5
  extract_lets +onlyGivenNames x6
  have hx6 : z.Keeps x6 := .ite (Chip.epochFound_keeps hx5) hx5
  clear_value x6
  extract_lets +onlyGivenNames x7
  clear_value x7
  refine .ite ?_ ?_
  · refine .ite ?_ (.ite (Chip.ownFrame_keeps (Chip.nodeHeard_keeps hx6)) (Chip.ringOut_keeps (Chip.statusTable_keeps hx6)))
    extract_lets +onlyGivenNames x8
    have hx8 : z.Keeps x8 := .ite hx6 (Chip.msgsDown_keeps (Chip.note_keeps (Chip.sets_keeps hx6)))
    clear_value x8
    exact Chip.ringOut_keeps (Chip.statusTable_keeps hx8)
  · extract_lets +onlyGivenNames x9
    have hx9 : z.Keeps x9 := Chip.nodeHeard_keeps hx6
    clear_value x9
    extract_lets +onlyGivenNames x10
    clear_value x10
    extract_lets +onlyGivenNames x11
    have hx11 : z.Keeps x11 := Chip.modRing_keeps hx9
    clear_value x11
    extract_lets +onlyGivenNames x12
    have hx12 : z.Keeps x12 := .ite (Chip.managerFrame_keeps hx11) hx11
    clear_value x12
    exact Chip.ringOut_keeps (Chip.statusTable_keeps hx12)

theorem Chip.declareStandstill_keeps {z : Chip} {p1 : Chip} {p2 : ℕ} (hp1 : z.Keeps p1) : z.Keeps (Chip.declareStandstill p1 p2) := by
  unfold Chip.declareStandstill
  extract_lets +onlyGivenNames x1
  have hx1 : z.Keeps x1 := Chip.sets_keeps hp1
  clear_value x1
  exact Chip.modPos_keeps hx1

theorem Chip.deliver_keeps {z : Chip} {p1 : Chip} {p2 : ℕ} {p3 : ℕ} {p4 : ℕ} {p5 : ℕ} {p6 : Bool} {p7 : Bool} {p8 : Bool} {p9 : Bool} (hp1 : z.Keeps p1) : z.Keeps (Chip.deliver p1 p2 p3 p4 p5 p6 p7 p8 p9) := by
  unfold Chip.deliver
  extract_lets +onlyGivenNames x1
  extract_lets +onlyGivenNames x2
  have hx2 : z.Keeps x2 := Chip.modMeas_keeps hp1
  clear_value x2
  extract_lets +onlyGivenNames x3
  have hx3 : z.Keeps x3 := Chip.rbSet_keeps hx2
  clear_value x3
  extract_lets +onlyGivenNames x4
  clear_value x4
  refine .ite ?_ hx3
  extract_lets +onlyGivenNames x5
  have hx5 : z.Keeps x5 := .ite hx3 (Chip.noteCl_keeps hx3)
  clear_value x5
  exact Chip.put_keeps hx5

theorem Chip.descStart_keeps {z : Chip} {p1 : Chip} {p2 : ℕ} (hp1 : z.Keeps p1) : z.Keeps (Chip.descStart p1 p2) := by
  unfold Chip.descStart
  split
  · exact hp1
  · rename_i y3 q4
    refine .ite hp1 ?_
    split
    · rename_i y5 y6 q7
      extract_lets +onlyGivenNames x8
      have hx8 : z.Keeps x8 := .ite (Chip.useFree_keeps hp1) hp1
      clear_value x8
      exact Chip.descEnd_keeps (Chip.modDesc_keeps hx8)
    · extract_lets +onlyGivenNames x11
      clear_value x11
      extract_lets +onlyGivenNames x12
      have hx12 : z.Keeps x12 := Chip.modDesc_keeps hp1
      clear_value x12
      extract_lets +onlyGivenNames x13
      have hx13 : z.Keeps x13 := .ite (Chip.put_keeps (Chip.setBitOf_keeps hx12)) hx12
      clear_value x13
      exact Chip.hwShow_keeps hx13

theorem Chip.descFail_keeps {z : Chip} {p1 : Chip} {p2 : ℕ} {p3 : ℕ} {p4 : ℕ} (hp1 : z.Keeps p1) : z.Keeps (Chip.descFail p1 p2 p3 p4) := by
  unfold Chip.descFail
  refine .ite hp1 ?_
  extract_lets +onlyGivenNames x1
  clear_value x1
  extract_lets +onlyGivenNames x2
  have hx2 : z.Keeps x2 := Chip.modHw_keeps (Chip.put_keeps hp1)
  clear_value x2
  exact .ite hx2 (Chip.note_keeps hx2)

theorem Chip.recordWrite_keeps {z : Chip} {p1 : Chip} {p2 : ℕ} {p3 : DescS} {p4 : ℕ} {p5 : ℕ} (hp1 : z.Keeps p1) : z.Keeps (Chip.recordWrite p1 p2 p3 p4 p5) := by
  unfold Chip.recordWrite
  extract_lets +onlyGivenNames x1
  clear_value x1
  extract_lets +onlyGivenNames x2
  clear_value x2
  extract_lets +onlyGivenNames x3
  clear_value x3
  extract_lets +onlyGivenNames x4
  clear_value x4
  extract_lets +onlyGivenNames x5
  extract_lets +onlyGivenNames x6
  have hx6 : z.Keeps x6 := Chip.setBytes_keeps hp1
  clear_value x6
  extract_lets +onlyGivenNames x7
  extract_lets +onlyGivenNames x8
  have hx8 : z.Keeps x8 := Chip.sets_keeps hx6
  clear_value x8
  exact Chip.cqAnnounce_keeps (Chip.pulse_keeps hx8)

theorem Chip.descComplete_keeps {z : Chip} {p1 : Chip} {p2 : ℕ} (hp1 : z.Keeps p1) : z.Keeps (Chip.descComplete p1 p2) := by
  unfold Chip.descComplete
  extract_lets +onlyGivenNames x1
  have hx1 : z.Keeps x1 := by
    unfold x1
    split
    · exact .ite hp1 (Chip.descStart_keeps hp1)
    · exact hp1
  clear_value x1
  split
  · exact Chip.hwAbortEnd_keeps hx1
  · rename_i y8 q9
    extract_lets +onlyGivenNames x10
    clear_value x10
    split
    · exact hx1
    · rename_i y13 y14 q15
      extract_lets +onlyGivenNames x16
      have hx16 : z.Keeps x16 := .ite (.each hx1 (fun a17 t18 ht18 => Chip.flagPut_keeps ht18)) hx1
      clear_value x16
      extract_lets +onlyGivenNames x19
      have hx19 : z.Keeps x19 := Chip.modHwQ_keeps hx16
      clear_value x19
      extract_lets +onlyGivenNames x20
      have hx20 : z.Keeps x20 := Chip.descFail_keeps (Chip.recordWrite_keeps hx19)
      clear_value x20
      exact Chip.hwAbortEnd_keeps hx20

theorem Chip.descItem_keeps {z : Chip} {p1 : Chip} {p2 : ℕ} {p3 : ℕ} {p4 : DescS → Chip → Chip} (hp1 : z.Keeps p1) (hp4 : ∀ u1, ∀ u2, z.Keeps u2 → z.Keeps (p4 u1 u2)) : z.Keeps (Chip.descItem p1 p2 p3 p4) := by
  unfold Chip.descItem
  split
  · rename_i y1 q2
    refine .ite hp1 ?_
    extract_lets +onlyGivenNames x3
    have hx3 : z.Keeps x3 := Chip.descStart_keeps hp1
    clear_value x3
    split
    · exact .ite (hp4 _ _ hx3) hx3
    · exact hx3
  · exact hp1

theorem Chip.descMore_keeps {z : Chip} {p1 : Chip} {p2 : ℕ} {p3 : ℕ} {p4 : ℕ} (hp1 : z.Keeps p1) : z.Keeps (Chip.descMore p1 p2 p3 p4) := by
  unfold Chip.descMore
  extract_lets +onlyGivenNames x1
  have hx1 : z.Keeps x1 := Chip.modDesc_keeps hp1
  clear_value x1
  split
  · exact .ite (Chip.descEnd_keeps hx1) hx1
  · exact hx1

theorem Chip.sourceLost_keeps {z : Chip} {p1 : Chip} {p2 : ℕ} (hp1 : z.Keeps p1) : z.Keeps (Chip.sourceLost p1 p2) := by
  unfold Chip.sourceLost
  extract_lets +onlyGivenNames x1
  have hx1 : z.Keeps x1 := Chip.sets_keeps (Chip.posLose_keeps hp1)
  clear_value x1
  extract_lets +onlyGivenNames x2
  have hx2 : z.Keeps x2 := Chip.modPos_keeps hx1
  clear_value x2
  exact .ite (Chip.posNote_keeps hx2) (Chip.posNote_keeps hx2)

theorem Chip.sourceTickEnd_keeps {z : Chip} {p1 : Chip} {p2 : ℕ} (hp1 : z.Keeps p1) : z.Keeps (Chip.sourceTickEnd p1 p2) := by
  unfold Chip.sourceTickEnd
  exact .ite (Chip.sourceLost_keeps hp1) hp1

theorem Chip.evalSpeed_keeps {z : Chip} {p1 : Chip} {p2 : ℕ} (hp1 : z.Keeps p1) : z.Keeps (Chip.evalSpeed p1 p2) := by
  unfold Chip.evalSpeed
  extract_lets +onlyGivenNames x1
  refine .ite ?_ (Chip.modPos_keeps hp1)
  refine .ite ?_ ?_
  · extract_lets +onlyGivenNames x2
    clear_value x2
    exact Chip.modPos_keeps (Chip.set_keeps hp1)
  · extract_lets +onlyGivenNames x3
    clear_value x3
    exact Chip.set_keeps hp1

theorem Chip.resUnlock_keeps {z : Chip} {p1 : Chip} {p2 : ℕ} {p3 : ℕ} {p4 : ℕ} (hp1 : z.Keeps p1) : z.Keeps (Chip.resUnlock p1 p2 p3 p4) := by
  unfold Chip.resUnlock
  extract_lets +onlyGivenNames x1
  have hx1 : z.Keeps x1 := .ite (Chip.posLose_keeps (Chip.put_keeps hp1)) hp1
  clear_value x1
  exact Chip.posNote_keeps (Chip.put_keeps (Chip.put_keeps hx1))

theorem Chip.resEval_keeps {z : Chip} {p1 : Chip} {p2 : ℕ} {p3 : Option (ℤ × ℤ)} (hp1 : z.Keeps p1) : z.Keeps (Chip.resEval p1 p2 p3) := by
  unfold Chip.resEval
  split
  · rename_i y1 y2 q3
    extract_lets +onlyGivenNames x4
    clear_value x4
    extract_lets +onlyGivenNames x5
    clear_value x5
    extract_lets +onlyGivenNames x6
    clear_value x6
    extract_lets +onlyGivenNames x7
    extract_lets +onlyGivenNames x8
    have hx8 : z.Keeps x8 := Chip.set_keeps (Chip.set_keeps hp1)
    clear_value x8
    extract_lets +onlyGivenNames x9
    clear_value x9
    extract_lets +onlyGivenNames x10
    clear_value x10
    extract_lets +onlyGivenNames x11
    clear_value x11
    extract_lets +onlyGivenNames x12
    clear_value x12
    extract_lets +onlyGivenNames x13
    have hx13 : z.Keeps x13 := Chip.modPos_keeps hx8
    clear_value x13
    extract_lets +onlyGivenNames x14
    extract_lets +onlyGivenNames x15
    have hx15 : z.Keeps x15 := .ite (Chip.resUnlock_keeps hx13) hx13
    clear_value x15
    extract_lets +onlyGivenNames x16
    have hx16 : z.Keeps x16 := .ite (Chip.resUnlock_keeps hx15) hx15
    clear_value x16
    extract_lets +onlyGivenNames x17
    have hx17 : z.Keeps x17 := .ite (Chip.posOk_keeps (Chip.put_keeps (Chip.put_keeps hx16))) hx16
    clear_value x17
    extract_lets +onlyGivenNames x18
    clear_value x18
    extract_lets +onlyGivenNames x19
    clear_value x19
    extract_lets +onlyGivenNames x20
    have hx20 : z.Keeps x20 := .ite (Chip.put_keeps (Chip.put_keeps hx17)) hx17
    clear_value x20
    exact Chip.sets_keeps hx20
  · extract_lets +onlyGivenNames x23
    have hx23 : z.Keeps x23 := Chip.modPos_keeps hp1
    clear_value x23
    exact .ite (Chip.resUnlock_keeps hx23) hx23

theorem Chip.latchAngle_keeps {z : Chip} {p1 : Chip} {p2 : ℕ} (hp1 : z.Keeps p1) : z.Keeps (Chip.latchAngle p1 p2) := by
  unfold Chip.latchAngle
  extract_lets +onlyGivenNames x1
  extract_lets +onlyGivenNames x2
  clear_value x2
  extract_lets +onlyGivenNames x3
  clear_value x3
  extract_lets +onlyGivenNames x4
  extract_lets +onlyGivenNames x5
  extract_lets +onlyGivenNames x6
  exact Chip.set_keeps (Chip.modPos_keeps hp1)

theorem Chip.posEval_keeps {z : Chip} {p1 : Chip} {p2 : ℕ} (hp1 : z.Keeps p1) : z.Keeps (Chip.posEval p1 p2) := by
  unfold Chip.posEval
  extract_lets +onlyGivenNames x1
  clear_value x1
  extract_lets +onlyGivenNames x2
  have hx2 : z.Keeps x2 := .ite (Chip.evalSpeed_keeps hp1) (.ite (Chip.modPos_keeps (Chip.resEval_keeps hp1)) hp1)
  clear_value x2
  exact Chip.latchAngle_keeps hx2

theorem Chip.posEvent_keeps {z : Chip} {p1 : Chip} {p2 : ℕ} {p3 : Chip → Chip} (hp1 : z.Keeps p1) (hp3 : ∀ u1, z.Keeps u1 → z.Keeps (p3 u1)) : z.Keeps (Chip.posEvent p1 p2 p3) := by
  unfold Chip.posEvent
  extract_lets +onlyGivenNames x1
  extract_lets +onlyGivenNames x2
  clear_value x2
  extract_lets +onlyGivenNames x3
  have hx3 : z.Keeps x3 := .ite (Chip.set_keeps (Chip.modPos_keeps hp1)) hp1
  clear_value x3
  extract_lets +onlyGivenNames x4
  have hx4 : z.Keeps x4 := hp3 _ hx3
  clear_value x4
  extract_lets +onlyGivenNames x5
  have hx5 : z.Keeps x5 := .ite (Chip.posEval_keeps hx4) hx4
  clear_value x5
  exact .ite (Chip.posSnap_keeps hx5) hx5

theorem Chip.idxErr_keeps {z : Chip} {p1 : Chip} {p2 : ℕ} {p3 : ℤ} (hp1 : z.Keeps p1) : z.Keeps (Chip.idxErr p1 p2 p3) := by
  unfold Chip.idxErr
  exact Chip.posNote_keeps (Chip.put_keeps hp1)

theorem Chip.zeroCnt_keeps {z : Chip} {p1 : Chip} {p2 : ℕ} (hp1 : z.Keeps p1) : z.Keeps (Chip.zeroCnt p1 p2) := by
  unfold Chip.zeroCnt
  extract_lets +onlyGivenNames x1
  have hx1 : z.Keeps x1 := Chip.set_keeps hp1
  clear_value x1
  exact Chip.set_keeps hx1

theorem Chip.posIndex_keeps {z : Chip} {p1 : Chip} {p2 : ℕ} {p3 : Bool} (hp1 : z.Keeps p1) : z.Keeps (Chip.posIndex p1 p2 p3) := by
  unfold Chip.posIndex
  extract_lets +onlyGivenNames x1
  extract_lets +onlyGivenNames x2
  clear_value x2
  refine .ite hp1 ?_
  extract_lets +onlyGivenNames x3
  extract_lets +onlyGivenNames x4
  have hx4 : z.Keeps x4 := Chip.sets_keeps hp1
  clear_value x4
  extract_lets +onlyGivenNames x5
  have hx5 : z.Keeps x5 := Chip.modPos_keeps hx4
  clear_value x5
  extract_lets +onlyGivenNames x6
  have hx6 : ∀ w7, z.Keeps w7 → z.Keeps (x6 w7) := fun w7 hw7 => .ite hw7 (Chip.modPos_keeps hw7)
  clear_value x6
  refine .ite hx5 ?_
  refine .ite ?_ (.ite (hx6 _ (Chip.modPos_keeps (Chip.put_keeps (Chip.zeroCnt_keeps hx5)))) (.ite (Chip.posLose_keeps (Chip.idxErr_keeps hx5)) hx5))
  extract_lets +onlyGivenNames x8
  have hx8 : z.Keeps x8 := .ite (Chip.idxErr_keeps hx5) hx5
  clear_value x8
  exact hx6 _ (Chip.put_keeps (Chip.zeroCnt_keeps hx8))

theorem Chip.posTickEnd_keeps {z : Chip} {p1 : Chip} {p2 : ℕ} (hp1 : z.Keeps p1) : z.Keeps (Chip.posTickEnd p1 p2) := by
  unfold Chip.posTickEnd
  extract_lets +onlyGivenNames x1
  have hx1 : z.Keeps x1 := by
    unfold x1
    split
    · exact Chip.posEvent_keeps (Chip.modPos_keeps hp1) (fun v4 hv4 => Chip.posIndex_keeps hv4)
    · exact hp1
  clear_value x1
  extract_lets +onlyGivenNames x7
  clear_value x7
  exact Chip.modPos_keeps hx1

theorem Chip.sampleRef_keeps {z : Chip} {p1 : Chip} {p2 : ℕ} (hp1 : z.Keeps p1) : z.Keeps (Chip.sampleRef p1 p2) := by
  unfold Chip.sampleRef
  exact .ite hp1 (Chip.modMeas_keeps hp1)

theorem Chip.sampleNow_keeps {z : Chip} {p1 : Chip} {p2 : ℕ} (hp1 : z.Keeps p1) : z.Keeps (Chip.sampleNow p1 p2) := by
  unfold Chip.sampleNow
  refine .ite hp1 ?_
  refine Chip.atTick_keeps hp1 ?_
  intro v1 hv1
  extract_lets +onlyGivenNames x2
  clear_value x2
  extract_lets +onlyGivenNames x3
  clear_value x3
  extract_lets +onlyGivenNames x4
  have hx4 : z.Keeps x4 := Chip.modCl_keeps (Chip.sampleRef_keeps hv1)
  clear_value x4
  split
  · exact .ite hx4 (Chip.posEval_keeps hx4)
  · exact hx4

theorem Chip.reqAgain_keeps {z : Chip} {p1 : Chip} {p2 : ℕ} (hp1 : z.Keeps p1) : z.Keeps (Chip.reqAgain p1 p2) := by
  unfold Chip.reqAgain
  extract_lets +onlyGivenNames x1
  extract_lets +onlyGivenNames x2
  have hx2 : z.Keeps x2 := Chip.modCl_keeps hp1
  clear_value x2
  refine .ite hx2 ?_
  extract_lets +onlyGivenNames x3
  have hx3 : z.Keeps x3 := .ite (Chip.put_keeps (Chip.modCl_keeps hx2)) hx2
  clear_value x3
  exact Chip.handleReq_keeps hx3

theorem Chip.tickEnd_keeps {z : Chip} {p1 : Chip} (hp1 : z.Keeps p1) : z.Keeps (Chip.tickEnd p1) := by
  unfold Chip.tickEnd
  extract_lets +onlyGivenNames x1
  have hx1 : z.Keeps x1 := .each hp1 (fun a2 t3 ht3 => Chip.sourceTickEnd_keeps (Chip.posTickEnd_keeps ht3))
  clear_value x1
  refine .each hx1 ?_
  intro a4 t5 ht5
  extract_lets +onlyGivenNames x6
  have hx6 : z.Keeps x6 := .ite (Chip.sampleNow_keeps ht5) ht5
  clear_value x6
  exact Chip.catchPulse_keeps (Chip.refall_keeps (Chip.reqAgain_keeps (Chip.cmpTick_keeps hx6)))

theorem Chip.startDue_keeps {z : Chip} {p1 : Chip} {p2 : ℕ} (hp1 : z.Keeps p1) : z.Keeps (Chip.startDue p1 p2) := by
  unfold Chip.startDue
  extract_lets +onlyGivenNames x1
  exact .ite (Chip.modSlice_keeps (Chip.startSlice_keeps hp1)) hp1

theorem Chip.holdWatch_keeps {z : Chip} {p1 : Chip} {p2 : ℕ} (hp1 : z.Keeps p1) : z.Keeps (Chip.holdWatch p1 p2) := by
  unfold Chip.holdWatch
  extract_lets +onlyGivenNames x1
  exact .ite hp1 (Chip.modSlice_keeps hp1)

theorem Chip.forceDue_keeps {z : Chip} {p1 : Chip} {p2 : ℕ} (hp1 : z.Keeps p1) : z.Keeps (Chip.forceDue p1 p2) := by
  unfold Chip.forceDue
  extract_lets +onlyGivenNames x1
  clear_value x1
  extract_lets +onlyGivenNames x2
  clear_value x2
  refine .ite hp1 ?_
  extract_lets +onlyGivenNames x3
  clear_value x3
  extract_lets +onlyGivenNames x4
  clear_value x4
  extract_lets +onlyGivenNames x5
  clear_value x5
  extract_lets +onlyGivenNames x6
  have hx6 : z.Keeps x6 := Chip.modSlice_keeps (Chip.accrue_keeps hp1)
  clear_value x6
  extract_lets +onlyGivenNames x7
  clear_value x7
  extract_lets +onlyGivenNames x8
  clear_value x8
  extract_lets +onlyGivenNames x9
  clear_value x9
  extract_lets +onlyGivenNames x10
  clear_value x10
  extract_lets +onlyGivenNames x11
  have hx11 : z.Keeps x11 := .ite hx6 (Chip.fallL_keeps hx6)
  clear_value x11
  extract_lets +onlyGivenNames x12
  have hx12 : z.Keeps x12 := .ite hx11 (Chip.fallH_keeps hx11)
  clear_value x12
  extract_lets +onlyGivenNames x13
  have hx13 : z.Keeps x13 := Chip.modSlice_keeps hx12
  clear_value x13
  extract_lets +onlyGivenNames x14
  clear_value x14
  extract_lets +onlyGivenNames x15
  have hx15 : z.Keeps x15 := .ite (Chip.riseH_keeps hx13) hx13
  clear_value x15
  extract_lets +onlyGivenNames x16
  have hx16 : z.Keeps x16 := .ite (Chip.riseL_keeps hx15) hx15
  clear_value x16
  exact Chip.checkSlice_keeps (Chip.outputs_keeps (Chip.dropGates_keeps hx16))

theorem Chip.sliceTick_keeps {z : Chip} {p1 : Chip} (hp1 : z.Keeps p1) : z.Keeps (Chip.sliceTick p1) := by
  unfold Chip.sliceTick
  extract_lets +onlyGivenNames x1
  extract_lets +onlyGivenNames x2
  have hx2 : z.Keeps x2 := .each hp1 (fun a3 t4 ht4 => .ite ht4 (Chip.startDue_keeps ht4))
  clear_value x2
  extract_lets +onlyGivenNames x5
  have hx5 : z.Keeps x5 := .each hx2 (fun a6 t7 ht7 => Chip.startDue_keeps ht7)
  clear_value x5
  exact .each hx5 (fun a8 t9 ht9 => Chip.holdWatch_keeps (Chip.forceDue_keeps (.ite (Chip.bcmTick_keeps ht9) ht9)))

theorem Chip.txStart_keeps {z : Chip} {p1 : Chip} {p2 : ℕ} (hp1 : z.Keeps p1) : z.Keeps (Chip.txStart p1 p2) := by
  unfold Chip.txStart
  extract_lets +onlyGivenNames x1
  refine .ite ?_ hp1
  split
  · exact Chip.modCan_keeps hp1
  · exact hp1

theorem Chip.scanSamples_keeps {z : Chip} {p1 : Chip} (hp1 : z.Keeps p1) : z.Keeps (Chip.scanSamples p1) := by
  unfold Chip.scanSamples
  exact (Chip.Keeps.same hp1 rfl rfl rfl rfl)

theorem Chip.sdTick_keeps {z : Chip} {p1 : Chip} (hp1 : z.Keeps p1) : z.Keeps (Chip.sdTick p1) := by
  unfold Chip.sdTick
  extract_lets +onlyGivenNames x1
  exact .ite hp1 (Chip.useFree_keeps (.each hp1 (fun a2 t3 ht3 => Chip.set_keeps ht3)))

theorem Chip.fabTick_keeps {z : Chip} {p1 : Chip} (hp1 : z.Keeps p1) : z.Keeps (Chip.fabTick p1) := by
  unfold Chip.fabTick
  extract_lets +onlyGivenNames x1
  clear_value x1
  refine .ite (Chip.Keeps.same hp1 rfl rfl rfl rfl) ?_
  extract_lets +onlyGivenNames x2
  have hx2 : z.Keeps x2 := Chip.useFree_keeps hp1
  clear_value x2
  exact (Chip.Keeps.same hx2 rfl rfl rfl rfl)

theorem Chip.ringTick_keeps {z : Chip} {p1 : Chip} (hp1 : z.Keeps p1) : z.Keeps (Chip.ringTick p1) := by
  unfold Chip.ringTick
  refine .ite hp1 ?_
  extract_lets +onlyGivenNames x1
  have hx1 : ∀ w2, z.Keeps w2 → ∀ w3, ∀ w4, z.Keeps (x1 w2 w3 w4) := fun w2 hw2 w3 w4 => Chip.modRing_keeps hw2
  clear_value x1
  split
  · exact .ite (hx1 _ (Chip.modRing_keeps hp1) _ _) hp1
  · exact .ite (hx1 _ (Chip.modRing_keeps hp1) _ _) hp1
  · split
    · rename_i y19 q20
      extract_lets +onlyGivenNames x21
      refine .ite ?_ hp1
      extract_lets +onlyGivenNames x22
      have hx22 : z.Keeps x22 := Chip.modMsg_keeps hp1
      clear_value x22
      extract_lets +onlyGivenNames x23
      have hx23 : z.Keeps x23 := Chip.bump_keeps hx22
      clear_value x23
      exact hx1 _ hx23 _ _
    · exact hp1

theorem Chip.diodePass_keeps {z : Chip} {p1 : Chip} {p2 : ℕ} (hp1 : z.Keeps p1) : z.Keeps (Chip.diodePass p1 p2) := by
  unfold Chip.diodePass
  exact Chip.modCl_keeps hp1

theorem Chip.diodeWatch_keeps {z : Chip} {p1 : Chip} {p2 : ℕ} {p3 : List ℕ} (hp1 : z.Keeps p1) : z.Keeps (Chip.diodeWatch p1 p2 p3) := by
  unfold Chip.diodeWatch
  extract_lets +onlyGivenNames x1
  clear_value x1
  exact .ite (Chip.modCl_keeps hp1) hp1

theorem Chip.drainFor_keeps {z : Chip} {p1 : Chip} {p2 : Requester} {p3 : ℕ} (hp1 : z.Keeps p1) : z.Keeps (Chip.drainFor p1 p2 p3) := by
  unfold Chip.drainFor
  exact .ite (Chip.drainAll_keeps hp1) (Chip.drainN_keeps hp1)

theorem Chip.dupInputs_keeps {z : Chip} {p1 : Chip} {p2 : ℕ} {p3 : Upset} (hp1 : z.Keeps p1) : z.Keeps (Chip.dupInputs p1 p2 p3) := by
  unfold Chip.dupInputs
  split
  · exact .ite hp1 (Chip.faultCl_keeps hp1)
  · exact hp1

theorem Chip.takeover_keeps {z : Chip} {p1 : Chip} {p2 : ℕ} {p3 : ℕ} (hp1 : z.Keeps p1) : z.Keeps (Chip.takeover p1 p2 p3) := by
  unfold Chip.takeover
  extract_lets +onlyGivenNames x1
  have hx1 : z.Keeps x1 := Chip.sets_keeps (Chip.modCl_keeps hp1)
  clear_value x1
  exact Chip.noteCl_keeps (Chip.resetEngine_keeps hx1)

theorem Chip.engineFault_keeps {z : Chip} {p1 : Chip} {p2 : ℕ} {p3 : ℕ} (hp1 : z.Keeps p1) : z.Keeps (Chip.engineFault p1 p2 p3) := by
  unfold Chip.engineFault
  extract_lets +onlyGivenNames x1
  have hx1 : z.Keeps x1 := Chip.put_keeps hp1
  clear_value x1
  exact .ite (Chip.faultCl_keeps hx1) (.ite (Chip.takeover_keeps (Chip.record_keeps hx1)) (Chip.faultCl_keeps hx1))

theorem Chip.engineRead_keeps {z : Chip} {p1 : Chip} {p2 : ℕ} {p3 : ℕ} {p4 : ℕ} {p5 : ℕ} (hp1 : z.Keeps p1) :
    z.Keeps (Chip.engineRead p1 p2 p3 p4 p5).1 :=
  .iteP hp1 (.foldlP (β := Option ℕ) (.fst (.ite (Chip.reachGate_keeps hp1) hp1)) fun _ _ ht => .iteP ht (Chip.eccRead_keeps ht))

theorem Chip.flashReady_keeps {z : Chip} {p1 : Chip} {p2 : ℕ} (hp1 : z.Keeps p1) : z.Keeps (Chip.flashReady p1 p2).1 := by
  unfold Chip.flashReady
  extract_lets +onlyGivenNames x1
  have hx1 : z.Keeps x1 := .ite hp1 (Chip.submitWrite_keeps hp1)
  clear_value x1
  exact .fst hx1

theorem Chip.flashItem_keeps {z : Chip} {p1 : Chip} {p2 : ℕ} {p3 : ℕ} {p4 : ℕ} {p5 : Bool} {p6 : DescS → Chip → List Byte} (hp1 : z.Keeps p1) : z.Keeps (Chip.flashItem p1 p2 p3 p4 p5 p6) := by
  unfold Chip.flashItem
  refine Chip.descItem_keeps hp1 ?_
  intro v1 v2 hv2
  refine .ite (Chip.descEnd_keeps hv2) ?_
  split
  · rename_i y3 y4 q5
    have hy3 : z.Keeps y3 := by
      have hh := congrArg Prod.fst q5
      dsimp only at hh
      rw [← hh]
      exact Chip.flashReady_keeps hv2
    refine .ite (Chip.hwShow_keeps hy3) ?_
    extract_lets +onlyGivenNames x6
    clear_value x6
    extract_lets +onlyGivenNames x7
    have hx7 : z.Keeps x7 := Chip.eccFresh_keeps (Chip.dropWrite_keeps hy3)
    clear_value x7
    exact .ite (Chip.hwAbortRun_keeps (Chip.descMore_keeps (Chip.setBytes_keeps hx7))) (Chip.descEnd_keeps (Chip.useFree_keeps (Chip.setBytes_keeps hx7)))

theorem Chip.eraseItem_keeps {z : Chip} {p1 : Chip} {p2 : ℕ} {p3 : Bool} (hp1 : z.Keeps p1) : z.Keeps (Chip.eraseItem p1 p2 p3) := by
  unfold Chip.eraseItem
  exact Chip.flashItem_keeps hp1

theorem Chip.evalSection_keeps {z : Chip} {p1 p2 p3 : ℕ} {p4 : Bool} {p5 : LoopRun} {p6 : ℕ} (hp5 : z.Keeps p5.chip) :
    z.Keeps (Chip.evalSection p1 p2 p3 p4 p5 p6).chip := by
  unfold Chip.evalSection
  split
  · exact hp5
  · extract_lets +onlyGivenNames s x b0 b1 b2 a1 a2 ty c s1 s2 y0
    have hp : z.Keeps (if ((F32.isFinite y0 || F32.isInf y0) && (ty == 1 || ty == 2)) = true then s.cleClamp p1 p2 p3 y0 else (s, y0, false)).1 :=
      .iteP (Chip.cleClamp_keeps hp5) hp5
    generalize (if ((F32.isFinite y0 || F32.isInf y0) && (ty == 1 || ty == 2)) = true then s.cleClamp p1 p2 p3 y0 else (s, y0, false)) = p at hp
    obtain ⟨t, y, cl⟩ := p
    refine .iteL (Chip.modCle_keeps hp) ?_
    dsimp only
    exact .ite (Chip.put_keeps (Chip.modCle_keeps hp)) (Chip.faultCl_keeps (Chip.put_keeps (Chip.modCle_keeps hp)))

theorem Chip.feStep_keeps {z : Chip} {p1 : Chip} {p2 : ℕ} {p3 : ℕ} {p4 : ℕ} {p5 : ℕ} {p6 : LoopIn} (hp1 : z.Keeps p1) : z.Keeps (Chip.feStep p1 p2 p3 p4 p5 p6) := by
  unfold Chip.feStep
  refine .ite hp1 ?_
  extract_lets +onlyGivenNames x1
  extract_lets +onlyGivenNames x2
  clear_value x2
  extract_lets +onlyGivenNames x3
  clear_value x3
  refine .ite (Chip.feZero_keeps hp1) ?_
  extract_lets +onlyGivenNames x4
  clear_value x4
  exact Chip.set_keeps (Chip.modCle_keeps hp1)

theorem Chip.evalList_keeps {z : Chip} {p1 p2 : ℕ} {p3 : LoopIn} {p4 : LoopRun} {p5 : ℕ} (hp4 : z.Keeps p4.chip) :
    z.Keeps (Chip.evalList p1 p2 p3 p4 p5).chip := by
  unfold Chip.evalList
  split
  · exact hp4
  · extract_lets +onlyGivenNames s x d fr secs r
    have hr : z.Keeps r.chip := by
      have key : ∀ (l : List ℕ) (q : LoopRun), z.Keeps q.chip → z.Keeps (l.foldl (Chip.evalSection p1 p2 p5 fr) q).chip := by
        intro l
        induction l with
        | nil => intro q hq; exact hq
        | cons m l ih => intro q hq; exact ih _ (Chip.evalSection_keeps hq)
      exact key _ _ (Chip.setBitOf_keeps hp4)
    clear_value r
    split
    · exact hr
    · exact Chip.modCle_keeps (Chip.set_keeps (Chip.feStep_keeps (Chip.cleClamp_keeps hr)))

theorem Chip.faultOff_keeps {z : Chip} {p1 : Chip} {p2 : ℕ} (hp1 : z.Keeps p1) : z.Keeps (Chip.faultOff p1 p2) := by
  unfold Chip.faultOff
  extract_lets +onlyGivenNames x1
  clear_value x1
  exact Chip.modIsl_keeps hp1

theorem Chip.fenceInstr_keeps {z : Chip} {p1 : Chip} {p2 : ℕ} (hp1 : z.Keeps p1) : z.Keeps (Chip.fenceInstr p1 p2) := by
  unfold Chip.fenceInstr
  refine .ite hp1 ?_
  extract_lets +onlyGivenNames x1
  have hx1 : z.Keeps x1 := Chip.drain_keeps hp1
  clear_value x1
  extract_lets +onlyGivenNames x2
  have hx2 : z.Keeps x2 := Chip.retire_keeps (Chip.modHart_keeps hx1)
  clear_value x2
  exact (Chip.Keeps.same hx2 rfl rfl rfl rfl)

theorem Chip.fetchEntry_keeps {z : Chip} {p1 : Chip} (hp1 : z.Keeps p1) : z.Keeps (Chip.fetchEntry p1) := by
  unfold Chip.fetchEntry
  split
  · exact hp1
  · rename_i y3 q4
    extract_lets +onlyGivenNames x5
    clear_value x5
    extract_lets +onlyGivenNames x6
    clear_value x6
    extract_lets +onlyGivenNames x7
    extract_lets +onlyGivenNames x8
    have hx8 : z.Keeps x8 := Chip.modHwQ_keeps hp1
    clear_value x8
    extract_lets +onlyGivenNames x9
    have hx9 : z.Keeps x9 := Chip.modHw_keeps hx8
    clear_value x9
    exact Chip.hwShow_keeps (Chip.set_keeps hx9)

theorem Chip.fetchFail_keeps {z : Chip} {p1 : Chip} {p2 : ℕ} {p3 : ℕ} (hp1 : z.Keeps p1) : z.Keeps (Chip.fetchFail p1 p2 p3) := by
  unfold Chip.fetchFail
  exact .ite (Chip.halt_keeps (Chip.trap_keeps hp1)) (.ite hp1 (Chip.trap_keeps hp1))

theorem Chip.fetchParcel_keeps {z : Chip} {p1 : Chip} {p2 : ℕ} {p3 : ℕ} {p4 : ℕ} (hp1 : z.Keeps p1) : z.Keeps (Chip.fetchParcel p1 p2 p3 p4).1 := by
  unfold Chip.fetchParcel
  extract_lets +onlyGivenNames x1
  clear_value x1
  extract_lets +onlyGivenNames x2
  clear_value x2
  refine .iteP (.fst hp1) ?_
  split
  · rename_i y3 y4 q5
    have hy3 : z.Keeps y3 := by
      have hh := congrArg Prod.fst q5
      dsimp only at hh
      rw [← hh]
      exact Chip.eccRead_keeps hp1
    exact .fst (.ite (Chip.Keeps.same hy3 rfl rfl rfl rfl) hy3)

theorem Chip.fetchInstr_keeps {z : Chip} {p1 : Chip} {p2 : ℕ} {p3 : ℕ} {p4 : ℕ} (hp1 : z.Keeps p1) : z.Keeps (Chip.fetchInstr p1 p2 p3 p4) := by
  unfold Chip.fetchInstr
  extract_lets +onlyGivenNames x1
  refine .ite hp1 ?_
  extract_lets +onlyGivenNames x2
  have hx2 : z.Keeps x2 := Chip.modHart_keeps hp1
  clear_value x2
  refine .ite (Chip.trap_keeps hx2) ?_
  split
  · rename_i y3 q4
    have hy3 : z.Keeps y3 := by
      have hh := congrArg Prod.fst q4
      dsimp only at hh
      rw [← hh]
      exact Chip.fetchParcel_keeps hx2
    exact Chip.fetchFail_keeps hy3
  · rename_i y5 q6
    have hy5 : z.Keeps y5 := by
      have hh := congrArg Prod.fst q6
      dsimp only at hh
      rw [← hh]
      exact Chip.fetchParcel_keeps hx2
    extract_lets +onlyGivenNames x7
    clear_value x7
    extract_lets +onlyGivenNames x8
    have hx8 : ∀ w9, z.Keeps w9 → z.Keeps (x8 w9) := fun w9 hw9 => Chip.modHart_keeps hw9
    clear_value x8
    refine .ite (hx8 _ hy5) ?_
    refine .ite (Chip.trap_keeps hy5) ?_
    split
    · rename_i y10 q11
      have hy10 : z.Keeps y10 := by
        have hh := congrArg Prod.fst q11
        dsimp only at hh
        rw [← hh]
        exact Chip.fetchParcel_keeps hy5
      exact Chip.fetchFail_keeps hy10
    · rename_i y12 q13
      have hy12 : z.Keeps y12 := by
        have hh := congrArg Prod.fst q13
        dsimp only at hh
        rw [← hh]
        exact Chip.fetchParcel_keeps hy5
      exact hx8 _ hy12

theorem Chip.fetchItem_keeps {z : Chip} {p1 : Chip} {p2 : ℕ} {p3 : ℕ} {p4 : ℕ} (hp1 : z.Keeps p1) : z.Keeps (Chip.fetchItem p1 p2 p3 p4) := by
  unfold Chip.fetchItem
  refine Chip.descItem_keeps hp1 ?_
  intro v1 v2 hv2
  extract_lets +onlyGivenNames x3
  clear_value x3
  split
  · rename_i y4 y5 y6 q7
    have hy4 : z.Keeps y4 := by
      have hh := congrArg Prod.fst q7
      dsimp only at hh
      rw [← hh]
      exact Chip.engineRead_keeps hv2
    exact Chip.descEnd_keeps hy4
  · rename_i y8 y9 q10
    have hy8 : z.Keeps y8 := by
      have hh := congrArg Prod.fst q10
      dsimp only at hh
      rw [← hh]
      exact Chip.engineRead_keeps hv2
    exact Chip.descMore_keeps (Chip.setBytes_keeps hy8)

theorem Chip.fieldWeaken_keeps {z : Chip} {p1 : Chip} {p2 : ℕ} {p3 : ℕ} (hp1 : z.Keeps p1) : z.Keeps (Chip.fieldWeaken p1 p2 p3) := by
  unfold Chip.fieldWeaken
  refine .ite ?_ (Chip.put_keeps hp1)
  extract_lets +onlyGivenNames x1
  clear_value x1
  extract_lets +onlyGivenNames x2
  clear_value x2
  exact Chip.put_keeps (Chip.set_keeps hp1)

theorem Chip.fill_keeps {z : Chip} {p1 : Chip} {p2 : ℕ} {p3 : ℕ} {p4 : Byte} (hp1 : z.Keeps p1) : z.Keeps (Chip.fill p1 p2 p3 p4) := by
  unfold Chip.fill
  exact Chip.setBytes_keeps hp1

theorem Chip.showLimit_keeps {z : Chip} {p1 : Chip} {p2 : ℕ} {p3 : Bool} (hp1 : z.Keeps p1) : z.Keeps (Chip.showLimit p1 p2 p3) := by
  unfold Chip.showLimit
  extract_lets +onlyGivenNames x1
  have hx1 : z.Keeps x1 := Chip.put_keeps hp1
  clear_value x1
  exact .ite (Chip.put_keeps hx1) hx1

theorem Chip.references_keeps {z : Chip} {p1 : Chip} {p2 : ℕ} {p3 : ℕ} {p4 : ℕ} {p5 : ℕ} (hp1 : z.Keeps p1) : z.Keeps (Chip.references p1 p2 p3 p4 p5).1 := by
  unfold Chip.references
  refine .iteP ?_ ?_
  · split <;> exact .fst (Chip.showLimit_keeps (Chip.put_keeps (Chip.set_keeps hp1)))
  · refine .iteP ?_ ?_
    · split <;> exact .fst (Chip.showLimit_keeps (Chip.put_keeps hp1))
    · refine .iteP (.fst (Chip.showLimit_keeps (Chip.put_keeps (Chip.modCl_keeps hp1)))) ?_
      split
      · rename_i y9 y10 q11
        extract_lets +onlyGivenNames x12
        have hx12 : z.Keeps x12 := Chip.sets_keeps hp1
        clear_value x12
        extract_lets +onlyGivenNames x13
        clear_value x13
        split
        · rename_i y14 y15 y16 q17
          extract_lets +onlyGivenNames x18
          clear_value x18
          extract_lets +onlyGivenNames x19
          have hx19 : z.Keeps x19 := Chip.put_keeps hx12
          clear_value x19
          extract_lets +onlyGivenNames x20
          have hx20 : z.Keeps x20 := .ite (Chip.put_keeps hx19) hx19
          clear_value x20
          extract_lets +onlyGivenNames x21
          have hx21 : z.Keeps x21 := Chip.fieldWeaken_keeps hx20
          clear_value x21
          extract_lets +onlyGivenNames x22
          clear_value x22
          split
          · rename_i y23 y24 q25
            split <;> exact .fst (Chip.showLimit_keeps hx21)

theorem Chip.unlimited_keeps {z : Chip} {p1 : Chip} {p2 : ℕ} (hp1 : z.Keeps p1) : z.Keeps (Chip.unlimited p1 p2) := by
  unfold Chip.unlimited
  exact Chip.sets_keeps (Chip.modCl_keeps hp1)

theorem Chip.skipLists_keeps {z : Chip} {p1 : Chip} {p2 : ℕ} {p3 : ℕ} (hp1 : z.Keeps p1) : z.Keeps (Chip.skipLists p1 p2 p3) := by
  unfold Chip.skipLists
  extract_lets +onlyGivenNames x1
  have hx1 : z.Keeps x1 := Chip.sets_keeps hp1
  clear_value x1
  exact .ite (Chip.modCle_keeps hx1) hx1

theorem Chip.overrun_keeps {z : Chip} {p1 : Chip} {p2 : ℕ} (hp1 : z.Keeps p1) : z.Keeps (Chip.overrun p1 p2) := by
  unfold Chip.overrun
  extract_lets +onlyGivenNames x1
  have hx1 : z.Keeps x1 := Chip.put_keeps hp1
  clear_value x1
  extract_lets +onlyGivenNames x2
  clear_value x2
  exact .ite (Chip.faultCl_keeps (Chip.modCl_keeps hx1)) (Chip.modCl_keeps hx1)

theorem Chip.writeCompares_keeps {z : Chip} {p1 : Chip} {p2 : ℕ} {p3 : ℕ} {p4 : List (ℕ × ℕ)} (hp1 : z.Keeps p1) : z.Keeps (Chip.writeCompares p1 p2 p3 p4) := by
  unfold Chip.writeCompares
  extract_lets +onlyGivenNames x1
  clear_value x1
  refine .ite (Chip.overrun_keeps hp1) ?_
  extract_lets +onlyGivenNames x2
  have hx2 : z.Keeps x2 := Chip.modCl_keeps hp1
  clear_value x2
  extract_lets +onlyGivenNames x3
  clear_value x3
  extract_lets +onlyGivenNames x4
  have hx4 : z.Keeps x4 := Chip.set_keeps hx2
  clear_value x4
  extract_lets +onlyGivenNames x5
  have hx5 : z.Keeps x5 := Chip.set_keeps hx4
  clear_value x5
  exact Chip.modCl_keeps hx5

theorem Chip.fluxStage_keeps {z : Chip} {p1 : Chip} {p2 : ℕ} {p3 : ℕ} {p4 : ℕ} {p5 : ℕ} (hp1 : z.Keeps p1) : z.Keeps (Chip.fluxStage p1 p2 p3 p4 p5) := by
  unfold Chip.fluxStage
  extract_lets +onlyGivenNames x1
  clear_value x1
  split
  · rename_i y2 y3 y4 q5
    have hy2 : z.Keeps y2 := by
      have hh := congrArg Prod.fst q5
      dsimp only at hh
      rw [← hh]
      exact Chip.references_keeps (Chip.unlimited_keeps hp1)
    extract_lets +onlyGivenNames x6
    have hx6 : z.Keeps x6 := .each (Chip.sets_keeps hy2) (fun a7 t8 ht8 => Chip.skipLists_keeps ht8)
    clear_value x6
    extract_lets +onlyGivenNames x9
    clear_value x9
    extract_lets +onlyGivenNames x10
    clear_value x10
    extract_lets +onlyGivenNames x11
    clear_value x11
    extract_lets +onlyGivenNames x12
    exact Chip.writeCompares_keeps (Chip.Keeps.same hx6 rfl rfl rfl rfl)

theorem Chip.fullEnd_keeps {z : Chip} {p1 : Chip} {p2 : ℕ} {p3 : SlotOutcome} {p4 : TestOutcome} (hp1 : z.Keeps p1) : z.Keeps (Chip.fullEnd p1 p2 p3 p4) := by
  unfold Chip.fullEnd
  extract_lets +onlyGivenNames x1
  clear_value x1
  extract_lets +onlyGivenNames x2
  clear_value x2
  extract_lets +onlyGivenNames x3
  have hx3 : z.Keeps x3.1 := by
    unfold x3
    exact Chip.slotTests_keeps hp1
  clear_value x3
  extract_lets +onlyGivenNames x4
  have hx4 : z.Keeps x4.1 := by
    unfold x4
    exact .iteP (Chip.slotRest_keeps hx3) (.fst hx3)
  clear_value x4
  extract_lets +onlyGivenNames x5
  have hx5 : z.Keeps x5 := Chip.cmpTest_keeps hx4
  clear_value x5
  extract_lets +onlyGivenNames x6
  have hx6 : z.Keeps x6 := .each hx5 (fun a7 t8 ht8 => Chip.islandReset_keeps ht8)
  clear_value x6
  extract_lets +onlyGivenNames x9
  have hx9 : z.Keeps x9 := .ite (Chip.slotHandshake_keeps hx6) hx4
  clear_value x9
  extract_lets +onlyGivenNames x10
  have hx10 : z.Keeps x10 := Chip.modCfg_keeps (Chip.put_keeps hx9)
  clear_value x10
  exact Chip.testHolds_keeps (Chip.showSt_keeps (Chip.put_keeps hx10))

theorem Chip.glitchCheck_keeps {z : Chip} {p1 : Chip} {p2 : ℕ} {p3 : Bool} {p4 : Bool} (hp1 : z.Keeps p1) : z.Keeps (Chip.glitchCheck p1 p2 p3 p4) := by
  unfold Chip.glitchCheck
  extract_lets +onlyGivenNames x1
  extract_lets +onlyGivenNames x2
  clear_value x2
  extract_lets +onlyGivenNames x3
  have hx3 : ∀ w4, ∀ w5, z.Keeps w5 → z.Keeps (x3 w4 w5) := fun w4 w5 hw5 => Chip.modPos_keeps hw5
  clear_value x3
  split
  · rename_i y6 y7 q8
    refine .ite ?_ (hx3 _ _ hp1)
    extract_lets +onlyGivenNames x9
    have hx9 : z.Keeps x9 := .ite hp1 (Chip.posNote_keeps hp1)
    clear_value x9
    exact Chip.bump_keeps (Chip.put_keeps (hx3 _ _ hx9))
  · exact hx3 _ _ hp1

theorem Chip.speedEdge_keeps {z : Chip} {p1 : Chip} {p2 : ℕ} {p3 : Bool} {p4 : ℕ} (hp1 : z.Keeps p1) : z.Keeps (Chip.speedEdge p1 p2 p3 p4) := by
  unfold Chip.speedEdge
  extract_lets +onlyGivenNames x1
  have hx1 : z.Keeps x1 := .ite (Chip.declareStandstill_keeps hp1) hp1
  clear_value x1
  extract_lets +onlyGivenNames x2
  extract_lets +onlyGivenNames x3
  clear_value x3
  extract_lets +onlyGivenNames x4
  clear_value x4
  extract_lets +onlyGivenNames x5
  have hx5 : z.Keeps x5 := .ite (Chip.put_keeps hx1) hx1
  clear_value x5
  extract_lets +onlyGivenNames x6
  have hx6 : z.Keeps x6 := Chip.put_keeps (Chip.put_keeps hx5)
  clear_value x6
  extract_lets +onlyGivenNames x7
  have hx7 : z.Keeps x7 := Chip.put_keeps (Chip.set_keeps hx6)
  clear_value x7
  extract_lets +onlyGivenNames x8
  clear_value x8
  extract_lets +onlyGivenNames x9
  have hx9 : z.Keeps x9 := Chip.put_keeps (Chip.set_keeps hx6)
  clear_value x9
  extract_lets +onlyGivenNames x10
  have hx10 : z.Keeps x10 := .ite (Chip.modPos_keeps hx7) (.ite (Chip.modPos_keeps hx9) hx6)
  clear_value x10
  exact Chip.set_keeps (Chip.modPos_keeps hx10)

theorem Chip.hallDeliver_keeps {z : Chip} {p1 : Chip} {p2 : ℕ} {p3 : ℕ} (hp1 : z.Keeps p1) : z.Keeps (Chip.hallDeliver p1 p2 p3) := by
  unfold Chip.hallDeliver
  extract_lets +onlyGivenNames x1
  clear_value x1
  extract_lets +onlyGivenNames x2
  have hx2 : z.Keeps x2 := Chip.set_keeps hp1
  clear_value x2
  refine .ite hx2 ?_
  extract_lets +onlyGivenNames x3
  clear_value x3
  refine .ite ?_ ?_
  · extract_lets +onlyGivenNames x4
    have hx4 : z.Keeps x4 := Chip.modPos_keeps (Chip.put_keeps (Chip.posLose_keeps hx2))
    clear_value x4
    exact .ite hx4 (Chip.posNote_keeps hx4)
  · refine .ite (Chip.hallCentre_keeps (Chip.modPos_keeps (Chip.posOk_keeps hx2))) ?_
    extract_lets +onlyGivenNames x5
    clear_value x5
    extract_lets +onlyGivenNames x6
    clear_value x6
    refine .ite ?_ ?_
    · extract_lets +onlyGivenNames x7
      have hx7 : z.Keeps x7 := Chip.speedEdge_keeps (Chip.posOk_keeps hx2)
      clear_value x7
      exact Chip.modPos_keeps (Chip.set_keeps hx7)
    · refine .ite ?_ ?_
      · extract_lets +onlyGivenNames x8
        have hx8 : z.Keeps x8 := Chip.speedEdge_keeps (Chip.posOk_keeps hx2)
        clear_value x8
        exact Chip.modPos_keeps (Chip.set_keeps hx8)
      · extract_lets +onlyGivenNames x9
        have hx9 : z.Keeps x9 := Chip.posNote_keeps (Chip.put_keeps (Chip.posLose_keeps hx2))
        clear_value x9
        exact Chip.hallCentre_keeps (Chip.modPos_keeps hx9)

theorem Chip.hostFence_keeps {z : Chip} {p1 : Chip} (hp1 : z.Keeps p1) : z.Keeps (Chip.hostFence p1) := by
  unfold Chip.hostFence
  exact Chip.drainAll_keeps hp1

theorem Chip.portLate_keeps {z : Chip} {p1 : Chip} {p2 : ℕ} (hp1 : z.Keeps p1) : z.Keeps (Chip.portLate p1 p2) := by
  unfold Chip.portLate
  exact Chip.firstNote_keeps (Chip.modHw_keeps hp1)

theorem Chip.hostPiece_keeps {z : Chip} {p1 : Chip} {p2 : ℕ} {p3 : ℕ} {p4 : Bool} (hp1 : z.Keeps p1) : z.Keeps (Chip.hostPiece p1 p2 p3 p4).1 := by
  unfold Chip.hostPiece
  split
  · exact .fst hp1
  · rename_i y3 q4
    extract_lets +onlyGivenNames x5
    have hx5 : z.Keeps x5 := Chip.drainUnit_keeps hp1
    clear_value x5
    exact .fst hx5
  · rename_i y6 q7
    extract_lets +onlyGivenNames x8
    have hx8 : z.Keeps x8 := Chip.drainUnit_keeps hp1
    clear_value x8
    exact .fst hx8
  · rename_i y9 q10
    refine .iteP (.fst hp1) ?_
    extract_lets +onlyGivenNames x11
    have hx11 : z.Keeps x11 := .ite (Chip.drainAll_keeps hp1) (Chip.drainUnit_keeps hp1)
    clear_value x11
    split
    · rename_i y12 y13 q14
      have hy12 : z.Keeps y12 := by
        have hh := congrArg Prod.fst q14
        dsimp only at hh
        rw [← hh]
        exact Chip.regRead_keeps hx11
      exact .iteP (.fst (Chip.portLate_keeps hy12)) (.fst hy12)

theorem Chip.portProto_keeps {z : Chip} {p1 : Chip} {p2 : ℕ} {p3 : Bool} (hp1 : z.Keeps p1) : z.Keeps (Chip.portProto p1 p2 p3) := by
  unfold Chip.portProto
  extract_lets +onlyGivenNames x1
  have hx1 : z.Keeps x1 := Chip.put_keeps (Chip.modHw_keeps hp1)
  clear_value x1
  exact Chip.note_keeps hx1

theorem Chip.portOut_keeps {z : Chip} {p1 : Chip} {p2 : List Byte} (hp1 : z.Keeps p1) : z.Keeps (Chip.portOut p1 p2) := by
  unfold Chip.portOut
  exact Chip.modHw_keeps hp1

theorem Chip.hostRead_keeps {z : Chip} {p1 : Chip} {p2 : ℕ} {p3 : ℕ} {p4 : List ℕ} (hp1 : z.Keeps p1) :
    z.Keeps (Chip.hostRead p1 p2 p3 p4) := by
  unfold Chip.hostRead
  refine .ite (Chip.portProto_keeps hp1) ?_
  extract_lets +onlyGivenNames ps
  generalize hq : List.foldl _ _ ps = r
  have hr : z.Keeps r.1 := by
    rw [← hq]
    exact .foldlP (β := List Byte × Option ℕ) hp1 fun _ _ ht => Chip.hostPiece_keeps ht
  obtain ⟨t, l, o⟩ := r
  dsimp only
  refine Chip.portOut_keeps ?_
  cases o
  · exact hr
  · exact Chip.hostDenied_keeps hr

theorem Chip.idItem_keeps {z : Chip} {p1 : Chip} {p2 : ℕ} {p3 : Option ℕ} (hp1 : z.Keeps p1) : z.Keeps (Chip.idItem p1 p2 p3) := by
  unfold Chip.idItem
  refine Chip.descItem_keeps hp1 ?_
  intro v1 v2 hv2
  extract_lets +onlyGivenNames x3
  clear_value x3
  extract_lets +onlyGivenNames x4
  clear_value x4
  extract_lets +onlyGivenNames x5
  clear_value x5
  extract_lets +onlyGivenNames x6
  clear_value x6
  split
  · exact .ite (Chip.descEnd_keeps hv2) (Chip.descMore_keeps (Chip.setBytes_keeps hv2))
  · exact Chip.descMore_keeps (Chip.setBytes_keeps hv2)

theorem Chip.imageEngine_keeps {z : Chip} {p1 : Chip} {p2 : ℕ} (hp1 : z.Keeps p1) : z.Keeps (Chip.imageEngine p1 p2) := by
  unfold Chip.imageEngine
  extract_lets +onlyGivenNames x1
  clear_value x1
  exact Chip.showLists_keeps (Chip.applyUnitcfg_keeps (Chip.resetEngine_keeps hp1))

theorem Chip.islDetect_keeps {z : Chip} {p1 : Chip} {p2 : ℕ} {p3 : ℕ} {p4 : ℕ} {p5 : ℕ} (hp1 : z.Keeps p1) : z.Keeps (Chip.islDetect p1 p2 p3 p4 p5) := by
  unfold Chip.islDetect
  extract_lets +onlyGivenNames x1
  have hx1 : z.Keeps x1 := Chip.islRecord_keeps hp1
  clear_value x1
  extract_lets +onlyGivenNames x2
  have hx2 : z.Keeps x2 := Chip.modIsl_keeps hx1
  clear_value x2
  exact Chip.showFaults_keeps hx2

theorem Chip.islFall_keeps {z : Chip} {p1 : Chip} {p2 : ℕ} {p3 : ℕ} {p4 : ℕ} (hp1 : z.Keeps p1) : z.Keeps (Chip.islFall p1 p2 p3 p4) := by
  unfold Chip.islFall
  extract_lets +onlyGivenNames x1
  have hx1 : z.Keeps x1 := Chip.put_keeps hp1
  clear_value x1
  split
  · exact Chip.fall_keeps hx1
  · exact hx1

theorem Chip.islHold_keeps {z : Chip} {p1 : Chip} {p2 : ℕ} (hp1 : z.Keeps p1) : z.Keeps (Chip.islHold p1 p2) := by
  unfold Chip.islHold
  exact .ite (Chip.islTo_keeps (Chip.gateAway_keeps hp1)) hp1

theorem Chip.keStep_keeps {z : Chip} {p1 : Chip} {p2 : ℕ} {p3 : ℕ} {p4 : ℕ} (hp1 : z.Keeps p1) : z.Keeps (Chip.keStep p1 p2 p3 p4).1 := by
  unfold Chip.keStep
  extract_lets +onlyGivenNames x1
  extract_lets +onlyGivenNames x2
  clear_value x2
  extract_lets +onlyGivenNames x3
  clear_value x3
  extract_lets +onlyGivenNames x4
  have hx4 : z.Keeps x4 := Chip.modCl_keeps hp1
  clear_value x4
  extract_lets +onlyGivenNames x5
  clear_value x5
  exact .fst hx4

theorem Chip.larderBad_keeps {z : Chip} {p1 : Chip} {p2 : ℕ} {p3 : ℕ} (hp1 : z.Keeps p1) : z.Keeps (Chip.larderBad p1 p2 p3) := by
  unfold Chip.larderBad
  extract_lets +onlyGivenNames x1
  clear_value x1
  exact Chip.faultCl_keeps hp1

theorem Chip.larderRead_keeps {z : Chip} {p1 : Chip} {p2 : ℕ} {p3 : ℕ} {p4 : Upset} (hp1 : z.Keeps p1) : z.Keeps (Chip.larderRead p1 p2 p3 p4) := by
  unfold Chip.larderRead
  split
  · exact .ite (Chip.larderBad_keeps hp1) hp1
  · exact hp1

theorem Chip.lateEnd_keeps {z : Chip} {p1 : Chip} {p2 : ℕ} {p3 : SlotOutcome} {p4 : TestOutcome} (hp1 : z.Keeps p1) : z.Keeps (Chip.lateEnd p1 p2 p3 p4) := by
  unfold Chip.lateEnd
  extract_lets +onlyGivenNames x1
  have hx1 : z.Keeps x1 := Chip.regionSlot_keeps hp1
  clear_value x1
  extract_lets +onlyGivenNames x2
  have hx2 : z.Keeps x2 := .ite (Chip.slotHandshake_keeps (Chip.diffTest_keeps (Chip.cmpTest_keeps hx1))) hx1
  clear_value x2
  extract_lets +onlyGivenNames x3
  have hx3 : z.Keeps x3 := Chip.put_keeps hx2
  clear_value x3
  extract_lets +onlyGivenNames x4
  have hx4 : z.Keeps x4 := Chip.modCfg_keeps hx3
  clear_value x4
  exact Chip.refreshHolds_keeps (.each hx4 (fun a5 t6 ht6 => Chip.heldRun_keeps ht6))

theorem Chip.ledFail_keeps {z : Chip} {p1 : Chip} {p2 : ℕ} (hp1 : z.Keeps p1) : z.Keeps (Chip.ledFail p1 p2) := by
  unfold Chip.ledFail
  extract_lets +onlyGivenNames x1
  have hx1 : z.Keeps x1 := Chip.put_keeps (Chip.dropWrite_keeps hp1)
  clear_value x1
  exact Chip.note_keeps hx1

theorem Chip.linkBack_keeps {z : Chip} {p1 : Chip} {p2 : Bool} (hp1 : z.Keeps p1) : z.Keeps (Chip.linkBack p1 p2) := by
  unfold Chip.linkBack
  refine .ite hp1 ?_
  extract_lets +onlyGivenNames x1
  have hx1 : z.Keeps x1 := Chip.put_keeps hp1
  clear_value x1
  exact Chip.modRing_keeps hx1

theorem Chip.linkLost_keeps {z : Chip} {p1 : Chip} {p2 : Bool} {p3 : ℕ} (hp1 : z.Keeps p1) : z.Keeps (Chip.linkLost p1 p2 p3) := by
  unfold Chip.linkLost
  extract_lets +onlyGivenNames x1
  clear_value x1
  extract_lets +onlyGivenNames x2
  have hx2 : z.Keeps x2 := .ite (Chip.set_keeps hp1) hp1
  clear_value x2
  refine .ite hx2 ?_
  refine .ite (Chip.modRing_keeps hx2) ?_
  extract_lets +onlyGivenNames x3
  have hx3 : z.Keeps x3 := Chip.put_keeps hx2
  clear_value x3
  extract_lets +onlyGivenNames x4
  have hx4 : z.Keeps x4 := Chip.modRing_keeps hx3
  clear_value x4
  exact Chip.note_keeps (Chip.sets_keeps hx4)

theorem Chip.loadSwitch_keeps {z : Chip} {p1 : Chip} {p2 : ℕ} {p3 : ℕ} (hp1 : z.Keeps p1) : z.Keeps (Chip.loadSwitch p1 p2 p3) := by
  unfold Chip.loadSwitch
  extract_lets +onlyGivenNames x1
  clear_value x1
  extract_lets +onlyGivenNames x2
  extract_lets +onlyGivenNames x3
  exact Chip.modSw_keeps hp1

theorem Chip.logItem_keeps {z : Chip} {p1 : Chip} {p2 : ℕ} (hp1 : z.Keeps p1) : z.Keeps (Chip.logItem p1 p2) := by
  unfold Chip.logItem
  refine Chip.descItem_keeps hp1 ?_
  intro v1 v2 hv2
  extract_lets +onlyGivenNames x3
  extract_lets +onlyGivenNames x4
  have hx4 : z.Keeps x4 := Chip.setBytes_keeps hv2
  clear_value x4
  clear_value x3
  extract_lets +onlyGivenNames x11 x5
  have hx5 : z.Keeps x5 := by
    unfold x5
    refine .ite ?_ hx4
    split
    · exact Chip.modDesc_keeps hx4
    · exact Chip.modDesc_keeps (Chip.useFree_keeps hx4)
  clear_value x5
  extract_lets +onlyGivenNames x12
  have hx12 : z.Keeps x12 := Chip.modDesc_keeps hx5
  clear_value x12
  refine .ite ?_ (Chip.descMore_keeps hx12)
  extract_lets +onlyGivenNames x13
  have hx13 : z.Keeps x13 := Chip.modDesc_keeps hx12
  clear_value x13
  split
  · exact Chip.descEnd_keeps hx13
  · exact hx13

theorem Chip.reportAngle_keeps {z : Chip} {p1 : Chip} {p2 : ℕ} (hp1 : z.Keeps p1) : z.Keeps (Chip.reportAngle p1 p2) := by
  unfold Chip.reportAngle
  extract_lets +onlyGivenNames x1
  clear_value x1
  extract_lets +onlyGivenNames x2
  clear_value x2
  extract_lets +onlyGivenNames x3
  have hx3 : z.Keeps x3 := Chip.set_keeps hp1
  clear_value x3
  extract_lets +onlyGivenNames x4
  clear_value x4
  extract_lets +onlyGivenNames x5
  have hx5 : z.Keeps x5 := .ite (Chip.noteCl_keeps hx3) hx3
  clear_value x5
  extract_lets +onlyGivenNames x6
  have hx6 : z.Keeps x6 := Chip.modCl_keeps hx5
  clear_value x6
  exact .ite (.ite (Chip.faultCl_keeps hx6) (Chip.faultCl_keeps hx6)) hx6

theorem Chip.obsLock_keeps {z : Chip} {p1 : Chip} {p2 : ℕ} {p3 : ℕ} {p4 : ℕ} (hp1 : z.Keeps p1) : z.Keeps (Chip.obsLock p1 p2 p3 p4) := by
  unfold Chip.obsLock
  extract_lets +onlyGivenNames x1
  clear_value x1
  extract_lets +onlyGivenNames x2
  have hx2 : z.Keeps x2 := Chip.modCl_keeps hp1
  clear_value x2
  extract_lets +onlyGivenNames x3
  have hx3 : z.Keeps x3 := Chip.set_keeps hx2
  clear_value x3
  exact .ite (.ite (Chip.sets_keeps hx3) hx3) (.ite (Chip.sets_keeps hx3) hx3)

theorem Chip.obsKe_keeps {z : Chip} {p1 : Chip} {p2 : ℕ} {p3 : ℕ} {p4 : ℕ} (hp1 : z.Keeps p1) : z.Keeps (Chip.obsKe p1 p2 p3 p4) := by
  unfold Chip.obsKe
  extract_lets +onlyGivenNames x1
  extract_lets +onlyGivenNames x2
  clear_value x2
  extract_lets +onlyGivenNames x3
  clear_value x3
  refine .ite ?_ (Chip.put_keeps hp1)
  split
  · rename_i y4 y5 q6
    have hy4 : z.Keeps y4 := by
      have hh := congrArg Prod.fst q6
      dsimp only at hh
      rw [← hh]
      exact Chip.keStep_keeps hp1
    extract_lets +onlyGivenNames x7
    clear_value x7
    extract_lets +onlyGivenNames x8
    clear_value x8
    extract_lets +onlyGivenNames x9
    have hx9 : z.Keeps x9 := Chip.sets_keeps hy4
    clear_value x9
    refine .ite ?_ hx9
    extract_lets +onlyGivenNames x10
    have hx10 : z.Keeps x10 := Chip.modCl_keeps hx9
    clear_value x10
    exact Chip.set_keeps hx10

theorem Chip.obsStep_keeps {z : Chip} {p1 : Chip} {p2 : ℕ} {p3 : ℕ} {p4 : ℕ} (hp1 : z.Keeps p1) : z.Keeps (Chip.obsStep p1 p2 p3 p4) := by
  unfold Chip.obsStep
  extract_lets +onlyGivenNames x1
  clear_value x1
  extract_lets +onlyGivenNames x2
  have hx2 : z.Keeps x2 := Chip.set_keeps hp1
  clear_value x2
  extract_lets +onlyGivenNames x3
  have hx3 : z.Keeps x3 := Chip.modCl_keeps hx2
  clear_value x3
  extract_lets +onlyGivenNames x4
  have hx4 : z.Keeps x4 := Chip.set_keeps hx3
  clear_value x4
  extract_lets +onlyGivenNames x5
  clear_value x5
  extract_lets +onlyGivenNames x6
  have hx6 : z.Keeps x6 := Chip.useFree_keeps hx2
  clear_value x6
  extract_lets +onlyGivenNames x7
  clear_value x7
  extract_lets +onlyGivenNames x8
  have hx8 : z.Keeps x8 := Chip.useFree_keeps hx6
  clear_value x8
  extract_lets +onlyGivenNames x9
  clear_value x9
  extract_lets +onlyGivenNames x10
  have hx10 : z.Keeps x10 := Chip.useFree_keeps hx8
  clear_value x10
  extract_lets +onlyGivenNames x11
  have hx11 : z.Keeps x11 := Chip.modCl_keeps hx10
  clear_value x11
  extract_lets +onlyGivenNames x12
  have hx12 : z.Keeps x12 := .ite (.ite (Chip.sets_keeps hx4) hx4) (Chip.obsLock_keeps (Chip.set_keeps hx11))
  clear_value x12
  extract_lets +onlyGivenNames x13
  extract_lets +onlyGivenNames x14
  have hx14 : z.Keeps x14 := .ite (Chip.set_keeps (Chip.set_keeps hx12)) (Chip.set_keeps hx12)
  clear_value x14
  extract_lets +onlyGivenNames x15
  have hx15 : z.Keeps x15 := Chip.put_keeps hx14
  clear_value x15
  extract_lets +onlyGivenNames x16
  have hx16 : z.Keeps x16 := Chip.useFree_keeps (Chip.set_keeps hx15)
  clear_value x16
  extract_lets +onlyGivenNames x17
  clear_value x17
  exact Chip.obsKe_keeps (Chip.set_keeps hx16)

theorem Chip.observe_keeps {z : Chip} {p1 : Chip} {p2 : ℕ} {p3 : ℕ} (hp1 : z.Keeps p1) : z.Keeps (Chip.observe p1 p2 p3) := by
  unfold Chip.observe
  split
  · exact hp1
  · exact .each (Chip.obsStep_keeps hp1) (fun a6 t7 ht7 => Chip.modCl_keeps (Chip.sets_keeps ht7))

theorem Chip.wdisWatch_keeps {z : Chip} {p1 : Chip} {p2 : ℕ} {p3 : ℕ} {p4 : ℕ} (hp1 : z.Keeps p1) : z.Keeps (Chip.wdisWatch p1 p2 p3 p4) := by
  unfold Chip.wdisWatch
  refine .ite hp1 ?_
  extract_lets +onlyGivenNames x1
  extract_lets +onlyGivenNames x2
  clear_value x2
  refine .ite hp1 ?_
  extract_lets +onlyGivenNames x3
  have hx3 : z.Keeps x3 := Chip.noteCl_keeps (Chip.endWdis_keeps hp1)
  clear_value x3
  exact .ite (Chip.disResistor_keeps hx3) hx3

theorem Chip.runLists_keeps {z : Chip} {p1 : Chip} {p2 p3 : ℕ} {p4 : LoopIn} (hp1 : z.Keeps p1) :
    z.Keeps (Chip.runLists p1 p2 p3 p4).1 := by
  unfold Chip.runLists
  extract_lets +onlyGivenNames s r
  have hr : z.Keeps r.chip := by
    have key : ∀ (l : List ℕ) (q : LoopRun), z.Keeps q.chip → z.Keeps (l.foldl (Chip.evalList p2 p3 p4) q).chip := by
      intro l
      induction l with
      | nil => intro q hq; exact hq
      | cons m l ih => intro q hq; exact ih _ (Chip.evalList_keeps hq)
    exact key _ _ (Chip.set_keeps hp1)
  clear_value r
  exact Chip.modCle_keeps (Chip.sets_keeps hr)

theorem Chip.takeErrors_keeps {z : Chip} {p1 : Chip} {p2 : ℕ} (hp1 : z.Keeps p1) : z.Keeps (Chip.takeErrors p1 p2) := by
  unfold Chip.takeErrors
  extract_lets +onlyGivenNames x1
  exact .ite (Chip.modCl_keeps hp1) (Chip.modCl_keeps hp1)

theorem Chip.showOutput_keeps {z : Chip} {p1 : Chip} {p2 : ℕ} {p3 : ℕ} {p4 : ℕ} {p5 : ℕ} {p6 : ℕ} (hp1 : z.Keeps p1) : z.Keeps (Chip.showOutput p1 p2 p3 p4 p5 p6) := by
  unfold Chip.showOutput
  extract_lets +onlyGivenNames x1
  clear_value x1
  extract_lets +onlyGivenNames x2
  clear_value x2
  extract_lets +onlyGivenNames x3
  extract_lets +onlyGivenNames x4
  clear_value x4
  extract_lets +onlyGivenNames x5
  have hx5 : z.Keeps x5 := Chip.sets_keeps hp1
  clear_value x5
  extract_lets +onlyGivenNames x6
  have hx6 : z.Keeps x6 := Chip.modCl_keeps hx5
  clear_value x6
  exact .ite (Chip.put_keeps hx6) hx6

theorem Chip.runStages_keeps {z : Chip} {p1 : Chip} {p2 : ℕ} {p3 : Upset} {p4 : ℕ} {p5 : ℕ} {p6 : ℕ} {p7 : ℕ} {p8 : ℕ} {p9 : ℕ} (hp1 : z.Keeps p1) : z.Keeps (Chip.runStages p1 p2 p3 p4 p5 p6 p7 p8 p9) := by
  unfold Chip.runStages
  extract_lets +onlyGivenNames x1
  clear_value x1
  extract_lets +onlyGivenNames x2
  have hx2 : z.Keeps x2 := Chip.rampSpeed_keeps hp1
  clear_value x2
  split
  · rename_i y3 y4 y5 q6
    have hy3 : z.Keeps y3 := by
      have hh := congrArg Prod.fst q6
      dsimp only at hh
      rw [← hh]
      exact Chip.references_keeps hx2
    extract_lets +onlyGivenNames x7
    have hx7 : z.Keeps x7 := Chip.sets_keeps hy3
    clear_value x7
    extract_lets +onlyGivenNames x8
    extract_lets +onlyGivenNames x9
    have hx9 : z.Keeps x9 := Chip.modCl_keeps hx7
    clear_value x9
    extract_lets +onlyGivenNames x10
    extract_lets +onlyGivenNames x11
    split
    · rename_i y12 y13 y14 q15
      have hy12 : z.Keeps y12 := by
        have hh := congrArg Prod.fst q15
        dsimp only at hh
        rw [← hh]
        refine .foldlP (.fst hx9) ?_
        intro t17 a16 ht17
        exact Chip.runLists_keeps ht17
      refine .ite (Chip.put_keeps hy12) ?_
      extract_lets +onlyGivenNames x22
      have hx22 : z.Keeps x22 := by
        unfold x22
        split
        · exact Chip.engineFault_keeps hy12
        · exact Chip.noteCl_keeps (Chip.put_keeps hy12)
        · exact hy12
      clear_value x22
      extract_lets +onlyGivenNames x29
      have hx29 : z.Keeps x29 := Chip.larderRead_keeps hx22
      clear_value x29
      refine .ite hx29 ?_
      extract_lets +onlyGivenNames x30
      clear_value x30
      extract_lets +onlyGivenNames x31
      extract_lets +onlyGivenNames x32
      clear_value x32
      extract_lets +onlyGivenNames x33
      have hx33 : z.Keeps x33 := Chip.takeErrors_keeps hx29
      clear_value x33
      split
      · rename_i y34 y35 y36 y37 q38
        extract_lets +onlyGivenNames x39
        have hx39 : z.Keeps x39 := Chip.showOutput_keeps hx33
        clear_value x39
        extract_lets +onlyGivenNames x40
        extract_lets +onlyGivenNames x41
        have hx41 : z.Keeps x41 := (Chip.Keeps.same hx39 rfl rfl rfl rfl)
        clear_value x41
        split
        · exact Chip.faultCl_keeps hx41
        · exact Chip.writeCompares_keeps hx41

theorem Chip.loopRun_keeps {z : Chip} {p1 : Chip} {p2 : ℕ} {p3 : Upset} {p4 : ℕ} (hp1 : z.Keeps p1) : z.Keeps (Chip.loopRun p1 p2 p3 p4) := by
  unfold Chip.loopRun
  refine .ite hp1 (.ite (Chip.bcmDecel_keeps (Chip.modCl_keeps hp1)) ?_)
  extract_lets +onlyGivenNames x0 x1
  have hx1 : z.Keeps x1 := Chip.dupInputs_keeps (Chip.modCl_keeps hp1)
  clear_value x1
  extract_lets +onlyGivenNames x2
  clear_value x2
  extract_lets +onlyGivenNames x3
  clear_value x3
  extract_lets +onlyGivenNames x4
  have hx4 : z.Keeps x4 := Chip.modCl_keeps hx1
  clear_value x4
  extract_lets +onlyGivenNames x5
  have hx5 : z.Keeps x5 := Chip.reportAngle_keeps (Chip.larderRead_keeps (Chip.observe_keeps hx4))
  clear_value x5
  extract_lets +onlyGivenNames x6
  clear_value x6
  split
  · rename_i y7 y8 y9 q10
    have hy7 : z.Keeps y7 := by
      have hh := congrArg Prod.fst q10
      dsimp only at hh
      rw [← hh]
      split
      · rename_i y11 y12 y13 q14 q15
        exact .fst (Chip.sets_keeps hx5)
      · exact .fst hx5
    extract_lets +onlyGivenNames x23
    have hx23 : z.Keeps x23 := .ite (Chip.catchPass_keeps hy7) hy7
    clear_value x23
    extract_lets +onlyGivenNames x24
    have hx24 : z.Keeps x24 := by
      unfold x24
      refine .ite (.each (Chip.modCl_keeps (Chip.unlimited_keeps hx23)) (fun a25 t26 ht26 => Chip.skipLists_keeps ht26)) ?_
      split
      · rename_i y27 y28 y29 y30 q31 q32 q33
        extract_lets +onlyGivenNames x34
        have hx34 : z.Keeps x34 := Chip.wdisWatch_keeps hx23
        clear_value x34
        refine .ite hx34 ?_
        extract_lets +onlyGivenNames x35
        have hx35 : z.Keeps x35 := .ite (Chip.fluxStage_keeps hx34) (Chip.runStages_keeps hx34)
        clear_value x35
        exact .ite (Chip.decelStep_keeps hx35) hx35
      · exact Chip.overrun_keeps (.each (Chip.unlimited_keeps hx23) (fun a42 t43 ht43 => Chip.skipLists_keeps ht43))
    clear_value x24
    exact Chip.chmCurrents_keeps hx24

theorem Chip.markUsed_keeps {z : Chip} {p1 : Chip} {p2 : ℕ} {p3 : ℕ} (hp1 : z.Keeps p1) : z.Keeps (Chip.markUsed p1 p2 p3) := by
  unfold Chip.markUsed
  exact .ite (Chip.showLearn_keeps (Chip.modAge_keeps hp1)) hp1

theorem Chip.mirrorAck_keeps {z : Chip} {p1 : Chip} {p2 : ℕ} (hp1 : z.Keeps p1) : z.Keeps (Chip.mirrorAck p1 p2) := by
  unfold Chip.mirrorAck
  extract_lets +onlyGivenNames x1
  refine .ite hp1 ?_
  split
  · exact hp1
  · rename_i y4 y5 q6
    extract_lets +onlyGivenNames x7
    have hx7 : z.Keeps x7 := Chip.clamp_keeps (Chip.modIsl_keeps (Chip.ownTake_keeps hp1))
    clear_value x7
    exact Chip.put_keeps hx7

theorem Chip.modFuses_keeps {z : Chip} {p1 : Chip} {p2 : Fuses → Fuses} (hp1 : z.Keeps p1) : z.Keeps (Chip.modFuses p1 p2) := by
  unfold Chip.modFuses
  exact Chip.modCfg_keeps hp1

theorem Chip.monitor_keeps {z : Chip} {p1 : Chip} {p2 : ℕ} (hp1 : z.Keeps p1) : z.Keeps (Chip.monitor p1 p2) := by
  unfold Chip.monitor
  exact Chip.sets_keeps hp1

theorem Chip.newTick_keeps {z : Chip} {p1 : Chip} (hp1 : z.Keeps p1) : z.Keeps (Chip.newTick p1) := by
  unfold Chip.newTick
  exact (Chip.Keeps.same hp1 rfl rfl rfl rfl)

theorem Chip.passDone_keeps {z : Chip} {p1 : Chip} {p2 : ℕ} {p3 : ℕ} (hp1 : z.Keeps p1) : z.Keeps (Chip.passDone p1 p2 p3) := by
  unfold Chip.passDone
  refine .ite hp1 ?_
  extract_lets +onlyGivenNames x1
  have hx1 : z.Keeps x1 := Chip.rbOr_keeps hp1
  clear_value x1
  refine .ite hx1 ?_
  extract_lets +onlyGivenNames x2
  have hx2 : z.Keeps x2 := .ite (Chip.checkVdc_keeps (.each hx1 (fun a3 t4 ht4 => Chip.checkPath_keeps ht4))) hx1
  clear_value x2
  exact .ite (Chip.checkSum_keeps (Chip.checkSum_keeps hx2)) hx2

theorem Chip.passOpen_keeps {z : Chip} {p1 : Chip} {p2 : ℕ} {p3 : Bool} (hp1 : z.Keeps p1) : z.Keeps (Chip.passOpen p1 p2 p3) := by
  unfold Chip.passOpen
  extract_lets +onlyGivenNames x1
  extract_lets +onlyGivenNames x2
  clear_value x2
  extract_lets +onlyGivenNames x3
  extract_lets +onlyGivenNames x4
  have hx4 : z.Keeps x4 := Chip.modMeas_keeps hp1
  clear_value x4
  exact Chip.rbSet_keeps (Chip.rbSet_keeps hx4)

theorem Chip.passStart_keeps {z : Chip} {p1 : Chip} {p2 : ℕ} {p3 : ℕ} {p4 : Bool} {p5 : Bool} (hp1 : z.Keeps p1) : z.Keeps (Chip.passStart p1 p2 p3 p4 p5) := by
  unfold Chip.passStart
  extract_lets +onlyGivenNames x1
  have hx1 : z.Keeps x1 := Chip.sampleNow_keeps hp1
  clear_value x1
  extract_lets +onlyGivenNames x2
  have hx2 : z.Keeps x2 := .ite (Chip.overrun_keeps (.each (Chip.unlimited_keeps hx1) (fun a3 t4 ht4 => Chip.skipLists_keeps ht4))) hx1
  clear_value x2
  extract_lets +onlyGivenNames x5
  have hx5 : z.Keeps x5 := .ite (Chip.sets_keeps (Chip.modCl_keeps hx2)) hx2
  clear_value x5
  extract_lets +onlyGivenNames x6
  have hx6 : z.Keeps x6 := Chip.diodePass_keeps hx5
  clear_value x6
  extract_lets +onlyGivenNames x7
  clear_value x7
  exact Chip.modCl_keeps (Chip.passOpen_keeps hx6)

theorem Chip.pcPass_keeps {z : Chip} {p1 : Chip} {p2 : ℕ} {p3 : ℕ} (hp1 : z.Keeps p1) : z.Keeps (Chip.pcPass p1 p2 p3) := by
  unfold Chip.pcPass
  refine .ite hp1 ?_
  extract_lets +onlyGivenNames x1
  clear_value x1
  extract_lets +onlyGivenNames x2
  clear_value x2
  extract_lets +onlyGivenNames x3
  clear_value x3
  extract_lets +onlyGivenNames x4
  clear_value x4
  split
  · rename_i y5 y6 q7 q8
    extract_lets +onlyGivenNames x9
    split
    · rename_i y10 y11 q12
      extract_lets +onlyGivenNames x13
      clear_value x13
      extract_lets +onlyGivenNames x14
      clear_value x14
      exact Chip.modCl_keeps hp1
  · exact hp1

theorem Chip.rawLevels_keeps {z : Chip} {p1 : Chip} {p2 : ℕ} {p3 : ℕ} {p4 : Bool} {p5 : Bool} (hp1 : z.Keeps p1) : z.Keeps (Chip.rawLevels p1 p2 p3 p4 p5) := by
  unfold Chip.rawLevels
  exact Chip.effEdge_keeps (Chip.modSlice_keeps hp1)

theorem Chip.rawAt_keeps {z : Chip} {p1 : Chip} {p2 : ℕ} {p3 : Bool} (hp1 : z.Keeps p1) : z.Keeps (Chip.rawAt p1 p2 p3) := by
  unfold Chip.rawAt
  extract_lets +onlyGivenNames x1
  clear_value x1
  split <;> exact Chip.rawLevels_keeps (Chip.modSlice_keeps hp1)

theorem Chip.peakTick_keeps {z : Chip} {p1 : Chip} {p2 : ℕ} (hp1 : z.Keeps p1) : z.Keeps (Chip.peakTick p1 p2) := by
  unfold Chip.peakTick
  extract_lets +onlyGivenNames x1
  have hx1 : z.Keeps x1 := Chip.sets_keeps hp1
  clear_value x1
  extract_lets +onlyGivenNames x2
  have hx2 : z.Keeps x2 := .ite (Chip.reloadPoint_keeps hx1) hx1
  clear_value x2
  exact Chip.checkSlice_keeps (Chip.rawAt_keeps hx2)

theorem Chip.periodBoundary_keeps {z : Chip} {p1 : Chip} {p2 : ℕ} (hp1 : z.Keeps p1) : z.Keeps (Chip.periodBoundary p1 p2) := by
  unfold Chip.periodBoundary
  extract_lets +onlyGivenNames x1
  have hx1 : z.Keeps x1 := Chip.bankBoundary_keeps hp1
  clear_value x1
  refine .ite ?_ hx1
  extract_lets +onlyGivenNames x2
  clear_value x2
  exact .ite (Chip.set_keeps hx1) (Chip.set_keeps hx1)

theorem Chip.plateau_keeps {z : Chip} {p1 : Chip} {p2 : ℕ} {p3 : Option ℕ} {p4 : ℕ} (hp1 : z.Keeps p1) : z.Keeps (Chip.plateau p1 p2 p3 p4) := by
  unfold Chip.plateau
  split
  · exact Chip.ageMeasure_keeps hp1
  · exact hp1

theorem Chip.posCount_keeps {z : Chip} {p1 : Chip} {p2 : ℕ} {p3 : Bool} {p4 : Bool} (hp1 : z.Keeps p1) : z.Keeps (Chip.posCount p1 p2 p3 p4) := by
  unfold Chip.posCount
  extract_lets +onlyGivenNames x1
  clear_value x1
  extract_lets +onlyGivenNames x2
  clear_value x2
  extract_lets +onlyGivenNames x3
  clear_value x3
  extract_lets +onlyGivenNames x4
  have hx4 : z.Keeps x4 := .ite (.ite (Chip.set_keeps (Chip.set_keeps hp1)) (Chip.set_keeps hp1)) (.ite (Chip.set_keeps (Chip.set_keeps hp1)) (Chip.set_keeps hp1))
  clear_value x4
  extract_lets +onlyGivenNames x5
  extract_lets +onlyGivenNames x6
  have hx6 : z.Keeps x6 := Chip.modPos_keeps hx4
  clear_value x6
  extract_lets +onlyGivenNames x7
  have hx7 : z.Keeps x7 := .ite (.ite (Chip.set_keeps hx6) hx6) hx4
  clear_value x7
  extract_lets +onlyGivenNames x8
  have hx8 : z.Keeps x8 := .ite hx7 (.ite (Chip.posOk_keeps hx7) (Chip.modPos_keeps hx7))
  clear_value x8
  extract_lets +onlyGivenNames x9
  have hx9 : z.Keeps x9 := Chip.modPos_keeps hx8
  clear_value x9
  extract_lets +onlyGivenNames x10
  extract_lets +onlyGivenNames x11
  have hx11 : z.Keeps x11 := .ite (Chip.posNote_keeps (Chip.modPos_keeps hx9)) hx9
  clear_value x11
  extract_lets +onlyGivenNames x12
  have hx12 : z.Keeps x12 := Chip.glitchCheck_keeps hx11
  clear_value x12
  extract_lets +onlyGivenNames x13
  have hx13 : z.Keeps x13 := Chip.speedEdge_keeps hx12
  clear_value x13
  exact Chip.set_keeps hx13

theorem Chip.posIllegal_keeps {z : Chip} {p1 : Chip} {p2 : ℕ} (hp1 : z.Keeps p1) : z.Keeps (Chip.posIllegal p1 p2) := by
  unfold Chip.posIllegal
  extract_lets +onlyGivenNames x1
  have hx1 : z.Keeps x1 := Chip.bump_keeps (Chip.put_keeps hp1)
  clear_value x1
  extract_lets +onlyGivenNames x2
  extract_lets +onlyGivenNames x3
  have hx3 : z.Keeps x3 := .ite (Chip.put_keeps (Chip.modPos_keeps hx1)) hx1
  clear_value x3
  refine .ite hx3 ?_
  extract_lets +onlyGivenNames x4
  have hx4 : z.Keeps x4 := .ite (Chip.modPos_keeps hx3) hx3
  clear_value x4
  extract_lets +onlyGivenNames x5
  have hx5 : z.Keeps x5 := Chip.bump_keeps hx4
  clear_value x5
  refine .ite ?_ hx5
  extract_lets +onlyGivenNames x6
  have hx6 : z.Keeps x6 := Chip.modPos_keeps (Chip.posLose_keeps hx5)
  clear_value x6
  exact Chip.posNote_keeps hx6

theorem Chip.profIsland_keeps {z : Chip} {p1 : Chip} {p2 : ℕ} {p3 : ℕ} {p4 : Bool} (hp1 : z.Keeps p1) : z.Keeps (Chip.profIsland p1 p2 p3 p4) := by
  unfold Chip.profIsland
  refine .ite hp1 ?_
  extract_lets +onlyGivenNames x1
  clear_value x1
  extract_lets +onlyGivenNames x2
  have hx2 : z.Keeps x2 := Chip.modSw_keeps hp1
  clear_value x2
  refine .ite hx2 ?_
  extract_lets +onlyGivenNames x3
  clear_value x3
  extract_lets +onlyGivenNames x4
  have hx4 : z.Keeps x4 := Chip.put_keeps hx2
  clear_value x4
  refine .ite ?_ ?_
  · extract_lets +onlyGivenNames x5
    clear_value x5
    extract_lets +onlyGivenNames x6
    clear_value x6
    extract_lets +onlyGivenNames x7
    clear_value x7
    extract_lets +onlyGivenNames x8
    clear_value x8
    extract_lets +onlyGivenNames x9
    clear_value x9
    extract_lets +onlyGivenNames x10
    have hx10 : z.Keeps x10 := Chip.markUsed_keeps (Chip.markUsed_keeps hx4)
    clear_value x10
    exact Chip.modIsl_keeps hx10
  · extract_lets +onlyGivenNames x11
    clear_value x11
    extract_lets +onlyGivenNames x12
    have hx12 : z.Keeps x12 := Chip.modIsl_keeps hx4
    clear_value x12
    exact .ite hx12 (Chip.islRecord_keeps (Chip.put_keeps (Chip.modCl_keeps hx12)))

theorem Chip.profLookup_keeps {z : Chip} {p1 : Chip} {p2 : ℕ} {p3 : ℕ} {p4 : Option ℕ} (hp1 : z.Keeps p1) : z.Keeps (Chip.profLookup p1 p2 p3 p4) := by
  unfold Chip.profLookup
  refine .ite ?_ hp1
  extract_lets +onlyGivenNames x1
  have hx1 : z.Keeps x1 := by
    unfold x1
    split
    · exact .ite (Chip.faultCl_keeps hp1) hp1
    · exact hp1
  clear_value x1
  exact Chip.profIsland_keeps (Chip.profIsland_keeps hx1)

theorem Chip.programItem_keeps {z : Chip} {p1 : Chip} {p2 : ℕ} {p3 : Bool} (hp1 : z.Keeps p1) : z.Keeps (Chip.programItem p1 p2 p3) := by
  unfold Chip.programItem
  exact Chip.flashItem_keeps hp1

theorem Chip.quadStep_keeps {z : Chip} {p1 : Chip} {p2 : ℕ} {p3 : Bool} {p4 : Bool} (hp1 : z.Keeps p1) : z.Keeps (Chip.quadStep p1 p2 p3 p4) := by
  unfold Chip.quadStep
  extract_lets +onlyGivenNames x1
  extract_lets +onlyGivenNames x2
  have hx2 : z.Keeps x2 := Chip.modPos_keeps hp1
  clear_value x2
  exact .ite hx2 (.ite (Chip.posIllegal_keeps hx2) (.ite (Chip.posCount_keeps hx2) (.ite (Chip.posCount_keeps hx2) hx2)))

theorem Chip.quadSample_keeps {z : Chip} {p1 : Chip} {p2 : ℕ} {p3 : Bool} {p4 : Bool} (hp1 : z.Keeps p1) : z.Keeps (Chip.quadSample p1 p2 p3 p4) := by
  unfold Chip.quadSample
  refine Chip.posEvent_keeps hp1 ?_
  intro v1 hv1
  extract_lets +onlyGivenNames x2
  have hx2 : z.Keeps x2 := Chip.modPos_keeps (Chip.quadStep_keeps hv1)
  clear_value x2
  split
  · exact Chip.posIndex_keeps (Chip.modPos_keeps hx2)
  · exact hx2

theorem Chip.rawEdge_keeps {z : Chip} {p1 : Chip} {p2 : ℕ} {p3 : Bool} {p4 : Bool} (hp1 : z.Keeps p1) : z.Keeps (Chip.rawEdge p1 p2 p3 p4) := by
  unfold Chip.rawEdge
  extract_lets +onlyGivenNames x1
  extract_lets +onlyGivenNames x2
  clear_value x2
  extract_lets +onlyGivenNames x3
  clear_value x3
  extract_lets +onlyGivenNames x4
  clear_value x4
  refine .ite hp1 ?_
  refine .ite (Chip.checkSlice_keeps (Chip.rawLevels_keeps (Chip.modSlice_keeps hp1))) ?_
  extract_lets +onlyGivenNames x5
  clear_value x5
  extract_lets +onlyGivenNames x6
  clear_value x6
  exact Chip.checkSlice_keeps (Chip.rawLevels_keeps hp1)

theorem Chip.rebuildEntry_keeps {z : Chip} {p1 : ℕ} {p2 : Chip} {p3 : ℕ} (hp2 : z.Keeps p2) : z.Keeps (Chip.rebuildEntry p1 p2 p3) := by
  unfold Chip.rebuildEntry
  extract_lets +onlyGivenNames x1
  extract_lets +onlyGivenNames x2
  clear_value x2
  extract_lets +onlyGivenNames x3
  clear_value x3
  split
  · exact hp2
  · rename_i y6 y7 q8
    extract_lets +onlyGivenNames x9
    refine .ite hp2 ?_
    extract_lets +onlyGivenNames x10
    clear_value x10
    extract_lets +onlyGivenNames x11
    clear_value x11
    extract_lets +onlyGivenNames x12
    extract_lets +onlyGivenNames x13
    clear_value x13
    split
    · rename_i y14 y15 q16
      extract_lets +onlyGivenNames x17
      have hx17 : z.Keeps x17 := Chip.store_keeps hp2
      clear_value x17
      extract_lets +onlyGivenNames x18
      have hx18 : z.Keeps x18 := Chip.modAge_keeps hx17
      clear_value x18
      exact .ite (Chip.noteCl_keeps (Chip.put_keeps (Chip.modAge_keeps hx18))) hx18

theorem Chip.recBad_keeps {z : Chip} {p1 : Chip} {p2 : ℕ} {p3 : ℕ} (hp1 : z.Keeps p1) : z.Keeps (Chip.recBad p1 p2 p3) := by
  unfold Chip.recBad
  extract_lets +onlyGivenNames x1
  have hx1 : z.Keeps x1 := Chip.clrBitOf_keeps (Chip.put_keeps hp1)
  clear_value x1
  extract_lets +onlyGivenNames x2
  have hx2 : z.Keeps x2 := Chip.put_keeps hx1
  clear_value x2
  split
  · exact Chip.showLim_keeps (Chip.put_keeps (Chip.limitCl_keeps hx2))
  · exact Chip.record_keeps hx2

theorem Chip.refLost_keeps {z : Chip} {p1 : Chip} (hp1 : z.Keeps p1) : z.Keeps (Chip.refLost p1) := by
  unfold Chip.refLost
  extract_lets +onlyGivenNames x1
  have hx1 : z.Keeps x1 := Chip.put_keeps hp1
  clear_value x1
  exact (Chip.Keeps.same hx1 rfl rfl rfl rfl)

theorem Chip.refShown_keeps {z : Chip} {p1 : Chip} {p2 : ℕ} {p3 : ℕ} (hp1 : z.Keeps p1) : z.Keeps (Chip.refShown p1 p2 p3) := by
  unfold Chip.refShown
  exact (Chip.Keeps.same hp1 rfl rfl rfl rfl)

theorem Chip.refreshEnd_keeps {z : Chip} {p1 : Chip} {p2 : ℕ} {p3 : ℕ} (hp1 : z.Keeps p1) : z.Keeps (Chip.refreshEnd p1 p2 p3) := by
  unfold Chip.refreshEnd
  extract_lets +onlyGivenNames x1
  have hx1 : z.Keeps x1 := Chip.modSlice_keeps (Chip.accrue_keeps hp1)
  clear_value x1
  exact .ite (Chip.riseH_keeps (Chip.modSlice_keeps hx1)) hx1

theorem Chip.refreshStart_keeps {z : Chip} {p1 : Chip} {p2 : ℕ} (hp1 : z.Keeps p1) : z.Keeps (Chip.refreshStart p1 p2) := by
  unfold Chip.refreshStart
  exact Chip.outputs_keeps (Chip.dropGates_keeps (Chip.modSlice_keeps (Chip.accrue_keeps hp1)))

theorem Chip.resPass_keeps {z : Chip} {p1 : Chip} {p2 : ℕ} {p3 : Bool} (hp1 : z.Keeps p1) : z.Keeps (Chip.resPass p1 p2 p3) := by
  unfold Chip.resPass
  extract_lets +onlyGivenNames x1
  extract_lets +onlyGivenNames x2
  clear_value x2
  refine .ite hp1 ?_
  extract_lets +onlyGivenNames x3
  have hx3 : z.Keeps x3 := Chip.modCl_keeps hp1
  clear_value x3
  split
  · exact hx3
  · rename_i y6 q7
    extract_lets +onlyGivenNames x8
    extract_lets +onlyGivenNames x9
    clear_value x9
    exact Chip.atTick_keeps hx3 (fun v10 hv10 => Chip.latchAngle_keeps (Chip.modPos_keeps (Chip.resEval_keeps hv10)))

theorem Chip.resetFields_keeps {z : Chip} {p1 : Chip} {p2 : List Field} (hp1 : z.Keeps p1) : z.Keeps (Chip.resetFields p1 p2) := by
  unfold Chip.resetFields
  exact .foldl hp1 (fun t2 a1 ht2 => Chip.set_keeps ht2)

theorem Chip.restart_keeps {z : Chip} {p1 : Chip} {p2 : ℕ} {p3 : SlotOutcome} (hp1 : z.Keeps p1) : z.Keeps (Chip.restart p1 p2 p3).1 := by
  unfold Chip.restart
  exact Chip.slotRest_keeps hp1

theorem Chip.vdcWritten_keeps {z : Chip} {p1 : Chip} {p2 : ℕ} {p3 : List (ℕ × ℕ)} (hp1 : z.Keeps p1) : z.Keeps (Chip.vdcWritten p1 p2 p3) := by
  unfold Chip.vdcWritten
  extract_lets +onlyGivenNames x1
  have hx1 : z.Keeps x1 := Chip.showVdc_keeps (Chip.modCl_keeps hp1)
  clear_value x1
  extract_lets +onlyGivenNames x2
  have hx2 : z.Keeps x2 := Chip.disCheck_keeps (Chip.chopRule_keeps hx1)
  clear_value x2
  exact Chip.evalRule_keeps hx2

theorem Chip.resultsIn_keeps {z : Chip} {p1 : Chip} {p2 : ℕ} {p3 : ℕ} {p4 : Upset} {p5 : ℕ} {p6 : Bool} (hp1 : z.Keeps p1) : z.Keeps (Chip.resultsIn p1 p2 p3 p4 p5 p6) := by
  unfold Chip.resultsIn
  extract_lets +onlyGivenNames x1
  clear_value x1
  extract_lets +onlyGivenNames x2
  have hx2 : z.Keeps x2 := .ite (Chip.vdcWritten_keeps (Chip.diodeWatch_keeps hp1)) hp1
  clear_value x2
  extract_lets +onlyGivenNames x3
  clear_value x3
  extract_lets +onlyGivenNames x4
  have hx4 : z.Keeps x4 := Chip.passDone_keeps hx2
  clear_value x4
  extract_lets +onlyGivenNames x5
  have hx5 : z.Keeps x5 := .ite (Chip.resPass_keeps hx4) hx4
  clear_value x5
  extract_lets +onlyGivenNames x6
  have hx6 : z.Keeps x6 := .ite (Chip.loopRun_keeps hx5) hx5
  clear_value x6
  exact .ite (Chip.pcPass_keeps hx6) hx6

theorem Chip.ringResume_keeps {z : Chip} {p1 : Chip} (hp1 : z.Keeps p1) : z.Keeps (Chip.ringResume p1) := by
  unfold Chip.ringResume
  exact .ite hp1 (.ite (Chip.set_keeps (Chip.ringStart_keeps hp1)) (Chip.modRing_keeps hp1))

theorem Chip.risesH_keeps {z : Chip} {p1 : Chip} {p2 : ℕ} {p3 : ℕ} (hp1 : z.Keeps p1) : z.Keeps (Chip.risesH p1 p2 p3) := by
  unfold Chip.risesH
  exact Chip.modSlice_keeps (Chip.accrue_keeps hp1)

theorem Chip.risesL_keeps {z : Chip} {p1 : Chip} {p2 : ℕ} {p3 : ℕ} (hp1 : z.Keeps p1) : z.Keeps (Chip.risesL p1 p2 p3) := by
  unfold Chip.risesL
  exact Chip.modSlice_keeps (Chip.accrue_keeps hp1)

theorem Chip.rowWrite_keeps {z : Chip} {p1 : Chip} {p2 : ℕ} {p3 : ℕ} {p4 : Chip → Chip} (hp1 : z.Keeps p1) (hp4 : ∀ u1, z.Keeps u1 → z.Keeps (p4 u1)) : z.Keeps (Chip.rowWrite p1 p2 p3 p4) := by
  unfold Chip.rowWrite
  refine .ite (Chip.discard_keeps hp1) ?_
  extract_lets +onlyGivenNames x1
  have hx1 : z.Keeps x1 := Chip.reachGate_keeps hp1
  clear_value x1
  split
  · exact .ite (Chip.Keeps.same hx1 rfl rfl rfl rfl) (.ite (Chip.refuse_keeps hx1) (hp4 _ hx1))
  · exact .ite (Chip.refuse_keeps hx1) (hp4 _ hx1)

theorem Chip.sarDeliver_keeps {z : Chip} {p1 : Chip} {p2 : ℕ} {p3 : ℕ} {p4 : ℕ} {p5 : ℕ} (hp1 : z.Keeps p1) : z.Keeps (Chip.sarDeliver p1 p2 p3 p4 p5) := by
  unfold Chip.sarDeliver
  extract_lets +onlyGivenNames x1
  clear_value x1
  extract_lets +onlyGivenNames x2
  clear_value x2
  extract_lets +onlyGivenNames x3
  clear_value x3
  extract_lets +onlyGivenNames x4
  clear_value x4
  extract_lets +onlyGivenNames x5
  clear_value x5
  extract_lets +onlyGivenNames x6
  have hx6 : z.Keeps x6 := Chip.sets_keeps hp1
  clear_value x6
  exact Chip.deliver_keeps hx6

theorem Chip.sdDead_keeps {z : Chip} {p1 : Chip} {p2 : ℕ} {p3 : ℕ} {p4 : ℕ} (hp1 : z.Keeps p1) : z.Keeps (Chip.sdDead p1 p2 p3 p4) := by
  unfold Chip.sdDead
  extract_lets +onlyGivenNames x1
  clear_value x1
  exact Chip.deliver_keeps (Chip.sets_keeps hp1)

theorem Chip.selfEval_keeps {z : Chip} {p1 : Chip} {p2 : ℕ} (hp1 : z.Keeps p1) : z.Keeps (Chip.selfEval p1 p2) := by
  unfold Chip.selfEval
  exact Chip.posEval_keeps (Chip.modPos_keeps hp1)

theorem Chip.sensorAngle_keeps {z : Chip} {p1 : Chip} {p2 : ℕ} {p3 : ℕ} {p4 : ℤ} (hp1 : z.Keeps p1) : z.Keeps (Chip.sensorAngle p1 p2 p3 p4) := by
  unfold Chip.sensorAngle
  extract_lets +onlyGivenNames x1
  extract_lets +onlyGivenNames x2
  clear_value x2
  extract_lets +onlyGivenNames x3
  extract_lets +onlyGivenNames x4
  clear_value x4
  extract_lets +onlyGivenNames x5
  have hx5 : z.Keeps x5 := Chip.modPos_keeps hp1
  clear_value x5
  extract_lets +onlyGivenNames x6
  have hx6 : z.Keeps x6 := Chip.sets_keeps hx5
  clear_value x6
  refine .ite hx6 ?_
  extract_lets +onlyGivenNames x7
  clear_value x7
  extract_lets +onlyGivenNames x8
  clear_value x8
  extract_lets +onlyGivenNames x9
  have hx9 : z.Keeps x9 := .ite (Chip.put_keeps (Chip.put_keeps hx6)) hx6
  clear_value x9
  exact Chip.posOk_keeps (Chip.put_keeps (Chip.set_keeps hx9))

theorem Chip.sentDrop_keeps {z : Chip} {p1 : Chip} {p2 : ℕ} (hp1 : z.Keeps p1) : z.Keeps (Chip.sentDrop p1 p2) := by
  unfold Chip.sentDrop
  exact Chip.put_keeps (Chip.modPos_keeps hp1)

theorem Chip.serialDone_keeps {z : Chip} {p1 : Chip} {p2 : ℕ} {p3 : Bool} {p4 : ℕ} {p5 : ℕ} {p6 : ℕ} (hp1 : z.Keeps p1) : z.Keeps (Chip.serialDone p1 p2 p3 p4 p5 p6) := by
  unfold Chip.serialDone
  extract_lets +onlyGivenNames x1
  have hx1 : z.Keeps x1 := Chip.modPos_keeps hp1
  clear_value x1
  exact .ite (Chip.sets_keeps hx1) (Chip.bump_keeps hx1)

theorem Chip.serialBits_keeps {z : Chip} {p1 : Chip} {p2 : ℕ} {p3 : Bool} {p4 : Bool} (hp1 : z.Keeps p1) : z.Keeps (Chip.serialBits p1 p2 p3 p4) := by
  unfold Chip.serialBits
  extract_lets +onlyGivenNames x1
  clear_value x1
  refine .ite ?_ ?_
  · extract_lets +onlyGivenNames x2
    extract_lets +onlyGivenNames x3
    have hx3 : z.Keeps x3 := Chip.modPos_keeps hp1
    clear_value x3
    refine .ite ?_ hx3
    extract_lets +onlyGivenNames x4
    clear_value x4
    extract_lets +onlyGivenNames x5
    clear_value x5
    exact Chip.serialDone_keeps hx3
  · refine .ite ?_ hp1
    extract_lets +onlyGivenNames x6
    extract_lets +onlyGivenNames x7
    have hx7 : z.Keeps x7 := Chip.modPos_keeps hp1
    clear_value x7
    extract_lets +onlyGivenNames x8
    refine .ite ?_ hx7
    extract_lets +onlyGivenNames x9
    extract_lets +onlyGivenNames x10
    clear_value x10
    extract_lets +onlyGivenNames x11
    clear_value x11
    extract_lets +onlyGivenNames x12
    clear_value x12
    extract_lets +onlyGivenNames x13
    clear_value x13
    extract_lets +onlyGivenNames x14
    clear_value x14
    exact .ite (Chip.serialDone_keeps hx7) (Chip.serialDone_keeps hx7)

theorem Chip.sentRx_keeps {z : Chip} {p1 : Chip} {p2 : ℕ} {p3 : ℕ} {p4 : List ℕ} (hp1 : z.Keeps p1) : z.Keeps (Chip.sentRx p1 p2 p3 p4) := by
  unfold Chip.sentRx
  extract_lets +onlyGivenNames x1
  clear_value x1
  extract_lets +onlyGivenNames x2
  clear_value x2
  extract_lets +onlyGivenNames x3
  clear_value x3
  refine .ite hp1 ?_
  refine .ite hp1 ?_
  extract_lets +onlyGivenNames x4
  extract_lets +onlyGivenNames x5
  clear_value x5
  extract_lets +onlyGivenNames x6
  extract_lets +onlyGivenNames x7
  have hx7 : z.Keeps x7 := Chip.modPos_keeps hp1
  clear_value x7
  refine .ite (Chip.bump_keeps (Chip.sentDrop_keeps hx7)) ?_
  extract_lets +onlyGivenNames x8
  extract_lets +onlyGivenNames x9
  refine .ite ?_ ?_
  · extract_lets +onlyGivenNames x10
    have hx10 : z.Keeps x10 := Chip.bump_keeps (Chip.sentDrop_keeps hx7)
    clear_value x10
    exact .ite hx10 (Chip.posNote_keeps (Chip.modPos_keeps hx10))
  · extract_lets +onlyGivenNames x11
    clear_value x11
    extract_lets +onlyGivenNames x12
    clear_value x12
    extract_lets +onlyGivenNames x13
    clear_value x13
    extract_lets +onlyGivenNames x14
    clear_value x14
    extract_lets +onlyGivenNames x15
    clear_value x15
    extract_lets +onlyGivenNames x16
    extract_lets +onlyGivenNames x17
    have hx17 : z.Keeps x17 := Chip.sets_keeps hx7
    clear_value x17
    exact Chip.sensorAngle_keeps (Chip.serialBits_keeps hx17)

theorem Chip.settleGroup_keeps {z : Chip} {p1 : Chip} {p2 : ℕ} {p3 : ℕ} (hp1 : z.Keeps p1) : z.Keeps (Chip.settleGroup p1 p2 p3) := by
  unfold Chip.settleGroup
  extract_lets +onlyGivenNames x1
  extract_lets +onlyGivenNames x2
  clear_value x2
  extract_lets +onlyGivenNames x3
  clear_value x3
  exact .ite (Chip.modGroup_keeps hp1) hp1

theorem Chip.settleLine_keeps {z : Chip} {p1 : Chip} {p2 : ℕ} (hp1 : z.Keeps p1) : z.Keeps (Chip.settleLine p1 p2) := by
  unfold Chip.settleLine
  extract_lets +onlyGivenNames x1
  clear_value x1
  extract_lets +onlyGivenNames x2
  clear_value x2
  extract_lets +onlyGivenNames x3
  extract_lets +onlyGivenNames x4
  have hx4 : z.Keeps x4 := (Chip.Keeps.same hp1 rfl rfl rfl rfl)
  clear_value x4
  exact .ite (Chip.modHart_keeps hx4) hx4

theorem Chip.showEstimates_keeps {z : Chip} {p1 : Chip} (hp1 : z.Keeps p1) : z.Keeps (Chip.showEstimates p1) := by
  unfold Chip.showEstimates
  exact .each (.each hp1 (fun a1 t2 ht2 => Chip.showTj_keeps ht2)) (fun a3 t4 ht4 => Chip.tjOver_keeps ht4)

theorem Chip.showLife_keeps {z : Chip} {p1 : Chip} {p2 : ℕ} (hp1 : z.Keeps p1) : z.Keeps (Chip.showLife p1 p2) := by
  unfold Chip.showLife
  extract_lets +onlyGivenNames x1
  clear_value x1
  extract_lets +onlyGivenNames x2
  have hx2 : z.Keeps x2 := Chip.set_keeps hp1
  clear_value x2
  exact .ite (Chip.note_keeps (Chip.put_keeps (Chip.modLedger_keeps hx2))) hx2

theorem Chip.slsJudge_keeps {z : Chip} {p1 : Chip} {p2 : ℕ} (hp1 : z.Keeps p1) : z.Keeps (Chip.slsJudge p1 p2) := by
  unfold Chip.slsJudge
  extract_lets +onlyGivenNames x1
  clear_value x1
  extract_lets +onlyGivenNames x2
  clear_value x2
  exact Chip.modCl_keeps hp1

theorem Chip.sourceTimeout_keeps {z : Chip} {p1 : Chip} {p2 : ℕ} {p3 : ℕ} (hp1 : z.Keeps p1) : z.Keeps (Chip.sourceTimeout p1 p2 p3) := by
  unfold Chip.sourceTimeout
  exact .ite hp1 (.ite (Chip.modPos_keeps hp1) (Chip.sourceLost_keeps hp1))

theorem Chip.splitNow_keeps {z : Chip} {p1 : Chip} {p2 : ℕ} (hp1 : z.Keeps p1) : z.Keeps (Chip.splitNow p1 p2) := by
  unfold Chip.splitNow
  extract_lets +onlyGivenNames x1
  clear_value x1
  extract_lets +onlyGivenNames x2
  have hx2 : z.Keeps x2 := .ite (Chip.copyEngine_keeps (Chip.imageEngine_keeps hp1)) hp1
  clear_value x2
  extract_lets +onlyGivenNames x3
  have hx3 : z.Keeps x3 := Chip.modCl_keeps hx2
  clear_value x3
  exact Chip.sets_keeps (Chip.imageEngine_keeps hx3)

theorem Chip.ss1Judge_keeps {z : Chip} {p1 : Chip} {p2 : ℕ} (hp1 : z.Keeps p1) : z.Keeps (Chip.ss1Judge p1 p2) := by
  unfold Chip.ss1Judge
  extract_lets +onlyGivenNames x1
  clear_value x1
  exact .ite (Chip.pcSto_keeps hp1) hp1

theorem Chip.statusWarn_keeps {z : Chip} {p1 : Chip} {p2 : ℕ} {p3 : ℕ} {p4 : ℕ} (hp1 : z.Keeps p1) : z.Keeps (Chip.statusWarn p1 p2 p3 p4) := by
  unfold Chip.statusWarn
  extract_lets +onlyGivenNames x1
  extract_lets +onlyGivenNames x2
  have hx2 : z.Keeps x2 := Chip.put_keeps hp1
  clear_value x2
  extract_lets +onlyGivenNames x3
  have hx3 : z.Keeps x3 := .ite (Chip.modSlice_keeps hx2) hx2
  clear_value x3
  extract_lets +onlyGivenNames x4
  have hx4 : z.Keeps x4 := .ite (Chip.islRecord_keeps (Chip.put_keeps hx3)) hx3
  clear_value x4
  extract_lets +onlyGivenNames x5
  clear_value x5
  extract_lets +onlyGivenNames x6
  have hx6 : z.Keeps x6 := Chip.put_keeps hx4
  clear_value x6
  exact .ite (Chip.islRecord_keeps (Chip.put_keeps hx6)) hx6

theorem Chip.statusWords_keeps {z : Chip} {p1 : Chip} {p2 : ℕ} {p3 : ℕ} {p4 : ℕ} {p5 : ℕ} {p6 : ℕ} (hp1 : z.Keeps p1) : z.Keeps (Chip.statusWords p1 p2 p3 p4 p5 p6) := by
  unfold Chip.statusWords
  extract_lets +onlyGivenNames x1
  have hx1 : z.Keeps x1 := Chip.sets_keeps hp1
  clear_value x1
  extract_lets +onlyGivenNames x2
  clear_value x2
  exact Chip.showNtc_keeps (Chip.sets_keeps hx1)

theorem Chip.stepFour_keeps {z : Chip} {p1 : Chip} {p2 : ℕ} {p3 : ℕ} (hp1 : z.Keeps p1) : z.Keeps (Chip.stepFour p1 p2 p3) := by
  unfold Chip.stepFour
  extract_lets +onlyGivenNames x1
  have hx1 : z.Keeps x1 := Chip.set_keeps hp1
  clear_value x1
  exact .ite (Chip.calibrate_keeps hx1) (Chip.calibrateDue_keeps (Chip.modIsl_keeps hx1))

theorem Chip.stopCarrier_keeps {z : Chip} {p1 : Chip} {p2 : ℕ} (hp1 : z.Keeps p1) : z.Keeps (Chip.stopCarrier p1 p2) := by
  unfold Chip.stopCarrier
  extract_lets +onlyGivenNames x1
  have hx1 : z.Keeps x1 := Chip.set_keeps (Chip.set_keeps (Chip.put_keeps hp1))
  clear_value x1
  extract_lets +onlyGivenNames x2
  have hx2 : z.Keeps x2 := Chip.modSlice_keeps hx1
  clear_value x2
  exact .ite (Chip.setGate_keeps hx2) hx2

theorem Chip.swapNow_keeps {z : Chip} {p1 : Chip} {p2 : ℕ} {p3 : ℕ} {p4 : Bool} (hp1 : z.Keeps p1) : z.Keeps (Chip.swapNow p1 p2 p3 p4) := by
  unfold Chip.swapNow
  refine .ite hp1 ?_
  refine .ite ?_ ?_
  · extract_lets +onlyGivenNames x1
    clear_value x1
    extract_lets +onlyGivenNames x2
    have hx2 : z.Keeps x2 := Chip.modCl_keeps hp1
    clear_value x2
    exact .ite (Chip.noteCl_keeps (Chip.setBitOf_keeps hx2)) hx2
  · extract_lets +onlyGivenNames x3
    have hx3 : z.Keeps x3 := Chip.set_keeps hp1
    clear_value x3
    extract_lets +onlyGivenNames x4
    have hx4 : z.Keeps x4 := Chip.put_keeps (Chip.count_keeps (Chip.putSwap_keeps hx3))
    clear_value x4
    extract_lets +onlyGivenNames x5
    have hx5 : z.Keeps x5 := Chip.modCl_keeps hx4
    clear_value x5
    refine .ite ?_ hx5
    extract_lets +onlyGivenNames x6
    clear_value x6
    extract_lets +onlyGivenNames x7
    have hx7 : z.Keeps x7 := Chip.modCl_keeps hx5
    clear_value x7
    exact .ite (Chip.ageSwapped_keeps hx7) hx7

theorem Chip.tjMeasure_keeps {z : Chip} {p1 : Chip} {p2 : ℕ} {p3 : ℕ} {p4 : ℕ} (hp1 : z.Keeps p1) : z.Keeps (Chip.tjMeasure p1 p2 p3 p4) := by
  unfold Chip.tjMeasure
  extract_lets +onlyGivenNames x1
  clear_value x1
  extract_lets +onlyGivenNames x2
  clear_value x2
  extract_lets +onlyGivenNames x3
  clear_value x3
  extract_lets +onlyGivenNames x4
  clear_value x4
  extract_lets +onlyGivenNames x5
  clear_value x5
  extract_lets +onlyGivenNames x6
  clear_value x6
  extract_lets +onlyGivenNames x7
  extract_lets +onlyGivenNames x8
  have hx8 : z.Keeps x8 := Chip.modSw_keeps hp1
  clear_value x8
  extract_lets +onlyGivenNames x9
  clear_value x9
  extract_lets +onlyGivenNames x10
  have hx10 : z.Keeps x10 := .ite (Chip.modSw_keeps hp1) (.ite (Chip.record_keeps (Chip.put_keeps hx8)) hx8)
  clear_value x10
  exact Chip.showTj_keeps hx10

theorem Chip.tokenAccept_keeps {z : Chip} {p1 : Chip} {p2 : ℕ} {p3 : Fuses} (hp1 : z.Keeps p1) : z.Keeps (Chip.tokenAccept p1 p2 p3) := by
  unfold Chip.tokenAccept
  extract_lets +onlyGivenNames x1
  have hx1 : z.Keeps x1 := Chip.sets_keeps (Chip.modFuses_keeps hp1)
  clear_value x1
  extract_lets +onlyGivenNames x2
  have hx2 : z.Keeps x2 := Chip.newNonce_keeps hx1
  clear_value x2
  exact .ite (Chip.note_keeps (Chip.sets_keeps hx2)) (.ite (Chip.note_keeps (Chip.put_keeps hx2)) hx2)

theorem Chip.tqJudge_keeps {z : Chip} {p1 : Chip} {p2 : ℕ} (hp1 : z.Keeps p1) : z.Keeps (Chip.tqJudge p1 p2) := by
  unfold Chip.tqJudge
  extract_lets +onlyGivenNames x1
  refine .ite (.ite hp1 (Chip.modCl_keeps hp1)) ?_
  extract_lets +onlyGivenNames x2
  clear_value x2
  extract_lets +onlyGivenNames x3
  clear_value x3
  extract_lets +onlyGivenNames x4
  clear_value x4
  extract_lets +onlyGivenNames x5
  clear_value x5
  extract_lets +onlyGivenNames x6
  clear_value x6
  extract_lets +onlyGivenNames x7
  clear_value x7
  extract_lets +onlyGivenNames x8
  have hx8 : z.Keeps x8 := Chip.put_keeps (Chip.set_keeps hp1)
  clear_value x8
  exact Chip.modCl_keeps hx8

theorem Chip.traceCopy_keeps {z : Chip} {p1 : Chip} {p2 : ℕ} (hp1 : z.Keeps p1) : z.Keeps (Chip.traceCopy p1 p2) := by
  unfold Chip.traceCopy
  refine Chip.descItem_keeps hp1 ?_
  intro v1 v2 hv2
  extract_lets +onlyGivenNames x3
  clear_value x3
  extract_lets +onlyGivenNames x4
  clear_value x4
  refine .ite hv2 ?_
  extract_lets +onlyGivenNames x5
  clear_value x5
  extract_lets +onlyGivenNames x6
  clear_value x6
  refine .ite hv2 ?_
  extract_lets +onlyGivenNames x7
  clear_value x7
  extract_lets +onlyGivenNames x8
  extract_lets +onlyGivenNames x9
  have hx9 : z.Keeps x9 := Chip.setBytes_keeps hv2
  clear_value x9
  exact Chip.descMore_keeps (Chip.modDesc_keeps hx9)

theorem Chip.transferred_keeps {z : Chip} {p1 : Chip} (hp1 : z.Keeps p1) : z.Keeps (Chip.transferred p1) := by
  unfold Chip.transferred
  extract_lets +onlyGivenNames x1
  extract_lets +onlyGivenNames x2
  have hx2 : z.Keeps x2 := Chip.modPwr_keeps hp1
  clear_value x2
  extract_lets +onlyGivenNames x3
  have hx3 : z.Keeps x3 := Chip.put_keeps hx2
  clear_value x3
  exact Chip.showReq_keeps (Chip.put_keeps hx3)

theorem Chip.triggerPass_keeps {z : Chip} {p1 : Chip} {p2 : ℕ} {p3 : ℕ} {p4 : ℕ} {p5 : Bool} (hp1 : z.Keeps p1) : z.Keeps (Chip.triggerPass p1 p2 p3 p4 p5) := by
  unfold Chip.triggerPass
  extract_lets +onlyGivenNames x1
  clear_value x1
  extract_lets +onlyGivenNames x2
  clear_value x2
  extract_lets +onlyGivenNames x3
  clear_value x3
  exact .ite hp1 (.ite (Chip.passStart_keeps hp1) (.ite (Chip.passStart_keeps hp1) hp1))

theorem Chip.txEnd_keeps {z : Chip} {p1 : Chip} {p2 : ℕ} {p3 : TxEnd} (hp1 : z.Keeps p1) : z.Keeps (Chip.txEnd p1 p2 p3) := by
  unfold Chip.txEnd
  split
  · exact hp1
  · rename_i y3 y4 q5
    split
    · exact Chip.canError_keeps hp1
    · exact Chip.txRetry_keeps (Chip.modCan_keeps hp1)
    · rename_i y10 q11
      extract_lets +onlyGivenNames x12
      extract_lets +onlyGivenNames x13
      have hx13 : z.Keeps x13 := Chip.modCan_keeps hp1
      clear_value x13
      extract_lets +onlyGivenNames x14
      have hx14 : z.Keeps x14 := .ite hx13 (Chip.canConf_keeps (Chip.set_keeps hx13))
      clear_value x14
      extract_lets +onlyGivenNames x15
      have hx15 : z.Keeps x15 := .ite (Chip.modPort_keeps hx14) hx14
      clear_value x15
      extract_lets +onlyGivenNames x16
      have hx16 : z.Keeps x16 := Chip.sets_keeps hx15
      clear_value x16
      extract_lets +onlyGivenNames x17
      have hx17 : z.Keeps x17 := .ite (Chip.set_keeps hx16) hx16
      clear_value x17
      extract_lets +onlyGivenNames x18
      have hx18 : z.Keeps x18 := Chip.bufEnd_keeps (Chip.showBackoff_keeps hx17)
      clear_value x18
      exact .ite (Chip.frameRx_keeps hx18) hx18

theorem Chip.unitAsk_keeps {z : Chip} {p1 : Chip} {p2 : UnitId} (hp1 : z.Keeps p1) : z.Keeps (Chip.unitAsk p1 p2) := by
  unfold Chip.unitAsk
  exact Chip.rowWrite_keeps hp1 (fun v1 hv1 => Chip.unitStart_keeps hv1)

theorem Chip.uploadItem_keeps {z : Chip} {p1 : Chip} {p2 : ℕ} (hp1 : z.Keeps p1) : z.Keeps (Chip.uploadItem p1 p2) := by
  unfold Chip.uploadItem
  refine Chip.descItem_keeps hp1 ?_
  intro v1 v2 hv2
  extract_lets +onlyGivenNames x3
  clear_value x3
  extract_lets +onlyGivenNames x4
  clear_value x4
  extract_lets +onlyGivenNames x5
  refine .ite ?_ (Chip.descMore_keeps (Chip.storeRun_keeps hv2))
  extract_lets +onlyGivenNames x6
  have hx6 : z.Keeps x6 := Chip.reachGate_keeps hv2
  clear_value x6
  split
  · exact Chip.descEnd_keeps (Chip.ldrStore_keeps hx6)
  · exact Chip.descMore_keeps (.each hx6 (fun a11 t12 ht12 => Chip.ldrStore_keeps ht12))

theorem Chip.valleyCarrier_keeps {z : Chip} {p1 : Chip} {p2 : ℕ} (hp1 : z.Keeps p1) : z.Keeps (Chip.valleyCarrier p1 p2) := by
  unfold Chip.valleyCarrier
  extract_lets +onlyGivenNames x1
  have hx1 : z.Keeps x1 := Chip.accrue_keeps hp1
  clear_value x1
  extract_lets +onlyGivenNames x2
  have hx2 : z.Keeps x2 := .ite (Chip.count_keeps hx1) hx1
  clear_value x2
  extract_lets +onlyGivenNames x3
  extract_lets +onlyGivenNames x4
  have hx4 : z.Keeps x4 := Chip.sets_keeps hx2
  clear_value x4
  exact Chip.modSlice_keeps hx4

theorem Chip.valleyTick_keeps {z : Chip} {p1 : Chip} {p2 : ℕ} (hp1 : z.Keeps p1) : z.Keeps (Chip.valleyTick p1 p2) := by
  unfold Chip.valleyTick
  extract_lets +onlyGivenNames x1
  have hx1 : z.Keeps x1 := Chip.valleyCarrier_keeps hp1
  clear_value x1
  refine .ite (Chip.showHiz_keeps (Chip.syncFollowers_keeps (Chip.stopCarrier_keeps hx1))) ?_
  extract_lets +onlyGivenNames x2
  have hx2 : z.Keeps x2 := Chip.reloadPoint_keeps (Chip.syncCheck_keeps hx1)
  clear_value x2
  exact Chip.checkSlice_keeps (Chip.showHiz_keeps (Chip.rawAt_keeps hx2))

theorem Chip.wdisFail_keeps {z : Chip} {p1 : Chip} {p2 : ℕ} (hp1 : z.Keeps p1) : z.Keeps (Chip.wdisFail p1 p2) := by
  unfold Chip.wdisFail
  extract_lets +onlyGivenNames x1
  have hx1 : z.Keeps x1 := Chip.wdisRefuse_keeps (Chip.setHeld_keeps hp1)
  clear_value x1
  exact .ite (Chip.disResistor_keeps hx1) hx1

theorem Chip.wdisProbed_keeps {z : Chip} {p1 : Chip} {p2 : ℕ} (hp1 : z.Keeps p1) : z.Keeps (Chip.wdisProbed p1 p2) := by
  unfold Chip.wdisProbed
  split
  · exact Chip.wdisStart_keeps hp1
  · exact .ite (Chip.wdisStart_keeps (Chip.obsCaught_keeps (Chip.useFree_keeps hp1))) (Chip.wdisFail_keeps hp1)

theorem Chip.windResult_keeps {z : Chip} {p1 : Chip} {p2 : ℕ} {p3 : ℕ} (hp1 : z.Keeps p1) : z.Keeps (Chip.windResult p1 p2 p3) := by
  unfold Chip.windResult
  extract_lets +onlyGivenNames x1
  clear_value x1
  extract_lets +onlyGivenNames x2
  clear_value x2
  extract_lets +onlyGivenNames x3
  have hx3 : z.Keeps x3 := Chip.sets_keeps hp1
  clear_value x3
  exact Chip.windJudge_keeps (Chip.modChm_keeps hx3)

theorem Chip.writeFailed_keeps {z : Chip} {p1 : Chip} {p2 : WriteOwner} (hp1 : z.Keeps p1) : z.Keeps (Chip.writeFailed p1 p2) := by
  unfold Chip.writeFailed
  split
  · exact Chip.ledFail_keeps hp1
  · exact Chip.bootEnd_keeps hp1
  · exact Chip.hwAbortEnd_keeps (Chip.descEnd_keeps (Chip.dropWrite_keeps hp1))
  · exact Chip.put_keeps (Chip.dropWrite_keeps hp1)
  · exact Chip.dropWrite_keeps hp1
  · exact Chip.dropWrite_keeps hp1

theorem Chip.writeNow_keeps {z : Chip} {p1 : Chip} {p2 : Requester} {p3 : ℕ} {p4 : ℕ} (hp1 : z.Keeps p1) : z.Keeps (Chip.writeNow p1 p2 p3 p4) := by
  unfold Chip.writeNow
  refine .ite hp1 ?_
  extract_lets +onlyGivenNames x1
  have hx1 : z.Keeps x1 := Chip.drainFor_keeps hp1
  clear_value x1
  exact .ite (Chip.hostDenied_keeps hx1) (Chip.regWrite_keeps hx1)

theorem Chip.writeStarted_keeps {z : Chip} {p1 : Chip} {p2 : WriteOwner} (hp1 : z.Keeps p1) : z.Keeps (Chip.writeStarted p1 p2) := by
  unfold Chip.writeStarted
  split
  · exact Chip.ledStart_keeps hp1
  · exact Chip.ageStored_keeps hp1
  · exact Chip.repairsWritten_keeps hp1
  · exact hp1

end Sys2Proof.Machine
end

