-- ==== Sys2Proof/Laws/KeepsExec.lean ====
section
/-! SUPPORT. What every command keeps: the form of the stores; and but for stores and the host port's writes none posts a write. -/

set_option linter.unusedVariables false

namespace Sys2Proof.Machine

open Sys2Proof

theorem State.actRaw_keeps {s t : State} {f : Chip → Chip} (h : s.actRaw f = .next t)
    (hf : ∀ z c : Chip, z.Keeps c → z.Keeps (f c)) : s.chip.Keeps t.chip := by
  cases h
  exact Chip.settle_keeps (hf _ _ (.refl _))

theorem State.act_keeps {s t : State} {f : Chip → Chip} (h : s.act f = .next t)
    (hf : ∀ z c : Chip, z.Keeps c → z.Keeps (f c)) : s.chip.Keeps t.chip := by
  unfold State.act at h
  split at h
  · cases h; exact .refl _
  · exact State.actRaw_keeps h hf

theorem State.actIf_keeps {s t : State} {ok : Bool} {f : Chip → Chip} (h : s.actIf ok f = .next t)
    (hf : ∀ z c : Chip, z.Keeps c → z.Keeps (f c)) : s.chip.Keeps t.chip := by
  unfold State.actIf at h
  split at h
  · exact State.act_keeps h hf
  · cases h

theorem Chip.post_keepsWf {z s : Chip} {r : Requester} {a n d : ℕ} (h : z.KeepsWf s) : z.KeepsWf (s.post r a n d) := h

theorem Chip.KeepsWf.of {z s t : Chip} (h : z.KeepsWf s) (k : s.Keeps t) : z.KeepsWf t := fun x => k.wf (h x)

theorem Chip.busTick_keepsWf {z s : Chip} (h : z.KeepsWf s) : z.KeepsWf s.busTick := by
  unfold Chip.busTick
  split
  · exact h
  · split
    · exact h.of (Chip.effectAt_keeps (.refl _))
    · extract_lets go win done rest
      have key : ∀ (l : List Posted) (u : Chip), z.KeepsWf u → z.KeepsWf (forEach l (fun p t => t.effect p) u) := by
        intro l
        induction l with
        | nil => intro u hu; exact hu
        | cons p l ih => intro u hu; exact ih _ (hu.of (Chip.effect_keeps (.refl _)))
      exact key _ _ h

theorem Chip.dieTick_keepsWf {z s : Chip} (h : z.KeepsWf s) : z.KeepsWf s.dieTick := by
  unfold Chip.dieTick
  extract_lets s1 s2 s3
  have h1 : z.KeepsWf s1 := h.of (Chip.tickEnd_keeps (.refl _))
  clear_value s1
  have h2 : z.KeepsWf s2 :=
    Chip.busTick_keepsWf (h1.of (Chip.sliceTick_keeps (.same (.refl _) rfl rfl rfl rfl)))
  clear_value s2
  have h3 : z.KeepsWf s3 := h2.of (.each (.refl _) fun _ _ ht => Chip.txStart_keeps ht)
  clear_value s3
  exact h3.of (Chip.chmTick_keeps (Chip.cycleTick_keeps (Chip.scanSamples_keeps (Chip.sdTick_keeps (Chip.fabTick_keeps
    (Chip.ringTick_keeps (Chip.copyTick_keeps (.refl _))))))))

theorem Chip.tick_keepsWf {z s : Chip} (h : z.KeepsWf s) : z.KeepsWf s.tick := by
  unfold Chip.tick
  extract_lets s1
  have h1 : z.KeepsWf s1 := h.of (.same (.refl _) rfl rfl rfl rfl)
  clear_value s1
  have h2 : z.KeepsWf (if s1.pwr.dieReset then s1 else s1.dieTick) := by
    split
    · exact h1
    · exact Chip.dieTick_keepsWf h1
  exact h2.of (Chip.aonTick_keeps (.refl _))

theorem Chip.coreStore_keepsWf (s : Chip) (c n a d : ℕ) : s.KeepsWf (s.coreStore c n a d) := by
  unfold Chip.coreStore
  split
  · exact id
  · split
    · exact (Chip.trap_keeps (.refl s)).wf
    · split
      · exact (Chip.trap_keeps (.refl s)).wf
      · exact id

theorem Chip.hostWrite_keepsWf (s : Chip) (a : ℕ) (l : List Byte) : s.KeepsWf (s.hostWrite a l) := by
  unfold Chip.hostWrite
  split
  · exact (Chip.portProto_keeps (.refl s)).wf
  · split
    · exact (Chip.note_keeps (Chip.put_keeps (Chip.modHw_keeps (.refl s)))).wf
    · extract_lets +onlyGivenNames ps t
      have ht : s.KeepsWf t := by
        unfold t
        split
        · exact (Chip.hostDenied_keeps (.refl s)).wf
        · exact id
      clear_value t
      have key : ∀ (l : List (ℕ × List Byte)) (u : Chip), s.KeepsWf u →
          s.KeepsWf (forEach l (fun p t => t.post .host p.1 p.2.length (leNat p.2)) u) := by
        intro l
        induction l with
        | nil => intro u hu; exact hu
        | cons p l ih => intro u hu; exact ih _ hu
      exact key _ _ ht

theorem execAcyclicFrameRx_keeps {p1 : Bool} {p2 : AcyclicFrame} {p3 : Bool} {p4 : State} {t : State} (h : execAcyclicFrameRx p1 p2 p3 p4 = .next t) : p4.chip.Keeps t.chip :=
  State.actIf_keeps h (fun _ c1 hc1 => Chip.acyclicRx_keeps hc1)

theorem execAddressClaim_keeps {p1 : Fin 4} {p2 : State} {t : State} (h : execAddressClaim p1 p2 = .next t) : p2.chip.Keeps t.chip :=
  State.act_keeps h (fun _ c1 hc1 => Chip.claimPref_keeps hc1)

theorem execAddressClaimedRx_keeps {p1 : Fin 4} {p2 : Byte} {p3 : BitVec 64} {p4 : State} {t : State} (h : execAddressClaimedRx p1 p2 p3 p4 = .next t) : p4.chip.Keeps t.chip :=
  State.act_keeps h (fun _ c1 hc1 => Chip.canRx_keeps hc1)

theorem execAgeApply_keeps {p1 : Fin 4} {p2 : State} {t : State} (h : execAgeApply p1 p2 = .next t) : p2.chip.Keeps t.chip := by
  refine State.act_keeps h ?_
  intro z c1 hc1
  extract_lets +onlyGivenNames x2
  extract_lets +onlyGivenNames x3
  clear_value x3
  refine .ite hc1 ?_
  extract_lets +onlyGivenNames x4
  have hx4 : ∀ w5, z.Keeps w5 → z.Keeps (x4 w5) := fun w5 hw5 => Chip.showLearn_keeps (Chip.modAge_keeps hw5)
  clear_value x4
  extract_lets +onlyGivenNames x6
  clear_value x6
  refine .ite (hx4 _ hc1) ?_
  split
  · exact hx4 _ (Chip.record_keeps hc1)
  · extract_lets +onlyGivenNames x11
    have hx11 : z.Keeps x11 := Chip.copyTable2_keeps hc1
    clear_value x11
    extract_lets +onlyGivenNames x12
    have hx12 : z.Keeps x12 := Chip.modAge_keeps (.foldl hx11 (fun t14 a13 ht14 => Chip.ageTake_keeps ht14))
    clear_value x12
    exact Chip.showLearn_keeps (Chip.ageSwapOut_keeps hx12)

theorem execAgeRebuild_keeps {p1 : Fin 4} {p2 : State} {t : State} (h : execAgeRebuild p1 p2 = .next t) : p2.chip.Keeps t.chip := by
  refine State.act_keeps h ?_
  intro z c1 hc1
  extract_lets +onlyGivenNames x2
  refine .ite hc1 ?_
  extract_lets +onlyGivenNames x3
  have hx3 : z.Keeps x3 := Chip.modAge_keeps (Chip.copyTable2_keeps hc1)
  clear_value x3
  extract_lets +onlyGivenNames x4
  have hx4 : z.Keeps x4 := .foldl hx3 (fun t6 a5 ht6 => Chip.rebuildEntry_keeps ht6)
  clear_value x4
  extract_lets +onlyGivenNames x7
  extract_lets +onlyGivenNames x8
  have hx8 : z.Keeps x8 := Chip.modAge_keeps hx4
  clear_value x8
  exact Chip.ageSwapOut_keeps hx8

theorem execAloneProbe_keeps {p1 : Fin 4} {p2 : State} {t : State} (h : execAloneProbe p1 p2 = .next t) : p2.chip.Keeps t.chip := by
  refine State.act_keeps h ?_
  intro z c1 hc1
  refine .ite hc1 ?_
  extract_lets +onlyGivenNames x2
  extract_lets +onlyGivenNames x3
  clear_value x3
  exact Chip.statusSend_keeps (Chip.modPort_keeps hc1)

theorem execAonXtalFail_keeps {p1 : Bool} {p2 : State} {t : State} (h : execAonXtalFail p1 p2 = .next t) : p2.chip.Keeps t.chip := by
  refine State.actRaw_keeps h ?_
  intro z c1 hc1
  extract_lets +onlyGivenNames x2
  have hx2 : z.Keeps x2 := Chip.put_keeps hc1
  clear_value x2
  extract_lets +onlyGivenNames x3
  have hx3 : z.Keeps x3 := Chip.modPwr_keeps hx2
  clear_value x3
  exact .ite hx3 (Chip.note_keeps (Chip.sets_keeps (Chip.monitor_keeps hx3)))

theorem execArbCommit_keeps {p1 : Word} {p2 : State} {t : State} (h : execArbCommit p1 p2 = .next t) : p2.chip.Keeps t.chip :=
  State.act_keeps h (fun _ c1 hc1 => Chip.arbWrite_keeps hc1)

theorem execArbCommitEnd_keeps {p1 : State} {t : State} (h : execArbCommitEnd p1 = .next t) : p1.chip.Keeps t.chip := by
  refine State.act_keeps h ?_
  intro z c1 hc1
  refine .ite ?_ hc1
  extract_lets +onlyGivenNames x2
  clear_value x2
  exact Chip.sets_keeps (Chip.modFuses_keeps hc1)

theorem execBamGap_keeps {p1 : Fin 8} {p2 : State} {t : State} (h : execBamGap p1 p2 = .next t) : p2.chip.Keeps t.chip :=
  State.act_keeps h (fun _ c1 hc1 => .ite (Chip.sesData_keeps hc1) hc1)

theorem execBankConfirm_keeps {p1 : State} {t : State} (h : execBankConfirm p1 = .next t) : p1.chip.Keeps t.chip :=
  State.act_keeps h (fun _ c1 hc1 => Chip.bankWrite_keeps hc1)

theorem execBankUpdate_keeps {p1 : Word} {p2 : State} {t : State} (h : execBankUpdate p1 p2 = .next t) : p2.chip.Keeps t.chip :=
  State.act_keeps h (fun _ c1 hc1 => Chip.bankWrite_keeps hc1)

theorem execBcmStall_keeps {p1 : Fin 4} {p2 : State} {t : State} (h : execBcmStall p1 p2 = .next t) : p2.chip.Keeps t.chip := by
  refine State.act_keeps h ?_
  intro z c1 hc1
  extract_lets +onlyGivenNames x2
  clear_value x2
  split <;> exact .ite (Chip.faultCl_keeps hc1) hc1

theorem execBoRec_keeps {p1 : Fin 4} {p2 : State} {t : State} (h : execBoRec p1 p2 = .next t) : p2.chip.Keeps t.chip :=
  State.act_keeps h (fun _ c1 hc1 => Chip.rowWrite_keeps hc1 (fun v2 hv2 => .ite (Chip.modCan_keeps hv2) hv2))

theorem execBootLow_keeps {p1 : Fin 16} {p2 : State} {t : State} (h : execBootLow p1 p2 = .next t) : p2.chip.Keeps t.chip := by
  refine State.act_keeps h ?_
  intro z c1 hc1
  refine .ite ?_ hc1
  extract_lets +onlyGivenNames x2
  have hx2 : z.Keeps x2 := Chip.modSlice_keeps hc1
  clear_value x2
  extract_lets +onlyGivenNames x3
  have hx3 : z.Keeps x3 := Chip.record_keeps (Chip.put_keeps hx2)
  clear_value x3
  exact .ite hx3 (.ite (Chip.modSlice_keeps hx3) (Chip.refreshStart_keeps hx3))

theorem execBootSequence_keeps {p1 : BootOutcome} {p2 : State} {t : State} (h : execBootSequence p1 p2 = .next t) : p2.chip.Keeps t.chip :=
  State.act_keeps h (fun _ c1 hc1 => .ite (Chip.bootRun_keeps hc1) hc1)

theorem execBootrecWriteEnd_keeps {p1 : Bool} {p2 : State} {t : State} (h : execBootrecWriteEnd p1 p2 = .next t) : p2.chip.Keeps t.chip :=
  State.act_keeps h (fun _ c1 hc1 => .ite (Chip.bootEnd_keeps hc1) hc1)

theorem execBrownOut_keeps {p1 : Rail} {p2 : State} {t : State} (h : execBrownOut p1 p2 = .next t) : p2.chip.Keeps t.chip := by
  refine State.actRaw_keeps h ?_
  intro z c1 hc1
  extract_lets +onlyGivenNames x2
  clear_value x2
  extract_lets +onlyGivenNames x3
  have hx3 : ∀ w4, ∀ w5, ∀ w6, z.Keeps (x3 w4 w5 w6) := by
    intro w4 w5 w6
    unfold x3
    refine .ite ?_ (Chip.put_keeps hc1)
    extract_lets +onlyGivenNames x7
    have hx7 : z.Keeps x7 := Chip.dieReset_keeps (Chip.put_keeps hc1)
    clear_value x7
    extract_lets +onlyGivenNames x8
    have hx8 : z.Keeps x8 := Chip.modPwr_keeps hx7
    clear_value x8
    exact (Chip.Keeps.same hx8 rfl rfl rfl rfl)
  clear_value x3
  split
  · exact hx3 _ _ _
  · exact hx3 _ _ _
  · exact Chip.cellarReset_keeps hc1
  · exact hc1
  · extract_lets +onlyGivenNames x19
    have hx19 : z.Keeps x19 := Chip.modPwr_keeps (Chip.put_keeps hc1)
    clear_value x19
    refine .ite hx19 ?_
    extract_lets +onlyGivenNames x20
    have hx20 : z.Keeps x20 := Chip.sets_keeps hx19
    clear_value x20
    extract_lets +onlyGivenNames x21
    extract_lets +onlyGivenNames x22
    have hx22 : z.Keeps x22 := (Chip.Keeps.same hx20 rfl rfl rfl rfl)
    clear_value x22
    exact Chip.refreshHolds_keeps (Chip.showOv3_keeps (Chip.showVdc_keeps (Chip.cmpDemands_keeps (Chip.faultEvery_keeps hx22))))

theorem execBsCatchPulse_keeps {p1 : Fin 4} {p2 : State} {t : State} (h : execBsCatchPulse p1 p2 = .next t) : p2.chip.Keeps t.chip :=
  State.act_keeps h (fun _ c1 hc1 => .ite (.each (.ite hc1 (Chip.pulseOn_keeps hc1)) (fun a2 t3 ht3 => .ite (Chip.commandOn_keeps ht3) ht3)) hc1)

theorem execBsRefresh_keeps {p1 : Fin 16} {p2 : State} {t : State} (h : execBsRefresh p1 p2 = .next t) : p2.chip.Keeps t.chip := by
  refine State.act_keeps h ?_
  intro z c1 hc1
  extract_lets +onlyGivenNames x2
  clear_value x2
  extract_lets +onlyGivenNames x3
  have hx3 : z.Keeps x3 := .ite (Chip.rawEdge_keeps hc1) hc1
  clear_value x3
  extract_lets +onlyGivenNames x4
  exact .ite hx3 (.ite (Chip.bsNote_keeps (Chip.refreshStart_keeps hx3)) (.ite (Chip.bsNote_keeps (Chip.modSlice_keeps hx3)) hx3))

theorem execBusError_keeps {p1 : Fin 4} {p2 : CanError} {p3 : State} {t : State} (h : execBusError p1 p2 p3 = .next t) : p3.chip.Keeps t.chip :=
  State.act_keeps h (fun _ c1 hc1 => Chip.canError_keeps hc1)

theorem execBusOffEnd_keeps {p1 : Fin 4} {p2 : State} {t : State} (h : execBusOffEnd p1 p2 = .next t) : p2.chip.Keeps t.chip := by
  refine State.act_keeps h ?_
  intro z c1 hc1
  refine .ite ?_ hc1
  extract_lets +onlyGivenNames x2
  have hx2 : z.Keeps x2 := Chip.sets_keeps hc1
  clear_value x2
  exact Chip.claimPref_keeps (Chip.modCan_keeps hx2)

theorem execCanIntegrated_keeps {p1 : Fin 4} {p2 : State} {t : State} (h : execCanIntegrated p1 p2 = .next t) : p2.chip.Keeps t.chip :=
  State.act_keeps h (fun _ c1 hc1 => .ite (Chip.porchLoad_keeps (Chip.modCan_keeps (Chip.put_keeps hc1))) hc1)

theorem execCanMode_keeps {p1 : Fin 4} {p2 : Fin 4} {p3 : State} {t : State} (h : execCanMode p1 p2 p3 = .next t) : p3.chip.Keeps t.chip :=
  State.act_keeps h (fun _ c1 hc1 => Chip.rowWrite_keeps hc1 (fun v2 hv2 => Chip.canModeSet_keeps hv2))

theorem execCannotClaimSend_keeps {p1 : Fin 4} {p2 : State} {t : State} (h : execCannotClaimSend p1 p2 = .next t) : p2.chip.Keeps t.chip :=
  State.act_keeps h (fun _ c1 hc1 => .ite (Chip.cannotSend_keeps (Chip.modPort_keeps hc1)) hc1)

theorem execCatchProbe_keeps {p1 : Fin 4} {p2 : Word} {p3 : Word} {p4 : ProbeEnd} {p5 : State} {t : State} (h : execCatchProbe p1 p2 p3 p4 p5 = .next t) : p5.chip.Keeps t.chip := by
  refine State.act_keeps h ?_
  intro z c1 hc1
  refine .ite hc1 ?_
  refine .ite ?_ ?_
  · extract_lets +onlyGivenNames x2
    have hx2 : z.Keeps x2 := Chip.modCl_keeps hc1
    clear_value x2
    split
    · rename_i y3 y4 q5
      refine .ite ?_ (Chip.wdisFail_keeps hx2)
      extract_lets +onlyGivenNames x6
      have hx6 : z.Keeps x6 := Chip.modCl_keeps hx2
      clear_value x6
      exact .ite (Chip.wdisProbed_keeps hx6) hx6
  · extract_lets +onlyGivenNames x7
    have hx7 : z.Keeps x7 := Chip.bump_keeps (Chip.set_keeps hc1)
    clear_value x7
    extract_lets +onlyGivenNames x8
    have hx8 : z.Keeps x8 := Chip.modCl_keeps hx7
    clear_value x8
    split
    · rename_i y9 y10 q11
      extract_lets +onlyGivenNames x12
      clear_value x12
      refine .ite ?_ ?_
      · extract_lets +onlyGivenNames x13
        have hx13 : z.Keeps x13 := Chip.modCl_keeps hx8
        clear_value x13
        exact .ite (Chip.catchStandstill_keeps hx13) hx13
      · extract_lets +onlyGivenNames x14
        clear_value x14
        extract_lets +onlyGivenNames x15
        have hx15 : z.Keeps x15 := Chip.modCl_keeps hx8
        clear_value x15
        split
        · exact hx15
        · rename_i y18 q19
          split
          · exact Chip.larderBad_keeps hx15
          · extract_lets +onlyGivenNames x24
            clear_value x24
            extract_lets +onlyGivenNames x25
            clear_value x25
            extract_lets +onlyGivenNames x26
            clear_value x26
            exact Chip.catchLock_keeps (Chip.obsCaught_keeps hx15)

theorem execCatchTimeout_keeps {p1 : Fin 4} {p2 : State} {t : State} (h : execCatchTimeout p1 p2 = .next t) : p2.chip.Keeps t.chip := by
  refine State.act_keeps h ?_
  intro z c1 hc1
  refine .ite hc1 ?_
  extract_lets +onlyGivenNames x2
  clear_value x2
  extract_lets +onlyGivenNames x3
  have hx3 : z.Keeps x3 := by
    unfold x3
    split
    · exact Chip.islRecord_keeps hc1
    · exact hc1
  clear_value x3
  exact Chip.noLock_keeps hx3

theorem execCellarReset_keeps {p1 : Bool} {p2 : State} {t : State} (h : execCellarReset p1 p2 = .next t) : p2.chip.Keeps t.chip :=
  State.actRaw_keeps h (fun _ c1 hc1 => Chip.cellarReset_keeps hc1)

theorem execCellarTransfer_keeps {p1 : State} {t : State} (h : execCellarTransfer p1 = .next t) : p1.chip.Keeps t.chip := by
  refine State.actRaw_keeps h ?_
  intro z c1 hc1
  refine .ite hc1 ?_
  extract_lets +onlyGivenNames x2
  clear_value x2
  extract_lets +onlyGivenNames x3
  have hx3 : z.Keeps x3 := Chip.transferred_keeps hc1
  clear_value x3
  split
  · exact Chip.showReq_keeps (Chip.modPwr_keeps (Chip.dieReset_keeps hx3))
  · exact hx3

theorem execChanLoss_keeps {p1 : Fin 12} {p2 : State} {t : State} (h : execChanLoss p1 p2 = .next t) : p2.chip.Keeps t.chip := by
  refine State.act_keeps h ?_
  intro z c1 hc1
  refine .ite hc1 ?_
  extract_lets +onlyGivenNames x2
  clear_value x2
  extract_lets +onlyGivenNames x3
  have hx3 : z.Keeps x3 := Chip.sets_keeps hc1
  clear_value x3
  exact .ite (Chip.islFall_keeps (Chip.islHold_keeps (Chip.islDetect_keeps hx3))) hx3

theorem execCheckedMessageRx_keeps {p1 : Fin 4} {p2 : Byte} {p3 : Vector Byte 8} {p4 : State} {t : State} (h : execCheckedMessageRx p1 p2 p3 p4 = .next t) : p4.chip.Keeps t.chip :=
  State.act_keeps h (fun _ c1 hc1 => Chip.canRx_keeps hc1)

theorem execChopperTest_keeps {p1 : State} {t : State} (h : execChopperTest p1 = .next t) : p1.chip.Keeps t.chip :=
  State.act_keeps h (fun _ c1 hc1 => Chip.chopTest_keeps hc1)

theorem execChopperVerifyEnd_keeps {p1 : State} {t : State} (h : execChopperVerifyEnd p1 = .next t) : p1.chip.Keeps t.chip := by
  refine State.act_keeps h ?_
  intro z c1 hc1
  refine .ite hc1 ?_
  extract_lets +onlyGivenNames x2
  clear_value x2
  extract_lets +onlyGivenNames x3
  clear_value x3
  extract_lets +onlyGivenNames x4
  extract_lets +onlyGivenNames x5
  have hx5 : z.Keeps x5 := (Chip.Keeps.same hc1 rfl rfl rfl rfl)
  clear_value x5
  extract_lets +onlyGivenNames x6
  have hx6 : z.Keeps x6 := .ite hx5 (Chip.chopFail_keeps hx5)
  clear_value x6
  refine .ite hx6 ?_
  extract_lets +onlyGivenNames x7
  have hx7 : z.Keeps x7 := Chip.sets_keeps hx6
  clear_value x7
  extract_lets +onlyGivenNames x8
  have hx8 : z.Keeps x8 := Chip.put_keeps hx7
  clear_value x8
  extract_lets +onlyGivenNames x9
  extract_lets +onlyGivenNames x10
  have hx10 : z.Keeps x10 := .ite (Chip.Keeps.same hx8 rfl rfl rfl rfl) hx7
  clear_value x10
  extract_lets +onlyGivenNames x11
  clear_value x11
  exact .ite hx10 (Chip.chopper_keeps hx10)

theorem execClaimSettled_keeps {p1 : Fin 4} {p2 : State} {t : State} (h : execClaimSettled p1 p2 = .next t) : p2.chip.Keeps t.chip :=
  State.act_keeps h (fun _ c1 hc1 => .ite (Chip.porchLoad_keeps (Chip.portSet_keeps hc1)) hc1)

theorem execCleClear_keeps {p1 : Fin 4} {p2 : State} {t : State} (h : execCleClear p1 p2 = .next t) : p2.chip.Keeps t.chip :=
  State.act_keeps h (fun _ c1 hc1 => Chip.rowWrite_keeps hc1 (fun v2 hv2 => Chip.cleClr_keeps hv2))

theorem execCleCrcUpdate_keeps {p1 : Fin 4} {p2 : Option (Fin 1792 × Bool)} {p3 : State} {t : State} (h : execCleCrcUpdate p1 p2 p3 = .next t) : p3.chip.Keeps t.chip := by
  refine State.act_keeps h ?_
  intro z c1 hc1
  extract_lets +onlyGivenNames x2
  have hx2 : z.Keeps x2 := by
    unfold x2
    split
    · exact Chip.engineFault_keeps hc1
    · exact Chip.noteCl_keeps (Chip.put_keeps hc1)
    · exact hc1
  clear_value x2
  exact Chip.put_keeps (Chip.set_keeps hx2)

theorem execClearRequest_keeps {p1 : Fin 4} {p2 : State} {t : State} (h : execClearRequest p1 p2 = .next t) : p2.chip.Keeps t.chip :=
  State.act_keeps h (fun _ c1 hc1 => Chip.rowWrite_keeps hc1 (fun v2 hv2 => Chip.request_keeps hv2))

theorem execClrTot_keeps {p1 : Fin 2} {p2 : State} {t : State} (h : execClrTot p1 p2 = .next t) : p2.chip.Keeps t.chip :=
  State.act_keeps h (fun _ c1 hc1 => Chip.rowWrite_keeps hc1 (fun v2 hv2 => Chip.posClrTot_keeps hv2))

theorem execClrWeld_keeps {p1 : State} {t : State} (h : execClrWeld p1 = .next t) : p1.chip.Keeps t.chip :=
  State.act_keeps h (fun _ c1 hc1 => Chip.applyContactors_keeps (Chip.put_keeps hc1))

theorem execCmdLost_keeps {p1 : Fin 4} {p2 : State} {t : State} (h : execCmdLost p1 p2 = .next t) : p2.chip.Keeps t.chip :=
  State.act_keeps h (fun _ c1 hc1 => .ite (Chip.note_keeps (Chip.put_keeps (Chip.modPort_keeps hc1))) hc1)

theorem execCmpRelease_keeps {p1 : Fin 16} {p2 : CmpInput} {p3 : State} {t : State} (h : execCmpRelease p1 p2 p3 = .next t) : p3.chip.Keeps t.chip := by
  refine State.act_keeps h ?_
  intro z c1 hc1
  extract_lets +onlyGivenNames x2
  refine .ite hc1 ?_
  extract_lets +onlyGivenNames x3
  have hx3 : z.Keeps x3 := Chip.cmpFreed_keeps hc1 (Chip.clrBitOf_keeps (Chip.refShown_keeps hc1))
  clear_value x3
  exact Chip.settleHolds_keeps (Chip.applyContactors_keeps (Chip.showVdc_keeps (Chip.showOv3_keeps hx3)))

theorem execCmpTrip_keeps {p1 : Fin 16} {p2 : CmpInput} {p3 : State} {t : State} (h : execCmpTrip p1 p2 p3 = .next t) : p3.chip.Keeps t.chip := by
  refine State.act_keeps h ?_
  intro z c1 hc1
  extract_lets +onlyGivenNames x2
  extract_lets +onlyGivenNames x3
  refine .ite hc1 ?_
  extract_lets +onlyGivenNames x4
  have hx4 : z.Keeps x4 := Chip.refShown_keeps hc1
  clear_value x4
  extract_lets +onlyGivenNames x5
  clear_value x5
  extract_lets +onlyGivenNames x6
  have hx6 : z.Keeps x6 := Chip.setBitOf_keeps hx4
  clear_value x6
  extract_lets +onlyGivenNames x7
  have hx7 : z.Keeps x7 := .ite hx6 (Chip.record_keeps (Chip.setBitOf_keeps hx6))
  clear_value x7
  exact Chip.cmpRoleActs_keeps hx7

theorem execCoefWrite_keeps {p1 : Fin 4} {p2 : CoefReg} {p3 : Word} {p4 : State} {t : State} (h : execCoefWrite p1 p2 p3 p4 = .next t) : p4.chip.Keeps t.chip :=
  State.act_keeps h (fun _ c1 hc1 => Chip.rowWrite_keeps hc1 (fun v2 hv2 => Chip.coefSet_keeps hv2))

theorem execCommandedAddress_keeps {p1 : Fin 4} {p2 : BitVec 64} {p3 : Byte} {p4 : State} {t : State} (h : execCommandedAddress p1 p2 p3 p4 = .next t) : p4.chip.Keeps t.chip :=
  State.act_keeps h (fun _ c1 hc1 => Chip.commanded_keeps hc1)

theorem execConfigReadback_keeps {p1 : Fin 2} {p2 : Option (Fin 4096)} {p3 : State} {t : State} (h : execConfigReadback p1 p2 p3 = .next t) : p3.chip.Keeps t.chip := by
  refine State.act_keeps h ?_
  intro z c1 hc1
  split
  · exact .ite hc1 (Chip.halt_keeps hc1)
  · exact hc1

theorem execCopyFrameRx_keeps {p1 : Fin 65536} {p2 : List Byte} {p3 : Bool} {p4 : Bool} {p5 : State} {t : State} (h : execCopyFrameRx p1 p2 p3 p4 p5 = .next t) : p5.chip.Keeps t.chip :=
  State.actIf_keeps h (fun _ c1 hc1 => Chip.copyRx_keeps hc1)

theorem execCoreClkFail_keeps {p1 : Fin 2} {p2 : State} {t : State} (h : execCoreClkFail p1 p2 = .next t) : p2.chip.Keeps t.chip :=
  State.act_keeps h (fun _ c1 hc1 => .ite hc1 (Chip.halt_keeps (Chip.monitor_keeps hc1)))

theorem execCoreLoad_keeps {p1 : Fin 4} {p2 : Fin 3} {p3 : Bool} {p4 : Bool} {p5 : Fin 32} {p6 : Word} {p7 : Fin 3} {p8 : State} {t : State} (h : execCoreLoad p1 p2 p3 p4 p5 p6 p7 p8 = .next t) : p8.chip.Keeps t.chip :=
  State.act_keeps h (fun _ c1 hc1 => Chip.coreLoad_keeps hc1)

theorem execCoreWdt_keeps {p1 : Fin 4} {p2 : State} {t : State} (h : execCoreWdt p1 p2 = .next t) : p2.chip.Keeps t.chip :=
  State.act_keeps h (fun _ c1 hc1 => .ite (Chip.halt_keeps hc1) hc1)

theorem execCqHeadWrite_keeps {p1 : Fin 8} {p2 : Word} {p3 : State} {t : State} (h : execCqHeadWrite p1 p2 p3 = .next t) : p3.chip.Keeps t.chip :=
  State.act_keeps h (fun _ c1 hc1 => Chip.cqHeadWrite_keeps hc1)

theorem execCqModTimer_keeps {p1 : Fin 8} {p2 : State} {t : State} (h : execCqModTimer p1 p2 = .next t) : p2.chip.Keeps t.chip := by
  refine State.act_keeps h ?_
  intro z c1 hc1
  extract_lets +onlyGivenNames x2
  clear_value x2
  extract_lets +onlyGivenNames x3
  clear_value x3
  exact .ite (Chip.hwIrq_keeps (Chip.sets_keeps hc1)) hc1

theorem execCtrCommand_keeps {p1 : Word} {p2 : State} {t : State} (h : execCtrCommand p1 p2 = .next t) : p2.chip.Keeps t.chip :=
  State.act_keeps h (fun _ c1 hc1 => Chip.ctrWrite_keeps hc1)

theorem execCtrFeedbackChange_keeps {p1 : Bool} {p2 : Bool} {p3 : State} {t : State} (h : execCtrFeedbackChange p1 p2 p3 = .next t) : p3.chip.Keeps t.chip := by
  refine State.actRaw_keeps h ?_
  intro z c1 hc1
  extract_lets +onlyGivenNames x2
  extract_lets +onlyGivenNames x3
  have hx3 : z.Keeps x3 := (Chip.Keeps.same hc1 rfl rfl rfl rfl)
  clear_value x3
  exact .ite hx3 (Chip.ctrPin_keeps hx3)

theorem execCtrFeedbackTimeout_keeps {p1 : Bool} {p2 : State} {t : State} (h : execCtrFeedbackTimeout p1 p2 = .next t) : p2.chip.Keeps t.chip := by
  refine State.act_keeps h ?_
  intro z c1 hc1
  extract_lets +onlyGivenNames x2
  extract_lets +onlyGivenNames x3
  extract_lets +onlyGivenNames x4
  extract_lets +onlyGivenNames x5
  refine .ite hc1 ?_
  extract_lets +onlyGivenNames x6
  have hx6 : z.Keeps x6 := Chip.put_keeps hc1
  clear_value x6
  exact .ite (Chip.ctrNote_keeps (Chip.put_keeps (Chip.put_keeps (Chip.ctrMove_keeps hx6)))) (.ite (Chip.ctrNote_keeps (Chip.put_keeps hx6)) hx6)

theorem execCtrForce_keeps {p1 : Word} {p2 : State} {t : State} (h : execCtrForce p1 p2 = .next t) : p2.chip.Keeps t.chip :=
  State.act_keeps h (fun _ c1 hc1 => Chip.ctrWrite_keeps hc1)

theorem execCtrOv3Open_keeps {p1 : State} {t : State} (h : execCtrOv3Open p1 = .next t) : p1.chip.Keeps t.chip := by
  refine State.act_keeps h ?_
  intro z c1 hc1
  refine .ite ?_ hc1
  extract_lets +onlyGivenNames x2
  have hx2 : z.Keeps x2 := Chip.ctrDropOut_keeps (Chip.ctrDropOut_keeps hc1)
  clear_value x2
  extract_lets +onlyGivenNames x3
  extract_lets +onlyGivenNames x4
  have hx4 : z.Keeps x4 := (Chip.Keeps.same hx2 rfl rfl rfl rfl)
  clear_value x4
  exact Chip.note_keeps (Chip.put_keeps (Chip.put_keeps hx4))

theorem execCycleStart_keeps {p1 : Fin 3} {p2 : Fin 3} {p3 : State} {t : State} (h : execCycleStart p1 p2 p3 = .next t) : p3.chip.Keeps t.chip :=
  State.act_keeps h (fun _ c1 hc1 => .ite (Chip.cycleStart_keeps hc1) hc1)

theorem execCyclicFrameRx_keeps {p1 : Bool} {p2 : CyclicFrame} {p3 : Bool} {p4 : State} {t : State} (h : execCyclicFrameRx p1 p2 p3 p4 = .next t) : p4.chip.Keeps t.chip :=
  State.act_keeps h (fun _ c1 hc1 => Chip.cyclicRx_keeps hc1)

theorem execDeadTimeEnd_keeps {p1 : Fin 16} {p2 : DeadTime} {p3 : State} {t : State} (h : execDeadTimeEnd p1 p2 p3 = .next t) : p3.chip.Keeps t.chip := by
  refine State.act_keeps h ?_
  intro z c1 hc1
  refine Chip.checkSlice_keeps (Chip.outputs_keeps ?_)
  split
  · exact .ite (Chip.risesH_keeps hc1) hc1
  · exact .ite (Chip.risesL_keeps hc1) hc1
  all_goals exact .ite (Chip.modSlice_keeps (Chip.accrue_keeps hc1)) hc1

theorem execDebugReset_keeps {p1 : DebugTarget} {p2 : State} {t : State} (h : execDebugReset p1 p2 = .next t) : p2.chip.Keeps t.chip := by
  refine State.act_keeps h ?_
  intro z c1 hc1
  refine .ite hc1 ?_
  split
  · exact Chip.rgnAsked_keeps hc1
  · exact Chip.rgnAsked_keeps hc1
  · exact Chip.tryRelease_keeps (Chip.dieReset_keeps hc1)

theorem execDecelTimeout_keeps {p1 : Fin 4} {p2 : State} {t : State} (h : execDecelTimeout p1 p2 = .next t) : p2.chip.Keeps t.chip :=
  State.act_keeps h (fun _ c1 hc1 => .ite (Chip.faultCl_keeps hc1) hc1)

theorem execDelayCal_keeps {p1 : Fin 65536} {p2 : Bool} {p3 : State} {t : State} (h : execDelayCal p1 p2 p3 = .next t) : p3.chip.Keeps t.chip := by
  refine State.act_keeps h ?_
  intro z c1 hc1
  refine .ite hc1 ?_
  refine .ite ?_ ?_
  · extract_lets +onlyGivenNames x2
    have hx2 : z.Keeps x2 := Chip.sets_keeps (Chip.count_keeps hc1)
    clear_value x2
    exact .each hx2 (fun a3 t4 ht4 => .ite (Chip.modSlice_keeps ht4) ht4)
  · extract_lets +onlyGivenNames x5
    have hx5 : z.Keeps x5 := Chip.bump_keeps hc1
    clear_value x5
    exact .ite (Chip.note_keeps (Chip.sets_keeps hx5)) hx5

theorem execDesat_keeps {p1 : Fin 12} {p2 : Fin 65536} {p3 : State} {t : State} (h : execDesat p1 p2 p3 = .next t) : p3.chip.Keeps t.chip := by
  refine State.act_keeps h ?_
  intro z c1 hc1
  extract_lets +onlyGivenNames x2
  refine .ite ?_ hc1
  extract_lets +onlyGivenNames x3
  have hx3 : z.Keeps x3 := Chip.islDetect_keeps (Chip.islTo_keeps (Chip.faultOff_keeps hc1))
  clear_value x3
  exact Chip.modIsl_keeps hx3

theorem execDesatBlankingEnd_keeps {p1 : Fin 12} {p2 : State} {t : State} (h : execDesatBlankingEnd p1 p2 = .next t) : p2.chip.Keeps t.chip := by
  refine State.act_keeps h ?_
  intro z c1 hc1
  extract_lets +onlyGivenNames x2
  exact .ite (Chip.modIsl_keeps hc1) hc1

theorem execDescriptorComplete_keeps {p1 : Fin 8} {p2 : State} {t : State} (h : execDescriptorComplete p1 p2 = .next t) : p2.chip.Keeps t.chip :=
  State.act_keeps h (fun _ c1 hc1 => Chip.descComplete_keeps hc1)

theorem execDescriptorFetch_keeps {p1 : State} {t : State} (h : execDescriptorFetch p1 = .next t) : p1.chip.Keeps t.chip :=
  State.act_keeps h (fun _ c1 hc1 => Chip.fetchEntry_keeps hc1)

theorem execDieSensorSample_keeps {p1 : List Word} {p2 : State} {t : State} (h : execDieSensorSample p1 p2 = .next t) : p2.chip.Keeps t.chip := by
  refine State.actIf_keeps h ?_
  intro z c1 hc1
  refine .ite hc1 ?_
  extract_lets +onlyGivenNames x2
  have hx2 : z.Keeps x2 := Chip.modChm_keeps hc1
  clear_value x2
  extract_lets +onlyGivenNames x3
  extract_lets +onlyGivenNames x4
  extract_lets +onlyGivenNames x5
  have hx5 : z.Keeps x5 := .each (Chip.modChm_keeps hx2) (fun a6 t7 ht7 => Chip.set_keeps ht7)
  clear_value x5
  extract_lets +onlyGivenNames x8
  have hx8 : z.Keeps x8 := .each hx5 (fun a9 t10 ht10 => .ite (Chip.record_keeps (Chip.put_keeps (Chip.setBitOf_keeps ht10))) ht10)
  clear_value x8
  extract_lets +onlyGivenNames x11
  extract_lets +onlyGivenNames x12
  have hx12 : z.Keeps x12 := Chip.set_keeps hx8
  clear_value x12
  extract_lets +onlyGivenNames x13
  have hx13 : z.Keeps x13 := .each hx12 (fun a14 t15 ht15 => .ite (Chip.record_keeps (Chip.put_keeps (Chip.modChm_keeps ht15))) ht15)
  clear_value x13
  extract_lets +onlyGivenNames x16
  have hx16 : z.Keeps x16 := Chip.showEstimates_keeps hx13
  clear_value x16
  split <;> exact Chip.sets_keeps hx16

theorem execDisFail_keeps {p1 : State} {t : State} (h : execDisFail p1 = .next t) : p1.chip.Keeps t.chip :=
  State.act_keeps h (fun _ c1 hc1 => .ite (Chip.faultEvery_keeps (Chip.put_keeps (Chip.disEnd_keeps hc1))) hc1)

theorem execDisHalfTime_keeps {p1 : State} {t : State} (h : execDisHalfTime p1 = .next t) : p1.chip.Keeps t.chip :=
  State.act_keeps h (fun _ c1 hc1 => .ite (Chip.disResistor_keeps (Chip.request_keeps hc1)) hc1)

theorem execDischargeAbort_keeps {p1 : State} {t : State} (h : execDischargeAbort p1 = .next t) : p1.chip.Keeps t.chip :=
  State.act_keeps h (fun _ c1 hc1 => Chip.disAbort_keeps hc1)

theorem execDischargeRequest_keeps {p1 : Fin 4} {p2 : State} {t : State} (h : execDischargeRequest p1 p2 = .next t) : p2.chip.Keeps t.chip :=
  State.act_keeps h (fun _ c1 hc1 => Chip.rowWrite_keeps hc1 (fun v2 hv2 => Chip.request_keeps hv2))

theorem execDischargeStart_keeps {p1 : State} {t : State} (h : execDischargeStart p1 = .next t) : p1.chip.Keeps t.chip :=
  State.act_keeps h (fun _ c1 hc1 => Chip.disStartNow_keeps hc1)

theorem execDuplexCopy_keeps {p1 : Fin 4} {p2 : State} {t : State} (h : execDuplexCopy p1 p2 = .next t) : p2.chip.Keeps t.chip :=
  State.act_keeps h (fun _ c1 hc1 => .ite (Chip.modCl_keeps (Chip.copyEngine_keeps hc1)) hc1)

theorem execDuplexRequest_keeps {p1 : Fin 4} {p2 : State} {t : State} (h : execDuplexRequest p1 p2 = .next t) : p2.chip.Keeps t.chip :=
  State.act_keeps h (fun _ c1 hc1 => Chip.rowWrite_keeps hc1 (fun v2 hv2 => Chip.request_keeps hv2))

theorem execEccInject_keeps {p1 : Word} {p2 : State} {t : State} (h : execEccInject p1 p2 = .next t) : p2.chip.Keeps t.chip :=
  State.act_keeps h (fun _ c1 hc1 => Chip.injWrite_keeps hc1)

theorem execEdgeCommand_keeps {p1 : Fin 12} {p2 : Bool} {p3 : Bool} {p4 : State} {t : State} (h : execEdgeCommand p1 p2 p3 p4 = .next t) : p4.chip.Keeps t.chip := by
  refine State.act_keeps h ?_
  intro z c1 hc1
  extract_lets +onlyGivenNames x2
  refine .ite hc1 ?_
  extract_lets +onlyGivenNames x3
  have hx3 : z.Keeps x3 := .ite (Chip.crcError_keeps hc1) hc1
  clear_value x3
  extract_lets +onlyGivenNames x4
  clear_value x4
  extract_lets +onlyGivenNames x5
  have hx5 : z.Keeps x5 := .ite (.ite (Chip.commandOn_keeps hx3) hx3) (Chip.commandOff_keeps hx3)
  clear_value x5
  exact .ite (Chip.modIsl_keeps hx5) hx5

theorem execEnter8d_keeps {p1 : Byte} {p2 : State} {t : State} (h : execEnter8d p1 p2 = .next t) : p2.chip.Keeps t.chip := by
  refine State.act_keeps h ?_
  intro z c1 hc1
  refine .ite (Chip.portProto_keeps hc1) ?_
  extract_lets +onlyGivenNames x2
  clear_value x2
  exact Chip.put_keeps (Chip.modHw_keeps hc1)

theorem execErase_keeps {p1 : Fin 8} {p2 : Bool} {p3 : State} {t : State} (h : execErase p1 p2 p3 = .next t) : p3.chip.Keeps t.chip :=
  State.act_keeps h (fun _ c1 hc1 => Chip.eraseItem_keeps hc1)

theorem execFabStale_keeps {p1 : Fin 2} {p2 : State} {t : State} (h : execFabStale p1 p2 = .next t) : p2.chip.Keeps t.chip :=
  State.act_keeps h (fun _ c1 hc1 => Chip.sourceTimeout_keeps hc1)

theorem execFabStrobe_keeps {p1 : Fin 2} {p2 : Fin 65536} {p3 : State} {t : State} (h : execFabStrobe p1 p2 p3 = .next t) : p3.chip.Keeps t.chip := by
  refine State.act_keeps h ?_
  intro z c1 hc1
  refine .ite hc1 ?_
  extract_lets +onlyGivenNames x2
  exact Chip.sensorAngle_keeps (Chip.sets_keeps hc1)

theorem execFence_keeps {p1 : State} {t : State} (h : execFence p1 = .next t) : p1.chip.Keeps t.chip :=
  State.act_keeps h (fun _ c1 hc1 => .ite (Chip.hostFence_keeps hc1) (Chip.portProto_keeps hc1))

theorem execFenceI_keeps {p1 : Fin 4} {p2 : State} {t : State} (h : execFenceI p1 p2 = .next t) : p2.chip.Keeps t.chip :=
  State.act_keeps h (fun _ c1 hc1 => Chip.fenceInstr_keeps hc1)

theorem execFenceInstruction_keeps {p1 : Fin 4} {p2 : FenceSet} {p3 : State} {t : State} (h : execFenceInstruction p1 p2 p3 = .next t) : p3.chip.Keeps t.chip :=
  State.act_keeps h (fun _ c1 hc1 => Chip.coreFence_keeps hc1)

theorem execFetch_keeps {p1 : Fin 8} {p2 : Fin 64} {p3 : Fin 3} {p4 : State} {t : State} (h : execFetch p1 p2 p3 p4 = .next t) : p4.chip.Keeps t.chip :=
  State.act_keeps h (fun _ c1 hc1 => Chip.fetchItem_keeps hc1)

theorem execFlagRelease_keeps {p1 : Requester} {p2 : Fin 1024} {p3 : Word} {p4 : State} {t : State} (h : execFlagRelease p1 p2 p3 p4 = .next t) : p4.chip.Keeps t.chip :=
  State.act_keeps h (fun _ c1 hc1 => .ite (Chip.flagWrite_keeps (Chip.drainAll_keeps hc1)) hc1)

theorem execFloorWrite_keeps {p1 : Fin 16} {p2 : Word} {p3 : State} {t : State} (h : execFloorWrite p1 p2 p3 = .next t) : p3.chip.Keeps t.chip :=
  State.act_keeps h (fun _ c1 hc1 => Chip.rowWrite_keeps hc1 (fun v2 hv2 => Chip.floorSet_keeps hv2))

theorem execFltNAssert_keeps {p1 : State} {t : State} (h : execFltNAssert p1 = .next t) : p1.chip.Keeps t.chip := by
  refine State.actRaw_keeps h ?_
  intro z c1 hc1
  extract_lets +onlyGivenNames x2
  extract_lets +onlyGivenNames x3
  have hx3 : z.Keeps x3 := (Chip.Keeps.same hc1 rfl rfl rfl rfl)
  clear_value x3
  exact .ite hx3 (Chip.fltDemand_keeps hx3)

theorem execFltNRelease_keeps {p1 : State} {t : State} (h : execFltNRelease p1 = .next t) : p1.chip.Keeps t.chip := by
  refine State.actRaw_keeps h ?_
  intro z c1 hc1
  extract_lets +onlyGivenNames x2
  extract_lets +onlyGivenNames x3
  have hx3 : z.Keeps x3 := (Chip.Keeps.same hc1 rfl rfl rfl rfl)
  clear_value x3
  refine .ite ?_ hx3
  extract_lets +onlyGivenNames x4
  have hx4 : z.Keeps x4 := Chip.sets_keeps hx3
  clear_value x4
  exact Chip.refreshHolds_keeps (Chip.Keeps.same hx4 rfl rfl rfl rfl)

theorem execFollowErr_keeps {p1 : Fin 4} {p2 : State} {t : State} (h : execFollowErr p1 p2 = .next t) : p2.chip.Keeps t.chip := by
  refine State.act_keeps h ?_
  intro z c1 hc1
  extract_lets +onlyGivenNames x2
  clear_value x2
  extract_lets +onlyGivenNames x3
  clear_value x3
  exact .ite (Chip.faultCl_keeps (Chip.put_keeps (Chip.feZero_keeps hc1))) hc1

theorem execForceWrite_keeps {p1 : Fin 16} {p2 : Word} {p3 : State} {t : State} (h : execForceWrite p1 p2 p3 = .next t) : p3.chip.Keeps t.chip :=
  State.act_keeps h (fun _ c1 hc1 => Chip.rowWrite_keeps hc1 (fun v2 hv2 => Chip.genericWrite_keeps hv2))

theorem execFrameReceive_keeps {p1 : Fin 4} {p2 : CanFrame} {p3 : Fin 1048576} {p4 : State} {t : State} (h : execFrameReceive p1 p2 p3 p4 = .next t) : p4.chip.Keeps t.chip :=
  State.actIf_keeps h (fun _ c1 hc1 => Chip.canRx_keeps hc1)

theorem execFullSelftest_keeps {p1 : Fin 2} {p2 : State} {t : State} (h : execFullSelftest p1 p2 = .next t) : p2.chip.Keeps t.chip :=
  State.act_keeps h (fun _ c1 hc1 => Chip.fullStart_keeps hc1)

theorem execFullSelftestEnd_keeps {p1 : Fin 2} {p2 : SlotOutcome} {p3 : TestOutcome} {p4 : State} {t : State} (h : execFullSelftestEnd p1 p2 p3 p4 = .next t) : p4.chip.Keeps t.chip :=
  State.act_keeps h (fun _ c1 hc1 => .ite (Chip.fullEnd_keeps hc1) hc1)

theorem execFuseRepair_keeps {p1 : State} {t : State} (h : execFuseRepair p1 = .next t) : p1.chip.Keeps t.chip :=
  State.act_keeps h (fun _ c1 hc1 => Chip.repairStart_keeps hc1)

theorem execFuseRepairEnd_keeps {p1 : List Bool} {p2 : State} {t : State} (h : execFuseRepairEnd p1 p2 = .next t) : p2.chip.Keeps t.chip := by
  refine State.act_keeps h ?_
  intro z c1 hc1
  refine .ite hc1 ?_
  extract_lets +onlyGivenNames x2
  extract_lets +onlyGivenNames x3
  clear_value x3
  extract_lets +onlyGivenNames x4
  have hx4 : z.Keeps x4 := Chip.modCfg_keeps hc1
  clear_value x4
  extract_lets +onlyGivenNames x5
  have hx5 : z.Keeps x5 := Chip.repairsSubmit_keeps (Chip.modFuses_keeps hx4)
  clear_value x5
  exact Chip.showSt_keeps (Chip.sets_keeps hx5)

theorem execGateStateReport_keeps {p1 : ChanFrame} {p2 : Bool} {p3 : State} {t : State} (h : execGateStateReport p1 p2 p3 = .next t) : p3.chip.Keeps t.chip := by
  refine State.act_keeps h ?_
  intro z c1 hc1
  extract_lets +onlyGivenNames x2
  refine .ite hc1 ?_
  refine .ite (Chip.crcError_keeps hc1) ?_
  extract_lets +onlyGivenNames x3
  have hx3 : z.Keeps x3 := .ite (Chip.modIsl_keeps hc1) hc1
  clear_value x3
  extract_lets +onlyGivenNames x4
  have hx4 : z.Keeps x4 := Chip.put_keeps hx3
  clear_value x4
  exact .ite (Chip.abortLeak_keeps hx4) hx4

theorem execGateTmo_keeps {p1 : Fin 12} {p2 : State} {t : State} (h : execGateTmo p1 p2 = .next t) : p2.chip.Keeps t.chip := by
  refine State.act_keeps h ?_
  intro z c1 hc1
  extract_lets +onlyGivenNames x2
  refine .ite ?_ hc1
  extract_lets +onlyGivenNames x3
  clear_value x3
  extract_lets +onlyGivenNames x4
  have hx4 : z.Keeps x4 := Chip.islDetect_keeps (Chip.islTo_keeps (Chip.faultOff_keeps hc1))
  clear_value x4
  exact Chip.modIsl_keeps hx4

theorem execGpioClr_keeps {p1 : Word} {p2 : State} {t : State} (h : execGpioClr p1 p2 = .next t) : p2.chip.Keeps t.chip :=
  State.act_keeps h (fun _ c1 hc1 => Chip.gpioWrite_keeps hc1)

theorem execGpioEdge_keeps {p1 : Fin 32} {p2 : Bool} {p3 : State} {t : State} (h : execGpioEdge p1 p2 p3 = .next t) : p3.chip.Keeps t.chip := by
  refine State.actRaw_keeps h ?_
  intro z c1 hc1
  extract_lets +onlyGivenNames x2
  clear_value x2
  refine .ite hc1 ?_
  extract_lets +onlyGivenNames x3
  have hx3 : z.Keeps x3 := Chip.modCfg_keeps hc1
  clear_value x3
  extract_lets +onlyGivenNames x4
  clear_value x4
  exact .ite (Chip.setBitOf_keeps hx3) hx3

theorem execGpioSet_keeps {p1 : Word} {p2 : State} {t : State} (h : execGpioSet p1 p2 = .next t) : p2.chip.Keeps t.chip :=
  State.act_keeps h (fun _ c1 hc1 => Chip.gpioWrite_keeps hc1)

theorem execHallChange_keeps {p1 : Fin 2} {p2 : Fin 8} {p3 : State} {t : State} (h : execHallChange p1 p2 p3 = .next t) : p3.chip.Keeps t.chip := by
  refine State.act_keeps h ?_
  intro z c1 hc1
  refine .ite hc1 ?_
  extract_lets +onlyGivenNames x2
  have hx2 : z.Keeps x2 := Chip.posEvent_keeps hc1 (fun v3 hv3 => Chip.hallDeliver_keeps hv3)
  clear_value x2
  split
  · exact hx2
  · exact .ite hx2 (.ite (.ite (Chip.bcmStart_keeps hx2) hx2) (Chip.faultCl_keeps (Chip.put_keeps hx2)))

theorem execHaltRequest_keeps {p1 : Fin 4} {p2 : State} {t : State} (h : execHaltRequest p1 p2 = .next t) : p2.chip.Keeps t.chip :=
  State.act_keeps h (fun _ c1 hc1 => Chip.rowWrite_keeps hc1 (fun v2 hv2 => Chip.request_keeps hv2))

theorem execHandshakeStepEnd_keeps {p1 : Fin 12} {p2 : Bool} {p3 : Fin 65536} {p4 : State} {t : State} (h : execHandshakeStepEnd p1 p2 p3 p4 = .next t) : p4.chip.Keeps t.chip := by
  refine State.act_keeps h ?_
  intro z c1 hc1
  extract_lets +onlyGivenNames x2
  refine .ite hc1 ?_
  refine .ite (Chip.handshakeFail_keeps hc1) ?_
  extract_lets +onlyGivenNames x3
  clear_value x3
  extract_lets +onlyGivenNames x4
  have hx4 : z.Keeps x4 := Chip.modIsl_keeps hc1
  clear_value x4
  exact .ite (Chip.put_keeps hx4) (.ite (Chip.mirrorsIn_keeps hx4) (.ite (Chip.stepFour_keeps hx4) (.ite hx4 (Chip.handshakeDone_keeps hx4))))

theorem execHeldWriteStart_keeps {p1 : Bool} {p2 : State} {t : State} (h : execHeldWriteStart p1 p2 = .next t) : p2.chip.Keeps t.chip := by
  refine State.act_keeps h ?_
  intro z c1 hc1
  split
  · exact hc1
  · rename_i y4 q5
    refine .ite hc1 ?_
    extract_lets +onlyGivenNames x6
    exact Chip.writeStarted_keeps (Chip.showWrites_keeps (Chip.modChm_keeps hc1))

theorem execHoldClr_keeps {p1 : Word} {p2 : State} {t : State} (h : execHoldClr p1 p2 = .next t) : p2.chip.Keeps t.chip := by
  refine State.act_keeps h ?_
  intro z c1 hc1
  extract_lets +onlyGivenNames x2
  clear_value x2
  exact Chip.set_keeps (Chip.keepHold_keeps hc1)

theorem execHoldSet_keeps {p1 : Word} {p2 : State} {t : State} (h : execHoldSet p1 p2 = .next t) : p2.chip.Keeps t.chip :=
  State.act_keeps h (fun _ c1 hc1 => Chip.set_keeps (Chip.keepHold_keeps hc1))

theorem execHostSleepAssert_keeps {p1 : State} {t : State} (h : execHostSleepAssert p1 = .next t) : p1.chip.Keeps t.chip := by
  refine State.actRaw_keeps h ?_
  intro z c1 hc1
  extract_lets +onlyGivenNames x2
  have hx2 : z.Keeps x2 := Chip.modHw_keeps hc1
  clear_value x2
  refine .ite hx2 ?_
  extract_lets +onlyGivenNames x3
  extract_lets +onlyGivenNames x4
  clear_value x4
  extract_lets +onlyGivenNames x5
  clear_value x5
  extract_lets +onlyGivenNames x6
  have hx6 : z.Keeps x6 := Chip.sets_keeps hx2
  clear_value x6
  exact .each hx6 (fun a7 t8 ht8 => Chip.cqSettle_keeps ht8)

theorem execHostSleepRelease_keeps {p1 : State} {t : State} (h : execHostSleepRelease p1 = .next t) : p1.chip.Keeps t.chip := by
  refine State.actRaw_keeps h ?_
  intro z c1 hc1
  extract_lets +onlyGivenNames x2
  have hx2 : z.Keeps x2 := Chip.modHw_keeps hc1
  clear_value x2
  exact .ite hx2 (Chip.hwIrq_keeps (Chip.sets_keeps hx2))

theorem execHpTake_keeps {p1 : Fin 4} {p2 : State} {t : State} (h : execHpTake p1 p2 = .next t) : p2.chip.Keeps t.chip :=
  State.act_keeps h (fun _ c1 hc1 => Chip.rowWrite_keeps hc1 (fun v2 hv2 => Chip.hpTake_keeps hv2))

theorem execHwCas_keeps {p1 : Requester} {p2 : Word} {p3 : State} {t : State} (h : execHwCas p1 p2 p3 = .next t) : p3.chip.Keeps t.chip :=
  State.act_keeps h (fun _ c1 hc1 => .ite (Chip.casWrite_keeps (Chip.drainUnit_keeps hc1)) hc1)

theorem execHwFence_keeps {p1 : State} {t : State} (h : execHwFence p1 = .next t) : p1.chip.Keeps t.chip :=
  State.act_keeps h (fun _ c1 hc1 => Chip.hostFence_keeps hc1)

theorem execHwIdleWrite_keeps {p1 : Word} {p2 : State} {t : State} (h : execHwIdleWrite p1 p2 = .next t) : p2.chip.Keeps t.chip :=
  State.act_keeps h (fun _ c1 hc1 => Chip.idleWrite_keeps hc1)

theorem execIdRead_keeps {p1 : Fin 8} {p2 : Option (Fin 1280)} {p3 : State} {t : State} (h : execIdRead p1 p2 p3 = .next t) : p3.chip.Keeps t.chip :=
  State.act_keeps h (fun _ c1 hc1 => Chip.idItem_keeps hc1)

theorem execIdRecordLoad_keeps {p1 : Fin 6} {p2 : Option (List Byte)} {p3 : State} {t : State} (h : execIdRecordLoad p1 p2 p3 = .next t) : p3.chip.Keeps t.chip := by
  refine State.actIf_keeps h ?_
  intro z c1 hc1
  refine .ite hc1 ?_
  extract_lets +onlyGivenNames x2
  have hx2 : z.Keeps x2 := Chip.modChm_keeps hc1
  clear_value x2
  split
  · exact Chip.recBad_keeps hx2
  · rename_i y5 q6
    extract_lets +onlyGivenNames x7
    have hx7 : z.Keeps x7 := Chip.setBytes_keeps hx2
    clear_value x7
    extract_lets +onlyGivenNames x8
    clear_value x8
    exact .ite (Chip.showNtc_keeps (Chip.setBitOf_keeps (Chip.put_keeps hx7))) (Chip.recBad_keeps hx7)

theorem execIndex_keeps {p1 : Fin 2} {p2 : Bool} {p3 : State} {t : State} (h : execIndex p1 p2 p3 = .next t) : p3.chip.Keeps t.chip :=
  State.act_keeps h (fun _ c1 hc1 => .ite (Chip.posEvent_keeps hc1 (fun v2 hv2 => Chip.posIndex_keeps hv2)) (Chip.modPos_keeps hc1))

theorem execInstructionFetch_keeps {p1 : Fin 4} {p2 : Word} {p3 : Fin 3} {p4 : State} {t : State} (h : execInstructionFetch p1 p2 p3 p4 = .next t) : p4.chip.Keeps t.chip :=
  State.act_keeps h (fun _ c1 hc1 => Chip.fetchInstr_keeps hc1)

theorem execInterlockRelease_keeps {p1 : Fin 12} {p2 : State} {t : State} (h : execInterlockRelease p1 p2 = .next t) : p2.chip.Keeps t.chip :=
  State.act_keeps h (fun _ c1 hc1 => .ite (Chip.onArrives_keeps (Chip.unhold_keeps hc1)) hc1)

theorem execIrqPendClear_keeps {p1 : Fin 4} {p2 : Word} {p3 : State} {t : State} (h : execIrqPendClear p1 p2 p3 = .next t) : p3.chip.Keeps t.chip :=
  State.act_keeps h (fun _ c1 hc1 => Chip.pendClear_keeps hc1)

theorem execIrqRouteWrite_keeps {p1 : Fin 32} {p2 : Word} {p3 : State} {t : State} (h : execIrqRouteWrite p1 p2 p3 = .next t) : p3.chip.Keeps t.chip :=
  State.act_keeps h (fun _ c1 hc1 => Chip.routeWrite_keeps hc1)

theorem execIrqSumRead_keeps {p1 : Fin 4} {p2 : State} {t : State} (h : execIrqSumRead p1 p2 = .next t) : p2.chip.Keeps t.chip :=
  State.act_keeps h (fun _ c1 hc1 => .ite (Chip.sumRead_keeps hc1) hc1)

theorem execIslandAutoClear_keeps {p1 : Fin 12} {p2 : Fin 65536} {p3 : State} {t : State} (h : execIslandAutoClear p1 p2 p3 = .next t) : p3.chip.Keeps t.chip := by
  refine State.act_keeps h ?_
  intro z c1 hc1
  split
  · exact hc1
  · rename_i y4 q5
    refine .ite hc1 ?_
    extract_lets +onlyGivenNames x6
    clear_value x6
    extract_lets +onlyGivenNames x7
    clear_value x7
    extract_lets +onlyGivenNames x8
    clear_value x8
    extract_lets +onlyGivenNames x9
    clear_value x9
    refine .ite ?_ ?_
    · extract_lets +onlyGivenNames x10
      have hx10 : z.Keeps x10 := .ite (Chip.set_keeps hc1) (.ite hc1 (Chip.set_keeps hc1))
      clear_value x10
      extract_lets +onlyGivenNames x11
      have hx11 : z.Keeps x11 := Chip.modIsl_keeps hx10
      clear_value x11
      extract_lets +onlyGivenNames x12
      have hx12 : z.Keeps x12 := Chip.sets_keeps hx11
      clear_value x12
      extract_lets +onlyGivenNames x13
      have hx13 : z.Keeps x13 := Chip.clearIslandFault_keeps hx12
      clear_value x13
      split
      · exact Chip.tryLeaveSafe_keeps hx13
      · exact hx13
    · extract_lets +onlyGivenNames x18
      have hx18 : z.Keeps x18 := Chip.modIsl_keeps hc1
      clear_value x18
      extract_lets +onlyGivenNames x19
      have hx19 : z.Keeps x19 := Chip.showFaults_keeps hx18
      clear_value x19
      split
      · exact Chip.stand_keeps hx19
      · exact hx19

theorem execIslandChannelLoss_keeps {p1 : Fin 12} {p2 : State} {t : State} (h : execIslandChannelLoss p1 p2 = .next t) : p2.chip.Keeps t.chip := by
  refine State.act_keeps h ?_
  intro z c1 hc1
  extract_lets +onlyGivenNames x2
  clear_value x2
  exact .ite (Chip.handshakeStop_keeps (Chip.islTo_keeps (Chip.gateAway_keeps hc1))) hc1

theorem execIslandClear_keeps {p1 : Fin 12} {p2 : State} {t : State} (h : execIslandClear p1 p2 = .next t) : p2.chip.Keeps t.chip := by
  refine State.act_keeps h ?_
  intro z c1 hc1
  refine Chip.rowWrite_keeps hc1 ?_
  intro v2 hv2
  extract_lets +onlyGivenNames x3
  have hx3 : z.Keeps x3 := Chip.clearIsland_keeps hv2
  clear_value x3
  split
  · exact Chip.tryLeaveSafe_keeps hx3
  · exact hx3

theorem execIslandFaultReport_keeps {p1 : Fin 12} {p2 : State} {t : State} (h : execIslandFaultReport p1 p2 = .next t) : p2.chip.Keeps t.chip := by
  refine State.act_keeps h ?_
  intro z c1 hc1
  split
  · exact hc1
  · rename_i y4 y5 y6 q7
    extract_lets +onlyGivenNames x8
    have hx8 : z.Keeps x8 := Chip.modIsl_keeps hc1
    clear_value x8
    exact Chip.islFall_keeps (Chip.set_keeps hx8)

theorem execIslandHandshakeOpen_keeps {p1 : Fin 12} {p2 : State} {t : State} (h : execIslandHandshakeOpen p1 p2 = .next t) : p2.chip.Keeps t.chip := by
  refine State.act_keeps h ?_
  intro z c1 hc1
  extract_lets +onlyGivenNames x2
  exact .ite (Chip.modIsl_keeps hc1) hc1

theorem execIslandSupplyRelease_keeps {p1 : Fin 12} {p2 : State} {t : State} (h : execIslandSupplyRelease p1 p2 = .next t) : p2.chip.Keeps t.chip :=
  State.actRaw_keeps h (fun _ c1 hc1 => .ite (Chip.modIsl_keeps hc1) (.ite (Chip.showSupply_keeps (Chip.islShow_keeps (Chip.modIsl_keeps hc1))) hc1))

theorem execIslandUnitReset_keeps {p1 : Fin 12} {p2 : State} {t : State} (h : execIslandUnitReset p1 p2 = .next t) : p2.chip.Keeps t.chip :=
  State.act_keeps h (fun _ c1 hc1 => Chip.unitAsk_keeps hc1)

theorem execIsoEnRelease_keeps {p1 : Fin 2} {p2 : State} {t : State} (h : execIsoEnRelease p1 p2 = .next t) : p2.chip.Keeps t.chip := by
  refine State.act_keeps h ?_
  intro z c1 hc1
  extract_lets +onlyGivenNames x2
  extract_lets +onlyGivenNames x3
  exact .ite (Chip.putIso_keeps hc1) hc1

theorem execKeAbnormal_keeps {p1 : Fin 4} {p2 : State} {t : State} (h : execKeAbnormal p1 p2 = .next t) : p2.chip.Keeps t.chip := by
  refine State.act_keeps h ?_
  intro z c1 hc1
  extract_lets +onlyGivenNames x2
  clear_value x2
  exact .ite (Chip.faultCl_keeps (Chip.put_keeps hc1)) hc1

theorem execLarderWrite_keeps {p1 : Fin 4} {p2 : Fin 2} {p3 : Fin 8192} {p4 : Word} {p5 : State} {t : State} (h : execLarderWrite p1 p2 p3 p4 p5 = .next t) : p5.chip.Keeps t.chip := by
  refine State.act_keeps h ?_
  intro z c1 hc1
  extract_lets +onlyGivenNames x2
  clear_value x2
  exact Chip.ldrStore_keeps (Chip.reachGate_keeps hc1)

theorem execLateBringup_keeps {p1 : Fin 2} {p2 : State} {t : State} (h : execLateBringup p1 p2 = .next t) : p2.chip.Keeps t.chip :=
  State.act_keeps h (fun _ c1 hc1 => Chip.upWrite_keeps hc1)

theorem execLateBringupDone_keeps {p1 : Fin 2} {p2 : SlotOutcome} {p3 : TestOutcome} {p4 : State} {t : State} (h : execLateBringupDone p1 p2 p3 p4 = .next t) : p4.chip.Keeps t.chip :=
  State.act_keeps h (fun _ c1 hc1 => .ite (Chip.lateEnd_keeps hc1) hc1)

theorem execLatencyRemeasure_keeps {p1 : Fin 12} {p2 : Fin 65536} {p3 : State} {t : State} (h : execLatencyRemeasure p1 p2 p3 = .next t) : p3.chip.Keeps t.chip := by
  refine State.act_keeps h ?_
  intro z c1 hc1
  extract_lets +onlyGivenNames x2
  clear_value x2
  refine .ite hc1 ?_
  extract_lets +onlyGivenNames x3
  clear_value x3
  extract_lets +onlyGivenNames x4
  clear_value x4
  extract_lets +onlyGivenNames x5
  clear_value x5
  extract_lets +onlyGivenNames x6
  clear_value x6
  extract_lets +onlyGivenNames x7
  clear_value x7
  extract_lets +onlyGivenNames x8
  extract_lets +onlyGivenNames x9
  have hx9 : z.Keeps x9 := Chip.sets_keeps hc1
  clear_value x9
  exact .ite (Chip.calDrift_keeps hx9) (.ite (Chip.put_keeps hx9) hx9)

theorem execLdrCheckEnd_keeps {p1 : Fin 4} {p2 : Fin 3} {p3 : State} {t : State} (h : execLdrCheckEnd p1 p2 p3 = .next t) : p3.chip.Keeps t.chip := by
  refine State.act_keeps h ?_
  intro z c1 hc1
  refine .ite hc1 ?_
  refine .ite (Chip.putSwap_keeps hc1) ?_
  extract_lets +onlyGivenNames x2
  have hx2 : z.Keeps x2 := Chip.put_keeps (Chip.setBitOf_keeps (Chip.putSwap_keeps hc1))
  clear_value x2
  extract_lets +onlyGivenNames x3
  have hx3 : z.Keeps x3 := .ite (Chip.modCl_keeps hx2) hx2
  clear_value x3
  exact Chip.noteCl_keeps hx3

theorem execLdrSwap_keeps {p1 : Fin 4} {p2 : Fin 3} {p3 : Bool} {p4 : State} {t : State} (h : execLdrSwap p1 p2 p3 p4 = .next t) : p4.chip.Keeps t.chip :=
  State.act_keeps h (fun _ c1 hc1 => Chip.swapNow_keeps hc1)

theorem execLdrSwapRequest_keeps {p1 : Fin 4} {p2 : Fin 8} {p3 : State} {t : State} (h : execLdrSwapRequest p1 p2 p3 = .next t) : p3.chip.Keeps t.chip :=
  State.act_keeps h (fun _ c1 hc1 => Chip.rowWrite_keeps hc1 (fun v2 hv2 => .each hv2 (fun a3 t4 ht4 => Chip.swapBySoftware_keeps ht4)))

theorem execLeakCheck_keeps {p1 : Fin 12} {p2 : State} {t : State} (h : execLeakCheck p1 p2 = .next t) : p2.chip.Keeps t.chip :=
  State.act_keeps h (fun _ c1 hc1 => Chip.rowWrite_keeps hc1 (fun v2 hv2 => Chip.leakStart_keeps hv2))

theorem execLeakCheckEnd_keeps {p1 : Fin 12} {p2 : Word} {p3 : State} {t : State} (h : execLeakCheckEnd p1 p2 p3 = .next t) : p3.chip.Keeps t.chip := by
  refine State.act_keeps h ?_
  intro z c1 hc1
  refine .ite ?_ hc1
  extract_lets +onlyGivenNames x2
  clear_value x2
  extract_lets +onlyGivenNames x3
  clear_value x3
  extract_lets +onlyGivenNames x4
  clear_value x4
  extract_lets +onlyGivenNames x5
  have hx5 : z.Keeps x5 := Chip.sets_keeps hc1
  clear_value x5
  refine .ite ?_ ?_
  · extract_lets +onlyGivenNames x6
    have hx6 : z.Keeps x6 := Chip.islShow_keeps (Chip.set_keeps hx5)
    clear_value x6
    exact Chip.islFall_keeps (Chip.islDetect_keeps hx6)
  · extract_lets +onlyGivenNames x7
    have hx7 : z.Keeps x7 := Chip.islShow_keeps hx5
    clear_value x7
    exact .ite (Chip.islRecord_keeps (Chip.set_keeps hx7)) (Chip.set_keeps hx7)

theorem execLedgerInterval_keeps {p1 : State} {t : State} (h : execLedgerInterval p1 = .next t) : p1.chip.Keeps t.chip :=
  State.act_keeps h (fun _ c1 hc1 => .ite hc1 (.each (Chip.modChm_keeps hc1) (fun a2 t3 ht3 => Chip.ledSubmit_keeps ht3)))

theorem execLedgerLoad_keeps {p1 : Fin 6} {p2 : State} {t : State} (h : execLedgerLoad p1 p2 = .next t) : p2.chip.Keeps t.chip := by
  refine State.act_keeps h ?_
  intro z c1 hc1
  refine .ite hc1 ?_
  extract_lets +onlyGivenNames x2
  have hx2 : ∀ w3, z.Keeps w3 → z.Keeps (x2 w3) := fun w3 hw3 => Chip.setBitOf_keeps (Chip.put_keeps hw3)
  clear_value x2
  split
  · rename_i y4 q5
    extract_lets +onlyGivenNames x6
    clear_value x6
    extract_lets +onlyGivenNames x7
    have hx7 : z.Keeps x7 := Chip.loadSwitch_keeps (Chip.loadSwitch_keeps hc1)
    clear_value x7
    extract_lets +onlyGivenNames x8
    clear_value x8
    extract_lets +onlyGivenNames x9
    extract_lets +onlyGivenNames x10
    have hx10 : z.Keeps x10 := Chip.modLedger_keeps hx7
    clear_value x10
    exact Chip.showLife_keeps (Chip.set_keeps (hx2 _ hx10))
  · extract_lets +onlyGivenNames x13
    clear_value x13
    extract_lets +onlyGivenNames x14
    have hx14 : z.Keeps x14 := hx2 _ (Chip.modLedger_keeps hc1)
    clear_value x14
    extract_lets +onlyGivenNames x15
    have hx15 : z.Keeps x15 := Chip.note_keeps hx14
    clear_value x15
    exact .ite (Chip.ledSubmit_keeps hx15) hx15

theorem execLedgerWriteEnd_keeps {p1 : Fin 6} {p2 : Bool} {p3 : State} {t : State} (h : execLedgerWriteEnd p1 p2 p3 = .next t) : p3.chip.Keeps t.chip := by
  refine State.act_keeps h ?_
  intro z c1 hc1
  refine .ite hc1 ?_
  refine .ite ?_ (Chip.ledFail_keeps hc1)
  extract_lets +onlyGivenNames x2
  clear_value x2
  extract_lets +onlyGivenNames x3
  have hx3 : z.Keeps x3 := Chip.setBytes_keeps hc1
  clear_value x3
  extract_lets +onlyGivenNames x4
  have hx4 : z.Keeps x4 := Chip.modLedger_keeps hx3
  clear_value x4
  exact Chip.put_keeps (Chip.set_keeps (Chip.dropWrite_keeps hx4))

theorem execLedgerWriteRequest_keeps {p1 : State} {t : State} (h : execLedgerWriteRequest p1 = .next t) : p1.chip.Keeps t.chip :=
  State.act_keeps h (fun _ c1 hc1 => .each hc1 (fun a2 t3 ht3 => Chip.ledSubmit_keeps ht3))

theorem execLegConflict_keeps {p1 : Fin 12} {p2 : State} {t : State} (h : execLegConflict p1 p2 = .next t) : p2.chip.Keeps t.chip := by
  refine State.act_keeps h ?_
  intro z c1 hc1
  refine .ite ?_ hc1
  extract_lets +onlyGivenNames x2
  have hx2 : z.Keeps x2 := Chip.modIsl_keeps hc1
  clear_value x2
  extract_lets +onlyGivenNames x3
  have hx3 : z.Keeps x3 := Chip.sets_keeps hx2
  clear_value x3
  exact Chip.islFall_keeps (Chip.islHold_keeps (Chip.islDetect_keeps hx3))

theorem execLinkReady_keeps {p1 : Bool} {p2 : State} {t : State} (h : execLinkReady p1 p2 = .next t) : p2.chip.Keeps t.chip :=
  State.act_keeps h (fun _ c1 hc1 => Chip.linkBack_keeps hc1)

theorem execListWrite_keeps {p1 : Fin 4} {p2 : Fin 6} {p3 : Word} {p4 : State} {t : State} (h : execListWrite p1 p2 p3 p4 = .next t) : p4.chip.Keeps t.chip :=
  State.act_keeps h (fun _ c1 hc1 => Chip.rowWrite_keeps hc1 (fun v2 hv2 => Chip.listSet_keeps hv2))

theorem execLockstepMismatch_keeps {p1 : Fin 2} {p2 : Fin 4} {p3 : State} {t : State} (h : execLockstepMismatch p1 p2 p3 = .next t) : p3.chip.Keeps t.chip := by
  refine State.act_keeps h ?_
  intro z c1 hc1
  refine .ite hc1 ?_
  extract_lets +onlyGivenNames x2
  have hx2 : z.Keeps x2 := Chip.put_keeps (Chip.bump_keeps hc1)
  clear_value x2
  exact Chip.halt_keeps hx2

theorem execLogEntryFlashWrite_keeps {p1 : State} {t : State} (h : execLogEntryFlashWrite p1 = .next t) : p1.chip.Keeps t.chip := by
  refine State.act_keeps h ?_
  intro z c1 hc1
  split
  · exact hc1
  · extract_lets +onlyGivenNames x6
    have hx6 : z.Keeps x6 := .ite hc1 (Chip.submitWrite_keeps hc1)
    clear_value x6
    refine .ite hx6 ?_
    split
    · exact Chip.dropWrite_keeps hx6
    · rename_i y9 y10 q11
      extract_lets +onlyGivenNames x12
      clear_value x12
      extract_lets +onlyGivenNames x13
      have hx13 : z.Keeps x13 := Chip.eccFresh_keeps (Chip.setBytes_keeps hx6)
      clear_value x13
      extract_lets +onlyGivenNames x14
      have hx14 : z.Keeps x14 := Chip.dropWrite_keeps hx13
      clear_value x14
      refine ⟨fun w => ?_, hx14.posted⟩
      have k := hx14.wf w
      have k6 := hx6.wf w
      rw [Chip.wf_iff] at k k6 ⊢
      rw [q11] at k6
      have hq : y10.length ≤ 64 := by have := k6.2.2.1; simp only [List.length_cons] at this; omega
      have k13 := hx13.wf w
      rw [Chip.wf_iff] at k13
      exact ⟨k.1, k.2.1, hq, k13.2.2.2.1, k13.2.2.2.2.1, Nat.mod_lt _ (by decide), Nat.min_le_left _ _⟩

theorem execLogRead_keeps {p1 : Fin 8} {p2 : State} {t : State} (h : execLogRead p1 p2 = .next t) : p2.chip.Keeps t.chip :=
  State.act_keeps h (fun _ c1 hc1 => Chip.logItem_keeps hc1)

theorem execMainFreq_keeps {p1 : Word} {p2 : State} {t : State} (h : execMainFreq p1 p2 = .next t) : p2.chip.Keeps t.chip :=
  State.act_keeps h (fun _ c1 hc1 => Chip.clockHalt_keeps (Chip.modPwr_keeps (Chip.monitor_keeps hc1)))

theorem execMeasurementFrame_keeps {p1 : Fin 12} {p2 : Bool} {p3 : Bool} {p4 : Fin 1048576} {p5 : Fin 1048576} {p6 : State} {t : State} (h : execMeasurementFrame p1 p2 p3 p4 p5 p6 = .next t) : p6.chip.Keeps t.chip := by
  refine State.act_keeps h ?_
  intro z c1 hc1
  extract_lets +onlyGivenNames x2
  refine .ite hc1 ?_
  refine .ite (Chip.crcError_keeps hc1) ?_
  refine .ite (Chip.put_keeps (Chip.bump_keeps hc1)) ?_
  extract_lets +onlyGivenNames x3
  have hx3 : z.Keeps x3 := Chip.count_keeps hc1
  clear_value x3
  refine .ite ?_ (Chip.plateau_keeps (Chip.sets_keeps hx3))
  extract_lets +onlyGivenNames x4
  have hx4 : z.Keeps x4 := Chip.sets_keeps hx3
  clear_value x4
  extract_lets +onlyGivenNames x5
  have hx5 : z.Keeps x5 := Chip.tjMeasure_keeps hx4
  clear_value x5
  refine Chip.plateau_keeps ?_
  split
  · exact Chip.tjOver_keeps hx5
  · exact hx5

theorem execMinPulseEnd_keeps {p1 : Fin 16} {p2 : Bool} {p3 : State} {t : State} (h : execMinPulseEnd p1 p2 p3 = .next t) : p3.chip.Keeps t.chip := by
  refine State.act_keeps h ?_
  intro z c1 hc1
  extract_lets +onlyGivenNames x2
  extract_lets +onlyGivenNames x3
  clear_value x3
  refine .ite hc1 ?_
  extract_lets +onlyGivenNames x4
  have hx4 : z.Keeps x4 := Chip.fallL_keeps (Chip.accrue_keeps hc1)
  clear_value x4
  extract_lets +onlyGivenNames x5
  have hx5 : z.Keeps x5 := Chip.fallH_keeps (Chip.accrue_keeps hc1)
  clear_value x5
  extract_lets +onlyGivenNames x6
  have hx6 : z.Keeps x6 := .ite (.ite (Chip.refreshEnd_keeps hc1) (.ite (.ite (Chip.riseH_keeps hx4) hx4) (Chip.modSlice_keeps hc1))) (.ite (.ite (Chip.riseL_keeps hx5) hx5) (Chip.modSlice_keeps hc1))
  clear_value x6
  exact Chip.checkSlice_keeps (Chip.outputs_keeps (Chip.dropGates_keeps hx6))

theorem execMirrorWrite_keeps {p1 : Fin 12} {p2 : MirrorStep} {p3 : State} {t : State} (h : execMirrorWrite p1 p2 p3 = .next t) : p3.chip.Keeps t.chip := by
  refine State.act_keeps h ?_
  intro z c1 hc1
  split
  · exact Chip.rowWrite_keeps hc1 (fun v5 hv5 => Chip.mirrorSet_keeps hv5)
  · exact Chip.mirrorAck_keeps hc1
  · exact .ite hc1 (Chip.crcError_keeps hc1)

theorem execModerationTimer_keeps {p1 : Fin 4} {p2 : Fin 3} {p3 : State} {t : State} (h : execModerationTimer p1 p2 p3 = .next t) : p3.chip.Keeps t.chip := by
  refine State.act_keeps h ?_
  intro z c1 hc1
  extract_lets +onlyGivenNames x2
  extract_lets +onlyGivenNames x3
  clear_value x3
  exact .ite (Chip.modGroup_keeps hc1) hc1

theorem execMonoscFail_keeps {p1 : Word} {p2 : State} {t : State} (h : execMonoscFail p1 p2 = .next t) : p2.chip.Keeps t.chip :=
  State.act_keeps h (fun _ c1 hc1 => Chip.faultEvery_keeps (Chip.monitor_keeps hc1))

theorem execMsg_keeps {p1 : Fin 8} {p2 : State} {t : State} (h : execMsg p1 p2 = .next t) : p2.chip.Keeps t.chip :=
  State.act_keeps h (fun _ c1 hc1 => Chip.descItem_keeps hc1 (fun v2 v3 hv3 => hv3))

theorem execMsgAbort_keeps {p1 : Fin 4} {p2 : State} {t : State} (h : execMsgAbort p1 p2 = .next t) : p2.chip.Keeps t.chip := by
  refine State.act_keeps h ?_
  intro z c1 hc1
  extract_lets +onlyGivenNames x2
  clear_value x2
  exact Chip.rowWrite_keeps hc1 (fun v3 hv3 => Chip.msgCtl_keeps hv3)

theorem execMsgAckTimeout_keeps {p1 : Fin 4} {p2 : State} {t : State} (h : execMsgAckTimeout p1 p2 = .next t) : p2.chip.Keeps t.chip :=
  State.act_keeps h (fun _ c1 hc1 => .ite (Chip.msgTry_keeps hc1) hc1)

theorem execMsgDone_keeps {p1 : Word} {p2 : State} {t : State} (h : execMsgDone p1 p2 = .next t) : p2.chip.Keeps t.chip :=
  State.act_keeps h (fun _ c1 hc1 => Chip.msgDone_keeps hc1)

theorem execMsgSend_keeps {p1 : Fin 4} {p2 : Word} {p3 : State} {t : State} (h : execMsgSend p1 p2 p3 = .next t) : p3.chip.Keeps t.chip :=
  State.act_keeps h (fun _ c1 hc1 => Chip.rowWrite_keeps hc1 (fun v2 hv2 => Chip.msgCtl_keeps hv2))

theorem execOrphanReturn_keeps {p1 : Fin 12} {p2 : State} {t : State} (h : execOrphanReturn p1 p2 = .next t) : p2.chip.Keeps t.chip :=
  State.act_keeps h (fun _ c1 hc1 => .ite (Chip.showSupply_keeps (Chip.islShow_keeps (Chip.modIsl_keeps hc1))) hc1)

theorem execPcStoRelease_keeps {p1 : Fin 4} {p2 : State} {t : State} (h : execPcStoRelease p1 p2 = .next t) : p2.chip.Keeps t.chip :=
  State.act_keeps h (fun _ c1 hc1 => Chip.pcRelease_keeps hc1)

theorem execPcStoSet_keeps {p1 : Fin 4} {p2 : State} {t : State} (h : execPcStoSet p1 p2 = .next t) : p2.chip.Keeps t.chip :=
  State.act_keeps h (fun _ c1 hc1 => Chip.pcSto_keeps hc1)

theorem execPeakGraceEnd_keeps {p1 : Fin 4} {p2 : State} {t : State} (h : execPeakGraceEnd p1 p2 = .next t) : p2.chip.Keeps t.chip :=
  State.act_keeps h (fun _ c1 hc1 => .ite (Chip.showLim_keeps (.ite (Chip.peakFree_keeps hc1) (Chip.peakEnforce_keeps hc1))) hc1)

theorem execPeakRampEnd_keeps {p1 : Fin 4} {p2 : State} {t : State} (h : execPeakRampEnd p1 p2 = .next t) : p2.chip.Keeps t.chip :=
  State.act_keeps h (fun _ c1 hc1 => .ite (Chip.showLim_keeps (Chip.set_keeps hc1)) hc1)

theorem execPhaseEnd_keeps {p1 : Fin 12} {p2 : State} {t : State} (h : execPhaseEnd p1 p2 = .next t) : p2.chip.Keeps t.chip := by
  refine State.act_keeps h ?_
  intro z c1 hc1
  extract_lets +onlyGivenNames x2
  extract_lets +onlyGivenNames x3
  have hx3 : ∀ w4, z.Keeps (x3 w4) := fun w4 => Chip.modIsl_keeps hc1
  clear_value x3
  split
  · exact hc1
  · exact hc1
  · exact hx3 _
  · exact hx3 _
  · exact hx3 _
  · exact hx3 _
  · exact hx3 _
  · exact hc1
  · extract_lets +onlyGivenNames x23
    have hx23 : z.Keeps x23 := Chip.clamp_keeps (hx3 _)
    clear_value x23
    exact .ite (Chip.islTo_keeps hx23) hx23
  · exact Chip.clamp_keeps (hx3 _)

theorem execPllLock_keeps {p1 : State} {t : State} (h : execPllLock p1 = .next t) : p1.chip.Keeps t.chip :=
  State.act_keeps h (fun _ c1 hc1 => Chip.modPwr_keeps (Chip.put_keeps hc1))

theorem execPllUnlock_keeps {p1 : Word} {p2 : State} {t : State} (h : execPllUnlock p1 p2 = .next t) : p2.chip.Keeps t.chip := by
  refine State.act_keeps h ?_
  intro z c1 hc1
  refine .ite ?_ hc1
  extract_lets +onlyGivenNames x2
  have hx2 : z.Keeps x2 := Chip.modPwr_keeps (Chip.put_keeps (Chip.monitor_keeps hc1))
  clear_value x2
  exact Chip.clockHalt_keeps hx2

theorem execPorchPoolWrite_keeps {p1 : Word} {p2 : State} {t : State} (h : execPorchPoolWrite p1 p2 = .next t) : p2.chip.Keeps t.chip :=
  State.act_keeps h (fun _ c1 hc1 => Chip.poolWrite_keeps hc1)

theorem execPosCfgWrite_keeps {p1 : Fin 2} {p2 : Word} {p3 : State} {t : State} (h : execPosCfgWrite p1 p2 p3 = .next t) : p3.chip.Keeps t.chip := by
  refine State.act_keeps h ?_
  intro z c1 hc1
  extract_lets +onlyGivenNames x2
  clear_value x2
  exact Chip.rowWrite_keeps hc1 (fun v3 hv3 => .ite (Chip.posCfgSet_keeps hv3) (Chip.refuse_keeps hv3))

theorem execPosEvalSelfTimed_keeps {p1 : Fin 2} {p2 : State} {t : State} (h : execPosEvalSelfTimed p1 p2 = .next t) : p2.chip.Keeps t.chip :=
  State.act_keeps h (fun _ c1 hc1 => .ite (Chip.selfEval_keeps hc1) hc1)

theorem execPowerOnRelease_keeps {p1 : State} {t : State} (h : execPowerOnRelease p1 = .next t) : p1.chip.Keeps t.chip := by
  refine State.actRaw_keeps h ?_
  intro z c1 hc1
  refine .ite ?_ hc1
  extract_lets +onlyGivenNames x2
  have hx2 : z.Keeps x2 := Chip.sets_keeps hc1
  clear_value x2
  extract_lets +onlyGivenNames x3
  extract_lets +onlyGivenNames x4
  have hx4 : z.Keeps x4 := (Chip.Keeps.same hx2 rfl rfl rfl rfl)
  clear_value x4
  exact Chip.tryRelease_keeps (Chip.modPwr_keeps hx4)

theorem execProfileFrame_keeps {p1 : ChanFrame} {p2 : State} {t : State} (h : execProfileFrame p1 p2 = .next t) : p2.chip.Keeps t.chip := by
  refine State.act_keeps h ?_
  intro z c1 hc1
  extract_lets +onlyGivenNames x2
  refine .ite hc1 ?_
  refine .ite (Chip.modIsl_keeps (Chip.crcError_keeps hc1)) ?_
  split
  · exact .ite (Chip.modIsl_keeps hc1) (Chip.modIsl_keeps hc1)
  · exact hc1

theorem execProgram_keeps {p1 : Fin 8} {p2 : Bool} {p3 : State} {t : State} (h : execProgram p1 p2 p3 = .next t) : p3.chip.Keeps t.chip :=
  State.act_keeps h (fun _ c1 hc1 => Chip.programItem_keeps hc1)

theorem execPwmStart_keeps {p1 : Word} {p2 : State} {t : State} (h : execPwmStart p1 p2 = .next t) : p2.chip.Keeps t.chip :=
  State.act_keeps h (fun _ c1 hc1 => .each hc1 (fun a2 t3 ht3 => Chip.sliceRun_keeps ht3))

theorem execQuadCount_keeps {p1 : Fin 2} {p2 : Bool} {p3 : Bool} {p4 : State} {t : State} (h : execQuadCount p1 p2 p3 p4 = .next t) : p4.chip.Keeps t.chip :=
  State.act_keeps h (fun _ c1 hc1 => Chip.quadSample_keeps hc1)

theorem execQueueAbort_keeps {p1 : Fin 8} {p2 : State} {t : State} (h : execQueueAbort p1 p2 = .next t) : p2.chip.Keeps t.chip :=
  State.act_keeps h (fun _ c1 hc1 => Chip.hwAbort_keeps hc1)

theorem execQueueEnable_keeps {p1 : Bool} {p2 : Fin 8} {p3 : Word} {p4 : State} {t : State} (h : execQueueEnable p1 p2 p3 p4 = .next t) : p4.chip.Keeps t.chip :=
  State.act_keeps h (fun _ c1 hc1 => .ite (Chip.cqCfgWrite_keeps hc1) (Chip.sqCfgWrite_keeps hc1))

theorem execRailWarn_keeps {p1 : Rail} {p2 : Bool} {p3 : State} {t : State} (h : execRailWarn p1 p2 p3 = .next t) : p3.chip.Keeps t.chip := by
  refine State.actRaw_keeps h ?_
  intro z c1 hc1
  extract_lets +onlyGivenNames x2
  have hx2 : ∀ w3, ∀ w4, ∀ w5, ∀ w6, z.Keeps (x2 w3 w4 w5 w6) := fun w3 w4 w5 w6 => .ite (Chip.note_keeps (Chip.put_keeps (Chip.put_keeps hc1))) (Chip.put_keeps hc1)
  clear_value x2
  split
  · exact hx2 _ _ _ _
  · exact hx2 _ _ _ _
  · exact hx2 _ _ _ _
  · exact hx2 _ _ _ _
  · exact hc1

theorem execRainflowSample_keeps {p1 : State} {t : State} (h : execRainflowSample p1 = .next t) : p1.chip.Keeps t.chip := by
  refine State.act_keeps h ?_
  intro z c1 hc1
  refine .ite (Chip.modChm_keeps hc1) ?_
  refine .ite hc1 ?_
  extract_lets +onlyGivenNames x2
  have hx2 : z.Keeps x2 := Chip.modChm_keeps hc1
  clear_value x2
  extract_lets +onlyGivenNames x3
  exact .each hx2 (fun a4 t5 ht5 => .ite (Chip.showLife_keeps (Chip.modSw_keeps (Chip.modSw_keeps ht5))) ht5)

theorem execRawEdge_keeps {p1 : Fin 16} {p2 : Bool} {p3 : Bool} {p4 : State} {t : State} (h : execRawEdge p1 p2 p3 p4 = .next t) : p4.chip.Keeps t.chip :=
  State.act_keeps h (fun _ c1 hc1 => Chip.rawEdge_keeps hc1)

theorem execRead_keeps {p1 : Word} {p2 : Fin 4097} {p3 : List (Fin 1024)} {p4 : State} {t : State} (h : execRead p1 p2 p3 p4 = .next t) : p4.chip.Keeps t.chip :=
  State.actIf_keeps h (fun _ c1 hc1 => Chip.hostRead_keeps hc1)

theorem execReadId_keeps {p1 : State} {t : State} (h : execReadId p1 = .next t) : p1.chip.Keeps t.chip :=
  State.act_keeps h (fun _ c1 hc1 => Chip.portOut_keeps hc1)

theorem execReadStatus_keeps {p1 : State} {t : State} (h : execReadStatus p1 = .next t) : p1.chip.Keeps t.chip :=
  State.act_keeps h (fun _ c1 hc1 => .ite (Chip.portProto_keeps hc1) (Chip.modHw_keeps (Chip.portOut_keeps hc1)))

theorem execRearm_keeps {p1 : Fin 2} {p2 : State} {t : State} (h : execRearm p1 p2 = .next t) : p2.chip.Keeps t.chip :=
  State.act_keeps h (fun _ c1 hc1 => Chip.rowWrite_keeps hc1 (fun v2 hv2 => Chip.posRearm_keeps hv2))

theorem execRefLoss_keeps {p1 : Word} {p2 : State} {t : State} (h : execRefLoss p1 p2 = .next t) : p2.chip.Keeps t.chip := by
  refine State.act_keeps h ?_
  intro z c1 hc1
  refine .ite hc1 ?_
  extract_lets +onlyGivenNames x2
  have hx2 : z.Keeps x2 := Chip.sets_keeps (Chip.monitor_keeps hc1)
  clear_value x2
  exact Chip.ringStop_keeps (Chip.canStop_keeps (Chip.faultEvery_keeps hx2))

theorem execRefMonitorTrip_keeps {p1 : State} {t : State} (h : execRefMonitorTrip p1 = .next t) : p1.chip.Keeps t.chip :=
  State.act_keeps h (fun _ c1 hc1 => .ite (Chip.faultEvery_keeps (Chip.put_keeps (Chip.put_keeps hc1))) hc1)

theorem execRefReady_keeps {p1 : State} {t : State} (h : execRefReady p1 = .next t) : p1.chip.Keeps t.chip := by
  refine State.act_keeps h ?_
  intro z c1 hc1
  refine .ite ?_ hc1
  extract_lets +onlyGivenNames x2
  have hx2 : z.Keeps x2 := Chip.put_keeps (Chip.put_keeps hc1)
  clear_value x2
  exact (Chip.Keeps.same hx2 rfl rfl rfl rfl)

theorem execRefReturn_keeps {p1 : State} {t : State} (h : execRefReturn p1 = .next t) : p1.chip.Keeps t.chip := by
  refine State.act_keeps h ?_
  intro z c1 hc1
  refine .ite ?_ (.ite (Chip.ringResume_keeps hc1) hc1)
  extract_lets +onlyGivenNames x2
  have hx2 : z.Keeps x2 := Chip.ringResume_keeps (Chip.sets_keeps hc1)
  clear_value x2
  exact .each hx2 (fun a3 t4 ht4 => Chip.porchLoad_keeps ht4)

theorem execRefSelect_keeps {p1 : Word} {p2 : State} {t : State} (h : execRefSelect p1 p2 = .next t) : p2.chip.Keeps t.chip :=
  State.act_keeps h (fun _ c1 hc1 => Chip.refWrite_keeps hc1)

theorem execRegionGateClose_keeps {p1 : Fin 2} {p2 : State} {t : State} (h : execRegionGateClose p1 p2 = .next t) : p2.chip.Keeps t.chip :=
  State.act_keeps h (fun _ c1 hc1 => .ite (Chip.put_keeps hc1) hc1)

theorem execRegionResetEnd_keeps {p1 : Fin 2} {p2 : SlotOutcome} {p3 : State} {t : State} (h : execRegionResetEnd p1 p2 p3 = .next t) : p3.chip.Keeps t.chip := by
  refine State.act_keeps h ?_
  intro z c1 hc1
  refine .ite ?_ hc1
  extract_lets +onlyGivenNames x2
  have hx2 : z.Keeps x2 := Chip.restart_keeps hc1
  clear_value x2
  extract_lets +onlyGivenNames x3
  have hx3 : z.Keeps x3 := Chip.modPwr_keeps hx2
  clear_value x3
  exact Chip.settleHolds_keeps (.each hx3 (fun a4 t5 ht5 => Chip.modCl_keeps ht5))

theorem execRegisterWrite_keeps {p1 : Requester} {p2 : Word} {p3 : Word} {p4 : State} {t : State} (h : execRegisterWrite p1 p2 p3 p4 = .next t) : p4.chip.Keeps t.chip :=
  State.act_keeps h (fun _ c1 hc1 => Chip.writeNow_keeps hc1)

theorem execReload_keeps {p1 : Fin 16} {p2 : Bool} {p3 : Option (Fin 8192)} {p4 : State} {t : State} (h : execReload p1 p2 p3 p4 = .next t) : p4.chip.Keeps t.chip := by
  refine State.act_keeps h ?_
  intro z c1 hc1
  refine .ite hc1 ?_
  extract_lets +onlyGivenNames x2
  clear_value x2
  extract_lets +onlyGivenNames x3
  clear_value x3
  extract_lets +onlyGivenNames x4
  have hx4 : z.Keeps x4 := .ite (Chip.peakTick_keeps hc1) (Chip.valleyTick_keeps hc1)
  clear_value x4
  extract_lets +onlyGivenNames x5
  have hx5 : z.Keeps x5 := by
    unfold x5
    split
    · rename_i y6 q7
      extract_lets +onlyGivenNames x8
      have hx8 : z.Keeps x8 := .ite (Chip.periodBoundary_keeps hx4) hx4
      clear_value x8
      exact .ite hx8 (Chip.profLookup_keeps hx8)
    · exact hx4
  clear_value x5
  exact hx5

theorem execReqAnswer_keeps {p1 : Word} {p2 : State} {t : State} (h : execReqAnswer p1 p2 = .next t) : p2.chip.Keeps t.chip :=
  State.act_keeps h (fun _ c1 hc1 => Chip.reqAnswer_keeps hc1)

theorem execReqTimeout_keeps {p1 : State} {t : State} (h : execReqTimeout p1 = .next t) : p1.chip.Keeps t.chip := by
  refine State.act_keeps h ?_
  intro z c1 hc1
  refine .ite hc1 ?_
  extract_lets +onlyGivenNames x2
  clear_value x2
  extract_lets +onlyGivenNames x3
  clear_value x3
  extract_lets +onlyGivenNames x4
  have hx4 : z.Keeps x4 := .ite hc1 (Chip.ackSend_keeps hc1)
  clear_value x4
  exact Chip.note_keeps (Chip.put_keeps hx4)

theorem execRequestRx_keeps {p1 : Fin 4} {p2 : Byte} {p3 : Byte} {p4 : Fin 262144} {p5 : State} {t : State} (h : execRequestRx p1 p2 p3 p4 p5 = .next t) : p5.chip.Keeps t.chip :=
  State.act_keeps h (fun _ c1 hc1 => Chip.canRx_keeps hc1)

theorem execRequestUnknown_keeps {p1 : Fin 4} {p2 : Fin 16} {p3 : State} {t : State} (h : execRequestUnknown p1 p2 p3 = .next t) : p3.chip.Keeps t.chip :=
  State.act_keeps h (fun _ c1 hc1 => .ite hc1 (Chip.rowWrite_keeps hc1 (fun v2 hv2 => Chip.request_keeps hv2)))

theorem execResetPin_keeps {p1 : State} {t : State} (h : execResetPin p1 = .next t) : p1.chip.Keeps t.chip := by
  refine State.actRaw_keeps h ?_
  intro z c1 hc1
  extract_lets +onlyGivenNames x2
  have hx2 : z.Keeps x2 := Chip.modCfg_keeps hc1
  clear_value x2
  exact .ite hx2 (.ite (Chip.modCfg_keeps hx2) (Chip.dieReset_keeps hx2))

theorem execResetPinRelease_keeps {p1 : State} {t : State} (h : execResetPinRelease p1 = .next t) : p1.chip.Keeps t.chip := by
  refine State.actRaw_keeps h ?_
  intro z c1 hc1
  refine .ite hc1 ?_
  extract_lets +onlyGivenNames x2
  clear_value x2
  extract_lets +onlyGivenNames x3
  have hx3 : z.Keeps x3 := Chip.set_keeps (Chip.modCfg_keeps hc1)
  clear_value x3
  exact .ite hx3 (Chip.tryRelease_keeps hx3)

theorem execResetRequest_keeps {p1 : Fin 4} {p2 : State} {t : State} (h : execResetRequest p1 p2 = .next t) : p2.chip.Keeps t.chip :=
  State.act_keeps h (fun _ c1 hc1 => Chip.rowWrite_keeps hc1 (fun v2 hv2 => Chip.request_keeps hv2))

theorem execResetStuck_keeps {p1 : State} {t : State} (h : execResetStuck p1 = .next t) : p1.chip.Keeps t.chip := by
  refine State.actRaw_keeps h ?_
  intro z c1 hc1
  refine .ite hc1 ?_
  extract_lets +onlyGivenNames x2
  have hx2 : z.Keeps x2 := Chip.set_keeps hc1
  clear_value x2
  extract_lets +onlyGivenNames x3
  extract_lets +onlyGivenNames x4
  extract_lets +onlyGivenNames x5
  have hx5 : z.Keeps x5 := by
    refine ⟨fun w => ?_, hx2.posted⟩
    have k := hx2.wf w
    rw [Chip.wf_iff] at k ⊢
    exact ⟨k.1, k.2.1, k.2.2.1, k.2.2.2.1, Nat.mod_lt _ (by decide), k.2.2.2.2.2⟩
  clear_value x5
  extract_lets +onlyGivenNames x6
  have hx6 : z.Keeps x6 := Chip.modCfg_keeps (Chip.retain_keeps hx5)
  clear_value x6
  exact .ite (Chip.note_keeps (Chip.tryRelease_keeps (Chip.put_keeps hx6))) hx6

theorem execRingBreak_keeps {p1 : Bool} {p2 : Fin 256} {p3 : State} {t : State} (h : execRingBreak p1 p2 p3 = .next t) : p3.chip.Keeps t.chip :=
  State.act_keeps h (fun _ c1 hc1 => Chip.linkLost_keeps hc1)

theorem execRingClrErr_keeps {p1 : State} {t : State} (h : execRingClrErr p1 = .next t) : p1.chip.Keeps t.chip :=
  State.act_keeps h (fun _ c1 hc1 => Chip.rowWrite_keeps hc1 (fun v2 hv2 => Chip.sets_keeps hv2))

theorem execRingDisable_keeps {p1 : State} {t : State} (h : execRingDisable p1 = .next t) : p1.chip.Keeps t.chip :=
  State.act_keeps h (fun _ c1 hc1 => Chip.rowWrite_keeps hc1 (fun v2 hv2 => Chip.ringOff_keeps hv2))

theorem execRingEnable_keeps {p1 : State} {t : State} (h : execRingEnable p1 = .next t) : p1.chip.Keeps t.chip :=
  State.act_keeps h (fun _ c1 hc1 => Chip.rowWrite_keeps hc1 (fun v2 hv2 => Chip.ringEnable_keeps hv2))

theorem execRingMsgEnable_keeps {p1 : Word} {p2 : State} {t : State} (h : execRingMsgEnable p1 p2 = .next t) : p2.chip.Keeps t.chip :=
  State.act_keeps h (fun _ c1 hc1 => Chip.rowWrite_keeps hc1 (fun v2 hv2 => Chip.msgCfg_keeps hv2))

theorem execRingStartTimeout_keeps {p1 : State} {t : State} (h : execRingStartTimeout p1 = .next t) : p1.chip.Keeps t.chip := by
  refine State.act_keeps h ?_
  intro z c1 hc1
  extract_lets +onlyGivenNames x2
  clear_value x2
  exact .ite (Chip.becomeActive_keeps hc1) hc1

theorem execRstUnmasked_keeps {p1 : State} {t : State} (h : execRstUnmasked p1 = .next t) : p1.chip.Keeps t.chip :=
  State.actRaw_keeps h (fun _ c1 hc1 => .ite hc1 (Chip.note_keeps (Chip.modCfg_keeps (Chip.put_keeps hc1))))

theorem execRunRequest_keeps {p1 : Fin 4} {p2 : State} {t : State} (h : execRunRequest p1 p2 = .next t) : p2.chip.Keeps t.chip :=
  State.act_keeps h (fun _ c1 hc1 => Chip.rowWrite_keeps hc1 (fun v2 hv2 => Chip.request_keeps hv2))

theorem execRxSlotFree_keeps {p1 : Fin 4} {p2 : State} {t : State} (h : execRxSlotFree p1 p2 = .next t) : p2.chip.Keeps t.chip :=
  State.act_keeps h (fun _ c1 hc1 => Chip.rowWrite_keeps hc1 (fun v2 hv2 => Chip.put_keeps hv2))

theorem execRxfPop_keeps {p1 : Fin 4} {p2 : State} {t : State} (h : execRxfPop p1 p2 = .next t) : p2.chip.Keeps t.chip :=
  State.act_keeps h (fun _ c1 hc1 => Chip.rowWrite_keeps hc1 (fun v2 hv2 => Chip.rxPop_keeps hv2))

theorem execSafeMsgLost_keeps {p1 : Fin 4} {p2 : State} {t : State} (h : execSafeMsgLost p1 p2 = .next t) : p2.chip.Keeps t.chip :=
  State.act_keeps h (fun _ c1 hc1 => .ite (Chip.ss1Begin_keeps (Chip.noteCl_keeps (Chip.modCl_keeps hc1))) hc1)

theorem execSafeRetry_keeps {p1 : Fin 4} {p2 : Fin 65536} {p3 : State} {t : State} (h : execSafeRetry p1 p2 p3 = .next t) : p3.chip.Keeps t.chip := by
  refine State.act_keeps h ?_
  intro z c1 hc1
  split
  · rename_i y2 y3 y4 q5
    split
    · exact hc1
    · rename_i y8 q9
      extract_lets +onlyGivenNames x10
      have hx10 : z.Keeps x10 := Chip.modCl_keeps hc1
      clear_value x10
      extract_lets +onlyGivenNames x11
      have hx11 : z.Keeps x11 := Chip.set_keeps hx10
      clear_value x11
      exact Chip.tryLeaveSafe_keeps (Chip.refreshHold_keeps (Chip.dropFault_keeps hx11))
  · exact hc1

theorem execSafetyTick_keeps {p1 : State} {t : State} (h : execSafetyTick p1 = .next t) : p1.chip.Keeps t.chip := by
  refine State.act_keeps h ?_
  intro z c1 hc1
  refine .ite hc1 ?_
  extract_lets +onlyGivenNames x2
  extract_lets +onlyGivenNames x3
  have hx3 : z.Keeps x3 := Chip.pulse_keeps (Chip.pulse_keeps (Chip.Keeps.same hc1 rfl rfl rfl rfl))
  clear_value x3
  exact .each (Chip.ctrLook_keeps hx3) (fun a4 t5 ht5 => .ite (Chip.ackJudge_keeps (Chip.ss1Judge_keeps (Chip.slsJudge_keeps (Chip.tqJudge_keeps ht5)))) ht5)

theorem execSarResultWrite_keeps {p1 : Fin 4} {p2 : Sampled (List (Fin 28 × Fin 4194304))} {p3 : Upset} {p4 : State} {t : State} (h : execSarResultWrite p1 p2 p3 p4 = .next t) : p4.chip.Keeps t.chip := by
  refine State.act_keeps h ?_
  intro z c1 hc1
  extract_lets +onlyGivenNames x2
  have hx2 : z.Keeps x2 := Chip.sampleNow_keeps hc1
  clear_value x2
  extract_lets +onlyGivenNames x3
  clear_value x3
  extract_lets +onlyGivenNames x4
  extract_lets +onlyGivenNames x5
  refine .ite hx2 ?_
  extract_lets +onlyGivenNames x6
  extract_lets +onlyGivenNames x7
  have hx7 : z.Keeps x7 := .ite hx2 (Chip.refShown_keeps hx2)
  clear_value x7
  extract_lets +onlyGivenNames x8
  have hx8 : z.Keeps x8 := .each hx7 (fun a9 t10 ht10 => Chip.sarDeliver_keeps ht10)
  clear_value x8
  extract_lets +onlyGivenNames x11
  extract_lets +onlyGivenNames x12
  have hx12 : z.Keeps x12 := .each hx8 (fun a13 t14 ht14 => Chip.sdDead_keeps ht14)
  clear_value x12
  exact Chip.resultsIn_keeps hx12

theorem execScanEntryResult_keeps {p1 : Fin 16} {p2 : Sampled (List (Fin 4194304))} {p3 : State} {t : State} (h : execScanEntryResult p1 p2 p3 = .next t) : p3.chip.Keeps t.chip := by
  refine State.act_keeps h ?_
  intro z c1 hc1
  split
  · exact hc1
  · rename_i y4 q5
    refine .ite hc1 ?_
    extract_lets +onlyGivenNames x6
    extract_lets +onlyGivenNames x7
    clear_value x7
    extract_lets +onlyGivenNames x8
    clear_value x8
    extract_lets +onlyGivenNames x9
    have hx9 : z.Keeps x9 := Chip.refShown_keeps hc1
    clear_value x9
    extract_lets +onlyGivenNames x10
    clear_value x10
    extract_lets +onlyGivenNames x11
    extract_lets +onlyGivenNames x12
    clear_value x12
    extract_lets +onlyGivenNames x13
    have hx13 : z.Keeps x13 := by
      unfold x13
      refine .each hx9 ?_
      intro a14 t15 ht15
      extract_lets +onlyGivenNames x16
      clear_value x16
      extract_lets +onlyGivenNames x17
      clear_value x17
      split <;> exact Chip.sets_keeps ht15
    clear_value x13
    extract_lets +onlyGivenNames x21
    have hx21 : z.Keeps x21 := Chip.sets_keeps hx13
    clear_value x21
    extract_lets +onlyGivenNames x22
    extract_lets +onlyGivenNames x23
    have hx23 : z.Keeps x23 := (Chip.Keeps.same hx21 rfl rfl rfl rfl)
    clear_value x23
    extract_lets +onlyGivenNames x24
    have hx24 : z.Keeps x24 := .ite (.each hx23 (fun a25 t26 ht26 => Chip.windResult_keeps ht26)) hx23
    clear_value x24
    exact Chip.scanEnd_keeps hx24

theorem execScanEntryStart_keeps {p1 : Fin 16} {p2 : State} {t : State} (h : execScanEntryStart p1 p2 = .next t) : p2.chip.Keeps t.chip := by
  refine State.act_keeps h ?_
  intro z c1 hc1
  refine .ite hc1 ?_
  extract_lets +onlyGivenNames x2
  clear_value x2
  extract_lets +onlyGivenNames x3
  extract_lets +onlyGivenNames x4
  have hx4 : z.Keeps x4 := Chip.set_keeps hc1
  clear_value x4
  extract_lets +onlyGivenNames x5
  extract_lets +onlyGivenNames x6
  have hx6 : z.Keeps x6 := (Chip.Keeps.same hx4 rfl rfl rfl rfl)
  clear_value x6
  exact Chip.scanSkip_keeps (Chip.scanSamples_keeps hx6)

theorem execScanStart_keeps {p1 : State} {t : State} (h : execScanStart p1 = .next t) : p1.chip.Keeps t.chip :=
  State.act_keeps h (fun _ c1 hc1 => Chip.scanStart_keeps hc1)

theorem execScrub_keeps {p1 : Fin 5} {p2 : Fin 524288} {p3 : Fin 3} {p4 : State} {t : State} (h : execScrub p1 p2 p3 p4 = .next t) : p4.chip.Keeps t.chip := by
  refine State.act_keeps h ?_
  intro z c1 hc1
  extract_lets +onlyGivenNames x2
  clear_value x2
  extract_lets +onlyGivenNames x3
  clear_value x3
  extract_lets +onlyGivenNames x4
  clear_value x4
  exact .ite hc1 (Chip.eccRead_keeps hc1)

theorem execSdClkCfgWrite_keeps {p1 : Word} {p2 : State} {t : State} (h : execSdClkCfgWrite p1 p2 = .next t) : p2.chip.Keeps t.chip :=
  State.act_keeps h (fun _ c1 hc1 => Chip.sdClkWrite_keeps hc1)

theorem execSdResultWrite_keeps {p1 : Fin 12} {p2 : List Bool} {p3 : Bool} {p4 : Upset} {p5 : State} {t : State} (h : execSdResultWrite p1 p2 p3 p4 p5 = .next t) : p5.chip.Keeps t.chip := by
  refine State.act_keeps h ?_
  intro z c1 hc1
  split
  · exact hc1
  · rename_i y4 q5
    split
    · exact hc1
    · rename_i y8 y9 q10
      extract_lets +onlyGivenNames x11
      clear_value x11
      refine .ite hc1 ?_
      extract_lets +onlyGivenNames x12
      have hx12 : z.Keeps x12 := Chip.sampleNow_keeps hc1
      clear_value x12
      extract_lets +onlyGivenNames x13
      clear_value x13
      extract_lets +onlyGivenNames x14
      clear_value x14
      extract_lets +onlyGivenNames x15
      have hx15 : z.Keeps x15 := Chip.sets_keeps hx12
      clear_value x15
      extract_lets +onlyGivenNames x16
      have hx16 : z.Keeps x16 := Chip.deliver_keeps hx15
      clear_value x16
      extract_lets +onlyGivenNames x17
      clear_value x17
      exact Chip.resultsIn_keeps hx16

theorem execSdStreamRecover_keeps {p1 : Fin 12} {p2 : State} {t : State} (h : execSdStreamRecover p1 p2 = .next t) : p2.chip.Keeps t.chip :=
  State.act_keeps h (fun _ c1 hc1 => .ite (Chip.Keeps.same hc1 rfl rfl rfl rfl) hc1)

theorem execSdStuck_keeps {p1 : Fin 12} {p2 : Bool} {p3 : State} {t : State} (h : execSdStuck p1 p2 p3 = .next t) : p3.chip.Keeps t.chip := by
  refine State.act_keeps h ?_
  intro z c1 hc1
  refine .ite hc1 ?_
  extract_lets +onlyGivenNames x2
  extract_lets +onlyGivenNames x3
  have hx3 : z.Keeps x3 := (Chip.Keeps.same hc1 rfl rfl rfl rfl)
  clear_value x3
  extract_lets +onlyGivenNames x4
  have hx4 : z.Keeps x4 := Chip.setBitOf_keeps (Chip.put_keeps hx3)
  clear_value x4
  exact Chip.faultOn_keeps hx4

theorem execSemCancel_keeps {p1 : Requester} {p2 : Fin 32} {p3 : State} {t : State} (h : execSemCancel p1 p2 p3 = .next t) : p3.chip.Keeps t.chip :=
  State.act_keeps h (fun _ c1 hc1 => .ite (Chip.semCancel_keeps (Chip.drainUnit_keeps hc1)) hc1)

theorem execSemGive_keeps {p1 : Requester} {p2 : Fin 32} {p3 : State} {t : State} (h : execSemGive p1 p2 p3 = .next t) : p3.chip.Keeps t.chip :=
  State.act_keeps h (fun _ c1 hc1 => .ite (Chip.semGive_keeps (Chip.drainUnit_keeps hc1)) hc1)

theorem execSemTake_keeps {p1 : Requester} {p2 : Fin 32} {p3 : State} {t : State} (h : execSemTake p1 p2 p3 = .next t) : p3.chip.Keeps t.chip :=
  State.act_keeps h (fun _ c1 hc1 => .ite (Chip.semTake_keeps (Chip.drainUnit_keeps hc1)) hc1)

theorem execSemTakeOrWait_keeps {p1 : Requester} {p2 : Fin 32} {p3 : State} {t : State} (h : execSemTakeOrWait p1 p2 p3 = .next t) : p3.chip.Keeps t.chip :=
  State.act_keeps h (fun _ c1 hc1 => .ite (Chip.semTakeOrWait_keeps (Chip.drainUnit_keeps hc1)) hc1)

theorem execSentFrame_keeps {p1 : Fin 2} {p2 : Fin 2097152} {p3 : List (Fin 2097152)} {p4 : State} {t : State} (h : execSentFrame p1 p2 p3 p4 = .next t) : p4.chip.Keeps t.chip :=
  State.act_keeps h (fun _ c1 hc1 => Chip.sentRx_keeps hc1)

theorem execSentTimeout_keeps {p1 : Fin 2} {p2 : State} {t : State} (h : execSentTimeout p1 p2 = .next t) : p2.chip.Keeps t.chip :=
  State.act_keeps h (fun _ c1 hc1 => Chip.sourceTimeout_keeps hc1)

theorem execSleepRailWaitEnd_keeps {p1 : Bool} {p2 : State} {t : State} (h : execSleepRailWaitEnd p1 p2 = .next t) : p2.chip.Keeps t.chip := by
  refine State.actRaw_keeps h ?_
  intro z c1 hc1
  split
  · rename_i y2 q3
    extract_lets +onlyGivenNames x4
    have hx4 : z.Keeps x4 := Chip.modPwr_keeps (Chip.put_keeps hc1)
    clear_value x4
    exact .ite (Chip.sets_keeps hx4) hx4
  · exact hc1

theorem execSleepRequest_keeps {p1 : Word} {p2 : State} {t : State} (h : execSleepRequest p1 p2 = .next t) : p2.chip.Keeps t.chip :=
  State.act_keeps h (fun _ c1 hc1 => Chip.sleepWrite_keeps hc1)

theorem execSliceRun_keeps {p1 : Fin 16} {p2 : State} {t : State} (h : execSliceRun p1 p2 = .next t) : p2.chip.Keeps t.chip :=
  State.act_keeps h (fun _ c1 hc1 => Chip.rowWrite_keeps hc1 (fun v2 hv2 => Chip.sliceRun_keeps hv2))

theorem execSliceStop_keeps {p1 : Fin 16} {p2 : State} {t : State} (h : execSliceStop p1 p2 = .next t) : p2.chip.Keeps t.chip :=
  State.act_keeps h (fun _ c1 hc1 => Chip.rowWrite_keeps hc1 (fun v2 hv2 => Chip.sliceStop_keeps hv2))

theorem execSlotWrite_keeps {p1 : Fin 4} {p2 : Fin 28} {p3 : Word} {p4 : State} {t : State} (h : execSlotWrite p1 p2 p3 p4 = .next t) : p4.chip.Keeps t.chip := by
  refine State.act_keeps h ?_
  intro z c1 hc1
  extract_lets +onlyGivenNames x2
  clear_value x2
  exact .ite (Chip.slotWritten_keeps (Chip.configWord_keeps hc1)) (Chip.refuse_keeps hc1)

theorem execSnap_keeps {p1 : Fin 2} {p2 : State} {t : State} (h : execSnap p1 p2 = .next t) : p2.chip.Keeps t.chip :=
  State.act_keeps h (fun _ c1 hc1 => Chip.rowWrite_keeps hc1 (fun v2 hv2 => Chip.posSnap_keeps hv2))

theorem execSoftReset_keeps {p1 : State} {t : State} (h : execSoftReset p1 = .next t) : p1.chip.Keeps t.chip :=
  State.act_keeps h (fun _ c1 hc1 => Chip.put_keeps hc1)

theorem execSpeedLimit_keeps {p1 : Fin 4} {p2 : State} {t : State} (h : execSpeedLimit p1 p2 = .next t) : p2.chip.Keeps t.chip := by
  refine State.act_keeps h ?_
  intro z c1 hc1
  refine .ite ?_ hc1
  extract_lets +onlyGivenNames x2
  clear_value x2
  exact Chip.ss1Begin_keeps (Chip.noteCl_keeps (Chip.modCl_keeps hc1))

theorem execSplitRequest_keeps {p1 : Fin 4} {p2 : State} {t : State} (h : execSplitRequest p1 p2 = .next t) : p2.chip.Keeps t.chip :=
  State.act_keeps h (fun _ c1 hc1 => Chip.rowWrite_keeps hc1 (fun v2 hv2 => Chip.request_keeps hv2))

theorem execSplitTakeEffect_keeps {p1 : Fin 4} {p2 : State} {t : State} (h : execSplitTakeEffect p1 p2 = .next t) : p2.chip.Keeps t.chip :=
  State.act_keeps h (fun _ c1 hc1 => .ite (Chip.splitNow_keeps hc1) hc1)

theorem execSqDoorbell_keeps {p1 : Requester} {p2 : Fin 8} {p3 : Word} {p4 : State} {t : State} (h : execSqDoorbell p1 p2 p3 p4 = .next t) : p4.chip.Keeps t.chip :=
  State.act_keeps h (fun _ c1 hc1 => .ite (Chip.sqTailWrite_keeps (Chip.drainAll_keeps hc1)) hc1)

theorem execSs1Start_keeps {p1 : Fin 4} {p2 : State} {t : State} (h : execSs1Start p1 p2 = .next t) : p2.chip.Keeps t.chip :=
  State.act_keeps h (fun _ c1 hc1 => Chip.ss1Begin_keeps hc1)

theorem execSs1Timeout_keeps {p1 : Fin 4} {p2 : State} {t : State} (h : execSs1Timeout p1 p2 = .next t) : p2.chip.Keeps t.chip :=
  State.act_keeps h (fun _ c1 hc1 => .ite (Chip.pcSto_keeps hc1) hc1)

theorem execStandstill_keeps {p1 : Fin 2} {p2 : State} {t : State} (h : execStandstill p1 p2 = .next t) : p2.chip.Keeps t.chip :=
  State.act_keeps h (fun _ c1 hc1 => .ite (Chip.declareStandstill_keeps hc1) hc1)

theorem execStatusFrame_keeps {p1 : ChanFrame} {p2 : Fin 65536} {p3 : Fin 65536} {p4 : Word} {p5 : Word} {p6 : State} {t : State} (h : execStatusFrame p1 p2 p3 p4 p5 p6 = .next t) : p6.chip.Keeps t.chip := by
  refine State.act_keeps h ?_
  intro z c1 hc1
  extract_lets +onlyGivenNames x2
  extract_lets +onlyGivenNames x3
  clear_value x3
  refine .ite hc1 ?_
  refine .ite (Chip.crcError_keeps hc1) ?_
  extract_lets +onlyGivenNames x4
  have hx4 : z.Keeps x4 := Chip.statusWarn_keeps (Chip.statusWords_keeps hc1)
  clear_value x4
  extract_lets +onlyGivenNames x5
  have hx5 : z.Keeps x5 := .ite (Chip.put_keeps hx4) hx4
  clear_value x5
  extract_lets +onlyGivenNames x6
  have hx6 : z.Keeps x6 := Chip.showSupply_keeps hx5
  clear_value x6
  extract_lets +onlyGivenNames x7
  clear_value x7
  refine .ite ?_ (Chip.set_keeps hx6)
  extract_lets +onlyGivenNames x8
  clear_value x8
  extract_lets +onlyGivenNames x9
  have hx9 : z.Keeps x9 := .ite (Chip.set_keeps (Chip.gateAway_keeps hx6)) (Chip.handshakeStop_keeps (Chip.islShow_keeps (Chip.gateAway_keeps hx6)))
  clear_value x9
  exact Chip.islFall_keeps (Chip.islDetect_keeps hx9)

theorem execStatusMessage_keeps {p1 : Fin 4} {p2 : Bool} {p3 : State} {t : State} (h : execStatusMessage p1 p2 p3 = .next t) : p3.chip.Keeps t.chip := by
  refine State.act_keeps h ?_
  intro z c1 hc1
  refine .ite hc1 ?_
  refine .ite (.ite hc1 (Chip.statusSend_keeps hc1)) ?_
  extract_lets +onlyGivenNames x2
  clear_value x2
  exact .ite hc1 (.each (Chip.modPort_keeps hc1) (fun a3 t4 ht4 => Chip.statusSend_keeps ht4))

theorem execStoDemand_keeps {p1 : Bool} {p2 : State} {t : State} (h : execStoDemand p1 p2 = .next t) : p2.chip.Keeps t.chip := by
  refine State.act_keeps h ?_
  intro z c1 hc1
  extract_lets +onlyGivenNames x2
  refine .ite hc1 ?_
  extract_lets +onlyGivenNames x3
  have hx3 : z.Keeps x3 := Chip.showDisc_keeps (Chip.put_keeps (Chip.put_keeps hc1))
  clear_value x3
  exact Chip.faultAll_keeps hx3

theorem execStoDiscrepancy_keeps {p1 : State} {t : State} (h : execStoDiscrepancy p1 = .next t) : p1.chip.Keeps t.chip :=
  State.act_keeps h (fun _ c1 hc1 => .ite hc1 (Chip.faultEvery_keeps (Chip.put_keeps (Chip.Keeps.same hc1 rfl rfl rfl rfl))))

theorem execStoRelease_keeps {p1 : Bool} {p2 : State} {t : State} (h : execStoRelease p1 p2 = .next t) : p2.chip.Keeps t.chip := by
  refine State.act_keeps h ?_
  intro z c1 hc1
  extract_lets +onlyGivenNames x2
  exact .ite (Chip.settleHolds_keeps (Chip.showDisc_keeps (Chip.put_keeps (Chip.put_keeps hc1)))) hc1

theorem execStopRequest_keeps {p1 : Fin 4} {p2 : State} {t : State} (h : execStopRequest p1 p2 = .next t) : p2.chip.Keeps t.chip :=
  State.act_keeps h (fun _ c1 hc1 => Chip.rowWrite_keeps hc1 (fun v2 hv2 => Chip.request_keeps hv2))

theorem execSupplyModeWrite_keeps {p1 : Fin 12} {p2 : Word} {p3 : State} {t : State} (h : execSupplyModeWrite p1 p2 p3 = .next t) : p3.chip.Keeps t.chip :=
  State.act_keeps h (fun _ c1 hc1 => Chip.rowWrite_keeps hc1 (fun v2 hv2 => Chip.mirrorSet_keeps hv2))

theorem execSwModuleReset_keeps {p1 : Word} {p2 : State} {t : State} (h : execSwModuleReset p1 p2 = .next t) : p2.chip.Keeps t.chip :=
  State.act_keeps h (fun _ c1 hc1 => Chip.rstCtlWrite_keeps hc1)

theorem execSwRegionReset_keeps {p1 : Word} {p2 : State} {t : State} (h : execSwRegionReset p1 p2 = .next t) : p2.chip.Keeps t.chip :=
  State.act_keeps h (fun _ c1 hc1 => Chip.rstCtlWrite_keeps hc1)

theorem execSwi_keeps {p1 : Word} {p2 : State} {t : State} (h : execSwi p1 p2 = .next t) : p2.chip.Keeps t.chip :=
  State.act_keeps h (fun _ c1 hc1 => Chip.swiWrite_keeps hc1)

theorem execTimNowRead_keeps {p1 : Requester} {p2 : State} {t : State} (h : execTimNowRead p1 p2 = .next t) : p2.chip.Keeps t.chip :=
  State.act_keeps h (fun _ c1 hc1 => .ite (Chip.timLatch_keeps (Chip.drainUnit_keeps hc1)) hc1)

theorem execTimerCompare_keeps {p1 : Fin 4} {p2 : Fin 2} {p3 : State} {t : State} (h : execTimerCompare p1 p2 p3 = .next t) : p3.chip.Keeps t.chip := by
  refine State.act_keeps h ?_
  intro z c1 hc1
  extract_lets +onlyGivenNames x2
  clear_value x2
  exact .ite (Chip.privateSrc_keeps hc1) hc1

theorem execTltoHoldEnd_keeps {p1 : Fin 12} {p2 : State} {t : State} (h : execTltoHoldEnd p1 p2 = .next t) : p2.chip.Keeps t.chip :=
  State.act_keeps h (fun _ c1 hc1 => .ite (Chip.modIsl_keeps hc1) hc1)

theorem execTokenCheckEnd_keeps {p1 : Bool} {p2 : State} {t : State} (h : execTokenCheckEnd p1 p2 = .next t) : p2.chip.Keeps t.chip := by
  refine State.act_keeps h ?_
  intro z c1 hc1
  split
  · exact hc1
  · rename_i y4 q5
    extract_lets +onlyGivenNames x6
    clear_value x6
    extract_lets +onlyGivenNames x7
    have hx7 : z.Keeps x7 := Chip.put_keeps (Chip.modCfg_keeps hc1)
    clear_value x7
    split
    · exact Chip.tokenReject_keeps hx7
    · exact .ite (Chip.tokenAccept_keeps hx7) (Chip.tokenReject_keeps hx7)

theorem execTokenSubmit_keeps {p1 : Word} {p2 : State} {t : State} (h : execTokenSubmit p1 p2 = .next t) : p2.chip.Keeps t.chip :=
  State.act_keeps h (fun _ c1 hc1 => Chip.tokenWrite_keeps hc1)

theorem execTpCancel_keeps {p1 : Fin 8} {p2 : State} {t : State} (h : execTpCancel p1 p2 = .next t) : p2.chip.Keeps t.chip :=
  State.act_keeps h (fun _ c1 hc1 => Chip.sesCancel_keeps hc1)

theorem execTpCmRx_keeps {p1 : Fin 4} {p2 : Bool} {p3 : Byte} {p4 : Byte} {p5 : Vector Byte 8} {p6 : State} {t : State} (h : execTpCmRx p1 p2 p3 p4 p5 p6 = .next t) : p6.chip.Keeps t.chip :=
  State.act_keeps h (fun _ c1 hc1 => Chip.canRx_keeps hc1)

theorem execTpDtRx_keeps {p1 : Fin 4} {p2 : Bool} {p3 : Byte} {p4 : Byte} {p5 : Vector Byte 8} {p6 : State} {t : State} (h : execTpDtRx p1 p2 p3 p4 p5 p6 = .next t) : p6.chip.Keeps t.chip :=
  State.act_keeps h (fun _ c1 hc1 => Chip.canRx_keeps hc1)

theorem execTpRelease_keeps {p1 : Fin 16} {p2 : State} {t : State} (h : execTpRelease p1 p2 = .next t) : p2.chip.Keeps t.chip :=
  State.act_keeps h (fun _ c1 hc1 => .ite (Chip.sesRelease_keeps hc1) hc1)

theorem execTpSendStart_keeps {p1 : Fin 8} {p2 : Word} {p3 : State} {t : State} (h : execTpSendStart p1 p2 p3 = .next t) : p3.chip.Keeps t.chip :=
  State.act_keeps h (fun _ c1 hc1 => Chip.sesCtlWrite_keeps hc1)

theorem execTpTimeout_keeps {p1 : Fin 16} {p2 : State} {t : State} (h : execTpTimeout p1 p2 = .next t) : p2.chip.Keeps t.chip := by
  refine State.act_keeps h ?_
  intro z c1 hc1
  extract_lets +onlyGivenNames x2
  clear_value x2
  exact .ite (Chip.sesAbort_keeps hc1) hc1

theorem execTqImplausible_keeps {p1 : Fin 4} {p2 : State} {t : State} (h : execTqImplausible p1 p2 = .next t) : p2.chip.Keeps t.chip :=
  State.act_keeps h (fun _ c1 hc1 => .ite (Chip.pcSto_keeps (Chip.modCl_keeps hc1)) hc1)

theorem execTrace_keeps {p1 : Fin 8} {p2 : State} {t : State} (h : execTrace p1 p2 = .next t) : p2.chip.Keeps t.chip :=
  State.act_keeps h (fun _ c1 hc1 => Chip.descItem_keeps hc1 (fun v2 v3 hv3 => hv3))

theorem execTraceCopy_keeps {p1 : Fin 8} {p2 : State} {t : State} (h : execTraceCopy p1 p2 = .next t) : p2.chip.Keeps t.chip :=
  State.act_keeps h (fun _ c1 hc1 => Chip.traceCopy_keeps hc1)

theorem execTriggerMatch_keeps {p1 : Fin 16} {p2 : Fin 4} {p3 : Bool} {p4 : State} {t : State} (h : execTriggerMatch p1 p2 p3 p4 = .next t) : p4.chip.Keeps t.chip := by
  refine State.act_keeps h ?_
  intro z c1 hc1
  split
  · rename_i y2 y3 q4
    extract_lets +onlyGivenNames x5
    clear_value x5
    refine .ite hc1 ?_
    extract_lets +onlyGivenNames x6
    have hx6 : z.Keeps x6 := Chip.setBitOf_keeps hc1
    clear_value x6
    extract_lets +onlyGivenNames x7
    have hx7 : z.Keeps x7 := by
      unfold x7
      split
      · exact .ite (Chip.triggerPass_keeps hx6) hx6
      · exact hx6
    clear_value x7
    exact .ite (Chip.scanStart_keeps hx7) hx7

theorem execTwinHeartbeatRx_keeps {p1 : Fin 4} {p2 : Bool} {p3 : State} {t : State} (h : execTwinHeartbeatRx p1 p2 p3 = .next t) : p3.chip.Keeps t.chip :=
  State.act_keeps h (fun _ c1 hc1 => .ite (Chip.modRing_keeps (Chip.set_keeps hc1)) (Chip.bump_keeps hc1))

theorem execTwinSigBack_keeps {p1 : State} {t : State} (h : execTwinSigBack p1 = .next t) : p1.chip.Keeps t.chip :=
  State.act_keeps h (fun _ c1 hc1 => .ite hc1 (Chip.setBitOf_keeps (Chip.put_keeps hc1)))

theorem execTwinSigLost_keeps {p1 : State} {t : State} (h : execTwinSigLost p1 = .next t) : p1.chip.Keeps t.chip :=
  State.act_keeps h (fun _ c1 hc1 => .ite (Chip.setBitOf_keeps (Chip.put_keeps hc1)) hc1)

theorem execTxAbort_keeps {p1 : Fin 4} {p2 : Fin 3} {p3 : State} {t : State} (h : execTxAbort p1 p2 p3 = .next t) : p3.chip.Keeps t.chip := by
  refine State.act_keeps h ?_
  intro z c1 hc1
  extract_lets +onlyGivenNames x2
  clear_value x2
  exact Chip.rowWrite_keeps hc1 (fun v3 hv3 => Chip.txCmd_keeps hv3)

theorem execTxEnd_keeps {p1 : Fin 4} {p2 : TxEnd} {p3 : State} {t : State} (h : execTxEnd p1 p2 p3 = .next t) : p3.chip.Keeps t.chip :=
  State.act_keeps h (fun _ c1 hc1 => Chip.txEnd_keeps hc1)

theorem execTxRequest_keeps {p1 : Fin 4} {p2 : Fin 3} {p3 : Word} {p4 : Bool} {p5 : State} {t : State} (h : execTxRequest p1 p2 p3 p4 p5 = .next t) : p5.chip.Keeps t.chip := by
  refine State.act_keeps h ?_
  intro z c1 hc1
  extract_lets +onlyGivenNames x2
  have hx2 : z.Keeps x2 := .ite (Chip.modCan_keeps hc1) hc1
  clear_value x2
  exact Chip.rowWrite_keeps hx2 (fun v3 hv3 => Chip.txCmd_keeps hv3)

theorem execUnitReset_keeps {p1 : UnitId} {p2 : State} {t : State} (h : execUnitReset p1 p2 = .next t) : p2.chip.Keeps t.chip :=
  State.act_keeps h (fun _ c1 hc1 => Chip.unitAsk_keeps hc1)

theorem execUnitResetEnd_keeps {p1 : UnitId} {p2 : State} {t : State} (h : execUnitResetEnd p1 p2 = .next t) : p2.chip.Keeps t.chip :=
  State.act_keeps h (fun _ c1 hc1 => Chip.unitEnd_keeps hc1)

theorem execUpload_keeps {p1 : Fin 8} {p2 : State} {t : State} (h : execUpload p1 p2 = .next t) : p2.chip.Keeps t.chip :=
  State.act_keeps h (fun _ c1 hc1 => Chip.uploadItem_keeps hc1)

theorem execUsedCountReset_keeps {p1 : Fin 12} {p2 : Bool} {p3 : State} {t : State} (h : execUsedCountReset p1 p2 p3 = .next t) : p3.chip.Keeps t.chip := by
  refine State.act_keeps h ?_
  intro z c1 hc1
  extract_lets +onlyGivenNames x2
  exact .ite (.ite (Chip.set_keeps hc1) (Chip.set_keeps hc1)) hc1

theorem execUvlo_keeps {p1 : Fin 12} {p2 : Bool} {p3 : Fin 65536} {p4 : State} {t : State} (h : execUvlo p1 p2 p3 p4 = .next t) : p4.chip.Keeps t.chip := by
  refine State.actRaw_keeps h ?_
  intro z c1 hc1
  extract_lets +onlyGivenNames x2
  clear_value x2
  extract_lets +onlyGivenNames x3
  clear_value x3
  extract_lets +onlyGivenNames x4
  refine .ite hc1 ?_
  refine .ite (Chip.modIsl_keeps (Chip.islandReset_keeps hc1)) ?_
  extract_lets +onlyGivenNames x5
  have hx5 : z.Keeps x5 := Chip.islShow_keeps (Chip.islandReset_keeps (Chip.gateAway_keeps hc1))
  clear_value x5
  extract_lets +onlyGivenNames x6
  have hx6 : z.Keeps x6 := Chip.modIsl_keeps hx5
  clear_value x6
  extract_lets +onlyGivenNames x7
  have hx7 : z.Keeps x7 := Chip.calibrateDue_keeps (Chip.showSupply_keeps hx6)
  clear_value x7
  refine .ite ?_ (Chip.put_keeps hx7)
  extract_lets +onlyGivenNames x8
  clear_value x8
  extract_lets +onlyGivenNames x9
  have hx9 : z.Keeps x9 := Chip.islDetect_keeps (Chip.put_keeps hx7)
  clear_value x9
  exact Chip.modIsl_keeps hx9

theorem execVddaRelease_keeps {p1 : State} {t : State} (h : execVddaRelease p1 = .next t) : p1.chip.Keeps t.chip := by
  refine State.actRaw_keeps h ?_
  intro z c1 hc1
  refine .ite hc1 ?_
  extract_lets +onlyGivenNames x2
  have hx2 : z.Keeps x2 := Chip.modPwr_keeps (Chip.put_keeps hc1)
  clear_value x2
  refine .ite hx2 ?_
  extract_lets +onlyGivenNames x3
  extract_lets +onlyGivenNames x4
  have hx4 : z.Keeps x4 := (Chip.Keeps.same hx2 rfl rfl rfl rfl)
  clear_value x4
  exact Chip.settleHolds_keeps (Chip.showOv3_keeps (Chip.showVdc_keeps (Chip.cmpFreed_keeps (Chip.Keeps.same hx4 rfl rfl rfl rfl) hx4)))

theorem execWakeSlotFire_keeps {p1 : Fin 16} {p2 : State} {t : State} (h : execWakeSlotFire p1 p2 = .next t) : p2.chip.Keeps t.chip :=
  State.actRaw_keeps h (fun _ c1 hc1 => Chip.slotFire_keeps hc1)

theorem execWatchdogKick_keeps {p1 : Fin 4} {p2 : Word} {p3 : State} {t : State} (h : execWatchdogKick p1 p2 p3 = .next t) : p3.chip.Keeps t.chip :=
  State.act_keeps h (fun _ c1 hc1 => Chip.wdtWrite_keeps hc1)

theorem execWdtWarn_keeps {p1 : Fin 4} {p2 : State} {t : State} (h : execWdtWarn p1 p2 = .next t) : p2.chip.Keeps t.chip :=
  State.act_keeps h (fun _ c1 hc1 => .ite (Chip.privateSrc_keeps (Chip.modHart_keeps hc1)) hc1)

theorem execWfi_keeps {p1 : Fin 4} {p2 : State} {t : State} (h : execWfi p1 p2 = .next t) : p2.chip.Keeps t.chip :=
  State.act_keeps h (fun _ c1 hc1 => .ite hc1 (Chip.modHart_keeps (Chip.retire_keeps hc1)))

theorem execWindSens_keeps {p1 : Fin 4} {p2 : State} {t : State} (h : execWindSens p1 p2 = .next t) : p2.chip.Keeps t.chip := by
  refine State.act_keeps h ?_
  intro z c1 hc1
  refine .ite ?_ hc1
  extract_lets +onlyGivenNames x2
  have hx2 : z.Keeps x2 := Chip.sets_keeps hc1
  clear_value x2
  exact Chip.showLim_keeps (Chip.noteCl_keeps hx2)

theorem execWriteTempFail_keeps {p1 : Bool} {p2 : State} {t : State} (h : execWriteTempFail p1 p2 = .next t) : p2.chip.Keeps t.chip := by
  refine State.act_keeps h ?_
  intro z c1 hc1
  split
  · exact hc1
  · rename_i y4 q5
    refine .ite hc1 ?_
    extract_lets +onlyGivenNames x6
    have hx6 : z.Keeps x6 := Chip.put_keeps (Chip.bump_keeps (Chip.writeFailed_keeps hc1))
    clear_value x6
    exact Chip.note_keeps hx6

theorem execXhizRelease_keeps {p1 : State} {t : State} (h : execXhizRelease p1 = .next t) : p1.chip.Keeps t.chip :=
  State.act_keeps h (fun _ c1 hc1 => Chip.xhizRelease_keeps hc1)

theorem State.act_keepsWf {s t : State} {f : Chip → Chip} (h : s.act f = .next t)
    (hf : s.chip.KeepsWf (f s.chip)) : s.chip.KeepsWf t.chip := by
  unfold State.act at h
  split at h
  · cases h; exact id
  · cases h; exact hf.of (Chip.settle_keeps (.refl _))

theorem State.actIf_keepsWf {s t : State} {ok : Bool} {f : Chip → Chip} (h : s.actIf ok f = .next t)
    (hf : s.chip.KeepsWf (f s.chip)) : s.chip.KeepsWf t.chip := by
  unfold State.actIf at h
  split at h
  · exact State.act_keepsWf h hf
  · cases h

theorem execCoreStore_keepsWf {k : Fin 4} {size : Fin 3} {a d : Word} {s t : State}
    (h : execCoreStore k size a d s = .next t) : s.chip.KeepsWf t.chip :=
  State.act_keepsWf h (Chip.coreStore_keepsWf _ _ _ _ _)

theorem execWrite_keepsWf {a : Word} {l : List Byte} {s t : State} (h : execWrite a l s = .next t) :
    s.chip.KeepsWf t.chip :=
  State.actIf_keepsWf h (Chip.hostWrite_keepsWf _ _ _)

theorem execHpCsNRise_keepsWf {r : CsRise} {s t : State} (h : execHpCsNRise r s = .next t) :
    s.chip.KeepsWf t.chip := by
  refine State.actIf_keepsWf h ?_
  split
  · exact (Chip.portProto_keeps (.refl _)).wf
  · exact (Chip.portProto_keeps (.refl _)).wf
  · exact Chip.hostWrite_keepsWf _ _ _
  · split
    · refine Chip.KeepsWf.of ?_ (Chip.portProto_keeps (.refl _))
      split
      · exact id
      · exact Chip.hostWrite_keepsWf _ _ _
    · exact (Chip.portProto_keeps (.refl _)).wf
  · exact id

end Sys2Proof.Machine
end

