-- ==== Sys2Proof/Laws/PerInstr.lean ====
section
/-! SUPPORT. The commands that carry no list are well formed whatever their operands: one lemma per constructor. -/

namespace Sys2Proof.Laws.WellFormed

/-- The command carries a list of bytes or words whose form an event of the hardware must have. -/
def carriesList : Instr → Bool
  | .idRecordLoad .. => true
  | .dieSensorSample .. => true
  | .read .. => true
  | .write .. => true
  | .hpCsNRise .. => true
  | .frameReceive .. => true
  | .acyclicFrameRx .. => true
  | .copyFrameRx .. => true
  | _ => false

/-- A command without a list is well formed. -/
def Statement (i : Instr) : Prop := carriesList i = false → i.wf = true

theorem registerWrite (r : Requester) (a d : Word) : Statement (.registerWrite r a d) := fun _ => rfl
theorem unitReset (u : UnitId) : Statement (.unitReset u) := fun _ => rfl
theorem unitResetEnd (u : UnitId) : Statement (.unitResetEnd u) := fun _ => rfl
theorem configReadback (g : Fin 2) (bad : Option (Fin 4096)) : Statement (.configReadback g bad) := fun _ => rfl
theorem fenceInstruction (c : Fin 4) (pred : FenceSet) : Statement (.fenceInstruction c pred) := fun _ => rfl
theorem fenceI (c : Fin 4) : Statement (.fenceI c) := fun _ => rfl
theorem flagRelease (r : Requester) (buf : Fin 1024) (d : Word) : Statement (.flagRelease r buf d) := fun _ => rfl
theorem logEntryFlashWrite : Statement (.logEntryFlashWrite) := fun _ => rfl
theorem brownOut (rail : Rail) : Statement (.brownOut rail) := fun _ => rfl
theorem railWarn (rail : Rail) (below : Bool) : Statement (.railWarn rail below) := fun _ => rfl
theorem powerOnRelease : Statement (.powerOnRelease) := fun _ => rfl
theorem cellarReset (rails : Bool) : Statement (.cellarReset rails) := fun _ => rfl
theorem sleepRequest (d : Word) : Statement (.sleepRequest d) := fun _ => rfl
theorem cellarTransfer : Statement (.cellarTransfer) := fun _ => rfl
theorem sleepRailWaitEnd (fell : Bool) : Statement (.sleepRailWaitEnd fell) := fun _ => rfl
theorem wakeSlotFire (slot : Fin 16) : Statement (.wakeSlotFire slot) := fun _ => rfl
theorem pllLock : Statement (.pllLock) := fun _ => rfl
theorem refLoss (edges : Word) : Statement (.refLoss edges) := fun _ => rfl
theorem refReturn : Statement (.refReturn) := fun _ => rfl
theorem pllUnlock (ps : Word) : Statement (.pllUnlock ps) := fun _ => rfl
theorem mainFreq (count : Word) : Statement (.mainFreq count) := fun _ => rfl
theorem coreClkFail (g : Fin 2) : Statement (.coreClkFail g) := fun _ => rfl
theorem monoscFail (count : Word) : Statement (.monoscFail count) := fun _ => rfl
theorem aonXtalFail (outOfWindow : Bool) : Statement (.aonXtalFail outOfWindow) := fun _ => rfl
theorem regionGateClose (g : Fin 2) : Statement (.regionGateClose g) := fun _ => rfl
theorem wfi (c : Fin 4) : Statement (.wfi c) := fun _ => rfl
theorem resetPin : Statement (.resetPin) := fun _ => rfl
theorem resetPinRelease : Statement (.resetPinRelease) := fun _ => rfl
theorem resetStuck : Statement (.resetStuck) := fun _ => rfl
theorem rstUnmasked : Statement (.rstUnmasked) := fun _ => rfl
theorem swModuleReset (d : Word) : Statement (.swModuleReset d) := fun _ => rfl
theorem swRegionReset (d : Word) : Statement (.swRegionReset d) := fun _ => rfl
theorem regionResetEnd (g : Fin 2) (o : SlotOutcome) : Statement (.regionResetEnd g o) := fun _ => rfl
theorem debugReset (t : DebugTarget) : Statement (.debugReset t) := fun _ => rfl
theorem bootSequence (o : BootOutcome) : Statement (.bootSequence o) := fun _ => rfl
theorem lateBringup (g : Fin 2) : Statement (.lateBringup g) := fun _ => rfl
theorem lateBringupDone (g : Fin 2) (o : SlotOutcome) (t : TestOutcome) : Statement (.lateBringupDone g o t) := fun _ => rfl
theorem bankUpdate (d : Word) : Statement (.bankUpdate d) := fun _ => rfl
theorem bankConfirm : Statement (.bankConfirm) := fun _ => rfl
theorem bootrecWriteEnd (ok : Bool) : Statement (.bootrecWriteEnd ok) := fun _ => rfl
theorem arbCommit (d : Word) : Statement (.arbCommit d) := fun _ => rfl
theorem arbCommitEnd : Statement (.arbCommitEnd) := fun _ => rfl
theorem tokenSubmit (d : Word) : Statement (.tokenSubmit d) := fun _ => rfl
theorem tokenCheckEnd (fuseOk : Bool) : Statement (.tokenCheckEnd fuseOk) := fun _ => rfl
theorem fullSelftest (g : Fin 2) : Statement (.fullSelftest g) := fun _ => rfl
theorem fullSelftestEnd (g : Fin 2) (o : SlotOutcome) (t : TestOutcome) : Statement (.fullSelftestEnd g o t) := fun _ => rfl
theorem fuseRepair : Statement (.fuseRepair) := fun _ => rfl
theorem fuseRepairEnd (good : List Bool) : Statement (.fuseRepairEnd good) := fun _ => rfl
theorem gpioSet (d : Word) : Statement (.gpioSet d) := fun _ => rfl
theorem gpioClr (d : Word) : Statement (.gpioClr d) := fun _ => rfl
theorem gpioEdge (p : Fin 32) (rise : Bool) : Statement (.gpioEdge p rise) := fun _ => rfl
theorem runRequest (k : Fin 4) : Statement (.runRequest k) := fun _ => rfl
theorem stopRequest (k : Fin 4) : Statement (.stopRequest k) := fun _ => rfl
theorem haltRequest (k : Fin 4) : Statement (.haltRequest k) := fun _ => rfl
theorem resetRequest (k : Fin 4) : Statement (.resetRequest k) := fun _ => rfl
theorem clearRequest (k : Fin 4) : Statement (.clearRequest k) := fun _ => rfl
theorem dischargeRequest (k : Fin 4) : Statement (.dischargeRequest k) := fun _ => rfl
theorem duplexRequest (k : Fin 4) : Statement (.duplexRequest k) := fun _ => rfl
theorem splitRequest (k : Fin 4) : Statement (.splitRequest k) := fun _ => rfl
theorem requestUnknown (k : Fin 4) (code : Fin 16) : Statement (.requestUnknown k code) := fun _ => rfl
theorem triggerMatch (n : Fin 16) (j : Fin 4) (down : Bool) : Statement (.triggerMatch n j down) := fun _ => rfl
theorem sarResultWrite (k : Fin 4) (v : Sampled (List (Fin 28 × Fin 4194304))) (u : Upset) : Statement (.sarResultWrite k v u) := fun _ => rfl
theorem sdResultWrite (m : Fin 12) (bits : List Bool) (level : Bool) (u : Upset) : Statement (.sdResultWrite m bits level u) := fun _ => rfl
theorem reload (n : Fin 16) (peak : Bool) (bad : Option (Fin 8192)) : Statement (.reload n peak bad) := fun _ => rfl
theorem decelTimeout (k : Fin 4) : Statement (.decelTimeout k) := fun _ => rfl
theorem safeRetry (k : Fin 4) (code : Fin 65536) : Statement (.safeRetry k code) := fun _ => rfl
theorem catchProbe (k : Fin 4) (ia ib : Word) (ic : ProbeEnd) : Statement (.catchProbe k ia ib ic) := fun _ => rfl
theorem catchTimeout (k : Fin 4) : Statement (.catchTimeout k) := fun _ => rfl
theorem keAbnormal (k : Fin 4) : Statement (.keAbnormal k) := fun _ => rfl
theorem ldrSwapRequest (k : Fin 4) (tables : Fin 8) : Statement (.ldrSwapRequest k tables) := fun _ => rfl
theorem ldrCheckEnd (k : Fin 4) (t : Fin 3) : Statement (.ldrCheckEnd k t) := fun _ => rfl
theorem ldrSwap (k : Fin 4) (t : Fin 3) (busy : Bool) : Statement (.ldrSwap k t busy) := fun _ => rfl
theorem larderWrite (k : Fin 4) (copy : Fin 2) (w : Fin 8192) (d : Word) : Statement (.larderWrite k copy w d) := fun _ => rfl
theorem bcmStall (k : Fin 4) : Statement (.bcmStall k) := fun _ => rfl
theorem duplexCopy (k : Fin 4) : Statement (.duplexCopy k) := fun _ => rfl
theorem splitTakeEffect (k : Fin 4) : Statement (.splitTakeEffect k) := fun _ => rfl
theorem slotWrite (k : Fin 4) (e : Fin 28) (d : Word) : Statement (.slotWrite k e d) := fun _ => rfl
theorem refSelect (d : Word) : Statement (.refSelect d) := fun _ => rfl
theorem refReady : Statement (.refReady) := fun _ => rfl
theorem refMonitorTrip : Statement (.refMonitorTrip) := fun _ => rfl
theorem scanStart : Statement (.scanStart) := fun _ => rfl
theorem scanEntryStart (e : Fin 16) : Statement (.scanEntryStart e) := fun _ => rfl
theorem scanEntryResult (e : Fin 16) (v : Sampled (List (Fin 4194304))) : Statement (.scanEntryResult e v) := fun _ => rfl
theorem sdStuck (m : Fin 12) (level : Bool) : Statement (.sdStuck m level) := fun _ => rfl
theorem sdStreamRecover (m : Fin 12) : Statement (.sdStreamRecover m) := fun _ => rfl
theorem cmpTrip (c : Fin 16) (v : CmpInput) : Statement (.cmpTrip c v) := fun _ => rfl
theorem cmpRelease (c : Fin 16) (v : CmpInput) : Statement (.cmpRelease c v) := fun _ => rfl
theorem sdClkCfgWrite (d : Word) : Statement (.sdClkCfgWrite d) := fun _ => rfl
theorem quadCount (n : Fin 2) (a b : Bool) : Statement (.quadCount n a b) := fun _ => rfl
theorem index (n : Fin 2) (rise : Bool) : Statement (.index n rise) := fun _ => rfl
theorem posEvalSelfTimed (n : Fin 2) : Statement (.posEvalSelfTimed n) := fun _ => rfl
theorem hallChange (n : Fin 2) (h : Fin 8) : Statement (.hallChange n h) := fun _ => rfl
theorem sentFrame (n : Fin 2) (sync : Fin 2097152) (pulses : List (Fin 2097152)) : Statement (.sentFrame n sync pulses) := fun _ => rfl
theorem sentTimeout (n : Fin 2) : Statement (.sentTimeout n) := fun _ => rfl
theorem fabStrobe (n : Fin 2) (angle : Fin 65536) : Statement (.fabStrobe n angle) := fun _ => rfl
theorem fabStale (n : Fin 2) : Statement (.fabStale n) := fun _ => rfl
theorem standstill (n : Fin 2) : Statement (.standstill n) := fun _ => rfl
theorem snap (n : Fin 2) : Statement (.snap n) := fun _ => rfl
theorem clrTot (n : Fin 2) : Statement (.clrTot n) := fun _ => rfl
theorem rearm (n : Fin 2) : Statement (.rearm n) := fun _ => rfl
theorem posCfgWrite (n : Fin 2) (d : Word) : Statement (.posCfgWrite n d) := fun _ => rfl
theorem cleClear (k : Fin 4) : Statement (.cleClear k) := fun _ => rfl
theorem coefWrite (k : Fin 4) (r : CoefReg) (d : Word) : Statement (.coefWrite k r d) := fun _ => rfl
theorem listWrite (k : Fin 4) (n : Fin 6) (d : Word) : Statement (.listWrite k n d) := fun _ => rfl
theorem followErr (k : Fin 4) : Statement (.followErr k) := fun _ => rfl
theorem cleCrcUpdate (k : Fin 4) (e : Option (Fin 1792 × Bool)) : Statement (.cleCrcUpdate k e) := fun _ => rfl
theorem sliceRun (n : Fin 16) : Statement (.sliceRun n) := fun _ => rfl
theorem sliceStop (n : Fin 16) : Statement (.sliceStop n) := fun _ => rfl
theorem pwmStart (d : Word) : Statement (.pwmStart d) := fun _ => rfl
theorem delayCal (taps : Fin 65536) (late : Bool) : Statement (.delayCal taps late) := fun _ => rfl
theorem rawEdge (n : Fin 16) (low active : Bool) : Statement (.rawEdge n low active) := fun _ => rfl
theorem deadTimeEnd (n : Fin 16) (w : DeadTime) : Statement (.deadTimeEnd n w) := fun _ => rfl
theorem minPulseEnd (n : Fin 16) (low : Bool) : Statement (.minPulseEnd n low) := fun _ => rfl
theorem bsRefresh (n : Fin 16) : Statement (.bsRefresh n) := fun _ => rfl
theorem bootLow (n : Fin 16) : Statement (.bootLow n) := fun _ => rfl
theorem forceWrite (n : Fin 16) (d : Word) : Statement (.forceWrite n d) := fun _ => rfl
theorem floorWrite (n : Fin 16) (d : Word) : Statement (.floorWrite n d) := fun _ => rfl
theorem holdSet (d : Word) : Statement (.holdSet d) := fun _ => rfl
theorem holdClr (d : Word) : Statement (.holdClr d) := fun _ => rfl
theorem fltNAssert : Statement (.fltNAssert) := fun _ => rfl
theorem xhizRelease : Statement (.xhizRelease) := fun _ => rfl
theorem edgeCommand (n : Fin 12) (on discarded : Bool) : Statement (.edgeCommand n on discarded) := fun _ => rfl
theorem phaseEnd (n : Fin 12) : Statement (.phaseEnd n) := fun _ => rfl
theorem gateStateReport (f : ChanFrame) (above : Bool) : Statement (.gateStateReport f above) := fun _ => rfl
theorem interlockRelease (n : Fin 12) : Statement (.interlockRelease n) := fun _ => rfl
theorem legConflict (n : Fin 12) : Statement (.legConflict n) := fun _ => rfl
theorem profileFrame (f : ChanFrame) : Statement (.profileFrame f) := fun _ => rfl
theorem mirrorWrite (n : Fin 12) (w : MirrorStep) : Statement (.mirrorWrite n w) := fun _ => rfl
theorem islandChannelLoss (n : Fin 12) : Statement (.islandChannelLoss n) := fun _ => rfl
theorem chanLoss (n : Fin 12) : Statement (.chanLoss n) := fun _ => rfl
theorem orphanReturn (n : Fin 12) : Statement (.orphanReturn n) := fun _ => rfl
theorem statusFrame (f : ChanFrame) (vcc vee : Fin 65536) (temp ohms : Word) : Statement (.statusFrame f vcc vee temp ohms) := fun _ => rfl
theorem measurementFrame (n : Fin 12) (on discarded : Bool) (t1 t2 : Fin 1048576) : Statement (.measurementFrame n on discarded t1 t2) := fun _ => rfl
theorem islandHandshakeOpen (n : Fin 12) : Statement (.islandHandshakeOpen n) := fun _ => rfl
theorem handshakeStepEnd (n : Fin 12) (ok : Bool) (raw : Fin 65536) : Statement (.handshakeStepEnd n ok raw) := fun _ => rfl
theorem latencyRemeasure (n : Fin 12) (raw : Fin 65536) : Statement (.latencyRemeasure n raw) := fun _ => rfl
theorem uvlo (n : Fin 12) (vee : Bool) (v : Fin 65536) : Statement (.uvlo n vee v) := fun _ => rfl
theorem islandSupplyRelease (n : Fin 12) : Statement (.islandSupplyRelease n) := fun _ => rfl
theorem desatBlankingEnd (n : Fin 12) : Statement (.desatBlankingEnd n) := fun _ => rfl
theorem desat (n : Fin 12) (ns : Fin 65536) : Statement (.desat n ns) := fun _ => rfl
theorem tltoHoldEnd (n : Fin 12) : Statement (.tltoHoldEnd n) := fun _ => rfl
theorem gateTmo (n : Fin 12) : Statement (.gateTmo n) := fun _ => rfl
theorem islandAutoClear (n : Fin 12) (code : Fin 65536) : Statement (.islandAutoClear n code) := fun _ => rfl
theorem usedCountReset (n : Fin 12) (uv : Bool) : Statement (.usedCountReset n uv) := fun _ => rfl
theorem islandClear (n : Fin 12) : Statement (.islandClear n) := fun _ => rfl
theorem islandUnitReset (n : Fin 12) : Statement (.islandUnitReset n) := fun _ => rfl
theorem leakCheck (n : Fin 12) : Statement (.leakCheck n) := fun _ => rfl
theorem leakCheckEnd (n : Fin 12) (cur : Word) : Statement (.leakCheckEnd n cur) := fun _ => rfl
theorem supplyModeWrite (n : Fin 12) (d : Word) : Statement (.supplyModeWrite n d) := fun _ => rfl
theorem bsCatchPulse (k : Fin 4) : Statement (.bsCatchPulse k) := fun _ => rfl
theorem stoDemand (b : Bool) : Statement (.stoDemand b) := fun _ => rfl
theorem stoRelease (b : Bool) : Statement (.stoRelease b) := fun _ => rfl
theorem stoDiscrepancy : Statement (.stoDiscrepancy) := fun _ => rfl
theorem isoEnRelease (g : Fin 2) : Statement (.isoEnRelease g) := fun _ => rfl
theorem islandFaultReport (n : Fin 12) : Statement (.islandFaultReport n) := fun _ => rfl
theorem chopperVerifyEnd : Statement (.chopperVerifyEnd) := fun _ => rfl
theorem chopperTest : Statement (.chopperTest) := fun _ => rfl
theorem ctrOv3Open : Statement (.ctrOv3Open) := fun _ => rfl
theorem ctrCommand (d : Word) : Statement (.ctrCommand d) := fun _ => rfl
theorem ctrForce (d : Word) : Statement (.ctrForce d) := fun _ => rfl
theorem clrWeld : Statement (.clrWeld) := fun _ => rfl
theorem ctrFeedbackChange (neg high : Bool) : Statement (.ctrFeedbackChange neg high) := fun _ => rfl
theorem ctrFeedbackTimeout (neg : Bool) : Statement (.ctrFeedbackTimeout neg) := fun _ => rfl
theorem dischargeStart : Statement (.dischargeStart) := fun _ => rfl
theorem disHalfTime : Statement (.disHalfTime) := fun _ => rfl
theorem disFail : Statement (.disFail) := fun _ => rfl
theorem dischargeAbort : Statement (.dischargeAbort) := fun _ => rfl
theorem safetyTick : Statement (.safetyTick) := fun _ => rfl
theorem tqImplausible (k : Fin 4) : Statement (.tqImplausible k) := fun _ => rfl
theorem speedLimit (k : Fin 4) : Statement (.speedLimit k) := fun _ => rfl
theorem ss1Start (k : Fin 4) : Statement (.ss1Start k) := fun _ => rfl
theorem ss1Timeout (k : Fin 4) : Statement (.ss1Timeout k) := fun _ => rfl
theorem pcStoSet (k : Fin 4) : Statement (.pcStoSet k) := fun _ => rfl
theorem pcStoRelease (k : Fin 4) : Statement (.pcStoRelease k) := fun _ => rfl
theorem safeMsgLost (k : Fin 4) : Statement (.safeMsgLost k) := fun _ => rfl
theorem lockstepMismatch (g : Fin 2) (group : Fin 4) : Statement (.lockstepMismatch g group) := fun _ => rfl
theorem idRecordLoad (m : Fin 6) (mem : Option (List Byte)) : Statement (.idRecordLoad m mem) := nofun
theorem ledgerLoad (m : Fin 6) : Statement (.ledgerLoad m) := fun _ => rfl
theorem dieSensorSample (temps : List Word) : Statement (.dieSensorSample temps) := nofun
theorem windSens (k : Fin 4) : Statement (.windSens k) := fun _ => rfl
theorem peakGraceEnd (k : Fin 4) : Statement (.peakGraceEnd k) := fun _ => rfl
theorem peakRampEnd (k : Fin 4) : Statement (.peakRampEnd k) := fun _ => rfl
theorem rainflowSample : Statement (.rainflowSample) := fun _ => rfl
theorem ledgerInterval : Statement (.ledgerInterval) := fun _ => rfl
theorem ledgerWriteRequest : Statement (.ledgerWriteRequest) := fun _ => rfl
theorem ledgerWriteEnd (m : Fin 6) (ok : Bool) : Statement (.ledgerWriteEnd m ok) := fun _ => rfl
theorem heldWriteStart (identity : Bool) : Statement (.heldWriteStart identity) := fun _ => rfl
theorem writeTempFail (identity : Bool) : Statement (.writeTempFail identity) := fun _ => rfl
theorem ageRebuild (k : Fin 4) : Statement (.ageRebuild k) := fun _ => rfl
theorem ageApply (k : Fin 4) : Statement (.ageApply k) := fun _ => rfl
theorem coreLoad (c : Fin 4) (size : Fin 3) (uns fp : Bool) (rd : Fin 32) (a : Word) (e : Fin 3) : Statement (.coreLoad c size uns fp rd a e) := fun _ => rfl
theorem coreStore (c : Fin 4) (size : Fin 3) (a d : Word) : Statement (.coreStore c size a d) := fun _ => rfl
theorem instructionFetch (c : Fin 4) (a : Word) (e : Fin 3) : Statement (.instructionFetch c a e) := fun _ => rfl
theorem scrub (mem : Fin 5) (w : Fin 524288) (e : Fin 3) : Statement (.scrub mem w e) := fun _ => rfl
theorem eccInject (d : Word) : Statement (.eccInject d) := fun _ => rfl
theorem semTake (r : Requester) (n : Fin 32) : Statement (.semTake r n) := fun _ => rfl
theorem semGive (r : Requester) (n : Fin 32) : Statement (.semGive r n) := fun _ => rfl
theorem semTakeOrWait (r : Requester) (n : Fin 32) : Statement (.semTakeOrWait r n) := fun _ => rfl
theorem semCancel (r : Requester) (n : Fin 32) : Statement (.semCancel r n) := fun _ => rfl
theorem timerCompare (c : Fin 4) (j : Fin 2) : Statement (.timerCompare c j) := fun _ => rfl
theorem watchdogKick (c : Fin 4) (d : Word) : Statement (.watchdogKick c d) := fun _ => rfl
theorem wdtWarn (c : Fin 4) : Statement (.wdtWarn c) := fun _ => rfl
theorem coreWdt (c : Fin 4) : Statement (.coreWdt c) := fun _ => rfl
theorem irqRouteWrite (w : Fin 32) (d : Word) : Statement (.irqRouteWrite w d) := fun _ => rfl
theorem moderationTimer (c : Fin 4) (g : Fin 3) : Statement (.moderationTimer c g) := fun _ => rfl
theorem swi (d : Word) : Statement (.swi d) := fun _ => rfl
theorem irqPendClear (w : Fin 4) (d : Word) : Statement (.irqPendClear w d) := fun _ => rfl
theorem irqSumRead (c : Fin 4) : Statement (.irqSumRead c) := fun _ => rfl
theorem timNowRead (r : Requester) : Statement (.timNowRead r) := fun _ => rfl
theorem readId : Statement (.readId) := fun _ => rfl
theorem enter8d (lat : Byte) : Statement (.enter8d lat) := fun _ => rfl
theorem read (a : Word) (n : Fin 4097) (late : List (Fin 1024)) : Statement (.read a n late) := nofun
theorem write (a : Word) (l : List Byte) : Statement (.write a l) := nofun
theorem readStatus : Statement (.readStatus) := fun _ => rfl
theorem fence : Statement (.fence) := fun _ => rfl
theorem softReset : Statement (.softReset) := fun _ => rfl
theorem hpCsNRise (r : CsRise) : Statement (.hpCsNRise r) := nofun
theorem hwFence : Statement (.hwFence) := fun _ => rfl
theorem hwCas (r : Requester) (d : Word) : Statement (.hwCas r d) := fun _ => rfl
theorem queueEnable (cq : Bool) (n : Fin 8) (d : Word) : Statement (.queueEnable cq n d) := fun _ => rfl
theorem sqDoorbell (r : Requester) (n : Fin 8) (d : Word) : Statement (.sqDoorbell r n d) := fun _ => rfl
theorem descriptorFetch : Statement (.descriptorFetch) := fun _ => rfl
theorem upload (q : Fin 8) : Statement (.upload q) := fun _ => rfl
theorem fetch (q : Fin 8) (w : Fin 64) (e : Fin 3) : Statement (.fetch q w e) := fun _ => rfl
theorem erase (q : Fin 8) (ok : Bool) : Statement (.erase q ok) := fun _ => rfl
theorem program (q : Fin 8) (ok : Bool) : Statement (.program q ok) := fun _ => rfl
theorem trace (q : Fin 8) : Statement (.trace q) := fun _ => rfl
theorem traceCopy (q : Fin 8) : Statement (.traceCopy q) := fun _ => rfl
theorem logRead (q : Fin 8) : Statement (.logRead q) := fun _ => rfl
theorem idRead (q : Fin 8) (stop : Option (Fin 1280)) : Statement (.idRead q stop) := fun _ => rfl
theorem msg (q : Fin 8) : Statement (.msg q) := fun _ => rfl
theorem msgDone (d : Word) : Statement (.msgDone d) := fun _ => rfl
theorem descriptorComplete (q : Fin 8) : Statement (.descriptorComplete q) := fun _ => rfl
theorem queueAbort (q : Fin 8) : Statement (.queueAbort q) := fun _ => rfl
theorem cqHeadWrite (c : Fin 8) (d : Word) : Statement (.cqHeadWrite c d) := fun _ => rfl
theorem cqModTimer (c : Fin 8) : Statement (.cqModTimer c) := fun _ => rfl
theorem hwIdleWrite (d : Word) : Statement (.hwIdleWrite d) := fun _ => rfl
theorem hostSleepAssert : Statement (.hostSleepAssert) := fun _ => rfl
theorem hostSleepRelease : Statement (.hostSleepRelease) := fun _ => rfl
theorem canMode (n : Fin 4) (m : Fin 4) : Statement (.canMode n m) := fun _ => rfl
theorem canIntegrated (n : Fin 4) : Statement (.canIntegrated n) := fun _ => rfl
theorem frameReceive (n : Fin 4) (f : CanFrame) (ago : Fin 1048576) : Statement (.frameReceive n f ago) := nofun
theorem rxfPop (n : Fin 4) : Statement (.rxfPop n) := fun _ => rfl
theorem hpTake (n : Fin 4) : Statement (.hpTake n) := fun _ => rfl
theorem txRequest (n : Fin 4) (b : Fin 3) (d : Word) (idle : Bool) : Statement (.txRequest n b d idle) := fun _ => rfl
theorem txAbort (n : Fin 4) (b : Fin 3) : Statement (.txAbort n b) := fun _ => rfl
theorem txEnd (n : Fin 4) (e : TxEnd) : Statement (.txEnd n e) := fun _ => rfl
theorem busError (n : Fin 4) (e : CanError) : Statement (.busError n e) := fun _ => rfl
theorem boRec (n : Fin 4) : Statement (.boRec n) := fun _ => rfl
theorem busOffEnd (n : Fin 4) : Statement (.busOffEnd n) := fun _ => rfl
theorem addressClaim (n : Fin 4) : Statement (.addressClaim n) := fun _ => rfl
theorem claimSettled (n : Fin 4) : Statement (.claimSettled n) := fun _ => rfl
theorem addressClaimedRx (n : Fin 4) (sa : Byte) (name : BitVec 64) : Statement (.addressClaimedRx n sa name) := fun _ => rfl
theorem cannotClaimSend (n : Fin 4) : Statement (.cannotClaimSend n) := fun _ => rfl
theorem commandedAddress (n : Fin 4) (name : BitVec 64) (addr : Byte) : Statement (.commandedAddress n name addr) := fun _ => rfl
theorem requestRx (n : Fin 4) (sa dest : Byte) (pgn : Fin 262144) : Statement (.requestRx n sa dest pgn) := fun _ => rfl
theorem reqTimeout : Statement (.reqTimeout) := fun _ => rfl
theorem reqAnswer (d : Word) : Statement (.reqAnswer d) := fun _ => rfl
theorem tpSendStart (n : Fin 8) (d : Word) : Statement (.tpSendStart n d) := fun _ => rfl
theorem tpCmRx (n : Fin 4) (etp : Bool) (sa dest : Byte) (l : Vector Byte 8) : Statement (.tpCmRx n etp sa dest l) := fun _ => rfl
theorem tpDtRx (n : Fin 4) (etp : Bool) (sa dest : Byte) (l : Vector Byte 8) : Statement (.tpDtRx n etp sa dest l) := fun _ => rfl
theorem bamGap (n : Fin 8) : Statement (.bamGap n) := fun _ => rfl
theorem tpTimeout (n : Fin 16) : Statement (.tpTimeout n) := fun _ => rfl
theorem tpCancel (n : Fin 8) : Statement (.tpCancel n) := fun _ => rfl
theorem tpRelease (n : Fin 16) : Statement (.tpRelease n) := fun _ => rfl
theorem porchPoolWrite (d : Word) : Statement (.porchPoolWrite d) := fun _ => rfl
theorem statusMessage (n : Fin 4) (peak : Bool) : Statement (.statusMessage n peak) := fun _ => rfl
theorem aloneProbe (n : Fin 4) : Statement (.aloneProbe n) := fun _ => rfl
theorem checkedMessageRx (n : Fin 4) (sa : Byte) (l : Vector Byte 8) : Statement (.checkedMessageRx n sa l) := fun _ => rfl
theorem cmdLost (n : Fin 4) : Statement (.cmdLost n) := fun _ => rfl
theorem ringEnable : Statement (.ringEnable) := fun _ => rfl
theorem ringDisable : Statement (.ringDisable) := fun _ => rfl
theorem ringStartTimeout : Statement (.ringStartTimeout) := fun _ => rfl
theorem cycleStart (e e2 : Fin 3) : Statement (.cycleStart e e2) := fun _ => rfl
theorem cyclicFrameRx (ringB : Bool) (f : CyclicFrame) (crcOk : Bool) : Statement (.cyclicFrameRx ringB f crcOk) := fun _ => rfl
theorem ringBreak (ringB : Bool) (sym : Fin 256) : Statement (.ringBreak ringB sym) := fun _ => rfl
theorem linkReady (ringB : Bool) : Statement (.linkReady ringB) := fun _ => rfl
theorem msgSend (m : Fin 4) (d : Word) : Statement (.msgSend m d) := fun _ => rfl
theorem acyclicFrameRx (ringB : Bool) (f : AcyclicFrame) (crcOk : Bool) : Statement (.acyclicFrameRx ringB f crcOk) := nofun
theorem msgAckTimeout (m : Fin 4) : Statement (.msgAckTimeout m) := fun _ => rfl
theorem msgAbort (m : Fin 4) : Statement (.msgAbort m) := fun _ => rfl
theorem rxSlotFree (r : Fin 4) : Statement (.rxSlotFree r) := fun _ => rfl
theorem ringMsgEnable (d : Word) : Statement (.ringMsgEnable d) := fun _ => rfl
theorem ringClrErr : Statement (.ringClrErr) := fun _ => rfl
theorem twinHeartbeatRx (role : Fin 4) (ok : Bool) : Statement (.twinHeartbeatRx role ok) := fun _ => rfl
theorem copyFrameRx (off : Fin 65536) (l : List Byte) (last ok : Bool) : Statement (.copyFrameRx off l last ok) := nofun
theorem vddaRelease : Statement (.vddaRelease) := fun _ => rfl
theorem fltNRelease : Statement (.fltNRelease) := fun _ => rfl
theorem twinSigLost : Statement (.twinSigLost) := fun _ => rfl
theorem twinSigBack : Statement (.twinSigBack) := fun _ => rfl

end Sys2Proof.Laws.WellFormed
end

