-- ==== Sys2Proof/Laws/Reach.lean ====
section
/-! SUPPORT. What a command that is a write of a register does: each case of `rowWrite`, once. -/

namespace Sys2Proof.Machine.Chip

variable {s : Chip} {a : Nat}

/-- No gate stands in the way of an access that reaches a running region. -/
theorem reachGate_of_running (h : (clockRgn a).all (fun g => !s.gated g) = true) : s.reachGate a = s := by
  unfold reachGate
  split <;> simp_all

/-- A write that is taken as it comes has its effect and nothing else happens. -/
theorem rowWrite_takes (h : s.takes a = true) (d : Nat) (f : Chip → Chip) : s.rowWrite a d f = f s := by
  simp only [takes, Bool.and_eq_true] at h
  obtain ⟨⟨⟨h1, h2⟩, h3⟩, h4⟩ := h
  unfold rowWrite
  rw [if_neg (by simpa using h1), reachGate_of_running h2]
  split <;> rename_i hu
  · rw [hu] at h3
    rw [if_neg (by simpa using h3), if_neg (by simpa using h4)]
  · rw [if_neg (by simpa using h4)]

/-- A write to a register of a region in its reset is discarded (R524). -/
theorem rowWrite_shut (h : s.rgnShut .host a = true) (d : Nat) (f : Chip → Chip) :
    s.rowWrite a d f = s.discard .host a true 1 := by
  unfold rowWrite; rw [if_pos h]

/-- A write to a unit that stands in its reset is held (R13). -/
theorem rowWrite_held (h : s.rgnShut .host a = false) {u : UnitId} (hu : unitOf a = some u)
    (hr : (s.reachGate a).bus.resets.contains u = true) (d : Nat) (f : Chip → Chip) :
    s.rowWrite a d f = { s.reachGate a with bus := { (s.reachGate a).bus with
      held := (s.reachGate a).bus.held ++ [⟨.host, a, 4, d, 0⟩] } } := by
  simp only [rowWrite, h, hu, hr, if_true, Bool.false_eq_true, if_false]

end Sys2Proof.Machine.Chip
end

