-- ==== Sys2Proof/Laws/Shape.lean ====
section
/-! SUPPORT. The numbers of the module's instances stay: the rules of the relation, and its lemmas for the operations that
write the register file, the memory and the log. -/

namespace Sys2Proof.Machine

/-- The numbers of instances. -/
def Chip.lens (c : Chip) : List ℕ :=
  [c.rgn.length, c.cl.length, c.meas.length, c.pos.length, c.cle.length, c.slice.length, c.isl.length, c.hart.length, c.can.length]

theorem Chip.shaped_iff (c : Chip) : c.Shaped ↔ c.lens = [2, 4, 4, 2, 4, 16, 12, 4, 4] := by
  constructor
  · rintro ⟨h1, h2, h3, h4, h5, h6, h7, h8, h9⟩
    simp [Chip.lens, h1, h2, h3, h4, h5, h6, h7, h8, h9]
  · intro h
    simp only [Chip.lens, List.cons.injEq, and_true] at h
    obtain ⟨h1, h2, h3, h4, h5, h6, h7, h8, h9⟩ := h
    exact ⟨h1, h2, h3, h4, h5, h6, h7, h8, h9⟩

/-- What an operation keeps. -/
def Chip.KeepsShape (c d : Chip) : Prop := c.Shaped → d.Shaped

namespace Chip.KeepsShape

variable {z s : Chip}

theorem refl (c : Chip) : c.KeepsShape c := id

theorem step {t : Chip} (h : z.KeepsShape s) (k : t.lens = s.lens) : z.KeepsShape t := by
  intro x
  have y := h x
  rw [Chip.shaped_iff] at y ⊢
  rw [k, y]

theorem ite {c : Prop} [Decidable c] {a b : Chip} (ha : z.KeepsShape a) (hb : z.KeepsShape b) :
    z.KeepsShape (if c then a else b) := by
  split <;> assumption

theorem iteP {α : Type} {c : Prop} [Decidable c] {a b : Chip × α} (ha : z.KeepsShape a.1) (hb : z.KeepsShape b.1) :
    z.KeepsShape (if c then a else b).1 := by
  split <;> assumption

theorem iteL {c : Prop} [Decidable c] {a b : LoopRun} (ha : z.KeepsShape a.chip) (hb : z.KeepsShape b.chip) :
    z.KeepsShape (if c then a else b).chip := by
  split <;> assumption

theorem fst {α : Type} {a : Chip} {b : α} (h : z.KeepsShape a) : z.KeepsShape (a, b).1 := h

theorem cond {c : Bool} {a b : Chip} (ha : z.KeepsShape a) (hb : z.KeepsShape b) : z.KeepsShape (cond c a b) := by
  cases c <;> assumption

theorem each {α : Type} {l : List α} {f : α → Chip → Chip} (h : z.KeepsShape s)
    (hf : ∀ a t, z.KeepsShape t → z.KeepsShape (f a t)) : z.KeepsShape (forEach l f s) := by
  unfold forEach
  induction l generalizing s with
  | nil => exact h
  | cons a l ih => exact ih (hf a s h)

theorem foldl {α : Type} {l : List α} {f : Chip → α → Chip} (h : z.KeepsShape s)
    (hf : ∀ t a, z.KeepsShape t → z.KeepsShape (f t a)) : z.KeepsShape (l.foldl f s) := by
  induction l generalizing s with
  | nil => exact h
  | cons a l ih => exact ih (hf s a h)

theorem foldlP {α β : Type} {l : List α} {f : Chip × β → α → Chip × β} {p : Chip × β} (h : z.KeepsShape p.1)
    (hf : ∀ t a, z.KeepsShape t.1 → z.KeepsShape (f t a).1) : z.KeepsShape (l.foldl f p).1 := by
  induction l generalizing p with
  | nil => exact h
  | cons a l ih => exact ih (hf p a h)

end Chip.KeepsShape

theorem Chip.settle_shape {z s : Chip} (h : z.KeepsShape s) : z.KeepsShape s.settle :=
  h.step (by
    have k := congrArg List.length s.settle_hart
    simp only [List.length_map] at k
    simp [Chip.lens, k])

theorem Chip.set_shape {z s : Chip} {f : Field} {v : ℕ} (h : z.KeepsShape s) : z.KeepsShape (s.set f v) := h.step rfl

theorem Chip.resetRange_shape {z s : Chip} {lo hi : ℕ} (h : z.KeepsShape s) : z.KeepsShape (s.resetRange lo hi) := h.step rfl

theorem Chip.setByte_shape {z s : Chip} {a : ℕ} {b : Byte} (h : z.KeepsShape s) : z.KeepsShape (s.setByte a b) := h.step rfl

theorem Chip.setBytes_shape {z s : Chip} {a : ℕ} {l : List Byte} (h : z.KeepsShape s) : z.KeepsShape (s.setBytes a l) := by
  induction l generalizing s a with
  | nil => exact h
  | cons b l ih => exact ih (Chip.setByte_shape h)

theorem Chip.assign_shape {z s : Chip} {f : Field} {v : ℕ} (h : z.KeepsShape s) : z.KeepsShape (s.assign f v) := h.step rfl

theorem Chip.setBitOf_shape {z s : Chip} {f : Field} {i : ℕ} (h : z.KeepsShape s) : z.KeepsShape (s.setBitOf f i) := h.step rfl

theorem Chip.retain_shape {z s : Chip} {e : LogEntry} (h : z.KeepsShape s) : z.KeepsShape (s.retain e) := by
  unfold Chip.retain
  extract_lets _ full _ _ r _ s1 s2
  have hx : z.KeepsShape s1 := h.step rfl
  have h2 : z.KeepsShape s2 := Chip.set_shape hx
  exact .ite (Chip.set_shape h2) h2

theorem Chip.record_shape {z s : Chip} {code cls inst cluster region data : ℕ} (h : z.KeepsShape s) :
    z.KeepsShape (s.record code cls inst cluster region data) := by
  unfold Chip.record
  extract_lets e q _ s1 s2
  have h1 : z.KeepsShape s1 := h.step rfl
  have h2 : z.KeepsShape s2 := .ite (Chip.retain_shape h1) h1
  exact .ite (Chip.set_shape (Chip.set_shape (Chip.set_shape h2))) h2

end Sys2Proof.Machine
end

