-- ==== Sys2Proof/Laws/ShapeOps.lean ====
section
/-! SUPPORT. Every operation of the module keeps the numbers of its instances: one lemma per operation. -/

set_option linter.unusedVariables false

namespace Sys2Proof.Machine

open Sys2Proof

theorem Chip.sets_shape {z : Chip} {p1 : Chip} {p2 : List (Field × ℕ)} (hp1 : z.KeepsShape p1) : z.KeepsShape (Chip.sets p1 p2) := by
  unfold Chip.sets
  exact .foldl hp1 (fun t2 a1 ht2 => Chip.set_shape ht2)

theorem Chip.put_shape {z : Chip} {p1 : Chip} {p2 : Field} {p3 : Bool} (hp1 : z.KeepsShape p1) : z.KeepsShape (Chip.put p1 p2 p3) := by
  unfold Chip.put
  exact Chip.set_shape hp1

theorem Chip.modIsl_shape {z : Chip} {p1 : Chip} {p2 : ℕ} {p3 : IslandS → IslandS} (hp1 : z.KeepsShape p1) : z.KeepsShape (Chip.modIsl p1 p2 p3) := by
  unfold Chip.modIsl
  exact (hp1.step (by simp [Chip.lens, updNth_length]))

theorem Chip.clampTo_shape {z : Chip} {p1 : Chip} {p2 : ℕ} {p3 : Bool} (hp1 : z.KeepsShape p1) : z.KeepsShape (Chip.clampTo p1 p2 p3) := by
  unfold Chip.clampTo
  exact Chip.put_shape (Chip.modIsl_shape hp1)

theorem Chip.clamp_shape {z : Chip} {p1 : Chip} {p2 : ℕ} (hp1 : z.KeepsShape p1) : z.KeepsShape (Chip.clamp p1 p2) := by
  unfold Chip.clamp
  exact Chip.clampTo_shape hp1

theorem Chip.abortLeak_shape {z : Chip} {p1 : Chip} {p2 : ℕ} {p3 : ℕ} (hp1 : z.KeepsShape p1) : z.KeepsShape (Chip.abortLeak p1 p2 p3) := by
  unfold Chip.abortLeak
  refine .ite ?_ hp1
  extract_lets +onlyGivenNames x1
  have hx1 : z.KeepsShape x1 := Chip.sets_shape hp1
  clear_value x1
  exact Chip.clamp_shape (Chip.modIsl_shape hx1)

theorem Chip.modSlice_shape {z : Chip} {p1 : Chip} {p2 : ℕ} {p3 : SliceS → SliceS} (hp1 : z.KeepsShape p1) : z.KeepsShape (Chip.modSlice p1 p2 p3) := by
  unfold Chip.modSlice
  exact (hp1.step (by simp [Chip.lens, updNth_length]))

theorem Chip.accrueOne_shape {z : Chip} {p1 : Chip} {p2 : ℕ} {p3 : ℕ} (hp1 : z.KeepsShape p1) : z.KeepsShape (Chip.accrueOne p1 p2 p3) := by
  unfold Chip.accrueOne
  extract_lets +onlyGivenNames x1
  extract_lets +onlyGivenNames x2
  clear_value x2
  extract_lets +onlyGivenNames x3
  clear_value x3
  extract_lets +onlyGivenNames x4
  clear_value x4
  extract_lets +onlyGivenNames x5
  extract_lets +onlyGivenNames x6
  clear_value x6
  extract_lets +onlyGivenNames x7
  clear_value x7
  exact .ite hp1 (Chip.modSlice_shape hp1)

theorem Chip.accrue_shape {z : Chip} {p1 : Chip} {p2 : ℕ} {p3 : ℕ} (hp1 : z.KeepsShape p1) : z.KeepsShape (Chip.accrue p1 p2 p3) := by
  unfold Chip.accrue
  exact .ite (Chip.accrueOne_shape (Chip.accrueOne_shape hp1)) (Chip.accrueOne_shape hp1)

theorem Chip.bump_shape {z : Chip} {p1 : Chip} {p2 : Field} {p3 : ℕ} (hp1 : z.KeepsShape p1) : z.KeepsShape (Chip.bump p1 p2 p3) := by
  unfold Chip.bump
  exact Chip.set_shape hp1

theorem Chip.note_shape {z : Chip} {p1 : Chip} {p2 : ℕ} {p3 : ℕ} {p4 : ℕ} (hp1 : z.KeepsShape p1) : z.KeepsShape (Chip.note p1 p2 p3 p4) := by
  unfold Chip.note
  exact Chip.record_shape hp1

theorem Chip.modPorch_shape {z : Chip} {p1 : Chip} {p2 : PorchS → PorchS} (hp1 : z.KeepsShape p1) : z.KeepsShape (Chip.modPorch p1 p2) := by
  unfold Chip.modPorch
  exact (hp1.step rfl)

theorem Chip.modPort_shape {z : Chip} {p1 : Chip} {p2 : ℕ} {p3 : PortS → PortS} (hp1 : z.KeepsShape p1) : z.KeepsShape (Chip.modPort p1 p2 p3) := by
  unfold Chip.modPort
  exact Chip.modPorch_shape hp1

theorem Chip.showBackoff_shape {z : Chip} {p1 : Chip} {p2 : ℕ} (hp1 : z.KeepsShape p1) : z.KeepsShape (Chip.showBackoff p1 p2) := by
  unfold Chip.showBackoff
  exact Chip.put_shape hp1

theorem Chip.modCan_shape {z : Chip} {p1 : Chip} {p2 : ℕ} {p3 : CanS → CanS} (hp1 : z.KeepsShape p1) : z.KeepsShape (Chip.modCan p1 p2 p3) := by
  unfold Chip.modCan
  exact (hp1.step (by simp [Chip.lens, updNth_length]))

theorem Chip.recPut_shape {z : Chip} {p1 : Chip} {p2 : ℕ} {p3 : ℕ} {p4 : ℕ} {p5 : ℕ} (hp1 : z.KeepsShape p1) : z.KeepsShape (Chip.recPut p1 p2 p3 p4 p5) := by
  unfold Chip.recPut
  exact Chip.modCan_shape hp1

theorem Chip.porchLoad_shape {z : Chip} {p1 : Chip} {p2 : ℕ} (hp1 : z.KeepsShape p1) : z.KeepsShape (Chip.porchLoad p1 p2) := by
  unfold Chip.porchLoad
  extract_lets +onlyGivenNames x1
  have hx1 : ∀ w2, z.KeepsShape w2 → ∀ w3, ∀ w4, z.KeepsShape (x1 w2 w3 w4) := by
    intro w2 hw2 w3 w4
    unfold x1
    extract_lets +onlyGivenNames x5
    clear_value x5
    extract_lets +onlyGivenNames x6
    clear_value x6
    extract_lets +onlyGivenNames x7
    have hx7 : z.KeepsShape x7 := Chip.recPut_shape (Chip.recPut_shape hw2)
    clear_value x7
    extract_lets +onlyGivenNames x8
    have hx8 : z.KeepsShape x8 := Chip.recPut_shape (Chip.recPut_shape hx7)
    clear_value x8
    exact Chip.sets_shape hx8
  clear_value x1
  refine .ite hp1 ?_
  extract_lets +onlyGivenNames x9
  have hx9 : z.KeepsShape x9 := by
    unfold x9
    split
    · exact .ite hp1 (Chip.modPort_shape (hx1 _ hp1 _ _))
    · exact hp1
  clear_value x9
  split
  · exact .ite hx9 (Chip.modPort_shape (hx1 _ hx9 _ _))
  · exact hx9

theorem Chip.porchSend_shape {z : Chip} {p1 : Chip} {p2 : ℕ} {p3 : OutFrame} (hp1 : z.KeepsShape p1) : z.KeepsShape (Chip.porchSend p1 p2 p3) := by
  unfold Chip.porchSend
  extract_lets +onlyGivenNames x1
  have hx1 : z.KeepsShape x1 := by
    unfold x1
    split <;> exact Chip.modPort_shape hp1
  clear_value x1
  exact Chip.porchLoad_shape hx1

theorem Chip.claimSend_shape {z : Chip} {p1 : Chip} {p2 : ℕ} (hp1 : z.KeepsShape p1) : z.KeepsShape (Chip.claimSend p1 p2) := by
  unfold Chip.claimSend
  exact Chip.porchSend_shape (Chip.modPort_shape hp1)

theorem Chip.cannotSend_shape {z : Chip} {p1 : Chip} {p2 : ℕ} (hp1 : z.KeepsShape p1) : z.KeepsShape (Chip.cannotSend p1 p2) := by
  unfold Chip.cannotSend
  exact Chip.porchSend_shape hp1

theorem Chip.modSes_shape {z : Chip} {p1 : Chip} {p2 : ℕ} {p3 : SesS → SesS} (hp1 : z.KeepsShape p1) : z.KeepsShape (Chip.modSes p1 p2 p3) := by
  unfold Chip.modSes
  exact Chip.modPorch_shape hp1

theorem Chip.flagPut_shape {z : Chip} {p1 : Chip} {p2 : ℕ} {p3 : ℕ} (hp1 : z.KeepsShape p1) : z.KeepsShape (Chip.flagPut p1 p2 p3) := by
  unfold Chip.flagPut
  refine .ite hp1 ?_
  extract_lets +onlyGivenNames x1
  have hx1 : z.KeepsShape x1 := Chip.setByte_shape hp1
  clear_value x1
  exact Chip.setByte_shape hx1

theorem Chip.sesEnd_shape {z : Chip} {p1 : Chip} {p2 : ℕ} {p3 : ℕ} {p4 : ℕ} (hp1 : z.KeepsShape p1) : z.KeepsShape (Chip.sesEnd p1 p2 p3 p4) := by
  unfold Chip.sesEnd
  extract_lets +onlyGivenNames x1
  have hx1 : z.KeepsShape x1 := .ite (.each hp1 (fun a2 t3 ht3 => Chip.flagPut_shape ht3)) hp1
  clear_value x1
  extract_lets +onlyGivenNames x4
  have hx4 : z.KeepsShape x4 := Chip.modPort_shape (Chip.modSes_shape hx1)
  clear_value x4
  extract_lets +onlyGivenNames x5
  have hx5 : z.KeepsShape x5 := Chip.sets_shape hx4
  clear_value x5
  exact .ite (Chip.note_shape hx5) hx5

theorem Chip.sesData_shape {z : Chip} {p1 : Chip} {p2 : ℕ} (hp1 : z.KeepsShape p1) : z.KeepsShape (Chip.sesData p1 p2) := by
  unfold Chip.sesData
  extract_lets +onlyGivenNames x1
  extract_lets +onlyGivenNames x2
  clear_value x2
  extract_lets +onlyGivenNames x3
  clear_value x3
  extract_lets +onlyGivenNames x4
  clear_value x4
  extract_lets +onlyGivenNames x5
  extract_lets +onlyGivenNames x6
  clear_value x6
  extract_lets +onlyGivenNames x7
  have hx7 : z.KeepsShape x7 := Chip.modSes_shape hp1
  clear_value x7
  exact Chip.porchSend_shape hx7

theorem Chip.sesSent_shape {z : Chip} {p1 : Chip} {p2 : ℕ} {p3 : ℕ} (hp1 : z.KeepsShape p1) : z.KeepsShape (Chip.sesSent p1 p2 p3) := by
  unfold Chip.sesSent
  refine .ite hp1 ?_
  extract_lets +onlyGivenNames x1
  split
  · exact Chip.modSes_shape hp1
  · exact Chip.modSes_shape hp1
  · exact .ite (.ite (Chip.sesEnd_shape hp1) (Chip.modSes_shape hp1)) (.ite (Chip.sesData_shape hp1) (Chip.modSes_shape hp1))
  · exact Chip.modSes_shape hp1
  · exact Chip.sesData_shape hp1

theorem Chip.porchTxEnd_shape {z : Chip} {p1 : Chip} {p2 : ℕ} {p3 : OutKind} {p4 : ℕ} (hp1 : z.KeepsShape p1) : z.KeepsShape (Chip.porchTxEnd p1 p2 p3 p4) := by
  unfold Chip.porchTxEnd
  extract_lets +onlyGivenNames x1
  split
  · exact .ite (Chip.modPort_shape hp1) (.ite (Chip.claimSend_shape hp1) hp1)
  · exact .ite (Chip.cannotSend_shape hp1) hp1
  · exact .ite hp1 (.ite (Chip.sesSent_shape hp1) (.ite (Chip.sesEnd_shape hp1) (Chip.modSes_shape hp1)))
  · exact hp1

theorem Chip.bufEnd_shape {z : Chip} {p1 : Chip} {p2 : ℕ} {p3 : ℕ} {p4 : ℕ} (hp1 : z.KeepsShape p1) : z.KeepsShape (Chip.bufEnd p1 p2 p3 p4) := by
  unfold Chip.bufEnd
  extract_lets +onlyGivenNames x1
  have hx1 : z.KeepsShape x1 := Chip.sets_shape hp1
  clear_value x1
  extract_lets +onlyGivenNames x2
  clear_value x2
  extract_lets +onlyGivenNames x3
  have hx3 : z.KeepsShape x3 := Chip.setBitOf_shape hx1
  clear_value x3
  extract_lets +onlyGivenNames x4
  have hx4 : z.KeepsShape x4 := .ite (Chip.setBitOf_shape hx1) (.ite (Chip.note_shape hx3) hx3)
  clear_value x4
  refine .ite ?_ hx4
  extract_lets +onlyGivenNames x5
  clear_value x5
  extract_lets +onlyGivenNames x6
  have hx6 : z.KeepsShape x6 := Chip.modPort_shape hx4
  clear_value x6
  split
  · exact Chip.porchLoad_shape (Chip.porchTxEnd_shape hx6)
  · exact Chip.porchLoad_shape hx6

theorem Chip.ackError_shape {z : Chip} {p1 : Chip} {p2 : ℕ} (hp1 : z.KeepsShape p1) : z.KeepsShape (Chip.ackError p1 p2) := by
  unfold Chip.ackError
  extract_lets +onlyGivenNames x1
  have hx1 : z.KeepsShape x1 := Chip.bump_shape hp1
  clear_value x1
  extract_lets +onlyGivenNames x2
  clear_value x2
  extract_lets +onlyGivenNames x3
  clear_value x3
  refine .ite ?_ hx1
  extract_lets +onlyGivenNames x4
  have hx4 : z.KeepsShape x4 := Chip.note_shape (Chip.sets_shape hx1)
  clear_value x4
  extract_lets +onlyGivenNames x5
  have hx5 : z.KeepsShape x5 := Chip.modPort_shape (Chip.showBackoff_shape hx4)
  clear_value x5
  exact .ite (Chip.bufEnd_shape (Chip.modCan_shape hx5)) hx5

theorem Chip.modCl_shape {z : Chip} {p1 : Chip} {p2 : ℕ} {p3 : ClusterS → ClusterS} (hp1 : z.KeepsShape p1) : z.KeepsShape (Chip.modCl p1 p2 p3) := by
  unfold Chip.modCl
  exact (hp1.step (by simp [Chip.lens, updNth_length]))

theorem Chip.unrecord_shape {z : Chip} {p1 : Chip} {p2 : LogEntry → Bool} (hp1 : z.KeepsShape p1) :
    z.KeepsShape (Chip.unrecord p1 p2) := by
  unfold Chip.unrecord
  split
  · exact hp1
  · exact hp1.step rfl

theorem Chip.unrefuse_shape {z : Chip} {p1 : Chip} {p2 : ℕ} (hp1 : z.KeepsShape p1) : z.KeepsShape (Chip.unrefuse p1 p2) := by
  unfold Chip.unrefuse
  split
  · exact hp1
  · rename_i y3 q4
    extract_lets +onlyGivenNames x5
    have hx5 : z.KeepsShape x5 := Chip.put_shape (Chip.modCl_shape hp1)
    clear_value x5
    exact Chip.unrecord_shape hx5

theorem Chip.setStanding_shape {z : Chip} {p1 : Chip} {p2 : ℕ} {p3 : Bool} (hp1 : z.KeepsShape p1) : z.KeepsShape (Chip.setStanding p1 p2 p3) := by
  unfold Chip.setStanding
  extract_lets +onlyGivenNames x1
  have hx1 : z.KeepsShape x1 := Chip.modCl_shape hp1
  clear_value x1
  exact Chip.put_shape hx1

theorem Chip.openGate_shape {z : Chip} {p1 : Chip} {p2 : ℕ} (hp1 : z.KeepsShape p1) : z.KeepsShape (Chip.openGate p1 p2) := by
  unfold Chip.openGate
  refine .ite hp1 ?_
  extract_lets +onlyGivenNames x1
  have hx1 : z.KeepsShape x1 := Chip.put_shape hp1
  clear_value x1
  exact (hx1.step rfl)

theorem Chip.openGates_shape {z : Chip} {p1 : Chip} {p2 : ℕ} (hp1 : z.KeepsShape p1) : z.KeepsShape (Chip.openGates p1 p2) := by
  unfold Chip.openGates
  exact .each (Chip.openGate_shape hp1) (fun a1 t2 ht2 => Chip.openGate_shape ht2)

theorem Chip.resumeCarrier_shape {z : Chip} {p1 : Chip} {p2 : ℕ} (hp1 : z.KeepsShape p1) : z.KeepsShape (Chip.resumeCarrier p1 p2) := by
  unfold Chip.resumeCarrier
  exact .ite (Chip.modSlice_shape hp1) (Chip.modSlice_shape hp1)

theorem Chip.showOutputs_shape {z : Chip} {p1 : Chip} {p2 : ℕ} (hp1 : z.KeepsShape p1) : z.KeepsShape (Chip.showOutputs p1 p2) := by
  unfold Chip.showOutputs
  extract_lets +onlyGivenNames x1
  clear_value x1
  extract_lets +onlyGivenNames x2
  clear_value x2
  extract_lets +onlyGivenNames x3
  clear_value x3
  extract_lets +onlyGivenNames x4
  have hx4 : z.KeepsShape x4 := .ite hp1 (Chip.modSlice_shape hp1)
  clear_value x4
  extract_lets +onlyGivenNames x5
  have hx5 : z.KeepsShape x5 := .ite hx4 (Chip.modSlice_shape hx4)
  clear_value x5
  exact Chip.put_shape (Chip.put_shape hx5)

theorem Chip.outputs_shape {z : Chip} {p1 : Chip} {p2 : ℕ} (hp1 : z.KeepsShape p1) : z.KeepsShape (Chip.outputs p1 p2) := by
  unfold Chip.outputs
  refine .ite ?_ (Chip.showOutputs_shape hp1)
  extract_lets +onlyGivenNames x1
  clear_value x1
  extract_lets +onlyGivenNames x2
  have hx2 : z.KeepsShape x2 := Chip.showOutputs_shape (Chip.showOutputs_shape hp1)
  clear_value x2
  exact Chip.set_shape hx2

theorem Chip.restartOutputs_shape {z : Chip} {p1 : Chip} {p2 : ℕ} {p3 : ℕ} (hp1 : z.KeepsShape p1) : z.KeepsShape (Chip.restartOutputs p1 p2 p3) := by
  unfold Chip.restartOutputs
  extract_lets +onlyGivenNames x1
  clear_value x1
  extract_lets +onlyGivenNames x2
  have hx2 : z.KeepsShape x2 := Chip.accrue_shape hp1
  clear_value x2
  extract_lets +onlyGivenNames x3
  extract_lets +onlyGivenNames x4
  clear_value x4
  extract_lets +onlyGivenNames x5
  clear_value x5
  extract_lets +onlyGivenNames x6
  clear_value x6
  extract_lets +onlyGivenNames x7
  have hx7 : z.KeepsShape x7 := Chip.modSlice_shape hx2
  clear_value x7
  exact Chip.outputs_shape hx7

theorem Chip.fallH_shape {z : Chip} {p1 : Chip} {p2 : ℕ} {p3 : Bool} (hp1 : z.KeepsShape p1) : z.KeepsShape (Chip.fallH p1 p2 p3) := by
  unfold Chip.fallH
  extract_lets +onlyGivenNames x1
  exact .ite (Chip.put_shape (Chip.modSlice_shape hp1)) (Chip.modSlice_shape hp1)

theorem Chip.fallL_shape {z : Chip} {p1 : Chip} {p2 : ℕ} {p3 : Bool} (hp1 : z.KeepsShape p1) : z.KeepsShape (Chip.fallL p1 p2 p3) := by
  unfold Chip.fallL
  extract_lets +onlyGivenNames x1
  exact .ite hp1 (.ite (Chip.put_shape (Chip.modSlice_shape hp1)) (Chip.modSlice_shape hp1))

theorem Chip.riseL_shape {z : Chip} {p1 : Chip} {p2 : ℕ} {p3 : ℕ} (hp1 : z.KeepsShape p1) : z.KeepsShape (Chip.riseL p1 p2 p3) := by
  unfold Chip.riseL
  exact .ite (Chip.modSlice_shape hp1) (Chip.modSlice_shape hp1)

theorem Chip.riseH_shape {z : Chip} {p1 : Chip} {p2 : ℕ} {p3 : ℕ} (hp1 : z.KeepsShape p1) : z.KeepsShape (Chip.riseH p1 p2 p3) := by
  unfold Chip.riseH
  exact .ite (Chip.modSlice_shape hp1) (Chip.modSlice_shape hp1)

theorem Chip.dropGates_shape {z : Chip} {p1 : Chip} {p2 : ℕ} (hp1 : z.KeepsShape p1) : z.KeepsShape (Chip.dropGates p1 p2) := by
  unfold Chip.dropGates
  refine .ite ?_ hp1
  extract_lets +onlyGivenNames x1
  clear_value x1
  extract_lets +onlyGivenNames x2
  have hx2 : z.KeepsShape x2 := .ite hp1 (Chip.modSlice_shape hp1)
  clear_value x2
  exact .ite hx2 (Chip.modSlice_shape hx2)

theorem Chip.setGate_shape {z : Chip} {p1 : Chip} {p2 : ℕ} {p3 : Bool} (hp1 : z.KeepsShape p1) : z.KeepsShape (Chip.setGate p1 p2 p3) := by
  unfold Chip.setGate
  refine .ite hp1 ?_
  extract_lets +onlyGivenNames x1
  have hx1 : z.KeepsShape x1 := Chip.put_shape (Chip.accrue_shape hp1)
  clear_value x1
  refine .ite (Chip.restartOutputs_shape hx1) ?_
  extract_lets +onlyGivenNames x2
  clear_value x2
  extract_lets +onlyGivenNames x3
  clear_value x3
  extract_lets +onlyGivenNames x4
  have hx4 : z.KeepsShape x4 := .ite (Chip.fallH_shape hx1) hx1
  clear_value x4
  extract_lets +onlyGivenNames x5
  have hx5 : z.KeepsShape x5 := .ite (Chip.fallL_shape hx4) hx4
  clear_value x5
  extract_lets +onlyGivenNames x6
  clear_value x6
  extract_lets +onlyGivenNames x7
  have hx7 : z.KeepsShape x7 := .ite (Chip.riseL_shape hx5) hx5
  clear_value x7
  extract_lets +onlyGivenNames x8
  have hx8 : z.KeepsShape x8 := .ite (Chip.riseH_shape hx7) hx7
  clear_value x8
  exact Chip.outputs_shape (Chip.dropGates_shape (Chip.modSlice_shape hx8))

theorem Chip.setOvr_shape {z : Chip} {p1 : Chip} {p2 : ℕ} {p3 : ℕ} (hp1 : z.KeepsShape p1) : z.KeepsShape (Chip.setOvr p1 p2 p3) := by
  unfold Chip.setOvr
  refine .ite hp1 ?_
  extract_lets +onlyGivenNames x1
  have hx1 : z.KeepsShape x1 := Chip.accrue_shape hp1
  clear_value x1
  extract_lets +onlyGivenNames x2
  clear_value x2
  extract_lets +onlyGivenNames x3
  clear_value x3
  extract_lets +onlyGivenNames x4
  have hx4 : z.KeepsShape x4 := Chip.modSlice_shape hx1
  clear_value x4
  exact Chip.outputs_shape (Chip.set_shape hx4)

theorem Chip.setOvrs_shape {z : Chip} {p1 : Chip} {p2 : List ℕ} {p3 : ℕ} (hp1 : z.KeepsShape p1) : z.KeepsShape (Chip.setOvrs p1 p2 p3) := by
  unfold Chip.setOvrs
  exact .each hp1 (fun a1 t2 ht2 => Chip.setOvr_shape ht2)

theorem Chip.putSelOne_shape {z : Chip} {p1 : Chip} {p2 : ℕ} {p3 : ℕ} (hp1 : z.KeepsShape p1) : z.KeepsShape (Chip.putSelOne p1 p2 p3) := by
  unfold Chip.putSelOne
  extract_lets +onlyGivenNames x1
  have hx1 : z.KeepsShape x1 := .ite hp1 (Chip.modCl_shape hp1)
  clear_value x1
  extract_lets +onlyGivenNames x2
  have hx2 : z.KeepsShape x2 := Chip.set_shape (Chip.set_shape hx1)
  clear_value x2
  exact Chip.setOvrs_shape hx2

theorem Chip.followSel_shape {z : Chip} {p1 : Chip} (hp1 : z.KeepsShape p1) : z.KeepsShape (Chip.followSel p1) := by
  unfold Chip.followSel
  extract_lets +onlyGivenNames x1
  clear_value x1
  extract_lets +onlyGivenNames x2
  clear_value x2
  exact .ite hp1 (Chip.putSelOne_shape hp1)

theorem Chip.putSel_shape {z : Chip} {p1 : Chip} {p2 : ℕ} {p3 : ℕ} (hp1 : z.KeepsShape p1) : z.KeepsShape (Chip.putSel p1 p2 p3) := by
  unfold Chip.putSel
  exact Chip.followSel_shape (Chip.putSelOne_shape hp1)

theorem Chip.noteCl_shape {z : Chip} {p1 : Chip} {p2 : ℕ} {p3 : ℕ} {p4 : ℕ} (hp1 : z.KeepsShape p1) : z.KeepsShape (Chip.noteCl p1 p2 p3 p4) := by
  unfold Chip.noteCl
  exact Chip.record_shape hp1

theorem Chip.selectBy_shape {z : Chip} {p1 : Chip} {p2 : ℕ} {p3 : ℕ} {p4 : Bool} {p5 : Bool} (hp1 : z.KeepsShape p1) : z.KeepsShape (Chip.selectBy p1 p2 p3 p4 p5) := by
  unfold Chip.selectBy
  extract_lets +onlyGivenNames x1
  clear_value x1
  extract_lets +onlyGivenNames x2
  have hx2 : z.KeepsShape x2 := .ite (Chip.noteCl_shape (Chip.modCl_shape hp1)) hp1
  clear_value x2
  refine .ite (Chip.putSel_shape hx2) ?_
  refine .ite ?_ (.ite (Chip.putSel_shape hx2) (Chip.putSel_shape hx2))
  extract_lets +onlyGivenNames x3
  clear_value x3
  refine .ite (Chip.putSel_shape hx2) ?_
  extract_lets +onlyGivenNames x4
  have hx4 : z.KeepsShape x4 := .ite hx2 (Chip.noteCl_shape (Chip.put_shape (Chip.modCl_shape hx2)))
  clear_value x4
  exact Chip.putSel_shape hx4

theorem Chip.evalRule_shape {z : Chip} {p1 : Chip} {p2 : ℕ} (hp1 : z.KeepsShape p1) : z.KeepsShape (Chip.evalRule p1 p2) := by
  unfold Chip.evalRule
  split
  · rename_i y1 y2 q3
    extract_lets +onlyGivenNames x4
    clear_value x4
    extract_lets +onlyGivenNames x5
    have hx5 : z.KeepsShape x5 := Chip.set_shape (Chip.set_shape hp1)
    clear_value x5
    extract_lets +onlyGivenNames x6
    have hx6 : z.KeepsShape x6 := .ite (Chip.set_shape hx5) hx5
    clear_value x6
    refine .ite (Chip.followSel_shape hx6) ?_
    refine .ite (.ite (Chip.putSel_shape hx6) hx6) ?_
    extract_lets +onlyGivenNames x7
    clear_value x7
    extract_lets +onlyGivenNames x8
    clear_value x8
    extract_lets +onlyGivenNames x9
    have hx9 : z.KeepsShape x9 := .ite (Chip.put_shape hx6) hx6
    clear_value x9
    exact .ite hx9 (.ite (Chip.putSel_shape hx9) (.ite (Chip.putSel_shape hx9) (Chip.selectBy_shape hx9)))

theorem Chip.refreshHold_shape {z : Chip} {p1 : Chip} {p2 : ℕ} (hp1 : z.KeepsShape p1) : z.KeepsShape (Chip.refreshHold p1 p2) := by
  unfold Chip.refreshHold
  refine .ite (Chip.followSel_shape hp1) ?_
  refine .ite (.ite (Chip.evalRule_shape hp1) hp1) ?_
  refine .ite hp1 ?_
  extract_lets +onlyGivenNames x1
  have hx1 : z.KeepsShape x1 := Chip.modCl_shape hp1
  clear_value x1
  extract_lets +onlyGivenNames x2
  clear_value x2
  extract_lets +onlyGivenNames x3
  have hx3 : z.KeepsShape x3 := Chip.set_shape (Chip.set_shape hx1)
  clear_value x3
  exact Chip.followSel_shape (Chip.setOvrs_shape hx3)

theorem Chip.ctrMove_shape {z : Chip} {p1 : Chip} {p2 : Bool} {p3 : Bool} (hp1 : z.KeepsShape p1) : z.KeepsShape (Chip.ctrMove p1 p2 p3) := by
  unfold Chip.ctrMove
  extract_lets x1 _ x2
  have hx1 : z.KeepsShape x1 := Chip.sets_shape hp1
  have hx2 : z.KeepsShape x2 := .ite (hx1.step rfl) (hx1.step rfl)
  exact Chip.put_shape hx2

theorem Chip.applyContactors_shape {z : Chip} {p1 : Chip} {p2 : Bool} (hp1 : z.KeepsShape p1) : z.KeepsShape (Chip.applyContactors p1 p2) := by
  unfold Chip.applyContactors
  extract_lets +onlyGivenNames x1
  clear_value x1
  extract_lets +onlyGivenNames x2
  clear_value x2
  extract_lets +onlyGivenNames x3
  have hx3 : ∀ w4, ∀ w5, ∀ w6, ∀ w7, z.KeepsShape w7 → z.KeepsShape (x3 w4 w5 w6 w7) := fun w4 w5 w6 w7 hw7 => .ite (Chip.ctrMove_shape hw7) (.ite (Chip.ctrMove_shape hw7) hw7)
  clear_value x3
  extract_lets +onlyGivenNames x8
  have hx8 : z.KeepsShape x8 := hx3 _ _ _ _ hp1
  clear_value x8
  extract_lets +onlyGivenNames x9
  have hx9 : z.KeepsShape x9 := hx3 _ _ _ _ hx8
  clear_value x9
  exact Chip.put_shape hx9

theorem Chip.enter_shape {z : Chip} {p1 : Chip} {p2 : ℕ} {p3 : ℕ} (hp1 : z.KeepsShape p1) : z.KeepsShape (Chip.enter p1 p2 p3) := by
  unfold Chip.enter
  extract_lets +onlyGivenNames x1
  clear_value x1
  refine .ite hp1 ?_
  extract_lets +onlyGivenNames x2
  have hx2 : z.KeepsShape x2 := Chip.sets_shape hp1
  clear_value x2
  extract_lets +onlyGivenNames x3
  have hx3 : z.KeepsShape x3 := Chip.modCl_shape hx2
  clear_value x3
  extract_lets +onlyGivenNames x4
  have hx4 : z.KeepsShape x4 := Chip.put_shape hx3
  clear_value x4
  extract_lets +onlyGivenNames x5
  have hx5 : z.KeepsShape x5 := .ite (Chip.openGates_shape (.each hx4 (fun a6 t7 ht7 => Chip.resumeCarrier_shape ht7))) hx4
  clear_value x5
  extract_lets +onlyGivenNames x8
  have hx8 : z.KeepsShape x8 := .ite (.each (Chip.modCl_shape hx5) (fun a9 t10 ht10 => Chip.modSlice_shape ht10)) hx5
  clear_value x8
  extract_lets +onlyGivenNames x11
  have hx11 : z.KeepsShape x11 := .ite hx8 (.each (Chip.sets_shape hx8) (fun a12 t13 ht13 => Chip.setGate_shape ht13))
  clear_value x11
  extract_lets +onlyGivenNames x14
  have hx14 : z.KeepsShape x14 := .ite (Chip.set_shape hx11) hx11
  clear_value x14
  extract_lets +onlyGivenNames x15
  have hx15 : z.KeepsShape x15 := Chip.put_shape hx14
  clear_value x15
  extract_lets +onlyGivenNames x16
  have hx16 : z.KeepsShape x16 := Chip.modCl_shape hx15
  clear_value x16
  extract_lets +onlyGivenNames x17
  have hx17 : z.KeepsShape x17 := Chip.put_shape hx16
  clear_value x17
  extract_lets +onlyGivenNames x18
  have hx18 : z.KeepsShape x18 := .ite (.ite (Chip.setOvrs_shape (Chip.set_shape hx17)) hx17) hx14
  clear_value x18
  extract_lets +onlyGivenNames x19
  have hx19 : z.KeepsShape x19 := .ite (.each hx18 (fun a20 t21 ht21 => Chip.abortLeak_shape ht21)) hx18
  clear_value x19
  extract_lets +onlyGivenNames x22
  have hx22 : z.KeepsShape x22 := Chip.refreshHold_shape hx19
  clear_value x22
  exact Chip.applyContactors_shape hx22

theorem Chip.demandBegins_shape {z : Chip} {p1 : Chip} {p2 : ℕ} (hp1 : z.KeepsShape p1) : z.KeepsShape (Chip.demandBegins p1 p2) := by
  unfold Chip.demandBegins
  exact .ite (Chip.evalRule_shape hp1) hp1

theorem Chip.stand_shape {z : Chip} {p1 : Chip} {p2 : ℕ} {p3 : ℕ} {p4 : ℕ} {p5 : Bool} (hp1 : z.KeepsShape p1) : z.KeepsShape (Chip.stand p1 p2 p3 p4 p5) := by
  unfold Chip.stand
  extract_lets +onlyGivenNames x1
  have hx1 : z.KeepsShape x1 := Chip.modCl_shape (.ite hp1 (Chip.unrefuse_shape hp1))
  clear_value x1
  extract_lets +onlyGivenNames x2
  clear_value x2
  extract_lets +onlyGivenNames x3
  have hx3 : z.KeepsShape x3 := Chip.modCl_shape hx1
  clear_value x3
  extract_lets +onlyGivenNames x4
  have hx4 : z.KeepsShape x4 := Chip.put_shape (.ite (Chip.setStanding_shape hx3) hx3)
  clear_value x4
  extract_lets +onlyGivenNames x5
  have hx5 : z.KeepsShape x5 := .ite hx4 (Chip.enter_shape hx4)
  clear_value x5
  exact .ite (Chip.refreshHold_shape hx5) (Chip.demandBegins_shape hx5)

theorem Chip.fall_shape {z : Chip} {p1 : Chip} {p2 : ℕ} {p3 : ℕ} {p4 : ℕ} {p5 : ℕ} (hp1 : z.KeepsShape p1) : z.KeepsShape (Chip.fall p1 p2 p3 p4 p5) := by
  unfold Chip.fall
  extract_lets +onlyGivenNames x1
  have hx1 : z.KeepsShape x1 := by
    unfold x1
    refine .ite ?_ hp1
    split
    · exact Chip.set_shape hp1
    · exact hp1
  clear_value x1
  exact Chip.stand_shape hx1

theorem Chip.faultCl_shape {z : Chip} {p1 : Chip} {p2 : ℕ} {p3 : ℕ} {p4 : ℕ} {p5 : ℕ} {p6 : ℕ} (hp1 : z.KeepsShape p1) : z.KeepsShape (Chip.faultCl p1 p2 p3 p4 p5 p6) := by
  unfold Chip.faultCl
  exact Chip.fall_shape (Chip.record_shape hp1)

theorem Chip.pcSto_shape {z : Chip} {p1 : Chip} {p2 : ℕ} {p3 : ℕ} {p4 : ℕ} (hp1 : z.KeepsShape p1) : z.KeepsShape (Chip.pcSto p1 p2 p3 p4) := by
  unfold Chip.pcSto
  extract_lets +onlyGivenNames x1
  have hx1 : z.KeepsShape x1 := Chip.put_shape (Chip.put_shape hp1)
  clear_value x1
  exact Chip.faultCl_shape (Chip.put_shape hx1)

theorem Chip.count_shape {z : Chip} {p1 : Chip} {p2 : Field} (hp1 : z.KeepsShape p1) : z.KeepsShape (Chip.count p1 p2) := by
  unfold Chip.count
  exact Chip.set_shape hp1

theorem Chip.ackJudge_shape {z : Chip} {p1 : Chip} {p2 : ℕ} (hp1 : z.KeepsShape p1) : z.KeepsShape (Chip.ackJudge p1 p2) := by
  unfold Chip.ackJudge
  extract_lets +onlyGivenNames x1
  clear_value x1
  extract_lets +onlyGivenNames x2
  clear_value x2
  extract_lets +onlyGivenNames x3
  have hx3 : z.KeepsShape x3 := Chip.modCl_shape hp1
  clear_value x3
  extract_lets +onlyGivenNames x4
  have hx4 : z.KeepsShape x4 := .ite (Chip.pcSto_shape hx3) hx3
  clear_value x4
  exact Chip.count_shape hx4

theorem Chip.ackSend_shape {z : Chip} {p1 : Chip} {p2 : ℕ} {p3 : ℕ} {p4 : ℕ} {p5 : ℕ} (hp1 : z.KeepsShape p1) : z.KeepsShape (Chip.ackSend p1 p2 p3 p4 p5) := by
  unfold Chip.ackSend
  exact Chip.porchSend_shape hp1

theorem Chip.modRing_shape {z : Chip} {p1 : Chip} {p2 : RingS → RingS} (hp1 : z.KeepsShape p1) : z.KeepsShape (Chip.modRing p1 p2) := by
  unfold Chip.modRing
  exact (hp1.step rfl)

theorem Chip.modMsg_shape {z : Chip} {p1 : Chip} {p2 : ℕ} {p3 : MsgS → MsgS} (hp1 : z.KeepsShape p1) : z.KeepsShape (Chip.modMsg p1 p2 p3) := by
  unfold Chip.modMsg
  exact Chip.modRing_shape hp1

theorem Chip.msgEnd_shape {z : Chip} {p1 : Chip} {p2 : ℕ} {p3 : ℕ} (hp1 : z.KeepsShape p1) : z.KeepsShape (Chip.msgEnd p1 p2 p3) := by
  unfold Chip.msgEnd
  extract_lets +onlyGivenNames x1
  have hx1 : z.KeepsShape x1 := Chip.sets_shape (Chip.modMsg_shape hp1)
  clear_value x1
  exact .ite (Chip.put_shape hx1) (Chip.note_shape (Chip.put_shape hx1))

theorem Chip.msgStore_shape {z : Chip} {p1 : Chip} {p2 : AcyclicFrame} (hp1 : z.KeepsShape p1) : z.KeepsShape (Chip.msgStore p1 p2).1 := by
  unfold Chip.msgStore
  extract_lets +onlyGivenNames x1
  clear_value x1
  refine .iteP (.fst hp1) ?_
  refine .iteP (.fst hp1) ?_
  split
  · exact .fst hp1
  · rename_i y4 q5
    extract_lets +onlyGivenNames x6
    have hx6 : z.KeepsShape x6 := Chip.setBytes_shape hp1
    clear_value x6
    extract_lets +onlyGivenNames x7
    have hx7 : z.KeepsShape x7 := Chip.modRing_shape hx6
    clear_value x7
    exact .fst (Chip.sets_shape hx7)

theorem Chip.msgAnswer_shape {z : Chip} {p1 : Chip} {p2 : AcyclicFrame} {p3 : MsgKind} (hp1 : z.KeepsShape p1) : z.KeepsShape (Chip.msgAnswer p1 p2 p3) := by
  unfold Chip.msgAnswer
  extract_lets +onlyGivenNames x1
  exact Chip.modRing_shape hp1

theorem Chip.msgTry_shape {z : Chip} {p1 : Chip} {p2 : ℕ} {p3 : ℕ} (hp1 : z.KeepsShape p1) : z.KeepsShape (Chip.msgTry p1 p2 p3) := by
  unfold Chip.msgTry
  exact .ite (Chip.msgEnd_shape hp1) (.ite (Chip.msgEnd_shape hp1) (Chip.modMsg_shape hp1))

theorem Chip.acyclicRx_shape {z : Chip} {p1 : Chip} {p2 : Bool} {p3 : AcyclicFrame} {p4 : Bool} (hp1 : z.KeepsShape p1) : z.KeepsShape (Chip.acyclicRx p1 p2 p3 p4) := by
  unfold Chip.acyclicRx
  refine .ite hp1 ?_
  refine .ite (Chip.bump_shape hp1) ?_
  extract_lets +onlyGivenNames x1
  clear_value x1
  extract_lets +onlyGivenNames x2
  clear_value x2
  extract_lets +onlyGivenNames x3
  have hx3 : ∀ w4, z.KeepsShape w4 → z.KeepsShape (x3 w4) := fun w4 hw4 => .ite hw4 (.ite (Chip.bump_shape hw4) (Chip.modRing_shape hw4))
  clear_value x3
  refine .ite (.ite (hx3 _ hp1) (.ite (Chip.msgEnd_shape hp1) hp1)) ?_
  extract_lets +onlyGivenNames x5
  have hx5 : z.KeepsShape x5 := by
    unfold x5
    refine .ite (Chip.msgStore_shape hp1) ?_
    refine .ite hp1 ?_
    split
    · split
      · rename_i y8 y9 q10
        have hy8 : z.KeepsShape y8 := by
          have hh := congrArg Prod.fst q10
          dsimp only at hh
          rw [← hh]
          exact Chip.msgStore_shape hp1
        exact Chip.msgAnswer_shape hy8
    · exact .ite (Chip.msgEnd_shape hp1) hp1
    · exact .ite (Chip.msgTry_shape hp1) hp1
  clear_value x5
  exact hx3 _ hx5

theorem Chip.useFree_shape {z : Chip} {p1 : Chip} (hp1 : z.KeepsShape p1) : z.KeepsShape (Chip.useFree p1) := by
  unfold Chip.useFree
  exact (hp1.step rfl)

theorem Chip.common_shape {z : Chip} {p1 : Chip} {p2 : ℕ} {p3 : ℕ} (hp1 : z.KeepsShape p1) : z.KeepsShape (Chip.common p1 p2 p3) := by
  unfold Chip.common
  extract_lets +onlyGivenNames x1
  exact Chip.record_shape (Chip.useFree_shape hp1)

theorem Chip.refuse_shape {z : Chip} {p1 : Chip} {p2 : ℕ} (hp1 : z.KeepsShape p1) : z.KeepsShape (Chip.refuse p1 p2) := by
  unfold Chip.refuse
  exact Chip.common_shape hp1

theorem Chip.refWrite_shape {z : Chip} {p1 : Chip} {p2 : ℕ} {p3 : Bool} (hp1 : z.KeepsShape p1) : z.KeepsShape (Chip.refWrite p1 p2 p3) := by
  unfold Chip.refWrite
  refine .ite ?_ (Chip.refuse_shape hp1)
  extract_lets +onlyGivenNames x1
  clear_value x1
  extract_lets +onlyGivenNames x2
  have hx2 : z.KeepsShape x2 := Chip.sets_shape hp1
  clear_value x2
  refine .ite hx2 ?_
  extract_lets +onlyGivenNames x3
  have hx3 : z.KeepsShape x3 := Chip.put_shape hx2
  clear_value x3
  exact (hx3.step (by simp only [Chip.lens]))

theorem Chip.hole_shape {z : Chip} {p1 : Chip} {p2 : ℕ} (hp1 : z.KeepsShape p1) : z.KeepsShape (Chip.hole p1 p2) := by
  unfold Chip.hole
  exact Chip.common_shape hp1

theorem Chip.writeField_shape {z : Chip} {p1 : Chip} {p2 : ℕ} {p3 : Bool} {p4 : Field} (hp1 : z.KeepsShape p1) : z.KeepsShape (Chip.writeField p1 p2 p3 p4) := by
  unfold Chip.writeField
  extract_lets +onlyGivenNames x1
  clear_value x1
  split
  · exact Chip.set_shape hp1
  · exact Chip.set_shape hp1
  · exact .ite (Chip.set_shape hp1) hp1
  · exact Chip.assign_shape hp1
  · exact Chip.set_shape hp1
  · exact hp1
  · exact hp1
  · exact hp1
  · exact hp1

theorem Chip.writeFields_shape {z : Chip} {p1 : Chip} {p2 : List Field} {p3 : ℕ} {p4 : Bool} (hp1 : z.KeepsShape p1) : z.KeepsShape (Chip.writeFields p1 p2 p3 p4) := by
  unfold Chip.writeFields
  exact .foldl hp1 (fun t2 a1 ht2 => Chip.writeField_shape ht2)

theorem Chip.genericWrite_shape {z : Chip} {p1 : Chip} {p2 : ℕ} {p3 : ℕ} (hp1 : z.KeepsShape p1) : z.KeepsShape (Chip.genericWrite p1 p2 p3) := by
  unfold Chip.genericWrite
  split
  · exact Chip.hole_shape hp1
  · rename_i y3 q4
    extract_lets +onlyGivenNames x5
    clear_value x5
    extract_lets +onlyGivenNames x6
    have hx6 : z.KeepsShape x6 := Chip.writeFields_shape hp1
    clear_value x6
    exact .ite (Chip.refuse_shape hx6) hx6

theorem Chip.scanEnd_shape {z : Chip} {p1 : Chip} (hp1 : z.KeepsShape p1) : z.KeepsShape (Chip.scanEnd p1) := by
  unfold Chip.scanEnd
  exact .ite (Chip.put_shape (Chip.put_shape hp1)) hp1

theorem Chip.scanSkip_shape {z : Chip} {p1 : ℕ} {p2 : Chip} (hp2 : z.KeepsShape p2) : z.KeepsShape (Chip.scanSkip p1 p2) := by
  induction p1 generalizing p2 with
  | zero => exact hp2
  | succ n ih =>
    unfold Chip.scanSkip
    extract_lets +onlyGivenNames x1
    refine .ite ?_ hp2
    extract_lets +onlyGivenNames x2
    have hx2 : z.KeepsShape x2 := Chip.sets_shape hp2
    clear_value x2
    exact ih (Chip.scanEnd_shape (hx2.step rfl))

theorem Chip.scanStart_shape {z : Chip} {p1 : Chip} (hp1 : z.KeepsShape p1) : z.KeepsShape (Chip.scanStart p1) := by
  unfold Chip.scanStart
  refine .ite hp1 ?_
  refine .ite (Chip.note_shape (Chip.put_shape hp1)) ?_
  extract_lets +onlyGivenNames x1
  have hx1 : z.KeepsShape x1 := Chip.put_shape hp1
  clear_value x1
  exact Chip.scanSkip_shape (hx1.step rfl)

theorem Chip.sarCfgWrite_shape {z : Chip} {p1 : Chip} {p2 : ℕ} {p3 : ℕ} (hp1 : z.KeepsShape p1) : z.KeepsShape (Chip.sarCfgWrite p1 p2 p3) := by
  unfold Chip.sarCfgWrite
  extract_lets +onlyGivenNames x1
  clear_value x1
  extract_lets +onlyGivenNames x2
  have hx2 : z.KeepsShape x2 := Chip.sets_shape hp1
  clear_value x2
  exact .ite (hx2.step rfl) hx2

theorem Chip.sdClkSet_shape {z : Chip} {p1 : Chip} {p2 : ℕ} {p3 : ℕ} (hp1 : z.KeepsShape p1) : z.KeepsShape (Chip.sdClkSet p1 p2 p3) := by
  unfold Chip.sdClkSet
  extract_lets +onlyGivenNames x1
  clear_value x1
  extract_lets +onlyGivenNames x2
  clear_value x2
  extract_lets +onlyGivenNames x3
  have hx3 : z.KeepsShape x3 := Chip.sets_shape hp1
  clear_value x3
  refine .ite ?_ hx3
  extract_lets +onlyGivenNames x4
  have hx4 : z.KeepsShape x4 := Chip.useFree_shape hx3
  clear_value x4
  exact (hx4.step rfl)

theorem Chip.sdClkWrite_shape {z : Chip} {p1 : Chip} {p2 : ℕ} (hp1 : z.KeepsShape p1) : z.KeepsShape (Chip.sdClkWrite p1 p2) := by
  unfold Chip.sdClkWrite
  refine .each hp1 ?_
  intro a1 t2 ht2
  split
  · exact Chip.sdClkSet_shape ht2
  · exact Chip.record_shape (Chip.useFree_shape ht2)

theorem Chip.showSlots_shape {z : Chip} {p1 : Chip} {p2 : ℕ} (hp1 : z.KeepsShape p1) : z.KeepsShape (Chip.showSlots p1 p2) := by
  unfold Chip.showSlots
  extract_lets +onlyGivenNames x1
  extract_lets +onlyGivenNames x2
  extract_lets +onlyGivenNames x3
  exact Chip.sets_shape hp1

theorem Chip.slotWritten_shape {z : Chip} {p1 : Chip} {p2 : ℕ} {p3 : ℕ} (hp1 : z.KeepsShape p1) : z.KeepsShape (Chip.slotWritten p1 p2 p3) := by
  unfold Chip.slotWritten
  extract_lets +onlyGivenNames x1
  have hx1 : z.KeepsShape x1 := Chip.showSlots_shape hp1
  clear_value x1
  extract_lets +onlyGivenNames x2
  clear_value x2
  exact .ite (Chip.noteCl_shape (Chip.put_shape hx1)) hx1

theorem Chip.configField_shape {z : Chip} {p1 : Chip} {p2 : ℕ} {p3 : Field} (hp1 : z.KeepsShape p1) : z.KeepsShape (Chip.configField p1 p2 p3) := by
  unfold Chip.configField
  split
  · exact Chip.set_shape hp1
  · exact Chip.set_shape hp1
  · exact Chip.set_shape hp1
  · exact Chip.set_shape hp1
  · exact Chip.set_shape hp1
  · exact hp1

theorem Chip.configWord_shape {z : Chip} {p1 : Chip} {p2 : ℕ} {p3 : ℕ} (hp1 : z.KeepsShape p1) : z.KeepsShape (Chip.configWord p1 p2 p3) := by
  unfold Chip.configWord
  exact .foldl hp1 (fun t2 a1 ht2 => Chip.configField_shape ht2)

theorem Chip.freezeDone_shape {z : Chip} {p1 : Chip} {p2 : ℕ} (hp1 : z.KeepsShape p1) : z.KeepsShape (Chip.freezeDone p1 p2) := by
  unfold Chip.freezeDone
  exact .ite hp1 (Chip.set_shape hp1)

theorem Chip.cmpFreed_shape {z : Chip} {p1 : Chip} {p2 : Chip} (hp1 : z.KeepsShape p1) (hp2 : z.KeepsShape p2) : z.KeepsShape (Chip.cmpFreed p1 p2) := by
  unfold Chip.cmpFreed
  exact .each hp2 (fun a1 t2 ht2 => .ite (ht2.step rfl) ht2)

theorem Chip.clrBitOf_shape {z : Chip} {p1 : Chip} {p2 : Field} {p3 : ℕ} (hp1 : z.KeepsShape p1) : z.KeepsShape (Chip.clrBitOf p1 p2 p3) := by
  unfold Chip.clrBitOf
  exact Chip.assign_shape hp1

theorem Chip.cmpCfgDone_shape {z : Chip} {p1 : Chip} {p2 : ℕ} (hp1 : z.KeepsShape p1) : z.KeepsShape (Chip.cmpCfgDone p1 p2) := by
  unfold Chip.cmpCfgDone
  extract_lets +onlyGivenNames x1
  have hx1 : z.KeepsShape x1 := .ite hp1 (Chip.clrBitOf_shape hp1)
  clear_value x1
  exact .ite hx1 (Chip.clrBitOf_shape hx1)

theorem Chip.setHeld_shape {z : Chip} {p1 : Chip} {p2 : ℕ} {p3 : ℕ} (hp1 : z.KeepsShape p1) : z.KeepsShape (Chip.setHeld p1 p2 p3) := by
  unfold Chip.setHeld
  extract_lets +onlyGivenNames x1
  have hx1 : z.KeepsShape x1 := Chip.modCl_shape hp1
  clear_value x1
  exact Chip.put_shape hx1

theorem Chip.bcmStart_shape {z : Chip} {p1 : Chip} {p2 : ℕ} (hp1 : z.KeepsShape p1) : z.KeepsShape (Chip.bcmStart p1 p2) := by
  unfold Chip.bcmStart
  split
  · rename_i y1 q2
    refine .ite ?_ (Chip.setHeld_shape hp1)
    extract_lets +onlyGivenNames x3
    have hx3 : z.KeepsShape x3 := Chip.setHeld_shape hp1
    clear_value x3
    exact Chip.modCl_shape (Chip.set_shape (Chip.enter_shape hx3))
  · exact Chip.setHeld_shape hp1

theorem Chip.modCle_shape {z : Chip} {p1 : Chip} {p2 : ℕ} {p3 : CleS → CleS} (hp1 : z.KeepsShape p1) : z.KeepsShape (Chip.modCle p1 p2 p3) := by
  unfold Chip.modCle
  exact (hp1.step (by simp [Chip.lens, updNth_length]))

theorem Chip.feZero_shape {z : Chip} {p1 : Chip} {p2 : ℕ} (hp1 : z.KeepsShape p1) : z.KeepsShape (Chip.feZero p1 p2) := by
  unfold Chip.feZero
  exact Chip.set_shape (Chip.modCle_shape hp1)

theorem Chip.clearLists_shape {z : Chip} {p1 : Chip} {p2 : ℕ} (hp1 : z.KeepsShape p1) : z.KeepsShape (Chip.clearLists p1 p2) := by
  unfold Chip.clearLists
  extract_lets +onlyGivenNames x1
  have hx1 : z.KeepsShape x1 := Chip.modCle_shape hp1
  clear_value x1
  exact .each hx1 (fun a2 t3 ht3 => Chip.set_shape ht3)

theorem Chip.enterCatch_shape {z : Chip} {p1 : Chip} {p2 : ℕ} (hp1 : z.KeepsShape p1) : z.KeepsShape (Chip.enterCatch p1 p2) := by
  unfold Chip.enterCatch
  extract_lets +onlyGivenNames x1
  have hx1 : z.KeepsShape x1 := Chip.enter_shape hp1
  clear_value x1
  extract_lets +onlyGivenNames x2
  have hx2 : z.KeepsShape x2 := Chip.sets_shape hx1
  clear_value x2
  extract_lets +onlyGivenNames x3
  have hx3 : z.KeepsShape x3 := Chip.modCl_shape hx2
  clear_value x3
  exact .each hx3 (fun a4 t5 ht5 => Chip.feZero_shape (Chip.clearLists_shape ht5))

theorem Chip.tryLeaveSafe_shape {z : Chip} {p1 : Chip} {p2 : ℕ} (hp1 : z.KeepsShape p1) : z.KeepsShape (Chip.tryLeaveSafe p1 p2) := by
  unfold Chip.tryLeaveSafe
  extract_lets +onlyGivenNames x1
  refine .ite ?_ hp1
  extract_lets +onlyGivenNames x2
  have hx2 : z.KeepsShape x2 := Chip.enter_shape (Chip.modCl_shape hp1)
  clear_value x2
  refine .ite ?_ hx2
  extract_lets +onlyGivenNames x3
  have hx3 : z.KeepsShape x3 := Chip.setStanding_shape hx2
  clear_value x3
  exact .ite (Chip.bcmStart_shape hx3) (Chip.enterCatch_shape hx3)

theorem Chip.settleHolds_shape {z : Chip} {p1 : Chip} (hp1 : z.KeepsShape p1) : z.KeepsShape (Chip.settleHolds p1) := by
  unfold Chip.settleHolds
  exact .each hp1 (fun a1 t2 ht2 => Chip.tryLeaveSafe_shape (Chip.refreshHold_shape ht2))

theorem Chip.faultAll_shape {z : Chip} {p1 : Chip} {p2 : ℕ} {p3 : ℕ} {p4 : ℕ} {p5 : List ℕ} {p6 : ℕ} (hp1 : z.KeepsShape p1) : z.KeepsShape (Chip.faultAll p1 p2 p3 p4 p5 p6) := by
  unfold Chip.faultAll
  extract_lets +onlyGivenNames x1
  have hx1 : z.KeepsShape x1 := Chip.record_shape hp1
  clear_value x1
  exact .each hx1 (fun a2 t3 ht3 => Chip.fall_shape (Chip.sets_shape ht3))

theorem Chip.faultOn_shape {z : Chip} {p1 : Chip} {p2 : ℕ} {p3 : ℕ} {p4 : ℕ} {p5 : List ℕ} {p6 : ℕ} (hp1 : z.KeepsShape p1) : z.KeepsShape (Chip.faultOn p1 p2 p3 p4 p5 p6) := by
  unfold Chip.faultOn
  split
  · exact Chip.faultCl_shape hp1
  · exact Chip.faultAll_shape hp1

theorem Chip.showOv3_shape {z : Chip} {p1 : Chip} (hp1 : z.KeepsShape p1) : z.KeepsShape (Chip.showOv3 p1) := by
  unfold Chip.showOv3
  exact (hp1.step rfl)

theorem Chip.showVdc_shape {z : Chip} {p1 : Chip} (hp1 : z.KeepsShape p1) : z.KeepsShape (Chip.showVdc p1) := by
  unfold Chip.showVdc
  extract_lets +onlyGivenNames x1
  clear_value x1
  extract_lets +onlyGivenNames x2
  have hx2 : z.KeepsShape x2 := Chip.set_shape hp1
  clear_value x2
  extract_lets +onlyGivenNames x3
  clear_value x3
  extract_lets +onlyGivenNames x4
  have hx4 : z.KeepsShape x4 := Chip.set_shape hx2
  clear_value x4
  extract_lets +onlyGivenNames x5
  have hx5 : z.KeepsShape x5 := .ite (Chip.put_shape hx4) hx4
  clear_value x5
  exact .ite (Chip.put_shape hx5) hx5

theorem Chip.cmpDemand_shape {z : Chip} {p1 : Chip} {p2 : ℕ} {p3 : List ℕ} {p4 : ℕ} (hp1 : z.KeepsShape p1) : z.KeepsShape (Chip.cmpDemand p1 p2 p3 p4) := by
  unfold Chip.cmpDemand
  split
  · exact Chip.faultOn_shape hp1
  · exact Chip.faultOn_shape hp1
  · exact Chip.faultAll_shape (Chip.showOv3_shape (Chip.showVdc_shape (Chip.put_shape hp1)))
  · exact hp1

theorem Chip.cmpDemands_shape {z : Chip} {p1 : Chip} (hp1 : z.KeepsShape p1) : z.KeepsShape (Chip.cmpDemands p1) := by
  unfold Chip.cmpDemands
  refine .each hp1 ?_
  intro a1 t2 ht2
  extract_lets +onlyGivenNames x3
  refine .ite ht2 ?_
  extract_lets +onlyGivenNames x4
  clear_value x4
  exact Chip.cmpDemand_shape ht2

theorem Chip.adcWrite_shape {z : Chip} {p1 : Chip} {p2 : ℕ} {p3 : ℕ} (hp1 : z.KeepsShape p1) : z.KeepsShape (Chip.adcWrite p1 p2 p3) := by
  unfold Chip.adcWrite
  extract_lets +onlyGivenNames x1
  clear_value x1
  refine .ite (Chip.refWrite_shape hp1) ?_
  refine .ite ?_ ?_
  · extract_lets +onlyGivenNames x2
    have hx2 : z.KeepsShape x2 := Chip.genericWrite_shape hp1
    clear_value x2
    exact .ite (Chip.scanStart_shape hx2) hx2
  · refine .ite (.ite (Chip.sarCfgWrite_shape hp1) (Chip.refuse_shape hp1)) ?_
    refine .ite (Chip.sdClkWrite_shape hp1) ?_
    refine .ite (.ite (Chip.slotWritten_shape (Chip.configWord_shape hp1)) (Chip.refuse_shape hp1)) ?_
    refine .ite hp1 ?_
    refine .ite (Chip.freezeDone_shape (Chip.genericWrite_shape hp1)) ?_
    refine .ite ?_ (Chip.genericWrite_shape hp1)
    extract_lets +onlyGivenNames x3
    extract_lets +onlyGivenNames x4
    have hx4 : z.KeepsShape x4 := Chip.cmpFreed_shape hp1 (Chip.cmpCfgDone_shape (Chip.genericWrite_shape hp1))
    clear_value x4
    exact .ite hx4 (Chip.settleHolds_shape (Chip.cmpDemands_shape (Chip.applyContactors_shape (Chip.showVdc_shape (Chip.showOv3_shape hx4)))))

theorem Chip.addrConflict_shape {z : Chip} {p1 : Chip} {p2 : ℕ} {p3 : ℕ} (hp1 : z.KeepsShape p1) : z.KeepsShape (Chip.addrConflict p1 p2 p3) := by
  unfold Chip.addrConflict
  exact Chip.note_shape hp1

theorem Chip.modChm_shape {z : Chip} {p1 : Chip} {p2 : ChmS → ChmS} (hp1 : z.KeepsShape p1) : z.KeepsShape (Chip.modChm p1 p2) := by
  unfold Chip.modChm
  exact (hp1.step rfl)

theorem Chip.modAge_shape {z : Chip} {p1 : Chip} {p2 : ℕ} {p3 : AgeS → AgeS} (hp1 : z.KeepsShape p1) : z.KeepsShape (Chip.modAge p1 p2 p3) := by
  unfold Chip.modAge
  exact Chip.modChm_shape hp1

theorem Chip.showLearn_shape {z : Chip} {p1 : Chip} {p2 : ℕ} (hp1 : z.KeepsShape p1) : z.KeepsShape (Chip.showLearn p1 p2) := by
  unfold Chip.showLearn
  extract_lets +onlyGivenNames x1
  exact Chip.put_shape hp1

theorem Chip.ageMeasure_shape {z : Chip} {p1 : Chip} {p2 : ℕ} {p3 : ℕ} {p4 : ℕ} (hp1 : z.KeepsShape p1) : z.KeepsShape (Chip.ageMeasure p1 p2 p3 p4) := by
  unfold Chip.ageMeasure
  refine .ite hp1 ?_
  extract_lets +onlyGivenNames x1
  extract_lets +onlyGivenNames x2
  clear_value x2
  extract_lets +onlyGivenNames x3
  clear_value x3
  extract_lets +onlyGivenNames x4
  have hx4 : z.KeepsShape x4 := .ite (Chip.modAge_shape hp1) (Chip.modAge_shape hp1)
  clear_value x4
  exact Chip.showLearn_shape hx4

theorem Chip.showWrites_shape {z : Chip} {p1 : Chip} (hp1 : z.KeepsShape p1) : z.KeepsShape (Chip.showWrites p1) := by
  unfold Chip.showWrites
  extract_lets +onlyGivenNames x1
  extract_lets +onlyGivenNames x2
  extract_lets +onlyGivenNames x3
  have hx3 : z.KeepsShape x3 := Chip.sets_shape hp1
  clear_value x3
  exact .each hx3 (fun a4 t5 ht5 => Chip.sets_shape ht5)

theorem Chip.submitWrite_shape {z : Chip} {p1 : Chip} {p2 : WriteOwner} (hp1 : z.KeepsShape p1) : z.KeepsShape (Chip.submitWrite p1 p2) := by
  unfold Chip.submitWrite
  extract_lets +onlyGivenNames x1
  extract_lets +onlyGivenNames x2
  clear_value x2
  extract_lets +onlyGivenNames x3
  have hx3 : z.KeepsShape x3 := Chip.modChm_shape hp1
  clear_value x3
  extract_lets +onlyGivenNames x4
  have hx4 : z.KeepsShape x4 := .ite hx3 (Chip.note_shape (Chip.put_shape hx3))
  clear_value x4
  exact Chip.showWrites_shape hx4

theorem Chip.dropWrite_shape {z : Chip} {p1 : Chip} {p2 : WriteOwner} (hp1 : z.KeepsShape p1) : z.KeepsShape (Chip.dropWrite p1 p2) := by
  unfold Chip.dropWrite
  exact Chip.showWrites_shape (Chip.modChm_shape hp1)

theorem Chip.ageStored_shape {z : Chip} {p1 : Chip} {p2 : ℕ} (hp1 : z.KeepsShape p1) : z.KeepsShape (Chip.ageStored p1 p2) := by
  unfold Chip.ageStored
  exact Chip.put_shape (Chip.dropWrite_shape (Chip.setBytes_shape hp1))

theorem Chip.ageStoreSubmit_shape {z : Chip} {p1 : Chip} {p2 : ℕ} (hp1 : z.KeepsShape p1) : z.KeepsShape (Chip.ageStoreSubmit p1 p2) := by
  unfold Chip.ageStoreSubmit
  extract_lets +onlyGivenNames x1
  have hx1 : z.KeepsShape x1 := Chip.submitWrite_shape (Chip.modAge_shape hp1)
  clear_value x1
  exact .ite (Chip.ageStored_shape hx1) hx1

theorem Chip.store_shape {z : Chip} {p1 : Chip} {p2 : ℕ} {p3 : ℕ} {p4 : ℕ} (hp1 : z.KeepsShape p1) : z.KeepsShape (Chip.store p1 p2 p3 p4) := by
  unfold Chip.store
  exact Chip.setBytes_shape hp1

theorem Chip.putSwap_shape {z : Chip} {p1 : Chip} {p2 : ℕ} {p3 : ℕ} {p4 : SwapStep} (hp1 : z.KeepsShape p1) : z.KeepsShape (Chip.putSwap p1 p2 p3 p4) := by
  unfold Chip.putSwap
  extract_lets +onlyGivenNames x1
  have hx1 : z.KeepsShape x1 := Chip.modCl_shape hp1
  clear_value x1
  extract_lets +onlyGivenNames x2
  have hx2 : z.KeepsShape x2 := .ite (Chip.clrBitOf_shape hx1) (Chip.setBitOf_shape hx1)
  clear_value x2
  exact .ite (Chip.setBitOf_shape hx2) (Chip.clrBitOf_shape hx2)

theorem Chip.swapRequest_shape {z : Chip} {p1 : Chip} {p2 : ℕ} {p3 : ℕ} (hp1 : z.KeepsShape p1) : z.KeepsShape (Chip.swapRequest p1 p2 p3) := by
  unfold Chip.swapRequest
  refine .ite hp1 ?_
  extract_lets +onlyGivenNames x1
  have hx1 : z.KeepsShape x1 := Chip.clrBitOf_shape (Chip.clrBitOf_shape (Chip.clrBitOf_shape hp1))
  clear_value x1
  exact Chip.putSwap_shape (Chip.modCl_shape hx1)

theorem Chip.ageSwapOut_shape {z : Chip} {p1 : Chip} {p2 : ℕ} {p3 : Bool} (hp1 : z.KeepsShape p1) : z.KeepsShape (Chip.ageSwapOut p1 p2 p3) := by
  unfold Chip.ageSwapOut
  extract_lets +onlyGivenNames x1
  clear_value x1
  extract_lets +onlyGivenNames x2
  have hx2 : z.KeepsShape x2 := Chip.store_shape hp1
  clear_value x2
  extract_lets +onlyGivenNames x3
  have hx3 : z.KeepsShape x3 := Chip.modAge_shape hx2
  clear_value x3
  extract_lets +onlyGivenNames x4
  have hx4 : z.KeepsShape x4 := Chip.put_shape (Chip.modCl_shape hx3)
  clear_value x4
  exact Chip.swapRequest_shape hx4

theorem Chip.ageSwapped_shape {z : Chip} {p1 : Chip} {p2 : ℕ} (hp1 : z.KeepsShape p1) : z.KeepsShape (Chip.ageSwapped p1 p2) := by
  unfold Chip.ageSwapped
  extract_lets +onlyGivenNames x1
  extract_lets +onlyGivenNames x2
  have hx2 : z.KeepsShape x2 := Chip.noteCl_shape (Chip.put_shape hp1)
  clear_value x2
  extract_lets +onlyGivenNames x3
  have hx3 : z.KeepsShape x3 := Chip.count_shape hx2
  clear_value x3
  extract_lets +onlyGivenNames x4
  have hx4 : z.KeepsShape x4 := Chip.modAge_shape hx3
  clear_value x4
  exact .ite (Chip.ageStoreSubmit_shape hx4) (Chip.put_shape hx4)

theorem Chip.ageTake_shape {z : Chip} {p1 : ℕ} {p2 : Chip} {p3 : ℕ} (hp2 : z.KeepsShape p2) : z.KeepsShape (Chip.ageTake p1 p2 p3) := by
  unfold Chip.ageTake
  extract_lets +onlyGivenNames x1
  clear_value x1
  extract_lets +onlyGivenNames x2
  clear_value x2
  extract_lets +onlyGivenNames x3
  extract_lets +onlyGivenNames x4
  clear_value x4
  extract_lets +onlyGivenNames x5
  have hx5 : z.KeepsShape x5 := Chip.modAge_shape hp2
  clear_value x5
  exact .ite hx5 (Chip.store_shape hx5)

theorem Chip.allHiz_shape {z : Chip} {p1 : Chip} (hp1 : z.KeepsShape p1) : z.KeepsShape (Chip.allHiz p1) := by
  unfold Chip.allHiz
  exact .each hp1 (fun a1 t2 ht2 => .ite ht2 (Chip.put_shape ht2))

theorem Chip.modPwr_shape {z : Chip} {p1 : Chip} {p2 : PowerS → PowerS} (hp1 : z.KeepsShape p1) : z.KeepsShape (Chip.modPwr p1 p2) := by
  unfold Chip.modPwr
  exact (hp1.step rfl)

theorem Chip.showReq_shape {z : Chip} {p1 : Chip} (hp1 : z.KeepsShape p1) : z.KeepsShape (Chip.showReq p1) := by
  unfold Chip.showReq
  exact Chip.modPwr_shape hp1

theorem Chip.wake_shape {z : Chip} {p1 : Chip} {p2 : ℕ} (hp1 : z.KeepsShape p1) : z.KeepsShape (Chip.wake p1 p2) := by
  unfold Chip.wake
  extract_lets +onlyGivenNames x1
  have hx1 : z.KeepsShape x1 := Chip.modPwr_shape (Chip.set_shape hp1)
  clear_value x1
  exact Chip.showReq_shape hx1

theorem Chip.firstNote_shape {z : Chip} {p1 : Chip} {p2 : Field} {p3 : ℕ} {p4 : ℕ} {p5 : ℕ} (hp1 : z.KeepsShape p1) : z.KeepsShape (Chip.firstNote p1 p2 p3 p4 p5) := by
  unfold Chip.firstNote
  exact .ite (Chip.put_shape hp1) (Chip.note_shape (Chip.put_shape hp1))

theorem Chip.crossing_shape {z : Chip} {p1 : Chip} {p2 : ℕ} (hp1 : z.KeepsShape p1) : z.KeepsShape (Chip.crossing p1 p2) := by
  unfold Chip.crossing
  refine .ite ?_ hp1
  extract_lets +onlyGivenNames x1
  clear_value x1
  refine .ite (Chip.modPwr_shape hp1) ?_
  extract_lets +onlyGivenNames x2
  exact Chip.firstNote_shape hp1

theorem Chip.slotRun_shape {z : Chip} {p1 : Chip} {p2 : ℕ} (hp1 : z.KeepsShape p1) : z.KeepsShape (Chip.slotRun p1 p2) := by
  unfold Chip.slotRun
  extract_lets +onlyGivenNames x1
  have hx1 : z.KeepsShape x1 := .ite hp1 (Chip.modPwr_shape hp1)
  clear_value x1
  exact .each hx1 (fun a2 t3 ht3 => .ite (Chip.openGate_shape ht3) (Chip.crossing_shape ht3))

theorem Chip.sleepAbandon_shape {z : Chip} {p1 : Chip} (hp1 : z.KeepsShape p1) : z.KeepsShape (Chip.sleepAbandon p1) := by
  unfold Chip.sleepAbandon
  extract_lets +onlyGivenNames x1
  extract_lets +onlyGivenNames x2
  have hx2 : z.KeepsShape x2 := Chip.modPwr_shape hp1
  clear_value x2
  exact Chip.showReq_shape (Chip.sets_shape hx2)

theorem Chip.slotFire_shape {z : Chip} {p1 : Chip} {p2 : ℕ} (hp1 : z.KeepsShape p1) : z.KeepsShape (Chip.slotFire p1 p2) := by
  unfold Chip.slotFire
  refine .ite hp1 ?_
  extract_lets +onlyGivenNames x1
  have hx1 : z.KeepsShape x1 := Chip.setBitOf_shape hp1
  clear_value x1
  extract_lets +onlyGivenNames x2
  have hx2 : ∀ w3, z.KeepsShape w3 → z.KeepsShape (x2 w3) := fun w3 hw3 => Chip.modPwr_shape hw3
  clear_value x2
  split
  · exact hx2 _ (Chip.wake_shape hx1)
  · exact hx2 _ (Chip.wake_shape hx1)
  · exact hx1
  · exact hx2 _ (Chip.wake_shape hx1)
  · exact Chip.slotRun_shape (Chip.note_shape (Chip.sleepAbandon_shape hx1))
  · exact Chip.slotRun_shape hx1

theorem Chip.aonCycle_shape {z : Chip} {p1 : Chip} (hp1 : z.KeepsShape p1) : z.KeepsShape (Chip.aonCycle p1) := by
  unfold Chip.aonCycle
  extract_lets +onlyGivenNames x1
  have hx1 : z.KeepsShape x1 := Chip.count_shape hp1
  clear_value x1
  extract_lets +onlyGivenNames x2
  have hx2 : z.KeepsShape x2 := .ite (Chip.bump_shape hx1) hx1
  clear_value x2
  extract_lets +onlyGivenNames x3
  clear_value x3
  extract_lets +onlyGivenNames x4
  clear_value x4
  extract_lets +onlyGivenNames x5
  clear_value x5
  extract_lets +onlyGivenNames x6
  have hx6 : z.KeepsShape x6 := Chip.modPwr_shape hx2
  clear_value x6
  exact Chip.slotFire_shape (.ite (Chip.slotFire_shape hx6) hx6)

theorem Chip.aonTick_shape {z : Chip} {p1 : Chip} (hp1 : z.KeepsShape p1) : z.KeepsShape (Chip.aonTick p1) := by
  unfold Chip.aonTick
  extract_lets +onlyGivenNames x1
  clear_value x1
  refine .ite (Chip.modPwr_shape hp1) ?_
  extract_lets +onlyGivenNames x2
  have hx2 : z.KeepsShape x2 := Chip.modPwr_shape hp1
  clear_value x2
  exact .ite hx2 (Chip.aonCycle_shape hx2)

theorem Chip.syncCheck_shape {z : Chip} {p1 : Chip} {p2 : ℕ} (hp1 : z.KeepsShape p1) : z.KeepsShape (Chip.syncCheck p1 p2) := by
  unfold Chip.syncCheck
  refine .ite (Chip.modSlice_shape hp1) ?_
  refine .ite ?_ (Chip.modSlice_shape hp1)
  refine .ite ?_ (Chip.modSlice_shape hp1)
  extract_lets +onlyGivenNames x1
  have hx1 : z.KeepsShape x1 := Chip.modSlice_shape hp1
  clear_value x1
  exact Chip.record_shape (Chip.put_shape hx1)

theorem Chip.showNtc_shape {z : Chip} {p1 : Chip} {p2 : ℕ} (hp1 : z.KeepsShape p1) : z.KeepsShape (Chip.showNtc p1 p2) := by
  unfold Chip.showNtc
  extract_lets +onlyGivenNames x1
  clear_value x1
  refine .ite ?_ (Chip.sets_shape hp1)
  extract_lets +onlyGivenNames x2
  clear_value x2
  extract_lets +onlyGivenNames x3
  clear_value x3
  exact Chip.sets_shape hp1

theorem Chip.mirrorDirty_shape {z : Chip} {p1 : Chip} {p2 : ℕ} {p3 : ℕ} (hp1 : z.KeepsShape p1) : z.KeepsShape (Chip.mirrorDirty p1 p2 p3) := by
  unfold Chip.mirrorDirty
  extract_lets +onlyGivenNames x1
  have hx1 : z.KeepsShape x1 := Chip.modIsl_shape hp1
  clear_value x1
  exact Chip.put_shape hx1

theorem Chip.showSupply_shape {z : Chip} {p1 : Chip} {p2 : ℕ} (hp1 : z.KeepsShape p1) : z.KeepsShape (Chip.showSupply p1 p2) := by
  unfold Chip.showSupply
  exact Chip.put_shape hp1

theorem Chip.islCfgDone_shape {z : Chip} {p1 : Chip} {p2 : ℕ} (hp1 : z.KeepsShape p1) : z.KeepsShape (Chip.islCfgDone p1 p2) := by
  unfold Chip.islCfgDone
  extract_lets +onlyGivenNames x1
  have hx1 : z.KeepsShape x1 := .ite (Chip.showNtc_shape (Chip.sets_shape hp1)) hp1
  clear_value x1
  extract_lets +onlyGivenNames x2
  have hx2 : z.KeepsShape x2 := .ite hx1 (Chip.put_shape hx1)
  clear_value x2
  exact Chip.mirrorDirty_shape (Chip.showSupply_shape hx2)

theorem Chip.xfmrUpdate_shape {z : Chip} {p1 : Chip} (hp1 : z.KeepsShape p1) : z.KeepsShape (Chip.xfmrUpdate p1) := by
  unfold Chip.xfmrUpdate
  refine .each hp1 ?_
  intro a1 t2 ht2
  extract_lets +onlyGivenNames x3
  extract_lets +onlyGivenNames x4
  exact (ht2.step rfl)

theorem Chip.modPos_shape {z : Chip} {p1 : Chip} {p2 : ℕ} {p3 : PosS → PosS} (hp1 : z.KeepsShape p1) : z.KeepsShape (Chip.modPos p1 p2 p3) := by
  unfold Chip.modPos
  exact (hp1.step (by simp [Chip.lens, updNth_length]))

theorem Chip.posFresh_shape {z : Chip} {p1 : Chip} {p2 : ℕ} (hp1 : z.KeepsShape p1) : z.KeepsShape (Chip.posFresh p1 p2) := by
  unfold Chip.posFresh
  exact Chip.modPos_shape hp1

theorem Chip.posLose_shape {z : Chip} {p1 : Chip} {p2 : ℕ} (hp1 : z.KeepsShape p1) : z.KeepsShape (Chip.posLose p1 p2) := by
  unfold Chip.posLose
  extract_lets +onlyGivenNames x1
  have hx1 : z.KeepsShape x1 := Chip.put_shape (Chip.modPos_shape hp1)
  clear_value x1
  exact .ite (Chip.put_shape (Chip.put_shape hx1)) hx1

theorem Chip.posNote_shape {z : Chip} {p1 : Chip} {p2 : ℕ} {p3 : ℕ} {p4 : ℕ} (hp1 : z.KeepsShape p1) : z.KeepsShape (Chip.posNote p1 p2 p3 p4) := by
  unfold Chip.posNote
  split
  · exact Chip.record_shape hp1
  · exact Chip.note_shape hp1

theorem Chip.resStart_shape {z : Chip} {p1 : Chip} {p2 : ℕ} (hp1 : z.KeepsShape p1) : z.KeepsShape (Chip.resStart p1 p2) := by
  unfold Chip.resStart
  split
  · exact Chip.posNote_shape (Chip.modPos_shape hp1)
  · rename_i y3 q4
    extract_lets +onlyGivenNames x5
    clear_value x5
    extract_lets +onlyGivenNames x6
    clear_value x6
    extract_lets +onlyGivenNames x7
    clear_value x7
    extract_lets +onlyGivenNames x8
    extract_lets +onlyGivenNames x9
    exact .ite (Chip.posNote_shape (Chip.modPos_shape hp1)) (.ite (Chip.posNote_shape (Chip.modPos_shape hp1)) (Chip.modPos_shape hp1))

theorem Chip.hallCentre_shape {z : Chip} {p1 : Chip} {p2 : ℕ} (hp1 : z.KeepsShape p1) : z.KeepsShape (Chip.hallCentre p1 p2) := by
  unfold Chip.hallCentre
  extract_lets +onlyGivenNames x1
  clear_value x1
  exact .ite (Chip.set_shape hp1) hp1

theorem Chip.posRestart_shape {z : Chip} {p1 : Chip} {p2 : ℕ} (hp1 : z.KeepsShape p1) : z.KeepsShape (Chip.posRestart p1 p2) := by
  unfold Chip.posRestart
  extract_lets +onlyGivenNames x1
  have hx1 : z.KeepsShape x1 := Chip.posFresh_shape (Chip.posLose_shape hp1)
  clear_value x1
  extract_lets +onlyGivenNames x2
  have hx2 : z.KeepsShape x2 := Chip.sets_shape hx1
  clear_value x2
  exact .ite (Chip.resStart_shape hx2) (.ite (Chip.hallCentre_shape hx2) hx2)

theorem Chip.posCfgSet_shape {z : Chip} {p1 : Chip} {p2 : ℕ} {p3 : ℕ} (hp1 : z.KeepsShape p1) : z.KeepsShape (Chip.posCfgSet p1 p2 p3) := by
  unfold Chip.posCfgSet
  extract_lets +onlyGivenNames x1
  clear_value x1
  extract_lets +onlyGivenNames x2
  have hx2 : z.KeepsShape x2 := Chip.configWord_shape hp1
  clear_value x2
  exact .ite (Chip.posRestart_shape hx2) (.ite (Chip.put_shape (Chip.modPos_shape hx2)) hx2)

theorem Chip.showLists_shape {z : Chip} {p1 : Chip} {p2 : ℕ} (hp1 : z.KeepsShape p1) : z.KeepsShape (Chip.showLists p1 p2) := by
  unfold Chip.showLists
  exact Chip.set_shape hp1

theorem Chip.listWritten_shape {z : Chip} {p1 : Chip} {p2 : ℕ} {p3 : ℕ} (hp1 : z.KeepsShape p1) : z.KeepsShape (Chip.listWritten p1 p2 p3) := by
  unfold Chip.listWritten
  extract_lets +onlyGivenNames x1
  have hx1 : z.KeepsShape x1 := Chip.showLists_shape hp1
  clear_value x1
  extract_lets +onlyGivenNames x2
  clear_value x2
  exact .ite hx1 (Chip.noteCl_shape (Chip.put_shape hx1))

theorem Chip.coefRefused_shape {z : Chip} {p1 : Chip} {p2 : ℕ} {p3 : ℕ} (hp1 : z.KeepsShape p1) : z.KeepsShape (Chip.coefRefused p1 p2 p3) := by
  unfold Chip.coefRefused
  exact Chip.noteCl_shape (Chip.put_shape hp1)

theorem Chip.staleCrc_shape {z : Chip} {p1 : Chip} {p2 : ℕ} (hp1 : z.KeepsShape p1) : z.KeepsShape (Chip.staleCrc p1 p2) := by
  unfold Chip.staleCrc
  exact Chip.put_shape hp1

theorem Chip.configWrite_shape {z : Chip} {p1 : Chip} {p2 : ℕ} {p3 : ℕ} (hp1 : z.KeepsShape p1) : z.KeepsShape (Chip.configWrite p1 p2 p3) := by
  unfold Chip.configWrite
  extract_lets +onlyGivenNames x1
  clear_value x1
  refine .ite ?_ ?_
  · extract_lets +onlyGivenNames x2
    clear_value x2
    refine .ite (.ite hp1 (Chip.put_shape (Chip.configWord_shape hp1))) ?_
    extract_lets +onlyGivenNames x3
    have hx3 : z.KeepsShape x3 := Chip.configWord_shape hp1
    clear_value x3
    extract_lets +onlyGivenNames x4
    have hx4 : z.KeepsShape x4 := .ite (Chip.put_shape hx3) hx3
    clear_value x4
    exact .ite (Chip.syncCheck_shape hx4) hx4
  · refine .ite ?_ (.ite (Chip.xfmrUpdate_shape (Chip.configWord_shape hp1)) (.ite (Chip.refWrite_shape hp1) (.ite (.each hp1 (fun a7 t8 ht8 => Chip.sdClkSet_shape ht8)) (.ite (Chip.sarCfgWrite_shape hp1) (.ite (Chip.slotWritten_shape (Chip.configWord_shape hp1)) (.ite (Chip.freezeDone_shape (Chip.configWord_shape hp1)) (.ite (Chip.cmpCfgDone_shape (Chip.configWord_shape hp1)) (.ite (Chip.posCfgSet_shape hp1) (.ite (Chip.listWritten_shape (Chip.configWord_shape hp1)) (.ite (Chip.coefRefused_shape hp1) (.ite (Chip.staleCrc_shape (Chip.configWord_shape hp1)) (Chip.configWord_shape hp1))))))))))))
    extract_lets +onlyGivenNames x5
    clear_value x5
    extract_lets +onlyGivenNames x6
    clear_value x6
    exact .ite (.ite (Chip.refuse_shape hp1) (Chip.islCfgDone_shape (Chip.configWord_shape hp1))) (.ite (Chip.mirrorDirty_shape (Chip.configWord_shape hp1)) (Chip.configWord_shape hp1))

theorem Chip.applyRec_shape {z : Chip} {p1 : ℕ → Bool} {p2 : ℕ} {p3 : List ℕ} {p4 : Chip} (hp4 : z.KeepsShape p4) :
    z.KeepsShape (Chip.applyRec p1 p2 p3 p4) := by
  induction p3 generalizing p2 p4 with
  | nil => exact hp4
  | cons d l ih => exact ih (.ite (Chip.configWrite_shape hp4) hp4)

theorem Chip.applyUnitcfg_shape {z : Chip} {p1 : Chip} {p2 : ℕ → Bool} (hp1 : z.KeepsShape p1) : z.KeepsShape (Chip.applyUnitcfg p1 p2) := by
  unfold Chip.applyUnitcfg
  exact .each hp1 (fun a1 t2 ht2 => Chip.applyRec_shape ht2)

theorem Chip.arbWrite_shape {z : Chip} {p1 : Chip} {p2 : ℕ} (hp1 : z.KeepsShape p1) : z.KeepsShape (Chip.arbWrite p1 p2) := by
  unfold Chip.arbWrite
  exact .ite hp1 (.ite (Chip.note_shape hp1) (Chip.put_shape hp1))

theorem Chip.atTick_shape {z : Chip} {p1 : Chip} {p2 : ℕ} {p3 : Chip → Chip} (hp1 : z.KeepsShape p1)
    (hp3 : ∀ u1, z.KeepsShape u1 → z.KeepsShape (p3 u1)) : z.KeepsShape (Chip.atTick p1 p2 p3) :=
  (hp3 { p1 with now := p2 } (hp1.step rfl)).step rfl

theorem Chip.modMeas_shape {z : Chip} {p1 : Chip} {p2 : ℕ} {p3 : MeasS → MeasS} (hp1 : z.KeepsShape p1) : z.KeepsShape (Chip.modMeas p1 p2 p3) := by
  unfold Chip.modMeas
  exact (hp1.step (by simp [Chip.lens, updNth_length]))

theorem Chip.bankBoundary_shape {z : Chip} {p1 : Chip} {p2 : ℕ} (hp1 : z.KeepsShape p1) : z.KeepsShape (Chip.bankBoundary p1 p2) := by
  unfold Chip.bankBoundary
  extract_lets +onlyGivenNames x1
  extract_lets +onlyGivenNames x2
  have hx2 : ∀ w3, ∀ w4, z.KeepsShape w4 → z.KeepsShape (x2 w3 w4) := fun w3 w4 hw4 => Chip.modMeas_shape hw4
  clear_value x2
  exact .ite (Chip.put_shape (Chip.bump_shape (hx2 _ _ hp1))) (Chip.sets_shape (hx2 _ _ hp1))

theorem Chip.showBoot_shape {z : Chip} {p1 : Chip} (hp1 : z.KeepsShape p1) : z.KeepsShape (Chip.showBoot p1) := by
  unfold Chip.showBoot
  extract_lets +onlyGivenNames x1
  exact Chip.sets_shape hp1

theorem Chip.bootStore_shape {z : Chip} {p1 : Chip} {p2 : BootUpdate} (hp1 : z.KeepsShape p1) : z.KeepsShape (Chip.bootStore p1 p2) := by
  unfold Chip.bootStore
  extract_lets +onlyGivenNames x1
  clear_value x1
  extract_lets +onlyGivenNames x2
  exact Chip.showBoot_shape (Chip.setBytes_shape hp1)

theorem Chip.bankChoice_shape {z : Chip} {p1 : Chip} {p2 : TrialWrite} (hp1 : z.KeepsShape p1) : z.KeepsShape (Chip.bankChoice p1 p2).1 := by
  unfold Chip.bankChoice
  extract_lets +onlyGivenNames x1
  refine .iteP (.fst (Chip.showBoot_shape hp1)) ?_
  refine .iteP ?_ (.iteP (.fst (Chip.bootStore_shape hp1)) (.fst (Chip.note_shape (Chip.showBoot_shape hp1))))
  extract_lets +onlyGivenNames x2
  have hx2 : z.KeepsShape x2 := Chip.note_shape hp1
  clear_value x2
  exact .iteP (.fst (Chip.bootStore_shape hx2)) (.fst (Chip.note_shape (Chip.showBoot_shape hx2)))

theorem Chip.bankCycle_shape {z : Chip} {p1 : Chip} (hp1 : z.KeepsShape p1) : z.KeepsShape (Chip.bankCycle p1) := by
  unfold Chip.bankCycle
  extract_lets +onlyGivenNames x1
  clear_value x1
  exact Chip.modRing_shape hp1

theorem Chip.modCfg_shape {z : Chip} {p1 : Chip} {p2 : CfgS → CfgS} (hp1 : z.KeepsShape p1) : z.KeepsShape (Chip.modCfg p1 p2) := by
  unfold Chip.modCfg
  exact (hp1.step rfl)

theorem Chip.bootSubmit_shape {z : Chip} {p1 : Chip} {p2 : BootUpdate} (hp1 : z.KeepsShape p1) : z.KeepsShape (Chip.bootSubmit p1 p2) := by
  unfold Chip.bootSubmit
  exact .ite hp1 (Chip.submitWrite_shape (Chip.put_shape (Chip.modCfg_shape hp1)))

theorem Chip.bankWrite_shape {z : Chip} {p1 : Chip} {p2 : ℕ} (hp1 : z.KeepsShape p1) : z.KeepsShape (Chip.bankWrite p1 p2) := by
  unfold Chip.bankWrite
  extract_lets +onlyGivenNames x1
  clear_value x1
  refine .ite ?_ (.ite (Chip.bootSubmit_shape hp1) hp1)
  extract_lets +onlyGivenNames x2
  clear_value x2
  exact Chip.bootSubmit_shape hp1

theorem Chip.decelStep_shape {z : Chip} {p1 : Chip} {p2 : ℕ} {p3 : ℕ} (hp1 : z.KeepsShape p1) : z.KeepsShape (Chip.decelStep p1 p2 p3) := by
  unfold Chip.decelStep
  exact .ite (Chip.enter_shape hp1) hp1

theorem Chip.rampSpeed_shape {z : Chip} {p1 : Chip} {p2 : ℕ} (hp1 : z.KeepsShape p1) : z.KeepsShape (Chip.rampSpeed p1 p2) := by
  unfold Chip.rampSpeed
  exact .ite (Chip.modCl_shape hp1) hp1

theorem Chip.bcmDecel_shape {z : Chip} {p1 : Chip} {p2 : ℕ} (hp1 : z.KeepsShape p1) : z.KeepsShape (Chip.bcmDecel p1 p2) := by
  unfold Chip.bcmDecel
  extract_lets +onlyGivenNames x1
  clear_value x1
  exact .ite (Chip.decelStep_shape (Chip.rampSpeed_shape hp1)) hp1

theorem Chip.sliceFault_shape {z : Chip} {p1 : Chip} {p2 : ℕ} {p3 : ℕ} {p4 : ℕ} (hp1 : z.KeepsShape p1) : z.KeepsShape (Chip.sliceFault p1 p2 p3 p4) := by
  unfold Chip.sliceFault
  split
  · exact Chip.faultCl_shape hp1
  · exact Chip.record_shape hp1

theorem Chip.phaseCheck_shape {z : Chip} {p1 : Chip} {p2 : ℕ} (hp1 : z.KeepsShape p1) : z.KeepsShape (Chip.phaseCheck p1 p2) := by
  unfold Chip.phaseCheck
  refine .ite ?_ hp1
  extract_lets +onlyGivenNames x1
  clear_value x1
  extract_lets +onlyGivenNames x2
  clear_value x2
  extract_lets +onlyGivenNames x3
  have hx3 : z.KeepsShape x3 := .each hp1 (fun a4 t5 ht5 => Chip.put_shape (Chip.modSlice_shape ht5))
  clear_value x3
  extract_lets +onlyGivenNames x6
  have hx6 : z.KeepsShape x6 := Chip.outputs_shape (Chip.setBitOf_shape hx3)
  clear_value x6
  exact Chip.sliceFault_shape hx6

theorem Chip.shootCheck_shape {z : Chip} {p1 : Chip} {p2 : ℕ} (hp1 : z.KeepsShape p1) : z.KeepsShape (Chip.shootCheck p1 p2) := by
  unfold Chip.shootCheck
  extract_lets +onlyGivenNames x1
  clear_value x1
  refine .ite hp1 ?_
  extract_lets +onlyGivenNames x2
  have hx2 : z.KeepsShape x2 := Chip.outputs_shape (Chip.put_shape (Chip.modSlice_shape hp1))
  clear_value x2
  exact Chip.sliceFault_shape hx2

theorem Chip.checkSlice_shape {z : Chip} {p1 : Chip} {p2 : ℕ} (hp1 : z.KeepsShape p1) : z.KeepsShape (Chip.checkSlice p1 p2) := by
  unfold Chip.checkSlice
  exact Chip.phaseCheck_shape (Chip.shootCheck_shape hp1)

theorem Chip.shortFlag_shape {z : Chip} {p1 : Chip} {p2 : ℕ} {p3 : ℕ} {p4 : ℕ} {p5 : Option Bool} (hp1 : z.KeepsShape p1) : z.KeepsShape (Chip.shortFlag p1 p2 p3 p4 p5) := by
  unfold Chip.shortFlag
  split
  · exact Chip.put_shape hp1
  · exact hp1
  · exact .ite hp1 (Chip.put_shape hp1)

theorem Chip.effEdge_shape {z : Chip} {p1 : Chip} {p2 : ℕ} {p3 : ℕ} {p4 : Bool} (hp1 : z.KeepsShape p1) : z.KeepsShape (Chip.effEdge p1 p2 p3 p4) := by
  unfold Chip.effEdge
  extract_lets +onlyGivenNames x1
  have hx1 : z.KeepsShape x1 := Chip.accrue_shape hp1
  clear_value x1
  extract_lets +onlyGivenNames x2
  extract_lets +onlyGivenNames x3
  clear_value x3
  extract_lets +onlyGivenNames x4
  clear_value x4
  extract_lets +onlyGivenNames x5
  clear_value x5
  extract_lets +onlyGivenNames x6
  clear_value x6
  extract_lets +onlyGivenNames x7
  clear_value x7
  extract_lets +onlyGivenNames x8
  clear_value x8
  extract_lets +onlyGivenNames x9
  clear_value x9
  extract_lets +onlyGivenNames x10
  clear_value x10
  extract_lets +onlyGivenNames x11
  clear_value x11
  extract_lets +onlyGivenNames x12
  clear_value x12
  extract_lets +onlyGivenNames x13
  clear_value x13
  extract_lets +onlyGivenNames x14
  clear_value x14
  extract_lets +onlyGivenNames x15
  clear_value x15
  extract_lets +onlyGivenNames x16
  clear_value x16
  extract_lets +onlyGivenNames x17
  clear_value x17
  extract_lets +onlyGivenNames x18
  clear_value x18
  extract_lets +onlyGivenNames x19
  clear_value x19
  extract_lets +onlyGivenNames x20
  clear_value x20
  extract_lets +onlyGivenNames x21
  have hx21 : z.KeepsShape x21 := Chip.modSlice_shape hx1
  clear_value x21
  extract_lets +onlyGivenNames x22
  clear_value x22
  extract_lets +onlyGivenNames x23
  clear_value x23
  extract_lets +onlyGivenNames x24
  have hx24 : z.KeepsShape x24 := .ite (Chip.shortFlag_shape hx21) hx21
  clear_value x24
  extract_lets +onlyGivenNames x25
  have hx25 : z.KeepsShape x25 := .ite (Chip.shortFlag_shape hx24) hx24
  clear_value x25
  extract_lets +onlyGivenNames x26
  clear_value x26
  extract_lets +onlyGivenNames x27
  clear_value x27
  extract_lets +onlyGivenNames x28
  have hx28 : z.KeepsShape x28 := .ite (Chip.fallL_shape hx25) hx25
  clear_value x28
  extract_lets +onlyGivenNames x29
  have hx29 : z.KeepsShape x29 := .ite (Chip.fallH_shape hx28) hx28
  clear_value x29
  extract_lets +onlyGivenNames x30
  have hx30 : z.KeepsShape x30 := .ite (.ite (Chip.modSlice_shape hx29) (.ite hx29 (Chip.riseH_shape hx29))) hx29
  clear_value x30
  extract_lets +onlyGivenNames x31
  have hx31 : z.KeepsShape x31 := .ite (.ite (Chip.modSlice_shape hx30) (.ite hx30 (Chip.riseL_shape hx30))) hx30
  clear_value x31
  extract_lets +onlyGivenNames x32
  have hx32 : z.KeepsShape x32 := Chip.modSlice_shape hx31
  clear_value x32
  exact Chip.outputs_shape (Chip.dropGates_shape hx32)

theorem Chip.bcmTick_shape {z : Chip} {p1 : Chip} {p2 : ℕ} (hp1 : z.KeepsShape p1) : z.KeepsShape (Chip.bcmTick p1 p2) := by
  unfold Chip.bcmTick
  extract_lets +onlyGivenNames x1
  clear_value x1
  exact .ite hp1 (Chip.checkSlice_shape (Chip.effEdge_shape (Chip.modSlice_shape hp1)))

theorem Chip.portSet_shape {z : Chip} {p1 : Chip} {p2 : ℕ} {p3 : ℕ} {p4 : ℕ} (hp1 : z.KeepsShape p1) : z.KeepsShape (Chip.portSet p1 p2 p3 p4) := by
  unfold Chip.portSet
  refine .ite hp1 ?_
  extract_lets +onlyGivenNames x1
  have hx1 : z.KeepsShape x1 := .ite (Chip.modPort_shape hp1) hp1
  clear_value x1
  exact Chip.sets_shape hx1

theorem Chip.claimAt_shape {z : Chip} {p1 : Chip} {p2 : ℕ} {p3 : ℕ} (hp1 : z.KeepsShape p1) : z.KeepsShape (Chip.claimAt p1 p2 p3) := by
  unfold Chip.claimAt
  exact Chip.claimSend_shape (Chip.portSet_shape hp1)

theorem Chip.claimPref_shape {z : Chip} {p1 : Chip} {p2 : ℕ} (hp1 : z.KeepsShape p1) : z.KeepsShape (Chip.claimPref p1 p2) := by
  unfold Chip.claimPref
  exact .ite (Chip.claimAt_shape (Chip.modPort_shape hp1)) hp1

theorem Chip.portOn_shape {z : Chip} {p1 : Chip} {p2 : ℕ} (hp1 : z.KeepsShape p1) : z.KeepsShape (Chip.portOn p1 p2) := by
  unfold Chip.portOn
  extract_lets +onlyGivenNames x1
  have hx1 : z.KeepsShape x1 := Chip.modPort_shape (Chip.put_shape hp1)
  clear_value x1
  exact Chip.claimPref_shape (Chip.showBackoff_shape hx1)

theorem Chip.porchWithdraw_shape {z : Chip} {p1 : Chip} {p2 : ℕ} (hp1 : z.KeepsShape p1) : z.KeepsShape (Chip.porchWithdraw p1 p2) := by
  unfold Chip.porchWithdraw
  refine .each (Chip.modPort_shape hp1) ?_
  intro a1 t2 ht2
  split
  · exact .ite (Chip.modCan_shape ht2) (Chip.bufEnd_shape ht2)
  · exact Chip.bufEnd_shape ht2

theorem Chip.sesFailAll_shape {z : Chip} {p1 : Chip} {p2 : ℕ} {p3 : ℕ} (hp1 : z.KeepsShape p1) : z.KeepsShape (Chip.sesFailAll p1 p2 p3) := by
  unfold Chip.sesFailAll
  exact .each hp1 (fun a1 t2 ht2 => Chip.sesEnd_shape ht2)

theorem Chip.portOff_shape {z : Chip} {p1 : Chip} {p2 : ℕ} (hp1 : z.KeepsShape p1) : z.KeepsShape (Chip.portOff p1 p2) := by
  unfold Chip.portOff
  extract_lets +onlyGivenNames x1
  have hx1 : z.KeepsShape x1 := Chip.porchWithdraw_shape (Chip.sesFailAll_shape hp1)
  clear_value x1
  extract_lets +onlyGivenNames x2
  have hx2 : z.KeepsShape x2 := Chip.put_shape hx1
  clear_value x2
  extract_lets +onlyGivenNames x3
  have hx3 : z.KeepsShape x3 := Chip.portSet_shape hx2
  clear_value x3
  extract_lets +onlyGivenNames x4
  have hx4 : z.KeepsShape x4 := Chip.modPort_shape hx3
  clear_value x4
  exact Chip.showBackoff_shape (Chip.set_shape hx4)

theorem Chip.porchFollow_shape {z : Chip} {p1 : Chip} {p2 : Bool} (hp1 : z.KeepsShape p1) : z.KeepsShape (Chip.porchFollow p1 p2) := by
  unfold Chip.porchFollow
  exact .each hp1 (fun a1 t2 ht2 => .ite (.ite ht2 (Chip.portOn_shape ht2)) (.ite (Chip.portOff_shape ht2) ht2))

theorem Chip.roleSet_shape {z : Chip} {p1 : Chip} {p2 : ℕ} (hp1 : z.KeepsShape p1) : z.KeepsShape (Chip.roleSet p1 p2) := by
  unfold Chip.roleSet
  extract_lets +onlyGivenNames x1
  clear_value x1
  extract_lets +onlyGivenNames x2
  have hx2 : z.KeepsShape x2 := Chip.set_shape hp1
  clear_value x2
  exact .ite (Chip.porchFollow_shape (Chip.set_shape hx2)) (.ite (Chip.porchFollow_shape hx2) hx2)

theorem Chip.becomeActive_shape {z : Chip} {p1 : Chip} (hp1 : z.KeepsShape p1) : z.KeepsShape (Chip.becomeActive p1) := by
  unfold Chip.becomeActive
  extract_lets +onlyGivenNames x1
  clear_value x1
  extract_lets +onlyGivenNames x2
  have hx2 : z.KeepsShape x2 := Chip.sets_shape hp1
  clear_value x2
  exact Chip.note_shape (Chip.roleSet_shape hx2)

theorem Chip.bitErrorSeen_shape {z : Chip} {p1 : Chip} {p2 : ℕ} (hp1 : z.KeepsShape p1) : z.KeepsShape (Chip.bitErrorSeen p1 p2) := by
  unfold Chip.bitErrorSeen
  extract_lets +onlyGivenNames x1
  extract_lets +onlyGivenNames x2
  have hx2 : ∀ w3, z.KeepsShape w3 → ∀ w4, z.KeepsShape (x2 w3 w4) := fun w3 hw3 w4 => Chip.set_shape (Chip.modPort_shape hw3)
  clear_value x2
  exact .ite (hx2 _ hp1 _) (.ite (Chip.claimAt_shape (Chip.addrConflict_shape (hx2 _ hp1 _))) (hx2 _ hp1 _))

theorem Chip.sumRead_shape {z : Chip} {p1 : Chip} {p2 : ℕ} (hp1 : z.KeepsShape p1) : z.KeepsShape (Chip.sumRead p1 p2) := by
  unfold Chip.sumRead
  refine .ite ?_ hp1
  extract_lets +onlyGivenNames x1
  clear_value x1
  extract_lets +onlyGivenNames x2
  extract_lets +onlyGivenNames x3
  have hx3 : z.KeepsShape x3 := (hp1.step rfl)
  clear_value x3
  exact .ite (Chip.bump_shape hx3) hx3

theorem Chip.timLatch_shape {z : Chip} {p1 : Chip} {p2 : Requester} (hp1 : z.KeepsShape p1) : z.KeepsShape (Chip.timLatch p1 p2) := by
  unfold Chip.timLatch
  exact (hp1.step rfl)

theorem Chip.coreRead_shape {z : Chip} {p1 : Chip} {p2 : Requester} {p3 : ℕ} (hp1 : z.KeepsShape p1) : z.KeepsShape (Chip.coreRead p1 p2 p3).1 := by
  unfold Chip.coreRead
  extract_lets +onlyGivenNames x1
  clear_value x1
  refine .iteP (.fst hp1) ?_
  refine .iteP ?_ (.iteP (.fst hp1) (.iteP (.fst (Chip.timLatch_shape hp1)) (.iteP (.fst hp1) (.iteP (.fst hp1) (.iteP (.fst hp1) (.fst (Chip.hole_shape hp1)))))))
  extract_lets +onlyGivenNames x2
  clear_value x2
  extract_lets +onlyGivenNames x3
  clear_value x3
  refine .fst ?_
  split
  · exact .ite (Chip.sumRead_shape hp1) hp1
  · exact hp1

theorem Chip.blockRead_shape {z : Chip} {p1 : Chip} {p2 : Requester} {p3 : ℕ} (hp1 : z.KeepsShape p1) : z.KeepsShape (Chip.blockRead p1 p2 p3).1 := by
  unfold Chip.blockRead
  extract_lets +onlyGivenNames x1
  clear_value x1
  extract_lets +onlyGivenNames x2
  clear_value x2
  refine .iteP (Chip.coreRead_shape hp1) ?_
  refine .iteP (.fst hp1) ?_
  refine .iteP (.fst hp1) ?_
  refine .iteP (.fst hp1) ?_
  refine .iteP (.fst hp1) ?_
  refine .iteP (.fst (Chip.useFree_shape hp1)) ?_
  split
  · exact .fst hp1
  · exact .iteP (.fst hp1) (.fst (Chip.hole_shape hp1))

theorem Chip.refusal_shape {z : Chip} {p1 : Chip} {p2 : ℕ} {p3 : ℕ} {p4 : ℕ} (hp1 : z.KeepsShape p1) : z.KeepsShape (Chip.refusal p1 p2 p3 p4) := by
  unfold Chip.refusal
  extract_lets +onlyGivenNames x1
  have hx1 : z.KeepsShape x1 := Chip.modCl_shape hp1
  clear_value x1
  exact Chip.noteCl_shape (Chip.put_shape hx1)

theorem Chip.refuseReq_shape {z : Chip} {p1 : Chip} {p2 : ℕ} {p3 : ℕ} {p4 : ℕ} (hp1 : z.KeepsShape p1) : z.KeepsShape (Chip.refuseReq p1 p2 p3 p4) := by
  unfold Chip.refuseReq
  exact Chip.refusal_shape hp1

theorem Chip.startRun_shape {z : Chip} {p1 : Chip} {p2 : ℕ} (hp1 : z.KeepsShape p1) : z.KeepsShape (Chip.startRun p1 p2) := by
  unfold Chip.startRun
  exact .ite (Chip.bcmStart_shape hp1) (Chip.enterCatch_shape (Chip.setHeld_shape hp1))

theorem Chip.reqRun_shape {z : Chip} {p1 : Chip} {p2 : ℕ} (hp1 : z.KeepsShape p1) : z.KeepsShape (Chip.reqRun p1 p2) := by
  unfold Chip.reqRun
  extract_lets +onlyGivenNames x1
  clear_value x1
  extract_lets +onlyGivenNames x2
  clear_value x2
  exact .ite (Chip.refuseReq_shape hp1) (.ite (Chip.refuseReq_shape hp1) (.ite (Chip.setStanding_shape (Chip.setHeld_shape hp1)) (.ite (Chip.enter_shape (Chip.setHeld_shape hp1)) (.ite (Chip.startRun_shape hp1) (Chip.setHeld_shape hp1)))))

theorem Chip.startDecel_shape {z : Chip} {p1 : Chip} {p2 : ℕ} {p3 : Bool} (hp1 : z.KeepsShape p1) : z.KeepsShape (Chip.startDecel p1 p2 p3) := by
  unfold Chip.startDecel
  extract_lets +onlyGivenNames x1
  clear_value x1
  extract_lets +onlyGivenNames x2
  have hx2 : z.KeepsShape x2 := Chip.enter_shape hp1
  clear_value x2
  exact Chip.modCl_shape hx2

theorem Chip.haltWdis_shape {z : Chip} {p1 : Chip} {p2 : ℕ} (hp1 : z.KeepsShape p1) : z.KeepsShape (Chip.haltWdis p1 p2) := by
  unfold Chip.haltWdis
  exact Chip.startDecel_shape (Chip.sets_shape hp1)

theorem Chip.endWdis_shape {z : Chip} {p1 : Chip} {p2 : ℕ} (hp1 : z.KeepsShape p1) : z.KeepsShape (Chip.endWdis p1 p2) := by
  unfold Chip.endWdis
  exact .ite (Chip.put_shape (Chip.enter_shape hp1)) hp1

theorem Chip.reqStop_shape {z : Chip} {p1 : Chip} {p2 : ℕ} {p3 : Bool} (hp1 : z.KeepsShape p1) : z.KeepsShape (Chip.reqStop p1 p2 p3) := by
  unfold Chip.reqStop
  extract_lets +onlyGivenNames x1
  clear_value x1
  extract_lets +onlyGivenNames x2
  clear_value x2
  exact .ite (.ite (Chip.enter_shape (Chip.setHeld_shape hp1)) (Chip.setHeld_shape hp1)) (.ite (.ite (Chip.refuseReq_shape hp1) (Chip.setHeld_shape hp1)) (.ite (.ite (Chip.refuseReq_shape hp1) (Chip.setStanding_shape (Chip.setHeld_shape hp1))) (.ite (.ite (Chip.setHeld_shape hp1) (Chip.enter_shape (Chip.setHeld_shape hp1))) (.ite (.ite (Chip.haltWdis_shape hp1) (Chip.endWdis_shape hp1)) (.ite (Chip.startDecel_shape hp1) (Chip.modCl_shape hp1))))))

theorem Chip.resetEngine_shape {z : Chip} {p1 : Chip} {p2 : ℕ} (hp1 : z.KeepsShape p1) : z.KeepsShape (Chip.resetEngine p1 p2) := by
  unfold Chip.resetEngine
  extract_lets +onlyGivenNames x1
  clear_value x1
  extract_lets +onlyGivenNames x2
  have hx2 : z.KeepsShape x2 := Chip.resetRange_shape (Chip.resetRange_shape hp1)
  clear_value x2
  extract_lets +onlyGivenNames x3
  have hx3 : z.KeepsShape x3 := Chip.modCle_shape hx2
  clear_value x3
  extract_lets +onlyGivenNames x4
  have hx4 : z.KeepsShape x4 := Chip.modCl_shape hx3
  clear_value x4
  exact Chip.set_shape hx4

theorem Chip.endDuplex_shape {z : Chip} {p1 : Chip} {p2 : ℕ} (hp1 : z.KeepsShape p1) : z.KeepsShape (Chip.endDuplex p1 p2) := by
  unfold Chip.endDuplex
  refine .ite ?_ hp1
  extract_lets +onlyGivenNames x1
  clear_value x1
  extract_lets +onlyGivenNames x2
  have hx2 : z.KeepsShape x2 := Chip.sets_shape (Chip.modCl_shape hp1)
  clear_value x2
  extract_lets +onlyGivenNames x3
  have hx3 : z.KeepsShape x3 := Chip.resetEngine_shape hx2
  clear_value x3
  extract_lets +onlyGivenNames x4
  clear_value x4
  exact Chip.applyUnitcfg_shape hx3

theorem Chip.clusterHidden_shape {z : Chip} {p1 : Chip} {p2 : ℕ} (hp1 : z.KeepsShape p1) : z.KeepsShape (Chip.clusterHidden p1 p2) := by
  unfold Chip.clusterHidden
  extract_lets +onlyGivenNames x1
  have hx1 : z.KeepsShape x1 := Chip.modCl_shape hp1
  clear_value x1
  exact Chip.modCle_shape hx1

theorem Chip.clusterRegs_shape {z : Chip} {p1 : Chip} {p2 : ℕ} (hp1 : z.KeepsShape p1) : z.KeepsShape (Chip.clusterRegs p1 p2) := by
  unfold Chip.clusterRegs
  extract_lets +onlyGivenNames x1
  clear_value x1
  extract_lets +onlyGivenNames x2
  extract_lets +onlyGivenNames x3
  clear_value x3
  exact Chip.put_shape (Chip.sets_shape (Chip.resetRange_shape hp1))

theorem Chip.copyShadows_shape {z : Chip} {p1 : Chip} {p2 : ℕ} {p3 : Bool} {p4 : Bool} (hp1 : z.KeepsShape p1) : z.KeepsShape (Chip.copyShadows p1 p2 p3 p4) := by
  unfold Chip.copyShadows
  extract_lets +onlyGivenNames x1
  clear_value x1
  extract_lets +onlyGivenNames x2
  clear_value x2
  extract_lets +onlyGivenNames x3
  extract_lets +onlyGivenNames x4
  have hx4 : z.KeepsShape x4 := Chip.set_shape (Chip.set_shape hp1)
  clear_value x4
  exact Chip.modSlice_shape hx4

theorem Chip.syncFollowers_shape {z : Chip} {p1 : Chip} {p2 : ℕ} (hp1 : z.KeepsShape p1) : z.KeepsShape (Chip.syncFollowers p1 p2) := by
  unfold Chip.syncFollowers
  exact .each hp1 (fun a1 t2 ht2 => .ite (Chip.syncCheck_shape ht2) ht2)

theorem Chip.sliceUnitReset_shape {z : Chip} {p1 : Chip} {p2 : ℕ} (hp1 : z.KeepsShape p1) : z.KeepsShape (Chip.sliceUnitReset p1 p2) := by
  unfold Chip.sliceUnitReset
  extract_lets +onlyGivenNames x1
  clear_value x1
  extract_lets +onlyGivenNames x2
  clear_value x2
  extract_lets +onlyGivenNames x3
  clear_value x3
  extract_lets +onlyGivenNames x4
  clear_value x4
  extract_lets +onlyGivenNames x5
  clear_value x5
  extract_lets +onlyGivenNames x6
  clear_value x6
  extract_lets +onlyGivenNames x7
  extract_lets +onlyGivenNames x8
  have hx8 : z.KeepsShape x8 := Chip.sets_shape (Chip.resetRange_shape hp1)
  clear_value x8
  extract_lets +onlyGivenNames x9
  have hx9 : z.KeepsShape x9 := Chip.modSlice_shape hx8
  clear_value x9
  extract_lets +onlyGivenNames x10
  have hx10 : z.KeepsShape x10 := .ite (Chip.copyShadows_shape hx9) hx9
  clear_value x10
  exact Chip.syncFollowers_shape (Chip.outputs_shape hx10)

theorem Chip.reloadOwned_shape {z : Chip} {p1 : Chip} {p2 : ℕ} (hp1 : z.KeepsShape p1) : z.KeepsShape (Chip.reloadOwned p1 p2) := by
  unfold Chip.reloadOwned
  exact .each hp1 (fun a1 t2 ht2 => Chip.configWrite_shape ht2)

theorem Chip.motorWords_shape {z : Chip} {p1 : Chip} {p2 : ℕ} (hp1 : z.KeepsShape p1) : z.KeepsShape (Chip.motorWords p1 p2) := by
  unfold Chip.motorWords
  exact Chip.set_shape (Chip.set_shape hp1)

theorem Chip.recheck_shape {z : Chip} {p1 : Chip} {p2 : ℕ} (hp1 : z.KeepsShape p1) : z.KeepsShape (Chip.recheck p1 p2) := by
  unfold Chip.recheck
  exact Chip.checkSlice_shape (Chip.effEdge_shape hp1)

theorem Chip.clusterReload_shape {z : Chip} {p1 : Chip} {p2 : ℕ} (hp1 : z.KeepsShape p1) : z.KeepsShape (Chip.clusterReload p1 p2) := by
  unfold Chip.clusterReload
  extract_lets +onlyGivenNames x1
  have hx1 : z.KeepsShape x1 := Chip.endDuplex_shape hp1
  clear_value x1
  extract_lets +onlyGivenNames x2
  clear_value x2
  extract_lets +onlyGivenNames x3
  have hx3 : z.KeepsShape x3 := Chip.set_shape (Chip.clusterHidden_shape (Chip.clusterRegs_shape hx1))
  clear_value x3
  extract_lets +onlyGivenNames x4
  have hx4 : z.KeepsShape x4 := .each hx3 (fun a5 t6 ht6 => Chip.sliceUnitReset_shape ht6)
  clear_value x4
  extract_lets +onlyGivenNames x7
  have hx7 : z.KeepsShape x7 := Chip.reloadOwned_shape (Chip.applyUnitcfg_shape (Chip.motorWords_shape hx4))
  clear_value x7
  extract_lets +onlyGivenNames x8
  have hx8 : z.KeepsShape x8 := Chip.showSlots_shape (Chip.showLists_shape hx7)
  clear_value x8
  exact .each hx8 (fun a9 t10 ht10 => Chip.recheck_shape (Chip.copyShadows_shape ht10))

theorem Chip.clusterReset_shape {z : Chip} {p1 : Chip} {p2 : ℕ} (hp1 : z.KeepsShape p1) : z.KeepsShape (Chip.clusterReset p1 p2) := by
  unfold Chip.clusterReset
  extract_lets +onlyGivenNames x1
  have hx1 : z.KeepsShape x1 := Chip.clusterReload_shape hp1
  clear_value x1
  extract_lets +onlyGivenNames x2
  have hx2 : z.KeepsShape x2 := Chip.modCl_shape hx1
  clear_value x2
  exact Chip.refreshHold_shape (Chip.enter_shape (Chip.refreshHold_shape hx2))

theorem Chip.reqReset_shape {z : Chip} {p1 : Chip} {p2 : ℕ} (hp1 : z.KeepsShape p1) : z.KeepsShape (Chip.reqReset p1 p2) := by
  unfold Chip.reqReset
  extract_lets +onlyGivenNames x1
  clear_value x1
  exact .ite (Chip.clusterReset_shape hp1) (Chip.refuseReq_shape hp1)

theorem Chip.showFaults_shape {z : Chip} {p1 : Chip} {p2 : ℕ} (hp1 : z.KeepsShape p1) : z.KeepsShape (Chip.showFaults p1 p2) := by
  unfold Chip.showFaults
  extract_lets +onlyGivenNames x1
  exact Chip.put_shape (Chip.set_shape hp1)

theorem Chip.dropFault_shape {z : Chip} {p1 : Chip} {p2 : ℕ} {p3 : ℕ} {p4 : ℕ} (hp1 : z.KeepsShape p1) : z.KeepsShape (Chip.dropFault p1 p2 p3 p4) := by
  unfold Chip.dropFault
  exact Chip.modCl_shape hp1

theorem Chip.clearIslandFault_shape {z : Chip} {p1 : Chip} {p2 : ℕ} {p3 : ℕ} (hp1 : z.KeepsShape p1) : z.KeepsShape (Chip.clearIslandFault p1 p2 p3) := by
  unfold Chip.clearIslandFault
  extract_lets +onlyGivenNames x1
  have hx1 : z.KeepsShape x1 := Chip.modIsl_shape hp1
  clear_value x1
  extract_lets +onlyGivenNames x2
  have hx2 : z.KeepsShape x2 := Chip.showFaults_shape hx1
  clear_value x2
  extract_lets +onlyGivenNames x3
  have hx3 : z.KeepsShape x3 := .ite (Chip.clamp_shape (Chip.set_shape (Chip.modIsl_shape hx2))) hx2
  clear_value x3
  split
  · exact Chip.refreshHold_shape (Chip.dropFault_shape hx3)
  · exact hx3

theorem Chip.clearIsland_shape {z : Chip} {p1 : Chip} {p2 : ℕ} (hp1 : z.KeepsShape p1) : z.KeepsShape (Chip.clearIsland p1 p2) := by
  unfold Chip.clearIsland
  extract_lets +onlyGivenNames x1
  have hx1 : z.KeepsShape x1 := Chip.sets_shape hp1
  clear_value x1
  exact .each hx1 (fun a2 t3 ht3 => .ite (Chip.clearIslandFault_shape ht3) ht3)

theorem Chip.putIso_shape {z : Chip} {p1 : Chip} {p2 : ℕ} {p3 : Bool} (hp1 : z.KeepsShape p1) : z.KeepsShape (Chip.putIso p1 p2 p3) := by
  unfold Chip.putIso
  exact Chip.xfmrUpdate_shape (Chip.put_shape hp1)

theorem Chip.reqClear_shape {z : Chip} {p1 : Chip} {p2 : ℕ} (hp1 : z.KeepsShape p1) : z.KeepsShape (Chip.reqClear p1 p2) := by
  unfold Chip.reqClear
  refine .ite (Chip.refuseReq_shape hp1) ?_
  extract_lets +onlyGivenNames x1
  have hx1 : z.KeepsShape x1 := .each (Chip.setHeld_shape hp1) (fun a2 t3 ht3 => Chip.clearIsland_shape ht3)
  clear_value x1
  extract_lets +onlyGivenNames x4
  clear_value x4
  extract_lets +onlyGivenNames x5
  have hx5 : z.KeepsShape x5 := Chip.modCl_shape hx1
  clear_value x5
  extract_lets +onlyGivenNames x6
  have hx6 : z.KeepsShape x6 := Chip.modCl_shape hx5
  clear_value x6
  extract_lets +onlyGivenNames x7
  clear_value x7
  extract_lets +onlyGivenNames x8
  have hx8 : z.KeepsShape x8 := .ite (Chip.putIso_shape hx6) hx6
  clear_value x8
  extract_lets +onlyGivenNames x9
  have hx9 : z.KeepsShape x9 := .ite (.ite (Chip.putIso_shape hx8) hx8) hx5
  clear_value x9
  exact Chip.tryLeaveSafe_shape (Chip.refreshHold_shape hx9)

theorem Chip.wdisRefuse_shape {z : Chip} {p1 : Chip} {p2 : ℕ} (hp1 : z.KeepsShape p1) : z.KeepsShape (Chip.wdisRefuse p1 p2) := by
  unfold Chip.wdisRefuse
  exact Chip.refusal_shape hp1

theorem Chip.wdisStart_shape {z : Chip} {p1 : Chip} {p2 : ℕ} {p3 : ℕ} (hp1 : z.KeepsShape p1) : z.KeepsShape (Chip.wdisStart p1 p2 p3) := by
  unfold Chip.wdisStart
  extract_lets +onlyGivenNames x1
  have hx1 : z.KeepsShape x1 := Chip.enter_shape (Chip.setHeld_shape hp1)
  clear_value x1
  extract_lets +onlyGivenNames x2
  have hx2 : z.KeepsShape x2 := Chip.sets_shape hx1
  clear_value x2
  exact Chip.modCl_shape hx2

theorem Chip.obsCaught_shape {z : Chip} {p1 : Chip} {p2 : ℕ} {p3 : ℕ} {p4 : ℕ} (hp1 : z.KeepsShape p1) : z.KeepsShape (Chip.obsCaught p1 p2 p3 p4) := by
  unfold Chip.obsCaught
  extract_lets +onlyGivenNames x1
  clear_value x1
  extract_lets +onlyGivenNames x2
  have hx2 : z.KeepsShape x2 := Chip.modCl_shape hp1
  clear_value x2
  exact Chip.sets_shape hx2

theorem Chip.reqDischarge_shape {z : Chip} {p1 : Chip} {p2 : ℕ} (hp1 : z.KeepsShape p1) : z.KeepsShape (Chip.reqDischarge p1 p2).1 := by
  unfold Chip.reqDischarge
  refine .iteP (.fst (Chip.refuseReq_shape hp1)) ?_
  extract_lets +onlyGivenNames x1
  clear_value x1
  refine .iteP (.fst (Chip.wdisRefuse_shape hp1)) ?_
  refine .iteP ?_ ?_
  · extract_lets +onlyGivenNames x2
    clear_value x2
    exact .fst (Chip.wdisStart_shape hp1)
  · refine .iteP ?_ (.iteP (.fst (Chip.modCl_shape (Chip.setHeld_shape hp1))) (.fst (Chip.wdisRefuse_shape hp1)))
    extract_lets +onlyGivenNames x3
    clear_value x3
    exact .fst (Chip.wdisStart_shape (Chip.obsCaught_shape (Chip.useFree_shape hp1)))

theorem Chip.reqDuplex_shape {z : Chip} {p1 : Chip} {p2 : ℕ} (hp1 : z.KeepsShape p1) : z.KeepsShape (Chip.reqDuplex p1 p2) := by
  unfold Chip.reqDuplex
  extract_lets +onlyGivenNames x1
  clear_value x1
  extract_lets +onlyGivenNames x2
  clear_value x2
  extract_lets +onlyGivenNames x3
  have hx3 : ∀ w4, z.KeepsShape (x3 w4) := fun w4 => Chip.refusal_shape hp1
  clear_value x3
  exact .ite (Chip.refuseReq_shape hp1) (.ite (hx3 _) (.ite (hx3 _) (Chip.put_shape (Chip.modCl_shape (Chip.setHeld_shape hp1)))))

theorem Chip.reqSplit_shape {z : Chip} {p1 : Chip} {p2 : ℕ} (hp1 : z.KeepsShape p1) : z.KeepsShape (Chip.reqSplit p1 p2) := by
  unfold Chip.reqSplit
  exact .ite (Chip.modCl_shape (Chip.setHeld_shape hp1)) (Chip.refuseReq_shape hp1)

theorem Chip.handleReq_shape {z : Chip} {p1 : Chip} {p2 : ℕ} {p3 : ℕ} (hp1 : z.KeepsShape p1) : z.KeepsShape (Chip.handleReq p1 p2 p3) := by
  unfold Chip.handleReq
  exact .ite (Chip.refuseReq_shape hp1) (.ite (Chip.reqRun_shape hp1) (.ite (Chip.reqStop_shape hp1) (.ite (Chip.reqStop_shape hp1) (.ite (Chip.reqReset_shape hp1) (.ite (Chip.reqClear_shape hp1) (.ite (Chip.reqDischarge_shape hp1) (.ite (Chip.reqDuplex_shape hp1) (.ite (Chip.reqSplit_shape hp1) (Chip.refuseReq_shape hp1)))))))))

theorem Chip.standDemands_shape {z : Chip} {p1 : Chip} {p2 : ℕ} (hp1 : z.KeepsShape p1) : z.KeepsShape (Chip.standDemands p1 p2) := by
  unfold Chip.standDemands
  extract_lets +onlyGivenNames x1
  have hx1 : ∀ w2, ∀ w3, ∀ w4, ∀ w5, z.KeepsShape w5 → z.KeepsShape (x1 w2 w3 w4 w5) := fun w2 w3 w4 w5 hw5 => .ite hw5 (Chip.stand_shape hw5)
  clear_value x1
  refine .ite hp1 ?_
  extract_lets +onlyGivenNames x6
  have hx6 : z.KeepsShape x6 := .ite (hx1 _ _ _ _ hp1) hp1
  clear_value x6
  extract_lets +onlyGivenNames x7
  have hx7 : z.KeepsShape x7 := .ite (hx1 _ _ _ _ hx6) hx6
  clear_value x7
  exact .each hx7 (fun a8 t9 ht9 => .ite ht9 (.ite (hx1 _ _ _ _ ht9) (.ite (hx1 _ _ _ _ ht9) (.ite (hx1 _ _ _ _ ht9) ht9))))

theorem Chip.refall_shape {z : Chip} {p1 : Chip} {p2 : ℕ} (hp1 : z.KeepsShape p1) : z.KeepsShape (Chip.refall p1 p2) := by
  unfold Chip.refall
  refine .ite hp1 ?_
  extract_lets +onlyGivenNames x1
  have hx1 : z.KeepsShape x1 := Chip.standDemands_shape (Chip.modCl_shape hp1)
  clear_value x1
  exact .ite (Chip.refreshHold_shape hx1) (Chip.refreshHold_shape (Chip.enter_shape hx1))

theorem Chip.request_shape {z : Chip} {p1 : Chip} {p2 : ℕ} {p3 : ℕ} (hp1 : z.KeepsShape p1) : z.KeepsShape (Chip.request p1 p2 p3) := by
  unfold Chip.request
  exact .ite hp1 (Chip.modCl_shape (Chip.handleReq_shape (Chip.refall_shape hp1)))

theorem Chip.ldrRefuse_shape {z : Chip} {p1 : Chip} {p2 : ℕ} {p3 : ℕ} {p4 : ℕ} (hp1 : z.KeepsShape p1) : z.KeepsShape (Chip.ldrRefuse p1 p2 p3 p4) := by
  unfold Chip.ldrRefuse
  exact Chip.noteCl_shape (Chip.put_shape hp1)

theorem Chip.swapBySoftware_shape {z : Chip} {p1 : Chip} {p2 : ℕ} {p3 : ℕ} (hp1 : z.KeepsShape p1) : z.KeepsShape (Chip.swapBySoftware p1 p2 p3) := by
  unfold Chip.swapBySoftware
  exact .ite (Chip.ldrRefuse_shape hp1) (Chip.swapRequest_shape hp1)

theorem Chip.cleClr_shape {z : Chip} {p1 : Chip} {p2 : ℕ} (hp1 : z.KeepsShape p1) : z.KeepsShape (Chip.cleClr p1 p2) := by
  unfold Chip.cleClr
  exact .ite (.each hp1 (fun a1 t2 ht2 => Chip.clearLists_shape ht2)) (Chip.refuse_shape hp1)

theorem Chip.posUnitReset_shape {z : Chip} {p1 : Chip} {p2 : ℕ} (hp1 : z.KeepsShape p1) : z.KeepsShape (Chip.posUnitReset p1 p2) := by
  unfold Chip.posUnitReset
  exact Chip.modPos_shape (Chip.posFresh_shape (Chip.resetRange_shape hp1))

theorem Chip.cleUnitReset_shape {z : Chip} {p1 : Chip} {p2 : ℕ} (hp1 : z.KeepsShape p1) : z.KeepsShape (Chip.cleUnitReset p1 p2) := by
  unfold Chip.cleUnitReset
  extract_lets +onlyGivenNames x1
  clear_value x1
  exact Chip.modCle_shape (Chip.resetRange_shape hp1)

theorem Chip.islandReset_shape {z : Chip} {p1 : Chip} {p2 : ℕ} (hp1 : z.KeepsShape p1) : z.KeepsShape (Chip.islandReset p1 p2) := by
  unfold Chip.islandReset
  exact Chip.modIsl_shape hp1

theorem Chip.turnOff_shape {z : Chip} {p1 : Chip} {p2 : ℕ} (hp1 : z.KeepsShape p1) : z.KeepsShape (Chip.turnOff p1 p2) := by
  unfold Chip.turnOff
  extract_lets +onlyGivenNames x1
  clear_value x1
  exact Chip.modIsl_shape hp1

theorem Chip.gateAway_shape {z : Chip} {p1 : Chip} {p2 : ℕ} (hp1 : z.KeepsShape p1) : z.KeepsShape (Chip.gateAway p1 p2) := by
  unfold Chip.gateAway
  extract_lets +onlyGivenNames x1
  exact .ite (Chip.turnOff_shape hp1) hp1

theorem Chip.islTo_shape {z : Chip} {p1 : Chip} {p2 : ℕ} {p3 : ℕ} (hp1 : z.KeepsShape p1) : z.KeepsShape (Chip.islTo p1 p2 p3) := by
  unfold Chip.islTo
  extract_lets +onlyGivenNames x1
  have hx1 : z.KeepsShape x1 := .ite (Chip.sets_shape hp1) hp1
  clear_value x1
  extract_lets +onlyGivenNames x2
  have hx2 : z.KeepsShape x2 := Chip.clamp_shape (Chip.modIsl_shape hx1)
  clear_value x2
  exact .ite hx2 (.ite (Chip.abortLeak_shape hx2) hx2)

theorem Chip.islShow_shape {z : Chip} {p1 : Chip} {p2 : ℕ} {p3 : ℕ} (hp1 : z.KeepsShape p1) : z.KeepsShape (Chip.islShow p1 p2 p3) := by
  unfold Chip.islShow
  exact Chip.set_shape (Chip.islTo_shape hp1)

theorem Chip.setTarget_shape {z : Chip} {p1 : Chip} {p2 : List (ℕ × ℕ)} (hp1 : z.KeepsShape p1) : z.KeepsShape (Chip.setTarget p1 p2) := by
  unfold Chip.setTarget
  exact .ite hp1 (.ite hp1 (Chip.sets_shape hp1))

theorem Chip.islRecord_shape {z : Chip} {p1 : Chip} {p2 : ℕ} {p3 : ℕ} {p4 : ℕ} {p5 : ℕ} (hp1 : z.KeepsShape p1) : z.KeepsShape (Chip.islRecord p1 p2 p3 p4 p5) := by
  unfold Chip.islRecord
  extract_lets +onlyGivenNames x1
  clear_value x1
  exact Chip.set_shape (Chip.record_shape hp1)

theorem Chip.calDrift_shape {z : Chip} {p1 : Chip} {p2 : ℕ} {p3 : ℤ} (hp1 : z.KeepsShape p1) : z.KeepsShape (Chip.calDrift p1 p2 p3) := by
  unfold Chip.calDrift
  extract_lets +onlyGivenNames x1
  have hx1 : z.KeepsShape x1 := Chip.sets_shape hp1
  clear_value x1
  exact Chip.islRecord_shape hx1

theorem Chip.calibrate_shape {z : Chip} {p1 : Chip} {p2 : ℕ} {p3 : ℕ} (hp1 : z.KeepsShape p1) : z.KeepsShape (Chip.calibrate p1 p2 p3) := by
  unfold Chip.calibrate
  extract_lets +onlyGivenNames x1
  clear_value x1
  extract_lets +onlyGivenNames x2
  clear_value x2
  extract_lets +onlyGivenNames x3
  extract_lets +onlyGivenNames x4
  have hx4 : z.KeepsShape x4 := Chip.sets_shape hp1
  clear_value x4
  exact .ite (Chip.put_shape hx4) (Chip.calDrift_shape hx4)

theorem Chip.calibrateAll_shape {z : Chip} {p1 : Chip} {p2 : List (ℕ × ℕ)} (hp1 : z.KeepsShape p1) : z.KeepsShape (Chip.calibrateAll p1 p2) := by
  unfold Chip.calibrateAll
  exact .each (Chip.setTarget_shape hp1) (fun a1 t2 ht2 => Chip.calibrate_shape ht2)

theorem Chip.calibrateDue_shape {z : Chip} {p1 : Chip} (hp1 : z.KeepsShape p1) : z.KeepsShape (Chip.calibrateDue p1) := by
  unfold Chip.calibrateDue
  refine .ite hp1 ?_
  extract_lets +onlyGivenNames x1
  exact .each (Chip.calibrateAll_shape hp1) (fun a2 t3 ht3 => Chip.modIsl_shape ht3)

theorem Chip.islUnitReset_shape {z : Chip} {p1 : Chip} {p2 : ℕ} (hp1 : z.KeepsShape p1) : z.KeepsShape (Chip.islUnitReset p1 p2) := by
  unfold Chip.islUnitReset
  extract_lets +onlyGivenNames x1
  clear_value x1
  extract_lets +onlyGivenNames x2
  clear_value x2
  extract_lets +onlyGivenNames x3
  clear_value x3
  extract_lets +onlyGivenNames x4
  have hx4 : z.KeepsShape x4 := Chip.set_shape (Chip.set_shape (Chip.resetRange_shape hp1))
  clear_value x4
  refine .ite (Chip.modIsl_shape hx4) ?_
  extract_lets +onlyGivenNames x5
  have hx5 : z.KeepsShape x5 := Chip.islandReset_shape (Chip.gateAway_shape hx4)
  clear_value x5
  extract_lets +onlyGivenNames x6
  have hx6 : z.KeepsShape x6 := Chip.modIsl_shape hx5
  clear_value x6
  extract_lets +onlyGivenNames x7
  have hx7 : z.KeepsShape x7 := .ite hx6 (Chip.islShow_shape hx6)
  clear_value x7
  exact Chip.showFaults_shape (Chip.showNtc_shape (Chip.calibrateDue_shape hx7))

theorem Chip.bufsEnd_shape {z : Chip} {p1 : Chip} {p2 : ℕ} {p3 : ℕ} (hp1 : z.KeepsShape p1) : z.KeepsShape (Chip.bufsEnd p1 p2 p3) := by
  unfold Chip.bufsEnd
  extract_lets +onlyGivenNames x1
  extract_lets +onlyGivenNames x2
  have hx2 : z.KeepsShape x2 := Chip.modCan_shape hp1
  clear_value x2
  exact .each hx2 (fun a3 t4 ht4 => Chip.bufEnd_shape ht4)

theorem Chip.canReset_shape {z : Chip} {p1 : Chip} {p2 : ℕ} (hp1 : z.KeepsShape p1) : z.KeepsShape (Chip.canReset p1 p2) := by
  unfold Chip.canReset
  extract_lets +onlyGivenNames x1
  extract_lets +onlyGivenNames x2
  have hx2 : z.KeepsShape x2 := Chip.bufsEnd_shape (Chip.set_shape hp1)
  clear_value x2
  extract_lets +onlyGivenNames x3
  extract_lets +onlyGivenNames x4
  have hx4 : z.KeepsShape x4 := Chip.modPort_shape hx2
  clear_value x4
  extract_lets +onlyGivenNames x5
  have hx5 : z.KeepsShape x5 := Chip.modCan_shape (Chip.resetRange_shape hx4)
  clear_value x5
  exact Chip.showBackoff_shape (.each hx5 (fun a6 t7 ht7 => Chip.set_shape ht7))

theorem Chip.msgsDown_shape {z : Chip} {p1 : Chip} (hp1 : z.KeepsShape p1) : z.KeepsShape (Chip.msgsDown p1) := by
  unfold Chip.msgsDown
  exact .each hp1 (fun a1 t2 ht2 => Chip.msgEnd_shape ht2)

theorem Chip.ringReset_shape {z : Chip} {p1 : Chip} (hp1 : z.KeepsShape p1) : z.KeepsShape (Chip.ringReset p1) := by
  unfold Chip.ringReset
  extract_lets +onlyGivenNames x1
  clear_value x1
  extract_lets +onlyGivenNames x2
  have hx2 : z.KeepsShape x2 := Chip.roleSet_shape (Chip.msgsDown_shape hp1)
  clear_value x2
  exact Chip.modRing_shape (Chip.set_shape (Chip.resetRange_shape hx2))

theorem Chip.unitClear_shape {z : Chip} {p1 : Chip} {p2 : UnitId} (hp1 : z.KeepsShape p1) : z.KeepsShape (Chip.unitClear p1 p2) := by
  unfold Chip.unitClear
  split
  · exact Chip.posUnitReset_shape hp1
  · exact .each hp1 (fun a5 t6 ht6 => Chip.cleUnitReset_shape ht6)
  · exact Chip.sliceUnitReset_shape hp1
  · exact Chip.islUnitReset_shape hp1
  · exact Chip.canReset_shape hp1
  · exact Chip.ringReset_shape hp1

theorem Chip.unitStart_shape {z : Chip} {p1 : Chip} {p2 : UnitId} (hp1 : z.KeepsShape p1) : z.KeepsShape (Chip.unitStart p1 p2) := by
  unfold Chip.unitStart
  refine .ite (Chip.refuse_shape hp1) ?_
  extract_lets +onlyGivenNames x1
  have hx1 : z.KeepsShape x1 := Chip.unitClear_shape hp1
  clear_value x1
  exact (hx1.step rfl)

theorem Chip.cleCtlWrite_shape {z : Chip} {p1 : Chip} {p2 : ℕ} {p3 : ℕ} (hp1 : z.KeepsShape p1) : z.KeepsShape (Chip.cleCtlWrite p1 p2 p3) := by
  unfold Chip.cleCtlWrite
  extract_lets +onlyGivenNames x1
  have hx1 : z.KeepsShape x1 := .each hp1 (fun a2 t3 ht3 => Chip.feZero_shape (Chip.sets_shape ht3))
  clear_value x1
  extract_lets +onlyGivenNames x4
  have hx4 : z.KeepsShape x4 := .ite (Chip.cleClr_shape hx1) hx1
  clear_value x4
  exact .ite (Chip.unitStart_shape hx4) hx4

theorem Chip.coefSet_shape {z : Chip} {p1 : Chip} {p2 : ℕ} {p3 : ℕ} {p4 : ℕ} (hp1 : z.KeepsShape p1) : z.KeepsShape (Chip.coefSet p1 p2 p3 p4) := by
  unfold Chip.coefSet
  refine .ite (Chip.refuse_shape hp1) ?_
  refine .ite (Chip.coefRefused_shape hp1) ?_
  refine .each hp1 ?_
  intro a1 t2 ht2
  extract_lets +onlyGivenNames x3
  have hx3 : z.KeepsShape x3 := Chip.configWord_shape ht2
  clear_value x3
  exact .ite (Chip.staleCrc_shape hx3) hx3

theorem Chip.listSet_shape {z : Chip} {p1 : Chip} {p2 : ℕ} {p3 : ℕ} {p4 : ℕ} (hp1 : z.KeepsShape p1) : z.KeepsShape (Chip.listSet p1 p2 p3 p4) := by
  unfold Chip.listSet
  extract_lets +onlyGivenNames x1
  clear_value x1
  exact .ite (Chip.refuse_shape hp1) (.each hp1 (fun a2 t3 ht3 => Chip.listWritten_shape (Chip.configWord_shape ht3)))

theorem Chip.secCfgSet_shape {z : Chip} {p1 : Chip} {p2 : ℕ} {p3 : ℕ} {p4 : ℕ} (hp1 : z.KeepsShape p1) : z.KeepsShape (Chip.secCfgSet p1 p2 p3 p4) := by
  unfold Chip.secCfgSet
  extract_lets +onlyGivenNames x1
  clear_value x1
  exact .ite (Chip.refuse_shape hp1) (.each hp1 (fun a2 t3 ht3 => Chip.staleCrc_shape (Chip.configWord_shape ht3)))

theorem Chip.clusterWrite_shape {z : Chip} {p1 : Chip} {p2 : ℕ} {p3 : ℕ} (hp1 : z.KeepsShape p1) : z.KeepsShape (Chip.clusterWrite p1 p2 p3) := by
  unfold Chip.clusterWrite
  extract_lets +onlyGivenNames x1
  clear_value x1
  extract_lets +onlyGivenNames x2
  clear_value x2
  refine .ite (Chip.refuse_shape hp1) ?_
  refine .ite (Chip.request_shape hp1) ?_
  refine .ite (.ite (Chip.set_shape hp1) hp1) ?_
  refine .ite (.each hp1 (fun a3 t4 ht4 => Chip.swapBySoftware_shape ht4)) ?_
  refine .ite hp1 ?_
  refine .ite (Chip.cleCtlWrite_shape hp1) ?_
  refine .ite (.each hp1 (fun a5 t6 ht6 => Chip.genericWrite_shape ht6)) ?_
  refine .ite ?_ (.ite (Chip.listSet_shape hp1) (.ite (Chip.coefSet_shape hp1) (.ite (Chip.secCfgSet_shape hp1) (.ite (Chip.coefSet_shape hp1) (Chip.genericWrite_shape hp1)))))
  extract_lets +onlyGivenNames x7
  have hx7 : z.KeepsShape x7 := Chip.coefSet_shape hp1
  clear_value x7
  exact .ite (.each hx7 (fun a8 t9 ht9 => Chip.feZero_shape ht9)) hx7

theorem Chip.floorSet_shape {z : Chip} {p1 : Chip} {p2 : ℕ} {p3 : ℕ} (hp1 : z.KeepsShape p1) : z.KeepsShape (Chip.floorSet p1 p2 p3) := by
  unfold Chip.floorSet
  extract_lets +onlyGivenNames x1
  clear_value x1
  exact .ite (Chip.refuse_shape hp1) (Chip.checkSlice_shape (Chip.put_shape (Chip.set_shape hp1)))

theorem Chip.sliceRun_shape {z : Chip} {p1 : Chip} {p2 : ℕ} (hp1 : z.KeepsShape p1) : z.KeepsShape (Chip.sliceRun p1 p2) := by
  unfold Chip.sliceRun
  exact .ite (Chip.modSlice_shape hp1) hp1

theorem Chip.sliceStop_shape {z : Chip} {p1 : Chip} {p2 : ℕ} (hp1 : z.KeepsShape p1) : z.KeepsShape (Chip.sliceStop p1 p2) := by
  unfold Chip.sliceStop
  exact .ite (Chip.modSlice_shape hp1) hp1

theorem Chip.keepOld_shape {z : Chip} {p1 : Chip} {p2 : ℕ} {p3 : ℕ} (hp1 : z.KeepsShape p1) : z.KeepsShape (Chip.keepOld p1 p2 p3) := by
  unfold Chip.keepOld
  exact Chip.modSlice_shape hp1

theorem Chip.sliceSet_shape {z : Chip} {p1 : Chip} {p2 : ℕ} {p3 : ℕ} {p4 : ℕ} (hp1 : z.KeepsShape p1) : z.KeepsShape (Chip.sliceSet p1 p2 p3 p4) := by
  unfold Chip.sliceSet
  extract_lets +onlyGivenNames x1
  clear_value x1
  extract_lets +onlyGivenNames x2
  have hx2 : z.KeepsShape x2 := .ite (Chip.keepOld_shape hp1) hp1
  clear_value x2
  extract_lets +onlyGivenNames x3
  have hx3 : z.KeepsShape x3 := Chip.genericWrite_shape hx2
  clear_value x3
  extract_lets +onlyGivenNames x4
  have hx4 : z.KeepsShape x4 := .ite (Chip.put_shape hx3) hx3
  clear_value x4
  extract_lets +onlyGivenNames x5
  have hx5 : z.KeepsShape x5 := .ite (Chip.put_shape hx4) hx4
  clear_value x5
  extract_lets +onlyGivenNames x6
  have hx6 : z.KeepsShape x6 := .ite (Chip.syncCheck_shape hx5) hx5
  clear_value x6
  exact .ite (Chip.recheck_shape hx6) hx6

theorem Chip.keepHold_shape {z : Chip} {p1 : Chip} (hp1 : z.KeepsShape p1) : z.KeepsShape (Chip.keepHold p1) := by
  unfold Chip.keepHold
  exact .ite hp1 (hp1.step rfl)

theorem Chip.holdWrite_shape {z : Chip} {p1 : Chip} {p2 : ℕ} {p3 : Bool} (hp1 : z.KeepsShape p1) : z.KeepsShape (Chip.holdWrite p1 p2 p3) := by
  unfold Chip.holdWrite
  extract_lets +onlyGivenNames x1
  have hx1 : z.KeepsShape x1 := Chip.keepHold_shape hp1
  clear_value x1
  extract_lets +onlyGivenNames x2
  clear_value x2
  extract_lets +onlyGivenNames x3
  clear_value x3
  exact Chip.set_shape hx1

theorem Chip.xhizRelease_shape {z : Chip} {p1 : Chip} (hp1 : z.KeepsShape p1) : z.KeepsShape (Chip.xhizRelease p1) := by
  unfold Chip.xhizRelease
  exact .ite hp1 (Chip.put_shape hp1)

theorem Chip.pwmWrite_shape {z : Chip} {p1 : Chip} {p2 : ℕ} {p3 : ℕ} (hp1 : z.KeepsShape p1) : z.KeepsShape (Chip.pwmWrite p1 p2 p3) := by
  unfold Chip.pwmWrite
  extract_lets +onlyGivenNames x1
  clear_value x1
  extract_lets +onlyGivenNames x2
  clear_value x2
  refine .ite ?_ (.ite (Chip.genericWrite_shape (Chip.keepHold_shape hp1)) (.ite (Chip.holdWrite_shape hp1) (.ite (Chip.holdWrite_shape hp1) (.ite (.each hp1 (fun a5 t6 ht6 => Chip.sliceRun_shape ht6)) (.ite (.ite (Chip.xhizRelease_shape hp1) hp1) (Chip.genericWrite_shape hp1))))))
  refine .ite (Chip.floorSet_shape hp1) ?_
  refine .ite ?_ (Chip.sliceSet_shape hp1)
  extract_lets +onlyGivenNames x3
  have hx3 : z.KeepsShape x3 := .ite (Chip.sliceRun_shape hp1) hp1
  clear_value x3
  extract_lets +onlyGivenNames x4
  have hx4 : z.KeepsShape x4 := .ite (Chip.sliceStop_shape hx3) hx3
  clear_value x4
  exact .ite (Chip.unitStart_shape hx4) hx4

theorem Chip.leakStart_shape {z : Chip} {p1 : Chip} {p2 : ℕ} (hp1 : z.KeepsShape p1) : z.KeepsShape (Chip.leakStart p1 p2) := by
  unfold Chip.leakStart
  extract_lets +onlyGivenNames x1
  clear_value x1
  extract_lets +onlyGivenNames x2
  clear_value x2
  exact .ite (Chip.sets_shape (Chip.islShow_shape hp1)) (Chip.refuse_shape hp1)

theorem Chip.islCtlWrite_shape {z : Chip} {p1 : Chip} {p2 : ℕ} {p3 : ℕ} (hp1 : z.KeepsShape p1) : z.KeepsShape (Chip.islCtlWrite p1 p2 p3) := by
  unfold Chip.islCtlWrite
  extract_lets +onlyGivenNames x1
  have hx1 : z.KeepsShape x1 := Chip.clearIsland_shape hp1
  clear_value x1
  extract_lets +onlyGivenNames x2
  have hx2 : z.KeepsShape x2 := by
    unfold x2
    refine .ite ?_ hp1
    split
    · exact Chip.tryLeaveSafe_shape hx1
    · exact hx1
  clear_value x2
  extract_lets +onlyGivenNames x7
  have hx7 : z.KeepsShape x7 := .ite (Chip.leakStart_shape hx2) hx2
  clear_value x7
  exact .ite (Chip.unitStart_shape hx7) hx7

theorem Chip.mirrorSet_shape {z : Chip} {p1 : Chip} {p2 : ℕ} {p3 : ℕ} {p4 : ℕ} (hp1 : z.KeepsShape p1) : z.KeepsShape (Chip.mirrorSet p1 p2 p3 p4) := by
  unfold Chip.mirrorSet
  extract_lets +onlyGivenNames x1
  clear_value x1
  exact .ite (.ite (Chip.refuse_shape hp1) (.ite (Chip.refuse_shape hp1) (Chip.islCfgDone_shape (Chip.genericWrite_shape hp1)))) (.ite (Chip.mirrorDirty_shape (Chip.genericWrite_shape hp1)) (.ite (Chip.mirrorDirty_shape (Chip.genericWrite_shape hp1)) (Chip.refuse_shape hp1)))

theorem Chip.islWrite_shape {z : Chip} {p1 : Chip} {p2 : ℕ} {p3 : ℕ} (hp1 : z.KeepsShape p1) : z.KeepsShape (Chip.islWrite p1 p2 p3) := by
  unfold Chip.islWrite
  extract_lets +onlyGivenNames x1
  clear_value x1
  extract_lets +onlyGivenNames x2
  clear_value x2
  exact .ite (.ite (Chip.islCtlWrite_shape hp1) (.ite (Chip.mirrorSet_shape hp1) (Chip.genericWrite_shape hp1))) (Chip.xfmrUpdate_shape (Chip.genericWrite_shape hp1))

theorem Chip.posSnap_shape {z : Chip} {p1 : Chip} {p2 : ℕ} (hp1 : z.KeepsShape p1) : z.KeepsShape (Chip.posSnap p1 p2) := by
  unfold Chip.posSnap
  exact Chip.sets_shape (Chip.modPos_shape hp1)

theorem Chip.posClrTot_shape {z : Chip} {p1 : Chip} {p2 : ℕ} (hp1 : z.KeepsShape p1) : z.KeepsShape (Chip.posClrTot p1 p2) := by
  unfold Chip.posClrTot
  exact Chip.sets_shape hp1

theorem Chip.posOk_shape {z : Chip} {p1 : Chip} {p2 : ℕ} (hp1 : z.KeepsShape p1) : z.KeepsShape (Chip.posOk p1 p2) := by
  unfold Chip.posOk
  extract_lets +onlyGivenNames x1
  have hx1 : z.KeepsShape x1 := Chip.set_shape (Chip.modPos_shape hp1)
  clear_value x1
  exact .ite hx1 (Chip.put_shape (Chip.put_shape hx1))

theorem Chip.posRearm_shape {z : Chip} {p1 : Chip} {p2 : ℕ} (hp1 : z.KeepsShape p1) : z.KeepsShape (Chip.posRearm p1 p2) := by
  unfold Chip.posRearm
  extract_lets +onlyGivenNames x1
  clear_value x1
  refine .ite (Chip.refuse_shape hp1) ?_
  extract_lets +onlyGivenNames x2
  have hx2 : z.KeepsShape x2 := Chip.modPos_shape (Chip.set_shape hp1)
  clear_value x2
  exact .ite (Chip.posOk_shape hx2) hx2

theorem Chip.posCtlWrite_shape {z : Chip} {p1 : Chip} {p2 : ℕ} {p3 : ℕ} (hp1 : z.KeepsShape p1) : z.KeepsShape (Chip.posCtlWrite p1 p2 p3) := by
  unfold Chip.posCtlWrite
  extract_lets +onlyGivenNames x1
  have hx1 : z.KeepsShape x1 := .ite (Chip.posSnap_shape hp1) hp1
  clear_value x1
  extract_lets +onlyGivenNames x2
  have hx2 : z.KeepsShape x2 := .ite (Chip.posClrTot_shape hx1) hx1
  clear_value x2
  extract_lets +onlyGivenNames x3
  have hx3 : z.KeepsShape x3 := .ite (Chip.posRearm_shape hx2) hx2
  clear_value x3
  exact .ite (Chip.unitStart_shape hx3) hx3

theorem Chip.posWrite_shape {z : Chip} {p1 : Chip} {p2 : ℕ} {p3 : ℕ} (hp1 : z.KeepsShape p1) : z.KeepsShape (Chip.posWrite p1 p2 p3) := by
  unfold Chip.posWrite
  extract_lets +onlyGivenNames x1
  clear_value x1
  extract_lets +onlyGivenNames x2
  clear_value x2
  refine .ite (.ite (Chip.posCfgSet_shape hp1) (Chip.refuse_shape hp1)) ?_
  refine .ite (Chip.posCtlWrite_shape hp1) ?_
  refine .ite ?_ (Chip.genericWrite_shape hp1)
  extract_lets +onlyGivenNames x3
  have hx3 : z.KeepsShape x3 := Chip.genericWrite_shape hp1
  clear_value x3
  exact .ite hx3 (Chip.modPos_shape hx3)

theorem Chip.ctrWrite_shape {z : Chip} {p1 : Chip} {p2 : ℕ} (hp1 : z.KeepsShape p1) : z.KeepsShape (Chip.ctrWrite p1 p2) := by
  unfold Chip.ctrWrite
  extract_lets +onlyGivenNames x1
  have hx1 : z.KeepsShape x1 := .ite (Chip.put_shape hp1) hp1
  clear_value x1
  extract_lets +onlyGivenNames x2
  have hx2 : z.KeepsShape x2 := Chip.sets_shape hx1
  clear_value x2
  extract_lets +onlyGivenNames x3
  have hx3 : z.KeepsShape x3 := .ite hx2 (Chip.put_shape hx2)
  clear_value x3
  extract_lets +onlyGivenNames x4
  extract_lets +onlyGivenNames x5
  have hx5 : z.KeepsShape x5 := (hx3.step rfl)
  clear_value x5
  exact Chip.applyContactors_shape hx5

theorem Chip.resistor_shape {z : Chip} {p1 : Chip} {p2 : Bool} (hp1 : z.KeepsShape p1) : z.KeepsShape (Chip.resistor p1 p2) := by
  unfold Chip.resistor
  refine .ite ?_ (hp1.step rfl)
  extract_lets +onlyGivenNames x1
  clear_value x1
  exact .ite (Chip.setOvr_shape hp1) hp1

theorem Chip.disEnd_shape {z : Chip} {p1 : Chip} {p2 : ℕ} {p3 : ℕ} (hp1 : z.KeepsShape p1) : z.KeepsShape (Chip.disEnd p1 p2 p3) := by
  unfold Chip.disEnd
  extract_lets +onlyGivenNames x1
  have hx1 : z.KeepsShape x1 := .ite (Chip.resistor_shape hp1) hp1
  clear_value x1
  extract_lets +onlyGivenNames x2
  have hx2 : z.KeepsShape x2 := Chip.set_shape (Chip.set_shape hx1)
  clear_value x2
  exact Chip.applyContactors_shape hx2

theorem Chip.disCheck_shape {z : Chip} {p1 : Chip} (hp1 : z.KeepsShape p1) : z.KeepsShape (Chip.disCheck p1) := by
  unfold Chip.disCheck
  refine .ite ?_ hp1
  extract_lets +onlyGivenNames x1
  have hx1 : z.KeepsShape x1 := .each hp1 (fun a2 t3 ht3 => Chip.endWdis_shape ht3)
  clear_value x1
  exact Chip.put_shape (Chip.disEnd_shape hx1)

theorem Chip.disResistor_shape {z : Chip} {p1 : Chip} {p2 : ℕ} (hp1 : z.KeepsShape p1) : z.KeepsShape (Chip.disResistor p1 p2) := by
  unfold Chip.disResistor
  extract_lets +onlyGivenNames x1
  have hx1 : z.KeepsShape x1 := Chip.resistor_shape (Chip.set_shape hp1)
  clear_value x1
  extract_lets +onlyGivenNames x2
  have hx2 : z.KeepsShape x2 := .ite hx1 (Chip.note_shape hx1)
  clear_value x2
  exact Chip.disCheck_shape hx2

theorem Chip.disStartNow_shape {z : Chip} {p1 : Chip} (hp1 : z.KeepsShape p1) : z.KeepsShape (Chip.disStartNow p1) := by
  unfold Chip.disStartNow
  extract_lets +onlyGivenNames x1
  clear_value x1
  extract_lets +onlyGivenNames x2
  have hx2 : ∀ w3, z.KeepsShape (x2 w3) := fun w3 => Chip.sets_shape hp1
  clear_value x2
  refine .ite hp1 ?_
  refine .ite (hx2 _) ?_
  refine .ite (hx2 _) ?_
  extract_lets +onlyGivenNames x4
  extract_lets +onlyGivenNames x5
  have hx5 : z.KeepsShape x5 := (hp1.step rfl)
  clear_value x5
  extract_lets +onlyGivenNames x6
  have hx6 : z.KeepsShape x6 := Chip.sets_shape hx5
  clear_value x6
  refine .ite (Chip.disResistor_shape hx6) ?_
  extract_lets +onlyGivenNames x7
  clear_value x7
  extract_lets +onlyGivenNames x8
  have hx8 : z.KeepsShape x8 := Chip.request_shape hx6
  clear_value x8
  exact .ite (Chip.disCheck_shape hx8) (Chip.disResistor_shape hx8)

theorem Chip.faultEvery_shape {z : Chip} {p1 : Chip} {p2 : ℕ} {p3 : ℕ} {p4 : ℕ} (hp1 : z.KeepsShape p1) : z.KeepsShape (Chip.faultEvery p1 p2 p3 p4) := by
  unfold Chip.faultEvery
  exact Chip.faultAll_shape hp1

theorem Chip.disAbort_shape {z : Chip} {p1 : Chip} (hp1 : z.KeepsShape p1) : z.KeepsShape (Chip.disAbort p1) := by
  unfold Chip.disAbort
  exact .ite (Chip.faultEvery_shape (Chip.put_shape (Chip.disEnd_shape hp1))) hp1

theorem Chip.disWrite_shape {z : Chip} {p1 : Chip} {p2 : ℕ} (hp1 : z.KeepsShape p1) : z.KeepsShape (Chip.disWrite p1 p2) := by
  unfold Chip.disWrite
  extract_lets +onlyGivenNames x1
  have hx1 : z.KeepsShape x1 := Chip.genericWrite_shape hp1
  clear_value x1
  extract_lets +onlyGivenNames x2
  have hx2 : z.KeepsShape x2 := .ite (Chip.disStartNow_shape hx1) hx1
  clear_value x2
  exact .ite (Chip.disAbort_shape hx2) hx2

theorem Chip.chopper_shape {z : Chip} {p1 : Chip} {p2 : Bool} (hp1 : z.KeepsShape p1) : z.KeepsShape (Chip.chopper p1 p2) := by
  unfold Chip.chopper
  extract_lets +onlyGivenNames x1
  have hx1 : z.KeepsShape x1 := Chip.put_shape (Chip.put_shape hp1)
  clear_value x1
  split
  · exact Chip.setOvr_shape hx1
  · exact hx1

theorem Chip.chopStart_shape {z : Chip} {p1 : Chip} {p2 : Bool} (hp1 : z.KeepsShape p1) : z.KeepsShape (Chip.chopStart p1 p2) := by
  unfold Chip.chopStart
  extract_lets +onlyGivenNames x1
  have hx1 : z.KeepsShape x1 := Chip.chopper_shape hp1
  clear_value x1
  exact (hx1.step rfl)

theorem Chip.chopTest_shape {z : Chip} {p1 : Chip} (hp1 : z.KeepsShape p1) : z.KeepsShape (Chip.chopTest p1) := by
  unfold Chip.chopTest
  refine .ite hp1 ?_
  refine .ite (Chip.set_shape hp1) ?_
  extract_lets +onlyGivenNames x1
  have hx1 : z.KeepsShape x1 := .ite hp1 (Chip.count_shape hp1)
  clear_value x1
  exact Chip.put_shape (Chip.chopStart_shape hx1)

theorem Chip.ss1Begin_shape {z : Chip} {p1 : Chip} {p2 : ℕ} (hp1 : z.KeepsShape p1) : z.KeepsShape (Chip.ss1Begin p1 p2) := by
  unfold Chip.ss1Begin
  refine .ite hp1 ?_
  extract_lets +onlyGivenNames x1
  have hx1 : z.KeepsShape x1 := Chip.modCl_shape (Chip.put_shape hp1)
  clear_value x1
  exact Chip.request_shape hx1

theorem Chip.pcRelease_shape {z : Chip} {p1 : Chip} {p2 : ℕ} (hp1 : z.KeepsShape p1) : z.KeepsShape (Chip.pcRelease p1 p2) := by
  unfold Chip.pcRelease
  exact Chip.refreshHold_shape (Chip.put_shape hp1)

theorem Chip.pcWrite_shape {z : Chip} {p1 : Chip} {p2 : ℕ} {p3 : ℕ} (hp1 : z.KeepsShape p1) : z.KeepsShape (Chip.pcWrite p1 p2 p3) := by
  unfold Chip.pcWrite
  extract_lets +onlyGivenNames x1
  have hx1 : z.KeepsShape x1 := Chip.set_shape hp1
  clear_value x1
  extract_lets +onlyGivenNames x2
  have hx2 : z.KeepsShape x2 := .ite (Chip.ss1Begin_shape hx1) hx1
  clear_value x2
  extract_lets +onlyGivenNames x3
  have hx3 : z.KeepsShape x3 := .ite (Chip.pcSto_shape hx2) hx2
  clear_value x3
  exact .ite (Chip.pcRelease_shape hx3) hx3

theorem Chip.refreshHolds_shape {z : Chip} {p1 : Chip} (hp1 : z.KeepsShape p1) : z.KeepsShape (Chip.refreshHolds p1) := by
  unfold Chip.refreshHolds
  exact .each hp1 (fun a1 t2 ht2 => Chip.refreshHold_shape ht2)

theorem Chip.standAll_shape {z : Chip} {p1 : Chip} (hp1 : z.KeepsShape p1) : z.KeepsShape (Chip.standAll p1) := by
  unfold Chip.standAll
  extract_lets +onlyGivenNames x1
  exact Chip.refreshHolds_shape (Chip.cmpDemands_shape (.ite hp1 (Chip.faultAll_shape hp1)))

theorem Chip.showDisc_shape {z : Chip} {p1 : Chip} (hp1 : z.KeepsShape p1) : z.KeepsShape (Chip.showDisc p1) := by
  unfold Chip.showDisc
  extract_lets +onlyGivenNames x1
  clear_value x1
  extract_lets +onlyGivenNames x2
  extract_lets +onlyGivenNames x3
  have hx3 : z.KeepsShape x3 := .ite (hp1.step rfl) hp1
  clear_value x3
  exact Chip.put_shape hx3

theorem Chip.ctrJudge_shape {z : Chip} {p1 : Chip} (hp1 : z.KeepsShape p1) : z.KeepsShape (Chip.ctrJudge p1) := by
  unfold Chip.ctrJudge
  extract_lets +onlyGivenNames x1
  clear_value x1
  extract_lets +onlyGivenNames x2
  have hx2 : z.KeepsShape x2 := .ite (Chip.record_shape (Chip.put_shape hp1)) hp1
  clear_value x2
  exact Chip.put_shape hx2

theorem Chip.ctrNote_shape {z : Chip} {p1 : Chip} {p2 : ℕ} {p3 : Bool} (hp1 : z.KeepsShape p1) : z.KeepsShape (Chip.ctrNote p1 p2 p3) := by
  unfold Chip.ctrNote
  exact Chip.note_shape (Chip.put_shape hp1)

theorem Chip.ctrCompare_shape {z : Chip} {p1 : Chip} {p2 : Bool} (hp1 : z.KeepsShape p1) : z.KeepsShape (Chip.ctrCompare p1 p2) := by
  unfold Chip.ctrCompare
  extract_lets +onlyGivenNames x1
  clear_value x1
  extract_lets +onlyGivenNames x2
  clear_value x2
  extract_lets +onlyGivenNames x3
  extract_lets +onlyGivenNames x4
  refine .ite hp1 ?_
  refine .ite ?_ (.ite (Chip.ctrNote_shape (Chip.put_shape hp1)) hp1)
  refine .ite ?_ hp1
  extract_lets +onlyGivenNames x5
  have hx5 : z.KeepsShape x5 := Chip.put_shape (Chip.put_shape hp1)
  clear_value x5
  exact .ite hx5 (hx5.step rfl)

theorem Chip.ctrWatch_shape {z : Chip} {p1 : Chip} {p2 : Bool} (hp1 : z.KeepsShape p1) : z.KeepsShape (Chip.ctrWatch p1 p2) := by
  unfold Chip.ctrWatch
  refine .ite hp1 ?_
  extract_lets +onlyGivenNames x1
  have hx1 : z.KeepsShape x1 := .ite (Chip.disAbort_shape hp1) hp1
  clear_value x1
  extract_lets +onlyGivenNames x2
  have hx2 : z.KeepsShape x2 := Chip.ctrJudge_shape (Chip.ctrCompare_shape (Chip.ctrCompare_shape hx1))
  clear_value x2
  refine .ite ?_ hx2
  extract_lets +onlyGivenNames x3
  extract_lets +onlyGivenNames x4
  have hx4 : z.KeepsShape x4 := (hx2.step rfl)
  clear_value x4
  exact .ite (Chip.disStartNow_shape hx4) hx4

theorem Chip.ctrFeedback_shape {z : Chip} {p1 : Chip} {p2 : Bool} {p3 : Bool} (hp1 : z.KeepsShape p1) : z.KeepsShape (Chip.ctrFeedback p1 p2 p3) := by
  unfold Chip.ctrFeedback
  extract_lets +onlyGivenNames x1
  exact .ite hp1 (Chip.ctrWatch_shape (Chip.put_shape hp1))

theorem Chip.ctrPin_shape {z : Chip} {p1 : Chip} {p2 : Bool} (hp1 : z.KeepsShape p1) : z.KeepsShape (Chip.ctrPin p1 p2) := by
  unfold Chip.ctrPin
  exact Chip.ctrFeedback_shape hp1

theorem Chip.ctrLook_shape {z : Chip} {p1 : Chip} (hp1 : z.KeepsShape p1) : z.KeepsShape (Chip.ctrLook p1) := by
  unfold Chip.ctrLook
  exact Chip.ctrWatch_shape (Chip.ctrPin_shape (Chip.ctrPin_shape hp1))

theorem Chip.chopMoved_shape {z : Chip} {p1 : Chip} {p2 : Chip} (hp1 : z.KeepsShape p1) (hp2 : z.KeepsShape p2) : z.KeepsShape (Chip.chopMoved p1 p2) := by
  unfold Chip.chopMoved
  refine .ite hp2 ?_
  extract_lets +onlyGivenNames x1
  have hx1 : z.KeepsShape x1 := by
    unfold x1
    split
    · exact Chip.setOvr_shape hp2
    · exact hp2
  clear_value x1
  exact Chip.chopper_shape hx1

theorem Chip.safeWrite_shape {z : Chip} {p1 : Chip} {p2 : ℕ} {p3 : ℕ} (hp1 : z.KeepsShape p1) : z.KeepsShape (Chip.safeWrite p1 p2 p3) := by
  unfold Chip.safeWrite
  extract_lets +onlyGivenNames x1
  clear_value x1
  exact .ite (Chip.ctrWrite_shape hp1) (.ite (Chip.disWrite_shape hp1) (.ite (.ite (Chip.chopTest_shape hp1) hp1) (.ite (Chip.pcWrite_shape hp1) (.ite (Chip.standAll_shape (Chip.showDisc_shape (Chip.genericWrite_shape hp1))) (.ite (Chip.ctrLook_shape (Chip.genericWrite_shape hp1)) (.ite (Chip.chopMoved_shape hp1 (Chip.genericWrite_shape hp1)) (.ite (Chip.showVdc_shape (Chip.genericWrite_shape hp1)) (.ite (Chip.standAll_shape (Chip.showVdc_shape (Chip.showOv3_shape (Chip.genericWrite_shape hp1)))) (Chip.refreshHolds_shape (Chip.genericWrite_shape hp1))))))))))

theorem Chip.modLedger_shape {z : Chip} {p1 : Chip} {p2 : ℕ} {p3 : LedgerS → LedgerS} (hp1 : z.KeepsShape p1) : z.KeepsShape (Chip.modLedger p1 p2 p3) := by
  unfold Chip.modLedger
  exact Chip.modChm_shape hp1

theorem Chip.ledStart_shape {z : Chip} {p1 : Chip} {p2 : ℕ} (hp1 : z.KeepsShape p1) : z.KeepsShape (Chip.ledStart p1 p2) := by
  unfold Chip.ledStart
  exact .ite (Chip.modLedger_shape hp1) hp1

theorem Chip.ledSubmit_shape {z : Chip} {p1 : Chip} {p2 : ℕ} (hp1 : z.KeepsShape p1) : z.KeepsShape (Chip.ledSubmit p1 p2) := by
  unfold Chip.ledSubmit
  exact .ite (Chip.ledStart_shape (Chip.submitWrite_shape hp1)) hp1

theorem Chip.limitCl_shape {z : Chip} {p1 : Chip} {p2 : ℕ} {p3 : ℕ} {p4 : ℕ} {p5 : ℕ} (hp1 : z.KeepsShape p1) : z.KeepsShape (Chip.limitCl p1 p2 p3 p4 p5) := by
  unfold Chip.limitCl
  exact Chip.record_shape hp1

theorem Chip.showLim_shape {z : Chip} {p1 : Chip} {p2 : ℕ} (hp1 : z.KeepsShape p1) : z.KeepsShape (Chip.showLim p1 p2) := by
  unfold Chip.showLim
  extract_lets +onlyGivenNames x1
  clear_value x1
  exact Chip.set_shape hp1

theorem Chip.windJudge_shape {z : Chip} {p1 : Chip} {p2 : ℕ} (hp1 : z.KeepsShape p1) : z.KeepsShape (Chip.windJudge p1 p2) := by
  unfold Chip.windJudge
  extract_lets +onlyGivenNames x1
  clear_value x1
  extract_lets +onlyGivenNames x2
  clear_value x2
  extract_lets +onlyGivenNames x3
  have hx3 : z.KeepsShape x3 := .ite (Chip.put_shape hp1) (.ite (Chip.limitCl_shape (Chip.put_shape (Chip.put_shape hp1))) hp1)
  clear_value x3
  exact Chip.showLim_shape hx3

theorem Chip.chmWrite_shape {z : Chip} {p1 : Chip} {p2 : ℕ} {p3 : ℕ} (hp1 : z.KeepsShape p1) : z.KeepsShape (Chip.chmWrite p1 p2 p3) := by
  unfold Chip.chmWrite
  refine .ite (.ite (.each hp1 (fun a1 t2 ht2 => Chip.ledSubmit_shape ht2)) hp1) ?_
  refine .ite ?_ (Chip.genericWrite_shape hp1)
  extract_lets +onlyGivenNames x3
  clear_value x3
  exact Chip.showLearn_shape (Chip.windJudge_shape (Chip.genericWrite_shape hp1))

theorem Chip.canModeSet_shape {z : Chip} {p1 : Chip} {p2 : ℕ} {p3 : ℕ} (hp1 : z.KeepsShape p1) : z.KeepsShape (Chip.canModeSet p1 p2 p3) := by
  unfold Chip.canModeSet
  extract_lets +onlyGivenNames x1
  clear_value x1
  refine .ite hp1 ?_
  extract_lets +onlyGivenNames x2
  have hx2 : z.KeepsShape x2 := Chip.set_shape hp1
  clear_value x2
  extract_lets +onlyGivenNames x3
  clear_value x3
  extract_lets +onlyGivenNames x4
  have hx4 : z.KeepsShape x4 := .each hx2 (fun a5 t6 ht6 => Chip.bufEnd_shape ht6)
  clear_value x4
  extract_lets +onlyGivenNames x7
  have hx7 : z.KeepsShape x7 := .ite (Chip.bufsEnd_shape hx2) (.ite (Chip.modCan_shape hx4) hx4)
  clear_value x7
  exact .ite (Chip.modCan_shape (Chip.put_shape hx7)) (.ite (Chip.put_shape hx7) (Chip.porchLoad_shape hx7))

theorem Chip.rxPop_shape {z : Chip} {p1 : Chip} {p2 : ℕ} (hp1 : z.KeepsShape p1) : z.KeepsShape (Chip.rxPop p1 p2) := by
  unfold Chip.rxPop
  extract_lets +onlyGivenNames x1
  have hx1 : z.KeepsShape x1 := Chip.modCan_shape hp1
  clear_value x1
  exact Chip.set_shape hx1

theorem Chip.hpTake_shape {z : Chip} {p1 : Chip} {p2 : ℕ} (hp1 : z.KeepsShape p1) : z.KeepsShape (Chip.hpTake p1 p2) := by
  unfold Chip.hpTake
  extract_lets +onlyGivenNames x1
  have hx1 : z.KeepsShape x1 := Chip.modCan_shape hp1
  clear_value x1
  exact Chip.put_shape hx1

theorem Chip.recWrite_shape {z : Chip} {p1 : Chip} {p2 : ℕ} {p3 : ℕ} {p4 : ℕ} {p5 : ℕ} (hp1 : z.KeepsShape p1) : z.KeepsShape (Chip.recWrite p1 p2 p3 p4 p5) := by
  unfold Chip.recWrite
  exact .ite (Chip.put_shape hp1) (Chip.recPut_shape hp1)

theorem Chip.txCmd_shape {z : Chip} {p1 : Chip} {p2 : ℕ} {p3 : ℕ} {p4 : ℕ} (hp1 : z.KeepsShape p1) : z.KeepsShape (Chip.txCmd p1 p2 p3 p4) := by
  unfold Chip.txCmd
  extract_lets +onlyGivenNames x1
  have hx1 : ∀ w2, z.KeepsShape w2 → z.KeepsShape (x1 w2) := fun w2 hw2 => Chip.put_shape hw2
  clear_value x1
  refine .ite (hx1 _ hp1) ?_
  extract_lets +onlyGivenNames x3
  have hx3 : z.KeepsShape x3 := Chip.sets_shape hp1
  clear_value x3
  extract_lets +onlyGivenNames x4
  clear_value x4
  extract_lets +onlyGivenNames x5
  have hx5 : z.KeepsShape x5 := .ite (hx1 _ hx3) hx3
  clear_value x5
  refine .ite ?_ ?_
  · refine .ite ?_ (.ite (Chip.bufEnd_shape hx5) (Chip.modCan_shape hx5))
    split
    · exact .ite (Chip.modCan_shape hx5) (Chip.bufEnd_shape hx5)
    · exact Chip.bufEnd_shape hx5
  · refine .ite (Chip.bufEnd_shape hx5) ?_
    refine .ite ?_ hx5
    extract_lets +onlyGivenNames x11
    clear_value x11
    extract_lets +onlyGivenNames x12
    clear_value x12
    extract_lets +onlyGivenNames x13
    clear_value x13
    exact .ite (Chip.bufEnd_shape hx5) (Chip.sets_shape hx5)

theorem Chip.canWrite_shape {z : Chip} {p1 : Chip} {p2 : ℕ} {p3 : ℕ} (hp1 : z.KeepsShape p1) : z.KeepsShape (Chip.canWrite p1 p2 p3) := by
  unfold Chip.canWrite
  extract_lets +onlyGivenNames x1
  clear_value x1
  extract_lets +onlyGivenNames x2
  clear_value x2
  refine .ite (.ite (Chip.configWord_shape hp1) (Chip.put_shape hp1)) ?_
  refine .ite ?_ ?_
  · extract_lets +onlyGivenNames x3
    have hx3 : z.KeepsShape x3 := Chip.canModeSet_shape hp1
    clear_value x3
    extract_lets +onlyGivenNames x4
    have hx4 : z.KeepsShape x4 := .ite (Chip.modCan_shape hx3) hx3
    clear_value x4
    exact .ite (Chip.canReset_shape hx4) hx4
  · refine .ite (.ite (Chip.rxPop_shape hp1) hp1) ?_
    refine .ite (.ite (Chip.hpTake_shape hp1) hp1) ?_
    refine .ite ?_ (.ite hp1 (Chip.genericWrite_shape hp1))
    extract_lets +onlyGivenNames x5
    clear_value x5
    extract_lets +onlyGivenNames x6
    clear_value x6
    exact .ite (Chip.recWrite_shape hp1) (.ite (Chip.txCmd_shape hp1) (.ite hp1 (Chip.hole_shape hp1)))

theorem Chip.canBlockWrite_shape {z : Chip} {p1 : Chip} {p2 : ℕ} {p3 : ℕ} (hp1 : z.KeepsShape p1) : z.KeepsShape (Chip.canBlockWrite p1 p2 p3) := by
  unfold Chip.canBlockWrite
  refine .ite ?_ (Chip.canWrite_shape hp1)
  extract_lets +onlyGivenNames x1
  have hx1 : z.KeepsShape x1 := Chip.canWrite_shape hp1
  clear_value x1
  exact .ite (Chip.unitStart_shape hx1) hx1

theorem Chip.poolWrite_shape {z : Chip} {p1 : Chip} {p2 : ℕ} (hp1 : z.KeepsShape p1) : z.KeepsShape (Chip.poolWrite p1 p2) := by
  unfold Chip.poolWrite
  extract_lets +onlyGivenNames x1
  clear_value x1
  extract_lets +onlyGivenNames x2
  clear_value x2
  exact .ite (Chip.put_shape hp1) (Chip.sets_shape hp1)

theorem Chip.reqAnswer_shape {z : Chip} {p1 : Chip} {p2 : ℕ} (hp1 : z.KeepsShape p1) : z.KeepsShape (Chip.reqAnswer p1 p2) := by
  unfold Chip.reqAnswer
  extract_lets +onlyGivenNames x1
  clear_value x1
  refine .ite hp1 ?_
  extract_lets +onlyGivenNames x2
  have hx2 : z.KeepsShape x2 := .ite (Chip.ackSend_shape hp1) hp1
  clear_value x2
  exact Chip.put_shape hx2

theorem Chip.portCfgWrite_shape {z : Chip} {p1 : Chip} {p2 : ℕ} {p3 : ℕ} (hp1 : z.KeepsShape p1) : z.KeepsShape (Chip.portCfgWrite p1 p2 p3) := by
  unfold Chip.portCfgWrite
  refine .ite (.ite hp1 (Chip.portOff_shape hp1)) ?_
  extract_lets +onlyGivenNames x1
  have hx1 : z.KeepsShape x1 := Chip.sets_shape hp1
  clear_value x1
  exact .ite (Chip.portOn_shape hx1) hx1

theorem Chip.tpCm_shape {z : Chip} {p1 : Chip} {p2 : ℕ} {p3 : Bool} {p4 : OutKind} {p5 : ℕ} {p6 : List Byte} {p7 : ℕ} (hp1 : z.KeepsShape p1) : z.KeepsShape (Chip.tpCm p1 p2 p3 p4 p5 p6 p7) := by
  unfold Chip.tpCm
  exact Chip.porchSend_shape hp1

theorem Chip.tpAbort_shape {z : Chip} {p1 : Chip} {p2 : ℕ} {p3 : Bool} {p4 : ℕ} {p5 : ℕ} {p6 : ℕ} (hp1 : z.KeepsShape p1) : z.KeepsShape (Chip.tpAbort p1 p2 p3 p4 p5 p6) := by
  unfold Chip.tpAbort
  exact Chip.tpCm_shape hp1

theorem Chip.sesAbort_shape {z : Chip} {p1 : Chip} {p2 : ℕ} {p3 : ℕ} {p4 : ℕ} (hp1 : z.KeepsShape p1) : z.KeepsShape (Chip.sesAbort p1 p2 p3 p4) := by
  unfold Chip.sesAbort
  extract_lets +onlyGivenNames x1
  have hx1 : z.KeepsShape x1 := .ite hp1 (Chip.tpAbort_shape hp1)
  clear_value x1
  exact Chip.sesEnd_shape hx1

theorem Chip.sesCancel_shape {z : Chip} {p1 : Chip} {p2 : ℕ} (hp1 : z.KeepsShape p1) : z.KeepsShape (Chip.sesCancel p1 p2) := by
  unfold Chip.sesCancel
  exact .ite (Chip.sesAbort_shape hp1) hp1

theorem Chip.sesStart_shape {z : Chip} {p1 : Chip} {p2 : ℕ} (hp1 : z.KeepsShape p1) : z.KeepsShape (Chip.sesStart p1 p2) := by
  unfold Chip.sesStart
  refine .ite hp1 ?_
  extract_lets +onlyGivenNames x1
  clear_value x1
  extract_lets +onlyGivenNames x2
  clear_value x2
  extract_lets +onlyGivenNames x3
  clear_value x3
  extract_lets +onlyGivenNames x4
  clear_value x4
  extract_lets +onlyGivenNames x5
  clear_value x5
  extract_lets +onlyGivenNames x6
  clear_value x6
  extract_lets +onlyGivenNames x7
  have hx7 : z.KeepsShape x7 := Chip.sets_shape hp1
  clear_value x7
  refine .ite (Chip.sesEnd_shape hx7) ?_
  refine .ite (Chip.sesEnd_shape hx7) ?_
  extract_lets +onlyGivenNames x8
  clear_value x8
  extract_lets +onlyGivenNames x9
  clear_value x9
  extract_lets +onlyGivenNames x10
  have hx10 : z.KeepsShape x10 := Chip.modSes_shape hx7
  clear_value x10
  exact .ite (Chip.tpCm_shape hx10) (.ite (Chip.tpCm_shape hx10) (Chip.tpCm_shape hx10))

theorem Chip.sesRelease_shape {z : Chip} {p1 : Chip} {p2 : ℕ} (hp1 : z.KeepsShape p1) : z.KeepsShape (Chip.sesRelease p1 p2) := by
  unfold Chip.sesRelease
  exact .ite (Chip.set_shape hp1) hp1

theorem Chip.sesCtlWrite_shape {z : Chip} {p1 : Chip} {p2 : ℕ} {p3 : ℕ} (hp1 : z.KeepsShape p1) : z.KeepsShape (Chip.sesCtlWrite p1 p2 p3) := by
  unfold Chip.sesCtlWrite
  extract_lets +onlyGivenNames x1
  have hx1 : z.KeepsShape x1 := Chip.sets_shape hp1
  clear_value x1
  refine .ite ?_ (.ite (Chip.sesRelease_shape hx1) hx1)
  extract_lets +onlyGivenNames x2
  have hx2 : z.KeepsShape x2 := Chip.set_shape hx1
  clear_value x2
  extract_lets +onlyGivenNames x3
  have hx3 : z.KeepsShape x3 := .ite (Chip.sesCancel_shape hx2) hx2
  clear_value x3
  exact .ite (Chip.sesStart_shape hx3) hx3

theorem Chip.porchWrite_shape {z : Chip} {p1 : Chip} {p2 : ℕ} {p3 : ℕ} (hp1 : z.KeepsShape p1) : z.KeepsShape (Chip.porchWrite p1 p2 p3) := by
  unfold Chip.porchWrite
  extract_lets +onlyGivenNames x1
  clear_value x1
  exact .ite (Chip.poolWrite_shape hp1) (.ite (Chip.reqAnswer_shape hp1) (.ite (Chip.portCfgWrite_shape hp1) (.ite (.ite (Chip.claimPref_shape hp1) hp1) (.ite (Chip.genericWrite_shape hp1) (.ite (Chip.sesCtlWrite_shape hp1) (Chip.genericWrite_shape hp1))))))

theorem Chip.ringStart_shape {z : Chip} {p1 : Chip} (hp1 : z.KeepsShape p1) : z.KeepsShape (Chip.ringStart p1) := by
  unfold Chip.ringStart
  extract_lets +onlyGivenNames x1
  have hx1 : z.KeepsShape x1 := Chip.sets_shape hp1
  clear_value x1
  extract_lets +onlyGivenNames x2
  have hx2 : z.KeepsShape x2 := Chip.modRing_shape hx1
  clear_value x2
  exact .ite (Chip.set_shape (Chip.roleSet_shape hx2)) (Chip.set_shape (Chip.roleSet_shape hx2))

theorem Chip.ringEnable_shape {z : Chip} {p1 : Chip} (hp1 : z.KeepsShape p1) : z.KeepsShape (Chip.ringEnable p1) := by
  unfold Chip.ringEnable
  refine .ite hp1 ?_
  extract_lets +onlyGivenNames x1
  clear_value x1
  exact .ite (Chip.note_shape (Chip.put_shape hp1)) (.ite (Chip.modRing_shape (Chip.put_shape hp1)) (Chip.ringStart_shape hp1))

theorem Chip.ringOff_shape {z : Chip} {p1 : Chip} (hp1 : z.KeepsShape p1) : z.KeepsShape (Chip.ringOff p1) := by
  unfold Chip.ringOff
  refine .ite hp1 ?_
  extract_lets +onlyGivenNames x1
  have hx1 : z.KeepsShape x1 := Chip.msgsDown_shape hp1
  clear_value x1
  extract_lets +onlyGivenNames x2
  have hx2 : z.KeepsShape x2 := Chip.sets_shape (Chip.roleSet_shape hx1)
  clear_value x2
  exact Chip.modRing_shape hx2

theorem Chip.msgCfg_shape {z : Chip} {p1 : Chip} {p2 : ℕ} (hp1 : z.KeepsShape p1) : z.KeepsShape (Chip.msgCfg p1 p2) := by
  unfold Chip.msgCfg
  extract_lets +onlyGivenNames x1
  have hx1 : z.KeepsShape x1 := Chip.sets_shape hp1
  clear_value x1
  exact Chip.put_shape hx1

theorem Chip.msgCtl_shape {z : Chip} {p1 : Chip} {p2 : ℕ} {p3 : ℕ} (hp1 : z.KeepsShape p1) : z.KeepsShape (Chip.msgCtl p1 p2 p3) := by
  unfold Chip.msgCtl
  extract_lets +onlyGivenNames x1
  have hx1 : z.KeepsShape x1 := Chip.sets_shape hp1
  clear_value x1
  refine .ite ?_ (.ite (.ite (Chip.modMsg_shape hx1) (Chip.msgEnd_shape hx1)) hx1)
  extract_lets +onlyGivenNames x2
  have hx2 : z.KeepsShape x2 := Chip.sets_shape hx1
  clear_value x2
  extract_lets +onlyGivenNames x3
  clear_value x3
  extract_lets +onlyGivenNames x4
  clear_value x4
  extract_lets +onlyGivenNames x5
  clear_value x5
  extract_lets +onlyGivenNames x6
  clear_value x6
  exact .ite (Chip.msgEnd_shape hx2) (.ite (Chip.msgEnd_shape hx2) (.ite (Chip.msgEnd_shape hx2) (Chip.modMsg_shape hx2)))

theorem Chip.ringWrite_shape {z : Chip} {p1 : Chip} {p2 : ℕ} {p3 : ℕ} (hp1 : z.KeepsShape p1) : z.KeepsShape (Chip.ringWrite p1 p2 p3) := by
  unfold Chip.ringWrite
  extract_lets +onlyGivenNames x1
  clear_value x1
  refine .ite (.ite hp1 (Chip.configWord_shape hp1)) ?_
  refine .ite ?_ (.ite (Chip.msgCfg_shape hp1) (.ite (Chip.msgCtl_shape hp1) (Chip.genericWrite_shape hp1)))
  extract_lets +onlyGivenNames x2
  have hx2 : z.KeepsShape x2 := .ite (Chip.sets_shape hp1) hp1
  clear_value x2
  extract_lets +onlyGivenNames x3
  have hx3 : z.KeepsShape x3 := .ite (Chip.ringEnable_shape hx2) (Chip.ringOff_shape hx2)
  clear_value x3
  exact .ite (Chip.ringReset_shape hx3) hx3

theorem Chip.ringBlockWrite_shape {z : Chip} {p1 : Chip} {p2 : ℕ} {p3 : ℕ} (hp1 : z.KeepsShape p1) : z.KeepsShape (Chip.ringBlockWrite p1 p2 p3) := by
  unfold Chip.ringBlockWrite
  refine .ite ?_ (Chip.ringWrite_shape hp1)
  extract_lets +onlyGivenNames x1
  have hx1 : z.KeepsShape x1 := Chip.ringWrite_shape hp1
  clear_value x1
  exact .ite (Chip.unitStart_shape hx1) hx1

theorem Chip.hwIrq_shape {z : Chip} {p1 : Chip} (hp1 : z.KeepsShape p1) : z.KeepsShape (Chip.hwIrq p1) := by
  unfold Chip.hwIrq
  extract_lets +onlyGivenNames x1
  clear_value x1
  exact Chip.put_shape hp1

theorem Chip.cqSettle_shape {z : Chip} {p1 : Chip} {p2 : ℕ} (hp1 : z.KeepsShape p1) : z.KeepsShape (Chip.cqSettle p1 p2) := by
  unfold Chip.cqSettle
  refine .ite (.ite (Chip.hwIrq_shape (Chip.set_shape hp1)) (Chip.hwIrq_shape hp1)) ?_
  extract_lets +onlyGivenNames x1
  clear_value x1
  extract_lets +onlyGivenNames x2
  clear_value x2
  exact .ite (Chip.hwIrq_shape (Chip.sets_shape hp1)) (Chip.hwIrq_shape hp1)

theorem Chip.idleWrite_shape {z : Chip} {p1 : Chip} {p2 : ℕ} (hp1 : z.KeepsShape p1) : z.KeepsShape (Chip.idleWrite p1 p2) := by
  unfold Chip.idleWrite
  extract_lets +onlyGivenNames x1
  have hx1 : z.KeepsShape x1 := Chip.sets_shape hp1
  clear_value x1
  exact .each hx1 (fun a2 t3 ht3 => Chip.cqSettle_shape ht3)

theorem Chip.casUndo_shape {z : Chip} {p1 : Chip} {p2 : CasTick} (hp1 : z.KeepsShape p1) : z.KeepsShape (Chip.casUndo p1 p2) := by
  unfold Chip.casUndo
  exact Chip.setByte_shape (Chip.setByte_shape hp1)

theorem Chip.ownViolation_shape {z : Chip} {p1 : Chip} {p2 : ℕ} (hp1 : z.KeepsShape p1) : z.KeepsShape (Chip.ownViolation p1 p2) := by
  unfold Chip.ownViolation
  exact Chip.note_shape (Chip.put_shape hp1)

theorem Chip.modHw_shape {z : Chip} {p1 : Chip} {p2 : HwS → HwS} (hp1 : z.KeepsShape p1) : z.KeepsShape (Chip.modHw p1 p2) := by
  unfold Chip.modHw
  exact (hp1.step rfl)

theorem Chip.casOne_shape {z : Chip} {p1 : Chip} {p2 : Requester} {p3 : ℕ} {p4 : Bool} (hp1 : z.KeepsShape p1) : z.KeepsShape (Chip.casOne p1 p2 p3 p4) := by
  unfold Chip.casOne
  extract_lets +onlyGivenNames x1
  clear_value x1
  extract_lets +onlyGivenNames x2
  clear_value x2
  extract_lets +onlyGivenNames x3
  clear_value x3
  extract_lets +onlyGivenNames x4
  clear_value x4
  extract_lets +onlyGivenNames x5
  have hx5 : z.KeepsShape x5 := .ite (.ite (Chip.ownViolation_shape hp1) hp1) (.ite (Chip.flagPut_shape hp1) hp1)
  clear_value x5
  extract_lets +onlyGivenNames x6
  clear_value x6
  exact Chip.modHw_shape hx5

theorem Chip.casWrite_shape {z : Chip} {p1 : Chip} {p2 : Requester} {p3 : ℕ} (hp1 : z.KeepsShape p1) : z.KeepsShape (Chip.casWrite p1 p2 p3) := by
  unfold Chip.casWrite
  extract_lets +onlyGivenNames x1
  clear_value x1
  extract_lets +onlyGivenNames x2
  clear_value x2
  extract_lets +onlyGivenNames x3
  extract_lets +onlyGivenNames x4
  extract_lets +onlyGivenNames x5
  extract_lets +onlyGivenNames x6
  have hx6 : z.KeepsShape x6 := .ite hp1 (Chip.casUndo_shape hp1)
  clear_value x6
  extract_lets +onlyGivenNames x7
  have hx7 : z.KeepsShape x7 := .each hx6 (fun a8 t9 ht9 => Chip.casOne_shape ht9)
  clear_value x7
  extract_lets +onlyGivenNames x10
  exact Chip.modHw_shape hx7

theorem Chip.hostwrWrite_shape {z : Chip} {p1 : Chip} {p2 : Requester} {p3 : ℕ} (hp1 : z.KeepsShape p1) : z.KeepsShape (Chip.hostwrWrite p1 p2 p3) := by
  unfold Chip.hostwrWrite
  split
  · exact Chip.set_shape hp1
  · exact hp1

theorem Chip.modHwQ_shape {z : Chip} {p1 : Chip} {p2 : ℕ} {p3 : HwQ → HwQ} (hp1 : z.KeepsShape p1) : z.KeepsShape (Chip.modHwQ p1 p2 p3) := by
  unfold Chip.modHwQ
  exact Chip.modHw_shape hp1

theorem Chip.modDesc_shape {z : Chip} {p1 : Chip} {p2 : ℕ} {p3 : DescS → DescS} (hp1 : z.KeepsShape p1) : z.KeepsShape (Chip.modDesc p1 p2 p3) := by
  unfold Chip.modDesc
  exact Chip.modHwQ_shape hp1

theorem Chip.hwShow_shape {z : Chip} {p1 : Chip} {p2 : ℕ} (hp1 : z.KeepsShape p1) : z.KeepsShape (Chip.hwShow p1 p2) := by
  unfold Chip.hwShow
  extract_lets +onlyGivenNames x1
  extract_lets +onlyGivenNames x2
  have hx2 : z.KeepsShape x2 := by
    unfold x2
    split
    · exact .ite (Chip.sets_shape hp1) (Chip.set_shape hp1)
    · exact Chip.set_shape hp1
  clear_value x2
  exact Chip.sets_shape hx2

theorem Chip.descEnd_shape {z : Chip} {p1 : Chip} {p2 : ℕ} {p3 : ℕ} {p4 : ℕ} (hp1 : z.KeepsShape p1) : z.KeepsShape (Chip.descEnd p1 p2 p3 p4) := by
  unfold Chip.descEnd
  exact Chip.hwShow_shape (Chip.modDesc_shape hp1)

theorem Chip.msgDone_shape {z : Chip} {p1 : Chip} {p2 : ℕ} (hp1 : z.KeepsShape p1) : z.KeepsShape (Chip.msgDone p1 p2) := by
  unfold Chip.msgDone
  extract_lets +onlyGivenNames x1
  clear_value x1
  extract_lets +onlyGivenNames x2
  clear_value x2
  refine .ite ?_ hp1
  extract_lets +onlyGivenNames x3
  have hx3 : z.KeepsShape x3 := Chip.modDesc_shape (Chip.clrBitOf_shape hp1)
  clear_value x3
  exact Chip.descEnd_shape hx3

theorem Chip.hwAbortEnd_shape {z : Chip} {p1 : Chip} {p2 : ℕ} (hp1 : z.KeepsShape p1) : z.KeepsShape (Chip.hwAbortEnd p1 p2) := by
  unfold Chip.hwAbortEnd
  extract_lets +onlyGivenNames x1
  refine .ite ?_ (Chip.hwShow_shape hp1)
  extract_lets +onlyGivenNames x2
  have hx2 : z.KeepsShape x2 := Chip.modHwQ_shape hp1
  clear_value x2
  exact Chip.hwShow_shape (Chip.sets_shape hx2)

theorem Chip.hwAbortRun_shape {z : Chip} {p1 : Chip} {p2 : ℕ} (hp1 : z.KeepsShape p1) : z.KeepsShape (Chip.hwAbortRun p1 p2) := by
  unfold Chip.hwAbortRun
  split
  · rename_i y1 y2 q3 q4
    refine .ite ?_ hp1
    extract_lets +onlyGivenNames x5
    have hx5 : z.KeepsShape x5 := Chip.dropWrite_shape hp1
    clear_value x5
    extract_lets +onlyGivenNames x6
    have hx6 : z.KeepsShape x6 := Chip.modDesc_shape (Chip.clrBitOf_shape hx5)
    clear_value x6
    exact Chip.hwShow_shape hx6
  · exact hp1

theorem Chip.hwAbort_shape {z : Chip} {p1 : Chip} {p2 : ℕ} {p3 : Bool} (hp1 : z.KeepsShape p1) : z.KeepsShape (Chip.hwAbort p1 p2 p3) := by
  unfold Chip.hwAbort
  extract_lets +onlyGivenNames x1
  have hx1 : z.KeepsShape x1 := Chip.modHwQ_shape (Chip.set_shape hp1)
  clear_value x1
  exact Chip.hwAbortEnd_shape (Chip.hwAbortRun_shape hx1)

theorem Chip.queueBad_shape {z : Chip} {p1 : Chip} {p2 : ℕ} {p3 : ℕ} {p4 : ℕ} (hp1 : z.KeepsShape p1) : z.KeepsShape (Chip.queueBad p1 p2 p3 p4) := by
  unfold Chip.queueBad
  exact Chip.note_shape (Chip.put_shape hp1)

theorem Chip.sqCfgWrite_shape {z : Chip} {p1 : Chip} {p2 : ℕ} {p3 : ℕ} (hp1 : z.KeepsShape p1) : z.KeepsShape (Chip.sqCfgWrite p1 p2 p3) := by
  unfold Chip.sqCfgWrite
  refine .ite (.ite hp1 (Chip.hwAbort_shape hp1)) ?_
  extract_lets +onlyGivenNames x1
  have hx1 : z.KeepsShape x1 := Chip.sets_shape hp1
  clear_value x1
  exact .ite hx1 (.ite (Chip.queueBad_shape hx1) (Chip.put_shape hx1))

theorem Chip.modGroup_shape {z : Chip} {p1 : Chip} {p2 : ℕ} {p3 : ℕ} {p4 : GroupS → GroupS} (hp1 : z.KeepsShape p1) : z.KeepsShape (Chip.modGroup p1 p2 p3 p4) := by
  unfold Chip.modGroup
  exact (hp1.step rfl)

theorem Chip.moderate_shape {z : Chip} {p1 : Chip} {p2 : ℕ} (hp1 : z.KeepsShape p1) : z.KeepsShape (Chip.moderate p1 p2) := by
  unfold Chip.moderate
  exact .ite (Chip.modGroup_shape hp1) hp1

theorem Chip.pulse_shape {z : Chip} {p1 : Chip} {p2 : ℕ} (hp1 : z.KeepsShape p1) : z.KeepsShape (Chip.pulse p1 p2) := by
  unfold Chip.pulse
  exact Chip.moderate_shape (hp1.step rfl)

theorem Chip.sqTailWrite_shape {z : Chip} {p1 : Chip} {p2 : Requester} {p3 : ℕ} {p4 : ℕ} (hp1 : z.KeepsShape p1) : z.KeepsShape (Chip.sqTailWrite p1 p2 p3 p4) := by
  unfold Chip.sqTailWrite
  extract_lets +onlyGivenNames x1
  clear_value x1
  exact .ite (Chip.queueBad_shape hp1) (.ite (Chip.queueBad_shape hp1) (.ite (Chip.queueBad_shape hp1) (Chip.pulse_shape (Chip.set_shape hp1))))

theorem Chip.cqCfgWrite_shape {z : Chip} {p1 : Chip} {p2 : ℕ} {p3 : ℕ} (hp1 : z.KeepsShape p1) : z.KeepsShape (Chip.cqCfgWrite p1 p2 p3) := by
  unfold Chip.cqCfgWrite
  refine .ite (.ite hp1 (Chip.put_shape hp1)) ?_
  extract_lets +onlyGivenNames x1
  have hx1 : z.KeepsShape x1 := Chip.sets_shape hp1
  clear_value x1
  exact .ite hx1 (.ite (Chip.queueBad_shape hx1) (Chip.sets_shape hx1))

theorem Chip.cqHeadWrite_shape {z : Chip} {p1 : Chip} {p2 : ℕ} {p3 : ℕ} (hp1 : z.KeepsShape p1) : z.KeepsShape (Chip.cqHeadWrite p1 p2 p3) := by
  unfold Chip.cqHeadWrite
  exact Chip.cqSettle_shape (Chip.set_shape hp1)

theorem Chip.cqModWrite_shape {z : Chip} {p1 : Chip} {p2 : ℕ} {p3 : ℕ} (hp1 : z.KeepsShape p1) : z.KeepsShape (Chip.cqModWrite p1 p2 p3) := by
  unfold Chip.cqModWrite
  exact Chip.cqSettle_shape (Chip.sets_shape hp1)

theorem Chip.hwWrite_shape {z : Chip} {p1 : Chip} {p2 : Requester} {p3 : ℕ} {p4 : ℕ} (hp1 : z.KeepsShape p1) : z.KeepsShape (Chip.hwWrite p1 p2 p3 p4) := by
  unfold Chip.hwWrite
  extract_lets +onlyGivenNames x1
  clear_value x1
  refine .ite hp1 ?_
  refine .ite (Chip.idleWrite_shape hp1) ?_
  refine .ite (Chip.casWrite_shape hp1) ?_
  refine .ite (Chip.hostwrWrite_shape hp1) ?_
  refine .ite (Chip.msgDone_shape hp1) ?_
  refine .ite ?_ ?_
  · extract_lets +onlyGivenNames x2
    clear_value x2
    exact .ite (Chip.sqCfgWrite_shape hp1) (.ite (Chip.sqTailWrite_shape hp1) (.ite (.ite (Chip.hwAbort_shape hp1) hp1) hp1))
  · refine .ite ?_ (Chip.genericWrite_shape hp1)
    extract_lets +onlyGivenNames x3
    clear_value x3
    exact .ite (Chip.cqCfgWrite_shape hp1) (.ite (Chip.cqHeadWrite_shape hp1) (.ite (Chip.cqModWrite_shape hp1) hp1))

theorem Chip.routeWrite_shape {z : Chip} {p1 : Chip} {p2 : ℕ} {p3 : ℕ} (hp1 : z.KeepsShape p1) : z.KeepsShape (Chip.routeWrite p1 p2 p3) := by
  unfold Chip.routeWrite
  refine .each hp1 ?_
  intro a1 t2 ht2
  extract_lets +onlyGivenNames x3
  clear_value x3
  refine .ite ht2 ?_
  extract_lets +onlyGivenNames x4
  extract_lets +onlyGivenNames x5
  have hx5 : z.KeepsShape x5 := .ite (ht2.step rfl) ht2
  clear_value x5
  exact Chip.sets_shape hx5

theorem Chip.pendClear_shape {z : Chip} {p1 : Chip} {p2 : ℕ} {p3 : ℕ} (hp1 : z.KeepsShape p1) : z.KeepsShape (Chip.pendClear p1 p2 p3) := by
  unfold Chip.pendClear
  extract_lets +onlyGivenNames x1
  clear_value x1
  exact (hp1.step rfl)

theorem Chip.spuriousWrite_shape {z : Chip} {p1 : Chip} {p2 : ℕ} (hp1 : z.KeepsShape p1) : z.KeepsShape (Chip.spuriousWrite p1 p2) := by
  unfold Chip.spuriousWrite
  exact .each hp1 (fun a1 t2 ht2 => .ite (Chip.set_shape ht2) ht2)

theorem Chip.privateSrc_shape {z : Chip} {p1 : Chip} {p2 : ℕ} {p3 : ℕ} (hp1 : z.KeepsShape p1) : z.KeepsShape (Chip.privateSrc p1 p2 p3) := by
  unfold Chip.privateSrc
  exact Chip.setBitOf_shape hp1

theorem Chip.swiWrite_shape {z : Chip} {p1 : Chip} {p2 : ℕ} (hp1 : z.KeepsShape p1) : z.KeepsShape (Chip.swiWrite p1 p2) := by
  unfold Chip.swiWrite
  exact .each hp1 (fun a1 t2 ht2 => .ite (Chip.privateSrc_shape ht2) ht2)

theorem Chip.modHart_shape {z : Chip} {p1 : Chip} {p2 : ℕ} {p3 : HartS → HartS} (hp1 : z.KeepsShape p1) : z.KeepsShape (Chip.modHart p1 p2 p3) := by
  unfold Chip.modHart
  exact (hp1.step (by simp [Chip.lens, updNth_length]))

theorem Chip.wdtWrite_shape {z : Chip} {p1 : Chip} {p2 : ℕ} {p3 : ℕ} (hp1 : z.KeepsShape p1) : z.KeepsShape (Chip.wdtWrite p1 p2 p3) := by
  unfold Chip.wdtWrite
  refine .ite hp1 ?_
  extract_lets +onlyGivenNames x1
  have hx1 : z.KeepsShape x1 := Chip.modHart_shape hp1
  clear_value x1
  exact .ite hx1 (Chip.sets_shape hx1)

theorem Chip.semSet_shape {z : Chip} {p1 : Chip} {p2 : ℕ} {p3 : ℕ} (hp1 : z.KeepsShape p1) : z.KeepsShape (Chip.semSet p1 p2 p3) := by
  unfold Chip.semSet
  exact Chip.set_shape hp1

theorem Chip.semGrant_shape {z : Chip} {p1 : Chip} {p2 : Requester} {p3 : ℕ} {p4 : Bool} (hp1 : z.KeepsShape p1) : z.KeepsShape (Chip.semGrant p1 p2 p3 p4) := by
  unfold Chip.semGrant
  extract_lets +onlyGivenNames x1
  have hx1 : z.KeepsShape x1 := Chip.semSet_shape hp1
  clear_value x1
  exact (hx1.step rfl)

theorem Chip.semQueue_shape {z : Chip} {p1 : Chip} {p2 : Requester} {p3 : ℕ} (hp1 : z.KeepsShape p1) : z.KeepsShape (Chip.semQueue p1 p2 p3) := by
  unfold Chip.semQueue
  exact .ite hp1 (hp1.step rfl)

theorem Chip.semAsk_shape {z : Chip} {p1 : Chip} {p2 : Requester} {p3 : ℕ} {p4 : Bool} (hp1 : z.KeepsShape p1) : z.KeepsShape (Chip.semAsk p1 p2 p3 p4) := by
  unfold Chip.semAsk
  refine .ite (Chip.semGrant_shape hp1) ?_
  refine .ite hp1 ?_
  split
  · rename_i y1 y2 q3
    extract_lets +onlyGivenNames x4
    have hx4 : z.KeepsShape x4 := Chip.semGrant_shape hp1
    clear_value x4
    exact .ite (Chip.semQueue_shape hx4) hx4
  · exact .ite (Chip.semQueue_shape hp1) hp1

theorem Chip.semTake_shape {z : Chip} {p1 : Chip} {p2 : Requester} {p3 : ℕ} (hp1 : z.KeepsShape p1) : z.KeepsShape (Chip.semTake p1 p2 p3) := by
  unfold Chip.semTake
  exact Chip.semAsk_shape hp1

theorem Chip.semRelease_shape {z : Chip} {p1 : Chip} {p2 : ℕ} (hp1 : z.KeepsShape p1) : z.KeepsShape (Chip.semRelease p1 p2) := by
  unfold Chip.semRelease
  split
  · exact Chip.semSet_shape hp1
  · rename_i y3 q4
    extract_lets +onlyGivenNames x5
    have hx5 : z.KeepsShape x5 := Chip.semSet_shape hp1
    clear_value x5
    extract_lets +onlyGivenNames x6
    extract_lets +onlyGivenNames x7
    have hx7 : z.KeepsShape x7 := (hx5.step rfl)
    clear_value x7
    split
    · exact Chip.privateSrc_shape hx7
    · exact hx7

theorem Chip.semGive_shape {z : Chip} {p1 : Chip} {p2 : Requester} {p3 : ℕ} (hp1 : z.KeepsShape p1) : z.KeepsShape (Chip.semGive p1 p2 p3) := by
  unfold Chip.semGive
  exact .ite (Chip.semRelease_shape hp1) (Chip.note_shape (Chip.put_shape hp1))

theorem Chip.semTakeOrWait_shape {z : Chip} {p1 : Chip} {p2 : Requester} {p3 : ℕ} (hp1 : z.KeepsShape p1) : z.KeepsShape (Chip.semTakeOrWait p1 p2 p3) := by
  unfold Chip.semTakeOrWait
  exact Chip.semAsk_shape hp1

theorem Chip.semCancel_shape {z : Chip} {p1 : Chip} {p2 : Requester} {p3 : ℕ} (hp1 : z.KeepsShape p1) : z.KeepsShape (Chip.semCancel p1 p2 p3) := by
  unfold Chip.semCancel
  exact (hp1.step rfl)

theorem Chip.semReq_shape {z : Chip} {p1 : Chip} {p2 : Requester} {p3 : ℕ} (hp1 : z.KeepsShape p1) : z.KeepsShape (Chip.semReq p1 p2 p3) := by
  unfold Chip.semReq
  extract_lets +onlyGivenNames x1
  clear_value x1
  split
  · exact Chip.semTake_shape hp1
  · exact Chip.semGive_shape hp1
  · exact Chip.semTakeOrWait_shape hp1
  · exact Chip.semCancel_shape hp1

theorem Chip.injWrite_shape {z : Chip} {p1 : Chip} {p2 : ℕ} (hp1 : z.KeepsShape p1) : z.KeepsShape (Chip.injWrite p1 p2) := by
  unfold Chip.injWrite
  extract_lets +onlyGivenNames x1
  have hx1 : z.KeepsShape x1 := Chip.sets_shape hp1
  clear_value x1
  exact .ite (Chip.put_shape hx1) hx1

theorem Chip.coreWrite_shape {z : Chip} {p1 : Chip} {p2 : Requester} {p3 : ℕ} {p4 : ℕ} (hp1 : z.KeepsShape p1) : z.KeepsShape (Chip.coreWrite p1 p2 p3 p4) := by
  unfold Chip.coreWrite
  extract_lets +onlyGivenNames x1
  clear_value x1
  exact .ite (Chip.routeWrite_shape hp1) (.ite (Chip.pendClear_shape hp1) (.ite (Chip.spuriousWrite_shape hp1) (.ite (Chip.swiWrite_shape hp1) (.ite hp1 (.ite (Chip.wdtWrite_shape hp1) (.ite (Chip.semReq_shape hp1) (.ite (Chip.injWrite_shape hp1) (Chip.genericWrite_shape hp1))))))))

theorem Chip.transfer_shape {z : Chip} {p1 : Chip} {p2 : ℕ} {p3 : ℕ} (hp1 : z.KeepsShape p1) : z.KeepsShape (Chip.transfer p1 p2 p3) := by
  unfold Chip.transfer
  extract_lets +onlyGivenNames x1
  have hx1 : z.KeepsShape x1 := Chip.modPwr_shape hp1
  clear_value x1
  exact Chip.put_shape hx1

theorem Chip.sleepWrite_shape {z : Chip} {p1 : Chip} {p2 : ℕ} (hp1 : z.KeepsShape p1) : z.KeepsShape (Chip.sleepWrite p1 p2) := by
  unfold Chip.sleepWrite
  extract_lets +onlyGivenNames x1
  clear_value x1
  refine .ite (Chip.note_shape (Chip.sets_shape hp1)) ?_
  extract_lets +onlyGivenNames x2
  have hx2 : z.KeepsShape x2 := Chip.sets_shape hp1
  clear_value x2
  exact Chip.modPwr_shape (Chip.transfer_shape hx2)

theorem Chip.isoAssert_shape {z : Chip} {p1 : Chip} {p2 : ℕ} (hp1 : z.KeepsShape p1) : z.KeepsShape (Chip.isoAssert p1 p2) := by
  unfold Chip.isoAssert
  exact .ite hp1 (Chip.putIso_shape hp1)

theorem Chip.lateStart_shape {z : Chip} {p1 : Chip} {p2 : ℕ} (hp1 : z.KeepsShape p1) : z.KeepsShape (Chip.lateStart p1 p2) := by
  unfold Chip.lateStart
  extract_lets +onlyGivenNames x1
  refine .ite ?_ hp1
  extract_lets +onlyGivenNames x2
  extract_lets +onlyGivenNames x3
  have hx3 : z.KeepsShape x3 := (hp1.step rfl)
  clear_value x3
  exact Chip.isoAssert_shape (Chip.openGate_shape hx3)

theorem Chip.upWrite_shape {z : Chip} {p1 : Chip} {p2 : ℕ} (hp1 : z.KeepsShape p1) : z.KeepsShape (Chip.upWrite p1 p2) := by
  unfold Chip.upWrite
  exact .ite (Chip.lateStart_shape (Chip.put_shape hp1)) hp1

theorem Chip.rgnCtlWrite_shape {z : Chip} {p1 : Chip} {p2 : ℕ} (hp1 : z.KeepsShape p1) : z.KeepsShape (Chip.rgnCtlWrite p1 p2) := by
  unfold Chip.rgnCtlWrite
  extract_lets +onlyGivenNames x1
  have hx1 : z.KeepsShape x1 := Chip.sets_shape hp1
  clear_value x1
  extract_lets +onlyGivenNames x2
  have hx2 : z.KeepsShape x2 := .ite hx1 (Chip.openGate_shape hx1)
  clear_value x2
  extract_lets +onlyGivenNames x3
  have hx3 : z.KeepsShape x3 := .ite hx2 (Chip.openGate_shape hx2)
  clear_value x3
  extract_lets +onlyGivenNames x4
  have hx4 : z.KeepsShape x4 := .ite (Chip.upWrite_shape hx3) hx3
  clear_value x4
  exact .ite (Chip.upWrite_shape hx4) hx4

theorem Chip.powerWrite_shape {z : Chip} {p1 : Chip} {p2 : ℕ} {p3 : ℕ} (hp1 : z.KeepsShape p1) : z.KeepsShape (Chip.powerWrite p1 p2 p3) := by
  unfold Chip.powerWrite
  refine .ite (Chip.sleepWrite_shape hp1) ?_
  refine .ite (Chip.rgnCtlWrite_shape hp1) ?_
  refine .ite ?_ (.ite hp1 (Chip.genericWrite_shape hp1))
  extract_lets +onlyGivenNames x1
  have hx1 : z.KeepsShape x1 := Chip.genericWrite_shape hp1
  clear_value x1
  exact Chip.transfer_shape hx1

theorem Chip.dieRelease_shape {z : Chip} {p1 : Chip} (hp1 : z.KeepsShape p1) : z.KeepsShape (Chip.dieRelease p1) := by
  unfold Chip.dieRelease
  exact (hp1.step rfl)

theorem Chip.fltDemand_shape {z : Chip} {p1 : Chip} (hp1 : z.KeepsShape p1) : z.KeepsShape (Chip.fltDemand p1) := by
  unfold Chip.fltDemand
  extract_lets +onlyGivenNames x1
  have hx1 : z.KeepsShape x1 := Chip.allHiz_shape (Chip.sets_shape hp1)
  clear_value x1
  extract_lets +onlyGivenNames x2
  have hx2 : z.KeepsShape x2 := Chip.firstNote_shape hx1
  clear_value x2
  extract_lets +onlyGivenNames x3
  have hx3 : z.KeepsShape x3 := Chip.sets_shape hx2
  clear_value x3
  exact Chip.faultAll_shape hx3

theorem Chip.tryRelease_shape {z : Chip} {p1 : Chip} (hp1 : z.KeepsShape p1) : z.KeepsShape (Chip.tryRelease p1) := by
  unfold Chip.tryRelease
  refine .ite ?_ hp1
  extract_lets +onlyGivenNames x1
  have hx1 : z.KeepsShape x1 := Chip.dieRelease_shape hp1
  clear_value x1
  extract_lets +onlyGivenNames x2
  have hx2 : z.KeepsShape x2 := .ite (Chip.put_shape hx1) hx1
  clear_value x2
  exact .ite (Chip.fltDemand_shape hx2) hx2

theorem Chip.ledCut_shape {z : Chip} {p1 : Chip} (hp1 : z.KeepsShape p1) : z.KeepsShape (Chip.ledCut p1) := by
  unfold Chip.ledCut
  exact .each hp1 (fun a1 t2 ht2 => .ite (Chip.useFree_shape (Chip.setBytes_shape ht2)) ht2)

theorem Chip.cfgCut_shape {z : Chip} {p1 : Chip} (hp1 : z.KeepsShape p1) : z.KeepsShape (Chip.cfgCut p1) := by
  unfold Chip.cfgCut
  extract_lets +onlyGivenNames x1
  have hx1 : z.KeepsShape x1 := .ite (Chip.useFree_shape (Chip.setBytes_shape hp1)) hp1
  clear_value x1
  refine .ite ?_ hx1
  extract_lets +onlyGivenNames x2
  clear_value x2
  extract_lets +onlyGivenNames x3
  have hx3 : z.KeepsShape x3 := Chip.useFree_shape hx1
  clear_value x3
  exact (hx3.step rfl)

theorem Chip.hwCut_shape {z : Chip} {p1 : Chip} (hp1 : z.KeepsShape p1) : z.KeepsShape (Chip.hwCut p1) := by
  unfold Chip.hwCut
  refine .each hp1 ?_
  intro a1 t2 ht2
  split
  · rename_i y3 q4
    refine .ite ?_ ht2
    extract_lets +onlyGivenNames x5
    clear_value x5
    exact Chip.useFree_shape (Chip.setBytes_shape ht2)
  · exact ht2

theorem Chip.dieReset_shape {z : Chip} {p1 : Chip} {p2 : ℕ} (hp1 : z.KeepsShape p1) : z.KeepsShape (Chip.dieReset p1 p2) := by
  unfold Chip.dieReset
  extract_lets x1 same x2 x3
  have hx3 : z.KeepsShape x3 := Chip.set_shape (Chip.ledCut_shape (Chip.cfgCut_shape (Chip.hwCut_shape hp1)))
  clear_value x1 x3
  intro x
  have y := hx3 x
  exact ⟨rfl, rfl, rfl, by simpa using y.pos, rfl, rfl, by simpa using y.isl, rfl, rfl⟩

theorem Chip.modRgn_shape {z : Chip} {p1 : Chip} {p2 : ℕ} {p3 : RegionS → RegionS} (hp1 : z.KeepsShape p1) : z.KeepsShape (Chip.modRgn p1 p2 p3) := by
  unfold Chip.modRgn
  exact (hp1.step (by simp [Chip.lens, updNth_length]))

theorem Chip.showHiz_shape {z : Chip} {p1 : Chip} {p2 : ℕ} (hp1 : z.KeepsShape p1) : z.KeepsShape (Chip.showHiz p1 p2) := by
  unfold Chip.showHiz
  refine .ite hp1 ?_
  extract_lets +onlyGivenNames x1
  clear_value x1
  exact Chip.put_shape hp1

theorem Chip.hwRegion_shape {z : Chip} {p1 : Chip} {p2 : ℕ} (hp1 : z.KeepsShape p1) : z.KeepsShape (Chip.hwRegion p1 p2) := by
  unfold Chip.hwRegion
  refine .each hp1 ?_
  intro a1 t2 ht2
  extract_lets +onlyGivenNames x3
  clear_value x3
  extract_lets +onlyGivenNames x4
  have hx4 : z.KeepsShape x4 := .ite (Chip.hwShow_shape (Chip.modDesc_shape (Chip.clrBitOf_shape ht2))) ht2
  clear_value x4
  extract_lets +onlyGivenNames x5
  clear_value x5
  exact .ite (Chip.hwAbort_shape hx4) hx4

theorem Chip.semRegion_shape {z : Chip} {p1 : Chip} {p2 : ℕ} (hp1 : z.KeepsShape p1) : z.KeepsShape (Chip.semRegion p1 p2) := by
  unfold Chip.semRegion
  extract_lets +onlyGivenNames x1
  extract_lets +onlyGivenNames x2
  have hx2 : z.KeepsShape x2 := (hp1.step rfl)
  clear_value x2
  refine .each hx2 ?_
  intro a3 t4 ht4
  extract_lets +onlyGivenNames x5
  clear_value x5
  exact .ite (Chip.semRelease_shape ht4) ht4

theorem Chip.regionDown_shape {z : Chip} {p1 : Chip} {p2 : ℕ} (hp1 : z.KeepsShape p1) : z.KeepsShape (Chip.regionDown p1 p2) := by
  unfold Chip.regionDown
  extract_lets +onlyGivenNames x1
  have hx1 : z.KeepsShape x1 := Chip.openGate_shape (Chip.modRgn_shape hp1)
  clear_value x1
  extract_lets +onlyGivenNames x2
  have hx2 : z.KeepsShape x2 := by
    unfold x2
    refine .each hx1 ?_
    intro a3 t4 ht4
    extract_lets +onlyGivenNames x5
    have hx5 : z.KeepsShape x5 := Chip.endDuplex_shape (Chip.endDuplex_shape ht4)
    clear_value x5
    extract_lets +onlyGivenNames x6
    have hx6 : z.KeepsShape x6 := .ite (Chip.set_shape hx5) hx5
    clear_value x6
    extract_lets +onlyGivenNames x7
    have hx7 : z.KeepsShape x7 := Chip.clusterHidden_shape (Chip.clusterRegs_shape hx6)
    clear_value x7
    extract_lets +onlyGivenNames x8
    have hx8 : z.KeepsShape x8 := Chip.sets_shape hx7
    clear_value x8
    exact Chip.modCl_shape hx8
  clear_value x2
  extract_lets +onlyGivenNames x9
  have hx9 : z.KeepsShape x9 := by
    unfold x9
    refine .each hx2 ?_
    intro a10 t11 ht11
    extract_lets +onlyGivenNames x12
    have hx12 : z.KeepsShape x12 := Chip.put_shape ht11
    clear_value x12
    extract_lets +onlyGivenNames x13
    have hx13 : z.KeepsShape x13 := .ite (Chip.setGate_shape hx12) hx12
    clear_value x13
    extract_lets +onlyGivenNames x14
    have hx14 : z.KeepsShape x14 := Chip.modSlice_shape hx13
    clear_value x14
    exact Chip.showHiz_shape (Chip.sliceUnitReset_shape hx14)
  clear_value x9
  extract_lets +onlyGivenNames x15
  have hx15 : z.KeepsShape x15 := by
    unfold x15
    refine .each hx9 ?_
    intro a16 t17 ht17
    extract_lets +onlyGivenNames x18
    clear_value x18
    extract_lets +onlyGivenNames x19
    have hx19 : z.KeepsShape x19 := Chip.modHart_shape (Chip.resetRange_shape ht17)
    clear_value x19
    exact (hx19.step rfl)
  clear_value x15
  extract_lets +onlyGivenNames x20
  clear_value x20
  extract_lets +onlyGivenNames x21
  clear_value x21
  extract_lets +onlyGivenNames x22
  extract_lets +onlyGivenNames x23
  extract_lets +onlyGivenNames x24
  have hx24 : z.KeepsShape x24 := (hx15.step rfl)
  clear_value x24
  exact Chip.refreshHolds_shape (.each (Chip.hwRegion_shape (Chip.semRegion_shape hx24)) (fun a25 t26 ht26 => Chip.demandBegins_shape ht26))

theorem Chip.regionReset_shape {z : Chip} {p1 : Chip} {p2 : ℕ} {p3 : Field} (hp1 : z.KeepsShape p1) : z.KeepsShape (Chip.regionReset p1 p2 p3) := by
  unfold Chip.regionReset
  extract_lets +onlyGivenNames x1
  have hx1 : z.KeepsShape x1 := Chip.put_shape hp1
  clear_value x1
  extract_lets +onlyGivenNames x2
  have hx2 : z.KeepsShape x2 := Chip.record_shape hx1
  clear_value x2
  exact Chip.regionDown_shape hx2

theorem Chip.rgnAsked_shape {z : Chip} {p1 : Chip} {p2 : ℕ} {p3 : Field} (hp1 : z.KeepsShape p1) : z.KeepsShape (Chip.rgnAsked p1 p2 p3) := by
  unfold Chip.rgnAsked
  exact .ite hp1 (Chip.regionReset_shape hp1)

theorem Chip.rstCtlWrite_shape {z : Chip} {p1 : Chip} {p2 : ℕ} (hp1 : z.KeepsShape p1) : z.KeepsShape (Chip.rstCtlWrite p1 p2) := by
  unfold Chip.rstCtlWrite
  refine .ite hp1 ?_
  refine .ite (Chip.tryRelease_shape (Chip.dieReset_shape hp1)) ?_
  extract_lets +onlyGivenNames x1
  have hx1 : z.KeepsShape x1 := .ite (Chip.rgnAsked_shape hp1) hp1
  clear_value x1
  exact .ite (Chip.rgnAsked_shape hx1) hx1

theorem Chip.tokenReject_shape {z : Chip} {p1 : Chip} {p2 : ℕ} (hp1 : z.KeepsShape p1) : z.KeepsShape (Chip.tokenReject p1 p2) := by
  unfold Chip.tokenReject
  exact Chip.note_shape (Chip.put_shape (Chip.set_shape hp1))

theorem Chip.tokenWrite_shape {z : Chip} {p1 : Chip} {p2 : ℕ} (hp1 : z.KeepsShape p1) : z.KeepsShape (Chip.tokenWrite p1 p2) := by
  unfold Chip.tokenWrite
  extract_lets +onlyGivenNames x1
  clear_value x1
  exact .ite hp1 (.ite (Chip.note_shape (Chip.set_shape hp1)) (.ite (Chip.tokenReject_shape hp1) (Chip.put_shape (Chip.modCfg_shape hp1))))

theorem Chip.testHolds_shape {z : Chip} {p1 : Chip} {p2 : ℕ} (hp1 : z.KeepsShape p1) : z.KeepsShape (Chip.testHolds p1 p2) := by
  unfold Chip.testHolds
  exact .each hp1 (fun a1 t2 ht2 => Chip.demandBegins_shape ht2)

theorem Chip.showSt_shape {z : Chip} {p1 : Chip} (hp1 : z.KeepsShape p1) : z.KeepsShape (Chip.showSt p1) := by
  unfold Chip.showSt
  exact Chip.put_shape hp1

theorem Chip.fullStart_shape {z : Chip} {p1 : Chip} {p2 : ℕ} (hp1 : z.KeepsShape p1) : z.KeepsShape (Chip.fullStart p1 p2) := by
  unfold Chip.fullStart
  extract_lets +onlyGivenNames x1
  clear_value x1
  refine .ite hp1 ?_
  refine .ite (Chip.refuse_shape hp1) ?_
  extract_lets +onlyGivenNames x2
  have hx2 : z.KeepsShape x2 := Chip.modCfg_shape (Chip.put_shape hp1)
  clear_value x2
  exact Chip.testHolds_shape (Chip.regionDown_shape (Chip.record_shape (Chip.showSt_shape hx2)))

theorem Chip.repairStart_shape {z : Chip} {p1 : Chip} (hp1 : z.KeepsShape p1) : z.KeepsShape (Chip.repairStart p1) := by
  unfold Chip.repairStart
  extract_lets +onlyGivenNames x1
  clear_value x1
  exact .ite hp1 (.ite (Chip.refuse_shape hp1) (Chip.showSt_shape (Chip.put_shape hp1)))

theorem Chip.stWrite_shape {z : Chip} {p1 : Chip} {p2 : ℕ} (hp1 : z.KeepsShape p1) : z.KeepsShape (Chip.stWrite p1 p2) := by
  unfold Chip.stWrite
  extract_lets +onlyGivenNames x1
  have hx1 : z.KeepsShape x1 := .ite (Chip.fullStart_shape hp1) hp1
  clear_value x1
  extract_lets +onlyGivenNames x2
  have hx2 : z.KeepsShape x2 := .ite (Chip.fullStart_shape hx1) hx1
  clear_value x2
  exact .ite (Chip.repairStart_shape hx2) hx2

theorem Chip.cfgWrite_shape {z : Chip} {p1 : Chip} {p2 : ℕ} {p3 : ℕ} (hp1 : z.KeepsShape p1) : z.KeepsShape (Chip.cfgWrite p1 p2 p3) := by
  unfold Chip.cfgWrite
  exact .ite (Chip.rstCtlWrite_shape hp1) (.ite (Chip.bankWrite_shape hp1) (.ite (Chip.arbWrite_shape hp1) (.ite (Chip.tokenWrite_shape hp1) (.ite (Chip.stWrite_shape hp1) (Chip.genericWrite_shape hp1)))))

theorem Chip.gpioDrive_shape {z : Chip} {p1 : Chip} (hp1 : z.KeepsShape p1) : z.KeepsShape (Chip.gpioDrive p1) := by
  unfold Chip.gpioDrive
  extract_lets +onlyGivenNames x1
  clear_value x1
  extract_lets +onlyGivenNames x2
  clear_value x2
  exact Chip.modCfg_shape hp1

theorem Chip.gpioOut_shape {z : Chip} {p1 : Chip} {p2 : ℕ} (hp1 : z.KeepsShape p1) : z.KeepsShape (Chip.gpioOut p1 p2) := by
  unfold Chip.gpioOut
  exact Chip.gpioDrive_shape (Chip.set_shape hp1)

theorem Chip.gpioWrite_shape {z : Chip} {p1 : Chip} {p2 : ℕ} {p3 : ℕ} (hp1 : z.KeepsShape p1) : z.KeepsShape (Chip.gpioWrite p1 p2 p3) := by
  unfold Chip.gpioWrite
  extract_lets +onlyGivenNames x1
  clear_value x1
  exact .ite (Chip.gpioOut_shape hp1) (.ite (Chip.gpioOut_shape hp1) (.ite (Chip.gpioOut_shape hp1) (.ite (Chip.gpioDrive_shape (Chip.set_shape hp1)) (Chip.genericWrite_shape hp1))))

theorem Chip.blockWrite_shape {z : Chip} {p1 : Chip} {p2 : Requester} {p3 : ℕ} {p4 : ℕ} (hp1 : z.KeepsShape p1) : z.KeepsShape (Chip.blockWrite p1 p2 p3 p4) := by
  unfold Chip.blockWrite
  extract_lets +onlyGivenNames x1
  clear_value x1
  exact .ite (Chip.clusterWrite_shape hp1) (.ite (Chip.pwmWrite_shape hp1) (.ite (Chip.islWrite_shape hp1) (.ite (Chip.adcWrite_shape hp1) (.ite (Chip.posWrite_shape hp1) (.ite (Chip.safeWrite_shape hp1) (.ite (Chip.chmWrite_shape hp1) (.ite (.ite (Chip.canBlockWrite_shape hp1) (Chip.porchWrite_shape hp1)) (.ite (.ite (Chip.ringBlockWrite_shape hp1) (Chip.genericWrite_shape hp1)) (.ite (Chip.hwWrite_shape hp1) (.ite (Chip.coreWrite_shape hp1) (.ite (Chip.powerWrite_shape hp1) (.ite (Chip.cfgWrite_shape hp1) (.ite (hp1.step rfl) (.ite (Chip.hole_shape hp1) (Chip.gpioWrite_shape hp1)))))))))))))))

theorem Chip.markIslands_shape {z : Chip} {p1 : Chip} (hp1 : z.KeepsShape p1) : z.KeepsShape (Chip.markIslands p1) := by
  unfold Chip.markIslands
  exact .each hp1 (fun a1 t2 ht2 => .ite (Chip.set_shape (Chip.modIsl_shape ht2)) (.ite (Chip.modIsl_shape ht2) ht2))

theorem Chip.safetyWords_shape {z : Chip} {p1 : Chip} {p2 : ℕ} (hp1 : z.KeepsShape p1) : z.KeepsShape (Chip.safetyWords p1 p2) := by
  unfold Chip.safetyWords
  exact Chip.sets_shape hp1

theorem Chip.bootAccept_shape {z : Chip} {p1 : Chip} {p2 : ℕ} {p3 : Bool} (hp1 : z.KeepsShape p1) : z.KeepsShape (Chip.bootAccept p1 p2 p3) := by
  unfold Chip.bootAccept
  extract_lets +onlyGivenNames x1
  extract_lets +onlyGivenNames x2
  have hx2 : z.KeepsShape x2 := (hp1.step rfl)
  clear_value x2
  extract_lets +onlyGivenNames x3
  have hx3 : z.KeepsShape x3 := Chip.set_shape hx2
  clear_value x3
  extract_lets +onlyGivenNames x4
  have hx4 : z.KeepsShape x4 := Chip.sets_shape hx3
  clear_value x4
  extract_lets +onlyGivenNames x5
  clear_value x5
  extract_lets +onlyGivenNames x6
  clear_value x6
  extract_lets +onlyGivenNames x7
  clear_value x7
  extract_lets +onlyGivenNames x8
  have hx8 : z.KeepsShape x8 := .ite (Chip.put_shape hx4) hx4
  clear_value x8
  extract_lets +onlyGivenNames x9
  have hx9 : z.KeepsShape x9 := Chip.showReq_shape (Chip.modPwr_shape hx8)
  clear_value x9
  extract_lets +onlyGivenNames x10
  have hx10 : z.KeepsShape x10 := .each hx9 (fun a11 t12 ht12 => Chip.modRgn_shape ht12)
  clear_value x10
  exact .each (Chip.markIslands_shape hx10) (fun a13 t14 ht14 => Chip.safetyWords_shape ht14)

theorem Chip.bootEnd_shape {z : Chip} {p1 : Chip} {p2 : Bool} {p3 : ℕ} (hp1 : z.KeepsShape p1) : z.KeepsShape (Chip.bootEnd p1 p2 p3) := by
  unfold Chip.bootEnd
  split
  · exact hp1
  · rename_i y3 q4
    extract_lets +onlyGivenNames x5
    have hx5 : z.KeepsShape x5 := Chip.put_shape (Chip.dropWrite_shape (Chip.modCfg_shape hp1))
    clear_value x5
    exact .ite (Chip.put_shape (Chip.bootStore_shape hx5)) (Chip.note_shape (Chip.put_shape hx5))

theorem Chip.haltPartner_shape {z : Chip} {p1 : Chip} {p2 : ℕ} {p3 : ℕ} (hp1 : z.KeepsShape p1) : z.KeepsShape (Chip.haltPartner p1 p2 p3) := by
  unfold Chip.haltPartner
  refine .ite ?_ hp1
  extract_lets +onlyGivenNames x1
  clear_value x1
  exact Chip.stand_shape hp1

theorem Chip.slotFail_shape {z : Chip} {p1 : Chip} {p2 : ℕ} {p3 : ℕ} {p4 : ℕ} (hp1 : z.KeepsShape p1) : z.KeepsShape (Chip.slotFail p1 p2 p3 p4) := by
  unfold Chip.slotFail
  extract_lets +onlyGivenNames x1
  have hx1 : z.KeepsShape x1 := Chip.record_shape hp1
  clear_value x1
  extract_lets +onlyGivenNames x2
  have hx2 : z.KeepsShape x2 := Chip.put_shape hx1
  clear_value x2
  extract_lets +onlyGivenNames x3
  have hx3 : z.KeepsShape x3 := Chip.record_shape hx2
  clear_value x3
  exact Chip.refreshHolds_shape (Chip.haltPartner_shape (Chip.modRgn_shape hx3))

theorem Chip.repairRows_shape {z : Chip} {p1 : List (Fin 16 × ℕ)} {p2 : Chip} (hp2 : z.KeepsShape p2) :
    z.KeepsShape (Chip.repairRows p1 p2).1 := by
  induction p1 generalizing p2 with
  | nil => exact hp2
  | cons a l ih => exact .iteP hp2 (ih (Chip.note_shape (Chip.modCfg_shape hp2)))

theorem Chip.showSpares_shape {z : Chip} {p1 : Chip} (hp1 : z.KeepsShape p1) : z.KeepsShape (Chip.showSpares p1) := by
  unfold Chip.showSpares
  exact Chip.set_shape hp1

theorem Chip.storeRepairs_shape {z : Chip} {p1 : Chip} (hp1 : z.KeepsShape p1) : z.KeepsShape (Chip.storeRepairs p1) := by
  unfold Chip.storeRepairs
  extract_lets +onlyGivenNames x1
  exact Chip.useFree_shape (Chip.setBytes_shape (Chip.setBytes_shape hp1))

theorem Chip.repairsWritten_shape {z : Chip} {p1 : Chip} (hp1 : z.KeepsShape p1) : z.KeepsShape (Chip.repairsWritten p1) := by
  unfold Chip.repairsWritten
  exact Chip.storeRepairs_shape (Chip.modCfg_shape (Chip.dropWrite_shape hp1))

theorem Chip.repairsSubmit_shape {z : Chip} {p1 : Chip} (hp1 : z.KeepsShape p1) : z.KeepsShape (Chip.repairsSubmit p1) := by
  unfold Chip.repairsSubmit
  refine .ite hp1 ?_
  extract_lets +onlyGivenNames x1
  have hx1 : z.KeepsShape x1 := Chip.submitWrite_shape hp1
  clear_value x1
  exact .ite (Chip.repairsWritten_shape hx1) hx1

theorem Chip.slotTests_shape {z : Chip} {p1 : Chip} {p2 : ℕ} {p3 : SlotOutcome} (hp1 : z.KeepsShape p1) : z.KeepsShape (Chip.slotTests p1 p2 p3).1 := by
  unfold Chip.slotTests
  refine .iteP (.fst (Chip.set_shape (Chip.slotFail_shape hp1))) ?_
  extract_lets +onlyGivenNames x1
  clear_value x1
  extract_lets +onlyGivenNames x2
  have hx2 : z.KeepsShape x2.1 := by
    unfold x2
    exact Chip.repairRows_shape hp1
  clear_value x2
  extract_lets +onlyGivenNames x3
  have hx3 : z.KeepsShape x3 := hx2
  clear_value x3
  extract_lets +onlyGivenNames x4
  extract_lets +onlyGivenNames x5
  have hx5 : z.KeepsShape x5 := Chip.showSpares_shape (.ite (Chip.repairsSubmit_shape hx3) hx3)
  clear_value x5
  split
  · exact .fst (Chip.set_shape (Chip.slotFail_shape hx5))
  · exact .fst (Chip.set_shape hx5)

theorem Chip.fabricLoad_shape {z : Chip} {p1 : Chip} {p2 : ℕ} (hp1 : z.KeepsShape p1) : z.KeepsShape (Chip.fabricLoad p1 p2) := by
  unfold Chip.fabricLoad
  split
  · exact Chip.setBytes_shape hp1
  · exact hp1

theorem Chip.eccFresh_shape {z : Chip} {p1 : Chip} {p2 : ℕ} {p3 : ℕ} (hp1 : z.KeepsShape p1) : z.KeepsShape (Chip.eccFresh p1 p2 p3) := by
  unfold Chip.eccFresh
  exact (hp1.step rfl)

theorem Chip.copySection_shape {z : Chip} {p1 : Chip} {p2 : ℕ} {p3 : Section} (hp1 : z.KeepsShape p1) : z.KeepsShape (Chip.copySection p1 p2 p3) := by
  unfold Chip.copySection
  extract_lets +onlyGivenNames x1
  refine .ite ?_ (.ite (Chip.eccFresh_shape (Chip.setBytes_shape (Chip.eccFresh_shape (Chip.setBytes_shape hp1)))) hp1)
  extract_lets +onlyGivenNames x2
  clear_value x2
  exact Chip.eccFresh_shape (Chip.setBytes_shape hp1)

theorem Chip.regionOpen_shape {z : Chip} {p1 : Chip} {p2 : ℕ} (hp1 : z.KeepsShape p1) : z.KeepsShape (Chip.regionOpen p1 p2) := by
  unfold Chip.regionOpen
  extract_lets +onlyGivenNames x1
  have hx1 : z.KeepsShape x1 := Chip.put_shape (Chip.modRgn_shape hp1)
  clear_value x1
  exact .each hx1 (fun a2 t3 ht3 => Chip.motorWords_shape ht3)

theorem Chip.unitWord_shape {z : Chip} {p1 : Chip} {p2 : ℕ} {p3 : ℕ} (hp1 : z.KeepsShape p1) : z.KeepsShape (Chip.unitWord p1 p2 p3) := by
  unfold Chip.unitWord
  extract_lets +onlyGivenNames x1
  clear_value x1
  exact .ite (Chip.hostwrWrite_shape hp1) (.ite (Chip.blockWrite_shape hp1) (.ite (Chip.configWrite_shape hp1) (.ite (Chip.refreshHolds_shape (Chip.configWord_shape hp1)) (.ite (Chip.configWord_shape hp1) (Chip.blockWrite_shape hp1)))))

theorem Chip.unitWords_shape {z : Chip} {p1 : ℕ → Bool} {p2 : ℕ} {p3 : List ℕ} {p4 : Chip} (hp4 : z.KeepsShape p4) :
    z.KeepsShape (Chip.unitWords p1 p2 p3 p4) := by
  induction p3 generalizing p2 p4 with
  | nil => exact hp4
  | cons d l ih => exact ih (.ite (Chip.unitWord_shape hp4) hp4)

theorem Chip.rawStart_shape {z : Chip} {p1 : Chip} {p2 : ℕ} (hp1 : z.KeepsShape p1) : z.KeepsShape (Chip.rawStart p1 p2) := by
  unfold Chip.rawStart
  split
  · rename_i y1 y2 q3
    extract_lets +onlyGivenNames x4
    clear_value x4
    extract_lets +onlyGivenNames x5
    have hx5 : z.KeepsShape x5 := Chip.modSlice_shape hp1
    clear_value x5
    exact Chip.restartOutputs_shape hx5

theorem Chip.joinCarrier_shape {z : Chip} {p1 : Chip} {p2 : ℕ} (hp1 : z.KeepsShape p1) : z.KeepsShape (Chip.joinCarrier p1 p2) := by
  unfold Chip.joinCarrier
  extract_lets +onlyGivenNames x1
  clear_value x1
  extract_lets +onlyGivenNames x2
  have hx2 : z.KeepsShape x2 := Chip.sets_shape (Chip.accrue_shape hp1)
  clear_value x2
  exact Chip.modSlice_shape hx2

theorem Chip.startCarrier_shape {z : Chip} {p1 : Chip} {p2 : ℕ} (hp1 : z.KeepsShape p1) : z.KeepsShape (Chip.startCarrier p1 p2) := by
  unfold Chip.startCarrier
  extract_lets +onlyGivenNames x1
  have hx1 : z.KeepsShape x1 := Chip.put_shape (Chip.accrue_shape hp1)
  clear_value x1
  extract_lets +onlyGivenNames x2
  have hx2 : z.KeepsShape x2 := Chip.set_shape (Chip.set_shape hx1)
  clear_value x2
  exact Chip.modSlice_shape hx2

theorem Chip.skipReload_shape {z : Chip} {p1 : Chip} {p2 : ℕ} (hp1 : z.KeepsShape p1) : z.KeepsShape (Chip.skipReload p1 p2) := by
  unfold Chip.skipReload
  extract_lets +onlyGivenNames x1
  clear_value x1
  extract_lets +onlyGivenNames x2
  have hx2 : z.KeepsShape x2 := Chip.modSlice_shape hp1
  clear_value x2
  refine .ite ?_ hx2
  extract_lets +onlyGivenNames x3
  have hx3 : z.KeepsShape x3 := Chip.put_shape (Chip.modSlice_shape hx2)
  clear_value x3
  exact Chip.record_shape hx3

theorem Chip.startGate_shape {z : Chip} {p1 : Chip} {p2 : ℕ} (hp1 : z.KeepsShape p1) : z.KeepsShape (Chip.startGate p1 p2) := by
  unfold Chip.startGate
  split
  · exact .ite (Chip.setGate_shape hp1) hp1
  · exact hp1

theorem Chip.takeShadows_shape {z : Chip} {p1 : Chip} {p2 : ℕ} {p3 : Bool} (hp1 : z.KeepsShape p1) : z.KeepsShape (Chip.takeShadows p1 p2 p3) := by
  unfold Chip.takeShadows
  extract_lets +onlyGivenNames x1
  have hx1 : z.KeepsShape x1 := Chip.copyShadows_shape hp1
  clear_value x1
  extract_lets +onlyGivenNames x2
  clear_value x2
  extract_lets +onlyGivenNames x3
  have hx3 : z.KeepsShape x3 := .ite (Chip.modSlice_shape (Chip.set_shape hx1)) hx1
  clear_value x3
  exact Chip.modSlice_shape hx3

theorem Chip.releaseHeld_shape {z : Chip} {p1 : Chip} {p2 : ℕ} (hp1 : z.KeepsShape p1) : z.KeepsShape (Chip.releaseHeld p1 p2) := by
  unfold Chip.releaseHeld
  exact .ite (Chip.restartOutputs_shape (Chip.modSlice_shape hp1)) hp1

theorem Chip.reloadPoint_shape {z : Chip} {p1 : Chip} {p2 : ℕ} {p3 : Bool} (hp1 : z.KeepsShape p1) : z.KeepsShape (Chip.reloadPoint p1 p2 p3) := by
  unfold Chip.reloadPoint
  extract_lets +onlyGivenNames x1
  clear_value x1
  extract_lets +onlyGivenNames x2
  have hx2 : z.KeepsShape x2 := .ite (Chip.skipReload_shape hp1) (Chip.startGate_shape (Chip.takeShadows_shape hp1))
  clear_value x2
  extract_lets +onlyGivenNames x3
  clear_value x3
  extract_lets +onlyGivenNames x4
  have hx4 : z.KeepsShape x4 := .ite (Chip.put_shape hx2) hx2
  clear_value x4
  extract_lets +onlyGivenNames x5
  have hx5 : z.KeepsShape x5 := Chip.releaseHeld_shape hx4
  clear_value x5
  exact .ite (Chip.restartOutputs_shape hx5) hx5

theorem Chip.startSlice_shape {z : Chip} {p1 : Chip} {p2 : ℕ} (hp1 : z.KeepsShape p1) : z.KeepsShape (Chip.startSlice p1 p2) := by
  unfold Chip.startSlice
  extract_lets +onlyGivenNames x1
  have hx1 : z.KeepsShape x1 := Chip.modSlice_shape hp1
  clear_value x1
  extract_lets +onlyGivenNames x2
  refine .ite (Chip.checkSlice_shape (Chip.showHiz_shape (Chip.rawStart_shape (Chip.joinCarrier_shape hx1)))) ?_
  extract_lets +onlyGivenNames x3
  have hx3 : z.KeepsShape x3 := Chip.syncCheck_shape (Chip.startCarrier_shape hx1)
  clear_value x3
  extract_lets +onlyGivenNames x4
  have hx4 : z.KeepsShape x4 := .ite (Chip.setGate_shape hx3) hx3
  clear_value x4
  extract_lets +onlyGivenNames x5
  have hx5 : z.KeepsShape x5 := Chip.reloadPoint_shape (Chip.put_shape hx4)
  clear_value x5
  exact Chip.checkSlice_shape (Chip.showHiz_shape (Chip.rawStart_shape hx5))

theorem Chip.startCarriers_shape {z : Chip} {p1 : Chip} {p2 : ℕ} (hp1 : z.KeepsShape p1) : z.KeepsShape (Chip.startCarriers p1 p2) := by
  unfold Chip.startCarriers
  exact .each hp1 (fun a1 t2 ht2 => Chip.startSlice_shape ht2)

theorem Chip.regionUp_shape {z : Chip} {p1 : Chip} {p2 : ℕ} (hp1 : z.KeepsShape p1) : z.KeepsShape (Chip.regionUp p1 p2) := by
  unfold Chip.regionUp
  extract_lets +onlyGivenNames x1
  have hx1 : z.KeepsShape x1 := by
    unfold x1
    refine .each hp1 ?_
    intro a2 t3 ht3
    extract_lets +onlyGivenNames x4
    have hx4 : z.KeepsShape x4 := Chip.put_shape (Chip.showLists_shape ht3)
    clear_value x4
    exact Chip.modCl_shape hx4
  clear_value x1
  extract_lets +onlyGivenNames x5
  have hx5 : z.KeepsShape x5 := .each hx1 (fun a6 t7 ht7 => Chip.modSlice_shape ht7)
  clear_value x5
  extract_lets +onlyGivenNames x8
  have hx8 : z.KeepsShape x8 := Chip.startCarriers_shape hx5
  clear_value x8
  exact Chip.refreshHolds_shape (.each hx8 (fun a9 t10 ht10 => Chip.modCl_shape ht10))

theorem Chip.slotRest_shape {z : Chip} {p1 : Chip} {p2 : ℕ} {p3 : SlotOutcome} {p4 : ℕ → Bool} (hp1 : z.KeepsShape p1) : z.KeepsShape (Chip.slotRest p1 p2 p3 p4).1 := by
  unfold Chip.slotRest
  extract_lets +onlyGivenNames x1
  clear_value x1
  split
  · exact .fst (Chip.slotFail_shape hp1)
  · exact .fst (Chip.slotFail_shape hp1)
  · extract_lets +onlyGivenNames x12
    have hx12 : z.KeepsShape x12 := .each (Chip.fabricLoad_shape hp1) (fun a13 t14 ht14 => Chip.copySection_shape ht14)
    clear_value x12
    extract_lets +onlyGivenNames x15
    have hx15 : z.KeepsShape x15 := .each hx12 (fun a16 t17 ht17 => Chip.modAge_shape (Chip.set_shape ht17))
    clear_value x15
    extract_lets +onlyGivenNames x18
    have hx18 : z.KeepsShape x18 := .each (Chip.regionOpen_shape hx15) (fun a19 t20 ht20 => Chip.unitWords_shape ht20)
    clear_value x18
    extract_lets +onlyGivenNames x21
    have hx21 : z.KeepsShape x21 := Chip.regionUp_shape hx18
    clear_value x21
    extract_lets +onlyGivenNames x22
    clear_value x22
    extract_lets +onlyGivenNames x23
    have hx23 : z.KeepsShape x23 := .each hx21 (fun a24 t25 ht25 => Chip.modHart_shape ht25)
    clear_value x23
    exact .fst (Chip.put_shape hx23)

theorem Chip.regionSlot_shape {z : Chip} {p1 : Chip} {p2 : ℕ} {p3 : SlotOutcome} {p4 : Bool} (hp1 : z.KeepsShape p1) : z.KeepsShape (Chip.regionSlot p1 p2 p3 p4) := by
  unfold Chip.regionSlot
  extract_lets +onlyGivenNames x1
  have hx1 : z.KeepsShape x1.1 := by
    unfold x1
    exact Chip.slotTests_shape (Chip.isoAssert_shape hp1)
  clear_value x1
  refine .ite ?_ hx1
  extract_lets +onlyGivenNames x2
  have hx2 : z.KeepsShape x2 := hx1
  clear_value x2
  exact Chip.slotRest_shape hx2

theorem Chip.cmpTest_shape {z : Chip} {p1 : Chip} {p2 : List ℕ} {p3 : List (Fin 16 × Fin 4)} (hp1 : z.KeepsShape p1) : z.KeepsShape (Chip.cmpTest p1 p2 p3) := by
  unfold Chip.cmpTest
  extract_lets +onlyGivenNames x1
  have hx1 : z.KeepsShape x1 := .each hp1 (fun a2 t3 ht3 => Chip.clrBitOf_shape ht3)
  clear_value x1
  refine .each hx1 ?_
  intro a4 t5 ht5
  extract_lets +onlyGivenNames x6
  clear_value x6
  refine .ite ht5 ?_
  extract_lets +onlyGivenNames x7
  have hx7 : z.KeepsShape x7 := Chip.setBitOf_shape ht5
  clear_value x7
  extract_lets +onlyGivenNames x8
  clear_value x8
  split
  · exact Chip.faultCl_shape hx7
  · exact Chip.record_shape hx7

theorem Chip.diffTest_shape {z : Chip} {p1 : Chip} {p2 : ℕ} {p3 : ℕ} (hp1 : z.KeepsShape p1) : z.KeepsShape (Chip.diffTest p1 p2 p3) := by
  unfold Chip.diffTest
  extract_lets +onlyGivenNames x1
  extract_lets +onlyGivenNames x2
  refine .ite (Chip.set_shape hp1) ?_
  refine .ite (Chip.modRgn_shape (Chip.sets_shape hp1)) ?_
  extract_lets +onlyGivenNames x3
  have hx3 : z.KeepsShape x3 := Chip.modRgn_shape (Chip.sets_shape hp1)
  clear_value x3
  exact Chip.faultAll_shape hx3

theorem Chip.handshakeStop_shape {z : Chip} {p1 : Chip} {p2 : ℕ} (hp1 : z.KeepsShape p1) : z.KeepsShape (Chip.handshakeStop p1 p2) := by
  unfold Chip.handshakeStop
  exact Chip.calibrateDue_shape (Chip.modIsl_shape hp1)

theorem Chip.handshakeFail_shape {z : Chip} {p1 : Chip} {p2 : ℕ} (hp1 : z.KeepsShape p1) : z.KeepsShape (Chip.handshakeFail p1 p2) := by
  unfold Chip.handshakeFail
  extract_lets +onlyGivenNames x1
  have hx1 : z.KeepsShape x1 := Chip.islShow_shape (Chip.handshakeStop_shape (Chip.modIsl_shape hp1))
  clear_value x1
  extract_lets +onlyGivenNames x2
  have hx2 : z.KeepsShape x2 := Chip.put_shape hx1
  clear_value x2
  split
  · exact Chip.faultCl_shape hx2
  · exact Chip.record_shape hx2

theorem Chip.handshakeDone_shape {z : Chip} {p1 : Chip} {p2 : ℕ} (hp1 : z.KeepsShape p1) : z.KeepsShape (Chip.handshakeDone p1 p2) := by
  unfold Chip.handshakeDone
  extract_lets +onlyGivenNames x1
  have hx1 : z.KeepsShape x1 := Chip.modIsl_shape hp1
  clear_value x1
  extract_lets +onlyGivenNames x2
  have hx2 : z.KeepsShape x2 := Chip.islShow_shape hx1
  clear_value x2
  extract_lets +onlyGivenNames x3
  have hx3 : z.KeepsShape x3 := Chip.sets_shape hx2
  clear_value x3
  split
  · exact Chip.tryLeaveSafe_shape hx3
  · exact hx3

theorem Chip.ownTake_shape {z : Chip} {p1 : Chip} {p2 : ℕ} {p3 : ℕ} (hp1 : z.KeepsShape p1) : z.KeepsShape (Chip.ownTake p1 p2 p3) := by
  unfold Chip.ownTake
  extract_lets +onlyGivenNames x1
  clear_value x1
  exact Chip.modIsl_shape hp1

theorem Chip.mirrorsIn_shape {z : Chip} {p1 : Chip} {p2 : ℕ} (hp1 : z.KeepsShape p1) : z.KeepsShape (Chip.mirrorsIn p1 p2) := by
  unfold Chip.mirrorsIn
  extract_lets +onlyGivenNames x1
  have hx1 : z.KeepsShape x1 := .each hp1 (fun a2 t3 ht3 => Chip.ownTake_shape ht3)
  clear_value x1
  extract_lets +onlyGivenNames x4
  have hx4 : z.KeepsShape x4 := Chip.modIsl_shape hx1
  clear_value x4
  exact Chip.clamp_shape (Chip.put_shape hx4)

theorem Chip.handshakeWhole_shape {z : Chip} {p1 : Chip} {p2 : ℕ} (hp1 : z.KeepsShape p1) : z.KeepsShape (Chip.handshakeWhole p1 p2) := by
  unfold Chip.handshakeWhole
  exact Chip.handshakeDone_shape (Chip.mirrorsIn_shape hp1)

theorem Chip.slotHandshake_shape {z : Chip} {p1 : Chip} {p2 : List ℕ} {p3 : TestOutcome} (hp1 : z.KeepsShape p1) : z.KeepsShape (Chip.slotHandshake p1 p2 p3) := by
  unfold Chip.slotHandshake
  refine .ite hp1 ?_
  extract_lets +onlyGivenNames x1
  extract_lets +onlyGivenNames x2
  have hx2 : z.KeepsShape x2 := .each hp1 (fun a3 t4 ht4 => Chip.modIsl_shape ht4)
  clear_value x2
  extract_lets +onlyGivenNames x5
  extract_lets +onlyGivenNames x6
  extract_lets +onlyGivenNames x7
  extract_lets +onlyGivenNames x8
  have hx8 : z.KeepsShape x8 := .each hx2 (fun a9 t10 ht10 => Chip.handshakeFail_shape ht10)
  clear_value x8
  extract_lets +onlyGivenNames x11
  have hx11 : z.KeepsShape x11 := Chip.calibrateAll_shape hx8
  clear_value x11
  exact .each hx11 (fun a12 t13 ht13 => Chip.handshakeWhole_shape ht13)

theorem Chip.heldRun_shape {z : Chip} {p1 : Chip} {p2 : ℕ} (hp1 : z.KeepsShape p1) : z.KeepsShape (Chip.heldRun p1 p2) := by
  unfold Chip.heldRun
  extract_lets +onlyGivenNames x1
  have hx1 : z.KeepsShape x1 := Chip.refall_shape hp1
  clear_value x1
  exact .ite (Chip.startRun_shape hx1) hx1

theorem Chip.bootRegions_shape {z : Chip} {p1 : Chip} {p2 : BootOutcome} (hp1 : z.KeepsShape p1) : z.KeepsShape (Chip.bootRegions p1 p2) := by
  unfold Chip.bootRegions
  extract_lets +onlyGivenNames x1
  clear_value x1
  extract_lets +onlyGivenNames x2
  extract_lets +onlyGivenNames x3
  have hx3 : z.KeepsShape x3 := Chip.modPwr_shape hp1
  clear_value x3
  extract_lets +onlyGivenNames x4
  have hx4 : z.KeepsShape x4 := .each hx3 (fun a5 t6 ht6 => Chip.put_shape ht6)
  clear_value x4
  extract_lets +onlyGivenNames x7
  have hx7 : z.KeepsShape x7 := .each hx4 (fun a8 t9 ht9 => Chip.regionSlot_shape ht9)
  clear_value x7
  extract_lets +onlyGivenNames x10
  extract_lets +onlyGivenNames x11
  have hx11 : z.KeepsShape x11 := Chip.modCfg_shape hx7
  clear_value x11
  extract_lets +onlyGivenNames x12
  have hx12 : z.KeepsShape x12 := Chip.cmpTest_shape hx11
  clear_value x12
  extract_lets +onlyGivenNames x13
  have hx13 : z.KeepsShape x13 := .each hx12 (fun a14 t15 ht15 => Chip.diffTest_shape ht15)
  clear_value x13
  extract_lets +onlyGivenNames x16
  have hx16 : z.KeepsShape x16 := Chip.slotHandshake_shape hx13
  clear_value x16
  extract_lets +onlyGivenNames x17
  have hx17 : z.KeepsShape x17 := Chip.sets_shape hx16
  clear_value x17
  extract_lets +onlyGivenNames x18
  have hx18 : z.KeepsShape x18 := Chip.applyContactors_shape (Chip.modCfg_shape hx17)
  clear_value x18
  extract_lets +onlyGivenNames x19
  have hx19 : z.KeepsShape x19 := Chip.refreshHolds_shape (.each hx18 (fun a20 t21 ht21 => Chip.heldRun_shape ht21))
  clear_value x19
  exact .each hx19 (fun a22 t23 ht23 => .ite (Chip.lateStart_shape ht23) ht23)

theorem Chip.bootImage_shape {z : Chip} {p1 : Chip} {p2 : BootOutcome} (hp1 : z.KeepsShape p1) : z.KeepsShape (Chip.bootImage p1 p2) := by
  unfold Chip.bootImage
  split
  · rename_i y1 y2 y3 q4
    have hy1 : z.KeepsShape y1 := by
      have hh := congrArg Prod.fst q4
      dsimp only at hh
      rw [← hh]
      exact Chip.bankChoice_shape hp1
    extract_lets +onlyGivenNames x5
    clear_value x5
    refine .ite (Chip.bootRegions_shape (Chip.bootAccept_shape hy1)) ?_
    extract_lets +onlyGivenNames x6
    have hx6 : z.KeepsShape x6 := Chip.note_shape (Chip.set_shape hy1)
    clear_value x6
    extract_lets +onlyGivenNames x7
    clear_value x7
    refine .ite (Chip.bootRegions_shape (Chip.bootAccept_shape hx6)) ?_
    extract_lets +onlyGivenNames x8
    have hx8 : z.KeepsShape x8 := Chip.sets_shape hx6
    clear_value x8
    extract_lets +onlyGivenNames x9
    have hx9 : z.KeepsShape x9 := Chip.set_shape (Chip.modCfg_shape hx8)
    clear_value x9
    extract_lets +onlyGivenNames x10
    have hx10 : z.KeepsShape x10 := Chip.modPwr_shape hx9
    clear_value x10
    exact Chip.faultEvery_shape hx10

theorem Chip.newNonce_shape {z : Chip} {p1 : Chip} (hp1 : z.KeepsShape p1) : z.KeepsShape (Chip.newNonce p1) := by
  unfold Chip.newNonce
  extract_lets +onlyGivenNames x1
  have hx1 : z.KeepsShape x1 := Chip.useFree_shape (Chip.set_shape hp1)
  clear_value x1
  exact Chip.useFree_shape (Chip.set_shape hx1)

theorem Chip.bootStepTwo_shape {z : Chip} {p1 : Chip} (hp1 : z.KeepsShape p1) : z.KeepsShape (Chip.bootStepTwo p1) := by
  unfold Chip.bootStepTwo
  extract_lets +onlyGivenNames x1
  clear_value x1
  extract_lets +onlyGivenNames x2
  extract_lets +onlyGivenNames x3
  extract_lets +onlyGivenNames x4
  have hx4 : z.KeepsShape x4 := Chip.sets_shape hp1
  clear_value x4
  extract_lets +onlyGivenNames x5
  have hx5 : z.KeepsShape x5 := .each hx4 (fun a6 t7 ht7 => Chip.record_shape ht7)
  clear_value x5
  extract_lets +onlyGivenNames x8
  have hx8 : z.KeepsShape x8 := .ite (Chip.note_shape hx5) hx5
  clear_value x8
  extract_lets +onlyGivenNames x9
  have hx9 : z.KeepsShape x9 := .each hx8 (fun a10 t11 ht11 => Chip.note_shape ht11)
  clear_value x9
  extract_lets +onlyGivenNames x12
  have hx12 : z.KeepsShape x12 := Chip.modCfg_shape hx9
  clear_value x12
  extract_lets +onlyGivenNames x13
  clear_value x13
  exact Chip.newNonce_shape (Chip.sets_shape hx12)

theorem Chip.bootRun_shape {z : Chip} {p1 : Chip} {p2 : BootOutcome} (hp1 : z.KeepsShape p1) : z.KeepsShape (Chip.bootRun p1 p2) := by
  unfold Chip.bootRun
  extract_lets +onlyGivenNames x1
  have hx1 : z.KeepsShape x1 := Chip.bootStepTwo_shape hp1
  clear_value x1
  split
  · rename_i y2 q3
    extract_lets +onlyGivenNames x4
    have hx4 : z.KeepsShape x4 := Chip.modCfg_shape (Chip.set_shape hx1)
    clear_value x4
    exact Chip.faultEvery_shape (Chip.modPwr_shape hx4)
  · exact Chip.bootImage_shape hx1

theorem Chip.bsNote_shape {z : Chip} {p1 : Chip} {p2 : ℕ} {p3 : ℕ} (hp1 : z.KeepsShape p1) : z.KeepsShape (Chip.bsNote p1 p2 p3) := by
  unfold Chip.bsNote
  exact .ite hp1 (Chip.record_shape (Chip.put_shape hp1))

theorem Chip.busOff_shape {z : Chip} {p1 : Chip} {p2 : ℕ} {p3 : ℕ} (hp1 : z.KeepsShape p1) : z.KeepsShape (Chip.busOff p1 p2 p3) := by
  unfold Chip.busOff
  extract_lets +onlyGivenNames x1
  have hx1 : z.KeepsShape x1 := Chip.sets_shape hp1
  clear_value x1
  extract_lets +onlyGivenNames x2
  have hx2 : z.KeepsShape x2 := Chip.note_shape hx1
  clear_value x2
  extract_lets +onlyGivenNames x3
  have hx3 : z.KeepsShape x3 := Chip.modCan_shape hx2
  clear_value x3
  extract_lets +onlyGivenNames x4
  have hx4 : z.KeepsShape x4 := Chip.bufsEnd_shape hx3
  clear_value x4
  exact .ite (Chip.modPort_shape (Chip.sesFailAll_shape hx4)) hx4

theorem Chip.hostDenied_shape {z : Chip} {p1 : Chip} {p2 : ℕ} (hp1 : z.KeepsShape p1) : z.KeepsShape (Chip.hostDenied p1 p2) := by
  unfold Chip.hostDenied
  extract_lets +onlyGivenNames x1
  have hx1 : z.KeepsShape x1 := Chip.sets_shape (Chip.modHw_shape hp1)
  clear_value x1
  exact Chip.note_shape hx1

theorem Chip.flagWrite_shape {z : Chip} {p1 : Chip} {p2 : Requester} {p3 : ℕ} {p4 : ℕ} (hp1 : z.KeepsShape p1) : z.KeepsShape (Chip.flagWrite p1 p2 p3 p4) := by
  unfold Chip.flagWrite
  exact .ite (Chip.ownViolation_shape hp1) (Chip.flagPut_shape hp1)

theorem Chip.discard_shape {z : Chip} {p1 : Chip} {p2 : Requester} {p3 : ℕ} {p4 : Bool} {p5 : ℕ} (hp1 : z.KeepsShape p1) : z.KeepsShape (Chip.discard p1 p2 p3 p4 p5) := by
  unfold Chip.discard
  extract_lets +onlyGivenNames x1
  have hx1 : z.KeepsShape x1 := Chip.sets_shape hp1
  clear_value x1
  extract_lets +onlyGivenNames x2
  have hx2 : z.KeepsShape x2 := Chip.firstNote_shape hx1
  clear_value x2
  split
  · exact Chip.privateSrc_shape hx2
  · exact hx2

theorem Chip.reachGate_shape {z : Chip} {p1 : Chip} {p2 : ℕ} (hp1 : z.KeepsShape p1) : z.KeepsShape (Chip.reachGate p1 p2) := by
  unfold Chip.reachGate
  split
  · exact .ite (Chip.openGate_shape hp1) hp1
  · exact hp1

theorem Chip.landWrite_shape {z : Chip} {p1 : Chip} {p2 : Requester} {p3 : ℕ} {p4 : ℕ} (hp1 : z.KeepsShape p1) : z.KeepsShape (Chip.landWrite p1 p2 p3 p4) := by
  unfold Chip.landWrite
  extract_lets +onlyGivenNames x1
  extract_lets +onlyGivenNames x2
  extract_lets +onlyGivenNames x3
  have hx3 : z.KeepsShape x3 := (hp1.step rfl)
  clear_value x3
  extract_lets +onlyGivenNames x4
  have hx4 : z.KeepsShape x4 := Chip.blockWrite_shape hx3
  clear_value x4
  exact .each hx4 (fun a5 t6 ht6 => Chip.blockWrite_shape ht6)

theorem Chip.regWrite_shape {z : Chip} {p1 : Chip} {p2 : Requester} {p3 : ℕ} {p4 : ℕ} (hp1 : z.KeepsShape p1) : z.KeepsShape (Chip.regWrite p1 p2 p3 p4) := by
  unfold Chip.regWrite
  refine .ite (Chip.discard_shape hp1) ?_
  extract_lets +onlyGivenNames x1
  have hx1 : z.KeepsShape x1 := Chip.reachGate_shape hp1
  clear_value x1
  split
  · exact .ite (hx1.step rfl) (Chip.landWrite_shape hx1)
  · exact Chip.landWrite_shape hx1

theorem Chip.hostEffect_shape {z : Chip} {p1 : Chip} {p2 : ℕ} {p3 : ℕ} {p4 : ℕ} (hp1 : z.KeepsShape p1) : z.KeepsShape (Chip.hostEffect p1 p2 p3 p4) := by
  unfold Chip.hostEffect
  split
  · exact Chip.hostDenied_shape hp1
  · rename_i y3 q4
    extract_lets +onlyGivenNames x5
    clear_value x5
    exact .ite (Chip.ownViolation_shape hp1) (Chip.setBytes_shape hp1)
  · exact .ite (Chip.flagWrite_shape hp1) (Chip.hostDenied_shape hp1)
  · exact .ite (Chip.regWrite_shape hp1) (Chip.hostDenied_shape hp1)

theorem Chip.setEcc_shape {z : Chip} {p1 : Chip} {p2 : ℕ} {p3 : ℕ} (hp1 : z.KeepsShape p1) : z.KeepsShape (Chip.setEcc p1 p2 p3) := by
  unfold Chip.setEcc
  exact (hp1.step rfl)

theorem Chip.eccWritten_shape {z : Chip} {p1 : Chip} {p2 : ℕ} (hp1 : z.KeepsShape p1) : z.KeepsShape (Chip.eccWritten p1 p2) := by
  unfold Chip.eccWritten
  extract_lets +onlyGivenNames x1
  clear_value x1
  extract_lets +onlyGivenNames x2
  clear_value x2
  exact .ite (Chip.put_shape (Chip.setEcc_shape hp1)) (Chip.setEcc_shape hp1)

theorem Chip.storeWord_shape {z : Chip} {p1 : Chip} {p2 : Requester} {p3 : ℕ} {p4 : ℕ} {p5 : List Byte} (hp1 : z.KeepsShape p1) : z.KeepsShape (Chip.storeWord p1 p2 p3 p4 p5) := by
  unfold Chip.storeWord
  refine .ite (Chip.setBytes_shape hp1) ?_
  refine .ite (Chip.discard_shape hp1) ?_
  extract_lets +onlyGivenNames x1
  have hx1 : z.KeepsShape x1 := Chip.setBytes_shape hp1
  clear_value x1
  split
  · exact Chip.eccWritten_shape hx1
  · exact Chip.setEcc_shape hx1

theorem Chip.flagStore_shape {z : Chip} {p1 : Chip} {p2 : Requester} {p3 : ℕ} {p4 : ℕ} {p5 : ℕ} (hp1 : z.KeepsShape p1) : z.KeepsShape (Chip.flagStore p1 p2 p3 p4 p5) := by
  unfold Chip.flagStore
  exact .ite (Chip.flagWrite_shape hp1) hp1

theorem Chip.swapCancel_shape {z : Chip} {p1 : Chip} {p2 : ℕ} {p3 : ℕ} (hp1 : z.KeepsShape p1) : z.KeepsShape (Chip.swapCancel p1 p2 p3) := by
  unfold Chip.swapCancel
  refine .ite hp1 ?_
  extract_lets +onlyGivenNames x1
  have hx1 : z.KeepsShape x1 := Chip.put_shape (Chip.setBitOf_shape (Chip.putSwap_shape hp1))
  clear_value x1
  extract_lets +onlyGivenNames x2
  have hx2 : z.KeepsShape x2 := .ite (Chip.modCl_shape hx1) hx1
  clear_value x2
  exact Chip.noteCl_shape hx2

theorem Chip.ldrStore_shape {z : Chip} {p1 : Chip} {p2 : ℕ} {p3 : List Byte} (hp1 : z.KeepsShape p1) : z.KeepsShape (Chip.ldrStore p1 p2 p3) := by
  unfold Chip.ldrStore
  extract_lets +onlyGivenNames x1
  clear_value x1
  extract_lets +onlyGivenNames x2
  clear_value x2
  split
  · exact Chip.setBytes_shape hp1
  · exact .ite (Chip.ldrRefuse_shape hp1) (.ite (Chip.ldrRefuse_shape hp1) (Chip.setBytes_shape (Chip.swapCancel_shape hp1)))

theorem Chip.storeRun_shape {z : Chip} {p1 : Chip} {p2 : Requester} {p3 : ℕ} {p4 : List Byte} (hp1 : z.KeepsShape p1) : z.KeepsShape (Chip.storeRun p1 p2 p3 p4) := by
  unfold Chip.storeRun
  exact .each hp1 (fun a1 t2 ht2 => Chip.storeWord_shape ht2)

theorem Chip.coreEffect_shape {z : Chip} {p1 : Chip} {p2 : Requester} {p3 : ℕ} {p4 : ℕ} {p5 : ℕ} (hp1 : z.KeepsShape p1) : z.KeepsShape (Chip.coreEffect p1 p2 p3 p4 p5) := by
  unfold Chip.coreEffect
  refine .ite ?_ (.ite (Chip.setBytes_shape hp1) (.ite (Chip.flagStore_shape hp1) (.ite (Chip.ldrStore_shape (Chip.reachGate_shape hp1)) (.ite (Chip.regWrite_shape hp1) (Chip.storeRun_shape hp1)))))
  split
  · exact Chip.storeWord_shape hp1
  · exact hp1

theorem Chip.effect_shape {z : Chip} {p1 : Chip} {p2 : Posted} (hp1 : z.KeepsShape p1) : z.KeepsShape (Chip.effect p1 p2) := by
  unfold Chip.effect
  exact .ite (Chip.hostEffect_shape hp1) (Chip.coreEffect_shape hp1)

theorem Chip.effectAt_shape {z : Chip} {p1 : Chip} {p2 : ℕ} (hp1 : z.KeepsShape p1) : z.KeepsShape (Chip.effectAt p1 p2) := by
  unfold Chip.effectAt
  split
  · exact Chip.effect_shape (hp1.step rfl)
  · exact hp1

theorem Chip.busTick_shape {z : Chip} {p1 : Chip} (hp1 : z.KeepsShape p1) : z.KeepsShape (Chip.busTick p1) := by
  unfold Chip.busTick
  refine .ite hp1 ?_
  refine .ite (Chip.effectAt_shape hp1) ?_
  extract_lets +onlyGivenNames x1
  extract_lets +onlyGivenNames x2
  extract_lets +onlyGivenNames x3
  extract_lets +onlyGivenNames x4
  refine .each ?_ ?_
  · extract_lets +onlyGivenNames x5
    have hx5 : z.KeepsShape x5 := Chip.useFree_shape hp1
    clear_value x5
    exact (hx5.step rfl)
  · intro a6 t7 ht7
    exact Chip.effect_shape ht7

theorem Chip.canConf_shape {z : Chip} {p1 : Chip} {p2 : ℕ} (hp1 : z.KeepsShape p1) : z.KeepsShape (Chip.canConf p1 p2) := by
  unfold Chip.canConf
  extract_lets +onlyGivenNames x1
  clear_value x1
  extract_lets +onlyGivenNames x2
  clear_value x2
  extract_lets +onlyGivenNames x3
  clear_value x3
  exact .ite hp1 (.ite (.ite hp1 (Chip.note_shape (Chip.sets_shape hp1))) (Chip.set_shape hp1))

theorem Chip.txRetry_shape {z : Chip} {p1 : Chip} {p2 : ℕ} (hp1 : z.KeepsShape p1) : z.KeepsShape (Chip.txRetry p1 p2) := by
  unfold Chip.txRetry
  split
  · exact hp1
  · rename_i y3 y4 q5
    extract_lets +onlyGivenNames x6
    clear_value x6
    extract_lets +onlyGivenNames x7
    have hx7 : z.KeepsShape x7 := Chip.modCan_shape hp1
    clear_value x7
    exact .ite (Chip.bufEnd_shape hx7) (.ite (Chip.bufEnd_shape hx7) hx7)

theorem Chip.canError_shape {z : Chip} {p1 : Chip} {p2 : ℕ} {p3 : CanError} (hp1 : z.KeepsShape p1) : z.KeepsShape (Chip.canError p1 p2 p3) := by
  unfold Chip.canError
  refine .ite hp1 ?_
  extract_lets +onlyGivenNames x1
  clear_value x1
  extract_lets +onlyGivenNames x2
  have hx2 : z.KeepsShape x2 := Chip.sets_shape hp1
  clear_value x2
  extract_lets +onlyGivenNames x3
  have hx3 : z.KeepsShape x3 := Chip.modCan_shape hx2
  clear_value x3
  refine .ite (.ite (Chip.txRetry_shape hx3) hx3) ?_
  extract_lets +onlyGivenNames x4
  clear_value x4
  extract_lets +onlyGivenNames x5
  clear_value x5
  refine .ite ?_ ?_
  · extract_lets +onlyGivenNames x6
    clear_value x6
    extract_lets +onlyGivenNames x7
    clear_value x7
    extract_lets +onlyGivenNames x8
    clear_value x8
    extract_lets +onlyGivenNames x9
    have hx9 : z.KeepsShape x9 := .ite (Chip.ackError_shape hx3) hx3
    clear_value x9
    extract_lets +onlyGivenNames x10
    have hx10 : z.KeepsShape x10 := .ite (Chip.busOff_shape hx9) (Chip.txRetry_shape (Chip.canConf_shape (Chip.set_shape hx9)))
    clear_value x10
    exact .ite (Chip.bitErrorSeen_shape hx10) hx10
  · extract_lets +onlyGivenNames x11
    clear_value x11
    exact Chip.canConf_shape (Chip.set_shape hx3)

theorem Chip.recLower_shape {z : Chip} {p1 : Chip} {p2 : ℕ} (hp1 : z.KeepsShape p1) : z.KeepsShape (Chip.recLower p1 p2) := by
  unfold Chip.recLower
  extract_lets +onlyGivenNames x1
  clear_value x1
  exact .ite hp1 (.ite (Chip.canConf_shape (Chip.set_shape hp1)) (Chip.canConf_shape (Chip.useFree_shape (Chip.set_shape hp1))))

theorem Chip.fifoPut_shape {z : Chip} {p1 : Chip} {p2 : ℕ} {p3 : RxFrame} (hp1 : z.KeepsShape p1) : z.KeepsShape (Chip.fifoPut p1 p2 p3) := by
  unfold Chip.fifoPut
  refine .ite ?_ ?_
  · extract_lets +onlyGivenNames x1
    have hx1 : z.KeepsShape x1 := Chip.bump_shape hp1
    clear_value x1
    exact Chip.firstNote_shape hx1
  · extract_lets +onlyGivenNames x2
    have hx2 : z.KeepsShape x2 := Chip.modCan_shape hp1
    clear_value x2
    exact Chip.sets_shape hx2

theorem Chip.hpPut_shape {z : Chip} {p1 : Chip} {p2 : ℕ} {p3 : RxFrame} (hp1 : z.KeepsShape p1) : z.KeepsShape (Chip.hpPut p1 p2 p3) := by
  unfold Chip.hpPut
  extract_lets +onlyGivenNames x1
  have hx1 : z.KeepsShape x1 := .ite (Chip.put_shape (Chip.bump_shape hp1)) hp1
  clear_value x1
  exact Chip.put_shape (Chip.modCan_shape hx1)

theorem Chip.safeMsg_shape {z : Chip} {p1 : Chip} {p2 : ℕ} {p3 : ℕ} {p4 : List Byte} (hp1 : z.KeepsShape p1) : z.KeepsShape (Chip.safeMsg p1 p2 p3 p4) := by
  unfold Chip.safeMsg
  extract_lets +onlyGivenNames x1
  clear_value x1
  extract_lets +onlyGivenNames x2
  clear_value x2
  extract_lets +onlyGivenNames x3
  clear_value x3
  extract_lets +onlyGivenNames x4
  clear_value x4
  extract_lets +onlyGivenNames x5
  clear_value x5
  refine .ite hp1 ?_
  split
  · exact Chip.modPorch_shape hp1
  · rename_i y8 y9 q10
    extract_lets +onlyGivenNames x11
    clear_value x11
    extract_lets +onlyGivenNames x12
    have hx12 : z.KeepsShape x12 := .ite hp1 (Chip.modPorch_shape hp1)
    clear_value x12
    refine .ite hx12 ?_
    extract_lets +onlyGivenNames x13
    have hx13 : z.KeepsShape x13 := Chip.modCl_shape hx12
    clear_value x13
    exact .ite (Chip.ss1Begin_shape hx13) (.ite (Chip.pcSto_shape hx13) (Chip.set_shape hx13))

theorem Chip.claimLost_shape {z : Chip} {p1 : Chip} {p2 : ℕ} (hp1 : z.KeepsShape p1) : z.KeepsShape (Chip.claimLost p1 p2) := by
  unfold Chip.claimLost
  extract_lets +onlyGivenNames x1
  clear_value x1
  extract_lets +onlyGivenNames x2
  split
  · exact Chip.claimAt_shape (Chip.note_shape hp1)
  · extract_lets +onlyGivenNames x7
    have hx7 : z.KeepsShape x7 := Chip.sesFailAll_shape (Chip.note_shape hp1)
    clear_value x7
    extract_lets +onlyGivenNames x8
    have hx8 : z.KeepsShape x8 := Chip.modPort_shape (Chip.useFree_shape hx7)
    clear_value x8
    exact Chip.portSet_shape hx8

theorem Chip.claimRx_shape {z : Chip} {p1 : Chip} {p2 : ℕ} {p3 : ℕ} {p4 : ℕ} (hp1 : z.KeepsShape p1) : z.KeepsShape (Chip.claimRx p1 p2 p3 p4) := by
  unfold Chip.claimRx
  extract_lets +onlyGivenNames x1
  clear_value x1
  extract_lets +onlyGivenNames x2
  clear_value x2
  extract_lets +onlyGivenNames x3
  have hx3 : z.KeepsShape x3 := .ite hp1 (Chip.modPort_shape hp1)
  clear_value x3
  exact .ite hx3 (.ite (Chip.claimSend_shape (Chip.addrConflict_shape hx3)) (.ite (Chip.claimLost_shape (Chip.note_shape hx3)) (Chip.claimLost_shape hx3)))

theorem Chip.statusSend_shape {z : Chip} {p1 : Chip} {p2 : ℕ} {p3 : ℕ} {p4 : Bool} (hp1 : z.KeepsShape p1) : z.KeepsShape (Chip.statusSend p1 p2 p3 p4) := by
  unfold Chip.statusSend
  extract_lets +onlyGivenNames x1
  clear_value x1
  extract_lets +onlyGivenNames x2
  extract_lets +onlyGivenNames x3
  have hx3 : z.KeepsShape x3 := .ite (Chip.useFree_shape hp1) hp1
  clear_value x3
  exact Chip.porchSend_shape (Chip.modPort_shape hx3)

theorem Chip.requestRx_shape {z : Chip} {p1 : Chip} {p2 : ℕ} {p3 : ℕ} {p4 : ℕ} {p5 : ℕ} (hp1 : z.KeepsShape p1) : z.KeepsShape (Chip.requestRx p1 p2 p3 p4 p5) := by
  unfold Chip.requestRx
  extract_lets +onlyGivenNames x1
  clear_value x1
  extract_lets +onlyGivenNames x2
  clear_value x2
  refine .ite (.ite (Chip.claimSend_shape hp1) (.ite (Chip.cannotSend_shape hp1) hp1)) ?_
  refine .ite hp1 ?_
  extract_lets +onlyGivenNames x3
  clear_value x3
  split
  · exact Chip.statusSend_shape hp1
  · refine .ite ?_ (.ite (Chip.ackSend_shape hp1) hp1)
    refine .ite (.ite (Chip.ackSend_shape hp1) hp1) ?_
    extract_lets +onlyGivenNames x8
    have hx8 : z.KeepsShape x8 := Chip.sets_shape hp1
    clear_value x8
    exact Chip.modPorch_shape hx8

theorem Chip.sesCts_shape {z : Chip} {p1 : Chip} {p2 : ℕ} (hp1 : z.KeepsShape p1) : z.KeepsShape (Chip.sesCts p1 p2) := by
  unfold Chip.sesCts
  extract_lets +onlyGivenNames x1
  extract_lets +onlyGivenNames x2
  clear_value x2
  extract_lets +onlyGivenNames x3
  clear_value x3
  extract_lets +onlyGivenNames x4
  have hx4 : z.KeepsShape x4 := Chip.modSes_shape hp1
  clear_value x4
  extract_lets +onlyGivenNames x5
  exact Chip.tpCm_shape hx4

theorem Chip.rxOpen_shape {z : Chip} {p1 : Chip} {p2 : ℕ} {p3 : ℕ} {p4 : ℕ} {p5 : ℕ} {p6 : ℕ} {p7 : ℕ} {p8 : Bool} {p9 : Bool} (hp1 : z.KeepsShape p1) : z.KeepsShape (Chip.rxOpen p1 p2 p3 p4 p5 p6 p7 p8 p9) := by
  unfold Chip.rxOpen
  extract_lets +onlyGivenNames x1
  have hx1 : z.KeepsShape x1 := Chip.sets_shape hp1
  clear_value x1
  extract_lets +onlyGivenNames x2
  have hx2 : z.KeepsShape x2 := Chip.modSes_shape hx1
  clear_value x2
  exact .ite hx2 (Chip.sesCts_shape hx2)

theorem Chip.tpCmRx_shape {z : Chip} {p1 : Chip} {p2 : ℕ} {p3 : Bool} {p4 : ℕ} {p5 : ℕ} {p6 : List Byte} (hp1 : z.KeepsShape p1) : z.KeepsShape (Chip.tpCmRx p1 p2 p3 p4 p5 p6) := by
  unfold Chip.tpCmRx
  extract_lets +onlyGivenNames x1
  clear_value x1
  extract_lets +onlyGivenNames x2
  clear_value x2
  extract_lets +onlyGivenNames x3
  refine .ite hp1 ?_
  refine .ite ?_ ?_
  · split
    · exact .ite (Chip.sesEnd_shape hp1) hp1
    · exact hp1
  · refine .ite ?_ ?_
    · extract_lets +onlyGivenNames x8
      clear_value x8
      refine .ite (Chip.tpAbort_shape hp1) ?_
      refine .ite (Chip.tpAbort_shape hp1) ?_
      refine .ite (Chip.tpAbort_shape hp1) ?_
      split
      · exact Chip.rxOpen_shape hp1
      · exact Chip.tpAbort_shape hp1
    · refine .ite ?_ ?_
      · refine .ite hp1 ?_
        split
        · exact .ite (Chip.rxOpen_shape hp1) hp1
        · exact Chip.bump_shape hp1
      · refine .ite ?_ ?_
        · extract_lets +onlyGivenNames x17
          clear_value x17
          refine .ite (Chip.tpAbort_shape hp1) ?_
          split
          · exact Chip.rxOpen_shape hp1
          · exact Chip.tpAbort_shape hp1
        · refine .ite ?_ ?_
          · split
            · exact hp1
            · rename_i y24 q25
              extract_lets +onlyGivenNames x26
              clear_value x26
              extract_lets +onlyGivenNames x27
              clear_value x27
              refine .ite hp1 ?_
              refine .ite (Chip.modSes_shape hp1) ?_
              refine .ite hp1 ?_
              extract_lets +onlyGivenNames x28
              extract_lets +onlyGivenNames x29
              clear_value x29
              refine .ite (Chip.sesAbort_shape hp1) ?_
              extract_lets +onlyGivenNames x30
              extract_lets +onlyGivenNames x31
              have hx31 : z.KeepsShape x31 := Chip.modSes_shape hp1
              clear_value x31
              exact .ite (Chip.tpCm_shape hx31) (Chip.sesData_shape hx31)
          · refine .ite ?_ ?_
            · split
              · exact .ite (Chip.sesEnd_shape hp1) hp1
              · exact hp1
            · refine .ite ?_ hp1
              split
              · exact .ite (Chip.modSes_shape hp1) hp1
              · exact hp1

theorem Chip.commanded_shape {z : Chip} {p1 : Chip} {p2 : ℕ} {p3 : ℕ} {p4 : ℕ} (hp1 : z.KeepsShape p1) : z.KeepsShape (Chip.commanded p1 p2 p3 p4) := by
  unfold Chip.commanded
  refine .ite ?_ hp1
  extract_lets +onlyGivenNames x1
  clear_value x1
  exact Chip.claimAt_shape (Chip.modPort_shape (Chip.note_shape hp1))

theorem Chip.tpDtRx_shape {z : Chip} {p1 : Chip} {p2 : ℕ} {p3 : Bool} {p4 : ℕ} {p5 : ℕ} {p6 : List Byte} (hp1 : z.KeepsShape p1) : z.KeepsShape (Chip.tpDtRx p1 p2 p3 p4 p5 p6) := by
  unfold Chip.tpDtRx
  split
  · exact hp1
  · rename_i y3 q4
    extract_lets +onlyGivenNames x5
    extract_lets +onlyGivenNames x6
    clear_value x6
    extract_lets +onlyGivenNames x7
    clear_value x7
    refine .ite hp1 ?_
    refine .ite ?_ ?_
    · refine .ite (Chip.sesEnd_shape hp1) ?_
      extract_lets +onlyGivenNames x8
      clear_value x8
      exact .ite (Chip.sesAbort_shape hp1) (Chip.sesCts_shape (Chip.modSes_shape hp1))
    · extract_lets +onlyGivenNames x9
      clear_value x9
      extract_lets +onlyGivenNames x10
      have hx10 : z.KeepsShape x10 := Chip.setBytes_shape hp1
      clear_value x10
      extract_lets +onlyGivenNames x11
      have hx11 : z.KeepsShape x11 := Chip.modSes_shape hx10
      clear_value x11
      refine .ite ?_ (.ite (Chip.sesCts_shape hx11) hx11)
      extract_lets +onlyGivenNames x12
      clear_value x12
      extract_lets +onlyGivenNames x13
      have hx13 : z.KeepsShape x13 := .ite hx11 (.ite (Chip.tpCm_shape hx11) (Chip.tpCm_shape hx11))
      clear_value x13
      extract_lets +onlyGivenNames x14
      have hx14 : z.KeepsShape x14 := Chip.sesEnd_shape hx13
      clear_value x14
      exact .ite (Chip.commanded_shape hx14) hx14

theorem Chip.cmdCheck_shape {z : Chip} {p1 : Chip} {p2 : ℕ} {p3 : ℕ} {p4 : ℕ} (hp1 : z.KeepsShape p1) : z.KeepsShape (Chip.cmdCheck p1 p2 p3 p4) := by
  unfold Chip.cmdCheck
  exact Chip.note_shape hp1

theorem Chip.cmdReject_shape {z : Chip} {p1 : Chip} {p2 : ℕ} {p3 : ℕ} {p4 : ℕ} {p5 : ℕ} (hp1 : z.KeepsShape p1) : z.KeepsShape (Chip.cmdReject p1 p2 p3 p4 p5) := by
  unfold Chip.cmdReject
  exact Chip.cmdCheck_shape (Chip.bump_shape hp1)

theorem Chip.checkedRx_shape {z : Chip} {p1 : Chip} {p2 : ℕ} {p3 : ℕ} {p4 : List Byte} (hp1 : z.KeepsShape p1) : z.KeepsShape (Chip.checkedRx p1 p2 p3 p4) := by
  unfold Chip.checkedRx
  extract_lets +onlyGivenNames x1
  clear_value x1
  extract_lets +onlyGivenNames x2
  clear_value x2
  extract_lets +onlyGivenNames x3
  clear_value x3
  extract_lets +onlyGivenNames x4
  clear_value x4
  refine .ite (Chip.cmdCheck_shape (Chip.ackSend_shape hp1)) ?_
  refine .ite (Chip.cmdReject_shape hp1) ?_
  extract_lets +onlyGivenNames x5
  clear_value x5
  extract_lets +onlyGivenNames x6
  clear_value x6
  split
  · exact Chip.modPort_shape hp1
  · rename_i y9 y10 q11
    extract_lets +onlyGivenNames x12
    clear_value x12
    refine .ite (Chip.cmdReject_shape hp1) ?_
    extract_lets +onlyGivenNames x13
    have hx13 : z.KeepsShape x13 := Chip.modPort_shape hp1
    clear_value x13
    refine .ite (Chip.cmdReject_shape hx13) ?_
    extract_lets +onlyGivenNames x14
    clear_value x14
    extract_lets +onlyGivenNames x15
    have hx15 : z.KeepsShape x15 := .ite (Chip.set_shape hx13) (.ite (Chip.set_shape hx13) (Chip.set_shape hx13))
    clear_value x15
    extract_lets +onlyGivenNames x16
    have hx16 : z.KeepsShape x16 := Chip.setBitOf_shape (Chip.set_shape hx15)
    clear_value x16
    extract_lets +onlyGivenNames x17
    have hx17 : z.KeepsShape x17 := Chip.modPorch_shape hx16
    clear_value x17
    extract_lets +onlyGivenNames x18
    have hx18 : z.KeepsShape x18 := Chip.modPort_shape hx17
    clear_value x18
    exact Chip.put_shape hx18

theorem Chip.porchRx_shape {z : Chip} {p1 : Chip} {p2 : ℕ} {p3 : CanFrame} (hp1 : z.KeepsShape p1) : z.KeepsShape (Chip.porchRx p1 p2 p3) := by
  unfold Chip.porchRx
  refine .ite hp1 ?_
  extract_lets +onlyGivenNames x1
  clear_value x1
  extract_lets +onlyGivenNames x2
  clear_value x2
  split
  · rename_i y3 y4 q5
    extract_lets +onlyGivenNames x6
    clear_value x6
    extract_lets +onlyGivenNames x7
    have hx7 : z.KeepsShape x7 := .ite (Chip.claimSend_shape (Chip.addrConflict_shape hp1)) hp1
    clear_value x7
    extract_lets +onlyGivenNames x8
    clear_value x8
    exact .ite (.ite (Chip.claimRx_shape hx7) hx7) (.ite hx7 (.ite (.ite (Chip.requestRx_shape hx7) hx7) (.ite (.ite (Chip.tpCmRx_shape hx7) hx7) (.ite (.ite (Chip.tpDtRx_shape hx7) hx7) (.ite (Chip.checkedRx_shape hx7) hx7)))))

theorem Chip.frameRx_shape {z : Chip} {p1 : Chip} {p2 : ℕ} {p3 : CanFrame} {p4 : ℕ} {p5 : Bool} (hp1 : z.KeepsShape p1) : z.KeepsShape (Chip.frameRx p1 p2 p3 p4 p5) := by
  unfold Chip.frameRx
  extract_lets +onlyGivenNames x1
  clear_value x1
  extract_lets +onlyGivenNames x2
  extract_lets +onlyGivenNames x3
  clear_value x3
  extract_lets +onlyGivenNames x4
  clear_value x4
  extract_lets +onlyGivenNames x5
  clear_value x5
  extract_lets +onlyGivenNames x6
  have hx6 : z.KeepsShape x6 := by
    unfold x6
    refine .ite hp1 ?_
    split
    · exact Chip.fifoPut_shape hp1
    · exact Chip.hpPut_shape hp1
    · exact hp1
  clear_value x6
  exact .ite (Chip.safeMsg_shape (Chip.hpPut_shape hx6)) (.ite hx6 (Chip.porchRx_shape hx6))

theorem Chip.canRx_shape {z : Chip} {p1 : Chip} {p2 : ℕ} {p3 : CanFrame} {p4 : ℕ} (hp1 : z.KeepsShape p1) : z.KeepsShape (Chip.canRx p1 p2 p3 p4) := by
  unfold Chip.canRx
  refine .ite hp1 ?_
  refine .ite (Chip.canError_shape hp1) ?_
  extract_lets +onlyGivenNames x1
  have hx1 : z.KeepsShape x1 := Chip.modCan_shape hp1
  clear_value x1
  extract_lets +onlyGivenNames x2
  have hx2 : z.KeepsShape x2 := .ite hx1 (Chip.recLower_shape hx1)
  clear_value x2
  exact Chip.frameRx_shape hx2

theorem Chip.canStop_shape {z : Chip} {p1 : Chip} (hp1 : z.KeepsShape p1) : z.KeepsShape (Chip.canStop p1) := by
  unfold Chip.canStop
  refine .each hp1 ?_
  intro a1 t2 ht2
  extract_lets +onlyGivenNames x3
  have hx3 : z.KeepsShape x3 := Chip.bufsEnd_shape ht2
  clear_value x3
  exact .ite (Chip.sesFailAll_shape hx3) hx3

theorem Chip.fluxStart_shape {z : Chip} {p1 : Chip} {p2 : ℕ} (hp1 : z.KeepsShape p1) : z.KeepsShape (Chip.fluxStart p1 p2) := by
  unfold Chip.fluxStart
  exact Chip.set_shape (Chip.modCl_shape (Chip.useFree_shape hp1))

theorem Chip.preloadOne_shape {z : Chip} {p1 : Chip} {p2 : ℕ} {p3 : ℕ} {p4 : ℕ} (hp1 : z.KeepsShape p1) : z.KeepsShape (Chip.preloadOne p1 p2 p3 p4) := by
  unfold Chip.preloadOne
  split
  · rename_i y1 q2
    extract_lets +onlyGivenNames x3
    clear_value x3
    extract_lets +onlyGivenNames x4
    clear_value x4
    exact Chip.modCle_shape hp1
  · exact hp1

theorem Chip.preload_shape {z : Chip} {p1 : Chip} {p2 : ℕ} {p3 : ℕ} {p4 : ℕ} (hp1 : z.KeepsShape p1) : z.KeepsShape (Chip.preload p1 p2 p3 p4).1 := by
  unfold Chip.preload
  extract_lets +onlyGivenNames x1
  have hx1 : z.KeepsShape x1 := .each hp1 (fun a2 t3 ht3 => Chip.modCle_shape (Chip.preloadOne_shape (Chip.preloadOne_shape ht3)))
  clear_value x1
  extract_lets +onlyGivenNames x4
  clear_value x4
  exact .iteP (.fst hx1) (.fst (Chip.faultCl_shape (Chip.put_shape hx1)))

theorem Chip.catchStart_shape {z : Chip} {p1 : Chip} {p2 : ℕ} {p3 : ℕ} {p4 : ℕ} {p5 : Bool} (hp1 : z.KeepsShape p1) : z.KeepsShape (Chip.catchStart p1 p2 p3 p4 p5) := by
  unfold Chip.catchStart
  extract_lets +onlyGivenNames x1
  have hx1 : z.KeepsShape x1 := Chip.sets_shape hp1
  clear_value x1
  split
  · rename_i y2 y3 q4
    have hy2 : z.KeepsShape y2 := by
      have hh := congrArg Prod.fst q4
      dsimp only at hh
      rw [← hh]
      exact Chip.preload_shape hx1
    refine .ite ?_ hy2
    extract_lets +onlyGivenNames x5
    have hx5 : z.KeepsShape x5 := Chip.sets_shape hy2
    clear_value x5
    exact Chip.modCl_shape (Chip.enter_shape hx5)

theorem Chip.catchLock_shape {z : Chip} {p1 : Chip} {p2 : ℕ} {p3 : ℕ} {p4 : ℕ} {p5 : Bool} (hp1 : z.KeepsShape p1) : z.KeepsShape (Chip.catchLock p1 p2 p3 p4 p5) := by
  unfold Chip.catchLock
  extract_lets +onlyGivenNames x1
  have hx1 : z.KeepsShape x1 := Chip.modCl_shape hp1
  clear_value x1
  split
  · exact hx1
  · rename_i y4 y5 q6
    extract_lets +onlyGivenNames x7
    clear_value x7
    extract_lets +onlyGivenNames x8
    clear_value x8
    extract_lets +onlyGivenNames x9
    have hx9 : z.KeepsShape x9 := Chip.set_shape (Chip.set_shape hx1)
    clear_value x9
    refine .ite ?_ (.ite hx9 (.ite (Chip.fluxStart_shape hx9) (Chip.catchStart_shape hx9)))
    extract_lets +onlyGivenNames x10
    have hx10 : z.KeepsShape x10 := Chip.sets_shape hx9
    clear_value x10
    extract_lets +onlyGivenNames x11
    have hx11 : z.KeepsShape x11 := Chip.modCl_shape hx10
    clear_value x11
    extract_lets +onlyGivenNames x12
    have hx12 : z.KeepsShape x12 := Chip.noteCl_shape hx11
    clear_value x12
    exact .ite (Chip.setOvrs_shape (Chip.set_shape hx12)) hx12

theorem Chip.catchRestart_shape {z : Chip} {p1 : Chip} {p2 : ℕ} (hp1 : z.KeepsShape p1) : z.KeepsShape (Chip.catchRestart p1 p2) := by
  unfold Chip.catchRestart
  extract_lets +onlyGivenNames x1
  have hx1 : z.KeepsShape x1 := Chip.sets_shape hp1
  clear_value x1
  extract_lets +onlyGivenNames x2
  have hx2 : z.KeepsShape x2 := Chip.modCl_shape hx1
  clear_value x2
  exact .each hx2 (fun a3 t4 ht4 => Chip.feZero_shape (Chip.clearLists_shape ht4))

theorem Chip.catchTrack_shape {z : Chip} {p1 : Chip} {p2 : ℕ} {p3 : Option (ℕ × ℕ × ℕ)} (hp1 : z.KeepsShape p1) : z.KeepsShape (Chip.catchTrack p1 p2 p3) := by
  unfold Chip.catchTrack
  split
  · rename_i y1 y2 y3 q4 q5
    split
    · rename_i y6 y7 q8
      extract_lets +onlyGivenNames x9
      clear_value x9
      extract_lets +onlyGivenNames x10
      clear_value x10
      extract_lets +onlyGivenNames x11
      clear_value x11
      extract_lets +onlyGivenNames x12
      have hx12 : z.KeepsShape x12 := Chip.modCl_shape hp1
      clear_value x12
      split
      · exact hx12
      · rename_i y15 y16 q17
        extract_lets +onlyGivenNames x18
        clear_value x18
        extract_lets +onlyGivenNames x19
        clear_value x19
        refine .ite ?_ hx12
        extract_lets +onlyGivenNames x20
        have hx20 : z.KeepsShape x20 := Chip.put_shape hx12
        clear_value x20
        extract_lets +onlyGivenNames x21
        have hx21 : z.KeepsShape x21 := .ite (Chip.setOvrs_shape (Chip.set_shape hx20)) hx20
        clear_value x21
        extract_lets +onlyGivenNames x22
        clear_value x22
        exact .ite (Chip.enter_shape (Chip.setHeld_shape hx21)) (Chip.catchRestart_shape hx21)
  · exact hp1

theorem Chip.fluxDone_shape {z : Chip} {p1 : Chip} {p2 : ℕ} (hp1 : z.KeepsShape p1) : z.KeepsShape (Chip.fluxDone p1 p2) := by
  unfold Chip.fluxDone
  extract_lets +onlyGivenNames x1
  have hx1 : z.KeepsShape x1 := Chip.sets_shape hp1
  clear_value x1
  split
  · rename_i y2 y3 q4
    have hy2 : z.KeepsShape y2 := by
      have hh := congrArg Prod.fst q4
      dsimp only at hh
      rw [← hh]
      exact Chip.preload_shape (Chip.useFree_shape (Chip.useFree_shape hx1))
    refine .ite ?_ hy2
    extract_lets +onlyGivenNames x5
    have hx5 : z.KeepsShape x5 := Chip.sets_shape hy2
    clear_value x5
    exact Chip.modCl_shape (Chip.enter_shape hx5)

theorem Chip.fluxPass_shape {z : Chip} {p1 : Chip} {p2 : ℕ} {p3 : ℕ} (hp1 : z.KeepsShape p1) : z.KeepsShape (Chip.fluxPass p1 p2 p3) := by
  unfold Chip.fluxPass
  exact .ite (Chip.fluxDone_shape hp1) (Chip.modCl_shape hp1)

theorem Chip.catchPass_shape {z : Chip} {p1 : Chip} {p2 : ℕ} {p3 : Option (ℕ × ℕ × ℕ)} (hp1 : z.KeepsShape p1) : z.KeepsShape (Chip.catchPass p1 p2 p3) := by
  unfold Chip.catchPass
  refine .ite (Chip.catchTrack_shape hp1) ?_
  split
  · exact Chip.catchLock_shape hp1
  · exact Chip.fluxPass_shape hp1
  · extract_lets +onlyGivenNames x13
    clear_value x13
    extract_lets +onlyGivenNames x14
    have hx14 : z.KeepsShape x14 := Chip.set_shape hp1
    clear_value x14
    refine .ite ?_ ?_
    · split
      · rename_i y15 q16
        refine .ite ?_ hx14
        extract_lets +onlyGivenNames x17
        clear_value x17
        extract_lets +onlyGivenNames x18
        clear_value x18
        exact Chip.catchLock_shape hx14
      · exact hx14
    · refine .ite ?_ hx14
      extract_lets +onlyGivenNames x21
      clear_value x21
      extract_lets +onlyGivenNames x22
      clear_value x22
      split
      · rename_i y23 y24 y25 q26 q27 q28 q29
        split <;> exact Chip.catchLock_shape hx14
      · exact hx14

theorem Chip.pulseOn_shape {z : Chip} {p1 : Chip} {p2 : ℕ} (hp1 : z.KeepsShape p1) : z.KeepsShape (Chip.pulseOn p1 p2) := by
  unfold Chip.pulseOn
  exact Chip.setOvrs_shape (Chip.modCl_shape hp1)

theorem Chip.catchPulse_shape {z : Chip} {p1 : Chip} {p2 : ℕ} (hp1 : z.KeepsShape p1) : z.KeepsShape (Chip.catchPulse p1 p2) := by
  unfold Chip.catchPulse
  extract_lets +onlyGivenNames x1
  extract_lets +onlyGivenNames x2
  clear_value x2
  extract_lets +onlyGivenNames x3
  clear_value x3
  refine .ite ?_ (.ite (Chip.pulseOn_shape hp1) hp1)
  extract_lets +onlyGivenNames x4
  have hx4 : z.KeepsShape x4 := Chip.modCl_shape hp1
  clear_value x4
  exact .ite (Chip.setOvrs_shape hx4) hx4

theorem Chip.noLock_shape {z : Chip} {p1 : Chip} {p2 : ℕ} (hp1 : z.KeepsShape p1) : z.KeepsShape (Chip.noLock p1 p2) := by
  unfold Chip.noLock
  extract_lets +onlyGivenNames x1
  have hx1 : z.KeepsShape x1 := Chip.sets_shape hp1
  clear_value x1
  extract_lets +onlyGivenNames x2
  have hx2 : z.KeepsShape x2 := Chip.noteCl_shape hx1
  clear_value x2
  exact Chip.enter_shape hx2

theorem Chip.catchStandstill_shape {z : Chip} {p1 : Chip} {p2 : ℕ} (hp1 : z.KeepsShape p1) : z.KeepsShape (Chip.catchStandstill p1 p2) := by
  unfold Chip.catchStandstill
  exact .ite (Chip.catchLock_shape (Chip.obsCaught_shape (Chip.useFree_shape hp1))) (Chip.noLock_shape hp1)

theorem Chip.cellarReset_shape {z : Chip} {p1 : Chip} {p2 : PowerState} (hp1 : z.KeepsShape p1) : z.KeepsShape (Chip.cellarReset p1 p2) := by
  unfold Chip.cellarReset
  extract_lets +onlyGivenNames x1
  have hx1 : z.KeepsShape x1 := Chip.dieReset_shape hp1
  clear_value x1
  extract_lets +onlyGivenNames x2
  have hx2 : z.KeepsShape x2 := Chip.resetRange_shape hx1
  clear_value x2
  exact hx2.step rfl

theorem Chip.tally_shape {z : Chip} {p1 : Chip} {p2 : ℕ} {p3 : ℕ} {p4 : Bool} (hp1 : z.KeepsShape p1) : z.KeepsShape (Chip.tally p1 p2 p3 p4).1 := by
  unfold Chip.tally
  extract_lets +onlyGivenNames x1
  extract_lets +onlyGivenNames x2
  clear_value x2
  extract_lets +onlyGivenNames x3
  clear_value x3
  extract_lets +onlyGivenNames x4
  clear_value x4
  extract_lets +onlyGivenNames x5
  clear_value x5
  extract_lets +onlyGivenNames x6
  exact .fst (Chip.modMeas_shape hp1)

theorem Chip.rbSet_shape {z : Chip} {p1 : Chip} {p2 : ℕ} {p3 : ℕ} {p4 : ℕ} (hp1 : z.KeepsShape p1) : z.KeepsShape (Chip.rbSet p1 p2 p3 p4) := by
  unfold Chip.rbSet
  exact Chip.modMeas_shape hp1

theorem Chip.rbOr_shape {z : Chip} {p1 : Chip} {p2 : ℕ} {p3 : ℕ} {p4 : ℕ} (hp1 : z.KeepsShape p1) : z.KeepsShape (Chip.rbOr p1 p2 p3 p4) := by
  unfold Chip.rbOr
  exact Chip.rbSet_shape hp1

theorem Chip.checkPath_shape {z : Chip} {p1 : Chip} {p2 : ℕ} {p3 : ℕ} {p4 : ℕ} (hp1 : z.KeepsShape p1) : z.KeepsShape (Chip.checkPath p1 p2 p3 p4) := by
  unfold Chip.checkPath
  split
  · rename_i y1 y2 q3 q4
    extract_lets +onlyGivenNames x5
    clear_value x5
    extract_lets +onlyGivenNames x6
    clear_value x6
    split
    · rename_i y7 y8 q9
      have hy7 : z.KeepsShape y7 := by
        have hh := congrArg Prod.fst q9
        dsimp only at hh
        rw [← hh]
        exact Chip.tally_shape hp1
      extract_lets +onlyGivenNames x10
      have hx10 : z.KeepsShape x10 := .ite (Chip.rbOr_shape hy7) hy7
      clear_value x10
      exact .ite (Chip.faultCl_shape (Chip.put_shape hx10)) hx10
  · exact hp1

theorem Chip.checkSum_shape {z : Chip} {p1 : Chip} {p2 : ℕ} {p3 : ℕ} {p4 : ℕ} (hp1 : z.KeepsShape p1) : z.KeepsShape (Chip.checkSum p1 p2 p3 p4) := by
  unfold Chip.checkSum
  split
  · rename_i y1 y2 y3 q4 q5 q6
    extract_lets +onlyGivenNames x7
    clear_value x7
    extract_lets +onlyGivenNames x8
    clear_value x8
    split
    · rename_i y9 y10 q11
      have hy9 : z.KeepsShape y9 := by
        have hh := congrArg Prod.fst q11
        dsimp only at hh
        rw [← hh]
        exact Chip.tally_shape hp1
      extract_lets +onlyGivenNames x12
      have hx12 : z.KeepsShape x12 := .ite (Chip.rbOr_shape hy9) hy9
      clear_value x12
      exact .ite (Chip.faultCl_shape (Chip.put_shape hx12)) hx12
  · exact hp1

theorem Chip.checkVdc_shape {z : Chip} {p1 : Chip} {p2 : ℕ} {p3 : ℕ} (hp1 : z.KeepsShape p1) : z.KeepsShape (Chip.checkVdc p1 p2 p3) := by
  unfold Chip.checkVdc
  split
  · rename_i y1 y2 q3
    extract_lets +onlyGivenNames x4
    clear_value x4
    extract_lets +onlyGivenNames x5
    clear_value x5
    split
    · rename_i y6 y7 q8
      have hy6 : z.KeepsShape y6 := by
        have hh := congrArg Prod.fst q8
        dsimp only at hh
        rw [← hh]
        exact Chip.tally_shape hp1
      extract_lets +onlyGivenNames x9
      have hx9 : z.KeepsShape x9 := .ite (Chip.rbOr_shape hy6) hy6
      clear_value x9
      exact .ite (Chip.faultCl_shape (Chip.put_shape hx9)) hx9
  · exact hp1

theorem Chip.modSw_shape {z : Chip} {p1 : Chip} {p2 : ℕ} {p3 : SwitchS → SwitchS} (hp1 : z.KeepsShape p1) : z.KeepsShape (Chip.modSw p1 p2 p3) := by
  unfold Chip.modSw
  exact Chip.modChm_shape hp1

theorem Chip.showTj_shape {z : Chip} {p1 : Chip} {p2 : ℕ} (hp1 : z.KeepsShape p1) : z.KeepsShape (Chip.showTj p1 p2) := by
  unfold Chip.showTj
  split
  · rename_i y1 y2 q3
    extract_lets +onlyGivenNames x4
    have hx4 : z.KeepsShape x4 := Chip.set_shape (Chip.set_shape hp1)
    clear_value x4
    refine .ite ?_ hx4
    extract_lets +onlyGivenNames x5
    exact Chip.modSw_shape hx4

theorem Chip.modelStep_shape {z : Chip} {p1 : Chip} {p2 : ℕ} {p3 : ℕ} {p4 : ℕ} (hp1 : z.KeepsShape p1) : z.KeepsShape (Chip.modelStep p1 p2 p3 p4) := by
  unfold Chip.modelStep
  refine .ite ?_ hp1
  extract_lets +onlyGivenNames x1
  clear_value x1
  extract_lets +onlyGivenNames x2
  clear_value x2
  extract_lets +onlyGivenNames x3
  clear_value x3
  exact Chip.modSw_shape hp1

theorem Chip.tjOver_shape {z : Chip} {p1 : Chip} {p2 : ℕ} (hp1 : z.KeepsShape p1) : z.KeepsShape (Chip.tjOver p1 p2) := by
  unfold Chip.tjOver
  extract_lets +onlyGivenNames x1
  clear_value x1
  split
  · exact .ite hp1 (Chip.faultCl_shape (Chip.put_shape hp1))
  · exact hp1

theorem Chip.peakEnforce_shape {z : Chip} {p1 : Chip} {p2 : ℕ} (hp1 : z.KeepsShape p1) : z.KeepsShape (Chip.peakEnforce p1 p2) := by
  unfold Chip.peakEnforce
  extract_lets +onlyGivenNames x1
  have hx1 : z.KeepsShape x1 := Chip.modChm_shape hp1
  clear_value x1
  exact Chip.limitCl_shape (Chip.put_shape (Chip.set_shape hx1))

theorem Chip.peakFree_shape {z : Chip} {p1 : Chip} {p2 : ℕ} (hp1 : z.KeepsShape p1) : z.KeepsShape (Chip.peakFree p1 p2) := by
  unfold Chip.peakFree
  exact Chip.put_shape (Chip.set_shape hp1)

theorem Chip.peakStep_shape {z : Chip} {p1 : Chip} {p2 : ℕ} (hp1 : z.KeepsShape p1) : z.KeepsShape (Chip.peakStep p1 p2) := by
  unfold Chip.peakStep
  extract_lets +onlyGivenNames x1
  clear_value x1
  extract_lets +onlyGivenNames x2
  have hx2 : z.KeepsShape x2 := Chip.sets_shape hp1
  clear_value x2
  extract_lets +onlyGivenNames x3
  have hx3 : z.KeepsShape x3 := .ite (Chip.put_shape hx2) hx2
  clear_value x3
  extract_lets +onlyGivenNames x4
  clear_value x4
  extract_lets +onlyGivenNames x5
  have hx5 : z.KeepsShape x5 := Chip.modChm_shape hx3
  clear_value x5
  extract_lets +onlyGivenNames x6
  have hx6 : z.KeepsShape x6 := Chip.noteCl_shape (Chip.put_shape (Chip.set_shape hx5))
  clear_value x6
  extract_lets +onlyGivenNames x7
  have hx7 : z.KeepsShape x7 := .ite (.ite (Chip.peakEnforce_shape hx6) hx6) (.ite (Chip.peakFree_shape hx3) hx3)
  clear_value x7
  exact Chip.showLim_shape hx7

theorem Chip.chmPass_shape {z : Chip} {p1 : Chip} {p2 : ℕ} {p3 : List ℕ} {p4 : ℕ} (hp1 : z.KeepsShape p1) : z.KeepsShape (Chip.chmPass p1 p2 p3 p4) := by
  unfold Chip.chmPass
  extract_lets +onlyGivenNames x1
  clear_value x1
  extract_lets +onlyGivenNames x2
  have hx2 : z.KeepsShape x2 := Chip.modChm_shape hp1
  clear_value x2
  extract_lets +onlyGivenNames x3
  extract_lets +onlyGivenNames x4
  have hx4 : z.KeepsShape x4 := by
    unfold x4
    refine .each hx2 ?_
    intro a5 t6 ht6
    extract_lets +onlyGivenNames x7
    clear_value x7
    exact Chip.showTj_shape (Chip.modelStep_shape ht6)
  clear_value x4
  extract_lets +onlyGivenNames x8
  clear_value x8
  extract_lets +onlyGivenNames x9
  clear_value x9
  extract_lets +onlyGivenNames x10
  have hx10 : z.KeepsShape x10 := Chip.set_shape hx4
  clear_value x10
  exact Chip.tjOver_shape (Chip.peakStep_shape hx10)

theorem Chip.chmCurrents_shape {z : Chip} {p1 : Chip} {p2 : ℕ} {p3 : Option (ℕ × ℕ × ℕ)} (hp1 : z.KeepsShape p1) : z.KeepsShape (Chip.chmCurrents p1 p2 p3) := by
  unfold Chip.chmCurrents
  split
  · rename_i y1 y2 y3 q4
    extract_lets +onlyGivenNames x5
    clear_value x5
    extract_lets +onlyGivenNames x6
    clear_value x6
    exact Chip.chmPass_shape hp1
  · exact Chip.chmPass_shape hp1

theorem Chip.chmTick_shape {z : Chip} {p1 : Chip} (hp1 : z.KeepsShape p1) : z.KeepsShape (Chip.chmTick p1) := by
  unfold Chip.chmTick
  extract_lets +onlyGivenNames x1
  exact .ite hp1 (.each (Chip.modChm_shape hp1) (fun a2 t3 ht3 => Chip.modAge_shape ht3))

theorem Chip.chopFail_shape {z : Chip} {p1 : Chip} (hp1 : z.KeepsShape p1) : z.KeepsShape (Chip.chopFail p1) := by
  unfold Chip.chopFail
  extract_lets +onlyGivenNames x1
  extract_lets +onlyGivenNames x2
  have hx2 : z.KeepsShape x2 := .ite hp1 (hp1.step rfl)
  clear_value x2
  exact Chip.record_shape (Chip.put_shape (Chip.put_shape hx2))

theorem Chip.chopRule_shape {z : Chip} {p1 : Chip} (hp1 : z.KeepsShape p1) : z.KeepsShape (Chip.chopRule p1) := by
  unfold Chip.chopRule
  extract_lets +onlyGivenNames x1
  clear_value x1
  refine .ite hp1 ?_
  refine .ite (.ite hp1 (Chip.chopStart_shape (Chip.count_shape hp1))) ?_
  refine .ite ?_ hp1
  extract_lets +onlyGivenNames x2
  have hx2 : z.KeepsShape x2 := Chip.chopper_shape hp1
  clear_value x2
  exact (hx2.step rfl)

theorem Chip.cleClamp_shape {z : Chip} {p1 : Chip} {p2 : ℕ} {p3 : ℕ} {p4 : ℕ} {p5 : ℕ} (hp1 : z.KeepsShape p1) : z.KeepsShape (Chip.cleClamp p1 p2 p3 p4 p5).1 := by
  unfold Chip.cleClamp
  extract_lets +onlyGivenNames x1
  clear_value x1
  extract_lets +onlyGivenNames x2
  clear_value x2
  extract_lets +onlyGivenNames x3
  clear_value x3
  extract_lets +onlyGivenNames x4
  have hx4 : z.KeepsShape x4 := .ite hp1 (Chip.noteCl_shape hp1)
  clear_value x4
  extract_lets +onlyGivenNames x5
  have hx5 : z.KeepsShape x5 := .ite (Chip.put_shape hx4) hp1
  clear_value x5
  extract_lets +onlyGivenNames x6
  clear_value x6
  extract_lets +onlyGivenNames x7
  have hx7 : z.KeepsShape x7 := .ite (Chip.setBitOf_shape hx5) hx5
  clear_value x7
  exact .fst hx7

theorem Chip.ringStop_shape {z : Chip} {p1 : Chip} (hp1 : z.KeepsShape p1) : z.KeepsShape (Chip.ringStop p1) := by
  unfold Chip.ringStop
  exact .ite (Chip.modRing_shape (Chip.msgsDown_shape hp1)) (Chip.modRing_shape hp1)

theorem Chip.haltRegion_shape {z : Chip} {p1 : Chip} {p2 : ℕ} {p3 : ℕ} (hp1 : z.KeepsShape p1) : z.KeepsShape (Chip.haltRegion p1 p2 p3) := by
  unfold Chip.haltRegion
  exact Chip.haltPartner_shape (Chip.regionReset_shape hp1)

theorem Chip.clockHalt_shape {z : Chip} {p1 : Chip} {p2 : ℕ} {p3 : ℕ} (hp1 : z.KeepsShape p1) : z.KeepsShape (Chip.clockHalt p1 p2 p3) := by
  unfold Chip.clockHalt
  extract_lets +onlyGivenNames x1
  have hx1 : z.KeepsShape x1 := Chip.record_shape (Chip.put_shape hp1)
  clear_value x1
  exact Chip.ringStop_shape (Chip.haltRegion_shape (Chip.haltRegion_shape hx1))

theorem Chip.cmpRoleActs_shape {z : Chip} {p1 : Chip} {p2 : ℕ} {p3 : Bool} {p4 : ℕ} (hp1 : z.KeepsShape p1) : z.KeepsShape (Chip.cmpRoleActs p1 p2 p3 p4) := by
  unfold Chip.cmpRoleActs
  exact .ite (.ite (hp1.step rfl) hp1) (Chip.cmpDemand_shape hp1)

theorem Chip.cmpTick_shape {z : Chip} {p1 : Chip} {p2 : ℕ} (hp1 : z.KeepsShape p1) : z.KeepsShape (Chip.cmpTick p1 p2) := by
  unfold Chip.cmpTick
  extract_lets +onlyGivenNames x1
  refine .ite hp1 ?_
  extract_lets +onlyGivenNames x2
  have hx2 : z.KeepsShape x2 := by
    unfold x2
    refine .each hp1 ?_
    intro a3 t4 ht4
    extract_lets +onlyGivenNames x5
    have hx5 : z.KeepsShape x5 := Chip.set_shape ht4
    clear_value x5
    exact .ite (Chip.put_shape hx5) hx5
  clear_value x2
  exact Chip.modCl_shape hx2

theorem Chip.unhold_shape {z : Chip} {p1 : Chip} {p2 : ℕ} (hp1 : z.KeepsShape p1) : z.KeepsShape (Chip.unhold p1 p2) := by
  unfold Chip.unhold
  extract_lets +onlyGivenNames x1
  exact .ite (Chip.set_shape (Chip.modIsl_shape hp1)) hp1

theorem Chip.commandOff_shape {z : Chip} {p1 : Chip} {p2 : ℕ} (hp1 : z.KeepsShape p1) : z.KeepsShape (Chip.commandOff p1 p2) := by
  unfold Chip.commandOff
  extract_lets +onlyGivenNames x1
  have hx1 : z.KeepsShape x1 := Chip.unhold_shape (Chip.modIsl_shape hp1)
  clear_value x1
  exact .ite (Chip.gateAway_shape hx1) hx1

theorem Chip.runSecond_shape {z : Chip} {p1 : Chip} {p2 : ℕ} (hp1 : z.KeepsShape p1) : z.KeepsShape (Chip.runSecond p1 p2) := by
  unfold Chip.runSecond
  extract_lets +onlyGivenNames x1
  exact .ite (Chip.modLedger_shape hp1) hp1

theorem Chip.turnOn_shape {z : Chip} {p1 : Chip} {p2 : ℕ} (hp1 : z.KeepsShape p1) : z.KeepsShape (Chip.turnOn p1 p2) := by
  unfold Chip.turnOn
  extract_lets +onlyGivenNames x1
  clear_value x1
  extract_lets +onlyGivenNames x2
  have hx2 : z.KeepsShape x2 := Chip.modIsl_shape hp1
  clear_value x2
  exact Chip.runSecond_shape (Chip.islTo_shape hx2)

theorem Chip.onArrives_shape {z : Chip} {p1 : Chip} {p2 : ℕ} (hp1 : z.KeepsShape p1) : z.KeepsShape (Chip.onArrives p1 p2) := by
  unfold Chip.onArrives
  extract_lets +onlyGivenNames x1
  have hx1 : z.KeepsShape x1 := .ite (Chip.abortLeak_shape hp1) hp1
  clear_value x1
  extract_lets +onlyGivenNames x2
  exact .ite (Chip.turnOn_shape hx1) (.ite (Chip.turnOn_shape hx1) hx1)

theorem Chip.commandOn_shape {z : Chip} {p1 : Chip} {p2 : ℕ} (hp1 : z.KeepsShape p1) : z.KeepsShape (Chip.commandOn p1 p2) := by
  unfold Chip.commandOn
  extract_lets +onlyGivenNames x1
  have hx1 : z.KeepsShape x1 := Chip.modIsl_shape hp1
  clear_value x1
  exact .ite hx1 (.ite (Chip.count_shape (Chip.modIsl_shape hx1)) (Chip.onArrives_shape hx1))

theorem Chip.modTwin_shape {z : Chip} {p1 : Chip} {p2 : TwinS → TwinS} (hp1 : z.KeepsShape p1) : z.KeepsShape (Chip.modTwin p1 p2) := by
  unfold Chip.modTwin
  exact (hp1.step rfl)

theorem Chip.copyCycle_shape {z : Chip} {p1 : Chip} (hp1 : z.KeepsShape p1) : z.KeepsShape (Chip.copyCycle p1) := by
  unfold Chip.copyCycle
  refine .ite ?_ (Chip.modTwin_shape hp1)
  extract_lets +onlyGivenNames x1
  have hx1 : z.KeepsShape x1 := Chip.set_shape (Chip.modTwin_shape hp1)
  clear_value x1
  exact Chip.note_shape (Chip.setBitOf_shape hx1)

theorem Chip.copyEngine_shape {z : Chip} {p1 : Chip} {p2 : ℕ} {p3 : ℕ} (hp1 : z.KeepsShape p1) : z.KeepsShape (Chip.copyEngine p1 p2 p3) := by
  unfold Chip.copyEngine
  extract_lets +onlyGivenNames x1
  have hx1 : z.KeepsShape x1 := Chip.modCle_shape hp1
  clear_value x1
  extract_lets +onlyGivenNames x2
  have hx2 : z.KeepsShape x2 := .each hx1 (fun a3 t4 ht4 => Chip.set_shape ht4)
  clear_value x2
  extract_lets +onlyGivenNames x5
  have hx5 : z.KeepsShape x5 := Chip.sets_shape hx2
  clear_value x5
  exact Chip.modCl_shape hx5

theorem Chip.copyRx_shape {z : Chip} {p1 : Chip} {p2 : ℕ} {p3 : List Byte} {p4 : Bool} {p5 : Bool} (hp1 : z.KeepsShape p1) : z.KeepsShape (Chip.copyRx p1 p2 p3 p4 p5) := by
  unfold Chip.copyRx
  extract_lets +onlyGivenNames x1
  have hx1 : ∀ w2, z.KeepsShape w2 → ∀ w3, z.KeepsShape (x1 w2 w3) := by
    intro w2 hw2 w3
    unfold x1
    extract_lets +onlyGivenNames x4
    have hx4 : z.KeepsShape x4 := Chip.set_shape (Chip.modTwin_shape hw2)
    clear_value x4
    exact Chip.note_shape (Chip.setBitOf_shape hx4)
  clear_value x1
  refine .ite hp1 ?_
  refine .ite ?_ ?_
  · extract_lets +onlyGivenNames x5
    have hx5 : z.KeepsShape x5 := Chip.bump_shape hp1
    clear_value x5
    exact .ite hx5 (hx1 _ hx5 _)
  · refine .ite hp1 ?_
    refine .ite (hx1 _ hp1 _) ?_
    extract_lets +onlyGivenNames x6
    clear_value x6
    extract_lets +onlyGivenNames x7
    clear_value x7
    extract_lets +onlyGivenNames x8
    have hx8 : z.KeepsShape x8 := .ite (Chip.storeRun_shape hp1) hp1
    clear_value x8
    extract_lets +onlyGivenNames x9
    have hx9 : z.KeepsShape x9 := Chip.set_shape (Chip.modTwin_shape hx8)
    clear_value x9
    refine .ite ?_ hx9
    extract_lets +onlyGivenNames x10
    have hx10 : z.KeepsShape x10 := Chip.sets_shape (Chip.modTwin_shape hx9)
    clear_value x10
    exact Chip.setBitOf_shape (Chip.count_shape hx10)

theorem Chip.copyTable2_shape {z : Chip} {p1 : Chip} {p2 : ℕ} (hp1 : z.KeepsShape p1) : z.KeepsShape (Chip.copyTable2 p1 p2) := by
  unfold Chip.copyTable2
  extract_lets +onlyGivenNames x1
  clear_value x1
  exact Chip.setBytes_shape hp1

theorem Chip.copyTick_shape {z : Chip} {p1 : Chip} (hp1 : z.KeepsShape p1) : z.KeepsShape (Chip.copyTick p1) := by
  unfold Chip.copyTick
  exact .ite (Chip.put_shape (Chip.modTwin_shape hp1)) hp1

theorem Chip.retire_shape {z : Chip} {p1 : Chip} {p2 : ℕ} (hp1 : z.KeepsShape p1) : z.KeepsShape (Chip.retire p1 p2) := by
  unfold Chip.retire
  exact Chip.modHart_shape hp1

theorem Chip.effectOf_shape {z : Chip} {p1 : Chip} {p2 : List ℕ} (hp1 : z.KeepsShape p1) : z.KeepsShape (Chip.effectOf p1 p2) := by
  unfold Chip.effectOf
  split
  · exact hp1
  · exact Chip.effectAt_shape hp1
  · exact Chip.effectAt_shape (Chip.useFree_shape hp1)

theorem Chip.drainN_shape {z : Chip} {p1 : Option Requester} {p2 : Posted → Bool} {p3 : ℕ} {p4 : Chip} (hp4 : z.KeepsShape p4) :
    z.KeepsShape (Chip.drainN p1 p2 p3 p4) := by
  induction p3 generalizing p4 with
  | zero => exact hp4
  | succ n ih =>
    unfold Chip.drainN
    split
    · exact hp4
    · exact ih (Chip.effectOf_shape hp4)

theorem Chip.unitEnd_shape {z : Chip} {p1 : Chip} {p2 : UnitId} (hp1 : z.KeepsShape p1) : z.KeepsShape (Chip.unitEnd p1 p2) := by
  unfold Chip.unitEnd
  refine .ite hp1 ?_
  extract_lets +onlyGivenNames x1
  extract_lets +onlyGivenNames x2
  extract_lets +onlyGivenNames x3
  extract_lets +onlyGivenNames x4
  have hx4 : z.KeepsShape x4 := (hp1.step rfl)
  clear_value x4
  exact .each hx4 (fun a5 t6 ht6 => Chip.regWrite_shape ht6)

theorem Chip.endHolds_shape {z : Chip} {p1 : Requester} {p2 : ℕ → Bool} {p3 : ℕ} {p4 : Chip} (hp4 : z.KeepsShape p4) :
    z.KeepsShape (Chip.endHolds p1 p2 p3 p4) := by
  induction p3 generalizing p4 with
  | zero => exact hp4
  | succ n ih =>
    unfold Chip.endHolds
    split
    · exact hp4
    · split
      · exact ih (Chip.unitEnd_shape hp4)
      · exact hp4

theorem Chip.drain_shape {z : Chip} {p1 : Chip} {p2 : Requester} {p3 : ℕ → Bool} (hp1 : z.KeepsShape p1) : z.KeepsShape (Chip.drain p1 p2 p3) := by
  unfold Chip.drain
  extract_lets +onlyGivenNames x1
  extract_lets +onlyGivenNames x2
  have hx2 : z.KeepsShape x2 := Chip.drainN_shape hp1
  clear_value x2
  extract_lets +onlyGivenNames x3
  have hx3 : z.KeepsShape x3 := Chip.endHolds_shape hx2
  clear_value x3
  extract_lets +onlyGivenNames x4
  have hx4 : z.KeepsShape x4 := Chip.drainN_shape hx3
  clear_value x4
  exact Chip.endHolds_shape hx4

theorem Chip.drainAll_shape {z : Chip} {p1 : Chip} {p2 : Requester} (hp1 : z.KeepsShape p1) : z.KeepsShape (Chip.drainAll p1 p2) := by
  unfold Chip.drainAll
  exact Chip.drain_shape hp1

theorem Chip.coreFence_shape {z : Chip} {p1 : Chip} {p2 : ℕ} {p3 : FenceSet} (hp1 : z.KeepsShape p1) : z.KeepsShape (Chip.coreFence p1 p2 p3) := by
  unfold Chip.coreFence
  extract_lets +onlyGivenNames x1
  exact .ite hp1 (Chip.retire_shape (.ite (Chip.drain_shape hp1) (.ite (Chip.drainAll_shape hp1) (.ite (Chip.drain_shape hp1) hp1))))

theorem Chip.trap_shape {z : Chip} {p1 : Chip} {p2 : ℕ} {p3 : ℕ} {p4 : ℕ} (hp1 : z.KeepsShape p1) : z.KeepsShape (Chip.trap p1 p2 p3 p4) := by
  unfold Chip.trap
  exact Chip.modHart_shape hp1

theorem Chip.regRead_shape {z : Chip} {p1 : Chip} {p2 : Requester} {p3 : ℕ} (hp1 : z.KeepsShape p1) : z.KeepsShape (Chip.regRead p1 p2 p3).1 := by
  unfold Chip.regRead
  refine .iteP (.fst (Chip.discard_shape hp1)) ?_
  extract_lets +onlyGivenNames x1
  have hx1 : z.KeepsShape x1 := Chip.reachGate_shape hp1
  clear_value x1
  extract_lets +onlyGivenNames x2
  have hx2 : z.KeepsShape x2 := by
    unfold x2
    split
    · exact Chip.unitEnd_shape hx1
    · exact hx1
  clear_value x2
  exact Chip.blockRead_shape hx2

theorem Chip.eccInfo_shape {z : Chip} {p1 : Chip} {p2 : ℕ} {p3 : ℕ} {p4 : ℕ} {p5 : Bool} {p6 : Bool} (hp1 : z.KeepsShape p1) : z.KeepsShape (Chip.eccInfo p1 p2 p3 p4 p5 p6) := by
  unfold Chip.eccInfo
  exact Chip.sets_shape hp1

theorem Chip.eccCor_shape {z : Chip} {p1 : Chip} {p2 : ℕ} {p3 : ℕ} {p4 : ℕ} {p5 : ℕ} {p6 : Bool} (hp1 : z.KeepsShape p1) : z.KeepsShape (Chip.eccCor p1 p2 p3 p4 p5 p6) := by
  unfold Chip.eccCor
  extract_lets +onlyGivenNames x1
  have hx1 : z.KeepsShape x1 := Chip.eccInfo_shape (Chip.setEcc_shape hp1)
  clear_value x1
  extract_lets +onlyGivenNames x2
  have hx2 : z.KeepsShape x2 := Chip.bump_shape hx1
  clear_value x2
  exact Chip.firstNote_shape hx2

theorem Chip.eccUnc_shape {z : Chip} {p1 : Chip} {p2 : ℕ} {p3 : ℕ} {p4 : ℕ} {p5 : ℕ} {p6 : Bool} (hp1 : z.KeepsShape p1) : z.KeepsShape (Chip.eccUnc p1 p2 p3 p4 p5 p6) := by
  unfold Chip.eccUnc
  extract_lets +onlyGivenNames x1
  have hx1 : z.KeepsShape x1 := Chip.eccInfo_shape (Chip.setEcc_shape hp1)
  clear_value x1
  exact Chip.put_shape (Chip.bump_shape hx1)

theorem Chip.halt_shape {z : Chip} {p1 : Chip} {p2 : ℕ} {p3 : ℕ} {p4 : ℕ} {p5 : ℕ} (hp1 : z.KeepsShape p1) : z.KeepsShape (Chip.halt p1 p2 p3 p4 p5) := by
  unfold Chip.halt
  exact Chip.haltRegion_shape (Chip.record_shape hp1)

theorem Chip.eccRead_shape {z : Chip} {p1 : Chip} {p2 : ℕ} {p3 : ℕ} {p4 : ℕ} {p5 : Bool} {p6 : ℕ} (hp1 : z.KeepsShape p1) : z.KeepsShape (Chip.eccRead p1 p2 p3 p4 p5 p6).1 := by
  unfold Chip.eccRead
  split
  · exact .fst hp1
  · rename_i y3 q4
    split
    · exact .fst hp1
    · exact .fst (Chip.eccCor_shape hp1)
    · rename_i y9 q10
      extract_lets +onlyGivenNames x11
      have hx11 : z.KeepsShape x11 := Chip.eccUnc_shape hp1
      clear_value x11
      exact .iteP (.fst (Chip.halt_shape hx11)) (.iteP (.fst hx11) (.fst (Chip.note_shape hx11)))

theorem Chip.loadData_shape {z : Chip} {p1 : Chip} {p2 : ℕ} {p3 : ℕ} {p4 : ℕ} {p5 : ℕ} (hp1 : z.KeepsShape p1) : z.KeepsShape (Chip.loadData p1 p2 p3 p4 p5).1 := by
  unfold Chip.loadData
  refine .iteP ?_ ?_
  · split
    · rename_i y1 y2 q3
      have hy1 : z.KeepsShape y1 := by
        have hh := congrArg Prod.fst q3
        dsimp only at hh
        rw [← hh]
        exact Chip.regRead_shape hp1
      exact .fst hy1
  · extract_lets +onlyGivenNames x4
    clear_value x4
    split
    · rename_i y5 y6 q7
      have hy5 : z.KeepsShape y5 := by
        have hh := congrArg Prod.fst q7
        dsimp only at hh
        rw [← hh]
        exact Chip.eccRead_shape (Chip.reachGate_shape hp1)
      exact .fst hy5

theorem Chip.drainUnit_shape {z : Chip} {p1 : Chip} {p2 : Requester} {p3 : ℕ} (hp1 : z.KeepsShape p1) : z.KeepsShape (Chip.drainUnit p1 p2 p3) := by
  unfold Chip.drainUnit
  exact Chip.drain_shape hp1

theorem Chip.putReg_shape {z : Chip} {p1 : Chip} {p2 : ℕ} {p3 : Bool} {p4 : ℕ} {p5 : ℕ} (hp1 : z.KeepsShape p1) : z.KeepsShape (Chip.putReg p1 p2 p3 p4 p5) := by
  unfold Chip.putReg
  exact .ite (Chip.modHart_shape hp1) (.ite hp1 (Chip.modHart_shape hp1))

theorem Chip.coreLoad_shape {z : Chip} {p1 : Chip} {p2 : ℕ} {p3 : ℕ} {p4 : Bool} {p5 : Bool} {p6 : ℕ} {p7 : ℕ} {p8 : ℕ} (hp1 : z.KeepsShape p1) : z.KeepsShape (Chip.coreLoad p1 p2 p3 p4 p5 p6 p7 p8) := by
  unfold Chip.coreLoad
  refine .ite hp1 ?_
  refine .ite (Chip.trap_shape hp1) ?_
  refine .ite (Chip.trap_shape hp1) ?_
  split
  · rename_i y1 y2 q3
    have hy1 : z.KeepsShape y1 := by
      have hh := congrArg Prod.fst q3
      dsimp only at hh
      rw [← hh]
      exact Chip.loadData_shape (Chip.drainUnit_shape hp1)
    exact Chip.retire_shape (Chip.putReg_shape hy1)
  · rename_i y4 q5
    have hy4 : z.KeepsShape y4 := by
      have hh := congrArg Prod.fst q5
      dsimp only at hh
      rw [← hh]
      exact Chip.loadData_shape (Chip.drainUnit_shape hp1)
    exact .ite hy4 (Chip.trap_shape hy4)

theorem Chip.post_shape {z : Chip} {p1 : Chip} {p2 : Requester} {p3 : ℕ} {p4 : ℕ} {p5 : ℕ} (hp1 : z.KeepsShape p1) : z.KeepsShape (Chip.post p1 p2 p3 p4 p5) := by
  unfold Chip.post
  exact (hp1.step rfl)

theorem Chip.coreStore_shape {z : Chip} {p1 : Chip} {p2 : ℕ} {p3 : ℕ} {p4 : ℕ} {p5 : ℕ} (hp1 : z.KeepsShape p1) : z.KeepsShape (Chip.coreStore p1 p2 p3 p4 p5) := by
  unfold Chip.coreStore
  exact .ite hp1 (.ite (Chip.trap_shape hp1) (.ite (Chip.trap_shape hp1) (Chip.retire_shape (Chip.post_shape hp1))))

theorem Chip.cqAnnounce_shape {z : Chip} {p1 : Chip} {p2 : ℕ} (hp1 : z.KeepsShape p1) : z.KeepsShape (Chip.cqAnnounce p1 p2) := by
  unfold Chip.cqAnnounce
  refine .ite hp1 ?_
  extract_lets +onlyGivenNames x1
  have hx1 : z.KeepsShape x1 := .ite (.ite (Chip.put_shape hp1) (Chip.bump_shape hp1)) hp1
  clear_value x1
  extract_lets +onlyGivenNames x2
  have hx2 : z.KeepsShape x2 := .ite (Chip.modHw_shape hx1) hx1
  clear_value x2
  extract_lets +onlyGivenNames x3
  have hx3 : z.KeepsShape x3 := .ite hx1 (Chip.bump_shape hx2)
  clear_value x3
  exact Chip.cqSettle_shape hx3

theorem Chip.crcError_shape {z : Chip} {p1 : Chip} {p2 : ℕ} (hp1 : z.KeepsShape p1) : z.KeepsShape (Chip.crcError p1 p2) := by
  unfold Chip.crcError
  exact Chip.bump_shape hp1

theorem Chip.ctrDropOut_shape {z : Chip} {p1 : Chip} {p2 : Bool} (hp1 : z.KeepsShape p1) : z.KeepsShape (Chip.ctrDropOut p1 p2) := by
  unfold Chip.ctrDropOut
  exact .ite (Chip.ctrMove_shape hp1) hp1

theorem Chip.nodeCycle_shape {z : Chip} {p1 : Chip} {p2 : ℕ} (hp1 : z.KeepsShape p1) : z.KeepsShape (Chip.nodeCycle p1 p2) := by
  unfold Chip.nodeCycle
  refine .ite hp1 ?_
  extract_lets +onlyGivenNames x1
  clear_value x1
  extract_lets +onlyGivenNames x2
  have hx2 : z.KeepsShape x2 := Chip.modRing_shape hp1
  clear_value x2
  refine .ite hx2 ?_
  extract_lets +onlyGivenNames x3
  have hx3 : z.KeepsShape x3 := Chip.clrBitOf_shape (Chip.modRing_shape hx2)
  clear_value x3
  exact Chip.note_shape (Chip.put_shape (Chip.setBitOf_shape hx3))

theorem Chip.spCycle_shape {z : Chip} {p1 : Chip} {p2 : ℕ} (hp1 : z.KeepsShape p1) : z.KeepsShape (Chip.spCycle p1 p2) := by
  unfold Chip.spCycle
  extract_lets +onlyGivenNames x1
  have hx1 : z.KeepsShape x1 := Chip.bump_shape hp1
  clear_value x1
  refine .ite hx1 ?_
  extract_lets +onlyGivenNames x2
  clear_value x2
  extract_lets +onlyGivenNames x3
  have hx3 : z.KeepsShape x3 := Chip.modRing_shape hx1
  clear_value x3
  refine .ite (.ite hx3 (Chip.put_shape hx3)) ?_
  refine .ite ?_ hx3
  extract_lets +onlyGivenNames x4
  have hx4 : z.KeepsShape x4 := Chip.sets_shape hx3
  clear_value x4
  exact .ite (Chip.limitCl_shape hx4) (Chip.put_shape hx4)

theorem Chip.heartbeats_shape {z : Chip} {p1 : Chip} (hp1 : z.KeepsShape p1) : z.KeepsShape (Chip.heartbeats p1) := by
  unfold Chip.heartbeats
  extract_lets +onlyGivenNames x1
  clear_value x1
  refine .ite hp1 ?_
  extract_lets +onlyGivenNames x2
  clear_value x2
  extract_lets +onlyGivenNames x3
  clear_value x3
  extract_lets +onlyGivenNames x4
  clear_value x4
  extract_lets +onlyGivenNames x5
  have hx5 : z.KeepsShape x5 := Chip.modRing_shape hp1
  clear_value x5
  extract_lets +onlyGivenNames x6
  have hx6 : ∀ w7, z.KeepsShape w7 → ∀ w8, z.KeepsShape (x6 w7 w8) := fun w7 hw7 w8 => Chip.note_shape (Chip.put_shape hw7)
  clear_value x6
  extract_lets +onlyGivenNames x9
  have hx9 : z.KeepsShape x9 := .ite (hx6 _ hx5 _) hx5
  clear_value x9
  extract_lets +onlyGivenNames x10
  have hx10 : z.KeepsShape x10 := .ite (hx6 _ hx9 _) hx9
  clear_value x10
  exact .ite (Chip.becomeActive_shape hx10) hx10

theorem Chip.twinCycle_shape {z : Chip} {p1 : Chip} (hp1 : z.KeepsShape p1) : z.KeepsShape (Chip.twinCycle p1) := by
  unfold Chip.twinCycle
  extract_lets +onlyGivenNames x1
  clear_value x1
  extract_lets +onlyGivenNames x2
  have hx2 : z.KeepsShape x2 := Chip.put_shape hp1
  clear_value x2
  exact .ite hx2 (Chip.setBitOf_shape (Chip.bump_shape hx2))

theorem Chip.sramRead_shape {z : Chip} {p1 : Chip} {p2 : Requester} {p3 : ℕ} {p4 : ℕ} {p5 : ℕ} (hp1 : z.KeepsShape p1) :
    z.KeepsShape (Chip.sramRead p1 p2 p3 p4 p5).1 :=
  .iteP hp1 (.foldlP (β := Bool) hp1 fun _ _ ht => Chip.eccRead_shape ht)

theorem Chip.setpoint_shape {z : Chip} {p1 : Chip} {p2 : ℕ} {p3 : ℕ} {p4 : ℕ} {p5 : ℕ} (hp1 : z.KeepsShape p1) : z.KeepsShape (Chip.setpoint p1 p2 p3 p4 p5) := by
  unfold Chip.setpoint
  extract_lets +onlyGivenNames x1
  clear_value x1
  extract_lets +onlyGivenNames x2
  clear_value x2
  extract_lets +onlyGivenNames x3
  have hx3 : z.KeepsShape x3 := Chip.modRing_shape hp1
  clear_value x3
  exact Chip.sets_shape hx3

theorem Chip.setpoints_shape {z : Chip} {p1 : Chip} {p2 : List Byte} {p3 : ℕ} {p4 : ℕ} (hp1 : z.KeepsShape p1) : z.KeepsShape (Chip.setpoints p1 p2 p3 p4) := by
  unfold Chip.setpoints
  exact .each hp1 (fun a1 t2 ht2 => Chip.setpoint_shape ht2)

theorem Chip.takeSnapshot_shape {z : Chip} {p1 : Chip} {p2 : ℕ} (hp1 : z.KeepsShape p1) : z.KeepsShape (Chip.takeSnapshot p1 p2) := by
  unfold Chip.takeSnapshot
  extract_lets +onlyGivenNames x1
  clear_value x1
  split
  · rename_i y2 y3 q4
    have hy2 : z.KeepsShape y2 := by
      have hh := congrArg Prod.fst q4
      dsimp only at hh
      rw [← hh]
      exact Chip.sramRead_shape hp1
    extract_lets +onlyGivenNames x5
    have hx5 : z.KeepsShape x5 := Chip.modRing_shape hy2
    clear_value x5
    extract_lets +onlyGivenNames x6
    exact .ite (Chip.setpoints_shape hx5) hx5

theorem Chip.twinSend_shape {z : Chip} {p1 : Chip} {p2 : ℕ} (hp1 : z.KeepsShape p1) : z.KeepsShape (Chip.twinSend p1 p2) := by
  unfold Chip.twinSend
  refine .ite hp1 ?_
  extract_lets +onlyGivenNames x1
  have hx1 : z.KeepsShape x1 := Chip.modTwin_shape hp1
  clear_value x1
  extract_lets +onlyGivenNames x2
  clear_value x2
  extract_lets +onlyGivenNames x3
  have hx3 : ∀ w4, z.KeepsShape w4 → ∀ w5, z.KeepsShape (x3 w4 w5) := fun w4 hw4 w5 => Chip.note_shape (Chip.setBitOf_shape hw4)
  clear_value x3
  refine .ite hx1 ?_
  refine .ite (hx3 _ hx1 _) ?_
  split
  · rename_i y6 y7 q8
    have hy6 : z.KeepsShape y6 := by
      have hh := congrArg Prod.fst q8
      dsimp only at hh
      rw [← hh]
      exact Chip.sramRead_shape hx1
    exact Chip.put_shape (Chip.modTwin_shape hy6)
  · rename_i y9 q10
    have hy9 : z.KeepsShape y9 := by
      have hh := congrArg Prod.fst q10
      dsimp only at hh
      rw [← hh]
      exact Chip.sramRead_shape hx1
    exact hx3 _ hy9 _

theorem Chip.ringOut_shape {z : Chip} {p1 : Chip} {p2 : Bool} {p3 : List Byte} (hp1 : z.KeepsShape p1) : z.KeepsShape (Chip.ringOut p1 p2 p3) := by
  unfold Chip.ringOut
  exact .ite hp1 (Chip.modRing_shape hp1)

theorem Chip.sendCyclic_shape {z : Chip} {p1 : Chip} {p2 : Bool} (hp1 : z.KeepsShape p1) : z.KeepsShape (Chip.sendCyclic p1 p2) := by
  unfold Chip.sendCyclic
  refine .ite hp1 ?_
  extract_lets +onlyGivenNames x1
  clear_value x1
  extract_lets +onlyGivenNames x2
  clear_value x2
  extract_lets +onlyGivenNames x3
  exact Chip.modRing_shape (Chip.ringOut_shape hp1)

theorem Chip.cycleStart_shape {z : Chip} {p1 : Chip} {p2 : ℕ} {p3 : ℕ} (hp1 : z.KeepsShape p1) : z.KeepsShape (Chip.cycleStart p1 p2 p3) := by
  unfold Chip.cycleStart
  refine .ite hp1 ?_
  extract_lets +onlyGivenNames x1
  have hx1 : z.KeepsShape x1 := .each hp1 (fun a2 t3 ht3 => Chip.nodeCycle_shape ht3)
  clear_value x1
  extract_lets +onlyGivenNames x4
  clear_value x4
  extract_lets +onlyGivenNames x5
  have hx5 : z.KeepsShape x5 := Chip.put_shape hx1
  clear_value x5
  extract_lets +onlyGivenNames x6
  have hx6 : z.KeepsShape x6 := .ite (Chip.set_shape hx5) hx5
  clear_value x6
  extract_lets +onlyGivenNames x7
  have hx7 : z.KeepsShape x7 := .each hx6 (fun a8 t9 ht9 => Chip.spCycle_shape ht9)
  clear_value x7
  extract_lets +onlyGivenNames x10
  have hx10 : z.KeepsShape x10 := Chip.bankCycle_shape (Chip.copyCycle_shape (Chip.heartbeats_shape (Chip.twinCycle_shape hx7)))
  clear_value x10
  extract_lets +onlyGivenNames x11
  clear_value x11
  extract_lets +onlyGivenNames x12
  clear_value x12
  extract_lets +onlyGivenNames x13
  have hx13 : z.KeepsShape x13 := Chip.modRing_shape hx10
  clear_value x13
  extract_lets +onlyGivenNames x14
  have hx14 : z.KeepsShape x14 := .ite (Chip.note_shape (Chip.sets_shape hx13)) hx10
  clear_value x14
  extract_lets +onlyGivenNames x15
  clear_value x15
  extract_lets +onlyGivenNames x16
  have hx16 : z.KeepsShape x16 := Chip.modRing_shape hx14
  clear_value x16
  extract_lets +onlyGivenNames x17
  have hx17 : z.KeepsShape x17 := Chip.pulse_shape (Chip.count_shape hx16)
  clear_value x17
  extract_lets +onlyGivenNames x18
  have hx18 : z.KeepsShape x18 := .ite (Chip.takeSnapshot_shape hx17) hx17
  clear_value x18
  exact Chip.twinSend_shape (Chip.sendCyclic_shape hx18)

theorem Chip.cycleTick_shape {z : Chip} {p1 : Chip} (hp1 : z.KeepsShape p1) : z.KeepsShape (Chip.cycleTick p1) := by
  unfold Chip.cycleTick
  exact .each hp1 (fun a1 t2 ht2 => .ite ht2 (Chip.modHart_shape ht2))

theorem Chip.epochFound_shape {z : Chip} {p1 : Chip} {p2 : ℕ} (hp1 : z.KeepsShape p1) : z.KeepsShape (Chip.epochFound p1 p2) := by
  unfold Chip.epochFound
  extract_lets +onlyGivenNames x1
  have hx1 : z.KeepsShape x1 := .ite (Chip.set_shape hp1) hp1
  clear_value x1
  refine .ite ?_ hx1
  extract_lets +onlyGivenNames x2
  have hx2 : z.KeepsShape x2 := Chip.roleSet_shape hx1
  clear_value x2
  exact Chip.note_shape (Chip.put_shape hx2)

theorem Chip.statusTable_shape {z : Chip} {p1 : Chip} {p2 : CyclicFrame} (hp1 : z.KeepsShape p1) : z.KeepsShape (Chip.statusTable p1 p2) := by
  unfold Chip.statusTable
  extract_lets +onlyGivenNames x1
  clear_value x1
  refine .ite ?_ hp1
  extract_lets +onlyGivenNames x2
  exact Chip.storeRun_shape hp1

theorem Chip.loopLength_shape {z : Chip} {p1 : Chip} {p2 : ℕ} (hp1 : z.KeepsShape p1) : z.KeepsShape (Chip.loopLength p1 p2) := by
  unfold Chip.loopLength
  extract_lets +onlyGivenNames x1
  have hx1 : z.KeepsShape x1 := Chip.set_shape hp1
  clear_value x1
  extract_lets +onlyGivenNames x2
  clear_value x2
  exact .ite (Chip.modRing_shape hx1) (.ite hx1 (Chip.note_shape (Chip.put_shape (Chip.modRing_shape hx1))))

theorem Chip.ownFrame_shape {z : Chip} {p1 : Chip} {p2 : CyclicFrame} {p3 : ℕ} (hp1 : z.KeepsShape p1) : z.KeepsShape (Chip.ownFrame p1 p2 p3) := by
  unfold Chip.ownFrame
  extract_lets +onlyGivenNames x1
  have hx1 : z.KeepsShape x1 := Chip.loopLength_shape (Chip.modRing_shape hp1)
  clear_value x1
  extract_lets +onlyGivenNames x2
  extract_lets +onlyGivenNames x3
  clear_value x3
  extract_lets +onlyGivenNames x4
  clear_value x4
  exact .ite hx1 (.ite (Chip.firstNote_shape hx1) (Chip.setpoints_shape hx1))

theorem Chip.nodeHeard_shape {z : Chip} {p1 : Chip} {p2 : ℕ} (hp1 : z.KeepsShape p1) : z.KeepsShape (Chip.nodeHeard p1 p2) := by
  unfold Chip.nodeHeard
  extract_lets +onlyGivenNames x1
  have hx1 : z.KeepsShape x1 := Chip.modRing_shape hp1
  clear_value x1
  exact .ite hx1 (Chip.note_shape (Chip.put_shape (Chip.setBitOf_shape hx1)))

theorem Chip.timerFollow_shape {z : Chip} {p1 : Chip} {p2 : ℕ} (hp1 : z.KeepsShape p1) : z.KeepsShape (Chip.timerFollow p1 p2) := by
  unfold Chip.timerFollow
  extract_lets +onlyGivenNames x1
  clear_value x1
  refine .ite (Chip.modRing_shape hp1) ?_
  refine .ite hp1 ?_
  extract_lets +onlyGivenNames x2
  extract_lets +onlyGivenNames x3
  extract_lets +onlyGivenNames x4
  exact Chip.modRing_shape hp1

theorem Chip.managerFrame_shape {z : Chip} {p1 : Chip} {p2 : CyclicFrame} {p3 : ℕ} (hp1 : z.KeepsShape p1) : z.KeepsShape (Chip.managerFrame p1 p2 p3) := by
  unfold Chip.managerFrame
  refine .ite hp1 ?_
  extract_lets +onlyGivenNames x1
  clear_value x1
  extract_lets +onlyGivenNames x2
  have hx2 : z.KeepsShape x2 := Chip.sets_shape (Chip.timerFollow_shape hp1)
  clear_value x2
  extract_lets +onlyGivenNames x3
  have hx3 : z.KeepsShape x3 := .ite (Chip.roleSet_shape hx2) hx2
  clear_value x3
  extract_lets +onlyGivenNames x4
  have hx4 : z.KeepsShape x4 := Chip.modRing_shape hx3
  clear_value x4
  exact .ite (Chip.modRing_shape hx4) hx4

theorem Chip.cyclicRx_shape {z : Chip} {p1 : Chip} {p2 : Bool} {p3 : CyclicFrame} {p4 : Bool} (hp1 : z.KeepsShape p1) : z.KeepsShape (Chip.cyclicRx p1 p2 p3 p4) := by
  unfold Chip.cyclicRx
  refine .ite hp1 ?_
  refine .ite (Chip.bump_shape hp1) ?_
  extract_lets +onlyGivenNames x1
  have hx1 : z.KeepsShape x1 := .ite hp1 (Chip.put_shape hp1)
  clear_value x1
  extract_lets +onlyGivenNames x2
  clear_value x2
  extract_lets +onlyGivenNames x3
  clear_value x3
  extract_lets +onlyGivenNames x4
  extract_lets +onlyGivenNames x5
  have hx5 : z.KeepsShape x5 := Chip.epochFound_shape hx1
  clear_value x5
  extract_lets +onlyGivenNames x6
  have hx6 : z.KeepsShape x6 := .ite (Chip.epochFound_shape hx5) hx5
  clear_value x6
  extract_lets +onlyGivenNames x7
  clear_value x7
  refine .ite ?_ ?_
  · refine .ite ?_ (.ite (Chip.ownFrame_shape (Chip.nodeHeard_shape hx6)) (Chip.ringOut_shape (Chip.statusTable_shape hx6)))
    extract_lets +onlyGivenNames x8
    have hx8 : z.KeepsShape x8 := .ite hx6 (Chip.msgsDown_shape (Chip.note_shape (Chip.sets_shape hx6)))
    clear_value x8
    exact Chip.ringOut_shape (Chip.statusTable_shape hx8)
  · extract_lets +onlyGivenNames x9
    have hx9 : z.KeepsShape x9 := Chip.nodeHeard_shape hx6
    clear_value x9
    extract_lets +onlyGivenNames x10
    clear_value x10
    extract_lets +onlyGivenNames x11
    have hx11 : z.KeepsShape x11 := Chip.modRing_shape hx9
    clear_value x11
    extract_lets +onlyGivenNames x12
    have hx12 : z.KeepsShape x12 := .ite (Chip.managerFrame_shape hx11) hx11
    clear_value x12
    exact Chip.ringOut_shape (Chip.statusTable_shape hx12)

theorem Chip.declareStandstill_shape {z : Chip} {p1 : Chip} {p2 : ℕ} (hp1 : z.KeepsShape p1) : z.KeepsShape (Chip.declareStandstill p1 p2) := by
  unfold Chip.declareStandstill
  extract_lets +onlyGivenNames x1
  have hx1 : z.KeepsShape x1 := Chip.sets_shape hp1
  clear_value x1
  exact Chip.modPos_shape hx1

theorem Chip.deliver_shape {z : Chip} {p1 : Chip} {p2 : ℕ} {p3 : ℕ} {p4 : ℕ} {p5 : ℕ} {p6 : Bool} {p7 : Bool} {p8 : Bool} {p9 : Bool} (hp1 : z.KeepsShape p1) : z.KeepsShape (Chip.deliver p1 p2 p3 p4 p5 p6 p7 p8 p9) := by
  unfold Chip.deliver
  extract_lets +onlyGivenNames x1
  extract_lets +onlyGivenNames x2
  have hx2 : z.KeepsShape x2 := Chip.modMeas_shape hp1
  clear_value x2
  extract_lets +onlyGivenNames x3
  have hx3 : z.KeepsShape x3 := Chip.rbSet_shape hx2
  clear_value x3
  extract_lets +onlyGivenNames x4
  clear_value x4
  refine .ite ?_ hx3
  extract_lets +onlyGivenNames x5
  have hx5 : z.KeepsShape x5 := .ite hx3 (Chip.noteCl_shape hx3)
  clear_value x5
  exact Chip.put_shape hx5

theorem Chip.descStart_shape {z : Chip} {p1 : Chip} {p2 : ℕ} (hp1 : z.KeepsShape p1) : z.KeepsShape (Chip.descStart p1 p2) := by
  unfold Chip.descStart
  split
  · exact hp1
  · rename_i y3 q4
    refine .ite hp1 ?_
    split
    · rename_i y5 y6 q7
      extract_lets +onlyGivenNames x8
      have hx8 : z.KeepsShape x8 := .ite (Chip.useFree_shape hp1) hp1
      clear_value x8
      exact Chip.descEnd_shape (Chip.modDesc_shape hx8)
    · extract_lets +onlyGivenNames x11
      clear_value x11
      extract_lets +onlyGivenNames x12
      have hx12 : z.KeepsShape x12 := Chip.modDesc_shape hp1
      clear_value x12
      extract_lets +onlyGivenNames x13
      have hx13 : z.KeepsShape x13 := .ite (Chip.put_shape (Chip.setBitOf_shape hx12)) hx12
      clear_value x13
      exact Chip.hwShow_shape hx13

theorem Chip.descFail_shape {z : Chip} {p1 : Chip} {p2 : ℕ} {p3 : ℕ} {p4 : ℕ} (hp1 : z.KeepsShape p1) : z.KeepsShape (Chip.descFail p1 p2 p3 p4) := by
  unfold Chip.descFail
  refine .ite hp1 ?_
  extract_lets +onlyGivenNames x1
  clear_value x1
  extract_lets +onlyGivenNames x2
  have hx2 : z.KeepsShape x2 := Chip.modHw_shape (Chip.put_shape hp1)
  clear_value x2
  exact .ite hx2 (Chip.note_shape hx2)

theorem Chip.recordWrite_shape {z : Chip} {p1 : Chip} {p2 : ℕ} {p3 : DescS} {p4 : ℕ} {p5 : ℕ} (hp1 : z.KeepsShape p1) : z.KeepsShape (Chip.recordWrite p1 p2 p3 p4 p5) := by
  unfold Chip.recordWrite
  extract_lets +onlyGivenNames x1
  clear_value x1
  extract_lets +onlyGivenNames x2
  clear_value x2
  extract_lets +onlyGivenNames x3
  clear_value x3
  extract_lets +onlyGivenNames x4
  clear_value x4
  extract_lets +onlyGivenNames x5
  extract_lets +onlyGivenNames x6
  have hx6 : z.KeepsShape x6 := Chip.setBytes_shape hp1
  clear_value x6
  extract_lets +onlyGivenNames x7
  extract_lets +onlyGivenNames x8
  have hx8 : z.KeepsShape x8 := Chip.sets_shape hx6
  clear_value x8
  exact Chip.cqAnnounce_shape (Chip.pulse_shape hx8)

theorem Chip.descComplete_shape {z : Chip} {p1 : Chip} {p2 : ℕ} (hp1 : z.KeepsShape p1) : z.KeepsShape (Chip.descComplete p1 p2) := by
  unfold Chip.descComplete
  extract_lets +onlyGivenNames x1
  have hx1 : z.KeepsShape x1 := by
    unfold x1
    split
    · exact .ite hp1 (Chip.descStart_shape hp1)
    · exact hp1
  clear_value x1
  split
  · exact Chip.hwAbortEnd_shape hx1
  · rename_i y8 q9
    extract_lets +onlyGivenNames x10
    clear_value x10
    split
    · exact hx1
    · rename_i y13 y14 q15
      extract_lets +onlyGivenNames x16
      have hx16 : z.KeepsShape x16 := .ite (.each hx1 (fun a17 t18 ht18 => Chip.flagPut_shape ht18)) hx1
      clear_value x16
      extract_lets +onlyGivenNames x19
      have hx19 : z.KeepsShape x19 := Chip.modHwQ_shape hx16
      clear_value x19
      extract_lets +onlyGivenNames x20
      have hx20 : z.KeepsShape x20 := Chip.descFail_shape (Chip.recordWrite_shape hx19)
      clear_value x20
      exact Chip.hwAbortEnd_shape hx20

theorem Chip.descItem_shape {z : Chip} {p1 : Chip} {p2 : ℕ} {p3 : ℕ} {p4 : DescS → Chip → Chip} (hp1 : z.KeepsShape p1) (hp4 : ∀ u1, ∀ u2, z.KeepsShape u2 → z.KeepsShape (p4 u1 u2)) : z.KeepsShape (Chip.descItem p1 p2 p3 p4) := by
  unfold Chip.descItem
  split
  · rename_i y1 q2
    refine .ite hp1 ?_
    extract_lets +onlyGivenNames x3
    have hx3 : z.KeepsShape x3 := Chip.descStart_shape hp1
    clear_value x3
    split
    · exact .ite (hp4 _ _ hx3) hx3
    · exact hx3
  · exact hp1

theorem Chip.descMore_shape {z : Chip} {p1 : Chip} {p2 : ℕ} {p3 : ℕ} {p4 : ℕ} (hp1 : z.KeepsShape p1) : z.KeepsShape (Chip.descMore p1 p2 p3 p4) := by
  unfold Chip.descMore
  extract_lets +onlyGivenNames x1
  have hx1 : z.KeepsShape x1 := Chip.modDesc_shape hp1
  clear_value x1
  split
  · exact .ite (Chip.descEnd_shape hx1) hx1
  · exact hx1

theorem Chip.sourceLost_shape {z : Chip} {p1 : Chip} {p2 : ℕ} (hp1 : z.KeepsShape p1) : z.KeepsShape (Chip.sourceLost p1 p2) := by
  unfold Chip.sourceLost
  extract_lets +onlyGivenNames x1
  have hx1 : z.KeepsShape x1 := Chip.sets_shape (Chip.posLose_shape hp1)
  clear_value x1
  extract_lets +onlyGivenNames x2
  have hx2 : z.KeepsShape x2 := Chip.modPos_shape hx1
  clear_value x2
  exact .ite (Chip.posNote_shape hx2) (Chip.posNote_shape hx2)

theorem Chip.sourceTickEnd_shape {z : Chip} {p1 : Chip} {p2 : ℕ} (hp1 : z.KeepsShape p1) : z.KeepsShape (Chip.sourceTickEnd p1 p2) := by
  unfold Chip.sourceTickEnd
  exact .ite (Chip.sourceLost_shape hp1) hp1

theorem Chip.evalSpeed_shape {z : Chip} {p1 : Chip} {p2 : ℕ} (hp1 : z.KeepsShape p1) : z.KeepsShape (Chip.evalSpeed p1 p2) := by
  unfold Chip.evalSpeed
  extract_lets +onlyGivenNames x1
  refine .ite ?_ (Chip.modPos_shape hp1)
  refine .ite ?_ ?_
  · extract_lets +onlyGivenNames x2
    clear_value x2
    exact Chip.modPos_shape (Chip.set_shape hp1)
  · extract_lets +onlyGivenNames x3
    clear_value x3
    exact Chip.set_shape hp1

theorem Chip.resUnlock_shape {z : Chip} {p1 : Chip} {p2 : ℕ} {p3 : ℕ} {p4 : ℕ} (hp1 : z.KeepsShape p1) : z.KeepsShape (Chip.resUnlock p1 p2 p3 p4) := by
  unfold Chip.resUnlock
  extract_lets +onlyGivenNames x1
  have hx1 : z.KeepsShape x1 := .ite (Chip.posLose_shape (Chip.put_shape hp1)) hp1
  clear_value x1
  exact Chip.posNote_shape (Chip.put_shape (Chip.put_shape hx1))

theorem Chip.resEval_shape {z : Chip} {p1 : Chip} {p2 : ℕ} {p3 : Option (ℤ × ℤ)} (hp1 : z.KeepsShape p1) : z.KeepsShape (Chip.resEval p1 p2 p3) := by
  unfold Chip.resEval
  split
  · rename_i y1 y2 q3
    extract_lets +onlyGivenNames x4
    clear_value x4
    extract_lets +onlyGivenNames x5
    clear_value x5
    extract_lets +onlyGivenNames x6
    clear_value x6
    extract_lets +onlyGivenNames x7
    extract_lets +onlyGivenNames x8
    have hx8 : z.KeepsShape x8 := Chip.set_shape (Chip.set_shape hp1)
    clear_value x8
    extract_lets +onlyGivenNames x9
    clear_value x9
    extract_lets +onlyGivenNames x10
    clear_value x10
    extract_lets +onlyGivenNames x11
    clear_value x11
    extract_lets +onlyGivenNames x12
    clear_value x12
    extract_lets +onlyGivenNames x13
    have hx13 : z.KeepsShape x13 := Chip.modPos_shape hx8
    clear_value x13
    extract_lets +onlyGivenNames x14
    extract_lets +onlyGivenNames x15
    have hx15 : z.KeepsShape x15 := .ite (Chip.resUnlock_shape hx13) hx13
    clear_value x15
    extract_lets +onlyGivenNames x16
    have hx16 : z.KeepsShape x16 := .ite (Chip.resUnlock_shape hx15) hx15
    clear_value x16
    extract_lets +onlyGivenNames x17
    have hx17 : z.KeepsShape x17 := .ite (Chip.posOk_shape (Chip.put_shape (Chip.put_shape hx16))) hx16
    clear_value x17
    extract_lets +onlyGivenNames x18
    clear_value x18
    extract_lets +onlyGivenNames x19
    clear_value x19
    extract_lets +onlyGivenNames x20
    have hx20 : z.KeepsShape x20 := .ite (Chip.put_shape (Chip.put_shape hx17)) hx17
    clear_value x20
    exact Chip.sets_shape hx20
  · extract_lets +onlyGivenNames x23
    have hx23 : z.KeepsShape x23 := Chip.modPos_shape hp1
    clear_value x23
    exact .ite (Chip.resUnlock_shape hx23) hx23

theorem Chip.latchAngle_shape {z : Chip} {p1 : Chip} {p2 : ℕ} (hp1 : z.KeepsShape p1) : z.KeepsShape (Chip.latchAngle p1 p2) := by
  unfold Chip.latchAngle
  extract_lets +onlyGivenNames x1
  extract_lets +onlyGivenNames x2
  clear_value x2
  extract_lets +onlyGivenNames x3
  clear_value x3
  extract_lets +onlyGivenNames x4
  extract_lets +onlyGivenNames x5
  extract_lets +onlyGivenNames x6
  exact Chip.set_shape (Chip.modPos_shape hp1)

theorem Chip.posEval_shape {z : Chip} {p1 : Chip} {p2 : ℕ} (hp1 : z.KeepsShape p1) : z.KeepsShape (Chip.posEval p1 p2) := by
  unfold Chip.posEval
  extract_lets +onlyGivenNames x1
  clear_value x1
  extract_lets +onlyGivenNames x2
  have hx2 : z.KeepsShape x2 := .ite (Chip.evalSpeed_shape hp1) (.ite (Chip.modPos_shape (Chip.resEval_shape hp1)) hp1)
  clear_value x2
  exact Chip.latchAngle_shape hx2

theorem Chip.posEvent_shape {z : Chip} {p1 : Chip} {p2 : ℕ} {p3 : Chip → Chip} (hp1 : z.KeepsShape p1) (hp3 : ∀ u1, z.KeepsShape u1 → z.KeepsShape (p3 u1)) : z.KeepsShape (Chip.posEvent p1 p2 p3) := by
  unfold Chip.posEvent
  extract_lets +onlyGivenNames x1
  extract_lets +onlyGivenNames x2
  clear_value x2
  extract_lets +onlyGivenNames x3
  have hx3 : z.KeepsShape x3 := .ite (Chip.set_shape (Chip.modPos_shape hp1)) hp1
  clear_value x3
  extract_lets +onlyGivenNames x4
  have hx4 : z.KeepsShape x4 := hp3 _ hx3
  clear_value x4
  extract_lets +onlyGivenNames x5
  have hx5 : z.KeepsShape x5 := .ite (Chip.posEval_shape hx4) hx4
  clear_value x5
  exact .ite (Chip.posSnap_shape hx5) hx5

theorem Chip.idxErr_shape {z : Chip} {p1 : Chip} {p2 : ℕ} {p3 : ℤ} (hp1 : z.KeepsShape p1) : z.KeepsShape (Chip.idxErr p1 p2 p3) := by
  unfold Chip.idxErr
  exact Chip.posNote_shape (Chip.put_shape hp1)

theorem Chip.zeroCnt_shape {z : Chip} {p1 : Chip} {p2 : ℕ} (hp1 : z.KeepsShape p1) : z.KeepsShape (Chip.zeroCnt p1 p2) := by
  unfold Chip.zeroCnt
  extract_lets +onlyGivenNames x1
  have hx1 : z.KeepsShape x1 := Chip.set_shape hp1
  clear_value x1
  exact Chip.set_shape hx1

theorem Chip.posIndex_shape {z : Chip} {p1 : Chip} {p2 : ℕ} {p3 : Bool} (hp1 : z.KeepsShape p1) : z.KeepsShape (Chip.posIndex p1 p2 p3) := by
  unfold Chip.posIndex
  extract_lets +onlyGivenNames x1
  extract_lets +onlyGivenNames x2
  clear_value x2
  refine .ite hp1 ?_
  extract_lets +onlyGivenNames x3
  extract_lets +onlyGivenNames x4
  have hx4 : z.KeepsShape x4 := Chip.sets_shape hp1
  clear_value x4
  extract_lets +onlyGivenNames x5
  have hx5 : z.KeepsShape x5 := Chip.modPos_shape hx4
  clear_value x5
  extract_lets +onlyGivenNames x6
  have hx6 : ∀ w7, z.KeepsShape w7 → z.KeepsShape (x6 w7) := fun w7 hw7 => .ite hw7 (Chip.modPos_shape hw7)
  clear_value x6
  refine .ite hx5 ?_
  refine .ite ?_ (.ite (hx6 _ (Chip.modPos_shape (Chip.put_shape (Chip.zeroCnt_shape hx5)))) (.ite (Chip.posLose_shape (Chip.idxErr_shape hx5)) hx5))
  extract_lets +onlyGivenNames x8
  have hx8 : z.KeepsShape x8 := .ite (Chip.idxErr_shape hx5) hx5
  clear_value x8
  exact hx6 _ (Chip.put_shape (Chip.zeroCnt_shape hx8))

theorem Chip.posTickEnd_shape {z : Chip} {p1 : Chip} {p2 : ℕ} (hp1 : z.KeepsShape p1) : z.KeepsShape (Chip.posTickEnd p1 p2) := by
  unfold Chip.posTickEnd
  extract_lets +onlyGivenNames x1
  have hx1 : z.KeepsShape x1 := by
    unfold x1
    split
    · exact Chip.posEvent_shape (Chip.modPos_shape hp1) (fun v4 hv4 => Chip.posIndex_shape hv4)
    · exact hp1
  clear_value x1
  extract_lets +onlyGivenNames x7
  clear_value x7
  exact Chip.modPos_shape hx1

theorem Chip.sampleRef_shape {z : Chip} {p1 : Chip} {p2 : ℕ} (hp1 : z.KeepsShape p1) : z.KeepsShape (Chip.sampleRef p1 p2) := by
  unfold Chip.sampleRef
  exact .ite hp1 (Chip.modMeas_shape hp1)

theorem Chip.sampleNow_shape {z : Chip} {p1 : Chip} {p2 : ℕ} (hp1 : z.KeepsShape p1) : z.KeepsShape (Chip.sampleNow p1 p2) := by
  unfold Chip.sampleNow
  refine .ite hp1 ?_
  refine Chip.atTick_shape hp1 ?_
  intro v1 hv1
  extract_lets +onlyGivenNames x2
  clear_value x2
  extract_lets +onlyGivenNames x3
  clear_value x3
  extract_lets +onlyGivenNames x4
  have hx4 : z.KeepsShape x4 := Chip.modCl_shape (Chip.sampleRef_shape hv1)
  clear_value x4
  split
  · exact .ite hx4 (Chip.posEval_shape hx4)
  · exact hx4

theorem Chip.reqAgain_shape {z : Chip} {p1 : Chip} {p2 : ℕ} (hp1 : z.KeepsShape p1) : z.KeepsShape (Chip.reqAgain p1 p2) := by
  unfold Chip.reqAgain
  extract_lets +onlyGivenNames x1
  extract_lets +onlyGivenNames x2
  have hx2 : z.KeepsShape x2 := Chip.modCl_shape hp1
  clear_value x2
  refine .ite hx2 ?_
  extract_lets +onlyGivenNames x3
  have hx3 : z.KeepsShape x3 := .ite (Chip.put_shape (Chip.modCl_shape hx2)) hx2
  clear_value x3
  exact Chip.handleReq_shape hx3

theorem Chip.tickEnd_shape {z : Chip} {p1 : Chip} (hp1 : z.KeepsShape p1) : z.KeepsShape (Chip.tickEnd p1) := by
  unfold Chip.tickEnd
  extract_lets +onlyGivenNames x1
  have hx1 : z.KeepsShape x1 := .each hp1 (fun a2 t3 ht3 => Chip.sourceTickEnd_shape (Chip.posTickEnd_shape ht3))
  clear_value x1
  refine .each hx1 ?_
  intro a4 t5 ht5
  extract_lets +onlyGivenNames x6
  have hx6 : z.KeepsShape x6 := .ite (Chip.sampleNow_shape ht5) ht5
  clear_value x6
  exact Chip.catchPulse_shape (Chip.refall_shape (Chip.reqAgain_shape (Chip.cmpTick_shape hx6)))

theorem Chip.startDue_shape {z : Chip} {p1 : Chip} {p2 : ℕ} (hp1 : z.KeepsShape p1) : z.KeepsShape (Chip.startDue p1 p2) := by
  unfold Chip.startDue
  extract_lets +onlyGivenNames x1
  exact .ite (Chip.modSlice_shape (Chip.startSlice_shape hp1)) hp1

theorem Chip.holdWatch_shape {z : Chip} {p1 : Chip} {p2 : ℕ} (hp1 : z.KeepsShape p1) : z.KeepsShape (Chip.holdWatch p1 p2) := by
  unfold Chip.holdWatch
  extract_lets +onlyGivenNames x1
  exact .ite hp1 (Chip.modSlice_shape hp1)

theorem Chip.forceDue_shape {z : Chip} {p1 : Chip} {p2 : ℕ} (hp1 : z.KeepsShape p1) : z.KeepsShape (Chip.forceDue p1 p2) := by
  unfold Chip.forceDue
  extract_lets +onlyGivenNames x1
  clear_value x1
  extract_lets +onlyGivenNames x2
  clear_value x2
  refine .ite hp1 ?_
  extract_lets +onlyGivenNames x3
  clear_value x3
  extract_lets +onlyGivenNames x4
  clear_value x4
  extract_lets +onlyGivenNames x5
  clear_value x5
  extract_lets +onlyGivenNames x6
  have hx6 : z.KeepsShape x6 := Chip.modSlice_shape (Chip.accrue_shape hp1)
  clear_value x6
  extract_lets +onlyGivenNames x7
  clear_value x7
  extract_lets +onlyGivenNames x8
  clear_value x8
  extract_lets +onlyGivenNames x9
  clear_value x9
  extract_lets +onlyGivenNames x10
  clear_value x10
  extract_lets +onlyGivenNames x11
  have hx11 : z.KeepsShape x11 := .ite hx6 (Chip.fallL_shape hx6)
  clear_value x11
  extract_lets +onlyGivenNames x12
  have hx12 : z.KeepsShape x12 := .ite hx11 (Chip.fallH_shape hx11)
  clear_value x12
  extract_lets +onlyGivenNames x13
  have hx13 : z.KeepsShape x13 := Chip.modSlice_shape hx12
  clear_value x13
  extract_lets +onlyGivenNames x14
  clear_value x14
  extract_lets +onlyGivenNames x15
  have hx15 : z.KeepsShape x15 := .ite (Chip.riseH_shape hx13) hx13
  clear_value x15
  extract_lets +onlyGivenNames x16
  have hx16 : z.KeepsShape x16 := .ite (Chip.riseL_shape hx15) hx15
  clear_value x16
  exact Chip.checkSlice_shape (Chip.outputs_shape (Chip.dropGates_shape hx16))

theorem Chip.sliceTick_shape {z : Chip} {p1 : Chip} (hp1 : z.KeepsShape p1) : z.KeepsShape (Chip.sliceTick p1) := by
  unfold Chip.sliceTick
  extract_lets +onlyGivenNames x1
  extract_lets +onlyGivenNames x2
  have hx2 : z.KeepsShape x2 := .each hp1 (fun a3 t4 ht4 => .ite ht4 (Chip.startDue_shape ht4))
  clear_value x2
  extract_lets +onlyGivenNames x5
  have hx5 : z.KeepsShape x5 := .each hx2 (fun a6 t7 ht7 => Chip.startDue_shape ht7)
  clear_value x5
  exact .each hx5 (fun a8 t9 ht9 => Chip.holdWatch_shape (Chip.forceDue_shape (.ite (Chip.bcmTick_shape ht9) ht9)))

theorem Chip.txStart_shape {z : Chip} {p1 : Chip} {p2 : ℕ} (hp1 : z.KeepsShape p1) : z.KeepsShape (Chip.txStart p1 p2) := by
  unfold Chip.txStart
  extract_lets +onlyGivenNames x1
  refine .ite ?_ hp1
  split
  · exact Chip.modCan_shape hp1
  · exact hp1

theorem Chip.scanSamples_shape {z : Chip} {p1 : Chip} (hp1 : z.KeepsShape p1) : z.KeepsShape (Chip.scanSamples p1) := by
  unfold Chip.scanSamples
  exact (hp1.step rfl)

theorem Chip.sdTick_shape {z : Chip} {p1 : Chip} (hp1 : z.KeepsShape p1) : z.KeepsShape (Chip.sdTick p1) := by
  unfold Chip.sdTick
  extract_lets +onlyGivenNames x1
  exact .ite hp1 (Chip.useFree_shape (.each hp1 (fun a2 t3 ht3 => Chip.set_shape ht3)))

theorem Chip.fabTick_shape {z : Chip} {p1 : Chip} (hp1 : z.KeepsShape p1) : z.KeepsShape (Chip.fabTick p1) := by
  unfold Chip.fabTick
  extract_lets +onlyGivenNames x1
  clear_value x1
  refine .ite (hp1.step rfl) ?_
  extract_lets +onlyGivenNames x2
  have hx2 : z.KeepsShape x2 := Chip.useFree_shape hp1
  clear_value x2
  exact (hx2.step rfl)

theorem Chip.ringTick_shape {z : Chip} {p1 : Chip} (hp1 : z.KeepsShape p1) : z.KeepsShape (Chip.ringTick p1) := by
  unfold Chip.ringTick
  refine .ite hp1 ?_
  extract_lets +onlyGivenNames x1
  have hx1 : ∀ w2, z.KeepsShape w2 → ∀ w3, ∀ w4, z.KeepsShape (x1 w2 w3 w4) := fun w2 hw2 w3 w4 => Chip.modRing_shape hw2
  clear_value x1
  split
  · exact .ite (hx1 _ (Chip.modRing_shape hp1) _ _) hp1
  · exact .ite (hx1 _ (Chip.modRing_shape hp1) _ _) hp1
  · split
    · rename_i y19 q20
      extract_lets +onlyGivenNames x21
      refine .ite ?_ hp1
      extract_lets +onlyGivenNames x22
      have hx22 : z.KeepsShape x22 := Chip.modMsg_shape hp1
      clear_value x22
      extract_lets +onlyGivenNames x23
      have hx23 : z.KeepsShape x23 := Chip.bump_shape hx22
      clear_value x23
      exact hx1 _ hx23 _ _
    · exact hp1

theorem Chip.dieTick_shape {z : Chip} {p1 : Chip} (hp1 : z.KeepsShape p1) : z.KeepsShape (Chip.dieTick p1) := by
  unfold Chip.dieTick
  extract_lets +onlyGivenNames x1
  have hx1 : z.KeepsShape x1 := Chip.tickEnd_shape hp1
  clear_value x1
  extract_lets +onlyGivenNames x2
  have hx2 : z.KeepsShape x2 := Chip.busTick_shape (Chip.sliceTick_shape (hx1.step rfl))
  clear_value x2
  extract_lets +onlyGivenNames x3
  have hx3 : z.KeepsShape x3 := .each hx2 (fun a4 t5 ht5 => Chip.txStart_shape ht5)
  clear_value x3
  exact Chip.chmTick_shape (Chip.cycleTick_shape (Chip.scanSamples_shape (Chip.sdTick_shape (Chip.fabTick_shape (Chip.ringTick_shape (Chip.copyTick_shape hx3))))))

theorem Chip.diodePass_shape {z : Chip} {p1 : Chip} {p2 : ℕ} (hp1 : z.KeepsShape p1) : z.KeepsShape (Chip.diodePass p1 p2) := by
  unfold Chip.diodePass
  exact Chip.modCl_shape hp1

theorem Chip.diodeWatch_shape {z : Chip} {p1 : Chip} {p2 : ℕ} {p3 : List ℕ} (hp1 : z.KeepsShape p1) : z.KeepsShape (Chip.diodeWatch p1 p2 p3) := by
  unfold Chip.diodeWatch
  extract_lets +onlyGivenNames x1
  clear_value x1
  exact .ite (Chip.modCl_shape hp1) hp1

theorem Chip.drainFor_shape {z : Chip} {p1 : Chip} {p2 : Requester} {p3 : ℕ} (hp1 : z.KeepsShape p1) : z.KeepsShape (Chip.drainFor p1 p2 p3) := by
  unfold Chip.drainFor
  exact .ite (Chip.drainAll_shape hp1) (Chip.drainN_shape hp1)

theorem Chip.dupInputs_shape {z : Chip} {p1 : Chip} {p2 : ℕ} {p3 : Upset} (hp1 : z.KeepsShape p1) : z.KeepsShape (Chip.dupInputs p1 p2 p3) := by
  unfold Chip.dupInputs
  split
  · exact .ite hp1 (Chip.faultCl_shape hp1)
  · exact hp1

theorem Chip.takeover_shape {z : Chip} {p1 : Chip} {p2 : ℕ} {p3 : ℕ} (hp1 : z.KeepsShape p1) : z.KeepsShape (Chip.takeover p1 p2 p3) := by
  unfold Chip.takeover
  extract_lets +onlyGivenNames x1
  have hx1 : z.KeepsShape x1 := Chip.sets_shape (Chip.modCl_shape hp1)
  clear_value x1
  exact Chip.noteCl_shape (Chip.resetEngine_shape hx1)

theorem Chip.engineFault_shape {z : Chip} {p1 : Chip} {p2 : ℕ} {p3 : ℕ} (hp1 : z.KeepsShape p1) : z.KeepsShape (Chip.engineFault p1 p2 p3) := by
  unfold Chip.engineFault
  extract_lets +onlyGivenNames x1
  have hx1 : z.KeepsShape x1 := Chip.put_shape hp1
  clear_value x1
  exact .ite (Chip.faultCl_shape hx1) (.ite (Chip.takeover_shape (Chip.record_shape hx1)) (Chip.faultCl_shape hx1))

theorem Chip.engineRead_shape {z : Chip} {p1 : Chip} {p2 : ℕ} {p3 : ℕ} {p4 : ℕ} {p5 : ℕ} (hp1 : z.KeepsShape p1) :
    z.KeepsShape (Chip.engineRead p1 p2 p3 p4 p5).1 :=
  .iteP hp1 (.foldlP (β := Option ℕ) (.fst (.ite (Chip.reachGate_shape hp1) hp1)) fun _ _ ht => .iteP ht (Chip.eccRead_shape ht))

theorem Chip.flashReady_shape {z : Chip} {p1 : Chip} {p2 : ℕ} (hp1 : z.KeepsShape p1) : z.KeepsShape (Chip.flashReady p1 p2).1 := by
  unfold Chip.flashReady
  extract_lets +onlyGivenNames x1
  have hx1 : z.KeepsShape x1 := .ite hp1 (Chip.submitWrite_shape hp1)
  clear_value x1
  exact .fst hx1

theorem Chip.flashItem_shape {z : Chip} {p1 : Chip} {p2 : ℕ} {p3 : ℕ} {p4 : ℕ} {p5 : Bool} {p6 : DescS → Chip → List Byte} (hp1 : z.KeepsShape p1) : z.KeepsShape (Chip.flashItem p1 p2 p3 p4 p5 p6) := by
  unfold Chip.flashItem
  refine Chip.descItem_shape hp1 ?_
  intro v1 v2 hv2
  refine .ite (Chip.descEnd_shape hv2) ?_
  split
  · rename_i y3 y4 q5
    have hy3 : z.KeepsShape y3 := by
      have hh := congrArg Prod.fst q5
      dsimp only at hh
      rw [← hh]
      exact Chip.flashReady_shape hv2
    refine .ite (Chip.hwShow_shape hy3) ?_
    extract_lets +onlyGivenNames x6
    clear_value x6
    extract_lets +onlyGivenNames x7
    have hx7 : z.KeepsShape x7 := Chip.eccFresh_shape (Chip.dropWrite_shape hy3)
    clear_value x7
    exact .ite (Chip.hwAbortRun_shape (Chip.descMore_shape (Chip.setBytes_shape hx7))) (Chip.descEnd_shape (Chip.useFree_shape (Chip.setBytes_shape hx7)))

theorem Chip.eraseItem_shape {z : Chip} {p1 : Chip} {p2 : ℕ} {p3 : Bool} (hp1 : z.KeepsShape p1) : z.KeepsShape (Chip.eraseItem p1 p2 p3) := by
  unfold Chip.eraseItem
  exact Chip.flashItem_shape hp1

theorem Chip.evalSection_shape {z : Chip} {p1 p2 p3 : ℕ} {p4 : Bool} {p5 : LoopRun} {p6 : ℕ} (hp5 : z.KeepsShape p5.chip) :
    z.KeepsShape (Chip.evalSection p1 p2 p3 p4 p5 p6).chip := by
  unfold Chip.evalSection
  split
  · exact hp5
  · extract_lets +onlyGivenNames s x b0 b1 b2 a1 a2 ty c s1 s2 y0
    have hp : z.KeepsShape (if ((F32.isFinite y0 || F32.isInf y0) && (ty == 1 || ty == 2)) = true then s.cleClamp p1 p2 p3 y0 else (s, y0, false)).1 :=
      .iteP (Chip.cleClamp_shape hp5) hp5
    generalize (if ((F32.isFinite y0 || F32.isInf y0) && (ty == 1 || ty == 2)) = true then s.cleClamp p1 p2 p3 y0 else (s, y0, false)) = p at hp
    obtain ⟨t, y, cl⟩ := p
    refine .iteL (Chip.modCle_shape hp) ?_
    dsimp only
    exact .ite (Chip.put_shape (Chip.modCle_shape hp)) (Chip.faultCl_shape (Chip.put_shape (Chip.modCle_shape hp)))

theorem Chip.feStep_shape {z : Chip} {p1 : Chip} {p2 : ℕ} {p3 : ℕ} {p4 : ℕ} {p5 : ℕ} {p6 : LoopIn} (hp1 : z.KeepsShape p1) : z.KeepsShape (Chip.feStep p1 p2 p3 p4 p5 p6) := by
  unfold Chip.feStep
  refine .ite hp1 ?_
  extract_lets +onlyGivenNames x1
  extract_lets +onlyGivenNames x2
  clear_value x2
  extract_lets +onlyGivenNames x3
  clear_value x3
  refine .ite (Chip.feZero_shape hp1) ?_
  extract_lets +onlyGivenNames x4
  clear_value x4
  exact Chip.set_shape (Chip.modCle_shape hp1)

theorem Chip.evalList_shape {z : Chip} {p1 p2 : ℕ} {p3 : LoopIn} {p4 : LoopRun} {p5 : ℕ} (hp4 : z.KeepsShape p4.chip) :
    z.KeepsShape (Chip.evalList p1 p2 p3 p4 p5).chip := by
  unfold Chip.evalList
  split
  · exact hp4
  · extract_lets +onlyGivenNames s x d fr secs r
    have hr : z.KeepsShape r.chip := by
      have key : ∀ (l : List ℕ) (q : LoopRun), z.KeepsShape q.chip → z.KeepsShape (l.foldl (Chip.evalSection p1 p2 p5 fr) q).chip := by
        intro l
        induction l with
        | nil => intro q hq; exact hq
        | cons m l ih => intro q hq; exact ih _ (Chip.evalSection_shape hq)
      exact key _ _ (Chip.setBitOf_shape hp4)
    clear_value r
    split
    · exact hr
    · exact Chip.modCle_shape (Chip.set_shape (Chip.feStep_shape (Chip.cleClamp_shape hr)))

theorem Chip.faultOff_shape {z : Chip} {p1 : Chip} {p2 : ℕ} (hp1 : z.KeepsShape p1) : z.KeepsShape (Chip.faultOff p1 p2) := by
  unfold Chip.faultOff
  extract_lets +onlyGivenNames x1
  clear_value x1
  exact Chip.modIsl_shape hp1

theorem Chip.fenceInstr_shape {z : Chip} {p1 : Chip} {p2 : ℕ} (hp1 : z.KeepsShape p1) : z.KeepsShape (Chip.fenceInstr p1 p2) := by
  unfold Chip.fenceInstr
  refine .ite hp1 ?_
  extract_lets +onlyGivenNames x1
  have hx1 : z.KeepsShape x1 := Chip.drain_shape hp1
  clear_value x1
  extract_lets +onlyGivenNames x2
  have hx2 : z.KeepsShape x2 := Chip.retire_shape (Chip.modHart_shape hx1)
  clear_value x2
  exact (hx2.step rfl)

theorem Chip.fetchEntry_shape {z : Chip} {p1 : Chip} (hp1 : z.KeepsShape p1) : z.KeepsShape (Chip.fetchEntry p1) := by
  unfold Chip.fetchEntry
  split
  · exact hp1
  · rename_i y3 q4
    extract_lets +onlyGivenNames x5
    clear_value x5
    extract_lets +onlyGivenNames x6
    clear_value x6
    extract_lets +onlyGivenNames x7
    extract_lets +onlyGivenNames x8
    have hx8 : z.KeepsShape x8 := Chip.modHwQ_shape hp1
    clear_value x8
    extract_lets +onlyGivenNames x9
    have hx9 : z.KeepsShape x9 := Chip.modHw_shape hx8
    clear_value x9
    exact Chip.hwShow_shape (Chip.set_shape hx9)

theorem Chip.fetchFail_shape {z : Chip} {p1 : Chip} {p2 : ℕ} {p3 : ℕ} (hp1 : z.KeepsShape p1) : z.KeepsShape (Chip.fetchFail p1 p2 p3) := by
  unfold Chip.fetchFail
  exact .ite (Chip.halt_shape (Chip.trap_shape hp1)) (.ite hp1 (Chip.trap_shape hp1))

theorem Chip.fetchParcel_shape {z : Chip} {p1 : Chip} {p2 : ℕ} {p3 : ℕ} {p4 : ℕ} (hp1 : z.KeepsShape p1) : z.KeepsShape (Chip.fetchParcel p1 p2 p3 p4).1 := by
  unfold Chip.fetchParcel
  extract_lets +onlyGivenNames x1
  clear_value x1
  extract_lets +onlyGivenNames x2
  clear_value x2
  refine .iteP (.fst hp1) ?_
  split
  · rename_i y3 y4 q5
    have hy3 : z.KeepsShape y3 := by
      have hh := congrArg Prod.fst q5
      dsimp only at hh
      rw [← hh]
      exact Chip.eccRead_shape hp1
    exact .fst (.ite (hy3.step rfl) hy3)

theorem Chip.fetchInstr_shape {z : Chip} {p1 : Chip} {p2 : ℕ} {p3 : ℕ} {p4 : ℕ} (hp1 : z.KeepsShape p1) : z.KeepsShape (Chip.fetchInstr p1 p2 p3 p4) := by
  unfold Chip.fetchInstr
  extract_lets +onlyGivenNames x1
  refine .ite hp1 ?_
  extract_lets +onlyGivenNames x2
  have hx2 : z.KeepsShape x2 := Chip.modHart_shape hp1
  clear_value x2
  refine .ite (Chip.trap_shape hx2) ?_
  split
  · rename_i y3 q4
    have hy3 : z.KeepsShape y3 := by
      have hh := congrArg Prod.fst q4
      dsimp only at hh
      rw [← hh]
      exact Chip.fetchParcel_shape hx2
    exact Chip.fetchFail_shape hy3
  · rename_i y5 q6
    have hy5 : z.KeepsShape y5 := by
      have hh := congrArg Prod.fst q6
      dsimp only at hh
      rw [← hh]
      exact Chip.fetchParcel_shape hx2
    extract_lets +onlyGivenNames x7
    clear_value x7
    extract_lets +onlyGivenNames x8
    have hx8 : ∀ w9, z.KeepsShape w9 → z.KeepsShape (x8 w9) := fun w9 hw9 => Chip.modHart_shape hw9
    clear_value x8
    refine .ite (hx8 _ hy5) ?_
    refine .ite (Chip.trap_shape hy5) ?_
    split
    · rename_i y10 q11
      have hy10 : z.KeepsShape y10 := by
        have hh := congrArg Prod.fst q11
        dsimp only at hh
        rw [← hh]
        exact Chip.fetchParcel_shape hy5
      exact Chip.fetchFail_shape hy10
    · rename_i y12 q13
      have hy12 : z.KeepsShape y12 := by
        have hh := congrArg Prod.fst q13
        dsimp only at hh
        rw [← hh]
        exact Chip.fetchParcel_shape hy5
      exact hx8 _ hy12

theorem Chip.fetchItem_shape {z : Chip} {p1 : Chip} {p2 : ℕ} {p3 : ℕ} {p4 : ℕ} (hp1 : z.KeepsShape p1) : z.KeepsShape (Chip.fetchItem p1 p2 p3 p4) := by
  unfold Chip.fetchItem
  refine Chip.descItem_shape hp1 ?_
  intro v1 v2 hv2
  extract_lets +onlyGivenNames x3
  clear_value x3
  split
  · rename_i y4 y5 y6 q7
    have hy4 : z.KeepsShape y4 := by
      have hh := congrArg Prod.fst q7
      dsimp only at hh
      rw [← hh]
      exact Chip.engineRead_shape hv2
    exact Chip.descEnd_shape hy4
  · rename_i y8 y9 q10
    have hy8 : z.KeepsShape y8 := by
      have hh := congrArg Prod.fst q10
      dsimp only at hh
      rw [← hh]
      exact Chip.engineRead_shape hv2
    exact Chip.descMore_shape (Chip.setBytes_shape hy8)

theorem Chip.fieldWeaken_shape {z : Chip} {p1 : Chip} {p2 : ℕ} {p3 : ℕ} (hp1 : z.KeepsShape p1) : z.KeepsShape (Chip.fieldWeaken p1 p2 p3) := by
  unfold Chip.fieldWeaken
  refine .ite ?_ (Chip.put_shape hp1)
  extract_lets +onlyGivenNames x1
  clear_value x1
  extract_lets +onlyGivenNames x2
  clear_value x2
  exact Chip.put_shape (Chip.set_shape hp1)

theorem Chip.fill_shape {z : Chip} {p1 : Chip} {p2 : ℕ} {p3 : ℕ} {p4 : Byte} (hp1 : z.KeepsShape p1) : z.KeepsShape (Chip.fill p1 p2 p3 p4) := by
  unfold Chip.fill
  exact Chip.setBytes_shape hp1

theorem Chip.showLimit_shape {z : Chip} {p1 : Chip} {p2 : ℕ} {p3 : Bool} (hp1 : z.KeepsShape p1) : z.KeepsShape (Chip.showLimit p1 p2 p3) := by
  unfold Chip.showLimit
  extract_lets +onlyGivenNames x1
  have hx1 : z.KeepsShape x1 := Chip.put_shape hp1
  clear_value x1
  exact .ite (Chip.put_shape hx1) hx1

theorem Chip.references_shape {z : Chip} {p1 : Chip} {p2 : ℕ} {p3 : ℕ} {p4 : ℕ} {p5 : ℕ} (hp1 : z.KeepsShape p1) : z.KeepsShape (Chip.references p1 p2 p3 p4 p5).1 := by
  unfold Chip.references
  refine .iteP ?_ ?_
  · split <;> exact .fst (Chip.showLimit_shape (Chip.put_shape (Chip.set_shape hp1)))
  · refine .iteP ?_ ?_
    · split <;> exact .fst (Chip.showLimit_shape (Chip.put_shape hp1))
    · refine .iteP (.fst (Chip.showLimit_shape (Chip.put_shape (Chip.modCl_shape hp1)))) ?_
      split
      · rename_i y9 y10 q11
        extract_lets +onlyGivenNames x12
        have hx12 : z.KeepsShape x12 := Chip.sets_shape hp1
        clear_value x12
        extract_lets +onlyGivenNames x13
        clear_value x13
        split
        · rename_i y14 y15 y16 q17
          extract_lets +onlyGivenNames x18
          clear_value x18
          extract_lets +onlyGivenNames x19
          have hx19 : z.KeepsShape x19 := Chip.put_shape hx12
          clear_value x19
          extract_lets +onlyGivenNames x20
          have hx20 : z.KeepsShape x20 := .ite (Chip.put_shape hx19) hx19
          clear_value x20
          extract_lets +onlyGivenNames x21
          have hx21 : z.KeepsShape x21 := Chip.fieldWeaken_shape hx20
          clear_value x21
          extract_lets +onlyGivenNames x22
          clear_value x22
          split
          · rename_i y23 y24 q25
            split <;> exact .fst (Chip.showLimit_shape hx21)

theorem Chip.unlimited_shape {z : Chip} {p1 : Chip} {p2 : ℕ} (hp1 : z.KeepsShape p1) : z.KeepsShape (Chip.unlimited p1 p2) := by
  unfold Chip.unlimited
  exact Chip.sets_shape (Chip.modCl_shape hp1)

theorem Chip.skipLists_shape {z : Chip} {p1 : Chip} {p2 : ℕ} {p3 : ℕ} (hp1 : z.KeepsShape p1) : z.KeepsShape (Chip.skipLists p1 p2 p3) := by
  unfold Chip.skipLists
  extract_lets +onlyGivenNames x1
  have hx1 : z.KeepsShape x1 := Chip.sets_shape hp1
  clear_value x1
  exact .ite (Chip.modCle_shape hx1) hx1

theorem Chip.overrun_shape {z : Chip} {p1 : Chip} {p2 : ℕ} (hp1 : z.KeepsShape p1) : z.KeepsShape (Chip.overrun p1 p2) := by
  unfold Chip.overrun
  extract_lets +onlyGivenNames x1
  have hx1 : z.KeepsShape x1 := Chip.put_shape hp1
  clear_value x1
  extract_lets +onlyGivenNames x2
  clear_value x2
  exact .ite (Chip.faultCl_shape (Chip.modCl_shape hx1)) (Chip.modCl_shape hx1)

theorem Chip.writeCompares_shape {z : Chip} {p1 : Chip} {p2 : ℕ} {p3 : ℕ} {p4 : List (ℕ × ℕ)} (hp1 : z.KeepsShape p1) : z.KeepsShape (Chip.writeCompares p1 p2 p3 p4) := by
  unfold Chip.writeCompares
  extract_lets +onlyGivenNames x1
  clear_value x1
  refine .ite (Chip.overrun_shape hp1) ?_
  extract_lets +onlyGivenNames x2
  have hx2 : z.KeepsShape x2 := Chip.modCl_shape hp1
  clear_value x2
  extract_lets +onlyGivenNames x3
  clear_value x3
  extract_lets +onlyGivenNames x4
  have hx4 : z.KeepsShape x4 := Chip.set_shape hx2
  clear_value x4
  extract_lets +onlyGivenNames x5
  have hx5 : z.KeepsShape x5 := Chip.set_shape hx4
  clear_value x5
  exact Chip.modCl_shape hx5

theorem Chip.fluxStage_shape {z : Chip} {p1 : Chip} {p2 : ℕ} {p3 : ℕ} {p4 : ℕ} {p5 : ℕ} (hp1 : z.KeepsShape p1) : z.KeepsShape (Chip.fluxStage p1 p2 p3 p4 p5) := by
  unfold Chip.fluxStage
  extract_lets +onlyGivenNames x1
  clear_value x1
  split
  · rename_i y2 y3 y4 q5
    have hy2 : z.KeepsShape y2 := by
      have hh := congrArg Prod.fst q5
      dsimp only at hh
      rw [← hh]
      exact Chip.references_shape (Chip.unlimited_shape hp1)
    extract_lets +onlyGivenNames x6
    have hx6 : z.KeepsShape x6 := .each (Chip.sets_shape hy2) (fun a7 t8 ht8 => Chip.skipLists_shape ht8)
    clear_value x6
    extract_lets +onlyGivenNames x9
    clear_value x9
    extract_lets +onlyGivenNames x10
    clear_value x10
    extract_lets +onlyGivenNames x11
    clear_value x11
    extract_lets +onlyGivenNames x12
    exact Chip.writeCompares_shape (hx6.step rfl)

theorem Chip.fullEnd_shape {z : Chip} {p1 : Chip} {p2 : ℕ} {p3 : SlotOutcome} {p4 : TestOutcome} (hp1 : z.KeepsShape p1) : z.KeepsShape (Chip.fullEnd p1 p2 p3 p4) := by
  unfold Chip.fullEnd
  extract_lets +onlyGivenNames x1
  clear_value x1
  extract_lets +onlyGivenNames x2
  clear_value x2
  extract_lets +onlyGivenNames x3
  have hx3 : z.KeepsShape x3.1 := by
    unfold x3
    exact Chip.slotTests_shape hp1
  clear_value x3
  extract_lets +onlyGivenNames x4
  have hx4 : z.KeepsShape x4.1 := by
    unfold x4
    exact .iteP (Chip.slotRest_shape hx3) (.fst hx3)
  clear_value x4
  extract_lets +onlyGivenNames x5
  have hx5 : z.KeepsShape x5 := Chip.cmpTest_shape hx4
  clear_value x5
  extract_lets +onlyGivenNames x6
  have hx6 : z.KeepsShape x6 := .each hx5 (fun a7 t8 ht8 => Chip.islandReset_shape ht8)
  clear_value x6
  extract_lets +onlyGivenNames x9
  have hx9 : z.KeepsShape x9 := .ite (Chip.slotHandshake_shape hx6) hx4
  clear_value x9
  extract_lets +onlyGivenNames x10
  have hx10 : z.KeepsShape x10 := Chip.modCfg_shape (Chip.put_shape hx9)
  clear_value x10
  exact Chip.testHolds_shape (Chip.showSt_shape (Chip.put_shape hx10))

theorem Chip.glitchCheck_shape {z : Chip} {p1 : Chip} {p2 : ℕ} {p3 : Bool} {p4 : Bool} (hp1 : z.KeepsShape p1) : z.KeepsShape (Chip.glitchCheck p1 p2 p3 p4) := by
  unfold Chip.glitchCheck
  extract_lets +onlyGivenNames x1
  extract_lets +onlyGivenNames x2
  clear_value x2
  extract_lets +onlyGivenNames x3
  have hx3 : ∀ w4, ∀ w5, z.KeepsShape w5 → z.KeepsShape (x3 w4 w5) := fun w4 w5 hw5 => Chip.modPos_shape hw5
  clear_value x3
  split
  · rename_i y6 y7 q8
    refine .ite ?_ (hx3 _ _ hp1)
    extract_lets +onlyGivenNames x9
    have hx9 : z.KeepsShape x9 := .ite hp1 (Chip.posNote_shape hp1)
    clear_value x9
    exact Chip.bump_shape (Chip.put_shape (hx3 _ _ hx9))
  · exact hx3 _ _ hp1

theorem Chip.speedEdge_shape {z : Chip} {p1 : Chip} {p2 : ℕ} {p3 : Bool} {p4 : ℕ} (hp1 : z.KeepsShape p1) : z.KeepsShape (Chip.speedEdge p1 p2 p3 p4) := by
  unfold Chip.speedEdge
  extract_lets +onlyGivenNames x1
  have hx1 : z.KeepsShape x1 := .ite (Chip.declareStandstill_shape hp1) hp1
  clear_value x1
  extract_lets +onlyGivenNames x2
  extract_lets +onlyGivenNames x3
  clear_value x3
  extract_lets +onlyGivenNames x4
  clear_value x4
  extract_lets +onlyGivenNames x5
  have hx5 : z.KeepsShape x5 := .ite (Chip.put_shape hx1) hx1
  clear_value x5
  extract_lets +onlyGivenNames x6
  have hx6 : z.KeepsShape x6 := Chip.put_shape (Chip.put_shape hx5)
  clear_value x6
  extract_lets +onlyGivenNames x7
  have hx7 : z.KeepsShape x7 := Chip.put_shape (Chip.set_shape hx6)
  clear_value x7
  extract_lets +onlyGivenNames x8
  clear_value x8
  extract_lets +onlyGivenNames x9
  have hx9 : z.KeepsShape x9 := Chip.put_shape (Chip.set_shape hx6)
  clear_value x9
  extract_lets +onlyGivenNames x10
  have hx10 : z.KeepsShape x10 := .ite (Chip.modPos_shape hx7) (.ite (Chip.modPos_shape hx9) hx6)
  clear_value x10
  exact Chip.set_shape (Chip.modPos_shape hx10)

theorem Chip.hallDeliver_shape {z : Chip} {p1 : Chip} {p2 : ℕ} {p3 : ℕ} (hp1 : z.KeepsShape p1) : z.KeepsShape (Chip.hallDeliver p1 p2 p3) := by
  unfold Chip.hallDeliver
  extract_lets +onlyGivenNames x1
  clear_value x1
  extract_lets +onlyGivenNames x2
  have hx2 : z.KeepsShape x2 := Chip.set_shape hp1
  clear_value x2
  refine .ite hx2 ?_
  extract_lets +onlyGivenNames x3
  clear_value x3
  refine .ite ?_ ?_
  · extract_lets +onlyGivenNames x4
    have hx4 : z.KeepsShape x4 := Chip.modPos_shape (Chip.put_shape (Chip.posLose_shape hx2))
    clear_value x4
    exact .ite hx4 (Chip.posNote_shape hx4)
  · refine .ite (Chip.hallCentre_shape (Chip.modPos_shape (Chip.posOk_shape hx2))) ?_
    extract_lets +onlyGivenNames x5
    clear_value x5
    extract_lets +onlyGivenNames x6
    clear_value x6
    refine .ite ?_ ?_
    · extract_lets +onlyGivenNames x7
      have hx7 : z.KeepsShape x7 := Chip.speedEdge_shape (Chip.posOk_shape hx2)
      clear_value x7
      exact Chip.modPos_shape (Chip.set_shape hx7)
    · refine .ite ?_ ?_
      · extract_lets +onlyGivenNames x8
        have hx8 : z.KeepsShape x8 := Chip.speedEdge_shape (Chip.posOk_shape hx2)
        clear_value x8
        exact Chip.modPos_shape (Chip.set_shape hx8)
      · extract_lets +onlyGivenNames x9
        have hx9 : z.KeepsShape x9 := Chip.posNote_shape (Chip.put_shape (Chip.posLose_shape hx2))
        clear_value x9
        exact Chip.hallCentre_shape (Chip.modPos_shape hx9)

theorem Chip.hostFence_shape {z : Chip} {p1 : Chip} (hp1 : z.KeepsShape p1) : z.KeepsShape (Chip.hostFence p1) := by
  unfold Chip.hostFence
  exact Chip.drainAll_shape hp1

theorem Chip.portLate_shape {z : Chip} {p1 : Chip} {p2 : ℕ} (hp1 : z.KeepsShape p1) : z.KeepsShape (Chip.portLate p1 p2) := by
  unfold Chip.portLate
  exact Chip.firstNote_shape (Chip.modHw_shape hp1)

theorem Chip.hostPiece_shape {z : Chip} {p1 : Chip} {p2 : ℕ} {p3 : ℕ} {p4 : Bool} (hp1 : z.KeepsShape p1) : z.KeepsShape (Chip.hostPiece p1 p2 p3 p4).1 := by
  unfold Chip.hostPiece
  split
  · exact .fst hp1
  · rename_i y3 q4
    extract_lets +onlyGivenNames x5
    have hx5 : z.KeepsShape x5 := Chip.drainUnit_shape hp1
    clear_value x5
    exact .fst hx5
  · rename_i y6 q7
    extract_lets +onlyGivenNames x8
    have hx8 : z.KeepsShape x8 := Chip.drainUnit_shape hp1
    clear_value x8
    exact .fst hx8
  · rename_i y9 q10
    refine .iteP (.fst hp1) ?_
    extract_lets +onlyGivenNames x11
    have hx11 : z.KeepsShape x11 := .ite (Chip.drainAll_shape hp1) (Chip.drainUnit_shape hp1)
    clear_value x11
    split
    · rename_i y12 y13 q14
      have hy12 : z.KeepsShape y12 := by
        have hh := congrArg Prod.fst q14
        dsimp only at hh
        rw [← hh]
        exact Chip.regRead_shape hx11
      exact .iteP (.fst (Chip.portLate_shape hy12)) (.fst hy12)

theorem Chip.portProto_shape {z : Chip} {p1 : Chip} {p2 : ℕ} {p3 : Bool} (hp1 : z.KeepsShape p1) : z.KeepsShape (Chip.portProto p1 p2 p3) := by
  unfold Chip.portProto
  extract_lets +onlyGivenNames x1
  have hx1 : z.KeepsShape x1 := Chip.put_shape (Chip.modHw_shape hp1)
  clear_value x1
  exact Chip.note_shape hx1

theorem Chip.portOut_shape {z : Chip} {p1 : Chip} {p2 : List Byte} (hp1 : z.KeepsShape p1) : z.KeepsShape (Chip.portOut p1 p2) := by
  unfold Chip.portOut
  exact Chip.modHw_shape hp1

theorem Chip.hostRead_shape {z : Chip} {p1 : Chip} {p2 : ℕ} {p3 : ℕ} {p4 : List ℕ} (hp1 : z.KeepsShape p1) :
    z.KeepsShape (Chip.hostRead p1 p2 p3 p4) := by
  unfold Chip.hostRead
  refine .ite (Chip.portProto_shape hp1) ?_
  extract_lets +onlyGivenNames ps
  generalize hq : List.foldl _ _ ps = r
  have hr : z.KeepsShape r.1 := by
    rw [← hq]
    exact .foldlP (β := List Byte × Option ℕ) hp1 fun _ _ ht => Chip.hostPiece_shape ht
  obtain ⟨t, l, o⟩ := r
  dsimp only
  refine Chip.portOut_shape ?_
  cases o
  · exact hr
  · exact Chip.hostDenied_shape hr

theorem Chip.hostWrite_shape {z : Chip} {p1 : Chip} {p2 : ℕ} {p3 : List Byte} (hp1 : z.KeepsShape p1) : z.KeepsShape (Chip.hostWrite p1 p2 p3) := by
  unfold Chip.hostWrite
  refine .ite (Chip.portProto_shape hp1) ?_
  refine .ite (Chip.note_shape (Chip.put_shape (Chip.modHw_shape hp1))) ?_
  extract_lets +onlyGivenNames x1
  extract_lets +onlyGivenNames x2
  have hx2 : z.KeepsShape x2 := by
    unfold x2
    split
    · exact Chip.hostDenied_shape hp1
    · exact hp1
  clear_value x2
  exact .each hx2 (fun a7 t8 ht8 => Chip.post_shape ht8)

theorem Chip.idItem_shape {z : Chip} {p1 : Chip} {p2 : ℕ} {p3 : Option ℕ} (hp1 : z.KeepsShape p1) : z.KeepsShape (Chip.idItem p1 p2 p3) := by
  unfold Chip.idItem
  refine Chip.descItem_shape hp1 ?_
  intro v1 v2 hv2
  extract_lets +onlyGivenNames x3
  clear_value x3
  extract_lets +onlyGivenNames x4
  clear_value x4
  extract_lets +onlyGivenNames x5
  clear_value x5
  extract_lets +onlyGivenNames x6
  clear_value x6
  split
  · exact .ite (Chip.descEnd_shape hv2) (Chip.descMore_shape (Chip.setBytes_shape hv2))
  · exact Chip.descMore_shape (Chip.setBytes_shape hv2)

theorem Chip.imageEngine_shape {z : Chip} {p1 : Chip} {p2 : ℕ} (hp1 : z.KeepsShape p1) : z.KeepsShape (Chip.imageEngine p1 p2) := by
  unfold Chip.imageEngine
  extract_lets +onlyGivenNames x1
  clear_value x1
  exact Chip.showLists_shape (Chip.applyUnitcfg_shape (Chip.resetEngine_shape hp1))

theorem Chip.islDetect_shape {z : Chip} {p1 : Chip} {p2 : ℕ} {p3 : ℕ} {p4 : ℕ} {p5 : ℕ} (hp1 : z.KeepsShape p1) : z.KeepsShape (Chip.islDetect p1 p2 p3 p4 p5) := by
  unfold Chip.islDetect
  extract_lets +onlyGivenNames x1
  have hx1 : z.KeepsShape x1 := Chip.islRecord_shape hp1
  clear_value x1
  extract_lets +onlyGivenNames x2
  have hx2 : z.KeepsShape x2 := Chip.modIsl_shape hx1
  clear_value x2
  exact Chip.showFaults_shape hx2

theorem Chip.islFall_shape {z : Chip} {p1 : Chip} {p2 : ℕ} {p3 : ℕ} {p4 : ℕ} (hp1 : z.KeepsShape p1) : z.KeepsShape (Chip.islFall p1 p2 p3 p4) := by
  unfold Chip.islFall
  extract_lets +onlyGivenNames x1
  have hx1 : z.KeepsShape x1 := Chip.put_shape hp1
  clear_value x1
  split
  · exact Chip.fall_shape hx1
  · exact hx1

theorem Chip.islHold_shape {z : Chip} {p1 : Chip} {p2 : ℕ} (hp1 : z.KeepsShape p1) : z.KeepsShape (Chip.islHold p1 p2) := by
  unfold Chip.islHold
  exact .ite (Chip.islTo_shape (Chip.gateAway_shape hp1)) hp1

theorem Chip.keStep_shape {z : Chip} {p1 : Chip} {p2 : ℕ} {p3 : ℕ} {p4 : ℕ} (hp1 : z.KeepsShape p1) : z.KeepsShape (Chip.keStep p1 p2 p3 p4).1 := by
  unfold Chip.keStep
  extract_lets +onlyGivenNames x1
  extract_lets +onlyGivenNames x2
  clear_value x2
  extract_lets +onlyGivenNames x3
  clear_value x3
  extract_lets +onlyGivenNames x4
  have hx4 : z.KeepsShape x4 := Chip.modCl_shape hp1
  clear_value x4
  extract_lets +onlyGivenNames x5
  clear_value x5
  exact .fst hx4

theorem Chip.larderBad_shape {z : Chip} {p1 : Chip} {p2 : ℕ} {p3 : ℕ} (hp1 : z.KeepsShape p1) : z.KeepsShape (Chip.larderBad p1 p2 p3) := by
  unfold Chip.larderBad
  extract_lets +onlyGivenNames x1
  clear_value x1
  exact Chip.faultCl_shape hp1

theorem Chip.larderRead_shape {z : Chip} {p1 : Chip} {p2 : ℕ} {p3 : ℕ} {p4 : Upset} (hp1 : z.KeepsShape p1) : z.KeepsShape (Chip.larderRead p1 p2 p3 p4) := by
  unfold Chip.larderRead
  split
  · exact .ite (Chip.larderBad_shape hp1) hp1
  · exact hp1

theorem Chip.lateEnd_shape {z : Chip} {p1 : Chip} {p2 : ℕ} {p3 : SlotOutcome} {p4 : TestOutcome} (hp1 : z.KeepsShape p1) : z.KeepsShape (Chip.lateEnd p1 p2 p3 p4) := by
  unfold Chip.lateEnd
  extract_lets +onlyGivenNames x1
  have hx1 : z.KeepsShape x1 := Chip.regionSlot_shape hp1
  clear_value x1
  extract_lets +onlyGivenNames x2
  have hx2 : z.KeepsShape x2 := .ite (Chip.slotHandshake_shape (Chip.diffTest_shape (Chip.cmpTest_shape hx1))) hx1
  clear_value x2
  extract_lets +onlyGivenNames x3
  have hx3 : z.KeepsShape x3 := Chip.put_shape hx2
  clear_value x3
  extract_lets +onlyGivenNames x4
  have hx4 : z.KeepsShape x4 := Chip.modCfg_shape hx3
  clear_value x4
  exact Chip.refreshHolds_shape (.each hx4 (fun a5 t6 ht6 => Chip.heldRun_shape ht6))

theorem Chip.ledFail_shape {z : Chip} {p1 : Chip} {p2 : ℕ} (hp1 : z.KeepsShape p1) : z.KeepsShape (Chip.ledFail p1 p2) := by
  unfold Chip.ledFail
  extract_lets +onlyGivenNames x1
  have hx1 : z.KeepsShape x1 := Chip.put_shape (Chip.dropWrite_shape hp1)
  clear_value x1
  exact Chip.note_shape hx1

theorem Chip.linkBack_shape {z : Chip} {p1 : Chip} {p2 : Bool} (hp1 : z.KeepsShape p1) : z.KeepsShape (Chip.linkBack p1 p2) := by
  unfold Chip.linkBack
  refine .ite hp1 ?_
  extract_lets +onlyGivenNames x1
  have hx1 : z.KeepsShape x1 := Chip.put_shape hp1
  clear_value x1
  exact Chip.modRing_shape hx1

theorem Chip.linkLost_shape {z : Chip} {p1 : Chip} {p2 : Bool} {p3 : ℕ} (hp1 : z.KeepsShape p1) : z.KeepsShape (Chip.linkLost p1 p2 p3) := by
  unfold Chip.linkLost
  extract_lets +onlyGivenNames x1
  clear_value x1
  extract_lets +onlyGivenNames x2
  have hx2 : z.KeepsShape x2 := .ite (Chip.set_shape hp1) hp1
  clear_value x2
  refine .ite hx2 ?_
  refine .ite (Chip.modRing_shape hx2) ?_
  extract_lets +onlyGivenNames x3
  have hx3 : z.KeepsShape x3 := Chip.put_shape hx2
  clear_value x3
  extract_lets +onlyGivenNames x4
  have hx4 : z.KeepsShape x4 := Chip.modRing_shape hx3
  clear_value x4
  exact Chip.note_shape (Chip.sets_shape hx4)

theorem Chip.loadSwitch_shape {z : Chip} {p1 : Chip} {p2 : ℕ} {p3 : ℕ} (hp1 : z.KeepsShape p1) : z.KeepsShape (Chip.loadSwitch p1 p2 p3) := by
  unfold Chip.loadSwitch
  extract_lets +onlyGivenNames x1
  clear_value x1
  extract_lets +onlyGivenNames x2
  extract_lets +onlyGivenNames x3
  exact Chip.modSw_shape hp1

theorem Chip.logItem_shape {z : Chip} {p1 : Chip} {p2 : ℕ} (hp1 : z.KeepsShape p1) : z.KeepsShape (Chip.logItem p1 p2) := by
  unfold Chip.logItem
  refine Chip.descItem_shape hp1 ?_
  intro v1 v2 hv2
  extract_lets +onlyGivenNames x3
  extract_lets +onlyGivenNames x4
  have hx4 : z.KeepsShape x4 := Chip.setBytes_shape hv2
  clear_value x4
  clear_value x3
  extract_lets +onlyGivenNames x11 x5
  have hx5 : z.KeepsShape x5 := by
    unfold x5
    refine .ite ?_ hx4
    split
    · exact Chip.modDesc_shape hx4
    · exact Chip.modDesc_shape (Chip.useFree_shape hx4)
  clear_value x5
  extract_lets +onlyGivenNames x12
  have hx12 : z.KeepsShape x12 := Chip.modDesc_shape hx5
  clear_value x12
  refine .ite ?_ (Chip.descMore_shape hx12)
  extract_lets +onlyGivenNames x13
  have hx13 : z.KeepsShape x13 := Chip.modDesc_shape hx12
  clear_value x13
  split
  · exact Chip.descEnd_shape hx13
  · exact hx13

theorem Chip.reportAngle_shape {z : Chip} {p1 : Chip} {p2 : ℕ} (hp1 : z.KeepsShape p1) : z.KeepsShape (Chip.reportAngle p1 p2) := by
  unfold Chip.reportAngle
  extract_lets +onlyGivenNames x1
  clear_value x1
  extract_lets +onlyGivenNames x2
  clear_value x2
  extract_lets +onlyGivenNames x3
  have hx3 : z.KeepsShape x3 := Chip.set_shape hp1
  clear_value x3
  extract_lets +onlyGivenNames x4
  clear_value x4
  extract_lets +onlyGivenNames x5
  have hx5 : z.KeepsShape x5 := .ite (Chip.noteCl_shape hx3) hx3
  clear_value x5
  extract_lets +onlyGivenNames x6
  have hx6 : z.KeepsShape x6 := Chip.modCl_shape hx5
  clear_value x6
  exact .ite (.ite (Chip.faultCl_shape hx6) (Chip.faultCl_shape hx6)) hx6

theorem Chip.obsLock_shape {z : Chip} {p1 : Chip} {p2 : ℕ} {p3 : ℕ} {p4 : ℕ} (hp1 : z.KeepsShape p1) : z.KeepsShape (Chip.obsLock p1 p2 p3 p4) := by
  unfold Chip.obsLock
  extract_lets +onlyGivenNames x1
  clear_value x1
  extract_lets +onlyGivenNames x2
  have hx2 : z.KeepsShape x2 := Chip.modCl_shape hp1
  clear_value x2
  extract_lets +onlyGivenNames x3
  have hx3 : z.KeepsShape x3 := Chip.set_shape hx2
  clear_value x3
  exact .ite (.ite (Chip.sets_shape hx3) hx3) (.ite (Chip.sets_shape hx3) hx3)

theorem Chip.obsKe_shape {z : Chip} {p1 : Chip} {p2 : ℕ} {p3 : ℕ} {p4 : ℕ} (hp1 : z.KeepsShape p1) : z.KeepsShape (Chip.obsKe p1 p2 p3 p4) := by
  unfold Chip.obsKe
  extract_lets +onlyGivenNames x1
  extract_lets +onlyGivenNames x2
  clear_value x2
  extract_lets +onlyGivenNames x3
  clear_value x3
  refine .ite ?_ (Chip.put_shape hp1)
  split
  · rename_i y4 y5 q6
    have hy4 : z.KeepsShape y4 := by
      have hh := congrArg Prod.fst q6
      dsimp only at hh
      rw [← hh]
      exact Chip.keStep_shape hp1
    extract_lets +onlyGivenNames x7
    clear_value x7
    extract_lets +onlyGivenNames x8
    clear_value x8
    extract_lets +onlyGivenNames x9
    have hx9 : z.KeepsShape x9 := Chip.sets_shape hy4
    clear_value x9
    refine .ite ?_ hx9
    extract_lets +onlyGivenNames x10
    have hx10 : z.KeepsShape x10 := Chip.modCl_shape hx9
    clear_value x10
    exact Chip.set_shape hx10

theorem Chip.obsStep_shape {z : Chip} {p1 : Chip} {p2 : ℕ} {p3 : ℕ} {p4 : ℕ} (hp1 : z.KeepsShape p1) : z.KeepsShape (Chip.obsStep p1 p2 p3 p4) := by
  unfold Chip.obsStep
  extract_lets +onlyGivenNames x1
  clear_value x1
  extract_lets +onlyGivenNames x2
  have hx2 : z.KeepsShape x2 := Chip.set_shape hp1
  clear_value x2
  extract_lets +onlyGivenNames x3
  have hx3 : z.KeepsShape x3 := Chip.modCl_shape hx2
  clear_value x3
  extract_lets +onlyGivenNames x4
  have hx4 : z.KeepsShape x4 := Chip.set_shape hx3
  clear_value x4
  extract_lets +onlyGivenNames x5
  clear_value x5
  extract_lets +onlyGivenNames x6
  have hx6 : z.KeepsShape x6 := Chip.useFree_shape hx2
  clear_value x6
  extract_lets +onlyGivenNames x7
  clear_value x7
  extract_lets +onlyGivenNames x8
  have hx8 : z.KeepsShape x8 := Chip.useFree_shape hx6
  clear_value x8
  extract_lets +onlyGivenNames x9
  clear_value x9
  extract_lets +onlyGivenNames x10
  have hx10 : z.KeepsShape x10 := Chip.useFree_shape hx8
  clear_value x10
  extract_lets +onlyGivenNames x11
  have hx11 : z.KeepsShape x11 := Chip.modCl_shape hx10
  clear_value x11
  extract_lets +onlyGivenNames x12
  have hx12 : z.KeepsShape x12 := .ite (.ite (Chip.sets_shape hx4) hx4) (Chip.obsLock_shape (Chip.set_shape hx11))
  clear_value x12
  extract_lets +onlyGivenNames x13
  extract_lets +onlyGivenNames x14
  have hx14 : z.KeepsShape x14 := .ite (Chip.set_shape (Chip.set_shape hx12)) (Chip.set_shape hx12)
  clear_value x14
  extract_lets +onlyGivenNames x15
  have hx15 : z.KeepsShape x15 := Chip.put_shape hx14
  clear_value x15
  extract_lets +onlyGivenNames x16
  have hx16 : z.KeepsShape x16 := Chip.useFree_shape (Chip.set_shape hx15)
  clear_value x16
  extract_lets +onlyGivenNames x17
  clear_value x17
  exact Chip.obsKe_shape (Chip.set_shape hx16)

theorem Chip.observe_shape {z : Chip} {p1 : Chip} {p2 : ℕ} {p3 : ℕ} (hp1 : z.KeepsShape p1) : z.KeepsShape (Chip.observe p1 p2 p3) := by
  unfold Chip.observe
  split
  · exact hp1
  · exact .each (Chip.obsStep_shape hp1) (fun a6 t7 ht7 => Chip.modCl_shape (Chip.sets_shape ht7))

theorem Chip.wdisWatch_shape {z : Chip} {p1 : Chip} {p2 : ℕ} {p3 : ℕ} {p4 : ℕ} (hp1 : z.KeepsShape p1) : z.KeepsShape (Chip.wdisWatch p1 p2 p3 p4) := by
  unfold Chip.wdisWatch
  refine .ite hp1 ?_
  extract_lets +onlyGivenNames x1
  extract_lets +onlyGivenNames x2
  clear_value x2
  refine .ite hp1 ?_
  extract_lets +onlyGivenNames x3
  have hx3 : z.KeepsShape x3 := Chip.noteCl_shape (Chip.endWdis_shape hp1)
  clear_value x3
  exact .ite (Chip.disResistor_shape hx3) hx3

theorem Chip.runLists_shape {z : Chip} {p1 : Chip} {p2 p3 : ℕ} {p4 : LoopIn} (hp1 : z.KeepsShape p1) :
    z.KeepsShape (Chip.runLists p1 p2 p3 p4).1 := by
  unfold Chip.runLists
  extract_lets +onlyGivenNames s r
  have hr : z.KeepsShape r.chip := by
    have key : ∀ (l : List ℕ) (q : LoopRun), z.KeepsShape q.chip → z.KeepsShape (l.foldl (Chip.evalList p2 p3 p4) q).chip := by
      intro l
      induction l with
      | nil => intro q hq; exact hq
      | cons m l ih => intro q hq; exact ih _ (Chip.evalList_shape hq)
    exact key _ _ (Chip.set_shape hp1)
  clear_value r
  exact Chip.modCle_shape (Chip.sets_shape hr)

theorem Chip.takeErrors_shape {z : Chip} {p1 : Chip} {p2 : ℕ} (hp1 : z.KeepsShape p1) : z.KeepsShape (Chip.takeErrors p1 p2) := by
  unfold Chip.takeErrors
  extract_lets +onlyGivenNames x1
  exact .ite (Chip.modCl_shape hp1) (Chip.modCl_shape hp1)

theorem Chip.showOutput_shape {z : Chip} {p1 : Chip} {p2 : ℕ} {p3 : ℕ} {p4 : ℕ} {p5 : ℕ} {p6 : ℕ} (hp1 : z.KeepsShape p1) : z.KeepsShape (Chip.showOutput p1 p2 p3 p4 p5 p6) := by
  unfold Chip.showOutput
  extract_lets +onlyGivenNames x1
  clear_value x1
  extract_lets +onlyGivenNames x2
  clear_value x2
  extract_lets +onlyGivenNames x3
  extract_lets +onlyGivenNames x4
  clear_value x4
  extract_lets +onlyGivenNames x5
  have hx5 : z.KeepsShape x5 := Chip.sets_shape hp1
  clear_value x5
  extract_lets +onlyGivenNames x6
  have hx6 : z.KeepsShape x6 := Chip.modCl_shape hx5
  clear_value x6
  exact .ite (Chip.put_shape hx6) hx6

theorem Chip.runStages_shape {z : Chip} {p1 : Chip} {p2 : ℕ} {p3 : Upset} {p4 : ℕ} {p5 : ℕ} {p6 : ℕ} {p7 : ℕ} {p8 : ℕ} {p9 : ℕ} (hp1 : z.KeepsShape p1) : z.KeepsShape (Chip.runStages p1 p2 p3 p4 p5 p6 p7 p8 p9) := by
  unfold Chip.runStages
  extract_lets +onlyGivenNames x1
  clear_value x1
  extract_lets +onlyGivenNames x2
  have hx2 : z.KeepsShape x2 := Chip.rampSpeed_shape hp1
  clear_value x2
  split
  · rename_i y3 y4 y5 q6
    have hy3 : z.KeepsShape y3 := by
      have hh := congrArg Prod.fst q6
      dsimp only at hh
      rw [← hh]
      exact Chip.references_shape hx2
    extract_lets +onlyGivenNames x7
    have hx7 : z.KeepsShape x7 := Chip.sets_shape hy3
    clear_value x7
    extract_lets +onlyGivenNames x8
    extract_lets +onlyGivenNames x9
    have hx9 : z.KeepsShape x9 := Chip.modCl_shape hx7
    clear_value x9
    extract_lets +onlyGivenNames x10
    extract_lets +onlyGivenNames x11
    split
    · rename_i y12 y13 y14 q15
      have hy12 : z.KeepsShape y12 := by
        have hh := congrArg Prod.fst q15
        dsimp only at hh
        rw [← hh]
        refine .foldlP (.fst hx9) ?_
        intro t17 a16 ht17
        exact Chip.runLists_shape ht17
      refine .ite (Chip.put_shape hy12) ?_
      extract_lets +onlyGivenNames x22
      have hx22 : z.KeepsShape x22 := by
        unfold x22
        split
        · exact Chip.engineFault_shape hy12
        · exact Chip.noteCl_shape (Chip.put_shape hy12)
        · exact hy12
      clear_value x22
      extract_lets +onlyGivenNames x29
      have hx29 : z.KeepsShape x29 := Chip.larderRead_shape hx22
      clear_value x29
      refine .ite hx29 ?_
      extract_lets +onlyGivenNames x30
      clear_value x30
      extract_lets +onlyGivenNames x31
      extract_lets +onlyGivenNames x32
      clear_value x32
      extract_lets +onlyGivenNames x33
      have hx33 : z.KeepsShape x33 := Chip.takeErrors_shape hx29
      clear_value x33
      split
      · rename_i y34 y35 y36 y37 q38
        extract_lets +onlyGivenNames x39
        have hx39 : z.KeepsShape x39 := Chip.showOutput_shape hx33
        clear_value x39
        extract_lets +onlyGivenNames x40
        extract_lets +onlyGivenNames x41
        have hx41 : z.KeepsShape x41 := (hx39.step rfl)
        clear_value x41
        split
        · exact Chip.faultCl_shape hx41
        · exact Chip.writeCompares_shape hx41

theorem Chip.loopRun_shape {z : Chip} {p1 : Chip} {p2 : ℕ} {p3 : Upset} {p4 : ℕ} (hp1 : z.KeepsShape p1) : z.KeepsShape (Chip.loopRun p1 p2 p3 p4) := by
  unfold Chip.loopRun
  refine .ite hp1 (.ite (Chip.bcmDecel_shape (Chip.modCl_shape hp1)) ?_)
  extract_lets +onlyGivenNames x0 x1
  have hx1 : z.KeepsShape x1 := Chip.dupInputs_shape (Chip.modCl_shape hp1)
  clear_value x1
  extract_lets +onlyGivenNames x2
  clear_value x2
  extract_lets +onlyGivenNames x3
  clear_value x3
  extract_lets +onlyGivenNames x4
  have hx4 : z.KeepsShape x4 := Chip.modCl_shape hx1
  clear_value x4
  extract_lets +onlyGivenNames x5
  have hx5 : z.KeepsShape x5 := Chip.reportAngle_shape (Chip.larderRead_shape (Chip.observe_shape hx4))
  clear_value x5
  extract_lets +onlyGivenNames x6
  clear_value x6
  split
  · rename_i y7 y8 y9 q10
    have hy7 : z.KeepsShape y7 := by
      have hh := congrArg Prod.fst q10
      dsimp only at hh
      rw [← hh]
      split
      · rename_i y11 y12 y13 q14 q15
        exact .fst (Chip.sets_shape hx5)
      · exact .fst hx5
    extract_lets +onlyGivenNames x23
    have hx23 : z.KeepsShape x23 := .ite (Chip.catchPass_shape hy7) hy7
    clear_value x23
    extract_lets +onlyGivenNames x24
    have hx24 : z.KeepsShape x24 := by
      unfold x24
      refine .ite (.each (Chip.modCl_shape (Chip.unlimited_shape hx23)) (fun a25 t26 ht26 => Chip.skipLists_shape ht26)) ?_
      split
      · rename_i y27 y28 y29 y30 q31 q32 q33
        extract_lets +onlyGivenNames x34
        have hx34 : z.KeepsShape x34 := Chip.wdisWatch_shape hx23
        clear_value x34
        refine .ite hx34 ?_
        extract_lets +onlyGivenNames x35
        have hx35 : z.KeepsShape x35 := .ite (Chip.fluxStage_shape hx34) (Chip.runStages_shape hx34)
        clear_value x35
        exact .ite (Chip.decelStep_shape hx35) hx35
      · exact Chip.overrun_shape (.each (Chip.unlimited_shape hx23) (fun a42 t43 ht43 => Chip.skipLists_shape ht43))
    clear_value x24
    exact Chip.chmCurrents_shape hx24

theorem Chip.markUsed_shape {z : Chip} {p1 : Chip} {p2 : ℕ} {p3 : ℕ} (hp1 : z.KeepsShape p1) : z.KeepsShape (Chip.markUsed p1 p2 p3) := by
  unfold Chip.markUsed
  exact .ite (Chip.showLearn_shape (Chip.modAge_shape hp1)) hp1

theorem Chip.mirrorAck_shape {z : Chip} {p1 : Chip} {p2 : ℕ} (hp1 : z.KeepsShape p1) : z.KeepsShape (Chip.mirrorAck p1 p2) := by
  unfold Chip.mirrorAck
  extract_lets +onlyGivenNames x1
  refine .ite hp1 ?_
  split
  · exact hp1
  · rename_i y4 y5 q6
    extract_lets +onlyGivenNames x7
    have hx7 : z.KeepsShape x7 := Chip.clamp_shape (Chip.modIsl_shape (Chip.ownTake_shape hp1))
    clear_value x7
    exact Chip.put_shape hx7

theorem Chip.modFuses_shape {z : Chip} {p1 : Chip} {p2 : Fuses → Fuses} (hp1 : z.KeepsShape p1) : z.KeepsShape (Chip.modFuses p1 p2) := by
  unfold Chip.modFuses
  exact Chip.modCfg_shape hp1

theorem Chip.monitor_shape {z : Chip} {p1 : Chip} {p2 : ℕ} (hp1 : z.KeepsShape p1) : z.KeepsShape (Chip.monitor p1 p2) := by
  unfold Chip.monitor
  exact Chip.sets_shape hp1

theorem Chip.newTick_shape {z : Chip} {p1 : Chip} (hp1 : z.KeepsShape p1) : z.KeepsShape (Chip.newTick p1) := by
  unfold Chip.newTick
  exact (hp1.step rfl)

theorem Chip.passDone_shape {z : Chip} {p1 : Chip} {p2 : ℕ} {p3 : ℕ} (hp1 : z.KeepsShape p1) : z.KeepsShape (Chip.passDone p1 p2 p3) := by
  unfold Chip.passDone
  refine .ite hp1 ?_
  extract_lets +onlyGivenNames x1
  have hx1 : z.KeepsShape x1 := Chip.rbOr_shape hp1
  clear_value x1
  refine .ite hx1 ?_
  extract_lets +onlyGivenNames x2
  have hx2 : z.KeepsShape x2 := .ite (Chip.checkVdc_shape (.each hx1 (fun a3 t4 ht4 => Chip.checkPath_shape ht4))) hx1
  clear_value x2
  exact .ite (Chip.checkSum_shape (Chip.checkSum_shape hx2)) hx2

theorem Chip.passOpen_shape {z : Chip} {p1 : Chip} {p2 : ℕ} {p3 : Bool} (hp1 : z.KeepsShape p1) : z.KeepsShape (Chip.passOpen p1 p2 p3) := by
  unfold Chip.passOpen
  extract_lets +onlyGivenNames x1
  extract_lets +onlyGivenNames x2
  clear_value x2
  extract_lets +onlyGivenNames x3
  extract_lets +onlyGivenNames x4
  have hx4 : z.KeepsShape x4 := Chip.modMeas_shape hp1
  clear_value x4
  exact Chip.rbSet_shape (Chip.rbSet_shape hx4)

theorem Chip.passStart_shape {z : Chip} {p1 : Chip} {p2 : ℕ} {p3 : ℕ} {p4 : Bool} {p5 : Bool} (hp1 : z.KeepsShape p1) : z.KeepsShape (Chip.passStart p1 p2 p3 p4 p5) := by
  unfold Chip.passStart
  extract_lets +onlyGivenNames x1
  have hx1 : z.KeepsShape x1 := Chip.sampleNow_shape hp1
  clear_value x1
  extract_lets +onlyGivenNames x2
  have hx2 : z.KeepsShape x2 := .ite (Chip.overrun_shape (.each (Chip.unlimited_shape hx1) (fun a3 t4 ht4 => Chip.skipLists_shape ht4))) hx1
  clear_value x2
  extract_lets +onlyGivenNames x5
  have hx5 : z.KeepsShape x5 := .ite (Chip.sets_shape (Chip.modCl_shape hx2)) hx2
  clear_value x5
  extract_lets +onlyGivenNames x6
  have hx6 : z.KeepsShape x6 := Chip.diodePass_shape hx5
  clear_value x6
  extract_lets +onlyGivenNames x7
  clear_value x7
  exact Chip.modCl_shape (Chip.passOpen_shape hx6)

theorem Chip.pcPass_shape {z : Chip} {p1 : Chip} {p2 : ℕ} {p3 : ℕ} (hp1 : z.KeepsShape p1) : z.KeepsShape (Chip.pcPass p1 p2 p3) := by
  unfold Chip.pcPass
  refine .ite hp1 ?_
  extract_lets +onlyGivenNames x1
  clear_value x1
  extract_lets +onlyGivenNames x2
  clear_value x2
  extract_lets +onlyGivenNames x3
  clear_value x3
  extract_lets +onlyGivenNames x4
  clear_value x4
  split
  · rename_i y5 y6 q7 q8
    extract_lets +onlyGivenNames x9
    split
    · rename_i y10 y11 q12
      extract_lets +onlyGivenNames x13
      clear_value x13
      extract_lets +onlyGivenNames x14
      clear_value x14
      exact Chip.modCl_shape hp1
  · exact hp1

theorem Chip.rawLevels_shape {z : Chip} {p1 : Chip} {p2 : ℕ} {p3 : ℕ} {p4 : Bool} {p5 : Bool} (hp1 : z.KeepsShape p1) : z.KeepsShape (Chip.rawLevels p1 p2 p3 p4 p5) := by
  unfold Chip.rawLevels
  exact Chip.effEdge_shape (Chip.modSlice_shape hp1)

theorem Chip.rawAt_shape {z : Chip} {p1 : Chip} {p2 : ℕ} {p3 : Bool} (hp1 : z.KeepsShape p1) : z.KeepsShape (Chip.rawAt p1 p2 p3) := by
  unfold Chip.rawAt
  extract_lets +onlyGivenNames x1
  clear_value x1
  split <;> exact Chip.rawLevels_shape (Chip.modSlice_shape hp1)

theorem Chip.peakTick_shape {z : Chip} {p1 : Chip} {p2 : ℕ} (hp1 : z.KeepsShape p1) : z.KeepsShape (Chip.peakTick p1 p2) := by
  unfold Chip.peakTick
  extract_lets +onlyGivenNames x1
  have hx1 : z.KeepsShape x1 := Chip.sets_shape hp1
  clear_value x1
  extract_lets +onlyGivenNames x2
  have hx2 : z.KeepsShape x2 := .ite (Chip.reloadPoint_shape hx1) hx1
  clear_value x2
  exact Chip.checkSlice_shape (Chip.rawAt_shape hx2)

theorem Chip.periodBoundary_shape {z : Chip} {p1 : Chip} {p2 : ℕ} (hp1 : z.KeepsShape p1) : z.KeepsShape (Chip.periodBoundary p1 p2) := by
  unfold Chip.periodBoundary
  extract_lets +onlyGivenNames x1
  have hx1 : z.KeepsShape x1 := Chip.bankBoundary_shape hp1
  clear_value x1
  refine .ite ?_ hx1
  extract_lets +onlyGivenNames x2
  clear_value x2
  exact .ite (Chip.set_shape hx1) (Chip.set_shape hx1)

theorem Chip.plateau_shape {z : Chip} {p1 : Chip} {p2 : ℕ} {p3 : Option ℕ} {p4 : ℕ} (hp1 : z.KeepsShape p1) : z.KeepsShape (Chip.plateau p1 p2 p3 p4) := by
  unfold Chip.plateau
  split
  · exact Chip.ageMeasure_shape hp1
  · exact hp1

theorem Chip.posCount_shape {z : Chip} {p1 : Chip} {p2 : ℕ} {p3 : Bool} {p4 : Bool} (hp1 : z.KeepsShape p1) : z.KeepsShape (Chip.posCount p1 p2 p3 p4) := by
  unfold Chip.posCount
  extract_lets +onlyGivenNames x1
  clear_value x1
  extract_lets +onlyGivenNames x2
  clear_value x2
  extract_lets +onlyGivenNames x3
  clear_value x3
  extract_lets +onlyGivenNames x4
  have hx4 : z.KeepsShape x4 := .ite (.ite (Chip.set_shape (Chip.set_shape hp1)) (Chip.set_shape hp1)) (.ite (Chip.set_shape (Chip.set_shape hp1)) (Chip.set_shape hp1))
  clear_value x4
  extract_lets +onlyGivenNames x5
  extract_lets +onlyGivenNames x6
  have hx6 : z.KeepsShape x6 := Chip.modPos_shape hx4
  clear_value x6
  extract_lets +onlyGivenNames x7
  have hx7 : z.KeepsShape x7 := .ite (.ite (Chip.set_shape hx6) hx6) hx4
  clear_value x7
  extract_lets +onlyGivenNames x8
  have hx8 : z.KeepsShape x8 := .ite hx7 (.ite (Chip.posOk_shape hx7) (Chip.modPos_shape hx7))
  clear_value x8
  extract_lets +onlyGivenNames x9
  have hx9 : z.KeepsShape x9 := Chip.modPos_shape hx8
  clear_value x9
  extract_lets +onlyGivenNames x10
  extract_lets +onlyGivenNames x11
  have hx11 : z.KeepsShape x11 := .ite (Chip.posNote_shape (Chip.modPos_shape hx9)) hx9
  clear_value x11
  extract_lets +onlyGivenNames x12
  have hx12 : z.KeepsShape x12 := Chip.glitchCheck_shape hx11
  clear_value x12
  extract_lets +onlyGivenNames x13
  have hx13 : z.KeepsShape x13 := Chip.speedEdge_shape hx12
  clear_value x13
  exact Chip.set_shape hx13

theorem Chip.posIllegal_shape {z : Chip} {p1 : Chip} {p2 : ℕ} (hp1 : z.KeepsShape p1) : z.KeepsShape (Chip.posIllegal p1 p2) := by
  unfold Chip.posIllegal
  extract_lets +onlyGivenNames x1
  have hx1 : z.KeepsShape x1 := Chip.bump_shape (Chip.put_shape hp1)
  clear_value x1
  extract_lets +onlyGivenNames x2
  extract_lets +onlyGivenNames x3
  have hx3 : z.KeepsShape x3 := .ite (Chip.put_shape (Chip.modPos_shape hx1)) hx1
  clear_value x3
  refine .ite hx3 ?_
  extract_lets +onlyGivenNames x4
  have hx4 : z.KeepsShape x4 := .ite (Chip.modPos_shape hx3) hx3
  clear_value x4
  extract_lets +onlyGivenNames x5
  have hx5 : z.KeepsShape x5 := Chip.bump_shape hx4
  clear_value x5
  refine .ite ?_ hx5
  extract_lets +onlyGivenNames x6
  have hx6 : z.KeepsShape x6 := Chip.modPos_shape (Chip.posLose_shape hx5)
  clear_value x6
  exact Chip.posNote_shape hx6

theorem Chip.profIsland_shape {z : Chip} {p1 : Chip} {p2 : ℕ} {p3 : ℕ} {p4 : Bool} (hp1 : z.KeepsShape p1) : z.KeepsShape (Chip.profIsland p1 p2 p3 p4) := by
  unfold Chip.profIsland
  refine .ite hp1 ?_
  extract_lets +onlyGivenNames x1
  clear_value x1
  extract_lets +onlyGivenNames x2
  have hx2 : z.KeepsShape x2 := Chip.modSw_shape hp1
  clear_value x2
  refine .ite hx2 ?_
  extract_lets +onlyGivenNames x3
  clear_value x3
  extract_lets +onlyGivenNames x4
  have hx4 : z.KeepsShape x4 := Chip.put_shape hx2
  clear_value x4
  refine .ite ?_ ?_
  · extract_lets +onlyGivenNames x5
    clear_value x5
    extract_lets +onlyGivenNames x6
    clear_value x6
    extract_lets +onlyGivenNames x7
    clear_value x7
    extract_lets +onlyGivenNames x8
    clear_value x8
    extract_lets +onlyGivenNames x9
    clear_value x9
    extract_lets +onlyGivenNames x10
    have hx10 : z.KeepsShape x10 := Chip.markUsed_shape (Chip.markUsed_shape hx4)
    clear_value x10
    exact Chip.modIsl_shape hx10
  · extract_lets +onlyGivenNames x11
    clear_value x11
    extract_lets +onlyGivenNames x12
    have hx12 : z.KeepsShape x12 := Chip.modIsl_shape hx4
    clear_value x12
    exact .ite hx12 (Chip.islRecord_shape (Chip.put_shape (Chip.modCl_shape hx12)))

theorem Chip.profLookup_shape {z : Chip} {p1 : Chip} {p2 : ℕ} {p3 : ℕ} {p4 : Option ℕ} (hp1 : z.KeepsShape p1) : z.KeepsShape (Chip.profLookup p1 p2 p3 p4) := by
  unfold Chip.profLookup
  refine .ite ?_ hp1
  extract_lets +onlyGivenNames x1
  have hx1 : z.KeepsShape x1 := by
    unfold x1
    split
    · exact .ite (Chip.faultCl_shape hp1) hp1
    · exact hp1
  clear_value x1
  exact Chip.profIsland_shape (Chip.profIsland_shape hx1)

theorem Chip.programItem_shape {z : Chip} {p1 : Chip} {p2 : ℕ} {p3 : Bool} (hp1 : z.KeepsShape p1) : z.KeepsShape (Chip.programItem p1 p2 p3) := by
  unfold Chip.programItem
  exact Chip.flashItem_shape hp1

theorem Chip.quadStep_shape {z : Chip} {p1 : Chip} {p2 : ℕ} {p3 : Bool} {p4 : Bool} (hp1 : z.KeepsShape p1) : z.KeepsShape (Chip.quadStep p1 p2 p3 p4) := by
  unfold Chip.quadStep
  extract_lets +onlyGivenNames x1
  extract_lets +onlyGivenNames x2
  have hx2 : z.KeepsShape x2 := Chip.modPos_shape hp1
  clear_value x2
  exact .ite hx2 (.ite (Chip.posIllegal_shape hx2) (.ite (Chip.posCount_shape hx2) (.ite (Chip.posCount_shape hx2) hx2)))

theorem Chip.quadSample_shape {z : Chip} {p1 : Chip} {p2 : ℕ} {p3 : Bool} {p4 : Bool} (hp1 : z.KeepsShape p1) : z.KeepsShape (Chip.quadSample p1 p2 p3 p4) := by
  unfold Chip.quadSample
  refine Chip.posEvent_shape hp1 ?_
  intro v1 hv1
  extract_lets +onlyGivenNames x2
  have hx2 : z.KeepsShape x2 := Chip.modPos_shape (Chip.quadStep_shape hv1)
  clear_value x2
  split
  · exact Chip.posIndex_shape (Chip.modPos_shape hx2)
  · exact hx2

theorem Chip.rawEdge_shape {z : Chip} {p1 : Chip} {p2 : ℕ} {p3 : Bool} {p4 : Bool} (hp1 : z.KeepsShape p1) : z.KeepsShape (Chip.rawEdge p1 p2 p3 p4) := by
  unfold Chip.rawEdge
  extract_lets +onlyGivenNames x1
  extract_lets +onlyGivenNames x2
  clear_value x2
  extract_lets +onlyGivenNames x3
  clear_value x3
  extract_lets +onlyGivenNames x4
  clear_value x4
  refine .ite hp1 ?_
  refine .ite (Chip.checkSlice_shape (Chip.rawLevels_shape (Chip.modSlice_shape hp1))) ?_
  extract_lets +onlyGivenNames x5
  clear_value x5
  extract_lets +onlyGivenNames x6
  clear_value x6
  exact Chip.checkSlice_shape (Chip.rawLevels_shape hp1)

theorem Chip.rebuildEntry_shape {z : Chip} {p1 : ℕ} {p2 : Chip} {p3 : ℕ} (hp2 : z.KeepsShape p2) : z.KeepsShape (Chip.rebuildEntry p1 p2 p3) := by
  unfold Chip.rebuildEntry
  extract_lets +onlyGivenNames x1
  extract_lets +onlyGivenNames x2
  clear_value x2
  extract_lets +onlyGivenNames x3
  clear_value x3
  split
  · exact hp2
  · rename_i y6 y7 q8
    extract_lets +onlyGivenNames x9
    refine .ite hp2 ?_
    extract_lets +onlyGivenNames x10
    clear_value x10
    extract_lets +onlyGivenNames x11
    clear_value x11
    extract_lets +onlyGivenNames x12
    extract_lets +onlyGivenNames x13
    clear_value x13
    split
    · rename_i y14 y15 q16
      extract_lets +onlyGivenNames x17
      have hx17 : z.KeepsShape x17 := Chip.store_shape hp2
      clear_value x17
      extract_lets +onlyGivenNames x18
      have hx18 : z.KeepsShape x18 := Chip.modAge_shape hx17
      clear_value x18
      exact .ite (Chip.noteCl_shape (Chip.put_shape (Chip.modAge_shape hx18))) hx18

theorem Chip.recBad_shape {z : Chip} {p1 : Chip} {p2 : ℕ} {p3 : ℕ} (hp1 : z.KeepsShape p1) : z.KeepsShape (Chip.recBad p1 p2 p3) := by
  unfold Chip.recBad
  extract_lets +onlyGivenNames x1
  have hx1 : z.KeepsShape x1 := Chip.clrBitOf_shape (Chip.put_shape hp1)
  clear_value x1
  extract_lets +onlyGivenNames x2
  have hx2 : z.KeepsShape x2 := Chip.put_shape hx1
  clear_value x2
  split
  · exact Chip.showLim_shape (Chip.put_shape (Chip.limitCl_shape hx2))
  · exact Chip.record_shape hx2

theorem Chip.refLost_shape {z : Chip} {p1 : Chip} (hp1 : z.KeepsShape p1) : z.KeepsShape (Chip.refLost p1) := by
  unfold Chip.refLost
  extract_lets +onlyGivenNames x1
  have hx1 : z.KeepsShape x1 := Chip.put_shape hp1
  clear_value x1
  exact (hx1.step rfl)

theorem Chip.refShown_shape {z : Chip} {p1 : Chip} {p2 : ℕ} {p3 : ℕ} (hp1 : z.KeepsShape p1) : z.KeepsShape (Chip.refShown p1 p2 p3) := by
  unfold Chip.refShown
  exact (hp1.step rfl)

theorem Chip.refreshEnd_shape {z : Chip} {p1 : Chip} {p2 : ℕ} {p3 : ℕ} (hp1 : z.KeepsShape p1) : z.KeepsShape (Chip.refreshEnd p1 p2 p3) := by
  unfold Chip.refreshEnd
  extract_lets +onlyGivenNames x1
  have hx1 : z.KeepsShape x1 := Chip.modSlice_shape (Chip.accrue_shape hp1)
  clear_value x1
  exact .ite (Chip.riseH_shape (Chip.modSlice_shape hx1)) hx1

theorem Chip.refreshStart_shape {z : Chip} {p1 : Chip} {p2 : ℕ} (hp1 : z.KeepsShape p1) : z.KeepsShape (Chip.refreshStart p1 p2) := by
  unfold Chip.refreshStart
  exact Chip.outputs_shape (Chip.dropGates_shape (Chip.modSlice_shape (Chip.accrue_shape hp1)))

theorem Chip.resPass_shape {z : Chip} {p1 : Chip} {p2 : ℕ} {p3 : Bool} (hp1 : z.KeepsShape p1) : z.KeepsShape (Chip.resPass p1 p2 p3) := by
  unfold Chip.resPass
  extract_lets +onlyGivenNames x1
  extract_lets +onlyGivenNames x2
  clear_value x2
  refine .ite hp1 ?_
  extract_lets +onlyGivenNames x3
  have hx3 : z.KeepsShape x3 := Chip.modCl_shape hp1
  clear_value x3
  split
  · exact hx3
  · rename_i y6 q7
    extract_lets +onlyGivenNames x8
    extract_lets +onlyGivenNames x9
    clear_value x9
    exact Chip.atTick_shape hx3 (fun v10 hv10 => Chip.latchAngle_shape (Chip.modPos_shape (Chip.resEval_shape hv10)))

theorem Chip.resetFields_shape {z : Chip} {p1 : Chip} {p2 : List Field} (hp1 : z.KeepsShape p1) : z.KeepsShape (Chip.resetFields p1 p2) := by
  unfold Chip.resetFields
  exact .foldl hp1 (fun t2 a1 ht2 => Chip.set_shape ht2)

theorem Chip.restart_shape {z : Chip} {p1 : Chip} {p2 : ℕ} {p3 : SlotOutcome} (hp1 : z.KeepsShape p1) : z.KeepsShape (Chip.restart p1 p2 p3).1 := by
  unfold Chip.restart
  exact Chip.slotRest_shape hp1

theorem Chip.vdcWritten_shape {z : Chip} {p1 : Chip} {p2 : ℕ} {p3 : List (ℕ × ℕ)} (hp1 : z.KeepsShape p1) : z.KeepsShape (Chip.vdcWritten p1 p2 p3) := by
  unfold Chip.vdcWritten
  extract_lets +onlyGivenNames x1
  have hx1 : z.KeepsShape x1 := Chip.showVdc_shape (Chip.modCl_shape hp1)
  clear_value x1
  extract_lets +onlyGivenNames x2
  have hx2 : z.KeepsShape x2 := Chip.disCheck_shape (Chip.chopRule_shape hx1)
  clear_value x2
  exact Chip.evalRule_shape hx2

theorem Chip.resultsIn_shape {z : Chip} {p1 : Chip} {p2 : ℕ} {p3 : ℕ} {p4 : Upset} {p5 : ℕ} {p6 : Bool} (hp1 : z.KeepsShape p1) : z.KeepsShape (Chip.resultsIn p1 p2 p3 p4 p5 p6) := by
  unfold Chip.resultsIn
  extract_lets +onlyGivenNames x1
  clear_value x1
  extract_lets +onlyGivenNames x2
  have hx2 : z.KeepsShape x2 := .ite (Chip.vdcWritten_shape (Chip.diodeWatch_shape hp1)) hp1
  clear_value x2
  extract_lets +onlyGivenNames x3
  clear_value x3
  extract_lets +onlyGivenNames x4
  have hx4 : z.KeepsShape x4 := Chip.passDone_shape hx2
  clear_value x4
  extract_lets +onlyGivenNames x5
  have hx5 : z.KeepsShape x5 := .ite (Chip.resPass_shape hx4) hx4
  clear_value x5
  extract_lets +onlyGivenNames x6
  have hx6 : z.KeepsShape x6 := .ite (Chip.loopRun_shape hx5) hx5
  clear_value x6
  exact .ite (Chip.pcPass_shape hx6) hx6

theorem Chip.ringResume_shape {z : Chip} {p1 : Chip} (hp1 : z.KeepsShape p1) : z.KeepsShape (Chip.ringResume p1) := by
  unfold Chip.ringResume
  exact .ite hp1 (.ite (Chip.set_shape (Chip.ringStart_shape hp1)) (Chip.modRing_shape hp1))

theorem Chip.risesH_shape {z : Chip} {p1 : Chip} {p2 : ℕ} {p3 : ℕ} (hp1 : z.KeepsShape p1) : z.KeepsShape (Chip.risesH p1 p2 p3) := by
  unfold Chip.risesH
  exact Chip.modSlice_shape (Chip.accrue_shape hp1)

theorem Chip.risesL_shape {z : Chip} {p1 : Chip} {p2 : ℕ} {p3 : ℕ} (hp1 : z.KeepsShape p1) : z.KeepsShape (Chip.risesL p1 p2 p3) := by
  unfold Chip.risesL
  exact Chip.modSlice_shape (Chip.accrue_shape hp1)

theorem Chip.rowWrite_shape {z : Chip} {p1 : Chip} {p2 : ℕ} {p3 : ℕ} {p4 : Chip → Chip} (hp1 : z.KeepsShape p1) (hp4 : ∀ u1, z.KeepsShape u1 → z.KeepsShape (p4 u1)) : z.KeepsShape (Chip.rowWrite p1 p2 p3 p4) := by
  unfold Chip.rowWrite
  refine .ite (Chip.discard_shape hp1) ?_
  extract_lets +onlyGivenNames x1
  have hx1 : z.KeepsShape x1 := Chip.reachGate_shape hp1
  clear_value x1
  split
  · exact .ite (hx1.step rfl) (.ite (Chip.refuse_shape hx1) (hp4 _ hx1))
  · exact .ite (Chip.refuse_shape hx1) (hp4 _ hx1)

theorem Chip.sarDeliver_shape {z : Chip} {p1 : Chip} {p2 : ℕ} {p3 : ℕ} {p4 : ℕ} {p5 : ℕ} (hp1 : z.KeepsShape p1) : z.KeepsShape (Chip.sarDeliver p1 p2 p3 p4 p5) := by
  unfold Chip.sarDeliver
  extract_lets +onlyGivenNames x1
  clear_value x1
  extract_lets +onlyGivenNames x2
  clear_value x2
  extract_lets +onlyGivenNames x3
  clear_value x3
  extract_lets +onlyGivenNames x4
  clear_value x4
  extract_lets +onlyGivenNames x5
  clear_value x5
  extract_lets +onlyGivenNames x6
  have hx6 : z.KeepsShape x6 := Chip.sets_shape hp1
  clear_value x6
  exact Chip.deliver_shape hx6

theorem Chip.sdDead_shape {z : Chip} {p1 : Chip} {p2 : ℕ} {p3 : ℕ} {p4 : ℕ} (hp1 : z.KeepsShape p1) : z.KeepsShape (Chip.sdDead p1 p2 p3 p4) := by
  unfold Chip.sdDead
  extract_lets +onlyGivenNames x1
  clear_value x1
  exact Chip.deliver_shape (Chip.sets_shape hp1)

theorem Chip.selfEval_shape {z : Chip} {p1 : Chip} {p2 : ℕ} (hp1 : z.KeepsShape p1) : z.KeepsShape (Chip.selfEval p1 p2) := by
  unfold Chip.selfEval
  exact Chip.posEval_shape (Chip.modPos_shape hp1)

theorem Chip.sensorAngle_shape {z : Chip} {p1 : Chip} {p2 : ℕ} {p3 : ℕ} {p4 : ℤ} (hp1 : z.KeepsShape p1) : z.KeepsShape (Chip.sensorAngle p1 p2 p3 p4) := by
  unfold Chip.sensorAngle
  extract_lets +onlyGivenNames x1
  extract_lets +onlyGivenNames x2
  clear_value x2
  extract_lets +onlyGivenNames x3
  extract_lets +onlyGivenNames x4
  clear_value x4
  extract_lets +onlyGivenNames x5
  have hx5 : z.KeepsShape x5 := Chip.modPos_shape hp1
  clear_value x5
  extract_lets +onlyGivenNames x6
  have hx6 : z.KeepsShape x6 := Chip.sets_shape hx5
  clear_value x6
  refine .ite hx6 ?_
  extract_lets +onlyGivenNames x7
  clear_value x7
  extract_lets +onlyGivenNames x8
  clear_value x8
  extract_lets +onlyGivenNames x9
  have hx9 : z.KeepsShape x9 := .ite (Chip.put_shape (Chip.put_shape hx6)) hx6
  clear_value x9
  exact Chip.posOk_shape (Chip.put_shape (Chip.set_shape hx9))

theorem Chip.sentDrop_shape {z : Chip} {p1 : Chip} {p2 : ℕ} (hp1 : z.KeepsShape p1) : z.KeepsShape (Chip.sentDrop p1 p2) := by
  unfold Chip.sentDrop
  exact Chip.put_shape (Chip.modPos_shape hp1)

theorem Chip.serialDone_shape {z : Chip} {p1 : Chip} {p2 : ℕ} {p3 : Bool} {p4 : ℕ} {p5 : ℕ} {p6 : ℕ} (hp1 : z.KeepsShape p1) : z.KeepsShape (Chip.serialDone p1 p2 p3 p4 p5 p6) := by
  unfold Chip.serialDone
  extract_lets +onlyGivenNames x1
  have hx1 : z.KeepsShape x1 := Chip.modPos_shape hp1
  clear_value x1
  exact .ite (Chip.sets_shape hx1) (Chip.bump_shape hx1)

theorem Chip.serialBits_shape {z : Chip} {p1 : Chip} {p2 : ℕ} {p3 : Bool} {p4 : Bool} (hp1 : z.KeepsShape p1) : z.KeepsShape (Chip.serialBits p1 p2 p3 p4) := by
  unfold Chip.serialBits
  extract_lets +onlyGivenNames x1
  clear_value x1
  refine .ite ?_ ?_
  · extract_lets +onlyGivenNames x2
    extract_lets +onlyGivenNames x3
    have hx3 : z.KeepsShape x3 := Chip.modPos_shape hp1
    clear_value x3
    refine .ite ?_ hx3
    extract_lets +onlyGivenNames x4
    clear_value x4
    extract_lets +onlyGivenNames x5
    clear_value x5
    exact Chip.serialDone_shape hx3
  · refine .ite ?_ hp1
    extract_lets +onlyGivenNames x6
    extract_lets +onlyGivenNames x7
    have hx7 : z.KeepsShape x7 := Chip.modPos_shape hp1
    clear_value x7
    extract_lets +onlyGivenNames x8
    refine .ite ?_ hx7
    extract_lets +onlyGivenNames x9
    extract_lets +onlyGivenNames x10
    clear_value x10
    extract_lets +onlyGivenNames x11
    clear_value x11
    extract_lets +onlyGivenNames x12
    clear_value x12
    extract_lets +onlyGivenNames x13
    clear_value x13
    extract_lets +onlyGivenNames x14
    clear_value x14
    exact .ite (Chip.serialDone_shape hx7) (Chip.serialDone_shape hx7)

theorem Chip.sentRx_shape {z : Chip} {p1 : Chip} {p2 : ℕ} {p3 : ℕ} {p4 : List ℕ} (hp1 : z.KeepsShape p1) : z.KeepsShape (Chip.sentRx p1 p2 p3 p4) := by
  unfold Chip.sentRx
  extract_lets +onlyGivenNames x1
  clear_value x1
  extract_lets +onlyGivenNames x2
  clear_value x2
  extract_lets +onlyGivenNames x3
  clear_value x3
  refine .ite hp1 ?_
  refine .ite hp1 ?_
  extract_lets +onlyGivenNames x4
  extract_lets +onlyGivenNames x5
  clear_value x5
  extract_lets +onlyGivenNames x6
  extract_lets +onlyGivenNames x7
  have hx7 : z.KeepsShape x7 := Chip.modPos_shape hp1
  clear_value x7
  refine .ite (Chip.bump_shape (Chip.sentDrop_shape hx7)) ?_
  extract_lets +onlyGivenNames x8
  extract_lets +onlyGivenNames x9
  refine .ite ?_ ?_
  · extract_lets +onlyGivenNames x10
    have hx10 : z.KeepsShape x10 := Chip.bump_shape (Chip.sentDrop_shape hx7)
    clear_value x10
    exact .ite hx10 (Chip.posNote_shape (Chip.modPos_shape hx10))
  · extract_lets +onlyGivenNames x11
    clear_value x11
    extract_lets +onlyGivenNames x12
    clear_value x12
    extract_lets +onlyGivenNames x13
    clear_value x13
    extract_lets +onlyGivenNames x14
    clear_value x14
    extract_lets +onlyGivenNames x15
    clear_value x15
    extract_lets +onlyGivenNames x16
    extract_lets +onlyGivenNames x17
    have hx17 : z.KeepsShape x17 := Chip.sets_shape hx7
    clear_value x17
    exact Chip.sensorAngle_shape (Chip.serialBits_shape hx17)

theorem Chip.settleGroup_shape {z : Chip} {p1 : Chip} {p2 : ℕ} {p3 : ℕ} (hp1 : z.KeepsShape p1) : z.KeepsShape (Chip.settleGroup p1 p2 p3) := by
  unfold Chip.settleGroup
  extract_lets +onlyGivenNames x1
  extract_lets +onlyGivenNames x2
  clear_value x2
  extract_lets +onlyGivenNames x3
  clear_value x3
  exact .ite (Chip.modGroup_shape hp1) hp1

theorem Chip.settleLine_shape {z : Chip} {p1 : Chip} {p2 : ℕ} (hp1 : z.KeepsShape p1) : z.KeepsShape (Chip.settleLine p1 p2) := by
  unfold Chip.settleLine
  extract_lets +onlyGivenNames x1
  clear_value x1
  extract_lets +onlyGivenNames x2
  clear_value x2
  extract_lets +onlyGivenNames x3
  extract_lets +onlyGivenNames x4
  have hx4 : z.KeepsShape x4 := (hp1.step rfl)
  clear_value x4
  exact .ite (Chip.modHart_shape hx4) hx4

theorem Chip.showEstimates_shape {z : Chip} {p1 : Chip} (hp1 : z.KeepsShape p1) : z.KeepsShape (Chip.showEstimates p1) := by
  unfold Chip.showEstimates
  exact .each (.each hp1 (fun a1 t2 ht2 => Chip.showTj_shape ht2)) (fun a3 t4 ht4 => Chip.tjOver_shape ht4)

theorem Chip.showLife_shape {z : Chip} {p1 : Chip} {p2 : ℕ} (hp1 : z.KeepsShape p1) : z.KeepsShape (Chip.showLife p1 p2) := by
  unfold Chip.showLife
  extract_lets +onlyGivenNames x1
  clear_value x1
  extract_lets +onlyGivenNames x2
  have hx2 : z.KeepsShape x2 := Chip.set_shape hp1
  clear_value x2
  exact .ite (Chip.note_shape (Chip.put_shape (Chip.modLedger_shape hx2))) hx2

theorem Chip.slsJudge_shape {z : Chip} {p1 : Chip} {p2 : ℕ} (hp1 : z.KeepsShape p1) : z.KeepsShape (Chip.slsJudge p1 p2) := by
  unfold Chip.slsJudge
  extract_lets +onlyGivenNames x1
  clear_value x1
  extract_lets +onlyGivenNames x2
  clear_value x2
  exact Chip.modCl_shape hp1

theorem Chip.sourceTimeout_shape {z : Chip} {p1 : Chip} {p2 : ℕ} {p3 : ℕ} (hp1 : z.KeepsShape p1) : z.KeepsShape (Chip.sourceTimeout p1 p2 p3) := by
  unfold Chip.sourceTimeout
  exact .ite hp1 (.ite (Chip.modPos_shape hp1) (Chip.sourceLost_shape hp1))

theorem Chip.splitNow_shape {z : Chip} {p1 : Chip} {p2 : ℕ} (hp1 : z.KeepsShape p1) : z.KeepsShape (Chip.splitNow p1 p2) := by
  unfold Chip.splitNow
  extract_lets +onlyGivenNames x1
  clear_value x1
  extract_lets +onlyGivenNames x2
  have hx2 : z.KeepsShape x2 := .ite (Chip.copyEngine_shape (Chip.imageEngine_shape hp1)) hp1
  clear_value x2
  extract_lets +onlyGivenNames x3
  have hx3 : z.KeepsShape x3 := Chip.modCl_shape hx2
  clear_value x3
  exact Chip.sets_shape (Chip.imageEngine_shape hx3)

theorem Chip.ss1Judge_shape {z : Chip} {p1 : Chip} {p2 : ℕ} (hp1 : z.KeepsShape p1) : z.KeepsShape (Chip.ss1Judge p1 p2) := by
  unfold Chip.ss1Judge
  extract_lets +onlyGivenNames x1
  clear_value x1
  exact .ite (Chip.pcSto_shape hp1) hp1

theorem Chip.statusWarn_shape {z : Chip} {p1 : Chip} {p2 : ℕ} {p3 : ℕ} {p4 : ℕ} (hp1 : z.KeepsShape p1) : z.KeepsShape (Chip.statusWarn p1 p2 p3 p4) := by
  unfold Chip.statusWarn
  extract_lets +onlyGivenNames x1
  extract_lets +onlyGivenNames x2
  have hx2 : z.KeepsShape x2 := Chip.put_shape hp1
  clear_value x2
  extract_lets +onlyGivenNames x3
  have hx3 : z.KeepsShape x3 := .ite (Chip.modSlice_shape hx2) hx2
  clear_value x3
  extract_lets +onlyGivenNames x4
  have hx4 : z.KeepsShape x4 := .ite (Chip.islRecord_shape (Chip.put_shape hx3)) hx3
  clear_value x4
  extract_lets +onlyGivenNames x5
  clear_value x5
  extract_lets +onlyGivenNames x6
  have hx6 : z.KeepsShape x6 := Chip.put_shape hx4
  clear_value x6
  exact .ite (Chip.islRecord_shape (Chip.put_shape hx6)) hx6

theorem Chip.statusWords_shape {z : Chip} {p1 : Chip} {p2 : ℕ} {p3 : ℕ} {p4 : ℕ} {p5 : ℕ} {p6 : ℕ} (hp1 : z.KeepsShape p1) : z.KeepsShape (Chip.statusWords p1 p2 p3 p4 p5 p6) := by
  unfold Chip.statusWords
  extract_lets +onlyGivenNames x1
  have hx1 : z.KeepsShape x1 := Chip.sets_shape hp1
  clear_value x1
  extract_lets +onlyGivenNames x2
  clear_value x2
  exact Chip.showNtc_shape (Chip.sets_shape hx1)

theorem Chip.stepFour_shape {z : Chip} {p1 : Chip} {p2 : ℕ} {p3 : ℕ} (hp1 : z.KeepsShape p1) : z.KeepsShape (Chip.stepFour p1 p2 p3) := by
  unfold Chip.stepFour
  extract_lets +onlyGivenNames x1
  have hx1 : z.KeepsShape x1 := Chip.set_shape hp1
  clear_value x1
  exact .ite (Chip.calibrate_shape hx1) (Chip.calibrateDue_shape (Chip.modIsl_shape hx1))

theorem Chip.stopCarrier_shape {z : Chip} {p1 : Chip} {p2 : ℕ} (hp1 : z.KeepsShape p1) : z.KeepsShape (Chip.stopCarrier p1 p2) := by
  unfold Chip.stopCarrier
  extract_lets +onlyGivenNames x1
  have hx1 : z.KeepsShape x1 := Chip.set_shape (Chip.set_shape (Chip.put_shape hp1))
  clear_value x1
  extract_lets +onlyGivenNames x2
  have hx2 : z.KeepsShape x2 := Chip.modSlice_shape hx1
  clear_value x2
  exact .ite (Chip.setGate_shape hx2) hx2

theorem Chip.swapNow_shape {z : Chip} {p1 : Chip} {p2 : ℕ} {p3 : ℕ} {p4 : Bool} (hp1 : z.KeepsShape p1) : z.KeepsShape (Chip.swapNow p1 p2 p3 p4) := by
  unfold Chip.swapNow
  refine .ite hp1 ?_
  refine .ite ?_ ?_
  · extract_lets +onlyGivenNames x1
    clear_value x1
    extract_lets +onlyGivenNames x2
    have hx2 : z.KeepsShape x2 := Chip.modCl_shape hp1
    clear_value x2
    exact .ite (Chip.noteCl_shape (Chip.setBitOf_shape hx2)) hx2
  · extract_lets +onlyGivenNames x3
    have hx3 : z.KeepsShape x3 := Chip.set_shape hp1
    clear_value x3
    extract_lets +onlyGivenNames x4
    have hx4 : z.KeepsShape x4 := Chip.put_shape (Chip.count_shape (Chip.putSwap_shape hx3))
    clear_value x4
    extract_lets +onlyGivenNames x5
    have hx5 : z.KeepsShape x5 := Chip.modCl_shape hx4
    clear_value x5
    refine .ite ?_ hx5
    extract_lets +onlyGivenNames x6
    clear_value x6
    extract_lets +onlyGivenNames x7
    have hx7 : z.KeepsShape x7 := Chip.modCl_shape hx5
    clear_value x7
    exact .ite (Chip.ageSwapped_shape hx7) hx7

theorem Chip.tick_shape {z : Chip} {p1 : Chip} (hp1 : z.KeepsShape p1) : z.KeepsShape (Chip.tick p1) := by
  unfold Chip.tick
  extract_lets +onlyGivenNames x1
  have hx1 : z.KeepsShape x1 := Chip.newTick_shape hp1
  clear_value x1
  exact Chip.aonTick_shape (.ite hx1 (Chip.dieTick_shape hx1))

theorem Chip.tjMeasure_shape {z : Chip} {p1 : Chip} {p2 : ℕ} {p3 : ℕ} {p4 : ℕ} (hp1 : z.KeepsShape p1) : z.KeepsShape (Chip.tjMeasure p1 p2 p3 p4) := by
  unfold Chip.tjMeasure
  extract_lets +onlyGivenNames x1
  clear_value x1
  extract_lets +onlyGivenNames x2
  clear_value x2
  extract_lets +onlyGivenNames x3
  clear_value x3
  extract_lets +onlyGivenNames x4
  clear_value x4
  extract_lets +onlyGivenNames x5
  clear_value x5
  extract_lets +onlyGivenNames x6
  clear_value x6
  extract_lets +onlyGivenNames x7
  extract_lets +onlyGivenNames x8
  have hx8 : z.KeepsShape x8 := Chip.modSw_shape hp1
  clear_value x8
  extract_lets +onlyGivenNames x9
  clear_value x9
  extract_lets +onlyGivenNames x10
  have hx10 : z.KeepsShape x10 := .ite (Chip.modSw_shape hp1) (.ite (Chip.record_shape (Chip.put_shape hx8)) hx8)
  clear_value x10
  exact Chip.showTj_shape hx10

theorem Chip.tokenAccept_shape {z : Chip} {p1 : Chip} {p2 : ℕ} {p3 : Fuses} (hp1 : z.KeepsShape p1) : z.KeepsShape (Chip.tokenAccept p1 p2 p3) := by
  unfold Chip.tokenAccept
  extract_lets +onlyGivenNames x1
  have hx1 : z.KeepsShape x1 := Chip.sets_shape (Chip.modFuses_shape hp1)
  clear_value x1
  extract_lets +onlyGivenNames x2
  have hx2 : z.KeepsShape x2 := Chip.newNonce_shape hx1
  clear_value x2
  exact .ite (Chip.note_shape (Chip.sets_shape hx2)) (.ite (Chip.note_shape (Chip.put_shape hx2)) hx2)

theorem Chip.tqJudge_shape {z : Chip} {p1 : Chip} {p2 : ℕ} (hp1 : z.KeepsShape p1) : z.KeepsShape (Chip.tqJudge p1 p2) := by
  unfold Chip.tqJudge
  extract_lets +onlyGivenNames x1
  refine .ite (.ite hp1 (Chip.modCl_shape hp1)) ?_
  extract_lets +onlyGivenNames x2
  clear_value x2
  extract_lets +onlyGivenNames x3
  clear_value x3
  extract_lets +onlyGivenNames x4
  clear_value x4
  extract_lets +onlyGivenNames x5
  clear_value x5
  extract_lets +onlyGivenNames x6
  clear_value x6
  extract_lets +onlyGivenNames x7
  clear_value x7
  extract_lets +onlyGivenNames x8
  have hx8 : z.KeepsShape x8 := Chip.put_shape (Chip.set_shape hp1)
  clear_value x8
  exact Chip.modCl_shape hx8

theorem Chip.traceCopy_shape {z : Chip} {p1 : Chip} {p2 : ℕ} (hp1 : z.KeepsShape p1) : z.KeepsShape (Chip.traceCopy p1 p2) := by
  unfold Chip.traceCopy
  refine Chip.descItem_shape hp1 ?_
  intro v1 v2 hv2
  extract_lets +onlyGivenNames x3
  clear_value x3
  extract_lets +onlyGivenNames x4
  clear_value x4
  refine .ite hv2 ?_
  extract_lets +onlyGivenNames x5
  clear_value x5
  extract_lets +onlyGivenNames x6
  clear_value x6
  refine .ite hv2 ?_
  extract_lets +onlyGivenNames x7
  clear_value x7
  extract_lets +onlyGivenNames x8
  extract_lets +onlyGivenNames x9
  have hx9 : z.KeepsShape x9 := Chip.setBytes_shape hv2
  clear_value x9
  exact Chip.descMore_shape (Chip.modDesc_shape hx9)

theorem Chip.transferred_shape {z : Chip} {p1 : Chip} (hp1 : z.KeepsShape p1) : z.KeepsShape (Chip.transferred p1) := by
  unfold Chip.transferred
  extract_lets +onlyGivenNames x1
  extract_lets +onlyGivenNames x2
  have hx2 : z.KeepsShape x2 := Chip.modPwr_shape hp1
  clear_value x2
  extract_lets +onlyGivenNames x3
  have hx3 : z.KeepsShape x3 := Chip.put_shape hx2
  clear_value x3
  exact Chip.showReq_shape (Chip.put_shape hx3)

theorem Chip.triggerPass_shape {z : Chip} {p1 : Chip} {p2 : ℕ} {p3 : ℕ} {p4 : ℕ} {p5 : Bool} (hp1 : z.KeepsShape p1) : z.KeepsShape (Chip.triggerPass p1 p2 p3 p4 p5) := by
  unfold Chip.triggerPass
  extract_lets +onlyGivenNames x1
  clear_value x1
  extract_lets +onlyGivenNames x2
  clear_value x2
  extract_lets +onlyGivenNames x3
  clear_value x3
  exact .ite hp1 (.ite (Chip.passStart_shape hp1) (.ite (Chip.passStart_shape hp1) hp1))

theorem Chip.txEnd_shape {z : Chip} {p1 : Chip} {p2 : ℕ} {p3 : TxEnd} (hp1 : z.KeepsShape p1) : z.KeepsShape (Chip.txEnd p1 p2 p3) := by
  unfold Chip.txEnd
  split
  · exact hp1
  · rename_i y3 y4 q5
    split
    · exact Chip.canError_shape hp1
    · exact Chip.txRetry_shape (Chip.modCan_shape hp1)
    · rename_i y10 q11
      extract_lets +onlyGivenNames x12
      extract_lets +onlyGivenNames x13
      have hx13 : z.KeepsShape x13 := Chip.modCan_shape hp1
      clear_value x13
      extract_lets +onlyGivenNames x14
      have hx14 : z.KeepsShape x14 := .ite hx13 (Chip.canConf_shape (Chip.set_shape hx13))
      clear_value x14
      extract_lets +onlyGivenNames x15
      have hx15 : z.KeepsShape x15 := .ite (Chip.modPort_shape hx14) hx14
      clear_value x15
      extract_lets +onlyGivenNames x16
      have hx16 : z.KeepsShape x16 := Chip.sets_shape hx15
      clear_value x16
      extract_lets +onlyGivenNames x17
      have hx17 : z.KeepsShape x17 := .ite (Chip.set_shape hx16) hx16
      clear_value x17
      extract_lets +onlyGivenNames x18
      have hx18 : z.KeepsShape x18 := Chip.bufEnd_shape (Chip.showBackoff_shape hx17)
      clear_value x18
      exact .ite (Chip.frameRx_shape hx18) hx18

theorem Chip.unitAsk_shape {z : Chip} {p1 : Chip} {p2 : UnitId} (hp1 : z.KeepsShape p1) : z.KeepsShape (Chip.unitAsk p1 p2) := by
  unfold Chip.unitAsk
  exact Chip.rowWrite_shape hp1 (fun v1 hv1 => Chip.unitStart_shape hv1)

theorem Chip.uploadItem_shape {z : Chip} {p1 : Chip} {p2 : ℕ} (hp1 : z.KeepsShape p1) : z.KeepsShape (Chip.uploadItem p1 p2) := by
  unfold Chip.uploadItem
  refine Chip.descItem_shape hp1 ?_
  intro v1 v2 hv2
  extract_lets +onlyGivenNames x3
  clear_value x3
  extract_lets +onlyGivenNames x4
  clear_value x4
  extract_lets +onlyGivenNames x5
  refine .ite ?_ (Chip.descMore_shape (Chip.storeRun_shape hv2))
  extract_lets +onlyGivenNames x6
  have hx6 : z.KeepsShape x6 := Chip.reachGate_shape hv2
  clear_value x6
  split
  · exact Chip.descEnd_shape (Chip.ldrStore_shape hx6)
  · exact Chip.descMore_shape (.each hx6 (fun a11 t12 ht12 => Chip.ldrStore_shape ht12))

theorem Chip.valleyCarrier_shape {z : Chip} {p1 : Chip} {p2 : ℕ} (hp1 : z.KeepsShape p1) : z.KeepsShape (Chip.valleyCarrier p1 p2) := by
  unfold Chip.valleyCarrier
  extract_lets +onlyGivenNames x1
  have hx1 : z.KeepsShape x1 := Chip.accrue_shape hp1
  clear_value x1
  extract_lets +onlyGivenNames x2
  have hx2 : z.KeepsShape x2 := .ite (Chip.count_shape hx1) hx1
  clear_value x2
  extract_lets +onlyGivenNames x3
  extract_lets +onlyGivenNames x4
  have hx4 : z.KeepsShape x4 := Chip.sets_shape hx2
  clear_value x4
  exact Chip.modSlice_shape hx4

theorem Chip.valleyTick_shape {z : Chip} {p1 : Chip} {p2 : ℕ} (hp1 : z.KeepsShape p1) : z.KeepsShape (Chip.valleyTick p1 p2) := by
  unfold Chip.valleyTick
  extract_lets +onlyGivenNames x1
  have hx1 : z.KeepsShape x1 := Chip.valleyCarrier_shape hp1
  clear_value x1
  refine .ite (Chip.showHiz_shape (Chip.syncFollowers_shape (Chip.stopCarrier_shape hx1))) ?_
  extract_lets +onlyGivenNames x2
  have hx2 : z.KeepsShape x2 := Chip.reloadPoint_shape (Chip.syncCheck_shape hx1)
  clear_value x2
  exact Chip.checkSlice_shape (Chip.showHiz_shape (Chip.rawAt_shape hx2))

theorem Chip.wdisFail_shape {z : Chip} {p1 : Chip} {p2 : ℕ} (hp1 : z.KeepsShape p1) : z.KeepsShape (Chip.wdisFail p1 p2) := by
  unfold Chip.wdisFail
  extract_lets +onlyGivenNames x1
  have hx1 : z.KeepsShape x1 := Chip.wdisRefuse_shape (Chip.setHeld_shape hp1)
  clear_value x1
  exact .ite (Chip.disResistor_shape hx1) hx1

theorem Chip.wdisProbed_shape {z : Chip} {p1 : Chip} {p2 : ℕ} (hp1 : z.KeepsShape p1) : z.KeepsShape (Chip.wdisProbed p1 p2) := by
  unfold Chip.wdisProbed
  split
  · exact Chip.wdisStart_shape hp1
  · exact .ite (Chip.wdisStart_shape (Chip.obsCaught_shape (Chip.useFree_shape hp1))) (Chip.wdisFail_shape hp1)

theorem Chip.windResult_shape {z : Chip} {p1 : Chip} {p2 : ℕ} {p3 : ℕ} (hp1 : z.KeepsShape p1) : z.KeepsShape (Chip.windResult p1 p2 p3) := by
  unfold Chip.windResult
  extract_lets +onlyGivenNames x1
  clear_value x1
  extract_lets +onlyGivenNames x2
  clear_value x2
  extract_lets +onlyGivenNames x3
  have hx3 : z.KeepsShape x3 := Chip.sets_shape hp1
  clear_value x3
  exact Chip.windJudge_shape (Chip.modChm_shape hx3)

theorem Chip.writeFailed_shape {z : Chip} {p1 : Chip} {p2 : WriteOwner} (hp1 : z.KeepsShape p1) : z.KeepsShape (Chip.writeFailed p1 p2) := by
  unfold Chip.writeFailed
  split
  · exact Chip.ledFail_shape hp1
  · exact Chip.bootEnd_shape hp1
  · exact Chip.hwAbortEnd_shape (Chip.descEnd_shape (Chip.dropWrite_shape hp1))
  · exact Chip.put_shape (Chip.dropWrite_shape hp1)
  · exact Chip.dropWrite_shape hp1
  · exact Chip.dropWrite_shape hp1

theorem Chip.writeNow_shape {z : Chip} {p1 : Chip} {p2 : Requester} {p3 : ℕ} {p4 : ℕ} (hp1 : z.KeepsShape p1) : z.KeepsShape (Chip.writeNow p1 p2 p3 p4) := by
  unfold Chip.writeNow
  refine .ite hp1 ?_
  extract_lets +onlyGivenNames x1
  have hx1 : z.KeepsShape x1 := Chip.drainFor_shape hp1
  clear_value x1
  exact .ite (Chip.hostDenied_shape hx1) (Chip.regWrite_shape hx1)

theorem Chip.writeStarted_shape {z : Chip} {p1 : Chip} {p2 : WriteOwner} (hp1 : z.KeepsShape p1) : z.KeepsShape (Chip.writeStarted p1 p2) := by
  unfold Chip.writeStarted
  split
  · exact Chip.ledStart_shape hp1
  · exact Chip.ageStored_shape hp1
  · exact Chip.repairsWritten_shape hp1
  · exact hp1

end Sys2Proof.Machine
end

