-- ==== Sys2Proof/Laws/ShapeExec.lean ====
section
/-! SUPPORT. Every command keeps the numbers of the module's instances. -/

set_option linter.unusedVariables false

namespace Sys2Proof.Machine

open Sys2Proof

theorem State.actRaw_shape {s t : State} {f : Chip → Chip} (h : s.actRaw f = .next t)
    (hf : ∀ z c : Chip, z.KeepsShape c → z.KeepsShape (f c)) : s.chip.KeepsShape t.chip := by
  cases h
  exact Chip.settle_shape (hf _ _ (.refl _))

theorem State.act_shape {s t : State} {f : Chip → Chip} (h : s.act f = .next t)
    (hf : ∀ z c : Chip, z.KeepsShape c → z.KeepsShape (f c)) : s.chip.KeepsShape t.chip := by
  unfold State.act at h
  split at h
  · cases h; exact .refl _
  · exact State.actRaw_shape h hf

theorem State.actIf_shape {s t : State} {ok : Bool} {f : Chip → Chip} (h : s.actIf ok f = .next t)
    (hf : ∀ z c : Chip, z.KeepsShape c → z.KeepsShape (f c)) : s.chip.KeepsShape t.chip := by
  unfold State.actIf at h
  split at h
  · exact State.act_shape h hf
  · cases h

theorem execAcyclicFrameRx_shape {p1 : Bool} {p2 : AcyclicFrame} {p3 : Bool} {p4 : State} {t : State} (h : execAcyclicFrameRx p1 p2 p3 p4 = .next t) : p4.chip.KeepsShape t.chip :=
  State.actIf_shape h (fun _ c1 hc1 => Chip.acyclicRx_shape hc1)

theorem execAddressClaimedRx_shape {p1 : Fin 4} {p2 : Byte} {p3 : BitVec 64} {p4 : State} {t : State} (h : execAddressClaimedRx p1 p2 p3 p4 = .next t) : p4.chip.KeepsShape t.chip :=
  State.act_shape h (fun _ c1 hc1 => Chip.canRx_shape hc1)

theorem execAddressClaim_shape {p1 : Fin 4} {p2 : State} {t : State} (h : execAddressClaim p1 p2 = .next t) : p2.chip.KeepsShape t.chip :=
  State.act_shape h (fun _ c1 hc1 => Chip.claimPref_shape hc1)

theorem execAgeApply_shape {p1 : Fin 4} {p2 : State} {t : State} (h : execAgeApply p1 p2 = .next t) : p2.chip.KeepsShape t.chip := by
  refine State.act_shape h ?_
  intro z c1 hc1
  extract_lets +onlyGivenNames x2
  extract_lets +onlyGivenNames x3
  clear_value x3
  refine .ite hc1 ?_
  extract_lets +onlyGivenNames x4
  have hx4 : ∀ w5, z.KeepsShape w5 → z.KeepsShape (x4 w5) := fun w5 hw5 => Chip.showLearn_shape (Chip.modAge_shape hw5)
  clear_value x4
  extract_lets +onlyGivenNames x6
  clear_value x6
  refine .ite (hx4 _ hc1) ?_
  split
  · exact hx4 _ (Chip.record_shape hc1)
  · extract_lets +onlyGivenNames x11
    have hx11 : z.KeepsShape x11 := Chip.copyTable2_shape hc1
    clear_value x11
    extract_lets +onlyGivenNames x12
    have hx12 : z.KeepsShape x12 := Chip.modAge_shape (.foldl hx11 (fun t14 a13 ht14 => Chip.ageTake_shape ht14))
    clear_value x12
    exact Chip.showLearn_shape (Chip.ageSwapOut_shape hx12)

theorem execAgeRebuild_shape {p1 : Fin 4} {p2 : State} {t : State} (h : execAgeRebuild p1 p2 = .next t) : p2.chip.KeepsShape t.chip := by
  refine State.act_shape h ?_
  intro z c1 hc1
  extract_lets +onlyGivenNames x2
  refine .ite hc1 ?_
  extract_lets +onlyGivenNames x3
  have hx3 : z.KeepsShape x3 := Chip.modAge_shape (Chip.copyTable2_shape hc1)
  clear_value x3
  extract_lets +onlyGivenNames x4
  have hx4 : z.KeepsShape x4 := .foldl hx3 (fun t6 a5 ht6 => Chip.rebuildEntry_shape ht6)
  clear_value x4
  extract_lets +onlyGivenNames x7
  extract_lets +onlyGivenNames x8
  have hx8 : z.KeepsShape x8 := Chip.modAge_shape hx4
  clear_value x8
  exact Chip.ageSwapOut_shape hx8

theorem execAloneProbe_shape {p1 : Fin 4} {p2 : State} {t : State} (h : execAloneProbe p1 p2 = .next t) : p2.chip.KeepsShape t.chip := by
  refine State.act_shape h ?_
  intro z c1 hc1
  refine .ite hc1 ?_
  extract_lets +onlyGivenNames x2
  extract_lets +onlyGivenNames x3
  clear_value x3
  exact Chip.statusSend_shape (Chip.modPort_shape hc1)

theorem execAonXtalFail_shape {p1 : Bool} {p2 : State} {t : State} (h : execAonXtalFail p1 p2 = .next t) : p2.chip.KeepsShape t.chip := by
  refine State.actRaw_shape h ?_
  intro z c1 hc1
  extract_lets +onlyGivenNames x2
  have hx2 : z.KeepsShape x2 := Chip.put_shape hc1
  clear_value x2
  extract_lets +onlyGivenNames x3
  have hx3 : z.KeepsShape x3 := Chip.modPwr_shape hx2
  clear_value x3
  exact .ite hx3 (Chip.note_shape (Chip.sets_shape (Chip.monitor_shape hx3)))

theorem execArbCommitEnd_shape {p1 : State} {t : State} (h : execArbCommitEnd p1 = .next t) : p1.chip.KeepsShape t.chip := by
  refine State.act_shape h ?_
  intro z c1 hc1
  refine .ite ?_ hc1
  extract_lets +onlyGivenNames x2
  clear_value x2
  exact Chip.sets_shape (Chip.modFuses_shape hc1)

theorem execArbCommit_shape {p1 : Word} {p2 : State} {t : State} (h : execArbCommit p1 p2 = .next t) : p2.chip.KeepsShape t.chip :=
  State.act_shape h (fun _ c1 hc1 => Chip.arbWrite_shape hc1)

theorem execBamGap_shape {p1 : Fin 8} {p2 : State} {t : State} (h : execBamGap p1 p2 = .next t) : p2.chip.KeepsShape t.chip :=
  State.act_shape h (fun _ c1 hc1 => .ite (Chip.sesData_shape hc1) hc1)

theorem execBankConfirm_shape {p1 : State} {t : State} (h : execBankConfirm p1 = .next t) : p1.chip.KeepsShape t.chip :=
  State.act_shape h (fun _ c1 hc1 => Chip.bankWrite_shape hc1)

theorem execBankUpdate_shape {p1 : Word} {p2 : State} {t : State} (h : execBankUpdate p1 p2 = .next t) : p2.chip.KeepsShape t.chip :=
  State.act_shape h (fun _ c1 hc1 => Chip.bankWrite_shape hc1)

theorem execBcmStall_shape {p1 : Fin 4} {p2 : State} {t : State} (h : execBcmStall p1 p2 = .next t) : p2.chip.KeepsShape t.chip := by
  refine State.act_shape h ?_
  intro z c1 hc1
  extract_lets +onlyGivenNames x2
  clear_value x2
  split <;> exact .ite (Chip.faultCl_shape hc1) hc1

theorem execBoRec_shape {p1 : Fin 4} {p2 : State} {t : State} (h : execBoRec p1 p2 = .next t) : p2.chip.KeepsShape t.chip :=
  State.act_shape h (fun _ c1 hc1 => Chip.rowWrite_shape hc1 (fun v2 hv2 => .ite (Chip.modCan_shape hv2) hv2))

theorem execBootLow_shape {p1 : Fin 16} {p2 : State} {t : State} (h : execBootLow p1 p2 = .next t) : p2.chip.KeepsShape t.chip := by
  refine State.act_shape h ?_
  intro z c1 hc1
  refine .ite ?_ hc1
  extract_lets +onlyGivenNames x2
  have hx2 : z.KeepsShape x2 := Chip.modSlice_shape hc1
  clear_value x2
  extract_lets +onlyGivenNames x3
  have hx3 : z.KeepsShape x3 := Chip.record_shape (Chip.put_shape hx2)
  clear_value x3
  exact .ite hx3 (.ite (Chip.modSlice_shape hx3) (Chip.refreshStart_shape hx3))

theorem execBootSequence_shape {p1 : BootOutcome} {p2 : State} {t : State} (h : execBootSequence p1 p2 = .next t) : p2.chip.KeepsShape t.chip :=
  State.act_shape h (fun _ c1 hc1 => .ite (Chip.bootRun_shape hc1) hc1)

theorem execBootrecWriteEnd_shape {p1 : Bool} {p2 : State} {t : State} (h : execBootrecWriteEnd p1 p2 = .next t) : p2.chip.KeepsShape t.chip :=
  State.act_shape h (fun _ c1 hc1 => .ite (Chip.bootEnd_shape hc1) hc1)

theorem execBrownOut_shape {p1 : Rail} {p2 : State} {t : State} (h : execBrownOut p1 p2 = .next t) : p2.chip.KeepsShape t.chip := by
  refine State.actRaw_shape h ?_
  intro z c1 hc1
  extract_lets +onlyGivenNames x2
  clear_value x2
  extract_lets +onlyGivenNames x3
  have hx3 : ∀ w4, ∀ w5, ∀ w6, z.KeepsShape (x3 w4 w5 w6) := by
    intro w4 w5 w6
    unfold x3
    refine .ite ?_ (Chip.put_shape hc1)
    extract_lets +onlyGivenNames x7
    have hx7 : z.KeepsShape x7 := Chip.dieReset_shape (Chip.put_shape hc1)
    clear_value x7
    extract_lets +onlyGivenNames x8
    have hx8 : z.KeepsShape x8 := Chip.modPwr_shape hx7
    clear_value x8
    exact (hx8.step rfl)
  clear_value x3
  split
  · exact hx3 _ _ _
  · exact hx3 _ _ _
  · exact Chip.cellarReset_shape hc1
  · exact hc1
  · extract_lets +onlyGivenNames x19
    have hx19 : z.KeepsShape x19 := Chip.modPwr_shape (Chip.put_shape hc1)
    clear_value x19
    refine .ite hx19 ?_
    extract_lets +onlyGivenNames x20
    have hx20 : z.KeepsShape x20 := Chip.sets_shape hx19
    clear_value x20
    extract_lets +onlyGivenNames x21
    extract_lets +onlyGivenNames x22
    have hx22 : z.KeepsShape x22 := (hx20.step (by simp +zetaDelta [Chip.lens, updNth_length]))
    clear_value x22
    exact Chip.refreshHolds_shape (Chip.showOv3_shape (Chip.showVdc_shape (Chip.cmpDemands_shape (Chip.faultEvery_shape hx22))))

theorem execBsCatchPulse_shape {p1 : Fin 4} {p2 : State} {t : State} (h : execBsCatchPulse p1 p2 = .next t) : p2.chip.KeepsShape t.chip :=
  State.act_shape h (fun _ c1 hc1 => .ite (.each (.ite hc1 (Chip.pulseOn_shape hc1)) (fun a2 t3 ht3 => .ite (Chip.commandOn_shape ht3) ht3)) hc1)

theorem execBsRefresh_shape {p1 : Fin 16} {p2 : State} {t : State} (h : execBsRefresh p1 p2 = .next t) : p2.chip.KeepsShape t.chip := by
  refine State.act_shape h ?_
  intro z c1 hc1
  extract_lets +onlyGivenNames x2
  clear_value x2
  extract_lets +onlyGivenNames x3
  have hx3 : z.KeepsShape x3 := .ite (Chip.rawEdge_shape hc1) hc1
  clear_value x3
  extract_lets +onlyGivenNames x4
  exact .ite hx3 (.ite (Chip.bsNote_shape (Chip.refreshStart_shape hx3)) (.ite (Chip.bsNote_shape (Chip.modSlice_shape hx3)) hx3))

theorem execBusError_shape {p1 : Fin 4} {p2 : CanError} {p3 : State} {t : State} (h : execBusError p1 p2 p3 = .next t) : p3.chip.KeepsShape t.chip :=
  State.act_shape h (fun _ c1 hc1 => Chip.canError_shape hc1)

theorem execBusOffEnd_shape {p1 : Fin 4} {p2 : State} {t : State} (h : execBusOffEnd p1 p2 = .next t) : p2.chip.KeepsShape t.chip := by
  refine State.act_shape h ?_
  intro z c1 hc1
  refine .ite ?_ hc1
  extract_lets +onlyGivenNames x2
  have hx2 : z.KeepsShape x2 := Chip.sets_shape hc1
  clear_value x2
  exact Chip.claimPref_shape (Chip.modCan_shape hx2)

theorem execCanIntegrated_shape {p1 : Fin 4} {p2 : State} {t : State} (h : execCanIntegrated p1 p2 = .next t) : p2.chip.KeepsShape t.chip :=
  State.act_shape h (fun _ c1 hc1 => .ite (Chip.porchLoad_shape (Chip.modCan_shape (Chip.put_shape hc1))) hc1)

theorem execCanMode_shape {p1 : Fin 4} {p2 : Fin 4} {p3 : State} {t : State} (h : execCanMode p1 p2 p3 = .next t) : p3.chip.KeepsShape t.chip :=
  State.act_shape h (fun _ c1 hc1 => Chip.rowWrite_shape hc1 (fun v2 hv2 => Chip.canModeSet_shape hv2))

theorem execCannotClaimSend_shape {p1 : Fin 4} {p2 : State} {t : State} (h : execCannotClaimSend p1 p2 = .next t) : p2.chip.KeepsShape t.chip :=
  State.act_shape h (fun _ c1 hc1 => .ite (Chip.cannotSend_shape (Chip.modPort_shape hc1)) hc1)

theorem execCatchProbe_shape {p1 : Fin 4} {p2 : Word} {p3 : Word} {p4 : ProbeEnd} {p5 : State} {t : State} (h : execCatchProbe p1 p2 p3 p4 p5 = .next t) : p5.chip.KeepsShape t.chip := by
  refine State.act_shape h ?_
  intro z c1 hc1
  refine .ite hc1 ?_
  refine .ite ?_ ?_
  · extract_lets +onlyGivenNames x2
    have hx2 : z.KeepsShape x2 := Chip.modCl_shape hc1
    clear_value x2
    split
    · rename_i y3 y4 q5
      refine .ite ?_ (Chip.wdisFail_shape hx2)
      extract_lets +onlyGivenNames x6
      have hx6 : z.KeepsShape x6 := Chip.modCl_shape hx2
      clear_value x6
      exact .ite (Chip.wdisProbed_shape hx6) hx6
  · extract_lets +onlyGivenNames x7
    have hx7 : z.KeepsShape x7 := Chip.bump_shape (Chip.set_shape hc1)
    clear_value x7
    extract_lets +onlyGivenNames x8
    have hx8 : z.KeepsShape x8 := Chip.modCl_shape hx7
    clear_value x8
    split
    · rename_i y9 y10 q11
      extract_lets +onlyGivenNames x12
      clear_value x12
      refine .ite ?_ ?_
      · extract_lets +onlyGivenNames x13
        have hx13 : z.KeepsShape x13 := Chip.modCl_shape hx8
        clear_value x13
        exact .ite (Chip.catchStandstill_shape hx13) hx13
      · extract_lets +onlyGivenNames x14
        clear_value x14
        extract_lets +onlyGivenNames x15
        have hx15 : z.KeepsShape x15 := Chip.modCl_shape hx8
        clear_value x15
        split
        · exact hx15
        · rename_i y18 q19
          split
          · exact Chip.larderBad_shape hx15
          · extract_lets +onlyGivenNames x24
            clear_value x24
            extract_lets +onlyGivenNames x25
            clear_value x25
            extract_lets +onlyGivenNames x26
            clear_value x26
            exact Chip.catchLock_shape (Chip.obsCaught_shape hx15)

theorem execCatchTimeout_shape {p1 : Fin 4} {p2 : State} {t : State} (h : execCatchTimeout p1 p2 = .next t) : p2.chip.KeepsShape t.chip := by
  refine State.act_shape h ?_
  intro z c1 hc1
  refine .ite hc1 ?_
  extract_lets +onlyGivenNames x2
  clear_value x2
  extract_lets +onlyGivenNames x3
  have hx3 : z.KeepsShape x3 := by
    unfold x3
    split
    · exact Chip.islRecord_shape hc1
    · exact hc1
  clear_value x3
  exact Chip.noLock_shape hx3

theorem execCellarReset_shape {p1 : Bool} {p2 : State} {t : State} (h : execCellarReset p1 p2 = .next t) : p2.chip.KeepsShape t.chip :=
  State.actRaw_shape h (fun _ c1 hc1 => Chip.cellarReset_shape hc1)

theorem execCellarTransfer_shape {p1 : State} {t : State} (h : execCellarTransfer p1 = .next t) : p1.chip.KeepsShape t.chip := by
  refine State.actRaw_shape h ?_
  intro z c1 hc1
  refine .ite hc1 ?_
  extract_lets +onlyGivenNames x2
  clear_value x2
  extract_lets +onlyGivenNames x3
  have hx3 : z.KeepsShape x3 := Chip.transferred_shape hc1
  clear_value x3
  split
  · exact Chip.showReq_shape (Chip.modPwr_shape (Chip.dieReset_shape hx3))
  · exact hx3

theorem execChanLoss_shape {p1 : Fin 12} {p2 : State} {t : State} (h : execChanLoss p1 p2 = .next t) : p2.chip.KeepsShape t.chip := by
  refine State.act_shape h ?_
  intro z c1 hc1
  refine .ite hc1 ?_
  extract_lets +onlyGivenNames x2
  clear_value x2
  extract_lets +onlyGivenNames x3
  have hx3 : z.KeepsShape x3 := Chip.sets_shape hc1
  clear_value x3
  exact .ite (Chip.islFall_shape (Chip.islHold_shape (Chip.islDetect_shape hx3))) hx3

theorem execCheckedMessageRx_shape {p1 : Fin 4} {p2 : Byte} {p3 : Vector Byte 8} {p4 : State} {t : State} (h : execCheckedMessageRx p1 p2 p3 p4 = .next t) : p4.chip.KeepsShape t.chip :=
  State.act_shape h (fun _ c1 hc1 => Chip.canRx_shape hc1)

theorem execChopperTest_shape {p1 : State} {t : State} (h : execChopperTest p1 = .next t) : p1.chip.KeepsShape t.chip :=
  State.act_shape h (fun _ c1 hc1 => Chip.chopTest_shape hc1)

theorem execChopperVerifyEnd_shape {p1 : State} {t : State} (h : execChopperVerifyEnd p1 = .next t) : p1.chip.KeepsShape t.chip := by
  refine State.act_shape h ?_
  intro z c1 hc1
  refine .ite hc1 ?_
  extract_lets +onlyGivenNames x2
  clear_value x2
  extract_lets +onlyGivenNames x3
  clear_value x3
  extract_lets +onlyGivenNames x4
  extract_lets +onlyGivenNames x5
  have hx5 : z.KeepsShape x5 := (hc1.step (by simp +zetaDelta only [Chip.lens]))
  clear_value x5
  extract_lets +onlyGivenNames x6
  have hx6 : z.KeepsShape x6 := .ite hx5 (Chip.chopFail_shape hx5)
  clear_value x6
  refine .ite hx6 ?_
  extract_lets +onlyGivenNames x7
  have hx7 : z.KeepsShape x7 := Chip.sets_shape hx6
  clear_value x7
  extract_lets +onlyGivenNames x8
  have hx8 : z.KeepsShape x8 := Chip.put_shape hx7
  clear_value x8
  extract_lets +onlyGivenNames x9
  extract_lets +onlyGivenNames x10
  have hx10 : z.KeepsShape x10 := .ite (hx8.step (by simp +zetaDelta only [Chip.lens])) hx7
  clear_value x10
  extract_lets +onlyGivenNames x11
  clear_value x11
  exact .ite hx10 (Chip.chopper_shape hx10)

theorem execClaimSettled_shape {p1 : Fin 4} {p2 : State} {t : State} (h : execClaimSettled p1 p2 = .next t) : p2.chip.KeepsShape t.chip :=
  State.act_shape h (fun _ c1 hc1 => .ite (Chip.porchLoad_shape (Chip.portSet_shape hc1)) hc1)

theorem execCleClear_shape {p1 : Fin 4} {p2 : State} {t : State} (h : execCleClear p1 p2 = .next t) : p2.chip.KeepsShape t.chip :=
  State.act_shape h (fun _ c1 hc1 => Chip.rowWrite_shape hc1 (fun v2 hv2 => Chip.cleClr_shape hv2))

theorem execCleCrcUpdate_shape {p1 : Fin 4} {p2 : Option (Fin 1792 × Bool)} {p3 : State} {t : State} (h : execCleCrcUpdate p1 p2 p3 = .next t) : p3.chip.KeepsShape t.chip := by
  refine State.act_shape h ?_
  intro z c1 hc1
  extract_lets +onlyGivenNames x2
  have hx2 : z.KeepsShape x2 := by
    unfold x2
    split
    · exact Chip.engineFault_shape hc1
    · exact Chip.noteCl_shape (Chip.put_shape hc1)
    · exact hc1
  clear_value x2
  exact Chip.put_shape (Chip.set_shape hx2)

theorem execClearRequest_shape {p1 : Fin 4} {p2 : State} {t : State} (h : execClearRequest p1 p2 = .next t) : p2.chip.KeepsShape t.chip :=
  State.act_shape h (fun _ c1 hc1 => Chip.rowWrite_shape hc1 (fun v2 hv2 => Chip.request_shape hv2))

theorem execClrTot_shape {p1 : Fin 2} {p2 : State} {t : State} (h : execClrTot p1 p2 = .next t) : p2.chip.KeepsShape t.chip :=
  State.act_shape h (fun _ c1 hc1 => Chip.rowWrite_shape hc1 (fun v2 hv2 => Chip.posClrTot_shape hv2))

theorem execClrWeld_shape {p1 : State} {t : State} (h : execClrWeld p1 = .next t) : p1.chip.KeepsShape t.chip :=
  State.act_shape h (fun _ c1 hc1 => Chip.applyContactors_shape (Chip.put_shape hc1))

theorem execCmdLost_shape {p1 : Fin 4} {p2 : State} {t : State} (h : execCmdLost p1 p2 = .next t) : p2.chip.KeepsShape t.chip :=
  State.act_shape h (fun _ c1 hc1 => .ite (Chip.note_shape (Chip.put_shape (Chip.modPort_shape hc1))) hc1)

theorem execCmpRelease_shape {p1 : Fin 16} {p2 : CmpInput} {p3 : State} {t : State} (h : execCmpRelease p1 p2 p3 = .next t) : p3.chip.KeepsShape t.chip := by
  refine State.act_shape h ?_
  intro z c1 hc1
  extract_lets +onlyGivenNames x2
  refine .ite hc1 ?_
  extract_lets +onlyGivenNames x3
  have hx3 : z.KeepsShape x3 := Chip.cmpFreed_shape hc1 (Chip.clrBitOf_shape (Chip.refShown_shape hc1))
  clear_value x3
  exact Chip.settleHolds_shape (Chip.applyContactors_shape (Chip.showVdc_shape (Chip.showOv3_shape hx3)))

theorem execCmpTrip_shape {p1 : Fin 16} {p2 : CmpInput} {p3 : State} {t : State} (h : execCmpTrip p1 p2 p3 = .next t) : p3.chip.KeepsShape t.chip := by
  refine State.act_shape h ?_
  intro z c1 hc1
  extract_lets +onlyGivenNames x2
  extract_lets +onlyGivenNames x3
  refine .ite hc1 ?_
  extract_lets +onlyGivenNames x4
  have hx4 : z.KeepsShape x4 := Chip.refShown_shape hc1
  clear_value x4
  extract_lets +onlyGivenNames x5
  clear_value x5
  extract_lets +onlyGivenNames x6
  have hx6 : z.KeepsShape x6 := Chip.setBitOf_shape hx4
  clear_value x6
  extract_lets +onlyGivenNames x7
  have hx7 : z.KeepsShape x7 := .ite hx6 (Chip.record_shape (Chip.setBitOf_shape hx6))
  clear_value x7
  exact Chip.cmpRoleActs_shape hx7

theorem execCoefWrite_shape {p1 : Fin 4} {p2 : CoefReg} {p3 : Word} {p4 : State} {t : State} (h : execCoefWrite p1 p2 p3 p4 = .next t) : p4.chip.KeepsShape t.chip :=
  State.act_shape h (fun _ c1 hc1 => Chip.rowWrite_shape hc1 (fun v2 hv2 => Chip.coefSet_shape hv2))

theorem execCommandedAddress_shape {p1 : Fin 4} {p2 : BitVec 64} {p3 : Byte} {p4 : State} {t : State} (h : execCommandedAddress p1 p2 p3 p4 = .next t) : p4.chip.KeepsShape t.chip :=
  State.act_shape h (fun _ c1 hc1 => Chip.commanded_shape hc1)

theorem execConfigReadback_shape {p1 : Fin 2} {p2 : Option (Fin 4096)} {p3 : State} {t : State} (h : execConfigReadback p1 p2 p3 = .next t) : p3.chip.KeepsShape t.chip := by
  refine State.act_shape h ?_
  intro z c1 hc1
  split
  · exact .ite hc1 (Chip.halt_shape hc1)
  · exact hc1

theorem execCopyFrameRx_shape {p1 : Fin 65536} {p2 : List Byte} {p3 : Bool} {p4 : Bool} {p5 : State} {t : State} (h : execCopyFrameRx p1 p2 p3 p4 p5 = .next t) : p5.chip.KeepsShape t.chip :=
  State.actIf_shape h (fun _ c1 hc1 => Chip.copyRx_shape hc1)

theorem execCoreClkFail_shape {p1 : Fin 2} {p2 : State} {t : State} (h : execCoreClkFail p1 p2 = .next t) : p2.chip.KeepsShape t.chip :=
  State.act_shape h (fun _ c1 hc1 => .ite hc1 (Chip.halt_shape (Chip.monitor_shape hc1)))

theorem execCoreLoad_shape {p1 : Fin 4} {p2 : Fin 3} {p3 : Bool} {p4 : Bool} {p5 : Fin 32} {p6 : Word} {p7 : Fin 3} {p8 : State} {t : State} (h : execCoreLoad p1 p2 p3 p4 p5 p6 p7 p8 = .next t) : p8.chip.KeepsShape t.chip :=
  State.act_shape h (fun _ c1 hc1 => Chip.coreLoad_shape hc1)

theorem execCoreStore_shape {p1 : Fin 4} {p2 : Fin 3} {p3 : Word} {p4 : Word} {p5 : State} {t : State} (h : execCoreStore p1 p2 p3 p4 p5 = .next t) : p5.chip.KeepsShape t.chip :=
  State.act_shape h (fun _ c1 hc1 => Chip.coreStore_shape hc1)

theorem execCoreWdt_shape {p1 : Fin 4} {p2 : State} {t : State} (h : execCoreWdt p1 p2 = .next t) : p2.chip.KeepsShape t.chip :=
  State.act_shape h (fun _ c1 hc1 => .ite (Chip.halt_shape hc1) hc1)

theorem execCqHeadWrite_shape {p1 : Fin 8} {p2 : Word} {p3 : State} {t : State} (h : execCqHeadWrite p1 p2 p3 = .next t) : p3.chip.KeepsShape t.chip :=
  State.act_shape h (fun _ c1 hc1 => Chip.cqHeadWrite_shape hc1)

theorem execCqModTimer_shape {p1 : Fin 8} {p2 : State} {t : State} (h : execCqModTimer p1 p2 = .next t) : p2.chip.KeepsShape t.chip := by
  refine State.act_shape h ?_
  intro z c1 hc1
  extract_lets +onlyGivenNames x2
  clear_value x2
  extract_lets +onlyGivenNames x3
  clear_value x3
  exact .ite (Chip.hwIrq_shape (Chip.sets_shape hc1)) hc1

theorem execCtrCommand_shape {p1 : Word} {p2 : State} {t : State} (h : execCtrCommand p1 p2 = .next t) : p2.chip.KeepsShape t.chip :=
  State.act_shape h (fun _ c1 hc1 => Chip.ctrWrite_shape hc1)

theorem execCtrFeedbackChange_shape {p1 : Bool} {p2 : Bool} {p3 : State} {t : State} (h : execCtrFeedbackChange p1 p2 p3 = .next t) : p3.chip.KeepsShape t.chip := by
  refine State.actRaw_shape h ?_
  intro z c1 hc1
  extract_lets +onlyGivenNames x2
  extract_lets +onlyGivenNames x3
  have hx3 : z.KeepsShape x3 := (hc1.step rfl)
  clear_value x3
  exact .ite hx3 (Chip.ctrPin_shape hx3)

theorem execCtrFeedbackTimeout_shape {p1 : Bool} {p2 : State} {t : State} (h : execCtrFeedbackTimeout p1 p2 = .next t) : p2.chip.KeepsShape t.chip := by
  refine State.act_shape h ?_
  intro z c1 hc1
  extract_lets +onlyGivenNames x2
  extract_lets +onlyGivenNames x3
  extract_lets +onlyGivenNames x4
  extract_lets +onlyGivenNames x5
  refine .ite hc1 ?_
  extract_lets +onlyGivenNames x6
  have hx6 : z.KeepsShape x6 := Chip.put_shape hc1
  clear_value x6
  exact .ite (Chip.ctrNote_shape (Chip.put_shape (Chip.put_shape (Chip.ctrMove_shape hx6)))) (.ite (Chip.ctrNote_shape (Chip.put_shape hx6)) hx6)

theorem execCtrForce_shape {p1 : Word} {p2 : State} {t : State} (h : execCtrForce p1 p2 = .next t) : p2.chip.KeepsShape t.chip :=
  State.act_shape h (fun _ c1 hc1 => Chip.ctrWrite_shape hc1)

theorem execCtrOv3Open_shape {p1 : State} {t : State} (h : execCtrOv3Open p1 = .next t) : p1.chip.KeepsShape t.chip := by
  refine State.act_shape h ?_
  intro z c1 hc1
  refine .ite ?_ hc1
  extract_lets +onlyGivenNames x2
  have hx2 : z.KeepsShape x2 := Chip.ctrDropOut_shape (Chip.ctrDropOut_shape hc1)
  clear_value x2
  extract_lets +onlyGivenNames x3
  extract_lets +onlyGivenNames x4
  have hx4 : z.KeepsShape x4 := (hx2.step rfl)
  clear_value x4
  exact Chip.note_shape (Chip.put_shape (Chip.put_shape hx4))

theorem execCycleStart_shape {p1 : Fin 3} {p2 : Fin 3} {p3 : State} {t : State} (h : execCycleStart p1 p2 p3 = .next t) : p3.chip.KeepsShape t.chip :=
  State.act_shape h (fun _ c1 hc1 => .ite (Chip.cycleStart_shape hc1) hc1)

theorem execCyclicFrameRx_shape {p1 : Bool} {p2 : CyclicFrame} {p3 : Bool} {p4 : State} {t : State} (h : execCyclicFrameRx p1 p2 p3 p4 = .next t) : p4.chip.KeepsShape t.chip :=
  State.act_shape h (fun _ c1 hc1 => Chip.cyclicRx_shape hc1)

theorem execDeadTimeEnd_shape {p1 : Fin 16} {p2 : DeadTime} {p3 : State} {t : State} (h : execDeadTimeEnd p1 p2 p3 = .next t) : p3.chip.KeepsShape t.chip := by
  refine State.act_shape h ?_
  intro z c1 hc1
  refine Chip.checkSlice_shape (Chip.outputs_shape ?_)
  split
  · exact .ite (Chip.risesH_shape hc1) hc1
  · exact .ite (Chip.risesL_shape hc1) hc1
  all_goals exact .ite (Chip.modSlice_shape (Chip.accrue_shape hc1)) hc1

theorem execDebugReset_shape {p1 : DebugTarget} {p2 : State} {t : State} (h : execDebugReset p1 p2 = .next t) : p2.chip.KeepsShape t.chip := by
  refine State.act_shape h ?_
  intro z c1 hc1
  refine .ite hc1 ?_
  split
  · exact Chip.rgnAsked_shape hc1
  · exact Chip.rgnAsked_shape hc1
  · exact Chip.tryRelease_shape (Chip.dieReset_shape hc1)

theorem execDecelTimeout_shape {p1 : Fin 4} {p2 : State} {t : State} (h : execDecelTimeout p1 p2 = .next t) : p2.chip.KeepsShape t.chip :=
  State.act_shape h (fun _ c1 hc1 => .ite (Chip.faultCl_shape hc1) hc1)

theorem execDelayCal_shape {p1 : Fin 65536} {p2 : Bool} {p3 : State} {t : State} (h : execDelayCal p1 p2 p3 = .next t) : p3.chip.KeepsShape t.chip := by
  refine State.act_shape h ?_
  intro z c1 hc1
  refine .ite hc1 ?_
  refine .ite ?_ ?_
  · extract_lets +onlyGivenNames x2
    have hx2 : z.KeepsShape x2 := Chip.sets_shape (Chip.count_shape hc1)
    clear_value x2
    exact .each hx2 (fun a3 t4 ht4 => .ite (Chip.modSlice_shape ht4) ht4)
  · extract_lets +onlyGivenNames x5
    have hx5 : z.KeepsShape x5 := Chip.bump_shape hc1
    clear_value x5
    exact .ite (Chip.note_shape (Chip.sets_shape hx5)) hx5

theorem execDesatBlankingEnd_shape {p1 : Fin 12} {p2 : State} {t : State} (h : execDesatBlankingEnd p1 p2 = .next t) : p2.chip.KeepsShape t.chip := by
  refine State.act_shape h ?_
  intro z c1 hc1
  extract_lets +onlyGivenNames x2
  exact .ite (Chip.modIsl_shape hc1) hc1

theorem execDesat_shape {p1 : Fin 12} {p2 : Fin 65536} {p3 : State} {t : State} (h : execDesat p1 p2 p3 = .next t) : p3.chip.KeepsShape t.chip := by
  refine State.act_shape h ?_
  intro z c1 hc1
  extract_lets +onlyGivenNames x2
  refine .ite ?_ hc1
  extract_lets +onlyGivenNames x3
  have hx3 : z.KeepsShape x3 := Chip.islDetect_shape (Chip.islTo_shape (Chip.faultOff_shape hc1))
  clear_value x3
  exact Chip.modIsl_shape hx3

theorem execDescriptorComplete_shape {p1 : Fin 8} {p2 : State} {t : State} (h : execDescriptorComplete p1 p2 = .next t) : p2.chip.KeepsShape t.chip :=
  State.act_shape h (fun _ c1 hc1 => Chip.descComplete_shape hc1)

theorem execDescriptorFetch_shape {p1 : State} {t : State} (h : execDescriptorFetch p1 = .next t) : p1.chip.KeepsShape t.chip :=
  State.act_shape h (fun _ c1 hc1 => Chip.fetchEntry_shape hc1)

theorem execDieSensorSample_shape {p1 : List Word} {p2 : State} {t : State} (h : execDieSensorSample p1 p2 = .next t) : p2.chip.KeepsShape t.chip := by
  refine State.actIf_shape h ?_
  intro z c1 hc1
  refine .ite hc1 ?_
  extract_lets +onlyGivenNames x2
  have hx2 : z.KeepsShape x2 := Chip.modChm_shape hc1
  clear_value x2
  extract_lets +onlyGivenNames x3
  extract_lets +onlyGivenNames x4
  extract_lets +onlyGivenNames x5
  have hx5 : z.KeepsShape x5 := .each (Chip.modChm_shape hx2) (fun a6 t7 ht7 => Chip.set_shape ht7)
  clear_value x5
  extract_lets +onlyGivenNames x8
  have hx8 : z.KeepsShape x8 := .each hx5 (fun a9 t10 ht10 => .ite (Chip.record_shape (Chip.put_shape (Chip.setBitOf_shape ht10))) ht10)
  clear_value x8
  extract_lets +onlyGivenNames x11
  extract_lets +onlyGivenNames x12
  have hx12 : z.KeepsShape x12 := Chip.set_shape hx8
  clear_value x12
  extract_lets +onlyGivenNames x13
  have hx13 : z.KeepsShape x13 := .each hx12 (fun a14 t15 ht15 => .ite (Chip.record_shape (Chip.put_shape (Chip.modChm_shape ht15))) ht15)
  clear_value x13
  extract_lets +onlyGivenNames x16
  have hx16 : z.KeepsShape x16 := Chip.showEstimates_shape hx13
  clear_value x16
  split <;> exact Chip.sets_shape hx16

theorem execDisFail_shape {p1 : State} {t : State} (h : execDisFail p1 = .next t) : p1.chip.KeepsShape t.chip :=
  State.act_shape h (fun _ c1 hc1 => .ite (Chip.faultEvery_shape (Chip.put_shape (Chip.disEnd_shape hc1))) hc1)

theorem execDisHalfTime_shape {p1 : State} {t : State} (h : execDisHalfTime p1 = .next t) : p1.chip.KeepsShape t.chip :=
  State.act_shape h (fun _ c1 hc1 => .ite (Chip.disResistor_shape (Chip.request_shape hc1)) hc1)

theorem execDischargeAbort_shape {p1 : State} {t : State} (h : execDischargeAbort p1 = .next t) : p1.chip.KeepsShape t.chip :=
  State.act_shape h (fun _ c1 hc1 => Chip.disAbort_shape hc1)

theorem execDischargeRequest_shape {p1 : Fin 4} {p2 : State} {t : State} (h : execDischargeRequest p1 p2 = .next t) : p2.chip.KeepsShape t.chip :=
  State.act_shape h (fun _ c1 hc1 => Chip.rowWrite_shape hc1 (fun v2 hv2 => Chip.request_shape hv2))

theorem execDischargeStart_shape {p1 : State} {t : State} (h : execDischargeStart p1 = .next t) : p1.chip.KeepsShape t.chip :=
  State.act_shape h (fun _ c1 hc1 => Chip.disStartNow_shape hc1)

theorem execDuplexCopy_shape {p1 : Fin 4} {p2 : State} {t : State} (h : execDuplexCopy p1 p2 = .next t) : p2.chip.KeepsShape t.chip :=
  State.act_shape h (fun _ c1 hc1 => .ite (Chip.modCl_shape (Chip.copyEngine_shape hc1)) hc1)

theorem execDuplexRequest_shape {p1 : Fin 4} {p2 : State} {t : State} (h : execDuplexRequest p1 p2 = .next t) : p2.chip.KeepsShape t.chip :=
  State.act_shape h (fun _ c1 hc1 => Chip.rowWrite_shape hc1 (fun v2 hv2 => Chip.request_shape hv2))

theorem execEccInject_shape {p1 : Word} {p2 : State} {t : State} (h : execEccInject p1 p2 = .next t) : p2.chip.KeepsShape t.chip :=
  State.act_shape h (fun _ c1 hc1 => Chip.injWrite_shape hc1)

theorem execEdgeCommand_shape {p1 : Fin 12} {p2 : Bool} {p3 : Bool} {p4 : State} {t : State} (h : execEdgeCommand p1 p2 p3 p4 = .next t) : p4.chip.KeepsShape t.chip := by
  refine State.act_shape h ?_
  intro z c1 hc1
  extract_lets +onlyGivenNames x2
  refine .ite hc1 ?_
  extract_lets +onlyGivenNames x3
  have hx3 : z.KeepsShape x3 := .ite (Chip.crcError_shape hc1) hc1
  clear_value x3
  extract_lets +onlyGivenNames x4
  clear_value x4
  extract_lets +onlyGivenNames x5
  have hx5 : z.KeepsShape x5 := .ite (.ite (Chip.commandOn_shape hx3) hx3) (Chip.commandOff_shape hx3)
  clear_value x5
  exact .ite (Chip.modIsl_shape hx5) hx5

theorem execEnter8d_shape {p1 : Byte} {p2 : State} {t : State} (h : execEnter8d p1 p2 = .next t) : p2.chip.KeepsShape t.chip := by
  refine State.act_shape h ?_
  intro z c1 hc1
  refine .ite (Chip.portProto_shape hc1) ?_
  extract_lets +onlyGivenNames x2
  clear_value x2
  exact Chip.put_shape (Chip.modHw_shape hc1)

theorem execErase_shape {p1 : Fin 8} {p2 : Bool} {p3 : State} {t : State} (h : execErase p1 p2 p3 = .next t) : p3.chip.KeepsShape t.chip :=
  State.act_shape h (fun _ c1 hc1 => Chip.eraseItem_shape hc1)

theorem execFabStale_shape {p1 : Fin 2} {p2 : State} {t : State} (h : execFabStale p1 p2 = .next t) : p2.chip.KeepsShape t.chip :=
  State.act_shape h (fun _ c1 hc1 => Chip.sourceTimeout_shape hc1)

theorem execFabStrobe_shape {p1 : Fin 2} {p2 : Fin 65536} {p3 : State} {t : State} (h : execFabStrobe p1 p2 p3 = .next t) : p3.chip.KeepsShape t.chip := by
  refine State.act_shape h ?_
  intro z c1 hc1
  refine .ite hc1 ?_
  extract_lets +onlyGivenNames x2
  exact Chip.sensorAngle_shape (Chip.sets_shape hc1)

theorem execFenceInstruction_shape {p1 : Fin 4} {p2 : FenceSet} {p3 : State} {t : State} (h : execFenceInstruction p1 p2 p3 = .next t) : p3.chip.KeepsShape t.chip :=
  State.act_shape h (fun _ c1 hc1 => Chip.coreFence_shape hc1)

theorem execFenceI_shape {p1 : Fin 4} {p2 : State} {t : State} (h : execFenceI p1 p2 = .next t) : p2.chip.KeepsShape t.chip :=
  State.act_shape h (fun _ c1 hc1 => Chip.fenceInstr_shape hc1)

theorem execFence_shape {p1 : State} {t : State} (h : execFence p1 = .next t) : p1.chip.KeepsShape t.chip :=
  State.act_shape h (fun _ c1 hc1 => .ite (Chip.hostFence_shape hc1) (Chip.portProto_shape hc1))

theorem execFetch_shape {p1 : Fin 8} {p2 : Fin 64} {p3 : Fin 3} {p4 : State} {t : State} (h : execFetch p1 p2 p3 p4 = .next t) : p4.chip.KeepsShape t.chip :=
  State.act_shape h (fun _ c1 hc1 => Chip.fetchItem_shape hc1)

theorem execFlagRelease_shape {p1 : Requester} {p2 : Fin 1024} {p3 : Word} {p4 : State} {t : State} (h : execFlagRelease p1 p2 p3 p4 = .next t) : p4.chip.KeepsShape t.chip :=
  State.act_shape h (fun _ c1 hc1 => .ite (Chip.flagWrite_shape (Chip.drainAll_shape hc1)) hc1)

theorem execFloorWrite_shape {p1 : Fin 16} {p2 : Word} {p3 : State} {t : State} (h : execFloorWrite p1 p2 p3 = .next t) : p3.chip.KeepsShape t.chip :=
  State.act_shape h (fun _ c1 hc1 => Chip.rowWrite_shape hc1 (fun v2 hv2 => Chip.floorSet_shape hv2))

theorem execFltNAssert_shape {p1 : State} {t : State} (h : execFltNAssert p1 = .next t) : p1.chip.KeepsShape t.chip := by
  refine State.actRaw_shape h ?_
  intro z c1 hc1
  extract_lets +onlyGivenNames x2
  extract_lets +onlyGivenNames x3
  have hx3 : z.KeepsShape x3 := (hc1.step rfl)
  clear_value x3
  exact .ite hx3 (Chip.fltDemand_shape hx3)

theorem execFltNRelease_shape {p1 : State} {t : State} (h : execFltNRelease p1 = .next t) : p1.chip.KeepsShape t.chip := by
  refine State.actRaw_shape h ?_
  intro z c1 hc1
  extract_lets +onlyGivenNames x2
  extract_lets +onlyGivenNames x3
  have hx3 : z.KeepsShape x3 := (hc1.step (by simp +zetaDelta only [Chip.lens]))
  clear_value x3
  refine .ite ?_ hx3
  extract_lets +onlyGivenNames x4
  have hx4 : z.KeepsShape x4 := Chip.sets_shape hx3
  clear_value x4
  exact Chip.refreshHolds_shape (hx4.step (by simp +zetaDelta only [Chip.lens]))

theorem execFollowErr_shape {p1 : Fin 4} {p2 : State} {t : State} (h : execFollowErr p1 p2 = .next t) : p2.chip.KeepsShape t.chip := by
  refine State.act_shape h ?_
  intro z c1 hc1
  extract_lets +onlyGivenNames x2
  clear_value x2
  extract_lets +onlyGivenNames x3
  clear_value x3
  exact .ite (Chip.faultCl_shape (Chip.put_shape (Chip.feZero_shape hc1))) hc1

theorem execForceWrite_shape {p1 : Fin 16} {p2 : Word} {p3 : State} {t : State} (h : execForceWrite p1 p2 p3 = .next t) : p3.chip.KeepsShape t.chip :=
  State.act_shape h (fun _ c1 hc1 => Chip.rowWrite_shape hc1 (fun v2 hv2 => Chip.genericWrite_shape hv2))

theorem execFrameReceive_shape {p1 : Fin 4} {p2 : CanFrame} {p3 : Fin 1048576} {p4 : State} {t : State} (h : execFrameReceive p1 p2 p3 p4 = .next t) : p4.chip.KeepsShape t.chip :=
  State.actIf_shape h (fun _ c1 hc1 => Chip.canRx_shape hc1)

theorem execFullSelftestEnd_shape {p1 : Fin 2} {p2 : SlotOutcome} {p3 : TestOutcome} {p4 : State} {t : State} (h : execFullSelftestEnd p1 p2 p3 p4 = .next t) : p4.chip.KeepsShape t.chip :=
  State.act_shape h (fun _ c1 hc1 => .ite (Chip.fullEnd_shape hc1) hc1)

theorem execFullSelftest_shape {p1 : Fin 2} {p2 : State} {t : State} (h : execFullSelftest p1 p2 = .next t) : p2.chip.KeepsShape t.chip :=
  State.act_shape h (fun _ c1 hc1 => Chip.fullStart_shape hc1)

theorem execFuseRepairEnd_shape {p1 : List Bool} {p2 : State} {t : State} (h : execFuseRepairEnd p1 p2 = .next t) : p2.chip.KeepsShape t.chip := by
  refine State.act_shape h ?_
  intro z c1 hc1
  refine .ite hc1 ?_
  extract_lets +onlyGivenNames x2
  extract_lets +onlyGivenNames x3
  clear_value x3
  extract_lets +onlyGivenNames x4
  have hx4 : z.KeepsShape x4 := Chip.modCfg_shape hc1
  clear_value x4
  extract_lets +onlyGivenNames x5
  have hx5 : z.KeepsShape x5 := Chip.repairsSubmit_shape (Chip.modFuses_shape hx4)
  clear_value x5
  exact Chip.showSt_shape (Chip.sets_shape hx5)

theorem execFuseRepair_shape {p1 : State} {t : State} (h : execFuseRepair p1 = .next t) : p1.chip.KeepsShape t.chip :=
  State.act_shape h (fun _ c1 hc1 => Chip.repairStart_shape hc1)

theorem execGateStateReport_shape {p1 : ChanFrame} {p2 : Bool} {p3 : State} {t : State} (h : execGateStateReport p1 p2 p3 = .next t) : p3.chip.KeepsShape t.chip := by
  refine State.act_shape h ?_
  intro z c1 hc1
  extract_lets +onlyGivenNames x2
  refine .ite hc1 ?_
  refine .ite (Chip.crcError_shape hc1) ?_
  extract_lets +onlyGivenNames x3
  have hx3 : z.KeepsShape x3 := .ite (Chip.modIsl_shape hc1) hc1
  clear_value x3
  extract_lets +onlyGivenNames x4
  have hx4 : z.KeepsShape x4 := Chip.put_shape hx3
  clear_value x4
  exact .ite (Chip.abortLeak_shape hx4) hx4

theorem execGateTmo_shape {p1 : Fin 12} {p2 : State} {t : State} (h : execGateTmo p1 p2 = .next t) : p2.chip.KeepsShape t.chip := by
  refine State.act_shape h ?_
  intro z c1 hc1
  extract_lets +onlyGivenNames x2
  refine .ite ?_ hc1
  extract_lets +onlyGivenNames x3
  clear_value x3
  extract_lets +onlyGivenNames x4
  have hx4 : z.KeepsShape x4 := Chip.islDetect_shape (Chip.islTo_shape (Chip.faultOff_shape hc1))
  clear_value x4
  exact Chip.modIsl_shape hx4

theorem execGpioClr_shape {p1 : Word} {p2 : State} {t : State} (h : execGpioClr p1 p2 = .next t) : p2.chip.KeepsShape t.chip :=
  State.act_shape h (fun _ c1 hc1 => Chip.gpioWrite_shape hc1)

theorem execGpioEdge_shape {p1 : Fin 32} {p2 : Bool} {p3 : State} {t : State} (h : execGpioEdge p1 p2 p3 = .next t) : p3.chip.KeepsShape t.chip := by
  refine State.actRaw_shape h ?_
  intro z c1 hc1
  extract_lets +onlyGivenNames x2
  clear_value x2
  refine .ite hc1 ?_
  extract_lets +onlyGivenNames x3
  have hx3 : z.KeepsShape x3 := Chip.modCfg_shape hc1
  clear_value x3
  extract_lets +onlyGivenNames x4
  clear_value x4
  exact .ite (Chip.setBitOf_shape hx3) hx3

theorem execGpioSet_shape {p1 : Word} {p2 : State} {t : State} (h : execGpioSet p1 p2 = .next t) : p2.chip.KeepsShape t.chip :=
  State.act_shape h (fun _ c1 hc1 => Chip.gpioWrite_shape hc1)

theorem execHallChange_shape {p1 : Fin 2} {p2 : Fin 8} {p3 : State} {t : State} (h : execHallChange p1 p2 p3 = .next t) : p3.chip.KeepsShape t.chip := by
  refine State.act_shape h ?_
  intro z c1 hc1
  refine .ite hc1 ?_
  extract_lets +onlyGivenNames x2
  have hx2 : z.KeepsShape x2 := Chip.posEvent_shape hc1 (fun v3 hv3 => Chip.hallDeliver_shape hv3)
  clear_value x2
  split
  · exact hx2
  · exact .ite hx2 (.ite (.ite (Chip.bcmStart_shape hx2) hx2) (Chip.faultCl_shape (Chip.put_shape hx2)))

theorem execHaltRequest_shape {p1 : Fin 4} {p2 : State} {t : State} (h : execHaltRequest p1 p2 = .next t) : p2.chip.KeepsShape t.chip :=
  State.act_shape h (fun _ c1 hc1 => Chip.rowWrite_shape hc1 (fun v2 hv2 => Chip.request_shape hv2))

theorem execHandshakeStepEnd_shape {p1 : Fin 12} {p2 : Bool} {p3 : Fin 65536} {p4 : State} {t : State} (h : execHandshakeStepEnd p1 p2 p3 p4 = .next t) : p4.chip.KeepsShape t.chip := by
  refine State.act_shape h ?_
  intro z c1 hc1
  extract_lets +onlyGivenNames x2
  refine .ite hc1 ?_
  refine .ite (Chip.handshakeFail_shape hc1) ?_
  extract_lets +onlyGivenNames x3
  clear_value x3
  extract_lets +onlyGivenNames x4
  have hx4 : z.KeepsShape x4 := Chip.modIsl_shape hc1
  clear_value x4
  exact .ite (Chip.put_shape hx4) (.ite (Chip.mirrorsIn_shape hx4) (.ite (Chip.stepFour_shape hx4) (.ite hx4 (Chip.handshakeDone_shape hx4))))

theorem execHeldWriteStart_shape {p1 : Bool} {p2 : State} {t : State} (h : execHeldWriteStart p1 p2 = .next t) : p2.chip.KeepsShape t.chip := by
  refine State.act_shape h ?_
  intro z c1 hc1
  split
  · exact hc1
  · rename_i y4 q5
    refine .ite hc1 ?_
    extract_lets +onlyGivenNames x6
    exact Chip.writeStarted_shape (Chip.showWrites_shape (Chip.modChm_shape hc1))

theorem execHoldClr_shape {p1 : Word} {p2 : State} {t : State} (h : execHoldClr p1 p2 = .next t) : p2.chip.KeepsShape t.chip := by
  refine State.act_shape h ?_
  intro z c1 hc1
  extract_lets +onlyGivenNames x2
  clear_value x2
  exact Chip.set_shape (Chip.keepHold_shape hc1)

theorem execHoldSet_shape {p1 : Word} {p2 : State} {t : State} (h : execHoldSet p1 p2 = .next t) : p2.chip.KeepsShape t.chip :=
  State.act_shape h (fun _ c1 hc1 => Chip.set_shape (Chip.keepHold_shape hc1))

theorem execHostSleepAssert_shape {p1 : State} {t : State} (h : execHostSleepAssert p1 = .next t) : p1.chip.KeepsShape t.chip := by
  refine State.actRaw_shape h ?_
  intro z c1 hc1
  extract_lets +onlyGivenNames x2
  have hx2 : z.KeepsShape x2 := Chip.modHw_shape hc1
  clear_value x2
  refine .ite hx2 ?_
  extract_lets +onlyGivenNames x3
  extract_lets +onlyGivenNames x4
  clear_value x4
  extract_lets +onlyGivenNames x5
  clear_value x5
  extract_lets +onlyGivenNames x6
  have hx6 : z.KeepsShape x6 := Chip.sets_shape hx2
  clear_value x6
  exact .each hx6 (fun a7 t8 ht8 => Chip.cqSettle_shape ht8)

theorem execHostSleepRelease_shape {p1 : State} {t : State} (h : execHostSleepRelease p1 = .next t) : p1.chip.KeepsShape t.chip := by
  refine State.actRaw_shape h ?_
  intro z c1 hc1
  extract_lets +onlyGivenNames x2
  have hx2 : z.KeepsShape x2 := Chip.modHw_shape hc1
  clear_value x2
  exact .ite hx2 (Chip.hwIrq_shape (Chip.sets_shape hx2))

theorem execHpCsNRise_shape {p1 : CsRise} {p2 : State} {t : State} (h : execHpCsNRise p1 p2 = .next t) : p2.chip.KeepsShape t.chip := by
  refine State.actIf_shape h ?_
  intro z c1 hc1
  split
  · exact Chip.portProto_shape hc1
  · exact Chip.portProto_shape hc1
  · exact Chip.hostWrite_shape hc1
  · exact .ite (Chip.portProto_shape (.ite hc1 (Chip.hostWrite_shape hc1))) (Chip.portProto_shape hc1)
  · exact hc1

theorem execHpTake_shape {p1 : Fin 4} {p2 : State} {t : State} (h : execHpTake p1 p2 = .next t) : p2.chip.KeepsShape t.chip :=
  State.act_shape h (fun _ c1 hc1 => Chip.rowWrite_shape hc1 (fun v2 hv2 => Chip.hpTake_shape hv2))

theorem execHwCas_shape {p1 : Requester} {p2 : Word} {p3 : State} {t : State} (h : execHwCas p1 p2 p3 = .next t) : p3.chip.KeepsShape t.chip :=
  State.act_shape h (fun _ c1 hc1 => .ite (Chip.casWrite_shape (Chip.drainUnit_shape hc1)) hc1)

theorem execHwFence_shape {p1 : State} {t : State} (h : execHwFence p1 = .next t) : p1.chip.KeepsShape t.chip :=
  State.act_shape h (fun _ c1 hc1 => Chip.hostFence_shape hc1)

theorem execHwIdleWrite_shape {p1 : Word} {p2 : State} {t : State} (h : execHwIdleWrite p1 p2 = .next t) : p2.chip.KeepsShape t.chip :=
  State.act_shape h (fun _ c1 hc1 => Chip.idleWrite_shape hc1)

theorem execIdRead_shape {p1 : Fin 8} {p2 : Option (Fin 1280)} {p3 : State} {t : State} (h : execIdRead p1 p2 p3 = .next t) : p3.chip.KeepsShape t.chip :=
  State.act_shape h (fun _ c1 hc1 => Chip.idItem_shape hc1)

theorem execIdRecordLoad_shape {p1 : Fin 6} {p2 : Option (List Byte)} {p3 : State} {t : State} (h : execIdRecordLoad p1 p2 p3 = .next t) : p3.chip.KeepsShape t.chip := by
  refine State.actIf_shape h ?_
  intro z c1 hc1
  refine .ite hc1 ?_
  extract_lets +onlyGivenNames x2
  have hx2 : z.KeepsShape x2 := Chip.modChm_shape hc1
  clear_value x2
  split
  · exact Chip.recBad_shape hx2
  · rename_i y5 q6
    extract_lets +onlyGivenNames x7
    have hx7 : z.KeepsShape x7 := Chip.setBytes_shape hx2
    clear_value x7
    extract_lets +onlyGivenNames x8
    clear_value x8
    exact .ite (Chip.showNtc_shape (Chip.setBitOf_shape (Chip.put_shape hx7))) (Chip.recBad_shape hx7)

theorem execIndex_shape {p1 : Fin 2} {p2 : Bool} {p3 : State} {t : State} (h : execIndex p1 p2 p3 = .next t) : p3.chip.KeepsShape t.chip :=
  State.act_shape h (fun _ c1 hc1 => .ite (Chip.posEvent_shape hc1 (fun v2 hv2 => Chip.posIndex_shape hv2)) (Chip.modPos_shape hc1))

theorem execInstructionFetch_shape {p1 : Fin 4} {p2 : Word} {p3 : Fin 3} {p4 : State} {t : State} (h : execInstructionFetch p1 p2 p3 p4 = .next t) : p4.chip.KeepsShape t.chip :=
  State.act_shape h (fun _ c1 hc1 => Chip.fetchInstr_shape hc1)

theorem execInterlockRelease_shape {p1 : Fin 12} {p2 : State} {t : State} (h : execInterlockRelease p1 p2 = .next t) : p2.chip.KeepsShape t.chip :=
  State.act_shape h (fun _ c1 hc1 => .ite (Chip.onArrives_shape (Chip.unhold_shape hc1)) hc1)

theorem execIrqPendClear_shape {p1 : Fin 4} {p2 : Word} {p3 : State} {t : State} (h : execIrqPendClear p1 p2 p3 = .next t) : p3.chip.KeepsShape t.chip :=
  State.act_shape h (fun _ c1 hc1 => Chip.pendClear_shape hc1)

theorem execIrqRouteWrite_shape {p1 : Fin 32} {p2 : Word} {p3 : State} {t : State} (h : execIrqRouteWrite p1 p2 p3 = .next t) : p3.chip.KeepsShape t.chip :=
  State.act_shape h (fun _ c1 hc1 => Chip.routeWrite_shape hc1)

theorem execIrqSumRead_shape {p1 : Fin 4} {p2 : State} {t : State} (h : execIrqSumRead p1 p2 = .next t) : p2.chip.KeepsShape t.chip :=
  State.act_shape h (fun _ c1 hc1 => .ite (Chip.sumRead_shape hc1) hc1)

theorem execIslandAutoClear_shape {p1 : Fin 12} {p2 : Fin 65536} {p3 : State} {t : State} (h : execIslandAutoClear p1 p2 p3 = .next t) : p3.chip.KeepsShape t.chip := by
  refine State.act_shape h ?_
  intro z c1 hc1
  split
  · exact hc1
  · rename_i y4 q5
    refine .ite hc1 ?_
    extract_lets +onlyGivenNames x6
    clear_value x6
    extract_lets +onlyGivenNames x7
    clear_value x7
    extract_lets +onlyGivenNames x8
    clear_value x8
    extract_lets +onlyGivenNames x9
    clear_value x9
    refine .ite ?_ ?_
    · extract_lets +onlyGivenNames x10
      have hx10 : z.KeepsShape x10 := .ite (Chip.set_shape hc1) (.ite hc1 (Chip.set_shape hc1))
      clear_value x10
      extract_lets +onlyGivenNames x11
      have hx11 : z.KeepsShape x11 := Chip.modIsl_shape hx10
      clear_value x11
      extract_lets +onlyGivenNames x12
      have hx12 : z.KeepsShape x12 := Chip.sets_shape hx11
      clear_value x12
      extract_lets +onlyGivenNames x13
      have hx13 : z.KeepsShape x13 := Chip.clearIslandFault_shape hx12
      clear_value x13
      split
      · exact Chip.tryLeaveSafe_shape hx13
      · exact hx13
    · extract_lets +onlyGivenNames x18
      have hx18 : z.KeepsShape x18 := Chip.modIsl_shape hc1
      clear_value x18
      extract_lets +onlyGivenNames x19
      have hx19 : z.KeepsShape x19 := Chip.showFaults_shape hx18
      clear_value x19
      split
      · exact Chip.stand_shape hx19
      · exact hx19

theorem execIslandChannelLoss_shape {p1 : Fin 12} {p2 : State} {t : State} (h : execIslandChannelLoss p1 p2 = .next t) : p2.chip.KeepsShape t.chip := by
  refine State.act_shape h ?_
  intro z c1 hc1
  extract_lets +onlyGivenNames x2
  clear_value x2
  exact .ite (Chip.handshakeStop_shape (Chip.islTo_shape (Chip.gateAway_shape hc1))) hc1

theorem execIslandClear_shape {p1 : Fin 12} {p2 : State} {t : State} (h : execIslandClear p1 p2 = .next t) : p2.chip.KeepsShape t.chip := by
  refine State.act_shape h ?_
  intro z c1 hc1
  refine Chip.rowWrite_shape hc1 ?_
  intro v2 hv2
  extract_lets +onlyGivenNames x3
  have hx3 : z.KeepsShape x3 := Chip.clearIsland_shape hv2
  clear_value x3
  split
  · exact Chip.tryLeaveSafe_shape hx3
  · exact hx3

theorem execIslandFaultReport_shape {p1 : Fin 12} {p2 : State} {t : State} (h : execIslandFaultReport p1 p2 = .next t) : p2.chip.KeepsShape t.chip := by
  refine State.act_shape h ?_
  intro z c1 hc1
  split
  · exact hc1
  · rename_i y4 y5 y6 q7
    extract_lets +onlyGivenNames x8
    have hx8 : z.KeepsShape x8 := Chip.modIsl_shape hc1
    clear_value x8
    exact Chip.islFall_shape (Chip.set_shape hx8)

theorem execIslandHandshakeOpen_shape {p1 : Fin 12} {p2 : State} {t : State} (h : execIslandHandshakeOpen p1 p2 = .next t) : p2.chip.KeepsShape t.chip := by
  refine State.act_shape h ?_
  intro z c1 hc1
  extract_lets +onlyGivenNames x2
  exact .ite (Chip.modIsl_shape hc1) hc1

theorem execIslandSupplyRelease_shape {p1 : Fin 12} {p2 : State} {t : State} (h : execIslandSupplyRelease p1 p2 = .next t) : p2.chip.KeepsShape t.chip :=
  State.actRaw_shape h (fun _ c1 hc1 => .ite (Chip.modIsl_shape hc1) (.ite (Chip.showSupply_shape (Chip.islShow_shape (Chip.modIsl_shape hc1))) hc1))

theorem execIslandUnitReset_shape {p1 : Fin 12} {p2 : State} {t : State} (h : execIslandUnitReset p1 p2 = .next t) : p2.chip.KeepsShape t.chip :=
  State.act_shape h (fun _ c1 hc1 => Chip.unitAsk_shape hc1)

theorem execIsoEnRelease_shape {p1 : Fin 2} {p2 : State} {t : State} (h : execIsoEnRelease p1 p2 = .next t) : p2.chip.KeepsShape t.chip := by
  refine State.act_shape h ?_
  intro z c1 hc1
  extract_lets +onlyGivenNames x2
  extract_lets +onlyGivenNames x3
  exact .ite (Chip.putIso_shape hc1) hc1

theorem execKeAbnormal_shape {p1 : Fin 4} {p2 : State} {t : State} (h : execKeAbnormal p1 p2 = .next t) : p2.chip.KeepsShape t.chip := by
  refine State.act_shape h ?_
  intro z c1 hc1
  extract_lets +onlyGivenNames x2
  clear_value x2
  exact .ite (Chip.faultCl_shape (Chip.put_shape hc1)) hc1

theorem execLarderWrite_shape {p1 : Fin 4} {p2 : Fin 2} {p3 : Fin 8192} {p4 : Word} {p5 : State} {t : State} (h : execLarderWrite p1 p2 p3 p4 p5 = .next t) : p5.chip.KeepsShape t.chip := by
  refine State.act_shape h ?_
  intro z c1 hc1
  extract_lets +onlyGivenNames x2
  clear_value x2
  exact Chip.ldrStore_shape (Chip.reachGate_shape hc1)

theorem execLateBringupDone_shape {p1 : Fin 2} {p2 : SlotOutcome} {p3 : TestOutcome} {p4 : State} {t : State} (h : execLateBringupDone p1 p2 p3 p4 = .next t) : p4.chip.KeepsShape t.chip :=
  State.act_shape h (fun _ c1 hc1 => .ite (Chip.lateEnd_shape hc1) hc1)

theorem execLateBringup_shape {p1 : Fin 2} {p2 : State} {t : State} (h : execLateBringup p1 p2 = .next t) : p2.chip.KeepsShape t.chip :=
  State.act_shape h (fun _ c1 hc1 => Chip.upWrite_shape hc1)

theorem execLatencyRemeasure_shape {p1 : Fin 12} {p2 : Fin 65536} {p3 : State} {t : State} (h : execLatencyRemeasure p1 p2 p3 = .next t) : p3.chip.KeepsShape t.chip := by
  refine State.act_shape h ?_
  intro z c1 hc1
  extract_lets +onlyGivenNames x2
  clear_value x2
  refine .ite hc1 ?_
  extract_lets +onlyGivenNames x3
  clear_value x3
  extract_lets +onlyGivenNames x4
  clear_value x4
  extract_lets +onlyGivenNames x5
  clear_value x5
  extract_lets +onlyGivenNames x6
  clear_value x6
  extract_lets +onlyGivenNames x7
  clear_value x7
  extract_lets +onlyGivenNames x8
  extract_lets +onlyGivenNames x9
  have hx9 : z.KeepsShape x9 := Chip.sets_shape hc1
  clear_value x9
  exact .ite (Chip.calDrift_shape hx9) (.ite (Chip.put_shape hx9) hx9)

theorem execLdrCheckEnd_shape {p1 : Fin 4} {p2 : Fin 3} {p3 : State} {t : State} (h : execLdrCheckEnd p1 p2 p3 = .next t) : p3.chip.KeepsShape t.chip := by
  refine State.act_shape h ?_
  intro z c1 hc1
  refine .ite hc1 ?_
  refine .ite (Chip.putSwap_shape hc1) ?_
  extract_lets +onlyGivenNames x2
  have hx2 : z.KeepsShape x2 := Chip.put_shape (Chip.setBitOf_shape (Chip.putSwap_shape hc1))
  clear_value x2
  extract_lets +onlyGivenNames x3
  have hx3 : z.KeepsShape x3 := .ite (Chip.modCl_shape hx2) hx2
  clear_value x3
  exact Chip.noteCl_shape hx3

theorem execLdrSwapRequest_shape {p1 : Fin 4} {p2 : Fin 8} {p3 : State} {t : State} (h : execLdrSwapRequest p1 p2 p3 = .next t) : p3.chip.KeepsShape t.chip :=
  State.act_shape h (fun _ c1 hc1 => Chip.rowWrite_shape hc1 (fun v2 hv2 => .each hv2 (fun a3 t4 ht4 => Chip.swapBySoftware_shape ht4)))

theorem execLdrSwap_shape {p1 : Fin 4} {p2 : Fin 3} {p3 : Bool} {p4 : State} {t : State} (h : execLdrSwap p1 p2 p3 p4 = .next t) : p4.chip.KeepsShape t.chip :=
  State.act_shape h (fun _ c1 hc1 => Chip.swapNow_shape hc1)

theorem execLeakCheckEnd_shape {p1 : Fin 12} {p2 : Word} {p3 : State} {t : State} (h : execLeakCheckEnd p1 p2 p3 = .next t) : p3.chip.KeepsShape t.chip := by
  refine State.act_shape h ?_
  intro z c1 hc1
  refine .ite ?_ hc1
  extract_lets +onlyGivenNames x2
  clear_value x2
  extract_lets +onlyGivenNames x3
  clear_value x3
  extract_lets +onlyGivenNames x4
  clear_value x4
  extract_lets +onlyGivenNames x5
  have hx5 : z.KeepsShape x5 := Chip.sets_shape hc1
  clear_value x5
  refine .ite ?_ ?_
  · extract_lets +onlyGivenNames x6
    have hx6 : z.KeepsShape x6 := Chip.islShow_shape (Chip.set_shape hx5)
    clear_value x6
    exact Chip.islFall_shape (Chip.islDetect_shape hx6)
  · extract_lets +onlyGivenNames x7
    have hx7 : z.KeepsShape x7 := Chip.islShow_shape hx5
    clear_value x7
    exact .ite (Chip.islRecord_shape (Chip.set_shape hx7)) (Chip.set_shape hx7)

theorem execLeakCheck_shape {p1 : Fin 12} {p2 : State} {t : State} (h : execLeakCheck p1 p2 = .next t) : p2.chip.KeepsShape t.chip :=
  State.act_shape h (fun _ c1 hc1 => Chip.rowWrite_shape hc1 (fun v2 hv2 => Chip.leakStart_shape hv2))

theorem execLedgerInterval_shape {p1 : State} {t : State} (h : execLedgerInterval p1 = .next t) : p1.chip.KeepsShape t.chip :=
  State.act_shape h (fun _ c1 hc1 => .ite hc1 (.each (Chip.modChm_shape hc1) (fun a2 t3 ht3 => Chip.ledSubmit_shape ht3)))

theorem execLedgerLoad_shape {p1 : Fin 6} {p2 : State} {t : State} (h : execLedgerLoad p1 p2 = .next t) : p2.chip.KeepsShape t.chip := by
  refine State.act_shape h ?_
  intro z c1 hc1
  refine .ite hc1 ?_
  extract_lets +onlyGivenNames x2
  have hx2 : ∀ w3, z.KeepsShape w3 → z.KeepsShape (x2 w3) := fun w3 hw3 => Chip.setBitOf_shape (Chip.put_shape hw3)
  clear_value x2
  split
  · rename_i y4 q5
    extract_lets +onlyGivenNames x6
    clear_value x6
    extract_lets +onlyGivenNames x7
    have hx7 : z.KeepsShape x7 := Chip.loadSwitch_shape (Chip.loadSwitch_shape hc1)
    clear_value x7
    extract_lets +onlyGivenNames x8
    clear_value x8
    extract_lets +onlyGivenNames x9
    extract_lets +onlyGivenNames x10
    have hx10 : z.KeepsShape x10 := Chip.modLedger_shape hx7
    clear_value x10
    exact Chip.showLife_shape (Chip.set_shape (hx2 _ hx10))
  · extract_lets +onlyGivenNames x13
    clear_value x13
    extract_lets +onlyGivenNames x14
    have hx14 : z.KeepsShape x14 := hx2 _ (Chip.modLedger_shape hc1)
    clear_value x14
    extract_lets +onlyGivenNames x15
    have hx15 : z.KeepsShape x15 := Chip.note_shape hx14
    clear_value x15
    exact .ite (Chip.ledSubmit_shape hx15) hx15

theorem execLedgerWriteEnd_shape {p1 : Fin 6} {p2 : Bool} {p3 : State} {t : State} (h : execLedgerWriteEnd p1 p2 p3 = .next t) : p3.chip.KeepsShape t.chip := by
  refine State.act_shape h ?_
  intro z c1 hc1
  refine .ite hc1 ?_
  refine .ite ?_ (Chip.ledFail_shape hc1)
  extract_lets +onlyGivenNames x2
  clear_value x2
  extract_lets +onlyGivenNames x3
  have hx3 : z.KeepsShape x3 := Chip.setBytes_shape hc1
  clear_value x3
  extract_lets +onlyGivenNames x4
  have hx4 : z.KeepsShape x4 := Chip.modLedger_shape hx3
  clear_value x4
  exact Chip.put_shape (Chip.set_shape (Chip.dropWrite_shape hx4))

theorem execLedgerWriteRequest_shape {p1 : State} {t : State} (h : execLedgerWriteRequest p1 = .next t) : p1.chip.KeepsShape t.chip :=
  State.act_shape h (fun _ c1 hc1 => .each hc1 (fun a2 t3 ht3 => Chip.ledSubmit_shape ht3))

theorem execLegConflict_shape {p1 : Fin 12} {p2 : State} {t : State} (h : execLegConflict p1 p2 = .next t) : p2.chip.KeepsShape t.chip := by
  refine State.act_shape h ?_
  intro z c1 hc1
  refine .ite ?_ hc1
  extract_lets +onlyGivenNames x2
  have hx2 : z.KeepsShape x2 := Chip.modIsl_shape hc1
  clear_value x2
  extract_lets +onlyGivenNames x3
  have hx3 : z.KeepsShape x3 := Chip.sets_shape hx2
  clear_value x3
  exact Chip.islFall_shape (Chip.islHold_shape (Chip.islDetect_shape hx3))

theorem execLinkReady_shape {p1 : Bool} {p2 : State} {t : State} (h : execLinkReady p1 p2 = .next t) : p2.chip.KeepsShape t.chip :=
  State.act_shape h (fun _ c1 hc1 => Chip.linkBack_shape hc1)

theorem execListWrite_shape {p1 : Fin 4} {p2 : Fin 6} {p3 : Word} {p4 : State} {t : State} (h : execListWrite p1 p2 p3 p4 = .next t) : p4.chip.KeepsShape t.chip :=
  State.act_shape h (fun _ c1 hc1 => Chip.rowWrite_shape hc1 (fun v2 hv2 => Chip.listSet_shape hv2))

theorem execLockstepMismatch_shape {p1 : Fin 2} {p2 : Fin 4} {p3 : State} {t : State} (h : execLockstepMismatch p1 p2 p3 = .next t) : p3.chip.KeepsShape t.chip := by
  refine State.act_shape h ?_
  intro z c1 hc1
  refine .ite hc1 ?_
  extract_lets +onlyGivenNames x2
  have hx2 : z.KeepsShape x2 := Chip.put_shape (Chip.bump_shape hc1)
  clear_value x2
  exact Chip.halt_shape hx2

theorem execLogEntryFlashWrite_shape {p1 : State} {t : State} (h : execLogEntryFlashWrite p1 = .next t) : p1.chip.KeepsShape t.chip := by
  refine State.act_shape h ?_
  intro z c1 hc1
  split
  · exact hc1
  · extract_lets +onlyGivenNames x6
    have hx6 : z.KeepsShape x6 := .ite hc1 (Chip.submitWrite_shape hc1)
    clear_value x6
    refine .ite hx6 ?_
    split
    · exact Chip.dropWrite_shape hx6
    · rename_i y9 y10 q11
      extract_lets +onlyGivenNames x12
      clear_value x12
      extract_lets +onlyGivenNames x13
      have hx13 : z.KeepsShape x13 := Chip.eccFresh_shape (Chip.setBytes_shape hx6)
      clear_value x13
      extract_lets +onlyGivenNames x14
      have hx14 : z.KeepsShape x14 := Chip.dropWrite_shape hx13
      clear_value x14
      exact hx14.step (by simp only [Chip.lens])

theorem execLogRead_shape {p1 : Fin 8} {p2 : State} {t : State} (h : execLogRead p1 p2 = .next t) : p2.chip.KeepsShape t.chip :=
  State.act_shape h (fun _ c1 hc1 => Chip.logItem_shape hc1)

theorem execMainFreq_shape {p1 : Word} {p2 : State} {t : State} (h : execMainFreq p1 p2 = .next t) : p2.chip.KeepsShape t.chip :=
  State.act_shape h (fun _ c1 hc1 => Chip.clockHalt_shape (Chip.modPwr_shape (Chip.monitor_shape hc1)))

theorem execMeasurementFrame_shape {p1 : Fin 12} {p2 : Bool} {p3 : Bool} {p4 : Fin 1048576} {p5 : Fin 1048576} {p6 : State} {t : State} (h : execMeasurementFrame p1 p2 p3 p4 p5 p6 = .next t) : p6.chip.KeepsShape t.chip := by
  refine State.act_shape h ?_
  intro z c1 hc1
  extract_lets +onlyGivenNames x2
  refine .ite hc1 ?_
  refine .ite (Chip.crcError_shape hc1) ?_
  refine .ite (Chip.put_shape (Chip.bump_shape hc1)) ?_
  extract_lets +onlyGivenNames x3
  have hx3 : z.KeepsShape x3 := Chip.count_shape hc1
  clear_value x3
  refine .ite ?_ (Chip.plateau_shape (Chip.sets_shape hx3))
  extract_lets +onlyGivenNames x4
  have hx4 : z.KeepsShape x4 := Chip.sets_shape hx3
  clear_value x4
  extract_lets +onlyGivenNames x5
  have hx5 : z.KeepsShape x5 := Chip.tjMeasure_shape hx4
  clear_value x5
  refine Chip.plateau_shape ?_
  split
  · exact Chip.tjOver_shape hx5
  · exact hx5

theorem execMinPulseEnd_shape {p1 : Fin 16} {p2 : Bool} {p3 : State} {t : State} (h : execMinPulseEnd p1 p2 p3 = .next t) : p3.chip.KeepsShape t.chip := by
  refine State.act_shape h ?_
  intro z c1 hc1
  extract_lets +onlyGivenNames x2
  extract_lets +onlyGivenNames x3
  clear_value x3
  refine .ite hc1 ?_
  extract_lets +onlyGivenNames x4
  have hx4 : z.KeepsShape x4 := Chip.fallL_shape (Chip.accrue_shape hc1)
  clear_value x4
  extract_lets +onlyGivenNames x5
  have hx5 : z.KeepsShape x5 := Chip.fallH_shape (Chip.accrue_shape hc1)
  clear_value x5
  extract_lets +onlyGivenNames x6
  have hx6 : z.KeepsShape x6 := .ite (.ite (Chip.refreshEnd_shape hc1) (.ite (.ite (Chip.riseH_shape hx4) hx4) (Chip.modSlice_shape hc1))) (.ite (.ite (Chip.riseL_shape hx5) hx5) (Chip.modSlice_shape hc1))
  clear_value x6
  exact Chip.checkSlice_shape (Chip.outputs_shape (Chip.dropGates_shape hx6))

theorem execMirrorWrite_shape {p1 : Fin 12} {p2 : MirrorStep} {p3 : State} {t : State} (h : execMirrorWrite p1 p2 p3 = .next t) : p3.chip.KeepsShape t.chip := by
  refine State.act_shape h ?_
  intro z c1 hc1
  split
  · exact Chip.rowWrite_shape hc1 (fun v5 hv5 => Chip.mirrorSet_shape hv5)
  · exact Chip.mirrorAck_shape hc1
  · exact .ite hc1 (Chip.crcError_shape hc1)

theorem execModerationTimer_shape {p1 : Fin 4} {p2 : Fin 3} {p3 : State} {t : State} (h : execModerationTimer p1 p2 p3 = .next t) : p3.chip.KeepsShape t.chip := by
  refine State.act_shape h ?_
  intro z c1 hc1
  extract_lets +onlyGivenNames x2
  extract_lets +onlyGivenNames x3
  clear_value x3
  exact .ite (Chip.modGroup_shape hc1) hc1

theorem execMonoscFail_shape {p1 : Word} {p2 : State} {t : State} (h : execMonoscFail p1 p2 = .next t) : p2.chip.KeepsShape t.chip :=
  State.act_shape h (fun _ c1 hc1 => Chip.faultEvery_shape (Chip.monitor_shape hc1))

theorem execMsgAbort_shape {p1 : Fin 4} {p2 : State} {t : State} (h : execMsgAbort p1 p2 = .next t) : p2.chip.KeepsShape t.chip := by
  refine State.act_shape h ?_
  intro z c1 hc1
  extract_lets +onlyGivenNames x2
  clear_value x2
  exact Chip.rowWrite_shape hc1 (fun v3 hv3 => Chip.msgCtl_shape hv3)

theorem execMsgAckTimeout_shape {p1 : Fin 4} {p2 : State} {t : State} (h : execMsgAckTimeout p1 p2 = .next t) : p2.chip.KeepsShape t.chip :=
  State.act_shape h (fun _ c1 hc1 => .ite (Chip.msgTry_shape hc1) hc1)

theorem execMsgDone_shape {p1 : Word} {p2 : State} {t : State} (h : execMsgDone p1 p2 = .next t) : p2.chip.KeepsShape t.chip :=
  State.act_shape h (fun _ c1 hc1 => Chip.msgDone_shape hc1)

theorem execMsgSend_shape {p1 : Fin 4} {p2 : Word} {p3 : State} {t : State} (h : execMsgSend p1 p2 p3 = .next t) : p3.chip.KeepsShape t.chip :=
  State.act_shape h (fun _ c1 hc1 => Chip.rowWrite_shape hc1 (fun v2 hv2 => Chip.msgCtl_shape hv2))

theorem execMsg_shape {p1 : Fin 8} {p2 : State} {t : State} (h : execMsg p1 p2 = .next t) : p2.chip.KeepsShape t.chip :=
  State.act_shape h (fun _ c1 hc1 => Chip.descItem_shape hc1 (fun v2 v3 hv3 => hv3))

theorem execOrphanReturn_shape {p1 : Fin 12} {p2 : State} {t : State} (h : execOrphanReturn p1 p2 = .next t) : p2.chip.KeepsShape t.chip :=
  State.act_shape h (fun _ c1 hc1 => .ite (Chip.showSupply_shape (Chip.islShow_shape (Chip.modIsl_shape hc1))) hc1)

theorem execPcStoRelease_shape {p1 : Fin 4} {p2 : State} {t : State} (h : execPcStoRelease p1 p2 = .next t) : p2.chip.KeepsShape t.chip :=
  State.act_shape h (fun _ c1 hc1 => Chip.pcRelease_shape hc1)

theorem execPcStoSet_shape {p1 : Fin 4} {p2 : State} {t : State} (h : execPcStoSet p1 p2 = .next t) : p2.chip.KeepsShape t.chip :=
  State.act_shape h (fun _ c1 hc1 => Chip.pcSto_shape hc1)

theorem execPeakGraceEnd_shape {p1 : Fin 4} {p2 : State} {t : State} (h : execPeakGraceEnd p1 p2 = .next t) : p2.chip.KeepsShape t.chip :=
  State.act_shape h (fun _ c1 hc1 => .ite (Chip.showLim_shape (.ite (Chip.peakFree_shape hc1) (Chip.peakEnforce_shape hc1))) hc1)

theorem execPeakRampEnd_shape {p1 : Fin 4} {p2 : State} {t : State} (h : execPeakRampEnd p1 p2 = .next t) : p2.chip.KeepsShape t.chip :=
  State.act_shape h (fun _ c1 hc1 => .ite (Chip.showLim_shape (Chip.set_shape hc1)) hc1)

theorem execPhaseEnd_shape {p1 : Fin 12} {p2 : State} {t : State} (h : execPhaseEnd p1 p2 = .next t) : p2.chip.KeepsShape t.chip := by
  refine State.act_shape h ?_
  intro z c1 hc1
  extract_lets +onlyGivenNames x2
  extract_lets +onlyGivenNames x3
  have hx3 : ∀ w4, z.KeepsShape (x3 w4) := fun w4 => Chip.modIsl_shape hc1
  clear_value x3
  split
  · exact hc1
  · exact hc1
  · exact hx3 _
  · exact hx3 _
  · exact hx3 _
  · exact hx3 _
  · exact hx3 _
  · exact hc1
  · extract_lets +onlyGivenNames x23
    have hx23 : z.KeepsShape x23 := Chip.clamp_shape (hx3 _)
    clear_value x23
    exact .ite (Chip.islTo_shape hx23) hx23
  · exact Chip.clamp_shape (hx3 _)

theorem execPllLock_shape {p1 : State} {t : State} (h : execPllLock p1 = .next t) : p1.chip.KeepsShape t.chip :=
  State.act_shape h (fun _ c1 hc1 => Chip.modPwr_shape (Chip.put_shape hc1))

theorem execPllUnlock_shape {p1 : Word} {p2 : State} {t : State} (h : execPllUnlock p1 p2 = .next t) : p2.chip.KeepsShape t.chip := by
  refine State.act_shape h ?_
  intro z c1 hc1
  refine .ite ?_ hc1
  extract_lets +onlyGivenNames x2
  have hx2 : z.KeepsShape x2 := Chip.modPwr_shape (Chip.put_shape (Chip.monitor_shape hc1))
  clear_value x2
  exact Chip.clockHalt_shape hx2

theorem execPorchPoolWrite_shape {p1 : Word} {p2 : State} {t : State} (h : execPorchPoolWrite p1 p2 = .next t) : p2.chip.KeepsShape t.chip :=
  State.act_shape h (fun _ c1 hc1 => Chip.poolWrite_shape hc1)

theorem execPosCfgWrite_shape {p1 : Fin 2} {p2 : Word} {p3 : State} {t : State} (h : execPosCfgWrite p1 p2 p3 = .next t) : p3.chip.KeepsShape t.chip := by
  refine State.act_shape h ?_
  intro z c1 hc1
  extract_lets +onlyGivenNames x2
  clear_value x2
  exact Chip.rowWrite_shape hc1 (fun v3 hv3 => .ite (Chip.posCfgSet_shape hv3) (Chip.refuse_shape hv3))

theorem execPosEvalSelfTimed_shape {p1 : Fin 2} {p2 : State} {t : State} (h : execPosEvalSelfTimed p1 p2 = .next t) : p2.chip.KeepsShape t.chip :=
  State.act_shape h (fun _ c1 hc1 => .ite (Chip.selfEval_shape hc1) hc1)

theorem execPowerOnRelease_shape {p1 : State} {t : State} (h : execPowerOnRelease p1 = .next t) : p1.chip.KeepsShape t.chip := by
  refine State.actRaw_shape h ?_
  intro z c1 hc1
  refine .ite ?_ hc1
  extract_lets +onlyGivenNames x2
  have hx2 : z.KeepsShape x2 := Chip.sets_shape hc1
  clear_value x2
  extract_lets +onlyGivenNames x3
  extract_lets +onlyGivenNames x4
  have hx4 : z.KeepsShape x4 := (hx2.step (by simp +zetaDelta only [Chip.lens]))
  clear_value x4
  exact Chip.tryRelease_shape (Chip.modPwr_shape hx4)

theorem execProfileFrame_shape {p1 : ChanFrame} {p2 : State} {t : State} (h : execProfileFrame p1 p2 = .next t) : p2.chip.KeepsShape t.chip := by
  refine State.act_shape h ?_
  intro z c1 hc1
  extract_lets +onlyGivenNames x2
  refine .ite hc1 ?_
  refine .ite (Chip.modIsl_shape (Chip.crcError_shape hc1)) ?_
  split
  · exact .ite (Chip.modIsl_shape hc1) (Chip.modIsl_shape hc1)
  · exact hc1

theorem execProgram_shape {p1 : Fin 8} {p2 : Bool} {p3 : State} {t : State} (h : execProgram p1 p2 p3 = .next t) : p3.chip.KeepsShape t.chip :=
  State.act_shape h (fun _ c1 hc1 => Chip.programItem_shape hc1)

theorem execPwmStart_shape {p1 : Word} {p2 : State} {t : State} (h : execPwmStart p1 p2 = .next t) : p2.chip.KeepsShape t.chip :=
  State.act_shape h (fun _ c1 hc1 => .each hc1 (fun a2 t3 ht3 => Chip.sliceRun_shape ht3))

theorem execQuadCount_shape {p1 : Fin 2} {p2 : Bool} {p3 : Bool} {p4 : State} {t : State} (h : execQuadCount p1 p2 p3 p4 = .next t) : p4.chip.KeepsShape t.chip :=
  State.act_shape h (fun _ c1 hc1 => Chip.quadSample_shape hc1)

theorem execQueueAbort_shape {p1 : Fin 8} {p2 : State} {t : State} (h : execQueueAbort p1 p2 = .next t) : p2.chip.KeepsShape t.chip :=
  State.act_shape h (fun _ c1 hc1 => Chip.hwAbort_shape hc1)

theorem execQueueEnable_shape {p1 : Bool} {p2 : Fin 8} {p3 : Word} {p4 : State} {t : State} (h : execQueueEnable p1 p2 p3 p4 = .next t) : p4.chip.KeepsShape t.chip :=
  State.act_shape h (fun _ c1 hc1 => .ite (Chip.cqCfgWrite_shape hc1) (Chip.sqCfgWrite_shape hc1))

theorem execRailWarn_shape {p1 : Rail} {p2 : Bool} {p3 : State} {t : State} (h : execRailWarn p1 p2 p3 = .next t) : p3.chip.KeepsShape t.chip := by
  refine State.actRaw_shape h ?_
  intro z c1 hc1
  extract_lets +onlyGivenNames x2
  have hx2 : ∀ w3, ∀ w4, ∀ w5, ∀ w6, z.KeepsShape (x2 w3 w4 w5 w6) := fun w3 w4 w5 w6 => .ite (Chip.note_shape (Chip.put_shape (Chip.put_shape hc1))) (Chip.put_shape hc1)
  clear_value x2
  split
  · exact hx2 _ _ _ _
  · exact hx2 _ _ _ _
  · exact hx2 _ _ _ _
  · exact hx2 _ _ _ _
  · exact hc1

theorem execRainflowSample_shape {p1 : State} {t : State} (h : execRainflowSample p1 = .next t) : p1.chip.KeepsShape t.chip := by
  refine State.act_shape h ?_
  intro z c1 hc1
  refine .ite (Chip.modChm_shape hc1) ?_
  refine .ite hc1 ?_
  extract_lets +onlyGivenNames x2
  have hx2 : z.KeepsShape x2 := Chip.modChm_shape hc1
  clear_value x2
  extract_lets +onlyGivenNames x3
  exact .each hx2 (fun a4 t5 ht5 => .ite (Chip.showLife_shape (Chip.modSw_shape (Chip.modSw_shape ht5))) ht5)

theorem execRawEdge_shape {p1 : Fin 16} {p2 : Bool} {p3 : Bool} {p4 : State} {t : State} (h : execRawEdge p1 p2 p3 p4 = .next t) : p4.chip.KeepsShape t.chip :=
  State.act_shape h (fun _ c1 hc1 => Chip.rawEdge_shape hc1)

theorem execReadId_shape {p1 : State} {t : State} (h : execReadId p1 = .next t) : p1.chip.KeepsShape t.chip :=
  State.act_shape h (fun _ c1 hc1 => Chip.portOut_shape hc1)

theorem execReadStatus_shape {p1 : State} {t : State} (h : execReadStatus p1 = .next t) : p1.chip.KeepsShape t.chip :=
  State.act_shape h (fun _ c1 hc1 => .ite (Chip.portProto_shape hc1) (Chip.modHw_shape (Chip.portOut_shape hc1)))

theorem execRead_shape {p1 : Word} {p2 : Fin 4097} {p3 : List (Fin 1024)} {p4 : State} {t : State} (h : execRead p1 p2 p3 p4 = .next t) : p4.chip.KeepsShape t.chip :=
  State.actIf_shape h (fun _ c1 hc1 => Chip.hostRead_shape hc1)

theorem execRearm_shape {p1 : Fin 2} {p2 : State} {t : State} (h : execRearm p1 p2 = .next t) : p2.chip.KeepsShape t.chip :=
  State.act_shape h (fun _ c1 hc1 => Chip.rowWrite_shape hc1 (fun v2 hv2 => Chip.posRearm_shape hv2))

theorem execRefLoss_shape {p1 : Word} {p2 : State} {t : State} (h : execRefLoss p1 p2 = .next t) : p2.chip.KeepsShape t.chip := by
  refine State.act_shape h ?_
  intro z c1 hc1
  refine .ite hc1 ?_
  extract_lets +onlyGivenNames x2
  have hx2 : z.KeepsShape x2 := Chip.sets_shape (Chip.monitor_shape hc1)
  clear_value x2
  exact Chip.ringStop_shape (Chip.canStop_shape (Chip.faultEvery_shape hx2))

theorem execRefMonitorTrip_shape {p1 : State} {t : State} (h : execRefMonitorTrip p1 = .next t) : p1.chip.KeepsShape t.chip :=
  State.act_shape h (fun _ c1 hc1 => .ite (Chip.faultEvery_shape (Chip.put_shape (Chip.put_shape hc1))) hc1)

theorem execRefReady_shape {p1 : State} {t : State} (h : execRefReady p1 = .next t) : p1.chip.KeepsShape t.chip := by
  refine State.act_shape h ?_
  intro z c1 hc1
  refine .ite ?_ hc1
  extract_lets +onlyGivenNames x2
  have hx2 : z.KeepsShape x2 := Chip.put_shape (Chip.put_shape hc1)
  clear_value x2
  exact (hx2.step rfl)

theorem execRefReturn_shape {p1 : State} {t : State} (h : execRefReturn p1 = .next t) : p1.chip.KeepsShape t.chip := by
  refine State.act_shape h ?_
  intro z c1 hc1
  refine .ite ?_ (.ite (Chip.ringResume_shape hc1) hc1)
  extract_lets +onlyGivenNames x2
  have hx2 : z.KeepsShape x2 := Chip.ringResume_shape (Chip.sets_shape hc1)
  clear_value x2
  exact .each hx2 (fun a3 t4 ht4 => Chip.porchLoad_shape ht4)

theorem execRefSelect_shape {p1 : Word} {p2 : State} {t : State} (h : execRefSelect p1 p2 = .next t) : p2.chip.KeepsShape t.chip :=
  State.act_shape h (fun _ c1 hc1 => Chip.refWrite_shape hc1)

theorem execRegionGateClose_shape {p1 : Fin 2} {p2 : State} {t : State} (h : execRegionGateClose p1 p2 = .next t) : p2.chip.KeepsShape t.chip :=
  State.act_shape h (fun _ c1 hc1 => .ite (Chip.put_shape hc1) hc1)

theorem execRegionResetEnd_shape {p1 : Fin 2} {p2 : SlotOutcome} {p3 : State} {t : State} (h : execRegionResetEnd p1 p2 p3 = .next t) : p3.chip.KeepsShape t.chip := by
  refine State.act_shape h ?_
  intro z c1 hc1
  refine .ite ?_ hc1
  extract_lets +onlyGivenNames x2
  have hx2 : z.KeepsShape x2 := Chip.restart_shape hc1
  clear_value x2
  extract_lets +onlyGivenNames x3
  have hx3 : z.KeepsShape x3 := Chip.modPwr_shape hx2
  clear_value x3
  exact Chip.settleHolds_shape (.each hx3 (fun a4 t5 ht5 => Chip.modCl_shape ht5))

theorem execRegisterWrite_shape {p1 : Requester} {p2 : Word} {p3 : Word} {p4 : State} {t : State} (h : execRegisterWrite p1 p2 p3 p4 = .next t) : p4.chip.KeepsShape t.chip :=
  State.act_shape h (fun _ c1 hc1 => Chip.writeNow_shape hc1)

theorem execReload_shape {p1 : Fin 16} {p2 : Bool} {p3 : Option (Fin 8192)} {p4 : State} {t : State} (h : execReload p1 p2 p3 p4 = .next t) : p4.chip.KeepsShape t.chip := by
  refine State.act_shape h ?_
  intro z c1 hc1
  refine .ite hc1 ?_
  extract_lets +onlyGivenNames x2
  clear_value x2
  extract_lets +onlyGivenNames x3
  clear_value x3
  extract_lets +onlyGivenNames x4
  have hx4 : z.KeepsShape x4 := .ite (Chip.peakTick_shape hc1) (Chip.valleyTick_shape hc1)
  clear_value x4
  extract_lets +onlyGivenNames x5
  have hx5 : z.KeepsShape x5 := by
    unfold x5
    split
    · rename_i y6 q7
      extract_lets +onlyGivenNames x8
      have hx8 : z.KeepsShape x8 := .ite (Chip.periodBoundary_shape hx4) hx4
      clear_value x8
      exact .ite hx8 (Chip.profLookup_shape hx8)
    · exact hx4
  clear_value x5
  exact hx5

theorem execReqAnswer_shape {p1 : Word} {p2 : State} {t : State} (h : execReqAnswer p1 p2 = .next t) : p2.chip.KeepsShape t.chip :=
  State.act_shape h (fun _ c1 hc1 => Chip.reqAnswer_shape hc1)

theorem execReqTimeout_shape {p1 : State} {t : State} (h : execReqTimeout p1 = .next t) : p1.chip.KeepsShape t.chip := by
  refine State.act_shape h ?_
  intro z c1 hc1
  refine .ite hc1 ?_
  extract_lets +onlyGivenNames x2
  clear_value x2
  extract_lets +onlyGivenNames x3
  clear_value x3
  extract_lets +onlyGivenNames x4
  have hx4 : z.KeepsShape x4 := .ite hc1 (Chip.ackSend_shape hc1)
  clear_value x4
  exact Chip.note_shape (Chip.put_shape hx4)

theorem execRequestRx_shape {p1 : Fin 4} {p2 : Byte} {p3 : Byte} {p4 : Fin 262144} {p5 : State} {t : State} (h : execRequestRx p1 p2 p3 p4 p5 = .next t) : p5.chip.KeepsShape t.chip :=
  State.act_shape h (fun _ c1 hc1 => Chip.canRx_shape hc1)

theorem execRequestUnknown_shape {p1 : Fin 4} {p2 : Fin 16} {p3 : State} {t : State} (h : execRequestUnknown p1 p2 p3 = .next t) : p3.chip.KeepsShape t.chip :=
  State.act_shape h (fun _ c1 hc1 => .ite hc1 (Chip.rowWrite_shape hc1 (fun v2 hv2 => Chip.request_shape hv2)))

theorem execResetPinRelease_shape {p1 : State} {t : State} (h : execResetPinRelease p1 = .next t) : p1.chip.KeepsShape t.chip := by
  refine State.actRaw_shape h ?_
  intro z c1 hc1
  refine .ite hc1 ?_
  extract_lets +onlyGivenNames x2
  clear_value x2
  extract_lets +onlyGivenNames x3
  have hx3 : z.KeepsShape x3 := Chip.set_shape (Chip.modCfg_shape hc1)
  clear_value x3
  exact .ite hx3 (Chip.tryRelease_shape hx3)

theorem execResetPin_shape {p1 : State} {t : State} (h : execResetPin p1 = .next t) : p1.chip.KeepsShape t.chip := by
  refine State.actRaw_shape h ?_
  intro z c1 hc1
  extract_lets +onlyGivenNames x2
  have hx2 : z.KeepsShape x2 := Chip.modCfg_shape hc1
  clear_value x2
  exact .ite hx2 (.ite (Chip.modCfg_shape hx2) (Chip.dieReset_shape hx2))

theorem execResetRequest_shape {p1 : Fin 4} {p2 : State} {t : State} (h : execResetRequest p1 p2 = .next t) : p2.chip.KeepsShape t.chip :=
  State.act_shape h (fun _ c1 hc1 => Chip.rowWrite_shape hc1 (fun v2 hv2 => Chip.request_shape hv2))

theorem execResetStuck_shape {p1 : State} {t : State} (h : execResetStuck p1 = .next t) : p1.chip.KeepsShape t.chip := by
  refine State.actRaw_shape h ?_
  intro z c1 hc1
  refine .ite hc1 ?_
  extract_lets +onlyGivenNames x2
  have hx2 : z.KeepsShape x2 := Chip.set_shape hc1
  clear_value x2
  extract_lets +onlyGivenNames x3
  extract_lets +onlyGivenNames x4
  extract_lets +onlyGivenNames x5
  have hx5 : z.KeepsShape x5 := by
    exact hx2.step rfl
  clear_value x5
  extract_lets +onlyGivenNames x6
  have hx6 : z.KeepsShape x6 := Chip.modCfg_shape (Chip.retain_shape hx5)
  clear_value x6
  exact .ite (Chip.note_shape (Chip.tryRelease_shape (Chip.put_shape hx6))) hx6

theorem execRingBreak_shape {p1 : Bool} {p2 : Fin 256} {p3 : State} {t : State} (h : execRingBreak p1 p2 p3 = .next t) : p3.chip.KeepsShape t.chip :=
  State.act_shape h (fun _ c1 hc1 => Chip.linkLost_shape hc1)

theorem execRingClrErr_shape {p1 : State} {t : State} (h : execRingClrErr p1 = .next t) : p1.chip.KeepsShape t.chip :=
  State.act_shape h (fun _ c1 hc1 => Chip.rowWrite_shape hc1 (fun v2 hv2 => Chip.sets_shape hv2))

theorem execRingDisable_shape {p1 : State} {t : State} (h : execRingDisable p1 = .next t) : p1.chip.KeepsShape t.chip :=
  State.act_shape h (fun _ c1 hc1 => Chip.rowWrite_shape hc1 (fun v2 hv2 => Chip.ringOff_shape hv2))

theorem execRingEnable_shape {p1 : State} {t : State} (h : execRingEnable p1 = .next t) : p1.chip.KeepsShape t.chip :=
  State.act_shape h (fun _ c1 hc1 => Chip.rowWrite_shape hc1 (fun v2 hv2 => Chip.ringEnable_shape hv2))

theorem execRingMsgEnable_shape {p1 : Word} {p2 : State} {t : State} (h : execRingMsgEnable p1 p2 = .next t) : p2.chip.KeepsShape t.chip :=
  State.act_shape h (fun _ c1 hc1 => Chip.rowWrite_shape hc1 (fun v2 hv2 => Chip.msgCfg_shape hv2))

theorem execRingStartTimeout_shape {p1 : State} {t : State} (h : execRingStartTimeout p1 = .next t) : p1.chip.KeepsShape t.chip := by
  refine State.act_shape h ?_
  intro z c1 hc1
  extract_lets +onlyGivenNames x2
  clear_value x2
  exact .ite (Chip.becomeActive_shape hc1) hc1

theorem execRstUnmasked_shape {p1 : State} {t : State} (h : execRstUnmasked p1 = .next t) : p1.chip.KeepsShape t.chip :=
  State.actRaw_shape h (fun _ c1 hc1 => .ite hc1 (Chip.note_shape (Chip.modCfg_shape (Chip.put_shape hc1))))

theorem execRunRequest_shape {p1 : Fin 4} {p2 : State} {t : State} (h : execRunRequest p1 p2 = .next t) : p2.chip.KeepsShape t.chip :=
  State.act_shape h (fun _ c1 hc1 => Chip.rowWrite_shape hc1 (fun v2 hv2 => Chip.request_shape hv2))

theorem execRxSlotFree_shape {p1 : Fin 4} {p2 : State} {t : State} (h : execRxSlotFree p1 p2 = .next t) : p2.chip.KeepsShape t.chip :=
  State.act_shape h (fun _ c1 hc1 => Chip.rowWrite_shape hc1 (fun v2 hv2 => Chip.put_shape hv2))

theorem execRxfPop_shape {p1 : Fin 4} {p2 : State} {t : State} (h : execRxfPop p1 p2 = .next t) : p2.chip.KeepsShape t.chip :=
  State.act_shape h (fun _ c1 hc1 => Chip.rowWrite_shape hc1 (fun v2 hv2 => Chip.rxPop_shape hv2))

theorem execSafeMsgLost_shape {p1 : Fin 4} {p2 : State} {t : State} (h : execSafeMsgLost p1 p2 = .next t) : p2.chip.KeepsShape t.chip :=
  State.act_shape h (fun _ c1 hc1 => .ite (Chip.ss1Begin_shape (Chip.noteCl_shape (Chip.modCl_shape hc1))) hc1)

theorem execSafeRetry_shape {p1 : Fin 4} {p2 : Fin 65536} {p3 : State} {t : State} (h : execSafeRetry p1 p2 p3 = .next t) : p3.chip.KeepsShape t.chip := by
  refine State.act_shape h ?_
  intro z c1 hc1
  split
  · rename_i y2 y3 y4 q5
    split
    · exact hc1
    · rename_i y8 q9
      extract_lets +onlyGivenNames x10
      have hx10 : z.KeepsShape x10 := Chip.modCl_shape hc1
      clear_value x10
      extract_lets +onlyGivenNames x11
      have hx11 : z.KeepsShape x11 := Chip.set_shape hx10
      clear_value x11
      exact Chip.tryLeaveSafe_shape (Chip.refreshHold_shape (Chip.dropFault_shape hx11))
  · exact hc1

theorem execSafetyTick_shape {p1 : State} {t : State} (h : execSafetyTick p1 = .next t) : p1.chip.KeepsShape t.chip := by
  refine State.act_shape h ?_
  intro z c1 hc1
  refine .ite hc1 ?_
  extract_lets +onlyGivenNames x2
  extract_lets +onlyGivenNames x3
  have hx3 : z.KeepsShape x3 := Chip.pulse_shape (Chip.pulse_shape (hc1.step rfl))
  clear_value x3
  exact .each (Chip.ctrLook_shape hx3) (fun a4 t5 ht5 => .ite (Chip.ackJudge_shape (Chip.ss1Judge_shape (Chip.slsJudge_shape (Chip.tqJudge_shape ht5)))) ht5)

theorem execSarResultWrite_shape {p1 : Fin 4} {p2 : Sampled (List (Fin 28 × Fin 4194304))} {p3 : Upset} {p4 : State} {t : State} (h : execSarResultWrite p1 p2 p3 p4 = .next t) : p4.chip.KeepsShape t.chip := by
  refine State.act_shape h ?_
  intro z c1 hc1
  extract_lets +onlyGivenNames x2
  have hx2 : z.KeepsShape x2 := Chip.sampleNow_shape hc1
  clear_value x2
  extract_lets +onlyGivenNames x3
  clear_value x3
  extract_lets +onlyGivenNames x4
  extract_lets +onlyGivenNames x5
  refine .ite hx2 ?_
  extract_lets +onlyGivenNames x6
  extract_lets +onlyGivenNames x7
  have hx7 : z.KeepsShape x7 := .ite hx2 (Chip.refShown_shape hx2)
  clear_value x7
  extract_lets +onlyGivenNames x8
  have hx8 : z.KeepsShape x8 := .each hx7 (fun a9 t10 ht10 => Chip.sarDeliver_shape ht10)
  clear_value x8
  extract_lets +onlyGivenNames x11
  extract_lets +onlyGivenNames x12
  have hx12 : z.KeepsShape x12 := .each hx8 (fun a13 t14 ht14 => Chip.sdDead_shape ht14)
  clear_value x12
  exact Chip.resultsIn_shape hx12

theorem execScanEntryResult_shape {p1 : Fin 16} {p2 : Sampled (List (Fin 4194304))} {p3 : State} {t : State} (h : execScanEntryResult p1 p2 p3 = .next t) : p3.chip.KeepsShape t.chip := by
  refine State.act_shape h ?_
  intro z c1 hc1
  split
  · exact hc1
  · rename_i y4 q5
    refine .ite hc1 ?_
    extract_lets +onlyGivenNames x6
    extract_lets +onlyGivenNames x7
    clear_value x7
    extract_lets +onlyGivenNames x8
    clear_value x8
    extract_lets +onlyGivenNames x9
    have hx9 : z.KeepsShape x9 := Chip.refShown_shape hc1
    clear_value x9
    extract_lets +onlyGivenNames x10
    clear_value x10
    extract_lets +onlyGivenNames x11
    extract_lets +onlyGivenNames x12
    clear_value x12
    extract_lets +onlyGivenNames x13
    have hx13 : z.KeepsShape x13 := by
      unfold x13
      refine .each hx9 ?_
      intro a14 t15 ht15
      extract_lets +onlyGivenNames x16
      clear_value x16
      extract_lets +onlyGivenNames x17
      clear_value x17
      split <;> exact Chip.sets_shape ht15
    clear_value x13
    extract_lets +onlyGivenNames x21
    have hx21 : z.KeepsShape x21 := Chip.sets_shape hx13
    clear_value x21
    extract_lets +onlyGivenNames x22
    extract_lets +onlyGivenNames x23
    have hx23 : z.KeepsShape x23 := (hx21.step rfl)
    clear_value x23
    extract_lets +onlyGivenNames x24
    have hx24 : z.KeepsShape x24 := .ite (.each hx23 (fun a25 t26 ht26 => Chip.windResult_shape ht26)) hx23
    clear_value x24
    exact Chip.scanEnd_shape hx24

theorem execScanEntryStart_shape {p1 : Fin 16} {p2 : State} {t : State} (h : execScanEntryStart p1 p2 = .next t) : p2.chip.KeepsShape t.chip := by
  refine State.act_shape h ?_
  intro z c1 hc1
  refine .ite hc1 ?_
  extract_lets +onlyGivenNames x2
  clear_value x2
  extract_lets +onlyGivenNames x3
  extract_lets +onlyGivenNames x4
  have hx4 : z.KeepsShape x4 := Chip.set_shape hc1
  clear_value x4
  extract_lets +onlyGivenNames x5
  extract_lets +onlyGivenNames x6
  have hx6 : z.KeepsShape x6 := (hx4.step rfl)
  clear_value x6
  exact Chip.scanSkip_shape (Chip.scanSamples_shape hx6)

theorem execScanStart_shape {p1 : State} {t : State} (h : execScanStart p1 = .next t) : p1.chip.KeepsShape t.chip :=
  State.act_shape h (fun _ c1 hc1 => Chip.scanStart_shape hc1)

theorem execScrub_shape {p1 : Fin 5} {p2 : Fin 524288} {p3 : Fin 3} {p4 : State} {t : State} (h : execScrub p1 p2 p3 p4 = .next t) : p4.chip.KeepsShape t.chip := by
  refine State.act_shape h ?_
  intro z c1 hc1
  extract_lets +onlyGivenNames x2
  clear_value x2
  extract_lets +onlyGivenNames x3
  clear_value x3
  extract_lets +onlyGivenNames x4
  clear_value x4
  exact .ite hc1 (Chip.eccRead_shape hc1)

theorem execSdClkCfgWrite_shape {p1 : Word} {p2 : State} {t : State} (h : execSdClkCfgWrite p1 p2 = .next t) : p2.chip.KeepsShape t.chip :=
  State.act_shape h (fun _ c1 hc1 => Chip.sdClkWrite_shape hc1)

theorem execSdResultWrite_shape {p1 : Fin 12} {p2 : List Bool} {p3 : Bool} {p4 : Upset} {p5 : State} {t : State} (h : execSdResultWrite p1 p2 p3 p4 p5 = .next t) : p5.chip.KeepsShape t.chip := by
  refine State.act_shape h ?_
  intro z c1 hc1
  split
  · exact hc1
  · rename_i y4 q5
    split
    · exact hc1
    · rename_i y8 y9 q10
      extract_lets +onlyGivenNames x11
      clear_value x11
      refine .ite hc1 ?_
      extract_lets +onlyGivenNames x12
      have hx12 : z.KeepsShape x12 := Chip.sampleNow_shape hc1
      clear_value x12
      extract_lets +onlyGivenNames x13
      clear_value x13
      extract_lets +onlyGivenNames x14
      clear_value x14
      extract_lets +onlyGivenNames x15
      have hx15 : z.KeepsShape x15 := Chip.sets_shape hx12
      clear_value x15
      extract_lets +onlyGivenNames x16
      have hx16 : z.KeepsShape x16 := Chip.deliver_shape hx15
      clear_value x16
      extract_lets +onlyGivenNames x17
      clear_value x17
      exact Chip.resultsIn_shape hx16

theorem execSdStreamRecover_shape {p1 : Fin 12} {p2 : State} {t : State} (h : execSdStreamRecover p1 p2 = .next t) : p2.chip.KeepsShape t.chip :=
  State.act_shape h (fun _ c1 hc1 => .ite (hc1.step rfl) hc1)

theorem execSdStuck_shape {p1 : Fin 12} {p2 : Bool} {p3 : State} {t : State} (h : execSdStuck p1 p2 p3 = .next t) : p3.chip.KeepsShape t.chip := by
  refine State.act_shape h ?_
  intro z c1 hc1
  refine .ite hc1 ?_
  extract_lets +onlyGivenNames x2
  extract_lets +onlyGivenNames x3
  have hx3 : z.KeepsShape x3 := (hc1.step rfl)
  clear_value x3
  extract_lets +onlyGivenNames x4
  have hx4 : z.KeepsShape x4 := Chip.setBitOf_shape (Chip.put_shape hx3)
  clear_value x4
  exact Chip.faultOn_shape hx4

theorem execSemCancel_shape {p1 : Requester} {p2 : Fin 32} {p3 : State} {t : State} (h : execSemCancel p1 p2 p3 = .next t) : p3.chip.KeepsShape t.chip :=
  State.act_shape h (fun _ c1 hc1 => .ite (Chip.semCancel_shape (Chip.drainUnit_shape hc1)) hc1)

theorem execSemGive_shape {p1 : Requester} {p2 : Fin 32} {p3 : State} {t : State} (h : execSemGive p1 p2 p3 = .next t) : p3.chip.KeepsShape t.chip :=
  State.act_shape h (fun _ c1 hc1 => .ite (Chip.semGive_shape (Chip.drainUnit_shape hc1)) hc1)

theorem execSemTakeOrWait_shape {p1 : Requester} {p2 : Fin 32} {p3 : State} {t : State} (h : execSemTakeOrWait p1 p2 p3 = .next t) : p3.chip.KeepsShape t.chip :=
  State.act_shape h (fun _ c1 hc1 => .ite (Chip.semTakeOrWait_shape (Chip.drainUnit_shape hc1)) hc1)

theorem execSemTake_shape {p1 : Requester} {p2 : Fin 32} {p3 : State} {t : State} (h : execSemTake p1 p2 p3 = .next t) : p3.chip.KeepsShape t.chip :=
  State.act_shape h (fun _ c1 hc1 => .ite (Chip.semTake_shape (Chip.drainUnit_shape hc1)) hc1)

theorem execSentFrame_shape {p1 : Fin 2} {p2 : Fin 2097152} {p3 : List (Fin 2097152)} {p4 : State} {t : State} (h : execSentFrame p1 p2 p3 p4 = .next t) : p4.chip.KeepsShape t.chip :=
  State.act_shape h (fun _ c1 hc1 => Chip.sentRx_shape hc1)

theorem execSentTimeout_shape {p1 : Fin 2} {p2 : State} {t : State} (h : execSentTimeout p1 p2 = .next t) : p2.chip.KeepsShape t.chip :=
  State.act_shape h (fun _ c1 hc1 => Chip.sourceTimeout_shape hc1)

theorem execSleepRailWaitEnd_shape {p1 : Bool} {p2 : State} {t : State} (h : execSleepRailWaitEnd p1 p2 = .next t) : p2.chip.KeepsShape t.chip := by
  refine State.actRaw_shape h ?_
  intro z c1 hc1
  split
  · rename_i y2 q3
    extract_lets +onlyGivenNames x4
    have hx4 : z.KeepsShape x4 := Chip.modPwr_shape (Chip.put_shape hc1)
    clear_value x4
    exact .ite (Chip.sets_shape hx4) hx4
  · exact hc1

theorem execSleepRequest_shape {p1 : Word} {p2 : State} {t : State} (h : execSleepRequest p1 p2 = .next t) : p2.chip.KeepsShape t.chip :=
  State.act_shape h (fun _ c1 hc1 => Chip.sleepWrite_shape hc1)

theorem execSliceRun_shape {p1 : Fin 16} {p2 : State} {t : State} (h : execSliceRun p1 p2 = .next t) : p2.chip.KeepsShape t.chip :=
  State.act_shape h (fun _ c1 hc1 => Chip.rowWrite_shape hc1 (fun v2 hv2 => Chip.sliceRun_shape hv2))

theorem execSliceStop_shape {p1 : Fin 16} {p2 : State} {t : State} (h : execSliceStop p1 p2 = .next t) : p2.chip.KeepsShape t.chip :=
  State.act_shape h (fun _ c1 hc1 => Chip.rowWrite_shape hc1 (fun v2 hv2 => Chip.sliceStop_shape hv2))

theorem execSlotWrite_shape {p1 : Fin 4} {p2 : Fin 28} {p3 : Word} {p4 : State} {t : State} (h : execSlotWrite p1 p2 p3 p4 = .next t) : p4.chip.KeepsShape t.chip := by
  refine State.act_shape h ?_
  intro z c1 hc1
  extract_lets +onlyGivenNames x2
  clear_value x2
  exact .ite (Chip.slotWritten_shape (Chip.configWord_shape hc1)) (Chip.refuse_shape hc1)

theorem execSnap_shape {p1 : Fin 2} {p2 : State} {t : State} (h : execSnap p1 p2 = .next t) : p2.chip.KeepsShape t.chip :=
  State.act_shape h (fun _ c1 hc1 => Chip.rowWrite_shape hc1 (fun v2 hv2 => Chip.posSnap_shape hv2))

theorem execSoftReset_shape {p1 : State} {t : State} (h : execSoftReset p1 = .next t) : p1.chip.KeepsShape t.chip :=
  State.act_shape h (fun _ c1 hc1 => Chip.put_shape hc1)

theorem execSpeedLimit_shape {p1 : Fin 4} {p2 : State} {t : State} (h : execSpeedLimit p1 p2 = .next t) : p2.chip.KeepsShape t.chip := by
  refine State.act_shape h ?_
  intro z c1 hc1
  refine .ite ?_ hc1
  extract_lets +onlyGivenNames x2
  clear_value x2
  exact Chip.ss1Begin_shape (Chip.noteCl_shape (Chip.modCl_shape hc1))

theorem execSplitRequest_shape {p1 : Fin 4} {p2 : State} {t : State} (h : execSplitRequest p1 p2 = .next t) : p2.chip.KeepsShape t.chip :=
  State.act_shape h (fun _ c1 hc1 => Chip.rowWrite_shape hc1 (fun v2 hv2 => Chip.request_shape hv2))

theorem execSplitTakeEffect_shape {p1 : Fin 4} {p2 : State} {t : State} (h : execSplitTakeEffect p1 p2 = .next t) : p2.chip.KeepsShape t.chip :=
  State.act_shape h (fun _ c1 hc1 => .ite (Chip.splitNow_shape hc1) hc1)

theorem execSqDoorbell_shape {p1 : Requester} {p2 : Fin 8} {p3 : Word} {p4 : State} {t : State} (h : execSqDoorbell p1 p2 p3 p4 = .next t) : p4.chip.KeepsShape t.chip :=
  State.act_shape h (fun _ c1 hc1 => .ite (Chip.sqTailWrite_shape (Chip.drainAll_shape hc1)) hc1)

theorem execSs1Start_shape {p1 : Fin 4} {p2 : State} {t : State} (h : execSs1Start p1 p2 = .next t) : p2.chip.KeepsShape t.chip :=
  State.act_shape h (fun _ c1 hc1 => Chip.ss1Begin_shape hc1)

theorem execSs1Timeout_shape {p1 : Fin 4} {p2 : State} {t : State} (h : execSs1Timeout p1 p2 = .next t) : p2.chip.KeepsShape t.chip :=
  State.act_shape h (fun _ c1 hc1 => .ite (Chip.pcSto_shape hc1) hc1)

theorem execStandstill_shape {p1 : Fin 2} {p2 : State} {t : State} (h : execStandstill p1 p2 = .next t) : p2.chip.KeepsShape t.chip :=
  State.act_shape h (fun _ c1 hc1 => .ite (Chip.declareStandstill_shape hc1) hc1)

theorem execStatusFrame_shape {p1 : ChanFrame} {p2 : Fin 65536} {p3 : Fin 65536} {p4 : Word} {p5 : Word} {p6 : State} {t : State} (h : execStatusFrame p1 p2 p3 p4 p5 p6 = .next t) : p6.chip.KeepsShape t.chip := by
  refine State.act_shape h ?_
  intro z c1 hc1
  extract_lets +onlyGivenNames x2
  extract_lets +onlyGivenNames x3
  clear_value x3
  refine .ite hc1 ?_
  refine .ite (Chip.crcError_shape hc1) ?_
  extract_lets +onlyGivenNames x4
  have hx4 : z.KeepsShape x4 := Chip.statusWarn_shape (Chip.statusWords_shape hc1)
  clear_value x4
  extract_lets +onlyGivenNames x5
  have hx5 : z.KeepsShape x5 := .ite (Chip.put_shape hx4) hx4
  clear_value x5
  extract_lets +onlyGivenNames x6
  have hx6 : z.KeepsShape x6 := Chip.showSupply_shape hx5
  clear_value x6
  extract_lets +onlyGivenNames x7
  clear_value x7
  refine .ite ?_ (Chip.set_shape hx6)
  extract_lets +onlyGivenNames x8
  clear_value x8
  extract_lets +onlyGivenNames x9
  have hx9 : z.KeepsShape x9 := .ite (Chip.set_shape (Chip.gateAway_shape hx6)) (Chip.handshakeStop_shape (Chip.islShow_shape (Chip.gateAway_shape hx6)))
  clear_value x9
  exact Chip.islFall_shape (Chip.islDetect_shape hx9)

theorem execStatusMessage_shape {p1 : Fin 4} {p2 : Bool} {p3 : State} {t : State} (h : execStatusMessage p1 p2 p3 = .next t) : p3.chip.KeepsShape t.chip := by
  refine State.act_shape h ?_
  intro z c1 hc1
  refine .ite hc1 ?_
  refine .ite (.ite hc1 (Chip.statusSend_shape hc1)) ?_
  extract_lets +onlyGivenNames x2
  clear_value x2
  exact .ite hc1 (.each (Chip.modPort_shape hc1) (fun a3 t4 ht4 => Chip.statusSend_shape ht4))

theorem execStoDemand_shape {p1 : Bool} {p2 : State} {t : State} (h : execStoDemand p1 p2 = .next t) : p2.chip.KeepsShape t.chip := by
  refine State.act_shape h ?_
  intro z c1 hc1
  extract_lets +onlyGivenNames x2
  refine .ite hc1 ?_
  extract_lets +onlyGivenNames x3
  have hx3 : z.KeepsShape x3 := Chip.showDisc_shape (Chip.put_shape (Chip.put_shape hc1))
  clear_value x3
  exact Chip.faultAll_shape hx3

theorem execStoDiscrepancy_shape {p1 : State} {t : State} (h : execStoDiscrepancy p1 = .next t) : p1.chip.KeepsShape t.chip :=
  State.act_shape h (fun _ c1 hc1 => .ite hc1 (Chip.faultEvery_shape (Chip.put_shape (hc1.step rfl))))

theorem execStoRelease_shape {p1 : Bool} {p2 : State} {t : State} (h : execStoRelease p1 p2 = .next t) : p2.chip.KeepsShape t.chip := by
  refine State.act_shape h ?_
  intro z c1 hc1
  extract_lets +onlyGivenNames x2
  exact .ite (Chip.settleHolds_shape (Chip.showDisc_shape (Chip.put_shape (Chip.put_shape hc1)))) hc1

theorem execStopRequest_shape {p1 : Fin 4} {p2 : State} {t : State} (h : execStopRequest p1 p2 = .next t) : p2.chip.KeepsShape t.chip :=
  State.act_shape h (fun _ c1 hc1 => Chip.rowWrite_shape hc1 (fun v2 hv2 => Chip.request_shape hv2))

theorem execSupplyModeWrite_shape {p1 : Fin 12} {p2 : Word} {p3 : State} {t : State} (h : execSupplyModeWrite p1 p2 p3 = .next t) : p3.chip.KeepsShape t.chip :=
  State.act_shape h (fun _ c1 hc1 => Chip.rowWrite_shape hc1 (fun v2 hv2 => Chip.mirrorSet_shape hv2))

theorem execSwModuleReset_shape {p1 : Word} {p2 : State} {t : State} (h : execSwModuleReset p1 p2 = .next t) : p2.chip.KeepsShape t.chip :=
  State.act_shape h (fun _ c1 hc1 => Chip.rstCtlWrite_shape hc1)

theorem execSwRegionReset_shape {p1 : Word} {p2 : State} {t : State} (h : execSwRegionReset p1 p2 = .next t) : p2.chip.KeepsShape t.chip :=
  State.act_shape h (fun _ c1 hc1 => Chip.rstCtlWrite_shape hc1)

theorem execSwi_shape {p1 : Word} {p2 : State} {t : State} (h : execSwi p1 p2 = .next t) : p2.chip.KeepsShape t.chip :=
  State.act_shape h (fun _ c1 hc1 => Chip.swiWrite_shape hc1)

theorem execTimNowRead_shape {p1 : Requester} {p2 : State} {t : State} (h : execTimNowRead p1 p2 = .next t) : p2.chip.KeepsShape t.chip :=
  State.act_shape h (fun _ c1 hc1 => .ite (Chip.timLatch_shape (Chip.drainUnit_shape hc1)) hc1)

theorem execTimerCompare_shape {p1 : Fin 4} {p2 : Fin 2} {p3 : State} {t : State} (h : execTimerCompare p1 p2 p3 = .next t) : p3.chip.KeepsShape t.chip := by
  refine State.act_shape h ?_
  intro z c1 hc1
  extract_lets +onlyGivenNames x2
  clear_value x2
  exact .ite (Chip.privateSrc_shape hc1) hc1

theorem execTltoHoldEnd_shape {p1 : Fin 12} {p2 : State} {t : State} (h : execTltoHoldEnd p1 p2 = .next t) : p2.chip.KeepsShape t.chip :=
  State.act_shape h (fun _ c1 hc1 => .ite (Chip.modIsl_shape hc1) hc1)

theorem execTokenCheckEnd_shape {p1 : Bool} {p2 : State} {t : State} (h : execTokenCheckEnd p1 p2 = .next t) : p2.chip.KeepsShape t.chip := by
  refine State.act_shape h ?_
  intro z c1 hc1
  split
  · exact hc1
  · rename_i y4 q5
    extract_lets +onlyGivenNames x6
    clear_value x6
    extract_lets +onlyGivenNames x7
    have hx7 : z.KeepsShape x7 := Chip.put_shape (Chip.modCfg_shape hc1)
    clear_value x7
    split
    · exact Chip.tokenReject_shape hx7
    · exact .ite (Chip.tokenAccept_shape hx7) (Chip.tokenReject_shape hx7)

theorem execTokenSubmit_shape {p1 : Word} {p2 : State} {t : State} (h : execTokenSubmit p1 p2 = .next t) : p2.chip.KeepsShape t.chip :=
  State.act_shape h (fun _ c1 hc1 => Chip.tokenWrite_shape hc1)

theorem execTpCancel_shape {p1 : Fin 8} {p2 : State} {t : State} (h : execTpCancel p1 p2 = .next t) : p2.chip.KeepsShape t.chip :=
  State.act_shape h (fun _ c1 hc1 => Chip.sesCancel_shape hc1)

theorem execTpCmRx_shape {p1 : Fin 4} {p2 : Bool} {p3 : Byte} {p4 : Byte} {p5 : Vector Byte 8} {p6 : State} {t : State} (h : execTpCmRx p1 p2 p3 p4 p5 p6 = .next t) : p6.chip.KeepsShape t.chip :=
  State.act_shape h (fun _ c1 hc1 => Chip.canRx_shape hc1)

theorem execTpDtRx_shape {p1 : Fin 4} {p2 : Bool} {p3 : Byte} {p4 : Byte} {p5 : Vector Byte 8} {p6 : State} {t : State} (h : execTpDtRx p1 p2 p3 p4 p5 p6 = .next t) : p6.chip.KeepsShape t.chip :=
  State.act_shape h (fun _ c1 hc1 => Chip.canRx_shape hc1)

theorem execTpRelease_shape {p1 : Fin 16} {p2 : State} {t : State} (h : execTpRelease p1 p2 = .next t) : p2.chip.KeepsShape t.chip :=
  State.act_shape h (fun _ c1 hc1 => .ite (Chip.sesRelease_shape hc1) hc1)

theorem execTpSendStart_shape {p1 : Fin 8} {p2 : Word} {p3 : State} {t : State} (h : execTpSendStart p1 p2 p3 = .next t) : p3.chip.KeepsShape t.chip :=
  State.act_shape h (fun _ c1 hc1 => Chip.sesCtlWrite_shape hc1)

theorem execTpTimeout_shape {p1 : Fin 16} {p2 : State} {t : State} (h : execTpTimeout p1 p2 = .next t) : p2.chip.KeepsShape t.chip := by
  refine State.act_shape h ?_
  intro z c1 hc1
  extract_lets +onlyGivenNames x2
  clear_value x2
  exact .ite (Chip.sesAbort_shape hc1) hc1

theorem execTqImplausible_shape {p1 : Fin 4} {p2 : State} {t : State} (h : execTqImplausible p1 p2 = .next t) : p2.chip.KeepsShape t.chip :=
  State.act_shape h (fun _ c1 hc1 => .ite (Chip.pcSto_shape (Chip.modCl_shape hc1)) hc1)

theorem execTraceCopy_shape {p1 : Fin 8} {p2 : State} {t : State} (h : execTraceCopy p1 p2 = .next t) : p2.chip.KeepsShape t.chip :=
  State.act_shape h (fun _ c1 hc1 => Chip.traceCopy_shape hc1)

theorem execTrace_shape {p1 : Fin 8} {p2 : State} {t : State} (h : execTrace p1 p2 = .next t) : p2.chip.KeepsShape t.chip :=
  State.act_shape h (fun _ c1 hc1 => Chip.descItem_shape hc1 (fun v2 v3 hv3 => hv3))

theorem execTriggerMatch_shape {p1 : Fin 16} {p2 : Fin 4} {p3 : Bool} {p4 : State} {t : State} (h : execTriggerMatch p1 p2 p3 p4 = .next t) : p4.chip.KeepsShape t.chip := by
  refine State.act_shape h ?_
  intro z c1 hc1
  split
  · rename_i y2 y3 q4
    extract_lets +onlyGivenNames x5
    clear_value x5
    refine .ite hc1 ?_
    extract_lets +onlyGivenNames x6
    have hx6 : z.KeepsShape x6 := Chip.setBitOf_shape hc1
    clear_value x6
    extract_lets +onlyGivenNames x7
    have hx7 : z.KeepsShape x7 := by
      unfold x7
      split
      · exact .ite (Chip.triggerPass_shape hx6) hx6
      · exact hx6
    clear_value x7
    exact .ite (Chip.scanStart_shape hx7) hx7

theorem execTwinHeartbeatRx_shape {p1 : Fin 4} {p2 : Bool} {p3 : State} {t : State} (h : execTwinHeartbeatRx p1 p2 p3 = .next t) : p3.chip.KeepsShape t.chip :=
  State.act_shape h (fun _ c1 hc1 => .ite (Chip.modRing_shape (Chip.set_shape hc1)) (Chip.bump_shape hc1))

theorem execTwinSigBack_shape {p1 : State} {t : State} (h : execTwinSigBack p1 = .next t) : p1.chip.KeepsShape t.chip :=
  State.act_shape h (fun _ c1 hc1 => .ite hc1 (Chip.setBitOf_shape (Chip.put_shape hc1)))

theorem execTwinSigLost_shape {p1 : State} {t : State} (h : execTwinSigLost p1 = .next t) : p1.chip.KeepsShape t.chip :=
  State.act_shape h (fun _ c1 hc1 => .ite (Chip.setBitOf_shape (Chip.put_shape hc1)) hc1)

theorem execTxAbort_shape {p1 : Fin 4} {p2 : Fin 3} {p3 : State} {t : State} (h : execTxAbort p1 p2 p3 = .next t) : p3.chip.KeepsShape t.chip := by
  refine State.act_shape h ?_
  intro z c1 hc1
  extract_lets +onlyGivenNames x2
  clear_value x2
  exact Chip.rowWrite_shape hc1 (fun v3 hv3 => Chip.txCmd_shape hv3)

theorem execTxEnd_shape {p1 : Fin 4} {p2 : TxEnd} {p3 : State} {t : State} (h : execTxEnd p1 p2 p3 = .next t) : p3.chip.KeepsShape t.chip :=
  State.act_shape h (fun _ c1 hc1 => Chip.txEnd_shape hc1)

theorem execTxRequest_shape {p1 : Fin 4} {p2 : Fin 3} {p3 : Word} {p4 : Bool} {p5 : State} {t : State} (h : execTxRequest p1 p2 p3 p4 p5 = .next t) : p5.chip.KeepsShape t.chip := by
  refine State.act_shape h ?_
  intro z c1 hc1
  extract_lets +onlyGivenNames x2
  have hx2 : z.KeepsShape x2 := .ite (Chip.modCan_shape hc1) hc1
  clear_value x2
  exact Chip.rowWrite_shape hx2 (fun v3 hv3 => Chip.txCmd_shape hv3)

theorem execUnitResetEnd_shape {p1 : UnitId} {p2 : State} {t : State} (h : execUnitResetEnd p1 p2 = .next t) : p2.chip.KeepsShape t.chip :=
  State.act_shape h (fun _ c1 hc1 => Chip.unitEnd_shape hc1)

theorem execUnitReset_shape {p1 : UnitId} {p2 : State} {t : State} (h : execUnitReset p1 p2 = .next t) : p2.chip.KeepsShape t.chip :=
  State.act_shape h (fun _ c1 hc1 => Chip.unitAsk_shape hc1)

theorem execUpload_shape {p1 : Fin 8} {p2 : State} {t : State} (h : execUpload p1 p2 = .next t) : p2.chip.KeepsShape t.chip :=
  State.act_shape h (fun _ c1 hc1 => Chip.uploadItem_shape hc1)

theorem execUsedCountReset_shape {p1 : Fin 12} {p2 : Bool} {p3 : State} {t : State} (h : execUsedCountReset p1 p2 p3 = .next t) : p3.chip.KeepsShape t.chip := by
  refine State.act_shape h ?_
  intro z c1 hc1
  extract_lets +onlyGivenNames x2
  exact .ite (.ite (Chip.set_shape hc1) (Chip.set_shape hc1)) hc1

theorem execUvlo_shape {p1 : Fin 12} {p2 : Bool} {p3 : Fin 65536} {p4 : State} {t : State} (h : execUvlo p1 p2 p3 p4 = .next t) : p4.chip.KeepsShape t.chip := by
  refine State.actRaw_shape h ?_
  intro z c1 hc1
  extract_lets +onlyGivenNames x2
  clear_value x2
  extract_lets +onlyGivenNames x3
  clear_value x3
  extract_lets +onlyGivenNames x4
  refine .ite hc1 ?_
  refine .ite (Chip.modIsl_shape (Chip.islandReset_shape hc1)) ?_
  extract_lets +onlyGivenNames x5
  have hx5 : z.KeepsShape x5 := Chip.islShow_shape (Chip.islandReset_shape (Chip.gateAway_shape hc1))
  clear_value x5
  extract_lets +onlyGivenNames x6
  have hx6 : z.KeepsShape x6 := Chip.modIsl_shape hx5
  clear_value x6
  extract_lets +onlyGivenNames x7
  have hx7 : z.KeepsShape x7 := Chip.calibrateDue_shape (Chip.showSupply_shape hx6)
  clear_value x7
  refine .ite ?_ (Chip.put_shape hx7)
  extract_lets +onlyGivenNames x8
  clear_value x8
  extract_lets +onlyGivenNames x9
  have hx9 : z.KeepsShape x9 := Chip.islDetect_shape (Chip.put_shape hx7)
  clear_value x9
  exact Chip.modIsl_shape hx9

theorem execVddaRelease_shape {p1 : State} {t : State} (h : execVddaRelease p1 = .next t) : p1.chip.KeepsShape t.chip := by
  refine State.actRaw_shape h ?_
  intro z c1 hc1
  refine .ite hc1 ?_
  extract_lets +onlyGivenNames x2
  have hx2 : z.KeepsShape x2 := Chip.modPwr_shape (Chip.put_shape hc1)
  clear_value x2
  refine .ite hx2 ?_
  extract_lets +onlyGivenNames x3
  extract_lets +onlyGivenNames x4
  have hx4 : z.KeepsShape x4 := (hx2.step rfl)
  clear_value x4
  exact Chip.settleHolds_shape (Chip.showOv3_shape (Chip.showVdc_shape (Chip.cmpFreed_shape (hx4.step rfl) hx4)))

theorem execWakeSlotFire_shape {p1 : Fin 16} {p2 : State} {t : State} (h : execWakeSlotFire p1 p2 = .next t) : p2.chip.KeepsShape t.chip :=
  State.actRaw_shape h (fun _ c1 hc1 => Chip.slotFire_shape hc1)

theorem execWatchdogKick_shape {p1 : Fin 4} {p2 : Word} {p3 : State} {t : State} (h : execWatchdogKick p1 p2 p3 = .next t) : p3.chip.KeepsShape t.chip :=
  State.act_shape h (fun _ c1 hc1 => Chip.wdtWrite_shape hc1)

theorem execWdtWarn_shape {p1 : Fin 4} {p2 : State} {t : State} (h : execWdtWarn p1 p2 = .next t) : p2.chip.KeepsShape t.chip :=
  State.act_shape h (fun _ c1 hc1 => .ite (Chip.privateSrc_shape (Chip.modHart_shape hc1)) hc1)

theorem execWfi_shape {p1 : Fin 4} {p2 : State} {t : State} (h : execWfi p1 p2 = .next t) : p2.chip.KeepsShape t.chip :=
  State.act_shape h (fun _ c1 hc1 => .ite hc1 (Chip.modHart_shape (Chip.retire_shape hc1)))

theorem execWindSens_shape {p1 : Fin 4} {p2 : State} {t : State} (h : execWindSens p1 p2 = .next t) : p2.chip.KeepsShape t.chip := by
  refine State.act_shape h ?_
  intro z c1 hc1
  refine .ite ?_ hc1
  extract_lets +onlyGivenNames x2
  have hx2 : z.KeepsShape x2 := Chip.sets_shape hc1
  clear_value x2
  exact Chip.showLim_shape (Chip.noteCl_shape hx2)

theorem execWriteTempFail_shape {p1 : Bool} {p2 : State} {t : State} (h : execWriteTempFail p1 p2 = .next t) : p2.chip.KeepsShape t.chip := by
  refine State.act_shape h ?_
  intro z c1 hc1
  split
  · exact hc1
  · rename_i y4 q5
    refine .ite hc1 ?_
    extract_lets +onlyGivenNames x6
    have hx6 : z.KeepsShape x6 := Chip.put_shape (Chip.bump_shape (Chip.writeFailed_shape hc1))
    clear_value x6
    exact Chip.note_shape hx6

theorem execWrite_shape {p1 : Word} {p2 : List Byte} {p3 : State} {t : State} (h : execWrite p1 p2 p3 = .next t) : p3.chip.KeepsShape t.chip :=
  State.actIf_shape h (fun _ c1 hc1 => Chip.hostWrite_shape hc1)

theorem execXhizRelease_shape {p1 : State} {t : State} (h : execXhizRelease p1 = .next t) : p1.chip.KeepsShape t.chip :=
  State.act_shape h (fun _ c1 hc1 => Chip.xhizRelease_shape hc1)

end Sys2Proof.Machine
end

