-- ==== Sys2Proof/Tests/Slice0.lean ====
section
/-! SUPPORT. The model's own tests: a term that each check of well-formedness refuses; for every statement of the obligations
with hypotheses, states and operands that meet them, clause by clause, at boundary values; and single steps whose results are
those of the spec's tables. -/

namespace Sys2Proof.Tests

open Sys2Proof.Machine Sys2Proof.Machine.Chip

set_option Elab.async false

/-! ### Small states -/

/-- The module after reset with some fields set. -/
def having (l : List (Field × Nat)) : Chip := State.reset.chip.sets l

/-- The control die runs and the module has its instances. -/
def sound (c : Chip) : Bool :=
  !c.pwr.dieReset && c.rgn.length == 2 && c.cl.length == 4 && c.meas.length == 4 && c.pos.length == 2 && c.cle.length == 4
    && c.slice.length == 16 && c.isl.length == 12 && c.hart.length == 4 && c.can.length == 4

/-- A sound module has the shape that the statements ask for. -/
theorem sound_shaped {c : Chip} (h : sound c = true) : c.pwr.dieReset = false ∧ c.Shaped := by
  simp only [sound, Bool.and_eq_true, Bool.not_eq_true', beq_iff_eq] at h
  obtain ⟨⟨⟨⟨⟨⟨⟨⟨⟨h0, h1⟩, h2⟩, h3⟩, h4⟩, h5⟩, h6⟩, h7⟩, h8⟩, h9⟩ := h
  exact ⟨h0, h1, h2, h3, h4, h5, h6, h7, h8, h9⟩

/-- A sound module that meets a condition. -/
def met (c : Chip) (p : Chip → Bool) : Bool := sound c && p c

/-- Both regions run. -/
def running (c : Chip) : Chip := { c with rgn := [{ inReset := false, up := true }, { inReset := false, up := true }] }

/-- The topology in force. -/
def withTopo (l : List Topo) (c : Chip) : Chip := { c with img := { c.img with topo := l } }

/-- Cluster 0 of a type, on slice 0, with converter 0, comparator 0, sigma-delta input 0 and position channel 0. -/
def typed (t : Nat) (c : Chip) : Chip :=
  withTopo [{ type := t, slices := 1, sar := 1, cmp := 1, sd := 1, position := 0 }] c

/-- The fields set in a module. -/
def also (l : List (Field × Nat)) (c : Chip) : Chip := c.sets l

/-! ### Well-formedness -/

/-- A frame of classical CAN whose data does not match its length code. -/
def badFrame : CanFrame := ⟨0, false, false, false, false, false, 2, []⟩

/-- An acyclic data frame with one byte more than R629 allows. -/
def badMsg : AcyclicFrame := ⟨.data, 0, 1, 0, 0, List.replicate 1009 0⟩

theorem test_ill_formed :
    ([.frameReceive 0 badFrame 0, .idRecordLoad 0 (some []), .dieSensorSample [], .read 0 3 [], .write 0 [0],
      .hpCsNRise (.whole 0 [0]), .acyclicFrameRx false badMsg true, .copyFrameRx 0 (List.replicate 1025 0) true true] : List Instr).all
      (fun i => !i.wf) = true := by decide +kernel

/-- Which stop an outcome is. -/
def stops : Host.Outcome State Fault Refusal → Bool
  | .fault .illFormed => true
  | _ => false

theorem test_ill_formed_stops :
    (stops (exec (.write 0 [0]) State.reset) && !stops (exec .pllLock State.reset)) = true := by decide +kernel

theorem test_well_formed :
    ([.frameReceive 0 { badFrame with data := [1, 2] } 0, .read 0 2 [], .write 0 [0, 1], .unitReset .ring] : List Instr).all
      Instr.wf = true := by decide +kernel

/-! ### Witnesses: queue, bus, power -/

theorem test_reset_sound : sound State.reset.chip = true := by decide +kernel

theorem test_met_queue :
    ({ State.reset with pending := [.pllLock] }.queueWf && State.reset.queueWf && State.reset.pending.isEmpty
      && State.reset.chip.wf && State.reset.chip.bus.posted.isEmpty && !Instr.wf (.write 0 [])) = true := by decide +kernel

theorem test_met_levels :
    State.reset.chip.irq.prev = State.reset.chip.levels ∧ State.reset.chip.irq.lines = 0 := by decide +kernel

/-- WriteFieldByAccess: a field of each access type, with a value inside its width. -/
theorem test_met_access :
    (met State.reset.chip fun c => Reg.PORCH_CFG_skip.acc == .rw && (Reg.SEQ_STAT_state 0).acc == .ro && c.get Reg.CHM_FLAGS_rec_bad < 2) = true := by
  decide +kernel

theorem test_met_register_write :
    (met (running State.reset.chip) (fun c => c.coreRuns 0 && c.coreRuns 2 && c.bus.posted.isEmpty && c.bus.landed.isEmpty && c.quiet 3
        && c.get Reg.CHM_FLAGS_rec_bad < 2)
      && met ((running State.reset.chip).set (Reg.SEQ_STAT_state 3) 2) (fun c => c.coreRuns 0 && !c.quiet 3)
      && met { running State.reset.chip with bus := { resets := [.pos 1] } } (fun c =>
        c.coreRuns 0 && c.bus.resets.contains (.pos 1))) = true := by decide +kernel

theorem test_met_unit_reset :
    (met (running State.reset.chip) (fun c => c.takes (unitCtl .ring) && c.rwlOpen (unitCtl .ring)
        && c.takes (unitCtl (.isl 11)) && c.rwlOpen (unitCtl (.isl 11)))
      && met (typed 1 (running (having [(Reg.SEQ_STAT_state 0, 2)]))) (fun c => c.takes (unitCtl (.cle 0))
        && !c.rwlOpen (unitCtl (.cle 0)) && c.takes (unitCtl (.isl 0)) && !c.rwlOpen (unitCtl (.isl 0)))
      && met { State.reset.chip with bus := { resets := [.pos 1] } } (fun c => c.bus.resets.contains (.pos 1) && c.bus.held == [])
      && met { State.reset.chip with bus := { resets := [.pos 1], held := [⟨.hart 0, 0x4130011C, 4, 5, 0⟩] } } (fun c =>
        c.bus.resets == [.pos 1] && c.bus.landed == [] && c.bus.held.length == 1 && c.bus.held.all fun p => p.addr == 0x4130011C))
      = true := by decide +kernel

theorem test_met_readback : (met (running State.reset.chip) fun c => !(c.region 1).inReset) = true := by decide +kernel

theorem test_met_fence : (met (running State.reset.chip) fun c => c.coreRuns 3 || c.coreRuns 2) = true := by decide +kernel

theorem test_met_flag_release :
    (met State.reset.chip (fun c => !c.reqRuns (.hart 0) && c.reqRuns .host && c.bus.posted == [] && c.bus.held == []
        && c.bufOwner 1023 == 0)
      && met ((running State.reset.chip).flagPut 1023 1) (fun c => c.reqRuns (.hart 0) && c.bufOwner 1023 == 1)) = true := by
  decide +kernel

/-- A waiting log entry. -/
def someEntry : LogEntry := (State.reset.chip.note 0x0E10 0 0).log.queue.headD default

theorem test_met_log_write :
    (met { having [(Reg.CHM_STAT_t_die_ok, 1), (Reg.CHM_T_DIE_t_die, 0x41A00000)] with log := { queue := [someEntry] } }
        (fun c => c.writeTempOk .log && c.log.queue.length == 1 && c.chm.writes.isEmpty)
      && met { State.reset.chip with log := { queue := [someEntry] } } (fun c => !c.writeTempOk .log)) = true := by
  decide +kernel

theorem test_met_brown_out :
    (met (having [(Reg.PWR_STAT_vcore_good, 1), (Reg.PWR_STAT_vio_good, 1)]) (fun c => c.pwr.state == .run
        && c.pwr.sleep == .none && c.on Reg.PWR_STAT_vcore_good && c.on Reg.PWR_STAT_vio_good)
      && met { State.reset.chip with pwr := { state := .watch } } (fun c => c.pwr.state != .run)) = true := by
  decide +kernel

theorem test_met_rail_warn :
    (met State.reset.chip fun c => !c.on Reg.PWR_STAT_vcore_warn && !c.on Reg.PWR_STAT_vio_warn
      && !c.on Reg.PWR_STAT_vdda_warn && !c.on Reg.PWR_STAT_xfmr_low) = true := by decide +kernel

theorem test_met_power_on :
    (let c := { State.reset.chip with pwr := { dieReset := true, railsUp := false } }
     c.pwr.dieReset && c.pwr.state == .run && c.pwr.sleep == .none && !c.pwr.railsUp && !c.pwmG.fltLow && !c.hw.sleepPin)
      = true := by decide +kernel

theorem test_met_sleep :
    (met (having [(Reg.SEQ_STAT_state 0, 2)]) (fun c => c.sleepBits 0xD0E50001 == 1)
      && met State.reset.chip (fun c => c.sleepBits 0xD0E50001 == 0)
      && met { State.reset.chip with pwr := { xferRun := [(0x41A00804, 1)] } } (fun c =>
        c.pwr.xferRun.length == 1 && c.pwr.sleep == .none && c.pwr.state != .dormant && c.pwr.state != .off && c.pwr.xferRun.all fun p => p.1 != 0x41A00818)
      && met { State.reset.chip with pwr := { sleep := .queued true, xferRun := [(0x41A00818, 0xD0E50001)] } } (fun c =>
        (c.pwr.xferRun.find? fun p => p.1 = 0x41A00818).isSome && c.pwr.state == .run)
      && met { State.reset.chip with pwr := { state := .dormant } } (fun c => c.pwr.state == .dormant)
      && met { State.reset.chip with pwr := { sleep := .waiting false } } (fun c => c.pwr.sleep == .waiting false)) = true := by
  decide +kernel

theorem test_met_wake_slots :
    (met State.reset.chip (fun c => !c.slotOn 15)
      && met { State.reset.chip with pwr := { acting := [(0x41A00808, 0xFFFF)], state := .dormant } } (fun c =>
        c.slotOn 0 && c.slotOn 4 && !c.slotOn 5)
      && met { State.reset.chip with pwr := { acting := [(0x41A00808, 0xFFFF)], sleep := .queued false } } (fun c =>
        c.slotOn 14 && c.pwr.state == .run)) = true := by decide +kernel

theorem test_met_clock_monitors :
    (met (running State.reset.chip) (fun c => c.pwr.locked && !(c.region 1).inReset && !c.pairWaits 1)
      && met State.reset.chip (fun c => (c.region 0).inReset)) = true := by decide +kernel

theorem test_met_reference_loss :
    (met State.reset.chip (fun c => !c.on Reg.CLK_STAT_on_backup)
      && met (having [(Reg.CLK_STAT_on_backup, 1)]) (fun c => c.on Reg.CLK_STAT_on_backup)) = true := by decide +kernel

theorem test_met_gate_and_wfi :
    (met (running (having [(Reg.CLK_RGN_CTL_stop_en_b, 1)])) (fun c => c.stopCond 1 && !(c.region 1).inReset && !c.stopCond 0)
      && met (running State.reset.chip).settle (fun c => c.irq.prev == c.levels && !c.line (c.hartOf 3))
      && met ((running (having [(Reg.IRQ_C_PRIV_pend 0, 1), (Reg.IRQ_C_PRIV_en 0, 1)])).settle) (fun c =>
        c.irq.prev == c.levels && c.line (c.hartOf 0) && c.coreRuns 0)
      && met State.reset.chip (fun c => !c.coreRuns 0)) = true := by decide +kernel

/-! ### Witnesses: reset, start, life cycle, pins -/

theorem test_met_reset_pin :
    (met State.reset.chip (fun c => !c.on Reg.CEL_STAT_rst_masked)
      && met { having [(Reg.CEL_STAT_rst_masked, 1)] with cfg := { rstLow := true } } (fun c =>
        c.on Reg.CEL_STAT_rst_masked && c.cfg.rstLow && !c.pwmG.fltLow && !c.hw.sleepPin)
      && met { State.reset.chip with cfg := { rstLow := true }, log := { retention := List.replicate 15 someEntry } } (fun c =>
        !c.cfg.rstStuck && c.log.retention.length < 16 && !hasBit (c.acting 0x41A00804) 2 && c.pwr.railsUp)
      && met { State.reset.chip with cfg := { rstLow := true }, pwr := { acting := [(0x41A00804, 4)] } } (fun c =>
        c.log.retention.length < 16 && hasBit (c.acting 0x41A00804) 2)
      && met (having [(Reg.CEL_STAT_rst_masked, 1)]) (fun c => !c.cfg.rstLow && c.pwr.state == .run)) = true := by
  decide +kernel

theorem test_met_resets_by_request :
    (part 0x5E7A0004 16 16 == 0x5E7A && hasBit 0x5E7A0004 2 && part 0x5E7A0002 16 16 == 0x5E7A && 0x5E7A0002 % 8 == 2
      && met (running State.reset.chip) (fun c => !(c.region 1).inReset && c.debugOpen)
      && met { State.reset.chip with cfg := { fuses := { integrate := true } } } (fun c => !c.debugOpen)) = true := by
  decide +kernel

theorem test_met_start_up :
    (met State.reset.chip (fun c => c.pwr.locked && c.cfg.boot == 0 && c.bootRec.trial == 0)
      && met { State.reset.chip with pwr := { locked := false } } (fun c => !c.pwr.locked)) = true := by decide +kernel

theorem test_met_regions_come_up :
    (met State.reset.chip (fun c => !c.slotReady 0)
      && met { State.reset.chip with cfg := { boot := 1 }, rgn := [{ up := true }, { up := true }] } (fun c =>
        c.slotReady 1 && (c.region 1).up && !hasBit c.cfg.selfTest 1 && !hasBit c.cfg.bringUp 1)
      && met { State.reset.chip with cfg := { boot := 1 } } (fun c => !(c.region 0).up && !(c.region 0).dead)
      && met { State.reset.chip with cfg := { boot := 1, bringUp := 2 } } (fun c => c.slotReady 1 && hasBit c.cfg.bringUp 1)
      && met (running State.reset.chip) (fun c => c.get (fullField 0) == 0 && c.get Reg.CFG_LC_STAT_state == 0 && c.quiet 0
        && c.quiet 1 && !(c.region 0).inReset)
      && met (having [(Reg.CFG_LC_STAT_state, 2)]) (fun c => c.get (fullField 1) == 0)
      && met { State.reset.chip with cfg := { boot := 1, selfTest := 1 } } (fun c => c.slotReady 0 && hasBit c.cfg.selfTest 0))
      = true := by decide +kernel

theorem test_met_boot_record :
    (part 0xB0A70000 16 16 == 0xB0A7 && !hasBit 0xB0A70000 8 && part 0xC0A10000 16 16 == 0xC0A1
      && met State.reset.chip (fun c => !c.on Reg.CFG_BANK_CTL_wr_busy && !c.on Reg.CFG_ARB_busy
        && c.cfg.fuses.arb ≤ c.get Reg.CFG_ARB_image_sv && !c.on Reg.CFG_BANK_CTL_trial)
      && met { State.reset.chip with
        cfg := { bootUpdate := some ⟨1, 1, 3⟩, fuses := { arb := 64 } }, chm := { writes := [⟨.boot, false, true, 0⟩] } } (fun c =>
        (c.chm.writes.any fun w => decide (w.owner = .boot) && w.started) && c.get Reg.CFG_ARB_image_sv < c.cfg.fuses.arb)
      && met (having [(Reg.CFG_ARB_busy, 1)]) (fun c => c.on Reg.CFG_ARB_busy)) = true := by decide +kernel

theorem test_met_tokens :
    (part 0x70CE0000 16 16 == 0x70CE
      && met (State.reset.chip.flagPut 0 1) (fun c => !c.on Reg.CFG_LC_STAT_busy && c.bufOwner (part 0x70CE0000 0 10) == 1)
      && met State.reset.chip (fun c => c.bufOwner 0 == 0 && !c.on Reg.CFG_ST_CTL_fuse_repair && c.get Reg.CFG_LC_STAT_state == 0)
      && met (having [(Reg.CFG_LC_STAT_busy, 1)]) (fun c => c.on Reg.CFG_LC_STAT_busy)
      && met { State.reset.chip with cfg := { token := some 5 } } (fun c => c.tokenCheck 5 == .inl 2)
      && met (having [(Reg.CFG_ST_CTL_fuse_repair, 1)]) (fun c => c.on Reg.CFG_ST_CTL_fuse_repair)) = true := by
  decide +kernel

theorem test_met_gpio :
    (met { having [(Reg.GPIO_RISE_EN_v, 0xFFFFFFFF)] with img := { pins := [⟨gpioId 31, 2, 0⟩] } } (fun c =>
        !hasBit (Nat.xor c.cfg.gpioIn c.gpioInv) 31 && hasBit c.gpioPins 31 && !hasBit (c.get Reg.GPIO_DIR_v) 31
          && hasBit (c.get Reg.GPIO_RISE_EN_v) 31)
      && met State.reset.chip (fun c => !hasBit c.gpioPins 0 || hasBit c.gpioPins 0)) = true := by decide +kernel

/-! ### Witnesses: clusters and Larder -/

/-- Cluster 0 of a type with a motor record of the same type, in a state, in a region brought up after torque-ready. -/
def clusterAt (t st : Nat) : Chip :=
  let c := typed t (running (having [(Reg.SEQ_STAT_state 0, st), (Reg.CFG_BOOT_STAT_torque_ready, 1)]))
  { c with img := { c.img with motors := [{ type := t, flags := 4 }] } }

theorem test_met_run_requests :
    (met (clusterAt 1 1) (fun c => !c.on (Reg.SEQ_STAT_lent 0) && c.clState 0 == 1 && c.takes 0x40000000 && !(c.cluster 0).fallDue)
      && met (running State.reset.chip) (fun c => c.runRefusal 3 != 0 && !c.on (Reg.SEQ_STAT_lent 3) && c.takes 0x40030000)
      && met (clusterAt 1 4) (fun c => c.runRefusal 0 == 0 && c.clState 0 == 4)
      && met ((clusterAt 1 5).set Reg.CFG_BOOT_STAT_torque_ready 0) (fun c => c.runRefusal 0 == 0 && c.quiet 0 && !c.startDone 0)
      && met (clusterAt 3 0) (fun c => c.runRefusal 0 == 0 && c.quiet 0 && c.startDone 0 && c.motorType 0)
      && met (clusterAt 5 5) (fun c => c.runRefusal 0 == 0 && c.quiet 0 && c.startDone 0 && c.posOf 0 == some 0
        && !legalHall (c.get (Reg.POS_STAT_hall 0)))
      && met ((clusterAt 5 5).set (Reg.POS_STAT_hall 0) 6) (fun c => legalHall (c.get (Reg.POS_STAT_hall 0)))
      && met (clusterAt 2 3) (fun c => c.runRefusal 0 == 0 && c.clState 0 == 3)) = true := by decide +kernel

theorem test_met_stop_and_halt :
    (met (clusterAt 1 0) (fun c => c.clState 0 == 0) && met (clusterAt 1 5) (fun c => c.clState 0 == 5)
      && met (clusterAt 1 4) (fun c => c.clState 0 == 4)
      && met ((clusterAt 1 1).set (Reg.SEQ_STAT_overspeed 0) 1) (fun c => c.clState 0 == 1 && c.on (Reg.SEQ_STAT_overspeed 0))
      && met (clusterAt 1 1) (fun c => !c.on (Reg.SEQ_STAT_overspeed 0))
      && met (clusterAt 1 2) (fun c => c.takes 0x40000000 && !(c.cluster 0).fallDue && c.clState 0 == 2 && (c.topo 0).type != 5 && !c.on (Reg.SEQ_STAT_wdis 0)
        && !c.on (Reg.SEQ_STAT_lent 0))) = true := by decide +kernel

theorem test_met_other_requests :
    (met (clusterAt 1 3) (fun c => c.clState 0 == 3 && !c.on (Reg.SEQ_STAT_lent 0) && c.takes 0x40000000 && !(c.cluster 0).fallDue)
      && met ((clusterAt 1 4).modCl 0 fun x => { x with faults := [⟨0x071D, 0, true, 0⟩] }) (fun c => c.clState 0 == 4
        && c.demand 0 % 128 == 0 && !(c.cluster 0).stoRel && !(c.cluster 0).standing
        && (c.islandsOf 0).all (fun n => (c.island n).faults.isEmpty)
        && (c.cluster 0).faults.all fun x => x.latch && x.code != 0x0710 && c.causeGone 0 x)
      && met ((clusterAt 1 0).sets [(Reg.POS_STAT_pos_valid 0, 1), (Reg.POS_STAT_standstill 0, 1)]) (fun c => c.quiet 0
        && hasBit (c.motor 0).flags 2 && c.posOf 0 == some 0 && c.on (Reg.POS_STAT_pos_valid 0)
        && c.on (Reg.POS_STAT_standstill 0))
      && met (let c := (clusterAt 1 0).sets [(Reg.OBS_CFG_hfi_en 0, 1), (Reg.POS_STAT_standstill 0, 1)]
          { c with img := { c.img with motors := [{ type := 1, flags := 5 }] } }) (fun c => c.quiet 0 && hasBit (c.motor 0).flags 2
        && c.hfiOk 0 (c.engineOf 0) && c.posOf 0 == some 0 && c.on (Reg.POS_STAT_standstill 0))
      && met (running State.reset.chip) (fun c => c.takes 0x40030000 && c.quiet 3 && !hasBit (c.motor 3).flags 2 && c.posOf 3 == none && !c.hfiOk 3 (c.engineOf 3))
      && met (running { having [(Reg.OBS_CFG_hfi_en 3, 1)] with img := { motors := [{}, {}, {}, { flags := 5 }] } }) (fun c => c.takes 0x40030000 && c.quiet 3
        && hasBit (c.motor 3).flags 2 && c.posOf 3 == none && c.hfiOk 3 (c.engineOf 3))
      && met ((clusterAt 1 2).modCl 0 fun x => { x with duplex := .active, splitAsked := true }) (fun c => c.duplexed 0)
      && met (clusterAt 1 2) (fun c => c.quiet (partner 0) && !c.on (Reg.SEQ_STAT_lent (partner 0))
        && c.get (Reg.CLE_CRC_v 0) == c.get (Reg.CLE_CRC_v (partner 0)))) = true := by decide +kernel

theorem test_met_duplex_crc : (State.reset.chip.obsCrc 0 == State.reset.chip.obsCrc (partner 0)) = true := by decide +kernel

/-- Cluster 0 at a boundary of its lead slice. -/
def atEdge (c : Chip) : Chip :=
  (c.set (Reg.PWM_S_STAT_running 0) 1).modSlice 0 fun x => { x with valleyAt := some c.now }

theorem test_met_duplex_steps :
    (met (atEdge ((clusterAt 1 2).modCl 0 fun x => { x with duplex := .requested })) (fun c => c.atBoundary 0
        && (c.cluster 0).duplex == .requested)
      && met (atEdge ((clusterAt 1 2).modCl 0 fun x => { x with duplex := .active, splitAsked := true })) (fun c =>
        c.atBoundary 0 && c.duplexed 0 && (c.cluster 0).splitAsked)) = true := by decide +kernel

theorem test_met_cluster_faults :
    (met { (clusterAt 1 3).set (Reg.SEQ_DEC_TO_ms 0) 1 with now := ms 1 } (fun c => c.clState 0 == 3
        && c.get (Reg.SEQ_DEC_TO_ms 0) != 0 && (c.cluster 0).enteredAt + ms (c.get (Reg.SEQ_DEC_TO_ms 0)) ≤ c.now)
      && met ((clusterAt 1 3).set (Reg.SEQ_DEC_TO_ms 0) 0) (fun c => c.get (Reg.SEQ_DEC_TO_ms 0) == 0)
      && met (((clusterAt 1 2).set (Reg.OBS_CFG_ke_chk_en 0) 1).modCl 0 fun x => { x with keTicks := ms 2000 }) (fun c =>
        !c.on (Reg.SEQ_STAT_lent 0) && c.on (Reg.OBS_CFG_ke_chk_en (c.engineOf 0)) && ms 2000 ≤ (c.cluster (c.engineOf 0)).keTicks
          && (c.cluster 0).faults.all fun x => x.code != 0x0513)
      && met ((clusterAt 5 2).sets [(Reg.FC_BCM_CTL_duty 0, 1), (Reg.FC_BCM_CTL_stall 0, 1)]) (fun c => (c.topo 0).type == 5
        && c.get (Reg.FC_BCM_CTL_duty 0) != 0 && c.get (Reg.FC_BCM_CTL_stall 0) != 0 && c.posOf 0 == some 0
        && decide ((c.now : Int) < (c.posS 0).tE + ms 1))
      && met { (clusterAt 5 2).sets [(Reg.FC_BCM_CTL_duty 0, 1), (Reg.FC_BCM_CTL_stall 0, 1)] with now := ms 1 } (fun c =>
        c.posOf 0 == some 0 && c.get (Reg.FC_BCM_CTL_stall 0) == 1 && decide ((c.posS 0).tE + ms 1 ≤ (c.now : Int)))
      && met { ((clusterAt 1 4).modCl 0 fun x => { x with faults := [⟨0x0514, 0, false, 0⟩] }) with now := ms 100 } (fun c =>
        (c.cluster 0).faults.length == 1 && c.clState 0 == 4 && c.demand 0 % 128 == 0
          && (c.cluster 0).faults.all fun x => !x.latch && c.causeGone 0 x && (retryRule x.code).isSome
            && ((retryRule x.code).all fun r => r.1 + c.waitFrom x ≤ c.now))
      && met { ((clusterAt 1 4).modCl 0 fun x => { x with faults := [⟨0x0712, 0, false, 0⟩] }) with now := ms 10 } (fun c =>
        (c.cluster 0).faults.all fun x => c.causeGone 0 x && (retryRule x.code).all fun r =>
          r.1 + c.waitFrom x ≤ c.now)
      && met { ((clusterAt 1 4).modCl 0 fun x => { x with faults := [⟨0x0713, 2, false, 0⟩] }) with now := ms 20, adc := { cmpFree := [(2, ms 10)] } }
        (fun c => (c.cluster 0).faults.all fun x => c.causeGone 0 x && c.waitFrom x == ms 10 && (retryRule x.code).all fun r =>
          r.1 + c.waitFrom x ≤ c.now)) = true := by decide +kernel

/-- Cluster 0 in CATCH by short-circuit probes at the end of its first probe of two microseconds. -/
def probing (f : ClusterS → ClusterS) (l : List (Field × Nat)) : Chip :=
  { (((clusterAt 1 1).sets ([(Reg.SEQ_CATCH_IMIN_v 0, 0x3F800000)] ++ l)).modCl 0 f) with now := 400 }

/-- A probe's currents: below and above a limit of 1.0. -/
theorem test_met_catch :
    (met (probing id []) (fun c => c.clState 0 == 1 && c.catchMethod 0 == 1 && c.probeEnds 0
        && (c.cluster 0).lastProbe != some c.now && (c.cluster 0).lock == none && (c.cluster 0).flux == none
        && !c.on (Reg.SEQ_STAT_overspeed 0)
        && F32.lt (hypot (clarke (0, 0, 0)).1 (clarke (0, 0, 0)).2) (c.get (Reg.SEQ_CATCH_IMIN_v 0))
        && !F32.lt (hypot (clarke (0x41200000, 0, 0)).1 (clarke (0x41200000, 0, 0)).2) (c.get (Reg.SEQ_CATCH_IMIN_v 0))
        && (c.cluster 0).lowProbes < 3 && (c.cluster 0).probes.length < 3)
      && met (probing (fun x => { x with catchAt := 1 }) []) (fun c => c.clState 0 == 1 && !c.probeEnds 0)
      && met (probing (fun x => { x with lowProbes := 3 }) []) (fun c => c.catchMethod 0 == 1 && c.probeEnds 0
        && (c.cluster 0).lowProbes == 3 && !c.hfiOk 0 (c.engineOf 0) && c.log.queue.length < 32)
      && met { clusterAt 1 1 with now := ms 8 } (fun c => (c.cluster 0).flux == none && (c.cluster 0).catchAt + ms 8 ≤ c.now)
      && met { clusterAt 1 1 with now := ms 8 - 1 } (fun c => c.now < (c.cluster 0).catchAt + ms 8)) = true := by decide +kernel

/-- Cluster 0 with a swap request of table `t` at a step, after so many waits. -/
def swapping (t : Nat) (x : SwapStep) (w : Nat) : Chip :=
  atEdge ((clusterAt 1 2).modCl 0 fun y =>
    { y with swap := updNth (fun _ => x) t y.swap, waits := updNth (fun _ => w) t y.waits })

theorem test_met_larder_swaps :
    (met (clusterAt 1 2) (fun c => (c.cluster 0).swap.length == 3 && !c.on (Reg.CHM_C_CFG_age_en 0) && c.takes 0x40000084
        && c.swapOf 0 2 == .none && !c.atBoundary 0)
      && met (swapping 1 .checking 0) (fun c => c.swapOf 0 1 == .checking)
      && met (swapping 0 .ready 0) (fun c => c.swapOf 0 0 == .ready && c.atBoundary 0)
      && met (swapping 2 .ready 14) (fun c => c.swapOf 0 2 == .ready && c.atBoundary 0 && (c.cluster 0).waits.getD 2 0 < 15)
      && met (swapping 2 .ready 15) (fun c => (c.cluster 0).waits.getD 2 0 == 15
        && !hasBit (c.get (Reg.SEQ_LDR_STAT_defer 0)) 2)) = true := by decide +kernel

set_option maxRecDepth 20000 in
/-- The shadow of table 1 with its check sum, and without. -/
theorem test_met_larder_checks :
    (met ((swapping 1 .checking 0).store 0x4200C940 4 0xE6579FF3) (fun c => c.shadowOk 0 1)
      && met (swapping 1 .checking 0) (fun c => !c.shadowOk 0 1)) = true := by decide +kernel

theorem test_met_larder_writes :
    (met State.reset.chip (fun c => ldrTable (4 * 4112) == some 0 && ldrTable (4 * 4113) == none && 0 == c.ldrAct 0 0
        && ldrTable (4 * 0x1280) == some 2 && 1 != c.ldrAct 0 2 && !c.on (Reg.CHM_C_CFG_age_en 0))
      && met (having [(Reg.CHM_C_CFG_age_en 0, 1)]) (fun c => c.on (Reg.CHM_C_CFG_age_en 0))) = true := by decide +kernel

/-! ### Witnesses: measurement and position -/

/-- Cluster 0 of type 1 in a state. -/
def motorAt (st : Nat) : Chip := typed 1 (running (having [(Reg.SEQ_STAT_state 0, st)]))

theorem test_met_reference :
    (met State.reset.chip (fun c => c.allQuiet && c.adc.refWait && c.pwr.vddaOk)
      && met (motorAt 2) (fun c => !c.allQuiet)
      && met { having [(Reg.ADC_STAT_ref_rdy, 1)] with adc := { refSeen := some (0, 2551000) }, now := 1999 } (fun c =>
        c.on Reg.ADC_STAT_ref_rdy && c.pwr.vddaOk && !c.refSeenGood)
      && met { State.reset.chip with adc := { refSeen := some (0, 2550000) }, now := 1999 } (fun c => c.refSeenGood)
      && met { State.reset.chip with adc := { refSeen := some (0, 2550000) }, now := 2000 } (fun c => !c.refSeenGood)
      && met { State.reset.chip with pwr := { vddaOk := false } } (fun c => !c.pwr.vddaOk)) = true := by decide +kernel

theorem test_met_scan :
    (met { State.reset.chip with adc := { scanAt := some 0 } } (fun c => c.adc.scanAt == some c.now)
      && met (having [(Reg.ADC_STAT_scan_busy, 1)]) (fun c => c.adc.scanAt != some c.now && c.on Reg.ADC_STAT_scan_busy)
      && met State.reset.chip (fun c => c.adc.scanAt != some c.now && !c.on Reg.ADC_STAT_scan_busy && !c.scanDead 0)
      && met { having [(Reg.ADC_STAT_scan_busy, 1), (Reg.ADC_SCAN_CTL_last, 15), (Reg.ADC_SCAN_ain 15, 47), (Reg.ADC_SCAN_conv 15, 15)] with adc := { scanNext := 15 } } (fun c => c.on Reg.ADC_STAT_scan_busy && c.adc.scanNext == 15
          && 15 ≤ c.get Reg.ADC_SCAN_CTL_last && !c.scanDead 15 && (c.scanConvs 15).all fun n => c.convFree n (c.scanTicks 15))
      && met State.reset.chip (fun c => c.adc.scanNext != 15)
      && met (having [(Reg.ADC_STAT_scan_busy, 1), (Reg.ADC_SCAN_conv 0, 2)]) (fun c => c.adc.scanNext == 0 && c.scanDead 0)
      && met { having [(Reg.ADC_S_CFG_en 0, 1)] with adc := { scanOut := [⟨0, 0, [0], 1, 100, []⟩] } } (fun c =>
        (c.adc.scanOut.find? fun p => p.entry = 0).any fun p => decide (c.now < p.due) && p.want == 1)
      && met { having [(Reg.ADC_S_CFG_en 0 , 1)] with adc := { scanOut := [⟨0, 0, [0], 1, 100, []⟩] }, now := 100 } (fun c =>
        (c.adc.scanOut.find? fun p => p.entry = 0).any fun p => decide (p.due ≤ c.now) && p.want == 1)) = true := by decide +kernel

theorem test_met_modulator_clocks :
    (met (motorAt 2) fun c => ((c.sdClkOwners 0).find? fun k => !c.quiet k) == some 0
      && (c.sdClkOwners 3).all fun k => c.quiet k) = true := by decide +kernel

theorem test_met_slots :
    (met (motorAt 0) (fun c => c.quiet 0 && !(c.validSlots 0).contains 27)
      && met (motorAt 2) (fun c => !c.quiet 0 && !c.sdRuns 0)
      && met ((motorAt 2).set (Reg.SD_CLK_CFG_en 0) 1) (fun c => c.sdRuns 0 && !hasBit c.adc.sdStuck 0 && hasBit (c.topo 0).sd 0))
      = true := by decide +kernel

/-- Comparator 0 of cluster 0 in a role, with thresholds of 768 and 256 codes. -/
def comparing (r : Nat) (l : List (Field × Nat)) : Chip :=
  ((motorAt 2).sets [(Reg.CMP_CFG_en 0, 1), (Reg.CMP_CFG_hi_en 0, 1), (Reg.CMP_CFG_lo_en 0, 1), (Reg.CMP_THR_hi 0, 768),
    (Reg.CMP_THR_lo 0, 256), (Reg.SAFE_CMP_ROLE0_role 0, r)]).sets l

/-- The input one microvolt beyond a threshold of a reference of 4.096 V, and at the threshold. -/
theorem test_met_comparators :
    (met State.reset.chip (fun c => !c.on (Reg.CMP_CFG_en 0) && !hasBit (c.get Reg.CMP_STAT_hi_now) 0)
      && met (comparing 1 [(Reg.CMP_CFG_filt 0, 5), (Reg.CMP_CFG_sel 0, 2)]) (fun c => c.cmpAin 0 == 32 && c.get (Reg.CMP_CFG_filt 0) == 5)
      && met (comparing 1 [(Reg.CMP_CFG_sel 0, 3)]) (fun c => c.cmpAin 0 == 0 && c.get (Reg.CMP_CFG_filt 0) ≤ 255 && c.cmpBeyond 0 false 3072001 4096000 && !c.cmpBeyond 0 false 3072000 4096000
        && c.cmpBeyond 0 true 1023999 4096000 && !c.cmpBeyond 0 true 1024000 4096000 && c.cmpRole 0 == 1
        && !hasBit (c.get Reg.CMP_STAT_hi_now) 0 && hasBit (c.topo 0).cmp 0 && c.pwr.vddaOk)
      && met (comparing 0 [(Reg.CMP_FLAGS_hi_trip, 1)]) (fun c => c.cmpRole 0 == 0 && hasBit (c.get Reg.CMP_FLAGS_hi_trip) 0)
      && met (comparing 2 []) (fun c => c.cmpRole 0 == 2)
      && met (comparing 3 []) (fun c => c.cmpRole 0 == 3 && c.motorType 0)
      && met (comparing 1 [(Reg.CMP_STAT_hi_now, 1), (Reg.CMP_STAT_lo_now, 1)]) (fun c =>
        c.cmpBack 0 false 3072000 4096000 && c.cmpBack 0 true 1024000 4096000
          && !c.cmpBack 0 false 3072001 4096000)) = true := by decide +kernel

theorem test_met_passes :
    (met State.reset.chip (fun c => !c.on (Reg.PWM_S_STAT_running 0) && !c.sdRuns 0)
      && met (atEdge ((motorAt 2).modSlice 0 fun x => { x with trig := [(2, 0)] })) (fun c => c.on (Reg.PWM_S_STAT_running 0)
        && ((c.sl 0).trig.getD 0 (3, 0)).1 == 2 && !c.carrierDown 0
        && c.carrierVal 0 == min ((c.sl 0).trig.getD 0 (3, 0)).2 (c.perOf 0)
        && c.sliceOwner 0 == some 0 && c.leadSlice 0 == some 0 && 0 == c.get (Reg.SEQ_CFG_trig_v 0) && !c.dblOf 0
        && !(c.region (rgnOf 0)).inReset)
      && met ((motorAt 2).modMeas 0 fun m => { m with waiting := [(0, 0)] }) (fun c => (c.measS 0).waiting.all fun p =>
        p.2 == (c.measS 0).base && p.1 < 28 && c.slotPath 0 p.1 == 0)) = true := by decide +kernel

/-- A sigma-delta result at the tick at which it is due. -/
def sdAwaited : Chip :=
  let c := ((motorAt 2).sets [(Reg.SD_CLK_CFG_en 0, 1), (Reg.ADC_C_SLOT_path 0 1, 1), (Reg.SD_CFG_dec 0, 16)]).modMeas 0
    fun m => { m with waiting := [(1, 0)] }
  { c with now := 244 }

theorem test_met_sd_results :
    (met sdAwaited fun c => c.sdRuns 0 && ((List.range 4).find? fun k => hasBit (c.topo k).sd 0) == some 0 && c.sdDec 0 == 16
      && c.now == c.sdDueTick 0 0 0
      && ((c.measS 0).waiting.find? fun p => c.slotPath 0 p.1 = 1 && c.slotUnit 0 p.1 = 0) == some (1, 0)) = true := by
  decide +kernel

/-- Channel 0 in a source mode, with more fields. -/
def position (m : Nat) (l : List (Field × Nat)) : Chip := (having [(Reg.POS_CFG_mode 0, m)]).sets l

/-- The same channel, its own state changed, at a tick. -/
def positionAt (m : Nat) (l : List (Field × Nat)) (f : PosS → PosS) (t : Nat) : Chip := { (position m l).modPos 0 f with now := t }

/-- A rising index edge is the one that counts; what the sample of this tick says is known. -/
def indexed (mode : Nat) (l : List (Field × Nat)) (f : PosS → PosS) : Chip :=
  (position 1 ([(Reg.POS_CFG_idx_mode 0, mode), (Reg.POS_CFG_idx_pol 0, 1)] ++ l)).modPos 0 fun p => f { p with sampleAt := some 0 }

theorem test_met_counting :
    (met (position 1 [(Reg.POS_CNT_cnt 0, 8191)]) (fun c => c.posMode 0 == 1 && (c.posS 0).idxDue == none
        && c.get (Reg.POS_CNT_cnt 0) < c.posCpr 0 && c.posCpr 0 < 2 ^ 24 && (c.posS 0).a == false && (c.posS 0).b == false
        && (c.posS 0).sampleAt != some c.now)
      && met (indexed 0 [] id) (fun c => (c.posS 0).sampleAt == some c.now && (c.posS 0).evalAt != some c.now
        && (c.posS 0).snapAt != some c.now && c.posMode 0 == 1 && (false == c.on (Reg.POS_CFG_idx_pol 0)) == false
        && !c.on (Reg.POS_CFG_idx_qual 0) && c.idxMode 0 == 0)
      && met (indexed 1 [(Reg.POS_CFG_idx_qual 0, 1)] fun p => { p with a := true, b := true }) (fun c => c.idxMode 0 == 1
        && (false == c.on (Reg.POS_CFG_idx_pol 0)) == false && (c.posS 0).a && (c.posS 0).b && (c.posS 0).sampleAt == some c.now)
      && met (indexed 3 [] id) (fun c => c.idxMode 0 == 3 && (c.posS 0).sampleAt == some c.now)
      && met (indexed 2 [] id) (fun c => c.idxMode 0 == 2 && (c.posS 0).want)
      && met (indexed 2 [(Reg.POS_CNT_cnt 0, 3)] fun p => { p with want := false }) (fun c => c.idxMode 0 == 2
        && !(c.posS 0).want && 2 < (c.idxDev 0).natAbs)
      && met (positionAt 1 [(Reg.POS_LIM_standstill 0, 1)] id (ms 1)) (fun c => c.standstillDue 0)
      && met (positionAt 1 [(Reg.POS_LIM_standstill 0, 1)] id (ms 1 - 1)) (fun c => !c.standstillDue 0)
      && met State.reset.chip (fun c => c.takes 0x41300010 && c.takes 0x41300110 && (c.posOwner 0).all fun k => c.quiet k)
      && met ((motorAt 2).set (Reg.POS_CFG_mode 0) 1) (fun c => c.takes 0x41300010 && c.posOwner 0 == some 0 && !c.quiet 0)) = true := by
  decide +kernel

/-- Channel 0 on port 0 of the fabric. -/
def strobing : Chip := let c := running (position 5 []); { c with
  rgn := [{ inReset := false, up := true }, {}], img := { c.img with ports := [⟨0, 0, 0, 0, 1, 0⟩] } }

theorem test_met_sources :
    (met (motorAt 2) (fun c => !c.selfDue 0)
      && met (positionAt 0 [] (fun p => { p with selfAt := some 0 }) 2000) (fun c => c.selfDue 0 && c.posMode 0 == 0)
      && met (positionAt 0 [] (fun p => { p with selfAt := some 0 }) 1999) (fun c => !c.selfDue 0)
      && met (position 2 [(Reg.POS_STAT_hall 0, 1)]) (fun c => c.posMode 0 == 2 && c.get (Reg.POS_STAT_hall 0) == 1
        && (c.posS 0).evalAt != some c.now && 5461 ≤ (c.hallEntry 0 3 + 65536 - c.hallEntry 0 1) % 65536
        && (c.hallEntry 0 3 + 65536 - c.hallEntry 0 1) % 65536 ≤ 16384)
      && met (position 4 [(Reg.POS_SENT_CFG_tick 0, 900)]) (fun c => c.posMode 0 == 4
        && 1 ≤ c.get (Reg.POS_SENT_CFG_tick 0) && c.get (Reg.POS_SENT_CFG_tick 0) ≤ 900
        && c.get (Reg.POS_SENT_CFG_nibbles 0) == 6 && (c.posS 0).syncPrev == none)
      && met (positionAt 4 [(Reg.POS_SENT_TMO_timeout 0, 0)] (fun p => { p with okAt := some 0 }) (ms 1 + 1)) (fun c =>
        !(c.posS 0).tmo && c.sourceTmo 0 < c.sourceAge 0)
      && met (positionAt 4 [(Reg.POS_SENT_TMO_timeout 0, 0)] (fun p => { p with okAt := some 0 }) (ms 1)) (fun c =>
        !(c.posS 0).tmo && c.sourceAge 0 == c.sourceTmo 0)
      && met (positionAt 4 [(Reg.POS_SENT_TMO_timeout 0, 0)] (fun p => { p with okAt := some 0 }) (ms 1 - 1)) (fun c =>
        c.sourceAge 0 < c.sourceTmo 0)
      && met (positionAt 4 [] (fun p => { p with tmo := true }) 0) (fun c => (c.posS 0).tmo)
      && met strobing (fun c => c.posMode 0 == 5 && c.strobes 0)
      && met (position 5 []) (fun c => !c.strobes 0)
      && met (positionAt 5 [(Reg.POS_FAB_CFG_timeout 0, 1)] (fun p => { p with okAt := some 0 }) 201) (fun c =>
        c.posMode 0 == 5 && !(c.posS 0).tmo && c.sourceTmo 0 < c.sourceAge 0)
      && met (positionAt 5 [(Reg.POS_FAB_CFG_timeout 0, 1)] (fun p => { p with okAt := some 0 }) 200) (fun c =>
        !(c.posS 0).tmo && c.sourceAge 0 == c.sourceTmo 0)
      && met State.reset.chip (fun c => c.takes 0x41300100 && c.rwlOpen 0x41300100 && (c.posS 1).arm == 0)
      && met (positionAt 1 [] (fun p => { p with arm := 2 }) 0) (fun c => c.takes 0x41300000 && c.rwlOpen 0x41300000
        && min 6 (1 % 8) == min 6 (c.get (Reg.POS_CFG_mode 0)) && (c.posS 0).arm != 0)
      && met (motorAt 2) (fun c => c.takes 0x41300000 && !c.rwlOpen 0x41300000)
      && sentCrc false [1, 2, 3, 4, 5, 6] < 16) = true := by
  decide +kernel

/-! ### Witnesses: control law engine and slices -/

theorem test_met_engine :
    (met (motorAt 4) (fun c => c.clState 0 == 4 && c.takes 0x40002000 && c.takes (0x40002000 + coefOff (.coef 47 4)) && F32.isFinite 0x7F7FFFFF && !F32.isFinite 0x7F800000)
      && met (motorAt 1) (fun c => c.clState 0 == 1 && !c.rwlOpen 0x40002090 && c.takes 0x40002000 && c.takes 0x40002090)
      && met (running State.reset.chip) (fun c => c.rwlOpen (0x40002090 + 0x30000) && c.takes (0x40002090 + 0x30000)
        && (c.cluster 3).duplex != .active && !c.on (Reg.SEQ_STAT_lent 3))
      && met (having [(Reg.SEQ_STAT_lent 3, 1)]) (fun c => c.on (Reg.SEQ_STAT_lent 3))
      && met (((motorAt 3).sets [(Reg.CLE_CTL_fe_ms 0, 1), (Reg.CLE_FE_LIM_v 0, 0x3F800000)]).modCle 0 fun x =>
        { x with feTicks := ms 1 }) (fun c => c.clState 0 == 3 && c.get (Reg.CLE_CTL_fe_ms (c.engineOf 0)) != 0
        && !F32.isZero (c.get (Reg.CLE_FE_LIM_v (c.engineOf 0)))
        && ms (c.get (Reg.CLE_CTL_fe_ms (c.engineOf 0))) ≤ (c.cleS (c.engineOf 0)).feTicks)) = true := by decide +kernel

theorem test_met_carriers :
    (met State.reset.chip (fun c => !c.on (Reg.PWM_S_STAT_running 15) && c.sliceOwner 15 == none && c.pwr.locked
        && c.get Reg.PWM_CAL_discards < 2 && !c.on (Reg.PWM_S_STAT_floor_lk 15) && c.rwlOpen 0x41000F1C)
      && met (running (having [(Reg.PWM_S_STAT_running 15, 1)])) (fun c => c.on (Reg.PWM_S_STAT_running 15) && !(c.sl 15).stopping
        && !c.bcmSlice 15 && c.reloadDue 15 false && !hasBit (c.get Reg.PWM_RELOAD_HOLD_v) 15 && c.pwmG.holdAt != some c.now
        && (c.sl 15).oldAt != some c.now && c.takes 0x41000F3C)
      && met ((having [(Reg.PWM_S_STAT_running 15, 1)]).modSlice 15 fun x => { x with valleyAt := some 0 }) (fun c =>
        !c.reloadDue 15 false && !c.reloadDue 15 true)
      && met (running (State.reset.chip.modSlice 15 fun x => { x with starting := true })) (fun c => (c.sl 15).starting && c.takes 0x41000F3C
        && c.sliceOwner 15 == none && c.takes 0x41000F1C && c.takes 0x41000F30 && c.rwlOpen 0x41000F1C)
      && met (having [(Reg.PWM_S_STAT_running 15, 1), (Reg.PWM_RELOAD_HOLD_v, 0x8000)]) (fun c =>
        hasBit (c.get Reg.PWM_RELOAD_HOLD_v) 15)
      && met (motorAt 2) (fun c => c.sliceOwner 0 != none && c.takes 0x4100003C && c.takes 0x4100001C && !c.rwlOpen 0x4100001C)
      && met (having [(Reg.PWM_CAL_discards, 2), (Reg.PWM_S_STAT_floor_lk 0, 1)]) (fun c => c.get Reg.PWM_CAL_discards == 2
        && c.on (Reg.PWM_S_STAT_floor_lk 0))) = true := by decide +kernel

/-- Slice `n` running at the end of the tick 100, its own state changed. -/
def sliceAt (n : Nat) (l : List (Field × Nat)) (f : SliceS → SliceS) : Chip :=
  { (having ((Reg.PWM_S_STAT_running n, 1) :: l)).modSlice n f with now := 100 }

/-- A type-3 cluster on slices 0 to 5. -/
def threeLevels (c : Chip) : Chip := withTopo [{ type := 3, slices := 63 }, {}, { type := 4 }, {}] c

theorem test_met_edges :
    (met State.reset.chip (fun c => !c.on (Reg.PWM_S_STAT_running 0) && !c.bootSlice 0 && !c.on Reg.PWM_XHIZ_flt_now)
      && met (sliceAt 15 [(Reg.PWM_S_CNT_half 15, 0)] fun x => { x with cup := 0 }) (fun c => c.on (Reg.PWM_S_STAT_running 15) && !c.bcmSlice 15 && !c.indep 15
        && c.get (Reg.PWM_S_CNT_half 15) == b2n (!true) && c.edgeTime 15 false true ≤ c.fineEnd)
      && met (sliceAt 15 [] fun x => { x with waitH := true, effH := true, waitL := true, effL := true }) (fun c =>
        (c.sl 15).waitH && (c.sl 15).effH && (c.sl 15).fromH + c.dth 15 ≤ c.fineEnd && (c.sl 15).waitL && (c.sl 15).effL
          && (c.sl 15).fromL + c.dtl 15 ≤ c.fineEnd)
      && met (sliceAt 15 [(Reg.PWM_S_CNT_half 15, 0)] id) (fun c => c.fineEnd < c.edgeTime 15 false true)
      && met (sliceAt 15 [(Reg.PWM_S_CNT_half 15, 1)] fun x => { x with valleyAt := some 0, per := 50 }) (fun c => c.on (Reg.PWM_S_STAT_running 15)
        && !c.bcmSlice 15 && !c.indep 15 && c.get (Reg.PWM_S_CNT_half 15) == b2n (!false) && c.edgeTime 15 false false ≤ c.fineEnd)
      && met (sliceAt 15 [] fun x => { x with waitL := true, refresh := true }) (fun c => (c.sl 15).waitL && (c.sl 15).refresh
        && (c.sl 15).fromL + c.dtl 15 ≤ c.fineEnd)
      && met (sliceAt 15 [(Reg.PWM_S_STAT_ovr 15, 3)] id) (fun c => c.ovr 15 == 3 && c.mayRiseH 15 c.fineEnd)
      && met (sliceAt 15 [(Reg.PWM_S_STAT_ovr 15, 2)] id) (fun c => c.ovr 15 == 2 && c.mayRiseL 15 c.fineEnd)
      && met (threeLevels (sliceAt 5 [] fun x => { x with onH := true })) (fun c => c.threeLevel 2 && (c.sl 5).onH
        && (c.sl 5).riseH + c.dth 5 ≤ c.fineEnd)
      && met (threeLevels (sliceAt 0 [] fun x => { x with onL := true })) (fun c => c.threeLevel 3 && (c.sl 0).onL
        && (c.sl 0).riseL + c.dtl 0 ≤ c.fineEnd)
      && met (sliceAt 15 [] fun x => { x with minH := true, endH := true, lenH := 6463, minL := true, endL := true }) (fun c =>
        (c.sl 15).minH && (c.sl 15).endH && (c.sl 15).riseH + (c.sl 15).lenH ≤ c.fineEnd && (c.sl 15).minL && (c.sl 15).endL
          && !(c.sl 15).refresh && (c.sl 15).riseL + (c.sl 15).lenL ≤ c.fineEnd)
      && met (sliceAt 15 [] fun x => { x with lenH := 6463, lenL := 6464 }) (fun c => !(c.sl 15).endH
        && (c.sl 15).riseH + (c.sl 15).lenH ≤ c.fineEnd && c.fineEnd < (c.sl 15).riseL + (c.sl 15).lenL)
      && met (sliceAt 15 [] fun x => { x with lenH := 6464 }) (fun c => c.fineEnd < (c.sl 15).riseH + (c.sl 15).lenH)
      && met (sliceAt 5 [(Reg.ISL_CFG_supply 10, 1), (Reg.ISL_STAT_vcc_warn 10, 1)] fun x =>
        { x with onH := true, bsOn := 10 ^ 12, valleyAt := some 100 }) (fun c => c.bootSlice 5 && (c.sl 5).onH && !(c.sl 5).refresh
        && c.bsLimit 5 ≤ c.bsTime 5 + 63 && c.get (Reg.PWM_S_CNT_half 5) == 0 && (c.sl 5).valleyAt == some c.now
        && c.on (Reg.ISL_STAT_vcc_warn (2 * 5)))
      && met (sliceAt 5 [(Reg.ISL_CFG_supply 10, 1), (Reg.PWM_S_CNT_half 5, 1), (Reg.PWM_S_BOOT_max_on 5, 1)] fun x =>
        { x with onH := true, bsOn := 128000 - 63, valleyAt := some 100, vccLow := true }) (fun c => c.bootSlice 5 && (c.sl 5).onH
        && !(c.sl 5).refresh && c.bsLimit 5 ≤ c.bsTime 5 + 63 && c.fineEnd < c.edgeTime 5 false false
        && (c.sl 5).valleyAt == some c.now && (c.sl 5).vccLow)
      && met (sliceAt 5 [(Reg.ISL_CFG_supply 10, 1), (Reg.PWM_S_BOOT_max_on 5, 1)] fun x => { x with bsOn := 128000 - 64, valleyAt := some 99 }) (fun c =>
        c.bootSlice 5 && c.bsTime 5 + 63 < c.bsLimit 5 && (c.sl 5).valleyAt != some c.now)
      && met { motorAt 2 with now := 200 } (fun c => c.pwmG.fltHigh + 200 ≤ c.now && !c.on Reg.PWM_XHIZ_flt_now)
      && met { motorAt 2 with now := 199 } (fun c => c.now < c.pwmG.fltHigh + 200 && !c.on Reg.PWM_XHIZ_flt_now)
      && met (having [(Reg.PWM_XHIZ_flt_now, 1)]) (fun c => c.on Reg.PWM_XHIZ_flt_now)) = true := by decide +kernel

/-! ### Witnesses: islands and the safety block -/

/-- Island `n` with its own state and fields changed, under a cluster of type 1 that runs on slice 0. -/
def islandAt (n : Nat) (f : IslandS → IslandS) (l : List (Field × Nat)) : Chip := ((motorAt 2).modIsl n f).sets l

/-- Island 0 ready, its input high by the override, its mate ready, off and answering. -/
def ready (l : List (Field × Nat)) : Chip :=
  ((islandAt 0 (fun i => { i with real := 2 }) ([(Reg.PWM_S_STAT_ovr 0, 3), (Reg.ISL_STAT_state 0, 2), (Reg.ISL_STAT_state 1, 2),
    (Reg.ISL_STAT_chan_ok 1, 1)] ++ l)).modIsl 1 fun i => { i with real := 2 }).modSlice 0 fun x => { x with ovH := true }

theorem test_met_island_edges :
    (met (ready []) (fun c => c.levelOf 0 && !c.levelOf 1 && !(c.island 0).held && (c.island 0).real == 2 && !c.mateAbove 0)
      && met (ready [(Reg.ISL_STAT_gate_hi 1, 1)]) (fun c => c.levelOf 0 && c.mateAbove 0)
      && met (islandAt 0 (fun i => { i with real := 3, gate := .on, held := true }) []) (fun c => !c.levelOf 0
        && (c.island 0).real == 3 && (c.island 0).gate == .on && (c.island 0).held)
      && met (islandAt 1 (fun i => { i with gate := .phase1 }) []) (fun c => (c.island 1).gate == .phase1)
      && met (islandAt 1 (fun i => { i with gate := .offPhase3, real := 3 }) []) (fun c => (c.island 1).gate == .offPhase3
        && (c.island 1).real == 3 && (c.island 1).faults == [])
      && met (islandAt 1 (fun i => { i with gate := .offPhase3, real := 3, faults := [⟨0x0214, 0, true, 7⟩] }) []) (fun c =>
        (c.island 1).gate == .offPhase3 && (c.island 1).real == 3 && (c.island 1).faults != [])
      && met (islandAt 1 (fun i => { i with gate := .offPhase1, prof := 0x00000000 }) []) (fun c => (c.island 1).gate == .offPhase1)
      && met (islandAt 1 (fun i => { i with gate := .fault2 }) []) (fun c => (c.island 1).gate == .fault2)
      && met State.reset.chip (fun c => (c.island 11).real != 7 && (c.island 11).real != 6 && (c.island 11).gate == .off
        && !(c.island 11).held && (c.island 11).frame == none && (c.island 11).dirty == [] && !c.on (Reg.ISL_STAT_chan_ok 11))
      && met (islandAt 1 (fun i => { i with real := 6 }) [(Reg.ISL_LEAK_STAT_busy 1, 1)]) (fun c => (c.island 1).real == 6
        && c.on (Reg.ISL_LEAK_STAT_busy 1))) = true := by decide +kernel

theorem test_met_interlock :
    (met ((ready []).modIsl 0 fun i => { i with held := true }) (fun c => (c.island 0).held && !c.mateAbove 0)
      && met ((ready [(Reg.ISL_STAT_chan_ok 1, 0)]).modIsl 0 fun i => { i with held := true }) (fun c => c.mateAbove 0)
      && met { (ready []).modIsl 0 fun i => { i with held := true } with now := 201 } (fun c => (c.island 0).held
        && !(c.island 0).conflict && (c.island 0).heldAt + 200 < c.now && c.islOwner 0 == some 0)
      && met { (ready []).modIsl 0 fun i => { i with held := true } with now := 200 } (fun c => (c.island 0).held
        && c.now ≤ (c.island 0).heldAt + 200)
      && met (islandAt 0 (fun i => { i with real := 2, frame := some (1, 2) }) []) (fun c => (c.island 0).frame == some (1, 2)
        && !c.pwr.safetyOnMon && (c.island 0).real != 0 && (c.island 0).real != 7)
      && met { State.reset.chip with pwr := { safetyOnMon := true } } (fun c => c.pwr.safetyOnMon)
      && met (islandAt 0 (fun i => { i with real := 6, dirty := [0x28] }) []) (fun c => (c.island 0).dirty.head? == some 0x28
        && [2, 3, 4, 6].contains (c.island 0).real)) = true := by decide +kernel

theorem test_met_island_settings :
    (met (running State.reset.chip) (fun c => c.takes 0x41100000 && c.takes 0x41100024 && c.takes 0x41101604 && c.rwlOpen 0x41100000
        && c.bootOk 0 && !c.bootOk 1 && c.bootOk 10)
      && met (islandAt 0 id [(Reg.ISL_CFG_supply 1, 1)]) (fun c => !c.bootOk 0)
      && met (islandAt 0 (fun i => { i with real := 1, gate := .on }) []) (fun c => [1, 2, 3, 4].contains (c.island 0).real)
      && met (islandAt 0 (fun i => { i with real := 5 }) [(Reg.ISL_STAT_chan_ok 0, 1), (Reg.ISL_STAT_state 0, 5),
        (Reg.SAFE_STAT_iso_en_a, 1)]) (fun c => (c.island 0).real == 5 && c.on (Reg.ISL_STAT_chan_ok 0)
          && c.get (Reg.ISL_STAT_state 0) == 5 && !(c.island 0).lockout && c.isoOn 0)
      && met (islandAt 0 (fun i => { i with real := 7 }) []) (fun c => (c.island 0).real == 7)
      && met (islandAt 0 (fun i => { i with real := 3 }) []) (fun c => (c.island 0).real == 3 && !(c.island 0).brokenOn
        && !(c.island 0).brokenOff && (c.island 0).faults.isEmpty && F32.ge 0x43160000 (F32.ofNat 150)
        && !F32.ge 0x4315FFFF (F32.ofNat 150))
      && met (islandAt 0 (fun i => { i with real := 3, brokenOn := true }) []) (fun c => (c.island 0).real == 3
        && (c.island 0).brokenOn && !(c.island 0).brokenOff && !c.pwr.safetyOnMon)
      && met (islandAt 0 id [(Reg.ISL_STAT_chan_ok 0, 1)]) (fun c => c.on (Reg.ISL_STAT_chan_ok 0))
      && met { (motorAt 1).set (Reg.ISL_STAT_bs_pending 0) 1 with now := 30000 }
        (fun c => c.clState 0 == 1 && !c.on (Reg.SEQ_STAT_overspeed 0) && c.get (Reg.SAFE_C_STAT_sel 0) == 0
          && (c.now - (c.cluster 0).catchAt) % 10000 == 0 && c.bootPending 0 != 0)
      && met { motorAt 1 with now := 30001 } (fun c => c.clState 0 == 1 && (c.now - (c.cluster 0).catchAt) % 10000 != 0)
      && met ((motorAt 1).modIsl 1 fun i => { i with real := 2 }) (fun c => (c.island 1).real == 2)) = true := by decide +kernel

theorem test_met_island_start :
    (met State.reset.chip (fun c => c.ownGet 11 (Reg.ISL_UV_vcc_uv 11) == 140 && (c.island 11).real == 0 && !c.gateLate 11)
      && met (islandAt 11 (fun i => { i with real := 1, opened := true }) []) (fun c => (c.island 11).real == 1
        && (c.island 11).opened && !(c.island 11).hsFailed && (c.island 11).hsStep == 0 && !c.retired)
      && met (islandAt 11 (fun i => { i with real := 1, opened := true, hsFailed := true }) []) (fun c => (c.island 11).hsFailed)
      && met (islandAt 0 (fun i => { i with real := 1, hsStep := 3 }) []) (fun c => (c.island 0).hsStep == 3)
      && met (islandAt 0 (fun i => { i with real := 1, hsStep := 5 }) []) (fun c => (c.island 0).hsStep == 5)
      && met (islandAt 0 (fun i => { i with real := 1, hsStep := 2 }) []) (fun c => (c.island 0).hsStep == 2)
      && met (islandAt 0 (fun i => { i with real := 1, hsStep := 4 }) [(Reg.ISL_CAL_STAT_valid, 1)]) (fun c =>
        (c.island 0).hsStep == 4 && c.on Reg.ISL_CAL_STAT_valid && (c.island 0).real == 1)
      && met (islandAt 0 (fun i => { i with real := 1, hsStep := 6 }) []) (fun c => (c.island 0).hsStep == 6)
      && met { islandAt 0 (fun i => { i with real := 3, cmdAt := some 0 }) [(Reg.ISL_CAL_STAT_valid, 1),
          (Reg.ISL_CAL_STAT_target, 256), (Reg.ISL_CHAN_trim 0, 255)] with now := 4 } (fun c => (c.island 0).cmdAt == some 0
        && c.now ≤ 0 + c.get Reg.ISL_CAL_STAT_target / 64 && (c.island 0).real == 3)
      && met { islandAt 0 (fun i => { i with real := 2, cmdAt := some 0 }) [(Reg.ISL_CAL_STAT_valid, 1),
          (Reg.ISL_CAL_STAT_target, 256), (Reg.ISL_CHAN_trim 0, 255)] with now := 5 } (fun c =>
        0 + c.get Reg.ISL_CAL_STAT_target / 64 < c.now && min 255 (c.get Reg.ISL_CAL_STAT_target - 2) < c.get (Reg.ISL_CHAN_trim 0))
      && met (islandAt 0 (fun i => { i with real := 1 }) [(Reg.SAFE_STAT_iso_en_a, 1)]) (fun c => c.isoOn 0
        && 1399 < 10 * c.ownGet 0 (Reg.ISL_UV_vcc_uv 0) && 10 * c.ownGet 0 (Reg.ISL_UV_vcc_uv 0) ≤ 1400)) = true := by
  decide +kernel

/-- The control die is in reset. -/
theorem test_met_island_in_reset :
    (let c := { (islandAt 0 (fun i => { i with real := 6 }) []) with pwr := { dieReset := true } }
     c.pwr.dieReset && (c.island 0).real == 6 && (c.island 1).real == 0) = true := by decide +kernel

theorem test_met_desat :
    (met { islandAt 0 (fun i => { i with real := 3, gate := .on, watching := true }) [] with now := 2 * 300 } (fun c =>
        (c.island 0).real == 3 && c.ownOn 0 (Reg.ISL_CFG_desat_en 0) && (c.island 0).watching
          && (c.island 0).startTick + c.blankTicks 0 ≤ c.now && !c.gateLate 0)
      && met (islandAt 0 (fun i => { i with real := 3, own := [(0, 0)] }) []) (fun c => !c.ownOn 0 (Reg.ISL_CFG_desat_en 0))
      && met { islandAt 0 (fun i => { i with real := 3, gate := .phase3 }) [] with now := 20 * 255 } (fun c =>
        turningOn (c.island 0).gate && c.gateLate 0 && (c.island 0).faults.isEmpty)
      && met { islandAt 0 (fun i => { i with real := 4, gate := .offPhase1 }) [] with now := 20 * 255 } (fun c =>
        (c.island 0).real == 4 && c.gateLate 0)
      && met { islandAt 0 (fun i => { i with real := 5, gate := .offPhase3 }) [] with now := 20 * 255 } (fun c =>
        (c.island 0).real == 5 && c.gateLate 0)
      && met (islandAt 0 (fun i => { i with gate := .fault1 }) []) (fun c => (c.island 0).gate == .fault1)) = true := by
  decide +kernel

/-- Island 0 with a desaturation to be cleared on its own. -/
def desat (used tries : Nat) : Chip :=
  { islandAt 0 (fun i => { i with real := 4, faults := [⟨0x0210, 0, false, 3⟩] }) [(Reg.ISL_FAULT_desat_used 0, used),
    (Reg.ISL_RETRY_desat_tries 0, tries), (Reg.ISL_RETRY_win_max 0, 1)] with now := ms 1000 }

theorem test_met_island_clears :
    (met (desat 0 1) (fun c => (c.island 0).faults.all (fun z => z.code == 0x0210 && !z.latch && c.clearDue 0 z)
        && c.get (Reg.ISL_FAULT_desat_used 0) < c.get (Reg.ISL_RETRY_desat_tries 0)
        && c.clearsUsed 0 < c.get (Reg.ISL_RETRY_win_max 0))
      && met (desat 1 1) (fun c => c.get (Reg.ISL_RETRY_desat_tries 0) ≤ c.get (Reg.ISL_FAULT_desat_used 0)
        && (c.island 0).faults.all fun z => z.code == 0x0210 && !z.latch && c.clearDue 0 z)
      && met { islandAt 0 (fun i => { i with turnedOn := 3 }) [] with now := ms 1000 } (fun c => (c.island 0).turnedOn == 3
        && (c.island 0).turnU + ms 1000 ≤ c.now && (c.island 0).turnD + ms 1000 ≤ c.now)
      && met (islandAt 0 (fun i => { i with real := 4, faults := [⟨0x0214, 0, true, 7⟩] }) []) (fun c =>
        (c.island 0).faults == [⟨0x0214, 0, true, 7⟩] && (c.island 0).real == 4)) = true := by decide +kernel

theorem test_met_leakage :
    (met ((ready []).set (Reg.SEQ_STAT_state 0) 5) (fun c => c.get (Reg.ISL_STAT_state 0) == 2 && (c.island 0).real == 2
        && c.islOwner 0 == some 0 && c.quiet 0 && !c.gateEn 0 && c.get (Reg.ISL_STAT_state (mate 0)) == 2)
      && met (ready []) (fun c => c.islOwner 0 == some 0 && !c.quiet 0)
      && met (islandAt 0 (fun i => { i with real := 6 }) [(Reg.ISL_LEAK_STAT_busy 0, 1), (Reg.ISL_LEAK_CFG_fail 0, 1)]) (fun c =>
        c.on (Reg.ISL_LEAK_STAT_busy 0) && c.get (Reg.ISL_LEAK_CFG_fail 0) != 0
          && F32.ge (microAmp 1) (microAmp (c.get (Reg.ISL_LEAK_CFG_fail 0))))
      && met (having [(Reg.ISL_LEAK_CFG_fail 11, 0), (Reg.ISL_LEAK_CFG_warn 11, 0)]) (fun c => c.get (Reg.ISL_LEAK_CFG_fail 11) == 0 && c.get (Reg.ISL_LEAK_CFG_warn 11) == 0))
      = true := by decide +kernel

/-- The chopper on slice 7 with comparator 0. -/
def chopper (f : SafeS → SafeS) (l : List (Field × Nat)) : Chip :=
  let c := (motorAt 2).sets ([(Reg.SAFE_CHOP_CFG_en, 1), (Reg.SAFE_CHOP_CFG_slice, 7), (Reg.SAFE_CHOP_CFG_cmp, 0),
    (Reg.SAFE_CMP_ROLE0_role 0, 4), (Reg.CMP_CFG_en 0, 1), (Reg.CMP_CFG_hi_en 0, 1), (Reg.ADC_STAT_ref_rdy, 1)] ++ l)
  { c with safe := f c.safe }

theorem test_met_chopper :
    (met { chopper (fun x => { x with chopVerify := true, chopTest := true, chopSeen := true }) [] with now := 2000 * 63 } (fun c =>
        c.chopCmp.isSome && c.safe.chopVerify && c.safe.chopTest && c.safe.chopSeen
          && c.safe.chopAt + 2000 * max 1 (c.get Reg.SAFE_CHOP_CFG_verify) ≤ c.now)
      && met { chopper (fun x => { x with chopVerify := true, chopSeen := true }) [] with now := 2000 * 63 } (fun c =>
        c.chopCmp.isSome && !c.safe.chopTest && c.safe.chopSeen && c.safe.chopAt + 2000 * max 1 (c.get Reg.SAFE_CHOP_CFG_verify) ≤ c.now)
      && met (chopper (fun x => { x with chopVerify := true }) []) (fun c =>
        c.now < c.safe.chopAt + 2000 * max 1 (c.get Reg.SAFE_CHOP_CFG_verify))
      && met { chopper (fun x => { x with chopVerify := true }) [(Reg.CMP_CFG_en 0, 0)] with now := 2000 * 63 } (fun c =>
        c.chopCmp.isNone && c.vdcAll == [] && c.chopSlice.isSome && !c.on Reg.SAFE_CHOP_STAT_test_busy)
      && met ((chopper id []).modCl 0 fun x => { x with vdc := [(0, F32.ofNat 50)] }) (fun c => c.vdcAll != []
        && !F32.lt c.vHi (F32.ofNat 50))
      && met State.reset.chip (fun c => c.chopSlice == none && !c.ov3Tripped)
      && met { (motorAt 2).sets [(Reg.SAFE_CMP_ROLE0_role 1, 3), (Reg.CMP_CFG_en 1, 1), (Reg.CMP_CFG_hi_en 1, 1),
          (Reg.CMP_STAT_hi_now, 2), (Reg.SAFE_C_STAT_sel 0, 1)] with now := ms 10 + 1, safe := { ov3At := some 0 } } (fun c =>
        c.ov3Tripped && !c.on Reg.SAFE_CTR_STAT_ov3_open && c.safe.ov3At.getD c.now + ms 10 < c.now
          && c.motorClusters == [0] && c.motorClusters.all fun k => c.holdsOff k && (c.cluster k).selAt + ms 10 < c.now))
      = true := by decide +kernel

/-- The contactors and the discharge in use. -/
def channelOn (l : List (Field × Nat)) : Chip := { running (having l) with cfg := { first := some 0 } }

theorem test_met_contactors :
    (met (channelOn []) (fun c => c.moduleChan && !c.on Reg.SAFE_CTR_STAT_pos_fb && !c.disRuns)
      && met (channelOn [(Reg.SAFE_CTR_CFG_fb_en, 1)]) (fun c => c.moduleChan && !c.on Reg.SAFE_CTR_STAT_pos_fb
        && c.on Reg.SAFE_CTR_CFG_fb_en && !c.disRuns && c.safe.opened == 0)
      && met (having [(Reg.SAFE_CTR_STAT_pos_fb, 1)]) (fun c => !c.moduleChan && c.on Reg.SAFE_CTR_STAT_pos_fb)
      && met { channelOn [(Reg.SAFE_CTR_CFG_fb_en, 1), (Reg.SAFE_CTR_STAT_neg_busy, 1), (Reg.SAFE_CTR_CFG_t_open, 0)] with
          now := ms 1 + 1 } (fun c => c.moduleChan && c.on Reg.SAFE_CTR_CFG_fb_en && c.on Reg.SAFE_CTR_STAT_neg_busy
        && c.ctrDue true < c.now)
      && met { channelOn [(Reg.SAFE_CTR_CFG_fb_en, 1), (Reg.SAFE_CTR_STAT_neg_busy, 1), (Reg.SAFE_CTR_CFG_t_open, 0)] with
          now := ms 1 } (fun c => c.now ≤ c.ctrDue true)) = true := by decide +kernel

theorem test_met_discharge :
    (met (channelOn [(Reg.SAFE_CTR_STAT_pos_out, 1)]) (fun c => !c.disRuns && c.moduleChan && c.on Reg.SAFE_CTR_STAT_pos_out)
      && met (channelOn [(Reg.SAFE_CTR_CFG_fb_en, 1)]) (fun c => c.moduleChan && !c.on Reg.SAFE_CTR_STAT_pos_out
        && !c.on Reg.SAFE_CTR_STAT_neg_out && !c.on Reg.SAFE_CTR_STAT_pos_fb && !c.on Reg.SAFE_CTR_STAT_neg_fb && c.vdcAll == [])
      && met ((channelOn [(Reg.SAFE_CTR_CFG_fb_en, 0), (Reg.SAFE_DIS_CTL_path, 1)]).modCl 3 fun x => { x with vdc := [(0, 0x43480000)] }) (fun c =>
        c.moduleChan && !c.on Reg.SAFE_CTR_CFG_fb_en && c.vdcAll != [] && c.on Reg.SAFE_DIS_CTL_path)
      && met { channelOn [(Reg.SAFE_DIS_STAT_state, 1), (Reg.SAFE_DIS_CTL_time, 0)] with safe := { disStart := some 0 }, now := ms 50 }
        (fun c => c.moduleChan && c.get Reg.SAFE_DIS_STAT_state == 1 && c.disPast 1 && !c.disPast 2 && c.vdcAll == [])
      && met { channelOn [(Reg.SAFE_DIS_STAT_state, 1), (Reg.SAFE_DIS_CTL_time, 0)] with safe := { disStart := some 0 }, now := ms 50 - 1 }
        (fun c => c.disRuns && !c.disPast 1)
      && met { channelOn [(Reg.SAFE_DIS_STAT_state, 2), (Reg.SAFE_DIS_CTL_time, 0)] with safe := { disStart := some 0 }, now := ms 100 }
        (fun c => c.disRuns && c.moduleChan && c.disPast 2)) = true := by decide +kernel

/-- Below the brown-out level of VDDA, in reset and out of it. -/
theorem test_met_vdda :
    (met { State.reset.chip with pwr := { vddaOk := false } } (fun c => !c.pwr.vddaOk)
      && !({ State.reset.chip with pwr := { vddaOk := false, dieReset := true } } : Chip).pwr.vddaOk) = true := by
  decide +kernel

theorem test_met_demands :
    (met (having [(Reg.SAFE_STAT_sto_b, 1), (Reg.SAFE_STAT_sto_a, 0)]) (fun c => c.on Reg.SAFE_STAT_sto_b
        && !c.on Reg.SAFE_STAT_sto_a)
      && met { ((motorAt 2).sets [(Reg.SAFE_STAT_sto_disc, 1), (Reg.SAFE_STO_CFG_disc, 0)]) with now := ms 10 + 1 } (fun c =>
        c.on Reg.SAFE_STAT_sto_disc && c.safe.discAt + ms (10 * max 1 (c.get Reg.SAFE_STO_CFG_disc)) < c.now
          && !c.safe.discRec)
      && met (having [(Reg.SAFE_STAT_sto_disc, 1)]) (fun c =>
        c.now ≤ c.safe.discAt + ms (10 * max 1 (c.get Reg.SAFE_STO_CFG_disc)))
      && met { State.reset.chip with safe := { tickAt := some 0 }, now := ms 1 - 1 } (fun c => c.safe.tickAt.any fun a =>
        decide (c.now < a + ms 1))
      && met { State.reset.chip with safe := { tickAt := some 0 }, now := ms 1 } (fun c => c.safe.tickAt.all fun a =>
        decide (a + ms 1 ≤ c.now))
      && met { forEach (List.range 4) (fun k c => c.set (Reg.SAFE_C_STAT_sel k) 1) (having [(Reg.SAFE_STAT_sto_a, 1),
          (Reg.SAFE_STAT_iso_en_a, 1)]) with now := ms 255 } (fun c => c.stoIso 0 && c.on Reg.SAFE_STAT_iso_en_a
        && (List.range 4).all fun q => c.holdsOff q && (c.cluster q).selAt + ms (c.get Reg.SAFE_STO_CFG_iso_dly) ≤ c.now)
      && met ((motorAt 2).sets [(Reg.SAFE_STAT_sto_a, 1), (Reg.SAFE_C_STAT_sel 0, 0)]) (fun c => c.stoIso 0
        && c.islOwner 0 == some 0 && !c.holdsOff 0)
      && met (having [(Reg.SAFE_STAT_sto_a, 0), (Reg.SAFE_STAT_sto_b, 0)]) (fun c => !c.stoIso 0 && !c.stoIso 1)
      && met (islandAt 0 (fun i => { i with reports := [(0x0210, 2)] }) []) (fun c => (c.island 0).reports.head? == some (0x0210, 2)
        && !c.on (Reg.ISL_LEAK_STAT_busy 0))) = true := by decide +kernel

/-- Cluster 0 served by the processor channel. -/
def servedAt (f : ClusterS → ClusterS) (l : List (Field × Nat)) : Chip :=
  (withTopo [{ type := 1, slices := 1, policy := 1 }] ((motorAt 2).modCl 0 f)).sets l

theorem test_met_channel :
    (met (servedAt id []) (fun c => c.pcRuns 0 && c.clState 0 != 4 && !c.on (Reg.SAFE_C_STAT_ss1 0) && (c.cluster 0).slsRun < 10
        && (c.cluster 0).tqBad < max 1 (c.get (Reg.SAFE_C_CFG_tq_t 0)) && !c.on (Reg.SAFE_C_CFG_msg_req 0))
      && met State.reset.chip (fun c => !c.pcRuns 3)
      && met (servedAt (fun x => { x with tqBad := 1, slsRun := 10 }) [(Reg.SAFE_C_CFG_tq_t 0, 0)]) (fun c => c.pcRuns 0
        && max 1 (c.get (Reg.SAFE_C_CFG_tq_t 0)) ≤ (c.cluster 0).tqBad && 10 ≤ (c.cluster 0).slsRun)
      && met { servedAt id [(Reg.SAFE_C_STAT_ss1 0, 1), (Reg.SAFE_C_CFG_ss1_t 0, 0)] with now := ms 100 } (fun c => c.pcRuns 0
        && c.on (Reg.SAFE_C_STAT_ss1 0) && (c.cluster 0).ss1At + ms (100 * max 1 (c.get (Reg.SAFE_C_CFG_ss1_t 0))) ≤ c.now)
      && met { servedAt id [(Reg.SAFE_C_STAT_ss1 0, 1), (Reg.SAFE_C_CFG_ss1_t 0, 0)] with now := ms 100 - 1 } (fun c =>
        c.now < (c.cluster 0).ss1At + ms (100 * max 1 (c.get (Reg.SAFE_C_CFG_ss1_t 0))))
      && met { servedAt id [(Reg.SAFE_C_CFG_msg_req 0, 1), (Reg.SAFE_C_CFG_msg_to 0, 0)] with now := ms 10 } (fun c =>
        c.pcRuns 0 && c.on (Reg.SAFE_C_CFG_msg_req 0) && !(c.cluster 0).msgLost
          && (c.cluster 0).msgAt + ms (10 * max 1 (c.get (Reg.SAFE_C_CFG_msg_to 0))) ≤ c.now)
      && met (servedAt id []) (fun c => c.locked 0 && !(c.region 0).inReset)
      && met { motorAt 2 with rgn := [{ split := true }, {}] } (fun c => !c.locked 0)) = true := by decide +kernel

/-! ### Witnesses: thermal, cores, port and Hallway -/

/-- After torque-ready, the legs whose records are read, and waiting writes. -/
def warm (read : Nat) (ws : List WriteItem) (l : List (Field × Nat)) : Chip :=
  (having ((Reg.CFG_BOOT_STAT_torque_ready, 1) :: l)).modChm fun x => { x with read := read, writes := ws }

theorem test_met_records :
    (met State.reset.chip (fun c => !c.legRead 5 && c.chm.ledger.length == 6 && c.chm.sw.length == 12 && c.chm.age.length == 4
        && c.chm.rampAt.length == 4 && (c.legsUnread.find? fun i => i / 3 == 5 / 3) != some 5)
      && met (warm 8 [] []) (fun c => c.legRead 0 && c.legRead 5 && c.legsUnread.find? (fun i => i / 3 == 5 / 3) == some 4
        && c.legsUnread.find? (fun i => i / 3 == 0) == some 0)
      && met (warm 63 [] []) (fun c => c.legRead 5 && c.legsUnread == [] && !c.on (Reg.CHM_M_STAT_led_ok 5)
        && c.ledSlot 5 == none)
      && met (warm 63 [] [(Reg.CHM_M_STAT_led_ok 5, 1)]) (fun c => c.on (Reg.CHM_M_STAT_led_ok 5))
      && met (warm 63 [⟨.ledger 5, false, true, 0⟩] []) (fun c => c.writing (.ledger 5) && !c.writing (.ledger 0))
      && met ((having [(Reg.CHM_CFG_ledger_min, 1)]).modChm fun x => { x with runTicks := ms 60000 }) (fun c =>
        ms (60000 * max 1 (c.get Reg.CHM_CFG_ledger_min)) ≤ c.chm.runTicks)
      && met ((having [(Reg.CHM_CFG_ledger_min, 0)]).modChm fun x => { x with runTicks := ms 60000 - 1 }) (fun c =>
        c.chm.runTicks < ms (60000 * max 1 (c.get Reg.CHM_CFG_ledger_min)))) = true := by
  decide +kernel

/-- The thermal unit's own state changed, at a tick. -/
def thermal (l : List (Field × Nat)) (f : ChmS → ChmS) (t : Nat) : Chip := { (having l).modChm f with now := t }

theorem test_met_sensors :
    (met (thermal [(Reg.CHM_DIE_STAT_broken, 0)] (fun x => { x with dieRun := List.replicate 8 9, dieAt := some 0 }) (ms 1)) (fun c =>
        (c.chm.dieAt.all fun y => decide (y + ms 1 ≤ c.now)) && 9 ≤ nth c.chm.dieRun 7 && c.get Reg.CHM_DIE_STAT_broken == 0
          && c.sensorOff [0, 0, 0, 0, 0, 0, 0, 0x41200000] 7
          && (List.range 8).all fun j => !c.sensorOff (List.replicate 8 0x41200000) j)
      && met (thermal [] (fun x => { x with dieAt := some 0 }) (ms 1 - 1)) (fun c => c.chm.dieAt.any fun y => decide (c.now < y + ms 1))
      && met (having [(Reg.CHM_DIE_STAT_broken, 255)]) (fun c => c.get Reg.CHM_DIE_STAT_broken == 255)
      && met (thermal [(Reg.CHM_C_STAT_tw_valid 3, 1)] id (ms 100 + 1)) (fun c => c.on (Reg.CHM_C_STAT_tw_valid 3)
        && nth c.chm.twTick 3 + ms 100 < c.now)
      && met (thermal [(Reg.CHM_C_STAT_tw_valid 3, 1)] id (ms 100)) (fun c => c.now ≤ nth c.chm.twTick 3 + ms 100)
      && met (thermal [(Reg.CHM_C_STAT_peak 0, 1), (Reg.CHM_C_CFG_grace 0, 255)] id (ms 2550)) (fun c =>
        c.get (Reg.CHM_C_STAT_peak 0) == 1 && nth c.chm.rampAt 0 + ms (10 * c.get (Reg.CHM_C_CFG_grace 0)) ≤ c.now
          && c.peakReleases 0)
      && met (running (typed 1 (thermal [(Reg.CHM_C_STAT_peak 0, 1), (Reg.CHM_C_CFG_grace 0, 0), (Reg.CHM_C_I2T_v 0, 0x42C80000)] id 1)))
        (fun c => c.get (Reg.CHM_C_STAT_peak 0) == 1 && !c.peakReleases 0)
      && met (thermal [(Reg.CHM_C_STAT_peak 0, 2)] id (ms 200)) (fun c => c.get (Reg.CHM_C_STAT_peak 0) == 2
        && nth c.chm.rampAt 0 + ms 200 ≤ c.now)
      && met (thermal [(Reg.CHM_C_STAT_peak 0, 2)] id (ms 200 - 1)) (fun c => c.now < nth c.chm.rampAt 0 + ms 200)
      && met (thermal [(Reg.CHM_CFG_rain_en, 1)] (fun x => { x with rainAt := some 0 }) (ms 10)) (fun c => c.on Reg.CHM_CFG_rain_en
        && c.chm.rainAt.all fun y => decide (y + ms 10 ≤ c.now))
      && met (thermal [(Reg.CHM_CFG_rain_en, 1)] (fun x => { x with rainAt := some 0 }) (ms 10 - 1)) (fun c => c.on Reg.CHM_CFG_rain_en
        && c.chm.rainAt.any fun y => decide (c.now < y + ms 10))
      && met (having [(Reg.CHM_CFG_rain_en, 0)]) (fun c => !c.on Reg.CHM_CFG_rain_en)) = true := by decide +kernel

theorem test_met_held_writes :
    (met (warm 63 [⟨.log, true, false, 0⟩] []) (fun c => c.heldFirst false == some .log && !c.writeTempOk .log
        && c.heldFirst true == none)
      && met (warm 63 [⟨.boot, true, false, 0⟩] [(Reg.CHM_STAT_t_die_ok, 1), (Reg.CHM_T_DIE_t_die, 0x42E60000)]) (fun c =>
        c.heldFirst false == some .boot && c.writeTempOk .boot)
      && met (warm 63 [⟨.ledger 1, true, false, 0⟩] [(Reg.CHM_M_STAT_ntc_ok 1, 1), (Reg.CHM_M_NTC_t_ntc 1, 0x42AA0000)]) (fun c =>
        c.heldFirst true == some (.ledger 1) && c.writeTempOk (.ledger 1))
      && met { warm 63 [⟨.ledger 1, true, false, 0⟩] [] with now := ms 600000 } (fun c =>
        c.chm.writes.all fun w => !w.held || w.since + ms 600000 ≤ c.now)) = true := by decide +kernel

theorem test_met_more_held_writes :
    (met (warm 63 [⟨.softRepair, true, false, 0⟩] [(Reg.CHM_STAT_t_die_ok, 1), (Reg.CHM_T_DIE_t_die, 0x42E60000)]) (fun c =>
        c.heldFirst false == some .softRepair && c.writeTempOk .softRepair)
      && met (warm 63 [⟨.ledger 1, true, false, 0⟩] []) (fun c => c.heldFirst true == some (.ledger 1)
        && !c.writeTempOk (.ledger 1))) = true := by decide +kernel

/-- Cluster 0 runs with ageing in use for so many ticks. -/
def ageing (t : Nat) : Chip :=
  ((motorAt 2).sets [(Reg.CHM_C_CFG_age_en 0, 1), (Reg.PWM_S_STAT_running 0, 1), (Reg.CFG_BOOT_STAT_torque_ready, 1),
    (Reg.CHM_CFG_age_h, 0)]).modChm fun x => { x with read := 63, age := updNth (fun y => { y with runTicks := t }) 0 x.age }

theorem test_met_ageing :
    (met (ageing (ms 3600000)) (fun c => c.on (Reg.CHM_C_CFG_age_en 0) && !(nth c.chm.age 0).swapDue && c.swapOf 0 2 == .none
        && ms (3600000 * max 1 (c.get Reg.CHM_CFG_age_h)) ≤ (nth c.chm.age 0).runTicks)
      && met (ageing (ms 3600000 - 1)) (fun c => (nth c.chm.age 0).runTicks < ms (3600000 * max 1 (c.get Reg.CHM_CFG_age_h))
        && !(nth c.chm.age 0).applied && ((c.leadSlice 0).any fun n => c.on (Reg.PWM_S_STAT_running n))
        && c.on Reg.CFG_BOOT_STAT_torque_ready && ((c.legsOf 0).all fun q => !c.legsUnread.contains q)
        && c.load (ageBase 0) 4 != 0x45474141)) = true := by
  decide +kernel

/-- Both regions' cores run. -/
def cores (f : HartS → HartS) : Chip := let c := running State.reset.chip; { c with hart := c.hart.map f }

theorem test_met_cores :
    (met (cores id) (fun c => c.coreRuns 0 && c.bus.posted == [] && c.bus.held == [] && c.reqRuns (.hart 0) && c.eccBits (0x20000000 + 4 * 524287) 0 == 0
        && pmpOk (nth c.hart 0) (0x20000000 + 4 * 524287) 0 && pmpOk (nth c.hart 0) 0x20000000 1
        && pmpOk (nth c.hart 0) 0x20000000 2 && (0x42040001 : Nat) % 4 != 0 && (0x42040000 : Nat) % 4 == 0
        && c.isHart 0 && !c.isHart 1 && !(c.region 0).inReset)
      && met { cores id with ecc := [(0x20000000, 1)] } (fun c => c.eccBits 0x20000000 0 == 1)
      && met { cores id with rgn := [{ split := true, inReset := false }, {}] } (fun c => c.isHart 1 && c.coreRuns 1)) = true := by
  decide +kernel

theorem test_met_semaphores :
    (met State.reset.chip (fun c => c.semOwner 31 == 0 && c.reqRuns .host && !c.reqRuns (.hart 0) && !c.coreRuns 0 && c.isHart 0
        && !c.isHart 1)
      && met (State.reset.chip.semSet 31 (reqCode .host)) (fun c => c.semOwner 31 == reqCode .host && c.semOwner 31 != 0
        && c.semBeaten (.hart 0) 31 == none && c.semOwner 31 != reqCode (.hart 0) && c.sem.waits == [])
      && met { State.reset.chip.semSet 0 (reqCode .host) with sem := { now := [(0, .host, true)] } } (fun c =>
        c.semBeaten (.hart 0) 0 == some (.host, true) && c.semOwner 0 != reqCode (.hart 0))
      && met { State.reset.chip.semSet 0 (reqCode (.hart 2)) with sem := { waits := [(0, .host)] } } (fun c =>
        c.semOwner 0 == reqCode (.hart 2) && c.sem.waits == [(0, .host)])) = true := by decide +kernel

theorem test_met_timers :
    (met { (cores id).set (Reg.TIM_C_CMP1_cmp 0) 0xFFFFFFFF with now := 0xFFFFFFFF } (fun c => c.isHart 0
        && c.stamp == c.get (Reg.TIM_C_CMP1_cmp 0))
      && met ((cores id).set (Reg.TIM_C_CMP0_cmp 0) 1) (fun c => c.stamp != c.get (Reg.TIM_C_CMP0_cmp 0))
      && met State.reset.chip (fun c => c.isHart 0 && !c.on (Reg.WDT_C_run 0) && part 0x3C5A0001 16 16 == 0x3C5A)
      && met { (cores id).sets [(Reg.WDT_C_run 0, 1), (Reg.WDT_C_tmo 0, 3)] with now := ms 3 } (fun c => c.on (Reg.WDT_C_run 0)
        && !(nth c.hart 0).wdtWarned && c.wdtPast 0 1 && c.wdtPast 0 2)
      && met { (cores id).sets [(Reg.WDT_C_run 0, 1), (Reg.WDT_C_tmo 0, 3)] with now := ms 2 } (fun c => c.wdtPast 0 1
        && !c.wdtPast 0 2)
      && met { (cores id).sets [(Reg.WDT_C_run 0, 1), (Reg.WDT_C_tmo 0, 3)] with now := ms 1 } (fun c => !c.wdtPast 0 1
        && !c.wdtPast 0 2)
      && met (let c := cores id; { c with irq := { c.irq with armed := 1 } }) (fun c => c.coreRuns 0 && hasBit c.irq.armed 0)
      && met (cores id) (fun c => !hasBit c.irq.armed 0)) = true := by
  decide +kernel

/-- A source of group 1 of hart 0 pending, its moderation timer running. -/
def moderated : Chip :=
  let c := (cores id).sets [(Reg.IRQ_ROUTE_en 0 0, 1), (Reg.IRQ_ROUTE_sticky 0 0, 1), (Reg.IRQ_ROUTE_group 0 0, 1),
    (Reg.IRQ_C_MOD_time 0 0, 1), (Reg.IRQ_C_MOD_count 0 0, 7)]
  { c with irq := { c.irq with latch := 1, groups := updNth (fun g => { g with timer := true, count := 1 }) 0 c.irq.groups }, now := 200 }

theorem test_met_moderation :
    (met moderated (fun c => c.irq.groups.length == 12 && (c.group 0 1).timer && c.get (Reg.IRQ_C_MOD_time 0 0) != 0
      && (c.group 0 1).since + 200 * c.get (Reg.IRQ_C_MOD_time 0 0) ≤ c.now
      && (c.pendFor 0).any fun x => c.routeGroup x == 1)) = true := by decide +kernel

theorem test_met_levels_of_hart : moderated.levelsSeen := by unfold levelsSeen; decide +kernel

theorem test_met_port :
    (met (having [(Reg.HW_STAT_mode8d, 0)]) (fun c => !c.port8d && c.bus.posted == [] && c.ringsOn == [])
      && met (having [(Reg.HW_STAT_mode8d, 1)]) (fun c => c.port8d && c.portHeld + 256 ≤ 4096 && c.bus.posted == [] && c.bus.held == [] && c.reqRuns .host && !c.reqRuns (.hart 3))
      && writeWf (List.replicate 256 0)
      && met { having [(Reg.HW_STAT_mode8d, 1)] with bus := { posted := List.replicate 961 ⟨.host, 0, 4, 5, 0⟩ } } (fun c =>
        c.port8d && c.portHeld == 3844 && 4096 < c.portHeld + 256)
      && met (having [(Reg.HW_SQ_CFG_owner 7, 5)]) (fun c => c.sqOwner 7 == none)
      && met (having [(Reg.HW_SQ_CFG_owner 7, 4), (Reg.HW_SQ_CFG_en 7, 1)]) (fun c => c.sqOwner 7 == some (.hart 3)
        && c.on (Reg.HW_SQ_CFG_en 7) && 7 < c.sqSize 7)
      && met State.reset.chip (fun c => c.bufOwner 1023 == 0)
      && met (State.reset.chip.setByte (flagAddr 1023) 1) (fun c => c.bufOwner 1023 == 1 && part 0x03FF0002 16 10 == 1023
        && part 0x03FF0002 0 2 == 2)) = true := by decide +kernel

/-- A descriptor at the head of queue 0: operation, buffer, how many, address, length, first argument. -/
def descriptor (op buf n addr len arg : Nat) : DescS :=
  { entry := 0, words := [op + 0x10000, buf + 65536 * n, addr, len, arg, 0, 0, 0] }

/-- Queue 0 in use with descriptors in flight. -/
def hallway (f : List DescS) (l : List (Field × Nat)) : Chip :=
  let c := having ([(Reg.HW_SQ_CFG_en 0, 1), (Reg.HW_CQ_CFG_en 0, 1), (Reg.HW_CQ_CFG_base 0, 8)] ++ l)
  { c with hw := { c.hw with q := { flight := f } :: c.hw.q.tail } }

theorem test_met_descriptors :
    (met State.reset.chip (fun c => (List.range 8).all (fun n => !c.fetchable n) && c.hw.q.length == 8 && c.hwHead 7 == none
        && !c.msgStands 7)
      && met (hallway [] [(Reg.HW_SQ_TAIL_tail 0, 1)]) (fun c => c.hw.turn == 0 && c.fetchable 0)
      && met (hallway [{ descriptor 1 0 1 0x20000000 256 0 with started := true }] []) (fun c => (c.hwHead 0).all fun e =>
        e.running && e.opcode == 1 && e.done == 0 && c.ecc == [] && 0 < e.len && e.len ≤ 256 && inSram e.addr e.len)
      && met (hallway [{ descriptor 2 1023 1 0x201FFFFF 1 0 with started := true }] []) (fun c => (c.hwHead 0).all fun e =>
        e.running && e.opcode == 2 && inSram e.addr e.len)
      && met (hallway [{ descriptor 4 0 1 0x10400000 256 0 with started := true }] [(Reg.CHM_STAT_t_die_ok, 1)]) (fun c =>
        (c.hwHead 0).all fun e => e.running && e.opcode == 4 && 0 < e.len && c.chm.writes == [] && (c.hwQ 0).abort == none
          && c.writeTempOk (.descriptor 0))
      && met (hallway [{ descriptor 3 0 0 0x10400000 4096 0 with started := true }] [(Reg.CHM_STAT_t_die_ok, 0)]) (fun c =>
        (c.hwHead 0).all fun e => e.running && e.opcode == 3 && !c.writeTempOk (.descriptor 0))
      && met (((hallway [descriptor 5 0 2 0 0 0] []).setByte (flagAddr 0) 1).setByte (flagAddr 1) 1) (fun c => (c.hwHead 0).all fun e => !e.started && e.status == none
        && e.opcode == 5 && c.startCheck 0 e == none)
      && met (running (hallway [descriptor 8 0 0 0 0 0] [(Reg.HW_SQ_CFG_sw_en 0, 1)])) (fun c =>
        (c.hwHead 0).all fun e => e.opcode == 8 && c.startCheck 0 e == none))
      = true := by decide +kernel

theorem test_met_descriptor_steps :
    (met (hallway [{ descriptor 5 0 2 0 0 0 with started := true, mark := 1 }] [(Reg.SEQ_STAT_state 0, 2)]) (fun c =>
        (c.hwHead 0).all fun e => e.running && e.opcode == 5 && !c.on (Reg.ADC_C_RB_CTL_freeze e.arg0) && c.clState e.arg0 != 5
          && c.get (Reg.ADC_C_RB_STAT_seq e.arg0) != e.mark)
      && met (hallway [{ descriptor 6 0 1 0 0 0 with started := true }] []) (fun c => (c.hwHead 0).all fun e => e.running
        && e.opcode == 6)
      && met (hallway [{ descriptor 7 0 1 0 0 5 with started := true }] []) (fun c => (c.hwHead 0).all fun e => e.running
        && e.opcode == 7 && e.arg1 == 0 && e.done == 0 && 0 < e.nbuf && c.landsUsed (idLands (e.arg0 / 3)))
      && met (let c := hallway [{ descriptor 7 0 1 0 0 5 with started := true }] []; { c with img := { c.img with pins := [⟨land 13 2, 0, 0⟩] } })
        (fun c => (c.hwHead 0).all fun e => e.running && e.opcode == 7 && e.done == 0 && 0 < e.nbuf && e.arg0 == 5
          && !c.landsUsed (idLands (e.arg0 / 3)))
      && met (hallway [{ descriptor 5 0 2 0 0 0 with started := true }] [(Reg.ADC_C_RB_CTL_freeze 0, 1)]) (fun c =>
        (c.hwHead 0).all fun e => e.running && e.opcode == 5 && c.on (Reg.ADC_C_RB_CTL_freeze e.arg0))
      && met (hallway [{ descriptor 8 0 0 0 0 0 with started := true }] [(Reg.HW_MSG_PEND_pend, 1)]) (fun c => c.msgStands 0
        && (c.hwHead 0).isSome)
      && met (hallway [{ descriptor 1 0 1 0x20000000 256 0 with status := some 0xFF }] []) (fun c => (c.hwHead 0).all fun e =>
        e.status == some 0xFF && e.flags % 2 == 0 && 0 < e.nbuf && e.buf < 1024)
      && met (having [(Reg.HW_CQ_CFG_host 0, 1), (Reg.HW_CQ_STAT_unann 0, 1), (Reg.HW_CQ_MOD_time 0, 1), (Reg.HW_CQ_CFG_wake 0, 1),
          (Reg.HW_CQ_STAT_tail 0, 1)]) (fun c => c.on (Reg.HW_CQ_CFG_host 0) && 0 < c.get (Reg.HW_CQ_STAT_unann 0)
        && !c.on (Reg.HW_CQ_STAT_released 0) && c.get (Reg.HW_CQ_MOD_time 0) != 0 && c.now < nth c.hw.annAt 0 + 200 * c.get (Reg.HW_CQ_MOD_time 0)
        && !c.on Reg.HW_STAT_sleep && c.on (Reg.HW_CQ_CFG_wake 0))
      && met { having [(Reg.HW_CQ_CFG_host 0, 1), (Reg.HW_CQ_STAT_unann 0, 1), (Reg.HW_CQ_MOD_time 0, 1)] with now := 200 } (fun c =>
        c.on (Reg.HW_CQ_CFG_host 0) && 0 < c.get (Reg.HW_CQ_STAT_unann 0) && !c.on (Reg.HW_CQ_STAT_released 0)
          && c.get (Reg.HW_CQ_MOD_time 0) != 0 && nth c.hw.annAt 0 + 200 * c.get (Reg.HW_CQ_MOD_time 0) ≤ c.now)
      && met (having [(Reg.HW_CQ_CFG_host 0, 1), (Reg.HW_CQ_STAT_unann 0, 1), (Reg.HW_CQ_MOD_time 0, 0)]) (fun c =>
        c.get (Reg.HW_CQ_MOD_time 0) == 0 && 0 < c.get (Reg.HW_CQ_STAT_unann 0))
      && met (having [(Reg.HW_CQ_STAT_tail 7, 15), (Reg.HW_CQ_STAT_released 7, 1)]) (fun c =>
        c.get (Reg.HW_CQ_STAT_tail 7) < c.cqSize 7 && c.on (Reg.HW_CQ_STAT_released 7))
      && met (having [(Reg.HW_STAT_sleep, 1)]) (fun c => c.on Reg.HW_STAT_sleep)) = true := by decide +kernel

/-! ### Witnesses: CAN, Porch, ring and twin link -/

/-- Controller `n` joined in a mode, with more fields and its own state changed. -/
def joined (n m : Nat) (f : CanS → CanS) (l : List (Field × Nat)) : Chip :=
  (having ([(Reg.CAN_CTL_mode n, m), (Reg.CAN_STAT_integrating n, 0)] ++ l)).modCan n f

/-- A frame of classical CAN with an 11-bit identifier 7FFh and 8 bytes. -/
def classical : CanFrame := ⟨0x7FF * 2 ^ 18, false, false, false, false, false, 8, List.replicate 8 0⟩

/-- A frame of CAN FD with 64 bytes. -/
def fast : CanFrame := ⟨0x1FFFFFFF, true, false, true, true, false, 15, List.replicate 64 0⟩

theorem test_met_can_modes :
    (met { State.reset.chip with bus := { resets := [.can 3] } } (fun c => c.bus.resets.contains (.can 3))
      && met State.reset.chip (fun c => !c.bus.resets.contains (.can 3) && c.canMode 3 == 0 && !c.canJoined 3 && (c.canS 3).cur == none && !c.txPending 3 2
        && (c.canS 3).fifo.length ≤ 16)
      && met (joined 0 1 id [(Reg.CAN_TXB_STAT_status 0 2, 1)]) (fun c => c.canMode 0 == 1 && c.txPending 0 2 && !c.porchOn 0
        && (c.canS 0).cur.map (·.1) != some 2)
      && met (joined 0 1 (fun x => { x with cur := some (2, 0) }) [(Reg.CAN_TXB_STAT_status 0 2, 1)]) (fun c => c.txPending 0 2
        && (c.canS 0).cur.map (·.1) == some 2 && (c.canS 0).endAs == 0)
      && met (having [(Reg.CAN_CTL_mode 0, 1), (Reg.CAN_STAT_integrating 0, 1)]) (fun c => c.on (Reg.CAN_STAT_integrating 0)
        && !c.canStopped)
      && met (joined 0 3 id []) (fun c => c.canJoined 0 && c.canMode 0 == 3)
      && met (having [(Reg.CLK_STAT_on_backup, 1)]) (fun c => c.canStopped)) = true := by decide +kernel

theorem test_met_frames :
    (frameWf classical && frameWf fast
      && met (joined 0 1 id [(Reg.CAN_CFG_fd_en 0, 0)]) (fun c => c.canJoined 0 && c.canMode 0 != 3 && !c.porchOn 0
        && !c.on (Reg.CAN_CFG_fd_en 0))
      && met (joined 0 2 id [(Reg.CAN_CFG_nomatch 0, 1)]) (fun c => c.canJoined 0 && c.canMode 0 == 2
        && c.filterOf 0 classical == none && c.on (Reg.CAN_CFG_nomatch 0) && (c.canS 0).fifo.length < 16)
      && met (joined 0 1 (fun x => { x with fifo := List.replicate 16 ⟨classical, 0, false, 0⟩ }) [(Reg.CAN_STAT_rec 0, 128),
          (Reg.CAN_FLT_ID_action 0 31, 1), (Reg.CAN_FLT_ID_ide 0 31, 0), (Reg.CAN_FLT_MSK_mask 0 31, 0)]) (fun c => 16 ≤ (c.canS 0).fifo.length
        && 128 ≤ c.get (Reg.CAN_STAT_rec 0) && c.filterOf 0 classical == some 31 && c.get (Reg.CAN_FLT_ID_action 0 31) == 1)
      && met (joined 0 1 id [(Reg.CAN_STAT_rec 0, 127), (Reg.CAN_FLT_ID_action 0 0, 2), (Reg.CAN_FLT_ID_ide 0 0, 1), (Reg.CAN_FLT_MSK_mask 0 0, 0),
          (Reg.CAN_CFG_fd_en 0, 1), (Reg.CAN_HP_STAT_new 0, 1)]) (fun c => c.get (Reg.CAN_STAT_rec 0) < 128
        && c.filterOf 0 fast == some 0 && c.get (Reg.CAN_FLT_ID_action 0 0) == 2 && c.on (Reg.CAN_HP_STAT_new 0)
        && c.on (Reg.CAN_CFG_fd_en 0))
      && met (joined 0 1 id [(Reg.CAN_FLT_ID_action 0 0, 3), (Reg.CAN_FLT_MSK_mask 0 0, 0)]) (fun c => c.filterOf 0 classical == some 0)) = true := by
  decide +kernel

theorem test_met_transmission :
    (met (joined 0 1 id [(Reg.PORCH_P_CFG_en 0, 1)]) (fun c => c.porchOn 0)
      && met (joined 0 1 id [(Reg.CAN_CFG_fd_en 0, 0)]) (fun c => !c.porchOn 0 && !c.txPending 0 2
        && (!c.on (Reg.CAN_CFG_fd_en 0) && (hasBit (c.recWordOf 0 2 1) 4 || decide (8 < c.recWordOf 0 2 1 % 16))
          || (hasBit (c.recWordOf 0 2 1) 5 && !c.on (Reg.CAN_CFG_brs_en 0)) || c.canMode 0 == 0 || c.canMode 0 == 2
          || (c.porchOn 0 && hasBit (c.recWordOf 0 2 0) 29 && c.portState 0 != 2)) == false)
      && met ((joined 0 1 id [(Reg.CAN_CFG_fd_en 0, 0)]).recPut 0 2 1 9) (fun c => decide (8 < c.recWordOf 0 2 1 % 16))
      && met (joined 0 1 (fun x => { x with cur := some (2, 2 ^ 32 + 7) }) [(Reg.CAN_TXB_CMD_once 0 2, 1)]) (fun c =>
        !c.porchOn 0 && (c.canS 0).endAs == 0 && c.on (Reg.CAN_TXB_CMD_once 0 2) && (c.canS 0).cur == some (2, 2 ^ 32 + 7)
          && c.canMode 0 != 3)) = true := by decide +kernel

theorem test_met_bus_errors :
    (met (joined 0 1 id [(Reg.CAN_STAT_rec 0, 127)]) (fun c => c.canJoined 0 && c.canMode 0 == 1 && 127 ≤ c.get (Reg.CAN_STAT_rec 0)
        && (c.canS 0).cur == none)
      && met (joined 0 1 (fun x => { x with cur := some (0, 5) }) [(Reg.CAN_STAT_tec 0, 247)]) (fun c =>
        c.get (Reg.CAN_STAT_tec 0) < 248 && 120 ≤ c.get (Reg.CAN_STAT_tec 0) && (c.canS 0).cur.isSome)
      && met (joined 0 1 (fun x => { x with cur := some (0, 5) }) [(Reg.CAN_STAT_tec 0, 248)]) (fun c =>
        248 ≤ c.get (Reg.CAN_STAT_tec 0) && (c.canS 0).cur.isSome)
      && met (joined 0 1 (fun x => { x with cur := some (0, 5) }) [(Reg.CAN_STAT_tec 0, 128), (Reg.CAN_STAT_conf 0, 1),
          (Reg.CAN_STAT_ack_run 0, 15), (Reg.CAN_CFG_ack_lim 0, 16)]) (fun c => c.canJoined 0 && c.get (Reg.CAN_STAT_conf 0) == 1
        && 128 ≤ c.get (Reg.CAN_STAT_tec 0) && c.get (Reg.CAN_CFG_ack_lim 0) == min 127 (c.get (Reg.CAN_STAT_ack_run 0) + 1))
      && met (joined 0 1 (fun x => { x with recov := true }) [(Reg.CAN_STAT_conf 0, 2)]) (fun c =>
        c.get (Reg.CAN_STAT_conf 0) == 2 && (c.canS 0).recov && !c.canJoined 0)) = true := by decide +kernel

/-- Port 0 with Porch on, in a state, at address 80h, with more fields and its own state changed. -/
def port (st : Nat) (f : PortS → PortS) (l : List (Field × Nat)) : Chip :=
  let c := joined 0 1 id ([(Reg.PORCH_P_CFG_en 0, 1), (Reg.PORCH_P_STAT_state 0, st), (Reg.PORCH_P_STAT_addr 0, 0x80)] ++ l)
  { c with porch := { c.porch with port := updNth f 0 c.porch.port } }

theorem test_met_addresses :
    (met State.reset.chip (fun c => !c.porchOn 3 && c.portState 3 != 1 && !(c.portS 3).losing && !c.canJoined 3
        && c.porch.ses.length == 16 && c.porch.port.length == 4 && !c.on (Reg.PORCH_P_CFG_cmd_addr 3))
      && met (port 1 id []) (fun c => c.porchOn 0 && !c.bus.resets.contains (.can 0))
      && met { port 1 (fun p => { p with claimSent := true }) [] with now := 50000000 } (fun c => c.portState 0 == 1
        && (c.portS 0).claimSent && (c.portS 0).claimTick + 50000000 ≤ c.now)
      && met { port 1 (fun p => { p with claimSent := true }) [] with now := 50000000 - 1 } (fun c =>
        c.now < (c.portS 0).claimTick + 50000000)
      && met (port 2 id [(Reg.PORCH_P_NAME_HI_name 0, 0x7FFFFFFF), (Reg.PORCH_P_NAME_LO_name 0, 0xFFFFFFFF)]) (fun c =>
        c.canJoined 0 && c.canMode 0 != 3 && c.portAddr 0 == 0x80 && !hasBit (c.portName 0) 63
          && c.portName 0 < 0x8000000000000000)
      && met (port 2 (fun p => { p with taken := [128, 129] }) [(Reg.PORCH_P_NAME_HI_name 0, 0x80000000)]) (fun c =>
        hasBit (c.portName 0) 63 && (((List.range 120).map (· + 128)).find? fun x =>
          !((0x80 : Nat) :: (c.portS 0).taken).contains x) == some 130)
      && met (port 2 (fun p => { p with losing := true }) []) (fun c => c.porchOn 0 && (c.portS 0).losing
        && (c.portS 0).loseAt ≤ c.now && c.canSends 0 && !c.txPending 0 0 && (c.portS 0).claims == [])
      && met (port 2 (fun p => { p with losing := true }) [(Reg.CLK_STAT_on_backup, 1)]) (fun c => (c.portS 0).losing && !c.canSends 0)
      && met (port 2 (fun p => { p with losing := true, loseAt := 1 }) []) (fun c => c.now < (c.portS 0).loseAt)
      && met (port 2 id [(Reg.PORCH_P_CFG_cmd_addr 0, 1)]) (fun c => c.on (Reg.PORCH_P_CFG_cmd_addr 0))) = true := by
  decide +kernel

theorem test_met_requests :
    (met (port 2 id [(Reg.PORCH_P_CFG_req_sw 0, 1), (Reg.PORCH_CFG_ge_base, 251)]) (fun c => c.portState 0 == 2
        && c.get Reg.PORCH_CFG_ge_base ≤ 251 && (c.portS 0).counts.length == 5 && c.on (Reg.PORCH_P_CFG_req_sw 0)
        && !c.on Reg.PORCH_REQ_valid)
      && met (port 2 id [(Reg.PORCH_P_CFG_req_sw 0, 0), (Reg.CAN_TXB_STAT_status 0 1, 1)]) (fun c =>
        !c.on (Reg.PORCH_P_CFG_req_sw 0) && c.txPending 0 1)
      && met { port 2 id [(Reg.PORCH_REQ_valid, 1), (Reg.PORCH_CFG_req_to, 0), (Reg.CAN_TXB_STAT_status 0 1, 1)] with now := 2000000 }
        (fun c => c.on Reg.PORCH_REQ_valid && c.porch.reqAt + 2000000 * max 1 (c.get Reg.PORCH_CFG_req_to) ≤ c.now
          && c.txPending (c.get Reg.PORCH_REQ_port) 1)
      && met { port 2 id [(Reg.PORCH_REQ_valid, 1), (Reg.PORCH_CFG_req_to, 0)] with now := 2000000 - 1 } (fun c =>
        c.now < c.porch.reqAt + 2000000 * max 1 (c.get Reg.PORCH_CFG_req_to))) = true := by decide +kernel

/-- Session `x` of port 0 with peer 3 in a state, with its length and its own state changed. -/
def session (x st len : Nat) (f : SesS → SesS) (l : List (Field × Nat)) : Chip :=
  let c := port 2 id ([(Reg.PORCH_SES_STAT_state x, st), (Reg.PORCH_SES_PEER_peer x, 3), (Reg.PORCH_SES_CTL_len x, len),
    (Reg.PORCH_POOL_en, 1), (Reg.PORCH_POOL_base, 912)] ++ l)
  { c with porch := { c.porch with ses := updNth f x c.porch.ses } }

theorem test_met_sessions :
    (met (port 2 id [(Reg.PORCH_POOL_en, 1)]) (fun c => !c.sesRuns 7 && c.bufOwner (c.get Reg.PORCH_POOL_base + 7 * 7) == 0
        && c.rxFree == some 8 && c.sesFind recvSlots 0 3 false false == none && c.sesFind recvSlots 0 3 true false == none)
      && met ((List.range 7).foldl (fun c i => c.setByte (flagAddr (912 + i)) 1) (session 0 0 0 id [])) (fun c =>
        c.on Reg.PORCH_POOL_en && (List.range 7).all (fun i => c.bufOwner (c.get Reg.PORCH_POOL_base + 7 * 0 + i) == 1)
          && c.porchOn 0 && c.portState 0 == 2 && !c.porchOn 1 && !c.sesRuns 0)
      && met ((List.range 8).foldl (fun c i => c.set (Reg.PORCH_SES_STAT_state (8 + i)) 1) (port 2 id [])) (fun c => c.rxFree == none)
      && met (session 7 1 14 (fun x => { x with next := 3 }) []) (fun c => c.sesFind sendSlots 0 3 false false == some 7
        && c.sesPackets 7 < (c.sesS 7).next)
      && met (session 15 1 14 (fun x => { x with next := 1, winEnd := 2 }) []) (fun c =>
        c.sesFind recvSlots 0 3 false false == some 15 && (c.sesS 15).next < c.sesPackets 15 && (c.sesS 15).winEnd != 1
          && c.sesBuf 15 ≤ 1024)
      && met (session 8 1 14 (fun x => { x with next := 1, winEnd := 2 }) []) (fun c => c.sesBuf 8 ≤ 1000)
      && met (session 8 1 9 (fun x => { x with next := 2, winEnd := 2 }) []) (fun c => c.sesPackets 8 == 2 && (c.sesS 8).next == 2
        && c.sesPgn 8 != 0xFED8)
      && met { session 0 1 14 (fun x => { x with bam := true, timer := 5 }) [] with now := ms 50 } (fun c => c.sesRuns 0
        && (c.sesS 0).bam && (c.sesS 0).timer == 5 && c.timerPast 0)
      && met (session 0 1 14 (fun x => { x with bam := true, timer := 5 }) []) (fun c => c.sesRuns 0 && !c.timerPast 0)
      && met (session 0 1 14 id []) (fun c => (c.sesS 0).timer == 0 && !(c.sesS 0).bam)
      && met { session 15 1 14 (fun x => { x with timer := 4 }) [] with now := ms 1250 } (fun c => c.sesRuns 15
        && (c.sesS 15).timer == 4 && c.timerPast 15)
      && met (session 8 2 14 id []) (fun c => 2 ≤ c.get (Reg.PORCH_SES_STAT_state 8))) = true := by decide +kernel

/-- A message of the processor safety channel of the given type and counter from address 3 to 80h, with its CRC. -/
def checked (ty n : Byte) : List Byte :=
  let l : List Byte := [ty, 16 * n, 9, 8, 7, 6]
  let k := crc16 ([3, 0x80] ++ l)
  l ++ [BitVec.ofNat 8 (k / 256), BitVec.ofNat 8 k]

/-- Port 0 has taken a torque command with counter 15 for cluster 0. -/
def streaming : Chip :=
  typed 1 (port 2 (fun p => { p with streams := [(4 * 0x10, 15)] }) [(Reg.PORCH_CFG_skip, 3)])

theorem test_met_messages :
    (met (having [(Reg.HW_SQ_CFG_en 0, 1), (Reg.HW_SQ_CFG_base 0, 1023)]) (fun c => c.ringsOn.any fun o => o.1 < 1023 + 112
        && 911 < o.1 + o.2)
      && met State.reset.chip (fun c => c.ringsOn == [] && 912 + 112 ≤ 1024)
      && met (port 2 (fun p => { p with lastPeak := 1 }) []) (fun c => c.porchOn 0 && c.portState 0 == 2
        && (c.portS 0).counts.length == 5 && !c.on (Reg.CAN_STAT_alone 0) && c.peakByte != (c.portS 0).lastPeak)
      && met (port 2 id [(Reg.PORCH_P_CFG_per 0, 0)]) (fun c => c.peakByte == (c.portS 0).lastPeak && c.get (Reg.PORCH_P_CFG_per 0) == 0)
      && met { port 2 id [(Reg.PORCH_P_CFG_per 0, 1)] with now := 199999 } (fun c =>
        c.now < (c.portS 0).statAt + 200000 * c.get (Reg.PORCH_P_CFG_per 0))
      && met { port 2 id [(Reg.PORCH_P_CFG_per 0, 1)] with now := 200000 } (fun c => c.get (Reg.PORCH_P_CFG_per 0) != 0
        && (c.portS 0).statAt + 200000 * c.get (Reg.PORCH_P_CFG_per 0) ≤ c.now)
      && met { port 2 id [(Reg.CAN_STAT_alone 0, 1)] with now := 200000000 } (fun c => c.on (Reg.CAN_STAT_alone 0)
        && (c.portS 0).probeAt + 200000000 ≤ c.now)
      && met streaming (fun c => c.canJoined 0 && c.canMode 0 != 3 && c.portState 0 == 2 && c.portAddr 0 < 254
        && (c.topo 0).type == 1
        && ((c.portS 0).streams.find? fun p => p.1 = 4 * (0x10 : Nat) + 0) == some (64, 15)
        && (2 + 16 - 15) % 16 ≤ c.get Reg.PORCH_CFG_skip && max 1 (c.get Reg.PORCH_CFG_skip) < (3 + 16 - 15) % 16)
      && crc16 ([3, 0x80] ++ (checked 0x10 2).take 6) == 256 * ((checked 0x10 2).getD 6 0).toNat + ((checked 0x10 2).getD 7 0).toNat
      && met { port 2 id [(Reg.PORCH_P_CFG_cmd_req 0, 1), (Reg.PORCH_P_CMD_TO_ms 0, 0)] with now := 200000 } (fun c =>
        c.porchOn 0 && c.on (Reg.PORCH_P_CFG_cmd_req 0)
          && (c.portS 0).applied + 200000 * max 1 (c.get (Reg.PORCH_P_CMD_TO_ms 0)) ≤ c.now)
      && met { port 2 id [(Reg.PORCH_P_CFG_cmd_req 0, 1), (Reg.PORCH_P_CMD_TO_ms 0, 0)] with now := 199999 } (fun c =>
        c.now < (c.portS 0).applied + 200000 * max 1 (c.get (Reg.PORCH_P_CMD_TO_ms 0)))) = true := by decide +kernel

/-- Node 1 of the ring in a role, with more fields and its own state changed. -/
def ringAt (role : Nat) (f : RingS → RingS) (l : List (Field × Nat)) : Chip :=
  let c := having ([(Reg.RING_CTL_en, 1), (Reg.RING_STAT_node, 1), (Reg.RING_STAT_role, role)] ++ l)
  { c with ring := f c.ring }

theorem test_met_ring :
    (met { State.reset.chip with bus := { resets := [.ring] } } (fun c => c.bus.resets.contains .ring)
      && met (having [(Reg.CLK_STAT_on_backup, 1)]) (fun c => c.on Reg.CLK_STAT_on_backup && !c.on Reg.RING_CTL_en
        && 32 * (c.nMax - 1) + 8 ≤ 10 * c.cycleUs)
      && met State.reset.chip (fun c => !c.bus.resets.contains .ring && !c.on Reg.RING_CTL_en && !c.ringOn && c.ring.msgs.length == 4 && c.ring.spMiss.length == 4
        && 32 * (c.nMax - 1) + 8 ≤ 10 * c.cycleUs && c.nodeNumber < 2)
      && met (having [(Reg.RING_CFG_cycle, 50), (Reg.RING_CFG_nmax, 31)]) (fun c => 10 * c.cycleUs < 32 * (c.nMax - 1) + 8)
      && met { State.reset.chip with cfg := { nodeStrap := 2 } } (fun c => c.nodeNumber == 2)
      && met { ringAt 3 id [(Reg.RING_CFG_cycle, 50)] with now := 8 * (200 * 50) } (fun c => c.ringOn && c.ringRole == 3
        && c.get Reg.RING_STAT_node != 0 && c.ring.startAt + 8 * (200 * c.cycleUs) ≤ c.now)
      && met (ringAt 3 id [(Reg.RING_CFG_cycle, 50)]) (fun c => c.ringOn && c.ringRole == 3
        && c.now < c.ring.startAt + 4 * (200 * c.cycleUs) && c.now < c.ring.cycleAt + 200 * c.cycleUs)
      && met { ringAt 1 (fun r => { r with missing := [(5, 2)], runBoth := 1 }) [(Reg.RING_CFG_cycle, 50),
          (Reg.RING_PRESENT_present, 0x20), (Reg.RING_CFG_fo_en, 1)] with now := 200 * 50 } (fun c => c.ringOn
        && c.ring.cycleAt + 200 * c.cycleUs ≤ c.now && !c.on Reg.RING_STAT_dup && !hasBit c.ring.heard 5
        && hasBit (c.get Reg.RING_PRESENT_present) 5 && lookupD 0 5 c.ring.missing == 2
        && !hasBit c.ring.heard (1 - c.get Reg.RING_STAT_node) && !c.ring.twinHb && 1 ≤ c.ring.runBoth
        && c.on Reg.RING_CFG_fo_en)
      && met { ringAt 0 id [(Reg.RING_CFG_cycle, 50), (Reg.RING_CFG_sp_to, 0), (Reg.RING_C_STAT_stale 3, 0),
          (Reg.SEQ_CFG_cmd_src 3, 0)] with now := 200 * 50 } (fun c => !hasBit c.ring.taken 3
        && nth c.ring.spMiss 3 + 1 == max 1 (c.get Reg.RING_CFG_sp_to) && !c.on (Reg.RING_C_STAT_stale 3)
        && !c.on (Reg.SEQ_CFG_cmd_src 3))
      && met (ringAt 1 (fun r => { r with lostA := 0 }) []) (fun c => c.on Reg.RING_CTL_en && !c.ring.wrapA && !c.ring.wrapB)
      && met (ringAt 1 (fun r => { r with wrapA := true, lostA := 1 }) []) (fun c => c.ring.wrapA && !c.ring.readyA
        && c.now < c.ring.lostA + 2000000)
      && met (ringAt 1 (fun r => { r with wrapA := true, readyA := true }) []) (fun c => c.ring.wrapA && c.ring.readyA)
      && met { ringAt 1 (fun r => { r with wrapB := true }) [] with now := 2000000 } (fun c => c.ring.wrapB
        && c.ring.lostB + 2000000 ≤ c.now)) = true := by decide +kernel

/-- The data for the lower nodes that name every cluster, with their CRC for node 1 and epoch 7. -/
def downData : List Byte :=
  let l := List.replicate 16 0x11 ++ [0x8F, 0] ++ leBytes 2 7 ++ [0, 0]
  l ++ leBytes 2 (crc16 (leBytes 1 1 ++ l))

theorem test_met_cyclic_frames :
    (met (ringAt 0 (fun r => { r with sent := true, firstB := true }) [(Reg.RING_EPOCH_seen, 7)]) (fun c => c.on Reg.RING_CTL_en
        && c.ringRole != 2 && c.ring.sent && c.leaveOn true == c.ring.firstB
        && leNat ((downData.drop 18).take 2) == c.get Reg.RING_EPOCH_seen)
      && downData.length == 24 && hasBit (downData.getD 16 0).toNat 7 && hasBit (downData.getD 16 0).toNat 3
      && crc16 (leBytes 1 1 ++ downData.take 22) == leNat (downData.drop 22)
      && met (ringAt 3 id []) (fun c => c.ringOn && (5 : Nat) != c.get Reg.RING_STAT_node && c.ringRole == 3 && !c.ring.sent))
      = true := by decide +kernel

theorem test_met_ring_messages :
    (met (ringAt 1 id [(Reg.RING_MSG_CFG_en, 0)]) (fun c => !c.msgRuns 3 && !c.on Reg.RING_MSG_CFG_en && !(c.msgS 3).inFlight)
      && met (((having [(Reg.RING_MSG_CFG_en, 1)])).setByte (flagAddr 1023) 1) (fun c => !c.ringOn && c.on Reg.RING_MSG_CFG_en
        && c.bufOwner 1023 == 1 && (63 : Nat) != c.get Reg.RING_STAT_node)
      && met (ringAt 1 (fun r => { r with msgs := updNth (fun m => { m with inFlight := true }) 3 r.msgs }) [(Reg.RING_TX_STAT_status 3, 1)])
        (fun c => c.msgRuns 3 && (c.msgS 3).inFlight && c.get (Reg.RING_TX_STAT_tries 3) < 3)
      && met ((ringAt 1 id [(Reg.RING_MSG_CFG_en, 1)]).setByte (flagAddr 1023) 1) (fun c => c.on Reg.RING_MSG_CFG_en
        && c.bufOwner 1023 == 1 && (63 : Nat) != c.get Reg.RING_STAT_node && c.ringOn && !c.on Reg.RING_STAT_dup)
      && met ({ ringAt 1 (fun r => { r with msgs := updNth (fun m => { m with inFlight := true }) 3 r.msgs }) [(Reg.RING_TX_STAT_status 3, 1),
          (Reg.RING_TX_STAT_tries 3, 3), (Reg.RING_MSG_CFG_ack_to, 0), (Reg.RING_CFG_cycle, 50)] with now := 200 * 50 }) (fun c =>
        c.msgRuns 3 && (c.msgS 3).inFlight && !(c.msgS 3).stop && c.get (Reg.RING_TX_STAT_tries 3) == 3
          && (c.msgS 3).tryAt + max 1 (c.get Reg.RING_MSG_CFG_ack_to) * (200 * c.cycleUs) ≤ c.now)
      && met (ringAt 1 (fun r => { r with msgs := updNth (fun m => { m with dst := 5, seq := 255 }) 0 r.msgs })
          [(Reg.RING_TX_STAT_status 0, 1)]) (fun c => c.msgRuns 0 && !(c.msgS 0).inFlight && (c.msgS 0).seq == 255 && (c.msgS 0).dst == 5
        && !c.bus.resets.contains .ring)
      && met (ringAt 1 id [(Reg.RING_MSG_CFG_en, 1), (Reg.RING_RX_STAT_full 0, 1)]) (fun c => c.ring.transit.length < 8
        && c.ring.stored == [] && ((List.range 4).find? fun r => !c.on (Reg.RING_RX_STAT_full r)) == some 1)
      && acyclicWf ⟨.data, 5, 1, 0, 0, List.replicate 1008 0⟩ && acyclicWf ⟨.ack, 5, 1, 0, 255, []⟩) = true := by decide +kernel

theorem test_met_twin :
    (met (ringAt 1 id [(Reg.TWIN_STAT_sig, 1), (Reg.TWIN_CFG_en, 1)]) (fun c => c.on Reg.TWIN_STAT_sig
        && c.on Reg.TWIN_CFG_en && c.ringRole == 1 && !c.twin.failed && c.twin.next == 0 && copyWf [0] && copyWf (List.replicate 1024 0))
      && met State.reset.chip (fun c => !c.on Reg.TWIN_STAT_sig && !c.on Reg.TWIN_CFG_en)) = true := by
  decide +kernel
/-! ### Single steps, with the results that the spec's tables give -/

/-- Run a command in a module and look at the module after it. -/
def after (i : Instr) (c : Chip) (p : Chip → Bool) : Bool :=
  match exec i ⟨c, []⟩ with
  | .next t => p t.chip
  | _ => false

/-- READ_ID answers 4Dh, 48h, 26h, 12h and the silicon step (Table 14-1); FENCE outside 8D mode is a protocol error (R546). -/
theorem test_port :
    (after .readId State.reset.chip (fun c => c.hw.out.take 4 == [0x4D, 0x48, 0x26, 0x12])
      && after .fence (having [(Reg.HW_STAT_mode8d, 0)]) (fun c => c.on Reg.HW_FLAGS_proto)) = true := by decide +kernel

/-- A free semaphore is granted, and a requester that does not hold it cannot give it back (R528). -/
theorem test_semaphore :
    (after (.semTake .host 31) State.reset.chip (fun c => c.semOwner 31 == 40)
      && after (.semGive (.hart 0) 31) ((running State.reset.chip).semSet 31 40) (fun c => c.semOwner 31 == 40 && c.on Reg.MEM_FLAGS_sem_bad))
      = true := by decide +kernel

/-- A bus error as transmitter adds 8 to tec, as receiver 1 to rec (R583); 248 and 8 is bus-off. -/
theorem test_can_counters :
    (after (.busError 0 ⟨true, 1, false, 0, false⟩) (joined 0 1 (fun x => { x with cur := some (0, 5) }) [(Reg.CAN_STAT_tec 0, 120)])
        (fun c => c.get (Reg.CAN_STAT_tec 0) == 128 && c.get (Reg.CAN_STAT_conf 0) == 1)
      && after (.busError 0 ⟨true, 1, false, 0, false⟩) (joined 0 1 (fun x => { x with cur := some (0, 5) }) [(Reg.CAN_STAT_tec 0, 248)])
        (fun c => c.get (Reg.CAN_STAT_conf 0) == 2)
      && after (.busError 0 ⟨false, 1, false, 0, false⟩) (joined 0 1 id [(Reg.CAN_STAT_rec 0, 0)]) (fun c =>
        c.get (Reg.CAN_STAT_rec 0) == 1)) = true := by decide +kernel

/-- The count wraps from CPR − 1 to 0 and back; 00 to 10 is forward, 00 to 01 backward (R271). -/
theorem test_count_wraps :
    (after (.quadCount 0 true false) ((position 1 [(Reg.POS_CNT_cnt 0, 8191), (Reg.POS_CPR_cpr 0, 8192)])) (fun c =>
        c.get (Reg.POS_CNT_cnt 0) == 0)
      && after (.quadCount 0 false true) ((position 1 [(Reg.POS_CNT_cnt 0, 0), (Reg.POS_CPR_cpr 0, 8192)])) (fun c =>
        c.get (Reg.POS_CNT_cnt 0) == 8191)) = true := by decide +kernel

/-- The last phase of a turn-off ends with the gate off and the island ready (R385). -/
theorem test_turn_off_ends :
    (after (.phaseEnd 1) (islandAt 1 (fun i => { i with gate := .offPhase3, real := 3 }) []) (fun c =>
      (c.island 1).gate == .off && (c.island 1).real == 2)) = true := by decide +kernel

/-- The epoch after 65,535 is 1 (R634). -/
theorem test_epoch_wraps : epochNext 65535 = 1 ∧ epochNext 1 = 2 := by decide +kernel

/-! ### Witnesses: an accepted token and an accepted image

Signatures are made with the standard's equations for a key whose private number was chosen for the purpose. -/

/-- Bytes of a number, highest first. -/
def beBytes (n v : Nat) : List Byte := (leBytes n v).reverse

/-- The key and the signature of the token. -/
def tokenKey : Nat := 0x6fc3dc659fd8e7e9fa6e891ccc3af7015e6449b0d1635d2ba01ba7d54823124310794baf000a25a323d165778040a5f8a662a98d81f93dc9f44b19504a46c85d
def tokenSig : Nat := 0x7cf27b188d034f7e8a52380304b51ac3c08969e277f21b35a60b48fc476699780a6a2ca5b84c2b5d12af4fb7c5a2b23e3e8229105a07bd85c9f9e5d09e7a8c5a

/-- The token for VENDOR to INTEGRATE in buffer 0, signed by the key of slot 4. -/
def tokenHeld : Chip :=
  { State.reset.chip.setBytes 0x30000000 ([0x54, 0x4B, 0x4E, 0x31, 1, 1, 4, 0] ++ List.replicate 24 0 ++ beBytes 64 tokenKey
      ++ beBytes 64 tokenSig) with
    cfg := { token := some 0, fuses := { keyHash := [0, 0, 0, 0, 0x9dd061ea1eb2239dcd7c98b55a93af237f76fbe21800647432761e5bb9aab372] } } }

set_option maxRecDepth 20000 in
theorem test_met_token_good :
    (met tokenHeld fun c => match c.tokenCheck 0 with | .inr f => f.integrate && c.cfg.token == some 0 | .inl _ => false) = true := by
  decide +kernel

/-- The key and the signature of the image. -/
def imageKey : Nat := 0xfd99767e5e1ce5fb006db9bdaf948a7516475bb48f4aafe2e582fdf6e0ccd2609fa3b643a1c8c4796a345665cb6e696fbb9b3e901168ff31eb9c3d9d93c85fdd
def imageSig : Nat := 0x7cf27b188d034f7e8a52380304b51ac3c08969e277f21b35a60b48fc47669978a7d841aecc2a7bab4f022188d75e89059a5dfd9ad55906f0b4fedf8c502c4491

/-- The header, the section table and the firmware of a smallest image: no pin, no cluster, four bytes of firmware executed in
place. -/
def imageHead : List Byte :=
  [70, 76, 78, 77, 1, 0, 64, 0, 0, 16, 0, 0, 3, 0, 18, 38,
   0, 1, 0, 0, 0, 0, 0, 0, 128, 0, 0, 16, 128, 0, 0, 16,
   0, 0, 0, 0, 0, 0, 0, 0, 0, 0, 0, 0, 0, 0, 0, 0,
   0, 0, 0, 0, 0, 0, 0, 0, 0, 0, 0, 0, 0, 0, 0, 0,
   3, 0, 0, 0, 128, 0, 0, 0, 0, 0, 0, 0, 0, 0, 0, 0,
   0, 0, 0, 0, 4, 0, 0, 0, 128, 0, 0, 0, 0, 0, 0, 0,
   0, 0, 0, 0, 0, 0, 0, 0, 6, 2, 0, 0, 128, 0, 0, 0,
   4, 0, 0, 0, 128, 0, 0, 16, 109, 39, 232, 99, 255, 255, 255, 255,
   19, 0, 0, 0]

/-- The memory with the head of the image in bank A, and with its signature behind it. -/
def imageBase : Chip := State.reset.chip.setBytes 0x10000000 imageHead
def imageSealed : Chip := imageBase.setBytes 0x10000F10 (beBytes 64 imageKey ++ beBytes 64 imageSig)

/-- A module whose bank A holds that image, signed by the key of slot 0. -/
def imageHeld : Chip :=
  { imageSealed with
    cfg := { fuses := { keyHash := [0x898c305da178ad507f3ea0b599ebe7df08fb3c3e28143d9f29aa8a159890e2ed] } } }

/-- The bytes of the image that its signature covers. -/
def imageSigned : List Byte := imageHead ++ List.replicate 3708 0xFF

theorem byte_cfg (c : Chip) (x : CfgS) (a : Nat) : Chip.byte { c with cfg := x } a = c.byte a := rfl

theorem image_bytes : imageHeld.bytes 0x10000000 3840 = imageSigned := by
  have hl : imageHead.length = 132 := by decide +kernel
  refine List.ext_getElem (by simp only [Chip.bytes, imageSigned, List.length_map, List.length_range, List.length_append,
    List.length_replicate, hl]) fun i h h2 => ?_
  have hi : i < 3840 := by simpa [Chip.bytes] using h
  have hm : ∀ a, imageHeld.byte a = imageSealed.byte a := byte_cfg imageSealed _
  have hb : imageHeld.byte (0x10000000 + i) = imageBase.byte (0x10000000 + i) :=
    (hm _).trans (Chip.byte_setBytes_other _ imageBase _ _ (Or.inl (by omega)))
  simp only [Chip.bytes, List.getElem_map, List.getElem_range, hb]
  by_cases hd : i < 132
  · refine (Chip.byte_setBytes _ _ _ _ (by rw [hl]; exact hd)).trans ?_
    simp only [imageSigned, List.getElem_append, hl, hd, dite_true]
  · refine (Chip.byte_setBytes_other _ _ _ _ (Or.inr (by omega))).trans ?_
    have : imageSigned[i]'h2 = (0xFF : Byte) := by
      simp only [imageSigned, List.getElem_append, hl, hd, dite_false, List.getElem_replicate]
    exact Eq.trans (if_pos ⟨by omega, by omega⟩) this.symm

set_option maxRecDepth 200000 in
theorem image_hash : sha256 imageSigned = 0xa7d841aecc2a7bab4f022188d75e89059a5dfd9ad55906f0b4fedf8c502c4491 := by decide +kernel

theorem image_places :
    (imageHeld.bytes (0x10000000 + 3840 + 0x10) 64, imageHeld.bytes (0x10000000 + 3840 + 0x50) 64) =
      (beBytes 64 imageKey, beBytes 64 imageSig) := by decide +kernel

theorem image_length : (imageHeld.readImage 0).length = 4096 := by decide +kernel

theorem image_signature : ecdsaOk (beBytes 64 imageKey) (beBytes 64 imageSig) imageSigned = true := by
  unfold ecdsaOk
  rw [image_hash]
  decide +kernel

/-- StartUpRuns, the bank that starts. -/
theorem test_met_image_good :
    imageHeld.imageCheck 0 = 0 ∧
      (met imageHeld fun c => c.bootRec.pref == 0 && c.bootRec.trial == 0 && c.pwr.locked && c.cfg.boot == 0) = true := by
  refine ⟨?_, by decide +kernel⟩
  have h : ecdsaOk (imageHeld.bytes (bankBase 0 + (imageHeld.readImage 0).length - 256 + 0x10) 64)
      (imageHeld.bytes (bankBase 0 + (imageHeld.readImage 0).length - 256 + 0x50) 64)
      (imageHeld.bytes (bankBase 0) ((imageHeld.readImage 0).length - 256)) = true := by
    rw [image_length]
    have e := image_places
    rw [Prod.mk.injEq] at e
    show ecdsaOk (imageHeld.bytes (0x10000000 + 3840 + 0x10) 64) (imageHeld.bytes (0x10000000 + 3840 + 0x50) 64)
      (imageHeld.bytes 0x10000000 3840) = true
    rw [e.1, e.2, image_bytes]
    exact image_signature
  unfold imageCheck
  simp only [h]
  decide +kernel

end Sys2Proof.Tests
end

section
/-! SUPPORT. The bits of a natural number as the model reads them, and what a written word leaves of a field and of a
register's fields, by access type (Table 00-4). -/

namespace Sys2Proof.Machine

/-! ### Bits -/

theorem hasBit_eq_testBit (v i : Nat) : hasBit v i = v.testBit i := by
  rw [Nat.testBit_eq_decide_div_mod_eq, hasBit, bitOf, Bool.beq_eq_decide_eq]

theorem part_lt (v l w : Nat) : part v l w < 2 ^ w := Nat.mod_lt _ (Nat.two_pow_pos w)

theorem hasBit_part_zero (v l : Nat) : hasBit (part v l 1) 0 = hasBit v l := by
  simp [hasBit, bitOf, part]

theorem part_word (d : Word) : part d.toNat 0 32 = d.toNat := by
  rw [part, pow_zero, Nat.div_one, Nat.mod_eq_of_lt d.isLt]

/-- The bits that two numbers share and those that the first has alone make up the first. -/
theorem and_add_ldiff (x m : Nat) : (x &&& m) + x.ldiff m = x := by
  induction x using Nat.binaryRec generalizing m with
  | zero => simp [Nat.ldiff]
  | bit b x ih =>
    obtain ⟨c, n, rfl⟩ : ∃ c n, m = Nat.bit c n := ⟨_, _, (Nat.bit_testBit_zero_shiftRight_one m).symm⟩
    rw [Nat.land_bit, Nat.ldiff_bit]
    have := ih n
    cases b <;> cases c <;> simp [Nat.bit] <;> omega

/-- Taking the shared bits away by subtraction clears them. -/
theorem sub_and_eq_ldiff (x m : Nat) : x - (x &&& m) = x.ldiff m :=
  Nat.sub_eq_of_eq_add' (and_add_ldiff x m).symm

theorem ldiff_le (x m : Nat) : x.ldiff m ≤ x := sub_and_eq_ldiff x m ▸ Nat.sub_le ..

/-- A number of one bit keeps it unless it is cleared. -/
theorem ldiff_of_lt_two {x : Nat} (h : x < 2) (m : Nat) : x.ldiff m = if hasBit m 0 then 0 else x := by
  refine Nat.eq_of_testBit_eq fun j => ?_
  rw [Nat.testBit_ldiff, hasBit_eq_testBit]
  cases j with
  | zero => cases m.testBit 0 <;> simp
  | succ j =>
    have hx : x.testBit (j + 1) = false := Nat.testBit_lt_two_pow (h.trans_le (Nat.le_self_pow j.succ_ne_zero 2))
    split <;> simp [hx]

namespace Chip

/-! ### A word written to one field -/

variable (s : Chip) (d : Nat) (isOpen : Bool)

theorem get_lt (f : Field) : s.get f < 2 ^ f.width := Nat.mod_lt _ (Nat.two_pow_pos _)

/-- The bits of a W1C field that a written word clears: those written 1 that hardware has not set in this tick (R29). -/
def cleared (f : Field) : Nat := (part d f.lsb f.width).ldiff (lookupD 0 f.key s.irq.fresh)

theorem writeField_plain {f : Field} (h : f.acc = .rw ∨ f.acc = .rws) :
    s.writeField d isOpen f = s.set f (part d f.lsb f.width) := by
  rcases h with h | h <;> simp [writeField, h]

theorem writeField_rwl {f : Field} (h : f.acc = .rwl) :
    s.writeField d isOpen f = if isOpen then s.set f (part d f.lsb f.width) else s := by
  simp [writeField, h]

theorem writeField_w1c {f : Field} (h : f.acc = .w1c) :
    s.writeField d isOpen f = s.assign f ((s.get f).ldiff (s.cleared d f)) := by
  simp [writeField, h, sub_and_eq_ldiff, cleared]

theorem writeField_w1s {f : Field} (h : f.acc = .w1s) :
    s.writeField d isOpen f = s.set f (s.get f ||| part d f.lsb f.width) := by
  simp [writeField, h]

theorem writeField_kept {f : Field} (h : f.acc = .ro ∨ f.acc = .wo ∨ f.acc = .rwi ∨ f.acc = .rwe) :
    s.writeField d isOpen f = s := by
  rcases h with h | h | h | h <;> simp [writeField, h]

theorem get_writeField_plain {f : Field} (h : f.acc = .rw ∨ f.acc = .rws) :
    (s.writeField d isOpen f).get f = part d f.lsb f.width := by
  rw [writeField_plain s d isOpen h, get_set_self, Nat.mod_eq_of_lt (part_lt ..)]

theorem get_writeField_rwl {f : Field} (h : f.acc = .rwl) :
    (s.writeField d isOpen f).get f = if isOpen then part d f.lsb f.width else s.get f := by
  rw [writeField_rwl s d isOpen h]
  cases isOpen
  · rfl
  · exact (s.get_set_self f _).trans (Nat.mod_eq_of_lt (part_lt ..))

theorem get_writeField_w1c {f : Field} (h : f.acc = .w1c) :
    (s.writeField d isOpen f).get f = (s.get f).ldiff (s.cleared d f) := by
  rw [writeField_w1c s d isOpen h, get_assign_self, Nat.mod_eq_of_lt ((ldiff_le ..).trans_lt (s.get_lt f))]

theorem get_writeField_w1s {f : Field} (h : f.acc = .w1s) :
    (s.writeField d isOpen f).get f = s.get f ||| part d f.lsb f.width := by
  rw [writeField_w1s s d isOpen h, get_set_self, Nat.mod_eq_of_lt (Nat.or_lt_two_pow (s.get_lt f) (part_lt ..))]

/-- A written word keeps everything but its field. -/
theorem Frame.writeField {f : Field} {fs : List Field} (ps : List Part) (hf : f ∈ fs) :
    s.Frame (s.writeField d isOpen f) fs ps := by
  cases h : f.acc with
  | rw | rws => rw [writeField_plain s d isOpen (by simp [h])]; exact .set s f _ ps hf
  | rwl =>
    rw [writeField_rwl s d isOpen h]
    split
    · exact .set s f _ ps hf
    · exact .refl ..
  | w1c => rw [writeField_w1c s d isOpen h]; exact .assign s f _ ps hf
  | w1s => rw [writeField_w1s s d isOpen h]; exact .set s f _ ps hf
  | ro | wo | rwi | rwe => rw [writeField_kept s d isOpen (by simp [h])]; exact .refl ..

theorem get_writeField_other {f g : Field} (h : g.key ≠ f.key) : (s.writeField d isOpen f).get g = s.get g :=
  (Frame.writeField s d isOpen [] (List.mem_singleton_self f)).1 g (by simpa using h)

/-- The hardware's write marks W1C bits alone as set in this tick. -/
theorem set_irq_of_ne_w1c {f : Field} (h : f.acc ≠ .w1c) (v : Nat) : (s.set f v).irq = s.irq := by
  simp [Chip.set, freshen, h]

/-- A written word marks no bit as set by hardware in this tick. -/
theorem writeField_irq (f : Field) : (s.writeField d isOpen f).irq = s.irq := by
  cases h : f.acc with
  | rw | rws => rw [writeField_plain s d isOpen (by simp [h]), set_irq_of_ne_w1c s (by simp [h])]
  | rwl =>
    rw [writeField_rwl s d isOpen h]
    split
    · exact set_irq_of_ne_w1c s (by simp [h]) _
    · rfl
  | w1c => rw [writeField_w1c s d isOpen h, assign_irq]
  | w1s => rw [writeField_w1s s d isOpen h, set_irq_of_ne_w1c s (by simp [h])]
  | ro | wo | rwi | rwe => rw [writeField_kept s d isOpen (by simp [h])]

/-- What a written word leaves in a field hangs on the field's value and on what hardware has set in this tick alone. -/
theorem get_writeField_congr {s t : Chip} {f : Field} (hg : s.get f = t.get f) (hi : s.irq = t.irq) :
    (s.writeField d isOpen f).get f = (t.writeField d isOpen f).get f := by
  cases h : f.acc with
  | rw | rws => simp only [get_writeField_plain, h, true_or, or_true]
  | rwl => simp only [get_writeField_rwl _ _ _ h, hg]
  | w1c => simp only [get_writeField_w1c _ _ _ h, cleared, hg, hi]
  | w1s => simp only [get_writeField_w1s _ _ _ h, hg]
  | ro | wo | rwi | rwe => rw [writeField_kept, writeField_kept, hg] <;> simp [h]

/-! ### A word written to a register -/

/-- A written word keeps everything but the register's fields. -/
theorem Frame.writeFields {fs : List Field} (ps : List Part) (l : List Field) :
    ∀ s : Chip, (∀ f ∈ l, f ∈ fs) → s.Frame (s.writeFields l d isOpen) fs ps := by
  induction l with
  | nil => exact fun s _ => .refl ..
  | cons f l ih =>
    intro s h
    exact (Frame.writeField s d isOpen ps (h f (by simp))).trans (ih _ fun g hg => h g (by simp [hg]))

theorem writeFields_bus (l : List Field) : (s.writeFields l d isOpen).bus = s.bus :=
  ((Frame.writeFields (fs := l) d isOpen [] l s fun _ h => h).2 .bus (by simp)).symm

/-- Each field of a register takes the word as if it were the only one. -/
theorem get_writeFields {l : List Field} (hk : l.Pairwise fun f g => f.key ≠ g.key) {f : Field} (hf : f ∈ l) :
    ∀ s : Chip, (s.writeFields l d isOpen).get f = (s.writeField d isOpen f).get f := by
  induction l with
  | nil => simp at hf
  | cons g l ih =>
    intro s
    obtain ⟨hg, hl⟩ := List.pairwise_cons.1 hk
    rcases List.mem_cons.1 hf with rfl | hf
    · exact (Frame.writeFields (fs := l) d isOpen [] l _ fun _ h => h).1 f hg
    · exact (ih hl hf _).trans
        (get_writeField_congr d isOpen (get_writeField_other s d isOpen (hg f hf).symm) (s.writeField_irq d isOpen g))

end Chip

/-- Settles O9, one access type at a time. -/
theorem writeFieldByAccess : Obligations.WriteFieldByAccess := by
  unfold Obligations.WriteFieldByAccess
  intro s d isOpen f
  refine ⟨s.get_writeField_plain d isOpen, s.get_writeField_rwl d isOpen, fun h _ i _ => ?_,
    fun h _ => s.get_writeField_w1s d isOpen h, fun h => by rw [s.writeField_kept d isOpen h],
    fun g hg => s.get_writeField_other d isOpen hg⟩
  rw [s.get_writeField_w1c d isOpen h, Chip.cleared]
  simp only [hasBit_eq_testBit, Nat.testBit_ldiff, Bool.not_and, Bool.not_not]

end Sys2Proof.Machine
end

section
/-! SUPPORT. A register write of a running core as the first write of its tick: what reaches the register's block, what the
Chimney does with it, and what a unit inside its reset holds (R13, R36, R42). -/

namespace Sys2Proof.Machine

/-- A command of the control die completes as its effect on the module says. -/
theorem completes_of_act {i : Instr} {s : State} {f : Chip → Chip} {fs : List Field} {ps : List Part} {p : Chip → Prop}
    (hx : exec i s = s.act f) (hd : s.chip.pwr.dieReset = false) (hf : s.chip.Frame (f s.chip) fs ps)
    (hp : p (f s.chip).settle) : Completes i s fs ps p :=
  ⟨_, hx.trans (s.act_next f hd), rfl, hf.trans (.settle ..), hp⟩

namespace Chip

/-! ### A refused write -/

/-- A refusal changes the log, the free values and, at a cluster's register, that cluster's fault fields only. -/
theorem Frame.refuse (s : Chip) (a : Nat) {fs : List Field} {ps : List Part} (hl : Part.log ∈ ps) (hf : Part.free ∈ ps)
    (hc : ∀ k, (s.unitAt a).cluster = k → k < 4 →
      Reg.SEQ_FAULT_code k ∈ fs ∧ Reg.SEQ_FAULT_class k ∈ fs ∧ Reg.SEQ_FLAGS_fault k ∈ fs) :
    s.Frame (s.refuse a) fs ps :=
  (Frame.free s (s.free + 1) fs hf).trans (.record _ _ _ _ _ _ _ hl (by omega) fun h => hc _ rfl h)

/-- A refusal leaves the bus alone. -/
theorem refuse_bus (s : Chip) (a : Nat) : (s.refuse a).bus = s.bus :=
  (refuse_inside (M := 82) rfl (.refl s 82) .bus rfl).symm

/-! ### Writes by access type -/

variable {s : Chip} {a d : Nat} {l : List Field}

/-- No field of the register refuses the word: its fields take it. -/
theorem genericWrite_taken (hf : fieldsAt a = some l) (ho : s.rwlOpen a = true ∨ ∀ f ∈ l, f.acc ≠ .rwl) :
    s.genericWrite a d = s.writeFields l d (s.rwlOpen a) := by
  simp only [genericWrite, hf]
  refine if_neg ?_
  rcases ho with ho | ho
  · simp [ho]
  · simpa using fun _ => ho

/-- A register of one RWL field that is not open refuses the word. -/
theorem genericWrite_refused {f : Field} (hf : fieldsAt a = some [f]) (hr : f.acc = .rwl) (ho : s.rwlOpen a = false) :
    s.genericWrite a d = s.refuse a := by
  simp [genericWrite, hf, ho, hr, writeFields, writeField_rwl]

/-! ### The way to a register -/

/-- The module with a requester's word marked as landed at a register in this tick (R28). -/
def landing (s : Chip) (r : Requester) (a d : Nat) : Chip :=
  { s with bus := { s.bus with landed := s.bus.landed ++ [⟨r, a, 4, d, 0⟩] } }

@[simp] theorem landing_get (r : Requester) (f : Field) : (s.landing r a d).get f = s.get f := rfl
@[simp] theorem landing_irq (r : Requester) : (s.landing r a d).irq = s.irq := rfl
@[simp] theorem landing_held (r : Requester) : (s.landing r a d).bus.held = s.bus.held := rfl

/-- The first word of a tick takes effect, and no earlier one stands after it. -/
theorem landWrite_first (h : s.bus.landed = []) (r : Requester) :
    s.landWrite r a d = (s.landing r a d).blockWrite r a d := by
  simp [landWrite, landing, h, forEach]

/-- With no posted write on its way there is nothing that a core's word must follow. -/
theorem drainFor_of_posted_nil {c : Fin 4} (hp : s.bus.posted = []) (hw : waitsAll (.hart c) a = false) :
    s.drainFor (.hart c) a = s := by
  simp [drainFor, hw, hp, drainN]

/-- An address above the slices and below the Hallway: a block that belongs to no region and holds no submission queue's tail. -/
def sharedBlock (a : Nat) : Prop := 0x41001000 ≤ a ∧ a < 0x41800000

theorem waitsAll_shared (h : sharedBlock a) (c : Fin 4) : waitsAll (.hart c) a = false := by
  obtain ⟨hlo, hhi⟩ := h
  simp [waitsAll, isTail]
  omega

theorem unitRgn_shared (h : sharedBlock a) : unitRgn a = none := by
  obtain ⟨hlo, hhi⟩ := h
  rw [unitRgn, if_neg (by omega), if_neg (by omega), fabricPort, if_neg (by omega), Option.map_none]

theorem clockRgn_shared (h : sharedBlock a) : clockRgn a = none := by
  obtain ⟨hlo, hhi⟩ := h
  rw [clockRgn, if_neg (by omega), unitRgn_shared ⟨hlo, hhi⟩]

/-- The word of a core that runs goes to a shared block's register at once. -/
theorem writeNow_shared {c : Fin 4} (hc : s.coreRuns c = true) (hp : s.bus.posted = []) (hs : sharedBlock a)
    (hb : listedBlock a = true) (h4 : a % 4 = 0) : s.writeNow (.hart c) a d = s.regWrite (.hart c) a d := by
  simp [writeNow, reqRuns, hc, hb, h4, drainFor_of_posted_nil hp (waitsAll_shared hs c)]

/-- A word lands at a shared block's register outside every unit with a reset of its own. -/
theorem regWrite_shared (hs : sharedBlock a) (hu : unitOf a = none) (r : Requester) :
    s.regWrite r a d = s.landWrite r a d := by
  simp [regWrite, rgnShut, reachGate, unitRgn_shared hs, clockRgn_shared hs, hu]

/-- A word to a shared block's unit that stands in its reset is held (R13). -/
theorem regWrite_shared_held (hs : sharedBlock a) {u : UnitId} (hu : unitOf a = some u) (hr : u ∈ s.bus.resets)
    (r : Requester) :
    s.regWrite r a d = { s with bus := { s.bus with held := s.bus.held ++ [⟨r, a, 4, d, 0⟩] } } := by
  simp [regWrite, rgnShut, reachGate, unitRgn_shared hs, clockRgn_shared hs, hu, hr]

/-! ### The Chimney -/

/-- A register of the Chimney at which a written word acts by access type alone. -/
def chmPlain (a : Nat) : Prop :=
  0x41500000 ≤ a ∧ a < 0x41500300 ∧ a % 4 = 0 ∧ a ≠ 0x4150001C ∧ ¬(0x41500100 ≤ a ∧ a < 0x41500200 ∧ a % 0x40 = 0)

theorem blockWrite_chimney (h : a / 0x100000 = 0x415) (r : Requester) : s.blockWrite r a d = s.chmWrite a d := by
  simp [blockWrite, h]

theorem chmWrite_plain (h : chmPlain a) : s.chmWrite a d = s.genericWrite a d := by
  obtain ⟨-, -, -, hled, hcfg⟩ := h
  rw [chmWrite, if_neg hled, if_neg hcfg]

/-- A running core's word, the first of its tick, acts at such a register by access type. -/
theorem writeNow_chmPlain {c : Fin 4} (hc : s.coreRuns c = true) (hp : s.bus.posted = []) (hl : s.bus.landed = [])
    (ha : chmPlain a) : s.writeNow (.hart c) a d = (s.landing (.hart c) a d).genericWrite a d := by
  have ⟨hlo, hhi, h4, _, _⟩ := ha
  have hblock : a / 0x100000 = 0x415 := by omega
  have hshared : sharedBlock a := by unfold sharedBlock; omega
  have hlisted : listedBlock a = true := by simp [listedBlock]; omega
  have hunit : unitOf a = none := by simp [unitOf, hblock]; omega
  rw [writeNow_shared hc hp hshared hlisted h4, regWrite_shared hshared hunit, landWrite_first hl,
    blockWrite_chimney hblock, chmWrite_plain ha]

/-! ### A position channel inside its unit reset -/

/-- A running core's word to a position channel that stands in its reset is held. -/
theorem writeNow_pos_held {c : Fin 4} {n : Fin 2} {i : Fin 64} (hc : s.coreRuns c = true) (hp : s.bus.posted = [])
    (hr : UnitId.pos n ∈ s.bus.resets) (ha : a = 0x41300000 + 0x100 * n.val + 4 * i.val) :
    s.writeNow (.hart c) a d = { s with bus := { s.bus with held := s.bus.held ++ [⟨.hart c, a, 4, d, 0⟩] } } := by
  have hn := n.isLt
  have hi := i.isLt
  have hshared : sharedBlock a := by unfold sharedBlock; omega
  have hlisted : listedBlock a = true := by simp [listedBlock]; omega
  have hunit : unitOf a = some (.pos n) := by
    have hnum : a % 0x100000 / 0x100 = n.val := by omega
    simp only [unitOf, hnum, if_pos (show a / 0x100000 = 0x413 ∧ a % 0x100000 < 0x200 by omega), Fin.ofNat_val_eq_self]
  rw [writeNow_shared hc hp hshared hlisted (by omega), regWrite_shared_held hshared hunit hr]

/-! ### CHM_Ck_TW_C0 -/

theorem fieldsAt_twC0 (k : Fin 4) : fieldsAt (0x41500114 + 0x40 * k.val) = some [Reg.CHM_C_TW_C0_v k] := by
  revert k; decide +kernel

theorem unitAt_twC0 (s : Chip) (k : Fin 4) : s.unitAt (0x41500114 + 0x40 * k.val) = ⟨8, k, k⟩ := by
  have hk := k.isLt
  have hw : (0x41500114 + 0x40 * k.val) / 0x100000 = 0x415 := by omega
  have ho : (0x41500114 + 0x40 * k.val) % 0x100000 = 0x114 + 0x40 * k.val := by omega
  have hn : (0x114 + 0x40 * k.val - 0x100) / 0x40 = k.val := by omega
  have hin : 0x100 ≤ 0x114 + 0x40 * k.val ∧ 0x114 + 0x40 * k.val < 0x200 := by omega
  simp [unitAt, hw, ho, hn, hin]

theorem rwlOpen_twC0 (s : Chip) (k : Fin 4) : s.rwlOpen (0x41500114 + 0x40 * k.val) = s.quiet k := by
  have hk := k.isLt
  have hw : (0x41500114 + 0x40 * k.val) / 0x100000 = 0x415 := by omega
  have ho : ¬((0x41500114 + 0x40 * k.val) % 0x100000 < 0x100 ∨ 0x200 ≤ (0x41500114 + 0x40 * k.val) % 0x100000) := by
    omega
  simp [rwlOpen, rwlOwners, lentEngine, unitAt_twC0, hw, ho, hk]

theorem chmPlain_twC0 (k : Fin 4) : chmPlain (0x41500114 + 0x40 * k.val) := by
  have hk := k.isLt
  unfold chmPlain
  omega

end Chip

/-! ### REGISTER_WRITE -/

section
variable {s : State} {c : Fin 4} {a d : Word} {n : Nat} (hd : s.chip.pwr.dieReset = false) (hc : s.chip.coreRuns c = true)
  (hp : s.chip.bus.posted = []) (hl : s.chip.bus.landed = []) (hn : a.toNat = n)
include hd hc hp hl hn

/-- A running core's word at a plain register of the Chimney that refuses nothing: its fields take it, and the bus notes it. -/
theorem registerWrite_taken {l : List Field} {p : Chip → Prop} (ha : Chip.chmPlain n)
    (hf : fieldsAt n = some l) (ho : s.chip.rwlOpen n = true ∨ ∀ f ∈ l, f.acc ≠ .rwl)
    (hq : p ((s.chip.landing (.hart c) n d.toNat).writeFields l d.toNat (s.chip.rwlOpen n)).settle) :
    Completes (.registerWrite (.hart c) a d) s l [.bus] p := by
  have he := (Chip.writeNow_chmPlain (d := d.toNat) hc hp hl ha).trans (Chip.genericWrite_taken hf ho)
  subst hn
  refine completes_of_act rfl hd ?_ ?_ <;> rw [he]
  · exact (Chip.Frame.bus s.chip _ l (by simp)).trans (.writeFields _ _ _ l _ fun _ h => h)
  · exact hq

/-- A running core's word at a plain Chimney register of one RWL field that is not open: the field stays, and a refusal is
recorded. -/
theorem registerWrite_refused {f : Field} {k : Fin 4} (ha : Chip.chmPlain n) (hf : fieldsAt n = some [f])
    (hr : f.acc = .rwl) (hk : (s.chip.unitAt n).cluster = k) (ho : s.chip.rwlOpen n = false) :
    Completes (.registerWrite (.hart c) a d) s [Reg.SEQ_FAULT_code k, Reg.SEQ_FAULT_class k, Reg.SEQ_FLAGS_fault k]
      [.log, .free, .bus] (fun t => t.bus.held = s.chip.bus.held) := by
  have he := (Chip.writeNow_chmPlain (d := d.toNat) hc hp hl ha).trans (Chip.genericWrite_refused hf hr ho)
  subst hn
  refine completes_of_act rfl hd ?_ ?_ <;> rw [he]
  · refine (Chip.Frame.bus s.chip _ _ (by simp)).trans (.refuse _ _ (by simp) (by simp) fun j hj _ => ?_)
    obtain rfl : k.val = j := hk.symm.trans hj
    simp
  · rw [Chip.settle_bus, Chip.refuse_bus, Chip.landing_held]

end

/-! ### The registers CHM_IRQ_EN and CHM_FLAGS -/

namespace Chip

/-- The fields of CHM_IRQ_EN. -/
abbrev irqEnFields : List Field := (fieldsAt 0x4150000C).getD []

/-- The fields of CHM_FLAGS. -/
abbrev flagFields : List Field := (fieldsAt 0x41500008).getD []

theorem fieldsAt_irqEn : fieldsAt 0x4150000C = some irqEnFields := by decide +kernel

theorem fieldsAt_flags : fieldsAt 0x41500008 = some flagFields := by decide +kernel

theorem irqEnFields_acc : ∀ f ∈ irqEnFields, f.acc = .rw := by decide +kernel

theorem flagFields_acc : ∀ f ∈ flagFields, f.acc = .w1c ∧ f.width = 1 := by decide +kernel

theorem irqEnFields_distinct : irqEnFields.Pairwise fun f g => f.key ≠ g.key := by decide +kernel

theorem flagFields_distinct : flagFields.Pairwise fun f g => f.key ≠ g.key := by decide +kernel

/-- A one-bit flag clears where it is written 1 and hardware has not set it in this tick (R29). -/
theorem get_writeField_flag (s : Chip) (d : Nat) (isOpen : Bool) {f : Field} (ha : f.acc = .w1c) (hw : f.width = 1) :
    (s.writeField d isOpen f).get f =
      if hasBit d f.lsb && !hasBit (lookupD 0 f.key s.irq.fresh) 0 then 0 else s.get f := by
  have hbit : hasBit (s.cleared d f) 0 = (hasBit d f.lsb && !hasBit (lookupD 0 f.key s.irq.fresh) 0) := by
    rw [← hasBit_part_zero d, cleared, hw]
    simp only [hasBit_eq_testBit, Nat.testBit_ldiff]
  rw [get_writeField_w1c s d isOpen ha, ldiff_of_lt_two (by simpa [hw] using s.get_lt f), hbit]

end Chip

/-- The address of CHM_Ck_TW_C0 fits the command's address operand. -/
theorem toNat_twC0 (k : Fin 4) : (BitVec.ofNat 32 (0x41500114 + 0x40 * k.val)).toNat = 0x41500114 + 0x40 * k.val := by
  rw [BitVec.toNat_ofNat, Nat.mod_eq_of_lt (by omega)]

/-- Settles O10: the three access types of the Chimney's registers, the refusal, and the held write. -/
theorem registerWriteTakesEffect : Obligations.RegisterWriteTakesEffect := by
  unfold Obligations.RegisterWriteTakesEffect
  intro s c k d hd hc hp hl
  refine ⟨?rw, ?w1c, fun hq => ?opened, fun hq => ?closed, fun n i hr => ?held⟩
  case rw =>
    refine registerWrite_taken hd hc hp hl rfl (by simp [Chip.chmPlain]) Chip.fieldsAt_irqEn
      (.inr fun f hf => by simp [Chip.irqEnFields_acc f hf]) ?_
    simp only [Chip.settle_bus, Chip.settle_get, Chip.writeFields_bus]
    refine ⟨hp, rfl, rfl, fun f hf => ?_⟩
    rw [Chip.get_writeFields _ _ Chip.irqEnFields_distinct hf,
      Chip.get_writeField_plain _ _ _ (.inl (Chip.irqEnFields_acc f hf))]
  case w1c =>
    refine registerWrite_taken hd hc hp hl rfl (by simp [Chip.chmPlain]) Chip.fieldsAt_flags
      (.inr fun f hf => by simp [Chip.flagFields_acc f hf]) ?_
    simp only [Chip.settle_bus, Chip.settle_get, Chip.writeFields_bus]
    refine ⟨rfl, fun f hf _ => ?_⟩
    obtain ⟨ha, hw⟩ := Chip.flagFields_acc f hf
    rw [Chip.get_writeFields _ _ Chip.flagFields_distinct hf, Chip.get_writeField_flag _ _ _ ha hw,
      Chip.landing_get, Chip.landing_irq]
  case opened =>
    have ho := (s.chip.rwlOpen_twC0 k).trans hq
    refine registerWrite_taken hd hc hp hl (toNat_twC0 k) (Chip.chmPlain_twC0 k) (Chip.fieldsAt_twC0 k) (.inl ho) ?_
    rw [ho]
    simp only [Chip.settle_bus, Chip.settle_get, Chip.writeFields_bus]
    refine ⟨rfl, ?_⟩
    rw [Chip.get_writeFields _ _ (List.pairwise_singleton ..) (List.mem_singleton_self _),
      Chip.get_writeField_rwl _ _ _ rfl, if_pos rfl]
    exact part_word d
  case closed =>
    have ho := (s.chip.rwlOpen_twC0 k).trans hq
    have hu := congrArg UnitRef.cluster (s.chip.unitAt_twC0 k)
    obtain ⟨t, hx, hpend, hframe, hheld⟩ := registerWrite_refused (d := d) hd hc hp hl (toNat_twC0 k)
      (Chip.chmPlain_twC0 k) (Chip.fieldsAt_twC0 k) rfl hu ho
    refine ⟨t, hx, hpend, hframe.2, hheld, hframe.1 _ fun g hg => ?_⟩
    simp only [List.mem_cons, List.not_mem_nil, or_false] at hg
    rcases hg with rfl | rfl | rfl <;>
      simp only [Field.key, Reg.CHM_C_TW_C0_v, Reg.SEQ_FAULT_code, Reg.SEQ_FAULT_class, Reg.SEQ_FLAGS_fault] <;> omega
  case held =>
    have ha : (BitVec.ofNat 32 (0x41300000 + 0x100 * n.val + 4 * i.val)).toNat =
        0x41300000 + 0x100 * n.val + 4 * i.val := by
      rw [BitVec.toNat_ofNat, Nat.mod_eq_of_lt (by omega)]
    have he := Chip.writeNow_pos_held (d := d.toNat) hc hp hr ha
    refine completes_of_act rfl hd ?_ ?_ <;> rw [he]
    · exact .bus s.chip _ [] (by simp)
    · rw [Chip.settle_bus]
      exact ⟨hp, rfl, by rw [ha]⟩

end Sys2Proof.Machine
end

section
/-! SUPPORT. The step: what every command answers, what it keeps, and what the tick of an empty queue does. -/

namespace Sys2Proof.Machine

/-! ### What a command answers -/

theorem State.act_completes (s : State) (f : Chip → Chip) : ∃ t, s.act f = .next t ∧ t.pending = s.pending := by
  cases h : s.chip.pwr.dieReset with
  | true => exact ⟨_, s.act_reset f h, rfl⟩
  | false => exact ⟨_, s.act_next f h, rfl⟩

theorem State.actIf_completes (s : State) {ok : Bool} (f : Chip → Chip) (h : ok = true) :
    ∃ t, s.actIf ok f = .next t ∧ t.pending = s.pending := by
  rw [State.actIf, if_pos h]
  exact s.act_completes f

/-- A well-formed command completes: those of the always-on logic whatever the die's reset, those with a list by their form. -/
theorem exec_completes {i : Instr} (s : State) (h : i.wf = true) : ∃ t, exec i s = .next t ∧ t.pending = s.pending := by
  cases i with
  | brownOut | railWarn | powerOnRelease | cellarReset | cellarTransfer | sleepRailWaitEnd | wakeSlotFire
  | aonXtalFail | resetPin | resetPinRelease | resetStuck | rstUnmasked | gpioEdge | fltNAssert | uvlo
  | islandSupplyRelease | ctrFeedbackChange | hostSleepAssert | hostSleepRelease | vddaRelease | fltNRelease =>
    exact ⟨_, rfl, rfl⟩
  | idRecordLoad | dieSensorSample | read | write | hpCsNRise | frameReceive | acyclicFrameRx | copyFrameRx =>
    exact s.actIf_completes _ h
  | _ => exact s.act_completes _

/-- An ill-formed command, which is one with a list, stops. -/
theorem exec_illFormed {i : Instr} (s : State) (h : i.wf = false) : exec i s = .fault .illFormed := by
  cases i with
  | idRecordLoad | dieSensorSample | read | write | hpCsNRise | frameReceive | acyclicFrameRx | copyFrameRx =>
    exact s.actIf_fault _ _ h
  | _ => cases h

/-! ### What a command keeps -/

/-- Every command keeps the form of the stores. -/
theorem exec_keepsWf {i : Instr} {s t : State} (h : exec i s = .next t) : s.chip.KeepsWf t.chip := by
  cases i with
  | registerWrite => exact (execRegisterWrite_keeps h).wf
  | unitReset => exact (execUnitReset_keeps h).wf
  | unitResetEnd => exact (execUnitResetEnd_keeps h).wf
  | configReadback => exact (execConfigReadback_keeps h).wf
  | fenceInstruction => exact (execFenceInstruction_keeps h).wf
  | fenceI => exact (execFenceI_keeps h).wf
  | flagRelease => exact (execFlagRelease_keeps h).wf
  | logEntryFlashWrite => exact (execLogEntryFlashWrite_keeps h).wf
  | brownOut => exact (execBrownOut_keeps h).wf
  | railWarn => exact (execRailWarn_keeps h).wf
  | powerOnRelease => exact (execPowerOnRelease_keeps h).wf
  | cellarReset => exact (execCellarReset_keeps h).wf
  | sleepRequest => exact (execSleepRequest_keeps h).wf
  | cellarTransfer => exact (execCellarTransfer_keeps h).wf
  | sleepRailWaitEnd => exact (execSleepRailWaitEnd_keeps h).wf
  | wakeSlotFire => exact (execWakeSlotFire_keeps h).wf
  | pllLock => exact (execPllLock_keeps h).wf
  | refLoss => exact (execRefLoss_keeps h).wf
  | refReturn => exact (execRefReturn_keeps h).wf
  | pllUnlock => exact (execPllUnlock_keeps h).wf
  | mainFreq => exact (execMainFreq_keeps h).wf
  | coreClkFail => exact (execCoreClkFail_keeps h).wf
  | monoscFail => exact (execMonoscFail_keeps h).wf
  | aonXtalFail => exact (execAonXtalFail_keeps h).wf
  | regionGateClose => exact (execRegionGateClose_keeps h).wf
  | wfi => exact (execWfi_keeps h).wf
  | resetPin => exact (execResetPin_keeps h).wf
  | resetPinRelease => exact (execResetPinRelease_keeps h).wf
  | resetStuck => exact (execResetStuck_keeps h).wf
  | rstUnmasked => exact (execRstUnmasked_keeps h).wf
  | swModuleReset => exact (execSwModuleReset_keeps h).wf
  | swRegionReset => exact (execSwRegionReset_keeps h).wf
  | regionResetEnd => exact (execRegionResetEnd_keeps h).wf
  | debugReset => exact (execDebugReset_keeps h).wf
  | bootSequence => exact (execBootSequence_keeps h).wf
  | lateBringup => exact (execLateBringup_keeps h).wf
  | lateBringupDone => exact (execLateBringupDone_keeps h).wf
  | bankUpdate => exact (execBankUpdate_keeps h).wf
  | bankConfirm => exact (execBankConfirm_keeps h).wf
  | bootrecWriteEnd => exact (execBootrecWriteEnd_keeps h).wf
  | arbCommit => exact (execArbCommit_keeps h).wf
  | arbCommitEnd => exact (execArbCommitEnd_keeps h).wf
  | tokenSubmit => exact (execTokenSubmit_keeps h).wf
  | tokenCheckEnd => exact (execTokenCheckEnd_keeps h).wf
  | fullSelftest => exact (execFullSelftest_keeps h).wf
  | fullSelftestEnd => exact (execFullSelftestEnd_keeps h).wf
  | fuseRepair => exact (execFuseRepair_keeps h).wf
  | fuseRepairEnd => exact (execFuseRepairEnd_keeps h).wf
  | gpioSet => exact (execGpioSet_keeps h).wf
  | gpioClr => exact (execGpioClr_keeps h).wf
  | gpioEdge => exact (execGpioEdge_keeps h).wf
  | runRequest => exact (execRunRequest_keeps h).wf
  | stopRequest => exact (execStopRequest_keeps h).wf
  | haltRequest => exact (execHaltRequest_keeps h).wf
  | resetRequest => exact (execResetRequest_keeps h).wf
  | clearRequest => exact (execClearRequest_keeps h).wf
  | dischargeRequest => exact (execDischargeRequest_keeps h).wf
  | duplexRequest => exact (execDuplexRequest_keeps h).wf
  | splitRequest => exact (execSplitRequest_keeps h).wf
  | requestUnknown => exact (execRequestUnknown_keeps h).wf
  | triggerMatch => exact (execTriggerMatch_keeps h).wf
  | sarResultWrite => exact (execSarResultWrite_keeps h).wf
  | sdResultWrite => exact (execSdResultWrite_keeps h).wf
  | reload => exact (execReload_keeps h).wf
  | decelTimeout => exact (execDecelTimeout_keeps h).wf
  | safeRetry => exact (execSafeRetry_keeps h).wf
  | catchProbe => exact (execCatchProbe_keeps h).wf
  | catchTimeout => exact (execCatchTimeout_keeps h).wf
  | keAbnormal => exact (execKeAbnormal_keeps h).wf
  | ldrSwapRequest => exact (execLdrSwapRequest_keeps h).wf
  | ldrCheckEnd => exact (execLdrCheckEnd_keeps h).wf
  | ldrSwap => exact (execLdrSwap_keeps h).wf
  | larderWrite => exact (execLarderWrite_keeps h).wf
  | bcmStall => exact (execBcmStall_keeps h).wf
  | duplexCopy => exact (execDuplexCopy_keeps h).wf
  | splitTakeEffect => exact (execSplitTakeEffect_keeps h).wf
  | slotWrite => exact (execSlotWrite_keeps h).wf
  | refSelect => exact (execRefSelect_keeps h).wf
  | refReady => exact (execRefReady_keeps h).wf
  | refMonitorTrip => exact (execRefMonitorTrip_keeps h).wf
  | scanStart => exact (execScanStart_keeps h).wf
  | scanEntryStart => exact (execScanEntryStart_keeps h).wf
  | scanEntryResult => exact (execScanEntryResult_keeps h).wf
  | sdStuck => exact (execSdStuck_keeps h).wf
  | sdStreamRecover => exact (execSdStreamRecover_keeps h).wf
  | cmpTrip => exact (execCmpTrip_keeps h).wf
  | cmpRelease => exact (execCmpRelease_keeps h).wf
  | sdClkCfgWrite => exact (execSdClkCfgWrite_keeps h).wf
  | quadCount => exact (execQuadCount_keeps h).wf
  | index => exact (execIndex_keeps h).wf
  | posEvalSelfTimed => exact (execPosEvalSelfTimed_keeps h).wf
  | hallChange => exact (execHallChange_keeps h).wf
  | sentFrame => exact (execSentFrame_keeps h).wf
  | sentTimeout => exact (execSentTimeout_keeps h).wf
  | fabStrobe => exact (execFabStrobe_keeps h).wf
  | fabStale => exact (execFabStale_keeps h).wf
  | standstill => exact (execStandstill_keeps h).wf
  | snap => exact (execSnap_keeps h).wf
  | clrTot => exact (execClrTot_keeps h).wf
  | rearm => exact (execRearm_keeps h).wf
  | posCfgWrite => exact (execPosCfgWrite_keeps h).wf
  | cleClear => exact (execCleClear_keeps h).wf
  | coefWrite => exact (execCoefWrite_keeps h).wf
  | listWrite => exact (execListWrite_keeps h).wf
  | followErr => exact (execFollowErr_keeps h).wf
  | cleCrcUpdate => exact (execCleCrcUpdate_keeps h).wf
  | sliceRun => exact (execSliceRun_keeps h).wf
  | sliceStop => exact (execSliceStop_keeps h).wf
  | pwmStart => exact (execPwmStart_keeps h).wf
  | delayCal => exact (execDelayCal_keeps h).wf
  | rawEdge => exact (execRawEdge_keeps h).wf
  | deadTimeEnd => exact (execDeadTimeEnd_keeps h).wf
  | minPulseEnd => exact (execMinPulseEnd_keeps h).wf
  | bsRefresh => exact (execBsRefresh_keeps h).wf
  | bootLow => exact (execBootLow_keeps h).wf
  | forceWrite => exact (execForceWrite_keeps h).wf
  | floorWrite => exact (execFloorWrite_keeps h).wf
  | holdSet => exact (execHoldSet_keeps h).wf
  | holdClr => exact (execHoldClr_keeps h).wf
  | fltNAssert => exact (execFltNAssert_keeps h).wf
  | xhizRelease => exact (execXhizRelease_keeps h).wf
  | edgeCommand => exact (execEdgeCommand_keeps h).wf
  | phaseEnd => exact (execPhaseEnd_keeps h).wf
  | gateStateReport => exact (execGateStateReport_keeps h).wf
  | interlockRelease => exact (execInterlockRelease_keeps h).wf
  | legConflict => exact (execLegConflict_keeps h).wf
  | profileFrame => exact (execProfileFrame_keeps h).wf
  | mirrorWrite => exact (execMirrorWrite_keeps h).wf
  | islandChannelLoss => exact (execIslandChannelLoss_keeps h).wf
  | chanLoss => exact (execChanLoss_keeps h).wf
  | orphanReturn => exact (execOrphanReturn_keeps h).wf
  | statusFrame => exact (execStatusFrame_keeps h).wf
  | measurementFrame => exact (execMeasurementFrame_keeps h).wf
  | islandHandshakeOpen => exact (execIslandHandshakeOpen_keeps h).wf
  | handshakeStepEnd => exact (execHandshakeStepEnd_keeps h).wf
  | latencyRemeasure => exact (execLatencyRemeasure_keeps h).wf
  | uvlo => exact (execUvlo_keeps h).wf
  | islandSupplyRelease => exact (execIslandSupplyRelease_keeps h).wf
  | desatBlankingEnd => exact (execDesatBlankingEnd_keeps h).wf
  | desat => exact (execDesat_keeps h).wf
  | tltoHoldEnd => exact (execTltoHoldEnd_keeps h).wf
  | gateTmo => exact (execGateTmo_keeps h).wf
  | islandAutoClear => exact (execIslandAutoClear_keeps h).wf
  | usedCountReset => exact (execUsedCountReset_keeps h).wf
  | islandClear => exact (execIslandClear_keeps h).wf
  | islandUnitReset => exact (execIslandUnitReset_keeps h).wf
  | leakCheck => exact (execLeakCheck_keeps h).wf
  | leakCheckEnd => exact (execLeakCheckEnd_keeps h).wf
  | supplyModeWrite => exact (execSupplyModeWrite_keeps h).wf
  | bsCatchPulse => exact (execBsCatchPulse_keeps h).wf
  | stoDemand => exact (execStoDemand_keeps h).wf
  | stoRelease => exact (execStoRelease_keeps h).wf
  | stoDiscrepancy => exact (execStoDiscrepancy_keeps h).wf
  | isoEnRelease => exact (execIsoEnRelease_keeps h).wf
  | islandFaultReport => exact (execIslandFaultReport_keeps h).wf
  | chopperVerifyEnd => exact (execChopperVerifyEnd_keeps h).wf
  | chopperTest => exact (execChopperTest_keeps h).wf
  | ctrOv3Open => exact (execCtrOv3Open_keeps h).wf
  | ctrCommand => exact (execCtrCommand_keeps h).wf
  | ctrForce => exact (execCtrForce_keeps h).wf
  | clrWeld => exact (execClrWeld_keeps h).wf
  | ctrFeedbackChange => exact (execCtrFeedbackChange_keeps h).wf
  | ctrFeedbackTimeout => exact (execCtrFeedbackTimeout_keeps h).wf
  | dischargeStart => exact (execDischargeStart_keeps h).wf
  | disHalfTime => exact (execDisHalfTime_keeps h).wf
  | disFail => exact (execDisFail_keeps h).wf
  | dischargeAbort => exact (execDischargeAbort_keeps h).wf
  | safetyTick => exact (execSafetyTick_keeps h).wf
  | tqImplausible => exact (execTqImplausible_keeps h).wf
  | speedLimit => exact (execSpeedLimit_keeps h).wf
  | ss1Start => exact (execSs1Start_keeps h).wf
  | ss1Timeout => exact (execSs1Timeout_keeps h).wf
  | pcStoSet => exact (execPcStoSet_keeps h).wf
  | pcStoRelease => exact (execPcStoRelease_keeps h).wf
  | safeMsgLost => exact (execSafeMsgLost_keeps h).wf
  | lockstepMismatch => exact (execLockstepMismatch_keeps h).wf
  | idRecordLoad => exact (execIdRecordLoad_keeps h).wf
  | ledgerLoad => exact (execLedgerLoad_keeps h).wf
  | dieSensorSample => exact (execDieSensorSample_keeps h).wf
  | windSens => exact (execWindSens_keeps h).wf
  | peakGraceEnd => exact (execPeakGraceEnd_keeps h).wf
  | peakRampEnd => exact (execPeakRampEnd_keeps h).wf
  | rainflowSample => exact (execRainflowSample_keeps h).wf
  | ledgerInterval => exact (execLedgerInterval_keeps h).wf
  | ledgerWriteRequest => exact (execLedgerWriteRequest_keeps h).wf
  | ledgerWriteEnd => exact (execLedgerWriteEnd_keeps h).wf
  | heldWriteStart => exact (execHeldWriteStart_keeps h).wf
  | writeTempFail => exact (execWriteTempFail_keeps h).wf
  | ageRebuild => exact (execAgeRebuild_keeps h).wf
  | ageApply => exact (execAgeApply_keeps h).wf
  | coreLoad => exact (execCoreLoad_keeps h).wf
  | coreStore => exact execCoreStore_keepsWf h
  | instructionFetch => exact (execInstructionFetch_keeps h).wf
  | scrub => exact (execScrub_keeps h).wf
  | eccInject => exact (execEccInject_keeps h).wf
  | semTake => exact (execSemTake_keeps h).wf
  | semGive => exact (execSemGive_keeps h).wf
  | semTakeOrWait => exact (execSemTakeOrWait_keeps h).wf
  | semCancel => exact (execSemCancel_keeps h).wf
  | timerCompare => exact (execTimerCompare_keeps h).wf
  | watchdogKick => exact (execWatchdogKick_keeps h).wf
  | wdtWarn => exact (execWdtWarn_keeps h).wf
  | coreWdt => exact (execCoreWdt_keeps h).wf
  | irqRouteWrite => exact (execIrqRouteWrite_keeps h).wf
  | moderationTimer => exact (execModerationTimer_keeps h).wf
  | swi => exact (execSwi_keeps h).wf
  | irqPendClear => exact (execIrqPendClear_keeps h).wf
  | irqSumRead => exact (execIrqSumRead_keeps h).wf
  | timNowRead => exact (execTimNowRead_keeps h).wf
  | readId => exact (execReadId_keeps h).wf
  | enter8d => exact (execEnter8d_keeps h).wf
  | read => exact (execRead_keeps h).wf
  | write => exact execWrite_keepsWf h
  | readStatus => exact (execReadStatus_keeps h).wf
  | fence => exact (execFence_keeps h).wf
  | softReset => exact (execSoftReset_keeps h).wf
  | hpCsNRise => exact execHpCsNRise_keepsWf h
  | hwFence => exact (execHwFence_keeps h).wf
  | hwCas => exact (execHwCas_keeps h).wf
  | queueEnable => exact (execQueueEnable_keeps h).wf
  | sqDoorbell => exact (execSqDoorbell_keeps h).wf
  | descriptorFetch => exact (execDescriptorFetch_keeps h).wf
  | upload => exact (execUpload_keeps h).wf
  | fetch => exact (execFetch_keeps h).wf
  | erase => exact (execErase_keeps h).wf
  | program => exact (execProgram_keeps h).wf
  | trace => exact (execTrace_keeps h).wf
  | traceCopy => exact (execTraceCopy_keeps h).wf
  | logRead => exact (execLogRead_keeps h).wf
  | idRead => exact (execIdRead_keeps h).wf
  | msg => exact (execMsg_keeps h).wf
  | msgDone => exact (execMsgDone_keeps h).wf
  | descriptorComplete => exact (execDescriptorComplete_keeps h).wf
  | queueAbort => exact (execQueueAbort_keeps h).wf
  | cqHeadWrite => exact (execCqHeadWrite_keeps h).wf
  | cqModTimer => exact (execCqModTimer_keeps h).wf
  | hwIdleWrite => exact (execHwIdleWrite_keeps h).wf
  | hostSleepAssert => exact (execHostSleepAssert_keeps h).wf
  | hostSleepRelease => exact (execHostSleepRelease_keeps h).wf
  | canMode => exact (execCanMode_keeps h).wf
  | canIntegrated => exact (execCanIntegrated_keeps h).wf
  | frameReceive => exact (execFrameReceive_keeps h).wf
  | rxfPop => exact (execRxfPop_keeps h).wf
  | hpTake => exact (execHpTake_keeps h).wf
  | txRequest => exact (execTxRequest_keeps h).wf
  | txAbort => exact (execTxAbort_keeps h).wf
  | txEnd => exact (execTxEnd_keeps h).wf
  | busError => exact (execBusError_keeps h).wf
  | boRec => exact (execBoRec_keeps h).wf
  | busOffEnd => exact (execBusOffEnd_keeps h).wf
  | addressClaim => exact (execAddressClaim_keeps h).wf
  | claimSettled => exact (execClaimSettled_keeps h).wf
  | addressClaimedRx => exact (execAddressClaimedRx_keeps h).wf
  | cannotClaimSend => exact (execCannotClaimSend_keeps h).wf
  | commandedAddress => exact (execCommandedAddress_keeps h).wf
  | requestRx => exact (execRequestRx_keeps h).wf
  | reqTimeout => exact (execReqTimeout_keeps h).wf
  | reqAnswer => exact (execReqAnswer_keeps h).wf
  | tpSendStart => exact (execTpSendStart_keeps h).wf
  | tpCmRx => exact (execTpCmRx_keeps h).wf
  | tpDtRx => exact (execTpDtRx_keeps h).wf
  | bamGap => exact (execBamGap_keeps h).wf
  | tpTimeout => exact (execTpTimeout_keeps h).wf
  | tpCancel => exact (execTpCancel_keeps h).wf
  | tpRelease => exact (execTpRelease_keeps h).wf
  | porchPoolWrite => exact (execPorchPoolWrite_keeps h).wf
  | statusMessage => exact (execStatusMessage_keeps h).wf
  | aloneProbe => exact (execAloneProbe_keeps h).wf
  | checkedMessageRx => exact (execCheckedMessageRx_keeps h).wf
  | cmdLost => exact (execCmdLost_keeps h).wf
  | ringEnable => exact (execRingEnable_keeps h).wf
  | ringDisable => exact (execRingDisable_keeps h).wf
  | ringStartTimeout => exact (execRingStartTimeout_keeps h).wf
  | cycleStart => exact (execCycleStart_keeps h).wf
  | cyclicFrameRx => exact (execCyclicFrameRx_keeps h).wf
  | ringBreak => exact (execRingBreak_keeps h).wf
  | linkReady => exact (execLinkReady_keeps h).wf
  | msgSend => exact (execMsgSend_keeps h).wf
  | acyclicFrameRx => exact (execAcyclicFrameRx_keeps h).wf
  | msgAckTimeout => exact (execMsgAckTimeout_keeps h).wf
  | msgAbort => exact (execMsgAbort_keeps h).wf
  | rxSlotFree => exact (execRxSlotFree_keeps h).wf
  | ringMsgEnable => exact (execRingMsgEnable_keeps h).wf
  | ringClrErr => exact (execRingClrErr_keeps h).wf
  | twinHeartbeatRx => exact (execTwinHeartbeatRx_keeps h).wf
  | copyFrameRx => exact (execCopyFrameRx_keeps h).wf
  | vddaRelease => exact (execVddaRelease_keeps h).wf
  | fltNRelease => exact (execFltNRelease_keeps h).wf
  | twinSigLost => exact (execTwinSigLost_keeps h).wf
  | twinSigBack => exact (execTwinSigBack_keeps h).wf

/-- Every command keeps the numbers of the instances. -/
theorem exec_shape {i : Instr} {s t : State} (h : exec i s = .next t) : s.chip.KeepsShape t.chip := by
  cases i with
  | registerWrite => exact execRegisterWrite_shape h
  | unitReset => exact execUnitReset_shape h
  | unitResetEnd => exact execUnitResetEnd_shape h
  | configReadback => exact execConfigReadback_shape h
  | fenceInstruction => exact execFenceInstruction_shape h
  | fenceI => exact execFenceI_shape h
  | flagRelease => exact execFlagRelease_shape h
  | logEntryFlashWrite => exact execLogEntryFlashWrite_shape h
  | brownOut => exact execBrownOut_shape h
  | railWarn => exact execRailWarn_shape h
  | powerOnRelease => exact execPowerOnRelease_shape h
  | cellarReset => exact execCellarReset_shape h
  | sleepRequest => exact execSleepRequest_shape h
  | cellarTransfer => exact execCellarTransfer_shape h
  | sleepRailWaitEnd => exact execSleepRailWaitEnd_shape h
  | wakeSlotFire => exact execWakeSlotFire_shape h
  | pllLock => exact execPllLock_shape h
  | refLoss => exact execRefLoss_shape h
  | refReturn => exact execRefReturn_shape h
  | pllUnlock => exact execPllUnlock_shape h
  | mainFreq => exact execMainFreq_shape h
  | coreClkFail => exact execCoreClkFail_shape h
  | monoscFail => exact execMonoscFail_shape h
  | aonXtalFail => exact execAonXtalFail_shape h
  | regionGateClose => exact execRegionGateClose_shape h
  | wfi => exact execWfi_shape h
  | resetPin => exact execResetPin_shape h
  | resetPinRelease => exact execResetPinRelease_shape h
  | resetStuck => exact execResetStuck_shape h
  | rstUnmasked => exact execRstUnmasked_shape h
  | swModuleReset => exact execSwModuleReset_shape h
  | swRegionReset => exact execSwRegionReset_shape h
  | regionResetEnd => exact execRegionResetEnd_shape h
  | debugReset => exact execDebugReset_shape h
  | bootSequence => exact execBootSequence_shape h
  | lateBringup => exact execLateBringup_shape h
  | lateBringupDone => exact execLateBringupDone_shape h
  | bankUpdate => exact execBankUpdate_shape h
  | bankConfirm => exact execBankConfirm_shape h
  | bootrecWriteEnd => exact execBootrecWriteEnd_shape h
  | arbCommit => exact execArbCommit_shape h
  | arbCommitEnd => exact execArbCommitEnd_shape h
  | tokenSubmit => exact execTokenSubmit_shape h
  | tokenCheckEnd => exact execTokenCheckEnd_shape h
  | fullSelftest => exact execFullSelftest_shape h
  | fullSelftestEnd => exact execFullSelftestEnd_shape h
  | fuseRepair => exact execFuseRepair_shape h
  | fuseRepairEnd => exact execFuseRepairEnd_shape h
  | gpioSet => exact execGpioSet_shape h
  | gpioClr => exact execGpioClr_shape h
  | gpioEdge => exact execGpioEdge_shape h
  | runRequest => exact execRunRequest_shape h
  | stopRequest => exact execStopRequest_shape h
  | haltRequest => exact execHaltRequest_shape h
  | resetRequest => exact execResetRequest_shape h
  | clearRequest => exact execClearRequest_shape h
  | dischargeRequest => exact execDischargeRequest_shape h
  | duplexRequest => exact execDuplexRequest_shape h
  | splitRequest => exact execSplitRequest_shape h
  | requestUnknown => exact execRequestUnknown_shape h
  | triggerMatch => exact execTriggerMatch_shape h
  | sarResultWrite => exact execSarResultWrite_shape h
  | sdResultWrite => exact execSdResultWrite_shape h
  | reload => exact execReload_shape h
  | decelTimeout => exact execDecelTimeout_shape h
  | safeRetry => exact execSafeRetry_shape h
  | catchProbe => exact execCatchProbe_shape h
  | catchTimeout => exact execCatchTimeout_shape h
  | keAbnormal => exact execKeAbnormal_shape h
  | ldrSwapRequest => exact execLdrSwapRequest_shape h
  | ldrCheckEnd => exact execLdrCheckEnd_shape h
  | ldrSwap => exact execLdrSwap_shape h
  | larderWrite => exact execLarderWrite_shape h
  | bcmStall => exact execBcmStall_shape h
  | duplexCopy => exact execDuplexCopy_shape h
  | splitTakeEffect => exact execSplitTakeEffect_shape h
  | slotWrite => exact execSlotWrite_shape h
  | refSelect => exact execRefSelect_shape h
  | refReady => exact execRefReady_shape h
  | refMonitorTrip => exact execRefMonitorTrip_shape h
  | scanStart => exact execScanStart_shape h
  | scanEntryStart => exact execScanEntryStart_shape h
  | scanEntryResult => exact execScanEntryResult_shape h
  | sdStuck => exact execSdStuck_shape h
  | sdStreamRecover => exact execSdStreamRecover_shape h
  | cmpTrip => exact execCmpTrip_shape h
  | cmpRelease => exact execCmpRelease_shape h
  | sdClkCfgWrite => exact execSdClkCfgWrite_shape h
  | quadCount => exact execQuadCount_shape h
  | index => exact execIndex_shape h
  | posEvalSelfTimed => exact execPosEvalSelfTimed_shape h
  | hallChange => exact execHallChange_shape h
  | sentFrame => exact execSentFrame_shape h
  | sentTimeout => exact execSentTimeout_shape h
  | fabStrobe => exact execFabStrobe_shape h
  | fabStale => exact execFabStale_shape h
  | standstill => exact execStandstill_shape h
  | snap => exact execSnap_shape h
  | clrTot => exact execClrTot_shape h
  | rearm => exact execRearm_shape h
  | posCfgWrite => exact execPosCfgWrite_shape h
  | cleClear => exact execCleClear_shape h
  | coefWrite => exact execCoefWrite_shape h
  | listWrite => exact execListWrite_shape h
  | followErr => exact execFollowErr_shape h
  | cleCrcUpdate => exact execCleCrcUpdate_shape h
  | sliceRun => exact execSliceRun_shape h
  | sliceStop => exact execSliceStop_shape h
  | pwmStart => exact execPwmStart_shape h
  | delayCal => exact execDelayCal_shape h
  | rawEdge => exact execRawEdge_shape h
  | deadTimeEnd => exact execDeadTimeEnd_shape h
  | minPulseEnd => exact execMinPulseEnd_shape h
  | bsRefresh => exact execBsRefresh_shape h
  | bootLow => exact execBootLow_shape h
  | forceWrite => exact execForceWrite_shape h
  | floorWrite => exact execFloorWrite_shape h
  | holdSet => exact execHoldSet_shape h
  | holdClr => exact execHoldClr_shape h
  | fltNAssert => exact execFltNAssert_shape h
  | xhizRelease => exact execXhizRelease_shape h
  | edgeCommand => exact execEdgeCommand_shape h
  | phaseEnd => exact execPhaseEnd_shape h
  | gateStateReport => exact execGateStateReport_shape h
  | interlockRelease => exact execInterlockRelease_shape h
  | legConflict => exact execLegConflict_shape h
  | profileFrame => exact execProfileFrame_shape h
  | mirrorWrite => exact execMirrorWrite_shape h
  | islandChannelLoss => exact execIslandChannelLoss_shape h
  | chanLoss => exact execChanLoss_shape h
  | orphanReturn => exact execOrphanReturn_shape h
  | statusFrame => exact execStatusFrame_shape h
  | measurementFrame => exact execMeasurementFrame_shape h
  | islandHandshakeOpen => exact execIslandHandshakeOpen_shape h
  | handshakeStepEnd => exact execHandshakeStepEnd_shape h
  | latencyRemeasure => exact execLatencyRemeasure_shape h
  | uvlo => exact execUvlo_shape h
  | islandSupplyRelease => exact execIslandSupplyRelease_shape h
  | desatBlankingEnd => exact execDesatBlankingEnd_shape h
  | desat => exact execDesat_shape h
  | tltoHoldEnd => exact execTltoHoldEnd_shape h
  | gateTmo => exact execGateTmo_shape h
  | islandAutoClear => exact execIslandAutoClear_shape h
  | usedCountReset => exact execUsedCountReset_shape h
  | islandClear => exact execIslandClear_shape h
  | islandUnitReset => exact execIslandUnitReset_shape h
  | leakCheck => exact execLeakCheck_shape h
  | leakCheckEnd => exact execLeakCheckEnd_shape h
  | supplyModeWrite => exact execSupplyModeWrite_shape h
  | bsCatchPulse => exact execBsCatchPulse_shape h
  | stoDemand => exact execStoDemand_shape h
  | stoRelease => exact execStoRelease_shape h
  | stoDiscrepancy => exact execStoDiscrepancy_shape h
  | isoEnRelease => exact execIsoEnRelease_shape h
  | islandFaultReport => exact execIslandFaultReport_shape h
  | chopperVerifyEnd => exact execChopperVerifyEnd_shape h
  | chopperTest => exact execChopperTest_shape h
  | ctrOv3Open => exact execCtrOv3Open_shape h
  | ctrCommand => exact execCtrCommand_shape h
  | ctrForce => exact execCtrForce_shape h
  | clrWeld => exact execClrWeld_shape h
  | ctrFeedbackChange => exact execCtrFeedbackChange_shape h
  | ctrFeedbackTimeout => exact execCtrFeedbackTimeout_shape h
  | dischargeStart => exact execDischargeStart_shape h
  | disHalfTime => exact execDisHalfTime_shape h
  | disFail => exact execDisFail_shape h
  | dischargeAbort => exact execDischargeAbort_shape h
  | safetyTick => exact execSafetyTick_shape h
  | tqImplausible => exact execTqImplausible_shape h
  | speedLimit => exact execSpeedLimit_shape h
  | ss1Start => exact execSs1Start_shape h
  | ss1Timeout => exact execSs1Timeout_shape h
  | pcStoSet => exact execPcStoSet_shape h
  | pcStoRelease => exact execPcStoRelease_shape h
  | safeMsgLost => exact execSafeMsgLost_shape h
  | lockstepMismatch => exact execLockstepMismatch_shape h
  | idRecordLoad => exact execIdRecordLoad_shape h
  | ledgerLoad => exact execLedgerLoad_shape h
  | dieSensorSample => exact execDieSensorSample_shape h
  | windSens => exact execWindSens_shape h
  | peakGraceEnd => exact execPeakGraceEnd_shape h
  | peakRampEnd => exact execPeakRampEnd_shape h
  | rainflowSample => exact execRainflowSample_shape h
  | ledgerInterval => exact execLedgerInterval_shape h
  | ledgerWriteRequest => exact execLedgerWriteRequest_shape h
  | ledgerWriteEnd => exact execLedgerWriteEnd_shape h
  | heldWriteStart => exact execHeldWriteStart_shape h
  | writeTempFail => exact execWriteTempFail_shape h
  | ageRebuild => exact execAgeRebuild_shape h
  | ageApply => exact execAgeApply_shape h
  | coreLoad => exact execCoreLoad_shape h
  | coreStore => exact execCoreStore_shape h
  | instructionFetch => exact execInstructionFetch_shape h
  | scrub => exact execScrub_shape h
  | eccInject => exact execEccInject_shape h
  | semTake => exact execSemTake_shape h
  | semGive => exact execSemGive_shape h
  | semTakeOrWait => exact execSemTakeOrWait_shape h
  | semCancel => exact execSemCancel_shape h
  | timerCompare => exact execTimerCompare_shape h
  | watchdogKick => exact execWatchdogKick_shape h
  | wdtWarn => exact execWdtWarn_shape h
  | coreWdt => exact execCoreWdt_shape h
  | irqRouteWrite => exact execIrqRouteWrite_shape h
  | moderationTimer => exact execModerationTimer_shape h
  | swi => exact execSwi_shape h
  | irqPendClear => exact execIrqPendClear_shape h
  | irqSumRead => exact execIrqSumRead_shape h
  | timNowRead => exact execTimNowRead_shape h
  | readId => exact execReadId_shape h
  | enter8d => exact execEnter8d_shape h
  | read => exact execRead_shape h
  | write => exact execWrite_shape h
  | readStatus => exact execReadStatus_shape h
  | fence => exact execFence_shape h
  | softReset => exact execSoftReset_shape h
  | hpCsNRise => exact execHpCsNRise_shape h
  | hwFence => exact execHwFence_shape h
  | hwCas => exact execHwCas_shape h
  | queueEnable => exact execQueueEnable_shape h
  | sqDoorbell => exact execSqDoorbell_shape h
  | descriptorFetch => exact execDescriptorFetch_shape h
  | upload => exact execUpload_shape h
  | fetch => exact execFetch_shape h
  | erase => exact execErase_shape h
  | program => exact execProgram_shape h
  | trace => exact execTrace_shape h
  | traceCopy => exact execTraceCopy_shape h
  | logRead => exact execLogRead_shape h
  | idRead => exact execIdRead_shape h
  | msg => exact execMsg_shape h
  | msgDone => exact execMsgDone_shape h
  | descriptorComplete => exact execDescriptorComplete_shape h
  | queueAbort => exact execQueueAbort_shape h
  | cqHeadWrite => exact execCqHeadWrite_shape h
  | cqModTimer => exact execCqModTimer_shape h
  | hwIdleWrite => exact execHwIdleWrite_shape h
  | hostSleepAssert => exact execHostSleepAssert_shape h
  | hostSleepRelease => exact execHostSleepRelease_shape h
  | canMode => exact execCanMode_shape h
  | canIntegrated => exact execCanIntegrated_shape h
  | frameReceive => exact execFrameReceive_shape h
  | rxfPop => exact execRxfPop_shape h
  | hpTake => exact execHpTake_shape h
  | txRequest => exact execTxRequest_shape h
  | txAbort => exact execTxAbort_shape h
  | txEnd => exact execTxEnd_shape h
  | busError => exact execBusError_shape h
  | boRec => exact execBoRec_shape h
  | busOffEnd => exact execBusOffEnd_shape h
  | addressClaim => exact execAddressClaim_shape h
  | claimSettled => exact execClaimSettled_shape h
  | addressClaimedRx => exact execAddressClaimedRx_shape h
  | cannotClaimSend => exact execCannotClaimSend_shape h
  | commandedAddress => exact execCommandedAddress_shape h
  | requestRx => exact execRequestRx_shape h
  | reqTimeout => exact execReqTimeout_shape h
  | reqAnswer => exact execReqAnswer_shape h
  | tpSendStart => exact execTpSendStart_shape h
  | tpCmRx => exact execTpCmRx_shape h
  | tpDtRx => exact execTpDtRx_shape h
  | bamGap => exact execBamGap_shape h
  | tpTimeout => exact execTpTimeout_shape h
  | tpCancel => exact execTpCancel_shape h
  | tpRelease => exact execTpRelease_shape h
  | porchPoolWrite => exact execPorchPoolWrite_shape h
  | statusMessage => exact execStatusMessage_shape h
  | aloneProbe => exact execAloneProbe_shape h
  | checkedMessageRx => exact execCheckedMessageRx_shape h
  | cmdLost => exact execCmdLost_shape h
  | ringEnable => exact execRingEnable_shape h
  | ringDisable => exact execRingDisable_shape h
  | ringStartTimeout => exact execRingStartTimeout_shape h
  | cycleStart => exact execCycleStart_shape h
  | cyclicFrameRx => exact execCyclicFrameRx_shape h
  | ringBreak => exact execRingBreak_shape h
  | linkReady => exact execLinkReady_shape h
  | msgSend => exact execMsgSend_shape h
  | acyclicFrameRx => exact execAcyclicFrameRx_shape h
  | msgAckTimeout => exact execMsgAckTimeout_shape h
  | msgAbort => exact execMsgAbort_shape h
  | rxSlotFree => exact execRxSlotFree_shape h
  | ringMsgEnable => exact execRingMsgEnable_shape h
  | ringClrErr => exact execRingClrErr_shape h
  | twinHeartbeatRx => exact execTwinHeartbeatRx_shape h
  | copyFrameRx => exact execCopyFrameRx_shape h
  | vddaRelease => exact execVddaRelease_shape h
  | fltNRelease => exact execFltNRelease_shape h
  | twinSigLost => exact execTwinSigLost_shape h
  | twinSigBack => exact execTwinSigBack_shape h

/-! ### The step -/

theorem step_cons {s : State} {c : Instr} {rest : List Instr} (h : s.pending = c :: rest) :
    step s = exec c { s with pending := rest } := by
  rw [step, h]

theorem step_nil {s : State} (h : s.pending = []) : step s = .next ⟨s.chip.tick.settle, []⟩ := by
  simp only [step, h, idle, State.actRaw_next]

/-- A step is a tick on an empty queue, or its front command on the rest of the queue. -/
theorem step_cases {s t : State} (h : step s = .next t) :
    (s.pending = [] ∧ t = ⟨s.chip.tick.settle, []⟩) ∨
      ∃ c rest, s.pending = c :: rest ∧ exec c { s with pending := rest } = .next t := by
  cases hq : s.pending with
  | nil => exact .inl ⟨rfl, (Host.Outcome.next.inj ((step_nil hq).symm.trans h)).symm⟩
  | cons c rest => exact .inr ⟨c, rest, rfl, (step_cons hq).symm.trans h⟩

/-- A step from well-formed waiting commands takes the front one, and the others stay. -/
theorem step_completes {s : State} (h : s.queueWf = true) : ∃ t, step s = .next t ∧ t.pending = s.pending.drop 1 := by
  cases hq : s.pending with
  | nil => exact ⟨_, step_nil hq, rfl⟩
  | cons c rest =>
    rw [step_cons hq]
    rw [State.queueWf, hq, List.all_cons, Bool.and_eq_true] at h
    exact exec_completes _ h.1

theorem queueWf_of_drop {s t : State} {n : Nat} (h : s.queueWf = true) (ht : t.pending = s.pending.drop n) :
    t.queueWf = true := by
  rw [State.queueWf, List.all_eq_true] at h ⊢
  exact fun i hi => h i (List.mem_of_mem_drop (ht ▸ hi))

/-- What holds of the module after every tick and after every command holds after a step. -/
theorem step_keeps {p : Chip → Chip → Prop} {s t : State} (h : step s = .next t) (htick : p s.chip s.chip.tick.settle)
    (hexec : ∀ (i : Instr) (u : State), u.chip = s.chip → exec i u = .next t → p u.chip t.chip) : p s.chip t.chip := by
  rcases step_cases h with ⟨-, rfl⟩ | ⟨c, rest, -, hx⟩
  · exact htick
  · exact hexec c ⟨s.chip, rest⟩ rfl hx

/-! ### The tick -/

namespace Chip

/-- The tick count is no part of what an operation changes. -/
theorem Inside.now {M : ℕ} {z s : Chip} (h : z.Inside M s) (hM : M.testBit 0 = false) : s.now = z.now :=
  (h .now hM).symm

theorem tickEnd_now (s : Chip) : s.tickEnd.now = s.now := (tickEnd_inside (M := 1831250) rfl (.refl _ _)).now rfl

/-- With no write on its way the bus does nothing in a tick. -/
theorem busTick_of_posted_nil {s : Chip} (h : s.bus.posted = []) : s.busTick = s := by
  rw [busTick, h]
  rfl

theorem posted_nil_of_keeps {s t : Chip} (h : s.Keeps t) (hp : s.bus.posted = []) : t.bus.posted = [] :=
  List.sublist_nil.1 (hp ▸ h.posted)

theorem posted_nil_sliceTick {s : Chip} (n : Nat) (hp : s.bus.posted = []) :
    ({ s with now := n }.sliceTick).bus.posted = [] :=
  posted_nil_of_keeps (sliceTick_keeps (.refl { s with now := n })) hp

/-- The control die's part of a tick moves the tick count on by one. -/
theorem dieTick_now {s : Chip} (hp : s.bus.posted = []) : s.dieTick.now = s.now + 1 := by
  have hbus := posted_nil_sliceTick (s.tickEnd.now + 1) (posted_nil_of_keeps (tickEnd_keeps (.refl s)) hp)
  unfold dieTick
  extract_lets s1 s2 s3
  have h2 : s2.now = s.now + 1 := by
    rw [show s2 = _ from busTick_of_posted_nil hbus, (sliceTick_inside (M := 1708354) rfl (.refl _ _)).now rfl]
    exact congrArg (· + 1) s.tickEnd_now
  have h3 : s2.Inside 134217728 s3 := .each (.refl _ _) fun _ _ ht => txStart_inside (by rfl) ht
  have h4 : s3.Inside 1616912402 s3.copyTick.ringTick.fabTick.sdTick.scanSamples.cycleTick.chmTick :=
    chmTick_inside (by rfl) <| cycleTick_inside (by rfl) <| scanSamples_inside (by rfl) <| sdTick_inside (by rfl) <| fabTick_inside (by rfl) <|
      ringTick_inside (by rfl) <| copyTick_inside (by rfl) <| .refl _ _
  rw [h4.now rfl, h3.now rfl, h2]

theorem aonTick_now (s : Chip) : s.aonTick.now = s.now := (aonTick_inside (M := 322) rfl (.refl _ _)).now rfl

end Chip

/-! ### The statements -/

/-- Settles O1. -/
theorem stepRunsFrontCommand : Obligations.StepRunsFrontCommand := by
  unfold Obligations.StepRunsFrontCommand
  exact fun _ _ _ => step_cons

/-- Settles O2. -/
theorem emptyQueueTicks : Obligations.EmptyQueueTicks := by
  unfold Obligations.EmptyQueueTicks
  intro s hq
  refine ⟨_, step_nil hq, rfl, fun hd => ?_, fun hd hp => ?_⟩
  · rw [Chip.settle_now, Chip.tick, if_pos (show s.chip.newTick.pwr.dieReset = true from hd), Chip.aonTick_now]
    rfl
  · rw [Chip.settle_now, Chip.tick, if_neg (by simp [Chip.newTick, hd]), Chip.aonTick_now,
      Chip.dieTick_now (s := s.chip.newTick) hp]
    rfl

/-- Settles O3, by induction on the number of steps. -/
theorem wellFormedRunNeverStops : Obligations.WellFormedRunNeverStops := by
  unfold Obligations.WellFormedRunNeverStops
  intro n
  induction n with
  | zero => exact fun s h => ⟨s, rfl, rfl, h⟩
  | succ n ih =>
    intro s h
    obtain ⟨u, hu, hpend⟩ := step_completes h
    obtain ⟨t, hrun, hdrop, hwf⟩ := ih u (queueWf_of_drop h hpend)
    refine ⟨t, ?_, ?_, hwf⟩
    · simp only [Host.Core.run, show core.step s = .next u from hu, hrun]
    · rw [hdrop, hpend, List.drop_drop, Nat.add_comm]

/-- Settles O4. -/
theorem commandCompletesIffWellFormed : Obligations.CommandCompletesIffWellFormed := by
  unfold Obligations.CommandCompletesIffWellFormed
  exact fun i s => ⟨exec_completes s, exec_illFormed s⟩

/-- Settles O6. -/
theorem stepKeepsStores : Obligations.StepKeepsStores := by
  unfold Obligations.StepKeepsStores
  intro s t hs h
  exact step_keeps (p := Chip.KeepsWf) h (Chip.KeepsWf.of (Chip.tick_keepsWf id) (Chip.settle_keeps (.refl _)))
    (fun _ _ _ hx => exec_keepsWf hx) hs

/-- Settles O7. -/
theorem stepKeepsInstances : Obligations.StepKeepsInstances := by
  unfold Obligations.StepKeepsInstances
  intro s t hs h
  exact step_keeps (p := Chip.KeepsShape) h (Chip.settle_shape (Chip.tick_shape (.refl _)))
    (fun _ _ _ hx => exec_shape hx) hs

/-- Settles O8. -/
theorem resetMeetsInvariants : Obligations.ResetMeetsInvariants := by
  unfold Obligations.ResetMeetsInvariants
  refine ⟨fun h hh hl => ?_, ?_, rfl, ?_, rfl, rfl, ?_, rfl, rfl, rfl, fun f => rfl⟩
  · revert hl
    simp [State.reset, hasBit, bitOf]
  · unfold Chip.levelsSeen
    decide +kernel
  · constructor <;> rfl
  · decide

end Sys2Proof.Machine
end

section
/-! SUPPORT. From a command's effect on the module to what a statement says of the command. -/

namespace Sys2Proof.Machine

/-! ### Lists of parts as bits -/

/-- The bits of the listed parts. -/
def Part.mask : List Part → ℕ
  | [] => 0
  | p :: ps => 2 ^ p.bit ||| Part.mask ps

theorem Part.bit_inj {p q : Part} (h : p.bit = q.bit) : p = q := by
  cases p <;> cases q <;> first | rfl | cases h

theorem Part.testBit_mask {p : Part} : ∀ {ps : List Part}, p ∉ ps → (Part.mask ps).testBit p.bit = false
  | [], _ => Nat.zero_testBit _
  | q :: ps, h => by
    rw [List.mem_cons, not_or] at h
    rw [Part.mask, Nat.testBit_lor, Part.testBit_mask h.2,
      Nat.testBit_two_pow_of_ne fun hb => h.1 (Part.bit_inj hb).symm]
    rfl

/-- An operation that stays inside the bits of the listed parts changes these parts at most. -/
theorem Chip.Inside.within_mask {c d : Chip} {ps : List Part} (h : c.Inside (Part.mask ps) d) : c.Within d ps :=
  h.within fun _ => Part.testBit_mask

theorem Chip.Frame.within {c d : Chip} {fs : List Field} {ps : List Part} (h : c.Frame d fs ps) :
    c.Within d (.regs :: ps) := h.2

/-! ### Outcomes -/

/-- What a command of the control die does in a state is what its effect makes of that state's module. -/
theorem State.act_congr {s : State} {f g : Chip → Chip} (h : f s.chip = g s.chip) : s.act f = s.act g := by
  simp only [State.act, State.actRaw, h]

variable {i : Instr} {s : State} {f : Chip → Chip} {ps : List Part} {p : Chip → Prop}

theorem ends_of_act (hx : exec i s = s.act f) (hd : s.chip.pwr.dieReset = false) (hp : p (f s.chip).settle) :
    Ends i s p :=
  ⟨_, hx.trans (s.act_next f hd), rfl, hp⟩

/-- What the effect of a command of the control die keeps, and what it leaves, the command does. -/
theorem touches_of_act (hx : exec i s = s.act f) (hd : s.chip.pwr.dieReset = false)
    (hi : s.chip.Inside (Part.mask ps) (f s.chip)) (hp : p (f s.chip).settle) : Touches i s ps p :=
  ⟨_, hx.trans (s.act_next f hd), rfl, (Chip.settle_inside (Nat.zero_or _) hi).within_mask, hp⟩

/-- What a command's operations keep, it keeps; what its effect leaves here, it leaves. -/
theorem touches_of_inside (hx : exec i s = s.act f) (hd : s.chip.pwr.dieReset = false)
    (hi : ∀ t, exec i s = .next t → s.chip.Inside (Part.mask ps) t.chip) (hp : p (f s.chip).settle) : Touches i s ps p :=
  ⟨_, hx.trans (s.act_next f hd), rfl, (hi _ (hx.trans (s.act_next f hd))).within_mask, hp⟩

/-- A command of the control die that has no effect here. -/
theorem completes_unchanged (hx : exec i s = s.act f) (hd : s.chip.pwr.dieReset = false) (hf : f s.chip = s.chip) :
    Completes i s [] [] (fun _ => True) :=
  completes_of_act hx hd (by rw [hf]; exact .refl ..) trivial

end Sys2Proof.Machine
end

section
/-! SUPPORT. A region's reset takes that region into reset and no other (R16). -/

namespace Sys2Proof.Machine

namespace Chip

/-- A part that no bit of the mask stands for is as before. -/
theorem Inside.rgn {M : ℕ} {z s : Chip} (h : z.Inside M s) (hM : M.testBit 11 = false) : s.rgn = z.rgn :=
  (h .rgn hM).symm

/-- Everything that a region's reset does after the region has entered it leaves the regions alone. -/
theorem regionDown_inside_entered {z s : Chip} {g : Nat} {M : ℕ} (hM : Sub 125547006 M)
    (h : z.Inside M (s.modRgn g fun r => { r with inReset := true })) : z.Inside M (s.regionDown g) := by
  unfold regionDown
  extract_lets +onlyGivenNames s1
  have h1 : z.Inside M s1 := openGate_inside (hM.up rfl) h
  clear_value s1
  extract_lets +onlyGivenNames s2
  have h2 : z.Inside M s2 := by
    refine .each h1 fun k t ht => modCl_inside (hM.up rfl) (sets_inside (hM.up rfl)
      (clusterHidden_inside (hM.up rfl) (clusterRegs_inside (hM.up rfl) (.ite (set_inside (hM.up rfl) ?_) ?_)))) <;>
    exact endDuplex_inside (hM.up rfl) (endDuplex_inside (hM.up rfl) ht)
  clear_value s2
  extract_lets +onlyGivenNames s3
  have h3 : z.Inside M s3 := by
    refine .each h2 fun n t ht => showHiz_inside (hM.up rfl) (sliceUnitReset_inside (hM.up rfl)
      (modSlice_inside (hM.up rfl) (.ite (setGate_inside (hM.up rfl) ?_) ?_))) <;>
    exact put_inside (hM.up rfl) ht
  clear_value s3
  extract_lets +onlyGivenNames s4
  have h4 : z.Inside M s4 :=
    .each h3 fun c t ht => .mk_irq (hM.up rfl) (modHart_inside (hM.up rfl) (resetRange_inside (hM.up rfl) ht))
  clear_value s4
  extract_lets lo nlo _ _ s5
  have h5 : z.Inside M s5 := .mk_mem_ecc_fab_bus_memS (hM.up rfl) h4
  clear_value s5
  exact refreshHolds_inside (hM.up rfl) (.each (hwRegion_inside (hM.up rfl) (semRegion_inside (hM.up rfl) h5))
    fun k t ht => demandBegins_inside (hM.up rfl) ht)

theorem regionDown_rgn (s : Chip) (g : Nat) :
    (s.regionDown g).rgn = updNth (fun r => { r with inReset := true }) g s.rgn :=
  (regionDown_inside_entered (M := 125547006) rfl (.refl _ _)).rgn rfl

theorem record_rgn (s : Chip) (code cls inst cluster region data : Nat) :
    (s.record code cls inst cluster region data).rgn = s.rgn :=
  (record_inside (M := 66) rfl (.refl s _)).rgn rfl

theorem regionReset_rgn (s : Chip) (g : Nat) (cause : Field) :
    (s.regionReset g cause).rgn = updNth (fun r => { r with inReset := true }) g s.rgn := by
  rw [regionReset, regionDown_rgn, record_rgn, put_rgn]

theorem halt_rgn (s : Chip) (g code inst data : Nat) :
    (s.halt g code inst data).rgn = updNth (fun r => { r with inReset := true }) g s.rgn := by
  rw [halt, haltRegion, (haltPartner_inside (M := 1708354) rfl (.refl _ _)).rgn rfl, regionReset_rgn, record_rgn]

end Chip

/-- Settles O12: the cell that differs is a HALT of its region. -/
theorem configReadbackHalts : Obligations.ConfigReadbackHalts := by
  unfold Obligations.ConfigReadbackHalts
  intro s g hd
  refine ⟨completes_unchanged rfl hd rfl, fun x hg => ?_⟩
  have he : exec (.configReadback g (some x)) s = s.act fun c => if (c.region g).inReset then c else c.halt g 0x0E33 0 x :=
    rfl
  refine touches_of_act he hd ?_ ?_
  · exact .ite (.refl _ _) (Chip.halt_inside (by rfl) (.refl _ _))
  · rw [Chip.settle_rgn, if_neg (by simp [hg]), Chip.halt_rgn]

end Sys2Proof.Machine
end

section
/-! SUPPORT. The fault log's write to data flash (R50, R502). -/

namespace Sys2Proof.Machine

namespace Chip

/-! ### Stored bytes -/

theorem bytes_setBytes (s : Chip) (a : Nat) (l : List Byte) : (s.setBytes a l).bytes a l.length = l := by
  refine List.ext_getElem (by simp [bytes]) fun i h₁ h₂ => ?_
  simp only [bytes, List.getElem_map, List.getElem_range]
  exact byte_setBytes l s a i h₂

theorem length_leBytes (n v : Nat) : (leBytes n v).length = n := by
  induction n generalizing v with
  | zero => rfl
  | succ n ih => rw [leBytes, List.length_cons, ih]

theorem length_entryBytes (e : LogEntry) : (entryBytes e).length = 16 := by
  simp [entryBytes, length_leBytes]

theorem setBytes_log (s : Chip) (a : Nat) (l : List Byte) : (s.setBytes a l).log = s.log :=
  ((setBytes_inside (M := 4) rfl (.refl s _)) .log rfl).symm

/-! ### The writes that wait for their temperature -/

theorem showWrites_log (s : Chip) : s.showWrites.log = s.log := ((showWrites_inside (M := 2) rfl (.refl s _)) .log rfl).symm
theorem showWrites_chm (s : Chip) : s.showWrites.chm = s.chm := ((showWrites_inside (M := 2) rfl (.refl s _)) .chm rfl).symm
theorem showWrites_mem (s : Chip) : s.showWrites.mem = s.mem := ((showWrites_inside (M := 2) rfl (.refl s _)) .mem rfl).symm

theorem dropWrite_mem (s : Chip) (o : WriteOwner) : (s.dropWrite o).mem = s.mem := by
  rw [dropWrite, showWrites_mem, modChm_mem]

theorem record_chm (s : Chip) (code cls inst cluster region data : Nat) :
    (s.record code cls inst cluster region data).chm = s.chm :=
  ((record_inside (M := 66) rfl (.refl s _)) .chm rfl).symm

/-- A fault's record moves no entry of the flash ring. -/
theorem record_flashNext (s : Chip) (code cls inst cluster region data : Nat) :
    (s.record code cls inst cluster region data).log.flashNext = s.log.flashNext := by
  unfold record retain
  dsimp only
  repeat' split
  all_goals rfl

/-- With no write waiting, a submitted one starts or is held by its own temperature. -/
theorem submitWrite_chm {s : Chip} (hw : s.chm.writes = []) (o : WriteOwner) :
    (s.submitWrite o).chm.writes = [⟨o, !s.writeTempOk o, s.writeTempOk o, s.now⟩] := by
  unfold submitWrite
  simp only [hw, List.any_nil, Bool.not_false, Bool.and_true, showWrites_chm]
  split <;> simp [note, record_chm, modChm, hw]

theorem submitWrite_log_of_ok {s : Chip} (hw : s.chm.writes = []) {o : WriteOwner} (ht : s.writeTempOk o = true) :
    (s.submitWrite o).log = s.log := by
  simp [submitWrite, hw, ht, showWrites_log]

theorem submitWrite_mem (s : Chip) (o : WriteOwner) : (s.submitWrite o).mem = s.mem :=
  ((submitWrite_inside (M := 2097218) rfl (.refl s _)) .mem rfl).symm

theorem submitWrite_flashNext {s : Chip} (hw : s.chm.writes = []) (o : WriteOwner) :
    (s.submitWrite o).log.flashNext = s.log.flashNext := by
  unfold submitWrite
  simp only [hw, List.any_nil, Bool.not_false, Bool.and_true, showWrites_log]
  split
  · rfl
  · rw [note, record_flashNext, put_log, modChm_log]

/-- The oldest entry goes to its place of the flash ring, and leaves the queue and its write the list of writes. -/
def flashEntry (s : Chip) (e : LogEntry) (q : List LogEntry) : Chip :=
  let a := 0x10800000 + 16 * s.log.flashNext
  let c := (s.setBytes a (entryBytes e)).eccFresh a 16
  { c.dropWrite .log with log := { c.log with
    queue := q, flashNext := (c.log.flashNext + 1) % 512, flashUsed := min 512 (c.log.flashUsed + 1) } }

theorem flashEntry_log (s : Chip) (e : LogEntry) (q : List LogEntry) : (s.flashEntry e q).log =
    { s.log with queue := q, flashNext := (s.log.flashNext + 1) % 512, flashUsed := min 512 (s.log.flashUsed + 1) } := by
  simp only [flashEntry, eccFresh, setBytes_log]

theorem flashEntry_mem (s : Chip) (e : LogEntry) (q : List LogEntry) :
    (s.flashEntry e q).mem = (s.setBytes (0x10800000 + 16 * s.log.flashNext) (entryBytes e)).mem := by
  simp only [flashEntry, dropWrite_mem, eccFresh]

theorem byte_congr {s t : Chip} (h : s.mem = t.mem) (a : Nat) : s.byte a = t.byte a := by rw [byte, byte, h]

theorem setBytes_mem_congr (l : List Byte) {s t : Chip} (h : s.mem = t.mem) (a : Nat) :
    (s.setBytes a l).mem = (t.setBytes a l).mem := by
  induction l generalizing s t a with
  | nil => exact h
  | cons b l ih => exact ih (by simp only [setByte, h]) _

end Chip

section
variable {s : State} {e : LogEntry} {q : List LogEntry} (hq : s.chip.log.queue = e :: q) (hw : s.chip.chm.writes = [])
include hq hw

theorem execLogEntryFlashWrite_of_ok (ht : s.chip.writeTempOk .log = true) :
    execLogEntryFlashWrite s = s.act fun c => (c.submitWrite .log).flashEntry e q := by
  have hwait : s.chip.writeWaits .log = false := by simp [Chip.writeWaits, hw]
  have hwriting : (s.chip.submitWrite .log).writing .log = true := by
    simp [Chip.writing, Chip.submitWrite_chm hw, ht]
  refine State.act_congr ?_
  simp only [hq, hwait, Bool.false_eq_true, if_false, hwriting, Bool.not_true, Chip.submitWrite_log_of_ok hw ht,
    Chip.flashEntry]

theorem execLogEntryFlashWrite_of_not_ok (ht : s.chip.writeTempOk .log = false) :
    execLogEntryFlashWrite s = s.act fun c => c.submitWrite .log := by
  have hwait : s.chip.writeWaits .log = false := by simp [Chip.writeWaits, hw]
  have hwriting : (s.chip.submitWrite .log).writing .log = false := by
    simp [Chip.writing, Chip.submitWrite_chm hw, ht]
  refine State.act_congr ?_
  simp only [hq, hwait, Bool.false_eq_true, if_false, hwriting, Bool.not_false, if_true]

end

/-- Settles O15: the entry's write starts and ends, or is held. -/
theorem logEntryWritten : Obligations.LogEntryWritten := by
  unfold Obligations.LogEntryWritten
  intro s hd hq hw
  obtain ⟨e, q, hq⟩ := List.exists_cons_of_ne_nil hq
  refine ⟨fun ht => ?_, fun ht => ?_⟩
  · refine touches_of_inside (execLogEntryFlashWrite_of_ok hq hw ht) hd (fun _ => execLogEntryFlashWrite_inside (by rfl)) ?_
    have hlog := Chip.submitWrite_log_of_ok hw ht
    have hbyte (a : Nat) : (((s.chip.submitWrite .log).flashEntry e q).settle).byte a =
        (s.chip.setBytes (0x10800000 + 16 * s.chip.log.flashNext) (Chip.entryBytes e)).byte a := by
      rw [Chip.settle_byte, Chip.byte_congr (Chip.flashEntry_mem ..), hlog]
      exact Chip.byte_congr (Chip.setBytes_mem_congr _ (s.chip.submitWrite_mem .log) _) a
    simp only [Chip.settle_log, Chip.flashEntry_log, hlog, hq]
    refine ⟨rfl, ?_, trivial, trivial, fun a ha => ?_⟩
    · have hb := Chip.bytes_setBytes s.chip (0x10800000 + 16 * s.chip.log.flashNext) (Chip.entryBytes e)
      rw [Chip.length_entryBytes] at hb
      exact (List.map_congr_left fun i _ => hbyte _).trans hb
    · rw [hbyte]
      exact Chip.byte_setBytes_other _ _ _ _ (by rw [Chip.length_entryBytes]; omega)
  · refine touches_of_act (execLogEntryFlashWrite_of_not_ok hq hw ht) hd (Chip.submitWrite_inside (by rfl) (.refl _ _)) ?_
    simp only [Chip.settle_chm, Chip.settle_log]
    exact ⟨by simp [Chip.submitWrite_chm hw, ht], Chip.submitWrite_flashNext hw _⟩

end Sys2Proof.Machine
end

section
/-! SUPPORT. A write that a unit reset holds at an address of no unit: no reset's end lets it through, so that the writes that
must follow it never take effect. The three statements that promise, of every state, that a fence or a release leaves no write
of its requester waiting fail in such a state; the commands themselves hold writes at units alone. -/

namespace Sys2Proof.Machine

/-- Region A runs, its core 0 presents requests; one write of the requester to flag word 0 is on its way behind a held write of
the requester at address 0, which belongs to no unit. -/
def stuckWrite (r : Requester) (flag : Nat) : State :=
  { chip := { rgn := [{ inReset := false }, {}], bus := { posted := [⟨r, flag, 4, 1, 0⟩], held := [⟨r, 0, 4, 0, 0⟩] } } }

/-- What is said of every next state of a command of the control die is true of its effect. -/
theorem Ends.of_act {i : Instr} {s : State} {f : Chip → Chip} {p : Chip → Prop} (h : Ends i s p)
    (hx : exec i s = s.act f) (hd : s.chip.pwr.dieReset = false) : p (f s.chip).settle := by
  obtain ⟨t, ht, -, hp⟩ := h
  obtain rfl := Host.Outcome.next.inj (ht.symm.trans (hx.trans (s.act_next f hd)))
  exact hp

/-- Refutes O13: a FENCE with O among its predecessors leaves the flag word's write waiting. -/
theorem not_fenceWaitsForWrites : ¬ Obligations.FenceWaitsForWrites := by
  unfold Obligations.FenceWaitsForWrites
  intro h
  obtain ⟨hfence, -⟩ := h (stuckWrite (.hart 0) 0x30040000) 0 ⟨false, true, false, false, false⟩ rfl (by decide +kernel)
  have hends := hfence rfl (.inr rfl)
  obtain ⟨-, hnone⟩ := hends.of_act (f := fun c => c.coreFence 0 ⟨false, true, false, false, false⟩) rfl rfl
  refine hnone ⟨.hart 0, 0x30040000, 4, 1, 0⟩ ?_ rfl
  rw [Chip.settle_bus]
  decide +kernel

/-- Refutes O14: a release by core 0 leaves its earlier flag word's write waiting. -/
theorem not_flagReleaseSetsOwner : ¬ Obligations.FlagReleaseSetsOwner := by
  unfold Obligations.FlagReleaseSetsOwner
  intro h
  obtain ⟨-, hrun⟩ := h (stuckWrite (.hart 0) 0x30040000) (.hart 0) 1 0 rfl
  obtain ⟨hends, -⟩ := hrun (by decide +kernel)
  obtain ⟨-, hnone⟩ := hends.of_act rfl rfl
  refine hnone ⟨.hart 0, 0x30040000, 4, 1, 0⟩ ?_ rfl
  rw [Chip.settle_bus]
  decide +kernel

/-- Refutes O56: the host's write to HW_FENCE leaves its earlier flag word's write waiting. -/
theorem not_hostPort : ¬ Obligations.HostPort := by
  unfold Obligations.HostPort
  intro h
  obtain ⟨-, -, -, -, -, -, -, hfence, -⟩ := h (stuckWrite .host 0x40000) 0 0 0 0 [] 0 rfl (by constructor <;> rfl)
  refine hfence.of_act rfl rfl ⟨.host, 0x40000, 4, 1, 0⟩ ?_ rfl
  rw [Chip.settle_bus]
  decide +kernel

end Sys2Proof.Machine
end

section
/-! SUPPORT. The reset of an island that others wait for in a bring-up: their latencies are judged at its start (R381, R382), so
that it may record CAL_DRIFT in the fault log. -/

namespace Sys2Proof.Machine

/-- Island 0 is in step 4 of its handshake; islands 1 and 2 have ended theirs and wait for it, with raw latencies further apart
than a trim reaches. -/
def calibrationWaits : State :=
  { chip := {
      regs := [((Reg.ISL_CHAN_raw 2).key, 1000)]
      isl := [{ real := 1, hsStep := 4 }, { calDue := true }, { calDue := true }, {}, {}, {}, {}, {}, {}, {}, {}, {}] } }

/-- A command of the control die that touches the listed parts alone leaves every other part as it was. -/
theorem Touches.within_of_act {i : Instr} {s : State} {f : Chip → Chip} {ps : List Part} {p : Chip → Prop}
    (h : Touches i s ps p) (hx : exec i s = s.act f) (hd : s.chip.pwr.dieReset = false) :
    s.chip.Within (f s.chip).settle ps := by
  obtain ⟨t, ht, -, hw, -⟩ := h
  obtain rfl := Host.Outcome.next.inj (ht.symm.trans (hx.trans (s.act_next f hd)))
  exact hw

/-- Refutes O11: ISLAND_UNIT_RESET of the island that the others wait for makes a log entry. -/
theorem not_unitResetHoldsAccesses : ¬ Obligations.UnitResetHoldsAccesses := by
  unfold Obligations.UnitResetHoldsAccesses
  intro h
  obtain ⟨-, -, -, hreset, -⟩ := h calibrationWaits rfl
  have hw := (hreset 0 (by decide +kernel) (by decide +kernel)).within_of_act
    (f := fun c => c.unitAsk (.isl 0)) rfl rfl
  have hlog : calibrationWaits.chip.log = (calibrationWaits.chip.unitAsk (.isl 0)).settle.log := hw .log (by decide)
  rw [Chip.settle_log] at hlog
  exact absurd (congrArg LogS.seq hlog) (by decide +kernel)

end Sys2Proof.Machine
end

section
/-! SUPPORT. Before the start has checked the fuses, the lifecycle state that a command sees is that of the fuses, and not yet
the one that CFG_LC_STAT shows: a full self-test is then refused though the register reads INITIAL. -/

namespace Sys2Proof.Machine

/-- The fuses say FIELD, the start has not shown them yet; region A runs, its clusters are IDLE. -/
def fieldUnshown : State :=
  { chip := { cfg := { fuses := { field := true } }, rgn := [{ inReset := false }, {}] } }

/-- What is said of the new module of a command that touches the listed parts is true of its effect. -/
theorem Touches.of_act {i : Instr} {s : State} {f : Chip → Chip} {ps : List Part} {p : Chip → Prop}
    (h : Touches i s ps p) (hx : exec i s = s.act f) (hd : s.chip.pwr.dieReset = false) : p (f s.chip).settle := by
  obtain ⟨t, ht, -, -, hp⟩ := h
  obtain rfl := Host.Outcome.next.inj (ht.symm.trans (hx.trans (s.act_next f hd)))
  exact hp

/-- Refutes O27: the full self-test of region A is refused, the region stays out of reset. -/
theorem not_regionsComeUp : ¬ Obligations.RegionsComeUp := by
  unfold Obligations.RegionsComeUp
  intro h
  obtain ⟨-, -, -, -, -, hfull, -⟩ := h fieldUnshown 0 ⟨false, [], none, none⟩ ⟨[], 0, 0, [], []⟩ rfl (by constructor <;> rfl)
  have hends := hfull (by decide +kernel) (by decide +kernel) (by decide +kernel) (by decide +kernel) rfl
  obtain ⟨hrgn, -⟩ := hends.of_act (f := fun c => c.fullStart 0) rfl rfl
  rw [Chip.settle_rgn] at hrgn
  exact absurd (congrArg (fun l => l.map RegionS.inReset) hrgn) (by decide +kernel)

end Sys2Proof.Machine
end

section
/-! SUPPORT. A contactor that a driving cluster holds open opens as the cluster leaves CATCH (R444): the safety block then takes
the tick from which its feedback is awaited, though the request is said to leave that block alone. -/

namespace Sys2Proof.Machine

/-- Region A runs; cluster 0, of type 1, is in CATCH; the positive contactor is closed with its command taken away. -/
def contactorHeld : State :=
  { chip := {
      now := 1
      regs := [((Reg.SEQ_STAT_state 0).key, 1), (Reg.SAFE_CTR_STAT_pos_out.key, 1)]
      img := { topo := [{ type := 1 }, {}, {}, {}] }
      rgn := [{ inReset := false }, {}] } }

/-- Refutes O32: STOP in CATCH changes the safety block. -/
theorem not_stopAndHaltRequests : ¬ Obligations.StopAndHaltRequests := by
  unfold Obligations.StopAndHaltRequests
  intro h
  obtain ⟨-, -, -, -, -, hcatch, -⟩ := h contactorHeld 0 rfl (by constructor <;> rfl) (by decide +kernel) (by decide +kernel) rfl
  obtain ⟨hstop, -⟩ := hcatch (by decide +kernel) (by decide +kernel)
  have hw := hstop.within_of_act
    (f := fun c => c.rowWrite 0x40000000 2 fun c => c.request 0 2) rfl rfl
  have hsafe : contactorHeld.chip.safe =
      (contactorHeld.chip.rowWrite 0x40000000 2 fun c => c.request 0 2).settle.safe := hw .safe (by decide)
  rw [Chip.settle_safe] at hsafe
  exact absurd (congrArg SafeS.posAt hsafe) (by decide +kernel)

end Sys2Proof.Machine
end
section
/-! SUPPORT. A RESET reloads the cluster's slices and checks them again: where the image gives cluster 0 the outer slice of a
three-level phase alone, the other slice's gate leaves the phase outside Table 09-9, and the check makes a fault that the cluster
did not hold. -/

namespace Sys2Proof.Machine

/-- Region A runs; cluster 0, of type 3, is IDLE and holds slice 0 alone; slice 3 stands with its low output on. -/
def phaseSplit : State :=
  { chip := {
      regs := [((Reg.PWM_S_STAT_gate_en 3).key, 1)]
      img := { topo := [{ type := 3, slices := 1 }, {}, {}, {}] }
      rgn := [{ inReset := false }, {}]
      slice := [{}, {}, {}, { onL := true }, {}, {}, {}, {}, {}, {}, {}, {}, {}, {}, {}, {}] } }

/-- Refutes O33: a RESET in IDLE leaves the cluster with a fault of its three-level phase. -/
theorem not_resetClearDischargeDuplexSplit : ¬ Obligations.ResetClearDischargeDuplexSplit := by
  unfold Obligations.ResetClearDischargeDuplexSplit
  intro h
  obtain ⟨hreq, -, -⟩ := h phaseSplit 0 rfl (by constructor <;> rfl)
  obtain ⟨-, hreset, -⟩ := hreq (by decide +kernel) (by decide +kernel) rfl
  obtain ⟨-, -, -, -, hfaults⟩ := (hreset (.inl (by decide +kernel))).of_act
    (f := fun c => c.rowWrite 0x40000000 4 fun c => c.request 0 4) rfl rfl
  have hheld : (phaseSplit.chip.cluster 0).faults = [] := rfl
  have hempty : (((phaseSplit.chip.rowWrite 0x40000000 4 fun c => c.request 0 4).settle).cluster 0).faults = [] :=
    List.eq_nil_iff_forall_not_mem.2 fun x hx => by simpa [hheld] using hfaults x hx
  unfold Chip.cluster at hempty
  rw [Chip.settle_cl] at hempty
  exact absurd hempty (by decide +kernel)

end Sys2Proof.Machine
end

section
/-! SUPPORT. A hart after a command: settling changes nothing of it but its wait; a trap, a load, a store and a fetch of a core that
executes, with no write on its way. -/

namespace Sys2Proof.Machine

theorem nth_updNth_self {α : Type} [Inhabited α] (f : α → α) :
    ∀ {n : Nat} {l : List α}, n < l.length → nth (updNth f n l) n = f (nth l n)
  | _, [], h => absurd h (Nat.not_lt_zero _)
  | 0, _ :: _, _ => rfl
  | n + 1, _ :: l, h => nth_updNth_self f (n := n) (l := l) (Nat.lt_of_succ_lt_succ h)

theorem nth_map {α β : Type} [Inhabited α] [Inhabited β] (f : α → β) (hf : f default = default) (l : List α) (n : Nat) :
    nth (l.map f) n = f (nth l n) := by
  rw [nth, nth, ← hf, List.getD_map]

/-- A hart that waits for nothing. -/
def HartS.awake (h : HartS) : HartS := { h with wfi := false }

theorem awake_of_agree {c d : Chip} (h : c.agree d .hart) (k : Nat) : (nth c.hart k).awake = (nth d.hart k).awake := by
  rw [← nth_map HartS.awake rfl, ← nth_map HartS.awake rfl]
  exact congrArg (nth · k) h

/-- What is said of a hart apart from its wait is true of it after settling as before. -/
theorem settle_hart_apply {α : Type} (g : HartS → α) (hg : ∀ h, g h.awake = g h) (s : Chip) (k : Nat) :
    g (nth s.settle.hart k) = g (nth s.hart k) := by
  rw [← hg, awake_of_agree s.settle_hart, hg]

namespace Chip

@[simp] theorem settle_hart_pc (s : Chip) (k : Nat) : (nth s.settle.hart k).pc = (nth s.hart k).pc :=
  settle_hart_apply HartS.pc (fun _ => rfl) s k
@[simp] theorem settle_hart_xregs (s : Chip) (k : Nat) : (nth s.settle.hart k).xregs = (nth s.hart k).xregs :=
  settle_hart_apply HartS.xregs (fun _ => rfl) s k
@[simp] theorem settle_hart_machine (s : Chip) (k : Nat) : (nth s.settle.hart k).machine = (nth s.hart k).machine :=
  settle_hart_apply HartS.machine (fun _ => rfl) s k
@[simp] theorem settle_hart_mepc (s : Chip) (k : Nat) : (nth s.settle.hart k).mepc = (nth s.hart k).mepc :=
  settle_hart_apply HartS.mepc (fun _ => rfl) s k
@[simp] theorem settle_hart_mcause (s : Chip) (k : Nat) : (nth s.settle.hart k).mcause = (nth s.hart k).mcause :=
  settle_hart_apply HartS.mcause (fun _ => rfl) s k
@[simp] theorem settle_hart_mtval (s : Chip) (k : Nat) : (nth s.settle.hart k).mtval = (nth s.hart k).mtval :=
  settle_hart_apply HartS.mtval (fun _ => rfl) s k
@[simp] theorem settle_hart_fetchQ (s : Chip) (k : Nat) : (nth s.settle.hart k).fetchQ = (nth s.hart k).fetchQ :=
  settle_hart_apply HartS.fetchQ (fun _ => rfl) s k
@[simp] theorem settle_hart_wdtWarned (s : Chip) (k : Nat) :
    (nth s.settle.hart k).wdtWarned = (nth s.hart k).wdtWarned :=
  settle_hart_apply HartS.wdtWarned (fun _ => rfl) s k

theorem modHart_hart_self {s : Chip} {k : Nat} (h : k < s.hart.length) (f : HartS → HartS) :
    nth (s.modHart k f).hart k = f (nth s.hart k) := nth_updNth_self f h

theorem Frame.modHart (s : Chip) (k : Nat) (f : HartS → HartS) (fs : List Field) {ps : List Part} (h : Part.hart ∈ ps) :
    s.Frame (s.modHart k f) fs ps := .hart s _ fs h

theorem Shaped.hart_lt {s : Chip} (h : s.Shaped) (k : Fin 4) : k.val < s.hart.length := by
  rw [h.hart]; exact k.isLt

theorem coreUp_of_coreRuns {s : Chip} {k : Nat} (h : s.coreRuns k = true) : s.coreUp k = true := by
  simp only [coreRuns, Bool.and_eq_true] at h
  exact h.1

/-! ### No write on its way -/

theorem drain_of_empty {s : Chip} (hp : s.bus.posted = []) (hh : s.bus.held = []) (r : Requester) (need : Nat → Bool) :
    s.drain r need = s := by
  simp [drain, hp, hh, drainN, endHolds]

theorem drainUnit_of_empty {s : Chip} (hp : s.bus.posted = []) (hh : s.bus.held = []) (r : Requester) (a : Nat) :
    s.drainUnit r a = s := drain_of_empty hp hh r _

/-! ### System SRAM -/

theorem memOf_sram {w : Nat} (h : w < 524288) : memOf (0x20000000 + 4 * w) = some 4 := by
  unfold memOf
  rw [if_neg (by omega), if_pos (by omega)]

theorem eccRead_of_clean {s : Chip} {key addr req e : Nat} {fetch : Bool} (h : s.eccBits key e = 0) :
    s.eccRead key addr req fetch e = (s, false) := by
  unfold eccRead
  cases memOf key with
  | none => rfl
  | some m => simp only [h]

theorem coreKey_sram (g w : Nat) : coreKey g (0x20000000 + 4 * w) = 0x20000000 + 4 * w := if_neg (by omega)

theorem loadable_sram {w : Nat} (h : w < 524288) : loadable (0x20000000 + 4 * w) = true := by
  have hlo : 0x20000000 ≤ 0x20000000 + 4 * w := by omega
  have hhi : 0x20000000 + 4 * w < 0x20200000 := by omega
  simp [loadable, hhi]

theorem not_loadable_beyond {a : Nat} (h : 0x42040000 ≤ a) : loadable a = false := by
  simp only [loadable, listedBlock, Bool.or_eq_false_iff, Bool.and_eq_false_iff, decide_eq_false_iff_not]
  omega

end Chip

end Sys2Proof.Machine
end

section
/-! SUPPORT. The instructions of a core: what O55 says of loads, stores and fetches. -/

namespace Sys2Proof.Machine

theorem Completes.imp {i : Instr} {s : State} {fs : List Field} {ps : List Part} {p q : Chip → Prop}
    (h : Completes i s fs ps p) (hpq : ∀ t, p t → q t) : Completes i s fs ps q := by
  obtain ⟨t, ht, hq, hf, hp⟩ := h
  exact ⟨t, ht, hq, hf, hpq _ hp⟩

namespace Chip

/-- A trap as it leaves the hart: cause and value, the instruction's address, machine mode at the vector, the registers kept. -/
structure Trapped (c t : Chip) (k cause tval : Nat) : Prop where
  mcause : (nth t.hart k).mcause = cause
  mtval : (nth t.hart k).mtval = tval
  mepc : (nth t.hart k).mepc = (nth c.hart k).pc
  xregs : (nth t.hart k).xregs = (nth c.hart k).xregs
  pc : (nth t.hart k).pc = (nth c.hart k).mtvec / 4 * 4
  machine : (nth t.hart k).machine = true

theorem trap_trapped {s : Chip} {k : Nat} (h : k < s.hart.length) (cause tval : Nat) :
    s.Trapped (s.trap k cause tval).settle k cause tval := by
  constructor <;> simp only [settle_hart_pc, settle_hart_xregs, settle_hart_machine, settle_hart_mepc, settle_hart_mcause,
    settle_hart_mtval, trap, modHart_hart_self h]

end Chip

variable {i : Instr} {s : State} {f : Chip → Chip} {k : Fin 4}

theorem trapped_of_act (hx : exec i s = s.act f) (hd : s.chip.pwr.dieReset = false) (hs : s.chip.Shaped) {cause tval : Nat}
    (hf : f s.chip = s.chip.trap k cause tval) : Completes i s [] [.hart] (fun t => s.chip.Trapped t k cause tval) :=
  completes_of_act hx hd (by rw [hf]; exact .modHart _ _ _ _ (.head _))
    (by rw [hf]; exact Chip.trap_trapped (hs.hart_lt k) cause tval)

namespace Chip

variable {c : Chip} {k n a : Nat}

theorem coreLoad_of_misaligned (h : c.coreRuns k = true) (ha : a % n ≠ 0) (uns fp : Bool) (rd e : Nat) :
    c.coreLoad k n uns fp rd a e = c.trap k 4 a := by
  simp [coreLoad, h, ha]

theorem coreStore_of_misaligned (h : c.coreRuns k = true) (ha : a % n ≠ 0) (d : Nat) :
    c.coreStore k n a d = c.trap k 6 a := by
  simp [coreStore, h, ha]

theorem coreLoad_beyond (h : c.coreRuns k = true) (ha : a % n = 0) (hl : 0x42040000 ≤ a) (uns fp : Bool) (rd e : Nat) :
    c.coreLoad k n uns fp rd a e = c.trap k 5 a := by
  simp [coreLoad, h, ha, not_loadable_beyond hl]

theorem coreStore_beyond (h : c.coreRuns k = true) (ha : a % n = 0) (hl : 0x42040000 ≤ a) (d : Nat) :
    c.coreStore k n a d = c.trap k 7 a := by
  simp [coreStore, storable, h, ha, not_loadable_beyond hl]

/-- A hart at an instruction's address. -/
def atFetch (c : Chip) (k a : Nat) : Chip := c.modHart k fun h => { h with pc := a, wfi := false }

theorem fetchInstr_beyond (h : c.coreUp k = true) (hl : 0x42040000 ≤ a) (e : Nat) :
    c.fetchInstr k a e = (c.atFetch k a).trap k 1 a := by
  have hf : fetchable13 a = false := by
    simp only [fetchable13, Bool.or_eq_false_iff, Bool.and_eq_false_iff, decide_eq_false_iff_not]
    omega
  simp [fetchInstr, h, hf, atFetch]

/-! ### System SRAM, with no write on its way and no wrong bit in the word -/

variable {w : Nat}

theorem reachGate_sram (hw : w < 524288) : c.reachGate (0x20000000 + 4 * w) = c := by
  have hr : clockRgn (0x20000000 + 4 * w) = none := by
    rw [clockRgn, if_neg (by omega), unitRgn, if_neg (by omega), if_neg (by omega), fabricPort]
    simp
    omega
  rw [reachGate, hr]

theorem coreLoad_sram (h : c.coreRuns k = true) (hw : w < 524288) (hp : c.bus.posted = []) (hh : c.bus.held = [])
    (he : c.eccBits (0x20000000 + 4 * w) 0 = 0) (ho : pmpOk (nth c.hart k) (0x20000000 + 4 * w) 0 = true) (rd : Nat) :
    c.coreLoad k 4 true false rd (0x20000000 + 4 * w) 0 = (c.putReg k false rd (c.load (0x20000000 + 4 * w) 4)).retire k := by
  have ha : (0x20000000 + 4 * w) % 4 = 0 := by omega
  have hd : c.loadData k (0x20000000 + 4 * w) 4 0 = (c, some (c.load (0x20000000 + 4 * w) 4)) := by
    rw [loadData, if_neg (by omega)]
    simp only [coreKey_sram, reachGate_sram hw, eccRead_of_clean he, Bool.false_eq_true, if_false]
  have hz : sizeOk (0x20000000 + 4 * w) 4 = true := by simp [sizeOk]
  simp [coreLoad, h, ha, loadable_sram hw, hz, ho, drainUnit_of_empty hp hh, hd, extend]

theorem coreStore_sram (h : c.coreRuns k = true) (hw : w < 524288)
    (ho : pmpOk (nth c.hart k) (0x20000000 + 4 * w) 1 = true) (d : Nat) :
    c.coreStore k 4 (0x20000000 + 4 * w) d = (c.post (.hart (Fin.ofNat 4 k)) (0x20000000 + 4 * w) 4 d).retire k := by
  have ha : (0x20000000 + 4 * w) % 4 = 0 := by omega
  have hz : sizeOk (0x20000000 + 4 * w) 4 = true := by simp [sizeOk]
  have hs : storable (0x20000000 + 4 * w) = true := by
    rw [storable, loadable_sram hw]
    simp
    omega
  simp [coreStore, h, ha, hs, hz, ho]

theorem fetchInstr_sram (h : c.coreUp k = true) (hw : w < 524288)
    (he : c.eccBits (0x20000000 + 4 * w) 0 = 0) (ho : pmpOk (nth c.hart k) (0x20000000 + 4 * w) 2 = true) :
    c.fetchInstr k (0x20000000 + 4 * w) 0 = (c.atFetch k (0x20000000 + 4 * w)).modHart k fun h =>
      { h with fetchQ := [(0x20000000 + 4 * w, c.instrAt (k / 2) (0x20000000 + 4 * w))] } := by
  have hx : fetchable13 (0x20000000 + 4 * w) = true := by
    simp [fetchable13]
    omega
  have hpar : (c.atFetch k (0x20000000 + 4 * w)).fetchParcel k (0x20000000 + 4 * w) 0 =
      (c.atFetch k (0x20000000 + 4 * w), false) := by
    have hfl : (decide (0x10000000 ≤ 0x20000000 + 4 * w) && decide (0x20000000 + 4 * w < 0x10800000)) = false := by
      simp
      omega
    have he' : (c.atFetch k (0x20000000 + 4 * w)).eccBits (0x20000000 + 4 * w) 0 = 0 := he
    simp only [fetchParcel, hfl, coreKey_sram, eccRead_of_clean he', Bool.false_and, Bool.false_eq_true, if_false]
  have hline : (0x20000000 + 4 * w + 2) / 4 = (0x20000000 + 4 * w) / 4 := by omega
  unfold fetchInstr
  rw [if_neg (by simp [h])]
  simp only [atFetch] at hpar ⊢
  simp only [hx, ho, hpar, hline, Bool.not_true, Bool.or_false, Bool.false_eq_true, if_false, decide_true, Bool.or_true, if_true]
  rfl

theorem putReg_x (c : Chip) (k rd v : Nat) :
    c.putReg k false rd v = if rd = 0 then c else c.modHart k fun h => { h with xregs := putAt 0 rd v h.xregs } := rfl

theorem toNat_sram (w : Fin 524288) : (BitVec.ofNat 32 (0x20000000 + 4 * w.val)).toNat = 0x20000000 + 4 * w.val := by
  rw [BitVec.toNat_ofNat]
  omega

end Chip

/-! ### The commands -/

theorem coreLoad_sram_completes (hd : s.chip.pwr.dieReset = false) (hs : s.chip.Shaped) (hc : s.chip.coreRuns k = true)
    (hp : s.chip.bus.posted = []) (hh : s.chip.bus.held = []) {w : Fin 524288} (rd : Fin 32)
    (he : s.chip.eccBits (0x20000000 + 4 * w.val) 0 = 0)
    (ho : Chip.pmpOk (nth s.chip.hart k) (0x20000000 + 4 * w.val) 0 = true) :
    Completes (.coreLoad k 2 true false rd (BitVec.ofNat 32 (0x20000000 + 4 * w.val)) 0) s [] [.hart] (fun t =>
      (rd.val ≠ 0 → lookupD 0 rd.val (nth t.hart k).xregs = s.chip.load (0x20000000 + 4 * w.val) 4) ∧
      (rd.val = 0 → (nth t.hart k).xregs = (nth s.chip.hart k).xregs) ∧
      (nth t.hart k).mcause = (nth s.chip.hart k).mcause) := by
  have hf := Chip.coreLoad_sram hc w.isLt hp hh he ho rd
  have hk := hs.hart_lt k
  have hk' : k.val < (s.chip.modHart k fun h => { h with
      xregs := putAt 0 rd.val (s.chip.load (0x20000000 + 4 * w.val) 4) h.xregs }).hart.length :=
    (updNth_length _ _ _).symm ▸ hk
  refine completes_of_act (f := fun c => c.coreLoad k 4 true false rd (BitVec.ofNat 32 (0x20000000 + 4 * w.val)).toNat 0) rfl hd ?_ ?_
  · rw [Chip.toNat_sram, hf, Chip.putReg_x, Chip.retire]
    split
    · exact .modHart _ _ _ _ (.head _)
    · exact (Chip.Frame.modHart _ _ _ _ (.head _)).trans (.modHart _ _ _ _ (.head _))
  · rw [Chip.toNat_sram, hf, Chip.putReg_x, Chip.retire]
    split
    next h0 => simp [h0, Chip.modHart_hart_self hk]
    next h0 => simp [h0, Chip.modHart_hart_self hk, Chip.modHart_hart_self hk']

theorem coreStore_sram_completes (hd : s.chip.pwr.dieReset = false) (hs : s.chip.Shaped) (hc : s.chip.coreRuns k = true)
    (hp : s.chip.bus.posted = []) {w : Fin 524288} (d : Word)
    (ho : Chip.pmpOk (nth s.chip.hart k) (0x20000000 + 4 * w.val) 1 = true) :
    Completes (.coreStore k 2 (BitVec.ofNat 32 (0x20000000 + 4 * w.val)) d) s [] [.bus, .hart] (fun t =>
      (nth t.hart k).xregs = (nth s.chip.hart k).xregs ∧
      t.bus.posted = [⟨.hart k, 0x20000000 + 4 * w.val, 4, d.toNat, 0⟩] ∧ t.bus.resets = s.chip.bus.resets) := by
  have hf := Chip.coreStore_sram hc w.isLt ho d.toNat
  have hreq : Fin.ofNat 4 k.val = k := Fin.ext (Nat.mod_eq_of_lt k.isLt)
  have hk : k.val < (s.chip.post (.hart k) (0x20000000 + 4 * w.val) 4 d.toNat).hart.length := hs.hart_lt k
  refine completes_of_act (f := fun c => c.coreStore k 4 (BitVec.ofNat 32 (0x20000000 + 4 * w.val)).toNat d.toNat) rfl hd ?_ ?_
  · rw [Chip.toNat_sram, hf, Chip.retire]
    exact (Chip.Frame.bus _ _ _ (.head _)).trans (.modHart _ _ _ _ (.tail _ (.head _)))
  · rw [Chip.toNat_sram, hf, hreq, Chip.retire]
    refine ⟨?_, ?_, ?_⟩
    · rw [Chip.settle_hart_xregs, Chip.modHart_hart_self hk]
      rfl
    · simpa [Chip.modHart, Chip.post, hp] using d.isLt
    · simp [Chip.modHart, Chip.post]

theorem instructionFetch_sram_completes (hd : s.chip.pwr.dieReset = false) (hs : s.chip.Shaped)
    (hc : s.chip.coreRuns k = true) {w : Fin 524288} (he : s.chip.eccBits (0x20000000 + 4 * w.val) 0 = 0)
    (ho : Chip.pmpOk (nth s.chip.hart k) (0x20000000 + 4 * w.val) 2 = true) :
    Completes (.instructionFetch k (BitVec.ofNat 32 (0x20000000 + 4 * w.val)) 0) s [] [.hart] (fun t =>
      (nth t.hart k).fetchQ = [(0x20000000 + 4 * w.val, s.chip.instrAt (k.val / 2) (0x20000000 + 4 * w.val))] ∧
      (nth t.hart k).pc = 0x20000000 + 4 * w.val) := by
  have hf := Chip.fetchInstr_sram (Chip.coreUp_of_coreRuns hc) w.isLt he ho
  have heven : (0x20000000 + 4 * w.val) / 2 * 2 = 0x20000000 + 4 * w.val := by omega
  have hk := hs.hart_lt k
  have hk' : k.val < (s.chip.atFetch k (0x20000000 + 4 * w.val)).hart.length := (updNth_length _ _ _).symm ▸ hk
  refine completes_of_act (f := fun c => c.fetchInstr k ((BitVec.ofNat 32 (0x20000000 + 4 * w.val)).toNat / 2 * 2) 0) rfl hd ?_ ?_
  · rw [Chip.toNat_sram, heven, hf]
    exact (Chip.Frame.modHart _ _ _ _ (.head _)).trans (.modHart _ _ _ _ (.head _))
  · rw [Chip.toNat_sram, heven, hf]
    rw [Chip.settle_hart_fetchQ, Chip.settle_hart_pc, Chip.modHart_hart_self hk']
    exact ⟨rfl, by rw [Chip.atFetch, Chip.modHart_hart_self hk]⟩

theorem instructionFetch_beyond_completes (hd : s.chip.pwr.dieReset = false) (hs : s.chip.Shaped)
    (hc : s.chip.coreRuns k = true) {a : Word} (ha : a.toNat % 4 = 0) (hl : 0x42040000 ≤ a.toNat) :
    Completes (.instructionFetch k a 0) s [] [.hart] (fun t => (nth t.hart k).mcause = 1 ∧ (nth t.hart k).mtval = a.toNat) := by
  have hf := Chip.fetchInstr_beyond (Chip.coreUp_of_coreRuns hc) hl 0
  have heven : a.toNat / 2 * 2 = a.toNat := by omega
  have hk : k.val < (s.chip.atFetch k a.toNat).hart.length := (updNth_length _ _ _).symm ▸ hs.hart_lt k
  refine completes_of_act (f := fun c => c.fetchInstr k (a.toNat / 2 * 2) 0) rfl hd ?_ ?_
  · rw [heven, hf]
    exact (Chip.Frame.modHart _ _ _ _ (.head _)).trans (.modHart _ _ _ _ (.head _))
  · rw [heven, hf]
    exact ⟨(Chip.trap_trapped hk 1 a.toNat).mcause, (Chip.trap_trapped hk 1 a.toNat).mtval⟩

end Sys2Proof.Machine
end

section
/-! SUPPORT. Bits that a field takes, notes of a flag, and the requests and timers of the cores' block: what O55 says of scrubbing,
semaphores, timers and watchdogs. -/

namespace Sys2Proof.Machine

/-! ### Bits of a field -/

theorem setBit_eq_or (v i : Nat) : setBit v i = v ||| 2 ^ i := by
  unfold setBit
  rw [hasBit_eq_testBit]
  split
  next h =>
    refine Nat.eq_of_testBit_eq fun j => ?_
    rw [Nat.testBit_or, Nat.testBit_two_pow]
    by_cases hj : i = j
    · simp [← hj, h]
    · simp [hj]
  next h =>
    have hand : (v ||| 2 ^ i) &&& 2 ^ i = 2 ^ i := by
      refine Nat.eq_of_testBit_eq fun j => ?_
      rw [Nat.testBit_and, Nat.testBit_or]
      cases (2 ^ i).testBit j <;> simp
    have hrest : (v ||| 2 ^ i).ldiff (2 ^ i) = v := by
      refine Nat.eq_of_testBit_eq fun j => ?_
      rw [Nat.testBit_ldiff, Nat.testBit_or, Nat.testBit_two_pow]
      by_cases hj : i = j
      · simp [← hj, h]
      · simp [hj]
    have hsum := and_add_ldiff (v ||| 2 ^ i) (2 ^ i)
    rw [hand, hrest] at hsum
    rw [← hsum, Nat.add_comm]

theorem hasBit_setBit (v i j : Nat) : hasBit (setBit v i) j = (hasBit v j || decide (i = j)) := by
  rw [setBit_eq_or, hasBit_eq_testBit, hasBit_eq_testBit, Nat.testBit_or, Nat.testBit_two_pow]

theorem hasBit_mod_two_pow (v : Nat) {w j : Nat} (h : j < w) : hasBit (v % 2 ^ w) j = hasBit v j := by
  rw [hasBit_eq_testBit, hasBit_eq_testBit, Nat.testBit_mod_two_pow]
  simp [h]

namespace Chip

variable (s : Chip)

/-- A bit of a field after the hardware has set one of its bits. -/
theorem hasBit_setBitOf (f : Field) (i : Nat) {j : Nat} (h : j < f.width) :
    hasBit ((s.setBitOf f i).get f) j = (hasBit (s.get f) j || decide (i = j)) := by
  rw [get_setBitOf_self, hasBit_mod_two_pow _ h, hasBit_setBit]

theorem on_eq (f : Field) : s.on f = (s.get f == 1) := rfl

/-! ### Flags and notes -/

theorem record_seq (code cls inst cluster region data : Nat) :
    (s.record code cls inst cluster region data).log.seq = (s.log.seq + 1) % 65536 := by
  unfold record
  extract_lets e q hs s1 s2
  have h1 : s1.log.seq = (s.log.seq + 1) % 65536 := rfl
  have h2 : s2.log.seq = s1.log.seq := by
    unfold s2
    split
    · unfold retain
      extract_lets
      split <;> rfl
    · rfl
  rw [← h1, ← h2]
  split <;> rfl

theorem get_note {code : Nat} (h1 : code ≠ 0x0E13) (h2 : code ≠ 0x0E10) (inst data : Nat) (f : Field) :
    (s.note code inst data).get f = s.get f :=
  (Frame.note s code inst data (fs := []) (ps := [.log]) (.head _) h1 h2).1 f nofun

theorem get_firstNote_self {flag : Field} (hw : 0 < flag.width) {code : Nat} (h1 : code ≠ 0x0E13) (h2 : code ≠ 0x0E10)
    (inst data : Nat) : (s.firstNote flag code inst data).get flag = 1 := by
  unfold firstNote
  split
  · exact get_put_self s flag true hw
  · rw [get_note _ h1 h2]
    exact get_put_self s flag true hw

theorem get_firstNote_other {flag f : Field} (hf : f.key ≠ flag.key) {code : Nat} (h1 : code ≠ 0x0E13) (h2 : code ≠ 0x0E10)
    (inst data : Nat) : (s.firstNote flag code inst data).get f = s.get f := by
  unfold firstNote
  split
  · exact get_put_other s hf true
  · rw [get_note _ h1 h2]
    exact get_put_other s hf true

/-! ### Scrubbing -/

theorem satInc_eq (m v : Nat) : satInc m v = min m (v + 1) := by
  unfold satInc
  split <;> omega

theorem get_bump_self (f : Field) {m : Nat} (h : m < 2 ^ f.width) : (s.bump f m).get f = min m (s.get f + 1) := by
  rw [bump, get_set_self, satInc_eq, Nat.mod_eq_of_lt (by omega)]

theorem eccRead_of_one {key addr req e : Nat} {fetch : Bool} (hm : memOf key = some 4) (h : s.eccBits key e = 1) :
    s.eccRead key addr req fetch e = (s.eccCor key 4 addr req fetch, false) := by
  simp only [eccRead, hm, h]

theorem eccCor_cnt (key addr req : Nat) (fetch : Bool) :
    (s.eccCor key 4 addr req fetch).get (Reg.MEM_ECC_CNT1_cnt 0) = min 255 (s.get (Reg.MEM_ECC_CNT1_cnt 0) + 1) := by
  unfold eccCor
  rw [get_firstNote_other _ (by decide) (by decide) (by decide), if_neg (by decide), get_bump_self _ _ (by decide)]
  simp only [eccInfo, sets, List.foldl]
  rw [get_set_other _ (by decide), get_set_other _ (by decide), get_set_other _ (by decide), get_set_other _ (by decide),
    get_set_other _ (by decide)]
  rfl

theorem eccCor_flag (key addr req : Nat) (fetch : Bool) : (s.eccCor key 4 addr req fetch).get Reg.MEM_FLAGS_cor = 1 :=
  get_firstNote_self _ (by decide) (by decide) (by decide) ..

theorem eccCor_addr (key req : Nat) {addr : Nat} (h : addr < 2 ^ 32) (fetch : Bool) :
    (s.eccCor key 4 addr req fetch).get Reg.MEM_ECC_ADDR_addr = addr := by
  unfold eccCor
  rw [get_firstNote_other _ (by decide) (by decide) (by decide), if_neg (by decide), bump, get_set_other _ (by decide)]
  simp only [eccInfo, sets, List.foldl]
  rw [get_set_other _ (by decide), get_set_other _ (by decide), get_set_other _ (by decide), get_set_other _ (by decide),
    get_set_self]
  exact Nat.mod_eq_of_lt h

end Chip

variable {s : State}

theorem exec_scrub_sram (w : Fin 524288) : exec (.scrub 4 w 0) s =
    s.act fun c => (c.eccRead (0x20000000 + 4 * w.val) (0x20000000 + 4 * w.val) 0 false 0).1 := by
  refine State.act_congr ?_
  have h4 : (4 : Fin 5).val = 4 := rfl
  simp only [h4, if_true, Chip.memOf_sram w.isLt]
  rfl

theorem scrub_clean_completes (hd : s.chip.pwr.dieReset = false) {w : Fin 524288}
    (he : s.chip.eccBits (0x20000000 + 4 * w.val) 0 = 0) : Completes (.scrub 4 w 0) s [] [] (fun _ => True) :=
  completes_unchanged (exec_scrub_sram w) hd (by rw [Chip.eccRead_of_clean he])

theorem scrub_one_touches (hd : s.chip.pwr.dieReset = false) {w : Fin 524288}
    (he : s.chip.eccBits (0x20000000 + 4 * w.val) 0 = 1) :
    Touches (.scrub 4 w 0) s [.regs, .ecc, .log] (fun t =>
      t.get (Reg.MEM_ECC_CNT1_cnt 0) = min 255 (s.chip.get (Reg.MEM_ECC_CNT1_cnt 0) + 1) ∧
      t.get Reg.MEM_FLAGS_cor = 1 ∧ t.get Reg.MEM_ECC_ADDR_addr = 0x20000000 + 4 * w.val) := by
  refine touches_of_act (exec_scrub_sram w) hd ?_ ?_ <;> rw [Chip.eccRead_of_one _ (Chip.memOf_sram w.isLt) he]
  · exact Chip.eccCor_inside (by rfl) (.refl _ _)
  · simp only [Chip.settle_get]
    exact ⟨Chip.eccCor_cnt .., Chip.eccCor_flag .., Chip.eccCor_addr _ _ _ (by omega) _⟩

end Sys2Proof.Machine
end

section
/-! SUPPORT. Semaphores, the timer's read and the error injection: what O55 says of them. -/

namespace Sys2Proof.Machine

namespace Chip

variable (s : Chip)

theorem reqCode_lt (r : Requester) : reqCode r < 256 := by
  cases r <;> simp only [reqCode] <;> omega

/-! ### Operations on a semaphore -/

theorem semOwner_semSet (n : Nat) {code : Nat} (h : code < 256) : (s.semSet n code).semOwner n = code := by
  rw [semOwner, semSet, get_set_self]
  exact Nat.mod_eq_of_lt h

theorem semOwner_semGrant (r : Requester) (n : Nat) (wait : Bool) : (s.semGrant r n wait).semOwner n = reqCode r :=
  s.semOwner_semSet n (reqCode_lt r)

theorem semOwner_semQueue (r : Requester) (n m : Nat) : (s.semQueue r n).semOwner m = s.semOwner m := by
  unfold semQueue
  split <;> rfl

theorem waits_semGrant (r : Requester) (n : Nat) (wait : Bool) : (s.semGrant r n wait).sem.waits = s.sem.waits := rfl

theorem mem_waits_semQueue (r : Requester) (n : Nat) : (n, r) ∈ (s.semQueue r n).sem.waits := by
  unfold semQueue
  split
  next h => simpa using h
  next => simp

theorem waits_semQueue_of_not_mem {r : Requester} {n : Nat} (h : (n, r) ∉ s.sem.waits) :
    (s.semQueue r n).sem.waits = s.sem.waits ++ [(n, r)] := by
  unfold semQueue
  rw [if_neg (by simpa using h)]

theorem Frame.semSet (n code : Nat) (ps : List Part) : s.Frame (s.semSet n code) [Reg.SEM_OWN_owner (n / 4) (n % 4)] ps :=
  .set _ _ _ _ (.head _)

theorem Frame.semGrant (r : Requester) (n : Nat) (wait : Bool) :
    s.Frame (s.semGrant r n wait) [Reg.SEM_OWN_owner (n / 4) (n % 4)] [.sem] :=
  (Frame.semSet s n (reqCode r) _).trans (.sem _ _ _ (.head _))

theorem Frame.semQueue (r : Requester) (n : Nat) (fs : List Field) : s.Frame (s.semQueue r n) fs [.sem] := by
  unfold Chip.semQueue
  split
  · exact .refl ..
  · exact .sem _ _ _ (.head _)

theorem settle_semOwner (n : Nat) : s.settle.semOwner n = s.semOwner n := settle_get ..

theorem semBest_of_none {n : Nat} (h : ∀ x ∈ s.sem.waits, x.1 ≠ n) : s.semBest n = none := by
  have hf : (s.sem.waits.filter fun w => w.1 = n) = [] := by simpa [List.filter_eq_nil_iff] using h
  rw [semBest, hf]
  rfl

end Chip

variable {s : State} {r : Requester} {n : Fin 32}

/-! ### Requests with no write on its way -/

section
variable (hd : s.chip.pwr.dieReset = false) (hr : s.chip.reqRuns r = true) (hp : s.chip.bus.posted = [])
  (hh : s.chip.bus.held = [])
include hr hp hh

theorem exec_semTake : exec (.semTake r n) s = s.act fun c => c.semAsk r n false :=
  State.act_congr (by simp only [hr, if_true, Chip.drainUnit_of_empty hp hh]; rfl)

theorem exec_semTakeOrWait : exec (.semTakeOrWait r n) s = s.act fun c => c.semAsk r n true :=
  State.act_congr (by simp only [hr, if_true, Chip.drainUnit_of_empty hp hh]; rfl)

theorem exec_semGive : exec (.semGive r n) s = s.act fun c => c.semGive r n :=
  State.act_congr (by simp only [hr, if_true, Chip.drainUnit_of_empty hp hh])

theorem exec_semCancel : exec (.semCancel r n) s = s.act fun c => c.semCancel r n :=
  State.act_congr (by simp only [hr, if_true, Chip.drainUnit_of_empty hp hh])

theorem exec_timNowRead : exec (.timNowRead r) s = s.act fun c => c.timLatch r :=
  State.act_congr (by simp only [hr, if_true, Chip.drainUnit_of_empty hp hh])

end

section
variable {i : Instr} {wait : Bool} (hx : exec i s = s.act fun c => c.semAsk r n wait)
  (hd : s.chip.pwr.dieReset = false)
include hx hd

/-- A request for a free semaphore has it. -/
theorem semAsk_free (hn : s.chip.semOwner n = 0) :
    Completes i s [Reg.SEM_OWN_owner (n / 4) (n % 4)] [.sem] (fun t => t.semOwner n = reqCode r ∧
      t.sem.waits = s.chip.sem.waits) := by
  have hf : s.chip.semAsk r n wait = s.chip.semGrant r n wait := by rw [Chip.semAsk, if_pos hn]
  refine completes_of_act hx hd ?_ ?_ <;> rw [hf]
  · exact .semGrant ..
  · rw [Chip.settle_semOwner, Chip.settle_sem]
    exact ⟨Chip.semOwner_semGrant .., rfl⟩

/-- A request that an earlier one of the tick, of lower rank, has beaten takes the semaphore from it. -/
theorem semAsk_beaten {p : Requester × Bool} (hn : s.chip.semOwner n ≠ 0) (hself : s.chip.semOwner n ≠ reqCode r)
    (hb : s.chip.semBeaten r n = some p) :
    Completes i s [Reg.SEM_OWN_owner (n / 4) (n % 4)] [.sem] (fun t => t.semOwner n = reqCode r ∧
      (p.2 = true → (n.val, p.1) ∈ t.sem.waits)) := by
  have hf : s.chip.semAsk r n wait =
      if p.2 then (s.chip.semGrant r n wait).semQueue p.1 n else s.chip.semGrant r n wait := by
    rw [Chip.semAsk, if_neg hn, if_neg hself, hb]
  refine completes_of_act hx hd ?_ ?_ <;> rw [hf]
  · split
    · exact (Chip.Frame.semGrant ..).trans (.semQueue ..)
    · exact .semGrant ..
  · rw [Chip.settle_semOwner, Chip.settle_sem]
    split
    next h => exact ⟨(Chip.semOwner_semQueue ..).trans (Chip.semOwner_semGrant ..), fun _ => Chip.mem_waits_semQueue ..⟩
    next h => exact ⟨Chip.semOwner_semGrant .., fun h' => absurd h' h⟩

end

section
variable (hd : s.chip.pwr.dieReset = false)
include hd

theorem semTake_busy_completes (hr : s.chip.reqRuns r = true) (hp : s.chip.bus.posted = []) (hh : s.chip.bus.held = [])
    (hn : s.chip.semOwner n ≠ 0) (hb : s.chip.semBeaten r n = none) :
    Completes (.semTake r n) s [] [] (fun _ => True) := by
  refine completes_unchanged (exec_semTake hr hp hh) hd ?_
  rw [Chip.semAsk, if_neg hn, hb]
  exact ite_self _

theorem semTakeOrWait_busy_completes (hr : s.chip.reqRuns r = true) (hp : s.chip.bus.posted = [])
    (hh : s.chip.bus.held = []) (hn : s.chip.semOwner n ≠ 0) (hb : s.chip.semBeaten r n = none)
    (hself : s.chip.semOwner n ≠ reqCode r) (hw : (n.val, r) ∉ s.chip.sem.waits) :
    Completes (.semTakeOrWait r n) s [] [.sem] (fun t => t.sem.waits = s.chip.sem.waits ++ [(n.val, r)]) := by
  have hf : s.chip.semAsk r n true = s.chip.semQueue r n := by
    rw [Chip.semAsk, if_neg hn, if_neg hself, hb]
    rfl
  refine completes_of_act (exec_semTakeOrWait hr hp hh) hd ?_ ?_ <;> rw [hf]
  · exact .semQueue ..
  · rw [Chip.settle_sem]
    exact Chip.waits_semQueue_of_not_mem _ hw

theorem semGive_free_completes (hr : s.chip.reqRuns r = true) (hp : s.chip.bus.posted = []) (hh : s.chip.bus.held = [])
    (hn : s.chip.semOwner n ≠ 0) (hself : s.chip.semOwner n = reqCode r) (hw : ∀ x ∈ s.chip.sem.waits, x.1 ≠ n.val) :
    Completes (.semGive r n) s [Reg.SEM_OWN_owner (n / 4) (n % 4)] [] (fun t => t.semOwner n = 0) := by
  have hf : s.chip.semGive r n = s.chip.semSet n 0 := by
    rw [Chip.semGive, if_pos (by simpa [hself] using hself ▸ hn), Chip.semRelease, Chip.semBest_of_none _ hw]
  refine completes_of_act (exec_semGive hr hp hh) hd ?_ ?_ <;> rw [hf]
  · exact .semSet ..
  · rw [Chip.settle_semOwner]
    exact Chip.semOwner_semSet _ _ (by decide)

theorem semGive_host_completes (hr : s.chip.reqRuns r = true) (hp : s.chip.bus.posted = []) (hh : s.chip.bus.held = [])
    (hn : s.chip.semOwner n ≠ 0) (hself : s.chip.semOwner n = reqCode r) (hw : s.chip.sem.waits = [(n.val, .host)]) :
    Completes (.semGive r n) s [Reg.SEM_OWN_owner (n / 4) (n % 4)] [.sem] (fun t => t.semOwner n = 40 ∧ t.sem.waits = []) := by
  have hbest : s.chip.semBest n = some .host := by simp [Chip.semBest, hw]
  have hf : s.chip.semGive r n = { s.chip.semSet n 40 with sem := { s.chip.sem with waits := [] } } := by
    rw [Chip.semGive, if_pos (by simpa [hself] using hself ▸ hn), Chip.semRelease, hbest]
    simp [reqCode, hw, Chip.semSet]
  refine completes_of_act (exec_semGive hr hp hh) hd ?_ ?_ <;> rw [hf]
  · exact (Chip.Frame.semSet ..).trans (.sem _ _ _ (.head _))
  · rw [Chip.settle_semOwner, Chip.settle_sem]
    exact ⟨Chip.semOwner_semSet _ _ (code := 40) (by decide), rfl⟩

theorem semGive_bad_completes (hr : s.chip.reqRuns r = true) (hp : s.chip.bus.posted = []) (hh : s.chip.bus.held = [])
    (hself : s.chip.semOwner n ≠ reqCode r) :
    Completes (.semGive r n) s [Reg.MEM_FLAGS_sem_bad] [.log] (fun t => t.get Reg.MEM_FLAGS_sem_bad = 1 ∧
      t.log.seq = (s.chip.log.seq + 1) % 65536) := by
  have hf : s.chip.semGive r n = (s.chip.put Reg.MEM_FLAGS_sem_bad true).note 0x0916 0 (n + 256 * reqCode r) := by
    rw [Chip.semGive, if_neg (by simp [hself])]
  refine completes_of_act (exec_semGive hr hp hh) hd ?_ ?_ <;> rw [hf]
  · exact (Chip.Frame.put _ _ _ _ (.head _)).trans (.note _ _ _ _ (.head _) (by decide) (by decide))
  · rw [Chip.settle_get, Chip.settle_log, Chip.get_note _ (by decide) (by decide)]
    exact ⟨Chip.get_put_self _ _ _ (by decide), Chip.record_seq ..⟩

theorem semCancel_completes (hr : s.chip.reqRuns r = true) (hp : s.chip.bus.posted = []) (hh : s.chip.bus.held = []) :
    Completes (.semCancel r n) s [] [.sem] (fun t => (n.val, r) ∉ t.sem.waits ∧
      ∀ x ∈ s.chip.sem.waits, x ≠ (n.val, r) → x ∈ t.sem.waits) := by
  refine completes_of_act (exec_semCancel hr hp hh) hd (.sem _ _ _ (.head _)) ?_
  rw [Chip.settle_sem]
  refine ⟨by simp [Chip.semCancel], fun x hx hne => ?_⟩
  have hxn : x.1 = n.val → x.2 ≠ r := fun h1 h2 => hne (Prod.ext h1 h2)
  simpa [Chip.semCancel, hx, imp_iff_not_or] using hxn

theorem eccInject_completes (d : Word) :
    Completes (.eccInject d) s [Reg.MEM_ECC_INJ_bits, Reg.MEM_ECC_INJ_mem, Reg.MEM_ECC_INJ_arm] [] (fun t =>
      t.get Reg.MEM_ECC_INJ_bits = part d.toNat 4 2 ∧ t.get Reg.MEM_ECC_INJ_mem = part d.toNat 0 3 ∧
      t.on Reg.MEM_ECC_INJ_arm = (s.chip.on Reg.MEM_ECC_INJ_arm || hasBit d.toNat 8)) := by
  have hbits : part d.toNat 4 2 % 2 ^ 2 = part d.toNat 4 2 := Nat.mod_eq_of_lt (part_lt ..)
  have hmem : part d.toNat 0 3 % 2 ^ 3 = part d.toNat 0 3 := Nat.mod_eq_of_lt (part_lt ..)
  refine completes_of_act (f := fun c => c.injWrite d.toNat) rfl hd ?_ ?_
  · unfold Chip.injWrite
    refine Chip.Frame.trans (.sets [(Reg.MEM_ECC_INJ_bits, part d.toNat 4 2), (Reg.MEM_ECC_INJ_mem, part d.toNat 0 3)] _ _ (by simp)) ?_
    split
    · exact .put _ _ _ _ (by simp)
    · exact .refl ..
  · simp only [Chip.on_eq, Chip.settle_get, Chip.injWrite, Chip.sets, List.foldl]
    split
    next h =>
      rw [Chip.get_put_other _ (by decide), Chip.get_put_other _ (by decide), Chip.get_put_self _ _ _ (by decide),
        Chip.get_set_self, Chip.get_set_other _ (by decide), Chip.get_set_self, h]
      exact ⟨hbits, hmem, by simp [b2n]⟩
    next h =>
      rw [Chip.get_set_other _ (by decide), Chip.get_set_self, Chip.get_set_self, Chip.get_set_other _ (by decide),
        Chip.get_set_other _ (by decide)]
      exact ⟨hbits, hmem, by simp [h]⟩

end

end Sys2Proof.Machine
end

section
/-! SUPPORT. The interrupt controller as a command's outcome settles (R534 to R540), and the routes, the harts' own sources and watchdogs:
what O55 says of them. -/

namespace Sys2Proof.Machine

/-! ### Walks over a list -/

theorem forEach_preserves {α σ : Type} {P : σ → Prop} {f : α → σ → σ} :
    ∀ {l : List α} {s : σ}, (∀ a ∈ l, ∀ t, P t → P (f a t)) → P s → P (forEach l f s)
  | [], _, _, hs => hs
  | a :: l, s, hf, hs =>
    forEach_preserves (l := l) (s := f a s) (fun b hb => hf b (.tail _ hb)) (hf a (.head _) s hs)

/-- What one element of a list establishes and the others preserve stands at the end. -/
theorem forEach_establishes {α σ : Type} {P : σ → Prop} {f : α → σ → σ} {a : α} :
    ∀ {l : List α} {s : σ}, a ∈ l → (∀ t, P (f a t)) → (∀ b ∈ l, ∀ t, P t → P (f b t)) → P (forEach l f s)
  | b :: l, s, h, ha, hf => by
    rcases List.mem_cons.1 h with rfl | h
    · exact forEach_preserves (l := l) (s := f a s) (fun c hc => hf c (.tail _ hc)) (ha s)
    · exact forEach_establishes (l := l) (s := f b s) h ha fun c hc => hf c (.tail _ hc)

/-! ### Masks -/

/-- The mask of the places below `n` that have a property. -/
def bitMask (p : Nat → Bool) (n : Nat) : Nat := (List.range n).foldl (fun w i => if p i then w + 2 ^ i else w) 0

theorem bitMask_succ (p : Nat → Bool) (n : Nat) : bitMask p (n + 1) = if p n then bitMask p n + 2 ^ n else bitMask p n := by
  rw [bitMask, List.range_succ, List.foldl_append]
  rfl

theorem bitMask_lt (p : Nat → Bool) : ∀ n, bitMask p n < 2 ^ n
  | 0 => Nat.one_pos
  | n + 1 => by
    have := bitMask_lt p n
    rw [bitMask_succ, Nat.pow_succ]
    split <;> omega

theorem testBit_bitMask (p : Nat → Bool) (j : Nat) : ∀ n, (bitMask p n).testBit j = (decide (j < n) && p j)
  | 0 => by simp [bitMask]
  | n + 1 => by
    have hlt := bitMask_lt p n
    have ih := testBit_bitMask p j n
    rw [bitMask_succ]
    rcases Nat.lt_trichotomy j n with h | h | h
    · split
      · rw [Nat.add_comm, Nat.testBit_two_pow_add_gt h, ih]
        simp [h, Nat.lt_succ_of_lt h]
      · rw [ih]
        simp [h, Nat.lt_succ_of_lt h]
    · subst h
      split
      next hp => rw [Nat.add_comm, Nat.testBit_two_pow_add_eq, Nat.testBit_lt_two_pow hlt]; simp [hp]
      next hp => rw [Nat.testBit_lt_two_pow hlt]; simp [hp]
    · have hle : 2 ^ (n + 1) ≤ 2 ^ j := Nat.pow_le_pow_right (by decide) h
      have hpow : 2 ^ (n + 1) = 2 ^ n + 2 ^ n := by rw [Nat.pow_succ]; omega
      have hj : ¬ j < n + 1 := by omega
      split <;> rw [Nat.testBit_lt_two_pow (by omega)] <;> simp [hj]

theorem hasBit_bitMask (p : Nat → Bool) (n j : Nat) : hasBit (bitMask p n) j = (decide (j < n) && p j) := by
  rw [hasBit_eq_testBit, testBit_bitMask]

namespace Chip

variable (s : Chip)

/-! ### Settling, step by step -/

/-- A latched pending bit that settling keeps: of an edge source, or of a sticky one whose level may stand (R536). -/
def kept (n : Nat) : Bool :=
  (edgeSource n && hasBit s.irq.latch n)
    || (!edgeSource n && s.routeSticky n && (hasBit s.irq.latch n || hasBit s.levels n))

/-- The controller once the levels have been seen. -/
def seen : Chip := { s with irq := { s.irq with prev := s.levels, latch := bitMask s.kept 128 } }

/-- The sources whose level has risen since it was last seen. -/
def risen : List Nat := (List.range 128).filter fun n => hasBit s.levels n && !hasBit s.irq.prev n

/-- The groups of every hart settle. -/
def settleGroups : Chip :=
  forEach (List.range 4) (fun c t => forEach [1, 2, 3] (fun g u => u.settleGroup c g) t) s

theorem settle_eq : s.settle =
    forEach (List.range 4) (fun c t => t.settleLine c) (settleGroups (forEach s.risen (fun n t => t.moderate n) s.seen)) :=
  rfl

/-- Two controllers hold the same latched bits and timer words. -/
def SameLatch (c d : Chip) : Prop := c.irq.latch = d.irq.latch ∧ c.irq.hiLatch = d.irq.hiLatch

theorem SameLatch.trans {a b c : Chip} (h : a.SameLatch b) (k : b.SameLatch c) : a.SameLatch c :=
  ⟨h.1.trans k.1, h.2.trans k.2⟩

theorem moderate_sameLatch (n : Nat) : (s.moderate n).SameLatch s := by
  unfold moderate
  split <;> exact ⟨rfl, rfl⟩

theorem settleGroup_sameLatch (c g : Nat) : (s.settleGroup c g).SameLatch s := by
  unfold settleGroup
  extract_lets
  split <;> exact ⟨rfl, rfl⟩

theorem settleLine_sameLatch (c : Nat) : (s.settleLine c).SameLatch s := by
  unfold settleLine
  extract_lets
  split <;> exact ⟨rfl, rfl⟩

theorem forEach_sameLatch {α : Type} {f : α → Chip → Chip} (hf : ∀ a t, (f a t).SameLatch t) (l : List α) (t : Chip) :
    (forEach l f t).SameLatch t :=
  forEach_induct (fun _ => ⟨rfl, rfl⟩) (fun _ _ _ => .trans) f hf l t

/-- After the levels are seen, settling changes no latched bit. -/
theorem settle_sameLatch : s.settle.SameLatch s.seen := by
  rw [settle_eq]
  refine (forEach_sameLatch (fun c t => t.settleLine_sameLatch c) _ _).trans ?_
  refine SameLatch.trans (forEach_sameLatch (fun c t => forEach_sameLatch (fun g u => u.settleGroup_sameLatch c g) _ t) _ _) ?_
  exact forEach_sameLatch (fun n t => t.moderate_sameLatch n) _ _

theorem hasBit_settle_latch {n : Nat} (h : n < 128) : hasBit s.settle.irq.latch n = s.kept n := by
  rw [s.settle_sameLatch.1]
  simp [seen, hasBit_bitMask, h]

theorem settle_hiLatch : s.settle.irq.hiLatch = s.irq.hiLatch := s.settle_sameLatch.2

/-! ### The group of a pending source stays released -/

/-- A source of group g of hart k is pending. -/
def groupPends (k g : Nat) : Bool := (s.pendFor k).any fun n => s.routeGroup n == g

/-- Group g of hart k has a pending source and has released. -/
def GroupOut (k g : Nat) (t : Chip) : Prop := t.irq.groups.length = 12 ∧ t.groupPends k g = true ∧ (t.group k g).released = true

theorem nth_updNth_ne {α : Type} [Inhabited α] (f : α → α) :
    ∀ {n m : Nat} {l : List α}, n ≠ m → nth (updNth f m l) n = nth l n
  | _, 0, [], _ => rfl
  | _, _ + 1, [], _ => rfl
  | 0, 0, _ :: _, h => absurd rfl h
  | 0, _ + 1, _ :: _, _ => rfl
  | _ + 1, 0, _ :: _, _ => rfl
  | n + 1, m + 1, _ :: l, h => nth_updNth_ne f (n := n) (m := m) (l := l) fun e => h (congrArg _ e)

variable {s}

theorem groupOut_settleGroup {k g c h : Nat} (hk : k < 4) (hg : 1 ≤ g ∧ g ≤ 3) (hh : 1 ≤ h ∧ h ≤ 3) (hs : GroupOut k g s) :
    GroupOut k g (s.settleGroup c h) := by
  obtain ⟨hlen, hany, hrel⟩ := hs
  unfold settleGroup
  extract_lets m limit any
  split
  next =>
    refine ⟨(updNth_length _ _ _).trans hlen, hany, ?_⟩
    by_cases he : c = k ∧ h = g
    · obtain ⟨rfl, rfl⟩ := he
      have hin : 3 * c + h - 1 < s.irq.groups.length := by omega
      have hany' : any = true := hany
      rw [group, modGroup, nth_updNth_self _ hin, hany']
      rfl
    · rw [group, modGroup, nth_updNth_ne _ (by omega)]
      exact hrel
  next => exact ⟨hlen, hany, hrel⟩

theorem groupOut_settleLine {k g c : Nat} (hs : GroupOut k g s) : GroupOut k g (s.settleLine c) := by
  unfold settleLine
  extract_lets
  split <;> exact hs

theorem risen_of_levelsSeen (h : s.levelsSeen) : s.risen = [] := by
  rw [risen, show s.irq.prev = s.levels from h, List.filter_eq_nil_iff]
  simp

theorem pend_seen (h : s.levelsSeen) {n : Nat} (hn : n < 128) (hp : s.pend n = true) : s.seen.pend n = true := by
  have hk : s.seen.pend n = if edgeSource n || s.routeSticky n then hasBit (bitMask s.kept 128) n else hasBit s.levels n := rfl
  rw [hk, hasBit_bitMask]
  rw [pend, show s.irq.prev = s.levels from h] at hp
  unfold kept
  cases he : edgeSource n <;> cases hr : s.routeSticky n <;> simp_all

theorem groupPends_seen (h : s.levelsSeen) {k g : Nat} (hp : s.groupPends k g = true) : s.seen.groupPends k g = true := by
  obtain ⟨n, hn, hg⟩ := List.any_eq_true.1 hp
  obtain ⟨hr, hsel⟩ := List.mem_filter.1 hn
  simp only [Bool.and_eq_true] at hsel
  obtain ⟨⟨hpend, hen⟩, hhart⟩ := hsel
  refine List.any_eq_true.2 ⟨n, List.mem_filter.2 ⟨hr, ?_⟩, hg⟩
  rw [pend_seen h (List.mem_range.1 hr) hpend]
  exact Bool.and_eq_true_iff.2 ⟨hen, hhart⟩

/-- A group that has released with a source pending is still released once the outcome has settled. -/
theorem groupOut_settle {k g : Nat} (hk : k < 4) (hg : 1 ≤ g ∧ g ≤ 3) (h : s.levelsSeen) (hs : GroupOut k g s) :
    GroupOut k g s.settle := by
  obtain ⟨hlen, hany, hrel⟩ := hs
  rw [settle_eq, risen_of_levelsSeen h]
  refine forEach_preserves (fun c _ t ht => groupOut_settleLine ht) ?_
  refine forEach_preserves (fun c _ t ht => forEach_preserves (fun h hh u hu => groupOut_settleGroup hk hg ?_ hu) ht) ?_
  · simp only [List.mem_cons, List.not_mem_nil, or_false] at hh
    omega
  · exact ⟨hlen, groupPends_seen h hany, hrel⟩

end Chip

end Sys2Proof.Machine
end

section
/-! SUPPORT. Routes, the harts' own sources, watchdogs and the controller's commands; O55 assembled. -/

namespace Sys2Proof.Machine

namespace Chip

variable {s : Chip}

/-! ### Routes -/

/-- A source whose route no write changes: a fixed one, or a number that no source has. -/
def routeShut (n : Nat) : Bool := fixedRoute n || (78 ≤ n && n ≤ 95)

/-- Byte b of a word of routes is written. -/
def routeByteSet (w d b : Nat) (t : Chip) : Chip :=
  if routeShut (4 * w + b) then t
  else
    let t := if t.pend (4 * w + b) then
        { t with irq := { t.irq with routes := insertAt (4 * w + b) (t.route (4 * w + b)) t.irq.routes } } else t
    t.sets [(Reg.IRQ_ROUTE_en w b, bitOf d (8 * b + 7)), (Reg.IRQ_ROUTE_sticky w b, bitOf d (8 * b + 6)),
      (Reg.IRQ_ROUTE_group w b, part d (8 * b + 4) 2), (Reg.IRQ_ROUTE_target w b, part d (8 * b) 2)]

theorem routeWrite_eq (s : Chip) (w d : Nat) : s.routeWrite w d = forEach (List.range 4) (routeByteSet w d) s := by
  unfold routeWrite
  congr 1

theorem forEach_range_four {σ : Type} (f : Nat → σ → σ) (x : σ) : forEach (List.range 4) f x = f 3 (f 2 (f 1 (f 0 x))) := rfl

/-- The fields of one route. -/
def routeFields (w b : Nat) : List Field :=
  [Reg.IRQ_ROUTE_en w b, Reg.IRQ_ROUTE_sticky w b, Reg.IRQ_ROUTE_group w b, Reg.IRQ_ROUTE_target w b]

theorem routeByteSet_frame (t : Chip) (w d b : Nat) : t.Frame (routeByteSet w d b t) (routeFields w b) [] := by
  unfold routeByteSet
  split
  · exact .refl ..
  · refine Frame.trans ?_ (.sets _ _ _ (by simp [routeFields]))
    split
    · exact .irq ..
    · exact .refl ..

theorem routeByteSet_other {w d b j : Nat} (h : j ≠ b) (t : Chip) :
    (routeByteSet w d b t).get (Reg.IRQ_ROUTE_target w j) = t.get (Reg.IRQ_ROUTE_target w j) ∧
    (routeByteSet w d b t).get (Reg.IRQ_ROUTE_en w j) = t.get (Reg.IRQ_ROUTE_en w j) := by
  constructor <;> refine (routeByteSet_frame t w d b).1 _ fun g hg => ?_ <;>
    simp only [routeFields, List.mem_cons, List.not_mem_nil, or_false] at hg <;>
    rcases hg with rfl | rfl | rfl | rfl <;> simp only [Field.key, Reg.IRQ_ROUTE_target, Reg.IRQ_ROUTE_en,
      Reg.IRQ_ROUTE_sticky, Reg.IRQ_ROUTE_group] <;> omega

theorem routeByteSet_self (w d b : Nat) (t : Chip) :
    (routeByteSet w d b t).get (Reg.IRQ_ROUTE_target w b) =
      (if routeShut (4 * w + b) then t.get (Reg.IRQ_ROUTE_target w b) else part d (8 * b) 2) ∧
    (routeShut (4 * w + b) = false → (routeByteSet w d b t).get (Reg.IRQ_ROUTE_en w b) = bitOf d (8 * b + 7)) := by
  unfold routeByteSet
  split
  next h => exact ⟨rfl, fun h' => absurd h (by simp [h'])⟩
  next h =>
    simp only [sets, List.foldl]
    refine ⟨?_, fun _ => ?_⟩
    · rw [get_set_self]
      exact Nat.mod_eq_of_lt (part_lt ..)
    · have key : ∀ f ∈ [Reg.IRQ_ROUTE_sticky w b, Reg.IRQ_ROUTE_group w b, Reg.IRQ_ROUTE_target w b],
          (Reg.IRQ_ROUTE_en w b).key ≠ f.key := by
        simp only [List.forall_mem_cons, List.not_mem_nil, false_imp_iff, implies_true, and_true, Field.key,
          Reg.IRQ_ROUTE_target, Reg.IRQ_ROUTE_en, Reg.IRQ_ROUTE_sticky, Reg.IRQ_ROUTE_group]
        omega
      rw [get_set_other _ (key _ (by simp)), get_set_other _ (key _ (by simp)), get_set_other _ (key _ (by simp)),
        get_set_self]
      exact Nat.mod_eq_of_lt (Nat.mod_lt _ (by decide))

/-- A write of a word of routes sets each route that is open, and that alone. -/
theorem routeWrite_route (s : Chip) (w d : Nat) (j : Fin 4) :
    (s.routeWrite w d).get (Reg.IRQ_ROUTE_target w j) =
      (if routeShut (4 * w + j) then s.get (Reg.IRQ_ROUTE_target w j) else part d (8 * j) 2) ∧
    (routeShut (4 * w + j) = false → (s.routeWrite w d).get (Reg.IRQ_ROUTE_en w j) = bitOf d (8 * j + 7)) := by
  have hself := routeByteSet_self w d j
  have htarget : ∀ b t, j.val ≠ b → (routeByteSet w d b t).get (Reg.IRQ_ROUTE_target w j) = t.get (Reg.IRQ_ROUTE_target w j) :=
    fun b t h => (routeByteSet_other h t).1
  have hen : ∀ b t, j.val ≠ b → (routeByteSet w d b t).get (Reg.IRQ_ROUTE_en w j) = t.get (Reg.IRQ_ROUTE_en w j) :=
    fun b t h => (routeByteSet_other h t).2
  rw [routeWrite_eq, forEach_range_four]
  match j with
  | 0 =>
    rw [htarget 3 _ (by decide), htarget 2 _ (by decide), htarget 1 _ (by decide), hen 3 _ (by decide),
      hen 2 _ (by decide), hen 1 _ (by decide)]
    exact hself _
  | 1 =>
    rw [htarget 3 _ (by decide), htarget 2 _ (by decide), hen 3 _ (by decide), hen 2 _ (by decide),
      ← htarget 0 s (by decide)]
    exact hself _
  | 2 =>
    have h2 := hself (routeByteSet w d 1 (routeByteSet w d 0 s))
    rw [htarget 1 _ (by decide), htarget 0 _ (by decide)] at h2
    rw [htarget 3 _ (by decide), hen 3 _ (by decide)]
    exact h2
  | 3 =>
    have h3 := hself (routeByteSet w d 2 (routeByteSet w d 1 (routeByteSet w d 0 s)))
    rw [htarget 2 _ (by decide), htarget 1 _ (by decide), htarget 0 _ (by decide)] at h3
    exact h3

theorem routeWrite_frame (s : Chip) (w d : Nat) :
    s.Frame (s.routeWrite w d) ((List.range 4).flatMap (routeFields w)) [] := by
  have hb : ∀ (b : Nat) (t : Chip), b < 4 → t.Frame (routeByteSet w d b t) ((List.range 4).flatMap (routeFields w)) [] :=
    fun b t h => (routeByteSet_frame t w d b).mono
      (fun f hf => List.mem_flatMap.2 ⟨b, List.mem_range.2 h, hf⟩) (fun _ => id)
  rw [routeWrite_eq, forEach_range_four]
  exact (((hb 0 _ (by decide)).trans (hb 1 _ (by decide))).trans (hb 2 _ (by decide))).trans (hb 3 _ (by decide))

/-! ### Sources of a hart of its own -/

theorem hartOf_of_isHart {k : Nat} (h : s.isHart k = true) : s.hartOf k = k := by simpa [isHart] using h

theorem hasBit_privateSrc_self (c : Nat) {j : Nat} (h : j < 16) :
    hasBit ((s.privateSrc c j).get (Reg.IRQ_C_PRIV_pend (s.hartOf c))) j = true := by
  rw [privateSrc, hasBit_setBitOf _ _ _ h]
  simp

/-- A source of a hart's own that is set stays set while another is set. -/
theorem hasBit_privateSrc_mono (c j h : Nat) {i : Nat} (hi : i < 16)
    (hs : hasBit (s.get (Reg.IRQ_C_PRIV_pend h)) i = true) :
    hasBit ((s.privateSrc c j).get (Reg.IRQ_C_PRIV_pend h)) i = true := by
  by_cases hk : h = s.hartOf c
  · subst hk
    rw [privateSrc, hasBit_setBitOf _ _ _ hi, hs]
    rfl
  · rw [privateSrc, get_setBitOf_other]
    · exact hs
    · simp only [Field.key, Reg.IRQ_C_PRIV_pend]
      omega

theorem Frame.privateSrc (s : Chip) (c j : Nat) (ps : List Part) :
    s.Frame (s.privateSrc c j) [Reg.IRQ_C_PRIV_pend (s.hartOf c)] ps := .setBitOf _ _ _ _ (.head _)

theorem isHart_congr {t : Chip} (h : t.rgn = s.rgn) (c : Nat) : t.isHart c = s.isHart c := by
  unfold isHart hartOf locked region
  rw [h]

/-- Bit i of a written IRQ_SWI. -/
def swiBit (d i : Nat) (t : Chip) : Chip := if hasBit d i && t.isHart (i / 4) then t.privateSrc (i / 4) (i % 4) else t

theorem isHart_swiBit (d i c : Nat) (t : Chip) : (swiBit d i t).isHart c = t.isHart c := by
  unfold swiBit
  split
  · exact isHart_congr rfl c
  · rfl

/-- Every hart's bit of a written IRQ_SWI sets its own source (R533). -/
theorem swiWrite_sets (s : Chip) {d : Nat} {i : Fin 16} (hd : hasBit d i = true) (hh : s.isHart (i / 4) = true) :
    hasBit ((s.swiWrite d).get (Reg.IRQ_C_PRIV_pend (i / 4))) (i % 4) = true := by
  have hi : i.val % 4 < 16 := by omega
  have hend : (s.swiWrite d).isHart (i / 4) = true →
      hasBit ((s.swiWrite d).get (Reg.IRQ_C_PRIV_pend (i / 4))) (i % 4) = true := by
    refine forEach_establishes (f := swiBit d)
      (P := fun t : Chip => t.isHart (i / 4) = true → hasBit (t.get (Reg.IRQ_C_PRIV_pend (i / 4))) (i % 4) = true)
      (List.mem_range.2 i.isLt) (fun t ht => ?_) (fun b _ t ih ht => ?_)
    · rw [isHart_swiBit] at ht
      rw [swiBit, if_pos (by rw [hd, ht]; rfl)]
      simpa only [hartOf_of_isHart ht] using hasBit_privateSrc_self (s := t) (i / 4) hi
    · rw [isHart_swiBit] at ht
      unfold swiBit
      split
      · exact hasBit_privateSrc_mono _ _ _ hi (ih ht)
      · exact ih ht
  refine hend ((isHart_congr ?_ _).trans hh)
  exact (swiWrite_inside (M := 2) (by rfl) (.refl _ _)).rgn rfl

/-! ### Watchdogs -/

theorem part_kick (b : Nat) (hb : b ≤ 1) (rd : Fin 32) :
    part (BitVec.ofNat 32 (0x3C5A0000 + b + 256 * rd.val)).toNat 16 16 = 0x3C5A ∧
    part (BitVec.ofNat 32 (0x3C5A0000 + b + 256 * rd.val)).toNat 8 8 = rd.val ∧
    bitOf (BitVec.ofNat 32 (0x3C5A0000 + b + 256 * rd.val)).toNat 0 = b := by
  rw [BitVec.toNat_ofNat]
  simp only [part, bitOf]
  omega

/-- A hart's watchdog counts from now. -/
def kicked (s : Chip) (k : Nat) : Chip := s.modHart k fun h => { h with wdtWarned := false, wdtAt := s.now }

theorem wdtWrite_of_running {k d : Nat} (hh : s.isHart k = true) (hkey : part d 16 16 = 0x3C5A)
    (hrun : s.on (Reg.WDT_C_run k) = true) : s.wdtWrite k d = s.kicked k := by
  have hrun' : (s.kicked k).on (Reg.WDT_C_run k) = true := hrun
  rw [wdtWrite, if_neg (by simp [hh, hkey])]
  exact if_pos hrun'

theorem wdtWrite_of_stopped {k d : Nat} (hh : s.isHart k = true) (hkey : part d 16 16 = 0x3C5A)
    (hrun : s.on (Reg.WDT_C_run k) = false) : s.wdtWrite k d = (s.kicked k).sets
      [(Reg.WDT_C_tmo k, part d 8 8), (Reg.WDT_C_en k, bitOf d 0), (Reg.WDT_C_run k, bitOf d 0)] := by
  have hrun' : (s.kicked k).on (Reg.WDT_C_run k) = false := hrun
  rw [wdtWrite, if_neg (by simp [hh, hkey])]
  exact if_neg (Bool.eq_false_iff.1 hrun')

theorem wdtWrite_of_not {k d : Nat} (h : s.isHart k = false ∨ part d 16 16 ≠ 0x3C5A) : s.wdtWrite k d = s := by
  rw [wdtWrite, if_pos (by simpa using h)]

end Chip

variable {s : State} {k : Fin 4}

/-! ### The commands -/

section
variable (hd : s.chip.pwr.dieReset = false)
include hd

theorem timerCompare_completes (hh : s.chip.isHart k = true) (hr : (s.chip.region (k.val / 2)).inReset = false)
    (hc : s.chip.stamp = s.chip.get (Reg.TIM_C_CMP1_cmp k)) :
    Completes (.timerCompare k 1) s [Reg.IRQ_C_PRIV_pend k] [] (fun t =>
      hasBit (t.get (Reg.IRQ_C_PRIV_pend k)) 5 = true) := by
  have hk := Chip.hartOf_of_isHart hh
  have hx : exec (.timerCompare k 1) s = s.act fun c => c.privateSrc k 5 := State.act_congr (by
    have h1 : ¬ (1 : Fin 2).val = 0 := by decide
    simp only [if_neg h1, hh, hr, hc, Bool.not_false, Bool.and_self, beq_self_eq_true, if_true]
    rfl)
  refine completes_of_act hx hd ?_ ?_
  · simpa only [hk] using Chip.Frame.privateSrc s.chip k 5 []
  · rw [Chip.settle_get]
    simpa only [hk] using Chip.hasBit_privateSrc_self (s := s.chip) k (j := 5) (by decide)

theorem timerCompare_unmatched_completes (hc : s.chip.stamp ≠ s.chip.get (Reg.TIM_C_CMP0_cmp k)) :
    Completes (.timerCompare k 0) s [] [] (fun _ => True) :=
  completes_unchanged rfl hd (if_neg (by simpa using fun _ _ => hc))

theorem timerCompare_no_hart_completes (hh : s.chip.isHart k = false) :
    Completes (.timerCompare k 0) s [] [] (fun _ => True) :=
  completes_unchanged rfl hd (if_neg (by simp [hh]))

theorem watchdogKick_no_effect_completes {d : Word} (h : s.chip.isHart k = false ∨ part d.toNat 16 16 ≠ 0x3C5A) :
    Completes (.watchdogKick k d) s [] [] (fun _ => True) :=
  completes_unchanged rfl hd (Chip.wdtWrite_of_not h)

theorem watchdogKick_start_completes (hh : s.chip.isHart k = true)
    (hrun : s.chip.on (Reg.WDT_C_run k) = false) (rd : Fin 32) :
    Completes (.watchdogKick k (BitVec.ofNat 32 (0x3C5A0001 + 256 * rd.val))) s
      [Reg.WDT_C_tmo k, Reg.WDT_C_en k, Reg.WDT_C_run k] [.hart] (fun t => t.get (Reg.WDT_C_run k) = 1 ∧
      t.get (Reg.WDT_C_tmo k) = rd.val ∧ t.get (Reg.WDT_C_en k) = 1) := by
  obtain ⟨hkey, htmo, hen⟩ := Chip.part_kick 1 le_rfl rd
  have hf := Chip.wdtWrite_of_stopped hh hkey hrun
  rw [htmo, hen] at hf
  refine completes_of_act (f := fun c => c.wdtWrite k (BitVec.ofNat 32 (0x3C5A0001 + 256 * rd.val)).toNat) rfl hd ?_ ?_ <;>
    rw [hf]
  · exact (Chip.Frame.modHart _ _ _ _ (.head _)).trans (.sets _ _ _ (by simp))
  · have hne : (Reg.WDT_C_tmo k).key ≠ (Reg.WDT_C_en k).key ∧ (Reg.WDT_C_tmo k).key ≠ (Reg.WDT_C_run k).key ∧
        (Reg.WDT_C_en k).key ≠ (Reg.WDT_C_run k).key := by
      simp only [Field.key, Reg.WDT_C_tmo, Reg.WDT_C_en, Reg.WDT_C_run]
      omega
    simp only [Chip.settle_get, Chip.sets, List.foldl]
    rw [Chip.get_set_self, Chip.get_set_other _ hne.2.1, Chip.get_set_other _ hne.1, Chip.get_set_self,
      Chip.get_set_other _ hne.2.2, Chip.get_set_self]
    exact ⟨rfl, Nat.mod_eq_of_lt (rd.isLt.trans (show 32 < 2 ^ 8 by decide)), rfl⟩

theorem watchdogKick_running_completes (hs : s.chip.Shaped) (hh : s.chip.isHart k = true)
    (hrun : s.chip.on (Reg.WDT_C_run k) = true) (rd : Fin 32) :
    Completes (.watchdogKick k (BitVec.ofNat 32 (0x3C5A0000 + 256 * rd.val))) s [] [.hart] (fun t =>
      (nth t.hart k).wdtWarned = false) := by
  obtain ⟨hkey, -, -⟩ := Chip.part_kick 0 (Nat.zero_le _) rd
  have hf := Chip.wdtWrite_of_running hh hkey hrun
  refine completes_of_act (f := fun c => c.wdtWrite k (BitVec.ofNat 32 (0x3C5A0000 + 256 * rd.val)).toNat) rfl hd ?_ ?_ <;>
    rw [hf, Chip.kicked]
  · exact .modHart _ _ _ _ (.head _)
  · rw [Chip.settle_hart_wdtWarned, Chip.modHart_hart_self (hs.hart_lt k)]

theorem wdtWarn_touches (hs : s.chip.Shaped) (hrun : s.chip.on (Reg.WDT_C_run k) = true)
    (hw : (nth s.chip.hart k).wdtWarned = false) (hp : s.chip.wdtPast k 1 = true) :
    Touches (.wdtWarn k) s [.regs, .hart] (fun t => (nth t.hart k).wdtWarned = true ∧
      hasBit (t.get (Reg.IRQ_C_PRIV_pend (s.chip.hartOf k))) 6 = true) := by
  have hx : exec (.wdtWarn k) s = s.act fun c => (c.modHart k fun h => { h with wdtWarned := true }).privateSrc k 6 :=
    State.act_congr (if_pos (by simp [hrun, hw, hp]))
  refine touches_of_act hx hd (Chip.privateSrc_inside (by rfl) (Chip.modHart_inside (by rfl) (.refl _ _))) ?_
  rw [Chip.settle_hart_wdtWarned, Chip.settle_get]
  refine ⟨?_, Chip.hasBit_privateSrc_self k (by decide)⟩
  exact congrArg HartS.wdtWarned (Chip.modHart_hart_self (hs.hart_lt k) _)

theorem coreWdt_touches (hs : s.chip.Shaped) (hrun : s.chip.on (Reg.WDT_C_run k) = true) (hp : s.chip.wdtPast k 2 = true) :
    Touches (.coreWdt k) s [.regs, .mem, .ecc, .free, .fab, .log, .bus, .pwr, .rgn, .cl, .adc, .pos, .cle, .slice, .isl,
      .safe, .chm, .hart, .sem, .memS, .hw] (fun t => (t.region (k.val / 2)).inReset = true) := by
  have hx : exec (.coreWdt k) s = s.act fun c => c.halt (k / 2) 0x0914 k k :=
    State.act_congr (if_pos (by simp [hrun, hp]))
  have hlt : k.val / 2 < s.chip.rgn.length := by rw [hs.rgn]; omega
  refine touches_of_act hx hd (Chip.halt_inside (by rfl) (.refl _ _)) ?_
  rw [Chip.region, Chip.settle_rgn, Chip.halt_rgn, nth_updNth_self _ hlt]

theorem wdt_no_effect_completes (h : s.chip.on (Reg.WDT_C_run k) = false ∨
      s.chip.wdtPast k 1 = false ∧ s.chip.wdtPast k 2 = false) :
    Completes (.wdtWarn k) s [] [] (fun _ => True) ∧ Completes (.coreWdt k) s [] [] (fun _ => True) := by
  rcases h with h | ⟨h1, h2⟩
  · exact ⟨completes_unchanged rfl hd (if_neg (by simp [h])), completes_unchanged rfl hd (if_neg (by simp [h]))⟩
  · exact ⟨completes_unchanged rfl hd (if_neg (by simp [h1])), completes_unchanged rfl hd (if_neg (by simp [h2]))⟩

theorem irqRouteWrite_completes (n : Fin 32) (d : Word) (j : Fin 4) :
    Completes (.irqRouteWrite n d) s ((List.range 4).flatMap fun b => [Reg.IRQ_ROUTE_en n b, Reg.IRQ_ROUTE_sticky n b,
        Reg.IRQ_ROUTE_group n b, Reg.IRQ_ROUTE_target n b]) [] (fun t =>
      t.get (Reg.IRQ_ROUTE_target n j) =
        (if 4 * n.val + j.val = 1 ∨ 4 * n.val + j.val = 2 ∨ (78 ≤ 4 * n.val + j.val ∧ 4 * n.val + j.val ≤ 95)
          then s.chip.get (Reg.IRQ_ROUTE_target n j) else part d.toNat (8 * j.val) 2) ∧
      (4 * n.val + j.val = 0 ∨ 96 ≤ 4 * n.val + j.val →
        t.get (Reg.IRQ_ROUTE_en n j) = bitOf d.toNat (8 * j.val + 7))) := by
  obtain ⟨htarget, hen⟩ := Chip.routeWrite_route s.chip n d.toNat j
  refine completes_of_act (f := fun c => c.routeWrite n d.toNat) rfl hd (Chip.routeWrite_frame ..) ?_
  rw [Chip.settle_get, Chip.settle_get]
  refine ⟨htarget.trans (if_congr ?_ rfl rfl), fun h => hen ?_⟩
  · simp [Chip.routeShut, Chip.fixedRoute, or_assoc]
  · simp only [Chip.routeShut, Chip.fixedRoute, Bool.or_eq_false_iff, beq_eq_false_iff_ne, Bool.and_eq_false_iff,
      decide_eq_false_iff_not]
    omega

theorem swi_touches (d : Word) (i : Fin 16) :
    Touches (.swi d) s [.regs] (fun t => hasBit d.toNat i = true → s.chip.isHart (i.val / 4) = true →
      hasBit (t.get (Reg.IRQ_C_PRIV_pend (i.val / 4))) (i.val % 4) = true) := by
  refine touches_of_act (f := fun c => c.swiWrite d.toNat) rfl hd (Chip.swiWrite_inside (by rfl) (.refl _ _)) fun hb hh => ?_
  rw [Chip.settle_get]
  exact Chip.swiWrite_sets _ hb hh

theorem moderationTimer_completes {g : Fin 3} (hlen : s.chip.irq.groups.length = 12) (hl : s.chip.levelsSeen)
    (htimer : (s.chip.group k (g.val + 1)).timer = true) (ht : s.chip.get (Reg.IRQ_C_MOD_time k g) ≠ 0)
    (hpast : (s.chip.group k (g.val + 1)).since + 200 * s.chip.get (Reg.IRQ_C_MOD_time k g) ≤ s.chip.now)
    (hany : s.chip.groupPends k (g.val + 1) = true) :
    Completes (.moderationTimer k g) s [] [] (fun t => (t.group k (g.val + 1)).released = true) := by
  have hout : Chip.GroupOut k (g.val + 1) (s.chip.modGroup k (g.val + 1) fun m => { m with released := true }) := by
    refine ⟨(updNth_length _ _ _).trans hlen, hany, ?_⟩
    exact congrArg GroupS.released (nth_updNth_self _ (by omega))
  have hk : k.val < 4 := k.isLt
  have hg : 1 ≤ g.val + 1 ∧ g.val + 1 ≤ 3 := by omega
  by_cases hrel : (s.chip.group k (g.val + 1)).released = true
  · have hx : exec (.moderationTimer k g) s = s.act id := State.act_congr (if_neg (by simp [hrel]))
    exact completes_of_act hx hd (.refl ..) (Chip.groupOut_settle hk hg hl ⟨hlen, hany, hrel⟩).2.2
  · have hx : exec (.moderationTimer k g) s = s.act fun c => c.modGroup k (g.val + 1) fun m => { m with released := true } :=
      State.act_congr (if_pos (by simp [htimer, hrel, ht, hpast]))
    have hl' : (s.chip.modGroup k (g.val + 1) fun m => { m with released := true }).levelsSeen := hl
    exact completes_of_act hx hd (.irq ..) (Chip.groupOut_settle hk hg hl' hout).2.2

theorem moderationTimer_stopped_completes {g : Fin 3} (h : (s.chip.group k (g.val + 1)).timer = false) :
    Completes (.moderationTimer k g) s [] [] (fun _ => True) :=
  completes_unchanged rfl hd (if_neg (by simp [h]))

theorem irqPendClear_completes (j : Fin 4) (d : Word) (n : Fin 32) :
    Completes (.irqPendClear j d) s [] [] (fun t => s.chip.levelsSeen →
      hasBit s.chip.levels (32 * j.val + n.val) = false → hasBit s.chip.irq.pulsed (32 * j.val + n.val) = false →
      hasBit d.toNat n = true → hasBit t.irq.latch (32 * j.val + n.val) = false) := by
  refine completes_of_act (f := fun c => c.pendClear j d.toNat) rfl hd (.irq ..) fun _ hlev hpul hbit => ?_
  rw [Chip.hasBit_settle_latch _ (by omega), Chip.kept]
  have hlev' : hasBit (s.chip.pendClear j d.toNat).levels (32 * j.val + n.val) = false := hlev
  have hmask : (d.toNat % 2 ^ 32 * 2 ^ (32 * j.val)).testBit (32 * j.val + n.val) = true := by
    rw [Nat.testBit_mul_two_pow, Nat.testBit_mod_two_pow]
    have hn : n.val < 32 := n.isLt
    simpa [hn, hasBit_eq_testBit] using hbit
  have hlatch : hasBit (s.chip.pendClear j d.toNat).irq.latch (32 * j.val + n.val) = false := by
    rw [hasBit_eq_testBit] at hpul ⊢
    simp only [Chip.pendClear, sub_and_eq_ldiff, Nat.testBit_ldiff, hmask, hpul]
    simp
  simp [hlev', hlatch]

theorem irqSumRead_completes (hr : s.chip.coreRuns k = true) (ha : hasBit s.chip.irq.armed k = true) :
    Completes (.irqSumRead k) s [Reg.IRQ_SPURIOUS_cnt k] [] (fun t =>
      t.get (Reg.IRQ_SPURIOUS_cnt k) = (if s.chip.sumLow k = 0 then min 255 (s.chip.get (Reg.IRQ_SPURIOUS_cnt k) + 1)
        else s.chip.get (Reg.IRQ_SPURIOUS_cnt k))) := by
  have hx : exec (.irqSumRead k) s = s.act fun c => c.sumRead k := State.act_congr (if_pos hr)
  refine completes_of_act hx hd ?_ ?_
  · rw [Chip.sumRead, if_pos ha]
    refine (Chip.Frame.irq ..).trans (d := { s.chip with irq := { s.chip.irq with armed := clrBit s.chip.irq.armed k } }) ?_
    dsimp only
    split
    · exact .set _ _ _ _ (.head _)
    · exact .refl ..
  · rw [Chip.settle_get, Chip.sumRead, if_pos ha]
    dsimp only
    by_cases hz : s.chip.sumLow k = 0
    · rw [if_pos (by simp [hz]), if_pos hz, Chip.get_bump_self _ _ (show 255 < 2 ^ 8 by decide)]
      rfl
    · rw [if_neg (by simp [hz]), if_neg hz]
      rfl

theorem irqSumRead_idle_completes (h : s.chip.coreRuns k = false ∨ hasBit s.chip.irq.armed k = false) :
    Completes (.irqSumRead k) s [] [] (fun _ => True) := by
  refine completes_unchanged rfl hd ?_
  rcases h with h | h
  · exact if_neg (by simp [h])
  · split
    · exact if_neg (by simp [h])
    · rfl

theorem timNowRead_completes {r : Requester} (hr : s.chip.reqRuns r = true) (hp : s.chip.bus.posted = [])
    (hh : s.chip.bus.held = []) :
    Completes (.timNowRead r) s [] [] (fun t => lookupD 0 (reqCode r) t.irq.hiLatch = s.chip.now / 2 ^ 32 % 2 ^ 32) := by
  refine completes_of_act (exec_timNowRead hr hp hh) hd (.irq ..) ?_
  rw [Chip.settle_hiLatch]
  exact lookupD_putAt_self ..

end

/-! ### The statement -/

section
variable (hd : s.chip.pwr.dieReset = false) (hs : s.chip.Shaped) (hc : s.chip.coreRuns k = true) {a : Word}
include hd hs hc

theorem misaligned_completes (ha : a.toNat % 4 ≠ 0) (rd : Fin 32) (d : Word) :
    Completes (.coreLoad k 2 true false rd a 0) s [] [.hart] (fun t => (nth t.hart k).mcause = 4 ∧
      (nth t.hart k).mtval = a.toNat ∧ (nth t.hart k).mepc = (nth s.chip.hart k).pc ∧
      (nth t.hart k).xregs = (nth s.chip.hart k).xregs) ∧
    Completes (.coreStore k 2 a d) s [] [.hart] (fun t => (nth t.hart k).mcause = 6 ∧
      (nth t.hart k).mtval = a.toNat ∧ (nth t.hart k).pc = (nth s.chip.hart k).mtvec / 4 * 4) :=
  ⟨(trapped_of_act (f := fun c => c.coreLoad k 4 true false rd a.toNat 0) rfl hd hs
      (Chip.coreLoad_of_misaligned hc ha ..)).imp fun _ h => ⟨h.mcause, h.mtval, h.mepc, h.xregs⟩,
    (trapped_of_act (f := fun c => c.coreStore k 4 a.toNat d.toNat) rfl hd hs
      (Chip.coreStore_of_misaligned hc ha _)).imp fun _ h => ⟨h.mcause, h.mtval, h.pc⟩⟩

theorem beyond_completes (ha : a.toNat % 4 = 0) (hl : 0x42040000 ≤ a.toNat) (rd : Fin 32) (d : Word) :
    Completes (.coreLoad k 2 true false rd a 0) s [] [.hart] (fun t => (nth t.hart k).mcause = 5 ∧
      (nth t.hart k).machine = true) ∧
    Completes (.coreStore k 2 a d) s [] [.hart] (fun t => (nth t.hart k).mcause = 7) ∧
    Completes (.instructionFetch k a 0) s [] [.hart] (fun t => (nth t.hart k).mcause = 1 ∧
      (nth t.hart k).mtval = a.toNat) :=
  ⟨(trapped_of_act (f := fun c => c.coreLoad k 4 true false rd a.toNat 0) rfl hd hs
      (Chip.coreLoad_beyond hc ha hl ..)).imp fun _ h => ⟨h.mcause, h.machine⟩,
    (trapped_of_act (f := fun c => c.coreStore k 4 a.toNat d.toNat) rfl hd hs
      (Chip.coreStore_beyond hc ha hl _)).imp fun _ h => h.mcause,
    instructionFetch_beyond_completes hd hs hc ha hl⟩

end

/-- A requester that does not run presents nothing. -/
theorem no_requester_completes (hd : s.chip.pwr.dieReset = false) {r : Requester} (hr : s.chip.reqRuns r = false)
    (n : Fin 32) :
    Completes (.semTake r n) s [] [] (fun _ => True) ∧ Completes (.semGive r n) s [] [] (fun _ => True) ∧
      Completes (.semTakeOrWait r n) s [] [] (fun _ => True) ∧ Completes (.semCancel r n) s [] [] (fun _ => True) ∧
      Completes (.timNowRead r) s [] [] (fun _ => True) :=
  have hno : ¬ s.chip.reqRuns r = true := Bool.eq_false_iff.1 hr
  ⟨completes_unchanged rfl hd (if_neg hno), completes_unchanged rfl hd (if_neg hno), completes_unchanged rfl hd (if_neg hno),
    completes_unchanged rfl hd (if_neg hno), completes_unchanged rfl hd (if_neg hno)⟩

theorem no_core_completes (hd : s.chip.pwr.dieReset = false) (hc : s.chip.coreRuns k = false) (rd : Fin 32) (a d : Word) :
    Completes (.coreLoad k 2 true false rd a 0) s [] [] (fun _ => True) ∧
      Completes (.coreStore k 2 a d) s [] [] (fun _ => True) ∧ Completes (.irqSumRead k) s [] [] (fun _ => True) :=
  ⟨completes_unchanged (f := fun c => c.coreLoad k 4 true false rd a.toNat 0) rfl hd (if_pos (by simp [hc])),
    completes_unchanged (f := fun c => c.coreStore k 4 a.toNat d.toNat) rfl hd (if_pos (by simp [hc])),
    irqSumRead_idle_completes hd (.inl hc)⟩

/-- Settles O55, one lemma per clause. -/
theorem coresMemoryAndInterrupts : Obligations.CoresMemoryAndInterrupts := by
  unfold Obligations.CoresMemoryAndInterrupts
  intro s k j rd n w a d r g i hd hs
  refine ⟨fun hc => ⟨fun ha => misaligned_completes hd hs hc ha rd d, fun ha hl => beyond_completes hd hs hc ha hl rd d,
      fun hp hh he => ⟨coreLoad_sram_completes hd hs hc hp hh rd he, coreStore_sram_completes hd hs hc hp d,
        instructionFetch_sram_completes hd hs hc he⟩⟩,
    scrub_clean_completes hd, scrub_one_touches hd, eccInject_completes hd d, fun hc => no_core_completes hd hc rd a d,
    fun hr => no_requester_completes hd hr n, fun hr hp hh hn => ?_, fun hr hp hh hn => ?_, semCancel_completes hd,
    timerCompare_completes hd, timerCompare_unmatched_completes hd, fun hh => ?_, fun hkey => ?_,
    fun hh hrun => watchdogKick_start_completes hd hh hrun rd, fun hh hrun => watchdogKick_running_completes hd hs hh hrun rd,
    fun hrun => ⟨wdtWarn_touches hd hs hrun, coreWdt_touches hd hs hrun⟩, wdt_no_effect_completes hd,
    irqRouteWrite_completes hd n d j, moderationTimer_completes hd, moderationTimer_stopped_completes hd,
    swi_touches hd d i, irqPendClear_completes hd j d n, irqSumRead_completes hd,
    fun ha => irqSumRead_idle_completes hd (.inr ha), timNowRead_completes hd⟩
  · exact ⟨semAsk_free (exec_semTake hr hp hh) hd hn, semAsk_free (exec_semTakeOrWait hr hp hh) hd hn⟩
  · refine ⟨semTake_busy_completes hd hr hp hh hn, fun p hp' hself => ?_, semTakeOrWait_busy_completes hd hr hp hh hn,
      semGive_free_completes hd hr hp hh hn, semGive_host_completes hd hr hp hh hn, semGive_bad_completes hd hr hp hh⟩
    exact semAsk_beaten (exec_semTake hr hp hh) hd hn hself (Option.mem_toList.1 hp')
  · exact ⟨timerCompare_no_hart_completes hd hh, watchdogKick_no_effect_completes hd (.inl hh)⟩
  · exact watchdogKick_no_effect_completes hd (.inr hkey)

end Sys2Proof.Machine
end

section
/-! SUPPORT. What a cluster's safe state leaves alone: the registers of the converters, those that the demands are read from, the
clusters' states and KE_EV; and of the clusters their outstanding faults, their standing run commands and their STO releases. -/

namespace Sys2Proof.Machine

/-- What a cluster carries through a change of state: faults, standing run command, STO release. -/
def ClusterS.burden (c : ClusterS) : List Standing × Bool × Bool := (c.faults, c.standing, c.stoRel)

namespace Chip

/-- The keys of register fields that neither the safe state of a cluster nor a change of its state writes, but for the field of
the state itself. -/
def untouched (q : Nat) : Bool :=
  (decide (0x41200000 * 32 ≤ q) && decide (q < 0x41300000 * 32))
    || [0x41400000, 0x4140000C, 0x4140003C, 0x41400041].contains (q / 32)
    || (List.range 4).any fun k => [Reg.SEQ_STAT_state k, Reg.SEQ_FLAGS_ke_ev k, Reg.SAFE_C_STAT_pc_sto k].any fun f => f.key == q

/-- The fields of cluster k that these operations write. -/
def stirredFields (k : Nat) : List Field :=
  [Reg.SAFE_C_STAT_sel k, Reg.SAFE_C_STAT_spd_src k, Reg.SAFE_C_STAT_band k, Reg.SAFE_C_STAT_ss1 k, Reg.SAFE_C_SPD_v k,
    Reg.SAFE_C_WTH_v k, Reg.SEQ_STAT_held k, Reg.SEQ_STAT_held_req k, Reg.SEQ_STAT_wdis k, Reg.SEQ_STAT_overspeed k,
    Reg.SEQ_STAT_retries k, Reg.SEQ_FLAGS_state_ev k, Reg.SEQ_FLAGS_fault k, Reg.SEQ_FLAGS_refused k, Reg.SEQ_FAULT_code k,
    Reg.SEQ_FAULT_class k, Reg.FC_STAT_mode k]

/-- A field in the block of the slices or of the islands. -/
def drivesField (f : Field) : Prop := 0x41000000 * 32 ≤ f.key ∧ f.key < 0x41200000 * 32

theorem stirred {k : Nat} (hk : k < 4) {f : Field} (h : f ∈ stirredFields k) : untouched f.key = false := by
  have all : ∀ k < 4, (stirredFields k).all (fun f => !untouched f.key) = true := by decide
  simpa using List.all_eq_true.1 (all k hk) f h

theorem drives {f : Field} (h : drivesField f) : untouched f.key = false := by
  obtain ⟨h1, h2⟩ := h
  simp only [untouched, Bool.or_eq_false_iff, Bool.and_eq_false_iff, decide_eq_false_iff_not, List.contains_eq_mem,
    List.mem_cons, List.not_mem_nil, or_false, List.any_eq_false, List.mem_range, beq_iff_eq,
    List.any_cons, List.any_nil, Bool.or_false, Bool.or_eq_true]
  refine ⟨⟨by omega, by omega⟩, fun k hk => ?_⟩
  simp only [Field.key, Reg.SEQ_STAT_state, Reg.SEQ_FLAGS_ke_ev, Reg.SAFE_C_STAT_pc_sto] at h1 h2 ⊢
  omega

/-- The module d has the untouched fields of c, and its clusters carry what those of c do. -/
structure Spares (c d : Chip) : Prop where
  get : ∀ f : Field, untouched f.key = true → d.get f = c.get f
  burden : d.cl.map ClusterS.burden = c.cl.map ClusterS.burden

namespace Spares

variable {z s : Chip}

theorem refl (c : Chip) : c.Spares c := ⟨fun _ _ => rfl, rfl⟩

theorem trans {c d e : Chip} (h : c.Spares d) (k : d.Spares e) : c.Spares e :=
  ⟨fun f hf => (k.get f hf).trans (h.get f hf), k.burden.trans h.burden⟩

theorem ite {c : Prop} [Decidable c] {a b : Chip} (ha : z.Spares a) (hb : z.Spares b) : z.Spares (if c then a else b) := by
  split <;> assumption

theorem each {α : Type} {l : List α} {f : α → Chip → Chip} (h : z.Spares s)
    (hf : ∀ a ∈ l, ∀ t, z.Spares t → z.Spares (f a t)) : z.Spares (forEach l f s) := forEach_preserves hf h

theorem same {t : Chip} (h : z.Spares s) (hr : t.regs = s.regs) (hc : t.cl = s.cl) : z.Spares t :=
  ⟨fun f hf => by rw [← h.get f hf, Chip.get, Chip.get, hr], by rw [hc, h.burden]⟩

theorem set {f : Field} (hf : untouched f.key = false) (v : Nat) (h : z.Spares s) : z.Spares (s.set f v) :=
  ⟨fun g hg => (get_set_other s (fun e => by rw [e, hf] at hg; cases hg) v).trans (h.get g hg), h.burden⟩

theorem put {f : Field} (hf : untouched f.key = false) (b : Bool) (h : z.Spares s) : z.Spares (s.put f b) := h.set hf _

theorem sets {l : List (Field × Nat)} (hl : ∀ p ∈ l, untouched p.1.key = false) (h : z.Spares s) : z.Spares (s.sets l) := by
  induction l generalizing s with
  | nil => exact h
  | cons p l ih => exact ih (fun q hq => hl q (.tail _ hq)) (h.set (hl p (.head _)) p.2)

theorem modCl {k : Nat} {f : ClusterS → ClusterS} (hf : ∀ c, (f c).burden = c.burden) (h : z.Spares s) :
    z.Spares (s.modCl k f) := ⟨h.get, (updNth_map _ _ hf k s.cl).trans h.burden⟩

theorem modSlice {n : Nat} {f : SliceS → SliceS} (h : z.Spares s) : z.Spares (s.modSlice n f) := h.same rfl rfl

theorem modIsl {n : Nat} {f : IslandS → IslandS} (h : z.Spares s) : z.Spares (s.modIsl n f) := h.same rfl rfl

/-- A record of a cluster, or of none. -/
theorem record {code cls inst cluster region data : Nat} (h : z.Spares s) :
    z.Spares (s.record code cls inst cluster region data) := by
  refine h.trans ⟨fun f hf => ?_, ?_⟩
  · refine (Frame.record s code cls inst cluster region data (ps := [.log])
      (fs := [Reg.CEL_STAT_log_head, Reg.CEL_STAT_log_wrapped] ++ if cluster < 4 then stirredFields cluster else [])
      (.head _) (by simp) (fun hk => by simp [hk, stirredFields])).1 f fun g hg e => ?_
    have hg' : untouched g.key = false := by
      rcases List.mem_append.1 hg with hg | hg
      · rcases List.mem_cons.1 hg with rfl | hg
        · decide
        · rw [List.mem_singleton.1 hg]
          decide
      · split at hg
        next hk => exact stirred hk hg
        next => cases hg
    rw [e, hg'] at hf
    cases hf
  · rw [(record_inside (M := 66) rfl (.refl s _)) .cl rfl]

theorem noteCl {code k data : Nat} (h : z.Spares s) : z.Spares (s.noteCl code k data) := h.record

end Spares

/-! ### Slices -/

/-- The fields of a slice that its gates and outputs write. -/
def sliceFields (n : Nat) : List Field :=
  [Reg.PWM_S_STAT_h_now n, Reg.PWM_S_STAT_l_now n, Reg.PWM_S_STAT_gate_en n, Reg.PWM_S_STAT_ovr n, Reg.PWM_S_FLAGS_extend n]

theorem drives_slice {n : Nat} (hn : n < 16) {f : Field} (h : f ∈ sliceFields n) : untouched f.key = false := by
  refine drives ?_
  simp only [sliceFields, List.mem_cons, List.not_mem_nil, or_false] at h
  rcases h with rfl | rfl | rfl | rfl | rfl <;>
    simp only [drivesField, Field.key, Reg.PWM_S_STAT_h_now, Reg.PWM_S_STAT_l_now, Reg.PWM_S_STAT_gate_en,
      Reg.PWM_S_STAT_ovr, Reg.PWM_S_FLAGS_extend] <;> omega

theorem outerOf_lt {s : Chip} {n : Nat} (h : s.threeLevel n = true) : outerOf n + 3 < 6 := by
  simp only [threeLevel, Bool.and_eq_true, decide_eq_true_eq] at h
  unfold outerOf
  split <;> omega

theorem mem_slicesOf_lt {s : Chip} {k n : Nat} (h : n ∈ s.slicesOf k) : n < 16 :=
  List.mem_range.1 (List.mem_filter.1 h).1

theorem mem_islandsOf_lt {s : Chip} {k n : Nat} (h : n ∈ s.islandsOf k) : n < 12 := by
  obtain ⟨m, hm, hn⟩ := List.mem_flatMap.1 h
  have := List.mem_range.1 (List.mem_filter.1 hm).1
  simp only [List.mem_cons, List.not_mem_nil, or_false] at hn
  omega

namespace Spares

variable {z s : Chip} {n : Nat}

theorem accrueOne {t : Nat} (h : z.Spares s) : z.Spares (s.accrueOne n t) := by
  unfold Chip.accrueOne
  extract_lets
  exact .ite h h.modSlice

theorem accrue {t : Nat} (h : z.Spares s) : z.Spares (s.accrue n t) := by
  unfold Chip.accrue
  exact .ite h.accrueOne.accrueOne h.accrueOne

theorem showOutputs (hn : n < 16) (h : z.Spares s) : z.Spares (s.showOutputs n) := by
  unfold Chip.showOutputs
  extract_lets hi lo t s1 s2
  have h1 : z.Spares s1 := .ite h h.modSlice
  have h2 : z.Spares s2 := .ite h1 h1.modSlice
  exact (h2.put (drives_slice hn (by simp [sliceFields])) _).put (drives_slice hn (by simp [sliceFields])) _

theorem outputs (hn : n < 16) (h : z.Spares s) : z.Spares (s.outputs n) := by
  unfold Chip.outputs
  split
  next h3 =>
    have ho := outerOf_lt h3
    extract_lets p s1
    have h1 : z.Spares s1 := (h.showOutputs (by omega)).showOutputs (by omega)
    refine h1.set (drives ?_) _
    simp only [drivesField, Field.key, Reg.PWM_TL_STAT_state, p]
    omega
  next => exact h.showOutputs hn

theorem dropGates (h : z.Spares s) : z.Spares (s.dropGates n) := by
  unfold Chip.dropGates
  refine .ite ?_ h
  extract_lets p s1
  have h1 : z.Spares s1 := .ite h h.modSlice
  exact .ite h1 h1.modSlice

theorem fallH {cut : Bool} (hn : n < 16) (h : z.Spares s) : z.Spares (s.fallH n cut) := by
  unfold Chip.fallH
  extract_lets
  exact .ite (h.modSlice.put (drives_slice hn (by simp [sliceFields])) _) h.modSlice

theorem fallL {cut : Bool} (hn : n < 16) (h : z.Spares s) : z.Spares (s.fallL n cut) := by
  unfold Chip.fallL
  extract_lets
  exact .ite h (.ite (h.modSlice.put (drives_slice hn (by simp [sliceFields])) _) h.modSlice)

theorem riseH {t : Nat} (h : z.Spares s) : z.Spares (s.riseH n t) := by
  unfold Chip.riseH
  exact .ite h.modSlice h.modSlice

theorem riseL {t : Nat} (h : z.Spares s) : z.Spares (s.riseL n t) := by
  unfold Chip.riseL
  exact .ite h.modSlice h.modSlice

theorem restartOutputs {t : Nat} (hn : n < 16) (h : z.Spares s) : z.Spares (s.restartOutputs n t) := by
  unfold Chip.restartOutputs
  exact h.accrue.modSlice.outputs hn

theorem setGate {b : Bool} (hn : n < 16) (h : z.Spares s) : z.Spares (s.setGate n b) := by
  unfold Chip.setGate
  refine .ite h ?_
  extract_lets s1 hi lo s2 s3 compl s4 s5
  have h1 : z.Spares s1 := h.accrue.put (drives_slice hn (by simp [sliceFields])) _
  have h2 : z.Spares s2 := .ite (h1.fallH hn) h1
  have h3 : z.Spares s3 := .ite (h2.fallL hn) h2
  have h4 : z.Spares s4 := .ite h3.riseL h3
  have h5 : z.Spares s5 := .ite h4.riseH h4
  exact .ite (h1.restartOutputs hn) (h5.modSlice.dropGates.outputs hn)

theorem setOvr {code : Nat} (hn : n < 16) (h : z.Spares s) : z.Spares (s.setOvr n code) := by
  unfold Chip.setOvr
  refine .ite h ?_
  exact (h.accrue.modSlice.set (drives_slice hn (by simp [sliceFields])) _).outputs hn

theorem setOvrs {t : Chip} {k code : Nat} (h : z.Spares s) : z.Spares (s.setOvrs (t.slicesOf k) code) :=
  .each h fun _ hn _ hu => hu.setOvr (mem_slicesOf_lt hn)

end Spares

/-! ### The safe state held -/

namespace Spares

variable {z s : Chip} {k : Nat}

theorem putSelOne {sel : Nat} (hk : k < 4) (h : z.Spares s) : z.Spares (s.putSelOne k sel) := by
  unfold Chip.putSelOne
  extract_lets s1 s2
  have h1 : z.Spares s1 := .ite h (h.modCl fun _ => rfl)
  have h2 : z.Spares s2 :=
    (h1.set (stirred hk (by simp [stirredFields])) _).set (stirred hk (by simp [stirredFields])) _
  exact h2.setOvrs

theorem followSel (h : z.Spares s) : z.Spares s.followSel := by
  unfold Chip.followSel
  extract_lets
  exact .ite h (h.putSelOne (by decide))

theorem putSel {sel : Nat} (hk : k < 4) (h : z.Spares s) : z.Spares (s.putSel k sel) := (h.putSelOne hk).followSel

theorem selectBy {src : Nat} {high low : Bool} (hk : k < 4) (h : z.Spares s) : z.Spares (s.selectBy k src high low) := by
  unfold Chip.selectBy
  extract_lets prev s1 side s2
  have h1 : z.Spares s1 := .ite (.noteCl (.modCl (fun _ => rfl) h)) h
  clear_value s1
  have h2 : z.Spares s2 := .ite h1 (.noteCl (.put (by decide) _ (.modCl (fun _ => rfl) h1)))
  exact .ite (h1.putSel hk) (.ite (.ite (h1.putSel hk) (h2.putSel hk)) (.ite (h1.putSel hk) (h1.putSel hk)))

theorem evalRule (hk : k < 4) (h : z.Spares s) : z.Spares (s.evalRule k) := by
  unfold Chip.evalRule
  split
  extract_lets th s1 s2 high low s3
  have h1 : z.Spares s1 :=
    (h.set (stirred hk (by simp [stirredFields])) _).set (stirred hk (by simp [stirredFields])) _
  have h2 : z.Spares s2 := .ite (h1.set (stirred hk (by simp [stirredFields])) _) h1
  have h3 : z.Spares s3 := .ite (h2.put (stirred hk (by simp [stirredFields])) _) h2
  exact .ite h2.followSel (.ite (.ite (h2.putSel hk) h2)
    (.ite h3 (.ite (h3.putSel hk) (.ite (h3.putSel hk) (h3.selectBy hk)))))

theorem refreshHold (hk : k < 4) (h : z.Spares s) : z.Spares (s.refreshHold k) := by
  unfold Chip.refreshHold
  extract_lets s1 osp s2
  have h1 : z.Spares s1 := h.modCl fun _ => rfl
  have h2 : z.Spares s2 :=
    (h1.set (stirred hk (by simp [stirredFields])) _).set (stirred hk (by simp [stirredFields])) _
  exact .ite h.followSel (.ite (.ite (h.evalRule hk) h) (.ite h h2.setOvrs.followSel))

theorem demandBegins (hk : k < 4) (h : z.Spares s) : z.Spares (s.demandBegins k) := .ite (h.evalRule hk) h

end Spares

end Chip

end Sys2Proof.Machine
end

section
/-! SUPPORT. A cluster enters a state and takes a fault: the state is the one entered, the fault stands, and the untouched fields
keep their values. -/

namespace Sys2Proof.Machine.Chip

/-- The fields of an island that an aborted leakage check and the clamp write. -/
def islandFields (n : Nat) : List Field :=
  [Reg.ISL_LEAK_STAT_busy n, Reg.ISL_LEAK_STAT_result n, Reg.ISL_LEAK_STAT_reason n, Reg.ISL_FLAGS_leak_ev n,
    Reg.ISL_STAT_state n, Reg.ISL_STAT_clamp_on n]

theorem drives_island {n : Nat} (hn : n < 12) {f : Field} (h : f ∈ islandFields n) : untouched f.key = false := by
  refine drives ?_
  simp only [islandFields, List.mem_cons, List.not_mem_nil, or_false] at h
  rcases h with rfl | rfl | rfl | rfl | rfl | rfl <;>
    simp only [drivesField, Field.key, Reg.ISL_LEAK_STAT_busy, Reg.ISL_LEAK_STAT_result, Reg.ISL_LEAK_STAT_reason,
      Reg.ISL_FLAGS_leak_ev, Reg.ISL_STAT_state, Reg.ISL_STAT_clamp_on] <;> omega

namespace Spares

variable {z s : Chip} {k n : Nat}

theorem resumeCarrier (h : z.Spares s) : z.Spares (s.resumeCarrier n) := .ite h.modSlice h.modSlice

theorem openGate {g : Nat} (h : z.Spares s) : z.Spares (s.openGate g) := by
  unfold Chip.openGate
  refine .ite h (same (h.put ?_ false) rfl rfl)
  split <;> decide

theorem openGates (h : z.Spares s) : z.Spares (s.openGates k) :=
  .each h.openGate fun _ _ _ ht => ht.openGate

theorem clamp (hn : n < 12) (h : z.Spares s) : z.Spares (s.clamp n) :=
  h.modIsl.put (drives_island hn (by simp [islandFields])) _

theorem abortLeak {reason : Nat} (hn : n < 12) (h : z.Spares s) : z.Spares (s.abortLeak n reason) := by
  unfold Chip.abortLeak
  refine .ite ?_ h
  refine ((h.sets fun p hp => drives_island hn ?_).modIsl).clamp hn
  simp only [List.mem_cons, List.not_mem_nil, or_false] at hp
  rcases hp with rfl | rfl | rfl | rfl | rfl <;> simp [islandFields]

theorem ctrMove {neg on : Bool} (h : z.Spares s) : z.Spares (s.ctrMove neg on) := by
  unfold Chip.ctrMove
  extract_lets s1 _ s2
  have h1 : z.Spares s1 := h.sets (by
    simp only [List.forall_mem_cons, List.not_mem_nil, false_imp_iff, implies_true, and_true]
    cases neg <;> exact ⟨by decide, by decide⟩)
  have h2 : z.Spares s2 := .ite (h1.same rfl rfl) (h1.same rfl rfl)
  exact h2.put (by decide) _

theorem applyContactors {force : Bool} (h : z.Spares s) : z.Spares (s.applyContactors force) := by
  unfold Chip.applyContactors
  extract_lets held block one s1 s2
  have hone : ∀ (cmd out : Field) (neg : Bool) (t : Chip), z.Spares t → z.Spares (one cmd out neg t) :=
    fun _ _ _ _ ht => .ite ht.ctrMove (.ite ht.ctrMove ht)
  clear_value one
  have h2 : z.Spares s2 := hone _ _ _ _ (hone _ _ _ _ h)
  exact h2.put (by decide) _

end Spares

variable {s : Chip} {k : Nat}

/-- A cluster that enters another state changes the field of its state and spares the rest. -/
theorem enter_spares (hk : k < 4) {st : Nat} (hst : s.clState k ≠ st) :
    (s.set (Reg.SEQ_STAT_state k) st).Spares (s.enter k st) := by
  have hf : ∀ f ∈ stirredFields k, untouched f.key = false := fun f hf => stirred hk hf
  let z := s.set (Reg.SEQ_STAT_state k) st
  unfold enter
  extract_lets old s1 s2 s3 s4 s5 s6 s7 s8 s9 s10 s11 s12 s13
  rw [if_neg hst]
  have h1 : z.Spares s1 := Spares.set (hf _ (by simp [stirredFields])) 1 (.refl z)
  clear_value s1
  have h2 : z.Spares s2 := h1.modCl fun _ => rfl
  clear_value s2
  have h3 : z.Spares s3 := h2.put (hf _ (by simp [stirredFields])) _
  clear_value s3
  have h4 : z.Spares s4 := .ite (Spares.openGates (.each h3 fun _ _ _ ht => ht.resumeCarrier)) h3
  clear_value s4
  have h5 : z.Spares s5 := .ite (.each (.modCl (fun _ => rfl) h4) fun _ _ _ ht => ht.modSlice) h4
  clear_value s5
  have h6 : z.Spares s6 := by
    refine .ite h5 (.each (h5.sets ?_) fun n hn _ ht => ht.setGate (mem_slicesOf_lt hn))
    simp only [List.forall_mem_cons, List.not_mem_nil, false_imp_iff, implies_true, and_true]
    exact ⟨hf _ (by simp [stirredFields]), hf _ (by simp [stirredFields])⟩
  clear_value s6
  have h7 : z.Spares s7 := .ite (h6.set (drives (by unfold drivesField; decide)) 0) h6
  clear_value s7
  have h8 : z.Spares s8 := h7.put (hf _ (by simp [stirredFields])) _
  clear_value s8
  have h9 : z.Spares s9 := h8.modCl fun _ => rfl
  clear_value s9
  have h10 : z.Spares s10 := h9.put (hf _ (by simp [stirredFields])) _
  clear_value s10
  have h11 : z.Spares s11 := .ite (.ite (Spares.setOvrs (h10.set (hf _ (by simp [stirredFields])) 0)) h10) h7
  clear_value s11
  have h12 : z.Spares s12 := .ite (.each h11 fun n hn _ ht => ht.abortLeak (mem_islandsOf_lt hn)) h11
  clear_value s12
  exact (h12.refreshHold hk).applyContactors

theorem untouched_state {j : Nat} (hj : j < 4) : untouched (Reg.SEQ_STAT_state j).key = true := by
  have all : ∀ j < 4, untouched (Reg.SEQ_STAT_state j).key = true := by decide
  exact all j hj

theorem Spares.clState {c d : Chip} (h : c.Spares d) (hk : k < 4) : d.clState k = c.clState k := h.get _ (untouched_state hk)

theorem clState_enter (hk : k < 4) {st : Nat} (hst : st < 8) : (s.enter k st).clState k = st := by
  by_cases h : s.clState k = st
  · rw [enter, if_pos h, h]
  · rw [(enter_spares hk h).clState hk, Chip.clState, get_set_self]
    exact Nat.mod_eq_of_lt hst

/-! ### Outstanding faults -/

/-- The outstanding faults of every cluster. -/
def faultsOf (s : Chip) : List (List Standing) := s.cl.map ClusterS.faults

theorem cluster_faults (s : Chip) (j : Nat) : (s.cluster j).faults = nth s.faultsOf j := (nth_map ClusterS.faults rfl s.cl j).symm

/-- The keys of fields that no change of a cluster's state writes, that of the state included. -/
def resting (q : Nat) : Bool := untouched q && !(List.range 4).any fun k => (Reg.SEQ_STAT_state k).key == q

/-- The module d has the resting fields of c, and the same faults stand. -/
structure Bears (c d : Chip) : Prop where
  get : ∀ f : Field, resting f.key = true → d.get f = c.get f
  faults : d.faultsOf = c.faultsOf

theorem resting_ne {f : Field} (h : resting f.key = true) {j : Nat} (hj : j < 4) : f.key ≠ (Reg.SEQ_STAT_state j).key := by
  intro e
  simp only [resting, Bool.and_eq_true, Bool.not_eq_true', List.any_eq_false, List.mem_range, beq_iff_eq] at h
  exact h.2 j hj e.symm

theorem untouched_of_resting {q : Nat} (h : resting q = true) : untouched q = true := (Bool.and_eq_true_iff.1 h).1

namespace Bears

variable {z : Chip}

theorem refl (c : Chip) : c.Bears c := ⟨fun _ _ => rfl, rfl⟩

theorem trans {c d e : Chip} (h : c.Bears d) (k : d.Bears e) : c.Bears e :=
  ⟨fun f hf => (k.get f hf).trans (h.get f hf), k.faults.trans h.faults⟩

theorem ite {c : Prop} [Decidable c] {a b : Chip} (ha : z.Bears a) (hb : z.Bears b) : z.Bears (if c then a else b) := by
  split <;> assumption

theorem of_spares {c d : Chip} (h : c.Spares d) : c.Bears d := by
  refine ⟨fun f hf => h.get f (untouched_of_resting hf), ?_⟩
  have hb := congrArg (List.map Prod.fst) h.burden
  rwa [List.map_map, List.map_map] at hb

theorem put {f : Field} (hf : resting f.key = false) (b : Bool) (h : z.Bears s) : z.Bears (s.put f b) :=
  ⟨fun g hg => (get_put_other s (fun e => by rw [e, hf] at hg; cases hg) b).trans (h.get g hg), h.faults⟩

theorem set {f : Field} (hf : resting f.key = false) (v : Nat) (h : z.Bears s) : z.Bears (s.set f v) :=
  ⟨fun g hg => (get_set_other s (fun e => by rw [e, hf] at hg; cases hg) v).trans (h.get g hg), h.faults⟩

theorem modCl {f : ClusterS → ClusterS} (hf : ∀ c, (f c).faults = c.faults) (h : z.Bears s) : z.Bears (s.modCl k f) :=
  ⟨h.get, (updNth_map _ _ hf k s.cl).trans h.faults⟩

theorem enter (hk : k < 4) {st : Nat} (h : z.Bears s) : z.Bears (s.enter k st) := by
  by_cases hst : s.clState k = st
  · rw [Chip.enter, if_pos hst]
    exact h
  · refine trans (d := s.set (Reg.SEQ_STAT_state k) st) ⟨fun f hf => ?_, h.faults⟩ (of_spares (enter_spares hk hst))
    exact (get_set_other s (resting_ne hf hk) st).trans (h.get f hf)

theorem stirredField (hk : k < 4) {f : Field} (h : f ∈ stirredFields k) : resting f.key = false := by
  rw [resting, stirred hk h, Bool.false_and]

theorem setStanding (hk : k < 4) (b : Bool) (h : z.Bears s) : z.Bears (s.setStanding k b) :=
  put (stirredField hk (by simp [stirredFields])) _ (modCl (fun _ => rfl) h)

theorem unrecord {p : LogEntry → Bool} (h : z.Bears s) : z.Bears (s.unrecord p) := by
  unfold Chip.unrecord
  split <;> exact ⟨h.get, h.faults⟩

theorem unrefuse (hk : k < 4) (h : z.Bears s) : z.Bears (s.unrefuse k) := by
  unfold Chip.unrefuse
  split
  · exact h
  next b _ =>
    have hput : z.Bears ((s.modCl k fun c => { c with refNow := none }).put (Reg.SEQ_FLAGS_refused k) b) :=
      put (stirredField hk (by simp [stirredFields])) _ (modCl (fun _ => rfl) h)
    exact hput.unrecord

end Bears

/-! ### A fault that stands -/

theorem updNth_map_comm {α β : Type} {f : α → α} {g : β → β} {h : α → β} (hc : ∀ a, h (f a) = g (h a)) :
    ∀ (n : Nat) (l : List α), (updNth f n l).map h = updNth g n (l.map h)
  | 0, [] => rfl
  | _ + 1, [] => rfl
  | 0, a :: l => by simp [updNth, hc]
  | n + 1, a :: l => by simp [updNth, updNth_map_comm hc n l]

/-- The faults of a cluster that takes one of a code and place: one of the same stands once. -/
def withFault (x : Standing) (l : List Standing) : List Standing :=
  l.filter (fun y => !(y.code = x.code && y.inst = x.inst)) ++ [x]

theorem mem_withFault (x : Standing) (l : List Standing) : x ∈ withFault x l := List.mem_append_right _ (.head _)

/-- The fault x stands for cluster k, beside those that did; the resting fields keep their values. -/
structure Falls (k : Nat) (x : Standing) (c d : Chip) : Prop where
  get : ∀ f : Field, resting f.key = true → d.get f = c.get f
  faults : d.faultsOf = updNth (withFault x) k c.faultsOf

theorem Falls.bears {x : Standing} {c d e : Chip} (h : Falls k x c d) (hb : d.Bears e) : Falls k x c e :=
  ⟨fun f hf => (hb.get f hf).trans (h.get f hf), hb.faults.trans h.faults⟩

theorem Bears.falls {x : Standing} {c d e : Chip} (hb : c.Bears d) (h : Falls k x d e) : Falls k x c e :=
  ⟨fun f hf => (h.get f hf).trans (hb.get f hf), by rw [h.faults, hb.faults]⟩

theorem modCl_falls (s : Chip) (k : Nat) (x : Standing) :
    Falls k x s (s.modCl k fun c => { c with faults := withFault x c.faults }) :=
  ⟨fun _ _ => rfl, updNth_map_comm (h := ClusterS.faults) (g := withFault x) (fun _ => rfl) k s.cl⟩

theorem stand_falls (hk : k < 4) (code inst : Nat) (latch : Bool) :
    ∃ x : Standing, x.code = code ∧ (latch = true → x.latch = true) ∧ Falls k x s (s.stand k code inst latch) := by
  unfold stand
  extract_lets s1 lt s2 s3 s4
  have h1 : s.Bears s1 := Bears.modCl (fun _ => rfl) (.ite (.refl s) (.unrefuse hk (.refl s)))
  have hlt : latch = true → lt = true := fun h => by simp [lt, h]
  clear_value lt s1
  have h2 : Falls k ⟨code, inst, lt, s1.now⟩ s s2 := h1.falls (modCl_falls s1 k _)
  have h3 : s2.Bears s3 := by
    refine Bears.put (Bears.stirredField hk (by simp [stirredFields])) _ (.ite (.setStanding hk _ (.refl _)) (.refl _))
  have h4 : s2.Bears s4 := .ite h3 (h3.enter hk)
  clear_value s4
  refine ⟨_, rfl, hlt, h2.bears (h4.trans (Bears.of_spares (.ite ?_ ?_)))⟩
  · exact (Spares.refl _).refreshHold hk
  · exact (Spares.refl _).demandBegins hk

theorem fall_falls (hk : k < 4) (code cls inst : Nat) :
    ∃ x : Standing, x.code = code ∧ (cls = 3 → x.latch = true) ∧ Falls k x s (s.fall k code cls inst) := by
  unfold fall
  extract_lets s1
  have h1 : s.Bears s1 := by
    unfold s1
    split
    · split
      · exact (Bears.refl s).set (Bears.stirredField hk (by simp [stirredFields])) _
      · exact .refl s
    · exact .refl s
  obtain ⟨x, hcode, hlatch, hx⟩ := stand_falls (s := s1) hk code inst (s1.asLatch k code cls)
  exact ⟨x, hcode, fun h => hlatch (by simp [asLatch, h]), h1.falls hx⟩

theorem record_bears (s : Chip) (code cls inst cluster region data : Nat) :
    s.Bears (s.record code cls inst cluster region data) := .of_spares (Spares.record (.refl s))

theorem faultCl_falls (hk : k < 4) (code cls inst data : Nat) :
    ∃ x : Standing, x.code = code ∧ (cls = 3 → x.latch = true) ∧ Falls k x s (s.faultCl code cls inst k data) := by
  obtain ⟨x, hcode, hlatch, hx⟩ := fall_falls (s := s.record code cls inst k (rgnOf k) data) hk code cls inst
  exact ⟨x, hcode, hlatch, (record_bears ..).falls hx⟩

/-- The fault that stands is among its cluster's. -/
theorem Falls.mem {x : Standing} {c d : Chip} (h : Falls k x c d) (hk : k < c.cl.length) : x ∈ (d.cluster k).faults := by
  have hk' : k < c.faultsOf.length := by simpa [faultsOf] using hk
  rw [cluster_faults, h.faults, nth_updNth_self _ hk']
  exact mem_withFault ..

theorem Shaped.cl_lt {c : Chip} (h : c.Shaped) (k : Fin 4) : k.val < c.cl.length := by
  rw [h.cl]; exact k.isLt

theorem settle_latched {c : Chip} {code : Nat} : c.settle.Latched k code ↔ c.Latched k code := by
  unfold Latched cluster
  rw [settle_cl]

theorem settle_faulted {c : Chip} {code : Nat} : c.settle.Faulted k code ↔ c.Faulted k code := by
  unfold Faulted cluster
  rw [settle_cl]

theorem latched_faultCl (hs : s.Shaped) (k : Fin 4) (code inst data : Nat) :
    (s.faultCl code 3 inst k data).Latched k code := by
  obtain ⟨x, hcode, hlatch, hx⟩ := faultCl_falls (s := s) k.isLt code 3 inst data
  exact ⟨x, hx.mem (hs.cl_lt k), hcode, hlatch rfl⟩

theorem faulted_faultCl (hs : s.Shaped) (k : Fin 4) (code cls inst data : Nat) :
    (s.faultCl code cls inst k data).Faulted k code := by
  obtain ⟨x, hcode, -, hx⟩ := faultCl_falls (s := s) k.isLt code cls inst data
  exact ⟨x, hx.mem (hs.cl_lt k), hcode⟩

theorem get_faultCl (hk : k < 4) {f : Field} (hf : resting f.key = true) (code cls inst data : Nat) :
    (s.faultCl code cls inst k data).get f = s.get f := by
  obtain ⟨x, -, -, hx⟩ := faultCl_falls (s := s) hk code cls inst data
  exact hx.get f hf

end Sys2Proof.Machine.Chip
end

section
/-! SUPPORT. The demands of the safety logic after a change that spares what they are read from; a cluster that leaves SAFE; O34. -/

namespace Sys2Proof.Machine

namespace Chip

variable {s t : Chip} {k : Nat}

/-! ### Demands -/

theorem bits_mod_eq_zero (a b c d e g h i : Bool) :
    (b2n a + 2 * b2n b + 4 * b2n c + 8 * b2n d + 16 * b2n e + 32 * b2n g + 64 * b2n h + 128 * b2n i) % 128 = 0 ↔
      a = false ∧ b = false ∧ c = false ∧ d = false ∧ e = false ∧ g = false ∧ h = false := by
  have hz : ∀ x : Bool, x = false ↔ b2n x = 0 := by decide
  have hle : ∀ x : Bool, b2n x ≤ 1 := by decide
  simp only [hz]
  have := hle a; have := hle b; have := hle c; have := hle d
  have := hle e; have := hle g; have := hle h
  omega

/-- No demand stands but that of a fault outside Table 11-5. -/
theorem demand_mod_eq_zero : s.demand k % 128 = 0 ↔
    s.stoFor k = false ∧ (s.on Reg.SAFE_STAT_flt_low && s.motorType k) = false ∧
    ((bitsOf (s.topo k).cmp 16).any fun c => (s.cmpRole c == 1 || s.cmpRole c == 2) && s.cmpActs c) = false ∧
    ((s.cluster k).faults.any fun x => x.code / 256 == 2) = false ∧ (s.ov3Acts && s.motorType k) = false ∧
    s.on (Reg.SAFE_C_STAT_pc_sto k) = false ∧ ((s.topo k).type != 0 && (s.region (rgnOf k)).inReset) = false := by
  unfold demand
  extract_lets f
  exact bits_mod_eq_zero ..

/-- The module t has the untouched fields of s and the parts that the demands are read from. -/
structure Demands (s t : Chip) : Prop where
  get : ∀ f : Field, untouched f.key = true → t.get f = s.get f
  img : t.img = s.img
  pwr : t.pwr = s.pwr
  rgn : t.rgn = s.rgn

theorem untouched_converters {f : Field} (h : 0x41200000 * 32 ≤ f.key ∧ f.key < 0x41300000 * 32) :
    untouched f.key = true := by
  simp only [untouched, h.1, h.2, decide_true, Bool.and_self, Bool.true_or]

namespace Demands

variable (h : s.Demands t)
include h

theorem on {f : Field} (hf : untouched f.key = true) : t.on f = s.on f := by rw [on_eq, on_eq, h.get f hf]

theorem topo (j : Nat) : t.topo j = s.topo j := by rw [Chip.topo, Chip.topo, h.img]

theorem coupled : t.coupled = s.coupled := by rw [Chip.coupled, Chip.coupled, h.topo, h.topo]

theorem motorType : t.motorType k = s.motorType k := by rw [Chip.motorType, Chip.motorType, h.topo]

theorem stoFor : t.stoFor k = s.stoFor k := by
  rw [Chip.stoFor, Chip.stoFor, h.on (by decide), h.on (by decide), h.on (by decide), h.coupled]

theorem cmpRole {c : Nat} (hc : c < 16) : t.cmpRole c = s.cmpRole c := by
  have h0 : ∀ c < 8, untouched (Reg.SAFE_CMP_ROLE0_role c).key = true := by decide
  have h1 : ∀ c < 16, 8 ≤ c → untouched (Reg.SAFE_CMP_ROLE1_role c).key = true := by decide
  unfold Chip.cmpRole
  by_cases h8 : c < 8
  · rw [if_pos h8, if_pos h8, h.get _ (h0 c h8)]
  · rw [if_neg h8, if_neg h8, h.get _ (h1 c hc (Nat.le_of_not_lt h8))]

theorem cmpActs {c : Nat} (hc : c < 16) : t.cmpActs c = s.cmpActs c := by
  have hf : untouched (Reg.CMP_CFG_en c).key = true ∧ untouched (Reg.CMP_CFG_hi_en c).key = true ∧
      untouched (Reg.CMP_CFG_lo_en c).key = true := by
    refine ⟨?_, ?_, ?_⟩ <;> refine untouched_converters ?_ <;>
      simp only [Field.key, Reg.CMP_CFG_en, Reg.CMP_CFG_hi_en, Reg.CMP_CFG_lo_en] <;> omega
  obtain ⟨h1, h2, h3⟩ := hf
  simp only [Chip.cmpActs, Chip.cmpTripped, Chip.cmpInvalid, h.on h1, h.on h2, h.on h3, h.pwr,
    h.get Reg.CMP_STAT_hi_now (by decide), h.get Reg.CMP_STAT_lo_now (by decide)]

theorem ov3Acts : t.ov3Acts = s.ov3Acts := by
  unfold Chip.ov3Acts
  refine Bool.eq_iff_iff.2 ?_
  simp only [List.any_eq_true, List.mem_range]
  refine exists_congr fun c => and_congr_right fun hc => ?_
  rw [h.cmpRole hc, h.cmpActs hc]

theorem comparators (m : Nat) : ((bitsOf m 16).any fun c => (t.cmpRole c == 1 || t.cmpRole c == 2) && t.cmpActs c) =
    (bitsOf m 16).any fun c => (s.cmpRole c == 1 || s.cmpRole c == 2) && s.cmpActs c := by
  refine Bool.eq_iff_iff.2 ?_
  simp only [List.any_eq_true]
  refine exists_congr fun c => and_congr_right fun hc => ?_
  have hlt : c < 16 := List.mem_range.1 (List.mem_filter.1 hc).1
  rw [h.cmpRole hlt, h.cmpActs hlt]

/-- Where no demand stood none stands, if the cluster holds no fault. -/
theorem demand_of_no_fault (hk : k < 4) (hz : s.demand k % 128 = 0) (hf : (t.cluster k).faults = []) :
    t.demand k % 128 = 0 := by
  have hpc : ∀ k < 4, untouched (Reg.SAFE_C_STAT_pc_sto k).key = true := by decide
  obtain ⟨h1, h2, h3, -, h5, h6, h7⟩ := demand_mod_eq_zero.1 hz
  refine demand_mod_eq_zero.2 ⟨?_, ?_, ?_, ?_, ?_, ?_, ?_⟩
  · rw [h.stoFor, h1]
  · rw [h.on (by decide), h.motorType, h2]
  · rw [h.topo, h.comparators, h3]
  · rw [hf]; rfl
  · rw [h.ov3Acts, h.motorType, h5]
  · rw [h.on (hpc k hk), h6]
  · rw [h.topo, region, h.rgn]; exact h7

end Demands

/-! ### Leaving SAFE -/

theorem Spares.cluster (h : s.Spares t) (j : Nat) : (t.cluster j).burden = (s.cluster j).burden := by
  rw [Chip.cluster, Chip.cluster, ← nth_map ClusterS.burden rfl, ← nth_map ClusterS.burden rfl, h.burden]

theorem Spares.faultsOf (h : s.Spares t) : t.faultsOf = s.faultsOf := (Bears.of_spares h).faults

theorem modCl_faultsOf (s : Chip) (k : Nat) {f : ClusterS → ClusterS} (hf : ∀ c, (f c).faults = c.faults) :
    (s.modCl k f).faultsOf = s.faultsOf := updNth_map _ _ hf k s.cl

theorem enter_faultsOf (s : Chip) (hk : k < 4) (st : Nat) : (s.enter k st).faultsOf = s.faultsOf :=
  (Bears.enter hk (.refl s)).faults

theorem setHeld_faultsOf (s : Chip) (k code : Nat) : (s.setHeld k code).faultsOf = s.faultsOf :=
  modCl_faultsOf s k fun _ => rfl

theorem bcmStart_faultsOf (s : Chip) (hk : k < 4) : (s.bcmStart k).faultsOf = s.faultsOf := by
  unfold bcmStart
  split
  · split
    · extract_lets s1
      have h1 : (s1.enter k 2).faultsOf = s.faultsOf := (enter_faultsOf s1 hk 2).trans (setHeld_faultsOf s k 0)
      exact (modCl_faultsOf _ k (f := fun c => { c with startGates := true }) fun _ => rfl).trans h1
    · exact setHeld_faultsOf s k 1
  · exact setHeld_faultsOf s k 1

theorem enterCatch_faultsOf (s : Chip) (hk : k < 4) : (s.enterCatch k).faultsOf = s.faultsOf := by
  unfold enterCatch
  extract_lets s1 s2 s3
  have h2 : s2.faultsOf = s.faultsOf := enter_faultsOf s hk 1
  have h3 : s3.faultsOf = s2.faultsOf := modCl_faultsOf s2 k fun _ => rfl
  rw [← h2, ← h3, faultsOf, faultsOf]
  refine congrArg _ (Eq.symm ?_)
  have hi : s3.Inside (Part.mask [.regs, .cle]) (forEach (s3.engineSets k) (fun e t => (t.clearLists e).feZero e) s3) :=
    .each (.refl _ _) fun e t ht => feZero_inside (by rfl) (clearLists_inside (by rfl) ht)
  exact hi .cl (by rfl)

theorem tryLeaveSafe_faultsOf (s : Chip) (hk : k < 4) : (s.tryLeaveSafe k).faultsOf = s.faultsOf := by
  unfold tryLeaveSafe
  extract_lets c s1 s2
  have h0 : (s.modCl k fun c => { c with stoRel := false }).faultsOf = s.faultsOf := modCl_faultsOf s k fun _ => rfl
  have h1 : s1.faultsOf = s.faultsOf := (enter_faultsOf _ hk 0).trans h0
  have h12 : s2.faultsOf = s1.faultsOf := modCl_faultsOf s1 k fun _ => rfl
  have h2 : s2.faultsOf = s.faultsOf := h12.trans h1
  split
  · split
    · split
      · exact (bcmStart_faultsOf s2 hk).trans h2
      · exact (enterCatch_faultsOf s2 hk).trans h2
    · exact h1
  · rfl

/-- A cluster in SAFE that nothing holds leaves it. -/
theorem clState_tryLeaveSafe (hk : k < 4) (hst : s.clState k = 4) (hf : (s.cluster k).faults = [])
    (hsto : (s.cluster k).stoRel = false) (hstand : (s.cluster k).standing = false) (hz : s.demand k % 128 = 0) :
    (s.tryLeaveSafe k).clState k = 0 := by
  unfold tryLeaveSafe
  extract_lets c s1 s2
  rw [if_pos ⟨hst, by simp [c, hf], by simp [c, hsto], hz⟩]
  have hlen : k < s.cl.length ∨ s.cl.length ≤ k := Nat.lt_or_ge ..
  have hstand' : ((s.modCl k fun c => { c with stoRel := false }).cluster k).standing = false := by
    rcases hlen with h | h
    · rw [Chip.cluster, modCl, nth_updNth_self _ h]
      exact hstand
    · rw [Chip.cluster, modCl, nth, List.getD_eq_default _ _ ((updNth_length ..).trans_le h)]
      rfl
  have hst' : (s.modCl k fun c => { c with stoRel := false }).clState k ≠ 0 := fun h => by
    rw [show (s.modCl k fun c => { c with stoRel := false }).clState k = s.clState k from rfl, hst] at h
    cases h
  have h1 : (s1.cluster k).standing = false :=
    (congrArg (·.2.1) ((enter_spares hk hst').cluster k)).trans hstand'
  rw [if_neg (by simp [h1])]
  exact clState_enter hk (by decide)

end Chip

end Sys2Proof.Machine
end

section
/-! SUPPORT. The faults of a cluster found by the tick, and the retry of one; O34 assembled. -/

namespace Sys2Proof.Machine

namespace Chip

variable {s : Chip} {k : Nat}

/-! ### The retry of a fault -/

/-- The retry of a code is counted. -/
def retryCounted (s : Chip) (k code w : Nat) : Chip :=
  let c := s.modCl k fun t =>
    { t with retries := (t.retries.filter fun p => s.now < p.2 + w || p.1 != code) ++ [(code, s.now)] }
  c.set (Reg.SEQ_STAT_retries k) (min 15 (c.retriesUsed k code w))

/-- An outstanding fault is retried: counted, taken away, and the cluster's hold judged anew. -/
def retried (s : Chip) (k w : Nat) (x : Standing) : Chip :=
  ((s.retryCounted k x.code w).dropFault k x.code x.inst).refreshHold k

theorem retryCounted_spares (hk : k < 4) (code w : Nat) : s.Spares (s.retryCounted k code w) :=
  Spares.set (stirred hk (by simp [stirredFields])) _ (.modCl (fun _ => rfl) (.refl s))

theorem dropFault_cluster (hl : k < s.cl.length) (code inst : Nat) : (s.dropFault k code inst).cluster k =
    { s.cluster k with faults := (s.cluster k).faults.filter fun x => !(x.code = code && x.inst = inst) } :=
  nth_updNth_self _ hl

theorem retried_inside (w : Nat) (x : Standing) {M : Nat} (hM : Sub 135234 M) : s.Inside M (s.retried k w x) :=
  refreshHold_inside (hM.up rfl) 
    (modCl_inside (hM.up rfl) (set_inside (hM.up rfl) (modCl_inside (hM.up rfl) (.refl _ _))))

variable {x : Standing} (hk : k < 4) (hl : k < s.cl.length) (hf : (s.cluster k).faults = [x]) (w : Nat)
include hk hl hf

/-- The one fault retried is gone; what else holds the cluster is as before. -/
theorem retried_burden : ((s.retried k w x).cluster k).burden = ([], (s.cluster k).standing, (s.cluster k).stoRel) := by
  have hc := (retryCounted_spares (s := s) hk x.code w).cluster k
  have hlc : k < (s.retryCounted k x.code w).cl.length := (updNth_length ..).symm ▸ hl
  have hr : ((s.retried k w x).cluster k).burden = _ :=
    (Spares.refreshHold hk (.refl ((s.retryCounted k x.code w).dropFault k x.code x.inst))).cluster k
  rw [hr, dropFault_cluster hlc]
  simp only [ClusterS.burden, Prod.mk.injEq] at hc ⊢
  obtain ⟨hfaults, hstanding, hsto⟩ := hc
  rw [hfaults, hf]
  exact ⟨by simp, hstanding, hsto⟩

omit hl hf in
theorem retried_get {f : Field} (h : untouched f.key = true) : (s.retried k w x).get f = s.get f :=
  (((Spares.refreshHold hk (.refl _)).get f h).trans (c := s.get f) ((retryCounted_spares hk x.code w).get f h))

omit hl hf in
theorem retried_demands : s.Demands (s.retried k w x) := by
  have hi : s.Inside 135234 (s.retried k w x) := retried_inside w x (by rfl)
  exact ⟨fun f h => retried_get hk w h, (hi .img (by rfl)).symm, (hi .pwr (by rfl)).symm, (hi .rgn (by rfl)).symm⟩

theorem faults_tryLeaveSafe_retried : (((s.retried k w x).tryLeaveSafe k).cluster k).faults = [] := by
  rw [cluster_faults, tryLeaveSafe_faultsOf _ hk, ← cluster_faults]
  exact congrArg Prod.fst (retried_burden hk hl hf w)

/-- With nothing else that holds it, the cluster leaves SAFE. -/
theorem clState_tryLeaveSafe_retried (hst : s.clState k = 4) (hz : s.demand k % 128 = 0)
    (hsto : (s.cluster k).stoRel = false) (hstand : (s.cluster k).standing = false) :
    ((s.retried k w x).tryLeaveSafe k).clState k = 0 := by
  have hb := retried_burden hk hl hf w
  rw [hsto, hstand] at hb
  simp only [ClusterS.burden, Prod.mk.injEq] at hb
  obtain ⟨hfaults, hstanding, hrel⟩ := hb
  exact clState_tryLeaveSafe hk ((retried_get hk w (untouched_state hk)).trans hst) hfaults hrel hstanding
    ((retried_demands hk w).demand_of_no_fault hk hz hfaults)

end Chip

/-! ### The commands -/

variable {s : State} (k : Fin 4) (hd : s.chip.pwr.dieReset = false)
include hd

theorem decelTimeout_touches (hs : s.chip.Shaped) (hst : s.chip.clState k = 3)
    (hto : s.chip.get (Reg.SEQ_DEC_TO_ms k) ≠ 0)
    (hpast : (s.chip.cluster k).enteredAt + Chip.ms (s.chip.get (Reg.SEQ_DEC_TO_ms k)) ≤ s.chip.now) :
    Touches (.decelTimeout k) s [.regs, .log, .pwr, .cl, .slice, .isl, .safe] (fun t => t.Latched k 0x0518) := by
  have hx : exec (.decelTimeout k) s =
      s.act fun c => c.faultCl 0x0518 3 k k (c.get (Reg.OBS_SPEED_v (c.engineOf k))) :=
    State.act_congr (if_pos (by simp [hst, hto, hpast]))
  exact touches_of_act hx hd (Chip.faultCl_inside (by rfl) (.refl _ _))
    (Chip.settle_latched.2 (Chip.latched_faultCl hs k ..))

theorem decelTimeout_completes (hto : s.chip.get (Reg.SEQ_DEC_TO_ms k) = 0) :
    Completes (.decelTimeout k) s [] [] (fun _ => True) :=
  completes_unchanged rfl hd (if_neg (by simp [hto]))

theorem keAbnormal_touches (hs : s.chip.Shaped)
    (hen : s.chip.on (Reg.OBS_CFG_ke_chk_en (s.chip.engineOf k)) = true)
    (hlent : s.chip.on (Reg.SEQ_STAT_lent k) = false)
    (hpast : Chip.ms 2000 ≤ (s.chip.cluster (s.chip.engineOf k)).keTicks) (hno : ¬ s.chip.Faulted k 0x0513) :
    Touches (.keAbnormal k) s [.regs, .log, .pwr, .cl, .slice, .isl, .safe] (fun t => t.Latched k 0x0513 ∧
      t.get (Reg.SEQ_FLAGS_ke_ev k) = 1) := by
  have hno' : ((s.chip.cluster k).faults.any fun x => x.code = 0x0513) = false := by
    simpa [Chip.Faulted] using hno
  have hx : exec (.keAbnormal k) s = s.act fun c =>
      (c.put (Reg.SEQ_FLAGS_ke_ev k) true).faultCl 0x0513 3 k k (c.get (Reg.OBS_KE_DEV_v (c.engineOf k))) :=
    State.act_congr (if_pos (by simp [hen, hlent, hpast, hno']))
  have hkey : ∀ k : Fin 4, Chip.resting (Reg.SEQ_FLAGS_ke_ev k).key = true := by decide
  have hs' : (s.chip.put (Reg.SEQ_FLAGS_ke_ev k) true).Shaped := Chip.put_shape id hs
  refine touches_of_act hx hd (Chip.faultCl_inside (by rfl) (Chip.put_inside (by rfl) (.refl _ _)))
    ⟨Chip.settle_latched.2 (Chip.latched_faultCl hs' k ..), ?_⟩
  rw [Chip.settle_get, Chip.get_faultCl k.isLt (hkey k), Chip.get_put_self]
  · rfl
  · exact Nat.one_pos

section BcmStall

variable {n : Nat} (hn : s.chip.posOf k = some n)
include hn

theorem bcmStall_touches (hs : s.chip.Shaped) (ht : (s.chip.topo k).type = 5)
    (hduty : s.chip.get (Reg.FC_BCM_CTL_duty k) ≠ 0) (hstall : s.chip.get (Reg.FC_BCM_CTL_stall k) ≠ 0)
    (hpast : (s.chip.posS n).tE + Chip.ms (s.chip.get (Reg.FC_BCM_CTL_stall k)) ≤ (s.chip.now : Int)) :
    Touches (.bcmStall k) s [.regs, .log, .pwr, .cl, .slice, .isl, .safe] (fun t => t.Faulted k 0x051B) := by
  by_cases hno : s.chip.Faulted k 0x051B
  · have hx : exec (.bcmStall k) s = s.act id := State.act_congr (if_neg (by
      simpa [hn] using fun _ _ _ _ => hno))
    exact touches_of_act hx hd (.refl _ _) (Chip.settle_faulted.2 hno)
  · have hx : exec (.bcmStall k) s = s.act fun c => c.faultCl 0x051B 2 k k (c.get (Reg.POS_STAT_hall n)) :=
      State.act_congr ((if_pos (by simpa [Chip.Faulted, hn, ht, hduty, hstall, hpast] using hno)).trans (by rw [hn]))
    exact touches_of_act hx hd (Chip.faultCl_inside (by rfl) (.refl _ _))
      (Chip.settle_faulted.2 (Chip.faulted_faultCl hs k ..))

theorem bcmStall_completes
    (hnow : (s.chip.now : Int) < (s.chip.posS n).tE + Chip.ms (s.chip.get (Reg.FC_BCM_CTL_stall k))) :
    Completes (.bcmStall k) s [] [] (fun _ => True) := by
  have hf : ¬ (s.chip.posS n).tE + Chip.ms (s.chip.get (Reg.FC_BCM_CTL_stall k)) ≤ (s.chip.now : Int) := by omega
  exact completes_unchanged rfl hd (if_neg (by simp [hn, hf]))

end BcmStall

theorem safeRetry_touches (hs : s.chip.Shaped) {x : Standing} (hx : (s.chip.cluster k).faults = [x])
    (hcode : x.code < 65536) (hlatch : x.latch = false) (hgone : s.chip.causeGone k x = true) {r : Nat × Nat × Nat}
    (hr : Chip.retryRule x.code = some r) (hwait : r.1 + s.chip.waitFrom x ≤ s.chip.now) :
    Touches (.safeRetry k (Fin.ofNat 65536 x.code)) s [.regs, .log, .pwr, .cl, .cle, .slice, .isl, .safe] (fun t =>
      (t.cluster k).faults = [] ∧ (s.chip.clState k = 4 → s.chip.demand k % 128 = 0 → (s.chip.cluster k).stoRel = false →
        (s.chip.cluster k).standing = false → t.clState k = 0)) := by
  obtain ⟨wait, m, w⟩ := r
  have hval : (Fin.ofNat 65536 x.code).val = x.code := Nat.mod_eq_of_lt hcode
  have he : exec (.safeRetry k (Fin.ofNat 65536 x.code)) s = s.act fun c => (c.retried k w x).tryLeaveSafe k := by
    refine State.act_congr ?_
    simp only [hval, hr, hx, List.find?_cons, hlatch, hgone, hwait, decide_true, Bool.not_false, Bool.and_self]
    rfl
  have hl := hs.cl_lt k
  refine touches_of_act he hd (Chip.tryLeaveSafe_inside (by rfl) (Chip.retried_inside w x (by rfl))) ?_
  have hcl : ∀ c : Chip, c.settle.cluster k = c.cluster k := fun c => by rw [Chip.cluster, Chip.cluster, Chip.settle_cl]
  have hst : ∀ c : Chip, c.settle.clState k = c.clState k := fun c => Chip.settle_get ..
  rw [hcl, hst]
  exact ⟨Chip.faults_tryLeaveSafe_retried k.isLt hl hx w,
    fun h4 hz hsto hstand => Chip.clState_tryLeaveSafe_retried k.isLt hl hx w h4 hz hsto hstand⟩

end Sys2Proof.Machine
end

section

namespace Sys2Proof.Machine

/-- Settles O34: the faults stand after `faultCl`, which enters SAFE around them; a retry takes the cluster's one fault away, and
what the demands are read from is as before. -/
theorem clusterFaultsAndRetry : Obligations.ClusterFaultsAndRetry := by
  intro s k hd hs
  refine ⟨decelTimeout_touches k hd hs, decelTimeout_completes k hd, keAbnormal_touches k hd hs, ?_, ?_⟩
  · intro ht hduty hstall n hn
    have hpos : s.chip.posOf k = some n := Option.mem_toList.1 hn
    exact ⟨bcmStall_touches k hd hpos hs ht hduty hstall, bcmStall_completes k hd hpos⟩
  · intro x hx hcode hlatch hgone hone r hr
    obtain ⟨y, hy⟩ := List.length_eq_one_iff.1 hone
    obtain rfl : x = y := by simpa [hy] using hx
    exact safeRetry_touches k hd hs hy hcode hlatch hgone (Option.mem_toList.1 hr)

end Sys2Proof.Machine
end

section
/-! SUPPORT. The slots of a cluster: what a descriptor written holds, which slots are valid, and what a write records. -/

namespace Sys2Proof.Machine

namespace Chip

/-! ### Slots that read the same -/

/-- A field in the block of the descriptors of cluster k's slots. -/
def slotField (k : Nat) (f : Field) : Prop :=
  (0x41201000 + 0x200 * k) * 32 ≤ f.key ∧ f.key < (0x41201000 + 0x200 * k + 0x70) * 32

/-- The module d has the descriptors and the topology of c. -/
structure SameSlots (k : Nat) (c d : Chip) : Prop where
  get : ∀ f : Field, slotField k f → d.get f = c.get f
  img : d.img = c.img

theorem slotField_of_mem {k i : Nat} (hi : i < 28) {f : Field} (h : f ∈ [Reg.ADC_C_SLOT_off k i, Reg.ADC_C_SLOT_role k i,
    Reg.ADC_C_SLOT_path k i, Reg.ADC_C_SLOT_unit k i, Reg.ADC_C_SLOT_ain k i]) : slotField k f := by
  simp only [List.mem_cons, List.not_mem_nil, or_false] at h
  rcases h with rfl | rfl | rfl | rfl | rfl <;>
    simp only [slotField, Field.key, Reg.ADC_C_SLOT_off, Reg.ADC_C_SLOT_role, Reg.ADC_C_SLOT_path, Reg.ADC_C_SLOT_unit,
      Reg.ADC_C_SLOT_ain] <;> omega

theorem slotField_untouched {k : Nat} (hk : k < 4) {f : Field} (h : slotField k f) : untouched f.key = true := by
  obtain ⟨h1, h2⟩ := h
  exact untouched_converters (by omega)

namespace SameSlots

variable {c d e : Chip} {k : Nat}

theorem refl (c : Chip) : SameSlots k c c := ⟨fun _ _ => rfl, rfl⟩

theorem trans (h : SameSlots k c d) (g : SameSlots k d e) : SameSlots k c e :=
  ⟨fun f hf => (g.get f hf).trans (h.get f hf), g.img.trans h.img⟩

theorem settle (c : Chip) : SameSlots k c c.settle := ⟨fun _ _ => settle_get .., settle_img ..⟩

variable (h : SameSlots k c d)
include h

theorem slotRole {i : Nat} (hi : i < 28) : d.slotRole k i = c.slotRole k i := by
  rw [Chip.slotRole, Chip.slotRole, h.get _ (slotField_of_mem hi (by simp))]

theorem slotPath {i : Nat} (hi : i < 28) : d.slotPath k i = c.slotPath k i := h.get _ (slotField_of_mem hi (by simp))

theorem slotUnit {i : Nat} (hi : i < 28) : d.slotUnit k i = c.slotUnit k i := h.get _ (slotField_of_mem hi (by simp))

theorem slotReason {i : Nat} (hi : i < 28) {prev : List Nat} (hp : ∀ j ∈ prev, j < 28) :
    d.slotReason k i prev = c.slotReason k i prev := by
  have hsame : prev.filter (fun j => d.slotRole k j = c.slotRole k i) = prev.filter fun j => c.slotRole k j = c.slotRole k i :=
    List.filter_congr fun j hj => by rw [h.slotRole (hp j hj)]
  have hpath : (prev.filter fun j => c.slotRole k j = c.slotRole k i).filter (fun j => d.slotPath k j = c.slotPath k i) =
      (prev.filter fun j => c.slotRole k j = c.slotRole k i).filter fun j => c.slotPath k j = c.slotPath k i :=
    List.filter_congr fun j hj => by rw [h.slotPath (hp j (List.mem_filter.1 hj).1)]
  have hany : (prev.any fun j => d.slotPath k j = c.slotPath k i && d.slotUnit k j = c.slotUnit k i) =
      prev.any fun j => c.slotPath k j = c.slotPath k i && c.slotUnit k j = c.slotUnit k i := by
    refine Bool.eq_iff_iff.2 ?_
    simp only [List.any_eq_true]
    refine exists_congr fun j => and_congr_right fun hj => ?_
    rw [h.slotPath (hp j hj), h.slotUnit (hp j hj)]
  have htopo : d.topo k = c.topo k := by rw [Chip.topo, Chip.topo, h.img]
  have hain : d.get (Reg.ADC_C_SLOT_ain k i) = c.get (Reg.ADC_C_SLOT_ain k i) := h.get _ (slotField_of_mem hi (by simp))
  simp only [Chip.slotReason, h.slotRole hi, h.slotPath hi, h.slotUnit hi, hain,
    hsame, hpath, hany, htopo]

end SameSlots

/-! ### Valid slots -/

variable (s : Chip) (k : Nat)

/-- The valid slots below n, ascending. -/
def validUpTo (n : Nat) : List Nat :=
  (List.range n).foldl (fun l i => if s.slotReason k i l = 0 then l ++ [i] else l) []

theorem validSlots_eq_validUpTo : s.validSlots k = s.validUpTo k 28 := rfl

/-- Slot i is valid beside the valid slots below it. -/
def takesSlot (i : Nat) : Bool := s.slotReason k i (s.validUpTo k i) == 0

theorem validUpTo_succ (n : Nat) :
    s.validUpTo k (n + 1) = if s.takesSlot k n then s.validUpTo k n ++ [n] else s.validUpTo k n := by
  rw [validUpTo, List.range_succ, List.foldl_append]
  simp only [List.foldl_cons, List.foldl_nil, takesSlot, beq_iff_eq]
  rfl

theorem validUpTo_eq_filter : ∀ n, s.validUpTo k n = (List.range n).filter (s.takesSlot k)
  | 0 => rfl
  | n + 1 => by
    rw [validUpTo_succ, validUpTo_eq_filter n, List.range_succ, List.filter_append]
    cases h : s.takesSlot k n <;> simp [h]

theorem mem_validUpTo {n i : Nat} : i ∈ s.validUpTo k n ↔ i < n ∧ s.takesSlot k i = true := by
  rw [validUpTo_eq_filter, List.mem_filter, List.mem_range]

theorem lt_of_mem_validUpTo {n i : Nat} (hn : n ≤ 28) (h : i ∈ s.validUpTo k n) : i < 28 :=
  ((mem_validUpTo s k).1 h).1.trans_le hn

/-- The valid slots below i are those that a write to slot i compares it with. -/
theorem validUpTo_filter_lt {n i : Nat} (h : i ≤ n) : (s.validUpTo k n).filter (fun j => j < i) = s.validUpTo k i := by
  induction n, h using Nat.le_induction with
  | base => exact List.filter_eq_self.2 fun j hj => by simpa using ((mem_validUpTo s k).1 hj).1
  | succ n hn ih =>
    rw [validUpTo_succ]
    split
    · rw [List.filter_append, ih]
      simp [Nat.not_lt.2 hn]
    · exact ih

theorem SameSlots.validUpTo {k : Nat} {c d : Chip} (h : SameSlots k c d) : ∀ {n}, n ≤ 28 → d.validUpTo k n = c.validUpTo k n
  | 0, _ => rfl
  | n + 1, hn => by
    have ih := h.validUpTo (Nat.le_of_succ_le hn)
    have hr : d.slotReason k n (c.validUpTo k n) = c.slotReason k n (c.validUpTo k n) :=
      h.slotReason hn fun _ hj => lt_of_mem_validUpTo c k (Nat.le_of_succ_le hn) hj
    rw [validUpTo_succ, validUpTo_succ, takesSlot, takesSlot, ih, hr]

/-- The mask of the valid slots. -/
theorem validSlots_mask : (s.validSlots k).foldl (fun w i => w + 2 ^ i) 0 = bitMask (s.takesSlot k) 28 := by
  rw [validSlots_eq_validUpTo, validUpTo_eq_filter, List.foldl_filter]
  rfl

/-! ### A descriptor written -/

theorem fieldsAt_slot : ∀ (k : Fin 4) (i : Fin 28), fieldsAt (0x41201000 + 0x200 * k.val + 4 * i.val) =
    some [Reg.ADC_C_SLOT_off k i, Reg.ADC_C_SLOT_role k i, Reg.ADC_C_SLOT_path k i, Reg.ADC_C_SLOT_unit k i,
      Reg.ADC_C_SLOT_ain k i] := by
  decide +kernel

variable {s k}

theorem configWord_slot (k : Fin 4) (i : Fin 28) (d : Nat) : s.configWord (0x41201000 + 0x200 * k.val + 4 * i.val) d =
    s.sets [(Reg.ADC_C_SLOT_off k i, part d 16 16), (Reg.ADC_C_SLOT_role k i, part d 12 4),
      (Reg.ADC_C_SLOT_path k i, part d 10 1), (Reg.ADC_C_SLOT_unit k i, part d 6 4), (Reg.ADC_C_SLOT_ain k i, part d 0 6)] := by
  rw [configWord, fieldsAt_slot]
  rfl

/-- The descriptor of slot i of cluster k holds a word. -/
structure HoldsSlot (c : Chip) (k i d : Nat) : Prop where
  off : c.get (Reg.ADC_C_SLOT_off k i) = part d 16 16
  role : c.get (Reg.ADC_C_SLOT_role k i) = part d 12 4
  path : c.get (Reg.ADC_C_SLOT_path k i) = part d 10 1
  unit : c.get (Reg.ADC_C_SLOT_unit k i) = part d 6 4
  ain : c.get (Reg.ADC_C_SLOT_ain k i) = part d 0 6

theorem configWord_holdsSlot (k : Fin 4) (i : Fin 28) (d : Nat) :
    (s.configWord (0x41201000 + 0x200 * k.val + 4 * i.val) d).HoldsSlot k i d := by
  have set_part : ∀ (t : Chip) (f : Field) (l : Nat), (t.set f (part d l f.width)).get f = part d l f.width :=
    fun t f l => (get_set_self ..).trans (Nat.mod_eq_of_lt (part_lt ..))
  rw [configWord_slot]
  simp only [sets, List.foldl]
  constructor
  all_goals
    repeat rw [get_set_other _ (by simp only [Field.key, Reg.ADC_C_SLOT_off, Reg.ADC_C_SLOT_role, Reg.ADC_C_SLOT_path,
      Reg.ADC_C_SLOT_unit, Reg.ADC_C_SLOT_ain]; omega)]
    exact set_part ..

theorem SameSlots.holdsSlot {c d : Chip} {k i w : Nat} (h : SameSlots k c d) (hi : i < 28) (hc : c.HoldsSlot k i w) :
    d.HoldsSlot k i w :=
  ⟨(h.get _ (slotField_of_mem hi (by simp))).trans hc.off, (h.get _ (slotField_of_mem hi (by simp))).trans hc.role,
    (h.get _ (slotField_of_mem hi (by simp))).trans hc.path, (h.get _ (slotField_of_mem hi (by simp))).trans hc.unit,
    (h.get _ (slotField_of_mem hi (by simp))).trans hc.ain⟩

/-! ### The write of a slot -/

/-- The status of cluster k's slots is no descriptor's field. -/
theorem not_slotField {k : Nat} {f : Field} (h : (0x4120110C + 0x200 * k) * 32 ≤ f.key) {g : Field} (hg : slotField k g) :
    g.key ≠ f.key := by
  obtain ⟨-, h2⟩ := hg
  omega

theorem showSlots_sameSlots (s : Chip) (k : Nat) : SameSlots k s (s.showSlots k) := by
  refine ⟨fun f hf => ?_, rfl⟩
  have hv : f.key ≠ (Reg.ADC_C_STAT_valid k).key := not_slotField (by simp [Field.key, Reg.ADC_C_STAT_valid]) hf
  have hc : f.key ≠ (Reg.ADC_C_STAT_cover k).key := not_slotField (by simp [Field.key, Reg.ADC_C_STAT_cover]) hf
  have h2 : f.key ≠ (Reg.ADC_C_STAT_vdc2 k).key := not_slotField (by simp [Field.key, Reg.ADC_C_STAT_vdc2]) hf
  unfold showSlots
  simp only [sets, List.foldl]
  rw [get_set_other _ h2, get_set_other _ hc, get_set_other _ hv]

/-- The status of the slots shows those that stand. -/
theorem get_valid_showSlots (s : Chip) (k : Nat) :
    (s.showSlots k).get (Reg.ADC_C_STAT_valid k) = bitMask (s.takesSlot k) 28 := by
  have hc : (Reg.ADC_C_STAT_valid k).key ≠ (Reg.ADC_C_STAT_cover k).key := by
    simp [Field.key, Reg.ADC_C_STAT_valid, Reg.ADC_C_STAT_cover]
  have h2 : (Reg.ADC_C_STAT_valid k).key ≠ (Reg.ADC_C_STAT_vdc2 k).key := by
    simp [Field.key, Reg.ADC_C_STAT_valid, Reg.ADC_C_STAT_vdc2]
  unfold showSlots
  simp only [sets, List.foldl]
  rw [get_set_other _ h2, get_set_other _ hc, get_set_self, validSlots_mask]
  exact Nat.mod_eq_of_lt (bitMask_lt ..)

/-- The record of a bad slot: it changes no descriptor and no status of the slots. -/
def slotBad (s : Chip) (k i r : Nat) : Chip := (s.put (Reg.ADC_C_FLAGS_slot_bad k) true).noteCl 0x0316 k (i + 256 * r)

theorem get_slotBad {f : Field} (hf : untouched f.key = true) (k i r : Nat) :
    (s.slotBad k i r).get f = (s.put (Reg.ADC_C_FLAGS_slot_bad k) true).get f :=
  (Spares.noteCl (.refl _)).get f hf

theorem slotWritten_eq (s : Chip) (k i : Nat) : s.slotWritten k i =
    let t := s.showSlots k
    let r := t.slotReason k i ((t.validSlots k).filter fun j => j < i)
    if t.slotRole k i != 0 && r != 0 then t.slotBad k i r else t := rfl

theorem slotBad_sameSlots {k : Nat} (hk : k < 4) (i r : Nat) : SameSlots k s (s.slotBad k i r) := by
  refine ⟨fun f hf => ?_, ?_⟩
  · rw [get_slotBad (slotField_untouched hk hf)]
    exact get_put_other _ (not_slotField (by simp only [Field.key, Reg.ADC_C_FLAGS_slot_bad]; omega) hf) _
  · exact (noteCl_inside (M := 66) (by rfl) (put_inside (by rfl) (.refl s _)) .img (by rfl)).symm

theorem get_valid_slotBad {k : Nat} (hk : k < 4) (i r : Nat) :
    (s.slotBad k i r).get (Reg.ADC_C_STAT_valid k) = s.get (Reg.ADC_C_STAT_valid k) := by
  have hu : ∀ k < 4, untouched (Reg.ADC_C_STAT_valid k).key = true := by decide
  rw [get_slotBad (hu k hk)]
  exact get_put_other _ (by simp only [Field.key, Reg.ADC_C_STAT_valid, Reg.ADC_C_FLAGS_slot_bad]; omega) _

theorem slotWritten_sameSlots {k : Nat} (hk : k < 4) (i : Nat) : SameSlots k s (s.slotWritten k i) := by
  rw [slotWritten_eq]
  extract_lets t r
  have ht : SameSlots k s t := showSlots_sameSlots s k
  split
  · exact ht.trans (slotBad_sameSlots hk ..)
  · exact ht

theorem hasBit_valid_slotWritten {k : Nat} (hk : k < 4) (i : Nat) {j : Nat} (hj : j < 28) :
    hasBit ((s.slotWritten k i).get (Reg.ADC_C_STAT_valid k)) j = s.takesSlot k j := by
  have hget : (s.slotWritten k i).get (Reg.ADC_C_STAT_valid k) = bitMask (s.takesSlot k) 28 := by
    rw [slotWritten_eq, ← get_valid_showSlots]
    extract_lets t r
    split
    · exact get_valid_slotBad hk ..
    · rfl
  rw [hget, hasBit_bitMask]
  simp [hj]

/-- A slot in use that is not valid is recorded. -/
theorem slotWritten_bad {k i : Nat} (hk : k < 4) (hi : i < 28) (hrole : s.slotRole k i ≠ 0) (hbad : s.takesSlot k i = false) :
    (s.slotWritten k i).get (Reg.ADC_C_FLAGS_slot_bad k) = 1 ∧ (s.slotWritten k i).log.seq = (s.log.seq + 1) % 65536 := by
  have hu : ∀ k < 4, untouched (Reg.ADC_C_FLAGS_slot_bad k).key = true := by decide
  have ht := showSlots_sameSlots s k
  have hr : (s.showSlots k).slotReason k i (((s.showSlots k).validSlots k).filter fun j => j < i) ≠ 0 := by
    rw [validSlots_eq_validUpTo, validUpTo_filter_lt _ _ hi.le, ht.validUpTo hi.le,
      ht.slotReason hi fun _ hj => lt_of_mem_validUpTo s k hi.le hj]
    simpa [takesSlot] using hbad
  rw [slotWritten_eq]
  extract_lets t r
  rw [if_pos (by simp [t, r, ht.slotRole hi, hrole, hr])]
  refine ⟨?_, record_seq ..⟩
  rw [get_slotBad (hu k hk), get_put_self _ _ _ Nat.one_pos]
  rfl

end Chip

/-! ### The command -/

theorem Chip.refuse_spares (c : Chip) (a : Nat) : c.Spares (c.refuse a) := by
  unfold Chip.refuse Chip.common
  exact .record (.same (.refl c) rfl rfl)

theorem Chip.refuse_seq (c : Chip) (a : Nat) : (c.refuse a).log.seq = (c.log.seq + 1) % 65536 := by
  unfold Chip.refuse Chip.common
  exact Chip.record_seq c.useFree ..

variable {s : State} (k : Fin 4) (i : Fin 28) (d : Word) (hd : s.chip.pwr.dieReset = false)

/-- The descriptors of a cluster's slots take writes where the cluster is quiet. -/
theorem Chip.rwlOpen_slot (c : Chip) (k : Fin 4) (i : Fin 28) :
    c.rwlOpen (0x41201000 + 0x200 * k.val + 4 * i.val) = c.quiet k := by
  have hw : (0x41201000 + 0x200 * k.val + 4 * i.val) / 0x100000 = 0x412 := by omega
  have ho : (0x41201000 + 0x200 * k.val + 4 * i.val) % 0x100000 = 0x1000 + 0x200 * k.val + 4 * i.val := by omega
  have hu : c.unitAt (0x41201000 + 0x200 * k.val + 4 * i.val) = ⟨3, k, k⟩ := by
    have hq : (0x1000 + 0x200 * k.val + 4 * i.val - 0x1000) / 0x200 = k.val := by omega
    unfold Chip.unitAt
    simp only [hw, ho, hq]
    rw [if_neg (by decide), if_neg (by decide), if_neg (by decide), if_pos trivial, if_neg (by omega), if_neg (by omega),
      if_neg (by omega), if_pos (by omega)]
  have hown : c.rwlOwners (0x41201000 + 0x200 * k.val + 4 * i.val) = [k.val] := by
    unfold Chip.rwlOwners
    simp only [hw, ho, hu]
    rw [if_neg (by omega), if_neg (by omega), if_neg (by omega), if_neg (by omega), if_pos k.isLt]
  have hl : c.lentEngine (0x41201000 + 0x200 * k.val + 4 * i.val) = false := by
    rw [Chip.lentEngine, hw]
    rfl
  rw [Chip.rwlOpen, hown, hl]
  simp

include hd

theorem slotWrite_quiet_touches (hq : s.chip.quiet k = true) : Touches (.slotWrite k i d) s [.regs, .free, .log] (fun t =>
    t.HoldsSlot k i d.toNat ∧
    (∀ j : Fin 28, hasBit (t.get (Reg.ADC_C_STAT_valid k)) j = decide (j.val ∈ t.validSlots k)) ∧
    (t.slotRole k i ≠ 0 → i.val ∉ t.validSlots k → t.get (Reg.ADC_C_FLAGS_slot_bad k) = 1 ∧
      t.log.seq = (s.chip.log.seq + 1) % 65536)) := by
  have hx : exec (.slotWrite k i d) s = s.act fun c =>
      (c.configWord (0x41201000 + 0x200 * k.val + 4 * i.val) d.toNat).slotWritten k i :=
    State.act_congr (if_pos ((Chip.rwlOpen_slot ..).trans hq))
  let c := s.chip.configWord (0x41201000 + 0x200 * k.val + 4 * i.val) d.toNat
  have hlog : c.log = s.chip.log :=
    (Chip.configWord_inside (M := 2) (by rfl) (.refl s.chip _) .log (by rfl)).symm
  have hsame : Chip.SameSlots k c (c.slotWritten k i).settle :=
    (Chip.slotWritten_sameSlots k.isLt i).trans (.settle _)
  have hmem : ∀ j : Nat, j < 28 → (j ∈ (c.slotWritten k i).settle.validSlots k ↔ c.takesSlot k j = true) := fun j hj => by
    rw [Chip.validSlots_eq_validUpTo, hsame.validUpTo le_rfl, Chip.mem_validUpTo]
    exact and_iff_right hj
  refine touches_of_act hx hd
    (Chip.slotWritten_inside (by rfl) (Chip.configWord_inside (by rfl) (.refl _ _)))
    ⟨hsame.holdsSlot i.isLt (Chip.configWord_holdsSlot k i _), fun j => ?_, fun hrole hbad => ?_⟩
  · rw [Chip.settle_get, Chip.hasBit_valid_slotWritten k.isLt i j.isLt]
    exact Bool.eq_iff_iff.2 ((hmem j j.isLt).symm.trans (decide_eq_true_iff).symm)
  · rw [hsame.slotRole i.isLt] at hrole
    rw [hmem i i.isLt, Bool.not_eq_true] at hbad
    rw [Chip.settle_get, Chip.settle_log, ← hlog]
    exact Chip.slotWritten_bad k.isLt i.isLt hrole hbad

theorem slotWrite_refused_touches (hq : s.chip.quiet k = false) :
    Touches (.slotWrite k i d) s [.regs, .free, .log] (fun t =>
      t.get (Reg.ADC_C_SLOT_role k i) = s.chip.get (Reg.ADC_C_SLOT_role k i) ∧
      t.get (Reg.ADC_C_STAT_valid k) = s.chip.get (Reg.ADC_C_STAT_valid k) ∧
      t.log.seq = (s.chip.log.seq + 1) % 65536) := by
  have hx : exec (.slotWrite k i d) s = s.act fun c => c.refuse (0x41201000 + 0x200 * k.val + 4 * i.val) :=
    State.act_congr (if_neg (by rw [Chip.rwlOpen_slot, hq]; exact Bool.false_ne_true))
  have hu : ∀ k < 4, Chip.untouched (Reg.ADC_C_STAT_valid k).key = true := by decide
  have hslot : Chip.untouched (Reg.ADC_C_SLOT_role k i).key = true :=
    Chip.slotField_untouched k.isLt (Chip.slotField_of_mem i.isLt (by simp))
  have hspares := s.chip.refuse_spares (0x41201000 + 0x200 * k.val + 4 * i.val)
  refine touches_of_act hx hd (Chip.refuse_inside (by rfl) (.refl _ _)) ?_
  rw [Chip.settle_get, Chip.settle_get, Chip.settle_log]
  exact ⟨hspares.get _ hslot, hspares.get _ (hu k k.isLt), Chip.refuse_seq ..⟩

end Sys2Proof.Machine
end

section
/-! SUPPORT. A fault of the clusters that a unit is assigned to, and a bit stream that is stuck; O42 assembled. -/

namespace Sys2Proof.Machine

/-- A bit that is cleared is clear. -/
theorem hasBit_clrBit_self (v i : Nat) : hasBit (clrBit v i) i = false := by
  unfold clrBit
  split
  next h =>
    have hdiv : (v - 2 ^ i) / 2 ^ i = v / 2 ^ i - 1 := by simpa using Nat.sub_mul_div v (2 ^ i) 1
    simp only [hasBit, bitOf, beq_iff_eq] at h
    rw [hasBit, bitOf, hdiv]
    simp only [beq_eq_false_iff_ne]
    omega
  next h => exact Bool.eq_false_iff.2 h

theorem Touches.imp {i : Instr} {s : State} {ps : List Part} {p q : Chip → Prop} (h : Touches i s ps p)
    (hpq : ∀ t, p t → q t) : Touches i s ps q := by
  obtain ⟨t, ht, hq, hw, hp⟩ := h
  exact ⟨t, ht, hq, hw, hpq _ hp⟩

namespace Chip

variable {s : Chip} {k : Nat}

theorem resting_converters {f : Field} (h : 0x41200000 * 32 ≤ f.key ∧ f.key < 0x41300000 * 32) : resting f.key = true := by
  simp only [resting, untouched_converters h, Bool.true_and, Bool.not_eq_true', List.any_eq_false, List.mem_range, beq_iff_eq]
  intro k hk
  simp only [Field.key, Reg.SEQ_STAT_state] at h ⊢
  omega

/-! ### Faults of several clusters -/

theorem Falls.length {x : Standing} {c d : Chip} (h : Falls k x c d) : d.cl.length = c.cl.length := by
  have hl := congrArg List.length h.faults
  rwa [updNth_length, faultsOf, faultsOf, List.length_map, List.length_map] at hl

/-- A fault that one cluster takes leaves standing what stands for another, and a LATCH of its own code for the same. -/
theorem Falls.latched_mono {x : Standing} {c d : Chip} (h : Falls k x c d) (hk : k < c.cl.length) (hx : x.latch = true) {j : Nat}
    (hj : c.Latched j x.code) : d.Latched j x.code := by
  by_cases e : j = k
  · subst e
    exact ⟨x, h.mem hk, rfl, hx⟩
  · obtain ⟨y, hy, hcode, hlatch⟩ := hj
    rw [cluster_faults] at hy
    refine ⟨y, ?_, hcode, hlatch⟩
    rw [cluster_faults, h.faults, nth_updNth_ne _ e]
    exact hy

/-- One of several clusters shows a fault and takes it. -/
def shareFault (code cls inst k : Nat) (t : Chip) : Chip :=
  (t.sets [(Reg.SEQ_FAULT_code k, code), (Reg.SEQ_FAULT_class k, cls), (Reg.SEQ_FLAGS_fault k, 1)]).fall k code cls inst

theorem shareFault_falls (hk : k < 4) (code cls inst : Nat) (t : Chip) :
    ∃ x : Standing, x.code = code ∧ (cls = 3 → x.latch = true) ∧ Falls k x t (shareFault code cls inst k t) := by
  have mem : ∀ p ∈ [(Reg.SEQ_FAULT_code k, code), (Reg.SEQ_FAULT_class k, cls), (Reg.SEQ_FLAGS_fault k, 1)],
      p.1 ∈ stirredFields k := by simp [stirredFields]
  have hb : t.Bears (t.sets [(Reg.SEQ_FAULT_code k, code), (Reg.SEQ_FAULT_class k, cls), (Reg.SEQ_FLAGS_fault k, 1)]) :=
    .of_spares (Spares.sets (fun p hp => stirred hk (mem p hp)) (.refl t))
  obtain ⟨x, hcode, hlatch, hx⟩ := fall_falls hk code cls inst
  exact ⟨x, hcode, hlatch, hb.falls hx⟩

theorem faultAll_eq (s : Chip) (code cls inst : Nat) (ks : List Nat) (data : Nat) : s.faultAll code cls inst ks data =
    forEach ks (shareFault code cls inst) (s.record code cls inst 7 0 data) := rfl

variable {ks : List Nat} (hks : ∀ k ∈ ks, k < 4)
include hks

theorem get_faultAll {f : Field} (hf : resting f.key = true) (code cls inst data : Nat) :
    (s.faultAll code cls inst ks data).get f = s.get f := by
  rw [faultAll_eq]
  refine forEach_preserves (P := fun t : Chip => t.get f = s.get f) (fun k hk t ht => ?_) ((record_bears ..).get f hf)
  obtain ⟨x, -, -, hx⟩ := shareFault_falls (hks k hk) code cls inst t
  exact (hx.get f hf).trans ht

theorem latched_faultAll (hs : s.Shaped) (code inst data : Nat) (hk : k ∈ ks) :
    (s.faultAll code 3 inst ks data).Latched k code := by
  let P (t : Chip) : Prop := t.cl.length = 4 → t.Latched k code
  have hP : P (s.faultAll code 3 inst ks data) := by
    rw [faultAll_eq]
    refine forEach_establishes hk (fun t hl => ?_) fun j hj t ht hl => ?_
    · obtain ⟨x, hcode, hlatch, hx⟩ := shareFault_falls (hks k hk) code 3 inst t
      exact ⟨x, hx.mem (by rw [← hx.length, hl]; exact hks k hk), hcode, hlatch rfl⟩
    · obtain ⟨x, rfl, hlatch, hx⟩ := shareFault_falls (hks j hj) code 3 inst t
      have hlen : t.cl.length = 4 := hx.length.symm.trans hl
      exact hx.latched_mono (by rw [hlen]; exact hks j hj) (hlatch rfl) (ht hlen)
  have hshape : s.KeepsShape (s.faultAll code 3 inst ks data) := faultAll_shape id
  exact hP (hshape hs).cl

theorem get_faultOn {f : Field} (hf : resting f.key = true) (code cls inst data : Nat) :
    (s.faultOn code cls inst ks data).get f = s.get f := by
  unfold faultOn
  split
  next k => exact get_faultCl (hks k (.head _)) hf ..
  next => exact get_faultAll hks hf ..

/-- Every cluster that a LATCH fault is given to holds it. -/
theorem latched_faultOn (hs : s.Shaped) (code inst data : Nat) (hk : k ∈ ks) :
    (s.faultOn code 3 inst ks data).Latched k code := by
  unfold faultOn
  split
  next j =>
    obtain rfl := List.mem_singleton.1 hk
    exact latched_faultCl hs ⟨k, hks k hk⟩ ..
  next => exact latched_faultAll hks hs code inst data hk

end Chip

/-! ### Bit streams -/

theorem Chip.mem_owners {s : Chip} {mask : Topo → Nat} {n k : Nat} :
    k ∈ s.owners mask n ↔ k < 4 ∧ hasBit (mask (s.topo k)) n = true := by
  rw [Chip.owners, List.mem_filter, List.mem_range]

/-- Input m is seen to be stuck at a level. -/
def Chip.flagStuck (s : Chip) (m : Nat) (level : Bool) : Chip :=
  let c := { s with adc := { s.adc with sdStuck := setBit s.adc.sdStuck m } }
  (c.put (Reg.SD_RES_level m) level).setBitOf Reg.ADC_FLAGS_sd_stuck m

namespace Chip

variable (s : Chip) (m : Fin 12) (b : Bool)

theorem flagStuck_inside {M : Nat} (hM : Sub 8194 M) : s.Inside M (s.flagStuck m b) :=
  setBitOf_inside (hM.up rfl) (put_inside (hM.up rfl) (Inside.mk_adc (hM.up rfl) (.refl _ _)))

theorem Shaped.flagStuck {s : Chip} (h : s.Shaped) : (s.flagStuck m b).Shaped :=
  ⟨h.rgn, h.cl, h.meas, h.pos, h.cle, h.slice, h.isl, h.hart, h.can⟩

theorem hasBit_sdStuck_flagStuck : hasBit (s.flagStuck m b).adc.sdStuck m = true := by
  unfold flagStuck
  exact (hasBit_setBit ..).trans (by simp)

theorem hasBit_flag_flagStuck : hasBit ((s.flagStuck m b).get Reg.ADC_FLAGS_sd_stuck) m = true := by
  unfold flagStuck
  exact (hasBit_setBitOf _ _ _ m.isLt).trans (by simp)

theorem get_level_flagStuck : (s.flagStuck m b).get (Reg.SD_RES_level m) = b2n b := by
  have hne : (Reg.SD_RES_level m).key ≠ Reg.ADC_FLAGS_sd_stuck.key := by
    simp only [Field.key, Reg.SD_RES_level, Reg.ADC_FLAGS_sd_stuck]
    omega
  unfold flagStuck
  exact (get_setBitOf_other _ hne _).trans (get_put_self _ _ _ Nat.one_pos)

end Chip

variable {s : State} (m : Fin 12) (b : Bool) (hd : s.chip.pwr.dieReset = false)
include hd

theorem sdStuck_touches (hs : s.chip.Shaped) (hruns : s.chip.sdRuns m = true) (hnot : hasBit s.chip.adc.sdStuck m = false) :
    Touches (.sdStuck m b) s [.regs, .log, .pwr, .cl, .adc, .slice, .isl, .safe] (fun t =>
      hasBit t.adc.sdStuck m = true ∧ hasBit (t.get Reg.ADC_FLAGS_sd_stuck) m = true ∧
      t.get (Reg.SD_RES_level m) = b2n b ∧ ∀ j : Fin 4, hasBit (s.chip.topo j).sd m = true → t.Latched j 0x0314) := by
  have hx : exec (.sdStuck m b) s = s.act fun c =>
      (c.flagStuck m b).faultOn 0x0314 3 m ((c.flagStuck m b).owners (·.sd) m) (m.val + 256 * b2n b) :=
    State.act_congr (if_neg (by simp [hruns, hnot]))
  let c := s.chip.flagStuck m b
  have hks : ∀ k ∈ c.owners (·.sd) m, k < 4 := fun k hk => (Chip.mem_owners.1 hk).1
  have hflag : Chip.resting Reg.ADC_FLAGS_sd_stuck.key = true := by decide
  have hlevel : Chip.resting (Reg.SD_RES_level m).key = true := by
    refine Chip.resting_converters ?_
    simp only [Field.key, Reg.SD_RES_level]
    omega
  have hadc : (c.faultOn 0x0314 3 m (c.owners (·.sd) m) (m.val + 256 * b2n b)).adc = c.adc :=
    (Chip.faultOn_inside (M := 1708354) (by rfl) (.refl c _) .adc (by rfl)).symm
  refine touches_of_act hx hd (Chip.faultOn_inside (by rfl) (Chip.flagStuck_inside _ _ _ (by rfl))) ?_
  rw [Chip.settle_adc, Chip.settle_get, Chip.settle_get, hadc, Chip.get_faultOn hks hflag, Chip.get_faultOn hks hlevel]
  refine ⟨Chip.hasBit_sdStuck_flagStuck .., Chip.hasBit_flag_flagStuck .., Chip.get_level_flagStuck .., fun j hj => ?_⟩
  exact Chip.settle_latched.2
    (Chip.latched_faultOn hks (hs.flagStuck m b) _ _ _ (Chip.mem_owners.2 ⟨j.isLt, hj⟩))

theorem sdStreamRecover_completes (hruns : s.chip.sdRuns m = true) :
    Completes (.sdStreamRecover m) s [] [.adc] (fun t => hasBit t.adc.sdStuck m = false) := by
  have hx : exec (.sdStreamRecover m) s = s.act fun c => { c with adc := { c.adc with sdStuck := clrBit c.adc.sdStuck m } } :=
    State.act_congr (if_pos hruns)
  refine completes_of_act hx hd (.adc _ _ _ (.head _)) ?_
  rw [Chip.settle_adc]
  exact hasBit_clrBit_self ..

theorem sdStuck_completes (hruns : s.chip.sdRuns m = false) : Completes (.sdStuck m b) s [] [] (fun _ => True) :=
  completes_unchanged rfl hd (if_pos (by simp [hruns]))

end Sys2Proof.Machine
end

section

namespace Sys2Proof.Machine

/-- Settles O42: the valid slots are a filter of the 28 slots whose mask the status shows, a record changes no descriptor, and a
fault given to several clusters stands for each of them after the others have taken it. -/
theorem slotsAndBitStreams : Obligations.SlotsAndBitStreams := by
  intro s k i d m b hd hs
  refine ⟨fun hq => ?_, slotWrite_refused_touches k i d hd, fun hruns => ⟨?_, ?_⟩, sdStuck_completes m b hd⟩
  · refine (slotWrite_quiet_touches k i d hd hq).imp fun t ht => ?_
    obtain ⟨hslot, hvalid, hbad⟩ := ht
    exact ⟨hslot.role, hslot.path, hslot.unit, hslot.ain, hslot.off, hvalid, hbad⟩
  · exact sdStuck_touches m b hd hs hruns
  · exact sdStreamRecover_completes m hd hruns

end Sys2Proof.Machine
end

section
/-! SUPPORT. What settling makes of the lines and the waits: each line stands as it is read afterwards, a hart waits where it waited
and its line does not stand, and the levels are seen (R112, R536, R538). -/

namespace Sys2Proof.Machine

/-! ### A bit given a value -/

/-- Clearing one bit leaves the others. -/
theorem clrBit_eq_ldiff (v i : Nat) : clrBit v i = v.ldiff (2 ^ i) := by
  rw [← sub_and_eq_ldiff, Nat.and_two_pow, clrBit, hasBit_eq_testBit]
  cases v.testBit i <;> simp

theorem hasBit_clrBit (v i j : Nat) : hasBit (clrBit v i) j = (hasBit v j && !decide (i = j)) := by
  rw [clrBit_eq_ldiff, hasBit_eq_testBit, hasBit_eq_testBit, Nat.testBit_ldiff, Nat.testBit_two_pow]

theorem hasBit_putBit (v i j : Nat) (b : Bool) : hasBit (putBit v i b) j = if i = j then b else hasBit v j := by
  cases b
  · rw [putBit, if_neg Bool.false_ne_true, hasBit_clrBit]
    by_cases h : i = j <;> simp [h]
  · rw [putBit, if_pos rfl, hasBit_setBit]
    by_cases h : i = j <;> simp [h]

namespace Chip

variable {s : Chip}

/-! ### The lines -/

/-- A line is read from what the settling of lines does not change. -/
theorem settleLine_line (s : Chip) (c h : Nat) : (s.settleLine c).line h = s.line h := by
  unfold settleLine
  extract_lets
  split <;> rfl

theorem settleLine_lines (s : Chip) (c h : Nat) :
    hasBit (s.settleLine c).irq.lines h = if c = h then s.line h else hasBit s.irq.lines h := by
  have hput : hasBit (s.settleLine c).irq.lines h = hasBit (putBit s.irq.lines c (s.line c)) h := by
    unfold settleLine
    extract_lets
    split <;> rfl
  rw [hput, hasBit_putBit]
  split
  next e => rw [e]
  next => rfl

theorem settleLine_hart (s : Chip) (c : Nat) : (s.settleLine c).hart =
    if s.line c && (nth s.hart c).wfi then updNth HartS.awake c s.hart else s.hart := by
  unfold settleLine
  extract_lets
  exact apply_ite Chip.hart ..

theorem wfi_updNth_awake (c h : Nat) (l : List HartS) :
    (nth (updNth HartS.awake c l) h).wfi = ((nth l h).wfi && !decide (c = h)) := by
  by_cases e : c = h
  · subst e
    rcases Nat.lt_or_ge c l.length with hlt | hge
    · rw [nth_updNth_self _ hlt]
      simp [HartS.awake]
    · have hout : nth (updNth HartS.awake c l) c = default := List.getD_eq_default _ _ ((updNth_length ..).trans_le hge)
      have hin : nth l c = default := List.getD_eq_default _ _ hge
      rw [hout, hin]
      rfl
  · rw [nth_updNth_ne _ (Ne.symm e)]
    simp [e]

/-- A wait ends at the hart's own line (R112). -/
theorem settleLine_wfi (s : Chip) (c h : Nat) :
    (nth (s.settleLine c).hart h).wfi = ((nth s.hart h).wfi && !(decide (c = h) && s.line h)) := by
  rw [settleLine_hart]
  by_cases e : c = h
  · subst e
    split
    next hw => simp_all [wfi_updNth_awake]
    next hw => cases hl : s.line c <;> simp_all
  · split <;> simp [wfi_updNth_awake, e]

/-! ### Before the lines settle -/

/-- The controller has seen the levels of s and its harts wait as they did. -/
structure Watches (s t : Chip) : Prop where
  prev : t.irq.prev = s.levels
  fabric : t.irq.fabric = s.irq.fabric
  hart : t.hart = s.hart

theorem Watches.moderate {t : Chip} (h : s.Watches t) (n : Nat) : s.Watches (t.moderate n) := by
  unfold Chip.moderate
  split
  · exact ⟨h.prev, h.fabric, h.hart⟩
  · exact h

theorem Watches.settleGroup {t : Chip} (h : s.Watches t) (c g : Nat) : s.Watches (t.settleGroup c g) := by
  unfold Chip.settleGroup
  extract_lets
  split
  · exact ⟨h.prev, h.fabric, h.hart⟩
  · exact h

/-- The module as it stands before its lines settle. -/
def polled (s : Chip) : Chip := settleGroups (forEach s.risen (fun n t => t.moderate n) s.seen)

theorem watches_polled (s : Chip) : s.Watches s.polled :=
  forEach_preserves (fun c _ _ ht => forEach_preserves (fun g _ _ hu => hu.settleGroup c g) ht)
    (forEach_preserves (fun n _ _ ht => ht.moderate n) ⟨rfl, rfl, rfl⟩)

theorem settle_eq_lines (s : Chip) : s.settle =
    (((s.polled.settleLine 0).settleLine 1).settleLine 2).settleLine 3 := by
  rw [settle_eq, forEach_range_four]
  rfl

/-! ### Settled -/

theorem settle_lines (s : Chip) (h : Fin 4) : hasBit s.settle.irq.lines h = s.settle.line h := by
  rw [settle_eq_lines]
  simp only [settleLine_lines, settleLine_line]
  match h with
  | 0 | 1 | 2 | 3 => rfl

theorem settle_wfi (s : Chip) (h : Fin 4) :
    (nth s.settle.hart h).wfi = ((nth s.hart h).wfi && !s.settle.line h) := by
  rw [settle_eq_lines]
  simp only [settleLine_wfi, settleLine_line, s.watches_polled.hart]
  match h with
  | 0 | 1 | 2 | 3 => simp

theorem settleLine_levelsIrq (s : Chip) (c : Nat) :
    (s.settleLine c).irq.prev = s.irq.prev ∧ (s.settleLine c).irq.fabric = s.irq.fabric := by
  unfold settleLine
  extract_lets
  split <;> exact ⟨rfl, rfl⟩

/-- The live levels come from the register file and the fabric's lines. -/
theorem levels_congr {s t : Chip} (hr : s.regs = t.regs) (hf : s.irq.fabric = t.irq.fabric) : s.levels = t.levels := by
  simp only [levels, levelList, both, rawWord, Chip.on, Chip.get, hr, hf]

/-- Once settled, the levels that pending bits show are the live ones, of whatever module. -/
theorem settle_levelsSeen (s : Chip) : s.settle.levelsSeen := by
  have hfabric : s.settle.irq.fabric = s.irq.fabric := by
    rw [settle_eq_lines]
    simp only [settleLine_levelsIrq, s.watches_polled.fabric]
  have hprev : s.settle.irq.prev = s.levels := by
    rw [settle_eq_lines]
    simp only [settleLine_levelsIrq, s.watches_polled.prev]
  exact hprev.trans (levels_congr s.settle_regs.symm hfabric.symm)

/-- Once settled, no hart whose line stands waits. -/
theorem settle_noSleeperCalled (s : Chip) : s.settle.noSleeperCalled := by
  intro h hh hline
  have hl := s.settle_lines ⟨h, hh⟩
  have hw := s.settle_wfi ⟨h, hh⟩
  simp only at hl hw
  rw [hw, ← hl, hline]
  simp

end Chip

/-! ### Commands settle -/

/-- The outcome leaves the module as it was, or settles it. -/
def Settles (s t : State) : Prop := t.chip = s.chip ∨ ∃ c : Chip, t.chip = c.settle

theorem State.act_settles (s : State) (f : Chip → Chip) : ∃ t, s.act f = .next t ∧ Settles s t := by
  cases h : s.chip.pwr.dieReset with
  | true => exact ⟨_, s.act_reset f h, .inl rfl⟩
  | false => exact ⟨_, s.act_next f h, .inr ⟨_, rfl⟩⟩

theorem State.actIf_settles (s : State) {ok : Bool} (f : Chip → Chip) (h : ok = true) :
    ∃ t, s.actIf ok f = .next t ∧ Settles s t := by
  rw [State.actIf, if_pos h]
  exact s.act_settles f

/-- A well-formed command settles what it changes: those of the always-on logic whatever the die's reset, those with a list by
their form. -/
theorem exec_settles_of_wf {i : Instr} (s : State) (h : i.wf = true) : ∃ t, exec i s = .next t ∧ Settles s t := by
  cases i with
  | brownOut | railWarn | powerOnRelease | cellarReset | cellarTransfer | sleepRailWaitEnd | wakeSlotFire
  | aonXtalFail | resetPin | resetPinRelease | resetStuck | rstUnmasked | gpioEdge | fltNAssert | uvlo
  | islandSupplyRelease | ctrFeedbackChange | hostSleepAssert | hostSleepRelease | vddaRelease | fltNRelease =>
    exact ⟨_, rfl, .inr ⟨_, rfl⟩⟩
  | idRecordLoad | dieSensorSample | read | write | hpCsNRise | frameReceive | acyclicFrameRx | copyFrameRx =>
    exact s.actIf_settles _ h
  | _ => exact s.act_settles _

theorem exec_settles {i : Instr} {s t : State} (h : exec i s = .next t) : Settles s t := by
  cases hw : i.wf with
  | true =>
    obtain ⟨u, hu, hset⟩ := exec_settles_of_wf s hw
    exact Host.Outcome.next.inj (hu.symm.trans h) ▸ hset
  | false => cases (exec_illFormed s hw).symm.trans h

/-- Settles O5: settling establishes both of any module, and a step changes no module without settling it. -/
theorem stepKeepsCalledHartsAwake : Obligations.StepKeepsCalledHartsAwake := by
  unfold Obligations.StepKeepsCalledHartsAwake
  intro s t hawake hseen h
  have hsettled (c : Chip) : c.settle.noSleeperCalled ∧ c.settle.levelsSeen :=
    ⟨c.settle_noSleeperCalled, c.settle_levelsSeen⟩
  refine step_keeps (p := fun c d => c.noSleeperCalled ∧ c.levelsSeen → d.noSleeperCalled ∧ d.levelsSeen) h
    (fun _ => hsettled _) (fun i u _ hx hu => ?_) ⟨hawake, hseen⟩
  rcases exec_settles hx with e | ⟨c, e⟩
  · exact e ▸ hu
  · exact e ▸ hsettled c

end Sys2Proof.Machine
end

section
/-! SUPPORT. A region's clock gate and WFI (R111, R112). -/

namespace Sys2Proof.Machine

variable {s : State} {c : Fin 4}

/-- The bit of CLK_STAT that shows a region's clock stopped. -/
def Chip.gateField (g : Nat) : Field := if g = 0 then Reg.CLK_STAT_rgn_a_gated else Reg.CLK_STAT_rgn_b_gated

theorem Chip.gated_put_gateField (s : Chip) (g : Nat) : (s.put (gateField g) true).gated g = true := by
  have hwidth : 0 < (gateField g).width := by
    unfold gateField
    split <;> decide
  exact beq_iff_eq.2 (s.get_put_self (gateField g) true hwidth)

theorem regionGateClose_completes {g : Fin 2} (hd : s.chip.pwr.dieReset = false) (hstop : s.chip.stopCond g = true)
    (hrun : (s.chip.region g).inReset = false) :
    Completes (.regionGateClose g) s [if g = 0 then Reg.CLK_STAT_rgn_a_gated else Reg.CLK_STAT_rgn_b_gated] []
      (fun t => t.gated g = true) := by
  have hg : (if g = 0 then Reg.CLK_STAT_rgn_a_gated else Reg.CLK_STAT_rgn_b_gated) = Chip.gateField g :=
    if_congr Fin.ext_iff rfl rfl
  have hx : exec (.regionGateClose g) s = s.act fun c => c.put (Chip.gateField g) true :=
    State.act_congr (if_pos (by simp [hstop, hrun]))
  rw [hg]
  refine completes_of_act hx hd (.put _ _ _ _ (.head _)) ?_
  rw [Chip.gated, Chip.on, Chip.settle_get]
  exact Chip.gated_put_gateField s.chip g

/-- A core that executes WFI has gone past it, and waits unless its line stands. -/
def Chip.waited (s : Chip) (k : Nat) : Chip :=
  (s.retire k).modHart k fun x => { x with wfi := !s.line k, pc := (x.pc + 4) % 2 ^ 32 }

theorem Chip.waited_hart {s : Chip} (hs : s.Shaped) (k : Fin 4) : nth (s.waited k).hart k =
    { nth s.hart k with
      wfi := !s.line k, pc := ((nth s.hart k).pc + 4) % 2 ^ 32, instret := ((nth s.hart k).instret + 1) % 2 ^ 64 } := by
  have hk := hs.hart_lt k
  have hk' : k.val < (s.retire k).hart.length := (updNth_length _ _ _).symm ▸ hk
  rw [Chip.waited, Chip.modHart_hart_self hk', Chip.retire, Chip.modHart_hart_self hk]

theorem wfi_completes (hd : s.chip.pwr.dieReset = false) (hs : s.chip.Shaped) (hc : s.chip.coreRuns c = true) :
    Completes (.wfi c) s [] [.hart] (fun t =>
      (nth t.hart c).pc = ((nth s.chip.hart c).pc + 4) % 2 ^ 32 ∧
      (nth t.hart c).instret = ((nth s.chip.hart c).instret + 1) % 2 ^ 64 ∧
      (t.line c = true → (nth t.hart c).wfi = false) ∧
      (s.chip.line c = false → t.line c = false → (nth t.hart c).wfi = true)) := by
  have hx : exec (.wfi c) s = s.act fun d => d.waited c := State.act_congr (if_neg (by simp [hc]))
  have hinstret := settle_hart_apply HartS.instret (fun _ => rfl) (s.chip.waited c) c
  have hwfi := (s.chip.waited c).settle_wfi c
  have hhart := Chip.waited_hart hs c
  refine completes_of_act hx hd ((Chip.Frame.modHart _ _ _ _ (.head _)).trans (.modHart _ _ _ _ (.head _))) ?_
  rw [Chip.settle_hart_pc, hinstret, hwfi, hhart]
  refine ⟨rfl, rfl, fun hline => ?_, fun hbefore hline => ?_⟩
  · rw [hline, Bool.not_true, Bool.and_false]
  · rw [hbefore, hline]
    rfl

/-- Settles O23. -/
theorem gateAndWfi : Obligations.GateAndWfi := by
  unfold Obligations.GateAndWfi
  intro s g c hd
  exact ⟨regionGateClose_completes hd, fun hstop => completes_unchanged rfl hd (if_neg (by simp [hstop])),
    fun hidle => completes_unchanged rfl hd (if_pos (by simp [hidle])), fun hs _ => wfi_completes hd hs⟩

end Sys2Proof.Machine
end

section
/-! SUPPORT. Commands of the always-on logic, which act whatever the die's reset: from their effect to what a statement says; and
RAIL_WARN (R85). -/

namespace Sys2Proof.Machine

section
variable {i : Instr} {s : State} {f : Chip → Chip} {fs : List Field} {ps : List Part} {p : Chip → Prop}

theorem State.actRaw_congr {s : State} {f g : Chip → Chip} (h : f s.chip = g s.chip) : s.actRaw f = s.actRaw g := by
  rw [State.actRaw, State.actRaw, h]

theorem completes_of_actRaw (hx : exec i s = s.actRaw f) (hf : s.chip.Frame (f s.chip) fs ps) (hp : p (f s.chip).settle) :
    Completes i s fs ps p := ⟨_, hx, rfl, hf.trans (.settle ..), hp⟩

theorem ends_of_actRaw (hx : exec i s = s.actRaw f) (hp : p (f s.chip).settle) : Ends i s p := ⟨_, hx, rfl, hp⟩

theorem touches_of_actRaw (hx : exec i s = s.actRaw f) (hi : s.chip.Inside (Part.mask ps) (f s.chip))
    (hp : p (f s.chip).settle) : Touches i s ps p :=
  ⟨_, hx, rfl, (Chip.settle_inside (Nat.zero_or _) hi).within_mask, hp⟩

theorem completes_unchanged_raw (hx : exec i s = s.actRaw f) (hf : f s.chip = s.chip) :
    Completes i s [] [] (fun _ => True) :=
  completes_of_actRaw hx (by rw [hf]; exact .refl ..) trivial

end

namespace Chip

theorem Frame.modPwr (s : Chip) (f : PowerS → PowerS) (fs : List Field) {ps : List Part} (h : Part.pwr ∈ ps) :
    s.Frame (s.modPwr f) fs ps := .pwr s _ fs h

/-- A rail falls below its warning level: its status bit, its event, a record. -/
def railFell (s : Chip) (f ev : Field) (code data : Nat) : Chip := ((s.put f true).put ev true).note code 0 data

/-- A rail passes its warning level: it falls below it for the first time, or its status bit follows. -/
def railPassed (s : Chip) (f ev : Field) (code data : Nat) (below : Bool) : Chip :=
  if below && !s.on f && !s.pwr.dieReset then s.railFell f ev code data else s.put f below

end Chip

variable {s : State} {r : Rail} {f ev : Field} {code data : Nat}

section
variable (hx : ∀ b, exec (.railWarn r b) s = s.actRaw fun c => c.railPassed f ev code data b) (hf : 0 < f.width)
include hx hf

theorem railWarn_below_completes (hd : s.chip.pwr.dieReset = false) (hne : f.key ≠ ev.key) (hev : 0 < ev.width)
    (h1 : code ≠ 0x0E13) (h2 : code ≠ 0x0E10) (hon : s.chip.on f = false) :
    Completes (.railWarn r true) s [f, ev] [.log] (fun t =>
      t.get f = 1 ∧ t.get ev = 1 ∧ t.log.seq = (s.chip.log.seq + 1) % 65536) := by
  have he : s.chip.railPassed f ev code data true = s.chip.railFell f ev code data := if_pos (by simp [hd, hon])
  refine completes_of_actRaw (hx true) ?_ ?_ <;> rw [he]
  · exact ((Chip.Frame.put _ _ _ _ (.head _)).trans (.put _ _ _ _ (.tail _ (.head _)))).trans (.note _ _ _ _ (.head _) h1 h2)
  · rw [Chip.settle_get, Chip.settle_get, Chip.settle_log, Chip.railFell, Chip.get_note _ h1 h2, Chip.get_note _ h1 h2,
      Chip.get_put_other _ hne, Chip.get_put_self _ _ _ hf, Chip.get_put_self _ _ _ hev]
    exact ⟨rfl, rfl, Chip.record_seq ..⟩

theorem railWarn_back_completes : Completes (.railWarn r false) s [f] [] (fun t => t.get f = 0) := by
  have he : s.chip.railPassed f ev code data false = s.chip.put f false := if_neg (by simp)
  refine completes_of_actRaw (hx false) ?_ ?_ <;> rw [he]
  · exact .put _ _ _ _ (.head _)
  · rw [Chip.settle_get, Chip.get_put_self _ _ _ hf]
    rfl

end

/-- Settles O17: the four rails fall in one way, and the three of PWR_STAT's warn bits return in one. -/
theorem railWarnRecorded : Obligations.RailWarnRecorded := by
  unfold Obligations.RailWarnRecorded
  intro s hd
  have hcore (b : Bool) : exec (.railWarn .core b) s =
      s.actRaw fun c => c.railPassed Reg.PWR_STAT_vcore_warn Reg.PWR_FLAGS_warn_ev 0x0D20 1 b := rfl
  have hio (b : Bool) : exec (.railWarn .io b) s =
      s.actRaw fun c => c.railPassed Reg.PWR_STAT_vio_warn Reg.PWR_FLAGS_warn_ev 0x0D20 2 b := rfl
  have hvdda (b : Bool) : exec (.railWarn .vdda b) s =
      s.actRaw fun c => c.railPassed Reg.PWR_STAT_vdda_warn Reg.PWR_FLAGS_warn_ev 0x0D20 4 b := rfl
  have hxfmr (b : Bool) : exec (.railWarn .xfmr b) s =
      s.actRaw fun c => c.railPassed Reg.PWR_STAT_xfmr_low Reg.PWR_FLAGS_xfmr_ev 0x0D22 0 b := rfl
  exact ⟨railWarn_below_completes hcore (by decide) hd (by decide) (by decide) (by decide) (by decide),
    railWarn_below_completes hio (by decide) hd (by decide) (by decide) (by decide) (by decide),
    railWarn_below_completes hvdda (by decide) hd (by decide) (by decide) (by decide) (by decide),
    railWarn_below_completes hxfmr (by decide) hd (by decide) (by decide) (by decide) (by decide),
    railWarn_back_completes hcore (by decide), railWarn_back_completes hio (by decide),
    railWarn_back_completes hvdda (by decide)⟩

end Sys2Proof.Machine
end

section
/-! SUPPORT. What a reset of the control die and one of the Cellar leave (R90, R124). -/

namespace Sys2Proof.Machine

/-! ### A table cut down to some keys -/

theorem lookupD_filter_kept {α : Type} (d : α) {k : Nat} {p : Nat × α → Bool} (h : ∀ v, p (k, v) = true) :
    ∀ l : List (Nat × α), lookupD d k (l.filter p) = lookupD d k l
  | [] => rfl
  | (j, v) :: l => by
    have ih := lookupD_filter_kept d h l
    by_cases e : k = j
    · subst e
      simp [h, lookupD]
    · rw [List.filter_cons]
      split <;> simp [lookupD, e, ih]

theorem lookupD_filter_cut {α : Type} (d : α) {k : Nat} {p : Nat × α → Bool} (h : ∀ v, p (k, v) = false) :
    ∀ l : List (Nat × α), lookupD d k (l.filter p) = d
  | [] => rfl
  | (j, v) :: l => by
    have ih := lookupD_filter_cut d h l
    by_cases e : k = j
    · subst e
      simp [h, ih]
    · rw [List.filter_cons]
      split <;> simp [lookupD, e, ih]

namespace Chip

variable (s : Chip)

theorem key_div (f : Field) (h : f.lsb < 32) : f.key / 32 = f.addr := by
  unfold Field.key
  omega

theorem get_resetRange {lo hi : Nat} {f : Field} (hl : f.lsb < 32) (h : lo ≤ f.addr ∧ f.addr ≤ hi) :
    (s.resetRange lo hi).get f = f.reset % 2 ^ f.width := by
  have hcut : ∀ v : Nat, (decide ((f.key, v).1 / 32 < lo) || decide (hi < (f.key, v).1 / 32)) = false := by
    intro v
    simp only [key_div f hl, Bool.or_eq_false_iff, decide_eq_false_iff_not]
    omega
  rw [Chip.get, resetRange, lookupD_filter_cut _ hcut]

/-! ### The control die -/

/-- The module once the writes that the reset cuts have been cut. -/
def cut : Chip := s.hwCut.cfgCut.ledCut

theorem cut_inside : s.Inside 532 s.cut :=
  ledCut_inside (by rfl) (cfgCut_inside (by rfl) (hwCut_inside (by rfl) (.refl s 532)))

theorem cfgCut_borNext : s.cfgCut.cfg.borNext = s.cfg.borNext := by
  have hset (a : Nat) (l : List Byte) (t : Chip) : (t.setBytes a l).useFree.cfg = t.cfg :=
    (useFree_inside (M := 20) (by rfl) (setBytes_inside (by rfl) (.refl t _)) .cfg rfl).symm
  unfold cfgCut
  extract_lets u
  have hu : u.cfg.borNext = s.cfg.borNext := by
    unfold u
    split
    · rw [hset]
    · rfl
  clear_value u
  split
  · exact hu
  · exact hu

theorem cut_borNext : s.cut.cfg.borNext = s.cfg.borNext := by
  have hhw : s.hwCut.cfg = s.cfg := (hwCut_inside (M := 20) (by rfl) (.refl s _) .cfg rfl).symm
  have hled : s.cut.cfg = s.hwCut.cfgCut.cfg := (ledCut_inside (M := 20) (by rfl) (.refl s.hwCut.cfgCut _) .cfg rfl).symm
  rw [hled, cfgCut_borNext, hhw]

theorem dieReset_regs (causes : Nat) : (s.dieReset causes).regs =
    (s.cut.set Reg.CEL_STAT_state_prev 3).regs.filter fun p => keptReg (p.1 / 32) := by
  unfold dieReset
  extract_lets _ _ c
  rw [show s.cut = c from rfl]

theorem dieReset_inReset (causes : Nat) : (s.dieReset causes).pwr.dieReset = true := by
  unfold dieReset
  extract_lets _ _ c
  clear_value c
  rfl

theorem dieReset_borNext (causes : Nat) : (s.dieReset causes).cfg.borNext = s.cfg.borNext := by
  have h := s.cut_borNext
  unfold dieReset
  extract_lets _ _ c
  rw [show s.cut = c from rfl] at h
  clear_value c
  exact h

/-- A field that the reset keeps has its value, but for the Cellar's note of why it is awake. -/
theorem get_dieReset_kept (causes : Nat) {f : Field} (hl : f.lsb < 32) (h : keptReg f.addr = true)
    (hne : f.key ≠ Reg.CEL_STAT_state_prev.key) : (s.dieReset causes).get f = s.get f := by
  have hcut : s.cut.get f = s.get f := by rw [Chip.get, Chip.get, ← s.cut_inside .regs rfl]
  have hset : (s.cut.set Reg.CEL_STAT_state_prev 3).get f = s.get f := by rw [get_set_other _ hne, hcut]
  rw [Chip.get, dieReset_regs, lookupD_filter_kept _ (fun _ => by simpa only [key_div f hl] using h)]
  exact hset

/-- A reset of the control die leaves it fresh (R124). -/
theorem dieReset_fresh (causes : Nat) : s.DieFresh (s.dieReset causes) := by
  have hget (f : Field) (hl : f.lsb < 32) (hk : keptReg f.addr = false) :
      (s.dieReset causes).get f = f.reset % 2 ^ f.width := by
    rw [Chip.get, dieReset_regs, lookupD_filter_cut _ (fun _ => by simpa only [key_div f hl] using hk)]
  have hrgn : ∀ r ∈ [({} : RegionS), {}], r.inReset = true := by decide
  unfold DieFresh
  refine ⟨?_, ?_, ?_, ?_, ?_, hget⟩
  all_goals
    unfold dieReset
    extract_lets _ _ c
    clear_value c
  · rfl
  · rfl
  · rfl
  · rfl
  · exact hrgn

variable {s}

theorem DieFresh.settle {t : Chip} (h : s.DieFresh t) : s.DieFresh t.settle := by
  obtain ⟨hposted, hqueue, hret, hseq, hrgn, hreg⟩ := h
  unfold DieFresh
  rw [settle_bus, settle_log, settle_rgn]
  exact ⟨hposted, hqueue, hret, hseq, hrgn, fun f hl hk => (settle_get ..).trans (hreg f hl hk)⟩

theorem DieFresh.same {t u : Chip} (h : s.DieFresh t) (hbus : u.bus = t.bus) (hlog : u.log = t.log) (hrgn : u.rgn = t.rgn)
    (hregs : u.regs = t.regs) : s.DieFresh u := by
  unfold DieFresh
  simp only [hbus, hlog, hrgn, Chip.get, hregs]
  exact h

end Chip

/-! ### The Cellar -/

/-- What a reset of the Cellar leaves (R90): the power state entered, the die in reset, no retained entry, nothing that acts, every
register of the Cellar at its reset value. -/
structure Chip.CellarFresh (t : Chip) (st : PowerState) : Prop where
  state : t.pwr.state = st
  dieReset : t.pwr.dieReset = true
  acting : t.pwr.acting = []
  retention : t.log.retention = []
  get : ∀ f : Field, f.lsb < 32 → 0x41A00800 ≤ f.addr → f.addr ≤ 0x41A00BFF → t.get f = f.reset % 2 ^ f.width

theorem Chip.cellarReset_fresh (s : Chip) (st : PowerState) : (s.cellarReset st).CellarFresh st := by
  unfold cellarReset
  extract_lets d
  clear_value d
  exact ⟨rfl, rfl, rfl, rfl, fun f hl hlo hhi => get_resetRange d hl ⟨hlo, hhi⟩⟩

theorem Chip.CellarFresh.settle {st : PowerState} {t : Chip} (h : t.CellarFresh st) : t.settle.CellarFresh st := by
  obtain ⟨hstate, hdie, hact, hret, hget⟩ := h
  exact ⟨by rwa [settle_pwr], by rwa [settle_pwr], by rwa [settle_pwr], by rwa [settle_log],
    fun f hl hlo hhi => (settle_get ..).trans (hget f hl hlo hhi)⟩

end Sys2Proof.Machine
end

section
/-! SUPPORT. The Cellar's transfers and the way into sleep (R93, R94, R103). -/

namespace Sys2Proof.Machine

namespace Chip

/-! ### Fields set in a row -/

theorem get_sets_other {g : Field} {l : List (Field × Nat)} (s : Chip) (h : ∀ p ∈ l, g.key ≠ p.1.key) :
    (s.sets l).get g = s.get g := by
  induction l generalizing s with
  | nil => rfl
  | cons p l ih =>
    exact (ih (s.set p.1 p.2) fun q hq => h q (.tail _ hq)).trans (s.get_set_other (h p (.head _)) p.2)

/-- Of fields set in a row, no two of one place, each holds its value. -/
theorem get_sets_mem {f : Field} {v : Nat} {l : List (Field × Nat)} (s : Chip) (hm : (f, v) ∈ l)
    (hk : (l.map Prod.fst).Pairwise fun f g => f.key ≠ g.key) : (s.sets l).get f = v % 2 ^ f.width := by
  induction l generalizing s with
  | nil => cases hm
  | cons p l ih =>
    obtain ⟨hp, hl⟩ := List.pairwise_cons.1 hk
    cases hm with
    | head => exact (get_sets_other (s.set f v) fun q hq => hp _ (List.mem_map_of_mem hq)).trans (s.get_set_self f v)
    | tail _ hm => exact ih (s.set p.1 p.2) hm hl

theorem get_modPwr (s : Chip) (p : PowerS → PowerS) (f : Field) : (s.modPwr p).get f = s.get f := rfl

/-! ### A sleep request -/

theorem sleepBits_lt (s : Chip) (d : Nat) : s.sleepBits d < 2 ^ 6 := by
  have hbits : ∀ a b c e f g : Bool,
      b2n a + 2 * b2n b + 4 * b2n c + 8 * b2n e + 16 * b2n f + 32 * b2n g < 2 ^ 6 := by decide
  exact hbits ..

/-- What a refused request shows (R93). -/
def sleepRefused (s : Chip) (bits : Nat) : Chip :=
  (s.sets [(Reg.CEL_STAT_refused, 1), (Reg.CEL_STAT_abort, 0), (Reg.CEL_STAT_refuse, bits)]).note 0x0D30 0 bits

/-- An accepted request waits for its transfer (R93). -/
def sleepQueued (s : Chip) (d : Nat) : Chip :=
  ((s.sets [(Reg.CEL_STAT_refused, 0), (Reg.CEL_STAT_abort, 0)]).transfer 0x41A00818 d).modPwr fun p =>
    { p with sleep := SleepStep.queued (d % 4 == 1) }

theorem sleepWrite_refused {s : Chip} {d : Nat} (h : s.sleepBits d ≠ 0) : s.sleepWrite d = s.sleepRefused (s.sleepBits d) :=
  if_pos (bne_iff_ne.2 h)

theorem sleepWrite_queued {s : Chip} {d : Nat} (h : s.sleepBits d = 0) : s.sleepWrite d = s.sleepQueued d :=
  if_neg (by simp [h])

theorem sleepRefused_frame (s : Chip) (bits : Nat) :
    s.Frame (s.sleepRefused bits) [Reg.CEL_STAT_refused, Reg.CEL_STAT_abort, Reg.CEL_STAT_refuse] [.log] :=
  (Frame.sets _ _ _ (by simp)).trans (.note _ _ _ _ (.head _) (by decide) (by decide))

theorem get_sleepRefused (s : Chip) (bits : Nat) (f : Field) : (s.sleepRefused bits).get f =
    (s.sets [(Reg.CEL_STAT_refused, 1), (Reg.CEL_STAT_abort, 0), (Reg.CEL_STAT_refuse, bits)]).get f :=
  get_note _ (by decide) (by decide) ..

theorem get_transfer_self (s : Chip) (a d : Nat) : (s.transfer a d).get Reg.CEL_STAT_xfer = 1 := by
  unfold transfer
  extract_lets t
  exact t.get_put_self Reg.CEL_STAT_xfer true (by decide)

theorem get_transfer_other (s : Chip) (a d : Nat) {f : Field} (h : f.key ≠ Reg.CEL_STAT_xfer.key) :
    (s.transfer a d).get f = s.get f := by
  unfold transfer
  extract_lets t
  exact t.get_put_other h true

theorem Frame.transfer (s : Chip) (a d : Nat) {fs : List Field} {ps : List Part} (hf : Reg.CEL_STAT_xfer ∈ fs)
    (hp : Part.pwr ∈ ps) : s.Frame (s.transfer a d) fs ps :=
  (Frame.modPwr s _ fs hp).trans (.put _ _ _ _ hf)

theorem sleepQueued_frame (s : Chip) (d : Nat) : s.Frame (s.sleepQueued d)
    [Reg.CEL_STAT_refused, Reg.CEL_STAT_abort, Reg.CEL_STAT_refuse, Reg.CEL_STAT_xfer] [.pwr] :=
  ((Frame.sets _ _ s (by decide)).trans (.transfer _ _ _ (by decide) (.head _))).trans (.modPwr _ _ _ (.head _))

theorem get_sleepQueued_xfer (s : Chip) (d : Nat) : (s.sleepQueued d).get Reg.CEL_STAT_xfer = 1 :=
  (get_modPwr ..).trans (get_transfer_self ..)

theorem get_sleepQueued_other (s : Chip) (d : Nat) {f : Field} (h : f.key ≠ Reg.CEL_STAT_xfer.key) :
    (s.sleepQueued d).get f = (s.sets [(Reg.CEL_STAT_refused, 0), (Reg.CEL_STAT_abort, 0)]).get f :=
  (get_modPwr ..).trans (get_transfer_other _ _ _ h)

/-! ### A transfer -/

theorem transferred_frame (s : Chip) : s.Frame s.transferred [Reg.CEL_STAT_xfer, Reg.CLK_STAT_aon_xtal] [.pwr] := by
  unfold transferred
  extract_lets _ t u
  exact (((Frame.modPwr s _ _ (.head _)).trans (.put t _ _ _ (.head _))).trans (.put u _ _ _ (.tail _ (.head _)))).trans
    (.modPwr _ _ _ (.head _))

theorem transferred_log (s : Chip) : s.transferred.log = s.log := s.transferred_frame.2 .log (by decide)

theorem transferred_sleep (s : Chip) : s.transferred.pwr.sleep = s.pwr.sleep := rfl

/-- All that a transfer carries acts, but for the sleep request (R103). -/
theorem transferred_acts (s : Chip) : s.transferred.pwr.acting =
    (s.pwr.xferRun.filter fun p => p.1 != 0x41A00818).foldl (fun t q => insertAt q.1 q.2 t) s.pwr.acting := rfl

/-- The one register of a transfer acts as it was written. -/
theorem transferred_acting {s : Chip} {p : Nat × Nat} (hrun : s.pwr.xferRun = [p]) (hp : p.1 ≠ 0x41A00818) :
    s.transferred.acting p.1 = p.2 := by
  have hfilter : ([p].filter fun q => q.1 != 0x41A00818) = [p] := by simp [hp]
  rw [acting, s.transferred_acts, hrun, hfilter]
  exact lookupD_insertAt_self ..

/-- The transfer of a CEL_SLEEP write resets the control die, which then waits for its rails to fall (R94). -/
def fallAsleep (s : Chip) (dormant : Bool) : Chip :=
  ((s.transferred.dieReset (2 ^ 7)).modPwr fun x => { x with
    sleep := .waiting dormant, railsUp := false, locked := false }).showReq

theorem fallAsleep_down (s : Chip) (dormant : Bool) : s.DieDown (s.fallAsleep dormant) := by
  have hfresh := s.transferred.dieReset_fresh (2 ^ 7)
  unfold DieFresh at hfresh
  rw [transferred_log] at hfresh
  have hreset := s.transferred.dieReset_inReset (2 ^ 7)
  unfold fallAsleep
  generalize s.transferred.dieReset (2 ^ 7) = t at hfresh hreset
  exact ⟨hreset, DieFresh.same hfresh rfl rfl rfl rfl⟩

theorem fallAsleep_pwr (s : Chip) (dormant : Bool) : (s.fallAsleep dormant).pwr.sleep = .waiting dormant ∧
    (s.fallAsleep dormant).pwr.pwrReq = false ∧ (s.fallAsleep dormant).pwr.railsUp = false := by
  unfold fallAsleep
  generalize s.transferred.dieReset (2 ^ 7) = t
  exact ⟨rfl, Bool.and_false _, rfl⟩

/-! ### The rails have fallen, or have had their time -/

/-- The Cellar is asleep, and notes whether the rails still stand (R94). -/
def asleep (s : Chip) (dormant fell : Bool) : Chip :=
  (s.put Reg.CEL_STAT_rails_on (!fell)).modPwr fun p => { p with
    sleep := .none, state := if dormant then .dormant else .watch }

/-- The good bits of the switched rails, cleared where the rails have fallen. -/
def railsShown (s : Chip) (fell : Bool) : Chip :=
  if fell then s.sets [(Reg.PWR_STAT_vcore_good, 0), (Reg.PWR_STAT_vio_good, 0), (Reg.PWR_STAT_vdda_good, 0)] else s

theorem asleep_railsShown_frame (s : Chip) (dormant fell : Bool) : s.Frame ((s.asleep dormant fell).railsShown fell)
    [Reg.CEL_STAT_rails_on, Reg.PWR_STAT_vcore_good, Reg.PWR_STAT_vio_good, Reg.PWR_STAT_vdda_good] [.pwr] := by
  have hasleep := (Frame.put s Reg.CEL_STAT_rails_on (!fell) (fs := [Reg.CEL_STAT_rails_on, Reg.PWR_STAT_vcore_good,
    Reg.PWR_STAT_vio_good, Reg.PWR_STAT_vdda_good]) [.pwr] (.head _)).trans (.modPwr _ (fun p => { p with
    sleep := .none, state := if dormant then .dormant else .watch }) _ (.head _))
  cases fell with
  | false => exact hasleep
  | true => exact hasleep.trans (.sets _ _ _ (by decide))

theorem railsShown_pwr (s : Chip) (fell : Bool) : (s.railsShown fell).pwr = s.pwr := by
  cases fell <;> rfl

theorem get_railsShown (s : Chip) (fell : Bool) : (s.railsShown fell).get Reg.CEL_STAT_rails_on = s.get Reg.CEL_STAT_rails_on := by
  cases fell with
  | false => rfl
  | true => exact get_sets_other _ (by decide)

end Chip

variable {s : State} {d : Word} {dormant fell : Bool}

theorem sleepRequest_refused (hd : s.chip.pwr.dieReset = false) (hb : s.chip.sleepBits d.toNat ≠ 0) :
    Completes (.sleepRequest d) s [Reg.CEL_STAT_refused, Reg.CEL_STAT_abort, Reg.CEL_STAT_refuse] [.log] (fun t =>
      t.get Reg.CEL_STAT_refused = 1 ∧ t.get Reg.CEL_STAT_refuse = s.chip.sleepBits d.toNat) := by
  have hx : exec (.sleepRequest d) s = s.act fun c => c.sleepRefused (s.chip.sleepBits d.toNat) :=
    State.act_congr (Chip.sleepWrite_refused hb)
  refine completes_of_act hx hd (s.chip.sleepRefused_frame _) ?_
  have hk : [Reg.CEL_STAT_refused, Reg.CEL_STAT_abort, Reg.CEL_STAT_refuse].Pairwise fun f g => f.key ≠ g.key := by decide
  simp only [Chip.settle_get, Chip.get_sleepRefused]
  refine ⟨Chip.get_sets_mem (v := 1) _ (.head _) hk, ?_⟩
  exact Eq.trans (b := s.chip.sleepBits d.toNat % 2 ^ 6) (Chip.get_sets_mem _ (by simp) hk)
    (Nat.mod_eq_of_lt (s.chip.sleepBits_lt _))

theorem sleepRequest_queued (hd : s.chip.pwr.dieReset = false) (hb : s.chip.sleepBits d.toNat = 0) :
    Completes (.sleepRequest d) s [Reg.CEL_STAT_refused, Reg.CEL_STAT_abort, Reg.CEL_STAT_refuse, Reg.CEL_STAT_xfer] [.pwr]
      (fun t => t.get Reg.CEL_STAT_refused = 0 ∧ t.get Reg.CEL_STAT_abort = 0 ∧ t.get Reg.CEL_STAT_xfer = 1 ∧
        t.get Reg.CEL_STAT_refuse = s.chip.get Reg.CEL_STAT_refuse ∧
        t.pwr.sleep = .queued (d.toNat % 4 == 1)) := by
  have hx : exec (.sleepRequest d) s = s.act fun c => c.sleepQueued d.toNat :=
    State.act_congr (Chip.sleepWrite_queued hb)
  refine completes_of_act hx hd (s.chip.sleepQueued_frame _) ?_
  simp only [Chip.settle_get, Chip.settle_pwr]
  refine ⟨?_, ?_, s.chip.get_sleepQueued_xfer _, ?_, rfl⟩ <;> rw [Chip.get_sleepQueued_other _ _ (by decide)]
  · exact Chip.get_sets_mem _ (v := 0) (by decide) (by decide)
  · exact Chip.get_sets_mem _ (v := 0) (by decide) (by decide)
  · exact Chip.get_sets_other _ (by decide)

theorem cellarTransfer_plain (hdorm : s.chip.pwr.state ≠ .dormant) (hoff : s.chip.pwr.state ≠ .off) {p : Nat × Nat}
    (hrun : s.chip.pwr.xferRun = [p]) (hp : p.1 ≠ 0x41A00818) (hsleep : s.chip.pwr.sleep = .none) :
    Completes .cellarTransfer s [Reg.CEL_STAT_xfer, Reg.CLK_STAT_aon_xtal] [.pwr] (fun t =>
      t.acting p.1 = p.2 ∧ t.pwr.xferRun = s.chip.pwr.xferHeld ∧ t.pwr.xferHeld = []) := by
  have hx : exec .cellarTransfer s = s.actRaw fun c => c.transferred := by
    change execCellarTransfer s = _
    unfold execCellarTransfer
    refine State.actRaw_congr ?_
    rw [if_neg (by simp [hrun, hdorm, hoff])]
    extract_lets
    rw [s.chip.transferred_sleep, hsleep]
  refine completes_of_actRaw hx s.chip.transferred_frame ?_
  rw [Chip.acting, Chip.settle_pwr]
  exact ⟨Chip.transferred_acting hrun hp, rfl, rfl⟩

theorem cellarTransfer_sleep (hsleep : s.chip.pwr.sleep = .queued dormant) (hdorm : s.chip.pwr.state ≠ .dormant)
    (hoff : s.chip.pwr.state ≠ .off) {p : Nat × Nat}
    (hp : (s.chip.pwr.xferRun.find? fun p => p.1 = 0x41A00818) = some p) : Ends .cellarTransfer s (fun t =>
      s.chip.DieDown t ∧ t.pwr.sleep = .waiting (p.2 % 4 == 1) ∧ t.pwr.pwrReq = false ∧ t.pwr.railsUp = false) := by
  have hrun : s.chip.pwr.xferRun ≠ [] := List.ne_nil_of_mem (List.mem_of_find?_eq_some hp)
  have hx : exec .cellarTransfer s = s.actRaw fun c => c.fallAsleep (p.2 % 4 == 1) := by
    change execCellarTransfer s = _
    unfold execCellarTransfer
    refine State.actRaw_congr ?_
    rw [if_neg (by simp [hrun, hdorm, hoff])]
    dsimp only
    rw [s.chip.transferred_sleep, hsleep, hp]
    rfl
  have ⟨hdown, hfresh⟩ := s.chip.fallAsleep_down (p.2 % 4 == 1)
  refine ends_of_actRaw hx ⟨⟨?_, hfresh.settle⟩, ?_⟩ <;> rw [Chip.settle_pwr]
  · exact hdown
  · exact s.chip.fallAsleep_pwr _

theorem sleepRailWaitEnd_completes (hsleep : s.chip.pwr.sleep = .waiting dormant) :
    Completes (.sleepRailWaitEnd fell) s [Reg.CEL_STAT_rails_on, Reg.PWR_STAT_vcore_good, Reg.PWR_STAT_vio_good,
        Reg.PWR_STAT_vdda_good] [.pwr] (fun t => t.pwr.state = (if dormant then .dormant else .watch) ∧
      t.pwr.sleep = .none ∧ t.get Reg.CEL_STAT_rails_on = b2n (!fell)) := by
  have hx : exec (.sleepRailWaitEnd fell) s = s.actRaw fun c => (c.asleep dormant fell).railsShown fell := by
    change execSleepRailWaitEnd fell s = _
    unfold execSleepRailWaitEnd
    refine State.actRaw_congr ?_
    rw [hsleep]
    rfl
  refine completes_of_actRaw hx (s.chip.asleep_railsShown_frame ..) ?_
  rw [Chip.settle_pwr, Chip.settle_get, Chip.railsShown_pwr, Chip.get_railsShown]
  exact ⟨rfl, rfl, s.chip.get_put_self Reg.CEL_STAT_rails_on _ (by decide)⟩

/-- Settles O19. -/
theorem sleepEntry : Obligations.SleepEntry := by
  unfold Obligations.SleepEntry
  intro s d dormant fell
  refine ⟨sleepRequest_refused, sleepRequest_queued, fun hdorm hoff p hp hne hlen => ?_, fun hsleep hdorm hoff p hp => ?_,
    fun hstate => ?_, sleepRailWaitEnd_completes⟩
  · obtain ⟨q, hq⟩ := List.length_eq_one_iff.1 hlen
    obtain rfl : p = q := List.mem_singleton.1 (hq ▸ hp)
    exact cellarTransfer_plain hdorm hoff hq hne
  · exact cellarTransfer_sleep hsleep hdorm hoff (Option.mem_toList.1 hp)
  · have hx : exec .cellarTransfer s = s.actRaw fun c => c := by
      change execCellarTransfer s = _
      unfold execCellarTransfer
      refine State.actRaw_congr (if_pos ?_)
      rcases hstate with h | h <;> simp [h]
    exact completes_unchanged_raw hx rfl

end Sys2Proof.Machine
end

section
/-! SUPPORT. What the clock gates leave of the power state, and the watch slots of the Cellar (R95, R96, R98). -/

namespace Sys2Proof.Machine

namespace Chip

/-! ### The power state but for the events held at a gate -/

/-- The power state of `d` is that of `c`, but for the events held at the regions' gates (R115). -/
structure SamePower (c d : Chip) : Prop where
  eq : { d.pwr with crossings := [] } = { c.pwr with crossings := [] }

namespace SamePower

variable {z s t : Chip}

theorem refl (z : Chip) : z.SamePower z := ⟨rfl⟩

theorem trans (h : z.SamePower s) (k : s.SamePower t) : z.SamePower t := ⟨k.eq.trans h.eq⟩

theorem state (h : z.SamePower s) : s.pwr.state = z.pwr.state := (congrArg PowerS.state h.eq :)

theorem sleep (h : z.SamePower s) : s.pwr.sleep = z.pwr.sleep := (congrArg PowerS.sleep h.eq :)

theorem dieReset (h : z.SamePower s) : s.pwr.dieReset = z.pwr.dieReset := (congrArg PowerS.dieReset h.eq :)

theorem railsUp (h : z.SamePower s) : s.pwr.railsUp = z.pwr.railsUp := (congrArg PowerS.railsUp h.eq :)

theorem vddaOk (h : z.SamePower s) : s.pwr.vddaOk = z.pwr.vddaOk := (congrArg PowerS.vddaOk h.eq :)

theorem safetyOnMon (h : z.SamePower s) : s.pwr.safetyOnMon = z.pwr.safetyOnMon := (congrArg PowerS.safetyOnMon h.eq :)

theorem locked (h : z.SamePower s) : s.pwr.locked = z.pwr.locked := (congrArg PowerS.locked h.eq :)

/-- An operation that changes no power state at all. -/
theorem same (h : z.SamePower s) (e : t.pwr = s.pwr) : z.SamePower t :=
  h.trans ⟨congrArg (fun p : PowerS => { p with crossings := [] }) e⟩

/-- An operation outside whose parts the power state stands. -/
theorem inside {M : ℕ} (h : z.SamePower s) (hi : s.Inside M t) (hM : M.testBit Part.pwr.bit = false) : z.SamePower t :=
  h.same (hi .pwr hM).symm

theorem ite {c : Prop} [Decidable c] {a b : Chip} (ha : z.SamePower a) (hb : z.SamePower b) :
    z.SamePower (if c then a else b) := by
  split <;> assumption

theorem each {α : Type} {l : List α} {f : α → Chip → Chip} (h : z.SamePower s)
    (hf : ∀ a t, z.SamePower t → z.SamePower (f a t)) : z.SamePower (forEach l f s) :=
  forEach_preserves (fun a _ t ht => hf a t ht) h

theorem openGate (h : z.SamePower s) (g : Nat) : z.SamePower (s.openGate g) := by
  unfold Chip.openGate
  exact .ite h ⟨h.eq⟩

theorem note (h : z.SamePower s) (code inst data : Nat) : z.SamePower (s.note code inst data) :=
  h.inside (note_inside (M := 66) (by rfl) (.refl s _)) rfl

theorem firstNote (h : z.SamePower s) (flag : Field) (code inst data : Nat) : z.SamePower (s.firstNote flag code inst data) :=
  h.inside (firstNote_inside (M := 66) (by rfl) (.refl s _)) rfl

theorem crossing (h : z.SamePower s) (g : Nat) : z.SamePower (s.crossing g) := by
  unfold Chip.crossing
  exact .ite (.ite ⟨h.eq⟩ (h.firstNote ..)) h

end SamePower

/-! ### What a slot does in RUN -/

theorem get_showReq (s : Chip) (f : Field) : s.showReq.get f = s.get f := rfl

/-- The status bits of the gates and of their held events. -/
abbrev gateFields : List Field :=
  [Reg.CLK_STAT_rgn_a_gated, Reg.CLK_STAT_rgn_b_gated, Reg.CLK_XOVF_rgn_a, Reg.CLK_XOVF_rgn_b]

section
variable (s : Chip) {fs : List Field} {ps : List Part}

theorem Frame.ite {c : Prop} [Decidable c] {a b : Chip} (ha : s.Frame a fs ps) (hb : s.Frame b fs ps) :
    s.Frame (if c then a else b) fs ps := by
  split <;> assumption

theorem Frame.firstNote (flag : Field) (code inst data : Nat) (hf : flag ∈ fs) (hl : Part.log ∈ ps) (h1 : code ≠ 0x0E13)
    (h2 : code ≠ 0x0E10) : s.Frame (s.firstNote flag code inst data) fs ps :=
  Frame.ite s (.put s _ _ _ hf) ((Frame.put s _ _ _ hf).trans (.note _ _ _ _ hl h1 h2))

theorem Frame.openGate (g : Nat) : s.Frame (s.openGate g) gateFields [.pwr, .log] := by
  unfold Chip.openGate
  refine .ite s (.refl ..) ((Frame.put s _ _ _ ?_).trans (.pwr _ _ _ (.head _)))
  split <;> decide

theorem Frame.crossing (g : Nat) : s.Frame (s.crossing g) gateFields [.pwr, .log] := by
  unfold Chip.crossing
  refine .ite s (Frame.ite s (.modPwr s _ _ (.head _)) (.firstNote s _ _ _ _ ?_ (by decide) (by decide) (by decide))) (.refl ..)
  split <;> decide

theorem Frame.slotRun (n : Nat) : s.Frame (s.slotRun n) gateFields [.pwr, .log] := by
  have hlatch : s.Frame (if s.pwr.locked then s else s.modPwr fun p => { p with latched := setBit p.latched n })
      gateFields [.pwr, .log] := .ite s (.refl ..) (.modPwr s _ _ (.head _))
  exact forEach_preserves (P := fun t => s.Frame t gateFields [.pwr, .log])
    (fun g _ t ht => ht.trans (.ite t (.openGate t g) (.crossing t g))) hlatch

end

/-- A slot latched in RUN leaves the power state's way. -/
theorem slotRun_state (s : Chip) (n : Nat) :
    (s.slotRun n).pwr.state = s.pwr.state ∧ (s.slotRun n).pwr.sleep = s.pwr.sleep := by
  unfold slotRun
  extract_lets t
  have hstate : t.pwr.state = s.pwr.state ∧ t.pwr.sleep = s.pwr.sleep := by
    unfold t
    split <;> exact ⟨rfl, rfl⟩
  have hrun : t.SamePower (forEach [0, 1] (fun g u => if hasBit (u.slotRgn n) g then u.openGate g else u.crossing g) t) :=
    (SamePower.refl t).each fun g _ hu => .ite (hu.openGate g) (hu.crossing g)
  exact ⟨hrun.state.trans hstate.1, hrun.sleep.trans hstate.2⟩

/-! ### A slot fires -/

/-- The slot's bit of CEL_WAKE_CAUSE stands. -/
def caused (s : Chip) (n : Nat) : Chip := s.setBitOf Reg.CEL_WAKE_CAUSE_cause n

/-- The slot wakes the module (Table 03-7) and counts for the regions that it brings up (R101). -/
def woken (s : Chip) (n reason : Nat) : Chip :=
  (s.wake reason).modPwr fun p => { p with latched := setBit p.latched n }

/-- The slot abandons a sleep request (Table 03-5). -/
def stayed (s : Chip) (n : Nat) : Chip := s.sleepAbandon.note 0x0D31 0 n

/-- What a watched slot does, by the power state and the way into sleep. -/
theorem slotFire_cases {s : Chip} {n : Nat} (h : s.slotOn n = true) :
    ((s.pwr.state = .dormant ∨ s.pwr.state = .watch ∨ s.pwr.state = .run ∧ ∃ b, s.pwr.sleep = .waiting b) ∧
      ∃ r, s.slotFire n = (s.caused n).woken n r) ∨
    (s.pwr.state = .off ∧ s.slotFire n = s.caused n) ∨
    (s.pwr.state = .run ∧ (∃ b, s.pwr.sleep = .queued b) ∧ s.slotFire n = ((s.caused n).stayed n).slotRun n) ∨
    (s.pwr.state = .run ∧ s.pwr.sleep = .none ∧ s.slotFire n = (s.caused n).slotRun n) := by
  have hpwr : (s.caused n).pwr = s.pwr := rfl
  have hfire : s.slotFire n = (match s.pwr.state, s.pwr.sleep with
      | .dormant, _ => (s.caused n).woken n 1
      | .watch, _ => (s.caused n).woken n 2
      | .off, _ => s.caused n
      | .run, .waiting _ => (s.caused n).woken n 2
      | .run, .queued _ => ((s.caused n).stayed n).slotRun n
      | .run, .none => (s.caused n).slotRun n) := by
    unfold slotFire
    rw [h, if_neg (by decide)]
    rfl
  rw [hfire]
  cases hstate : s.pwr.state with
  | dormant => exact .inl ⟨.inl rfl, 1, rfl⟩
  | watch => exact .inl ⟨.inr (.inl rfl), 2, rfl⟩
  | off => exact .inr (.inl ⟨rfl, rfl⟩)
  | run =>
    cases hsleep : s.pwr.sleep with
    | waiting b => exact .inl ⟨.inr (.inr ⟨rfl, b, rfl⟩), 2, rfl⟩
    | queued b => exact .inr (.inr (.inl ⟨rfl, ⟨b, rfl⟩, rfl⟩))
    | none => exact .inr (.inr (.inr ⟨rfl, rfl, rfl⟩))

theorem hasBit_caused (s : Chip) (n : Fin 16) : hasBit ((s.caused n).get Reg.CEL_WAKE_CAUSE_cause) n = true := by
  rw [caused, hasBit_setBitOf _ _ _ n.isLt]
  simp

theorem woken_frame (s : Chip) (n r : Nat) : s.Frame (s.woken n r) [Reg.CEL_STAT_state_prev] [.pwr] :=
  ((Frame.set s _ _ _ (.head _)).trans (.modPwr _ _ _ (.head _))).trans
    ((Frame.modPwr _ _ _ (.head _)).trans (.modPwr _ _ _ (.head _)))

theorem latched_woken (s : Chip) (n r : Nat) : hasBit (s.woken n r).pwr.latched n = true := by
  have h : (s.woken n r).pwr.latched = setBit s.pwr.latched n := rfl
  rw [h, hasBit_setBit]
  simp

theorem pwrReq_woken (s : Chip) (n r : Nat) : (s.woken n r).pwr.pwrReq = hasBit (s.acting 0x41A00804) 0 :=
  (Bool.and_true _).trans (Bool.and_true _)

theorem sleepAbandon_frame (s : Chip) : s.Frame s.sleepAbandon [Reg.CEL_STAT_xfer, Reg.CEL_STAT_abort] [.pwr] := by
  unfold sleepAbandon
  extract_lets _ t
  exact ((Frame.modPwr s _ _ (.head _)).trans (.sets _ _ t (by simp))).trans (.modPwr _ _ _ (.head _))

theorem stayed_frame (s : Chip) (n : Nat) : s.Frame (s.stayed n) [Reg.CEL_STAT_xfer, Reg.CEL_STAT_abort] [.pwr, .log] :=
  (s.sleepAbandon_frame.mono (fun _ h => h) (by decide)).trans (.note _ _ _ _ (by decide) (by decide) (by decide))

theorem stayed_state (s : Chip) (n : Nat) : (s.stayed n).pwr.sleep = .none ∧ (s.stayed n).pwr.state = s.pwr.state := by
  have hnote : s.sleepAbandon.SamePower (s.stayed n) := (SamePower.refl _).note ..
  rw [hnote.sleep, hnote.state]
  unfold sleepAbandon
  extract_lets _ t
  have ht : t.pwr.sleep = .none ∧ t.pwr.state = s.pwr.state := by
    simp only [t, modPwr]
    split <;> exact ⟨rfl, rfl⟩
  exact ht

theorem get_stayed_abort (s : Chip) (n : Nat) : (s.stayed n).get Reg.CEL_STAT_abort = 1 := by
  rw [stayed, get_note _ (by decide) (by decide)]
  unfold sleepAbandon
  extract_lets _ t
  rw [get_showReq]
  exact get_sets_mem (v := 1) t (.tail _ (.head _)) (by simp [Field.key, Reg.CEL_STAT_xfer, Reg.CEL_STAT_abort])

/-- What a watched slot does beside its own bit leaves CEL_WAKE_CAUSE alone. -/
theorem get_slotFire_cause {s : Chip} {n : Nat} (h : s.slotOn n = true) :
    (s.slotFire n).get Reg.CEL_WAKE_CAUSE_cause = (s.caused n).get Reg.CEL_WAKE_CAUSE_cause := by
  rcases slotFire_cases h with ⟨-, r, e⟩ | ⟨-, e⟩ | ⟨-, -, e⟩ | ⟨-, -, e⟩ <;> rw [e]
  · exact (woken_frame ..).1 _ (by decide)
  · rw [(Frame.slotRun ..).1 _ (by decide), (stayed_frame ..).1 _ (by decide)]
  · exact (Frame.slotRun ..).1 _ (by decide)

end Chip

variable {s : State} {n : Fin 16}

theorem wakeSlotFire_cause (h : s.chip.slotOn n = true) : Touches (.wakeSlotFire n) s [.regs, .pwr, .log] (fun t =>
    hasBit (t.get Reg.CEL_WAKE_CAUSE_cause) n = true) := by
  refine touches_of_actRaw (f := fun c => c.slotFire n) rfl (Chip.slotFire_inside (by rfl) (.refl s.chip _)) ?_
  rw [Chip.settle_get, Chip.get_slotFire_cause h]
  exact s.chip.hasBit_caused n

theorem wakeSlotFire_wakes (h : s.chip.slotOn n = true) (hstate : s.chip.pwr.state = .dormant ∨ s.chip.pwr.state = .watch) :
    Completes (.wakeSlotFire n) s [Reg.CEL_WAKE_CAUSE_cause, Reg.CEL_STAT_state_prev] [.pwr] (fun t =>
      t.pwr.state = .run ∧ t.pwr.waking = true ∧ hasBit t.pwr.latched n = true ∧
      t.pwr.pwrReq = hasBit (s.chip.acting 0x41A00804) 0) := by
  obtain ⟨r, e⟩ : ∃ r, s.chip.slotFire n = (s.chip.caused n).woken n r := by
    rcases Chip.slotFire_cases h with ⟨-, he⟩ | ⟨hoff, -⟩ | ⟨hrun, -⟩ | ⟨hrun, -⟩
    · exact he
    all_goals rcases hstate with hs | hs <;> simp_all
  have hx : exec (.wakeSlotFire n) s = s.actRaw fun c => (c.caused n).woken n r :=
    State.actRaw_congr (f := fun c => c.slotFire n) e
  refine completes_of_actRaw hx ?_ ?_
  · exact (Chip.Frame.setBitOf _ _ _ _ (.head _)).trans ((Chip.woken_frame ..).mono (by simp) (by simp))
  · rw [Chip.settle_pwr]
    refine ⟨rfl, rfl, ?_, ?_⟩
    · exact ((s.chip.caused n).latched_woken n r)
    · exact ((s.chip.caused n).pwrReq_woken n r)

theorem wakeSlotFire_abandons {b : Bool} (h : s.chip.slotOn n = true) (hrun : s.chip.pwr.state = .run)
    (hsleep : s.chip.pwr.sleep = .queued b) : Touches (.wakeSlotFire n) s [.regs, .pwr, .log] (fun t =>
      t.pwr.sleep = .none ∧ t.pwr.state = .run ∧ t.get Reg.CEL_STAT_abort = 1) := by
  have e : s.chip.slotFire n = ((s.chip.caused n).stayed n).slotRun n := by
    rcases Chip.slotFire_cases h with ⟨hs, -⟩ | ⟨hs, -⟩ | ⟨-, -, e⟩ | ⟨-, hs, -⟩
    case inr.inr.inl => exact e
    all_goals simp_all
  have hafter := ((s.chip.caused n).stayed n).slotRun_state n
  have hstayed := (s.chip.caused n).stayed_state n
  refine touches_of_actRaw (f := fun c => c.slotFire n) rfl (Chip.slotFire_inside (by rfl) (.refl s.chip _)) ?_
  rw [Chip.settle_pwr, Chip.settle_get, e]
  refine ⟨hafter.2.trans hstayed.1, hafter.1.trans (hstayed.2.trans hrun), ?_⟩
  rw [(Chip.Frame.slotRun ..).1 _ (by decide)]
  exact (s.chip.caused n).get_stayed_abort n

/-- Settles O20. -/
theorem wakeSlotFires : Obligations.WakeSlotFires := by
  unfold Obligations.WakeSlotFires
  intro s n
  refine ⟨fun h => ?_, wakeSlotFire_cause, wakeSlotFire_wakes, fun b => wakeSlotFire_abandons⟩
  exact completes_unchanged_raw (f := fun c => c.slotFire n) rfl (if_pos (by simp [h]))

end Sys2Proof.Machine
end

section
/-! SUPPORT. Faults, demands and region resets leave the power state, but for the events held at the gates that they open. -/

namespace Sys2Proof.Machine.Chip.SamePower

variable {z s t : Chip}

theorem openGates (h : z.SamePower s) (k : Nat) : z.SamePower (s.openGates k) :=
  (h.openGate _).each fun _ _ ht => ht.openGate _

/-- A change of state opens gates where it leaves READY; all else that it does is outside the power state. -/
theorem enter (h : z.SamePower s) (k st : Nat) : z.SamePower (s.enter k st) := by
  unfold Chip.enter
  extract_lets old s1 s2 s3 s4 s5 s6 s7 s8 s9 s10 s11 s12 s13
  refine .ite h ?_
  have h3 : s.Inside 1708098 s3 := put_inside (by rfl) (modCl_inside (by rfl) (sets_inside (by rfl) (.refl s _)))
  clear_value s3
  have h4 : z.SamePower s4 := by
    have hcarry : s.Inside 1708098 (forEach (s3.slicesOf k) (fun n t => t.resumeCarrier n) s3) :=
      .each h3 fun n t ht => resumeCarrier_inside (by rfl) ht
    exact .ite ((h.inside hcarry rfl).openGates k) (h.inside h3 rfl)
  clear_value s4
  have h5 : s4.Inside 1708098 s5 := .ite (.each (modCl_inside (by rfl) (.refl s4 _)) fun n t ht => modSlice_inside (by rfl) ht) (.refl s4 _)
  clear_value s5
  have h6 : s4.Inside 1708098 s6 := .ite h5 (.each (sets_inside (by rfl) h5) fun n t ht => setGate_inside (by rfl) ht)
  clear_value s6
  have h7 : s4.Inside 1708098 s7 := .ite (set_inside (by rfl) h6) h6
  clear_value s7
  have h10 : s4.Inside 1708098 s10 := put_inside (by rfl) (modCl_inside (by rfl) (put_inside (by rfl) h7))
  clear_value s10
  have h11 : s4.Inside 1708098 s11 := .ite (.ite (setOvrs_inside (by rfl) (set_inside (by rfl) h10)) h10) h7
  clear_value s11
  have h12 : s4.Inside 1708098 s12 := .ite (.each h11 fun n t ht => abortLeak_inside (by rfl) ht) h11
  clear_value s12
  exact h4.inside (applyContactors_inside (by rfl) (refreshHold_inside (by rfl) h12)) rfl

theorem stand (h : z.SamePower s) (k code inst : Nat) (latch : Bool) : z.SamePower (s.stand k code inst latch) := by
  unfold Chip.stand
  extract_lets s1 _ s2 s3 s4
  have h3 : z.SamePower s3 := by
    have h1 : s.Inside 1708098 s1 := modCl_inside (by rfl) (.ite (.refl s _) (unrefuse_inside (by rfl) (.refl s _)))
    have h2 : s.Inside 1708098 s2 := modCl_inside (by rfl) h1
    exact h.inside (put_inside (by rfl) (.ite (setStanding_inside (by rfl) h2) h2)) rfl
  have h4 : z.SamePower s4 := .ite h3 (h3.enter k 4)
  exact .ite (h4.inside (refreshHold_inside (M := 1708098) (by rfl) (.refl s4 _)) rfl)
    (h4.inside (demandBegins_inside (M := 1708098) (by rfl) (.refl s4 _)) rfl)

theorem fall (h : z.SamePower s) (k code cls inst : Nat) : z.SamePower (s.fall k code cls inst) := by
  unfold Chip.fall
  extract_lets s1
  have h1 : z.SamePower s1 := by
    unfold s1
    refine .ite ?_ h
    split
    · exact h.same rfl
    · exact h
  exact h1.stand ..

theorem record (h : z.SamePower s) (code cls inst cluster region data : Nat) :
    z.SamePower (s.record code cls inst cluster region data) :=
  h.inside (record_inside (M := 66) (by rfl) (.refl s _)) rfl

theorem sets (h : z.SamePower s) (l : List (Field × Nat)) : z.SamePower (s.sets l) :=
  h.inside (sets_inside (M := 2) (by rfl) (.refl s _)) rfl

theorem faultCl (h : z.SamePower s) (code cls inst k data : Nat) : z.SamePower (s.faultCl code cls inst k data) :=
  (h.record ..).fall ..

theorem faultAll (h : z.SamePower s) (code cls inst : Nat) (ks : List Nat) (data : Nat) :
    z.SamePower (s.faultAll code cls inst ks data) :=
  (h.record ..).each fun _ _ ht => (ht.sets _).fall ..

theorem faultOn (h : z.SamePower s) (code cls inst : Nat) (ks : List Nat) (data : Nat) :
    z.SamePower (s.faultOn code cls inst ks data) := by
  unfold Chip.faultOn
  split
  · exact h.faultCl ..
  · exact h.faultAll ..

theorem cmpDemand (h : z.SamePower s) (n : Nat) (ks : List Nat) (data : Nat) : z.SamePower (s.cmpDemand n ks data) := by
  unfold Chip.cmpDemand
  split
  · exact h.faultOn ..
  · exact h.faultOn ..
  · have hshow : s.Inside 1708098 (s.put Reg.SAFE_FLAGS_ov3_ev true).showVdc.showOv3 :=
      showOv3_inside (by rfl) (showVdc_inside (by rfl) (put_inside (by rfl) (.refl s _)))
    exact (h.inside hshow rfl).faultAll ..
  · exact h

theorem cmpDemands (h : z.SamePower s) : z.SamePower s.cmpDemands :=
  h.each fun _ _ ht => .ite ht (ht.cmpDemand ..)

theorem fltDemand (h : z.SamePower s) : z.SamePower s.fltDemand := by
  unfold Chip.fltDemand
  extract_lets s1 s2
  have h2 : s.Inside 1708098 s2 := firstNote_inside (by rfl) (allHiz_inside (by rfl) (sets_inside (by rfl) (.refl s _)))
  exact ((h.inside h2 rfl).sets _).faultAll ..

/-! ### Region resets -/

theorem haltPartner (h : z.SamePower s) (g code : Nat) : z.SamePower (s.haltPartner g code) := by
  unfold Chip.haltPartner
  exact .ite (h.stand ..) h

/-- A region's reset opens its gate first; what follows is outside the power state. -/
theorem regionDown (h : z.SamePower s) (g : Nat) : z.SamePower (s.regionDown g) := by
  have hopen : z.SamePower ((s.modRgn g fun r => { r with inReset := true }).openGate g) := openGate (h.same (t := s.modRgn g _) rfl) g
  have hM : Sub 125546750 125546750 := by rfl
  unfold Chip.regionDown
  extract_lets +onlyGivenNames s1
  refine hopen.inside (M := 125546750) ?_ rfl
  change s1.Inside _ _
  have h1 : s1.Inside 125546750 s1 := .refl s1 _
  clear_value s1
  extract_lets +onlyGivenNames s2
  have h2 : s1.Inside 125546750 s2 := by
    refine .each h1 fun k t ht => modCl_inside (hM.up rfl) (sets_inside (hM.up rfl)
      (clusterHidden_inside (hM.up rfl) (clusterRegs_inside (hM.up rfl) (.ite (set_inside (hM.up rfl) ?_) ?_)))) <;>
    exact endDuplex_inside (hM.up rfl) (endDuplex_inside (hM.up rfl) ht)
  clear_value s2
  extract_lets +onlyGivenNames s3
  have h3 : s1.Inside 125546750 s3 := by
    refine .each h2 fun n t ht => showHiz_inside (hM.up rfl) (sliceUnitReset_inside (hM.up rfl)
      (modSlice_inside (hM.up rfl) (.ite (setGate_inside (hM.up rfl) ?_) ?_))) <;>
    exact put_inside (hM.up rfl) ht
  clear_value s3
  extract_lets +onlyGivenNames s4
  have h4 : s1.Inside 125546750 s4 :=
    .each h3 fun c t ht => .mk_irq (hM.up rfl) (modHart_inside (hM.up rfl) (resetRange_inside (hM.up rfl) ht))
  clear_value s4
  extract_lets lo nlo _ _ s5
  have h5 : s1.Inside 125546750 s5 := .mk_mem_ecc_fab_bus_memS (hM.up rfl) h4
  clear_value s5
  exact refreshHolds_inside (hM.up rfl) (.each (hwRegion_inside (hM.up rfl) (semRegion_inside (hM.up rfl) h5))
    fun k t ht => demandBegins_inside (hM.up rfl) ht)

theorem regionReset (h : z.SamePower s) (g : Nat) (cause : Field) : z.SamePower (s.regionReset g cause) :=
  ((h.same (t := s.put cause true) rfl).record ..).regionDown g

theorem haltRegion (h : z.SamePower s) (g code : Nat) : z.SamePower (s.haltRegion g code) :=
  (h.regionReset g _).haltPartner g code

end Sys2Proof.Machine.Chip.SamePower
end

section
/-! SUPPORT. The release of the control die once its rails stand, and the reset of the Cellar (R83, R90, R125). -/

namespace Sys2Proof.Machine

/-- From what an always-on command stays inside of, to the parts that a statement lists. -/
theorem touches_of_inside_raw {i : Instr} {s : State} {f : Chip → Chip} {ps : List Part} {p : Chip → Prop}
    (hx : exec i s = s.actRaw f) (hi : ∀ t, exec i s = .next t → s.chip.Inside (Part.mask ps) t.chip)
    (hp : p (f s.chip).settle) : Touches i s ps p :=
  ⟨_, hx, rfl, (hi _ hx).within_mask, hp⟩

namespace Chip

/-- The bits that show the rails good and the PLL not yet locked. -/
abbrev railBits : List (Field × Nat) :=
  [(Reg.PWR_STAT_vcore_good, 1), (Reg.PWR_STAT_vio_good, 1), (Reg.PWR_STAT_vdda_good, 1), (Reg.PWR_STAT_aon_good, 1),
    (Reg.CLK_STAT_pll_lock, 0)]

/-- The rails count as up, and the next start has the power as its cause. -/
def powered (s : Chip) : Chip :=
  { s with cfg := { s.cfg with causeNext := setBit s.cfg.causeNext 2 } }.modPwr fun p =>
    { p with railsUp := true, vddaOk := true, locked := false }

/-- The rails stand; nothing is released yet (R83). -/
def railsRisen (s : Chip) : Chip := (s.sets railBits).powered

/-- The control die leaves reset, with the demands of the pins that stand. -/
def released (s : Chip) : Chip :=
  let s := s.dieRelease
  let s := if s.hw.sleepPin then s.put Reg.HW_STAT_sleep true else s
  if s.pwmG.fltLow then s.fltDemand else s

variable {s : Chip}

theorem get_powered (s : Chip) (f : Field) : s.powered.get f = s.get f := rfl

theorem Frame.powered (s : Chip) (fs : List Field) : s.Frame s.powered fs [.pwr, .cfg] :=
  (Frame.cfg s _ _ (by decide)).trans (.modPwr _ _ _ (.head _))

theorem railsRisen_frame (s : Chip) : s.Frame s.railsRisen [Reg.PWR_STAT_vcore_good, Reg.PWR_STAT_vio_good,
    Reg.PWR_STAT_vdda_good, Reg.PWR_STAT_aon_good, Reg.CLK_STAT_pll_lock] [.pwr, .cfg] :=
  (Frame.sets railBits _ s (by decide)).trans (.powered ..)

theorem get_railsRisen (s : Chip) (f : Field) : s.railsRisen.get f = (s.sets railBits).get f :=
  (s.sets railBits).get_powered f

theorem get_railsRisen_good {f : Field} (h : (f, 1) ∈ railBits) : s.railsRisen.get f = 1 % 2 ^ f.width := by
  rw [get_railsRisen, get_sets_mem s h (by decide)]

theorem railsRisen_pinHolds (s : Chip) : s.railsRisen.pinHolds = s.pinHolds := by
  have hmasked : s.railsRisen.get Reg.CEL_STAT_rst_masked = s.get Reg.CEL_STAT_rst_masked := by
    rw [get_railsRisen, get_sets_other s (by decide)]
  rw [pinHolds, pinHolds, Chip.on, Chip.on, hmasked]
  rfl

theorem tryRelease_railsRisen (hreset : s.pwr.dieReset = true) (hrun : s.pwr.state = .run) (hsleep : s.pwr.sleep = .none) :
    s.railsRisen.tryRelease = if s.pinHolds then s.railsRisen else s.railsRisen.released := by
  have hpwr : s.railsRisen.pwr = { s.pwr with railsUp := true, vddaOk := true, locked := false } := rfl
  unfold tryRelease
  rw [railsRisen_pinHolds, hpwr, hreset, hrun, hsleep]
  cases s.pinHolds <;> rfl

theorem released_power (s : Chip) : s.dieRelease.SamePower s.released := by
  unfold released
  extract_lets t u
  have hu : t.SamePower u := .ite ((SamePower.refl t).same rfl) (.refl t)
  exact .ite hu.fltDemand hu

theorem released_plain (hflt : s.pwmG.fltLow = false) (hsleep : s.hw.sleepPin = false) : s.released = s.dieRelease := by
  have hh : s.dieRelease.hw.sleepPin = false := hsleep
  have hf : s.dieRelease.pwmG.fltLow = false := hflt
  simp only [released, hh, hf, Bool.false_eq_true, if_false]

/-- The rails count as up however the pin stands; the die stays in reset exactly where the pin holds it. -/
theorem railsRisen_tryRelease_pwr (hreset : s.pwr.dieReset = true) (hrun : s.pwr.state = .run)
    (hsleep : s.pwr.sleep = .none) :
    s.railsRisen.tryRelease.pwr.dieReset = s.pinHolds ∧ s.railsRisen.tryRelease.pwr.railsUp = true ∧
      s.railsRisen.tryRelease.pwr.vddaOk = true ∧ s.railsRisen.tryRelease.pwr.locked = false := by
  rw [tryRelease_railsRisen hreset hrun hsleep]
  cases hpin : s.pinHolds with
  | true => exact ⟨hreset, rfl, rfl, rfl⟩
  | false =>
    have h := s.railsRisen.released_power
    exact ⟨h.dieReset, h.railsUp, h.vddaOk, h.locked⟩

end Chip

section
variable {s : State} (hreset : s.chip.pwr.dieReset = true) (hrun : s.chip.pwr.state = .run)
  (hsleep : s.chip.pwr.sleep = .none) (hdown : s.chip.pwr.railsUp = false)
include hreset hrun hsleep hdown

theorem exec_powerOnRelease : exec .powerOnRelease s = s.actRaw fun c => c.railsRisen.tryRelease := by
  change execPowerOnRelease s = _
  unfold execPowerOnRelease
  exact State.actRaw_congr (if_pos (by simp [hreset, hrun, hsleep, hdown]))

theorem powerOnRelease_completes (hflt : s.chip.pwmG.fltLow = false) (hpin : s.chip.hw.sleepPin = false) :
    Completes .powerOnRelease s [Reg.PWR_STAT_vcore_good, Reg.PWR_STAT_vio_good, Reg.PWR_STAT_vdda_good,
        Reg.PWR_STAT_aon_good, Reg.CLK_STAT_pll_lock] [.pwr, .cfg] (fun t =>
      t.pwr.dieReset = s.chip.pinHolds ∧ t.pwr.railsUp = true ∧ t.pwr.vddaOk = true ∧ t.pwr.locked = false ∧
      t.get Reg.PWR_STAT_vcore_good = 1 ∧ t.get Reg.PWR_STAT_vio_good = 1 ∧ t.get Reg.PWR_STAT_vdda_good = 1 ∧
      t.get Reg.PWR_STAT_aon_good = 1) := by
  obtain ⟨hdie, hrails, hvdda, hlock⟩ := Chip.railsRisen_tryRelease_pwr hreset hrun hsleep
  have he : s.chip.railsRisen.tryRelease = if s.chip.pinHolds then s.chip.railsRisen else s.chip.railsRisen.dieRelease := by
    rw [Chip.tryRelease_railsRisen hreset hrun hsleep, Chip.released_plain (s := s.chip.railsRisen) hflt hpin]
  have hget (f : Field) : s.chip.railsRisen.tryRelease.get f = s.chip.railsRisen.get f := by
    rw [he]
    split <;> rfl
  refine completes_of_actRaw (exec_powerOnRelease hreset hrun hsleep hdown) ?_ ?_
  · rw [he]
    exact .ite _ s.chip.railsRisen_frame (s.chip.railsRisen_frame.trans (.pwr _ _ _ (.head _)))
  · simp only [Chip.settle_pwr, Chip.settle_get, hget]
    exact ⟨hdie, hrails, hvdda, hlock, Chip.get_railsRisen_good (by simp), Chip.get_railsRisen_good (by simp),
      Chip.get_railsRisen_good (by simp), Chip.get_railsRisen_good (by simp)⟩

theorem powerOnRelease_touches : Touches .powerOnRelease s [.regs, .log, .pwr, .cfg, .cl, .slice, .isl, .safe] (fun t =>
    t.pwr.dieReset = s.chip.pinHolds ∧ t.pwr.railsUp = true ∧ t.pwr.vddaOk = true) := by
  obtain ⟨hdie, hrails, hvdda, -⟩ := Chip.railsRisen_tryRelease_pwr hreset hrun hsleep
  refine touches_of_inside_raw (exec_powerOnRelease hreset hrun hsleep hdown)
    (fun t h => execPowerOnRelease_inside (by rfl) h) ?_
  rw [Chip.settle_pwr]
  exact ⟨hdie, hrails, hvdda⟩

end

/-- Settles O18. -/
theorem powerOnAndCellarReset : Obligations.PowerOnAndCellarReset := by
  unfold Obligations.PowerOnAndCellarReset
  intro s
  refine ⟨fun hreset hrun hsleep hdown => ⟨powerOnRelease_completes hreset hrun hsleep hdown,
    powerOnRelease_touches hreset hrun hsleep hdown⟩, fun rails => ?_⟩
  obtain ⟨hstate, hdie, hact, hret, hget⟩ := (s.chip.cellarReset_fresh (if rails then .run else .dormant)).settle
  exact ends_of_actRaw (f := fun c => c.cellarReset (if rails then .run else .dormant)) rfl ⟨hstate, hdie, hret, hact, hget⟩

end Sys2Proof.Machine
end

section
/-! SUPPORT. The clock monitors (R107, R108). -/

namespace Sys2Proof.Machine

namespace Chip

variable {s : Chip}

/-- What stands for a cluster is read from the clusters alone. -/
theorem latched_of_cl {t : Chip} {k code : Nat} (h : t.cl = s.cl) (hl : s.Latched k code) : t.Latched k code := by
  unfold Latched cluster at hl ⊢
  rwa [h]

/-- A fault of every cluster by LATCH stands in each of them. -/
theorem latched_faultEvery (hs : s.Shaped) (code inst data : Nat) (k : Fin 4) :
    (s.faultEvery code inst data).Latched k code :=
  latched_faultAll (fun _ hk => List.mem_range.1 hk) hs code inst data (List.mem_range.2 k.isLt)

/-! ### Both regions halted -/

theorem haltRegion_rgn (s : Chip) (g code : Nat) :
    (s.haltRegion g code).rgn = updNth (fun r => { r with inReset := true }) g s.rgn := by
  rw [haltRegion, (haltPartner_inside (M := 1708354) rfl (.refl _ _)).rgn rfl, regionReset_rgn]

theorem ringStop_stopped (s : Chip) : s.ringStop.ring.stopped = true := by
  unfold ringStop
  split <;> rfl

theorem ringStop_power (s : Chip) : s.SamePower s.ringStop :=
  (SamePower.refl s).inside (ringStop_inside (M := 536870978) (by rfl) (.refl s _)) rfl

theorem clockHalt_rgn (s : Chip) (code data : Nat) : (s.clockHalt code data).rgn =
    updNth (fun r => { r with inReset := true }) 1 (updNth (fun r => { r with inReset := true }) 0 s.rgn) := by
  rw [clockHalt, (ringStop_inside (M := 536870978) rfl (.refl _ _)).rgn rfl, haltRegion_rgn, haltRegion_rgn, record_rgn,
    put_rgn]

theorem clockHalt_inReset (h : s.rgn.length = 2) (code data : Nat) : ∀ r ∈ (s.clockHalt code data).rgn, r.inReset = true := by
  obtain ⟨a, b, hab⟩ := List.length_eq_two.1 h
  rw [clockHalt_rgn, hab]
  simp [updNth]

theorem clockHalt_power (s : Chip) (code data : Nat) : s.SamePower (s.clockHalt code data) := by
  have hput : s.SamePower (s.put Reg.CFG_RST_CAUSE_clk true) := (SamePower.refl s).same rfl
  unfold clockHalt
  exact (((hput.record ..).haltRegion ..).haltRegion ..).trans (ringStop_power _)

theorem clockHalt_stopped (s : Chip) (code data : Nat) : (s.clockHalt code data).ring.stopped = true := by
  rw [clockHalt, ringStop_stopped]

/-- The lock of the PLL is lost and shown (R107). -/
def unlocked (s : Chip) : Chip :=
  ((s.monitor 7).put Reg.CLK_STAT_pll_lock false).modPwr fun p => { p with locked := false }

/-- The safety logic runs on the monitor oscillator (R108). -/
def onMonitor (s : Chip) : Chip := (s.monitor 2).modPwr fun p => { p with safetyOnMon := true }

/-! ### The crystal of the always-on clock -/

/-- The Cellar runs on its internal RC. -/
def onRc (s : Chip) : Chip :=
  (s.put Reg.CEL_PWR_CFG_aon_src false).modPwr fun p =>
    { p with acting := insertAt 0x41A00804 (clrBit (lookupD 0 0x41A00804 p.acting) 1) p.acting }

/-- What the control die shows of a failed crystal. -/
abbrev xtalBits : List (Field × Nat) :=
  [(Reg.CLK_STAT_mon_last, 6), (Reg.PWR_FLAGS_mon_ev, 1), (Reg.PWR_FLAGS_aon_xtal_ev, 1), (Reg.CLK_STAT_aon_xtal, 0)]

/-- The crystal has failed, and the control die records it. -/
def xtalFailed (s : Chip) (data : Nat) : Chip := (s.onRc.sets xtalBits).note 0x0D16 0 data

theorem onRc_frame (s : Chip) {fs : List Field} {ps : List Part} (hf : Reg.CEL_PWR_CFG_aon_src ∈ fs) (hp : Part.pwr ∈ ps) :
    s.Frame s.onRc fs ps := (Frame.put s _ _ _ hf).trans (.modPwr _ _ _ hp)

theorem get_onRc (s : Chip) : s.onRc.get Reg.CEL_PWR_CFG_aon_src = 0 :=
  (get_modPwr ..).trans (get_put_self s _ false (by decide))

theorem xtalFailed_frame (s : Chip) (data : Nat) : s.Frame (s.xtalFailed data) [Reg.CLK_STAT_mon_last, Reg.PWR_FLAGS_mon_ev,
    Reg.PWR_FLAGS_aon_xtal_ev, Reg.CLK_STAT_aon_xtal, Reg.CEL_PWR_CFG_aon_src] [.pwr, .log] :=
  ((s.onRc_frame (by decide) (.head _)).trans (.sets xtalBits _ _ (by decide))).trans
    (.note _ _ _ _ (by decide) (by decide) (by decide))

theorem get_xtalFailed (s : Chip) (data : Nat) (f : Field) : (s.xtalFailed data).get f = (s.onRc.sets xtalBits).get f :=
  get_note _ (by decide) (by decide) ..

theorem get_xtalFailed_shown (s : Chip) (data : Nat) {f : Field} {v : Nat} (h : (f, v) ∈ xtalBits) :
    (s.xtalFailed data).get f = v % 2 ^ f.width := by
  rw [get_xtalFailed, get_sets_mem _ h (by decide)]

theorem get_xtalFailed_src (s : Chip) (data : Nat) : (s.xtalFailed data).get Reg.CEL_PWR_CFG_aon_src = 0 := by
  rw [get_xtalFailed, get_sets_other _ (by decide), get_onRc]

end Chip

section
variable {s : State} {w : Word} {g : Fin 2} {b : Bool} (hd : s.chip.pwr.dieReset = false)
include hd

theorem pllLock_completes : Completes .pllLock s [Reg.CLK_STAT_pll_lock] [.pwr] (fun t =>
    t.get Reg.CLK_STAT_pll_lock = 1 ∧ t.pwr.locked = true) := by
  refine completes_of_act (f := fun c => (c.put Reg.CLK_STAT_pll_lock true).modPwr fun p => { p with locked := true }) rfl hd
    ((Chip.Frame.put _ _ _ _ (.head _)).trans (.modPwr _ _ _ (.head _))) ?_
  rw [Chip.settle_get, Chip.settle_pwr, Chip.get_modPwr, Chip.get_put_self _ _ _ (by decide)]
  exact ⟨rfl, rfl⟩

theorem pllUnlock_touches (hs : s.chip.Shaped) (hl : s.chip.pwr.locked = true) : Touches (.pllUnlock w) s
    [.regs, .mem, .ecc, .free, .fab, .log, .bus, .pwr, .rgn, .cl, .adc, .pos, .cle, .slice, .isl, .safe, .chm, .hart, .sem, .memS, .hw, .ring]
    (fun t => t.pwr.locked = false ∧ (∀ r ∈ t.rgn, r.inReset = true) ∧ t.ring.stopped = true) := by
  have hx : exec (.pllUnlock w) s = s.act fun c => c.unlocked.clockHalt 0x0D11 w.toNat := by
    change execPllUnlock w s = _
    unfold execPllUnlock
    exact State.act_congr (if_pos hl)
  refine touches_of_inside hx hd (fun t h => execPllUnlock_inside (by rfl) h) ?_
  rw [Chip.settle_pwr, Chip.settle_rgn, Chip.settle_ring]
  exact ⟨(Chip.clockHalt_power ..).locked, Chip.clockHalt_inReset (s := s.chip.unlocked) hs.rgn _ _, Chip.clockHalt_stopped ..⟩

theorem mainFreq_touches (hs : s.chip.Shaped) : Touches (.mainFreq w) s
    [.regs, .mem, .ecc, .free, .fab, .log, .bus, .pwr, .rgn, .cl, .adc, .pos, .cle, .slice, .isl, .safe, .chm, .hart, .sem, .memS, .hw, .ring]
    (fun t => t.pwr.safetyOnMon = true ∧ (∀ r ∈ t.rgn, r.inReset = true) ∧ t.ring.stopped = true) := by
  refine touches_of_inside (f := fun c => c.onMonitor.clockHalt 0x0D12 w.toNat) rfl hd
    (fun t h => execMainFreq_inside (by rfl) h) ?_
  rw [Chip.settle_pwr, Chip.settle_rgn, Chip.settle_ring]
  exact ⟨(Chip.clockHalt_power ..).safetyOnMon, Chip.clockHalt_inReset (s := s.chip.onMonitor) hs.rgn _ _,
    Chip.clockHalt_stopped ..⟩

theorem coreClkFail_touches (hr : (s.chip.region g).inReset = false) (hw : s.chip.pairWaits g = false) :
    Touches (.coreClkFail g) s
      [.regs, .mem, .ecc, .free, .fab, .log, .bus, .pwr, .rgn, .cl, .adc, .pos, .cle, .slice, .isl, .safe, .chm, .hart, .sem, .memS, .hw]
      (fun t => t.rgn = updNth (fun r => { r with inReset := true }) g s.chip.rgn) := by
  have hx : exec (.coreClkFail g) s = s.act fun c => (c.monitor (3 + g)).halt g (0x0D13 + g) 0 0 :=
    State.act_congr (if_neg (by simp [hr, hw]))
  refine touches_of_inside hx hd (fun t h => execCoreClkFail_inside (by rfl) h) ?_
  rw [Chip.settle_rgn, Chip.halt_rgn]
  rfl

theorem coreClkFail_stopped (h : (s.chip.region g).inReset = true ∨ s.chip.pairWaits g = true) :
    Completes (.coreClkFail g) s [] [] (fun _ => True) :=
  completes_unchanged rfl hd (if_pos (by simpa using h))

theorem monoscFail_touches (hs : s.chip.Shaped) : Touches (.monoscFail w) s [.regs, .log, .pwr, .cl, .slice, .isl, .safe]
    (fun t => ∀ k : Fin 4, t.Latched k 0x0D15) := by
  refine touches_of_inside (f := fun c => (c.monitor 5).faultEvery 0x0D15 0 w.toNat) rfl hd
    (fun t h => execMonoscFail_inside (by rfl) h) fun k => ?_
  exact Chip.settle_latched.2 (Chip.latched_faultEvery (Chip.monitor_shape id hs) _ _ _ k)

theorem aonXtalFail_completes : Completes (.aonXtalFail b) s [Reg.CLK_STAT_mon_last, Reg.PWR_FLAGS_mon_ev,
    Reg.PWR_FLAGS_aon_xtal_ev, Reg.CLK_STAT_aon_xtal, Reg.CEL_PWR_CFG_aon_src] [.pwr, .log] (fun t =>
      t.get Reg.CLK_STAT_mon_last = 6 ∧ t.get Reg.PWR_FLAGS_mon_ev = 1 ∧ t.get Reg.PWR_FLAGS_aon_xtal_ev = 1 ∧
      t.get Reg.CLK_STAT_aon_xtal = 0 ∧ t.get Reg.CEL_PWR_CFG_aon_src = 0) := by
  have hx : exec (.aonXtalFail b) s = s.actRaw fun c => c.xtalFailed (b2n b) := by
    change execAonXtalFail b s = _
    unfold execAonXtalFail
    exact State.actRaw_congr (if_neg (by simpa [Chip.modPwr] using hd))
  refine completes_of_actRaw hx (s.chip.xtalFailed_frame _) ?_
  simp only [Chip.settle_get]
  exact ⟨Chip.get_xtalFailed_shown _ _ (v := 6) (by decide), Chip.get_xtalFailed_shown _ _ (v := 1) (by decide),
    Chip.get_xtalFailed_shown _ _ (v := 1) (by decide), Chip.get_xtalFailed_shown _ _ (v := 0) (by decide),
    Chip.get_xtalFailed_src ..⟩

end

/-- Settles O21. -/
theorem clockMonitorsAct : Obligations.ClockMonitorsAct := by
  unfold Obligations.ClockMonitorsAct
  intro s w g b hd hs
  exact ⟨pllLock_completes hd, pllUnlock_touches hd hs, mainFreq_touches hd hs, coreClkFail_touches hd, coreClkFail_stopped hd,
    monoscFail_touches hd hs, aonXtalFail_completes hd⟩

end Sys2Proof.Machine
end

section
/-! SUPPORT. The reference clock lost and back (R109, R110). -/

namespace Sys2Proof.Machine

namespace Chip

variable (s : Chip)

/-- The PLL runs on its backup: every cluster is demanded, the CAN controllers and the ring stop (R109). -/
def onBackup (edges : Nat) : Chip :=
  ((((s.monitor 1).sets [(Reg.CLK_STAT_ref_ok, 0), (Reg.CLK_STAT_on_backup, 1)]).faultEvery 0x0D10 0 edges).canStop).ringStop

/-- The PLL runs on the reference again: the ring goes on, and the ports send what waits (R110). -/
def onReference : Chip :=
  forEach [0, 1, 2, 3] (fun n t => t.porchLoad n) ((s.sets [(Reg.CLK_STAT_ref_ok, 1), (Reg.CLK_STAT_on_backup, 0)]).ringResume)

theorem canStop_cl : s.canStop.cl = s.cl := ((canStop_inside (M := 402653254) (by rfl) (.refl s _)) .cl rfl).symm

theorem ringStop_cl : s.ringStop.cl = s.cl := ((ringStop_inside (M := 536870978) (by rfl) (.refl s _)) .cl rfl).symm

variable {s} in
theorem onBackup_latched (hs : s.Shaped) (edges : Nat) (k : Fin 4) : (s.onBackup edges).Latched k 0x0D10 := by
  refine latched_of_cl (ringStop_cl _) (latched_of_cl (canStop_cl _) (latched_faultEvery ?_ ..))
  exact sets_shape (monitor_shape id) hs

theorem onBackup_stopped (edges : Nat) : (s.onBackup edges).ring.stopped = true := by
  rw [onBackup, ringStop_stopped]

theorem ringStart_running : s.ringStart.ring.stopped = false := by
  have hrole (t : Chip) (r : Nat) : (t.roleSet r).ring = t.ring :=
    ((roleSet_inside (M := 402653254) (by rfl) (.refl t _)) .ring rfl).symm
  have hset (t : Chip) (f : Field) (v : Nat) : (t.set f v).ring = t.ring := rfl
  unfold ringStart
  extract_lets t u
  have hu : u.ring.stopped = false := rfl
  clear_value u
  split <;> rw [hset, hrole, hu]

theorem ringResume_running : s.ringResume.ring.stopped = false := by
  unfold ringResume
  split
  next h => simpa using h
  next =>
    split
    · exact s.ringStart_running
    · rfl

theorem onReference_running : s.onReference.ring.stopped = false := by
  have hload (n : Nat) (t : Chip) : (t.porchLoad n).ring = t.ring :=
    ((porchLoad_inside (M := 402653186) (by rfl) (.refl t _)) .ring rfl).symm
  exact forEach_preserves (P := fun t : Chip => t.ring.stopped = false) (fun n _ t ht => by rw [hload, ht])
    (ringResume_running _)

theorem onReference_inside : s.Inside 939524166 s.onReference :=
  .each (ringResume_inside (by rfl) (sets_inside (by rfl) (.refl s _))) fun _ _ ht => porchLoad_inside (by rfl) ht

end Chip

section
variable {s : State} {w : Word} (hd : s.chip.pwr.dieReset = false)
include hd

theorem refLoss_touches (hs : s.chip.Shaped) (hb : s.chip.on Reg.CLK_STAT_on_backup = false) :
    Touches (.refLoss w) s [.regs, .mem, .log, .pwr, .cl, .slice, .isl, .safe, .can, .porch, .ring] (fun t =>
      t.ring.stopped = true ∧ ∀ k : Fin 4, t.Latched k 0x0D10) := by
  have hx : exec (.refLoss w) s = s.act fun c => c.onBackup w.toNat := by
    change execRefLoss w s = _
    unfold execRefLoss
    exact State.act_congr (if_neg (by simp [hb]))
  refine touches_of_inside hx hd (fun t h => execRefLoss_inside (by rfl) h) ?_
  rw [Chip.settle_ring]
  exact ⟨s.chip.onBackup_stopped _, fun k => Chip.settle_latched.2 (Chip.onBackup_latched hs _ k)⟩

theorem refReturn_touches (hb : s.chip.on Reg.CLK_STAT_on_backup = true) :
    Touches .refReturn s [.regs, .mem, .log, .can, .porch, .ring] (fun t =>
      t.ring.stopped = false ∧ t.cl = s.chip.cl) := by
  have hx : exec .refReturn s = s.act fun c => c.onReference := by
    change execRefReturn s = _
    unfold execRefReturn
    exact State.act_congr (if_pos hb)
  refine touches_of_act hx hd s.chip.onReference_inside ?_
  rw [Chip.settle_ring, Chip.settle_cl]
  exact ⟨s.chip.onReference_running, (s.chip.onReference_inside .cl rfl).symm⟩

end

/-- Settles O22. -/
theorem referenceLossAndReturn : Obligations.ReferenceLossAndReturn := by
  unfold Obligations.ReferenceLossAndReturn
  intro s w hd hs
  refine ⟨refLoss_touches hd hs, fun hb => ⟨?_, refReturn_touches hd hb⟩⟩
  have hx : exec (.refLoss w) s = s.act fun c => c := by
    change execRefLoss w s = _
    unfold execRefLoss
    exact State.act_congr (if_pos hb)
  exact completes_unchanged hx hd rfl

end Sys2Proof.Machine
end

section
/-! SUPPORT. Brown-outs (R84, R90, Table 03-1); what the faults of other codes leave standing. -/

namespace Sys2Proof.Machine

namespace Chip

/-! ### A LATCH that stands for every cluster -/

theorem mem_cmpTargets_lt {s : Chip} {n k : Nat} (h : k ∈ s.cmpTargets n) : k < 4 := by
  unfold cmpTargets at h
  split at h
  · exact (mem_owners.1 h).1
  · split at h
    · exact List.mem_range.1 (List.mem_of_mem_filter h)
    · cases h

/-- Every cluster holds a fault of the code by LATCH. -/
structure AllLatched (s : Chip) (code : Nat) : Prop where
  length : s.cl.length = 4
  latched : ∀ k : Fin 4, s.Latched k code

namespace AllLatched

variable {s t : Chip} {code k : Nat}

theorem bears (h : s.AllLatched code) (hb : s.Bears t) : t.AllLatched code := by
  have hlen : t.cl.length = s.cl.length := by
    simpa only [faultsOf, List.length_map] using congrArg List.length hb.faults
  refine ⟨hlen.trans h.length, fun j => ?_⟩
  have hj := h.latched j
  rw [Latched, cluster_faults] at hj ⊢
  rwa [hb.faults]

theorem of_cl (h : s.AllLatched code) (hc : t.cl = s.cl) : t.AllLatched code :=
  ⟨hc ▸ h.length, fun j => latched_of_cl hc (h.latched j)⟩

/-- A fault of another code takes none away. -/
theorem falls {x : Standing} (h : s.AllLatched code) (hf : Falls k x s t) (hk : k < 4) (hne : x.code ≠ code) :
    t.AllLatched code := by
  refine ⟨hf.length.trans h.length, fun j => ?_⟩
  obtain ⟨y, hy, hcode, hlatch⟩ := h.latched j
  rw [cluster_faults] at hy
  refine ⟨y, ?_, hcode, hlatch⟩
  rw [cluster_faults, hf.faults]
  by_cases e : j.val = k
  · have hlen : k < s.faultsOf.length := by simpa [faultsOf, h.length] using hk
    have hother : ¬ y.code = x.code := fun hx => hne (hx.symm.trans hcode)
    rw [e] at hy ⊢
    rw [nth_updNth_self _ hlen]
    exact List.mem_append_left _ (List.mem_filter.2 ⟨hy, by simp [hother]⟩)
  · rwa [nth_updNth_ne _ e]

theorem each {α : Type} {l : List α} {f : α → Chip → Chip} (h : s.AllLatched code)
    (hf : ∀ a ∈ l, ∀ t : Chip, t.AllLatched code → (f a t).AllLatched code) : (forEach l f s).AllLatched code :=
  forEach_preserves hf h

section
variable {other : Nat} (hne : other ≠ code)
include hne

theorem faultCl (h : s.AllLatched code) (hk : k < 4) (cls inst data : Nat) : (s.faultCl other cls inst k data).AllLatched code := by
  obtain ⟨x, hcode, -, hx⟩ := faultCl_falls (s := s) hk other cls inst data
  exact h.falls hx hk (hcode ▸ hne)

variable {ks : List Nat} (hks : ∀ k ∈ ks, k < 4)
include hks

theorem faultAll (h : s.AllLatched code) (cls inst data : Nat) : (s.faultAll other cls inst ks data).AllLatched code := by
  rw [faultAll_eq]
  refine (h.bears (record_bears ..)).each fun k hk t ht => ?_
  obtain ⟨x, hcode, -, hx⟩ := shareFault_falls (hks k hk) other cls inst t
  exact ht.falls hx (hks k hk) (hcode ▸ hne)

theorem faultOn (h : s.AllLatched code) (cls inst data : Nat) : (s.faultOn other cls inst ks data).AllLatched code := by
  unfold Chip.faultOn
  split
  next k => exact h.faultCl hne (hks k (.head _)) ..
  next => exact h.faultAll hne hks ..

end

theorem showVdc (h : s.AllLatched code) : s.showVdc.AllLatched code :=
  h.of_cl ((showVdc_inside (M := 2) (by rfl) (.refl s _)) .cl rfl).symm

theorem showOv3 (h : s.AllLatched code) : s.showOv3.AllLatched code := h.of_cl rfl

theorem cmpDemand {ks : List Nat} (h : s.AllLatched code) (hks : ∀ k ∈ ks, k < 4) (h1 : 0x0713 ≠ code) (h2 : 0x0714 ≠ code)
    (h3 : 0x0715 ≠ code) (n data : Nat) : (s.cmpDemand n ks data).AllLatched code := by
  unfold Chip.cmpDemand
  split
  · exact h.faultOn h1 hks ..
  · exact h.faultOn h2 hks ..
  · have hput : (s.put Reg.SAFE_FLAGS_ov3_ev true).AllLatched code := h.of_cl rfl
    exact hput.showVdc.showOv3.faultAll h3 hks ..
  · exact h

theorem cmpDemands (h : s.AllLatched code) (h1 : 0x0713 ≠ code) (h2 : 0x0714 ≠ code) (h3 : 0x0715 ≠ code) :
    s.cmpDemands.AllLatched code := by
  refine h.each fun n _ t ht => ?_
  dsimp only
  split
  · exact ht
  · refine ht.cmpDemand (fun k hk => mem_cmpTargets_lt (List.mem_of_mem_filter hk)) h1 h2 h3 ..

theorem refreshHolds (h : s.AllLatched code) : s.refreshHolds.AllLatched code :=
  h.each fun _ hk _ ht => ht.bears (.of_spares ((Spares.refl _).refreshHold (List.mem_range.1 hk)))

end AllLatched

/-! ### A rail of the die -/

/-- The module wants its rails: it runs, and no accepted sleep request waits for them to fall. -/
def railsWanted (s : Chip) : Bool := s.pwr.state == .run && (match s.pwr.sleep with | .waiting _ => false | _ => true)

/-- A rail of the running die is lost: the die is reset, and the next start records the code (R84). -/
def brownedOut (s : Chip) (good : Field) (bit code : Nat) : Chip :=
  let c := ((s.put good false).dieReset (2 ^ bit)).modPwr fun p => { p with railsUp := false, locked := false }
  { c with cfg := { c.cfg with borNext := c.cfg.borNext ++ [code] } }

/-- A rail of the die falls below its brown-out level. -/
def railLost (s : Chip) (good : Field) (bit code : Nat) : Chip :=
  if s.railsWanted && s.on good then s.brownedOut good bit code else s.put good false

theorem railsWanted_of_run {s : Chip} (hrun : s.pwr.state = .run) (hsleep : ∀ b, s.pwr.sleep ≠ .waiting b) :
    s.railsWanted = true := by
  rw [railsWanted, hrun]
  cases h : s.pwr.sleep with
  | waiting b => exact absurd h (hsleep b)
  | none | queued => rfl

theorem brownedOut_down (s : Chip) (good : Field) (bit code : Nat) : s.DieDown (s.brownedOut good bit code) := by
  have hfresh : s.DieFresh ((s.put good false).dieReset (2 ^ bit)) := (s.put good false).dieReset_fresh (2 ^ bit)
  have hreset := (s.put good false).dieReset_inReset (2 ^ bit)
  unfold brownedOut
  generalize (s.put good false).dieReset (2 ^ bit) = t at hfresh hreset
  exact ⟨hreset, DieFresh.same hfresh rfl rfl rfl rfl⟩

theorem brownedOut_rails (s : Chip) (good : Field) (bit code : Nat) :
    (s.brownedOut good bit code).pwr.railsUp = false ∧ (s.brownedOut good bit code).pwr.locked = false := by
  unfold brownedOut
  generalize (s.put good false).dieReset (2 ^ bit) = t
  exact ⟨rfl, rfl⟩

theorem brownedOut_borNext (s : Chip) (good : Field) (bit code : Nat) :
    (s.brownedOut good bit code).cfg.borNext = s.cfg.borNext ++ [code] := by
  have hkeep : ((s.put good false).dieReset (2 ^ bit)).cfg.borNext = s.cfg.borNext :=
    (s.put good false).dieReset_borNext (2 ^ bit)
  unfold brownedOut
  generalize (s.put good false).dieReset (2 ^ bit) = t at hkeep
  exact congrArg (· ++ [code]) hkeep

theorem get_brownedOut_good (s : Chip) {good : Field} (hl : good.lsb < 32) (hk : keptReg good.addr = true)
    (hne : good.key ≠ Reg.CEL_STAT_state_prev.key) (hw : 0 < good.width) (bit code : Nat) :
    (s.brownedOut good bit code).get good = 0 := by
  have hget : ((s.put good false).dieReset (2 ^ bit)).get good = 0 := by
    rw [get_dieReset_kept _ _ hl hk hne, get_put_self _ _ _ hw]
    rfl
  unfold brownedOut
  generalize (s.put good false).dieReset (2 ^ bit) = t at hget
  exact hget

/-! ### VDDA -/

/-- The analog supply is lost and shown; the reference does not settle, and no voltage is counted (R84). -/
def vddaFell (s : Chip) : Chip :=
  let c := ((s.put Reg.PWR_STAT_vdda_good false).modPwr fun p => { p with vddaOk := false }).sets
    [(Reg.PWR_FLAGS_vdda_bor, 1), (Reg.ADC_STAT_ref_rdy, 0)]
  { c with adc := { c.adc with refWait := false }, cl := c.cl.map (fun x : ClusterS => { x with vdc := [] }) }

/-- The demands that follow: the LATCH of every cluster, and those of the comparators without a supply. -/
def vddaDemands (s : Chip) : Chip := (s.faultEvery 0x0D21 0 0).cmpDemands.showVdc.showOv3.refreshHolds

theorem Shaped.vddaFell {s : Chip} (h : s.Shaped) : s.vddaFell.Shaped :=
  ⟨h.rgn, (List.length_map _).trans h.cl, h.meas, h.pos, h.cle, h.slice, h.isl, h.hart, h.can⟩

theorem vddaDemands_inside (s : Chip) : s.Inside 1708354 s.vddaDemands :=
  refreshHolds_inside (by rfl) (showOv3_inside (by rfl) (showVdc_inside (by rfl) (cmpDemands_inside (by rfl)
    (faultEvery_inside (by rfl) (.refl s _)))))

theorem vddaDemands_power (s : Chip) : s.SamePower s.vddaDemands := by
  have hdemands : s.SamePower (s.faultEvery 0x0D21 0 0).cmpDemands := ((SamePower.refl s).faultAll ..).cmpDemands
  exact hdemands.inside (M := 1708098)
    (refreshHolds_inside (by rfl) (showOv3_inside (by rfl) (showVdc_inside (by rfl) (.refl _ _)))) rfl

theorem vddaDemands_latched {s : Chip} (hs : s.Shaped) : s.vddaDemands.AllLatched 0x0D21 := by
  have hevery : (s.faultEvery 0x0D21 0 0).AllLatched 0x0D21 :=
    ⟨((faultEvery_shape (z := s) id) hs).cl, latched_faultEvery hs _ _ _⟩
  have hshown : (s.faultEvery 0x0D21 0 0).cmpDemands.showVdc.AllLatched 0x0D21 :=
    (hevery.cmpDemands (by decide) (by decide) (by decide)).showVdc
  exact hshown.showOv3.refreshHolds

end Chip

variable {s : State}

section
variable {r : Rail} {good : Field} {bit code : Nat}
  (hx : exec (.brownOut r) s = s.actRaw fun c => c.railLost good bit code)
  (hw : 0 < good.width)
include hx hw

theorem brownOut_running (hl : good.lsb < 32) (hk : Chip.keptReg good.addr = true)
    (hne : good.key ≠ Reg.CEL_STAT_state_prev.key) (hrun : s.chip.pwr.state = .run)
    (hsleep : ∀ b, s.chip.pwr.sleep ≠ .waiting b) (hon : s.chip.on good = true) : Ends (.brownOut r) s (fun t =>
      s.chip.DieDown t ∧ t.pwr.railsUp = false ∧ t.pwr.locked = false ∧ t.cfg.borNext = s.chip.cfg.borNext ++ [code] ∧
      t.get good = 0) := by
  have he : s.chip.railLost good bit code = s.chip.brownedOut good bit code :=
    if_pos (by rw [Chip.railsWanted_of_run hrun hsleep, hon]; rfl)
  obtain ⟨hdown, hfresh⟩ := s.chip.brownedOut_down good bit code
  obtain ⟨hrails, hlocked⟩ := s.chip.brownedOut_rails good bit code
  refine ends_of_actRaw hx ?_
  rw [he]
  refine ⟨⟨?_, hfresh.settle⟩, ?_⟩ <;> simp only [Chip.settle_pwr, Chip.settle_cfg, Chip.settle_get]
  · exact hdown
  · exact ⟨hrails, hlocked, s.chip.brownedOut_borNext .., s.chip.get_brownedOut_good hl hk hne hw ..⟩

theorem brownOut_asleep (hstate : s.chip.pwr.state ≠ .run) :
    Completes (.brownOut r) s [good] [] (fun t => t.get good = 0) := by
  have he : s.chip.railLost good bit code = s.chip.put good false := if_neg (by simp [Chip.railsWanted, hstate])
  refine completes_of_actRaw hx ?_ ?_ <;> rw [he]
  · exact .put _ _ _ _ (.head _)
  · rw [Chip.settle_get, Chip.get_put_self _ _ _ hw]
    rfl

end

theorem brownOut_vdda (hd : s.chip.pwr.dieReset = false) (hs : s.chip.Shaped) : Ends (.brownOut .vdda) s (fun t =>
    t.pwr.dieReset = false ∧ t.pwr.vddaOk = false ∧ t.adc.refWait = false ∧ ∀ k : Fin 4, t.Latched k 0x0D21) := by
  have hx : exec (.brownOut .vdda) s = s.actRaw fun c => c.vddaFell.vddaDemands := by
    change execBrownOut .vdda s = _
    unfold execBrownOut
    exact State.actRaw_congr (if_neg (by simpa [Chip.modPwr] using hd))
  have hpwr := s.chip.vddaFell.vddaDemands_power
  have hadc : s.chip.vddaFell.vddaDemands.adc = s.chip.vddaFell.adc := (s.chip.vddaFell.vddaDemands_inside .adc rfl).symm
  refine ends_of_actRaw hx ?_
  rw [Chip.settle_pwr, Chip.settle_adc, hpwr.dieReset, hpwr.vddaOk, hadc]
  exact ⟨hd, rfl, rfl, fun k => Chip.settle_latched.2 ((Chip.vddaDemands_latched hs.vddaFell).latched k)⟩

/-- Settles O16: the rails of the die are lost in one way, by their bit, their cause and their code. -/
theorem brownOutActs : Obligations.BrownOutActs := by
  unfold Obligations.BrownOutActs
  intro s
  have hcore : exec (.brownOut .core) s = s.actRaw fun c => c.railLost Reg.PWR_STAT_vcore_good 3 0x0D23 := rfl
  have hio : exec (.brownOut .io) s = s.actRaw fun c => c.railLost Reg.PWR_STAT_vio_good 4 0x0D24 := rfl
  have haon : exec (.brownOut .aon) s = s.actRaw fun c => c.cellarReset .off := rfl
  have hxfmr : exec (.brownOut .xfmr) s = s.actRaw fun c => c := rfl
  obtain ⟨hstate, hdie, -, hret, hget⟩ := (s.chip.cellarReset_fresh .off).settle
  exact ⟨fun hrun hsleep => ⟨brownOut_running hcore (by decide) (by decide) (by decide) (by decide) hrun hsleep,
      brownOut_running hio (by decide) (by decide) (by decide) (by decide) hrun hsleep⟩,
    fun hstate => ⟨brownOut_asleep hcore (by decide) hstate, brownOut_asleep hio (by decide) hstate⟩,
    ends_of_actRaw haon ⟨hdie, hstate, hret, hget⟩, brownOut_vdda, completes_unchanged_raw hxfmr rfl⟩

end Sys2Proof.Machine
end

section
/-! SUPPORT. Before the start has shown the lifecycle state, a fuse repair is refused though the register reads INITIAL. -/

namespace Sys2Proof.Machine

/-- What is said of the new module of a command that touches the listed fields and parts is true of its effect. -/
theorem Completes.of_act {i : Instr} {s : State} {f : Chip → Chip} {fs : List Field} {ps : List Part} {p : Chip → Prop}
    (h : Completes i s fs ps p) (hx : exec i s = s.act f) (hd : s.chip.pwr.dieReset = false) : p (f s.chip).settle := by
  obtain ⟨t, ht, -, -, hp⟩ := h
  obtain rfl := Host.Outcome.next.inj (ht.symm.trans (hx.trans (s.act_next f hd)))
  exact hp

/-- Refutes O29: with the field fuse set and the start still to come, FUSE_REPAIR starts no repair though the register shows VENDOR. -/
theorem not_tokensAndRepair : ¬ Obligations.TokensAndRepair := by
  unfold Obligations.TokensAndRepair
  intro h
  obtain ⟨-, -, -, -, hrepair, -⟩ := h fieldUnshown 0 [] false rfl
  have hends := hrepair (by decide +kernel) (by decide +kernel)
  obtain ⟨hstarted, -⟩ := hends.of_act (f := fun c => c.repairStart) rfl rfl
  rw [Chip.settle_get] at hstarted
  exact absurd hstarted (by decide +kernel)

end Sys2Proof.Machine
end

section
/-! SUPPORT. The GPIO pins (R166 to R170). -/

namespace Sys2Proof.Machine

namespace Chip

variable {s : Chip}

theorem gpioWrite_set (s : Chip) (d : Nat) : s.gpioWrite 0x41C20008 d = s.gpioOut (s.get Reg.GPIO_OUT_v ||| d) := rfl

theorem gpioWrite_clr (s : Chip) (d : Nat) : s.gpioWrite 0x41C2000C d =
    s.gpioOut (s.get Reg.GPIO_OUT_v - (s.get Reg.GPIO_OUT_v &&& d)) := rfl

theorem Frame.gpioOut (s : Chip) (v : Nat) : s.Frame (s.gpioOut v) [Reg.GPIO_OUT_v] [.cfg] :=
  (Frame.set s _ _ _ (.head _)).trans (.cfg _ _ _ (.head _))

theorem get_gpioOut (s : Chip) (v : Nat) : (s.gpioOut v).get Reg.GPIO_OUT_v = (v &&& s.gpioPins) % 2 ^ 32 :=
  s.get_set_self Reg.GPIO_OUT_v (v &&& s.gpioPins)

/-- A pin's own level has changed. -/
def pinMoved (s : Chip) (p : Nat) : Chip := s.modCfg fun x => { x with gpioIn := Nat.xor x.gpioIn (2 ^ p) }

theorem Frame.pinMoved (s : Chip) (p : Nat) (fs : List Field) : s.Frame (s.pinMoved p) fs [.cfg] := .cfg s _ fs (.head _)

end Chip

variable {s : State}

section
variable (hd : s.chip.pwr.dieReset = false)
include hd

theorem gpioSet_completes (d : Word) : Completes (.gpioSet d) s [Reg.GPIO_OUT_v] [.cfg] (fun t =>
    t.get Reg.GPIO_OUT_v % 2 ^ 32 = ((s.chip.get Reg.GPIO_OUT_v ||| d.toNat) &&& s.chip.gpioPins) % 2 ^ 32) := by
  refine completes_of_act (f := fun c => c.gpioWrite 0x41C20008 d.toNat) rfl hd ?_ ?_ <;> rw [Chip.gpioWrite_set]
  · exact .gpioOut ..
  · rw [Chip.settle_get, Chip.get_gpioOut, Nat.mod_mod]

theorem gpioClr_completes (d : Word) : Completes (.gpioClr d) s [Reg.GPIO_OUT_v] [.cfg] (fun t =>
    ∀ i : Fin 32, hasBit d.toNat i = true → hasBit (t.get Reg.GPIO_OUT_v) i = false) := by
  refine completes_of_act (f := fun c => c.gpioWrite 0x41C2000C d.toNat) rfl hd ?_ fun i hi => ?_ <;> rw [Chip.gpioWrite_clr]
  · exact .gpioOut ..
  · rw [hasBit_eq_testBit] at hi
    rw [Chip.settle_get, Chip.get_gpioOut, hasBit_mod_two_pow _ i.isLt, hasBit_eq_testBit, sub_and_eq_ldiff, Nat.testBit_land,
      Nat.testBit_ldiff, hi]
    simp

end

section
variable {p : Fin 32} {rise : Bool} (hlevel : hasBit (Nat.xor s.chip.cfg.gpioIn s.chip.gpioInv) p = !rise)
include hlevel

/-- An edge that changes the level of a pin that the module does not drive. -/
theorem exec_gpioEdge (hfree : (hasBit s.chip.gpioPins p && hasBit (s.chip.get Reg.GPIO_DIR_v) p) = false) :
    exec (.gpioEdge p rise) s = s.actRaw fun c =>
      if hasBit c.gpioPins p && hasBit (c.get (if rise then Reg.GPIO_RISE_EN_v else Reg.GPIO_FALL_EN_v)) p then
        (c.pinMoved p).setBitOf Reg.GPIO_FLAGS_v p
      else c.pinMoved p := by
  change execGpioEdge p rise s = _
  unfold execGpioEdge
  exact State.actRaw_congr (if_neg (by rw [hlevel, hfree]; cases rise <;> decide))

theorem gpioEdge_flagged (hpin : hasBit s.chip.gpioPins p = true) (hin : hasBit (s.chip.get Reg.GPIO_DIR_v) p = false)
    (hen : hasBit (s.chip.get (if rise then Reg.GPIO_RISE_EN_v else Reg.GPIO_FALL_EN_v)) p = true) :
    Completes (.gpioEdge p rise) s [Reg.GPIO_FLAGS_v] [.cfg] (fun t => hasBit (t.get Reg.GPIO_FLAGS_v) p = true) := by
  have hx : exec (.gpioEdge p rise) s = s.actRaw fun c => (c.pinMoved p).setBitOf Reg.GPIO_FLAGS_v p :=
    (exec_gpioEdge hlevel (by rw [hin, Bool.and_false])).trans (State.actRaw_congr (if_pos (by rw [hpin, hen]; rfl)))
  refine completes_of_actRaw hx ?_ ?_
  · exact (Chip.Frame.pinMoved ..).trans (.setBitOf _ _ _ _ (.head _))
  · rw [Chip.settle_get, Chip.hasBit_setBitOf _ _ _ p.isLt]
    simp

theorem gpioEdge_unflagged (hpin : hasBit s.chip.gpioPins p = false) :
    Completes (.gpioEdge p rise) s [] [.cfg] (fun t => t.cfg.gpioIn = Nat.xor s.chip.cfg.gpioIn (2 ^ p.val)) := by
  have hx : exec (.gpioEdge p rise) s = s.actRaw fun c => c.pinMoved p :=
    (exec_gpioEdge hlevel (by rw [hpin, Bool.false_and])).trans
      (State.actRaw_congr (if_neg (by rw [hpin, Bool.false_and]; decide)))
  refine completes_of_actRaw hx (.pinMoved ..) ?_
  rw [Chip.settle_cfg]
  rfl

end

/-- Settles O30. -/
theorem gpioPins : Obligations.GpioPins := by
  unfold Obligations.GpioPins
  intro s d p rise hd
  exact ⟨gpioSet_completes hd d, gpioClr_completes hd d, fun hlevel => ⟨gpioEdge_flagged hlevel, gpioEdge_unflagged hlevel⟩⟩

end Sys2Proof.Machine
end

section
/-! SUPPORT. The resets that CFG_RST_CTL and the debug module ask for (R123, R124, R165). -/

namespace Sys2Proof.Machine

namespace Chip

variable {s : Chip}

/-! ### The end of a reset that nothing holds -/

theorem tryRelease_cases (s : Chip) : s.tryRelease = s ∨ s.tryRelease = s.released := by
  unfold tryRelease
  split
  · exact .inr rfl
  · exact .inl rfl

theorem tryRelease_cfg (s : Chip) : s.tryRelease.cfg = s.cfg :=
  (tryRelease_inside (M := 1708354) (by rfl) (.refl s _) .cfg rfl).symm

/-- With no pin low at the release, a fresh die stays fresh. -/
theorem DieFresh.tryRelease {t : Chip} (h : s.DieFresh t) (hflt : t.pwmG.fltLow = false) (hpin : t.hw.sleepPin = false) :
    s.DieFresh t.tryRelease := by
  rcases t.tryRelease_cases with he | he <;> rw [he]
  · exact h
  · rw [released_plain hflt hpin]
    exact h.same rfl rfl rfl rfl

theorem dieReset_pins (s : Chip) (causes : Nat) :
    (s.dieReset causes).pwmG.fltLow = s.pwmG.fltLow ∧ (s.dieReset causes).hw.sleepPin = s.hw.sleepPin := by
  have hpwm : s.cut.pwmG = s.pwmG := (s.cut_inside .pwmG rfl).symm
  have hhw : s.cut.hw = s.hw := (s.cut_inside .hw rfl).symm
  unfold dieReset
  extract_lets _ _ c
  rw [show s.cut = c from rfl] at hpwm hhw
  clear_value c
  exact ⟨(congrArg PwmGS.fltLow hpwm :), (congrArg HwS.sleepPin hhw :)⟩

theorem hasBit_or_two_pow (v n : Nat) : hasBit (v ||| 2 ^ n) n = true := by
  rw [hasBit_eq_testBit, Nat.testBit_lor, Nat.testBit_two_pow_self, Bool.or_true]

theorem hasBit_two_pow (n : Nat) : hasBit (2 ^ n) n = true := by rw [hasBit_eq_testBit, Nat.testBit_two_pow_self]

/-- The next start learns of the cause of a reset. -/
theorem hasBit_dieReset_causeNext (s : Chip) (n : Nat) : hasBit (s.dieReset (2 ^ n)).cfg.causeNext n = true := by
  unfold dieReset
  extract_lets _ same c
  clear_value c
  change hasBit (if same then c.cfg.causeNext ||| 2 ^ n else 2 ^ n) n = true
  split
  · exact hasBit_or_two_pow ..
  · exact hasBit_two_pow n

/-- A reset of the die that nothing holds, for cause n. -/
def moduleReset (s : Chip) (n : Nat) : Chip := (s.dieReset (2 ^ n)).tryRelease

theorem hasBit_moduleReset_causeNext (s : Chip) (n : Nat) : hasBit (s.moduleReset n).cfg.causeNext n = true := by
  rw [moduleReset, tryRelease_cfg, hasBit_dieReset_causeNext]

theorem moduleReset_fresh (hflt : s.pwmG.fltLow = false) (hpin : s.hw.sleepPin = false) (n : Nat) :
    s.DieFresh (s.moduleReset n) := by
  obtain ⟨hf, hp⟩ := s.dieReset_pins (2 ^ n)
  have hfresh : s.DieFresh (s.dieReset (2 ^ n)) := s.dieReset_fresh (2 ^ n)
  unfold moduleReset
  generalize s.dieReset (2 ^ n) = t at hf hp hfresh
  exact DieFresh.tryRelease hfresh (hf.trans hflt) (hp.trans hpin)

/-! ### A region asked for -/

theorem rgnAsked_running {g : Nat} (h : (s.region g).inReset = false) (cause : Field) :
    s.rgnAsked g cause = s.regionReset g cause := if_neg (by rw [h]; decide)

/-- Without its key a write to CFG_RST_CTL changes nothing. -/
theorem rstCtlWrite_keyless {d : Nat} (h : part d 16 16 ≠ 0x5E7A) : s.rstCtlWrite d = s := if_pos (by simpa using h)

theorem rstCtlWrite_module {d : Nat} (hkey : part d 16 16 = 0x5E7A) (h : hasBit d 2 = true) :
    s.rstCtlWrite d = s.moduleReset 6 := by
  unfold rstCtlWrite
  rw [if_neg (by simp [hkey]), if_pos h, moduleReset]

/-- A write that names one region is a request for that region. -/
theorem rstCtlWrite_region {d : Nat} {g : Fin 2} (hkey : part d 16 16 = 0x5E7A) (h : d % 8 = 2 ^ g.val) :
    ∃ cause, s.rstCtlWrite d = s.rgnAsked g cause := by
  have hbit {i : Nat} (hi : i < 3) : hasBit d i = hasBit (2 ^ g.val) i := by
    rw [← h]
    exact (hasBit_mod_two_pow d hi).symm
  unfold rstCtlWrite
  rw [if_neg (by simp [hkey]), hbit (i := 2) (by decide), hbit (i := 1) (by decide), hbit (i := 0) (by decide)]
  match g with
  | 0 => exact ⟨_, rfl⟩
  | 1 => exact ⟨_, rfl⟩

end Chip

section
variable {s : State} (hd : s.chip.pwr.dieReset = false) {i : Instr}
include hd

/-- A command that resets the die tells the next start why, and leaves a die that no pin reaches fresh. -/
theorem moduleReset_ends {f : Chip → Chip} {n : Nat} (hx : exec i s = s.act f) (he : f s.chip = s.chip.moduleReset n) :
    Ends i s (fun t => hasBit t.cfg.causeNext n = true ∧
      (s.chip.pwmG.fltLow = false → s.chip.hw.sleepPin = false → s.chip.DieFresh t)) := by
  refine ends_of_act hx hd ?_
  rw [he, Chip.settle_cfg]
  exact ⟨s.chip.hasBit_moduleReset_causeNext n, fun hflt hpin => (Chip.moduleReset_fresh hflt hpin n).settle⟩

/-- A command that asks for a running region resets it, and the die stays out of reset. -/
theorem regionReset_ends {f : Chip → Chip} {g : Nat} {cause : Field} (hx : exec i s = s.act f)
    (he : f s.chip = s.chip.rgnAsked g cause) (hr : (s.chip.region g).inReset = false) :
    Ends i s (fun t => t.rgn = updNth (fun r => { r with inReset := true }) g s.chip.rgn ∧ t.pwr.dieReset = false) := by
  refine ends_of_act hx hd ?_
  have hpower := (Chip.SamePower.refl s.chip).regionReset g cause
  rw [he, Chip.rgnAsked_running hr, Chip.settle_rgn, Chip.settle_pwr, Chip.regionReset_rgn]
  exact ⟨rfl, hpower.dieReset.trans hd⟩

variable {d : Word} {g : Fin 2}

theorem swModuleReset_ends (hkey : part d.toNat 16 16 = 0x5E7A) (h : hasBit d.toNat 2 = true) :
    Ends (.swModuleReset d) s (fun t => hasBit t.cfg.causeNext 6 = true ∧
      (s.chip.pwmG.fltLow = false → s.chip.hw.sleepPin = false → s.chip.DieFresh t)) :=
  moduleReset_ends hd (f := fun c => c.rstCtlWrite d.toNat) rfl (Chip.rstCtlWrite_module hkey h)

theorem swRegionReset_ends (hr : (s.chip.region g).inReset = false) (hkey : part d.toNat 16 16 = 0x5E7A)
    (h : d.toNat % 8 = 2 ^ g.val) : Ends (.swRegionReset d) s (fun t =>
      t.rgn = updNth (fun r => { r with inReset := true }) g s.chip.rgn ∧ t.pwr.dieReset = false) := by
  obtain ⟨cause, he⟩ := Chip.rstCtlWrite_region (s := s.chip) hkey h
  exact regionReset_ends hd (f := fun c => c.rstCtlWrite d.toNat) rfl he hr

theorem debugReset_die_ends (ho : s.chip.debugOpen = true) : Ends (.debugReset .die) s (fun t =>
    hasBit t.cfg.causeNext 9 = true ∧
      (s.chip.pwmG.fltLow = false → s.chip.hw.sleepPin = false → s.chip.DieFresh t)) :=
  moduleReset_ends hd (f := fun c => if !c.debugOpen then c else c.moduleReset 9) rfl (if_neg (by rw [ho]; decide))

theorem debugReset_region_ends (ho : s.chip.debugOpen = true) (hr : (s.chip.region g).inReset = false) :
    Ends (.debugReset (if g = 0 then .regionA else .regionB)) s (fun t =>
      t.rgn = updNth (fun r => { r with inReset := true }) g s.chip.rgn) := by
  have hx : exec (.debugReset (if g = 0 then .regionA else .regionB)) s =
      s.act fun c => if !c.debugOpen then c else c.rgnAsked g Reg.CFG_RST_CAUSE_dbg := by
    match g with
    | 0 => rfl
    | 1 => rfl
  obtain ⟨t, ht, hq, hrgn, -⟩ := regionReset_ends hd hx (if_neg (by rw [ho]; decide)) hr
  exact ⟨t, ht, hq, hrgn⟩

theorem debugReset_shut (ho : s.chip.debugOpen = false) (x : DebugTarget) : Completes (.debugReset x) s [] [] (fun _ => True) := by
  refine completes_unchanged (f := fun c => if !c.debugOpen then c else _) rfl hd (if_pos (by rw [ho]; decide))

end

/-- Settles O25. -/
theorem resetsByRequest : Obligations.ResetsByRequest := by
  unfold Obligations.ResetsByRequest
  intro s d g x hd
  exact ⟨swModuleReset_ends hd,
    fun hkey => ⟨completes_unchanged (f := fun c => c.rstCtlWrite d.toNat) rfl hd (Chip.rstCtlWrite_keyless hkey),
      completes_unchanged (f := fun c => c.rstCtlWrite d.toNat) rfl hd (Chip.rstCtlWrite_keyless hkey)⟩,
    swRegionReset_ends hd, fun ho => ⟨debugReset_die_ends hd ho, debugReset_region_ends hd ho⟩,
    fun ho => debugReset_shut hd ho x⟩

end Sys2Proof.Machine
end

section
/-! SUPPORT. The two copies of the boot record (R151): a copy as its bytes, and the copy that an update writes. -/

namespace Sys2Proof.Machine

/-! ### Bytes and numbers -/

theorem leNat_leBytes (n v : Nat) : leNat (leBytes n v) = v % 256 ^ n := by
  induction n generalizing v with
  | zero => simp [leBytes, leNat, Nat.mod_one]
  | succ n ih =>
    have hpow : 256 ^ (n + 1) = 256 * 256 ^ n := Nat.pow_succ'
    rw [leBytes, leNat, ih, BitVec.toNat_ofNat, hpow, Nat.mod_mul]

theorem leNat_lt (l : List Byte) : leNat l < 256 ^ l.length := by
  induction l with
  | nil => decide
  | cons b l ih =>
    have hb : b.toNat < 256 := b.isLt
    rw [leNat, List.length_cons, Nat.pow_succ']
    omega

theorem crcBit_lt {c : Nat} (h : c < 2 ^ 32) : crcBit c < 2 ^ 32 := by
  unfold crcBit
  split
  · exact Nat.xor_lt_two_pow (by omega) (by decide)
  · omega

theorem crcByte_lt {c : Nat} (h : c < 2 ^ 32) (b : Byte) : crcByte c b < 2 ^ 32 := by
  have hb : b.toNat < 2 ^ 32 := b.isLt.trans (by decide)
  exact List.foldlRecOn (motive := fun c => c < 2 ^ 32) _ _ (Nat.xor_lt_two_pow h hb) fun _ hc _ _ => crcBit_lt hc

theorem crc32_lt (l : List Byte) : crc32 l < 2 ^ 32 :=
  Nat.xor_lt_two_pow (List.foldlRecOn (motive := fun c => c < 2 ^ 32) _ _ (by decide) fun _ hc b _ => crcByte_lt hc b)
    (by decide)

/-! ### A copy -/

/-- The bytes of a copy before its check sum. -/
def bootBody (seq : Nat) (u : BootUpdate) : List Byte :=
  leBytes 4 0x44425442 ++ leBytes 4 seq ++ leBytes 1 u.pref ++ leBytes 1 u.trial ++ leBytes 1 u.tries ++ List.replicate 17 0

/-- The 32 bytes of a copy. -/
def bootBytes (seq : Nat) (u : BootUpdate) : List Byte := bootBody seq u ++ leBytes 4 (crc32 (bootBody seq u))

/-- The record that 32 bytes hold, where they are a valid copy. -/
def bootOf (l : List Byte) : Option (Nat × BootUpdate) :=
  let word (i n : Nat) : Nat := leNat ((l.drop i).take n)
  if leNat (l.take 4) == 0x44425442 && crc32 (l.take 0x1C) == word 0x1C 4 && word 8 1 ≤ 1 && word 9 1 ≤ 1 && word 10 1 ≤ 3 then
    some (word 4 4, ⟨word 8 1, word 9 1, word 10 1⟩)
  else none

theorem bootOf_seq_lt {l : List Byte} {x : Nat × BootUpdate} (h : bootOf l = some x) : x.1 < 2 ^ 32 := by
  unfold bootOf at h
  extract_lets word at h
  split at h
  · obtain rfl := Option.some.inj h
    have hlen : ((l.drop 4).take 4).length ≤ 4 := List.length_take_le ..
    exact (leNat_lt _).trans_le ((Nat.pow_le_pow_right (by decide) hlen).trans (by decide))
  · cases h

theorem length_bootBytes (seq : Nat) (u : BootUpdate) : (bootBytes seq u).length = 32 := rfl

/-- A copy as it is written is valid and holds what was written. -/
theorem bootOf_bootBytes {seq : Nat} (hseq : seq < 2 ^ 32) {u : BootUpdate} (hpref : u.pref ≤ 1) (htrial : u.trial ≤ 1)
    (htries : u.tries ≤ 3) : bootOf (bootBytes seq u) = some (seq, u) := by
  have hmagic : leNat ((bootBytes seq u).take 4) = 0x44425442 := (leNat_leBytes 4 0x44425442).trans (by decide)
  have hbody : (bootBytes seq u).take 0x1C = bootBody seq u := rfl
  have hcrc : leNat (((bootBytes seq u).drop 0x1C).take 4) = crc32 (bootBody seq u) :=
    (leNat_leBytes 4 _).trans (Nat.mod_eq_of_lt (crc32_lt _))
  have hnum : leNat (((bootBytes seq u).drop 4).take 4) = seq := (leNat_leBytes 4 seq).trans (Nat.mod_eq_of_lt hseq)
  have h8 : leNat (((bootBytes seq u).drop 8).take 1) = u.pref := (leNat_leBytes 1 _).trans (Nat.mod_eq_of_lt (by omega))
  have h9 : leNat (((bootBytes seq u).drop 9).take 1) = u.trial := (leNat_leBytes 1 _).trans (Nat.mod_eq_of_lt (by omega))
  have h10 : leNat (((bootBytes seq u).drop 10).take 1) = u.tries := (leNat_leBytes 1 _).trans (Nat.mod_eq_of_lt (by omega))
  simp [bootOf, hmagic, hbody, hcrc, hnum, h8, h9, h10, hpref, htrial, htries]

/-! ### Two copies -/

/-- Of the two copies as they are read, the one in force, and the address of the other. -/
def pickOf : Option (Nat × BootUpdate) → Option (Nat × BootUpdate) → Option (Nat × BootUpdate) × Nat
  | none, none => (none, 0x1080F000)
  | some x, none => (some x, 0x1080F100)
  | none, some y => (some y, 0x1080F000)
  | some x, some y =>
    let d := (y.1 + 2 ^ 32 - x.1) % 2 ^ 32
    if 1 ≤ d && d < 2 ^ 31 then (some y, 0x1080F000) else (some x, 0x1080F100)

/-- The sequence number that follows a copy's, or the first. -/
def nextSeq : Option (Nat × BootUpdate) → Nat
  | some x => (x.1 + 1) % 2 ^ 32
  | none => 0

theorem nextSeq_lt (x : Option (Nat × BootUpdate)) : nextSeq x < 2 ^ 32 := by
  cases x with
  | none => exact Nat.two_pow_pos 32
  | some x => exact Nat.mod_lt _ (Nat.two_pow_pos 32)

theorem pickOf_cases (x y : Option (Nat × BootUpdate)) :
    ((pickOf x y).2 = 0x1080F000 ∧ ∀ z, y = some z → nextSeq (pickOf x y).1 = (z.1 + 1) % 2 ^ 32) ∨
      ((pickOf x y).2 = 0x1080F100 ∧ ∃ z, x = some z ∧ nextSeq (pickOf x y).1 = (z.1 + 1) % 2 ^ 32) := by
  match x, y with
  | none, none => exact .inl ⟨rfl, nofun⟩
  | none, some y => exact .inl ⟨rfl, fun z hz => by rw [← Option.some.inj hz]; rfl⟩
  | some x, none => exact .inr ⟨rfl, x, rfl, rfl⟩
  | some x, some y =>
    dsimp only [pickOf]
    split
    · exact .inl ⟨rfl, fun z hz => by rw [← Option.some.inj hz]; rfl⟩
    · exact .inr ⟨rfl, x, rfl, rfl⟩

/-- The first copy is in force where it follows the second. -/
theorem pickOf_first {x : Nat × BootUpdate} {y : Option (Nat × BootUpdate)}
    (hy : ∀ z, y = some z → z.1 < 2 ^ 32 ∧ x.1 = (z.1 + 1) % 2 ^ 32) : (pickOf (some x) y).1 = some x := by
  match y with
  | none => rfl
  | some y =>
    obtain ⟨hlt, hseq⟩ := hy y rfl
    dsimp only [pickOf]
    rw [if_neg (by simp; omega)]

/-- The second copy is in force where it follows the first. -/
theorem pickOf_second {x y : Nat × BootUpdate} (hlt : x.1 < 2 ^ 32) (hseq : y.1 = (x.1 + 1) % 2 ^ 32) :
    (pickOf (some x) (some y)).1 = some y := by
  dsimp only [pickOf]
  rw [if_pos (by simp; omega)]

namespace Chip

variable {s : Chip}

theorem bytes_take (s : Chip) (a : Nat) {n m : Nat} (h : n ≤ m) : (s.bytes a m).take n = s.bytes a n := by
  rw [bytes, ← List.map_take, List.take_range, Nat.min_eq_left h, bytes]

theorem bytes_drop (s : Chip) (a i m : Nat) : (s.bytes a m).drop i = s.bytes (a + i) (m - i) := by
  refine List.ext_getElem (by simp [bytes]) fun j h₁ h₂ => ?_
  simp [bytes, Nat.add_assoc]

theorem bootCopy_eq (s : Chip) (a : Nat) : s.bootCopy a = bootOf (s.bytes a 32) := by
  have hfirst (n : Nat) (h : n ≤ 32) : (s.bytes a 32).take n = s.bytes a n := s.bytes_take a h
  have hword (i n : Nat) (h : n ≤ 32 - i) : leNat (((s.bytes a 32).drop i).take n) = s.load (a + i) n := by
    rw [bytes_drop, s.bytes_take (a + i) h, load]
  unfold bootCopy bootOf
  dsimp only
  simp only [hword 0x1C 4 (by decide), hword 8 1 (by decide), hword 9 1 (by decide), hword 10 1 (by decide),
    hword 4 4 (by decide), hfirst 4 (by decide), hfirst 0x1C (by decide), load] <;> congr 1

theorem bootCopy_seq_lt {a : Nat} {x : Nat × BootUpdate} (h : s.bootCopy a = some x) : x.1 < 2 ^ 32 :=
  bootOf_seq_lt (s.bootCopy_eq a ▸ h)

/-! ### The copy in force -/

theorem bootPick_eq (s : Chip) : s.bootPick = pickOf (s.bootCopy 0x1080F000) (s.bootCopy 0x1080F100) := by
  cases hx : s.bootCopy 0x1080F000 <;> cases hy : s.bootCopy 0x1080F100 <;> simp only [bootPick, pickOf, hx, hy]

/-- The sequence number of the next copy. -/
def bootNext (s : Chip) : Nat := nextSeq s.bootPick.1

theorem bootNext_lt (s : Chip) : s.bootNext < 2 ^ 32 := nextSeq_lt _

theorem bootStore_eq (s : Chip) (u : BootUpdate) :
    s.bootStore u = (s.setBytes s.bootOlder (bootBytes s.bootNext u)).showBoot := by
  dsimp only [bootStore, bootNext, bootBytes, bootBody]
  cases h : s.bootPick.1 with
  | none => simp only [nextSeq]
  | some x => simp only [nextSeq]

/-- The next copy goes over the first, and follows the second where that is valid; or over the second, and follows the first. -/
theorem bootOlder_cases (s : Chip) :
    (s.bootOlder = 0x1080F000 ∧ ∀ y, s.bootCopy 0x1080F100 = some y → s.bootNext = (y.1 + 1) % 2 ^ 32) ∨
      (s.bootOlder = 0x1080F100 ∧ ∃ x, s.bootCopy 0x1080F000 = some x ∧ s.bootNext = (x.1 + 1) % 2 ^ 32) := by
  have h := pickOf_cases (s.bootCopy 0x1080F000) (s.bootCopy 0x1080F100)
  rwa [← bootPick_eq] at h

theorem bootRec_of_pick {x : Nat × BootUpdate} (h : s.bootPick.1 = some x) : s.bootRec = x.2 := by rw [bootRec, h]

/-! ### The memory after an update -/

theorem bootRec_congr {t : Chip} (h : t.mem = s.mem) : t.bootRec = s.bootRec := by
  have hmem (c : Chip) : c.bootRec = ({ mem := c.mem } : Chip).bootRec := rfl
  rw [hmem, hmem s, h]

theorem bytes_setBytes_other {a b n : Nat} {l : List Byte} (h : b + n ≤ a ∨ a + l.length ≤ b) :
    (s.setBytes a l).bytes b n = s.bytes b n := by
  refine List.map_congr_left fun i hi => ?_
  have hi := List.mem_range.1 hi
  exact byte_setBytes_other l s a (b + i) (by omega)

/-- The record that an update writes is the one in force. -/
theorem bootRec_setBytes {u : BootUpdate} (hpref : u.pref ≤ 1) (htrial : u.trial ≤ 1) (htries : u.tries ≤ 3) :
    (s.setBytes s.bootOlder (bootBytes s.bootNext u)).bootRec = u := by
  have hnew (a : Nat) : (s.setBytes a (bootBytes s.bootNext u)).bootCopy a = some (s.bootNext, u) := by
    rw [bootCopy_eq, ← length_bootBytes s.bootNext u, bytes_setBytes, bootOf_bootBytes (s.bootNext_lt) hpref htrial htries]
  have hold {a b : Nat} (h : b + 32 ≤ a ∨ a + 32 ≤ b) : (s.setBytes a (bootBytes s.bootNext u)).bootCopy b = s.bootCopy b := by
    rw [bootCopy_eq, bootCopy_eq, bytes_setBytes_other (by rwa [length_bootBytes])]
  rcases s.bootOlder_cases with ⟨ha, hy⟩ | ⟨hb, x, hx, hseq⟩
  · rw [ha]
    refine bootRec_of_pick (x := (s.bootNext, u)) ?_
    rw [bootPick_eq, hnew, hold (by decide)]
    exact pickOf_first fun y h => ⟨bootCopy_seq_lt h, hy y h⟩
  · rw [hb]
    refine bootRec_of_pick (x := (s.bootNext, u)) ?_
    rw [bootPick_eq, hnew, hold (by decide), hx]
    exact pickOf_second (bootCopy_seq_lt hx) hseq

end Chip

end Sys2Proof.Machine
end

section
/-! SUPPORT. The writes on their way and the anti-rollback count (R150, R153). -/

namespace Sys2Proof.Machine

namespace Chip

variable {s : Chip}

/-! ### The list of writes -/

/-- A change of the list of writes shows in the Chimney's registers only. -/
theorem get_showWrites (s : Chip) {f : Field} (hf : 0x41600000 * 32 ≤ f.key) : s.showWrites.get f = s.get f := by
  unfold showWrites
  refine forEach_preserves (P := fun t => t.get f = s.get f) (fun m hm t ht => (get_sets_other t ?_).trans ht) (get_sets_other s ?_)
  · have hm := List.mem_range.1 hm
    simp only [List.forall_mem_cons, List.not_mem_nil, false_imp_iff, implies_true, and_true, Field.key] at hf ⊢
    constructor <;> dsimp only [Reg.CHM_M_STAT_held, Reg.CHM_M_STAT_busy] <;> omega
  · simp only [List.forall_mem_cons, List.not_mem_nil, false_imp_iff, implies_true, and_true, Field.key] at hf ⊢
    refine ⟨?_, ?_, ?_⟩ <;> dsimp only [Reg.CHM_WQ_flash_held, Reg.CHM_WQ_id_held, Reg.CHM_STAT_led_busy] <;> omega

theorem get_submitWrite (s : Chip) (o : WriteOwner) {f : Field} (hf : 0x41600000 * 32 ≤ f.key) :
    (s.submitWrite o).get f = s.get f := by
  unfold submitWrite
  extract_lets kind ok c d
  refine (get_showWrites d hf).trans ?_
  change (if ok = true then c else _).get f = s.get f
  split
  · rfl
  · refine (get_note _ (code := 0x081C) (by decide) (by decide) _ _ f).trans (c.get_put_other ?_ true)
    dsimp only [Field.key, Reg.CHM_FLAGS_write_held] at hf ⊢
    omega

/-! ### An update starts -/

theorem bootSubmit_started (h : s.on Reg.CFG_BANK_CTL_wr_busy = false) (u : BootUpdate) :
    (s.bootSubmit u).get Reg.CFG_BANK_CTL_wr_busy = 1 ∧ (s.bootSubmit u).cfg.bootUpdate = some u := by
  unfold bootSubmit
  rw [if_neg (Bool.eq_false_iff.1 h)]
  refine ⟨(get_submitWrite _ .boot (by decide)).trans (get_put_self _ _ _ (by decide)), ?_⟩
  exact congrArg CfgS.bootUpdate ((submitWrite_inside (M := 2097218) rfl (.refl _ _)) .cfg rfl).symm

theorem bankWrite_keyed {d : Nat} (hkey : part d 16 16 = 0xB0A7) (hconfirm : hasBit d 8 = false) :
    s.bankWrite d = s.bootSubmit ⟨bitOf d 0, bitOf d 1, if part d 4 2 = 0 then 3 else part d 4 2⟩ := by
  simp [bankWrite, hkey, hconfirm]

theorem bankWrite_keyless {d : Nat} (hkey : part d 16 16 ≠ 0xB0A7) (hconfirm : hasBit d 8 = false) : s.bankWrite d = s := by
  simp [bankWrite, hkey, hconfirm]

theorem bankWrite_confirm (s : Chip) : s.bankWrite (2 ^ 8) = s.bootSubmit { s.bootRec with trial := 0 } := by
  unfold bankWrite
  rw [if_neg (by decide), if_pos (by decide)]

/-! ### An update ends -/

/-- The update leaves the list of writes. -/
def bootLeave (s : Chip) : Chip :=
  ((s.modCfg fun c => { c with bootUpdate := none }).dropWrite .boot).put Reg.CFG_BANK_CTL_wr_busy false

theorem bootEnd_done {u : BootUpdate} (h : s.cfg.bootUpdate = some u) (why : Nat) :
    s.bootEnd true why = (s.bootLeave.bootStore u).put Reg.CFG_BANK_CTL_wr_fail false := by
  simp only [bootEnd, h, bootLeave, if_true]

theorem bootEnd_failed {u : BootUpdate} (h : s.cfg.bootUpdate = some u) (why : Nat) :
    s.bootEnd false why = (s.bootLeave.put Reg.CFG_BANK_CTL_wr_fail true).note 0x0E23 0 why := by
  simp only [bootEnd, h, bootLeave, Bool.false_eq_true, if_false]

theorem bootLeave_inside {M : Nat} (hM : Sub 2097666 M) (s : Chip) : s.Inside M s.bootLeave :=
  put_inside (hM.up rfl) (dropWrite_inside (hM.up rfl) (modCfg_inside (hM.up rfl) (.refl s _)))

theorem bootLeave_mem (s : Chip) : s.bootLeave.mem = s.mem := (s.bootLeave_inside (M := 2097666) rfl .mem rfl).symm

theorem bootLeave_update (s : Chip) : s.bootLeave.cfg.bootUpdate = none :=
  congrArg CfgS.bootUpdate ((put_inside (M := 2097154) rfl (dropWrite_inside (M := 2097154) rfl (.refl _ _))) .cfg rfl).symm

theorem get_bootLeave_busy (s : Chip) : s.bootLeave.get Reg.CFG_BANK_CTL_wr_busy = 0 := get_put_self _ _ _ (by decide)

theorem byte_bootLeave (s : Chip) (a : Nat) : s.bootLeave.byte a = s.byte a := byte_congr s.bootLeave_mem a

theorem bootOlder_bootLeave (s : Chip) : s.bootLeave.bootOlder = s.bootOlder := by
  have hmem (c : Chip) : c.bootOlder = ({ mem := c.mem } : Chip).bootOlder := rfl
  rw [hmem, hmem s, bootLeave_mem]

theorem bootStore_cfg (s : Chip) (u : BootUpdate) : (s.bootStore u).cfg = s.cfg :=
  ((bootStore_inside (M := 6) rfl (.refl s _)) .cfg rfl).symm

theorem get_bootStore_busy (s : Chip) (u : BootUpdate) :
    (s.bootStore u).get Reg.CFG_BANK_CTL_wr_busy = s.get Reg.CFG_BANK_CTL_wr_busy := by
  rw [bootStore_eq, showBoot, get_sets_other _ (by simp; decide)]
  have hregs : s.regs = (s.setBytes s.bootOlder (bootBytes s.bootNext u)).regs := (setBytes_inside (M := 4) rfl (.refl s _)) .regs rfl
  rw [get, get, hregs]

/-- The memory after an update that is done. -/
theorem bootDone_mem (s : Chip) (u : BootUpdate) : ((s.bootLeave.bootStore u).put Reg.CFG_BANK_CTL_wr_fail false).mem =
    (s.bootLeave.setBytes s.bootLeave.bootOlder (bootBytes s.bootLeave.bootNext u)).mem := by
  rw [bootStore_eq]
  exact ((put_inside (M := 2) rfl (showBoot_inside (M := 2) rfl (.refl _ _))) .mem rfl).symm

theorem bootDone_inside (s : Chip) (u : BootUpdate) :
    s.Inside 2097670 ((s.bootLeave.bootStore u).put Reg.CFG_BANK_CTL_wr_fail false) :=
  put_inside (M := 2097670) rfl (bootStore_inside (M := 2097670) rfl (s.bootLeave_inside (M := 2097670) rfl))

theorem note_cfg (s : Chip) (code inst data : Nat) : (s.note code inst data).cfg = s.cfg :=
  ((note_inside (M := 66) rfl (.refl s _)) .cfg rfl).symm

theorem bootFailed_inside (s : Chip) :
    s.Inside 2097730 ((s.bootLeave.put Reg.CFG_BANK_CTL_wr_fail true).note 0x0E23 0 1) :=
  note_inside (M := 2097730) rfl (put_inside (M := 2097730) rfl (s.bootLeave_inside (M := 2097730) rfl))

end Chip

section
variable {s : State} (hd : s.chip.pwr.dieReset = false)
include hd

/-! ### BANK_UPDATE and BANK_CONFIRM -/

theorem bankUpdate_keyed {d : Word} (hbusy : s.chip.on Reg.CFG_BANK_CTL_wr_busy = false)
    (hkey : part d.toNat 16 16 = 0xB0A7) (hconfirm : hasBit d.toNat 8 = false) :
    Touches (.bankUpdate d) s [.regs, .log, .cfg, .chm] (fun t => t.get Reg.CFG_BANK_CTL_wr_busy = 1 ∧
      t.cfg.bootUpdate = some ⟨bitOf d.toNat 0, bitOf d.toNat 1, if part d.toNat 4 2 = 0 then 3 else part d.toNat 4 2⟩) := by
  refine touches_of_inside (f := fun c => c.bankWrite d.toNat) rfl hd (fun _ => execBankUpdate_inside (M := 2097730) rfl) ?_
  rw [Chip.settle_get, Chip.settle_cfg, Chip.bankWrite_keyed hkey hconfirm]
  exact Chip.bootSubmit_started hbusy _

theorem bankUpdate_keyless {d : Word} (hkey : part d.toNat 16 16 ≠ 0xB0A7) (hconfirm : hasBit d.toNat 8 = false) :
    Completes (.bankUpdate d) s [] [] (fun _ => True) :=
  completes_unchanged (f := fun c => c.bankWrite d.toNat) rfl hd (Chip.bankWrite_keyless hkey hconfirm)

theorem bankConfirm_touches (hbusy : s.chip.on Reg.CFG_BANK_CTL_wr_busy = false) :
    Touches .bankConfirm s [.regs, .log, .cfg, .chm] (fun t =>
      t.get Reg.CFG_BANK_CTL_wr_busy = 1 ∧ t.cfg.bootUpdate = some { s.chip.bootRec with trial := 0 }) := by
  refine touches_of_inside (f := fun c => c.bankWrite (2 ^ 8)) rfl hd (fun _ => execBankConfirm_inside (M := 2097730) rfl) ?_
  rw [Chip.settle_get, Chip.settle_cfg, Chip.bankWrite_confirm]
  exact Chip.bootSubmit_started hbusy _

/-! ### BOOTREC_WRITE_END -/

section
variable {u : BootUpdate} (hu : s.chip.cfg.bootUpdate = some u)
  (hstarted : (s.chip.chm.writes.any fun w => decide (w.owner = .boot) && w.started) = true)
include hu hstarted

omit hd in
theorem exec_bootrecWriteEnd_done : exec (.bootrecWriteEnd true) s =
    s.act fun c => (c.bootLeave.bootStore u).put Reg.CFG_BANK_CTL_wr_fail false :=
  State.act_congr ((if_pos hstarted).trans (Chip.bootEnd_done hu 1))

omit hd in
theorem exec_bootrecWriteEnd_failed : exec (.bootrecWriteEnd false) s =
    s.act fun c => (c.bootLeave.put Reg.CFG_BANK_CTL_wr_fail true).note 0x0E23 0 1 :=
  State.act_congr ((if_pos hstarted).trans (Chip.bootEnd_failed hu 1))

theorem bootrecWriteEnd_done (hpref : u.pref ≤ 1) (htrial : u.trial ≤ 1) (htries : u.tries ≤ 3) :
    Touches (.bootrecWriteEnd true) s [.regs, .mem, .cfg, .chm] (fun t => t.bootRec = u ∧ t.cfg.bootUpdate = none ∧
      t.get Reg.CFG_BANK_CTL_wr_busy = 0 ∧ t.get Reg.CFG_BANK_CTL_wr_fail = 0 ∧
      ∀ a, a < s.chip.bootOlder ∨ s.chip.bootOlder + 32 ≤ a → t.byte a = s.chip.byte a) := by
  refine touches_of_act (exec_bootrecWriteEnd_done hu hstarted) hd (s.chip.bootDone_inside u) ?_
  have hmem := (Chip.settle_mem _).trans (s.chip.bootDone_mem u)
  refine ⟨(Chip.bootRec_congr hmem).trans (Chip.bootRec_setBytes hpref htrial htries), ?_, ?_, ?_, fun a ha => ?_⟩
  · rw [Chip.settle_cfg, Chip.put_cfg, Chip.bootStore_cfg]
    exact s.chip.bootLeave_update
  · rw [Chip.settle_get, Chip.get_put_other _ (by decide), Chip.get_bootStore_busy]
    exact s.chip.get_bootLeave_busy
  · rw [Chip.settle_get, Chip.get_put_self _ _ _ (by decide)]
    rfl
  · rw [Chip.byte_congr hmem, Chip.bootOlder_bootLeave,
      Chip.byte_setBytes_other _ _ _ _ (by rw [length_bootBytes]; omega), Chip.byte_bootLeave]

theorem bootrecWriteEnd_failed :
    Touches (.bootrecWriteEnd false) s [.regs, .log, .cfg, .chm] (fun t => t.cfg.bootUpdate = none ∧
      t.get Reg.CFG_BANK_CTL_wr_busy = 0 ∧ t.get Reg.CFG_BANK_CTL_wr_fail = 1) := by
  refine touches_of_act (exec_bootrecWriteEnd_failed hu hstarted) hd s.chip.bootFailed_inside ⟨?_, ?_, ?_⟩
  · rw [Chip.settle_cfg, Chip.note_cfg, Chip.put_cfg]
    exact s.chip.bootLeave_update
  · rw [Chip.settle_get, Chip.get_note _ (by decide) (by decide), Chip.get_put_other _ (by decide)]
    exact s.chip.get_bootLeave_busy
  · rw [Chip.settle_get, Chip.get_note _ (by decide) (by decide), Chip.get_put_self _ _ _ (by decide)]
    rfl

end

/-! ### ARB_COMMIT -/

section
variable {d : Word} (hkey : part d.toNat 16 16 = 0xC0A1) (hbusy : s.chip.on Reg.CFG_ARB_busy = false)
include hkey hbusy

theorem arbCommit_taken (hsv : s.chip.cfg.fuses.arb ≤ s.chip.get Reg.CFG_ARB_image_sv)
    (htrial : s.chip.on Reg.CFG_BANK_CTL_trial = false) :
    Completes (.arbCommit d) s [Reg.CFG_ARB_busy] [] (fun t => t.get Reg.CFG_ARB_busy = 1) := by
  have hx : exec (.arbCommit d) s = s.act fun c => c.put Reg.CFG_ARB_busy true :=
    State.act_congr (by simp [Chip.arbWrite, hkey, hbusy, htrial, Nat.not_lt.2 hsv])
  refine completes_of_act hx hd (.put _ _ _ _ (.head _)) ?_
  rw [Chip.settle_get, Chip.get_put_self _ _ _ (by decide)]
  rfl

theorem arbCommit_refused (h : s.chip.get Reg.CFG_ARB_image_sv < s.chip.cfg.fuses.arb ∨ s.chip.on Reg.CFG_BANK_CTL_trial = true) :
    Completes (.arbCommit d) s [] [.log] (fun t => t.log.seq = (s.chip.log.seq + 1) % 65536) := by
  have hx : exec (.arbCommit d) s = s.act fun c => c.note 0x0E24 0 c.cfg.fuses.arb :=
    State.act_congr (by rcases h with h | h <;> simp [Chip.arbWrite, hkey, hbusy, h])
  refine completes_of_act hx hd (.note _ _ _ _ (.head _) (by decide) (by decide)) ?_
  rw [Chip.settle_log]
  exact Chip.record_seq ..

end

omit hd in
theorem arbEnd_apart : [Reg.CFG_ARB_fused, Reg.CFG_ARB_busy, Reg.CFG_EVENT_arb_ev].Pairwise fun f g => f.key ≠ g.key := by decide

theorem arbCommitEnd_completes (hbusy : s.chip.on Reg.CFG_ARB_busy = true) :
    Completes .arbCommitEnd s [Reg.CFG_ARB_fused, Reg.CFG_ARB_busy, Reg.CFG_EVENT_arb_ev] [.cfg] (fun t =>
      t.cfg.fuses = { s.chip.cfg.fuses with arb := min 64 (s.chip.get Reg.CFG_ARB_image_sv) } ∧
      t.get Reg.CFG_ARB_busy = 0 ∧ t.get Reg.CFG_EVENT_arb_ev = 1) := by
  have hx : exec .arbCommitEnd s = s.act fun c =>
      (c.modFuses fun f => { f with arb := min 64 (c.get Reg.CFG_ARB_image_sv) }).sets
        [(Reg.CFG_ARB_fused, min 64 (c.get Reg.CFG_ARB_image_sv)), (Reg.CFG_ARB_busy, 0), (Reg.CFG_EVENT_arb_ev, 1)] :=
    State.act_congr (if_pos hbusy)
  refine completes_of_act hx hd ?_ ⟨?_, ?_, ?_⟩
  · refine (Chip.Frame.cfg _ _ _ (.head _)).trans (.sets _ _ _ (by simp))
  · rw [Chip.settle_cfg]
    rfl
  · rw [Chip.settle_get]
    exact Chip.get_sets_mem (v := 0) _ (by simp) arbEnd_apart
  · rw [Chip.settle_get]
    exact Chip.get_sets_mem (v := 1) _ (by simp) arbEnd_apart

end

/-- Settles O28, one lemma per clause. -/
theorem bootRecordAndRollback : Obligations.BootRecordAndRollback := by
  unfold Obligations.BootRecordAndRollback
  intro s d hd
  refine ⟨bankUpdate_keyed hd, bankUpdate_keyless hd, bankConfirm_touches hd, fun hstarted u hu hpref htrial htries => ?_,
    fun hkey hbusy => ⟨arbCommit_taken hd hkey hbusy, arbCommit_refused hd hkey hbusy⟩, arbCommitEnd_completes hd⟩
  have hu := Option.mem_toList.1 hu
  exact ⟨bootrecWriteEnd_done hd hu hstarted hpref htrial htries, bootrecWriteEnd_failed hd hu hstarted⟩

end Sys2Proof.Machine
end

section
/-! SUPPORT. What a change of a cluster's state, a fault and a demand leave alone: the torque references, the Cellar's registers, the
codes of the retention log; and a cluster that holds no request still holds none. -/

namespace Sys2Proof.Machine

theorem nth_updNth_cases {α : Type} [Inhabited α] (f : α → α) :
    ∀ (n : Nat) (l : List α), nth (updNth f n l) n = f (nth l n) ∨ nth (updNth f n l) n = nth l n
  | 0, [] | _ + 1, [] => .inr rfl
  | 0, _ :: _ => .inl rfl
  | n + 1, _ :: l => nth_updNth_cases f n l

namespace Chip

theorem renumber_code (q : List LogEntry) (e x : LogEntry) : (renumber q e x).code = x.code := by
  unfold renumber
  split <;> rfl

/-- The keys of the torque references and of the Cellar's registers. -/
def lasting (q : Nat) : Bool :=
  decide (0x41A00800 * 32 ≤ q) || (List.range 4).any fun k => (Reg.FC_TQ_REF_v k).key == q

theorem lasting_between {q : Nat} (hlo : 0x41000000 * 32 ≤ q) (hhi : q < 0x41A00800 * 32) : lasting q = false := by
  simp only [lasting, Bool.or_eq_false_iff, decide_eq_false_iff_not, List.any_eq_false, List.mem_range, beq_iff_eq]
  refine ⟨by omega, fun k hk => ?_⟩
  simp only [Field.key, Reg.FC_TQ_REF_v]
  omega

theorem stirred_lasting {k : Nat} (hk : k < 4) {f : Field} (h : f ∈ stirredFields k) : lasting f.key = false := by
  have all : ∀ k < 4, (stirredFields k).all (fun f => !lasting f.key) = true := by decide
  simpa using List.all_eq_true.1 (all k hk) f h

theorem slice_lasting {n : Nat} (hn : n < 16) {f : Field} (h : f ∈ sliceFields n) : lasting f.key = false := by
  have all : ∀ n < 16, (sliceFields n).all (fun f => !lasting f.key) = true := by decide
  simpa using List.all_eq_true.1 (all n hn) f h

theorem island_lasting {n : Nat} (hn : n < 12) {f : Field} (h : f ∈ islandFields n) : lasting f.key = false := by
  have all : ∀ n < 12, (islandFields n).all (fun f => !lasting f.key) = true := by decide
  simpa using List.all_eq_true.1 (all n hn) f h

theorem torqueRef_lasting {k : Nat} (hk : k < 4) : lasting (Reg.FC_TQ_REF_v k).key = true := by
  have all : ∀ k < 4, lasting (Reg.FC_TQ_REF_v k).key = true := by decide
  exact all k hk

/-- A change of a cluster that gives it no request to hold. -/
abbrev HoldsNone (f : ClusterS → ClusterS) : Prop := ∀ c, c.held = 0 → (f c).held = 0

/-- The module d has the lasting fields of c and the codes of its retention log, and holds no request of a cluster for which c
holds none. -/
structure Leaves (c d : Chip) : Prop where
  get : ∀ f : Field, lasting f.key = true → d.get f = c.get f
  held : ∀ j, (c.cluster j).held = 0 → (d.cluster j).held = 0
  codes : d.log.retention.map LogEntry.code = c.log.retention.map LogEntry.code

namespace Leaves

variable {z s : Chip} {k n : Nat}

theorem refl (c : Chip) : c.Leaves c := ⟨fun _ _ => rfl, fun _ h => h, rfl⟩

theorem ite {c : Prop} [Decidable c] {a b : Chip} (ha : z.Leaves a) (hb : z.Leaves b) : z.Leaves (if c then a else b) := by
  split <;> assumption

theorem each {α : Type} {l : List α} {f : α → Chip → Chip} (h : z.Leaves s)
    (hf : ∀ a ∈ l, ∀ t, z.Leaves t → z.Leaves (f a t)) : z.Leaves (forEach l f s) := forEach_preserves hf h

theorem same {t : Chip} (h : z.Leaves s) (hr : t.regs = s.regs) (hc : t.cl = s.cl) (hl : t.log = s.log) : z.Leaves t :=
  ⟨fun f hf => by rw [← h.get f hf, Chip.get, Chip.get, hr], fun j hj => by rw [cluster, hc]; exact h.held j hj,
    by rw [hl, h.codes]⟩

theorem set {f : Field} (hf : lasting f.key = false) (v : Nat) (h : z.Leaves s) : z.Leaves (s.set f v) :=
  ⟨fun g hg => (get_set_other s (fun e => by rw [e, hf] at hg; cases hg) v).trans (h.get g hg), h.held, h.codes⟩

theorem put {f : Field} (hf : lasting f.key = false) (b : Bool) (h : z.Leaves s) : z.Leaves (s.put f b) := h.set hf _

theorem sets {l : List (Field × Nat)} (hl : ∀ p ∈ l, lasting p.1.key = false) (h : z.Leaves s) : z.Leaves (s.sets l) := by
  induction l generalizing s with
  | nil => exact h
  | cons p l ih => exact ih (fun q hq => hl q (.tail _ hq)) (h.set (hl p (.head _)) p.2)

theorem modCl {f : ClusterS → ClusterS} (hf : HoldsNone f) (h : z.Leaves s) : z.Leaves (s.modCl k f) := by
  refine ⟨h.get, fun j hj => ?_, h.codes⟩
  have hold := h.held j hj
  rw [cluster] at hold ⊢
  change (nth (updNth f k s.cl) j).held = 0
  by_cases hjk : j = k
  · subst hjk
    rcases nth_updNth_cases f j s.cl with e | e <;> rw [e]
    · exact hf _ hold
    · exact hold
  · rw [nth_updNth_ne f hjk]
    exact hold

theorem modSlice {f : SliceS → SliceS} (h : z.Leaves s) : z.Leaves (s.modSlice n f) := h.same rfl rfl rfl

theorem modIsl {f : IslandS → IslandS} (h : z.Leaves s) : z.Leaves (s.modIsl n f) := h.same rfl rfl rfl

/-- A record below class 3 of a cluster, or of none. -/
theorem record {code cls inst cluster region data : Nat} (hcls : cls < 3) (h1 : code ≠ 0x0E13) (h2 : code ≠ 0x0E10)
    (h : z.Leaves s) : z.Leaves (s.record code cls inst cluster region data) := by
  have hlow : (cls ≥ 3 || code == 0x0E13 || code == 0x0E10) = false := by simp [hcls, h1, h2]
  have hret : (s.log.retention.map (renumber s.log.queue
      ⟨code, cls, inst, cluster, region, s.stamp, s.ringCycle, s.log.seq, data % 2 ^ 32⟩)).map LogEntry.code =
      z.log.retention.map LogEntry.code := by
    rw [List.map_map, ← h.codes]
    exact List.map_congr_left fun x _ => renumber_code ..
  unfold Chip.record
  rw [hlow]
  extract_lets e q hs s1 s2
  have h1 : z.Leaves s1 := ⟨h.get, h.held, hret⟩
  clear_value s1
  change z.Leaves (if cluster < 4 then _ else s1)
  split
  next hk =>
    exact ((h1.set (stirred_lasting hk (by simp [stirredFields])) _).set (stirred_lasting hk (by simp [stirredFields])) _).set
      (stirred_lasting hk (by simp [stirredFields])) _
  next => exact h1

theorem noteCl {code data : Nat} (h1 : code ≠ 0x0E13) (h2 : code ≠ 0x0E10) (h : z.Leaves s) : z.Leaves (s.noteCl code k data) :=
  h.record (by decide) h1 h2

theorem firstNote {flag : Field} {code inst data : Nat} (hf : lasting flag.key = false) (h1 : code ≠ 0x0E13) (h2 : code ≠ 0x0E10)
    (h : z.Leaves s) : z.Leaves (s.firstNote flag code inst data) :=
  .ite (h.put hf _) ((h.put hf _).record (by decide) h1 h2)

theorem unrecord {p : LogEntry → Bool} (h : z.Leaves s) : z.Leaves (s.unrecord p) := by
  unfold Chip.unrecord
  split
  · exact h
  · extract_lets down
    refine ⟨h.get, h.held, ?_⟩
    change (s.log.retention.map down).map LogEntry.code = _
    rw [List.map_map, ← h.codes]
    refine List.map_congr_left fun x _ => ?_
    dsimp only [Function.comp_apply, down]
    split <;> rfl

/-! ### Slices -/

theorem accrue {t : Nat} (h : z.Leaves s) : z.Leaves (s.accrue n t) := by
  have hone : ∀ {s : Chip} {n : Nat}, z.Leaves s → z.Leaves (s.accrueOne n t) := fun hs => .ite hs hs.modSlice
  exact .ite (hone (hone h)) (hone h)

theorem showOutputs (hn : n < 16) (h : z.Leaves s) : z.Leaves (s.showOutputs n) := by
  unfold Chip.showOutputs
  extract_lets hi lo t s1 s2
  have h1 : z.Leaves s1 := .ite h h.modSlice
  have h2 : z.Leaves s2 := .ite h1 h1.modSlice
  exact (h2.put (slice_lasting hn (by simp [sliceFields])) _).put (slice_lasting hn (by simp [sliceFields])) _

theorem outputs (hn : n < 16) (h : z.Leaves s) : z.Leaves (s.outputs n) := by
  unfold Chip.outputs
  split
  next h3 =>
    have ho := outerOf_lt h3
    extract_lets p s1
    have h1 : z.Leaves s1 := (h.showOutputs (by omega)).showOutputs (by omega)
    refine h1.set (lasting_between ?_ ?_) _ <;> simp only [Field.key, Reg.PWM_TL_STAT_state, p] <;> omega
  next => exact h.showOutputs hn

theorem dropGates (h : z.Leaves s) : z.Leaves (s.dropGates n) := by
  unfold Chip.dropGates
  refine .ite ?_ h
  extract_lets p s1
  have h1 : z.Leaves s1 := .ite h h.modSlice
  exact .ite h1 h1.modSlice

theorem fallH {cut : Bool} (hn : n < 16) (h : z.Leaves s) : z.Leaves (s.fallH n cut) :=
  .ite (h.modSlice.put (slice_lasting hn (by simp [sliceFields])) _) h.modSlice

theorem fallL {cut : Bool} (hn : n < 16) (h : z.Leaves s) : z.Leaves (s.fallL n cut) :=
  .ite h (.ite (h.modSlice.put (slice_lasting hn (by simp [sliceFields])) _) h.modSlice)

theorem riseH {t : Nat} (h : z.Leaves s) : z.Leaves (s.riseH n t) := .ite h.modSlice h.modSlice

theorem riseL {t : Nat} (h : z.Leaves s) : z.Leaves (s.riseL n t) := .ite h.modSlice h.modSlice

theorem setGate {b : Bool} (hn : n < 16) (h : z.Leaves s) : z.Leaves (s.setGate n b) := by
  unfold Chip.setGate
  refine .ite h ?_
  extract_lets s1 hi lo s2 s3 compl s4 s5
  have h1 : z.Leaves s1 := h.accrue.put (slice_lasting hn (by simp [sliceFields])) _
  have h2 : z.Leaves s2 := .ite (h1.fallH hn) h1
  have h3 : z.Leaves s3 := .ite (h2.fallL hn) h2
  have h4 : z.Leaves s4 := .ite h3.riseL h3
  have h5 : z.Leaves s5 := .ite h4.riseH h4
  exact .ite (h1.accrue.modSlice.outputs hn) (h5.modSlice.dropGates.outputs hn)

theorem setOvrs {t : Chip} {code : Nat} (h : z.Leaves s) : z.Leaves (s.setOvrs (t.slicesOf k) code) :=
  .each h fun _ hn _ hu => have hlt := mem_slicesOf_lt hn
    .ite hu ((hu.accrue.modSlice.set (slice_lasting hlt (by simp [sliceFields])) _).outputs hlt)

/-! ### The safe state held -/

theorem putSelOne {sel : Nat} (hk : k < 4) (h : z.Leaves s) : z.Leaves (s.putSelOne k sel) := by
  unfold Chip.putSelOne
  extract_lets s1 s2
  have h1 : z.Leaves s1 := .ite h (h.modCl fun _ hc => hc)
  exact ((h1.set (stirred_lasting hk (by simp [stirredFields])) _).set (stirred_lasting hk (by simp [stirredFields])) _).setOvrs

theorem followSel (h : z.Leaves s) : z.Leaves s.followSel := .ite h (h.putSelOne (by decide))

theorem putSel {sel : Nat} (hk : k < 4) (h : z.Leaves s) : z.Leaves (s.putSel k sel) := (h.putSelOne hk).followSel

theorem selectBy {src : Nat} {high low : Bool} (hk : k < 4) (h : z.Leaves s) : z.Leaves (s.selectBy k src high low) := by
  unfold Chip.selectBy
  extract_lets prev s1 side s2
  have h1 : z.Leaves s1 := .ite (.noteCl (by decide) (by decide) (.modCl (fun _ hc => hc) h)) h
  clear_value s1
  have h2 : z.Leaves s2 :=
    .ite h1 (.noteCl (by decide) (by decide) (.put (by decide) _ (.modCl (fun _ hc => hc) h1)))
  exact .ite (h1.putSel hk) (.ite (.ite (h1.putSel hk) (h2.putSel hk)) (.ite (h1.putSel hk) (h1.putSel hk)))

theorem evalRule (hk : k < 4) (h : z.Leaves s) : z.Leaves (s.evalRule k) := by
  unfold Chip.evalRule
  split
  extract_lets th s1 s2 high low s3
  have h1 : z.Leaves s1 :=
    (h.set (stirred_lasting hk (by simp [stirredFields])) _).set (stirred_lasting hk (by simp [stirredFields])) _
  have h2 : z.Leaves s2 := .ite (h1.set (stirred_lasting hk (by simp [stirredFields])) _) h1
  have h3 : z.Leaves s3 := .ite (h2.put (stirred_lasting hk (by simp [stirredFields])) _) h2
  exact .ite h2.followSel (.ite (.ite (h2.putSel hk) h2)
    (.ite h3 (.ite (h3.putSel hk) (.ite (h3.putSel hk) (h3.selectBy hk)))))

theorem refreshHold (hk : k < 4) (h : z.Leaves s) : z.Leaves (s.refreshHold k) := by
  unfold Chip.refreshHold
  extract_lets s1 osp s2
  have h1 : z.Leaves s1 := h.modCl fun _ hc => hc
  have h2 : z.Leaves s2 :=
    (h1.set (stirred_lasting hk (by simp [stirredFields])) _).set (stirred_lasting hk (by simp [stirredFields])) _
  exact .ite h.followSel (.ite (.ite (h.evalRule hk) h) (.ite h h2.setOvrs.followSel))

theorem demandBegins (hk : k < 4) (h : z.Leaves s) : z.Leaves (s.demandBegins k) := .ite (h.evalRule hk) h

/-! ### A change of state -/

theorem openGate {g : Nat} (h : z.Leaves s) : z.Leaves (s.openGate g) := by
  unfold Chip.openGate
  refine .ite h (same (h.put ?_ false) rfl rfl rfl)
  split <;> decide

theorem abortLeak {reason : Nat} (hn : n < 12) (h : z.Leaves s) : z.Leaves (s.abortLeak n reason) := by
  unfold Chip.abortLeak
  refine .ite ?_ h
  refine ((h.sets fun p hp => island_lasting hn ?_).modIsl).modIsl.put (island_lasting hn (by simp [islandFields])) _
  simp only [List.mem_cons, List.not_mem_nil, or_false] at hp
  rcases hp with rfl | rfl | rfl | rfl | rfl <;> simp [islandFields]

theorem ctrMove {neg on : Bool} (h : z.Leaves s) : z.Leaves (s.ctrMove neg on) := by
  unfold Chip.ctrMove
  extract_lets s1 _ s2
  have h1 : z.Leaves s1 := h.sets (by
    simp only [List.forall_mem_cons, List.not_mem_nil, false_imp_iff, implies_true, and_true]
    cases neg <;> exact ⟨by decide, by decide⟩)
  have h2 : z.Leaves s2 := .ite (h1.same rfl rfl rfl) (h1.same rfl rfl rfl)
  exact h2.put (by decide) _

theorem applyContactors {force : Bool} (h : z.Leaves s) : z.Leaves (s.applyContactors force) := by
  unfold Chip.applyContactors
  extract_lets held block one s1 s2
  have hone : ∀ (cmd out : Field) (neg : Bool) (t : Chip), z.Leaves t → z.Leaves (one cmd out neg t) :=
    fun _ _ _ _ ht => .ite ht.ctrMove (.ite ht.ctrMove ht)
  clear_value one
  exact (hone _ _ _ _ (hone _ _ _ _ h)).put (by decide) _

theorem enter (hk : k < 4) {st : Nat} (h : z.Leaves s) : z.Leaves (s.enter k st) := by
  have hf : ∀ f ∈ stirredFields k, lasting f.key = false := fun f hf => stirred_lasting hk hf
  have hstate : lasting (Reg.SEQ_STAT_state k).key = false := by
    have all : ∀ k < 4, lasting (Reg.SEQ_STAT_state k).key = false := by decide
    exact all k hk
  unfold Chip.enter
  extract_lets old s1 s2 s3 s4 s5 s6 s7 s8 s9 s10 s11 s12 s13
  refine .ite h ?_
  have h1 : z.Leaves s1 := (h.set hstate st).set (hf _ (by simp [stirredFields])) 1
  clear_value s1
  have h2 : z.Leaves s2 := h1.modCl fun c hc => by simp [hc]
  clear_value s2
  have h3 : z.Leaves s3 := h2.put (hf _ (by simp [stirredFields])) _
  clear_value s3
  have h4 : z.Leaves s4 := by
    have hcarry : z.Leaves (forEach (s3.slicesOf k) (fun n t => t.resumeCarrier n) s3) :=
      .each h3 fun _ _ _ ht => .ite ht.modSlice ht.modSlice
    exact .ite (.each hcarry.openGate fun _ _ _ ht => ht.openGate) h3
  clear_value s4
  have h5 : z.Leaves s5 := .ite (.each (.modCl (fun _ hc => hc) h4) fun _ _ _ ht => ht.modSlice) h4
  clear_value s5
  have h6 : z.Leaves s6 := by
    refine .ite h5 (.each (h5.sets ?_) fun n hn _ ht => ht.setGate (mem_slicesOf_lt hn))
    simp only [List.forall_mem_cons, List.not_mem_nil, false_imp_iff, implies_true, and_true]
    exact ⟨hf _ (by simp [stirredFields]), hf _ (by simp [stirredFields])⟩
  clear_value s6
  have h7 : z.Leaves s7 := .ite (h6.set (by decide) 0) h6
  clear_value s7
  have h8 : z.Leaves s8 := h7.put (hf _ (by simp [stirredFields])) _
  clear_value s8
  have h9 : z.Leaves s9 := h8.modCl fun c hc => by simp [hc]
  clear_value s9
  have h10 : z.Leaves s10 := h9.put (hf _ (by simp [stirredFields])) _
  clear_value s10
  have h11 : z.Leaves s11 := .ite (.ite (setOvrs (h10.set (hf _ (by simp [stirredFields])) 0)) h10) h7
  clear_value s11
  have h12 : z.Leaves s12 := .ite (.each h11 fun n hn _ ht => ht.abortLeak (mem_islandsOf_lt hn)) h11
  clear_value s12
  exact (h12.refreshHold hk).applyContactors

end Leaves

end Chip

end Sys2Proof.Machine
end

section
/-! SUPPORT. A RUN request in each state of its cluster, and a request of no known code (R172, R173, R176). -/

namespace Sys2Proof.Machine

theorem updNth_updNth {α : Type} (f g : α → α) : ∀ (n : Nat) (l : List α), updNth f n (updNth g n l) = updNth (f ∘ g) n l
  | 0, [] | _ + 1, [] => rfl
  | 0, _ :: _ => rfl
  | n + 1, a :: l => congrArg (a :: ·) (updNth_updNth f g n l)

namespace Chip

variable {s : Chip} {k : Nat}

/-! ### A cluster changed -/

theorem cluster_modCl (hk : k < s.cl.length) (f : ClusterS → ClusterS) : (s.modCl k f).cluster k = f (s.cluster k) :=
  nth_updNth_self f hk

/-- The request of the tick is noted with its cluster. -/
def noted (s : Chip) (k code : Nat) : Chip := s.modCl k fun c => { c with reqNow := code }

theorem noted_get (s : Chip) (k code : Nat) (f : Field) : (s.noted k code).get f = s.get f := rfl

theorem noted_clState (s : Chip) (k code j : Nat) : (s.noted k code).clState j = s.clState j := rfl

theorem cluster_noted (hk : k < s.cl.length) (code : Nat) :
    (s.noted k code).cluster k = { s.cluster k with reqNow := code } := cluster_modCl hk _

theorem Frame.modCl (s : Chip) (k : Nat) (f : ClusterS → ClusterS) (fs : List Field) {ps : List Part} (h : Part.cl ∈ ps) :
    s.Frame (s.modCl k f) fs ps := .cl s _ fs h

theorem request_of_settled (hfall : (s.cluster k).fallDue = false) {code : Nat}
    (hcode : code ≠ 0) : s.request k code = (s.handleReq k code).noted k code := by
  rw [request, if_neg hcode, refall, if_pos (by rw [hfall]; rfl)]
  rfl

/-! ### A request refused -/

theorem Frame.refuseReq (s : Chip) (k code why : Nat) : s.Frame (s.refuseReq k code why)
    [Reg.SEQ_FLAGS_refused k, Reg.SEQ_FAULT_code k, Reg.SEQ_FAULT_class k, Reg.SEQ_FLAGS_fault k] [.log, .cl] := by
  refine ((Frame.modCl s k _ _ (by simp)).trans (.put _ _ _ _ (by simp))).trans (.record _ _ _ _ _ _ _ (by simp) (by omega) ?_)
  simp

theorem refuseReq_cl (s : Chip) (k code why : Nat) : (s.refuseReq k code why).cl =
    updNth (fun c => { c with refNow := some (s.on (Reg.SEQ_FLAGS_refused k)) }) k s.cl :=
  ((record_inside (M := 66) rfl (.refl _ _)) .cl rfl).symm

/-- A cluster shows the code of what is recorded for it. -/
theorem get_record_code (s : Chip) (hk : k < 4) {code : Nat} (hcode : code < 2 ^ 16) (cls inst region data : Nat) :
    (s.record code cls inst k region data).get (Reg.SEQ_FAULT_code k) = code := by
  unfold record
  extract_lets e q hs s1 s2
  rw [if_pos hk, get_set_other _ (by simp only [Field.key, Reg.SEQ_FAULT_code, Reg.SEQ_FLAGS_fault]; omega),
    get_set_other _ (by simp only [Field.key, Reg.SEQ_FAULT_code, Reg.SEQ_FAULT_class]; omega), get_set_self]
  exact Nat.mod_eq_of_lt hcode

theorem get_refuseReq_refused (s : Chip) (k code why : Nat) : (s.refuseReq k code why).get (Reg.SEQ_FLAGS_refused k) = 1 := by
  refine ((Frame.record _ _ _ _ _ _ _ (ps := [.log]) (fs := [Reg.SEQ_FAULT_code k, Reg.SEQ_FAULT_class k, Reg.SEQ_FLAGS_fault k])
    (by simp) (by omega) (by simp)).1 _ ?_).trans (get_put_self _ _ _ Nat.one_pos)
  simp only [List.forall_mem_cons, List.not_mem_nil, false_imp_iff, implies_true, and_true, Field.key, Reg.SEQ_FLAGS_refused,
    Reg.SEQ_FAULT_code, Reg.SEQ_FAULT_class, Reg.SEQ_FLAGS_fault]
  omega

theorem get_refuseReq_code (s : Chip) (hk : k < 4) (code why : Nat) :
    (s.refuseReq k code why).get (Reg.SEQ_FAULT_code k) = 0x0510 := get_record_code _ hk (by decide) _ _ _ _

end Chip

/-- A request refused in this state. -/
theorem refused_completes {i : Instr} {s : State} {k : Fin 4} {f : Chip → Chip} {code why : Nat}
    (hd : s.chip.pwr.dieReset = false) (hx : exec i s = s.act f) (hf : f s.chip = (s.chip.refuseReq k code why).noted k code) :
    Completes i s [Reg.SEQ_FLAGS_refused k, Reg.SEQ_FAULT_code k, Reg.SEQ_FAULT_class k, Reg.SEQ_FLAGS_fault k] [.log, .cl]
      (fun t => t.get (Reg.SEQ_FLAGS_refused k) = 1 ∧ t.get (Reg.SEQ_FAULT_code k) = 0x0510 ∧
        t.cl = updNth (fun x => { x with reqNow := code, refNow := some (s.chip.on (Reg.SEQ_FLAGS_refused k)) }) k s.chip.cl) := by
  refine completes_of_act hx hd ?_ ?_ <;> rw [hf]
  · exact (Chip.Frame.refuseReq ..).trans (.modCl _ _ _ _ (by simp))
  · rw [Chip.settle_get, Chip.settle_get, Chip.settle_cl, Chip.noted_get, Chip.noted_get]
    refine ⟨s.chip.get_refuseReq_refused .., s.chip.get_refuseReq_code k.isLt .., ?_⟩
    change updNth _ _ (s.chip.refuseReq k code why).cl = _
    rw [Chip.refuseReq_cl, updNth_updNth]
    rfl

section
variable {s : State} {k : Fin 4} (hlent : s.chip.on (Reg.SEQ_STAT_lent k) = false)
  (htakes : s.chip.takes (0x40000000 + 0x10000 * k.val) = true) (hfall : (s.chip.cluster k).fallDue = false)
include hlent htakes hfall

theorem exec_requestUnknown {code : Fin 16} (hcode : 8 < code.val) : exec (.requestUnknown k code) s =
    s.act fun c => (c.refuseReq k code 7).noted k code := by
  change execRequestUnknown k code s = _
  unfold execRequestUnknown
  refine State.act_congr ?_
  rw [if_neg (by simp; omega), Chip.rowWrite_takes htakes, Chip.request_of_settled hfall (by omega), Chip.handleReq,
    if_neg (Bool.eq_false_iff.1 hlent)]
  repeat rw [if_neg (by omega)]

theorem exec_runRequest : exec (.runRequest k) s = s.act fun c => (c.reqRun k).noted k 1 := by
  change execRunRequest k s = _
  unfold execRunRequest
  refine State.act_congr ?_
  rw [Chip.rowWrite_takes htakes, Chip.request_of_settled hfall (by decide), Chip.handleReq, if_neg (Bool.eq_false_iff.1 hlent),
    if_pos rfl]

end

end Sys2Proof.Machine
end

section
/-! SUPPORT. What a RUN request comes to in each state, and the cluster's entry to CATCH (R172, R200). -/

namespace Sys2Proof.Machine

namespace Chip

variable {s : Chip} {k : Nat}

/-! ### What a RUN request comes to -/

section
variable (hwhy : s.runRefusal k = 0)

theorem reqRun_refused (h : s.runRefusal k ≠ 0 ∨ s.clState k = 1 ∨ s.clState k = 2) :
    ∃ why, s.reqRun k = s.refuseReq k 1 why := by
  unfold reqRun
  extract_lets st why
  by_cases hst : st = 1 ∨ st = 2
  · exact ⟨6, if_pos hst⟩
  · refine ⟨why, (if_neg hst).trans (if_pos ?_)⟩
    simpa using h.resolve_right hst

include hwhy

theorem reqRun_safe (h : s.clState k = 4) : s.reqRun k = (s.setHeld k 0).setStanding k true := by
  simp [reqRun, hwhy, h]

theorem reqRun_decel (h : s.clState k = 3) : s.reqRun k = (s.setHeld k 0).enter k 2 := by
  simp [reqRun, hwhy, h]

theorem reqRun_quiet (h : s.quiet k = true) : s.reqRun k = if s.startDone k then s.startRun k else s.setHeld k 1 := by
  have hst : s.clState k = 0 ∨ s.clState k = 5 := by simpa [quiet] using h
  rcases hst with hst | hst <;> simp [reqRun, hwhy, hst]

end

/-! ### A request held -/

theorem Frame.setHeld (s : Chip) (k code : Nat) : s.Frame (s.setHeld k code) [Reg.SEQ_STAT_held_req k] [.cl] :=
  (Frame.modCl s k _ _ (.head _)).trans (.put _ _ _ _ (.head _))

theorem Frame.setStanding (s : Chip) (k : Nat) (b : Bool) : s.Frame (s.setStanding k b) [Reg.SEQ_STAT_held_req k] [.cl] :=
  (Frame.modCl s k _ _ (.head _)).trans (.put _ _ _ _ (.head _))

theorem held_setHeld (hk : k < s.cl.length) (code : Nat) : ((s.setHeld k code).cluster k).held = code :=
  congrArg ClusterS.held (cluster_modCl hk _)

theorem get_setHeld_run (s : Chip) (k : Nat) : (s.setHeld k 1).get (Reg.SEQ_STAT_held_req k) = 1 :=
  get_put_self _ _ _ Nat.one_pos

theorem clState_setHeld (s : Chip) (k code : Nat) : (s.setHeld k code).clState k = s.clState k := by
  refine get_put_other _ ?_ _
  simp only [Field.key, Reg.SEQ_STAT_state, Reg.SEQ_STAT_held_req]
  omega

theorem standing_setStanding (hk : k < s.cl.length) (b : Bool) : ((s.setStanding k b).cluster k).standing = b :=
  congrArg ClusterS.standing (cluster_modCl hk _)

theorem get_setStanding (s : Chip) (k : Nat) : (s.setStanding k true).get (Reg.SEQ_STAT_held_req k) = 1 :=
  get_put_self _ _ _ Nat.one_pos

theorem length_setHeld (s : Chip) (k code : Nat) : (s.setHeld k code).cl.length = s.cl.length := updNth_length ..

/-! ### CATCH -/

theorem length_enter (hs : s.Shaped) (st : Nat) : (s.enter k st).cl.length = 4 :=
  (enter_shape (.refl s) hs).cl

theorem held_enter (hk : k < 4) (st : Nat) (h : (s.cluster k).held = 0) : ((s.enter k st).cluster k).held = 0 :=
  (Leaves.enter hk (.refl s)).held k h

/-- A field that the start of an engine's lists does not write. -/
abbrev NoList (f : Field) : Prop :=
  (∀ e n, n < 6 → f.key ≠ (Reg.CLE_LIST_OUT_v e n).key) ∧ ∀ e, f.key ≠ (Reg.CLE_STAT_fe_timer e).key

theorem noList_state {k : Nat} : NoList (Reg.SEQ_STAT_state k) := by
  simp only [NoList, Field.key, Reg.SEQ_STAT_state, Reg.CLE_LIST_OUT_v, Reg.CLE_STAT_fe_timer]
  exact ⟨fun e n hn => by omega, fun e => by omega⟩

theorem noList_result {k : Nat} : NoList (Reg.SEQ_CATCH_STAT_result k) := by
  simp only [NoList, Field.key, Reg.SEQ_CATCH_STAT_result, Reg.CLE_LIST_OUT_v, Reg.CLE_STAT_fe_timer]
  exact ⟨fun e n hn => by omega, fun e => by omega⟩

theorem clearLists_spares (s : Chip) (e : Nat) {f : Field} (hf : NoList f) :
    (s.clearLists e).get f = s.get f ∧ (s.clearLists e).cl = s.cl := by
  unfold clearLists
  extract_lets t
  have ht : t.get f = s.get f ∧ t.cl = s.cl := ⟨rfl, rfl⟩
  clear_value t
  exact forEach_preserves (P := fun u : Chip => u.get f = s.get f ∧ u.cl = s.cl)
    (fun n hn u hu => ⟨(get_set_other u (hf.1 e n (List.mem_range.1 hn)) 0).trans hu.1, hu.2⟩) ht

theorem feZero_spares (s : Chip) (e : Nat) {f : Field} (hf : NoList f) :
    (s.feZero e).get f = s.get f ∧ (s.feZero e).cl = s.cl := ⟨get_set_other (s.modCle e _) (hf.2 e) 0, rfl⟩

/-- The start of engines' lists changes their fields and their own state alone. -/
theorem clearEngines_spares (z : Chip) (l : List Nat) {f : Field} (hf : NoList f) :
    (forEach l (fun e t => (t.clearLists e).feZero e) z).get f = z.get f ∧
      (forEach l (fun e t => (t.clearLists e).feZero e) z).cl = z.cl := by
  refine forEach_preserves (P := fun t : Chip => t.get f = z.get f ∧ t.cl = z.cl) (fun e _ t ht => ?_) ⟨rfl, rfl⟩
  obtain ⟨hget, hcl⟩ := t.clearLists_spares e hf
  obtain ⟨hget', hcl'⟩ := (t.clearLists e).feZero_spares e hf
  exact ⟨hget'.trans (hget.trans ht.1), hcl'.trans (hcl.trans ht.2)⟩

/-- The cluster has entered CATCH, its engines' lists still to start anew. -/
def catchBegun (s : Chip) (k : Nat) : Chip :=
  let t := (s.enter k 1).sets [(Reg.FC_FW_DID_v k, 0), (Reg.CLE_STAT_fe_timer k, 0), (Reg.SEQ_CATCH_STAT_result k, 1),
    (Reg.SEQ_CATCH_STAT_probes k, 0), (Reg.FC_STAT_fw_active k, 0)]
  t.modCl k fun c => { c with
    probes := [], lowProbes := 0, lastProbe := none, lock := none, track := none, catchAt := t.now, vPrev := 0, tqAtLim := false }

theorem enterCatch_eq (s : Chip) (k : Nat) : s.enterCatch k =
    forEach ((s.catchBegun k).engineSets k) (fun e t => (t.clearLists e).feZero e) (s.catchBegun k) := rfl

theorem clState_enterCatch (hk : k < 4) : (s.enterCatch k).clState k = 1 := by
  rw [enterCatch_eq]
  refine (clearEngines_spares _ _ noList_state).1.trans (Eq.trans ?_ (clState_enter (s := s) hk (by decide : 1 < 8)))
  refine get_sets_other (s.enter k 1) ?_
  simp only [List.forall_mem_cons, List.not_mem_nil, false_imp_iff, implies_true, and_true, Field.key, Reg.SEQ_STAT_state,
    Reg.FC_FW_DID_v, Reg.CLE_STAT_fe_timer, Reg.SEQ_CATCH_STAT_result, Reg.SEQ_CATCH_STAT_probes, Reg.FC_STAT_fw_active]
  omega

theorem get_enterCatch_result (s : Chip) (k : Nat) : (s.enterCatch k).get (Reg.SEQ_CATCH_STAT_result k) = 1 := by
  rw [enterCatch_eq]
  refine (clearEngines_spares _ _ noList_result).1.trans ?_
  refine get_sets_mem (v := 1) (s.enter k 1) (by simp) ?_
  simp only [List.map_cons, List.map_nil, List.pairwise_cons, List.forall_mem_cons, List.not_mem_nil, false_imp_iff, implies_true,
    and_true, Field.key, Reg.FC_FW_DID_v, Reg.CLE_STAT_fe_timer, Reg.SEQ_CATCH_STAT_result, Reg.SEQ_CATCH_STAT_probes,
    Reg.FC_STAT_fw_active, List.Pairwise.nil]
  omega

theorem now_enter (s : Chip) (k st : Nat) : (s.enter k st).now = s.now :=
  ((enter_inside (M := 1708354) rfl (.refl s _)) .now rfl).symm

/-- What the cluster carries into CATCH. -/
theorem cluster_enterCatch (hs : s.Shaped) (hk : k < 4) : (s.enterCatch k).cluster k = { (s.enter k 1).cluster k with
    probes := [], lowProbes := 0, lastProbe := none, lock := none, track := none, catchAt := s.now, vPrev := 0, tqAtLim := false } := by
  rw [enterCatch_eq, cluster, (clearEngines_spares _ _ (noList_state (k := k))).2, ← now_enter s k 1]
  refine nth_updNth_self _ ?_
  change k < (s.enter k 1).cl.length
  rwa [length_enter hs]

end Chip

end Sys2Proof.Machine
end

section
/-! SUPPORT. RUN in IDLE and HALTED, in SAFE and in DECEL; O31 assembled. -/

namespace Sys2Proof.Machine

namespace Chip

variable {s : Chip} {k : Nat}

theorem settle_clState (s : Chip) (k : Nat) : s.settle.clState k = s.clState k := settle_get ..

theorem settle_cluster (s : Chip) (k : Nat) : s.settle.cluster k = s.cluster k := by rw [cluster, settle_cl, cluster]

theorem startRun_motor (h : s.motorType k = true) : s.startRun k = (s.setHeld k 0).enterCatch k := by
  rw [startRun, if_neg]
  simp only [motorType, Bool.and_eq_true, decide_eq_true_eq] at h
  omega

theorem startRun_converter (h : (s.topo k).type = 5) : s.startRun k = s.bcmStart k := if_pos h

theorem setHeld_shaped (hs : s.Shaped) (code : Nat) : (s.setHeld k code).Shaped := setHeld_shape (.refl s) hs

/-- Type 5 with a legal Hall state. -/
theorem bcmStart_legal {n : Nat} (hn : s.posOf k = some n) (hl : legalHall (s.get (Reg.POS_STAT_hall n)) = true) :
    s.bcmStart k = (((s.setHeld k 0).enter k 2).set (Reg.FC_STAT_mode k) 1).modCl k fun c => { c with startGates := true } := by
  simp [bcmStart, hn, hl]

theorem bcmStart_runs (hk : k < 4) {n : Nat} (hn : s.posOf k = some n) (hl : legalHall (s.get (Reg.POS_STAT_hall n)) = true) :
    (s.bcmStart k).clState k = 2 ∧ (s.bcmStart k).get (Reg.FC_STAT_mode k) = 1 := by
  rw [bcmStart_legal hn hl]
  generalize ht : (s.setHeld k 0).enter k 2 = t
  have hstate : t.clState k = 2 := ht ▸ clState_enter hk (by decide)
  have hne : (Reg.SEQ_STAT_state k).key ≠ (Reg.FC_STAT_mode k).key := by
    simp only [Field.key, Reg.SEQ_STAT_state, Reg.FC_STAT_mode]
    omega
  exact ⟨(t.get_set_other hne 1).trans hstate, t.get_set_self (Reg.FC_STAT_mode k) 1⟩

theorem bcmStart_waits (h : ∀ n, s.posOf k = some n → legalHall (s.get (Reg.POS_STAT_hall n)) = false) :
    s.bcmStart k = s.setHeld k 1 := by
  unfold bcmStart
  split
  next n hn => simp [h n hn]
  next => rfl

/-- A RUN request held: it waits, and the state stays. -/
theorem held_noted (hs : s.Shaped) (k : Fin 4) : (((s.setHeld k 1).noted k 1).settle.cluster k).held = 1 ∧
    ((s.setHeld k 1).noted k 1).settle.clState k = s.clState k := by
  rw [settle_cluster, settle_clState, noted_clState, clState_setHeld, cluster_noted (length_setHeld s k 1 ▸ hs.cl_lt k)]
  exact ⟨held_setHeld (hs.cl_lt k) 1, rfl⟩

end Chip

section
variable {s : State} {k : Fin 4} (hd : s.chip.pwr.dieReset = false) (hs : s.chip.Shaped)
  (hlent : s.chip.on (Reg.SEQ_STAT_lent k) = false) (htakes : s.chip.takes (0x40000000 + 0x10000 * k.val) = true)
  (hfall : (s.chip.cluster k).fallDue = false)

omit hlent htakes hfall hd hs in
theorem runRequest_inside (s : Chip) (k : Nat) : s.Inside (Part.mask [.regs, .free, .log, .pwr, .cl, .adc, .pos, .cle, .slice, .isl, .safe])
    ((s.reqRun k).noted k 1) :=
  Chip.modCl_inside (M := 1814866) rfl (Chip.reqRun_inside (M := 1814866) rfl (.refl s _))

include hd hlent htakes hfall

theorem requestUnknown_completes {code : Fin 16} (hcode : 8 < code.val) : Completes (.requestUnknown k code) s
    [Reg.SEQ_FLAGS_refused k, Reg.SEQ_FAULT_code k, Reg.SEQ_FAULT_class k, Reg.SEQ_FLAGS_fault k] [.log, .cl]
    (fun t => t.get (Reg.SEQ_FLAGS_refused k) = 1 ∧ t.get (Reg.SEQ_FAULT_code k) = 0x0510 ∧
      t.cl = updNth (fun x => { x with reqNow := code, refNow := some (s.chip.on (Reg.SEQ_FLAGS_refused k)) }) k s.chip.cl) :=
  refused_completes hd (exec_requestUnknown hlent htakes hfall hcode) rfl

theorem runRequest_refused (h : s.chip.runRefusal k ≠ 0 ∨ s.chip.clState k = 1 ∨ s.chip.clState k = 2) :
    Completes (.runRequest k) s
      [Reg.SEQ_FLAGS_refused k, Reg.SEQ_FAULT_code k, Reg.SEQ_FAULT_class k, Reg.SEQ_FLAGS_fault k] [.log, .cl]
      (fun t => t.get (Reg.SEQ_FLAGS_refused k) = 1 ∧ t.get (Reg.SEQ_FAULT_code k) = 0x0510 ∧
        t.cl = updNth (fun x => { x with reqNow := 1, refNow := some (s.chip.on (Reg.SEQ_FLAGS_refused k)) }) k s.chip.cl) := by
  obtain ⟨why, hwhy⟩ := Chip.reqRun_refused h
  exact refused_completes hd (exec_runRequest hlent htakes hfall) (congrArg (fun c : Chip => c.noted k 1) hwhy)

section
variable (hwhy : s.chip.runRefusal k = 0)
include hs hwhy

theorem runRequest_safe (hst : s.chip.clState k = 4) : Completes (.runRequest k) s [Reg.SEQ_STAT_held_req k] [.cl] (fun t =>
    (t.cluster k).standing = true ∧ t.get (Reg.SEQ_STAT_held_req k) = 1) := by
  refine completes_of_act (exec_runRequest hlent htakes hfall) hd ?_ ?_ <;> rw [Chip.reqRun_safe hwhy hst]
  · exact ((Chip.Frame.setHeld ..).trans (.setStanding ..)).trans (.modCl _ _ _ _ (.head _))
  · have hk : k.val < (s.chip.setHeld k 0).cl.length := Chip.length_setHeld s.chip k 0 ▸ hs.cl_lt k
    rw [Chip.settle_cluster, Chip.settle_get, Chip.noted_get, Chip.cluster_noted ((updNth_length ..).symm ▸ hk)]
    exact ⟨Chip.standing_setStanding hk true, Chip.get_setStanding ..⟩

theorem runRequest_held (hq : s.chip.quiet k = true) (hstart : s.chip.startDone k = false) :
    Completes (.runRequest k) s [Reg.SEQ_STAT_held_req k] [.cl] (fun t =>
      (t.cluster k).held = 1 ∧ t.get (Reg.SEQ_STAT_held_req k) = 1) := by
  have hrun : s.chip.reqRun k = s.chip.setHeld k 1 := (Chip.reqRun_quiet hwhy hq).trans (if_neg (Bool.eq_false_iff.1 hstart))
  refine completes_of_act (exec_runRequest hlent htakes hfall) hd ?_ ?_ <;> rw [hrun]
  · exact (Chip.Frame.setHeld ..).trans (.modCl _ _ _ _ (.head _))
  · refine ⟨(Chip.held_noted hs k).1, ?_⟩
    rw [Chip.settle_get, Chip.noted_get, Chip.get_setHeld_run]

section
variable (hq : s.chip.quiet k = true) (hstart : s.chip.startDone k = true)
include hq hstart

theorem runRequest_catch (hm : s.chip.motorType k = true) :
    Touches (.runRequest k) s [.regs, .free, .log, .pwr, .cl, .adc, .pos, .cle, .slice, .isl, .safe] (fun t =>
      t.clState k = 1 ∧ (t.cluster k).catchAt = s.chip.now ∧ (t.cluster k).held = 0 ∧
        t.get (Reg.SEQ_CATCH_STAT_result k) = 1) := by
  have hrun : s.chip.reqRun k = (s.chip.setHeld k 0).enterCatch k :=
    (Chip.reqRun_quiet hwhy hq).trans ((if_pos hstart).trans (Chip.startRun_motor hm))
  refine touches_of_act (exec_runRequest hlent htakes hfall) hd (runRequest_inside s.chip k) ?_
  have hs' := Chip.setHeld_shaped (k := k) hs 0
  have hk := Chip.Shaped.cl_lt (Chip.enterCatch_shape (p2 := k) (.refl _) hs') k
  rw [hrun, Chip.settle_clState, Chip.settle_cluster, Chip.settle_get, Chip.noted_clState, Chip.noted_get, Chip.cluster_noted hk,
    Chip.cluster_enterCatch hs' k.isLt]
  exact ⟨Chip.clState_enterCatch k.isLt, rfl, Chip.held_enter k.isLt 1 (Chip.held_setHeld (hs.cl_lt k) 0),
    Chip.get_enterCatch_result ..⟩

theorem runRequest_converter (htype : (s.chip.topo k).type = 5) :
    Touches (.runRequest k) s [.regs, .free, .log, .pwr, .cl, .adc, .pos, .cle, .slice, .isl, .safe] (fun t =>
      (s.chip.posOf k = none → (t.cluster k).held = 1 ∧ t.clState k = s.chip.clState k) ∧
      ∀ n ∈ (s.chip.posOf k).toList, if Chip.legalHall (s.chip.get (Reg.POS_STAT_hall n)) = true
        then t.clState k = 2 ∧ t.get (Reg.FC_STAT_mode k) = 1
        else (t.cluster k).held = 1 ∧ t.clState k = s.chip.clState k) := by
  have hrun : s.chip.reqRun k = s.chip.bcmStart k :=
    (Chip.reqRun_quiet hwhy hq).trans ((if_pos hstart).trans (Chip.startRun_converter htype))
  refine touches_of_act (exec_runRequest hlent htakes hfall) hd (runRequest_inside s.chip k) ?_
  rw [hrun]
  refine ⟨fun hnone => ?_, fun n hn => ?_⟩
  · rw [Chip.bcmStart_waits fun n hn => by rw [hnone] at hn; cases hn]
    exact Chip.held_noted hs k
  · have hn := Option.mem_toList.1 hn
    split
    next hl =>
      rw [Chip.settle_clState, Chip.settle_get]
      exact Chip.bcmStart_runs k.isLt hn hl
    next hl =>
      rw [Chip.bcmStart_waits fun m hm => by rw [← Option.some.inj (hn.symm.trans hm)]; exact Bool.eq_false_iff.2 hl]
      exact Chip.held_noted hs k

end

omit hs in
theorem runRequest_decel (hst : s.chip.clState k = 3) :
    Touches (.runRequest k) s [.regs, .free, .log, .pwr, .cl, .adc, .pos, .cle, .slice, .isl, .safe] (fun t =>
      t.clState k = 2 ∧ t.get (Reg.FC_TQ_REF_v k) = s.chip.get (Reg.FC_TQ_REF_v k)) := by
  refine touches_of_act (exec_runRequest hlent htakes hfall) hd (runRequest_inside s.chip k) ?_
  rw [Chip.reqRun_decel hwhy hst, Chip.settle_clState, Chip.settle_get, Chip.noted_clState, Chip.noted_get]
  refine ⟨Chip.clState_enter k.isLt (by decide), ?_⟩
  refine ((Chip.Leaves.refl _).enter k.isLt).get _ (Chip.torqueRef_lasting k.isLt) |>.trans ((Chip.Frame.setHeld ..).1 _ ?_)
  simp only [List.forall_mem_cons, List.not_mem_nil, false_imp_iff, implies_true, and_true, Field.key, Reg.FC_TQ_REF_v,
    Reg.SEQ_STAT_held_req]
  omega

end

end

/-- Settles O31, one lemma per clause. -/
theorem runRequests : Obligations.RunRequests := by
  unfold Obligations.RunRequests
  intro s k code hd hs hlent htakes hfall
  exact ⟨requestUnknown_completes hd hlent htakes hfall, runRequest_refused hd hlent htakes hfall, fun hwhy =>
    ⟨runRequest_safe hd hs hlent htakes hfall hwhy, runRequest_held hd hs hlent htakes hfall hwhy,
      runRequest_catch hd hs hlent htakes hfall hwhy, runRequest_converter hd hs hlent htakes hfall hwhy,
      runRequest_decel hd hlent htakes hfall hwhy⟩⟩

end Sys2Proof.Machine
end

section
/-! SUPPORT. What a fault, the demand of FLT_N and a release of the die leave alone. -/

namespace Sys2Proof.Machine.Chip.Leaves

variable {z s : Chip} {k : Nat}

theorem setStanding (hk : k < 4) (b : Bool) (h : z.Leaves s) : z.Leaves (s.setStanding k b) :=
  put (stirred_lasting hk (by simp [stirredFields])) _ (modCl (fun _ hc => hc) h)

theorem unrefuse (hk : k < 4) (h : z.Leaves s) : z.Leaves (s.unrefuse k) := by
  unfold Chip.unrefuse
  split
  · exact h
  next b _ =>
    have hput : z.Leaves ((s.modCl k fun c => { c with refNow := none }).put (Reg.SEQ_FLAGS_refused k) b) :=
      put (stirred_lasting hk (by simp [stirredFields])) _ (modCl (fun _ hc => hc) h)
    exact hput.unrecord

theorem stand (hk : k < 4) (h : z.Leaves s) (code inst : Nat) (latch : Bool) : z.Leaves (s.stand k code inst latch) := by
  unfold Chip.stand
  extract_lets s1 lt s2 s3 s4
  have h1 : z.Leaves s1 := modCl (fun _ hc => hc) (.ite h (h.unrefuse hk))
  clear_value lt s1
  have h2 : z.Leaves s2 := h1.modCl fun _ hc => hc
  clear_value s2
  have h3 : z.Leaves s3 := put (stirred_lasting hk (by simp [stirredFields])) _ (.ite (h2.setStanding hk _) h2)
  clear_value s3
  have h4 : z.Leaves s4 := .ite h3 (h3.enter hk)
  exact .ite (h4.refreshHold hk) (h4.demandBegins hk)

theorem fall (hk : k < 4) (h : z.Leaves s) (code cls inst : Nat) : z.Leaves (s.fall k code cls inst) := by
  unfold Chip.fall
  extract_lets s1
  have h1 : z.Leaves s1 := by
    unfold s1
    refine .ite ?_ h
    split
    · exact h.set (stirred_lasting hk (by simp [stirredFields])) _
    · exact h
  exact h1.stand hk ..

theorem faultAll {ks : List Nat} (hks : ∀ k ∈ ks, k < 4) {code cls : Nat} (hcls : cls < 3) (h1 : code ≠ 0x0E13)
    (h2 : code ≠ 0x0E10) (h : z.Leaves s) (inst data : Nat) : z.Leaves (s.faultAll code cls inst ks data) := by
  refine (h.record hcls h1 h2).each fun k hk t ht => (ht.sets ?_).fall (hks k hk) ..
  have hf : ∀ f ∈ stirredFields k, lasting f.key = false := fun f hf => stirred_lasting (hks k hk) hf
  simp only [List.forall_mem_cons, List.not_mem_nil, false_imp_iff, implies_true, and_true]
  exact ⟨hf _ (by simp [stirredFields]), hf _ (by simp [stirredFields]), hf _ (by simp [stirredFields])⟩

theorem allHiz (h : z.Leaves s) : z.Leaves s.allHiz := by
  refine h.each fun n hn t ht => .ite ht (ht.put ?_ _)
  have all : ∀ n < 16, lasting (Reg.PWM_S_STAT_hiz n).key = false := by decide
  exact all n (List.mem_range.1 hn)

theorem fltDemand (h : z.Leaves s) : z.Leaves s.fltDemand := by
  unfold Chip.fltDemand
  extract_lets s1 s2
  have h1 : z.Leaves s1 := allHiz (h.sets (by decide))
  clear_value s1
  have h2 : z.Leaves s2 := h1.firstNote (by decide) (by decide) (by decide)
  clear_value s2
  exact faultAll (fun k hk => List.mem_range.1 (List.mem_filter.1 hk).1) (by decide) (by decide) (by decide) (h2.sets (by decide)) ..

theorem released (h : z.Leaves s) : z.Leaves s.released := by
  unfold Chip.released
  extract_lets t u
  have ht : z.Leaves t := h.same rfl rfl rfl
  have hu : z.Leaves u := .ite (ht.put (by decide) _) ht
  exact .ite hu.fltDemand hu

theorem tryRelease (h : z.Leaves s) : z.Leaves s.tryRelease := by
  rcases s.tryRelease_cases with he | he <;> rw [he]
  · exact h
  · exact h.released

end Sys2Proof.Machine.Chip.Leaves
end

section
/-! SUPPORT. The reset pin: low, high again, stuck, unmasked (R125 to R130). -/

namespace Sys2Proof.Machine

namespace Chip

variable {s : Chip}

theorem cfgCut_rstLow : s.cfgCut.cfg.rstLow = s.cfg.rstLow := by
  have hset (a : Nat) (l : List Byte) (t : Chip) : (t.setBytes a l).useFree.cfg = t.cfg :=
    (useFree_inside (M := 20) (by rfl) (setBytes_inside (by rfl) (.refl t _)) .cfg rfl).symm
  unfold cfgCut
  extract_lets u
  have hu : u.cfg.rstLow = s.cfg.rstLow := by
    unfold u
    split
    · rw [hset]
    · rfl
  clear_value u
  split <;> exact hu

theorem cut_rstLow : s.cut.cfg.rstLow = s.cfg.rstLow := by
  have hhw : s.hwCut.cfg = s.cfg := (hwCut_inside (M := 20) (by rfl) (.refl s _) .cfg rfl).symm
  have hled : s.cut.cfg = s.hwCut.cfgCut.cfg := (ledCut_inside (M := 20) (by rfl) (.refl s.hwCut.cfgCut _) .cfg rfl).symm
  rw [hled, cfgCut_rstLow, hhw]

theorem dieReset_rstLow (s : Chip) (causes : Nat) : (s.dieReset causes).cfg.rstLow = s.cfg.rstLow := by
  have h := s.cut_rstLow
  unfold dieReset
  extract_lets _ _ c
  rw [show s.cut = c from rfl] at h
  clear_value c
  exact h

/-- RST_N reads low, or high. -/
def pinAt (s : Chip) (low : Bool) : Chip := s.modCfg fun x => { x with rstLow := low }

theorem pinReset_down (s : Chip) : s.DieDown ((s.pinAt true).dieReset (2 ^ 5)) ∧
    ((s.pinAt true).dieReset (2 ^ 5)).cfg.rstLow = true :=
  ⟨⟨(s.pinAt true).dieReset_inReset _, (s.pinAt true).dieReset_fresh _⟩, (s.pinAt true).dieReset_rstLow _⟩

/-- The pin is high again, its count cleared. -/
def pinUp (s : Chip) : Chip :=
  (s.modCfg fun x => { x with rstLow := false, rstStuck := x.rstStuck && s.on Reg.CEL_STAT_rst_masked }).set Reg.CEL_RSTLOW_count 0

/-- The die is out of reset where nothing holds it. -/
theorem tryRelease_runs (hpin : s.pinHolds = false) (hrails : s.pwr.railsUp = true) (hrun : s.pwr.state = .run)
    (hsleep : s.pwr.sleep = .none) : s.tryRelease.pwr.dieReset = false := by
  unfold tryRelease
  rw [hpin, hrails, hrun, hsleep]
  cases hd : s.pwr.dieReset with
  | false => exact hd
  | true => exact s.released_power.dieReset

/-! ### The pin stuck -/

theorem mem_insertLog (q : List LogEntry) (e : LogEntry) : e ∈ insertLog q e := List.mem_append_right _ (.head _)

/-- A retention log that is not full takes an entry. -/
theorem retain_of_room (h : s.log.retention.length < 16) (e : LogEntry) : s.retain e =
    { s with log := { s.log with retention := insertLog s.log.retention e } }.set Reg.CEL_STAT_log_head
      ((s.get Reg.CEL_STAT_log_head + 1) % 16) := by
  have hroom : ¬ s.log.retention.length ≥ 16 := by omega
  simp only [retain, if_neg hroom]

/-- The pin has been low for ten seconds: the count is shown and the entry retained. -/
def pinStuck (s : Chip) : Chip :=
  let c := s.set Reg.CEL_RSTLOW_count (max 327680 (s.get Reg.CEL_RSTLOW_count))
  let e : LogEntry := ⟨0x0E10, 0, 0, 7, 0, c.stamp, 0, c.log.seq, c.get Reg.CEL_RSTLOW_count⟩
  let c := { c with log := { c.log with seq := (c.log.seq + 1) % 65536 } }
  (c.retain e).modCfg fun x => { x with rstStuck := true }

section
variable (hroom : s.log.retention.length < 16)
include hroom

theorem pinStuck_log : ∃ e : LogEntry, e.code = 0x0E10 ∧ s.pinStuck.log.retention = insertLog s.log.retention e := by
  unfold pinStuck
  extract_lets c e log d
  have hd : d.log.retention = s.log.retention := rfl
  refine ⟨e, rfl, ?_⟩
  clear_value e log d
  rw [retain_of_room (hd ▸ hroom), ← hd]
  rfl

theorem pinStuck_frame : s.Frame s.pinStuck [Reg.CEL_RSTLOW_count, Reg.CEL_STAT_log_head] [.log, .cfg] := by
  unfold pinStuck
  extract_lets c e log d
  have hd : s.Frame d [Reg.CEL_RSTLOW_count, Reg.CEL_STAT_log_head] [.log, .cfg] :=
    (Frame.set s _ _ _ (.head _)).trans (.log _ _ _ (.head _))
  have hret : d.log.retention = s.log.retention := rfl
  clear_value e log d
  rw [retain_of_room (hret ▸ hroom)]
  exact ((hd.trans (.log _ _ _ (.head _))).trans (.set _ _ _ _ (by simp))).trans (.cfg _ _ _ (by simp))

end

theorem pinStuck_rstStuck (s : Chip) : s.pinStuck.cfg.rstStuck = true := rfl

theorem pinStuck_acting (s : Chip) (a : Nat) : s.pinStuck.acting a = s.acting a := by
  have hpwr : s.pinStuck.pwr = s.pwr := by
    unfold pinStuck retain
    extract_lets
    split <;> rfl
  rw [acting, acting, hpwr]

theorem pinStuck_entry (hroom : s.log.retention.length < 16) :
    s.pinStuck.log.retention.length = s.log.retention.length + 1 ∧ ∃ e ∈ s.pinStuck.log.retention, e.code = 0x0E10 := by
  obtain ⟨e, hcode, hlog⟩ := pinStuck_log hroom
  rw [hlog]
  exact ⟨insertLog_length .., e, mem_insertLog .., hcode⟩

/-- A pin stuck low is masked, and what it alone held comes out of reset. -/
def pinMasked (s : Chip) : Chip := ((s.pinStuck.put Reg.CEL_STAT_rst_masked true).tryRelease).note 0x0E11 0 0

theorem pinMasked_leaves (s : Chip) : (s.pinStuck.put Reg.CEL_STAT_rst_masked true).Leaves s.pinMasked := by
  unfold pinMasked note
  exact (Leaves.refl _).tryRelease.record (code := 0x0E11) (cls := 0) (by decide) (by decide) (by decide)

/-- An entry of a code stays in the retention log. -/
theorem Leaves.entry {c d : Chip} (h : c.Leaves d) {code : Nat} (he : ∃ e ∈ c.log.retention, e.code = code) :
    ∃ e ∈ d.log.retention, e.code = code := by
  have hcode : code ∈ d.log.retention.map LogEntry.code := h.codes ▸ List.mem_map.2 he
  exact List.mem_map.1 hcode

end Chip

variable {s : State}

/-! ### RESET_PIN -/

theorem resetPin_ends (hmask : s.chip.on Reg.CEL_STAT_rst_masked = false) (hd : s.chip.pwr.dieReset = false) :
    Ends .resetPin s (fun t => s.chip.DieDown t ∧ t.cfg.rstLow = true) := by
  have hx : exec .resetPin s = s.actRaw fun c => (c.pinAt true).dieReset (2 ^ 5) := by
    change execResetPin s = _
    unfold execResetPin
    exact State.actRaw_congr ((if_neg (Bool.eq_false_iff.1 hmask)).trans (if_neg (Bool.eq_false_iff.1 hd)))
  obtain ⟨⟨hdown, hfresh⟩, hlow⟩ := s.chip.pinReset_down
  refine ends_of_actRaw hx ⟨⟨?_, hfresh.settle⟩, ?_⟩
  · rw [Chip.settle_pwr]
    exact hdown
  · rw [Chip.settle_cfg]
    exact hlow

theorem resetPin_completes (h : s.chip.on Reg.CEL_STAT_rst_masked = true ∨ s.chip.pwr.dieReset = true) :
    Completes .resetPin s [] [.cfg] (fun t => t.cfg.rstLow = true) := by
  have he : ∃ f : CfgS → CfgS, (∀ c, (f c).rstLow = true) ∧ exec .resetPin s = s.actRaw fun c => c.modCfg f := by
    change ∃ f : CfgS → CfgS, _ ∧ execResetPin s = _
    unfold execResetPin
    by_cases hmask : s.chip.on Reg.CEL_STAT_rst_masked = true
    · exact ⟨fun x => { x with rstLow := true }, fun _ => rfl, State.actRaw_congr (if_pos hmask)⟩
    · refine ⟨fun x => { x with rstLow := true, causeNext := setBit x.causeNext 5 }, fun _ => rfl, State.actRaw_congr ?_⟩
      exact (if_neg hmask).trans (if_pos (h.resolve_left hmask))
  obtain ⟨f, hf, hx⟩ := he
  refine completes_of_actRaw hx (.cfg _ _ _ (.head _)) ?_
  rw [Chip.settle_cfg]
  exact hf _

/-! ### RESET_PIN_RELEASE -/

section
variable (hlow : s.chip.cfg.rstLow = true)
include hlow

theorem exec_resetPinRelease : exec .resetPinRelease s =
    s.actRaw fun c => if c.on Reg.CEL_STAT_rst_masked then c.pinUp else c.pinUp.tryRelease := by
  change execResetPinRelease s = _
  unfold execResetPinRelease
  exact State.actRaw_congr (if_neg (by simp [hlow]))

theorem resetPinRelease_completes (hflt : s.chip.pwmG.fltLow = false) (hpin : s.chip.hw.sleepPin = false) :
    Completes .resetPinRelease s [Reg.CEL_RSTLOW_count] [.cfg, .pwr] (fun t => t.cfg.rstLow = false) := by
  have hup : s.chip.Frame s.chip.pinUp [Reg.CEL_RSTLOW_count] [.cfg, .pwr] :=
    (Chip.Frame.cfg _ _ _ (.head _)).trans (.set _ _ _ _ (.head _))
  have hrel : s.chip.pinUp.Frame s.chip.pinUp.tryRelease [Reg.CEL_RSTLOW_count] [.cfg, .pwr] := by
    rcases s.chip.pinUp.tryRelease_cases with he | he <;> rw [he]
    · exact .refl ..
    · rw [Chip.released_plain (s := s.chip.pinUp) hflt hpin]
      exact .pwr _ _ _ (by simp)
  refine completes_of_actRaw (exec_resetPinRelease hlow) (.ite _ hup (hup.trans hrel)) ?_
  rw [Chip.settle_cfg]
  split
  · rfl
  · rw [Chip.tryRelease_cfg]
    rfl

theorem resetPinRelease_touches :
    Touches .resetPinRelease s [.regs, .log, .pwr, .cfg, .cl, .slice, .isl, .safe] (fun t =>
      t.cfg.rstLow = false ∧ t.get Reg.CEL_RSTLOW_count = 0 ∧
      (s.chip.on Reg.CEL_STAT_rst_masked = false → s.chip.pwr.railsUp = true → s.chip.pwr.state = .run →
        s.chip.pwr.sleep = .none → t.pwr.dieReset = false)) := by
  refine touches_of_inside_raw (exec_resetPinRelease hlow) (fun t h => execResetPinRelease_inside (by rfl) h) ?_
  have hcount : s.chip.pinUp.get Reg.CEL_RSTLOW_count = 0 := Chip.get_set_self _ _ 0
  rw [Chip.settle_cfg, Chip.settle_get, Chip.settle_pwr]
  cases hmask : s.chip.on Reg.CEL_STAT_rst_masked with
  | true => exact ⟨rfl, hcount, nofun⟩
  | false =>
    have hleave := (Chip.Leaves.refl s.chip.pinUp).tryRelease
    refine ⟨?_, (hleave.get _ (by decide)).trans hcount, fun _ hrails hrun hsleep => ?_⟩
    · exact congrArg CfgS.rstLow s.chip.pinUp.tryRelease_cfg
    · exact Chip.tryRelease_runs (s := s.chip.pinUp) rfl hrails hrun hsleep

end

/-! ### RESET_STUCK -/

section
variable (hlow : s.chip.cfg.rstLow = true) (hnew : s.chip.cfg.rstStuck = false)
  (hmask : s.chip.on Reg.CEL_STAT_rst_masked = false) (hdormant : s.chip.pwr.state ≠ .dormant) (hoff : s.chip.pwr.state ≠ .off)
  (hroom : s.chip.log.retention.length < 16)
include hlow hnew hmask hdormant hoff

theorem exec_resetStuck : exec .resetStuck s =
    s.actRaw fun c => if hasBit (c.pinStuck.acting 0x41A00804) 2 then c.pinMasked else c.pinStuck := by
  change execResetStuck s = _
  unfold execResetStuck
  exact State.actRaw_congr (if_neg (by simp [hlow, hnew, hmask, hdormant, hoff]))

include hroom

theorem resetStuck_unmasked (hacts : hasBit (s.chip.acting 0x41A00804) 2 = false) :
    Completes .resetStuck s [Reg.CEL_RSTLOW_count, Reg.CEL_STAT_log_head] [.log, .cfg] (fun t =>
      t.cfg.rstStuck = true ∧ t.log.retention.length = s.chip.log.retention.length + 1 ∧
      ∃ e ∈ t.log.retention, e.code = 0x0E10) := by
  have hx : exec .resetStuck s = s.actRaw fun c => c.pinStuck := (exec_resetStuck hlow hnew hmask hdormant hoff).trans
    (State.actRaw_congr (if_neg (by rw [Chip.pinStuck_acting, hacts]; decide)))
  refine completes_of_actRaw hx (Chip.pinStuck_frame hroom) ?_
  rw [Chip.settle_cfg, Chip.settle_log]
  exact ⟨rfl, Chip.pinStuck_entry hroom⟩

theorem resetStuck_masked (hacts : hasBit (s.chip.acting 0x41A00804) 2 = true) :
    Touches .resetStuck s [.regs, .log, .pwr, .cfg, .cl, .slice, .isl, .safe]
      (fun t => t.cfg.rstStuck = true ∧ t.get Reg.CEL_STAT_rst_masked = 1 ∧ ∃ e ∈ t.log.retention, e.code = 0x0E10) := by
  have hx : exec .resetStuck s = s.actRaw fun c => c.pinMasked := (exec_resetStuck hlow hnew hmask hdormant hoff).trans
    (State.actRaw_congr (if_pos (by rw [Chip.pinStuck_acting, hacts])))
  refine touches_of_inside_raw hx (fun t h => execResetStuck_inside (by rfl) h) ?_
  have hleave := s.chip.pinMasked_leaves
  rw [Chip.settle_cfg, Chip.settle_get, Chip.settle_log]
  refine ⟨?_, (hleave.get _ (by decide)).trans (Chip.get_put_self _ _ _ (by decide)), ?_⟩
  · rw [Chip.pinMasked, Chip.note_cfg, Chip.tryRelease_cfg]
    exact s.chip.pinStuck_rstStuck
  · exact hleave.entry (Chip.pinStuck_entry hroom).2

end

/-! ### RST_UNMASKED -/

theorem rstUnmasked_completes (hmask : s.chip.on Reg.CEL_STAT_rst_masked = true) (hlow : s.chip.cfg.rstLow = false)
    (hdormant : s.chip.pwr.state ≠ .dormant) (hoff : s.chip.pwr.state ≠ .off) :
    Completes .rstUnmasked s [Reg.CEL_STAT_rst_masked] [.cfg, .log] (fun t =>
      t.get Reg.CEL_STAT_rst_masked = 0 ∧ t.cfg.rstStuck = false) := by
  have hx : exec .rstUnmasked s = s.actRaw fun c =>
      ((c.put Reg.CEL_STAT_rst_masked false).modCfg fun x => { x with rstStuck := false }).note 0x0E12 0 0 := by
    change execRstUnmasked s = _
    unfold execRstUnmasked
    exact State.actRaw_congr (if_neg (by simp [hmask, hlow, hdormant, hoff]))
  refine completes_of_actRaw hx ?_ ?_
  · exact ((Chip.Frame.put _ _ _ _ (.head _)).trans (.cfg _ _ _ (.head _))).trans
      (.note _ _ _ _ (by simp) (by decide) (by decide))
  · rw [Chip.settle_get, Chip.settle_cfg, Chip.get_note _ (by decide) (by decide), Chip.note_cfg]
    exact ⟨s.chip.get_put_self Reg.CEL_STAT_rst_masked false (by decide), rfl⟩

/-- Settles O24, one lemma per clause. -/
theorem resetPinHoldsDie : Obligations.ResetPinHoldsDie := by
  unfold Obligations.ResetPinHoldsDie
  intro s
  exact ⟨resetPin_ends, resetPin_completes, fun hlow => ⟨resetPinRelease_completes hlow, resetPinRelease_touches hlow⟩,
    fun hlow hnew hmask hdormant hoff hroom => ⟨resetStuck_unmasked hlow hnew hmask hdormant hoff hroom,
      resetStuck_masked hlow hnew hmask hdormant hoff hroom⟩, rstUnmasked_completes⟩

end Sys2Proof.Machine
end

section
/-! SUPPORT. What an image check reads, and the slots of the start: a word of UNITCFG outside the configuration block leaves the image
in force alone (R146). -/

namespace Sys2Proof.Machine

/-- No word of an image's UNITCFG lies in the configuration block. -/
def Image.NoConfig (im : Image) : Prop :=
  ∀ u ∈ im.unitcfg, ∀ i < u.words.length, (u.addr + 4 * i) / 0x100000 ≠ 0x41B

namespace Chip

variable {s t z : Chip}

/-! ### What an image check reads -/

theorem readImage_congr (h : t.mem = s.mem) (b : Nat) : t.readImage b = s.readImage b := by
  have hmem (c : Chip) : c.readImage b = ({ mem := c.mem } : Chip).readImage b := rfl
  rw [hmem, hmem s, h]

theorem imageCheck_congr (h : t.mem = s.mem) (hf : t.cfg.fuses = s.cfg.fuses) (b : Nat) : t.imageCheck b = s.imageCheck b := by
  have hread (c : Chip) : c.imageCheck b = ({ mem := c.mem, cfg := { fuses := c.cfg.fuses } } : Chip).imageCheck b := rfl
  rw [hread, hread s, h, hf]

theorem of_ite_eq_zero {c : Prop} [Decidable c] {n m : Nat} (h : (if c then n + 1 else m) = 0) : m = 0 := by
  split at h
  · cases h
  · exact h

/-- An image that passes every check has passed that of its UNITCFG. -/
theorem checkUnits_of_imageCheck {b : Nat} (h : s.imageCheck b = 0) : s.checkUnits (s.readImage b) = true := by
  unfold imageCheck at h
  extract_lets base im n sig slot key ser at h
  by_contra hno
  have hunits : s.checkUnits im = false := Bool.eq_false_iff.2 hno
  rw [hunits] at h
  iterate 12 replace h := of_ite_eq_zero h
  cases h

theorem noConfig_of_imageCheck {b : Nat} (h : s.imageCheck b = 0) : (s.readImage b).NoConfig := by
  intro u hu i hi
  have hall := (Bool.and_eq_true_iff.1 (checkUnits_of_imageCheck h)).2
  have htarget := List.all_eq_true.1 (List.all_eq_true.1 hall u hu) i (List.mem_range.2 hi)
  simp only [unitTarget, Bool.and_eq_true, bne_iff_ne] at htarget
  exact htarget.1.2

/-! ### Slots -/

section
variable {M : Nat} (hM : Sub 2139094015 M)
include hM

/-- A word outside the configuration block touches every part at most but the image in force. -/
theorem blockWrite_keepsImage (h : z.Inside M s) (r : Requester) {a : Nat} (ha : a / 0x100000 ≠ 0x41B) (d : Nat) :
    z.Inside M (s.blockWrite r a d) := by
  have hfab : z.Inside M { s with fab := insertAt a d s.fab } :=
    h.step fun p hp => by cases p <;> first | rfl | exact hM.no rfl hp
  unfold blockWrite
  dsimp only
  rw [if_neg (show ¬ a / 0x100000 = 0x41B from ha)]
  exact .ite (clusterWrite_inside (hM.up rfl) h) (.ite (pwmWrite_inside (hM.up rfl) h) (.ite (islWrite_inside (hM.up rfl) h)
    (.ite (adcWrite_inside (hM.up rfl) h) (.ite (posWrite_inside (hM.up rfl) h) (.ite (safeWrite_inside (hM.up rfl) h)
    (.ite (chmWrite_inside (hM.up rfl) h) (.ite (.ite (canBlockWrite_inside (hM.up rfl) h) (porchWrite_inside (hM.up rfl) h))
    (.ite (.ite (ringBlockWrite_inside (hM.up rfl) h) (genericWrite_inside (hM.up rfl) h)) (.ite (hwWrite_inside (hM.up rfl) h)
    (.ite (coreWrite_inside (hM.up rfl) h) (.ite (powerWrite_inside (hM.up rfl) h) (.ite hfab (.ite (hole_inside (hM.up rfl) h)
    (gpioWrite_inside (hM.up rfl) h))))))))))))))

theorem unitWord_keepsImage (h : z.Inside M s) {a : Nat} (ha : a / 0x100000 ≠ 0x41B) (d : Nat) : z.Inside M (s.unitWord a d) := by
  have hblock : z.Inside M (s.blockWrite .engine a d) := blockWrite_keepsImage hM h _ ha d
  have hword : z.Inside M (s.configWord a d) := configWord_inside (hM.up rfl) h
  exact .ite (hostwrWrite_inside (hM.up rfl) h) (.ite hblock (.ite (configWrite_inside (hM.up rfl) h)
    (.ite (refreshHolds_inside (hM.up rfl) hword) (.ite hword hblock))))

theorem unitWords_keepsImage (h : z.Inside M s) (p : Nat → Bool) {a : Nat} {l : List Nat}
    (ha : ∀ i < l.length, (a + 4 * i) / 0x100000 ≠ 0x41B) : z.Inside M (unitWords p a l s) := by
  induction l generalizing a s with
  | nil => exact h
  | cons d l ih =>
    refine ih (.ite (unitWord_keepsImage hM h (ha 0 (by simp)) d) h) fun i hi => ?_
    have hnext := ha (i + 1) (by simpa using hi)
    rwa [show a + 4 * (i + 1) = a + 4 + 4 * i by omega] at hnext

/-- Phases 3 and 4 of a slot. -/
theorem slotRest_keepsImage (h : z.Inside M s) (hu : s.img.NoConfig) (g : Nat) (o : SlotOutcome) (also : Nat → Bool) :
    z.Inside M (s.slotRest g o also).1 := by
  unfold slotRest
  extract_lets +onlyGivenNames bad
  clear_value bad
  split
  · dsimp only
    exact slotFail_inside (hM.up rfl) h
  · dsimp only
    exact slotFail_inside (hM.up rfl) h
  · extract_lets +onlyGivenNames s1
    have h1 : z.Inside M s1 ∧ s.Inside 2139094015 s1 :=
      ⟨.each (fabricLoad_inside (hM.up rfl) h) fun _ _ ht => copySection_inside (hM.up rfl) ht,
        .each (fabricLoad_inside (by rfl) (.refl s _)) fun _ _ ht => copySection_inside (by rfl) ht⟩
    clear_value s1
    extract_lets +onlyGivenNames s2
    have h2 : z.Inside M s2 ∧ s.Inside 2139094015 s2 :=
      ⟨.each h1.1 fun _ _ ht => modAge_inside (hM.up rfl) (set_inside (hM.up rfl) ht),
        .each h1.2 fun _ _ ht => modAge_inside (by rfl) (set_inside (by rfl) ht)⟩
    clear_value s2
    have himg : s2.img.NoConfig := by
      have heq : s.img = s2.img := h2.2 .img rfl
      rwa [← heq]
    extract_lets +onlyGivenNames s3
    have h3 : z.Inside M s3 := by
      have hopen : z.Inside M (s2.regionOpen g) := regionOpen_inside (hM.up rfl) h2.1
      exact forEach_preserves (P := fun t => z.Inside M t)
        (fun u hu t ht => unitWords_keepsImage hM ht _ fun i hi => himg u hu i hi) hopen
    clear_value s3
    extract_lets +onlyGivenNames s4
    have h4 : z.Inside M s4 := regionUp_inside (hM.up rfl) h3
    clear_value s4
    extract_lets +onlyGivenNames pc
    clear_value pc
    extract_lets +onlyGivenNames s5
    have h5 : z.Inside M s5 := .each h4 fun _ _ ht => modHart_inside (hM.up rfl) ht
    clear_value s5
    dsimp only
    exact put_inside (hM.up rfl) h5

/-- A whole slot of the start. -/
theorem regionSlot_keepsImage (h : z.Inside M s) (hu : s.img.NoConfig) (g : Nat) (o : SlotOutcome) (late : Bool) :
    z.Inside M (s.regionSlot g o late) := by
  have htests {M : Nat} (hM : Sub 2139094015 M) {z : Chip} (h : z.Inside M s) : z.Inside M ((s.isoAssert g).slotTests g o).1 :=
    slotTests_inside (hM.up rfl) (isoAssert_inside (hM.up rfl) h)
  have himg : ((s.isoAssert g).slotTests g o).1.img.NoConfig := by
    have heq : s.img = ((s.isoAssert g).slotTests g o).1.img := htests (M := 2139094015) rfl (.refl s _) .img rfl
    rwa [← heq]
  unfold regionSlot
  exact .ite (slotRest_keepsImage hM (htests hM h) himg _ _ _) (htests hM h)

end

/-! ### Steps 5 to 9 -/

/-- A late bring-up that starts leaves the outcome of the start. -/
theorem lateStart_boot (s : Chip) (g : Nat) : (s.lateStart g).cfg.boot = s.cfg.boot := by
  unfold lateStart
  extract_lets r cfg t
  have ht : t.cfg.boot = s.cfg.boot := rfl
  clear_value t
  split
  · rw [← ht]
    exact congrArg CfgS.boot ((isoAssert_inside (M := 1048834) rfl (openGate_inside (by rfl) (.refl t _))) .cfg rfl).symm
  · rfl

/-- The regions brought up, the tests made, the handshakes done: what follows says that the start is done. -/
theorem bootRegions_done (hu : s.img.NoConfig) (o : BootOutcome) :
    (s.bootRegions o).cfg.boot = 1 ∧ (s.bootRegions o).img = s.img := by
  have hM : Sub 2139094015 2139094015 := by rfl
  unfold bootRegions
  extract_lets +onlyGivenNames m l s1 s2 s3 up s4 s5 s6 s7 s8 s9 s10
  have h2 : s.Inside 2139094015 s2 := .each (modPwr_inside (hM.up rfl) (.refl s _)) fun g t ht => put_inside (hM.up rfl) ht
  clear_value s2
  have h3 : s.Inside 2139094015 s3 := by
    refine .each h2 fun g t ht => regionSlot_keepsImage hM ht ?_ _ _ _
    have heq : s.img = t.img := ht .img rfl
    rwa [← heq]
  clear_value s3
  have h5 : s.Inside 2139094015 s5 := cmpTest_inside (hM.up rfl) (modCfg_inside (hM.up rfl) h3)
  clear_value s5
  have h6 : s.Inside 2139094015 s6 := .each h5 fun g t ht => diffTest_inside (hM.up rfl) ht
  clear_value s6
  have h8 : s.Inside 2139094015 s8 := sets_inside (hM.up rfl) (slotHandshake_inside (hM.up rfl) h6)
  clear_value s8
  clear_value up
  have hboot : s9.cfg.boot = 1 ∧ s9.img = s.img := by
    have happly := applyContactors_inside (M := 1048578) (p2 := false) rfl (.refl (s8.modCfg fun c => { c with boot := 1 }) _)
    exact ⟨congrArg CfgS.boot (happly .cfg rfl).symm, ((h8 .img rfl).trans (happly .img rfl)).symm⟩
  clear_value s9
  have h10 : s9.Inside 1773890 s10 := refreshHolds_inside (by rfl) (.each (.refl s9 _) fun k t ht => heldRun_inside (by rfl) ht)
  have hboot : s10.cfg.boot = 1 ∧ s10.img = s.img :=
    ⟨(congrArg CfgS.boot (h10 .cfg rfl).symm).trans hboot.1, (h10 .img rfl).symm.trans hboot.2⟩
  clear_value s10
  refine forEach_preserves (P := fun t : Chip => t.cfg.boot = 1 ∧ t.img = s.img) (fun g _ t ht => ?_) hboot
  split
  · exact ⟨(t.lateStart_boot g).trans ht.1, ((lateStart_inside (M := 1049346) rfl (.refl t _)) .img rfl).symm.trans ht.2⟩
  · exact ht

/-! ### Steps 1 to 4 -/

/-- The accepted bank's image is in force. -/
theorem bootAccept_img (s : Chip) (b : Nat) (trial : Bool) : (s.bootAccept b trial).img = s.readImage b := by
  have hM : Sub 526594 526594 := by rfl
  unfold bootAccept
  extract_lets +onlyGivenNames im s1 s2 s3 w w' req s4 s5 s6
  have h1 : s1.img = s.readImage b := rfl
  clear_value s1 im
  have h3 : s1.Inside 526594 s3 := sets_inside (hM.up rfl) (set_inside (hM.up rfl) (.refl s1 _))
  clear_value s3 s2 w w' req
  have h5 : s1.Inside 526594 s5 := showReq_inside (hM.up rfl) (modPwr_inside (hM.up rfl) (.ite (put_inside (hM.up rfl) h3) h3))
  clear_value s5
  have h6 : s1.Inside 526594 s6 := .each h5 fun g t ht => modRgn_inside (hM.up rfl) ht
  clear_value s6
  have hend : s1.Inside 526594 (forEach (List.range 4) (fun k t => t.safetyWords k) s6.markIslands) :=
    .each (markIslands_inside (hM.up rfl) h6) fun k t ht => safetyWords_inside (hM.up rfl) ht
  exact (hend .img rfl).symm.trans h1

/-- The start from an accepted bank. -/
theorem bootAccept_bootRegions {b : Nat} (h : s.imageCheck b = 0) (trial : Bool) (o : BootOutcome) :
    ((s.bootAccept b trial).bootRegions o).cfg.boot = 1 ∧ ((s.bootAccept b trial).bootRegions o).img = s.readImage b := by
  have himg := s.bootAccept_img b trial
  obtain ⟨hboot, hkeep⟩ := bootRegions_done (s := s.bootAccept b trial) (himg ▸ noConfig_of_imageCheck h) o
  exact ⟨hboot, hkeep.trans himg⟩

/-- A fault that ends the start: it stands by LATCH for every cluster, and the configuration, the regions and the memory stay. -/
theorem faultEvery_ends (hs : s.Shaped) (code data : Nat) :
    (s.faultEvery code 0 data).cfg = s.cfg ∧ (s.faultEvery code 0 data).rgn = s.rgn ∧ (s.faultEvery code 0 data).mem = s.mem ∧
      ∀ k : Fin 4, (s.faultEvery code 0 data).Latched k code := by
  have h : s.Inside 1708354 (s.faultEvery code 0 data) := faultEvery_inside (by rfl) (.refl s _)
  exact ⟨(h .cfg rfl).symm, (h .rgn rfl).symm, (h .mem rfl).symm, latched_faultEvery hs code 0 data⟩

theorem bootStepTwo_inside_self (s : Chip) : s.Inside 594 s.bootStepTwo := bootStepTwo_inside (by rfl) (.refl s _)

theorem bootStepTwo_mem (s : Chip) : s.bootStepTwo.mem = s.mem := (s.bootStepTwo_inside_self .mem rfl).symm

theorem bootStepTwo_rgn (s : Chip) : s.bootStepTwo.rgn = s.rgn := (s.bootStepTwo_inside_self .rgn rfl).symm

theorem bootStepTwo_fuses (s : Chip) : s.bootStepTwo.cfg.fuses = s.cfg.fuses := by
  unfold bootStepTwo
  extract_lets +onlyGivenNames causes f bit s1 s2 s3 s4 s5 st
  have h2 : s.Inside 66 s2 := .each (sets_inside (by rfl) (.refl s _)) fun _ t ht => record_inside (by rfl) ht
  clear_value s2
  have h4 : s.Inside 66 s4 := .each (.ite (note_inside (by rfl) h2) h2) fun _ t ht => note_inside (by rfl) ht
  have hfuses : s4.cfg.fuses = s.cfg.fuses := congrArg CfgS.fuses (h4 .cfg rfl).symm
  have h5 : s5.cfg.fuses = s.cfg.fuses := hfuses
  clear_value s5
  exact (congrArg CfgS.fuses ((newNonce_inside (M := 18) (by rfl) (sets_inside (by rfl) (.refl s5 _))) .cfg rfl).symm).trans h5

/-! ### The outcomes -/

/-- The start is over, by the outcome n. -/
def startOver (s : Chip) (n : Nat) (f : Field) (v : Nat) : Chip :=
  ((s.set f v).modCfg fun c => { c with boot := n }).modPwr fun p => { p with waking := false, latched := 0 }

theorem startOver_inside (s : Chip) (n : Nat) (f : Field) (v : Nat) : s.Inside 770 (s.startOver n f v) :=
  modPwr_inside (M := 770) (by rfl) (modCfg_inside (by rfl) (set_inside (by rfl) (.refl s _)))

theorem set_modCfg (s : Chip) (g : CfgS → CfgS) (f : Field) (v : Nat) : (s.modCfg g).set f v = (s.set f v).modCfg g := rfl

theorem startOver_rgn (s : Chip) (n : Nat) (f : Field) (v : Nat) : (s.startOver n f v).rgn = s.rgn :=
  (s.startOver_inside n f v .rgn rfl).symm

theorem startOver_mem (s : Chip) (n : Nat) (f : Field) (v : Nat) : (s.startOver n f v).mem = s.mem :=
  (s.startOver_inside n f v .mem rfl).symm

theorem startOver_boot (s : Chip) (n : Nat) (f : Field) (v : Nat) : (s.startOver n f v).cfg.boot = n := rfl

theorem startOver_shaped (hs : s.Shaped) (n : Nat) (f : Field) (v : Nat) : (s.startOver n f v).Shaped :=
  modPwr_shape (modCfg_shape (set_shape (.refl s))) hs

/-- A start that ends with a fault: its outcome, and the fault by LATCH for every cluster. -/
theorem startOver_fault (hs : s.Shaped) (n : Nat) (f : Field) (v code data : Nat) :
    ((s.startOver n f v).faultEvery code 0 data).cfg.boot = n ∧ ((s.startOver n f v).faultEvery code 0 data).rgn = s.rgn ∧
      ((s.startOver n f v).faultEvery code 0 data).mem = s.mem ∧
      ∀ k : Fin 4, ((s.startOver n f v).faultEvery code 0 data).Latched k code := by
  obtain ⟨hcfg, hrgn, hmem, hlatch⟩ := faultEvery_ends (startOver_shaped hs n f v) code data
  exact ⟨by rw [hcfg, startOver_boot], by rw [hrgn, startOver_rgn], by rw [hmem, startOver_mem], hlatch⟩

theorem bootRun_fuseBad_eq {o : BootOutcome} {w : Nat} (hw : o.fuseBad = some w) :
    s.bootRun o = (s.bootStepTwo.startOver 2 Reg.CFG_BOOT_STAT_step 2).faultEvery 0x0E25 0 w := by
  simp only [bootRun, hw, startOver]

theorem bootRun_fuseGood {o : BootOutcome} (h : o.fuseBad = none) : s.bootRun o = s.bootStepTwo.bootImage o := by
  simp only [bootRun, h]

/-- A start whose fuses fail ends at step 2. -/
theorem bootRun_fuseBad (hs : s.Shaped) {o : BootOutcome} (hbad : o.fuseBad ≠ none) :
    (s.bootRun o).cfg.boot = 2 ∧ (s.bootRun o).rgn = s.rgn ∧ (s.bootRun o).mem = s.mem ∧
      ∀ k : Fin 4, (s.bootRun o).Latched k 0x0E25 := by
  obtain ⟨w, hw⟩ := Option.ne_none_iff_exists'.1 hbad
  have hshape := bootStepTwo_shape (.refl s) hs
  rw [bootRun_fuseBad_eq hw, ← s.bootStepTwo_rgn, ← s.bootStepTwo_mem]
  exact startOver_fault hshape ..

/-- A start with good fuses ends with an image in force, or in recovery. -/
theorem bootImage_ends (hs : s.Shaped) (o : BootOutcome) :
    ((s.bootImage o).cfg.boot = 1 ∧ (s.bootImage o).img.present = true) ∨
      ((s.bootImage o).cfg.boot = 3 ∧ (s.bootImage o).rgn = s.rgn ∧ ∀ k : Fin 4, (s.bootImage o).Latched k 0x0E21) := by
  have hshape : (s.bankChoice o.trial).1.Shaped := bankChoice_shape (.refl s) hs
  have hrgn : (s.bankChoice o.trial).1.rgn = s.rgn := ((bankChoice_inside (M := 70) (by rfl) (.refl s _)) .rgn rfl).symm
  unfold bootImage
  generalize s.bankChoice o.trial = r at hshape hrgn
  obtain ⟨t, b, trial⟩ := r
  dsimp only at hshape hrgn ⊢
  have haccept {t : Chip} {b : Nat} (h : t.imageCheck b = 0) (trial : Bool) :
      ((t.bootAccept b trial).bootRegions o).cfg.boot = 1 ∧ ((t.bootAccept b trial).bootRegions o).img.present = true := by
    obtain ⟨hboot, himg⟩ := bootAccept_bootRegions h trial o
    exact ⟨hboot, himg ▸ rfl⟩
  by_cases h1 : t.imageCheck b = 0
  · rw [if_pos h1]
    exact .inl (haccept h1 trial)
  rw [if_neg h1]
  generalize hu : (t.set Reg.CFG_BOOT_STAT_reject (t.imageCheck b)).note 0x0E20 0 (t.imageCheck b + 256 * b) = u
  by_cases h2 : u.imageCheck (1 - b) = 0
  · rw [if_pos h2]
    exact .inl (haccept h2 false)
  rw [if_neg h2]
  generalize hv : u.sets [(Reg.CFG_BOOT_STAT_reject, u.imageCheck (1 - b)), (Reg.CFG_BOOT_STAT_recovery, 1),
    (Reg.CFG_BOOT_STAT_step, if u.imageCheck (1 - b) ≤ 5 then 3 else 4)] = v
  have hin : t.Inside 66 v := hv ▸ sets_inside (by rfl) (hu ▸ note_inside (by rfl) (set_inside (by rfl) (.refl t _)))
  have hshape' : v.Shaped := hv ▸ sets_shape (hu ▸ note_shape (set_shape (.refl t))) hshape
  have hrgn' : s.rgn = v.rgn := hrgn.symm.trans (hin .rgn rfl)
  generalize (if b = 0 then t.imageCheck b + 256 * u.imageCheck (1 - b) else u.imageCheck (1 - b) + 256 * t.imageCheck b) = data
  obtain ⟨hboot, hkeep, -, hlatch⟩ := startOver_fault hshape' 3 Reg.RING_STAT_node v.nodeNumber 0x0E21 data
  rw [set_modCfg, ← startOver]
  exact .inr ⟨hboot, hkeep.trans hrgn'.symm, hlatch⟩

end Chip

end Sys2Proof.Machine
end

section
/-! SUPPORT. BOOT_SEQUENCE and its outcomes (R132, R137, R152, R154). -/

namespace Sys2Proof.Machine

namespace Chip

variable {s : Chip}

/-- With no trial in the boot record and a preferred bank that passes every check, that bank's image is in force. -/
theorem bootImage_preferred (htrial : s.bootRec.trial = 0) (hcheck : s.imageCheck s.bootRec.pref = 0) (o : BootOutcome) :
    (s.bootImage o).cfg.boot = 1 ∧ (s.bootImage o).img = s.readImage s.bootRec.pref := by
  have hchoice : s.bankChoice o.trial = (s.showBoot, s.bootRec.pref, false) := by
    unfold bankChoice
    exact if_pos htrial
  have hshow : s.Inside 2 s.showBoot := showBoot_inside (by rfl) (.refl s _)
  have hmem : s.showBoot.mem = s.mem := (hshow .mem rfl).symm
  have hcheck' : s.showBoot.imageCheck s.bootRec.pref = 0 :=
    (imageCheck_congr hmem (congrArg CfgS.fuses (hshow .cfg rfl).symm) _).trans hcheck
  have hrun : s.bootImage o = (s.showBoot.bootAccept s.bootRec.pref false).bootRegions o := by
    unfold bootImage
    rw [hchoice]
    exact if_pos hcheck'
  rw [hrun, ← readImage_congr hmem]
  exact bootAccept_bootRegions hcheck' false o

end Chip

variable {s : State} {o : BootOutcome}

theorem bootSequence_idle (hd : s.chip.pwr.dieReset = false) (h : s.chip.pwr.locked = false ∨ s.chip.cfg.boot ≠ 0) :
    Completes (.bootSequence o) s [] [] (fun _ => True) := by
  refine completes_unchanged (f := fun c => if c.pwr.locked && c.cfg.boot == 0 then c.bootRun o else c) rfl hd (if_neg ?_)
  rcases h with h | h <;> simp [h]

section
variable (hlock : s.chip.pwr.locked = true) (hboot : s.chip.cfg.boot = 0)
include hlock hboot

theorem exec_bootSequence : exec (.bootSequence o) s = s.act fun c => c.bootRun o := by
  change execBootSequence o s = _
  unfold execBootSequence
  exact State.act_congr (if_pos (by simp [hlock, hboot]))

variable (hd : s.chip.pwr.dieReset = false)
include hd

theorem bootSequence_fuseBad (hs : s.chip.Shaped) (hbad : o.fuseBad ≠ none) :
    Ends (.bootSequence o) s (fun t => t.cfg.boot = 2 ∧ t.rgn = s.chip.rgn ∧ t.mem = s.chip.mem ∧
      ∀ k : Fin 4, t.Latched k 0x0E25) := by
  obtain ⟨hcode, hrgn, hmem, hlatch⟩ := Chip.bootRun_fuseBad hs hbad
  refine ends_of_act (exec_bootSequence hlock hboot) hd ?_
  rw [Chip.settle_cfg, Chip.settle_rgn, Chip.settle_mem]
  exact ⟨hcode, hrgn, hmem, fun k => Chip.settle_latched.2 (hlatch k)⟩

theorem bootSequence_fuseGood (hs : s.chip.Shaped) (hgood : o.fuseBad = none) :
    Ends (.bootSequence o) s (fun t => (t.cfg.boot = 1 ∧ t.img.present = true) ∨
      (t.cfg.boot = 3 ∧ t.rgn = s.chip.rgn ∧ ∀ k : Fin 4, t.Latched k 0x0E21)) := by
  have hends := Chip.bootImage_ends (Chip.bootStepTwo_shape (.refl s.chip) hs) o
  refine ends_of_act (exec_bootSequence hlock hboot) hd ?_
  rw [Chip.settle_cfg, Chip.settle_rgn, Chip.settle_img, Chip.bootRun_fuseGood hgood, ← s.chip.bootStepTwo_rgn]
  exact hends.imp_right fun ⟨hcode, hrgn, hlatch⟩ => ⟨hcode, hrgn, fun k => Chip.settle_latched.2 (hlatch k)⟩

theorem bootSequence_preferred (hgood : o.fuseBad = none) (htrial : s.chip.bootRec.trial = 0)
    (hcheck : s.chip.imageCheck s.chip.bootRec.pref = 0) :
    Ends (.bootSequence o) s (fun t => t.cfg.boot = 1 ∧ t.img = s.chip.readImage s.chip.bootRec.pref) := by
  have hmem := s.chip.bootStepTwo_mem
  have hrec := Chip.bootRec_congr hmem
  refine ends_of_act (exec_bootSequence hlock hboot) hd ?_
  rw [Chip.settle_cfg, Chip.settle_img, Chip.bootRun_fuseGood hgood, ← hrec, ← Chip.readImage_congr hmem]
  refine Chip.bootImage_preferred (by rw [hrec, htrial]) ?_ o
  rw [hrec, Chip.imageCheck_congr hmem s.chip.bootStepTwo_fuses, hcheck]

end

/-- Settles O26, one lemma per clause. -/
theorem startUpRuns : Obligations.StartUpRuns := by
  unfold Obligations.StartUpRuns
  intro s o hd hs
  exact ⟨bootSequence_idle hd, fun hlock hboot => bootSequence_fuseBad hlock hboot hd hs,
    fun hlock hboot => bootSequence_fuseGood hlock hboot hd hs, fun hlock hboot => bootSequence_preferred hlock hboot hd⟩

end Sys2Proof.Machine
end

section
/-! SUPPORT. The Larder's share of a cluster: what a word stored there does (R216, R218, R219). -/

namespace Sys2Proof.Machine

namespace Chip

variable {s : Chip} {k t : Nat}

/-! ### The way to the Larder -/

/-- The status bits of the two regions' clock gates. -/
abbrev clockFields : List Field := [Reg.CLK_STAT_rgn_a_gated, Reg.CLK_STAT_rgn_b_gated]

/-- An access opens its region's clock gate and changes nothing else. -/
theorem Frame.reachGate (s : Chip) (a : Nat) : s.Frame (s.reachGate a) clockFields [.pwr] := by
  have hopen (g : Nat) : s.Frame (s.openGate g) clockFields [.pwr] := by
    unfold Chip.openGate
    refine .ite s (.refl ..) ((Frame.put s _ _ _ ?_).trans (.pwr _ _ _ (.head _)))
    split <;> simp
  unfold Chip.reachGate
  split
  · exact .ite s (hopen _) (.refl ..)
  · exact .refl ..

theorem reachGate_mem (s : Chip) (a : Nat) : (s.reachGate a).mem = s.mem := ((Frame.reachGate s a).2 .mem (by decide)).symm

theorem reachGate_log (s : Chip) (a : Nat) : (s.reachGate a).log = s.log := ((Frame.reachGate s a).2 .log (by decide)).symm

theorem reachGate_cl (s : Chip) (a : Nat) : (s.reachGate a).cl = s.cl := ((Frame.reachGate s a).2 .cl (by decide)).symm

/-- A register of a cluster stands below the clock block. -/
theorem reachGate_get (s : Chip) (a : Nat) {f : Field} (h : f.key < Reg.CLK_STAT_rgn_a_gated.key) :
    (s.reachGate a).get f = s.get f := by
  refine (Frame.reachGate s a).1 f ?_
  simp only [List.forall_mem_cons, List.not_mem_nil, false_imp_iff, implies_true, and_true, Field.key, Reg.CLK_STAT_rgn_a_gated,
    Reg.CLK_STAT_rgn_b_gated] at h ⊢
  omega

theorem reachGate_ldrAct (hk : k < 4) (s : Chip) (a : Nat) : (s.reachGate a).ldrAct k t = s.ldrAct k t := by
  unfold ldrAct
  rw [reachGate_get]
  simp only [Field.key, Reg.SEQ_LDR_ACT_act, Reg.CLK_STAT_rgn_a_gated]
  omega

theorem reachGate_ageEn (hk : k < 4) (s : Chip) (a : Nat) :
    (s.reachGate a).on (Reg.CHM_C_CFG_age_en k) = s.on (Reg.CHM_C_CFG_age_en k) := by
  unfold on
  rw [reachGate_get]
  simp only [Field.key, Reg.CHM_C_CFG_age_en, Reg.CLK_STAT_rgn_a_gated]
  omega

/-! ### Words of the share -/

/-- The address of word w of copy c of cluster k's share. -/
abbrev shareWord (k c w : Nat) : Nat := 0x42000000 + 0x10000 * k + 0x8000 * c + 4 * w

section
variable {c w : Nat} (hk : k < 4) (hc : c < 2) (hw : w < 8192)
include hk hc hw

/-- Cluster, copy and offset as a store takes them from the address. -/
theorem shareWord_parts : (shareWord k c w - 0x42000000) / 0x10000 % 4 = k ∧ shareWord k c w % 0x10000 / 0x8000 = c ∧
    shareWord k c w % 0x8000 = 4 * w := by
  unfold shareWord
  omega

variable (l : List Byte)

theorem ldrStore_none (h : ldrTable (4 * w) = none) : s.ldrStore (shareWord k c w) l = s.setBytes (shareWord k c w) l := by
  obtain ⟨-, -, hoff⟩ := shareWord_parts hk hc hw
  simp only [ldrStore, hoff, h]

theorem ldrStore_refused (h : ldrTable (4 * w) = some t)
    (hown : c = s.ldrAct k t ∨ (t = 2 ∧ s.on (Reg.CHM_C_CFG_age_en k) = true)) :
    ∃ who, s.ldrStore (shareWord k c w) l = s.ldrRefuse k t who := by
  obtain ⟨hshare, hcopy, hoff⟩ := shareWord_parts hk hc hw
  simp only [ldrStore, hshare, hcopy, hoff, h]
  by_cases hact : c = s.ldrAct k t
  · exact ⟨0, if_pos hact⟩
  · exact ⟨1, (if_neg hact).trans (if_pos (by simpa using hown.resolve_left hact))⟩

theorem ldrStore_shadow (h : ldrTable (4 * w) = some t) (hact : c ≠ s.ldrAct k t)
    (hown : t ≠ 2 ∨ s.on (Reg.CHM_C_CFG_age_en k) = false) :
    s.ldrStore (shareWord k c w) l = (s.swapCancel k t).setBytes (shareWord k c w) l := by
  obtain ⟨hshare, hcopy, hoff⟩ := shareWord_parts hk hc hw
  simp only [ldrStore, hshare, hcopy, hoff, h]
  rw [if_neg hact, if_neg (by simpa [imp_iff_not_or] using hown)]

end

/-! ### A refused word -/

theorem Frame.ldrRefuse (s : Chip) (k t who : Nat) : s.Frame (s.ldrRefuse k t who)
    [Reg.SEQ_FLAGS_ldr_err k, Reg.SEQ_FAULT_code k, Reg.SEQ_FAULT_class k, Reg.SEQ_FLAGS_fault k] [.log] :=
  (Frame.put s _ _ _ (.head _)).trans (.record _ _ _ _ _ _ _ (.head _) (by omega) (by simp))

end Chip

/-- Settles O37. -/
theorem larderWriteRefused : Obligations.LarderWriteRefused := by
  unfold Obligations.LarderWriteRefused
  intro s k c w d t hd htable hown
  set u := s.chip.reachGate (Chip.shareWord k c w) with hu
  have hgate : s.chip.Frame u Chip.clockFields [.pwr] := .reachGate ..
  have hown' : c.val = u.ldrAct k t ∨ (t.val = 2 ∧ u.on (Reg.CHM_C_CFG_age_en k) = true) := by
    rwa [Chip.reachGate_ldrAct k.isLt, Chip.reachGate_ageEn k.isLt]
  obtain ⟨who, hwho⟩ := Chip.ldrStore_refused k.isLt c.isLt w.isLt (leBytes 4 d.toNat) htable hown'
  have hx : exec (.larderWrite k c w d) s = s.act fun x => (x.reachGate (Chip.shareWord k c w)).ldrRefuse k t who :=
    State.act_congr hwho
  refine completes_of_act hx hd ((hgate.mono (by simp) (by simp)).trans ((Chip.Frame.ldrRefuse ..).mono (by simp) (by simp))) ?_
  rw [Chip.settle_mem, Chip.settle_get, Chip.settle_log, ← Chip.reachGate_log s.chip (Chip.shareWord k c w), ← hu]
  refine ⟨?_, Chip.get_record_code _ k.isLt (by decide) _ _ _ _, Chip.record_seq ..⟩
  exact ((Chip.Frame.ldrRefuse ..).2 .mem (by decide)).symm.trans (hgate.2 .mem (by decide)).symm

end Sys2Proof.Machine
end

section
/-! SUPPORT. The steps of a Larder swap in a cluster's state and registers (R219, Table 05-12); O38 assembled. -/

namespace Sys2Proof.Machine

namespace Chip

variable {s : Chip} {k t : Nat}

/-! ### Bits of a field -/

theorem Frame.clrBitOf (s : Chip) (f : Field) (i : Nat) {fs : List Field} (ps : List Part) (h : f ∈ fs) :
    s.Frame (s.clrBitOf f i) fs ps := .assign s f _ ps h

theorem hasBit_get_setBitOf (s : Chip) {f : Field} {i : Nat} (h : i < f.width) : hasBit ((s.setBitOf f i).get f) i = true := by
  rw [hasBit_setBitOf _ _ _ h, decide_eq_true rfl, Bool.or_true]

/-- A cluster's fault record leaves the cluster's own state. -/
theorem noteCl_cl (s : Chip) (code k data : Nat) : (s.noteCl code k data).cl = s.cl :=
  ((noteCl_inside (M := 66) rfl (.refl s _)) .cl rfl).symm

theorem noteCl_mem (s : Chip) (code k data : Nat) : (s.noteCl code k data).mem = s.mem :=
  ((noteCl_inside (M := 66) rfl (.refl s _)) .mem rfl).symm

theorem Frame.noteCl (s : Chip) (code k data : Nat) {fs : List Field} {ps : List Part} (hl : Part.log ∈ ps)
    (h1 : code ≠ 0x0E13) (h2 : code ≠ 0x0E10)
    (hf : Reg.SEQ_FAULT_code k ∈ fs ∧ Reg.SEQ_FAULT_class k ∈ fs ∧ Reg.SEQ_FLAGS_fault k ∈ fs) :
    s.Frame (s.noteCl code k data) fs ps := .record _ _ _ _ _ _ _ hl (by omega) fun _ => hf

/-! ### A swap's step -/

theorem cluster_congr {u v : Chip} (h : u.cl = v.cl) (k : Nat) : u.cluster k = v.cluster k := by rw [cluster, cluster, h]

theorem swapOf_congr {u v : Chip} (h : u.cl = v.cl) (k t : Nat) : u.swapOf k t = v.swapOf k t := by
  rw [swapOf, swapOf, cluster_congr h]

/-- The fields that show a swap's step. -/
abbrev swapFields (k : Nat) : List Field := [Reg.SEQ_LDR_SWAP_swap k, Reg.SEQ_LDR_STAT_checking k]

theorem putSwap_cl (s : Chip) (k t : Nat) (x : SwapStep) :
    (s.putSwap k t x).cl = updNth (fun c => { c with swap := updNth (fun _ => x) t c.swap }) k s.cl := by
  unfold putSwap
  split <;> split <;> rfl

theorem Frame.putSwap (s : Chip) (k t : Nat) (x : SwapStep) : s.Frame (s.putSwap k t x) (swapFields k) [.cl] := by
  have hstate (u : Chip) : u.Frame (if x = .none then u.clrBitOf (Reg.SEQ_LDR_SWAP_swap k) t
      else u.setBitOf (Reg.SEQ_LDR_SWAP_swap k) t) (swapFields k) [.cl] :=
    .ite u (.clrBitOf _ _ _ _ (.head _)) (.setBitOf _ _ _ _ (.head _))
  have hcheck (u : Chip) : u.Frame (if x = .checking then u.setBitOf (Reg.SEQ_LDR_STAT_checking k) t
      else u.clrBitOf (Reg.SEQ_LDR_STAT_checking k) t) (swapFields k) [.cl] :=
    .ite u (.setBitOf _ _ _ _ (by simp)) (.clrBitOf _ _ _ _ (by simp))
  exact ((Frame.modCl s k _ _ (.head _)).trans (hstate _)).trans (hcheck _)

theorem cluster_putSwap (hk : k < s.cl.length) (t : Nat) (x : SwapStep) :
    (s.putSwap k t x).cluster k = { s.cluster k with swap := updNth (fun _ => x) t (s.cluster k).swap } := by
  rw [cluster, putSwap_cl]
  exact nth_updNth_self _ hk

theorem swapOf_putSwap_self (hk : k < s.cl.length) (ht : t < (s.cluster k).swap.length) (x : SwapStep) :
    (s.putSwap k t x).swapOf k t = x := by
  rw [swapOf, cluster_putSwap hk]
  exact nth_updNth_self (fun _ => x) ht

theorem swapOf_putSwap_ne (hk : k < s.cl.length) {j : Nat} (h : j ≠ t) (x : SwapStep) :
    (s.putSwap k t x).swapOf k j = s.swapOf k j := by
  rw [swapOf, cluster_putSwap hk]
  exact nth_updNth_ne (fun _ => x) h

/-! ### A swap that ends without effect -/

/-- The swap of a table ends without effect and shows so in the bit of an outcome field; what is recorded of it is still to come. -/
def swapDropped (s : Chip) (k t : Nat) (f : Field) : Chip :=
  let s := ((s.putSwap k t .none).setBitOf f t).put (Reg.SEQ_FLAGS_ldr_err k) true
  if t = 2 then s.modCl k fun c => { c with ageSwap := false } else s

section
variable (hk : k < s.cl.length) (f : Field)

theorem swapDropped_get (s : Chip) (g : Field) : (s.swapDropped k t f).get g =
    (((s.putSwap k t .none).setBitOf f t).put (Reg.SEQ_FLAGS_ldr_err k) true).get g := by
  unfold swapDropped
  split <;> rfl

theorem Frame.swapDropped (s : Chip) (k t : Nat) : s.Frame (s.swapDropped k t f)
    [Reg.SEQ_LDR_SWAP_swap k, Reg.SEQ_LDR_STAT_checking k, f, Reg.SEQ_FLAGS_ldr_err k] [.cl] := by
  unfold Chip.swapDropped
  extract_lets u
  have hu : s.Frame u [Reg.SEQ_LDR_SWAP_swap k, Reg.SEQ_LDR_STAT_checking k, f, Reg.SEQ_FLAGS_ldr_err k] [.cl] :=
    (((Frame.putSwap s k t .none).mono (by simp) (by simp)).trans (.setBitOf _ _ _ _ (by simp))).trans (.put _ _ _ _ (by simp))
  split
  · exact hu.trans (.modCl _ _ _ _ (by simp))
  · exact hu

include hk

theorem swap_swapDropped : ((s.swapDropped k t f).cluster k).swap = ((s.putSwap k t .none).cluster k).swap := by
  have hlen : k < (s.putSwap k t .none).cl.length := by rwa [putSwap_cl, updNth_length]
  unfold swapDropped
  extract_lets u
  split
  · rw [cluster_modCl (s := u) hlen]
    rfl
  · rfl

/-- No swap of the table is pending any more, and what is recorded of it leaves this so. -/
theorem swapOf_swapDropped (ht : t < (s.cluster k).swap.length) (code : Nat) :
    ((s.swapDropped k t f).noteCl code k t).swapOf k t = .none := by
  rw [swapOf_congr (noteCl_cl ..), swapOf, swap_swapDropped hk]
  exact swapOf_putSwap_self hk ht .none

end

/-- The outcome's bit stands, whatever is recorded. -/
theorem hasBit_swapDropped (s : Chip) {f : Field} (ht : t < f.width) {code : Nat} (h1 : code ≠ 0x0E13) (h2 : code ≠ 0x0E10)
    (hf : ∀ g ∈ [Reg.SEQ_FAULT_code k, Reg.SEQ_FAULT_class k, Reg.SEQ_FLAGS_fault k], f.key ≠ g.key)
    (herr : f.key ≠ (Reg.SEQ_FLAGS_ldr_err k).key) :
    hasBit (((s.swapDropped k t f).noteCl code k t).get f) t = true := by
  rw [(Frame.noteCl (ps := [.log]) _ _ k _ (.head _) h1 h2 (by simp)).1 f hf, swapDropped_get, get_put_other _ herr]
  exact hasBit_get_setBitOf _ ht

theorem swapCancel_pending (h : s.swapOf k t ≠ .none) :
    s.swapCancel k t = (s.swapDropped k t (Reg.SEQ_LDR_STAT_cancel k)).noteCl 0x0521 k t := if_neg h

theorem swapOf_swapCancel (hk : k < s.cl.length) (ht : t < (s.cluster k).swap.length) : (s.swapCancel k t).swapOf k t = .none := by
  by_cases h : s.swapOf k t = .none
  · rwa [swapCancel, if_pos h]
  · rw [swapCancel_pending h]
    exact swapOf_swapDropped hk _ ht _

theorem hasBit_swapCancel (ht : t < 3) (h : s.swapOf k t ≠ .none) :
    hasBit ((s.swapCancel k t).get (Reg.SEQ_LDR_STAT_cancel k)) t = true := by
  rw [swapCancel_pending h]
  refine hasBit_swapDropped s ht (by decide) (by decide) ?_ ?_ <;>
  · simp only [List.forall_mem_cons, List.not_mem_nil, false_imp_iff, implies_true, and_true, Field.key,
      Reg.SEQ_LDR_STAT_cancel, Reg.SEQ_FAULT_code, Reg.SEQ_FAULT_class, Reg.SEQ_FLAGS_fault, Reg.SEQ_FLAGS_ldr_err]
    omega

theorem swapCancel_mem (s : Chip) (k t : Nat) : (s.swapCancel k t).mem = s.mem :=
  ((swapCancel_inside (M := 4162) (by rfl) (.refl s _)) .mem rfl).symm

/-! ### A stored word -/

theorem settle_load (s : Chip) (a n : Nat) : s.settle.load a n = s.load a n := by
  simp only [load, bytes, settle_byte]

theorem load_word (s : Chip) (a : Nat) (d : Word) : (s.setBytes a (leBytes 4 d.toNat)).load a 4 = d.toNat := by
  have hbytes := bytes_setBytes s a (leBytes 4 d.toNat)
  rw [length_leBytes] at hbytes
  rw [load, hbytes, leNat_leBytes]
  exact Nat.mod_eq_of_lt d.isLt

theorem Frame.setBytes (s : Chip) (a : Nat) (l : List Byte) (fs : List Field) {ps : List Part} (h : Part.mem ∈ ps) :
    s.Frame (s.setBytes a l) fs ps := by
  induction l generalizing s a with
  | nil => exact .refl ..
  | cons b l ih => exact (Frame.mem s _ fs h).trans (ih ..)

/-- A word stored stands at its address, and every other byte stays. -/
theorem setBytes_word {u : Chip} (h : u.mem = s.mem) (a : Nat) (d : Word) :
    (u.setBytes a (leBytes 4 d.toNat)).settle.load a 4 = d.toNat ∧
      ∀ b, b < a ∨ a + 4 ≤ b → (u.setBytes a (leBytes 4 d.toNat)).settle.byte b = s.byte b := by
  refine ⟨(settle_load ..).trans (load_word ..), fun b hb => ?_⟩
  rw [settle_byte, byte_setBytes_other _ _ _ _ (by rwa [length_leBytes])]
  exact byte_congr h b

end Chip

/-- A word of a table's shadow that software owns. -/
theorem larderWrite_shadow {s : State} {k : Fin 4} {c : Fin 2} {w : Fin 8192} {t : Nat} (d : Word)
    (hd : s.chip.pwr.dieReset = false) (hs : s.chip.Shaped) (hlen : (s.chip.cluster k).swap.length = 3) (ht : t < 3)
    (htable : Chip.ldrTable (4 * w.val) = some t) (hact : c.val ≠ s.chip.ldrAct k t)
    (hown : t ≠ 2 ∨ s.chip.on (Reg.CHM_C_CFG_age_en k) = false) :
    Touches (.larderWrite k c w d) s [.regs, .mem, .log, .cl, .pwr] (fun u =>
      (u.load (Chip.shareWord k c w) 4 = d.toNat ∧
        ∀ a, a < Chip.shareWord k c w ∨ Chip.shareWord k c w + 4 ≤ a → u.byte a = s.chip.byte a) ∧
      u.swapOf k t = .none ∧ (s.chip.swapOf k t ≠ .none → hasBit (u.get (Reg.SEQ_LDR_STAT_cancel k)) t = true)) := by
  set u := s.chip.reachGate (Chip.shareWord k c w) with hu
  have hcl : u.cl = s.chip.cl := s.chip.reachGate_cl _
  have hk : k.val < u.cl.length := hcl ▸ hs.cl_lt k
  have hshadow : u.ldrStore (Chip.shareWord k c w) (leBytes 4 d.toNat) =
      (u.swapCancel k t).setBytes (Chip.shareWord k c w) (leBytes 4 d.toNat) :=
    Chip.ldrStore_shadow k.isLt c.isLt w.isLt _ htable (by rwa [Chip.reachGate_ldrAct k.isLt])
      (by rwa [Chip.reachGate_ageEn k.isLt])
  have hx : exec (.larderWrite k c w d) s = s.act fun x =>
      (x.reachGate (Chip.shareWord k c w)).ldrStore (Chip.shareWord k c w) (leBytes 4 d.toNat) := rfl
  refine touches_of_act hx hd (Chip.ldrStore_inside (by rfl) (Chip.reachGate_inside (by rfl) (.refl _ _))) ?_
  rw [← hu, hshadow]
  set v := u.swapCancel k t with hv
  have hmem : v.mem = s.chip.mem := (u.swapCancel_mem k t).trans (s.chip.reachGate_mem _)
  have hstore : v.Frame (v.setBytes (Chip.shareWord k c w) (leBytes 4 d.toNat)) [] [.mem] := .setBytes _ _ _ _ (.head _)
  refine ⟨Chip.setBytes_word hmem _ d, ?_, fun hpend => ?_⟩
  · rw [Chip.swapOf_congr ((Chip.settle_cl _).trans (hstore.2 .cl (by decide)).symm)]
    exact Chip.swapOf_swapCancel hk (by rw [Chip.cluster_congr hcl, hlen]; exact ht)
  · rw [Chip.settle_get, hstore.1 _ (by simp)]
    exact Chip.hasBit_swapCancel ht (by rwa [Chip.swapOf_congr hcl])

/-- A word at an offset of no table. -/
theorem larderWrite_reserved {s : State} {k : Fin 4} {c : Fin 2} {w : Fin 8192} (d : Word) (hd : s.chip.pwr.dieReset = false)
    (htable : Chip.ldrTable (4 * w.val) = none) :
    Completes (.larderWrite k c w d) s Chip.clockFields [.mem, .pwr] (fun u =>
      u.load (Chip.shareWord k c w) 4 = d.toNat ∧
        ∀ a, a < Chip.shareWord k c w ∨ Chip.shareWord k c w + 4 ≤ a → u.byte a = s.chip.byte a) := by
  have hx : exec (.larderWrite k c w d) s = s.act fun x =>
      (x.reachGate (Chip.shareWord k c w)).setBytes (Chip.shareWord k c w) (leBytes 4 d.toNat) :=
    State.act_congr (Chip.ldrStore_none k.isLt c.isLt w.isLt _ htable)
  refine completes_of_act hx hd (((Chip.Frame.reachGate ..).mono (by simp) (by simp)).trans (.setBytes _ _ _ _ (.head _))) ?_
  exact Chip.setBytes_word (s.chip.reachGate_mem _) _ d

/-- A table number of an offset is one of the three. -/
theorem Chip.ldrTable_lt {off t : Nat} (h : Chip.ldrTable off = some t) : t < 3 := by
  have hmem := List.mem_of_find?_eq_some h
  simp only [List.mem_cons, List.not_mem_nil, or_false] at hmem
  omega

/-- Settles O38. -/
theorem larderWriteStores : Obligations.LarderWriteStores := by
  unfold Obligations.LarderWriteStores
  intro s k c w d hd hs hlen
  have haddr (a : Nat) : 0x42000004 + 0x10000 * k.val + 0x8000 * c.val + 4 * w.val ≤ a ↔ Chip.shareWord k c w + 4 ≤ a := by
    unfold Chip.shareWord
    omega
  refine ⟨fun t ht hact hown => ?_, fun htable => ?_⟩
  · have htable := Option.mem_toList.1 ht
    refine (larderWrite_shadow d hd hs hlen (Chip.ldrTable_lt htable) htable hact hown).imp fun u ⟨⟨hload, hbyte⟩, hswap⟩ => ?_
    exact ⟨hload, fun a ha => hbyte a (by rwa [← haddr]), hswap⟩
  · simpa only [haddr] using larderWrite_reserved d hd htable

end Sys2Proof.Machine
end

section
/-! SUPPORT. A swap asked for, checked and made (R217, R219, R220); O36 assembled. -/

namespace Sys2Proof.Machine

namespace Chip

variable {s : Chip} {k t : Nat}

/-! ### A swap asked for -/

/-- The outcome bits of a table's earlier swap. -/
abbrev outcomeFields (k : Nat) : List Field :=
  [Reg.SEQ_LDR_STAT_defer k, Reg.SEQ_LDR_STAT_cancel k, Reg.SEQ_LDR_STAT_crc_fail k]

/-- The outcome of a table's earlier swap is forgotten. -/
def swapCleared (s : Chip) (k t : Nat) : Chip :=
  (((s.clrBitOf (Reg.SEQ_LDR_STAT_defer k) t).clrBitOf (Reg.SEQ_LDR_STAT_cancel k) t).clrBitOf
    (Reg.SEQ_LDR_STAT_crc_fail k) t).modCl k fun c => { c with waits := updNth (fun _ => 0) t c.waits }

theorem Frame.swapCleared (s : Chip) (k t : Nat) : s.Frame (s.swapCleared k t) (outcomeFields k) [.cl] :=
  ((((Frame.clrBitOf s _ _ _ (by simp)).trans (.clrBitOf _ _ _ _ (by simp))).trans (.clrBitOf _ _ _ _ (by simp)))).trans
    (.modCl _ _ _ _ (.head _))

theorem swapRequest_free (h : s.swapOf k t = .none) : s.swapRequest k t = (s.swapCleared k t).putSwap k t .checking :=
  if_neg (by simp [h])

theorem swapRequest_pending (h : s.swapOf k t ≠ .none) : s.swapRequest k t = s := if_pos (by simpa using h)

/-- Software may ask cluster k for swaps of its three tables. -/
structure Asks (k : Nat) (s : Chip) : Prop where
  cl : k < s.cl.length
  swap : (s.cluster k).swap.length = 3
  age : s.on (Reg.CHM_C_CFG_age_en k) = false

/-- The check of table t is under way, and its register shows the swap. -/
def Asked (k t : Nat) (s : Chip) : Prop := s.swapOf k t = .checking ∧ hasBit (s.get (Reg.SEQ_LDR_SWAP_swap k)) t = true

theorem swapBySoftware_of_off (h : s.on (Reg.CHM_C_CFG_age_en k) = false) (t : Nat) : s.swapBySoftware k t = s.swapRequest k t :=
  if_neg (by simp [h])

/-- The fields that swap requests write. -/
abbrev askFields (k : Nat) : List Field := outcomeFields k ++ swapFields k

theorem Frame.swapRequest (s : Chip) (k t : Nat) : s.Frame (s.swapRequest k t) (askFields k) [.cl] := by
  by_cases h : s.swapOf k t = .none
  · rw [swapRequest_free h]
    exact ((Frame.swapCleared s k t).mono (by simp) (by simp)).trans ((Frame.putSwap _ k t .checking).mono (by simp) (by simp))
  · rw [swapRequest_pending h]
    exact .refl ..

theorem cluster_swapCleared (hk : k < s.cl.length) (t : Nat) :
    (s.swapCleared k t).cluster k = { s.cluster k with waits := updNth (fun _ => 0) t (s.cluster k).waits } := cluster_modCl hk _

theorem length_swapCleared (s : Chip) (k t : Nat) : (s.swapCleared k t).cl.length = s.cl.length := updNth_length ..

theorem swapOf_swapCleared (hk : k < s.cl.length) (t j : Nat) : (s.swapCleared k t).swapOf k j = s.swapOf k j := by
  rw [swapOf, cluster_swapCleared hk, swapOf]

theorem swapOf_swapRequest_ne (hk : k < s.cl.length) {j : Nat} (h : j ≠ t) : (s.swapRequest k t).swapOf k j = s.swapOf k j := by
  by_cases hn : s.swapOf k t = .none
  · rw [swapRequest_free hn, swapOf_putSwap_ne (by rwa [length_swapCleared]) h, swapOf_swapCleared hk]
  · rw [swapRequest_pending hn]

/-- A request sets its table's bit and clears none. -/
theorem hasBit_putSwap (s : Chip) {j : Nat} (hj : j < 3) : hasBit ((s.putSwap k t .checking).get (Reg.SEQ_LDR_SWAP_swap k)) j =
    (hasBit (s.get (Reg.SEQ_LDR_SWAP_swap k)) j || decide (t = j)) := by
  unfold putSwap
  simp only [reduceCtorEq, if_false, if_true]
  rw [get_setBitOf_other _ (by simp only [Field.key, Reg.SEQ_LDR_SWAP_swap, Reg.SEQ_LDR_STAT_checking]; omega)]
  exact hasBit_setBitOf _ _ _ hj

theorem get_swapCleared (s : Chip) (k t : Nat) :
    (s.swapCleared k t).get (Reg.SEQ_LDR_SWAP_swap k) = s.get (Reg.SEQ_LDR_SWAP_swap k) := by
  refine (Frame.swapCleared s k t).1 _ ?_
  simp only [List.forall_mem_cons, List.not_mem_nil, false_imp_iff, implies_true, and_true, Field.key, Reg.SEQ_LDR_SWAP_swap,
    Reg.SEQ_LDR_STAT_defer, Reg.SEQ_LDR_STAT_cancel, Reg.SEQ_LDR_STAT_crc_fail]
  omega

theorem Asks.swapRequest (h : Asks k s) (t : Nat) : Asks k (s.swapRequest k t) := by
  have hage : (s.swapRequest k t).on (Reg.CHM_C_CFG_age_en k) = false := by
    rw [on, (Frame.swapRequest s k t).1 _ ?_]
    · exact h.age
    · simp only [List.cons_append, List.nil_append, List.forall_mem_cons, List.not_mem_nil, false_imp_iff, implies_true, and_true,
        Field.key, Reg.CHM_C_CFG_age_en, Reg.SEQ_LDR_STAT_defer, Reg.SEQ_LDR_STAT_cancel, Reg.SEQ_LDR_STAT_crc_fail,
        Reg.SEQ_LDR_SWAP_swap, Reg.SEQ_LDR_STAT_checking]
      omega
  by_cases hn : s.swapOf k t = .none
  · rw [swapRequest_free hn] at hage ⊢
    have hk : k < (s.swapCleared k t).cl.length := by rw [length_swapCleared]; exact h.cl
    refine ⟨by rw [putSwap_cl, updNth_length]; exact hk, ?_, hage⟩
    rw [cluster_putSwap hk, cluster_swapCleared h.cl]
    exact (updNth_length ..).trans h.swap
  · rwa [swapRequest_pending hn]

theorem Asked.swapRequest (h : Asked k t s) (hs : Asks k s) (ht : t < 3) (j : Nat) : Asked k t (s.swapRequest k j) := by
  by_cases hn : s.swapOf k j = .none
  · have hne : t ≠ j := fun e => by simp [← e, h.1] at hn
    refine ⟨(swapOf_swapRequest_ne hs.cl hne).trans h.1, ?_⟩
    rw [swapRequest_free hn, hasBit_putSwap _ ht, get_swapCleared, h.2, Bool.true_or]
  · rwa [swapRequest_pending hn]

/-- A table without a pending swap that is asked for goes to its check. -/
theorem asked_swapRequest (hs : Asks k s) (ht : t < 3) (hn : s.swapOf k t = .none) : Asked k t (s.swapRequest k t) := by
  have hk : k < (s.swapCleared k t).cl.length := by rw [length_swapCleared]; exact hs.cl
  rw [swapRequest_free hn]
  refine ⟨swapOf_putSwap_self hk ?_ _, ?_⟩
  · rw [cluster_swapCleared hs.cl]
    exact hs.swap ▸ ht
  · rw [hasBit_putSwap _ ht, decide_eq_true rfl, Bool.or_true]

/-- Requests of a list of tables leave a check that is under way. -/
theorem Asked.swapRequests (ht : t < 3) {l : List Nat} (h : Asked k t s) (hs : Asks k s) :
    Asked k t (forEach l (fun j u => u.swapBySoftware k j) s) := by
  refine (forEach_preserves (P := fun u => Asks k u ∧ Asked k t u) (fun j _ u ⟨hu, ha⟩ => ?_) ⟨hs, h⟩).2
  rw [swapBySoftware_of_off hu.age]
  exact ⟨hu.swapRequest j, ha.swapRequest hu ht j⟩

/-- A table in the list that has no pending swap goes to its check. -/
theorem asked_swapRequests (ht : t < 3) {l : List Nat} (hl : t ∈ l) (hs : Asks k s) (hn : s.swapOf k t = .none) :
    Asked k t (forEach l (fun j u => u.swapBySoftware k j) s) := by
  induction l generalizing s with
  | nil => exact absurd hl (List.not_mem_nil)
  | cons j l ih =>
    change Asked k t (forEach l _ (s.swapBySoftware k j))
    rw [swapBySoftware_of_off hs.age]
    by_cases hj : t = j
    · subst hj
      exact (asked_swapRequest hs ht hn).swapRequests ht (hs.swapRequest t)
    · exact ih ((List.mem_cons.1 hl).resolve_left hj) (hs.swapRequest j) ((swapOf_swapRequest_ne hs.cl hj).trans hn)

/-- A table outside the list keeps its step. -/
theorem swapOf_swapRequests_ne {l : List Nat} (hl : t ∉ l) (hs : Asks k s) :
    (forEach l (fun j u => u.swapBySoftware k j) s).swapOf k t = s.swapOf k t := by
  refine (forEach_preserves (P := fun u => Asks k u ∧ u.swapOf k t = s.swapOf k t) (fun j hj u ⟨hu, ha⟩ => ?_) ⟨hs, rfl⟩).2
  rw [swapBySoftware_of_off hu.age]
  exact ⟨hu.swapRequest j, (swapOf_swapRequest_ne hu.cl (by rintro rfl; exact hl hj)).trans ha⟩

theorem Frame.swapRequests (l : List Nat) (hs : Asks k s) :
    s.Frame (forEach l (fun j u => u.swapBySoftware k j) s) (askFields k) [.cl] := by
  refine (forEach_preserves (P := fun u => Asks k u ∧ s.Frame u (askFields k) [.cl]) (fun j _ u ⟨hu, hf⟩ => ?_) ⟨hs, .refl ..⟩).2
  rw [swapBySoftware_of_off hu.age]
  exact ⟨hu.swapRequest j, hf.trans (.swapRequest u k j)⟩

theorem mem_bitsOf {m n i : Nat} : i ∈ bitsOf m n ↔ i < n ∧ hasBit m i = true := by
  rw [bitsOf, List.mem_filter, List.mem_range]

/-! ### A swap made, or one that waits -/

theorem bitOf_eq (v i : Nat) : bitOf v i = if hasBit v i then 1 else 0 := by
  unfold hasBit
  have hlt : bitOf v i < 2 := Nat.mod_lt _ (by decide)
  split <;> simp_all
  omega

/-- The copies with the checked one of table t active. -/
def swapMade (s : Chip) (k t : Nat) : Chip :=
  let u := s.set (Reg.SEQ_LDR_ACT_act k) (putBit (s.get (Reg.SEQ_LDR_ACT_act k)) t (s.ldrAct k t == 0))
  let u := ((u.putSwap k t .none).count (Reg.SEQ_LDR_STAT_swaps k)).put (Reg.SEQ_FLAGS_ldr_swap k) true
  u.modCl k fun c => { c with waits := updNth (fun _ => 0) t c.waits }

/-- A table's swap that has waited for one more lookup. -/
def swapWaited (s : Chip) (k t : Nat) : Chip :=
  s.modCl k fun c => { c with waits := updNth (fun _ => (s.cluster k).waits.getD t 0 + 1) t c.waits }

section
variable (hr : s.swapOf k t = .ready) (hb : s.atBoundary k = true)
include hr hb

theorem swapNow_made (ht : t ≠ 2) : s.swapNow k t false = s.swapMade k t := by
  unfold swapNow
  rw [if_neg (by simp [hr, hb]), if_neg Bool.false_ne_true]
  exact if_neg ht

theorem swapNow_waits (h : (s.cluster k).waits.getD t 0 < 15) : s.swapNow k t true = s.swapWaited k t := by
  unfold swapNow
  rw [if_neg (by simp [hr, hb]), if_pos rfl]
  refine if_neg ?_
  simp only [ge_iff_le, Bool.and_eq_true, decide_eq_true_eq]
  omega

theorem swapNow_deferred (h : (s.cluster k).waits.getD t 0 = 15)
    (hd : hasBit (s.get (Reg.SEQ_LDR_STAT_defer k)) t = false) :
    s.swapNow k t true = ((s.swapWaited k t).setBitOf (Reg.SEQ_LDR_STAT_defer k) t).noteCl 0x0523 k t := by
  have hd' : hasBit ((s.swapWaited k t).get (Reg.SEQ_LDR_STAT_defer k)) t = false := hd
  unfold swapNow
  rw [if_neg (by simp [hr, hb]), if_pos rfl]
  refine if_pos ?_
  rw [h]
  exact Bool.and_eq_true_iff.2 ⟨rfl, by rw [Bool.not_eq_true']; exact hd'⟩

end

theorem swapNow_idle (h : s.swapOf k t ≠ .ready ∨ s.atBoundary k = false) (b : Bool) : s.swapNow k t b = s := by
  refine if_pos ?_
  rcases h with h | h <;> simp [h]

theorem Frame.swapMade (s : Chip) (k t : Nat) : s.Frame (s.swapMade k t) [Reg.SEQ_LDR_ACT_act k, Reg.SEQ_LDR_SWAP_swap k,
    Reg.SEQ_LDR_STAT_checking k, Reg.SEQ_LDR_STAT_swaps k, Reg.SEQ_FLAGS_ldr_swap k] [.cl] :=
  ((((Frame.set s _ _ _ (by simp)).trans ((Frame.putSwap _ k t .none).mono (by simp) (by simp))).trans
    (.set _ _ _ _ (by simp))).trans (.put _ _ _ _ (by simp))).trans (.modCl _ _ _ _ (by simp))

theorem get_swapMade_act (s : Chip) (k t : Nat) : (s.swapMade k t).get (Reg.SEQ_LDR_ACT_act k) =
    putBit (s.get (Reg.SEQ_LDR_ACT_act k)) t (s.ldrAct k t == 0) % 2 ^ 3 := by
  unfold swapMade
  extract_lets u v
  have hrest : u.Frame v [Reg.SEQ_LDR_SWAP_swap k, Reg.SEQ_LDR_STAT_checking k, Reg.SEQ_LDR_STAT_swaps k, Reg.SEQ_FLAGS_ldr_swap k]
      [.cl] :=
    ((Frame.putSwap u k t .none).mono (by simp) (by simp)).trans ((Frame.set _ _ _ _ (by simp)).trans (.put _ _ _ _ (by simp)))
  refine (hrest.1 _ ?_).trans (get_set_self ..)
  simp only [List.forall_mem_cons, List.not_mem_nil, false_imp_iff, implies_true, and_true, Field.key, Reg.SEQ_LDR_ACT_act,
    Reg.SEQ_LDR_SWAP_swap, Reg.SEQ_LDR_STAT_checking, Reg.SEQ_LDR_STAT_swaps, Reg.SEQ_FLAGS_ldr_swap]
  omega

theorem hasBit_swapMade {j : Nat} (hj : j < 3) : hasBit ((s.swapMade k t).get (Reg.SEQ_LDR_ACT_act k)) j =
    if t = j then s.ldrAct k t == 0 else hasBit (s.get (Reg.SEQ_LDR_ACT_act k)) j := by
  rw [get_swapMade_act, hasBit_mod_two_pow _ hj, hasBit_putBit]

theorem ldrAct_swapMade_self (ht : t < 3) : (s.swapMade k t).ldrAct k t = 1 - s.ldrAct k t := by
  have hbit := hasBit_swapMade (s := s) (k := k) (t := t) ht
  rw [if_pos rfl] at hbit
  rw [ldrAct, bitOf_eq, hbit, ldrAct, bitOf_eq]
  cases hasBit (s.get (Reg.SEQ_LDR_ACT_act k)) t <;> rfl

theorem ldrAct_swapMade_ne {j : Nat} (hj : j < 3) (h : j ≠ t) : (s.swapMade k t).ldrAct k j = s.ldrAct k j := by
  rw [ldrAct, bitOf_eq, hasBit_swapMade hj, if_neg h.symm, ldrAct, bitOf_eq]

theorem swapOf_swapMade (hk : k < s.cl.length) (ht : t < (s.cluster k).swap.length) : (s.swapMade k t).swapOf k t = .none := by
  unfold swapMade
  extract_lets u v
  have hv : k < v.cl.length := by
    change k < (u.putSwap k t .none).cl.length
    rwa [putSwap_cl, updNth_length]
  rw [swapOf, cluster_modCl hv]
  exact swapOf_putSwap_self (s := u) hk ht .none

theorem get_swapMade_flag (s : Chip) (k t : Nat) : (s.swapMade k t).get (Reg.SEQ_FLAGS_ldr_swap k) = 1 :=
  get_put_self _ (Reg.SEQ_FLAGS_ldr_swap k) true Nat.one_pos

theorem swapOf_swapWaited (hk : k < s.cl.length) (t : Nat) : (s.swapWaited k t).swapOf k t = s.swapOf k t := by
  rw [swapOf, swapWaited, cluster_modCl hk, swapOf]

theorem hasBit_deferred (s : Chip) (ht : t < 3) :
    hasBit (((s.setBitOf (Reg.SEQ_LDR_STAT_defer k) t).noteCl 0x0523 k t).get (Reg.SEQ_LDR_STAT_defer k)) t = true := by
  rw [(Frame.noteCl (fs := [Reg.SEQ_FAULT_code k, Reg.SEQ_FAULT_class k, Reg.SEQ_FLAGS_fault k]) (ps := [.log]) _ _ k _ (.head _)
    (by decide) (by decide) (by simp)).1]
  · exact hasBit_get_setBitOf _ ht
  · simp only [List.forall_mem_cons, List.not_mem_nil, false_imp_iff, implies_true, and_true, Field.key,
      Reg.SEQ_LDR_STAT_defer, Reg.SEQ_FAULT_code, Reg.SEQ_FAULT_class, Reg.SEQ_FLAGS_fault]
    omega

/-! ### A shadow checked -/

theorem get_swapDropped_err (s : Chip) (k t : Nat) (f : Field) {code : Nat} (h1 : code ≠ 0x0E13) (h2 : code ≠ 0x0E10) :
    ((s.swapDropped k t f).noteCl code k t).get (Reg.SEQ_FLAGS_ldr_err k) = 1 := by
  rw [(Frame.noteCl (fs := [Reg.SEQ_FAULT_code k, Reg.SEQ_FAULT_class k, Reg.SEQ_FLAGS_fault k]) (ps := [.log]) _ _ k _ (.head _)
    h1 h2 (by simp)).1, swapDropped_get]
  · exact get_put_self _ _ _ Nat.one_pos
  · simp only [List.forall_mem_cons, List.not_mem_nil, false_imp_iff, implies_true, and_true, Field.key,
      Reg.SEQ_FLAGS_ldr_err, Reg.SEQ_FAULT_code, Reg.SEQ_FAULT_class, Reg.SEQ_FLAGS_fault]
    omega

end Chip

section
variable {s : State} {k : Fin 4} {t : Fin 3} (hd : s.chip.pwr.dieReset = false) (hs : s.chip.Shaped)
  (hlen : (s.chip.cluster k).swap.length = 3)
include hd hs hlen

theorem ldrSwapRequest_completes (m : Fin 8) (hage : s.chip.on (Reg.CHM_C_CFG_age_en k) = false)
    (htakes : s.chip.takes (0x40000084 + 0x10000 * k.val) = true) :
    Completes (.ldrSwapRequest k m) s (Chip.askFields k) [.cl] (fun u =>
      (hasBit m t = true → s.chip.swapOf k t = .none → u.swapOf k t = .checking ∧
        hasBit (u.get (Reg.SEQ_LDR_SWAP_swap k)) t = true) ∧
      (hasBit m t = false → u.swapOf k t = s.chip.swapOf k t)) := by
  have hasks : Chip.Asks k s.chip := ⟨hs.cl_lt k, hlen, hage⟩
  have hx : exec (.ldrSwapRequest k m) s = s.act fun c => forEach (bitsOf m 3) (fun j u => u.swapBySoftware k j) c :=
    State.act_congr (Chip.rowWrite_takes htakes _ _)
  refine completes_of_act hx hd (.swapRequests _ hasks) ⟨fun hm hn => ?_, fun hm => ?_⟩
  · rw [Chip.swapOf_congr (Chip.settle_cl _), Chip.settle_get]
    exact Chip.asked_swapRequests t.isLt (Chip.mem_bitsOf.2 ⟨t.isLt, hm⟩) hasks hn
  · rw [Chip.swapOf_congr (Chip.settle_cl _)]
    exact Chip.swapOf_swapRequests_ne (fun h => by simp [Chip.mem_bitsOf, hm] at h) hasks

section
variable (hc : s.chip.swapOf k t = .checking)
include hc

theorem ldrCheckEnd_good (hok : s.chip.shadowOk k t = true) :
    Completes (.ldrCheckEnd k t) s (Chip.swapFields k) [.cl] (fun u => u.swapOf k t = .ready) := by
  have hx : exec (.ldrCheckEnd k t) s = s.act fun c => c.putSwap k t .ready := by
    refine State.act_congr ?_
    rw [if_neg (by simp [hc]), if_pos hok]
  refine completes_of_act hx hd (.putSwap ..) ?_
  rw [Chip.swapOf_congr (Chip.settle_cl _)]
  exact Chip.swapOf_putSwap_self (hs.cl_lt k) (by rw [hlen]; exact t.isLt) _

theorem ldrCheckEnd_bad (hok : s.chip.shadowOk k t = false) :
    Completes (.ldrCheckEnd k t) s [Reg.SEQ_LDR_SWAP_swap k, Reg.SEQ_LDR_STAT_checking k, Reg.SEQ_LDR_STAT_crc_fail k,
      Reg.SEQ_FLAGS_ldr_err k, Reg.SEQ_FAULT_code k, Reg.SEQ_FAULT_class k, Reg.SEQ_FLAGS_fault k] [.log, .cl] (fun u =>
        u.swapOf k t = .none ∧ hasBit (u.get (Reg.SEQ_LDR_STAT_crc_fail k)) t = true ∧ u.get (Reg.SEQ_FLAGS_ldr_err k) = 1) := by
  have hx : exec (.ldrCheckEnd k t) s = s.act fun c => (c.swapDropped k t (Reg.SEQ_LDR_STAT_crc_fail k)).noteCl 0x0520 k t := by
    refine State.act_congr ?_
    rw [if_neg (by simp [hc]), if_neg (by simp [hok])]
    rfl
  refine completes_of_act hx hd (((Chip.Frame.swapDropped ..).mono (by simp) (by simp)).trans
    (.noteCl _ _ _ _ (by simp) (by decide) (by decide) (by simp))) ?_
  rw [Chip.swapOf_congr (Chip.settle_cl _), Chip.settle_get, Chip.settle_get]
  refine ⟨Chip.swapOf_swapDropped (hs.cl_lt k) _ (by rw [hlen]; exact t.isLt) _,
    Chip.hasBit_swapDropped _ t.isLt (by decide) (by decide) ?_ ?_, Chip.get_swapDropped_err _ _ _ _ (by decide) (by decide)⟩ <;>
  · simp only [List.forall_mem_cons, List.not_mem_nil, false_imp_iff, implies_true, and_true, Field.key,
      Reg.SEQ_LDR_STAT_crc_fail, Reg.SEQ_FAULT_code, Reg.SEQ_FAULT_class, Reg.SEQ_FLAGS_fault, Reg.SEQ_FLAGS_ldr_err]
    omega

end

section
variable (hr : s.chip.swapOf k t = .ready) (hb : s.chip.atBoundary k = true)
include hr hb

theorem ldrSwap_made (ht : t.val ≠ 2) :
    Completes (.ldrSwap k t false) s [Reg.SEQ_LDR_ACT_act k, Reg.SEQ_LDR_SWAP_swap k, Reg.SEQ_LDR_STAT_checking k,
      Reg.SEQ_LDR_STAT_swaps k, Reg.SEQ_FLAGS_ldr_swap k] [.cl] (fun u =>
        u.ldrAct k t = 1 - s.chip.ldrAct k t ∧ (∀ j : Fin 3, j ≠ t → u.ldrAct k j = s.chip.ldrAct k j) ∧
        u.swapOf k t = .none ∧ u.get (Reg.SEQ_FLAGS_ldr_swap k) = 1) := by
  have hx : exec (.ldrSwap k t false) s = s.act fun c => c.swapMade k t := State.act_congr (Chip.swapNow_made hr hb ht)
  have hact (c : Chip) (j : Nat) : c.settle.ldrAct k j = c.ldrAct k j := congrArg (bitOf · j) (Chip.settle_get ..)
  refine completes_of_act hx hd (.swapMade ..) ?_
  simp only [hact]
  rw [Chip.swapOf_congr (Chip.settle_cl _), Chip.settle_get]
  exact ⟨Chip.ldrAct_swapMade_self t.isLt, fun j hj => Chip.ldrAct_swapMade_ne j.isLt (Fin.val_ne_of_ne hj),
    Chip.swapOf_swapMade (hs.cl_lt k) (by rw [hlen]; exact t.isLt), Chip.get_swapMade_flag ..⟩

omit hlen

theorem ldrSwap_waits (h : (s.chip.cluster k).waits.getD t 0 < 15) :
    Completes (.ldrSwap k t true) s [] [.cl] (fun u => u.swapOf k t = .ready) := by
  have hx : exec (.ldrSwap k t true) s = s.act fun c => c.swapWaited k t := State.act_congr (Chip.swapNow_waits hr hb h)
  refine completes_of_act hx hd (.modCl _ _ _ _ (.head _)) ?_
  rw [Chip.swapOf_congr (Chip.settle_cl _)]
  exact (Chip.swapOf_swapWaited (hs.cl_lt k) t).trans hr

omit hs

theorem ldrSwap_deferred (h : (s.chip.cluster k).waits.getD t 0 = 15)
    (hdefer : hasBit (s.chip.get (Reg.SEQ_LDR_STAT_defer k)) t = false) :
    Completes (.ldrSwap k t true) s [Reg.SEQ_LDR_STAT_defer k, Reg.SEQ_FAULT_code k, Reg.SEQ_FAULT_class k,
      Reg.SEQ_FLAGS_fault k] [.log, .cl] (fun u => hasBit (u.get (Reg.SEQ_LDR_STAT_defer k)) t = true ∧
        u.get (Reg.SEQ_FAULT_code k) = 0x0523) := by
  have hx : exec (.ldrSwap k t true) s = s.act fun c =>
      ((c.swapWaited k t).setBitOf (Reg.SEQ_LDR_STAT_defer k) t).noteCl 0x0523 k t :=
    State.act_congr (Chip.swapNow_deferred hr hb h hdefer)
  refine completes_of_act hx hd (((Chip.Frame.modCl _ _ _ _ (by simp)).trans (.setBitOf _ _ _ _ (by simp))).trans
    (.noteCl _ _ _ _ (by simp) (by decide) (by decide) (by simp))) ?_
  rw [Chip.settle_get, Chip.settle_get]
  exact ⟨Chip.hasBit_deferred _ t.isLt, Chip.get_record_code _ k.isLt (by decide) ..⟩

end

end

/-- Settles O36, one lemma per clause. -/
theorem larderSwaps : Obligations.LarderSwaps := by
  unfold Obligations.LarderSwaps
  intro s k t hd hs hlen
  exact ⟨fun m hage htakes => ldrSwapRequest_completes hd hs hlen m hage htakes,
    fun hc => ⟨ldrCheckEnd_good hd hs hlen hc, ldrCheckEnd_bad hd hs hlen hc⟩,
    fun hr hb => ⟨ldrSwap_made hd hs hlen hr hb, ldrSwap_waits hd hs hr hb, ldrSwap_deferred hd hr hb⟩,
    fun b h => completes_unchanged rfl hd (Chip.swapNow_idle h b)⟩

end Sys2Proof.Machine
end

section
/-! SUPPORT. The registers that a change of a cluster's state, a fault and a held safe state write, all others left as they were. -/

namespace Sys2Proof.Machine

namespace Chip

/-- The fields that a change of a cluster's state, a fault of a cluster and a held safe state write. -/
def swayed : List Field :=
  (List.range 4).flatMap (fun k => Reg.SEQ_STAT_state k :: stirredFields k) ++ (List.range 16).flatMap sliceFields ++
    (List.range 12).flatMap islandFields ++ (List.range 3).map Reg.PWM_TL_STAT_state ++
    [Reg.PWM_TL_STAT_bad, Reg.CLK_STAT_rgn_a_gated, Reg.CLK_STAT_rgn_b_gated, Reg.SAFE_FLAGS_asc_blocked,
      Reg.SAFE_CTR_STAT_pos_out, Reg.SAFE_CTR_STAT_neg_out, Reg.SAFE_CTR_STAT_pos_busy, Reg.SAFE_CTR_STAT_neg_busy,
      Reg.SAFE_CTR_STAT_drop, Reg.SAFE_CTR_STAT_open_held, Reg.CEL_STAT_log_head, Reg.CEL_STAT_log_wrapped]

/-- The keys of all other fields. -/
def calm (q : Nat) : Bool := !swayed.any fun f => f.key == q

theorem calm_ne {f g : Field} (hf : calm f.key = true) (hg : g ∈ swayed) : f.key ≠ g.key := by
  intro e
  simp only [calm, Bool.not_eq_true', List.any_eq_false, beq_iff_eq] at hf
  exact hf g hg e.symm

theorem swayed_cluster {k : Nat} (hk : k < 4) {f : Field} (h : f ∈ Reg.SEQ_STAT_state k :: stirredFields k) : f ∈ swayed := by
  simp only [swayed, List.mem_append]
  exact .inl (.inl (.inl (.inl (List.mem_flatMap.2 ⟨k, List.mem_range.2 hk, h⟩))))

theorem swayed_stirred {k : Nat} (hk : k < 4) {f : Field} (h : f ∈ stirredFields k) : f ∈ swayed :=
  swayed_cluster hk (.tail _ h)

theorem swayed_slice {n : Nat} (hn : n < 16) {f : Field} (h : f ∈ sliceFields n) : f ∈ swayed := by
  simp only [swayed, List.mem_append]
  exact .inl (.inl (.inl (.inr (List.mem_flatMap.2 ⟨n, List.mem_range.2 hn, h⟩))))

theorem swayed_island {n : Nat} (hn : n < 12) {f : Field} (h : f ∈ islandFields n) : f ∈ swayed := by
  simp only [swayed, List.mem_append]
  exact .inl (.inl (.inr (List.mem_flatMap.2 ⟨n, List.mem_range.2 hn, h⟩)))

theorem swayed_level {p : Nat} (hp : p < 3) : Reg.PWM_TL_STAT_state p ∈ swayed := by
  simp only [swayed, List.mem_append]
  exact .inl (.inr (List.mem_map.2 ⟨p, List.mem_range.2 hp, rfl⟩))

/-- The calm fields of c keep their values in d. -/
def Calm (c d : Chip) : Prop := ∀ f : Field, calm f.key = true → d.get f = c.get f

namespace Calm

variable {z s : Chip} {k n : Nat}

theorem refl (c : Chip) : c.Calm c := fun _ _ => rfl

theorem trans {c d e : Chip} (h : c.Calm d) (k : d.Calm e) : c.Calm e := fun f hf => (k f hf).trans (h f hf)

theorem ite {c : Prop} [Decidable c] {a b : Chip} (ha : z.Calm a) (hb : z.Calm b) : z.Calm (if c then a else b) := by
  split <;> assumption

theorem each {α : Type} {l : List α} {f : α → Chip → Chip} (h : z.Calm s)
    (hf : ∀ a ∈ l, ∀ t, z.Calm t → z.Calm (f a t)) : z.Calm (forEach l f s) := forEach_preserves hf h

theorem same {t : Chip} (h : z.Calm s) (hr : t.regs = s.regs) : z.Calm t :=
  fun f hf => by rw [← h f hf, Chip.get, Chip.get, hr]

theorem set {f : Field} (hf : f ∈ swayed) (v : Nat) (h : z.Calm s) : z.Calm (s.set f v) :=
  fun g hg => (get_set_other s (calm_ne hg hf) v).trans (h g hg)

theorem put {f : Field} (hf : f ∈ swayed) (b : Bool) (h : z.Calm s) : z.Calm (s.put f b) := h.set hf _

theorem sets {l : List (Field × Nat)} (hl : ∀ p ∈ l, p.1 ∈ swayed) (h : z.Calm s) : z.Calm (s.sets l) := by
  induction l generalizing s with
  | nil => exact h
  | cons p l ih => exact ih (fun q hq => hl q (.tail _ hq)) (h.set (hl p (.head _)) p.2)

theorem modCl {f : ClusterS → ClusterS} (h : z.Calm s) : z.Calm (s.modCl k f) := h.same rfl

theorem modSlice {f : SliceS → SliceS} (h : z.Calm s) : z.Calm (s.modSlice n f) := h.same rfl

theorem modIsl {f : IslandS → IslandS} (h : z.Calm s) : z.Calm (s.modIsl n f) := h.same rfl

theorem record {code cls inst cluster region data : Nat} (h : z.Calm s) :
    z.Calm (s.record code cls inst cluster region data) := by
  refine h.trans fun f hf => (Frame.record s code cls inst cluster region data (ps := [.log]) (fs := swayed) (.head _)
    (fun _ => ⟨by simp [swayed], by simp [swayed]⟩) fun hc => ?_).1 f fun g hg => calm_ne hf hg
  exact ⟨swayed_stirred hc (by simp [stirredFields]), swayed_stirred hc (by simp [stirredFields]),
    swayed_stirred hc (by simp [stirredFields])⟩

theorem unrecord {p : LogEntry → Bool} (h : z.Calm s) : z.Calm (s.unrecord p) := by
  unfold Chip.unrecord
  split <;> exact h.same rfl

/-! ### Slices -/

theorem accrue {t : Nat} (h : z.Calm s) : z.Calm (s.accrue n t) := by
  have hone : ∀ {s : Chip} {n : Nat}, z.Calm s → z.Calm (s.accrueOne n t) := fun hs => .ite hs hs.modSlice
  exact .ite (hone (hone h)) (hone h)

theorem showOutputs (hn : n < 16) (h : z.Calm s) : z.Calm (s.showOutputs n) := by
  unfold Chip.showOutputs
  extract_lets hi lo t s1 s2
  have h1 : z.Calm s1 := .ite h h.modSlice
  have h2 : z.Calm s2 := .ite h1 h1.modSlice
  exact (h2.put (swayed_slice hn (by simp [sliceFields])) _).put (swayed_slice hn (by simp [sliceFields])) _

theorem outputs (hn : n < 16) (h : z.Calm s) : z.Calm (s.outputs n) := by
  unfold Chip.outputs
  split
  next h3 =>
    have ho := outerOf_lt h3
    extract_lets p s1
    have h1 : z.Calm s1 := (h.showOutputs (by omega)).showOutputs (by omega)
    exact h1.set (swayed_level (by omega)) _
  next => exact h.showOutputs hn

theorem dropGates (h : z.Calm s) : z.Calm (s.dropGates n) := by
  unfold Chip.dropGates
  extract_lets p s1
  have h1 : z.Calm s1 := .ite h h.modSlice
  exact .ite (.ite h1 h1.modSlice) h

theorem fallH {cut : Bool} (hn : n < 16) (h : z.Calm s) : z.Calm (s.fallH n cut) :=
  .ite (h.modSlice.put (swayed_slice hn (by simp [sliceFields])) _) h.modSlice

theorem fallL {cut : Bool} (hn : n < 16) (h : z.Calm s) : z.Calm (s.fallL n cut) :=
  .ite h (.ite (h.modSlice.put (swayed_slice hn (by simp [sliceFields])) _) h.modSlice)

theorem riseH {t : Nat} (h : z.Calm s) : z.Calm (s.riseH n t) := .ite h.modSlice h.modSlice

theorem riseL {t : Nat} (h : z.Calm s) : z.Calm (s.riseL n t) := .ite h.modSlice h.modSlice

theorem setGate {b : Bool} (hn : n < 16) (h : z.Calm s) : z.Calm (s.setGate n b) := by
  unfold Chip.setGate
  extract_lets s1 hi lo s2 s3 compl s4 s5
  have h1 : z.Calm s1 := h.accrue.put (swayed_slice hn (by simp [sliceFields])) _
  have h2 : z.Calm s2 := .ite (h1.fallH hn) h1
  have h3 : z.Calm s3 := .ite (h2.fallL hn) h2
  have h4 : z.Calm s4 := .ite h3.riseL h3
  have h5 : z.Calm s5 := .ite h4.riseH h4
  exact .ite h (.ite (h1.accrue.modSlice.outputs hn) (h5.modSlice.dropGates.outputs hn))

theorem setOvr {code : Nat} (hn : n < 16) (h : z.Calm s) : z.Calm (s.setOvr n code) :=
  .ite h ((h.accrue.modSlice.set (swayed_slice hn (by simp [sliceFields])) _).outputs hn)

theorem setOvrs {t : Chip} {code : Nat} (h : z.Calm s) : z.Calm (s.setOvrs (t.slicesOf k) code) :=
  .each h fun _ hn _ hu => hu.setOvr (mem_slicesOf_lt hn)

/-! ### The safe state held -/

theorem putSelOne {sel : Nat} (hk : k < 4) (h : z.Calm s) : z.Calm (s.putSelOne k sel) := by
  unfold Chip.putSelOne
  extract_lets s1 s2
  have h1 : z.Calm s1 := .ite h h.modCl
  exact ((h1.set (swayed_stirred hk (by simp [stirredFields])) _).set (swayed_stirred hk (by simp [stirredFields])) _).setOvrs

theorem followSel (h : z.Calm s) : z.Calm s.followSel := .ite h (h.putSelOne (by decide))

theorem putSel {sel : Nat} (hk : k < 4) (h : z.Calm s) : z.Calm (s.putSel k sel) := (h.putSelOne hk).followSel

theorem selectBy {src : Nat} {high low : Bool} (hk : k < 4) (h : z.Calm s) : z.Calm (s.selectBy k src high low) := by
  unfold Chip.selectBy
  extract_lets prev s1 side s2
  have h1 : z.Calm s1 := .ite (record (modCl h)) h
  clear_value s1
  have h2 : z.Calm s2 := .ite h1 (record (put (by simp [swayed]) _ (modCl h1)))
  exact .ite (h1.putSel hk) (.ite (.ite (h1.putSel hk) (h2.putSel hk)) (.ite (h1.putSel hk) (h1.putSel hk)))

theorem evalRule (hk : k < 4) (h : z.Calm s) : z.Calm (s.evalRule k) := by
  unfold Chip.evalRule
  split
  extract_lets th s1 s2 high low s3
  have h1 : z.Calm s1 :=
    (h.set (swayed_stirred hk (by simp [stirredFields])) _).set (swayed_stirred hk (by simp [stirredFields])) _
  have h2 : z.Calm s2 := .ite (h1.set (swayed_stirred hk (by simp [stirredFields])) _) h1
  have h3 : z.Calm s3 := .ite (h2.put (swayed_stirred hk (by simp [stirredFields])) _) h2
  exact .ite h2.followSel (.ite (.ite (h2.putSel hk) h2)
    (.ite h3 (.ite (h3.putSel hk) (.ite (h3.putSel hk) (h3.selectBy hk)))))

theorem refreshHold (hk : k < 4) (h : z.Calm s) : z.Calm (s.refreshHold k) := by
  unfold Chip.refreshHold
  extract_lets s1 osp s2
  have h2 : z.Calm s2 :=
    ((h.modCl (s := s)).set (swayed_stirred hk (by simp [stirredFields])) _).set (swayed_stirred hk (by simp [stirredFields])) _
  exact .ite h.followSel (.ite (.ite (h.evalRule hk) h) (.ite h h2.setOvrs.followSel))

theorem demandBegins (hk : k < 4) (h : z.Calm s) : z.Calm (s.demandBegins k) := .ite (h.evalRule hk) h

/-! ### A change of state -/

theorem openGate {g : Nat} (h : z.Calm s) : z.Calm (s.openGate g) := by
  unfold Chip.openGate
  refine .ite h (same (h.put ?_ false) rfl)
  split <;> simp [swayed]

theorem abortLeak {reason : Nat} (hn : n < 12) (h : z.Calm s) : z.Calm (s.abortLeak n reason) := by
  unfold Chip.abortLeak
  refine .ite ?_ h
  refine (sets (fun p hp => swayed_island hn ?_) h).modIsl.modIsl.put (swayed_island hn (by simp [islandFields])) _
  simp only [List.mem_cons, List.not_mem_nil, or_false] at hp
  rcases hp with rfl | rfl | rfl | rfl | rfl <;> simp [islandFields]

theorem ctrMove {neg on : Bool} (h : z.Calm s) : z.Calm (s.ctrMove neg on) := by
  unfold Chip.ctrMove
  extract_lets s1 _ s2
  have h1 : z.Calm s1 := h.sets (by
    simp only [List.forall_mem_cons, List.not_mem_nil, false_imp_iff, implies_true, and_true]
    cases neg <;> simp [swayed])
  have h2 : z.Calm s2 := .ite (h1.same rfl) (h1.same rfl)
  exact h2.put (by simp [swayed]) _

theorem applyContactors {force : Bool} (h : z.Calm s) : z.Calm (s.applyContactors force) := by
  unfold Chip.applyContactors
  extract_lets held block one s1 s2
  have hone : ∀ (cmd out : Field) (neg : Bool) (t : Chip), z.Calm t → z.Calm (one cmd out neg t) :=
    fun _ _ _ _ ht => .ite ht.ctrMove (.ite ht.ctrMove ht)
  clear_value one
  exact (hone _ _ _ _ (hone _ _ _ _ h)).put (by simp [swayed]) _

theorem enter (hk : k < 4) {st : Nat} (h : z.Calm s) : z.Calm (s.enter k st) := by
  have hf : ∀ f ∈ stirredFields k, f ∈ swayed := fun f hf => swayed_stirred hk hf
  unfold Chip.enter
  extract_lets old s1 s2 s3 s4 s5 s6 s7 s8 s9 s10 s11 s12 s13
  refine .ite h ?_
  have h1 : z.Calm s1 := (h.set (swayed_cluster hk (.head _)) st).set (hf _ (by simp [stirredFields])) 1
  clear_value s1
  have h3 : z.Calm s3 := h1.modCl.put (hf _ (by simp [stirredFields])) _
  clear_value s3
  have h4 : z.Calm s4 := by
    have hcarry : z.Calm (forEach (s3.slicesOf k) (fun n t => t.resumeCarrier n) s3) :=
      .each h3 fun _ _ _ ht => .ite ht.modSlice ht.modSlice
    exact .ite (.each hcarry.openGate fun _ _ _ ht => ht.openGate) h3
  clear_value s4
  have h5 : z.Calm s5 := .ite (.each (.modCl h4) fun _ _ _ ht => ht.modSlice) h4
  clear_value s5
  have h6 : z.Calm s6 := by
    refine .ite h5 (.each (h5.sets ?_) fun n hn _ ht => ht.setGate (mem_slicesOf_lt hn))
    simp only [List.forall_mem_cons, List.not_mem_nil, false_imp_iff, implies_true, and_true]
    exact ⟨hf _ (by simp [stirredFields]), hf _ (by simp [stirredFields])⟩
  clear_value s6
  have h7 : z.Calm s7 := .ite (h6.set (by simp [swayed]) 0) h6
  clear_value s7
  have h10 : z.Calm s10 := (h7.put (hf _ (by simp [stirredFields])) _).modCl.put (hf _ (by simp [stirredFields])) _
  clear_value s10
  have h11 : z.Calm s11 := .ite (.ite (setOvrs (h10.set (hf _ (by simp [stirredFields])) 0)) h10) h7
  clear_value s11
  have h12 : z.Calm s12 := .ite (.each h11 fun n hn _ ht => ht.abortLeak (mem_islandsOf_lt hn)) h11
  clear_value s12
  exact (h12.refreshHold hk).applyContactors

/-! ### Faults and requests of a cluster -/

theorem setHeld {code : Nat} (hk : k < 4) (h : z.Calm s) : z.Calm (s.setHeld k code) :=
  put (swayed_stirred hk (by simp [stirredFields])) _ (modCl h)

theorem setStanding {b : Bool} (hk : k < 4) (h : z.Calm s) : z.Calm (s.setStanding k b) :=
  put (swayed_stirred hk (by simp [stirredFields])) _ (modCl h)

theorem unrefuse (hk : k < 4) (h : z.Calm s) : z.Calm (s.unrefuse k) := by
  unfold Chip.unrefuse
  split
  · exact h
  · exact unrecord (put (swayed_stirred hk (by simp [stirredFields])) _ (modCl h))

theorem stand {code inst : Nat} {latch : Bool} (hk : k < 4) (h : z.Calm s) : z.Calm (s.stand k code inst latch) := by
  unfold Chip.stand
  extract_lets s1 lt s2 s3 s4
  have h2 : z.Calm s2 := modCl (modCl (.ite h (h.unrefuse hk)))
  clear_value s2
  have h3 : z.Calm s3 := put (swayed_stirred hk (by simp [stirredFields])) _ (.ite (h2.setStanding hk) h2)
  clear_value s3
  have h4 : z.Calm s4 := .ite h3 (h3.enter hk)
  exact .ite (h4.refreshHold hk) (h4.demandBegins hk)

theorem fall {code cls inst : Nat} (hk : k < 4) (h : z.Calm s) : z.Calm (s.fall k code cls inst) := by
  unfold Chip.fall
  extract_lets s1
  have h1 : z.Calm s1 := by
    refine .ite ?_ h
    split
    · exact h.set (swayed_stirred hk (by simp [stirredFields])) _
    · exact h
  exact h1.stand hk

theorem faultCl {code cls inst data : Nat} (hk : k < 4) (h : z.Calm s) : z.Calm (s.faultCl code cls inst k data) :=
  fall hk (record h)

theorem bcmStart (hk : k < 4) (h : z.Calm s) : z.Calm (s.bcmStart k) := by
  unfold Chip.bcmStart
  split
  · exact .ite (modCl (((h.setHeld hk).enter hk).set (swayed_stirred hk (by simp [stirredFields])) 1)) (h.setHeld hk)
  · exact h.setHeld hk

end Calm

end Chip

end Sys2Proof.Machine
end

section
/-! SUPPORT. The operations of a position channel: what each writes, and what it leaves in the registers (R292, R294, R296). -/

namespace Sys2Proof.Machine

namespace Chip

variable {s : Chip} {n : Nat}

theorem swayed_outside_channels {g : Field} (hg : g ∈ swayed) : g.key < 0x41300000 * 32 ∨ 0x41400000 * 32 ≤ g.key := by
  have all : swayed.all (fun g => decide (g.key < 0x41300000 * 32) || decide (0x41400000 * 32 ≤ g.key)) = true := by
    decide +kernel
  simpa using List.all_eq_true.1 all g hg

/-- The registers of the position channels are calm. -/
theorem calm_channel {f : Field} (hlo : 0x41300000 * 32 ≤ f.key) (hhi : f.key < 0x41400000 * 32) : calm f.key = true := by
  simp only [calm, Bool.not_eq_true', List.any_eq_false, beq_iff_eq]
  intro g hg e
  have := swayed_outside_channels hg
  omega

/-! ### A channel's state -/

theorem posS_modPos (hn : n < s.pos.length) (f : PosS → PosS) : (s.modPos n f).posS n = f (s.posS n) := nth_updNth_self f hn

theorem length_modPos (s : Chip) (n : Nat) (f : PosS → PosS) : (s.modPos n f).pos.length = s.pos.length := updNth_length ..

theorem posS_congr {t : Chip} (h : t.pos = s.pos) (n : Nat) : t.posS n = s.posS n := by rw [posS, posS, h]

theorem Frame.modPos (s : Chip) (n : Nat) (f : PosS → PosS) (fs : List Field) {ps : List Part} (h : Part.pos ∈ ps) :
    s.Frame (s.modPos n f) fs ps := .pos s _ fs h

theorem Shaped.pos_lt (hs : s.Shaped) (n : Fin 2) : n.val < s.pos.length := by
  rw [hs.pos]
  exact n.isLt

/-- A flag of one bit that is not set is clear. -/
theorem get_of_not_on {f : Field} (hw : f.width = 1) (h : s.on f = false) : s.get f = 0 := by
  have hlt := s.get_lt f
  rw [hw] at hlt
  rw [on_eq, beq_eq_false_iff_ne] at h
  omega

theorem get_of_on {f : Field} (h : s.on f = true) : s.get f = 1 := by simpa [on_eq] using h

/-! ### Validity -/

theorem Frame.posOk (s : Chip) (n : Nat) :
    s.Frame (s.posOk n) [Reg.POS_STAT_qerr_count n, Reg.POS_STAT_pos_valid n, Reg.POS_FLAGS_pos_ok n] [.pos] := by
  unfold Chip.posOk
  extract_lets u
  have hu : s.Frame u [Reg.POS_STAT_qerr_count n, Reg.POS_STAT_pos_valid n, Reg.POS_FLAGS_pos_ok n] [.pos] :=
    (Frame.modPos s n _ _ (.head _)).trans (.set _ _ _ _ (.head _))
  exact .ite s hu ((hu.trans (.put _ _ _ _ (by simp))).trans (.put _ _ _ _ (by simp)))

theorem get_posOk_valid (s : Chip) (n : Nat) : (s.posOk n).get (Reg.POS_STAT_pos_valid n) = 1 := by
  unfold Chip.posOk
  extract_lets u
  split
  next h => exact get_of_on h
  next =>
    rw [get_put_other _ (by simp only [Field.key, Reg.POS_STAT_pos_valid, Reg.POS_FLAGS_pos_ok]; omega)]
    exact get_put_self _ _ _ Nat.one_pos

theorem okRun_posOk (hn : n < s.pos.length) : ((s.posOk n).posS n).okRun = (s.posS n).okRun := by
  have hpos : (s.posOk n).pos = (s.modPos n fun p => { p with qStuck := false, qLeft := 0, arm := 0 }).pos := by
    unfold Chip.posOk
    extract_lets u
    split <;> rfl
  rw [posS_congr hpos, posS_modPos hn]

theorem Frame.posLose (s : Chip) (n : Nat) :
    s.Frame (s.posLose n) [Reg.POS_STAT_idx_seen n, Reg.POS_STAT_pos_valid n, Reg.POS_FLAGS_pos_lost n] [.pos] := by
  unfold Chip.posLose
  extract_lets u
  have hu : s.Frame u [Reg.POS_STAT_idx_seen n, Reg.POS_STAT_pos_valid n, Reg.POS_FLAGS_pos_lost n] [.pos] :=
    (Frame.modPos s n _ _ (.head _)).trans (.put _ _ _ _ (.head _))
  exact .ite s ((hu.trans (.put _ _ _ _ (by simp))).trans (.put _ _ _ _ (by simp))) hu

theorem get_posLose_valid (s : Chip) (n : Nat) : (s.posLose n).get (Reg.POS_STAT_pos_valid n) = 0 := by
  unfold Chip.posLose
  extract_lets u
  split
  next =>
    rw [get_put_other _ (by simp only [Field.key, Reg.POS_STAT_pos_valid, Reg.POS_FLAGS_pos_lost]; omega)]
    exact get_put_self _ _ _ Nat.one_pos
  next h => exact get_of_not_on rfl (by simpa using h)

/-! ### Notes of a channel -/

theorem Calm.posNote {z : Chip} {code data : Nat} (h : z.Calm s) : z.Calm (s.posNote code n data) := by
  unfold Chip.posNote
  split
  · exact h.record
  · exact h.record

/-- A note of a channel leaves every channel's registers. -/
theorem get_posNote (s : Chip) (code n data : Nat) {f : Field} (hlo : 0x41300000 * 32 ≤ f.key) (hhi : f.key < 0x41400000 * 32) :
    (s.posNote code n data).get f = s.get f := Calm.posNote (.refl s) f (calm_channel hlo hhi)

theorem posNote_pos (s : Chip) (code n data : Nat) : (s.posNote code n data).pos = s.pos :=
  ((posNote_inside (M := 66) rfl (.refl s _)) .pos rfl).symm

/-! ### Speed -/

/-- The fields of a channel's speed and direction. -/
abbrev speedFields (n : Nat) : List Field :=
  [Reg.POS_SPEED_speed n, Reg.POS_STAT_spd_valid n, Reg.POS_STAT_standstill n, Reg.POS_FLAGS_standstill_ev n,
    Reg.POS_FLAGS_dir_ev n, Reg.POS_STAT_dir n, Reg.POS_EDGE_TS_t_e n]

/-- An edge's direction is shown, and the speed rules of Table 07-4 act. -/
theorem speedEdge_spec (s : Chip) (n : Nat) (back : Bool) (x : Nat) :
    s.Frame (s.speedEdge n back x) (speedFields n) [.pos] ∧ (s.speedEdge n back x).get (Reg.POS_STAT_dir n) = b2n back := by
  unfold speedEdge
  extract_lets s1 p first rev s2 s3 s4 v s5 s6
  have h1 : s.Frame s1 (speedFields n) [.pos] := by
    refine .ite s ((Frame.sets _ _ s ?_).trans (.modPos _ _ _ _ (.head _))) (.refl ..)
    simp
  have h2 : s.Frame s2 (speedFields n) [.pos] := .ite s (h1.trans (.put _ _ _ _ (by simp))) h1
  have h3 : s.Frame s3 (speedFields n) [.pos] := (h2.trans (.put _ _ _ _ (by simp))).trans (.put _ _ _ _ (by simp))
  have hdir : s3.get (Reg.POS_STAT_dir n) = b2n back := get_put_self _ _ _ Nat.one_pos
  clear_value s3
  have hlater {w : Chip} {fs : List Field} (h : s3.Frame w fs [.pos]) (hf : ∀ g ∈ fs, (Reg.POS_STAT_dir n).key ≠ g.key)
      (hsub : ∀ g ∈ fs, g ∈ speedFields n) : s.Frame w (speedFields n) [.pos] ∧ w.get (Reg.POS_STAT_dir n) = b2n back :=
    ⟨h3.trans (h.mono hsub (fun _ h => h)), (h.1 _ hf).trans hdir⟩
  refine hlater (fs := [Reg.POS_SPEED_speed n, Reg.POS_STAT_spd_valid n, Reg.POS_EDGE_TS_t_e n]) ?_ ?_ (by simp)
  · have h6 : s3.Frame s6 [Reg.POS_SPEED_speed n, Reg.POS_STAT_spd_valid n, Reg.POS_EDGE_TS_t_e n] [.pos] := by
      refine .ite _ ?_ (.ite _ ?_ (.refl ..)) <;>
        exact ((Frame.set _ _ _ _ (by simp)).trans (.put _ _ _ _ (by simp))).trans (.modPos _ _ _ _ (.head _))
    exact (h6.trans (.modPos _ _ _ _ (.head _))).trans (.set _ _ _ _ (by simp))
  · simp only [List.forall_mem_cons, List.not_mem_nil, false_imp_iff, implies_true, and_true, Field.key, Reg.POS_STAT_dir,
      Reg.POS_SPEED_speed, Reg.POS_STAT_spd_valid, Reg.POS_EDGE_TS_t_e]
    omega

/-! ### Snapshots and repeated evaluations -/

/-- The fields of a channel's snapshot. -/
abbrev snapFields (n : Nat) : List Field :=
  [Reg.POS_SNAP_CNT_cnt n, Reg.POS_SNAP_REV_rev n, Reg.POS_SNAP_ANG_angle n, Reg.POS_SNAP_TS_t_e n, Reg.POS_SNAP_SPD_speed n,
    Reg.POS_SNAP_TNOW_tick n]

theorem Frame.posSnap (s : Chip) (n : Nat) : s.Frame (s.posSnap n) (snapFields n) [.pos] :=
  (Frame.modPos s n _ _ (.head _)).trans (.sets _ _ _ (by simp))

/-- An event before which no evaluation was made in its tick: it acts, and at most the snapshot is taken again. -/
theorem posEvent_first (h : (s.posS n).evalAt ≠ some s.now) (f : Chip → Chip) :
    (f s).Frame (s.posEvent n f) (snapFields n) [.pos] := by
  have hredo : ((s.posS n).evalAt == some s.now && (decide (s.posMode n = 1) || decide (s.posMode n = 2))) = false := by simp [h]
  unfold posEvent
  simp only [hredo, Bool.false_eq_true, if_false]
  exact .ite _ (.posSnap ..) (.refl ..)

end Chip

end Sys2Proof.Machine
end

section
/-! SUPPORT. The sources of a position channel: self-timed evaluations, Hall states, silent sources, frames and strobes (R270, R279,
R286 to R291). -/

namespace Sys2Proof.Machine

namespace Chip

variable {s : Chip} {n : Nat}

/-! ### A channel that is off -/

/-- Mode 0 delivers the angle of the channel's latest event. -/
theorem selfEval_off (h : s.posMode n = 0) : s.Frame (s.selfEval n) [Reg.POS_ANGLE_lat_ang n] [.pos] ∧
    (s.selfEval n).get (Reg.POS_ANGLE_lat_ang n) = s.get (Reg.POS_ANGLE_angle n) % 65536 := by
  unfold selfEval
  generalize hu : (s.modPos n _) = u
  have hframe : s.Frame u [Reg.POS_ANGLE_lat_ang n] [.pos] := hu ▸ .modPos _ _ _ _ (.head _)
  have hmode : u.posMode n = 0 := by rw [← h, ← hu]; rfl
  have hang : u.get (Reg.POS_ANGLE_angle n) = s.get (Reg.POS_ANGLE_angle n) := by rw [← hu]; rfl
  have heval : u.posEval n = u.latchAngle n := by simp [posEval, hmode]
  rw [heval]
  unfold latchAngle
  simp only [hmode, OfNat.zero_ne_ofNat, zero_ne_one, if_false, decide_false, decide_true, Bool.or_true, if_true]
  refine ⟨hframe.trans ((Frame.modPos _ _ _ _ (.head _)).trans (.set _ _ _ _ (.head _))), ?_⟩
  have hadv : unsgn 16 ((u.get (Reg.POS_ANGLE_angle n) : Int) + 0) = s.get (Reg.POS_ANGLE_angle n) % 65536 := by
    rw [hang, unsgn, add_zero]
    norm_cast
  exact (get_set_self ..).trans (by rw [hadv]; exact Nat.mod_mod_of_dvd _ (dvd_refl 65536))

/-! ### Hall states -/

theorem posOwner_congr {t : Chip} (h : t.img = s.img) (n : Nat) : t.posOwner n = s.posOwner n := by
  have htopo (k : Nat) : t.topo k = s.topo k := by rw [topo, topo, h]
  simp only [posOwner, htopo]

theorem posOwner_lt {k : Nat} (h : s.posOwner n = some k) : k < 4 := List.mem_range.1 (List.mem_of_find?_eq_some h)

/-- What a forward-adjacent Hall change shows. -/
structure HallForward (n h e : Nat) (t : Chip) : Prop where
  hall : t.get (Reg.POS_STAT_hall n) = h
  valid : t.get (Reg.POS_STAT_pos_valid n) = 1
  dir : t.get (Reg.POS_STAT_dir n) = 0
  angle : t.get (Reg.POS_ANGLE_angle n) = e

/-- What an illegal Hall state shows. -/
structure HallIllegal (n h : Nat) (t : Chip) : Prop where
  hall : t.get (Reg.POS_STAT_hall n) = h
  valid : t.get (Reg.POS_STAT_pos_valid n) = 0
  err : t.get (Reg.POS_FLAGS_hall_err n) = 1

theorem hallEntry_lt (s : Chip) (n h : Nat) : s.hallEntry n h < 65536 := by
  unfold hallEntry
  split
  · exact s.get_lt (Reg.POS_HALL_ANG_e_lo n _)
  · exact s.get_lt (Reg.POS_HALL_ANG_e_hi n _)

theorem hallEntry_congr {t : Chip} (h : ∀ j, t.get (Reg.POS_HALL_ANG_e_lo n j) = s.get (Reg.POS_HALL_ANG_e_lo n j) ∧
    t.get (Reg.POS_HALL_ANG_e_hi n j) = s.get (Reg.POS_HALL_ANG_e_hi n j)) (m : Nat) : t.hallEntry n m = s.hallEntry n m := by
  unfold hallEntry
  rw [(h _).1, (h _).2]

section
variable {h : Nat} (hmode : s.posMode n = 2) (hh : h < 8) (hch : n < 2)

omit hmode hh in
theorem hallIllegal_posLose (hhall : s.get (Reg.POS_STAT_hall n) = h) :
    HallIllegal n h ((s.posLose n).put (Reg.POS_FLAGS_hall_err n) true) := by
  have hlose := Frame.posLose s n
  have hvalid := s.get_posLose_valid n
  refine ⟨?_, ?_, get_put_self _ _ _ Nat.one_pos⟩
  · refine (get_put_other _ ?_ true).trans ((hlose.1 _ ?_).trans hhall) <;>
    · simp only [List.forall_mem_cons, List.not_mem_nil, false_imp_iff, implies_true, and_true, Field.key, Reg.POS_STAT_hall,
        Reg.POS_FLAGS_hall_err, Reg.POS_STAT_idx_seen, Reg.POS_STAT_pos_valid, Reg.POS_FLAGS_pos_lost]
      omega
  · refine (get_put_other _ ?_ true).trans hvalid
    simp only [Field.key, Reg.POS_STAT_pos_valid, Reg.POS_FLAGS_hall_err]
    omega

include hmode hh

/-- A change to the forward-adjacent state moves the angle to the state's entry (R279). -/
theorem hallDeliver_forward (hn : legalHall h = true) (ho : legalHall (s.get (Reg.POS_STAT_hall n)) = true)
    (hlo : 5461 ≤ (s.hallEntry n h + 65536 - s.hallEntry n (s.get (Reg.POS_STAT_hall n))) % 65536)
    (hhi : (s.hallEntry n h + 65536 - s.hallEntry n (s.get (Reg.POS_STAT_hall n))) % 65536 ≤ 16384) :
    HallForward n h (s.hallEntry n h) (s.hallDeliver n h) := by
  unfold hallDeliver
  extract_lets a s1 bcm _ f b u v
  have hentry (m : Nat) : s1.hallEntry n m = s.hallEntry n m := by
    refine hallEntry_congr (fun j => ⟨get_set_other _ ?_ _, get_set_other _ ?_ _⟩) m <;>
    · simp only [Field.key, Reg.POS_STAT_hall, Reg.POS_HALL_ANG_e_lo, Reg.POS_HALL_ANG_e_hi]
      omega
  have hmode1 : s1.posMode n = 2 := by
    rw [← hmode, posMode, posMode, get_set_other _ (by simp only [Field.key, Reg.POS_STAT_hall, Reg.POS_CFG_mode]; omega)]
  have hf : f = (s.hallEntry n h + 65536 - s.hallEntry n (s.get (Reg.POS_STAT_hall n))) % 65536 := by
    simp only [f, hentry, a]
  have hhall : s1.get (Reg.POS_STAT_hall n) = h := (get_set_self ..).trans (Nat.mod_eq_of_lt hh)
  rw [if_neg (by simp [hmode1]), if_neg (by simp [hn]), if_neg (by simp [a, ho]), if_pos (hf ▸ ⟨hlo, hhi⟩)]
  have hok := Frame.posOk s1 n
  obtain ⟨hspeed, hdir⟩ := speedEdge_spec (s1.posOk n) n false f
  have hkeep {g : Field} (hg : ∀ x ∈ speedFields n, g.key ≠ x.key) : u.get g = (s1.posOk n).get g := hspeed.1 g hg
  have huhall : u.get (Reg.POS_STAT_hall n) = h := by
    refine (hkeep ?_).trans ((hok.1 _ ?_).trans hhall) <;>
    · simp only [List.forall_mem_cons, List.not_mem_nil, false_imp_iff, implies_true, and_true, Field.key, Reg.POS_STAT_hall,
        Reg.POS_SPEED_speed, Reg.POS_STAT_spd_valid, Reg.POS_STAT_standstill, Reg.POS_FLAGS_standstill_ev,
        Reg.POS_FLAGS_dir_ev, Reg.POS_STAT_dir, Reg.POS_EDGE_TS_t_e, Reg.POS_STAT_qerr_count, Reg.POS_STAT_pos_valid,
        Reg.POS_FLAGS_pos_ok]
      omega
  have huvalid : u.get (Reg.POS_STAT_pos_valid n) = 1 := by
    refine (hkeep ?_).trans (s1.get_posOk_valid n)
    simp only [List.forall_mem_cons, List.not_mem_nil, false_imp_iff, implies_true, and_true, Field.key,
      Reg.POS_SPEED_speed, Reg.POS_STAT_spd_valid, Reg.POS_STAT_standstill, Reg.POS_FLAGS_standstill_ev,
      Reg.POS_FLAGS_dir_ev, Reg.POS_STAT_dir, Reg.POS_EDGE_TS_t_e, Reg.POS_STAT_pos_valid]
    omega
  have huentry : u.hallEntry n h = s.hallEntry n h := by
    rw [← hentry]
    refine hallEntry_congr (fun j => ⟨(hkeep ?_).trans (hok.1 _ ?_), (hkeep ?_).trans (hok.1 _ ?_)⟩) h <;>
    · simp only [List.forall_mem_cons, List.not_mem_nil, false_imp_iff, implies_true, and_true, Field.key, Reg.POS_HALL_ANG_e_lo,
        Reg.POS_HALL_ANG_e_hi, Reg.POS_SPEED_speed, Reg.POS_STAT_spd_valid, Reg.POS_STAT_standstill, Reg.POS_FLAGS_standstill_ev,
        Reg.POS_FLAGS_dir_ev, Reg.POS_STAT_dir, Reg.POS_EDGE_TS_t_e, Reg.POS_STAT_qerr_count, Reg.POS_STAT_pos_valid,
        Reg.POS_FLAGS_pos_ok]
      omega
  have hudir : u.get (Reg.POS_STAT_dir n) = 0 := hdir
  clear_value u
  refine ⟨?_, ?_, ?_, ?_⟩
  · refine (get_set_other u ?_ _).trans huhall
    simp only [Field.key, Reg.POS_ANGLE_angle, Reg.POS_STAT_hall]
    omega
  · refine (get_set_other u ?_ _).trans huvalid
    simp only [Field.key, Reg.POS_ANGLE_angle, Reg.POS_STAT_pos_valid]
    omega
  · refine (get_set_other u ?_ _).trans hudir
    simp only [Field.key, Reg.POS_ANGLE_angle, Reg.POS_STAT_dir]
    omega
  · refine (get_set_self u (Reg.POS_ANGLE_angle n) _).trans ?_
    rw [huentry]
    exact Nat.mod_eq_of_lt (hallEntry_lt ..)

include hch

/-- An illegal state takes the position away (R280). -/
theorem hallDeliver_illegal (hn : legalHall h = false) : HallIllegal n h (s.hallDeliver n h) := by
  unfold hallDeliver
  extract_lets a s1 bcm u
  have hmode1 : s1.posMode n = 2 := by
    rw [← hmode, posMode, posMode, get_set_other _ (by simp only [Field.key, Reg.POS_STAT_hall, Reg.POS_CFG_mode]; omega)]
  have hhall : s1.get (Reg.POS_STAT_hall n) = h := (get_set_self ..).trans (Nat.mod_eq_of_lt hh)
  rw [if_neg (by simp [hmode1]), if_pos (by simp [hn])]
  have hlost := hallIllegal_posLose hhall
  have hu : HallIllegal n h u := ⟨hlost.hall, hlost.valid, hlost.err⟩
  clear_value u bcm
  split
  · exact hu
  · refine ⟨(get_posNote u _ n _ ?_ ?_).trans hu.hall, (get_posNote u _ n _ ?_ ?_).trans hu.valid,
      (get_posNote u _ n _ ?_ ?_).trans hu.err⟩ <;>
    · simp only [Field.key, Reg.POS_STAT_hall, Reg.POS_STAT_pos_valid, Reg.POS_FLAGS_hall_err]
      omega

end

end Chip

end Sys2Proof.Machine
end

section
/-! SUPPORT. HALL_CHANGE: what the channel shows, and what its owner makes of it (R172, R211, R279, R280). -/

namespace Sys2Proof.Machine

namespace Chip

variable {s : Chip} {n h : Nat}

/-- What the channel's owner of type 5 makes of a delivered Hall state: a RUN that waits is taken, an illegal state is a fault. -/
def hallServed (s : Chip) (n h : Nat) : Chip :=
  match s.posOwner n with
  | none => s
  | some k =>
    if (s.topo k).type != 5 then s
    else if legalHall h then (if (s.cluster k).held = 1 && s.quiet k && s.startDone k then s.bcmStart k else s)
    else (s.put (Reg.SEQ_FLAGS_hall_ev k) true).faultCl 0x051A 2 k k h

/-- The owner leaves the channels' registers. -/
theorem get_hallServed (s : Chip) (n h : Nat) {f : Field} (hlo : 0x41300000 * 32 ≤ f.key) (hhi : f.key < 0x41400000 * 32) :
    (s.hallServed n h).get f = s.get f := by
  have hcalm := calm_channel hlo hhi
  unfold hallServed
  split
  next => rfl
  next k hk =>
    have hk4 := posOwner_lt hk
    have hput : (s.put (Reg.SEQ_FLAGS_hall_ev k) true).get f = s.get f := by
      refine get_put_other s ?_ true
      simp only [Field.key, Reg.SEQ_FLAGS_hall_ev] at hlo ⊢
      omega
    split
    · rfl
    · split
      · split
        · exact Calm.bcmStart hk4 (.refl s) f hcalm
        · rfl
      · exact (Calm.faultCl hk4 (.refl _) f hcalm).trans hput

/-- An illegal state of a type-5 cluster's channel is a fault of it. -/
theorem faulted_hallServed (hs : s.Shaped) {k : Nat} (hk : s.posOwner n = some k) (htype : (s.topo k).type = 5)
    (hh : legalHall h = false) : (s.hallServed n h).Faulted k 0x051A := by
  have hserved : s.hallServed n h = (s.put (Reg.SEQ_FLAGS_hall_ev k) true).faultCl 0x051A 2 k k h := by
    unfold hallServed
    rw [hk]
    exact (if_neg (by simp [htype])).trans (if_neg (by simp [hh]))
  rw [hserved]
  exact faulted_faultCl (s := s.put _ true) (put_shape (.refl s) hs) ⟨k, posOwner_lt hk⟩ ..

theorem get_snapped {c d : Chip} (hf : c.Frame d (snapFields n) [.pos]) {f : Field}
    (hlt : f.key < (Reg.POS_SNAP_CNT_cnt n).key) : d.get f = c.get f := by
  refine hf.1 f ?_
  simp only [List.forall_mem_cons, List.not_mem_nil, false_imp_iff, implies_true, and_true, Field.key, Reg.POS_SNAP_CNT_cnt,
    Reg.POS_SNAP_REV_rev, Reg.POS_SNAP_ANG_angle, Reg.POS_SNAP_TS_t_e, Reg.POS_SNAP_SPD_speed, Reg.POS_SNAP_TNOW_tick] at hlt ⊢
  omega

end Chip

section
variable {s : State} {n : Fin 2} {h : Fin 8} (hd : s.chip.pwr.dieReset = false)
include hd

theorem hallChange_same (hh : s.chip.get (Reg.POS_STAT_hall n) = h.val) :
    Completes (.hallChange n h) s [] [] (fun _ => True) :=
  completes_unchanged (f := fun c => if c.get (Reg.POS_STAT_hall n) = h.val then c
    else (c.posEvent n fun c => c.hallDeliver n h).hallServed n h) rfl hd (if_pos hh)

variable (hmode : s.chip.posMode n = 2) (hne : s.chip.get (Reg.POS_STAT_hall n) ≠ h.val)
  (hfirst : (s.chip.posS n).evalAt ≠ some s.chip.now)

omit hd in
theorem exec_hallChange (hne : s.chip.get (Reg.POS_STAT_hall n) ≠ h.val) : exec (.hallChange n h) s =
    s.act fun c => (c.posEvent n fun c => c.hallDeliver n h).hallServed n h := State.act_congr (if_neg hne)

omit hd in
include hfirst in
/-- What a channel shows of a delivered state, its snapshot aside, HALL_CHANGE leaves. -/
theorem get_hallChange {f : Field} (hlo : 0x41300000 * 32 ≤ f.key) (hlt : f.key < (Reg.POS_SNAP_CNT_cnt n).key) :
    ((s.chip.posEvent n fun c => c.hallDeliver n h).hallServed n h).settle.get f = (s.chip.hallDeliver n h).get f := by
  have hhi : f.key < 0x41400000 * 32 := by
    simp only [Field.key, Reg.POS_SNAP_CNT_cnt] at hlt
    simp only [Field.key]
    omega
  rw [Chip.settle_get, Chip.get_hallServed _ _ _ hlo hhi, Chip.get_snapped (Chip.posEvent_first hfirst _) hlt]

include hmode hne hfirst

theorem hallChange_forward (hn : Chip.legalHall h = true) (ho : Chip.legalHall (s.chip.get (Reg.POS_STAT_hall n)) = true)
    (hlo : 5461 ≤ (s.chip.hallEntry n h + 65536 - s.chip.hallEntry n (s.chip.get (Reg.POS_STAT_hall n))) % 65536)
    (hhi : (s.chip.hallEntry n h + 65536 - s.chip.hallEntry n (s.chip.get (Reg.POS_STAT_hall n))) % 65536 ≤ 16384) :
    Touches (.hallChange n h) s [.regs, .log, .pwr, .cl, .pos, .slice, .isl, .safe] (fun t =>
      t.get (Reg.POS_STAT_hall n) = h.val ∧ t.get (Reg.POS_STAT_pos_valid n) = 1 ∧ t.get (Reg.POS_STAT_dir n) = 0 ∧
      t.get (Reg.POS_ANGLE_angle n) = s.chip.hallEntry n h) := by
  have hshown := Chip.hallDeliver_forward hmode h.isLt hn ho hlo hhi
  refine touches_of_inside (exec_hallChange hne) hd (fun t ht => execHallChange_inside (by rfl) ht) ⟨?_, ?_, ?_, ?_⟩
  · refine (get_hallChange hfirst ?_ ?_).trans hshown.hall <;>
    · simp only [Field.key, Reg.POS_STAT_hall, Reg.POS_SNAP_CNT_cnt]
      omega
  · refine (get_hallChange hfirst ?_ ?_).trans hshown.valid <;>
    · simp only [Field.key, Reg.POS_STAT_pos_valid, Reg.POS_SNAP_CNT_cnt]
      omega
  · refine (get_hallChange hfirst ?_ ?_).trans hshown.dir <;>
    · simp only [Field.key, Reg.POS_STAT_dir, Reg.POS_SNAP_CNT_cnt]
      omega
  · refine (get_hallChange hfirst ?_ ?_).trans hshown.angle <;>
    · simp only [Field.key, Reg.POS_ANGLE_angle, Reg.POS_SNAP_CNT_cnt]
      omega

theorem hallChange_illegal (hs : s.chip.Shaped) (hn : Chip.legalHall h = false) :
    Touches (.hallChange n h) s [.regs, .log, .pwr, .cl, .pos, .slice, .isl, .safe] (fun t =>
      t.get (Reg.POS_STAT_hall n) = h.val ∧ t.get (Reg.POS_STAT_pos_valid n) = 0 ∧ t.get (Reg.POS_FLAGS_hall_err n) = 1 ∧
      ∀ k ∈ (s.chip.posOwner n).toList, (s.chip.topo k).type = 5 → t.Faulted k 0x051A) := by
  have hshown := Chip.hallDeliver_illegal hmode h.isLt n.isLt hn
  refine touches_of_inside (exec_hallChange hne) hd (fun t ht => execHallChange_inside (by rfl) ht) ⟨?_, ?_, ?_, ?_⟩
  · refine (get_hallChange hfirst ?_ ?_).trans hshown.hall <;>
    · simp only [Field.key, Reg.POS_STAT_hall, Reg.POS_SNAP_CNT_cnt]
      omega
  · refine (get_hallChange hfirst ?_ ?_).trans hshown.valid <;>
    · simp only [Field.key, Reg.POS_STAT_pos_valid, Reg.POS_SNAP_CNT_cnt]
      omega
  · refine (get_hallChange hfirst ?_ ?_).trans hshown.err <;>
    · simp only [Field.key, Reg.POS_FLAGS_hall_err, Reg.POS_SNAP_CNT_cnt]
      omega
  · intro k hk htype
    have hin : s.chip.Inside 32834 (s.chip.posEvent n fun c => c.hallDeliver n h) :=
      Chip.posEvent_inside (by rfl) (.refl _ _) fun u hu => Chip.hallDeliver_inside (by rfl) hu
    have himg : (s.chip.posEvent n fun c => c.hallDeliver n h).img = s.chip.img := (hin .img rfl).symm
    have hshape : (s.chip.posEvent n fun c => c.hallDeliver n h).Shaped :=
      Chip.posEvent_shape (.refl s.chip) (fun u hu => Chip.hallDeliver_shape hu) hs
    refine Chip.settle_faulted.2 (Chip.faulted_hallServed hshape ?_ ?_ hn)
    · rw [Chip.posOwner_congr himg, Option.mem_toList.1 hk]
    · rw [Chip.topo, himg]
      exact htype

end

end Sys2Proof.Machine
end

section
/-! SUPPORT. A source that stays silent (R290, R291). -/

namespace Sys2Proof.Machine

namespace Chip

variable {s : Chip} {n m : Nat}

/-- What a lost source shows. -/
structure SourceSilent (n : Nat) (t : Chip) : Prop where
  pos : t.get (Reg.POS_STAT_pos_valid n) = 0
  spd : t.get (Reg.POS_STAT_spd_valid n) = 0
  err : t.get (Reg.POS_FLAGS_src_err n) = 1
  run : (t.posS n).okRun = 0

/-- The channel has lost its source, the note still to come. -/
def sourceGone (s : Chip) (n : Nat) : Chip :=
  ((s.posLose n).sets [(Reg.POS_STAT_spd_valid n, 0), (Reg.POS_STAT_src_ok n, 0), (Reg.POS_FLAGS_src_err n, 1)]).modPos n
    fun p => { p with okRun := 0, tmo := true, tmoDue := false }

theorem sourceLost_eq (s : Chip) (n : Nat) : ∃ code data, s.sourceLost n = (s.sourceGone n).posNote code n data := by
  unfold sourceLost
  extract_lets u v
  by_cases h : v.posMode n = 4
  · exact ⟨_, _, if_pos h⟩
  · exact ⟨_, _, if_neg h⟩

theorem sourceGone_silent (hn : n < s.pos.length) : SourceSilent n (s.sourceGone n) := by
  unfold sourceGone
  have hpos : (s.posLose n).pos.length = s.pos.length := by
    unfold posLose
    extract_lets u
    have hu : u.pos.length = s.pos.length := length_modPos ..
    split
    · exact hu
    · exact hu
  have hvalid := s.get_posLose_valid n
  generalize s.posLose n = u at hpos hvalid
  have hkeys : ([(Reg.POS_STAT_spd_valid n, 0), (Reg.POS_STAT_src_ok n, 0), (Reg.POS_FLAGS_src_err n, 1)].map
      Prod.fst).Pairwise fun f g => f.key ≠ g.key := by
    simp only [List.map_cons, List.map_nil, List.pairwise_cons, List.forall_mem_cons, List.not_mem_nil, false_imp_iff,
      implies_true, and_true, List.Pairwise.nil, Field.key, Reg.POS_STAT_spd_valid, Reg.POS_STAT_src_ok, Reg.POS_FLAGS_src_err]
    omega
  refine ⟨?_, get_sets_mem (v := 0) u (by simp) hkeys, get_sets_mem (v := 1) u (by simp) hkeys, ?_⟩
  · refine (get_sets_other u ?_).trans hvalid
    simp only [List.forall_mem_cons, List.not_mem_nil, false_imp_iff, implies_true, and_true, Field.key, Reg.POS_STAT_pos_valid,
      Reg.POS_STAT_spd_valid, Reg.POS_STAT_src_ok, Reg.POS_FLAGS_src_err]
    omega
  · rw [posS_modPos]
    exact hpos ▸ hn

theorem sourceLost_silent (hch : n < 2) (hn : n < s.pos.length) : SourceSilent n (s.sourceLost n) := by
  obtain ⟨code, data, heq⟩ := s.sourceLost_eq n
  have hgone := sourceGone_silent hn
  rw [heq]
  generalize s.sourceGone n = u at hgone
  refine ⟨(get_posNote u _ n _ ?_ ?_).trans hgone.pos, (get_posNote u _ n _ ?_ ?_).trans hgone.spd,
    (get_posNote u _ n _ ?_ ?_).trans hgone.err, ?_⟩
  case refine_7 => rw [posS_congr (posNote_pos ..), hgone.run]
  all_goals
    simp only [Field.key, Reg.POS_STAT_pos_valid, Reg.POS_STAT_spd_valid, Reg.POS_FLAGS_src_err]
    omega

section
variable {m : Nat} (hmode : s.posMode n = m) (htmo : (s.posS n).tmo = false)
include hmode htmo

theorem sourceTimeout_late (h : s.sourceTmo n < s.sourceAge n) : s.sourceTimeout n m = s.sourceLost n := by
  unfold sourceTimeout
  rw [if_neg (by simp [hmode, htmo]; omega), if_neg (by omega)]

theorem sourceTimeout_due (h : s.sourceAge n = s.sourceTmo n) :
    s.sourceTimeout n m = s.modPos n fun p => { p with tmoDue := true } := by
  unfold sourceTimeout
  rw [if_neg (by simp [hmode, htmo]; omega), if_pos h]

end

theorem sourceTimeout_early (h : (s.posS n).tmo = true ∨ s.sourceAge n < s.sourceTmo n) : s.sourceTimeout n m = s := by
  refine if_pos ?_
  rcases h with h | h <;> simp [h]

end Chip

section
variable {i : Instr} {s : State} {n : Fin 2} {m : Nat} (hx : exec i s = s.act fun c => c.sourceTimeout n m)
  (hd : s.chip.pwr.dieReset = false)
include hx hd

/-- A source silent for longer than its timeout. -/
theorem sourceTimeout_touches (hs : s.chip.Shaped) (hmode : s.chip.posMode n = m) (htmo : (s.chip.posS n).tmo = false)
    (h : s.chip.sourceTmo n < s.chip.sourceAge n) :
    Touches i s [.regs, .log, .pos] (fun t => Chip.SourceSilent n t) := by
  have hsilent := Chip.sourceLost_silent n.isLt (hs.pos_lt n)
  refine touches_of_act hx hd (Chip.sourceTimeout_inside (by rfl) (.refl _ _)) ?_
  rw [Chip.sourceTimeout_late hmode htmo h]
  generalize s.chip.sourceLost n = u at hsilent
  exact ⟨(u.settle_get _).trans hsilent.pos, (u.settle_get _).trans hsilent.spd, (u.settle_get _).trans hsilent.err,
    (congrArg PosS.okRun (Chip.posS_congr u.settle_pos n)).trans hsilent.run⟩

/-- In the very tick it waits for the tick's end. -/
theorem sourceTimeout_due_completes (hs : s.chip.Shaped) (hmode : s.chip.posMode n = m) (htmo : (s.chip.posS n).tmo = false)
    (h : s.chip.sourceAge n = s.chip.sourceTmo n) :
    Completes i s [] [.pos] (fun t => (t.posS n).tmoDue = true) := by
  have hx' : exec i s = s.act fun c => c.modPos n fun p => { p with tmoDue := true } :=
    hx.trans (State.act_congr (Chip.sourceTimeout_due hmode htmo h))
  refine completes_of_act hx' hd (.modPos _ _ _ _ (.head _)) ?_
  rw [Chip.posS_congr (Chip.settle_pos _), Chip.posS_modPos (hs.pos_lt n)]

theorem sourceTimeout_early_completes (h : (s.chip.posS n).tmo = true ∨ s.chip.sourceAge n < s.chip.sourceTmo n) :
    Completes i s [] [] (fun _ => True) := completes_unchanged hx hd (Chip.sourceTimeout_early h)

end

end Sys2Proof.Machine
end

section
/-! SUPPORT. Accepted sensor angles, SENT frames and fabric strobes (R286, R287, R289, R291). -/

namespace Sys2Proof.Machine

namespace Chip

variable {s : Chip} {n : Nat}

/-- The fields that an accepted sensor angle writes after the run's first frame. -/
abbrev sensorSpeedFields (n : Nat) : List Field :=
  [Reg.POS_STAT_dir n, Reg.POS_FLAGS_dir_ev n, Reg.POS_SPEED_speed n, Reg.POS_STAT_spd_valid n, Reg.POS_STAT_qerr_count n,
    Reg.POS_STAT_pos_valid n, Reg.POS_FLAGS_pos_ok n]

/-- The fields that an accepted sensor angle writes. -/
abbrev sensorFields (n : Nat) : List Field :=
  [Reg.POS_ANGLE_angle n, Reg.POS_EDGE_TS_t_e n, Reg.POS_STAT_src_ok n] ++ sensorSpeedFields n

/-- What an accepted sensor angle leaves. -/
structure SensorTaken (n ang : Nat) (s t : Chip) : Prop where
  frame : s.Frame t (sensorFields n) [.pos]
  angle : t.get (Reg.POS_ANGLE_angle n) = (s.posRatio n * ang + s.get (Reg.POS_OFFSET_offset n)) % 65536
  run : (t.posS n).okRun = (s.posS n).okRun + 1
  valid : 1 ≤ (s.posS n).okRun → t.get (Reg.POS_STAT_pos_valid n) = 1 ∧ t.get (Reg.POS_STAT_spd_valid n) = 1

theorem sensorAngle_taken (hn : n < s.pos.length) (ang : Nat) (tick : Int) : SensorTaken n ang s (s.sensorAngle n ang tick) := by
  unfold sensorAngle
  extract_lets p th d run s1 s2 v back s3
  have hframe2 : s.Frame s2 (sensorFields n) [.pos] := (Frame.modPos s n _ _ (.head _)).trans (.sets _ _ _ (by simp))
  have hangle2 : s2.get (Reg.POS_ANGLE_angle n) = th := by
    refine (get_sets_mem (v := th) s1 (by simp) ?_).trans (Nat.mod_mod_of_dvd _ (dvd_refl 65536))
    simp only [List.map_cons, List.map_nil, List.pairwise_cons, List.forall_mem_cons, List.not_mem_nil, false_imp_iff,
      implies_true, and_true, List.Pairwise.nil, Field.key, Reg.POS_ANGLE_angle, Reg.POS_EDGE_TS_t_e, Reg.POS_STAT_src_ok]
    omega
  have hrun2 : (s2.posS n).okRun = run := congrArg PosS.okRun (posS_modPos hn _)
  have hlen2 : n < s2.pos.length := by
    change n < s1.pos.length
    rwa [length_modPos]
  clear_value s2
  have hframe3 : s2.Frame s3 (sensorSpeedFields n) [.pos] :=
    .ite s2 ((Frame.put _ _ _ _ (by simp)).trans (.put _ _ _ _ (by simp))) (.refl ..)
  have hpos3 : s3.pos = s2.pos := by
    unfold s3
    split <;> rfl
  clear_value s3
  generalize hu : (s3.set (Reg.POS_SPEED_speed n) (if back then F32.neg v else v)).put (Reg.POS_STAT_spd_valid n) true = u
  have hframe : s2.Frame (u.posOk n) (sensorSpeedFields n) [.pos] := by
    rw [← hu]
    exact (hframe3.trans ((Frame.set _ _ _ _ (by simp)).trans (.put _ _ _ _ (by simp)))).trans
      ((Frame.posOk _ n).mono (by simp) (by simp))
  have hrun : ((u.posOk n).posS n).okRun = run := by
    have hupos : u.pos = s2.pos := by rw [← hpos3, ← hu]; rfl
    rw [okRun_posOk (by rwa [hupos]), posS_congr hupos, hrun2]
  have hspd : (u.posOk n).get (Reg.POS_STAT_spd_valid n) = 1 := by
    refine ((Frame.posOk u n).1 _ ?_).trans (hu ▸ get_put_self _ _ _ Nat.one_pos)
    simp only [List.forall_mem_cons, List.not_mem_nil, false_imp_iff, implies_true, and_true, Field.key, Reg.POS_STAT_spd_valid,
      Reg.POS_STAT_qerr_count, Reg.POS_STAT_pos_valid, Reg.POS_FLAGS_pos_ok]
    omega
  by_cases hfirst : run < 2
  · rw [if_pos hfirst]
    exact ⟨hframe2, hangle2, hrun2, fun h => absurd hfirst (by simp only [run, p]; omega)⟩
  · rw [if_neg hfirst]
    refine ⟨hframe2.trans (hframe.mono (by simp) (by simp)), (hframe.1 _ ?_).trans hangle2, hrun,
      fun _ => ⟨u.get_posOk_valid n, hspd⟩⟩
    simp only [List.forall_mem_cons, List.not_mem_nil, false_imp_iff, implies_true, and_true, Field.key, Reg.POS_ANGLE_angle,
      Reg.POS_STAT_dir, Reg.POS_FLAGS_dir_ev, Reg.POS_SPEED_speed, Reg.POS_STAT_spd_valid, Reg.POS_STAT_qerr_count,
      Reg.POS_STAT_pos_valid, Reg.POS_FLAGS_pos_ok]
    omega

/-! ### Serial messages and dropped frames -/

/-- The fields of a serial message. -/
abbrev serialFields (n : Nat) : List Field :=
  [Reg.POS_SENT_SER_id n, Reg.POS_SENT_SER_type n, Reg.POS_SENT_SER_data n, Reg.POS_FLAGS_ser n, Reg.POS_SENT_ERR_ser_err n]

/-- Serial messages leave the other fields, and the run of accepted frames. -/
structure SerialOnly (n : Nat) (c d : Chip) : Prop where
  frame : c.Frame d (serialFields n) [.pos]
  run : (d.posS n).okRun = (c.posS n).okRun
  len : d.pos.length = c.pos.length

namespace SerialOnly

theorem refl (c : Chip) : SerialOnly n c c := ⟨.refl .., rfl, rfl⟩

theorem trans {c d e : Chip} (h : SerialOnly n c d) (k : SerialOnly n d e) : SerialOnly n c e :=
  ⟨h.frame.trans k.frame, k.run.trans h.run, k.len.trans h.len⟩

theorem ite {c : Prop} [Decidable c] {a b : Chip} (ha : SerialOnly n s a) (hb : SerialOnly n s b) :
    SerialOnly n s (if c then a else b) := by
  split <;> assumption

theorem modPos (s : Chip) (l : List (Bool × Bool)) : SerialOnly n s (s.modPos n fun p => { p with serial := l }) := by
  refine ⟨.modPos _ _ _ _ (.head _), ?_, length_modPos ..⟩
  rcases nth_updNth_cases (fun p : PosS => { p with serial := l }) n s.pos with h | h
  · exact (congrArg PosS.okRun h :)
  · exact (congrArg PosS.okRun h :)

theorem serialDone (s : Chip) (ok : Bool) (id ty data : Nat) : SerialOnly n s (s.serialDone n ok id ty data) := by
  unfold Chip.serialDone
  extract_lets u
  have hu : SerialOnly n s u := .modPos s []
  clear_value u
  exact .ite (hu.trans ⟨.sets _ _ _ (by simp), rfl, rfl⟩) (hu.trans ⟨.set _ _ _ _ (by simp), rfl, rfl⟩)

theorem serialBits (s : Chip) (b3 b2 : Bool) : SerialOnly n s (s.serialBits n b3 b2) := by
  unfold Chip.serialBits
  extract_lets mode l1 s1 v ok1 l2 s2 m body crc ok2 data hi lo
  have h1 : SerialOnly n s s1 := .modPos s l1
  have h2 : SerialOnly n s s2 := .modPos s l2
  exact .ite (.ite (h1.trans (.serialDone ..)) h1)
    (.ite (.ite (.ite (h2.trans (.serialDone ..)) (h2.trans (.serialDone ..))) h2) (.refl s))

end SerialOnly

theorem Frame.sentDrop (s : Chip) (n : Nat) : s.Frame (s.sentDrop n) [Reg.POS_FLAGS_src_err n] [.pos] :=
  (Frame.modPos s n _ _ (.head _)).trans (.put _ _ _ _ (.head _))

/-! ### A SENT frame at nominal timing -/

/-- A nibble at nominal timing is read as it was sent. -/
theorem nibble_nominal {t : Nat} (ht : 1 ≤ t) (q : Nat) :
    (2 * 56 * (20 * t * (12 + q)) + 1120 * t) / (2 * max 1 (1120 * t)) = 12 + q := by
  rw [Nat.max_eq_right (by omega)]
  have hmul : 2 * 56 * (20 * t * (12 + q)) + 1120 * t = 1120 * t + (12 + q) * (2 * (1120 * t)) := by ring
  rw [hmul, Nat.add_mul_div_right _ _ (by omega), Nat.div_eq_of_lt (by omega), Nat.zero_add]

/-- The status nibble, six data nibbles and the CRC of a frame. -/
structure Nibbles where
  q : List Nat
  len : q.length = 8
  lt : ∀ x ∈ q, x < 16

/-- The intervals of nibbles at nominal timing. -/
def Nibbles.pulses (v : Nibbles) (t : Nat) : List Nat := v.q.map fun x => 20 * t * (12 + x)

/-- A frame at nominal timing with six data nibbles, the word and the position it carries taken as given. -/
def sentTaken (s : Chip) (n sync : Nat) (v : Nibbles) (word ang : Nat) : Chip :=
  let tick : Int := (s.now : Int) - (200 * s.get (Reg.POS_SENT_TMO_age n) : Nat)
  let s := (s.modPos n fun p => { p with syncPrev := some sync }).sets [(Reg.POS_SENT_FAST_status n, nth v.q 0),
    (Reg.POS_SENT_FAST_data n, word), (Reg.POS_FLAGS_frame n, 1), (Reg.POS_SENT_TS_tick n, unsgn 32 tick)]
  (s.serialBits n (hasBit (nth v.q 0) 3) (hasBit (nth v.q 0) 2)).sensorAngle n ang tick

/-- A frame whose CRC fails, the note still to come. -/
def sentFailed (s : Chip) (n sync : Nat) : Chip :=
  ((s.modPos n fun p => { p with syncPrev := some sync }).sentDrop n).bump (Reg.POS_SENT_ERR_crc_err n) 255

section
variable {t : Nat} {v : Nibbles} {rest : List Nat} (hmode : s.posMode n = 4) (htick : s.get (Reg.POS_SENT_CFG_tick n) = t)
  (ht : 1 ≤ t) (hnib : s.get (Reg.POS_SENT_CFG_nibbles n) = 6) (hprev : (s.posS n).syncPrev = none)
  (hrest : rest.length = s.get (Reg.POS_SENT_CFG_pause n))
include hmode htick ht hnib hprev hrest

/-- Such a frame is taken where its CRC holds, else dropped. -/
theorem sentRx_nominal : ∃ ang, s.sentRx n (1120 * t) (v.pulses t ++ rest) =
    if sentCrc (s.on (Reg.POS_SENT_CFG_crc_legacy n)) ((v.q.drop 1).take 6) != nth v.q 7 then
      if ((s.sentFailed n (1120 * t)).posS n).crcRec then s.sentFailed n (1120 * t)
      else ((s.sentFailed n (1120 * t)).modPos n fun p => { p with crcRec := true }).posNote 0x0419 n
        ((s.sentFailed n (1120 * t)).get (Reg.POS_SENT_ERR_crc_err n))
    else s.sentTaken n (1120 * t) v (((v.q.drop 1).take 6).foldl (fun a d => 16 * a + d) 0 * 16 ^ 0) ang := by
  have htake : (v.pulses t ++ rest).take 8 = v.pulses t := by
    rw [List.take_append_of_le_length (by simp [Nibbles.pulses, v.len]), List.take_of_length_le (by simp [Nibbles.pulses, v.len])]
  have hread : ((v.pulses t).map fun x => (2 * 56 * x + 1120 * t) / (2 * max 1 (1120 * t))) = v.q.map (12 + ·) := by
    rw [Nibbles.pulses, List.map_map]
    exact List.map_congr_left fun x _ => nibble_nominal ht x
  have hrange : (v.q.map (12 + ·)).any (fun v => decide (v < 12) || decide (27 < v)) = false := by
    simp only [List.any_map, List.any_eq_false, Function.comp_apply, Bool.or_eq_true, decide_eq_true_eq]
    intro x hx
    have := v.lt x hx
    omega
  have hsub : (v.q.map (12 + ·)).map (· - 12) = v.q := by simp [List.map_map, Function.comp_def]
  have hlen : (v.pulses t ++ rest).length = 8 + s.get (Reg.POS_SENT_CFG_pause n) := by simp [Nibbles.pulses, v.len, hrest]
  unfold sentRx
  simp only [hmode, htick, hnib, hprev, bne_self_eq_false, Bool.false_eq_true, if_false, OfNat.ofNat_ne_zero, false_or,
    Nat.reduceEqDiff, Nat.reduceAdd, htake, hread, hrange, hlen, hsub, Bool.or_false, Nat.sub_self]
  rw [if_neg (by omega)]
  refine ⟨_, (if_neg ?_).trans rfl⟩
  change ¬(false || (8 + s.get (Reg.POS_SENT_CFG_pause n) != 8 + s.get (Reg.POS_SENT_CFG_pause n))) = true
  simp

end

/-! ### What a frame leaves -/

/-- What a frame that is taken shows. -/
structure FrameShown (n status word run : Nat) (t : Chip) : Prop where
  status : t.get (Reg.POS_SENT_FAST_status n) = status
  flag : t.get (Reg.POS_FLAGS_frame n) = 1
  data : t.get (Reg.POS_SENT_FAST_data n) = word
  run : (t.posS n).okRun = run

theorem nth_lt (v : Nibbles) (i : Nat) : nth v.q i < 16 := by
  by_cases h : i < v.q.length
  · rw [nth, List.getD_eq_getElem _ _ h]
    exact v.lt _ (List.getElem_mem h)
  · rw [nth, List.getD_eq_default _ _ (by omega)]
    decide

theorem sentTaken_shown (hn : n < s.pos.length) (sync : Nat) (v : Nibbles) {word : Nat} (hw : word < 2 ^ 24) (ang : Nat) :
    FrameShown n (nth v.q 0) word ((s.posS n).okRun + 1) (s.sentTaken n sync v word ang) := by
  unfold sentTaken
  extract_lets tick u
  have hkeys : ([(Reg.POS_SENT_FAST_status n, nth v.q 0), (Reg.POS_SENT_FAST_data n, word), (Reg.POS_FLAGS_frame n, 1),
      (Reg.POS_SENT_TS_tick n, unsgn 32 tick)].map Prod.fst).Pairwise fun f g => f.key ≠ g.key := by
    simp only [List.map_cons, List.map_nil, List.pairwise_cons, List.forall_mem_cons, List.not_mem_nil, false_imp_iff,
      implies_true, and_true, List.Pairwise.nil, Field.key, Reg.POS_SENT_FAST_status, Reg.POS_SENT_FAST_data,
      Reg.POS_FLAGS_frame, Reg.POS_SENT_TS_tick]
    omega
  have hstatus : u.get (Reg.POS_SENT_FAST_status n) = nth v.q 0 :=
    (get_sets_mem _ (by simp) hkeys).trans (Nat.mod_eq_of_lt (nth_lt v 0))
  have hdata : u.get (Reg.POS_SENT_FAST_data n) = word := (get_sets_mem _ (by simp) hkeys).trans (Nat.mod_eq_of_lt hw)
  have hflag : u.get (Reg.POS_FLAGS_frame n) = 1 := get_sets_mem (v := 1) _ (by simp) hkeys
  have hrun : (u.posS n).okRun = (s.posS n).okRun := by
    change ((s.modPos n fun p => { p with syncPrev := some sync }).posS n).okRun = _
    rw [posS_modPos hn]
  have hlen : u.pos.length = s.pos.length := length_modPos ..
  clear_value u
  have hserial := SerialOnly.serialBits (n := n) u (hasBit (nth v.q 0) 3) (hasBit (nth v.q 0) 2)
  generalize u.serialBits n (hasBit (nth v.q 0) 3) (hasBit (nth v.q 0) 2) = w at hserial
  have htaken := sensorAngle_taken (s := w) (n := n) (by rwa [hserial.len, hlen]) ang tick
  have hkeep {f : Field} (hs : ∀ g ∈ serialFields n, f.key ≠ g.key) (ha : ∀ g ∈ sensorFields n, f.key ≠ g.key) :
      (w.sensorAngle n ang tick).get f = u.get f := (htaken.frame.1 f ha).trans (hserial.frame.1 f hs)
  refine ⟨(hkeep ?_ ?_).trans hstatus, (hkeep ?_ ?_).trans hflag, (hkeep ?_ ?_).trans hdata, ?_⟩
  case refine_7 => rw [htaken.run, hserial.run, hrun]
  all_goals
    simp only [List.cons_append, List.nil_append, List.forall_mem_cons, List.not_mem_nil, false_imp_iff, implies_true, and_true,
      Field.key, Reg.POS_SENT_FAST_status, Reg.POS_FLAGS_frame, Reg.POS_SENT_FAST_data, Reg.POS_SENT_SER_id,
      Reg.POS_SENT_SER_type, Reg.POS_SENT_SER_data, Reg.POS_FLAGS_ser, Reg.POS_SENT_ERR_ser_err, Reg.POS_ANGLE_angle,
      Reg.POS_EDGE_TS_t_e, Reg.POS_STAT_src_ok, Reg.POS_STAT_dir, Reg.POS_FLAGS_dir_ev, Reg.POS_SPEED_speed,
      Reg.POS_STAT_spd_valid, Reg.POS_STAT_qerr_count, Reg.POS_STAT_pos_valid, Reg.POS_FLAGS_pos_ok]
    omega

/-- What a frame whose CRC fails shows. -/
structure FrameDropped (n data errs : Nat) (t : Chip) : Prop where
  flag : t.get (Reg.POS_FLAGS_src_err n) = 1
  data : t.get (Reg.POS_SENT_FAST_data n) = data
  errs : t.get (Reg.POS_SENT_ERR_crc_err n) = min 255 (errs + 1)

theorem satInc_of_le {m v : Nat} (h : v ≤ m) : satInc m v = min m (v + 1) := by
  unfold satInc
  split <;> omega

theorem sentFailed_dropped (s : Chip) (n sync : Nat) : FrameDropped n (s.get (Reg.POS_SENT_FAST_data n))
    (s.get (Reg.POS_SENT_ERR_crc_err n)) (s.sentFailed n sync) := by
  have hframe : s.Frame ((s.modPos n fun p => { p with syncPrev := some sync }).sentDrop n) [Reg.POS_FLAGS_src_err n] [.pos] :=
    (Frame.modPos s n _ _ (.head _)).trans (.sentDrop _ n)
  have hflag : ((s.modPos n fun p => { p with syncPrev := some sync }).sentDrop n).get (Reg.POS_FLAGS_src_err n) = 1 :=
    get_put_self _ _ _ Nat.one_pos
  have herrs : ((s.modPos n fun p => { p with syncPrev := some sync }).sentDrop n).get (Reg.POS_SENT_ERR_crc_err n) =
      s.get (Reg.POS_SENT_ERR_crc_err n) := by
    refine hframe.1 _ ?_
    simp only [List.forall_mem_cons, List.not_mem_nil, false_imp_iff, implies_true, and_true, Field.key,
      Reg.POS_FLAGS_src_err, Reg.POS_SENT_ERR_crc_err]
    omega
  have hdata : ((s.modPos n fun p => { p with syncPrev := some sync }).sentDrop n).get (Reg.POS_SENT_FAST_data n) =
      s.get (Reg.POS_SENT_FAST_data n) := by
    refine hframe.1 _ ?_
    simp only [List.forall_mem_cons, List.not_mem_nil, false_imp_iff, implies_true, and_true, Field.key,
      Reg.POS_FLAGS_src_err, Reg.POS_SENT_FAST_data]
    omega
  have hle : s.get (Reg.POS_SENT_ERR_crc_err n) ≤ 255 := by
    have hlt : s.get (Reg.POS_SENT_ERR_crc_err n) < 256 := s.get_lt _
    omega
  unfold sentFailed
  generalize (s.modPos n fun p => { p with syncPrev := some sync }).sentDrop n = u at hflag herrs hdata
  refine ⟨(get_set_other u ?_ _).trans hflag, (get_set_other u ?_ _).trans hdata, (get_set_self ..).trans ?_⟩
  · simp only [Field.key, Reg.POS_FLAGS_src_err, Reg.POS_SENT_ERR_crc_err]
    omega
  · simp only [Field.key, Reg.POS_SENT_FAST_data, Reg.POS_SENT_ERR_crc_err]
    omega
  · rw [herrs, satInc_of_le hle]
    exact Nat.mod_eq_of_lt (by simp only [Reg.POS_SENT_ERR_crc_err]; omega)

theorem FrameDropped.posNote {data errs : Nat} (h : FrameDropped n data errs s) (hn : n < 2) (code x : Nat) :
    FrameDropped n data errs (s.posNote code n x) := by
  refine ⟨(get_posNote s _ n _ ?_ ?_).trans h.flag, (get_posNote s _ n _ ?_ ?_).trans h.data,
    (get_posNote s _ n _ ?_ ?_).trans h.errs⟩ <;>
  · simp only [Field.key, Reg.POS_FLAGS_src_err, Reg.POS_SENT_FAST_data, Reg.POS_SENT_ERR_crc_err]
    omega

theorem FrameShown.settle {a b c : Nat} {t : Chip} (h : FrameShown n a b c t) : FrameShown n a b c t.settle :=
  ⟨(t.settle_get _).trans h.status, (t.settle_get _).trans h.flag, (t.settle_get _).trans h.data,
    (congrArg PosS.okRun (posS_congr t.settle_pos n)).trans h.run⟩

theorem FrameDropped.settle {a b : Nat} {t : Chip} (h : FrameDropped n a b t) : FrameDropped n a b t.settle :=
  ⟨(t.settle_get _).trans h.flag, (t.settle_get _).trans h.data, (t.settle_get _).trans h.errs⟩

end Chip

section
variable {s : State} {n : Fin 2} (hd : s.chip.pwr.dieReset = false) (hs : s.chip.Shaped)

/-- Eight nibbles. -/
def nibblesOf (v : Vector (Fin 16) 8) : Chip.Nibbles where
  q := v.toList.map Fin.val
  len := by simp
  lt x hx := by
    obtain ⟨y, -, rfl⟩ := List.mem_map.1 hx
    exact y.isLt

theorem nibblesOf_eq (v : Vector (Fin 16) 8) : (nibblesOf v).q =
    [v[0].val, v[1].val, v[2].val, v[3].val, v[4].val, v[5].val, v[6].val, v[7].val] := by
  refine List.ext_getElem (by simp [nibblesOf]) fun i h1 h2 => ?_
  simp only [List.length_cons, List.length_nil] at h2
  interval_cases i <;> simp [nibblesOf]

/-- The intervals of a frame at nominal timing fit their counter. -/
theorem nibblesOf_pulses (v : Vector (Fin 16) 8) {t : Nat} (ht : t ≤ 900) (l : List (Fin 2097152)) :
    ((v.toList.map fun q => Fin.ofNat 2097152 (20 * t * (12 + q.val))) ++ l).map (fun x => x.val) =
      (nibblesOf v).pulses t ++ l.map (fun x => x.val) := by
  rw [List.map_append, Chip.Nibbles.pulses, nibblesOf, List.map_map, List.map_map]
  refine congrArg (· ++ _) (List.map_congr_left fun q _ => ?_)
  have hq : 12 + q.val ≤ 27 := by omega
  have hle : 20 * t * (12 + q.val) ≤ 20 * 900 * 27 := Nat.mul_le_mul (by omega) hq
  exact Nat.mod_eq_of_lt (by omega)

/-- The data word of six nibbles. -/
theorem word_eq (v : Vector (Fin 16) 8) : (((nibblesOf v).q.drop 1).take 6).foldl (fun a d => 16 * a + d) 0 * 16 ^ 0 =
    v[1].val * 2 ^ 20 + v[2].val * 2 ^ 16 + v[3].val * 2 ^ 12 + v[4].val * 2 ^ 8 + v[5].val * 16 + v[6].val := by
  rw [nibblesOf_eq]
  simp only [List.drop, List.take, List.foldl]
  ring

theorem word_lt (v : Vector (Fin 16) 8) : (((nibblesOf v).q.drop 1).take 6).foldl (fun a d => 16 * a + d) 0 * 16 ^ 0 < 2 ^ 24 := by
  rw [word_eq]
  omega

/-- The CRC of a frame's data nibbles is the one it carries. -/
abbrev crcHolds (legacy : Bool) (v : Vector (Fin 16) 8) : Prop :=
  Chip.sentCrc legacy [v[1].val, v[2].val, v[3].val, v[4].val, v[5].val, v[6].val] = v[7].val

theorem crcHolds_iff (legacy : Bool) (v : Vector (Fin 16) 8) :
    (Chip.sentCrc legacy (((nibblesOf v).q.drop 1).take 6) != nth (nibblesOf v).q 7) = true ↔ ¬crcHolds legacy v := by
  rw [nibblesOf_eq, bne_iff_ne]
  rfl

section
variable {t : Nat} (hmode : s.chip.posMode n = 4) (htick : s.chip.get (Reg.POS_SENT_CFG_tick n) = t) (hlo : 1 ≤ t)
  (hnib : s.chip.get (Reg.POS_SENT_CFG_nibbles n) = 6) (hprev : (s.chip.posS n).syncPrev = none)
include hs hmode htick hlo hnib hprev

/-- A frame of eight nibbles at nominal timing is accepted exactly where its CRC holds. -/
theorem sentRx_nibbles (v : Vector (Fin 16) 8) {l : List Nat} (hl : l.length = s.chip.get (Reg.POS_SENT_CFG_pause n)) :
    (crcHolds (s.chip.on (Reg.POS_SENT_CFG_crc_legacy n)) v → Chip.FrameShown n v[0].val (v[1].val * 2 ^ 20 + v[2].val * 2 ^ 16 +
        v[3].val * 2 ^ 12 + v[4].val * 2 ^ 8 + v[5].val * 16 + v[6].val) ((s.chip.posS n).okRun + 1)
        (s.chip.sentRx n (1120 * t) ((nibblesOf v).pulses t ++ l))) ∧
      (¬crcHolds (s.chip.on (Reg.POS_SENT_CFG_crc_legacy n)) v → Chip.FrameDropped n (s.chip.get (Reg.POS_SENT_FAST_data n))
        (s.chip.get (Reg.POS_SENT_ERR_crc_err n)) (s.chip.sentRx n (1120 * t) ((nibblesOf v).pulses t ++ l))) := by
  obtain ⟨ang, hrx⟩ := Chip.sentRx_nominal (v := nibblesOf v) hmode htick hlo hnib hprev hl
  rw [hrx]
  refine ⟨fun hcrc => ?_, fun hcrc => ?_⟩
  · rw [if_neg ((crcHolds_iff ..).not_left.2 hcrc)]
    have hshown := Chip.sentTaken_shown (hs.pos_lt n) (1120 * t) (nibblesOf v) (word_lt v) ang
    rw [word_eq] at hshown
    rw [word_eq]
    rwa [show nth (nibblesOf v).q 0 = v[0].val by rw [nibblesOf_eq]; rfl] at hshown
  · rw [if_pos ((crcHolds_iff ..).2 hcrc)]
    have hdropped := Chip.sentFailed_dropped s.chip n (1120 * t)
    generalize s.chip.sentFailed n (1120 * t) = u at hdropped
    split
    · exact hdropped
    · have hmod : Chip.FrameDropped n _ _ (u.modPos n fun p => { p with crcRec := true }) :=
        ⟨hdropped.flag, hdropped.data, hdropped.errs⟩
      exact hmod.posNote n.isLt _ _

end

theorem sentFrame_touches (hd : s.chip.pwr.dieReset = false) {sync : Fin 2097152} {l : List (Fin 2097152)} {p : Chip → Prop}
    (hp : p (s.chip.sentRx n sync (l.map fun x => x.val)).settle) : Touches (.sentFrame n sync l) s [.regs, .log, .pos] p := by
  have hx : exec (.sentFrame n sync l) s = s.act fun c => c.sentRx n sync (l.map fun x => x.val) := rfl
  exact touches_of_inside hx hd (fun _ ht => execSentFrame_inside (by rfl) ht) hp

include hd hs in
theorem sentFrame_nominal (v : Vector (Fin 16) 8) (z : Fin 2097152) {t : Nat} (hmode : s.chip.posMode n = 4)
    (htick : s.chip.get (Reg.POS_SENT_CFG_tick n) = t) (hlo : 1 ≤ t) (hhi : t ≤ 900)
    (hnib : s.chip.get (Reg.POS_SENT_CFG_nibbles n) = 6) (hprev : (s.chip.posS n).syncPrev = none) :
    Touches (.sentFrame n (Fin.ofNat 2097152 (1120 * t)) ((v.toList.map fun q => Fin.ofNat 2097152 (20 * t * (12 + q.val))) ++
          List.replicate (s.chip.get (Reg.POS_SENT_CFG_pause n)) z)) s [.regs, .log, .pos] (fun u =>
      (crcHolds (s.chip.on (Reg.POS_SENT_CFG_crc_legacy n)) v → Chip.FrameShown n v[0].val (v[1].val * 2 ^ 20 + v[2].val * 2 ^ 16 +
        v[3].val * 2 ^ 12 + v[4].val * 2 ^ 8 + v[5].val * 16 + v[6].val) ((s.chip.posS n).okRun + 1) u) ∧
      (¬crcHolds (s.chip.on (Reg.POS_SENT_CFG_crc_legacy n)) v → Chip.FrameDropped n (s.chip.get (Reg.POS_SENT_FAST_data n))
        (s.chip.get (Reg.POS_SENT_ERR_crc_err n)) u)) := by
  refine sentFrame_touches hd ?_
  have hsync : (Fin.ofNat 2097152 (1120 * t)).val = 1120 * t := Nat.mod_eq_of_lt (by omega)
  obtain ⟨hgood, hbad⟩ := sentRx_nibbles hs hmode htick hlo hnib hprev v
    (l := (List.replicate (s.chip.get (Reg.POS_SENT_CFG_pause n)) z).map fun x => x.val) (by simp)
  rw [nibblesOf_pulses v hhi, hsync]
  exact ⟨fun h => (hgood h).settle, fun h => (hbad h).settle⟩

end

end Sys2Proof.Machine
end

section
/-! SUPPORT. A strobe of the fabric, and a word written to POSn_CFG (R291, R292); O46 assembled. -/

namespace Sys2Proof.Machine

namespace Chip

variable {s : Chip} {n : Nat}

/-! ### A strobe -/

/-- The strobe's instant and angle are noted. -/
def strobed (s : Chip) (n x : Nat) : Chip :=
  s.sets [(Reg.POS_FAB_TS_tick n, unsgn 32 ((s.now : Int) - (s.get (Reg.POS_FAB_CFG_age n) : Nat))), (Reg.POS_FAB_ANG_angle n, x),
    (Reg.POS_FLAGS_frame n, 1)]

/-- What a strobe of a running unit shows. -/
structure StrobeShown (n x ang run : Nat) (t : Chip) : Prop where
  sensor : t.get (Reg.POS_FAB_ANG_angle n) = x
  flag : t.get (Reg.POS_FLAGS_frame n) = 1
  angle : t.get (Reg.POS_ANGLE_angle n) = ang
  valid : 1 ≤ run → t.get (Reg.POS_STAT_pos_valid n) = 1 ∧ t.get (Reg.POS_STAT_spd_valid n) = 1

theorem strobed_shown (hn : n < s.pos.length) {x : Nat} (hx : x < 65536) (tick : Int) :
    StrobeShown n x ((s.posRatio n * x + s.get (Reg.POS_OFFSET_offset n)) % 65536) (s.posS n).okRun
      ((s.strobed n x).sensorAngle n x tick) := by
  have hother {f : Field} (hf : ∀ g ∈ [Reg.POS_FAB_TS_tick n, Reg.POS_FAB_ANG_angle n, Reg.POS_FLAGS_frame n], f.key ≠ g.key) :
      (s.strobed n x).get f = s.get f := get_sets_other s (by simpa using hf)
  have hkeys : ([(Reg.POS_FAB_TS_tick n, unsgn 32 ((s.now : Int) - (s.get (Reg.POS_FAB_CFG_age n) : Nat))),
      (Reg.POS_FAB_ANG_angle n, x), (Reg.POS_FLAGS_frame n, 1)].map Prod.fst).Pairwise fun f g => f.key ≠ g.key := by
    simp only [List.map_cons, List.map_nil, List.pairwise_cons, List.forall_mem_cons, List.not_mem_nil, false_imp_iff,
      implies_true, and_true, List.Pairwise.nil, Field.key, Reg.POS_FAB_TS_tick, Reg.POS_FAB_ANG_angle, Reg.POS_FLAGS_frame]
    omega
  have hang : (s.strobed n x).get (Reg.POS_FAB_ANG_angle n) = x :=
    (get_sets_mem (v := x) s (by simp) hkeys).trans (Nat.mod_eq_of_lt hx)
  have hflag : (s.strobed n x).get (Reg.POS_FLAGS_frame n) = 1 := get_sets_mem (v := 1) s (by simp) hkeys
  have hratio : (s.strobed n x).posRatio n = s.posRatio n := by
    rw [posRatio, posRatio, hother]
    simp only [List.forall_mem_cons, List.not_mem_nil, false_imp_iff, implies_true, and_true, Field.key, Reg.POS_FAB_TS_tick,
      Reg.POS_FAB_ANG_angle, Reg.POS_FLAGS_frame, Reg.POS_CFG_ratio]
    omega
  have hoff : (s.strobed n x).get (Reg.POS_OFFSET_offset n) = s.get (Reg.POS_OFFSET_offset n) := by
    refine hother ?_
    simp only [List.forall_mem_cons, List.not_mem_nil, false_imp_iff, implies_true, and_true, Field.key, Reg.POS_FAB_TS_tick,
      Reg.POS_FAB_ANG_angle, Reg.POS_FLAGS_frame, Reg.POS_OFFSET_offset]
    omega
  have hrun : (s.strobed n x).posS n = s.posS n := rfl
  have hlen : n < (s.strobed n x).pos.length := hn
  generalize s.strobed n x = u at hang hflag hratio hoff hrun hlen
  have htaken := sensorAngle_taken hlen x tick
  refine ⟨(htaken.frame.1 _ ?_).trans hang, (htaken.frame.1 _ ?_).trans hflag, ?_, hrun ▸ htaken.valid⟩
  case refine_3 => rw [htaken.angle, hratio, hoff]
  all_goals
    simp only [List.cons_append, List.nil_append, List.forall_mem_cons, List.not_mem_nil, false_imp_iff, implies_true, and_true,
      Field.key, Reg.POS_FAB_ANG_angle, Reg.POS_FLAGS_frame, Reg.POS_ANGLE_angle, Reg.POS_EDGE_TS_t_e, Reg.POS_STAT_src_ok,
      Reg.POS_STAT_dir, Reg.POS_FLAGS_dir_ev, Reg.POS_SPEED_speed, Reg.POS_STAT_spd_valid, Reg.POS_STAT_qerr_count,
      Reg.POS_STAT_pos_valid, Reg.POS_FLAGS_pos_ok]
    omega

/-! ### The channel's configuration word -/

/-- The fields of POSn_CFG. -/
abbrev cfgFields (n : Nat) : List Field :=
  [Reg.POS_CFG_hall_extrap n, Reg.POS_CFG_ratio n, Reg.POS_CFG_idx_pol n, Reg.POS_CFG_idx_qual n, Reg.POS_CFG_idx_mode n,
    Reg.POS_CFG_dir_inv n, Reg.POS_CFG_mode n]

theorem fieldsAt_posCfg : ∀ n : Fin 2, fieldsAt (0x41300000 + 0x100 * n.val) = some (cfgFields n) := by decide +kernel

theorem configWord_posCfg (s : Chip) (n : Fin 2) (d : Nat) : s.configWord (0x41300000 + 0x100 * n.val) d =
    s.sets ((cfgFields n).map fun f => (f, part d f.lsb f.width)) := by
  rw [configWord, fieldsAt_posCfg]
  rfl

theorem get_configWord_posCfg (s : Chip) (n : Fin 2) (d : Nat) {f : Field} (hf : f ∈ cfgFields n) :
    (s.configWord (0x41300000 + 0x100 * n.val) d).get f = part d f.lsb f.width := by
  rw [configWord_posCfg]
  refine (get_sets_mem s (List.mem_map.2 ⟨f, hf, rfl⟩) ?_).trans (Nat.mod_eq_of_lt (part_lt ..))
  simp only [List.map_cons, List.map_nil, List.pairwise_cons, List.forall_mem_cons, List.not_mem_nil, false_imp_iff,
    implies_true, and_true, List.Pairwise.nil, Field.key, Reg.POS_CFG_hall_extrap, Reg.POS_CFG_ratio, Reg.POS_CFG_idx_pol,
    Reg.POS_CFG_idx_qual, Reg.POS_CFG_idx_mode, Reg.POS_CFG_dir_inv, Reg.POS_CFG_mode]
  omega

theorem Frame.configWord_posCfg (s : Chip) (n : Fin 2) (d : Nat) (ps : List Part) :
    s.Frame (s.configWord (0x41300000 + 0x100 * n.val) d) (cfgFields n) ps := by
  rw [Chip.configWord_posCfg]
  refine .sets _ _ _ fun p hp => ?_
  obtain ⟨f, hf, rfl⟩ := List.mem_map.1 hp
  exact hf

/-- Modes 6 and 7 act as 0. -/
def effMode (m : Nat) : Nat := if m ≤ 5 then m else 0

theorem posMode_eq (s : Chip) (n : Nat) : s.posMode n = effMode (s.get (Reg.POS_CFG_mode n)) := rfl

theorem effMode_congr {a b : Nat} (h : min 6 a = min 6 b) : effMode a = effMode b := by
  unfold effMode
  split <;> split <;> omega

theorem posMode_configWord (s : Chip) (n : Fin 2) (d : Nat) :
    (s.configWord (0x41300000 + 0x100 * n.val) d).posMode n = effMode (d % 8) := by
  rw [posMode_eq, get_configWord_posCfg s n d (by simp)]
  simp [part, Reg.POS_CFG_mode]

theorem idxMode_configWord (s : Chip) (n : Fin 2) (d : Nat) :
    (s.configWord (0x41300000 + 0x100 * n.val) d).idxMode n = d / 16 % 4 := get_configWord_posCfg s n d (by simp)

/-- The written word with the source restarted. -/
theorem posCfgSet_restart {n : Fin 2} {d : Nat} (h : effMode (d % 8) ≠ s.posMode n) :
    s.posCfgSet n d = (s.configWord (0x41300000 + 0x100 * n.val) d).posRestart n := by
  unfold posCfgSet
  exact if_pos (by simpa [posMode_configWord] using h)

section
variable {n : Fin 2} {d : Nat} (h : effMode (d % 8) = s.posMode n)
include h

theorem posCfgSet_keep (harm : (s.posS n).arm = 0 ∨ 2 ≤ d / 16 % 4) :
    s.posCfgSet n d = s.configWord (0x41300000 + 0x100 * n.val) d := by
  have hpos : (s.configWord (0x41300000 + 0x100 * n.val) d).posS n = s.posS n :=
    posS_congr ((Frame.configWord_posCfg s n d []).2 .pos (by decide)).symm n
  unfold posCfgSet
  refine (if_neg (by simp [posMode_configWord, h])).trans (if_neg ?_)
  rw [idxMode_configWord, hpos]
  rcases harm with h | h <;> simp [h]
  omega

theorem posCfgSet_abandon (harm : (s.posS n).arm ≠ 0) (hidx : d / 16 % 4 ≤ 1) :
    s.posCfgSet n d = ((s.configWord (0x41300000 + 0x100 * n.val) d).modPos n fun p =>
      { p with arm := 0, want := true }).put (Reg.POS_STAT_idx_seen n) false := by
  have hpos : (s.configWord (0x41300000 + 0x100 * n.val) d).posS n = s.posS n :=
    posS_congr ((Frame.configWord_posCfg s n d []).2 .pos (by decide)).symm n
  unfold posCfgSet
  refine (if_neg (by simp [posMode_configWord, h])).trans (if_pos ?_)
  rw [idxMode_configWord, hpos]
  simp [harm, hidx]

end

/-! ### A source that restarts -/

/-- The two fields that a change of the source's mode is stated of. -/
abbrev modeFields (n : Nat) : List Field := [Reg.POS_CFG_mode n, Reg.POS_STAT_pos_valid n]

theorem get_resStart (s : Chip) (n : Nat) {f : Field} (hlo : 0x41300000 * 32 ≤ f.key) (hhi : f.key < 0x41400000 * 32) :
    (s.resStart n).get f = s.get f := by
  have hnote (g : PosS → PosS) (code data : Nat) : ((s.modPos n g).posNote code n data).get f = s.get f :=
    get_posNote _ code n data hlo hhi
  unfold resStart
  split
  · exact hnote ..
  · extract_lets mult per ok slots has
    split
    · exact hnote ..
    · split
      · exact hnote ..
      · rfl

theorem get_posRestart (hn : n < 2) {f : Field} (hf : f ∈ modeFields n) : (s.posRestart n).get f = (s.posLose n).get f := by
  have hsub : f = Reg.POS_CFG_mode n ∨ f = Reg.POS_STAT_pos_valid n := by simpa using hf
  unfold posRestart
  extract_lets u v
  have hv : v.get f = u.get f := by
    refine get_sets_other u ?_
    rcases hsub with rfl | rfl <;>
    · simp only [List.forall_mem_cons, List.not_mem_nil, false_imp_iff, implies_true, and_true, Field.key, Reg.POS_CFG_mode,
        Reg.POS_STAT_pos_valid, Reg.POS_STAT_spd_valid, Reg.POS_STAT_standstill, Reg.POS_STAT_res_lock, Reg.POS_STAT_src_ok,
        Reg.POS_STAT_qerr_count, Reg.POS_SPEED_speed]
      omega
  have hu : u.get f = (s.posLose n).get f := rfl
  have hblock : 0x41300000 * 32 ≤ f.key ∧ f.key < 0x41400000 * 32 := by
    rcases hsub with rfl | rfl <;>
    · simp only [Field.key, Reg.POS_CFG_mode, Reg.POS_STAT_pos_valid]
      omega
  have hcentre : v.hallCentre n = v ∨ ∃ x, v.hallCentre n = v.set (Reg.POS_ANGLE_angle n) x := by
    unfold hallCentre
    extract_lets h
    split
    · exact .inr ⟨_, rfl⟩
    · exact .inl rfl
  rw [← hu, ← hv]
  clear_value v
  split
  · exact get_resStart v n hblock.1 hblock.2
  · split
    · rcases hcentre with h | ⟨x, h⟩ <;> rw [h]
      refine get_set_other v ?_ x
      rcases hsub with rfl | rfl <;>
      · simp only [Field.key, Reg.POS_CFG_mode, Reg.POS_STAT_pos_valid, Reg.POS_ANGLE_angle]
        omega
    · rfl

theorem get_posRestart_valid (hn : n < 2) : (s.posRestart n).get (Reg.POS_STAT_pos_valid n) = 0 :=
  (get_posRestart hn (by simp)).trans (s.get_posLose_valid n)

theorem posMode_posRestart (hn : n < 2) : (s.posRestart n).posMode n = s.posMode n := by
  rw [posMode_eq, posMode_eq, get_posRestart hn (by simp), (Frame.posLose s n).1]
  simp only [List.forall_mem_cons, List.not_mem_nil, false_imp_iff, implies_true, and_true, Field.key, Reg.POS_CFG_mode,
    Reg.POS_STAT_idx_seen, Reg.POS_STAT_pos_valid, Reg.POS_FLAGS_pos_lost]
  omega

/-- A refused write leaves the calm fields. -/
theorem Calm.refuse {z : Chip} (h : z.Calm s) (a : Nat) : z.Calm (s.refuse a) := by
  refine h.trans fun f hf => (Frame.refuse s a (fs := swayed) (ps := [.log, .free]) (by simp) (by simp) fun k _ hk => ?_).1 f
    fun g hg => calm_ne hf hg
  exact ⟨swayed_stirred hk (by simp [stirredFields]), swayed_stirred hk (by simp [stirredFields]),
    swayed_stirred hk (by simp [stirredFields])⟩

end Chip

section
variable {s : State} {n : Fin 2} (hd : s.chip.pwr.dieReset = false)
include hd

theorem posEvalSelfTimed_off (hdue : s.chip.selfDue n = true) (hmode : s.chip.posMode n = 0) :
    Completes (.posEvalSelfTimed n) s [Reg.POS_ANGLE_lat_ang n] [.pos]
      (fun t => t.get (Reg.POS_ANGLE_lat_ang n) = s.chip.get (Reg.POS_ANGLE_angle n) % 65536) := by
  have hx : exec (.posEvalSelfTimed n) s = s.act fun c => c.selfEval n := State.act_congr (if_pos hdue)
  obtain ⟨hframe, hget⟩ := Chip.selfEval_off hmode
  exact completes_of_act hx hd hframe ((Chip.settle_get ..).trans hget)

theorem fabStrobe_silent (x : Fin 65536) (h : s.chip.strobes n = false) : Completes (.fabStrobe n x) s [] [] (fun _ => True) :=
  completes_unchanged (f := fun c => if c.posMode n != 5 || !c.strobes n then c else (c.strobed n x).sensorAngle n x
    ((c.now : Int) - (c.get (Reg.POS_FAB_CFG_age n) : Nat))) rfl hd (if_pos (by simp [h]))

theorem fabStrobe_touches (hs : s.chip.Shaped) (x : Fin 65536) (hmode : s.chip.posMode n = 5) (h : s.chip.strobes n = true) :
    Touches (.fabStrobe n x) s [.regs, .pos] (Chip.StrobeShown n x
      ((s.chip.posRatio n * x.val + s.chip.get (Reg.POS_OFFSET_offset n)) % 65536) (s.chip.posS n).okRun) := by
  have hx : exec (.fabStrobe n x) s = s.act fun c => (c.strobed n x).sensorAngle n x
      ((c.now : Int) - (c.get (Reg.POS_FAB_CFG_age n) : Nat)) := State.act_congr (if_neg (by simp [hmode, h]))
  have hshown := Chip.strobed_shown (hs.pos_lt n) x.isLt ((s.chip.now : Int) - (s.chip.get (Reg.POS_FAB_CFG_age n) : Nat))
  refine touches_of_inside hx hd (fun _ ht => execFabStrobe_inside (by rfl) ht) ?_
  generalize (s.chip.strobed n x).sensorAngle n x _ = u at hshown
  exact ⟨(u.settle_get _).trans hshown.sensor, (u.settle_get _).trans hshown.flag, (u.settle_get _).trans hshown.angle,
    fun hrun => ⟨(u.settle_get _).trans (hshown.valid hrun).1, (u.settle_get _).trans (hshown.valid hrun).2⟩⟩

section
variable {d : Word} (htakes : s.chip.takes (0x41300000 + 0x100 * n.val) = true)
include htakes

theorem posCfgWrite_refused (hopen : s.chip.rwlOpen (0x41300000 + 0x100 * n.val) = false) :
    Touches (.posCfgWrite n d) s [.regs, .log, .free] (fun t =>
      t.get (Reg.POS_CFG_mode n) = s.chip.get (Reg.POS_CFG_mode n) ∧ t.log.seq = (s.chip.log.seq + 1) % 65536) := by
  have hx : exec (.posCfgWrite n d) s = s.act fun c => c.refuse (0x41300000 + 0x100 * n.val) :=
    State.act_congr ((Chip.rowWrite_takes htakes _ _).trans (if_neg (by simp [hopen])))
  refine touches_of_act hx hd (Chip.refuse_inside (by rfl) (.refl _ _)) ?_
  rw [Chip.settle_get, Chip.settle_log, Chip.refuse_seq]
  refine ⟨Chip.Calm.refuse (.refl _) _ _ (Chip.calm_channel ?_ ?_), rfl⟩ <;>
  · simp only [Field.key, Reg.POS_CFG_mode]
    omega

variable (hopen : s.chip.rwlOpen (0x41300000 + 0x100 * n.val) = true)
include hopen

omit hd in
theorem exec_posCfgWrite : exec (.posCfgWrite n d) s = s.act fun c => c.posCfgSet n d.toNat :=
  State.act_congr ((Chip.rowWrite_takes htakes _ _).trans (if_pos hopen))

theorem posCfgWrite_keep (hmode : min 6 (d.toNat % 8) = min 6 (s.chip.get (Reg.POS_CFG_mode n)))
    (harm : (s.chip.posS n).arm = 0 ∨ 2 ≤ d.toNat / 16 % 4) :
    Completes (.posCfgWrite n d) s (Chip.cfgFields n) [] (fun t => ∀ f ∈ Chip.cfgFields n, t.get f = part d.toNat f.lsb f.width) := by
  have hx : exec (.posCfgWrite n d) s = s.act fun c => c.configWord (0x41300000 + 0x100 * n.val) d.toNat :=
    (exec_posCfgWrite htakes hopen).trans (State.act_congr (Chip.posCfgSet_keep (Chip.effMode_congr hmode) harm))
  exact completes_of_act hx hd (.configWord_posCfg ..) fun f hf =>
    (Chip.settle_get ..).trans (Chip.get_configWord_posCfg _ n _ hf)

theorem posCfgWrite_abandon (hs : s.chip.Shaped) (hmode : min 6 (d.toNat % 8) = min 6 (s.chip.get (Reg.POS_CFG_mode n)))
    (harm : (s.chip.posS n).arm ≠ 0) (hidx : d.toNat / 16 % 4 ≤ 1) :
    Completes (.posCfgWrite n d) s (Reg.POS_STAT_idx_seen n :: Chip.cfgFields n) [.pos]
      (fun t => (t.posS n).arm = 0 ∧ t.get (Reg.POS_STAT_idx_seen n) = 0) := by
  have hx : exec (.posCfgWrite n d) s = s.act fun c => ((c.configWord (0x41300000 + 0x100 * n.val) d.toNat).modPos n fun p =>
      { p with arm := 0, want := true }).put (Reg.POS_STAT_idx_seen n) false :=
    (exec_posCfgWrite htakes hopen).trans (State.act_congr (Chip.posCfgSet_abandon (Chip.effMode_congr hmode) harm hidx))
  have hword := Chip.Frame.configWord_posCfg s.chip n d.toNat []
  have hlen : n.val < (s.chip.configWord (0x41300000 + 0x100 * n.val) d.toNat).pos.length := by
    rw [← hword.2 .pos (by decide)]
    exact hs.pos_lt n
  refine completes_of_act hx hd (((hword.mono (by simp) (by simp)).trans (.modPos _ _ _ _ (.head _))).trans
    (.put _ _ _ _ (.head _))) ⟨?_, (Chip.settle_get ..).trans (Chip.get_put_self _ _ _ Nat.one_pos)⟩
  rw [Chip.posS_congr (Chip.settle_pos _)]
  exact congrArg PosS.arm (Chip.posS_modPos hlen _)

theorem posCfgWrite_restart (hlt : d.toNat % 8 < 6) (hmode : d.toNat % 8 ≠ s.chip.posMode n) :
    Touches (.posCfgWrite n d) s [.regs, .log, .free, .pos] (fun t =>
      t.posMode n = d.toNat % 8 ∧ t.get (Reg.POS_STAT_pos_valid n) = 0) := by
  have heff : Chip.effMode (d.toNat % 8) = d.toNat % 8 := if_pos (by omega)
  refine touches_of_act (exec_posCfgWrite htakes hopen) hd (Chip.posCfgSet_inside (by rfl) (.refl _ _)) ?_
  rw [Chip.posMode_eq, Chip.settle_get, Chip.settle_get, ← Chip.posMode_eq, Chip.posCfgSet_restart (by rwa [heff]),
    Chip.posMode_posRestart n.isLt, Chip.get_posRestart_valid n.isLt, Chip.posMode_configWord, heff]
  exact ⟨rfl, rfl⟩

end

end

/-- Settles O46, one lemma per clause. -/
theorem positionSources : Obligations.PositionSources := by
  unfold Obligations.PositionSources
  intro s n h x v z d hd hs
  have hlegal : ∀ {m : Nat}, 1 ≤ m → m ≤ 6 → Chip.legalHall m = true := fun h1 h2 => by simp [Chip.legalHall, h1, h2]
  have hfields : (fieldsAt (0x41300000 + 0x100 * n.val)).getD [] = Chip.cfgFields n := by rw [Chip.fieldsAt_posCfg]; rfl
  refine ⟨fun hdue => completes_unchanged (f := fun c => if c.selfDue n then c.selfEval n else c) rfl hd (if_neg (by simp [hdue])),
    posEvalSelfTimed_off hd, hallChange_same hd, fun hmode hne hfirst => ⟨fun h1 h2 h3 h4 hlo hhi =>
      hallChange_forward hd hmode hne hfirst (hlegal h1 h2) (hlegal h3 h4) hlo hhi, fun hh =>
      hallChange_illegal hd hmode hne hfirst hs (by rcases hh with hh | hh <;> rw [hh] <;> rfl)⟩, fun hmode => ⟨?_, ?_, ?_, ?_⟩,
    fun hmode => ⟨fabStrobe_silent hd x, ?_, ?_, ?_, ?_⟩, fun htakes hopen => ⟨?_, ?_, posCfgWrite_restart hd htakes hopen⟩,
    posCfgWrite_refused hd⟩
  · exact fun htmo hlt => (sourceTimeout_touches rfl hd hs hmode htmo hlt).imp fun t ht => ⟨ht.pos, ht.spd, ht.err, ht.run⟩
  · exact sourceTimeout_due_completes rfl hd hs hmode
  · exact sourceTimeout_early_completes rfl hd
  · intro hlo hhi hnib hprev
    refine (sentFrame_nominal hd hs v z hmode rfl hlo hhi hnib hprev).imp fun t ⟨hgood, hbad⟩ => ⟨fun hcrc => ?_, fun hcrc => ?_⟩
    · exact ⟨(hgood hcrc).status, (hgood hcrc).flag, (hgood hcrc).data, (hgood hcrc).run⟩
    · exact ⟨(hbad hcrc).flag, (hbad hcrc).data, (hbad hcrc).errs⟩
  · exact fun hstrobes => (fabStrobe_touches hd hs x hmode hstrobes).imp fun t ht => ⟨ht.sensor, ht.flag, ht.angle, ht.valid⟩
  · exact fun htmo hlt => (sourceTimeout_touches rfl hd hs hmode htmo hlt).imp fun t ht => ⟨ht.pos, ht.spd, ht.err⟩
  · exact sourceTimeout_due_completes rfl hd hs hmode
  · exact sourceTimeout_early_completes rfl hd
  · rw [hfields]
    exact posCfgWrite_keep hd htakes hopen
  · rw [hfields]
    exact posCfgWrite_abandon hd htakes hopen hs

end Sys2Proof.Machine
end

section
/-! SUPPORT. An entry of the log through the records that follow it, and a cluster that enters a state from other than HALTED. -/

namespace Sys2Proof.Machine

namespace Chip

variable {s : Chip} {k : Nat}

/-! ### An entry that stays in the log -/

theorem takeWhile_reverse_suffix {α : Type} (p : α → Bool) (q : List α) :
    q.take (q.length - (q.reverse.takeWhile p).reverse.length) ++ (q.reverse.takeWhile p).reverse = q := by
  have h := congrArg List.reverse (List.takeWhile_append_dropWhile (p := p) (l := q.reverse))
  rw [List.reverse_append, List.reverse_reverse] at h
  generalize (q.reverse.takeWhile p).reverse = b at h ⊢
  generalize (q.reverse.dropWhile p).reverse = a at h
  subst h
  simp

/-- The entries of a log that takes a new one stay. -/
theorem mem_insertLog_of_mem {q : List LogEntry} {x : LogEntry} (e : LogEntry) (h : x ∈ q) : x ∈ insertLog q e := by
  rw [← takeWhile_reverse_suffix (fun y => y.ts == e.ts && decide (e.code < y.code)) q] at h
  rcases List.mem_append.1 h with h | h
  · exact List.mem_append_left _ h
  · exact List.mem_append_right _ (.tail _ h)

theorem renumber_cluster (q : List LogEntry) (e x : LogEntry) : (renumber q e x).cluster = x.cluster := by
  unfold renumber
  split <;> rfl

/-- At most m entries wait, and one of them has this code and cluster. -/
structure Logged (code k m : Nat) (s : Chip) : Prop where
  room : s.log.queue.length ≤ m
  entry : ∃ e ∈ s.log.queue, e.code = code ∧ e.cluster = k

/-- A queue with room takes a new entry beside those that it holds. -/
theorem enqueue_room {q : List LogEntry} (e : LogEntry) (h : q.length < 64) :
    enqueue q e = insertLog (q.map (renumber q e)) { e with seq := (seqsFrom q e).headD e.seq } := by
  refine if_pos ?_
  rw [insertLog_length, List.length_map]
  omega

theorem record_queue (s : Chip) (code cls inst cluster region data : Nat) : ∃ e : LogEntry,
    e.code = code ∧ e.cluster = cluster ∧ (s.record code cls inst cluster region data).log.queue = enqueue s.log.queue e := by
  unfold record
  extract_lets e q hs s1 s2
  refine ⟨e, rfl, rfl, ?_⟩
  have h1 : s1.log.queue = enqueue q e := rfl
  have h2 : s2.log.queue = s1.log.queue := by
    unfold s2
    split
    · unfold retain
      extract_lets
      split <;> rfl
    · rfl
  rw [← h1, ← h2]
  split <;> rfl

theorem logged_record {m : Nat} (hm : m < 64) (hq : s.log.queue.length ≤ m) (code cls inst k region data : Nat) :
    Logged code k (m + 1) (s.record code cls inst k region data) := by
  obtain ⟨e, hcode, hcluster, hqueue⟩ := s.record_queue code cls inst k region data
  have henq := enqueue_room e (show s.log.queue.length < 64 by omega)
  refine ⟨?_, ?_⟩ <;> rw [hqueue, henq]
  · rw [insertLog_length, List.length_map]
    omega
  · exact ⟨_, mem_insertLog _ _, hcode, hcluster⟩

namespace Logged

variable {code m : Nat}

theorem congr {t : Chip} (h : Logged code k m s) (hl : t.log = s.log) : Logged code k m t :=
  ⟨hl ▸ h.room, hl ▸ h.entry⟩

theorem mono {m' : Nat} (h : Logged code k m s) (hm : m ≤ m') : Logged code k m' s := ⟨h.room.trans hm, h.entry⟩

theorem ite {c : Prop} [Decidable c] {a b : Chip} (ha : Logged code k m a) (hb : Logged code k m b) :
    Logged code k m (if c then a else b) := by
  split <;> assumption

theorem record (h : Logged code k m s) (hm : m < 64) (code' cls inst cluster region data : Nat) :
    Logged code k (m + 1) (s.record code' cls inst cluster region data) := by
  obtain ⟨e, -, -, hqueue⟩ := s.record_queue code' cls inst cluster region data
  obtain ⟨x, hx, hcode, hcluster⟩ := h.entry
  have henq := enqueue_room e (show s.log.queue.length < 64 by have := h.room; omega)
  refine ⟨?_, ?_⟩ <;> rw [hqueue, henq]
  · rw [insertLog_length, List.length_map]
    have := h.room
    omega
  · exact ⟨_, mem_insertLog_of_mem _ (List.mem_map.2 ⟨x, hx, rfl⟩), (renumber_code ..).trans hcode,
      (renumber_cluster ..).trans hcluster⟩

/-! ### Records of the safe state held -/

theorem putSel {j sel : Nat} (h : Logged code k m s) : Logged code k m (s.putSel j sel) :=
  h.congr ((putSel_inside (M := 135170) rfl (.refl s _)) .log rfl).symm

theorem followSel (h : Logged code k m s) : Logged code k m s.followSel :=
  h.congr ((followSel_inside (M := 135170) rfl (.refl s _)) .log rfl).symm

/-- The speed rule records at most two notes. -/
theorem selectBy {j src : Nat} {high low : Bool} (h : Logged code k m s) (hm : m + 2 ≤ 64) :
    Logged code k (m + 2) (s.selectBy j src high low) := by
  unfold Chip.selectBy
  extract_lets prev s1 side s2
  have h1 : Logged code k (m + 1) s1 :=
    .ite (record (s := s.modCl j _) (h.congr rfl) (by omega) ..) (h.mono (by omega))
  clear_value s1
  have h2 : Logged code k (m + 2) s2 :=
    .ite (h1.mono (by omega)) (record (s := (s1.modCl j _).put _ _) (h1.congr rfl) (by omega) ..)
  have h1' : Logged code k (m + 2) s1 := h1.mono (by omega)
  exact .ite h1'.putSel (.ite (.ite h1'.putSel h2.putSel) (.ite h1'.putSel h1'.putSel))

theorem evalRule {j : Nat} (h : Logged code k m s) (hm : m + 2 ≤ 64) : Logged code k (m + 2) (s.evalRule j) := by
  unfold Chip.evalRule
  split
  extract_lets th s1 s2 high low s3
  have h1 : Logged code k m s1 := h.congr rfl
  have h2 : Logged code k m s2 := .ite (h1.congr rfl) h1
  have h3 : Logged code k m s3 := .ite (h2.congr rfl) h2
  have h2' : Logged code k (m + 2) s2 := h2.mono (by omega)
  have h3' : Logged code k (m + 2) s3 := h3.mono (by omega)
  exact .ite h2'.followSel (.ite (.ite h2'.putSel h2')
    (.ite h3' (.ite h3'.putSel (.ite h3'.putSel (h3.selectBy hm)))))

theorem refreshHold {j : Nat} (h : Logged code k m s) (hm : m + 2 ≤ 64) : Logged code k (m + 2) (s.refreshHold j) := by
  unfold Chip.refreshHold
  extract_lets s1 osp s2
  have h' : Logged code k (m + 2) s := h.mono (by omega)
  have h2 : s.Inside 135170 (s2.setOvrs (s2.slicesOf j) (if osp then s2.overspeedCode j else 0)).followSel :=
    followSel_inside (by rfl) (setOvrs_inside (by rfl) (set_inside (by rfl) (set_inside (by rfl) (modCl_inside (by rfl) (.refl s _)))))
  exact .ite h'.followSel (.ite (.ite (h.evalRule hm) h') (.ite h' (h'.congr (h2 .log rfl).symm)))

end Logged

/-! ### A state entered from other than HALTED -/

/-- No clock gate opens and nothing is recorded before the safe state is refreshed. -/
theorem enter_eq_of_ne_halted {st : Nat} (hne : s.clState k ≠ st) (h5 : s.clState k ≠ 5) :
    ∃ u : Chip, s.enter k st = (u.refreshHold k).applyContactors false ∧ s.Inside 659458 u := by
  unfold enter
  extract_lets old s1 s2 s3 s4 s5 s6 s7 s8 s9 s10 s11 s12 s13
  rw [if_neg hne]
  refine ⟨s12, rfl, ?_⟩
  have h3 : s.Inside 659458 s3 :=
    put_inside (by rfl) (modCl_inside (by rfl) (sets_inside (by rfl) (.refl s _)))
  clear_value s3
  have h4 : s.Inside 659458 s4 := by
    unfold s4
    rwa [if_neg h5]
  clear_value s4
  have h5 : s.Inside 659458 s5 := .ite (.each (modCl_inside (by rfl) h4) fun _ t ht => modSlice_inside (by rfl) ht) h4
  clear_value s5
  have h6 : s.Inside 659458 s6 := .ite h5 (.each (sets_inside (by rfl) h5) fun _ t ht => setGate_inside (by rfl) ht)
  clear_value s6
  have h7 : s.Inside 659458 s7 := .ite (set_inside (by rfl) h6) h6
  clear_value s7
  have h10 : s.Inside 659458 s10 := put_inside (by rfl) (modCl_inside (by rfl) (put_inside (by rfl) h7))
  clear_value s10
  have h11 : s.Inside 659458 s11 := .ite (.ite (setOvrs_inside (by rfl) (set_inside (by rfl) h10)) h10) h7
  clear_value s11
  exact .ite (.each h11 fun _ t ht => abortLeak_inside (by rfl) ht) h11

end Chip

end Sys2Proof.Machine
end

section
/-! SUPPORT. Probes of a machine that is caught, and a start that fails (R200 to R202); O35 assembled. -/

namespace Sys2Proof.Machine

namespace Chip

variable {s : Chip} {k : Nat}

/-! ### A start that fails -/

/-- The start's failure is shown and recorded, the state still to change. -/
def lockMissed (s : Chip) (k : Nat) : Chip :=
  let u := s.sets [(Reg.SEQ_CATCH_STAT_result k, 4), (Reg.SEQ_FLAGS_catch_ev k, 1)]
  u.noteCl 0x0512 k (u.get (Reg.SEQ_CATCH_STAT_probes k) + 256 * u.get (Reg.SEQ_CATCH_STAT_method k))

theorem noLock_eq (s : Chip) (k : Nat) : s.noLock k = (s.lockMissed k).enter k 0 := rfl

theorem calm_catch : ∀ k < 4, calm (Reg.SEQ_CATCH_STAT_result k).key = true ∧ calm (Reg.SEQ_FLAGS_catch_ev k).key = true := by
  decide +kernel

/-- The result and the flag of the failure, through its record and the change of state. -/
theorem noLock_shows (hk : k < 4) : (s.noLock k).clState k = 0 ∧ (s.noLock k).get (Reg.SEQ_CATCH_STAT_result k) = 4 ∧
    (s.noLock k).get (Reg.SEQ_FLAGS_catch_ev k) = 1 := by
  have hkeys : ([(Reg.SEQ_CATCH_STAT_result k, 4), (Reg.SEQ_FLAGS_catch_ev k, 1)].map Prod.fst).Pairwise
      fun f g => f.key ≠ g.key := by
    simp only [List.map_cons, List.map_nil, List.pairwise_cons, List.forall_mem_cons, List.not_mem_nil, false_imp_iff,
      implies_true, and_true, List.Pairwise.nil, Field.key, Reg.SEQ_CATCH_STAT_result, Reg.SEQ_FLAGS_catch_ev]
    omega
  obtain ⟨hresult, hflag⟩ := calm_catch k hk
  have hcalm : (s.sets [(Reg.SEQ_CATCH_STAT_result k, 4), (Reg.SEQ_FLAGS_catch_ev k, 1)]).Calm (s.noLock k) :=
    Calm.enter hk (.record (.refl _))
  exact ⟨clState_enter hk (by decide), (hcalm _ hresult).trans (get_sets_mem (v := 4) s (by simp) hkeys),
    (hcalm _ hflag).trans (get_sets_mem (v := 1) s (by simp) hkeys)⟩

theorem lockMissed_clState (s : Chip) (k : Nat) : (s.lockMissed k).clState k = s.clState k := by
  unfold lockMissed
  extract_lets u
  have hu : u.clState k = s.clState k := by
    refine get_sets_other s ?_
    simp only [List.forall_mem_cons, List.not_mem_nil, false_imp_iff, implies_true, and_true, Field.key, Reg.SEQ_STAT_state,
      Reg.SEQ_CATCH_STAT_result, Reg.SEQ_FLAGS_catch_ev]
    omega
  rw [← hu]
  refine (Frame.noteCl (fs := [Reg.SEQ_FAULT_code k, Reg.SEQ_FAULT_class k, Reg.SEQ_FLAGS_fault k]) (ps := [.log]) u 0x0512 k _
    (.head _) (by decide) (by decide) (by simp)).1 _ ?_
  simp only [List.forall_mem_cons, List.not_mem_nil, false_imp_iff, implies_true, and_true, Field.key, Reg.SEQ_STAT_state,
    Reg.SEQ_FAULT_code, Reg.SEQ_FAULT_class, Reg.SEQ_FLAGS_fault]
  omega

theorem lockMissed_inside {M : ℕ} {z : Chip} (hM : Sub 66 M) (h : z.Inside M s) : z.Inside M (s.lockMissed k) :=
  noteCl_inside (hM.up rfl) (sets_inside (hM.up rfl) h)

theorem lockMissed_logged (h : s.log.queue.length < 32) : Logged 0x0512 k 32 (s.lockMissed k) := by
  unfold lockMissed
  extract_lets u
  have hu : u.log.queue.length ≤ 31 := Nat.le_of_lt_succ h
  clear_value u
  exact logged_record (m := 31) (by omega) hu ..

section
variable (hc : s.clState k = 1)
include hc

/-- A start that fails in CATCH opens no clock gate. -/
theorem noLock_inside_of_catch : s.Inside 1708098 (s.noLock k) := by
  have hstate := (s.lockMissed_clState k).trans hc
  obtain ⟨u, henter, hu⟩ := enter_eq_of_ne_halted (s := s.lockMissed k) (k := k) (st := 0) (by omega) (by omega)
  have hmiss : s.Inside 1708098 (s.lockMissed k) := lockMissed_inside (by rfl) (.refl s _)
  have hto : s.Inside 1708098 u := fun p hp => agree_trans (hmiss p hp) (hu p (by cases p <;> first | rfl | exact absurd hp (by decide)))
  rw [noLock_eq, henter]
  exact applyContactors_inside (by rfl) (refreshHold_inside (by rfl) hto)

/-- The record of the failure stays in a log with room. -/
theorem noLock_logged (h : s.log.queue.length < 32) : Logged 0x0512 k 34 (s.noLock k) := by
  have hstate := (s.lockMissed_clState k).trans hc
  obtain ⟨u, henter, hu⟩ := enter_eq_of_ne_halted (s := s.lockMissed k) (k := k) (st := 0) (by omega) (by omega)
  have hmiss := lockMissed_logged (k := k) h
  have hhold : Logged 0x0512 k (32 + 2) (u.refreshHold k) := (hmiss.congr (hu .log rfl).symm).refreshHold (by omega)
  rw [noLock_eq, henter]
  exact hhold.congr ((applyContactors_inside (M := 1048578) rfl (.refl (u.refreshHold k) _)) .log rfl).symm

end

/-! ### A probe -/

/-- The end of a probe is counted. -/
def probeCounted (s : Chip) (k : Nat) : Chip :=
  ((s.set (Reg.SEQ_CATCH_STAT_method k) 1).bump (Reg.SEQ_CATCH_STAT_probes k) 255).modCl k fun x => { x with lastProbe := some s.now }

theorem Frame.probeCounted (s : Chip) (k : Nat) :
    s.Frame (s.probeCounted k) [Reg.SEQ_CATCH_STAT_method k, Reg.SEQ_CATCH_STAT_probes k] [.cl] :=
  ((Frame.set s _ _ _ (by simp)).trans (.set _ _ _ _ (by simp))).trans (.modCl _ _ _ _ (.head _))

theorem get_probeCounted_method (s : Chip) (k : Nat) : (s.probeCounted k).get (Reg.SEQ_CATCH_STAT_method k) = 1 := by
  refine (get_set_other _ ?_ _).trans (get_set_self s (Reg.SEQ_CATCH_STAT_method k) 1)
  simp only [Field.key, Reg.SEQ_CATCH_STAT_method, Reg.SEQ_CATCH_STAT_probes]
  omega

theorem get_probeCounted_probes (s : Chip) (k : Nat) : (s.probeCounted k).get (Reg.SEQ_CATCH_STAT_probes k) =
    min 255 (s.get (Reg.SEQ_CATCH_STAT_probes k) + 1) := by
  have hkeep : (s.set (Reg.SEQ_CATCH_STAT_method k) 1).get (Reg.SEQ_CATCH_STAT_probes k) = s.get (Reg.SEQ_CATCH_STAT_probes k) := by
    refine get_set_other s ?_ 1
    simp only [Field.key, Reg.SEQ_CATCH_STAT_method, Reg.SEQ_CATCH_STAT_probes]
    omega
  have hlt : s.get (Reg.SEQ_CATCH_STAT_probes k) < 256 := s.get_lt _
  change ((s.set (Reg.SEQ_CATCH_STAT_method k) 1).set (Reg.SEQ_CATCH_STAT_probes k) _).get _ = _
  rw [get_set_self, hkeep, satInc_of_le (by omega)]
  exact Nat.mod_eq_of_lt (show _ < 256 by omega)

theorem cluster_probeCounted (hk : k < s.cl.length) :
    (s.probeCounted k).cluster k = { s.cluster k with lastProbe := some s.now } := cluster_modCl hk _

/-- A probe below the threshold: a count toward standstill, and the angles are gone. -/
def probeLow (s : Chip) (k : Nat) : Chip :=
  (s.probeCounted k).modCl k fun x => { x with probes := [], lowProbes := x.lowProbes + 1 }

/-- A probe above the threshold with its angle. -/
def probeHigh (s : Chip) (k th : Nat) : Chip :=
  (s.probeCounted k).modCl k fun x => { x with lowProbes := 0, probes := (th :: x.probes).take 4 }

theorem length_probeCounted (s : Chip) (k : Nat) : (s.probeCounted k).cl.length = s.cl.length := updNth_length ..

theorem cluster_probeLow (hk : k < s.cl.length) : (s.probeLow k).cluster k =
    { s.cluster k with lastProbe := some s.now, probes := [], lowProbes := (s.cluster k).lowProbes + 1 } := by
  rw [probeLow, cluster_modCl (by rwa [length_probeCounted]), cluster_probeCounted hk]

theorem cluster_probeHigh (hk : k < s.cl.length) (th : Nat) : (s.probeHigh k th).cluster k =
    { s.cluster k with lastProbe := some s.now, lowProbes := 0, probes := (th :: (s.cluster k).probes).take 4 } := by
  rw [probeHigh, cluster_modCl (by rwa [length_probeCounted]), cluster_probeCounted hk]

/-- Fewer than four angles give no speed. -/
theorem probeSum_short {l : List Nat} (h : l.length < 4) : probeSum l = none := by
  unfold probeSum
  split
  · simp at h
  · rfl

/-- The current of a probe lies below the threshold. -/
def lowCurrent (s : Chip) (k : Nat) (a b : Word) (c : ProbeEnd) : Bool :=
  F32.lt (hypot (clarke (a.toNat, b.toNat, c.ic.toNat)).1 (clarke (a.toNat, b.toNat, c.ic.toNat)).2) (s.get (Reg.SEQ_CATCH_IMIN_v k))

theorem lowCurrent_probeCounted (s : Chip) (k : Nat) (a b : Word) (c : ProbeEnd) :
    (s.probeCounted k).lowCurrent k a b c = s.lowCurrent k a b c := by
  unfold lowCurrent
  rw [(Frame.probeCounted s k).1]
  simp only [List.forall_mem_cons, List.not_mem_nil, false_imp_iff, implies_true, and_true, Field.key,
    Reg.SEQ_CATCH_IMIN_v, Reg.SEQ_CATCH_STAT_method, Reg.SEQ_CATCH_STAT_probes]
  omega

theorem engineOf_probeLow (hk : k < s.cl.length) : (s.probeLow k).engineOf k = s.engineOf k := by
  rw [engineOf, engineOf, cluster_probeLow hk]

theorem hfiOk_probeLow (s : Chip) (k e : Nat) : (s.probeLow k).hfiOk k e = s.hfiOk k e := by
  have hget : (s.probeLow k).get (Reg.OBS_CFG_hfi_en e) = s.get (Reg.OBS_CFG_hfi_en e) := by
    refine (Frame.probeCounted s k).1 _ ?_
    simp only [List.forall_mem_cons, List.not_mem_nil, false_imp_iff, implies_true, and_true, Field.key,
      Reg.OBS_CFG_hfi_en, Reg.SEQ_CATCH_STAT_method, Reg.SEQ_CATCH_STAT_probes]
    omega
  have hmotor : (s.probeLow k).motor k = s.motor k := rfl
  rw [hfiOk, hfiOk, hmotor, on_eq, on_eq, hget]

/-- In CATCH by probes, nothing found yet: the cluster takes the end of a probe, and not as a discharge does. -/
theorem probing_of_catch (hc : s.clState k = 1) (hover : s.on (Reg.SEQ_STAT_overspeed k) = false) (hm : s.catchMethod k = 1)
    (hlock : (s.cluster k).lock = none) (hflux : (s.cluster k).flux = none) : s.probing k = true ∧ s.quiet k = false := by
  have hquiet : s.quiet k = false := by simp [quiet, hc]
  refine ⟨?_, hquiet⟩
  simp [probing, hquiet, hc, hover, hm, hlock, hflux]

end Chip

section
variable {s : State} {k : Fin 4} {a b : Word} {c : ProbeEnd}

theorem catchProbe_idle (hd : s.chip.pwr.dieReset = false) (h : s.chip.probeEnds k = false) :
    Completes (.catchProbe k a b c) s [] [] (fun _ => True) := by
  have hx : exec (.catchProbe k a b c) s = s.act fun x => x :=
    State.act_congr (if_pos (by simp [h]))
  exact completes_unchanged hx hd rfl

variable (hd : s.chip.pwr.dieReset = false) (hs : s.chip.Shaped)
  (hc : s.chip.clState k = 1) (hover : s.chip.on (Reg.SEQ_STAT_overspeed k) = false) (hm : s.chip.catchMethod k = 1)
  (hlock : (s.chip.cluster k).lock = none) (hflux : (s.chip.cluster k).flux = none)
  (hends : s.chip.probeEnds k = true) (hnew : (s.chip.cluster k).lastProbe ≠ some s.chip.now)
include hd hs hc hover hm hlock hflux hends hnew

omit hd hs in
theorem exec_catchProbe : exec (.catchProbe k a b c) s = s.act fun x =>
    if (x.probeCounted k).lowCurrent k a b c then
      if ((x.probeLow k).cluster k).lowProbes ≥ 4 then (x.probeLow k).catchStandstill k else x.probeLow k
    else
      let al := (Chip.clarke (a.toNat, b.toNat, c.ic.toNat)).1
      let be := (Chip.clarke (a.toNat, b.toNat, c.ic.toNat)).2
      let th := Config.atan2 be al % 65536
      let y := x.probeHigh k th
      match Chip.probeSum (y.cluster k).probes with
      | none => y
      | some sum =>
        match c.bad with
        | some off => y.larderBad k off
        | none =>
          let w := Chip.angSpeed sum.natAbs 3 50000
          let e := F32.div (F32.mul (y.inductance k 0 (Chip.hypot al be)).1 (Chip.hypot al be)) (Chip.seconds (y.probeLen k))
          let w := if sum < 0 then F32.neg w else w
          (y.obsCaught k ((if sum < 0 then th + 49152 else th + 16384) % 65536) w).catchLock k w e false := by
  obtain ⟨hprobing, hquiet⟩ := Chip.probing_of_catch hc hover hm hlock hflux
  exact State.act_congr ((if_neg (by simp [hprobing, hends, hnew])).trans (if_neg (by simp [hquiet])))

theorem catchProbe_low (hlow : s.chip.lowCurrent k a b c = true) (hn : (s.chip.cluster k).lowProbes < 3) :
    Completes (.catchProbe k a b c) s [Reg.SEQ_CATCH_STAT_method k, Reg.SEQ_CATCH_STAT_probes k] [.cl] (fun t =>
      (t.cluster k).probes = [] ∧ (t.cluster k).lowProbes = (s.chip.cluster k).lowProbes + 1 ∧
      (t.cluster k).lastProbe = some s.chip.now ∧ t.get (Reg.SEQ_CATCH_STAT_method k) = 1) := by
  have hcluster := Chip.cluster_probeLow (hs.cl_lt k)
  have hcount : ((s.chip.probeLow k).cluster k).lowProbes = (s.chip.cluster k).lowProbes + 1 := congrArg ClusterS.lowProbes hcluster
  have hx : exec (.catchProbe k a b c) s = s.act fun x => x.probeLow k :=
    (exec_catchProbe hc hover hm hlock hflux hends hnew).trans (State.act_congr
      ((if_pos (by rwa [Chip.lowCurrent_probeCounted])).trans (if_neg (by rw [hcount]; omega))))
  refine completes_of_act hx hd ((Chip.Frame.probeCounted ..).trans (.modCl _ _ _ _ (.head _))) ?_
  rw [Chip.settle_cluster, Chip.settle_get, hcluster]
  exact ⟨rfl, rfl, rfl, s.chip.get_probeCounted_method k⟩

theorem catchProbe_high (hhigh : s.chip.lowCurrent k a b c = false) (hn : (s.chip.cluster k).probes.length < 3) :
    Completes (.catchProbe k a b c) s [Reg.SEQ_CATCH_STAT_method k, Reg.SEQ_CATCH_STAT_probes k] [.cl] (fun t =>
      (t.cluster k).probes.tail = (s.chip.cluster k).probes ∧ (t.cluster k).lowProbes = 0 ∧
      t.get (Reg.SEQ_CATCH_STAT_probes k) = min 255 (s.chip.get (Reg.SEQ_CATCH_STAT_probes k) + 1)) := by
  set th := Config.atan2 (Chip.clarke (a.toNat, b.toNat, c.ic.toNat)).2 (Chip.clarke (a.toNat, b.toNat, c.ic.toNat)).1 % 65536
  have hcluster := Chip.cluster_probeHigh (hs.cl_lt k) th
  have htake : (th :: (s.chip.cluster k).probes).take 4 = th :: (s.chip.cluster k).probes :=
    List.take_of_length_le (by rw [List.length_cons]; omega)
  rw [htake] at hcluster
  have hsum : Chip.probeSum ((s.chip.probeHigh k th).cluster k).probes = none := by
    rw [hcluster]
    exact Chip.probeSum_short (by rw [List.length_cons]; omega)
  have hx : exec (.catchProbe k a b c) s = s.act fun x => x.probeHigh k th := by
    refine (exec_catchProbe hc hover hm hlock hflux hends hnew).trans (State.act_congr
      ((if_neg (by rw [Chip.lowCurrent_probeCounted, hhigh]; simp)).trans ?_))
    dsimp only
    rw [hsum]
  refine completes_of_act hx hd ((Chip.Frame.probeCounted ..).trans (.modCl _ _ _ _ (.head _))) ?_
  rw [Chip.settle_cluster, Chip.settle_get, hcluster]
  exact ⟨rfl, rfl, s.chip.get_probeCounted_probes k⟩

theorem catchProbe_standstill (hlow : s.chip.lowCurrent k a b c = true) (hn : (s.chip.cluster k).lowProbes = 3)
    (hhfi : s.chip.hfiOk k (s.chip.engineOf k) = false) :
    Touches (.catchProbe k a b c) s [.regs, .log, .cl, .slice, .isl, .safe] (fun t => t.clState k = 0 ∧
      t.get (Reg.SEQ_CATCH_STAT_result k) = 4 ∧
      (s.chip.log.queue.length < 32 → ∃ e ∈ t.log.queue, e.code = 0x0512 ∧ e.cluster = k)) := by
  have hk := hs.cl_lt k
  have hx : exec (.catchProbe k a b c) s = s.act fun x => (x.probeLow k).noLock k := by
    refine (exec_catchProbe hc hover hm hlock hflux hends hnew).trans (State.act_congr
      ((if_pos (by rwa [Chip.lowCurrent_probeCounted])).trans ((if_pos ?_).trans (if_neg ?_))))
    · rw [Chip.cluster_probeLow hk, hn]
    · rw [Chip.engineOf_probeLow hk, Chip.hfiOk_probeLow, hhfi]
      simp
  have hstate : (s.chip.probeLow k).clState k = 1 := by
    refine ((Chip.Frame.probeCounted s.chip k).1 _ ?_).trans hc
    simp only [List.forall_mem_cons, List.not_mem_nil, false_imp_iff, implies_true, and_true, Field.key,
      Reg.SEQ_STAT_state, Reg.SEQ_CATCH_STAT_method, Reg.SEQ_CATCH_STAT_probes]
    omega
  have hin : s.chip.Inside 1708098 (s.chip.probeLow k) :=
    Chip.modCl_inside (by rfl) (Chip.modCl_inside (by rfl) (Chip.set_inside (by rfl) (Chip.set_inside (by rfl) (.refl _ _))))
  have hnolock := Chip.noLock_inside_of_catch hstate
  obtain ⟨hidle, hresult, -⟩ := Chip.noLock_shows (s := s.chip.probeLow k) k.isLt
  refine touches_of_act hx hd (fun p hp => Chip.agree_trans (hin p hp) (hnolock p hp)) ?_
  rw [Chip.settle_clState, Chip.settle_get, Chip.settle_log]
  exact ⟨hidle, hresult, fun hroom => (Chip.noLock_logged hstate hroom).entry⟩

end

/-! ### CATCH_TIMEOUT -/

section
variable {s : State} {k : Fin 4} (hd : s.chip.pwr.dieReset = false) (hc : s.chip.clState k = 1)
  (hover : s.chip.on (Reg.SEQ_STAT_overspeed k) = false) (hflux : (s.chip.cluster k).flux = none)

theorem catchTimeout_early (hd : s.chip.pwr.dieReset = false) (h : s.chip.now < (s.chip.cluster k).catchAt + Chip.ms 8) :
    Completes (.catchTimeout k) s [] [] (fun _ => True) := by
  have hx : exec (.catchTimeout k) s = s.act fun x => x := State.act_congr (if_pos (by simp [h]))
  exact completes_unchanged hx hd rfl

/-- The islands that kept a lock from starting are recorded. -/
def Chip.catchLate (c : Chip) (k : Nat) : Chip :=
  match (bitsOf (c.bootPending k) 12).head?, (c.cluster k).lock with
  | some n, some _ => c.islRecord n 0x021D 0 (c.bootPending k)
  | _, _ => c

include hd hc hover hflux

theorem catchTimeout_late (h : (s.chip.cluster k).catchAt + Chip.ms 8 ≤ s.chip.now) :
    Touches (.catchTimeout k) s [.regs, .log, .pwr, .cl, .slice, .isl, .safe] (fun t => t.clState k = 0 ∧
      t.get (Reg.SEQ_CATCH_STAT_result k) = 4 ∧ t.get (Reg.SEQ_FLAGS_catch_ev k) = 1) := by
  have hx : exec (.catchTimeout k) s = s.act fun x => (x.catchLate k).noLock k := by
    refine State.act_congr (if_neg ?_)
    simp [hc, hover, hflux, h]
  refine touches_of_inside hx hd (fun _ ht => execCatchTimeout_inside (by rfl) ht) ?_
  rw [Chip.settle_clState, Chip.settle_get, Chip.settle_get]
  exact Chip.noLock_shows k.isLt

end

/-- Settles O35, one lemma per clause. -/
theorem catchProbesAndTimeout : Obligations.CatchProbesAndTimeout := by
  unfold Obligations.CatchProbesAndTimeout
  intro s k a b c hd hs hc hover
  refine ⟨catchProbe_idle hd, fun hm hlock hflux hends hnew => ⟨?_, ?_, ?_⟩,
    fun hflux => ⟨catchTimeout_late hd hc hover hflux, catchTimeout_early hd⟩⟩
  · exact catchProbe_low hd hs hc hover hm hlock hflux hends hnew
  · exact catchProbe_high hd hs hc hover hm hlock hflux hends hnew
  · exact catchProbe_standstill hd hs hc hover hm hlock hflux hends hnew

end Sys2Proof.Machine
end

section
/-! SUPPORT. The registers that a result leaves its value in and the settings of the slots: no stage of a pass writes them. The relation,
its rules, and the stages of the position channels, the DC bus and the redundant paths. -/

namespace Sys2Proof.Machine

namespace Chip

/-- The results of the sigma-delta inputs, the trigger flags of the slices, the enables of the SAR converters, the unit and the path of the slots. -/
def resultFields : List Field :=
  (List.range 12).flatMap (fun m => [Reg.SD_RES_raw m, Reg.SD_RES_valid m]) ++ (List.range 16).map Reg.PWM_S_FLAGS_trig ++
    (List.range 16).map Reg.ADC_S_CFG_en ++
    (List.range 4).flatMap fun k => (List.range 28).flatMap fun i => [Reg.ADC_C_SLOT_unit k i, Reg.ADC_C_SLOT_path k i]

/-- A field is none of those. -/
def Aside (f : Field) : Prop := ∀ g ∈ resultFields, g.key ≠ f.key

/-- The fields of cluster or engine k that the stages of a pass write themselves. -/
def stageFields (k : Nat) : List Field :=
  [Reg.SEQ_STAT_ang_now k, Reg.SEQ_STAT_dup k, Reg.SEQ_STAT_overspeed k, Reg.SEQ_STAT_held k, Reg.SEQ_FLAGS_dup_ev k,
    Reg.SEQ_FLAGS_obs_lost k, Reg.SEQ_FLAGS_obs_lock_ev k, Reg.SEQ_FLAGS_overrun k, Reg.SEQ_FLAGS_tq_clamp k, Reg.SEQ_FLAGS_i_lim k,
    Reg.SEQ_FLAGS_mod_lim k, Reg.SEQ_FLAGS_catch_ev k, Reg.SEQ_FLAGS_wdis_ev k, Reg.SEQ_TIME_last k, Reg.SEQ_TIME_worst k,
    Reg.SEQ_CATCH_STAT_result k, Reg.SEQ_CATCH_STAT_probes k, Reg.SEQ_CATCH_STAT_method k, Reg.SEQ_CATCH_STAT_vll_ratio k,
    Reg.SEQ_CATCH_W_v k, Reg.OBS_STAT_region k, Reg.OBS_STAT_obs_lock k, Reg.OBS_STAT_lock_cnt k, Reg.OBS_STAT_dir k,
    Reg.OBS_STAT_ke_valid k, Reg.OBS_STAT_ke_dev k, Reg.OBS_STAT_ke_timer k, Reg.OBS_ANGLE_angle k, Reg.OBS_ERR_pll_err k,
    Reg.OBS_ERR_pos_diff k, Reg.OBS_SPEED_v k, Reg.OBS_FLUX_v k, Reg.OBS_KE_v k, Reg.OBS_KE_DEV_v k, Reg.OBS_HFI_AMP_v k,
    Reg.FC_STAT_mod_limited k, Reg.FC_STAT_tq_clamp k, Reg.FC_STAT_i_limited k, Reg.FC_STAT_mode k, Reg.FC_STAT_fw_active k,
    Reg.FC_FW_DID_v k, Reg.FC_TQ_REF_v k, Reg.FC_TQ_LIM_v k, Reg.FC_ID_REF_v k, Reg.FC_IQ_REF_v k, Reg.FC_VD_v k, Reg.FC_VQ_v k,
    Reg.FC_MOD_m_cap k, Reg.FC_MOD_m_req k, Reg.FC_ID_v k, Reg.FC_IQ_v k, Reg.CLE_FLAGS_ecc_unc k, Reg.CLE_FLAGS_ecc_cor k,
    Reg.CLE_FLAGS_lim_crossed k, Reg.CLE_FLAGS_nonfinite k, Reg.CLE_FLAGS_loop_missing k, Reg.CLE_FLAGS_lim k, Reg.CLE_STAT_due k,
    Reg.CLE_STAT_secs k, Reg.CLE_STAT_frozen k, Reg.CLE_STAT_fe_timer k, Reg.CHM_C_STAT_hot k, Reg.CHM_C_STAT_budget k,
    Reg.CHM_C_STAT_unknown k, Reg.CHM_C_STAT_no_record k, Reg.CHM_C_STAT_peak k, Reg.CHM_C_LIM_v k, Reg.CHM_C_I2T_v k,
    Reg.CHM_FLAGS_enforce, Reg.CHM_FLAGS_released, Reg.CHM_FLAGS_peak_req, Reg.CHM_FLAGS_tj_over, Reg.ADC_C_FLAGS_i_mis k,
    Reg.ADC_C_FLAGS_vdc_mis k, Reg.ADC_C_FLAGS_isum k, Reg.ADC_C_FLAGS_clip k, Reg.SAFE_STAT_ov, Reg.SAFE_VDC_HI_v,
    Reg.SAFE_FLAGS_ov1_ev, Reg.SAFE_FLAGS_ov2_ev, Reg.SAFE_FLAGS_dis_done, Reg.SAFE_STAT_chop_on, Reg.SAFE_CHOP_STAT_on,
    Reg.SAFE_CHOP_STAT_count, Reg.SAFE_DIS_STAT_state, Reg.SAFE_DIS_STAT_reason]

theorem aside_of_all {l : List Field} (all : (l.all fun f => resultFields.all fun g => g.key != f.key) = true) {f : Field}
    (hf : f ∈ l) : Aside f := fun g hg => by simpa using List.all_eq_true.1 (List.all_eq_true.1 all f hf) g hg

theorem aside_stage {k : Nat} (hk : k < 4) {f : Field} (hf : f ∈ stageFields k) : Aside f := by
  have all : ∀ k < 4, ((stageFields k).all fun f => resultFields.all fun g => g.key != f.key) = true := by decide +kernel
  exact aside_of_all (all k hk) hf

theorem aside_shared {f : Field} (hf : f ∈ stageFields 0) : Aside f := aside_stage (by decide) hf

/-- The list outputs of the engines stand at bit 0 of words at odd multiples of four. -/
theorem aside_listOut (e n : Nat) : Aside (Reg.CLE_LIST_OUT_v e n) := by
  have all : (resultFields.all fun g => g.key % 256 != 128) = true := by decide +kernel
  intro g hg h
  have hne : g.key % 256 ≠ 128 := by simpa using List.all_eq_true.1 all g hg
  rw [h] at hne
  simp only [Field.key, Reg.CLE_LIST_OUT_v] at hne
  omega

theorem calm_result {f : Field} (hf : f ∈ resultFields) : calm f.key = true := by
  have all : (resultFields.all fun f => calm f.key) = true := by decide +kernel
  exact List.all_eq_true.1 all f hf

theorem partner_lt {k : Nat} (hk : k < 4) : partner k < 4 := by
  unfold partner
  split <;> omega

theorem engineOf_lt {k : Nat} (hk : k < 4) (s : Chip) : s.engineOf k < 4 := by
  unfold engineOf
  split
  · exact partner_lt hk
  · exact hk

theorem engineSets_lt {k e : Nat} (hk : k < 4) {s : Chip} (he : e ∈ s.engineSets k) : e < 4 := by
  unfold engineSets at he
  split at he
  · cases he
  split at he
  · rcases List.mem_pair.1 he with rfl | rfl
    · exact hk
    · exact partner_lt hk
  · rw [List.mem_singleton.1 he]
    exact engineOf_lt hk s

theorem posOf_lt {s : Chip} {k n : Nat} (h : s.posOf k = some n) : n < 2 := by
  unfold posOf at h
  split at h
  next hlt => exact Option.some.inj h ▸ hlt
  next => cases h

/-! ### An evaluation of a position channel -/

/-- The fields of channel n that an evaluation writes, and those that a note can. -/
def evalFields (n : Nat) : List Field :=
  [Reg.POS_STAT_qerr_count n, Reg.POS_STAT_pos_valid n, Reg.POS_STAT_idx_seen n, Reg.POS_STAT_res_lock n, Reg.POS_STAT_spd_valid n,
    Reg.POS_STAT_dir n, Reg.POS_FLAGS_pos_ok n, Reg.POS_FLAGS_pos_lost n, Reg.POS_FLAGS_res_err n, Reg.POS_FLAGS_dir_ev n,
    Reg.POS_SPEED_speed n, Reg.POS_EDGE_TS_t_e n, Reg.POS_ANGLE_angle n, Reg.POS_ANGLE_lat_ang n, Reg.POS_RES_AMP_amp n,
    Reg.POS_RES_ERR_err n] ++ swayed

/-- An evaluation of channel n has written its own registers alone. -/
def Evaluated (n : Nat) (c d : Chip) : Prop := ∀ f : Field, (∀ g ∈ evalFields n, f.key ≠ g.key) → d.get f = c.get f

namespace Evaluated

variable {z s : Chip} {n : Nat}

theorem refl (c : Chip) : c.Evaluated n c := fun _ _ => rfl

theorem ite {c : Prop} [Decidable c] {a b : Chip} (ha : z.Evaluated n a) (hb : z.Evaluated n b) :
    z.Evaluated n (if c then a else b) := by
  split <;> assumption

theorem same {t : Chip} (h : z.Evaluated n s) (hr : t.regs = s.regs) : z.Evaluated n t :=
  fun f hf => by rw [← h f hf, Chip.get, Chip.get, hr]

theorem modPos {j : Nat} {f : PosS → PosS} (h : z.Evaluated n s) : z.Evaluated n (s.modPos j f) := h.same rfl

theorem set {f : Field} (hf : f ∈ evalFields n) (v : Nat) (h : z.Evaluated n s) : z.Evaluated n (s.set f v) :=
  fun g hg => (get_set_other s (hg f hf) v).trans (h g hg)

theorem put {f : Field} (hf : f ∈ evalFields n) (b : Bool) (h : z.Evaluated n s) : z.Evaluated n (s.put f b) := h.set hf _

theorem posOk (h : z.Evaluated n s) : z.Evaluated n (s.posOk n) := fun f hf =>
  ((Frame.posOk s n).1 f fun g hg => hf g (by
    simp only [List.mem_cons, List.not_mem_nil, or_false] at hg
    rcases hg with rfl | rfl | rfl <;> simp [evalFields])).trans (h f hf)

theorem posLose (h : z.Evaluated n s) : z.Evaluated n (s.posLose n) := by
  unfold Chip.posLose
  extract_lets s1
  have h1 : z.Evaluated n s1 := h.modPos.put (by simp [evalFields]) _
  exact .ite ((h1.put (by simp [evalFields]) _).put (by simp [evalFields]) _) h1

theorem posNote {code data : Nat} (h : z.Evaluated n s) : z.Evaluated n (s.posNote code n data) := fun f hf => by
  refine ((Calm.refl s).posNote f ?_).trans (h f hf)
  simp only [calm, Bool.not_eq_true', List.any_eq_false, beq_iff_eq]
  exact fun g hg e => hf g (List.mem_append_right _ hg) e.symm

theorem resUnlock {code data : Nat} (h : z.Evaluated n s) : z.Evaluated n (s.resUnlock n code data) := by
  unfold Chip.resUnlock
  extract_lets s1
  have h1 : z.Evaluated n s1 := .ite (h.put (by simp [evalFields]) _).posLose h
  have h2 : z.Evaluated n ((s1.put (Reg.POS_STAT_spd_valid n) false).put (Reg.POS_FLAGS_res_err n) true) :=
    (h1.put (by simp [evalFields]) _).put (by simp [evalFields]) _
  exact h2.posNote

theorem resEval {sig : Option (Int × Int)} (h : z.Evaluated n s) : z.Evaluated n (s.resEval n sig) := by
  unfold Chip.resEval
  split
  · extract_lets m amp th err s1 outside e dt bw s2 p s3 s4 s5 spd back s6
    have h2 : z.Evaluated n s2 := ((h.set (by simp [evalFields]) _).set (by simp [evalFields]) _).modPos
    clear_value s2
    have h3 : z.Evaluated n s3 := .ite h2.resUnlock h2
    clear_value s3
    have h4 : z.Evaluated n s4 := .ite h3.resUnlock h3
    clear_value s4
    have h5 : z.Evaluated n s5 := .ite ((h4.put (by simp [evalFields]) _).put (by simp [evalFields]) _).posOk h4
    clear_value s5
    have h6 : z.Evaluated n s6 := .ite ((h5.put (by simp [evalFields]) _).put (by simp [evalFields]) _) h5
    exact ((h6.set (by simp [evalFields]) _).set (by simp [evalFields]) _).set (by simp [evalFields]) _
  · exact .ite h.modPos.resUnlock h.modPos

theorem evalSpeed (h : z.Evaluated n s) : z.Evaluated n (s.evalSpeed n) :=
  .ite (.ite (h.set (by simp [evalFields]) _).modPos (h.set (by simp [evalFields]) _)) h.modPos

theorem latchAngle (h : z.Evaluated n s) : z.Evaluated n (s.latchAngle n) := h.modPos.set (by simp [evalFields]) _

theorem posEval (h : z.Evaluated n s) : z.Evaluated n (s.posEval n) :=
  latchAngle (.ite h.evalSpeed (.ite h.resEval.modPos h))

theorem atTick {t : Nat} {f : Chip → Chip} (h : z.Evaluated n (f { s with now := t })) : z.Evaluated n (s.atTick t f) := h.same rfl

theorem modCl {k : Nat} {f : ClusterS → ClusterS} (h : z.Evaluated n s) : z.Evaluated n (s.modCl k f) := h.same rfl

theorem sampleRef {k : Nat} (h : z.Evaluated n s) : z.Evaluated n (s.sampleRef k) := .ite h (h.same rfl)

theorem sampleNow {k : Nat} (hn : ∀ j, s.posOf k = some j → j = n) : s.Evaluated n (s.sampleNow k) := by
  unfold Chip.sampleNow
  refine .ite (.refl s) (atTick ?_)
  extract_lets lp res s1
  have h1 : s.Evaluated n s1 := .modCl (.sampleRef (.same (.refl s) rfl))
  have hp : s1.posOf k = s.posOf k := by
    unfold s1 Chip.sampleRef
    split <;> rfl
  clear_value s1
  split
  next j hj =>
    obtain rfl := hn j (hp.symm.trans hj)
    exact .ite h1 h1.posEval
  next => exact h1

end Evaluated

/-- The sample tick evaluates the cluster's channel at most. -/
theorem get_sampleNow (s : Chip) (k : Nat) {f : Field} (hf : ∀ n < 2, ∀ g ∈ evalFields n, f.key ≠ g.key) :
    (s.sampleNow k).get f = s.get f := by
  cases hp : s.posOf k with
  | some n => exact Evaluated.sampleNow (fun j hj => (Option.some.inj (hp.symm.trans hj)).symm) f (hf n (posOf_lt hp))
  | none => exact Evaluated.sampleNow (fun j hj => nomatch hp.symm.trans hj) f (hf 0 (by decide))

/-! ### The stages write aside -/

/-- Those fields of c keep their values in d. -/
def Quiet (c d : Chip) : Prop := ∀ f ∈ resultFields, d.get f = c.get f

namespace Quiet

variable {z s : Chip} {k n : Nat}

theorem refl (c : Chip) : c.Quiet c := fun _ _ => rfl

theorem trans {c d e : Chip} (h : c.Quiet d) (k : d.Quiet e) : c.Quiet e := fun f hf => (k f hf).trans (h f hf)

theorem ite {c : Prop} [Decidable c] {a b : Chip} (ha : z.Quiet a) (hb : z.Quiet b) : z.Quiet (if c then a else b) := by
  split <;> assumption

theorem iteP {α : Type} {c : Prop} [Decidable c] {a b : Chip × α} (ha : z.Quiet a.1) (hb : z.Quiet b.1) :
    z.Quiet (if c then a else b).1 := by
  split <;> assumption

theorem each {α : Type} {l : List α} {f : α → Chip → Chip} (h : z.Quiet s)
    (hf : ∀ a ∈ l, ∀ t, z.Quiet t → z.Quiet (f a t)) : z.Quiet (forEach l f s) := forEach_preserves hf h

theorem same {t : Chip} (h : z.Quiet s) (hr : t.regs = s.regs) : z.Quiet t :=
  fun f hf => by rw [← h f hf, Chip.get, Chip.get, hr]

theorem calm {t : Chip} (h : z.Quiet s) (hc : s.Calm t) : z.Quiet t := h.trans fun f hf => hc f (calm_result hf)

theorem frame {t : Chip} {fs : List Field} {ps : List Part} (h : z.Quiet s) (hf : s.Frame t fs ps) (hfs : ∀ f ∈ fs, Aside f) :
    z.Quiet t := h.trans fun g hg => hf.1 g fun f hm => hfs f hm g hg

theorem set {f : Field} (hf : Aside f) (v : Nat) (h : z.Quiet s) : z.Quiet (s.set f v) :=
  fun g hg => (get_set_other s (hf g hg) v).trans (h g hg)

theorem put {f : Field} (hf : Aside f) (b : Bool) (h : z.Quiet s) : z.Quiet (s.put f b) := h.set hf _

theorem setBitOf {f : Field} (hf : Aside f) (i : Nat) (h : z.Quiet s) : z.Quiet (s.setBitOf f i) :=
  h.frame (.setBitOf s f i [] (List.mem_singleton_self f)) (by simpa using hf)

theorem sets {l : List (Field × Nat)} (hl : ∀ p ∈ l, Aside p.1) (h : z.Quiet s) : z.Quiet (s.sets l) := by
  induction l generalizing s with
  | nil => exact h
  | cons p l ih => exact ih (fun q hq => hl q (.tail _ hq)) (h.set (hl p (.head _)) p.2)

theorem modCl {f : ClusterS → ClusterS} (h : z.Quiet s) : z.Quiet (s.modCl k f) := h.same rfl

theorem modCle {f : CleS → CleS} (h : z.Quiet s) : z.Quiet (s.modCle k f) := h.same rfl

theorem modMeas {f : MeasS → MeasS} (h : z.Quiet s) : z.Quiet (s.modMeas k f) := h.same rfl

theorem modPos {f : PosS → PosS} (h : z.Quiet s) : z.Quiet (s.modPos n f) := h.same rfl

theorem modChm {f : ChmS → ChmS} (h : z.Quiet s) : z.Quiet (s.modChm f) := h.same rfl

theorem useFree (h : z.Quiet s) : z.Quiet s.useFree := h.same rfl

theorem record {code cls inst cluster region data : Nat} (h : z.Quiet s) :
    z.Quiet (s.record code cls inst cluster region data) := h.calm (Calm.refl s).record

theorem noteCl {code data : Nat} (h : z.Quiet s) : z.Quiet (s.noteCl code k data) := h.record

theorem faultCl {code cls inst data : Nat} (hk : k < 4) (h : z.Quiet s) : z.Quiet (s.faultCl code cls inst k data) :=
  h.calm ((Calm.refl s).faultCl hk)

theorem enter {st : Nat} (hk : k < 4) (h : z.Quiet s) : z.Quiet (s.enter k st) := h.calm ((Calm.refl s).enter hk)

theorem setHeld {code : Nat} (hk : k < 4) (h : z.Quiet s) : z.Quiet (s.setHeld k code) := h.calm ((Calm.refl s).setHeld hk)

theorem setOvr {code : Nat} (hn : n < 16) (h : z.Quiet s) : z.Quiet (s.setOvr n code) := h.calm ((Calm.refl s).setOvr hn)

theorem setOvrs {t : Chip} {code : Nat} (h : z.Quiet s) : z.Quiet (s.setOvrs (t.slicesOf k) code) := h.calm (Calm.refl s).setOvrs

/-! ### Position channels -/

theorem aside_eval {n : Nat} (hn : n < 2) {f : Field} (hf : f ∈ evalFields n) : Aside f := by
  have all : ∀ n < 2, ((evalFields n).all fun f => resultFields.all fun g => g.key != f.key) = true := by decide +kernel
  exact aside_of_all (all n hn) hf

theorem evaluated {t : Chip} (h : z.Quiet s) (hn : n < 2) (he : s.Evaluated n t) : z.Quiet t :=
  h.trans fun f hf => he f fun _ hg => aside_eval hn hg f hf

theorem atTick {t : Nat} {f : Chip → Chip} (h : z.Quiet (f { s with now := t })) : z.Quiet (s.atTick t f) := h.same rfl

theorem sampleNow (h : z.Quiet s) : z.Quiet (s.sampleNow k) :=
  h.trans fun f hf => get_sampleNow s k fun _ hn _ hg => aside_eval hn hg f hf

theorem resPass {neg : Bool} (h : z.Quiet s) : z.Quiet (s.resPass k neg) := by
  unfold Chip.resPass
  extract_lets m awaited s1
  refine .ite h ?_
  have h1 : z.Quiet s1 := h.modCl
  clear_value s1
  split
  next => exact h1
  next n hn =>
    refine atTick (h1.evaluated (posOf_lt hn) ?_)
    exact .latchAngle (.modPos (.resEval (.same (.refl s1) rfl)))

/-! ### The DC bus -/

theorem chopper {b : Bool} (h : z.Quiet s) : z.Quiet (s.chopper b) := by
  unfold Chip.chopper
  extract_lets s1
  have h1 : z.Quiet s1 := (h.put (aside_shared (by simp [stageFields])) _).put
    (aside_shared (by simp [stageFields])) _
  split
  next n hn =>
    refine h1.setOvr ?_
    unfold chopSlice at hn
    extract_lets m at hn
    split at hn
    · exact Option.some.inj hn ▸ get_lt s1 Reg.SAFE_CHOP_CFG_slice
    · cases hn
  next => exact h1

theorem resistor {b : Bool} (h : z.Quiet s) : z.Quiet (s.resistor b) :=
  .ite (.ite (h.setOvr (get_lt s Reg.SAFE_DIS_CTL_xslice)) h) (h.same rfl)

theorem chopRule (h : z.Quiet s) : z.Quiet s.chopRule := by
  unfold Chip.chopRule
  extract_lets v2 s1
  have h1 : z.Quiet s1 := h.chopper
  refine .ite h (.ite (.ite h ?_) (.ite (h1.same rfl) h))
  have h2 : z.Quiet (s.count Reg.SAFE_CHOP_STAT_count) := h.set (aside_shared (by simp [stageFields])) _
  exact (h2.chopper (b := true)).same rfl

theorem endWdis (hk : k < 4) (h : z.Quiet s) : z.Quiet (s.endWdis k) :=
  .ite ((h.enter hk).put (aside_stage hk (by simp [stageFields])) _) h

theorem disEnd {state reason : Nat} (h : z.Quiet s) : z.Quiet (s.disEnd state reason) := by
  unfold Chip.disEnd
  extract_lets s1 s2
  have h1 : z.Quiet s1 := .ite h.resistor h
  have h2 : z.Quiet s2 := (h1.set (aside_shared (by simp [stageFields])) _).set
    (aside_shared (by simp [stageFields])) _
  exact h2.calm (Calm.refl s2).applyContactors

theorem disCheck (h : z.Quiet s) : z.Quiet s.disCheck := by
  unfold Chip.disCheck
  extract_lets s1
  have h1 : z.Quiet s1 := .each h fun k hk _ ht => ht.endWdis (List.mem_range.1 hk)
  exact .ite (h1.disEnd.put (aside_shared (by simp [stageFields])) _) h

theorem disResistor {why : Nat} (h : z.Quiet s) : z.Quiet (s.disResistor why) := by
  unfold Chip.disResistor
  extract_lets s1 s2
  have h1 : z.Quiet s1 := (h.set (aside_shared (by simp [stageFields])) _).resistor
  have h2 : z.Quiet s2 := .ite h1 h1.record
  exact h2.disCheck

theorem showVdc (h : z.Quiet s) : z.Quiet s.showVdc := by
  unfold Chip.showVdc
  extract_lets old s1 new s2 s3
  have h2 : z.Quiet s2 := (h.set (aside_shared (by simp [stageFields])) _).set
    (aside_shared (by simp [stageFields])) _
  have h3 : z.Quiet s3 := .ite (h2.put (aside_shared (by simp [stageFields])) _) h2
  exact .ite (h3.put (aside_shared (by simp [stageFields])) _) h3

theorem vdcWritten {l : List (Nat × Nat)} (hk : k < 4) (h : z.Quiet s) : z.Quiet (s.vdcWritten k l) := by
  unfold Chip.vdcWritten
  extract_lets s1 s2
  have h2 : z.Quiet s2 := (showVdc h.modCl).chopRule.disCheck
  exact h2.calm ((Calm.refl s2).evalRule hk)

theorem diodeWatch {l : List Nat} (h : z.Quiet s) : z.Quiet (s.diodeWatch k l) := .ite h.modCl h

/-! ### The redundant paths -/

theorem tally {key : Nat} {bad : Bool} (h : z.Quiet s) : z.Quiet (s.tally k key bad).1 := h.modMeas

theorem rbOr {w v : Nat} (h : z.Quiet s) : z.Quiet (s.rbOr k w v) := h.modMeas

/-- A check's end: its word in the bank, its flag and its fault. -/
theorem judged {w v data code : Nat} {bad fire : Bool} {flag : Field} (hk : k < 4) (hf : Aside flag) (h : z.Quiet s) :
    z.Quiet (if fire then ((if bad then s.rbOr k w v else s).put flag true).faultCl code 3 k k data
      else if bad then s.rbOr k w v else s) := by
  have h1 : z.Quiet (if bad then s.rbOr k w v else s) := .ite h.rbOr h
  exact .ite ((h1.put hf _).faultCl hk) h1

theorem checkPath {b x : Nat} (hk : k < 4) (h : z.Quiet s) : z.Quiet (s.checkPath k b x) := by
  unfold Chip.checkPath
  split
  · exact h.tally.judged hk (aside_stage hk (by simp [stageFields]))
  · exact h

theorem checkVdc {b : Nat} (hk : k < 4) (h : z.Quiet s) : z.Quiet (s.checkVdc k b) := by
  unfold Chip.checkVdc
  split
  · exact h.tally.judged hk (aside_stage hk (by simp [stageFields]))
  · exact h

theorem checkSum {b path : Nat} (hk : k < 4) (h : z.Quiet s) : z.Quiet (s.checkSum k b path) := by
  unfold Chip.checkSum
  split
  · exact h.tally.judged hk (aside_stage hk (by simp [stageFields]))
  · exact h

theorem passDone {b : Nat} (hk : k < 4) (h : z.Quiet s) : z.Quiet (s.passDone k b) := by
  unfold Chip.passDone
  extract_lets s1 s2
  have h1 : z.Quiet s1 := h.rbOr
  have h2 : z.Quiet s2 := .ite (.checkVdc hk (.each h1 fun _ _ _ ht => ht.checkPath hk)) h1
  exact .ite h (.ite h1 (.ite ((h2.checkSum hk).checkSum hk) h2))

theorem deliver {i b raw : Nat} {valid clip lp refNr : Bool} (hk : k < 4) (h : z.Quiet s) :
    z.Quiet (s.deliver k i b raw valid clip lp refNr) := by
  unfold Chip.deliver
  extract_lets r s1 s2 role s3
  have h2 : z.Quiet s2 := modMeas (modMeas h)
  have h3 : z.Quiet s3 := .ite h2 h2.noteCl
  exact .ite (h3.put (aside_stage hk (by simp [stageFields])) _) h2

end Quiet

end Chip

end Sys2Proof.Machine
end

section
/-! SUPPORT. The stages of the loop write no result field: the engine, the observer, the catch, the Chimney's share, the current loops. -/

namespace Sys2Proof.Machine

namespace Chip

namespace Quiet

variable {z s : Chip} {k n e : Nat}

theorem of_fst {α : Type} {p : Chip × α} {t : Chip} {a : α} (h : z.Quiet p.1) (e : p = (t, a)) : z.Quiet t := by rwa [e] at h

/-- A list of fields of one cluster or engine. -/
theorem setsOf {l : List (Field × Nat)} (hk : k < 4) (hl : ∀ p ∈ l, p.1 ∈ stageFields k) (h : z.Quiet s) : z.Quiet (s.sets l) :=
  h.sets fun p hp => aside_stage hk (hl p hp)

theorem setOf {f : Field} {v : Nat} (hk : k < 4) (hf : f ∈ stageFields k) (h : z.Quiet s) : z.Quiet (s.set f v) :=
  h.set (aside_stage hk hf) v

theorem putOf {f : Field} {b : Bool} (hk : k < 4) (hf : f ∈ stageFields k) (h : z.Quiet s) : z.Quiet (s.put f b) :=
  h.put (aside_stage hk hf) b

/-! ### The engine -/

theorem resetRange {lo hi : Nat} (hlo : hi < 0x41000000) (h : z.Quiet s) : z.Quiet (s.resetRange lo hi) := by
  have all : (resultFields.all fun f => decide (0x41000000 ≤ f.key / 32)) = true := by decide +kernel
  intro f hf
  have hkey : 0x41000000 ≤ f.key / 32 := by simpa using List.all_eq_true.1 all f hf
  rw [← h f hf]
  have hkept : ∀ v : Nat, (decide ((f.key, v).1 / 32 < lo) || decide (hi < (f.key, v).1 / 32)) = true := fun v => by
    simp only [Bool.or_eq_true, decide_eq_true_eq]
    omega
  rw [Chip.get, Chip.resetRange, lookupD_filter_kept _ hkept, Chip.get]

theorem resetEngine (he : e < 4) (h : z.Quiet s) : z.Quiet (s.resetEngine e) := by
  unfold Chip.resetEngine
  extract_lets b s1 s2 s3
  have h1 : z.Quiet s1 := (h.resetRange (by omega)).resetRange (by omega)
  exact setOf he (by simp [stageFields]) (modCl (modCle h1))

theorem takeover {code : Nat} (hk : k < 4) (h : z.Quiet s) : z.Quiet (s.takeover k code) := by
  unfold Chip.takeover
  extract_lets s1
  have h1 : z.Quiet s1 := setsOf hk (by simp [stageFields]) h.modCl
  exact (h1.resetEngine hk).noteCl

theorem engineFault {off : Nat} (hk : k < 4) (h : z.Quiet s) : z.Quiet (s.engineFault k off) := by
  have h1 : z.Quiet (s.put (Reg.CLE_FLAGS_ecc_unc k) true) := h.putOf hk (by simp [stageFields])
  exact .ite (h1.faultCl (partner_lt hk)) (.ite (h1.record.takeover hk) (h1.faultCl hk))

theorem feZero (he : e < 4) (h : z.Quiet s) : z.Quiet (s.feZero e) := setOf he (by simp [stageFields]) h.modCle

theorem clearLists (h : z.Quiet s) : z.Quiet (s.clearLists e) := .each h.modCle fun _ _ _ ht => ht.set (aside_listOut _ _) _

theorem skipLists (he : e < 4) (h : z.Quiet s) : z.Quiet (s.skipLists k e) := by
  have h1 : z.Quiet (s.sets [(Reg.CLE_STAT_due e, 0), (Reg.CLE_STAT_secs e, 0), (Reg.CLE_STAT_frozen e, 0)]) :=
    h.setsOf he (by simp [stageFields])
  exact .ite h1.modCle h1

theorem skipSets {t : Chip} (hk : k < 4) (h : z.Quiet s) :
    z.Quiet (forEach (t.engineSets k) (fun e u => u.skipLists k e) s) :=
  .each h fun _ he _ hu => hu.skipLists (engineSets_lt hk he)

theorem cleClamp {y : Nat} (he : e < 4) (h : z.Quiet s) : z.Quiet (s.cleClamp k e n y).1 := by
  unfold Chip.cleClamp
  extract_lets hi lo crossed s1 s2 out s3
  have h1 : z.Quiet s1 := .ite h h.noteCl
  have h2 : z.Quiet s2 := .ite (h1.putOf he (by simp [stageFields])) h
  exact .ite (h2.setBitOf (aside_stage he (by simp [stageFields])) _) h2

theorem feStep {err : Nat} {i : LoopIn} (he : e < 4) (h : z.Quiet s) : z.Quiet (s.feStep k e n err i) :=
  .ite h (.ite (h.feZero he) (setOf he (by simp [stageFields]) h.modCle))

theorem evalSection {freeze : Bool} {r : LoopRun} {m : Nat} (hk : k < 4) (he : e < 4) (h : z.Quiet r.chip) :
    z.Quiet (evalSection k e n freeze r m).chip := by
  unfold Chip.evalSection
  split
  · exact h
  · extract_lets s x b0 b1 b2 a1 a2 ty c s1 s2 y0
    have hp : z.Quiet (if ((F32.isFinite y0 || F32.isInf y0) && (ty == 1 || ty == 2)) = true then s.cleClamp k e n y0
        else (s, y0, false)).1 := .iteP (h.cleClamp he) h
    split
    next t y cl ht =>
      rw [ht] at hp
      extract_lets keep n1 n2 t1 r1 t2
      have h1 : z.Quiet t1 := hp.modCle
      have h2 : z.Quiet t2 := h1.putOf he (by simp [stageFields])
      split
      · exact h1
      · exact .ite h2 (h2.faultCl hk)

theorem evalList {i : LoopIn} {r : LoopRun} (hk : k < 4) (he : e < 4) (h : z.Quiet r.chip) :
    z.Quiet (evalList k e i r n).chip := by
  unfold Chip.evalList
  split
  · exact h
  · extract_lets s x d freeze secs r1
    have h1 : z.Quiet r1.chip := List.foldlRecOn (motive := fun r : LoopRun => z.Quiet r.chip) secs _
      (h.setBitOf (aside_stage he (by simp [stageFields])) _) fun _ hr _ _ => hr.evalSection hk he
    split
    · exact h1
    · exact modCle (((h1.cleClamp he).feStep he).set (aside_listOut _ _) _)

theorem runLists {i : LoopIn} (hk : k < 4) (he : e < 4) (h : z.Quiet s) : z.Quiet (s.runLists k e i).1 := by
  unfold Chip.runLists
  extract_lets s1 r s2
  have hr : z.Quiet r.chip := List.foldlRecOn (motive := fun r : LoopRun => z.Quiet r.chip) _ _
    (h.setOf he (by simp [stageFields])) fun _ hq _ _ => hq.evalList hk he
  exact modCle (hr.setsOf he (by simp [stageFields]))

theorem preloadOne {d v : Nat} (h : z.Quiet s) : z.Quiet (s.preloadOne e d v) := by
  unfold Chip.preloadOne
  split
  · exact h.modCle
  · exact h

theorem preload {vd vq : Nat} (hk : k < 4) (h : z.Quiet s) : z.Quiet (s.preload k vd vq).1 := by
  unfold Chip.preload
  extract_lets s1 m
  have h1 : z.Quiet s1 := .each h fun _ _ _ ht => ht.preloadOne.preloadOne.modCle
  exact .iteP h1 ((h1.putOf hk (by simp [stageFields])).faultCl hk)

/-! ### The observer -/

theorem obsLock {err : Nat} (hk : k < 4) (he : e < 4) (h : z.Quiet s) : z.Quiet (s.obsLock k e err) := by
  unfold Chip.obsLock
  extract_lets a s1 s2
  have h2 : z.Quiet s2 := setOf he (by simp [stageFields]) h.modCl
  have hset : ∀ {b v : Nat} {f : Field}, f ∈ stageFields k → z.Quiet (s2.sets [(Reg.OBS_STAT_obs_lock e, b), (f, v)]) :=
    fun hf => setOf hk hf (h2.setOf he (by simp [stageFields]))
  exact .ite (.ite (hset (by simp [stageFields])) h2) (.ite (hset (by simp [stageFields])) h2)

theorem obsKe {dt : Nat} (he : e < 4) (h : z.Quiet s) : z.Quiet (s.obsKe k e dt) := by
  unfold Chip.obsKe
  extract_lets m w ok
  refine .ite ?_ (h.putOf he (by simp [stageFields]))
  have hp : z.Quiet (s.keStep k e dt).1 := h.modCl
  split
  next t ke ht =>
    rw [ht] at hp
    extract_lets dev far s1 s2
    have h1 : z.Quiet s1 := hp.setsOf he (by simp [stageFields])
    exact .ite (setOf he (by simp [stageFields]) h1.modCl) h1

theorem obsStep {dt : Nat} (hk : k < 4) (he : e < 4) (h : z.Quiet s) : z.Quiet (s.obsStep k e dt) := by
  unfold Chip.obsStep
  extract_lets r s1 s2 s3 err s4 spd s5 ang s6 s7 s8 c s9 s10 s11 diff
  have h1 : z.Quiet s1 := h.setOf he (by simp [stageFields])
  have h3 : z.Quiet s3 := setOf he (by simp [stageFields]) h1.modCl
  have h7 : z.Quiet s7 := modCl (useFree (useFree (useFree h1)))
  have h8 : z.Quiet s8 := .ite (.ite (setOf hk (by simp [stageFields]) (h3.setOf he (by simp [stageFields]))) h3)
    ((h7.setOf he (by simp [stageFields])).obsLock hk he)
  clear_value s8
  have h9 : z.Quiet s9 := .ite ((h8.setOf he (by simp [stageFields])).setOf he (by simp [stageFields]))
    (h8.setOf he (by simp [stageFields]))
  clear_value s9
  have h11 : z.Quiet s11 := useFree (setOf he (by simp [stageFields]) (h9.putOf he (by simp [stageFields])))
  exact (h11.setOf he (by simp [stageFields])).obsKe he

theorem observe {dt : Nat} (hk : k < 4) (h : z.Quiet s) : z.Quiet (s.observe k dt) := by
  unfold Chip.observe
  split
  · exact h
  next e l hl =>
    have hin : ∀ j ∈ e :: l, j < 4 := fun j hj => engineSets_lt hk (hl ▸ hj)
    exact .each (h.obsStep hk (hin e (.head _))) fun j hj t ht =>
      modCl (ht.setsOf (hin j (.tail _ hj)) (by simp [stageFields]))

theorem obsCaught {ang w : Nat} (hk : k < 4) (h : z.Quiet s) : z.Quiet (s.obsCaught k ang w) := by
  unfold Chip.obsCaught
  extract_lets e s1
  have he : e < 4 := engineOf_lt hk s
  refine h.modCl.sets fun p hp => ?_
  simp only [List.mem_cons, List.not_mem_nil, or_false] at hp
  rcases hp with rfl | rfl | rfl | rfl | rfl
  case inr.inr.inr.inr => exact aside_stage hk (by simp [stageFields])
  all_goals exact aside_stage he (by simp [stageFields])

theorem reportAngle (hk : k < 4) (h : z.Quiet s) : z.Quiet (s.reportAngle k) := by
  unfold Chip.reportAngle
  extract_lets c e s1 back s2 s3
  have h1 : z.Quiet s1 := h.setOf hk (by simp [stageFields])
  have h2 : z.Quiet s2 := .ite h1.noteCl h1
  have h3 : z.Quiet s3 := h2.modCl
  exact .ite (.ite (h3.faultCl hk) (h3.faultCl hk)) h3

/-! ### The catch -/

theorem catchRestart (hk : k < 4) (h : z.Quiet s) : z.Quiet (s.catchRestart k) := by
  unfold Chip.catchRestart
  extract_lets s1 s2
  have h2 : z.Quiet s2 := modCl (h.setsOf hk (by simp [stageFields]))
  exact .each h2 fun _ he _ ht => ht.clearLists.feZero (engineSets_lt hk he)

/-- The end of a start: the loops are preloaded, and the cluster runs or has faulted. -/
theorem started {vd vq : Nat} (hk : k < 4) (h : z.Quiet s) :
    z.Quiet (match s.preload k vd vq with
      | (s, ok) => if ok = true then
          let s := s.sets [(Reg.FC_TQ_REF_v k, 0), (Reg.FC_STAT_mode k, 0)]
          (s.enter k 2).modCl k fun c => { c with startGates := true, starting := true }
        else s) := by
  have hp : z.Quiet (s.preload k vd vq).1 := h.preload hk
  split
  next t ok ht =>
    rw [ht] at hp
    exact .ite (modCl ((hp.setsOf hk (by simp [stageFields])).enter hk)) hp

theorem catchStart {w e : Nat} {still : Bool} (hk : k < 4) (h : z.Quiet s) : z.Quiet (s.catchStart k w e still) :=
  started hk (h.setsOf hk (by simp [stageFields]))

theorem fluxStart (hk : k < 4) (h : z.Quiet s) : z.Quiet (s.fluxStart k) :=
  setOf hk (by simp [stageFields]) h.useFree.modCl

theorem fluxPass (hk : k < 4) (h : z.Quiet s) : z.Quiet (s.fluxPass k n) :=
  .ite (started hk (h.setsOf hk (by simp [stageFields])).useFree.useFree) h.modCl

theorem catchLock {w e : Nat} {still : Bool} (hk : k < 4) (h : z.Quiet s) : z.Quiet (s.catchLock k w e still) := by
  unfold Chip.catchLock
  extract_lets s1
  have h1 : z.Quiet s1 := h.modCl
  clear_value s1
  split
  · exact h1
  · extract_lets r r14 s2 s3 s4 s5
    have h2 : z.Quiet s2 := (h1.setOf hk (by simp [stageFields])).setOf hk (by simp [stageFields])
    have h5 : z.Quiet s5 := noteCl (modCl (h2.setsOf hk (by simp [stageFields])))
    exact .ite (.ite (h5.setOf hk (by simp [stageFields])).setOvrs h5) (.ite h2 (.ite (h2.fluxStart hk) (h2.catchStart hk)))

theorem catchTrack {cur : Option (Nat × Nat × Nat)} (hk : k < 4) (h : z.Quiet s) : z.Quiet (s.catchTrack k cur) := by
  unfold Chip.catchTrack
  split
  · split
    extract_lets +onlyGivenNames th now old s1
    have h1 : z.Quiet s1 := h.modCl
    clear_value s1 old
    split
    · exact h1
    · extract_lets w lim s2 s3 held
      have h2 : z.Quiet s2 := h1.putOf hk (by simp [stageFields])
      have h3 : z.Quiet s3 := .ite (h2.setOf hk (by simp [stageFields])).setOvrs h2
      exact .ite (.ite ((h3.setHeld hk).enter hk) (h3.catchRestart hk)) h1
  · exact h

theorem catchPass {cur : Option (Nat × Nat × Nat)} (hk : k < 4) (h : z.Quiet s) : z.Quiet (s.catchPass k cur) := by
  unfold Chip.catchPass
  refine .ite (h.catchTrack hk) ?_
  split
  · exact h.catchLock hk
  · exact h.fluxPass hk
  · extract_lets m s1
    have h1 : z.Quiet s1 := h.setOf hk (by simp [stageFields])
    refine .ite ?_ (.ite ?_ h1)
    · split
      · exact .ite (h1.catchLock hk) h1
      · exact h1
    · split
      · exact h1.catchLock hk
      · exact h1

/-! ### The Chimney's share -/

theorem modelStep {i2 dt : Nat} (h : z.Quiet s) : z.Quiet (s.modelStep n i2 dt) := .ite h.modChm h

theorem showTj (hn : n < 12) (h : z.Quiet s) : z.Quiet (s.showTj n) := by
  have all : ∀ n < 12, ([Reg.CHM_TJ_tj n, Reg.CHM_TJ_SRC_src n].all fun f => resultFields.all fun g => g.key != f.key) = true := by
    decide +kernel
  unfold Chip.showTj
  split
  extract_lets s1 x
  have h1 : z.Quiet s1 := (h.set (aside_of_all (all n hn) (.head _)) _).set (aside_of_all (all n hn) (.tail _ (.head _))) _
  exact .ite h1.modChm h1

theorem showLim (hk : k < 4) (h : z.Quiet s) : z.Quiet (s.showLim k) := h.setOf hk (by simp [stageFields])

theorem peakEnforce (hk : k < 4) (h : z.Quiet s) : z.Quiet (s.peakEnforce k) :=
  record (putOf hk (by simp [stageFields]) (setOf hk (by simp [stageFields]) h.modChm))

theorem peakFree (hk : k < 4) (h : z.Quiet s) : z.Quiet (s.peakFree k) :=
  (h.setOf hk (by simp [stageFields])).putOf hk (by simp [stageFields])

theorem peakStep (hk : k < 4) (h : z.Quiet s) : z.Quiet (s.peakStep k) := by
  unfold Chip.peakStep
  extract_lets f s1 s2 st s3 s4 s5
  have h1 : z.Quiet s1 := h.setsOf hk (by simp [stageFields])
  have h2 : z.Quiet s2 := .ite (h1.putOf hk (by simp [stageFields])) h1
  have h4 : z.Quiet s4 :=
    noteCl (putOf hk (by simp [stageFields]) (setOf hk (by simp [stageFields]) h2.modChm))
  have h5 : z.Quiet s5 := .ite (.ite (h4.peakEnforce hk) h4) (.ite (h2.peakFree hk) h2)
  exact h5.showLim hk

theorem tjOver (hk : k < 4) (h : z.Quiet s) : z.Quiet (s.tjOver k) := by
  unfold Chip.tjOver
  extract_lets top
  split
  · exact .ite h ((h.putOf hk (by simp [stageFields])).faultCl hk)
  · exact h

theorem chmPass {phases : List Nat} {mag2 : Nat} (hk : k < 4) (h : z.Quiet s) : z.Quiet (s.chmPass k phases mag2) := by
  unfold Chip.chmPass
  extract_lets dt s1 legs s2 ic a s3
  have h2 : z.Quiet s2 := .each h.modChm fun n hn _ ht => showTj (mem_islandsOf_lt hn) ht.modelStep
  exact ((h2.setOf hk (by simp [stageFields])).peakStep hk).tjOver hk

theorem chmCurrents {x : Option (Nat × Nat × Nat)} (hk : k < 4) (h : z.Quiet s) : z.Quiet (s.chmCurrents k x) := by
  unfold Chip.chmCurrents
  split
  · exact h.chmPass hk
  · exact h.chmPass hk

/-! ### The current loops -/

theorem overrun (hk : k < 4) (h : z.Quiet s) : z.Quiet (s.overrun k) := by
  have h1 : z.Quiet (s.put (Reg.SEQ_FLAGS_overrun k) true) := h.putOf hk (by simp [stageFields])
  exact .ite (h1.modCl.faultCl hk) h1.modCl

theorem unlimited (hk : k < 4) (h : z.Quiet s) : z.Quiet (s.unlimited k) := setsOf hk (by simp [stageFields]) h.modCl

theorem showLimit {lim : Bool} (hk : k < 4) (h : z.Quiet s) : z.Quiet (s.showLimit k lim) := by
  have h1 : z.Quiet (s.put (Reg.FC_STAT_i_limited k) lim) := h.putOf hk (by simp [stageFields])
  exact .ite (h1.putOf hk (by simp [stageFields])) h1

theorem fieldWeaken {vmax : Nat} (hk : k < 4) (h : z.Quiet s) : z.Quiet (s.fieldWeaken k vmax) :=
  .ite ((h.setOf hk (by simp [stageFields])).putOf hk (by simp [stageFields])) (h.putOf hk (by simp [stageFields]))

theorem references {w vdc vmax : Nat} (hk : k < 4) (h : z.Quiet s) : z.Quiet (s.references k w vdc vmax).1 := by
  have hclamp : ∀ {t : Chip} {b : Bool}, z.Quiet t → z.Quiet (t.put (Reg.FC_STAT_tq_clamp k) b) :=
    fun ht => ht.putOf hk (by simp [stageFields])
  unfold Chip.references
  refine .iteP ?_ (.iteP ?_ (.iteP ((hclamp h.modCl).showLimit hk) ?_))
  · exact (hclamp (h.setOf hk (by simp [stageFields]))).showLimit hk
  · exact (hclamp h).showLimit hk
  · split
    extract_lets s1 neg
    have h1 : z.Quiet s1 := h.setsOf hk (by simp [stageFields])
    clear_value s1
    split
    extract_lets q1 s2 s3 s4 d1
    have h2 : z.Quiet s2 := hclamp h1
    have h3 : z.Quiet s3 := .ite (h2.putOf hk (by simp [stageFields])) h2
    have h4 : z.Quiet s4 := h3.fieldWeaken hk
    clear_value s4
    split
    exact h4.showLimit hk

theorem writeCompares {at_ : Nat} {l : List (Nat × Nat)} (hk : k < 4) (h : z.Quiet s) : z.Quiet (s.writeCompares k at_ l) := by
  unfold Chip.writeCompares
  extract_lets guard s1 last s2 s3
  have h3 : z.Quiet s3 := setOf hk (by simp [stageFields]) (setOf hk (by simp [stageFields]) h.modCl)
  exact .ite (h.overrun hk) h3.modCl

theorem fluxStage {inp vdc w : Nat} (hk : k < 4) (h : z.Quiet s) : z.Quiet (s.fluxStage k inp vdc w) := by
  unfold Chip.fluxStage
  extract_lets vmax
  have hp := (h.unlimited hk).references (w := w) (vdc := vdc) (vmax := vmax) hk
  split
  next t d q ht =>
    rw [ht] at hp
    extract_lets s1 per m hi out
    have h1 : z.Quiet s1 := (hp.setsOf hk (by simp [stageFields])).skipSets hk
    exact writeCompares hk (h1.same rfl)

theorem larderRead {t : Nat} {u : Upset} (hk : k < 4) (h : z.Quiet s) : z.Quiet (s.larderRead k t u) := by
  unfold Chip.larderRead
  split
  · exact .ite (h.faultCl hk) h
  · exact h

theorem dupInputs {u : Upset} (hk : k < 4) (h : z.Quiet s) : z.Quiet (s.dupInputs k u) := by
  unfold Chip.dupInputs
  split
  · exact .ite h (h.faultCl hk)
  · exact h

theorem takeErrors (h : z.Quiet s) : z.Quiet (s.takeErrors k) := .ite h.modCl h.modCl

theorem showOutput {vd vq mag vdc : Nat} (hk : k < 4) (h : z.Quiet s) : z.Quiet (s.showOutput k vd vq mag vdc) := by
  unfold Chip.showOutput
  extract_lets cap req q14 lim s1 s2
  have h2 : z.Quiet s2 := modCl (h.setsOf hk (by simp [stageFields]))
  exact .ite (h2.putOf hk (by simp [stageFields])) h2

theorem rampSpeed (h : z.Quiet s) : z.Quiet (s.rampSpeed k) := .ite h.modCl h

theorem decelStep {w : Nat} (hk : k < 4) (h : z.Quiet s) : z.Quiet (s.decelStep k w) := .ite (h.enter hk) h

theorem wdisWatch {ang w : Nat} (hk : k < 4) (h : z.Quiet s) : z.Quiet (s.wdisWatch k ang w) := by
  unfold Chip.wdisWatch
  extract_lets moved why s1
  have h1 : z.Quiet s1 := (h.endWdis hk).noteCl
  exact .ite h (.ite h (.ite h1.disResistor h1))

theorem runStages {u : Upset} {inp vdc ang w idm iqm : Nat} (hk : k < 4) (h : z.Quiet s) :
    z.Quiet (s.runStages k u inp vdc ang w idm iqm) := by
  unfold Chip.runStages
  extract_lets vmax s1
  have hp := (h.rampSpeed (k := k)).references (w := w) (vdc := vdc) (vmax := vmax) hk
  split
  next t d q ht =>
    rw [ht] at hp
    extract_lets s2 inputs s3 sets dup
    have h3 : z.Quiet s3 := modCl (hp.setsOf hk (by simp [stageFields]))
    have hsets : ∀ e ∈ sets, e < 4 := fun e he => engineSets_lt hk he
    clear_value s3 sets
    have hr : z.Quiet (sets.foldl (fun (r : Chip × Nat × Bool) e =>
        let (t, n, good) := r.1.runLists k e inputs
        (t, max r.2.1 n, r.2.2 && good)) (s3, 0, true)).1 :=
      List.foldlRecOn (motive := fun r : Chip × Nat × Bool => z.Quiet r.1) sets _ h3 fun _ hq e he => hq.runLists hk (hsets e he)
    split
    next t2 secs ok ht2 =>
      rw [ht2] at hr
      refine .ite (hr.putOf hk (by simp [stageFields])) ?_
      extract_lets +onlyGivenNames s4 s5
      have h4 : z.Quiet s4 := by
        unfold s4
        split
        · exact hr.engineFault (engineOf_lt hk t2)
        · exact noteCl (hr.putOf (engineOf_lt hk t2) (by simp [stageFields]))
        · exact hr
      clear_value s4
      have h5 : z.Quiet s5 := h4.larderRead hk
      refine .ite h5 ?_
      extract_lets +onlyGivenNames start adv th s6
      have h6 : z.Quiet s6 := h5.takeErrors
      clear_value s6
      split
      extract_lets s7 other s8
      have h8 : z.Quiet s8 := same (h6.showOutput hk) rfl
      clear_value s8
      split
      · exact h8.faultCl hk
      · exact h8.writeCompares hk

/-! ### The loop of a pass -/

theorem bcmDecel (hk : k < 4) (h : z.Quiet s) : z.Quiet (s.bcmDecel k) := .ite (h.rampSpeed.decelStep hk) h

theorem pcPass {b : Nat} (h : z.Quiet s) : z.Quiet (s.pcPass k b) := by
  unfold Chip.pcPass
  refine .ite h ?_
  extract_lets path e obs ang
  split
  · exact h.modCl
  · exact h

theorem loopRun {u : Upset} {inp : Nat} (hk : k < 4) (h : z.Quiet s) : z.Quiet (s.loopRun k u inp) := by
  unfold Chip.loopRun
  refine .ite h (.ite (h.modCl.bcmDecel hk) ?_)
  extract_lets +onlyGivenNames s0 s1 b cur s2 s3 ang
  have h3 : z.Quiet s3 := (((h.modCl.dupInputs hk).modCl.observe hk).larderRead hk).reportAngle hk
  clear_value s3 ang cur
  split
  next t d q ht =>
    have hcur : z.Quiet t := by
      refine of_fst ?_ ht
      split
      · exact h3.setsOf hk (by simp [stageFields])
      · exact h3
    extract_lets s4 s5
    have h4 : z.Quiet s4 := .ite (hcur.catchPass hk) hcur
    clear_value s4
    have h5 : z.Quiet s5 := by
      refine .ite (skipSets hk (modCl (h4.unlimited hk))) ?_
      split
      next a w _ vdc _ _ _ =>
        extract_lets s6 s7
        have h6 : z.Quiet s6 := h4.wdisWatch hk
        have h7 : z.Quiet s7 := .ite (h6.fluxStage hk) (h6.runStages hk)
        exact .ite h6 (.ite (h7.decelStep hk) h7)
      next => exact ((h4.unlimited hk).skipSets hk).overrun hk
    exact h5.chmCurrents hk

theorem resultsIn {b inp : Nat} {u : Upset} {loop : Bool} (hk : k < 4) (h : z.Quiet s) : z.Quiet (s.resultsIn k b u inp loop) := by
  unfold Chip.resultsIn
  extract_lets now s1 open_ s2 s3 s4
  have h1 : z.Quiet s1 := .ite (h.diodeWatch.vdcWritten hk) h
  have h2 : z.Quiet s2 := h1.passDone hk
  have h3 : z.Quiet s3 := .ite h2.resPass h2
  have h4 : z.Quiet s4 := .ite (h3.loopRun hk) h3
  exact .ite h4.pcPass h4

end Quiet

end Chip

end Sys2Proof.Machine
end

section
/-! SUPPORT. The slots that a cluster awaits and the words of its result banks: what the writing of a result leaves in them, and what the
stages of a pass leave alone (R248, R252 to R254). -/

namespace Sys2Proof.Machine

namespace Chip

variable {s : Chip} {k b i : Nat}

/-- The bit of the measurements in a set of parts. -/
theorem meas_of_inside {c d : Chip} {M : ℕ} (hM : M.testBit Part.meas.bit = false) (h : c.Inside M d) : d.meas = c.meas :=
  (h .meas hM).symm

theorem measS_congr {c d : Chip} (h : d.meas = c.meas) (k : Nat) : d.measS k = c.measS k := by rw [measS, measS, h]

theorem rbGet_congr {c d : Chip} (h : d.meas = c.meas) (k w : Nat) : d.rbGet k w = c.rbGet k w := by rw [rbGet, rbGet, measS_congr h]

theorem measS_modMeas_self (hk : k < s.meas.length) (f : MeasS → MeasS) : (s.modMeas k f).measS k = f (s.measS k) :=
  nth_updNth_self f hk

/-! ### The stages of a pass -/

/-- The slots awaited stand, and every word of the banks but the status word of the pass at b. -/
structure Banks (k b : Nat) (c d : Chip) : Prop where
  waiting : (d.measS k).waiting = (c.measS k).waiting
  base : (d.measS k).base = (c.measS k).base
  word : ∀ w, w ≠ b + 29 → d.rbGet k w = c.rbGet k w

namespace Banks

theorem same {c d : Chip} (h : d.meas = c.meas) : Banks k b c d := ⟨by rw [measS_congr h], by rw [measS_congr h], fun w _ => rbGet_congr h k w⟩

theorem refl (c : Chip) : Banks k b c c := same rfl

theorem trans {c d e : Chip} (h : Banks k b c d) (g : Banks k b d e) : Banks k b c e :=
  ⟨g.waiting.trans h.waiting, g.base.trans h.base, fun w hw => (g.word w hw).trans (h.word w hw)⟩

theorem inside {c d : Chip} {M : ℕ} (hM : M.testBit Part.meas.bit = false) (h : c.Inside M d) : Banks k b c d :=
  same (meas_of_inside hM h)

theorem ite {p : Prop} [Decidable p] {a d : Chip} (ha : Banks k b s a) (hd : Banks k b s d) : Banks k b s (if p then a else d) := by
  split <;> assumption

theorem modMeas (s : Chip) {f : MeasS → MeasS} (hw : ∀ m, (f m).waiting = m.waiting ∧ (f m).base = m.base)
    (hb : ∀ m w, w ≠ b + 29 → lookupD 0 w (f m).bankMem = lookupD 0 w m.bankMem) : Banks k b s (s.modMeas k f) := by
  have hcases : (s.modMeas k f).measS k = f (s.measS k) ∨ (s.modMeas k f).measS k = s.measS k := nth_updNth_cases f k s.meas
  rcases hcases with h | h
  · exact ⟨by rw [h, (hw _).1], by rw [h, (hw _).2], fun w hne => by rw [rbGet, h, hb _ w hne, rbGet]⟩
  · exact ⟨by rw [h], by rw [h], fun w _ => by rw [rbGet, h, rbGet]⟩

theorem rbOr (s : Chip) (v : Nat) : Banks k b s (s.rbOr k (b + 29) v) :=
  modMeas s (fun _ => ⟨rfl, rfl⟩) fun _ _ hne => lookupD_putAt_other 0 0 hne _ _

theorem tally (s : Chip) (key : Nat) (bad : Bool) : Banks k b s (s.tally k key bad).1 := modMeas s (fun _ => ⟨rfl, rfl⟩) fun _ _ _ => rfl

theorem judged {bad fire : Bool} {v data code : Nat} {flag : Field} (h : Banks k b s (s.tally k i bad).1) :
    Banks k b s (if fire then ((if bad then (s.tally k i bad).1.rbOr k (b + 29) v else (s.tally k i bad).1).put flag true).faultCl
      code 3 k k data else if bad then (s.tally k i bad).1.rbOr k (b + 29) v else (s.tally k i bad).1) := by
  have h1 : Banks k b s (if bad then (s.tally k i bad).1.rbOr k (b + 29) v else (s.tally k i bad).1) := .ite (h.trans (rbOr _ v)) h
  exact .ite (h1.trans (.inside (M := 1708354) rfl (Chip.faultCl_inside (by rfl) (Chip.put_inside (by rfl) (.refl _ _))))) h1

theorem checkPath (s : Chip) (x : Nat) : Banks k b s (s.checkPath k b x) := by
  unfold Chip.checkPath
  split
  · exact (tally s _ _).judged
  · exact .refl s

theorem checkVdc (s : Chip) : Banks k b s (s.checkVdc k b) := by
  unfold Chip.checkVdc
  split
  · exact (tally s _ _).judged
  · exact .refl s

theorem checkSum (s : Chip) (path : Nat) : Banks k b s (s.checkSum k b path) := by
  unfold Chip.checkSum
  split
  · exact (tally s _ _).judged
  · exact .refl s

theorem passDone (s : Chip) : Banks k b s (s.passDone k b) := by
  unfold Chip.passDone
  extract_lets s1 s2
  have h1 : Banks k b s s1 := rbOr s _
  have h2 : Banks k b s s2 := by
    refine .ite (trans ?_ (checkVdc _)) h1
    exact forEach_preserves (P := Banks k b s) (fun x _ t ht => ht.trans (checkPath t x)) h1
  exact .ite (.refl s) (.ite h1 (.ite (h2.trans ((checkSum s2 0).trans (checkSum _ 1))) h2))

theorem resultsIn (s : Chip) (u : Upset) (inp : Nat) (loop : Bool) : Banks k b s (s.resultsIn k b u inp loop) := by
  unfold Chip.resultsIn
  extract_lets now s1 open_ s2 s3 s4
  have h1 : Banks k b s s1 := .inside (M := 1708354) rfl
    (.ite (Chip.vdcWritten_inside (by rfl) (Chip.diodeWatch_inside (by rfl) (.refl _ _))) (.refl _ _))
  have h2 : Banks k b s s2 := h1.trans (passDone s1)
  have h4 : Banks k b s s4 := h2.trans (.inside (M := 3903826) rfl
    (.ite (Chip.loopRun_inside (by rfl) (.ite (Chip.resPass_inside (by rfl) (.refl _ _)) (.refl _ _)))
      (.ite (Chip.resPass_inside (by rfl) (.refl _ _)) (.refl _ _))))
  exact .ite (h4.trans (.inside (M := 4096) rfl (Chip.pcPass_inside (by rfl) (.refl _ _)))) h4

theorem atTick {c : Chip} {t : Nat} {f : Chip → Chip} (h : Banks k b c (f { s with now := t })) : Banks k b c (s.atTick t f) :=
  h.trans (same rfl)

/-- The sample tick notes the reference of the pass alone. -/
theorem sampleNow (s : Chip) : Banks k b s (s.sampleNow k) := by
  have hnote : ∀ t : Chip, Banks k b t (t.sampleRef k) := fun t => .ite (.refl t) (modMeas t (fun _ => ⟨rfl, rfl⟩) fun _ _ _ => rfl)
  unfold Chip.sampleNow
  refine .ite (.refl s) (atTick ?_)
  extract_lets lp res s1
  have h0 : Banks k b s { s with now := (s.cluster k).trigTick + 1 } := same rfl
  have h1 : Banks k b s s1 := h0.trans ((hnote _).trans (same rfl))
  clear_value s1
  split
  · exact .ite h1 (h1.trans (.inside (M := 32834) rfl (Chip.posEval_inside (by rfl) (.refl _ _))))
  · exact h1

end Banks

/-! ### A result is written -/

variable {raw : Nat} {valid clip lp refNr : Bool}

theorem deliver_meas (s : Chip) (k i b raw : Nat) (valid clip lp refNr : Bool) : (s.deliver k i b raw valid clip lp refNr).meas =
    ((s.modMeas k fun m => { m with
      results := (m.results.filter fun x => !(x.base = b && x.slot = i)) ++ [⟨b, i, valid, clip, lp, refNr, raw, s.physical k i raw⟩],
      waiting := m.waiting.filter fun p => !(p.1 = i && p.2 = b) }).rbSet k (b + 1 + i)
        (resWord ⟨b, i, valid, clip, lp, refNr, raw, s.physical k i raw⟩)).meas := by
  unfold Chip.deliver
  extract_lets r s1 s2 role s3
  split
  · refine meas_of_inside (M := 66) rfl (Chip.put_inside (by rfl) (.ite (.refl s2 _) (Chip.noteCl_inside (by rfl) (.refl _ _))))
  · rfl

theorem deliver_length (s : Chip) (k i b raw : Nat) (valid clip lp refNr : Bool) :
    (s.deliver k i b raw valid clip lp refNr).meas.length = s.meas.length := by
  rw [deliver_meas]
  exact (updNth_length ..).trans (updNth_length ..)

theorem measS_deliver (hk : k < s.meas.length) : (s.deliver k i b raw valid clip lp refNr).measS k =
    { s.measS k with
      results := ((s.measS k).results.filter fun x => !(x.base = b && x.slot = i)) ++
        [⟨b, i, valid, clip, lp, refNr, raw, s.physical k i raw⟩]
      waiting := (s.measS k).waiting.filter fun p => !(p.1 = i && p.2 = b)
      bankMem := putAt 0 (b + 1 + i) (resWord ⟨b, i, valid, clip, lp, refNr, raw, s.physical k i raw⟩) (s.measS k).bankMem } := by
  rw [measS_congr (deliver_meas ..), rbSet, measS_modMeas_self (lt_of_lt_of_eq hk (updNth_length ..).symm), measS_modMeas_self hk]

/-- A result of slot i of the pass at b has been written: the slot is no longer awaited, and no other word has changed. -/
structure Delivered (k b i : Nat) (c d : Chip) : Prop where
  length : d.meas.length = c.meas.length
  waiting : k < c.meas.length → (d.measS k).waiting = (c.measS k).waiting.filter fun p => !(p.1 = i && p.2 = b)
  word : k < c.meas.length → ∀ w, w ≠ b + 1 + i → d.rbGet k w = c.rbGet k w

theorem deliver_delivered (s : Chip) (k i b raw : Nat) (valid clip lp refNr : Bool) :
    Delivered k b i s (s.deliver k i b raw valid clip lp refNr) where
  length := deliver_length ..
  waiting hk := congrArg MeasS.waiting (measS_deliver hk)
  word hk w hw := by
    rw [rbGet, measS_deliver hk, rbGet]
    exact lookupD_putAt_other 0 0 hw _ _

theorem rbGet_deliver (hk : k < s.meas.length) : (s.deliver k i b raw valid clip lp refNr).rbGet k (b + 1 + i) =
    resWord ⟨b, i, valid, clip, lp, refNr, raw, s.physical k i raw⟩ := by
  rw [rbGet, measS_deliver hk]
  exact lookupD_putAt_self ..

theorem b2n_le (b : Bool) : b2n b ≤ 1 := by cases b <;> decide

theorem resWord_raw (r : SlotRes) : resWord r / 65536 = r.raw := by
  have h1 := b2n_le r.valid
  have h2 := b2n_le r.clip
  have h3 := b2n_le r.lp
  have h4 := b2n_le r.refNr
  unfold resWord
  omega

theorem resWord_valid (r : SlotRes) : hasBit (resWord r) 7 = r.valid := by
  have h2 := b2n_le r.clip
  have h3 := b2n_le r.lp
  have h4 := b2n_le r.refNr
  unfold hasBit bitOf resWord
  cases r.valid <;> simp only [b2n, if_true, Bool.false_eq_true, if_false, beq_iff_eq, beq_eq_false_iff_ne] at * <;> omega

/-! ### The results of the SAR converters -/

/-- The converter of a slot is on and its supply stands. -/
def sarOk (s : Chip) (k i : Nat) : Bool := s.pwr.vddaOk && s.on (Reg.ADC_S_CFG_en (s.slotUnit k i))

/-- The word of a SAR slot shows its raw code, or 0 and not valid where the converter is off. -/
def SarShown (k b i raw : Nat) (t : Chip) : Prop :=
  t.rbGet k (b + 1 + i) / 65536 = (if t.sarOk k i then raw else 0) ∧ hasBit (t.rbGet k (b + 1 + i)) 7 = t.sarOk k i

theorem slot_result (hk : k < 4) (hi : i < 28) : Reg.ADC_C_SLOT_unit k i ∈ resultFields ∧ Reg.ADC_C_SLOT_path k i ∈ resultFields := by
  have hin : ∀ f ∈ [Reg.ADC_C_SLOT_unit k i, Reg.ADC_C_SLOT_path k i], f ∈ resultFields := fun f hf =>
    List.mem_append_right _ (List.mem_flatMap.2 ⟨k, List.mem_range.2 hk, List.mem_flatMap.2 ⟨i, List.mem_range.2 hi, hf⟩⟩)
  exact ⟨hin _ (.head _), hin _ (.tail _ (.head _))⟩

theorem sarEnable_result {u : Nat} (hu : u < 16) : Reg.ADC_S_CFG_en u ∈ resultFields :=
  List.mem_append_left _ (List.mem_append_right _ (List.mem_map.2 ⟨u, List.mem_range.2 hu, rfl⟩))

theorem slotUnit_lt (s : Chip) (k i : Nat) : s.slotUnit k i < 16 := get_lt s _

theorem Quiet.slotUnit {c d : Chip} (h : c.Quiet d) (hk : k < 4) (hi : i < 28) : d.slotUnit k i = c.slotUnit k i :=
  h _ (slot_result hk hi).1

theorem Quiet.slotPath {c d : Chip} (h : c.Quiet d) (hk : k < 4) (hi : i < 28) : d.slotPath k i = c.slotPath k i :=
  h _ (slot_result hk hi).2

theorem Quiet.sarOk {c d : Chip} (h : c.Quiet d) (hp : d.pwr = c.pwr) (hk : k < 4) (hi : i < 28) : d.sarOk k i = c.sarOk k i := by
  rw [Chip.sarOk, Chip.sarOk, h.slotUnit hk hi, hp, on_eq, on_eq, h _ (sarEnable_result (slotUnit_lt c k i))]

theorem Quiet.sarDeliver {z : Chip} {code : Nat} (hk : k < 4) (h : z.Quiet s) : z.Quiet (s.sarDeliver k i b code) := by
  have all : ∀ u < 16, ([Reg.ADC_S_RES_raw u, Reg.ADC_S_RES_clip u, Reg.ADC_S_RES_lp u, Reg.ADC_S_RES_ref_nr u].all fun f =>
      resultFields.all fun g => g.key != f.key) = true := by decide +kernel
  have hside := fun f hf => aside_of_all (f := f) (all _ (slotUnit_lt s k i)) hf
  exact deliver hk (((h.set (hside _ (by simp)) _).set (hside _ (by simp)) _ |>.set (hside _ (by simp)) _).set (hside _ (by simp)) _)

theorem Delivered.of_meas {c c' d : Chip} (h : Delivered k b i c d) (hm : c.meas = c'.meas) : Delivered k b i c' d where
  length := hm ▸ h.length
  waiting hk := measS_congr hm k ▸ h.waiting (hm ▸ hk)
  word hk w hw := (h.word (hm ▸ hk) w hw).trans (rbGet_congr hm k w)

theorem sarDeliver_delivered (s : Chip) (k i b code : Nat) : Delivered k b i s (s.sarDeliver k i b code) := by
  unfold Chip.sarDeliver
  extract_lets u ok raw lp nr s1
  exact (deliver_delivered ..).of_meas (meas_of_inside (M := 2) rfl (Chip.sets_inside (by rfl) (.refl s _)))

theorem sarDeliver_pwr (s : Chip) (k i b code : Nat) : (s.sarDeliver k i b code).pwr = s.pwr :=
  ((Chip.sarDeliver_inside (M := 16450) (by rfl) (.refl s _)) .pwr rfl).symm

theorem sarDeliver_shown (hk : k < 4) (hlen : k < s.meas.length) (hi : i < 28) (code : Nat) :
    SarShown k b i (4 * code) (s.sarDeliver k i b code) := by
  unfold SarShown
  rw [(Quiet.refl s).sarDeliver hk |>.sarOk (sarDeliver_pwr ..) hk hi]
  unfold Chip.sarDeliver
  extract_lets u ok raw lp nr s1
  have hm : s1.meas = s.meas := meas_of_inside (M := 2) rfl (Chip.sets_inside (by rfl) (.refl s _))
  rw [rbGet_deliver (hm ▸ hlen), resWord_raw, resWord_valid]
  exact ⟨rfl, rfl⟩

end Chip

end Sys2Proof.Machine
end

section
/-! SUPPORT. The start of a pass: what it writes, and what it shows of the cluster (R180, R344). -/

namespace Sys2Proof.Machine

namespace Chip

variable {z s : Chip} {k : Nat}

theorem sliceOwner_lt {n : Nat} (h : s.sliceOwner n = some k) : k < 4 :=
  List.mem_range.1 (List.mem_filter.1 (List.mem_of_mem_head? h)).1

namespace Quiet

theorem passStart {val : Nat} {down peak : Bool} (hk : k < 4) (h : z.Quiet s) : z.Quiet (s.passStart k val down peak) := by
  unfold Chip.passStart
  extract_lets s1 s2 s3 s4 n
  have h1 : z.Quiet s1 := h.sampleNow
  have h2 : z.Quiet s2 := .ite (((h1.unlimited hk).skipSets hk).overrun hk) h1
  clear_value s2
  have h3 : z.Quiet s3 := .ite (setsOf hk (by simp [stageFields]) h2.modCl) h2
  have h4 : z.Quiet s4 := h3.modCl
  exact modCl (same h4 rfl)

theorem triggerPass {j val : Nat} {down : Bool} (hk : k < 4) (h : z.Quiet s) : z.Quiet (s.triggerPass k j val down) :=
  .ite h (.ite (h.passStart hk) (.ite (h.passStart hk) h))

theorem scanEnd (h : z.Quiet s) : z.Quiet s.scanEnd := by
  have all : ([Reg.ADC_STAT_scan_busy, Reg.ADC_FLAGS_scan_done].all fun f => resultFields.all fun g => g.key != f.key) = true := by
    decide +kernel
  exact .ite ((h.put (aside_of_all all (.head _)) _).put (aside_of_all all (.tail _ (.head _))) _) h

theorem scanSkip (fuel : Nat) (h : z.Quiet s) : z.Quiet (scanSkip fuel s) := by
  have all : ∀ e < 16, ([Reg.ADC_STAT_scan_entry, Reg.ADC_SCR_raw e, Reg.ADC_SCR_valid e, Reg.ADC_SCR_lp e].all fun f =>
      resultFields.all fun g => g.key != f.key) = true := by decide +kernel
  induction fuel generalizing s with
  | zero => exact h
  | succ fuel ih =>
    unfold Chip.scanSkip
    extract_lets e s1
    split
    next hc =>
      have he : e < 16 := by
        have hlast : s.get Reg.ADC_SCAN_CTL_last < 16 := get_lt s _
        simp only [Bool.and_eq_true, decide_eq_true_eq] at hc
        omega
      have h1 : z.Quiet s1 := h.sets fun p hp => aside_of_all (all e he) (by
        simp only [List.mem_cons, List.not_mem_nil, or_false] at hp
        rcases hp with rfl | rfl | rfl | rfl <;> simp)
      exact ih (scanEnd (h1.same rfl))
    next => exact h

theorem scanStart (h : z.Quiet s) : z.Quiet s.scanStart := by
  have all : ([Reg.ADC_STAT_scan_busy, Reg.ADC_FLAGS_scan_ovr].all fun f => resultFields.all fun g => g.key != f.key) = true := by
    decide +kernel
  have h1 : z.Quiet (s.put Reg.ADC_STAT_scan_busy true) := h.put (aside_of_all all (.head _)) _
  exact .ite h (.ite (record (h.put (aside_of_all all (.tail _ (.head _))) _)) (scanSkip 16 (h1.same rfl)))

end Quiet

/-- The cluster before its pass opens: sampled, the pass that still waited ended, a copied duplex active. -/
def passReady (s : Chip) (k : Nat) : Chip :=
  let s := s.sampleNow k
  let s := if (s.cluster k).inPass && (s.clState k == 2 || s.clState k == 3) then
      (forEach (s.engineSets k) (fun e t => t.skipLists k e) (s.unlimited k)).overrun k
    else s
  let s := if (s.cluster k).duplex == .copied then
      (s.modCl k fun c => { c with duplex := .active }).sets [(Reg.SEQ_STAT_dup k, 1), (Reg.SEQ_FLAGS_dup_ev k, 1)]
    else s
  s.diodePass k

theorem passReady_now (s : Chip) (k : Nat) : (s.passReady k).now = s.now := by
  have hin : s.Inside 1823042 (s.passReady k) := by
    unfold passReady
    extract_lets s1 s2 s3
    have h1 : s.Inside 1823042 s1 := Chip.sampleNow_inside (by rfl) (.refl _ _)
    have h2 : s.Inside 1823042 s2 :=
      .ite (Chip.overrun_inside (by rfl) (.each (Chip.unlimited_inside (by rfl) h1) fun _ _ ht => Chip.skipLists_inside (by rfl) ht)) h1
    exact Chip.diodePass_inside (by rfl) (.ite (Chip.sets_inside (by rfl) (Chip.modCl_inside (by rfl) h2)) h2)
  exact (hin .now rfl).symm

theorem passStart_eq (s : Chip) (k val : Nat) (down peak : Bool) : s.passStart k val down peak =
    ((s.passReady k).passOpen k peak).modCl k fun c => { c with
      inPass := true, peakPass := peak, trigTick := (s.passReady k).now, toReload := (s.passReady k).ticksToReload k val down,
      sampleDue := true, resDue := false } := rfl

theorem passStart_cluster (hs : s.Shaped) (k : Fin 4) (val : Nat) (down peak : Bool) :
    ((s.passStart k val down peak).cluster k).inPass = true ∧ ((s.passStart k val down peak).cluster k).trigTick = s.now ∧
    ((s.passStart k val down peak).cluster k).peakPass = peak := by
  have hlen : k.val < (s.passStart k val down peak).cl.length := Shaped.cl_lt (Chip.passStart_shape (.refl s) hs) k
  rw [passStart_eq] at hlen ⊢
  rw [cluster, modCl, nth_updNth_self _ (lt_of_lt_of_eq hlen (updNth_length ..))]
  exact ⟨rfl, passReady_now s k, rfl⟩

/-- A match of the valley trigger in single update starts a pass. -/
theorem triggerPass_valley {val : Nat} {down : Bool} (hstate : s.clState k ≠ 5) (htype : (s.topo k).type ≠ 0)
    (hrgn : (s.region (rgnOf k)).inReset = false) (hdbl : s.dblOf k = false) :
    s.triggerPass k (s.get (Reg.SEQ_CFG_trig_v k)) val down = s.passStart k val down false := by
  unfold Chip.triggerPass
  simp [hstate, htype, hrgn, hdbl]

/-- What a match leads to in its slice's cluster. -/
def triggered (s : Chip) (n j val : Nat) (down : Bool) : Chip :=
  match s.sliceOwner n with
  | some k => if s.leadSlice k == some n then s.triggerPass k j val down else s
  | none => s

theorem Quiet.triggered {n j val : Nat} {down : Bool} (h : z.Quiet s) : z.Quiet (s.triggered n j val down) := by
  unfold Chip.triggered
  split
  next k hk => exact .ite (h.triggerPass (sliceOwner_lt hk)) h
  next => exact h

theorem triggered_valley {n val : Nat} {down : Bool} (ho : s.sliceOwner n = some k) (hl : s.leadSlice k = some n)
    (hstate : s.clState k ≠ 5) (htype : (s.topo k).type ≠ 0) (hrgn : (s.region (rgnOf k)).inReset = false) (hdbl : s.dblOf k = false) :
    s.triggered n (s.get (Reg.SEQ_CFG_trig_v k)) val down = s.passStart k val down false := by
  unfold Chip.triggered
  rw [ho]
  exact (if_pos (by simp [hl])).trans (triggerPass_valley hstate htype hrgn hdbl)

/-- What starts with a match: the pass, and the scan where it selects this trigger. -/
def matched (s : Chip) (n j val : Nat) (down : Bool) : Chip :=
  let t := (s.setBitOf (Reg.PWM_S_FLAGS_trig n) j).triggered n j val down
  if t.on Reg.ADC_SCAN_CTL_trig_en && t.get Reg.ADC_SCAN_CTL_trig_slice = n && t.get Reg.ADC_SCAN_CTL_trig_cmp = j then t.scanStart
  else t

theorem matched_cl (s : Chip) (n j val : Nat) (down : Bool) : (s.matched n j val down).cl =
    ((s.setBitOf (Reg.PWM_S_FLAGS_trig n) j).triggered n j val down).cl := by
  unfold matched
  extract_lets t
  split
  · exact ((Chip.scanStart_inside (M := 8258) (by rfl) (.refl t _)) .cl rfl).symm
  · rfl

theorem hasBit_matched {n j : Nat} (hn : n < 16) (hj : j < 4) (val : Nat) (down : Bool) :
    hasBit ((s.matched n j val down).get (Reg.PWM_S_FLAGS_trig n)) j = true := by
  have hf : Reg.PWM_S_FLAGS_trig n ∈ resultFields :=
    List.mem_append_left _ (List.mem_append_left _ (List.mem_append_right _ (List.mem_map.2 ⟨n, List.mem_range.2 hn, rfl⟩)))
  have hq : (s.setBitOf (Reg.PWM_S_FLAGS_trig n) j).Quiet (s.matched n j val down) := .ite (Quiet.refl _).triggered.scanStart (Quiet.refl _).triggered
  rw [hq _ hf]
  exact hasBit_get_setBitOf s hj

end Chip

section
variable {s : State} {n : Fin 16} {j : Fin 4} {b : Bool}

theorem triggerMatch_stopped (hd : s.chip.pwr.dieReset = false) (hrun : s.chip.on (Reg.PWM_S_STAT_running n) = false) :
    Completes (.triggerMatch n j b) s [] [] (fun _ => True) := by
  have hx : exec (.triggerMatch n j b) s = s.act fun c => c := State.act_congr (if_pos (by simp [hrun]))
  exact completes_unchanged hx hd rfl

theorem triggerMatch_matched (hd : s.chip.pwr.dieReset = false) (hs : s.chip.Shaped)
    (hrun : s.chip.on (Reg.PWM_S_STAT_running n) = true)
    (hdir : ((s.chip.sl n).trig.getD j (3, 0)).1 = 2 ∨ ((s.chip.sl n).trig.getD j (3, 0)).1 = b2n b)
    (hdown : s.chip.carrierDown n = b)
    (hval : s.chip.carrierVal n = min ((s.chip.sl n).trig.getD j (3, 0)).2 (s.chip.perOf n)) :
    Touches (.triggerMatch n j b) s [.regs, .free, .log, .pwr, .cl, .cle, .adc, .meas, .pos, .slice, .isl, .safe] (fun t =>
      hasBit (t.get (Reg.PWM_S_FLAGS_trig n)) j = true ∧
      ∀ k : Fin 4, s.chip.sliceOwner n = some k.val → s.chip.leadSlice k = some n.val → j.val = s.chip.get (Reg.SEQ_CFG_trig_v k) →
        s.chip.dblOf k = false → s.chip.clState k ≠ 5 → (s.chip.topo k).type ≠ 0 → (s.chip.region (Chip.rgnOf k)).inReset = false →
        (t.cluster k).inPass = true ∧ (t.cluster k).trigTick = s.chip.now ∧ (t.cluster k).peakPass = false) := by
  have hx : exec (.triggerMatch n j b) s = s.act fun c => c.matched n j ((c.sl n).trig.getD j (3, 0)).2 b := by
    refine State.act_congr ?_
    dsimp only
    generalize (s.chip.sl n).trig.getD j (3, 0) = trig at hdir hval ⊢
    have hhalf : (if b = true then trig.1 == 1 || trig.1 == 2 else trig.1 == 0 || trig.1 == 2) = true := by
      rcases hdir with h | h <;> cases b <;> simp [h, b2n]
    exact if_neg (by simp [hrun, hhalf, hdown, hval])
  refine touches_of_inside hx hd (fun _ ht => execTriggerMatch_inside (by rfl) ht) ⟨?_, ?_⟩
  · rw [Chip.settle_get]
    exact Chip.hasBit_matched n.isLt j.isLt _ _
  · intro k ho hl hj hdbl hstate htype hrgn
    rw [Chip.settle_cluster, Chip.cluster_congr (Chip.matched_cl ..), hj]
    set c := s.chip.setBitOf (Reg.PWM_S_FLAGS_trig n) (s.chip.get (Reg.SEQ_CFG_trig_v k)) with hc
    have hget : ∀ f : Field, f.lsb = 0 ∨ f.key < 0x41000000 * 32 → c.get f = s.chip.get f := fun f hf =>
      Chip.get_setBitOf_other _ (by
        simp only [Field.key, Reg.PWM_S_FLAGS_trig] at hf ⊢
        omega) _
    have htrig : c.get (Reg.SEQ_CFG_trig_v k) = s.chip.get (Reg.SEQ_CFG_trig_v k) := hget _ (.inr (by
      simp only [Field.key, Reg.SEQ_CFG_trig_v]
      omega))
    have hcl : c.clState k = s.chip.clState k := hget _ (.inr (by
      simp only [Field.key, Reg.SEQ_STAT_state]
      omega))
    have hdbl' : c.dblOf k = false := by
      rw [Chip.dblOf, Chip.on_eq, hget _ (.inl rfl), ← Chip.on_eq]
      exact hdbl
    rw [← htrig, Chip.triggered_valley (s := c) ho hl (by rwa [hcl]) htype hrgn hdbl']
    exact Chip.passStart_cluster (Chip.setBitOf_shape (.refl s.chip) hs) k _ _ _

end

end Sys2Proof.Machine
end

section
/-! The results of a pass (R229, R236, R241, R242, R248). -/

namespace Sys2Proof.Machine

namespace Chip

variable {s : Chip} {k b i : Nat}

/-! ### A list of slots gets its results -/

section
variable {f : Nat → Chip → Chip} {l : List Nat}

/-- The effect that delivers one slot's result. -/
abbrev Delivers (k b : Nat) (f : Nat → Chip → Chip) : Prop := ∀ i t, Delivered k b i t (f i t)

theorem Delivers.length (hf : Delivers k b f) (s : Chip) : (forEach l f s).meas.length = s.meas.length :=
  forEach_preserves (P := fun t : Chip => t.meas.length = s.meas.length) (fun j _ t ht => (hf j t).length.trans ht) rfl

/-- The slots awaited afterwards were awaited before. -/
theorem Delivers.waiting_subset (hf : Delivers k b f) (hk : k < s.meas.length) {q : Nat × Nat}
    (hq : q ∈ ((forEach l f s).measS k).waiting) : q ∈ (s.measS k).waiting := by
  refine forEach_preserves (P := fun t : Chip => t.meas.length = s.meas.length ∧ (q ∈ (t.measS k).waiting → q ∈ (s.measS k).waiting))
    (fun j _ t ht => ⟨(hf j t).length.trans ht.1, fun hj => ht.2 ?_⟩) ⟨rfl, id⟩ |>.2 hq
  rw [(hf j t).waiting (ht.1 ▸ hk)] at hj
  exact List.mem_of_mem_filter hj

/-- A slot of the list is awaited no longer. -/
theorem Delivers.not_waiting (hf : Delivers k b f) (hk : k < s.meas.length) (hi : i ∈ l) :
    (i, b) ∉ ((forEach l f s).measS k).waiting := by
  refine forEach_establishes (P := fun t : Chip => k < t.meas.length → (i, b) ∉ (t.measS k).waiting) hi (fun t hlen => ?_)
    (fun j _ t ht hlen hj => ?_) (by rwa [hf.length])
  · rw [(hf i t).waiting ((hf i t).length ▸ hlen)]
    simp
  · rw [(hf j t).waiting ((hf j t).length ▸ hlen)] at hj
    exact ht ((hf j t).length ▸ hlen) (List.mem_of_mem_filter hj)

/-- The word of a slot that is not of the list stands. -/
theorem Delivers.word (hf : Delivers k b f) (hk : k < s.meas.length) (hi : i ∉ l) :
    (forEach l f s).rbGet k (b + 1 + i) = s.rbGet k (b + 1 + i) := by
  refine (forEach_preserves (P := fun t : Chip => t.meas.length = s.meas.length ∧ t.rbGet k (b + 1 + i) = s.rbGet k (b + 1 + i))
    (fun j hj t ht => ⟨(hf j t).length.trans ht.1, ((hf j t).word (ht.1 ▸ hk) _ ?_).trans ht.2⟩) ⟨rfl, rfl⟩).2
  have hne : i ≠ j := fun h => hi (h ▸ hj)
  omega

end

theorem sdDead_delivered (s : Chip) (k i b : Nat) : Delivered k b i s (s.sdDead k i b) := by
  unfold Chip.sdDead
  extract_lets m
  exact (deliver_delivered ..).of_meas (meas_of_inside (M := 2) rfl (Chip.sets_inside (by rfl) (.refl s _)))

theorem sarDelivers_shown {l : List Nat} (hk : k < 4) (hlen : k < s.meas.length) (hi : i < 28) (hl : i ∈ l) (code : Nat → Nat) :
    SarShown k b i (4 * code i) (forEach l (fun j t => t.sarDeliver k j b (code j)) s) := by
  have hf : Delivers k b fun j t => t.sarDeliver k j b (code j) := fun j t => sarDeliver_delivered t k j b (code j)
  refine forEach_establishes (P := fun t : Chip => k < t.meas.length → SarShown k b i (4 * code i) t) hl (fun t ht => ?_)
    (fun j _ t ht hj => ?_) (by rwa [hf.length])
  · exact sarDeliver_shown hk ((hf i t).length ▸ ht) hi _
  · have hlt : k < t.meas.length := (hf j t).length ▸ hj
    by_cases h : j = i
    · exact h ▸ sarDeliver_shown hk hlt (h ▸ hi) _
    · unfold SarShown
      rw [(hf j t).word hlt _ (by omega), (Quiet.refl t).sarDeliver hk |>.sarOk (sarDeliver_pwr ..) hk hi]
      exact ht hlt

/-! ### The voltages of the SAR slots -/

/-- The slots of the present pass that are awaited. -/
def awaitedNow (s : Chip) (k : Nat) : List Nat :=
  ((s.measS k).waiting.filter fun p => p.2 = (s.measS k).base).map (·.1)

/-- Those of the SAR converters. -/
def awaitedSar (s : Chip) (k : Nat) : List Nat := (s.awaitedNow k).filter fun i => s.slotPath k i = 0

/-- The 14-bit pattern of a slot's voltage. -/
def codeOf (vin : List (Fin 28 × Fin 4194304)) (r : Fin 4194304) (i : Nat) : Nat :=
  match vin.find? fun p => p.1.val = i with
  | some p => sarCode p.2 r
  | none => 0

/-- The voltage of the reference is shown where a SAR slot is awaited. -/
def sarReady (s : Chip) (k : Nat) (r : Fin 4194304) : Chip :=
  if (s.awaitedSar k).isEmpty then s else s.refShown ((s.cluster k).trigTick + 1) r

theorem sarReady_meas (s : Chip) (k : Nat) (r : Fin 4194304) : (s.sarReady k r).meas = s.meas := by
  unfold sarReady
  split <;> rfl

/-- The SAR results of the pass are written. -/
def sarWritten (s : Chip) (k : Nat) (vin : List (Fin 28 × Fin 4194304)) (r : Fin 4194304) : Chip :=
  forEach (s.awaitedSar k) (fun i t => t.sarDeliver k i (s.measS k).base (codeOf vin r i))
    (s.sarReady k r)

/-- And those of the sigma-delta inputs whose clock does not run. -/
def passWritten (s : Chip) (k : Nat) (vin : List (Fin 28 × Fin 4194304)) (r : Fin 4194304) : Chip :=
  forEach ((s.awaitedNow k).filter fun i => (s.sarWritten k vin r).slotPath k i = 1 &&
      !(s.sarWritten k vin r).sdRuns ((s.sarWritten k vin r).slotUnit k i))
    (fun i t => t.sdDead k i (s.measS k).base) (s.sarWritten k vin r)

theorem mem_awaitedNow : i ∈ s.awaitedNow k ↔ (i, (s.measS k).base) ∈ (s.measS k).waiting := by
  simp [awaitedNow]

theorem mem_awaitedSar : i ∈ s.awaitedSar k ↔ (i, (s.measS k).base) ∈ (s.measS k).waiting ∧ s.slotPath k i = 0 := by
  rw [awaitedSar, List.mem_filter, mem_awaitedNow, decide_eq_true_eq]

section
variable {vin : List (Fin 28 × Fin 4194304)} {r : Fin 4194304}

theorem sarWritten_quiet (hk : k < 4) : s.Quiet (s.sarWritten k vin r) :=
  .each (.ite (.refl s) (.same (.refl s) rfl)) fun _ _ _ ht => ht.sarDeliver hk

theorem sarWritten_pwr (s : Chip) (k : Nat) : (s.sarWritten k vin r).pwr = s.pwr :=
  forEach_preserves (P := fun t : Chip => t.pwr = s.pwr) (fun _ _ _ ht => (sarDeliver_pwr ..).trans ht)
    (by unfold sarReady; split <;> rfl)

/-- A slot that awaited a SAR result shows it. -/
theorem passWritten_shown (hk : k < 4) (hlen : k < s.meas.length) (hi : i < 28) (hin : i ∈ s.awaitedSar k) :
    (s.passWritten k vin r).rbGet k ((s.measS k).base + 1 + i) / 65536 = (if s.sarOk k i then 4 * codeOf vin r i else 0) ∧
    hasBit ((s.passWritten k vin r).rbGet k ((s.measS k).base + 1 + i)) 7 = s.sarOk k i := by
  have hmeas := s.sarReady_meas k r
  have hshown : SarShown k (s.measS k).base i (4 * codeOf vin r i) (s.sarWritten k vin r) :=
    sarDelivers_shown hk (hmeas ▸ hlen) hi hin _
  have hlen' : k < (s.sarWritten k vin r).meas.length := by
    rw [sarWritten, Delivers.length fun j t => sarDeliver_delivered t k j _ _, hmeas]
    exact hlen
  have hpath : (s.sarWritten k vin r).slotPath k i = 0 := ((sarWritten_quiet hk).slotPath hk hi).trans (mem_awaitedSar.1 hin).2
  rw [SarShown, (sarWritten_quiet hk).sarOk (sarWritten_pwr s k) hk hi] at hshown
  rw [passWritten, Delivers.word (fun j t => sdDead_delivered t k j _) hlen' (by simp [hpath])]
  exact hshown

/-- No SAR slot of the pass is awaited any more. -/
theorem passWritten_waiting (hlen : k < s.meas.length) {q : Nat × Nat} (hq : q ∈ ((s.passWritten k vin r).measS k).waiting) :
    q.2 ≠ (s.measS k).base ∨ s.slotPath k q.1 ≠ 0 := by
  have hmeas := s.sarReady_meas k r
  have hsar : Delivers k (s.measS k).base fun i t => t.sarDeliver k i (s.measS k).base (codeOf vin r i) :=
    fun j t => sarDeliver_delivered t k j _ _
  have hlen' : k < (s.sarWritten k vin r).meas.length := by
    rw [sarWritten, hsar.length, hmeas]
    exact hlen
  have hq1 : q ∈ ((s.sarWritten k vin r).measS k).waiting := Delivers.waiting_subset (fun j t => sdDead_delivered t k j _) hlen' hq
  by_contra hcon
  obtain ⟨hbase, hpath⟩ := not_or.1 hcon
  simp only [ne_eq, not_not] at hbase hpath
  obtain ⟨i, b⟩ := q
  obtain rfl : b = (s.measS k).base := hbase
  have hq0 := hsar.waiting_subset (hmeas ▸ hlen) hq1
  rw [measS_congr hmeas] at hq0
  exact hsar.not_waiting (hmeas ▸ hlen) (mem_awaitedSar.2 ⟨hq0, hpath⟩) hq1

end

theorem path_ne_evalFields (k i : Nat) : ∀ n < 2, ∀ g ∈ evalFields n, (Reg.ADC_C_SLOT_path k i).key ≠ g.key := by
  have all : ∀ n < 2, ((evalFields n).all fun g => g.key % 32 != 10 || decide (g.key < 0x41201000 * 32)) = true := by decide +kernel
  have hpath : (Reg.ADC_C_SLOT_path k i).key % 32 = 10 ∧ 0x41201000 * 32 ≤ (Reg.ADC_C_SLOT_path k i).key := by
    simp only [Field.key, Reg.ADC_C_SLOT_path]
    omega
  intro n hn g hg h
  have hout : g.key % 32 ≠ 10 ∨ g.key < 0x41201000 * 32 := by simpa using List.all_eq_true.1 (all n hn) g hg
  omega

/-- The sample tick leaves the path of every slot alone. -/
theorem slotPath_sampleNow (s : Chip) (k i : Nat) : (s.sampleNow k).slotPath k i = s.slotPath k i :=
  get_sampleNow s k (path_ne_evalFields k i)

theorem sampleNow_pwr (s : Chip) (k : Nat) : (s.sampleNow k).pwr = s.pwr :=
  ((Chip.sampleNow_inside (M := 53314) (by rfl) (.refl s _)) .pwr rfl).symm

theorem sampleNow_adc (s : Chip) (k : Nat) : (s.sampleNow k).adc = s.adc :=
  ((Chip.sampleNow_inside (M := 53314) (by rfl) (.refl s _)) .adc rfl).symm

theorem Shaped.meas_lt (hs : s.Shaped) (k : Fin 4) : k.val < s.meas.length := by
  rw [hs.meas]
  exact k.isLt

end Chip

section
variable {s : State} {k : Fin 4} {u : Upset}

theorem sarResultWrite_shown (hd : s.chip.pwr.dieReset = false) (hs : s.chip.Shaped) {vin : List (Fin 28 × Fin 4194304)}
    {r : Fin 4194304} {i : Nat} (hw : (i, (s.chip.measS k).base) ∈ (s.chip.measS k).waiting) (hi : i < 28)
    (hpath : s.chip.slotPath k i = 0) :
    Touches (.sarResultWrite k ⟨vin, r⟩ u) s [.regs, .free, .log, .pwr, .cl, .adc, .meas, .pos, .cle, .slice, .isl, .safe, .chm]
      (fun t => (∀ q ∈ (t.measS k).waiting, q.2 ≠ (s.chip.measS k).base ∨ s.chip.slotPath k q.1 ≠ 0) ∧
        t.rbGet k ((s.chip.measS k).base + 1 + i) / 65536 = (if s.chip.sarOk k i then 4 * Chip.codeOf vin r i else 0) ∧
        hasBit (t.rbGet k ((s.chip.measS k).base + 1 + i)) 7 = s.chip.sarOk k i) := by
  set c := s.chip.sampleNow k with hc
  have hbanks : Chip.Banks k (s.chip.measS k).base s.chip c := .sampleNow s.chip
  have hbase := hbanks.base
  have hpaths : ∀ j, c.slotPath k j = s.chip.slotPath k j := Chip.slotPath_sampleNow s.chip k
  have hin : i ∈ c.awaitedSar k := Chip.mem_awaitedSar.2 ⟨by rwa [hbanks.waiting, hbase], (hpaths i).trans hpath⟩
  have hlen : k.val < c.meas.length := Chip.Shaped.meas_lt (Chip.sampleNow_shape (.refl s.chip) hs) k
  have hok : c.sarOk k i = s.chip.sarOk k i := (Chip.Quiet.refl s.chip).sampleNow.sarOk (Chip.sampleNow_pwr ..) k.isLt hi
  have hx : exec (.sarResultWrite k ⟨vin, r⟩ u) s = s.act fun x =>
      ((x.sampleNow k).passWritten k vin r).resultsIn k ((x.sampleNow k).measS k).base u 42
        (((x.sampleNow k).passWritten k vin r).get (Reg.SEQ_CFG_isrc k) == 0 ||
          !((x.sampleNow k).passWritten k vin r).sdAwaited k ((x.sampleNow k).measS k).base) := by
    have hsome : (c.awaitedSar k).isEmpty = false := List.isEmpty_eq_false_iff.2 (List.ne_nil_of_mem hin)
    refine State.act_congr (if_neg ?_)
    change ¬(!(c.cluster k).inPass && (c.awaitedSar k).isEmpty) = true
    rw [hsome, Bool.and_false]
    exact Bool.false_ne_true
  refine touches_of_inside hx hd (fun _ ht => execSarResultWrite_inside (by rfl) ht) ?_
  have hword : (s.chip.measS k).base + 1 + i ≠ (s.chip.measS k).base + 29 := by omega
  have hend := Chip.Banks.resultsIn (k := k) (b := (s.chip.measS k).base) (c.passWritten k vin r) u 42
    ((c.passWritten k vin r).get (Reg.SEQ_CFG_isrc k) == 0 || !(c.passWritten k vin r).sdAwaited k (s.chip.measS k).base)
  have hshown := Chip.passWritten_shown (vin := vin) (r := r) k.isLt hlen hi hin
  rw [hbase, hok] at hshown
  rw [← hc, hbase, Chip.rbGet_congr (Chip.settle_meas _), Chip.measS_congr (Chip.settle_meas _), hend.word _ hword, hend.waiting]
  refine ⟨fun q hq => ?_, hshown⟩
  rw [← hbase, ← hpaths]
  exact Chip.passWritten_waiting hlen hq

end

namespace Chip

variable {s : Chip} {k m b i : Nat}

/-- The result of input m is shown, and written for the slot of the pass that awaits it. -/
def sdWritten (s : Chip) (k m i b raw : Nat) (ok : Bool) : Chip :=
  (s.sets [(Reg.SD_RES_raw m, raw), (Reg.SD_RES_valid m, b2n ok)]).deliver k i b raw ok (clipRaw raw) false
    ((s.sets [(Reg.SD_RES_raw m, raw), (Reg.SD_RES_valid m, b2n ok)]).passNr k b)

theorem sdResult_mem (hm : m < 12) : Reg.SD_RES_raw m ∈ resultFields ∧ Reg.SD_RES_valid m ∈ resultFields := by
  have hin : ∀ f ∈ [Reg.SD_RES_raw m, Reg.SD_RES_valid m], f ∈ resultFields := fun f hf =>
    List.mem_append_left _ (List.mem_append_left _ (List.mem_append_left _ (List.mem_flatMap.2 ⟨m, List.mem_range.2 hm, hf⟩)))
  exact ⟨hin _ (.head _), hin _ (.tail _ (.head _))⟩

theorem get_sdWritten (hk : k < 4) (hm : m < 12) {raw : Nat} (hraw : raw < 2 ^ 16) (ok : Bool) :
    (s.sdWritten k m i b raw ok).get (Reg.SD_RES_raw m) = raw ∧ (s.sdWritten k m i b raw ok).get (Reg.SD_RES_valid m) = b2n ok := by
  have hpair : ([(Reg.SD_RES_raw m, raw), (Reg.SD_RES_valid m, b2n ok)].map Prod.fst).Pairwise fun f g => f.key ≠ g.key := by
    simp [Field.key, Reg.SD_RES_raw, Reg.SD_RES_valid]
  obtain ⟨hr, hv⟩ := sdResult_mem hm
  unfold sdWritten
  rw [(Quiet.refl _).deliver hk _ hr, (Quiet.refl _).deliver hk _ hv, get_sets_mem s (.head _) hpair,
    get_sets_mem s (.tail _ (.head _)) hpair]
  exact ⟨Nat.mod_eq_of_lt hraw, Nat.mod_eq_of_lt (show b2n ok < 2 ^ 1 by cases ok <;> decide)⟩

theorem sdWritten_delivered (s : Chip) (k m i b raw : Nat) (ok : Bool) : Delivered k b i s (s.sdWritten k m i b raw ok) :=
  (deliver_delivered ..).of_meas (meas_of_inside (M := 2) rfl (Chip.sets_inside (by rfl) (.refl s _)))

theorem sdRaw_lt (y d : Nat) : sdRaw y d < 2 ^ 16 := by
  unfold sdRaw unsgn
  extract_lets c x v
  omega

end Chip

section
variable {s : State} {k : Fin 4} {m : Fin 12} {bits : List Bool} {b : Bool} {u : Upset}

theorem sdResultWrite_stopped (hd : s.chip.pwr.dieReset = false) (hrun : s.chip.sdRuns m = false) :
    Completes (.sdResultWrite m bits b u) s [] [] (fun _ => True) := by
  have hx : exec (.sdResultWrite m bits b u) s = s.act fun c => c := by
    refine State.act_congr ?_
    dsimp only
    split
    · rfl
    split
    · rfl
    · exact if_pos (by simp [hrun])
  exact completes_unchanged hx hd rfl

theorem sdResultWrite_shown (hd : s.chip.pwr.dieReset = false) (hs : s.chip.Shaped) (hrun : s.chip.sdRuns m = true)
    (hown : ((List.range 4).find? fun c => hasBit (s.chip.topo c).sd m) = some k.val) (hlen : bits.length + 1 = 3 * s.chip.sdDec m)
    {p : Nat × Nat}
    (hp : ((s.chip.measS k).waiting.find? fun p => s.chip.slotPath k p.1 = 1 && s.chip.slotUnit k p.1 = m) = some p)
    (hdue : s.chip.now = s.chip.sdDueTick k m p.2) :
    Touches (.sdResultWrite m bits b u) s [.regs, .free, .log, .pwr, .cl, .meas, .pos, .cle, .slice, .isl, .safe, .chm] (fun t =>
      t.get (Reg.SD_RES_raw m) =
        (if s.chip.pwr.vddaOk = true then Chip.sdRaw (Chip.sinc3 (s.chip.sdDec m) (bits ++ [b])) (s.chip.sdDec m) else 0) ∧
      t.get (Reg.SD_RES_valid m) = b2n (!hasBit s.chip.adc.sdStuck m && s.chip.pwr.vddaOk) ∧ p ∉ (t.measS k).waiting) := by
  obtain ⟨i, base⟩ := p
  set c := s.chip.sampleNow k with hc
  set raw := if s.chip.pwr.vddaOk = true then Chip.sdRaw (Chip.sinc3 (s.chip.sdDec m) (bits ++ [b])) (s.chip.sdDec m) else 0 with hraw
  set ok := !hasBit s.chip.adc.sdStuck m && s.chip.pwr.vddaOk with hok
  have hlt : raw < 2 ^ 16 := by
    rw [hraw]
    split
    · exact Chip.sdRaw_lt ..
    · decide
  have hmeas : k.val < c.meas.length := Chip.Shaped.meas_lt (Chip.sampleNow_shape (.refl s.chip) hs) k
  have hx : exec (.sdResultWrite m bits b u) s = s.act fun x =>
      ((x.sampleNow k).sdWritten k m i base raw ok).resultsIn k base u
        (max 42 (((x.sampleNow k).sdWritten k m i base raw ok).now - (((x.sampleNow k).sdWritten k m i base raw ok).cluster k).trigTick))
        (((x.sampleNow k).sdWritten k m i base raw ok).get (Reg.SEQ_CFG_isrc k) == 1 &&
          !((x.sampleNow k).sdWritten k m i base raw ok).sdAwaited k base) := by
    refine State.act_congr ?_
    dsimp only
    rw [hown]
    dsimp only
    rw [hp]
    refine (if_neg (by simp [hrun, hlen, hdue])).trans ?_
    rw [hraw, hok, ← Chip.sampleNow_pwr s.chip k, ← Chip.sampleNow_adc s.chip k]
    rfl
  refine touches_of_inside hx hd (fun _ ht => execSdResultWrite_inside (by rfl) ht) ?_
  obtain ⟨hr, hv⟩ := Chip.sdResult_mem m.isLt
  obtain ⟨hgetRaw, hgetValid⟩ := Chip.get_sdWritten (s := c) (i := i) (b := base) k.isLt m.isLt hlt ok
  have hdel := Chip.sdWritten_delivered c k m i base raw ok
  rw [← hc]
  generalize c.sdWritten k m i base raw ok = t at hgetRaw hgetValid hdel ⊢
  have hquiet : ∀ inp loop, t.Quiet (t.resultsIn k base u inp loop) := fun _ _ => (Chip.Quiet.refl t).resultsIn k.isLt
  rw [Chip.settle_get, Chip.settle_get, Chip.measS_congr (Chip.settle_meas _), hquiet _ _ _ hr, hquiet _ _ _ hv,
    (Chip.Banks.resultsIn ..).waiting, hdel.waiting hmeas]
  exact ⟨hgetRaw, hgetValid, by simp⟩

end

/-- Settles O44, one lemma per clause. -/
theorem passesTakeTheirResults : Obligations.PassesTakeTheirResults := by
  unfold Obligations.PassesTakeTheirResults
  intro s n j k vin r m b bits u hd hs
  refine ⟨triggerMatch_stopped hd, fun hrun hdir hdown hval => ?_, fun p hp hbase hi hpath x hx => ?_, sdResultWrite_stopped hd,
    fun hrun hown hlen p hp hdue => ?_⟩
  · exact (triggerMatch_matched hd hs hrun hdir hdown hval).imp fun t ht => ⟨ht.1, ht.2 k⟩
  · obtain ⟨i, base⟩ := p
    obtain rfl : base = (s.chip.measS k).base := hbase
    have hcode : Chip.codeOf vin r i = Chip.sarCode x.2 r := by
      rw [Chip.codeOf, Option.mem_toList.1 hx]
    refine (sarResultWrite_shown hd hs hp hi hpath).imp fun t ⟨hwait, hword, hvalid⟩ => ⟨?_, fun hvdda hen => ?_, fun hvdda => ?_⟩
    · simpa [List.all_eq_true] using hwait
    · have hok : s.chip.sarOk k i = true := by rw [Chip.sarOk, hvdda, hen]; rfl
      rw [hword, hvalid, hok, hcode]
      exact ⟨rfl, rfl⟩
    · have hok : s.chip.sarOk k i = false := by rw [Chip.sarOk, hvdda]; rfl
      rw [hword, hvalid, hok]
      exact ⟨rfl, rfl⟩
  · exact sdResultWrite_shown hd hs hrun hown hlen (Option.mem_toList.1 hp) hdue

end Sys2Proof.Machine
end
